-- ==== Sys2Proof/Syntax.lean ====
section
/-! DEFINITION. The operations and events of the block as data: one constructor per row of spec/opcode_table.json,
and the types of their operands. The table names no operands; an operand is either the unit the row acts on (a channel,
a loop, a leg), the data a bus master, a host or a tool supplies, or what the surroundings show the block (a sample,
a pin level, the outcome of a cryptographic check of bytes the model does not hold). -/

namespace Sys2Proof

/-- Who issues a bus access (R30, R36). `pair p` is the checked output of Spindle pair p (0 = A, 1 = B);
`core c` is a core's own, uncompared access (A0, A1, B0, B1). -/
inductive Master where
  | pair (p : Fin 2) | core (c : Fin 4) | reel | tinder | debug | loader | transfer | afeWriter | daq
  | can (n : Fin 4) | ashWriter | whorlLoader
  deriving DecidableEq, Repr

/-- The two dies of the package. -/
inductive Die where
  | control | power
  deriving DecidableEq, Repr

/-- What the check bits of an ECC word say when it is read, R541: good, one bit wrong, more than one bit wrong.
Poison is the model's own state and needs no operand. -/
inductive Syndrome where
  | clean | single | multi
  deriving DecidableEq, Repr

/-- An interface a component provides or requires, R78. -/
structure Iface where
  num : Nat
  major : Nat
  minor : Nat
  deriving DecidableEq, Repr

/-- The header of a Skein (R76) with what Tinder's check of its signature block found (R77). -/
structure Header where
  magic : Nat := 0x534B4531
  formatRev : Nat := 1
  nDesc : Nat := 1
  flags : Nat := 0
  secVersion : Nat := 0
  deviceBind : Nat := 0
  lifecycleMask : Nat := 0
  flashMin : Nat := 0
  sigAlg : Nat := 1
  keyIndex : Nat := 0
  startTimeout : Nat := 0
  sysHash : Nat := 0
  reservedZero : Bool := true
  keyHash : Nat := 0
  sigOk : Bool := true
  deriving DecidableEq, Repr

/-- A component descriptor (R78) with the outcome of its signature check. -/
structure Descriptor where
  type : Nat
  inst : Nat := 0
  flags : Nat := 0
  flashOffset : Nat := 0x50000
  slotLen : Nat := 0x10000
  len : Nat := 4096
  loadAddr : Nat := 0
  version : Nat := 0
  secVersion : Nat := 0
  hash : Nat := 0
  provides : List Iface := []
  requires : List Iface := []
  reservedZero : Bool := true
  sigOk : Bool := true
  deriving DecidableEq, Repr

/-- A loop declaration of the system record, as far as the loader's checks use it (R12, R37): the Whorl, the start offset,
budget, output phase and nominal period in CTLCLK cycles. -/
structure LoopDecl where
  whorl : Nat
  startOffset : Nat
  budget : Nat
  outPhase : Nat
  period : Nat
  timed : Bool := true
  wcet : Nat := 0
  usedInCharge : Bool := false
  deriving DecidableEq, Repr

/-- A task of the system record (R16): the pair it runs on and whether it needs a checked pair. -/
structure TaskDecl where
  pair : Nat
  needsChecked : Bool
  deriving DecidableEq, Repr

/-- Where the Skein sends a Whorl output port (R169, R233): a leg's CMP_A, or its CMP_B. -/
structure OutDest where
  whorl : Nat
  port : Nat
  leg : Nat
  cmpB : Bool := false
  deriving DecidableEq, Repr

/-- A sample of a fast channel as its slot's slice converted it (R122): the slot, the raw 14-bit code, its weight in
eighths of 10 ns (R138), and whether the conversion timed out (R123). -/
structure RawSample where
  slot : Fin 8
  raw : BitVec 14
  weight : Fin 9 := 0
  timedOut : Bool := false
  deriving DecidableEq, Repr

/-- What the skew estimator accumulated on a slot during a step (R131): Σ e·d, Σ d², Σ 1; in 1/16 code units. -/
structure SlotSkew where
  slot : Fin 8
  num : Int
  den : Int
  count : Nat
  deriving DecidableEq, Repr

/-- A housekeeping conversion slot (R156): an HK input's code; one conversion of a twin tap with the point value the AFE
interpolated at its strobe, in 1/16 code, absent where that point is not valid (R157); or a reference conversion at
0 %, +75 % or −75 %. -/
inductive HkSlot where
  | input (i : Fin 64) (code : BitVec 12)
  | twin (ch : Fin 48) (code : BitVec 12) (fa : Option Int)
  | reference (conv : Fin 4) (r : Fin 3) (code : BitVec 12)
  deriving DecidableEq, Repr

/-- A write that belongs in the coefficient queue (R176): a word of the coefficient region, or a table descriptor. -/
inductive CoefWrite where
  | coef (word : Fin 16384) (value : Word)
  | table (t : Fin 16) (value : Word)
  deriving DecidableEq, Repr

/-- A slice's foreground calibration result (R134). -/
structure SliceCal where
  ch : Fin 48
  slice : Fin 9
  ofs : Int
  gain : Nat
  deriving DecidableEq, Repr

/-- A memory the scrubber visits (R547). -/
inductive ScrubMem where
  | bank (b : Fin 16) | tcm (c : Fin 4) | whorl (w : Fin 8) | mram
  deriving DecidableEq, Repr


/-- A frame of a serial sensor as the pins showed it (R272, R273): the data bits as a number, whether the line kept the
rules, and for BiSS-C the bits nE, nW and the received CRC. -/
structure SerFrame where
  data : Nat
  rulesOk : Bool := true
  ne : Bool := true
  nw : Bool := true
  crc : BitVec 6 := 0
  deriving DecidableEq, Repr

/-- A serial message that a SENT frame's status bits complete (R274): enhanced or short, ID, data, CRC good. -/
structure SlowMsg where
  enh : Bool
  id : BitVec 8
  data : BitVec 16
  crcOk : Bool
  deriving DecidableEq, Repr

/-- A unit of the Flyer whose EN is cleared (R296). -/
inductive FlyUnit where
  | source (s : Fin 14) | tracker (m : Fin 2) | compare (c : Fin 8) | emulation (e : Fin 2)
  deriving DecidableEq, Repr

/-- How far the trackers' last step and each machine's last back-EMF update lie before an instant, in 1.25 ns (R279). -/
structure SnapAge where
  trk : Nat := 0
  emf0 : Nat := 0
  emf1 : Nat := 0
  deriving DecidableEq, Repr

/-- A winding set as the standard machine supervision knows it (R298, R305 to R312): its protection set, Whorl, loop and
machine; T_MAX, I_LIM, KVLIM, the flux at the tables' end and PSI_COLD in Q2.29; 1.5·p·ψ and 1.5·p·(L_d − L_q) in 2^-16;
the tables of 33 × 33 entries, torque outermost. -/
structure SetPar where
  pset : Nat
  whorl : Nat
  loop : Nat := 0
  mach : Nat := 0
  tMax : Nat := 0
  iLim : Nat := 0
  kvlim : Nat := 0
  fluxMax : Nat := 0
  psiCold : Nat := 0
  kPsi : Int := 0
  kRel : Int := 0
  idTbl : List Int := []
  iqTbl : List Int := []
  deriving DecidableEq, Repr

/-- A machine's parameters (R309 to R317, R324, R325): speeds in 2^-45 per unit, acceleration and jerk per task of 100 µs;
gains in 2^-16; torque and power in Q2.29; LTO_BW in Hz, LTO_FF in 1/256, the inertia in 2^-16 s per unit; SHOCK_HOLD and
BRAKE_T in ms, CATCH_T in 0.1 ms. -/
structure MachPar where
  speedMode : Bool := false
  winch : Bool := false
  aMax : Nat := 0
  jMax : Nat := 0
  aStop : Nat := 0
  jStop : Nat := 0
  kp : Int := 0
  ki : Int := 0
  tLim : Nat := 0
  slew : Nat := 0
  ltoBw : Nat := 30
  ltoFf : Nat := 256
  inertia : Nat := 65536
  shockThr : Nat := 0
  shockHold : Nat := 200
  catchT : Nat := 30
  pRegen : Nat := 0
  stopSpeed : Nat := 0
  brakeSpeed : Nat := 0
  brakeT : Nat := 150
  deriving DecidableEq, Repr

/-- The parameters of the standard supervisions in pair A (R305 to R328, R479): factors in 1/128, W_SET in 2^-16, times as
named, RESUME_RAMP per task of a set's torque limit, the link's HK input and its voltage per code in Q2.29. -/
structure SupPar where
  machs : List MachPar := []
  sets : List SetPar := []
  wSet : Nat := 32768
  splitTotal : Bool := false
  resumeRamp : Nat := 0
  derateFac : Nat := 128
  limpFac : Nat := 128
  emrEn : Bool := false
  emrT : Nat := 300
  emrExitMs : Nat := 2000
  lossAct : Nat := 0
  tqLossMs : Nat := 200
  hostClass : Nat := 1
  aliveGap : Nat := 3
  linkHk : Nat := 0
  hkGain : Nat := 0
  deriving DecidableEq, Repr

/-- What the supervision task reads from the surroundings (R324): the link cannot accept regenerative power; the brake
feedback shows the brake closed; the load observer reports a suspended load. -/
structure SupIn where
  linkFull : Bool := false
  brakeClosed : Bool := false
  suspended : Bool := false
  deriving DecidableEq, Repr
/-- What a pre-driver reports of its own gate sense over the link (R334): a refusal of the turn-on because the opposite gate did
not show off, one because the gate did not show on, a gate on while commanded off; `high` is the gate. -/
inductive GateReport where
  | refusedOff (high : Bool) | refusedOn (high : Bool) | uncommanded (high : Bool)
  deriving DecidableEq, Repr

/-- Causes of the actuator latches that are present at a rising edge of ACT_EN (R339): bridge masks; supply and
over-temperature for all bridges. -/
structure LatchCauses where
  boot : BitVec 12 := 0
  ocH : BitVec 12 := 0
  ocL : BitVec 12 := 0
  gate : BitVec 12 := 0
  supply : Bool := false
  ot : Bool := false
  deriving DecidableEq, Repr

/-- What the pilot unit measured in a period, or at a steady level (R372): levels in 10 mV, frequency in Hz, duty in 0.1 %. -/
structure PilotIn where
  pwm : Bool
  high : Int
  low : Int
  freq : Nat := 1000
  duty : Nat := 0
  deriving DecidableEq, Repr

/-- What the charging supervision's task reads from the surroundings (R378, R384 to R391): phase voltage, link and 12 V battery
voltages in 0.1 V, 0.1 V and 10 mV, live phases, battery current in 10 mA, V2L output current in 0.1 A, the battery
management's state-of-charge floor, a converter limiter that holds the 12 V current lower, the loop's finding that the battery
is gone. -/
structure ChgIn where
  acV : Nat := 0
  phases : Nat := 0
  linkV : Nat := 0
  battV : Nat := 0
  battI : Int := 0
  v2lI : Nat := 0
  socFloor : Bool := false
  convLimited : Bool := false
  removed : Bool := false
  deriving DecidableEq, Repr

/-- The limits of a battery management frame (R377 to R379, R384, R392): W, 0.1 A, 0.1 V; the pack voltage if it carries one. -/
structure BmsLimits where
  pMax : Nat
  iMax : Nat
  vMax : Nat
  disI : Nat := 0
  packV : Option Nat := none
  deriving DecidableEq, Repr

/-- A current limit that pair B scales by a factor (R399): a coefficient word of a Whorl and its value at factor 1. -/
structure ScaledLimit where
  whorl : Nat
  word : Nat
  value : Nat
  deriving DecidableEq, Repr

/-- The parameters of the standard charging supervision (R375 to R392): CHG_VENT_OK, OBC_I_MAX, HV_MAX, the V2L limits, the
sensor of the 12 V battery, and the coefficient words its limits go to: in Whorl 4 P_LIM and the output voltage, in Whorl 5 the
12 V voltage and current. -/
structure ChgPar where
  ventOk : Bool := false
  obcIMax : Nat := 0
  hvMax : Nat := 0
  v2lPMax : Nat := 0
  v2lIMax : Nat := 0
  b12Sensor : Nat := 8
  pWord : Nat := 0
  vWord : Nat := 1
  b12VWord : Nat := 0
  b12IWord : Nat := 1
  actLims : List ScaledLimit := []
  deriving DecidableEq, Repr

/-- A calibration set of the CAL component for one band of a selector (R405): the pair that loads it, tables with the words of
their inactive bank, coefficients of the same batch. -/
structure CalSet where
  sel : Nat
  band : Nat
  pair : Nat := 0
  whorl : Nat
  tables : List (Nat × List Word) := []
  coefs : List (Nat × Word) := []
  deriving DecidableEq, Repr

/-- A die-to-die link frame as it arrives (R23 to R25): the die that receives it, whether its CRC is good, whether its token came
more than 600 ns after the previous one, and the measured delay step. -/
structure LinkFrame where
  die : Die
  crcOk : Bool := true
  late : Bool := false
  trim : Fin 16 := 0
  deriving DecidableEq, Repr

/-- What the flash interface found at a start (R96): a valid SFDP table, log2 of its density, its dummy cycles; reading failed. -/
structure FlashInfo where
  readOk : Bool := true
  sfdpOk : Bool := true
  densityLog2 : Fin 32 := 25
  dummy : Fin 256 := 16
  deriving DecidableEq, Repr

/-- The WRITE_ONCE component (R86): the dead-time floors of the legs, the SPLIT bits, the Kiln's table; absent records. -/
structure WriteOnce where
  dtFloor : Option (List Word) := none
  split : Option (BitVec 2) := none
  kilnTable : Option (List Byte) := none
  deriving DecidableEq, Repr

/-- What the loader read of a component while streaming it (R80, R91, R94): whether the transfer, HASH and TAG are good, and
the plain bytes it delivers; for EMBER_PROG its words. -/
structure Streamed where
  readOk : Bool := true
  hashOk : Bool := true
  tagOk : Bool := true
  data : List Byte := []
  program : List Word := []
  deriving DecidableEq, Repr

/-- A monitored supply (R65): VBAT, VDD_CORE, VDDA, VDD_IO, VDRV. -/
abbrev Supply := Fin 5

/-- What the Kiln finds of the pins at a SAFE_RESET edge (R449): how long the input was low, in ms, and whether STO and brake
feedback agree with their commands. -/
structure ResetEdge where
  lowMs : Nat
  fbOk : Bool := true
  deriving DecidableEq, Repr

/-- What a class 2 cause's clearing depends on that the part does not hold in one place (R43): every cause has been absent for 1 s
with its unit running again or cleared. -/
structure CauseState where
  cleared : Bool := true
  deriving DecidableEq, Repr

/-- What Tinder's engines find of a RESPONSE (R497): the SHA-384 of its public key, its signature, the SHA-256 of its privileged
argument. -/
structure AuthIn where
  keyHash : Nat
  sigOk : Bool
  argHash : Nat := 0
  deriving DecidableEq, Repr

/-- A privileged argument (R487, R489, R492); `level` stands for the three debug levels, which have none. -/
inductive PrivArg where
  | level
  | pwSet (hash : Nat)
  | freshSet (d : Fin 128) (tx : Bool) (value : Nat)
  | lcAdvance (target : Fin 5) (copies : Nat) (erased : Bool)
  | secAdvance (limp : Bool) (value : Nat)
  | keySlot (slot : Fin 4) (roles : Fin 4) (hash : Nat)
  | skeinKey (key : Nat)
  | fuseConfig (jtagOff pwOff : Bool)
  | keyRevoke (slot : Fin 4)
  deriving DecidableEq, Repr

/-- One of the crypto services 0x20 to 0x25 as its engine carried it out (R487): key slot, destination in shared SRAM, result
bytes, and for a check whether it holds. -/
structure ServiceIn where
  slot : Nat := 16
  srcOk : Bool := true
  dst : Nat := 0x10000000
  out : List Byte := []
  ok : Bool := true
  deriving DecidableEq, Repr

/-- One step of an update manifest (R505, R506) with what the checks of its stored bytes find (R514) and the bytes it carries. -/
structure ManStep where
  desc : Descriptor
  act : Bool := false
  migT : Nat := 0
  header : Bool := false
  secHeader : Nat := 0
  hashOk : Bool := true
  tagOk : Bool := true
  data : List Byte := []
  program : List Word := []
  deriving DecidableEq, Repr

/-- An update manifest (R505) with the outcome of the checks that read the flash or the staging region (R510), and the descriptors that
stand in the flash while the limp image runs. -/
structure Manifest where
  formatOk : Bool := true
  sigOk : Bool := true
  downgrade : Bool := false
  seq : Nat := 1
  probT : Nat := 10
  baseOk : Bool := true
  stageOk : Bool := true
  hash : Nat := 0
  flash : List Descriptor := []
  steps : List ManStep := []
  deriving DecidableEq, Repr

/-- A Tinder command as it is carried out (R487, R509), with what its engines find. -/
inductive TndCommand where
  | getInfo
  | challenge (purpose lifetime argHash nonce : Nat)
  | response (a : AuthIn) (arg : PrivArg)
  | password (hash : Nat)
  | close
  | privileged (arg : PrivArg)
  | keyImport (slot : Nat) (key : Nat) (tagOk : Bool)
  | service (code : Nat) (x : ServiceIn)
  | selfTest (ok : Bool)
  | updBegin (x : Manifest)
  | updWrite
  | updActivate
  | updConfirm (advance : Bool)
  | updRevert
  | updStatus
  | bad
  | badSource
  deriving DecidableEq, Repr

/-- A frame as a controller receives it (R459): type, identifier, flags, XL fields, payload. -/
structure RxFrame where
  type : Fin 4 := 0
  id : BitVec 29
  ide : Bool := false
  brs : Bool := false
  esi : Bool := false
  sdt : Byte := 0
  vcid : Byte := 0
  af : Word := 0
  sec : Bool := false
  payload : List Byte := []
  deriving DecidableEq, Repr

/-- A frame that Reel forwards: the controller it goes to and its first two descriptor words. -/
structure Forward where
  ctrl : Fin 4
  w0 : Word
  w1 : Word
  deriving DecidableEq, Repr

/-- How the filter program ended on a record (R463, R476, R478): the class it assigned, the definition it found, whether the MAC of a
secured frame verifies, the freshness value it carries, and the outcome (none delivers to the given pair). -/
structure ReelRun where
  cls : Fin 64 := 0
  dfn : Fin 128 := 0
  macOk : Bool := true
  fresh : Nat := 0
  outcome : Fin 3 := 0
  pair : Fin 2 := 0
  fwd : Forward := ⟨0, 0, 0⟩
  deriving DecidableEq, Repr

/-- Why Reel leaves its run (R462): the run reached REEL_WCET, it trapped, or a fetch was uncorrectable. -/
inductive ReelEnd where
  | wcet | trap | fetch
  deriving DecidableEq, Repr

/-- The host's axle command (R479): authenticated and fresh, alive counter, torques in 2^-16 of the supervision's units, a mode
request. -/
structure AxleCmd where
  auth : Bool := true
  alive : Fin 16
  tAx : Int := 0
  dT : Int := 0
  req : Option (Fin 8) := none
  deriving DecidableEq, Repr

/-- The marine speed command (R479): speeds of machines 0 and 1 in 2^-45 per unit. -/
structure SpeedCmd where
  auth : Bool := true
  alive : Fin 16
  spd0 : Int := 0
  spd1 : Int := 0
  deriving DecidableEq, Repr

/-- The host's charge command (R479, R374): start or stop, and the digital current limit in 0.1 A. -/
structure ChgCmd where
  auth : Bool := true
  alive : Fin 16
  start : Bool
  digital : Nat := 0
  deriving DecidableEq, Repr

/-- A receive definition (R463, R474 to R477): secured with the key of a CMAC slot. -/
structure RxDef where
  secured : Bool := false
  key : Nat := 0
  freshWin : Nat := 4096
  authN : Nat := 8
  ctrl : Nat := 0
  alt : Option Nat := none
  deriving DecidableEq, Repr

/-- A status frame or event frame that Reel sends (R472, R473): controller and alternate, the first two descriptor words, its
dictionary entries, the shared SRAM address of its payload; `stat0` is the standard status frame; `event` is the Ply event of an
event frame. -/
structure TxDef where
  ctrl : Nat := 0
  secured : Bool := false
  key : Nat := 0
  alt : Option Nat := none
  w0 : Word := 0
  w1 : Word := 0
  entries : List Nat := []
  buf : Nat := 0x10000000
  stat0 : Bool := false
  event : Option Nat := none
  deriving DecidableEq, Repr

/-- A traffic class (R478). -/
structure RateClass where
  rate : Nat := 0
  burst : Nat := 0
  prio : Bool := false
  deriving DecidableEq, Repr

/-- Reel's tables (R461 to R478), the frame its DTOs go out in (R481) and the addresses of the two mailboxes. -/
structure ReelPar where
  rx : List RxDef := []
  tx : List TxDef := []
  classes : List RateClass := []
  dto : TxDef := {}
  mbxA : Nat := 0x10000000
  mbxB : Nat := 0x10004000
  deriving DecidableEq, Repr

/-- What the Skein's system record says for field update (R505, R516 to R518, UPD registers). -/
structure UpdPar where
  iMax : Nat := 0
  tol : Nat := 0
  hoTag : Nat := 0
  stageBase : Nat := 0
  stageSize : Nat := 0
  deriving DecidableEq, Repr

/-- One entry of an XCP DAQ list and where it may go. -/
structure DaqPtr where
  list : Nat
  odt : Nat
  entry : Nat
  deriving DecidableEq, Repr

/-- A core of a pair. -/
abbrev Core := Fin 4

/-- A record or an input of a core, as the pair's checkpoint buffers hold it (R407, R408): address, access width in bytes, value. -/
structure CoreStore where
  addr : Word
  size : Fin 9 := 4
  value : BitVec 64 := 0
  deriving DecidableEq, Repr

/-- What a pair's own checks find at a comparison or at an entry of its buffers (R416, R418): nothing, a corrected error, an
uncorrectable record, a pointer parity error, halves that disagree. -/
inductive PairErr where
  | none | corrected | record | pointer | halves
  deriving DecidableEq, Repr

/-- An input of a core (R408): a load from the bus, or a counter CSR with the value it has. -/
inductive CoreInput where
  | load (addr : Word) (size : Fin 9) (synd : Syndrome)
  | csr (value : Word)
  deriving DecidableEq, Repr

/-- An online test's end (R566): passed, failed (with the ECC words it found failing), or cut off by an imposed transition. -/
inductive OltEnd where
  | pass | fail (words : List Nat) | aborted
  deriving DecidableEq, Repr

/-- A source clock of the value crossings, in the order of CDC_STALE. -/
abbrev ClockSrc := Fin 8


/-- What the surroundings decide at a write to the bus: what the check bits of a memory word show (R541), whether the causes of LIMP
are cleared (R44), whether a trigger or a match falls in the write's cycle (R175, R292), the age of a heartbeat answer in µs (R432),
the outcome of a self-test it starts (R488), and the command that a mailbox's words spell (R486). -/
structure WriteCtx where
  synd : Syndrome := .clean
  cleared : Bool := false
  sameCycle : Bool := false
  us : Nat := 0
  ok : Bool := true
  cmd : TndCommand := .bad
  deriving DecidableEq, Repr
/-- What the Skein holds outside registers and memory: the system record (R83). -/
structure SysRecord where
  safeKeepDcdc : Bool := true
  chgPd4Off : Bool := false
  limpChgLimit : Nat := 0
  bench : Bool := false
  standby : List Nat := []
  loops : List LoopDecl := []
  tasks : List TaskDecl := []
  recoverable : List Nat := []
  modePair : Fin 2 := 0
  outMap : List OutDest := []
  sup : SupPar := {}
  chg : ChgPar := {}
  cal : List CalSet := []
  reel : ReelPar := {}
  upd : UpdPar := {}
  xcpPages : List (Nat × Nat) := []
  xcpWords : List (Nat × Nat) := []
  deriving DecidableEq, Repr

/-- One record of the CONFIG component (R82): a register write list for a subsystem, or a memory block. -/
inductive ConfigRec where
  | regs (subsys : Nat) (writes : List (Nat × Word))
  | mem (subsys : Nat) (addr : Nat) (data : List Byte)
  deriving DecidableEq, Repr

/-- The CONFIG component as the loader read it (R82 to R84): the system record and whether its SHA-384 equals SYS_HASH, the other
records in file order, and whether the checks that walk the Whorl code and layout pass (R172, R173, R181, R193, R221, R223, R406). -/
structure ConfigIn where
  sys : SysRecord := {}
  sysHashOk : Bool := true
  codeOk : Bool := true
  records : List ConfigRec := []
  deriving DecidableEq, Repr


/-- The operations and events of the block: one constructor per row of the opcode table, in its order. -/
inductive Instr where
  /-- WINDOW_END (R10). An AFE window closes at its defined end and the Flyer snapshot is latched at the same CTLCLK edge. -/
  | windowEnd (ch : Fin 48) (win : Fin 2) (samples : List RawSample) (d : SnapAge)
  /-- AFE_RESULT_DELIVERY (R146). A window's results and bound points reach the assigned Whorl's input ports 80 ns after the window end, with FRESH set or cleared. -/
  | afeResultDelivery (ch : Fin 48) (win : Fin 2)
  /-- TIMED_LOOP_START (R11). A TIMED loop execution starts 40 CTLCLK cycles after its trigger window end, latching its inputs and clearing FRESH. -/
  | timedLoopStart (w : Fin 8) (loop : Fin 8)
  /-- BUDGET_END (R172). An execution reaches its cycle budget and is cut off if it has not finished, with safe output and Whorl failure. -/
  | budgetEnd (w : Fin 8) (loop : Fin 8)
  /-- OUTPUT_PHASE_COPY (R169). At a loop's output phase every port of its range is copied in one cycle to its destinations. -/
  | outputPhaseCopy (w : Fin 8) (loop : Fin 8) (late : List (Fin 12))
  /-- CARRIER_EVENT (R224). A carrier generator reaches a valley or peak, transferring shadows and starting the next half. -/
  | carrierEvent (cg : Fin 12)
  /-- LINK_TOKEN_TIMEOUT (R24). No valid die-to-die token arrives for 2 µs and the side declares link loss. -/
  | linkTokenTimeout (die : Die)
  /-- LINK_FRAME_RECEIVE (R23). A die-to-die link frame arrives and its value is placed in the destination register. -/
  | linkFrameReceive (f : LinkFrame)
  /-- REGISTER_WRITE (R6). A write to a register without a row of its own sets its fields according to their access codes. -/
  | registerWrite (m : Master) (addr : Word) (size : Fin 9) (value : Word) (x : WriteCtx)
  /-- REQUEST_READY (R44). A MODE_REQ write with TARGET READY is checked against the transition table and accepted or refused. -/
  | requestReady (m : Master) (key : BitVec 16) (cleared : Bool)
  /-- REQUEST_DRIVE (R44). A MODE_REQ write requests DRIVE and is checked against the transition table. -/
  | requestDrive (m : Master) (key : BitVec 16)
  /-- REQUEST_CHARGE (R44). A MODE_REQ write requests CHARGE with V2L clear. -/
  | requestCharge (m : Master) (key : BitVec 16)
  /-- REQUEST_V2L (R46). A MODE_REQ write with TARGET CHARGE and V2L set requests the V2L sub-state. -/
  | requestV2l (m : Master) (key : BitVec 16)
  /-- REQUEST_LIMP (R44). A MODE_REQ write requests LIMP from READY. -/
  | requestLimp (m : Master) (key : BitVec 16)
  /-- REQUEST_SERVICE (R44). A MODE_REQ write requests SERVICE. -/
  | requestService (m : Master) (key : BitVec 16)
  /-- REQUEST_SAFE (R45). A MODE_REQ write requests SAFE, which is not in the table and is refused. -/
  | requestSafe (m : Master) (key : BitVec 16)
  /-- REQUEST_DORMANT (R70). A MODE_REQ write requests DORMANT and is accepted only when the entry conditions hold. -/
  | requestDormant (m : Master) (key : BitVec 16)
  /-- REQUEST_RESTART (R590). A MODE_REQ write with TARGET 1 requests a restart, switching PD1 to PD10 off together. -/
  | requestRestart (m : Master) (key : BitVec 16)
  /-- MODE_TRANSITION_COMPLETE (R45). An accepted transition completes, BUSY clears and EV_MODE_CHANGE is raised. -/
  | modeTransitionComplete
  /-- IMPOSED_TRANSITION (R41). A fault reaction imposes LIMP or SAFE without a request, pre-empting any transition in progress. -/
  | imposedTransition
  /-- VBAT_RISE (R56). VBAT rises through 6.0 V and a cold start begins. -/
  | vbatRise
  /-- SUPPLY_GOOD (R56). VDD_CORE, VDDA and VDD_IO become good, the supply-good filter completes and the PLLs start. -/
  | supplyGood
  /-- PLL_LOCK (R56). The PLLs lock during start and the first domains are switched on. -/
  | pllLock (fuseOk : Bool)
  /-- DOMAIN_POWER_ON (R50). The next power domain of a sequence is switched on, at least 20 µs after the previous one. -/
  | domainPowerOn
  /-- MEMORY_FILL_DONE (R53). A domain's memory fill completes and its FILLED bit is set. -/
  | memoryFillDone (d : Fin 11) (ok : Bool)
  /-- WHORL_RELOAD_DONE (R54). A PD4 or PD5 power-up outside START finishes reloading its Whorls and sets FILLED. -/
  | whorlReloadDone (high : Bool)
  /-- CORE_RELEASE (R56). The cores are released and EV_START_DONE is raised. -/
  | coreRelease
  /-- START_TIMEOUT (R60). READY, SERVICE or SAFE is not reached within START_TIMEOUT of core release, issuing 0x0401. -/
  | startTimeout
  /-- SUPPLY_TIMEOUT (R63). The supplies are not good within 10 ms of SUP_EN and start fails with 0x0F15. -/
  | supplyTimeout
  /-- REFERENCE_CLOCK_FAIL (R63). XIN is absent or off frequency after supply good and start fails with 0x1110. -/
  | referenceClockFail
  /-- PLL_LOCK_TIMEOUT (R63). A PLL does not lock within 1 ms and start fails with 0x1111. -/
  | pllLockTimeout
  /-- LINK_UP_TIMEOUT (R63). The die-to-die link is not up within 1 ms of PD10 on and start fails with 0x1101. -/
  | linkUpTimeout
  /-- KILN_TABLE_TRANSFER (R63). The loader sends the Kiln table or its CRC-32, which is checked and locked or counted as a mismatch. -/
  | kilnTableTransfer (intact : Bool)
  /-- SUP_EN_HOLD_END (R64). The 100 ms SUP_EN hold ends and a new start of the same kind begins, or START_LOCK is set. -/
  | supEnHoldEnd
  /-- SUPPLY_WARNING (R66). A monitored supply crosses a warning level and EV_SUP_WARN is raised. -/
  | supplyWarning (supply : Supply) (above : Bool)
  /-- SUPPLY_FAULT (R66). A monitored supply crosses a fault level after its filter and the Kiln entry for that supply applies. -/
  | supplyFault (supply : Supply) (above : Bool)
  /-- SUPPLY_RECOVERY (R65). A supply returns past its threshold plus hysteresis and its warning or fault clears. -/
  | supplyRecovery (supply : Supply) (fault : Bool)
  /-- CONTROL_DIE_RELEASE (R67). After 1 ms of good core and I/O supplies the control die is released into a restart. -/
  | controlDieRelease
  /-- VBAT_COLLAPSE (R68). VBAT falls below 4.5 V, resetting the Kiln and Ember and losing all state except the MRAM. -/
  | vbatCollapse
  /-- DORMANT_DOMAIN_OFF (R71). During DORMANT entry the next domain is switched off, 20 µs after the previous one. -/
  | dormantDomainOff
  /-- DORMANT_ENTRY_COMPLETE (R71). SUP_EN goes low, the Kiln enters hold and Ember reports DORMANT. -/
  | dormantEntryComplete
  /-- LATCHED_WAKE_START (R72). A wake latched during DORMANT entry begins a wake start once SUP_EN has been low for 10 ms. -/
  | latchedWakeStart
  /-- KILN_HOLD_EXIT (R51). The Kiln leaves hold within 50 µs of SUP_EN rising and evaluates present conditions. -/
  | kilnHoldExit
  /-- FLASH_INIT (R96). The flash interface resets the flash, reads the JEDEC ID and SFDP and enters 8D-8D-8D. -/
  | flashInit (x : FlashInfo)
  /-- HEADER_VERIFIED (R91). The header and its signature block are checked, leading to streaming or a limp load. -/
  | headerVerified (h : Header) (readOk : Bool)
  /-- DESCRIPTORS_VERIFIED (R91). Every descriptor signature, field range and the interface rule are checked. -/
  | descriptorsVerified (ds : List Descriptor) (readOk : Bool)
  /-- COMPONENT_VERIFIED (R94). A streamed component finishes and its HASH and TAG are checked. -/
  | componentVerified (x : Streamed)
  /-- CONFIG_RECORDS_APPLY (R85). The checked configuration records are applied in ascending SUBSYS order. -/
  | configRecordsApply (x : ConfigIn) (wo : WriteOnce)
  /-- WRITE_ONCE_WRITE (R86). DT_FLOOR, SPLIT and KILN_TABLE are written in order and read back. -/
  | writeOnceWrite (readOk : Bool)
  /-- MMAP_FLASH_READ (R98). A memory-mapped read of the flash range is served, or refused while a program or erase runs. -/
  | mmapFlashRead (m : Master) (addr : BitVec 28) (value : Word) (readOk : Bool)
  /-- FLASH_OPERATION_DONE (R98). A flash program or erase of the resident loader completes and BUSY clears. -/
  | flashOperationDone (readOk : Bool)
  /-- FLASH_READ_ERROR (R99). A flash read error after release raises EV_FLASH_ERR and issues 0x0320. -/
  | flashReadError
  /-- PASS_TIMER_EXPIRY (R100). Ember's pass timer expires and triggers a pass. -/
  | passTimerExpiry
  /-- WAKE_PIN_EDGE (R111). A filtered edge of the selected kind on an EMB_WAKE pin sets its edge flag and triggers a pass. -/
  | wakePinEdge (pin : Fin 4) (rising : Bool)
  /-- RTC_SECOND_TICK (R113). The real-time clock counts a second. -/
  | rtcSecondTick
  /-- RTC_SEC_WRITE (R120). A write of EMB_RTC_SEC sets the seconds and clears EMB_RTC_SUB. -/
  | rtcSecWrite (m : Master) (value : Word)
  /-- RTC_ALARM_WRITE (R114). A write of EMB_RTC_ALARM arms the alarm, or sets ALARM_PAST for a past value. -/
  | rtcAlarmWrite (m : Master) (value : Word)
  /-- PASS_LIMIT (R102). A pass reaches 4,096 instructions or 20 ms and is aborted. -/
  | passLimit
  /-- EMB_ILLEGAL_OPCODE (R102). An illegal opcode or program store parity error aborts the pass. -/
  | embIllegalOpcode (parity : Bool)
  /-- EMB_SLEEP (R106). SLEEP ends the pass. -/
  | embSleep
  /-- EMB_LDI (R106). LDI loads a sign-extended immediate. -/
  | embLdi (rd : Fin 16) (imm : BitVec 16)
  /-- EMB_LUI (R106). LUI loads the upper half of a register. -/
  | embLui (rd : Fin 16) (imm : BitVec 16)
  /-- EMB_ADD (R106). ADD adds two registers with wrapping. -/
  | embAdd (rd : Fin 16) (ra : Fin 16) (rb : Fin 16)
  /-- EMB_SUB (R106). SUB subtracts two registers with wrapping. -/
  | embSub (rd : Fin 16) (ra : Fin 16) (rb : Fin 16)
  /-- EMB_ADDI (R106). ADDI adds a sign-extended immediate. -/
  | embAddi (rd : Fin 16) (ra : Fin 16) (imm : BitVec 16)
  /-- EMB_AND (R106). AND forms the bitwise AND. -/
  | embAnd (rd : Fin 16) (ra : Fin 16) (rb : Fin 16)
  /-- EMB_OR (R106). OR forms the bitwise OR. -/
  | embOr (rd : Fin 16) (ra : Fin 16) (rb : Fin 16)
  /-- EMB_XOR (R106). XOR forms the bitwise XOR. -/
  | embXor (rd : Fin 16) (ra : Fin 16) (rb : Fin 16)
  /-- EMB_SHL (R106). SHL shifts left by an immediate. -/
  | embShl (rd : Fin 16) (ra : Fin 16) (imm : BitVec 16)
  /-- EMB_SHR (R106). SHR shifts right logically. -/
  | embShr (rd : Fin 16) (ra : Fin 16) (imm : BitVec 16)
  /-- EMB_ASR (R106). ASR shifts right arithmetically. -/
  | embAsr (rd : Fin 16) (ra : Fin 16) (imm : BitVec 16)
  /-- EMB_FILT (R106). FILT applies a first-order filter step. -/
  | embFilt (rd : Fin 16) (ra : Fin 16) (imm : BitVec 16)
  /-- EMB_LD (R106). LD reads a retained SRAM word. -/
  | embLd (rd : Fin 16) (ra : Fin 16) (imm : BitVec 16)
  /-- EMB_ST (R106). ST writes a retained SRAM word. -/
  | embSt (rd : Fin 16) (ra : Fin 16) (imm : BitVec 16)
  /-- EMB_BEQ (R106). BEQ branches if two registers are equal. -/
  | embBeq (rd : Fin 16) (ra : Fin 16) (imm : BitVec 16)
  /-- EMB_BNE (R106). BNE branches if two registers differ. -/
  | embBne (rd : Fin 16) (ra : Fin 16) (imm : BitVec 16)
  /-- EMB_BLT (R106). BLT branches on signed less-than. -/
  | embBlt (rd : Fin 16) (ra : Fin 16) (imm : BitVec 16)
  /-- EMB_BGE (R106). BGE branches on signed greater-or-equal. -/
  | embBge (rd : Fin 16) (ra : Fin 16) (imm : BitVec 16)
  /-- EMB_JMP (R106). JMP jumps to an absolute address. -/
  | embJmp (imm : BitVec 16)
  /-- EMB_SAMP (R108). SAMP runs a burst of low-power conversions and returns single, mean, maximum or minimum. -/
  | embSamp (rd : Fin 16) (imm : BitVec 16) (codes : List (BitVec 12))
  /-- EMB_CNT (R112). CNT reads a rotation count and clears it in one step. -/
  | embCnt (rd : Fin 16) (imm : BitVec 16) (crossing : Bool)
  /-- EMB_INP (R107). INP returns the status word and clears triggers and edge flags. -/
  | embInp (rd : Fin 16)
  /-- EMB_RTC (R106). RTC reads EMB_RTC_SEC. -/
  | embRtc (rd : Fin 16)
  /-- EMB_WAKE (R115). WAKE makes a wake decision with a reason and ends the pass. -/
  | embWake (imm : BitVec 16) (directEdge : Option (Fin 4))
  /-- EMB_OUT (R118). OUT sets the EMB_WAKE3 output level. -/
  | embOut (imm : BitVec 16)
  /-- EMB_WAIT (R106). WAIT idles for a number of EMBCLK cycles. -/
  | embWait (imm : BitVec 16)
  /-- CONVERTER_POWER_DOWN (R109). The low-power converter powers down 4 µs after its last conversion. -/
  | converterPowerDown
  /-- ROTATION_CROSSING (R112). A back-EMF comparator counts a rising crossing, saturating at 65,535. -/
  | rotationCrossing (cmp : Fin 2)
  /-- XTAL_STOP (R113). The crystal stops and the timer moves to the internal oscillator, setting XTAL_FAIL. -/
  | xtalStop
  /-- XTAL_RETURN (R113). After 1,024 good crystal cycles the timer returns to the crystal. -/
  | xtalReturn
  /-- EMBER_PROGRAM_LOAD (R104). A new Ember program takes effect at the next pass boundary and clears E0 to E15. -/
  | emberProgramLoad (m : Master) (prog : List Word)
  /-- SLICE_TIMEOUT (R123). A slice conversion is not complete 60 ns after its instant; the sample is interpolated and the slice fails. -/
  | sliceTimeout (ch : Fin 48) (slot : Fin 8)
  /-- ROTATION_STEP (R125). Every 222.2 µs the spare slice takes over the next slot and the released slice becomes spare. -/
  | rotationStep (ch : Fin 48) (shadowSum : Nat) (skew : List SlotSkew)
  /-- SPARE_CALIBRATION (R132). The spare's new OFS and GAIN are computed and checked against their limits. -/
  | spareCalibration (ch : Fin 48) (ofs : Int) (gain : Nat)
  /-- REF_ENABLE (R134). A write setting REF_EN enables the six reference buffers and starts foreground calibration. -/
  | refEnable (m : Master)
  /-- REF_READY (R134). The buffers settle and calibration completes; REF_RDY is set. -/
  | refReady (cals : List SliceCal)
  /-- REF_DISABLE (R135). A write clearing REF_EN clears REF_RDY, or is ignored with REF_REFUSED while a channel is enabled. -/
  | refDisable (m : Master)
  /-- REF_BUFFER_FAULT (R160). A reference buffer leaves its monitor window and its eight channels carry REF_NRDY. -/
  | refBufferFault (buf : Fin 6)
  /-- SLICE_COEF_WRITE (R133). A write of AFE_SLICE_COEF takes effect only in HOLD with the channel disabled. -/
  | sliceCoefWrite (m : Master) (ch : Fin 48) (slice : Fin 9) (value : Word)
  /-- WINDOW_START (R137). A window opens at its defined start event plus offset. -/
  | windowStart (ch : Fin 48) (win : Fin 2)
  /-- WINDOW_ABORT (R139). A window reaches 10 ms and closes with ABORT. -/
  | windowAbort (ch : Fin 48) (win : Fin 2) (samples : List RawSample) (d : SnapAge)
  /-- WINDOW_DISABLE (R142). Clearing a window's EN while open sets DRAINING. -/
  | windowDisable (ch : Fin 48) (win : Fin 2)
  /-- AFE_CHANNEL_DISABLE (R142). Clearing a channel's EN drains both of its windows. -/
  | afeChannelDisable (ch : Fin 48)
  /-- POINT_SAMPLE (R143). A point sampler takes its value at the carrier event plus offset. -/
  | pointSample (ch : Fin 48) (pt : Fin 4) (samples : List RawSample) (frac : Fin 8) (age : Nat)
  /-- SEGMENT_ANCHOR (R152). An issued top-side edge anchors a segment window, or SEG_SHORT is set. -/
  | segmentAnchor (ch : Fin 48) (win : Fin 2) (leg : Fin 32) (next : Option (Fin 32)) (apart : Nat)
  /-- HK_CONVERSION_SLOT (R156). A housekeeping converter completes a 1 µs slot on an HK input, a twin tap or a reference. -/
  | hkConversionSlot (slot : HkSlot)
  /-- TWIN_ARBITRATION_END (R158). Twin arbitration ends with lost twins, a slice failure, a channel failure or no finding. -/
  | twinArbitrationEnd (ch : Fin 48) (refOk : Bool) (spareDisagrees : Bool) (slot : Fin 8)
  /-- TWIN_STROBE_TIMEOUT (R159). No strobe arrives within 2 µs of a twin conversion; the converter's twins are lost. -/
  | twinStrobeTimeout (conv : Fin 4)
  /-- BACKGROUND_TRIGGER (R174). A BACKGROUND loop's PERIOD timer fires. -/
  | backgroundTrigger (w : Fin 8) (loop : Fin 8)
  /-- BACKGROUND_START (R174). A BACKGROUND execution starts in the first free cycle 40 cycles after its trigger. -/
  | backgroundStart (w : Fin 8) (loop : Fin 8)
  /-- BACKGROUND_COMPLETE (R174). A BACKGROUND execution completes and its outputs are copied. -/
  | backgroundComplete (w : Fin 8) (loop : Fin 8)
  /-- LOOP_ENABLE (R175). Setting a loop's EN makes it execute first at its next trigger. -/
  | loopEnable (m : Master) (w : Fin 8) (loop : Fin 8) (atTrigger : Bool)
  /-- LOOP_DISABLE (R186). Clearing a loop's EN drains it and copies the safe output. -/
  | loopDisable (m : Master) (w : Fin 8) (loop : Fin 8)
  /-- COEF_QUEUE_WRITE (R176). A write to the coefficient region or WHL_TBL_CFG enters the queue, or is refused. -/
  | coefQueueWrite (m : Master) (w : Fin 8) (entry : CoefWrite)
  /-- QUEUE_BATCH_APPLY (R177). In an idle slot the queued entries are applied as a batch, one per cycle. -/
  | queueBatchApply (w : Fin 8)
  /-- CQ_HOLD_SET (R179). Setting CQ_HOLD stops batches so entries accumulate. -/
  | cqHoldSet (m : Master) (w : Fin 8)
  /-- CQ_HOLD_CLEAR (R179). Clearing CQ_HOLD lets every present entry apply as one batch. -/
  | cqHoldClear (m : Master) (w : Fin 8)
  /-- CQ_FLUSH (R180). A write of CQ_FLUSH discards unapplied entries and clears CQ_HOLD. -/
  | cqFlush (m : Master) (w : Fin 8)
  /-- TABLE_REGION_WRITE (R185). A fabric write into a table goes to the inactive bank or returns a bus error. -/
  | tableRegionWrite (m : Master) (w : Fin 8) (word : Fin 114688) (value : Word)
  /-- WHORL_MEMORY_WRITE (R163). A fabric write to a Whorl code, state or scratch region is performed or refused by region. -/
  | whorlMemoryWrite (m : Master) (w : Fin 8) (off : Fin 0x100000) (size : Fin 9) (value : BitVec 64)
  /-- SHADOW_SESSION_START (R195). A DWELL session ends and the standby starts shadowing the next Whorl. -/
  | shadowSessionStart (w : Fin 8)
  /-- STANDBY_PREPARE_DONE (R192). Preparation of a standby for a target completes with the state copy. -/
  | standbyPrepareDone (w : Fin 8)
  /-- STATE_COPY_DONE (R193). A state copy between Whorls completes in an idle slot. -/
  | stateCopyDone (w : Fin 8) (abandoned : Bool)
  /-- WHL_HANDOVER_REQUEST (R196). A WHL_HANDOVER REQ write from Tinder requests a handover. -/
  | whlHandoverRequest (m : Master) (value : Word)
  /-- CODE_REPAIR (R191). A poisoned code word is rewritten from the verified copy in the next idle slot. -/
  | codeRepair (w : Fin 8) (word : Fin 32768) (copyOk : Bool)
  /-- UNIT_RESULT_RETIRE (R208). A pending result reaches its latency and is written to its register or accumulator. -/
  | unitResultRetire (w : Fin 8)
  /-- WHL_ILLEGAL_OPERATION (R211). An illegal operation executes as a no-operation and stops the loop with 0x050A. -/
  | whlIllegalOperation (w : Fin 8) (slot : Fin 2) (hz : List (Fin 36))
  /-- WHL_NOP (R212). NOP does nothing. -/
  | whlNop (w : Fin 8) (slot : Fin 2) (hz : List (Fin 36)) (ue : Bool)
  /-- WHL_ADD (R212). ADD adds with saturation. -/
  | whlAdd (w : Fin 8) (slot : Fin 2) (d : Fin 32) (a : Fin 32) (b : Fin 32) (hz : List (Fin 36))
  /-- WHL_SUB (R212). SUB subtracts with saturation. -/
  | whlSub (w : Fin 8) (slot : Fin 2) (d : Fin 32) (a : Fin 32) (b : Fin 32) (hz : List (Fin 36))
  /-- WHL_ADDW (R212). ADDW adds with wrapping. -/
  | whlAddw (w : Fin 8) (slot : Fin 2) (d : Fin 32) (a : Fin 32) (b : Fin 32) (hz : List (Fin 36))
  /-- WHL_SUBW (R212). SUBW subtracts with wrapping. -/
  | whlSubw (w : Fin 8) (slot : Fin 2) (d : Fin 32) (a : Fin 32) (b : Fin 32) (hz : List (Fin 36))
  /-- WHL_NEG (R212). NEG negates with saturation. -/
  | whlNeg (w : Fin 8) (slot : Fin 2) (d : Fin 32) (a : Fin 32) (hz : List (Fin 36))
  /-- WHL_ABS (R212). ABS takes the absolute value with saturation. -/
  | whlAbs (w : Fin 8) (slot : Fin 2) (d : Fin 32) (a : Fin 32) (hz : List (Fin 36))
  /-- WHL_MIN (R212). MIN forms the signed minimum. -/
  | whlMin (w : Fin 8) (slot : Fin 2) (d : Fin 32) (a : Fin 32) (b : Fin 32) (hz : List (Fin 36))
  /-- WHL_MAX (R212). MAX forms the signed maximum. -/
  | whlMax (w : Fin 8) (slot : Fin 2) (d : Fin 32) (a : Fin 32) (b : Fin 32) (hz : List (Fin 36))
  /-- WHL_CLMP (R212). CLMP clamps a value to a symmetric limit. -/
  | whlClmp (w : Fin 8) (slot : Fin 2) (d : Fin 32) (a : Fin 32) (b : Fin 32) (hz : List (Fin 36))
  /-- WHL_AND (R212). AND forms the bitwise AND. -/
  | whlAnd (w : Fin 8) (slot : Fin 2) (d : Fin 32) (a : Fin 32) (b : Fin 32) (hz : List (Fin 36))
  /-- WHL_OR (R212). OR forms the bitwise OR. -/
  | whlOr (w : Fin 8) (slot : Fin 2) (d : Fin 32) (a : Fin 32) (b : Fin 32) (hz : List (Fin 36))
  /-- WHL_XOR (R212). XOR forms the bitwise XOR. -/
  | whlXor (w : Fin 8) (slot : Fin 2) (d : Fin 32) (a : Fin 32) (b : Fin 32) (hz : List (Fin 36))
  /-- WHL_SHL (R212). SHL shifts left with saturation. -/
  | whlShl (w : Fin 8) (slot : Fin 2) (d : Fin 32) (a : Fin 32) (imm : BitVec 16) (hz : List (Fin 36))
  /-- WHL_SAR (R212). SAR shifts right arithmetically. -/
  | whlSar (w : Fin 8) (slot : Fin 2) (d : Fin 32) (a : Fin 32) (imm : BitVec 16) (hz : List (Fin 36))
  /-- WHL_SHR (R212). SHR shifts right logically. -/
  | whlShr (w : Fin 8) (slot : Fin 2) (d : Fin 32) (a : Fin 32) (imm : BitVec 16) (hz : List (Fin 36))
  /-- WHL_LIH (R212). LIH loads an immediate into the upper half. -/
  | whlLih (w : Fin 8) (slot : Fin 2) (d : Fin 32) (imm : BitVec 16) (hz : List (Fin 36))
  /-- WHL_LIL (R212). LIL loads an immediate into the lower half. -/
  | whlLil (w : Fin 8) (slot : Fin 2) (d : Fin 32) (imm : BitVec 16) (hz : List (Fin 36))
  /-- WHL_ADDI (R212). ADDI adds a sign-extended immediate with saturation. -/
  | whlAddi (w : Fin 8) (slot : Fin 2) (d : Fin 32) (a : Fin 32) (imm : BitVec 16) (hz : List (Fin 36))
  /-- WHL_SLT (R212). SLT sets on signed less-than. -/
  | whlSlt (w : Fin 8) (slot : Fin 2) (d : Fin 32) (a : Fin 32) (b : Fin 32) (hz : List (Fin 36))
  /-- WHL_CMOV (R212). CMOV moves conditionally. -/
  | whlCmov (w : Fin 8) (slot : Fin 2) (d : Fin 32) (a : Fin 32) (b : Fin 32) (hz : List (Fin 36))
  /-- WHL_FLG (R213). FLG reads the execution flags whose results have been written. -/
  | whlFlg (w : Fin 8) (slot : Fin 2) (d : Fin 32) (hz : List (Fin 36))
  /-- WHL_MUL (R214). MUL multiplies in Q2.29 with saturation. -/
  | whlMul (w : Fin 8) (slot : Fin 2) (d : Fin 32) (a : Fin 32) (b : Fin 32) (hz : List (Fin 36))
  /-- WHL_MAC (R214). MAC adds a product to an accumulator. -/
  | whlMac (w : Fin 8) (slot : Fin 2) (acc : Fin 4) (a : Fin 32) (b : Fin 32) (hz : List (Fin 36))
  /-- WHL_MSU (R214). MSU subtracts a product from an accumulator. -/
  | whlMsu (w : Fin 8) (slot : Fin 2) (acc : Fin 4) (a : Fin 32) (b : Fin 32) (hz : List (Fin 36))
  /-- WHL_ALD (R214). ALD loads an accumulator. -/
  | whlAld (w : Fin 8) (slot : Fin 2) (acc : Fin 4) (a : Fin 32) (hz : List (Fin 36))
  /-- WHL_ARD (R214). ARD reads an accumulator into a register with saturation. -/
  | whlArd (w : Fin 8) (slot : Fin 2) (d : Fin 32) (acc : Fin 4) (hz : List (Fin 36))
  /-- WHL_ACLP (R214). ACLP clamps an accumulator. -/
  | whlAclp (w : Fin 8) (slot : Fin 2) (acc : Fin 4) (a : Fin 32) (hz : List (Fin 36))
  /-- WHL_ROT (R215). ROT rotates a vector by an angle. -/
  | whlRot (w : Fin 8) (slot : Fin 2) (d : Fin 32) (a : Fin 32) (b : Fin 32) (hz : List (Fin 36))
  /-- WHL_VEC (R215). VEC returns magnitude and angle of a vector. -/
  | whlVec (w : Fin 8) (slot : Fin 2) (d : Fin 32) (a : Fin 32) (hz : List (Fin 36))
  /-- WHL_SCS (R215). SCS returns cosine and sine of an angle. -/
  | whlScs (w : Fin 8) (slot : Fin 2) (d : Fin 32) (a : Fin 32) (hz : List (Fin 36))
  /-- WHL_RCP (R215). RCP returns the reciprocal, setting SAT or DIVZ. -/
  | whlRcp (w : Fin 8) (slot : Fin 2) (d : Fin 32) (a : Fin 32) (hz : List (Fin 36))
  /-- WHL_SQRT (R215). SQRT returns the square root, setting DOMAIN for negatives. -/
  | whlSqrt (w : Fin 8) (slot : Fin 2) (d : Fin 32) (a : Fin 32) (hz : List (Fin 36))
  /-- WHL_TBL (R216). TBL looks up and interpolates a table. -/
  | whlTbl (w : Fin 8) (slot : Fin 2) (d : Fin 32) (a : Fin 32) (t : Fin 16) (synd : Syndrome) (hz : List (Fin 36))
  /-- WHL_IN (R217). IN reads a latched input port. -/
  | whlIn (w : Fin 8) (slot : Fin 2) (d : Fin 32) (p : Fin 64) (hz : List (Fin 36))
  /-- WHL_OUT (R219). OUT writes an output port register. -/
  | whlOut (w : Fin 8) (slot : Fin 2) (p : Fin 64) (src : Fin 32) (hz : List (Fin 36))
  /-- WHL_FRSH (R217). FRSH reads the latched FRESH bits of the loop's inputs. -/
  | whlFrsh (w : Fin 8) (slot : Fin 2) (d : Fin 32) (h : Fin 2) (hz : List (Fin 36))
  /-- WHL_LD (R218). LD loads a data word by effective address. -/
  | whlLd (w : Fin 8) (slot : Fin 2) (d : Fin 32) (a : Fin 32) (off : BitVec 16) (synd : Syndrome) (hz : List (Fin 36))
  /-- WHL_ST (R218). ST stores a data word in the state or scratch region. -/
  | whlSt (w : Fin 8) (slot : Fin 2) (src : Fin 32) (a : Fin 32) (off : BitVec 16) (hz : List (Fin 36))
  /-- WHL_BZ (R220). BZ branches if zero. -/
  | whlBz (w : Fin 8) (slot : Fin 2) (a : Fin 32) (target : BitVec 15) (hz : List (Fin 36))
  /-- WHL_BNZ (R220). BNZ branches if not zero. -/
  | whlBnz (w : Fin 8) (slot : Fin 2) (a : Fin 32) (target : BitVec 15) (hz : List (Fin 36))
  /-- WHL_BLTZ (R220). BLTZ branches if negative. -/
  | whlBltz (w : Fin 8) (slot : Fin 2) (a : Fin 32) (target : BitVec 15) (hz : List (Fin 36))
  /-- WHL_BGEZ (R220). BGEZ branches if not negative. -/
  | whlBgez (w : Fin 8) (slot : Fin 2) (a : Fin 32) (target : BitVec 15) (hz : List (Fin 36))
  /-- WHL_JMP (R220). JMP branches always. -/
  | whlJmp (w : Fin 8) (slot : Fin 2) (target : BitVec 15) (hz : List (Fin 36))
  /-- WHL_LOOP (R220). LOOP repeats a body of words n times. -/
  | whlLoop (w : Fin 8) (slot : Fin 2) (n : Fin 256) (last : BitVec 15) (hz : List (Fin 36))
  /-- WHL_SAFE (R220). SAFE ends the execution with the safe output copied at the output phase. -/
  | whlSafe (w : Fin 8) (slot : Fin 2) (hz : List (Fin 36))
  /-- WHL_END (R220). END ends the execution. -/
  | whlEnd (w : Fin 8) (slot : Fin 2) (hz : List (Fin 36))
  /-- GENERATOR_DISABLE (R228). Clearing a generator's EN sets DRAINING for the present period. -/
  | generatorDisable (m : Master) (cg : Fin 12)
  /-- SWITCH_EDGE_COMMAND (R230). A compare instant issues a switch on or off command. -/
  | switchEdgeCommand (leg : Fin 32) (toTop : Bool) (width : Nat)
  /-- DEAD_TIME_EXPIRY (R237). The dead time runs out and the opposite switch turns on if feedback shows off. -/
  | deadTimeExpiry (sw : Fin 64)
  /-- GFB_CHANGE (R237). A gate feedback input changes after its filter. -/
  | gfbChange (sw : Fin 64) (on : Bool) (delay : Nat)
  /-- TURN_OFF_FB_WIN_EXPIRY (R237). Feedback has not shown off by FB_WIN, so the opposite turn-on is refused. -/
  | turnOffFbWinExpiry (sw : Fin 64)
  /-- TURN_ON_FB_WIN_EXPIRY (R238). Feedback has not shown on by FB_WIN, so the command is withdrawn. -/
  | turnOnFbWinExpiry (sw : Fin 64)
  /-- BOOT_UNDERVOLTAGE (R244). A bootstrap comparator trips; the high side goes off and the leg enters refresh-hold. -/
  | bootUndervoltage (bridge : Fin 12)
  /-- ARM_SET (R246). A W1S write of ARM lets the leg switch from its generator's next valley. -/
  | armSet (m : Master) (leg : Fin 32)
  /-- GEN_FALL (R248). A GEN falling edge learnt over the link forces the group's legs off. -/
  | genFall (g : Fin 4)
  /-- GEN_LOW_FEEDBACK_FAULT (R248). Feedback shows a switch on past FB_WIN while its GEN is low, issuing 0x0A08. -/
  | genLowFeedbackFault (sw : Fin 64)
  /-- COMPARATOR_TRIP (R249). A window comparator crosses THR_HI or THR_LO and acts as TRIP, CYCLE or REPORT. -/
  | comparatorTrip (ch : Fin 48) (above : Bool)
  /-- COMPARATOR_RELEASE (R249). A comparator returns inside its window plus hysteresis. -/
  | comparatorRelease (ch : Fin 48)
  /-- BLANKING_END (R250). Blanking ends and a crossing still present trips. -/
  | blankingEnd (ch : Fin 48)
  /-- HARD_TRIP (R251). The unblanked hard comparator trips at twice the threshold. -/
  | hardTrip (ch : Fin 48) (above : Bool)
  /-- GFLT_ASSERT (R252). A driver fault input asserts after its filter and acts as a TRIP. -/
  | gfltAssert (i : Fin 16) (on : Bool)
  /-- FAULT_MAP_DECISION (R255). At the end of FM_WAIT the fault map chooses ASC_TOP, ASC_BOT or OFF. -/
  | faultMapDecision (p : Fin 16)
  /-- ASC_ENTRY_TIMEOUT (R256). An opposite switch does not show off within FB_WIN, so the set goes OFF with 0x0A09. -/
  | ascEntryTimeout (p : Fin 16)
  /-- UCG_SPEED_WRITE (R257). A write of UCG_SPEED restarts its 5 ms age. -/
  | ucgSpeedWrite (m : Master) (p : Fin 16) (value : Word)
  /-- UCG_STALE_TIMEOUT (R257). UCG_SPEED is not written for 5 ms; UCG_STALE is set and 0x0A0A issued. -/
  | ucgStaleTimeout (p : Fin 16)
  /-- PSET_CLEAR (R259). CMD CLEAR returns a protection set to RUN if no fault input or comparator is active. -/
  | psetClear (m : Master) (p : Fin 16)
  /-- PSET_ASC_TOP (R261). CMD ASC_TOP requests top-row active short circuit. -/
  | psetAscTop (m : Master) (p : Fin 16)
  /-- PSET_ASC_BOT (R261). CMD ASC_BOT requests bottom-row active short circuit. -/
  | psetAscBot (m : Master) (p : Fin 16)
  /-- ENCODER_EDGE (R266). A filtered encoder edge is counted and timestamped, or counted as illegal. -/
  | encoderEdge (n : Fin 4) (count : Option Bool)
  /-- ENCODER_INDEX (R268). A recognised index latches POS and REV and may fail the index check. -/
  | encoderIndex (n : Fin 4) (abHigh : Bool)
  /-- ENC_POS_READ (R267). A read of FLY_ENC_POS copies REV into FLY_ENC_REV. -/
  | encPosRead (m : Master) (n : Fin 4)
  /-- HALL_TRANSITION (R269). A filtered Hall state change gives a measurement or an erroneous one. -/
  | hallTransition (h : Fin 2) (state : BitVec 3)
  /-- RESOLVER_HALF_PERIOD (R270). A resolver half period gives an angle and amplitude measurement. -/
  | resolverHalfPeriod (r : Fin 2) (sinV : Int) (cosV : Int)
  /-- EXCITATION_FAULT (R271). An excitation overload or open load sets EXC_FAULT and declares loss cause 2. -/
  | excitationFault (r : Fin 2) (present : Bool)
  /-- SERIAL_POLL (R273). A poll tick starts an SSI or BiSS-C frame, or is dropped during a frame. -/
  | serialPoll (k : Fin 2)
  /-- SERIAL_FRAME_END (R272). An SSI or BiSS-C frame completes and is checked. -/
  | serialFrameEnd (k : Fin 2) (frame : SerFrame)
  /-- SERIAL_TIMEOUT (R273). A start bit or data line return does not arrive within TMO. -/
  | serialTimeout (k : Fin 2)
  /-- SENT_FRAME (R274). A SENT frame is received and checked, giving a fast-channel measurement. -/
  | sentFrame (k : Fin 4) (nibbles : List (Fin 16)) (crc : Fin 16) (syncOk : Bool) (slow : Option SlowMsg)
  /-- MEASUREMENT_TIMEOUT (R275). No valid measurement for MEAS_TMO sets TIMEOUT and declares loss cause 4. -/
  | measurementTimeout (src : Fin 14)
  /-- TRACKER_STEP (R278). Every 2.5 µs the tracker predicts and applies any new measurement. -/
  | trackerStep (mach : Fin 2) (age : Nat)
  /-- MACH_ACQ (R289). An ACQ write from a checked output acquires, or sets ACQ_REFUSED. -/
  | machAcq (m : Master) (mach : Fin 2)
  /-- MACH_ACQ_USE_SET (R280). An ACQ write with USE_SET acquires at ANGLE_SET. -/
  | machAcqUseSet (m : Master) (mach : Fin 2)
  /-- COMPARE_VAL_WRITE (R291). A write of VAL arms a compare channel, fires it at once, or sets VAL_ERR. -/
  | compareValWrite (m : Master) (c : Fin 8) (value : Word) (reached : Bool)
  /-- EMULATION_EDGE (R293). An emulation output sends its next due edge. -/
  | emulationEdge (e : Fin 2)
  /-- FLYER_UNIT_DISABLE (R296). Clearing EN of a source, tracker, compare channel or emulation output stops it. -/
  | flyerUnitDisable (m : Master) (unit : FlyUnit)
  /-- REACQ_TIMEOUT (R319). The REACQ timer reaches REACQ_TMO and LSTATE goes to EXPIRED with 0x0A0D. -/
  | reacqTimeout (p : Fin 16)
  /-- SUPERVISION_TASK (R305). The standard machine supervision runs its 100 µs task computing references and the speed loop. -/
  | supervisionTask (i : SupIn)
  /-- UCG_COMPUTE (R307). Pair A computes and writes UCG_SPEED every 1 ms. -/
  | ucgCompute
  /-- SHOCK_HOLD_END (R311). The shock state ends after SHOCK_HOLD. -/
  | shockHoldEnd (mach : Fin 2)
  /-- CATCH_PHASE_END (R316). A catch phase ends at EMF_LOCK or CATCH_T and the start path is chosen. -/
  | catchPhaseEnd (mach : Fin 2)
  /-- EMERGENCY_RUN_END (R327). EMR_T runs out after the last command and EMERGENCY_RUN ends with its exit ramp. -/
  | emergencyRunEnd
  /-- BRIDGE_HIZ (R333). A MODE write of HIZ turns both gates off at once. -/
  | bridgeHiz (m : Master) (bridge : Fin 12)
  /-- BRIDGE_PWM (R333). A MODE write of PWM takes effect at the next leg command. -/
  | bridgePwm (m : Master) (bridge : Fin 12)
  /-- BRIDGE_LOW_ON (R333). A MODE write of LOW_ON turns the high side off and the low side on. -/
  | bridgeLowOn (m : Master) (bridge : Fin 12)
  /-- PREDRIVER_GATE_REPORT (R334). A pre-driver refusal or uncommanded gate report arrives over the link and is counted. -/
  | predriverGateReport (bridge : Fin 12) (report : GateReport)
  /-- DRAIN_SOURCE_FAULT (R338). A drain-source voltage above VDS_THR after VDS_BLANK latches ACT_OC_H or ACT_OC_L. -/
  | drainSourceFault (bridge : Fin 12) (high : Bool)
  /-- VGD_UNDERVOLTAGE (R331). VGD stays below 6.5 V for 5 µs and every bridge latches ACT_SUPPLY. -/
  | vgdUndervoltage (low : Bool)
  /-- DRIVE_SUPPLY_FAULT (R338). VDRV outside its fault levels latches ACT_SUPPLY on all bridges. -/
  | driveSupplyFault (above : Bool)
  /-- PREDRIVER_OVERTEMP (R338). A pre-driver sensor at 155 °C latches ACT_OT on all bridges. -/
  | predriverOvertemp (sensor : Fin 2)
  /-- PREDRIVER_WARNING (R338). A VDRV warning or a sensor at 140 °C raises EV_ACT_SUP_WARN or EV_ACT_OT_WARN. -/
  | predriverWarning (supply : Bool) (present : Bool)
  /-- ACT_EN_FALL (R339). ACT_EN falls; every bridge goes HIZ and every MODE is written to HIZ. -/
  | actEnFall
  /-- ACT_EN_RISE (R339). ACT_EN rises after at least 10 µs low and clears latches whose cause is absent. -/
  | actEnRise (lowUs : Nat) (causes : LatchCauses)
  /-- CNV_CHANNEL_START (R354). Writing EN 1 moves a converter channel from OFF to START with its legs held. -/
  | cnvChannelStart (m : Master) (ch : Fin 3)
  /-- CNV_CHANNEL_STOP (R357). Writing EN 0 sets DRAINING and moves the channel to STOPPING. -/
  | cnvChannelStop (m : Master) (ch : Fin 3)
  /-- CNV_CHANNEL_CLEAR (R359). CMD CLEAR leaves LATCHED or TRIPPED for OFF. -/
  | cnvChannelClear (m : Master) (ch : Fin 3)
  /-- CNV_CHANNEL_STOP_NOW (R365). CMD STOP_NOW holds the legs from the next valley and gives OFF. -/
  | cnvChannelStopNow (m : Master) (ch : Fin 3)
  /-- RAMP_TIMEOUT (R354). No new RAMP_ID within 1 ms sends the channel to OFF with 0x0C07. -/
  | rampTimeout (ch : Fin 3)
  /-- SOFT_START_CHECKPOINT (R355). At 25, 50 or 75 % of SS_T V_OUT is checked against REF / 2. -/
  | softStartCheckpoint (ch : Fin 3) (k : Fin 3)
  /-- SOFT_STOP_TIMEOUT (R357). STOP_DONE does not arrive within SSTOP_MAX; legs are held with 0x0C06. -/
  | softStopTimeout (ch : Fin 3)
  /-- HICCUP_OFF_END (R358). HICCUP_OFF ends and the channel retries, or latches at HICCUP_MAX. -/
  | hiccupOffEnd (ch : Fin 3)
  /-- RETRY_CLEAR (R358). After 1 s in RUN without hiccup RETRIES clears. -/
  | retryClear (ch : Fin 3)
  /-- NL_MAX_TIMEOUT (R360). NL_MAX_T passes and the fired switches turn off. -/
  | nlMaxTimeout (ch : Fin 3)
  /-- SHED_START (R362). I_OUT stays below SHED_THR for SHED_DWELL and a shed ramp starts. -/
  | shedStart (ch : Fin 3)
  /-- SHED_HOLDOFF_END (R364). SHED_LOCK clears after SHED_HOLDOFF. -/
  | shedHoldoffEnd (ch : Fin 3)
  /-- TELEMETRY_WINDOW_CLOSE (R369). A 1, 10 or 100 ms telemetry window closes and its means are published. -/
  | telemetryWindowClose (ch : Fin 3) (w : Fin 3)
  /-- TELEMETRY_CLEAR (R369). A TEL_CLR bit resets MIN and MAX of a channel. -/
  | telemetryClear (m : Master) (mask : Fin 8)
  /-- PILOT_PERIOD (R372). The pilot unit classifies a pilot period or steady level. -/
  | pilotPeriod (x : PilotIn)
  /-- PROXIMITY_SAMPLE (R376). Every 1 ms the cable coding resistance is computed and classified. -/
  | proximitySample (mv : Nat)
  /-- CHARGE_TASK (R378). The 1 ms charging supervision task writes P_LIM and runs the session and precharge logic. -/
  | chargeTask (i : ChgIn)
  /-- LIMITS_TIMEOUT (R379). No BMS limit frame within LIM_TMO ramps P_LIM to zero and pauses the session. -/
  | limitsTimeout
  /-- PAUSE_TIMEOUT (R379). After 10 s in PAUSED the session ends with LIMITS_STALE. -/
  | pauseTimeout
  /-- HV_LOST_HOLD_END (R383). No host command within HV_LOST_HOLD soft-stops channel 0. -/
  | hvLostHoldEnd
  /-- ACCEPTANCE_PROBE (R391). In ABSENT a 1 s probe raises the bus to 14.4 V for 20 ms. -/
  | acceptanceProbe (battI : Int) (battV : Nat)
  /-- SAFETY_TIMER_EXPIRY (R388). The 12 V safety timer expires and charging stops with TIMER or TIMER_IN_DERATE. -/
  | safetyTimerExpiry
  /-- PRECHARGE_TIMEOUT (R393). HOLD is not reached before PRE_T ends; the channel stops with FAIL 1. -/
  | prechargeTimeout
  /-- PRE_HOLD_TIMEOUT (R393). PRE_HOLD_T ends, soft-stopping the channel and giving DONE. -/
  | preHoldTimeout
  /-- SENSOR_SAMPLE (R395). A temperature sensor is sampled and its reading and validity updated. -/
  | sensorSample (sensor : Fin 36) (ok : Bool) (value : Int)
  /-- DIE_HARD_LIMIT (R401). A die sensor reads 160 °C for 1 ms and 0x0E03 is issued with SAFE_ASC. -/
  | dieHardLimit (sensor : Fin 36)
  /-- RULE_EVALUATION (R397). Every 1 ms all thermal rules, shutdown levels and band selectors are evaluated. -/
  | ruleEvaluation
  /-- FACTOR_RISE_STEP (R399). A rising target factor is published in a 1/128 increment every 10 ms. -/
  | factorRiseStep (target : Fin 8)
  /-- PAIR_OUTPUT_STORE (R407). A store outside TCM enters the core's checkpoint buffer as an output record. -/
  | pairOutputStore (core : Core) (st : CoreStore) (err : PairErr) (x : WriteCtx)
  /-- PAIR_COMPARE (R407). Both cores' records n are present; the comparator compares and performs the output once. -/
  | pairCompare (p : Fin 2) (err : PairErr) (lag : Fin 2048) (x : WriteCtx)
  /-- PAIR_INPUT_LOAD (R408). A load outside TCM is performed once by the first core and replayed to the other. -/
  | pairInputLoad (core : Core) (x : CoreInput)
  /-- CHECKPOINT_WRITE (R410). A write to CSR 0x7C0 emits a checkpoint record and restarts the signature. -/
  | checkpointWrite (core : Core) (value : Word) (sig : BitVec 64)
  /-- FORCED_CHECKPOINT (R410). CHK_MAX × 1,024 instructions without a record emit a checkpoint record. -/
  | forcedCheckpoint (core : Core) (sig : BitVec 64)
  /-- PAIR_EVENT_DELIVERY (R411). An event reaches each core of a checked pair at the noted instruction count. -/
  | pairEventDelivery (core : Core) (ev : Fin 256) (count : Nat)
  /-- PAIR_LAG_TIMEOUT (R413). A record waits 20 µs or one core leads by 256 records; 0x0403 is issued. -/
  | pairLagTimeout (p : Fin 2)
  /-- PAIR_RESET_DONE (R414). The pair's TCMs are refilled and reloaded and the cores released; EV_SPX_RESET. -/
  | pairResetDone (p : Fin 2) (synd : Syndrome)
  /-- COMPARATOR_SELF_TEST (R417). Every 10 ms each comparator half is tested with an injected bit flip. -/
  | comparatorSelfTest (p : Fin 2) (ok : Bool)
  /-- HEARTBEAT_CHALLENGE (R432). Every 1 ms the Kiln issues a challenge and evaluates the previous deadline. -/
  | heartbeatChallenge (qa : Fin 16) (qb : Fin 16)
  /-- HEARTBEAT_ANSWER (R432). A write of SPX_HB_RESP or SPX_HB_RESP1 answers the challenge. -/
  | heartbeatAnswer (m : Master) (p : Fin 2) (one : Bool) (value : Word) (us : Nat)
  /-- CLAIM_COMMIT (R434). A write of SPX_CLAIM_C commits the claim record. -/
  | claimCommit (m : Master) (p : Fin 2)
  /-- CLAIM_TIMEOUT (R434). No commit for CLAIM_TMO applies CLAIM_STALE. -/
  | claimTimeout
  /-- KILN_POWER_CHECK (R435). Every 1 ms the Kiln forms link power and compares it with P_CLAIM. -/
  | kilnPowerCheck
  /-- KIRCHHOFF_TRIP (R437). A phase sum outside ±KIR_THR for KIR_FILT applies KIRCHHOFF. -/
  | kirchhoffTrip (set : Fin 4)
  /-- KILN_SPEED_EDGE (R439). The Kiln's receiver counts a rising edge on a machine's PIN. -/
  | kilnSpeedEdge (mach : Fin 2)
  /-- KILN_GATE_END (R439). A speed gate ends and overspeed, SLS, cross-check and SS1 are evaluated. -/
  | kilnGateEnd (mach : Fin 2) (t : Nat)
  /-- SLS_REQUEST (R440). Setting or clearing SLS_REQ arms or ends safely limited speed. -/
  | slsRequest (m : Master) (p : Fin 2) (bits : BitVec 2)
  /-- SS1_REQUEST (R445). A rising edge of SS1_REQ starts a category 1 stop. -/
  | ss1Request (m : Master) (p : Fin 2) (on : Bool)
  /-- STO_REQUEST (R442). A rising edge of STO_REQ applies entry STO_REQ, a category 0 stop. -/
  | stoRequest (m : Master) (p : Fin 2) (on : Bool)
  /-- STO_RELEASE (R442). A write changing STO_REL from 0 to 1 allows the STO switches to close. -/
  | stoRelease (m : Master) (p : Fin 2) (on : Bool)
  /-- BRAKE_RELEASE (R446). A write of BRK_REL allows the brake switches to close. -/
  | brakeRelease (m : Master) (p : Fin 2) (on : Bool)
  /-- GEN_RELEASE (R451). A write of GEN_REL allows GEN lines to go high. -/
  | genRelease (m : Master) (p : Fin 2) (bits : BitVec 4)
  /-- STO_FEEDBACK_TIMEOUT (R443). STO feedback disagrees after STO_OFF_T or STO_ON_T and STO_FB latches. -/
  | stoFeedbackTimeout
  /-- DARK_PULSE_START (R444). Every DP_PERIOD a dark pulse opens an STO or brake switch, or is postponed. -/
  | darkPulseStart (sw : Fin 3)
  /-- DARK_PULSE_END (R444). The switch closes when feedback reads off or STO_DARK applies at DP_T. -/
  | darkPulseEnd (sw : Fin 3) (off : Bool)
  /-- BRAKE_FEEDBACK_TIMEOUT (R447). BRK_FB disagrees with BRK_HS after BRK_FB_T and BRK_FB applies. -/
  | brakeFeedbackTimeout (agrees : Bool)
  /-- SS1_TIMEOUT (R445). SS1_T runs out before the stop completes and SS1 applies. -/
  | ss1Timeout
  /-- SAFE_RESET_EDGE (R449). A counted SAFE_RESET edge releases SAFE or is refused with RELEASE_REASON. -/
  | safeResetEdge (e : ResetEdge)
  /-- KILN_COMPARATOR_TEST (R427). Every 100 ms each summing comparator is tested; a miss applies KILN_TEST. -/
  | kilnComparatorTest (missed : Bool)
  /-- KLNCLK_WATCHDOG (R426). KLNCLK stops or leaves its band; the watchdog drives the safety pins off with 0x0F02. -/
  | klnclkWatchdog
  /-- CTRL_REACT (R423). A control-die class 3 to 5 reaction reaches the Kiln and is latched under CTRL_REACT. -/
  | ctrlReact
  /-- KILN_MIRROR_REFRESH (R33). Every 10 µs the link refreshes the KLN read-only mirror. -/
  | kilnMirrorRefresh
  /-- FRAME_RECEIVED (R458). A controller acknowledges a correct frame and writes it into its receive ring. -/
  | frameReceived (n : Fin 4) (f : RxFrame)
  /-- REEL_RECORD_RUN (R463). Reel runs the filter program on a ring record and delivers, drops or forwards it. -/
  | reelRecordRun (n : Fin 4) (r : ReelRun)
  /-- REEL_OVERRUN (R462). A filter run reaches REEL_WCET, is cut off and may reset Reel. -/
  | reelOverrun (n : Fin 4) (how : ReelEnd)
  /-- REEL_RESET_DONE (R462). Reel is reloaded from its verified copy and resumes at CAN_RX_RD. -/
  | reelResetDone
  /-- TX_PUSH (R464). A W3 write commits a transmit descriptor, or is refused when the queue is full. -/
  | txPush (m : Master) (n : Fin 4) (win : Fin 3) (w0 : Word) (w1 : Word) (w2 : Word) (w3 : Word)
  /-- TX_HEAD_FETCH (R466). The head entry's payload is read from shared SRAM, or dropped on a bus error. -/
  | txHeadFetch (n : Fin 4)
  /-- TX_ELIGIBLE (R468). The head entry's TX_AT is reached, or it is found late and sent or discarded. -/
  | txEligible (n : Fin 4)
  /-- TX_FRAME_SENT (R458). A frame is transmitted and echoed if OWN_ECHO is set. -/
  | txFrameSent (n : Fin 4)
  /-- TX_ATTEMPT_ERROR (R467). A transmission attempt ends in an error and counts towards RETRY_LIMIT. -/
  | txAttemptError (n : Fin 4) (passive : Bool)
  /-- BUS_OFF_HOLD_END (R469). BO_HOLD ends and recovery begins. -/
  | busOffHoldEnd (n : Fin 4)
  /-- BUS_OFF_RECOVERED (R469). 128 occurrences of 11 recessive bits recover the controller. -/
  | busOffRecovered (n : Fin 4)
  /-- CAN_DISABLE (R470). Writing EN 0 sets DRAINING on a controller. -/
  | canDisable (m : Master) (n : Fin 4)
  /-- CAN_ENABLE (R470). Writing EN 1 restarts the controller with bus integration. -/
  | canEnable (m : Master) (n : Fin 4)
  /-- CAN_FLUSH (R470). A FLUSH write discards every queued entry except one on the bus. -/
  | canFlush (m : Master) (n : Fin 4)
  /-- CAN_DRAIN_TIMEOUT (R470). No frame boundary within 1.2 ms stops the controller at once. -/
  | canDrainTimeout (n : Fin 4)
  /-- STATUS_FRAME_DUE (R472). A status definition falls due and Reel pushes its frame or counts a skip. -/
  | statusFrameDue (d : Fin 32)
  /-- AXLE_CMD (R479). An AXLE_CMD frame delivers torque, yaw and a mode request to pair A. -/
  | axleCmd (x : AxleCmd)
  /-- SPEED_CMD (R479). A SPEED_CMD frame delivers a marine speed command to pair A. -/
  | speedCmd (x : SpeedCmd)
  /-- STOP_CMD (R325). A STOP_CMD frame makes pair A write STO_REQ or SS1_REQ. -/
  | stopCmd (auth : Bool) (one : Bool)
  /-- EMR_CMD (R326). An authenticated EMR_CMD enters or renews EMERGENCY_RUN, or is refused. -/
  | emrCmd (auth : Bool) (cancel : Bool)
  /-- CHG_CMD (R377). A CHG_CMD frame delivers the host's charge command to pair B. -/
  | chgCmd (x : ChgCmd)
  /-- BMS_LIM (R379). A BMS limit frame refreshes the charge limits. -/
  | bmsLim (auth : Bool) (x : BmsLimits)
  /-- PRE_CMD (R392). A precharge command runs channel 2 with DIR 1 towards the pack voltage, or fails with FAIL 2. -/
  | preCmd (auth : Bool) (cOpen : Bool)
  /-- CONTACTOR_CLOSED (R393). The host's contactor-closed indication soft-stops the precharge and gives DONE. -/
  | contactorClosed (auth : Bool)
  /-- HOST_TIMEOUT (R479). A host command frame is absent for HOST_TMO and the timeout reaction starts. -/
  | hostTimeout
  /-- HOST_LOSS_TIMEOUT (R479). HOST_LOSS_T passes without a host frame and a category 1 stop follows. -/
  | hostLossTimeout
  /-- CHG_CMD_TIMEOUT (R479). No CHG_CMD for 300 ms ends the session with HOST_STOP after 1 s. -/
  | chgCmdTimeout
  /-- XCP_TIMEOUT (R480). An XCP session without a command for XCP_TMO ends. -/
  | xcpTimeout
  /-- XCP_CONNECT (R481). CONNECT opens an XCP session if the debug level allows. -/
  | xcpConnect (fd : Bool)
  /-- XCP_DISCONNECT (R481). DISCONNECT ends the XCP session. -/
  | xcpDisconnect
  /-- XCP_GET_STATUS (R481). GET_STATUS returns the session status. -/
  | xcpGetStatus
  /-- XCP_SYNCH (R481). SYNCH resynchronises the command exchange. -/
  | xcpSynch
  /-- XCP_GET_COMM_MODE_INFO (R481). GET_COMM_MODE_INFO returns communication mode information. -/
  | xcpGetCommModeInfo
  /-- XCP_SET_MTA (R481). SET_MTA sets the memory transfer address. -/
  | xcpSetMta (addr : Word)
  /-- XCP_UPLOAD (R481). UPLOAD reads signal-dictionary data from the MTA. -/
  | xcpUpload (n : Byte)
  /-- XCP_SHORT_UPLOAD (R481). SHORT_UPLOAD reads data from a given address. -/
  | xcpShortUpload (n : Byte) (addr : Word)
  /-- XCP_DOWNLOAD (R483). DOWNLOAD writes calibration data, reaching Whorls as one batch. -/
  | xcpDownload (data : List Byte)
  /-- XCP_SET_CAL_PAGE (R483). SET_CAL_PAGE switches the calibration page. -/
  | xcpSetCalPage (mode : Byte) (page : Byte)
  /-- XCP_GET_CAL_PAGE (R481). GET_CAL_PAGE returns the active calibration page. -/
  | xcpGetCalPage (mode : Byte)
  /-- XCP_COPY_CAL_PAGE (R482). COPY_CAL_PAGE copies one calibration page to another. -/
  | xcpCopyCalPage (src : Byte) (dst : Byte)
  /-- XCP_FREE_DAQ (R481). FREE_DAQ frees all DAQ lists. -/
  | xcpFreeDaq
  /-- XCP_ALLOC_DAQ (R481). ALLOC_DAQ allocates DAQ lists. -/
  | xcpAllocDaq (count : BitVec 16)
  /-- XCP_ALLOC_ODT (R481). ALLOC_ODT allocates ODTs. -/
  | xcpAllocOdt (list : BitVec 16) (count : Byte)
  /-- XCP_ALLOC_ODT_ENTRY (R481). ALLOC_ODT_ENTRY allocates ODT entries. -/
  | xcpAllocOdtEntry (list : BitVec 16) (odt : Byte) (count : Byte)
  /-- XCP_SET_DAQ_PTR (R481). SET_DAQ_PTR selects a DAQ list entry. -/
  | xcpSetDaqPtr (list : BitVec 16) (odt : Byte) (entry : Byte)
  /-- XCP_WRITE_DAQ (R481). WRITE_DAQ writes a DAQ entry. -/
  | xcpWriteDaq (size : Byte) (addr : Word)
  /-- XCP_SET_DAQ_LIST_MODE (R481). SET_DAQ_LIST_MODE sets a list's mode and event channel. -/
  | xcpSetDaqListMode (list : BitVec 16) (mode : Byte) (evch : BitVec 16) (prescaler : Byte) (prio : Byte)
  /-- XCP_START_STOP_DAQ_LIST (R481). START_STOP_DAQ_LIST starts or stops one DAQ list. -/
  | xcpStartStopDaqList (list : BitVec 16) (mode : Byte)
  /-- XCP_START_STOP_SYNCH (R481). START_STOP_SYNCH starts or stops selected DAQ lists together. -/
  | xcpStartStopSynch (mode : Byte)
  /-- XCP_GET_DAQ_PROCESSOR_INFO (R481). GET_DAQ_PROCESSOR_INFO returns DAQ capabilities. -/
  | xcpGetDaqProcessorInfo
  /-- XCP_UNKNOWN_COMMAND (R481). Any other XCP command is answered with ERR_CMD_UNKNOWN. -/
  | xcpUnknownCommand (code : Byte)
  /-- GET_INFO (R487). GET_INFO returns identity, lifecycle, counters and slot states. -/
  | getInfo (m : Master) (mb : Fin 3)
  /-- CHALLENGE (R496). CHALLENGE returns the 96-byte block and holds it as the mailbox's pending challenge. -/
  | challenge (m : Master) (mb : Fin 3) (purpose : Byte) (lifetime : BitVec 32) (argHash : Nat) (nonce : Nat)
  /-- RESPONSE (R497). RESPONSE checks a signed answer and grants a level or performs a privileged command. -/
  | response (m : Master) (mb : Fin 3) (a : AuthIn) (arg : PrivArg)
  /-- PASSWORD (R499). PASSWORD grants L1 on a correct password or counts a failure and may lock out. -/
  | password (m : Master) (mb : Fin 3) (hash : Nat)
  /-- CLOSE (R500). CLOSE lowers the debug level to L0. -/
  | close (m : Master) (mb : Fin 3)
  /-- PW_SET (R498). PW_SET stores the salted hash of a new password. -/
  | pwSet (m : Master) (mb : Fin 3) (auth : Option AuthIn) (hash : Nat)
  /-- KEY_IMPORT (R490). KEY_IMPORT unwraps a key blob into a CMAC or service key slot. -/
  | keyImport (m : Master) (mb : Fin 3) (slot : Byte) (key : Nat) (tagOk : Bool)
  /-- FRESH_SET (R476). FRESH_SET sets a definition's last and stored freshness values. -/
  | freshSet (m : Master) (mb : Fin 3) (auth : Option AuthIn) (dfn : Fin 128) (tx : Bool) (value : BitVec 32)
  /-- AES_GCM (R487). AES_GCM encrypts or decrypts shared SRAM data with a service key. -/
  | aesGcm (m : Master) (mb : Fin 3) (x : ServiceIn)
  /-- CMAC (R487). CMAC computes a MAC over shared SRAM data. -/
  | cmac (m : Master) (mb : Fin 3) (x : ServiceIn)
  /-- HASH (R487). HASH computes a digest over shared SRAM data. -/
  | hash (m : Master) (mb : Fin 3) (x : ServiceIn)
  /-- ECDSA_VERIFY (R487). ECDSA_VERIFY checks an ECDSA signature. -/
  | ecdsaVerify (m : Master) (mb : Fin 3) (x : ServiceIn)
  /-- LMS_VERIFY (R487). LMS_VERIFY checks an LMS signature. -/
  | lmsVerify (m : Master) (mb : Fin 3) (x : ServiceIn)
  /-- RANDOM (R488). RANDOM returns up to 256 random bytes unless a health test has failed. -/
  | random (m : Master) (mb : Fin 3) (x : ServiceIn)
  /-- LC_ADVANCE (R492). LC_ADVANCE blows the lifecycle bits of the target state. -/
  | lcAdvance (m : Master) (mb : Fin 3) (auth : Option AuthIn) (target : Fin 5) (copies : Fin 4)
  /-- SEC_ADVANCE (R487). SEC_ADVANCE raises the main or limp security counter. -/
  | secAdvance (m : Master) (mb : Fin 3) (auth : Option AuthIn) (limp : Bool) (value : Fin 257)
  /-- KEY_PROVISION (R489). KEY_PROVISION writes a key hash and roles, or the Skein key, into the fuses. -/
  | keyProvision (m : Master) (mb : Fin 3) (auth : Option AuthIn) (arg : PrivArg)
  /-- KEY_REVOKE (R489). KEY_REVOKE revokes a key slot unless no signing slot would remain. -/
  | keyRevoke (m : Master) (mb : Fin 3) (auth : Option AuthIn) (slot : Fin 4)
  /-- SELF_TEST (R488). SELF_TEST runs known-answer tests of every Tinder engine. -/
  | selfTest (m : Master) (mb : Fin 3) (ok : Bool)
  /-- TND_BAD_COMMAND (R487). An unlisted command code gives RESULT 1. -/
  | tndBadCommand (m : Master) (mb : Fin 3) (code : Byte)
  /-- TND_COMMAND_DONE (R487). A Tinder command completes, DONE is set and EV_TND_DONE is raised. -/
  | tndCommandDone
  /-- CHALLENGE_EXPIRY (R497). A pending challenge expires 300 s after issue. -/
  | challengeExpiry (mb : Fin 3)
  /-- CHALLENGE_LOCKOUT_END (R497). The 1 s CHALLENGE refusal after a failed response ends. -/
  | challengeLockoutEnd (mb : Fin 3)
  /-- DEBUG_LIFETIME_EXPIRY (R497). A grant's lifetime ends and the level falls to L0. -/
  | debugLifetimeExpiry
  /-- L2_CONDITION_LOSS (R495). A GEN rise, STO release or high link revokes L2 to L1 within 10 µs. -/
  | l2ConditionLoss
  /-- CORE_HALT (R502). A DBG_HALT bit set halts a core, and both cores of a checked pair. -/
  | coreHalt (m : Master) (core : Fin 4)
  /-- CORE_RESUME (R412). A DBG_HALT bit cleared resumes the pair, performing core 0's records and resynchronising. -/
  | coreResume (m : Master) (core : Fin 4)
  /-- REEL_HALT (R494). HALT_REEL set halts Reel and suspends its WCET measurement. -/
  | reelHalt (m : Master)
  /-- REEL_RESUME (R494). HALT_REEL cleared resumes Reel. -/
  | reelResume (m : Master)
  /-- RESYNC_TIMEOUT (R501). A pair still resynchronising 1 ms after revocation is faulted with 0x0403. -/
  | resyncTimeout (p : Fin 2)
  /-- IDCODE (R504). The JTAG IDCODE instruction returns the identification code. -/
  | idcode
  /-- BYPASS (R504). The JTAG BYPASS instruction selects the bypass register. -/
  | bypass
  /-- SAMPLE_PRELOAD (R504). The JTAG SAMPLE/PRELOAD instruction captures the balls. -/
  | samplePreload
  /-- EXTEST (R504). The JTAG EXTEST instruction drives balls, only at L3 with R495 or in BLANK. -/
  | extest (pins : List (Fin 64 × Bool))
  /-- UPD_BEGIN (R510). UPD_BEGIN checks and accepts an update manifest. -/
  | updBegin (m : Master) (mb : Fin 3) (x : Manifest)
  /-- UPD_WRITE (R514). UPD_WRITE writes the next step's component into flash and reads it back. -/
  | updWrite (m : Master) (mb : Fin 3)
  /-- UPD_ACTIVATE (R516). UPD_ACTIVATE makes a written step take effect hitlessly or at the next START. -/
  | updActivate (m : Master) (mb : Fin 3)
  /-- UPD_CONFIRM (R521). UPD_CONFIRM makes the update permanent and releases the old copies. -/
  | updConfirm (m : Master) (mb : Fin 3) (advance : Bool)
  /-- UPD_REVERT (R522). UPD_REVERT undoes the activated steps in reverse order. -/
  | updRevert (m : Master) (mb : Fin 3)
  /-- UPD_STATUS (R509). UPD_STATUS returns the update journal. -/
  | updStatus (m : Master) (mb : Fin 3)
  /-- PROBATION_DEADLINE (R522). The probation deadline passes and the update is reverted. -/
  | probationDeadline
  /-- SPX_HANDOVER_DISARM (R518). 200 µs after an answer the pending pair handover is disarmed. -/
  | spxHandoverDisarm (p : Fin 2)
  /-- SPX_TCM_LOAD_DONE (R518). Both TCMs are loaded from the new image and the cores are released at the migration entry. -/
  | spxTcmLoadDone (p : Fin 2)
  /-- MIGRATION_TIMEOUT (R518). HO_TAG + 1 does not appear within MIG_T; the pair is reset onto the old image. -/
  | migrationTimeout (p : Fin 2)
  /-- XIN_LOSS (R528). No XIN edge for 200 ns; the PLLs enter holdover and 0x1112 is issued. -/
  | xinLoss
  /-- PLL_UNLOCK (R527). A PLL loses lock and enters holdover with 0x1113. -/
  | pllUnlock (pll : Fin 4)
  /-- PLL_FREQUENCY_WINDOW (R528). A 10 µs frequency window ends; two bad windows issue 0x1114. -/
  | pllFrequencyWindow (pll : Fin 4) (count : Nat)
  /-- TOKEN_PERIOD_CHECK (R528). The Kiln's mean token period over 256 tokens is checked and may issue 0x1115. -/
  | tokenPeriodCheck (period : BitVec 16)
  /-- PLL_RELOCK (R530). A RELOCK write re-runs one PLL's lock, or is ignored with RELOCK_REF. -/
  | pllRelock (m : Master) (mask : BitVec 4)
  /-- PLL_RELOCK_DONE (R530). The relock completes and the PLL's domains restart. -/
  | pllRelockDone (pll : Fin 4) (ok : Bool)
  /-- CROSSING_STALE (R536). A value crossing sees no source edge for 8 periods; STALE is raised and 0x1116 issued. -/
  | crossingStale (src : ClockSrc)
  /-- CROSSING_RECOVERED (R536). The source clock runs again and the crossing takes a new agreed value. -/
  | crossingRecovered (src : ClockSrc)
  /-- TS_LO_READ (R531). A read of CLK_TS_LO copies TSTAMP[63:32] into CLK_TS_HI. -/
  | tsLoRead (m : Master)
  /-- MEMORY_READ (R541). A memory read corrects single-bit errors and refuses poisoned or uncorrectable words. -/
  | memoryRead (m : Master) (addr : Word) (size : Fin 9) (synd : Syndrome)
  /-- MEMORY_WRITE (R543). A memory write replaces a word, or merges a narrow write by read-modify-write. -/
  | memoryWrite (m : Master) (addr : Word) (size : Fin 9) (value : BitVec 64) (x : WriteCtx)
  /-- SCRUB_WORD (R546). The scrubber reads its next word, correcting or poisoning it. -/
  | scrubWord (u : ScrubMem) (synd : Syndrome)
  /-- SCRUB_DISABLE (R547). Clearing the scrubber's EN stops it after the word in progress. -/
  | scrubDisable (m : Master)
  /-- BUCKET_LEAK (R549). Every LEAK_PERIOD each bucket above 0 falls by 1. -/
  | bucketLeak
  /-- ASH_RECORD_WRITTEN (R550). The ash writer completes a record in the ring and raises EV_ASH_WRITTEN. -/
  | ashRecordWritten
  /-- EVENT_DELIVERY (R555). An event leaves its crossing and sets the pending bits of its routed destinations. -/
  | eventDelivery (n : Fin 256)
  /-- EVENT_CLAIM (R556). A read of EVR_CLAIM returns the highest-priority pending event and clears it. -/
  | eventClaim (m : Master) (p : Fin 2)
  /-- XFER_START (R559). Setting a transfer channel's EN starts copying beats. -/
  | xferStart (m : Master) (c : Fin 8)
  /-- XFER_DRAIN (R558). Clearing EN drains the channel, dropping beats not started. -/
  | xferDrain (c : Fin 8) (started : Nat)
  /-- XFER_DONE (R559). A transfer completes or stops on an error. -/
  | xferDone (c : Fin 8)
  /-- SIGNAL_WRITE (R561). A write to a signal-dictionary entry with CAL set goes to the working page or the queue. -/
  | signalWrite (m : Master) (k : Fin 131072) (value : Word) (synd : Syndrome)
  /-- DAQ_TIMER_EXPIRY (R562). A timer event channel's PERIOD expires and its DAQ lists are sampled. -/
  | daqTimerExpiry (c : Fin 16)
  /-- LOGIC_SELF_TEST (R566). A KIND 1 request runs a Spindle logic self-test and TCM march on a pair. -/
  | logicSelfTest (m : Master) (p : Fin 2)
  /-- SRAM_MARCH (R567). A KIND 2 request runs a transparent march on one shared SRAM bank. -/
  | sramMarch (m : Master) (bank : Fin 16)
  /-- WHORL_MARCH (R566). A KIND 3 request runs a march on one Whorl memory. -/
  | whorlMarch (m : Master) (w : Fin 8)
  /-- OLT_PLL_RELOCK (R566). A KIND 4 request relocks one PLL as an online test. -/
  | oltPllRelock (m : Master) (pll : Fin 4)
  /-- OLT_TINDER_SELF_TEST (R566). A KIND 5 request runs the Tinder self-test. -/
  | oltTinderSelfTest (m : Master) (ok : Bool)
  /-- OLT_TEST_DONE (R569). An online test ends and raises EV_OLT_DONE, and EV_OLT_FAIL on failure. -/
  | oltTestDone (r : OltEnd)
  /-- CAN_LOOPBACK_TEST (R564). A disabled controller runs its internal loopback test every CAN_TEST_PERIOD. -/
  | canLoopbackTest (n : Fin 4)
  /-- CAN_TEST_REQUEST (R564). A TEST_REQ bit runs the loopback test at once, or is refused. -/
  | canTestRequest (m : Master) (mask : BitVec 4)
  /-- SW_SLICE_RESULT (R565). A write of DBG_OLT_SW reports a software self-test slice, issuing 0x1403 on failure. -/
  | swSliceResult (m : Master) (value : Word)
  /-- REGISTER_READ (R8). A read of a register holding an RC field returns the value and clears the field. -/
  | registerRead (m : Master) (addr : Word) (size : Fin 9)
  /-- RECEIVE_ERROR (R469). A controller detects an error while receiving a frame and updates its receive error counter under fault confinement, possibly entering error passive or bus-off. -/
  | receiveError (n : Fin 4) (dominant : Bool)
  /-- PROTOCOL_EXCEPTION (R454). A reserved bit received in a frame makes the controller leave the frame and go to bus integration. -/
  | protocolException (n : Fin 4)
  /-- BUS_INTEGRATION_DONE (R470). A controller in INTEGRATING sees the bus idle sequence and becomes ERROR_ACTIVE, able to receive and send. -/
  | busIntegrationDone (n : Fin 4)
  /-- LOOPBACK_TEST_END (R564). A CAN loopback test ends, clearing IN_TEST, setting LAST_FAIL on failure and applying an EN written during the test. -/
  | loopbackTestEnd (n : Fin 4) (ok : Bool)
  /-- HEALTH_TEST_FAIL (R488). A continuous health test of the random generator fails, issuing 0x0204 and refusing RANDOM and CHALLENGE until the next START. -/
  | healthTestFail
  /-- PARK_LOCK_STALL (R344). An actuator speed below 2 % of nominal for PL_STALL_T switches the park-lock bridges to LOW_ON. -/
  | parkLockStall (bridges : BitVec 12)
  /-- PARK_LOCK_HOLD_END (R344). PL_HOLD_T after LOW_ON ends and the park-lock bridges go to HIZ. -/
  | parkLockHoldEnd (bridges : BitVec 12)
  /-- SS1_STOP_COMPLETE (R445). With no machine having a PIN, a safe stop 1 completes 100 ms after its request edge and STO is applied without a latch. -/
  | ss1StopComplete
  deriving DecidableEq, Repr

end Sys2Proof
end

