-- ==== Sys2Proof/Config.lean ====
section
/-! DEFINITION. What the spec leaves open: free values (constants with no body, so that nothing can be proved about the
value) and the deviations of units whose accuracy alone is given. Each is named in notes/assumptions. -/

namespace Sys2Proof

/-- Deviation of the rotation unit from the exact result, a number of LSB for component c of operands x, y at angle b
(R215 gives only a bound); free. -/
opaque Config.rotDev : Nat → Word → Word → Word → Int

/-- Result of the magnitude unit for (x, y), R215: only its accuracy is given; free. -/
opaque Config.vecMagDev : Word → Word → Int

/-- Result of the angle unit for (x, y), R215: only its accuracy is given; free. -/
opaque Config.vecAngDev : Word → Word → Int

/-- Deviation of the cosine (c = 0) and sine (c = 1) unit for an angle, R215; free. -/
opaque Config.scsDev : Nat → Word → Int

/-- Deviation of the reciprocal unit, R215; free. -/
opaque Config.rcpDev : Word → Int

/-- Deviation of the square-root unit, R215; free. -/
opaque Config.sqrtDev : Word → Int

/-- Result of Ember's FILT with k = 0, for which R106 states none; free. -/
opaque Config.filtZero : Word → Word → Word

/-- Per-unit speed of a speed in 2^-40 turn/s on a machine whose SPD_BASE is 0, for which R277 states none; free. -/
opaque Config.noBase : Int → Int

/-- What a DAQ sample holds for an entry whose source answers with a bus error, for which R562 states nothing; free. -/
opaque Config.daqHole : Nat → Word

/-- The bit of a ring record's flag word that Reel's program writes for outcome or mark k (R463: the Skein's program places them): 0
OVERRUN, 1 AUTH_FAIL, 2 FLOOD, 3 delivered, 4 dropped, 5 forwarded; free. -/
opaque Config.reelFlag : Nat → BitVec 16

/-- AES-CMAC of a message under the key (R474): its value is left to the unit; free. -/
opaque Config.cmac : Nat → List Byte → BitVec 64

/-- Receive error counter after a reception in error passive, for which ISO 11898-1 allows a range; free within it. -/
opaque Config.recAfterPassive : Nat → Nat

/-- Achieved axle torque in STAT0 (R472), which no rule computes from a state of the part; free, by heartbeat count. -/
opaque Config.statTorque : Nat → BitVec 16

/-- DC-link voltage in STAT0 (R472) for a link code: the divider is the system's; free. -/
opaque Config.statLink : Nat → BitVec 16

/-- Results that R488, R509 and R514 do not state: 0 RESULT of a SELF_TEST that fails, 1 RESULT of a command it then refuses, 2 RESULT and
3 REASON of an UPD_WRITE whose stored bytes fail their checks; free. -/
opaque Config.tndOpen : Nat → Nat

/-- PW_SALT, from the random generator (R489), by device identity; free. -/
opaque Config.pwSalt : Nat → Nat

/-- The identification code of the JTAG port (R504), which the manual does not give; free. -/
opaque Config.idcode : Nat

/-- Levels of the balls as SAMPLE/PRELOAD captures them (R504), which the board gives; free, by time. -/
opaque Config.ballLevels : Nat → Nat

/-- Contents of the external flash behind the mapped window (R31), by instant, address and width; free. -/
opaque Config.flashData : Nat → Nat → Nat → Nat

end Sys2Proof
end

