-- ==== Sys2Proof/Machine/State.lean ====
section
/-! DEFINITION. The state of the block as plain data. Every memory-mapped register has its one home in `regs`, a sparse
table over the bus addresses of R34 whose unlisted addresses read the reset word of the register map
(Machine/RegTable.lean); the structures below hold what the spec gives the part beside its registers.
`State.reset` is the unpowered part before VBAT rises: nothing listed anywhere, no command waiting. -/

namespace Sys2Proof.Machine
open Sys2Proof

/-- The part never stops with a fault: what the spec calls an error is a bus error, a refusal code or a fault code, all
of them next states. The one constructor is for a command that carries data no such row can carry. -/
inductive Fault where
  /-- Raised by no meaning of this model; kept so that the type is inhabited (safe: it only stops). -/
  | impossibleCommand
  deriving DecidableEq, Repr

/-- Why a command has no meaning. -/
inductive Refusal where
  /-- Raised by Dispatch for a row that has no meaning yet (safe: the machine stops). -/
  | notModelled (mnemonic : String)
  deriving DecidableEq, Repr

/-- A sparse table: entries at strictly rising keys, none of them equal to what an unlisted key reads as.
A memory (`List Host.Cell`) is one, with bytes as values. -/
abbrev SMap (α : Type) := List (Nat × α)

/-- What the last bus access answered (R3, R30, R32): nothing yet, a write taken, data, or a bus error. -/
inductive BusResp where
  | none | done | data (w : Nat) | error
  deriving DecidableEq, Repr

/-- Which unit a fault code was issued for, where R39, R43 or R552 ask for it. -/
inductive FaultSrc where
  | other | cnvCh (c : Nat) | pset (p : Nat) | loop (w l : Nat) | whorl (w : Nat)
  deriving DecidableEq, Repr

/-- A fault reaction that has been issued: code, class (R9) and unit. -/
structure React where
  code : Nat
  cls : Nat
  src : FaultSrc := .other
  deriving DecidableEq, Repr

/-- Where the start sequencer stands (R56, R64, R67, R71, R590). -/
inductive Phase where
  | noPower | supplies | pllStart | loading | run | hold | dormantEntry | dormant | dieReset
  deriving DecidableEq, Repr

/-- A requested transition in progress (BUSY): its target mode and, for CHARGE, the V2L sub-state. -/
structure Trans where
  target : Nat
  v2l : Bool
  deriving DecidableEq, Repr

/-- A loaded component that is in effect or verified: type, instance, version, interfaces. -/
structure CompInfo where
  type : Nat
  inst : Nat
  version : Nat
  hash : Nat := 0
  provides : List Iface := []
  requires : List Iface := []
  deriving DecidableEq, Repr

/-- How far the loader has come (R91, R94). -/
structure LoaderSt where
  flashUp : Bool := false
  headerOk : Bool := false
  descs : List Descriptor := []
  descsOk : Bool := false
  done : List CompInfo := []
  configDone : Bool := false
  writeOnceDone : Bool := false
  tableSent : Bool := false
  limp : Bool := false
  hdr : Option Header := none
  wo : WriteOnce := {}
  program : List Word := []
  images : SMap (List Byte) := []
  deriving DecidableEq, Repr

/-- System control, mode machine and start sequencer (chapters 2 and 3). -/
structure SysSt where
  phase : Phase := .noPower
  kind : Nat := 0
  supEn : Bool := false
  trans : Option Trans := none
  reacts : List React := []
  lastFault : Nat := 0
  causes : List React := []
  safeCls : Nat := 0
  safeCauses : List React := []
  onSeq : List Nat := []
  offSeq : List Nat := []
  pd0 : Bool := false
  released : Bool := false
  startTimeout : Nat := 500
  loader : LoaderSt := {}
  cfg : SysRecord := {}
  cfgVersion : Nat := 0
  supWarn : Nat := 0
  supFlt : Nat := 0
  linkCrcRun : Nat := 0
  linkUp : Bool := false
  linkLost : Bool := false
  dcdcHeld : Bool := false
  wlDone : List Nat := []
  kilnTable : List Byte := []
  vbat : Nat := 0
  deriving DecidableEq, Repr

/-- Ember (chapter 4): what is not one of its memory-mapped registers. -/
structure EmberSt where
  e : SMap Word := []
  pc : Nat := 0
  inPass : Bool := false
  count : Nat := 0
  again : Bool := false
  timerTrig : Bool := false
  alarmTrig : Bool := false
  edges : Nat := 0
  levels : Nat := 0
  cnt : SMap Nat := []
  convOn : Bool := false
  parityBad : Bool := false
  progNext : Option (List Word) := none
  alarmArmed : Bool := false
  latched : Bool := false
  deriving DecidableEq, Repr

/-- One event crossing (R533). -/
structure XingSt where
  flight : Bool := false
  pend : Bool := false
  deriving DecidableEq, Repr

/-- An ash record in flight (R550, R551), header fields as they were at the fault. -/
structure AshRec where
  source : Nat
  code : Nat
  cls : Nat
  mode : Nat
  prevMode : Nat
  ts : Nat
  rtc : Nat
  body : List Byte
  deriving DecidableEq, Repr

/-- An XCP event-channel sample waiting to be packed (R562). -/
structure DaqSample where
  list : Nat
  ts : Nat
  values : List Word
  deriving DecidableEq, Repr

/-- A transfer channel in progress: beats already copied (R559). -/
structure XferSt where
  active : Bool := false
  beat : Nat := 0
  deriving DecidableEq, Repr

/-- Events, timestamp, memory care, signal dictionary (chapters 19, 20); the trace buffer's messages, whether the first is being sent,
messages dropped since the last one that fitted (R572). -/
structure FabricSt where
  tsRun : Bool := false
  ts : Nat := 0
  xing : SMap XingSt := []
  badWin : SMap Nat := []
  relocking : Nat := 0
  poison : List Nat := []
  scrubPtr : SMap Nat := []
  lapStart : Nat := 0
  ashQ : List AshRec := []
  ashDropped : Bool := false
  xfer : SMap XferSt := []
  dict : SMap (BitVec 64) := []
  trace : List (List Byte) := []
  traceMid : Bool := false
  traceDrop : Nat := 0
  deriving DecidableEq, Repr

/-- A window's result between its end and its delivery (R146 to R149); values as in the record. -/
structure WinRes where
  mean : Int
  min : Int
  max : Int
  pts : List Int
  ptMiss : Nat
  w : Nat
  flags : Nat
  ts : Nat
  endLeg : Nat := 0
  anchorLeg : Nat := 0
  deriving DecidableEq, Repr

/-- One window integrator (R137 to R142, R152). The configuration words are those taken at the window's start. -/
structure WinSt where
  open_ : Bool := false
  ctl : Word := 0
  startCfg : Word := 0
  endCfg : Word := 0
  seg : Word := 0
  pts : SMap (Int × Nat) := []
  res : Option WinRes := none
  seq : Nat := 0
  anchor : Option Nat := none
  segShort : Bool := false
  deriving DecidableEq, Repr

/-- The slices of one channel (R125 to R133): the slice in each slot, the pending coefficients of the spare, the step. -/
structure SliceSt where
  slots : SMap Nat := []
  calOfs : Int := 0
  calGain : Nat := 0x2000
  calDone : Bool := false
  calBad : Bool := false
  retry : Bool := false
  deriving DecidableEq, Repr

/-- Fast analogue front end (chapter 5). Keys: window 2n + w, point 4n + p, channel n. -/
structure AfeSt where
  wins : SMap WinSt := []
  ptLast : SMap Int := []
  slices : SMap SliceSt := []
  deriving DecidableEq, Repr

/-- One twin channel's check (R157, R158). -/
structure TwinSt where
  codes : List Int := []
  fas : List Int := []
  skip : Bool := false
  run : Nat := 0
  arb : Bool := false
  lastBad : Bool := false
  deriving DecidableEq, Repr

/-- Housekeeping converters (chapter 5). -/
structure HkSt where
  hist : SMap (List Nat) := []
  twins : SMap TwinSt := []
  deriving DecidableEq, Repr
/-- What a result in flight does when it is written (R208, R209, R214). -/
inductive FlightOp where
  | reg (d : Nat) (v : Word)
  | flg (d : Nat) (v : Word)
  | accAdd (a : Nat) (t : Int)
  | accSet (a : Nat) (v : Int)
  | accClamp (a : Nat) (m : Int)
  deriving DecidableEq, Repr

/-- The four execution flags (R206). -/
structure Flags where
  sat : Bool := false
  divz : Bool := false
  domain : Bool := false
  tblClamp : Bool := false
  deriving DecidableEq, Repr

/-- A result in flight: the cycle in which it is final, the word (by issue number) and slot that produced it,
what it writes and the flags it sets then. -/
structure Flight where
  due : Nat
  word : Nat
  slot : Nat
  op : FlightOp
  flags : Flags := {}
  deriving DecidableEq, Repr

/-- How an execution stands: none, running, ended by END, by SAFE, or cut off (R172, R220). -/
inductive ExecPhase where
  | none | running | ended | safe | cut
  deriving DecidableEq, Repr

/-- An active LOOP repetition: first and last word of the body, passes left (R220). -/
structure Repeat where
  first : Nat
  last : Nat
  left : Nat
  deriving DecidableEq, Repr

/-- One execution and its register bank (R204 to R208): `cyc` is the cycle of the last word issued, `pc` the word that
issues next, `wpc` the address of the last word issued, `slot1` that its slot 1 is still to execute, `out0` the port its
slot 0 wrote. -/
structure ExecSt where
  phase : ExecPhase := .none
  loop : Nat := 0
  g : SMap Word := []
  a : SMap Int := []
  flags : Flags := {}
  cyc : Nat := 0
  started : Bool := false
  words : Nat := 0
  pc : Nat := 0
  wpc : Nat := 0
  slot1 : Bool := false
  out0 : Option Nat := none
  taken : Bool := false
  rep : Option Repeat := none
  flight : List Flight := []
  illegal : Bool := false
  poison : Bool := false
  codeUe : Bool := false
  inputs : SMap Word := []
  fresh : Nat := 0
  deriving DecidableEq, Repr

/-- What a loop's output phase is to copy (R168, R169, R172, R186, R199). -/
inductive OutKind where
  | none | normal | safe | standby
  deriving DecidableEq, Repr

/-- One loop, beside its registers: what its output phase is to copy, an execution in progress (from its start to its
output phase), consecutive stale starts and skips, a BACKGROUND trigger that waits, an enabling write in
the trigger's own cycle (R175), a fault that stops it at its next
boundary. -/
structure LoopSt where
  out : OutKind := .none
  inExec : Bool := false
  staleRun : Nat := 0
  overlapRun : Nat := 0
  bgWaiting : Bool := false
  skipOne : Bool := false
  stopNext : Option Nat := none
  deriving DecidableEq, Repr

/-- An entry of the coefficient write queue: a window offset, or a table descriptor (R176). -/
inductive QEntry where
  | coef (off : Nat) (v : Word)
  | tbl (t : Nat) (v : Word)
  deriving DecidableEq, Repr

/-- What a standby does (R192 to R196). -/
inductive StandbyPhase where
  | idle | preparing | copying | shadowing
  deriving DecidableEq, Repr

/-- One Whorl (chapters 6 and 7). `target` is the Whorl a standby prepares for or shadows; `sub` a failed Whorl's
substitute. -/
structure WhorlSt where
  timed : ExecSt := {}
  bg : ExecSt := {}
  outs : SMap Word := []
  loops : SMap LoopSt := []
  queue : List QEntry := []
  prep : StandbyPhase := .idle
  target : Nat := 0
  agree : SMap Nat := []
  agreed : Bool := false
  sessMiss : Nat := 0
  subst : Bool := false
  sub : Option Nat := none
  repair : List Nat := []
  held : Bool := false
  deriving DecidableEq, Repr

/-- All Whorls, and the handover in progress (R196, R197): source, standby, aborted copies in a row. -/
structure WhlSt where
  w : SMap WhorlSt := []
  handover : Option (Nat × Nat) := none
  copyAborts : Nat := 0
  deriving DecidableEq, Repr

/-- A carrier generator (R224 to R228): half being run, active period, phase word. -/
structure CgSt where
  running : Bool := false
  rising : Bool := true
  per : Nat := 0
  phase : Nat := 0
  deriving DecidableEq, Repr
/-- One leg (R229 to R247), beside its registers: whether ARM is in effect, the compare values transferred, those a late
write leaves to this carrier event (R14), the half's C and H, the dead times in force, the safe output's OFF_REQ (asked
for, in effect), the loss reaction's, a wait for the
carrier event, the CYCLE limit (and a PLACE leg's, R351), bootstrap bookkeeping, the converter block's hold and its release
at the next carrier event, its overshoot hold (1 held, 2 waits for the carrier event), a firing of the top or bottom
switch (R360), and the one switch a pre-biased start lets switch (R356). -/
structure LegSt where
  armed : Bool := false
  cmpA : Int := 0
  cmpB : Int := 0
  late : Option (Int × Int) := none
  c : Nat := 0
  h : Nat := 0
  dtTB : Nat := 0
  dtBT : Nat := 0
  offPend : Bool := false
  offReq : Bool := false
  offLoss : Bool := false
  waitCarrier : Bool := false
  cycle : Bool := false
  sinceRefresh : Nat := 0
  bottomOn : Nat := 0
  uvAt : List Nat := []
  period : Nat := 0
  cycleB : Bool := false
  cnvHold : Bool := false
  cnvFree : Bool := false
  nlOver : Nat := 0
  nlFire : Option Bool := none
  only : Option Bool := none
  deriving DecidableEq, Repr

/-- A feedback window that is open on a switch (R237, R238). -/
inductive FbWin where
  | none | off | on
  deriving DecidableEq, Repr

/-- One switch: its internal command, a turn-on that waits for dead time and feedback, its window and refusal runs. -/
structure SwSt where
  cmd : Bool := false
  pendOn : Bool := false
  deadRun : Bool := false
  win : FbWin := .none
  runOff : Nat := 0
  runOn : Nat := 0
  deriving DecidableEq, Repr

/-- A finding of the fault-map window (R253 to R255); `above` is the polarity of a comparator's trip. -/
inductive Finding where
  | failed (sw : Nat) (gflt : Bool)
  | stuckOn (sw : Nat) (code : Nat)
  | comp (c : Nat) (above : Bool)
  | hard (c : Nat) (above : Bool)
  | bothOf (leg : Nat)
  | unattributable
  deriving DecidableEq, Repr

/-- One protection set, beside its registers: the findings of its window, the switches that counted as commanded on before
the window's first trigger, a software request that waits for the next carrier event (2 top, 3 bottom), and the d and q
currents of the last executions of its loop, packed as an ash record holds them (R552). -/
structure PsetSt where
  findings : List Finding := []
  wasOn : List Nat := []
  request : Nat := 0
  hist : List Nat := []
  deriving DecidableEq, Repr

/-- One window comparator: 0 inside, 1 above, 2 below its thresholds; blanked or not. -/
structure CompSt where
  out : Nat := 0
  blank : Bool := false
  deriving DecidableEq, Repr

/-- PWM array and gate interface (chapter 8). -/
structure PwmSt where
  cg : SMap CgSt := []
  legs : SMap LegSt := []
  sw : SMap SwSt := []
  psets : SMap PsetSt := []
  comps : SMap CompSt := []
  genSeen : Nat := 0
  lastSpd : SMap Int := []
  lastThe : SMap Word := []
  deriving DecidableEq, Repr
/-- One converter channel (chapter 12), beside its registers: the RAMP_ID of the last copy and the one a start must differ
from, whether it still waits for its ramp, the first hiccup and the trim code of this start issued, a CYCLE limit in this
period, periods since the ramp origin, trims in 2^-45 duty, the shed ramp (copies done, legs that leave), a firing allowed
again, a stop at the next valley, the last copy's commands and measurements, its history, telemetry sums. -/
structure ChSt where
  lastRamp : Nat := 0
  baseRamp : Nat := 0
  waitRamp : Bool := false
  hiccuped : Bool := false
  trimSaid : Bool := false
  limitedNow : Bool := false
  periods : Nat := 0
  trims : SMap Int := []
  shedN : Nat := 0
  leaving : List Nat := []
  nlBlocked : Bool := false
  nlReleased : Bool := false
  stopAtValley : Bool := false
  lastCmd : List Word := []
  lastMeas : List Word := []
  hist : List Nat := []
  telSum : SMap Int := []
  telCnt : SMap Nat := []
  deriving DecidableEq, Repr

/-- The converter block. -/
structure CnvSt where
  ch : SMap ChSt := []
  deriving DecidableEq, Repr
/-- One sensor source (R263 to R276): the last valid measurement as an angle in 2^-64 turn, whether each machine's tracker
has it still to apply, runs of erroneous and (since a loss) valid measurements, direction of the last count. -/
structure SrcSt where
  theta : Nat := 0
  fresh0 : Bool := false
  fresh1 : Bool := false
  ever : Bool := false
  errRun : Nat := 0
  goodRun : Nat := 0
  dirUp : Bool := true
  deriving DecidableEq, Repr

/-- One encoder: turns, first index since EN. One Hall triplet: reference sector. One serial interface: a frame in progress
and whether its result counts. A resolver: run of discarded measurements. -/
structure SensSt where
  rev : Int := 0
  firstIdx : Option Nat := none
  sector : Option Nat := none
  busy : Bool := false
  drop : Bool := false
  ampRun : Nat := 0
  deriving DecidableEq, Repr

/-- A tracker (R277 to R289): θ in 2^-64 turn, ω in 2^-40 turn/s, α in 2^-40 turn/s², steps run, instant of the last
measurement in 1.25 ns of those steps, turns of θ since acquisition, the offset of an encoder's counts and the last
measurement applied, step and counts at acquisition, runs towards loss, the speed at loss (2^-29 per unit), the causes
of the present step, the mechanical position of the last step. -/
structure TrkSt where
  theta : Nat := 0
  omega : Int := 0
  alpha : Int := 0
  steps : Nat := 0
  tLast : Int := 0
  turns : Int := 0
  ofs : Nat := 0
  lastM : Nat := 0
  acqStep : Nat := 0
  counts : Nat := 0
  lossRun : Nat := 0
  xchkRun : Nat := 0
  lossSpd : Int := 0
  stepCauses : Nat := 0
  mech : Nat := 0
  lastUp : Bool := true
  deriving DecidableEq, Repr

/-- A back-EMF observer (R281, R282): ψ in 2^-58 per unit, θ_pll in 2^-64 turn, ω_pll in 2^-40 turn/s, R and L in force,
whether EMF_R was written, time below the threshold in 1.25 ns, updates at or above it. -/
structure EmfSt where
  psiA : Int := 0
  psiB : Int := 0
  theta : Nat := 0
  omega : Int := 0
  r : Int := 0
  l : Int := 0
  written : Bool := true
  lockT : Nat := 0
  badRun : Nat := 0
  deriving DecidableEq, Repr

/-- An emulation output: phase of the quadrature, remainder, output position, direction of what is due. -/
structure EmuSt where
  rem : Int := 0
  pos : Nat := 0
  due : Int := 0
  z : Bool := false
  deriving DecidableEq, Repr

/-- What the Flyer delivers with a window (R10, R279, R295): Whorl, port, value, absent where the item is not valid. -/
structure SnapItem where
  whorl : Nat
  port : Nat
  value : Option Word
  deriving DecidableEq, Repr

/-- The Flyer (chapter 9). Sensors: 0-3 encoders, 4-5 Halls, 6-7 resolvers, 8-9 serial. Snapshots wait per AFE window. -/
structure FlySt where
  src : SMap SrcSt := []
  sens : SMap SensSt := []
  trk : SMap TrkSt := []
  emf : SMap EmfSt := []
  emu : SMap EmuSt := []
  snaps : SMap (List SnapItem) := []
  deriving DecidableEq, Repr
/-- The Kiln (chapter 15), on KVDD: its live registers, which the KLN block mirrors, and its checks. Bit sets are numbers.
`kstate` as KSTATE; `table` the reaction table it has locked, `tries` the mismatched transfers of this start; `latch` the entries
latched, `cls5` and `brake` what they carry, `genLow` the lines they hold low; `kreq` the requests as they last arrived, and
which of their bits count as released by a change from 0 to 1; the levels it drives (before dark pulses); switches a dark
pulse holds open and pulses postponed; conditions present now, by entry; checks suspended (0 to 3 sets, 4 power, 5 link). -/
structure KlnSt where
  mail : List React := []
  kstate : Nat := 0
  table : List Byte := []
  locked : Bool := false
  tries : Nat := 0
  entryFix : Bool := false
  latch : Nat := 0
  cls5 : Bool := false
  brake : Bool := false
  genLow : Nat := 0
  wdog : Bool := false
  tableCrc : Bool := false
  por : Bool := true
  first : Nat := 0
  last : Nat := 0
  kreq : Word := 0
  genOk : Nat := 0
  stoOk : Bool := false
  brkOk : Bool := false
  gen : Nat := 0
  stoHs : Bool := false
  stoLs : Bool := false
  brkHs : Bool := false
  brkLs : Bool := false
  faultN : Bool := false
  pulse : Nat := 0
  postponed : Nat := 0
  present : Nat := 0
  susp : Nat := 0
  reason : Nat := 0
  missA : Nat := 0
  missB : Nat := 0
  dpFail : Nat := 0
  dpDone : Nat := 0
  hbQ : SMap Nat := []
  hbSeq : Nat := 0
  hbState : SMap Nat := []
  hbRun : SMap Nat := []
  claims : SMap Int := []
  unchk : Nat := 0
  twins : SMap Int := []
  tqRun : SMap Nat := []
  linkV : Nat := 0
  ovRun : Nat := 0
  uvRun : Nat := 0
  pSum : Int := 0
  pCnt : Nat := 0
  pNum : Int := 0
  pDen : Nat := 1
  pwrRun : Nat := 0
  edges : SMap Nat := []
  counts : SMap Nat := []
  slsOn : Nat := 0
  slsWait : SMap Nat := []
  xRun : SMap Nat := []
  ss1 : Bool := false
  n0 : SMap Nat := []
  stopMs : SMap Nat := []
  crcRun : Nat := 0
  deriving DecidableEq, Repr

/-- A record of a checkpoint buffer (R407, R410, R412): an output, an output that has been performed and is only compared, a
checkpoint record with its written value and signature, one that CHK_MAX forced. -/
inductive PRec where
  | out (addr size : Nat) (value : Nat)
  | done (addr size : Nat) (value : Nat)
  | check (value : Nat) (sig : Nat)
  | forced (sig : Nat)
  deriving DecidableEq, Repr

/-- A pair (R407 to R421): the buffers' records; the inputs one core is ahead by (address, width, answer) and whether that is core 1; the
deliveries noted for one core (4 * event + core, retired-instruction count); the records complete in both buffers at a debug halt, or
core 0's to be performed at the resume; each core's records since its first checkpoint after the resume. -/
structure PairSt where
  buf0 : List PRec := []
  buf1 : List PRec := []
  ins : List (Nat × Nat × BusResp) := []
  lead1 : Bool := false
  events : List (Nat × Nat) := []
  halt : Nat := 0
  sync0 : List PRec := []
  sync1 : List PRec := []
  deriving DecidableEq, Repr

/-- The Spindle pairs. -/
structure SpxSt where
  pairs : SMap PairSt := []
  deriving DecidableEq, Repr

/-- How a machine is being started (R315, R316): not, in the catch phase, on the sensor, on θ_pll without lock, with I-f, in
a requested short circuit until the lock. -/
inductive StartPhase where
  | off | catching | onSensor | onPll | onIf | shorted
  deriving DecidableEq, Repr

/-- The supervision's state of one machine: commanded torque and speed and whether a command has come, speed reference and
its acceleration (2^-45 per unit), integrator, the load observer and its last ten values, shock state, torque reference,
start, step of the return from a loss reaction, category 1 stop and its tasks below STOP_SPEED, host loss, winch hold. -/
structure MachSup where
  cmdT : Int := 0
  cmdSpd : Int := 0
  commanded : Bool := false
  vRef : Int := 0
  aRef : Int := 0
  integ : Int := 0
  wHat : Int := 0
  tlHat : Int := 0
  tlHist : List Int := []
  shock : Bool := false
  tRef : Int := 0
  tPi : Int := 0
  start : StartPhase := .off
  running : Bool := false
  back : Nat := 0
  stop1 : Bool := false
  below : Nat := 0
  hostLost : Bool := false
  hold : Nat := 0
  holdT : Nat := 0
  deriving DecidableEq, Repr

/-- The supervision's state of one set: the torque limit as it is raised after a return to RUN, its share. -/
structure SetSup where
  lim : Int := 0
  share : Int := 0
  idRef : Int := 0
  iqRef : Int := 0
  mode : Nat := 0
  peakI : Nat := 0
  deriving DecidableEq, Repr

/-- The standard machine supervision (chapter 10): machines, sets, EMERGENCY_RUN with its duration in tasks and peak
temperatures, the limit (1/128, in 2^-16) in force on its exit ramp, a class 1 fault that reduces the limits. -/
structure SupSt where
  machs : SMap MachSup := []
  sets : SMap SetSup := []
  emr : Bool := false
  emrTasks : Nat := 0
  emrPeak : List Int := [0, 0, 0, 0]
  exitFac : SMap Nat := []
  derated : Bool := false
  alive : SMap Nat := []
  deriving DecidableEq, Repr


/-- The actuator pre-drivers (chapter 11): the MODE in effect of each bridge, for a write of PWM waits for the leg's next
command (R333). -/
structure ActSt where
  eff : SMap Nat := []
  deriving DecidableEq, Repr

/-- One temperature sensor: its last samples, the newest first, valid samples in a row, and whether it counts as invalid. -/
structure SensorSt where
  hist : List Int := []
  good : Nat := 0
  bad : Bool := false
  deriving DecidableEq, Repr

/-- One thermal rule: its step by temperature, its effective temperatures of the last 100 ms, newest first, evaluations with
a low rate and at the shutdown level in a row. -/
structure RuleSt where
  step : Nat := 0
  hist : List Int := []
  lowRun : Nat := 0
  shutRun : Nat := 0
  deriving DecidableEq, Repr

/-- Temperature and derating (chapter 14): sensors, rules, the factor each target is to reach, dwell of the selectors in
evaluations, and the bands whose calibration sets are still to be loaded. -/
structure ThmSt where
  sensors : SMap SensorSt := []
  rules : SMap RuleSt := []
  want : SMap Nat := []
  dwell : SMap Nat := []
  calDue : List Nat := []
  deriving DecidableEq, Repr

/-- The pilot unit and the charging supervision (chapter 13): the pilot state that periods agree on and how many, instants of
changes between B and C, the duty last seen plus 1 (0 steady) and for how many periods, the current applied, the host's digital limit,
milliseconds without a cable class; the host's command, the battery's limits and whether they are fresh, why the session is
paused (1 limits, 2 pilot), the ramp to zero, end reasons that wait for the task, a host stop; V2L overload; the 12 V
battery's times; the contactors, a precharge that stops; the last alive counter accepted, plus 1. -/
structure ChgSt where
  cand : Nat := 7
  candN : Nat := 0
  bcAt : List Nat := []
  iSeen : Nat := 0
  iRun : Nat := 0
  iUse : Nat := 0
  digital : Nat := 0
  ppLost : Nat := 0
  cmd : Bool := false
  bms : Option BmsLimits := none
  fresh : Bool := false
  pause : Nat := 0
  ramp : Nat := 0
  ends : List Nat := []
  overMs : Nat := 0
  preMs : Nat := 0
  rechMs : Nat := 0
  secMs : Nat := 0
  contactors : Bool := false
  preStop : Bool := false
  hvHold : Bool := false
  hostMs : Nat := 0
  alive : Nat := 0
  deriving DecidableEq, Repr
/-- Tinder's fuses (R489): copies blown of each lifecycle bit, roles, revoked slots, key hashes, the Skein key, salt, counters,
CONFIG bits and identity. -/
structure FuseSt where
  lc : List Nat := [0, 0, 0, 0]
  role : SMap Nat := []
  revoked : Nat := 0
  keyHash : SMap Nat := []
  skeinKey : Nat := 0
  pwSalt : Nat := 0
  secCtr : Nat := 0
  limpCtr : Nat := 0
  jtagOff : Bool := false
  pwOff : Bool := false
  deviceId : Nat := 0
  deriving DecidableEq, Repr

/-- The update journal (R513): the step states, the operation in flight on the flash (0 none, 1 write, 2 confirmation, 3 revert) and
its step, and whether a START has run the written image. -/
structure Journal where
  lastSeq : Nat := 0
  manifest : Nat := 0
  nSteps : Nat := 0
  steps : SMap Nat := []
  probCnt : Nat := 0
  probT : Nat := 0
  deadline : Nat := 0
  reason : Nat := 0
  op : Nat := 0
  step : Nat := 0
  next : Nat := 0
  started : Bool := false
  advance : Bool := false
  deriving DecidableEq, Repr

/-- Tinder's private MRAM region (R475, R490, R498, R499, R513): keys by slot, the password's hash, failures, lockout, journal. -/
structure PrivMram where
  keys : SMap Nat := []
  pwHash : Option Nat := none
  pwFails : Nat := 0
  lockUntil : Nat := 0
  journal : Journal := {}
  deriving DecidableEq, Repr

/-- A pending challenge (R496, R497). -/
structure Challenge where
  purpose : Nat
  lifetime : Nat
  argHash : Nat
  deriving DecidableEq, Repr

/-- A command that Tinder has carried out and whose completion is due: result and data out; `wait`, while what it began goes on. -/
structure TndDone where
  result : Nat := 0
  out : List Byte := []
  wait : Bool := false
  deriving DecidableEq, Repr

/-- Tinder (chapter 17). What is volatile lies in PD1: the pending challenges, mailboxes that refuse CHALLENGE, failed tests, the
mailbox served, committed commands that wait, whether the debug grant has a lifetime and the TSTAMP at which it ends. -/
structure TndSt where
  fuse : FuseSt := {}
  priv : PrivMram := {}
  chal : SMap (Option Challenge) := []
  lockout : Nat := 0
  rngBad : Bool := false
  testBad : Bool := false
  serving : Option (Nat × TndDone) := none
  waiting : SMap (Option TndCommand) := []
  expiry : Bool := false
  grantEnd : Nat := 0
  deriving DecidableEq, Repr

/-- Field update, what lies in PD1 and in staging (chapter 18): the manifest in progress, the images kept of replaced components
and those staged, which handovers a pair (key p) or Whorl (key 16 + w) waits for (0 none, 1 to the new image, 2 back to the old), the pairs whose migration
runs, where an updated Whorl's loops run now (its number + 1), a write that was repeated, a revert (0 its steps to be undone, 1 its flash being rewritten). -/
structure UpdSt where
  man : Option Manifest := none
  oldImg : SMap (List Byte) := []
  newImg : SMap (List Byte) := []
  oldComp : List CompInfo := []
  want : SMap Nat := []
  migr : SMap Nat := []
  loc : SMap Nat := []
  retried : Bool := false
  revertAt : Option Nat := none
  deriving DecidableEq, Repr
/-- An entry of a transmit queue (R464): its four descriptor words and, for a frame of Reel's own, which definition it belongs to. -/
structure TxEntry where
  w0 : Word
  w1 : Word
  w2 : Word
  w3 : Word
  dfn : Option Nat := none
  deriving DecidableEq, Repr

/-- A controller (chapter 16), beside its registers: its queue with the head first, the words written to its push windows, the head's
payload as read, whether the head takes part in arbitration and was late, an EN or an FD test that waits for the end of a loopback
test, when 0x1001 was last issued. -/
structure CanSt where
  queue : List TxEntry := []
  win : SMap Word := []
  local_ : Option (List Byte) := none
  arb : Bool := false
  late : Bool := false
  enAfter : Bool := false
  dropAt : Option Nat := none
  deriving DecidableEq, Repr

/-- An event frame that waits (R473): definition, merged count, code, first instant. -/
structure EvFrame where
  dfn : Nat
  merged : Nat
  code : Nat
  ts : Nat
  deriving DecidableEq, Repr

/-- Reel's own bookkeeping (R462 to R478): consecutive overruns, last accepted freshness, acceptances, failures and renewals needed by
definition, tokens by class, when 0x1013 was last issued, records undelivered and written in each mailbox, event frames, skips,
heartbeat, definitions moved to their alternates, and whether the debug port halts it. -/
structure ReelSt where
  ovrRun : Nat := 0
  last : SMap Nat := []
  accepts : SMap Nat := []
  authRun : SMap Nat := []
  tokens : SMap Nat := []
  tokenAt : SMap Nat := []
  floodAt : Option Nat := none
  mbxN : SMap Nat := []
  mbxW : SMap Nat := []
  evs : List EvFrame := []
  skips : SMap Nat := []
  beat : Nat := 0
  lostSeen : Bool := false
  moved : List Nat := []
  txF : SMap Nat := []
  deriving DecidableEq, Repr

/-- The four controllers and Reel. -/
structure BusSt where
  can : SMap CanSt := []
  reel : ReelSt := {}
  deriving DecidableEq, Repr

/-- An answer of the XCP service: positive with its data, or an error. -/
inductive XcpReply where
  | none
  | ok (data : List Nat)
  | cmdUnknown | accessDenied | outOfRange | writeProtected | sequence | memoryOverflow | pageNotValid | synch | notConnected
  deriving DecidableEq, Repr

/-- A DAQ list (R481, R562): its ODTs of dictionary entries, event channel, mode, prescaler and triggers it skipped, running or selected,
its sample that is not packed yet, an overload to show. -/
structure DaqList where
  odts : List (List Nat) := []
  evch : Nat := 0
  mode : Nat := 0
  prescaler : Nat := 1
  skip : Nat := 0
  running : Bool := false
  selected : Bool := false
  sample : Option DaqSample := none
  overload : Bool := false
  deriving DecidableEq, Repr

/-- The XCP session that pair B serves (R481 to R483). -/
structure XcpSt where
  connected : Bool := false
  mta : Nat := 0
  lists : List DaqList := []
  ptr : Option DaqPtr := none
  working : Bool := true
  fd : Bool := false
  reply : XcpReply := .none
  deriving DecidableEq, Repr

/-- Online tests (chapter 21): the test that runs (KIND, TARGET), TSTAMP at the request of a logic self-test (R568), ball levels
driven by EXTEST, bypass or identification register selected at the JTAG port. -/
structure OltSt where
  test : Option (Nat × Nat) := none
  logicTs : Nat := 0
  extest : List (Nat × Bool) := []
  jtagReg : Nat := 0
  jtagOut : Nat := 0
  deriving DecidableEq, Repr
/-- The whole block: registers, memory, the last bus answer, the engines, and the commands waiting. -/
structure State where
  regs : SMap Word := []
  mem : List Host.Cell := []
  resp : BusResp := .none
  sys : SysSt := {}
  emb : EmberSt := {}
  fab : FabricSt := {}
  afe : AfeSt := {}
  hk : HkSt := {}
  whl : WhlSt := {}
  pwm : PwmSt := {}
  cnv : CnvSt := {}
  fly : FlySt := {}
  kln : KlnSt := {}
  spx : SpxSt := {}
  sup : SupSt := {}
  act : ActSt := {}
  thm : ThmSt := {}
  chg : ChgSt := {}
  tnd : TndSt := {}
  upd : UpdSt := {}
  bus : BusSt := {}
  xcp : XcpSt := {}
  olt : OltSt := {}
  pending : List Instr := []
  deriving DecidableEq, Repr

/-- The part before power: every register at its reset value, memories empty, no command waiting. -/
def State.reset : State := {}

end Sys2Proof.Machine
end

