-- ==== Sys2Proof/Machine/Operands.lean ====
section
/-! DEFINITION. How operands are read and formed: bit fields of a word, two's complement, bytes, rounding, and the sparse
tables every array of the state is kept in. -/

namespace Sys2Proof.Machine
open Sys2Proof

/-- Value at key `k` of a sparse table whose unlisted keys read `d`. -/
def SMap.get {α : Type} (d : α) (m : SMap α) (k : Nat) : α :=
  match m with
  | [] => d
  | (a, v) :: r => if a = k then v else SMap.get d r k

/-- Put `v` at key `k`, before the first greater key; `d` is what an unlisted `k` reads, so that putting `d` only removes the entry. -/
def SMap.put {α : Type} [DecidableEq α] (d : α) (m : SMap α) (k : Nat) (v : α) : SMap α :=
  match m with
  | [] => if v = d then [] else [(k, v)]
  | (a, w) :: r =>
    if a = k then SMap.put d r k v
    else if k < a ∧ v ≠ d then (k, v) :: (a, w) :: r.filter (fun e => e.1 != k)
    else (a, w) :: SMap.put d r k v

/-- Remove every entry whose key fails `keep`. -/
def SMap.restrict {α : Type} (m : SMap α) (keep : Nat → Bool) : SMap α := m.filter (fun e => keep e.1)

/-- Canonical form of a sparse table: keys strictly rising, no entry equal to what an unlisted key reads. -/
abbrev SMap.wf {α : Type} [DecidableEq α] (d : Nat → α) (m : SMap α) : Prop :=
  m.Pairwise (fun x y => x.1 < y.1) ∧ ∀ e ∈ m, e.2 ≠ d e.1

/-- Bits [hi:lo] of a word, as a number. -/
def getBits (w : Word) (hi lo : Nat) : Nat := w.toNat / 2 ^ lo % 2 ^ (hi + 1 - lo)

/-- The word with bits [hi:lo] replaced by `v`. -/
def setBits (w : Word) (hi lo v : Nat) : Word :=
  BitVec.ofNat 32 (w.toNat % 2 ^ lo + (v % 2 ^ (hi + 1 - lo)) * 2 ^ lo + w.toNat / 2 ^ (hi + 1) * 2 ^ (hi + 1))

/-- Set or clear bit `b` of a number. -/
def putBit (n b : Nat) (v : Bool) : Nat :=
  if v then (if n.testBit b then n else n + 2 ^ b) else (if n.testBit b then n - 2 ^ b else n)

/-- Two's complement reading of an n-bit number. -/
def signed (n : Nat) (v : Nat) : Int := if v < 2 ^ (n - 1) then (v : Int) else (v : Int) - 2 ^ n

/-- Two's complement bits of a number, in n bits. -/
def unsigned (n : Nat) (v : Int) : Nat := (v % (2 ^ n : Int)).toNat

/-- A word read as a signed number (R200). -/
def sint (w : Word) : Int := signed 32 w.toNat

/-- A word from a signed number, wrapping. -/
def ofSint (v : Int) : Word := BitVec.ofNat 32 (unsigned 32 v)

/-- Clip to [lo, hi]. -/
def clampI (lo hi v : Int) : Int := if v < lo then lo else if hi < v then hi else v

/-- Clip a number to [lo, hi]. -/
def clampN (lo hi v : Nat) : Nat := if v < lo then lo else if hi < v then hi else v

/-- Quotient rounded to nearest, ties away from zero (R130, R201). -/
def roundDiv (a b : Int) : Int :=
  if b = 0 then 0
  else
    let n := a.natAbs
    let d := b.natAbs
    let q := (2 * n + d) / (2 * d)
    if (decide (a < 0)) == (decide (b < 0)) then (q : Int) else -(q : Int)

/-- Little-endian number of a byte list. -/
def fromBytes : List Byte → Nat
  | [] => 0
  | b :: r => b.toNat + 256 * fromBytes r

/-- `n` little-endian bytes of a number. -/
def toBytes : Nat → Nat → List Byte
  | 0, _ => []
  | n + 1, v => BitVec.ofNat 8 (v % 256) :: toBytes n (v / 256)

end Sys2Proof.Machine
end

