-- ==== Sys2Proof/Machine/RegTable.lean ====
section
/-! DEFINITION. The register map of the part: every register of every block with its base address (R34), its array dimensions,
its fields, their access codes (R6) and their reset values (R5: a field whose Reset entry is Skein or Fuses reads zero until it is written).
The rows are those of the register tables at the ends of the chapters of spec/. -/

namespace Sys2Proof.Machine

/-- Access code of a field, R6. -/
inductive Acc where
  | rw | ro | wo | w1c | w1s | rc | wl
  deriving DecidableEq, Repr

/-- One field of a register: bits, access, reset value. -/
structure FieldDesc where
  hi : Nat
  lo : Nat
  acc : Acc
  reset : Nat
  deriving DecidableEq, Repr

/-- A register or an array of registers: `dims` lists count and stride, outermost first. -/
structure RegGroup where
  base : Nat
  dims : List (Nat × Nat)
  fields : List FieldDesc
  deriving DecidableEq, Repr

/-- A named field: base address, up to three strides, bits. -/
structure Fld where
  base : Nat
  s1 : Nat
  s2 : Nat
  s3 : Nat
  hi : Nat
  lo : Nat
  deriving DecidableEq, Repr

/-- D2D_STAT, spec/01_architecture.md. -/
def Reg.D2D_STAT : RegGroup := ⟨0x30000040, [],
    [⟨31, 31, .w1c, 0⟩, ⟨30, 30, .ro, 0⟩, ⟨29, 29, .ro, 0⟩, ⟨23, 16, .rc, 0⟩, ⟨15, 8, .rc, 0⟩, ⟨3, 0, .ro, 0⟩]⟩
def F.D2D_STAT.LOST : Fld := ⟨0x30000040, 0, 0, 0, 31, 31⟩
def F.D2D_STAT.LINK_UP : Fld := ⟨0x30000040, 0, 0, 0, 30, 30⟩
def F.D2D_STAT.CRC_SAT : Fld := ⟨0x30000040, 0, 0, 0, 29, 29⟩
def F.D2D_STAT.CRC_ERR : Fld := ⟨0x30000040, 0, 0, 0, 23, 16⟩
def F.D2D_STAT.TOKEN_LATE : Fld := ⟨0x30000040, 0, 0, 0, 15, 8⟩
def F.D2D_STAT.LAT_TRIM : Fld := ⟨0x30000040, 0, 0, 0, 3, 0⟩
/-- MODE_STAT, spec/02_modes_power_start.md. -/
def Reg.MODE_STAT : RegGroup := ⟨0x30000000, [],
    [⟨31, 31, .ro, 0⟩, ⟨19, 19, .ro, 0⟩, ⟨18, 18, .ro, 0⟩, ⟨17, 17, .ro, 0⟩, ⟨16, 16, .ro, 0⟩, ⟨15, 12, .ro, 0⟩, ⟨9, 9, .ro, 0⟩,
     ⟨8, 8, .ro, 0⟩, ⟨6, 4, .ro, 0⟩, ⟨2, 0, .ro, 1⟩]⟩
def F.MODE_STAT.STANDBY_OK : Fld := ⟨0x30000000, 0, 0, 0, 31, 31⟩
def F.MODE_STAT.BENCH : Fld := ⟨0x30000000, 0, 0, 0, 19, 19⟩
def F.MODE_STAT.KILN_TABLE_OLD : Fld := ⟨0x30000000, 0, 0, 0, 18, 18⟩
def F.MODE_STAT.LIMP_IMAGE : Fld := ⟨0x30000000, 0, 0, 0, 17, 17⟩
def F.MODE_STAT.LIMP_LATCH : Fld := ⟨0x30000000, 0, 0, 0, 16, 16⟩
def F.MODE_STAT.REFUSE_REASON : Fld := ⟨0x30000000, 0, 0, 0, 15, 12⟩
def F.MODE_STAT.BUSY : Fld := ⟨0x30000000, 0, 0, 0, 9, 9⟩
def F.MODE_STAT.V2L : Fld := ⟨0x30000000, 0, 0, 0, 8, 8⟩
def F.MODE_STAT.PREV_MODE : Fld := ⟨0x30000000, 0, 0, 0, 6, 4⟩
def F.MODE_STAT.MODE : Fld := ⟨0x30000000, 0, 0, 0, 2, 0⟩
/-- MODE_REQ, spec/02_modes_power_start.md. -/
def Reg.MODE_REQ : RegGroup := ⟨0x30000004, [],
    [⟨31, 16, .wo, 0⟩, ⟨8, 8, .wo, 0⟩, ⟨2, 0, .wo, 0⟩]⟩
def F.MODE_REQ.KEY : Fld := ⟨0x30000004, 0, 0, 0, 31, 16⟩
def F.MODE_REQ.V2L : Fld := ⟨0x30000004, 0, 0, 0, 8, 8⟩
def F.MODE_REQ.TARGET : Fld := ⟨0x30000004, 0, 0, 0, 2, 0⟩
/-- PD_STAT, spec/02_modes_power_start.md. -/
def Reg.PD_STAT : RegGroup := ⟨0x30000010, [],
    [⟨26, 16, .ro, 0⟩, ⟨10, 0, .ro, 0⟩]⟩
def F.PD_STAT.FILLED : Fld := ⟨0x30000010, 0, 0, 0, 26, 16⟩
def F.PD_STAT.ON : Fld := ⟨0x30000010, 0, 0, 0, 10, 0⟩
/-- SUP_STAT, spec/02_modes_power_start.md. -/
def Reg.SUP_STAT : RegGroup := ⟨0x30000050, [],
    [⟨24, 24, .w1c, 1⟩, ⟨20, 16, .w1c, 0⟩, ⟨12, 8, .ro, 0⟩, ⟨4, 0, .ro, 0⟩]⟩
def F.SUP_STAT.KILN_POR : Fld := ⟨0x30000050, 0, 0, 0, 24, 24⟩
def F.SUP_STAT.FLT_SEEN : Fld := ⟨0x30000050, 0, 0, 0, 20, 16⟩
def F.SUP_STAT.WARN : Fld := ⟨0x30000050, 0, 0, 0, 12, 8⟩
def F.SUP_STAT.FLT : Fld := ⟨0x30000050, 0, 0, 0, 4, 0⟩
/-- The registers of block SYSCTL, R34. -/
def Reg.blockSYSCTL : List RegGroup := [
  Reg.D2D_STAT,
  Reg.MODE_STAT,
  Reg.MODE_REQ,
  Reg.PD_STAT,
  Reg.SUP_STAT]

/-- CLK_STAT, spec/19_clocks_crossings.md. -/
def Reg.CLK_STAT : RegGroup := ⟨0x30010000, [],
    [⟨31, 31, .ro, 0⟩, ⟨30, 30, .w1c, 0⟩, ⟨29, 26, .ro, 0⟩, ⟨25, 22, .ro, 0⟩, ⟨21, 18, .w1c, 0⟩, ⟨17, 17, .w1c, 0⟩,
     ⟨16, 16, .w1c, 0⟩, ⟨15, 0, .ro, 0⟩]⟩
def F.CLK_STAT.XIN_OK : Fld := ⟨0x30010000, 0, 0, 0, 31, 31⟩
def F.CLK_STAT.XIN_LOST : Fld := ⟨0x30010000, 0, 0, 0, 30, 30⟩
def F.CLK_STAT.LOCK : Fld := ⟨0x30010000, 0, 0, 0, 29, 26⟩
def F.CLK_STAT.HOLDOVER : Fld := ⟨0x30010000, 0, 0, 0, 25, 22⟩
def F.CLK_STAT.FREQ_ERR : Fld := ⟨0x30010000, 0, 0, 0, 21, 18⟩
def F.CLK_STAT.TOKEN_ERR : Fld := ⟨0x30010000, 0, 0, 0, 17, 17⟩
def F.CLK_STAT.RELOCK_REF : Fld := ⟨0x30010000, 0, 0, 0, 16, 16⟩
def F.CLK_STAT.LAST_CODE : Fld := ⟨0x30010000, 0, 0, 0, 15, 0⟩
/-- CLK_CFG, spec/19_clocks_crossings.md. -/
def Reg.CLK_CFG : RegGroup := ⟨0x30010004, [],
    [⟨31, 29, .rw, 0⟩, ⟨7, 4, .ro, 0⟩, ⟨3, 0, .wo, 0⟩]⟩
def F.CLK_CFG.CLK_CLASS : Fld := ⟨0x30010004, 0, 0, 0, 31, 29⟩
def F.CLK_CFG.RELOCK_BUSY : Fld := ⟨0x30010004, 0, 0, 0, 7, 4⟩
def F.CLK_CFG.RELOCK : Fld := ⟨0x30010004, 0, 0, 0, 3, 0⟩
/-- CLK_TS_LO, spec/19_clocks_crossings.md. -/
def Reg.CLK_TS_LO : RegGroup := ⟨0x30010010, [],
    [⟨31, 0, .ro, 0⟩]⟩
def F.CLK_TS_LO.TS_LO : Fld := ⟨0x30010010, 0, 0, 0, 31, 0⟩
/-- CLK_TS_HI, spec/19_clocks_crossings.md. -/
def Reg.CLK_TS_HI : RegGroup := ⟨0x30010014, [],
    [⟨31, 0, .ro, 0⟩]⟩
def F.CLK_TS_HI.TS_HI : Fld := ⟨0x30010014, 0, 0, 0, 31, 0⟩
/-- CLK_TS_EPOCH, spec/19_clocks_crossings.md. -/
def Reg.CLK_TS_EPOCH : RegGroup := ⟨0x30010018, [],
    [⟨31, 0, .ro, 0⟩]⟩
def F.CLK_TS_EPOCH.EPOCH_SEC : Fld := ⟨0x30010018, 0, 0, 0, 31, 0⟩
/-- CLK_EPOCH_SUB, spec/19_clocks_crossings.md. -/
def Reg.CLK_EPOCH_SUB : RegGroup := ⟨0x3001001C, [],
    [⟨14, 0, .ro, 0⟩]⟩
def F.CLK_EPOCH_SUB.EPOCH_SUB : Fld := ⟨0x3001001C, 0, 0, 0, 14, 0⟩
/-- CLK_TOKEN, spec/19_clocks_crossings.md. -/
def Reg.CLK_TOKEN : RegGroup := ⟨0x30010020, [],
    [⟨15, 0, .ro, 0⟩]⟩
def F.CLK_TOKEN.TOKEN_PER : Fld := ⟨0x30010020, 0, 0, 0, 15, 0⟩
/-- The registers of block CLK, R34. -/
def Reg.blockCLK : List RegGroup := [
  Reg.CLK_STAT,
  Reg.CLK_CFG,
  Reg.CLK_TS_LO,
  Reg.CLK_TS_HI,
  Reg.CLK_TS_EPOCH,
  Reg.CLK_EPOCH_SUB,
  Reg.CLK_TOKEN]

/-- CDC_STALE, spec/19_clocks_crossings.md. -/
def Reg.CDC_STALE : RegGroup := ⟨0x30020000, [],
    [⟨31, 31, .ro, 0⟩, ⟨15, 8, .w1c, 0⟩, ⟨7, 0, .ro, 0⟩]⟩
def F.CDC_STALE.SAT : Fld := ⟨0x30020000, 0, 0, 0, 31, 31⟩
def F.CDC_STALE.STALE_SEEN : Fld := ⟨0x30020000, 0, 0, 0, 15, 8⟩
def F.CDC_STALE.STALE : Fld := ⟨0x30020000, 0, 0, 0, 7, 0⟩
/-- CDC_EVT_OVR, spec/19_clocks_crossings.md. -/
def Reg.CDC_EVT_OVR : RegGroup := ⟨0x30020100, [(32, 4)],
    [⟨31, 28, .rc, 0⟩, ⟨27, 24, .rc, 0⟩, ⟨23, 20, .rc, 0⟩, ⟨19, 16, .rc, 0⟩, ⟨15, 12, .rc, 0⟩, ⟨11, 8, .rc, 0⟩, ⟨7, 4, .rc, 0⟩,
     ⟨3, 0, .rc, 0⟩]⟩
def F.CDC_EVT_OVR.OVR7 : Fld := ⟨0x30020100, 4, 0, 0, 31, 28⟩
def F.CDC_EVT_OVR.OVR6 : Fld := ⟨0x30020100, 4, 0, 0, 27, 24⟩
def F.CDC_EVT_OVR.OVR5 : Fld := ⟨0x30020100, 4, 0, 0, 23, 20⟩
def F.CDC_EVT_OVR.OVR4 : Fld := ⟨0x30020100, 4, 0, 0, 19, 16⟩
def F.CDC_EVT_OVR.OVR3 : Fld := ⟨0x30020100, 4, 0, 0, 15, 12⟩
def F.CDC_EVT_OVR.OVR2 : Fld := ⟨0x30020100, 4, 0, 0, 11, 8⟩
def F.CDC_EVT_OVR.OVR1 : Fld := ⟨0x30020100, 4, 0, 0, 7, 4⟩
def F.CDC_EVT_OVR.OVR0 : Fld := ⟨0x30020100, 4, 0, 0, 3, 0⟩
/-- The registers of block CDC, R34. -/
def Reg.blockCDC : List RegGroup := [
  Reg.CDC_STALE,
  Reg.CDC_EVT_OVR]

/-- EVR_ROUTE, spec/20_memory_events.md. -/
def Reg.EVR_ROUTE : RegGroup := ⟨0x30030000, [(256, 4)],
    [⟨31, 31, .rw, 0⟩, ⟨30, 30, .rw, 0⟩, ⟨29, 29, .rw, 0⟩, ⟨28, 28, .rw, 0⟩, ⟨27, 27, .rw, 0⟩, ⟨26, 24, .rw, 0⟩, ⟨23, 20, .rw, 0⟩]⟩
def F.EVR_ROUTE.TO_A : Fld := ⟨0x30030000, 4, 0, 0, 31, 31⟩
def F.EVR_ROUTE.TO_B : Fld := ⟨0x30030000, 4, 0, 0, 30, 30⟩
def F.EVR_ROUTE.TO_REEL : Fld := ⟨0x30030000, 4, 0, 0, 29, 29⟩
def F.EVR_ROUTE.TO_TRACE : Fld := ⟨0x30030000, 4, 0, 0, 28, 28⟩
def F.EVR_ROUTE.TO_DAQ : Fld := ⟨0x30030000, 4, 0, 0, 27, 27⟩
def F.EVR_ROUTE.PRIO : Fld := ⟨0x30030000, 4, 0, 0, 26, 24⟩
def F.EVR_ROUTE.DAQ_CH : Fld := ⟨0x30030000, 4, 0, 0, 23, 20⟩
/-- EVR_PEND_A, spec/20_memory_events.md. -/
def Reg.EVR_PEND_A : RegGroup := ⟨0x30030400, [(8, 4)],
    [⟨31, 0, .w1c, 0⟩]⟩
def F.EVR_PEND_A.PEND : Fld := ⟨0x30030400, 4, 0, 0, 31, 0⟩
/-- EVR_PEND_B, spec/20_memory_events.md. -/
def Reg.EVR_PEND_B : RegGroup := ⟨0x30030420, [(8, 4)],
    [⟨31, 0, .w1c, 0⟩]⟩
def F.EVR_PEND_B.PEND : Fld := ⟨0x30030420, 4, 0, 0, 31, 0⟩
/-- EVR_CLAIM_A, spec/20_memory_events.md. -/
def Reg.EVR_CLAIM_A : RegGroup := ⟨0x30030440, [],
    [⟨31, 31, .ro, 0⟩, ⟨10, 8, .ro, 0⟩, ⟨7, 0, .rc, 0⟩]⟩
def F.EVR_CLAIM_A.VALID : Fld := ⟨0x30030440, 0, 0, 0, 31, 31⟩
def F.EVR_CLAIM_A.PRIO : Fld := ⟨0x30030440, 0, 0, 0, 10, 8⟩
def F.EVR_CLAIM_A.NUM : Fld := ⟨0x30030440, 0, 0, 0, 7, 0⟩
/-- EVR_CLAIM_B, spec/20_memory_events.md. -/
def Reg.EVR_CLAIM_B : RegGroup := ⟨0x30030444, [],
    [⟨31, 31, .ro, 0⟩, ⟨10, 8, .ro, 0⟩, ⟨7, 0, .rc, 0⟩]⟩
def F.EVR_CLAIM_B.VALID : Fld := ⟨0x30030444, 0, 0, 0, 31, 31⟩
def F.EVR_CLAIM_B.PRIO : Fld := ⟨0x30030444, 0, 0, 0, 10, 8⟩
def F.EVR_CLAIM_B.NUM : Fld := ⟨0x30030444, 0, 0, 0, 7, 0⟩
/-- EVR_THR_A, spec/20_memory_events.md. -/
def Reg.EVR_THR_A : RegGroup := ⟨0x30030448, [],
    [⟨2, 0, .rw, 0⟩]⟩
def F.EVR_THR_A.THR : Fld := ⟨0x30030448, 0, 0, 0, 2, 0⟩
/-- EVR_THR_B, spec/20_memory_events.md. -/
def Reg.EVR_THR_B : RegGroup := ⟨0x3003044C, [],
    [⟨2, 0, .rw, 0⟩]⟩
def F.EVR_THR_B.THR : Fld := ⟨0x3003044C, 0, 0, 0, 2, 0⟩
/-- The registers of block EVR, R34. -/
def Reg.blockEVR : List RegGroup := [
  Reg.EVR_ROUTE,
  Reg.EVR_PEND_A,
  Reg.EVR_PEND_B,
  Reg.EVR_CLAIM_A,
  Reg.EVR_CLAIM_B,
  Reg.EVR_THR_A,
  Reg.EVR_THR_B]

/-- MEMC_STAT, spec/20_memory_events.md. -/
def Reg.MEMC_STAT : RegGroup := ⟨0x30040000, [],
    [⟨31, 31, .ro, 0⟩, ⟨30, 30, .w1c, 0⟩, ⟨23, 16, .rc, 0⟩, ⟨15, 8, .rc, 0⟩, ⟨7, 0, .rc, 0⟩]⟩
def F.MEMC_STAT.SAT : Fld := ⟨0x30040000, 0, 0, 0, 31, 31⟩
def F.MEMC_STAT.LOG_OVF : Fld := ⟨0x30040000, 0, 0, 0, 30, 30⟩
def F.MEMC_STAT.UE_CNT : Fld := ⟨0x30040000, 0, 0, 0, 23, 16⟩
def F.MEMC_STAT.POISON_READS : Fld := ⟨0x30040000, 0, 0, 0, 15, 8⟩
def F.MEMC_STAT.LOG_LOST : Fld := ⟨0x30040000, 0, 0, 0, 7, 0⟩
/-- MEMC_SCRUB_CFG, spec/20_memory_events.md. -/
def Reg.MEMC_SCRUB_CFG : RegGroup := ⟨0x30040004, [],
    [⟨31, 31, .rw, 1⟩, ⟨19, 12, .rw, 64⟩, ⟨11, 0, .rw, 64⟩]⟩
def F.MEMC_SCRUB_CFG.EN : Fld := ⟨0x30040004, 0, 0, 0, 31, 31⟩
def F.MEMC_SCRUB_CFG.SCRUB_WAIT : Fld := ⟨0x30040004, 0, 0, 0, 19, 12⟩
def F.MEMC_SCRUB_CFG.SCRUB_INT : Fld := ⟨0x30040004, 0, 0, 0, 11, 0⟩
/-- MEMC_SCRUB_LAP, spec/20_memory_events.md. -/
def Reg.MEMC_SCRUB_LAP : RegGroup := ⟨0x30040008, [],
    [⟨31, 16, .ro, 0⟩, ⟨15, 0, .ro, 0⟩]⟩
def F.MEMC_SCRUB_LAP.LAPS : Fld := ⟨0x30040008, 0, 0, 0, 31, 16⟩
def F.MEMC_SCRUB_LAP.LAST_LAP : Fld := ⟨0x30040008, 0, 0, 0, 15, 0⟩
/-- MEMC_BKT_CFG, spec/20_memory_events.md. -/
def Reg.MEMC_BKT_CFG : RegGroup := ⟨0x30040010, [],
    [⟨31, 16, .rw, 100⟩, ⟨7, 0, .rw, 16⟩]⟩
def F.MEMC_BKT_CFG.LEAK_PERIOD : Fld := ⟨0x30040010, 0, 0, 0, 31, 16⟩
def F.MEMC_BKT_CFG.BKT_THR : Fld := ⟨0x30040010, 0, 0, 0, 7, 0⟩
/-- MEMC_BKT, spec/20_memory_events.md. -/
def Reg.MEMC_BKT : RegGroup := ⟨0x30040040, [(29, 4)],
    [⟨31, 31, .w1c, 0⟩, ⟨30, 30, .ro, 0⟩, ⟨15, 8, .rc, 0⟩, ⟨7, 0, .ro, 0⟩]⟩
def F.MEMC_BKT.OVF : Fld := ⟨0x30040040, 4, 0, 0, 31, 31⟩
def F.MEMC_BKT.SAT : Fld := ⟨0x30040040, 4, 0, 0, 30, 30⟩
def F.MEMC_BKT.OVF_CNT : Fld := ⟨0x30040040, 4, 0, 0, 15, 8⟩
def F.MEMC_BKT.LEVEL : Fld := ⟨0x30040040, 4, 0, 0, 7, 0⟩
/-- MEMC_SLOG_ADDR, spec/20_memory_events.md. -/
def Reg.MEMC_SLOG_ADDR : RegGroup := ⟨0x30040100, [(8, 16)],
    [⟨31, 0, .ro, 0⟩]⟩
def F.MEMC_SLOG_ADDR.ADDR : Fld := ⟨0x30040100, 16, 0, 0, 31, 0⟩
/-- MEMC_SLOG_INFO, spec/20_memory_events.md. -/
def Reg.MEMC_SLOG_INFO : RegGroup := ⟨0x30040104, [(8, 16)],
    [⟨31, 31, .w1c, 0⟩, ⟨30, 28, .ro, 0⟩, ⟨27, 25, .ro, 0⟩, ⟨24, 24, .ro, 0⟩, ⟨23, 23, .ro, 0⟩]⟩
def F.MEMC_SLOG_INFO.VALID : Fld := ⟨0x30040104, 16, 0, 0, 31, 31⟩
def F.MEMC_SLOG_INFO.KIND : Fld := ⟨0x30040104, 16, 0, 0, 30, 28⟩
def F.MEMC_SLOG_INFO.UNIT : Fld := ⟨0x30040104, 16, 0, 0, 27, 25⟩
def F.MEMC_SLOG_INFO.CRIT : Fld := ⟨0x30040104, 16, 0, 0, 24, 24⟩
def F.MEMC_SLOG_INFO.BY_READ : Fld := ⟨0x30040104, 16, 0, 0, 23, 23⟩
/-- MEMC_SLOG_TS, spec/20_memory_events.md. -/
def Reg.MEMC_SLOG_TS : RegGroup := ⟨0x30040108, [(8, 16)],
    [⟨31, 0, .ro, 0⟩]⟩
def F.MEMC_SLOG_TS.TS : Fld := ⟨0x30040108, 16, 0, 0, 31, 0⟩
/-- MEMC_CRIT_BASE, spec/20_memory_events.md. -/
def Reg.MEMC_CRIT_BASE : RegGroup := ⟨0x30040200, [(8, 8)],
    [⟨31, 0, .rw, 0⟩]⟩
def F.MEMC_CRIT_BASE.BASE : Fld := ⟨0x30040200, 8, 0, 0, 31, 0⟩
/-- MEMC_CRIT, spec/20_memory_events.md. -/
def Reg.MEMC_CRIT : RegGroup := ⟨0x30040204, [(8, 8)],
    [⟨31, 31, .rw, 0⟩, ⟨30, 28, .rw, 0⟩, ⟨11, 0, .rw, 0⟩]⟩
def F.MEMC_CRIT.EN : Fld := ⟨0x30040204, 8, 0, 0, 31, 31⟩
def F.MEMC_CRIT.CRIT_CLASS : Fld := ⟨0x30040204, 8, 0, 0, 30, 28⟩
def F.MEMC_CRIT.SIZE : Fld := ⟨0x30040204, 8, 0, 0, 11, 0⟩
/-- MEMC_ASH, spec/20_memory_events.md. -/
def Reg.MEMC_ASH : RegGroup := ⟨0x30040300, [],
    [⟨31, 31, .ro, 0⟩, ⟨23, 16, .rc, 0⟩, ⟨2, 0, .ro, 0⟩]⟩
def F.MEMC_ASH.SAT : Fld := ⟨0x30040300, 0, 0, 0, 31, 31⟩
def F.MEMC_ASH.ASH_DROP : Fld := ⟨0x30040300, 0, 0, 0, 23, 16⟩
def F.MEMC_ASH.WAITING : Fld := ⟨0x30040300, 0, 0, 0, 2, 0⟩
/-- MEMC_ASH_SEQ, spec/20_memory_events.md. -/
def Reg.MEMC_ASH_SEQ : RegGroup := ⟨0x30040304, [],
    [⟨31, 0, .ro, 0⟩]⟩
def F.MEMC_ASH_SEQ.NEXT_SEQ : Fld := ⟨0x30040304, 0, 0, 0, 31, 0⟩
/-- MEMC_XF_CTL, spec/20_memory_events.md. -/
def Reg.MEMC_XF_CTL : RegGroup := ⟨0x30040400, [(8, 16)],
    [⟨31, 31, .rw, 0⟩, ⟨30, 30, .ro, 0⟩, ⟨29, 29, .w1c, 0⟩, ⟨28, 28, .w1c, 0⟩, ⟨27, 27, .ro, 0⟩, ⟨23, 16, .rc, 0⟩,
     ⟨15, 0, .rw, 0⟩]⟩
def F.MEMC_XF_CTL.EN : Fld := ⟨0x30040400, 16, 0, 0, 31, 31⟩
def F.MEMC_XF_CTL.DRAINING : Fld := ⟨0x30040400, 16, 0, 0, 30, 30⟩
def F.MEMC_XF_CTL.DONE : Fld := ⟨0x30040400, 16, 0, 0, 29, 29⟩
def F.MEMC_XF_CTL.ERR : Fld := ⟨0x30040400, 16, 0, 0, 28, 28⟩
def F.MEMC_XF_CTL.SAT : Fld := ⟨0x30040400, 16, 0, 0, 27, 27⟩
def F.MEMC_XF_CTL.DROPPED : Fld := ⟨0x30040400, 16, 0, 0, 23, 16⟩
def F.MEMC_XF_CTL.LEN : Fld := ⟨0x30040400, 16, 0, 0, 15, 0⟩
/-- MEMC_XF_SRC, spec/20_memory_events.md. -/
def Reg.MEMC_XF_SRC : RegGroup := ⟨0x30040404, [(8, 16)],
    [⟨31, 0, .rw, 0⟩]⟩
def F.MEMC_XF_SRC.SRC : Fld := ⟨0x30040404, 16, 0, 0, 31, 0⟩
/-- MEMC_XF_DST, spec/20_memory_events.md. -/
def Reg.MEMC_XF_DST : RegGroup := ⟨0x30040408, [(8, 16)],
    [⟨31, 0, .rw, 0⟩]⟩
def F.MEMC_XF_DST.DST : Fld := ⟨0x30040408, 16, 0, 0, 31, 0⟩
/-- The registers of block MEMC, R34. -/
def Reg.blockMEMC : List RegGroup := [
  Reg.MEMC_STAT,
  Reg.MEMC_SCRUB_CFG,
  Reg.MEMC_SCRUB_LAP,
  Reg.MEMC_BKT_CFG,
  Reg.MEMC_BKT,
  Reg.MEMC_SLOG_ADDR,
  Reg.MEMC_SLOG_INFO,
  Reg.MEMC_SLOG_TS,
  Reg.MEMC_CRIT_BASE,
  Reg.MEMC_CRIT,
  Reg.MEMC_ASH,
  Reg.MEMC_ASH_SEQ,
  Reg.MEMC_XF_CTL,
  Reg.MEMC_XF_SRC,
  Reg.MEMC_XF_DST]

/-- TND_CMD, spec/17_security_debug.md. -/
def Reg.TND_CMD : RegGroup := ⟨0x30050000, [(3, 1024)],
    [⟨31, 24, .wo, 0⟩, ⟨23, 16, .wo, 0⟩, ⟨8, 0, .wo, 0⟩]⟩
def F.TND_CMD.CMD : Fld := ⟨0x30050000, 1024, 0, 0, 31, 24⟩
def F.TND_CMD.ARG8 : Fld := ⟨0x30050000, 1024, 0, 0, 23, 16⟩
def F.TND_CMD.LEN : Fld := ⟨0x30050000, 1024, 0, 0, 8, 0⟩
/-- TND_STAT, spec/17_security_debug.md. -/
def Reg.TND_STAT : RegGroup := ⟨0x30050004, [(3, 1024)],
    [⟨31, 31, .ro, 0⟩, ⟨30, 30, .w1c, 0⟩, ⟨23, 16, .ro, 0⟩, ⟨8, 0, .ro, 0⟩]⟩
def F.TND_STAT.BUSY : Fld := ⟨0x30050004, 1024, 0, 0, 31, 31⟩
def F.TND_STAT.DONE : Fld := ⟨0x30050004, 1024, 0, 0, 30, 30⟩
def F.TND_STAT.RESULT : Fld := ⟨0x30050004, 1024, 0, 0, 23, 16⟩
def F.TND_STAT.OUT_LEN : Fld := ⟨0x30050004, 1024, 0, 0, 8, 0⟩
/-- TND_DATA, spec/17_security_debug.md. -/
def Reg.TND_DATA : RegGroup := ⟨0x30050100, [(3, 1024), (64, 4)],
    [⟨31, 0, .rw, 0⟩]⟩
def F.TND_DATA.DATA : Fld := ⟨0x30050100, 1024, 4, 0, 31, 0⟩
/-- TND_INFO, spec/17_security_debug.md. -/
def Reg.TND_INFO : RegGroup := ⟨0x30050C00, [],
    [⟨31, 29, .ro, 0⟩, ⟨28, 28, .ro, 0⟩, ⟨27, 26, .ro, 0⟩, ⟨25, 22, .ro, 0⟩, ⟨21, 14, .ro, 0⟩, ⟨13, 13, .ro, 0⟩,
     ⟨12, 12, .ro, 0⟩, ⟨8, 0, .ro, 0⟩]⟩
def F.TND_INFO.LC : Fld := ⟨0x30050C00, 0, 0, 0, 31, 29⟩
def F.TND_INFO.PW_LOCKED : Fld := ⟨0x30050C00, 0, 0, 0, 28, 28⟩
def F.TND_INFO.PW_FAILS : Fld := ⟨0x30050C00, 0, 0, 0, 27, 26⟩
def F.TND_INFO.SLOT_REVOKED : Fld := ⟨0x30050C00, 0, 0, 0, 25, 22⟩
def F.TND_INFO.SLOT_ROLE : Fld := ⟨0x30050C00, 0, 0, 0, 21, 14⟩
def F.TND_INFO.SKEIN_KEY_OK : Fld := ⟨0x30050C00, 0, 0, 0, 13, 13⟩
def F.TND_INFO.JTAG_OFF_FIELD : Fld := ⟨0x30050C00, 0, 0, 0, 12, 12⟩
def F.TND_INFO.SEC_CTR : Fld := ⟨0x30050C00, 0, 0, 0, 8, 0⟩
/-- TND_ID, spec/17_security_debug.md. -/
def Reg.TND_ID : RegGroup := ⟨0x30050C10, [(4, 4)],
    [⟨31, 0, .ro, 0⟩]⟩
def F.TND_ID.ID : Fld := ⟨0x30050C10, 4, 0, 0, 31, 0⟩
/-- The registers of block TND, R34. -/
def Reg.blockTND : List RegGroup := [
  Reg.TND_CMD,
  Reg.TND_STAT,
  Reg.TND_DATA,
  Reg.TND_INFO,
  Reg.TND_ID]

/-- SKN_STAT, spec/03_skein.md. -/
def Reg.SKN_STAT : RegGroup := ⟨0x30060000, [],
    [⟨31, 31, .ro, 0⟩, ⟨30, 30, .ro, 0⟩, ⟨29, 29, .ro, 0⟩, ⟨23, 16, .ro, 0⟩, ⟨15, 0, .ro, 0⟩]⟩
def F.SKN_STAT.LIMP_BOOT : Fld := ⟨0x30060000, 0, 0, 0, 31, 31⟩
def F.SKN_STAT.FLASH_OK : Fld := ⟨0x30060000, 0, 0, 0, 30, 30⟩
def F.SKN_STAT.BUSY : Fld := ⟨0x30060000, 0, 0, 0, 29, 29⟩
def F.SKN_STAT.N_COMP : Fld := ⟨0x30060000, 0, 0, 0, 23, 16⟩
def F.SKN_STAT.LAST_CODE : Fld := ⟨0x30060000, 0, 0, 0, 15, 0⟩
/-- SKN_ERR, spec/03_skein.md. -/
def Reg.SKN_ERR : RegGroup := ⟨0x30060004, [],
    [⟨31, 31, .ro, 0⟩, ⟨15, 8, .rc, 0⟩, ⟨7, 0, .rc, 0⟩]⟩
def F.SKN_ERR.SAT : Fld := ⟨0x30060004, 0, 0, 0, 31, 31⟩
def F.SKN_ERR.READ_ERR : Fld := ⟨0x30060004, 0, 0, 0, 15, 8⟩
def F.SKN_ERR.MMAP_BUSY : Fld := ⟨0x30060004, 0, 0, 0, 7, 0⟩
/-- SKN_FLASH, spec/03_skein.md. -/
def Reg.SKN_FLASH : RegGroup := ⟨0x30060008, [],
    [⟨23, 16, .ro, 0⟩, ⟨15, 8, .ro, 0⟩, ⟨1, 0, .ro, 0⟩]⟩
def F.SKN_FLASH.DENSITY_LOG2 : Fld := ⟨0x30060008, 0, 0, 0, 23, 16⟩
def F.SKN_FLASH.DUMMY : Fld := ⟨0x30060008, 0, 0, 0, 15, 8⟩
def F.SKN_FLASH.PROTO : Fld := ⟨0x30060008, 0, 0, 0, 1, 0⟩
/-- The registers of block SKN, R34. -/
def Reg.blockSKN : List RegGroup := [
  Reg.SKN_STAT,
  Reg.SKN_ERR,
  Reg.SKN_FLASH]

/-- UPD_STAT, spec/18_update.md. -/
def Reg.UPD_STAT : RegGroup := ⟨0x30070000, [],
    [⟨31, 29, .ro, 0⟩, ⟨28, 28, .ro, 0⟩, ⟨27, 26, .ro, 0⟩, ⟨25, 21, .ro, 0⟩, ⟨20, 16, .ro, 0⟩, ⟨15, 12, .ro, 0⟩, ⟨11, 0, .ro, 0⟩]⟩
def F.UPD_STAT.STATE : Fld := ⟨0x30070000, 0, 0, 0, 31, 29⟩
def F.UPD_STAT.OLD_KEPT : Fld := ⟨0x30070000, 0, 0, 0, 28, 28⟩
def F.UPD_STAT.PROB_CNT : Fld := ⟨0x30070000, 0, 0, 0, 27, 26⟩
def F.UPD_STAT.STEP : Fld := ⟨0x30070000, 0, 0, 0, 25, 21⟩
def F.UPD_STAT.N_STEPS : Fld := ⟨0x30070000, 0, 0, 0, 20, 16⟩
def F.UPD_STAT.REASON : Fld := ⟨0x30070000, 0, 0, 0, 15, 12⟩
def F.UPD_STAT.PROB_LEFT : Fld := ⟨0x30070000, 0, 0, 0, 11, 0⟩
/-- UPD_CFG, spec/18_update.md. -/
def Reg.UPD_CFG : RegGroup := ⟨0x30070004, [],
    [⟨31, 16, .ro, 0⟩, ⟨15, 0, .ro, 0⟩]⟩
def F.UPD_CFG.UPD_I_MAX : Fld := ⟨0x30070004, 0, 0, 0, 31, 16⟩
def F.UPD_CFG.UPD_TOL : Fld := ⟨0x30070004, 0, 0, 0, 15, 0⟩
/-- UPD_SPX, spec/18_update.md. -/
def Reg.UPD_SPX : RegGroup := ⟨0x30070008, [],
    [⟨31, 31, .ro, 0⟩, ⟨30, 30, .ro, 0⟩, ⟨29, 29, .ro, 0⟩, ⟨15, 0, .ro, 0⟩]⟩
def F.UPD_SPX.ARMED_A : Fld := ⟨0x30070008, 0, 0, 0, 31, 31⟩
def F.UPD_SPX.ARMED_B : Fld := ⟨0x30070008, 0, 0, 0, 30, 30⟩
def F.UPD_SPX.CAL_SEL : Fld := ⟨0x30070008, 0, 0, 0, 29, 29⟩
def F.UPD_SPX.HO_TAG : Fld := ⟨0x30070008, 0, 0, 0, 15, 0⟩
/-- UPD_STAGE, spec/18_update.md. -/
def Reg.UPD_STAGE : RegGroup := ⟨0x3007000C, [],
    [⟨31, 20, .ro, 0⟩, ⟨11, 0, .ro, 0⟩]⟩
def F.UPD_STAGE.UPD_STAGE_BASE : Fld := ⟨0x3007000C, 0, 0, 0, 31, 20⟩
def F.UPD_STAGE.UPD_STAGE_SIZE : Fld := ⟨0x3007000C, 0, 0, 0, 11, 0⟩
/-- The registers of block UPD, R34. -/
def Reg.blockUPD : List RegGroup := [
  Reg.UPD_STAT,
  Reg.UPD_CFG,
  Reg.UPD_SPX,
  Reg.UPD_STAGE]

/-- SPX_STAT, spec/15_safety.md. -/
def Reg.SPX_STAT : RegGroup := ⟨0x30080000, [(2, 32768)],
    [⟨31, 31, .wl, 0⟩, ⟨30, 28, .ro, 0⟩, ⟨27, 26, .ro, 0⟩, ⟨25, 25, .ro, 0⟩, ⟨23, 16, .rc, 0⟩, ⟨15, 0, .ro, 0⟩]⟩
def F.SPX_STAT.SPLIT : Fld := ⟨0x30080000, 32768, 0, 0, 31, 31⟩
def F.SPX_STAT.STATE : Fld := ⟨0x30080000, 32768, 0, 0, 30, 28⟩
def F.SPX_STAT.RESETS : Fld := ⟨0x30080000, 32768, 0, 0, 27, 26⟩
def F.SPX_STAT.SAT : Fld := ⟨0x30080000, 32768, 0, 0, 25, 25⟩
def F.SPX_STAT.CE_CNT : Fld := ⟨0x30080000, 32768, 0, 0, 23, 16⟩
def F.SPX_STAT.LAST_CODE : Fld := ⟨0x30080000, 32768, 0, 0, 15, 0⟩
/-- SPX_CFG, spec/15_safety.md. -/
def Reg.SPX_CFG : RegGroup := ⟨0x30080004, [(2, 32768)],
    [⟨31, 29, .rw, 0⟩, ⟨15, 0, .rw, 78⟩]⟩
def F.SPX_CFG.MISMATCH_CLASS : Fld := ⟨0x30080004, 32768, 0, 0, 31, 29⟩
def F.SPX_CFG.CHK_MAX : Fld := ⟨0x30080004, 32768, 0, 0, 15, 0⟩
/-- SPX_DIAG, spec/15_safety.md. -/
def Reg.SPX_DIAG : RegGroup := ⟨0x30080008, [(2, 32768)],
    [⟨31, 23, .rc, 0⟩, ⟨22, 12, .rc, 0⟩, ⟨11, 4, .ro, 0⟩]⟩
def F.SPX_DIAG.DEPTH_MAX : Fld := ⟨0x30080008, 32768, 0, 0, 31, 23⟩
def F.SPX_DIAG.LAG_MAX : Fld := ⟨0x30080008, 32768, 0, 0, 22, 12⟩
def F.SPX_DIAG.INJ_OK : Fld := ⟨0x30080008, 32768, 0, 0, 11, 4⟩
/-- SPX_MISM, spec/15_safety.md. -/
def Reg.SPX_MISM : RegGroup := ⟨0x3008000C, [(2, 32768)],
    [⟨31, 0, .ro, 0⟩]⟩
def F.SPX_MISM.ADDR : Fld := ⟨0x3008000C, 32768, 0, 0, 31, 0⟩
/-- SPX_HB_CHAL, spec/15_safety.md. -/
def Reg.SPX_HB_CHAL : RegGroup := ⟨0x30080010, [(2, 32768)],
    [⟨31, 16, .ro, 0⟩, ⟨3, 0, .ro, 0⟩]⟩
def F.SPX_HB_CHAL.SEQ : Fld := ⟨0x30080010, 32768, 0, 0, 31, 16⟩
def F.SPX_HB_CHAL.Q : Fld := ⟨0x30080010, 32768, 0, 0, 3, 0⟩
/-- SPX_HB_RESP, spec/15_safety.md. -/
def Reg.SPX_HB_RESP : RegGroup := ⟨0x30080014, [(2, 32768)],
    [⟨31, 0, .wo, 0⟩]⟩
def F.SPX_HB_RESP.ANSWER : Fld := ⟨0x30080014, 32768, 0, 0, 31, 0⟩
/-- SPX_HB_RESP1, spec/15_safety.md. -/
def Reg.SPX_HB_RESP1 : RegGroup := ⟨0x30080018, [(2, 32768)],
    [⟨31, 0, .wo, 0⟩]⟩
def F.SPX_HB_RESP1.ANSWER : Fld := ⟨0x30080018, 32768, 0, 0, 31, 0⟩
/-- SPX_KREQ, spec/15_safety.md. -/
def Reg.SPX_KREQ : RegGroup := ⟨0x30080020, [(2, 32768)],
    [⟨31, 28, .rw, 0⟩, ⟨27, 27, .rw, 0⟩, ⟨26, 26, .rw, 0⟩, ⟨25, 25, .rw, 0⟩, ⟨24, 24, .rw, 0⟩, ⟨23, 22, .rw, 0⟩]⟩
def F.SPX_KREQ.GEN_REL : Fld := ⟨0x30080020, 32768, 0, 0, 31, 28⟩
def F.SPX_KREQ.STO_REL : Fld := ⟨0x30080020, 32768, 0, 0, 27, 27⟩
def F.SPX_KREQ.BRK_REL : Fld := ⟨0x30080020, 32768, 0, 0, 26, 26⟩
def F.SPX_KREQ.SS1_REQ : Fld := ⟨0x30080020, 32768, 0, 0, 25, 25⟩
def F.SPX_KREQ.STO_REQ : Fld := ⟨0x30080020, 32768, 0, 0, 24, 24⟩
def F.SPX_KREQ.SLS_REQ : Fld := ⟨0x30080020, 32768, 0, 0, 23, 22⟩
/-- SPX_CLAIM_I0, spec/15_safety.md. -/
def Reg.SPX_CLAIM_I0 : RegGroup := ⟨0x30080024, [(2, 32768)],
    [⟨31, 16, .rw, 0⟩, ⟨15, 0, .rw, 0⟩]⟩
def F.SPX_CLAIM_I0.SET1 : Fld := ⟨0x30080024, 32768, 0, 0, 31, 16⟩
def F.SPX_CLAIM_I0.SET0 : Fld := ⟨0x30080024, 32768, 0, 0, 15, 0⟩
/-- SPX_CLAIM_I1, spec/15_safety.md. -/
def Reg.SPX_CLAIM_I1 : RegGroup := ⟨0x30080028, [(2, 32768)],
    [⟨31, 16, .rw, 0⟩, ⟨15, 0, .rw, 0⟩]⟩
def F.SPX_CLAIM_I1.SET3 : Fld := ⟨0x30080028, 32768, 0, 0, 31, 16⟩
def F.SPX_CLAIM_I1.SET2 : Fld := ⟨0x30080028, 32768, 0, 0, 15, 0⟩
/-- SPX_CLAIM_P, spec/15_safety.md. -/
def Reg.SPX_CLAIM_P : RegGroup := ⟨0x3008002C, [(2, 32768)],
    [⟨31, 0, .rw, 0⟩]⟩
def F.SPX_CLAIM_P.P_CLAIM : Fld := ⟨0x3008002C, 32768, 0, 0, 31, 0⟩
/-- SPX_CLAIM_S, spec/15_safety.md. -/
def Reg.SPX_CLAIM_S : RegGroup := ⟨0x30080030, [(2, 32768)],
    [⟨31, 16, .rw, 0⟩, ⟨15, 0, .rw, 0⟩]⟩
def F.SPX_CLAIM_S.SPD_CLAIM1 : Fld := ⟨0x30080030, 32768, 0, 0, 31, 16⟩
def F.SPX_CLAIM_S.SPD_CLAIM0 : Fld := ⟨0x30080030, 32768, 0, 0, 15, 0⟩
/-- SPX_CLAIM_C, spec/15_safety.md. -/
def Reg.SPX_CLAIM_C : RegGroup := ⟨0x30080034, [(2, 32768)],
    [⟨15, 0, .wo, 0⟩]⟩
def F.SPX_CLAIM_C.SEQ : Fld := ⟨0x30080034, 32768, 0, 0, 15, 0⟩
/-- The registers of block SPX, R34. -/
def Reg.blockSPX : List RegGroup := [
  Reg.SPX_STAT,
  Reg.SPX_CFG,
  Reg.SPX_DIAG,
  Reg.SPX_MISM,
  Reg.SPX_HB_CHAL,
  Reg.SPX_HB_RESP,
  Reg.SPX_HB_RESP1,
  Reg.SPX_KREQ,
  Reg.SPX_CLAIM_I0,
  Reg.SPX_CLAIM_I1,
  Reg.SPX_CLAIM_P,
  Reg.SPX_CLAIM_S,
  Reg.SPX_CLAIM_C]

/-- WHL_CTL, spec/06_whorl_engines.md. -/
def Reg.WHL_CTL : RegGroup := ⟨0x30090000, [(8, 4096)],
    [⟨31, 30, .ro, 0⟩, ⟨29, 29, .rw, 0⟩, ⟨28, 28, .wo, 0⟩, ⟨27, 27, .w1c, 0⟩, ⟨26, 26, .ro, 0⟩, ⟨20, 16, .ro, 0⟩,
     ⟨15, 8, .rc, 0⟩, ⟨7, 0, .rc, 0⟩]⟩
def F.WHL_CTL.ROLE : Fld := ⟨0x30090000, 4096, 0, 0, 31, 30⟩
def F.WHL_CTL.CQ_HOLD : Fld := ⟨0x30090000, 4096, 0, 0, 29, 29⟩
def F.WHL_CTL.CQ_FLUSH : Fld := ⟨0x30090000, 4096, 0, 0, 28, 28⟩
def F.WHL_CTL.SUSPECT : Fld := ⟨0x30090000, 4096, 0, 0, 27, 27⟩
def F.WHL_CTL.SAT : Fld := ⟨0x30090000, 4096, 0, 0, 26, 26⟩
def F.WHL_CTL.CQ_LEVEL : Fld := ⟨0x30090000, 4096, 0, 0, 20, 16⟩
def F.WHL_CTL.QFULL : Fld := ⟨0x30090000, 4096, 0, 0, 15, 8⟩
def F.WHL_CTL.CE_CNT : Fld := ⟨0x30090000, 4096, 0, 0, 7, 0⟩
/-- WHL_LOOP_CFG, spec/06_whorl_engines.md. -/
def Reg.WHL_LOOP_CFG : RegGroup := ⟨0x30090100, [(8, 4096), (8, 32)],
    [⟨31, 31, .rw, 0⟩, ⟨30, 30, .ro, 0⟩, ⟨29, 29, .ro, 0⟩, ⟨28, 28, .rw, 0⟩, ⟨27, 26, .rw, 0⟩, ⟨25, 23, .rw, 0⟩,
     ⟨22, 21, .rw, 0⟩, ⟨20, 20, .rw, 0⟩, ⟨19, 19, .rw, 0⟩, ⟨15, 10, .rw, 0⟩, ⟨9, 9, .rw, 0⟩, ⟨8, 5, .rw, 0⟩, ⟨4, 1, .rw, 3⟩]⟩
def F.WHL_LOOP_CFG.EN : Fld := ⟨0x30090100, 4096, 32, 0, 31, 31⟩
def F.WHL_LOOP_CFG.DRAINING : Fld := ⟨0x30090100, 4096, 32, 0, 30, 30⟩
def F.WHL_LOOP_CFG.STOPPED : Fld := ⟨0x30090100, 4096, 32, 0, 29, 29⟩
def F.WHL_LOOP_CFG.KIND : Fld := ⟨0x30090100, 4096, 32, 0, 28, 28⟩
def F.WHL_LOOP_CFG.SAFE_OUT : Fld := ⟨0x30090100, 4096, 32, 0, 27, 26⟩
def F.WHL_LOOP_CFG.FAULT_CLASS : Fld := ⟨0x30090100, 4096, 32, 0, 25, 23⟩
def F.WHL_LOOP_CFG.STALE_ACT : Fld := ⟨0x30090100, 4096, 32, 0, 22, 21⟩
def F.WHL_LOOP_CFG.SUBST : Fld := ⟨0x30090100, 4096, 32, 0, 20, 20⟩
def F.WHL_LOOP_CFG.CHECKED : Fld := ⟨0x30090100, 4096, 32, 0, 19, 19⟩
def F.WHL_LOOP_CFG.TRIG_CH : Fld := ⟨0x30090100, 4096, 32, 0, 15, 10⟩
def F.WHL_LOOP_CFG.TRIG_WIN : Fld := ⟨0x30090100, 4096, 32, 0, 9, 9⟩
def F.WHL_LOOP_CFG.STALE_N : Fld := ⟨0x30090100, 4096, 32, 0, 8, 5⟩
def F.WHL_LOOP_CFG.OVERLAP_N : Fld := ⟨0x30090100, 4096, 32, 0, 4, 1⟩
/-- WHL_LOOP_TIME, spec/06_whorl_engines.md. -/
def Reg.WHL_LOOP_TIME : RegGroup := ⟨0x30090104, [(8, 4096), (8, 32)],
    [⟨31, 16, .rw, 0⟩, ⟨13, 0, .rw, 0⟩]⟩
def F.WHL_LOOP_TIME.OUT_PHASE : Fld := ⟨0x30090104, 4096, 32, 0, 31, 16⟩
def F.WHL_LOOP_TIME.BUDGET : Fld := ⟨0x30090104, 4096, 32, 0, 13, 0⟩
/-- WHL_LOOP_IO, spec/06_whorl_engines.md. -/
def Reg.WHL_LOOP_IO : RegGroup := ⟨0x30090108, [(8, 4096), (8, 32)],
    [⟨31, 26, .rw, 0⟩, ⟨25, 20, .rw, 0⟩, ⟨19, 14, .rw, 0⟩, ⟨13, 8, .rw, 0⟩, ⟨7, 2, .rw, 0⟩]⟩
def F.WHL_LOOP_IO.IN_BASE : Fld := ⟨0x30090108, 4096, 32, 0, 31, 26⟩
def F.WHL_LOOP_IO.IN_N_M1 : Fld := ⟨0x30090108, 4096, 32, 0, 25, 20⟩
def F.WHL_LOOP_IO.REQ_N : Fld := ⟨0x30090108, 4096, 32, 0, 19, 14⟩
def F.WHL_LOOP_IO.OUT_BASE : Fld := ⟨0x30090108, 4096, 32, 0, 13, 8⟩
def F.WHL_LOOP_IO.OUT_N_M1 : Fld := ⟨0x30090108, 4096, 32, 0, 7, 2⟩
/-- WHL_LOOP_FLAGS, spec/06_whorl_engines.md. -/
def Reg.WHL_LOOP_FLAGS : RegGroup := ⟨0x3009010C, [(8, 4096), (8, 32)],
    [⟨19, 16, .rw, 0⟩, ⟨15, 15, .w1c, 0⟩, ⟨14, 14, .w1c, 0⟩, ⟨13, 13, .w1c, 0⟩, ⟨12, 12, .w1c, 0⟩, ⟨11, 11, .w1c, 0⟩,
     ⟨3, 3, .w1c, 0⟩, ⟨2, 2, .w1c, 0⟩, ⟨1, 1, .w1c, 0⟩, ⟨0, 0, .w1c, 0⟩]⟩
def F.WHL_LOOP_FLAGS.EV_MASK : Fld := ⟨0x3009010C, 4096, 32, 0, 19, 16⟩
def F.WHL_LOOP_FLAGS.POISON : Fld := ⟨0x3009010C, 4096, 32, 0, 15, 15⟩
def F.WHL_LOOP_FLAGS.BUDGET : Fld := ⟨0x3009010C, 4096, 32, 0, 14, 14⟩
def F.WHL_LOOP_FLAGS.OVERLAP : Fld := ⟨0x3009010C, 4096, 32, 0, 13, 13⟩
def F.WHL_LOOP_FLAGS.STALE : Fld := ⟨0x3009010C, 4096, 32, 0, 12, 12⟩
def F.WHL_LOOP_FLAGS.OVERRUN : Fld := ⟨0x3009010C, 4096, 32, 0, 11, 11⟩
def F.WHL_LOOP_FLAGS.TBL_CLAMP : Fld := ⟨0x3009010C, 4096, 32, 0, 3, 3⟩
def F.WHL_LOOP_FLAGS.DOMAIN : Fld := ⟨0x3009010C, 4096, 32, 0, 2, 2⟩
def F.WHL_LOOP_FLAGS.DIVZ : Fld := ⟨0x3009010C, 4096, 32, 0, 1, 1⟩
def F.WHL_LOOP_FLAGS.SAT : Fld := ⟨0x3009010C, 4096, 32, 0, 0, 0⟩
/-- WHL_LOOP_CNT, spec/06_whorl_engines.md. -/
def Reg.WHL_LOOP_CNT : RegGroup := ⟨0x30090110, [(8, 4096), (8, 32)],
    [⟨31, 31, .ro, 0⟩, ⟨23, 16, .rc, 0⟩, ⟨15, 8, .rc, 0⟩, ⟨7, 0, .ro, 0⟩]⟩
def F.WHL_LOOP_CNT.SAT : Fld := ⟨0x30090110, 4096, 32, 0, 31, 31⟩
def F.WHL_LOOP_CNT.OVERLAP_CNT : Fld := ⟨0x30090110, 4096, 32, 0, 23, 16⟩
def F.WHL_LOOP_CNT.STALE_CNT : Fld := ⟨0x30090110, 4096, 32, 0, 15, 8⟩
def F.WHL_LOOP_CNT.SEQ : Fld := ⟨0x30090110, 4096, 32, 0, 7, 0⟩
/-- WHL_LOOP_CODE, spec/06_whorl_engines.md. -/
def Reg.WHL_LOOP_CODE : RegGroup := ⟨0x30090114, [(8, 4096), (8, 32)],
    [⟨29, 16, .ro, 0⟩, ⟨14, 0, .rw, 0⟩]⟩
def F.WHL_LOOP_CODE.WCET : Fld := ⟨0x30090114, 4096, 32, 0, 29, 16⟩
def F.WHL_LOOP_CODE.ENTRY : Fld := ⟨0x30090114, 4096, 32, 0, 14, 0⟩
/-- WHL_LOOP_STATE, spec/06_whorl_engines.md. -/
def Reg.WHL_LOOP_STATE : RegGroup := ⟨0x30090118, [(8, 4096), (8, 32)],
    [⟨30, 16, .rw, 0⟩, ⟨10, 0, .rw, 0⟩]⟩
def F.WHL_LOOP_STATE.STATE_BASE : Fld := ⟨0x30090118, 4096, 32, 0, 30, 16⟩
def F.WHL_LOOP_STATE.STATE_LEN : Fld := ⟨0x30090118, 4096, 32, 0, 10, 0⟩
/-- WHL_LOOP_COEF, spec/06_whorl_engines.md. -/
def Reg.WHL_LOOP_COEF : RegGroup := ⟨0x3009011C, [(8, 4096), (8, 32)],
    [⟨31, 24, .rw, 0⟩, ⟨23, 16, .rw, 0⟩, ⟨15, 0, .rw, 0⟩]⟩
def F.WHL_LOOP_COEF.COEF_FIRST : Fld := ⟨0x3009011C, 4096, 32, 0, 31, 24⟩
def F.WHL_LOOP_COEF.COEF_LAST : Fld := ⟨0x3009011C, 4096, 32, 0, 23, 16⟩
def F.WHL_LOOP_COEF.TBL_MASK : Fld := ⟨0x3009011C, 4096, 32, 0, 15, 0⟩
/-- WHL_TBL_CFG, spec/06_whorl_engines.md. -/
def Reg.WHL_TBL_CFG : RegGroup := ⟨0x30090400, [(8, 4096), (16, 4)],
    [⟨31, 31, .rw, 0⟩, ⟨30, 30, .rw, 0⟩, ⟨29, 29, .rw, 0⟩, ⟨28, 25, .rw, 0⟩, ⟨16, 0, .rw, 0⟩]⟩
def F.WHL_TBL_CFG.EN : Fld := ⟨0x30090400, 4096, 4, 0, 31, 31⟩
def F.WHL_TBL_CFG.BANK : Fld := ⟨0x30090400, 4096, 4, 0, 30, 30⟩
def F.WHL_TBL_CFG.WRAP : Fld := ⟨0x30090400, 4096, 4, 0, 29, 29⟩
def F.WHL_TBL_CFG.LOG2N : Fld := ⟨0x30090400, 4096, 4, 0, 28, 25⟩
def F.WHL_TBL_CFG.BASE : Fld := ⟨0x30090400, 4096, 4, 0, 16, 0⟩
/-- WHL_LINK, spec/06_whorl_engines.md. -/
def Reg.WHL_LINK : RegGroup := ⟨0x30090500, [(8, 4096), (8, 4)],
    [⟨31, 31, .rw, 0⟩, ⟨30, 30, .rw, 0⟩, ⟨29, 27, .rw, 0⟩, ⟨26, 21, .rw, 0⟩, ⟨20, 15, .rw, 0⟩]⟩
def F.WHL_LINK.EN : Fld := ⟨0x30090500, 4096, 4, 0, 31, 31⟩
def F.WHL_LINK.KIND : Fld := ⟨0x30090500, 4096, 4, 0, 30, 30⟩
def F.WHL_LINK.SRC_WHORL : Fld := ⟨0x30090500, 4096, 4, 0, 29, 27⟩
def F.WHL_LINK.SRC_PORT : Fld := ⟨0x30090500, 4096, 4, 0, 26, 21⟩
def F.WHL_LINK.DST_PORT : Fld := ⟨0x30090500, 4096, 4, 0, 20, 15⟩
/-- WHL_SHADOW, spec/06_whorl_engines.md. -/
def Reg.WHL_SHADOW : RegGroup := ⟨0x30090010, [(8, 4096)],
    [⟨31, 31, .ro, 0⟩, ⟨30, 28, .ro, 0⟩, ⟨27, 27, .rw, 0⟩, ⟨26, 24, .rw, 3⟩, ⟨23, 16, .rc, 0⟩, ⟨15, 0, .rw, 0⟩]⟩
def F.WHL_SHADOW.ACTIVE : Fld := ⟨0x30090010, 4096, 0, 0, 31, 31⟩
def F.WHL_SHADOW.TARGET : Fld := ⟨0x30090010, 4096, 0, 0, 30, 28⟩
def F.WHL_SHADOW.MODE : Fld := ⟨0x30090010, 4096, 0, 0, 27, 27⟩
def F.WHL_SHADOW.XCHK_N : Fld := ⟨0x30090010, 4096, 0, 0, 26, 24⟩
def F.WHL_SHADOW.MISMATCH_CNT : Fld := ⟨0x30090010, 4096, 0, 0, 23, 16⟩
def F.WHL_SHADOW.TOL : Fld := ⟨0x30090010, 4096, 0, 0, 15, 0⟩
/-- WHL_GLB, spec/06_whorl_engines.md. -/
def Reg.WHL_GLB : RegGroup := ⟨0x30098000, [],
    [⟨31, 16, .rw, 100⟩, ⟨2, 0, .rw, 1⟩]⟩
def F.WHL_GLB.DWELL : Fld := ⟨0x30098000, 0, 0, 0, 31, 16⟩
def F.WHL_GLB.XCHK_CLASS : Fld := ⟨0x30098000, 0, 0, 0, 2, 0⟩
/-- WHL_HANDOVER, spec/06_whorl_engines.md. -/
def Reg.WHL_HANDOVER : RegGroup := ⟨0x30098004, [],
    [⟨31, 31, .wo, 0⟩, ⟨30, 30, .ro, 0⟩, ⟨29, 29, .w1c, 0⟩, ⟨28, 28, .w1c, 0⟩, ⟨27, 24, .ro, 0⟩, ⟨22, 20, .rw, 0⟩,
     ⟨18, 16, .rw, 7⟩, ⟨15, 0, .rw, 64⟩]⟩
def F.WHL_HANDOVER.REQ : Fld := ⟨0x30098004, 0, 0, 0, 31, 31⟩
def F.WHL_HANDOVER.BUSY : Fld := ⟨0x30098004, 0, 0, 0, 30, 30⟩
def F.WHL_HANDOVER.DONE : Fld := ⟨0x30098004, 0, 0, 0, 29, 29⟩
def F.WHL_HANDOVER.ABORT : Fld := ⟨0x30098004, 0, 0, 0, 28, 28⟩
def F.WHL_HANDOVER.ABORT_REASON : Fld := ⟨0x30098004, 0, 0, 0, 27, 24⟩
def F.WHL_HANDOVER.SOURCE : Fld := ⟨0x30098004, 0, 0, 0, 22, 20⟩
def F.WHL_HANDOVER.STANDBY : Fld := ⟨0x30098004, 0, 0, 0, 18, 16⟩
def F.WHL_HANDOVER.SHADOW_MIN : Fld := ⟨0x30098004, 0, 0, 0, 15, 0⟩
/-- WHL_INP, spec/06_whorl_engines.md. -/
def Reg.WHL_INP : RegGroup := ⟨0x30090800, [(8, 4096), (64, 4)],
    [⟨31, 0, .ro, 0⟩]⟩
def F.WHL_INP.VALUE : Fld := ⟨0x30090800, 4096, 4, 0, 31, 0⟩
/-- WHL_OUTP, spec/06_whorl_engines.md. -/
def Reg.WHL_OUTP : RegGroup := ⟨0x30090900, [(8, 4096), (64, 4)],
    [⟨31, 0, .ro, 0⟩]⟩
def F.WHL_OUTP.VALUE : Fld := ⟨0x30090900, 4096, 4, 0, 31, 0⟩
/-- WHL_FRESH, spec/06_whorl_engines.md. -/
def Reg.WHL_FRESH : RegGroup := ⟨0x30090A00, [(8, 4096), (2, 4)],
    [⟨31, 0, .ro, 0⟩]⟩
def F.WHL_FRESH.FRESH : Fld := ⟨0x30090A00, 4096, 4, 0, 31, 0⟩
/-- The registers of block WHL, R34. -/
def Reg.blockWHL : List RegGroup := [
  Reg.WHL_CTL,
  Reg.WHL_LOOP_CFG,
  Reg.WHL_LOOP_TIME,
  Reg.WHL_LOOP_IO,
  Reg.WHL_LOOP_FLAGS,
  Reg.WHL_LOOP_CNT,
  Reg.WHL_LOOP_CODE,
  Reg.WHL_LOOP_STATE,
  Reg.WHL_LOOP_COEF,
  Reg.WHL_TBL_CFG,
  Reg.WHL_LINK,
  Reg.WHL_SHADOW,
  Reg.WHL_GLB,
  Reg.WHL_HANDOVER,
  Reg.WHL_INP,
  Reg.WHL_OUTP,
  Reg.WHL_FRESH]

/-- FLY_ENC_CFG, spec/09_flyer.md. -/
def Reg.FLY_ENC_CFG : RegGroup := ⟨0x300A0000, [(4, 32)],
    [⟨31, 31, .rw, 0⟩, ⟨30, 30, .rw, 0⟩, ⟨29, 28, .rw, 0⟩, ⟨27, 27, .rw, 0⟩, ⟨26, 26, .rw, 0⟩, ⟨25, 22, .rw, 4⟩, ⟨21, 16, .rw, 0⟩]⟩
def F.FLY_ENC_CFG.EN : Fld := ⟨0x300A0000, 32, 0, 0, 31, 31⟩
def F.FLY_ENC_CFG.DIR_INV : Fld := ⟨0x300A0000, 32, 0, 0, 30, 30⟩
def F.FLY_ENC_CFG.MODE : Fld := ⟨0x300A0000, 32, 0, 0, 29, 28⟩
def F.FLY_ENC_CFG.ZGATE : Fld := ⟨0x300A0000, 32, 0, 0, 27, 27⟩
def F.FLY_ENC_CFG.IDX_CHK : Fld := ⟨0x300A0000, 32, 0, 0, 26, 26⟩
def F.FLY_ENC_CFG.FILT : Fld := ⟨0x300A0000, 32, 0, 0, 25, 22⟩
def F.FLY_ENC_CFG.IDX_TOL : Fld := ⟨0x300A0000, 32, 0, 0, 21, 16⟩
/-- FLY_ENC_CPR, spec/09_flyer.md. -/
def Reg.FLY_ENC_CPR : RegGroup := ⟨0x300A0004, [(4, 32)],
    [⟨28, 0, .rw, 0⟩]⟩
def F.FLY_ENC_CPR.CPR : Fld := ⟨0x300A0004, 32, 0, 0, 28, 0⟩
/-- FLY_ENC_POS, spec/09_flyer.md. -/
def Reg.FLY_ENC_POS : RegGroup := ⟨0x300A0008, [(4, 32)],
    [⟨31, 31, .w1c, 0⟩, ⟨30, 30, .w1c, 0⟩, ⟨27, 0, .ro, 0⟩]⟩
def F.FLY_ENC_POS.WRAP : Fld := ⟨0x300A0008, 32, 0, 0, 31, 31⟩
def F.FLY_ENC_POS.REV_WRAP : Fld := ⟨0x300A0008, 32, 0, 0, 30, 30⟩
def F.FLY_ENC_POS.POS : Fld := ⟨0x300A0008, 32, 0, 0, 27, 0⟩
/-- FLY_ENC_REV, spec/09_flyer.md. -/
def Reg.FLY_ENC_REV : RegGroup := ⟨0x300A000C, [(4, 32)],
    [⟨31, 0, .ro, 0⟩]⟩
def F.FLY_ENC_REV.REV : Fld := ⟨0x300A000C, 32, 0, 0, 31, 0⟩
/-- FLY_ENC_IDX, spec/09_flyer.md. -/
def Reg.FLY_ENC_IDX : RegGroup := ⟨0x300A0010, [(4, 32)],
    [⟨31, 31, .w1c, 0⟩, ⟨30, 30, .w1c, 0⟩, ⟨27, 0, .ro, 0⟩]⟩
def F.FLY_ENC_IDX.INDEX_SEEN : Fld := ⟨0x300A0010, 32, 0, 0, 31, 31⟩
def F.FLY_ENC_IDX.IDX_ERR : Fld := ⟨0x300A0010, 32, 0, 0, 30, 30⟩
def F.FLY_ENC_IDX.IDX_POS : Fld := ⟨0x300A0010, 32, 0, 0, 27, 0⟩
/-- FLY_ENC_IDXREV, spec/09_flyer.md. -/
def Reg.FLY_ENC_IDXREV : RegGroup := ⟨0x300A0014, [(4, 32)],
    [⟨31, 0, .ro, 0⟩]⟩
def F.FLY_ENC_IDXREV.IDX_REV : Fld := ⟨0x300A0014, 32, 0, 0, 31, 0⟩
/-- FLY_HALL_CFG, spec/09_flyer.md. -/
def Reg.FLY_HALL_CFG : RegGroup := ⟨0x300A0100, [(2, 32)],
    [⟨31, 31, .rw, 0⟩, ⟨30, 30, .rw, 0⟩, ⟨15, 8, .rw, 0⟩, ⟨2, 0, .ro, 0⟩]⟩
def F.FLY_HALL_CFG.EN : Fld := ⟨0x300A0100, 32, 0, 0, 31, 31⟩
def F.FLY_HALL_CFG.DIR_INV : Fld := ⟨0x300A0100, 32, 0, 0, 30, 30⟩
def F.FLY_HALL_CFG.HFILT : Fld := ⟨0x300A0100, 32, 0, 0, 15, 8⟩
def F.FLY_HALL_CFG.STATE : Fld := ⟨0x300A0100, 32, 0, 0, 2, 0⟩
/-- FLY_HALL_EDGE, spec/09_flyer.md. -/
def Reg.FLY_HALL_EDGE : RegGroup := ⟨0x300A0104, [(2, 32), (6, 4)],
    [⟨31, 16, .rw, 0⟩]⟩
def F.FLY_HALL_EDGE.ANGLE : Fld := ⟨0x300A0104, 32, 4, 0, 31, 16⟩
/-- FLY_RES_CFG, spec/09_flyer.md. -/
def Reg.FLY_RES_CFG : RegGroup := ⟨0x300A0200, [(2, 32)],
    [⟨31, 31, .rw, 0⟩, ⟨30, 30, .rw, 0⟩, ⟨29, 29, .ro, 0⟩, ⟨26, 21, .rw, 0⟩, ⟨20, 13, .rw, 0⟩, ⟨10, 0, .rw, 0⟩]⟩
def F.FLY_RES_CFG.EN : Fld := ⟨0x300A0200, 32, 0, 0, 31, 31⟩
def F.FLY_RES_CFG.EXC_EN : Fld := ⟨0x300A0200, 32, 0, 0, 30, 30⟩
def F.FLY_RES_CFG.EXC_FAULT : Fld := ⟨0x300A0200, 32, 0, 0, 29, 29⟩
def F.FLY_RES_CFG.EXC_AMP : Fld := ⟨0x300A0200, 32, 0, 0, 26, 21⟩
def F.FLY_RES_CFG.RES_PHASE : Fld := ⟨0x300A0200, 32, 0, 0, 20, 13⟩
def F.FLY_RES_CFG.EXC_F : Fld := ⟨0x300A0200, 32, 0, 0, 10, 0⟩
/-- FLY_RES_AMP, spec/09_flyer.md. -/
def Reg.FLY_RES_AMP : RegGroup := ⟨0x300A0204, [(2, 32)],
    [⟨31, 24, .rw, 45⟩, ⟨23, 16, .rw, 83⟩, ⟨15, 12, .rw, 2⟩, ⟨11, 0, .rw, 0⟩]⟩
def F.FLY_RES_AMP.AMP_LO : Fld := ⟨0x300A0204, 32, 0, 0, 31, 24⟩
def F.FLY_RES_AMP.AMP_HI : Fld := ⟨0x300A0204, 32, 0, 0, 23, 16⟩
def F.FLY_RES_AMP.AMP_N : Fld := ⟨0x300A0204, 32, 0, 0, 15, 12⟩
def F.FLY_RES_AMP.AMP_NOM : Fld := ⟨0x300A0204, 32, 0, 0, 11, 0⟩
/-- FLY_SER_CFG, spec/09_flyer.md. -/
def Reg.FLY_SER_CFG : RegGroup := ⟨0x300A0300, [(2, 32)],
    [⟨31, 31, .rw, 0⟩, ⟨30, 30, .rw, 0⟩, ⟨29, 29, .rw, 0⟩, ⟨28, 23, .rw, 0⟩, ⟨22, 12, .rw, 0⟩, ⟨9, 0, .rw, 0⟩]⟩
def F.FLY_SER_CFG.EN : Fld := ⟨0x300A0300, 32, 0, 0, 31, 31⟩
def F.FLY_SER_CFG.PROTO : Fld := ⟨0x300A0300, 32, 0, 0, 30, 30⟩
def F.FLY_SER_CFG.GRAY : Fld := ⟨0x300A0300, 32, 0, 0, 29, 29⟩
def F.FLY_SER_CFG.BITS : Fld := ⟨0x300A0300, 32, 0, 0, 28, 23⟩
def F.FLY_SER_CFG.CLK_DIV : Fld := ⟨0x300A0300, 32, 0, 0, 22, 12⟩
def F.FLY_SER_CFG.DAT_DLY : Fld := ⟨0x300A0300, 32, 0, 0, 9, 0⟩
/-- FLY_SER_TIME, spec/09_flyer.md. -/
def Reg.FLY_SER_TIME : RegGroup := ⟨0x300A0304, [(2, 32)],
    [⟨31, 16, .rw, 0⟩, ⟨15, 8, .rw, 20⟩]⟩
def F.FLY_SER_TIME.POLL : Fld := ⟨0x300A0304, 32, 0, 0, 31, 16⟩
def F.FLY_SER_TIME.TMO : Fld := ⟨0x300A0304, 32, 0, 0, 15, 8⟩
/-- FLY_SENT_CFG, spec/09_flyer.md. -/
def Reg.FLY_SENT_CFG : RegGroup := ⟨0x300A0400, [(4, 16)],
    [⟨31, 31, .rw, 0⟩, ⟨30, 30, .rw, 0⟩, ⟨29, 29, .rw, 0⟩, ⟨28, 26, .rw, 0⟩, ⟨25, 21, .rw, 0⟩, ⟨20, 16, .rw, 0⟩, ⟨10, 0, .rw, 0⟩]⟩
def F.FLY_SENT_CFG.EN : Fld := ⟨0x300A0400, 16, 0, 0, 31, 31⟩
def F.FLY_SENT_CFG.CRC_MODE : Fld := ⟨0x300A0400, 16, 0, 0, 30, 30⟩
def F.FLY_SENT_CFG.PAUSE : Fld := ⟨0x300A0400, 16, 0, 0, 29, 29⟩
def F.FLY_SENT_CFG.NIBBLES : Fld := ⟨0x300A0400, 16, 0, 0, 28, 26⟩
def F.FLY_SENT_CFG.FC_BITS : Fld := ⟨0x300A0400, 16, 0, 0, 25, 21⟩
def F.FLY_SENT_CFG.FC_LSB : Fld := ⟨0x300A0400, 16, 0, 0, 20, 16⟩
def F.FLY_SENT_CFG.TICK : Fld := ⟨0x300A0400, 16, 0, 0, 10, 0⟩
/-- FLY_SENT_SLOW, spec/09_flyer.md. -/
def Reg.FLY_SENT_SLOW : RegGroup := ⟨0x300A0404, [(4, 16)],
    [⟨31, 31, .rc, 0⟩, ⟨30, 30, .ro, 0⟩, ⟨23, 16, .ro, 0⟩, ⟨15, 0, .ro, 0⟩]⟩
def F.FLY_SENT_SLOW.NEW : Fld := ⟨0x300A0404, 16, 0, 0, 31, 31⟩
def F.FLY_SENT_SLOW.ENH : Fld := ⟨0x300A0404, 16, 0, 0, 30, 30⟩
def F.FLY_SENT_SLOW.ID : Fld := ⟨0x300A0404, 16, 0, 0, 23, 16⟩
def F.FLY_SENT_SLOW.DATA : Fld := ⟨0x300A0404, 16, 0, 0, 15, 0⟩
/-- FLY_SRC_CFG, spec/09_flyer.md. -/
def Reg.FLY_SRC_CFG : RegGroup := ⟨0x300A0500, [(14, 16)],
    [⟨31, 16, .rw, 0⟩, ⟨15, 12, .rw, 3⟩, ⟨11, 0, .rw, 0⟩]⟩
def F.FLY_SRC_CFG.MEAS_TMO : Fld := ⟨0x300A0500, 16, 0, 0, 31, 16⟩
def F.FLY_SRC_CFG.SENS_ERR_N : Fld := ⟨0x300A0500, 16, 0, 0, 15, 12⟩
def F.FLY_SRC_CFG.SENS_LAT : Fld := ⟨0x300A0500, 16, 0, 0, 11, 0⟩
/-- FLY_SRC_STAT, spec/09_flyer.md. -/
def Reg.FLY_SRC_STAT : RegGroup := ⟨0x300A0504, [(14, 16)],
    [⟨31, 31, .ro, 0⟩, ⟨30, 30, .ro, 0⟩, ⟨29, 29, .ro, 0⟩, ⟨28, 28, .ro, 0⟩, ⟨27, 27, .w1c, 0⟩, ⟨26, 26, .w1c, 0⟩,
     ⟨15, 8, .rc, 0⟩, ⟨7, 0, .rc, 0⟩]⟩
def F.FLY_SRC_STAT.SAT : Fld := ⟨0x300A0504, 16, 0, 0, 31, 31⟩
def F.FLY_SRC_STAT.TIMEOUT : Fld := ⟨0x300A0504, 16, 0, 0, 30, 30⟩
def F.FLY_SRC_STAT.ERR_RUN : Fld := ⟨0x300A0504, 16, 0, 0, 29, 29⟩
def F.FLY_SRC_STAT.STALE : Fld := ⟨0x300A0504, 16, 0, 0, 28, 28⟩
def F.FLY_SRC_STAT.WARN : Fld := ⟨0x300A0504, 16, 0, 0, 27, 27⟩
def F.FLY_SRC_STAT.CFG_IGN : Fld := ⟨0x300A0504, 16, 0, 0, 26, 26⟩
def F.FLY_SRC_STAT.ERR_CNT : Fld := ⟨0x300A0504, 16, 0, 0, 15, 8⟩
def F.FLY_SRC_STAT.ILLEGAL_CNT : Fld := ⟨0x300A0504, 16, 0, 0, 7, 0⟩
/-- FLY_SRC_VAL, spec/09_flyer.md. -/
def Reg.FLY_SRC_VAL : RegGroup := ⟨0x300A0508, [(14, 16)],
    [⟨31, 0, .ro, 0⟩]⟩
def F.FLY_SRC_VAL.VAL : Fld := ⟨0x300A0508, 16, 0, 0, 31, 0⟩
/-- FLY_MACH_CFG, spec/09_flyer.md. -/
def Reg.FLY_MACH_CFG : RegGroup := ⟨0x300A1000, [(2, 64)],
    [⟨31, 31, .rw, 0⟩, ⟨30, 27, .rw, 0⟩, ⟨26, 26, .rw, 0⟩, ⟨25, 25, .rw, 0⟩, ⟨24, 24, .rw, 0⟩, ⟨23, 23, .rw, 0⟩,
     ⟨22, 20, .rw, 0⟩, ⟨19, 14, .rw, 0⟩, ⟨11, 0, .rw, 400⟩]⟩
def F.FLY_MACH_CFG.EN : Fld := ⟨0x300A1000, 64, 0, 0, 31, 31⟩
def F.FLY_MACH_CFG.SRC : Fld := ⟨0x300A1000, 64, 0, 0, 30, 27⟩
def F.FLY_MACH_CFG.AUX_EN : Fld := ⟨0x300A1000, 64, 0, 0, 26, 26⟩
def F.FLY_MACH_CFG.AUX_HALL : Fld := ⟨0x300A1000, 64, 0, 0, 25, 25⟩
def F.FLY_MACH_CFG.PRELOAD : Fld := ⟨0x300A1000, 64, 0, 0, 24, 24⟩
def F.FLY_MACH_CFG.SGN : Fld := ⟨0x300A1000, 64, 0, 0, 23, 23⟩
def F.FLY_MACH_CFG.SENS_PP : Fld := ⟨0x300A1000, 64, 0, 0, 22, 20⟩
def F.FLY_MACH_CFG.EL_RATIO : Fld := ⟨0x300A1000, 64, 0, 0, 19, 14⟩
def F.FLY_MACH_CFG.OBS_BW : Fld := ⟨0x300A1000, 64, 0, 0, 11, 0⟩
/-- FLY_MACH_OFS, spec/09_flyer.md. -/
def Reg.FLY_MACH_OFS : RegGroup := ⟨0x300A1004, [(2, 64)],
    [⟨31, 0, .rw, 0⟩]⟩
def F.FLY_MACH_OFS.EL_OFFSET : Fld := ⟨0x300A1004, 64, 0, 0, 31, 0⟩
/-- FLY_MACH_BASE, spec/09_flyer.md. -/
def Reg.FLY_MACH_BASE : RegGroup := ⟨0x300A1008, [(2, 64)],
    [⟨31, 0, .rw, 0⟩]⟩
def F.FLY_MACH_BASE.SPD_BASE : Fld := ⟨0x300A1008, 64, 0, 0, 31, 0⟩
/-- FLY_MACH_LOSS, spec/09_flyer.md. -/
def Reg.FLY_MACH_LOSS : RegGroup := ⟨0x300A100C, [(2, 64)],
    [⟨31, 24, .rw, 0⟩, ⟨23, 20, .rw, 0⟩, ⟨19, 12, .rw, 0⟩, ⟨11, 8, .rw, 0⟩, ⟨7, 5, .rw, 0⟩]⟩
def F.FLY_MACH_LOSS.LOSS_THR : Fld := ⟨0x300A100C, 64, 0, 0, 31, 24⟩
def F.FLY_MACH_LOSS.LOSS_N : Fld := ⟨0x300A100C, 64, 0, 0, 23, 20⟩
def F.FLY_MACH_LOSS.ANGLE_XCHK : Fld := ⟨0x300A100C, 64, 0, 0, 19, 12⟩
def F.FLY_MACH_LOSS.XCHK_N : Fld := ⟨0x300A100C, 64, 0, 0, 11, 8⟩
def F.FLY_MACH_LOSS.LOSS_CLASS : Fld := ⟨0x300A100C, 64, 0, 0, 7, 5⟩
/-- FLY_MACH_SMIN, spec/09_flyer.md. -/
def Reg.FLY_MACH_SMIN : RegGroup := ⟨0x300A1010, [(2, 64)],
    [⟨23, 0, .rw, 0⟩]⟩
def F.FLY_MACH_SMIN.SPEED_MIN : Fld := ⟨0x300A1010, 64, 0, 0, 23, 0⟩
/-- FLY_MACH_SHYS, spec/09_flyer.md. -/
def Reg.FLY_MACH_SHYS : RegGroup := ⟨0x300A1014, [(2, 64)],
    [⟨23, 0, .rw, 0⟩]⟩
def F.FLY_MACH_SHYS.SPEED_HYS : Fld := ⟨0x300A1014, 64, 0, 0, 23, 0⟩
/-- FLY_MACH_STAT, spec/09_flyer.md. -/
def Reg.FLY_MACH_STAT : RegGroup := ⟨0x300A1018, [(2, 64)],
    [⟨31, 31, .ro, 0⟩, ⟨30, 30, .ro, 0⟩, ⟨29, 29, .ro, 0⟩, ⟨28, 28, .ro, 0⟩, ⟨27, 27, .ro, 0⟩, ⟨26, 26, .ro, 0⟩,
     ⟨25, 25, .ro, 0⟩, ⟨24, 24, .ro, 0⟩, ⟨23, 23, .ro, 0⟩, ⟨22, 22, .w1c, 0⟩, ⟨19, 16, .ro, 0⟩, ⟨12, 8, .ro, 0⟩]⟩
def F.FLY_MACH_STAT.ACQUIRED : Fld := ⟨0x300A1018, 64, 0, 0, 31, 31⟩
def F.FLY_MACH_STAT.SPEED_VALID : Fld := ⟨0x300A1018, 64, 0, 0, 30, 30⟩
def F.FLY_MACH_STAT.SPEED_LOW : Fld := ⟨0x300A1018, 64, 0, 0, 29, 29⟩
def F.FLY_MACH_STAT.DIR : Fld := ⟨0x300A1018, 64, 0, 0, 28, 28⟩
def F.FLY_MACH_STAT.LOST : Fld := ⟨0x300A1018, 64, 0, 0, 27, 27⟩
def F.FLY_MACH_STAT.EMF_VALID : Fld := ⟨0x300A1018, 64, 0, 0, 26, 26⟩
def F.FLY_MACH_STAT.EMF_LOCK : Fld := ⟨0x300A1018, 64, 0, 0, 25, 25⟩
def F.FLY_MACH_STAT.SPD_FROM_EMF : Fld := ⟨0x300A1018, 64, 0, 0, 24, 24⟩
def F.FLY_MACH_STAT.XCHK_ACT : Fld := ⟨0x300A1018, 64, 0, 0, 23, 23⟩
def F.FLY_MACH_STAT.ACQ_REFUSED : Fld := ⟨0x300A1018, 64, 0, 0, 22, 22⟩
def F.FLY_MACH_STAT.LOSS_CAUSE : Fld := ⟨0x300A1018, 64, 0, 0, 19, 16⟩
def F.FLY_MACH_STAT.LOSS_ALL : Fld := ⟨0x300A1018, 64, 0, 0, 12, 8⟩
/-- FLY_MACH_CTL, spec/09_flyer.md. -/
def Reg.FLY_MACH_CTL : RegGroup := ⟨0x300A101C, [(2, 64)],
    [⟨2, 2, .wo, 0⟩, ⟨1, 1, .wo, 0⟩]⟩
def F.FLY_MACH_CTL.USE_SET : Fld := ⟨0x300A101C, 64, 0, 0, 2, 2⟩
def F.FLY_MACH_CTL.ACQ : Fld := ⟨0x300A101C, 64, 0, 0, 1, 1⟩
/-- FLY_MACH_ASET, spec/09_flyer.md. -/
def Reg.FLY_MACH_ASET : RegGroup := ⟨0x300A1020, [(2, 64)],
    [⟨31, 0, .rw, 0⟩]⟩
def F.FLY_MACH_ASET.ANGLE_SET : Fld := ⟨0x300A1020, 64, 0, 0, 31, 0⟩
/-- FLY_IDX_ANGLE, spec/09_flyer.md. -/
def Reg.FLY_IDX_ANGLE : RegGroup := ⟨0x300A1024, [(2, 64)],
    [⟨31, 0, .rw, 0⟩]⟩
def F.FLY_IDX_ANGLE.IDX_ANGLE : Fld := ⟨0x300A1024, 64, 0, 0, 31, 0⟩
/-- FLY_MACH_SPD, spec/09_flyer.md. -/
def Reg.FLY_MACH_SPD : RegGroup := ⟨0x300A1028, [(2, 64)],
    [⟨31, 0, .ro, 0⟩]⟩
def F.FLY_MACH_SPD.SPD : Fld := ⟨0x300A1028, 64, 0, 0, 31, 0⟩
/-- FLY_EMF_CFG, spec/09_flyer.md. -/
def Reg.FLY_EMF_CFG : RegGroup := ⟨0x300A102C, [(2, 64)],
    [⟨31, 31, .rw, 0⟩, ⟨29, 24, .rw, 0⟩, ⟨23, 18, .rw, 0⟩, ⟨17, 12, .rw, 0⟩, ⟨11, 6, .rw, 0⟩]⟩
def F.FLY_EMF_CFG.EN : Fld := ⟨0x300A102C, 64, 0, 0, 31, 31⟩
def F.FLY_EMF_CFG.VCH0 : Fld := ⟨0x300A102C, 64, 0, 0, 29, 24⟩
def F.FLY_EMF_CFG.VCH1 : Fld := ⟨0x300A102C, 64, 0, 0, 23, 18⟩
def F.FLY_EMF_CFG.ICH0 : Fld := ⟨0x300A102C, 64, 0, 0, 17, 12⟩
def F.FLY_EMF_CFG.ICH1 : Fld := ⟨0x300A102C, 64, 0, 0, 11, 6⟩
/-- FLY_EMF_PAR, spec/09_flyer.md. -/
def Reg.FLY_EMF_PAR : RegGroup := ⟨0x300A1030, [(2, 64)],
    [⟨31, 22, .rw, 0⟩, ⟨21, 16, .rw, 0⟩, ⟨15, 8, .rw, 0⟩, ⟨7, 0, .rw, 0⟩]⟩
def F.FLY_EMF_PAR.EMF_BW : Fld := ⟨0x300A1030, 64, 0, 0, 31, 22⟩
def F.FLY_EMF_PAR.EMF_HPF : Fld := ⟨0x300A1030, 64, 0, 0, 21, 16⟩
def F.FLY_EMF_PAR.EMF_MIN : Fld := ⟨0x300A1030, 64, 0, 0, 15, 8⟩
def F.FLY_EMF_PAR.EMF_LOCK_THR : Fld := ⟨0x300A1030, 64, 0, 0, 7, 0⟩
/-- FLY_EMF_R, spec/09_flyer.md. -/
def Reg.FLY_EMF_R : RegGroup := ⟨0x300A1034, [(2, 64)],
    [⟨31, 0, .rw, 0⟩]⟩
def F.FLY_EMF_R.EMF_R : Fld := ⟨0x300A1034, 64, 0, 0, 31, 0⟩
/-- FLY_EMF_L, spec/09_flyer.md. -/
def Reg.FLY_EMF_L : RegGroup := ⟨0x300A1038, [(2, 64)],
    [⟨31, 0, .rw, 0⟩]⟩
def F.FLY_EMF_L.EMF_L : Fld := ⟨0x300A1038, 64, 0, 0, 31, 0⟩
/-- FLY_CMP_CFG, spec/09_flyer.md. -/
def Reg.FLY_CMP_CFG : RegGroup := ⟨0x300A2000, [(8, 16)],
    [⟨31, 31, .rw, 0⟩, ⟨30, 30, .ro, 0⟩, ⟨29, 29, .w1c, 0⟩, ⟨28, 28, .w1c, 0⟩, ⟨27, 27, .rw, 0⟩, ⟨26, 26, .rw, 0⟩,
     ⟨25, 25, .w1c, 0⟩, ⟨24, 22, .rw, 0⟩]⟩
def F.FLY_CMP_CFG.EN : Fld := ⟨0x300A2000, 16, 0, 0, 31, 31⟩
def F.FLY_CMP_CFG.ARMED : Fld := ⟨0x300A2000, 16, 0, 0, 30, 30⟩
def F.FLY_CMP_CFG.FIRED : Fld := ⟨0x300A2000, 16, 0, 0, 29, 29⟩
def F.FLY_CMP_CFG.COMPARE_BEHIND : Fld := ⟨0x300A2000, 16, 0, 0, 28, 28⟩
def F.FLY_CMP_CFG.COMPARE_IMMEDIATE : Fld := ⟨0x300A2000, 16, 0, 0, 27, 27⟩
def F.FLY_CMP_CFG.PERIODIC : Fld := ⟨0x300A2000, 16, 0, 0, 26, 26⟩
def F.FLY_CMP_CFG.VAL_ERR : Fld := ⟨0x300A2000, 16, 0, 0, 25, 25⟩
def F.FLY_CMP_CFG.SRC : Fld := ⟨0x300A2000, 16, 0, 0, 24, 22⟩
/-- FLY_CMP_VAL, spec/09_flyer.md. -/
def Reg.FLY_CMP_VAL : RegGroup := ⟨0x300A2004, [(8, 16)],
    [⟨27, 0, .rw, 0⟩]⟩
def F.FLY_CMP_VAL.VAL : Fld := ⟨0x300A2004, 16, 0, 0, 27, 0⟩
/-- FLY_CMP_STEP, spec/09_flyer.md. -/
def Reg.FLY_CMP_STEP : RegGroup := ⟨0x300A2008, [(8, 16)],
    [⟨27, 0, .rw, 0⟩]⟩
def F.FLY_CMP_STEP.STEP : Fld := ⟨0x300A2008, 16, 0, 0, 27, 0⟩
/-- FLY_CMP_TS, spec/09_flyer.md. -/
def Reg.FLY_CMP_TS : RegGroup := ⟨0x300A200C, [(8, 16)],
    [⟨31, 0, .ro, 0⟩]⟩
def F.FLY_CMP_TS.CMP_TS : Fld := ⟨0x300A200C, 16, 0, 0, 31, 0⟩
/-- FLY_EMU_CFG, spec/09_flyer.md. -/
def Reg.FLY_EMU_CFG : RegGroup := ⟨0x300A3000, [(2, 16)],
    [⟨31, 31, .rw, 0⟩, ⟨30, 30, .w1c, 0⟩, ⟨29, 29, .rw, 0⟩, ⟨28, 25, .rw, 0⟩, ⟨24, 20, .rw, 10⟩, ⟨15, 0, .ro, 0⟩]⟩
def F.FLY_EMU_CFG.EN : Fld := ⟨0x300A3000, 16, 0, 0, 31, 31⟩
def F.FLY_EMU_CFG.OVF : Fld := ⟨0x300A3000, 16, 0, 0, 30, 30⟩
def F.FLY_EMU_CFG.KIND : Fld := ⟨0x300A3000, 16, 0, 0, 29, 29⟩
def F.FLY_EMU_CFG.SRC : Fld := ⟨0x300A3000, 16, 0, 0, 28, 25⟩
def F.FLY_EMU_CFG.EMU_MAX : Fld := ⟨0x300A3000, 16, 0, 0, 24, 20⟩
def F.FLY_EMU_CFG.BACKLOG : Fld := ⟨0x300A3000, 16, 0, 0, 15, 0⟩
/-- FLY_EMU_RATIO, spec/09_flyer.md. -/
def Reg.FLY_EMU_RATIO : RegGroup := ⟨0x300A3004, [(2, 16)],
    [⟨31, 16, .rw, 0⟩, ⟨15, 0, .rw, 0⟩]⟩
def F.FLY_EMU_RATIO.NUM : Fld := ⟨0x300A3004, 16, 0, 0, 31, 16⟩
def F.FLY_EMU_RATIO.DEN : Fld := ⟨0x300A3004, 16, 0, 0, 15, 0⟩
/-- FLY_EMU_CPR, spec/09_flyer.md. -/
def Reg.FLY_EMU_CPR : RegGroup := ⟨0x300A3008, [(2, 16)],
    [⟨27, 0, .rw, 0⟩]⟩
def F.FLY_EMU_CPR.EMU_CPR : Fld := ⟨0x300A3008, 16, 0, 0, 27, 0⟩
/-- FLY_SNAP_MAP, spec/09_flyer.md. -/
def Reg.FLY_SNAP_MAP : RegGroup := ⟨0x300A4000, [(32, 4)],
    [⟨31, 31, .rw, 0⟩, ⟨28, 24, .rw, 0⟩, ⟨18, 16, .rw, 0⟩, ⟨13, 8, .rw, 0⟩]⟩
def F.FLY_SNAP_MAP.EN : Fld := ⟨0x300A4000, 4, 0, 0, 31, 31⟩
def F.FLY_SNAP_MAP.ITEM : Fld := ⟨0x300A4000, 4, 0, 0, 28, 24⟩
def F.FLY_SNAP_MAP.WHORL : Fld := ⟨0x300A4000, 4, 0, 0, 18, 16⟩
def F.FLY_SNAP_MAP.PORT : Fld := ⟨0x300A4000, 4, 0, 0, 13, 8⟩
/-- The registers of block FLY, R34. -/
def Reg.blockFLY : List RegGroup := [
  Reg.FLY_ENC_CFG,
  Reg.FLY_ENC_CPR,
  Reg.FLY_ENC_POS,
  Reg.FLY_ENC_REV,
  Reg.FLY_ENC_IDX,
  Reg.FLY_ENC_IDXREV,
  Reg.FLY_HALL_CFG,
  Reg.FLY_HALL_EDGE,
  Reg.FLY_RES_CFG,
  Reg.FLY_RES_AMP,
  Reg.FLY_SER_CFG,
  Reg.FLY_SER_TIME,
  Reg.FLY_SENT_CFG,
  Reg.FLY_SENT_SLOW,
  Reg.FLY_SRC_CFG,
  Reg.FLY_SRC_STAT,
  Reg.FLY_SRC_VAL,
  Reg.FLY_MACH_CFG,
  Reg.FLY_MACH_OFS,
  Reg.FLY_MACH_BASE,
  Reg.FLY_MACH_LOSS,
  Reg.FLY_MACH_SMIN,
  Reg.FLY_MACH_SHYS,
  Reg.FLY_MACH_STAT,
  Reg.FLY_MACH_CTL,
  Reg.FLY_MACH_ASET,
  Reg.FLY_IDX_ANGLE,
  Reg.FLY_MACH_SPD,
  Reg.FLY_EMF_CFG,
  Reg.FLY_EMF_PAR,
  Reg.FLY_EMF_R,
  Reg.FLY_EMF_L,
  Reg.FLY_CMP_CFG,
  Reg.FLY_CMP_VAL,
  Reg.FLY_CMP_STEP,
  Reg.FLY_CMP_TS,
  Reg.FLY_EMU_CFG,
  Reg.FLY_EMU_RATIO,
  Reg.FLY_EMU_CPR,
  Reg.FLY_SNAP_MAP]

/-- AFE_SLICE_COEF, spec/05_fast_measurement.md. -/
def Reg.AFE_SLICE_COEF : RegGroup := ⟨0x300B4000, [(48, 64), (9, 4)],
    [⟨31, 22, .rw, 0⟩, ⟨21, 8, .rw, 0x00002000⟩, ⟨7, 0, .rw, 0⟩]⟩
def F.AFE_SLICE_COEF.OFS : Fld := ⟨0x300B4000, 64, 4, 0, 31, 22⟩
def F.AFE_SLICE_COEF.GAIN : Fld := ⟨0x300B4000, 64, 4, 0, 21, 8⟩
def F.AFE_SLICE_COEF.SKEW : Fld := ⟨0x300B4000, 64, 4, 0, 7, 0⟩
/-- AFE_CTL, spec/05_fast_measurement.md. -/
def Reg.AFE_CTL : RegGroup := ⟨0x300B0000, [],
    [⟨31, 31, .rw, 0⟩, ⟨30, 30, .ro, 0⟩, ⟨29, 29, .w1c, 0⟩, ⟨25, 24, .rw, 0⟩, ⟨13, 8, .rw, 4⟩, ⟨5, 0, .ro, 0⟩]⟩
def F.AFE_CTL.REF_EN : Fld := ⟨0x300B0000, 0, 0, 0, 31, 31⟩
def F.AFE_CTL.REF_RDY : Fld := ⟨0x300B0000, 0, 0, 0, 30, 30⟩
def F.AFE_CTL.REF_REFUSED : Fld := ⟨0x300B0000, 0, 0, 0, 29, 29⟩
def F.AFE_CTL.CAL_MODE : Fld := ⟨0x300B0000, 0, 0, 0, 25, 24⟩
def F.AFE_CTL.SHADOW_THR : Fld := ⟨0x300B0000, 0, 0, 0, 13, 8⟩
def F.AFE_CTL.REF_FAULT : Fld := ⟨0x300B0000, 0, 0, 0, 5, 0⟩
/-- AFE_CH_CFG, spec/05_fast_measurement.md. -/
def Reg.AFE_CH_CFG : RegGroup := ⟨0x300B0100, [(48, 16)],
    [⟨31, 31, .rw, 0⟩, ⟨30, 30, .ro, 0⟩, ⟨29, 29, .ro, 0⟩, ⟨28, 28, .ro, 0⟩, ⟨27, 27, .rw, 0⟩, ⟨26, 24, .rw, 0⟩,
     ⟨23, 23, .w1c, 0⟩, ⟨18, 16, .rw, 0⟩, ⟨15, 0, .rw, 0⟩]⟩
def F.AFE_CH_CFG.EN : Fld := ⟨0x300B0100, 16, 0, 0, 31, 31⟩
def F.AFE_CH_CFG.DRAINING : Fld := ⟨0x300B0100, 16, 0, 0, 30, 30⟩
def F.AFE_CH_CFG.FAILED : Fld := ⟨0x300B0100, 16, 0, 0, 29, 29⟩
def F.AFE_CH_CFG.SPARE_LOST : Fld := ⟨0x300B0100, 16, 0, 0, 28, 28⟩
def F.AFE_CH_CFG.ACT_MODE : Fld := ⟨0x300B0100, 16, 0, 0, 27, 27⟩
def F.AFE_CH_CFG.FAIL_CLASS : Fld := ⟨0x300B0100, 16, 0, 0, 26, 24⟩
def F.AFE_CH_CFG.PORT_CONFLICT : Fld := ⟨0x300B0100, 16, 0, 0, 23, 23⟩
def F.AFE_CH_CFG.WHORL : Fld := ⟨0x300B0100, 16, 0, 0, 18, 16⟩
def F.AFE_CH_CFG.CH_OFS : Fld := ⟨0x300B0100, 16, 0, 0, 15, 0⟩
/-- AFE_CH_GAIN, spec/05_fast_measurement.md. -/
def Reg.AFE_CH_GAIN : RegGroup := ⟨0x300B0104, [(48, 16)],
    [⟨31, 0, .rw, 0⟩]⟩
def F.AFE_CH_GAIN.CH_GAIN : Fld := ⟨0x300B0104, 16, 0, 0, 31, 0⟩
/-- AFE_CH_PORT0, spec/05_fast_measurement.md. -/
def Reg.AFE_CH_PORT0 : RegGroup := ⟨0x300B0108, [(48, 16)],
    [⟨31, 31, .rw, 0⟩, ⟨29, 24, .rw, 0⟩, ⟨23, 23, .rw, 0⟩, ⟨21, 16, .rw, 0⟩, ⟨15, 15, .rw, 0⟩, ⟨13, 8, .rw, 0⟩, ⟨7, 7, .rw, 0⟩,
     ⟨5, 0, .rw, 0⟩]⟩
def F.AFE_CH_PORT0.EN3 : Fld := ⟨0x300B0108, 16, 0, 0, 31, 31⟩
def F.AFE_CH_PORT0.PORT3 : Fld := ⟨0x300B0108, 16, 0, 0, 29, 24⟩
def F.AFE_CH_PORT0.EN2 : Fld := ⟨0x300B0108, 16, 0, 0, 23, 23⟩
def F.AFE_CH_PORT0.PORT2 : Fld := ⟨0x300B0108, 16, 0, 0, 21, 16⟩
def F.AFE_CH_PORT0.EN1 : Fld := ⟨0x300B0108, 16, 0, 0, 15, 15⟩
def F.AFE_CH_PORT0.PORT1 : Fld := ⟨0x300B0108, 16, 0, 0, 13, 8⟩
def F.AFE_CH_PORT0.EN0 : Fld := ⟨0x300B0108, 16, 0, 0, 7, 7⟩
def F.AFE_CH_PORT0.PORT0 : Fld := ⟨0x300B0108, 16, 0, 0, 5, 0⟩
/-- AFE_CH_PORT1, spec/05_fast_measurement.md. -/
def Reg.AFE_CH_PORT1 : RegGroup := ⟨0x300B010C, [(48, 16)],
    [⟨31, 31, .rw, 0⟩, ⟨29, 24, .rw, 0⟩, ⟨23, 23, .rw, 0⟩, ⟨21, 16, .rw, 0⟩, ⟨15, 15, .rw, 0⟩, ⟨13, 8, .rw, 0⟩, ⟨7, 7, .rw, 0⟩,
     ⟨5, 0, .rw, 0⟩]⟩
def F.AFE_CH_PORT1.EN3 : Fld := ⟨0x300B010C, 16, 0, 0, 31, 31⟩
def F.AFE_CH_PORT1.PORT3 : Fld := ⟨0x300B010C, 16, 0, 0, 29, 24⟩
def F.AFE_CH_PORT1.EN2 : Fld := ⟨0x300B010C, 16, 0, 0, 23, 23⟩
def F.AFE_CH_PORT1.PORT2 : Fld := ⟨0x300B010C, 16, 0, 0, 21, 16⟩
def F.AFE_CH_PORT1.EN1 : Fld := ⟨0x300B010C, 16, 0, 0, 15, 15⟩
def F.AFE_CH_PORT1.PORT1 : Fld := ⟨0x300B010C, 16, 0, 0, 13, 8⟩
def F.AFE_CH_PORT1.EN0 : Fld := ⟨0x300B010C, 16, 0, 0, 7, 7⟩
def F.AFE_CH_PORT1.PORT0 : Fld := ⟨0x300B010C, 16, 0, 0, 5, 0⟩
/-- AFE_WIN_CTL, spec/05_fast_measurement.md. -/
def Reg.AFE_WIN_CTL : RegGroup := ⟨0x300B1000, [(48, 32), (2, 16)],
    [⟨31, 31, .rw, 0⟩, ⟨30, 30, .ro, 0⟩, ⟨29, 28, .rw, 0⟩, ⟨27, 24, .rw, 0⟩, ⟨23, 23, .rw, 0⟩, ⟨22, 22, .rw, 0⟩, ⟨20, 16, .rw, 0⟩]⟩
def F.AFE_WIN_CTL.EN : Fld := ⟨0x300B1000, 32, 16, 0, 31, 31⟩
def F.AFE_WIN_CTL.DRAINING : Fld := ⟨0x300B1000, 32, 16, 0, 30, 30⟩
def F.AFE_WIN_CTL.MODE : Fld := ⟨0x300B1000, 32, 16, 0, 29, 28⟩
def F.AFE_WIN_CTL.CARRIER : Fld := ⟨0x300B1000, 32, 16, 0, 27, 24⟩
def F.AFE_WIN_CTL.SEG_EDGE : Fld := ⟨0x300B1000, 32, 16, 0, 23, 23⟩
def F.AFE_WIN_CTL.SEG_HALF : Fld := ⟨0x300B1000, 32, 16, 0, 22, 22⟩
def F.AFE_WIN_CTL.SEG_LEG : Fld := ⟨0x300B1000, 32, 16, 0, 20, 16⟩
/-- AFE_WIN_START, spec/05_fast_measurement.md. -/
def Reg.AFE_WIN_START : RegGroup := ⟨0x300B1004, [(48, 32), (2, 16)],
    [⟨31, 31, .rw, 0⟩, ⟨23, 0, .rw, 0⟩]⟩
def F.AFE_WIN_START.EVENT : Fld := ⟨0x300B1004, 32, 16, 0, 31, 31⟩
def F.AFE_WIN_START.OFFSET : Fld := ⟨0x300B1004, 32, 16, 0, 23, 0⟩
/-- AFE_WIN_END, spec/05_fast_measurement.md. -/
def Reg.AFE_WIN_END : RegGroup := ⟨0x300B1008, [(48, 32), (2, 16)],
    [⟨31, 31, .rw, 0⟩, ⟨23, 0, .rw, 0⟩]⟩
def F.AFE_WIN_END.EVENT : Fld := ⟨0x300B1008, 32, 16, 0, 31, 31⟩
def F.AFE_WIN_END.OFFSET : Fld := ⟨0x300B1008, 32, 16, 0, 23, 0⟩
/-- AFE_WIN_SEG, spec/05_fast_measurement.md. -/
def Reg.AFE_WIN_SEG : RegGroup := ⟨0x300B100C, [(48, 32), (2, 16)],
    [⟨31, 24, .rw, 152⟩, ⟨23, 16, .rw, 48⟩, ⟨15, 8, .rw, 32⟩]⟩
def F.AFE_WIN_SEG.SEG_DELAY : Fld := ⟨0x300B100C, 32, 16, 0, 31, 24⟩
def F.AFE_WIN_SEG.SEG_LEN : Fld := ⟨0x300B100C, 32, 16, 0, 23, 16⟩
def F.AFE_WIN_SEG.SEG_GUARD : Fld := ⟨0x300B100C, 32, 16, 0, 15, 8⟩
/-- AFE_PT_CFG, spec/05_fast_measurement.md. -/
def Reg.AFE_PT_CFG : RegGroup := ⟨0x300B1800, [(48, 16), (4, 4)],
    [⟨31, 31, .rw, 0⟩, ⟨30, 30, .rw, 0⟩, ⟨29, 29, .rw, 0⟩, ⟨26, 25, .rw, 0⟩, ⟨23, 0, .rw, 0⟩]⟩
def F.AFE_PT_CFG.EN : Fld := ⟨0x300B1800, 16, 4, 0, 31, 31⟩
def F.AFE_PT_CFG.EVENT : Fld := ⟨0x300B1800, 16, 4, 0, 30, 30⟩
def F.AFE_PT_CFG.BIND : Fld := ⟨0x300B1800, 16, 4, 0, 29, 29⟩
def F.AFE_PT_CFG.AVG : Fld := ⟨0x300B1800, 16, 4, 0, 26, 25⟩
def F.AFE_PT_CFG.OFFSET : Fld := ⟨0x300B1800, 16, 4, 0, 23, 0⟩
/-- AFE_STAT, spec/05_fast_measurement.md. -/
def Reg.AFE_STAT : RegGroup := ⟨0x300B0004, [],
    [⟨31, 31, .ro, 0⟩, ⟨23, 16, .ro, 0⟩, ⟨15, 8, .ro, 0⟩, ⟨7, 0, .rc, 0⟩]⟩
def F.AFE_STAT.SAT : Fld := ⟨0x300B0004, 0, 0, 0, 31, 31⟩
def F.AFE_STAT.SLICE_FAILS : Fld := ⟨0x300B0004, 0, 0, 0, 23, 16⟩
def F.AFE_STAT.CH_FAILS : Fld := ⟨0x300B0004, 0, 0, 0, 15, 8⟩
def F.AFE_STAT.PT_MISS_CNT : Fld := ⟨0x300B0004, 0, 0, 0, 7, 0⟩
/-- AFE_SLICE_STAT, spec/05_fast_measurement.md. -/
def Reg.AFE_SLICE_STAT : RegGroup := ⟨0x300B0800, [(48, 4)],
    [⟨31, 28, .ro, 8⟩, ⟨27, 25, .ro, 0⟩, ⟨16, 16, .w1c, 0⟩, ⟨8, 0, .ro, 0⟩]⟩
def F.AFE_SLICE_STAT.SPARE : Fld := ⟨0x300B0800, 4, 0, 0, 31, 28⟩
def F.AFE_SLICE_STAT.NEXT_SLOT : Fld := ⟨0x300B0800, 4, 0, 0, 27, 25⟩
def F.AFE_SLICE_STAT.SKEW_HOLD : Fld := ⟨0x300B0800, 4, 0, 0, 16, 16⟩
def F.AFE_SLICE_STAT.FAILED : Fld := ⟨0x300B0800, 4, 0, 0, 8, 0⟩
/-- The registers of block AFE, R34. -/
def Reg.blockAFE : List RegGroup := [
  Reg.AFE_SLICE_COEF,
  Reg.AFE_CTL,
  Reg.AFE_CH_CFG,
  Reg.AFE_CH_GAIN,
  Reg.AFE_CH_PORT0,
  Reg.AFE_CH_PORT1,
  Reg.AFE_WIN_CTL,
  Reg.AFE_WIN_START,
  Reg.AFE_WIN_END,
  Reg.AFE_WIN_SEG,
  Reg.AFE_PT_CFG,
  Reg.AFE_STAT,
  Reg.AFE_SLICE_STAT]

/-- HK_TWIN_CFG, spec/05_fast_measurement.md. -/
def Reg.HK_TWIN_CFG : RegGroup := ⟨0x300C0100, [(48, 4)],
    [⟨31, 31, .rw, 0⟩, ⟨30, 30, .ro, 0⟩, ⟨29, 29, .w1c, 0⟩, ⟨27, 24, .rw, 3⟩, ⟨23, 12, .ro, 0⟩, ⟨11, 0, .rw, 64⟩]⟩
def F.HK_TWIN_CFG.EN : Fld := ⟨0x300C0100, 4, 0, 0, 31, 31⟩
def F.HK_TWIN_CFG.TWIN_LOST : Fld := ⟨0x300C0100, 4, 0, 0, 30, 30⟩
def F.HK_TWIN_CFG.MISMATCH : Fld := ⟨0x300C0100, 4, 0, 0, 29, 29⟩
def F.HK_TWIN_CFG.TWIN_N : Fld := ⟨0x300C0100, 4, 0, 0, 27, 24⟩
def F.HK_TWIN_CFG.LAST_DIFF : Fld := ⟨0x300C0100, 4, 0, 0, 23, 12⟩
def F.HK_TWIN_CFG.TWIN_THR : Fld := ⟨0x300C0100, 4, 0, 0, 11, 0⟩
/-- HK_CTL, spec/05_fast_measurement.md. -/
def Reg.HK_CTL : RegGroup := ⟨0x300C0000, [(4, 4)],
    [⟨31, 31, .ro, 0⟩, ⟨20, 16, .rw, 8⟩, ⟨15, 0, .rw, 0⟩]⟩
def F.HK_CTL.REF_FAIL : Fld := ⟨0x300C0000, 4, 0, 0, 31, 31⟩
def F.HK_CTL.TWIN_SHARE : Fld := ⟨0x300C0000, 4, 0, 0, 20, 16⟩
def F.HK_CTL.IN_EN : Fld := ⟨0x300C0000, 4, 0, 0, 15, 0⟩
/-- HK_RES, spec/05_fast_measurement.md. -/
def Reg.HK_RES : RegGroup := ⟨0x300C0400, [(64, 4)],
    [⟨31, 31, .ro, 0⟩, ⟨27, 16, .ro, 0⟩, ⟨11, 0, .ro, 0⟩]⟩
def F.HK_RES.VALID : Fld := ⟨0x300C0400, 4, 0, 0, 31, 31⟩
def F.HK_RES.MEAN16 : Fld := ⟨0x300C0400, 4, 0, 0, 27, 16⟩
def F.HK_RES.LAST : Fld := ⟨0x300C0400, 4, 0, 0, 11, 0⟩
/-- The registers of block HKA, R34. -/
def Reg.blockHKA : List RegGroup := [
  Reg.HK_TWIN_CFG,
  Reg.HK_CTL,
  Reg.HK_RES]

/-- PWM_CG_CTL, spec/08_pwm_gate.md. -/
def Reg.PWM_CG_CTL : RegGroup := ⟨0x300D0000, [(12, 16)],
    [⟨31, 31, .rw, 0⟩, ⟨30, 30, .ro, 0⟩, ⟨29, 29, .ro, 0⟩, ⟨28, 28, .w1c, 0⟩, ⟨27, 27, .w1c, 0⟩, ⟨26, 26, .ro, 0⟩,
     ⟨23, 20, .rw, 0⟩, ⟨19, 18, .rw, 0⟩, ⟨17, 16, .rw, 0⟩, ⟨7, 0, .rc, 0⟩]⟩
def F.PWM_CG_CTL.EN : Fld := ⟨0x300D0000, 16, 0, 0, 31, 31⟩
def F.PWM_CG_CTL.DRAINING : Fld := ⟨0x300D0000, 16, 0, 0, 30, 30⟩
def F.PWM_CG_CTL.RUN : Fld := ⟨0x300D0000, 16, 0, 0, 29, 29⟩
def F.PWM_CG_CTL.LATE_UPDATE : Fld := ⟨0x300D0000, 16, 0, 0, 28, 28⟩
def F.PWM_CG_CTL.SYNC_LOST : Fld := ⟨0x300D0000, 16, 0, 0, 27, 27⟩
def F.PWM_CG_CTL.SAT : Fld := ⟨0x300D0000, 16, 0, 0, 26, 26⟩
def F.PWM_CG_CTL.MASTER : Fld := ⟨0x300D0000, 16, 0, 0, 23, 20⟩
def F.PWM_CG_CTL.UPD : Fld := ⟨0x300D0000, 16, 0, 0, 19, 18⟩
def F.PWM_CG_CTL.MODE : Fld := ⟨0x300D0000, 16, 0, 0, 17, 16⟩
def F.PWM_CG_CTL.LATE_CNT : Fld := ⟨0x300D0000, 16, 0, 0, 7, 0⟩
/-- PWM_CG_PER, spec/08_pwm_gate.md. -/
def Reg.PWM_CG_PER : RegGroup := ⟨0x300D0004, [(12, 16)],
    [⟨23, 0, .rw, 0⟩]⟩
def F.PWM_CG_PER.PER : Fld := ⟨0x300D0004, 16, 0, 0, 23, 0⟩
/-- PWM_CG_PHASE, spec/08_pwm_gate.md. -/
def Reg.PWM_CG_PHASE : RegGroup := ⟨0x300D0008, [(12, 16)],
    [⟨23, 0, .rw, 0⟩]⟩
def F.PWM_CG_PHASE.PHASE : Fld := ⟨0x300D0008, 16, 0, 0, 23, 0⟩
/-- PWM_LEG_CFG, spec/08_pwm_gate.md. -/
def Reg.PWM_LEG_CFG : RegGroup := ⟨0x300D0400, [(32, 32)],
    [⟨31, 31, .rw, 0⟩, ⟨30, 30, .w1s, 0⟩, ⟨29, 29, .ro, 0⟩, ⟨28, 28, .ro, 0⟩, ⟨27, 25, .rw, 0⟩, ⟨24, 24, .rw, 0⟩,
     ⟨23, 23, .rw, 0⟩, ⟨22, 22, .rw, 0⟩, ⟨21, 21, .rw, 0⟩, ⟨20, 20, .rw, 0⟩, ⟨19, 16, .rw, 0⟩, ⟨15, 12, .rw, 0⟩,
     ⟨11, 10, .rw, 0⟩, ⟨9, 6, .rw, 0⟩]⟩
def F.PWM_LEG_CFG.EN : Fld := ⟨0x300D0400, 32, 0, 0, 31, 31⟩
def F.PWM_LEG_CFG.ARM : Fld := ⟨0x300D0400, 32, 0, 0, 30, 30⟩
def F.PWM_LEG_CFG.DRAINING : Fld := ⟨0x300D0400, 32, 0, 0, 29, 29⟩
def F.PWM_LEG_CFG.OFF_REQ : Fld := ⟨0x300D0400, 32, 0, 0, 28, 28⟩
def F.PWM_LEG_CFG.STAGE : Fld := ⟨0x300D0400, 32, 0, 0, 27, 25⟩
def F.PWM_LEG_CFG.ASYM : Fld := ⟨0x300D0400, 32, 0, 0, 24, 24⟩
def F.PWM_LEG_CFG.BOOT_EN : Fld := ⟨0x300D0400, 32, 0, 0, 23, 23⟩
def F.PWM_LEG_CFG.POL_T : Fld := ⟨0x300D0400, 32, 0, 0, 22, 22⟩
def F.PWM_LEG_CFG.POL_B : Fld := ⟨0x300D0400, 32, 0, 0, 21, 21⟩
def F.PWM_LEG_CFG.ROUTE : Fld := ⟨0x300D0400, 32, 0, 0, 20, 20⟩
def F.PWM_LEG_CFG.ACT_SEL : Fld := ⟨0x300D0400, 32, 0, 0, 19, 16⟩
def F.PWM_LEG_CFG.CG : Fld := ⟨0x300D0400, 32, 0, 0, 15, 12⟩
def F.PWM_LEG_CFG.GEN_SEL : Fld := ⟨0x300D0400, 32, 0, 0, 11, 10⟩
def F.PWM_LEG_CFG.PSET : Fld := ⟨0x300D0400, 32, 0, 0, 9, 6⟩
/-- PWM_LEG_CMP, spec/08_pwm_gate.md. -/
def Reg.PWM_LEG_CMP : RegGroup := ⟨0x300D0404, [(32, 32)],
    [⟨31, 0, .rw, 0⟩]⟩
def F.PWM_LEG_CMP.CMP_A : Fld := ⟨0x300D0404, 32, 0, 0, 31, 0⟩
/-- PWM_LEG_CMPB, spec/08_pwm_gate.md. -/
def Reg.PWM_LEG_CMPB : RegGroup := ⟨0x300D0408, [(32, 32)],
    [⟨31, 0, .rw, 0⟩]⟩
def F.PWM_LEG_CMPB.CMP_B : Fld := ⟨0x300D0408, 32, 0, 0, 31, 0⟩
/-- PWM_LEG_DT, spec/08_pwm_gate.md. -/
def Reg.PWM_LEG_DT : RegGroup := ⟨0x300D040C, [(32, 32)],
    [⟨31, 16, .rw, 0⟩, ⟨15, 0, .rw, 0⟩]⟩
def F.PWM_LEG_DT.DT_TB : Fld := ⟨0x300D040C, 32, 0, 0, 31, 16⟩
def F.PWM_LEG_DT.DT_BT : Fld := ⟨0x300D040C, 32, 0, 0, 15, 0⟩
/-- PWM_LEG_FLOOR, spec/08_pwm_gate.md. -/
def Reg.PWM_LEG_FLOOR : RegGroup := ⟨0x300D0410, [(32, 32)],
    [⟨31, 16, .wl, 0⟩, ⟨15, 0, .wl, 0⟩]⟩
def F.PWM_LEG_FLOOR.FLOOR_TB : Fld := ⟨0x300D0410, 32, 0, 0, 31, 16⟩
def F.PWM_LEG_FLOOR.FLOOR_BT : Fld := ⟨0x300D0410, 32, 0, 0, 15, 0⟩
/-- PWM_LEG_BOOT, spec/08_pwm_gate.md. -/
def Reg.PWM_LEG_BOOT : RegGroup := ⟨0x300D0414, [(32, 32)],
    [⟨31, 26, .rw, 0⟩, ⟨25, 16, .rw, 0⟩, ⟨9, 0, .rw, 0⟩]⟩
def F.PWM_LEG_BOOT.BOOT_REFRESH_N : Fld := ⟨0x300D0414, 32, 0, 0, 31, 26⟩
def F.PWM_LEG_BOOT.BOOT_REFRESH_T : Fld := ⟨0x300D0414, 32, 0, 0, 25, 16⟩
def F.PWM_LEG_BOOT.PULSE_MIN : Fld := ⟨0x300D0414, 32, 0, 0, 9, 0⟩
/-- PWM_LEG_STAT, spec/08_pwm_gate.md. -/
def Reg.PWM_LEG_STAT : RegGroup := ⟨0x300D0418, [(32, 32)],
    [⟨31, 31, .ro, 0⟩, ⟨30, 30, .w1c, 0⟩, ⟨29, 29, .ro, 0⟩, ⟨28, 28, .ro, 0⟩, ⟨27, 27, .w1c, 0⟩, ⟨23, 16, .rc, 0⟩,
     ⟨15, 8, .rc, 0⟩, ⟨7, 0, .rc, 0⟩]⟩
def F.PWM_LEG_STAT.SAT : Fld := ⟨0x300D0418, 32, 0, 0, 31, 31⟩
def F.PWM_LEG_STAT.CMP_CLAMP : Fld := ⟨0x300D0418, 32, 0, 0, 30, 30⟩
def F.PWM_LEG_STAT.DT_CLAMPED : Fld := ⟨0x300D0418, 32, 0, 0, 29, 29⟩
def F.PWM_LEG_STAT.BOOT_HOLD : Fld := ⟨0x300D0418, 32, 0, 0, 28, 28⟩
def F.PWM_LEG_STAT.WR_IGN : Fld := ⟨0x300D0418, 32, 0, 0, 27, 27⟩
def F.PWM_LEG_STAT.REFUSE_CNT : Fld := ⟨0x300D0418, 32, 0, 0, 23, 16⟩
def F.PWM_LEG_STAT.STRETCH_CNT : Fld := ⟨0x300D0418, 32, 0, 0, 15, 8⟩
def F.PWM_LEG_STAT.DROP_CNT : Fld := ⟨0x300D0418, 32, 0, 0, 7, 0⟩
/-- The registers of block PWM, R34. -/
def Reg.blockPWM : List RegGroup := [
  Reg.PWM_CG_CTL,
  Reg.PWM_CG_PER,
  Reg.PWM_CG_PHASE,
  Reg.PWM_LEG_CFG,
  Reg.PWM_LEG_CMP,
  Reg.PWM_LEG_CMPB,
  Reg.PWM_LEG_DT,
  Reg.PWM_LEG_FLOOR,
  Reg.PWM_LEG_BOOT,
  Reg.PWM_LEG_STAT]

/-- GIF_SW_CFG, spec/08_pwm_gate.md. -/
def Reg.GIF_SW_CFG : RegGroup := ⟨0x300E0000, [(64, 4)],
    [⟨31, 31, .rw, 0⟩, ⟨30, 30, .rw, 0⟩, ⟨29, 29, .ro, 0⟩, ⟨28, 26, .rw, 2⟩, ⟨25, 22, .rw, 3⟩, ⟨15, 8, .rw, 0⟩, ⟨7, 0, .ro, 0⟩]⟩
def F.GIF_SW_CFG.FB_EN : Fld := ⟨0x300E0000, 4, 0, 0, 31, 31⟩
def F.GIF_SW_CFG.FB_POL : Fld := ⟨0x300E0000, 4, 0, 0, 30, 30⟩
def F.GIF_SW_CFG.GFB : Fld := ⟨0x300E0000, 4, 0, 0, 29, 29⟩
def F.GIF_SW_CFG.GFB_FILT : Fld := ⟨0x300E0000, 4, 0, 0, 28, 26⟩
def F.GIF_SW_CFG.REFUSE_N : Fld := ⟨0x300E0000, 4, 0, 0, 25, 22⟩
def F.GIF_SW_CFG.FB_WIN : Fld := ⟨0x300E0000, 4, 0, 0, 15, 8⟩
def F.GIF_SW_CFG.LAST_FB : Fld := ⟨0x300E0000, 4, 0, 0, 7, 0⟩
/-- GIF_GFLT_CFG, spec/08_pwm_gate.md. -/
def Reg.GIF_GFLT_CFG : RegGroup := ⟨0x300E0100, [(16, 4)],
    [⟨31, 31, .rw, 0⟩, ⟨30, 30, .rw, 0⟩, ⟨29, 29, .ro, 0⟩, ⟨28, 28, .w1c, 0⟩, ⟨27, 24, .rw, 2⟩, ⟨23, 23, .rw, 0⟩,
     ⟨22, 18, .rw, 0⟩, ⟨17, 14, .rw, 0⟩]⟩
def F.GIF_GFLT_CFG.EN : Fld := ⟨0x300E0100, 4, 0, 0, 31, 31⟩
def F.GIF_GFLT_CFG.POL : Fld := ⟨0x300E0100, 4, 0, 0, 30, 30⟩
def F.GIF_GFLT_CFG.ACTIVE : Fld := ⟨0x300E0100, 4, 0, 0, 29, 29⟩
def F.GIF_GFLT_CFG.SEEN : Fld := ⟨0x300E0100, 4, 0, 0, 28, 28⟩
def F.GIF_GFLT_CFG.FILT : Fld := ⟨0x300E0100, 4, 0, 0, 27, 24⟩
def F.GIF_GFLT_CFG.TGT_KIND : Fld := ⟨0x300E0100, 4, 0, 0, 23, 23⟩
def F.GIF_GFLT_CFG.LEG : Fld := ⟨0x300E0100, 4, 0, 0, 22, 18⟩
def F.GIF_GFLT_CFG.PSET : Fld := ⟨0x300E0100, 4, 0, 0, 17, 14⟩
/-- GIF_COMP_CFG, spec/08_pwm_gate.md. -/
def Reg.GIF_COMP_CFG : RegGroup := ⟨0x300E0200, [(48, 8)],
    [⟨31, 31, .rw, 0⟩, ⟨30, 30, .rw, 0⟩, ⟨29, 28, .rw, 0⟩, ⟨27, 26, .rw, 0⟩, ⟨25, 22, .rw, 0⟩, ⟨21, 20, .rw, 0⟩,
     ⟨19, 19, .w1c, 0⟩, ⟨18, 18, .w1c, 0⟩, ⟨17, 17, .w1c, 0⟩, ⟨6, 0, .rw, 0⟩]⟩
def F.GIF_COMP_CFG.EN : Fld := ⟨0x300E0200, 8, 0, 0, 31, 31⟩
def F.GIF_COMP_CFG.HARD_EN : Fld := ⟨0x300E0200, 8, 0, 0, 30, 30⟩
def F.GIF_COMP_CFG.ACTION : Fld := ⟨0x300E0200, 8, 0, 0, 29, 28⟩
def F.GIF_COMP_CFG.ROLE : Fld := ⟨0x300E0200, 8, 0, 0, 27, 26⟩
def F.GIF_COMP_CFG.PSET : Fld := ⟨0x300E0200, 8, 0, 0, 25, 22⟩
def F.GIF_COMP_CFG.HYST : Fld := ⟨0x300E0200, 8, 0, 0, 21, 20⟩
def F.GIF_COMP_CFG.TRIP_HI : Fld := ⟨0x300E0200, 8, 0, 0, 19, 19⟩
def F.GIF_COMP_CFG.TRIP_LO : Fld := ⟨0x300E0200, 8, 0, 0, 18, 18⟩
def F.GIF_COMP_CFG.HARD : Fld := ⟨0x300E0200, 8, 0, 0, 17, 17⟩
def F.GIF_COMP_CFG.BLANK : Fld := ⟨0x300E0200, 8, 0, 0, 6, 0⟩
/-- GIF_COMP_THR, spec/08_pwm_gate.md. -/
def Reg.GIF_COMP_THR : RegGroup := ⟨0x300E0204, [(48, 8)],
    [⟨25, 16, .rw, 0⟩, ⟨9, 0, .rw, 0⟩]⟩
def F.GIF_COMP_THR.THR_HI : Fld := ⟨0x300E0204, 8, 0, 0, 25, 16⟩
def F.GIF_COMP_THR.THR_LO : Fld := ⟨0x300E0204, 8, 0, 0, 9, 0⟩
/-- GIF_PSET_CFG, spec/08_pwm_gate.md. -/
def Reg.GIF_PSET_CFG : RegGroup := ⟨0x300E0400, [(16, 16)],
    [⟨31, 31, .rw, 0⟩, ⟨30, 30, .rw, 0⟩, ⟨29, 28, .rw, 0⟩, ⟨27, 25, .rw, 0⟩, ⟨22, 16, .rw, 20⟩]⟩
def F.GIF_PSET_CFG.ASC_EN : Fld := ⟨0x300E0400, 16, 0, 0, 31, 31⟩
def F.GIF_PSET_CFG.ASC_ROW : Fld := ⟨0x300E0400, 16, 0, 0, 30, 30⟩
def F.GIF_PSET_CFG.SPD_SRC : Fld := ⟨0x300E0400, 16, 0, 0, 29, 28⟩
def F.GIF_PSET_CFG.FM_CLASS : Fld := ⟨0x300E0400, 16, 0, 0, 27, 25⟩
def F.GIF_PSET_CFG.FM_WAIT : Fld := ⟨0x300E0400, 16, 0, 0, 22, 16⟩
/-- GIF_PSET_UCG, spec/08_pwm_gate.md. -/
def Reg.GIF_PSET_UCG : RegGroup := ⟨0x300E0404, [(16, 16)],
    [⟨31, 0, .rw, 0⟩]⟩
def F.GIF_PSET_UCG.UCG_SPEED : Fld := ⟨0x300E0404, 16, 0, 0, 31, 0⟩
/-- GIF_PSET_STAT, spec/08_pwm_gate.md. -/
def Reg.GIF_PSET_STAT : RegGroup := ⟨0x300E0408, [(16, 16)],
    [⟨31, 29, .ro, 0⟩, ⟨28, 28, .ro, 0⟩, ⟨27, 27, .ro, 0⟩, ⟨26, 21, .ro, 63⟩, ⟨20, 20, .ro, 0⟩, ⟨15, 0, .ro, 0⟩]⟩
def F.GIF_PSET_STAT.STATE : Fld := ⟨0x300E0408, 16, 0, 0, 31, 29⟩
def F.GIF_PSET_STAT.ABOVE_UCG : Fld := ⟨0x300E0408, 16, 0, 0, 28, 28⟩
def F.GIF_PSET_STAT.UCG_STALE : Fld := ⟨0x300E0408, 16, 0, 0, 27, 27⟩
def F.GIF_PSET_STAT.FAULT_LEG : Fld := ⟨0x300E0408, 16, 0, 0, 26, 21⟩
def F.GIF_PSET_STAT.FAULT_ROW : Fld := ⟨0x300E0408, 16, 0, 0, 20, 20⟩
def F.GIF_PSET_STAT.LAST_CODE : Fld := ⟨0x300E0408, 16, 0, 0, 15, 0⟩
/-- GIF_PSET_CTL, spec/08_pwm_gate.md. -/
def Reg.GIF_PSET_CTL : RegGroup := ⟨0x300E040C, [(16, 16)],
    [⟨1, 0, .wo, 0⟩]⟩
def F.GIF_PSET_CTL.CMD : Fld := ⟨0x300E040C, 16, 0, 0, 1, 0⟩
/-- GIF_PSET_LOSS, spec/10_machine_control.md. -/
def Reg.GIF_PSET_LOSS : RegGroup := ⟨0x300E0600, [(16, 4)],
    [⟨31, 31, .rw, 0⟩, ⟨30, 30, .rw, 0⟩, ⟨29, 27, .ro, 0⟩, ⟨26, 26, .w1c, 0⟩, ⟨25, 16, .rw, 50⟩, ⟨15, 0, .ro, 0⟩]⟩
def F.GIF_PSET_LOSS.LOSS_EN : Fld := ⟨0x300E0600, 4, 0, 0, 31, 31⟩
def F.GIF_PSET_LOSS.SENSORLESS_OK : Fld := ⟨0x300E0600, 4, 0, 0, 30, 30⟩
def F.GIF_PSET_LOSS.LSTATE : Fld := ⟨0x300E0600, 4, 0, 0, 29, 27⟩
def F.GIF_PSET_LOSS.REACT_SEEN : Fld := ⟨0x300E0600, 4, 0, 0, 26, 26⟩
def F.GIF_PSET_LOSS.REACQ_TMO : Fld := ⟨0x300E0600, 4, 0, 0, 25, 16⟩
def F.GIF_PSET_LOSS.REACQ_LEFT : Fld := ⟨0x300E0600, 4, 0, 0, 15, 0⟩
/-- The registers of block GIF, R34. -/
def Reg.blockGIF : List RegGroup := [
  Reg.GIF_SW_CFG,
  Reg.GIF_GFLT_CFG,
  Reg.GIF_COMP_CFG,
  Reg.GIF_COMP_THR,
  Reg.GIF_PSET_CFG,
  Reg.GIF_PSET_UCG,
  Reg.GIF_PSET_STAT,
  Reg.GIF_PSET_CTL,
  Reg.GIF_PSET_LOSS]

/-- ACT_STAT, spec/11_actuators.md. -/
def Reg.ACT_STAT : RegGroup := ⟨0x300F0000, [],
    [⟨31, 31, .ro, 0⟩, ⟨30, 30, .ro, 0⟩, ⟨29, 29, .ro, 0⟩, ⟨28, 28, .ro, 0⟩, ⟨23, 12, .ro, 0⟩, ⟨11, 0, .ro, 4095⟩]⟩
def F.ACT_STAT.ACT_EN_LVL : Fld := ⟨0x300F0000, 0, 0, 0, 31, 31⟩
def F.ACT_STAT.VDRV_WARN : Fld := ⟨0x300F0000, 0, 0, 0, 30, 30⟩
def F.ACT_STAT.OT_WARN : Fld := ⟨0x300F0000, 0, 0, 0, 29, 29⟩
def F.ACT_STAT.VGD_LOW : Fld := ⟨0x300F0000, 0, 0, 0, 28, 28⟩
def F.ACT_STAT.LATCHED : Fld := ⟨0x300F0000, 0, 0, 0, 23, 12⟩
def F.ACT_STAT.HIZ : Fld := ⟨0x300F0000, 0, 0, 0, 11, 0⟩
/-- ACT_BR_CFG, spec/11_actuators.md. -/
def Reg.ACT_BR_CFG : RegGroup := ⟨0x300F0100, [(12, 16)],
    [⟨31, 30, .rw, 0⟩, ⟨29, 28, .rw, 3⟩, ⟨27, 25, .rw, 0⟩, ⟨19, 16, .rw, 0⟩, ⟨15, 12, .rw, 0⟩, ⟨3, 0, .rw, 4⟩]⟩
def F.ACT_BR_CFG.MODE : Fld := ⟨0x300F0100, 16, 0, 0, 31, 30⟩
def F.ACT_BR_CFG.STRENGTH : Fld := ⟨0x300F0100, 16, 0, 0, 29, 28⟩
def F.ACT_BR_CFG.FAULT_CLASS : Fld := ⟨0x300F0100, 16, 0, 0, 27, 25⟩
def F.ACT_BR_CFG.VDS_THR : Fld := ⟨0x300F0100, 16, 0, 0, 19, 16⟩
def F.ACT_BR_CFG.VDS_BLANK : Fld := ⟨0x300F0100, 16, 0, 0, 15, 12⟩
def F.ACT_BR_CFG.BOOT_UV : Fld := ⟨0x300F0100, 16, 0, 0, 3, 0⟩
/-- ACT_BR_STAT, spec/11_actuators.md. -/
def Reg.ACT_BR_STAT : RegGroup := ⟨0x300F0104, [(12, 16)],
    [⟨31, 31, .ro, 0⟩, ⟨30, 30, .ro, 0⟩, ⟨29, 29, .ro, 0⟩, ⟨28, 28, .ro, 0⟩, ⟨27, 27, .ro, 0⟩, ⟨26, 26, .ro, 0⟩,
     ⟨25, 25, .ro, 1⟩, ⟨24, 24, .ro, 0⟩, ⟨23, 16, .rc, 0⟩, ⟨1, 1, .ro, 0⟩, ⟨0, 0, .ro, 0⟩]⟩
def F.ACT_BR_STAT.ACT_BOOT : Fld := ⟨0x300F0104, 16, 0, 0, 31, 31⟩
def F.ACT_BR_STAT.ACT_OC_H : Fld := ⟨0x300F0104, 16, 0, 0, 30, 30⟩
def F.ACT_BR_STAT.ACT_OC_L : Fld := ⟨0x300F0104, 16, 0, 0, 29, 29⟩
def F.ACT_BR_STAT.ACT_GATE : Fld := ⟨0x300F0104, 16, 0, 0, 28, 28⟩
def F.ACT_BR_STAT.ACT_SUPPLY : Fld := ⟨0x300F0104, 16, 0, 0, 27, 27⟩
def F.ACT_BR_STAT.ACT_OT : Fld := ⟨0x300F0104, 16, 0, 0, 26, 26⟩
def F.ACT_BR_STAT.REFRESH_HOLD : Fld := ⟨0x300F0104, 16, 0, 0, 25, 25⟩
def F.ACT_BR_STAT.SAT : Fld := ⟨0x300F0104, 16, 0, 0, 24, 24⟩
def F.ACT_BR_STAT.BOOT_UV_CNT : Fld := ⟨0x300F0104, 16, 0, 0, 23, 16⟩
def F.ACT_BR_STAT.GATE_H : Fld := ⟨0x300F0104, 16, 0, 0, 1, 1⟩
def F.ACT_BR_STAT.GATE_L : Fld := ⟨0x300F0104, 16, 0, 0, 0, 0⟩
/-- ACT_SHUNT_CFG, spec/11_actuators.md. -/
def Reg.ACT_SHUNT_CFG : RegGroup := ⟨0x300F0400, [(4, 4)],
    [⟨31, 31, .rw, 0⟩, ⟨1, 0, .rw, 1⟩]⟩
def F.ACT_SHUNT_CFG.EN : Fld := ⟨0x300F0400, 4, 0, 0, 31, 31⟩
def F.ACT_SHUNT_CFG.GAIN : Fld := ⟨0x300F0400, 4, 0, 0, 1, 0⟩
/-- The registers of block ACT, R34. -/
def Reg.blockACT : List RegGroup := [
  Reg.ACT_STAT,
  Reg.ACT_BR_CFG,
  Reg.ACT_BR_STAT,
  Reg.ACT_SHUNT_CFG]

/-- CNV_CH_CFG, spec/12_converters.md. -/
def Reg.CNV_CH_CFG : RegGroup := ⟨0x30100000, [(4, 256)],
    [⟨31, 31, .rw, 0⟩, ⟨30, 30, .ro, 0⟩, ⟨29, 28, .rw, 0⟩, ⟨27, 27, .rw, 0⟩, ⟨26, 26, .rw, 0⟩, ⟨25, 25, .rw, 0⟩,
     ⟨24, 24, .w1c, 0⟩, ⟨23, 21, .rw, 0⟩, ⟨20, 18, .rw, 0⟩, ⟨17, 13, .rw, 0⟩, ⟨12, 10, .rw, 0⟩, ⟨7, 0, .rw, 0⟩]⟩
def F.CNV_CH_CFG.EN : Fld := ⟨0x30100000, 256, 0, 0, 31, 31⟩
def F.CNV_CH_CFG.DRAINING : Fld := ⟨0x30100000, 256, 0, 0, 30, 30⟩
def F.CNV_CH_CFG.KIND : Fld := ⟨0x30100000, 256, 0, 0, 29, 28⟩
def F.CNV_CH_CFG.DIR : Fld := ⟨0x30100000, 256, 0, 0, 27, 27⟩
def F.CNV_CH_CFG.PREBIAS : Fld := ⟨0x30100000, 256, 0, 0, 26, 26⟩
def F.CNV_CH_CFG.MON_EN : Fld := ⟨0x30100000, 256, 0, 0, 25, 25⟩
def F.CNV_CH_CFG.EN_IGN : Fld := ⟨0x30100000, 256, 0, 0, 24, 24⟩
def F.CNV_CH_CFG.FAULT_CLASS : Fld := ⟨0x30100000, 256, 0, 0, 23, 21⟩
def F.CNV_CH_CFG.LATCH_CLASS : Fld := ⟨0x30100000, 256, 0, 0, 20, 18⟩
def F.CNV_CH_CFG.FIRST_LEG : Fld := ⟨0x30100000, 256, 0, 0, 17, 13⟩
def F.CNV_CH_CFG.N_LEG_M1 : Fld := ⟨0x30100000, 256, 0, 0, 12, 10⟩
def F.CNV_CH_CFG.PLACE : Fld := ⟨0x30100000, 256, 0, 0, 7, 0⟩
/-- CNV_CH_SRC, spec/12_converters.md. -/
def Reg.CNV_CH_SRC : RegGroup := ⟨0x30100004, [(4, 256)],
    [⟨31, 29, .rw, 0⟩, ⟨28, 23, .rw, 0⟩, ⟨22, 20, .rw, 0⟩, ⟨19, 14, .rw, 0⟩, ⟨13, 8, .rw, 0⟩, ⟨7, 2, .rw, 0⟩, ⟨1, 1, .rw, 0⟩]⟩
def F.CNV_CH_SRC.SRC_WHORL : Fld := ⟨0x30100004, 256, 0, 0, 31, 29⟩
def F.CNV_CH_SRC.CMD_PORT : Fld := ⟨0x30100004, 256, 0, 0, 28, 23⟩
def F.CNV_CH_SRC.V2L_WHORL : Fld := ⟨0x30100004, 256, 0, 0, 22, 20⟩
def F.CNV_CH_SRC.V2L_CMD_PORT : Fld := ⟨0x30100004, 256, 0, 0, 19, 14⟩
def F.CNV_CH_SRC.MEAS_PORT : Fld := ⟨0x30100004, 256, 0, 0, 13, 8⟩
def F.CNV_CH_SRC.PH_PORT : Fld := ⟨0x30100004, 256, 0, 0, 7, 2⟩
def F.CNV_CH_SRC.V2L_EN : Fld := ⟨0x30100004, 256, 0, 0, 1, 1⟩
/-- CNV_CH_STAT, spec/12_converters.md. -/
def Reg.CNV_CH_STAT : RegGroup := ⟨0x30100008, [(4, 256)],
    [⟨31, 29, .ro, 0⟩, ⟨28, 28, .ro, 0⟩, ⟨27, 27, .ro, 0⟩, ⟨26, 26, .ro, 0⟩, ⟨25, 25, .ro, 0⟩, ⟨24, 24, .w1c, 0⟩,
     ⟨23, 16, .ro, 0⟩, ⟨15, 12, .ro, 0⟩, ⟨11, 8, .ro, 0⟩, ⟨7, 0, .ro, 0⟩]⟩
def F.CNV_CH_STAT.STATE : Fld := ⟨0x30100008, 256, 0, 0, 31, 29⟩
def F.CNV_CH_STAT.SHEDDING : Fld := ⟨0x30100008, 256, 0, 0, 28, 28⟩
def F.CNV_CH_STAT.SHED_LOCK : Fld := ⟨0x30100008, 256, 0, 0, 27, 27⟩
def F.CNV_CH_STAT.NL_UNDER : Fld := ⟨0x30100008, 256, 0, 0, 26, 26⟩
def F.CNV_CH_STAT.NL_OVER : Fld := ⟨0x30100008, 256, 0, 0, 25, 25⟩
def F.CNV_CH_STAT.TEL_SAT : Fld := ⟨0x30100008, 256, 0, 0, 24, 24⟩
def F.CNV_CH_STAT.ACTIVE : Fld := ⟨0x30100008, 256, 0, 0, 23, 16⟩
def F.CNV_CH_STAT.RETRIES : Fld := ⟨0x30100008, 256, 0, 0, 15, 12⟩
def F.CNV_CH_STAT.STOP_CAUSE : Fld := ⟨0x30100008, 256, 0, 0, 11, 8⟩
def F.CNV_CH_STAT.LIMITED : Fld := ⟨0x30100008, 256, 0, 0, 7, 0⟩
/-- CNV_CH_CTL, spec/12_converters.md. -/
def Reg.CNV_CH_CTL : RegGroup := ⟨0x3010000C, [(4, 256)],
    [⟨1, 0, .wo, 0⟩]⟩
def F.CNV_CH_CTL.CMD : Fld := ⟨0x3010000C, 256, 0, 0, 1, 0⟩
/-- CNV_CH_RAMP, spec/12_converters.md. -/
def Reg.CNV_CH_RAMP : RegGroup := ⟨0x30100010, [(4, 256)],
    [⟨31, 16, .rw, 0⟩, ⟨15, 0, .rw, 0⟩]⟩
def F.CNV_CH_RAMP.SS_T : Fld := ⟨0x30100010, 256, 0, 0, 31, 16⟩
def F.CNV_CH_RAMP.SSTOP_MAX : Fld := ⟨0x30100010, 256, 0, 0, 15, 0⟩
/-- CNV_CH_HIC, spec/12_converters.md. -/
def Reg.CNV_CH_HIC : RegGroup := ⟨0x30100014, [(4, 256)],
    [⟨31, 24, .rw, 0⟩, ⟨23, 20, .rw, 0⟩, ⟨19, 10, .rw, 0⟩]⟩
def F.CNV_CH_HIC.HICCUP_N : Fld := ⟨0x30100014, 256, 0, 0, 31, 24⟩
def F.CNV_CH_HIC.HICCUP_MAX : Fld := ⟨0x30100014, 256, 0, 0, 23, 20⟩
def F.CNV_CH_HIC.HICCUP_OFF : Fld := ⟨0x30100014, 256, 0, 0, 19, 10⟩
/-- CNV_CH_SHED, spec/12_converters.md. -/
def Reg.CNV_CH_SHED : RegGroup := ⟨0x30100018, [(4, 256)],
    [⟨31, 24, .rw, 0⟩, ⟨23, 16, .rw, 0⟩, ⟨15, 8, .rw, 0⟩, ⟨7, 0, .rw, 0⟩]⟩
def F.CNV_CH_SHED.SHED_THR1 : Fld := ⟨0x30100018, 256, 0, 0, 31, 24⟩
def F.CNV_CH_SHED.ADD_THR1 : Fld := ⟨0x30100018, 256, 0, 0, 23, 16⟩
def F.CNV_CH_SHED.SHED_THR2 : Fld := ⟨0x30100018, 256, 0, 0, 15, 8⟩
def F.CNV_CH_SHED.ADD_THR2 : Fld := ⟨0x30100018, 256, 0, 0, 7, 0⟩
/-- CNV_CH_SHDT, spec/12_converters.md. -/
def Reg.CNV_CH_SHDT : RegGroup := ⟨0x3010001C, [(4, 256)],
    [⟨31, 31, .rw, 0⟩, ⟨30, 25, .rw, 7⟩, ⟨24, 15, .rw, 0⟩, ⟨14, 5, .rw, 50⟩]⟩
def F.CNV_CH_SHDT.SHED_EN : Fld := ⟨0x3010001C, 256, 0, 0, 31, 31⟩
def F.CNV_CH_SHDT.SHED_RAMP : Fld := ⟨0x3010001C, 256, 0, 0, 30, 25⟩
def F.CNV_CH_SHDT.SHED_DWELL : Fld := ⟨0x3010001C, 256, 0, 0, 24, 15⟩
def F.CNV_CH_SHDT.SHED_HOLDOFF : Fld := ⟨0x3010001C, 256, 0, 0, 14, 5⟩
/-- CNV_CH_TRIM, spec/12_converters.md. -/
def Reg.CNV_CH_TRIM : RegGroup := ⟨0x30100020, [(4, 256)],
    [⟨31, 31, .rw, 0⟩, ⟨30, 24, .rw, 0⟩, ⟨15, 0, .rw, 0⟩]⟩
def F.CNV_CH_TRIM.TRIM_EN : Fld := ⟨0x30100020, 256, 0, 0, 31, 31⟩
def F.CNV_CH_TRIM.TRIM_MAX : Fld := ⟨0x30100020, 256, 0, 0, 30, 24⟩
def F.CNV_CH_TRIM.KB : Fld := ⟨0x30100020, 256, 0, 0, 15, 0⟩
/-- CNV_CH_NL, spec/12_converters.md. -/
def Reg.CNV_CH_NL : RegGroup := ⟨0x30100024, [(4, 256)],
    [⟨31, 31, .rw, 0⟩, ⟨30, 30, .rw, 0⟩, ⟨29, 24, .rw, 0⟩, ⟨23, 16, .rw, 80⟩]⟩
def F.CNV_CH_NL.UNDER_EN : Fld := ⟨0x30100024, 256, 0, 0, 31, 31⟩
def F.CNV_CH_NL.OVER_EN : Fld := ⟨0x30100024, 256, 0, 0, 30, 30⟩
def F.CNV_CH_NL.NL_CH : Fld := ⟨0x30100024, 256, 0, 0, 29, 24⟩
def F.CNV_CH_NL.NL_MAX_T : Fld := ⟨0x30100024, 256, 0, 0, 23, 16⟩
/-- CNV_CH_FAST, spec/12_converters.md. -/
def Reg.CNV_CH_FAST : RegGroup := ⟨0x30100028, [(4, 256)],
    [⟨31, 31, .rw, 0⟩, ⟨30, 30, .rw, 0⟩, ⟨29, 24, .rw, 0⟩]⟩
def F.CNV_CH_FAST.FAST_EN : Fld := ⟨0x30100028, 256, 0, 0, 31, 31⟩
def F.CNV_CH_FAST.FAST_DIR : Fld := ⟨0x30100028, 256, 0, 0, 30, 30⟩
def F.CNV_CH_FAST.FAST_CH : Fld := ⟨0x30100028, 256, 0, 0, 29, 24⟩
/-- CNV_TEL_MEAN, spec/12_converters.md. -/
def Reg.CNV_TEL_MEAN : RegGroup := ⟨0x30100800, [(4, 128), (4, 16), (3, 4)],
    [⟨31, 0, .ro, 0⟩]⟩
def F.CNV_TEL_MEAN.MEAN : Fld := ⟨0x30100800, 128, 16, 4, 31, 0⟩
/-- CNV_TEL_PK, spec/12_converters.md. -/
def Reg.CNV_TEL_PK : RegGroup := ⟨0x3010080C, [(4, 128), (4, 16)],
    [⟨31, 16, .ro, 0x00008000⟩, ⟨15, 0, .ro, 0x00007FFF⟩]⟩
def F.CNV_TEL_PK.MAX : Fld := ⟨0x3010080C, 128, 16, 0, 31, 16⟩
def F.CNV_TEL_PK.MIN : Fld := ⟨0x3010080C, 128, 16, 0, 15, 0⟩
/-- CNV_TEL_CLR, spec/12_converters.md. -/
def Reg.CNV_TEL_CLR : RegGroup := ⟨0x30100C00, [],
    [⟨2, 0, .wo, 0⟩]⟩
def F.CNV_TEL_CLR.TEL_CLR : Fld := ⟨0x30100C00, 0, 0, 0, 2, 0⟩
/-- The registers of block CNV, R34. -/
def Reg.blockCNV : List RegGroup := [
  Reg.CNV_CH_CFG,
  Reg.CNV_CH_SRC,
  Reg.CNV_CH_STAT,
  Reg.CNV_CH_CTL,
  Reg.CNV_CH_RAMP,
  Reg.CNV_CH_HIC,
  Reg.CNV_CH_SHED,
  Reg.CNV_CH_SHDT,
  Reg.CNV_CH_TRIM,
  Reg.CNV_CH_NL,
  Reg.CNV_CH_FAST,
  Reg.CNV_TEL_MEAN,
  Reg.CNV_TEL_PK,
  Reg.CNV_TEL_CLR]

/-- CHG_PILOT, spec/13_charging_powerpath.md. -/
def Reg.CHG_PILOT : RegGroup := ⟨0x30110000, [],
    [⟨31, 29, .ro, 7⟩, ⟨28, 28, .ro, 0⟩, ⟨27, 27, .w1c, 0⟩, ⟨26, 26, .ro, 0⟩, ⟨25, 16, .ro, 0⟩, ⟨15, 15, .ro, 0⟩,
     ⟨14, 10, .rw, 3⟩, ⟨9, 0, .ro, 0⟩]⟩
def F.CHG_PILOT.STATE : Fld := ⟨0x30110000, 0, 0, 0, 31, 29⟩
def F.CHG_PILOT.PWM : Fld := ⟨0x30110000, 0, 0, 0, 28, 28⟩
def F.CHG_PILOT.FLAP : Fld := ⟨0x30110000, 0, 0, 0, 27, 27⟩
def F.CHG_PILOT.DIGITAL : Fld := ⟨0x30110000, 0, 0, 0, 26, 26⟩
def F.CHG_PILOT.DUTY : Fld := ⟨0x30110000, 0, 0, 0, 25, 16⟩
def F.CHG_PILOT.FREQ_BAD : Fld := ⟨0x30110000, 0, 0, 0, 15, 15⟩
def F.CHG_PILOT.PILOT_N : Fld := ⟨0x30110000, 0, 0, 0, 14, 10⟩
def F.CHG_PILOT.I_PILOT : Fld := ⟨0x30110000, 0, 0, 0, 9, 0⟩
/-- CHG_PILOT_LVL, spec/13_charging_powerpath.md. -/
def Reg.CHG_PILOT_LVL : RegGroup := ⟨0x30110004, [],
    [⟨31, 16, .ro, 0⟩, ⟨15, 0, .ro, 0⟩]⟩
def F.CHG_PILOT_LVL.HIGH : Fld := ⟨0x30110004, 0, 0, 0, 31, 16⟩
def F.CHG_PILOT_LVL.LOW : Fld := ⟨0x30110004, 0, 0, 0, 15, 0⟩
/-- CHG_PP, spec/13_charging_powerpath.md. -/
def Reg.CHG_PP : RegGroup := ⟨0x30110008, [],
    [⟨31, 29, .ro, 0⟩, ⟨15, 0, .ro, 0x0000FFFF⟩]⟩
def F.CHG_PP.CLASS : Fld := ⟨0x30110008, 0, 0, 0, 31, 29⟩
def F.CHG_PP.RC : Fld := ⟨0x30110008, 0, 0, 0, 15, 0⟩
/-- CHG_PP_CFG, spec/13_charging_powerpath.md. -/
def Reg.CHG_PP_CFG : RegGroup := ⟨0x3011000C, [],
    [⟨31, 16, .rw, 0⟩, ⟨15, 0, .rw, 0⟩]⟩
def F.CHG_PP_CFG.RPU : Fld := ⟨0x3011000C, 0, 0, 0, 31, 16⟩
def F.CHG_PP_CFG.V2L_RC : Fld := ⟨0x3011000C, 0, 0, 0, 15, 0⟩
/-- CHG_SESS, spec/13_charging_powerpath.md. -/
def Reg.CHG_SESS : RegGroup := ⟨0x30110010, [],
    [⟨31, 29, .ro, 0⟩, ⟨28, 28, .w1c, 0⟩, ⟨27, 24, .ro, 0⟩, ⟨19, 0, .ro, 0⟩]⟩
def F.CHG_SESS.STATE : Fld := ⟨0x30110010, 0, 0, 0, 31, 29⟩
def F.CHG_SESS.HV_LOST : Fld := ⟨0x30110010, 0, 0, 0, 28, 28⟩
def F.CHG_SESS.END_REASON : Fld := ⟨0x30110010, 0, 0, 0, 27, 24⟩
def F.CHG_SESS.P_LIM : Fld := ⟨0x30110010, 0, 0, 0, 19, 0⟩
/-- CHG_B12, spec/13_charging_powerpath.md. -/
def Reg.CHG_B12 : RegGroup := ⟨0x30110020, [],
    [⟨31, 29, .ro, 0⟩, ⟨28, 26, .ro, 0⟩, ⟨25, 25, .ro, 0⟩, ⟨23, 20, .ro, 0⟩, ⟨16, 0, .ro, 0⟩]⟩
def F.CHG_B12.PHASE : Fld := ⟨0x30110020, 0, 0, 0, 31, 29⟩
def F.CHG_B12.ZONE : Fld := ⟨0x30110020, 0, 0, 0, 28, 26⟩
def F.CHG_B12.HALF_RATE : Fld := ⟨0x30110020, 0, 0, 0, 25, 25⟩
def F.CHG_B12.END_REASON : Fld := ⟨0x30110020, 0, 0, 0, 23, 20⟩
def F.CHG_B12.TIMER : Fld := ⟨0x30110020, 0, 0, 0, 16, 0⟩
/-- CHG_B12_CFG, spec/13_charging_powerpath.md. -/
def Reg.CHG_B12_CFG : RegGroup := ⟨0x30110024, [],
    [⟨31, 22, .rw, 720⟩, ⟨21, 11, .rw, 1240⟩, ⟨10, 0, .rw, 0⟩]⟩
def F.CHG_B12_CFG.SAFETY_T : Fld := ⟨0x30110024, 0, 0, 0, 31, 22⟩
def F.CHG_B12_CFG.V_RECH : Fld := ⟨0x30110024, 0, 0, 0, 21, 11⟩
def F.CHG_B12_CFG.I_BULK : Fld := ⟨0x30110024, 0, 0, 0, 10, 0⟩
/-- CHG_PRE, spec/13_charging_powerpath.md. -/
def Reg.CHG_PRE : RegGroup := ⟨0x30110030, [],
    [⟨31, 29, .ro, 0⟩, ⟨28, 26, .ro, 0⟩, ⟨15, 0, .ro, 0⟩]⟩
def F.CHG_PRE.PSTATE : Fld := ⟨0x30110030, 0, 0, 0, 31, 29⟩
def F.CHG_PRE.FAIL : Fld := ⟨0x30110030, 0, 0, 0, 28, 26⟩
def F.CHG_PRE.TARGET : Fld := ⟨0x30110030, 0, 0, 0, 15, 0⟩
/-- CHG_PRE_CFG, spec/13_charging_powerpath.md. -/
def Reg.CHG_PRE_CFG : RegGroup := ⟨0x30110034, [],
    [⟨31, 24, .rw, 10⟩, ⟨23, 12, .rw, 500⟩, ⟨11, 0, .rw, 2000⟩]⟩
def F.CHG_PRE_CFG.PRE_DV : Fld := ⟨0x30110034, 0, 0, 0, 31, 24⟩
def F.CHG_PRE_CFG.PRE_T : Fld := ⟨0x30110034, 0, 0, 0, 23, 12⟩
def F.CHG_PRE_CFG.PRE_HOLD_T : Fld := ⟨0x30110034, 0, 0, 0, 11, 0⟩
/-- CHG_ZONE, spec/13_charging_powerpath.md. -/
def Reg.CHG_ZONE : RegGroup := ⟨0x30110040, [(5, 4)],
    [⟨31, 24, .rw, 0⟩, ⟨23, 16, .rw, 0⟩, ⟨15, 8, .rw, 0⟩, ⟨7, 0, .rw, 0⟩]⟩
def F.CHG_ZONE.T_HI : Fld := ⟨0x30110040, 4, 0, 0, 31, 24⟩
def F.CHG_ZONE.FACTOR : Fld := ⟨0x30110040, 4, 0, 0, 23, 16⟩
def F.CHG_ZONE.V_ABS : Fld := ⟨0x30110040, 4, 0, 0, 15, 8⟩
def F.CHG_ZONE.V_FLOAT : Fld := ⟨0x30110040, 4, 0, 0, 7, 0⟩
/-- The registers of block CHG, R34. -/
def Reg.blockCHG : List RegGroup := [
  Reg.CHG_PILOT,
  Reg.CHG_PILOT_LVL,
  Reg.CHG_PP,
  Reg.CHG_PP_CFG,
  Reg.CHG_SESS,
  Reg.CHG_B12,
  Reg.CHG_B12_CFG,
  Reg.CHG_PRE,
  Reg.CHG_PRE_CFG,
  Reg.CHG_ZONE]

/-- THM_TD_CFG, spec/14_thermal.md. -/
def Reg.THM_TD_CFG : RegGroup := ⟨0x30120000, [(8, 4)],
    [⟨31, 31, .rw, 0⟩, ⟨15, 8, .rw, 0⟩, ⟨7, 0, .rw, 0⟩]⟩
def F.THM_TD_CFG.EN : Fld := ⟨0x30120000, 4, 0, 0, 31, 31⟩
def F.THM_TD_CFG.IDEALITY : Fld := ⟨0x30120000, 4, 0, 0, 15, 8⟩
def F.THM_TD_CFG.OFFSET : Fld := ⟨0x30120000, 4, 0, 0, 7, 0⟩
/-- THM_TH_CFG, spec/14_thermal.md. -/
def Reg.THM_TH_CFG : RegGroup := ⟨0x30120040, [(16, 4)],
    [⟨31, 31, .rw, 0⟩, ⟨1, 0, .rw, 0⟩]⟩
def F.THM_TH_CFG.EN : Fld := ⟨0x30120040, 4, 0, 0, 31, 31⟩
def F.THM_TH_CFG.TBL : Fld := ⟨0x30120040, 4, 0, 0, 1, 0⟩
/-- THM_TH_TBL, spec/14_thermal.md. -/
def Reg.THM_TH_TBL : RegGroup := ⟨0x30121000, [(8, 256), (33, 4)],
    [⟨15, 0, .rw, 0⟩]⟩
def F.THM_TH_TBL.TEMP : Fld := ⟨0x30121000, 256, 4, 0, 15, 0⟩
/-- THM_TEMP, spec/14_thermal.md. -/
def Reg.THM_TEMP : RegGroup := ⟨0x30120100, [(36, 4)],
    [⟨31, 31, .ro, 0⟩, ⟨30, 30, .w1c, 0⟩, ⟨15, 0, .ro, 0⟩]⟩
def F.THM_TEMP.VALID : Fld := ⟨0x30120100, 4, 0, 0, 31, 31⟩
def F.THM_TEMP.FAULT : Fld := ⟨0x30120100, 4, 0, 0, 30, 30⟩
def F.THM_TEMP.TEMP : Fld := ⟨0x30120100, 4, 0, 0, 15, 0⟩
/-- THM_RULE_CFG, spec/14_thermal.md. -/
def Reg.THM_RULE_CFG : RegGroup := ⟨0x30120200, [(16, 16)],
    [⟨31, 31, .rw, 0⟩, ⟨30, 28, .rw, 0⟩, ⟨27, 25, .rw, 1⟩, ⟨23, 0, .rw, 0⟩]⟩
def F.THM_RULE_CFG.EN : Fld := ⟨0x30120200, 16, 0, 0, 31, 31⟩
def F.THM_RULE_CFG.TARGET : Fld := ⟨0x30120200, 16, 0, 0, 30, 28⟩
def F.THM_RULE_CFG.SHUT_CLASS : Fld := ⟨0x30120200, 16, 0, 0, 27, 25⟩
def F.THM_RULE_CFG.SRC : Fld := ⟨0x30120200, 16, 0, 0, 23, 0⟩
/-- THM_RULE_THR, spec/14_thermal.md. -/
def Reg.THM_RULE_THR : RegGroup := ⟨0x30120204, [(16, 16)],
    [⟨31, 24, .rw, 0⟩, ⟨23, 16, .rw, 0⟩, ⟨15, 8, .rw, 0⟩, ⟨7, 0, .rw, 0⟩]⟩
def F.THM_RULE_THR.T_4 : Fld := ⟨0x30120204, 16, 0, 0, 31, 24⟩
def F.THM_RULE_THR.T_3 : Fld := ⟨0x30120204, 16, 0, 0, 23, 16⟩
def F.THM_RULE_THR.T_2 : Fld := ⟨0x30120204, 16, 0, 0, 15, 8⟩
def F.THM_RULE_THR.T_1 : Fld := ⟨0x30120204, 16, 0, 0, 7, 0⟩
/-- THM_RULE_FAC, spec/14_thermal.md. -/
def Reg.THM_RULE_FAC : RegGroup := ⟨0x30120208, [(16, 16)],
    [⟨31, 24, .rw, 0⟩, ⟨23, 16, .rw, 0⟩, ⟨15, 8, .rw, 0⟩, ⟨7, 0, .rw, 0⟩]⟩
def F.THM_RULE_FAC.FAC_4 : Fld := ⟨0x30120208, 16, 0, 0, 31, 24⟩
def F.THM_RULE_FAC.FAC_3 : Fld := ⟨0x30120208, 16, 0, 0, 23, 16⟩
def F.THM_RULE_FAC.FAC_2 : Fld := ⟨0x30120208, 16, 0, 0, 15, 8⟩
def F.THM_RULE_FAC.FAC_1 : Fld := ⟨0x30120208, 16, 0, 0, 7, 0⟩
/-- THM_RULE_LIM, spec/14_thermal.md. -/
def Reg.THM_RULE_LIM : RegGroup := ⟨0x3012020C, [(16, 16)],
    [⟨31, 24, .rw, 0⟩, ⟨23, 16, .rw, 0⟩, ⟨15, 12, .rw, 5⟩, ⟨11, 9, .rw, 2⟩]⟩
def F.THM_RULE_LIM.T_SHUT : Fld := ⟨0x3012020C, 16, 0, 0, 31, 24⟩
def F.THM_RULE_LIM.ROR_THR : Fld := ⟨0x3012020C, 16, 0, 0, 23, 16⟩
def F.THM_RULE_LIM.HYS : Fld := ⟨0x3012020C, 16, 0, 0, 15, 12⟩
def F.THM_RULE_LIM.FAIL_STEP : Fld := ⟨0x3012020C, 16, 0, 0, 11, 9⟩
/-- THM_RULE_STAT, spec/14_thermal.md. -/
def Reg.THM_RULE_STAT : RegGroup := ⟨0x30120300, [(16, 4)],
    [⟨31, 29, .ro, 0⟩, ⟨28, 28, .ro, 0⟩, ⟨27, 27, .ro, 0⟩, ⟨26, 26, .ro, 0⟩, ⟨15, 0, .ro, 0⟩]⟩
def F.THM_RULE_STAT.STEP : Fld := ⟨0x30120300, 4, 0, 0, 31, 29⟩
def F.THM_RULE_STAT.ROR : Fld := ⟨0x30120300, 4, 0, 0, 28, 28⟩
def F.THM_RULE_STAT.SHUT : Fld := ⟨0x30120300, 4, 0, 0, 27, 27⟩
def F.THM_RULE_STAT.NOSRC : Fld := ⟨0x30120300, 4, 0, 0, 26, 26⟩
def F.THM_RULE_STAT.TEMP : Fld := ⟨0x30120300, 4, 0, 0, 15, 0⟩
/-- THM_TGT0, spec/14_thermal.md. -/
def Reg.THM_TGT0 : RegGroup := ⟨0x30120340, [],
    [⟨31, 24, .ro, 128⟩, ⟨23, 16, .ro, 128⟩, ⟨15, 8, .ro, 128⟩, ⟨7, 0, .ro, 128⟩]⟩
def F.THM_TGT0.FACTOR3 : Fld := ⟨0x30120340, 0, 0, 0, 31, 24⟩
def F.THM_TGT0.FACTOR2 : Fld := ⟨0x30120340, 0, 0, 0, 23, 16⟩
def F.THM_TGT0.FACTOR1 : Fld := ⟨0x30120340, 0, 0, 0, 15, 8⟩
def F.THM_TGT0.FACTOR0 : Fld := ⟨0x30120340, 0, 0, 0, 7, 0⟩
/-- THM_TGT1, spec/14_thermal.md. -/
def Reg.THM_TGT1 : RegGroup := ⟨0x30120344, [],
    [⟨31, 24, .ro, 128⟩, ⟨23, 16, .ro, 128⟩, ⟨15, 8, .ro, 128⟩, ⟨7, 0, .ro, 128⟩]⟩
def F.THM_TGT1.FACTOR3 : Fld := ⟨0x30120344, 0, 0, 0, 31, 24⟩
def F.THM_TGT1.FACTOR2 : Fld := ⟨0x30120344, 0, 0, 0, 23, 16⟩
def F.THM_TGT1.FACTOR1 : Fld := ⟨0x30120344, 0, 0, 0, 15, 8⟩
def F.THM_TGT1.FACTOR0 : Fld := ⟨0x30120344, 0, 0, 0, 7, 0⟩
/-- THM_BAND_CFG, spec/14_thermal.md. -/
def Reg.THM_BAND_CFG : RegGroup := ⟨0x30120400, [(4, 64)],
    [⟨31, 31, .rw, 0⟩, ⟨30, 29, .ro, 0⟩, ⟨28, 28, .ro, 0⟩, ⟨27, 24, .rw, 0⟩, ⟨23, 0, .rw, 0⟩]⟩
def F.THM_BAND_CFG.EN : Fld := ⟨0x30120400, 64, 0, 0, 31, 31⟩
def F.THM_BAND_CFG.BAND : Fld := ⟨0x30120400, 64, 0, 0, 30, 29⟩
def F.THM_BAND_CFG.HELD : Fld := ⟨0x30120400, 64, 0, 0, 28, 28⟩
def F.THM_BAND_CFG.RULE : Fld := ⟨0x30120400, 64, 0, 0, 27, 24⟩
def F.THM_BAND_CFG.B : Fld := ⟨0x30120400, 64, 0, 0, 23, 0⟩
/-- THM_BAND_ACT, spec/14_thermal.md. -/
def Reg.THM_BAND_ACT : RegGroup := ⟨0x30120404, [(4, 64)],
    [⟨31, 28, .rw, 0⟩, ⟨27, 16, .rw, 0⟩, ⟨15, 12, .rw, 3⟩, ⟨7, 0, .rw, 10⟩]⟩
def F.THM_BAND_ACT.CG : Fld := ⟨0x30120404, 64, 0, 0, 31, 28⟩
def F.THM_BAND_ACT.BRIDGES : Fld := ⟨0x30120404, 64, 0, 0, 27, 16⟩
def F.THM_BAND_ACT.HYS : Fld := ⟨0x30120404, 64, 0, 0, 15, 12⟩
def F.THM_BAND_ACT.DWELL : Fld := ⟨0x30120404, 64, 0, 0, 7, 0⟩
/-- THM_BAND_LEGS, spec/14_thermal.md. -/
def Reg.THM_BAND_LEGS : RegGroup := ⟨0x30120408, [(4, 64)],
    [⟨31, 0, .rw, 0⟩]⟩
def F.THM_BAND_LEGS.LEGS : Fld := ⟨0x30120408, 64, 0, 0, 31, 0⟩
/-- THM_BAND_SET, spec/14_thermal.md. -/
def Reg.THM_BAND_SET : RegGroup := ⟨0x30120410, [(4, 64), (4, 4)],
    [⟨31, 20, .rw, 0⟩, ⟨19, 8, .rw, 0⟩, ⟨7, 6, .rw, 3⟩]⟩
def F.THM_BAND_SET.DT_TB : Fld := ⟨0x30120410, 64, 4, 0, 31, 20⟩
def F.THM_BAND_SET.DT_BT : Fld := ⟨0x30120410, 64, 4, 0, 19, 8⟩
def F.THM_BAND_SET.STRENGTH : Fld := ⟨0x30120410, 64, 4, 0, 7, 6⟩
/-- THM_BAND_PER, spec/14_thermal.md. -/
def Reg.THM_BAND_PER : RegGroup := ⟨0x30120420, [(4, 64), (4, 4)],
    [⟨23, 0, .rw, 0⟩]⟩
def F.THM_BAND_PER.PER : Fld := ⟨0x30120420, 64, 4, 0, 23, 0⟩
/-- The registers of block THM, R34. -/
def Reg.blockTHM : List RegGroup := [
  Reg.THM_TD_CFG,
  Reg.THM_TH_CFG,
  Reg.THM_TH_TBL,
  Reg.THM_TEMP,
  Reg.THM_RULE_CFG,
  Reg.THM_RULE_THR,
  Reg.THM_RULE_FAC,
  Reg.THM_RULE_LIM,
  Reg.THM_RULE_STAT,
  Reg.THM_TGT0,
  Reg.THM_TGT1,
  Reg.THM_BAND_CFG,
  Reg.THM_BAND_ACT,
  Reg.THM_BAND_LEGS,
  Reg.THM_BAND_SET,
  Reg.THM_BAND_PER]

/-- KLN_STAT, spec/15_safety.md. -/
def Reg.KLN_STAT : RegGroup := ⟨0x30130000, [],
    [⟨31, 29, .ro, 0⟩, ⟨28, 28, .ro, 0⟩, ⟨27, 27, .ro, 0⟩, ⟨26, 23, .ro, 0⟩, ⟨22, 22, .ro, 0⟩, ⟨21, 21, .ro, 0⟩,
     ⟨20, 20, .ro, 0⟩, ⟨19, 19, .ro, 0⟩, ⟨18, 18, .ro, 0⟩, ⟨17, 16, .ro, 0⟩, ⟨15, 15, .ro, 0⟩, ⟨14, 11, .ro, 0⟩]⟩
def F.KLN_STAT.KSTATE : Fld := ⟨0x30130000, 0, 0, 0, 31, 29⟩
def F.KLN_STAT.ENTRY_FIX : Fld := ⟨0x30130000, 0, 0, 0, 28, 28⟩
def F.KLN_STAT.FAULT_N : Fld := ⟨0x30130000, 0, 0, 0, 27, 27⟩
def F.KLN_STAT.GEN : Fld := ⟨0x30130000, 0, 0, 0, 26, 23⟩
def F.KLN_STAT.STO_HS : Fld := ⟨0x30130000, 0, 0, 0, 22, 22⟩
def F.KLN_STAT.STO_LS : Fld := ⟨0x30130000, 0, 0, 0, 21, 21⟩
def F.KLN_STAT.BRK_HS : Fld := ⟨0x30130000, 0, 0, 0, 20, 20⟩
def F.KLN_STAT.BRK_LS : Fld := ⟨0x30130000, 0, 0, 0, 19, 19⟩
def F.KLN_STAT.SS1_ACT : Fld := ⟨0x30130000, 0, 0, 0, 18, 18⟩
def F.KLN_STAT.SLS_ACT : Fld := ⟨0x30130000, 0, 0, 0, 17, 16⟩
def F.KLN_STAT.UNCHK_CAP : Fld := ⟨0x30130000, 0, 0, 0, 15, 15⟩
def F.KLN_STAT.RELEASE_REASON : Fld := ⟨0x30130000, 0, 0, 0, 14, 11⟩
/-- KLN_LATCH, spec/15_safety.md. -/
def Reg.KLN_LATCH : RegGroup := ⟨0x30130004, [],
    [⟨31, 31, .ro, 0⟩, ⟨30, 30, .ro, 0⟩, ⟨26, 0, .ro, 0⟩]⟩
def F.KLN_LATCH.WDOG : Fld := ⟨0x30130004, 0, 0, 0, 31, 31⟩
def F.KLN_LATCH.TABLE_CRC : Fld := ⟨0x30130004, 0, 0, 0, 30, 30⟩
def F.KLN_LATCH.ENTRY : Fld := ⟨0x30130004, 0, 0, 0, 26, 0⟩
/-- KLN_CODE, spec/15_safety.md. -/
def Reg.KLN_CODE : RegGroup := ⟨0x30130008, [],
    [⟨31, 16, .ro, 0⟩, ⟨15, 0, .ro, 0⟩]⟩
def F.KLN_CODE.FIRST : Fld := ⟨0x30130008, 0, 0, 0, 31, 16⟩
def F.KLN_CODE.LAST : Fld := ⟨0x30130008, 0, 0, 0, 15, 0⟩
/-- KLN_CNT, spec/15_safety.md. -/
def Reg.KLN_CNT : RegGroup := ⟨0x3013000C, [],
    [⟨31, 24, .ro, 0⟩, ⟨23, 16, .ro, 0⟩, ⟨15, 8, .ro, 0⟩, ⟨7, 0, .ro, 0⟩]⟩
def F.KLN_CNT.MISS_A : Fld := ⟨0x3013000C, 0, 0, 0, 31, 24⟩
def F.KLN_CNT.MISS_B : Fld := ⟨0x3013000C, 0, 0, 0, 23, 16⟩
def F.KLN_CNT.DP_FAIL : Fld := ⟨0x3013000C, 0, 0, 0, 15, 8⟩
def F.KLN_CNT.DP_DONE : Fld := ⟨0x3013000C, 0, 0, 0, 7, 0⟩
/-- KLN_SPD, spec/15_safety.md. -/
def Reg.KLN_SPD : RegGroup := ⟨0x30130010, [],
    [⟨31, 16, .ro, 0⟩, ⟨15, 0, .ro, 0⟩]⟩
def F.KLN_SPD.COUNT1 : Fld := ⟨0x30130010, 0, 0, 0, 31, 16⟩
def F.KLN_SPD.COUNT0 : Fld := ⟨0x30130010, 0, 0, 0, 15, 0⟩
/-- The registers of block KLN, R34. -/
def Reg.blockKLN : List RegGroup := [
  Reg.KLN_STAT,
  Reg.KLN_LATCH,
  Reg.KLN_CODE,
  Reg.KLN_CNT,
  Reg.KLN_SPD]

/-- CAN_CTL, spec/16_bus.md. -/
def Reg.CAN_CTL : RegGroup := ⟨0x30140000, [(4, 16384)],
    [⟨31, 31, .rw, 0⟩, ⟨30, 30, .ro, 0⟩, ⟨29, 28, .rw, 0⟩, ⟨27, 27, .rw, 0⟩, ⟨26, 26, .rw, 0⟩, ⟨25, 25, .rw, 0⟩,
     ⟨24, 24, .rw, 0⟩, ⟨23, 23, .wo, 0⟩, ⟨22, 20, .rw, 0⟩, ⟨19, 10, .rw, 0⟩, ⟨7, 0, .rw, 0⟩]⟩
def F.CAN_CTL.EN : Fld := ⟨0x30140000, 16384, 0, 0, 31, 31⟩
def F.CAN_CTL.DRAINING : Fld := ⟨0x30140000, 16384, 0, 0, 30, 30⟩
def F.CAN_CTL.OPMODE : Fld := ⟨0x30140000, 16384, 0, 0, 29, 28⟩
def F.CAN_CTL.FD_EN : Fld := ⟨0x30140000, 16384, 0, 0, 27, 27⟩
def F.CAN_CTL.XL_EN : Fld := ⟨0x30140000, 16384, 0, 0, 26, 26⟩
def F.CAN_CTL.XL_TMS : Fld := ⟨0x30140000, 16384, 0, 0, 25, 25⟩
def F.CAN_CTL.OWN_ECHO : Fld := ⟨0x30140000, 16384, 0, 0, 24, 24⟩
def F.CAN_CTL.FLUSH : Fld := ⟨0x30140000, 16384, 0, 0, 23, 23⟩
def F.CAN_CTL.BO_CLASS : Fld := ⟨0x30140000, 16384, 0, 0, 22, 20⟩
def F.CAN_CTL.BO_HOLD : Fld := ⟨0x30140000, 16384, 0, 0, 19, 10⟩
def F.CAN_CTL.RETRY_LIMIT : Fld := ⟨0x30140000, 16384, 0, 0, 7, 0⟩
/-- CAN_STAT, spec/16_bus.md. -/
def Reg.CAN_STAT : RegGroup := ⟨0x30140004, [(4, 16384)],
    [⟨31, 29, .ro, 0⟩, ⟨28, 28, .ro, 0⟩, ⟨27, 27, .ro, 0⟩, ⟨23, 16, .ro, 0⟩, ⟨15, 8, .ro, 0⟩, ⟨7, 0, .rc, 0⟩]⟩
def F.CAN_STAT.STATE : Fld := ⟨0x30140004, 16384, 0, 0, 31, 29⟩
def F.CAN_STAT.SAT : Fld := ⟨0x30140004, 16384, 0, 0, 28, 28⟩
def F.CAN_STAT.TX_BUSY : Fld := ⟨0x30140004, 16384, 0, 0, 27, 27⟩
def F.CAN_STAT.REC : Fld := ⟨0x30140004, 16384, 0, 0, 23, 16⟩
def F.CAN_STAT.TEC : Fld := ⟨0x30140004, 16384, 0, 0, 15, 8⟩
def F.CAN_STAT.BO_CNT : Fld := ⟨0x30140004, 16384, 0, 0, 7, 0⟩
/-- CAN_NBT, spec/16_bus.md. -/
def Reg.CAN_NBT : RegGroup := ⟨0x30140008, [(4, 16384)],
    [⟨31, 24, .rw, 0⟩, ⟨23, 15, .rw, 0⟩, ⟨14, 8, .rw, 0⟩, ⟨6, 0, .rw, 0⟩]⟩
def F.CAN_NBT.NBRP : Fld := ⟨0x30140008, 16384, 0, 0, 31, 24⟩
def F.CAN_NBT.NTSEG1 : Fld := ⟨0x30140008, 16384, 0, 0, 23, 15⟩
def F.CAN_NBT.NTSEG2 : Fld := ⟨0x30140008, 16384, 0, 0, 14, 8⟩
def F.CAN_NBT.NSJW : Fld := ⟨0x30140008, 16384, 0, 0, 6, 0⟩
/-- CAN_DBT, spec/16_bus.md. -/
def Reg.CAN_DBT : RegGroup := ⟨0x3014000C, [(4, 16384)],
    [⟨31, 28, .rw, 0⟩, ⟨27, 20, .rw, 0⟩, ⟨19, 13, .rw, 0⟩, ⟨12, 6, .rw, 0⟩, ⟨5, 0, .rw, 0⟩]⟩
def F.CAN_DBT.DBRP : Fld := ⟨0x3014000C, 16384, 0, 0, 31, 28⟩
def F.CAN_DBT.DTSEG1 : Fld := ⟨0x3014000C, 16384, 0, 0, 27, 20⟩
def F.CAN_DBT.DTSEG2 : Fld := ⟨0x3014000C, 16384, 0, 0, 19, 13⟩
def F.CAN_DBT.DSJW : Fld := ⟨0x3014000C, 16384, 0, 0, 12, 6⟩
def F.CAN_DBT.TDCO : Fld := ⟨0x3014000C, 16384, 0, 0, 5, 0⟩
/-- CAN_XBT, spec/16_bus.md. -/
def Reg.CAN_XBT : RegGroup := ⟨0x30140010, [(4, 16384)],
    [⟨31, 28, .rw, 0⟩, ⟨27, 20, .rw, 0⟩, ⟨19, 13, .rw, 0⟩, ⟨12, 6, .rw, 0⟩, ⟨5, 0, .rw, 0⟩]⟩
def F.CAN_XBT.DBRP : Fld := ⟨0x30140010, 16384, 0, 0, 31, 28⟩
def F.CAN_XBT.DTSEG1 : Fld := ⟨0x30140010, 16384, 0, 0, 27, 20⟩
def F.CAN_XBT.DTSEG2 : Fld := ⟨0x30140010, 16384, 0, 0, 19, 13⟩
def F.CAN_XBT.DSJW : Fld := ⟨0x30140010, 16384, 0, 0, 12, 6⟩
def F.CAN_XBT.TDCO : Fld := ⟨0x30140010, 16384, 0, 0, 5, 0⟩
/-- CAN_XPWM, spec/16_bus.md. -/
def Reg.CAN_XPWM : RegGroup := ⟨0x30140014, [(4, 16384)],
    [⟨23, 16, .rw, 0⟩, ⟨15, 8, .rw, 0⟩, ⟨7, 0, .rw, 0⟩]⟩
def F.CAN_XPWM.PWMS : Fld := ⟨0x30140014, 16384, 0, 0, 23, 16⟩
def F.CAN_XPWM.PWML : Fld := ⟨0x30140014, 16384, 0, 0, 15, 8⟩
def F.CAN_XPWM.PWMO : Fld := ⟨0x30140014, 16384, 0, 0, 7, 0⟩
/-- CAN_RX_CFG, spec/16_bus.md. -/
def Reg.CAN_RX_CFG : RegGroup := ⟨0x30140020, [(4, 16384)],
    [⟨31, 12, .rw, 0⟩, ⟨3, 0, .rw, 0⟩]⟩
def F.CAN_RX_CFG.BASE : Fld := ⟨0x30140020, 16384, 0, 0, 31, 12⟩
def F.CAN_RX_CFG.SIZE_LOG2 : Fld := ⟨0x30140020, 16384, 0, 0, 3, 0⟩
/-- CAN_RX_WR, spec/16_bus.md. -/
def Reg.CAN_RX_WR : RegGroup := ⟨0x30140024, [(4, 16384)],
    [⟨19, 0, .ro, 0⟩]⟩
def F.CAN_RX_WR.WR : Fld := ⟨0x30140024, 16384, 0, 0, 19, 0⟩
/-- CAN_RX_RD, spec/16_bus.md. -/
def Reg.CAN_RX_RD : RegGroup := ⟨0x30140028, [(4, 16384)],
    [⟨19, 0, .rw, 0⟩]⟩
def F.CAN_RX_RD.RD : Fld := ⟨0x30140028, 16384, 0, 0, 19, 0⟩
/-- CAN_TXQ_STAT, spec/16_bus.md. -/
def Reg.CAN_TXQ_STAT : RegGroup := ⟨0x30140030, [(4, 16384)],
    [⟨23, 16, .ro, 0⟩, ⟨15, 8, .rc, 0⟩, ⟨7, 0, .ro, 0⟩]⟩
def F.CAN_TXQ_STAT.LEVEL : Fld := ⟨0x30140030, 16384, 0, 0, 23, 16⟩
def F.CAN_TXQ_STAT.QFULL : Fld := ⟨0x30140030, 16384, 0, 0, 15, 8⟩
def F.CAN_TXQ_STAT.HEAD_RETRY : Fld := ⟨0x30140030, 16384, 0, 0, 7, 0⟩
/-- CAN_CNT, spec/16_bus.md. -/
def Reg.CAN_CNT : RegGroup := ⟨0x30140034, [(4, 16384)],
    [⟨31, 24, .rc, 0⟩, ⟨23, 16, .rc, 0⟩, ⟨15, 8, .rc, 0⟩, ⟨7, 0, .rc, 0⟩]⟩
def F.CAN_CNT.RX_DROP : Fld := ⟨0x30140034, 16384, 0, 0, 31, 24⟩
def F.CAN_CNT.ABANDON : Fld := ⟨0x30140034, 16384, 0, 0, 23, 16⟩
def F.CAN_CNT.LATE_DROP : Fld := ⟨0x30140034, 16384, 0, 0, 15, 8⟩
def F.CAN_CNT.FETCH_ERR : Fld := ⟨0x30140034, 16384, 0, 0, 7, 0⟩
/-- CAN_TXQ_PUSH, spec/16_bus.md. -/
def Reg.CAN_TXQ_PUSH : RegGroup := ⟨0x30140100, [(4, 16384), (3, 16), (4, 4)],
    [⟨31, 0, .wo, 0⟩]⟩
def F.CAN_TXQ_PUSH.WORD : Fld := ⟨0x30140100, 16384, 16, 4, 31, 0⟩
/-- REEL_CTL, spec/16_bus.md. -/
def Reg.REEL_CTL : RegGroup := ⟨0x3014F000, [],
    [⟨31, 31, .ro, 0⟩, ⟨30, 30, .ro, 0⟩, ⟨29, 28, .ro, 0⟩, ⟨27, 27, .ro, 0⟩, ⟨15, 0, .rw, 1000⟩]⟩
def F.REEL_CTL.RUN : Fld := ⟨0x3014F000, 0, 0, 0, 31, 31⟩
def F.REEL_CTL.STOPPED : Fld := ⟨0x3014F000, 0, 0, 0, 30, 30⟩
def F.REEL_CTL.RESETS : Fld := ⟨0x3014F000, 0, 0, 0, 29, 28⟩
def F.REEL_CTL.SAT : Fld := ⟨0x3014F000, 0, 0, 0, 27, 27⟩
def F.REEL_CTL.LATE_TOL : Fld := ⟨0x3014F000, 0, 0, 0, 15, 0⟩
/-- REEL_CFG, spec/16_bus.md. -/
def Reg.REEL_CFG : RegGroup := ⟨0x3014F004, [],
    [⟨31, 16, .rw, 0⟩, ⟨15, 12, .rw, 3⟩, ⟨11, 9, .rw, 2⟩]⟩
def F.REEL_CFG.REEL_WCET : Fld := ⟨0x3014F004, 0, 0, 0, 31, 16⟩
def F.REEL_CFG.OVR_N : Fld := ⟨0x3014F004, 0, 0, 0, 15, 12⟩
def F.REEL_CFG.REEL_CLASS : Fld := ⟨0x3014F004, 0, 0, 0, 11, 9⟩
/-- REEL_STAT, spec/16_bus.md. -/
def Reg.REEL_STAT : RegGroup := ⟨0x3014F008, [],
    [⟨31, 24, .rc, 0⟩, ⟨23, 16, .rc, 0⟩, ⟨15, 8, .rc, 0⟩, ⟨7, 0, .rc, 0⟩]⟩
def F.REEL_STAT.OVR_CNT : Fld := ⟨0x3014F008, 0, 0, 0, 31, 24⟩
def F.REEL_STAT.MBX_DROP : Fld := ⟨0x3014F008, 0, 0, 0, 23, 16⟩
def F.REEL_STAT.EVT_LOST : Fld := ⟨0x3014F008, 0, 0, 0, 15, 8⟩
def F.REEL_STAT.AUTH_FAIL_CNT : Fld := ⟨0x3014F008, 0, 0, 0, 7, 0⟩
/-- REEL_STAT2, spec/16_bus.md. -/
def Reg.REEL_STAT2 : RegGroup := ⟨0x3014F00C, [],
    [⟨31, 24, .rc, 0⟩, ⟨23, 16, .rc, 0⟩, ⟨15, 8, .rc, 0⟩]⟩
def F.REEL_STAT2.FLOOD_CNT : Fld := ⟨0x3014F00C, 0, 0, 0, 31, 24⟩
def F.REEL_STAT2.ALIVE_ERR : Fld := ⟨0x3014F00C, 0, 0, 0, 23, 16⟩
def F.REEL_STAT2.HOST_TMO_CNT : Fld := ⟨0x3014F00C, 0, 0, 0, 15, 8⟩
/-- The registers of block BUS, R34. -/
def Reg.blockBUS : List RegGroup := [
  Reg.CAN_CTL,
  Reg.CAN_STAT,
  Reg.CAN_NBT,
  Reg.CAN_DBT,
  Reg.CAN_XBT,
  Reg.CAN_XPWM,
  Reg.CAN_RX_CFG,
  Reg.CAN_RX_WR,
  Reg.CAN_RX_RD,
  Reg.CAN_TXQ_STAT,
  Reg.CAN_CNT,
  Reg.CAN_TXQ_PUSH,
  Reg.REEL_CTL,
  Reg.REEL_CFG,
  Reg.REEL_STAT,
  Reg.REEL_STAT2]

/-- DBG_STAT, spec/17_security_debug.md. -/
def Reg.DBG_STAT : RegGroup := ⟨0x30150000, [],
    [⟨31, 30, .ro, 0⟩, ⟨29, 28, .ro, 0⟩, ⟨27, 27, .ro, 0⟩, ⟨26, 26, .w1c, 0⟩, ⟨25, 22, .ro, 0⟩, ⟨16, 0, .ro, 0⟩]⟩
def F.DBG_STAT.LEVEL : Fld := ⟨0x30150000, 0, 0, 0, 31, 30⟩
def F.DBG_STAT.SOURCE : Fld := ⟨0x30150000, 0, 0, 0, 29, 28⟩
def F.DBG_STAT.L2_COND : Fld := ⟨0x30150000, 0, 0, 0, 27, 27⟩
def F.DBG_STAT.REVOKED : Fld := ⟨0x30150000, 0, 0, 0, 26, 26⟩
def F.DBG_STAT.REVOKE_CAUSE : Fld := ⟨0x30150000, 0, 0, 0, 25, 22⟩
def F.DBG_STAT.LEFT : Fld := ⟨0x30150000, 0, 0, 0, 16, 0⟩
/-- DBG_HALT, spec/17_security_debug.md. -/
def Reg.DBG_HALT : RegGroup := ⟨0x30150004, [],
    [⟨31, 28, .rw, 0⟩, ⟨27, 27, .rw, 0⟩, ⟨26, 23, .ro, 0⟩, ⟨22, 22, .ro, 0⟩]⟩
def F.DBG_HALT.HALT : Fld := ⟨0x30150004, 0, 0, 0, 31, 28⟩
def F.DBG_HALT.HALT_REEL : Fld := ⟨0x30150004, 0, 0, 0, 27, 27⟩
def F.DBG_HALT.HALTED : Fld := ⟨0x30150004, 0, 0, 0, 26, 23⟩
def F.DBG_HALT.REEL_HALTED : Fld := ⟨0x30150004, 0, 0, 0, 22, 22⟩
/-- DBG_OLT_STAT, spec/21_online_test.md. -/
def Reg.DBG_OLT_STAT : RegGroup := ⟨0x30150100, [],
    [⟨31, 31, .ro, 0⟩, ⟨30, 30, .ro, 0⟩, ⟨29, 29, .ro, 0⟩, ⟨28, 28, .ro, 0⟩, ⟨27, 27, .ro, 0⟩, ⟨26, 26, .ro, 0⟩, ⟨15, 8, .rc, 0⟩,
     ⟨7, 0, .rc, 0⟩]⟩
def F.DBG_OLT_STAT.SPARE_LOST : Fld := ⟨0x30150100, 0, 0, 0, 31, 31⟩
def F.DBG_OLT_STAT.STANDBY_LOST : Fld := ⟨0x30150100, 0, 0, 0, 30, 30⟩
def F.DBG_OLT_STAT.TWIN_REDUCED : Fld := ⟨0x30150100, 0, 0, 0, 29, 29⟩
def F.DBG_OLT_STAT.SET_LOST : Fld := ⟨0x30150100, 0, 0, 0, 28, 28⟩
def F.DBG_OLT_STAT.CAN_ALT : Fld := ⟨0x30150100, 0, 0, 0, 27, 27⟩
def F.DBG_OLT_STAT.SAT : Fld := ⟨0x30150100, 0, 0, 0, 26, 26⟩
def F.DBG_OLT_STAT.SUBST_CNT : Fld := ⟨0x30150100, 0, 0, 0, 15, 8⟩
def F.DBG_OLT_STAT.FAIL_CNT : Fld := ⟨0x30150100, 0, 0, 0, 7, 0⟩
/-- DBG_OLT_REQ, spec/21_online_test.md. -/
def Reg.DBG_OLT_REQ : RegGroup := ⟨0x30150104, [],
    [⟨31, 31, .ro, 0⟩, ⟨30, 30, .w1c, 0⟩, ⟨29, 27, .wo, 0⟩, ⟨26, 23, .wo, 0⟩, ⟨15, 8, .ro, 0⟩]⟩
def F.DBG_OLT_REQ.BUSY : Fld := ⟨0x30150104, 0, 0, 0, 31, 31⟩
def F.DBG_OLT_REQ.REQ_REF : Fld := ⟨0x30150104, 0, 0, 0, 30, 30⟩
def F.DBG_OLT_REQ.KIND : Fld := ⟨0x30150104, 0, 0, 0, 29, 27⟩
def F.DBG_OLT_REQ.TARGET : Fld := ⟨0x30150104, 0, 0, 0, 26, 23⟩
def F.DBG_OLT_REQ.RESULT : Fld := ⟨0x30150104, 0, 0, 0, 15, 8⟩
/-- DBG_OLT_CAN, spec/21_online_test.md. -/
def Reg.DBG_OLT_CAN : RegGroup := ⟨0x30150108, [],
    [⟨31, 28, .wo, 0⟩, ⟨27, 24, .ro, 0⟩, ⟨23, 20, .w1c, 0⟩, ⟨15, 0, .rw, 1000⟩]⟩
def F.DBG_OLT_CAN.TEST_REQ : Fld := ⟨0x30150108, 0, 0, 0, 31, 28⟩
def F.DBG_OLT_CAN.IN_TEST : Fld := ⟨0x30150108, 0, 0, 0, 27, 24⟩
def F.DBG_OLT_CAN.LAST_FAIL : Fld := ⟨0x30150108, 0, 0, 0, 23, 20⟩
def F.DBG_OLT_CAN.CAN_TEST_PERIOD : Fld := ⟨0x30150108, 0, 0, 0, 15, 0⟩
/-- DBG_OLT_SW, spec/21_online_test.md. -/
def Reg.DBG_OLT_SW : RegGroup := ⟨0x3015010C, [],
    [⟨31, 16, .wo, 0⟩, ⟨3, 1, .rw, 2⟩, ⟨0, 0, .wo, 0⟩]⟩
def F.DBG_OLT_SW.SLICE : Fld := ⟨0x3015010C, 0, 0, 0, 31, 16⟩
def F.DBG_OLT_SW.SW_CLASS : Fld := ⟨0x3015010C, 0, 0, 0, 3, 1⟩
def F.DBG_OLT_SW.PASS : Fld := ⟨0x3015010C, 0, 0, 0, 0, 0⟩
/-- DBG_TRC_CFG, spec/21_online_test.md. -/
def Reg.DBG_TRC_CFG : RegGroup := ⟨0x30150200, [],
    [⟨31, 31, .rw, 0⟩, ⟨30, 30, .w1c, 0⟩, ⟨29, 29, .rw, 0⟩, ⟨28, 26, .rw, 0⟩, ⟨25, 23, .rw, 0⟩, ⟨22, 17, .rw, 0⟩,
     ⟨16, 14, .rw, 0⟩, ⟨8, 8, .ro, 0⟩, ⟨7, 0, .rc, 0⟩]⟩
def F.DBG_TRC_CFG.EN : Fld := ⟨0x30150200, 0, 0, 0, 31, 31⟩
def F.DBG_TRC_CFG.OVF : Fld := ⟨0x30150200, 0, 0, 0, 30, 30⟩
def F.DBG_TRC_CFG.WHL_EN : Fld := ⟨0x30150200, 0, 0, 0, 29, 29⟩
def F.DBG_TRC_CFG.WHORL : Fld := ⟨0x30150200, 0, 0, 0, 28, 26⟩
def F.DBG_TRC_CFG.LOOP : Fld := ⟨0x30150200, 0, 0, 0, 25, 23⟩
def F.DBG_TRC_CFG.PORT_FIRST : Fld := ⟨0x30150200, 0, 0, 0, 22, 17⟩
def F.DBG_TRC_CFG.PORT_N_M1 : Fld := ⟨0x30150200, 0, 0, 0, 16, 14⟩
def F.DBG_TRC_CFG.SAT : Fld := ⟨0x30150200, 0, 0, 0, 8, 8⟩
def F.DBG_TRC_CFG.DROP : Fld := ⟨0x30150200, 0, 0, 0, 7, 0⟩
/-- The registers of block DBG, R34. -/
def Reg.blockDBG : List RegGroup := [
  Reg.DBG_STAT,
  Reg.DBG_HALT,
  Reg.DBG_OLT_STAT,
  Reg.DBG_OLT_REQ,
  Reg.DBG_OLT_CAN,
  Reg.DBG_OLT_SW,
  Reg.DBG_TRC_CFG]

/-- START_LOG, spec/02_modes_power_start.md. -/
def Reg.START_LOG : RegGroup := ⟨0x30160100, [],
    [⟨31, 31, .ro, 0⟩, ⟨29, 28, .ro, 0⟩, ⟨27, 24, .ro, 0⟩, ⟨23, 23, .ro, 0⟩, ⟨15, 0, .ro, 0⟩]⟩
def F.START_LOG.START_LOCK : Fld := ⟨0x30160100, 0, 0, 0, 31, 31⟩
def F.START_LOG.KIND : Fld := ⟨0x30160100, 0, 0, 0, 29, 28⟩
def F.START_LOG.FAILS : Fld := ⟨0x30160100, 0, 0, 0, 27, 24⟩
def F.START_LOG.SAT : Fld := ⟨0x30160100, 0, 0, 0, 23, 23⟩
def F.START_LOG.LAST_FAULT : Fld := ⟨0x30160100, 0, 0, 0, 15, 0⟩
/-- EMB_STAT, spec/04_ember.md. -/
def Reg.EMB_STAT : RegGroup := ⟨0x30160000, [],
    [⟨31, 31, .ro, 0⟩, ⟨30, 30, .ro, 0⟩, ⟨29, 29, .ro, 0⟩, ⟨28, 28, .w1c, 0⟩, ⟨27, 27, .w1c, 0⟩, ⟨26, 26, .w1c, 0⟩,
     ⟨25, 25, .ro, 0⟩, ⟨23, 16, .ro, 0⟩, ⟨9, 8, .w1c, 0⟩, ⟨7, 0, .ro, 0⟩]⟩
def F.EMB_STAT.PROG_OK : Fld := ⟨0x30160000, 0, 0, 0, 31, 31⟩
def F.EMB_STAT.ARMED : Fld := ⟨0x30160000, 0, 0, 0, 30, 30⟩
def F.EMB_STAT.XTAL_OK : Fld := ⟨0x30160000, 0, 0, 0, 29, 29⟩
def F.EMB_STAT.XTAL_FAIL : Fld := ⟨0x30160000, 0, 0, 0, 28, 28⟩
def F.EMB_STAT.ALARM_PAST : Fld := ⟨0x30160000, 0, 0, 0, 27, 27⟩
def F.EMB_STAT.FAULT : Fld := ⟨0x30160000, 0, 0, 0, 26, 26⟩
def F.EMB_STAT.MORE : Fld := ⟨0x30160000, 0, 0, 0, 25, 25⟩
def F.EMB_STAT.FAULT_CAUSE : Fld := ⟨0x30160000, 0, 0, 0, 23, 16⟩
def F.EMB_STAT.CNT_SAT : Fld := ⟨0x30160000, 0, 0, 0, 9, 8⟩
def F.EMB_STAT.WAKE_REASON : Fld := ⟨0x30160000, 0, 0, 0, 7, 0⟩
/-- EMB_CFG, spec/04_ember.md. -/
def Reg.EMB_CFG : RegGroup := ⟨0x30160004, [],
    [⟨31, 16, .rw, 1000⟩, ⟨15, 15, .rw, 0⟩, ⟨14, 14, .rw, 1⟩, ⟨9, 8, .rw, 0⟩, ⟨7, 4, .rw, 1⟩, ⟨3, 0, .rw, 0⟩]⟩
def F.EMB_CFG.PASS_PERIOD : Fld := ⟨0x30160004, 0, 0, 0, 31, 16⟩
def F.EMB_CFG.OUT_EN : Fld := ⟨0x30160004, 0, 0, 0, 15, 15⟩
def F.EMB_CFG.OUT_LVL : Fld := ⟨0x30160004, 0, 0, 0, 14, 14⟩
def F.EMB_CFG.BEMF_EN : Fld := ⟨0x30160004, 0, 0, 0, 9, 8⟩
def F.EMB_CFG.BEMF_THR : Fld := ⟨0x30160004, 0, 0, 0, 7, 4⟩
def F.EMB_CFG.DIRECT : Fld := ⟨0x30160004, 0, 0, 0, 3, 0⟩
/-- EMB_PINCFG, spec/04_ember.md. -/
def Reg.EMB_PINCFG : RegGroup := ⟨0x30160008, [],
    [⟨31, 30, .rw, 0⟩, ⟨29, 24, .rw, 0⟩, ⟨23, 22, .rw, 0⟩, ⟨21, 16, .rw, 0⟩, ⟨15, 14, .rw, 0⟩, ⟨13, 8, .rw, 0⟩, ⟨7, 6, .rw, 0⟩,
     ⟨5, 0, .rw, 0⟩]⟩
def F.EMB_PINCFG.EDGE3 : Fld := ⟨0x30160008, 0, 0, 0, 31, 30⟩
def F.EMB_PINCFG.FILT3 : Fld := ⟨0x30160008, 0, 0, 0, 29, 24⟩
def F.EMB_PINCFG.EDGE2 : Fld := ⟨0x30160008, 0, 0, 0, 23, 22⟩
def F.EMB_PINCFG.FILT2 : Fld := ⟨0x30160008, 0, 0, 0, 21, 16⟩
def F.EMB_PINCFG.EDGE1 : Fld := ⟨0x30160008, 0, 0, 0, 15, 14⟩
def F.EMB_PINCFG.FILT1 : Fld := ⟨0x30160008, 0, 0, 0, 13, 8⟩
def F.EMB_PINCFG.EDGE0 : Fld := ⟨0x30160008, 0, 0, 0, 7, 6⟩
def F.EMB_PINCFG.FILT0 : Fld := ⟨0x30160008, 0, 0, 0, 5, 0⟩
/-- EMB_RTC_SEC, spec/04_ember.md. -/
def Reg.EMB_RTC_SEC : RegGroup := ⟨0x30160010, [],
    [⟨31, 0, .rw, 0⟩]⟩
def F.EMB_RTC_SEC.SEC : Fld := ⟨0x30160010, 0, 0, 0, 31, 0⟩
/-- EMB_RTC_ALARM, spec/04_ember.md. -/
def Reg.EMB_RTC_ALARM : RegGroup := ⟨0x30160014, [],
    [⟨31, 0, .rw, 0⟩]⟩
def F.EMB_RTC_ALARM.ALARM : Fld := ⟨0x30160014, 0, 0, 0, 31, 0⟩
/-- EMB_RTC_SUB, spec/04_ember.md. -/
def Reg.EMB_RTC_SUB : RegGroup := ⟨0x30160018, [],
    [⟨14, 0, .ro, 0⟩]⟩
def F.EMB_RTC_SUB.SUB : Fld := ⟨0x30160018, 0, 0, 0, 14, 0⟩
/-- The registers of block EMB, R34. -/
def Reg.blockEMB : List RegGroup := [
  Reg.START_LOG,
  Reg.EMB_STAT,
  Reg.EMB_CFG,
  Reg.EMB_PINCFG,
  Reg.EMB_RTC_SEC,
  Reg.EMB_RTC_ALARM,
  Reg.EMB_RTC_SUB]

/-- SIG_CTL, spec/20_memory_events.md. -/
def Reg.SIG_CTL : RegGroup := ⟨0x30170000, [],
    [⟨31, 31, .ro, 0⟩, ⟨30, 30, .ro, 0⟩, ⟨15, 8, .rc, 0⟩]⟩
def F.SIG_CTL.DICT_OK : Fld := ⟨0x30170000, 0, 0, 0, 31, 31⟩
def F.SIG_CTL.SAT : Fld := ⟨0x30170000, 0, 0, 0, 30, 30⟩
def F.SIG_CTL.OVL_CNT : Fld := ⟨0x30170000, 0, 0, 0, 15, 8⟩
/-- SIG_DAQ_BASE, spec/20_memory_events.md. -/
def Reg.SIG_DAQ_BASE : RegGroup := ⟨0x30170004, [],
    [⟨31, 0, .rw, 0⟩]⟩
def F.SIG_DAQ_BASE.BASE : Fld := ⟨0x30170004, 0, 0, 0, 31, 0⟩
/-- SIG_EVCH, spec/20_memory_events.md. -/
def Reg.SIG_EVCH : RegGroup := ⟨0x30170100, [(16, 4)],
    [⟨31, 31, .rw, 0⟩, ⟨30, 29, .rw, 0⟩, ⟨23, 16, .rw, 0⟩, ⟨15, 0, .rw, 0⟩]⟩
def F.SIG_EVCH.EN : Fld := ⟨0x30170100, 4, 0, 0, 31, 31⟩
def F.SIG_EVCH.KIND : Fld := ⟨0x30170100, 4, 0, 0, 30, 29⟩
def F.SIG_EVCH.SRC : Fld := ⟨0x30170100, 4, 0, 0, 23, 16⟩
def F.SIG_EVCH.PERIOD : Fld := ⟨0x30170100, 4, 0, 0, 15, 0⟩
/-- The registers of block SIG, R34. -/
def Reg.blockSIG : List RegGroup := [
  Reg.SIG_CTL,
  Reg.SIG_DAQ_BASE,
  Reg.SIG_EVCH]

/-- The block whose 64 KB window starts at 0x30000000 + 0x10000·n, R34. -/
def Reg.blocks : List (List RegGroup) := [
  Reg.blockSYSCTL, Reg.blockCLK, Reg.blockCDC, Reg.blockEVR, Reg.blockMEMC, Reg.blockTND, Reg.blockSKN, Reg.blockUPD, Reg.blockSPX, Reg.blockWHL, Reg.blockFLY, Reg.blockAFE, Reg.blockHKA, Reg.blockPWM, Reg.blockGIF, Reg.blockACT, Reg.blockCNV, Reg.blockCHG, Reg.blockTHM, Reg.blockKLN, Reg.blockBUS, Reg.blockDBG, Reg.blockEMB, Reg.blockSIG]

end Sys2Proof.Machine
end

