-- ==== Sys2Proof/Machine/Ops.lean ====
section
/-! DEFINITION. The named operations every meaning is written with: sparse tables, registers and their fields, counters,
memory bytes, raising an event, issuing a fault code, and the domain a register lies in. -/

namespace Sys2Proof.Machine
open Sys2Proof

/-- What a meaning answers. -/
abbrev Res := Host.Outcome State Fault Refusal

/-! ### Registers -/

/-- Reset word of a register from its field list. -/
def wordOfFields (fs : List FieldDesc) : Word :=
  BitVec.ofNat 32 (fs.foldl (fun acc f => acc + (f.reset % 2 ^ (f.hi + 1 - f.lo)) * 2 ^ f.lo) 0)

/-- Whether offset `o` from a group's base is one of its registers. -/
def inDims (o : Nat) : List (Nat × Nat) → Bool
  | [] => o == 0
  | (n, st) :: r => decide (o / st < n) && inDims (o % st) r

/-- The register group that holds bus address `a`, R34. -/
def groupAt (a : Nat) : Option RegGroup :=
  if a < 0x30000000 then none
  else match Reg.blocks[(a - 0x30000000) / 0x10000]? with
    | none => none
    | some gs => gs.find? (fun g => decide (g.base ≤ a) && inDims (a - g.base) g.dims)

/-- What the register at `a` reads after reset; an address with no register table reads zero (R4). -/
def resetWord (a : Nat) : Word :=
  match groupAt a with
  | none => 0
  | some g => wordOfFields g.fields

/-- Present value of the register at bus address `a`. -/
def State.rd (s : State) (a : Nat) : Word := SMap.get (resetWord a) s.regs a

/-- Set the register at bus address `a` to `w`. -/
def State.wr (s : State) (a : Nat) (w : Word) : State := { s with regs := SMap.put (resetWord a) s.regs a w }

/-- Address of a field's register at indices i, j, k. -/
def Fld.addr (f : Fld) (i j k : Nat) : Nat := f.base + i * f.s1 + j * f.s2 + k * f.s3

/-- Largest value of a field. -/
def Fld.maxVal (f : Fld) : Nat := 2 ^ (f.hi + 1 - f.lo) - 1

/-- Value of a field, unsigned. -/
def State.get (s : State) (f : Fld) (i : Nat := 0) (j : Nat := 0) (k : Nat := 0) : Nat :=
  getBits (s.rd (f.addr i j k)) f.hi f.lo

/-- Value of a field as a flag. -/
def State.getB (s : State) (f : Fld) (i : Nat := 0) (j : Nat := 0) (k : Nat := 0) : Bool := s.get f i j k != 0

/-- Value of a field as a two's complement number. -/
def State.getI (s : State) (f : Fld) (i : Nat := 0) (j : Nat := 0) (k : Nat := 0) : Int :=
  signed (f.hi + 1 - f.lo) (s.get f i j k)

/-- Set a field (the value is taken modulo the field's width). -/
def State.set (s : State) (f : Fld) (v : Nat) (i : Nat := 0) (j : Nat := 0) (k : Nat := 0) : State :=
  s.wr (f.addr i j k) (setBits (s.rd (f.addr i j k)) f.hi f.lo v)

/-- Set a one-bit field from a flag. -/
def State.setB (s : State) (f : Fld) (b : Bool) (i : Nat := 0) (j : Nat := 0) (k : Nat := 0) : State :=
  s.set f (if b then 1 else 0) i j k

/-- Set a field from a signed number, two's complement. -/
def State.setI (s : State) (f : Fld) (v : Int) (i : Nat := 0) (j : Nat := 0) (k : Nat := 0) : State :=
  s.set f (unsigned (f.hi + 1 - f.lo) v) i j k

/-- Add `n` to a count field that saturates at its largest value; the update that brings it there sets the register's SAT
field (R557). -/
def State.bump (s : State) (f : Fld) (satF : Fld) (i : Nat := 0) (j : Nat := 0) (k : Nat := 0) (n : Nat := 1) : State :=
  let v := min (s.get f i j k + n) f.maxVal
  let s' := s.set f v i j k
  if v = f.maxVal then s'.set satF 1 i j k else s'

/-- Set bit `b` of a field to `v`. -/
def State.setBit (s : State) (f : Fld) (b : Nat) (v : Bool) (i : Nat := 0) (j : Nat := 0) (k : Nat := 0) : State :=
  s.set f (putBit (s.get f i j k) b v) i j k

/-- Bit `b` of a field. -/
def State.bit (s : State) (f : Fld) (b : Nat) (i : Nat := 0) (j : Nat := 0) (k : Nat := 0) : Bool :=
  (s.get f i j k).testBit b

/-! ### Power domains and modes -/

/-- PDn is powered (R48); PD0 has its own home, since PD_STAT itself lies in PD8. -/
def State.pdOn (s : State) (d : Nat) : Bool := if d = 0 then s.sys.pd0 else s.bit F.PD_STAT.ON d

/-- PDn's memory is filled (R53, R54). -/
def State.pdFilled (s : State) (d : Nat) : Bool := if d = 0 then s.sys.pd0 else s.bit F.PD_STAT.FILLED d

/-- PDn may be accessed: powered and filled (R32, R55). -/
def State.pdReady (s : State) (d : Nat) : Bool := s.pdOn d && s.pdFilled d

/-- The present mode code, R38: DORMANT has no register to show it. -/
def State.mode (s : State) : Nat :=
  match s.sys.phase with
  | .dormant => 0
  | _ => s.get F.MODE_STAT.MODE

/-- The power domain of the register block that holds bus address `a`, R34. -/
def domainOf (a : Nat) : Nat :=
  let b := (a - 0x30000000) / 0x10000
  let o := (a - 0x30000000) % 0x10000
  match b with
  | 5 => 1 | 6 => 9 | 7 => 1
  | 8 => if o < 0x8000 then 2 else 3
  | 9 => if o < 0x4000 then 4 else 5
  | 10 => 7 | 11 => 6 | 12 => 10 | 13 => 7 | 14 => 7 | 15 => 10 | 16 => 5 | 18 => 10 | 20 => 9 | 22 => 0
  | _ => 8

/-! ### Events and faults -/

/-- Events raised in the fabric clock domain itself: their crossing counts no overruns (chapter 19, register table). -/
def fabricEvent (n : Nat) : Bool :=
  (n < 64 && !([2, 3, 10, 11, 16, 17, 18, 44].contains n)) || (170 ≤ n && n ≤ 176) || (232 ≤ n && n ≤ 235)

/-- Address of the CDC_EVT_OVR field of event n. -/
def ovrFld (n : Nat) : Fld := ⟨0x30020100 + 4 * (n / 8), 0, 0, 0, 4 * (n % 8) + 3, 4 * (n % 8)⟩

/-- One more pulse in flight: OVR saturates at 15 and sets SAT (R533). -/
def countOvr (n : Nat) (s : State) : State :=
  if fabricEvent n then s
  else
    let v := min (s.get (ovrFld n) + 1) 15
    let s' := s.set (ovrFld n) v
    if v = 15 then s'.set F.CDC_STALE.SAT 1 else s'

def State.xing (s : State) (n : Nat) : XingSt := SMap.get {} s.fab.xing n
def State.setXing (s : State) (n : Nat) (x : XingSt) : State :=
  { s with fab := { s.fab with xing := SMap.put {} s.fab.xing n x } }

/-- Raise event n: a pulse into its crossing (R533). With the fabric's domain off the pulse is lost (R534). -/
def raise (n : Nat) (s : State) : State :=
  if s.pdOn 8 then
    if (s.xing n).flight then countOvr n (s.setXing n { s.xing n with pend := true })
    else s.setXing n { flight := true, pend := false }
  else s

/-- Class fields hold 0 to 5; 6 and 7 act as 5. -/
def clsOf (c : Nat) : Nat := min c 5

/-- Issue a fault code with its class (R9): it is the last code issued; a class above REPORT becomes a reaction that
waits for IMPOSED_TRANSITION (R41 to R43), and a class 3 to 5 reaction of the control die is sent to the Kiln (R423). -/
def issueFor (src : FaultSrc) (code cls : Nat) (s : State) : State :=
  let r : React := ⟨code, clsOf cls, src⟩
  let s := { s with sys := { s.sys with lastFault := code } }
  let s := if clsOf cls = 0 then s else { s with sys := { s.sys with reacts := s.sys.reacts ++ [r] } }
  if clsOf cls ≥ 3 then { s with kln := { s.kln with mail := s.kln.mail ++ [r] } } else s

/-- `issueFor` where no rule asks for the unit. -/
def issue (code cls : Nat) (s : State) : State := issueFor .other code cls s

/-! ### Memory bytes -/

/-- One byte of the sparse memory: a byte that nothing has written reads zero (R53, R540, R545). -/
def State.byte (s : State) (a : Nat) : Byte := SMap.get 0 s.mem a

def State.setByte (s : State) (a : Nat) (b : Byte) : State := { s with mem := SMap.put 0 s.mem a b }

/-- `n` bytes from `a`, the first at the lowest address. -/
def State.bytes (s : State) (a : Nat) : Nat → List Byte
  | 0 => []
  | n + 1 => s.byte a :: s.bytes (a + 1) n

def State.setBytes (s : State) (a : Nat) : List Byte → State
  | [] => s
  | b :: r => (s.setByte a b).setBytes (a + 1) r

/-- Little-endian value of `n` bytes at `a`. -/
def State.load (s : State) (a n : Nat) : Nat := fromBytes (s.bytes a n)

/-- Store `v` as `n` little-endian bytes at `a`. -/
def State.store (s : State) (a n v : Nat) : State := s.setBytes a (toBytes n v)

/-- Memory key of byte `a` of core c's TCM (R30: the core-local alias). -/
def tcmKey (c a : Nat) : Nat := 0x100000000 + c * 0x100000 + a

/-- Base of Whorl w's memory window (R163). -/
def whlBase (w : Nat) : Nat := 0x20000000 + w * 0x100000

/-! ### Masters -/

/-- The debug level in force (R494). -/
def State.dbgLevel (s : State) : Nat := s.get F.DBG_STAT.LEVEL

/-- A Spindle's access: the pair's checked output, or a core's own. -/
def isSpindle : Master → Bool
  | .pair _ | .core _ => true
  | _ => false

/-- Who may write the register blocks: the Spindles, Tinder, the loader, and debug at L3 (R30, R494). -/
def State.regWriter (s : State) (m : Master) : Bool :=
  match m with
  | .pair _ | .core _ | .tinder | .loader => true
  | .debug => decide (3 ≤ s.dbgLevel)
  | _ => false

/-- A write that only a pair's checked output may make. -/
def checkedOutput : Master → Bool
  | .pair _ => true
  | _ => false

/-! ### Answers -/

/-- The last bus access answered `r`. -/
def State.answer (s : State) (r : BusResp) : State := { s with resp := r }

/-- A bus error: nothing else changes (R3, R32). -/
def busError (s : State) : State := s.answer .error

/-- Low 32 bits of TSTAMP (R531). -/
def State.ts32 (s : State) : Nat := s.fab.ts % 4294967296

end Sys2Proof.Machine
end

