-- ==== Sys2Proof/Machine/Memory.lean ====
section
/-! DEFINITION. The memories (R30, R36 to R40 of chapter 1's map, R538 to R549): who may reach which range, SECDED findings,
poison, the scrubber, the leaky buckets, the transfer engine, and the ash ring. -/

namespace Sys2Proof.Machine
open Sys2Proof

/-- Shared SRAM, R30. -/
def inSram (a : Nat) : Bool := decide (0x10000000 ≤ a ∧ a < 0x11000000)
/-- Whorl memory windows, R30; the reserved tail of each window answers with a bus error (R163). -/
def inWhorl (a : Nat) : Bool := decide (0x20000000 ≤ a ∧ a < 0x20800000 ∧ a % 0x100000 < 0xF0000)
def inAfeBuf (a : Nat) : Bool := decide (0x40000000 ≤ a ∧ a < 0x40040000)
def inDict (a : Nat) : Bool := decide (0x50000000 ≤ a ∧ a < 0x50100000)
def inFlash (a : Nat) : Bool := decide (0x60000000 ≤ a ∧ a < 0x70000000)
def inMram (a : Nat) : Bool := decide (0x70000000 ≤ a ∧ a < 0x70040000)
def inTcm (a : Nat) : Bool := decide (a < 0x80000)
/-- The register blocks, R30. -/
def inRegs (a : Nat) : Bool := decide (0x30000000 ≤ a ∧ a < 0x30180000)
/-- Ember's program store and retained SRAM, R120. -/
def inEmbMem (a : Nat) : Bool := decide ((0x30161000 ≤ a ∧ a < 0x30161400) ∨ (0x30168000 ≤ a ∧ a < 0x30170000))

/-- MRAM ranges and their readers and writers, R539. -/
def mramAllowed (s : State) (m : Master) (a : Nat) (write : Bool) : Bool :=
  if a < 0x70008000 then
    if write then m == .ashWriter else isSpindle m || (m == .debug && decide (1 ≤ s.dbgLevel))
  else if a < 0x70009000 then
    if write then m == .reel else isSpindle m || m == .reel
  else if a < 0x7003C000 then
    if write then isSpindle m else isSpindle m || (m == .debug && decide (2 ≤ s.dbgLevel))
  else m == .tinder

/-- Whether master m may reach memory address a (R30, R494, R539). A Whorl-memory write has rules of its own (R163). -/
def memAllowed (s : State) (m : Master) (a : Nat) (write : Bool) : Bool :=
  let dbgR := m == .debug && decide (2 ≤ s.dbgLevel)
  if inSram a then
    match m with
    | .pair _ | .core _ | .reel | .tinder | .transfer | .daq | .can _ | .loader => true
    | .debug => decide (2 ≤ s.dbgLevel)
    | _ => false
  else if inTcm a then
    match m with
    | .pair _ | .core _ | .tinder => true
    | .debug => if write then decide (3 ≤ s.dbgLevel) || (dbgR && (s.get F.DBG_HALT.HALTED).testBit 0) else dbgR
    | _ => false
  else if inWhorl a then
    match m with
    | .pair _ | .core _ | .tinder | .loader | .whorlLoader => true
    | .debug => if write then decide (3 ≤ s.dbgLevel) else dbgR
    | _ => false
  else if inAfeBuf a then
    match m with
    | .pair _ | .core _ | .transfer | .loader | .afeWriter => true
    | .debug => if write then decide (3 ≤ s.dbgLevel) else dbgR
    | _ => false
  else if inMram a then mramAllowed s m a write
  else if inEmbMem a then
    if write then decide (0x30168000 ≤ a) && (s.regWriter m)
    else isSpindle m || m == .tinder || (m == .debug && decide (2 ≤ s.dbgLevel))
  else false

/-- The core whose TCM the core-local alias names for a master (R30): the core itself, core 0 of a pair; core A0 for
Tinder and debug. -/
def tcmCore : Master → Nat
  | .core c => c.val
  | .pair p => 2 * p.val
  | _ => 0

/-- Memory key of bus address a for master m. -/
def memKey (m : Master) (a : Nat) : Nat := if inTcm a then tcmKey (tcmCore m) a else a

/-- The power domain a memory key lies in (R53). -/
def keyDomain (k : Nat) : Nat :=
  if 0x100000000 ≤ k then (if (k - 0x100000000) / 0x100000 < 2 then 2 else 3)
  else if inSram k then 8
  else if inWhorl k then (if (k - 0x20000000) / 0x100000 < 4 then 4 else 5)
  else if inAfeBuf k then 6
  else if inEmbMem k then 0
  else if inFlash k then 9
  else 8

/-- Kind of memory a key lies in, as the scrub error log names it: 0 shared SRAM, 1 TCM, 2 Whorl, 3 MRAM. -/
def keyKind (k : Nat) : Nat :=
  if 0x100000000 ≤ k then 1 else if inWhorl k then 2 else if inMram k then 3 else 0

/-- Core or Whorl number of a key, for the log. -/
def keyUnit (k : Nat) : Nat :=
  match keyKind k with
  | 1 => (k - 0x100000000) / 0x100000
  | 2 => (k - 0x20000000) / 0x100000
  | _ => 0

/-- Bytes of the ECC word at a key (R538): 4 for the Whorl data regions, 8 elsewhere. -/
def eccBytes (k : Nat) : Nat := if keyKind k = 2 && decide (0x40000 ≤ k % 0x100000) then 4 else 8

/-- First key of the ECC word a key lies in. -/
def eccWord (k : Nat) : Nat := k - k % eccBytes k

/-- The leaky bucket of a key, R549. -/
def bucketOf (k : Nat) : Nat :=
  match keyKind k with
  | 0 => k / 0x100000 % 16
  | 1 => 16 + keyUnit k
  | 2 => 20 + keyUnit k
  | _ => 28

def State.poisoned (s : State) (k : Nat) : Bool := s.fab.poison.contains (eccWord k)

/-- Poison the ECC word of a key (R544). -/
def poisonWord (k : Nat) (s : State) : State :=
  if s.poisoned k then s else { s with fab := { s.fab with poison := eccWord k :: s.fab.poison } }

/-- A full-word write clears poison (R543). -/
def cleanWord (k : Nat) (s : State) : State :=
  { s with fab := { s.fab with poison := s.fab.poison.filter (· != eccWord k) } }

/-- One corrected error into bucket b (R549); reaching BKT_THR overflows it. -/
def bucketAdd (b : Nat) (s : State) : State :=
  let v := s.get F.MEMC_BKT.LEVEL b + 1
  if v ≥ max (s.get F.MEMC_BKT_CFG.BKT_THR) 1 then
    let s := (s.set F.MEMC_BKT.OVF 1 b).bump F.MEMC_BKT.OVF_CNT F.MEMC_BKT.SAT b
    raise 32 (issue 0x1201 0 (s.set F.MEMC_BKT.LEVEL 0 b))
  else s.set F.MEMC_BKT.LEVEL v b

/-- The MEMC_CRIT region that covers a shared SRAM key, if one does (R546). -/
def critRegion (s : State) (k : Nat) : Option Nat :=
  (List.range 8).find? (fun j =>
    s.getB F.MEMC_CRIT.EN j && inSram k &&
      (let base := s.get F.MEMC_CRIT_BASE.BASE j / 4096 * 4096
       decide (base ≤ k ∧ k < base + 4096 * max (s.get F.MEMC_CRIT.SIZE j) 1)))

/-- Enter a finding in the scrub error log (R548): the lowest entry that is free, or LOG_LOST and LOG_OVF. -/
def slogAdd (k : Nat) (byRead : Bool) (s : State) : State :=
  match (List.range 8).find? (fun i => !s.getB F.MEMC_SLOG_INFO.VALID i) with
  | none => (s.set F.MEMC_STAT.LOG_OVF 1).bump F.MEMC_STAT.LOG_LOST F.MEMC_STAT.SAT
  | some i =>
    let a := if keyKind k = 1 then (k - 0x100000000) % 0x100000 else k
    let s := s.set F.MEMC_SLOG_ADDR.ADDR (eccWord a) i
    let s := s.set F.MEMC_SLOG_TS.TS s.ts32 i
    let s := (s.set F.MEMC_SLOG_INFO.KIND (keyKind k) i).set F.MEMC_SLOG_INFO.UNIT (keyUnit k) i
    let s := (s.setB F.MEMC_SLOG_INFO.CRIT (critRegion s k).isSome i).setB F.MEMC_SLOG_INFO.BY_READ byRead i
    s.set F.MEMC_SLOG_INFO.VALID 1 i

/-- What a read finds in a word (R541, R542): good or corrected data, or nothing. -/
inductive ReadFind where
  | ok | bad
  deriving DecidableEq, Repr

/-- Read side effects of the ECC word of key k whose check bits show `synd`: a corrected error feeds the bucket (and a
Whorl's CE_CNT, R165); a poisoned word counts POISON_READS; an uncorrectable word raises EV_MEM_UE (34), issues 0x1202,
counts, is poisoned and logged. -/
def readWord (k : Nat) (synd : Syndrome) (s : State) : ReadFind × State :=
  if s.poisoned k then (.bad, s.bump F.MEMC_STAT.POISON_READS F.MEMC_STAT.SAT)
  else match synd with
    | .clean => (.ok, s)
    | .single =>
      let s := if keyKind k = 2 then s.bump F.WHL_CTL.CE_CNT F.WHL_CTL.SAT (keyUnit k) else s
      (.ok, bucketAdd (bucketOf k) s)
    | .multi =>
      let s := raise 34 (issue 0x1202 0 (s.bump F.MEMC_STAT.UE_CNT F.MEMC_STAT.SAT))
      (.bad, slogAdd k true (poisonWord k s))

/-- Natural alignment and permitted widths (R538). -/
def aligned (a size : Nat) : Bool := (size == 1 || size == 2 || size == 4 || size == 8) && a % size == 0

/-- An access to memory address a may go ahead: in the map, permitted, powered and filled, of a permitted width. -/
def memOk (s : State) (m : Master) (a size : Nat) (write : Bool) : Bool :=
  memAllowed s m a write && aligned a size && s.pdReady (keyDomain (memKey m a)) &&
    (!(inWhorl a) || (decide (4 ≤ size) && (size == 4 || decide (a % 0x100000 < 0x40000)))) &&
    (!(inEmbMem a) || size == 4)

/-- A memory read (R541, R542) outside the flash range and the signal dictionary. -/
def memRead (m : Master) (a size : Nat) (synd : Syndrome) (s : State) : State :=
  if memOk s m a size false then
    let k := memKey m a
    match readWord k synd s with
    | (.ok, s) => s.answer (.data (s.load k size))
    | (.bad, s) => busError s
  else busError s

/-- A memory write (R543): narrower than the ECC word it is a read-modify-write, refused on a poisoned or uncorrectable
word; a full-word write replaces the word and clears its poison. -/
def memWrite (m : Master) (a size v : Nat) (synd : Syndrome) (s : State) : State :=
  if memOk s m a size true then
    let k := memKey m a
    if size < eccBytes k then
      match readWord k synd s with
      | (.ok, s) => (s.store k size v).answer .done
      | (.bad, s) => busError s
    else ((cleanWord k s).store k size v).answer .done
  else busError s

/-! ### Scrubber and buckets -/

/-- A word the scrubber visits: a shared SRAM bank, a core's TCM, a Whorl's memory or the MRAM (R547). -/
def scrubSlot : ScrubMem → Nat
  | .bank b => b.val
  | .tcm c => 16 + c.val
  | .whorl w => 20 + w.val
  | .mram => 28

/-- Words of each memory (R538). -/
def scrubWords : ScrubMem → Nat
  | .bank _ => 131072
  | .tcm _ => 65536
  | .whorl _ => 212992
  | .mram => 32768

/-- Key of word i of a memory. -/
def scrubKey (u : ScrubMem) (i : Nat) : Nat :=
  match u with
  | .bank b => 0x10000000 + b.val * 0x100000 + 8 * i
  | .tcm c => tcmKey c.val (8 * i)
  | .whorl w => if i < 32768 then whlBase w.val + 8 * i else whlBase w.val + 0x40000 + 4 * (i - 32768)
  | .mram => 0x70000000 + 8 * i

/-- The scrubber's finding of an uncorrectable word (R546): poison, log, EV_SCRUB_UE (33), and the code, which the Kiln
records. -/
def scrubFinding (k : Nat) (s : State) : State :=
  let s := raise 33 (slogAdd k false (poisonWord k s))
  let (code, cls) := match critRegion s k with
    | some j => (0x1204, clsOf (s.get F.MEMC_CRIT.CRIT_CLASS j))
    | none => (0x1203, 0)
  let s := issue code cls s
  if cls ≥ 3 then s else { s with kln := { s.kln with mail := s.kln.mail ++ [⟨code, cls, .other⟩] } }

/-- One step of the scrubber over memory u (R546, R547); the flag says that the word was found uncorrectable now. -/
def scrubStep (u : ScrubMem) (synd : Syndrome) (s : State) : State × Bool :=
  let p := scrubSlot u
  let i := SMap.get 0 s.fab.scrubPtr p
  let k := scrubKey u i
  if !s.getB F.MEMC_SCRUB_CFG.EN || !s.pdReady (keyDomain k) then (s, false)
  else
    let last := decide (i + 1 ≥ scrubWords u)
    let s := { s with fab := { s.fab with scrubPtr := SMap.put 0 s.fab.scrubPtr p (if last then 0 else i + 1) } }
    let s := if last && p == 0 then
        let s := s.set F.MEMC_SCRUB_LAP.LAPS (s.get F.MEMC_SCRUB_LAP.LAPS + 1)
        let s := s.set F.MEMC_SCRUB_LAP.LAST_LAP (min ((s.fab.ts - s.fab.lapStart) / 100000) 65535)
        { s with fab := { s.fab with lapStart := s.fab.ts } }
      else s
    if s.poisoned k then (s, false)
    else match synd with
      | .clean => (s, false)
      | .single =>
        let s := if keyKind k = 2 then s.bump F.WHL_CTL.CE_CNT F.WHL_CTL.SAT (keyUnit k) else s
        (bucketAdd (bucketOf k) s, false)
      | .multi => (scrubFinding k s, true)

/-- SCRUB_DISABLE (R547): the word in progress completes and the scrubber stops. -/
def execScrubDisable (m : Master) (s : State) : Res :=
  .next (if s.regWriter m then
      (s.set F.MEMC_SCRUB_CFG.EN 0).answer .done
    else busError s)

/-- BUCKET_LEAK (R549): every level above 0 falls by 1. -/
def execBucketLeak (s : State) : Res :=
  .next ((List.range 29).foldl (fun s b => s.set F.MEMC_BKT.LEVEL (s.get F.MEMC_BKT.LEVEL b - 1) b) s)

/-! ### Transfer engine (R559) -/

def State.xfer (s : State) (c : Nat) : XferSt := SMap.get {} s.fab.xfer c
def State.setXfer (s : State) (c : Nat) (x : XferSt) : State :=
  { s with fab := { s.fab with xfer := SMap.put {} s.fab.xfer c x } }

/-- One beat of 64 bytes can be read and written. -/
def beatOk (s : State) (src dst : Nat) : Bool :=
  memAllowed s .transfer src false && memAllowed s .transfer dst true &&
    s.pdReady (keyDomain src) && s.pdReady (keyDomain dst) && src % 64 == 0 && dst % 64 == 0 &&
    (List.range 8).all (fun i => !s.poisoned (src + 8 * i))

/-- Copy `n` beats from beat i on; stops at a beat whose source read returns a bus error, which is not written. The
count of beats left over is answered. -/
def copyBeats (src dst : Nat) : Nat → Nat → State → Nat × State
  | 0, _, s => (0, s)
  | n + 1, i, s =>
    if beatOk s (src + 64 * i) (dst + 64 * i) then
      let s := (List.range 8).foldl (fun s j => cleanWord (dst + 64 * i + 8 * j) s) s
      copyBeats src dst n (i + 1) (s.setBytes (dst + 64 * i) (s.bytes (src + 64 * i) 64))
    else (n + 1, s)

/-- XFER_START (R559): setting EN starts the channel at its first beat. -/
def execXferStart (m : Master) (c : Fin 8) (s : State) : Res :=
  .next (if s.regWriter m then
      if s.getB F.MEMC_XF_CTL.DRAINING c then s.answer .done
      else ((s.set F.MEMC_XF_CTL.EN 1 c).setXfer c { active := true, beat := 0 }).answer .done
    else busError s)

/-- The channel stops: EN and DRAINING clear, `dropped` beats are counted. -/
def xferStop (c dropped : Nat) (s : State) : State :=
  let s := ((s.set F.MEMC_XF_CTL.EN 0 c).set F.MEMC_XF_CTL.DRAINING 0 c).setXfer c {}
  if dropped = 0 then s else s.bump F.MEMC_XF_CTL.DROPPED F.MEMC_XF_CTL.SAT c (n := dropped)

/-- XFER_DRAIN (R558): EN is cleared with `started` beats begun; those complete, the rest are dropped and counted;
EV_MEM_XFER_DRAINED (36). -/
def execXferDrain (c : Fin 8) (started : Nat) (s : State) : Res :=
  .next (if (s.xfer c).active then
      let len := s.get F.MEMC_XF_CTL.LEN c
      let n := min started len
      let (left, s) := copyBeats (s.get F.MEMC_XF_SRC.SRC c) (s.get F.MEMC_XF_DST.DST c) n 0 s
      let s := if left = 0 then s else s.set F.MEMC_XF_CTL.ERR 1 c
      -- the beat that failed is not dropped: it is the error
      raise 36 (xferStop c (len - n + (left - 1)) s)
    else s.set F.MEMC_XF_CTL.EN 0 c)

/-- XFER_DONE (R559): all beats copied, DONE and EV_MEM_XFER_DONE (35); or ERR at the first beat whose read fails, the
beats after it counted as dropped. -/
def execXferDone (c : Fin 8) (s : State) : Res :=
  .next (if (s.xfer c).active then
      let len := s.get F.MEMC_XF_CTL.LEN c
      let (left, s) := copyBeats (s.get F.MEMC_XF_SRC.SRC c) (s.get F.MEMC_XF_DST.DST c) len 0 s
      if left = 0 then raise 35 (xferStop c 0 (s.set F.MEMC_XF_CTL.DONE 1 c))
      else xferStop c (left - 1) (s.set F.MEMC_XF_CTL.ERR 1 c)
    else s)

/-! ### Ash records (R550 to R552) -/

/-- CRC-32 of IEEE 802.3, bit by bit, reflected. -/
def crc32Bit (c : BitVec 32) : BitVec 32 := if c.getLsbD 0 then (c >>> 1) ^^^ 0xEDB88320 else c >>> 1

def crc32Byte (c : BitVec 32) (b : Byte) : BitVec 32 :=
  crc32Bit (crc32Bit (crc32Bit (crc32Bit (crc32Bit (crc32Bit (crc32Bit (crc32Bit (c ^^^ b.zeroExtend 32))))))))

def crc32 (bs : List Byte) : Nat := ((bs.foldl crc32Byte 0xFFFFFFFF) ^^^ 0xFFFFFFFF).toNat

/-- The 256 bytes of a record, the CRC word included (R551). -/
def ashBytes (seq cfgVersion : Nat) (dropped : Bool) (r : AshRec) : List Byte :=
  let head := toBytes 2 0x4153 ++ toBytes 1 (if dropped then 1 else 0) ++ toBytes 1 r.source ++ toBytes 4 seq ++
    toBytes 8 r.ts ++ toBytes 2 r.code ++ toBytes 1 r.cls ++ toBytes 1 (r.mode % 8 + 16 * (r.prevMode % 8)) ++
    toBytes 4 r.rtc ++ toBytes 4 cfgVersion
  let body := (r.body ++ List.replicate 224 0).take 224
  head ++ toBytes 4 (crc32 (head ++ body)) ++ body

/-- A record for the ash writer (R550): at most four in flight; a fifth is dropped and counted. -/
def ashPush (source code cls : Nat) (body : List Byte) (s : State) : State :=
  if s.fab.ashQ.length ≥ 4 then
    { (s.bump F.MEMC_ASH.ASH_DROP F.MEMC_ASH.SAT) with fab := { s.fab with ashDropped := true } }
  else
    let r : AshRec := {
      source := source, code := code, cls := clsOf cls, mode := s.mode, prevMode := s.get F.MODE_STAT.PREV_MODE
      ts := s.fab.ts, rtc := s.get F.EMB_RTC_SEC.SEC, body := body }
    let s := { s with fab := { s.fab with ashQ := s.fab.ashQ ++ [r] } }
    s.set F.MEMC_ASH.WAITING s.fab.ashQ.length

/-- ASH_RECORD_WRITTEN (R550): the oldest record is complete in slot SEQ mod 128; EV_ASH_WRITTEN (37). -/
def execAshRecordWritten (s : State) : Res :=
  .next (match s.fab.ashQ with
    | [] => s
    | r :: rest =>
      let seq := s.get F.MEMC_ASH_SEQ.NEXT_SEQ
      let bs := ashBytes seq s.sys.cfgVersion s.fab.ashDropped r
      let s := s.setBytes (0x70000000 + 256 * (seq % 128)) bs
      let s := { s with fab := { s.fab with ashQ := rest, ashDropped := false } }
      let s := (s.set F.MEMC_ASH_SEQ.NEXT_SEQ (seq + 1)).set F.MEMC_ASH.WAITING rest.length
      raise 37 s)

end Sys2Proof.Machine
end

