-- ==== Sys2Proof/Machine/Gate.lean ====
section
/-! DEFINITION. What decides a switch (R245), and how a switch is turned on and off (R234 to R240): the operations that the
PWM array, the converter block, the protection sets and the mode machine share. -/

namespace Sys2Proof.Machine
open Sys2Proof

def State.cg (s : State) (g : Nat) : CgSt := SMap.get {} s.pwm.cg g
def State.setCg (s : State) (g : Nat) (x : CgSt) : State := { s with pwm := { s.pwm with cg := SMap.put {} s.pwm.cg g x } }
def State.leg (s : State) (l : Nat) : LegSt := SMap.get {} s.pwm.legs l
def State.setLeg (s : State) (l : Nat) (x : LegSt) : State :=
  { s with pwm := { s.pwm with legs := SMap.put {} s.pwm.legs l x } }
def State.sw (s : State) (k : Nat) : SwSt := SMap.get {} s.pwm.sw k
def State.setSw (s : State) (k : Nat) (x : SwSt) : State := { s with pwm := { s.pwm with sw := SMap.put {} s.pwm.sw k x } }
def State.pset (s : State) (p : Nat) : PsetSt := SMap.get {} s.pwm.psets p
def State.setPset (s : State) (p : Nat) (x : PsetSt) : State :=
  { s with pwm := { s.pwm with psets := SMap.put {} s.pwm.psets p x } }
def State.compar (s : State) (c : Nat) : CompSt := SMap.get {} s.pwm.comps c
def State.setCompar (s : State) (c : Nat) (x : CompSt) : State :=
  { s with pwm := { s.pwm with comps := SMap.put {} s.pwm.comps c x } }

/-! ### What decides a switch (R245) -/

/-- The leg of switch s, and its opposite; switch 2l is the top of leg l (R229). -/
def legOf (k : Nat) : Nat := k / 2
def oppOf (k : Nat) : Nat := if k % 2 = 0 then k + 1 else k - 1
def isTop (k : Nat) : Bool := k % 2 == 0

/-- The legs of a protection set, and of a generator. -/
def legsOfSet (s : State) (p : Nat) : List Nat := (List.range 32).filter (fun l => s.get F.PWM_LEG_CFG.PSET l == p)
def legsOfCg (s : State) (g : Nat) : List Nat := (List.range 32).filter (fun l => s.get F.PWM_LEG_CFG.CG l == g)

/-- The stages that may switch in a mode (R38, R39, R245); stages 5 to 7 act as 4. In SAFE the HV-to-12 V converter runs
on unless R39 stopped it. -/
def stageAllowed (mode stage : Nat) (dcdcHeld : Bool) : Bool :=
  match mode with
  | 2 => decide (2 ≤ stage)
  | 3 => stage != 1
  | 4 => stage != 0
  | 5 => true
  | 6 => stage == 2 && !dcdcHeld
  | 7 => true
  | _ => false

/-- STATE of a protection set: 0 RUN, 1 DECIDING, 2 ASC_TOP, 3 ASC_BOT, 4 OFF, 5 and 6 requested ASC. -/
def State.psetState (s : State) (p : Nat) : Nat := s.get F.GIF_PSET_STAT.STATE p

/-- In active short circuit, the top row is the chosen one; absent where the set is not in one. -/
def ascTop (st : Nat) : Option Bool :=
  match st with
  | 2 | 5 => some true
  | 3 | 6 => some false
  | _ => none

/-- What R245 commands a switch. -/
inductive SwCmd where
  | off | on | follow
  deriving DecidableEq, Repr

/-- Row 5 of R245 and what holds a leg like it: EN or ARM clear, OFF_REQ, no generator that runs, no bridge, a wait for the
carrier event, or a hold by the converter block. -/
def legHeld (s : State) (l : Nat) : Bool :=
  let x := s.leg l
  let g := s.get F.PWM_LEG_CFG.CG l
  !s.getB F.PWM_LEG_CFG.EN l || !s.getB F.PWM_LEG_CFG.ARM l || !x.armed || x.offReq || x.offLoss || x.waitCarrier || x.cnvHold || x.nlOver != 0 ||
    decide (12 ≤ g) || !(s.cg g).running || (s.getB F.PWM_LEG_CFG.ROUTE l && decide (12 ≤ s.get F.PWM_LEG_CFG.ACT_SEL l))

/-- The actuator bridge a leg drives (R229), and the leg that drives bridge b. -/
def bridgeOf (s : State) (l : Nat) : Option Nat :=
  let b := s.get F.PWM_LEG_CFG.ACT_SEL l
  if s.getB F.PWM_LEG_CFG.ROUTE l && decide (b < 12) then some b else none
def legOfBridge (s : State) (b : Nat) : Option Nat := (List.range 32).find? (fun l => bridgeOf s l == some b)

/-- The leg's bridge is in refresh-hold (R337). -/
def bridgeRefresh (s : State) (l : Nat) : Bool :=
  match bridgeOf s l with
  | some b => s.getB F.ACT_BR_STAT.REFRESH_HOLD b
  | none => false

/-- The first row of R245 that applies; in row 8 a firing (R360) and a pre-biased start (R356) come before the compare
values. -/
def decideSw (s : State) (k : Nat) : SwCmd :=
  let l := legOf k
  let st := s.psetState (s.get F.PWM_LEG_CFG.PSET l)
  if !s.pwm.genSeen.testBit (s.get F.PWM_LEG_CFG.GEN_SEL l) then .off
  else if st = 1 ∨ st = 4 then .off
  else match ascTop st with
    | some t => if t == isTop k then .on else .off
    | none =>
      if !stageAllowed s.mode (s.get F.PWM_LEG_CFG.STAGE l) s.sys.dcdcHeld then .off
      else if legHeld s l then .off
      else if (s.getB F.PWM_LEG_STAT.BOOT_HOLD l || bridgeRefresh s l) && isTop k then .off
      else if (s.leg l).cycle && isTop k || (s.leg l).cycleB && !isTop k then .off
      else match (s.leg l).nlFire, (s.leg l).only with
        | some t, _ => if t == isTop k then .on else .off
        | none, some t => if t == isTop k then .follow else .off
        | none, none => .follow

/-! ### Actuator bridges as the legs and MODE leave them (R332 to R340) -/

/-- MODE of bridge b in effect: 0 HIZ, 1 PWM, 2 LOW_ON. -/
def bridgeMode (s : State) (b : Nat) : Nat := SMap.get 0 s.act.eff b

/-- Bridge b is in HIZ. -/
def bridgeHiz (s : State) (b : Nat) : Bool :=
  let genLow := match legOfBridge s b with
    | some l => !s.pwm.genSeen.testBit (s.get F.PWM_LEG_CFG.GEN_SEL l)
    | none => false
  !s.getB F.ACT_STAT.ACT_EN_LVL || s.bit F.ACT_STAT.LATCHED b || s.mode == 0 || s.mode == 1 || s.mode == 6 || genLow ||
    (match bridgeMode s b with
      | 2 => false
      | 1 => (match legOfBridge s b with
        | some l => decideSw s (2 * l) == .off && decideSw s (2 * l + 1) == .off
        | none => true)
      | _ => true)

/-- What the registers show of bridge b; leaving HIZ starts refresh-hold, which LOW_ON's low side ends. -/
def showBridge (b : Nat) (s : State) : State :=
  if !s.pdReady 10 then s
  else
    let hiz := bridgeHiz s b
    let low := bridgeMode s b == 2
    let sw (k : Nat) : Bool := match legOfBridge s b with
      | some l => (s.sw (2 * l + k)).cmd && bridgeMode s b == 1
      | none => false
    let s := if s.bit F.ACT_STAT.HIZ b && !hiz && !low then s.set F.ACT_BR_STAT.REFRESH_HOLD 1 b else s
    let s := if low && !hiz then s.set F.ACT_BR_STAT.REFRESH_HOLD 0 b else s
    let s := s.setBit F.ACT_STAT.HIZ b hiz
    (s.setB F.ACT_BR_STAT.GATE_H (!hiz && !low && sw 0) b).setB F.ACT_BR_STAT.GATE_L (!hiz && (low || sw 1)) b

/-- A command of leg l reaches its bridge: a written MODE of PWM takes effect (R333). -/
def legCommand (l : Nat) (s : State) : State :=
  match bridgeOf s l with
  | none => s
  | some b =>
    let s := if s.get F.ACT_BR_CFG.MODE b = 1 then { s with act := { s.act with eff := SMap.put 0 s.act.eff b 1 } } else s
    showBridge b s

/-! ### Switching (R234 to R240) -/

/-- An edge on leg l: blanking starts or goes on for every enabled comparator of its set with BLANK above 0 (R250). -/
def edgeIssued (l : Nat) (s : State) : State :=
  let p := s.get F.PWM_LEG_CFG.PSET l
  (List.range 48).foldl (fun s c =>
    if s.getB F.GIF_COMP_CFG.EN c && s.get F.GIF_COMP_CFG.PSET c == p && decide (0 < s.get F.GIF_COMP_CFG.BLANK c) then
      s.setCompar c { s.compar c with blank := true }
    else s) s

/-- Handshake in use on a switch: actuator-routed legs leave it to the pre-driver (R241). -/
def fbUsed (s : State) (k : Nat) : Bool := s.getB F.GIF_SW_CFG.FB_EN k && !s.getB F.PWM_LEG_CFG.ROUTE (legOf k)

/-- Switch k shows off: its feedback does, or it needs none. -/
def showsOff (s : State) (k : Nat) : Bool := !(s.sw k).cmd && (!fbUsed s k || !s.getB F.GIF_SW_CFG.GFB k)

/-- Turn switch k off: its feedback window opens, the opposite's dead time starts, a turn-on not yet issued is dropped. -/
def switchOff (k : Nat) (s : State) : State :=
  let x := s.sw k
  if x.cmd then
    let s := s.setSw k { x with cmd := false, pendOn := false, win := if fbUsed s k then .off else .none }
    let s := s.setSw (oppOf k) { s.sw (oppOf k) with deadRun := true }
    legCommand (legOf k) (edgeIssued (legOf k) s)
  else if x.pendOn then s.setSw k { x with pendOn := false } else s

/-- Turn switch k on if a turn-on waits, its dead time is out, the opposite shows off and R245 does not hold it off. -/
def tryOn (k : Nat) (s : State) : State :=
  let x := s.sw k
  if x.pendOn && !x.deadRun && showsOff s (oppOf k) && decideSw s k != .off then
    legCommand (legOf k) (edgeIssued (legOf k) (s.setSw k { x with cmd := true, pendOn := false, win := if fbUsed s k then .on else .none }))
  else s

/-- Bring a leg's switches under R245: what must be off goes off, what an active short circuit wants on turns on as R256
says. -/
def enforceLeg (l : Nat) (s : State) : State :=
  let offIf (k : Nat) (s : State) : State := if decideSw s k == .off then switchOff k s else s
  let onIf (k : Nat) (s : State) : State :=
    if decideSw s k == .on && !(s.sw k).cmd then tryOn k (s.setSw k { s.sw k with pendOn := true }) else s
  let s := onIf (2 * l + 1) (onIf (2 * l) (offIf (2 * l + 1) (offIf (2 * l) s)))
  match bridgeOf s l with
  | some b => showBridge b s
  | none => s

def enforceLegs (ls : List Nat) (s : State) : State := ls.foldl (fun s l => enforceLeg l s) s

/-- All 32 legs, after a change of mode, gate lines or reactions. -/
def enforceAll (s : State) : State := enforceLegs (List.range 32) s

/-- Clear ARM of legs (R246). -/
def disarm (ls : List Nat) (s : State) : State :=
  ls.foldl (fun s l => (s.set F.PWM_LEG_CFG.ARM 0 l).setLeg l { s.leg l with armed := false }) s

/-- OFF_REQ as the register shows it: R247's, the loss reaction's (R320), and the converter block's hold (R349). -/
def showOffReq (l : Nat) (s : State) : State :=
  let x := s.leg l
  s.setB F.PWM_LEG_CFG.OFF_REQ (x.offReq || x.offLoss || x.cnvHold || x.nlOver != 0) l

/-! ### Periods (R224 to R227) -/

/-- The master of generator g, if it names one (R226: never itself). -/
def masterOf (s : State) (g : Nat) : Option Nat :=
  let m := s.get F.PWM_CG_CTL.MASTER g
  if m < 12 && m != g then some m else none

/-- The period in force from a valley on: the master's, else the generator's own, at least 20,000 (R224 to R227). -/
def nextPer (s : State) (g : Nat) : Nat :=
  match masterOf s g with
  | some m => if (s.cg m).running then (s.cg m).per else (s.cg g).per
  | none => max 20000 (s.get F.PWM_CG_PER.PER g)

end Sys2Proof.Machine
end

