-- ==== Sys2Proof/Machine/Flags.lean ====
section
/-! DEFINITION. Every flag computation of the Whorl (R183, R201, R206): saturation to a register or an accumulator with its
SAT flag, and the four execution flags as one number. -/

namespace Sys2Proof.Machine
open Sys2Proof

/-- Smallest and largest value of a register and of an accumulator (R200, R202). -/
def min32 : Int := -2147483648
def max32 : Int := 2147483647
def min48 : Int := -140737488355328
def max48 : Int := 140737488355327

/-- Clip to 32 bits; the flag says that it clipped (R201). -/
def sat32 (v : Int) : Word × Flags := (ofSint (clampI min32 max32 v), { sat := decide (v < min32 ∨ max32 < v) })

/-- Clip to 48 bits; the flag says that it clipped (R214). -/
def sat48 (v : Int) : Int × Bool := (clampI min48 max48 v, decide (v < min48 ∨ max48 < v))

/-- Both sets of flags. -/
def Flags.or (x y : Flags) : Flags := ⟨x.sat || y.sat, x.divz || y.divz, x.domain || y.domain, x.tblClamp || y.tblClamp⟩

/-- Bit order of WHL_LOOP_FLAGS: SAT 0, DIVZ 1, DOMAIN 2, TBL_CLAMP 3. -/
def Flags.toNat (f : Flags) : Nat :=
  (if f.sat then 1 else 0) + (if f.divz then 2 else 0) + (if f.domain then 4 else 0) + (if f.tblClamp then 8 else 0)

/-- Only DOMAIN. -/
def domainFlag (b : Bool) : Flags := { domain := b }

end Sys2Proof.Machine
end

