-- ==== Sys2Proof/Machine/Units.lean ====
section
/-! DEFINITION. The Whorl's function units (R215): the exact result to the nearest LSB, moved by a free deviation within the
unit's accuracy, for R215 fixes a unit's results no further than that. -/

namespace Sys2Proof.Machine
open Sys2Proof

/-- π/2 at scale 2^64. -/
def halfPi : Nat := 28976077832308491370

/-- Alternating series of cosine (start 1) or sine (start θ) at scale 2^64: n further terms, k the next factor. -/
def trigSeries (sq : Nat) : Nat → Nat → Int → Int → Int
  | 0, _, _, acc => acc
  | n + 1, k, t, acc =>
    let t' := -(t * sq / 2 ^ 64 / ((k : Int) * (k + 1)))
    trigSeries sq n (k + 2) t' (acc + t')

/-- Cosine and sine, at scale 2^64, of r / 2^30 of a quarter turn. -/
def quarterCosSin (r : Nat) : Int × Int :=
  let th : Nat := r * halfPi / 2 ^ 30
  let sq : Nat := th * th / 2 ^ 64
  (trigSeries sq 13 1 (2 ^ 64) (2 ^ 64), trigSeries sq 13 2 (th : Int) (th : Int))

/-- Cosine and sine, at scale 2^64, of an angle (R200). -/
def cosSin (n : Nat) : Int × Int :=
  let (c, t) := quarterCosSin (n % 2 ^ 30)
  match n / 2 ^ 30 % 4 with
  | 0 => (c, t)
  | 1 => (-t, c)
  | 2 => (-c, -t)
  | _ => (t, -c)

/-- Largest integer whose square is at most n, found bit by bit. -/
def isqrtGo (n : Nat) : Nat → Nat → Nat
  | 0, r => r
  | b + 1, r => isqrtGo n b (if (r + 2 ^ b) * (r + 2 ^ b) ≤ n then r + 2 ^ b else r)

/-- Nearest integer to the square root of n. -/
def isqrt (n : Nat) : Nat :=
  let r := isqrtGo n 40 0
  if n > r * r + r then r + 1 else r

/-- Angle of (x, y) in the first quadrant, in 2^-32 turn, by bisection. -/
def atanGo (x y : Nat) : Nat → Nat → Nat
  | 0, r => r
  | b + 1, r =>
    let (c, t) := quarterCosSin (r + 2 ^ b)
    atanGo x y b (if t * x ≤ c * y then r + 2 ^ b else r)

/-- atan2(y, x) as an angle. -/
def angleOf (x y : Int) : Nat :=
  let n := if x ≥ 0 ∧ y ≥ 0 then atanGo x.natAbs y.natAbs 30 0
    else if x < 0 ∧ y ≥ 0 then 2 ^ 30 + atanGo y.natAbs x.natAbs 30 0
    else if x < 0 ∧ y < 0 then 2 ^ 31 + atanGo x.natAbs y.natAbs 30 0
    else 3 * 2 ^ 30 + atanGo y.natAbs x.natAbs 30 0
  n % 2 ^ 32

/-- ROT (R215): (x, y) turned anticlockwise by b, each component within 2^-26. -/
def rotUnit (x y b : Word) : Word × Word × Flags :=
  let (c, t) := cosSin b.toNat
  let u := sat32 (roundDiv (sint x * c - sint y * t) (2 ^ 64) + clampI (-8) 8 (Config.rotDev 0 x y b))
  let v := sat32 (roundDiv (sint x * t + sint y * c) (2 ^ 64) + clampI (-8) 8 (Config.rotDev 1 x y b))
  (u.1, v.1, u.2.or v.2)

/-- VEC (R215): magnitude within 2^-26, angle within 2^-24 turn from magnitude 2^-20 on, below that free. -/
def vecUnit (x y : Word) : Word × Word × Flags :=
  if x = 0 ∧ y = 0 then (0, 0, domainFlag true)
  else
    let m := isqrt (sint x * sint x + sint y * sint y).natAbs
    let u := sat32 (max 0 ((m : Int) + clampI (-8) 8 (Config.vecMagDev x y)))
    let a : Int := if m ≥ 512 then angleOf (sint x) (sint y) + clampI (-256) 256 (Config.vecAngDev x y)
      else Config.vecAngDev x y
    (u.1, ofSint a, u.2)

/-- SCS (R215): cosine and sine. -/
def scsUnit (a : Word) : Word × Word :=
  let (c, t) := cosSin a.toNat
  (ofSint (roundDiv c (2 ^ 35) + clampI (-8) 8 (Config.scsDev 0 a)),
   ofSint (roundDiv t (2 ^ 35) + clampI (-8) 8 (Config.scsDev 1 a)))

/-- RCP (R215): the table's saturating and exact cases, else within a relative error of 2^-27. -/
def rcpUnit (a : Word) : Word × Flags :=
  let n := sint a
  if n = 0 then (ofSint max32, { divz := true })
  else if n = -134217728 then (ofSint min32, {})
  else if 0 < n ∧ n ≤ 134217728 then (ofSint max32, { sat := true })
  else if -134217728 < n ∧ n < 0 then (ofSint min32, { sat := true })
  else
    let e := roundDiv (2 ^ 58) n
    let d : Int := e.natAbs / 2 ^ 27
    (ofSint (clampI min32 max32 (e + clampI (-d) d (Config.rcpDev a))), {})

/-- SQRT (R215): within 2 LSB; a negative operand gives 0 and DOMAIN. -/
def sqrtUnit (a : Word) : Word × Flags :=
  if sint a < 0 then (0, domainFlag true)
  else (ofSint (clampI 0 max32 ((isqrt (a.toNat * 2 ^ 29) : Int) + clampI (-2) 2 (Config.sqrtDev a))), {})

end Sys2Proof.Machine
end

