-- ==== Sys2Proof/Machine/WhorlIsa.lean ====
section
/-! DEFINITION. The Whorl instruction set (chapter 7). An instruction row is one slot of a word: the row of slot 0 issues the
word, waiting as R208 says; the row of slot 1 acts in the same cycle. `hz` names what the word's other slot reads or writes
(registers 0 to 31, accumulators 32 to 35), since a word waits for both slots. Rows carry the decoded operation of the
execution in progress. A standby that shadows the Whorl executes each word too (R194). -/

namespace Sys2Proof.Machine
open Sys2Proof

def State.whorl (s : State) (w : Nat) : WhorlSt := SMap.get {} s.whl.w w
def State.setWhorl (s : State) (w : Nat) (x : WhorlSt) : State :=
  { s with whl := { s.whl with w := SMap.put {} s.whl.w w x } }
def State.loopSt (s : State) (w l : Nat) : LoopSt := SMap.get {} (s.whorl w).loops l
def State.setLoopSt (s : State) (w l : Nat) (x : LoopSt) : State :=
  s.setWhorl w { s.whorl w with loops := SMap.put {} (s.whorl w).loops l x }

/-- The execution whose words issue now: a TIMED one until its budget end, else the BACKGROUND one (R174, R206). -/
def State.exe (s : State) (w : Nat) : ExecSt :=
  if (s.whorl w).timed.phase = .none then (s.whorl w).bg else (s.whorl w).timed

def State.setExe (s : State) (w : Nat) (e : ExecSt) : State :=
  if (s.whorl w).timed.phase = .none then s.setWhorl w { s.whorl w with bg := e }
  else s.setWhorl w { s.whorl w with timed := e }

/-- Register Gd; G0 reads zero (R204). -/
def ExecSt.reg (e : ExecSt) (d : Nat) : Word := if d = 0 then 0 else SMap.get 0 e.g d
/-- Write Gd; a write to G0 is discarded (R204). -/
def ExecSt.setReg (e : ExecSt) (d : Nat) (v : Word) : ExecSt := if d = 0 then e else { e with g := SMap.put 0 e.g d v }
def ExecSt.acc (e : ExecSt) (a : Nat) : Int := SMap.get 0 e.a a
def ExecSt.setAcc (e : ExecSt) (a : Nat) (v : Int) : ExecSt := { e with a := SMap.put 0 e.a a v }

/-! ### Results in flight (R208, R209) -/

/-- What a flight writes, as `hz` numbers it. -/
def FlightOp.dest : FlightOp → Nat
  | .reg d _ => d
  | .flg d _ => d
  | .accAdd a _ => 32 + a
  | .accSet a _ => 32 + a
  | .accClamp a _ => 32 + a

/-- Write one result and set its flags. -/
def retireOne (e : ExecSt) (f : Flight) : ExecSt :=
  let e := { e with flags := e.flags.or f.flags }
  match f.op with
  | .reg d v => e.setReg d v
  | .flg d v => e.setReg d v
  | .accAdd a t =>
    let r := sat48 (e.acc a + t)
    { (e.setAcc a r.1) with flags := e.flags.or { sat := r.2 } }
  | .accSet a v => e.setAcc a v
  | .accClamp a m => e.setAcc a (clampI (-m) m (e.acc a))

/-- Write every result that is final in cycle c. -/
def retire (c : Nat) (e : ExecSt) : ExecSt :=
  let e' := (e.flight.filter (fun f => decide (f.due ≤ c))).foldl retireOne e
  { e' with flight := e.flight.filter (fun f => !decide (f.due ≤ c)) }

/-- A result of the word just issued, final `lat` cycles on. Within one word slot 0's value of a register is kept (the
flags of slot 1's operation stay), and two terms on one accumulator are added in one step. -/
def push (slot lat : Nat) (op : FlightOp) (fl : Flags) (e : ExecSt) : ExecSt :=
  let same := e.flight.find? (fun f => f.word == e.words && f.slot == 0 && f.op.dest == op.dest && slot == 1)
  let due := e.cyc + lat
  match same, op with
  | some f, .accAdd a t =>
    match f.op with
    | .accAdd _ u =>
      { e with flight := e.flight.map (fun g => if g = f then { g with op := .accAdd a (u + t) } else g) }
    | _ => { e with flight := e.flight ++ [⟨due, e.words, slot, op, fl⟩] }
  | some _, .reg _ _ | some _, .flg _ _ => { e with flight := e.flight ++ [⟨due, e.words, slot, .reg 0 0, fl⟩] }
  | _, _ => { e with flight := e.flight ++ [⟨due, e.words, slot, op, fl⟩] }

/-- First cycle in which what `us` names is final. -/
def finalFrom (e : ExecSt) (us : List Nat) : Nat :=
  (e.flight.filter (fun f => us.contains f.op.dest)).foldl (fun m f => max m f.due) 0

/-- The cycle in which the next word issues (R208, R220). -/
def issueCycle (e : ExecSt) (us : List Nat) : Nat :=
  max (if e.started then e.cyc + (if e.taken then 2 else 1) else 0) (finalFrom e (us.filter (· != 0)))

/-- Issue the next word in slot 0, if it can before the budget end (R172, R208). The flag says that it issued. -/
def openWord (budget : Nat) (us : List Nat) (e : ExecSt) : ExecSt × Bool :=
  let c := issueCycle e us
  if e.phase = .running ∧ e.pc < 32768 ∧ c < budget then
    ({ (retire c e) with
        cyc := c, started := true, words := e.words + 1, wpc := e.pc, slot1 := true, out0 := none, taken := false }, true)
  else ({ e with slot1 := false }, false)

/-- Where the word after the one just issued lies, with the LOOP repetition's passes (R220). -/
def advance (e : ExecSt) : ExecSt :=
  match e.rep with
  | some r =>
    if e.wpc = r.last then
      if r.left > 0 then { e with pc := r.first, rep := some { r with left := r.left - 1 } }
      else { e with pc := e.wpc + 1, rep := none }
    else { e with pc := e.wpc + 1 }
  | none => { e with pc := e.wpc + 1 }

/-- A branch: not taken it advances; taken it adds a cycle, and ends a repetition whose body it leaves (R220, R221). -/
def branch (cond : Bool) (target : Nat) (e : ExecSt) : ExecSt :=
  if cond then
    let rep := match e.rep with
      | some r => if r.first ≤ target ∧ target ≤ r.last then some r else none
      | none => none
    { e with pc := target, taken := true, rep := rep }
  else advance e

/-- The Whorl that runs in lockstep with w as its shadow (R194). -/
def shadowOf (s : State) (w : Nat) : Option Nat :=
  (List.range 8).find? (fun v => v != w && (s.whorl v).prep == .shadowing && (s.whorl v).target == w)

/-- Do f on Whorl w, and on the standby that shadows it; `o` is the Whorl whose loop registers hold, `v` the one that
executes. -/
def lockstep (w : Nat) (f : Nat → Nat → State → State) (s : State) : State :=
  match shadowOf s w with
  | some v => f w v (f w w s)
  | none => f w w s

/-! ### End of an execution (R183, R222) -/

/-- OR flags into the loop's WHL_LOOP_FLAGS; one whose EV_MASK bit is set raises EV_WHL_FLAG (144). A shadow's flags go
nowhere. -/
def orFlags (o v l : Nat) (f : Flags) (s : State) : State :=
  if o != v then s
  else
    let s := if f.sat then s.set F.WHL_LOOP_FLAGS.SAT 1 o l else s
    let s := if f.divz then s.set F.WHL_LOOP_FLAGS.DIVZ 1 o l else s
    let s := if f.domain then s.set F.WHL_LOOP_FLAGS.DOMAIN 1 o l else s
    let s := if f.tblClamp then s.set F.WHL_LOOP_FLAGS.TBL_CLAMP 1 o l else s
    if f.toNat &&& s.get F.WHL_LOOP_FLAGS.EV_MASK o l != 0 then raise 144 s else s

/-- The execution ends: results that are final are written, those still in flight are discarded with their flags. -/
def endExec (o v : Nat) (ph : ExecPhase) (s : State) : State :=
  let e := retire (s.exe v).cyc (s.exe v)
  orFlags o v e.loop e.flags (s.setExe v { e with phase := ph, flight := [] })

/-- The budget of the loop that executes. -/
def budgetOf (s : State) (o : Nat) (e : ExecSt) : Nat := s.get F.WHL_LOOP_TIME.BUDGET o e.loop

/-- A program that has passed its last code word ends as if by END (R221). -/
def endIfPast (o v : Nat) (s : State) : State :=
  let e := s.exe v
  if e.phase = .running ∧ 32768 ≤ e.pc ∧ issueCycle e [] < budgetOf s o e then
    endExec o v .ended (s.setExe v { e with cyc := issueCycle e [] })
  else s

/-- Byte key of code word i of Whorl v. -/
def codeKey (v i : Nat) : Nat := whlBase v + 8 * i

/-- One slot on Whorl v: `act` works on the state once its word has issued; a poisoned code word executes as no-operations
(R190). -/
def onSlot (slot : Fin 2) (us : List Nat) (act : State → State) (o v : Nat) (s : State) : State :=
  let e := s.exe v
  if slot.val = 0 then
    let s := endIfPast o v s
    match openWord (budgetOf s o (s.exe v)) us (s.exe v) with
    | (e, true) =>
      if s.poisoned (codeKey v e.wpc) then s.setExe v (advance { e with codeUe := true }) else act (s.setExe v e)
    | (e, false) => s.setExe v e
  else if e.slot1 then
    let s := s.setExe v { e with slot1 := false }
    if s.poisoned (codeKey v e.wpc) then s else act s
  else s

/-- Both slots' hazards. -/
def hazards (us : List Nat) (hz : List (Fin 36)) : List Nat := us ++ hz.map (·.val)

/-- One slot whose action is `act`, in lockstep with a shadow. -/
def slotRow (w : Fin 8) (slot : Fin 2) (us : List Nat) (hz : List (Fin 36)) (act : Nat → Nat → State → State) (s : State) : Res :=
  .next (lockstep w (fun o v => onSlot slot (hazards us hz) (act o v) o v) s)

/-- Act on the execution alone, then advance (slot 0 only: slot 1 never moves the program). -/
def onExe (slot : Fin 2) (f : ExecSt → ExecSt) (v : Nat) (s : State) : State :=
  let e := f (s.exe v)
  s.setExe v (if slot.val = 0 then advance e else e)

/-- A row that writes one register, `lat` cycles after it issues. -/
def regRow (w : Fin 8) (slot : Fin 2) (us : List Nat) (hz : List (Fin 36)) (d : Fin 32) (lat : Nat)
    (f : ExecSt → Word × Flags) (s : State) : Res :=
  slotRow w slot (d.val :: us) hz (fun _ v => onExe slot (fun e => push slot lat (.reg d (f e).1) (f e).2 e) v) s

/-- An illegal operation: a no-operation that marks the execution (R211). -/
def illegalAct (slot : Fin 2) (_ v : Nat) (s : State) : State := onExe slot (fun e => { e with illegal := true }) v s

/-- A row of class M, U or C: illegal in slot 1 (R207, R211). -/
def slot0Row (w : Fin 8) (slot : Fin 2) (us : List Nat) (hz : List (Fin 36)) (legal : Bool) (act : Nat → Nat → State → State)
    (s : State) : Res :=
  if slot.val = 0 && legal then slotRow w slot us hz act s else slotRow w slot [] hz (illegalAct slot) s

/-- UNIT_RESULT_RETIRE (R208, R209, R206): the pending result that is final first is written, with every result final in
the same cycle; the word that waits for it issues no earlier. -/
def execUnitResultRetire (w : Fin 8) (s : State) : Res :=
  .next (lockstep w (fun _ v s =>
    let e := s.exe v
    match e.flight with
    | [] => s
    | f :: r =>
      let c := r.foldl (fun m g => min m g.due) f.due
      s.setExe v { (retire c e) with cyc := max e.cyc (c - 1) }) s)

/-- WHL_ILLEGAL_OPERATION (R211). -/
def execWhlIllegalOperation (w : Fin 8) (slot : Fin 2) (hz : List (Fin 36)) (s : State) : Res :=
  slotRow w slot [] hz (illegalAct slot) s

/-! ### Class A (R212) -/

/-- A class A operation on two registers. -/
def aluRow (w : Fin 8) (slot : Fin 2) (d a b : Fin 32) (hz : List (Fin 36)) (f : Word → Word → Word × Flags) (s : State) : Res :=
  regRow w slot [a, b] hz d 1 (fun e => f (e.reg a) (e.reg b)) s

/-- A class A operation on one register and constants. -/
def alu1Row (w : Fin 8) (slot : Fin 2) (d a : Fin 32) (hz : List (Fin 36)) (f : Word → Word × Flags) (s : State) : Res :=
  regRow w slot [a] hz d 1 (fun e => f (e.reg a)) s

/-- NOP; with `ue`, the fetch met an uncorrectable code word, which executes as a pair of no-operations and is found as any
uncorrectable read (R190, R541). -/
def execWhlNop (w : Fin 8) (slot : Fin 2) (hz : List (Fin 36)) (ue : Bool) (s : State) : Res :=
  slotRow w slot [] hz (fun o v s =>
    let e := s.exe v
    let s := if ue && o == v then (readWord (codeKey v e.wpc) .multi s).2 else s
    onExe slot (fun e => { e with codeUe := e.codeUe || (ue && o == v) }) v s) s

def execWhlAdd (w : Fin 8) (slot : Fin 2) (d a b : Fin 32) (hz : List (Fin 36)) (s : State) : Res :=
  aluRow w slot d a b hz (fun x y => sat32 (sint x + sint y)) s
def execWhlSub (w : Fin 8) (slot : Fin 2) (d a b : Fin 32) (hz : List (Fin 36)) (s : State) : Res :=
  aluRow w slot d a b hz (fun x y => sat32 (sint x - sint y)) s
def execWhlAddw (w : Fin 8) (slot : Fin 2) (d a b : Fin 32) (hz : List (Fin 36)) (s : State) : Res :=
  aluRow w slot d a b hz (fun x y => (x + y, {})) s
def execWhlSubw (w : Fin 8) (slot : Fin 2) (d a b : Fin 32) (hz : List (Fin 36)) (s : State) : Res :=
  aluRow w slot d a b hz (fun x y => (x - y, {})) s
def execWhlNeg (w : Fin 8) (slot : Fin 2) (d a : Fin 32) (hz : List (Fin 36)) (s : State) : Res :=
  alu1Row w slot d a hz (fun x => sat32 (-(sint x))) s
def execWhlAbs (w : Fin 8) (slot : Fin 2) (d a : Fin 32) (hz : List (Fin 36)) (s : State) : Res :=
  alu1Row w slot d a hz (fun x => sat32 (sint x).natAbs) s
def execWhlMin (w : Fin 8) (slot : Fin 2) (d a b : Fin 32) (hz : List (Fin 36)) (s : State) : Res :=
  aluRow w slot d a b hz (fun x y => (if sint x ≤ sint y then x else y, {})) s
def execWhlMax (w : Fin 8) (slot : Fin 2) (d a b : Fin 32) (hz : List (Fin 36)) (s : State) : Res :=
  aluRow w slot d a b hz (fun x y => (if sint x ≤ sint y then y else x, {})) s
/-- CLMP: SAT only where the limit is −4.0. -/
def execWhlClmp (w : Fin 8) (slot : Fin 2) (d a b : Fin 32) (hz : List (Fin 36)) (s : State) : Res :=
  aluRow w slot d a b hz (fun x y =>
    let m := sat32 (sint y).natAbs
    (ofSint (min (max (sint x) (-(sint m.1))) (sint m.1)), m.2)) s
def execWhlAnd (w : Fin 8) (slot : Fin 2) (d a b : Fin 32) (hz : List (Fin 36)) (s : State) : Res :=
  aluRow w slot d a b hz (fun x y => (x &&& y, {})) s
def execWhlOr (w : Fin 8) (slot : Fin 2) (d a b : Fin 32) (hz : List (Fin 36)) (s : State) : Res :=
  aluRow w slot d a b hz (fun x y => (x ||| y, {})) s
def execWhlXor (w : Fin 8) (slot : Fin 2) (d a b : Fin 32) (hz : List (Fin 36)) (s : State) : Res :=
  aluRow w slot d a b hz (fun x y => (x ^^^ y, {})) s
def execWhlShl (w : Fin 8) (slot : Fin 2) (d a : Fin 32) (imm : BitVec 16) (hz : List (Fin 36)) (s : State) : Res :=
  alu1Row w slot d a hz (fun x => sat32 (sint x * 2 ^ (imm.toNat % 32))) s
def execWhlSar (w : Fin 8) (slot : Fin 2) (d a : Fin 32) (imm : BitVec 16) (hz : List (Fin 36)) (s : State) : Res :=
  alu1Row w slot d a hz (fun x => (x.sshiftRight (imm.toNat % 32), {})) s
def execWhlShr (w : Fin 8) (slot : Fin 2) (d a : Fin 32) (imm : BitVec 16) (hz : List (Fin 36)) (s : State) : Res :=
  alu1Row w slot d a hz (fun x => (x >>> (imm.toNat % 32), {})) s
def execWhlLih (w : Fin 8) (slot : Fin 2) (d : Fin 32) (imm : BitVec 16) (hz : List (Fin 36)) (s : State) : Res :=
  regRow w slot [] hz d 1 (fun _ => (BitVec.ofNat 32 (imm.toNat * 65536), {})) s
def execWhlLil (w : Fin 8) (slot : Fin 2) (d : Fin 32) (imm : BitVec 16) (hz : List (Fin 36)) (s : State) : Res :=
  regRow w slot [] hz d 1 (fun e => ((e.reg d &&& 0xFFFF0000) ||| BitVec.ofNat 32 imm.toNat, {})) s
def execWhlAddi (w : Fin 8) (slot : Fin 2) (d a : Fin 32) (imm : BitVec 16) (hz : List (Fin 36)) (s : State) : Res :=
  alu1Row w slot d a hz (fun x => sat32 (sint x + imm.toInt)) s
def execWhlSlt (w : Fin 8) (slot : Fin 2) (d a b : Fin 32) (hz : List (Fin 36)) (s : State) : Res :=
  aluRow w slot d a b hz (fun x y => (if sint x < sint y then 1 else 0, {})) s
def execWhlCmov (w : Fin 8) (slot : Fin 2) (d a b : Fin 32) (hz : List (Fin 36)) (s : State) : Res :=
  regRow w slot [a, b] hz d 1 (fun e => (if e.reg b ≠ 0 then e.reg a else e.reg d, {})) s
/-- FLG sees the flags of results written before its word issues (R213). -/
def execWhlFlg (w : Fin 8) (slot : Fin 2) (d : Fin 32) (hz : List (Fin 36)) (s : State) : Res :=
  slotRow w slot [d] hz (fun _ v =>
    onExe slot (fun e => push slot 1 (.flg d (BitVec.ofNat 32 e.flags.toNat)) {} e) v) s

/-! ### Class X (R214) -/

def execWhlMul (w : Fin 8) (slot : Fin 2) (d a b : Fin 32) (hz : List (Fin 36)) (s : State) : Res :=
  regRow w slot [a, b] hz d 2 (fun e => sat32 (roundDiv (sint (e.reg a) * sint (e.reg b)) (2 ^ 29))) s

/-- A product rounded to an accumulator's 2^-41 (R202). -/
def product41 (x y : Word) : Int := roundDiv (sint x * sint y) (2 ^ 17)

/-- A row that acts on one accumulator. -/
def accRow (w : Fin 8) (slot : Fin 2) (acc : Fin 4) (us : List Nat) (hz : List (Fin 36)) (f : ExecSt → FlightOp) (s : State) : Res :=
  slotRow w slot ((32 + acc.val) :: us) hz (fun _ v => onExe slot (fun e => push slot 2 (f e) {} e) v) s

def execWhlMac (w : Fin 8) (slot : Fin 2) (acc : Fin 4) (a b : Fin 32) (hz : List (Fin 36)) (s : State) : Res :=
  accRow w slot acc [a, b] hz (fun e => .accAdd acc (product41 (e.reg a) (e.reg b))) s
def execWhlMsu (w : Fin 8) (slot : Fin 2) (acc : Fin 4) (a b : Fin 32) (hz : List (Fin 36)) (s : State) : Res :=
  accRow w slot acc [a, b] hz (fun e => .accAdd acc (-(product41 (e.reg a) (e.reg b)))) s
def execWhlAld (w : Fin 8) (slot : Fin 2) (acc : Fin 4) (a : Fin 32) (hz : List (Fin 36)) (s : State) : Res :=
  accRow w slot acc [a] hz (fun e => .accSet acc (sint (e.reg a) * 4096)) s
def execWhlArd (w : Fin 8) (slot : Fin 2) (d : Fin 32) (acc : Fin 4) (hz : List (Fin 36)) (s : State) : Res :=
  regRow w slot [32 + acc.val] hz d 1 (fun e => sat32 (roundDiv (e.acc acc) 4096)) s
def execWhlAclp (w : Fin 8) (slot : Fin 2) (acc : Fin 4) (a : Fin 32) (hz : List (Fin 36)) (s : State) : Res :=
  accRow w slot acc [a] hz (fun e => .accClamp acc ((sint (e.reg a)).natAbs * 4096)) s

/-! ### Class U (R215, R216) -/

/-- A pair is named by its even register (R210). -/
def evenReg (d : Fin 32) : Bool := d.val % 2 == 0

/-- A unit row that writes a pair of registers. -/
def pairRow (w : Fin 8) (slot : Fin 2) (d : Fin 32) (us : List Nat) (legal : Bool) (hz : List (Fin 36))
    (f : ExecSt → Word × Word × Flags) (s : State) : Res :=
  slot0Row w slot (d.val :: (d.val + 1) :: us) hz (legal && evenReg d) (fun _ v =>
    onExe slot (fun e =>
      let r := f e
      push slot 12 (.reg (d.val + 1) r.2.1) {} (push slot 12 (.reg d r.1) r.2.2 e)) v) s

def execWhlRot (w : Fin 8) (slot : Fin 2) (d a b : Fin 32) (hz : List (Fin 36)) (s : State) : Res :=
  pairRow w slot d [a, a.val + 1, b] (evenReg a) hz (fun e => rotUnit (e.reg a) (e.reg (a.val + 1)) (e.reg b)) s
def execWhlVec (w : Fin 8) (slot : Fin 2) (d a : Fin 32) (hz : List (Fin 36)) (s : State) : Res :=
  pairRow w slot d [a, a.val + 1] (evenReg a) hz (fun e => vecUnit (e.reg a) (e.reg (a.val + 1))) s
def execWhlScs (w : Fin 8) (slot : Fin 2) (d a : Fin 32) (hz : List (Fin 36)) (s : State) : Res :=
  pairRow w slot d [a] true hz (fun e => ((scsUnit (e.reg a)).1, (scsUnit (e.reg a)).2, {})) s

/-- A unit row that writes one register. -/
def unitRow (w : Fin 8) (slot : Fin 2) (d a : Fin 32) (lat : Nat) (hz : List (Fin 36)) (f : Word → Word × Flags) (s : State) : Res :=
  slot0Row w slot [d, a] hz true (fun _ v =>
    onExe slot (fun e => push slot lat (.reg d (f (e.reg a)).1) (f (e.reg a)).2 e) v) s

def execWhlRcp (w : Fin 8) (slot : Fin 2) (d a : Fin 32) (hz : List (Fin 36)) (s : State) : Res :=
  unitRow w slot d a 8 hz rcpUnit s
def execWhlSqrt (w : Fin 8) (slot : Fin 2) (d a : Fin 32) (hz : List (Fin 36)) (s : State) : Res :=
  unitRow w slot d a 10 hz sqrtUnit s

/-- What an execution on Whorl v loads from a data word: zero and POISON where it is poisoned or uncorrectable (R189). -/
def loadWord (o v key : Nat) (synd : Syndrome) (s : State) : Word × State :=
  match readWord key (if o = v then synd else .clean) s with
  | (.ok, s) => (BitVec.ofNat 32 (s.load key 4), s)
  | (.bad, s) => (0, s.setExe v { s.exe v with poison := true })

/-- Byte key of word i of the table region of Whorl v. -/
def tableKey (v i : Nat) : Nat := whlBase v + 0x50000 + 4 * i

/-- Index, successor, fraction and TBL_CLAMP of a lookup (R184). -/
def tblIndex (log2n : Nat) (wrap : Bool) (u : Nat) : Nat × Nat × Nat × Bool :=
  let i := u / 2 ^ (32 - log2n)
  let f := u * 2 ^ log2n % 2 ^ 32
  if wrap then (i, (i + 1) % 2 ^ log2n, f, false)
  else if i = 2 ^ log2n - 1 then (i, i, f, true) else (i, i + 1, f, false)

/-- First word of the active bank of table t (R184). -/
def tblBank (s : State) (o t : Nat) : Nat :=
  s.get F.WHL_TBL_CFG.BASE o t + (if s.getB F.WHL_TBL_CFG.BANK o t then 2 ^ s.get F.WHL_TBL_CFG.LOG2N o t else 0)

/-- TBL (R184, R216). -/
def tblAct (slot : Fin 2) (d a : Fin 32) (t : Nat) (synd : Syndrome) (o v : Nat) (s : State) : State :=
  let e := s.exe v
  if s.getB F.WHL_TBL_CFG.EN o t && s.bit F.WHL_LOOP_COEF.TBL_MASK t o e.loop then
    let (i, j, f, cl) := tblIndex (s.get F.WHL_TBL_CFG.LOG2N o t) (s.getB F.WHL_TBL_CFG.WRAP o t) (e.reg a).toNat
    let base := tblBank s o t
    let (x, s1) := loadWord o v (tableKey v (base + i)) synd s
    let (y, s2) := loadWord o v (tableKey v (base + j)) .clean s1
    let r := sat32 (sint x + roundDiv ((sint y - sint x) * f) (2 ^ 32))
    let bad := (s2.exe v).poison && !e.poison
    onExe slot (fun e => push slot 6 (.reg d (if bad then 0 else r.1))
      (if bad then { tblClamp := cl } else r.2.or { tblClamp := cl }) e) v s2
  else onExe slot (fun e => push slot 6 (.reg d 0) (domainFlag true) e) v s

def execWhlTbl (w : Fin 8) (slot : Fin 2) (d a : Fin 32) (t : Fin 16) (synd : Syndrome) (hz : List (Fin 36)) (s : State) : Res :=
  slot0Row w slot [d, a] hz true (tblAct slot d a t synd) s

/-! ### Classes P and M (R217 to R219) -/

/-- Port p lies in the n-port range from b. -/
def inRange (p b nM1 : Nat) : Bool := decide (b ≤ p ∧ p ≤ b + nM1)

def inPort (s : State) (o l p : Nat) : Bool := inRange p (s.get F.WHL_LOOP_IO.IN_BASE o l) (s.get F.WHL_LOOP_IO.IN_N_M1 o l)
def outPort (s : State) (o l p : Nat) : Bool := inRange p (s.get F.WHL_LOOP_IO.OUT_BASE o l) (s.get F.WHL_LOOP_IO.OUT_N_M1 o l)

/-- IN: the port as latched at the execution's start; outside the loop's range 0 and DOMAIN (R219). -/
def execWhlIn (w : Fin 8) (slot : Fin 2) (d : Fin 32) (p : Fin 64) (hz : List (Fin 36)) (s : State) : Res :=
  slotRow w slot [d] hz (fun o v s =>
    let ok := inPort s o (s.exe v).loop p
    onExe slot (fun e => push slot 1 (.reg d (if ok then SMap.get 0 e.inputs p.val else 0)) (domainFlag !ok) e) v s) s

/-- A flag set without a result: it counts from the next cycle on, or at once in the word that ends the execution. -/
def setFlagNow (slot : Fin 2) (o v : Nat) (f : Flags) (s : State) : State :=
  let e := s.exe v
  if e.phase = .running then s.setExe v (push slot 1 (.reg 0 0) f e)
  else orFlags o v e.loop f s

/-- OUT: the port register takes the value as the word issues; outside the loop's range it is discarded with DOMAIN; in one
word slot 0's value is kept (R209, R219). -/
def execWhlOut (w : Fin 8) (slot : Fin 2) (p : Fin 64) (src : Fin 32) (hz : List (Fin 36)) (s : State) : Res :=
  slotRow w slot [src] hz (fun o v s =>
    let e := s.exe v
    let s := if outPort s o e.loop p then
        if slot.val = 1 && e.out0 == some p.val then s
        else
          let x := s.whorl v
          let s := s.setWhorl v { x with outs := SMap.put 0 x.outs p.val (e.reg src) }
          if slot.val = 0 then s.setExe v { s.exe v with out0 := some p.val } else s
      else setFlagNow slot o v (domainFlag true) s
    onExe slot id v s) s

/-- FRSH: bit i is the latched FRESH bit of port IN_BASE + 32h + i, 0 outside the loop's range (R217). -/
def execWhlFrsh (w : Fin 8) (slot : Fin 2) (d : Fin 32) (h : Fin 2) (hz : List (Fin 36)) (s : State) : Res :=
  slotRow w slot [d] hz (fun o v s =>
    let l := (s.exe v).loop
    let base := s.get F.WHL_LOOP_IO.IN_BASE o l + 32 * h.val
    onExe slot (fun e =>
      let v := (List.range 32).foldl (fun n i =>
        if inPort s o l (base + i) && e.fresh.testBit (base + i) then n + 2 ^ i else n) 0
      push slot 1 (.reg d (BitVec.ofNat 32 v)) {} e) v s) s

/-- EA of a load or store (R218). -/
def effAddr (a : Word) (off : BitVec 16) : Nat := (a.toNat % 262144 + off.toNat) % 262144

/-- Word n of the table region lies in a bank of an enabled table the loop owns (R218). -/
def ownedTableWord (s : State) (o l n : Nat) : Bool :=
  (List.range 16).any (fun t =>
    s.getB F.WHL_TBL_CFG.EN o t && s.bit F.WHL_LOOP_COEF.TBL_MASK t o l &&
      inRange n (s.get F.WHL_TBL_CFG.BASE o t) (2 * 2 ^ s.get F.WHL_TBL_CFG.LOG2N o t - 1))

/-- Coefficient word n lies in a block the loop owns. -/
def ownedCoef (s : State) (o l n : Nat) : Bool :=
  decide (s.get F.WHL_LOOP_COEF.COEF_FIRST o l ≤ n / 64 ∧ n / 64 ≤ s.get F.WHL_LOOP_COEF.COEF_LAST o l)

/-- What a load at EA may read (R218). -/
def loadAllowed (s : State) (o l ea : Nat) : Bool :=
  if ea < 0x10000 then false
  else if ea < 0x14000 then ownedCoef s o l (ea - 0x10000)
  else if ea < 0x30000 then ownedTableWord s o l (ea - 0x14000)
  else decide (ea < 0x3C000)

/-- LD (R218). -/
def execWhlLd (w : Fin 8) (slot : Fin 2) (d a : Fin 32) (off : BitVec 16) (synd : Syndrome) (hz : List (Fin 36)) (s : State) : Res :=
  slot0Row w slot [d, a] hz true (fun o v s =>
    let e := s.exe v
    let ea := effAddr (e.reg a) off
    if loadAllowed s o e.loop ea then
      let (x, s) := loadWord o v (whlBase v + 4 * ea) synd s
      onExe slot (push slot 2 (.reg d x) {}) v s
    else onExe slot (push slot 2 (.reg d 0) (domainFlag true)) v s) s

/-- ST: only to the state and scratch regions; it clears poison (R218). -/
def execWhlSt (w : Fin 8) (slot : Fin 2) (src a : Fin 32) (off : BitVec 16) (hz : List (Fin 36)) (s : State) : Res :=
  slot0Row w slot [src, a] hz true (fun o v s =>
    let e := s.exe v
    let ea := effAddr (e.reg a) off
    let s := if 0x30000 ≤ ea ∧ ea < 0x3C000 then
        (cleanWord (whlBase v + 4 * ea) s).store (whlBase v + 4 * ea) 4 (e.reg src).toNat
      else setFlagNow slot o v (domainFlag true) s
    onExe slot id v s) s

/-! ### Class C (R220 to R222) -/

/-- A conditional branch on a register. -/
def branchRow (w : Fin 8) (slot : Fin 2) (a : Fin 32) (target : BitVec 15) (hz : List (Fin 36)) (cond : Word → Bool) (s : State) : Res :=
  slot0Row w slot [a] hz true (fun _ v s => s.setExe v (branch (cond ((s.exe v).reg a)) target.toNat (s.exe v))) s

def execWhlBz (w : Fin 8) (slot : Fin 2) (a : Fin 32) (target : BitVec 15) (hz : List (Fin 36)) (s : State) : Res :=
  branchRow w slot a target hz (fun x => x == 0) s
def execWhlBnz (w : Fin 8) (slot : Fin 2) (a : Fin 32) (target : BitVec 15) (hz : List (Fin 36)) (s : State) : Res :=
  branchRow w slot a target hz (fun x => x != 0) s
def execWhlBltz (w : Fin 8) (slot : Fin 2) (a : Fin 32) (target : BitVec 15) (hz : List (Fin 36)) (s : State) : Res :=
  branchRow w slot a target hz (fun x => decide (sint x < 0)) s
def execWhlBgez (w : Fin 8) (slot : Fin 2) (a : Fin 32) (target : BitVec 15) (hz : List (Fin 36)) (s : State) : Res :=
  branchRow w slot a target hz (fun x => decide (0 ≤ sint x)) s
def execWhlJmp (w : Fin 8) (slot : Fin 2) (target : BitVec 15) (hz : List (Fin 36)) (s : State) : Res :=
  slot0Row w slot [] hz true (fun _ v s => s.setExe v (branch true target.toNat (s.exe v))) s

/-- LOOP: `n` is COUNT−1; while a repetition is active it is a no-operation (R220, R221). -/
def execWhlLoop (w : Fin 8) (slot : Fin 2) (n : Fin 256) (last : BitVec 15) (hz : List (Fin 36)) (s : State) : Res :=
  slot0Row w slot [] hz true (fun _ v =>
    onExe slot (fun e => match e.rep with
      | some _ => e
      | none => { e with rep := some ⟨e.wpc + 1, last.toNat, n.val⟩ }) v) s

def execWhlSafe (w : Fin 8) (slot : Fin 2) (hz : List (Fin 36)) (s : State) : Res :=
  slot0Row w slot [] hz true (fun o v => endExec o v .safe) s
def execWhlEnd (w : Fin 8) (slot : Fin 2) (hz : List (Fin 36)) (s : State) : Res :=
  slot0Row w slot [] hz true (fun o v => endExec o v .ended) s

end Sys2Proof.Machine
end

