-- ==== Sys2Proof/Machine/Cnv.lean ====
section
/-! DEFINITION. The converter block (chapter 12): compare values from a loop's commands, current balancing, soft start and
stop, hiccup, the nonlinear response, phase shedding, fast stop, telemetry, ash records. -/

namespace Sys2Proof.Machine
open Sys2Proof

def State.chan (s : State) (c : Nat) : ChSt := SMap.get {} s.cnv.ch c
def State.setChan (s : State) (c : Nat) (x : ChSt) : State := { s with cnv := { s.cnv with ch := SMap.put {} s.cnv.ch c x } }

/-- STATE: 0 OFF, 1 START, 2 RUN, 3 STOPPING, 4 HICCUP, 5 LATCHED, 6 TRIPPED. -/
def State.chState (s : State) (c : Nat) : Nat := s.get F.CNV_CH_STAT.STATE c

/-- Number of legs, and the legs of a channel. -/
def nLegs (s : State) (c : Nat) : Nat := min (s.get F.CNV_CH_CFG.N_LEG_M1 c) 5 + 1
def chLegs (s : State) (c : Nat) : List Nat := (List.range (nLegs s c)).map (fun j => (s.get F.CNV_CH_CFG.FIRST_LEG c + j) % 32)

/-- A channel that is in use: KIND 3 holds it OFF. -/
def chUsed (s : State) (c : Nat) : Bool := s.pdReady 5 && s.get F.CNV_CH_CFG.KIND c != 3

/-- The channel that drives leg l while it is not OFF, and whether that leg is placed at the valley (R350). -/
def chanOfLeg (s : State) (l : Nat) : Option Nat :=
  (List.range 3).find? (fun c => s.pdReady 5 && s.chState c != 0 && (chLegs s c).contains l)
def placed (s : State) (c l : Nat) : Bool := s.bit F.CNV_CH_CFG.PLACE (l - s.get F.CNV_CH_CFG.FIRST_LEG c) c
def legPlaced (s : State) (l : Nat) : Bool :=
  match chanOfLeg s l with
  | some c => placed s c l
  | none => false

/-- Hold or release a leg (R349). -/
def holdLeg (h : Bool) (l : Nat) (s : State) : State :=
  enforceLeg l (showOffReq l (s.setLeg l { s.leg l with cnvHold := h, cnvFree := false }))

def holdLegs (c : Nat) (s : State) : State := (chLegs s c).foldl (fun s l => holdLeg true l s) s

/-- A change of STATE raises EV_CNV_STATE (160). -/
def chGoto (c st : Nat) (s : State) : State :=
  if s.chState c = st then s else raise 160 (s.set F.CNV_CH_STAT.STATE st c)

/-- Body of a channel's ash record (R370); CODE is the code it is written for. -/
def cnvAshBody (s : State) (c code : Nat) : List Byte :=
  let x := s.chan c
  let w (n : Nat) := toBytes 4 n
  let ws (l : List Word) (n : Nat) := ((l ++ List.replicate n 0).take n).flatMap (fun (v : Word) => w v.toNat)
  let trim (j : Nat) := toBytes 2 (unsigned 16 (clampI (-32768) 32767 (roundDiv (SMap.get 0 x.trims j) (2 ^ 30))))
  w (c * 2 ^ 24 + s.chState c * 2 ^ 21 + s.get F.CNV_CH_STAT.ACTIVE c * 256 + s.get F.CNV_CH_STAT.RETRIES c * 16 +
      s.get F.CNV_CH_STAT.STOP_CAUSE c) ++
    w (code * 65536 + min x.periods 65535) ++ ws x.lastMeas 4 ++ ws x.lastCmd 4 ++ (List.range 6).flatMap trim ++
    ws (x.lastCmd.drop 4) 1 ++ (List.replicate (32 - x.hist.length) 0 ++ x.hist).flatMap w ++
    [2, 3].flatMap (fun i => w (s.rd (F.CNV_TEL_PK.MAX.addr c i 0)).toNat) ++
    [0, 1, 2, 3].flatMap (fun i => w (s.get F.CNV_TEL_MEAN.MEAN c i 2)) ++
    [0, 1, 2, 3].flatMap (fun i => w (s.get F.CNV_TEL_MEAN.MEAN c i 0))

def cnvAsh (c code cls : Nat) (s : State) : State := ashPush (4 + c) code cls (cnvAshBody s c code) s

/-- Classes of a channel's codes. -/
def chFaultClass (s : State) (c : Nat) : Nat := clsOf (s.get F.CNV_CH_CFG.FAULT_CLASS c)

/-- The channel is running in one way or another: START, RUN, STOPPING or HICCUP. -/
def chActive (s : State) (c : Nat) : Bool := decide (1 ≤ s.chState c ∧ s.chState c ≤ 4)

/-- End what a channel does besides its STATE: shed ramp, firing, overshoot hold, pre-bias, draining. -/
def chQuiet (c : Nat) (s : State) : State :=
  let s := s.setChan c { s.chan c with waitRamp := false, shedN := 0, leaving := [], limitedNow := false, stopAtValley := false }
  let s := (s.set F.CNV_CH_STAT.SHEDDING 0 c).set F.CNV_CH_STAT.NL_UNDER 0 c
  let s := ((s.set F.CNV_CH_STAT.NL_OVER 0 c).set F.CNV_CH_CFG.DRAINING 0 c).set F.CNV_CH_STAT.LIMITED 0 c
  (chLegs s c).foldl (fun s l => s.setLeg l { s.leg l with nlFire := none, only := none, nlOver := 0 }) s

/-- Stop at once: the legs are held and the channel goes to `st` with a STOP_CAUSE. -/
def chStop (c st cause : Nat) (s : State) : State :=
  chGoto c st ((chQuiet c (holdLegs c s)).set F.CNV_CH_STAT.STOP_CAUSE cause c)

/-- A protection set leaves RUN: every channel with a leg of it is TRIPPED, 0x0C04, REPORT (R366). -/
def cnvTripSet (p : Nat) (s : State) : State :=
  (List.range 3).foldl (fun s c =>
    if chUsed s c && chActive s c && (chLegs s c).any (fun l => s.get F.PWM_LEG_CFG.PSET l == p) then
      let s := cnvAsh c 0x0C04 0 (s.set F.CNV_CH_STAT.STOP_CAUSE 5 c)
      issueFor (.cnvCh c) 0x0C04 0 (chStop c 6 5 s)
    else s) s

/-! ### Hiccup (R358, R359) -/

/-- HICCUP_ENTRY: the legs are held; LATCHED with 0x0C03 once RETRIES has reached HICCUP_MAX, else HICCUP, whose first entry
after a start issues 0x0C02. -/
def hiccupEntry (c : Nat) (s : State) : State :=
  let mx := s.get F.CNV_CH_HIC.HICCUP_MAX c
  if mx != 0 && decide (s.get F.CNV_CH_STAT.RETRIES c ≥ mx) then
    let cls := clsOf (s.get F.CNV_CH_CFG.LATCH_CLASS c)
    let s := cnvAsh c 0x0C03 cls (s.set F.CNV_CH_STAT.STOP_CAUSE 4 c)
    raise 163 (issueFor (.cnvCh c) 0x0C03 cls (chStop c 5 4 s))
  else
    let first := !(s.chan c).hiccuped
    let s := if first then issueFor (.cnvCh c) 0x0C02 0 (cnvAsh c 0x0C02 0 (s.set F.CNV_CH_STAT.STOP_CAUSE 3 c)) else s
    let s := raise 161 (chStop c 4 3 s)
    s.setChan c { s.chan c with hiccuped := true }

/-- A CYCLE limit has acted on a leg: its channel's present period is limited. -/
def markLimited (l : Nat) (s : State) : State :=
  match chanOfLeg s l with
  | some c => s.setChan c { s.chan c with limitedNow := true }
  | none => s

/-- The generator of a channel's first leg. -/
def firstCg (s : State) (c : Nat) : Nat := s.get F.PWM_LEG_CFG.CG (s.get F.CNV_CH_CFG.FIRST_LEG c)

/-- The channels' part of a valley of generator g: a stop that waits for it takes hold (R365); the run of limited periods
goes on or ends, and may end in hiccup (R358); a firing may come again (R361). -/
def cnvPeriod (g : Nat) (s : State) : State :=
  (List.range 3).foldl (fun s c =>
    if chUsed s c && firstCg s c == g then
      let x := s.chan c
      let s := if x.stopAtValley then holdLegs c (s.setChan c { x with stopAtValley := false }) else s
      let s := s.setChan c { s.chan c with
        limitedNow := false, periods := (s.chan c).periods + 1, nlBlocked := (s.chan c).nlBlocked && !x.nlReleased }
      let n := if x.limitedNow then min (s.get F.CNV_CH_STAT.LIMITED c + 1) 255 else 0
      let s := s.set F.CNV_CH_STAT.LIMITED n c
      if (s.chState c = 1 ∨ s.chState c = 2) ∧ n ≥ max (s.get F.CNV_CH_HIC.HICCUP_N c) 1 then hiccupEntry c s else s
    else s) s

/-! ### Nonlinear response and fast stop (R360, R361, R364, R365) -/

/-- All of a channel's legs, as ACTIVE shows them. -/
def allActive (s : State) (c : Nat) : Nat := 2 ^ nLegs s c - 1

/-- NL_UNDER_FIRE: every leg's commanded switch turns on; a shed in progress is aborted. -/
def nlFire (c : Nat) (s : State) : State :=
  let shedding := s.getB F.CNV_CH_STAT.SHEDDING c
  let s := s.setChan c { s.chan c with nlBlocked := true, nlReleased := false, shedN := 0, leaving := [] }
  let s := (s.set F.CNV_CH_STAT.NL_UNDER 1 c).set F.CNV_CH_STAT.SHED_LOCK 1 c
  let s := (s.set F.CNV_CH_STAT.SHEDDING 0 c).set F.CNV_CH_STAT.ACTIVE (allActive s c) c
  let s := (chLegs s c).foldl (fun s l =>
    let x := s.leg l
    enforceLeg l (showOffReq l (s.setLeg l { x with cnvHold := false, cnvFree := false, nlFire := some (!placed s c l) }))) s
  let s := if shedding then raise 166 s else s
  raise 164 s

/-- A firing ends: the fired switches turn off and follow their compare values from the next carrier event. -/
def nlEnd (c : Nat) (s : State) : State :=
  let s := s.set F.CNV_CH_STAT.NL_UNDER 0 c
  (chLegs s c).foldl (fun s l =>
    let x := s.leg l
    if x.nlFire.isSome then enforceLeg l (s.setLeg l { x with nlFire := none, waitCarrier := true }) else s) s

/-- FAST_STOP: OFF, the legs held from the next valley of the first generator, EV_CNV_FAST_STOP (168). -/
def fastStop (c : Nat) (s : State) : State :=
  let s := chQuiet c s
  let s := s.setChan c { s.chan c with stopAtValley := true }
  raise 168 (chGoto c 0 (s.set F.CNV_CH_STAT.STOP_CAUSE 9 c))

/-- A REPORT comparator of a channel crosses a threshold (R360, R365). -/
def cnvComparator (ch : Nat) (above : Bool) (s : State) : State :=
  (List.range 3).foldl (fun s c =>
    if !chUsed s c then s
    else
      let nl := s.get F.CNV_CH_NL.NL_CH c == ch
      let st := s.chState c
      let s := if nl && above && s.getB F.CNV_CH_NL.OVER_EN c && decide (1 ≤ st ∧ st ≤ 3) then
          (chLegs s c).foldl (fun s l => enforceLeg l (showOffReq l (s.setLeg l { s.leg l with nlOver := 1 })))
            (s.set F.CNV_CH_STAT.NL_OVER 1 c)
        else s
      let s := if nl && !above && s.getB F.CNV_CH_NL.UNDER_EN c && st == 2 && !s.getB F.CNV_CH_CFG.DIR c &&
          !(s.chan c).nlBlocked then nlFire c s else s
      if s.get F.CNV_CH_FAST.FAST_CH c == ch && s.getB F.CNV_CH_FAST.FAST_EN c &&
          s.getB F.CNV_CH_FAST.FAST_DIR c != above && chActive s c then
        let s := cnvAsh c 0x0C08 0 (s.set F.CNV_CH_STAT.STOP_CAUSE 9 c)
        issueFor (.cnvCh c) 0x0C08 0 (fastStop c s)
      else s) s

/-- The comparator of a channel is back inside its window (R360, R361). -/
def cnvRelease (ch : Nat) (s : State) : State :=
  (List.range 3).foldl (fun s c =>
    if chUsed s c && s.get F.CNV_CH_NL.NL_CH c == ch then
      let s := if s.getB F.CNV_CH_STAT.NL_UNDER c then nlEnd c s else s
      let s := s.setChan c { s.chan c with nlReleased := true }
      (chLegs s c).foldl (fun s l =>
        if (s.leg l).nlOver = 1 then s.setLeg l { s.leg l with nlOver := 2 } else s) (s.set F.CNV_CH_STAT.NL_OVER 0 c)
    else s) s

/-- NL_MAX_TIMEOUT (R360). -/
def execNlMaxTimeout (ch : Fin 3) (s : State) : Res :=
  .next (if s.getB F.CNV_CH_STAT.NL_UNDER ch then nlEnd ch s else s)

/-! ### From commands to compare values (R347 to R353, R362, R363) -/

/-- Half period of a leg's generator, in 50 ps. -/
def halfOf (s : State) (l : Nat) : Nat :=
  let g := s.get F.PWM_LEG_CFG.CG l
  (if (s.cg g).running then (s.cg g).per else nextPer s g) / 2

/-- Write a leg's compare shadows; where its generator transfers in the same cycle, that event uses the former ones (R14). -/
def writeCmp (late : List (Fin 12)) (l : Nat) (a b : Int) (s : State) : State :=
  let s := if late.any (fun g => g.val == s.get F.PWM_LEG_CFG.CG l) && (s.leg l).late.isNone then
      s.setLeg l { s.leg l with late := some (s.getI F.PWM_LEG_CMP.CMP_A l, s.getI F.PWM_LEG_CMPB.CMP_B l) }
    else s
  (s.setI F.PWM_LEG_CMP.CMP_A a l).setI F.PWM_LEG_CMPB.CMP_B b l

/-- A leg's current in the channel, Q2.29: input port PH_PORT + j of the source Whorl. -/
def phCurrent (s : State) (c j : Nat) : Int :=
  s.getI F.WHL_INP.VALUE (s.get F.CNV_CH_SRC.SRC_WHORL c) ((s.get F.CNV_CH_SRC.PH_PORT c + j) % 64)

/-- A port's FRESH bit. -/
def portFresh (s : State) (w p : Nat) : Bool := s.bit F.WHL_FRESH.FRESH (p % 32) w (p / 32 % 2)

/-- Measurement i of a channel: V_IN, I_IN, V_OUT, I_OUT. -/
def measure (s : State) (c i : Nat) : Word :=
  s.rd (F.WHL_INP.VALUE.addr (s.get F.CNV_CH_SRC.SRC_WHORL c) ((s.get F.CNV_CH_SRC.MEAS_PORT c + i) % 64) 0)

/-- Balance groups of a channel, as leg indices (R353). -/
def groups (s : State) (c : Nat) : List (List Nat) :=
  let act := (List.range (nLegs s c)).filter (fun j => s.bit F.CNV_CH_STAT.ACTIVE j c)
  match s.get F.CNV_CH_CFG.KIND c with
  | 0 => if nLegs s c ≤ 3 then act.map (fun j => [j])
         else [[0, 1], [2, 3], [4, 5]].map (fun g => g.filter act.contains)
  | 2 => [act]
  | _ => []

/-- Trims of one group, in 2^-45 duty (R353); the flag says that a trim reached TRIM_MAX. -/
def trimGroup (s : State) (c : Nat) (g : List Nat) (t : SMap Int) : SMap Int × Bool :=
  if g.isEmpty then (t, false)
  else
    let mx : Int := s.get F.CNV_CH_TRIM.TRIM_MAX c * 2 ^ 36
    let mean := roundDiv (g.map (phCurrent s c)).sum g.length
    let raw := g.map (fun j => (j, SMap.get 0 t j + (mean - phCurrent s c j) * (s.get F.CNV_CH_TRIM.KB c : Int)))
    let cl := raw.map (fun e => (e.1, clampI (-mx) mx e.2))
    let m := roundDiv (cl.map (·.2)).sum g.length
    (cl.foldl (fun t e => SMap.put 0 t e.1 (e.2 - m)) t, raw.any (fun e => decide (e.2 ≤ -mx ∨ mx ≤ e.2)))

/-- Balancing at a copy (R353). -/
def balance (c : Nat) (s : State) : State :=
  let w := s.get F.CNV_CH_SRC.SRC_WHORL c
  if s.getB F.CNV_CH_TRIM.TRIM_EN c &&
      (List.range (nLegs s c)).all (fun j => portFresh s w ((s.get F.CNV_CH_SRC.PH_PORT c + j) % 64)) then
    let (t, hit) := (groups s c).foldl (fun a g => let r := trimGroup s c g a.1; (r.1, a.2 || r.2)) ((s.chan c).trims, false)
    let s := s.setChan c { s.chan c with trims := t }
    if hit && !(s.chan c).trimSaid then
      raise 169 (issueFor (.cnvCh c) 0x0C09 0 (s.setChan c { s.chan c with trimSaid := true }))
    else s
  else s

/-- SHED_RAMP in periods. -/
def shedRamp (s : State) (c : Nat) : Nat := s.get F.CNV_CH_SHDT.SHED_RAMP c + 1

/-- c of leg index j for duty d (Q2.29): trimmed, scaled while it leaves, rounded, clamped (R350, R353, R362). -/
def legC (s : State) (c j : Nat) (d : Int) (h : Nat) : Int :=
  let x := s.chan c
  let v := d * 65536 + SMap.get 0 x.trims j
  let r := shedRamp s c
  clampI 0 h (if x.leaving.contains j then roundDiv (v * ((r : Int) - min x.shedN r) * h) (r * 2 ^ 45)
    else roundDiv (v * h) (2 ^ 45))

/-- Compare values of leg index j of a channel from its commands (R350, R352). -/
def legCompare (s : State) (c j : Nat) (cmds : List Word) : Int × Int :=
  let l := (s.get F.CNV_CH_CFG.FIRST_LEG c + j) % 32
  let h := halfOf s l
  let cmd (i : Nat) : Int := sint (cmds.getD i 0)
  let put (v : Int) : Int × Int := if placed s c l then ((h : Int) - v, (h : Int) - v) else (v, v)
  match s.get F.CNV_CH_CFG.KIND c with
  | 0 => put (legC s c j (cmd (if nLegs s c ≤ 3 then j else j / 2)) h)
  | 1 =>
    let sh := roundDiv (cmd 0 * h) (2 ^ 29)
    if j < 2 then put ((h / 2 : Nat) : Int) else (((h / 2 : Nat) : Int) - sh, ((h / 2 : Nat) : Int) + sh)
  | _ => put (legC s c j (cmd 0) h)

/-- Threshold of level 1 or 2 exceeded by I_OUT (1/256 per unit): restore (R363). -/
def aboveThr (s : State) (c thr : Nat) : Bool := decide (sint (measure s c 3) > (thr * 2 ^ 21 : Nat))

/-- Restore legs at a copy whose I_OUT is above ADD_THR (R363). -/
def restoreLegs (c : Nat) (s : State) : State :=
  let act := s.get F.CNV_CH_STAT.ACTIVE c
  let full := allActive s c
  let back :=
    if aboveThr s c (s.get F.CNV_CH_SHED.ADD_THR1 c) then full
    else if s.get F.CNV_CH_CFG.KIND c == 2 && decide (nLegs s c ≥ 3) && act == 1 && aboveThr s c (s.get F.CNV_CH_SHED.ADD_THR2 c) then 5
    else if s.get F.CNV_CH_CFG.KIND c == 2 && decide (nLegs s c ≤ 2) && aboveThr s c (s.get F.CNV_CH_SHED.ADD_THR2 c) then full
    else act
  -- a ramp of level 2 ends above ADD_THR2 as well
  let lvl2 := s.get F.CNV_CH_CFG.KIND c == 2 && (decide (nLegs s c ≤ 2) || act != full)
  let s := if back != act || (s.getB F.CNV_CH_STAT.SHEDDING c &&
      (aboveThr s c (s.get F.CNV_CH_SHED.ADD_THR1 c) || (lvl2 && aboveThr s c (s.get F.CNV_CH_SHED.ADD_THR2 c)))) then
      (s.setChan c { s.chan c with shedN := 0, leaving := [] }).set F.CNV_CH_STAT.SHEDDING 0 c
    else s
  let s := (List.range (nLegs s c)).foldl (fun s j =>
    let l := (s.get F.CNV_CH_CFG.FIRST_LEG c + j) % 32
    if back.testBit j && !act.testBit j then s.setLeg l { s.leg l with cnvFree := true } else s) s
  s.set F.CNV_CH_STAT.ACTIVE back c

/-- One copy of a shed ramp; after the last, the leaving legs are held (R362). -/
def shedCopy (c : Nat) (s : State) : State :=
  let x := s.chan c
  if !s.getB F.CNV_CH_STAT.SHEDDING c then s
  else if x.shedN ≥ shedRamp s c then
    let s := x.leaving.foldl (fun s j =>
      (holdLeg true ((s.get F.CNV_CH_CFG.FIRST_LEG c + j) % 32) s).setBit F.CNV_CH_STAT.ACTIVE j false c) s
    raise 165 ((s.setChan c { s.chan c with shedN := 0, leaving := [] }).set F.CNV_CH_STAT.SHEDDING 0 c)
  else s

/-- Telemetry sums and peaks at a copy (R369). -/
def telCopy (c : Nat) (s : State) : State :=
  let s := [0, 1, 2, 3].foldl (fun s i =>
    let v := sint (measure s c i)
    let q := clampI (-32768) 32767 (roundDiv v 65536)
    let s := if q > s.getI F.CNV_TEL_PK.MAX c i then s.setI F.CNV_TEL_PK.MAX q c i else s
    let s := if q < s.getI F.CNV_TEL_PK.MIN c i then s.setI F.CNV_TEL_PK.MIN q c i else s
    let x := s.chan c
    s.setChan c { x with telSum := [0, 1, 2].foldl (fun m w => SMap.put 0 m (4 * w + i) (SMap.get 0 m (4 * w + i) + v)) x.telSum }) s
  let x := s.chan c
  s.setChan c { x with telCnt := [0, 1, 2].foldl (fun m w => SMap.put 0 m w (SMap.get 0 m w + 1)) x.telCnt }

/-- A copy of the source loop's commands to channel c: `safe` says that it is a safe output with ZERO or OFF, or that the loop
is stopped. -/
def cnvCopy (c : Nat) (cmds : List Word) (safe : Bool) (late : List (Fin 12)) (s : State) : State :=
  if !chUsed s c then s
  else
    let meas := [0, 1, 2, 3].map (measure s c)
    let pack (v : Word) : Nat := unsigned 16 (clampI (-32768) 32767 (roundDiv (sint v) 65536))
    let x := s.chan c
    let st4 := (cmds.getD 4 0).toNat
    let ramp := st4 / 16 % 16
    let h := (x.hist ++ [pack (measure s c 2) * 65536 + pack (measure s c 3)])
    let s := s.setChan c { x with lastCmd := cmds, lastMeas := meas, lastRamp := ramp, hist := h.drop (h.length - 32) }
    let s := telCopy c s
    if safe then
      if chActive s c then
        let s := cnvAsh c 0x0C05 (chFaultClass s c) (s.set F.CNV_CH_STAT.STOP_CAUSE 6 c)
        issueFor (.cnvCh c) 0x0C05 (chFaultClass s c) (chStop c 0 6 s)
      else s
    else
      -- the ramp origin releases the legs (R354, R356)
      let s := if s.chState c == 1 && x.waitRamp && ramp != x.baseRamp then
          let s := s.setChan c { s.chan c with waitRamp := false, periods := 0 }
          (chLegs s c).foldl (fun s l =>
            let y := s.leg l
            holdLeg false l (s.setLeg l { y with
              only := if s.getB F.CNV_CH_CFG.PREBIAS c then some (!placed s c l) else none })) s
        else s
      let s := if s.chState c == 1 && !(s.chan c).waitRamp && st4 % 2 == 0 then chGoto c 2 s else s
      let s := if s.chState c == 3 && st4 / 4 % 2 == 1 then raise 167 (chStop c 0 (s.get F.CNV_CH_STAT.STOP_CAUSE c) s) else s
      let s := if s.chState c == 2 then restoreLegs c s else s
      let s := if s.getB F.CNV_CH_STAT.SHEDDING c then s.setChan c { s.chan c with shedN := (s.chan c).shedN + 1 } else s
      let s := balance c s
      let s := (List.range (nLegs s c)).foldl (fun s j =>
        let v := legCompare s c j cmds
        writeCmp late ((s.get F.CNV_CH_CFG.FIRST_LEG c + j) % 32) v.1 v.2 s) s
      shedCopy c s

/-- The Whorl and first port a channel takes its commands from (R347, R367). -/
def cmdSource (s : State) (c : Nat) : Nat × Nat :=
  if s.getB F.MODE_STAT.V2L && s.getB F.CNV_CH_SRC.V2L_EN c && decide (c < 2) then
    (s.get F.CNV_CH_SRC.V2L_WHORL c, s.get F.CNV_CH_SRC.V2L_CMD_PORT c)
  else (s.get F.CNV_CH_SRC.SRC_WHORL c, s.get F.CNV_CH_SRC.CMD_PORT c)

/-! ### Rows -/

/-- A channel that enters START while its output is above THR_HI holds its legs for as long (R360). -/
def nlLevel (c : Nat) (s : State) : State :=
  let k := s.get F.CNV_CH_NL.NL_CH c
  if s.getB F.CNV_CH_NL.OVER_EN c && s.getB F.GIF_COMP_CFG.EN k && decide (2 ≤ s.get F.GIF_COMP_CFG.ACTION k) &&
      (s.compar k).out == 1 then
    (chLegs s c).foldl (fun s l => showOffReq l (s.setLeg l { s.leg l with nlOver := 1 })) (s.set F.CNV_CH_STAT.NL_OVER 1 c)
  else s

/-- CNV_CHANNEL_START (R354, R357): from OFF to START with the legs held; ignored with EN_IGN while DRAINING. -/
def chStart (c : Nat) (s : State) : State :=
  if s.getB F.CNV_CH_CFG.DRAINING c then s.set F.CNV_CH_CFG.EN_IGN 1 c
  else
    let s := s.set F.CNV_CH_CFG.EN 1 c
    if chUsed s c && s.chState c == 0 then
      let s := holdLegs c s
      let x := s.chan c
      let s := s.setChan c { x with
        baseRamp := x.lastRamp, waitRamp := true, hiccuped := false, trimSaid := false, trims := [], shedN := 0
        leaving := [], limitedNow := false, nlBlocked := false, nlReleased := false, stopAtValley := false, periods := 0 }
      let s := (s.set F.CNV_CH_STAT.ACTIVE (allActive s c) c).set F.CNV_CH_STAT.LIMITED 0 c
      chGoto c 1 (nlLevel c (s.set F.CNV_CH_STAT.STOP_CAUSE 0 c))
    else s

def execCnvChannelStart (m : Master) (ch : Fin 3) (s : State) : Res :=
  .next (if s.regWriter m && s.pdReady 5 then (chStart ch s).answer .done else busError s)

/-- CNV_CHANNEL_STOP (R357): a soft stop from START or RUN; from HICCUP the hiccup ends in OFF; RETRIES clears. -/
def chDisable (c : Nat) (s : State) : State :=
  let s := (s.set F.CNV_CH_CFG.EN 0 c).set F.CNV_CH_STAT.RETRIES 0 c
  match s.chState c with
  | 1 | 2 => chGoto c 3 ((s.set F.CNV_CH_CFG.DRAINING 1 c).set F.CNV_CH_STAT.STOP_CAUSE 1 c)
  | 4 => chStop c 0 1 s
  | _ => s

def execCnvChannelStop (m : Master) (ch : Fin 3) (s : State) : Res :=
  .next (if s.regWriter m && s.pdReady 5 then (chDisable ch s).answer .done else busError s)

/-- CNV_CHANNEL_CLEAR (R359, R366): LATCHED gives OFF, and TRIPPED once every set of the channel is in RUN; only through a
checked output. -/
def chClear (m : Master) (c : Nat) (s : State) : State :=
  if !checkedOutput m then s
  else
    let s := s.set F.CNV_CH_STAT.RETRIES 0 c
    match s.chState c with
    | 5 => chGoto c 0 s
    | 6 => if (chLegs s c).all (fun l => s.psetState (s.get F.PWM_LEG_CFG.PSET l) == 0) then chGoto c 0 s else s
    | _ => s

def execCnvChannelClear (m : Master) (ch : Fin 3) (s : State) : Res :=
  .next (if s.regWriter m && s.pdReady 5 then (chClear m ch s).answer .done else busError s)

/-- RAMP_TIMEOUT (R354). -/
def execRampTimeout (ch : Fin 3) (s : State) : Res :=
  .next (if s.chState ch == 1 && (s.chan ch).waitRamp then
      issueFor (.cnvCh ch) 0x0C07 (chFaultClass s ch) (chStop ch 0 8 s)
    else s)

/-- A precharge under way fails (R393): 1 timeout, 3 source lost, 4 short at start; its code, class REPORT. -/
def preFail (why : Nat) (s : State) : State :=
  if s.get F.CHG_PRE.PSTATE = 1 ∨ s.get F.CHG_PRE.PSTATE = 2 then
    issue (match why with | 1 => 0x0D20 | 4 => 0x0D21 | _ => 0x0D22) 0 ((s.set F.CHG_PRE.PSTATE 4).set F.CHG_PRE.FAIL why)
  else s

/-- SOFT_START_CHECKPOINT (R355, R356): checkpoint k at 25, 50 or 75 % of SS_T; the first ends the pre-bias hold; a V_OUT below
half of REF is SHORT_AT_START, 0x0C01 and hiccup; in a precharge FAIL 4 (R393). -/
def execSoftStartCheckpoint (ch : Fin 3) (k : Fin 3) (s : State) : Res :=
  let c := ch.val
  .next (if (s.chState c == 1 || s.chState c == 2) && !(s.chan c).waitRamp then
      let s := if k.val = 0 then (chLegs s c).foldl (fun s l => s.setLeg l { s.leg l with only := none }) s else s
      if s.getB F.CNV_CH_CFG.MON_EN c && decide (2 * sint (measure s c 2) < sint ((s.chan c).lastCmd.getD 3 0)) then
        let s := hiccupEntry c (issueFor (.cnvCh c) 0x0C01 0 s)
        if c = 2 && s.getB F.CNV_CH_CFG.DIR 2 then preFail 4 s else s
      else s
    else s)

/-- SOFT_STOP_TIMEOUT (R357). -/
def execSoftStopTimeout (ch : Fin 3) (s : State) : Res :=
  .next (if s.chState ch == 3 then issueFor (.cnvCh ch) 0x0C06 0 (chStop ch 0 7 s) else s)

/-- HICCUP_OFF_END (R358): a retry in START, its legs held until a new RAMP_ID; EV_CNV_RETRY (162). -/
def execHiccupOffEnd (ch : Fin 3) (s : State) : Res :=
  let c := ch.val
  .next (if s.chState c == 4 then
      let x := s.chan c
      let s := s.setChan c { x with baseRamp := x.lastRamp, waitRamp := true }
      let s := s.set F.CNV_CH_STAT.RETRIES (min (s.get F.CNV_CH_STAT.RETRIES c + 1) 15) c
      raise 162 (chGoto c 1 (nlLevel c s))
    else s)

/-- RETRY_CLEAR (R358). -/
def execRetryClear (ch : Fin 3) (s : State) : Res :=
  .next (if s.chState ch == 2 then s.set F.CNV_CH_STAT.RETRIES 0 ch else s)

/-- The legs that leave at the next shed (R362): MPH from 4 to 2 to 1, PFC the odd ones. -/
def shedLegs (s : State) (c : Nat) : List Nat :=
  let act := (List.range (nLegs s c)).filter (fun j => s.bit F.CNV_CH_STAT.ACTIVE j c)
  match s.get F.CNV_CH_CFG.KIND c with
  | 0 => if nLegs s c ≤ 3 then [] else act.filter (fun j => j % 2 == 1)
  | 2 => if act.length > 2 then act.filter (fun j => j % 2 == 1) else act.filter (fun j => j != 0)
  | _ => []

/-- SHED_START (R362): EV_CNV_SHED (165). -/
def execShedStart (ch : Fin 3) (s : State) : Res :=
  let c := ch.val
  .next (if s.getB F.CNV_CH_SHDT.SHED_EN c && s.chState c == 2 && !s.getB F.CNV_CH_STAT.SHED_LOCK c &&
      !s.getB F.CNV_CH_STAT.SHEDDING c && !(shedLegs s c).isEmpty then
      let s := s.setChan c { s.chan c with shedN := 0, leaving := shedLegs s c }
      raise 165 (s.set F.CNV_CH_STAT.SHEDDING 1 c)
    else s)

/-- SHED_HOLDOFF_END (R364). -/
def execShedHoldoffEnd (ch : Fin 3) (s : State) : Res := .next (s.set F.CNV_CH_STAT.SHED_LOCK 0 ch)

/-- TELEMETRY_WINDOW_CLOSE (R369): the window's means are published; a window without a copy keeps the last ones. -/
def execTelemetryWindowClose (ch : Fin 3) (w : Fin 3) (s : State) : Res :=
  let c := ch.val
  let x := s.chan c
  let n := SMap.get 0 x.telCnt w.val
  .next (if n = 0 then s
    else
      let s := [0, 1, 2, 3].foldl (fun s i =>
        s.setI F.CNV_TEL_MEAN.MEAN (roundDiv (SMap.get 0 x.telSum (4 * w.val + i)) n) c i w) s
      s.setChan c { x with
        telSum := [0, 1, 2, 3].foldl (fun m i => SMap.put 0 m (4 * w.val + i) 0) x.telSum
        telCnt := SMap.put 0 x.telCnt w.val 0 })

/-- Reset the peaks of the channels of a mask (R369). -/
def telClear (mask : Nat) (s : State) : State :=
  (List.range 3).foldl (fun s c =>
    if mask.testBit c then
      [0, 1, 2, 3].foldl (fun s i => (s.set F.CNV_TEL_PK.MAX 0x8000 c i).set F.CNV_TEL_PK.MIN 0x7FFF c i) s
    else s) s

/-- TELEMETRY_CLEAR (R369). -/
def execTelemetryClear (m : Master) (mask : Fin 8) (s : State) : Res :=
  .next (if s.regWriter m && s.pdReady 5 then (telClear mask s).answer .done else busError s)

/-- An imposed transition to `mode` with code and class (R367): a channel whose stage the mode forbids stops at once with
STOP_CAUSE 2; on LIMP with a charge limit of 0 W, channels 0 and 1 begin a soft stop. -/
def cnvImposed (mode code cls : Nat) (s : State) : State :=
  (List.range 3).foldl (fun s c =>
    if chUsed s c && chActive s c then
      let stage := s.get F.PWM_LEG_CFG.STAGE (s.get F.CNV_CH_CFG.FIRST_LEG c)
      if !stageAllowed mode stage s.sys.dcdcHeld then
        let s := if cls ≥ 3 then cnvAsh c code cls (s.set F.CNV_CH_STAT.STOP_CAUSE 2 c) else s
        chStop c 0 2 s
      else if mode == 5 && decide (c < 2) && s.sys.cfg.limpChgLimit == 0 && (s.chState c == 1 || s.chState c == 2) then
        chGoto c 3 ((s.set F.CNV_CH_CFG.DRAINING 1 c).set F.CNV_CH_STAT.STOP_CAUSE 2 c)
      else s
    else s) s

end Sys2Proof.Machine
end

