-- ==== Sys2Proof/Machine/Pwm.lean ====
section
/-! DEFINITION. The PWM array, the gate interface and the fast protection (chapter 8): triggers, the fault map, feedback,
comparators, driver faults, carrier generators, bootstrap. -/

namespace Sys2Proof.Machine
open Sys2Proof

/-! ### Triggers and the fault map (R253 to R262) -/

/-- Switches of a set that count as commanded on: on, or within their turn-off feedback window (R254). -/
def commandedOn (s : State) (p : Nat) : List Nat :=
  (legsOfSet s p).flatMap (fun l => [2 * l, 2 * l + 1].filter (fun k => (s.sw k).cmd || (s.sw k).win == .off))

/-- The finding of a GFLT bound to a leg, from what was commanded on before the window (R254). -/
def gfltFinding (l : Nat) (was : List Nat) : Finding :=
  match was.contains (2 * l), was.contains (2 * l + 1) with
  | true, false => .failed (2 * l) true
  | false, true => .failed (2 * l + 1) true
  | _, _ => .bothOf l

/-- FM_CLASS of a set. -/
def fmClass (s : State) (p : Nat) : Nat := clsOf (s.get F.GIF_PSET_CFG.FM_CLASS p)

/-- A set holds a traction leg. -/
def tractionSet (s : State) (p : Nat) : Bool := (legsOfSet s p).any (fun l => s.get F.PWM_LEG_CFG.STAGE l == 0)

/-- The traction sets in the order the ash ring names them: machine 0's, then machine 1's, each by rising number (R551;
DEDUCED). -/
def tractionSets (s : State) : List Nat :=
  (List.range 16).filter (fun p => tractionSet s p && s.get F.GIF_PSET_CFG.SPD_SRC p == 0) ++
  (List.range 16).filter (fun p => tractionSet s p && s.get F.GIF_PSET_CFG.SPD_SRC p == 1)

/-- The Whorl and loop that drive the set's first leg, with the loop's first input and output ports. -/
def loopOfSet (s : State) (p : Nat) : Option (Nat × Nat) :=
  match legsOfSet s p with
  | [] => none
  | l :: _ =>
    match s.sys.cfg.outMap.find? (fun d => d.leg == l && !d.cmpB) with
    | none => none
    | some d =>
      ((List.range 8).find? (fun k => decide (s.get F.WHL_LOOP_IO.OUT_BASE d.whorl k ≤ d.port) &&
        decide (d.port ≤ s.get F.WHL_LOOP_IO.OUT_BASE d.whorl k + s.get F.WHL_LOOP_IO.OUT_N_M1 d.whorl k))).map (fun k => (d.whorl, k))

/-- I_CLAIM of traction set number i. -/
def claimOf (s : State) (i : Nat) : Nat :=
  match i with
  | 0 => s.get F.SPX_CLAIM_I0.SET0
  | 1 => s.get F.SPX_CLAIM_I0.SET1
  | 2 => s.get F.SPX_CLAIM_I1.SET2
  | _ => s.get F.SPX_CLAIM_I1.SET3

/-- Body of a traction set's ash record (R552). -/
def tractionAshBody (s : State) (p i : Nat) : List Byte :=
  let m := s.get F.GIF_PSET_CFG.SPD_SRC p
  let w (n : Nat) := toBytes 4 n
  let cur := match loopOfSet s p with
    | some (wh, k) =>
      let ib := s.get F.WHL_LOOP_IO.IN_BASE wh k
      let ob := s.get F.WHL_LOOP_IO.OUT_BASE wh k
      ([ib, ib + 1, ib + 2].map (fun q => s.get F.WHL_INP.VALUE wh q), [ob + 3, ob + 4].map (fun q => s.get F.WHL_OUTP.VALUE wh q))
    | none => ([0, 0, 0], [0, 0])
  let cmps := ((legsOfSet s p).map (fun l => s.get F.PWM_LEG_CMP.CMP_A l) ++ [0, 0, 0]).take 3
  let h := (s.pset p).hist
  w (s.rd (F.GIF_PSET_STAT.STATE.addr p 0 0)).toNat ++ w (s.rd (F.GIF_PSET_LOSS.LOSS_EN.addr p 0 0)).toNat ++
    w (unsigned 32 (SMap.get 0 s.pwm.lastSpd m)) ++ w (SMap.get 0 s.pwm.lastThe m).toNat ++
    cur.1.flatMap w ++ cmps.flatMap w ++ cur.2.flatMap w ++
    w (s.rd (F.FLY_MACH_STAT.ACQUIRED.addr m 0 0)).toNat ++ w (claimOf s i) ++
    (List.replicate (32 - h.length) 0 ++ h).flatMap w

/-- An ash record of set p, if it is a traction set (R552, R553). -/
def psetAsh (p code cls : Nat) (s : State) : State :=
  match (tractionSets s).idxOf? p with
  | some i => if i < 4 then ashPush i code cls (tractionAshBody s p i) s else s
  | none => s

/-- Latest speed reported for the set's machine is above its UCG_SPEED (R257). -/
def aboveUcg (s : State) (p : Nat) : Bool :=
  let m := s.get F.GIF_PSET_CFG.SPD_SRC p
  decide (m < 2) && decide (((SMap.get 0 s.pwm.lastSpd m).natAbs : Int) > s.getI F.GIF_PSET_UCG.UCG_SPEED p)

/-- ABOVE_UCG as the register shows it. -/
def showAbove (p : Nat) (s : State) : State := s.setB F.GIF_PSET_STAT.ABOVE_UCG (aboveUcg s p) p

/-- Bring set p into STATE `st`: the switches follow; a converter channel with a leg of a set that leaves RUN is TRIPPED
(R366). -/
def enterState (p st : Nat) (s : State) : State :=
  let s := enforceLegs (legsOfSet s p) (s.set F.GIF_PSET_STAT.STATE st p)
  if st = 0 then s else cnvTripSet p s

/-- The set goes OFF with a code: LSTATE NONE (R319), the ash record (R552), the code with FM_CLASS. -/
def setOffWith (p code : Nat) (s : State) : State :=
  let s := enterState p 4 (disarm (legsOfSet s p) s)
  let s := (s.set F.GIF_PSET_LOSS.LSTATE 0 p).set F.GIF_PSET_LOSS.REACQ_LEFT 0 p
  let s := (legsOfSet s p).foldl (fun s l => showOffReq l (s.setLeg l { s.leg l with offLoss := false })) s
  let s := s.set F.GIF_PSET_STAT.LAST_CODE code p
  issueFor (.pset p) code (fmClass s p) (psetAsh p code (fmClass s p) s)

/-- The set goes into active short circuit on a row, with a code. -/
def ascWith (p : Nat) (top : Bool) (code : Nat) (s : State) : State :=
  let s := enterState p (if top then 2 else 3) (disarm (legsOfSet s p) s)
  let s := s.set F.GIF_PSET_STAT.LAST_CODE code p
  issueFor (.pset p) code (fmClass s p) (psetAsh p code (fmClass s p) s)

/-- The row a finding leaves alone in active short circuit: a GFLT attributed to a switch of the row that is off (R258). -/
def harmlessInAsc (f : Finding) (top : Bool) : Bool :=
  match f with
  | .failed k true => isTop k != top
  | _ => false

/-- PROTECTION_TRIGGER (R253, R258): in RUN the set's switches are disabled and DECIDING starts; within the window the
finding joins; in active short circuit the set goes OFF with 0x0A0B unless R258 spares it; OFF is final. -/
def trigger (p : Nat) (f : List Nat → Finding) (s : State) : State :=
  match s.psetState p with
  | 0 =>
    let was := commandedOn s p
    let s := s.setPset p { s.pset p with findings := [f was], wasOn := was, request := 0 }
    enterState p 1 s
  | 1 => s.setPset p { s.pset p with findings := (s.pset p).findings ++ [f (s.pset p).wasOn] }
  | 4 => s
  | st => if harmlessInAsc (f (s.pset p).wasOn) (st == 2 || st == 5) then s else setOffWith p 0x0A0B s

/-- Switch findings, one per switch: the switch, whether it is stuck on, and the code of its first finding. -/
def switchFindings : List Finding → List (Nat × Bool × Nat)
  | [] => []
  | .failed k g :: r => (k, false, if g then 0x0A01 else 0x0A06) :: (switchFindings r).filter (fun e => e.1 != k)
  | .stuckOn k c :: r => (k, true, c) :: (switchFindings r).filter (fun e => e.1 != k)
  | .bothOf l :: r =>
    (2 * l, false, 0x0A01) :: (2 * l + 1, false, 0x0A01) ::
      (switchFindings r).filter (fun e => e.1 != 2 * l && e.1 != 2 * l + 1)
  | _ :: r => switchFindings r

/-- Comparator findings: channel, polarity, hard level. -/
def compFindings (fs : List Finding) : List (Nat × Bool × Bool) :=
  fs.filterMap (fun f => match f with
    | .comp c a => some (c, a, false)
    | .hard c a => some (c, a, true)
    | _ => none)

/-- A phase-to-phase short: two ROLE = PHASE comparators of opposite polarity (R255). -/
def phaseShort (s : State) (cs : List (Nat × Bool × Bool)) : Bool :=
  let ph := cs.filter (fun c => s.get F.GIF_COMP_CFG.ROLE c.1 == 0)
  ph.any (fun a => ph.any (fun b => a.1 != b.1 && a.2.1 != b.2.1))

/-- The fault map (R255): the row of the short circuit, if one is chosen, the code, and the attributed switch. With a window
and a hard comparator and no switch finding, the code of the first trip stands (DEDUCED). -/
def faultMap (s : State) (p : Nat) : Option Bool × Nat × Option Nat :=
  let fs := (s.pset p).findings
  let sws := switchFindings fs
  let cs := compFindings fs
  let ok := s.getB F.GIF_PSET_CFG.ASC_EN p && aboveUcg s p
  if fs.contains .unattributable || phaseShort s cs || decide (1 < sws.length) then (none, 0x0A02, none)
  else match sws, cs with
    | (k, stuck, code) :: _, _ => (if ok then some (isTop k == stuck) else none, code, some k)
    | [], c :: _ => (if ok then some (!s.getB F.GIF_PSET_CFG.ASC_ROW p) else none, if c.2.2 then 0x0A04 else 0x0A03, none)
    | [], [] => (none, 0x0A02, none)

/-- A winding set is lost while the other of its machine runs on (R570). -/
def setLost (p : Nat) (s : State) : State :=
  let m := s.get F.GIF_PSET_CFG.SPD_SRC p
  if tractionSet s p && decide (m < 2) && (List.range 16).any (fun q =>
      q != p && tractionSet s q && s.get F.GIF_PSET_CFG.SPD_SRC q == m && s.psetState q == 0) then
    raise 233 ((s.set F.DBG_OLT_STAT.SET_LOST 1).bump F.DBG_OLT_STAT.SUBST_CNT F.DBG_OLT_STAT.SAT)
  else s

/-- FAULT_MAP_DECISION (R255, R246): EV_GIF_FM_DECIDED (105), then the short circuit or OFF. -/
def execFaultMapDecision (p : Fin 16) (s : State) : Res :=
  .next (if s.psetState p = 1 then
      let (row, code, k) := faultMap s p
      let s := s.setB F.GIF_PSET_STAT.ABOVE_UCG (aboveUcg s p) p
      let s := match k with
        | some k => (s.set F.GIF_PSET_STAT.FAULT_LEG (legOf k) p).setB F.GIF_PSET_STAT.FAULT_ROW (!isTop k) p
        | none => (s.set F.GIF_PSET_STAT.FAULT_LEG 63 p).set F.GIF_PSET_STAT.FAULT_ROW 0 p
      let s := setLost p (raise 105 s)
      match row with
      | some top => ascWith p top code s
      | none => setOffWith p code s
    else s)

/-- ASC_ENTRY_TIMEOUT (R256): an opposite switch does not show off within FB_WIN; the set goes OFF with 0x0A09. -/
def execAscEntryTimeout (p : Fin 16) (s : State) : Res :=
  .next (match ascTop (s.psetState p) with
    | some top =>
      if (legsOfSet s p).any (fun l => (s.sw (if top then 2 * l else 2 * l + 1)).pendOn &&
          !showsOff s (if top then 2 * l + 1 else 2 * l)) then
        setOffWith p 0x0A09 s
      else s
    | none => s)

/-- SAFE_REACTION on one traction set, as the comparator-trip row of R255 without a window (R260, R26): a set in RUN or in a
requested short circuit is brought into one or OFF; one that decides, has decided or is OFF is kept (DEDUCED), its legs lose
ARM all the same (R246). -/
def imposeTrip (code cls p : Nat) (s : State) : State :=
  let st := s.psetState p
  if st = 0 ∨ st = 5 ∨ st = 6 then
    let s := s.setPset p { s.pset p with wasOn := [], request := 0 }
    let s := s.set F.GIF_PSET_STAT.LAST_CODE code p
    let s := disarm (legsOfSet s p) s
    let s := if s.getB F.GIF_PSET_CFG.ASC_EN p && aboveUcg s p then enterState p (if s.getB F.GIF_PSET_CFG.ASC_ROW p then 3 else 2) s
      else enterState p 4 s
    psetAsh p code cls s
  else disarm (legsOfSet s p) s

/-- A set turned OFF by a reaction; its legs lose ARM in any case (R246). -/
def imposeOff (code cls p : Nat) (s : State) : State :=
  if s.psetState p = 4 then disarm (legsOfSet s p) s
  else psetAsh p code cls (enterState p 4 ((disarm (legsOfSet s p) s).set F.GIF_PSET_STAT.LAST_CODE code p))

/-- SAFE_REACTION (R260): class 3 acts on every set with traction legs; class 4 and 5 turn every set OFF. -/
def safeReaction (code cls : Nat) (s : State) : State :=
  if !s.pdReady 7 then s
  else (List.range 16).foldl (fun s p =>
    if cls = 3 then (if tractionSet s p then imposeTrip code cls p s else s) else imposeOff code cls p s) s

/-! ### Feedback rows -/

/-- Refusal of switch k's turn-on: counted on its leg, EV_GIF_REFUSED (101). -/
def refused (k : Nat) (s : State) : State := raise 101 (s.bump F.PWM_LEG_STAT.REFUSE_CNT F.PWM_LEG_STAT.SAT (legOf k))

/-- The set of a switch. -/
def setOfSw (s : State) (k : Nat) : Nat := s.get F.PWM_LEG_CFG.PSET (legOf k)

/-- REFUSAL_RUN (R239): REFUSE_N of one kind in a row on switch k make it a trigger. -/
def refusalRun (k : Nat) (off : Bool) (s : State) : State :=
  let x := s.sw k
  let n := (if off then x.runOff else x.runOn) + 1
  let s := s.setSw k (if off then { x with runOff := n } else { x with runOn := n })
  if n ≥ max (s.get F.GIF_SW_CFG.REFUSE_N k) 1 then
    trigger (setOfSw s k) (fun _ => if off then .stuckOn k 0x0A05 else .failed k false) s
  else s

/-- A pulse that is not issued (R235). -/
def pulseDrop (l : Nat) (s : State) : State := s.bump F.PWM_LEG_STAT.DROP_CNT F.PWM_LEG_STAT.SAT l

/-- SWITCH_EDGE_COMMAND (R230, R235, R237): a compare instant of leg l hands over to its top (`toTop`) or bottom switch,
whose on-time to come is `width` in 50 ps. The other switch goes off; a turn-on of it that was still waiting is replaced;
the on-time is dropped if shorter than PULSE_MIN, and no top pulse comes at C = 0 (R231). -/
def execSwitchEdgeCommand (leg : Fin 32) (toTop : Bool) (width : Nat) (s : State) : Res :=
  let l := leg.val
  let y := if toTop then 2 * l else 2 * l + 1
  let x := oppOf y
  .next (if decideSw s x == .off && decideSw s y == .off || decideSw s x == .on || decideSw s y == .on then s
    else if toTop && (s.leg l).c == 0 then s
    else
      let s := if (s.sw x).pendOn then pulseDrop l s else s
      let s := switchOff x s
      if decideSw s y != .follow then s
      else if width < 50 * s.get F.PWM_LEG_BOOT.PULSE_MIN l then pulseDrop l s
      else
        let s := if toTop then s else s.setLeg l { s.leg l with bottomOn := max (s.leg l).bottomOn width }
        let s := s.setSw y { s.sw y with pendOn := true }
        if (s.sw y).deadRun then s else tryOn y s)

/-- DEAD_TIME_EXPIRY (R237, R256): the dead time of switch `sw`, counted from the opposite's off command, is out. -/
def execDeadTimeExpiry (sw : Fin 64) (s : State) : Res :=
  .next (tryOn sw (s.setSw sw { s.sw sw with deadRun := false }))

/-- GFB_CHANGE (R237 to R240): the filtered feedback of a switch changes, `delay` 2.5 ns steps after its command. -/
def execGfbChange (sw : Fin 64) (on : Bool) (delay : Nat) (s : State) : Res :=
  let k := sw.val
  let s := (s.setB F.GIF_SW_CFG.GFB on k).set F.GIF_SW_CFG.LAST_FB (min delay 255) k
  let x := s.sw k
  .next (if !fbUsed s k then s
    else if on then
      if x.cmd then (if x.win == .on then s.setSw k { x with win := .none, runOn := 0 } else s)
      else if x.win == .off then s
      else trigger (setOfSw s k) (fun _ => .stuckOn k 0x0A07) s
    else if !x.cmd then
      let s := if x.win == .off then s.setSw k { x with win := .none, runOff := 0 } else s
      let y := oppOf k
      let wasWaiting := (s.sw y).pendOn && !(s.sw y).deadRun
      let s := tryOn y s
      if x.win == .off && wasWaiting && (s.sw y).cmd then s.bump F.PWM_LEG_STAT.STRETCH_CNT F.PWM_LEG_STAT.SAT (legOf k) else s
    else s)

/-- TURN_OFF_FB_WIN_EXPIRY (R237, R239): switch `sw` has not shown off by FB_WIN; the opposite turn-on that waits is
refused. -/
def execTurnOffFbWinExpiry (sw : Fin 64) (s : State) : Res :=
  let k := sw.val
  let x := s.sw k
  .next (if x.win == .off then
      let s := s.setSw k { x with win := .none }
      let y := oppOf k
      if s.getB F.GIF_SW_CFG.GFB k && (s.sw y).pendOn && decideSw s y == .follow then
        refusalRun k true (refused k (s.setSw y { s.sw y with pendOn := false }))
      else s
    else s)

/-- TURN_ON_FB_WIN_EXPIRY (R238, R239): switch `sw` has not shown on by FB_WIN; its command is withdrawn. -/
def execTurnOnFbWinExpiry (sw : Fin 64) (s : State) : Res :=
  let k := sw.val
  .next (if (s.sw k).win == .on && (s.sw k).cmd then
      if s.getB F.GIF_SW_CFG.GFB k then s.setSw k { s.sw k with win := .none, runOn := 0 }
      else refusalRun k false (refused k (switchOff k s))
    else s)

/-- ARM_SET (R246): ARM is set; it takes effect at the next valley of the leg's generator. -/
def execArmSet (m : Master) (leg : Fin 32) (s : State) : Res :=
  .next (if s.regWriter m && s.pdReady 7 then (s.set F.PWM_LEG_CFG.ARM 1 leg).answer .done else busError s)

/-- GEN_FALL (R248, R246): the legs of the group go off and lose ARM; EV_GIF_GEN_CHANGE (106). -/
def execGenFall (g : Fin 4) (s : State) : Res :=
  let s := { s with pwm := { s.pwm with genSeen := putBit s.pwm.genSeen g.val false } }
  let ls := (List.range 32).filter (fun l => s.get F.PWM_LEG_CFG.GEN_SEL l == g.val)
  .next (if s.pdReady 7 then raise 106 (enforceLegs ls (disarm ls s)) else s)

/-- GEN_LOW_FEEDBACK_FAULT (R248): 0x0A08, class SAFE_STO. -/
def execGenLowFeedbackFault (sw : Fin 64) (s : State) : Res :=
  .next (if !s.pwm.genSeen.testBit (s.get F.PWM_LEG_CFG.GEN_SEL (legOf sw)) && s.getB F.GIF_SW_CFG.GFB sw then
      issueFor (.pset (setOfSw s sw)) 0x0A08 5 s
    else s)

/-! ### Comparators and driver faults (R249 to R252) -/

/-- CYCLE_LIMIT (R249): each top switch of the set that is on goes off until the next carrier event; a PLACE leg's bottom
switch goes off too, until the next peak (R351); the period of a converter channel counts as limited (R358). -/
def cycleLimit (p : Nat) (s : State) : State :=
  (legsOfSet s p).foldl (fun s l =>
    let top := (s.sw (2 * l)).cmd
    let place := legPlaced s l && (s.sw (2 * l + 1)).cmd
    if top || place then
      let x := s.leg l
      markLimited l (enforceLeg l (s.setLeg l { x with cycle := x.cycle || top, cycleB := x.cycleB || place }))
    else s) s

/-- An unblanked crossing of comparator c acts (R249). -/
def compAct (c : Nat) (above : Bool) (s : State) : State :=
  let s := s.set (if above then F.GIF_COMP_CFG.TRIP_HI else F.GIF_COMP_CFG.TRIP_LO) 1 c
  let p := s.get F.GIF_COMP_CFG.PSET c
  match s.get F.GIF_COMP_CFG.ACTION c with
  | 0 => trigger p (fun _ => .comp c above) s
  | 1 => cycleLimit p s
  | _ => cnvComparator c above (raise 103 s)

/-- HARD_TRIP (R251): HARD, EV_GIF_HARD_TRIP (104), action TRIP, unblanked. -/
def execHardTrip (ch : Fin 48) (above : Bool) (s : State) : Res :=
  .next (if s.getB F.GIF_COMP_CFG.HARD_EN ch then
      trigger (s.get F.GIF_COMP_CFG.PSET ch) (fun _ => .hard ch above) (raise 104 (s.set F.GIF_COMP_CFG.HARD 1 ch))
    else s)

/-- GFLT_ASSERT (R252, R254): a driver fault input asserts (`on`) or falls away after its filter. -/
def execGfltAssert (i : Fin 16) (on : Bool) (s : State) : Res :=
  .next (if !s.getB F.GIF_GFLT_CFG.EN i then s
    else if on then
      let s := raise 102 ((s.set F.GIF_GFLT_CFG.ACTIVE 1 i).set F.GIF_GFLT_CFG.SEEN 1 i)
      if s.getB F.GIF_GFLT_CFG.TGT_KIND i then trigger (s.get F.GIF_GFLT_CFG.PSET i) (fun _ => .unattributable) s
      else
        let l := s.get F.GIF_GFLT_CFG.LEG i
        trigger (s.get F.PWM_LEG_CFG.PSET l) (gfltFinding l) s
    else s.set F.GIF_GFLT_CFG.ACTIVE 0 i)

/-! ### The loss reaction (R318 to R322) -/

/-- EMF_LOCK of machine m changes: EV_FLY_EMF_LOCK (135). -/
def showLock (m : Nat) (b : Bool) (s : State) : State :=
  if s.getB F.FLY_MACH_STAT.EMF_LOCK m == b then s else raise 135 (s.setB F.FLY_MACH_STAT.EMF_LOCK b m)

/-- The REACQ timer of a set starts. -/
def reacqStart (p : Nat) (s : State) : State :=
  s.set F.GIF_PSET_LOSS.REACQ_LEFT (10 * max (s.get F.GIF_PSET_LOSS.REACQ_TMO p) 1) p

/-- The loss OFF_REQ of a set is put on its legs, or cleared: then each resumes at its next carrier event. -/
def lossOff (p : Nat) (on : Bool) (s : State) : State :=
  (legsOfSet s p).foldl (fun s l =>
    let x := s.leg l
    if x.offLoss == on then s
    else enforceLeg l (showOffReq l (s.setLeg l { x with offLoss := on, waitCarrier := x.waitCarrier || !on }))) s

/-- To LSTATE ASC: a short circuit on ASC_ROW, 0x0A0C, EV_GIF_LOSS_REACT (108). -/
def lossAsc (p : Nat) (s : State) : State :=
  let s := ascWith p (!s.getB F.GIF_PSET_CFG.ASC_ROW p) 0x0A0C s
  raise 108 ((s.set F.GIF_PSET_LOSS.LSTATE 1 p).set F.GIF_PSET_LOSS.REACT_SEEN 1 p)

/-- To LSTATE COAST: the loss OFF_REQ, EMF_LOCK to be requalified, 0x0A0E, EV_GIF_LOSS_REACT, the timer. -/
def coastSet (p : Nat) (s : State) : State :=
  let m := s.get F.GIF_PSET_CFG.SPD_SRC p
  let s := showLock m false (lossOff p true s)
  let s := { s with fly := { s.fly with emf := SMap.put {} s.fly.emf m { SMap.get ({} : EmfSt) s.fly.emf m with lockT := 0 } } }
  let s := issueFor (.pset p) 0x0A0E 0 (psetAsh p 0x0A0E 0 (s.set F.GIF_PSET_STAT.LAST_CODE 0x0A0E p))
  raise 108 (reacqStart p ((s.set F.GIF_PSET_LOSS.LSTATE 2 p).set F.GIF_PSET_LOSS.REACT_SEEN 1 p))

/-- Set p goes to COAST; where that clears EMF_LOCK, so do the sets of the same tracker in RESUMED (R319). -/
def lossCoast (p : Nat) (s : State) : State :=
  let m := s.get F.GIF_PSET_CFG.SPD_SRC p
  let locked := s.getB F.FLY_MACH_STAT.EMF_LOCK m && s.getB F.FLY_MACH_STAT.LOST m
  let t := coastSet p s
  if locked then
    (List.range 16).foldl (fun t q =>
      if t.get F.GIF_PSET_CFG.SPD_SRC q == m && t.get F.GIF_PSET_LOSS.LSTATE q == 3 then coastSet q t else t) t
  else t

/-- The tracker of machine m is lost: each set that reacts to it and is in RUN does (R318, R319). -/
def lossReact (m : Nat) (s : State) : State :=
  (List.range 16).foldl (fun s p =>
    if s.getB F.GIF_PSET_LOSS.LOSS_EN p && s.get F.GIF_PSET_CFG.SPD_SRC p == m && s.psetState p == 0 &&
        s.get F.GIF_PSET_LOSS.LSTATE p == 0 then
      if aboveUcg s p && s.getB F.GIF_PSET_CFG.ASC_EN p then reacqStart p (lossAsc p s) else lossCoast p s
    else s) s

/-- EMF_LOCK of machine m sets: COAST goes to RESUMED (R319). -/
def lossLocked (m : Nat) (s : State) : State :=
  (List.range 16).foldl (fun s p =>
    if s.get F.GIF_PSET_CFG.SPD_SRC p == m && s.get F.GIF_PSET_LOSS.LSTATE p == 2 then
      lossOff p false ((s.set F.GIF_PSET_LOSS.LSTATE 3 p).set F.GIF_PSET_LOSS.REACQ_LEFT 0 p)
    else s) s

/-- EMF_LOCK of machine m clears while its tracker is LOST: RESUMED goes to COAST (R319). -/
def lossUnlocked (m : Nat) (s : State) : State :=
  if s.getB F.FLY_MACH_STAT.LOST m then
    (List.range 16).foldl (fun s p =>
      if s.get F.GIF_PSET_CFG.SPD_SRC p == m && s.get F.GIF_PSET_LOSS.LSTATE p == 3 then coastSet p s else s) s
  else s

/-- LOST of machine m clears: RESUMED goes to NONE (R319). -/
def lossCleared (m : Nat) (s : State) : State :=
  (List.range 16).foldl (fun s p =>
    if s.get F.GIF_PSET_CFG.SPD_SRC p == m && s.get F.GIF_PSET_LOSS.LSTATE p == 3 then s.set F.GIF_PSET_LOSS.LSTATE 0 p
    else s) s

/-- ABOVE_UCG of a set as it now is; a set that coasts goes into the short circuit when it becomes true (R319). -/
def aboveChanged (p : Nat) (s : State) : State :=
  let s := showAbove p s
  if s.get F.GIF_PSET_LOSS.LSTATE p == 2 && s.psetState p == 0 && aboveUcg s p && s.getB F.GIF_PSET_CFG.ASC_EN p then lossAsc p s else s

/-- UCG_SPEED_WRITE (R257): the age restarts, so UCG_STALE clears. -/
def ucgWrite (p : Nat) (value : Word) (s : State) : State :=
  aboveChanged p ((s.set F.GIF_PSET_UCG.UCG_SPEED value.toNat p).set F.GIF_PSET_STAT.UCG_STALE 0 p)

def execUcgSpeedWrite (m : Master) (p : Fin 16) (value : Word) (s : State) : Res :=
  .next (if s.regWriter m && s.pdReady 7 then (ucgWrite p value s).answer .done else busError s)

/-- UCG_STALE_TIMEOUT (R257): the last value stays in use; EV_GIF_UCG_STALE (107), 0x0A0A. -/
def execUcgStaleTimeout (p : Fin 16) (s : State) : Res :=
  .next (if s.pdReady 7 then
      raise 107 (issueFor (.pset p) 0x0A0A 0 ((s.set F.GIF_PSET_STAT.UCG_STALE 1 p).set F.GIF_PSET_STAT.LAST_CODE 0x0A0A p))
    else s)

/-- A request for active short circuit (R261): through a checked output, in RUN, in DRIVE, LIMP or SERVICE; it takes effect at
the next carrier event. A write that is not from a checked output is ignored. -/
def ascRequest (m : Master) (p code : Nat) (s : State) : State :=
  if checkedOutput m && s.psetState p == 0 && (s.mode == 3 || s.mode == 5 || s.mode == 7) then
    s.setPset p { s.pset p with request := code }
  else s

def execPsetAscTop (m : Master) (p : Fin 16) (s : State) : Res :=
  .next (if s.regWriter m && s.pdReady 7 then (ascRequest m p 2 s).answer .done else busError s)
def execPsetAscBot (m : Master) (p : Fin 16) (s : State) : Res :=
  .next (if s.regWriter m && s.pdReady 7 then (ascRequest m p 3 s).answer .done else busError s)

/-! ### Carrier generators (R224 to R233) -/

/-- Generators that name g as their master. -/
def slavesOf (s : State) (g : Nat) : List Nat := (List.range 12).filter (fun k => masterOf s k == some g)

/-- SYNC_LOST (R227) on the slaves of a generator that stops: EV_PWM_SYNC_LOST (100), 0x0901. -/
def syncLost (g : Nat) (s : State) : State :=
  (slavesOf s g).foldl (fun s k =>
    if (s.cg k).running then raise 100 (issue 0x0901 0 (s.set F.PWM_CG_CTL.SYNC_LOST 1 k)) else s) s

/-- GENERATOR_DRAIN_END (R228): the group's legs go off, the generator stops, EV_PWM_DRAINED (97). -/
def drainEnd (g : Nat) (s : State) : State :=
  let s := (s.setCg g { s.cg g with running := false }).set F.PWM_CG_CTL.RUN 0 g
  let s := s.set F.PWM_CG_CTL.DRAINING 0 g
  let ls := legsOfCg s g
  let s := ls.foldl (fun s l => s.set F.PWM_LEG_CFG.DRAINING 0 l) s
  syncLost g (raise 97 (enforceLegs ls s))

/-- Clear a generator's EN (R228). -/
def generatorDisable (g : Nat) (s : State) : State :=
  let s := s.set F.PWM_CG_CTL.EN 0 g
  if (s.cg g).running then
    (legsOfCg s g).foldl (fun s l => s.set F.PWM_LEG_CFG.DRAINING 1 l) (s.set F.PWM_CG_CTL.DRAINING 1 g)
  else s

def execGeneratorDisable (m : Master) (cg : Fin 12) (s : State) : Res :=
  .next (if s.regWriter m && s.pdReady 7 then (generatorDisable cg s).answer .done else busError s)

/-- Whether a carrier event transfers shadows: UPD 0 valley, 1 peak, 2 and 3 both (R232). -/
def transfers (upd : Nat) (peak : Bool) : Bool :=
  match upd with
  | 0 => !peak
  | 1 => peak
  | _ => true

/-- Dead times from the shadow and the floor, at a valley (R236). -/
def loadDt (l : Nat) (s : State) : State :=
  let tb := s.get F.PWM_LEG_DT.DT_TB l
  let bt := s.get F.PWM_LEG_DT.DT_BT l
  let ftb := s.get F.PWM_LEG_FLOOR.FLOOR_TB l
  let fbt := s.get F.PWM_LEG_FLOOR.FLOOR_BT l
  (s.setLeg l { s.leg l with dtTB := max tb ftb, dtBT := max bt fbt }).setB F.PWM_LEG_STAT.DT_CLAMPED
    (decide (tb < ftb ∨ bt < fbt)) l

/-- H and C of the half or period that starts (R230, R231). -/
def loadHalf (g : Nat) (peak : Bool) (l : Nat) (s : State) : State :=
  let per := (s.cg g).per
  let x := s.leg l
  let mode := s.get F.PWM_CG_CTL.MODE g
  let upDown := mode == 0 || mode == 3
  if peak && !upDown then s
  else
    let h := if upDown then (if peak then per - per / 2 else per / 2) else per
    let v := if upDown && peak && s.getB F.PWM_LEG_CFG.ASYM l then x.cmpB else x.cmpA
    let s := s.setLeg l { x with h := h, c := (clampI 0 h v).toNat }
    if v < 0 ∨ (h : Int) < v then raise 98 (s.set F.PWM_LEG_STAT.CMP_CLAMP 1 l) else s

/-- Bootstrap refresh at a valley (R242 to R244): a pulse is inserted when the bottom has not been on for BOOT_REFRESH_T in
the last BOOT_REFRESH_N periods, or when refresh-hold asks for it; its end releases the high side. -/
def bootRefresh (l : Nat) (s : State) : State :=
  let x := s.leg l
  let t := 50 * clampN 40 800 (s.get F.PWM_LEG_BOOT.BOOT_REFRESH_T l)
  let since := if x.bottomOn ≥ t then 0 else x.sinceRefresh + 1
  let hold := s.getB F.PWM_LEG_STAT.BOOT_HOLD l || (bridgeRefresh s l && decide (x.bottomOn < t))
  let s := s.setLeg l { x with bottomOn := 0, sinceRefresh := since, period := x.period + 1 }
  let freed (s : State) : State := match bridgeOf s l with
    | some b => s.set F.ACT_BR_STAT.REFRESH_HOLD 0 b
    | none => s
  let s := if x.bottomOn ≥ t then freed s else s
  if hold || (s.getB F.PWM_LEG_CFG.BOOT_EN l && decide (since > s.get F.PWM_LEG_BOOT.BOOT_REFRESH_N l)) then
    if legHeld s l then s
    else
      let top := (s.sw (2 * l)).cmd
      let s := switchOff (2 * l + 1) (edgeIssued l (switchOff (2 * l) s))
      let s := freed ((s.setLeg l { s.leg l with sinceRefresh := 0 }).set F.PWM_LEG_STAT.BOOT_HOLD 0 l)
      if top then s.setSw (2 * l) { s.sw (2 * l) with pendOn := true, deadRun := true } else s
  else s

/-- One leg at a carrier event of its generator. -/
def legCarrier (g : Nat) (peak : Bool) (l : Nat) (s : State) : State :=
  let x := s.leg l
  let off := x.offReq || x.offPend
  let a := match x.late with | some v => v.1 | none => s.getI F.PWM_LEG_CMP.CMP_A l
  let b := match x.late with | some v => v.2 | none => s.getI F.PWM_LEG_CMPB.CMP_B l
  let tr := transfers (s.get F.PWM_CG_CTL.UPD g) peak
  let x := { x with
    cmpA := if tr then a else x.cmpA, cmpB := if tr then b else x.cmpB, late := none
    offReq := off, offPend := false, waitCarrier := false, cycle := false, cycleB := x.cycleB && !peak
    armed := if peak then x.armed else s.getB F.PWM_LEG_CFG.ARM l
    cnvHold := x.cnvHold && !x.cnvFree, cnvFree := false, nlOver := if x.nlOver = 2 then 0 else x.nlOver }
  let s := showOffReq l (s.setLeg l x)
  let s := if peak then s else bootRefresh l (loadDt l s)
  let s := if s.getB F.PWM_LEG_CFG.EN l then loadHalf g peak l s else s
  enforceLeg l s

/-- Requested short circuits of sets with a leg of the generator take effect (R261). -/
def startRequests (g : Nat) (s : State) : State :=
  (List.range 16).foldl (fun s p =>
    let r := (s.pset p).request
    if r != 0 && s.psetState p == 0 && (legsOfSet s p).any (fun l => s.get F.PWM_LEG_CFG.CG l == g) then
      enterState p (if r = 2 then 5 else 6) (s.setPset p { s.pset p with request := 0 })
    else s) s

/-- CARRIER_EVENT (R224): the generator's next carrier event, a valley or a peak; a generator that stood starts with a
valley. -/
def execCarrierEvent (cg : Fin 12) (s : State) : Res :=
  let g := cg.val
  let x := s.cg g
  let draining := s.getB F.PWM_CG_CTL.DRAINING g
  .next (if !s.pdReady 7 then s
    else if x.running && x.rising then
      -- the peak
      let s := s.setCg g { x with rising := false }
      let ls := legsOfCg s g
      let late := ls.any (fun l => (s.leg l).late.isSome)
      let s := if late then raise 96 ((s.set F.PWM_CG_CTL.LATE_UPDATE 1 g).bump F.PWM_CG_CTL.LATE_CNT F.PWM_CG_CTL.SAT g) else s
      startRequests g (ls.foldl (fun s l => legCarrier g true l s) s)
    else if x.running && draining then drainEnd g s
    else if x.running || s.getB F.PWM_CG_CTL.EN g then
      -- the valley
      let per := nextPer s g
      let s := s.setCg g { running := true, rising := true, per := per, phase := s.get F.PWM_CG_PHASE.PHASE g % (max per 1) }
      let s := s.set F.PWM_CG_CTL.RUN 1 g
      let ls := legsOfCg s g
      let late := ls.any (fun l => (s.leg l).late.isSome)
      let s := if late then raise 96 ((s.set F.PWM_CG_CTL.LATE_UPDATE 1 g).bump F.PWM_CG_CTL.LATE_CNT F.PWM_CG_CTL.SAT g) else s
      startRequests g (cnvPeriod g (ls.foldl (fun s l => legCarrier g false l s) s))
    else s)

/-! ### Bootstrap undervoltage (R244) -/

/-- A bootstrap comparator of leg l trips: the high side goes off, refresh-hold starts, EV_PWM_BOOT_HOLD (99). The flag says
that this is the third event within eight periods, which latches ACT_BOOT and clears ARM. -/
def bootTrip (l : Nat) (s : State) : State × Bool :=
  let x := s.leg l
  let at' := (x.period :: x.uvAt).filter (fun p => decide (x.period < p + 8))
  let s := s.setLeg l { x with uvAt := at' }
  let s := enforceLeg l (s.set F.PWM_LEG_STAT.BOOT_HOLD 1 l)
  let s := raise 99 s
  if at'.length ≥ 3 then (enforceLeg l (disarm [l] s), true) else (s, false)

end Sys2Proof.Machine
end

