-- ==== Sys2Proof/Machine/Act.lean ====
section
/-! DEFINITION. The gearbox actuator pre-drivers (chapter 11): MODE, latches, ACT_EN, and the patterns of pair B. -/

namespace Sys2Proof.Machine
open Sys2Proof

/-- Show all bridges. -/
def showBridges (s : State) : State := (List.range 12).foldl (fun s b => showBridge b s) s

/-- A write of MODE (R332, R333, R339): 3 acts as 0, HIZ and LOW_ON at once, PWM at the leg's next command; HIZ while ACT_EN is
low. -/
def bridgeModeWrite (b v : Nat) (s : State) : State :=
  let v := if s.getB F.ACT_STAT.ACT_EN_LVL then v else 0
  let s := s.set F.ACT_BR_CFG.MODE v b
  let s := if v = 1 then s else { s with act := { s.act with eff := SMap.put 0 s.act.eff b (if v = 2 then 2 else 0) } }
  showBridge b s

/-- The same through a register write. -/
def bridgeCommand (m : Master) (b v : Nat) (s : State) : Res :=
  .next (if s.regWriter m && s.pdReady 10 then (bridgeModeWrite b v s).answer .done else busError s)

def execBridgeHiz (m : Master) (bridge : Fin 12) (s : State) : Res := bridgeCommand m bridge 0 s
def execBridgePwm (m : Master) (bridge : Fin 12) (s : State) : Res := bridgeCommand m bridge 1 s
def execBridgeLowOn (m : Master) (bridge : Fin 12) (s : State) : Res := bridgeCommand m bridge 2 s

/-- Latch `f` of bridge b with a code of the bridge's FAULT_CLASS (R338): EV_ACT_FAULT (184). -/
def actLatch (f : Fld) (code b : Nat) (s : State) : State :=
  if s.getB f b then s
  else
    let s := (s.set f 1 b).setBit F.ACT_STAT.LATCHED b true
    showBridge b (raise 184 (issue code (clsOf (s.get F.ACT_BR_CFG.FAULT_CLASS b)) s))

/-- A latch on all bridges. -/
def actLatchAll (f : Fld) (code : Nat) (s : State) : State := (List.range 12).foldl (fun s b => actLatch f code b s) s

/-- Some bridge has MODE PWM or LOW_ON: VDRV and VGD are monitored (R65). -/
def vdrvWatched (s : State) : Bool := (List.range 12).any (fun b => s.get F.ACT_BR_CFG.MODE b == 1 || s.get F.ACT_BR_CFG.MODE b == 2)

/-- BOOT_UNDERVOLTAGE (R244, R338): counted; the leg enters refresh-hold; the third within eight periods latches ACT_BOOT. -/
def execBootUndervoltage (bridge : Fin 12) (s : State) : Res :=
  let b := bridge.val
  .next (if !s.pdReady 10 then s
    else
      let s := s.bump F.ACT_BR_STAT.BOOT_UV_CNT F.ACT_BR_STAT.SAT b
      match legOfBridge s b with
      | none => s
      | some l =>
        let (s, third) := bootTrip l s
        if third then actLatch F.ACT_BR_STAT.ACT_BOOT 0x0B01 b s else showBridge b s)

/-- PREDRIVER_GATE_REPORT (R334, R239, R240): counted by the gate interface on the leg's switch; the end of a refusal run also
latches ACT_GATE with its code. -/
def execPredriverGateReport (bridge : Fin 12) (report : GateReport) (s : State) : Res :=
  let b := bridge.val
  .next (if !s.pdReady 7 then s
    else match legOfBridge s b with
      | none => s
      | some l =>
        let ends (k : Nat) (off : Bool) : Bool :=
          let n := (if off then (s.sw k).runOff else (s.sw k).runOn) + 1
          decide (n ≥ max (s.get F.GIF_SW_CFG.REFUSE_N k) 1)
        match report with
        | .refusedOff high =>
          let k := if high then 2 * l else 2 * l + 1
          let s' := refusalRun k true (refused k (s.setSw (oppOf k) { s.sw (oppOf k) with pendOn := false }))
          if ends k true && s.pdReady 10 then actLatch F.ACT_BR_STAT.ACT_GATE 0x0A05 b s' else s'
        | .refusedOn high =>
          let k := if high then 2 * l else 2 * l + 1
          let s' := refusalRun k false (refused k (switchOff k s))
          if ends k false && s.pdReady 10 then actLatch F.ACT_BR_STAT.ACT_GATE 0x0A06 b s' else s'
        | .uncommanded high =>
          let k := if high then 2 * l else 2 * l + 1
          trigger (setOfSw s k) (fun _ => .stuckOn k 0x0A07) s)

/-- DRAIN_SOURCE_FAULT (R338). -/
def execDrainSourceFault (bridge : Fin 12) (high : Bool) (s : State) : Res :=
  .next (if s.pdReady 10 then
      (if high then actLatch F.ACT_BR_STAT.ACT_OC_H 0x0B02 bridge s else actLatch F.ACT_BR_STAT.ACT_OC_L 0x0B03 bridge s)
    else s)

/-- VGD_UNDERVOLTAGE (R331): VGD below 6.5 V for 5 µs, or back above it. -/
def execVgdUndervoltage (low : Bool) (s : State) : Res :=
  .next (if !s.pdReady 10 || !vdrvWatched s then s
    else
      let s := s.setB F.ACT_STAT.VGD_LOW low
      if low then actLatchAll F.ACT_BR_STAT.ACT_SUPPLY 0x0B07 s else s)

/-- DRIVE_SUPPLY_FAULT (R338, R65): VDRV below 7.5 V or above 19.5 V. -/
def execDriveSupplyFault (above : Bool) (s : State) : Res :=
  .next (if s.pdReady 10 && vdrvWatched s then actLatchAll F.ACT_BR_STAT.ACT_SUPPLY (if above then 0x0B06 else 0x0B05) s else s)

/-- PREDRIVER_OVERTEMP (R338): sensor 32 or 33 at or above 155 °C. -/
def execPredriverOvertemp (_sensor : Fin 2) (s : State) : Res :=
  .next (if s.pdReady 10 then actLatchAll F.ACT_BR_STAT.ACT_OT 0x0B08 s else s)

/-- PREDRIVER_WARNING (R338): EV_ACT_SUP_WARN (186) or EV_ACT_OT_WARN (187). -/
def execPredriverWarning (supply present : Bool) (s : State) : Res :=
  .next (if !s.pdReady 10 then s
    else if supply then
      if !vdrvWatched s then s
      else
        let new := present && !s.getB F.ACT_STAT.VDRV_WARN
        let s := s.setB F.ACT_STAT.VDRV_WARN present
        if new then raise 186 s else s
    else
      let new := present && !s.getB F.ACT_STAT.OT_WARN
      let s := s.setB F.ACT_STAT.OT_WARN present
      if new then raise 187 s else s)

/-- ACT_EN_FALL (R339): every bridge HIZ, every MODE written to HIZ, EV_ACT_EN (185). -/
def execActEnFall (s : State) : Res :=
  .next (if s.pdReady 10 && s.getB F.ACT_STAT.ACT_EN_LVL then
      let s := s.set F.ACT_STAT.ACT_EN_LVL 0
      raise 185 ((List.range 12).foldl (fun s b => bridgeModeWrite b 0 s) s)
    else s)

/-- Clear the latches of bridge b whose cause is absent. -/
def clearLatches (c : LatchCauses) (b : Nat) (s : State) : State :=
  let keep (f : Fld) (present : Bool) (s : State) : State := if present then s else s.set f 0 b
  let s := keep F.ACT_BR_STAT.ACT_BOOT (c.boot.getLsbD b) (keep F.ACT_BR_STAT.ACT_OC_H (c.ocH.getLsbD b) s)
  let s := keep F.ACT_BR_STAT.ACT_OC_L (c.ocL.getLsbD b) (keep F.ACT_BR_STAT.ACT_GATE (c.gate.getLsbD b) s)
  let s := keep F.ACT_BR_STAT.ACT_SUPPLY c.supply (keep F.ACT_BR_STAT.ACT_OT c.ot s)
  let any := [F.ACT_BR_STAT.ACT_BOOT, F.ACT_BR_STAT.ACT_OC_H, F.ACT_BR_STAT.ACT_OC_L, F.ACT_BR_STAT.ACT_GATE, F.ACT_BR_STAT.ACT_SUPPLY,
    F.ACT_BR_STAT.ACT_OT].any (fun f => s.getB f b)
  s.setBit F.ACT_STAT.LATCHED b any

/-- ACT_EN_RISE (R339): EV_ACT_EN; after at least 10 µs low the latches whose cause is absent clear. -/
def execActEnRise (lowUs : Nat) (causes : LatchCauses) (s : State) : Res :=
  .next (if s.pdReady 10 && !s.getB F.ACT_STAT.ACT_EN_LVL then
      let s := raise 185 (s.set F.ACT_STAT.ACT_EN_LVL 1)
      let s := if 10 ≤ lowUs then (List.range 12).foldl (fun s b => clearLatches causes b s) s else s
      showBridges s
    else s)

/-- Pair B's firmware runs. -/
def pairBRuns (s : State) : Bool :=
  s.sys.released && s.pdReady 3 && s.pdReady 10 && [0, 1, 2, 5].contains (s.get F.SPX_STAT.STATE 1)

/-- PARK_LOCK_STALL (R344): the end stop is reached; LOW_ON on the actuator's bridges, which were driven in PWM. -/
def execParkLockStall (bridges : BitVec 12) (s : State) : Res :=
  .next (if !pairBRuns s then s
    else (List.range 12).foldl (fun s b =>
      if bridges.getLsbD b && s.get F.ACT_BR_CFG.MODE b == 1 then bridgeModeWrite b 2 s else s) s)

/-- PARK_LOCK_HOLD_END (R344): PL_HOLD_T after LOW_ON; HIZ. -/
def execParkLockHoldEnd (bridges : BitVec 12) (s : State) : Res :=
  .next (if !pairBRuns s then s
    else (List.range 12).foldl (fun s b =>
      if bridges.getLsbD b && s.get F.ACT_BR_CFG.MODE b == 2 then bridgeModeWrite b 0 s else s) s)

end Sys2Proof.Machine
end

