-- ==== Sys2Proof/Machine/Afe.lean ====
section
/-! DEFINITION. The fast analogue front end and the housekeeping converters (chapter 5): correction of samples, windows,
points, slices and their rotation, references, twin checks. The rows that also act on the Flyer, the Whorl ports or the
Kiln (WINDOW_END, WINDOW_ABORT, AFE_RESULT_DELIVERY, HK_CONVERSION_SLOT, TWIN_ARBITRATION_END) are in Machine/Chain.lean,
written over the operations of this file. -/

namespace Sys2Proof.Machine
open Sys2Proof

def State.win (s : State) (n w : Nat) : WinSt := SMap.get {} s.afe.wins (2 * n + w)
def State.setWin (s : State) (n w : Nat) (x : WinSt) : State :=
  { s with afe := { s.afe with wins := SMap.put {} s.afe.wins (2 * n + w) x } }
def State.slices (s : State) (n : Nat) : SliceSt := SMap.get {} s.afe.slices n
def State.setSlices (s : State) (n : Nat) (x : SliceSt) : State :=
  { s with afe := { s.afe with slices := SMap.put {} s.afe.slices n x } }
def State.twin (s : State) (n : Nat) : TwinSt := SMap.get {} s.hk.twins n
def State.setTwin (s : State) (n : Nat) (x : TwinSt) : State :=
  { s with hk := { s.hk with twins := SMap.put {} s.hk.twins n x } }

/-! ### Correction (R130) -/

/-- The slice that converts slot k of channel n: slice k until rotation moves it (R125). -/
def sliceAt (s : State) (n k : Nat) : Nat := SMap.get k (s.slices n).slots k

/-- First correction stage: offset and gain, in 1/16 code. -/
def corrected0 (s : State) (n : Nat) (x : RawSample) : Int :=
  let sl := sliceAt s n x.slot.val
  roundDiv ((x.raw.toInt * 16 - s.getI F.AFE_SLICE_COEF.OFS n sl * 2) * (s.get F.AFE_SLICE_COEF.GAIN n sl : Int)) 8192

/-- Second stage: the skew term from the neighbours' first-stage values; saturating. -/
def correctedAt (s : State) (n : Nat) (prev cur next : RawSample) : Int :=
  let sl := sliceAt s n cur.slot.val
  let d := corrected0 s n next - corrected0 s n prev
  clampI (-131072) 131071 (corrected0 s n cur - roundDiv (s.getI F.AFE_SLICE_COEF.SKEW n sl * d) 80000)

/-- Corrected values of the samples between the first and the last of a list, which are there as neighbours only. -/
def correctedInner (s : State) (n : Nat) : List RawSample → List (RawSample × Int)
  | a :: b :: c :: r => (b, correctedAt s n a b c) :: correctedInner s n (b :: c :: r)
  | _ => []

/-- Replace a sample whose conversion timed out by the mean of its corrected neighbours (R123). -/
def interpolated : Int → List (RawSample × Int) → List (RawSample × Int)
  | _, [] => []
  | p, [(x, v)] => [(x, if x.timedOut then p else v)]
  | p, (x, v) :: (y, w) :: r =>
    let v' := if x.timedOut then roundDiv (p + w) 2 else v
    (x, v') :: interpolated v' ((y, w) :: r)

/-- The corrected samples of a list with one neighbour on each side, in 1/16 code. -/
def correct (s : State) (n : Nat) (xs : List RawSample) : List (RawSample × Int) :=
  match xs with
  | a :: _ => interpolated (corrected0 s n a) (correctedInner s n xs)
  | [] => []

/-! ### Windows and points -/

/-- W: the sum of the weights, the window's length in 1.25 ns (R138). -/
def weightSum (xs : List (RawSample × Int)) : Nat := (xs.map (fun x => x.1.weight.val)).sum

/-- MEAN in Q13.10. -/
def windowMean (xs : List (RawSample × Int)) : Int :=
  roundDiv ((xs.map (fun x => (x.1.weight.val : Int) * x.2)).sum * 64) (weightSum xs)

/-- The corrected values that carry a non-zero weight (R142). -/
def weighted (xs : List (RawSample × Int)) : List Int := (xs.filter (fun x => x.1.weight.val != 0)).map (·.2)

/-- MIN and MAX over weighted samples, in 1/16 code; zero for an empty window. -/
def listMin : List Int → Int
  | [] => 0
  | x :: r => r.foldl min x
def listMax : List Int → Int
  | [] => 0
  | x :: r => r.foldl max x

/-- From 1/16 code to Q13.2. -/
def toQ2 (v : Int) : Int := roundDiv v 4

/-- Result flags of R149, as a number. -/
structure ResFlags where
  clip : Bool := false
  interp : Bool := false
  short : Bool := false
  abort : Bool := false
  refNrdy : Bool := false
  vddaBad : Bool := false
  chFail : Bool := false
  segShort : Bool := false
  drainLast : Bool := false
  deriving DecidableEq, Repr

/-- An item with these flags is valid (R148). -/
def ResFlags.valid (f : ResFlags) : Bool :=
  !(f.refNrdy || f.vddaBad || f.short || f.abort || f.segShort || f.chFail)

def ResFlags.toNat (f : ResFlags) : Nat :=
  (if f.valid then 1 else 0) + (if f.clip then 2 else 0) + (if f.interp then 4 else 0) + (if f.short then 8 else 0) +
  (if f.abort then 16 else 0) + (if f.refNrdy then 32 else 0) + (if f.vddaBad then 64 else 0) +
  (if f.chFail then 128 else 0) + (if f.segShort then 256 else 0) + (if f.drainLast then 512 else 0)

/-- REF_RDY clear, or the channel's reference buffer has faulted (R135, R160). -/
def refNotReady (s : State) (n : Nat) : Bool := !s.getB F.AFE_CTL.REF_RDY || s.bit F.AFE_CTL.REF_FAULT (n / 8)

/-- A VDDA fault is present (R136): bit 2 of the supply faults. -/
def vddaBad (s : State) : Bool := s.sys.supFlt.testBit 2

/-- The window's configuration registers as they stand. -/
def latchWin (s : State) (n w : Nat) (x : WinSt) : WinSt :=
  { x with
    open_ := true
    ctl := s.rd (F.AFE_WIN_CTL.EN.addr n w 0)
    startCfg := s.rd (F.AFE_WIN_START.EVENT.addr n w 0)
    endCfg := s.rd (F.AFE_WIN_END.EVENT.addr n w 0)
    seg := s.rd (F.AFE_WIN_SEG.SEG_DELAY.addr n w 0)
    pts := []
    anchor := none
    segShort := false }

/-- A window may start: channel and window enabled, a carrier generator selected (R137, R140). -/
def winStartable (s : State) (n w : Nat) : Bool :=
  s.getB F.AFE_CH_CFG.EN n && s.getB F.AFE_WIN_CTL.EN n w && decide (s.get F.AFE_WIN_CTL.CARRIER n w < 12)

/-- WINDOW_START (R137, R141): the shadowed registers take effect; a start that falls while the window is open is
ignored; a MODE 3 window is opened by its anchor. -/
def execWindowStart (ch : Fin 48) (win : Fin 2) (s : State) : Res :=
  let x := s.win ch win
  .next (if winStartable s ch win && !x.open_ && s.get F.AFE_WIN_CTL.MODE ch win != 3 then
      s.setWin ch win (latchWin s ch win x)
    else s)

/-- SEGMENT_ANCHOR (R152, R153): the selected top-side edge of the leg group anchors the window. `next` is the leg whose
edge ends the vector, absent if there is none in the half-period, `apart` the distance of the two issued edges in
1.25 ns; less than SEG_MIN_VEC sets SEG_SHORT. -/
def execSegmentAnchor (ch : Fin 48) (win : Fin 2) (leg : Fin 32) (next : Option (Fin 32)) (apart : Nat) (s : State) : Res :=
  let x := s.win ch win
  let first := s.get F.AFE_WIN_CTL.SEG_LEG ch win
  .next (if winStartable s ch win && !x.open_ && s.get F.AFE_WIN_CTL.MODE ch win == 3 &&
      decide (first ≤ leg.val ∧ leg.val ≤ first + 2) then
      let minVec : Int := s.get F.AFE_WIN_SEG.SEG_DELAY ch win + (max (s.get F.AFE_WIN_SEG.SEG_LEN ch win) 16 : Nat) +
        s.get F.AFE_WIN_SEG.SEG_GUARD ch win - 72
      let short := match next with
        | none => true
        | some _ => decide ((apart : Int) < minVec)
      s.setWin ch win { latchWin s ch win x with
        anchor := some (leg.val + 32 * (match next with | none => 0 | some l => l.val)), segShort := short }
    else s)

/-- POINT_SAMPLE (R143): the first instant of the point within its bound window is sampled, at `age` (1.25 ns) from the
window's start; AVG 0 interpolates between two samples at `frac` eighths, AVG k takes the mean of 2^k. The list holds one
neighbour more on each side (R130). -/
def execPointSample (ch : Fin 48) (pt : Fin 4) (samples : List RawSample) (frac : Fin 8) (age : Nat) (s : State) : Res :=
  let w := s.get F.AFE_PT_CFG.BIND ch pt
  let x := s.win ch w
  let avg := s.get F.AFE_PT_CFG.AVG ch pt
  let cs := (correct s ch samples).map (·.2)
  let v : Int :=
    if avg = 0 then
      match cs with
      | a :: b :: _ => roundDiv (a * (8 - (frac.val : Int)) + b * (frac.val : Int)) 32
      | [a] => toQ2 a
      | [] => 0
    else roundDiv ((cs.take (2 ^ avg)).sum) (4 * 2 ^ avg)
  .next (if s.getB F.AFE_PT_CFG.EN ch pt && x.open_ && getBits x.ctl 29 28 != 3 && (SMap.get (0, 0) x.pts pt.val).2 == 0 then
      s.setWin ch w { x with pts := SMap.put (0, 0) x.pts pt.val (v, age + 1) }
    else s)

/-- What one point delivers with its window (R144, R145, R149): its value in Q13.2 and whether it is a miss. -/
def pointOutcome (s : State) (n w p : Nat) (x : WinSt) (wlen : Nat) : Int × Bool :=
  if s.getB F.AFE_PT_CFG.EN n p && s.get F.AFE_PT_CFG.BIND n p == w then
    let t := SMap.get (0, 0) x.pts p
    if t.2 != 0 && decide (t.2 - 1 + 16 ≤ wlen) && getBits x.ctl 29 28 != 3 then (t.1, false)
    else (SMap.get 0 s.afe.ptLast (4 * n + p), true)
  else (0, false)

/-- Keep the values of the points that were sampled, for a later miss. -/
def keepPoints (n w : Nat) (os : List (Int × Bool)) (s : State) : State :=
  [0, 1, 2, 3].foldl (fun s p =>
    match os[p]? with
    | some (v, miss) =>
      if s.getB F.AFE_PT_CFG.EN n p && s.get F.AFE_PT_CFG.BIND n p == w && !miss then
        { s with afe := { s.afe with ptLast := SMap.put 0 s.afe.ptLast (4 * n + p) v } }
      else s
    | none => s) s

/-- Close window (n, w): form its result (R138 to R145), count misses, raise EV_AFE_WIN_FLAG (68), and finish a drain
(R142). In modes 0 and 1 the next window starts at this end (R137). -/
def closeWindow (n w : Nat) (samples : List RawSample) (abort : Bool) (s : State) : State :=
  let x := s.win n w
  if !x.open_ then s
  else
    let cs := correct s n samples
    let wlen := weightSum cs
    let mode := getBits x.ctl 29 28
    let drain := s.getB F.AFE_WIN_CTL.DRAINING n w
    let ps := [0, 1, 2, 3].map (fun p => pointOutcome s n w p x wlen)
    let missBits := (ps.zipIdx.map (fun e => if e.1.2 then 2 ^ e.2 else 0)).sum
    let misses := (ps.filter (·.2)).length
    let f : ResFlags := {
      clip := cs.any (fun e => e.1.weight.val != 0 && (e.1.raw.toInt == -8192 || e.1.raw.toInt == 8191))
      interp := cs.any (fun e => e.1.weight.val != 0 && e.1.timedOut)
      short := decide (wlen < 16), abort := abort, refNrdy := refNotReady s n, vddaBad := vddaBad s
      chFail := s.getB F.AFE_CH_CFG.FAILED n, segShort := mode == 3 && x.segShort, drainLast := drain }
    let r : WinRes := {
      mean := windowMean cs, min := toQ2 (listMin (weighted cs)), max := toQ2 (listMax (weighted cs))
      pts := ps.map (·.1), ptMiss := missBits, w := wlen
      flags := f.toNat + missBits * 1024, ts := s.ts32
      endLeg := (x.anchor.getD 0) / 32, anchorLeg := (x.anchor.getD 0) % 32 }
    let s := keepPoints n w ps s
    let s := if misses = 0 then s else s.bump F.AFE_STAT.PT_MISS_CNT F.AFE_STAT.SAT (n := misses)
    let s := if f.clip || f.short || f.abort || f.segShort || misses != 0 then raise 68 s else s
    let closed := { x with open_ := false, res := some r, pts := [] }
    let s := s.setWin n w closed
    let s := if drain then
        let s := s.set F.AFE_WIN_CTL.DRAINING 0 n w
        let s := if s.getB F.AFE_WIN_CTL.DRAINING n (1 - w) then s else s.set F.AFE_CH_CFG.DRAINING 0 n
        raise 69 s
      else s
    if (mode == 0 || mode == 1) && !abort && winStartable s n w && s.get F.AFE_WIN_CTL.MODE n w != 3 then s.setWin n w (latchWin s n w closed) else s

/-- Start draining window (n, w) if it is open (R142). -/
def drainWindow (n w : Nat) (s : State) : State :=
  if (s.win n w).open_ then (s.set F.AFE_WIN_CTL.DRAINING 1 n w).set F.AFE_CH_CFG.DRAINING 1 n else s

/-- WINDOW_DISABLE (R142): EN cleared; an open window drains. -/
def execWindowDisable (ch : Fin 48) (win : Fin 2) (s : State) : Res :=
  .next (drainWindow ch win (s.set F.AFE_WIN_CTL.EN 0 ch win))

/-- AFE_CHANNEL_DISABLE (R142): EN of the channel cleared; both of its windows drain. -/
def execAfeChannelDisable (ch : Fin 48) (s : State) : Res :=
  .next (drainWindow ch 1 (drainWindow ch 0 (s.set F.AFE_CH_CFG.EN 0 ch)))

/-! ### Slices (R125 to R133, R160) -/

/-- SUBSTITUTION (R570): the unit's flag, EV_OLT_SUBST (233), and SUBST_CNT. -/
def substitution (flag : Fld) (s : State) : State :=
  raise 233 ((s.set flag 1).bump F.DBG_OLT_STAT.SUBST_CNT F.DBG_OLT_STAT.SAT)

/-- AFE_CHANNEL_FAIL (R160): every result carries CH_FAIL; the code has the channel's FAIL_CLASS; EV_AFE_CH_FAIL (66). -/
def failChannel (n code : Nat) (s : State) : State :=
  if s.getB F.AFE_CH_CFG.FAILED n then s
  else
    let s := (s.set F.AFE_CH_CFG.FAILED 1 n).bump F.AFE_STAT.CH_FAILS F.AFE_STAT.SAT
    raise 66 (issue code (s.get F.AFE_CH_CFG.FAIL_CLASS n) s)

/-- CAL_MODE: 2 and 3 act as 1 (HOLD). -/
def calHold (s : State) : Bool := s.get F.AFE_CTL.CAL_MODE != 0

/-- SLICE_FAIL (R160): at the first failure the spare takes the slot, with the coefficients of a calibration that is complete (R133),
and the channel has no spare left (0x0710, REPORT, EV_AFE_SLICE_FAIL 65); a second failure fails the channel (0x0711). -/
def failSlice (n slice : Nat) (s : State) : State :=
  if s.bit F.AFE_SLICE_STAT.FAILED slice n then s
  else
    let s := (s.setBit F.AFE_SLICE_STAT.FAILED slice true n).bump F.AFE_STAT.SLICE_FAILS F.AFE_STAT.SAT
    if s.getB F.AFE_CH_CFG.SPARE_LOST n then failChannel n 0x0711 s
    else
      let spare := s.get F.AFE_SLICE_STAT.SPARE n
      let st := s.slices n
      let slots := [0, 1, 2, 3, 4, 5, 6, 7].foldl (fun m k =>
        if sliceAt s n k = slice then SMap.put k m k spare else m) st.slots
      let s := if st.calDone && spare != slice && !calHold s then
          (s.setI F.AFE_SLICE_COEF.OFS st.calOfs n spare).set F.AFE_SLICE_COEF.GAIN st.calGain n spare
        else s
      let s := s.setSlices n { st with slots := slots, calDone := false, retry := false }
      let s := (s.set F.AFE_SLICE_STAT.SPARE 15 n).set F.AFE_CH_CFG.SPARE_LOST 1 n
      substitution F.DBG_OLT_STAT.SPARE_LOST (raise 65 (issue 0x0710 0 s))

/-- SLICE_TIMEOUT (R123, R160): the slice that converts the slot has failed. The sample itself is replaced in the window
that holds it. -/
def execSliceTimeout (ch : Fin 48) (slot : Fin 8) (s : State) : Res := .next (failSlice ch (sliceAt s ch slot) s)

/-- SKEW_UPDATE on one slot (R131). -/
def skewUpdate (n : Nat) (k : SlotSkew) (s : State) : State :=
  let sl := sliceAt s n k.slot.val
  if calHold s then s
  else if k.den ≥ 65536 * (k.count : Int) && k.den != 0 then
    s.setI F.AFE_SLICE_COEF.SKEW
      (clampI (-128) 127 (s.getI F.AFE_SLICE_COEF.SKEW n sl + clampI (-4) 4 (roundDiv (20000 * k.num) k.den))) n sl
  else s.set F.AFE_SLICE_STAT.SKEW_HOLD 1 n

/-- ROTATION_STEP (R125, R129, R131): the step of channel `ch` ends. `shadowSum` is the sum of the absolute differences of
the 1,024 shadow conversions in 1/16 code, `skew` what the estimator accumulated. -/
def execRotationStep (ch : Fin 48) (shadowSum : Nat) (skew : List SlotSkew) (s : State) : Res :=
  let s := skew.foldl (fun s k => skewUpdate ch k s) s
  let st := s.slices ch
  let spare := s.get F.AFE_SLICE_STAT.SPARE ch
  let next := s.get F.AFE_SLICE_STAT.NEXT_SLOT ch
  let thr := max (s.get F.AFE_CTL.SHADOW_THR) 1
  .next (if s.getB F.AFE_CH_CFG.SPARE_LOST ch then s
    else if shadowSum > thr * 16 * 1024 then
      if st.retry then
        failSlice ch (if st.calBad then spare else sliceAt s ch next) s
      else s.setSlices ch { st with retry := true }
    else
      let old := sliceAt s ch next
      let s := if st.calDone && !calHold s then
          (s.setI F.AFE_SLICE_COEF.OFS st.calOfs ch spare).set F.AFE_SLICE_COEF.GAIN st.calGain ch spare
        else s
      let s := s.setSlices ch { st with slots := SMap.put next st.slots next spare, calDone := false, retry := false }
      (s.set F.AFE_SLICE_STAT.SPARE old ch).set F.AFE_SLICE_STAT.NEXT_SLOT ((next + 1) % 8) ch)

/-- Limits of a calibration result, R132. -/
def calWithinLimits (ofs : Int) (gain : Nat) : Bool :=
  decide (-384 ≤ ofs ∧ ofs ≤ 384) && decide (0x1E00 ≤ gain ∧ gain ≤ 0x2200)

/-- SPARE_CALIBRATION (R126, R132): within limits the new OFS and GAIN wait for the instant the spare takes its slot;
outside, they are not written and the slice is failed. -/
def execSpareCalibration (ch : Fin 48) (ofs : Int) (gain : Nat) (s : State) : Res :=
  let st := s.slices ch
  .next (if s.getB F.AFE_CH_CFG.SPARE_LOST ch then s
    else if calWithinLimits ofs gain then
      s.setSlices ch { st with calOfs := ofs, calGain := gain, calDone := true, calBad := false }
    else failSlice ch (s.get F.AFE_SLICE_STAT.SPARE ch) (s.setSlices ch { st with calBad := true, calDone := false }))

/-- REF_ENABLE (R134). -/
def execRefEnable (m : Master) (s : State) : Res :=
  .next (if s.regWriter m && s.pdReady 6 then (s.set F.AFE_CTL.REF_EN 1).answer .done else busError s)

/-- REF_READY (R134): the buffers have settled and the foreground calibration, whose results the surroundings give, is
complete; a result outside its limits fails its slice (R132). -/
def execRefReady (cals : List SliceCal) (s : State) : Res :=
  .next (if s.getB F.AFE_CTL.REF_EN && !s.getB F.AFE_CTL.REF_RDY then
      let s := cals.foldl (fun s c =>
        if calWithinLimits c.ofs c.gain then
          (s.setI F.AFE_SLICE_COEF.OFS c.ofs c.ch c.slice).set F.AFE_SLICE_COEF.GAIN c.gain c.ch c.slice
        else failSlice c.ch c.slice s) s
      raise 64 (s.set F.AFE_CTL.REF_RDY 1)
    else s)

/-- Any channel's EN is set. -/
def anyChannelEnabled (s : State) : Bool := (List.range 48).any (fun n => s.getB F.AFE_CH_CFG.EN n)

/-- A write that clears REF_EN (R135): ignored, with REF_REFUSED, while any channel is enabled; otherwise REF_RDY clears at
once. -/
def refDisable (s : State) : State :=
  if anyChannelEnabled s then s.set F.AFE_CTL.REF_REFUSED 1
  else (s.set F.AFE_CTL.REF_EN 0).set F.AFE_CTL.REF_RDY 0

/-- REF_DISABLE (R135). -/
def execRefDisable (m : Master) (s : State) : Res :=
  .next (if s.regWriter m && s.pdReady 6 then (refDisable s).answer .done else busError s)

/-- REF_BUFFER_FAULT (R160): 0x0702 with the highest FAIL_CLASS of the eight channels, EV_AFE_REF_FAULT (67). -/
def execRefBufferFault (buf : Fin 6) (s : State) : Res :=
  let cls := (List.range 8).foldl (fun m i => max m (s.get F.AFE_CH_CFG.FAIL_CLASS (8 * buf.val + i))) 0
  .next (raise 67 (issue 0x0702 cls (s.setBit F.AFE_CTL.REF_FAULT buf.val true)))

/-- A write of AFE_SLICE_COEF takes effect only in HOLD with the channel's EN clear (R133). -/
def sliceCoefWrite (n k : Nat) (value : Word) (s : State) : State :=
  if calHold s && !s.getB F.AFE_CH_CFG.EN n then s.wr (F.AFE_SLICE_COEF.OFS.addr n k 0) value else s

/-- SLICE_COEF_WRITE (R133). -/
def execSliceCoefWrite (m : Master) (ch : Fin 48) (slice : Fin 9) (value : Word) (s : State) : Res :=
  .next (if s.regWriter m && s.pdReady 6 then (sliceCoefWrite ch slice value s).answer .done else busError s)

/-! ### Housekeeping and twins (R155 to R159) -/

/-- A conversion of input HKi: LAST, MEAN16 over the last 16 conversions, VALID. -/
def hkInput (i : Nat) (code : Nat) (s : State) : State :=
  let h := (code :: SMap.get [] s.hk.hist i).take 16
  let s := { s with hk := { s.hk with hist := SMap.put [] s.hk.hist i h } }
  let s := (s.set F.HK_RES.LAST code i).set F.HK_RES.MEAN16 (roundDiv h.sum h.length).toNat i
  s.setB F.HK_RES.VALID (!s.getB F.HK_CTL.REF_FAIL (i / 16)) i

/-- The converter's reference conversions are out of their ±4-code limits: REF_FAIL, and its inputs are not valid. -/
def hkRefFail (c : Nat) (s : State) : State :=
  (List.range 16).foldl (fun s i => s.set F.HK_RES.VALID 0 (16 * c + i)) (s.set F.HK_CTL.REF_FAIL 1 c)

/-- A reference conversion at 0 %, +75 % or −75 % of the twin range, in 12-bit two's complement (R155, R156). -/
def hkReference (c r : Nat) (code : BitVec 12) (s : State) : State :=
  let want : Int := if r = 0 then 0 else if r = 1 then 1536 else -1536
  if (code.toInt - want).natAbs ≤ 4 then s else hkRefFail c s

/-- Every twin of converter c is lost (R158, R159): EV_HK_TWIN_LOST (73) and the code, class REPORT. -/
def loseTwins (c code : Nat) (s : State) : State :=
  let s := (List.range 12).foldl (fun s i => s.set F.HK_TWIN_CFG.TWIN_LOST 1 (12 * c + i)) s
  raise 73 (issue code 0 s)

/-- The FA channel gives a valid point value at a strobe (R157). -/
def twinComparable (s : State) (n : Nat) : Bool :=
  s.getB F.AFE_CTL.REF_RDY && s.getB F.AFE_CH_CFG.EN n && !s.getB F.AFE_CH_CFG.FAILED n && s.pdReady 6 && !vddaBad s

/-- TWIN_CHECK (R157, R158) once four conversions are there: the mismatch, its run, and arbitration. -/
def twinCheck (n : Nat) (s : State) : State :=
  let t := s.twin n
  let s := s.setTwin n { t with codes := [], fas := [], skip := false }
  if t.skip then s
  else
    let d64 := (64 * t.codes.sum - t.fas.sum).natAbs
    let bad := d64 > s.get F.HK_TWIN_CFG.TWIN_THR n * 64
    let s := s.set F.HK_TWIN_CFG.LAST_DIFF (min (roundDiv d64 64).toNat 4095) n
    let run := if bad then t.run + 1 else 0
    let hit := bad && decide (run ≥ max (s.get F.HK_TWIN_CFG.TWIN_N n) 1) && !t.arb
    let s := s.setTwin n { codes := [], fas := [], skip := false, run := run, arb := t.arb || hit, lastBad := bad }
    if hit then raise 72 (s.set F.HK_TWIN_CFG.MISMATCH 1 n) else s

/-- One conversion of a twin tap; the fourth completes the check. The flag says that a check was completed. -/
def twinConvert (n : Nat) (code : BitVec 12) (fa : Option Int) (s : State) : State × Bool :=
  if s.getB F.HK_TWIN_CFG.TWIN_LOST n || !s.getB F.HK_TWIN_CFG.EN n then (s, false)
  else
    let t := s.twin n
    let t' := { t with
      codes := code.toInt :: t.codes
      fas := (fa.getD 0) :: t.fas
      skip := t.skip || fa.isNone || !twinComparable s n }
    let s := s.setTwin n t'
    if t'.codes.length < 4 then (s, false) else (twinCheck n s, true)

/-- The arbitration's finding on channel n (R158): references, then the FA slices, then the persisting mismatch. -/
def twinArbitration (n : Nat) (refOk spareDisagrees : Bool) (slot : Nat) (s : State) : State :=
  let t := s.twin n
  if !t.arb then s
  else
    let s := s.setTwin n { t with arb := false, run := 0 }
    if !refOk then substitution F.DBG_OLT_STAT.TWIN_REDUCED (loseTwins (n / 12) 0x0822 (hkRefFail (n / 12) s))
    else if spareDisagrees then failSlice n (sliceAt s n slot) s
    else if t.lastBad then failChannel n 0x0820 s
    else s

/-- TWIN_STROBE_TIMEOUT (R159): every twin of the converter is lost with 0x0821; the HK inputs keep working. -/
def twinStrobeLost (c : Nat) (s : State) : State := substitution F.DBG_OLT_STAT.TWIN_REDUCED (loseTwins c 0x0821 s)

end Sys2Proof.Machine
end

