-- ==== Sys2Proof/Machine/Flyer.lean ====
section
/-! DEFINITION. The Flyer (chapter 9): sensor sources, trackers, back-EMF observers, loss, the compare unit, encoder
emulation and snapshot items. Angles are kept in 2^-64 turn, speeds in 2^-40 turn/s; the spec gives no width (log entry 62). -/

namespace Sys2Proof.Machine
open Sys2Proof

def State.src (s : State) (k : Nat) : SrcSt := SMap.get {} s.fly.src k
def State.setSrc (s : State) (k : Nat) (x : SrcSt) : State := { s with fly := { s.fly with src := SMap.put {} s.fly.src k x } }
def State.sens (s : State) (k : Nat) : SensSt := SMap.get {} s.fly.sens k
def State.setSens (s : State) (k : Nat) (x : SensSt) : State :=
  { s with fly := { s.fly with sens := SMap.put {} s.fly.sens k x } }
def State.trk (s : State) (m : Nat) : TrkSt := SMap.get {} s.fly.trk m
def State.setTrk (s : State) (m : Nat) (x : TrkSt) : State := { s with fly := { s.fly with trk := SMap.put {} s.fly.trk m x } }
def State.emf (s : State) (m : Nat) : EmfSt := SMap.get {} s.fly.emf m
def State.setEmf (s : State) (m : Nat) (x : EmfSt) : State := { s with fly := { s.fly with emf := SMap.put {} s.fly.emf m x } }
def State.emu (s : State) (e : Nat) : EmuSt := SMap.get {} s.fly.emu e
def State.setEmu (s : State) (e : Nat) (x : EmuSt) : State := { s with fly := { s.fly with emu := SMap.put {} s.fly.emu e x } }

/-! ### Angles and speeds -/

/-- 2π at scale 2^64, and √3 at scale 2^60. -/
def twoPi : Nat := 115904311329233965478
def sqrt3 : Nat := 1996918623117814388

/-- An angle in 2^-64 turn from any integer, and as the nearest way from 0. -/
def wrap64 (v : Int) : Nat := (v % 2 ^ 64).toNat
def near64 (v : Int) : Int := signed 64 (wrap64 v)
/-- Top 32 bits of an angle, rounded. -/
def angle32 (n : Nat) : Word := BitVec.ofNat 32 ((n + 2 ^ 31) / 2 ^ 32)

/-- Turn covered in d × 1.25 ns at ω and α. -/
def travel (omega alpha : Int) (d : Nat) : Int :=
  roundDiv (omega * 2 ^ 24 * d) 800000000 + roundDiv (alpha * 2 ^ 23 * (d * d : Nat)) 640000000000000000

/-- ω after d × 1.25 ns. -/
def omegaAfter (omega alpha : Int) (d : Nat) : Int := omega + roundDiv (alpha * d) 800000000

/-- A speed of n in 2^-40 electrical turn/s in Q2.29 per unit of SPD_BASE (R277). -/
def perUnit (s : State) (m : Nat) (n : Int) : Int :=
  let b := s.get F.FLY_MACH_BASE.SPD_BASE m
  if b = 0 then Config.noBase n else roundDiv (n * 1000) (2 ^ 11 * b)

def machSrc (s : State) (m : Nat) : Nat := s.get F.FLY_MACH_CFG.SRC m
def elRatio (s : State) (m : Nat) : Nat := max 1 (s.get F.FLY_MACH_CFG.EL_RATIO m)
def machSgn (s : State) (m : Nat) : Int := if s.getB F.FLY_MACH_CFG.SGN m then -1 else 1

/-- Electrical angle of θ, in 2^-64 turn (R277). -/
def elAngle (s : State) (m : Nat) (theta : Nat) : Nat :=
  wrap64 (machSgn s m * theta * elRatio s m + s.get F.FLY_MACH_OFS.EL_OFFSET m * 2 ^ 32)

/-- Electrical speed in Q2.29 per unit (R277). -/
def elSpeed (s : State) (m : Nat) (omega : Int) : Int := perUnit s m (machSgn s m * omega * elRatio s m)

/-- Mechanical angle in 2^-32 turn: (SECTOR + θ) / SENS_PP (R277). -/
def mechAngle (s : State) (m : Nat) (theta : Nat) : Nat :=
  let pp := s.get F.FLY_MACH_CFG.SENS_PP m + 1
  let sector := ((s.trk m).turns % pp).toNat
  ((sector * 2 ^ 64 + theta) / pp / 2 ^ 32) % 2 ^ 32

/-! ### Loss (R287, R288) -/

/-- Where a tracker's measurements are kept: its source, or 14 + m for its own back-EMF observer. -/
def srcKey (s : State) (m : Nat) : Nat := if machSrc s m = 14 then 14 + m else machSrc s m

/-- TRACKER_LOSS (R288), or one more cause of a tracker that is lost already. -/
def declareLoss (m cause : Nat) (s : State) : State :=
  if !s.getB F.FLY_MACH_CFG.EN m then s
  else
    let x := s.trk m
    let lost := s.getB F.FLY_MACH_STAT.LOST m
    let s := s.setBit F.FLY_MACH_STAT.LOSS_ALL (cause - 1) true m
    if lost then
      if x.stepCauses != 0 && decide (cause < s.get F.FLY_MACH_STAT.LOSS_CAUSE m) then s.set F.FLY_MACH_STAT.LOSS_CAUSE cause m else s
    else
      let s := (s.set F.FLY_MACH_STAT.LOST 1 m).set F.FLY_MACH_STAT.LOSS_CAUSE cause m
      let s := s.setTrk m { x with alpha := 0, lossSpd := elSpeed s m x.omega, stepCauses := putBit x.stepCauses cause true }
      let s := s.set F.FLY_MACH_STAT.XCHK_ACT 0 m
      let s := s.setSrc (srcKey s m) { s.src (srcKey s m) with goodRun := 0 }
      lossReact m (raise 129 (issue (0x0600 + cause) (s.get F.FLY_MACH_LOSS.LOSS_CLASS m) s))

/-- Loss with a cause on every tracker bound to source k. -/
def lossOfSrc (k cause : Nat) (s : State) : State :=
  [0, 1].foldl (fun s m => if machSrc s m == k then declareLoss m cause s else s) s

/-! ### Sources (R263 to R276) -/

/-- A source in a domain whose clock has stopped gives no measurement (R265). -/
def srcStale (s : State) (k : Nat) : Bool := decide (k < 14) && s.getB F.FLY_SRC_STAT.STALE k

/-- A valid measurement of source k, an angle in 2^-64 turn (R275). -/
def srcValid (k theta : Nat) (s : State) : State :=
  if srcStale s k then s
  else
    let x := s.src k
    let s := s.setSrc k { x with theta := theta, fresh0 := true, fresh1 := true, ever := true, errRun := 0, goodRun := x.goodRun + 1 }
    if k < 14 then
      let s := (s.set F.FLY_SRC_STAT.TIMEOUT 0 k).set F.FLY_SRC_STAT.ERR_RUN 0 k
      s.wr (F.FLY_SRC_VAL.VAL.addr k 0 0) (angle32 theta)
    else s

/-- An erroneous measurement of source k (R275): EV_FLY_SENS_ERR (130) for the first after a valid one; a run of SENS_ERR_N
declares loss with cause 5. -/
def srcError (k : Nat) (s : State) : State :=
  let x := s.src k
  let s := s.bump F.FLY_SRC_STAT.ERR_CNT F.FLY_SRC_STAT.SAT k
  let s := if x.ever && x.errRun == 0 then raise 130 s else s
  let s := s.setSrc k { x with errRun := x.errRun + 1, goodRun := 0 }
  if x.errRun + 1 = max 1 (s.get F.FLY_SRC_CFG.SENS_ERR_N k) then lossOfSrc k 5 (s.set F.FLY_SRC_STAT.ERR_RUN 1 k) else s

/-- STALE on a source (R265). -/
def staleSrc (k : Nat) (s : State) : State := lossOfSrc k 4 (s.set F.FLY_SRC_STAT.STALE 1 k)

/-- MEASUREMENT_TIMEOUT (R275). -/
def execMeasurementTimeout (src : Fin 14) (s : State) : Res :=
  .next (if s.get F.FLY_SRC_CFG.MEAS_TMO src == 0 then s
    else lossOfSrc src 4 ((s.set F.FLY_SRC_STAT.TIMEOUT 1 src).setSrc src { s.src src with goodRun := 0 }))

/-- Counts per turn of an encoder. -/
def encCpr (s : State) (n : Nat) : Nat := clampN 4 268435456 (s.get F.FLY_ENC_CPR.CPR n)

/-- One LSB of a source's reading, as counts per turn of θ (R278). -/
def countsOf (s : State) (k : Nat) : Nat :=
  if k < 4 then encCpr s k
  else if k < 6 then 6
  else if k < 8 then 65536
  else if k < 10 then 2 ^ s.get F.FLY_SER_CFG.BITS (k - 8)
  else if k < 14 then 2 ^ s.get F.FLY_SENT_CFG.FC_BITS (k - 10)
  else 4294967296

/-! ### Compare unit (R290 to R292) -/

/-- COMPARE_FIRE: FIRED, CMP_TS, EV_FLY_CMP (133), and disarmed or armed at VAL + STEP. -/
def cmpFire (c range : Nat) (s : State) : State :=
  let s := (s.set F.FLY_CMP_CFG.FIRED 1 c).set F.FLY_CMP_TS.CMP_TS s.ts32 c
  let s := if s.getB F.FLY_CMP_CFG.PERIODIC c then
      (s.set F.FLY_CMP_VAL.VAL ((s.get F.FLY_CMP_VAL.VAL c + s.get F.FLY_CMP_STEP.STEP c) % max range 1) c).set F.FLY_CMP_CFG.ARMED 1 c
    else s.set F.FLY_CMP_CFG.ARMED 0 c
  raise 133 s

/-- Range of a channel's source (0 without one), its present position, and whether the last count went up. -/
def cmpRange (s : State) (c : Nat) : Nat :=
  let k := s.get F.FLY_CMP_CFG.SRC c
  if k < 4 then encCpr s k else if k < 6 then 16777216 else 0
def cmpPos (s : State) (c : Nat) : Nat :=
  let k := s.get F.FLY_CMP_CFG.SRC c
  if k < 4 then s.get F.FLY_ENC_POS.POS k else (s.trk (k - 4)).mech / 256
def cmpUpward (s : State) (c : Nat) : Bool :=
  let k := s.get F.FLY_CMP_CFG.SRC c
  if k < 4 then (s.src k).dirUp else (s.trk (k - 4)).lastUp

/-- Channels of source k whose VAL satisfies `hit` fire. -/
def cmpCheck (k : Nat) (hit : Nat → Bool) (s : State) : State :=
  (List.range 8).foldl (fun s c =>
    if s.getB F.FLY_CMP_CFG.EN c && s.getB F.FLY_CMP_CFG.ARMED c && s.get F.FLY_CMP_CFG.SRC c == k &&
        hit (s.get F.FLY_CMP_VAL.VAL c) then cmpFire c (cmpRange s c) s
    else s) s

/-- A write of VAL (R291, R292); `reached`: the position reaches the old value in the same cycle. -/
def cmpWrite (c : Nat) (value : Word) (reached : Bool) (s : State) : State :=
  let s := if reached && s.getB F.FLY_CMP_CFG.EN c && s.getB F.FLY_CMP_CFG.ARMED c then cmpFire c (cmpRange s c) s else s
  let v := getBits value 27 0
  let r := cmpRange s c
  if v ≥ r then s.set F.FLY_CMP_CFG.VAL_ERR 1 c
  else
    let s := s.set F.FLY_CMP_VAL.VAL v c
    let p := cmpPos s c
    let behind := if cmpUpward s c then decide (v < p) else decide (p < v)
    if !s.getB F.FLY_CMP_CFG.EN c then s
    else if v = p || (behind && s.getB F.FLY_CMP_CFG.COMPARE_IMMEDIATE c) then cmpFire c r s
    else
      let s := s.set F.FLY_CMP_CFG.ARMED 1 c
      if behind then s.set F.FLY_CMP_CFG.COMPARE_BEHIND 1 c else s

def execCompareValWrite (m : Master) (c : Fin 8) (value : Word) (reached : Bool) (s : State) : Res :=
  .next (if s.regWriter m && s.pdReady 7 then (cmpWrite c value reached s).answer .done else busError s)

/-! ### Encoder emulation (R293, R294) -/

/-- `num` / `den` further output counts fall due, the remainder carried; BACKLOG at 65,535 holds the output. -/
def emuDue (e : Nat) (num den : Int) (s : State) : State :=
  if !s.getB F.FLY_EMU_CFG.EN e || s.get F.FLY_EMU_CFG.BACKLOG e == 65535 then s
  else
    let x := s.emu e
    let t := x.rem + num
    let due := x.due + t / den
    let s := (s.setEmu e { x with rem := t % den, due := due }).set F.FLY_EMU_CFG.BACKLOG (min due.natAbs 65535) e
    if due.natAbs ≥ 65535 then raise 134 (issue 0x0607 0 (s.set F.FLY_EMU_CFG.OVF 1 e)) else s

def emuNum (s : State) (e : Nat) : Nat := max 1 (s.get F.FLY_EMU_RATIO.NUM e)
def emuDen (s : State) (e : Nat) : Nat := max 1 (s.get F.FLY_EMU_RATIO.DEN e)

/-- EMULATION_EDGE: the next due edge is sent; Z at each multiple of EMU_CPR. -/
def execEmulationEdge (e : Fin 2) (s : State) : Res :=
  let x := s.emu e
  let cpr := max 1 (s.get F.FLY_EMU_CPR.EMU_CPR e)
  .next (if !s.getB F.FLY_EMU_CFG.EN e || s.get F.FLY_EMU_CFG.BACKLOG e == 65535 || x.due == 0 then s
    else
      let d : Int := if 0 < x.due then 1 else -1
      let pos := (((x.pos : Int) + d) % cpr).toNat
      (s.setEmu e { x with due := x.due - d, pos := pos, z := pos == 0 }).set F.FLY_EMU_CFG.BACKLOG (x.due - d).natAbs e)

/-- EN of an emulation output is set: it starts at the source's present position. -/
def emuEnable (e : Nat) (s : State) : State :=
  let cpr := max 1 (s.get F.FLY_EMU_CPR.EMU_CPR e)
  let k := s.get F.FLY_EMU_CFG.SRC e
  let pos := if s.getB F.FLY_EMU_CFG.KIND e then (s.trk k).mech * cpr / 4294967296
    else if k < 4 then s.get F.FLY_ENC_POS.POS k * emuNum s e / emuDen s e else 0
  ((s.setEmu e { pos := pos % cpr }).set F.FLY_EMU_CFG.BACKLOG 0 e).set F.FLY_EMU_CFG.EN 1 e

/-! ### Acquisition (R280, R283) -/

/-- TRACKER_ACQUIRE: θ takes the measurement; EV_FLY_ACQ (128). -/
def acquire (m theta ofs : Nat) (s : State) : State :=
  let x := s.trk m
  let w := if s.getB F.FLY_MACH_CFG.PRELOAD m && s.getB F.FLY_MACH_STAT.EMF_LOCK m then
      machSgn s m * roundDiv (s.emf m).omega (elRatio s m) else 0
  let s := s.setTrk m { x with
    theta := theta, omega := w, alpha := 0, tLast := x.steps * 2000, turns := 0, ofs := ofs, lastM := theta
    acqStep := x.steps, counts := 0, lossRun := 0, xchkRun := 0 }
  let s := (s.set F.FLY_MACH_STAT.ACQUIRED 1 m).set F.FLY_MACH_STAT.SPEED_VALID 0 m
  raise 128 (s.set F.FLY_MACH_STAT.DIR 0 m)

/-- Present angle of an encoder's count. -/
def encAngle (s : State) (n : Nat) : Nat := s.get F.FLY_ENC_POS.POS n * 2 ^ 64 / encCpr s n

/-- A tracker on an encoder acquires with θ at an angle. -/
def acquireEnc (m theta : Nat) (s : State) : State := acquire m theta (wrap64 ((theta : Int) - encAngle s (machSrc s m))) s

/-- The tracker waits for an encoder's acquisition. -/
def awaitsEnc (s : State) (m n : Nat) : Bool :=
  s.getB F.FLY_MACH_CFG.EN m && machSrc s m == n && decide (n < 4) && !s.getB F.FLY_MACH_STAT.ACQUIRED m && !s.getB F.FLY_MACH_STAT.LOST m

/-- EN of a tracker is set: it is to be acquired anew. -/
def trkEnable (m : Nat) (s : State) : State :=
  let s := (s.set F.FLY_MACH_CFG.EN 1 m).set F.FLY_MACH_STAT.ACQUIRED 0 m
  let s := (s.set F.FLY_MACH_STAT.SPEED_VALID 0 m).set F.FLY_MACH_STAT.DIR 0 m
  let k := srcKey s m
  s.setSrc k (if m = 0 then { s.src k with fresh0 := false } else { s.src k with fresh1 := false })

/-- A write of ACQ (R289, R280); only a checked output's counts. -/
def machAcq (mst : Master) (m : Nat) (useSet : Bool) (s : State) : State :=
  if !checkedOutput mst || !s.getB F.FLY_MACH_CFG.EN m then s
  else
    let k := srcKey s m
    let n := if k < 14 then max 1 (s.get F.FLY_SRC_CFG.SENS_ERR_N k) else 3
    let ok := decide (machSrc s m < 15) && decide (n ≤ (s.src k).goodRun) && !srcStale s k &&
      !(decide (k < 14) && s.getB F.FLY_SRC_STAT.TIMEOUT k) &&
      !((k == 6 || k == 7) && s.getB F.FLY_RES_CFG.EXC_FAULT (k - 6))
    let lost := s.getB F.FLY_MACH_STAT.LOST m
    if lost && !ok then s.set F.FLY_MACH_STAT.ACQ_REFUSED 1 m
    else
      let s := if lost then
          lossCleared m (((s.set F.FLY_MACH_STAT.LOST 0 m).set F.FLY_MACH_STAT.SPD_FROM_EMF 0 m).set F.FLY_MACH_STAT.ACQUIRED 0 m)
        else s
      if useSet && decide (machSrc s m < 4) then acquireEnc m (s.get F.FLY_MACH_ASET.ANGLE_SET m * 2 ^ 32) s else s

def execMachAcq (m : Master) (mach : Fin 2) (s : State) : Res :=
  .next (if s.regWriter m && s.pdReady 7 then (machAcq m mach false s).answer .done else busError s)
def execMachAcqUseSet (m : Master) (mach : Fin 2) (s : State) : Res :=
  .next (if s.regWriter m && s.pdReady 7 then (machAcq m mach true s).answer .done else busError s)

/-! ### Sensor rows -/

/-- Count an encoder by one (R267). -/
def encCount (n : Nat) (up : Bool) (s : State) : State :=
  let cpr := encCpr s n
  let p := s.get F.FLY_ENC_POS.POS n
  let x := s.sens n
  let wraps := if up then decide (p + 1 ≥ cpr) else p == 0
  let p' := if wraps then (if up then 0 else cpr - 1) else if up then p + 1 else p - 1
  let s := s.set F.FLY_ENC_POS.POS p' n
  if wraps then
    let s := s.set F.FLY_ENC_POS.WRAP 1 n
    let r := if up then x.rev + 1 else x.rev - 1
    let s := s.setSens n { x with rev := signed 32 (unsigned 32 r) }
    if r < min32 ∨ max32 < r then raise 137 (s.set F.FLY_ENC_POS.REV_WRAP 1 n) else s
  else s

/-- ENCODER_EDGE (R264, R266, R267): a filtered edge counts up or down as MODE decodes it, or is illegal. -/
def execEncoderEdge (n : Fin 4) (count : Option Bool) (s : State) : Res :=
  .next (if !s.getB F.FLY_ENC_CFG.EN n || !s.pdReady 7 then s
    else match count with
      | none => srcError n (s.bump F.FLY_SRC_STAT.ILLEGAL_CNT F.FLY_SRC_STAT.SAT n)
      | some d =>
        let up := d != s.getB F.FLY_ENC_CFG.DIR_INV n
        let s := encCount n up s
        let s := s.setSrc n { s.src n with dirUp := up }
        let s := srcValid n (encAngle s n) s
        let s := cmpCheck n (· == s.get F.FLY_ENC_POS.POS n) s
        [0, 1].foldl (fun s e =>
          if !s.getB F.FLY_EMU_CFG.KIND e && s.get F.FLY_EMU_CFG.SRC e == n.val then
            emuDue e (if up then emuNum s e else -(emuNum s e : Int)) (emuDen s e) s
          else s) s)

/-- Shorter distance between two counts modulo CPR. -/
def modDist (a b cpr : Nat) : Nat := min ((a + cpr - b) % cpr) ((b + cpr - a) % cpr)

/-- ENCODER_INDEX (R268, R280): a rising edge of Z, with A and B both high or not. -/
def execEncoderIndex (n : Fin 4) (abHigh : Bool) (s : State) : Res :=
  .next (if !s.getB F.FLY_ENC_CFG.EN n || !s.pdReady 7 || (s.getB F.FLY_ENC_CFG.ZGATE n && !abHigh) then s
    else
      let p := s.get F.FLY_ENC_POS.POS n
      let x := s.sens n
      let s := (s.set F.FLY_ENC_IDX.IDX_POS p n).set F.FLY_ENC_IDXREV.IDX_REV (unsigned 32 x.rev) n
      let s := raise 131 (s.set F.FLY_ENC_IDX.INDEX_SEEN 1 n)
      let s := match x.firstIdx with
        | none => s.setSens n { x with firstIdx := some p }
        | some f =>
          if s.getB F.FLY_ENC_CFG.IDX_CHK n && decide (modDist p f (encCpr s n) > s.get F.FLY_ENC_CFG.IDX_TOL n) then
            srcError n (raise 132 (issue 0x0606 0 (s.set F.FLY_ENC_IDX.IDX_ERR 1 n)))
          else s
      [0, 1].foldl (fun s m => if awaitsEnc s m n then acquireEnc m (s.get F.FLY_IDX_ANGLE.IDX_ANGLE m * 2 ^ 32) s else s) s)

/-- The capture of REV that a read of FLY_ENC_POS makes (R267). -/
def encCapture (n : Nat) (s : State) : State := s.set F.FLY_ENC_REV.REV (unsigned 32 (s.sens n).rev) n

/-- ENC_POS_READ (R267). -/
def execEncPosRead (m : Master) (n : Fin 4) (s : State) : Res :=
  .next (if (s.regWriter m || (m == .debug && decide (1 ≤ s.dbgLevel))) && s.pdReady 7 then
      (encCapture n s).answer (.data (s.rd (F.FLY_ENC_POS.POS.addr n 0 0)).toNat)
    else busError s)

/-- Sector of a Hall state W, V, U; absent for 0b000 and 0b111. -/
def hallSector (v : BitVec 3) : Option Nat :=
  match v.toNat with
  | 1 => some 0 | 3 => some 1 | 2 => some 2 | 6 => some 3 | 4 => some 4 | 5 => some 5
  | _ => none

/-- HALL_TRANSITION (R269, R280): the filtered inputs of a triplet change to `state`. -/
def execHallTransition (h : Fin 2) (state : BitVec 3) (s : State) : Res :=
  let k := 4 + h.val
  .next (if !s.getB F.FLY_HALL_CFG.EN h || !s.pdReady 7 then s
    else
      let s := s.set F.FLY_HALL_CFG.STATE state.toNat h
      match hallSector state with
      | none => srcError k s
      | some v =>
        let v := if s.getB F.FLY_HALL_CFG.DIR_INV h then 5 - v else v
        let old := (s.sens k).sector
        let s := s.setSens k { s.sens k with sector := some v }
        match old with
        | none => s
        | some o =>
          if v = o then s
          else if v = (o + 1) % 6 || o = (v + 1) % 6 then
            let up := v == (o + 1) % 6
            let edge := if up then o else v
            let th := s.get F.FLY_HALL_EDGE.ANGLE h edge * 2 ^ 48
            let s := srcValid k th (s.setSrc k { s.src k with dirUp := up })
            [0, 1].foldl (fun s m =>
              if awaitsEnc s m (machSrc s m) && s.getB F.FLY_MACH_CFG.AUX_EN m && s.get F.FLY_MACH_CFG.AUX_HALL m == h.val then
                -- θ such that the electrical angle is the Hall edge's
                let el := near64 ((th : Int) - s.get F.FLY_MACH_OFS.EL_OFFSET m * 2 ^ 32)
                acquireEnc m (wrap64 (machSgn s m * roundDiv el (elRatio s m))) s
              else s) s
          else srcError k s)

/-- RESOLVER_HALF_PERIOD (R270, R271): S and C of a half period of the excitation. -/
def execResolverHalfPeriod (r : Fin 2) (sinV cosV : Int) (s : State) : Res :=
  let k := 6 + r.val
  .next (if !s.getB F.FLY_RES_CFG.EN r || !s.pdReady 7 then s
    else
      let a2 := 4096 * (sinV * sinV + cosV * cosV).natAbs
      let nom := s.get F.FLY_RES_AMP.AMP_NOM r
      let lo := s.get F.FLY_RES_AMP.AMP_LO r * nom
      let hi := s.get F.FLY_RES_AMP.AMP_HI r * nom
      if a2 < lo * lo ∨ hi * hi < a2 then
        let n := (s.sens k).ampRun + 1
        let s := s.setSens k { s.sens k with ampRun := n }
        let s := s.setSrc k { s.src k with goodRun := 0 }
        if n = max 1 (s.get F.FLY_RES_AMP.AMP_N r) then lossOfSrc k 2 s else s
      else
        let s := s.setSens k { s.sens k with ampRun := 0 }
        srcValid k ((angleOf cosV sinV + 2 ^ 15) / 2 ^ 16 % 2 ^ 16 * 2 ^ 48) s)

/-- EXCITATION_FAULT (R271): an overload or open load appears or goes. -/
def execExcitationFault (r : Fin 2) (present : Bool) (s : State) : Res :=
  let was := s.getB F.FLY_RES_CFG.EXC_FAULT r
  let s := s.setB F.FLY_RES_CFG.EXC_FAULT present r
  .next (if present && !was then lossOfSrc (6 + r.val) 2 s else s)

/-- SERIAL_POLL (R273): a frame starts, unless one is in progress. -/
def execSerialPoll (k : Fin 2) (s : State) : Res :=
  let x := s.sens (8 + k.val)
  .next (if s.getB F.FLY_SER_CFG.EN k && s.pdReady 7 && !x.busy then s.setSens (8 + k.val) { x with busy := true, drop := false } else s)

/-- Binary of a Gray code of n bits. -/
def grayTo (n v : Nat) : Nat :=
  (List.range n).foldl (fun acc i => acc ^^^ (v / 2 ^ i)) 0 % 2 ^ n

/-- CRC-6 of BiSS-C, x^6 + x + 1, over the n low bits of v, first bit highest. -/
def crc6 (v : Nat) : Nat → BitVec 6 → BitVec 6
  | 0, c => c
  | n + 1, c => crc6 v n (if c.getLsbD 5 != v.testBit n then (c <<< 1) ^^^ 3 else c <<< 1)

/-- SERIAL_FRAME_END (R272, R273). -/
def execSerialFrameEnd (k : Fin 2) (frame : SerFrame) (s : State) : Res :=
  let q := 8 + k.val
  let x := s.sens q
  let bits := s.get F.FLY_SER_CFG.BITS k
  let s' := s.setSens q { x with busy := false, drop := false }
  .next (if !x.busy then s
    else if x.drop then s'
    else if !s.getB F.FLY_SER_CFG.PROTO k then
      let v := if s.getB F.FLY_SER_CFG.GRAY k then grayTo bits frame.data else frame.data % 2 ^ bits
      if frame.rulesOk then srcValid q (v * 2 ^ 64 / 2 ^ bits) s' else srcError q s'
    else
      let word := (frame.data % 2 ^ bits * 2 + (if frame.ne then 1 else 0)) * 2 + (if frame.nw then 1 else 0)
      let s' := if frame.nw then s' else s'.set F.FLY_SRC_STAT.WARN 1 q
      if frame.rulesOk && frame.ne && frame.crc == ~~~(crc6 word (bits + 2) 0) then
        let v := if bits > 32 then frame.data % 2 ^ bits / 2 ^ (bits - 32) * 2 ^ 32 else frame.data % 2 ^ bits * 2 ^ 64 / 2 ^ bits
        srcValid q v s'
      else srcError q s')

/-- SERIAL_TIMEOUT (R273): no start bit within TMO. -/
def execSerialTimeout (k : Fin 2) (s : State) : Res :=
  let q := 8 + k.val
  let x := s.sens q
  .next (if !x.busy then s
    else
      let s' := s.setSens q { x with busy := false, drop := false }
      if x.drop then s' else srcError q s')

/-- The CRC-4 table of SAE J2716, x^4 + x^3 + x^2 + 1. -/
def crc4Table (n : Nat) : Nat := ([0, 13, 7, 10, 14, 3, 9, 4, 1, 12, 6, 11, 15, 2, 8, 5].getD (n % 16) 0)

/-- CRC of a SENT frame's data nibbles, seed 0b0101; the recommended form appends a zero nibble. -/
def sentCrc (legacy : Bool) (ns : List (Fin 16)) : Nat :=
  let c := ns.foldl (fun c d => crc4Table c ^^^ d.val) 5
  if legacy then c else crc4Table c

/-- SENT_FRAME (R274): a frame with its data nibbles and CRC; `syncOk` that its sync pulse kept both limits; `slow` a
serial message its status bits complete. -/
def execSentFrame (k : Fin 4) (nibbles : List (Fin 16)) (crc : Fin 16) (syncOk : Bool) (slow : Option SlowMsg) (s : State) : Res :=
  let q := 10 + k.val
  .next (if !s.getB F.FLY_SENT_CFG.EN k || !s.pdReady 7 then s
    else
      let bits := s.get F.FLY_SENT_CFG.FC_BITS k
      let all := nibbles.foldl (fun v d => 16 * v + d.val) 0
      let pos := all / 2 ^ s.get F.FLY_SENT_CFG.FC_LSB k % 2 ^ bits
      if syncOk && nibbles.length == s.get F.FLY_SENT_CFG.NIBBLES k && crc.val == sentCrc (s.getB F.FLY_SENT_CFG.CRC_MODE k) nibbles then
        let s := srcValid q (pos * 2 ^ 64 / 2 ^ bits) s
        match slow with
        | none => s
        | some g =>
          if g.crcOk then
            let s := (s.set F.FLY_SENT_SLOW.NEW 1 k).setB F.FLY_SENT_SLOW.ENH g.enh k
            (s.set F.FLY_SENT_SLOW.ID g.id.toNat k).set F.FLY_SENT_SLOW.DATA g.data.toNat k
          else s.bump F.FLY_SRC_STAT.ERR_CNT F.FLY_SRC_STAT.SAT q
      else srcError q s)

/-! ### Trackers (R277 to R286) -/

/-- apply(θm, tm) of R278, with the measurement `age` × 1.25 ns old, and the innovation's check (R287, cause 1). -/
def trkApply (m thetaM age : Nat) (s : State) : State :=
  let x := s.trk m
  let bw := twoPi * s.get F.FLY_MACH_CFG.OBS_BW m
  let tm : Int := x.steps * 2000 - age
  let n := (tm - x.tLast).toNat
  let k := min (bw * n / 800000000) (3 * 2 ^ 64 / 10)
  let e := near64 ((thetaM : Int) - ((x.theta : Int) - travel x.omega 0 age))
  let th := (x.theta : Int) + roundDiv (3 * k * e) (2 ^ 64)
  let x := { x with
    theta := wrap64 th, turns := x.turns + th / 2 ^ 64, tLast := tm
    omega := x.omega + roundDiv (3 * bw * k * e) (2 ^ 152)
    alpha := x.alpha + roundDiv (bw * bw * k * e) (2 ^ 216) }
  if machSrc s m < 14 && decide (e.natAbs * elRatio s m > s.get F.FLY_MACH_LOSS.LOSS_THR m * 2 ^ 54) then
    let s := s.setTrk m { x with lossRun := x.lossRun + 1 }
    if x.lossRun + 1 = max 1 (s.get F.FLY_MACH_LOSS.LOSS_N m) then declareLoss m 1 s else s
  else s.setTrk m { x with lossRun := 0 }

/-- SPD, SPEED_LOW of a speed in Q2.29 (R284). -/
def spdBand (s : State) (m : Nat) (w : Int) : Int := if w.natAbs < s.get F.FLY_MACH_SMIN.SPEED_MIN m then 0 else w

/-- The speed SPD is formed from, and whether it is the back-EMF's: the tracker's, or while LOST the larger of two (R288). -/
def spdSource (s : State) (m : Nat) (omega emfOmega : Int) : Int × Bool :=
  if s.getB F.FLY_MACH_STAT.LOST m then
    let l := (s.trk m).lossSpd
    let w := perUnit s m emfOmega
    if s.getB F.FLY_MACH_STAT.EMF_LOCK m && decide (l.natAbs < w.natAbs) then (w, true) else (l, false)
  else (elSpeed s m omega, false)

/-- What a tracker reports after a step (R283 to R285, R288), and what the protection sets see of it (R257). -/
def trkReport (m : Nat) (s : State) : State :=
  let x := s.trk m
  let (w, emf) := spdSource s m x.omega (s.emf m).omega
  let spd := spdBand s m w
  let s := s.setI F.FLY_MACH_SPD.SPD (clampI min32 max32 spd) m
  let s := (s.setB F.FLY_MACH_STAT.SPD_FROM_EMF emf m).setB F.FLY_MACH_STAT.SPEED_LOW (decide (w.natAbs < s.get F.FLY_MACH_SMIN.SPEED_MIN m)) m
  let s := if w.natAbs > s.get F.FLY_MACH_SMIN.SPEED_MIN m + s.get F.FLY_MACH_SHYS.SPEED_HYS m then
      s.setB F.FLY_MACH_STAT.DIR (decide (w < 0)) m else s
  let s := if !s.getB F.FLY_MACH_STAT.SPEED_VALID m && decide (2 ≤ x.counts) &&
        decide ((x.steps - x.acqStep) * 2000 * (twoPi * s.get F.FLY_MACH_CFG.OBS_BW m) ≥ 3200000000 * 2 ^ 64) then
      raise 136 (s.set F.FLY_MACH_STAT.SPEED_VALID 1 m) else s
  if s.getB F.FLY_MACH_STAT.SPEED_VALID m then
    let s := { s with pwm := { s.pwm with
      lastSpd := SMap.put 0 s.pwm.lastSpd m spd, lastThe := SMap.put 0 s.pwm.lastThe m (angle32 (elAngle s m x.theta)) } }
    (List.range 16).foldl (fun s p => if s.get F.GIF_PSET_CFG.SPD_SRC p == m then aboveChanged p s else s) s
  else s

/-- The mechanical position after a step: compare channels and emulation outputs of the tracker follow. -/
def trkMoved (m : Nat) (s : State) : State :=
  let x := s.trk m
  let new := mechAngle s m x.theta
  let d := signed 32 ((new + 2 ^ 32 - x.mech) % 2 ^ 32)
  let d24 := signed 24 ((new / 256 + 2 ^ 24 - x.mech / 256) % 2 ^ 24)
  let s := s.setTrk m { x with mech := new, lastUp := if d = 0 then x.lastUp else decide (0 < d) }
  let s := if d24 = 0 then s
    else
      let a := x.mech / 256
      cmpCheck (4 + m) (fun v =>
        let t := if 0 < d24 then (v + 2 ^ 24 - a) % 2 ^ 24 else (a + 2 ^ 24 - v) % 2 ^ 24
        decide (0 < t ∧ t ≤ d24.natAbs)) s
  [0, 1].foldl (fun s e =>
    if s.getB F.FLY_EMU_CFG.KIND e && s.get F.FLY_EMU_CFG.SRC e == m then
      emuDue e (d * max 1 (s.get F.FLY_EMU_CPR.EMU_CPR e)) 4294967296 s
    else s) s

/-- Distance from the last edge of a counting source, and one count of it, in 2^-64 turn (R278). -/
def lastEdge (s : State) (m : Nat) : Nat := wrap64 (((s.src (srcKey s m)).theta : Int) + (s.trk m).ofs)
def oneCount (s : State) (m : Nat) : Nat := 2 ^ 64 / max 1 (countsOf s (srcKey s m))

/-- The measurement part of a step: the new one, or one count from the last edge towards the prediction. -/
def trkMeasure (m age : Nat) (fresh : Bool) (s : State) : State :=
  let x := s.trk m
  if s.getB F.FLY_MACH_STAT.LOST m then s
  else if fresh then
    let th := lastEdge s m
    let moved := (near64 ((th : Int) - x.lastM)).natAbs
    let s := s.setTrk m { x with lastM := th, counts := x.counts + (moved + oneCount s m / 2) / oneCount s m }
    trkApply m th age s
  else
    let d := near64 ((x.theta : Int) - lastEdge s m)
    if decide (machSrc s m < 6) && (s.src (srcKey s m)).ever && decide (d.natAbs > oneCount s m) then
      trkApply m (wrap64 ((lastEdge s m : Int) + (if 0 < d then (oneCount s m : Int) else -(oneCount s m : Int)))) 0 s
    else s

/-- Every 40th step (0.1 ms) the running REACQ timers of the machine's sets count down. -/
def reacqTick (m : Nat) (s : State) : State :=
  if (s.trk m).steps % 40 = 0 then
    (List.range 16).foldl (fun s p =>
      if s.get F.GIF_PSET_CFG.SPD_SRC p == m then
        s.set F.GIF_PSET_LOSS.REACQ_LEFT (s.get F.GIF_PSET_LOSS.REACQ_LEFT p - 1) p else s) s
  else s

/-- An acquired tracker's step: it is carried on by its speed, and takes a new measurement (R276, R278). -/
def trkPropagate (m age : Nat) (fresh : Bool) (s : State) : State :=
  let x := s.trk m
  let th := (x.theta : Int) + travel x.omega x.alpha 2000
  let s := s.setTrk m { x with
    theta := wrap64 th, turns := x.turns + th / 2 ^ 64, omega := omegaAfter x.omega x.alpha 2000 }
  trkMoved m (trkMeasure m age fresh s)

/-- TRACKER_STEP (R278): one step of machine m's tracker; a new measurement is `age` × 1.25 ns old. -/
def execTrackerStep (mach : Fin 2) (age : Nat) (s : State) : Res :=
  let m := mach.val
  .next (if !s.pdReady 7 then s
    else
      let x := s.trk m
      let s := reacqTick m (s.setTrk m { x with steps := x.steps + 1, stepCauses := 0 })
      if !s.getB F.FLY_MACH_CFG.EN m then
        ((s.set F.FLY_MACH_STAT.ACQUIRED 0 m).set F.FLY_MACH_STAT.XCHK_ACT 0 m)
      else
        let k := srcKey s m
        let q := s.src k
        let fresh := (if m = 0 then q.fresh0 else q.fresh1) && !srcStale s k && decide (machSrc s m < 15)
        let s := s.setSrc k (if m = 0 then { q with fresh0 := false } else { q with fresh1 := false })
        let s := if s.getB F.FLY_MACH_STAT.ACQUIRED m then trkPropagate m age fresh s
          else if fresh && decide (4 ≤ machSrc s m) && !s.getB F.FLY_MACH_STAT.LOST m then acquire m q.theta 0 s
          else s
        trkReport m s)

/-! ### The back-EMF observer (R281, R282) -/

/-- One update of observer m from four per-unit values in Q2.29; `ok` that all are valid, `wlen` the window in 1.25 ns. -/
def emfStep (s : State) (m : Nat) (vUV vVW iU iV : Int) (wlen : Nat) : EmfSt × Int × Int × Int :=
  let x := s.emf m
  let x := if x.written then
      { x with r := s.getI F.FLY_EMF_R.EMF_R m, l := s.getI F.FLY_EMF_L.EMF_L m, written := false } else x
  let va := roundDiv ((2 * vUV + vVW) * 2 ^ 29) 3
  let vb := roundDiv (vVW * 2 ^ 89) sqrt3
  let ia := iU * 2 ^ 29
  let ib := roundDiv ((iU + 2 * iV) * 2 ^ 89) sqrt3
  let ts : Int := wlen
  let hpf := s.get F.FLY_EMF_PAR.EMF_HPF m
  let flux (p v i : Int) : Int :=
    p + roundDiv (twoPi * s.get F.FLY_MACH_BASE.SPD_BASE m * ts * (v - roundDiv (x.r * i) (2 ^ 29))) (2 ^ 64 * 800000000000)
      - roundDiv (twoPi * hpf * ts * p) (2 ^ 64 * 800000000)
  let pa := flux x.psiA va ia
  let pb := flux x.psiB vb ib
  let la := pa - roundDiv (x.l * ia) (2 ^ 29)
  let lb := pb - roundDiv (x.l * ib) (2 ^ 29)
  let lag : Int := angleOf x.omega.natAbs (hpf * 2 ^ 40) * 2 ^ 32
  let phi := (angleOf la lb : Int) * 2 ^ 32 - (if x.omega = 0 then 0 else if 0 < x.omega then lag else -lag)
  let e := near64 (phi - x.theta)
  let bw := twoPi * s.get F.FLY_EMF_PAR.EMF_BW m
  let w := x.omega + roundDiv (bw * bw * ts * e) (2 ^ 152 * 800000000)
  let th := (x.theta : Int) + roundDiv (w * 2 ^ 24 * ts) 800000000 + roundDiv (2 * bw * ts * e) (2 ^ 64 * 800000000)
  ({ x with psiA := pa, psiB := pb, omega := w, theta := wrap64 th }, e, la, lb)

/-- |ω_pll| × |λ| ≥ EMF_MIN, all per unit. -/
def emfStrong (s : State) (m : Nat) (w la lb : Int) : Bool :=
  let a := w.natAbs * 1000 * 256
  let b := s.get F.FLY_EMF_PAR.EMF_MIN m * 2 ^ 98 * s.get F.FLY_MACH_BASE.SPD_BASE m
  decide (a * a * (la * la + lb * lb).natAbs ≥ b * b)

/-- EMF_LOCK as it is to be, with what it does to the loss reaction and to a tracker on SRC 14. -/
def emfLock (m : Nat) (b : Bool) (s : State) : State :=
  if s.getB F.FLY_MACH_STAT.EMF_LOCK m == b then s
  else if b then lossLocked m (showLock m true s) else lossUnlocked m (showLock m false s)

/-- The cross-check of R287, cause 3, at an update; the tracker is extrapolated by `d` × 1.25 ns. -/
def crossCheck (m d : Nat) (s : State) : State :=
  let x := s.trk m
  let act := s.getB F.FLY_MACH_CFG.EN m && s.getB F.FLY_MACH_STAT.ACQUIRED m && s.getB F.FLY_MACH_STAT.EMF_LOCK m &&
    !s.getB F.FLY_MACH_STAT.LOST m && machSrc s m != 14
  let s := s.setB F.FLY_MACH_STAT.XCHK_ACT act m
  if act then
    let th := wrap64 ((x.theta : Int) + travel x.omega x.alpha d)
    let e := near64 ((elAngle s m th : Int) - (s.emf m).theta)
    if e.natAbs > s.get F.FLY_MACH_LOSS.ANGLE_XCHK m * 2 ^ 54 then
      let s := s.setTrk m { x with xchkRun := x.xchkRun + 1 }
      if x.xchkRun + 1 ≥ max 1 (s.get F.FLY_MACH_LOSS.XCHK_N m) then declareLoss m 3 s else s
    else s.setTrk m { x with xchkRun := 0 }
  else s.setTrk m { x with xchkRun := 0 }

/-- EMF_UPDATE of machine m (R281, R282). -/
def emfUpdate (m : Nat) (vUV vVW iU iV : Int) (ok : Bool) (wlen d : Nat) (s : State) : State :=
  if !s.getB F.FLY_EMF_CFG.EN m then emfLock m false (s.set F.FLY_MACH_STAT.EMF_VALID 0 m)
  else
    let (x, e, la, lb) := emfStep s m vUV vVW iU iV wlen
    let valid := ok && emfStrong s m x.omega la lb
    let near := decide (e.natAbs < s.get F.FLY_EMF_PAR.EMF_LOCK_THR m * 2 ^ 54)
    let lockT := if valid && near then x.lockT + wlen else 0
    let bad := if near then 0 else x.badRun + 1
    let locked := s.getB F.FLY_MACH_STAT.EMF_LOCK m
    let lock := valid && (if locked then decide (bad < 4) else
      near && decide (lockT * x.omega.natAbs ≥ 1600000000 * 2 ^ 40) && decide (160000 ≤ lockT))
    let s := s.setEmf m { x with lockT := lockT, badRun := bad }
    let s := emfLock m lock (s.setB F.FLY_MACH_STAT.EMF_VALID valid m)
    let s := if lock then srcValid (14 + m) x.theta s else s
    crossCheck m d s

/-! ### Snapshots (R279, R295) -/

/-- Item number i at an instant. -/
def snapItem (s : State) (i : Nat) (d : SnapAge) : Option Word :=
  if i < 16 then
    let m := i / 8
    let x := s.trk m
    let ok := s.getB F.FLY_MACH_CFG.EN m && s.getB F.FLY_MACH_STAT.ACQUIRED m && !s.getB F.FLY_MACH_STAT.LOST m
    let un := (x.theta : Int) + travel x.omega x.alpha d.trk
    let th := wrap64 un
    let w := omegaAfter x.omega x.alpha d.trk
    let turns := x.turns + un / 2 ^ 64
    let pp : Int := s.get F.FLY_MACH_CFG.SENS_PP m + 1
    let y := s.emf m
    let de := if m = 0 then d.emf0 else d.emf1
    let valid := s.getB F.FLY_MACH_STAT.EMF_VALID m
    let onlyIf (b : Bool) (v : Word) : Option Word := if b then some v else none
    match i % 8 with
    | 0 => onlyIf ok (angle32 (elAngle s m th))
    | 1 => onlyIf ok (sat32 (spdBand s m (elSpeed s m w))).1
    | 2 => onlyIf ok (ofSint ((turns % pp * 2 ^ 64 + th) / pp / 2 ^ 32))
    | 3 => onlyIf ok (sat32 (roundDiv (elSpeed s m x.alpha) 100)).1
    | 4 => onlyIf valid (angle32 (wrap64 ((y.theta : Int) + travel y.omega 0 de)))
    | 5 => onlyIf valid (sat32 (perUnit s m y.omega)).1
    | 6 => some (s.rd (F.FLY_MACH_STAT.ACQUIRED.addr m 0 0))
    | _ => onlyIf ok (ofSint (turns / pp))
  else if i < 20 then
    if srcStale s (i - 16) then none else some (BitVec.ofNat 32 (s.get F.FLY_ENC_POS.POS (i - 16)))
  else if i < 26 then
    let k := i - 12
    if (s.src k).ever && (s.src k).errRun == 0 && !s.getB F.FLY_SRC_STAT.TIMEOUT k && !srcStale s k then
      some (s.rd (F.FLY_SRC_VAL.VAL.addr k 0 0))
    else none
  else none

/-- A window end (n, w) triggers a TIMED loop of Whorl v whose input range holds port p. -/
def snapDue (s : State) (n w v p : Nat) : Bool :=
  (List.range 8).any (fun l =>
    s.getB F.WHL_LOOP_CFG.EN v l && !s.getB F.WHL_LOOP_CFG.KIND v l && s.get F.WHL_LOOP_CFG.TRIG_CH v l == n &&
    s.get F.WHL_LOOP_CFG.TRIG_WIN v l == w && decide (s.get F.WHL_LOOP_IO.IN_BASE v l ≤ p) &&
    decide (p ≤ s.get F.WHL_LOOP_IO.IN_BASE v l + s.get F.WHL_LOOP_IO.IN_N_M1 v l))

/-- SNAPSHOT at the end of window (n, w): the mapped items wait for the window's delivery (R10). -/
def takeSnapshot (n w : Nat) (d : SnapAge) (s : State) : State :=
  if !s.pdReady 7 then s
  else
    let items := (List.range 32).filterMap (fun k =>
      let v := s.get F.FLY_SNAP_MAP.WHORL k
      let p := s.get F.FLY_SNAP_MAP.PORT k
      if s.getB F.FLY_SNAP_MAP.EN k && snapDue s n w v p then
        some { whorl := v, port := p, value := snapItem s (s.get F.FLY_SNAP_MAP.ITEM k) d : SnapItem }
      else none)
    { s with fly := { s.fly with snaps := SMap.put [] s.fly.snaps (2 * n + w) items } }

/-! ### Clearing EN (R296) -/

/-- Whether a source's EN is set, and clearing it. -/
def srcEnFld (k : Nat) : Fld × Nat :=
  if k < 4 then (F.FLY_ENC_CFG.EN, k) else if k < 6 then (F.FLY_HALL_CFG.EN, k - 4) else if k < 8 then (F.FLY_RES_CFG.EN, k - 6)
  else if k < 10 then (F.FLY_SER_CFG.EN, k - 8) else (F.FLY_SENT_CFG.EN, k - 10)

def flyDisable (u : FlyUnit) (s : State) : State :=
  match u with
  | .source k =>
    let s := s.set (srcEnFld k).1 0 (srcEnFld k).2
    s.setSens k { s.sens k with drop := (s.sens k).busy }
  | .tracker m => s.set F.FLY_MACH_CFG.EN 0 m
  | .compare c => (s.set F.FLY_CMP_CFG.EN 0 c).set F.FLY_CMP_CFG.ARMED 0 c
  | .emulation e => s.set F.FLY_EMU_CFG.EN 0 e

/-- FLYER_UNIT_DISABLE. -/
def execFlyerUnitDisable (m : Master) (unit : FlyUnit) (s : State) : Res :=
  .next (if s.regWriter m && s.pdReady 7 then (flyDisable unit s).answer .done else busError s)

/-- EN of a source is set: its index reference, direction, Hall reference and runs start anew. -/
def srcEnable (k : Nat) (s : State) : State :=
  let s := s.set (srcEnFld k).1 1 (srcEnFld k).2
  let s := s.setSens k { s.sens k with firstIdx := none, sector := none, ampRun := 0, drop := false }
  s.setSrc k { s.src k with ever := false, errRun := 0, goodRun := 0, dirUp := true, fresh0 := false, fresh1 := false }

/-! ### The REACQ timer and CLEAR (R259, R319, R322) -/

/-- REACQ_TIMEOUT (R319): 0x0A0D; LIMP with SENSORLESS_OK, else SAFE_ASC from ASC and SAFE_OFF from COAST. -/
def execReacqTimeout (p : Fin 16) (s : State) : Res :=
  let l := s.get F.GIF_PSET_LOSS.LSTATE p
  .next (if l = 1 ∨ l = 2 then
      let cls := if s.getB F.GIF_PSET_LOSS.SENSORLESS_OK p then 2 else if l = 1 then 3 else 4
      let s := (s.set F.GIF_PSET_LOSS.LSTATE 4 p).set F.GIF_PSET_LOSS.REACQ_LEFT 0 p
      issueFor (.pset p) 0x0A0D cls (s.set F.GIF_PSET_STAT.LAST_CODE 0x0A0D p)
    else s)

/-- A GFLT of the set is asserted, or a comparator of it is outside its window (R259). -/
def setBlocked (s : State) (p : Nat) : Bool :=
  (List.range 16).any (fun i =>
    s.getB F.GIF_GFLT_CFG.EN i && s.getB F.GIF_GFLT_CFG.ACTIVE i &&
      (if s.getB F.GIF_GFLT_CFG.TGT_KIND i then s.get F.GIF_GFLT_CFG.PSET i == p
       else s.get F.PWM_LEG_CFG.PSET (s.get F.GIF_GFLT_CFG.LEG i) == p)) ||
  (List.range 48).any (fun c => s.getB F.GIF_COMP_CFG.EN c && s.get F.GIF_COMP_CFG.PSET c == p && (s.compar c).out != 0)

/-- CMD = CLEAR on set p (R259, R261, R319, R322). -/
def psetClear (m : Master) (p : Nat) (s : State) : State :=
  if !checkedOutput m || setBlocked s p || s.psetState p == 1 then s
  else
    let was := s.psetState p
    let mm := s.get F.GIF_PSET_CFG.SPD_SRC p
    let lost := decide (mm < 2) && s.getB F.FLY_MACH_STAT.LOST mm && s.getB F.GIF_PSET_LOSS.LOSS_EN p
    let l := s.get F.GIF_PSET_LOSS.LSTATE p
    let s := s.setPset p { s.pset p with findings := [], wasOn := [], request := 0 }
    let s := disarm (legsOfSet s p) s
    let s := enterState p 0 s
    if !lost then
      lossOff p false ((s.set F.GIF_PSET_LOSS.LSTATE 0 p).set F.GIF_PSET_LOSS.REACQ_LEFT 0 p)
    else if l = 4 && s.getB F.GIF_PSET_LOSS.SENSORLESS_OK p then lossOff p false (s.set F.GIF_PSET_LOSS.LSTATE 3 p)
    else if was != 0 || l = 4 then aboveChanged p (lossCoast p s)
    else s

def execPsetClear (m : Master) (p : Fin 16) (s : State) : Res :=
  .next (if s.regWriter m && s.pdReady 7 then (psetClear m p s).answer .done else busError s)

end Sys2Proof.Machine
end

