-- ==== Sys2Proof/Machine/UpdHooks.lean ====
section
/-! DEFINITION. What field update (chapter 18) shares with the engines it updates: verified copies, the journal's steps, an activation
that has taken effect or failed, and a revert that begins. -/

namespace Sys2Proof.Machine
open Sys2Proof

/-- Place a component's bytes in memory, whole words at a time (R543): poison goes. -/
def place (key : Nat) (data : List Byte) (s : State) : State :=
  let s := { s with fab := { s.fab with poison := s.fab.poison.filter (fun k => !(decide (key ≤ k) && decide (k < key + data.length))) } }
  s.setBytes key data

/-- Key of a verified copy: component type and instance. -/
def imgKey (type inst : Nat) : Nat := type * 256 + inst

def State.setLoader (s : State) (x : LoaderSt) : State := { s with sys := { s.sys with loader := x } }
def State.journal (s : State) : Journal := s.tnd.priv.journal
def State.setJournal (s : State) (j : Journal) : State := { s with tnd := { s.tnd with priv := { s.tnd.priv with journal := j } } }
def State.setUpd (s : State) (x : UpdSt) : State := { s with upd := x }

/-- The verified copy of a component that a reset or reload takes. -/
def verified (s : State) (type inst : Nat) : List Byte := SMap.get [] s.sys.loader.images (imgKey type inst)

/-- Replace a component's verified copy. -/
def setVerified (type inst : Nat) (data : List Byte) (s : State) : State :=
  s.setLoader { s.sys.loader with images := SMap.put [] s.sys.loader.images (imgKey type inst) data }

/-! ### Steps of the journal (R513): 0 none, 1 writing, 2 written, 3 active, 4 confirming, 5 confirmed -/

def State.stepState (s : State) (k : Nat) : Nat := SMap.get 0 s.journal.steps k
def State.setStep (s : State) (k v : Nat) : State := s.setJournal { s.journal with steps := SMap.put 0 s.journal.steps k v }

/-- Step k of the manifest in progress. -/
def manStep (s : State) (k : Nat) : Option ManStep := s.upd.man.bind (fun m => m.steps[k]?)

/-- The step that updates a component. -/
def stepOf (s : State) (type inst : Nat) : Option Nat :=
  match s.upd.man with
  | none => none
  | some m => (List.range m.steps.length).find? (fun k =>
    match m.steps[k]? with
    | some x => x.desc.type == type && x.desc.inst == inst
    | none => false)

/-- Number of the present update mailbox command's outcome: it ends with this result and data. -/
def tndEnd (result : Nat) (out : List Byte) (s : State) : State :=
  match s.tnd.serving with
  | some (mb, d) => if d.wait then { s with tnd := { s.tnd with serving := some (mb, { result := result, out := out, wait := false }) } } else s
  | none => s

/-- UPD_STAT.STATE as the journal stands: PROBATION once a step is active, else ACCEPTED, else IDLE. -/
def updShowState (s : State) : State :=
  let j := s.journal
  s.set F.UPD_STAT.STATE (if s.upd.revertAt.isSome then 6 else if j.steps.any (fun e => e.2 == 3) then 4 else if j.nSteps != 0 then 1 else 0)

/-- REASON, in the journal and in UPD_STAT. -/
def updReason (r : Nat) (s : State) : State := (s.setJournal { s.journal with reason := r }).set F.UPD_STAT.REASON r

/-- A component description from a descriptor. -/
def compOf (d : Descriptor) : CompInfo :=
  { type := d.type, inst := d.inst, version := d.version, hash := d.hash, provides := d.provides, requires := d.requires }

/-- The running combination with a component replaced. -/
def replaceComp (c : CompInfo) (s : State) : State :=
  s.setLoader { s.sys.loader with done := s.sys.loader.done.map (fun x => if x.type = c.type ∧ x.inst = c.inst then c else x) }

/-- Step k is active (R516, R520): the running combination and the deadline change; EV_UPD_ACTIVE (57); the command ends. -/
def stepActive (k : Nat) (s : State) : State :=
  match manStep s k with
  | none => s
  | some x =>
    let old := s.sys.loader.done.filter (fun c => c.type == x.desc.type && c.inst == x.desc.inst)
    let s := if x.act then s else
      setVerified x.desc.type x.desc.inst (SMap.get [] s.upd.newImg (imgKey x.desc.type x.desc.inst)) (replaceComp (compOf x.desc) s)
    let s := s.setStep k 3
    let s := s.setJournal { s.journal with deadline := s.get F.EMB_RTC_SEC.SEC + s.journal.probT }
    let s := s.setUpd { s.upd with oldComp := s.upd.oldComp ++ old }
    let s := updShowState (s.set F.UPD_STAT.OLD_KEPT 1)
    tndEnd 0 [BitVec.ofNat 8 k] (raise 57 s)

/-- An activation is abandoned (R517, R518): the step stays written; 0x0222, class REPORT. -/
def activateFail (reason : Nat) (s : State) : State :=
  tndEnd 11 [] (updShowState (updReason reason (issue 0x0222 0 s)))

/-- A handover for an update has switched from Whorl a to Whorl b (R517, R522): the new, or again the old, copy is the verified one of
the Whorl that now runs it. -/
def updWhorlSwitched (a b : Nat) (s : State) : State :=
  let unwant (s : State) : State := s.setUpd { s.upd with want := SMap.put 0 s.upd.want (16 + a) 0 }
  match SMap.get 0 s.upd.want (16 + a), stepOf s 5 a with
  | 1, some k =>
    let old := SMap.get [] s.upd.oldImg (imgKey 5 a)
    let s := setVerified 5 b (SMap.get [] s.upd.newImg (imgKey 5 a)) (stepActive k (unwant s))
    s.setUpd { s.upd with oldImg := SMap.put [] s.upd.oldImg (imgKey 5 b) old, loc := SMap.put 0 s.upd.loc a (b + 1) }
  | 2, _ => setVerified 5 b (SMap.get [] s.upd.oldImg (imgKey 5 a)) (unwant s)
  | _, _ => s

/-- A handover of Whorl w for an update is abandoned (R517): REASON 11. -/
def updWhorlAbort (w : Nat) (s : State) : State :=
  if SMap.get 0 s.upd.want (16 + w) = 1 then
    activateFail 11 (s.setUpd { s.upd with want := SMap.put 0 s.upd.want (16 + w) 0 })
  else s

/-- The copy a standby takes the code and tables of Whorl t from (R192, R517). -/
def whorlImage (s : State) (t : Nat) : List Byte :=
  match SMap.get 0 s.upd.want (16 + t) with
  | 1 => SMap.get [] s.upd.newImg (imgKey 5 t)
  | 2 => SMap.get [] s.upd.oldImg (imgKey 5 t)
  | _ => verified s 5 t

/-- A revert begins (R522): REASON; the old copies must still exist. What it undoes follows. -/
def revertBegin (reason : Nat) (s : State) : State :=
  if s.upd.man.isSome && s.upd.revertAt.isNone && s.journal.steps.any (fun e => 2 ≤ e.2) then
    updShowState (updReason reason (s.setUpd { s.upd with revertAt := some 0 }))
  else s

/-- A fault of an updated component during probation (R522): REASON 14. -/
def updFault (type inst : Nat) (s : State) : State :=
  match stepOf s type inst with
  | some k => if s.stepState k = 3 then revertBegin 14 s else s
  | none => s

/-- An accepted heartbeat answer of pair p arms a handover that waits (R518). -/
def updArm (p : Nat) (s : State) : State :=
  if SMap.get 0 s.upd.want p != 0 && SMap.get 0 s.upd.migr p == 0 then
    s.set (if p = 0 then F.UPD_SPX.ARMED_A else F.UPD_SPX.ARMED_B) 1
  else s

end Sys2Proof.Machine
end

