-- ==== Sys2Proof/Machine/Kiln.lean ====
section
/-! DEFINITION. The Kiln (chapter 15): its reaction table, what a finding applies, the lines and switches it drives, the
requests and claims it receives, and its checks. The rows that depend on the mode machine are in Machine/KilnRows.lean. -/

namespace Sys2Proof.Machine
open Sys2Proof

def State.setKln (s : State) (x : KlnSt) : State := { s with kln := x }

/-! ### The reaction table (R428 to R431) -/

/-- Byte, 16-bit and 32-bit word of a table. -/
def tblByte (t : List Byte) (i : Nat) : Nat := (t.getD i 0).toNat
def tbl16 (t : List Byte) (i : Nat) : Nat := tblByte t i + 256 * tblByte t (i + 1)
def tbl32 (t : List Byte) (i : Nat) : Nat := tbl16 t i + 65536 * tbl16 t (i + 2)

/-- Code, lowest class permitted, highest, default class of entry e. -/
def entryRow (e : Nat) : Nat × Nat × Nat × Nat :=
  match e with
  | 0 => (0x0F01, 3, 5, 4) | 1 => (0x0F10, 3, 5, 4) | 2 => (0x0F11, 3, 5, 4) | 3 => (0x0F12, 4, 5, 5)
  | 4 => (0x0F13, 3, 5, 4) | 5 => (0x0F14, 4, 5, 5) | 6 => (0x0F40, 3, 5, 3) | 7 => (0x0F41, 3, 5, 3)
  | 8 => (0x0F42, 3, 5, 3) | 9 => (0x0F43, 3, 5, 3) | 10 => (0x0F44, 2, 5, 3) | 11 => (0x0F45, 3, 5, 4)
  | 12 => (0x0F46, 3, 5, 3) | 13 => (0x0F47, 0, 5, 0) | 14 => (0x0F48, 3, 5, 3) | 15 => (0x0F49, 3, 5, 3)
  | 16 => (0x0F4A, 3, 5, 5) | 17 => (0x0F4B, 3, 5, 5) | 18 => (0x0F4C, 2, 5, 3) | 19 => (0x0F4D, 2, 5, 3)
  | 20 => (0x0F4E, 5, 5, 5) | 21 => (0x0F50, 4, 5, 5) | 22 => (0x0F51, 0, 5, 2) | 23 => (0x0F52, 0, 5, 2)
  | 24 => (0x0F30, 0, 5, 2) | 25 => (0, 0, 5, 0) | _ => (0x0F4F, 5, 5, 5)

/-- An entry the Kiln can honour (R429, R431): no stray bit; an explicit one of a permitted class. -/
def entryOk (t : List Byte) (e : Nat) : Bool :=
  let v := tbl16 t (8 + 2 * e)
  if 27 ≤ e then v == 0
  else
    let (_, lo, hi, _) := entryRow e
    v / 256 % 128 == 0 && (v < 32768 || (decide (lo ≤ v % 8) && decide (v % 8 ≤ hi)))

/-- Class, GEN_MASK and BRAKE in force of entry e. -/
def entryOf (t : List Byte) (e : Nat) : Nat × Nat × Bool :=
  let v := tbl16 t (8 + 2 * e)
  if !entryOk t e then (5, 15, false)
  else if v < 32768 then ((entryRow e).2.2.2, 7, false)
  else (v % 8, v / 8 % 16, v.testBit 7)

/-- The pair that sends requests and claims. -/
def kreqPair (s : State) : Nat := tblByte s.kln.table 6 % 2
def heartbeatAnswer (t : List Byte) (p q : Nat) : Nat := tbl32 t (0x48 + 0x40 * p + 4 * q)

/-- Set k of the table: enabled, machine, and the FA channels of its phases. -/
def kSet (t : List Byte) (k : Nat) : Bool × Nat × List Nat :=
  let v := tbl32 t (0xD0 + 4 * k)
  (v.testBit 31, v / 2 ^ 24 % 2, [v / 65536 % 256, v / 256 % 256, v % 256])

/-- Parameters of machine m. -/
def machPin (t : List Byte) (m : Nat) : Nat := tblByte t (0x104 + 8 * m)
def machGate (t : List Byte) (m : Nat) : Nat := tblByte t (0x105 + 8 * m)
def osLimit (t : List Byte) (m : Nat) : Nat := tbl16 t (0x106 + 8 * m)
def slsLimit (t : List Byte) (m : Nat) : Nat := tbl16 t (0x108 + 8 * m)
def stopEdges (t : List Byte) (m : Nat) : Nat := tblByte t (0x10A + 8 * m)
def xchkTol (t : List Byte) (m : Nat) : Nat := tblByte t (0x10B + 8 * m)
def hasPin (t : List Byte) (m : Nat) : Bool := machPin t m != 255

/-! ### The lines and switches (R442, R446, R448, R451) -/

/-- The Kiln works: RUN or REACTED. -/
def kilnRuns (s : State) : Bool := s.kln.kstate == 2 || s.kln.kstate == 3

/-- A latch or permanent latch is held. -/
def kilnLatched (s : State) : Bool := s.kln.latch != 0 || s.kln.wdog || s.kln.tableCrc

/-- STO_HS may be closed (R442). -/
def stoAllowed (s : State) : Bool :=
  kilnRuns s && !s.kln.cls5 && !s.kln.wdog && decide (2 ≤ s.mode) && s.kln.kreq.getLsbD 27 && !s.kln.kreq.getLsbD 24 && s.kln.stoOk

/-- Both STO switches are closed: STO is released. -/
def stoReleased (s : State) : Bool := s.kln.stoHs && s.kln.stoLs

/-- GEN lines that may be high (R442, R451). -/
def genAllowed (s : State) : Nat :=
  if kilnRuns s && !s.kln.wdog then
    [0, 1, 2, 3].foldl (fun n g => putBit n g (s.kln.kreq.getLsbD (28 + g) && s.kln.genOk.testBit g && !s.kln.genLow.testBit g)) 0
  else 0

/-- The control die sees a GEN line rise (R248): EV_GIF_GEN_CHANGE (106). -/
def genRise (g : Nat) (s : State) : State :=
  if s.kln.gen.testBit g && !s.pwm.genSeen.testBit g && s.pdReady 7 then
    raise 106 { s with pwm := { s.pwm with genSeen := putBit s.pwm.genSeen g true } }
  else s

/-- Bring GEN, STO, the brake and FAULT_N to what the Kiln's state says, the low-side switches also to what the control die has decided
(R442, R446); EV_KLN_STO (229), EV_KLN_BRK (230). -/
def kilnDrive (s : State) : State :=
  let k := s.kln
  let sto := stoAllowed s
  let stoLs := sto && s.pdOn 8 && s.sys.linkUp && s.sys.safeCls != 5
  let was := stoReleased s
  let wasBrk := k.brkHs && k.brkLs
  let gen := genAllowed s
  let stoFree := sto && stoLs
  let brk := kilnRuns s && !k.wdog && k.kreq.getLsbD 26 && k.brkOk && !k.brake && (!((tblByte k.table 0x122).testBit 1) || stoFree)
  -- the control die's switch does not follow STO (R446)
  let brkLs := kilnRuns s && !k.wdog && k.kreq.getLsbD 26 && !k.brake && s.pdOn 8 && s.sys.linkUp && !(decide (3 ≤ s.sys.safeCls) && (entryOf s.sys.kilnTable 25).2.2)
  let faultN := if k.kstate = 4 then k.faultN else kilnRuns s && !kilnLatched s
  let s := s.setKln { k with gen := gen, stoHs := sto, stoLs := stoLs, brkHs := brk, brkLs := brkLs, faultN := faultN }
  let s := if was != stoReleased s then raise 229 s else s
  let s := if wasBrk != (brk && brkLs) then raise 230 s else s
  let s := [0, 1, 2, 3].foldl (fun s g => genRise g s) s
  if s.pdReady 7 then enforceAll s else s

/-! ### Findings (R422 to R424, R448) -/

/-- A Kiln finding that the control die imposes (R424): it is not sent back. -/
def issueKiln (code cls : Nat) (s : State) : State :=
  let s := { s with sys := { s.sys with lastFault := code } }
  if cls = 0 then s else { s with sys := { s.sys with reacts := s.sys.reacts ++ [⟨code, clsOf cls, .other⟩] } }

/-- The control die hears of a finding: while the link is up and the die runs. -/
def tellControl (code cls : Nat) (s : State) : State := if s.sys.linkUp && s.pdOn 8 then issueKiln code cls s else s

/-- The Kiln records a code. -/
def kilnRecord (code : Nat) (s : State) : State :=
  s.setKln { s.kln with last := code, first := if s.kln.first = 0 then code else s.kln.first }

/-- A class 3 to 5 reaction is latched under entry e: EV_KLN_REACT (224). -/
def kilnLatch (e cls mask : Nat) (brake : Bool) (s : State) : State :=
  let k := s.kln
  let s := s.setKln { k with
    latch := putBit k.latch e true, cls5 := k.cls5 || cls == 5, brake := k.brake || brake
    genLow := if cls ≥ 4 then k.genLow ||| mask else k.genLow
    kstate := if k.kstate = 2 then 3 else k.kstate }
  raise 224 (kilnDrive s)

/-- Apply entry e with a class (R422, R424): below 3 it is recorded, else latched; the control die is told. -/
def kilnApplyAs (e code cls mask : Nat) (brake : Bool) (s : State) : State :=
  let s := kilnRecord code s
  tellControl code cls (if cls ≥ 3 then kilnLatch e cls mask brake s else s)

/-- Apply entry e of the table. -/
def kilnApply (e : Nat) (s : State) : State :=
  if !kilnRuns s then s
  else
    let (cls, mask, brake) := entryOf s.kln.table e
    kilnApplyAs e (entryRow e).1 cls mask brake s

/-- The condition of entry e is present, or not; when it arises the entry is applied. -/
def kilnCond (e : Nat) (present : Bool) (s : State) : State :=
  let was := s.kln.present.testBit e
  let s := s.setKln { s.kln with present := putBit s.kln.present e present }
  if present && !was then kilnApply e s else s

/-! ### Requests (R440, R442, R445, R446, R451) -/

/-- Rising bits of the requests as they arrive over the link. -/
def kreqArrive (new : Word) (s : State) : State :=
  let k := s.kln
  let old := k.kreq
  let rises (b : Nat) : Bool := new.getLsbD b && !old.getLsbD b
  let s := s.setKln { k with
    kreq := new
    stoOk := k.stoOk || rises 27, brkOk := k.brkOk || rises 26
    genOk := [0, 1, 2, 3].foldl (fun n g => if rises (28 + g) then putBit n g true else n) k.genOk
    slsOn := [0, 1].foldl (fun n m => if new.getLsbD (22 + m) then n else putBit n m false) k.slsOn
    slsWait := [0, 1].foldl (fun w m => if rises (22 + m) then SMap.put 0 w m 0 else w) k.slsWait }
  let s := if rises 25 && kilnRuns s then
      s.setKln { s.kln with ss1 := true, n0 := s.kln.counts } else s
  let s := if rises 24 then kilnApply 26 (s.setKln { s.kln with ss1 := false }) else s
  kilnDrive s

/-- A write of SPX_KREQ or of a claim register counts (R420, register notes): the KREQ_PAIR's own half, its checked output. -/
def kreqWriter (s : State) (m : Master) (p : Nat) : Bool :=
  p == kreqPair s && (match m with | .pair q => q.val == p | _ => false)

/-- A write of SPX_KREQ in pair p's half. -/
def kreqWrite (m : Master) (p : Nat) (new : Word) (s : State) : State :=
  if !kreqWriter s m p then s
  else
    let new := new &&& 0xFFC00000
    let s := s.wr (F.SPX_KREQ.GEN_REL.addr p 0 0) new
    if s.sys.linkUp then kreqArrive new s else s

/-- SPX_KREQ with one field replaced. -/
def kreqWith (s : State) (p : Nat) (f : Fld) (v : Nat) : Word := setBits (s.rd (f.addr p 0 0)) f.hi f.lo v

/-- A core or pair may write the registers of the SPX block. -/
def spxReady (s : State) (m : Master) (p : Nat) : Bool := s.regWriter m && s.pdReady (2 + p)

/-- One field of SPX_KREQ is written. -/
def kreqField (m : Master) (p : Nat) (f : Fld) (v : Nat) (s : State) : State :=
  if spxReady s m p then (kreqWrite m p (kreqWith s p f v) s).answer .done else busError s

/-! ### Claims (R434, R435) -/

/-- CLAIM_COMMIT: the record as written becomes the last committed. -/
def claimCommit (m : Master) (p : Nat) (s : State) : State :=
  if !kreqWriter s m p || !s.sys.linkUp then s
  else
    let c : SMap Int := []
    let put (i : Nat) (v : Int) (c : SMap Int) : SMap Int := SMap.put 0 c i v
    let c := put 0 (s.get F.SPX_CLAIM_I0.SET0 p) (put 1 (s.get F.SPX_CLAIM_I0.SET1 p) c)
    let c := put 2 (s.get F.SPX_CLAIM_I1.SET2 p) (put 3 (s.get F.SPX_CLAIM_I1.SET3 p) c)
    let c := put 4 (s.getI F.SPX_CLAIM_P.P_CLAIM p) c
    let c := put 5 (s.get F.SPX_CLAIM_S.SPD_CLAIM0 p) (put 6 (s.get F.SPX_CLAIM_S.SPD_CLAIM1 p) c)
    kilnCond 10 false (s.setKln { s.kln with claims := c })

/-- I_CLAIM of set k, capped while a pair is UNCHECKED (R434). -/
def iClaim (s : State) (k : Nat) : Int :=
  let c := SMap.get 0 s.kln.claims k
  if s.kln.unchk != 0 then min c (tbl16 s.kln.table (0xF0 + 2 * k)) else c

/-- Number of consecutive exceeding evaluations that make a finding. -/
def tqN (s : State) : Nat := max 1 (tblByte s.kln.table 0xCB)

/-- The current check of set k after a burst of one of its phases (R435); the latest bursts are kept as sums of four codes. -/
def currentCheck (k : Nat) (s : State) : State :=
  let t := s.kln.table
  let (en, _, chs) := kSet t k
  if !en || s.kln.susp.testBit k || !kilnRuns s then s
  else
    let big := chs.foldl (fun b c => max b (SMap.get 0 s.kln.twins c).natAbs) 0
    let lim : Int := 4 * (iClaim s k * (64 + tblByte t 0xCE) + 64 * tbl16 t (0xE0 + 2 * k))
    let run := if (64 * big : Int) > lim then SMap.get 0 s.kln.tqRun k + 1 else 0
    let s := s.setKln { s.kln with tqRun := SMap.put 0 s.kln.tqRun k (min run 255) }
    let any := [0, 1, 2, 3].any (fun j => decide (SMap.get 0 s.kln.tqRun j ≥ tqN s))
    kilnCond 8 any s

/-- A twin burst of channel n, the sum of its four codes (R435). -/
def kilnBurst (n : Nat) (sum : Int) (s : State) : State :=
  let t := s.kln.table
  let s := s.setKln { s.kln with twins := SMap.put 0 s.kln.twins n sum }
  let s := [0, 1, 2, 3].foldl (fun s k => if (kSet t k).2.2.contains n then currentCheck k s else s) s
  if tblByte t 0xFA == n then s.setKln { s.kln with pSum := s.kln.pSum + sum * s.kln.linkV, pCnt := s.kln.pCnt + 1 } else s

/-- A conversion of the DC-link voltage's HK input (R438). -/
def kilnLinkHk (i code : Nat) (s : State) : State :=
  let t := s.kln.table
  if tblByte t 0xF9 != i then s
  else
    let s := s.setKln { s.kln with linkV := code }
    if s.kln.susp.testBit 5 || !kilnRuns s then s
    else
      let ov := if code > tbl16 t 0xFC then s.kln.ovRun + 1 else 0
      let uv := if code < tbl16 t 0xFE && (s.mode == 3 || s.mode == 4 || s.mode == 5) then s.kln.uvRun + 1 else 0
      let s := s.setKln { s.kln with ovRun := min ov 2, uvRun := min uv 2 }
      kilnCond 13 (decide (2 ≤ uv)) (kilnCond 12 (decide (2 ≤ ov)) s)

/-- What a check reads is lost (R427): it is suspended and KILN_TEST applies. -/
def kilnSuspend (i : Nat) (s : State) : State :=
  if s.kln.susp.testBit i then s
  else raise 231 (kilnApply 24 (s.setKln { s.kln with susp := putBit s.kln.susp i true }))

/-- Suspend the checks that have lost all their inputs (R427). -/
def kilnInputs (s : State) : State :=
  let t := s.kln.table
  let lostTwin (n : Nat) : Bool := s.getB F.HK_TWIN_CFG.TWIN_LOST n
  let hkBad := s.getB F.HK_CTL.REF_FAIL (tblByte t 0xF9 / 16 % 4)
  let s := [0, 1, 2, 3].foldl (fun s k => if (kSet t k).1 && (kSet t k).2.2.all lostTwin then kilnSuspend k s else s) s
  let s := if lostTwin (tblByte t 0xFA % 48) || hkBad then kilnSuspend 4 s else s
  if hkBad then kilnSuspend 5 s else s

/-! ### Rows that need no other part -/

/-- KILN_POWER_CHECK (R435): the millisecond's mean power against P_CLAIM. -/
def execKilnPowerCheck (s : State) : Res :=
  let k := s.kln
  let t := k.table
  .next (if !kilnRuns s then s
    else
      let (num, den) := if k.pCnt = 0 then (k.pNum, k.pDen) else (k.pSum, 1024 * k.pCnt)
      let s := s.setKln { k with pSum := 0, pCnt := 0, pNum := num, pDen := den }
      if k.susp.testBit 4 then s
      else
        let c := SMap.get 0 k.claims 4
        let high := decide (64 * (num - c * den).natAbs > den * (64 * tbl32 t 0x100 + tblByte t 0xCF * c.natAbs))
        let run := if high then k.pwrRun + 1 else 0
        let s := s.setKln { s.kln with pwrRun := min run 255 }
        kilnCond 9 (decide (run ≥ tqN s)) s)

/-- CLAIM_COMMIT (R434): a write of SPX_CLAIM_C in pair p's half. -/
def execClaimCommit (m : Master) (p : Fin 2) (s : State) : Res :=
  .next (if spxReady s m p then (claimCommit m p s).answer .done else busError s)

/-- CLAIM_TIMEOUT (R434): no commit for CLAIM_TMO. -/
def execClaimTimeout (s : State) : Res := .next (if kilnRuns s then kilnCond 10 true s else s)

/-- KIRCHHOFF_TRIP (R437): the sum of an enabled set outside ±KIR_THR for KIR_FILT, or back inside. -/
def execKirchhoffTrip (set : Fin 4) (s : State) : Res :=
  .next (if (kSet s.kln.table set).1 && kilnRuns s then kilnApply 11 s else s)

/-- KILN_SPEED_EDGE (R439). -/
def execKilnSpeedEdge (mach : Fin 2) (s : State) : Res :=
  .next (if kilnRuns s && hasPin s.kln.table mach then
      s.setKln { s.kln with edges := SMap.put 0 s.kln.edges mach (SMap.get 0 s.kln.edges mach + 1) } else s)

/-- STO is applied at the end of a stop, without a latch (R445). -/
def ss1Complete (s : State) : State :=
  kilnDrive (s.setKln { s.kln with ss1 := false, stoOk := false })

/-- The speed checks of machine m at the end of its gate; `t` is the time since the SS1 edge in ms (R439 to R441, R445). -/
def gateEnd (m t : Nat) (s : State) : State :=
  let k := s.kln
  let tb := k.table
  let n := SMap.get 0 k.edges m
  let cnt := min n 65535
  let stop := if n ≤ stopEdges tb m then SMap.get 0 k.stopMs m + machGate tb m else 0
  let s := s.setKln { k with
    edges := SMap.put 0 k.edges m 0, counts := SMap.put 0 k.counts m cnt, stopMs := SMap.put 0 k.stopMs m (min stop 1000) }
  let s := kilnCond (14 + m) (decide (n ≥ osLimit tb m)) s
  -- safely limited speed
  let s := if s.kln.kreq.getLsbD (22 + m) then
      let wait := SMap.get 0 s.kln.slsWait m + machGate tb m
      let on := s.kln.slsOn.testBit m || decide (n ≤ slsLimit tb m) || decide (wait ≥ tbl16 tb 0x116)
      s.setKln { s.kln with slsWait := SMap.put 0 s.kln.slsWait m (min wait 65535), slsOn := putBit s.kln.slsOn m on }
    else s
  let s := kilnCond (16 + m) (s.kln.slsOn.testBit m && decide (n > slsLimit tb m)) s
  -- cross-check with the claimed speed
  let s := if s.kln.present.testBit 10 then s
    else
      let d := ((16 * n : Int) - SMap.get 0 s.kln.claims (5 + m)).natAbs
      let run := if d > 16 * xchkTol tb m then SMap.get 0 s.kln.xRun m + 1 else 0
      let s := s.setKln { s.kln with xRun := SMap.put 0 s.kln.xRun m (min run 255) }
      kilnCond (18 + m) (decide (run ≥ max 1 (tblByte tb 0x114))) s
  -- safe stop 1
  if !s.kln.ss1 then s
  else
    let n0 := SMap.get 0 s.kln.n0 m
    let ss1T := max 1 (tbl16 tb 0x116)
    if 64 * ss1T * n > n0 * (64 * (ss1T - t) + tblByte tb 0x115 * ss1T) then
      kilnApply 20 (s.setKln { s.kln with ss1 := false })
    else if [0, 1].all (fun j => !hasPin tb j || decide (100 ≤ SMap.get 0 s.kln.stopMs j)) then ss1Complete s
    else s

/-- KILN_GATE_END (R439). -/
def execKilnGateEnd (mach : Fin 2) (t : Nat) (s : State) : Res :=
  .next (if kilnRuns s && hasPin s.kln.table mach then gateEnd mach t s else s)

/-- SS1_TIMEOUT (R445). -/
def execSs1Timeout (s : State) : Res :=
  .next (if s.kln.ss1 then kilnApply 20 (s.setKln { s.kln with ss1 := false }) else s)

/-- SS1_STOP_COMPLETE (R445): without a machine that has a PIN, 100 ms after the edge. -/
def execSs1StopComplete (s : State) : Res :=
  .next (if s.kln.ss1 && !hasPin s.kln.table 0 && !hasPin s.kln.table 1 then ss1Complete s else s)

/-- SLS_REQUEST, SS1_REQUEST, STO_REQUEST, STO_RELEASE, BRAKE_RELEASE, GEN_RELEASE: writes of one field of SPX_KREQ. -/
def execSlsRequest (m : Master) (p : Fin 2) (bits : BitVec 2) (s : State) : Res := .next (kreqField m p F.SPX_KREQ.SLS_REQ bits.toNat s)
def execSs1Request (m : Master) (p : Fin 2) (on : Bool) (s : State) : Res := .next (kreqField m p F.SPX_KREQ.SS1_REQ on.toNat s)
def execStoRequest (m : Master) (p : Fin 2) (on : Bool) (s : State) : Res := .next (kreqField m p F.SPX_KREQ.STO_REQ on.toNat s)
def execStoRelease (m : Master) (p : Fin 2) (on : Bool) (s : State) : Res := .next (kreqField m p F.SPX_KREQ.STO_REL on.toNat s)
def execBrakeRelease (m : Master) (p : Fin 2) (on : Bool) (s : State) : Res := .next (kreqField m p F.SPX_KREQ.BRK_REL on.toNat s)
def execGenRelease (m : Master) (p : Fin 2) (bits : BitVec 4) (s : State) : Res := .next (kreqField m p F.SPX_KREQ.GEN_REL bits.toNat s)

/-- STO_FEEDBACK_TIMEOUT (R443): the feedback disagrees; the latch is permanent. -/
def execStoFeedbackTimeout (s : State) : Res := .next (if kilnRuns s then kilnCond 21 true s else s)

/-- BRAKE_FEEDBACK_TIMEOUT (R447). -/
def execBrakeFeedbackTimeout (agrees : Bool) (s : State) : Res := .next (if kilnRuns s then kilnCond 23 (!agrees) s else s)

/-- A dark pulse that falls due is postponed (R444). -/
def darkBlocked (s : State) : Bool :=
  (s.pdReady 7 && (List.range 16).any (fun p => [1, 2, 3, 5, 6].contains (s.psetState p))) ||
  (List.range 32).any (fun l => s.get F.PWM_LEG_CFG.STAGE l == 0 && s.getB F.PWM_LEG_CFG.EN l && !s.kln.gen.testBit (s.get F.PWM_LEG_CFG.GEN_SEL l))

/-- DARK_PULSE_START (R444, R447): of STO_HS, STO_LS or the brake. -/
def execDarkPulseStart (sw : Fin 3) (s : State) : Res :=
  let k := s.kln
  let due := kilnRuns s && (if sw.val = 2 then (tblByte k.table 0x122).testBit 0 && k.brkHs else stoReleased s)
  .next (if !due then s
    else if darkBlocked s then s.setKln { k with postponed := putBit k.postponed sw.val true }
    else s.setKln { k with pulse := putBit k.pulse sw.val true, postponed := putBit k.postponed sw.val false })

/-- DARK_PULSE_END (R444): the feedback reads off, or has not by DP_T: STO_DARK, or for the brake BRK_FB; a pulse in which a
reaction needed the switch open is not evaluated. -/
def execDarkPulseEnd (sw : Fin 3) (off : Bool) (s : State) : Res :=
  let k := s.kln
  .next (if !k.pulse.testBit sw.val then s
    else
      let s := s.setKln { k with pulse := putBit k.pulse sw.val false }
      let still := if sw.val = 2 then k.brkHs else stoReleased s
      if !still then s
      else if off then
        let s := s.setKln { s.kln with dpDone := (k.dpDone + 1) % 256 }
        if sw.val = 2 then s else kilnCond 22 false s
      else
        let s := raise 228 (s.setKln { s.kln with dpFail := min (k.dpFail + 1) 255 })
        kilnCond (if sw.val = 2 then 23 else 22) true s)

/-- KILN_COMPARATOR_TEST (R427): a summing comparator trips in its test, or misses it: EV_KLN_TEST_FAIL (231). -/
def execKilnComparatorTest (missed : Bool) (s : State) : Res :=
  .next (if kilnRuns s && missed then raise 231 (kilnApply 24 s) else s)

/-- CTRL_REACT (R423): the oldest reaction of the control die reaches the Kiln; class 3 to 5 is latched under entry 25 with its
own code, GEN_MASK and BRAKE from the table; a lower one is recorded. -/
def execCtrlReact (s : State) : Res :=
  .next (match s.kln.mail with
    | [] => s
    | r :: rest =>
      let s := s.setKln { s.kln with mail := rest }
      if !s.sys.linkUp || !kilnRuns s then s
      else
        let s := kilnRecord r.code s
        let (_, mask, brake) := entryOf s.kln.table 25
        if r.cls ≥ 3 then kilnLatch 25 r.cls mask brake s else s)

/-- KILN_MIRROR_REFRESH (R33): the KLN block shows the Kiln as it is now. -/
def kilnMirror (s : State) : State :=
  let k := s.kln
  let s := (s.set F.KLN_STAT.KSTATE k.kstate).setB F.KLN_STAT.ENTRY_FIX k.entryFix
  let s := (s.setB F.KLN_STAT.FAULT_N k.faultN).set F.KLN_STAT.GEN k.gen
  let s := (s.setB F.KLN_STAT.STO_HS (k.stoHs && !k.pulse.testBit 0)).setB F.KLN_STAT.STO_LS (k.stoLs && !k.pulse.testBit 1)
  let s := (s.setB F.KLN_STAT.BRK_HS (k.brkHs && !k.pulse.testBit 2)).setB F.KLN_STAT.BRK_LS k.brkLs
  let s := (s.setB F.KLN_STAT.SS1_ACT k.ss1).set F.KLN_STAT.SLS_ACT k.slsOn
  let s := (s.setB F.KLN_STAT.UNCHK_CAP (k.unchk != 0)).set F.KLN_STAT.RELEASE_REASON k.reason
  let s := ((s.setB F.KLN_LATCH.WDOG k.wdog).setB F.KLN_LATCH.TABLE_CRC k.tableCrc).set F.KLN_LATCH.ENTRY k.latch
  let s := (s.set F.KLN_CODE.FIRST k.first).set F.KLN_CODE.LAST k.last
  let s := (s.set F.KLN_CNT.MISS_A k.missA).set F.KLN_CNT.MISS_B k.missB
  let s := (s.set F.KLN_CNT.DP_FAIL k.dpFail).set F.KLN_CNT.DP_DONE k.dpDone
  (s.set F.KLN_SPD.COUNT0 (SMap.get 0 k.counts 0)).set F.KLN_SPD.COUNT1 (SMap.get 0 k.counts 1)

def execKilnMirrorRefresh (s : State) : Res := .next (if s.pdReady 8 && s.sys.linkUp then kilnMirror s else s)

/-! ### The heartbeat (R421, R432, R433) -/

/-- Cores of pair p that are challenged: each of a split pair, else the pair as core 0. -/
def hbCores (s : State) (p : Nat) : List Nat := if s.getB F.SPX_STAT.SPLIT p then [2 * p, 2 * p + 1] else [2 * p]

/-- Pair p is under its logic self-test while no gate power flows, at most 15 ms from the request (R568). -/
def selfTested (s : State) (p : Nat) : Bool :=
  s.olt.test == some (1, p) && s.kln.gen == 0 && !s.kln.stoHs && !s.kln.stoLs && decide (s.fab.ts ≤ s.olt.logicTs + 1500000)

/-- A miss of a core of pair p: counted, EV_KLN_HB_MISS (225); HB_MISS_N in a row apply HEARTBEAT, and so does one of a halted pair
(R415). -/
def hbMiss (p c : Nat) (s : State) : State :=
  let k := s.kln
  let run := SMap.get 0 k.hbRun c + 1
  let k := { k with
    hbRun := SMap.put 0 k.hbRun c (min run 255)
    missA := if p = 0 then min (k.missA + 1) 255 else k.missA
    missB := if p = 1 then min (k.missB + 1) 255 else k.missB }
  let s := raise 225 (s.setKln k)
  let n := max 1 (tblByte k.table 0xCA)
  if decide (run < n) && s.get F.SPX_STAT.STATE p != 3 then s
  else if (s.mode == 7 && s.getB F.MODE_STAT.BENCH) || selfTested s p then
    if run = n then kilnApplyAs (6 + p) (0x0F40 + p) 0 0 false s else s
  else kilnCond (6 + p) true s

/-- HEARTBEAT_CHALLENGE: the previous deadline is evaluated, and indices go to both pairs; an index is never the pair's last. -/
def hbChallenge (p q : Nat) (s : State) : State :=
  let cs := hbCores s p
  let s := cs.foldl (fun s c =>
    match SMap.get 0 s.kln.hbState c with
    | 0 => s
    | 2 => s.setKln { s.kln with hbRun := SMap.put 0 s.kln.hbRun c 0 }
    | _ => hbMiss p c s) s
  let s := if cs.all (fun c => SMap.get 0 s.kln.hbRun c == 0) then kilnCond (6 + p) false s else s
  let q := if q = SMap.get 16 s.kln.hbQ p then (q + 1) % 16 else q
  let s := s.setKln { s.kln with
    hbQ := SMap.put 16 s.kln.hbQ p q, hbState := cs.foldl (fun m c => SMap.put 0 m c 1) s.kln.hbState }
  if s.pdReady (2 + p) && s.sys.linkUp then (s.set F.SPX_HB_CHAL.SEQ s.kln.hbSeq p).set F.SPX_HB_CHAL.Q q p else s

def execHeartbeatChallenge (qa qb : Fin 16) (s : State) : Res :=
  .next (if !kilnRuns s || !s.sys.released then s
    else
      let s := s.setKln { s.kln with hbSeq := (s.kln.hbSeq + 1) % 65536 }
      hbChallenge 1 qb.val (hbChallenge 0 qa.val s))

/-- An answer of core c of pair p, `us` µs after the challenge: right and in time, or a miss. -/
def hbAnswer (p c us : Nat) (value : Word) (s : State) : State :=
  let k := s.kln
  if !s.sys.linkUp then s
  else
    let good := decide (tbl16 k.table 0xC8 ≤ us) && value.toNat == heartbeatAnswer k.table p (SMap.get 16 k.hbQ p)
    match SMap.get 0 k.hbState c with
    | 0 => s
    | 1 =>
      let s := s.setKln { k with hbState := SMap.put 0 k.hbState c (if good then 2 else 3) }
      if good then updArm p s else s
    | _ => s.setKln { k with hbState := SMap.put 0 k.hbState c 3 }

/-- The core a write of SPX_HB_RESP (or RESP1) of pair p by m answers for. -/
def hbWriter (s : State) (m : Master) (p : Nat) (one : Bool) : Option Nat :=
  match m with
  | .pair q => if q.val = p && !one && !s.getB F.SPX_STAT.SPLIT p then some (2 * p) else none
  | .core c => if s.getB F.SPX_STAT.SPLIT p && c.val == 2 * p + (if one then 1 else 0) then some c.val else none
  | _ => none

/-- HEARTBEAT_ANSWER (R432, R421). -/
def execHeartbeatAnswer (m : Master) (p : Fin 2) (one : Bool) (value : Word) (us : Nat) (s : State) : Res :=
  .next (if spxReady s m p then
      (match hbWriter s m p one with
        | some c => hbAnswer p c us value s
        | none => s).answer .done
    else busError s)

end Sys2Proof.Machine
end

