-- ==== Sys2Proof/Machine/Sig.lean ====
section
/-! DEFINITION. The signal dictionary's reads and DAQ samples (R560 to R562) and the trace buffer (R571, R572). -/

namespace Sys2Proof.Machine
open Sys2Proof

/-! ### Entries (R560, R561) -/

/-- Descriptor of entry k. -/
def State.sigEntry (s : State) (k : Nat) : BitVec 64 := SMap.get 0 s.fab.dict k

def sigSrc (d : BitVec 64) : Nat := d.toNat % 2 ^ 32
def sigType (d : BitVec 64) : Nat := d.toNat / 2 ^ 32 % 16
def sigBit (d : BitVec 64) : Nat := d.toNat / 2 ^ 36 % 32
def sigWidth (d : BitVec 64) : Nat := d.toNat / 2 ^ 41 % 32 + 1
def sigCal (d : BitVec 64) : Bool := d.getLsbD 48
def sigDaq (d : BitVec 64) : Bool := d.getLsbD 49

/-- Bytes of a value of a type. -/
def sigBytes (t : Nat) : Nat := match t with | 0 | 1 => 1 | 2 | 3 => 2 | _ => 4

/-- Where the CAL component lies in shared SRAM. -/
def calRegion (s : State) : Option (Nat × Nat) :=
  (s.sys.loader.descs.find? (fun d => d.type == 8)).map (fun d => (d.loadAddr, d.len))

/-- CAL_SEL sends reads of the old pages to the new ones, which stand directly behind them (R516). -/
def calAddr (s : State) (a : Nat) : Nat :=
  match calRegion s with
  | some (b, n) => if s.getB F.UPD_SPX.CAL_SEL && decide (b ≤ a ∧ a < b + n) then a + n else a
  | none => a

/-- The calibration pages (R483): the Skein names the reference page and the working page by address and length; an address in the
reference page stands for the page in use. -/
def pageAddr (s : State) (working : Bool) (a : Nat) : Nat :=
  calAddr s (match s.sys.cfg.xcpPages with
    | (r, n) :: (w, _) :: _ => if working && decide (r ≤ a ∧ a < r + n) then a - r + w else a
    | _ => a)

/-- A source can be read: its domain is on and filled, and it holds no poisoned word (R32, R55, R561). -/
def sourceOk (s : State) (a : Nat) : Bool :=
  if inRegs a then s.pdReady (domainOf a)
  else if inSram a || inWhorl a || inAfeBuf a || inMram a then s.pdReady (keyDomain a) && !s.poisoned a
  else false

/-- `n` bytes of a source, little-endian. A read of the dictionary has no side effect on a register. -/
def sourceLoad (s : State) (a n : Nat) : Nat :=
  if inRegs a then (s.rd (a - a % 4)).toNat / 2 ^ (8 * (a % 4)) % 2 ^ (8 * n) else s.load a n

/-- Value of an entry, widened to 32 bits with its sign; absent where the read returns a bus error. -/
def sigValue (s : State) (k : Nat) : Option Word :=
  let d := s.sigEntry k
  if d = 0 then some 0
  else
    let a := pageAddr s s.xcp.working (sigSrc d)
    if !sourceOk s a then none
    else
      let t := sigType d
      let v := sourceLoad s a (sigBytes t)
      some (BitVec.ofNat 32 (match t with
        | 1 => unsigned 32 (signed 8 v)
        | 3 => unsigned 32 (signed 16 v)
        | 8 => v / 2 ^ sigBit d % 2 ^ sigWidth d
        | _ => v))

/-- Word 1 of an entry: VALID, CAL, TYPE. -/
def sigInfo (s : State) (k : Nat) : Word :=
  let d := s.sigEntry k
  if d = 0 then 0 else BitVec.ofNat 32 (2 ^ 31 + (if sigCal d then 2 ^ 30 else 0) + sigType d * 2 ^ 26)

/-- What a 32-bit read at byte offset `off` of the dictionary window answers. -/
def sigRead (s : State) (off : Nat) : Option Word :=
  if off % 8 = 4 then some (sigInfo s (off / 8)) else sigValue s (off / 8)

/-! ### Samples (R562) -/

/-- Entries of a list, in order. -/
def DaqList.entries (l : DaqList) : List Nat := l.odts.flatten

/-- A running list at its trigger: a sample, or, while the previous one is not packed, OVL_CNT and EV_SIG_DAQ_OVL (38). -/
def sampleList (i : Nat) (s : State) : State :=
  match s.xcp.lists[i]? with
  | none => s
  | some l =>
    let put (l : DaqList) (s : State) : State := { s with xcp := { s.xcp with lists := s.xcp.lists.set i l } }
    if !l.running then s
    else if l.skip + 1 < l.prescaler then put { l with skip := l.skip + 1 } s
    else if l.sample.isSome then
      raise 38 (put { l with overload := true, skip := 0 } (s.bump F.SIG_CTL.OVL_CNT F.SIG_CTL.SAT))
    else
      let vs := l.entries.map (fun k => (sigValue s k).getD (Config.daqHole k))
      put { l with skip := 0, sample := some { list := i, ts := s.ts32, values := vs } } s

/-- Event channel c is triggered. -/
def daqTrigger (c : Nat) (s : State) : State :=
  if !s.getB F.SIG_EVCH.EN c then s
  else (List.range s.xcp.lists.length).foldl (fun s i =>
    match s.xcp.lists[i]? with
    | some l => if l.evch = c then sampleList i s else s
    | none => s) s

/-- The output phase of loop l of Whorl w triggers the channels bound to it. -/
def daqPhase (w l : Nat) (s : State) : State :=
  (List.range 16).foldl (fun s c =>
    if s.get F.SIG_EVCH.KIND c == 2 && s.get F.SIG_EVCH.SRC c == 8 * w + l then daqTrigger c s else s) s

/-! ### The trace buffer (R571, R572) -/

/-- Bytes in the buffer. -/
def traceLen (s : State) : Nat := (s.fab.trace.map (fun m => m.length)).sum

/-- The port runs: enabled, at debug level L1 or higher. -/
def traceOn (s : State) : Bool := s.pdReady 8 && s.getB F.DBG_TRC_CFG.EN && decide (1 ≤ s.dbgLevel)

/-- A message enters the buffer, after an overflow message if some were dropped: EV_TRC_OVF (235); one that does not fit is dropped. -/
def traceAdd (m : List Byte) (s : State) : State :=
  if !traceOn s then s
  else
    let lost := s.fab.traceDrop
    let ms := (if lost = 0 then [] else [[0x03, BitVec.ofNat 8 (min lost 255)]]) ++ [m]
    if traceLen s + (ms.map (fun x => x.length)).sum ≤ 4096 then
      let s := { s with fab := { s.fab with trace := s.fab.trace ++ ms, traceDrop := 0 } }
      if lost = 0 then s else raise 235 s
    else
      let s := (s.bump F.DBG_TRC_CFG.DROP F.DBG_TRC_CFG.SAT).set F.DBG_TRC_CFG.OVF 1
      { s with fab := { s.fab with traceDrop := s.fab.traceDrop + 1 } }

/-- TSTAMP[39:0] in five bytes. -/
def stamp40 (s : State) : List Byte := toBytes 5 s.fab.ts

/-- An event message; an occurrence whose message still waits is merged into it. -/
def traceEvent (n : Nat) (s : State) : State :=
  let waits (m : List Byte) : Bool := m.take 2 == [0x01, BitVec.ofNat 8 n] && m.length == 8
  let (now, later) := if s.fab.traceMid then (s.fab.trace.take 1, s.fab.trace.drop 1) else ([], s.fab.trace)
  if traceOn s && later.any waits then
    let later := later.map (fun m => if waits m then m.set 2 (BitVec.ofNat 8 (min 255 ((m.getD 2 0).toNat + 1))) else m)
    { s with fab := { s.fab with trace := now ++ later } }
  else traceAdd ([0x01, BitVec.ofNat 8 n, 0] ++ stamp40 s) s

/-- A Whorl message at the output phase of the traced loop. -/
def tracePhase (w l : Nat) (s : State) : State :=
  if s.getB F.DBG_TRC_CFG.WHL_EN && s.get F.DBG_TRC_CFG.WHORL == w && s.get F.DBG_TRC_CFG.LOOP == l then
    let n := s.get F.DBG_TRC_CFG.PORT_N_M1 + 1
    let p := s.get F.DBG_TRC_CFG.PORT_FIRST
    traceAdd ([0x02, BitVec.ofNat 8 (8 * w + l), BitVec.ofNat 8 n] ++ stamp40 s ++
      (List.range n).flatMap (fun i => toBytes 4 (if p + i < 64 then s.get F.WHL_OUTP.VALUE w (p + i) else 0))) s
  else s

/-- The port sends two bytes in a TSCLK tick; after a revocation to L0 it ends at the next message boundary (R571). -/
def traceTick (s : State) : State :=
  let drop (n : Nat) (ms : List (List Byte)) : List (List Byte) × Bool :=
    match ms with
    | [] => ([], false)
    | m :: r => if m.length ≤ n then (r, false) else (m.drop n :: r, true)
  if traceOn s || s.fab.traceMid then
    let (ms, mid) := drop 2 s.fab.trace
    { s with fab := { s.fab with trace := ms, traceMid := mid } }
  else s

end Sys2Proof.Machine
end

