-- ==== Sys2Proof/Machine/Whorl.lean ====
section
/-! DEFINITION. The Whorl engines (chapter 6): ports and links, starts, budget ends, output phases, the coefficient write
queue, tables, safe output, standby, handover, failure and substitution. -/

namespace Sys2Proof.Machine
open Sys2Proof

/-- Power domain of a Whorl, and whether it can run loops: powered, filled and not failed. -/
def whlDomain (w : Nat) : Nat := if w < 4 then 4 else 5
def whlReady (s : State) (w : Nat) : Bool := s.pdReady (whlDomain w)
def canRun (s : State) (w : Nat) : Bool := whlReady s w && s.get F.WHL_CTL.ROLE w != 2

/-- Loops of a Whorl that are enabled. -/
def enabledLoops (s : State) (w : Nat) : List Nat := (List.range 8).filter (fun l => s.getB F.WHL_LOOP_CFG.EN w l)

/-! ### Ports and links (R166 to R170) -/

/-- Whorls that receive each other's deliveries: a standby and its target, a failed Whorl's substitute (R194, R199). -/
def peersOf (s : State) (w : Nat) : List Nat :=
  let x := s.whorl w
  (match shadowOf s w with | some v => [v] | none => []) ++
    (if x.prep == .shadowing then [x.target] else []) ++ (match x.sub with | some v => [v] | none => [])

/-- Port p of Whorl w: a valid item sets FRESH, another clears it and leaves the value (R167). -/
def putPort (w p : Nat) (v : Option Word) (s : State) : State :=
  match v with
  | some v => (s.wr (F.WHL_INP.VALUE.addr w p 0) v).setBit F.WHL_FRESH.FRESH (p % 32) true w (p / 32)
  | none => s.setBit F.WHL_FRESH.FRESH (p % 32) false w (p / 32)

/-- `putPort` on a Whorl and its peers. -/
def putPorts (w p : Nat) (v : Option Word) (s : State) : State :=
  (peersOf s w).foldl (fun s u => putPort u p v s) (putPort w p v s)

/-- Link entries of a kind that copy port p of Whorl w: destination Whorl and port (R170). -/
def linksFrom (s : State) (kind : Bool) (w p : Nat) : List (Nat × Nat) :=
  (List.range 8).flatMap (fun v => (List.range 8).filterMap (fun k =>
    if s.getB F.WHL_LINK.EN v k && s.getB F.WHL_LINK.KIND v k == kind && s.get F.WHL_LINK.SRC_WHORL v k == w &&
        s.get F.WHL_LINK.SRC_PORT v k == p then some (v, s.get F.WHL_LINK.DST_PORT v k) else none))

/-- A delivery to an input port, with the input-kind links of that port (R170). -/
def deliver (w p : Nat) (v : Option Word) (s : State) : State :=
  let s := putPorts w p v s
  (linksFrom s false w p).foldl (fun s d =>
    putPorts d.1 d.2 (if portFresh s w p then some (s.rd (F.WHL_INP.VALUE.addr w p 0)) else none) s) s

/-! ### Copying outputs (R169, R186, R187, R247) -/

/-- Output ports of a loop. -/
def outPorts (s : State) (w l : Nat) : List Nat :=
  ((List.range (s.get F.WHL_LOOP_IO.OUT_N_M1 w l + 1)).map (s.get F.WHL_LOOP_IO.OUT_BASE w l + ·)).filter (· < 64)

/-- Converter channels whose commands the loop's ports carry (R347). -/
def chansOf (s : State) (w l : Nat) : List Nat :=
  (List.range 3).filter (fun c => chUsed s c && (cmdSource s c).1 == w && (outPorts s w l).contains (cmdSource s c).2)

/-- Legs the loop drives, directly or through the converter block. -/
def legsOfLoop (s : State) (w l : Nat) : List Nat :=
  (s.sys.cfg.outMap.filter (fun d => d.whorl == w && (outPorts s w l).contains d.port)).map (·.leg) ++
    (chansOf s w l).flatMap (chLegs s)

/-- The loops of psets keep the d and q currents of their last 32 executions (R552): ports OUT_BASE + 3 and + 4. -/
def noteCurrents (w l : Nat) (s : State) : State :=
  let ob := s.get F.WHL_LOOP_IO.OUT_BASE w l
  let pack (p : Nat) : Nat := unsigned 16 (clampI (-32768) 32767 (roundDiv (s.getI F.WHL_OUTP.VALUE w p) 65536))
  (tractionSets s).foldl (fun s p =>
    if loopOfSet s p == some (w, l) then
      let h := (s.pset p).hist ++ [pack (ob + 3) * 65536 + pack (ob + 4)]
      s.setPset p { s.pset p with hist := h.drop (h.length - 32) }
    else s) s

/-- Copy values to every destination of the loop's range in one cycle: mirror, compare shadows, links, converter inputs. `vals`
gives a port's value; `safe` that it is a safe output. -/
def copyPorts (w l : Nat) (vals : Nat → Word) (safe : Bool) (late : List (Fin 12)) (s : State) : State :=
  let s := (outPorts s w l).foldl (fun s p =>
    let v := vals p
    let s := s.wr (F.WHL_OUTP.VALUE.addr w p 0) v
    let s := (s.sys.cfg.outMap.filter (fun d => d.whorl == w && d.port == p)).foldl (fun s d =>
      let a := if d.cmpB then s.getI F.PWM_LEG_CMP.CMP_A d.leg else sint v
      let b := if d.cmpB then sint v else s.getI F.PWM_LEG_CMPB.CMP_B d.leg
      writeCmp late d.leg a b s) s
    (linksFrom s true w p).foldl (fun s d => putPorts d.1 d.2 (some v) s) s) s
  let s := (chansOf s w l).foldl (fun s c =>
    cnvCopy c ((List.range 5).map (fun i => vals ((cmdSource s c).2 + i))) safe late s) s
  noteCurrents w l s

/-- The loop's safe output (R187): HOLD_LAST nothing, ZERO zeros, OFF zeros and OFF_REQ at each leg's next carrier event (R247). -/
def safeOutput (w l : Nat) (late : List (Fin 12)) (s : State) : State :=
  match s.get F.WHL_LOOP_CFG.SAFE_OUT w l with
  | 0 =>
    -- a stopped loop stops its converter channels whatever its safe output is (R366)
    if s.getB F.WHL_LOOP_CFG.STOPPED w l then
      (chansOf s w l).foldl (fun s c =>
        if chActive s c then
          let s := cnvAsh c 0x0C05 (chFaultClass s c) (s.set F.CNV_CH_STAT.STOP_CAUSE 6 c)
          issueFor (.cnvCh c) 0x0C05 (chFaultClass s c) (chStop c 0 6 s)
        else s) s
    else s
  | 1 => copyPorts w l (fun _ => 0) true late s
  | _ =>
    let ls := legsOfLoop s w l
    let s := copyPorts w l (fun _ => 0) true late s
    ls.foldl (fun s k => s.setLeg k { s.leg k with offPend := true }) s

/-- A copy of the loop's own outputs clears the OFF_REQ of its legs; they resume at the carrier event after it (R247). -/
def clearOff (w l : Nat) (s : State) : State :=
  (legsOfLoop s w l).foldl (fun s k =>
    let x := s.leg k
    if x.offReq || x.offPend then
      showOffReq k (s.setLeg k { x with offReq := false, offPend := false, waitCarrier := true })
    else s) s

/-! ### Faults of a loop and of a Whorl (R188, R197 to R199) -/

/-- HANDOVER_ABORT (R197): the source keeps control; 0x0509. -/
def handoverAbort (reason : Nat) (s : State) : State :=
  match s.whl.handover with
  | none => s
  | some (a, b) =>
    let s := (s.setWhorl a { s.whorl a with held := false })
    let s := (s.setWhorl b { s.whorl b with held := false })
    let s := { s with whl := { s.whl with handover := none, copyAborts := 0 } }
    let s := ((s.set F.WHL_HANDOVER.BUSY 0).set F.WHL_HANDOVER.ABORT 1).set F.WHL_HANDOVER.ABORT_REASON reason
    updWhorlAbort a (raise 147 (issue 0x0509 0 s))

/-- A fault on a Whorl of a handover in progress abandons it. -/
def handoverFault (w : Nat) (s : State) : State :=
  match s.whl.handover with
  | some (a, b) => if a = w ∨ b = w then handoverAbort 2 s else s
  | none => s

/-- Stop loop l with a fault (R188): STOPPED, the code with its FAULT_CLASS, EV_WHL_LOOP_FAULT (147), the safe output at the
output phase of an execution in progress, else at once. -/
def stopLoop (w l code : Nat) (s : State) : State :=
  let s := s.set F.WHL_LOOP_CFG.STOPPED 1 w l
  let s := raise 147 (issueFor (.loop w l) code (s.get F.WHL_LOOP_CFG.FAULT_CLASS w l) s)
  let s := handoverFault w s
  let x := s.loopSt w l
  if x.inExec then s.setLoopSt w l { x with out := .safe } else safeOutput w l [] s

/-- Clear STANDBY_OK (R21). -/
def standbyLost (s : State) : State := s.set F.MODE_STAT.STANDBY_OK 0

/-- Copy a block of registers. -/
def copyRegs (src dst n : Nat) (s : State) : State :=
  (List.range n).foldl (fun s i => s.wr (dst + 4 * i) (s.rd (src + 4 * i))) s

/-- First register of Whorl w. -/
def whlRegs (w : Nat) : Nat := 0x30090000 + 0x1000 * w

/-- HANDOVER_SWITCH (R196): every destination and link of `a` goes over to `b`, with the loop declarations, tables and link
entries, which the standby has executed as the target's; what waits in the queue goes on both. -/
def switchTo (a b : Nat) (s : State) : State :=
  let s := copyRegs (whlRegs a + 0x100) (whlRegs b + 0x100) 64 s
  let s := copyRegs (whlRegs a + 0x400) (whlRegs b + 0x400) 16 s
  let s := copyRegs (whlRegs a + 0x500) (whlRegs b + 0x500) 8 s
  let s := (List.range 8).foldl (fun s v => (List.range 8).foldl (fun s k =>
    if s.get F.WHL_LINK.SRC_WHORL v k == a then s.set F.WHL_LINK.SRC_WHORL b v k else s) s) s
  let s := { s with sys := { s.sys with cfg := { s.sys.cfg with
    outMap := s.sys.cfg.outMap.map (fun (d : OutDest) => if d.whorl == a then { d with whorl := b } else d) } } }
  let s := (List.range 3).foldl (fun s c =>
    let s := if s.get F.CNV_CH_SRC.SRC_WHORL c == a then s.set F.CNV_CH_SRC.SRC_WHORL b c else s
    if s.get F.CNV_CH_SRC.V2L_WHORL c == a then s.set F.CNV_CH_SRC.V2L_WHORL b c else s) s
  let s := s.setWhorl b { s.whorl b with loops := (s.whorl a).loops, queue := (s.whorl a).queue, prep := .idle }
  let s := s.set F.WHL_CTL.CQ_LEVEL (s.whorl b).queue.length b
  let s := setVerified 5 b (verified s 5 a) s
  (s.set F.WHL_CTL.ROLE 0 b).set F.WHL_SHADOW.ACTIVE 0 b

/-- A standby that shadows w in EXACT and whose last comparison agreed (R199). -/
def exactStandby (s : State) (w : Nat) : Option Nat :=
  match shadowOf s w with
  | some v => if !s.getB F.WHL_SHADOW.MODE v && SMap.get 0 s.upd.want (16 + w) == 0 && (s.whorl v).agreed then some v else none
  | none => none

/-- Standby Whorls that are free (R22): the lowest first. -/
def freeStandby (s : State) : Option Nat :=
  (List.range 8).find? (fun v => s.get F.WHL_CTL.ROLE v == 1 && s.sys.cfg.standby.contains v && !(s.whorl v).subst && whlReady s v)

/-- The Whorl is failed (R198, R199). -/
def failWhorl (w code : Nat) (s : State) : State :=
  if s.get F.WHL_CTL.ROLE w == 2 then s
  else
    let s := updFault 5 w (handoverFault w s)
    let ls := enabledLoops s w
    match exactStandby s w with
    | some v =>
      -- the standby's outputs of the failing execution are copied at its output phase
      let s := ls.foldl (fun s l =>
        let x := s.loopSt w l
        if x.inExec then s.setLoopSt w l { x with out := .standby } else s) s
      let s := switchTo w v s
      let s := s.setWhorl w { s.whorl w with sub := some v, prep := .idle }
      let s := standbyLost (s.set F.WHL_CTL.ROLE 2 w)
      let s := raise 233 ((s.set F.DBG_OLT_STAT.STANDBY_LOST 1).bump F.DBG_OLT_STAT.SUBST_CNT F.DBG_OLT_STAT.SAT)
      raise 147 (issueFor (.whorl w) code 0 s)
    | none =>
      let cls := ls.foldl (fun m l => max m (clsOf (s.get F.WHL_LOOP_CFG.FAULT_CLASS w l))) 0
      let s := s.set F.WHL_CTL.ROLE 2 w
      let s := ls.foldl (fun s l =>
        let x := s.loopSt w l
        if x.inExec then s.setLoopSt w l { x with out := .safe } else safeOutput w l [] s) s
      let s := raise 147 (issueFor (.whorl w) code cls s)
      match (if ls.any (fun l => s.getB F.WHL_LOOP_CFG.SUBST w l) then freeStandby s else none) with
      | some v =>
        let s := standbyLost (s.setWhorl v { s.whorl v with prep := .preparing, target := w, subst := true })
        (s.set F.WHL_SHADOW.TARGET w v).set F.WHL_SHADOW.ACTIVE 0 v
      | none => s

/-! ### Starts (R167, R168, R173 to R175, R205) -/

/-- Bump one of a loop's two counts. -/
def bumpLoop (f : Fld) (w l : Nat) (s : State) : State := s.bump f F.WHL_LOOP_CNT.SAT w l

/-- Input ports of a loop. -/
def inPorts (s : State) (w l : Nat) : List Nat :=
  ((List.range (s.get F.WHL_LOOP_IO.IN_N_M1 w l + 1)).map (s.get F.WHL_LOOP_IO.IN_BASE w l + ·)).filter (· < 64)

/-- A fresh execution of loop l (declared on Whorl o) on Whorl v: cleared registers, inputs latched, FRESH cleared (R167,
R205). -/
def newExec (s : State) (o v l : Nat) : ExecSt :=
  let ps := inPorts s o l
  { phase := .running, loop := l, pc := s.get F.WHL_LOOP_CODE.ENTRY o l
    inputs := ps.foldl (fun m p => SMap.put 0 m p (s.rd (F.WHL_INP.VALUE.addr v p 0))) []
    fresh := ps.foldl (fun n p => if portFresh s v p then putBit n p true else n) 0 }

def clearFresh (o v l : Nat) (s : State) : State :=
  (inPorts s o l).foldl (fun s p => s.setBit F.WHL_FRESH.FRESH (p % 32) false v (p / 32)) s

/-- A required port is not fresh (R168). -/
def staleStart (s : State) (w l : Nat) : Bool :=
  ((inPorts s w l).take (s.get F.WHL_LOOP_IO.REQ_N w l)).any (fun p => !portFresh s w p)

/-- Begin the execution in a bank, on the Whorl and on its shadow. -/
def beginExec (timed : Bool) (w l : Nat) (s : State) : State :=
  let s := lockstep w (fun o v s =>
    let e := newExec s o v l
    let x := s.whorl v
    clearFresh o v l (s.setWhorl v (if timed then { x with timed := e } else { x with bg := e }))) s
  let s := s.setLoopSt w l { s.loopSt w l with inExec := true, out := .none, bgWaiting := false }
  s.set F.WHL_LOOP_CNT.SEQ (s.get F.WHL_LOOP_CNT.SEQ w l + 1) w l

/-- A start that finds the loop stale (R168): STALE, EV_WHL_STALE (150), STALE_ACT, or the end of the run. -/
def startOrStale (timed : Bool) (w l : Nat) (s : State) : State :=
  let x := s.loopSt w l
  if !staleStart s w l then
    beginExec timed w l (s.setLoopSt w l { x with staleRun := 0, overlapRun := if timed then 0 else x.overlapRun })
  else
    let s := raise 150 (bumpLoop F.WHL_LOOP_CNT.STALE_CNT w l (s.set F.WHL_LOOP_FLAGS.STALE 1 w l))
    let run := x.staleRun + 1
    let s := s.setLoopSt w l { x with staleRun := run, overlapRun := if timed then 0 else x.overlapRun, bgWaiting := false }
    let n := s.get F.WHL_LOOP_CFG.STALE_N w l
    if n != 0 && decide (run ≥ n) then
      -- the loop is stopped at this start and takes its safe output at the output phase
      if timed then
        let s := s.setLoopSt w l { s.loopSt w l with inExec := true }
        clearFresh w w l (stopLoop w l 0x0506 s)
      else stopLoop w l 0x0506 (clearFresh w w l s)
    else match s.get F.WHL_LOOP_CFG.STALE_ACT w l with
      | 0 => beginExec timed w l s
      | 1 => clearFresh w w l s
      | _ =>
        let s := clearFresh w w l s
        if timed then s.setLoopSt w l { s.loopSt w l with out := .safe } else safeOutput w l [] s

/-- The loop can be started: enabled, not stopped, of the kind, on a Whorl that runs. -/
def startable (s : State) (w l : Nat) (bg : Bool) : Bool :=
  canRun s w && s.getB F.WHL_LOOP_CFG.EN w l && !s.getB F.WHL_LOOP_CFG.STOPPED w l && s.getB F.WHL_LOOP_CFG.KIND w l == bg

/-- A state copy of a handover that a trigger interrupts is abandoned; sixteen in a row abandon the handover (R193, R197). -/
def copyInterrupted (w : Nat) (s : State) : State :=
  match s.whl.handover with
  | some (a, b) =>
    if a = w ∨ b = w then
      let n := s.whl.copyAborts + 1
      let s := { s with whl := { s.whl with copyAborts := n } }
      if n ≥ 16 then handoverAbort 1 s else s
    else s
  | none => s

/-- TIMED_LOOP_START (R11, R173): inside another TIMED execution the loop is skipped; OVERLAP_N skips in a row stop it with
0x0505. -/
def execTimedLoopStart (w : Fin 8) (loop : Fin 8) (s : State) : Res :=
  .next (if !startable s w loop false then s
    else if (s.loopSt w loop).skipOne then s.setLoopSt w loop { s.loopSt w loop with skipOne := false }
    else
      let s := copyInterrupted w s
      if (s.whorl w).timed.phase != .none then
        let s := bumpLoop F.WHL_LOOP_CNT.OVERLAP_CNT w loop (s.set F.WHL_LOOP_FLAGS.OVERLAP 1 w loop)
        let x := s.loopSt w loop
        let s := s.setLoopSt w loop { x with overlapRun := x.overlapRun + 1 }
        let n := s.get F.WHL_LOOP_CFG.OVERLAP_N w loop
        if n != 0 && decide (x.overlapRun + 1 ≥ n) then stopLoop w loop 0x0505 s else s
      else startOrStale true w loop s)

/-- BACKGROUND_TRIGGER (R174): dropped with OVERRUN while the loop's previous execution still runs or waits. -/
def execBackgroundTrigger (w : Fin 8) (loop : Fin 8) (s : State) : Res :=
  .next (if !startable s w loop true then s
    else if (s.loopSt w loop).skipOne then s.setLoopSt w loop { s.loopSt w loop with skipOne := false }
    else
      let x := s.loopSt w loop
      if x.bgWaiting || x.inExec then
        let s := bumpLoop F.WHL_LOOP_CNT.OVERLAP_CNT w loop (s.set F.WHL_LOOP_FLAGS.OVERRUN 1 w loop)
        let s := s.setLoopSt w loop { x with overlapRun := x.overlapRun + 1 }
        let n := s.get F.WHL_LOOP_CFG.OVERLAP_N w loop
        if n != 0 && decide (x.overlapRun + 1 ≥ n) then stopLoop w loop 0x0508 s else s
      else s.setLoopSt w loop { x with bgWaiting := true, overlapRun := 0 })

/-- BACKGROUND_START (R174, R206): no TIMED execution, no other BACKGROUND one, and no lower loop waits. -/
def execBackgroundStart (w : Fin 8) (loop : Fin 8) (s : State) : Res :=
  .next (if startable s w loop true && (s.loopSt w loop).bgWaiting && (s.whorl w).timed.phase == .none &&
      (s.whorl w).bg.phase == .none && (List.range loop.val).all (fun k => !(s.loopSt w k).bgWaiting) then
      startOrStale false w loop s
    else s)

/-! ### Ends (R172, R174, R189, R190, R222) -/

/-- What an execution that has ended asks of its loop: outputs, the safe output, a stop or a failure. -/
def settleExec (w l : Nat) (e : ExecSt) (cut : Bool) (s : State) : State :=
  let set (k : OutKind) (s : State) : State :=
    let x := s.loopSt w l
    s.setLoopSt w l { x with out := if s.getB F.WHL_LOOP_CFG.DRAINING w l then .safe else k }
  let s := if e.poison then s.set F.WHL_LOOP_FLAGS.POISON 1 w l else s
  if cut then failWhorl w 0x0501 (set .safe (s.set F.WHL_LOOP_FLAGS.BUDGET 1 w l))
  else if e.codeUe then failWhorl w 0x0502 (set .safe s)
  else if e.poison then stopLoop w l 0x0503 (set .safe s)
  else if e.illegal then stopLoop w l 0x050A (set .safe s)
  else if e.phase = .safe then set .safe s
  else set .normal s

/-- End of the loop's present execution at its budget end: an execution still running is cut off. -/
def budgetEnd (timed : Bool) (w l : Nat) (s : State) : State :=
  let s := lockstep w (fun o v s => endIfPast o v s) s
  let e := if timed then (s.whorl w).timed else (s.whorl w).bg
  let cut := e.phase == .running
  let b := s.get F.WHL_LOOP_TIME.BUDGET w l
  let e' := if cut then retire b e else e
  let s := if cut then orFlags w w l e'.flags s else s
  let s := lockstep w (fun _ v s =>
    let x := s.whorl v
    s.setWhorl v (if timed then
      { x with timed := {}, bg := { x.bg with flight := x.bg.flight.map (fun f => { f with due := f.due - b }) } }
    else { x with bg := {} })) s
  settleExec w l e' cut s

/-- An output phase's work on loop l (R169, R186, R189, R199, R247). -/
def outputPhase (w l : Nat) (late : List (Fin 12)) (s : State) : State :=
  let x := s.loopSt w l
  let s := s.setLoopSt w l { x with out := .none, inExec := false }
  let s := match x.out with
    | .none => s
    | .normal => clearOff w l (copyPorts w l (fun p => SMap.get 0 (s.whorl w).outs p) false late s)
    | .safe => safeOutput w l late s
    | .standby =>
      let v := (s.whorl w).sub.getD w
      -- the destinations already belong to the standby
      clearOff v l (copyPorts v l (fun p => SMap.get 0 (s.whorl v).outs p) false late s)
  let s := match x.out with
    | .none => s
    | _ => if s.pdReady 8 then daqPhase w l (tracePhase w l s) else s
  let s := if s.getB F.WHL_LOOP_CFG.DRAINING w l then raise 145 (s.set F.WHL_LOOP_CFG.DRAINING 0 w l) else s
  match x.stopNext with
  | some code => stopLoop w l code (s.setLoopSt w l { s.loopSt w l with stopNext := none })
  | none => s

/-! ### Shadow comparison (R194, R195) -/

/-- Ports of the two Whorls agree. -/
def shadowAgrees (s : State) (w v l : Nat) : Bool :=
  (outPorts s w l).all (fun p =>
    let a := SMap.get 0 (s.whorl w).outs p
    let b := SMap.get 0 (s.whorl v).outs p
    if SMap.get 0 s.upd.want (16 + w) != 0 then decide ((sint a - sint b).natAbs ≤ 256 * s.get F.UPD_CFG.UPD_TOL)
    else if s.getB F.WHL_SHADOW.MODE v then decide ((sint a - sint b).natAbs ≤ 256 * s.get F.WHL_SHADOW.TOL v) else a == b)

/-- The standby's comparison at an output phase. -/
def shadowCompare (w l : Nat) (s : State) : State :=
  match shadowOf s w with
  | none => s
  | some v =>
    let x := s.whorl v
    if shadowAgrees s w v l then
      s.setWhorl v { x with agreed := true, agree := SMap.put 0 x.agree l (SMap.get 0 x.agree l + 1) }
    else
      let s := raise 148 (s.set F.WHL_SHADOW.MISMATCH_CNT (min (s.get F.WHL_SHADOW.MISMATCH_CNT v + 1) 255) v)
      let s := s.setWhorl v { x with agreed := false, agree := [], prep := .copying, sessMiss := x.sessMiss + 1 }
      let s := s.set F.WHL_SHADOW.ACTIVE 0 v
      if x.sessMiss + 1 ≥ max (s.get F.WHL_SHADOW.XCHK_N v) 1 then
        let s := s.setWhorl v { s.whorl v with prep := .idle }
        raise 147 (issueFor (.whorl w) 0x0507 (s.get F.WHL_GLB.XCHK_CLASS) (s.set F.WHL_CTL.SUSPECT 1 w))
      else s

/-- BUDGET_END (R172): cycle BUDGET of the loop's execution. -/
def execBudgetEnd (w : Fin 8) (loop : Fin 8) (s : State) : Res :=
  let x := s.whorl w
  .next (if x.timed.phase != .none && x.timed.loop == loop.val then budgetEnd true w loop s
    else if x.timed.phase == .none && x.bg.phase == .running && x.bg.loop == loop.val then
      -- a BACKGROUND execution's outputs are copied when it ends
      outputPhase w loop [] (budgetEnd false w loop s)
    else s)

/-- OUTPUT_PHASE_COPY (R169): the loop's output phase; `late` names the generators that have a transfer in the cycle of the
write (R14). -/
def execOutputPhaseCopy (w : Fin 8) (loop : Fin 8) (late : List (Fin 12)) (s : State) : Res :=
  .next (if s.getB F.WHL_LOOP_CFG.KIND w loop || !whlReady s w then s
    else
      let s := if (s.loopSt w loop).out == .normal then shadowCompare w loop s else s
      outputPhase w loop late s)

/-- BACKGROUND_COMPLETE (R174): the execution has ended; its outputs are copied. -/
def execBackgroundComplete (w : Fin 8) (loop : Fin 8) (s : State) : Res :=
  let x := s.whorl w
  .next (if x.bg.loop == loop.val && (x.bg.phase == .ended || x.bg.phase == .safe) && x.timed.phase == .none then
      let s := budgetEnd false w loop s
      let s := if (s.loopSt w loop).out == .normal then shadowCompare w loop s else s
      outputPhase w loop [] s
    else s)

/-! ### Enabling and disabling (R175, R186, R188) -/

/-- Set a loop's EN; `atTrigger` says that a trigger falls in the same cycle and starts nothing. -/
def loopEnable (w l : Nat) (atTrigger : Bool) (s : State) : State :=
  if s.getB F.WHL_LOOP_CFG.EN w l then s
  else
    let s := (s.set F.WHL_LOOP_CFG.EN 1 w l).set F.WHL_LOOP_CFG.STOPPED 0 w l
    s.setLoopSt w l { s.loopSt w l with staleRun := 0, overlapRun := 0, skipOne := atTrigger, bgWaiting := false, stopNext := none }

/-- Clear a loop's EN: DRAINING while an execution is in progress, else the safe output at once. -/
def loopDisable (w l : Nat) (s : State) : State :=
  if !s.getB F.WHL_LOOP_CFG.EN w l then s
  else
    let s := s.set F.WHL_LOOP_CFG.EN 0 w l
    let x := s.loopSt w l
    if x.inExec then
      let s := s.set F.WHL_LOOP_CFG.DRAINING 1 w l
      if x.out == .normal then s.setLoopSt w l { x with out := .safe } else s
    else raise 145 (safeOutput w l [] (s.setLoopSt w l { x with out := .none, bgWaiting := false }))

def execLoopEnable (m : Master) (w : Fin 8) (loop : Fin 8) (atTrigger : Bool) (s : State) : Res :=
  .next (if s.regWriter m && whlReady s w then (loopEnable w loop atTrigger s).answer .done else busError s)

def execLoopDisable (m : Master) (w : Fin 8) (loop : Fin 8) (s : State) : Res :=
  .next (if s.regWriter m && whlReady s w then (loopDisable w loop s).answer .done else busError s)

/-! ### The coefficient write queue (R176 to R182) -/

/-- Who may feed the queue (R176). -/
def queueSource (s : State) (w : Nat) (m : Master) : Bool :=
  match m with
  | .pair _ | .tinder | .loader => true
  | .debug => decide (3 ≤ s.dbgLevel)
  | .core _ => (List.range 8).all (fun l => !s.getB F.WHL_LOOP_CFG.CHECKED w l)
  | _ => false

/-- Byte key of coefficient word i. -/
def coefKey (w i : Nat) : Nat := whlBase w + 0x40000 + 4 * i

/-- Apply one entry on Whorl w: a full-word write, which clears poison (R191), or a descriptor. -/
def applyEntry (w : Nat) (e : QEntry) (s : State) : State :=
  match e with
  | .coef i v => (cleanWord (coefKey w i) s).store (coefKey w i) 4 v.toNat
  | .tbl t v => s.wr (F.WHL_TBL_CFG.EN.addr w t 0) v

/-- Put an entry in the queue, or refuse it with QFULL, EV_WHL_QFULL (146) and a bus error (R180). -/
def enqueue (w : Nat) (e : QEntry) (s : State) : State :=
  let x := s.whorl w
  if x.queue.length ≥ 16 then busError (raise 146 (s.bump F.WHL_CTL.QFULL F.WHL_CTL.SAT w))
  else
    let s := s.setWhorl w { x with queue := x.queue ++ [e] }
    (s.set F.WHL_CTL.CQ_LEVEL (x.queue.length + 1) w).answer .done

/-- A write of a coefficient word: direct while no loop of the Whorl is enabled (R164), else through the queue. -/
def coefWrite (m : Master) (w i : Nat) (v : Word) (s : State) : State :=
  if !whlReady s w then busError s
  else if (enabledLoops s w).isEmpty then
    if s.regWriter m then (applyEntry w (.coef i v) s).answer .done else busError s
  else if queueSource s w m then enqueue w (.coef i v) s else busError s

/-- A write of a table descriptor passes through the queue (R176); the loader writes it directly before release. -/
def tblCfgWrite (m : Master) (w t : Nat) (v : Word) (s : State) : State :=
  if !whlReady s w then busError s
  else if m == .loader then (applyEntry w (.tbl t v) s).answer .done
  else if queueSource s w m then enqueue w (.tbl t v) s else busError s

/-- COEF_QUEUE_WRITE (R176, R180). -/
def execCoefQueueWrite (m : Master) (w : Fin 8) (entry : CoefWrite) (s : State) : Res :=
  .next (match entry with
    | .coef i v => coefWrite m w i v s
    | .table t v => tblCfgWrite m w t v s)

/-- QUEUE_BATCH_APPLY (R177 to R179, R182): in an idle slot with CQ_HOLD clear, the entries present are applied in order,
also on the Whorl's shadow or target. -/
def execQueueBatchApply (w : Fin 8) (s : State) : Res :=
  let x := s.whorl w
  .next (if whlReady s w && x.timed.phase == .none && x.bg.phase == .none && !s.getB F.WHL_CTL.CQ_HOLD w && !x.held then
      let ps := peersOf s w
      let s := x.queue.foldl (fun s e => ps.foldl (fun s v => applyEntry v e s) (applyEntry w e s)) s
      let s := s.setWhorl w { s.whorl w with queue := [] }
      s.set F.WHL_CTL.CQ_LEVEL 0 w
    else s)

/-- CQ_HOLD_SET, CQ_HOLD_CLEAR (R179). -/
def execCqHoldSet (m : Master) (w : Fin 8) (s : State) : Res :=
  .next (if s.regWriter m && whlReady s w then (s.set F.WHL_CTL.CQ_HOLD 1 w).answer .done else busError s)
def execCqHoldClear (m : Master) (w : Fin 8) (s : State) : Res :=
  .next (if s.regWriter m && whlReady s w then (s.set F.WHL_CTL.CQ_HOLD 0 w).answer .done else busError s)

/-- Discard what is not yet applied (R180); during a handover it abandons the handover (R197). -/
def cqFlush (w : Nat) (s : State) : State :=
  let s := s.setWhorl w { s.whorl w with queue := [] }
  let s := (s.set F.WHL_CTL.CQ_LEVEL 0 w).set F.WHL_CTL.CQ_HOLD 0 w
  match s.whl.handover with
  | some (a, b) => if a = w ∨ b = w then handoverAbort 3 s else s
  | none => s

def execCqFlush (m : Master) (w : Fin 8) (s : State) : Res :=
  .next (if s.regWriter m && whlReady s w then (cqFlush w s).answer .done else busError s)

/-! ### Writes of the other regions (R163, R164, R185) -/

/-- Table word i lies in the bank of an enabled table that is active (`active`), or in the other. -/
def inBank (s : State) (w i : Nat) (active : Bool) : Bool :=
  (List.range 16).any (fun t =>
    let n := 2 ^ s.get F.WHL_TBL_CFG.LOG2N w t
    let base := s.get F.WHL_TBL_CFG.BASE w t + (if s.getB F.WHL_TBL_CFG.BANK w t == active then n else 0)
    s.getB F.WHL_TBL_CFG.EN w t && decide (base ≤ i ∧ i < base + n))

/-- A word of the table region (R163, R164, R185): direct while no loop of the Whorl is enabled, else only into an inactive bank. -/
def tableWrite (m : Master) (w i : Nat) (v : Word) (s : State) : State :=
  if !(s.regWriter m && whlReady s w) then busError s
  else if (enabledLoops s w).isEmpty || (!inBank s w i true && inBank s w i false) then
    ((cleanWord (tableKey w i) s).store (tableKey w i) 4 v.toNat).answer .done
  else busError s

def execTableRegionWrite (m : Master) (w : Fin 8) (word : Fin 114688) (value : Word) (s : State) : Res :=
  .next (tableWrite m w word value s)

/-- State word i lies in the range of a loop that is disabled and not draining. -/
def idleStateWord (s : State) (w i : Nat) : Bool :=
  (List.range 8).any (fun l =>
    !s.getB F.WHL_LOOP_CFG.EN w l && !s.getB F.WHL_LOOP_CFG.DRAINING w l &&
      decide (s.get F.WHL_LOOP_STATE.STATE_BASE w l ≤ i ∧ i < s.get F.WHL_LOOP_STATE.STATE_BASE w l + s.get F.WHL_LOOP_STATE.STATE_LEN w l))

/-- A fabric write anywhere in a Whorl's window, by region (R163). -/
def whorlWrite (m : Master) (w off size v : Nat) (s : State) : State :=
  let a := whlBase w + off
  if !memOk s m a size true then busError s
  else if 0x40000 ≤ off ∧ off < 0x50000 then coefWrite m w ((off - 0x40000) / 4) (BitVec.ofNat 32 v) s
  else if 0x50000 ≤ off ∧ off < 0xC0000 then tableWrite m w ((off - 0x50000) / 4) (BitVec.ofNat 32 v) s
  else if (enabledLoops s w).isEmpty || (decide (0xC0000 ≤ off ∧ off < 0xE0000) && idleStateWord s w ((off - 0xC0000) / 4)) then
    if m == .debug && decide (s.dbgLevel < 3) then busError s else memWrite m a size v .clean s
  else busError s

/-- WHORL_MEMORY_WRITE (R163, R164). -/
def execWhorlMemoryWrite (m : Master) (w : Fin 8) (off : Fin 0x100000) (size : Fin 9) (value : BitVec 64) (s : State) : Res :=
  .next (whorlWrite m w off size (value.toNat % 2 ^ (8 * size.val)) s)

/-! ### Standby and handover (R192 to R196) -/

/-- Copy `n` bytes of memory from key a to key b. -/
def copyMem (a b n : Nat) (s : State) : State :=
  let es := s.mem.filter (fun e => decide (a ≤ e.1 ∧ e.1 < a + n))
  let s := { s with mem := SMap.restrict s.mem (fun k => !decide (b ≤ k ∧ k < b + n)) }
  let s := { s with fab := { s.fab with poison := s.fab.poison.filter (fun k => !decide (b ≤ k ∧ k < b + n)) } }
  es.foldl (fun s e => s.setByte (e.1 - a + b) e.2) s

/-- STATE_COPY (R193): the STATE_LEN words of every loop of `a` to `b`; `zero` clears them instead (R199). -/
def copyState (a b : Nat) (zero : Bool) (s : State) : State :=
  (List.range 8).foldl (fun s l =>
    let off := 0xC0000 + 4 * s.get F.WHL_LOOP_STATE.STATE_BASE a l
    let n := 4 * s.get F.WHL_LOOP_STATE.STATE_LEN a l
    if zero then s.setBytes (whlBase b + off) (List.replicate n 0) else copyMem (whlBase a + off) (whlBase b + off) n s) s

/-- Code and tables of Whorl w from a verified copy, which begins at the window's start (R163, R192). -/
def loadWhorl (w : Nat) (image : List Byte) (s : State) : State :=
  let clear (off n : Nat) (s : State) : State :=
    let a := whlBase w + off
    { s with mem := SMap.restrict s.mem (fun k => !decide (a ≤ k ∧ k < a + n))
             fab := { s.fab with poison := s.fab.poison.filter (fun k => !decide (a ≤ k ∧ k < a + n)) } }
  let s := place (whlBase w) (image.take 0x40000) (clear 0 0x40000 s)
  place (whlBase w + 0x50000) ((image.drop 0x50000).take 0x70000) (clear 0x50000 0x70000 s)

/-- Whorls that have loops. -/
def hasLoops (s : State) (w : Nat) : Bool := !(enabledLoops s w).isEmpty && s.get F.WHL_CTL.ROLE w == 0

/-- SHADOW_SESSION_START (R192, R195): the standby turns to the next Whorl that has loops, in ascending order. -/
def execShadowSessionStart (w : Fin 8) (s : State) : Res :=
  let x := s.whorl w
  let next := (List.range 8).map (fun i => (x.target + 1 + i) % 8) |>.find? (fun v => v != w.val && hasLoops s v)
  .next (if s.get F.WHL_CTL.ROLE w == 1 && s.getB F.MODE_STAT.STANDBY_OK && !x.subst && s.whl.handover.isNone && whlReady s w &&
      SMap.get 0 s.upd.want (16 + x.target) == 0 then
      match next with
      | some v =>
        let s := s.setWhorl w { x with prep := .preparing, target := v, sessMiss := 0, agree := [], agreed := false }
        (s.set F.WHL_SHADOW.TARGET v w).set F.WHL_SHADOW.ACTIVE 0 w
      | none => s
    else s)

/-- Begin to shadow. -/
def startShadow (w : Nat) (s : State) : State :=
  (s.setWhorl w { s.whorl w with prep := .shadowing, agree := [], agreed := false }).set F.WHL_SHADOW.ACTIVE 1 w

/-- STANDBY_PREPARE_DONE (R192, R199): code, tables, coefficients and descriptors are there and the state is copied; a
substitute has its state zeroed, takes the loops over and starts them at their next trigger. -/
def execStandbyPrepareDone (w : Fin 8) (s : State) : Res :=
  let x := s.whorl w
  .next (if x.prep == .preparing && whlReady s w then
      let t := x.target
      let s := loadWhorl w (whorlImage s t) s
      let s := copyMem (whlBase t + 0x40000) (whlBase w + 0x40000) 0x10000 s
      let s := copyRegs (whlRegs t + 0x400) (whlRegs w + 0x400) 16 s
      let s := copyState t w x.subst s
      if x.subst then
        let s := switchTo t w s
        let s := s.setWhorl t { s.whorl t with sub := some w.val }
        let s := s.setWhorl w { s.whorl w with subst := false, loops := [] }
        raise 233 ((s.set F.DBG_OLT_STAT.STANDBY_LOST 1).bump F.DBG_OLT_STAT.SUBST_CNT F.DBG_OLT_STAT.SAT)
      else startShadow w s
    else s)

/-- The switch of a handover: roles swap, and the former source shadows in reverse; EV_WHL_HANDOVER (149). -/
def handoverSwitch (a b : Nat) (s : State) : State :=
  let s := switchTo a b s
  let s := s.setWhorl b { s.whorl b with held := false }
  let s := s.setWhorl a { s.whorl a with held := false, target := b, sessMiss := 0 }
  let s := startShadow a (s.set F.WHL_CTL.ROLE 1 a)
  let s := s.set F.WHL_SHADOW.TARGET b a
  let s := { s with whl := { s.whl with handover := none, copyAborts := 0 } }
  updWhorlSwitched a b (raise 149 ((s.set F.WHL_HANDOVER.BUSY 0).set F.WHL_HANDOVER.DONE 1))

/-- STATE_COPY_DONE (R193, R196): the copy to standby w completes, or is abandoned by a trigger. -/
def execStateCopyDone (w : Fin 8) (abandoned : Bool) (s : State) : Res :=
  .next (match s.whl.handover with
    | some (a, b) =>
      if b = w.val then (if abandoned then copyInterrupted w s else handoverSwitch a b (copyState a b false s)) else s
    | none =>
      if (s.whorl w).prep == .copying && !abandoned then startShadow w (copyState (s.whorl w).target w false s) else s)

/-- A handover is accepted when STANDBY_OK is set and the standby has agreed SHADOW_MIN times on every loop (R196). -/
def handoverAllowed (s : State) (a b : Nat) : Bool :=
  let x := s.whorl b
  s.getB F.MODE_STAT.STANDBY_OK && a != b && x.prep == .shadowing && x.target == a && s.whl.handover.isNone &&
    (enabledLoops s a).all (fun l => decide (max (s.get F.WHL_HANDOVER.SHADOW_MIN) 1 ≤ SMap.get 0 x.agree l))

/-- Begin a handover: batches are held on both Whorls. -/
def handoverRequest (a b : Nat) (s : State) : State :=
  if handoverAllowed s a b then
    let s := s.setWhorl a { s.whorl a with held := true }
    let s := s.setWhorl b { s.whorl b with held := true }
    { (s.set F.WHL_HANDOVER.BUSY 1) with whl := { s.whl with handover := some (a, b), copyAborts := 0 } }
  else s

/-- A write of WHL_HANDOVER (R196); only Tinder's counts. -/
def handoverWrite (m : Master) (value : Word) (s : State) : State :=
  if !s.pdReady 5 || !s.regWriter m then busError s
  else if m != .tinder then s.answer .done
  else
    let s := if value.getLsbD 29 then s.set F.WHL_HANDOVER.DONE 0 else s
    let s := if value.getLsbD 28 then s.set F.WHL_HANDOVER.ABORT 0 else s
    let s := (s.set F.WHL_HANDOVER.SOURCE (getBits value 22 20)).set F.WHL_HANDOVER.STANDBY (getBits value 18 16)
    let s := s.set F.WHL_HANDOVER.SHADOW_MIN (getBits value 15 0)
    (if value.getLsbD 31 then handoverRequest (getBits value 22 20) (getBits value 18 16) s else s).answer .done

/-- WHL_HANDOVER_REQUEST (R196). -/
def execWhlHandoverRequest (m : Master) (value : Word) (s : State) : Res := .next (handoverWrite m value s)

/-! ### Scrubber findings in Whorl memories (R191) -/

/-- Loops of Whorl w that own the coefficient or table word at window offset `off`. -/
def ownersOf (s : State) (w off : Nat) : List Nat :=
  (List.range 8).filter (fun l =>
    if off < 0x50000 then ownedCoef s w l ((off - 0x40000) / 4)
    else (List.range 16).any (fun t => s.bit F.WHL_LOOP_COEF.TBL_MASK t w l &&
      inRange ((off - 0x50000) / 4) (s.get F.WHL_TBL_CFG.BASE w t) (2 * 2 ^ s.get F.WHL_TBL_CFG.LOG2N w t - 1)))

/-- SCRUB_POISON_WHORL. -/
def scrubPoisonWhorl (w off : Nat) (s : State) : State :=
  if off < 0x40000 then s.setWhorl w { s.whorl w with repair := (s.whorl w).repair ++ [off / 8] }
  else if off < 0xC0000 then
    (ownersOf s w off).foldl (fun s l =>
      let x := s.loopSt w l
      if !s.getB F.WHL_LOOP_CFG.EN w l || s.getB F.WHL_LOOP_CFG.STOPPED w l then s
      else if x.inExec then s.setLoopSt w l { x with stopNext := some 0x0504 } else stopLoop w l 0x0504 s) s
  else s

/-- CODE_REPAIR (R191): the poisoned code word is rewritten from the verified copy; a copy that cannot be read fails the
Whorl with 0x0502. -/
def execCodeRepair (w : Fin 8) (word : Fin 32768) (copyOk : Bool) (s : State) : Res :=
  let x := s.whorl w
  .next (if x.repair.contains word.val then
      let s := s.setWhorl w { x with repair := x.repair.filter (· != word.val) }
      if copyOk then cleanWord (codeKey w word) s else failWhorl w 0x0502 s
    else s)

end Sys2Proof.Machine
end

