-- ==== Sys2Proof/Machine/Chain.lean ====
section
/-! DEFINITION. The measurement chain across units (chapters 5, 9, 15): the end of a window with the Flyer's snapshot and the
back-EMF observers, the delivery of results to Whorl ports and buffers, and the housekeeping conversions that the Kiln reads. -/

namespace Sys2Proof.Machine
open Sys2Proof

/-- Port value of an item in Q13.10 of channel n (R147). -/
def portValue (s : State) (n : Nat) (v : Int) : Int :=
  clampI min32 max32 (roundDiv ((v - s.getI F.AFE_CH_CFG.CH_OFS n * 256) * s.getI F.AFE_CH_GAIN.CH_GAIN n) 1024)

/-- The W0 mean of channel n in per unit, and whether it is valid. -/
def w0Mean (s : State) (n : Nat) : Int × Bool :=
  match (s.win n 0).res with
  | some r => (portValue s n r.mean, r.flags.testBit 0)
  | none => (0, false)

/-- EMF_UPDATE of the observers whose VCH0 is channel n (R281). -/
def emfUpdates (n wlen : Nat) (d : SnapAge) (s : State) : State :=
  [0, 1].foldl (fun s m =>
    if s.get F.FLY_EMF_CFG.VCH0 m == n && s.getB F.FLY_EMF_CFG.EN m then
      let a := w0Mean s n
      let b := w0Mean s (s.get F.FLY_EMF_CFG.VCH1 m)
      let i := w0Mean s (s.get F.FLY_EMF_CFG.ICH0 m)
      let j := w0Mean s (s.get F.FLY_EMF_CFG.ICH1 m)
      emfUpdate m a.1 b.1 i.1 j.1 (a.2 && b.2 && i.2 && j.2) wlen d.trk s
    else s) s

/-- What a window's end does: its result, the observers' update, the snapshot (R10, R281, R295). -/
def windowEnd (n w : Nat) (samples : List RawSample) (abort : Bool) (d : SnapAge) (s : State) : State :=
  if !(s.win n w).open_ then s
  else
    let s := closeWindow n w samples abort s
    let wlen := match (s.win n w).res with
      | some r => r.w
      | none => 0
    let s := if w = 0 && s.pdReady 7 then emfUpdates n wlen d s else s
    takeSnapshot n w d s

/-- WINDOW_END (R10, R137): `samples` are the window's with one neighbour on each side. -/
def execWindowEnd (ch : Fin 48) (win : Fin 2) (samples : List RawSample) (d : SnapAge) (s : State) : Res :=
  .next (windowEnd ch win samples false d s)

/-- WINDOW_ABORT (R139, R140): a window closes at 10 ms, or because its carrier stops, with ABORT. -/
def execWindowAbort (ch : Fin 48) (win : Fin 2) (samples : List RawSample) (d : SnapAge) (s : State) : Res :=
  .next (windowEnd ch win samples true d s)

/-- Items of window w of channel n that go to ports: enabled, port, value in Q13.10, valid. -/
def windowItems (s : State) (n w : Nat) (r : WinRes) : List (Bool × Nat × Int × Bool) :=
  let ok := r.flags.testBit 0
  let pts := [(F.AFE_CH_PORT1.EN0, F.AFE_CH_PORT1.PORT0, 0), (F.AFE_CH_PORT1.EN1, F.AFE_CH_PORT1.PORT1, 1),
    (F.AFE_CH_PORT1.EN2, F.AFE_CH_PORT1.PORT2, 2), (F.AFE_CH_PORT1.EN3, F.AFE_CH_PORT1.PORT3, 3)].map (fun (e, f, p) =>
      (s.getB e n && s.getB F.AFE_PT_CFG.EN n p && s.get F.AFE_PT_CFG.BIND n p == w, s.get f n,
        r.pts.getD p 0 * 256, ok && !r.ptMiss.testBit p))
  let own := if w = 0 then
      [(s.getB F.AFE_CH_PORT0.EN0 n, s.get F.AFE_CH_PORT0.PORT0 n, r.mean, ok),
       (s.getB F.AFE_CH_PORT0.EN2 n, s.get F.AFE_CH_PORT0.PORT2 n, r.min * 256, ok),
       (s.getB F.AFE_CH_PORT0.EN3 n, s.get F.AFE_CH_PORT0.PORT3 n, r.max * 256, ok)]
    else [(s.getB F.AFE_CH_PORT0.EN1 n, s.get F.AFE_CH_PORT0.PORT1 n, r.mean, ok)]
  own ++ pts

/-- Ports that the enabled items of channel n map to. -/
def mappedPorts (s : State) (n : Nat) : List Nat :=
  [(F.AFE_CH_PORT0.EN0, F.AFE_CH_PORT0.PORT0), (F.AFE_CH_PORT0.EN1, F.AFE_CH_PORT0.PORT1), (F.AFE_CH_PORT0.EN2, F.AFE_CH_PORT0.PORT2),
   (F.AFE_CH_PORT0.EN3, F.AFE_CH_PORT0.PORT3), (F.AFE_CH_PORT1.EN0, F.AFE_CH_PORT1.PORT0), (F.AFE_CH_PORT1.EN1, F.AFE_CH_PORT1.PORT1),
   (F.AFE_CH_PORT1.EN2, F.AFE_CH_PORT1.PORT2), (F.AFE_CH_PORT1.EN3, F.AFE_CH_PORT1.PORT3)].filterMap
    (fun (e, f) => if s.getB e n then some (s.get f n) else none)

/-- A higher-numbered channel of the same Whorl delivers to port p (R151). -/
def outranked (s : State) (n p : Nat) : Bool :=
  (List.range 48).any (fun k => decide (n < k) && s.get F.AFE_CH_CFG.WHORL k == s.get F.AFE_CH_CFG.WHORL n && (mappedPorts s k).contains p)

/-- PORT_CONFLICT after a write: channels that share a port of a Whorl (R151). -/
def markConflicts (n : Nat) (s : State) : State :=
  (List.range 48).foldl (fun s k =>
    if k != n && s.get F.AFE_CH_CFG.WHORL k == s.get F.AFE_CH_CFG.WHORL n && (mappedPorts s k).any (mappedPorts s n).contains then
      (s.set F.AFE_CH_CFG.PORT_CONFLICT 1 k).set F.AFE_CH_CFG.PORT_CONFLICT 1 n
    else s) s

/-- The 32-byte record of a window result (R149). -/
def recordBytes (r : WinRes) (seq : Nat) : List Byte :=
  let h (v : Int) := unsigned 16 v
  toBytes 4 (unsigned 32 r.mean) ++ toBytes 2 (h r.max) ++ toBytes 2 (h r.min) ++
    toBytes 2 (h (r.pts.getD 1 0)) ++ toBytes 2 (h (r.pts.getD 0 0)) ++ toBytes 2 (h (r.pts.getD 3 0)) ++ toBytes 2 (h (r.pts.getD 2 0)) ++
    toBytes 4 r.w ++ toBytes 2 r.flags ++ toBytes 2 seq ++ toBytes 4 r.ts ++ toBytes 4 (256 * r.endLeg + r.anchorLeg)

/-- AFE_RESULT_DELIVERY (R146 to R151, R154): 80 ns after its end the window's items and the snapshot reach the ports, and the
record is written. -/
def execAfeResultDelivery (ch : Fin 48) (win : Fin 2) (s : State) : Res :=
  let n := ch.val
  let w := win.val
  let x := s.win n w
  .next (match x.res with
    | none => s
    | some r =>
      let v := s.get F.AFE_CH_CFG.WHORL n
      let s := (windowItems s n w r).foldl (fun s (en, p, q, ok) =>
        if en && whlReady s v && !outranked s n p then
          deliver v p (if ok then some (ofSint (portValue s n q)) else none) s
        else s) s
      let s := (SMap.get [] s.fly.snaps (2 * n + w)).foldl (fun s i =>
        if whlReady s i.whorl then deliver i.whorl i.port i.value s else s) s
      let s := { s with fly := { s.fly with snaps := SMap.put [] s.fly.snaps (2 * n + w) [] } }
      let s := if s.pdReady 6 then
          s.setBytes (0x40000000 + n * 0x100 + w * 0x80 + x.seq % 4 * 0x20) (recordBytes r x.seq) else s
      s.setWin n w { s.win n w with seq := (x.seq + 1) % 65536 })

/-! ### Housekeeping conversions (R156 to R159, R427, R435, R438) -/

/-- HK_CONVERSION_SLOT (R156). -/
def execHkConversionSlot (slot : HkSlot) (s : State) : Res :=
  .next (if !s.pdReady 10 then s
    else match slot with
      | .input i code =>
        if s.bit F.HK_CTL.IN_EN (i.val % 16) (i.val / 16) then kilnLinkHk i code.toNat (hkInput i code.toNat s) else s
      | .twin ch code fa =>
        let n := ch.val
        let sum := (s.twin n).codes.sum + code.toInt
        let (s', done) := twinConvert n code fa s
        if done then kilnBurst n sum s' else s'
      | .reference c r code => kilnInputs (hkReference c r code s))

/-- TWIN_ARBITRATION_END (R158, R427). -/
def execTwinArbitrationEnd (ch : Fin 48) (refOk spareDisagrees : Bool) (slot : Fin 8) (s : State) : Res :=
  .next (kilnInputs (twinArbitration ch refOk spareDisagrees slot s))

/-- TWIN_STROBE_TIMEOUT (R159, R427). -/
def execTwinStrobeTimeout (conv : Fin 4) (s : State) : Res := .next (kilnInputs (twinStrobeLost conv s))

/-- SCRUB_WORD (R546, R191): the scrubber's next word of memory `u`; a finding in a Whorl's memory reaches its loops. -/
def execScrubWord (u : ScrubMem) (synd : Syndrome) (s : State) : Res :=
  let k := scrubKey u (SMap.get 0 s.fab.scrubPtr (scrubSlot u))
  let (s', bad) := scrubStep u synd s
  .next (if bad && keyKind k == 2 then scrubPoisonWhorl (keyUnit k) (k % 0x100000) s' else s')

end Sys2Proof.Machine
end

