-- ==== Sys2Proof/Machine/MachCtl.lean ====
section
/-! DEFINITION. The standard machine supervision in pair A (chapter 10): its 100 µs task, UCG_SPEED, starts, EMERGENCY_RUN. The
spec states its algorithms; the fixed-point formats of its references and the layout of its parameters are the model's (log
entry 84). The standard traction loop itself is a Whorl program and runs as its instructions do. -/

namespace Sys2Proof.Machine
open Sys2Proof

def State.mach (s : State) (m : Nat) : MachSup := SMap.get {} s.sup.machs m
def State.setMach (s : State) (m : Nat) (x : MachSup) : State := { s with sup := { s.sup with machs := SMap.put {} s.sup.machs m x } }
def State.wset (s : State) (i : Nat) : SetSup := SMap.get {} s.sup.sets i
def State.setWset (s : State) (i : Nat) (x : SetSup) : State := { s with sup := { s.sup with sets := SMap.put {} s.sup.sets i x } }

/-- Parameters of machine m and of set i; a machine the Skein does not declare is not controlled. -/
def machPar (s : State) (m : Nat) : Option MachPar := s.sys.cfg.sup.machs[m]?
def setPar (s : State) (i : Nat) : Option SetPar := s.sys.cfg.sup.sets[i]?
def setsOfMach (s : State) (m : Nat) : List (Nat × SetPar) :=
  (s.sys.cfg.sup.sets.zipIdx.map (fun e => (e.2, e.1))).filter (fun e => e.2.mach == m)

/-- Pair p's firmware runs: released, checked, unchecked, split or resynchronising. -/
def pairRuns (s : State) (p : Nat) : Bool :=
  s.sys.released && s.pdReady (2 + p) && [0, 1, 2, 5].contains (s.get F.SPX_STAT.STATE p)

/-- A supervision's own accesses leave the last bus answer as it was. -/
def quietly (f : State → State) (s : State) : State := { f s with resp := s.resp }

/-! ### Limits (R312 to R314, R399, R402, R422) -/

/-- Published factor of target i in 1/128. -/
def thmFactor (s : State) (i : Nat) : Nat :=
  match i with
  | 0 => s.get F.THM_TGT0.FACTOR0 | 1 => s.get F.THM_TGT0.FACTOR1 | 2 => s.get F.THM_TGT0.FACTOR2 | 3 => s.get F.THM_TGT0.FACTOR3
  | 4 => s.get F.THM_TGT1.FACTOR0 | 5 => s.get F.THM_TGT1.FACTOR1 | 6 => s.get F.THM_TGT1.FACTOR2 | _ => s.get F.THM_TGT1.FACTOR3

/-- Factor applied to set i in 1/128: 1.0 in EMERGENCY_RUN, on its exit ramp from there, else the published one; DERATE_FAC after
a class 1 fault; the limp limit in LIMP. -/
def setFactor (s : State) (i : Nat) : Nat :=
  let f := if s.sup.emr then 128 else max (thmFactor s i) (SMap.get 0 s.sup.exitFac i / 65536)
  let f := if s.sup.derated then f * s.sys.cfg.sup.derateFac / 128 else f
  if s.mode = 5 then min f s.sys.cfg.sup.limpFac else f

/-- A set carries torque: in RUN, not coasting or shorted by a loss. -/
def setCarries (s : State) (p : Nat) : Bool := s.psetState p == 0 && s.get F.GIF_PSET_LOSS.LSTATE p != 2

/-- The limit of every set in this task: 0 while it does not carry, raised along RESUME_RAMP after it returns. -/
def limitTask (i : Nat) (p : SetPar) (s : State) : State :=
  let x := s.wset i
  let base : Int := p.tMax * setFactor s i / 128
  let l : Int := if setCarries s p.pset then (if s.sys.cfg.sup.resumeRamp = 0 then base else min base (x.lim + s.sys.cfg.sup.resumeRamp)) else 0
  s.setWset i { x with lim := l }

/-- Torque limit of a machine: the sum of its sets'. -/
def machCap (s : State) (m : Nat) : Int := ((setsOfMach s m).map (fun e => (s.wset e.1).lim)).sum

/-- Torques of both machines from axle and yaw torque (R312, R313). -/
def splitTorque (s : State) (tAx dT : Int) : Int × Int :=
  let c0 := machCap s 0
  let c1 := machCap s 1
  let t0 := (tAx - dT) / 2
  let t1 := (tAx + dT) / 2
  if s.sys.cfg.sup.splitTotal then
    let a := clampI (-c0) c0 t0
    let b := clampI (-c1) c1 (t1 + (t0 - a))
    (clampI (-c0) c0 (a + (t1 - clampI (-c1) c1 t1)), b)
  else
    -- the common part moves until both machines can carry the yaw torque
    let d := dT / 2
    let lo := max (d - c0) (-c1 - d)
    let hi := min (c0 + d) (c1 - d)
    let c := if lo ≤ hi then clampI lo hi (tAx / 2) else tAx / 2
    (clampI (-c0) c0 (c - d), clampI (-c1) c1 (c + d))

/-- Divide a machine's torque between its sets (R312). -/
def shareTorque (m : Nat) (t : Int) (s : State) : State :=
  match setsOfMach s m with
  | [] => s
  | [(i, _)] => s.setWset i { s.wset i with share := clampI (-(s.wset i).lim) (s.wset i).lim t }
  | (i, _) :: (j, _) :: _ =>
    let la := (s.wset i).lim
    let lb := (s.wset j).lim
    let a := roundDiv (t * s.sys.cfg.sup.wSet) 65536
    let b := t - a
    let b' := clampI (-lb) lb (b + (a - clampI (-la) la a))
    let a' := clampI (-la) la (t - b')
    (s.setWset i { s.wset i with share := a' }).setWset j { s.wset j with share := b' }

/-! ### Speed control (R309 to R311) -/

/-- The speed reference one task on: jerk- and acceleration-limited, reaching the target with zero acceleration. -/
def rampStep (v a target : Int) (aMax jMax : Nat) : Int × Int :=
  let j : Int := max jMax 1
  let stopAt := v + a * a.natAbs / (2 * j)
  let a' := if stopAt < target then min (a + j) aMax else if target < stopAt then max (a - j) (-aMax)
    else if 0 < a then max 0 (a - j) else min 0 (a + j)
  let v' := v + a'
  if (target - v').natAbs ≤ 2 * j.natAbs ∧ a'.natAbs ≤ 2 * j.natAbs then (target, 0) else (v', a')

/-- Reported speed of machine m in Q2.29. -/
def machSpd (s : State) (m : Nat) : Int := s.getI F.FLY_MACH_SPD.SPD m

/-- Electrical torque from the d and q currents of the machine's running sets (R310). -/
def machTorque (s : State) (m : Nat) : Int :=
  ((setsOfMach s m).map (fun e =>
    let p := e.2
    let ob := s.get F.WHL_LOOP_IO.OUT_BASE p.whorl p.loop
    let d := s.getI F.WHL_OUTP.VALUE p.whorl (ob + 3)
    let q := s.getI F.WHL_OUTP.VALUE p.whorl (ob + 4)
    if setCarries s p.pset then roundDiv (p.kPsi * q) 65536 + roundDiv (p.kRel * roundDiv (d * q) (2 ^ 29)) 65536 else 0)).sum

/-- The speed loop and the load-torque observer of machine m. -/
def speedTask (m : Nat) (p : MachPar) (s : State) : State :=
  let x := s.mach m
  let w := machSpd s m * 65536
  let (v, a) := if x.stop1 then rampStep x.vRef x.aRef 0 p.aStop p.jStop
    else rampStep x.vRef x.aRef (x.cmdSpd * 65536) p.aMax p.jMax
  let te := machTorque s m
  let err := w - x.wHat
  let wHat := x.wHat + roundDiv ((te - x.tlHat) * 2 ^ 32) (max p.inertia 1 * 10000) + roundDiv (twoPi * p.ltoBw * 14 * err) (2 ^ 64 * 100000)
  let tl := x.tlHat - roundDiv (twoPi * twoPi * p.ltoBw * p.ltoBw * p.inertia * err) (2 ^ 128 * 65536 * 65536 * 10000)
  let hist := (tl :: x.tlHist).take 11
  let shock := x.shock || (p.shockThr != 0 && hist.any (fun h => decide ((tl - h).natAbs > p.shockThr)))
  let e := v - w
  let integ := if shock then x.integ else clampI (-p.tLim) p.tLim (x.integ + roundDiv (p.ki * e) (2 ^ 32))
  let tpi := roundDiv (p.kp * e) (2 ^ 32) + integ
  let slew (from' to' : Int) : Int := if p.slew = 0 then to' else clampI (from' - p.slew) (from' + p.slew) to'
  let ff := roundDiv (p.ltoFf * tl) 256
  let tPi := if shock then slew x.tPi tpi else tpi
  let t := clampI (-p.tLim) p.tLim (tPi + ff)
  let t := if shock then t else slew x.tRef t
  s.setMach m { x with
    vRef := v, aRef := a, wHat := wHat, tlHat := tl, tlHist := hist, shock := shock, integ := integ, tPi := tPi, tRef := t }

/-- SHOCK_HOLD_END (R311): SHOCK_HOLD has passed since the last shock. -/
def execShockHoldEnd (mach : Fin 2) (s : State) : Res := .next (s.setMach mach { s.mach mach with shock := false, tlHist := [] })

/-! ### References (R302 to R308) -/

/-- Bilinear interpolation in a 33 × 33 table: torque over −T_MAX to T_MAX, flux over 0 to the tables' end. -/
def tableAt (t : List Int) (p : SetPar) (torque : Int) (flux : Nat) : Int :=
  let n : Nat := max (2 * p.tMax) 1
  let u := (clampI 0 n (torque + p.tMax)).toNat * 32
  let w := min flux p.fluxMax * 32
  let fm := max p.fluxMax 1
  let i := min (u / n) 31
  let j := min (w / fm) 31
  let fu : Int := u - i * n
  let fw : Int := w - j * fm
  let at' (a b : Nat) : Int := t.getD (33 * a + b) 0
  let lo := at' i j * (n - fu) + at' (i + 1) j * fu
  let hi := at' i (j + 1) * (n - fu) + at' (i + 1) (j + 1) * fu
  roundDiv (lo * (fm - fw) + hi * fw) (n * fm)

/-- Link voltage per unit at input port 3 of the set's Whorl. -/
def linkVolt (s : State) (p : SetPar) : Nat := (s.getI F.WHL_INP.VALUE p.whorl 3).toNat

/-- Available flux: KVLIM × V_dc / |ωe|. -/
def fluxAvail (s : State) (p : SetPar) : Nat :=
  let w := (machSpd s p.mach).natAbs
  if w = 0 then p.fluxMax else p.kvlim * linkVolt s p / w

/-- DT_V of a set (R308): the longest dead time in force or feedback delay, times f_PWM, in Q2.29. -/
def dtV (s : State) (p : SetPar) : Nat :=
  let ls := legsOfSet s p.pset
  let d := ls.foldl (fun m l =>
    let x := s.leg l
    max m (max (max x.dtTB x.dtBT) (max (s.get F.GIF_SW_CFG.LAST_FB (2 * l)) (s.get F.GIF_SW_CFG.LAST_FB (2 * l + 1))))) 0
  match ls with
  | [] => 0
  | l :: _ => d * 50 * 2 ^ 29 / max 1 (s.cg (s.get F.PWM_LEG_CFG.CG l)).per

/-- One batch of coefficient words of the set's Whorl; merged into the next task while one is still waiting (R314). -/
def writeBatch (w : Nat) (ws : List (Nat × Word)) (s : State) : State :=
  if s.get F.WHL_CTL.CQ_LEVEL w != 0 || !whlReady s w then s
  else
    let s := s.set F.WHL_CTL.CQ_HOLD 1 w
    let s := ws.foldl (fun s e => coefWrite (.pair 0) w e.1 e.2 s) s
    s.set F.WHL_CTL.CQ_HOLD 0 w

/-- References of set i in this task: i_d, i_q, DT_V, I_LIM and MODE (R299, R302, R304, R305, R308, R316, R399). -/
def setTask (i : Nat) (p : SetPar) (s : State) : State :=
  let x := s.mach p.mach
  let y := s.wset i
  let fl := fluxAvail s p
  let run := x.running && setCarries s p.pset
  let id := if run then tableAt p.idTbl p y.share fl else 0
  let iq := if run then tableAt p.iqTbl p y.share fl else 0
  let quarter := x.start == .onPll && !s.getB F.FLY_MACH_STAT.EMF_LOCK p.mach
  let ilim := p.iLim * setFactor s i / 128 / (if quarter then 4 else 1)
  let vsd := (setsOfMach s p.mach).all (fun e => setCarries s e.2.pset) && decide (1 < (setsOfMach s p.mach).length)
  let mode := (if run then 1 else 0) + (if vsd then 2 else 0) + (if x.start == .onIf then 4 else 0)
  let s := s.setWset i { y with idRef := id, iqRef := iq, mode := mode, peakI := max y.peakI (isqrt (id * id + iq * iq).natAbs) }
  writeBatch p.whorl [(0, ofSint id), (1, ofSint iq), (23, BitVec.ofNat 32 (dtV s p)), (25, BitVec.ofNat 32 ilim), (29, BitVec.ofNat 32 mode)] s

/-! ### Starting, and coming back from a loss (R315 to R317, R321) -/

/-- ARM of every leg of a set. -/
def armSet (p : Nat) (s : State) : State := (legsOfSet s p).foldl (fun s l => s.set F.PWM_LEG_CFG.ARM 1 l) s

/-- The tracker is disabled, set to SRC 14 and enabled. -/
def toSrc14 (m : Nat) (s : State) : State := trkEnable m ((s.set F.FLY_MACH_CFG.EN 0 m).set F.FLY_MACH_CFG.SRC 14 m)

/-- Begin to run: the legs are armed first, then RUN and the references go in one batch; the reference starts from the
measured speed (R302, R317). -/
def startRun (m : Nat) (how : StartPhase) (s : State) : State :=
  let s := (setsOfMach s m).foldl (fun s e => if setCarries s e.2.pset then armSet e.2.pset s else s) s
  let x := s.mach m
  s.setMach m { x with start := how, running := true, vRef := machSpd s m * 65536, aRef := 0, integ := 0, wHat := machSpd s m * 65536, tlHat := 0, tlHist := [] }

/-- The tracker gives a valid angle. -/
def sensorOk (s : State) (m : Nat) : Bool := s.getB F.FLY_MACH_STAT.ACQUIRED m && !s.getB F.FLY_MACH_STAT.LOST m

/-- |ω_pll| of machine m above UCG_SPEED of one of its sets. -/
def pllAboveUcg (s : State) (m : Nat) : Bool :=
  (setsOfMach s m).any (fun e => decide ((perUnit s m (s.emf m).omega).natAbs > (s.getI F.GIF_PSET_UCG.UCG_SPEED e.2.pset).natAbs))

/-- Ask for active short circuit on ASC_ROW on the machine's sets (R261, R316, R324). -/
def requestAsc (m : Nat) (s : State) : State :=
  (setsOfMach s m).foldl (fun s e => ascRequest (.pair 0) e.2.pset (if s.getB F.GIF_PSET_CFG.ASC_ROW e.2.pset then 3 else 2) s) s

/-- Release a requested short circuit of the machine's sets and arm them. -/
def releaseAsc (m : Nat) (s : State) : State :=
  (setsOfMach s m).foldl (fun s e =>
    if s.psetState e.2.pset == 5 || s.psetState e.2.pset == 6 then armSet e.2.pset (psetClear (.pair 0) e.2.pset s) else s) s

/-- Steps of a start, in each task while a command is present (R315, R316). -/
def startTask (m : Nat) (s : State) : State :=
  let x := s.mach m
  match x.start with
  | .off =>
    if sensorOk s m then startRun m .onSensor s
    else (s.set F.FLY_EMF_CFG.EN 1 m).setMach m { x with start := .catching }
  | .catching =>
    if pllAboveUcg s m then (requestAsc m s).setMach m { x with start := .shorted } else s
  | .shorted => if s.getB F.FLY_MACH_STAT.EMF_LOCK m then startRun m .onSensor (releaseAsc m s) else s
  | .onIf => if s.getB F.FLY_MACH_STAT.EMF_LOCK m && machSrc s m != 14 then (toSrc14 m s).setMach m { x with start := .onSensor } else s
  | .onPll => if s.getB F.FLY_MACH_STAT.EMF_LOCK m then s.setMach m { x with start := .onSensor } else s
  | .onSensor => s

/-- CATCH_PHASE_END (R316): at EMF_LOCK or CATCH_T. -/
def execCatchPhaseEnd (mach : Fin 2) (s : State) : Res :=
  let m := mach.val
  .next (if (s.mach m).start != .catching then s
    else if s.getB F.FLY_MACH_STAT.EMF_LOCK m then startRun m .onSensor (toSrc14 m s)
    else if s.getB F.FLY_MACH_STAT.EMF_VALID m then startRun m .onPll s
    else startRun m .onIf s)

/-- The return from a short circuit after a loss, one step a task (R321). -/
def lossTask (m : Nat) (s : State) : State :=
  let x := s.mach m
  let ps := (setsOfMach s m).filter (fun e => s.get F.GIF_PSET_LOSS.LSTATE e.2.pset == 1 && s.getB F.GIF_PSET_LOSS.SENSORLESS_OK e.2.pset)
  if ps.isEmpty || !s.getB F.FLY_MACH_STAT.EMF_LOCK m then s.setMach m { x with back := 0 }
  else match x.back with
    | 0 => (toSrc14 m s).setMach m { x with back := 1 }
    | _ =>
      if s.getB F.FLY_MACH_STAT.LOST m then machAcq (.pair 0) m false s
      else (ps.foldl (fun s e => armSet e.2.pset (psetClear (.pair 0) e.2.pset s)) s).setMach m { x with back := 0 }

/-- Braking and holding by active short circuit (R324): requested when the link takes no regenerative power, and to hold a
winch's load until its brake has closed. -/
def ascTask (m : Nat) (p : MachPar) (i : SupIn) (s : State) : State :=
  let x := s.mach m
  let w := machSpd s m
  let regen := decide (x.tRef * w < 0)
  let shorted := (setsOfMach s m).any (fun e => s.psetState e.2.pset == 5 || s.psetState e.2.pset == 6)
  if p.winch && x.running && x.cmdSpd = 0 && x.vRef = 0 && x.hold = 0 then (requestAsc m s).setMach m { x with hold := 1 }
  else if x.hold = 1 then
    if w.natAbs < p.brakeSpeed then
      (quietly (kreqField (.pair ⟨kreqPair s % 2, Nat.mod_lt _ (by decide)⟩) (kreqPair s) F.SPX_KREQ.BRK_REL 0) s).setMach m { x with hold := 2, holdT := 0 }
    else s
  else if x.hold = 2 then
    if !i.brakeClosed then s.setMach m { x with holdT := 0 }
    else if x.holdT + 1 ≥ 10 * p.brakeT then
      if i.suspended && s.kln.brkHs then s else (releaseAsc m s).setMach m { x with hold := 3 }
    else s.setMach m { x with holdT := x.holdT + 1 }
  else if x.hold = 3 then (if x.cmdSpd = 0 then s else s.setMach m { x with hold := 0 })
  else if i.linkFull && regen && x.running then requestAsc m s
  else if shorted && !i.linkFull && x.start != .shorted then releaseAsc m s
  else s

/-! ### Calibration sets of the temperature bands (R405) -/

/-- Load one set: the tables' words into their inactive banks, then BANK and the coefficients in one batch. -/
def calApply (c : CalSet) (s : State) : State :=
  let m : Master := .pair (if c.pair = 0 then 0 else 1)
  let w := c.whorl
  let s := c.tables.foldl (fun s t =>
    let n := 2 ^ s.get F.WHL_TBL_CFG.LOG2N w t.1
    let base := s.get F.WHL_TBL_CFG.BASE w t.1 + (if s.getB F.WHL_TBL_CFG.BANK w t.1 then 0 else n)
    t.2.zipIdx.foldl (fun s e => tableWrite m w (base + e.2) e.1 s) s) s
  let s := s.set F.WHL_CTL.CQ_HOLD 1 w
  let s := c.tables.foldl (fun s t =>
    let a := F.WHL_TBL_CFG.BANK
    let v := setBits (s.rd (a.addr w t.1 0)) a.hi a.lo (if s.getB a w t.1 then 0 else 1)
    tblCfgWrite m w t.1 v s) s
  let s := c.coefs.foldl (fun s e => coefWrite m w e.1 e.2 s) s
  s.set F.WHL_CTL.CQ_HOLD 0 w

/-- Pair p loads the sets of the selectors that changed band: each once, in its next task. -/
def calLoad (p : Nat) (s : State) : State :=
  let due := s.thm.calDue.filter (fun e => e % 2 == p)
  let s := { s with thm := { s.thm with calDue := s.thm.calDue.filter (fun e => e % 2 != p) } }
  due.foldl (fun s e =>
    (s.sys.cfg.cal.filter (fun c => c.sel == e / 2 && c.pair == p && c.band == s.get F.THM_BAND_CFG.BAND (e / 2))).foldl
      (fun s c => if whlReady s c.whorl then calApply c s else s) s) s

/-! ### The task (R305) -/

/-- The torque of machine m in speed mode, or its command; after a host timeout it ramps to zero within TQ_LOSS_T (R479);
braking is limited to P_REGEN / |ω| (R317). -/
def torqueTask (m : Nat) (p : MachPar) (s : State) : State :=
  let x := s.mach m
  let s := if p.speedMode then speedTask m p s
    else if x.hostLost then
      let d : Int := max 1 (p.tLim / (10 * max 1 s.sys.cfg.sup.tqLossMs))
      s.setMach m { x with tRef := if 0 < x.tRef then max 0 (x.tRef - d) else min 0 (x.tRef + d) }
    else s.setMach m { x with tRef := clampI (-p.tLim) p.tLim x.cmdT }
  let x := s.mach m
  let w := machSpd s m
  if p.pRegen != 0 && decide (x.tRef * w < 0) then
    let lim : Int := p.pRegen * 2 ^ 29 / w.natAbs
    s.setMach m { x with tRef := clampI (-lim) lim x.tRef }
  else s

/-- A category 1 stop (R325): |SPD| below STOP_SPEED for 100 ms ends the machine's run. -/
def stopTask (m : Nat) (p : MachPar) (s : State) : State :=
  let x := s.mach m
  if !x.stop1 then s
  else
    let n := if (machSpd s m).natAbs < p.stopSpeed then x.below + 1 else 0
    if n ≥ 1000 then s.setMach m { x with stop1 := false, below := 0, running := false, start := .off, commanded := false }
    else s.setMach m { x with below := n }

/-- A machine's part of the task in DRIVE, LIMP or SERVICE; in every other mode it stops. -/
def machTask (m : Nat) (p : MachPar) (i : SupIn) (s : State) : State :=
  if s.mode != 3 && s.mode != 5 && s.mode != 7 then
    s.setMach m { s.mach m with running := false, start := .off, commanded := false, tRef := 0, stop1 := false, hold := 0, back := 0 }
  else
    let s := lossTask m s
    let s := if (s.mach m).commanded then startTask m s else s
    if (s.mach m).running then stopTask m p (ascTask m p i (torqueTask m p s)) else s

/-- EMERGENCY_RUN's exit ramp: the factors fall from 1.0 to the published ones over EMR_EXIT_RAMP. -/
def exitTask (s : State) : State :=
  let d := 128 * 65536 / (10 * max 1 s.sys.cfg.sup.emrExitMs)
  { s with sup := { s.sup with exitFac := s.sup.exitFac.filterMap (fun e => if e.2 > max d 1 then some (e.1, e.2 - max d 1) else none) } }

/-- Peak temperatures of rules 0 to 3 and time in EMERGENCY_RUN. -/
def emrTask (s : State) : State :=
  if s.sup.emr then
    { s with sup := { s.sup with
      emrTasks := s.sup.emrTasks + 1
      emrPeak := s.sup.emrPeak.zipIdx.map (fun e => max e.1 (s.getI F.THM_RULE_STAT.TEMP e.2)) } }
  else s

/-- SUPERVISION_TASK (R305). -/
def supervisionTask (i : SupIn) (s : State) : State :=
  let s := calLoad 0 (exitTask (emrTask s))
  let sets := s.sys.cfg.sup.sets.zipIdx
  let s := sets.foldl (fun s e => limitTask e.2 e.1 s) s
  let ms := s.sys.cfg.sup.machs.zipIdx
  let s := ms.foldl (fun s e => machTask e.2 e.1 i s) s
  let s := match machPar s 0, machPar s 1 with
    | some p, some q =>
      if !p.speedMode && !q.speedMode then
        let (t0, t1) := splitTorque s ((s.mach 0).tRef + (s.mach 1).tRef) ((s.mach 1).tRef - (s.mach 0).tRef)
        shareTorque 1 t1 (shareTorque 0 t0 s)
      else shareTorque 1 (s.mach 1).tRef (shareTorque 0 (s.mach 0).tRef s)
    | _, _ => shareTorque 1 (s.mach 1).tRef (shareTorque 0 (s.mach 0).tRef s)
  sets.foldl (fun s e => setTask e.2 e.1 s) s

def execSupervisionTask (i : SupIn) (s : State) : Res :=
  .next (if pairRuns s 0 && s.pdReady 7 then quietly (supervisionTask i) s else s)

/-- UCG_COMPUTE (R307): V_dc / (√3 × PSI_COLD) for each set, from the lower of the two link measurements. -/
def execUcgCompute (s : State) : Res :=
  .next (if pairRuns s 0 && s.pdReady 7 then
      quietly (fun s => s.sys.cfg.sup.sets.foldl (fun s p =>
        let hk := s.get F.HK_RES.LAST s.sys.cfg.sup.linkHk * s.sys.cfg.sup.hkGain
        let v := min (linkVolt s p) hk
        let u := if p.psiCold = 0 then 2 ^ 31 - 1 else v * 2 ^ 89 / (sqrt3 * p.psiCold)
        ucgWrite p.pset (BitVec.ofNat 32 (min u (2 ^ 31 - 1))) s) s) s
    else s)

/-! ### EMERGENCY_RUN (R326 to R328) -/

/-- Body of its ash records (R552). -/
def emrBody (s : State) (ending cause : Nat) : List Byte :=
  toBytes 4 (ending + 256 * cause) ++ toBytes 4 (s.sup.emrTasks / 10) ++
    (s.sup.emrPeak.flatMap (fun t => toBytes 2 (unsigned 16 t))) ++
    [0, 1, 2, 3].flatMap (fun i => toBytes 2 (min 65535 ((s.wset i).peakI / 65536)))

/-- End of EMERGENCY_RUN: cause 1 cancel, 2 EMR_T, 3 mode, 4 hard limit; the derated limit is restored along a ramp. -/
def emrEnd (cause : Nat) (s : State) : State :=
  if !s.sup.emr then s
  else
    let s := ashPush 8 0 0 (emrBody s 1 cause) s
    { s with sup := { s.sup with emr := false, exitFac := [0, 1, 2, 3].foldl (fun m i => SMap.put 0 m i (128 * 65536)) [] } }

/-- Entry, on an authenticated host command in DRIVE or LIMP with EMR_EN; a new command restarts EMR_T (in its own row). -/
def emrEnter (s : State) : State :=
  if s.sup.emr || !s.sys.cfg.sup.emrEn || (s.mode != 3 && s.mode != 5) then s
  else
    let s := { s with sup := { s.sup with emr := true, emrTasks := 0, emrPeak := [0, 1, 2, 3].map (fun r => s.getI F.THM_RULE_STAT.TEMP r) } }
    let s := [0, 1, 2, 3].foldl (fun s i => s.setWset i { s.wset i with peakI := 0 }) s
    ashPush 8 0 0 (emrBody s 0 0) s

/-- EMERGENCY_RUN_END (R327): EMR_T after the last command. -/
def execEmergencyRunEnd (s : State) : Res := .next (if pairRuns s 0 then emrEnd 2 s else s)

end Sys2Proof.Machine
end

