-- ==== Sys2Proof/Machine/Chg.lean ====
section
/-! DEFINITION. Charging and power path (chapter 13): the pilot unit, the standard charging supervision of pair B, the 12 V
battery, precharge; and the comparator rows, since a fast stop of channel 1 ends a charge session. -/

namespace Sys2Proof.Machine
open Sys2Proof

def State.setChg (s : State) (x : ChgSt) : State := { s with chg := x }

/-- Parameters of the charging supervision. -/
def chgPar (s : State) : ChgPar := s.sys.cfg.chg

/-- A traction session is under way: RAMP, CHARGING, PAUSED or V2L. -/
def sessActive (s : State) : Bool := [2, 3, 4, 5].contains (s.get F.CHG_SESS.STATE)

/-! ### Comparators (R249, R250, R360, R365, R383, R385) -/

/-- Channel 1 was stopped fast in CHARGE: HV_LOST, EV_CHG_HV_LOST (172); in V2L channel 0 soft-stops at once. -/
def hvLost (before s : State) : State :=
  if chActive before 1 && !chActive s 1 && s.get F.CNV_CH_STAT.STOP_CAUSE 1 == 9 && s.mode == 4 && sessActive s then
    let v2l := s.get F.CHG_SESS.STATE == 5
    let s := (s.set F.CHG_SESS.HV_LOST 1).set F.CHG_SESS.STATE 6
    let s := raise 172 (s.setChg { s.chg with ends := s.chg.ends ++ [7], hvHold := !v2l, cmd := false })
    if v2l then chDisable 0 s else s
  else s

/-- COMPARATOR_TRIP (R249): the input crosses a threshold; while blanked nothing acts. -/
def execComparatorTrip (ch : Fin 48) (above : Bool) (s : State) : Res :=
  let c := ch.val
  .next (if !s.pdReady 7 || !s.getB F.GIF_COMP_CFG.EN c then s
    else
      let x := s.compar c
      let s := s.setCompar c { x with out := if above then 1 else 2 }
      if x.blank then s else hvLost s (compAct c above s))

/-- COMPARATOR_RELEASE (R249, R360): the input is back within the window. -/
def execComparatorRelease (ch : Fin 48) (s : State) : Res :=
  let c := ch.val
  .next (if !s.pdReady 7 || !s.getB F.GIF_COMP_CFG.EN c then s
    else
      let s := s.setCompar c { s.compar c with out := 0 }
      if 2 ≤ s.get F.GIF_COMP_CFG.ACTION c then cnvRelease c s else s)

/-- BLANKING_END (R250): a crossing still present trips as if it had just occurred. -/
def execBlankingEnd (ch : Fin 48) (s : State) : Res :=
  let c := ch.val
  let x := s.compar c
  .next (if x.blank then
      let s := s.setCompar c { x with blank := false }
      if x.out = 0 || !s.pdReady 7 || !s.getB F.GIF_COMP_CFG.EN c then s else hvLost s (compAct c (x.out == 1) s)
    else s)

/-- STOP_NOW (R365): a fast stop without the code; only a checked output's write counts. -/
def stopNow (m : Master) (c : Nat) (s : State) : State :=
  if checkedOutput m && chUsed s c && chActive s c then fastStop c s else s

/-- CNV_CHANNEL_STOP_NOW (R365). -/
def execCnvChannelStopNow (m : Master) (ch : Fin 3) (s : State) : Res :=
  .next (if s.regWriter m && s.pdReady 5 then (stopNow m ch s).answer .done else busError s)

/-! ### The pilot unit (R372 to R374, R376) -/

/-- Classification of one period or steady level (R372): 0 A to 5 F, 6 INVALID. -/
def pilotClass (x : PilotIn) : Nat :=
  let within (v lo hi : Int) : Bool := decide (lo ≤ v) && decide (v ≤ hi)
  let lowOk := !x.pwm || within x.low (-1300) (-1100)
  if x.pwm && !(within x.freq 980 1020) then 6
  else if 1300 < x.high then 6
  else if within x.high 1100 1300 then 0
  else if within x.high 800 1000 && lowOk then 1
  else if within x.high 500 700 && lowOk then 2
  else if within x.high 200 400 && lowOk then 3
  else if !x.pwm && within x.high (-100) 100 then 4
  else if !x.pwm && within x.high (-1300) (-1100) then 5
  else 6

/-- I_PILOT in 0.1 A from the duty in 0.1 % (R374). -/
def pilotCurrent (digital d : Nat) : Nat :=
  if d < 30 then 0 else if d < 70 then digital else if d < 80 then 0 else if d < 100 then 60
  else if d ≤ 850 then d * 6 / 10 else if d ≤ 960 then (d - 640) * 5 / 2 else if d ≤ 970 then 800 else 0

/-- STATE changes to `st` (R373): EV_CHG_PILOT (170); more than eight changes between B and C within 60 s set FLAP and end the
session (R380). -/
def pilotChange (st : Nat) (s : State) : State :=
  let old := s.get F.CHG_PILOT.STATE
  let s := raise 170 (s.set F.CHG_PILOT.STATE st)
  if (old = 1 ∧ st = 2) ∨ (old = 2 ∧ st = 1) then
    let l := s.fab.ts :: s.chg.bcAt.filter (fun t => decide (s.fab.ts < t + 6000000000))
    if l.length > 8 then
      let s := (s.set F.CHG_PILOT.FLAP 1).setChg { s.chg with bcAt := l }
      if sessActive s then s.setChg { s.chg with ends := s.chg.ends ++ [4] } else s
    else s.setChg { s.chg with bcAt := l }
  else s

/-- PILOT_PERIOD (R372 to R374, R378): a decrease of I_PILOT counts at once, an increase after 1000 periods of the new duty. -/
def pilotPeriod (x : PilotIn) (s : State) : State :=
  if !s.pdReady 8 || s.mode == 0 then s
  else
    let st := pilotClass x
    let i := if x.pwm then min (pilotCurrent s.chg.digital x.duty) 1023 else 0
    let s := (s.setI F.CHG_PILOT_LVL.HIGH x.high).setI F.CHG_PILOT_LVL.LOW x.low
    let s := (s.setB F.CHG_PILOT.PWM x.pwm).set F.CHG_PILOT.DUTY (if x.pwm then min x.duty 1000 else 0)
    let s := s.setB F.CHG_PILOT.FREQ_BAD (x.pwm && !(decide (980 ≤ x.freq) && decide (x.freq ≤ 1020)))
    let s := (s.setB F.CHG_PILOT.DIGITAL (x.pwm && decide (30 ≤ x.duty) && decide (x.duty < 70))).set F.CHG_PILOT.I_PILOT i
    let c := s.chg
    let seen := if x.pwm then x.duty + 1 else 0
    let run := if c.iSeen = seen then min (c.iRun + 1) 1000 else 1
    let use' := if i ≤ c.iUse then i else if run ≥ 1000 then i else c.iUse
    let n := if c.cand = st then min (c.candN + 1) 31 else 1
    let s := s.setChg { c with iSeen := seen, iRun := run, iUse := use', cand := st, candN := n }
    if n ≥ max 1 (s.get F.CHG_PILOT.PILOT_N) && s.get F.CHG_PILOT.STATE != st then pilotChange st s else s

def execPilotPeriod (x : PilotIn) (s : State) : Res := .next (pilotPeriod x s)

/-- PP class of a coding resistance (R376). -/
def ppClass (s : State) (rc : Nat) : Nat :=
  let near (n : Nat) : Bool := decide (9 * n ≤ 10 * rc) && decide (10 * rc ≤ 11 * n)
  let v := s.get F.CHG_PP_CFG.V2L_RC
  if rc > 4500 then 0
  else if near 1500 then 1 else if near 680 then 2 else if near 220 then 3 else if near 100 then 4
  else if v != 0 && near v then 5 else 6

/-- A cable, not an adapter. -/
def isCable (c : Nat) : Bool := decide (1 ≤ c) && decide (c ≤ 4)

/-- PROXIMITY_SAMPLE (R376, R381): `mv` is PP_IN in mV. -/
def execProximitySample (mv : Nat) (s : State) : Res :=
  .next (if !s.pdReady 8 || s.mode == 0 then s
    else
      let rc := if 5000 ≤ mv then 65535 else min 65535 (s.get F.CHG_PP_CFG.RPU * mv / (5000 - mv))
      let c := ppClass s rc
      let was := s.get F.CHG_PP.CLASS
      let s := (s.set F.CHG_PP.RC rc).set F.CHG_PP.CLASS c
      let s := if was != c then raise 176 s else s
      if sessActive s && s.get F.CHG_SESS.STATE != 5 && !isCable c then
        let n := s.chg.ppLost + 1
        if n = max 1 (s.get F.CHG_PILOT.PILOT_N) then s.setChg { s.chg with ppLost := n, ends := s.chg.ends ++ [5] }
        else s.setChg { s.chg with ppLost := min n 32 }
      else s.setChg { s.chg with ppLost := 0 })

/-! ### The traction session (R375, R377 to R385) -/

/-- Order in which reasons of one task are recorded (R381). -/
def endRank (r : Nat) : Nat := match r with | 7 => 0 | 2 => 1 | 5 => 2 | _ => 10 + r

/-- Insert a reason once, in order. -/
def insertEnd (r : Nat) : List Nat → List Nat
  | [] => [r]
  | x :: l => if r = x then x :: l else if endRank r < endRank x then r :: x :: l else x :: insertEnd r l

/-- An end reason: END_REASON; 2 to 15 issue 0x0D00 + reason and EV_CHG_SESSION (171). -/
def endCode (r : Nat) (s : State) : State := if r < 2 then s else raise 171 (issue (0x0D00 + r) 0 s)

/-- Channels 0 and 1 are asked to stop softly. -/
def obcSoftStop (s : State) : State := chDisable 1 (chDisable 0 s)

/-- The session ends for the reasons that wait: recorded in order; the channels stop, at once where the pilot asks for it; a new
session needs a new command. -/
def endSession (hard : Bool) (s : State) : State :=
  match s.chg.ends.foldl (fun l r => insertEnd r l) [] with
  | [] => s
  | rs =>
    let s := rs.foldl (fun s r => endCode r (s.set F.CHG_SESS.END_REASON r)) s
    let s := s.setChg { s.chg with ends := [], cmd := false, pause := 0, hostMs := 0, overMs := 0 }
    let s := s.set F.CHG_SESS.STATE 6
    if hard && rs.contains 2 then stopNow (.pair 1) 1 (stopNow (.pair 1) 0 s)
    else if rs = [7] then s
    else obcSoftStop s

/-- The pilot permits charging: C, or D with CHG_VENT_OK (R375). -/
def pilotReady (s : State) : Bool :=
  s.get F.CHG_PILOT.STATE == 2 || (s.get F.CHG_PILOT.STATE == 3 && (chgPar s).ventOk)

/-- All of R377. -/
def mayCharge (s : State) : Bool :=
  s.mode == 4 && !s.getB F.MODE_STAT.V2L && s.chg.cmd && isCable (s.get F.CHG_PP.CLASS) && pilotReady s &&
    decide (60 ≤ s.get F.CHG_PILOT.I_PILOT) && s.chg.fresh && !([1, 2, 4].contains (s.get F.CHG_PRE.PSTATE))

/-- The V2L sub-state may be served (R384). -/
def mayExport (s : State) : Bool :=
  s.mode == 4 && s.getB F.MODE_STAT.V2L && s.chg.cmd && s.get F.CHG_PP.CLASS == 5 &&
    (s.get F.CHG_PILOT.STATE == 0 || !s.getB F.CHG_PILOT.PWM)

/-- Cable current in 0.1 A. -/
def cableCurrent (s : State) : Nat :=
  match s.get F.CHG_PP.CLASS with | 1 => 130 | 2 => 200 | 3 => 320 | 4 => 630 | _ => 0

/-- P_LIM in W as the inputs give it (R378, R399). -/
def pLimit (i : ChgIn) (s : State) : Nat :=
  let p := chgPar s
  let ac (x : Nat) : Nat := x * i.acV * i.phases / 100
  let base := match s.chg.bms with
    | none => 0
    | some b => min (ac (min s.chg.iUse (min (cableCurrent s) p.obcIMax))) (min b.pMax (b.iMax * i.linkV / 100))
  let base := min base (ac p.obcIMax * thmFactor s 4 / 128)
  min (if s.mode = 5 then min base s.sys.cfg.limpChgLimit else base) 1048575

/-- A coefficient of the charging loops, written through the queue. -/
def chgCoef (w i : Nat) (v : Nat) (s : State) : State :=
  if whlReady s w then coefWrite (.pair 1) w i (BitVec.ofNat 32 v) s else s

/-- P_LIM and the output voltage limit of this task; the limits stale, P_LIM ramps to zero within 1 s (R378, R379). -/
def limitWrite (i : ChgIn) (s : State) : State :=
  let was := s.get F.CHG_SESS.P_LIM
  let p := if s.chg.fresh then pLimit i s else was - s.chg.ramp
  let v := match s.chg.bms with
    | none => 0
    | some b => min b.vMax (chgPar s).hvMax
  chgCoef 4 (chgPar s).vWord v (chgCoef 4 (chgPar s).pWord p (s.set F.CHG_SESS.P_LIM p))

/-- Reasons that arise in this task. -/
def taskEnds (i : ChgIn) (s : State) : State :=
  let add (c : Bool) (r : Nat) (s : State) : State := if c then s.setChg { s.chg with ends := s.chg.ends ++ [r] } else s
  let st := s.get F.CHG_SESS.STATE
  if !sessActive s then s
  else if st = 5 then
    let over' := if 2 * i.v2lI > 3 * (chgPar s).v2lIMax then s.chg.overMs + 1 else 0
    let s := s.setChg { s.chg with overMs := over' }
    let noDis := match s.chg.bms with
      | some b => s.chg.fresh && b.disI == 0
      | none => false
    add (s.mode != 4 || !chActive s 0 || !chActive s 1) 13 (add (i.socFloor || noDis) 15 (add (decide (100 ≤ over')) 14 s))
  else
    let ps := s.get F.CHG_PILOT.STATE
    let dead := !chActive s 0 || !chActive s 1
    let s := add ([0, 4, 5, 6].contains ps) 2 s
    add ((s.mode != 4 && (s.mode != 5 || s.sys.cfg.limpChgLimit == 0)) || (dead && s.chg.pause != 2)) 13 s

/-- The session's state machine in one task. -/
def sessTask (i : ChgIn) (s : State) : State :=
  let s := taskEnds i s
  let s := if 0 < s.chg.hostMs then
      (if s.chg.hostMs ≥ 1000 then s.setChg { s.chg with hostMs := 0, ends := if sessActive s then s.chg.ends ++ [1] else s.chg.ends }
       else s.setChg { s.chg with hostMs := s.chg.hostMs + 1 }) else s
  let hard := s.get F.CHG_PILOT.STATE == 4 || s.get F.CHG_PILOT.STATE == 6
  let s := endSession hard s
  match s.get F.CHG_SESS.STATE with
  | 0 | 1 =>
    if mayCharge s then raise 171 ((chStart 1 (chStart 0 s)).set F.CHG_SESS.STATE 2)
    else if mayExport s then raise 171 ((chStart 1 (chStart 0 s)).set F.CHG_SESS.STATE 5)
    else s.set F.CHG_SESS.STATE (if s.chg.cmd then 1 else 0)
  | 2 | 3 =>
    let ps := s.get F.CHG_PILOT.STATE
    if ps = 1 || (ps = 3 && !(chgPar s).ventOk) then
      (obcSoftStop s).setChg { s.chg with pause := 2 } |>.set F.CHG_SESS.STATE 4
    else if s.chState 0 == 2 && s.chState 1 == 2 then s.set F.CHG_SESS.STATE 3 else s
  | 4 =>
    if s.chg.pause = 2 && pilotReady s && s.chg.fresh && s.chState 0 == 0 && s.chState 1 == 0 then
      ((chStart 1 (chStart 0 s)).setChg { s.chg with pause := 0 }).set F.CHG_SESS.STATE 2
    else s
  | 6 => if !chActive s 0 && !chActive s 1 then s.set F.CHG_SESS.STATE 0 else s
  | _ => s

/-- LIMITS_TIMEOUT (R379): no limit frame for LIM_TMO. -/
def execLimitsTimeout (s : State) : Res :=
  .next (if !pairBRuns s || !s.chg.fresh then s
    else
      let s := s.setChg { s.chg with fresh := false, ramp := s.get F.CHG_SESS.P_LIM / 1000 + 1 }
      if s.get F.CHG_SESS.STATE = 2 ∨ s.get F.CHG_SESS.STATE = 3 then
        (s.setChg { s.chg with pause := 1 }).set F.CHG_SESS.STATE 4
      else s)

/-- PAUSE_TIMEOUT (R379): 10 s in PAUSED for stale limits. -/
def execPauseTimeout (s : State) : Res :=
  .next (if pairBRuns s && s.get F.CHG_SESS.STATE == 4 && s.chg.pause == 1 then
      quietly (fun s => endSession false (s.setChg { s.chg with ends := s.chg.ends ++ [6] })) s
    else s)

/-- HV_LOST_HOLD_END (R383): no new host command within HV_LOST_HOLD. -/
def execHvLostHoldEnd (s : State) : Res :=
  .next (if pairBRuns s && s.chg.hvHold then chDisable 0 (s.setChg { s.chg with hvHold := false }) else s)

/-! ### The 12 V battery (R386 to R391) -/

/-- Settings of the zone: 5, thermistor invalid, takes WARM's (R387). -/
def zoneRow (z : Nat) : Nat := if 4 < z then 3 else z
def zoneFactor (s : State) : Nat := s.get F.CHG_ZONE.FACTOR (zoneRow (s.get F.CHG_B12.ZONE))

/-- Zone by temperature with 2 °C hysteresis. -/
def zoneOf (s : State) (cur : Nat) (t : Int) : Nat :=
  let hi (z : Nat) : Int := 16 * s.getI F.CHG_ZONE.T_HI z
  [3, 2, 1, 0].foldl (fun n z =>
    -- the boundary above zone z holds the zone below it only once 2 °C under it when the present zone lies above
    -- zone 0 lies below its bound
    if t + (if z = 0 then 1 else 0) ≤ hi z - (if cur ≤ 4 && z < cur then 32 else 0) then z else n) 4

/-- V_ABS and V_FLOAT in 10 mV. -/
def vAbs (s : State) : Nat := 1200 + 2 * s.get F.CHG_ZONE.V_ABS (zoneRow (s.get F.CHG_B12.ZONE))
def vFloat (s : State) : Nat := 1200 + 2 * s.get F.CHG_ZONE.V_FLOAT (zoneRow (s.get F.CHG_B12.ZONE))

/-- Current limit of the phase in 0.1 A: I_BULK × FACTOR × the converter's thermal factor, a tenth in PRE. -/
def b12Limit (s : State) : Nat :=
  let i := s.get F.CHG_B12_CFG.I_BULK * zoneFactor s * thmFactor s 5 / 16384
  match s.get F.CHG_B12.PHASE with
  | 1 => i / 10
  | 2 | 3 | 4 => i
  | _ => 0

/-- Voltage target of the phase in 10 mV. -/
def b12Volt (s : State) : Nat :=
  match s.get F.CHG_B12.PHASE with
  | 1 | 2 | 3 => vAbs s
  | 4 => vFloat s
  | 5 => 1280
  | 6 => 1400
  | _ => 0

/-- A new 12 V session: the timer clears; PRE below 10.5 V, else BULK. -/
def b12Start (battV : Nat) (s : State) : State :=
  let s := ((s.set F.CHG_B12.TIMER 0).set F.CHG_B12.HALF_RATE 0).setChg { s.chg with preMs := 0, rechMs := 0, secMs := 0 }
  raise 171 (s.set F.CHG_B12.PHASE (if battV < 1050 then 1 else 2))

/-- The 12 V session ends. -/
def b12End (r phase : Nat) (s : State) : State :=
  endCode r ((s.set F.CHG_B12.END_REASON r).set F.CHG_B12.PHASE phase) |>.setChg { s.chg with preMs := 0, rechMs := 0 }

/-- Battery below V_RECH for 10 s. -/
def recharge (battV : Nat) (s : State) : State × Bool :=
  let n := if battV < s.get F.CHG_B12_CFG.V_RECH then s.chg.rechMs + 1 else 0
  (s.setChg { s.chg with rechMs := min n 10000 }, decide (10000 ≤ n))

/-- The safety timer in PRE, BULK and ABSORB (R388). -/
def timerTask (i : ChgIn) (s : State) : State :=
  if [1, 2, 3].contains (s.get F.CHG_B12.PHASE) then
    let half := decide (b12Limit s < s.get F.CHG_B12_CFG.I_BULK) || i.convLimited
    let s := s.setB F.CHG_B12.HALF_RATE half
    if s.chg.secMs + 1 ≥ 1000 then
      (s.set F.CHG_B12.TIMER (min 131071 (s.get F.CHG_B12.TIMER + (if half then 1 else 2)))).setChg { s.chg with secMs := 0 }
    else s.setChg { s.chg with secMs := s.chg.secMs + 1 }
  else s

/-- Zone of this task. -/
def zoneTask (s : State) : State :=
  let n := (chgPar s).b12Sensor
  if s.getB F.THM_TEMP.VALID n then s.set F.CHG_B12.ZONE (zoneOf s (s.get F.CHG_B12.ZONE) (s.getI F.THM_TEMP.TEMP n))
  else s.set F.CHG_B12.ZONE 5

/-- The phases of the 12 V session (R385 to R391). -/
def b12Phase (i : ChgIn) (s : State) : State :=
  let ph := s.get F.CHG_B12.PHASE
  let on := s.chState 2 == 2 && !s.getB F.CNV_CH_CFG.DIR 2
  if !on then s.set F.CHG_B12.PHASE 0
  else if ph = 0 then b12Start i.battV s
  else if i.removed && ph != 6 then raise 173 (b12End 8 6 s)
  else if zoneFactor s = 0 && ph ≤ 4 then b12End 12 5 s
  else match ph with
    | 1 =>
      if i.battV > 1050 then s.set F.CHG_B12.PHASE 2
      else if s.chg.preMs + 1 ≥ 1800000 then b12End 11 5 s
      else s.setChg { s.chg with preMs := s.chg.preMs + 1 }
    | 2 => if i.battV ≥ vAbs s then s.set F.CHG_B12.PHASE 3 else s
    | 3 => if 5 * i.battI < s.get F.CHG_B12_CFG.I_BULK then s.set F.CHG_B12.PHASE 4 else s
    | 4 =>
      let (s, low) := recharge i.battV s
      if low then (s.setChg { s.chg with rechMs := 0 }).set F.CHG_B12.PHASE 2 else s
    | 5 =>
      let (s, low) := recharge i.battV s
      if low && zoneFactor s != 0 then b12Start i.battV s else s
    | _ => s

/-- Phases of the 12 V battery in one task (R386 to R390). -/
def b12Task (i : ChgIn) (s : State) : State :=
  let s := timerTask i (b12Phase i (zoneTask s))
  if s.get F.CHG_B12.PHASE = 0 then s
  else chgCoef 5 (chgPar s).b12IWord (b12Limit s) (chgCoef 5 (chgPar s).b12VWord (b12Volt s) s)

/-- ACCEPTANCE_PROBE (R391): the end of the 20 ms at 14.4 V. -/
def execAcceptanceProbe (battI : Int) (battV : Nat) (s : State) : Res :=
  .next (if pairBRuns s && s.get F.CHG_B12.PHASE == 6 then
      quietly (fun s =>
        let s := chgCoef 5 (chgPar s).b12VWord 1440 s
        if 50 < battI then b12Start battV s else chgCoef 5 (chgPar s).b12VWord 1400 s) s
    else s)

/-- SAFETY_TIMER_EXPIRY (R388). -/
def execSafetyTimerExpiry (s : State) : Res :=
  .next (if pairBRuns s && [1, 2, 3].contains (s.get F.CHG_B12.PHASE) &&
        decide (120 * max 1 (s.get F.CHG_B12_CFG.SAFETY_T) ≤ s.get F.CHG_B12.TIMER) then
      b12End (if s.getB F.CHG_B12.HALF_RATE then 10 else 9) 5 s
    else s)

/-! ### Precharge (R392 to R394) -/

/-- A precharge command (R392): in READY with the contactors open. -/
def preCommand (s : State) : State :=
  if s.mode != 2 || s.chg.contactors || [1, 2].contains (s.get F.CHG_PRE.PSTATE) then s
  else
    let target := match s.chg.bms with
      | some b => if s.chg.fresh then b.packV else none
      | none => none
    match target with
    | some v =>
      if v > (chgPar s).hvMax || s.chState 2 != 0 then (s.set F.CHG_PRE.PSTATE 4).set F.CHG_PRE.FAIL 2
      else
        let s := ((s.set F.CHG_PRE.PSTATE 1).set F.CHG_PRE.FAIL 0).set F.CHG_PRE.TARGET (min v 65535)
        chStart 2 (s.set F.CNV_CH_CFG.DIR 1 2)
    | none => (s.set F.CHG_PRE.PSTATE 4).set F.CHG_PRE.FAIL 2

/-- The link reaches the target: HOLD, EV_CHG_PRECHARGE (175); a soft stop that has ended gives DONE (R393). -/
def preTask (i : ChgIn) (s : State) : State :=
  let t := s.get F.CHG_PRE.TARGET
  let s := if s.get F.CHG_PRE.PSTATE = 1 ∧ ((i.linkV : Int) - t).natAbs ≤ 10 * max 1 (s.get F.CHG_PRE_CFG.PRE_DV) then
      raise 175 (s.set F.CHG_PRE.PSTATE 2) else s
  if s.chg.preStop && !chActive s 2 then
    (if s.get F.CHG_PRE.PSTATE = 2 then s.set F.CHG_PRE.PSTATE 3 else s).setChg { s.chg with preStop := false }
  else s

/-- PRECHARGE_TIMEOUT (R393): the channel stops at once, FAIL 1. -/
def execPrechargeTimeout (s : State) : Res :=
  .next (if pairBRuns s && s.get F.CHG_PRE.PSTATE == 1 then preFail 1 (stopNow (.pair 1) 2 s) else s)

/-- The precharge's end in HOLD: a soft stop of channel 2. -/
def preEnd (s : State) : State :=
  if s.get F.CHG_PRE.PSTATE = 2 then chDisable 2 (s.setChg { s.chg with preStop := true }) else s

/-- PRE_HOLD_TIMEOUT (R393). -/
def execPreHoldTimeout (s : State) : Res := .next (if pairBRuns s then preEnd s else s)

/-! ### The task (R378) -/

/-- Limits that pair B scales by the actuator factor (R399). -/
def actLimits (s : State) : State :=
  (chgPar s).actLims.foldl (fun s l => chgCoef l.whorl l.word (l.value * thmFactor s 6 / 128) s) s

/-- CHARGE_TASK (R378): the session, P_LIM, the 12 V battery, the precharge. -/
def execChargeTask (i : ChgIn) (s : State) : Res :=
  .next (if pairBRuns s && s.pdReady 8 then
      quietly (fun s => actLimits (preTask i (b12Task i (limitWrite i (sessTask i (calLoad 1 s)))))) s
    else s)

end Sys2Proof.Machine
end

