-- ==== Sys2Proof/Machine/Power.lean ====
section
/-! DEFINITION. Power domains going on and off (R48 to R55), what a start clears, a start that fails (R64), and the fall of the debug
level (R500), which restarts and mode changes bring with them. -/

namespace Sys2Proof.Machine
open Sys2Proof

/-- One controller's, and one pair's, state beside its registers. -/
def State.can (s : State) (n : Nat) : CanSt := SMap.get {} s.bus.can n
def State.setCan (s : State) (n : Nat) (x : CanSt) : State := { s with bus := { s.bus with can := SMap.put {} s.bus.can n x } }
def State.pairSt (s : State) (p : Nat) : PairSt := SMap.get {} s.spx.pairs p
def State.setPair (s : State) (p : Nat) (x : PairSt) : State := { s with spx := { s.spx with pairs := SMap.put {} s.spx.pairs p x } }
def State.setReel (s : State) (x : ReelSt) : State := { s with bus := { s.bus with reel := x } }

/-! ### Debug level (R500) -/

/-- Debug halts end: a halted checked pair resynchronises (R412), and every HALT and HALTED bit clears; EV_DBG_HALT (55). -/
def resumePair (p : Nat) (s : State) : State :=
  if s.pdReady (2 + p) && s.get F.SPX_STAT.STATE p == 6 then
    let x := s.pairSt p
    (s.setPair p { x with buf1 := [], sync0 := [], sync1 := [], halt := x.buf0.length }).set F.SPX_STAT.STATE 2 p
  else s

/-- Every halt is released in the cycle in which the level falls. -/
def releaseHalts (s : State) : State :=
  if s.get F.DBG_HALT.HALT == 0 && s.get F.DBG_HALT.HALTED == 0 && !s.getB F.DBG_HALT.HALT_REEL && !s.getB F.DBG_HALT.REEL_HALTED then s
  else
    let s := resumePair 1 (resumePair 0 s)
    let s := (s.set F.DBG_HALT.HALT 0).set F.DBG_HALT.HALTED 0
    raise 55 ((s.set F.DBG_HALT.HALT_REEL 0).set F.DBG_HALT.REEL_HALTED 0)

/-- The present lifecycle state (R491): the highest one of which two copies are blown. -/
def lifecycle (s : State) : Nat :=
  [1, 2, 3, 4].foldl (fun l k => if s.tnd.fuse.lc.getD (k - 1) 0 ≥ 2 then k else l) 0

/-- A revocation ends an XCP session (R482): EV_BUS_XCP (207). -/
def xcpEnd (s : State) : State :=
  if s.xcp.connected then
    let s := { s with xcp := { s.xcp with connected := false, lists := s.xcp.lists.map (fun l => { l with running := false, sample := none }) } }
    raise 207 s
  else s

/-- The level falls to `level` for a cause of R500; a level that is already there makes the cause void. -/
def debugRevoke (cause level : Nat) (s : State) : State :=
  if s.dbgLevel ≤ level then s
  else
    let s := (s.set F.DBG_STAT.LEVEL level).set F.DBG_STAT.LEFT 0
    let s := (s.set F.DBG_STAT.REVOKED 1).set F.DBG_STAT.REVOKE_CAUSE cause
    let s := { s with tnd := { s.tnd with expiry := false } }
    let s := xcpEnd (releaseHalts s)
    raise 50 s

/-- In BLANK, L3 is granted whenever the mode becomes START, READY, SAFE or SERVICE (R500, R503): EV_DBG_LEVEL (49). -/
def blankGrant (s : State) : State :=
  if lifecycle s == 0 && [1, 2, 6, 7].contains s.mode && s.pdReady 8 && s.dbgLevel != 3 then
    raise 49 (((s.set F.DBG_STAT.LEVEL 3).set F.DBG_STAT.SOURCE 3).set F.DBG_STAT.LEFT 0)
  else s

/-! ### Domains -/

/-- The engines of a domain lose what they hold (R52). -/
def engineOff (d : Nat) (s : State) : State :=
  match d with
  | 1 => { s with tnd := { s.tnd with chal := [], lockout := 0, serving := none, waiting := [], expiry := false }, upd := {} }
  | 2 => { s with sup := {}, spx := { s.spx with pairs := SMap.put {} s.spx.pairs 0 {} } }
  | 3 => { s with chg := {}, xcp := {}, spx := { s.spx with pairs := SMap.put {} s.spx.pairs 1 {} } }
  | 4 => { s with whl := { s.whl with w := s.whl.w.filter (fun e => decide (4 ≤ e.1)), handover := none } }
  | 5 => { s with whl := { s.whl with w := s.whl.w.filter (fun e => decide (e.1 < 4)), handover := none }, cnv := {} }
  | 6 => { s with afe := {} }
  | 7 => { s with pwm := {}, fly := {} }
  | 8 => { s with fab := { poison := s.fab.poison }, olt := {}
                  sys := { s.sys with wlDone := [], linkUp := false, linkLost := false, linkCrcRun := 0 } }
  | 9 => { s with bus := {} }
  | 10 => { s with hk := {}, act := {}, thm := {}, sys := { s.sys with linkUp := false, linkCrcRun := 0 }
                   kln := { s.kln with susp := 0, linkV := 0 } }
  | _ => s

/-- Memory keys that a domain holds: MRAM and flash are no domain's (R52). -/
def domainKey (d k : Nat) : Bool := keyDomain k == d && !inMram k && !inFlash k

/-- PDn is switched off (R48, R52): its registers, memories and engines keep nothing; requests of a pair that is off do not hold. -/
def domainOff (d : Nat) (s : State) : State :=
  let s := (s.setBit F.PD_STAT.ON d false).setBit F.PD_STAT.FILLED d false
  let s := { s with
    regs := s.regs.filter (fun e => domainOf e.1 != d)
    mem := s.mem.filter (fun e => !domainKey d e.1)
    fab := { s.fab with poison := s.fab.poison.filter (fun k => !domainKey d k) }
    sys := { s.sys with wlDone := s.sys.wlDone.filter (fun a => domainOf a != d) } }
  let s := engineOff d s
  let s := if (d = 2 ∨ d = 3) ∧ kreqPair s + 2 = d then { s with kln := { s.kln with kreq := 0 } } else s
  s

/-- PD1 to PD10 together, in one step (R50); the Kiln's outputs follow. -/
def allOff (s : State) : State := kilnDrive ([1, 2, 3, 4, 5, 6, 7, 9, 10, 8].foldl (fun s d => domainOff d s) s)

/-- SEQ of the next ash record, continued from the ring in the MRAM (R550, MEMC_ASH_SEQ). -/
def ashNext (s : State) : Nat :=
  (List.range 128).foldl (fun n i =>
    if s.load (0x70000000 + 256 * i) 2 = 0x4153 then max n (s.load (0x70000004 + 256 * i) 4 + 1) else n) 0

/-- PDn is switched on: powered, its memory not yet filled (R53, R55). -/
def domainOn (d : Nat) (s : State) : State :=
  if s.pdOn d then s
  else
    let s := s.setBit F.PD_STAT.ON d true
    if d = 8 then s.set F.MEMC_ASH_SEQ.NEXT_SEQ (ashNext s) else s

/-! ### Starts -/

/-- A start of a kind begins (R56, R590): what a START clears of the mode machine and of the Kiln's requests (R442). -/
def startBegin (kind : Nat) (s : State) : State :=
  let s := s.set F.START_LOG.KIND kind
  let keep := { s.sys with
    phase := .supplies, kind := kind, supEn := true, trans := none, reacts := [], causes := [], safeCls := 0, safeCauses := []
    onSeq := [], offSeq := [], released := false, loader := {}, cfg := {}, cfgVersion := 0, linkUp := false, linkLost := false
    dcdcHeld := false, wlDone := [] }
  { s with sys := keep, kln := { s.kln with tries := 0, stoOk := false, brkOk := false, genOk := 0, kreq := 0, unchk := 0, mail := [] }
           tnd := { s.tnd with rngBad := false, testBad := false } }

/-- A failure before release (R63, R64): the domains go off, START_LOG takes the code, SUP_EN is held low. -/
def startFail (code : Nat) (s : State) : State :=
  let s := allOff s
  let s := (s.set F.START_LOG.LAST_FAULT code).bump F.START_LOG.FAILS F.START_LOG.SAT
  { s with sys := { s.sys with phase := .hold, supEn := false, trans := none, reacts := [], onSeq := [], loader := {}, released := false } }

/-- The sequence stands before core release (R63). -/
def starting (s : State) : Bool :=
  match s.sys.phase with
  | .supplies | .pllStart | .loading => true
  | _ => false

/-- A restart (R50, R590): PD1 to PD10 go off together, and the sequence goes on from the supply-good step. -/
def restart (s : State) : State := startBegin 2 (allOff (debugRevoke 6 0 s))

end Sys2Proof.Machine
end

