-- ==== Sys2Proof/Machine/Ember.lean ====
section
/-! DEFINITION. Ember (chapter 4): passes, wake decisions, wake inputs, rotation counters, the real-time clock and the
instruction set of R106. An instruction row carries the decoded instruction of the pass in progress; outside a pass no
instruction executes, so such a row changes nothing. -/

namespace Sys2Proof.Machine
open Sys2Proof

/-- Register En (R104). -/
def State.ereg (s : State) (r : Nat) : Word := SMap.get 0 s.emb.e r

def State.setEreg (s : State) (r : Nat) (v : Word) : State :=
  { s with emb := { s.emb with e := SMap.put 0 s.emb.e r v } }

/-- Key of word i of the program store, EMB + 0x1000 (R120). -/
def embProgKey (i : Nat) : Nat := 0x30161000 + 4 * i

/-- Key of word i of the retained SRAM, EMB + 0x8000 (R120). -/
def embSramKey (i : Nat) : Nat := 0x30168000 + 4 * i

/-- Write a list of words from key `a` on. -/
def State.storeWords (s : State) (a : Nat) : List Word → State
  | [] => s
  | w :: r => (s.store a 4 w.toNat).storeWords (a + 4) r

/-- ARMED: the pass timer, an edge trigger or a DIRECT wake is enabled (EMB_STAT). -/
def refreshArmed (s : State) : State :=
  s.setB F.EMB_STAT.ARMED
    (s.get F.EMB_CFG.PASS_PERIOD != 0 || s.get F.EMB_CFG.DIRECT != 0 || s.get F.EMB_PINCFG.EDGE0 != 0 ||
      s.get F.EMB_PINCFG.EDGE1 != 0 || s.get F.EMB_PINCFG.EDGE2 != 0 || s.get F.EMB_PINCFG.EDGE3 != 0)

/-- A new program takes effect: the store is rewritten (256 words, unloaded ones zero), E0 to E15 are cleared, PROG_OK is
set (R104). -/
def installProgram (p : List Word) (s : State) : State :=
  let words := (p ++ List.replicate 256 0).take 256
  let s := s.storeWords (embProgKey 0) words
  let s := { s with emb := { s.emb with e := [], progNext := none, parityBad := false } }
  refreshArmed (s.set F.EMB_STAT.PROG_OK 1)

/-- A pass boundary: a program waiting takes effect here (R104). -/
def passBoundary (s : State) : State :=
  match s.emb.progNext with
  | some p => installProgram p s
  | none => s

/-- PASS_START (R101): at program address 0. After a parity fault no pass runs until the next program load (R117). -/
def startPass (s : State) : State :=
  if s.emb.parityBad then s
  else { s with emb := { s.emb with inPass := true, pc := 0, count := 0, again := false } }

/-- A trigger: it starts a pass, or is merged into the one further pass that follows the pass in progress (R101). -/
def triggerPass (s : State) : State :=
  if s.emb.inPass then { s with emb := { s.emb with again := true } } else startPass (passBoundary s)

/-- The pass ends; merged triggers start exactly one further pass at once (R101). -/
def endPass (s : State) : State :=
  let s := { s with emb := { s.emb with inPass := false } }
  let s := passBoundary s
  if s.emb.again then startPass s else s

/-- WAKE_DECISION (R115, R116, R64): in DORMANT it raises SUP_EN and begins a wake start; during DORMANT entry it is
latched; during the SUP_EN hold it is recorded; otherwise it overwrites WAKE_REASON and raises EV_EMB_WAKE (10). -/
def wakeDecision (reason : Nat) (s : State) : State :=
  match s.sys.phase with
  | .dormant =>
    if s.emb.latched then s.set F.EMB_STAT.MORE 1
    else
      let s := s.set F.EMB_STAT.WAKE_REASON reason
      let s := if s.getB F.START_LOG.START_LOCK then (s.set F.START_LOG.START_LOCK 0).set F.START_LOG.FAILS 0 else s
      startBegin 1 s
  | .dormantEntry =>
    if s.emb.latched then s.set F.EMB_STAT.MORE 1
    else { (s.set F.EMB_STAT.WAKE_REASON reason) with emb := { s.emb with latched := true } }
  | .hold => s.set F.EMB_STAT.WAKE_REASON reason
  | _ => raise 10 (s.set F.EMB_STAT.WAKE_REASON reason)

/-- EMBER_FAULT (R102, R117): the pass is aborted, FAULT and its cause are set, the code is issued with class REPORT,
EV_EMB_FAULT (11) is raised, and in DORMANT a wake decision with reason 0xFF follows. -/
def emberFault (code : Nat) (s : State) : State :=
  let s := (s.set F.EMB_STAT.FAULT 1).set F.EMB_STAT.FAULT_CAUSE (code % 256)
  let s := raise 11 (issue code 0 s)
  let s := endPass s
  match s.sys.phase with
  | .dormant => wakeDecision 0xFF s
  | _ => s

/-- PASS_TIMER_EXPIRY (R100): a PASS_PERIOD of 0 disables the timer. -/
def execPassTimerExpiry (s : State) : Res :=
  .next (if s.get F.EMB_CFG.PASS_PERIOD = 0 then s
    else triggerPass { s with emb := { s.emb with timerTrig := true } })

/-- EDGE selection of a wake pin: 0 none, 1 rising, 2 falling, 3 both. -/
def edgeSel (s : State) (pin : Nat) : Nat :=
  match pin with
  | 0 => s.get F.EMB_PINCFG.EDGE0
  | 1 => s.get F.EMB_PINCFG.EDGE1
  | 2 => s.get F.EMB_PINCFG.EDGE2
  | _ => s.get F.EMB_PINCFG.EDGE3

/-- WAKE_PIN_EDGE (R111): the filtered level changes; an edge of the selected kind sets the pin's edge flag and starts a
pass, or with DIRECT set makes the wake decision itself with reason 0xF0 + n. -/
def execWakePinEdge (pin : Fin 4) (rising : Bool) (s : State) : Res :=
  let s := { s with emb := { s.emb with levels := putBit s.emb.levels pin.val rising } }
  .next (if (edgeSel s pin.val).testBit (if rising then 0 else 1) then
      let s := { s with emb := { s.emb with edges := putBit s.emb.edges pin.val true } }
      if s.bit F.EMB_CFG.DIRECT pin.val then wakeDecision (0xF0 + pin.val) s else triggerPass s
    else s)

/-- RTC_SECOND_TICK (R113, R114): the seconds advance; the first tick at which they equal an armed alarm triggers a
pass. -/
def execRtcSecondTick (s : State) : Res :=
  let s := (s.set F.EMB_RTC_SEC.SEC (s.get F.EMB_RTC_SEC.SEC + 1)).set F.EMB_RTC_SUB.SUB 0
  .next (if s.emb.alarmArmed && s.get F.EMB_RTC_SEC.SEC == s.get F.EMB_RTC_ALARM.ALARM then
      triggerPass { s with emb := { s.emb with alarmTrig := true, alarmArmed := false } }
    else s)

/-- Who may write the EMB block's clock registers: Spindles, Tinder and debug at L3; never the loader (R30, R120, R494). -/
def embWriter (s : State) (m : Master) : Bool := s.regWriter m && m != .loader && s.pdReady 0

/-- A write of EMB_RTC_SEC sets the seconds and clears EMB_RTC_SUB (R120). -/
def rtcSecWrite (m : Master) (value : Word) (s : State) : State :=
  if embWriter s m then ((s.set F.EMB_RTC_SEC.SEC value.toNat).set F.EMB_RTC_SUB.SUB 0).answer .done else busError s

/-- RTC_SEC_WRITE. -/
def execRtcSecWrite (m : Master) (value : Word) (s : State) : Res := .next (rtcSecWrite m value s)

/-- A write of EMB_RTC_ALARM (R114): 0 disables; a value not later than the present second never fires and sets ALARM_PAST. -/
def rtcAlarmWrite (m : Master) (value : Word) (s : State) : State :=
  if embWriter s m then
    let past := value != 0 && decide (value.toNat ≤ s.get F.EMB_RTC_SEC.SEC)
    let s := s.set F.EMB_RTC_ALARM.ALARM value.toNat
    let s := if past then s.set F.EMB_STAT.ALARM_PAST 1 else s
    { s with emb := { s.emb with alarmArmed := value != 0 && !past } }.answer .done
  else busError s

/-- RTC_ALARM_WRITE. -/
def execRtcAlarmWrite (m : Master) (value : Word) (s : State) : Res := .next (rtcAlarmWrite m value s)

/-- PASS_LIMIT (R102): code 0x0101. -/
def execPassLimit (s : State) : Res :=
  .next (if s.emb.inPass then emberFault 0x0101 s else s)

/-- EMB_ILLEGAL_OPCODE (R102, R117): code 0x0102, or 0x0103 for a parity error, after which PROG_OK stays clear. -/
def execEmbIllegalOpcode (parity : Bool) (s : State) : Res :=
  .next (if s.emb.inPass then
      if parity then
        emberFault 0x0103 ({ s with emb := { s.emb with parityBad := true, again := false } }.set F.EMB_STAT.PROG_OK 0)
      else emberFault 0x0102 s
    else s)

/-- Count one instruction and go to program address `pc` (the store holds 256 words). -/
def embGo (pc : Nat) (s : State) : State :=
  { s with emb := { s.emb with pc := pc % 256, count := s.emb.count + 1 } }

/-- An instruction of the pass in progress: `f`, then the next program address. -/
def embInstr (f : State → State) (s : State) : State :=
  if s.emb.inPass then embGo (s.emb.pc + 1) (f s) else s

/-- An instruction that writes rd with `v`. -/
def embAlu (rd : Fin 16) (v : Word) (s : State) : State := embInstr (fun s => s.setEreg rd.val v) s

/-- A branch of the pass in progress. -/
def embBranch (taken : Bool) (imm : BitVec 16) (s : State) : State :=
  if s.emb.inPass then embGo (if taken then imm.toNat % 256 else s.emb.pc + 1) s else s

/-- SLEEP ends the pass. -/
def execEmbSleep (s : State) : Res :=
  .next (if s.emb.inPass then endPass (embGo s.emb.pc s) else s)

/-- LDI: rd := sign-extended imm. -/
def execEmbLdi (rd : Fin 16) (imm : BitVec 16) (s : State) : Res := .next (embAlu rd (imm.signExtend 32) s)

/-- LUI: rd := imm × 65,536 + (rd mod 65,536). -/
def execEmbLui (rd : Fin 16) (imm : BitVec 16) (s : State) : Res :=
  .next (embAlu rd (BitVec.ofNat 32 (imm.toNat * 65536 + (s.ereg rd.val).toNat % 65536)) s)

/-- ADD, wrapping. -/
def execEmbAdd (rd ra rb : Fin 16) (s : State) : Res := .next (embAlu rd (s.ereg ra.val + s.ereg rb.val) s)

/-- SUB, wrapping. -/
def execEmbSub (rd ra rb : Fin 16) (s : State) : Res := .next (embAlu rd (s.ereg ra.val - s.ereg rb.val) s)

/-- ADDI, wrapping. -/
def execEmbAddi (rd ra : Fin 16) (imm : BitVec 16) (s : State) : Res :=
  .next (embAlu rd (s.ereg ra.val + imm.signExtend 32) s)

def execEmbAnd (rd ra rb : Fin 16) (s : State) : Res := .next (embAlu rd (s.ereg ra.val &&& s.ereg rb.val) s)

def execEmbOr (rd ra rb : Fin 16) (s : State) : Res := .next (embAlu rd (s.ereg ra.val ||| s.ereg rb.val) s)

def execEmbXor (rd ra rb : Fin 16) (s : State) : Res := .next (embAlu rd (s.ereg ra.val ^^^ s.ereg rb.val) s)

/-- SHL: shift left by imm[4:0]. -/
def execEmbShl (rd ra : Fin 16) (imm : BitVec 16) (s : State) : Res :=
  .next (embAlu rd (s.ereg ra.val <<< (imm.toNat % 32)) s)

/-- SHR: logical shift right by imm[4:0]. -/
def execEmbShr (rd ra : Fin 16) (imm : BitVec 16) (s : State) : Res :=
  .next (embAlu rd (s.ereg ra.val >>> (imm.toNat % 32)) s)

/-- ASR: arithmetic shift right by imm[4:0]. -/
def execEmbAsr (rd ra : Fin 16) (imm : BitVec 16) (s : State) : Res :=
  .next (embAlu rd ((s.ereg ra.val).sshiftRight (imm.toNat % 32)) s)

/-- FILT: rd := rd + asr(ra − rd, k), k = imm[3:0] from 1 to 15. R106 states no result for k = 0: a free value. -/
def execEmbFilt (rd ra : Fin 16) (imm : BitVec 16) (s : State) : Res :=
  .next (embAlu rd
    (if imm.toNat % 16 = 0 then Config.filtZero (s.ereg rd.val) (s.ereg ra.val)
     else s.ereg rd.val + (s.ereg ra.val - s.ereg rd.val).sshiftRight (imm.toNat % 16)) s)

/-- Retained SRAM word of LD and ST: (ra + imm) mod 8,192. -/
def embSramIndex (a : Word) (imm : BitVec 16) : Nat := (a.toNat + imm.toNat) % 8192

/-- LD: rd := SRAM word (ra + imm) mod 8,192. -/
def execEmbLd (rd ra : Fin 16) (imm : BitVec 16) (s : State) : Res :=
  .next (embAlu rd (BitVec.ofNat 32 (s.load (embSramKey (embSramIndex (s.ereg ra.val) imm)) 4)) s)

/-- ST: SRAM word (ra + imm) mod 8,192 := rd. -/
def execEmbSt (rd ra : Fin 16) (imm : BitVec 16) (s : State) : Res :=
  .next (embInstr (fun s => s.store (embSramKey (embSramIndex (s.ereg ra.val) imm)) 4 (s.ereg rd.val).toNat) s)

def execEmbBeq (rd ra : Fin 16) (imm : BitVec 16) (s : State) : Res :=
  .next (embBranch (s.ereg rd.val == s.ereg ra.val) imm s)

def execEmbBne (rd ra : Fin 16) (imm : BitVec 16) (s : State) : Res :=
  .next (embBranch (s.ereg rd.val != s.ereg ra.val) imm s)

def execEmbBlt (rd ra : Fin 16) (imm : BitVec 16) (s : State) : Res :=
  .next (embBranch ((s.ereg rd.val).slt (s.ereg ra.val)) imm s)

def execEmbBge (rd ra : Fin 16) (imm : BitVec 16) (s : State) : Res :=
  .next (embBranch (!(s.ereg rd.val).slt (s.ereg ra.val)) imm s)

def execEmbJmp (imm : BitVec 16) (s : State) : Res := .next (embBranch true imm s)

/-- Result of a burst of conversions (R108): mode 0 single, 1 mean, 2 maximum, 3 minimum. -/
def burstResult (mode : Nat) (codes : List Nat) : Nat :=
  match mode with
  | 0 => codes.headD 0
  | 1 => if codes.length = 0 then 0 else (codes.sum + codes.length / 2) / codes.length
  | 2 => codes.foldl max 0
  | _ => codes.foldl min 4095

/-- SAMP (R108): the burst holds imm[11:6] + 1 conversions, whose codes the surroundings give; the converter stays
powered until 4 µs after the last (R109). -/
def execEmbSamp (rd : Fin 16) (imm : BitVec 16) (codes : List (BitVec 12)) (s : State) : Res :=
  let n := imm.toNat / 64 % 64 + 1
  let v := burstResult (imm.toNat / 16 % 4) ((codes.take n).map BitVec.toNat)
  .next (embInstr (fun s =>
    let s := s.setEreg rd.val (BitVec.ofNat 32 v)
    { s with emb := { s.emb with convOn := true } }) s)

/-- CNT (R112): rd := the rotation count of comparator imm[0], which is cleared; a crossing in the same cycle is kept for
the next read. -/
def execEmbCnt (rd : Fin 16) (imm : BitVec 16) (crossing : Bool) (s : State) : Res :=
  let c := imm.toNat % 2
  .next (embInstr (fun s =>
    let s := s.setEreg rd.val (BitVec.ofNat 32 (SMap.get 0 s.emb.cnt c))
    { s with emb := { s.emb with cnt := SMap.put 0 s.emb.cnt c (if crossing then 1 else 0) } }) s)

/-- The status word INP returns, R107. -/
def embStatusWord (s : State) : Word :=
  BitVec.ofNat 32 (s.emb.levels % 16 + (s.emb.edges % 16) * 16 + (if s.emb.timerTrig then 256 else 0) +
    (if s.emb.alarmTrig then 512 else 0) + (if s.mode = 0 then 1024 else 0) +
    (if s.getB F.EMB_STAT.XTAL_OK then 2048 else 0))

/-- INP (R107): the status word; triggers and edge flags are cleared. -/
def execEmbInp (rd : Fin 16) (s : State) : Res :=
  .next (embInstr (fun s =>
    let s := s.setEreg rd.val (embStatusWord s)
    { s with emb := { s.emb with edges := 0, timerTrig := false, alarmTrig := false } }) s)

/-- RTC: rd := EMB_RTC_SEC. -/
def execEmbRtc (rd : Fin 16) (s : State) : Res := .next (embAlu rd (s.rd (F.EMB_RTC_SEC.SEC.addr 0 0 0)) s)

/-- WAKE (R115): a wake decision with reason imm[7:0] ends the pass; a DIRECT edge in the same EMBCLK cycle keeps its own
reason and MORE is set. -/
def execEmbWake (imm : BitVec 16) (directEdge : Option (Fin 4)) (s : State) : Res :=
  .next (if s.emb.inPass then
      let s := embGo s.emb.pc s
      let s := match directEdge with
        | none => wakeDecision (imm.toNat % 256) s
        | some n => (wakeDecision (0xF0 + n.val) s).set F.EMB_STAT.MORE 1
      endPass s
    else s)

/-- OUT (R118): the EMB_WAKE3 output level. -/
def execEmbOut (imm : BitVec 16) (s : State) : Res :=
  .next (embInstr (fun s => s.set F.EMB_CFG.OUT_LVL (imm.toNat % 2)) s)

/-- WAIT idles; it changes nothing but the program address. -/
def execEmbWait (_imm : BitVec 16) (s : State) : Res := .next (embInstr id s)

/-- CONVERTER_POWER_DOWN (R109). -/
def execConverterPowerDown (s : State) : Res := .next { s with emb := { s.emb with convOn := false } }

/-- ROTATION_CROSSING (R112): a 16-bit count that saturates and sets its CNT_SAT bit; the comparator must be enabled. -/
def execRotationCrossing (cmp : Fin 2) (s : State) : Res :=
  .next (if s.bit F.EMB_CFG.BEMF_EN cmp.val then
      let v := min (SMap.get 0 s.emb.cnt cmp.val + 1) 65535
      let s := { s with emb := { s.emb with cnt := SMap.put 0 s.emb.cnt cmp.val v } }
      if v = 65535 then s.setBit F.EMB_STAT.CNT_SAT cmp.val true else s
    else s)

/-- XTAL_STOP (R113): the timer moves to the internal oscillator and XTAL_FAIL is set. -/
def execXtalStop (s : State) : Res := .next ((s.set F.EMB_STAT.XTAL_OK 0).set F.EMB_STAT.XTAL_FAIL 1)

/-- XTAL_RETURN (R113). -/
def execXtalReturn (s : State) : Res := .next (s.set F.EMB_STAT.XTAL_OK 1)

/-- EMBER_PROGRAM_LOAD (R104): only Tinder, which runs the loader, writes the store; a pass in progress completes with
the old program. -/
def execEmberProgramLoad (m : Master) (prog : List Word) (s : State) : Res :=
  match m with
  | .tinder | .loader =>
    .next ((if s.emb.inPass then { s with emb := { s.emb with progNext := some prog } } else installProgram prog s).answer .done)
  | _ => .next (busError s)

end Sys2Proof.Machine
end

