-- ==== Sys2Proof/Machine/Modes.lean ====
section
/-! DEFINITION. The mode machine (chapter 2): requests and their conditions, transitions, what fault reactions impose; and the
die-to-die link (chapter 1). -/

namespace Sys2Proof.Machine
open Sys2Proof

/-! ### What the conditions ask -/

/-- Loops as pairs of Whorl and loop. -/
def allLoops : List (Nat × Nat) := (List.range 8).flatMap (fun w => (List.range 8).map (fun l => (w, l)))

/-- A loop that drives a leg of one of the stages. -/
def drivesStage (s : State) (st : List Nat) (w l : Nat) : Bool := (legsOfLoop s w l).any (fun g => st.contains (s.get F.PWM_LEG_CFG.STAGE g))

/-- The Whorl's domain may be read. -/
def whlOn (s : State) (w : Nat) : Bool := s.pdReady (if w < 4 then 4 else 5)

/-- Every loop of the stages is stopped, none DRAINING. -/
def loopsStopped (s : State) (st : List Nat) : Bool :=
  allLoops.all (fun (w, l) => !whlOn s w || !drivesStage s st w l ||
    (!s.getB F.WHL_LOOP_CFG.EN w l && !s.getB F.WHL_LOOP_CFG.DRAINING w l))

/-- No loop of the stages is enabled. -/
def noLoopEnabled (s : State) (st : List Nat) : Bool :=
  allLoops.all (fun (w, l) => !whlOn s w || !drivesStage s st w l || !s.getB F.WHL_LOOP_CFG.EN w l)

/-- Channels c of the list are OFF and not DRAINING. -/
def channelsOff (s : State) (cs : List Nat) : Bool :=
  cs.all (fun c => !chUsed s c || (!chActive s c && !s.getB F.CNV_CH_CFG.DRAINING c))

/-- Every bridge is high-impedance. -/
def bridgesHiz (s : State) : Bool := !s.pdReady 10 || (List.range 12).all (fun b => bridgeHiz s b)

/-- Every power stage is stopped: no switch is commanded on, the channels are off, the bridges high-impedance. -/
def stagesStopped (s : State) : Bool :=
  (List.range 64).all (fun k => !(s.sw k).cmd) && channelsOff s [0, 1, 2] && bridgesHiz s

/-- Every PWM group is idle: no generator runs or drains. -/
def pwmIdle (s : State) : Bool := !s.pdReady 7 || (List.range 12).all (fun g => !(s.cg g).running && !s.getB F.PWM_CG_CTL.DRAINING g)

/-- The entry conditions of DORMANT (R70). -/
def dormantAllowed (s : State) : Bool :=
  [2, 6, 7].contains s.mode && pwmIdle s && stagesStopped s && s.kln.gen == 0 && s.fab.ashQ.isEmpty &&
    s.get F.UPD_STAT.STATE == 0 && !s.getB F.SKN_STAT.BUSY && s.getB F.EMB_STAT.PROG_OK && s.getB F.EMB_STAT.ARMED

/-- A pair of modes of the transition table that a request may ask for (R44). -/
def requestable (s : State) (target : Nat) : Bool :=
  match s.mode, target with
  | 1, 2 | 1, 7 | 2, 3 | 2, 4 | 2, 7 | 2, 1 | 3, 2 | 4, 2 | 5, 2 | 6, 1 | 7, 2 | 7, 1 => true
  | 2, 5 => s.getB F.MODE_STAT.LIMP_LATCH || s.getB F.MODE_STAT.LIMP_IMAGE
  | _, _ => false

/-- First of the listed conditions that fails: its reason. -/
def firstReason (l : List (Bool × Nat)) : Option Nat := (l.find? (fun e => !e.1)).map (·.2)

/-- The conditions of the last column of R44, with their reasons; `cleared`: every class 2 cause counts as cleared (R43). -/
def conditions (s : State) (target : Nat) (cleared : Bool) : Option Nat :=
  let latched := (!kilnLatched s, 4)
  let limp := (!s.getB F.MODE_STAT.LIMP_LATCH, 5)
  let image := (!s.getB F.MODE_STAT.LIMP_IMAGE, 8)
  let pd4 := (s.pdFilled 4, 11)
  let ready := [(s.kln.locked, 13), latched, (s.getB F.AFE_CTL.REF_RDY, 6)]
  let causesOk := s.sys.causes.all (fun r => s.sys.cfg.recoverable.contains r.code && !(decide (0x0404 ≤ r.code ∧ r.code ≤ 0x0407)))
  firstReason (match s.mode, target with
    | 1, 2 => ready
    | 1, 7 => ready ++ [(s.getB F.MODE_STAT.BENCH || lifecycle s == 3, 7)]
    | 2, 3 => [latched, limp, image, pd4]
    | 2, 4 => [latched, limp, image, pd4, (noLoopEnabled s [0], 3)]
    | 2, 5 => [pd4]
    | 2, 7 => [(loopsStopped s [0, 1, 2], 3)]
    | 3, 2 => [(loopsStopped s [0], 3)]
    | 4, 2 => [(channelsOff s [0, 1], 3)]
    | 4, 4 => [(channelsOff s [0, 1], 3)]
    | 5, 2 => [(loopsStopped s [0, 1], 3), (cleared && causesOk, 14)]
    | _, _ => [(stagesStopped s, 3)])

/-- A refusal (R45): its reason and EV_MODE_REFUSED (1). -/
def refuse (reason : Nat) (s : State) : State := raise 1 (s.set F.MODE_STAT.REFUSE_REASON reason)

/-! ### Acceptance -/

/-- Keys of the stored freshness values in the MRAM (R477, R539). -/
def freshKey (tx : Bool) (d : Nat) : Nat := 0x70008000 + (if tx then 0x200 else 0) + 4 * d

/-- Reel stores the value of each receive definition (R477). -/
def storeFresh (s : State) : State :=
  (List.range s.sys.cfg.reel.rx.length).foldl (fun s d => s.store (freshKey false d) 4 (SMap.get 0 s.bus.reel.last d)) s

/-- An enabled controller drains (R470). -/
def canDrain (n : Nat) (s : State) : State :=
  if s.getB F.CAN_CTL.EN n then (s.set F.CAN_CTL.EN 0 n).set F.CAN_CTL.DRAINING 1 n else s

/-- Entry of DORMANT begins (R71, R115): BUSY; MORE counts from here; the controllers disable at the end of their frames; the domains follow one by one. -/
def dormantBegin (s : State) : State :=
  let s := if s.getB F.REEL_CTL.RUN then storeFresh s else s
  let s := [0, 1, 2, 3].foldl (fun s n => canDrain n s) s
  let s := (s.set F.MODE_STAT.BUSY 1).set F.EMB_STAT.MORE 0
  { s with sys := { s.sys with phase := .dormantEntry, trans := none, onSeq := [], offSeq := [7, 6, 5, 4, 3, 2, 10, 9, 1, 8], reacts := [] } }

/-- An accepted request (R44, R47): BUSY until it completes; a restart and DORMANT entry begin at once; DRIVE, CHARGE and LIMP revoke
debug levels L2 and L3; LIMP to READY clears LIMP_LATCH. -/
def accept (target : Nat) (v2l : Bool) (s : State) : State :=
  if target = 1 then restart s
  else if target = 0 then dormantBegin s
  else
    let s := if s.mode = 5 && target = 2 then
        { (s.set F.MODE_STAT.LIMP_LATCH 0) with sys := { s.sys with causes := [] } } else s
    let s := { (s.set F.MODE_STAT.BUSY 1) with sys := { s.sys with trans := some ⟨target, v2l⟩ } }
    if [3, 4, 5].contains target then debugRevoke 1 1 s else s

/-- A write of MODE_REQ (R40 to R47, R70, R569). -/
def modeRequest (m : Master) (key : BitVec 16) (target : Nat) (v2l cleared : Bool) (s : State) : State :=
  if !s.regWriter m || !s.pdReady 8 then busError s
  else
    let s := s.answer .done
    if m ≠ .pair s.sys.cfg.modePair then refuse 10 s
    else if key ≠ 0xC3A5 then refuse 12 s
    else if s.getB F.MODE_STAT.BUSY then refuse 2 s
    else if target = 0 then (if !dormantAllowed s then refuse 9 s else if s.olt.test.isSome then refuse 3 s else accept 0 false s)
    else
      let toggles := s.mode == 4 && target == 4 && s.getB F.MODE_STAT.V2L != v2l
      if !(toggles || (requestable s target && !v2l)) then refuse 1 s
      else if s.olt.test.isSome then refuse 3 s
      else match conditions s target cleared with
        | some r => refuse r s
        | none => accept target v2l s

def execRequestReady (m : Master) (key : BitVec 16) (cleared : Bool) (s : State) : Res := .next (modeRequest m key 2 false cleared s)
def execRequestDrive (m : Master) (key : BitVec 16) (s : State) : Res := .next (modeRequest m key 3 false true s)
def execRequestCharge (m : Master) (key : BitVec 16) (s : State) : Res := .next (modeRequest m key 4 false true s)
def execRequestV2l (m : Master) (key : BitVec 16) (s : State) : Res := .next (modeRequest m key 4 true true s)
def execRequestLimp (m : Master) (key : BitVec 16) (s : State) : Res := .next (modeRequest m key 5 false true s)
def execRequestService (m : Master) (key : BitVec 16) (s : State) : Res := .next (modeRequest m key 7 false true s)
def execRequestSafe (m : Master) (key : BitVec 16) (s : State) : Res := .next (modeRequest m key 6 false true s)
def execRequestDormant (m : Master) (key : BitVec 16) (s : State) : Res := .next (modeRequest m key 0 false true s)
def execRequestRestart (m : Master) (key : BitVec 16) (s : State) : Res := .next (modeRequest m key 1 false true s)

/-! ### A transition completes -/

/-- The part is in mode `mode` (R38, R45, R48): PREV_MODE, EV_MODE_CHANGE (0), what the new mode stops, the end of EMERGENCY_RUN, PD4. -/
def enterMode (mode : Nat) (v2l : Bool) (s : State) : State :=
  let old := s.mode
  let s := (s.set F.MODE_STAT.PREV_MODE old).set F.MODE_STAT.MODE mode
  let s := (s.setB F.MODE_STAT.V2L v2l).set F.MODE_STAT.BUSY 0
  let s := { s with sys := { s.sys with trans := none } }
  let s := if (old = 3 ∨ old = 5) ∧ mode ≠ 3 ∧ mode ≠ 5 then emrEnd 3 s else s
  let s := if mode = 4 ∧ old ≠ 4 ∧ s.sys.cfg.chgPd4Off then domainOff 4 s
    else if mode ≠ 4 ∧ !s.pdOn 4 ∧ s.pdOn 8 ∧ s.sys.released then { s with sys := { s.sys with onSeq := [4] } } else s
  let s := kilnDrive (if s.pdReady 7 then enforceAll s else s)
  raise 0 (blankGrant (showBridges s))

/-- Every pair is CHECKED, UNCHECKED or SPLIT (R501). -/
def pairsSettled (s : State) : Bool := [0, 1].all (fun p => !([2, 6].contains (s.get F.SPX_STAT.STATE p)))

/-- MODE_TRANSITION_COMPLETE (R45, R501): to DRIVE, CHARGE or LIMP only once every pair is settled. -/
def execModeTransitionComplete (s : State) : Res :=
  .next (match s.sys.trans with
    | none => s
    | some t => if [3, 4, 5].contains t.target && !pairsSettled s then s else enterMode t.target t.v2l s)

/-! ### Imposed transitions (R41 to R43, R39) -/

/-- The cause lies in the HV-to-12 V converter, or is a link loss or a supply fault (R39). -/
def stopsDcdc (s : State) (r : React) : Bool :=
  let legs := if chUsed s 2 then chLegs s 2 else []
  !s.sys.cfg.safeKeepDcdc || [0x1101, 0x0F01].contains r.code || decide (0x0F10 ≤ r.code ∧ r.code ≤ 0x0F14) ||
    (match r.src with
      | .cnvCh c => c == 2 && decide (0x0C01 ≤ r.code ∧ r.code ≤ 0x0C09)
      | .pset p => legs.any (fun l => s.get F.PWM_LEG_CFG.PSET l == p)
      | .loop w l => s.get F.CNV_CH_SRC.SRC_WHORL 2 == w && (outPorts s w l).contains (s.get F.CNV_CH_SRC.CMD_PORT 2)
      | .whorl w => s.get F.CNV_CH_SRC.SRC_WHORL 2 == w
      | .other => false)

/-- A request in progress is pre-empted, or abandoned, with its reason (R42, R43, R47). -/
def dropRequest (reason : Nat) (s : State) : State :=
  match s.sys.trans with
  | none => s
  | some _ => refuse reason { (s.set F.MODE_STAT.BUSY 0) with sys := { s.sys with trans := none } }

/-- An imposed transition during an online test (R567, R568): a march stops; a logic self-test ends with the pair's reset. -/
def oltAbort (s : State) : State :=
  match s.olt.test with
  | some (1, p) => raise 234 ((({ s with olt := { s.olt with test := none } }).set F.DBG_OLT_REQ.BUSY 0).set F.DBG_OLT_REQ.RESULT 2 |>.set F.SPX_STAT.STATE 4 p)
  | some (2, _) | some (3, _) => raise 234 ((({ s with olt := { s.olt with test := none } }).set F.DBG_OLT_REQ.BUSY 0).set F.DBG_OLT_REQ.RESULT 2)
  | _ => s

/-- The highest of several reactions; of equals the first. -/
def topReact (rs : List React) : Option React :=
  rs.foldl (fun t r => match t with
    | none => some r
    | some x => if x.cls < r.cls then some r else t) none

/-- SAFE is imposed by class 3 to 5 reactions (R41, R39, R260, R367, R422). -/
def imposeSafe (top : React) (rs : List React) (s : State) : State :=
  let safe := rs.filter (fun r => decide (3 ≤ r.cls))
  let was := s.mode
  let s := { s with sys := { s.sys with
    safeCls := max s.sys.safeCls top.cls, safeCauses := s.sys.safeCauses ++ safe
    dcdcHeld := s.sys.dcdcHeld || safe.any (stopsDcdc s) } }
  let s := oltAbort (dropRequest 2 s)
  let s := if was = 6 then s else enterMode 6 false s
  let s := safeReaction top.code top.cls s
  let s := if s.pdReady 5 then cnvImposed 6 top.code top.cls s else s
  kilnDrive (showBridges (if s.pdReady 7 then enforceAll s else s))

/-- A class 2 reaction (R43). -/
def imposeLimp (rs : List React) (s : State) : State :=
  let two := rs.filter (fun r => r.cls == 2)
  let note (s : State) : State := { s with sys := { s.sys with causes := s.sys.causes ++ two } }
  match s.mode with
  | 3 | 4 =>
    let s := enterMode 5 false (debugRevoke 1 1 (dropRequest 2 (note s)))
    let s := if s.pdReady 5 then cnvImposed 5 ((two.head?.map (·.code)).getD 0) 2 s else s
    if s.pdReady 7 then enforceAll s else s
  | 1 | 2 | 7 =>
    let s := (note s).set F.MODE_STAT.LIMP_LATCH 1
    match s.sys.trans with
    | some t => if s.mode == 2 && (t.target == 3 || t.target == 4) then dropRequest 5 s else s
    | none => s
  | 5 => note s
  | _ => s

/-- The mode machine hears a reaction: from the table lock on, one of class 1 or 2 as soon as PD8 runs, none once DORMANT entry is
accepted (R43, R44, R72). -/
def imposes (s : State) (cls : Nat) : Bool :=
  match s.sys.phase with
  | .run => true
  | .loading => s.kln.locked || decide (cls ≤ 2)
  | _ => false

/-- IMPOSED_TRANSITION (R41 to R43): the reactions that wait act together; the highest class decides. -/
def execImposedTransition (s : State) : Res :=
  .next (
    let rs := s.sys.reacts.filter (fun r => imposes s r.cls)
    let s := { s with sys := { s.sys with reacts := [] } }
    match topReact rs with
    | none => s
    | some top =>
      let s := { s with sup := { s.sup with derated := s.sup.derated || decide (1 ≤ top.cls) } }
      if top.cls ≥ 3 then imposeSafe top rs s
      else if top.cls = 2 then imposeLimp rs s
      else s)

/-! ### The die-to-die link (R23 to R29) -/

/-- The control die declares link loss (R24, R26): SAFE with the class of the table it loaded; the fault-map action on every running
traction set, the converters and the actuators stop; before release the start fails (R63). -/
def linkLossControl (s : State) : State :=
  if s.sys.linkLost || !s.pdOn 8 then s
  else
    let s := { s with sys := { s.sys with linkUp := false, linkLost := true, linkCrcRun := 0 } }
    let s := raise 7 ((s.set F.D2D_STAT.LOST 1).set F.D2D_STAT.LINK_UP 0)
    if starting s then startFail 0x1101 s
    else
      let cls := (entryOf s.sys.kilnTable 0).1
      let s := { (issue 0x1101 cls s) with sys := { (issue 0x1101 cls s).sys with dcdcHeld := true } }
      let s := safeReaction 0x1101 3 s
      let s := [0, 1, 2].foldl (fun s c => if chUsed s c && chActive s c then chStop c 0 2 (cnvAsh c 0x1101 cls (s.set F.CNV_CH_STAT.STOP_CAUSE 2 c)) else s) s
      let s := if s.pdReady 10 then (List.range 12).foldl (fun s b => bridgeModeWrite b 0 s) s else s
      kilnDrive s

/-- The Kiln declares link loss (R24, R26, R28): its LINK_LOSS entry, or before the lock STO with all gate lines low and the brake. -/
def linkLossKiln (s : State) : State :=
  let s := { s with sys := { s.sys with linkUp := false }, kln := { s.kln with crcRun := 0 } }
  if kilnRuns s then kilnDrive (kilnCond 0 true s)
  else if s.kln.kstate = 1 && !s.kln.present.testBit 0 then
    kilnLatch 0 5 15 true (kilnRecord 0x0F01 (s.setKln { s.kln with present := putBit s.kln.present 0 true }))
  else s

/-- LINK_TOKEN_TIMEOUT (R24): no valid token for 2 µs on a link that was up. -/
def execLinkTokenTimeout (die : Die) (s : State) : Res :=
  .next (match die with
    | .control => if s.sys.linkUp || s.kln.present.testBit 0 then linkLossControl s else s
    | .power => if s.sys.linkUp || s.sys.linkLost then linkLossKiln s else s)

/-- A good frame reaches the control die: tokens run; the requests held there are sent again. -/
def linkFrameControl (f : LinkFrame) (s : State) : State :=
  let s := if f.late then s.set F.D2D_STAT.TOKEN_LATE (min (s.get F.D2D_STAT.TOKEN_LATE + 1) 255) else s
  let s := { s with sys := { s.sys with linkCrcRun := 0, linkLost := false } }
  if s.sys.linkUp || !s.pdOn 10 then s
  else
    let s := { s with sys := { s.sys with linkUp := true } }
    let s := (s.set F.D2D_STAT.LINK_UP 1).set F.D2D_STAT.LAT_TRIM f.trim
    let p := kreqPair s
    if s.pdReady (2 + p) then kreqArrive (s.rd (F.SPX_KREQ.GEN_REL.addr p 0 0)) s else kilnDrive s

/-- LINK_FRAME_RECEIVE (R23, R25): a frame that fails its CRC is discarded; three in a row in one direction are a link loss. -/
def execLinkFrameReceive (f : LinkFrame) (s : State) : Res :=
  .next (match f.die with
    | .control =>
      if !s.pdOn 8 then s
      else if f.crcOk then linkFrameControl f s
      else
        let s := s.bump F.D2D_STAT.CRC_ERR F.D2D_STAT.CRC_SAT
        if s.sys.linkCrcRun + 1 ≥ 3 then (if s.sys.linkUp then linkLossControl s else s)
        else { s with sys := { s.sys with linkCrcRun := s.sys.linkCrcRun + 1 } }
    | .power =>
      if f.crcOk then s.setKln { s.kln with crcRun := 0, present := putBit s.kln.present 0 false }
      else if s.kln.crcRun + 1 ≥ 3 then (if s.sys.linkUp then linkLossKiln s else s)
      else s.setKln { s.kln with crcRun := s.kln.crcRun + 1 })

end Sys2Proof.Machine
end

