-- ==== Sys2Proof/Machine/Start.lean ====
section
/-! DEFINITION. The start sequence (R56, R63, R64, R590), supply monitoring (R65 to R68), and DORMANT (R51, R71, R72). -/

namespace Sys2Proof.Machine
open Sys2Proof

/-! ### Power arrives and fails -/

/-- VBAT_RISE (R56): a cold start begins; PD0 and the Kiln leave reset. -/
def execVbatRise (s : State) : Res :=
  .next (match s.sys.phase with
    | .noPower =>
      let s := { s with sys := { s.sys with pd0 := true }, kln := { s.kln with kstate := 1, por := true, faultN := false } }
      startBegin 0 s
    | _ => s)

/-- VBAT_COLLAPSE (R68): everything is lost but the MRAM and the fuses; what the queue holds is no state of the part. -/
def execVbatCollapse (s : State) : Res :=
  .next { State.reset with
    mem := s.mem.filter (fun e => inMram e.1)
    fab := { poison := s.fab.poison.filter inMram }
    tnd := { fuse := s.tnd.fuse, priv := s.tnd.priv }
    pending := s.pending }

/-! ### The sequence (R56) -/

/-- SUPPLY_GOOD: the supply-good filter is complete and the PLLs start. -/
def execSupplyGood (s : State) : Res :=
  .next (match s.sys.phase with
    | .supplies => { s with sys := { s.sys with phase := .pllStart } }
    | _ => s)

/-- SUPPLY_TIMEOUT (R63). -/
def execSupplyTimeout (s : State) : Res :=
  .next (match s.sys.phase with
    | .supplies => startFail 0x0F15 s
    | _ => s)

/-- REFERENCE_CLOCK_FAIL (R63). -/
def execReferenceClockFail (s : State) : Res :=
  .next (match s.sys.phase with
    | .pllStart => startFail 0x1110 s
    | _ => s)

/-- PLL_LOCK_TIMEOUT (R63). -/
def execPllLockTimeout (s : State) : Res :=
  .next (match s.sys.phase with
    | .pllStart => startFail 0x1111 s
    | _ => s)

/-- The mirror of the fuses in TND_INFO and TND_ID. -/
def tndShow (s : State) : State :=
  let f := s.tnd.fuse
  let s := (s.set F.TND_INFO.LC (lifecycle s)).setB F.TND_INFO.PW_LOCKED (s.tnd.priv.lockUntil != 0)
  let s := (s.set F.TND_INFO.PW_FAILS s.tnd.priv.pwFails).set F.TND_INFO.SLOT_REVOKED f.revoked
  let s := s.set F.TND_INFO.SLOT_ROLE ([0, 1, 2, 3].foldl (fun n k => n + SMap.get 0 f.role k * 4 ^ k) 0)
  let s := s.setB F.TND_INFO.SKEIN_KEY_OK (f.skeinKey != 0 && f.skeinKey != 2 ^ 256 - 1)
  let s := (s.setB F.TND_INFO.JTAG_OFF_FIELD f.jtagOff).set F.TND_INFO.SEC_CTR f.secCtr
  [0, 1, 2, 3].foldl (fun s i => s.set F.TND_ID.ID (f.deviceId / 2 ^ (32 * i) % 2 ^ 32) i) s

/-- A Tinder fault code, class REPORT: EV_TND_FAULT (54). -/
def tndFault (code : Nat) (s : State) : State := raise 54 (issue code 0 s)

/-- What entering RETURNED destroys (R492): the Skein key reads all ones, the private MRAM is erased but for the lockout record. -/
def zeroise (s : State) : State :=
  { s with tnd := { s.tnd with
    fuse := { s.tnd.fuse with skeinKey := 2 ^ 256 - 1 }
    priv := { pwFails := s.tnd.priv.pwFails, lockUntil := s.tnd.priv.lockUntil } } }

/-- Tinder reads the fuses (R485, R491 to R493): third copies are blown, a part in RETURNED is zeroised again; an uncorrectable word
or RETIRED stops the start. -/
def tinderBoot (fuseOk : Bool) (s : State) : State :=
  if !fuseOk then startFail 0x0206 s
  else
    let torn := s.tnd.fuse.lc.any (fun n => n == 1 || n == 2)
    let s := { s with tnd := { s.tnd with fuse := { s.tnd.fuse with lc := s.tnd.fuse.lc.map (fun n => if n = 2 then 3 else n) } } }
    let s := if torn then tndFault 0x0207 s else s
    if lifecycle s = 4 then startFail 0x0210 s
    else if lifecycle s = 3 && s.tnd.fuse.skeinKey != 2 ^ 256 - 1 then zeroise s
    else s

/-- PLL_LOCK (R56, R485, R531): TSTAMP starts at 0 and takes its epoch; PD8 is switched on, PD1 and PD9 follow; Tinder reads the
fuses. -/
def execPllLock (fuseOk : Bool) (s : State) : Res :=
  .next (match s.sys.phase with
    | .pllStart =>
      let s := domainOn 8 { s with sys := { s.sys with phase := .loading, onSeq := [1, 9] } }
      let s := { s with fab := { s.fab with tsRun := true, ts := 0 } }
      let s := s.set F.CLK_TS_EPOCH.EPOCH_SEC (s.get F.EMB_RTC_SEC.SEC)
      let s := s.set F.CLK_EPOCH_SUB.EPOCH_SUB (s.get F.EMB_RTC_SUB.SUB)
      let s := (s.set F.CLK_STAT.LOCK 15).set F.CLK_STAT.XIN_OK 1
      let s := ((s.setB F.SUP_STAT.KILN_POR s.kln.por).set F.SUP_STAT.FLT s.sys.supFlt).set F.SUP_STAT.WARN s.sys.supWarn
      tinderBoot fuseOk s
    | _ => s)

/-- DOMAIN_POWER_ON (R50, R52): the next domain of the sequence. -/
def execDomainPowerOn (s : State) : Res :=
  .next (match s.sys.onSeq with
    | [] => s
    | d :: rest => if s.pdOn 8 then domainOn d { s with sys := { s.sys with onSeq := rest } } else s)

/-- MEMORY_FILL_DONE (R53, R54, R56, R63): FILLED is set; PD8's fill lets the other domains follow; PD4 and PD5 outside START wait
for their reload; a failed read-back check before release fails the start. -/
def execMemoryFillDone (d : Fin 11) (ok : Bool) (s : State) : Res :=
  let n := d.val
  .next (if !s.pdOn n || s.pdFilled n then s
    else if !ok then (if starting s then startFail 0x1210 s else s)
    else if (n = 4 ∨ n = 5) ∧ s.sys.released then s
    else
      let s := s.setBit F.PD_STAT.FILLED n true
      let s := if n = 8 ∧ starting s then { s with sys := { s.sys with onSeq := s.sys.onSeq ++ [10, 2, 3, 4, 5, 6, 7] } } else s
      if n = 1 then tndShow s else s)

/-- WHORL_RELOAD_DONE (R54, R49): each Whorl of the domain has its verified copy again; FILLED is set. -/
def execWhorlReloadDone (high : Bool) (s : State) : Res :=
  let d := if high then 5 else 4
  let ws := if high then [4, 5, 6, 7] else [0, 1, 2, 3]
  .next (if !s.pdOn d || s.pdFilled d || !s.sys.released then s
    else
      let s := ws.foldl (fun s w =>
        place (whlBase w) (verified s 5 w) s) s
      s.setBit F.PD_STAT.FILLED d true)

/-- LINK_UP_TIMEOUT (R63). -/
def execLinkUpTimeout (s : State) : Res :=
  .next (if starting s && s.pdOn 10 && !s.sys.linkUp then startFail 0x1101 s else s)

/-- CORE_RELEASE may happen: everything verified, configured and written, the table locked, every domain filled, the link up. -/
def releasable (s : State) : Bool :=
  starting s && s.sys.loader.configDone && s.sys.loader.writeOnceDone && s.sys.loader.tableSent && s.kln.locked && s.sys.linkUp &&
    (List.range 11).all (fun d => s.pdReady d)

/-- The units as release leaves them: pair states, Reel with its stored freshness values, the controllers with their loopback test due. -/
def releaseUnits (s : State) : State :=
  let s := { s with sys := { s.sys with phase := .run, released := true } }
  let s := (s.set F.START_LOG.FAILS 0).setB F.MODE_STAT.STANDBY_OK (!s.sys.cfg.standby.isEmpty)
  let s := s.setB F.MODE_STAT.LIMP_IMAGE s.sys.loader.limp
  let s := [0, 1].foldl (fun s p => s.set F.SPX_STAT.STATE (if s.getB F.SPX_STAT.SPLIT p then 5 else 0) p) s
  let s := s.set F.REEL_CTL.RUN 1
  let s := { s with bus := { s.bus with reel := { s.bus.reel with
    last := (List.range s.sys.cfg.reel.rx.length).foldl (fun m d => SMap.put 0 m d (s.load (freshKey false d) 4)) []
    txF := (List.range s.sys.cfg.reel.tx.length).foldl (fun m d => SMap.put 0 m d (s.load (freshKey true d) 4)) [] } } }
  -- every controller owes its loopback test before its EN takes effect
  let s := [0, 1, 2, 3].foldl (fun s n =>
    s.setCan n { s.can n with enAfter := s.getB F.CAN_CTL.EN n }) s
  s.set F.DBG_OLT_CAN.IN_TEST 15

/-- Probation begins when a START has run a written image (R520). -/
def releaseProbation (s : State) : State :=
  let j := s.tnd.priv.journal
  if j.steps.any (fun e => e.2 == 2 || e.2 == 3) then
    let j := { j with started := true, steps := j.steps.map (fun e => (e.1, if e.2 = 2 then 3 else e.2))
                      deadline := s.get F.EMB_RTC_SEC.SEC + j.probT }
    (({ s with tnd := { s.tnd with priv := { s.tnd.priv with journal := j } } }).set F.UPD_STAT.STATE 4).set F.UPD_STAT.N_STEPS j.nSteps
  else s

/-- CORE_RELEASE (R56, R60 to R62, R64, R92, R477, R520, R564): EV_START_DONE (5); a Kiln fault latched makes START end in SAFE. -/
def execCoreRelease (s : State) : Res :=
  .next (if !releasable s then s
    else
      let s := raise 5 (releaseProbation (releaseUnits s))
      let s := if kilnLatched s then
          enterMode 6 false { s with sys := { s.sys with
            dcdcHeld := !s.sys.cfg.safeKeepDcdc || s.kln.latch % 64 != 0, safeCls := if s.kln.cls5 then 5 else 3 } }
        else s
      kilnDrive (blankGrant s))

/-- START_TIMEOUT (R60): class SAFE_OFF. -/
def execStartTimeout (s : State) : Res :=
  .next (match s.sys.phase with
    | .run => if s.mode = 1 then issue 0x0401 4 s else s
    | _ => s)

/-- The Kiln stops working: it keeps its latches, its table and the level of FAULT_N (R51). -/
def kilnHold (s : State) : State := kilnDrive (s.setKln { s.kln with kstate := 4, ss1 := false, pulse := 0, present := 0, linkV := 0 })

/-- SUP_EN_HOLD_END (R64): a new start of the same kind; after three failed attempts in a row START_LOCK and DORMANT. -/
def execSupEnHoldEnd (s : State) : Res :=
  .next (match s.sys.phase with
    | .hold =>
      if s.get F.START_LOG.FAILS ≥ 3 then
        kilnHold { (s.set F.START_LOG.START_LOCK 1) with sys := { s.sys with phase := .dormant, supEn := false } }
      else startBegin s.sys.kind s
    | _ => s)

/-! ### Supplies (R65 to R67) -/

/-- A supply is monitored now (R65). -/
def monitored (s : State) (k : Nat) : Bool :=
  match k with
  | 0 => s.kln.kstate != 0 && s.kln.kstate != 4
  | 4 => s.pdReady 10 && vdrvWatched s
  | _ => s.sys.supEn && (match s.sys.phase with | .pllStart | .loading | .run | .dormantEntry | .dieReset => true | _ => false)

/-- SUP_STAT shows the monitors while PD8 is on. -/
def showSupplies (s : State) : State :=
  if s.pdOn 8 then (s.set F.SUP_STAT.WARN s.sys.supWarn).set F.SUP_STAT.FLT s.sys.supFlt else s

/-- SUPPLY_WARNING (R65, R66): EV_SUP_WARN (2), class REPORT; a low VBAT ends a precharge from the 12 V side (R393). -/
def execSupplyWarning (supply : Supply) (above : Bool) (s : State) : Res :=
  let k := supply.val
  .next (if !monitored s k || s.sys.supWarn.testBit k then s
    else
      let s := raise 2 (showSupplies { s with sys := { s.sys with supWarn := putBit s.sys.supWarn k true } })
      if k = 0 && !above && (s.get F.CHG_PRE.PSTATE == 1 || s.get F.CHG_PRE.PSTATE == 2) then chDisable 2 (preFail 3 s) else s)

/-- Kiln entry of a supply's fault (R66). -/
def supplyEntry (k : Nat) (above : Bool) : Option Nat :=
  match k with
  | 0 => some (if above then 2 else 1)
  | 1 => some 3
  | 2 => some 4
  | 3 => some 5
  | _ => none

/-- SUPPLY_FAULT (R65 to R67): EV_SUP_FAULT (3) and the Kiln entry of the supply; a core or I/O fault holds the control die in reset,
which no longer matters to an accepted DORMANT entry (R72). While the Kiln is in hold a VBAT level is only noted (R51). -/
def execSupplyFault (supply : Supply) (above : Bool) (s : State) : Res :=
  let k := supply.val
  let s := if k = 0 then { s with sys := { s.sys with vbat := if above then 2 else 1 } } else s
  .next (if !monitored s k then s
    else
      let s := { s with sys := { s.sys with supFlt := putBit s.sys.supFlt k true } }
      let s := raise 3 ((showSupplies s).setBit F.SUP_STAT.FLT_SEEN k true)
      let s := match supplyEntry k above with
        | some e => kilnCond e true s
        | none => s
      if k = 1 ∨ k = 3 then
        let s := allOff s
        if s.sys.phase = .dormantEntry then { s with sys := { s.sys with offSeq := [] } }
        else { s with sys := { s.sys with phase := .dieReset, trans := none, reacts := [], onSeq := [], released := false, loader := {} } }
      else s)

/-- SUPPLY_RECOVERY (R65): a warning or a fault clears; the condition of its entry is gone. -/
def execSupplyRecovery (supply : Supply) (fault : Bool) (s : State) : Res :=
  let k := supply.val
  let s := if fault && k == 0 then { s with sys := { s.sys with vbat := 0 } } else s
  let s := if fault then { s with sys := { s.sys with supFlt := putBit s.sys.supFlt k false } }
    else { s with sys := { s.sys with supWarn := putBit s.sys.supWarn k false } }
  let s := showSupplies s
  .next (if !fault then s
    else match k with
      | 0 => kilnCond 2 false (kilnCond 1 false s)
      | 1 => kilnCond 3 false s
      | 2 => kilnCond 4 false s
      | 3 => kilnCond 5 false s
      | _ => s)

/-- CONTROL_DIE_RELEASE (R67): VDD_CORE and VDD_IO have been good for 1 ms; a restart from the supply-good step. -/
def execControlDieRelease (s : State) : Res :=
  .next (match s.sys.phase with
    | .dieReset => if s.sys.supFlt.testBit 1 || s.sys.supFlt.testBit 3 then s else startBegin 2 s
    | _ => s)

/-! ### DORMANT (R51, R71, R72) -/

/-- DORMANT_DOMAIN_OFF (R71): the next domain. -/
def execDormantDomainOff (s : State) : Res :=
  .next (match s.sys.phase, s.sys.offSeq with
    | .dormantEntry, d :: rest => kilnDrive (domainOff d { s with sys := { s.sys with offSeq := rest } })
    | _, _ => s)

/-- DORMANT_ENTRY_COMPLETE (R71, R51): SUP_EN low, the Kiln in hold. -/
def execDormantEntryComplete (s : State) : Res :=
  .next (match s.sys.phase, s.sys.offSeq with
    | .dormantEntry, [] => kilnHold { s with sys := { s.sys with phase := .dormant, supEn := false, released := false, trans := none, reacts := [] } }
    | _, _ => s)

/-- LATCHED_WAKE_START (R72): the wake latched during entry begins a wake start. -/
def execLatchedWakeStart (s : State) : Res :=
  .next (match s.sys.phase with
    | .dormant => if s.emb.latched then startBegin 1 { s with emb := { s.emb with latched := false } } else s
    | _ => s)

/-- KILN_HOLD_EXIT (R51): after SUP_EN has risen; conditions present now count as arisen. -/
def execKilnHoldExit (s : State) : Res :=
  .next (if s.kln.kstate != 4 || !s.sys.supEn then s
    else
      let s := s.setKln { s.kln with kstate := if !s.kln.locked then 1 else if kilnLatched s then 3 else 2 }
      let s := kilnDrive s
      let s := if s.sys.vbat = 1 then kilnCond 1 true s else s
      let s := if s.sys.vbat = 2 then kilnCond 2 true s else s
      { s with sys := { s.sys with supFlt := putBit s.sys.supFlt 0 (s.sys.vbat != 0) } })

end Sys2Proof.Machine
end

