-- ==== Sys2Proof/Machine/SkeinCheck.lean ====
section
/-! DEFINITION. What the Skein loader checks before it applies a configuration (R84, R86 and the refusals the chapters state): each
check reads the registers as the configuration would leave them. -/

namespace Sys2Proof.Machine
open Sys2Proof

/-! ### Register writes of a configuration (R5, R82, R85) -/

/-- Bits of the fields of a register that satisfy `p`. -/
def fieldMask (fs : List FieldDesc) (p : FieldDesc → Bool) : Nat :=
  fs.foldl (fun n f => if p f then n ||| ((2 ^ (f.hi + 1 - f.lo) - 1) * 2 ^ f.lo) else n) 0

/-- `new` on the bits of a mask, `old` elsewhere. -/
def mixWord (mask : Nat) (old new : Word) : Word := (new &&& BitVec.ofNat 32 mask) ||| (old &&& ~~~(BitVec.ofNat 32 mask))

/-- The WL fields of the register at `a` have had their first write. -/
def wlClosed (s : State) (a : Nat) : Bool := s.sys.wlDone.contains a

/-- A write sets the RW fields of a register and, the first time, its WL fields (R6). -/
def plainWrite (a : Nat) (v : Word) (s : State) : State :=
  match groupAt a with
  | none => s
  | some g =>
    let wl := g.fields.any (fun f => f.acc == .wl)
    let take (f : FieldDesc) : Bool := f.acc == .rw || (f.acc == .wl && !wlClosed s a)
    let s' := s.wr a (mixWord (fieldMask g.fields take) (s.rd a) v)
    if wl && !wlClosed s a then { s' with sys := { s'.sys with wlDone := a :: s'.sys.wlDone } } else s'

/-- Base addresses of a subsystem's register blocks, in the order of their addresses (R34, R82). -/
def subsysBlocks (n : Nat) : List Nat :=
  match n with
  | 1 => [0x30160000] | 2 => [0x30050000, 0x30070000] | 3 => [0x30060000] | 4 => [0x30080000] | 5 => [0x30090000]
  | 6 => [0x300A0000] | 7 => [0x300B0000] | 8 => [0x300C0000] | 9 => [0x300D0000] | 10 => [0x300E0000] | 11 => [0x300F0000]
  | 12 => [0x30100000] | 13 => [0x30110000] | 14 => [0x30120000] | 15 => [0x30130000] | 16 => [0x30140000]
  | 17 => [0x30010000, 0x30020000] | 18 => [0x30040000] | 19 => [0x30030000, 0x30170000] | 20 => [0x30150000]
  | _ => []

/-- Address that a record's offset names: the subsystem's second block follows its first. -/
def recAddr (n off : Nat) : Option Nat := (subsysBlocks n)[off / 0x10000]?.map (· + off % 0x10000)

/-- Addresses that no record may target (R84). -/
def recForbidden (a : Nat) : Bool :=
  let b := a / 0x10000 * 0x10000
  [0x30130000, 0x30050000, 0x30070000, 0x30150000].contains b ||
    [F.EMB_RTC_SEC.SEC.base, F.EMB_RTC_SUB.SUB.base, F.EMB_RTC_ALARM.ALARM.base, F.START_LOG.KIND.base].contains a

/-- A memory block may lie there. -/
def recMemOk (a n : Nat) : Bool :=
  let ends (lo hi : Nat) : Bool := decide (lo ≤ a ∧ a + n ≤ hi)
  ends 0x10000000 0x11000000 || ends 0x20000000 0x20800000 || ends 0x40000000 0x40040000 || ends 0x50000000 0x50100000

/-- The record checks of R84. -/
def recordOk : ConfigRec → Bool
  | .regs n ws => ws.all (fun w => match recAddr n w.1 with
    | some a => !recForbidden a
    | none => false)
  | .mem n a data => decide (n ≤ 20) && recMemOk a data.length

/-- Entries of the dictionary from the bytes of its window: eight bytes each. -/
def dictBytes (first : Nat) : List Byte → SMap (BitVec 64) → SMap (BitVec 64)
  | b0 :: b1 :: b2 :: b3 :: b4 :: b5 :: b6 :: b7 :: r, m =>
    dictBytes (first + 1) r (SMap.put 0 m first (BitVec.ofNat 64 (fromBytes [b0, b1, b2, b3, b4, b5, b6, b7])))
  | _, m => m

/-- Apply one record. The band a selector stands in, and a loop's WCET, are the loader's to write (R5). -/
def applyRecord (r : ConfigRec) (s : State) : State :=
  match r with
  | .regs n ws => ws.foldl (fun s w => match recAddr n w.1 with
      | some a =>
        let s' := plainWrite a w.2 s
        if (List.range 4).any (fun b => F.THM_BAND_CFG.BAND.addr b 0 0 == a) then
          s'.wr a (setBits (s'.rd a) F.THM_BAND_CFG.BAND.hi F.THM_BAND_CFG.BAND.lo (getBits w.2 F.THM_BAND_CFG.BAND.hi F.THM_BAND_CFG.BAND.lo))
        else s'
      | none => s) s
  | .mem _ a data =>
    if inDict a then { s with fab := { s.fab with dict := dictBytes ((a - 0x50000000) / 8) data s.fab.dict } } else place a data s

/-- Subsystem of a record. -/
def recSubsys : ConfigRec → Nat
  | .regs n _ => n
  | .mem n _ _ => n

/-- A record names the register at `a`. -/
def namesReg (rs : List ConfigRec) (a : Nat) : Bool :=
  rs.any (fun r => match r with
    | .regs n ws => ws.any (fun w => recAddr n w.1 == some a)
    | .mem _ _ _ => false)

/-- Stated defaults of fields that no record names (R5, R160, R255, R387, R413, R528): written before the records. -/
def writeDefaults (s : State) : State :=
  let s := (List.range 48).foldl (fun s n => s.set F.AFE_CH_CFG.FAIL_CLASS 2 n) s
  let s := (List.range 16).foldl (fun s p => s.set F.GIF_PSET_CFG.FM_CLASS 2 p) s
  let s := [0, 1].foldl (fun s p => s.set F.SPX_CFG.MISMATCH_CLASS 3 p) s
  let s := s.set F.CLK_CFG.CLK_CLASS 3
  [(0, -30, 0, 0, 0), (1, 0, 64, 145, 95), (2, 40, 128, 120, 75), (3, 55, 64, 100, 60), (4, (0 : Int), 0, 0, 0)].foldl
    (fun s (z, t, f, va, vf) =>
      (((s.setI F.CHG_ZONE.T_HI t z).set F.CHG_ZONE.FACTOR f z).set F.CHG_ZONE.V_ABS va z).set F.CHG_ZONE.V_FLOAT vf z) s

/-- The declarations of Whorl w with their loop numbers: the k-th declaration of a Whorl is its loop k. -/
def declsOf (c : SysRecord) (w : Nat) : List (Nat × LoopDecl) :=
  let ds := c.loops.filter (fun d => d.whorl == w)
  (List.range ds.length).zip ds

/-- What the loader writes from the system record and the header: roles (R19), WCET (R223), BENCH, update parameters (R505, R516 to
R518). -/
def writeSystem (c : SysRecord) (bench : Bool) (s : State) : State :=
  let s := (List.range 8).foldl (fun s w =>
    let s := s.set F.WHL_CTL.ROLE (if c.standby.contains w then 1 else if (declsOf c w).isEmpty then 3 else 0) w
    (declsOf c w).foldl (fun s (l, d) => s.set F.WHL_LOOP_CODE.WCET d.wcet w l) s) s
  let s := s.setB F.MODE_STAT.BENCH bench
  let s := (s.set F.UPD_CFG.UPD_I_MAX c.upd.iMax).set F.UPD_CFG.UPD_TOL c.upd.tol
  let s := (s.set F.UPD_SPX.HO_TAG c.upd.hoTag).set F.UPD_STAGE.UPD_STAGE_BASE (c.upd.stageBase / 0x100000)
  s.set F.UPD_STAGE.UPD_STAGE_SIZE (c.upd.stageSize / 4096)

/-- The configuration applied: defaults, the system record, the records in ascending subsystem and file order, Ember's program (R85,
R104). A SPEED_HYS that no record names is half of SPEED_MIN (R285). -/
def applyConfig (x : ConfigIn) (bench : Bool) (s : State) : State :=
  let s := writeSystem x.sys bench (writeDefaults s)
  let s := (List.range 21).foldl (fun s n => (x.records.filter (fun r => recSubsys r == n)).foldl (fun s r => applyRecord r s) s) s
  let s := [0, 1].foldl (fun s m =>
    if namesReg x.records (F.FLY_MACH_SHYS.SPEED_HYS.addr m 0 0) then s
    else s.set F.FLY_MACH_SHYS.SPEED_HYS (s.get F.FLY_MACH_SMIN.SPEED_MIN m / 2) m) s
  let s := refreshArmed s
  let s := if s.emb.inPass then { s with emb := { s.emb with progNext := some s.sys.loader.program } }
    else installProgram s.sys.loader.program s
  { s with sys := { s.sys with cfg := x.sys } }

/-! ### The checks -/

/-- Σ budget / period of a Whorl's loops as a fraction. -/
def loadOf (ds : List LoopDecl) : Nat × Nat :=
  ds.foldl (fun (n, m) d => (n * d.period + d.budget * m, m * d.period)) (0, 1)

/-- The loop declarations (R12, R37, R49, R172). -/
def declsOk (c : SysRecord) (bench limp : Bool) : Bool :=
  c.loops.all (fun d => decide (d.startOffset + d.budget ≤ d.outPhase ∨ !d.timed) && decide (d.wcet ≤ d.budget) && decide (0 < d.period) &&
    decide (d.whorl < 8)) &&
  (List.range 8).all (fun w =>
    let (n, m) := loadOf (c.loops.filter (fun d => d.whorl == w))
    decide (10 * n ≤ 8 * m) && decide ((declsOf c w).length ≤ 8)) &&
  (bench || limp || !c.standby.isEmpty) && c.standby.all (fun w => !(c.loops.any (fun d => d.whorl == w))) &&
  !(c.chgPd4Off && (c.standby.any (· < 4) || c.loops.any (fun d => d.usedInCharge && decide (d.whorl < 4))))

/-- Split pairs (R16, R420). -/
def splitOk (c : SysRecord) (wo : WriteOnce) : Bool :=
  match wo.split with
  | none => true
  | some b => [0, 1].all (fun p => !b.getLsbD p ||
      (!(c.tasks.any (fun t => t.pair == p && t.needsChecked)) && p != c.modePair.val &&
        p != (tblByte (wo.kilnTable.getD []) 6) % 2))

/-- Parameter ranges of the Kiln table (R428, R431). -/
def tableRangesOk (t : List Byte) : Bool :=
  let b (i lo hi : Nat) : Bool := decide (lo ≤ tblByte t i ∧ tblByte t i ≤ hi)
  let h (i lo hi : Nat) : Bool := decide (lo ≤ tbl16 t i ∧ tbl16 t i ≤ hi)
  b 6 0 1 && h 0xC8 50 900 && b 0xCA 1 3 && b 0xCB 1 8 && h 0xCC 100 5000 && b 0xCE 0 64 && b 0xCF 0 64 && b 0xF8 1 16 &&
    [0, 1].all (fun m => (decide (machPin t m ≤ 5) || machPin t m == 255) && b (0x105 + 8 * m) 1 100) &&
    b 0x114 1 15 && h 0x116 100 60000 && h 0x118 1 200 && h 0x11A 1 200 && h 0x11C 50 500 && h 0x11E 1 3600 && h 0x120 1 1000 &&
    h 0x124 1 4095

/-- The Kiln table of WRITE_ONCE as the loader checks it (R431): its explicit entries and its parameters. -/
def loaderTableOk (t : List Byte) : Bool := (List.range 27).all (entryOk t) && tableRangesOk t

/-- Sources of input ports: AFE items, snapshot items, links, each as 64·Whorl + port (R151, R166). -/
def portSources (s : State) : List Nat :=
  (List.range 48).flatMap (fun n => if s.getB F.AFE_CH_CFG.EN n then (mappedPorts s n).map (64 * s.get F.AFE_CH_CFG.WHORL n + ·) else []) ++
  (List.range 32).filterMap (fun k =>
    if s.getB F.FLY_SNAP_MAP.EN k then some (64 * s.get F.FLY_SNAP_MAP.WHORL k + s.get F.FLY_SNAP_MAP.PORT k) else none) ++
  (List.range 8).flatMap (fun v => (List.range 8).filterMap (fun k =>
    if s.getB F.WHL_LINK.EN v k then some (64 * v + s.get F.WHL_LINK.DST_PORT v k) else none))

/-- No element twice. -/
def allDiff : List Nat → Bool
  | [] => true
  | a :: r => !r.contains a && allDiff r

/-- The generator whose valley a carrier follows (R226). -/
def carrierRoot (s : State) (g : Nat) : Nat := (masterOf s g).getD g

/-- Whorls (R166, R169, R171, R184). -/
def whorlsOk (c : SysRecord) (s : State) : Bool :=
  allDiff (portSources s) &&
  (List.range 8).all (fun w =>
    let ds := declsOf c w
    let trig (l : Nat) : Nat × Nat := (s.get F.WHL_LOOP_CFG.TRIG_CH w l, s.get F.WHL_LOOP_CFG.TRIG_WIN w l)
    let roots := (ds.filter (fun e => e.2.timed)).map (fun e => carrierRoot s (s.get F.AFE_WIN_CTL.CARRIER (trig e.1).1 (trig e.1).2))
    allDiff (ds.flatMap (fun e => outPorts s w e.1)) &&
    ds.all (fun (l, d) => !d.timed || (s.get F.AFE_WIN_CTL.MODE (trig l).1 (trig l).2 != 3 && decide (d.outPhase < d.period))) &&
    roots.all (fun r => some r == roots.head?) &&
    (List.range 16).all (fun t => !s.getB F.WHL_TBL_CFG.EN w t ||
      decide (s.get F.WHL_TBL_CFG.BASE w t + 2 * 2 ^ (s.get F.WHL_TBL_CFG.LOG2N w t) ≤ 114688)))

/-- The PWM array and the gate interface (R226, R229, R241, R251). -/
def pwmOk (bench : Bool) (s : State) : Bool :=
  (List.range 12).all (fun g => s.get F.PWM_CG_CTL.MASTER g != g &&
    (match masterOf s g with
      | some m => (masterOf s m).isNone
      | none => true)) &&
  allDiff ((List.range 32).filterMap (bridgeOf s)) &&
  (bench || (List.range 32).all (fun l => !s.getB F.PWM_LEG_CFG.EN l || decide (3 ≤ s.get F.PWM_LEG_CFG.STAGE l) ||
    (s.getB F.GIF_SW_CFG.FB_EN (2 * l) && s.getB F.GIF_SW_CFG.FB_EN (2 * l + 1)))) &&
  (List.range 48).all (fun c => !s.getB F.GIF_COMP_CFG.HARD_EN c ||
    (decide ((s.getI F.GIF_COMP_THR.THR_HI c).natAbs ≤ 255) && decide ((s.getI F.GIF_COMP_THR.THR_LO c).natAbs ≤ 255)))

/-- Length of a serial frame in 2.5 ns (R272, R273): the position bits, with BiSS-C's ACK, start, CDS, nE, nW and CRC. -/
def serialFrame (s : State) (k : Nat) : Nat :=
  let bits := s.get F.FLY_SER_CFG.BITS k + (if s.getB F.FLY_SER_CFG.PROTO k then 11 else 0)
  bits * 2 * (max 19 (s.get F.FLY_SER_CFG.CLK_DIV k) + 1)

/-- The Flyer (R272, R273, R281). -/
def flyerOk (s : State) : Bool :=
  [0, 1].all (fun k => !s.getB F.FLY_SER_CFG.EN k ||
    decide (serialFrame s k + 400 * s.get F.FLY_SER_TIME.TMO k ≤ 40 * s.get F.FLY_SER_TIME.POLL k)) &&
  [0, 1].all (fun m => !s.getB F.FLY_EMF_CFG.EN m ||
    (let g (f : Fld) : Nat := s.get F.AFE_WIN_CTL.CARRIER (s.get f m) 0
     g F.FLY_EMF_CFG.VCH1 == g F.FLY_EMF_CFG.VCH0 && g F.FLY_EMF_CFG.ICH0 == g F.FLY_EMF_CFG.VCH0 &&
       g F.FLY_EMF_CFG.ICH1 == g F.FLY_EMF_CFG.VCH0))

/-- Shunt amplifiers (R341). -/
def shuntOk (s : State) : Bool :=
  (List.range 4).all (fun k =>
    let inEn (i : Nat) : Bool := s.bit F.HK_CTL.IN_EN (i % 16) (i / 16)
    !(s.getB F.ACT_SHUNT_CFG.EN k && (inEn (56 + 2 * k) || inEn (57 + 2 * k))) &&
      (s.getB F.ACT_SHUNT_CFG.EN k || !s.getB F.AFE_CH_CFG.ACT_MODE (44 + k)))

/-- The converter channels (R346, R352, R355, R360, R362). -/
def convertersOk (s : State) : Bool :=
  [0, 1, 2].all (fun c =>
    let kind := s.get F.CNV_CH_CFG.KIND c
    let legs := chLegs s c
    let nl := s.getB F.CNV_CH_NL.UNDER_EN c || s.getB F.CNV_CH_NL.OVER_EN c
    kind == 3 ||
      (legs.all (fun l => decide (s.get F.PWM_LEG_CFG.CG l < 12) && s.get F.PWM_CG_CTL.MODE (s.get F.PWM_LEG_CFG.CG l) == 0) &&
       (kind != 1 || ((legs.drop 2).all (fun l => s.getB F.PWM_LEG_CFG.ASYM l) && !s.getB F.CNV_CH_CFG.MON_EN c && !s.getB F.CNV_CH_SHDT.SHED_EN c)) &&
       (!nl || decide (2 ≤ s.get F.GIF_COMP_CFG.ACTION (s.get F.CNV_CH_NL.NL_CH c))) &&
       (kind == 2 || !s.getB F.CNV_CH_NL.UNDER_EN c) &&
       (!s.getB F.CNV_CH_SHDT.SHED_EN c ||
         (decide (s.get F.CNV_CH_SHED.SHED_THR1 c < s.get F.CNV_CH_SHED.ADD_THR1 c) &&
          (kind != 2 || decide (s.get F.CNV_CH_SHED.SHED_THR2 c < s.get F.CNV_CH_SHED.ADD_THR2 c))))))

/-- The V2L adapter's band of ±10 % touches no other band (R376). -/
def cableOk (s : State) : Bool :=
  let r := s.get F.CHG_PP_CFG.V2L_RC
  [1500, 680, 220, 100].all (fun n => decide (11 * r < 9 * n ∨ 11 * n < 9 * r)) && decide (11 * r ≤ 45000)

/-- Nominal bit time of a controller in 160 MHz cycles, and quanta of a phase (R456: each field holds its value minus one). -/
def nominalQuanta (s : State) (n : Nat) : Nat := s.get F.CAN_NBT.NTSEG1 n + s.get F.CAN_NBT.NTSEG2 n + 3
def nominalBit (s : State) (n : Nat) : Nat := nominalQuanta s n * (s.get F.CAN_NBT.NBRP n + 1)

/-- The bus (R456, R459, R461, R474). -/
def busOk (c : SysRecord) (s : State) : Bool :=
  let ens := [0, 1, 2, 3].filter (fun n => s.getB F.CAN_CTL.EN n)
  ens.all (fun n =>
    let size := 2 ^ (min 8 (s.get F.CAN_RX_CFG.SIZE_LOG2 n) + 12)
    decide (8 ≤ nominalQuanta s n) && decide (160 ≤ nominalBit s n) &&
    (!s.getB F.CAN_CTL.FD_EN n || decide (20 ≤ (s.get F.CAN_DBT.DTSEG1 n + s.get F.CAN_DBT.DTSEG2 n + 3) * (s.get F.CAN_DBT.DBRP n + 1))) &&
    (!s.getB F.CAN_CTL.XL_EN n || decide (8 ≤ (s.get F.CAN_XBT.DTSEG1 n + s.get F.CAN_XBT.DTSEG2 n + 3) * (s.get F.CAN_XBT.DBRP n + 1))) &&
    (!s.getB F.CAN_CTL.XL_EN n || s.getB F.CAN_CTL.FD_EN n) &&
    (s.get F.CAN_RX_CFG.BASE n * 4096) % size == 0 &&
    decide (2 * s.get F.REEL_CFG.REEL_WCET * ens.length ≤ 47 * 5 * nominalBit s n)) &&
  c.reel.rx.all (fun d => !d.secured || (decide (d.ctrl < 4) && s.getB F.CAN_CTL.FD_EN d.ctrl))

/-- Every refusal the loader knows (R84, R86 and the chapters' own), on the state as the configuration would leave it. -/
def loaderOk (x : ConfigIn) (wo : WriteOnce) (bench limp : Bool) (t : State) : Bool :=
  x.sysHashOk && x.codeOk && x.records.all recordOk && wo.dtFloor.isSome &&
    (match wo.kilnTable with
      | some k => loaderTableOk k
      | none => false) &&
    declsOk x.sys bench limp && splitOk x.sys wo && whorlsOk x.sys t && pwmOk bench t && flyerOk t && shuntOk t && convertersOk t &&
    cableOk t && busOk x.sys t

end Sys2Proof.Machine
end

