-- ==== Sys2Proof/Machine/Skein.lean ====
section
/-! DEFINITION. The Skein loader step by step (chapter 3): flash bring-up, header, descriptors, components, configuration records,
write-once records, the Kiln's table; what a failure does (R91 to R93); memory-mapped flash reads (R98, R99). -/

namespace Sys2Proof.Machine
open Sys2Proof

/-! ### Failures (R91) -/

/-- A failure that leads to R64; in the limp image every failure is 0x0330. -/
def loadFail (code : Nat) (s : State) : State := startFail (if s.sys.loader.limp then 0x0330 else code) s

/-- A failure that leads to the limp image: the main image is abandoned, LIMP_BOOT is set. -/
def limpFall (code : Nat) (s : State) : State :=
  if s.sys.loader.limp then startFail 0x0330 s
  else
    let s := ((s.set F.SKN_STAT.LAST_CODE code).set F.SKN_STAT.LIMP_BOOT 1).set F.SKN_STAT.N_COMP 0
    let s := { s.set F.SIG_CTL.DICT_OK 0 with fab := { s.fab with dict := [] } }
    s.setLoader { flashUp := true, limp := true }

/-- The two codes of field update that lead to the limp image are issued as well, class REPORT (R520, R524). -/
def updateFall (code : Nat) (s : State) : State := limpFall code (issue code 0 s)

/-- Loading goes on: before release, in the loading step. -/
def loading (s : State) : Bool :=
  match s.sys.phase with
  | .loading => true
  | _ => false

/-! ### Flash and header -/

/-- FLASH_INIT (R95, R96, R91): the flash is brought up once PD9 is filled. -/
def execFlashInit (x : FlashInfo) (s : State) : Res :=
  .next (if !loading s || !s.pdReady 9 || s.sys.loader.flashUp then s
    else if !x.readOk then loadFail 0x0302 s
    else if !x.sfdpOk then loadFail 0x0301 s
    else
      let s := (s.set F.SKN_FLASH.DENSITY_LOG2 x.densityLog2.val).set F.SKN_FLASH.DUMMY x.dummy.val
      let s := (s.set F.SKN_FLASH.PROTO 2).set F.SKN_STAT.FLASH_OK 1
      s.setLoader { s.sys.loader with flashUp := true })

/-- Flash size in bytes. -/
def flashSize (s : State) : Nat := 2 ^ s.get F.SKN_FLASH.DENSITY_LOG2

/-- A confirmation interrupted by a power loss is completed (R521, R524): EV_UPD_CONFIRMED (58). -/
def confirmJournal (s : State) : State :=
  let j := s.journal
  let secVersion := j.next
  let s := if j.advance then
      { s with tnd := { s.tnd with fuse := { s.tnd.fuse with secCtr := max s.tnd.fuse.secCtr secVersion } } } else s
  let s := s.setJournal { lastSeq := j.lastSeq, manifest := j.manifest, reason := j.reason }
  raise 58 (s.set F.UPD_STAT.PROB_CNT 0)

/-- An update that a START interrupts is settled from the journal (R520, R524), before the main image is read on. The answer tells
whether the limp image is loaded instead. -/
def settleUpdate (s : State) : Bool × State :=
  let j := s.journal
  if j.op = 1 ∨ j.op = 3 then (true, updateFall 0x0224 s)
  else if j.op = 2 then (false, tndShow (confirmJournal s))
  else if j.steps.any (fun e => e.2 == 2 || e.2 == 3) then
    if j.probCnt ≥ 3 then (true, updateFall 0x0225 s)
    else
      let n := j.probCnt + 1
      (false, (s.setJournal { j with probCnt := n }).set F.UPD_STAT.PROB_CNT n)
  else if j.nSteps != 0 then
    (false, s.setJournal { lastSeq := j.lastSeq, manifest := j.manifest, reason := j.reason })
  else (false, s)

/-- The signature block of a header or descriptor is acceptable (R77, R493): the key of a slot with the SKEIN role, not revoked; in
BLANK no key is needed. -/
def skeinKeyOk (s : State) (h : Header) : Bool :=
  lifecycle s == 0 ||
    (decide (h.keyIndex < 4) && SMap.get 0 s.tnd.fuse.keyHash h.keyIndex == h.keyHash && (SMap.get 0 s.tnd.fuse.role h.keyIndex).testBit 0 &&
      !s.tnd.fuse.revoked.testBit h.keyIndex)

/-- Header checks in their order: the first failure's code (R76, R77, R89, R91). -/
def headerCode (s : State) (h : Header) : Option Nat :=
  let limp := s.sys.loader.limp
  let fieldsOk := h.magic == 0x534B4531 && h.formatRev == 1 && h.reservedZero && decide (1 ≤ h.nDesc ∧ h.nDesc ≤ 32) &&
    decide (h.flags < 4) && (h.flags.testBit 1 == limp) && (h.startTimeout == 0 || decide (10 ≤ h.startTimeout ∧ h.startTimeout ≤ 2000))
  if !fieldsOk then some 0x0303
  else if !(h.sigOk && decide (1 ≤ h.sigAlg ∧ h.sigAlg ≤ 3) && skeinKeyOk s h) then some 0x0304
  else if h.secVersion < (if limp then s.tnd.fuse.limpCtr else s.tnd.fuse.secCtr) then some 0x0305
  else if !((h.deviceBind == 0 || h.deviceBind == s.tnd.fuse.deviceId) && h.lifecycleMask.testBit (lifecycle s)) then some 0x0306
  else none

/-- The header as read, against the checks (R91). -/
def takeHeader (h : Header) (s : State) : State :=
  match headerCode s h with
  | some c => limpFall c s
  | none =>
    if flashSize s < h.flashMin then loadFail 0x0301 s
    else
      let s := { s with sys := { s.sys with startTimeout := if h.startTimeout = 0 then 500 else h.startTimeout } }
      s.setLoader { s.sys.loader with headerOk := true, hdr := some h }

/-- HEADER_VERIFIED (R76, R77, R91, R520, R524). -/
def execHeaderVerified (h : Header) (readOk : Bool) (s : State) : Res :=
  .next (if !loading s || !s.sys.loader.flashUp || s.sys.loader.headerOk || !s.pdReady 1 || !s.pdReady 9 then s
    else if !readOk then loadFail 0x0302 s
    else if s.sys.loader.limp then takeHeader h s
    else
      let (fell, s) := settleUpdate s
      if fell then s else takeHeader h s)

/-! ### Descriptors (R74, R75, R78, R79, R81) -/

/-- Fields of one descriptor; a part in RETURNED decrypts nothing (R492). -/
def descOk (s : State) (h : Header) (d : Descriptor) : Bool :=
  decide (1 ≤ d.type ∧ d.type ≤ 10) &&
    decide (d.inst < (match d.type with | 5 => 8 | 4 => 2 | _ => 1)) &&
    decide (d.flags < 4) && d.flashOffset % 0x10000 == 0 && decide (0x50000 ≤ d.flashOffset) &&
    d.slotLen % 0x10000 == 0 && d.len % 4096 == 0 && decide (d.len ≤ d.slotLen) &&
    (s.sys.loader.limp || decide (d.flashOffset + d.slotLen + 0x200000 ≤ flashSize s)) &&
    decide (h.secVersion ≤ d.secVersion) && decide (d.provides.length ≤ 8 ∧ d.requires.length ≤ 8) && d.reservedZero && d.sigOk &&
    !(lifecycle s == 3 && d.flags.testBit 0)

/-- No two slots overlap. -/
def slotsApart : List Descriptor → Bool
  | [] => true
  | d :: r => r.all (fun e => decide (d.flashOffset + d.slotLen ≤ e.flashOffset ∨ e.flashOffset + e.slotLen ≤ d.flashOffset)) && slotsApart r

/-- Number of components of each type (R79) and the loaded size (R74). -/
def setOk (s : State) (ds : List Descriptor) : Bool :=
  let count (t i : Nat) : Nat := (ds.filter (fun d => d.type == t && d.inst == i)).length
  let size : Nat := (ds.map (fun d => d.len)).sum
  [1, 2, 3, 6, 9, 10].all (fun t => count t 0 == 1) && count 4 0 == 1 && count 4 1 == 1 &&
    decide (count 7 0 ≤ 1) && decide (count 8 0 ≤ 1) && (List.range 8).all (fun w => decide (count 5 w ≤ 1)) &&
    decide (size ≤ 14680064) && decide (size + 0x50000 + 0x200000 ≤ flashSize s)

/-- An interface serves a requirement (R81). -/
def ifaceServes (p r : Iface) : Bool := p.num == r.num && p.major == r.major && decide (r.minor ≤ p.minor)

/-- The interface rule over a set of components given by what each provides and requires (R81, R511): another component provides it. -/
def ifacesOk (cs : List (List Iface × List Iface)) : Bool :=
  (List.range cs.length).all (fun i => ((cs.getD i ([], [])).2).all (fun r =>
    (List.range cs.length).any (fun j => j != i && ((cs.getD j ([], [])).1).any (fun p => ifaceServes p r))))

/-- DESCRIPTORS_VERIFIED (R91): a failure in a component on probation is a torn update (R524). -/
def execDescriptorsVerified (ds : List Descriptor) (readOk : Bool) (s : State) : Res :=
  .next (match loading s && !s.sys.loader.descsOk, s.sys.loader.hdr with
    | true, some h =>
      if !readOk then loadFail 0x0302 s
      else match ds.find? (fun d => !descOk s h d) with
        | some d => if d.flags.testBit 1 then updateFall 0x0224 s else limpFall 0x0307 s
        | none =>
          if ds.length != h.nDesc || !slotsApart ds then limpFall 0x0307 s
          else if !setOk s ds then limpFall 0x0308 s
          else if !ifacesOk (ds.map (fun d => (d.provides, d.requires))) then limpFall 0x0309 s
          else s.setLoader { s.sys.loader with descs := ds, descsOk := true }
    | _, _ => s)

/-! ### Streaming (R79, R80, R94) -/

/-- The next component: the lowest FLASH_OFFSET that is not done. -/
def nextDesc (l : LoaderSt) : Option Descriptor :=
  (l.descs.filter (fun d => !(l.done.any (fun c => c.type == d.type && c.inst == d.inst)))).foldl
    (fun m d => match m with
      | none => some d
      | some x => if d.flashOffset < x.flashOffset then some d else some x) none

/-- The domains a component's destination lies in are ready. -/
def destReady (s : State) (d : Descriptor) : Bool :=
  match d.type with
  | 1 => s.pdReady 1
  | 4 => s.pdReady (2 + d.inst) && s.pdReady 8
  | 5 => s.pdReady (if d.inst < 4 then 4 else 5) && s.pdReady 8
  | 6 => s.pdReady 7
  | _ => s.pdReady 8

/-- A pair's image lies in shared SRAM; its first 512 KB are the contents of both TCMs (R79, R414). -/
def loadTcms (p : Nat) (data : List Byte) (s : State) : State :=
  [2 * p, 2 * p + 1].foldl (fun s c => place (tcmKey c 0) (data.take 0x80000) s) s

/-- Put a verified component's bytes where they go; a copy is kept. -/
def placeComponent (d : Descriptor) (data : List Byte) (program : List Word) (s : State) : State :=
  let s := s.setLoader { s.sys.loader with images := SMap.put [] s.sys.loader.images (imgKey d.type d.inst) data }
  match d.type with
  | 2 => s.setLoader { s.sys.loader with program := program }
  | 4 => loadTcms d.inst data (if inSram d.loadAddr then place d.loadAddr data s else s)
  | 5 => place (whlBase d.inst) data s
  | 7 => { s with fab := { s.fab with dict := dictBytes 0 data [] } }.set F.SIG_CTL.DICT_OK 1
  | 3 | 8 => if inSram d.loadAddr then place d.loadAddr data s else s
  | _ => s

/-- COMPONENT_VERIFIED (R80, R91, R94): the component streamed next. -/
def execComponentVerified (x : Streamed) (s : State) : Res :=
  .next (if !loading s || !s.sys.loader.descsOk || s.sys.loader.configDone then s
    else match nextDesc s.sys.loader with
      | none => s
      | some d =>
        if !destReady s d then s
        else if !x.readOk then loadFail 0x0302 s
        else if !x.hashOk || (d.flags.testBit 0 && !x.tagOk) then
          (if d.flags.testBit 1 then updateFall 0x0224 s else limpFall 0x030A s)
        else
          let s := placeComponent d x.data x.program s
          let c : CompInfo := compOf d
          let s := s.setLoader { s.sys.loader with done := s.sys.loader.done ++ [c] }
          let s := if d.type = 9 then { s with sys := { s.sys with cfgVersion := d.version } } else s
          s.set F.SKN_STAT.N_COMP s.sys.loader.done.length)

/-! ### Configuration (R82 to R86) -/

/-- CONFIG_RECORDS_APPLY (R84 to R86, R93): once every component is verified; everything is checked before anything is applied. A Whorl
with loops needs its component. -/
def execConfigRecordsApply (x : ConfigIn) (wo : WriteOnce) (s : State) : Res :=
  .next (
    let l := s.sys.loader
    if !loading s || !l.descsOk || l.configDone || l.done.length != l.descs.length || !s.sys.linkUp ||
        !((List.range 11).all (fun d => s.pdReady d)) then s
    else
      let bench := match l.hdr with
        | some h => h.flags.testBit 0
        | none => false
      let t := applyConfig x bench s
      let images := x.sys.loops.all (fun d => l.done.any (fun c => c.type == 5 && c.inst == d.whorl))
      if loaderOk x wo bench l.limp t && images then t.setLoader { t.sys.loader with configDone := true, wo := wo }
      else limpFall 0x030B s)

/-- Write a write-once register: only its first write counts (R6). -/
def writeOnce (a : Nat) (v : Word) (s : State) : State := plainWrite a v s

/-- WRITE_ONCE_WRITE (R86, R87, R91, R93): DT_FLOOR, then SPLIT, each read back; the table's turn follows. -/
def execWriteOnceWrite (readOk : Bool) (s : State) : Res :=
  .next (
    let l := s.sys.loader
    if !loading s || !l.configDone || l.writeOnceDone then s
    else
      let floors := l.wo.dtFloor.getD []
      let pairs := (List.range 32).map (fun i => (F.PWM_LEG_FLOOR.FLOOR_TB.addr i 0 0, floors.getD i 0))
      let split : List (Nat × Word) := match l.wo.split with
        | some b => [0, 1].map (fun p => (F.SPX_STAT.SPLIT.addr p 0 0, if b.getLsbD p then 0x80000000 else 0))
        | none => []
      let s := (pairs ++ split).foldl (fun s e => writeOnce e.1 e.2 s) s
      let same (e : Nat × Word) : Bool := match groupAt e.1 with
        | none => true
        | some g => let m := fieldMask g.fields (fun f => f.acc == .wl)
                    mixWord m 0 (s.rd e.1) == mixWord m 0 e.2
      if !readOk || !(pairs ++ split).all same then loadFail 0x030C s
      else { (s.setLoader { s.sys.loader with writeOnceDone := true }) with
        sys := { s.sys with kilnTable := l.wo.kilnTable.getD [], loader := { s.sys.loader with writeOnceDone := true } } })

/-! ### The Kiln's table (R61, R63, R428, R431) -/

/-- What the Kiln checks of a table. -/
def kilnTableOk (t : List Byte) : Bool :=
  t.length == 512 && tbl32 t 0 == 0x4B494C4E && tbl16 t 4 == 1 && crc32 (t.take 0x1FC) == tbl32 t 0x1FC

/-- The table locks; entries the Kiln cannot honour are replaced; conditions present now are applied (R431, R61). -/
def kilnLock (t : List Byte) (s : State) : State :=
  let k := s.kln
  let s := s.setKln { k with
    table := t, locked := true, tries := 0, entryFix := !(List.range 32).all (entryOk t)
    kstate := if kilnLatched s then 3 else 2 }
  (List.range 27).foldl (fun s e => if s.kln.present.testBit e then kilnApply e s else s) (kilnDrive s)

/-- KILN_TABLE_TRANSFER (R56, R61, R63): the table, or its CRC-32 if a table is locked already. -/
def execKilnTableTransfer (intact : Bool) (s : State) : Res :=
  .next (
    let l := s.sys.loader
    let sent (s : State) : State := s.setLoader { s.sys.loader with tableSent := true }
    let t := s.sys.kilnTable
    if !loading s || !l.writeOnceDone || l.tableSent || !s.sys.linkUp then s
    else if s.kln.tableCrc then startFail 0x0F20 s
    else if s.kln.locked then
      (if intact && tbl32 t 0x1FC == tbl32 s.kln.table 0x1FC then sent s else sent (s.set F.MODE_STAT.KILN_TABLE_OLD 1))
    else if intact && kilnTableOk t then sent (kilnLock t s)
    else
      let n := s.kln.tries + 1
      let s := s.setKln { s.kln with tries := n, tableCrc := decide (3 ≤ n) }
      if n ≥ 3 then startFail 0x0F20 s else s)

/-! ### Reading the flash (R31, R98, R99) -/

/-- Who may read the flash window: the Spindles, Tinder, debug from L2 on (R30). -/
def flashReader (s : State) (m : Master) : Bool :=
  isSpindle m || m == .tinder || (m == .debug && decide (2 ≤ s.dbgLevel))

/-- A flash read error after release (R99): EV_FLASH_ERR (44), READ_ERR, 0x0320 class REPORT. -/
def flashReadError (s : State) : State := raise 44 (issue 0x0320 0 (s.bump F.SKN_ERR.READ_ERR F.SKN_ERR.SAT))

/-- MMAP_FLASH_READ (R98, R99): what the flash holds there is `value`. -/
def execMmapFlashRead (m : Master) (addr : BitVec 28) (value : Word) (readOk : Bool) (s : State) : Res :=
  .next (if !flashReader s m || !s.pdReady 9 || !s.getB F.SKN_STAT.FLASH_OK || decide (flashSize s ≤ addr.toNat) then busError s
    else if s.getB F.SKN_STAT.BUSY then busError (s.bump F.SKN_ERR.MMAP_BUSY F.SKN_ERR.SAT)
    else if !readOk then busError (if s.sys.released then flashReadError s else s)
    else s.answer (.data value.toNat))

/-- FLASH_READ_ERROR (R91, R99): before release the start fails. -/
def execFlashReadError (s : State) : Res :=
  .next (if loading s && s.sys.loader.flashUp then loadFail 0x0302 s
    else if s.sys.released && s.pdReady 9 then flashReadError s
    else s)

end Sys2Proof.Machine
end

