-- ==== Sys2Proof/Machine/Bus.lean ====
section
/-! DEFINITION. The message bus (chapter 16): controllers, receive rings, transmit queues, fault confinement, Reel's runs, freshness,
floods, status and event frames. -/

namespace Sys2Proof.Machine
open Sys2Proof

/-! ### A controller -/

/-- STATE: 0 OFF, 1 INTEGRATING, 2 ERROR_ACTIVE, 3 ERROR_PASSIVE, 4 BUS_OFF, 5 HOLD_OFF, 6 RECOVERING, 7 FAILED. -/
def canState (s : State) (n : Nat) : Nat := s.get F.CAN_STAT.STATE n
def setCanState (n v : Nat) (s : State) : State := s.set F.CAN_STAT.STATE v n

/-- The controller takes part in the bus. -/
def canActive (s : State) (n : Nat) : Bool := s.pdReady 9 && (canState s n == 2 || canState s n == 3)

/-- Bump a count of a controller. -/
def bumpCan (f : Fld) (n : Nat) (s : State) : State := s.bump f F.CAN_STAT.SAT n

/-- A frame boundary while DRAINING, or the timeout: the controller stops, EV_BUS_DRAINED (199); an EN written meanwhile restarts it
(R470). -/
def canStop (n : Nat) (s : State) : State :=
  let s := (s.set F.CAN_CTL.DRAINING 0 n).set F.CAN_STAT.TX_BUSY 0 n
  let again := (s.can n).enAfter
  let s := s.setCan n { s.can n with arb := false, late := false, local_ := none, enAfter := false }
  raise 199 (setCanState n (if again then 1 else 0) s)

/-- A frame boundary. -/
def frameBoundary (n : Nat) (s : State) : State := if s.getB F.CAN_CTL.DRAINING n then canStop n s else s

/-- Definitions of a failed controller move to their alternates (R471, R570): EV_BUS_CTRL_FAIL (208), 0x1014, EV_OLT_SUBST (233). -/
def canFail (n : Nat) (s : State) : State :=
  if canState s n = 7 then s
  else
    let s := (setCanState n 7 s).set F.CAN_STAT.TX_BUSY 0 n
    let s := s.setReel { s.bus.reel with moved := s.bus.reel.moved ++ [n] }
    let s := raise 208 (issue 0x1014 0 s)
    raise 233 ((s.set F.DBG_OLT_STAT.CAN_ALT 1).bump F.DBG_OLT_STAT.SUBST_CNT F.DBG_OLT_STAT.SAT)

/-! ### Fault confinement (R469) -/

/-- Bus-off: BO_CNT, EV_BUS_BUSOFF (193), 0x1003 with BO_CLASS; the queue is kept. -/
def busOff (n : Nat) (s : State) : State :=
  let s := raise 193 (issue 0x1003 (s.get F.CAN_CTL.BO_CLASS n) (bumpCan F.CAN_STAT.BO_CNT n s))
  let s := s.set F.CAN_STAT.TX_BUSY 0 n
  let s := s.setCan n { s.can n with arb := false, late := false, local_ := none }
  setCanState n (if s.get F.CAN_CTL.BO_HOLD n = 0 then 4 else 5) s

/-- The state that the counters give: error passive from 128 on, EV_BUS_ERR_PASSIVE (195); bus-off at a transmit count of 256. -/
def confine (n tec rec_ : Nat) (s : State) : State :=
  let was := canState s n
  let s := (s.set F.CAN_STAT.TEC (min tec 255) n).set F.CAN_STAT.REC (min rec_ 255) n
  if !(was == 2 || was == 3) then s
  else if tec ≥ 256 then busOff n s
  else if tec ≥ 128 ∨ rec_ ≥ 128 then (if was = 2 then raise 195 (setCanState n 3 s) else s)
  else setCanState n 2 s

def tec (s : State) (n : Nat) : Nat := s.get F.CAN_STAT.TEC n
def recCnt (s : State) (n : Nat) : Nat := s.get F.CAN_STAT.REC n

/-- A good reception lowers the receive error counter. -/
def goodReceive (n : Nat) (s : State) : State :=
  let r := recCnt s n
  confine n (tec s n) (if r ≥ 128 then clampN 119 127 (Config.recAfterPassive n) else r - 1) s

/-! ### The receive ring (R459, R460) -/

def ringSize (s : State) (n : Nat) : Nat := 2 ^ (min 8 (s.get F.CAN_RX_CFG.SIZE_LOG2 n) + 12)
def ringBase (s : State) (n : Nat) : Nat := s.get F.CAN_RX_CFG.BASE n * 4096
/-- Bytes between the read pointer and the write pointer. -/
def ringUsed (s : State) (n : Nat) : Nat :=
  (s.get F.CAN_RX_WR.WR n + ringSize s n - s.get F.CAN_RX_RD.RD n % ringSize s n) % ringSize s n

/-- Length padded to a multiple of 8 bytes. -/
def pad8 (n : Nat) : Nat := (n + 7) / 8 * 8

/-- Header of a ring record: time, TYPE and identifier, flags with LEN, SDT, VCID, AF, and the word at 0x14. -/
def ringHeader (ts type id w1 len sdt vcid af w14 : Nat) : List Byte :=
  toBytes 8 ts ++ toBytes 4 (type * 2 ^ 29 + id) ++ toBytes 4 (w1 * 2 ^ 28 + len * 65536 + sdt * 256 + vcid) ++ toBytes 4 af ++ toBytes 4 w14

/-- A record is written, after a pad record where it would wrap, and WR advances after it; a record that would come within 8 bytes of the
read pointer is not: RX_DROP, EV_BUS_RX_OVF (192), 0x1001 at most once per 100 ms. -/
def ringWrite (n : Nat) (hdr payload : List Byte) (s : State) : State :=
  let size := ringSize s n
  let wr := s.get F.CAN_RX_WR.WR n % size
  let len := 24 + pad8 payload.length
  let pad := if size - wr < len then size - wr else 0
  if ringUsed s n + pad + len + 8 ≥ size then
    let s := raise 192 (bumpCan F.CAN_CNT.RX_DROP n s)
    match (s.can n).dropAt with
    | some t => if s.fab.ts < t + 10000000 then s else issue 0x1001 0 (s.setCan n { s.can n with dropAt := some s.fab.ts })
    | none => issue 0x1001 0 (s.setCan n { s.can n with dropAt := some s.fab.ts })
  else
    let base := ringBase s n
    let s := if pad = 0 then s else place (base + wr) ((ringHeader s.fab.ts 7 0 0 0 0 0 0 0).take pad) s
    let at_ := if pad = 0 then wr else 0
    let s := place (base + at_) (hdr ++ payload ++ List.replicate (len - 24 - payload.length) 0) s
    s.set F.CAN_RX_WR.WR ((at_ + len) % size) n

/-- FRAME_RECEIVED (R458 to R460): acknowledged and written into the ring; the frame ends a drain. -/
def execFrameReceived (n : Fin 4) (f : RxFrame) (s : State) : Res :=
  .next (if !canActive s n then s
    else
      let s := goodReceive n s
      let b (x : Bool) (k : Nat) : Nat := if x then k else 0
      let hdr := ringHeader s.fab.ts f.type.val f.id.toNat (b f.ide 8 + b f.brs 4 + b f.esi 2) f.payload.length
        (if f.type.val = 3 then f.sdt.toNat else 0) (if f.type.val = 3 then f.vcid.toNat else 0) (if f.type.val = 3 then f.af.toNat else 0) (b f.sec 1)
      frameBoundary n (ringWrite n hdr f.payload s))

/-- RECEIVE_ERROR (R469): 1, or 8 after a dominant bit that follows the error flag. -/
def execReceiveError (n : Fin 4) (dominant : Bool) (s : State) : Res :=
  .next (if canActive s n then confine n (tec s n) (recCnt s n + (if dominant then 8 else 1)) s else s)

/-- PROTOCOL_EXCEPTION (R454): the controller leaves the frame and integrates again. -/
def execProtocolException (n : Fin 4) (s : State) : Res :=
  .next (if canActive s n then frameBoundary n (setCanState n 1 s) else s)

/-- BUS_INTEGRATION_DONE (R470): ERROR_ACTIVE, or error passive where the counters say so; a drain ends here. -/
def execBusIntegrationDone (n : Fin 4) (s : State) : Res :=
  .next (if !s.pdReady 9 || canState s n != 1 then s
    else if s.getB F.CAN_CTL.DRAINING n then canStop n s
    else confine n (tec s n) (recCnt s n) (setCanState n 2 s))

/-- BUS_OFF_HOLD_END (R469): BO_HOLD is over; recovery begins. -/
def execBusOffHoldEnd (n : Fin 4) (s : State) : Res :=
  .next (if s.pdReady 9 && (canState s n == 4 || canState s n == 5) then setCanState n 6 s else s)

/-- BUS_OFF_RECOVERED (R469): both counters clear, EV_BUS_RECOVERED (194). -/
def execBusOffRecovered (n : Fin 4) (s : State) : Res :=
  .next (if s.pdReady 9 && (canState s n == 6 || canState s n == 4) then
      raise 194 (setCanState n 2 ((s.set F.CAN_STAT.TEC 0 n).set F.CAN_STAT.REC 0 n))
    else s)

/-! ### The transmit queue (R464 to R468) -/

/-- LEVEL and HEAD_RETRY follow the queue. -/
def setQueue (n : Nat) (q : List TxEntry) (s : State) : State :=
  (s.setCan n { s.can n with queue := q }).set F.CAN_TXQ_STAT.LEVEL q.length n

/-- The head leaves the queue. -/
def popHead (n : Nat) (s : State) : State :=
  let s := (s.set F.CAN_TXQ_STAT.HEAD_RETRY 0 n).set F.CAN_STAT.TX_BUSY 0 n
  let s := s.setCan n { s.can n with arb := false, late := false, local_ := none }
  setQueue n ((s.can n).queue.drop 1) s

/-- A commit: to a full queue it is refused, QFULL and EV_BUS_QFULL (198); the flag tells whether it was taken. -/
def pushEntry (n : Nat) (e : TxEntry) (s : State) : Bool × State :=
  let q := (s.can n).queue
  if q.length ≥ 128 then (false, raise 198 (bumpCan F.CAN_TXQ_STAT.QFULL n s))
  else (true, setQueue n (q ++ [e]) s)

/-- The master a push window belongs to (R464). -/
def windowOf (win : Nat) (m : Master) : Bool :=
  match m with
  | .reel => win == 0
  | .pair p => win == 1 + p.val
  | .core c => win == 1 + c.val / 2
  | _ => false

/-- The commit of an entry through a window. -/
def txPush (m : Master) (n win : Nat) (e : TxEntry) (s : State) : State :=
  if !s.pdReady 9 || !windowOf win m then busError s
  else
    let (ok, s) := pushEntry n e s
    s.answer (if ok then .done else .error)

/-- TX_PUSH (R464): the four words, the write of W3 commits. -/
def execTxPush (m : Master) (n : Fin 4) (win : Fin 3) (w0 w1 w2 w3 : Word) (s : State) : Res :=
  .next (txPush m n win ⟨w0, w1, w2, w3, none⟩ s)

def entryLen (e : TxEntry) : Nat := getBits e.w1 27 16
def entryType (e : TxEntry) : Nat := getBits e.w0 31 29
def entryAt (e : TxEntry) : Bool := e.w1.getLsbD 29

/-- The head takes part in arbitration from now on. -/
def arbitrate (n : Nat) (late : Bool) (s : State) : State :=
  (s.setCan n { s.can n with arb := true, late := late }).set F.CAN_STAT.TX_BUSY 1 n

/-- TX_HEAD_FETCH (R466): the payload is read into the local buffer, for XL with the AF before it; a bus error drops the entry:
FETCH_ERR, 0x1015. -/
def execTxHeadFetch (n : Fin 4) (s : State) : Res :=
  .next (match canActive s n && (s.can n).local_.isNone && !s.getB F.CAN_CTL.DRAINING n, (s.can n).queue with
    | true, e :: _ =>
      let len := entryLen e + (if entryType e = 3 then 4 else 0)
      let a := e.w2.toNat
      let ok := (len == 0) || (a % 8 == 0 && inSram a && inSram (a + len - 1) && s.pdReady 8 &&
        (List.range ((len + 7) / 8)).all (fun i => !s.poisoned (a + 8 * i)))
      if !ok then issue 0x1015 0 (bumpCan F.CAN_CNT.FETCH_ERR n (popHead n s))
      else
        let s := s.setCan n { s.can n with local_ := some (s.bytes a len) }
        if entryAt e then s else arbitrate n false s
    | _, _ => s)

/-- TX_ELIGIBLE (R468): TX_AT is reached; more than LATE_TOL after it the entry is late, EV_BUS_TX_LATE (197), and sent or discarded. -/
def execTxEligible (n : Fin 4) (s : State) : Res :=
  .next (match canActive s n && (s.can n).local_.isSome && !(s.can n).arb && !s.getB F.CAN_CTL.DRAINING n, (s.can n).queue with
    | true, e :: _ =>
      let d := signed 32 ((s.ts32 + 2 ^ 32 - e.w3.toNat) % 2 ^ 32)
      if !entryAt e || d < 0 then s
      else if d > 100 * (s.get F.REEL_CTL.LATE_TOL : Int) then
        let s := raise 197 s
        if e.w1.getLsbD 28 then bumpCan F.CAN_CNT.LATE_DROP n (popHead n s) else arbitrate n true s
      else arbitrate n false s
    | _, _ => s)

/-- With OWN_ECHO, an own frame goes into the ring with OWN, LATE and ABANDONED as they were (R458). -/
def echo (n : Nat) (e : TxEntry) (late abandoned : Bool) (s : State) : State :=
  if !s.getB F.CAN_CTL.OWN_ECHO n then s
  else
    let t := entryType e
    let buf := ((s.can n).local_).getD []
    let xl := t == 3
    let hdr := ringHeader s.fab.ts (if t ≤ 3 then t else 0) (getBits e.w0 28 0)
      (8 * getBits e.w1 31 31 + 4 * getBits e.w1 30 30 + 1) (entryLen e)
      (if xl then getBits e.w1 15 8 else 0) (if xl then getBits e.w1 7 0 else 0) (if xl then fromBytes (buf.take 4) else 0)
      ((if late then 4 else 0) + (if abandoned then 2 else 0))
    ringWrite n hdr (if xl then buf.drop 4 else buf) s

/-- TX_FRAME_SENT (R458, R469, R470): the head is on the bus to its end. -/
def execTxFrameSent (n : Fin 4) (s : State) : Res :=
  .next (match canActive s n && (s.can n).arb, (s.can n).queue with
    | true, e :: _ =>
      let s := confine n (tec s n - 1) (recCnt s n) s
      let s := echo n e (s.can n).late false s
      frameBoundary n (popHead n s)
    | _, _ => s)

/-- TX_ATTEMPT_ERROR (R467, R469, R470): the attempt counts; at RETRY_LIMIT the entry is abandoned, ABANDON, EV_BUS_TX_ABANDON (196),
0x1002; while DRAINING it is not retried. `passive`: the exception by which an error-passive transmitter's counter stays. -/
def execTxAttemptError (n : Fin 4) (passive : Bool) (s : State) : Res :=
  .next (match canActive s n && (s.can n).arb, (s.can n).queue with
    | true, e :: _ =>
      let c := min 255 (s.get F.CAN_TXQ_STAT.HEAD_RETRY n + 1)
      let s := s.set F.CAN_TXQ_STAT.HEAD_RETRY c n
      let lim := s.get F.CAN_CTL.RETRY_LIMIT n
      let s := if lim != 0 && decide (lim ≤ c) then
          let s := echo n e (s.can n).late true s
          raise 196 (issue 0x1002 0 (bumpCan F.CAN_CNT.ABANDON n (popHead n s)))
        else s
      let s := confine n (tec s n + (if passive then 0 else 8)) (recCnt s n) s
      frameBoundary n s
    | _, _ => s)

/-! ### Enabling and disabling (R470, R564) -/

/-- CAN n is under its loopback test. -/
def inTest (s : State) (n : Nat) : Bool := s.bit F.DBG_OLT_CAN.IN_TEST n

/-- A write of EN = 0: a running controller drains, one off the bus stops at once. -/
def canDisable (n : Nat) (s : State) : State :=
  if !s.getB F.CAN_CTL.EN n then s
  else
    let s := s.set F.CAN_CTL.EN 0 n
    let s := s.setCan n { s.can n with enAfter := false }
    match canState s n with
    | 1 | 2 | 3 => s.set F.CAN_CTL.DRAINING 1 n
    | 4 | 5 | 6 => canStop n s
    | _ => s

/-- A write of EN = 1: bus integration; during a loopback test, or while a frame drains, it takes effect when that ends. -/
def canEnable (n : Nat) (s : State) : State :=
  if s.getB F.CAN_CTL.EN n then s
  else
    let s := s.set F.CAN_CTL.EN 1 n
    if inTest s n then s.setCan n { s.can n with enAfter := true }
    else if s.getB F.CAN_CTL.DRAINING n then
      let s := s.setCan n { s.can n with enAfter := true }
      if (s.can n).arb then s else canStop n s
    else if canState s n = 0 then setCanState n 1 s
    else s

/-- FLUSH: every entry goes but one that is on the bus. -/
def canFlush (n : Nat) (s : State) : State :=
  if (s.can n).arb then setQueue n ((s.can n).queue.take 1) s
  else setQueue n [] (s.setCan n { s.can n with local_ := none } |>.set F.CAN_TXQ_STAT.HEAD_RETRY 0 n)

/-- Who may write the controllers' registers (R30). -/
def busWriter (s : State) (m : Master) : Bool := (s.regWriter m || m == .reel) && s.pdReady 9

def execCanDisable (m : Master) (n : Fin 4) (s : State) : Res :=
  .next (if busWriter s m then (canDisable n s).answer .done else busError s)
def execCanEnable (m : Master) (n : Fin 4) (s : State) : Res :=
  .next (if busWriter s m then (canEnable n s).answer .done else busError s)
def execCanFlush (m : Master) (n : Fin 4) (s : State) : Res :=
  .next (if busWriter s m then (canFlush n s).answer .done else busError s)

/-- CAN_DRAIN_TIMEOUT (R470): no frame boundary for 1.2 ms. -/
def execCanDrainTimeout (n : Fin 4) (s : State) : Res :=
  .next (if s.pdReady 9 && s.getB F.CAN_CTL.DRAINING n then canStop n s else s)

/-! ### Reel (R461 to R463, R476 to R478) -/

/-- Reel runs: not stopped, not in reset, not halted. -/
def reelRuns (s : State) : Bool := s.pdReady 9 && s.getB F.REEL_CTL.RUN && !(s.pdReady 8 && s.getB F.DBG_HALT.REEL_HALTED)

/-- Bump a count of Reel's. -/
def bumpReel (f : Fld) (s : State) : State := s.bump f F.REEL_CTL.SAT

/-- Offset of the record at the read pointer, pad records skipped; none where the ring is empty. -/
def ringNext (s : State) (n : Nat) : Option Nat :=
  let size := ringSize s n
  let rd := s.get F.CAN_RX_RD.RD n % size
  if ringUsed s n = 0 then none
  else if size - rd < 24 ∨ s.load (ringBase s n + rd + 8) 4 / 2 ^ 29 = 7 then
    (if s.get F.CAN_RX_WR.WR n % size = 0 then none else some 0)
  else some rd

/-- LEN of the record at an offset. -/
def recordLen (s : State) (n off : Nat) : Nat := s.load (ringBase s n + off + 12) 4 / 65536 % 4096

/-- Set a mark in the record's flag word. -/
def markRecord (n off : Nat) (k : Nat) (s : State) : State :=
  let a := ringBase s n + off + 0x16
  place a (toBytes 2 (s.load a 2 ||| (Config.reelFlag k).toNat)) s

/-- The read pointer passes the record. -/
def passRecord (n off : Nat) (s : State) : State :=
  s.set F.CAN_RX_RD.RD ((off + 24 + pad8 (recordLen s n off)) % ringSize s n) n

/-- A token of a class (R478): what the bucket misses of BURST frames, in 10^-8 frames, refills with RATE. -/
def takeToken (c : Nat) (s : State) : Bool × State :=
  let r := s.bus.reel
  let p := s.sys.cfg.reel.classes.getD c {}
  let missing := SMap.get 0 r.tokens c - p.rate * (s.fab.ts - SMap.get 0 r.tokenAt c)
  let ok := decide (missing + 100000000 ≤ p.burst * 100000000)
  (ok, s.setReel { r with tokens := SMap.put 0 r.tokens c (if ok then missing + 100000000 else missing), tokenAt := SMap.put 0 r.tokenAt c s.fab.ts })

/-- A record without a token: FLOOD, EV_BUS_FLOOD (204), 0x1013 at most once per second. -/
def flood (n off : Nat) (s : State) : State :=
  let s := raise 204 (bumpReel F.REEL_STAT2.FLOOD_CNT (markRecord n off 2 s))
  match s.bus.reel.floodAt with
  | some t => if s.fab.ts < t + 100000000 then s else issue 0x1013 0 (s.setReel { s.bus.reel with floodAt := some s.fab.ts })
  | none => issue 0x1013 0 (s.setReel { s.bus.reel with floodAt := some s.fab.ts })

/-- Acceptance of a secured record (R476, R477): every 256th stores the value; the last value saturates with 0x1012. -/
def acceptFresh (d f : Nat) (s : State) : State :=
  let r := s.bus.reel
  let k := SMap.get 0 r.accepts d + 1
  let s := s.setReel { r with last := SMap.put 0 r.last d f, accepts := SMap.put 0 r.accepts d (k % 256), authRun := SMap.put 0 r.authRun d 0 }
  let s := if k % 256 = 0 then s.store (freshKey false d) 4 f else s
  if f = 0xFFFFFFFF then issue 0x1012 0 (s.set F.REEL_CTL.SAT 1) else s

/-- A secured record that is not accepted (R476): AUTH_FAIL, EV_BUS_AUTH_FAIL (203), after AUTH_N in a row 0x1011. -/
def authFail (n off d : Nat) (p : RxDef) (s : State) : State :=
  let r := s.bus.reel
  let k := SMap.get 0 r.authRun d + 1
  let s := s.setReel { r with authRun := SMap.put 0 r.authRun d k }
  let s := raise 203 (bumpReel F.REEL_STAT.AUTH_FAIL_CNT (markRecord n off 1 s))
  if k = max p.authN 1 then issue 0x1011 0 s else s

/-- A command record goes to a pair's mailbox (R463): EV_BUS_CMD_A (200) or _B (201); a full mailbox refuses it: EV_BUS_MBX_FULL (202). -/
def deliverRecord (n off d p : Nat) (s : State) : State :=
  let r := s.bus.reel
  if SMap.get 0 r.mbxN p ≥ 256 then raise 202 (bumpReel F.REEL_STAT.MBX_DROP s)
  else
    let s := markRecord n off 3 s
    let base := ringBase s n + off
    let len := recordLen s n off
    let a := (if p = 0 then s.sys.cfg.reel.mbxA else s.sys.cfg.reel.mbxB) + 64 * (SMap.get 0 r.mbxW p % 256)
    let body := s.bytes (base + 24) (min len 40)
    let rec_ := toBytes 4 d ++ toBytes 4 (s.load (base + 0x14) 4) ++ toBytes 8 (s.load base 8) ++ toBytes 4 (off + 24) ++ toBytes 4 len ++
      body ++ List.replicate (40 - body.length) 0
    let s := place a rec_ s
    let s := s.setReel { s.bus.reel with mbxN := SMap.put 0 r.mbxN p (SMap.get 0 r.mbxN p + 1), mbxW := SMap.put 0 r.mbxW p (SMap.get 0 r.mbxW p + 1) }
    raise (200 + p) s

/-- The ring is more than 75 % full. -/
def ringHigh (s : State) (n : Nat) : Bool := decide (3 * ringSize s n < 4 * ringUsed s n)

/-- The outcome of a run: 0 DELIVER, 1 DROP, 2 FORWARD. -/
def runOutcome (n off : Nat) (r : ReelRun) (s : State) : State :=
  let cls := s.sys.cfg.reel.classes.getD r.cls.val {}
  match r.outcome.val with
  | 0 => if ringHigh s n && !cls.prio then markRecord n off 4 s else deliverRecord n off r.dfn.val r.pair.val s
  | 1 => markRecord n off 4 s
  | _ =>
    let s := markRecord n off 5 s
    (pushEntry r.fwd.ctrl.val ⟨r.fwd.w0, r.fwd.w1, BitVec.ofNat 32 (ringBase s n + off + 24), 0, none⟩ s).2

/-- REEL_RECORD_RUN (R463, R476, R478): the record at the read pointer: flood protection, then authentication, then the outcome. -/
def execReelRecordRun (n : Fin 4) (r : ReelRun) (s : State) : Res :=
  .next (match reelRuns s, ringNext s n with
    | true, some off =>
      let s := s.setReel { s.bus.reel with ovrRun := 0 }
      let (ok, s) := takeToken r.cls.val s
      let d := r.dfn.val
      let p := s.sys.cfg.reel.rx.getD d {}
      let last := SMap.get 0 s.bus.reel.last d
      let s :=
        if !ok then flood n off s
        else if p.secured then
          (if r.macOk && decide (last < r.fresh ∧ r.fresh ≤ last + p.freshWin ∧ r.fresh ≤ 0xFFFFFFFF) then runOutcome n off r (acceptFresh d r.fresh s)
           else authFail n off d p s)
        else runOutcome n off r s
      passRecord n off s
    | _, _ => s)

/-- Reel is reset (R462, R522). -/
def reelReset (s : State) : State :=
  let s := s.set F.REEL_CTL.RUN 0
  updFault 3 0 (s.set F.REEL_CTL.RESETS (min 3 (s.get F.REEL_CTL.RESETS + 1)))

/-- REEL_OVERRUN (R462): the run is cut off: OVR_CNT, EV_BUS_REEL_OVR (206); OVR_N in a row, a trap or an uncorrectable fetch reset
Reel. -/
def execReelOverrun (n : Fin 4) (how : ReelEnd) (s : State) : Res :=
  .next (if !reelRuns s then s
    else match how with
      | .wcet =>
        match ringNext s n with
        | none => s
        | some off =>
          let s := raise 206 (bumpReel F.REEL_STAT.OVR_CNT (markRecord n off 0 s))
          let s := passRecord n off s
          let k := s.bus.reel.ovrRun + 1
          let s := s.setReel { s.bus.reel with ovrRun := k }
          if k ≥ max 1 (s.get F.REEL_CFG.OVR_N) then reelReset (s.setReel { s.bus.reel with ovrRun := 0 }) else s
      | _ => reelReset s)

/-- REEL_RESET_DONE (R462): reloaded from the verified copy, 0x1004; after the third reset Reel stays stopped with 0x1005. -/
def execReelResetDone (s : State) : Res :=
  .next (if !s.pdReady 9 || s.getB F.REEL_CTL.RUN || s.getB F.REEL_CTL.STOPPED || s.get F.REEL_CTL.RESETS = 0 then s
    else
      let s := issue 0x1004 0 s
      if s.get F.REEL_CTL.RESETS ≥ 3 then issue 0x1005 (s.get F.REEL_CFG.REEL_CLASS) (s.set F.REEL_CTL.STOPPED 1)
      else s.set F.REEL_CTL.RUN 1)

/-! ### Frames of Reel's own (R472 to R474, R477) -/

/-- Controller of a definition: its own, or its alternate once it has moved (R471). -/
def defCtrl (s : State) (d : TxDef) : Option Nat := if s.bus.reel.moved.contains d.ctrl then d.alt else some d.ctrl

/-- The next freshness value of a transmit definition (R477): the stored value goes ahead in steps of 256; the last value stops it. -/
def nextFresh (d : Nat) (s : State) : Option Nat × State :=
  let f := SMap.get 0 s.bus.reel.txF d
  if f ≥ 0xFFFFFFFF then (none, issue 0x1012 0 (s.set F.REEL_CTL.SAT 1))
  else
    let s := if s.load (freshKey true d) 4 ≤ f then s.store (freshKey true d) 4 (min 0xFFFFFFFF (f + 256)) else s
    (some f, s.setReel { s.bus.reel with txF := SMap.put 0 s.bus.reel.txF d (f + 1) })

/-- What the MAC of a secured frame covers (R474). -/
def macInput (w0 w1 : Word) (data : List Byte) (f : Nat) : List Byte :=
  toBytes 4 (getBits w0 28 0 + getBits w1 31 31 * 2 ^ 31) ++ toBytes 2 data.length ++ data ++ toBytes 4 f

/-- Push one of Reel's frames: its data in its buffer, a secured one with freshness and MAC behind; the flag tells whether it went. -/
def pushOwn (k : Nat) (d : TxDef) (data : List Byte) (at_ : Option Nat) (s : State) : Bool × State :=
  match defCtrl s d with
  | none => (false, s)
  | some c =>
    let (f, s) := if d.secured then nextFresh k s else (some 0, s)
    match f with
    | none => (false, s)
    | some f =>
      let mac := Config.cmac (SMap.get 0 s.tnd.priv.keys d.key) (macInput d.w0 d.w1 data f)
      let bytes := if d.secured then data ++ toBytes 4 f ++ toBytes 8 mac.toNat else data
      let w1 := setBits (setBits d.w1 27 16 bytes.length) 29 29 (if at_.isSome then 1 else 0)
      let s := place d.buf bytes s
      pushEntry c ⟨d.w0, w1, BitVec.ofNat 32 d.buf, BitVec.ofNat 32 (at_.getD 0), some k⟩ s

/-- STAT0 (R472). -/
def stat0 (s : State) : List Byte :=
  let b (x : Bool) (k : Nat) : Nat := if x then k else 0
  let b0 := s.mode * 32 + b s.sup.emr 16 + b (s.getB F.MODE_STAT.LIMP_LATCH) 8 + b (!s.kln.faultN) 4 + b (!stoReleased s) 2 + b s.bus.reel.lostSeen 1
  [BitVec.ofNat 8 b0, BitVec.ofNat 8 s.bus.reel.beat] ++ toBytes 2 s.sys.lastFault ++
    toBytes 2 (Config.statTorque s.bus.reel.beat).toNat ++ toBytes 2 (Config.statLink s.kln.linkV).toNat

/-- STATUS_FRAME_DUE (R472): sampled and pushed with TX_AT at the instant; while the previous frame is still queued a skip is counted. -/
def execStatusFrameDue (d : Fin 32) (s : State) : Res :=
  .next (match reelRuns s, s.sys.cfg.reel.tx[d.val]? with
    | true, some x =>
      if x.event.isSome then s
      else match defCtrl s x with
        | none => s
        | some c =>
          if (s.can c).queue.any (fun e => e.dfn == some d.val) then
            s.setReel { s.bus.reel with skips := SMap.put 0 s.bus.reel.skips d (SMap.get 0 s.bus.reel.skips d + 1) }
          else
            let data := if x.stat0 then stat0 s
              else x.entries.flatMap (fun k => toBytes (sigBytes (sigType (s.sigEntry k))) ((sigValue s k).getD (Config.daqHole k)).toNat)
            let s := (pushOwn d x data (some s.ts32) s).2
            if x.stat0 then s.setReel { s.bus.reel with beat := (s.bus.reel.beat + 1) % 256, lostSeen := false } else s
    | _, _ => s)

/-- An event routed to Reel (R473): merged into its pending frame, or a new one; with 64 pending it is lost: EVT_LOST. -/
def reelEvent (n : Nat) (s : State) : State :=
  let r := s.bus.reel
  match (List.range s.sys.cfg.reel.tx.length).find? (fun k => ((s.sys.cfg.reel.tx.getD k {}).event) == some n) with
  | none => s
  | some k =>
    if !s.pdReady 9 then s
    else if r.evs.any (fun e => e.dfn == k) then
      s.setReel { r with evs := r.evs.map (fun e => if e.dfn = k then { e with merged := min 15 (e.merged + 1) } else e) }
    else if r.evs.length ≥ 64 then bumpReel F.REEL_STAT.EVT_LOST (s.setReel { r with lostSeen := true })
    else s.setReel { r with evs := r.evs ++ [{ dfn := k, merged := 0, code := s.sys.lastFault, ts := s.ts32 }] }

/-- Reel sends the oldest event frame it holds, while the controller's queue has room (R473). -/
def sendEvent (s : State) : State :=
  match s.bus.reel.evs with
  | [] => s
  | e :: r =>
    let d := s.sys.cfg.reel.tx.getD e.dfn {}
    match defCtrl s d with
    | none => s.setReel { s.bus.reel with evs := r }
    | some c =>
      if (s.can c).queue.length ≥ 128 then s
      else
        let data := [BitVec.ofNat 8 (d.event.getD 0), BitVec.ofNat 8 (s.mode * 16 + e.merged)] ++ toBytes 2 e.code ++ toBytes 4 e.ts
        (pushOwn e.dfn d data none (s.setReel { s.bus.reel with evs := r })).2

/-- DTOs of a sample (R481): one per ODT, its number first, the first with the time stamp; an overload shows in the number's bit 7. -/
def dtoFrames (s : State) (base : Nat) (l : DaqList) (x : DaqSample) : List (List Byte) :=
  let rec go (odts : List (List Nat)) (vals : List Word) (k : Nat) : List (List Byte) :=
    match odts with
    | [] => []
    | o :: r =>
      let data := (o.zip vals).flatMap (fun (e, v) => toBytes (sigBytes (sigType (s.sigEntry e))) v.toNat)
      let pid := base + k + (if k = 0 && l.overload then 128 else 0)
      ([BitVec.ofNat 8 pid] ++ (if k = 0 then toBytes 4 x.ts else []) ++ data) :: go r (vals.drop o.length) (k + 1)
  go l.odts x.values 0

/-- The DTO frames of a sample are pushed, the k-th with its data k × 64 bytes into the buffer; whether one was lost. -/
def pushDtos (d : TxDef) : List (List Byte) → Nat → State → Bool × State
  | [], _, s => (false, s)
  | f :: r, k, s =>
    let (ok, s) := pushOwn 0xFFFF { d with secured := false, buf := d.buf + 64 * k } f none s
    let (lost, s) := pushDtos d r (k + 1) s
    (!ok || lost, s)

/-- Reel packs the waiting sample of list i and pushes its DTOs; one that the queue cannot take is dropped, and the next shows it. -/
def packSample (i : Nat) (s : State) : State :=
  match s.xcp.lists[i]? with
  | none => s
  | some l =>
    match l.sample with
    | none => s
    | some x =>
      let base := ((s.xcp.lists.take i).map (fun l => l.odts.length)).sum
      let d := s.sys.cfg.reel.dto
      let (lost, s) := pushDtos d (dtoFrames s base l x) 0 s
      { s with xcp := { s.xcp with lists := s.xcp.lists.set i { l with sample := none, overload := lost } } }

/-- What Reel does in a tick in which no command waits: it sends event frames and packs samples. -/
def reelTick (s : State) : State :=
  if !reelRuns s then s
  else (List.range s.xcp.lists.length).foldl (fun s i => packSample i s) (sendEvent s)

end Sys2Proof.Machine
end

