-- ==== Sys2Proof/Machine/Hosts.lean ====
section
/-! DEFINITION. The host's command frames as the standard supervisions take them (R479, R480, R325 to R327, R377, R379, R392 to R394),
and their timeouts. `auth` says that Reel accepted the frame under R476; any other counts as absent. -/

namespace Sys2Proof.Machine
open Sys2Proof

/-- Frame k's alive counter advances by 1 to ALIVE_GAP from the last frame accepted; `last` is 0 before the first, else that counter
plus 1. -/
def aliveOk (s : State) (last : Nat) (a : Nat) : Bool :=
  last == 0 || (let d := (a + 17 - last) % 16; decide (1 ≤ d) && decide (d ≤ s.sys.cfg.sup.aliveGap))

/-- An alive-counter break is counted and the frame discarded. -/
def aliveBreak (s : State) : State := s.bump F.REEL_STAT2.ALIVE_ERR F.REEL_CTL.SAT

def supAlive (k : Nat) (a : Nat) (s : State) : State := { s with sup := { s.sup with alive := SMap.put 0 s.sup.alive k (a + 1) } }

/-- Charge and drive commands are refused between a precharge command and its DONE (R394). -/
def preBlocks (s : State) : Bool := [1, 2, 4].contains (s.get F.CHG_PRE.PSTATE)

/-- Torque commands of both machines, from the split (R312). -/
def axleTorque (tAx dT : Int) (s : State) : State :=
  let (t0, t1) := splitTorque s tAx dT
  let put (m : Nat) (t : Int) (s : State) : State :=
    match machPar s m with
    | some p => if p.speedMode then s else s.setMach m { s.mach m with cmdT := t, commanded := true, hostLost := false }
    | none => s
  put 1 t1 (put 0 t0 s)

/-- AXLE_CMD (R479, R312): torques, and the mode request through MODE_REQ. -/
def execAxleCmd (x : AxleCmd) (s : State) : Res :=
  .next (if !x.auth || !pairRuns s 0 then s
    else if !aliveOk s (SMap.get 0 s.sup.alive 0) x.alive then aliveBreak s
    else
      let s := supAlive 0 x.alive s
      let s := if preBlocks s then s else axleTorque x.tAx x.dT s
      match x.req with
      | some t =>
        if preBlocks s && (t.val == 3 || t.val == 4) then s
        else quietly (modeRequest (.pair s.sys.cfg.modePair) 0xC3A5 t false true) s
      | none => s)

/-- SPEED_CMD (R309, R479). -/
def execSpeedCmd (x : SpeedCmd) (s : State) : Res :=
  .next (if !x.auth || !pairRuns s 0 then s
    else if !aliveOk s (SMap.get 0 s.sup.alive 1) x.alive then aliveBreak s
    else
      let s := supAlive 1 x.alive s
      let put (m : Nat) (v : Int) (s : State) : State :=
        match machPar s m with
        | some p => if p.speedMode then s.setMach m { s.mach m with cmdSpd := v, commanded := true, hostLost := false } else s
        | none => s
      if preBlocks s then s else put 1 x.spd1 (put 0 x.spd0 s))

/-- Pair A's own write of one field of SPX_KREQ; a Skein that names pair B as KREQ_PAIR has pair B write it. -/
def supKreq (f : Fld) (v : Nat) (s : State) : State :=
  quietly (kreqField (.pair ⟨kreqPair s % 2, Nat.mod_lt _ (by decide)⟩) (kreqPair s) f v) s

/-- A stop of category 1 begins (R325): the references go to zero along A_STOP and J_STOP, and SS1_REQ asks the Kiln to watch. -/
def stopOne (s : State) : State :=
  supKreq F.SPX_KREQ.SS1_REQ 1 ([0, 1].foldl (fun s m =>
    match machPar s m with
    | some _ => s.setMach m { s.mach m with stop1 := true, below := 0 }
    | none => s) s)

/-- STOP_CMD (R325): STO_REQ or SS1_REQ; category 0 ends a category 1 stop. -/
def execStopCmd (auth one : Bool) (s : State) : Res :=
  .next (if !auth || !pairRuns s 0 then s
    else if one then stopOne s
    else
      let s := [0, 1].foldl (fun s m => if (s.mach m).stop1 then s.setMach m { s.mach m with stop1 := false, below := 0 } else s) s
      supKreq F.SPX_KREQ.STO_REQ 1 s)

/-- EMR_CMD (R326, R327): cancel, renewal of EMR_T, or entry. -/
def execEmrCmd (auth cancel : Bool) (s : State) : Res :=
  .next (if !auth || !pairRuns s 0 then s
    else if cancel then emrEnd 1 s
    else if s.sup.emr then { s with sup := { s.sup with emrTasks := 0 } }
    else emrEnter s)

/-- CHG_CMD (R377, R374, R383, R479): a start command lets the supervision start; a stop ends the session with HOST_STOP. -/
def execChgCmd (x : ChgCmd) (s : State) : Res :=
  .next (if !x.auth || !pairBRuns s then s
    else if !aliveOk s s.chg.alive x.alive then aliveBreak s
    else
      let s := s.setChg { s.chg with alive := x.alive + 1, hostMs := 0, digital := x.digital }
      if x.start then
        if preBlocks s then s else s.setChg { s.chg with cmd := true, hvHold := false }
      else s.setChg { s.chg with cmd := false, hvHold := false, ends := if sessActive s then s.chg.ends ++ [1] else s.chg.ends })

/-- BMS_LIM (R379): fresh limits; a session paused for stale limits goes on. -/
def execBmsLim (auth : Bool) (x : BmsLimits) (s : State) : Res :=
  .next (if !auth || !pairBRuns s then s
    else
      let s := s.setChg { s.chg with bms := some x, fresh := true }
      if s.get F.CHG_SESS.STATE = 4 ∧ s.chg.pause = 1 then (s.setChg { s.chg with pause := 0 }).set F.CHG_SESS.STATE 2 else s)

/-- PRE_CMD (R392); `cOpen`: the host says that the contactors are open. -/
def execPreCmd (auth cOpen : Bool) (s : State) : Res :=
  .next (if !auth || !pairBRuns s then s else quietly preCommand (s.setChg { s.chg with contactors := !cOpen }))

/-- CONTACTOR_CLOSED (R393). -/
def execContactorClosed (auth : Bool) (s : State) : Res :=
  .next (if !auth || !pairBRuns s then s else quietly preEnd (s.setChg { s.chg with contactors := true }))

/-- HOST_TIMEOUT (R479, R480): EV_BUS_HOST_TMO (205); torque machines ramp to zero with 0x1010; speed machines follow LOSS_ACT. -/
def execHostTimeout (s : State) : Res :=
  .next (if !pairRuns s 0 then s
    else
      let ms := [0, 1].filter (fun m => (machPar s m).isSome && (s.mach m).commanded && !(s.mach m).hostLost)
      if ms.isEmpty then s
      else
        let speed (m : Nat) : Bool := match machPar s m with | some p => p.speedMode | none => false
        let s := raise 205 (s.bump F.REEL_STAT2.HOST_TMO_CNT F.REEL_CTL.SAT)
        let s := if ms.any (fun m => !speed m) then issue 0x1010 s.sys.cfg.sup.hostClass s else s
        let s := ms.foldl (fun s m =>
          let x := s.mach m
          if !speed m then s.setMach m { x with hostLost := true }
          else if s.sys.cfg.sup.lossAct = 0 then s.setMach m { x with hostLost := true, cmdSpd := 0 }
          else s.setMach m { x with hostLost := true }) s
        if s.sys.cfg.sup.lossAct = 2 ∧ ms.any speed then stopOne s else s)

/-- HOST_LOSS_TIMEOUT (R479): HOST_LOSS_T after the timeout, a torque machine is stopped in category 1; a speed that LOSS_ACT 1 held
ramps to zero. -/
def execHostLossTimeout (s : State) : Res :=
  .next (if !pairRuns s 0 then s
    else
      let ms := [0, 1].filter (fun m => (machPar s m).isSome && (s.mach m).hostLost)
      let speed (m : Nat) : Bool := match machPar s m with | some p => p.speedMode | none => false
      let s := ms.foldl (fun s m => if speed m && s.sys.cfg.sup.lossAct = 1 then s.setMach m { s.mach m with cmdSpd := 0 } else s) s
      if ms.any (fun m => !speed m) then stopOne s else s)

/-- CHG_CMD_TIMEOUT (R479): 300 ms without a charge command; HOST_STOP follows after 1 s in the charge task. -/
def execChgCmdTimeout (s : State) : Res :=
  .next (if !pairBRuns s || !s.chg.cmd || 0 < s.chg.hostMs then s
    else raise 205 ((s.bump F.REEL_STAT2.HOST_TMO_CNT F.REEL_CTL.SAT).setChg { s.chg with hostMs := 1 }))

end Sys2Proof.Machine
end

