-- ==== Sys2Proof/Machine/Xcp.lean ====
section
/-! DEFINITION. The XCP service of pair B (R480 to R484): sessions, uploads and downloads, calibration pages, DAQ lists. An answer is
kept as data; its bytes where R481 leaves them to ASAM XCP are that standard's (log entry 131). -/

namespace Sys2Proof.Machine
open Sys2Proof

def State.setXcp (s : State) (x : XcpSt) : State := { s with xcp := x }
def State.reply (s : State) (r : XcpReply) : State := s.setXcp { s.xcp with reply := r }

/-! ### Calibration access and writes (R482, R483, R503, R561) -/

/-- Calibration writes are permitted in the present lifecycle state and mode (R503, last column). -/
def calAllowed (s : State) : Bool :=
  let l := s.dbgLevel
  match lifecycle s with
  | 0 => decide (1 ≤ l)
  | 1 => decide (1 ≤ l) && s.mode != 0
  | 2 => decide (2 ≤ l) && (s.mode == 2 || s.mode == 7)
  | 3 => decide (1 ≤ l) && (s.mode == 2 || s.mode == 7)
  | _ => false

/-- Batches of coefficient words, one for each Whorl, each under CQ_HOLD (R483). -/
def whorlBatches (ws : List (Nat × Word)) (s : State) : State :=
  (List.range 8).foldl (fun s w =>
    let mine := ws.filter (fun e => decide ((e.1 - 0x20000000) / 0x100000 = w))
    if mine.isEmpty || !whlReady s w then s
    else
      let s := s.set F.WHL_CTL.CQ_HOLD 1 w
      let s := mine.foldl (fun s e => coefWrite (.pair 1) w ((e.1 - (whlBase w + 0x40000)) / 4) e.2 s) s
      s.set F.WHL_CTL.CQ_HOLD 0 w) s

/-- An address in the coefficient region of a Whorl. -/
def inCoef (a : Nat) : Bool := inWhorl a && decide (0x40000 ≤ a % 0x100000 ∧ a % 0x100000 < 0x50000)

/-- Address of the page in use, or of the other one. -/
def pageBase (s : State) (working : Bool) : Option (Nat × Nat) :=
  match s.sys.cfg.xcpPages with
  | r :: w :: _ => some (calAddr s (if working then w.1 else r.1), r.2)
  | _ => none

/-- The Whorl entries are rewritten from a page: the Skein names each one's word in the page. -/
def pageToWhorls (working : Bool) (s : State) : State :=
  match pageBase s working with
  | some (b, _) => whorlBatches (s.sys.cfg.xcpWords.map (fun e => (e.1, BitVec.ofNat 32 (s.load (b + e.2) 4)))) s
  | none => s

/-- The word of a Whorl entry in the working page takes its value as well. -/
def pageKeeps (a : Nat) (v : Word) (s : State) : State :=
  match pageBase s true, s.sys.cfg.xcpWords.find? (fun e => e.1 == a) with
  | some (b, _), some e => place (b + e.2) (toBytes 4 v.toNat) s
  | _, _ => s

/-- A write of entry k (R561): with CAL set it goes to the working page, or through the queue into a Whorl coefficient; any other write,
and one without the access of R503, is a bus error. -/
def sigWrite (k : Nat) (v : Word) (synd : Syndrome) (s : State) : State :=
  let d := s.sigEntry k
  if d = 0 || !sigCal d || !calAllowed s then busError s
  else
    let a := pageAddr s true (sigSrc d)
    if !sourceOk s a then busError s
    else
      let n := sigBytes (sigType d)
      let old := sourceLoad s a n
      let new := if sigType d = 8 then (setBits (BitVec.ofNat 32 old) (sigBit d + sigWidth d - 1) (sigBit d) v.toNat).toNat else v.toNat % 2 ^ (8 * n)
      if inCoef a then
        let w := BitVec.ofNat 32 new
        let s := pageKeeps a w s
        (if s.xcp.working || !(s.sys.cfg.xcpWords.any (fun e => e.1 == a)) then whorlBatches [(a - a % 4, w)] s else s).answer .done
      else if inSram a then memWrite (.pair 1) a n new synd s
      else busError s

/-! ### Sessions -/

/-- Pair B serves the command: its firmware runs and the master is connected. -/
def xcpServes (s : State) : Bool := pairBRuns s && s.pdReady 8 && s.xcp.connected

/-- Measurement and everything else in a session needs L1 (R482). -/
def xcpCmd (f : State → State) (s : State) : Res :=
  .next (if !xcpServes s then s else if s.dbgLevel < 1 then s.reply .accessDenied else quietly f s)

/-- XCP_TIMEOUT (R480): XCP_TMO without a command ends the session. -/
def execXcpTimeout (s : State) : Res := .next (if pairBRuns s then xcpEnd s else s)

/-- MAX_CTO and MAX_DTO of the bus in use. -/
def maxCto (s : State) : Nat := if s.xcp.fd then 64 else 8

/-- XCP_CONNECT (R481, R482, R484): EV_BUS_XCP (207). -/
def execXcpConnect (fd : Bool) (s : State) : Res :=
  .next (if !pairBRuns s || !s.pdReady 8 then s
    else if s.dbgLevel < 1 then s.reply .accessDenied
    else
      let s := if s.xcp.connected then s else raise 207 s
      let n := if fd then 64 else 8
      s.setXcp { s.xcp with connected := true, fd := fd, reply := .ok [0x05, 0x80, n, n, 0, 1, 1] })

/-- XCP_DISCONNECT (R484). -/
def execXcpDisconnect (s : State) : Res := .next (if xcpServes s then (xcpEnd s).reply (.ok []) else s)

/-- XCP_GET_STATUS: DAQ running. -/
def execXcpGetStatus (s : State) : Res :=
  xcpCmd (fun s => s.reply (.ok [if s.xcp.lists.any (fun l => l.running) then 0x40 else 0, 0, 0, 0, 0])) s

/-- XCP_SYNCH is answered with ERR_CMD_SYNCH. -/
def execXcpSynch (s : State) : Res := xcpCmd (fun s => s.reply .synch) s

/-- XCP_GET_COMM_MODE_INFO: no block mode, no interleaving. -/
def execXcpGetCommModeInfo (s : State) : Res := xcpCmd (fun s => s.reply (.ok [0, 0, 0, 0, 0, 0, 0x10])) s

/-! ### Memory access -/

/-- XCP_SET_MTA: an address of the dictionary window. -/
def setMta (a : Nat) (s : State) : State :=
  if inDict a then s.setXcp { s.xcp with mta := a, reply := .ok [] } else s.reply .outOfRange

def execXcpSetMta (addr : Word) (s : State) : Res := xcpCmd (setMta addr.toNat) s

/-- Bytes of the dictionary window from an address; absent where a read gives a bus error. -/
def dictLoad (s : State) (a n : Nat) : Option (List Nat) :=
  (List.range n).foldr (fun i acc =>
    match acc, (if inDict (a + i) then sigRead s ((a + i - 0x50000000) / 4 * 4) else none) with
    | some l, some w => some (w.toNat / 2 ^ (8 * ((a + i) % 4)) % 256 :: l)
    | _, _ => none) (some [])

/-- UPLOAD: n bytes from the transfer address, which advances. -/
def upload (n : Nat) (s : State) : State :=
  if n = 0 || maxCto s - 1 < n then s.reply .outOfRange
  else match dictLoad s s.xcp.mta n with
    | some l => s.setXcp { s.xcp with mta := s.xcp.mta + n, reply := .ok l }
    | none => s.reply .outOfRange

def execXcpUpload (n : Byte) (s : State) : Res := xcpCmd (upload n.toNat) s

/-- SHORT_UPLOAD: the address comes with the command. -/
def execXcpShortUpload (n : Byte) (addr : Word) (s : State) : Res :=
  xcpCmd (fun s => if inDict addr.toNat then upload n.toNat (s.setXcp { s.xcp with mta := addr.toNat }) else s.reply .outOfRange) s

/-- DOWNLOAD (R482, R483): bytes of word 0 of an entry. -/
def download (data : List Byte) (s : State) : State :=
  let a := s.xcp.mta
  let n := data.length
  let k := (a - 0x50000000) / 8
  if !calAllowed s then s.reply .accessDenied
  else if n = 0 || maxCto s - 2 < n || !inDict a || decide (4 < a % 8 + n) then s.reply .outOfRange
  else match sigValue s k with
    | none => s.reply .outOfRange
    | some old =>
      let bs := toBytes 4 old.toNat
      let v := BitVec.ofNat 32 (fromBytes (bs.take (a % 8) ++ data ++ bs.drop (a % 8 + n)))
      let t := sigWrite k v .clean s
      if t.resp = .error then s.reply .writeProtected else t.setXcp { t.xcp with mta := a + n, reply := .ok [] }

def execXcpDownload (data : List Byte) (s : State) : Res := xcpCmd (download data) s

/-! ### Pages (R483) -/

/-- SET_CAL_PAGE: page 0 reference, 1 working; a switch rewrites the Whorl entries. -/
def execXcpSetCalPage (mode page : Byte) (s : State) : Res :=
  xcpCmd (fun s =>
    if !calAllowed s then s.reply .accessDenied
    else if 1 < page.toNat || mode.toNat % 4 == 0 && mode.toNat < 128 then s.reply .pageNotValid
    else
      let w := page.toNat == 1
      let s := if s.xcp.working == w then s else pageToWhorls w (s.setXcp { s.xcp with working := w })
      s.reply (.ok [])) s

/-- GET_CAL_PAGE. -/
def execXcpGetCalPage (mode : Byte) (s : State) : Res :=
  xcpCmd (fun s => if mode = 1 || mode = 2 then s.reply (.ok [0, 0, if s.xcp.working then 1 else 0]) else s.reply .outOfRange) s

/-- COPY_CAL_PAGE: the reference page into the working page. -/
def execXcpCopyCalPage (src dst : Byte) (s : State) : Res :=
  xcpCmd (fun s =>
    if !calAllowed s then s.reply .accessDenied
    else if 1 < src.toNat || 1 < dst.toNat then s.reply .pageNotValid
    else if dst = 0 then s.reply .writeProtected
    else
      let s := if src = 1 then s else match pageBase s false, pageBase s true with
        | some (r, n), some (w, _) =>
          let s := place w (s.bytes r n) s
          if s.xcp.working then pageToWhorls true s else s
        | _, _ => s
      s.reply (.ok [])) s

/-! ### DAQ lists (R481, R562) -/

def State.setList (s : State) (i : Nat) (l : DaqList) : State := s.setXcp { s.xcp with lists := s.xcp.lists.set i l, reply := .ok [] }

/-- FREE_DAQ. -/
def execXcpFreeDaq (s : State) : Res := xcpCmd (fun s => s.setXcp { s.xcp with lists := [], ptr := none, reply := .ok [] }) s

/-- ALLOC_DAQ: only after FREE_DAQ. -/
def execXcpAllocDaq (count : BitVec 16) (s : State) : Res :=
  xcpCmd (fun s => if s.xcp.lists.isEmpty then s.setXcp { s.xcp with lists := List.replicate count.toNat {}, reply := .ok [] } else s.reply .sequence) s

/-- A list that may be configured. -/
def withList (i : Nat) (f : DaqList → State → State) (s : State) : State :=
  match s.xcp.lists[i]? with
  | none => s.reply .outOfRange
  | some l => if l.running then s.reply .sequence else f l s

/-- ALLOC_ODT. -/
def execXcpAllocOdt (list : BitVec 16) (count : Byte) (s : State) : Res :=
  xcpCmd (fun s => withList list.toNat (fun l s => s.setList list.toNat { l with odts := l.odts ++ List.replicate count.toNat [] }) s) s

/-- Entry number that stands for one not yet written: it lies behind the dictionary and reads as undefined. -/
def noEntry : Nat := 131072

/-- ALLOC_ODT_ENTRY. -/
def execXcpAllocOdtEntry (list : BitVec 16) (odt count : Byte) (s : State) : Res :=
  xcpCmd (fun s => withList list.toNat (fun l s =>
    if odt.toNat < l.odts.length then s.setList list.toNat { l with odts := l.odts.set odt.toNat (List.replicate count.toNat noEntry) }
    else s.reply .outOfRange) s) s

/-- SET_DAQ_PTR. -/
def execXcpSetDaqPtr (list : BitVec 16) (odt entry : Byte) (s : State) : Res :=
  xcpCmd (fun s => withList list.toNat (fun l s =>
    if entry.toNat < (l.odts.getD odt.toNat []).length then
      s.setXcp { s.xcp with ptr := some ⟨list.toNat, odt.toNat, entry.toNat⟩, reply := .ok [] }
    else s.reply .outOfRange) s) s

/-- WRITE_DAQ: an entry of the dictionary with its DAQ bit set, of the bytes of its type. -/
def execXcpWriteDaq (size : Byte) (addr : Word) (s : State) : Res :=
  xcpCmd (fun s => match s.xcp.ptr with
    | none => s.reply .sequence
    | some p =>
      let k := (addr.toNat - 0x50000000) / 8
      withList p.list (fun l s =>
        let o := l.odts.getD p.odt []
        if !(p.entry < o.length) then s.reply .sequence
        else if size.toNat != sigBytes (sigType (s.sigEntry k)) || !inDict addr.toNat || addr.toNat % 8 != 0 || !sigDaq (s.sigEntry k) then s.reply .outOfRange
        else
          let s := s.setList p.list { l with odts := l.odts.set p.odt (o.set p.entry k) }
          s.setXcp { s.xcp with ptr := some { p with entry := p.entry + 1 } }) s) s

/-- SET_DAQ_LIST_MODE. -/
def execXcpSetDaqListMode (list : BitVec 16) (mode : Byte) (evch : BitVec 16) (prescaler prio : Byte) (s : State) : Res :=
  xcpCmd (fun s => withList list.toNat (fun l s =>
    if 16 ≤ evch.toNat || 255 < prio.toNat then s.reply .outOfRange
    else s.setList list.toNat { l with mode := mode.toNat, evch := evch.toNat, prescaler := max 1 prescaler.toNat, skip := 0 }) s) s

/-- A list starts or stops. -/
def runList (l : DaqList) (b : Bool) : DaqList := { l with running := b, selected := false, sample := none, skip := 0, overload := false }

/-- START_STOP_DAQ_LIST: 0 stop, 1 start, 2 select. -/
def execXcpStartStopDaqList (list : BitVec 16) (mode : Byte) (s : State) : Res :=
  xcpCmd (fun s => match s.xcp.lists[list.toNat]?, mode.toNat with
    | some l, 0 => s.setList list.toNat (runList l false)
    | some l, 1 => s.setList list.toNat (runList l true)
    | some l, 2 => s.setList list.toNat { l with selected := true }
    | _, _ => s.reply .outOfRange) s

/-- START_STOP_SYNCH: 0 stop all, 1 start, 2 stop the selected lists. -/
def execXcpStartStopSynch (mode : Byte) (s : State) : Res :=
  xcpCmd (fun s =>
    let all (f : DaqList → DaqList) : State := s.setXcp { s.xcp with lists := s.xcp.lists.map f, reply := .ok [] }
    match mode.toNat with
    | 0 => all (fun l => runList l false)
    | 1 => all (fun l => if l.selected then runList l true else l)
    | 2 => all (fun l => if l.selected then runList l false else l)
    | _ => s.reply .outOfRange) s

/-- GET_DAQ_PROCESSOR_INFO: dynamic lists, prescaler, timestamp, overload shown in the PID; 16 event channels. -/
def execXcpGetDaqProcessorInfo (s : State) : Res :=
  xcpCmd (fun s => s.reply (.ok [0x53, s.xcp.lists.length % 256, s.xcp.lists.length / 256 % 256, 16, 0, 0, 0])) s

/-- XCP_UNKNOWN_COMMAND (R481): ERR_CMD_UNKNOWN. -/
def execXcpUnknownCommand (code : Byte) (s : State) : Res :=
  xcpCmd (fun s => if 256 ≤ code.toNat then s else s.reply .cmdUnknown) s

end Sys2Proof.Machine
end

