-- ==== Sys2Proof/Machine/Pairs.lean ====
section
/-! DEFINITION. What happens to a Spindle pair as a whole: a pair fault and its reset (R413 to R415), a pair declared unchecked (R419),
a handover to another image (R518). -/

namespace Sys2Proof.Machine
open Sys2Proof

/-- Pair p's firmware starts again: it keeps nothing but shared SRAM and MRAM (R414). The pilot unit is not firmware. -/
def firmwareLost (p : Nat) (s : State) : State :=
  if p = 0 then { s with sup := {} }
  else
    let c := s.chg
    { s with chg := { cand := c.cand, candN := c.candN, bcAt := c.bcAt, iSeen := c.iSeen, iRun := c.iRun, iUse := c.iUse, ppLost := c.ppLost }
             xcp := { working := s.xcp.working } }

/-- A pair fault (R413 to R415): records not yet performed are discarded, EV_SPX_FAULT (16), the code with MISMATCH_CLASS; the pair is
being reset, or after the third fault stays HALTED with 0x0408. -/
def pairFault (p code : Nat) (s : State) : State :=
  if !s.pdReady (2 + p) || !([0, 2, 6].contains (s.get F.SPX_STAT.STATE p) || SMap.get 0 s.upd.migr p == 2) then s
  else
    let s := s.setPair p {}
    let n := min 3 (s.get F.SPX_STAT.RESETS p + 1)
    let s := (s.set F.SPX_STAT.RESETS n p).set F.SPX_STAT.LAST_CODE code p
    let s := raise 16 (issue code (s.get F.SPX_CFG.MISMATCH_CLASS p) s)
    let s := updFault 4 p (firmwareLost p s)
    if n = 3 then issue 0x0408 0 (s.set F.SPX_STAT.STATE 3 p) else s.set F.SPX_STAT.STATE 4 p

/-- The pair is declared unchecked (R419): EV_SPX_UNCHECKED (17), class 2; core 0's records are performed as they stand, core 1's are
discarded; the Kiln is told over the link. -/
def pairUncheck (p code : Nat) (s : State) : State :=
  if !s.pdReady (2 + p) || !([0, 2, 6].contains (s.get F.SPX_STAT.STATE p)) then s
  else
    let x := s.pairSt p
    let s := s.setPair p { x with buf1 := [], halt := 0, sync0 := [], sync1 := [] }
    let s := (s.set F.SPX_STAT.STATE 1 p).set F.SPX_STAT.LAST_CODE code p
    let s := raise 17 (issue code 2 s)
    if s.sys.linkUp then s.setKln { s.kln with unchk := putBit s.kln.unchk p true } else s

/-- The image a reset of the pair loads: while a revert is due, the old one (R522). -/
def pairImage (s : State) (p : Nat) : List Byte :=
  match stepOf s 4 p with
  | some k => if s.upd.revertAt.isSome && s.stepState k == 3 then SMap.get [] s.upd.oldImg (imgKey 4 p) else verified s 4 p
  | none => verified s 4 p

/-- Both TCMs are filled and take an image (R414, R518). -/
def refillTcms (p : Nat) (image : List Byte) (s : State) : State :=
  let mine (k : Nat) : Bool := decide (tcmKey (2 * p) 0 ≤ k ∧ k < tcmKey (2 * p + 2) 0)
  loadTcms p image { s with mem := s.mem.filter (fun e => !mine e.1), fab := { s.fab with poison := s.fab.poison.filter (fun k => !mine k) } }

/-- PAIR_RESET_DONE (R414, R415): the TCMs hold the verified image again and both cores start: EV_SPX_RESET (18); a word of the image
that cannot be read leaves the pair HALTED with 0x0409. -/
def pairResetDone (p : Nat) (synd : Syndrome) (s : State) : State :=
  if !s.pdReady (2 + p) || s.get F.SPX_STAT.STATE p != 4 || SMap.get 0 s.upd.migr p != 0 then s
  else
    let at' := ((s.sys.loader.descs.find? (fun d => d.type == 4 && d.inst == p)).map (fun d => d.loadAddr)).getD 0x10000000
    match readWord at' synd s with
    | (.bad, s) => issue 0x0409 0 (s.set F.SPX_STAT.STATE 3 p)
    | (.ok, s) =>
      let s := (refillTcms p (pairImage s p) s).setPair p {}
      raise 18 (s.set F.SPX_STAT.STATE 0 p)

/-- The pair is reset under R414 without a fault of its own (R518). -/
def pairRestart (p : Nat) (s : State) : State :=
  (firmwareLost p (s.setPair p {})).set F.SPX_STAT.STATE 4 p

/-- An online test ends (R566, R569): RESULT, EV_OLT_DONE (234), and for a failure EV_OLT_FAIL (232). -/
def oltEnd (result : Nat) (s : State) : State :=
  let s := { s with olt := { s.olt with test := none } }
  let s := raise 234 ((s.set F.DBG_OLT_REQ.BUSY 0).set F.DBG_OLT_REQ.RESULT result)
  if result = 1 then raise 232 (s.bump F.DBG_OLT_STAT.FAIL_CNT F.DBG_OLT_STAT.SAT) else s

/-- An online test begins. -/
def oltBegin (kind target : Nat) (s : State) : State :=
  { (s.set F.DBG_OLT_REQ.BUSY 1) with olt := { s.olt with test := some (kind, target) } }

/-! ### Handover to another image (R518) -/

/-- The mode and the claims permit a handover. -/
def spxModeOk (s : State) : Bool :=
  [2, 4, 7].contains s.mode ||
    (s.mode == 3 && [0, 1, 2, 3].all (fun k => decide (SMap.get 0 s.kln.claims k ≤ s.get F.UPD_CFG.UPD_I_MAX)))

/-- All of R518's conditions for step x. -/
def spxHandoverOk (s : State) (p : Nat) (migT : Nat) : Bool :=
  spxModeOk s && s.pdReady (2 + p) && s.get F.SPX_STAT.STATE p == 0 &&
    (p != kreqPair s || decide (1000 ≤ tbl16 s.kln.table 0xCC)) && decide (100 * (20 + migT) + 16384 ≤ 60000)

def State.setMigr (s : State) (p v : Nat) : State := s.setUpd { s.upd with migr := SMap.put 0 s.upd.migr p v }
def State.setWant (s : State) (k v : Nat) : State := s.setUpd { s.upd with want := SMap.put 0 s.upd.want k v }

/-- ARMED of a pair. -/
def armedFld (p : Nat) : Fld := if p = 0 then F.UPD_SPX.ARMED_A else F.UPD_SPX.ARMED_B

/-- A checkpoint value found equal in both cores: the tagged one starts an armed handover, the cores stop and STATE reads RESETTING. -/
def handoverTag (p value : Nat) (s : State) : State :=
  if s.getB (armedFld p) && value == s.get F.UPD_SPX.HO_TAG && spxModeOk s && s.get F.SPX_STAT.STATE p == 0 then
    let s := firmwareLost p ((s.set (armedFld p) 0).setPair p {})
    (s.setMigr p 1).set F.SPX_STAT.STATE 4 p
  else s

/-- HO_TAG + 1 from both cores ends the migration: CHECKED, and the step is active (R518), or the old image runs again (R522). -/
def handoverEnd (p value : Nat) (s : State) : State :=
  if SMap.get 0 s.upd.migr p == 2 && value == (s.get F.UPD_SPX.HO_TAG + 1) % 65536 then
    let back := SMap.get 0 s.upd.want p == 2
    let s := ((s.setMigr p 0).setWant p 0).set F.SPX_STAT.STATE 0 p
    match back, stepOf s 4 p with
    | false, some k => stepActive k s
    | _, _ => s
  else s

/-- SPX_HANDOVER_DISARM (R518): 200 µs after the answer. -/
def spxDisarm (p : Nat) (s : State) : State := s.set (armedFld p) 0

/-- SPX_TCM_LOAD_DONE (R518): the cores are released at the migration entry. -/
def tcmLoadDone (p : Nat) (s : State) : State :=
  if SMap.get 0 s.upd.migr p != 1 then s
  else
    let image := if SMap.get 0 s.upd.want p = 2 then SMap.get [] s.upd.oldImg (imgKey 4 p) else SMap.get [] s.upd.newImg (imgKey 4 p)
    (refillTcms p image s).setMigr p 2

/-- MIGRATION_TIMEOUT (R518): the pair is reset onto the old image: REASON 12, 0x0222. -/
def migrationTimeout (p : Nat) (s : State) : State :=
  if SMap.get 0 s.upd.migr p != 2 then s
  else pairRestart p (activateFail 12 ((s.setMigr p 0).setWant p 0))

end Sys2Proof.Machine
end

