-- ==== Sys2Proof/Machine/UpdOps.lean ====
section
/-! DEFINITION. The update commands as Tinder carries them out (R509 to R525): a manifest's checks, writing, activation, confirmation,
revert, and the completion of a flash operation. -/

namespace Sys2Proof.Machine
open Sys2Proof

/-- A command that is out of order: RESULT 11, REASON 7 (R509). -/
def outOfOrder (s : State) : State := tndEnd 11 [] (updReason 7 s)

/-! ### UPD_BEGIN (R510 to R512) -/

/-- Descriptors that stand in the flash: the running image's, or, in the limp image, those the loader finds there. -/
def flashDescs (s : State) (x : Manifest) : List Descriptor := if s.sys.loader.limp then x.flash else s.sys.loader.descs

/-- Interfaces of a component. -/
def ifacesOf (c : CompInfo) : List Iface × List Iface := (c.provides, c.requires)

/-- A combination with one component replaced. -/
def replaceIn (c : CompInfo) (l : List CompInfo) : List CompInfo := l.map (fun x => if x.type = c.type ∧ x.inst = c.inst then c else x)

/-- Every combination of R511: F after each writing, C after each activation. -/
def combosOk : List ManStep → List CompInfo → List CompInfo → Bool
  | [], run, flash => ifacesOk (run.map ifacesOf) && ifacesOk (flash.map ifacesOf)
  | x :: r, run, flash =>
    let f := replaceIn (compOf x.desc) flash
    let c := if x.act then run else replaceIn (compOf x.desc) run
    ifacesOk (run.map ifacesOf) && ifacesOk (flash.map ifacesOf) && ifacesOk (f.map ifacesOf) && combosOk r c f

/-- A HITLESS step keeps the settings format (R512). -/
def formatKept (run : List CompInfo) (x : ManStep) : Bool :=
  let num := if x.desc.type = 5 then 0x100 + x.desc.inst else 0x200 + x.desc.inst
  if x.act || (x.desc.type != 5 && x.desc.type != 4) then true
  else match run.find? (fun c => c.type == x.desc.type && c.inst == x.desc.inst) with
    | none => true
    | some c => (c.provides.filter (fun i => i.num == num)).all (fun i => x.desc.provides.any (fun j => j.num == num && j.major == i.major))

/-- Types whose steps take effect at the next START only (R516). -/
def nextStartOnly (t : Nat) : Bool := [1, 6, 7, 9, 10].contains t

/-- The first check of R510 that fails: RESULT and REASON. -/
def beginCheck (s : State) (x : Manifest) : Option (Nat × Nat) :=
  let old := flashDescs s x
  let run := s.sys.loader.done
  let of (y : ManStep) : Option Descriptor := old.find? (fun d => d.type == y.desc.type && d.inst == y.desc.inst)
  let formOk := x.formatOk && decide (1 ≤ x.steps.length ∧ x.steps.length ≤ 28) && decide (10 ≤ x.probT ∧ x.probT ≤ 3600)
  let versionsOk := x.steps.all (fun y => decide (s.tnd.fuse.secCtr ≤ y.desc.secVersion) &&
    (match of y with
      | some d => x.downgrade || decide (d.version ≤ y.desc.version)
      | none => true))
  let samePlace := x.steps.all (fun y =>
    (match of y with
      | some d => d.flashOffset == y.desc.flashOffset && d.slotLen == y.desc.slotLen && d.loadAddr == y.desc.loadAddr && decide (y.desc.len ≤ d.slotLen)
      | none => false) && (y.header == (y.desc.type == 9)) && (y.act || !nextStartOnly y.desc.type))
  if !formOk then some (11, 1)
  else if !x.sigOk || !x.steps.all (fun y => y.desc.sigOk) then some (3, 1)
  else if x.seq ≤ s.journal.lastSeq then some (11, 2)
  else if !x.baseOk || s.journal.steps.any (fun e => 1 ≤ e.2) && !s.sys.loader.limp then some (11, 3)
  else if !(combosOk x.steps run (old.map compOf) && x.steps.all (formatKept run)) then some (11, 4)
  else if !versionsOk then some (11, 5)
  else if !x.stageOk then some (11, 6)
  else if !samePlace then some (11, 11)
  else none

/-- UPD_BEGIN: a refusal is 0x0220 and EV_UPD_REFUSED (60); an accepted manifest's SEQ goes into the journal. From the limp image every
step takes effect at the next START (R524). -/
def updBegin (x : Manifest) (s : State) : State :=
  if s.upd.man.isSome || s.upd.revertAt.isSome then outOfOrder s
  else match beginCheck s x with
    | some (result, reason) => tndEnd result [] (raise 60 (issue 0x0220 0 (updReason reason s)))
    | none =>
      let man := if s.sys.loader.limp then { x with steps := x.steps.map (fun y => { y with act := true }) } else x
      let s := s.setJournal { lastSeq := x.seq, manifest := x.hash, nSteps := x.steps.length, probT := x.probT }
      let s := s.setUpd { s.upd with man := some man, oldImg := [], newImg := [], oldComp := [], loc := [], retried := false }
      let s := (s.set F.UPD_STAT.N_STEPS x.steps.length).set F.UPD_STAT.STEP 0
      tndEnd 0 [] (updShowState (s.set F.UPD_STAT.PROB_CNT 0))

/-! ### UPD_WRITE (R513 to R515) -/

/-- A flash operation begins; memory-mapped reads are refused while it runs (R98). -/
def flashOp (op step : Nat) (s : State) : State :=
  (s.setJournal { s.journal with op := op, step := step }).set F.SKN_STAT.BUSY 1

/-- The flash is free again. -/
def flashIdle (s : State) : State := (s.setJournal { s.journal with op := 0 }).set F.SKN_STAT.BUSY 0

/-- The next step to write: every earlier one is active. -/
def nextWrite (s : State) : Option Nat :=
  match s.upd.man with
  | none => none
  | some m => (List.range m.steps.length).find? (fun k => s.stepState k != 3) |>.bind (fun k => if s.stepState k = 0 then some k else none)

/-- UPD_WRITE: the stored bytes are checked, then the flash is written; FLASH_OPERATION_DONE ends it. -/
def updWrite (s : State) : State :=
  match nextWrite s with
  | none => outOfOrder s
  | some k =>
    match manStep s k with
    | none => outOfOrder s
    | some x =>
      if s.upd.revertAt.isSome || s.journal.op != 0 then outOfOrder s
      else if !x.hashOk || (x.desc.flags.testBit 0 && !x.tagOk) then tndEnd (Config.tndOpen 2 % 256) [] (updReason (Config.tndOpen 3 % 16) s)
      else
        let key := imgKey x.desc.type x.desc.inst
        let s := s.setUpd { s.upd with
          oldImg := SMap.put [] s.upd.oldImg key (verified s x.desc.type x.desc.inst)
          newImg := SMap.put [] s.upd.newImg key x.data, retried := false }
        flashOp 1 k (((s.setStep k 1).set F.UPD_STAT.STATE 2).set F.UPD_STAT.STEP k)

/-! ### UPD_ACTIVATE (R516 to R518) -/

/-- A standby that may prepare for a handover. -/
def standbyFor (s : State) : Option Nat :=
  if !s.getB F.MODE_STAT.STANDBY_OK || s.whl.handover.isSome then none
  else (List.range 8).find? (fun w => s.get F.WHL_CTL.ROLE w == 1 && whlReady s w && !(s.whorl w).subst)

/-- The standby prepares for Whorl t (R192), to shadow it in mode TOL. -/
def prepareFor (w t : Nat) (s : State) : State :=
  let s := s.setWhorl w { s.whorl w with prep := .preparing, target := t, sessMiss := 0, agree := [], agreed := false }
  (s.set F.WHL_SHADOW.TARGET t w).set F.WHL_SHADOW.ACTIVE 0 w

/-- Where the code of an updated Whorl runs now. -/
def whorlNow (s : State) (n : Nat) : Nat :=
  match SMap.get 0 s.upd.loc n with
  | 0 => n
  | b + 1 => b

/-- New calibration pages beside the old ones, CAL_SEL, and the Whorl entries in one batch each. -/
def calSwitch (new : Bool) (s : State) : State := pageToWhorls s.xcp.working (s.setB F.UPD_SPX.CAL_SEL new)

/-- UPD_ACTIVATE of the step that is written. -/
def updActivate (s : State) : State :=
  match (List.range 28).find? (fun k => s.stepState k == 2) with
  | none => outOfOrder s
  | some k =>
    match manStep s k with
    | none => outOfOrder s
    | some x =>
      let busy := SMap.get 0 s.upd.want x.desc.inst != 0 && x.desc.type == 4 || SMap.get 0 s.upd.want (16 + whorlNow s x.desc.inst) != 0 && x.desc.type == 5
      if s.upd.revertAt.isSome || busy then outOfOrder s
      else
        let show3 (s : State) : State := (s.set F.UPD_STAT.STATE 3).set F.UPD_STAT.STEP k
        if x.act then stepActive k s
        else match x.desc.type with
          | 2 => stepActive k (if s.emb.inPass then { s with emb := { s.emb with progNext := some x.program } } else installProgram x.program s)
          | 8 => match calRegion s with
            | some (b, n) => stepActive k (calSwitch true (place (b + n) x.data s))
            | none => stepActive k s
          | 5 => match standbyFor s with
            | none => tndEnd 5 [] (updReason 9 s)
            | some w => prepareFor w (whorlNow s x.desc.inst) (show3 (s.setWant (16 + whorlNow s x.desc.inst) 1))
          | 4 => if spxHandoverOk s x.desc.inst x.migT then show3 (s.setWant x.desc.inst 1) else tndEnd 5 [] (updReason 8 s)
          | _ => stepActive k s

/-! ### Reverting (R522) -/

/-- One active step is undone: the running copy, or its handover back, and the copy a reset takes. -/
def undoStep (k : Nat) (s : State) : State :=
  match manStep s k with
  | none => s
  | some x =>
    if s.stepState k != 3 || x.act then s
    else
      let t := x.desc.type
      let i := x.desc.inst
      let old := SMap.get [] s.upd.oldImg (imgKey t i)
      let s := setVerified t i old s
      let s := match s.upd.oldComp.find? (fun c => c.type == t && c.inst == i) with
        | some c => replaceComp c s
        | none => s
      match t with
      | 2 => if s.emb.inPass then { s with emb := { s.emb with progNext := some s.sys.loader.program } } else installProgram s.sys.loader.program s
      | 8 => calSwitch false s
      | 5 =>
        let b := whorlNow s i
        let s := s.setUpd { s.upd with oldImg := SMap.put [] s.upd.oldImg (imgKey 5 b) old }
        match standbyFor s with
        | some w => prepareFor w b (s.setWant (16 + b) 2)
        | none => s.setWant (16 + b) 2
      | 4 => if s.get F.SPX_STAT.STATE i = 4 ∧ SMap.get 0 s.upd.migr i = 0 then s else s.setWant i 2
      | _ => s

/-- The steps are undone in reverse order, then the flash is rewritten from staging. -/
def undoAll (s : State) : State :=
  let s := (List.range 28).reverse.foldl (fun s k => undoStep k s) s
  flashOp 3 s.journal.step (updShowState (s.setUpd { s.upd with revertAt := some 1 }))

/-- The journal with no update in progress. -/
def journalClear (s : State) : State := s.setJournal { lastSeq := s.journal.lastSeq, manifest := s.journal.manifest, reason := s.journal.reason }

/-- UPD_STAT with no update in progress. -/
def statClear (s : State) : State :=
  (((s.set F.UPD_STAT.PROB_CNT 0).set F.UPD_STAT.N_STEPS 0).set F.UPD_STAT.OLD_KEPT 0).set F.UPD_STAT.STATE 0

/-- The revert's flash rewrite is done: EV_UPD_REVERTED (59), 0x0223; handovers back that wait keep waiting. A write that failed with no
step active reverts nothing. -/
def revertDone (s : State) : State :=
  let any := s.journal.steps.any (fun e => e.2 == 3)
  let was10 := s.journal.reason == 10 && !any
  let s := statClear (journalClear s)
  let keep := s.upd.want.filter (fun e => e.2 == 2)
  let s := s.setUpd { oldImg := if keep.isEmpty then [] else s.upd.oldImg, want := keep, migr := s.upd.migr, loc := s.upd.loc }
  let s := if was10 then s else raise 59 (issue 0x0223 0 s)
  tndEnd 0 [] s

/-- UPD_REVERT: REASON 15; after a START it is out of order (R523). -/
def updRevert (s : State) : State :=
  if s.upd.man.isNone || s.journal.started || s.upd.revertAt.isSome || s.journal.op != 0 then outOfOrder s
  else if s.journal.steps.any (fun e => 2 ≤ e.2) then undoAll (revertBegin 15 s)
  else revertDone (updReason 15 s)

/-! ### UPD_CONFIRM (R521) -/

/-- UPD_CONFIRM: every step active, and a START has run the new image if a step needs one. -/
def updConfirm (advance : Bool) (s : State) : State :=
  let j := s.journal
  let allActive := j.nSteps != 0 && (List.range j.nSteps).all (fun k => s.stepState k == 3)
  let needs := match s.upd.man with
    | some m => m.steps.any (fun x => x.act) && !j.started
    | none => !j.started
  if !allActive || needs || s.upd.revertAt.isSome || j.op != 0 || s.sys.loader.limp then outOfOrder s
  else
    let sec := match s.sys.loader.hdr with
      | some h => h.secVersion
      | none => 0
    let s := s.setJournal { j with advance := advance, next := sec, steps := j.steps.map (fun e => (e.1, 4)) }
    flashOp 2 0 (s.set F.UPD_STAT.STATE 5)

/-- Descriptors of the running image after a confirmation. -/
def descsAfter (m : Manifest) (ds : List Descriptor) : List Descriptor :=
  ds.map (fun d => match m.steps.find? (fun x => x.desc.type == d.type && x.desc.inst == d.inst) with
    | some x => x.desc
    | none => d)

/-- The confirmation is done: old copies are released, each new copy stands where the old one did, EV_UPD_CONFIRMED (58). -/
def confirmDone (s : State) : State :=
  let s := match s.upd.man with
    | none => s
    | some m =>
      let s := m.steps.foldl (fun s x =>
        if x.act then s
        else match x.desc.type with
          | 2 => s.setLoader { s.sys.loader with program := x.program }
          | 8 => if inSram x.desc.loadAddr then (place x.desc.loadAddr x.data s).set F.UPD_SPX.CAL_SEL 0 else s
          | 4 => if inSram x.desc.loadAddr then place x.desc.loadAddr x.data s else s
          | _ => s) s
      s.setLoader { s.sys.loader with descs := descsAfter m s.sys.loader.descs }
  let s := statClear (confirmJournal s)
  tndEnd 0 [] (tndShow (s.setUpd {}))

/-! ### UPD_STATUS (R509, R513) -/

/-- The journal in 256 bytes. -/
def journalBytes (j : Journal) : List Byte :=
  let b (n : Nat) : Byte := BitVec.ofNat 8 n
  let l := toBytes 4 j.lastSeq ++ toBytes 48 j.manifest ++ [b j.nSteps, b j.probCnt, b j.reason, b j.op] ++ toBytes 4 j.deadline ++
    (List.range 28).map (fun k => b (SMap.get 0 j.steps k))
  l ++ List.replicate (256 - l.length) 0

/-! ### Flash operations that end, and the deadline -/

/-- A write whose repeat failed too: REASON 10, 0x0221; the old bytes are put back and the active steps reverted (R515). -/
def writeFailed (s : State) : State :=
  let s := s.setStep s.journal.step 0
  let s := tndEnd 11 [] (updReason 10 (issue 0x0221 0 s))
  undoAll (s.setUpd { s.upd with revertAt := some 0 })

/-- FLASH_OPERATION_DONE (R514, R515, R521, R522): the operation the journal names has ended and been read back. A revert that a fault
began waits for it. -/
def flashDone (readOk : Bool) (s : State) : State :=
  let j := s.journal
  match j.op with
  | 1 =>
    if readOk then
      let s := raise 56 (flashIdle (s.setStep j.step 2))
      let s := tndEnd 0 [BitVec.ofNat 8 j.step] (updShowState s)
      if s.upd.revertAt = some 0 then undoAll s else s
    else if !s.upd.retried then s.setUpd { s.upd with retried := true }
    else writeFailed (flashIdle s)
  | 2 => if readOk then confirmDone (flashIdle s) else s
  | 3 => if readOk then revertDone (flashIdle s) else s
  | _ => if s.upd.revertAt = some 0 then undoAll s else s

/-- The probation deadline (R522, R523). -/
def probationDeadline (s : State) : State :=
  let j := s.journal
  if j.started then
    if j.steps.any (fun e => e.2 == 3) then
      issue 0x0225 0 ((s.setJournal { j with probCnt := 3 }).set F.UPD_STAT.PROB_CNT 3)
    else s
  else if s.upd.man.isSome && s.upd.revertAt.isNone && j.steps.any (fun e => e.2 == 3) && j.op != 2 then
    let s := revertBegin 13 s
    if j.op = 0 then undoAll s else s
  else s

end Sys2Proof.Machine
end

