-- ==== Sys2Proof/Machine/Tinder.lean ====
section
/-! DEFINITION. Tinder's mailboxes and commands (R486 to R500, R503): a command is committed, carried out in its mailbox's turn, and
shown complete by TND_COMMAND_DONE. -/

namespace Sys2Proof.Machine
open Sys2Proof

def State.setTnd (s : State) (x : TndSt) : State := { s with tnd := x }

/-! ### The matrix (R495, R503) -/

/-- No gate power and STO applied. -/
def gatesOff (s : State) : Bool := s.kln.gen == 0 && !s.kln.stoHs && !s.kln.stoLs

/-- The conditions of L2 (R495): LINK_HK valid and below DBG_LINK. -/
def l2Cond (s : State) : Bool :=
  gatesOff s && s.pdReady 10 && s.getB F.HK_RES.VALID (tblByte s.kln.table 0xF9) && decide (s.kln.linkV < tbl16 s.kln.table 0x124)

/-- Highest level by challenge-response in this lifecycle state and mode. -/
def challengeLevel (s : State) : Nat :=
  match lifecycle s, s.mode with
  | 0, _ => 0
  | 4, _ => 0
  | _, 0 => 0
  | _, 3 => 1
  | _, 4 => 1
  | _, 5 => 1
  | 2, 1 => 1
  | 2, 7 => 3
  | 2, _ => 2
  | _, _ => 3

/-- The present cell is one of L3, by whatever way: a privileged command needs it (R503). -/
def privCell (s : State) : Bool :=
  if lifecycle s = 0 then !(([0, 3, 4, 5] : List Nat).contains s.mode) else challengeLevel s == 3

/-- RESULT of a level that the present cell does not give: 5 where another mode gives it, else 6. -/
def levelRefusal (s : State) : Nat := if lifecycle s = 0 ∨ lifecycle s = 4 then 6 else 5

/-- A level is granted: it replaces the present grant and its expiry; EV_DBG_LEVEL (49). -/
def grantLevel (level mb lifetime : Nat) (s : State) : State :=
  let s := ((s.set F.DBG_STAT.LEVEL level).set F.DBG_STAT.SOURCE mb).set F.DBG_STAT.LEFT (min lifetime 131071)
  raise 49 (s.setTnd { s.tnd with expiry := lifetime != 0, grantEnd := s.fab.ts + lifetime * 100000000 })

/-! ### What a command answers -/

/-- The served command has its outcome. -/
def tndAnswer (result : Nat) (out : List Byte) (s : State) : State :=
  match s.tnd.serving with
  | some (mb, _) => s.setTnd { s.tnd with serving := some (mb, { result := result, out := out, wait := false }) }
  | none => s

/-- GET_INFO: identity, lifecycle state, counters, roles and revocations. -/
def infoBytes (s : State) : List Byte :=
  let f := s.tnd.fuse
  toBytes 16 f.deviceId ++ [BitVec.ofNat 8 (lifecycle s)] ++ toBytes 2 f.secCtr ++ [BitVec.ofNat 8 f.limpCtr] ++
    [0, 1, 2, 3].map (fun k => BitVec.ofNat 8 (SMap.get 0 f.role k)) ++ [BitVec.ofNat 8 f.revoked]

/-! ### CHALLENGE and RESPONSE (R496, R497) -/

/-- Purposes of a challenge: three levels and the privileged commands. -/
def isPurpose (p : Nat) : Bool := [1, 2, 3, 0x06, 0x11, 0x30, 0x31, 0x32, 0x33].contains p

/-- Commands refused after a failed SELF_TEST (R488). -/
def testRefuses (s : State) (code : Nat) : Bool := s.tnd.testBad && (code == 2 || code == 3 || decide (0x10 ≤ code ∧ code ≤ 0x25))

/-- The 96-byte block. -/
def challengeBlock (s : State) (mb purpose lifetime argHash nonce : Nat) : List Byte :=
  [BitVec.ofNat 8 purpose, BitVec.ofNat 8 (lifecycle s), BitVec.ofNat 8 s.mode, BitVec.ofNat 8 mb] ++ toBytes 4 lifetime ++ toBytes 8 0 ++
    toBytes 16 s.tnd.fuse.deviceId ++ toBytes 32 nonce ++ toBytes 32 argHash

/-- CHALLENGE: a new one replaces the pending one. -/
def challenge (mb purpose lifetime argHash nonce : Nat) (s : State) : State :=
  if s.tnd.lockout.testBit mb then tndAnswer 2 [] s
  else if s.tnd.rngBad then tndAnswer 10 [] s
  else if !isPurpose purpose then tndAnswer 11 [] s
  else if lifetime = 0 ∧ !([0, 1, 3].contains (lifecycle s)) then tndAnswer 11 [] s
  else
    let h := if purpose ≤ 3 then 0 else argHash
    let s := s.setTnd { s.tnd with chal := SMap.put none s.tnd.chal mb (some ⟨purpose, lifetime, h⟩) }
    tndAnswer 0 (challengeBlock s mb purpose lifetime h nonce) s

/-- Failed authentication under steps 2 to 4: 0x0201, EV_DBG_AUTH_FAIL (51), no CHALLENGE for 1 s. -/
def authFailed (mb result : Nat) (s : State) : State :=
  let s := raise 51 (tndFault 0x0201 s)
  tndAnswer result [] (s.setTnd { s.tnd with lockout := putBit s.tnd.lockout mb true })

/-! ### Privileged commands (R487, R489, R491, R492, R498) -/

/-- Code that a privileged argument belongs to. -/
def purposeOf : PrivArg → Nat
  | .level => 0
  | .pwSet _ => 0x06
  | .freshSet .. => 0x11
  | .lcAdvance .. => 0x30
  | .secAdvance .. => 0x31
  | .keySlot .. => 0x32
  | .skeinKey _ => 0x32
  | .fuseConfig .. => 0x32
  | .keyRevoke _ => 0x33

def State.setFuse (s : State) (f : FuseSt) : State := s.setTnd { s.tnd with fuse := f }
def State.setPriv (s : State) (p : PrivMram) : State := s.setTnd { s.tnd with priv := p }

/-- FRESH_SET: a receive definition's last, or a transmit definition's stored value. -/
def freshSet (d : Nat) (tx : Bool) (v : Nat) (s : State) : State :=
  if tx then
    let s := s.store (freshKey true d) 4 v
    s.setReel { s.bus.reel with txF := SMap.put 0 s.bus.reel.txF d v }
  else
    let s := s.store (freshKey false d) 4 v
    s.setReel { s.bus.reel with last := SMap.put 0 s.bus.reel.last d v }

/-- A key slot of this role exists and is not revoked. -/
def slotWith (s : State) (bit : Nat) (revoked : Nat) : Bool :=
  [0, 1, 2, 3].any (fun k => (SMap.get 0 s.tnd.fuse.role k).testBit bit && SMap.get 0 s.tnd.fuse.keyHash k != 0 && !revoked.testBit k)

/-- The step from one lifecycle state to another that R491 names. -/
def lcStep (s : State) (target : Nat) : Bool :=
  match lifecycle s, target with
  | 0, 1 => s.tnd.fuse.skeinKey != 0 && slotWith s 0 0 && slotWith s 1 0
  | 1, 2 => true
  | 2, 3 => true
  | 1, 4 => true
  | 2, 4 => true
  | 3, 4 => true
  | _, _ => false

/-- LC_ADVANCE (R491, R492): `copies` of the bit are blown now; fewer than three is an interrupted programming, 0x0207. -/
def lcAdvance (target copies : Nat) (erased : Bool) (s : State) : Nat × State :=
  if !([2, 6, 7].contains s.mode) || !gatesOff s then (5, s)
  else if !lcStep s target then (6, s)
  else
    let was := lifecycle s
    let f := s.tnd.fuse
    let n := max (f.lc.getD (target - 1) 0) (min copies 3)
    let s := s.setFuse { f with lc := f.lc.set (target - 1) n }
    let s := if copies < 3 then tndFault 0x0207 s else s
    if lifecycle s = was then (0, s)
    else
      let s := if was = 0 then s.setFuse { s.tnd.fuse with pwSalt := Config.pwSalt f.deviceId % 2 ^ 128 } else s
      let s := debugRevoke 5 0 (raise 53 s)
      let s := s.setTnd { s.tnd with chal := [] }
      let s := if target = 3 then (if erased then zeroise s else tndFault 0x0207 s) else s
      (0, tndShow s)

/-- Carry out a privileged argument: RESULT and the state after. -/
def privileged (arg : PrivArg) (s : State) : Nat × State :=
  let f := s.tnd.fuse
  match arg with
  | .level => (11, s)
  | .pwSet h => (0, s.setPriv { s.tnd.priv with pwHash := some h })
  | .freshSet d tx v => (0, freshSet d.val tx (v % 2 ^ 32) s)
  | .lcAdvance t c e => lcAdvance t.val c e s
  | .secAdvance limp v =>
    if limp then (if v < f.limpCtr ∨ 32 < v then (11, s) else (0, s.setFuse { f with limpCtr := v }))
    else if v < f.secCtr ∨ 256 < v then (11, s)
    else (0, tndShow (s.setFuse { f with secCtr := v }))
  | .keySlot k roles h =>
    if SMap.get 0 f.keyHash k != 0 || h = 0 then (11, s)
    else (0, tndShow (s.setFuse { f with keyHash := SMap.put 0 f.keyHash k h, role := SMap.put 0 f.role k roles }))
  | .skeinKey key => if f.skeinKey != 0 then (11, s) else (0, tndShow (s.setFuse { f with skeinKey := key }))
  | .fuseConfig j p => (0, tndShow (s.setFuse { f with jtagOff := f.jtagOff || j, pwOff := f.pwOff || p }))
  | .keyRevoke k =>
    let r := putBit f.revoked k true
    if !slotWith s 0 r || !slotWith s 1 r then (11, s) else (0, tndShow (s.setFuse { f with revoked := r }))

/-- RESPONSE: the checks in their order; every outcome consumes the challenge. -/
def response (mb : Nat) (a : AuthIn) (arg : PrivArg) (s : State) : State :=
  match SMap.get none s.tnd.chal mb with
  | none => tndAnswer 4 [] s
  | some c =>
    let s := s.setTnd { s.tnd with chal := SMap.put none s.tnd.chal mb none }
    let f := s.tnd.fuse
    let known := [0, 1, 2, 3].any (fun k => SMap.get 0 f.keyHash k == a.keyHash && SMap.get 0 f.keyHash k != 0 && (SMap.get 0 f.role k).testBit 1 &&
      !f.revoked.testBit k)
    if !known then authFailed mb 9 s
    else if !a.sigOk then authFailed mb 3 s
    else if 3 < c.purpose ∧ a.argHash ≠ c.argHash then authFailed mb 11 s
    else if c.purpose ≤ 3 then
      if challengeLevel s < c.purpose || (c.purpose == 2 && !l2Cond s) then tndAnswer (levelRefusal s) [] s
      else if c.purpose < s.dbgLevel then tndAnswer 11 [] s
      else tndAnswer 0 [] (grantLevel c.purpose mb c.lifetime s)
    else if purposeOf arg ≠ c.purpose then tndAnswer 11 [] s
    else if c.purpose ≠ 0x30 ∧ privCell s = false then tndAnswer (levelRefusal s) [] s
    else
      let (r, s) := privileged arg s
      tndAnswer r [] s

/-! ### PASSWORD (R498, R499) -/

/-- The lockout: a clock that was set back moves it; past it the count is cleared. -/
def lockoutNow (s : State) : State :=
  let p := s.tnd.priv
  let t := s.get F.EMB_RTC_SEC.SEC
  if p.lockUntil = 0 then s
  else if t + 3600 < p.lockUntil then s.setPriv { p with lockUntil := t + 3600 }
  else if p.lockUntil ≤ t then s.setPriv { p with lockUntil := 0, pwFails := 0 }
  else s

/-- PASSWORD: `hash` is SHA-256(PW_SALT ‖ password). -/
def password (mb hash : Nat) (s : State) : State :=
  let s := lockoutNow s
  let p := s.tnd.priv
  match p.pwHash with
  | none => tndAnswer 6 [] s
  | some h =>
    if s.tnd.fuse.pwOff || lifecycle s = 0 || lifecycle s = 4 then tndAnswer 6 [] s
    else if p.lockUntil != 0 then tndAnswer 7 [] (tndShow s)
    else if h = hash then
      let s := s.setPriv { p with pwFails := 0 }
      tndAnswer 0 [] (tndShow (if s.dbgLevel ≤ 1 then grantLevel 1 mb 0 s else s))
    else
      let n := p.pwFails + 1
      let s := raise 51 (tndFault 0x0202 (s.setPriv { p with pwFails := n }))
      let s := if n ≥ 3 then
          raise 52 (tndFault 0x0203 (s.setPriv { s.tnd.priv with lockUntil := s.get F.EMB_RTC_SEC.SEC + 3600 }))
        else s
      tndAnswer 8 [] (tndShow s)

/-! ### Keys and services (R487, R488, R490) -/

/-- KEY_IMPORT: an import to a CMAC slot zeroes the freshness of every definition that uses it. -/
def keyImport (slot key : Nat) (tagOk : Bool) (s : State) : State :=
  if 32 ≤ slot then tndAnswer 11 [] s
  else if s.tnd.fuse.skeinKey = 0 ∨ s.tnd.fuse.skeinKey = 2 ^ 256 - 1 then tndAnswer 9 [] s
  else if !tagOk then tndAnswer 3 [] s
  else
    let s := s.setPriv { s.tnd.priv with keys := SMap.put 0 s.tnd.priv.keys slot key }
    let r := s.sys.cfg.reel
    let s := if 16 ≤ slot then s
      else
        let s := (r.rx.zipIdx.filter (fun e => e.1.secured && e.1.key == slot)).foldl (fun s e => freshSet e.2 false 0 s) s
        (r.tx.zipIdx.filter (fun e => e.1.secured && e.1.key == slot)).foldl (fun s e => freshSet e.2 true 0 s) s
    tndAnswer 0 [] s

/-- Services 0x20 to 0x25 over shared SRAM. -/
def service (code : Nat) (x : ServiceIn) (s : State) : State :=
  let keyed := code == 0x20 || code == 0x21
  let out := x.out.take (if code = 0x25 then 256 else x.out.length)
  if code = 0x25 && s.tnd.rngBad then tndAnswer 10 [] s
  else if keyed && !decide (16 ≤ x.slot ∧ x.slot < 32) then tndAnswer 11 [] s
  else if keyed && SMap.get 0 s.tnd.priv.keys x.slot == 0 then tndAnswer 9 [] s
  else if !x.srcOk || !inSram x.dst || !decide (x.dst + out.length ≤ 0x11000000) then tndAnswer 11 [] s
  else if !x.ok then tndAnswer 3 [] s
  else tndAnswer 0 [] (if code = 0x23 ∨ code = 0x24 then s else place x.dst out s)

/-- A failed known-answer test: 0x0205, and commands are refused until the next START (R488). -/
def testFailed (s : State) : State :=
  let s := tndFault 0x0205 s
  s.setTnd { s.tnd with testBad := true }

/-- SELF_TEST counts as an online test (R566); it ends with the command. -/
def selfTest (ok : Bool) (s : State) : State :=
  if !([1, 2, 7].contains s.mode) || s.olt.test.isSome then tndAnswer 5 [] s
  else
    let s := oltBegin 5 (if ok then 0 else 1) s
    if ok then tndAnswer 0 [] s else tndAnswer (Config.tndOpen 0 % 256) [] (testFailed s)

/-- The command that ends was the self-test. -/
def selfTestEnd (s : State) : State :=
  match s.olt.test with
  | some (5, r) => oltEnd r s
  | _ => s

/-! ### Serving -/

/-- Code of a committed command, as the mailbox rules need it. -/
def codeOf : TndCommand → Nat
  | .getInfo => 0x01
  | .challenge .. => 0x02
  | .response .. => 0x03
  | .password _ => 0x04
  | .close => 0x05
  | .privileged a => purposeOf a
  | .keyImport .. => 0x10
  | .service c _ => c
  | .selfTest _ => 0x50
  | .updBegin _ => 0x40
  | .updWrite => 0x41
  | .updActivate => 0x42
  | .updConfirm _ => 0x43
  | .updRevert => 0x44
  | .updStatus => 0x45
  | .bad => 0xFF
  | .badSource => 0xFF

/-- A privileged command under its own code: only LC_ADVANCE and KEY_PROVISION in BLANK through mailbox 2 at L3 (R487). -/
def ownCode (mb : Nat) (arg : PrivArg) (s : State) : State :=
  if lifecycle s = 0 && mb = 2 && s.dbgLevel = 3 && (purposeOf arg == 0x30 || purposeOf arg == 0x32) then
    let (r, s) := privileged arg s
    tndAnswer r [] s
  else tndAnswer 1 [] s

/-- An update command: mailboxes 0 and 1, or mailbox 2 at L3 (R509). -/
def updCmd (mb : Nat) (f : State → State) (s : State) : State :=
  if mb = 2 && s.dbgLevel != 3 then tndAnswer 12 [] s else f s

/-- Tinder carries a command out. What goes on, a flash operation or a handover, leaves `wait` set. -/
def runCommand (mb : Nat) (c : TndCommand) (s : State) : State :=
  let s := s.setTnd { s.tnd with serving := some (mb, { wait := true }) }
  let jtagOff := s.tnd.fuse.jtagOff && lifecycle s == 2 && mb == 2 && codeOf c != 1
  if jtagOff then tndAnswer 12 [] s
  else if testRefuses s (codeOf c) then tndAnswer (Config.tndOpen 1 % 256) [] s
  else match c with
    | .getInfo => tndAnswer 0 (infoBytes s) s
    | .challenge p l h n => challenge mb p l h n s
    | .response a arg => response mb a arg s
    | .password h => password mb h s
    | .close => tndAnswer 0 [] (debugRevoke 4 0 s)
    | .privileged a => ownCode mb a s
    | .keyImport k key t => if mb = 2 then tndAnswer 12 [] s else keyImport k key t s
    | .service code x => if mb = 2 then tndAnswer 12 [] s else service code x s
    | .selfTest ok => selfTest ok s
    | .updBegin x => updCmd mb (updBegin x) s
    | .updWrite => updCmd mb updWrite s
    | .updActivate => updCmd mb updActivate s
    | .updConfirm a => updCmd mb (updConfirm a) s
    | .updRevert => updCmd mb updRevert s
    | .updStatus => updCmd mb (fun s => tndAnswer 0 (journalBytes s.journal) s) s
    | .bad => tndAnswer 1 [] s
    | .badSource => tndAnswer 12 [] s

/-- Challenges and grants through mailbox 2 wait during START for core release (R503). -/
def mustWait (mb : Nat) (c : TndCommand) (s : State) : Bool :=
  mb == 2 && !s.sys.released && [2, 3, 4].contains (codeOf c)

/-- Tinder takes the next committed mailbox, in turn from `first` on. -/
def serveNext (first : Nat) (s : State) : State :=
  if s.tnd.serving.isSome then s
  else
    let ready (mb : Nat) : Bool := match SMap.get none s.tnd.waiting mb with
      | some c => !mustWait mb c s
      | none => false
    match [first % 3, (first + 1) % 3, (first + 2) % 3].find? ready with
    | none => s
    | some mb =>
      match SMap.get none s.tnd.waiting mb with
      | some c => runCommand mb c (s.setTnd { s.tnd with waiting := SMap.put none s.tnd.waiting mb none })
      | none => s

/-- The source may write the mailbox (R486): its pair's checked output, the cores of a split pair, or the JTAG port. -/
def mailboxWriter (s : State) (m : Master) (mb : Nat) : Bool :=
  match m with
  | .pair p => mb == p.val && !s.getB F.SPX_STAT.SPLIT p
  | .core c => mb == c.val / 2 && s.getB F.SPX_STAT.SPLIT (c.val / 2)
  | .debug => mb == 2
  | _ => false

/-- The command may come from that source: a split pair's cores have 0x01 and 0x20 to 0x25 only. -/
def sourceMay (m : Master) (code : Nat) : Bool :=
  match m with
  | .core _ => code == 1 || decide (0x20 ≤ code ∧ code ≤ 0x25)
  | _ => true

/-- A write of TND_CMD commits a command (R486): ignored with RESULT 2 while the mailbox is BUSY. -/
def tndWrite (m : Master) (mb : Nat) (c : TndCommand) (s : State) : State :=
  if !s.pdReady 1 || !mailboxWriter s m mb then busError s
  else
    let s := s.answer .done
    if s.getB F.TND_STAT.BUSY mb then s.set F.TND_STAT.RESULT 2 mb
    else
      let s := s.set F.TND_STAT.BUSY 1 mb
      let c := if sourceMay m (codeOf c) then c else .badSource
      serveNext mb (s.setTnd { s.tnd with waiting := SMap.put none s.tnd.waiting mb (some c) })

def tndCommit (m : Master) (mb : Nat) (c : TndCommand) (s : State) : Res := .next (tndWrite m mb c s)

def execGetInfo (m : Master) (mb : Fin 3) (s : State) : Res := tndCommit m mb .getInfo s
def execChallenge (m : Master) (mb : Fin 3) (purpose : Byte) (lifetime : BitVec 32) (argHash nonce : Nat) (s : State) : Res :=
  tndCommit m mb (.challenge purpose.toNat lifetime.toNat argHash nonce) s
def execResponse (m : Master) (mb : Fin 3) (a : AuthIn) (arg : PrivArg) (s : State) : Res := tndCommit m mb (.response a arg) s
def execPassword (m : Master) (mb : Fin 3) (hash : Nat) (s : State) : Res := tndCommit m mb (.password hash) s
def execClose (m : Master) (mb : Fin 3) (s : State) : Res := tndCommit m mb .close s

/-- A privileged command comes as a RESPONSE, or under its own code. -/
def privCommit (m : Master) (mb : Nat) (auth : Option AuthIn) (arg : PrivArg) (s : State) : Res :=
  match auth with
  | some a => tndCommit m mb (.response a arg) s
  | none => tndCommit m mb (.privileged arg) s

def execPwSet (m : Master) (mb : Fin 3) (auth : Option AuthIn) (hash : Nat) (s : State) : Res := privCommit m mb auth (.pwSet hash) s
def execKeyImport (m : Master) (mb : Fin 3) (slot : Byte) (key : Nat) (tagOk : Bool) (s : State) : Res :=
  tndCommit m mb (.keyImport slot.toNat key tagOk) s
def execFreshSet (m : Master) (mb : Fin 3) (auth : Option AuthIn) (dfn : Fin 128) (tx : Bool) (value : BitVec 32) (s : State) : Res :=
  privCommit m mb auth (.freshSet dfn tx value.toNat) s
def execAesGcm (m : Master) (mb : Fin 3) (x : ServiceIn) (s : State) : Res := tndCommit m mb (.service 0x20 x) s
def execCmac (m : Master) (mb : Fin 3) (x : ServiceIn) (s : State) : Res := tndCommit m mb (.service 0x21 x) s
def execHash (m : Master) (mb : Fin 3) (x : ServiceIn) (s : State) : Res := tndCommit m mb (.service 0x22 x) s
def execEcdsaVerify (m : Master) (mb : Fin 3) (x : ServiceIn) (s : State) : Res := tndCommit m mb (.service 0x23 x) s
def execLmsVerify (m : Master) (mb : Fin 3) (x : ServiceIn) (s : State) : Res := tndCommit m mb (.service 0x24 x) s
def execRandom (m : Master) (mb : Fin 3) (x : ServiceIn) (s : State) : Res := tndCommit m mb (.service 0x25 x) s
def execLcAdvance (m : Master) (mb : Fin 3) (auth : Option AuthIn) (target : Fin 5) (copies : Fin 4) (s : State) : Res :=
  privCommit m mb auth (.lcAdvance target copies.val (copies.val == 3)) s
def execSecAdvance (m : Master) (mb : Fin 3) (auth : Option AuthIn) (limp : Bool) (value : Fin 257) (s : State) : Res :=
  privCommit m mb auth (.secAdvance limp value.val) s

/-- KEY_PROVISION (R489): a slot with its roles and hash, the Skein key, or CONFIG bits; any other argument is bad. -/
def execKeyProvision (m : Master) (mb : Fin 3) (auth : Option AuthIn) (arg : PrivArg) (s : State) : Res :=
  privCommit m mb auth (if purposeOf arg = 0x32 then arg else .level) s
def execKeyRevoke (m : Master) (mb : Fin 3) (auth : Option AuthIn) (slot : Fin 4) (s : State) : Res :=
  privCommit m mb auth (.keyRevoke slot) s
def execSelfTest (m : Master) (mb : Fin 3) (ok : Bool) (s : State) : Res := tndCommit m mb (.selfTest ok) s

/-- TND_BAD_COMMAND (R487): a code that no command has. -/
def execTndBadCommand (m : Master) (mb : Fin 3) (code : Byte) (s : State) : Res :=
  tndCommit m mb (if code.toNat < 256 then .bad else .getInfo) s

/-- TND_DATA takes what a command returns. -/
def dataOut (mb : Nat) (out : List Byte) (s : State) : State :=
  (List.range ((min out.length 256 + 3) / 4)).foldl (fun s i => s.set F.TND_DATA.DATA (fromBytes ((out.drop (4 * i)).take 4)) mb i) s

/-- TND_COMMAND_DONE (R487): RESULT, OUT_LEN, TND_DATA, DONE; EV_TND_DONE (48); the next mailbox's turn. -/
def execTndCommandDone (s : State) : Res :=
  .next (match s.tnd.serving with
    | none => if s.pdReady 1 then serveNext 0 s else s
    | some (mb, d) =>
      if d.wait then s
      else
        let s := (s.set F.TND_STAT.RESULT d.result mb).set F.TND_STAT.OUT_LEN (min d.out.length 256) mb
        let s := ((dataOut mb d.out s).set F.TND_STAT.DONE 1 mb).set F.TND_STAT.BUSY 0 mb
        serveNext (mb + 1) (raise 48 (selfTestEnd (s.setTnd { s.tnd with serving := none }))))

/-- CHALLENGE_EXPIRY (R497). -/
def execChallengeExpiry (mb : Fin 3) (s : State) : Res :=
  .next (s.setTnd { s.tnd with chal := SMap.put none s.tnd.chal mb none })

/-- CHALLENGE_LOCKOUT_END (R497). -/
def execChallengeLockoutEnd (mb : Fin 3) (s : State) : Res :=
  .next (s.setTnd { s.tnd with lockout := putBit s.tnd.lockout mb false })

/-- HEALTH_TEST_FAIL (R488): 0x0204; RANDOM and CHALLENGE are refused until the next START. -/
def execHealthTestFail (s : State) : Res :=
  .next (if s.pdReady 1 && !s.tnd.rngBad then
      let s := tndFault 0x0204 s
      s.setTnd { s.tnd with rngBad := true }
    else s)

end Sys2Proof.Machine
end

