-- ==== Sys2Proof/Machine/Update.lean ====
section
/-! DEFINITION. Field update's rows (chapter 18): the commands as they are committed to a mailbox, and the events of a handover, a
deadline and the flash. -/

namespace Sys2Proof.Machine
open Sys2Proof

def execUpdBegin (m : Master) (mb : Fin 3) (x : Manifest) (s : State) : Res := tndCommit m mb (.updBegin x) s
def execUpdWrite (m : Master) (mb : Fin 3) (s : State) : Res := tndCommit m mb .updWrite s
def execUpdActivate (m : Master) (mb : Fin 3) (s : State) : Res := tndCommit m mb .updActivate s
def execUpdConfirm (m : Master) (mb : Fin 3) (advance : Bool) (s : State) : Res := tndCommit m mb (.updConfirm advance) s
def execUpdRevert (m : Master) (mb : Fin 3) (s : State) : Res := tndCommit m mb .updRevert s
def execUpdStatus (m : Master) (mb : Fin 3) (s : State) : Res := tndCommit m mb .updStatus s

/-- PROBATION_DEADLINE (R522, R523). -/
def execProbationDeadline (s : State) : Res := .next (if s.pdReady 1 && s.sys.released then probationDeadline s else s)

/-- SPX_HANDOVER_DISARM (R518). -/
def execSpxHandoverDisarm (p : Fin 2) (s : State) : Res := .next (if s.pdReady 1 then spxDisarm p s else s)

/-- SPX_TCM_LOAD_DONE (R518). -/
def execSpxTcmLoadDone (p : Fin 2) (s : State) : Res := .next (if s.pdReady (2 + p.val) then tcmLoadDone p s else s)

/-- MIGRATION_TIMEOUT (R518). -/
def execMigrationTimeout (p : Fin 2) (s : State) : Res := .next (if s.pdReady (2 + p.val) then migrationTimeout p s else s)

/-- FLASH_OPERATION_DONE (R514, R515, R521, R522). -/
def execFlashOperationDone (readOk : Bool) (s : State) : Res := .next (if s.pdReady 1 && s.pdReady 9 && s.sys.released then flashDone readOk s else s)

end Sys2Proof.Machine
end

