-- ==== Sys2Proof/Machine/Clock.lean ====
section
/-! DEFINITION. Clock monitors, holdover, relock, stale crossings and the time stamp's read (R526 to R536). -/

namespace Sys2Proof.Machine
open Sys2Proof

/-- The clocks have locked: the monitors work. -/
def clocksUp (s : State) : Bool := s.pdOn 8 && s.fab.tsRun

/-- A clock fault code with CLK_CLASS (R528). -/
def clkFault (code : Nat) (s : State) : State :=
  issue code (s.get F.CLK_CFG.CLK_CLASS) (s.set F.CLK_STAT.LAST_CODE code)

/-- XIN_LOSS (R527 to R529): 0x1112, EV_CLK_XIN_LOST (20); every PLL unlocks into holdover without a further code. -/
def execXinLoss (s : State) : Res :=
  .next (if !clocksUp s || !s.getB F.CLK_STAT.XIN_OK then s
    else
      let s := (s.set F.CLK_STAT.XIN_OK 0).set F.CLK_STAT.XIN_LOST 1
      let s := (s.set F.CLK_STAT.LOCK 0).set F.CLK_STAT.HOLDOVER 15
      raise 20 (clkFault 0x1112 s))

/-- A PLL is unlocked (R527): holdover until the next START; 0x1113, EV_CLK_UNLOCK (21). -/
def pllUnlock (p : Nat) (s : State) : State :=
  if !clocksUp s || !s.bit F.CLK_STAT.LOCK p then s
  else raise 21 (clkFault 0x1113 ((s.setBit F.CLK_STAT.LOCK p false).setBit F.CLK_STAT.HOLDOVER p true))

def execPllUnlock (pll : Fin 4) (s : State) : Res := .next (pllUnlock pll s)

/-- Nominal count of a PLL's output over 400 XIN cycles. -/
def pllNominal (p : Nat) : Nat := match p with | 0 => 8000 | 1 => 4000 | 2 => 2000 | _ => 1600

/-- PLL_FREQUENCY_WINDOW (R528): the second bad window in a row sets FREQ_ERR, 0x1114, EV_CLK_FREQ (22). -/
def execPllFrequencyWindow (pll : Fin 4) (count : Nat) (s : State) : Res :=
  .next (
    let p := pll.val
    let n := pllNominal p
    let bad := decide (n < 100 * ((count : Int) - n).natAbs)
    let run := if bad then min 2 (SMap.get 0 s.fab.badWin p + 1) else 0
    if !clocksUp s then s
    else
      let was := SMap.get 0 s.fab.badWin p
      let s := { s with fab := { s.fab with badWin := SMap.put 0 s.fab.badWin p run } }
      if run = 2 ∧ was = 1 then raise 22 (clkFault 0x1114 (s.setBit F.CLK_STAT.FREQ_ERR p true)) else s)

/-- TOKEN_PERIOD_CHECK (R528): the mean of 256 token periods, in 0.1 ns; more than 8 % from 500 ns is 0x1115 and EV_CLK_FREQ (22). -/
def execTokenPeriodCheck (period : BitVec 16) (s : State) : Res :=
  .next (if !clocksUp s || !s.sys.linkUp then s
    else
      let s := s.set F.CLK_TOKEN.TOKEN_PER period.toNat
      if 400 < ((period.toNat : Int) - 5000).natAbs then raise 22 (clkFault 0x1115 (s.set F.CLK_STAT.TOKEN_ERR 1)) else s)

/-- RELOCK may run (R530): START, READY or SERVICE, every power stage stopped, no holdover, no other test. -/
def relockOk (s : State) : Bool :=
  [1, 2, 7].contains s.mode && stagesStopped s && s.get F.CLK_STAT.HOLDOVER == 0 && s.olt.test.isNone

/-- The lowest PLL of a mask. -/
def lowestBit (n : Nat) : Nat := ((List.range 4).find? (fun i => n.testBit i)).getD 0

/-- A relock begins; it counts as an online test (R566). -/
def relock (mask : Nat) (s : State) : State :=
  if mask % 16 = 0 then s
  else if !relockOk s then s.set F.CLK_STAT.RELOCK_REF 1
  else
    let s := { s with fab := { s.fab with relocking := mask % 16 } }
    oltBegin 4 (lowestBit mask) (s.set F.CLK_CFG.RELOCK_BUSY mask)

/-- PLL_RELOCK (R530): a write of RELOCK. -/
def execPllRelock (m : Master) (mask : BitVec 4) (s : State) : Res :=
  .next (if !s.regWriter m || !s.pdReady 8 then busError s else (relock mask.toNat s).answer .done)

/-- PLL_RELOCK_DONE (R530): the domains run again; a PLL that does not lock is unlocked under R528. -/
def execPllRelockDone (pll : Fin 4) (ok : Bool) (s : State) : Res :=
  .next (
    let p := pll.val
    if !s.fab.relocking.testBit p then s
    else
      let left := putBit s.fab.relocking p false
      let s := { s with fab := { s.fab with relocking := left } }
      let s := s.set F.CLK_CFG.RELOCK_BUSY left
      let s := if ok then s else pllUnlock p s
      let failed := !ok || s.get F.CLK_STAT.HOLDOVER != 0
      if left = 0 then oltEnd (if failed then 1 else 0) s else s)

/-- Sources of the Flyer that a clock samples (R265, R526): encoders and Halls with SYSCLK, resolvers with ADCCLK. -/
def sampledBy (c : Nat) : List Nat := match c with | 0 => [0, 1, 2, 3, 4, 5] | 3 => [6, 7] | _ => []

/-- CROSSING_STALE (R536, R265): EV_CDC_STALE (23), 0x1116 class REPORT; TCK issues no code. -/
def execCrossingStale (src : ClockSrc) (s : State) : Res :=
  .next (
    let c := src.val
    if !s.pdOn 8 || s.bit F.CDC_STALE.STALE c then s
    else
      let s := (s.setBit F.CDC_STALE.STALE c true).setBit F.CDC_STALE.STALE_SEEN c true
      let s := raise 23 (if c = 7 then s else issue 0x1116 0 s)
      if s.pdReady 7 then (sampledBy c).foldl (fun s k => staleSrc k s) s else s)

/-- CROSSING_RECOVERED (R536). -/
def execCrossingRecovered (src : ClockSrc) (s : State) : Res :=
  .next (
    let c := src.val
    if !s.pdOn 8 || !s.bit F.CDC_STALE.STALE c then s
    else
      let s := s.setBit F.CDC_STALE.STALE c false
      if s.pdReady 7 then (sampledBy c).foldl (fun s k => s.set F.FLY_SRC_STAT.STALE 0 k) s else s)

/-- Who may read a register of the block at `a` (R30, R494); Reel reads BUS, EVR and SIG only. -/
def regReader (s : State) (m : Master) (a : Nat) : Bool :=
  match m with
  | .pair _ | .core _ | .tinder | .loader => true
  | .reel => [3, 20, 23].contains ((a - 0x30000000) / 0x10000)
  | .debug => decide (1 ≤ s.dbgLevel)
  | _ => false

/-- A read of CLK_TS_LO copies TSTAMP[63:32] into CLK_TS_HI (register text). -/
def tsLoRead (s : State) : State :=
  let s := s.set F.CLK_TS_HI.TS_HI (s.fab.ts / 2 ^ 32 % 2 ^ 32)
  s.answer (.data s.ts32)

/-- TS_LO_READ. -/
def execTsLoRead (m : Master) (s : State) : Res :=
  .next (if regReader s m 0x30010010 && s.pdReady 8 then tsLoRead s else busError s)

end Sys2Proof.Machine
end

