-- ==== Sys2Proof/Machine/Debug.lean ====
section
/-! DEFINITION. Debug halts, the fall of the level, and the JTAG port (R494, R495, R500 to R504). -/

namespace Sys2Proof.Machine
open Sys2Proof

/-- DEBUG_LIFETIME_EXPIRY (R497, R500): L0, cause 3. -/
def execDebugLifetimeExpiry (s : State) : Res := .next (if s.tnd.expiry then debugRevoke 3 0 s else s)

/-- L2_CONDITION_LOSS (R495, R500): L2 falls to L1 once a condition fails, cause 2. -/
def execL2ConditionLoss (s : State) : Res := .next (if s.dbgLevel = 2 && !l2Cond s then debugRevoke 2 1 s else s)

/-- DBG_HALT takes writes from the debug port at L2 or L3 only (R502). -/
def haltWriter (s : State) (m : Master) : Bool := m == .debug && decide (2 ≤ s.dbgLevel) && s.pdReady 8

/-- HALT and HALTED bits of a core. -/
def haltCore (c : Nat) (v : Bool) (s : State) : State := (s.setBit F.DBG_HALT.HALT c v).setBit F.DBG_HALT.HALTED c v

/-- Core c is halted (R412, R502): alone in a split pair, else with its partner; the record pairs complete at that point are still
compared. EV_DBG_HALT (55). -/
def coreHalt (c : Nat) (s : State) : State :=
  let p := c / 2
  if !s.pdReady (2 + p) || s.bit F.DBG_HALT.HALT c then s
  else match s.get F.SPX_STAT.STATE p with
    | 5 => raise 55 (haltCore c true s)
    | 0 =>
      let x := s.pairSt p
      let s := (s.setPair p { x with halt := min x.buf0.length x.buf1.length }).set F.SPX_STAT.STATE 6 p
      raise 55 ((haltCore (2 * p + 1) true (haltCore (2 * p) true s)).setBit F.DBG_HALT.HALT (c / 2 * 2 + (1 - c % 2)) false)
    | 2 =>
      let s := (s.setPair p { s.pairSt p with halt := 0 }).set F.SPX_STAT.STATE 6 p
      raise 55 ((haltCore (2 * p + 1) true (haltCore (2 * p) true s)).setBit F.DBG_HALT.HALT (c / 2 * 2 + (1 - c % 2)) false)
    | 6 => s.setBit F.DBG_HALT.HALT c true
    | 1 => if s.bit F.DBG_HALT.HALTED c then s.setBit F.DBG_HALT.HALT c true else raise 55 ((haltCore (2 * p + 1) true (haltCore (2 * p) true s)).setBit F.DBG_HALT.HALT (c / 2 * 2 + (1 - c % 2)) false)
    | _ => s

/-- Core c runs again; a pair that was halted as one resumes when neither bit is set, and resynchronises (R412). -/
def coreResume (c : Nat) (s : State) : State :=
  let p := c / 2
  if !s.bit F.DBG_HALT.HALT c then s
  else
    let s := s.setBit F.DBG_HALT.HALT c false
    if s.get F.SPX_STAT.STATE p = 5 then raise 55 (s.setBit F.DBG_HALT.HALTED c false)
    else if s.bit F.DBG_HALT.HALT (2 * p) || s.bit F.DBG_HALT.HALT (2 * p + 1) then s
    else raise 55 (resumePair p ((s.setBit F.DBG_HALT.HALTED (2 * p) false).setBit F.DBG_HALT.HALTED (2 * p + 1) false))

/-- Reel is halted or resumed: EV_DBG_HALT (55). -/
def reelHalt (v : Bool) (s : State) : State :=
  if s.getB F.DBG_HALT.HALT_REEL == v then s else raise 55 ((s.setB F.DBG_HALT.HALT_REEL v).setB F.DBG_HALT.REEL_HALTED v)

/-- CORE_HALT, CORE_RESUME, REEL_HALT, REEL_RESUME (R494, R502). -/
def execCoreHalt (m : Master) (core : Fin 4) (s : State) : Res :=
  .next (if haltWriter s m then (coreHalt core s).answer .done else busError s)
def execCoreResume (m : Master) (core : Fin 4) (s : State) : Res :=
  .next (if haltWriter s m then (coreResume core s).answer .done else busError s)
def execReelHalt (m : Master) (s : State) : Res := .next (if haltWriter s m then (reelHalt true s).answer .done else busError s)
def execReelResume (m : Master) (s : State) : Res := .next (if haltWriter s m then (reelHalt false s).answer .done else busError s)

/-- RESYNC_TIMEOUT (R501): a pair still resynchronising 1 ms after a revocation is faulted with 0x0403. -/
def execResyncTimeout (p : Fin 2) (s : State) : Res :=
  .next (if s.sys.trans.isSome && s.get F.SPX_STAT.STATE p == 2 then pairFault p 0x0403 s else s)

/-! ### The JTAG port (R504) -/

/-- VDD_IO is within limits: bit 3 of the supply monitors. -/
def vddIoOk (s : State) : Bool := s.sys.supEn && !s.sys.supFlt.testBit 3

/-- The selected register and what it holds: 1 IDCODE, 0 BYPASS, 2 the boundary register. -/
def jtagSelect (r v : Nat) (s : State) : State := { s with olt := { s.olt with jtagReg := r, jtagOut := v } }

/-- Every instruction but EXTEST leaves the balls to the part. -/
def ballsFree (s : State) : State := { s with olt := { s.olt with extest := [] } }

/-- The instructions that drive no balls; in DORMANT only IDCODE and BYPASS answer (R503). -/
def execIdcode (s : State) : Res := .next (if vddIoOk s || s.mode == 0 then ballsFree (jtagSelect 1 Config.idcode s) else s)
def execBypass (s : State) : Res := .next (if vddIoOk s || s.mode == 0 then ballsFree (jtagSelect 0 0 s) else s)

/-- SAMPLE/PRELOAD captures the balls; RETIRED answers IDCODE and BYPASS only (R493). -/
def execSamplePreload (s : State) : Res :=
  .next (if vddIoOk s && s.mode != 0 && lifecycle s != 4 then ballsFree (jtagSelect 2 (Config.ballLevels s.fab.ts) s) else s)

/-- EXTEST drives balls: L3 with the conditions of R495, or BLANK. -/
def execExtest (pins : List (Fin 64 × Bool)) (s : State) : Res :=
  .next (if vddIoOk s && s.mode != 0 && ((s.dbgLevel == 3 && l2Cond s) || lifecycle s == 0) then
      { (jtagSelect 2 0 s) with olt := { s.olt with jtagReg := 2, jtagOut := 0, extest := pins.map (fun e => (e.1.val, e.2)) } }
    else s)

end Sys2Proof.Machine
end

