-- ==== Sys2Proof/Machine/Fabric.lean ====
section
/-! DEFINITION. Ply's deliveries and claims (R533, R555, R556), writes of the signal dictionary (R561) and timed DAQ channels (R562). -/

namespace Sys2Proof.Machine
open Sys2Proof

/-- Field of pair p's pending bits and claim register. -/
def pendFld (p : Nat) : Fld := if p = 0 then F.EVR_PEND_A.PEND else F.EVR_PEND_B.PEND

/-- Event n sets the pending bit of every destination its route names (R555). -/
def plyDeliver (n : Nat) (s : State) : State :=
  let s := if s.getB F.EVR_ROUTE.TO_A n then s.setBit F.EVR_PEND_A.PEND (n % 32) true (n / 32) else s
  let s := if s.getB F.EVR_ROUTE.TO_B n then s.setBit F.EVR_PEND_B.PEND (n % 32) true (n / 32) else s
  let s := if s.getB F.EVR_ROUTE.TO_REEL n then reelEvent n s else s
  let s := if s.getB F.EVR_ROUTE.TO_TRACE n then traceEvent n s else s
  if s.getB F.EVR_ROUTE.TO_DAQ n then
    let c := s.get F.EVR_ROUTE.DAQ_CH n
    if s.get F.SIG_EVCH.KIND c = 0 ∨ s.get F.SIG_EVCH.KIND c = 3 then daqTrigger c s else s
  else s

/-- EVENT_DELIVERY (R533, R555): a crossing in flight delivers its event; a pending pulse goes as one further request. -/
def execEventDelivery (n : Fin 256) (s : State) : Res :=
  .next (if !s.pdOn 8 || !(s.xing n).flight then s
    else plyDeliver n (s.setXing n { flight := (s.xing n).pend, pend := false }))

/-- The pending event of pair p with the highest PRIO, the lowest number among equals (R556). -/
def claimNext (s : State) (p : Nat) : Option Nat :=
  (List.range 256).foldl (fun b n =>
    if s.bit (pendFld p) (n % 32) (n / 32) then
      match b with
      | none => some n
      | some x => if s.get F.EVR_ROUTE.PRIO x < s.get F.EVR_ROUTE.PRIO n then some n else b
    else b) none

/-- The pair's interrupt is asserted (R556). -/
def pairIrq (s : State) (p : Nat) : Bool :=
  let thr := if p = 0 then s.get F.EVR_THR_A.THR else s.get F.EVR_THR_B.THR
  (List.range 256).any (fun n => s.bit (pendFld p) (n % 32) (n / 32) && decide (thr < s.get F.EVR_ROUTE.PRIO n))

/-- A read of EVR_CLAIM (R556): the event, whose pending bit clears; the claim of a command event empties the pair's mailbox. -/
def claimRead (p : Nat) (s : State) : State :=
  match claimNext s p with
  | none => s.answer (.data 0)
  | some n =>
    let s := s.setBit (pendFld p) (n % 32) false (n / 32)
    let s := if n = 200 + p then s.setReel { s.bus.reel with mbxN := SMap.put 0 s.bus.reel.mbxN p 0 } else s
    s.answer (.data (2 ^ 31 + s.get F.EVR_ROUTE.PRIO n * 256 + n))

/-- EVENT_CLAIM (R556). -/
def execEventClaim (m : Master) (p : Fin 2) (s : State) : Res :=
  .next (if regReader s m 0x30030440 && s.pdReady 8 then claimRead p s else busError s)

/-- Who may reach the dictionary window (R30, R494). -/
def dictAllowed (s : State) (m : Master) (write : Bool) : Bool :=
  isSpindle m || m == .reel || (m == .debug && decide ((if write then 3 else 1) ≤ s.dbgLevel))

/-- SIGNAL_WRITE (R561): word 0 of entry k. -/
def execSignalWrite (m : Master) (k : Fin 131072) (value : Word) (synd : Syndrome) (s : State) : Res :=
  .next (if dictAllowed s m true && s.pdReady 8 then sigWrite k value synd s else busError s)

/-- DAQ_TIMER_EXPIRY (R562). -/
def execDaqTimerExpiry (c : Fin 16) (s : State) : Res :=
  .next (if s.pdReady 8 && s.get F.SIG_EVCH.KIND c == 1 then daqTrigger c s else s)

end Sys2Proof.Machine
end

