-- ==== Sys2Proof/Machine/Olt.lean ====
section
/-! DEFINITION. Online tests (chapter 21): requests, their ends, the CAN loopback and the software slices (R564 to R569). -/

namespace Sys2Proof.Machine
open Sys2Proof

/-- A request through DBG_OLT_REQ (R566): only from a checked output or debug at L3; refused while BUSY, outside its modes or without
its conditions. -/
def oltRequest (m : Master) (ok : Bool) (f : State → State) (s : State) : State :=
  if !s.regWriter m || !s.pdReady 8 then busError s
  else if !(checkedOutput m || m == .debug) || s.olt.test.isSome || s.getB F.DBG_OLT_REQ.BUSY || !ok then
    (s.set F.DBG_OLT_REQ.REQ_REF 1).answer .done
  else (f s).answer .done

/-- READY or SERVICE. -/
def atRest (s : State) : Bool := s.mode == 2 || s.mode == 7

/-- LOGIC_SELF_TEST (R566, R568): the pair is HALTED until the test's end. -/
def logicTest (p : Nat) (s : State) : State :=
  let s := oltBegin 1 p (s.setPair p {})
  firmwareLost p ({ s with olt := { s.olt with logicTs := s.fab.ts } }.set F.SPX_STAT.STATE 3 p)

def logicTestOk (s : State) (p : Nat) : Bool :=
  atRest s && gatesOff s && s.pdReady (2 + p) && [0, 1, 5].contains (s.get F.SPX_STAT.STATE p)

def execLogicSelfTest (m : Master) (p : Fin 2) (s : State) : Res := .next (oltRequest m (logicTestOk s p) (logicTest p) s)

/-- SRAM_MARCH and WHORL_MARCH (R566, R567): contents are unchanged by a march that passes. -/
def execSramMarch (m : Master) (bank : Fin 16) (s : State) : Res := .next (oltRequest m (atRest s) (oltBegin 2 bank) s)

def whorlMarchOk (s : State) (w : Nat) : Bool := atRest s && whlReady s w && (enabledLoops s w).isEmpty
def execWhorlMarch (m : Master) (w : Fin 8) (s : State) : Res := .next (oltRequest m (whorlMarchOk s w) (oltBegin 3 w) s)

/-- OLT_PLL_RELOCK (R566, R530). -/
def execOltPllRelock (m : Master) (pll : Fin 4) (s : State) : Res := .next (oltRequest m (relockOk s) (relock (2 ^ pll.val)) s)

/-- OLT_TINDER_SELF_TEST (R566, R488); `ok` is what the known-answer tests will find. -/
def execOltTinderSelfTest (m : Master) (ok : Bool) (s : State) : Res :=
  .next (oltRequest m ([1, 2, 7].contains s.mode && s.pdReady 1 && s.tnd.serving.isNone) (oltBegin 5 (if ok then 0 else 1)) s)

/-- Failing words are poisoned (R544); 0x1402, class REPORT. -/
def marchFailed (words : List Nat) (s : State) : State := issue 0x1402 0 (words.foldl (fun s k => poisonWord k s) s)

/-- A request's end by its outcome: 0 pass, 1 fail, 2 aborted. -/
def oltResult : OltEnd → Nat
  | .pass => 0
  | .fail _ => 1
  | .aborted => 2

/-- OLT_TEST_DONE (R566 to R569): the logic self-test ends with the reset of R414, but a pair that fails it stays HALTED. -/
def oltDone (r : OltEnd) (s : State) : State :=
  match s.olt.test with
  | some (1, p) =>
    (match r with
      | .fail _ => oltEnd 1 (issue 0x1401 4 (s.set F.SPX_STAT.STATE 3 p))
      | _ => oltEnd (oltResult r) (pairRestart p s))
  | some (2, b) =>
    (match r with
      | .fail ws => oltEnd 1 (marchFailed (ws.map (fun w => 0x10000000 + b * 0x100000 + w % 0x100000)) s)
      | _ => oltEnd (oltResult r) s)
  | some (3, w) =>
    (match r with
      | .fail ws =>
        let s := ws.foldl (fun s k => poisonWord (whlBase w + k % 0xF0000) s) s
        oltEnd 1 (failWhorl w 0x1402 s)
      | _ => oltEnd (oltResult r) s)
  | some (5, x) => if s.tnd.serving.isSome then s else oltEnd x (if x = 1 then testFailed s else s)
  | _ => s

def execOltTestDone (r : OltEnd) (s : State) : Res := .next (if s.pdReady 8 then oltDone r s else s)

/-! ### CAN loopback (R564, R471) -/

/-- Controller n begins its loopback test. -/
def loopbackBegin (n : Nat) (s : State) : State := s.setBit F.DBG_OLT_CAN.IN_TEST n true

/-- CAN_LOOPBACK_TEST: CAN_TEST_PERIOD has passed for a controller whose EN is clear. -/
def execCanLoopbackTest (n : Fin 4) (s : State) : Res :=
  .next (if s.pdReady 8 && s.pdReady 9 && s.sys.released && !s.getB F.CAN_CTL.EN n && canState s n != 7 then loopbackBegin n s else s)

/-- TEST_REQ: at once where EN is clear, else REQ_REF. -/
def testRequest (mask : Nat) (s : State) : State :=
  (List.range 4).foldl (fun s n =>
    if !mask.testBit n then s
    else if s.getB F.CAN_CTL.EN n || !s.pdReady 9 then s.set F.DBG_OLT_REQ.REQ_REF 1
    else loopbackBegin n s) s

def execCanTestRequest (m : Master) (mask : BitVec 4) (s : State) : Res :=
  .next (if !s.regWriter m || !s.pdReady 8 then busError s else (testRequest mask.toNat s).answer .done)

/-- LOOPBACK_TEST_END: an EN written meanwhile takes effect; a failure fails the controller. -/
def loopbackEnd (n : Nat) (ok : Bool) (s : State) : State :=
  if !s.bit F.DBG_OLT_CAN.IN_TEST n then s
  else
    let s := s.setBit F.DBG_OLT_CAN.IN_TEST n false
    let x := s.can n
    let s := s.setCan n { x with enAfter := false }
    if !ok then canFail n (s.setBit F.DBG_OLT_CAN.LAST_FAIL n true)
    else if x.enAfter && s.getB F.CAN_CTL.EN n && canState s n == 0 then setCanState n 1 s
    else s

def execLoopbackTestEnd (n : Fin 4) (ok : Bool) (s : State) : Res := .next (if s.pdReady 8 && s.pdReady 9 then loopbackEnd n ok s else s)

/-! ### Software slices (R565) -/

/-- A write of DBG_OLT_SW: SW_CLASS, and for a slice that failed 0x1403; ignored unless from a checked output. -/
def sliceResult (m : Master) (v : Word) (s : State) : State :=
  if !checkedOutput m then s
  else
    let s := s.set F.DBG_OLT_SW.SW_CLASS (getBits v 3 1)
    if v.getLsbD 0 then s else issue 0x1403 (s.get F.DBG_OLT_SW.SW_CLASS) s

def execSwSliceResult (m : Master) (value : Word) (s : State) : Res :=
  .next (if s.regWriter m && s.pdReady 8 then (sliceResult m value s).answer .done else busError s)

end Sys2Proof.Machine
end

