-- ==== Sys2Proof/Machine/RegWrite.lean ====
section
/-! DEFINITION. Reads and writes of the register blocks over the bus (R3 to R8, R30 to R34): the access codes, and what a write does
beyond setting its fields. -/

namespace Sys2Proof.Machine
open Sys2Proof

/-- Bits of a register's fields with access code c. -/
def accMask (a : Nat) (c : Acc) : Nat :=
  match groupAt a with
  | none => 0
  | some g => fieldMask g.fields (fun f => f.acc == c)

/-- A write by the access codes (R6): RW set, WL set once, W1C cleared and W1S set by ones; RO, RC and WO bits hold nothing new. -/
def codeWrite (a : Nat) (v : Word) (s : State) : State :=
  let s := plainWrite a v s
  let s := s.wr a (s.rd a &&& ~~~(v &&& BitVec.ofNat 32 (accMask a .w1c)))
  s.wr a (s.rd a ||| (v &&& BitVec.ofNat 32 (accMask a .w1s)))

/-- `codeWrite` with the bits of a mask left as they are. -/
def codeWriteKeep (mask a : Nat) (v : Word) (s : State) : State := codeWrite a (mixWord mask v (s.rd a)) s

/-- The bit that most enables are: bit 31. -/
def enMask : Nat := 0x80000000

/-- A write of a register whose bit 31 enables: the other fields are written first, then a change of the enable has its effect. -/
def enWrite (a : Nat) (v : Word) (up down : State → State) (s : State) : State :=
  let was := (s.rd a).getLsbD 31
  let s := codeWriteKeep enMask a v s
  if v.getLsbD 31 && !was then up s else if was && !v.getLsbD 31 then down s else s

/-! ### What a write does, block by block: `o` is the offset in the block -/

/-- SYSCTL: MODE_REQ; the clear of KILN_POR (R6). -/
def sysctlWrite (m : Master) (x : WriteCtx) (o : Nat) (v : Word) (s : State) : State :=
  let a := 0x30000000 + o
  if o = 4 then modeRequest m (v.extractLsb' 16 16) (getBits v 2 0) (v.getLsbD 8) x.cleared s
  else
    let s := codeWrite a v s
    (if o = 0x50 && v.getLsbD 24 then s.setKln { s.kln with por := false } else s).answer .done

/-- CLK: RELOCK (R530). -/
def clkWrite (o : Nat) (v : Word) (s : State) : State :=
  let s := codeWrite (0x30010000 + o) v s
  (if o = 4 then relock (getBits v 3 0) s else s).answer .done

/-- MEMC: a transfer channel's EN (R558, R559). -/
def memcWrite (o : Nat) (v : Word) (s : State) : State :=
  let a := 0x30040000 + o
  if 0x400 ≤ o ∧ o < 0x480 ∧ o % 16 = 0 then
    let c := (o - 0x400) / 16
    (enWrite a v
      (fun s => if s.getB F.MEMC_XF_CTL.DRAINING c then s else (s.set F.MEMC_XF_CTL.EN 1 c).setXfer c { active := true, beat := 0 })
      (fun s =>
        let s := s.set F.MEMC_XF_CTL.EN 0 c
        if (s.xfer c).active then s.set F.MEMC_XF_CTL.DRAINING 1 c else s) s).answer .done
  else (codeWrite a v s).answer .done

/-- TND: a mailbox's command and data (R486). -/
def tndRegWrite (m : Master) (x : WriteCtx) (o : Nat) (v : Word) (s : State) : State :=
  let a := 0x30050000 + o
  let mb := o / 0x400
  if 0xC00 ≤ o then s.answer .done
  else if !mailboxWriter s m mb then busError s
  else if o % 0x400 = 0 then tndWrite m mb x.cmd s
  else if 0x100 ≤ o % 0x400 && s.getB F.TND_STAT.BUSY mb then s.answer .done
  else (codeWrite a v s).answer .done

/-- SPX: heartbeat answers, SPX_KREQ and the claim record (R432, R434, R442). -/
def spxWrite (m : Master) (x : WriteCtx) (o : Nat) (v : Word) (s : State) : State :=
  let p := o / 0x8000
  let r := o % 0x8000
  let answer (one : Bool) : State := match hbWriter s m p one with
    | some c => hbAnswer p c x.us v s
    | none => s
  (if r = 0x14 then answer false
    else if r = 0x18 then answer true
    else if r = 0x20 then kreqWrite m p v s
    else if 0x24 ≤ r ∧ r < 0x34 then (if kreqWriter s m p then codeWrite (0x30080000 + o) v s else s)
    else if r = 0x34 then claimCommit m p s
    else codeWrite (0x30080000 + o) v s).answer .done

/-- WHL: the write queue, loop enables, table descriptors, the handover (R176 to R180, R186, R196). -/
def whlWrite (m : Master) (x : WriteCtx) (o : Nat) (v : Word) (s : State) : State :=
  let a := 0x30090000 + o
  let w := o / 0x1000
  let r := o % 0x1000
  if 0x8000 ≤ o then (if o = 0x8004 then handoverWrite m v s else (codeWrite a v s).answer .done)
  else if r = 0 then
    let s := codeWrite a v s
    (if v.getLsbD 28 then cqFlush w s else s).answer .done
  else if 0x100 ≤ r ∧ r < 0x200 ∧ r % 0x20 = 0 then
    let l := (r - 0x100) / 0x20
    (enWrite a v (loopEnable w l x.sameCycle) (loopDisable w l) s).answer .done
  else if 0x400 ≤ r ∧ r < 0x440 then tblCfgWrite m w ((r - 0x400) / 4) v s
  else (codeWrite a v s).answer .done

/-- The field a refused Flyer write sets; only sources have one (R296). -/
def cfgIgn (k : Option Nat) (s : State) : State :=
  match k with
  | some k => s.set F.FLY_SRC_STAT.CFG_IGN 1 k
  | none => s

/-- A configuration register of a Flyer unit (R296): ignored while the unit's EN is set, but for its status bits. -/
def flyCfg (en : Bool) (k : Option Nat) (a : Nat) (v : Word) (s : State) : State :=
  if en then cfgIgn k (codeWriteKeep (accMask a .rw) a v s) else codeWrite a v s

/-- The register with a Flyer unit's EN (R296): while EN is set only a clear of EN counts among its RW fields; other changes are
ignored. -/
def flyEn (k : Option Nat) (a : Nat) (v : Word) (up down : State → State) (s : State) : State :=
  let was := s.rd a
  if !was.getLsbD 31 then enWrite a v up down s
  else
    let rw := BitVec.ofNat 32 (accMask a .rw)
    let s := codeWriteKeep (accMask a .rw) a v s
    let s := if (was ^^^ v) &&& rw &&& 0x7FFFFFFF == 0 then s else cfgIgn k s
    if v.getLsbD 31 then s else down s

/-- FLY: sources (ENC, HALL, RES, SER, SENT), machines, the compare unit, the emulation outputs. -/
def flyWrite (m : Master) (x : WriteCtx) (o : Nat) (v : Word) (s : State) : State :=
  let a := 0x300A0000 + o
  let src (k : Nat) (first : Bool) : State :=
    if first then flyEn (some k) a v (srcEnable k) (flyDisable (.source (Fin.ofNat 14 k))) s
    else flyCfg (s.getB (srcEnFld k).1 (srcEnFld k).2) (some k) a v s
  (if o < 0x80 then (if o % 0x20 < 8 then src (o / 0x20) (o % 0x20 == 0) else codeWrite a v s)
    else if 0x100 ≤ o ∧ o < 0x140 then src (4 + (o - 0x100) / 0x20) (o % 0x20 == 0)
    else if 0x200 ≤ o ∧ o < 0x240 then src (6 + (o - 0x200) / 0x20) (o % 0x20 == 0)
    else if 0x300 ≤ o ∧ o < 0x340 then src (8 + (o - 0x300) / 0x20) (o % 0x20 == 0)
    else if 0x400 ≤ o ∧ o < 0x440 then (if o % 0x10 = 0 then src (10 + (o - 0x400) / 0x10) true else codeWrite a v s)
    else if 0x500 ≤ o ∧ o < 0x5E0 then (if o % 0x10 = 0 then src ((o - 0x500) / 0x10) false else codeWrite a v s)
    else if 0x1000 ≤ o ∧ o < 0x1080 then
      let n := (o - 0x1000) / 0x40
      let r := o % 0x40
      if r = 0 then flyEn none a v (trkEnable n) (flyDisable (.tracker (Fin.ofNat 2 n))) s
      else if r = 0x1C then (if v.getLsbD 1 then machAcq m n (v.getLsbD 2) s else s)
      else if r = 0x0C ∨ r = 0x10 ∨ r = 0x14 ∨ r = 0x18 ∨ r = 0x20 ∨ r = 0x28 then codeWrite a v s
      else if r = 0x2C then
        flyEn none a v (fun s => s.set F.FLY_EMF_CFG.EN 1 n) (fun s => s.set F.FLY_EMF_CFG.EN 0 n) s
      else if r = 0x30 then flyCfg (s.getB F.FLY_EMF_CFG.EN n) none a v s
      else if r = 0x34 ∨ r = 0x38 then (codeWrite a v s).setEmf n { s.emf n with written := true }
      else flyCfg (s.getB F.FLY_MACH_CFG.EN n) none a v s
    else if 0x2000 ≤ o ∧ o < 0x2080 then
      let c := (o - 0x2000) / 16
      if o % 16 = 0 then
        flyEn none a v (fun s => (s.set F.FLY_CMP_CFG.EN 1 c).set F.FLY_CMP_CFG.ARMED 0 c) (flyDisable (.compare (Fin.ofNat 8 c))) s
      else if o % 16 = 4 then cmpWrite c v x.sameCycle s
      else codeWrite a v s
    else if 0x3000 ≤ o ∧ o < 0x3020 then
      let e := (o - 0x3000) / 16
      if o % 16 = 0 then flyEn none a v (emuEnable e) (flyDisable (.emulation (Fin.ofNat 2 e))) s
      else flyCfg (s.getB F.FLY_EMU_CFG.EN e) none a v s
    else codeWrite a v s).answer .done

/-- AFE: REF_EN, channel and window enables, ports, slice coefficients (R133 to R135, R142, R151). -/
def afeWrite (o : Nat) (v : Word) (s : State) : State :=
  let a := 0x300B0000 + o
  (if o = 0 then
      -- a refused write changes nothing else (R135)
      if !v.getLsbD 31 && s.getB F.AFE_CTL.REF_EN && anyChannelEnabled s then refDisable s
      else enWrite a v (fun s => s.set F.AFE_CTL.REF_EN 1) refDisable s
    else if 0x100 ≤ o ∧ o < 0x400 then
      let n := (o - 0x100) / 16
      if o % 16 = 0 then
        markConflicts n (enWrite a v (fun s => s.set F.AFE_CH_CFG.EN 1 n)
          (fun s => drainWindow n 1 (drainWindow n 0 (s.set F.AFE_CH_CFG.EN 0 n))) s)
      else if o % 16 = 4 then codeWrite a v s
      else markConflicts n (codeWrite a v s)
    else if 0x1000 ≤ o ∧ o < 0x1600 ∧ o % 16 = 0 then
      let n := (o - 0x1000) / 32
      let w := (o - 0x1000) / 16 % 2
      enWrite a v (fun s => s.set F.AFE_WIN_CTL.EN 1 n w) (fun s => drainWindow n w (s.set F.AFE_WIN_CTL.EN 0 n w)) s
    else if 0x4000 ≤ o ∧ o < 0x4C00 then
      let k := o % 0x40 / 4
      if k < 9 then sliceCoefWrite ((o - 0x4000) / 0x40) k v s else s
    else codeWrite a v s).answer .done

/-- A compare register is Whorl-driven (R233): an output port of an enabled or declared loop is assigned to it, or the converter block
drives its leg (R347). -/
def cmpDriven (s : State) (l : Nat) (b : Bool) : Bool := s.sys.cfg.outMap.any (fun d => d.leg == l && d.cmpB == b) || (chanOfLeg s l).isSome

/-- PWM: generators, legs, compare registers (R228, R233, R246). -/
def pwmWrite (o : Nat) (v : Word) (s : State) : State :=
  let a := 0x300D0000 + o
  let l := (o - 0x400) / 32
  (if o < 0xC0 ∧ o % 16 = 0 then enWrite a v (fun s => s.set F.PWM_CG_CTL.EN 1 (o / 16)) (generatorDisable (o / 16)) s
    else if 0x400 ≤ o ∧ o < 0x800 ∧ (o % 32 = 4 ∨ o % 32 = 8) then
      if cmpDriven s l (o % 32 == 8) then s.set F.PWM_LEG_STAT.WR_IGN 1 l else codeWrite a v s
    else codeWrite a v s).answer .done

/-- GIF: UCG_SPEED and the commands to a protection set (R257, R259, R261). -/
def gifWrite (m : Master) (o : Nat) (v : Word) (s : State) : State :=
  let a := 0x300E0000 + o
  let p := (o - 0x400) / 16
  (if 0x400 ≤ o ∧ o < 0x500 ∧ o % 16 = 4 then ucgWrite p v s
    else if 0x400 ≤ o ∧ o < 0x500 ∧ o % 16 = 12 then
      match getBits v 1 0 with
      | 0 => s
      | 1 => psetClear m p s
      | c => ascRequest m p c s
    else codeWrite a v s).answer .done

/-- ACT: a bridge's MODE (R332, R333). -/
def actWrite (o : Nat) (v : Word) (s : State) : State :=
  let a := 0x300F0000 + o
  (if 0x100 ≤ o ∧ o < 0x1C0 ∧ o % 16 = 0 then
      let b := (o - 0x100) / 16
      bridgeModeWrite b (getBits v 31 30) (codeWriteKeep 0xC0000000 a v s)
    else codeWrite a v s).answer .done

/-- Fields of CNV_CH_CFG that only a channel in OFF takes (R368): KIND, DIR, FIRST_LEG, N_LEG_M1, PLACE. -/
def cnvFixed : Nat := 0x3803FCFF

/-- CNV: enables, commands, telemetry peaks (R354, R357, R359, R365, R368, R369). -/
def cnvWrite (m : Master) (o : Nat) (v : Word) (s : State) : State :=
  let a := 0x30100000 + o
  let c := o / 0x100
  (if o = 0xC00 then telClear (getBits v 2 0) s
    else if o < 0x300 ∧ o % 0x100 = 0 then
      let off := s.chState c == 0
      let touched := (s.rd a ^^^ v) &&& BitVec.ofNat 32 cnvFixed != 0
      let was := s.getB F.CNV_CH_CFG.EN c
      let s := codeWriteKeep (enMask + (if off then 0 else cnvFixed)) a v s
      let s := if !off && touched then s.set F.CNV_CH_CFG.EN_IGN 1 c else s
      if v.getLsbD 31 then (if was && !off then s else chStart c s) else if was then chDisable c s else s
    else if o < 0x300 ∧ o % 0x100 = 0x0C then
      match getBits v 1 0 with
      | 1 => chClear m c s
      | 2 => stopNow m c s
      | _ => s
    else codeWrite a v s).answer .done

/-- CHG (R371): CHG_SESS, CHG_B12 and CHG_PRE take every field from pair B's checked output, and nothing from others. -/
def chgWrite (m : Master) (o : Nat) (v : Word) (s : State) : State :=
  let a := 0x30110000 + o
  (if o = 0x10 ∨ o = 0x20 ∨ o = 0x30 then
      if m == .pair 1 then
        let s := codeWrite a v s
        s.wr a (mixWord (accMask a .ro ||| accMask a .rc) (s.rd a) v)
      else s
    else codeWrite a v s).answer .done

/-- BUS: controllers and push windows (R464, R470). -/
def busRegWrite (m : Master) (o : Nat) (v : Word) (s : State) : State :=
  let a := 0x30140000 + o
  let n := o / 0x4000
  let r := o % 0x4000
  if r = 0 then
    let s := enWrite a v (canEnable n) (canDisable n) s
    (if v.getLsbD 23 then canFlush n s else s).answer .done
  else if 0x100 ≤ r ∧ r < 0x130 then
    let win := (r - 0x100) / 16
    let i := r % 16 / 4
    if !windowOf win m then busError s
    else if i < 3 then (s.setCan n { s.can n with win := SMap.put 0 (s.can n).win (4 * win + i) v }).answer .done
    else
      let word (i : Nat) : Word := SMap.get 0 (s.can n).win (4 * win + i)
      txPush m n win ⟨word 0, word 1, word 2, v, none⟩ s
  else (codeWrite a v s).answer .done

/-- DBG: halts, online tests, software slices, the trace port (R502, R564 to R566). -/
def dbgWrite (m : Master) (x : WriteCtx) (o : Nat) (v : Word) (s : State) : State :=
  let a := 0x30150000 + o
  if o = 4 then
    if !haltWriter s m then busError s
    else
      let s := [0, 1, 2, 3].foldl (fun s c => if v.getLsbD (28 + c) then coreHalt c s else coreResume c s) s
      (reelHalt (v.getLsbD 27) s).answer .done
  else if o = 0x104 then
    let s := codeWrite a v s
    let t := getBits v 26 23
    match getBits v 29 27 with
    | 0 => s.answer .done
    | 1 => oltRequest m (decide (t < 2) && logicTestOk s t) (logicTest t) s
    | 2 => oltRequest m (atRest s) (oltBegin 2 t) s
    | 3 => oltRequest m (decide (t < 8) && whorlMarchOk s t) (oltBegin 3 t) s
    | 4 => oltRequest m (decide (t < 4) && relockOk s) (relock (2 ^ t)) s
    | 5 => oltRequest m ([1, 2, 7].contains s.mode && s.pdReady 1 && s.tnd.serving.isNone) (oltBegin 5 (if x.ok then 0 else 1)) s
    | _ => oltRequest m false id s
  else if o = 0x108 then (testRequest (getBits v 31 28) (codeWrite a v s)).answer .done
  else if o = 0x10C then (sliceResult m v s).answer .done
  else (codeWrite a v s).answer .done

/-- EMB: the clock, and what EMB_CFG and EMB_PINCFG arm (R114, R120). -/
def embWrite (m : Master) (o : Nat) (v : Word) (s : State) : State :=
  let a := 0x30160000 + o
  if o = 0x10 then rtcSecWrite m v s
  else if o = 0x14 then rtcAlarmWrite m v s
  else (refreshArmed (codeWrite a v s)).answer .done

/-- Who may write the block that holds offset-free block number b (R30, R494, R486, R502); Reel has BUS, EVR and SIG. -/
def blockWriter (s : State) (m : Master) (b o : Nat) : Bool :=
  if b = 5 then true
  else if b = 21 && o = 4 then true
  else s.regWriter m || (m == .reel && [3, 20, 23].contains b)

/-- A register write over the bus (R3, R4, R6, R32, R33). -/
def regWrite (m : Master) (a size : Nat) (v : Word) (x : WriteCtx) (s : State) : State :=
  let b := (a - 0x30000000) / 0x10000
  let o := (a - 0x30000000) % 0x10000
  if !inRegs a || size != 4 || a % 4 != 0 || b == 19 then busError s
  else if inEmbMem a then memWrite m a size v.toNat x.synd s
  else if !s.pdReady (domainOf a) || !blockWriter s m b o then busError s
  else if (groupAt a).isNone then s.answer .done
  else match b with
    | 0 => sysctlWrite m x o v s
    | 1 => clkWrite o v s
    | 4 => memcWrite o v s
    | 5 => tndRegWrite m x o v s
    | 8 => spxWrite m x o v s
    | 9 => whlWrite m x o v s
    | 10 => flyWrite m x o v s
    | 11 => afeWrite o v s
    | 13 => pwmWrite o v s
    | 14 => gifWrite m o v s
    | 15 => actWrite o v s
    | 16 => cnvWrite m o v s
    | 17 => chgWrite m o v s
    | 20 => busRegWrite m o v s
    | 21 => dbgWrite m x o v s
    | 22 => embWrite m o v s
    | _ => (codeWrite a v s).answer .done

/-- REGISTER_WRITE. -/
def execRegisterWrite (m : Master) (addr : Word) (size : Fin 9) (value : Word) (x : WriteCtx) (s : State) : Res :=
  .next (regWrite m addr.toNat size value x s)

/-! ### Reads -/

/-- Fields that show a present condition: DBG_STAT's L2_COND and LEFT, UPD_STAT's PROB_LEFT. -/
def refreshLive (a : Nat) (s : State) : State :=
  if a = 0x30150000 then
    let left := if s.tnd.expiry then min ((s.tnd.grantEnd - s.fab.ts + 99999999) / 100000000) 131071 else 0
    (s.setB F.DBG_STAT.L2_COND (l2Cond s)).set F.DBG_STAT.LEFT left
  else if a = 0x30070000 then
    s.set F.UPD_STAT.PROB_LEFT (if s.get F.UPD_STAT.STATE = 4 then min (s.journal.deadline - s.get F.EMB_RTC_SEC.SEC) 4095 else 0)
  else s

/-- A plain register read (R6, R8): WO bits read zero, RC fields clear. -/
def codeRead (a : Nat) (s : State) : State :=
  let v := s.rd a
  let s := s.wr a (mixWord (accMask a .rc) v 0)
  s.answer (.data (mixWord (accMask a .wo) v 0).toNat)

/-- A debug read reaches a register: from L1 on every block but another mailbox's TND_DATA; its own mailbox at any level (R494). -/
def debugReads (s : State) (a : Nat) : Bool :=
  let o := a - 0x30050000
  if 0x30050000 ≤ a ∧ a < 0x30060000 then
    if 0x800 ≤ o ∧ o < 0xC00 then true
    else decide (1 ≤ s.dbgLevel) && !(decide (o < 0x800) && decide (0x100 ≤ o % 0x400 ∧ o % 0x400 < 0x200))
  else decide (1 ≤ s.dbgLevel)

/-- A register read over the bus (R3, R4, R6, R8, R32). -/
def regRead (m : Master) (a size : Nat) (synd : Syndrome) (s : State) : State :=
  let may := if m == .debug then debugReads s a else regReader s m a
  if !inRegs a || size != 4 || a % 4 != 0 then busError s
  else if inEmbMem a then memRead m a size synd s
  else if !s.pdReady (domainOf a) || !may then busError s
  else if a = 0x30010010 then tsLoRead s
  else if a = 0x30030440 then claimRead 0 s
  else if a = 0x30030444 then claimRead 1 s
  else if 0x300A0000 ≤ a ∧ a < 0x300A0080 ∧ a % 0x20 = 8 then codeRead a (encCapture ((a - 0x300A0000) / 0x20) s)
  else codeRead a (refreshLive a s)

/-- REGISTER_READ. -/
def execRegisterRead (m : Master) (addr : Word) (size : Fin 9) (s : State) : Res := .next (regRead m addr.toNat size .clean s)

end Sys2Proof.Machine
end

