-- ==== Sys2Proof/Machine/Access.lean ====
section
/-! DEFINITION. An access over the bus, by range (R30, R31, R516, R541, R543, R561): which unit answers it. -/

namespace Sys2Proof.Machine
open Sys2Proof

/-- The bus address an access reaches: the Spindles' reads and writes of the calibration pages follow CAL_SEL (R516). -/
def busAddr (s : State) (m : Master) (a : Nat) : Nat := if isSpindle m then calAddr s a else a

/-- A read of the mapped flash (R31, R98, R99); a word whose check bits show `multi` is a flash read error. -/
def flashRead (m : Master) (a size : Nat) (synd : Syndrome) (s : State) : State :=
  let o := a - 0x60000000
  if !flashReader s m || !s.pdReady 9 || !s.getB F.SKN_STAT.FLASH_OK || decide (flashSize s ≤ o) || !aligned a size then busError s
  else if s.getB F.SKN_STAT.BUSY then busError (s.bump F.SKN_ERR.MMAP_BUSY F.SKN_ERR.SAT)
  else if synd == .multi then busError (if s.sys.released then flashReadError s else s)
  else s.answer (.data (Config.flashData s.fab.ts o size))

/-- A read of the dictionary window (R561). -/
def dictRead (m : Master) (a size : Nat) (s : State) : State :=
  if size != 4 || a % 4 != 0 || !dictAllowed s m false || !s.pdReady 8 then busError s
  else match sigRead s (a - 0x50000000) with
    | some v => s.answer (.data v.toNat)
    | none => busError s

/-- A write of the dictionary window: word 0 of an entry (R561). -/
def dictWrite (m : Master) (a size : Nat) (v : Word) (synd : Syndrome) (s : State) : State :=
  if size != 4 || a % 8 != 0 || !dictAllowed s m true || !s.pdReady 8 then busError s
  else sigWrite ((a - 0x50000000) / 8) v synd s

/-- A read over the bus. -/
def busRead (m : Master) (addr size : Nat) (synd : Syndrome) (s : State) : State :=
  let a := busAddr s m addr
  if inDict a then dictRead m a size s
  else if inFlash a then flashRead m a size synd s
  else if inRegs a then regRead m a size synd s
  else memRead m a size synd s

/-- A write over the bus; one to the flash returns a bus error (R31). -/
def busWrite (m : Master) (addr size v : Nat) (x : WriteCtx) (s : State) : State :=
  let a := busAddr s m addr
  if inDict a then dictWrite m a size (BitVec.ofNat 32 v) x.synd s
  else if inFlash a then busError s
  else if inRegs a then regWrite m a size (BitVec.ofNat 32 v) x s
  else if inWhorl a then whorlWrite m ((a - 0x20000000) / 0x100000) (a % 0x100000) size v s
  else memWrite m a size v x.synd s

/-- MEMORY_READ (R541, R542). -/
def execMemoryRead (m : Master) (addr : Word) (size : Fin 9) (synd : Syndrome) (s : State) : Res :=
  .next (busRead m addr.toNat size synd s)

/-- MEMORY_WRITE (R543). -/
def execMemoryWrite (m : Master) (addr : Word) (size : Fin 9) (value : BitVec 64) (x : WriteCtx) (s : State) : Res :=
  .next (busWrite m addr.toNat size (value.toNat % 2 ^ (8 * size.val)) x s)

end Sys2Proof.Machine
end

