-- ==== Sys2Proof/Machine/KilnRows.lean ====
section
/-! DEFINITION. The Kiln's release and its watchdog (R426, R449 to R451). -/

namespace Sys2Proof.Machine
open Sys2Proof

/-- A machine with a PIN turns faster than REL_EDGES allows. -/
def tooFast (s : State) : Bool :=
  [0, 1].any (fun m => hasPin s.kln.table m && decide (tblByte s.kln.table 0x123 < SMap.get 0 s.kln.counts m))

/-- Every pair is CHECKED or SPLIT. -/
def pairsReady (s : State) : Bool := [0, 1].all (fun p => s.pdReady (2 + p) && [0, 5].contains (s.get F.SPX_STAT.STATE p))

/-- A pair stays HALTED (R415). -/
def pairHalted (s : State) : Bool := [0, 1].any (fun p => s.pdReady (2 + p) && s.get F.SPX_STAT.STATE p == 3)

/-- The lowest reason whose condition fails (R450). -/
def releaseReason (s : State) (fbOk : Bool) : Option Nat :=
  firstReason [(s.kln.present == 0, 2), (!(s.kln.latch.testBit 21) && !s.kln.wdog && !s.kln.tableCrc, 3), (pairsReady s, 4), (!tooFast s, 5),
    (fbOk, 6)]

/-- A refused edge: RELEASE_REASON and EV_KLN_RELEASE_REFUSED (227). -/
def releaseRefused (reason : Nat) (s : State) : State := raise 227 (s.setKln { s.kln with reason := reason })

/-- The release (R449, R451): latches clear; STO, the brake and the GEN lines wait for new requests; the mode becomes READY. -/
def kilnRelease (s : State) : State :=
  let s := s.setKln { s.kln with
    latch := 0, cls5 := false, brake := false, genLow := 0, first := 0, kstate := 2, stoOk := false, brkOk := false, genOk := 0, reason := 1 }
  let s := { s with sys := { s.sys with safeCls := 0, safeCauses := [], dcdcHeld := false } }
  raise 226 (enterMode 2 false s)

/-- SAFE_RESET_EDGE (R449, R450): a rising edge of SAFE_RESET, ignored in HOLD; it has something to release in SAFE or while a
reaction is latched. -/
def execSafeResetEdge (e : ResetEdge) (s : State) : Res :=
  .next (if s.kln.kstate = 0 || s.kln.kstate = 4 || (s.mode != 6 && !kilnLatched s) then s
    else if e.lowMs < 100 then releaseRefused 7 s
    else if s.mode = 6 && pairHalted s && stagesStopped s then restart (releaseRefused 8 s)
    else match releaseReason s e.fbOk with
      | some r => releaseRefused r s
      | none => kilnRelease s)

/-- KLNCLK_WATCHDOG (R426): bypassing the Kiln's logic, the outputs fall and the latch is permanent; 0x0F02 class SAFE_STO reaches
the control die while the link runs. -/
def execKlnclkWatchdog (s : State) : Res :=
  .next (if s.kln.kstate = 0 || s.kln.wdog then s
    else
      let s := kilnRecord 0x0F02 (s.setKln { s.kln with wdog := true, cls5 := true, kstate := if s.kln.kstate = 2 then 3 else s.kln.kstate })
      raise 224 (tellControl 0x0F02 5 (kilnDrive s)))

end Sys2Proof.Machine
end

