-- ==== Sys2Proof/Machine/Spx.lean ====
section
/-! DEFINITION. A checked pair's outputs, inputs, checkpoints and events (R407 to R420): the records of the two cores, the comparator, and
what each state of the pair does with them. -/

namespace Sys2Proof.Machine
open Sys2Proof

/-- Pair of a core. -/
def pairOf (c : Core) : Nat := c.val / 2

/-- Core c executes: its domain is up and it is not halted. -/
def coreRuns (s : State) (c : Core) : Bool :=
  s.pdReady (2 + pairOf c) && !(s.pdReady 8 && s.bit F.DBG_HALT.HALTED c.val)

/-- The pair's records are compared: CHECKED, or between the release and the end of a migration (R518). -/
def compares (s : State) (p : Nat) : Bool :=
  s.get F.SPX_STAT.STATE p == 0 || (s.get F.SPX_STAT.STATE p == 4 && SMap.get 0 s.upd.migr p == 2)

/-- Address of a record as SPX_MISM shows it: 0 for a checkpoint record. -/
def PRec.addr : PRec → Nat
  | .out a _ _ => a
  | .done a _ _ => a
  | _ => 0

/-- The two copies of a record are equal (R407, R410). -/
def PRec.same : PRec → PRec → Bool
  | .check v g, .check v' g' => v == v' && g == g'
  | .forced g, .forced g' => g == g'
  | .out a n v, .out a' n' v' => a == a' && n == n' && v == v'
  | .done a n v, .out a' n' v' => a == a' && n == n' && v == v'
  | _, _ => false

/-- A record of an output, performed through the pair's output port; others are only discarded. -/
def performRec (p : Nat) (x : WriteCtx) (r : PRec) (s : State) : State :=
  match r with
  | .out a n v => busWrite (.pair (Fin.ofNat 2 p)) a n v x s
  | _ => s

/-- Core 0's waiting records are performed uncompared, in order (R412, R419). -/
def flushCore0 (p : Nat) (s : State) : State :=
  let q := (s.pairSt p).buf0
  let s := s.setPair p { s.pairSt p with buf0 := [], halt := 0 }
  q.foldl (fun s r => performRec p {} r s) s

/-- The pair is declared unchecked with a code; core 0's records from the failing one on are performed (R419). -/
def unchecked (p code : Nat) (s : State) : State := flushCore0 p (pairUncheck p code s)

/-- A pair fault over a record or input at address a (R413); one in a migration ends it (R518). -/
def faultAt (p code a : Nat) (s : State) : State :=
  let mig := SMap.get 0 s.upd.migr p == 2
  let s := pairFault p code (s.set F.SPX_MISM.ADDR a p)
  if mig then migrationTimeout p s else s

/-- What the checks of the buffers and halves find (R416, R418): whether the pair goes on checked. -/
def pairErr (p : Nat) (err : PairErr) (s : State) : Bool × State :=
  match err with
  | .none => (true, s)
  | .corrected => (true, s.bump F.SPX_STAT.CE_CNT F.SPX_STAT.SAT p)
  | .record => (false, unchecked p 0x0406 s)
  | .pointer => (false, unchecked p 0x0407 s)
  | .halves => (false, unchecked p 0x0405 s)

/-- The lead of one core over the other enters DEPTH_MAX; 256 records are a lag (R413). -/
def noteDepth (p depth : Nat) (a : Nat) (s : State) : State :=
  let s := s.set F.SPX_DIAG.DEPTH_MAX (max depth (s.get F.SPX_DIAG.DEPTH_MAX p)) p
  if depth ≥ 256 then faultAt p 0x0403 a s else s

/-- Records that one core has and the other has not yet. -/
def leadOf (x : PairSt) : Nat := max (x.buf0.length - x.buf1.length) (x.buf1.length - x.buf0.length)

/-- A core's record enters its buffer. -/
def enterRec (c : Core) (r : PRec) (s : State) : State :=
  let p := pairOf c
  let x := s.pairSt p
  let x := if c.val % 2 = 0 then { x with buf0 := x.buf0 ++ [r] } else { x with buf1 := x.buf1 ++ [r] }
  noteDepth p (leadOf x) r.addr (s.setPair p x)

/-! ### Resynchronisation (R412) -/

/-- An output that has been performed. -/
def PRec.performed : PRec → PRec
  | .out a n v => .done a n v
  | r => r

/-- Records behind the written checkpoint value v, if the list holds it. -/
def afterCheck (v : Nat) : List PRec → Option (List PRec)
  | [] => none
  | .check w _ :: r => if w = v then some r else afterCheck v r
  | _ :: r => afterCheck v r

/-- A record of core c since its first checkpoint after the resume. -/
def syncAdd (c : Core) (r : PRec) (s : State) : State :=
  let p := pairOf c
  let x := s.pairSt p
  let add (l : List PRec) : List PRec := match l, r with
    | [], .check _ _ => [r]
    | [], _ => []
    | _, _ => l ++ [r]
  s.setPair p (if c.val % 2 = 0 then { x with sync0 := add x.sync0 } else { x with sync1 := add x.sync1 })

/-- Both cores have emitted written value v: comparison resumes behind that record, and the pair is CHECKED. -/
def syncAt (p v : Nat) (s : State) : State :=
  let x := s.pairSt p
  match afterCheck v x.sync0, afterCheck v x.sync1 with
  | some l0, some l1 =>
    (s.setPair p { x with buf0 := l0.map PRec.performed, buf1 := l1, sync0 := [], sync1 := [], halt := 0 }).set F.SPX_STAT.STATE 0 p
  | _, _ => s

/-! ### Rows -/

/-- PAIR_OUTPUT_STORE (R407): a store outside TCM. A checked pair holds it; a split pair's, an unchecked pair's and a resynchronising
pair's core 0 perform it; a store to the core's own TCM is no output. -/
def outputStore (c : Core) (st : CoreStore) (err : PairErr) (x : WriteCtx) (s : State) : State :=
  let p := pairOf c
  let a := st.addr.toNat
  let n := st.size.val
  let v := st.value.toNat % 2 ^ (8 * n)
  let r := PRec.out a n v
  if !coreRuns s c then s
  else if inTcm a then busWrite (.core c) a n v x s
  else if compares s p then
    match pairErr p err s with
    | (true, s) => enterRec c r s
    | (false, s) => if c.val % 2 = 0 then performRec p x r s else s
  else match s.get F.SPX_STAT.STATE p with
    | 5 => busWrite (.core c) a n v x s
    | 1 => if c.val % 2 = 0 then performRec p x r s else s
    | 2 => if c.val % 2 = 0 then syncAdd c r (performRec p x r (flushCore0 p s)) else syncAdd c r s
    | _ => s

def execPairOutputStore (core : Core) (st : CoreStore) (err : PairErr) (x : WriteCtx) (s : State) : Res :=
  .next (outputStore core st err x s)

/-- The comparison of the oldest record pair, `lag` the wait of its earlier record in 20 ns (R407, R410, R412, R413, R416, R418). -/
def compareRec (p : Nat) (err : PairErr) (lag : Nat) (x : WriteCtx) (s : State) : State :=
  let y := s.pairSt p
  match y.buf0, y.buf1 with
  | r0 :: b0, r1 :: b1 =>
    let s := s.set F.SPX_DIAG.LAG_MAX (max lag (s.get F.SPX_DIAG.LAG_MAX p)) p
    (match pairErr p err s with
      | (false, s) => s
      | (true, s) =>
        if !r0.same r1 then faultAt p 0x0402 r0.addr s
        else
          let s := performRec p x r0 (s.setPair p { y with buf0 := b0, buf1 := b1, halt := y.halt - 1 })
          match r0 with
          | .check v _ => handoverEnd p v (handoverTag p v s)
          | _ => s)
  | _, _ => s

/-- PAIR_COMPARE. In DEBUG_HALT only the pairs complete at the halt are compared; at the resume core 0's waiting records are performed. -/
def execPairCompare (p : Fin 2) (err : PairErr) (lag : Fin 2048) (x : WriteCtx) (s : State) : Res :=
  .next (if !s.pdReady (2 + p.val) then s
    else if compares s p || (s.get F.SPX_STAT.STATE p == 6 && (s.pairSt p).halt != 0) then compareRec p err lag x s
    else if s.get F.SPX_STAT.STATE p = 2 then flushCore0 p s
    else s)

/-- Bytes [a, a + n) and [b, b + m) have one in common. -/
def overlaps (a n b m : Nat) : Bool := decide (a < b + m ∧ b < a + n)

/-- A record not yet performed at the load's address (R409). -/
def stalls (s : State) (c : Core) (a n : Nat) : Bool :=
  let x := s.pairSt (pairOf c)
  (if c.val % 2 = 0 then x.buf0 else x.buf1).any (fun r => match r with
    | .out b m _ => overlaps a n b m
    | _ => false)

/-- The marker of a counter CSR among the inputs: no bus address. -/
def csrKey : Nat := 0x100000000

/-- Input of core c at key a (R408): the first core performs it with `read`, the other takes the answer kept for it; an address that
differs is a mismatch while the pair is compared (R413). -/
def pairInput (c : Core) (a n : Nat) (read : State → State) (s : State) : State :=
  let p := pairOf c
  let x := s.pairSt p
  let one := c.val % 2 == 1
  match x.ins with
  | (b, m, r) :: rest =>
    if x.lead1 == one then
      let s := read s
      let s := s.setPair p { s.pairSt p with ins := (s.pairSt p).ins ++ [(a, n, s.resp)] }
      if compares s p then noteDepth p (x.ins.length + 1) a s else s
    else if compares s p && !(b == a && m == n) then faultAt p 0x0402 a s
    else (s.setPair p { x with ins := rest }).answer r
  | [] =>
    let s := read s
    s.setPair p { s.pairSt p with ins := [(a, n, s.resp)], lead1 := one }

/-- PAIR_INPUT_LOAD (R408, R409, R420). -/
def inputLoad (c : Core) (x : CoreInput) (s : State) : State :=
  let p := pairOf c
  if !coreRuns s c then s
  else match x with
    | .load addr size synd =>
      let a := addr.toNat
      if inTcm a || s.get F.SPX_STAT.STATE p == 5 then busRead (.core c) a size synd s
      else if !(compares s p || [1, 2].contains (s.get F.SPX_STAT.STATE p)) || stalls s c a size then s
      else pairInput c a size (busRead (.pair (Fin.ofNat 2 p)) a size synd) s
    | .csr v =>
      if s.get F.SPX_STAT.STATE p = 5 then s.answer (.data v.toNat)
      else if !(compares s p || [1, 2].contains (s.get F.SPX_STAT.STATE p)) then s
      else pairInput c csrKey 0 (fun s => s.answer (.data v.toNat)) s

def execPairInputLoad (core : Core) (x : CoreInput) (s : State) : Res := .next (inputLoad core x s)

/-- A checkpoint record of a core (R410, R412): compared while the pair is checked; in RESYNC a written value that both cores have emitted
ends it; a split or unchecked pair has none. -/
def checkpoint (c : Core) (r : PRec) (s : State) : State :=
  let p := pairOf c
  if !coreRuns s c then s
  else if compares s p then enterRec c r s
  else if s.get F.SPX_STAT.STATE p = 2 then
    let s := syncAdd c r s
    match r with
    | .check v _ => syncAt p v s
    | _ => s
  else s

/-- CHECKPOINT_WRITE (R410): the value written to CSR 0x7C0, and the signature. -/
def execCheckpointWrite (core : Core) (value : Word) (sig : BitVec 64) (s : State) : Res :=
  .next (checkpoint core (.check value.toNat sig.toNat) s)

/-- FORCED_CHECKPOINT (R410): CHK_MAX × 1,024 instructions without a record. -/
def execForcedCheckpoint (core : Core) (sig : BitVec 64) (s : State) : Res := .next (checkpoint core (.forced sig.toNat) s)

/-- PAIR_EVENT_DELIVERY (R411): the leading core's count is noted; the other takes the event at that count only. -/
def execPairEventDelivery (core : Core) (ev : Fin 256) (count : Nat) (s : State) : Res :=
  let p := pairOf core
  let x := s.pairSt p
  let mine := 4 * ev.val + core.val
  let other := 4 * ev.val + (2 * p + (1 - core.val % 2))
  .next (if !coreRuns s core || s.get F.SPX_STAT.STATE p == 5 then s
    else match x.events.find? (fun e => e.1 == other) with
      | some e => if e.2 = count then s.setPair p { x with events := x.events.erase e } else s
      | none => s.setPair p { x with events := x.events ++ [(mine, count)] })

/-- PAIR_LAG_TIMEOUT (R413): a record has waited 20 µs for its partner. -/
def execPairLagTimeout (p : Fin 2) (s : State) : Res :=
  let x := s.pairSt p
  let waiting := (if x.buf0.length ≤ x.buf1.length then x.buf1 else x.buf0)[min x.buf0.length x.buf1.length]?
  .next (match waiting with
    | some r => if compares s p then faultAt p 0x0403 r.addr s else s
    | none => s)

/-- PAIR_RESET_DONE (R414, R415). -/
def execPairResetDone (p : Fin 2) (synd : Syndrome) (s : State) : Res := .next (pairResetDone p synd s)

/-- COMPARATOR_SELF_TEST (R417, R419). -/
def execComparatorSelfTest (p : Fin 2) (ok : Bool) (s : State) : Res :=
  .next (if !s.pdReady (2 + p.val) || s.get F.SPX_STAT.STATE p != 0 then s
    else if ok then s.set F.SPX_DIAG.INJ_OK (s.get F.SPX_DIAG.INJ_OK p + 1) p
    else unchecked p 0x0404 s)

end Sys2Proof.Machine
end

