-- ==== Sys2Proof/Machine/Thm.lean ====
section
/-! DEFINITION. Temperature and derating (chapter 14): sensors, rules, factors, shutdown levels and temperature bands. -/

namespace Sys2Proof.Machine
open Sys2Proof

def State.sensor (s : State) (i : Nat) : SensorSt := SMap.get {} s.thm.sensors i
def State.setSensor (s : State) (i : Nat) (x : SensorSt) : State := { s with thm := { s.thm with sensors := SMap.put {} s.thm.sensors i x } }
def State.rule (s : State) (r : Nat) : RuleSt := SMap.get {} s.thm.rules r
def State.setRule (s : State) (r : Nat) (x : RuleSt) : State := { s with thm := { s.thm with rules := SMap.put {} s.thm.rules r x } }

/-! ### Sensors (R395, R396) -/

/-- A sensor is in use: a diode and a thermistor have an EN. -/
def sensorOn (s : State) (i : Nat) : Bool :=
  if i < 8 then s.getB F.THM_TD_CFG.EN i else if i < 24 then s.getB F.THM_TH_CFG.EN (i - 8) else true

/-- A thermistor's temperature in 1/16 °C at a ratio of 12 bits, by its table. -/
def thermistor (s : State) (i ratio : Nat) : Int :=
  let t := s.get F.THM_TH_CFG.TBL i
  let k := min (ratio / 128) 31
  let a := s.getI F.THM_TH_TBL.TEMP t k
  let b := s.getI F.THM_TH_TBL.TEMP t (k + 1)
  roundDiv (a * (128 - (ratio - 128 * k : Nat)) + b * (ratio - 128 * k : Nat)) 128

/-- A sample as a temperature in 1/16 °C, or invalid: a diode's `value` is the absolute temperature in 1/16 K at ideality 1 and `ok`
that its forward voltage lies in 0.2 V to 0.9 V; a thermistor's `value` is its 12-bit ratio; a bandgap's is in 1/16 °C and `ok` its
self-check. -/
def sampleTemp (s : State) (i : Nat) (ok : Bool) (value : Int) : Option Int :=
  if i < 8 then
    if ok then some (roundDiv (value * 1000) (950 + s.get F.THM_TD_CFG.IDEALITY i) - 4370 + s.getI F.THM_TD_CFG.OFFSET i) else none
  else if i < 24 then
    let r := value.toNat
    if 100 * r < 2 * 4096 ∨ 100 * r > 98 * 4096 then none else some (thermistor s (i - 8) r)
  else if ok then some value else none

/-- SENSOR_SAMPLE (R395, R396): the reading is the mean of the last four samples. -/
def sensorSample (i : Nat) (ok : Bool) (value : Int) (s : State) : State :=
  if !s.pdReady 10 || !sensorOn s i then s
  else
    let x := s.sensor i
    match sampleTemp s i ok value with
    | some t =>
      let h := (t :: x.hist).take 4
      let good := min (x.good + 1) 4
      let s := s.setSensor i { hist := h, good := good, bad := x.bad && decide (good < 4) }
      (s.setI F.THM_TEMP.TEMP (roundDiv h.sum h.length) i).setB F.THM_TEMP.VALID (decide (4 ≤ good)) i
    | none =>
      let s := (s.set F.THM_TEMP.FAULT 1 i).set F.THM_TEMP.VALID 0 i
      let s := s.setSensor i { hist := [], good := 0, bad := true }
      if x.bad then s else raise 83 (issue 0x0E01 0 s)

def execSensorSample (sensor : Fin 36) (ok : Bool) (value : Int) (s : State) : Res := .next (sensorSample sensor ok value s)

/-- DIE_HARD_LIMIT (R401, R402): 0x0E03, SAFE_ASC; a hard limit of EMERGENCY_RUN. -/
def execDieHardLimit (sensor : Fin 36) (s : State) : Res :=
  .next (if s.pdReady 10 && decide (24 ≤ sensor.val) then emrEnd 4 (issue 0x0E03 3 s) else s)

/-! ### Rules (R397 to R400) -/

/-- Readings of the valid sensors of rule r. -/
def ruleTemps (s : State) (r : Nat) : List Int :=
  let src := s.get F.THM_RULE_CFG.SRC r
  [0, 1, 2, 3].filterMap (fun j =>
    let i := src / 2 ^ (6 * j) % 64
    if i < 36 && s.getB F.THM_TEMP.VALID i then some (s.getI F.THM_TEMP.TEMP i) else none)

def listMaxI : List Int → Option Int
  | [] => none
  | x :: r => match listMaxI r with
    | none => some x
    | some y => some (max x y)

/-- T_k of rule r, in 1/16 °C, and FAC_k. -/
def ruleThr (s : State) (r k : Nat) : Int :=
  16 * ((match k with
    | 1 => s.get F.THM_RULE_THR.T_1 r | 2 => s.get F.THM_RULE_THR.T_2 r | 3 => s.get F.THM_RULE_THR.T_3 r
    | _ => s.get F.THM_RULE_THR.T_4 r : Nat) - 50 : Int)
def ruleFac (s : State) (r k : Nat) : Nat :=
  min 128 (match k with
    | 0 => 128 | 1 => s.get F.THM_RULE_FAC.FAC_1 r | 2 => s.get F.THM_RULE_FAC.FAC_2 r | 3 => s.get F.THM_RULE_FAC.FAC_3 r
    | _ => s.get F.THM_RULE_FAC.FAC_4 r)

/-- HYS of rule r in 1/16 °C. -/
def ruleHys (s : State) (r : Nat) : Int := 16 * (max 1 (s.get F.THM_RULE_LIM.HYS r) : Nat)

/-- The step by temperature: the highest reached, or a present one not yet left by HYS. -/
def ruleStep (s : State) (r cur : Nat) (t : Int) : Nat :=
  [4, 3, 2, 1].foldl (fun n k =>
    if n ≠ 0 then n
    else if ruleThr s r k ≤ t ∨ (k ≤ cur ∧ ruleThr s r k - ruleHys s r ≤ t) then k else 0) 0

/-- Evaluate rule r (R397 to R400). -/
def ruleEval (r : Nat) (s : State) : State :=
  let x := s.rule r
  let temp := listMaxI (ruleTemps s r)
  let s := match temp with
    | some t => s.setI F.THM_RULE_STAT.TEMP t r
    | none => s
  if !s.getB F.THM_RULE_CFG.EN r then
    (((s.set F.THM_RULE_STAT.STEP 0 r).set F.THM_RULE_STAT.ROR 0 r).set F.THM_RULE_STAT.SHUT 0 r).setRule r {}
  else match temp with
    | none =>
      let new := !s.getB F.THM_RULE_STAT.NOSRC r
      let s := s.set F.THM_RULE_STAT.NOSRC 1 r
      let s := (s.set F.THM_RULE_STAT.STEP (min 4 (s.get F.THM_RULE_LIM.FAIL_STEP r)) r).setRule r { x with hist := [] }
      if new then issue 0x0E02 0 s else s
    | some t =>
      let s := s.set F.THM_RULE_STAT.NOSRC 0 r
      let step := ruleStep s r x.step t
      -- rate of rise over the last 100 ms
      let thr : Int := s.get F.THM_RULE_LIM.ROR_THR r
      let d : Int := match x.hist[99]? with
        | some h => t - h
        | none => 0
      let was := s.getB F.THM_RULE_STAT.ROR r
      let low := if 5 * d < 2 * thr then x.lowRun + 1 else 0
      let ror := decide (thr ≠ 0) && (decide (5 * d > 4 * thr) || (was && decide (low ≤ 1000)))
      -- shutdown level
      let lim : Int := 16 * ((s.get F.THM_RULE_LIM.T_SHUT r : Int) - 50)
      let run := if lim ≤ t then min (x.shutRun + 1) 2 else 0
      let wasShut := s.getB F.THM_RULE_STAT.SHUT r
      let shut := decide (2 ≤ run) || (wasShut && decide (lim - ruleHys s r ≤ t))
      let s := s.setRule r { step := step, hist := (t :: x.hist).take 100, lowRun := min low 1001, shutRun := run }
      let s := (s.setB F.THM_RULE_STAT.ROR ror r).setB F.THM_RULE_STAT.SHUT shut r
      let s := s.set F.THM_RULE_STAT.STEP (if ror then min 4 (step + 1) else step) r
      if shut && !wasShut then
        emrEnd 4 (raise 82 (issue (0x0E10 + r) (clsOf (s.get F.THM_RULE_CFG.SHUT_CLASS r)) s))
      else s

/-- The factor rule r applies. -/
def ruleFactor (s : State) (r : Nat) : Nat :=
  if s.getB F.THM_RULE_STAT.SHUT r then 0 else ruleFac s r (s.get F.THM_RULE_STAT.STEP r)

/-- The factor target i is to have (R399): the smallest among the enabled rules that name it or target 7. -/
def targetWant (s : State) (i : Nat) : Nat :=
  (List.range 16).foldl (fun m r =>
    let t := s.get F.THM_RULE_CFG.TARGET r
    if s.getB F.THM_RULE_CFG.EN r && (t == i || t == 7) then min m (ruleFactor s r) else m) 128

/-- The field of target i's published factor. -/
def tgtFld (i : Nat) : Fld :=
  match i with
  | 0 => F.THM_TGT0.FACTOR0 | 1 => F.THM_TGT0.FACTOR1 | 2 => F.THM_TGT0.FACTOR2 | 3 => F.THM_TGT0.FACTOR3
  | 4 => F.THM_TGT1.FACTOR0 | 5 => F.THM_TGT1.FACTOR1 | 6 => F.THM_TGT1.FACTOR2 | _ => F.THM_TGT1.FACTOR3

/-- A published factor changes: EV_THM_STEP (80). -/
def publish (i f : Nat) (s : State) : State := raise 80 (s.set (tgtFld i) f)

/-- A factor that falls is published at once. -/
def targetEval (i : Nat) (s : State) : State :=
  let w := targetWant s i
  let s := { s with thm := { s.thm with want := SMap.put 128 s.thm.want i w } }
  if w < s.get (tgtFld i) then publish i w s else s

/-! ### Bands (R403 to R405) -/

/-- BAND_CHANGE (R404): the new band's dead times, strength and period; EV_THM_BAND (81). -/
def bandChange (b k : Nat) (s : State) : State :=
  let s := s.set F.THM_BAND_CFG.BAND k b
  let legs := s.get F.THM_BAND_LEGS.LEGS b
  let brs := s.get F.THM_BAND_ACT.BRIDGES b
  let cg := s.get F.THM_BAND_ACT.CG b
  let s := if s.pdReady 7 then
      let s := (List.range 32).foldl (fun s l =>
        if legs.testBit l then
          (s.set F.PWM_LEG_DT.DT_TB (s.get F.THM_BAND_SET.DT_TB b k) l).set F.PWM_LEG_DT.DT_BT (s.get F.THM_BAND_SET.DT_BT b k) l
        else s) s
      if cg < 12 then s.set F.PWM_CG_PER.PER (s.get F.THM_BAND_PER.PER b k) cg else s
    else s
  let s := (List.range 12).foldl (fun s j => if brs.testBit j then s.set F.ACT_BR_CFG.STRENGTH (s.get F.THM_BAND_SET.STRENGTH b k) j else s) s
  raise 81 { s with thm := { s.thm with calDue := (s.thm.calDue.filter (fun e => e / 2 != b)) ++ [2 * b, 2 * b + 1] } }

/-- Boundary k (1 to 3) of selector b in 1/16 °C. -/
def bandEdge (s : State) (b k : Nat) : Int := 16 * ((s.get F.THM_BAND_CFG.B b / 2 ^ (8 * (k - 1)) % 256 : Nat) - 50 : Int)

/-- Evaluate selector b (R403). -/
def bandEval (b : Nat) (s : State) : State :=
  if !s.getB F.THM_BAND_CFG.EN b then s
  else match listMaxI (ruleTemps s (s.get F.THM_BAND_CFG.RULE b)) with
    | none => s.set F.THM_BAND_CFG.HELD 1 b
    | some t =>
      let s := s.set F.THM_BAND_CFG.HELD 0 b
      let k := s.get F.THM_BAND_CFG.BAND b
      let setDwell (n : Nat) (s : State) : State := { s with thm := { s.thm with dwell := SMap.put 0 s.thm.dwell b n } }
      if k < 3 ∧ bandEdge s b (k + 1) ≤ t then bandChange b (k + 1) (setDwell 0 s)
      else if 0 < k ∧ t < bandEdge s b k - 16 * (max 1 (s.get F.THM_BAND_ACT.HYS b) : Nat) then
        let n := SMap.get 0 s.thm.dwell b + 1
        if n ≥ 10 * max 1 (s.get F.THM_BAND_ACT.DWELL b) then bandChange b (k - 1) (setDwell 0 s) else setDwell n s
      else setDwell 0 s

/-- RULE_EVALUATION (R397): the rules, then the selectors, whose writes go first (R406), then the factors. -/
def execRuleEvaluation (s : State) : Res :=
  .next (if !s.pdReady 10 then s
    else
      let s := (List.range 16).foldl (fun s r => ruleEval r s) s
      let s := (List.range 4).foldl (fun s b => bandEval b s) s
      (List.range 8).foldl (fun s i => targetEval i s) s)

/-- FACTOR_RISE_STEP (R399): one increment of 1/128 towards the factor the target is to have. -/
def execFactorRiseStep (target : Fin 8) (s : State) : Res :=
  let i := target.val
  .next (if s.pdReady 10 && decide (s.get (tgtFld i) < SMap.get 128 s.thm.want i) then publish i (s.get (tgtFld i) + 1) s else s)

end Sys2Proof.Machine
end

