-- ==== Sys2Proof/Machine/Dispatch.lean ====
section
/-! DEFINITION. One arm per row of the opcode table: a call of its meaning. -/

namespace Sys2Proof.Machine
open Sys2Proof

def exec (i : Instr) (s : State) : Host.Outcome State Fault Refusal :=
  match i with
  | .windowEnd ch win samples d => Sys2Proof.Machine.execWindowEnd ch win samples d s
  | .afeResultDelivery ch win => Sys2Proof.Machine.execAfeResultDelivery ch win s
  | .timedLoopStart w loop => Sys2Proof.Machine.execTimedLoopStart w loop s
  | .budgetEnd w loop => Sys2Proof.Machine.execBudgetEnd w loop s
  | .outputPhaseCopy w loop late => Sys2Proof.Machine.execOutputPhaseCopy w loop late s
  | .carrierEvent cg => Sys2Proof.Machine.execCarrierEvent cg s
  | .linkTokenTimeout die => Sys2Proof.Machine.execLinkTokenTimeout die s
  | .linkFrameReceive f => Sys2Proof.Machine.execLinkFrameReceive f s
  | .registerWrite m addr size value x => Sys2Proof.Machine.execRegisterWrite m addr size value x s
  | .requestReady m key cleared => Sys2Proof.Machine.execRequestReady m key cleared s
  | .requestDrive m key => Sys2Proof.Machine.execRequestDrive m key s
  | .requestCharge m key => Sys2Proof.Machine.execRequestCharge m key s
  | .requestV2l m key => Sys2Proof.Machine.execRequestV2l m key s
  | .requestLimp m key => Sys2Proof.Machine.execRequestLimp m key s
  | .requestService m key => Sys2Proof.Machine.execRequestService m key s
  | .requestSafe m key => Sys2Proof.Machine.execRequestSafe m key s
  | .requestDormant m key => Sys2Proof.Machine.execRequestDormant m key s
  | .requestRestart m key => Sys2Proof.Machine.execRequestRestart m key s
  | .modeTransitionComplete => Sys2Proof.Machine.execModeTransitionComplete s
  | .imposedTransition => Sys2Proof.Machine.execImposedTransition s
  | .vbatRise => Sys2Proof.Machine.execVbatRise s
  | .supplyGood => Sys2Proof.Machine.execSupplyGood s
  | .pllLock fuseOk => Sys2Proof.Machine.execPllLock fuseOk s
  | .domainPowerOn => Sys2Proof.Machine.execDomainPowerOn s
  | .memoryFillDone d ok => Sys2Proof.Machine.execMemoryFillDone d ok s
  | .whorlReloadDone high => Sys2Proof.Machine.execWhorlReloadDone high s
  | .coreRelease => Sys2Proof.Machine.execCoreRelease s
  | .startTimeout => Sys2Proof.Machine.execStartTimeout s
  | .supplyTimeout => Sys2Proof.Machine.execSupplyTimeout s
  | .referenceClockFail => Sys2Proof.Machine.execReferenceClockFail s
  | .pllLockTimeout => Sys2Proof.Machine.execPllLockTimeout s
  | .linkUpTimeout => Sys2Proof.Machine.execLinkUpTimeout s
  | .kilnTableTransfer intact => Sys2Proof.Machine.execKilnTableTransfer intact s
  | .supEnHoldEnd => Sys2Proof.Machine.execSupEnHoldEnd s
  | .supplyWarning supply above => Sys2Proof.Machine.execSupplyWarning supply above s
  | .supplyFault supply above => Sys2Proof.Machine.execSupplyFault supply above s
  | .supplyRecovery supply fault => Sys2Proof.Machine.execSupplyRecovery supply fault s
  | .controlDieRelease => Sys2Proof.Machine.execControlDieRelease s
  | .vbatCollapse => Sys2Proof.Machine.execVbatCollapse s
  | .dormantDomainOff => Sys2Proof.Machine.execDormantDomainOff s
  | .dormantEntryComplete => Sys2Proof.Machine.execDormantEntryComplete s
  | .latchedWakeStart => Sys2Proof.Machine.execLatchedWakeStart s
  | .kilnHoldExit => Sys2Proof.Machine.execKilnHoldExit s
  | .flashInit x => Sys2Proof.Machine.execFlashInit x s
  | .headerVerified h readOk => Sys2Proof.Machine.execHeaderVerified h readOk s
  | .descriptorsVerified ds readOk => Sys2Proof.Machine.execDescriptorsVerified ds readOk s
  | .componentVerified x => Sys2Proof.Machine.execComponentVerified x s
  | .configRecordsApply x wo => Sys2Proof.Machine.execConfigRecordsApply x wo s
  | .writeOnceWrite readOk => Sys2Proof.Machine.execWriteOnceWrite readOk s
  | .mmapFlashRead m addr value readOk => Sys2Proof.Machine.execMmapFlashRead m addr value readOk s
  | .flashOperationDone readOk => Sys2Proof.Machine.execFlashOperationDone readOk s
  | .flashReadError => Sys2Proof.Machine.execFlashReadError s
  | .passTimerExpiry => Sys2Proof.Machine.execPassTimerExpiry s
  | .wakePinEdge pin rising => Sys2Proof.Machine.execWakePinEdge pin rising s
  | .rtcSecondTick => Sys2Proof.Machine.execRtcSecondTick s
  | .rtcSecWrite m value => Sys2Proof.Machine.execRtcSecWrite m value s
  | .rtcAlarmWrite m value => Sys2Proof.Machine.execRtcAlarmWrite m value s
  | .passLimit => Sys2Proof.Machine.execPassLimit s
  | .embIllegalOpcode parity => Sys2Proof.Machine.execEmbIllegalOpcode parity s
  | .embSleep => Sys2Proof.Machine.execEmbSleep s
  | .embLdi rd imm => Sys2Proof.Machine.execEmbLdi rd imm s
  | .embLui rd imm => Sys2Proof.Machine.execEmbLui rd imm s
  | .embAdd rd ra rb => Sys2Proof.Machine.execEmbAdd rd ra rb s
  | .embSub rd ra rb => Sys2Proof.Machine.execEmbSub rd ra rb s
  | .embAddi rd ra imm => Sys2Proof.Machine.execEmbAddi rd ra imm s
  | .embAnd rd ra rb => Sys2Proof.Machine.execEmbAnd rd ra rb s
  | .embOr rd ra rb => Sys2Proof.Machine.execEmbOr rd ra rb s
  | .embXor rd ra rb => Sys2Proof.Machine.execEmbXor rd ra rb s
  | .embShl rd ra imm => Sys2Proof.Machine.execEmbShl rd ra imm s
  | .embShr rd ra imm => Sys2Proof.Machine.execEmbShr rd ra imm s
  | .embAsr rd ra imm => Sys2Proof.Machine.execEmbAsr rd ra imm s
  | .embFilt rd ra imm => Sys2Proof.Machine.execEmbFilt rd ra imm s
  | .embLd rd ra imm => Sys2Proof.Machine.execEmbLd rd ra imm s
  | .embSt rd ra imm => Sys2Proof.Machine.execEmbSt rd ra imm s
  | .embBeq rd ra imm => Sys2Proof.Machine.execEmbBeq rd ra imm s
  | .embBne rd ra imm => Sys2Proof.Machine.execEmbBne rd ra imm s
  | .embBlt rd ra imm => Sys2Proof.Machine.execEmbBlt rd ra imm s
  | .embBge rd ra imm => Sys2Proof.Machine.execEmbBge rd ra imm s
  | .embJmp imm => Sys2Proof.Machine.execEmbJmp imm s
  | .embSamp rd imm codes => Sys2Proof.Machine.execEmbSamp rd imm codes s
  | .embCnt rd imm crossing => Sys2Proof.Machine.execEmbCnt rd imm crossing s
  | .embInp rd => Sys2Proof.Machine.execEmbInp rd s
  | .embRtc rd => Sys2Proof.Machine.execEmbRtc rd s
  | .embWake imm directEdge => Sys2Proof.Machine.execEmbWake imm directEdge s
  | .embOut imm => Sys2Proof.Machine.execEmbOut imm s
  | .embWait imm => Sys2Proof.Machine.execEmbWait imm s
  | .converterPowerDown => Sys2Proof.Machine.execConverterPowerDown s
  | .rotationCrossing cmp => Sys2Proof.Machine.execRotationCrossing cmp s
  | .xtalStop => Sys2Proof.Machine.execXtalStop s
  | .xtalReturn => Sys2Proof.Machine.execXtalReturn s
  | .emberProgramLoad m prog => Sys2Proof.Machine.execEmberProgramLoad m prog s
  | .sliceTimeout ch slot => Sys2Proof.Machine.execSliceTimeout ch slot s
  | .rotationStep ch shadowSum skew => Sys2Proof.Machine.execRotationStep ch shadowSum skew s
  | .spareCalibration ch ofs gain => Sys2Proof.Machine.execSpareCalibration ch ofs gain s
  | .refEnable m => Sys2Proof.Machine.execRefEnable m s
  | .refReady cals => Sys2Proof.Machine.execRefReady cals s
  | .refDisable m => Sys2Proof.Machine.execRefDisable m s
  | .refBufferFault buf => Sys2Proof.Machine.execRefBufferFault buf s
  | .sliceCoefWrite m ch slice value => Sys2Proof.Machine.execSliceCoefWrite m ch slice value s
  | .windowStart ch win => Sys2Proof.Machine.execWindowStart ch win s
  | .windowAbort ch win samples d => Sys2Proof.Machine.execWindowAbort ch win samples d s
  | .windowDisable ch win => Sys2Proof.Machine.execWindowDisable ch win s
  | .afeChannelDisable ch => Sys2Proof.Machine.execAfeChannelDisable ch s
  | .pointSample ch pt samples frac age => Sys2Proof.Machine.execPointSample ch pt samples frac age s
  | .segmentAnchor ch win leg next apart => Sys2Proof.Machine.execSegmentAnchor ch win leg next apart s
  | .hkConversionSlot slot => Sys2Proof.Machine.execHkConversionSlot slot s
  | .twinArbitrationEnd ch refOk spareDisagrees slot => Sys2Proof.Machine.execTwinArbitrationEnd ch refOk spareDisagrees slot s
  | .twinStrobeTimeout conv => Sys2Proof.Machine.execTwinStrobeTimeout conv s
  | .backgroundTrigger w loop => Sys2Proof.Machine.execBackgroundTrigger w loop s
  | .backgroundStart w loop => Sys2Proof.Machine.execBackgroundStart w loop s
  | .backgroundComplete w loop => Sys2Proof.Machine.execBackgroundComplete w loop s
  | .loopEnable m w loop atTrigger => Sys2Proof.Machine.execLoopEnable m w loop atTrigger s
  | .loopDisable m w loop => Sys2Proof.Machine.execLoopDisable m w loop s
  | .coefQueueWrite m w entry => Sys2Proof.Machine.execCoefQueueWrite m w entry s
  | .queueBatchApply w => Sys2Proof.Machine.execQueueBatchApply w s
  | .cqHoldSet m w => Sys2Proof.Machine.execCqHoldSet m w s
  | .cqHoldClear m w => Sys2Proof.Machine.execCqHoldClear m w s
  | .cqFlush m w => Sys2Proof.Machine.execCqFlush m w s
  | .tableRegionWrite m w word value => Sys2Proof.Machine.execTableRegionWrite m w word value s
  | .whorlMemoryWrite m w off size value => Sys2Proof.Machine.execWhorlMemoryWrite m w off size value s
  | .shadowSessionStart w => Sys2Proof.Machine.execShadowSessionStart w s
  | .standbyPrepareDone w => Sys2Proof.Machine.execStandbyPrepareDone w s
  | .stateCopyDone w abandoned => Sys2Proof.Machine.execStateCopyDone w abandoned s
  | .whlHandoverRequest m value => Sys2Proof.Machine.execWhlHandoverRequest m value s
  | .codeRepair w word copyOk => Sys2Proof.Machine.execCodeRepair w word copyOk s
  | .unitResultRetire w => Sys2Proof.Machine.execUnitResultRetire w s
  | .whlIllegalOperation w slot hz => Sys2Proof.Machine.execWhlIllegalOperation w slot hz s
  | .whlNop w slot hz ue => Sys2Proof.Machine.execWhlNop w slot hz ue s
  | .whlAdd w slot d a b hz => Sys2Proof.Machine.execWhlAdd w slot d a b hz s
  | .whlSub w slot d a b hz => Sys2Proof.Machine.execWhlSub w slot d a b hz s
  | .whlAddw w slot d a b hz => Sys2Proof.Machine.execWhlAddw w slot d a b hz s
  | .whlSubw w slot d a b hz => Sys2Proof.Machine.execWhlSubw w slot d a b hz s
  | .whlNeg w slot d a hz => Sys2Proof.Machine.execWhlNeg w slot d a hz s
  | .whlAbs w slot d a hz => Sys2Proof.Machine.execWhlAbs w slot d a hz s
  | .whlMin w slot d a b hz => Sys2Proof.Machine.execWhlMin w slot d a b hz s
  | .whlMax w slot d a b hz => Sys2Proof.Machine.execWhlMax w slot d a b hz s
  | .whlClmp w slot d a b hz => Sys2Proof.Machine.execWhlClmp w slot d a b hz s
  | .whlAnd w slot d a b hz => Sys2Proof.Machine.execWhlAnd w slot d a b hz s
  | .whlOr w slot d a b hz => Sys2Proof.Machine.execWhlOr w slot d a b hz s
  | .whlXor w slot d a b hz => Sys2Proof.Machine.execWhlXor w slot d a b hz s
  | .whlShl w slot d a imm hz => Sys2Proof.Machine.execWhlShl w slot d a imm hz s
  | .whlSar w slot d a imm hz => Sys2Proof.Machine.execWhlSar w slot d a imm hz s
  | .whlShr w slot d a imm hz => Sys2Proof.Machine.execWhlShr w slot d a imm hz s
  | .whlLih w slot d imm hz => Sys2Proof.Machine.execWhlLih w slot d imm hz s
  | .whlLil w slot d imm hz => Sys2Proof.Machine.execWhlLil w slot d imm hz s
  | .whlAddi w slot d a imm hz => Sys2Proof.Machine.execWhlAddi w slot d a imm hz s
  | .whlSlt w slot d a b hz => Sys2Proof.Machine.execWhlSlt w slot d a b hz s
  | .whlCmov w slot d a b hz => Sys2Proof.Machine.execWhlCmov w slot d a b hz s
  | .whlFlg w slot d hz => Sys2Proof.Machine.execWhlFlg w slot d hz s
  | .whlMul w slot d a b hz => Sys2Proof.Machine.execWhlMul w slot d a b hz s
  | .whlMac w slot acc a b hz => Sys2Proof.Machine.execWhlMac w slot acc a b hz s
  | .whlMsu w slot acc a b hz => Sys2Proof.Machine.execWhlMsu w slot acc a b hz s
  | .whlAld w slot acc a hz => Sys2Proof.Machine.execWhlAld w slot acc a hz s
  | .whlArd w slot d acc hz => Sys2Proof.Machine.execWhlArd w slot d acc hz s
  | .whlAclp w slot acc a hz => Sys2Proof.Machine.execWhlAclp w slot acc a hz s
  | .whlRot w slot d a b hz => Sys2Proof.Machine.execWhlRot w slot d a b hz s
  | .whlVec w slot d a hz => Sys2Proof.Machine.execWhlVec w slot d a hz s
  | .whlScs w slot d a hz => Sys2Proof.Machine.execWhlScs w slot d a hz s
  | .whlRcp w slot d a hz => Sys2Proof.Machine.execWhlRcp w slot d a hz s
  | .whlSqrt w slot d a hz => Sys2Proof.Machine.execWhlSqrt w slot d a hz s
  | .whlTbl w slot d a t synd hz => Sys2Proof.Machine.execWhlTbl w slot d a t synd hz s
  | .whlIn w slot d p hz => Sys2Proof.Machine.execWhlIn w slot d p hz s
  | .whlOut w slot p src hz => Sys2Proof.Machine.execWhlOut w slot p src hz s
  | .whlFrsh w slot d h hz => Sys2Proof.Machine.execWhlFrsh w slot d h hz s
  | .whlLd w slot d a off synd hz => Sys2Proof.Machine.execWhlLd w slot d a off synd hz s
  | .whlSt w slot src a off hz => Sys2Proof.Machine.execWhlSt w slot src a off hz s
  | .whlBz w slot a target hz => Sys2Proof.Machine.execWhlBz w slot a target hz s
  | .whlBnz w slot a target hz => Sys2Proof.Machine.execWhlBnz w slot a target hz s
  | .whlBltz w slot a target hz => Sys2Proof.Machine.execWhlBltz w slot a target hz s
  | .whlBgez w slot a target hz => Sys2Proof.Machine.execWhlBgez w slot a target hz s
  | .whlJmp w slot target hz => Sys2Proof.Machine.execWhlJmp w slot target hz s
  | .whlLoop w slot n last hz => Sys2Proof.Machine.execWhlLoop w slot n last hz s
  | .whlSafe w slot hz => Sys2Proof.Machine.execWhlSafe w slot hz s
  | .whlEnd w slot hz => Sys2Proof.Machine.execWhlEnd w slot hz s
  | .generatorDisable m cg => Sys2Proof.Machine.execGeneratorDisable m cg s
  | .switchEdgeCommand leg toTop width => Sys2Proof.Machine.execSwitchEdgeCommand leg toTop width s
  | .deadTimeExpiry sw => Sys2Proof.Machine.execDeadTimeExpiry sw s
  | .gfbChange sw on delay => Sys2Proof.Machine.execGfbChange sw on delay s
  | .turnOffFbWinExpiry sw => Sys2Proof.Machine.execTurnOffFbWinExpiry sw s
  | .turnOnFbWinExpiry sw => Sys2Proof.Machine.execTurnOnFbWinExpiry sw s
  | .bootUndervoltage bridge => Sys2Proof.Machine.execBootUndervoltage bridge s
  | .armSet m leg => Sys2Proof.Machine.execArmSet m leg s
  | .genFall g => Sys2Proof.Machine.execGenFall g s
  | .genLowFeedbackFault sw => Sys2Proof.Machine.execGenLowFeedbackFault sw s
  | .comparatorTrip ch above => Sys2Proof.Machine.execComparatorTrip ch above s
  | .comparatorRelease ch => Sys2Proof.Machine.execComparatorRelease ch s
  | .blankingEnd ch => Sys2Proof.Machine.execBlankingEnd ch s
  | .hardTrip ch above => Sys2Proof.Machine.execHardTrip ch above s
  | .gfltAssert x on => Sys2Proof.Machine.execGfltAssert x on s
  | .faultMapDecision p => Sys2Proof.Machine.execFaultMapDecision p s
  | .ascEntryTimeout p => Sys2Proof.Machine.execAscEntryTimeout p s
  | .ucgSpeedWrite m p value => Sys2Proof.Machine.execUcgSpeedWrite m p value s
  | .ucgStaleTimeout p => Sys2Proof.Machine.execUcgStaleTimeout p s
  | .psetClear m p => Sys2Proof.Machine.execPsetClear m p s
  | .psetAscTop m p => Sys2Proof.Machine.execPsetAscTop m p s
  | .psetAscBot m p => Sys2Proof.Machine.execPsetAscBot m p s
  | .encoderEdge n count => Sys2Proof.Machine.execEncoderEdge n count s
  | .encoderIndex n abHigh => Sys2Proof.Machine.execEncoderIndex n abHigh s
  | .encPosRead m n => Sys2Proof.Machine.execEncPosRead m n s
  | .hallTransition h state => Sys2Proof.Machine.execHallTransition h state s
  | .resolverHalfPeriod r sinV cosV => Sys2Proof.Machine.execResolverHalfPeriod r sinV cosV s
  | .excitationFault r present => Sys2Proof.Machine.execExcitationFault r present s
  | .serialPoll k => Sys2Proof.Machine.execSerialPoll k s
  | .serialFrameEnd k frame => Sys2Proof.Machine.execSerialFrameEnd k frame s
  | .serialTimeout k => Sys2Proof.Machine.execSerialTimeout k s
  | .sentFrame k nibbles crc syncOk slow => Sys2Proof.Machine.execSentFrame k nibbles crc syncOk slow s
  | .measurementTimeout src => Sys2Proof.Machine.execMeasurementTimeout src s
  | .trackerStep mach age => Sys2Proof.Machine.execTrackerStep mach age s
  | .machAcq m mach => Sys2Proof.Machine.execMachAcq m mach s
  | .machAcqUseSet m mach => Sys2Proof.Machine.execMachAcqUseSet m mach s
  | .compareValWrite m c value reached => Sys2Proof.Machine.execCompareValWrite m c value reached s
  | .emulationEdge e => Sys2Proof.Machine.execEmulationEdge e s
  | .flyerUnitDisable m unit => Sys2Proof.Machine.execFlyerUnitDisable m unit s
  | .reacqTimeout p => Sys2Proof.Machine.execReacqTimeout p s
  | .supervisionTask x => Sys2Proof.Machine.execSupervisionTask x s
  | .ucgCompute => Sys2Proof.Machine.execUcgCompute s
  | .shockHoldEnd mach => Sys2Proof.Machine.execShockHoldEnd mach s
  | .catchPhaseEnd mach => Sys2Proof.Machine.execCatchPhaseEnd mach s
  | .emergencyRunEnd => Sys2Proof.Machine.execEmergencyRunEnd s
  | .bridgeHiz m bridge => Sys2Proof.Machine.execBridgeHiz m bridge s
  | .bridgePwm m bridge => Sys2Proof.Machine.execBridgePwm m bridge s
  | .bridgeLowOn m bridge => Sys2Proof.Machine.execBridgeLowOn m bridge s
  | .predriverGateReport bridge report => Sys2Proof.Machine.execPredriverGateReport bridge report s
  | .drainSourceFault bridge high => Sys2Proof.Machine.execDrainSourceFault bridge high s
  | .vgdUndervoltage low => Sys2Proof.Machine.execVgdUndervoltage low s
  | .driveSupplyFault above => Sys2Proof.Machine.execDriveSupplyFault above s
  | .predriverOvertemp sensor => Sys2Proof.Machine.execPredriverOvertemp sensor s
  | .predriverWarning supply present => Sys2Proof.Machine.execPredriverWarning supply present s
  | .actEnFall => Sys2Proof.Machine.execActEnFall s
  | .actEnRise lowUs causes => Sys2Proof.Machine.execActEnRise lowUs causes s
  | .cnvChannelStart m ch => Sys2Proof.Machine.execCnvChannelStart m ch s
  | .cnvChannelStop m ch => Sys2Proof.Machine.execCnvChannelStop m ch s
  | .cnvChannelClear m ch => Sys2Proof.Machine.execCnvChannelClear m ch s
  | .cnvChannelStopNow m ch => Sys2Proof.Machine.execCnvChannelStopNow m ch s
  | .rampTimeout ch => Sys2Proof.Machine.execRampTimeout ch s
  | .softStartCheckpoint ch k => Sys2Proof.Machine.execSoftStartCheckpoint ch k s
  | .softStopTimeout ch => Sys2Proof.Machine.execSoftStopTimeout ch s
  | .hiccupOffEnd ch => Sys2Proof.Machine.execHiccupOffEnd ch s
  | .retryClear ch => Sys2Proof.Machine.execRetryClear ch s
  | .nlMaxTimeout ch => Sys2Proof.Machine.execNlMaxTimeout ch s
  | .shedStart ch => Sys2Proof.Machine.execShedStart ch s
  | .shedHoldoffEnd ch => Sys2Proof.Machine.execShedHoldoffEnd ch s
  | .telemetryWindowClose ch w => Sys2Proof.Machine.execTelemetryWindowClose ch w s
  | .telemetryClear m mask => Sys2Proof.Machine.execTelemetryClear m mask s
  | .pilotPeriod x => Sys2Proof.Machine.execPilotPeriod x s
  | .proximitySample mv => Sys2Proof.Machine.execProximitySample mv s
  | .chargeTask x => Sys2Proof.Machine.execChargeTask x s
  | .limitsTimeout => Sys2Proof.Machine.execLimitsTimeout s
  | .pauseTimeout => Sys2Proof.Machine.execPauseTimeout s
  | .hvLostHoldEnd => Sys2Proof.Machine.execHvLostHoldEnd s
  | .acceptanceProbe battI battV => Sys2Proof.Machine.execAcceptanceProbe battI battV s
  | .safetyTimerExpiry => Sys2Proof.Machine.execSafetyTimerExpiry s
  | .prechargeTimeout => Sys2Proof.Machine.execPrechargeTimeout s
  | .preHoldTimeout => Sys2Proof.Machine.execPreHoldTimeout s
  | .sensorSample sensor ok value => Sys2Proof.Machine.execSensorSample sensor ok value s
  | .dieHardLimit sensor => Sys2Proof.Machine.execDieHardLimit sensor s
  | .ruleEvaluation => Sys2Proof.Machine.execRuleEvaluation s
  | .factorRiseStep target => Sys2Proof.Machine.execFactorRiseStep target s
  | .pairOutputStore core st err x => Sys2Proof.Machine.execPairOutputStore core st err x s
  | .pairCompare p err lag x => Sys2Proof.Machine.execPairCompare p err lag x s
  | .pairInputLoad core x => Sys2Proof.Machine.execPairInputLoad core x s
  | .checkpointWrite core value sig => Sys2Proof.Machine.execCheckpointWrite core value sig s
  | .forcedCheckpoint core sig => Sys2Proof.Machine.execForcedCheckpoint core sig s
  | .pairEventDelivery core ev count => Sys2Proof.Machine.execPairEventDelivery core ev count s
  | .pairLagTimeout p => Sys2Proof.Machine.execPairLagTimeout p s
  | .pairResetDone p synd => Sys2Proof.Machine.execPairResetDone p synd s
  | .comparatorSelfTest p ok => Sys2Proof.Machine.execComparatorSelfTest p ok s
  | .heartbeatChallenge qa qb => Sys2Proof.Machine.execHeartbeatChallenge qa qb s
  | .heartbeatAnswer m p one value us => Sys2Proof.Machine.execHeartbeatAnswer m p one value us s
  | .claimCommit m p => Sys2Proof.Machine.execClaimCommit m p s
  | .claimTimeout => Sys2Proof.Machine.execClaimTimeout s
  | .kilnPowerCheck => Sys2Proof.Machine.execKilnPowerCheck s
  | .kirchhoffTrip set => Sys2Proof.Machine.execKirchhoffTrip set s
  | .kilnSpeedEdge mach => Sys2Proof.Machine.execKilnSpeedEdge mach s
  | .kilnGateEnd mach t => Sys2Proof.Machine.execKilnGateEnd mach t s
  | .slsRequest m p bits => Sys2Proof.Machine.execSlsRequest m p bits s
  | .ss1Request m p on => Sys2Proof.Machine.execSs1Request m p on s
  | .stoRequest m p on => Sys2Proof.Machine.execStoRequest m p on s
  | .stoRelease m p on => Sys2Proof.Machine.execStoRelease m p on s
  | .brakeRelease m p on => Sys2Proof.Machine.execBrakeRelease m p on s
  | .genRelease m p bits => Sys2Proof.Machine.execGenRelease m p bits s
  | .stoFeedbackTimeout => Sys2Proof.Machine.execStoFeedbackTimeout s
  | .darkPulseStart sw => Sys2Proof.Machine.execDarkPulseStart sw s
  | .darkPulseEnd sw off => Sys2Proof.Machine.execDarkPulseEnd sw off s
  | .brakeFeedbackTimeout agrees => Sys2Proof.Machine.execBrakeFeedbackTimeout agrees s
  | .ss1Timeout => Sys2Proof.Machine.execSs1Timeout s
  | .safeResetEdge e => Sys2Proof.Machine.execSafeResetEdge e s
  | .kilnComparatorTest missed => Sys2Proof.Machine.execKilnComparatorTest missed s
  | .klnclkWatchdog => Sys2Proof.Machine.execKlnclkWatchdog s
  | .ctrlReact => Sys2Proof.Machine.execCtrlReact s
  | .kilnMirrorRefresh => Sys2Proof.Machine.execKilnMirrorRefresh s
  | .frameReceived n f => Sys2Proof.Machine.execFrameReceived n f s
  | .reelRecordRun n r => Sys2Proof.Machine.execReelRecordRun n r s
  | .reelOverrun n how => Sys2Proof.Machine.execReelOverrun n how s
  | .reelResetDone => Sys2Proof.Machine.execReelResetDone s
  | .txPush m n win w0 w1 w2 w3 => Sys2Proof.Machine.execTxPush m n win w0 w1 w2 w3 s
  | .txHeadFetch n => Sys2Proof.Machine.execTxHeadFetch n s
  | .txEligible n => Sys2Proof.Machine.execTxEligible n s
  | .txFrameSent n => Sys2Proof.Machine.execTxFrameSent n s
  | .txAttemptError n passive => Sys2Proof.Machine.execTxAttemptError n passive s
  | .busOffHoldEnd n => Sys2Proof.Machine.execBusOffHoldEnd n s
  | .busOffRecovered n => Sys2Proof.Machine.execBusOffRecovered n s
  | .canDisable m n => Sys2Proof.Machine.execCanDisable m n s
  | .canEnable m n => Sys2Proof.Machine.execCanEnable m n s
  | .canFlush m n => Sys2Proof.Machine.execCanFlush m n s
  | .canDrainTimeout n => Sys2Proof.Machine.execCanDrainTimeout n s
  | .statusFrameDue d => Sys2Proof.Machine.execStatusFrameDue d s
  | .axleCmd x => Sys2Proof.Machine.execAxleCmd x s
  | .speedCmd x => Sys2Proof.Machine.execSpeedCmd x s
  | .stopCmd auth one => Sys2Proof.Machine.execStopCmd auth one s
  | .emrCmd auth cancel => Sys2Proof.Machine.execEmrCmd auth cancel s
  | .chgCmd x => Sys2Proof.Machine.execChgCmd x s
  | .bmsLim auth x => Sys2Proof.Machine.execBmsLim auth x s
  | .preCmd auth cOpen => Sys2Proof.Machine.execPreCmd auth cOpen s
  | .contactorClosed auth => Sys2Proof.Machine.execContactorClosed auth s
  | .hostTimeout => Sys2Proof.Machine.execHostTimeout s
  | .hostLossTimeout => Sys2Proof.Machine.execHostLossTimeout s
  | .chgCmdTimeout => Sys2Proof.Machine.execChgCmdTimeout s
  | .xcpTimeout => Sys2Proof.Machine.execXcpTimeout s
  | .xcpConnect fd => Sys2Proof.Machine.execXcpConnect fd s
  | .xcpDisconnect => Sys2Proof.Machine.execXcpDisconnect s
  | .xcpGetStatus => Sys2Proof.Machine.execXcpGetStatus s
  | .xcpSynch => Sys2Proof.Machine.execXcpSynch s
  | .xcpGetCommModeInfo => Sys2Proof.Machine.execXcpGetCommModeInfo s
  | .xcpSetMta addr => Sys2Proof.Machine.execXcpSetMta addr s
  | .xcpUpload n => Sys2Proof.Machine.execXcpUpload n s
  | .xcpShortUpload n addr => Sys2Proof.Machine.execXcpShortUpload n addr s
  | .xcpDownload data => Sys2Proof.Machine.execXcpDownload data s
  | .xcpSetCalPage mode page => Sys2Proof.Machine.execXcpSetCalPage mode page s
  | .xcpGetCalPage mode => Sys2Proof.Machine.execXcpGetCalPage mode s
  | .xcpCopyCalPage src dst => Sys2Proof.Machine.execXcpCopyCalPage src dst s
  | .xcpFreeDaq => Sys2Proof.Machine.execXcpFreeDaq s
  | .xcpAllocDaq count => Sys2Proof.Machine.execXcpAllocDaq count s
  | .xcpAllocOdt list count => Sys2Proof.Machine.execXcpAllocOdt list count s
  | .xcpAllocOdtEntry list odt count => Sys2Proof.Machine.execXcpAllocOdtEntry list odt count s
  | .xcpSetDaqPtr list odt entry => Sys2Proof.Machine.execXcpSetDaqPtr list odt entry s
  | .xcpWriteDaq size addr => Sys2Proof.Machine.execXcpWriteDaq size addr s
  | .xcpSetDaqListMode list mode evch prescaler prio => Sys2Proof.Machine.execXcpSetDaqListMode list mode evch prescaler prio s
  | .xcpStartStopDaqList list mode => Sys2Proof.Machine.execXcpStartStopDaqList list mode s
  | .xcpStartStopSynch mode => Sys2Proof.Machine.execXcpStartStopSynch mode s
  | .xcpGetDaqProcessorInfo => Sys2Proof.Machine.execXcpGetDaqProcessorInfo s
  | .xcpUnknownCommand code => Sys2Proof.Machine.execXcpUnknownCommand code s
  | .getInfo m mb => Sys2Proof.Machine.execGetInfo m mb s
  | .challenge m mb purpose lifetime argHash nonce => Sys2Proof.Machine.execChallenge m mb purpose lifetime argHash nonce s
  | .response m mb a arg => Sys2Proof.Machine.execResponse m mb a arg s
  | .password m mb hash => Sys2Proof.Machine.execPassword m mb hash s
  | .close m mb => Sys2Proof.Machine.execClose m mb s
  | .pwSet m mb auth hash => Sys2Proof.Machine.execPwSet m mb auth hash s
  | .keyImport m mb slot key tagOk => Sys2Proof.Machine.execKeyImport m mb slot key tagOk s
  | .freshSet m mb auth dfn tx value => Sys2Proof.Machine.execFreshSet m mb auth dfn tx value s
  | .aesGcm m mb x => Sys2Proof.Machine.execAesGcm m mb x s
  | .cmac m mb x => Sys2Proof.Machine.execCmac m mb x s
  | .hash m mb x => Sys2Proof.Machine.execHash m mb x s
  | .ecdsaVerify m mb x => Sys2Proof.Machine.execEcdsaVerify m mb x s
  | .lmsVerify m mb x => Sys2Proof.Machine.execLmsVerify m mb x s
  | .random m mb x => Sys2Proof.Machine.execRandom m mb x s
  | .lcAdvance m mb auth target copies => Sys2Proof.Machine.execLcAdvance m mb auth target copies s
  | .secAdvance m mb auth limp value => Sys2Proof.Machine.execSecAdvance m mb auth limp value s
  | .keyProvision m mb auth arg => Sys2Proof.Machine.execKeyProvision m mb auth arg s
  | .keyRevoke m mb auth slot => Sys2Proof.Machine.execKeyRevoke m mb auth slot s
  | .selfTest m mb ok => Sys2Proof.Machine.execSelfTest m mb ok s
  | .tndBadCommand m mb code => Sys2Proof.Machine.execTndBadCommand m mb code s
  | .tndCommandDone => Sys2Proof.Machine.execTndCommandDone s
  | .challengeExpiry mb => Sys2Proof.Machine.execChallengeExpiry mb s
  | .challengeLockoutEnd mb => Sys2Proof.Machine.execChallengeLockoutEnd mb s
  | .debugLifetimeExpiry => Sys2Proof.Machine.execDebugLifetimeExpiry s
  | .l2ConditionLoss => Sys2Proof.Machine.execL2ConditionLoss s
  | .coreHalt m core => Sys2Proof.Machine.execCoreHalt m core s
  | .coreResume m core => Sys2Proof.Machine.execCoreResume m core s
  | .reelHalt m => Sys2Proof.Machine.execReelHalt m s
  | .reelResume m => Sys2Proof.Machine.execReelResume m s
  | .resyncTimeout p => Sys2Proof.Machine.execResyncTimeout p s
  | .idcode => Sys2Proof.Machine.execIdcode s
  | .bypass => Sys2Proof.Machine.execBypass s
  | .samplePreload => Sys2Proof.Machine.execSamplePreload s
  | .extest pins => Sys2Proof.Machine.execExtest pins s
  | .updBegin m mb x => Sys2Proof.Machine.execUpdBegin m mb x s
  | .updWrite m mb => Sys2Proof.Machine.execUpdWrite m mb s
  | .updActivate m mb => Sys2Proof.Machine.execUpdActivate m mb s
  | .updConfirm m mb advance => Sys2Proof.Machine.execUpdConfirm m mb advance s
  | .updRevert m mb => Sys2Proof.Machine.execUpdRevert m mb s
  | .updStatus m mb => Sys2Proof.Machine.execUpdStatus m mb s
  | .probationDeadline => Sys2Proof.Machine.execProbationDeadline s
  | .spxHandoverDisarm p => Sys2Proof.Machine.execSpxHandoverDisarm p s
  | .spxTcmLoadDone p => Sys2Proof.Machine.execSpxTcmLoadDone p s
  | .migrationTimeout p => Sys2Proof.Machine.execMigrationTimeout p s
  | .xinLoss => Sys2Proof.Machine.execXinLoss s
  | .pllUnlock pll => Sys2Proof.Machine.execPllUnlock pll s
  | .pllFrequencyWindow pll count => Sys2Proof.Machine.execPllFrequencyWindow pll count s
  | .tokenPeriodCheck period => Sys2Proof.Machine.execTokenPeriodCheck period s
  | .pllRelock m mask => Sys2Proof.Machine.execPllRelock m mask s
  | .pllRelockDone pll ok => Sys2Proof.Machine.execPllRelockDone pll ok s
  | .crossingStale src => Sys2Proof.Machine.execCrossingStale src s
  | .crossingRecovered src => Sys2Proof.Machine.execCrossingRecovered src s
  | .tsLoRead m => Sys2Proof.Machine.execTsLoRead m s
  | .memoryRead m addr size synd => Sys2Proof.Machine.execMemoryRead m addr size synd s
  | .memoryWrite m addr size value x => Sys2Proof.Machine.execMemoryWrite m addr size value x s
  | .scrubWord u synd => Sys2Proof.Machine.execScrubWord u synd s
  | .scrubDisable m => Sys2Proof.Machine.execScrubDisable m s
  | .bucketLeak => Sys2Proof.Machine.execBucketLeak s
  | .ashRecordWritten => Sys2Proof.Machine.execAshRecordWritten s
  | .eventDelivery n => Sys2Proof.Machine.execEventDelivery n s
  | .eventClaim m p => Sys2Proof.Machine.execEventClaim m p s
  | .xferStart m c => Sys2Proof.Machine.execXferStart m c s
  | .xferDrain c started => Sys2Proof.Machine.execXferDrain c started s
  | .xferDone c => Sys2Proof.Machine.execXferDone c s
  | .signalWrite m k value synd => Sys2Proof.Machine.execSignalWrite m k value synd s
  | .daqTimerExpiry c => Sys2Proof.Machine.execDaqTimerExpiry c s
  | .logicSelfTest m p => Sys2Proof.Machine.execLogicSelfTest m p s
  | .sramMarch m bank => Sys2Proof.Machine.execSramMarch m bank s
  | .whorlMarch m w => Sys2Proof.Machine.execWhorlMarch m w s
  | .oltPllRelock m pll => Sys2Proof.Machine.execOltPllRelock m pll s
  | .oltTinderSelfTest m ok => Sys2Proof.Machine.execOltTinderSelfTest m ok s
  | .oltTestDone r => Sys2Proof.Machine.execOltTestDone r s
  | .canLoopbackTest n => Sys2Proof.Machine.execCanLoopbackTest n s
  | .canTestRequest m mask => Sys2Proof.Machine.execCanTestRequest m mask s
  | .swSliceResult m value => Sys2Proof.Machine.execSwSliceResult m value s
  | .registerRead m addr size => Sys2Proof.Machine.execRegisterRead m addr size s
  | .receiveError n dominant => Sys2Proof.Machine.execReceiveError n dominant s
  | .protocolException n => Sys2Proof.Machine.execProtocolException n s
  | .busIntegrationDone n => Sys2Proof.Machine.execBusIntegrationDone n s
  | .loopbackTestEnd n ok => Sys2Proof.Machine.execLoopbackTestEnd n ok s
  | .healthTestFail => Sys2Proof.Machine.execHealthTestFail s
  | .parkLockStall bridges => Sys2Proof.Machine.execParkLockStall bridges s
  | .parkLockHoldEnd bridges => Sys2Proof.Machine.execParkLockHoldEnd bridges s
  | .ss1StopComplete => Sys2Proof.Machine.execSs1StopComplete s

end Sys2Proof.Machine
end

