-- ==== Sys2Proof/Machine/Idle.lean ====
section
/-! DEFINITION. What the block does in a step with no command waiting: one tick of TSTAMP and of the units that run on it (R471 to R473,
R481, R531, R571). -/

namespace Sys2Proof.Machine
open Sys2Proof

/-- TSTAMP counts while it runs (R531). -/
def tsTick (s : State) : State := if s.fab.tsRun then { s with fab := { s.fab with ts := s.fab.ts + 1 } } else s

/-- One idle tick: TSTAMP, the trace port, Reel's event frames and DAQ packets. -/
def idleTick (s : State) : State := reelTick (traceTick (tsTick s))

end Sys2Proof.Machine
end

