-- ==== Sys2Proof/Safety.lean ====
section
/-! DEFINITION. What statements about runs speak of: the canonical form of memory, the parts of the state, and what it means that a step
changes only some of them; the forms in which the statements speak of single commands. -/

namespace Sys2Proof.Machine
open Sys2Proof

/-- Memory is in canonical form: addresses strictly rising, no entry equal to what an unlisted address reads as. -/
abbrev Memory.wf (m : List Host.Cell) : Prop := SMap.wf (fun _ => 0) m

/-- A choice among the parts of the state (the queue is in none of them). -/
structure Parts where
  regs : Bool := false
  mem : Bool := false
  resp : Bool := false
  sys : Bool := false
  emb : Bool := false
  fab : Bool := false
  afe : Bool := false
  hk : Bool := false
  whl : Bool := false
  pwm : Bool := false
  cnv : Bool := false
  fly : Bool := false
  kln : Bool := false
  spx : Bool := false
  sup : Bool := false
  act : Bool := false
  thm : Bool := false
  chg : Bool := false
  tnd : Bool := false
  upd : Bool := false
  bus : Bool := false
  xcp : Bool := false
  olt : Bool := false
  deriving DecidableEq, Repr

/-- The state with the chosen parts blanked: what is left are the parts that are not chosen, and the queue. -/
def State.mask (K : Parts) (s : State) : State where
  regs := if K.regs then [] else s.regs
  mem := if K.mem then [] else s.mem
  resp := if K.resp then .none else s.resp
  sys := if K.sys then {} else s.sys
  emb := if K.emb then {} else s.emb
  fab := if K.fab then {} else s.fab
  afe := if K.afe then {} else s.afe
  hk := if K.hk then {} else s.hk
  whl := if K.whl then {} else s.whl
  pwm := if K.pwm then {} else s.pwm
  cnv := if K.cnv then {} else s.cnv
  fly := if K.fly then {} else s.fly
  kln := if K.kln then {} else s.kln
  spx := if K.spx then {} else s.spx
  sup := if K.sup then {} else s.sup
  act := if K.act then {} else s.act
  thm := if K.thm then {} else s.thm
  chg := if K.chg then {} else s.chg
  tnd := if K.tnd then {} else s.tnd
  upd := if K.upd then {} else s.upd
  bus := if K.bus then {} else s.bus
  xcp := if K.xcp then {} else s.xcp
  olt := if K.olt then {} else s.olt
  pending := s.pending

/-- From s to t nothing changed but the chosen parts: every other part and the queue are the same. -/
def OnlyChanges (K : Parts) (s t : State) : Prop := t.mask K = s.mask K

/-- The command answers a next state, of which P holds. -/
def Runs (c : Instr) (s : State) (P : State → Prop) : Prop := ∃ t, exec c s = .next t ∧ P t

/-- Every register but those at the listed bus addresses reads as before. -/
def RegsOnly (l : List Nat) (s t : State) : Prop := ∀ a, a ∉ l → t.rd a = s.rd a

/-- Every register but those of the listed groups, at whatever index, reads as before. -/
def RegsOf (l : List Fld) (s t : State) : Prop := ∀ a, (∀ f ∈ l, ∀ i j k, a ≠ f.addr i j k) → t.rd a = s.rd a

/-- Every byte of memory outside the `n` bytes from `a` reads as before. -/
def BytesOnly (a n : Nat) (s t : State) : Prop := ∀ b, b < a ∨ a + n ≤ b → t.byte b = s.byte b

/-- An instruction of Ember's pass that writes `v` to register rd, goes on to the next program address and changes nothing else. -/
def EmbWrites (c : Instr) (s : State) (rd : Fin 16) (v : Word) : Prop :=
  Runs c s fun t => (∀ r, t.ereg r = if r = rd.val then v else s.ereg r) ∧ t.emb.pc = (s.emb.pc + 1) % 256 ∧
    t.emb.count = s.emb.count + 1 ∧ t.emb = { s.emb with e := t.emb.e, pc := t.emb.pc, count := t.emb.count } ∧
    OnlyChanges { emb := true } s t

/-- A branch of Ember's pass: program address `pc` is next; nothing else changes. -/
def EmbGoes (c : Instr) (s : State) (pc : Nat) : Prop :=
  Runs c s fun t => t = { s with emb := { s.emb with pc := pc % 256, count := s.emb.count + 1 } }

/-- Whorl w's timed execution can issue this slot now: it is running, nothing is in flight and no standby shadows it; for slot 0 the
word's cycle lies in the budget, for slot 1 the word has issued its slot 0; the code word is not poisoned. -/
def WhlReady (s : State) (w : Fin 8) (slot : Fin 2) : Prop :=
  let e := (s.whorl w.val).timed
  e.phase = .running ∧ e.flight = [] ∧ shadowOf s w.val = none ∧
  (slot.val = 0 → e.pc < 32768 ∧ issueCycle e [] < budgetOf s w.val e ∧ s.poisoned (codeKey w.val e.pc) = false) ∧
  (slot.val = 1 → e.slot1 = true ∧ s.poisoned (codeKey w.val e.wpc) = false)

/-- From s to t Whorl w issued one slot: slot 0 takes the word at the program address, slot 1 belongs to the word already issued. -/
def WhlSlot (s t : State) (w : Fin 8) (slot : Fin 2) : Prop :=
  let e := (s.whorl w.val).timed
  let e' := (t.whorl w.val).timed
  (slot.val = 0 → e'.wpc = e.pc ∧ e'.words = e.words + 1 ∧ e'.slot1 = true ∧ e'.cyc = issueCycle e []) ∧
  (slot.val = 1 → e'.wpc = e.wpc ∧ e'.words = e.words ∧ e'.slot1 = false ∧ e'.cyc = e.cyc) ∧
  ∀ v, v ≠ w.val → t.whorl v = s.whorl v

/-- The slot's results fly: each with its latency, what it writes and its flags; registers, accumulators and flags stay as they
were until then, and nothing but the Whorl's execution changes. -/
def WhlFlies (c : Instr) (s : State) (w : Fin 8) (slot : Fin 2) (fs : List (Nat × FlightOp × Flags)) : Prop :=
  Runs c s fun t => (t.whorl w.val).timed.flight =
      fs.map (fun f => ⟨(t.whorl w.val).timed.cyc + f.1, (t.whorl w.val).timed.words, slot.val, f.2.1, f.2.2⟩) ∧
    (t.whorl w.val).timed.g = (s.whorl w.val).timed.g ∧ (t.whorl w.val).timed.a = (s.whorl w.val).timed.a ∧
    (t.whorl w.val).timed.flags = (s.whorl w.val).timed.flags ∧ WhlSlot s t w slot ∧ OnlyChanges { whl := true } s t

/-- No leg has both of its switches commanded on. -/
def NoLegShort (s : State) : Prop := ∀ l, ¬((s.sw (2 * l)).cmd = true ∧ (s.sw (2 * l + 1)).cmd = true)

end Sys2Proof.Machine
end

