-- ==== Sys2Proof/WellFormed.lean ====
section
/-! DEFINITION. Which commands are well formed: operands whose Lean type is wider than what the part can be given, held to the bounds the
spec states. The machine is total, so that a term outside these bounds has a meaning too. -/

namespace Sys2Proof

/-- The widths a bus access may have (R30). -/
def accessSize (n : Nat) : Bool := n == 1 || n == 2 || n == 4 || n == 8

/-- A calibration result lies in its fields: a signed 14-bit offset and a 14-bit gain (R134). -/
def sliceCalWf (x : SliceCal) : Bool := decide (-8192 ≤ x.ofs) && decide (x.ofs < 8192) && decide (x.gain < 16384)

/-- A core's load has a bus width (R30, R408). -/
def coreInputWf : CoreInput → Bool
  | .load _ n _ => accessSize n.val
  | .csr _ => true

/-- Hashes have their lengths: SHA-384 of the key, SHA-256 of the argument (R497). -/
def authWf (a : AuthIn) : Bool := decide (a.keyHash < 2 ^ 384) && decide (a.argHash < 2 ^ 256)

/-- The well-formed commands. -/
def Instr.wf : Instr → Bool
  | .windowEnd _ _ _ _ => true
  | .afeResultDelivery _ _ => true
  | .timedLoopStart _ _ => true
  | .budgetEnd _ _ => true
  | .outputPhaseCopy _ _ _ => true
  | .carrierEvent _ => true
  | .linkTokenTimeout _ => true
  | .linkFrameReceive _ => true
  | .registerWrite _ _ size _ _ => accessSize size.val
  | .requestReady _ _ _ => true
  | .requestDrive _ _ => true
  | .requestCharge _ _ => true
  | .requestV2l _ _ => true
  | .requestLimp _ _ => true
  | .requestService _ _ => true
  | .requestSafe _ _ => true
  | .requestDormant _ _ => true
  | .requestRestart _ _ => true
  | .modeTransitionComplete => true
  | .imposedTransition => true
  | .vbatRise => true
  | .supplyGood => true
  | .pllLock _ => true
  | .domainPowerOn => true
  | .memoryFillDone _ _ => true
  | .whorlReloadDone _ => true
  | .coreRelease => true
  | .startTimeout => true
  | .supplyTimeout => true
  | .referenceClockFail => true
  | .pllLockTimeout => true
  | .linkUpTimeout => true
  | .kilnTableTransfer _ => true
  | .supEnHoldEnd => true
  | .supplyWarning _ _ => true
  | .supplyFault _ _ => true
  | .supplyRecovery _ _ => true
  | .controlDieRelease => true
  | .vbatCollapse => true
  | .dormantDomainOff => true
  | .dormantEntryComplete => true
  | .latchedWakeStart => true
  | .kilnHoldExit => true
  | .flashInit _ => true
  | .headerVerified _ _ => true
  | .descriptorsVerified _ _ => true
  | .componentVerified _ => true
  | .configRecordsApply _ _ => true
  | .writeOnceWrite _ => true
  | .mmapFlashRead _ _ _ _ => true
  | .flashOperationDone _ => true
  | .flashReadError => true
  | .passTimerExpiry => true
  | .wakePinEdge _ _ => true
  | .rtcSecondTick => true
  | .rtcSecWrite _ _ => true
  | .rtcAlarmWrite _ _ => true
  | .passLimit => true
  | .embIllegalOpcode _ => true
  | .embSleep => true
  | .embLdi _ _ => true
  | .embLui _ _ => true
  | .embAdd _ _ _ => true
  | .embSub _ _ _ => true
  | .embAddi _ _ _ => true
  | .embAnd _ _ _ => true
  | .embOr _ _ _ => true
  | .embXor _ _ _ => true
  | .embShl _ _ _ => true
  | .embShr _ _ _ => true
  | .embAsr _ _ _ => true
  | .embFilt _ _ _ => true
  | .embLd _ _ _ => true
  | .embSt _ _ _ => true
  | .embBeq _ _ _ => true
  | .embBne _ _ _ => true
  | .embBlt _ _ _ => true
  | .embBge _ _ _ => true
  | .embJmp _ => true
  | .embSamp _ _ codes => decide (codes.length ≤ 16)
  | .embCnt _ _ _ => true
  | .embInp _ => true
  | .embRtc _ => true
  | .embWake _ _ => true
  | .embOut _ => true
  | .embWait _ => true
  | .converterPowerDown => true
  | .rotationCrossing _ => true
  | .xtalStop => true
  | .xtalReturn => true
  | .emberProgramLoad _ prog => decide (prog.length ≤ 256)
  | .sliceTimeout _ _ => true
  | .rotationStep _ _ skew => skew.all (fun x => decide (0 ≤ x.den))
  | .spareCalibration _ ofs gain => decide (-8192 ≤ ofs) && decide (ofs < 8192) && decide (gain < 16384)
  | .refEnable _ => true
  | .refReady cals => cals.all sliceCalWf
  | .refDisable _ => true
  | .refBufferFault _ => true
  | .sliceCoefWrite _ _ _ _ => true
  | .windowStart _ _ => true
  | .windowAbort _ _ _ _ => true
  | .windowDisable _ _ => true
  | .afeChannelDisable _ => true
  | .pointSample _ _ _ _ _ => true
  | .segmentAnchor _ _ _ _ _ => true
  | .hkConversionSlot _ => true
  | .twinArbitrationEnd _ _ _ _ => true
  | .twinStrobeTimeout _ => true
  | .backgroundTrigger _ _ => true
  | .backgroundStart _ _ => true
  | .backgroundComplete _ _ => true
  | .loopEnable _ _ _ _ => true
  | .loopDisable _ _ _ => true
  | .coefQueueWrite _ _ _ => true
  | .queueBatchApply _ => true
  | .cqHoldSet _ _ => true
  | .cqHoldClear _ _ => true
  | .cqFlush _ _ => true
  | .tableRegionWrite _ _ _ _ => true
  | .whorlMemoryWrite _ _ _ size _ => accessSize size.val
  | .shadowSessionStart _ => true
  | .standbyPrepareDone _ => true
  | .stateCopyDone _ _ => true
  | .whlHandoverRequest _ _ => true
  | .codeRepair _ _ _ => true
  | .unitResultRetire _ => true
  | .whlIllegalOperation _ _ hz => decide hz.Nodup
  | .whlNop _ _ hz _ => decide hz.Nodup
  | .whlAdd _ _ _ _ _ hz => decide hz.Nodup
  | .whlSub _ _ _ _ _ hz => decide hz.Nodup
  | .whlAddw _ _ _ _ _ hz => decide hz.Nodup
  | .whlSubw _ _ _ _ _ hz => decide hz.Nodup
  | .whlNeg _ _ _ _ hz => decide hz.Nodup
  | .whlAbs _ _ _ _ hz => decide hz.Nodup
  | .whlMin _ _ _ _ _ hz => decide hz.Nodup
  | .whlMax _ _ _ _ _ hz => decide hz.Nodup
  | .whlClmp _ _ _ _ _ hz => decide hz.Nodup
  | .whlAnd _ _ _ _ _ hz => decide hz.Nodup
  | .whlOr _ _ _ _ _ hz => decide hz.Nodup
  | .whlXor _ _ _ _ _ hz => decide hz.Nodup
  | .whlShl _ _ _ _ _ hz => decide hz.Nodup
  | .whlSar _ _ _ _ _ hz => decide hz.Nodup
  | .whlShr _ _ _ _ _ hz => decide hz.Nodup
  | .whlLih _ _ _ _ hz => decide hz.Nodup
  | .whlLil _ _ _ _ hz => decide hz.Nodup
  | .whlAddi _ _ _ _ _ hz => decide hz.Nodup
  | .whlSlt _ _ _ _ _ hz => decide hz.Nodup
  | .whlCmov _ _ _ _ _ hz => decide hz.Nodup
  | .whlFlg _ _ _ hz => decide hz.Nodup
  | .whlMul _ _ _ _ _ hz => decide hz.Nodup
  | .whlMac _ _ _ _ _ hz => decide hz.Nodup
  | .whlMsu _ _ _ _ _ hz => decide hz.Nodup
  | .whlAld _ _ _ _ hz => decide hz.Nodup
  | .whlArd _ _ _ _ hz => decide hz.Nodup
  | .whlAclp _ _ _ _ hz => decide hz.Nodup
  | .whlRot _ _ _ _ _ hz => decide hz.Nodup
  | .whlVec _ _ _ _ hz => decide hz.Nodup
  | .whlScs _ _ _ _ hz => decide hz.Nodup
  | .whlRcp _ _ _ _ hz => decide hz.Nodup
  | .whlSqrt _ _ _ _ hz => decide hz.Nodup
  | .whlTbl _ _ _ _ _ _ hz => decide hz.Nodup
  | .whlIn _ _ _ _ hz => decide hz.Nodup
  | .whlOut _ _ _ _ hz => decide hz.Nodup
  | .whlFrsh _ _ _ _ hz => decide hz.Nodup
  | .whlLd _ _ _ _ _ _ hz => decide hz.Nodup
  | .whlSt _ _ _ _ _ hz => decide hz.Nodup
  | .whlBz _ _ _ _ hz => decide hz.Nodup
  | .whlBnz _ _ _ _ hz => decide hz.Nodup
  | .whlBltz _ _ _ _ hz => decide hz.Nodup
  | .whlBgez _ _ _ _ hz => decide hz.Nodup
  | .whlJmp _ _ _ hz => decide hz.Nodup
  | .whlLoop _ _ _ _ hz => decide hz.Nodup
  | .whlSafe _ _ hz => decide hz.Nodup
  | .whlEnd _ _ hz => decide hz.Nodup
  | .generatorDisable _ _ => true
  | .switchEdgeCommand _ _ _ => true
  | .deadTimeExpiry _ => true
  | .gfbChange _ _ _ => true
  | .turnOffFbWinExpiry _ => true
  | .turnOnFbWinExpiry _ => true
  | .bootUndervoltage _ => true
  | .armSet _ _ => true
  | .genFall _ => true
  | .genLowFeedbackFault _ => true
  | .comparatorTrip _ _ => true
  | .comparatorRelease _ => true
  | .blankingEnd _ => true
  | .hardTrip _ _ => true
  | .gfltAssert _ _ => true
  | .faultMapDecision _ => true
  | .ascEntryTimeout _ => true
  | .ucgSpeedWrite _ _ _ => true
  | .ucgStaleTimeout _ => true
  | .psetClear _ _ => true
  | .psetAscTop _ _ => true
  | .psetAscBot _ _ => true
  | .encoderEdge _ _ => true
  | .encoderIndex _ _ => true
  | .encPosRead _ _ => true
  | .hallTransition _ _ => true
  | .resolverHalfPeriod _ _ _ => true
  | .excitationFault _ _ => true
  | .serialPoll _ => true
  | .serialFrameEnd _ _ => true
  | .serialTimeout _ => true
  | .sentFrame _ nibbles _ _ _ => decide (nibbles.length = 6)
  | .measurementTimeout _ => true
  | .trackerStep _ _ => true
  | .machAcq _ _ => true
  | .machAcqUseSet _ _ => true
  | .compareValWrite _ _ _ _ => true
  | .emulationEdge _ => true
  | .flyerUnitDisable _ _ => true
  | .reacqTimeout _ => true
  | .supervisionTask _ => true
  | .ucgCompute => true
  | .shockHoldEnd _ => true
  | .catchPhaseEnd _ => true
  | .emergencyRunEnd => true
  | .bridgeHiz _ _ => true
  | .bridgePwm _ _ => true
  | .bridgeLowOn _ _ => true
  | .predriverGateReport _ _ => true
  | .drainSourceFault _ _ => true
  | .vgdUndervoltage _ => true
  | .driveSupplyFault _ => true
  | .predriverOvertemp _ => true
  | .predriverWarning _ _ => true
  | .actEnFall => true
  | .actEnRise _ _ => true
  | .cnvChannelStart _ _ => true
  | .cnvChannelStop _ _ => true
  | .cnvChannelClear _ _ => true
  | .cnvChannelStopNow _ _ => true
  | .rampTimeout _ => true
  | .softStartCheckpoint _ _ => true
  | .softStopTimeout _ => true
  | .hiccupOffEnd _ => true
  | .retryClear _ => true
  | .nlMaxTimeout _ => true
  | .shedStart _ => true
  | .shedHoldoffEnd _ => true
  | .telemetryWindowClose _ _ => true
  | .telemetryClear _ _ => true
  | .pilotPeriod _ => true
  | .proximitySample _ => true
  | .chargeTask _ => true
  | .limitsTimeout => true
  | .pauseTimeout => true
  | .hvLostHoldEnd => true
  | .acceptanceProbe _ _ => true
  | .safetyTimerExpiry => true
  | .prechargeTimeout => true
  | .preHoldTimeout => true
  | .sensorSample _ _ _ => true
  | .dieHardLimit _ => true
  | .ruleEvaluation => true
  | .factorRiseStep _ => true
  | .pairOutputStore _ st _ _ => accessSize st.size.val
  | .pairCompare _ _ _ _ => true
  | .pairInputLoad _ x => coreInputWf x
  | .checkpointWrite _ _ _ => true
  | .forcedCheckpoint _ _ => true
  | .pairEventDelivery _ _ _ => true
  | .pairLagTimeout _ => true
  | .pairResetDone _ _ => true
  | .comparatorSelfTest _ _ => true
  | .heartbeatChallenge _ _ => true
  | .heartbeatAnswer _ _ _ _ us => decide (us ≤ 1000)
  | .claimCommit _ _ => true
  | .claimTimeout => true
  | .kilnPowerCheck => true
  | .kirchhoffTrip _ => true
  | .kilnSpeedEdge _ => true
  | .kilnGateEnd _ _ => true
  | .slsRequest _ _ _ => true
  | .ss1Request _ _ _ => true
  | .stoRequest _ _ _ => true
  | .stoRelease _ _ _ => true
  | .brakeRelease _ _ _ => true
  | .genRelease _ _ _ => true
  | .stoFeedbackTimeout => true
  | .darkPulseStart _ => true
  | .darkPulseEnd _ _ => true
  | .brakeFeedbackTimeout _ => true
  | .ss1Timeout => true
  | .safeResetEdge _ => true
  | .kilnComparatorTest _ => true
  | .klnclkWatchdog => true
  | .ctrlReact => true
  | .kilnMirrorRefresh => true
  | .frameReceived _ f => decide (f.payload.length ≤ 2048)
  | .reelRecordRun _ _ => true
  | .reelOverrun _ _ => true
  | .reelResetDone => true
  | .txPush _ _ _ _ _ _ _ => true
  | .txHeadFetch _ => true
  | .txEligible _ => true
  | .txFrameSent _ => true
  | .txAttemptError _ _ => true
  | .busOffHoldEnd _ => true
  | .busOffRecovered _ => true
  | .canDisable _ _ => true
  | .canEnable _ _ => true
  | .canFlush _ _ => true
  | .canDrainTimeout _ => true
  | .statusFrameDue _ => true
  | .axleCmd _ => true
  | .speedCmd _ => true
  | .stopCmd _ _ => true
  | .emrCmd _ _ => true
  | .chgCmd _ => true
  | .bmsLim _ _ => true
  | .preCmd _ _ => true
  | .contactorClosed _ => true
  | .hostTimeout => true
  | .hostLossTimeout => true
  | .chgCmdTimeout => true
  | .xcpTimeout => true
  | .xcpConnect _ => true
  | .xcpDisconnect => true
  | .xcpGetStatus => true
  | .xcpSynch => true
  | .xcpGetCommModeInfo => true
  | .xcpSetMta _ => true
  | .xcpUpload _ => true
  | .xcpShortUpload _ _ => true
  | .xcpDownload data => decide (data.length ≤ 255)
  | .xcpSetCalPage _ _ => true
  | .xcpGetCalPage _ => true
  | .xcpCopyCalPage _ _ => true
  | .xcpFreeDaq => true
  | .xcpAllocDaq _ => true
  | .xcpAllocOdt _ _ => true
  | .xcpAllocOdtEntry _ _ _ => true
  | .xcpSetDaqPtr _ _ _ => true
  | .xcpWriteDaq _ _ => true
  | .xcpSetDaqListMode _ _ _ _ _ => true
  | .xcpStartStopDaqList _ _ => true
  | .xcpStartStopSynch _ => true
  | .xcpGetDaqProcessorInfo => true
  | .xcpUnknownCommand _ => true
  | .getInfo _ _ => true
  | .challenge _ _ _ _ argHash nonce => decide (argHash < 2 ^ 256) && decide (nonce < 2 ^ 128)
  | .response _ _ a _ => authWf a
  | .password _ _ hsh => decide (hsh < 2 ^ 256)
  | .close _ _ => true
  | .pwSet _ _ _ hsh => decide (hsh < 2 ^ 256)
  | .keyImport _ _ _ key _ => decide (key < 2 ^ 256)
  | .freshSet _ _ _ _ _ _ => true
  | .aesGcm _ _ x => decide (x.out.length ≤ 4096)
  | .cmac _ _ x => decide (x.out.length ≤ 4096)
  | .hash _ _ x => decide (x.out.length ≤ 4096)
  | .ecdsaVerify _ _ x => decide (x.out.length ≤ 4096)
  | .lmsVerify _ _ x => decide (x.out.length ≤ 4096)
  | .random _ _ x => decide (x.out.length ≤ 4096)
  | .lcAdvance _ _ _ _ _ => true
  | .secAdvance _ _ _ _ _ => true
  | .keyProvision _ _ _ _ => true
  | .keyRevoke _ _ _ _ => true
  | .selfTest _ _ _ => true
  | .tndBadCommand _ _ _ => true
  | .tndCommandDone => true
  | .challengeExpiry _ => true
  | .challengeLockoutEnd _ => true
  | .debugLifetimeExpiry => true
  | .l2ConditionLoss => true
  | .coreHalt _ _ => true
  | .coreResume _ _ => true
  | .reelHalt _ => true
  | .reelResume _ => true
  | .resyncTimeout _ => true
  | .idcode => true
  | .bypass => true
  | .samplePreload => true
  | .extest pins => decide ((pins.map Prod.fst).Nodup)
  | .updBegin _ _ x => decide (x.steps.length ≤ 28)
  | .updWrite _ _ => true
  | .updActivate _ _ => true
  | .updConfirm _ _ _ => true
  | .updRevert _ _ => true
  | .updStatus _ _ => true
  | .probationDeadline => true
  | .spxHandoverDisarm _ => true
  | .spxTcmLoadDone _ => true
  | .migrationTimeout _ => true
  | .xinLoss => true
  | .pllUnlock _ => true
  | .pllFrequencyWindow _ _ => true
  | .tokenPeriodCheck _ => true
  | .pllRelock _ _ => true
  | .pllRelockDone _ _ => true
  | .crossingStale _ => true
  | .crossingRecovered _ => true
  | .tsLoRead _ => true
  | .memoryRead _ _ size _ => accessSize size.val
  | .memoryWrite _ _ size _ _ => accessSize size.val
  | .scrubWord _ _ => true
  | .scrubDisable _ => true
  | .bucketLeak => true
  | .ashRecordWritten => true
  | .eventDelivery _ => true
  | .eventClaim _ _ => true
  | .xferStart _ _ => true
  | .xferDrain _ _ => true
  | .xferDone _ => true
  | .signalWrite _ _ _ _ => true
  | .daqTimerExpiry _ => true
  | .logicSelfTest _ _ => true
  | .sramMarch _ _ => true
  | .whorlMarch _ _ => true
  | .oltPllRelock _ _ => true
  | .oltTinderSelfTest _ _ => true
  | .oltTestDone _ => true
  | .canLoopbackTest _ => true
  | .canTestRequest _ _ => true
  | .swSliceResult _ _ => true
  | .registerRead _ _ size => accessSize size.val
  | .receiveError _ _ => true
  | .protocolException _ => true
  | .busIntegrationDone _ => true
  | .loopbackTestEnd _ _ => true
  | .healthTestFail => true
  | .parkLockStall _ => true
  | .parkLockHoldEnd _ => true
  | .ss1StopComplete => true

end Sys2Proof
end

