-- ==== Sys2Proof/Certificates/Slice0/Obligations.lean ====
section
/-! DEFINITION. The statements about the model. -/

open Sys2Proof Sys2Proof.Machine

/-- In a pass, LDI, LUI, ADD, SUB, ADDI, AND, OR, XOR, SHL, SHR, ASR, FILT, LD and RTC complete: they write rd with the value R106
gives (for FILT with k = 0, for which R106 states none, some value), the pass goes on at the next program address, and nothing
else changes. (04_ember.md R106) -/
def Obligations.EmberArithmetic : Prop :=
  ∀ (s : State) (rd ra rb : Fin 16) (imm : BitVec 16), s.emb.inPass = true →
  EmbWrites (.embLdi rd imm) s rd (imm.signExtend 32) ∧
  EmbWrites (.embLui rd imm) s rd (BitVec.ofNat 32 (imm.toNat * 65536 + (s.ereg rd.val).toNat % 65536)) ∧
  EmbWrites (.embAdd rd ra rb) s rd (s.ereg ra.val + s.ereg rb.val) ∧
  EmbWrites (.embSub rd ra rb) s rd (s.ereg ra.val - s.ereg rb.val) ∧
  EmbWrites (.embAddi rd ra imm) s rd (s.ereg ra.val + imm.signExtend 32) ∧
  EmbWrites (.embAnd rd ra rb) s rd (s.ereg ra.val &&& s.ereg rb.val) ∧
  EmbWrites (.embOr rd ra rb) s rd (s.ereg ra.val ||| s.ereg rb.val) ∧
  EmbWrites (.embXor rd ra rb) s rd (s.ereg ra.val ^^^ s.ereg rb.val) ∧
  EmbWrites (.embShl rd ra imm) s rd (s.ereg ra.val <<< (imm.toNat % 32)) ∧
  EmbWrites (.embShr rd ra imm) s rd (s.ereg ra.val >>> (imm.toNat % 32)) ∧
  EmbWrites (.embAsr rd ra imm) s rd ((s.ereg ra.val).sshiftRight (imm.toNat % 32)) ∧
  (imm.toNat % 16 ≠ 0 → EmbWrites (.embFilt rd ra imm) s rd
    (s.ereg rd.val + (s.ereg ra.val - s.ereg rd.val).sshiftRight (imm.toNat % 16))) ∧
  (imm.toNat % 16 = 0 → ∃ v, EmbWrites (.embFilt rd ra imm) s rd v) ∧
  EmbWrites (.embLd rd ra imm) s rd
    (BitVec.ofNat 32 (s.load (embSramKey (((s.ereg ra.val).toNat + imm.toNat) % 8192)) 4)) ∧
  EmbWrites (.embRtc rd) s rd (s.rd (F.EMB_RTC_SEC.SEC.addr 0 0 0))

/-- In a pass, BEQ, BNE, BLT, BGE and JMP go to the address imm or to the next one and change nothing else; WAIT changes only the
address; ST stores rd in the retained SRAM word (ra + imm) mod 8,192 and changes no other byte; OUT drives EMB_WAKE3; SLEEP ends a
pass that has no merged trigger and no program waiting. (04_ember.md R101, 04_ember.md R106, 04_ember.md R118) -/
def Obligations.EmberFlow : Prop :=
  ∀ (s : State) (rd ra : Fin 16) (imm : BitVec 16), s.emb.inPass = true →
  EmbGoes (.embBeq rd ra imm) s (if s.ereg rd.val = s.ereg ra.val then imm.toNat else s.emb.pc + 1) ∧
  EmbGoes (.embBne rd ra imm) s (if s.ereg rd.val = s.ereg ra.val then s.emb.pc + 1 else imm.toNat) ∧
  EmbGoes (.embBlt rd ra imm) s (if (s.ereg rd.val).toInt < (s.ereg ra.val).toInt then imm.toNat else s.emb.pc + 1) ∧
  EmbGoes (.embBge rd ra imm) s (if (s.ereg rd.val).toInt < (s.ereg ra.val).toInt then s.emb.pc + 1 else imm.toNat) ∧
  EmbGoes (.embJmp imm) s imm.toNat ∧
  EmbGoes (.embWait imm) s (s.emb.pc + 1) ∧
  (Runs (.embSt rd ra imm) s fun t =>
    t.bytes (embSramKey (((s.ereg ra.val).toNat + imm.toNat) % 8192)) 4 = toBytes 4 (s.ereg rd.val).toNat ∧
    BytesOnly (embSramKey (((s.ereg ra.val).toNat + imm.toNat) % 8192)) 4 s t ∧
    t.emb = { s.emb with pc := (s.emb.pc + 1) % 256, count := s.emb.count + 1 } ∧ OnlyChanges { mem := true, emb := true } s t) ∧
  (Runs (.embOut imm) s fun t => t.get F.EMB_CFG.OUT_LVL = imm.toNat % 2 ∧ RegsOnly [F.EMB_CFG.OUT_LVL.addr 0 0 0] s t ∧
    t.emb = { s.emb with pc := (s.emb.pc + 1) % 256, count := s.emb.count + 1 } ∧ OnlyChanges { regs := true, emb := true } s t) ∧
  (s.emb.again = false → s.emb.progNext = none → Runs .embSleep s fun t =>
    t.emb.inPass = false ∧ t.emb.e = s.emb.e ∧ OnlyChanges { regs := true, mem := true, emb := true } s t)

/-- In a pass, SAMP writes the maximum, minimum or first of its conversions and leaves the converter on; CNT writes a rotation count
and clears it (a crossing in the same cycle counts for the next read); INP writes the status word and clears triggers and edge
flags; WAKE outside DORMANT, DORMANT entry and the SUP_EN hold overwrites WAKE_REASON and ends the pass. CONVERTER_POWER_DOWN
switches the converter off; a rotation crossing of an enabled comparator counts up to 65,535. (04_ember.md R107, 04_ember.md R108,
04_ember.md R109, 04_ember.md R112, 04_ember.md R115) -/
def Obligations.EmberSensing : Prop :=
  ∀ (s : State) (rd : Fin 16) (imm : BitVec 16) (codes : List (BitVec 12)) (cmp : Fin 2),
  (s.emb.inPass = true → codes.length = imm.toNat / 64 % 64 + 1 → Runs (.embSamp rd imm codes) s fun t =>
    t.emb.convOn = true ∧
    (imm.toNat / 16 % 4 = 0 → t.ereg rd.val = BitVec.ofNat 32 ((codes.map BitVec.toNat).headD 0)) ∧
    (imm.toNat / 16 % 4 = 2 → t.ereg rd.val = BitVec.ofNat 32 ((codes.map BitVec.toNat).foldl max 0)) ∧
    (imm.toNat / 16 % 4 = 3 → t.ereg rd.val = BitVec.ofNat 32 ((codes.map BitVec.toNat).foldl min 4095)) ∧
    (∀ r, r ≠ rd.val → t.ereg r = s.ereg r) ∧ OnlyChanges { emb := true } s t) ∧
  (∀ crossing, s.emb.inPass = true → Runs (.embCnt rd imm crossing) s fun t =>
    t.ereg rd.val = BitVec.ofNat 32 (SMap.get 0 s.emb.cnt (imm.toNat % 2)) ∧
    (∀ c, SMap.get 0 t.emb.cnt c = if c = imm.toNat % 2 then (if crossing then 1 else 0) else SMap.get 0 s.emb.cnt c) ∧
    (∀ r, r ≠ rd.val → t.ereg r = s.ereg r) ∧ OnlyChanges { emb := true } s t) ∧
  (s.emb.inPass = true → Runs (.embInp rd) s fun t =>
    t.ereg rd.val = BitVec.ofNat 32 (s.emb.levels % 16 + (s.emb.edges % 16) * 16 + (if s.emb.timerTrig then 256 else 0) +
      (if s.emb.alarmTrig then 512 else 0) + (if s.mode = 0 then 1024 else 0) + (if s.getB F.EMB_STAT.XTAL_OK then 2048 else 0)) ∧
    t.emb.edges = 0 ∧ t.emb.timerTrig = false ∧ t.emb.alarmTrig = false ∧ t.emb.levels = s.emb.levels ∧
    (∀ r, r ≠ rd.val → t.ereg r = s.ereg r) ∧ OnlyChanges { emb := true } s t) ∧
  (s.emb.inPass = true → s.emb.again = false → s.emb.progNext = none → s.sys.phase = .run →
    Runs (.embWake imm none) s fun t => t.get F.EMB_STAT.WAKE_REASON = imm.toNat % 256 ∧ t.emb.inPass = false ∧
      t.emb.e = s.emb.e ∧ t.sys = s.sys ∧ t.mem = s.mem) ∧
  (Runs .converterPowerDown s fun t => t = { s with emb := { s.emb with convOn := false } }) ∧
  (s.bit F.EMB_CFG.BEMF_EN cmp.val = true → Runs (.rotationCrossing cmp) s fun t =>
    (∀ c, SMap.get 0 t.emb.cnt c = if c = cmp.val then min (SMap.get 0 s.emb.cnt c + 1) 65535 else SMap.get 0 s.emb.cnt c) ∧
    RegsOnly [F.EMB_STAT.CNT_SAT.addr 0 0 0] s t ∧ OnlyChanges { regs := true, emb := true } s t)

/-- The pass timer, an enabled edge of a wake pin and the first tick at an armed alarm start a pass at address 0 when none is in
progress; a second tick advances EMB_RTC_SEC and clears EMB_RTC_SUB; PASS_LIMIT and an illegal opcode end the pass with FAULT,
FAULT_CAUSE and codes 0x0101, 0x0102 and 0x0103; a permitted write of EMB_RTC_SEC or EMB_RTC_ALARM is taken; the crystal's stop
and return move XTAL_OK and XTAL_FAIL; a program load outside a pass rewrites the store, clears E0 to E15 and sets PROG_OK.
(04_ember.md R100, 04_ember.md R101, 04_ember.md R102, 04_ember.md R104, 04_ember.md R111, 04_ember.md R113, 04_ember.md R114,
04_ember.md R117, 04_ember.md R120) -/
def Obligations.EmberPasses : Prop :=
  ∀ (s : State) (pin : Fin 4) (rising : Bool) (m : Master) (v : Word) (prog : List Word),
  let idle := s.emb.inPass = false ∧ s.emb.progNext = none ∧ s.emb.parityBad = false
  let ended := s.emb.inPass = true ∧ s.emb.again = false ∧ s.emb.progNext = none ∧ s.sys.phase = .run
  (idle → s.get F.EMB_CFG.PASS_PERIOD ≠ 0 → Runs .passTimerExpiry s fun t =>
    t.emb.inPass = true ∧ t.emb.pc = 0 ∧ t.emb.count = 0 ∧ t.emb.timerTrig = true ∧ OnlyChanges { regs := true, mem := true, emb := true } s t) ∧
  (idle → (edgeSel s pin.val).testBit (if rising then 0 else 1) = true → s.bit F.EMB_CFG.DIRECT pin.val = false →
    Runs (.wakePinEdge pin rising) s fun t => t.emb.inPass = true ∧ t.emb.pc = 0 ∧
      t.emb.levels = putBit s.emb.levels pin.val rising ∧ t.emb.edges = putBit s.emb.edges pin.val true ∧
      OnlyChanges { regs := true, mem := true, sys := true, emb := true, fab := true, kln := true, tnd := true } s t) ∧
  (s.emb.progNext = none → Runs .rtcSecondTick s fun t => t.get F.EMB_RTC_SEC.SEC = (s.get F.EMB_RTC_SEC.SEC + 1) % 4294967296 ∧
    t.get F.EMB_RTC_SUB.SUB = 0 ∧ RegsOnly [F.EMB_RTC_SEC.SEC.addr 0 0 0, F.EMB_RTC_SUB.SUB.addr 0 0 0] s t ∧
    (idle → s.emb.alarmArmed = true → (s.get F.EMB_RTC_SEC.SEC + 1) % 4294967296 = s.get F.EMB_RTC_ALARM.ALARM →
      t.emb.inPass = true ∧ t.emb.alarmTrig = true ∧ t.emb.alarmArmed = false) ∧ OnlyChanges { regs := true, mem := true, emb := true } s t) ∧
  (ended → Runs .passLimit s fun t => t.emb.inPass = false ∧ t.get F.EMB_STAT.FAULT = 1 ∧ t.get F.EMB_STAT.FAULT_CAUSE = 1 ∧
    t.sys.lastFault = 0x0101 ∧ t.mem = s.mem) ∧
  (ended → Runs (.embIllegalOpcode false) s fun t => t.emb.inPass = false ∧ t.get F.EMB_STAT.FAULT = 1 ∧
    t.get F.EMB_STAT.FAULT_CAUSE = 2 ∧ t.sys.lastFault = 0x0102 ∧ t.mem = s.mem) ∧
  (ended → Runs (.embIllegalOpcode true) s fun t => t.emb.inPass = false ∧ t.emb.parityBad = true ∧ t.get F.EMB_STAT.FAULT = 1 ∧
    t.get F.EMB_STAT.FAULT_CAUSE = 3 ∧ t.get F.EMB_STAT.PROG_OK = 0 ∧ t.sys.lastFault = 0x0103 ∧ t.mem = s.mem) ∧
  (embWriter s m = true → Runs (.rtcSecWrite m v) s fun t => t.get F.EMB_RTC_SEC.SEC = v.toNat ∧ t.get F.EMB_RTC_SUB.SUB = 0 ∧
    t.resp = .done ∧ RegsOnly [F.EMB_RTC_SEC.SEC.addr 0 0 0, F.EMB_RTC_SUB.SUB.addr 0 0 0] s t ∧
    OnlyChanges { regs := true, resp := true } s t) ∧
  (embWriter s m = true → Runs (.rtcAlarmWrite m v) s fun t => t.get F.EMB_RTC_ALARM.ALARM = v.toNat ∧
    (t.emb.alarmArmed = true ↔ v ≠ 0 ∧ s.get F.EMB_RTC_SEC.SEC < v.toNat) ∧
    (v ≠ 0 → v.toNat ≤ s.get F.EMB_RTC_SEC.SEC → t.get F.EMB_STAT.ALARM_PAST = 1) ∧ t.resp = .done ∧
    RegsOnly [F.EMB_RTC_ALARM.ALARM.addr 0 0 0, F.EMB_STAT.ALARM_PAST.addr 0 0 0] s t ∧
    OnlyChanges { regs := true, resp := true, emb := true } s t) ∧
  (Runs .xtalStop s fun t => t.get F.EMB_STAT.XTAL_OK = 0 ∧ t.get F.EMB_STAT.XTAL_FAIL = 1 ∧
    RegsOnly [F.EMB_STAT.XTAL_OK.addr 0 0 0] s t ∧ OnlyChanges { regs := true } s t) ∧
  (Runs .xtalReturn s fun t => t.get F.EMB_STAT.XTAL_OK = 1 ∧ RegsOnly [F.EMB_STAT.XTAL_OK.addr 0 0 0] s t ∧
    OnlyChanges { regs := true } s t) ∧
  (s.emb.inPass = false → (m = .tinder ∨ m = .loader) → Runs (.emberProgramLoad m prog) s fun t =>
    t.emb.e = [] ∧ t.emb.progNext = none ∧ t.emb.parityBad = false ∧ t.get F.EMB_STAT.PROG_OK = 1 ∧ t.resp = .done ∧
    (∀ w, prog.head? = some w → t.bytes (embProgKey 0) 4 = toBytes 4 w.toNat) ∧ BytesOnly (embProgKey 0) 1024 s t ∧
    RegsOnly [F.EMB_STAT.PROG_OK.addr 0 0 0] s t ∧ OnlyChanges { regs := true, mem := true, resp := true, emb := true } s t)

/-- Where the slot issues, each class A operation of R212 (ADD, SUB, ADDW, SUBW, NEG, ABS, MIN, MAX, CLMP, AND, OR, XOR, SHL, SAR,
SHR, LIH, LIL, ADDI, SLT, CMOV) and FLG sends its result to register d, final one cycle on, with the SAT flag where R201
saturates; no other part of the state changes. (07_whorl_instructions.md R201, 07_whorl_instructions.md R209,
07_whorl_instructions.md R212) -/
def Obligations.WhorlClassA : Prop :=
  ∀ (s : State) (w : Fin 8) (slot : Fin 2) (d a b : Fin 32) (imm : BitVec 16) (hz : List (Fin 36)), WhlReady s w slot →
  let x := (s.whorl w.val).timed.reg a.val
  let y := (s.whorl w.val).timed.reg b.val
  let old := (s.whorl w.val).timed.reg d.val
  let writes := fun (c : Instr) (r : Word × Flags) => WhlFlies c s w slot [(1, .reg d.val r.1, r.2)]
  writes (.whlAdd w slot d a b hz) (sat32 (sint x + sint y)) ∧
  writes (.whlSub w slot d a b hz) (sat32 (sint x - sint y)) ∧
  writes (.whlAddw w slot d a b hz) (x + y, {}) ∧
  writes (.whlSubw w slot d a b hz) (x - y, {}) ∧
  writes (.whlNeg w slot d a hz) (sat32 (-(sint x))) ∧
  writes (.whlAbs w slot d a hz) (sat32 (sint x).natAbs) ∧
  writes (.whlMin w slot d a b hz) (if sint x ≤ sint y then x else y, {}) ∧
  writes (.whlMax w slot d a b hz) (if sint x ≤ sint y then y else x, {}) ∧
  writes (.whlClmp w slot d a b hz)
    (ofSint (min (max (sint x) (-(sint (sat32 (sint y).natAbs).1))) (sint (sat32 (sint y).natAbs).1)), (sat32 (sint y).natAbs).2) ∧
  writes (.whlAnd w slot d a b hz) (x &&& y, {}) ∧
  writes (.whlOr w slot d a b hz) (x ||| y, {}) ∧
  writes (.whlXor w slot d a b hz) (x ^^^ y, {}) ∧
  writes (.whlShl w slot d a imm hz) (sat32 (sint x * 2 ^ (imm.toNat % 32))) ∧
  writes (.whlSar w slot d a imm hz) (x.sshiftRight (imm.toNat % 32), {}) ∧
  writes (.whlShr w slot d a imm hz) (x >>> (imm.toNat % 32), {}) ∧
  writes (.whlLih w slot d imm hz) (BitVec.ofNat 32 (imm.toNat * 65536), {}) ∧
  writes (.whlLil w slot d imm hz) ((old &&& 0xFFFF0000) ||| BitVec.ofNat 32 imm.toNat, {}) ∧
  writes (.whlAddi w slot d a imm hz) (sat32 (sint x + imm.toInt)) ∧
  writes (.whlSlt w slot d a b hz) (if sint x < sint y then 1 else 0, {}) ∧
  writes (.whlCmov w slot d a b hz) (if y ≠ 0 then x else old, {}) ∧
  WhlFlies (.whlFlg w slot d hz) s w slot [(1, .flg d.val (BitVec.ofNat 32 (s.whorl w.val).timed.flags.toNat), {})]

/-- Where the slot issues, MUL and the accumulator operations of R214 send their result with their latency; in slot 0 with even pair
registers, ROT, VEC and SCS send a pair with latency 12, RCP and SQRT a result with latency 8 and 10; a reciprocal of 0 gives the
largest value with DIVZ, a root of a negative number gives 0 with DOMAIN, VEC of zero gives zeros with DOMAIN. No other part of
the state changes. (07_whorl_instructions.md R209, 07_whorl_instructions.md R214, 07_whorl_instructions.md R215) -/
def Obligations.WhorlClassXU : Prop :=
  ∀ (s : State) (w : Fin 8) (slot : Fin 2) (d a b : Fin 32) (acc : Fin 4) (hz : List (Fin 36)), WhlReady s w slot →
  let e := (s.whorl w.val).timed
  let x := e.reg a.val
  let y := e.reg b.val
  WhlFlies (.whlMul w slot d a b hz) s w slot
    [(2, .reg d.val (sat32 (roundDiv (sint x * sint y) (2 ^ 29))).1, (sat32 (roundDiv (sint x * sint y) (2 ^ 29))).2)] ∧
  WhlFlies (.whlMac w slot acc a b hz) s w slot [(2, .accAdd acc.val (roundDiv (sint x * sint y) (2 ^ 17)), {})] ∧
  WhlFlies (.whlMsu w slot acc a b hz) s w slot [(2, .accAdd acc.val (-(roundDiv (sint x * sint y) (2 ^ 17))), {})] ∧
  WhlFlies (.whlAld w slot acc a hz) s w slot [(2, .accSet acc.val (sint x * 4096), {})] ∧
  WhlFlies (.whlArd w slot d acc hz) s w slot
    [(1, .reg d.val (sat32 (roundDiv (e.acc acc.val) 4096)).1, (sat32 (roundDiv (e.acc acc.val) 4096)).2)] ∧
  WhlFlies (.whlAclp w slot acc a hz) s w slot [(2, .accClamp acc.val ((sint x).natAbs * 4096), {})] ∧
  (slot = 0 → d.val % 2 = 0 → a.val % 2 = 0 → ∃ p q fl,
    WhlFlies (.whlRot w slot d a b hz) s w slot [(12, .reg d.val p, fl), (12, .reg (d.val + 1) q, {})]) ∧
  (slot = 0 → d.val % 2 = 0 → a.val % 2 = 0 → ∃ p q fl, (x = 0 → e.reg (a.val + 1) = 0 → p = 0 ∧ q = 0 ∧ fl.domain = true) ∧
    WhlFlies (.whlVec w slot d a hz) s w slot [(12, .reg d.val p, fl), (12, .reg (d.val + 1) q, {})]) ∧
  (slot = 0 → d.val % 2 = 0 → ∃ p q,
    WhlFlies (.whlScs w slot d a hz) s w slot [(12, .reg d.val p, {}), (12, .reg (d.val + 1) q, {})]) ∧
  (slot = 0 → ∃ v fl, (x = 0 → v = 0x7FFFFFFF ∧ fl.divz = true) ∧ WhlFlies (.whlRcp w slot d a hz) s w slot [(8, .reg d.val v, fl)]) ∧
  (slot = 0 → ∃ v fl, (sint x < 0 → v = 0 ∧ fl.domain = true) ∧ WhlFlies (.whlSqrt w slot d a hz) s w slot [(10, .reg d.val v, fl)])

/-- Where the slot issues: NOP sends nothing; IN and FRSH send with latency 1, IN of a port outside the loop's range gives 0 with
DOMAIN; OUT to a port of the loop writes the port register at once; in slot 0, LD of an address the loop may read and TBL of a
table it owns send the word, or the interpolated value, with latency 2 and 6, other addresses and tables give 0 with DOMAIN; ST to
the loop-state region stores the word there and no other byte changes. (07_whorl_instructions.md R209, 07_whorl_instructions.md
R216, 07_whorl_instructions.md R217, 07_whorl_instructions.md R218, 07_whorl_instructions.md R219) -/
def Obligations.WhorlPortsAndMemory : Prop :=
  ∀ (s : State) (w : Fin 8) (slot : Fin 2) (d a src : Fin 32) (p : Fin 64) (h : Fin 2) (t : Fin 16) (off : BitVec 16)
  (hz : List (Fin 36)), WhlReady s w slot →
  let e := (s.whorl w.val).timed
  let ea := effAddr (e.reg a.val) off
  let key := whlBase w.val + 4 * ea
  let own := s.getB F.WHL_TBL_CFG.EN w.val t.val && s.bit F.WHL_LOOP_COEF.TBL_MASK t.val w.val e.loop
  let ix := tblIndex (s.get F.WHL_TBL_CFG.LOG2N w.val t.val) (s.getB F.WHL_TBL_CFG.WRAP w.val t.val) (e.reg a.val).toNat
  let k0 := tableKey w.val (tblBank s w.val t.val + ix.1)
  let k1 := tableKey w.val (tblBank s w.val t.val + ix.2.1)
  let x := BitVec.ofNat 32 (s.load k0 4)
  let y := BitVec.ofNat 32 (s.load k1 4)
  let r := sat32 (sint x + roundDiv ((sint y - sint x) * ix.2.2.1) (2 ^ 32))
  WhlFlies (.whlNop w slot hz false) s w slot [] ∧
  (inPort s w.val e.loop p.val = true → WhlFlies (.whlIn w slot d p hz) s w slot [(1, .reg d.val (SMap.get 0 e.inputs p.val), {})]) ∧
  (inPort s w.val e.loop p.val = false → WhlFlies (.whlIn w slot d p hz) s w slot [(1, .reg d.val 0, { domain := true })]) ∧
  (∃ v, WhlFlies (.whlFrsh w slot d h hz) s w slot [(1, .reg d.val v, {})]) ∧
  (outPort s w.val e.loop p.val = true → (slot.val = 1 → e.out0 ≠ some p.val) → Runs (.whlOut w slot p src hz) s fun u =>
    SMap.get 0 (u.whorl w.val).outs p.val = e.reg src.val ∧
    (∀ q, q ≠ p.val → SMap.get 0 (u.whorl w.val).outs q = SMap.get 0 (s.whorl w.val).outs q) ∧
    (u.whorl w.val).timed.flight = [] ∧ WhlSlot s u w slot ∧ OnlyChanges { whl := true } s u) ∧
  (slot = 0 → loadAllowed s w.val e.loop ea = true → s.poisoned key = false →
    WhlFlies (.whlLd w slot d a off .clean hz) s w slot [(2, .reg d.val (BitVec.ofNat 32 (s.load key 4)), {})]) ∧
  (slot = 0 → loadAllowed s w.val e.loop ea = false →
    WhlFlies (.whlLd w slot d a off .clean hz) s w slot [(2, .reg d.val 0, { domain := true })]) ∧
  (slot = 0 → 0x30000 ≤ ea → ea < 0x3C000 → Runs (.whlSt w slot src a off hz) s fun u =>
    u.bytes key 4 = toBytes 4 (e.reg src.val).toNat ∧ BytesOnly key 4 s u ∧ WhlSlot s u w slot ∧
    (u.whorl w.val).timed.g = e.g ∧ OnlyChanges { whl := true, mem := true, fab := true } s u) ∧
  (slot = 0 → own = true → s.poisoned k0 = false → s.poisoned k1 = false →
    WhlFlies (.whlTbl w slot d a t .clean hz) s w slot [(6, .reg d.val r.1, r.2.or { tblClamp := ix.2.2.2 })]) ∧
  (slot = 0 → own = false → WhlFlies (.whlTbl w slot d a t .clean hz) s w slot [(6, .reg d.val 0, { domain := true })])

/-- Where slot 0 issues outside a LOOP body: a branch goes to its target when its condition holds, else to the next word; JMP goes to
its target; LOOP begins a repetition of the words up to `last`; SAFE and END end the execution. The result that is final first is
written by UNIT_RESULT_RETIRE: register d takes it (G0 stays 0) and its flags are added. (07_whorl_instructions.md R206,
07_whorl_instructions.md R208, 07_whorl_instructions.md R220, 07_whorl_instructions.md R221, 07_whorl_instructions.md R222) -/
def Obligations.WhorlControl : Prop :=
  ∀ (s : State) (w : Fin 8) (a : Fin 32) (target last : BitVec 15) (n : Fin 256) (hz : List (Fin 36)), WhlReady s w 0 →
  (s.whorl w.val).timed.rep = none →
  let e := (s.whorl w.val).timed
  let x := e.reg a.val
  let goes := fun (c : Instr) (pc : Nat) => Runs c s fun t => (t.whorl w.val).timed.pc = pc ∧ (t.whorl w.val).timed.g = e.g ∧
    (t.whorl w.val).timed.flight = [] ∧ WhlSlot s t w 0 ∧ OnlyChanges { whl := true } s t
  goes (.whlBz w 0 a target hz) (if x = 0 then target.toNat else e.pc + 1) ∧
  goes (.whlBnz w 0 a target hz) (if x = 0 then e.pc + 1 else target.toNat) ∧
  goes (.whlBltz w 0 a target hz) (if sint x < 0 then target.toNat else e.pc + 1) ∧
  goes (.whlBgez w 0 a target hz) (if sint x < 0 then e.pc + 1 else target.toNat) ∧
  goes (.whlJmp w 0 target hz) target.toNat ∧
  (last.toNat ≠ e.pc → Runs (.whlLoop w 0 n last hz) s fun t =>
    (t.whorl w.val).timed.rep = some ⟨e.pc + 1, last.toNat, n.val⟩ ∧ (t.whorl w.val).timed.pc = e.pc + 1 ∧ WhlSlot s t w 0 ∧
    OnlyChanges { whl := true } s t) ∧
  (Runs (.whlSafe w 0 hz) s fun t => (t.whorl w.val).timed.phase = .safe ∧ (t.whorl w.val).timed.flight = [] ∧
    (t.whorl w.val).timed.g = e.g ∧ (∀ v, v ≠ w.val → t.whorl v = s.whorl v) ∧ OnlyChanges { regs := true, fab := true, whl := true } s t) ∧
  (Runs (.whlEnd w 0 hz) s fun t => (t.whorl w.val).timed.phase = .ended ∧ (t.whorl w.val).timed.flight = [] ∧
    (t.whorl w.val).timed.g = e.g ∧ (∀ v, v ≠ w.val → t.whorl v = s.whorl v) ∧ OnlyChanges { regs := true, fab := true, whl := true } s t)

/-- An operation of class M, U or C in slot 1, ROT, VEC or SCS with an odd pair register, and an undefined operation execute as no-
operation and mark the execution as illegal; a single result in flight is written by UNIT_RESULT_RETIRE with its flags.
(07_whorl_instructions.md R206, 07_whorl_instructions.md R207, 07_whorl_instructions.md R208, 07_whorl_instructions.md R211) -/
def Obligations.WhorlIllegalAndRetire : Prop :=
  ∀ (s : State) (w : Fin 8) (slot : Fin 2) (d a b : Fin 32) (t : Fin 16) (off : BitVec 16) (target : BitVec 15) (n : Fin 256)
  (hz : List (Fin 36)),
  let bad := fun (c : Instr) (k : Fin 2) => WhlReady s w k → Runs c s fun u => (u.whorl w.val).timed.illegal = true ∧
    (u.whorl w.val).timed.flight = [] ∧ (u.whorl w.val).timed.g = (s.whorl w.val).timed.g ∧
    (u.whorl w.val).outs = (s.whorl w.val).outs ∧ WhlSlot s u w k ∧ OnlyChanges { whl := true } s u
  bad (.whlIllegalOperation w slot hz) slot ∧
  bad (.whlRot w 1 d a b hz) 1 ∧ bad (.whlVec w 1 d a hz) 1 ∧ bad (.whlScs w 1 d a hz) 1 ∧ bad (.whlRcp w 1 d a hz) 1 ∧
  bad (.whlSqrt w 1 d a hz) 1 ∧ bad (.whlTbl w 1 d a t .clean hz) 1 ∧ bad (.whlLd w 1 d a off .clean hz) 1 ∧
  bad (.whlSt w 1 d a off hz) 1 ∧ bad (.whlBz w 1 a target hz) 1 ∧ bad (.whlBnz w 1 a target hz) 1 ∧
  bad (.whlBltz w 1 a target hz) 1 ∧ bad (.whlBgez w 1 a target hz) 1 ∧ bad (.whlJmp w 1 target hz) 1 ∧
  bad (.whlLoop w 1 n target hz) 1 ∧ bad (.whlSafe w 1 hz) 1 ∧ bad (.whlEnd w 1 hz) 1 ∧
  (d.val % 2 = 1 → bad (.whlRot w 0 d a b hz) 0 ∧ bad (.whlVec w 0 d a hz) 0 ∧ bad (.whlScs w 0 d a hz) 0) ∧
  (∀ (f : Flight) (v : Word), (s.whorl w.val).timed.phase ≠ .none → shadowOf s w.val = none →
    (s.whorl w.val).timed.flight = [f] → f.op = .reg d.val v → Runs (.unitResultRetire w) s fun u =>
      (u.whorl w.val).timed.reg d.val = (if d.val = 0 then 0 else v) ∧ (u.whorl w.val).timed.flight = [] ∧
      (u.whorl w.val).timed.flags = (s.whorl w.val).timed.flags.or f.flags ∧
      (∀ r, r ≠ d.val → (u.whorl w.val).timed.reg r = (s.whorl w.val).timed.reg r) ∧ OnlyChanges { whl := true } s u)

/-- A startable TIMED loop whose required ports are fresh begins an execution with cleared registers at its entry; a BACKGROUND
trigger waits, and its start begins the execution in the other bank; an execution that has ended leaves the Whorl at its budget
end and asks for its normal output, which the output phase carries out; enabling and disabling a loop set EN, STOPPED and DRAINING
as R175 and R186 say. (06_whorl_engines.md R169, 06_whorl_engines.md R172, 06_whorl_engines.md R173, 06_whorl_engines.md R174,
06_whorl_engines.md R175, 06_whorl_engines.md R186, 07_whorl_instructions.md R205) -/
def Obligations.WhorlExecutions : Prop :=
  ∀ (s : State) (w l : Fin 8) (m : Master) (atTrigger : Bool) (late : List (Fin 12)), shadowOf s w.val = none → s.whl.handover = none →
  let ended := fun (e : ExecSt) => e.phase = .ended ∧ e.loop = l.val ∧ e.poison = false ∧ e.illegal = false ∧ e.codeUe = false
  let begun := fun (e : ExecSt) => e.phase = .running ∧ e.loop = l.val ∧ e.pc = s.get F.WHL_LOOP_CODE.ENTRY w.val l.val ∧
    e.g = [] ∧ e.a = [] ∧ e.flags = {}
  (startable s w.val l.val false = true → (s.loopSt w.val l.val).skipOne = false → (s.whorl w.val).timed.phase = .none →
    staleStart s w.val l.val = false → Runs (.timedLoopStart w l) s fun t =>
      begun (t.whorl w.val).timed ∧ (t.loopSt w.val l.val).inExec = true ∧ (t.loopSt w.val l.val).staleRun = 0 ∧
        OnlyChanges { regs := true, sys := true, fab := true, whl := true, pwm := true, cnv := true, kln := true, act := true, tnd := true, upd := true } s t) ∧
  (ended (s.whorl w.val).timed → s.getB F.WHL_LOOP_CFG.DRAINING w.val l.val = false → Runs (.budgetEnd w l) s fun t =>
    (t.whorl w.val).timed.phase = .none ∧ (t.loopSt w.val l.val).out = .normal ∧ (t.whorl w.val).outs = (s.whorl w.val).outs ∧
      OnlyChanges { regs := true, sys := true, fab := true, whl := true, pwm := true, cnv := true, kln := true, act := true, tnd := true, upd := true, xcp := true } s t) ∧
  (s.getB F.WHL_LOOP_CFG.KIND w.val l.val = false → whlReady s w.val = true → (s.loopSt w.val l.val).out = .normal →
    (s.loopSt w.val l.val).stopNext = none → Runs (.outputPhaseCopy w l late) s fun t =>
      (t.loopSt w.val l.val).out = .none ∧ (t.loopSt w.val l.val).inExec = false ∧ (t.whorl w.val).outs = (s.whorl w.val).outs ∧
        OnlyChanges { regs := true, sys := true, fab := true, whl := true, pwm := true, cnv := true, kln := true, act := true, tnd := true, upd := true, xcp := true } s t) ∧
  (startable s w.val l.val true = true → (s.loopSt w.val l.val).skipOne = false → (s.loopSt w.val l.val).bgWaiting = false →
    (s.loopSt w.val l.val).inExec = false → Runs (.backgroundTrigger w l) s fun t =>
      t.loopSt w.val l.val = { s.loopSt w.val l.val with bgWaiting := true, overlapRun := 0 } ∧ OnlyChanges { whl := true } s t) ∧
  (startable s w.val l.val true = true → (s.loopSt w.val l.val).bgWaiting = true → (s.whorl w.val).timed.phase = .none →
    (s.whorl w.val).bg.phase = .none → (∀ k < l.val, (s.loopSt w.val k).bgWaiting = false) → staleStart s w.val l.val = false →
    Runs (.backgroundStart w l) s fun t => begun (t.whorl w.val).bg ∧ (t.loopSt w.val l.val).inExec = true ∧
      (t.loopSt w.val l.val).bgWaiting = false ∧ OnlyChanges { regs := true, sys := true, fab := true, whl := true, pwm := true, cnv := true, kln := true, act := true, tnd := true, upd := true } s t) ∧
  (ended (s.whorl w.val).bg → (s.whorl w.val).timed.phase = .none → s.getB F.WHL_LOOP_CFG.DRAINING w.val l.val = false →
    (s.loopSt w.val l.val).stopNext = none → Runs (.backgroundComplete w l) s fun t =>
      (t.whorl w.val).bg.phase = .none ∧ (t.loopSt w.val l.val).out = .none ∧ (t.loopSt w.val l.val).inExec = false ∧
        OnlyChanges { regs := true, sys := true, fab := true, whl := true, pwm := true, cnv := true, kln := true, act := true, tnd := true, upd := true, xcp := true } s t) ∧
  (s.regWriter m = true → whlReady s w.val = true → s.getB F.WHL_LOOP_CFG.EN w.val l.val = false →
    Runs (.loopEnable m w l atTrigger) s fun t => t.get F.WHL_LOOP_CFG.EN w.val l.val = 1 ∧ t.get F.WHL_LOOP_CFG.STOPPED w.val l.val = 0 ∧
      (t.loopSt w.val l.val).skipOne = atTrigger ∧ t.resp = .done ∧ RegsOnly [F.WHL_LOOP_CFG.EN.addr w.val l.val 0] s t ∧
        OnlyChanges { regs := true, resp := true, whl := true } s t) ∧
  (s.regWriter m = true → whlReady s w.val = true → s.getB F.WHL_LOOP_CFG.EN w.val l.val = true →
    (s.loopSt w.val l.val).inExec = true → Runs (.loopDisable m w l) s fun t =>
      t.get F.WHL_LOOP_CFG.EN w.val l.val = 0 ∧ t.get F.WHL_LOOP_CFG.DRAINING w.val l.val = 1 ∧
      ((s.loopSt w.val l.val).out = .normal → (t.loopSt w.val l.val).out = .safe) ∧ t.resp = .done ∧
      RegsOnly [F.WHL_LOOP_CFG.EN.addr w.val l.val 0] s t ∧ OnlyChanges { regs := true, resp := true, whl := true } s t)

/-- A coefficient write goes through the queue while a loop is enabled and directly otherwise; a batch empties the queue; CQ_HOLD and
CQ_FLUSH act; table and window writes store their word and no other byte; a standby prepares for the next Whorl with loops and
then shadows it; a handover request from Tinder that is allowed begins the handover; a code repair clears the poison.
(06_whorl_engines.md R163, 06_whorl_engines.md R164, 06_whorl_engines.md R176, 06_whorl_engines.md R177, 06_whorl_engines.md R179,
06_whorl_engines.md R180, 06_whorl_engines.md R185, 06_whorl_engines.md R191, 06_whorl_engines.md R192, 06_whorl_engines.md R193,
06_whorl_engines.md R196) -/
def Obligations.WhorlQueueAndStandby : Prop :=
  ∀ (s : State) (w : Fin 8) (m : Master) (i : Fin 16384) (word : Fin 114688) (code : Fin 32768) (v : Word) (b : BitVec 64),
  let stored := fun (k n x : Nat) (t : State) => t.bytes k n = toBytes n x ∧ BytesOnly k n s t
  (whlReady s w.val = true → enabledLoops s w.val ≠ [] → queueSource s w.val m = true → (s.whorl w.val).queue.length < 16 →
    Runs (.coefQueueWrite m w (.coef i v)) s fun t => (t.whorl w.val).queue = (s.whorl w.val).queue ++ [.coef i.val v] ∧
      t.get F.WHL_CTL.CQ_LEVEL w.val = (s.whorl w.val).queue.length + 1 ∧ t.resp = .done ∧ t.mem = s.mem ∧
        OnlyChanges { regs := true, mem := true, resp := true, fab := true, whl := true } s t) ∧
  (whlReady s w.val = true → enabledLoops s w.val = [] → s.regWriter m = true → Runs (.coefQueueWrite m w (.coef i v)) s fun t =>
    stored (coefKey w.val i.val) 4 v.toNat t ∧ t.resp = .done ∧ t.regs = s.regs ∧
      OnlyChanges { regs := true, mem := true, resp := true, fab := true, whl := true } s t) ∧
  (whlReady s w.val = true → (s.whorl w.val).timed.phase = .none → (s.whorl w.val).bg.phase = .none →
    s.getB F.WHL_CTL.CQ_HOLD w.val = false → (s.whorl w.val).held = false → Runs (.queueBatchApply w) s fun t =>
      (t.whorl w.val).queue = [] ∧ t.get F.WHL_CTL.CQ_LEVEL w.val = 0 ∧
      ((s.whorl w.val).queue = [.coef i.val v] → peersOf s w.val = [] → stored (coefKey w.val i.val) 4 v.toNat t) ∧
        OnlyChanges { regs := true, mem := true, fab := true, whl := true } s t) ∧
  (s.regWriter m = true → whlReady s w.val = true → Runs (.cqHoldSet m w) s fun t =>
    t = (s.set F.WHL_CTL.CQ_HOLD 1 w.val).answer .done) ∧
  (s.regWriter m = true → whlReady s w.val = true → Runs (.cqHoldClear m w) s fun t =>
    t = (s.set F.WHL_CTL.CQ_HOLD 0 w.val).answer .done) ∧
  (s.regWriter m = true → whlReady s w.val = true → s.whl.handover = none → Runs (.cqFlush m w) s fun t =>
    (t.whorl w.val).queue = [] ∧ t.get F.WHL_CTL.CQ_LEVEL w.val = 0 ∧ t.get F.WHL_CTL.CQ_HOLD w.val = 0 ∧ t.resp = .done ∧
      t.mem = s.mem ∧ OnlyChanges { regs := true, resp := true, sys := true, fab := true, whl := true, kln := true, tnd := true, upd := true } s t) ∧
  (s.regWriter m = true → whlReady s w.val = true →
    (enabledLoops s w.val = [] ∨ (inBank s w.val word.val true = false ∧ inBank s w.val word.val false = true)) →
      Runs (.tableRegionWrite m w word v) s fun t =>
      stored (tableKey w.val word.val) 4 v.toNat t ∧ t.resp = .done ∧ OnlyChanges { mem := true, resp := true, fab := true } s t) ∧
  (∀ off : Fin 0x100000, 0x40000 ≤ off.val → off.val < 0x50000 → memOk s m (whlBase w.val + off.val) 4 true = true →
    whlReady s w.val = true → enabledLoops s w.val = [] → s.regWriter m = true → Runs (.whorlMemoryWrite m w off 4 b) s fun t =>
      stored (coefKey w.val ((off.val - 0x40000) / 4)) 4 (b.toNat % 4294967296) t ∧ t.resp = .done ∧
        OnlyChanges { regs := true, mem := true, resp := true, sys := true, fab := true, whl := true, kln := true } s t) ∧
  (s.get F.WHL_CTL.ROLE w.val = 1 → s.getB F.MODE_STAT.STANDBY_OK = true → (s.whorl w.val).subst = false → s.whl.handover = none →
    whlReady s w.val = true → SMap.get 0 s.upd.want (16 + (s.whorl w.val).target) = 0 →
    (∃ v : Fin 8, v ≠ w ∧ hasLoops s v.val = true) → Runs (.shadowSessionStart w) s fun t =>
      (t.whorl w.val).prep = .preparing ∧ (t.whorl w.val).target ≠ w.val ∧ hasLoops s (t.whorl w.val).target = true ∧
      t.get F.WHL_SHADOW.ACTIVE w.val = 0 ∧ OnlyChanges { regs := true, whl := true } s t) ∧
  ((s.whorl w.val).prep = .preparing → whlReady s w.val = true → (s.whorl w.val).subst = false → Runs (.standbyPrepareDone w) s fun t =>
    (t.whorl w.val).prep = .shadowing ∧ (t.whorl w.val).agree = [] ∧ t.get F.WHL_SHADOW.ACTIVE w.val = 1 ∧
      OnlyChanges { regs := true, mem := true, sys := true, fab := true, whl := true } s t) ∧
  (s.whl.handover = none → (s.whorl w.val).prep = .copying → Runs (.stateCopyDone w false) s fun t =>
    (t.whorl w.val).prep = .shadowing ∧ t.get F.WHL_SHADOW.ACTIVE w.val = 1 ∧
      OnlyChanges { regs := true, mem := true, sys := true, fab := true, whl := true, kln := true, tnd := true, upd := true } s t) ∧
  (s.pdReady 5 = true → v.getLsbD 31 = true →
    handoverAllowed (s.set F.WHL_HANDOVER.SHADOW_MIN (getBits v 15 0)) (getBits v 22 20) (getBits v 18 16) = true →
    Runs (.whlHandoverRequest .tinder v) s fun t => t.whl.handover = some (getBits v 22 20, getBits v 18 16) ∧
      t.get F.WHL_HANDOVER.BUSY = 1 ∧ t.resp = .done ∧ OnlyChanges { regs := true, resp := true, whl := true } s t) ∧
  ((s.whorl w.val).repair.contains code.val = true → Runs (.codeRepair w code true) s fun t =>
    (t.whorl w.val).repair = (s.whorl w.val).repair.filter (· != code.val) ∧ t.poisoned (codeKey w.val code.val) = false ∧
      t.mem = s.mem ∧ OnlyChanges { regs := true, sys := true, fab := true, whl := true, pwm := true, cnv := true, kln := true, act := true, tnd := true, upd := true } s t)

/-- A startable closed window opens with its configuration latched, by its start event or by its anchor in MODE 3; a bound point is
sampled once with its value; the end or abort of an open window forms a result with the weight sum, the mean and the time stamp;
disabling clears EN and drains an open window; the delivery writes the 32-byte record into the ring and no other byte.
(05_fast_measurement.md R137, 05_fast_measurement.md R138, 05_fast_measurement.md R139, 05_fast_measurement.md R142,
05_fast_measurement.md R143, 05_fast_measurement.md R149, 05_fast_measurement.md R152) -/
def Obligations.AfeWindows : Prop :=
  ∀ (s : State) (ch : Fin 48) (win : Fin 2) (leg l2 : Fin 32) (apart age : Nat) (pt : Fin 4) (xs : List RawSample) (frac : Fin 8)
    (d : SnapAge) (r : WinRes),
  let x := s.win ch.val win.val
  let ring := 0x40000000 + ch.val * 0x100 + win.val * 0x80 + x.seq % 4 * 0x20
  let bound := s.get F.AFE_PT_CFG.BIND ch.val pt.val
  (winStartable s ch.val win.val = true → x.open_ = false → s.get F.AFE_WIN_CTL.MODE ch.val win.val ≠ 3 →
    Runs (.windowStart ch win) s fun t => (t.win ch.val win.val).open_ = true ∧
      (t.win ch.val win.val).ctl = s.rd (F.AFE_WIN_CTL.EN.addr ch.val win.val 0) ∧ (t.win ch.val win.val).pts = [] ∧
        OnlyChanges { afe := true } s t) ∧
  (winStartable s ch.val win.val = true → x.open_ = false → s.get F.AFE_WIN_CTL.MODE ch.val win.val = 3 →
    s.get F.AFE_WIN_CTL.SEG_LEG ch.val win.val ≤ leg.val → leg.val ≤ s.get F.AFE_WIN_CTL.SEG_LEG ch.val win.val + 2 →
    Runs (.segmentAnchor ch win leg (some l2) apart) s fun t => (t.win ch.val win.val).open_ = true ∧
      (t.win ch.val win.val).anchor = some (leg.val + 32 * l2.val) ∧
      (t.win ch.val win.val).segShort = decide ((apart : Int) < s.get F.AFE_WIN_SEG.SEG_DELAY ch.val win.val +
        (max (s.get F.AFE_WIN_SEG.SEG_LEN ch.val win.val) 16 : Nat) + s.get F.AFE_WIN_SEG.SEG_GUARD ch.val win.val - 72) ∧
          OnlyChanges { afe := true } s t) ∧
  (∀ a b : Int, s.getB F.AFE_PT_CFG.EN ch.val pt.val = true → (s.win ch.val bound).open_ = true →
    getBits (s.win ch.val bound).ctl 29 28 ≠ 3 → (SMap.get (0, 0) (s.win ch.val bound).pts pt.val).2 = 0 →
    s.get F.AFE_PT_CFG.AVG ch.val pt.val = 0 → (correct s ch.val xs).map (·.2) = [a, b] →
    Runs (.pointSample ch pt xs frac age) s fun t =>
      SMap.get (0, 0) (t.win ch.val bound).pts pt.val = (roundDiv (a * (8 - (frac.val : Int)) + b * (frac.val : Int)) 32, age + 1) ∧
        OnlyChanges { afe := true } s t) ∧
  (x.open_ = true → Runs (.windowEnd ch win xs d) s fun t => ∃ q, (t.win ch.val win.val).res = some q ∧
      q.w = weightSum (correct s ch.val xs) ∧ q.mean = windowMean (correct s ch.val xs) ∧ q.ts = s.ts32 ∧
        OnlyChanges { regs := true, sys := true, fab := true, afe := true, pwm := true, cnv := true, fly := true, kln := true, act := true } s t) ∧
  (x.open_ = true → Runs (.windowAbort ch win xs d) s fun t => (t.win ch.val win.val).open_ = false ∧
      ∃ q, (t.win ch.val win.val).res = some q ∧ q.w = weightSum (correct s ch.val xs) ∧
      q.mean = windowMean (correct s ch.val xs) ∧ OnlyChanges { regs := true, sys := true, fab := true, afe := true, pwm := true, cnv := true, fly := true, kln := true, act := true } s t) ∧
  (Runs (.windowDisable ch win) s fun t => t.get F.AFE_WIN_CTL.EN ch.val win.val = 0 ∧
      (x.open_ = true → t.get F.AFE_WIN_CTL.DRAINING ch.val win.val = 1 ∧ t.get F.AFE_CH_CFG.DRAINING ch.val = 1) ∧
      RegsOnly [F.AFE_WIN_CTL.EN.addr ch.val win.val 0, F.AFE_CH_CFG.EN.addr ch.val 0 0] s t ∧ OnlyChanges { regs := true } s t) ∧
  (Runs (.afeChannelDisable ch) s fun t => t.get F.AFE_CH_CFG.EN ch.val = 0 ∧
      (x.open_ = true → t.get F.AFE_WIN_CTL.DRAINING ch.val win.val = 1 ∧ t.get F.AFE_CH_CFG.DRAINING ch.val = 1) ∧
      RegsOnly [F.AFE_WIN_CTL.EN.addr ch.val 0 0, F.AFE_WIN_CTL.EN.addr ch.val 1 0, F.AFE_CH_CFG.EN.addr ch.val 0 0] s t ∧
        OnlyChanges { regs := true } s t) ∧
  (x.res = some r → s.pdReady 6 = true → Runs (.afeResultDelivery ch win) s fun t =>
      (t.win ch.val win.val).seq = (x.seq + 1) % 65536 ∧ t.bytes ring 32 = recordBytes r x.seq ∧ BytesOnly ring 32 s t ∧
        OnlyChanges { regs := true, mem := true, afe := true, fly := true } s t)

/-- The first slice failure of a channel gives its slot to the spare, leaves SPARE at 15 with SPARE_LOST, and issues 0x0710; a
rotation step that passes its shadow check moves the spare into the next slot and makes the slice there the spare; a calibration
within limits waits for the rotation; REF_EN, REF_RDY and REF_REFUSED follow the enable, ready and disable rows; a buffer fault
sets its REF_FAULT bit and issues 0x0702; a coefficient write takes effect in HOLD with the channel off. (05_fast_measurement.md
R125, 05_fast_measurement.md R129, 05_fast_measurement.md R132, 05_fast_measurement.md R133, 05_fast_measurement.md R134,
05_fast_measurement.md R135, 05_fast_measurement.md R160) -/
def Obligations.AfeSlicesAndReferences : Prop :=
  ∀ (s : State) (ch : Fin 48) (slot : Fin 8) (slice : Fin 9) (buf : Fin 6) (sum gain : Nat) (ofs : Int) (v : Word) (m : Master),
  let old := sliceAt s ch.val slot.val
  let next := s.get F.AFE_SLICE_STAT.NEXT_SLOT ch.val
  let spare := s.get F.AFE_SLICE_STAT.SPARE ch.val
  (s.bit F.AFE_SLICE_STAT.FAILED old ch.val = false → s.getB F.AFE_CH_CFG.SPARE_LOST ch.val = false →
    Runs (.sliceTimeout ch slot) s fun t => sliceAt t ch.val slot.val = spare ∧ t.get F.AFE_SLICE_STAT.SPARE ch.val = 15 ∧
      t.get F.AFE_CH_CFG.SPARE_LOST ch.val = 1 ∧ t.sys.lastFault = 0x0710 ∧
        OnlyChanges { regs := true, sys := true, fab := true, afe := true, kln := true } s t) ∧
  (s.getB F.AFE_CH_CFG.SPARE_LOST ch.val = false → sum ≤ max (s.get F.AFE_CTL.SHADOW_THR) 1 * 16 * 1024 →
    Runs (.rotationStep ch sum []) s fun t => sliceAt t ch.val next = spare ∧
      t.get F.AFE_SLICE_STAT.SPARE ch.val = sliceAt s ch.val next % 16 ∧ t.get F.AFE_SLICE_STAT.NEXT_SLOT ch.val = (next + 1) % 8 ∧
        OnlyChanges { regs := true, sys := true, fab := true, afe := true, kln := true } s t) ∧
  (s.getB F.AFE_CH_CFG.SPARE_LOST ch.val = false → -384 ≤ ofs → ofs ≤ 384 → 0x1E00 ≤ gain → gain ≤ 0x2200 →
    Runs (.spareCalibration ch ofs gain) s fun t => (t.slices ch.val).calDone = true ∧ (t.slices ch.val).calOfs = ofs ∧
      (t.slices ch.val).calGain = gain ∧ OnlyChanges { afe := true } s t) ∧
  (s.regWriter m = true → s.pdReady 6 = true → Runs (.refEnable m) s fun t =>
    t.get F.AFE_CTL.REF_EN = 1 ∧ t.resp = .done ∧ RegsOnly [F.AFE_CTL.REF_EN.addr 0 0 0] s t ∧ OnlyChanges { regs := true, resp := true } s t) ∧
  (s.getB F.AFE_CTL.REF_EN = true → s.getB F.AFE_CTL.REF_RDY = false → Runs (.refReady []) s fun t =>
    t.get F.AFE_CTL.REF_RDY = 1 ∧ OnlyChanges { regs := true, sys := true, fab := true, afe := true, kln := true } s t) ∧
  (s.regWriter m = true → s.pdReady 6 = true → anyChannelEnabled s = false → Runs (.refDisable m) s fun t =>
    t.get F.AFE_CTL.REF_EN = 0 ∧ t.get F.AFE_CTL.REF_RDY = 0 ∧ t.resp = .done ∧ RegsOnly [F.AFE_CTL.REF_EN.addr 0 0 0] s t ∧
      OnlyChanges { regs := true, resp := true } s t) ∧
  (s.regWriter m = true → s.pdReady 6 = true → anyChannelEnabled s = true → Runs (.refDisable m) s fun t =>
    t.get F.AFE_CTL.REF_REFUSED = 1 ∧ t.get F.AFE_CTL.REF_EN = s.get F.AFE_CTL.REF_EN ∧ OnlyChanges { regs := true, resp := true } s t) ∧
  (Runs (.refBufferFault buf) s fun t => t.bit F.AFE_CTL.REF_FAULT buf.val = true ∧ t.sys.lastFault = 0x0702 ∧
    OnlyChanges { regs := true, sys := true, fab := true, kln := true } s t) ∧
  (s.regWriter m = true → s.pdReady 6 = true → calHold s = true → s.getB F.AFE_CH_CFG.EN ch.val = false →
    Runs (.sliceCoefWrite m ch slice v) s fun t => t.rd (F.AFE_SLICE_COEF.OFS.addr ch.val slice.val 0) = v ∧
      RegsOnly [F.AFE_SLICE_COEF.OFS.addr ch.val slice.val 0] s t ∧ OnlyChanges { regs := true, resp := true } s t)

/-- A conversion of an enabled housekeeping input is LAST and joins its last sixteen; an arbitration that ends with both checks passed
and no mismatch in the last check ends without a finding, and one whose references fail sets REF_FAIL and loses the twin; a strobe
time-out loses the twelve twins of its converter. (05_fast_measurement.md R156, 05_fast_measurement.md R158,
05_fast_measurement.md R159) -/
def Obligations.HousekeepingConversions : Prop :=
  ∀ (s : State) (i : Fin 64) (code : BitVec 12) (ch : Fin 48) (slot : Fin 8) (c : Fin 4) (dis : Bool),
  (s.pdReady 10 = true → s.bit F.HK_CTL.IN_EN (i.val % 16) (i.val / 16) = true →
    Runs (.hkConversionSlot (.input i code)) s fun t => t.get F.HK_RES.LAST i.val = code.toNat ∧
      SMap.get [] t.hk.hist i.val = (code.toNat :: SMap.get [] s.hk.hist i.val).take 16 ∧ t.hk.twins = s.hk.twins ∧
        OnlyChanges { regs := true, sys := true, fab := true, hk := true, pwm := true, kln := true, act := true } s t) ∧
  ((s.twin ch.val).arb = true → (s.twin ch.val).lastBad = false → Runs (.twinArbitrationEnd ch true false slot) s fun t =>
      (t.twin ch.val).arb = false ∧ (t.twin ch.val).run = 0 ∧ t.afe = s.afe ∧
      t.get F.AFE_CH_CFG.FAILED ch.val = s.get F.AFE_CH_CFG.FAILED ch.val ∧
        OnlyChanges { regs := true, sys := true, fab := true, afe := true, hk := true, pwm := true, kln := true, act := true } s t) ∧
  ((s.twin ch.val).arb = true → Runs (.twinArbitrationEnd ch false dis slot) s fun t =>
      (t.twin ch.val).arb = false ∧ t.get F.HK_CTL.REF_FAIL (ch.val / 12) = 1 ∧ t.get F.HK_TWIN_CFG.TWIN_LOST ch.val = 1 ∧
        OnlyChanges { regs := true, sys := true, fab := true, afe := true, hk := true, pwm := true, kln := true, act := true } s t) ∧
  (Runs (.twinStrobeTimeout c) s fun t => (∀ i : Fin 12, t.get F.HK_TWIN_CFG.TWIN_LOST (12 * c.val + i.val) = 1) ∧
      t.hk = s.hk ∧ t.afe = s.afe ∧ OnlyChanges { regs := true, sys := true, fab := true, pwm := true, kln := true, act := true } s t)

/-- A permitted read of a sound word answers its bytes and changes nothing else; a read of a poisoned word answers a bus error; a read
that finds an uncorrectable word answers a bus error, poisons the word and issues 0x1202. A permitted write of a full ECC word, or
a narrower one over a sound word, stores its bytes and no others; a full-word write clears poison, and a narrower write to a
poisoned word is refused. Addresses of the dictionary, the flash, the registers and (for writes) the Whorl windows have statements
of their own. (20_memory_events.md R538, 20_memory_events.md R541, 20_memory_events.md R542, 20_memory_events.md R543,
20_memory_events.md R544) -/
def Obligations.MemoryAccesses : Prop :=
  ∀ (s : State) (m : Master) (addr : Word) (size : Fin 9) (v : BitVec 64) (x : WriteCtx) (syn : Syndrome),
  let a := addr.toNat
  let k := memKey m a
  busAddr s m a = a → inDict a = false → inFlash a = false → inRegs a = false →
  (memOk s m a size.val false = true → s.poisoned k = false → Runs (.memoryRead m addr size .clean) s fun t =>
    t = s.answer (.data (s.load k size.val))) ∧
  (memOk s m a size.val false = true → s.poisoned k = true → Runs (.memoryRead m addr size syn) s fun t =>
    t.resp = .error ∧ t.mem = s.mem ∧ OnlyChanges { regs := true, resp := true, sys := true, fab := true, kln := true, bus := true } s t) ∧
  (memOk s m a size.val false = true → s.poisoned k = false → Runs (.memoryRead m addr size .multi) s fun t =>
    t.resp = .error ∧ t.poisoned k = true ∧ t.sys.lastFault = 0x1202 ∧ t.mem = s.mem ∧
      OnlyChanges { regs := true, resp := true, sys := true, fab := true, kln := true, bus := true } s t) ∧
  (memOk s m a size.val false = false → Runs (.memoryRead m addr size syn) s fun t => t = s.answer .error) ∧
  (inWhorl a = false → memOk s m a size.val true = true → eccBytes k ≤ size.val → Runs (.memoryWrite m addr size v x) s fun t =>
    t.bytes k size.val = toBytes size.val (v.toNat % 2 ^ (8 * size.val)) ∧ BytesOnly k size.val s t ∧ t.poisoned k = false ∧
    t.resp = .done ∧ t.regs = s.regs ∧ OnlyChanges { regs := true, mem := true, resp := true, sys := true, emb := true, fab := true, afe := true, hk := true, whl := true, pwm := true, cnv := true, fly := true, kln := true, spx := true, sup := true, act := true, thm := true, chg := true, tnd := true, upd := true, bus := true, xcp := true, olt := true } s t) ∧
  (inWhorl a = false → memOk s m a size.val true = true → size.val < eccBytes k → s.poisoned k = false → x.synd = .clean →
    Runs (.memoryWrite m addr size v x) s fun t =>
      t.bytes k size.val = toBytes size.val (v.toNat % 2 ^ (8 * size.val)) ∧ BytesOnly k size.val s t ∧ t.resp = .done ∧
      t.regs = s.regs ∧ OnlyChanges { regs := true, mem := true, resp := true, sys := true, emb := true, fab := true, afe := true, hk := true, whl := true, pwm := true, cnv := true, fly := true, kln := true, spx := true, sup := true, act := true, thm := true, chg := true, tnd := true, upd := true, bus := true, xcp := true, olt := true } s t) ∧
  (inWhorl a = false → memOk s m a size.val true = true → size.val < eccBytes k → s.poisoned k = true →
    Runs (.memoryWrite m addr size v x) s fun t => t.resp = .error ∧ t.mem = s.mem ∧
      OnlyChanges { regs := true, mem := true, resp := true, sys := true, emb := true, fab := true, afe := true, hk := true, whl := true, pwm := true, cnv := true, fly := true, kln := true, spx := true, sup := true, act := true, thm := true, chg := true, tnd := true, upd := true, bus := true, xcp := true, olt := true } s t) ∧
  (inWhorl a = false → memOk s m a size.val true = false → Runs (.memoryWrite m addr size v x) s fun t => t = s.answer .error)

/-- The scrubber steps to its memory's next word, leaves memory as it is, and poisons an uncorrectable MRAM word with 0x1203; every
bucket level above 0 falls by 1 at a leak; a transfer copies its beats to the destination and no other byte, and ends with DONE
and EN clear; a drain stops the channel; the oldest ash record is written to its slot of 256 bytes. (20_memory_events.md R546,
20_memory_events.md R547, 20_memory_events.md R549, 20_memory_events.md R550, 20_memory_events.md R551, 20_memory_events.md R558,
20_memory_events.md R559) -/
def Obligations.ScrubberBucketsAndAsh : Prop :=
  ∀ (s : State) (m : Master) (u : ScrubMem) (c : Fin 8) (started : Nat) (r : AshRec) (rest : List AshRec),
  let i := SMap.get 0 s.fab.scrubPtr (scrubSlot u)
  let seq := s.get F.MEMC_ASH_SEQ.NEXT_SEQ
  let slot := 0x70000000 + 256 * (seq % 128)
  let src := s.get F.MEMC_XF_SRC.SRC c.val
  let dst := s.get F.MEMC_XF_DST.DST c.val
  let len := s.get F.MEMC_XF_CTL.LEN c.val
  let j := SMap.get 0 s.fab.scrubPtr 28
  (s.getB F.MEMC_SCRUB_CFG.EN = true → s.pdReady (keyDomain (scrubKey u i)) = true → Runs (.scrubWord u .clean) s fun t =>
    SMap.get 0 t.fab.scrubPtr (scrubSlot u) = (if i + 1 ≥ scrubWords u then 0 else i + 1) ∧ t.fab.poison = s.fab.poison ∧
    t.mem = s.mem ∧ OnlyChanges { regs := true, sys := true, fab := true, whl := true, pwm := true, cnv := true, kln := true, act := true, tnd := true, upd := true } s t) ∧
  (s.getB F.MEMC_SCRUB_CFG.EN = true → s.pdReady 8 = true → j < 32768 → s.poisoned (0x70000000 + 8 * j) = false →
    Runs (.scrubWord .mram .multi) s fun t => t.poisoned (0x70000000 + 8 * j) = true ∧ t.sys.lastFault = 0x1203 ∧ t.mem = s.mem ∧
      OnlyChanges { regs := true, sys := true, fab := true, whl := true, pwm := true, cnv := true, kln := true, act := true, tnd := true, upd := true } s t) ∧
  (s.regWriter m = true → Runs (.scrubDisable m) s fun t => t = (s.set F.MEMC_SCRUB_CFG.EN 0).answer .done) ∧
  (Runs .bucketLeak s fun t => (∀ b, b < 29 → t.get F.MEMC_BKT.LEVEL b = s.get F.MEMC_BKT.LEVEL b - 1) ∧
    RegsOf [F.MEMC_BKT.LEVEL] s t ∧ OnlyChanges { regs := true } s t) ∧
  (s.regWriter m = true → s.getB F.MEMC_XF_CTL.DRAINING c.val = false → Runs (.xferStart m c) s fun t =>
    t.get F.MEMC_XF_CTL.EN c.val = 1 ∧ t.xfer c.val = { active := true, beat := 0 } ∧ t.resp = .done ∧
    RegsOnly [F.MEMC_XF_CTL.EN.addr c.val 0 0] s t ∧ OnlyChanges { regs := true, resp := true, fab := true } s t) ∧
  ((s.xfer c.val).active = true → (copyBeats src dst len 0 s).1 = 0 → (src + 64 * len ≤ dst ∨ dst + 64 * len ≤ src) →
    Runs (.xferDone c) s fun t => t.bytes dst (64 * len) = s.bytes src (64 * len) ∧ BytesOnly dst (64 * len) s t ∧
      t.get F.MEMC_XF_CTL.DONE c.val = 1 ∧ t.get F.MEMC_XF_CTL.EN c.val = 0 ∧ t.xfer c.val = {} ∧
        OnlyChanges { regs := true, mem := true, fab := true } s t) ∧
  ((s.xfer c.val).active = true → Runs (.xferDrain c started) s fun t => t.mem = (copyBeats src dst (min started len) 0 s).2.mem ∧
      t.get F.MEMC_XF_CTL.DRAINING c.val = 0 ∧ t.get F.MEMC_XF_CTL.EN c.val = 0 ∧ t.xfer c.val = {} ∧
        OnlyChanges { regs := true, mem := true, fab := true } s t) ∧
  (s.fab.ashQ = r :: rest → Runs .ashRecordWritten s fun t =>
      t.bytes slot 256 = ashBytes seq s.sys.cfgVersion s.fab.ashDropped r ∧ BytesOnly slot 256 s t ∧ t.fab.ashQ = rest ∧
      t.get F.MEMC_ASH_SEQ.NEXT_SEQ = (seq + 1) % 2 ^ 32 ∧ OnlyChanges { regs := true, mem := true, fab := true } s t)

/-- A crossing in flight delivers its event to the pending bits of the pairs its route names and keeps one further request if one
waits; a claim answers the pending event of the highest priority, the lowest number among equals, and clears its pending bit; a
signal write stores the entry's bytes in shared SRAM and no others; a timed channel samples a running list that is due.
(20_memory_events.md R555, 20_memory_events.md R556, 20_memory_events.md R561, 20_memory_events.md R562) -/
def Obligations.EventsAndSignals : Prop :=
  ∀ (s : State) (m : Master) (n : Fin 256) (p : Fin 2) (k : Fin 131072) (v : Word) (c : Fin 16) (l : DaqList) (e : Nat),
  let d := s.sigEntry k.val
  let a := pageAddr s true (sigSrc d)
  let w := sigBytes (sigType d)
  (s.pdOn 8 = true → (s.xing n.val).flight = true → s.getB F.EVR_ROUTE.TO_REEL n.val = false → s.getB F.EVR_ROUTE.TO_TRACE n.val = false →
    s.getB F.EVR_ROUTE.TO_DAQ n.val = false → Runs (.eventDelivery n) s fun t =>
      t.xing n.val = { flight := (s.xing n.val).pend, pend := false } ∧
      t.bit F.EVR_PEND_A.PEND (n.val % 32) (n.val / 32) =
        (s.getB F.EVR_ROUTE.TO_A n.val || s.bit F.EVR_PEND_A.PEND (n.val % 32) (n.val / 32)) ∧
      t.bit F.EVR_PEND_B.PEND (n.val % 32) (n.val / 32) =
        (s.getB F.EVR_ROUTE.TO_B n.val || s.bit F.EVR_PEND_B.PEND (n.val % 32) (n.val / 32)) ∧
      RegsOnly [F.EVR_PEND_A.PEND.addr (n.val / 32) 0 0, F.EVR_PEND_B.PEND.addr (n.val / 32) 0 0] s t ∧
        OnlyChanges { regs := true, fab := true, bus := true, xcp := true } s t) ∧
  (regReader s m 0x30030440 = true → s.pdReady 8 = true → claimNext s p.val = some e → Runs (.eventClaim m p) s fun t =>
      t.resp = .data (2 ^ 31 + s.get F.EVR_ROUTE.PRIO e * 256 + e) ∧ t.bit (pendFld p.val) (e % 32) (e / 32) = false ∧
      RegsOnly [(pendFld p.val).addr (e / 32) 0 0] s t ∧ OnlyChanges { regs := true, resp := true, bus := true } s t) ∧
  (regReader s m 0x30030440 = true → s.pdReady 8 = true → claimNext s p.val = none → Runs (.eventClaim m p) s fun t =>
      t = s.answer (.data 0)) ∧
  (dictAllowed s m true = true → s.pdReady 8 = true → d ≠ 0 → sigCal d = true → calAllowed s = true → sourceOk s a = true →
    inSram a = true → sigType d ≠ 8 → memOk s (.pair 1) a w true = true → Runs (.signalWrite m k v .clean) s fun t =>
      t.bytes a w = toBytes w (v.toNat % 2 ^ (8 * w)) ∧ BytesOnly a w s t ∧ t.resp = .done ∧
        OnlyChanges { regs := true, mem := true, resp := true, sys := true, fab := true, whl := true, kln := true } s t) ∧
  (s.pdReady 8 = true → s.get F.SIG_EVCH.KIND c.val = 1 → s.getB F.SIG_EVCH.EN c.val = true → s.xcp.lists = [l] → l.running = true →
    l.evch = c.val → l.prescaler ≤ l.skip + 1 → l.sample = none → Runs (.daqTimerExpiry c) s fun t =>
      (∃ x, t.xcp.lists = [{ l with skip := 0, sample := some x }] ∧ x.list = 0 ∧ x.ts = s.ts32 ∧ x.values.length = l.entries.length) ∧
        OnlyChanges { regs := true, fab := true, xcp := true } s t)

/-- A carrier event takes a running generator from its valley to its peak, and starts an enabled generator at a valley; an edge never
turns a switch on while it turns the other off; a waiting turn-on is issued when its dead time is out and the opposite shows off;
feedback within its window ends the window, and a window that expires refuses or withdraws the command; ARM is set by its row and
cleared with both switches off when a GEN line falls. (08_pwm_gate.md R224, 08_pwm_gate.md R228, 08_pwm_gate.md R235,
08_pwm_gate.md R237, 08_pwm_gate.md R238, 08_pwm_gate.md R239, 08_pwm_gate.md R246, 08_pwm_gate.md R248) -/
def Obligations.PwmSwitching : Prop :=
  ∀ (s : State) (g : Fin 12) (m : Master) (l : Fin 32) (k : Fin 64) (top : Bool) (width delay : Nat) (gen : Fin 4),
  let y := if top then 2 * l.val else 2 * l.val + 1
  let x := oppOf y
  let o := oppOf k.val
  let leg := legOf k.val
  (s.pdReady 7 = true → (s.cg g.val).running = true → (s.cg g.val).rising = true → Runs (.carrierEvent g) s fun t =>
    t.cg g.val = { s.cg g.val with rising := false } ∧ OnlyChanges { regs := true, sys := true, fab := true, pwm := true, cnv := true, kln := true, act := true } s t) ∧
  (s.pdReady 7 = true → (s.cg g.val).running = false → s.getB F.PWM_CG_CTL.EN g.val = true → Runs (.carrierEvent g) s fun t =>
    (t.cg g.val).running = true ∧ (t.cg g.val).rising = true ∧ (t.cg g.val).per = nextPer s g.val ∧
      OnlyChanges { regs := true, sys := true, fab := true, pwm := true, cnv := true, kln := true, act := true } s t) ∧
  (s.regWriter m = true → s.pdReady 7 = true → Runs (.generatorDisable m g) s fun t => t.get F.PWM_CG_CTL.EN g.val = 0 ∧
    ((s.cg g.val).running = true → t.get F.PWM_CG_CTL.DRAINING g.val = 1) ∧ t.resp = .done ∧
    RegsOf [F.PWM_CG_CTL.EN, F.PWM_LEG_CFG.EN] s t ∧ OnlyChanges { regs := true, resp := true } s t) ∧
  (decideSw s x = .follow → decideSw s y = .follow → (top = true → (s.leg l.val).c ≠ 0) → (s.sw x).cmd = true → (s.sw x).pendOn = false →
    (s.sw y).cmd = false → Runs (.switchEdgeCommand l top width) s fun t =>
      (t.sw x).cmd = false ∧ (t.sw y).cmd = false ∧ (t.sw y).deadRun = true ∧ OnlyChanges { regs := true, pwm := true, act := true } s t) ∧
  ((s.sw k.val).pendOn = true → showsOff s o = true → decideSw s k.val ≠ .off → Runs (.deadTimeExpiry k) s fun t =>
    (t.sw k.val).cmd = true ∧ (t.sw k.val).pendOn = false ∧ (t.sw k.val).deadRun = false ∧ t.sw o = s.sw o ∧
      OnlyChanges { regs := true, pwm := true, act := true } s t) ∧
  (fbUsed s k.val = true → (s.sw k.val).cmd = true → (s.sw k.val).win = .on → Runs (.gfbChange k true delay) s fun t =>
    t.get F.GIF_SW_CFG.GFB k.val = 1 ∧ t.get F.GIF_SW_CFG.LAST_FB k.val = min delay 255 ∧
    t.sw k.val = { s.sw k.val with win := .none, runOn := 0 } ∧ RegsOnly [F.GIF_SW_CFG.GFB.addr k.val 0 0] s t ∧
      OnlyChanges { regs := true, sys := true, fab := true, pwm := true, cnv := true, kln := true, act := true } s t) ∧
  ((s.sw k.val).win = .off → s.getB F.GIF_SW_CFG.GFB k.val = true → (s.sw o).pendOn = true → decideSw s o = .follow →
    (s.sw k.val).runOff + 1 < max (s.get F.GIF_SW_CFG.REFUSE_N k.val) 1 → Runs (.turnOffFbWinExpiry k) s fun t =>
      (t.sw o).pendOn = false ∧ (t.sw k.val).win = .none ∧ (t.sw k.val).runOff = (s.sw k.val).runOff + 1 ∧
      t.get F.PWM_LEG_STAT.REFUSE_CNT leg = min (s.get F.PWM_LEG_STAT.REFUSE_CNT leg + 1) 255 ∧
        OnlyChanges { regs := true, sys := true, fab := true, pwm := true, cnv := true, kln := true, act := true } s t) ∧
  ((s.sw k.val).win = .on → (s.sw k.val).cmd = true → s.getB F.GIF_SW_CFG.GFB k.val = false →
    (s.sw k.val).runOn + 1 < max (s.get F.GIF_SW_CFG.REFUSE_N k.val) 1 → Runs (.turnOnFbWinExpiry k) s fun t =>
      (t.sw k.val).cmd = false ∧ (t.sw k.val).runOn = (s.sw k.val).runOn + 1 ∧
      t.get F.PWM_LEG_STAT.REFUSE_CNT leg = min (s.get F.PWM_LEG_STAT.REFUSE_CNT leg + 1) 255 ∧
        OnlyChanges { regs := true, sys := true, fab := true, pwm := true, cnv := true, kln := true, act := true } s t) ∧
  (s.regWriter m = true → s.pdReady 7 = true → Runs (.armSet m l) s fun t => t = (s.set F.PWM_LEG_CFG.ARM 1 l.val).answer .done) ∧
  (s.pdReady 7 = true → s.get F.PWM_LEG_CFG.GEN_SEL l.val = gen.val → Runs (.genFall gen) s fun t => t.pwm.genSeen.testBit gen.val = false ∧
    t.get F.PWM_LEG_CFG.ARM l.val = 0 ∧ (t.leg l.val).armed = false ∧ (t.sw (2 * l.val)).cmd = false ∧ (t.sw (2 * l.val + 1)).cmd = false ∧
      OnlyChanges { regs := true, fab := true, pwm := true, act := true } s t) ∧
  (s.pwm.genSeen.testBit (s.get F.PWM_LEG_CFG.GEN_SEL leg) = false → s.getB F.GIF_SW_CFG.GFB k.val = true →
    Runs (.genLowFeedbackFault k) s fun t => t.sys.lastFault = 0x0A08 ∧
      t.sys.reacts = s.sys.reacts ++ [⟨0x0A08, 5, .pset (setOfSw s k.val)⟩] ∧ OnlyChanges { sys := true, kln := true } s t)

/-- A hard trip or a driver fault in RUN starts DECIDING and within the window joins its findings; the fault map decides the short
circuit or OFF with its code; an entry that fails goes OFF with 0x0A09; a write of UCG_SPEED clears UCG_STALE, and its time-out
sets it; a request for active short circuit through a checked output is kept for the next carrier event. (08_pwm_gate.md R251,
08_pwm_gate.md R252, 08_pwm_gate.md R253, 08_pwm_gate.md R255, 08_pwm_gate.md R256, 08_pwm_gate.md R257, 08_pwm_gate.md R261) -/
def Obligations.FastProtection : Prop :=
  ∀ (s : State) (c : Fin 48) (above : Bool) (i : Fin 16) (p : Fin 16) (v : Word) (m : Master),
  let q := s.get F.GIF_COMP_CFG.PSET c.val
  let q2 := s.get F.GIF_GFLT_CFG.PSET i.val
  (s.getB F.GIF_COMP_CFG.HARD_EN c.val = true → s.psetState q = 0 → Runs (.hardTrip c above) s fun t =>
    t.psetState q = 1 ∧ (t.pset q).findings = [.hard c.val above] ∧ (t.pset q).wasOn = commandedOn s q ∧
    t.get F.GIF_COMP_CFG.HARD c.val = 1 ∧ OnlyChanges { regs := true, sys := true, fab := true, pwm := true, cnv := true, kln := true, act := true } s t) ∧
  (s.getB F.GIF_COMP_CFG.HARD_EN c.val = true → s.psetState q = 1 → Runs (.hardTrip c above) s fun t =>
    t.psetState q = 1 ∧ (t.pset q).findings = (s.pset q).findings ++ [.hard c.val above] ∧ t.get F.GIF_COMP_CFG.HARD c.val = 1 ∧
      OnlyChanges { regs := true, sys := true, fab := true, pwm := true, cnv := true, kln := true, act := true } s t) ∧
  (s.getB F.GIF_GFLT_CFG.EN i.val = true → s.getB F.GIF_GFLT_CFG.TGT_KIND i.val = true → s.psetState q2 = 0 →
    Runs (.gfltAssert i true) s fun t => t.psetState q2 = 1 ∧ (t.pset q2).findings = [.unattributable] ∧
      t.get F.GIF_GFLT_CFG.ACTIVE i.val = 1 ∧ t.get F.GIF_GFLT_CFG.SEEN i.val = 1 ∧
        OnlyChanges { regs := true, sys := true, fab := true, pwm := true, cnv := true, kln := true, act := true } s t) ∧
  (s.getB F.GIF_GFLT_CFG.EN i.val = true → Runs (.gfltAssert i false) s fun t => t = s.set F.GIF_GFLT_CFG.ACTIVE 0 i.val) ∧
  (s.psetState p.val = 1 → Runs (.faultMapDecision p) s fun t =>
    t.psetState p.val = (match (faultMap s p.val).1 with | some true => 2 | some false => 3 | none => 4) ∧
    t.get F.GIF_PSET_STAT.LAST_CODE p.val = (faultMap s p.val).2.1 % 65536 ∧ t.sys.lastFault = (faultMap s p.val).2.1 ∧
      OnlyChanges { regs := true, sys := true, fab := true, pwm := true, cnv := true, kln := true, act := true } s t) ∧
  (s.psetState p.val = 2 → (∃ l ∈ legsOfSet s p.val, (s.sw (2 * l)).pendOn = true ∧ showsOff s (2 * l + 1) = false) →
    Runs (.ascEntryTimeout p) s fun t => t.psetState p.val = 4 ∧ t.get F.GIF_PSET_STAT.LAST_CODE p.val = 0x0A09 ∧
      t.sys.lastFault = 0x0A09 ∧ OnlyChanges { regs := true, sys := true, fab := true, pwm := true, cnv := true, kln := true, act := true } s t) ∧
  (s.regWriter m = true → s.pdReady 7 = true → s.get F.GIF_PSET_LOSS.LSTATE p.val ≠ 2 → Runs (.ucgSpeedWrite m p v) s fun t =>
    t.rd (F.GIF_PSET_UCG.UCG_SPEED.addr p.val 0 0) = v ∧ t.get F.GIF_PSET_STAT.UCG_STALE p.val = 0 ∧ t.resp = .done ∧
    RegsOnly [F.GIF_PSET_UCG.UCG_SPEED.addr p.val 0 0, F.GIF_PSET_STAT.STATE.addr p.val 0 0] s t ∧
      OnlyChanges { regs := true, resp := true, sys := true, fab := true, pwm := true, cnv := true, kln := true, act := true } s t) ∧
  (s.pdReady 7 = true → Runs (.ucgStaleTimeout p) s fun t => t.get F.GIF_PSET_STAT.UCG_STALE p.val = 1 ∧
    t.get F.GIF_PSET_UCG.UCG_SPEED p.val = s.get F.GIF_PSET_UCG.UCG_SPEED p.val ∧ t.sys.lastFault = 0x0A0A ∧
    t.get F.GIF_PSET_STAT.LAST_CODE p.val = 0x0A0A ∧ OnlyChanges { regs := true, sys := true, fab := true, kln := true } s t) ∧
  (s.regWriter m = true → checkedOutput m = true → s.pdReady 7 = true → s.psetState p.val = 0 →
    (s.mode = 3 ∨ s.mode = 5 ∨ s.mode = 7) → Runs (.psetAscTop m p) s fun t =>
      t = (s.setPset p.val { s.pset p.val with request := 2 }).answer .done) ∧
  (s.regWriter m = true → checkedOutput m = true → s.pdReady 7 = true → s.psetState p.val = 0 →
    (s.mode = 3 ∨ s.mode = 5 ∨ s.mode = 7) → Runs (.psetAscBot m p) s fun t =>
      t = (s.setPset p.val { s.pset p.val with request := 3 }).answer .done)

/-- A start from OFF goes to START with the legs' count as ACTIVE and waits for the ramp; a stop from RUN goes to STOPPING and drains;
a clear of a LATCHED channel through a checked output goes to OFF; the ramp time-out, the soft-stop time-out, a checkpoint that
finds a short, the hiccup's end, the retry clear, the firing's limit, the shed start and hold-off, the telemetry window and clear
do what their rules say. (12_converters.md R354, 12_converters.md R355, 12_converters.md R356, 12_converters.md R357,
12_converters.md R358, 12_converters.md R359, 12_converters.md R360, 12_converters.md R362, 12_converters.md R364,
12_converters.md R369) -/
def Obligations.ConverterChannels : Prop :=
  ∀ (s : State) (m : Master) (c : Fin 3) (k w : Fin 3) (mask : Fin 8) (i : Fin 4),
  let x := s.chan c.val
  let mean := roundDiv (SMap.get 0 x.telSum (4 * w.val + i.val)) ((SMap.get 0 x.telCnt w.val : Nat) : Int)
  (s.regWriter m = true → s.pdReady 5 = true → s.getB F.CNV_CH_CFG.DRAINING c.val = false → s.get F.CNV_CH_CFG.KIND c.val ≠ 3 →
    s.chState c.val = 0 → Runs (.cnvChannelStart m c) s fun t => t.chState c.val = 1 ∧ t.get F.CNV_CH_CFG.EN c.val = 1 ∧
      t.get F.CNV_CH_STAT.STOP_CAUSE c.val = 0 ∧ t.get F.CNV_CH_STAT.ACTIVE c.val = allActive s c.val ∧
      (t.chan c.val).waitRamp = true ∧ (t.chan c.val).baseRamp = x.lastRamp ∧ t.resp = .done ∧
        OnlyChanges { regs := true, resp := true, fab := true, pwm := true, cnv := true, act := true } s t) ∧
  (s.regWriter m = true → s.pdReady 5 = true → s.getB F.CNV_CH_CFG.DRAINING c.val = true → Runs (.cnvChannelStart m c) s fun t =>
    t = (s.set F.CNV_CH_CFG.EN_IGN 1 c.val).answer .done) ∧
  (s.regWriter m = true → s.pdReady 5 = true → (s.chState c.val = 1 ∨ s.chState c.val = 2) → Runs (.cnvChannelStop m c) s fun t =>
    t.chState c.val = 3 ∧ t.get F.CNV_CH_CFG.DRAINING c.val = 1 ∧ t.get F.CNV_CH_CFG.EN c.val = 0 ∧
    t.get F.CNV_CH_STAT.STOP_CAUSE c.val = 1 ∧ t.get F.CNV_CH_STAT.RETRIES c.val = 0 ∧ t.resp = .done ∧
      OnlyChanges { regs := true, resp := true, fab := true, pwm := true, cnv := true, act := true } s t) ∧
  (s.regWriter m = true → checkedOutput m = true → s.pdReady 5 = true → s.chState c.val = 5 → Runs (.cnvChannelClear m c) s fun t =>
    t.chState c.val = 0 ∧ t.get F.CNV_CH_STAT.RETRIES c.val = 0 ∧ t.resp = .done ∧ OnlyChanges { regs := true, resp := true, fab := true } s t) ∧
  (s.chState c.val = 1 → x.waitRamp = true → Runs (.rampTimeout c) s fun t => t.chState c.val = 0 ∧
    t.get F.CNV_CH_STAT.STOP_CAUSE c.val = 8 ∧ t.sys.lastFault = 0x0C07 ∧
      OnlyChanges { regs := true, sys := true, fab := true, pwm := true, cnv := true, kln := true, act := true } s t) ∧
  (s.chState c.val = 1 → x.waitRamp = false → s.getB F.CNV_CH_CFG.MON_EN c.val = false → Runs (.softStartCheckpoint c 0) s fun t =>
    (∀ l ∈ chLegs s c.val, (t.leg l).only = none) ∧ t.chState c.val = 1 ∧
      OnlyChanges { regs := true, sys := true, fab := true, pwm := true, cnv := true, kln := true, act := true } s t) ∧
  (s.chState c.val = 1 → x.waitRamp = false → s.getB F.CNV_CH_CFG.MON_EN c.val = true →
    2 * sint (measure s c.val 2) < sint (x.lastCmd.getD 3 0) → s.get F.CNV_CH_HIC.HICCUP_MAX c.val = 0 →
    Runs (.softStartCheckpoint c k) s fun t => t.chState c.val = 4 ∧ t.get F.CNV_CH_STAT.STOP_CAUSE c.val = 3 ∧
      (t.chan c.val).hiccuped = true ∧ OnlyChanges { regs := true, sys := true, fab := true, pwm := true, cnv := true, kln := true, act := true } s t) ∧
  (s.chState c.val = 3 → Runs (.softStopTimeout c) s fun t => t.chState c.val = 0 ∧ t.get F.CNV_CH_STAT.STOP_CAUSE c.val = 7 ∧
    t.sys.lastFault = 0x0C06 ∧ OnlyChanges { regs := true, sys := true, fab := true, pwm := true, cnv := true, kln := true, act := true } s t) ∧
  (s.chState c.val = 4 → Runs (.hiccupOffEnd c) s fun t => t.chState c.val = 1 ∧ (t.chan c.val).waitRamp = true ∧
    t.get F.CNV_CH_STAT.RETRIES c.val = min (s.get F.CNV_CH_STAT.RETRIES c.val + 1) 15 ∧
      OnlyChanges { regs := true, fab := true, pwm := true, cnv := true } s t) ∧
  (s.chState c.val = 2 → Runs (.retryClear c) s fun t => t = s.set F.CNV_CH_STAT.RETRIES 0 c.val) ∧
  (s.getB F.CNV_CH_STAT.NL_UNDER c.val = true → Runs (.nlMaxTimeout c) s fun t => t.get F.CNV_CH_STAT.NL_UNDER c.val = 0 ∧
    (∀ l ∈ chLegs s c.val, (t.leg l).nlFire = none) ∧ OnlyChanges { regs := true, fab := true, pwm := true, cnv := true, act := true } s t) ∧
  (s.getB F.CNV_CH_SHDT.SHED_EN c.val = true → s.chState c.val = 2 → s.getB F.CNV_CH_STAT.SHED_LOCK c.val = false →
    s.getB F.CNV_CH_STAT.SHEDDING c.val = false → shedLegs s c.val ≠ [] → Runs (.shedStart c) s fun t =>
      t.get F.CNV_CH_STAT.SHEDDING c.val = 1 ∧ t.chan c.val = { x with shedN := 0, leaving := shedLegs s c.val } ∧
        OnlyChanges { regs := true, fab := true, cnv := true } s t) ∧
  (Runs (.shedHoldoffEnd c) s fun t => t = s.set F.CNV_CH_STAT.SHED_LOCK 0 c.val) ∧
  (SMap.get 0 x.telCnt w.val ≠ 0 → Runs (.telemetryWindowClose c w) s fun t =>
    t.get F.CNV_TEL_MEAN.MEAN c.val i.val w.val = unsigned 32 mean ∧ SMap.get 0 (t.chan c.val).telCnt w.val = 0 ∧
    RegsOf [F.CNV_TEL_MEAN.MEAN] s t ∧ OnlyChanges { regs := true, cnv := true } s t) ∧
  (s.regWriter m = true → s.pdReady 5 = true → mask.val.testBit c.val = true → Runs (.telemetryClear m mask) s fun t =>
    t.get F.CNV_TEL_PK.MAX c.val i.val = 0x8000 ∧ t.get F.CNV_TEL_PK.MIN c.val i.val = 0x7FFF ∧ t.resp = .done ∧
    RegsOf [F.CNV_TEL_PK.MAX] s t ∧ OnlyChanges { regs := true, resp := true } s t)

/-- An encoder edge counts its position up or down with wrap at CPR, an illegal one is counted; an index captures position and turns;
a read of the position captures REV; a Hall transition keeps the sector and, to a neighbour, measures the edge's angle; a resolver
half period within its amplitude measures the angle; serial and SENT frames that are sound measure their position; excitation
faults show in EXC_FAULT. (09_flyer.md R264, 09_flyer.md R267, 09_flyer.md R268, 09_flyer.md R269, 09_flyer.md R270, 09_flyer.md
R271, 09_flyer.md R272, 09_flyer.md R273, 09_flyer.md R274, 09_flyer.md R275) -/
def Obligations.FlyerSensors : Prop :=
  ∀ (s : State) (m : Master) (n : Fin 4) (d abHigh : Bool) (h r k : Fin 2) (st : BitVec 3) (a b : Int) (fr : SerFrame) (ns : List (Fin 16))
    (crc : Fin 16) (g : SlowMsg) (v : Nat),
  let p := s.get F.FLY_ENC_POS.POS n.val
  let cpr := encCpr s n.val
  let up := d != s.getB F.FLY_ENC_CFG.DIR_INV n.val
  let next := if up then (if p + 1 ≥ cpr then 0 else p + 1) else (if p = 0 then cpr - 1 else p - 1)
  let q := 8 + k.val
  let c := 10 + n.val
  let a2 := 4096 * (a * a + b * b).natAbs
  let nom := s.get F.FLY_RES_AMP.AMP_NOM r.val
  let bits := s.get F.FLY_SER_CFG.BITS k.val
  let fc := s.get F.FLY_SENT_CFG.FC_BITS n.val
  let ok (i : Nat) := s.pdReady 7 = true ∧ srcStale s i = false
  let noRun (i : Nat) := (s.src i).errRun + 1 ≠ max 1 (s.get F.FLY_SRC_CFG.SENS_ERR_N i)
  (s.getB F.FLY_ENC_CFG.EN n.val = true → ok n.val → Runs (.encoderEdge n (some d)) s fun t => t.get F.FLY_ENC_POS.POS n.val = next ∧
    (t.src n.val).dirUp = up ∧ (t.src n.val).theta = next * 2 ^ 64 / cpr ∧
      OnlyChanges { regs := true, sys := true, fab := true, pwm := true, cnv := true, fly := true, kln := true, act := true } s t) ∧
  (s.getB F.FLY_ENC_CFG.EN n.val = true → s.pdReady 7 = true → noRun n.val → Runs (.encoderEdge n none) s fun t =>
    t.get F.FLY_SRC_STAT.ILLEGAL_CNT n.val = min (s.get F.FLY_SRC_STAT.ILLEGAL_CNT n.val + 1) 255 ∧
    (t.src n.val).errRun = (s.src n.val).errRun + 1 ∧ t.get F.FLY_ENC_POS.POS n.val = p ∧
      OnlyChanges { regs := true, sys := true, fab := true, pwm := true, cnv := true, fly := true, kln := true, act := true } s t) ∧
  (s.getB F.FLY_ENC_CFG.EN n.val = true → s.pdReady 7 = true → (s.getB F.FLY_ENC_CFG.ZGATE n.val = true → abHigh = true) →
    (s.sens n.val).firstIdx = none → Runs (.encoderIndex n abHigh) s fun t => t.get F.FLY_ENC_IDX.IDX_POS n.val = p ∧
      t.get F.FLY_ENC_IDX.INDEX_SEEN n.val = 1 ∧ (t.sens n.val).firstIdx = some p ∧
      t.get F.FLY_ENC_IDXREV.IDX_REV n.val = unsigned 32 (s.sens n.val).rev ∧
        OnlyChanges { regs := true, sys := true, fab := true, pwm := true, cnv := true, fly := true, kln := true, act := true } s t) ∧
  (s.regWriter m = true → s.pdReady 7 = true → Runs (.encPosRead m n) s fun t =>
    t.resp = .data (s.rd (F.FLY_ENC_POS.POS.addr n.val 0 0)).toNat ∧ t.get F.FLY_ENC_REV.REV n.val = unsigned 32 (s.sens n.val).rev ∧
    RegsOnly [F.FLY_ENC_REV.REV.addr n.val 0 0] s t ∧ OnlyChanges { regs := true, resp := true } s t) ∧
  (s.getB F.FLY_HALL_CFG.EN h.val = true → s.pdReady 7 = true → s.getB F.FLY_HALL_CFG.DIR_INV h.val = false → hallSector st = some v →
    (s.sens (4 + h.val)).sector = none → Runs (.hallTransition h st) s fun t => t.get F.FLY_HALL_CFG.STATE h.val = st.toNat ∧
      (t.sens (4 + h.val)).sector = some v ∧ OnlyChanges { regs := true, sys := true, fab := true, pwm := true, cnv := true, fly := true, kln := true, act := true } s t) ∧
  (∀ o, s.getB F.FLY_HALL_CFG.EN h.val = true → ok (4 + h.val) → s.getB F.FLY_HALL_CFG.DIR_INV h.val = false → hallSector st = some v →
    (s.sens (4 + h.val)).sector = some o → o < 6 → v = (o + 1) % 6 → Runs (.hallTransition h st) s fun t =>
      (t.src (4 + h.val)).theta = s.get F.FLY_HALL_EDGE.ANGLE h.val o * 2 ^ 48 ∧ (t.src (4 + h.val)).dirUp = true ∧
      (t.sens (4 + h.val)).sector = some v ∧ OnlyChanges { regs := true, sys := true, fab := true, pwm := true, cnv := true, fly := true, kln := true, act := true } s t) ∧
  (s.getB F.FLY_RES_CFG.EN r.val = true → ok (6 + r.val) → (s.get F.FLY_RES_AMP.AMP_LO r.val * nom) ^ 2 ≤ a2 →
    a2 ≤ (s.get F.FLY_RES_AMP.AMP_HI r.val * nom) ^ 2 → Runs (.resolverHalfPeriod r a b) s fun t =>
      (t.src (6 + r.val)).theta = (angleOf b a + 2 ^ 15) / 2 ^ 16 % 2 ^ 16 * 2 ^ 48 ∧ (t.sens (6 + r.val)).ampRun = 0 ∧
        OnlyChanges { regs := true, sys := true, fab := true, pwm := true, cnv := true, fly := true, kln := true, act := true } s t) ∧
  (Runs (.excitationFault r false) s fun t => t = s.set F.FLY_RES_CFG.EXC_FAULT 0 r.val) ∧
  (machSrc s 0 ≠ 6 + r.val → machSrc s 1 ≠ 6 + r.val → Runs (.excitationFault r true) s fun t => t = s.set F.FLY_RES_CFG.EXC_FAULT 1 r.val) ∧
  (s.getB F.FLY_SER_CFG.EN k.val = true → s.pdReady 7 = true → (s.sens q).busy = false → Runs (.serialPoll k) s fun t =>
    t = s.setSens q { s.sens q with busy := true, drop := false }) ∧
  ((s.sens q).busy = true → (s.sens q).drop = false → srcStale s q = false → s.getB F.FLY_SER_CFG.PROTO k.val = false →
    s.getB F.FLY_SER_CFG.GRAY k.val = false → fr.rulesOk = true → Runs (.serialFrameEnd k fr) s fun t =>
      (t.src q).theta = fr.data % 2 ^ bits * 2 ^ 64 / 2 ^ bits ∧ (t.sens q).busy = false ∧
        OnlyChanges { regs := true, sys := true, fab := true, pwm := true, cnv := true, fly := true, kln := true, act := true } s t) ∧
  ((s.sens q).busy = true → (s.sens q).drop = false → noRun q → Runs (.serialTimeout k) s fun t =>
      (t.src q).errRun = (s.src q).errRun + 1 ∧ (t.sens q).busy = false ∧
        OnlyChanges { regs := true, sys := true, fab := true, pwm := true, cnv := true, fly := true, kln := true, act := true } s t) ∧
  (s.getB F.FLY_SENT_CFG.EN n.val = true → ok c → ns.length = s.get F.FLY_SENT_CFG.NIBBLES n.val →
    crc.val = sentCrc (s.getB F.FLY_SENT_CFG.CRC_MODE n.val) ns → g.crcOk = true → Runs (.sentFrame n ns crc true (some g)) s fun t =>
      (t.src c).theta = ns.foldl (fun x e => 16 * x + e.val) 0 / 2 ^ s.get F.FLY_SENT_CFG.FC_LSB n.val % 2 ^ fc * 2 ^ 64 / 2 ^ fc ∧
      t.get F.FLY_SENT_SLOW.NEW n.val = 1 ∧ t.get F.FLY_SENT_SLOW.ID n.val = g.id.toNat ∧ t.get F.FLY_SENT_SLOW.DATA n.val = g.data.toNat ∧
        OnlyChanges { regs := true, sys := true, fab := true, pwm := true, cnv := true, fly := true, kln := true, act := true } s t)

/-- A measurement time-out sets TIMEOUT and loses every enabled tracker on the source with cause 4; an enabled tracker on a fresh
absolute source acquires its angle at its step, and a disabled one is not acquired; ACQ through a checked output ends a loss whose
source is sound, and with USE_SET sets an encoder tracker's angle; a compare value is written or refused; an emulation edge sends
one due count; a unit's EN clears; a reacquisition time-out issues 0x0A0D with its class; a permitted CLEAR returns the set to
RUN. (09_flyer.md R275, 09_flyer.md R278, 09_flyer.md R280, 09_flyer.md R287, 09_flyer.md R288, 09_flyer.md R289, 09_flyer.md
R291, 09_flyer.md R293, 09_flyer.md R296, 10_machine_control.md R319, 08_pwm_gate.md R259) -/
def Obligations.FlyerTrackers : Prop :=
  ∀ (s : State) (m : Master) (src : Fin 14) (mach e : Fin 2) (c : Fin 8) (p : Fin 16) (v : Word) (age : Nat),
  let k := machSrc s mach.val
  let q := s.src k
  let val := getBits v 27 0
  let x := s.emu e.val
  let step : Int := if 0 < x.due then 1 else -1
  let l := s.get F.GIF_PSET_LOSS.LSTATE p.val
  let cls := if s.getB F.GIF_PSET_LOSS.SENSORLESS_OK p.val then 2 else if l = 1 then 3 else 4
  (s.get F.FLY_SRC_CFG.MEAS_TMO src.val ≠ 0 → Runs (.measurementTimeout src) s fun t => t.get F.FLY_SRC_STAT.TIMEOUT src.val = 1 ∧
    (k = src.val → s.getB F.FLY_MACH_CFG.EN mach.val = true → s.getB F.FLY_MACH_STAT.LOST mach.val = false →
      t.get F.FLY_MACH_STAT.LOST mach.val = 1 ∧ t.get F.FLY_MACH_STAT.LOSS_CAUSE mach.val = 4) ∧
        OnlyChanges { regs := true, sys := true, fab := true, pwm := true, cnv := true, fly := true, kln := true, act := true } s t) ∧
  (s.pdReady 7 = true → s.getB F.FLY_MACH_CFG.EN mach.val = false → Runs (.trackerStep mach age) s fun t =>
    (t.trk mach.val).steps = (s.trk mach.val).steps + 1 ∧ t.get F.FLY_MACH_STAT.ACQUIRED mach.val = 0 ∧
      OnlyChanges { regs := true, sys := true, fab := true, pwm := true, cnv := true, fly := true, kln := true, act := true } s t) ∧
  (s.pdReady 7 = true → s.getB F.FLY_MACH_CFG.EN mach.val = true → s.getB F.FLY_MACH_STAT.ACQUIRED mach.val = false →
    s.getB F.FLY_MACH_STAT.LOST mach.val = false → 4 ≤ k → k < 14 → (if mach = 0 then q.fresh0 else q.fresh1) = true →
    srcStale s k = false → Runs (.trackerStep mach age) s fun t => t.get F.FLY_MACH_STAT.ACQUIRED mach.val = 1 ∧
      (t.trk mach.val).theta = q.theta ∧ (t.trk mach.val).turns = 0 ∧ t.get F.FLY_MACH_STAT.SPEED_VALID mach.val = 0 ∧
        OnlyChanges { regs := true, sys := true, fab := true, pwm := true, cnv := true, fly := true, kln := true, act := true } s t) ∧
  (s.regWriter m = true → checkedOutput m = true → s.pdReady 7 = true → s.getB F.FLY_MACH_CFG.EN mach.val = true →
    s.getB F.FLY_MACH_STAT.LOST mach.val = true → k < 14 → max 1 (s.get F.FLY_SRC_CFG.SENS_ERR_N k) ≤ q.goodRun → srcStale s k = false →
    s.getB F.FLY_SRC_STAT.TIMEOUT k = false → (6 ≤ k → k ≤ 7 → s.getB F.FLY_RES_CFG.EXC_FAULT (k - 6) = false) →
    Runs (.machAcq m mach) s fun t => t.get F.FLY_MACH_STAT.LOST mach.val = 0 ∧ t.get F.FLY_MACH_STAT.ACQUIRED mach.val = 0 ∧
      t.resp = .done ∧ t.fly = s.fly ∧ OnlyChanges { regs := true, resp := true, fab := true, fly := true } s t) ∧
  (s.regWriter m = true → checkedOutput m = true → s.pdReady 7 = true → s.getB F.FLY_MACH_CFG.EN mach.val = true →
    s.getB F.FLY_MACH_STAT.LOST mach.val = false → k < 4 → Runs (.machAcqUseSet m mach) s fun t =>
      (t.trk mach.val).theta = s.get F.FLY_MACH_ASET.ANGLE_SET mach.val * 2 ^ 32 ∧ t.get F.FLY_MACH_STAT.ACQUIRED mach.val = 1 ∧
      t.resp = .done ∧ OnlyChanges { regs := true, resp := true, fab := true, fly := true } s t) ∧
  (s.regWriter m = true → s.pdReady 7 = true → s.getB F.FLY_CMP_CFG.EN c.val = false → val < cmpRange s c.val →
    Runs (.compareValWrite m c v false) s fun t => t = (s.set F.FLY_CMP_VAL.VAL val c.val).answer .done) ∧
  (s.regWriter m = true → s.pdReady 7 = true → s.getB F.FLY_CMP_CFG.EN c.val = true → val < cmpRange s c.val → cmpUpward s c.val = true →
    cmpPos s c.val < val → Runs (.compareValWrite m c v false) s fun t => t.get F.FLY_CMP_VAL.VAL c.val = val ∧
      t.get F.FLY_CMP_CFG.ARMED c.val = 1 ∧ t.resp = .done ∧
      RegsOnly [F.FLY_CMP_VAL.VAL.addr c.val 0 0, F.FLY_CMP_CFG.EN.addr c.val 0 0] s t ∧
        OnlyChanges { regs := true, resp := true, fab := true } s t) ∧
  (s.regWriter m = true → s.pdReady 7 = true → cmpRange s c.val ≤ val → Runs (.compareValWrite m c v false) s fun t =>
    t = (s.set F.FLY_CMP_CFG.VAL_ERR 1 c.val).answer .done) ∧
  (s.getB F.FLY_EMU_CFG.EN e.val = true → s.get F.FLY_EMU_CFG.BACKLOG e.val ≠ 65535 → x.due ≠ 0 → Runs (.emulationEdge e) s fun t =>
    (t.emu e.val).due = x.due - step ∧
    (t.emu e.val).pos = (((x.pos : Int) + step) % (max 1 (s.get F.FLY_EMU_CPR.EMU_CPR e.val) : Nat)).toNat ∧
    RegsOnly [F.FLY_EMU_CFG.EN.addr e.val 0 0] s t ∧ OnlyChanges { regs := true, fly := true } s t) ∧
  (s.regWriter m = true → s.pdReady 7 = true → Runs (.flyerUnitDisable m (.tracker mach)) s fun t =>
    t = (s.set F.FLY_MACH_CFG.EN 0 mach.val).answer .done) ∧
  (s.regWriter m = true → s.pdReady 7 = true → Runs (.flyerUnitDisable m (.compare c)) s fun t =>
    t.get F.FLY_CMP_CFG.EN c.val = 0 ∧ t.get F.FLY_CMP_CFG.ARMED c.val = 0 ∧ RegsOnly [F.FLY_CMP_CFG.EN.addr c.val 0 0] s t ∧
      OnlyChanges { regs := true, resp := true, fly := true } s t) ∧
  ((l = 1 ∨ l = 2) → Runs (.reacqTimeout p) s fun t => t.get F.GIF_PSET_LOSS.LSTATE p.val = 4 ∧
    t.get F.GIF_PSET_LOSS.REACQ_LEFT p.val = 0 ∧ t.get F.GIF_PSET_STAT.LAST_CODE p.val = 0x0A0D ∧ t.sys.lastFault = 0x0A0D ∧
    t.sys.reacts = s.sys.reacts ++ [⟨0x0A0D, cls, .pset p.val⟩] ∧
    RegsOnly [F.GIF_PSET_LOSS.LSTATE.addr p.val 0 0, F.GIF_PSET_STAT.LAST_CODE.addr p.val 0 0] s t ∧
      OnlyChanges { regs := true, sys := true, kln := true } s t) ∧
  (s.regWriter m = true → checkedOutput m = true → s.pdReady 7 = true → setBlocked s p.val = false → s.psetState p.val ≠ 1 →
    s.getB F.GIF_PSET_LOSS.LOSS_EN p.val = false → Runs (.psetClear m p) s fun t => t.psetState p.val = 0 ∧
      t.get F.GIF_PSET_LOSS.LSTATE p.val = 0 ∧ (t.pset p.val).findings = [] ∧ t.resp = .done ∧
        OnlyChanges { regs := true, resp := true, sys := true, fab := true, pwm := true, cnv := true, fly := true, kln := true, act := true } s t)

/-- The KREQ_PAIR's checked output writes one field of SPX_KREQ, which reaches the Kiln over the link; a commit takes the claims; a
challenge sends a new index to both pairs, never the last one, and a right answer in time is accepted and a wrong one is a miss;
the mirror shows the Kiln; a control-die reaction is recorded; a sufficient SAFE_RESET edge releases the Kiln and enters READY, a
short one is refused with reason 7; the watchdog drops every output. (15_safety.md R420, 15_safety.md R421, 15_safety.md R423,
15_safety.md R426, 15_safety.md R432, 15_safety.md R434, 15_safety.md R442, 15_safety.md R445, 15_safety.md R446, 15_safety.md
R449, 15_safety.md R450) -/
def Obligations.KilnRequests : Prop :=
  ∀ (s : State) (m : Master) (p : Fin 2) (b2 : BitVec 2) (b4 : BitVec 4) (on one : Bool) (qa qb : Fin 16) (v : Word) (us : Nat) (r : React)
    (rest : List React) (e : ResetEdge) (c : Nat),
  let asked := fun (f : Fld) (x : Nat) (t : State) => t.rd (f.addr p.val 0 0) = kreqWith s p.val f x &&& 0xFFC00000 ∧
    t.kln.kreq = kreqWith s p.val f x &&& 0xFFC00000 ∧ t.resp = .done
  let q := SMap.get 16 s.kln.hbQ 0
  (spxReady s m p.val = true → kreqWriter s m p.val = true → s.sys.linkUp = true →
    (Runs (.slsRequest m p b2) s fun t => asked F.SPX_KREQ.SLS_REQ b2.toNat t ∧
      OnlyChanges { regs := true, resp := true, sys := true, fab := true, pwm := true, kln := true, act := true } s t) ∧
    (Runs (.ss1Request m p on) s fun t => asked F.SPX_KREQ.SS1_REQ on.toNat t ∧
      OnlyChanges { regs := true, resp := true, sys := true, fab := true, pwm := true, kln := true, act := true } s t) ∧
    (Runs (.stoRequest m p on) s fun t => asked F.SPX_KREQ.STO_REQ on.toNat t ∧
      OnlyChanges { regs := true, resp := true, sys := true, fab := true, pwm := true, kln := true, act := true } s t) ∧
    (Runs (.stoRelease m p on) s fun t => asked F.SPX_KREQ.STO_REL on.toNat t ∧
      OnlyChanges { regs := true, resp := true, sys := true, fab := true, pwm := true, kln := true, act := true } s t) ∧
    (Runs (.brakeRelease m p on) s fun t => asked F.SPX_KREQ.BRK_REL on.toNat t ∧
      OnlyChanges { regs := true, resp := true, sys := true, fab := true, pwm := true, kln := true, act := true } s t) ∧
    (Runs (.genRelease m p b4) s fun t => asked F.SPX_KREQ.GEN_REL b4.toNat t ∧
      OnlyChanges { regs := true, resp := true, sys := true, fab := true, pwm := true, kln := true, act := true } s t) ∧
    (Runs (.claimCommit m p) s fun t => SMap.get 0 t.kln.claims 0 = s.get F.SPX_CLAIM_I0.SET0 p.val ∧
      SMap.get 0 t.kln.claims 1 = s.get F.SPX_CLAIM_I0.SET1 p.val ∧ SMap.get 0 t.kln.claims 4 = s.getI F.SPX_CLAIM_P.P_CLAIM p.val ∧
      t.kln.present.testBit 10 = false ∧ t.regs = s.regs ∧ t.resp = .done ∧
        OnlyChanges { regs := true, resp := true, sys := true, fab := true, pwm := true, kln := true, act := true } s t)) ∧
  (spxReady s m p.val = true → kreqWriter s m p.val = false → Runs (.stoRelease m p on) s fun t => t = s.answer .done) ∧
  (kilnRuns s = true → s.sys.released = true → Runs (.heartbeatChallenge qa qb) s fun t =>
    t.kln.hbSeq = (s.kln.hbSeq + 1) % 65536 ∧ SMap.get 0 t.kln.hbState 0 = 1 ∧ SMap.get 0 t.kln.hbState 2 = 1 ∧
    SMap.get 16 t.kln.hbQ 0 = (if qa.val = q then (q + 1) % 16 else qa.val) ∧
      OnlyChanges { regs := true, sys := true, fab := true, pwm := true, kln := true, act := true } s t) ∧
  (spxReady s m p.val = true → hbWriter s m p.val one = some c → s.sys.linkUp = true → SMap.get 0 s.kln.hbState c = 1 →
    tbl16 s.kln.table 0xC8 ≤ us → v.toNat = heartbeatAnswer s.kln.table p.val (SMap.get 16 s.kln.hbQ p.val) →
    Runs (.heartbeatAnswer m p one v us) s fun t => t.kln = { s.kln with hbState := SMap.put 0 s.kln.hbState c 2 } ∧ t.resp = .done ∧
      OnlyChanges { regs := true, resp := true, kln := true } s t) ∧
  (spxReady s m p.val = true → hbWriter s m p.val one = some c → s.sys.linkUp = true → SMap.get 0 s.kln.hbState c = 1 →
    v.toNat ≠ heartbeatAnswer s.kln.table p.val (SMap.get 16 s.kln.hbQ p.val) → Runs (.heartbeatAnswer m p one v us) s fun t =>
      t = (s.setKln { s.kln with hbState := SMap.put 0 s.kln.hbState c 3 }).answer .done) ∧
  (s.kln.mail = r :: rest → s.sys.linkUp = true → kilnRuns s = true → Runs .ctrlReact s fun t => t.kln.mail = rest ∧
    t.kln.last = r.code ∧ (3 ≤ r.cls → t.kln.latch.testBit 25 = true) ∧
      OnlyChanges { regs := true, fab := true, pwm := true, kln := true, act := true } s t) ∧
  (s.pdReady 8 = true → s.sys.linkUp = true → Runs .kilnMirrorRefresh s fun t => t.get F.KLN_STAT.KSTATE = s.kln.kstate % 8 ∧
    t.get F.KLN_LATCH.ENTRY = s.kln.latch % 2 ^ 27 ∧ t.get F.KLN_CODE.LAST = s.kln.last % 65536 ∧
    t.get F.KLN_STAT.RELEASE_REASON = s.kln.reason % 16 ∧ OnlyChanges { regs := true } s t) ∧
  (s.kln.kstate ≠ 0 → s.kln.kstate ≠ 4 → s.mode = 6 → 100 ≤ e.lowMs → pairHalted s = false → releaseReason s e.fbOk = none →
    Runs (.safeResetEdge e) s fun t => t.kln.kstate = 2 ∧ t.kln.latch = 0 ∧ t.kln.reason = 1 ∧ t.kln.stoOk = false ∧
      t.get F.MODE_STAT.MODE = 2 ∧ t.sys.safeCls = 0 ∧ OnlyChanges { regs := true, mem := true, sys := true, fab := true, afe := true, hk := true, whl := true, pwm := true, cnv := true, fly := true, kln := true, spx := true, sup := true, act := true, thm := true, chg := true, tnd := true, upd := true, bus := true, xcp := true, olt := true } s t) ∧
  (s.kln.kstate ≠ 0 → s.kln.kstate ≠ 4 → s.mode = 6 → e.lowMs < 100 → Runs (.safeResetEdge e) s fun t =>
    t.kln = { s.kln with reason := 7 } ∧ t.mode = 6 ∧ t.sys = s.sys ∧ t.mem = s.mem ∧
      OnlyChanges { regs := true, mem := true, sys := true, fab := true, afe := true, hk := true, whl := true, pwm := true, cnv := true, fly := true, kln := true, spx := true, sup := true, act := true, thm := true, chg := true, tnd := true, upd := true, bus := true, xcp := true, olt := true } s t) ∧
  (s.kln.kstate ≠ 0 → s.kln.wdog = false → Runs .klnclkWatchdog s fun t => t.kln.wdog = true ∧ t.kln.cls5 = true ∧ t.kln.gen = 0 ∧
    t.kln.stoHs = false ∧ t.kln.stoLs = false ∧ t.kln.brkHs = false ∧ t.kln.last = 0x0F02 ∧
      OnlyChanges { regs := true, sys := true, fab := true, pwm := true, kln := true, act := true } s t)

/-- While the Kiln works, a claim time-out, a Kirchhoff trip, a feedback disagreement and a missed comparator test record their codes
and apply their entries; the power check restarts its sums; a speed edge counts and a gate's end publishes the count; the end of a
safe stop applies STO and an overrun of it the entry STOP_LIMIT; a dark pulse starts when due or is postponed, and its end counts.
(15_safety.md R427, 15_safety.md R434, 15_safety.md R435, 15_safety.md R437, 15_safety.md R439, 15_safety.md R443, 15_safety.md
R444, 15_safety.md R445, 15_safety.md R447) -/
def Obligations.KilnChecks : Prop :=
  ∀ (s : State) (set : Fin 4) (mach : Fin 2) (ms : Nat) (sw : Fin 3), kilnRuns s = true →
  let k := s.kln
  let found := fun (e code : Nat) (t : State) => t.kln.last = code ∧ (3 ≤ (entryOf k.table e).1 → t.kln.latch.testBit e = true)
  let due := if sw.val = 2 then (tblByte k.table 0x122).testBit 0 && k.brkHs else stoReleased s
  (k.present.testBit 10 = false → Runs .claimTimeout s fun t => found 10 0x0F44 t ∧ t.kln.present.testBit 10 = true ∧
    OnlyChanges { regs := true, sys := true, fab := true, pwm := true, kln := true, act := true } s t) ∧
  (Runs .kilnPowerCheck s fun t => t.kln.pSum = 0 ∧ t.kln.pCnt = 0 ∧
    t.kln.pDen = (if k.pCnt = 0 then k.pDen else 1024 * k.pCnt) ∧
      OnlyChanges { regs := true, sys := true, fab := true, pwm := true, kln := true, act := true } s t) ∧
  ((kSet k.table set.val).1 = true → Runs (.kirchhoffTrip set) s fun t => found 11 0x0F45 t ∧
    OnlyChanges { regs := true, sys := true, fab := true, pwm := true, kln := true, act := true } s t) ∧
  (hasPin k.table mach.val = true → Runs (.kilnSpeedEdge mach) s fun t =>
    t = s.setKln { k with edges := SMap.put 0 k.edges mach.val (SMap.get 0 k.edges mach.val + 1) }) ∧
  (hasPin k.table mach.val = true → Runs (.kilnGateEnd mach ms) s fun t => SMap.get 0 t.kln.edges mach.val = 0 ∧
    SMap.get 0 t.kln.counts mach.val = min (SMap.get 0 k.edges mach.val) 65535 ∧
      OnlyChanges { regs := true, sys := true, fab := true, pwm := true, kln := true, act := true } s t) ∧
  (k.present.testBit 21 = false → Runs .stoFeedbackTimeout s fun t => found 21 0x0F50 t ∧
    OnlyChanges { regs := true, sys := true, fab := true, pwm := true, kln := true, act := true } s t) ∧
  (k.present.testBit 23 = false → Runs (.brakeFeedbackTimeout false) s fun t => found 23 0x0F52 t ∧
    OnlyChanges { regs := true, sys := true, fab := true, pwm := true, kln := true, act := true } s t) ∧
  (Runs (.brakeFeedbackTimeout true) s fun t => t.kln = { k with present := putBit k.present 23 false } ∧
    OnlyChanges { regs := true, sys := true, fab := true, pwm := true, kln := true, act := true } s t) ∧
  (due = true → darkBlocked s = false → Runs (.darkPulseStart sw) s fun t => t.kln.pulse.testBit sw.val = true ∧
    t.kln.postponed.testBit sw.val = false ∧ OnlyChanges { kln := true } s t) ∧
  (due = true → darkBlocked s = true → Runs (.darkPulseStart sw) s fun t =>
    t = s.setKln { k with postponed := putBit k.postponed sw.val true }) ∧
  (k.pulse.testBit sw.val = true → (if sw.val = 2 then k.brkHs else stoReleased s) = true → Runs (.darkPulseEnd sw true) s fun t =>
    t.kln.dpDone = (k.dpDone + 1) % 256 ∧ t.kln.pulse.testBit sw.val = false ∧ t.kln.dpFail = k.dpFail ∧
      OnlyChanges { regs := true, sys := true, fab := true, pwm := true, kln := true, act := true } s t) ∧
  (k.pulse.testBit sw.val = true → (if sw.val = 2 then k.brkHs else stoReleased s) = true → Runs (.darkPulseEnd sw false) s fun t =>
    t.kln.dpFail = min (k.dpFail + 1) 255 ∧ t.kln.pulse.testBit sw.val = false ∧
      OnlyChanges { regs := true, sys := true, fab := true, pwm := true, kln := true, act := true } s t) ∧
  (k.ss1 = true → Runs .ss1Timeout s fun t => t.kln.ss1 = false ∧ found 20 0x0F4E t ∧
    OnlyChanges { regs := true, sys := true, fab := true, pwm := true, kln := true, act := true } s t) ∧
  (k.ss1 = true → hasPin k.table 0 = false → hasPin k.table 1 = false → Runs .ss1StopComplete s fun t =>
    t.kln.ss1 = false ∧ t.kln.stoOk = false ∧ t.kln.stoHs = false ∧ t.kln.stoLs = false ∧ t.kln.latch = k.latch ∧
      OnlyChanges { regs := true, fab := true, pwm := true, kln := true, act := true } s t) ∧
  (Runs (.kilnComparatorTest true) s fun t => found 24 0x0F30 t ∧
    OnlyChanges { regs := true, sys := true, fab := true, pwm := true, kln := true, act := true } s t) ∧
  (Runs (.kilnComparatorTest false) s fun t => t = s)

/-- While pair A runs, a supervision task counts EMERGENCY_RUN and, outside DRIVE, LIMP and SERVICE, stops every machine; the
millisecond's task writes UCG_SPEED of a set from the lower link voltage; the shock hold, the catch phase and EMERGENCY_RUN end as
their rules say. (10_machine_control.md R305, 10_machine_control.md R307, 10_machine_control.md R311, 10_machine_control.md R316,
10_machine_control.md R317, 10_machine_control.md R327) -/
def Obligations.MachineSupervision : Prop :=
  ∀ (s : State) (i : SupIn) (m : Fin 2) (p : MachPar) (q : SetPar),
  let v := min (linkVolt s q) (s.get F.HK_RES.LAST s.sys.cfg.sup.linkHk * s.sys.cfg.sup.hkGain)
  let u := if q.psiCold = 0 then 2 ^ 31 - 1 else v * 2 ^ 89 / (sqrt3 * q.psiCold)
  (pairRuns s 0 = true → s.pdReady 7 = true → Runs (.supervisionTask i) s fun t =>
    t.sup.emrTasks = (if s.sup.emr then s.sup.emrTasks + 1 else s.sup.emrTasks) ∧
    (s.mode ≠ 3 → s.mode ≠ 5 → s.mode ≠ 7 → machPar s m.val = some p →
      (t.mach m.val).running = false ∧ (t.mach m.val).tRef = 0 ∧ (t.mach m.val).start = .off) ∧ t.resp = s.resp ∧
        OnlyChanges { regs := true, mem := true, resp := true, sys := true, fab := true, whl := true, pwm := true, cnv := true, fly := true, kln := true, sup := true, act := true, thm := true } s t) ∧
  (pairRuns s 0 = true → s.pdReady 7 = true → s.sys.cfg.sup.sets = [q] → q.pset < 16 → s.get F.GIF_PSET_LOSS.LSTATE q.pset ≠ 2 →
    Runs .ucgCompute s fun t => t.get F.GIF_PSET_UCG.UCG_SPEED q.pset = min u (2 ^ 31 - 1) ∧
      t.get F.GIF_PSET_STAT.UCG_STALE q.pset = 0 ∧ t.resp = s.resp ∧
      RegsOnly [F.GIF_PSET_UCG.UCG_SPEED.addr q.pset 0 0, F.GIF_PSET_STAT.STATE.addr q.pset 0 0] s t ∧
        OnlyChanges { regs := true, resp := true, sys := true, fab := true, pwm := true, cnv := true, kln := true, act := true } s t) ∧
  (Runs (.shockHoldEnd m) s fun t => t = s.setMach m.val { s.mach m.val with shock := false, tlHist := [] }) ∧
  ((s.mach m.val).start = .catching → s.getB F.FLY_MACH_STAT.EMF_LOCK m.val = true → Runs (.catchPhaseEnd m) s fun t =>
    (t.mach m.val).start = .onSensor ∧ (t.mach m.val).running = true ∧ (t.mach m.val).vRef = machSpd s m.val * 65536 ∧
    machSrc t m.val = 14 ∧ t.get F.FLY_MACH_CFG.EN m.val = 1 ∧ OnlyChanges { regs := true, fly := true, sup := true } s t) ∧
  ((s.mach m.val).start = .catching → s.getB F.FLY_MACH_STAT.EMF_LOCK m.val = false → Runs (.catchPhaseEnd m) s fun t =>
    (t.mach m.val).start = (if s.getB F.FLY_MACH_STAT.EMF_VALID m.val then .onPll else .onIf) ∧ (t.mach m.val).running = true ∧
    (t.mach m.val).vRef = machSpd s m.val * 65536 ∧ machSrc t m.val = machSrc s m.val ∧ OnlyChanges { regs := true, fly := true, sup := true } s t) ∧
  (pairRuns s 0 = true → s.sup.emr = true → Runs .emergencyRunEnd s fun t => t.sup.emr = false ∧ t.sup.machs = s.sup.machs ∧
    OnlyChanges { regs := true, fab := true, sup := true } s t)

/-- With ACT_EN high, a write of MODE keeps its value, HIZ and LOW_ON taking effect at once; a bootstrap undervoltage is counted; a
refusal that ends no run is counted on the leg's switch; each latched fault sets its bit and LATCHED with its code; a fall of
ACT_EN puts every bridge in HIZ, and a rise after at least 10 µs clears latches whose cause is absent; the park-lock pattern ends
in LOW_ON, then HIZ. (11_actuators.md R332, 11_actuators.md R333, 11_actuators.md R334, 11_actuators.md R336, 11_actuators.md
R338, 11_actuators.md R339, 11_actuators.md R344) -/
def Obligations.ActuatorBridges : Prop :=
  ∀ (s : State) (m : Master) (b : Fin 12) (sn : Fin 2) (high present : Bool) (us : Nat) (causes : LatchCauses) (mask : BitVec 12) (l : Nat),
  let k := if high then 2 * l else 2 * l + 1
  let latched := fun (f : Fld) (t : State) => t.get f b.val = 1 ∧ t.bit F.ACT_STAT.LATCHED b.val = true
  s.pdReady 10 = true →
  (s.regWriter m = true → s.getB F.ACT_STAT.ACT_EN_LVL = true →
    (Runs (.bridgeHiz m b) s fun t => t.get F.ACT_BR_CFG.MODE b.val = 0 ∧ bridgeMode t b.val = 0 ∧ t.bit F.ACT_STAT.HIZ b.val = true ∧
      t.resp = .done ∧ OnlyChanges { regs := true, resp := true, act := true } s t) ∧
    (Runs (.bridgePwm m b) s fun t => t.get F.ACT_BR_CFG.MODE b.val = 1 ∧ bridgeMode t b.val = bridgeMode s b.val ∧ t.resp = .done ∧
      OnlyChanges { regs := true, resp := true, act := true } s t) ∧
    (Runs (.bridgeLowOn m b) s fun t => t.get F.ACT_BR_CFG.MODE b.val = 2 ∧ bridgeMode t b.val = 2 ∧ t.resp = .done ∧
      OnlyChanges { regs := true, resp := true, act := true } s t)) ∧
  (Runs (.bootUndervoltage b) s fun t =>
    t.get F.ACT_BR_STAT.BOOT_UV_CNT b.val = min (s.get F.ACT_BR_STAT.BOOT_UV_CNT b.val + 1) 255 ∧
    (legOfBridge s b.val = some l → t.get F.PWM_LEG_STAT.BOOT_HOLD l = 1) ∧
      OnlyChanges { regs := true, sys := true, fab := true, pwm := true, kln := true, act := true } s t) ∧
  (s.pdReady 7 = true → legOfBridge s b.val = some l → (s.sw k).runOff + 1 < max (s.get F.GIF_SW_CFG.REFUSE_N k) 1 →
    Runs (.predriverGateReport b (.refusedOff high)) s fun t => (t.sw k).runOff = (s.sw k).runOff + 1 ∧ (t.sw (oppOf k)).pendOn = false ∧
      t.get F.PWM_LEG_STAT.REFUSE_CNT l = min (s.get F.PWM_LEG_STAT.REFUSE_CNT l + 1) 255 ∧
        OnlyChanges { regs := true, sys := true, fab := true, pwm := true, cnv := true, kln := true, act := true } s t) ∧
  (s.getB F.ACT_BR_STAT.ACT_OC_H b.val = false → Runs (.drainSourceFault b true) s fun t => latched F.ACT_BR_STAT.ACT_OC_H t ∧
    t.sys.lastFault = 0x0B02 ∧ OnlyChanges { regs := true, sys := true, fab := true, kln := true } s t) ∧
  (s.getB F.ACT_BR_STAT.ACT_OC_L b.val = false → Runs (.drainSourceFault b false) s fun t => latched F.ACT_BR_STAT.ACT_OC_L t ∧
    t.sys.lastFault = 0x0B03 ∧ OnlyChanges { regs := true, sys := true, fab := true, kln := true } s t) ∧
  (vdrvWatched s = true → Runs (.vgdUndervoltage true) s fun t => t.get F.ACT_STAT.VGD_LOW = 1 ∧ t.get F.ACT_BR_STAT.ACT_SUPPLY b.val = 1 ∧
    OnlyChanges { regs := true, sys := true, fab := true, kln := true } s t) ∧
  (vdrvWatched s = true → Runs (.vgdUndervoltage false) s fun t => t = s.set F.ACT_STAT.VGD_LOW 0) ∧
  (vdrvWatched s = true → Runs (.driveSupplyFault present) s fun t => t.get F.ACT_BR_STAT.ACT_SUPPLY b.val = 1 ∧
    OnlyChanges { regs := true, sys := true, fab := true, kln := true } s t) ∧
  (Runs (.predriverOvertemp sn) s fun t => t.get F.ACT_BR_STAT.ACT_OT b.val = 1 ∧
    OnlyChanges { regs := true, sys := true, fab := true, kln := true } s t) ∧
  (Runs (.predriverWarning false present) s fun t => t.get F.ACT_STAT.OT_WARN = present.toNat ∧
    t.get F.ACT_STAT.VDRV_WARN = s.get F.ACT_STAT.VDRV_WARN ∧ OnlyChanges { regs := true, fab := true } s t) ∧
  (s.getB F.ACT_STAT.ACT_EN_LVL = true → Runs .actEnFall s fun t => t.get F.ACT_STAT.ACT_EN_LVL = 0 ∧ t.get F.ACT_BR_CFG.MODE b.val = 0 ∧
    bridgeMode t b.val = 0 ∧ t.bit F.ACT_STAT.HIZ b.val = true ∧ OnlyChanges { regs := true, fab := true, act := true } s t) ∧
  (s.getB F.ACT_STAT.ACT_EN_LVL = false → Runs (.actEnRise us causes) s fun t => t.get F.ACT_STAT.ACT_EN_LVL = 1 ∧
    t.get F.ACT_BR_STAT.ACT_OC_H b.val = (if 10 ≤ us ∧ causes.ocH.getLsbD b.val = false then 0 else s.get F.ACT_BR_STAT.ACT_OC_H b.val) ∧
    t.get F.ACT_BR_STAT.ACT_OT b.val = (if 10 ≤ us ∧ causes.ot = false then 0 else s.get F.ACT_BR_STAT.ACT_OT b.val) ∧
      OnlyChanges { regs := true, fab := true } s t) ∧
  (pairBRuns s = true → s.getB F.ACT_STAT.ACT_EN_LVL = true → Runs (.parkLockStall mask) s fun t =>
    t.get F.ACT_BR_CFG.MODE b.val = (if mask.getLsbD b.val ∧ s.get F.ACT_BR_CFG.MODE b.val = 1 then 2 else s.get F.ACT_BR_CFG.MODE b.val) ∧
      OnlyChanges { regs := true, act := true } s t) ∧
  (pairBRuns s = true → Runs (.parkLockHoldEnd mask) s fun t =>
    t.get F.ACT_BR_CFG.MODE b.val = (if mask.getLsbD b.val ∧ s.get F.ACT_BR_CFG.MODE b.val = 2 then 0 else s.get F.ACT_BR_CFG.MODE b.val) ∧
      OnlyChanges { regs := true, act := true } s t)

/-- A valid sample of an enabled sensor joins the last four, whose mean is its TEMP, and an invalid one makes it invalid with 0x0E01;
an on-die hard limit issues 0x0E03; an evaluation clears a disabled rule, and gives an enabled rule without a valid sensor NOSRC
and FAIL_STEP; a factor below the one wanted rises by one. (14_thermal.md R395, 14_thermal.md R396, 14_thermal.md R397,
14_thermal.md R399, 14_thermal.md R401) -/
def Obligations.ThermalRules : Prop :=
  ∀ (s : State) (i : Fin 36) (v x : Int) (ok : Bool) (r : Fin 16) (g : Fin 8),
  let h := (x :: (s.sensor i.val).hist).take 4
  s.pdReady 10 = true →
  (sensorOn s i.val = true → sampleTemp s i.val ok v = some x → Runs (.sensorSample i ok v) s fun t => (t.sensor i.val).hist = h ∧
    t.get F.THM_TEMP.TEMP i.val = unsigned 16 (roundDiv h.sum h.length) ∧
    (t.getB F.THM_TEMP.VALID i.val = true ↔ 3 ≤ (s.sensor i.val).good) ∧ RegsOnly [F.THM_TEMP.TEMP.addr i.val 0 0] s t ∧
      OnlyChanges { regs := true, sys := true, fab := true, kln := true, thm := true } s t) ∧
  (sensorOn s i.val = true → sampleTemp s i.val ok v = none → (s.sensor i.val).bad = false → Runs (.sensorSample i ok v) s fun t =>
    (t.sensor i.val).hist = [] ∧ t.get F.THM_TEMP.FAULT i.val = 1 ∧ t.get F.THM_TEMP.VALID i.val = 0 ∧ t.sys.lastFault = 0x0E01 ∧
      OnlyChanges { regs := true, sys := true, fab := true, kln := true, thm := true } s t) ∧
  (24 ≤ i.val → Runs (.dieHardLimit i) s fun t => t.sys.lastFault = 0x0E03 ∧ t.sys.reacts = s.sys.reacts ++ [⟨0x0E03, 3, .other⟩] ∧
    t.sup.emr = false ∧ OnlyChanges { regs := true, sys := true, fab := true, kln := true, sup := true } s t) ∧
  (s.getB F.THM_RULE_CFG.EN r.val = false → Runs .ruleEvaluation s fun t => t.get F.THM_RULE_STAT.STEP r.val = 0 ∧
    t.get F.THM_RULE_STAT.ROR r.val = 0 ∧ t.get F.THM_RULE_STAT.SHUT r.val = 0 ∧ t.rule r.val = {} ∧
      OnlyChanges { regs := true, mem := true, resp := true, sys := true, emb := true, fab := true, afe := true, hk := true, whl := true, pwm := true, cnv := true, fly := true, kln := true, spx := true, sup := true, act := true, thm := true, chg := true, tnd := true, upd := true, bus := true, xcp := true, olt := true } s t) ∧
  (s.getB F.THM_RULE_CFG.EN r.val = true → ruleTemps s r.val = [] → Runs .ruleEvaluation s fun t =>
    t.get F.THM_RULE_STAT.NOSRC r.val = 1 ∧ t.get F.THM_RULE_STAT.STEP r.val = min 4 (s.get F.THM_RULE_LIM.FAIL_STEP r.val) ∧
    (t.rule r.val).hist = [] ∧ OnlyChanges { regs := true, mem := true, resp := true, sys := true, emb := true, fab := true, afe := true, hk := true, whl := true, pwm := true, cnv := true, fly := true, kln := true, spx := true, sup := true, act := true, thm := true, chg := true, tnd := true, upd := true, bus := true, xcp := true, olt := true } s t) ∧
  (s.get (tgtFld g.val) < SMap.get 128 s.thm.want g.val → Runs (.factorRiseStep g) s fun t =>
    t.get (tgtFld g.val) = (s.get (tgtFld g.val) + 1) % 256 ∧ t.thm = s.thm ∧ OnlyChanges { regs := true, fab := true } s t)

/-- A pilot period writes the levels, the duty and I_PILOT and changes STATE once PILOT_N periods agree; a proximity sample writes RC
and CLASS; a blanked comparator only notes its crossing, a REPORT comparator sets its trip bit and, on a channel's FAST_CH, stops
that channel at once with cause 9 and 0x0C08; a release ends NL_OVER and NL_UNDER; STOP_NOW of a checked output stops a channel at
once. (08_pwm_gate.md R249, 08_pwm_gate.md R250, 12_converters.md R360, 12_converters.md R365, 13_charging_powerpath.md R372,
13_charging_powerpath.md R373, 13_charging_powerpath.md R374, 13_charging_powerpath.md R376, 13_charging_powerpath.md R383) -/
def Obligations.PilotAndComparators : Prop :=
  ∀ (s : State) (x : PilotIn) (mv : Nat) (c : Fin 48) (k : Fin 3) (above : Bool) (m : Master),
  let n := if s.chg.cand = pilotClass x then min (s.chg.candN + 1) 31 else 1
  let i := if x.pwm then min (pilotCurrent s.chg.digital x.duty) 1023 else 0
  let rc := if 5000 ≤ mv then 65535 else min 65535 (s.get F.CHG_PP_CFG.RPU * mv / (5000 - mv))
  let q := s.compar c.val
  let side := if above then F.GIF_COMP_CFG.TRIP_HI else F.GIF_COMP_CFG.TRIP_LO
  (s.pdReady 8 = true → s.mode ≠ 0 → Runs (.pilotPeriod x) s fun t =>
    t.get F.CHG_PILOT_LVL.HIGH = unsigned 16 x.high ∧ t.get F.CHG_PILOT_LVL.LOW = unsigned 16 x.low ∧
    t.get F.CHG_PILOT.PWM = x.pwm.toNat ∧ t.get F.CHG_PILOT.DUTY = (if x.pwm then min x.duty 1000 else 0) ∧
    t.get F.CHG_PILOT.I_PILOT = i ∧ t.chg.cand = pilotClass x ∧ t.chg.candN = n ∧ (i ≤ s.chg.iUse → t.chg.iUse = i) ∧
    t.get F.CHG_PILOT.STATE = (if max 1 (s.get F.CHG_PILOT.PILOT_N) ≤ n then pilotClass x else s.get F.CHG_PILOT.STATE) ∧
      OnlyChanges { regs := true, fab := true, chg := true } s t) ∧
  (s.pdReady 8 = true → s.mode ≠ 0 → Runs (.proximitySample mv) s fun t =>
    t.get F.CHG_PP.RC = rc ∧ t.get F.CHG_PP.CLASS = ppClass s rc ∧ (sessActive s = false → t.chg = { s.chg with ppLost := 0 }) ∧
      OnlyChanges { regs := true, fab := true, chg := true } s t) ∧
  (s.pdReady 7 = true → s.getB F.GIF_COMP_CFG.EN c.val = true → q.blank = true → Runs (.comparatorTrip c above) s fun t =>
    t = s.setCompar c.val { q with out := if above then 1 else 2 }) ∧
  (s.pdReady 7 = true → s.getB F.GIF_COMP_CFG.EN c.val = true → q.blank = false → 2 ≤ s.get F.GIF_COMP_CFG.ACTION c.val →
    s.pdReady 5 = false → Runs (.comparatorTrip c above) s fun t =>
      t = raise 103 ((s.setCompar c.val { q with out := if above then 1 else 2 }).set side 1 c.val)) ∧
  (s.pdReady 7 = true → s.getB F.GIF_COMP_CFG.EN c.val = true → q.blank = false → 2 ≤ s.get F.GIF_COMP_CFG.ACTION c.val →
    chUsed s k.val = true → chActive s k.val = true → s.get F.CNV_CH_FAST.FAST_CH k.val = c.val → s.getB F.CNV_CH_FAST.FAST_EN k.val = true →
    s.getB F.CNV_CH_FAST.FAST_DIR k.val ≠ above → (∀ j < 3, s.get F.CNV_CH_NL.NL_CH j ≠ c.val) → Runs (.comparatorTrip c above) s fun t =>
      t.chState k.val = 0 ∧ t.get F.CNV_CH_STAT.STOP_CAUSE k.val = 9 ∧ t.sys.lastFault = 0x0C08 ∧
      (k.val = 1 → s.mode = 4 → sessActive s = true → t.get F.CHG_SESS.HV_LOST = 1 ∧ t.get F.CHG_SESS.STATE = 6 ∧
        t.chg.ends = s.chg.ends ++ [7] ∧ t.chg.cmd = false) ∧
          OnlyChanges { regs := true, mem := true, sys := true, fab := true, pwm := true, cnv := true, kln := true, act := true, chg := true } s t) ∧
  (s.pdReady 7 = true → s.getB F.GIF_COMP_CFG.EN c.val = true → 2 ≤ s.get F.GIF_COMP_CFG.ACTION c.val → chUsed s k.val = true →
    s.get F.CNV_CH_NL.NL_CH k.val = c.val → Runs (.comparatorRelease c) s fun t => (t.compar c.val).out = 0 ∧
      t.get F.CNV_CH_STAT.NL_OVER k.val = 0 ∧ t.get F.CNV_CH_STAT.NL_UNDER k.val = 0 ∧ (t.chan k.val).nlReleased = true ∧
        OnlyChanges { regs := true, fab := true, pwm := true, cnv := true, act := true } s t) ∧
  (s.pdReady 7 = true → s.getB F.GIF_COMP_CFG.EN c.val = true → s.get F.GIF_COMP_CFG.ACTION c.val < 2 → Runs (.comparatorRelease c) s fun t =>
    t = s.setCompar c.val { q with out := 0 }) ∧
  (q.blank = true → q.out = 0 → Runs (.blankingEnd c) s fun t => t = s.setCompar c.val { q with blank := false }) ∧
  (q.blank = true → q.out = 1 → s.pdReady 7 = true → s.getB F.GIF_COMP_CFG.EN c.val = true → 2 ≤ s.get F.GIF_COMP_CFG.ACTION c.val →
    s.pdReady 5 = false → Runs (.blankingEnd c) s fun t =>
      t = raise 103 ((s.setCompar c.val { q with blank := false }).set F.GIF_COMP_CFG.TRIP_HI 1 c.val)) ∧
  (s.regWriter m = true → checkedOutput m = true → chUsed s k.val = true → chActive s k.val = true → Runs (.cnvChannelStopNow m k) s fun t =>
    t.chState k.val = 0 ∧ t.get F.CNV_CH_STAT.STOP_CAUSE k.val = 9 ∧ t.get F.CNV_CH_STAT.SHEDDING k.val = 0 ∧
    (t.chan k.val).stopAtValley = true ∧ t.resp = .done ∧ OnlyChanges { regs := true, resp := true, fab := true, pwm := true, cnv := true, act := true } s t) ∧
  (s.regWriter m = true → checkedOutput m = false → s.pdReady 5 = true → Runs (.cnvChannelStopNow m k) s fun t => t = s.answer .done) ∧
  (s.regWriter m = false → Runs (.cnvChannelStopNow m k) s fun t => t = busError s)

/-- In a task the supervision starts a session exactly where R377 permits it, lets P_LIM ramp down while the limits are stale, and
holds the precharge once the link is within PRE_DV of the target; stale limits pause the session and 10 s of that end it with
LIMITS_TIMEOUT; the HV_LOST hold, the acceptance probe, the safety timer and the precharge's time-outs end as their rules say.
(13_charging_powerpath.md R377, 13_charging_powerpath.md R378, 13_charging_powerpath.md R379, 13_charging_powerpath.md R381,
13_charging_powerpath.md R383, 13_charging_powerpath.md R388, 13_charging_powerpath.md R391, 13_charging_powerpath.md R393) -/
def Obligations.ChargeSessions : Prop :=
  ∀ (s : State) (i : ChgIn) (battI : Int) (battV : Nat),
  let st := s.get F.CHG_SESS.STATE
  pairBRuns s = true →
  (s.pdReady 8 = true → s.thm.calDue = [] → s.sys.cfg.chg.actLims = [] → st = 0 → s.chg.cmd = false → s.chg.ends = [] → s.chg.hostMs = 0 →
    s.chg.fresh = false → s.chg.preStop = false → s.chState 2 ≠ 2 → Runs (.chargeTask i) s fun t =>
      t.get F.CHG_SESS.STATE = 0 ∧ t.get F.CHG_SESS.P_LIM = s.get F.CHG_SESS.P_LIM - s.chg.ramp ∧ t.get F.CHG_B12.PHASE = 0 ∧
      t.get F.CHG_PRE.PSTATE = (if s.get F.CHG_PRE.PSTATE = 1 ∧
        ((i.linkV : Int) - (s.get F.CHG_PRE.TARGET : Nat)).natAbs ≤ 10 * max 1 (s.get F.CHG_PRE_CFG.PRE_DV) then 2 else s.get F.CHG_PRE.PSTATE) ∧
      t.resp = s.resp ∧ OnlyChanges { regs := true, mem := true, resp := true, sys := true, fab := true, whl := true, pwm := true, cnv := true, kln := true, act := true, thm := true, chg := true } s t) ∧
  (s.pdReady 8 = true → s.thm.calDue = [] → s.sys.cfg.chg.actLims = [] → st = 0 ∨ st = 1 → s.chg.ends = [] → s.chg.hostMs = 0 →
    mayCharge s = true → Runs (.chargeTask i) s fun t => t.get F.CHG_SESS.STATE = 2 ∧ t.resp = s.resp ∧
      OnlyChanges { regs := true, mem := true, resp := true, sys := true, fab := true, whl := true, pwm := true, cnv := true, kln := true, act := true, thm := true, chg := true } s t) ∧
  (s.chg.fresh = true → st = 2 ∨ st = 3 → Runs .limitsTimeout s fun t => t.get F.CHG_SESS.STATE = 4 ∧
    t.chg = { s.chg with fresh := false, ramp := s.get F.CHG_SESS.P_LIM / 1000 + 1, pause := 1 } ∧ RegsOnly [F.CHG_SESS.STATE.addr 0 0 0] s t ∧
      OnlyChanges { regs := true, chg := true } s t) ∧
  (s.chg.fresh = true → st ≠ 2 → st ≠ 3 → Runs .limitsTimeout s fun t =>
    t = s.setChg { s.chg with fresh := false, ramp := s.get F.CHG_SESS.P_LIM / 1000 + 1 }) ∧
  (st = 4 → s.chg.pause = 1 → s.chg.ends = [] → Runs .pauseTimeout s fun t => t.get F.CHG_SESS.STATE = 6 ∧ t.get F.CHG_SESS.END_REASON = 6 ∧
    t.chg.cmd = false ∧ t.chg.ends = [] ∧ t.sys.lastFault = 0x0D06 ∧ t.resp = s.resp ∧
      OnlyChanges { regs := true, resp := true, sys := true, fab := true, pwm := true, cnv := true, kln := true, act := true, chg := true } s t) ∧
  (s.chg.hvHold = true → (s.chState 0 = 1 ∨ s.chState 0 = 2) → Runs .hvLostHoldEnd s fun t => t.chState 0 = 3 ∧
    t.chg = { s.chg with hvHold := false } ∧ OnlyChanges { regs := true, fab := true, pwm := true, cnv := true, act := true, chg := true } s t) ∧
  (s.get F.CHG_B12.PHASE = 6 → 50 < battI → Runs (.acceptanceProbe battI battV) s fun t =>
    t.get F.CHG_B12.PHASE = (if battV < 1050 then 1 else 2) ∧ t.get F.CHG_B12.TIMER = 0 ∧ t.get F.CHG_B12.HALF_RATE = 0 ∧ t.resp = s.resp ∧
      OnlyChanges { regs := true, mem := true, resp := true, fab := true, whl := true, chg := true } s t) ∧
  (s.get F.CHG_B12.PHASE = 6 → battI ≤ 50 → Runs (.acceptanceProbe battI battV) s fun t =>
    t.get F.CHG_B12.PHASE = 6 ∧ t.chg = s.chg ∧ t.resp = s.resp ∧
      OnlyChanges { regs := true, mem := true, resp := true, fab := true, whl := true, chg := true } s t) ∧
  ((s.get F.CHG_B12.PHASE = 1 ∨ s.get F.CHG_B12.PHASE = 2 ∨ s.get F.CHG_B12.PHASE = 3) →
    120 * max 1 (s.get F.CHG_B12_CFG.SAFETY_T) ≤ s.get F.CHG_B12.TIMER → Runs .safetyTimerExpiry s fun t => t.get F.CHG_B12.PHASE = 5 ∧
      t.get F.CHG_B12.END_REASON = (if s.getB F.CHG_B12.HALF_RATE then 10 else 9) ∧
      t.sys.lastFault = (if s.getB F.CHG_B12.HALF_RATE then 0x0D0A else 0x0D09) ∧
        OnlyChanges { regs := true, sys := true, fab := true, kln := true, chg := true } s t) ∧
  (s.get F.CHG_PRE.PSTATE = 1 → chUsed s 2 = true → chActive s 2 = true → Runs .prechargeTimeout s fun t => t.get F.CHG_PRE.PSTATE = 4 ∧
    t.get F.CHG_PRE.FAIL = 1 ∧ t.chState 2 = 0 ∧ t.sys.lastFault = 0x0D20 ∧
      OnlyChanges { regs := true, sys := true, fab := true, pwm := true, cnv := true, kln := true, act := true } s t) ∧
  (s.get F.CHG_PRE.PSTATE = 2 → (s.chState 2 = 1 ∨ s.chState 2 = 2) → Runs .preHoldTimeout s fun t => t.chState 2 = 3 ∧
    t.chg = { s.chg with preStop := true } ∧ t.get F.CHG_PRE.PSTATE = 2 ∧
      OnlyChanges { regs := true, fab := true, pwm := true, cnv := true, act := true, chg := true } s t)

/-- A received frame is written into the ring at WR behind its header and lowers REC, and is counted as dropped where the ring has no
room; errors, integration, bus-off recovery, disabling, enabling, flushing and the drain time-out change STATE, the counters and
the queue as their rules say. (16_bus.md R454, 16_bus.md R459, 16_bus.md R460, 16_bus.md R469, 16_bus.md R470, 21_online_test.md
R564) -/
def Obligations.BusControllers : Prop :=
  ∀ (s : State) (n : Fin 4) (f : RxFrame) (m : Master) (dom : Bool),
  let b := fun (x : Bool) (k : Nat) => if x then k else 0
  let size := ringSize s n.val
  let wr := s.get F.CAN_RX_WR.WR n.val % size
  let at_ := ringBase s n.val + wr
  let len := 24 + pad8 f.payload.length
  let hdr := ringHeader s.fab.ts f.type.val f.id.toNat (b f.ide 8 + b f.brs 4 + b f.esi 2) f.payload.length
    (if f.type.val = 3 then f.sdt.toNat else 0) (if f.type.val = 3 then f.vcid.toNat else 0) (if f.type.val = 3 then f.af.toNat else 0) (b f.sec 1)
  let confined := fun (tec rec_ : Nat) (t : State) => t.get F.CAN_STAT.TEC n.val = min tec 255 ∧ t.get F.CAN_STAT.REC n.val = min rec_ 255 ∧
    canState t n.val = (if 128 ≤ tec ∨ 128 ≤ rec_ then 3 else 2)
  let stopped := fun (again : Bool) (t : State) => canState t n.val = (if again then 1 else 0) ∧ t.get F.CAN_CTL.DRAINING n.val = 0 ∧
    t.get F.CAN_STAT.TX_BUSY n.val = 0 ∧ t.can n.val = { s.can n.val with arb := false, late := false, local_ := none, enAfter := false }
  (canActive s n.val = true → s.getB F.CAN_CTL.DRAINING n.val = false → wr + len ≤ size → ringUsed s n.val + len + 8 < size →
    Runs (.frameReceived n f) s fun t => t.bytes at_ 24 = hdr ∧ t.bytes (at_ + 24) f.payload.length = f.payload ∧ BytesOnly at_ len s t ∧
      t.get F.CAN_RX_WR.WR n.val = (wr + len) % size ∧ t.get F.CAN_RX_RD.RD n.val = s.get F.CAN_RX_RD.RD n.val ∧
      (recCnt s n.val < 128 → confined (tec s n.val) (recCnt s n.val - 1) t) ∧
        OnlyChanges { regs := true, mem := true, sys := true, fab := true, kln := true, bus := true } s t) ∧
  (canActive s n.val = true → s.getB F.CAN_CTL.DRAINING n.val = false → size ≤ ringUsed s n.val + len + 8 → (s.can n.val).dropAt = none →
    Runs (.frameReceived n f) s fun t => t.mem = s.mem ∧ t.get F.CAN_RX_WR.WR n.val = s.get F.CAN_RX_WR.WR n.val ∧
      t.get F.CAN_CNT.RX_DROP n.val = min (s.get F.CAN_CNT.RX_DROP n.val + 1) 255 ∧ t.sys.lastFault = 0x1001 ∧
      (t.can n.val).dropAt = some s.fab.ts ∧ OnlyChanges { regs := true, mem := true, sys := true, fab := true, kln := true, bus := true } s t) ∧
  (canActive s n.val = true → Runs (.receiveError n dom) s fun t => confined (tec s n.val) (recCnt s n.val + if dom then 8 else 1) t ∧
    OnlyChanges { regs := true, sys := true, fab := true, kln := true, bus := true } s t) ∧
  (canActive s n.val = true → s.getB F.CAN_CTL.DRAINING n.val = false → Runs (.protocolException n) s fun t => t = s.set F.CAN_STAT.STATE 1 n.val) ∧
  (canActive s n.val = true → s.getB F.CAN_CTL.DRAINING n.val = true → Runs (.protocolException n) s fun t => stopped (s.can n.val).enAfter t ∧
    OnlyChanges { regs := true, fab := true, bus := true } s t) ∧
  (s.pdReady 9 = true → canState s n.val = 1 → s.getB F.CAN_CTL.DRAINING n.val = false → Runs (.busIntegrationDone n) s fun t =>
    confined (tec s n.val) (recCnt s n.val) t ∧ OnlyChanges { regs := true, sys := true, fab := true, kln := true, bus := true } s t) ∧
  (s.pdReady 9 = true → (canState s n.val = 4 ∨ canState s n.val = 5) → Runs (.busOffHoldEnd n) s fun t => t = s.set F.CAN_STAT.STATE 6 n.val) ∧
  (s.pdReady 9 = true → (canState s n.val = 4 ∨ canState s n.val = 6) → Runs (.busOffRecovered n) s fun t => confined 0 0 t ∧ t.bus = s.bus ∧
    OnlyChanges { regs := true, fab := true } s t) ∧
  (busWriter s m = true → s.getB F.CAN_CTL.EN n.val = true → (canState s n.val = 1 ∨ canState s n.val = 2 ∨ canState s n.val = 3) →
    Runs (.canDisable m n) s fun t => t.get F.CAN_CTL.EN n.val = 0 ∧ t.get F.CAN_CTL.DRAINING n.val = 1 ∧ canState t n.val = canState s n.val ∧
      t.can n.val = { s.can n.val with enAfter := false } ∧ t.resp = .done ∧ RegsOnly [F.CAN_CTL.EN.addr n.val 0 0] s t ∧
        OnlyChanges { regs := true, resp := true, fab := true, bus := true } s t) ∧
  (busWriter s m = true → s.getB F.CAN_CTL.EN n.val = true → (canState s n.val = 4 ∨ canState s n.val = 5 ∨ canState s n.val = 6) →
    Runs (.canDisable m n) s fun t => t.get F.CAN_CTL.EN n.val = 0 ∧ stopped false t ∧ t.resp = .done ∧
      OnlyChanges { regs := true, resp := true, fab := true, bus := true } s t) ∧
  (busWriter s m = true → s.getB F.CAN_CTL.EN n.val = false → inTest s n.val = false → s.getB F.CAN_CTL.DRAINING n.val = false →
    canState s n.val = 0 →
    Runs (.canEnable m n) s fun t => t.get F.CAN_CTL.EN n.val = 1 ∧ canState t n.val = 1 ∧ t.resp = .done ∧ t.bus = s.bus ∧
      RegsOnly [F.CAN_CTL.EN.addr n.val 0 0, F.CAN_STAT.STATE.addr n.val 0 0] s t ∧
        OnlyChanges { regs := true, resp := true, fab := true, bus := true } s t) ∧
  (busWriter s m = true → s.getB F.CAN_CTL.EN n.val = false → inTest s n.val = true → Runs (.canEnable m n) s fun t =>
    t.get F.CAN_CTL.EN n.val = 1 ∧ canState t n.val = canState s n.val ∧ (t.can n.val).enAfter = true ∧ t.resp = .done ∧
      OnlyChanges { regs := true, resp := true, fab := true, bus := true } s t) ∧
  (busWriter s m = true → Runs (.canFlush m n) s fun t =>
    (t.can n.val).queue = (if (s.can n.val).arb then (s.can n.val).queue.take 1 else []) ∧
    t.get F.CAN_TXQ_STAT.LEVEL n.val = (t.can n.val).queue.length ∧ t.resp = .done ∧ RegsOnly [F.CAN_TXQ_STAT.LEVEL.addr n.val 0 0] s t ∧
      OnlyChanges { regs := true, resp := true, bus := true } s t) ∧
  (busWriter s m = false → Runs (.canFlush m n) s fun t => t = busError s) ∧
  (s.pdReady 9 = true → s.getB F.CAN_CTL.DRAINING n.val = true → Runs (.canDrainTimeout n) s fun t => stopped (s.can n.val).enAfter t ∧
    OnlyChanges { regs := true, fab := true, bus := true } s t)

/-- A push of a master's own window appends the entry or, to a full queue, is refused with QFULL; the head's payload is fetched into
the local buffer, or the entry dropped with 0x1015; it takes part in arbitration from TX_AT on, late beyond LATE_TOL; a sent frame
leaves the queue and lowers TEC; a failed attempt counts, abandons the entry at RETRY_LIMIT and leads to bus-off at 256.
(16_bus.md R464, 16_bus.md R466, 16_bus.md R467, 16_bus.md R468, 16_bus.md R469) -/
def Obligations.BusTransmission : Prop :=
  ∀ (s : State) (m : Master) (n : Fin 4) (win : Fin 3) (w0 w1 w2 w3 : Word) (e : TxEntry) (r : List TxEntry) (passive : Bool),
  let q := (s.can n.val).queue
  let len := entryLen e + (if entryType e = 3 then 4 else 0)
  let a := e.w2.toNat
  let d := signed 32 ((s.ts32 + 2 ^ 32 - e.w3.toNat) % 2 ^ 32)
  let tol := 100 * (s.get F.REEL_CTL.LATE_TOL : Int)
  let c := min 255 (s.get F.CAN_TXQ_STAT.HEAD_RETRY n.val + 1)
  let lim := s.get F.CAN_CTL.RETRY_LIMIT n.val
  let tec' := tec s n.val + if passive then 0 else 8
  let popped := fun (t : State) => t.can n.val = { s.can n.val with queue := r, arb := false, late := false, local_ := none } ∧
    t.get F.CAN_TXQ_STAT.LEVEL n.val = r.length % 256 ∧ t.get F.CAN_TXQ_STAT.HEAD_RETRY n.val = 0 ∧ t.get F.CAN_STAT.TX_BUSY n.val = 0
  let counted := fun (f : Fld) (t : State) => t.get f n.val = min (s.get f n.val + 1) 255
  (s.pdReady 9 = true → windowOf win.val m = true → q.length < 128 → Runs (.txPush m n win w0 w1 w2 w3) s fun t =>
    t.can n.val = { s.can n.val with queue := q ++ [⟨w0, w1, w2, w3, none⟩] } ∧ t.get F.CAN_TXQ_STAT.LEVEL n.val = q.length + 1 ∧
    t.resp = .done ∧ RegsOnly [F.CAN_TXQ_STAT.LEVEL.addr n.val 0 0] s t ∧ OnlyChanges { regs := true, resp := true, fab := true, bus := true } s t) ∧
  (s.pdReady 9 = true → windowOf win.val m = true → 128 ≤ q.length → Runs (.txPush m n win w0 w1 w2 w3) s fun t => t.bus = s.bus ∧
    counted F.CAN_TXQ_STAT.QFULL t ∧ t.resp = .error ∧ OnlyChanges { regs := true, resp := true, fab := true, bus := true } s t) ∧
  (windowOf win.val m = false → Runs (.txPush m n win w0 w1 w2 w3) s fun t => t = busError s) ∧
  (canActive s n.val = true → s.getB F.CAN_CTL.DRAINING n.val = false → q = e :: r → (s.can n.val).local_ = none →
    (s.pdReady 8 = true → a % 8 = 0 → inSram a = true → inSram (a + len - 1) = true → (∀ i < (len + 7) / 8, s.poisoned (a + 8 * i) = false) →
      Runs (.txHeadFetch n) s fun t => (t.can n.val).local_ = some (s.bytes a len) ∧ (t.can n.val).queue = q ∧
        (t.can n.val).arb = (!entryAt e || (s.can n.val).arb) ∧ (entryAt e = false → t.get F.CAN_STAT.TX_BUSY n.val = 1) ∧
          OnlyChanges { regs := true, sys := true, kln := true, bus := true } s t) ∧
    (len ≠ 0 → a % 8 ≠ 0 ∨ inSram a = false → Runs (.txHeadFetch n) s fun t => popped t ∧ counted F.CAN_CNT.FETCH_ERR t ∧
      t.sys.lastFault = 0x1015 ∧ OnlyChanges { regs := true, sys := true, kln := true, bus := true } s t)) ∧
  (canActive s n.val = true → s.getB F.CAN_CTL.DRAINING n.val = false → q = e :: r → (s.can n.val).local_.isSome = true → (s.can n.val).arb = false →
    entryAt e = true →
    (d < 0 → Runs (.txEligible n) s fun t => t = s) ∧
    (0 ≤ d → d ≤ tol → Runs (.txEligible n) s fun t => t.can n.val = { s.can n.val with arb := true, late := false } ∧
      t.get F.CAN_STAT.TX_BUSY n.val = 1 ∧ RegsOnly [F.CAN_STAT.TX_BUSY.addr n.val 0 0] s t ∧
        OnlyChanges { regs := true, fab := true, bus := true } s t) ∧
    (0 ≤ d → tol < d → e.w1.getLsbD 28 = false → Runs (.txEligible n) s fun t => t.can n.val = { s.can n.val with arb := true, late := true } ∧
      t.get F.CAN_STAT.TX_BUSY n.val = 1 ∧ OnlyChanges { regs := true, fab := true, bus := true } s t) ∧
    (0 ≤ d → tol < d → e.w1.getLsbD 28 = true → Runs (.txEligible n) s fun t => popped t ∧ counted F.CAN_CNT.LATE_DROP t ∧
      OnlyChanges { regs := true, fab := true, bus := true } s t)) ∧
  (canActive s n.val = true → s.getB F.CAN_CTL.DRAINING n.val = false → q = e :: r → (s.can n.val).arb = true →
    s.getB F.CAN_CTL.OWN_ECHO n.val = false →
    (Runs (.txFrameSent n) s fun t => popped t ∧ t.get F.CAN_STAT.TEC n.val = tec s n.val - 1 ∧
      canState t n.val = (if 128 ≤ tec s n.val - 1 ∨ 128 ≤ recCnt s n.val then 3 else 2) ∧ t.mem = s.mem ∧
        OnlyChanges { regs := true, mem := true, sys := true, fab := true, kln := true, bus := true } s t) ∧
    (lim ≠ 0 → lim ≤ c → tec' < 256 → Runs (.txAttemptError n passive) s fun t => popped t ∧ counted F.CAN_CNT.ABANDON t ∧
      t.get F.CAN_STAT.TEC n.val = tec' ∧ t.sys.lastFault = 0x1002 ∧
        OnlyChanges { regs := true, mem := true, sys := true, fab := true, kln := true, bus := true } s t) ∧
    ((lim = 0 ∨ c < lim) → tec' < 256 → Runs (.txAttemptError n passive) s fun t => t.bus = s.bus ∧ t.get F.CAN_TXQ_STAT.HEAD_RETRY n.val = c ∧
      t.get F.CAN_STAT.TEC n.val = tec' ∧ canState t n.val = (if 128 ≤ tec' ∨ 128 ≤ recCnt s n.val then 3 else 2) ∧
        OnlyChanges { regs := true, mem := true, sys := true, fab := true, kln := true, bus := true } s t) ∧
    ((lim = 0 ∨ c < lim) → 256 ≤ tec' → Runs (.txAttemptError n passive) s fun t => (t.can n.val).queue = q ∧
      canState t n.val = (if s.get F.CAN_CTL.BO_HOLD n.val = 0 then 4 else 5) ∧ counted F.CAN_STAT.BO_CNT t ∧
      t.get F.CAN_STAT.TX_BUSY n.val = 0 ∧ t.sys.lastFault = 0x1003 ∧
        OnlyChanges { regs := true, mem := true, sys := true, fab := true, kln := true, bus := true } s t))

/-- A run passes the record at the read pointer: without a token it is counted as a flood, secured and not accepted as an
authentication failure, dropped it is marked alone, delivered it fills one place of the pair's mailbox, and an accepted freshness
value becomes the last one; an overrun counts, and at OVR_N, or by a trap, resets Reel; a reset ends in RUN, the third in STOPPED;
a status frame is pushed for its instant, or counted as skipped while the previous one waits. (16_bus.md R461, 16_bus.md R462,
16_bus.md R463, 16_bus.md R472, 16_bus.md R476, 16_bus.md R477, 16_bus.md R478) -/
def Obligations.ReelRuns : Prop :=
  ∀ (s : State) (n : Fin 4) (r : ReelRun) (off : Nat) (how : ReelEnd) (d : Fin 32) (x : TxDef) (c : Nat),
  let p := s.sys.cfg.reel.rx.getD r.dfn.val {}
  let last := SMap.get 0 s.bus.reel.last r.dfn.val
  let token := (takeToken r.cls.val s).1
  let passed := fun (t : State) => t.get F.CAN_RX_RD.RD n.val = (off + 24 + pad8 (recordLen s n.val off)) % ringSize s n.val
  let marked := fun (t : State) => BytesOnly (ringBase s n.val + off + 0x16) 2 s t
  let resets := min 3 (s.get F.REEL_CTL.RESETS + 1)
  let ready := s.pdReady 9 = true ∧ s.get F.REEL_CTL.RUN = 0 ∧ s.get F.REEL_CTL.STOPPED = 0
  (reelRuns s = true → ringNext s n.val = some off →
    (token = false → s.bus.reel.floodAt = none → Runs (.reelRecordRun n r) s fun t => passed t ∧ marked t ∧
      t.get F.REEL_STAT2.FLOOD_CNT = min (s.get F.REEL_STAT2.FLOOD_CNT + 1) 255 ∧ t.sys.lastFault = 0x1013 ∧
        OnlyChanges { regs := true, mem := true, sys := true, fab := true, kln := true, bus := true } s t) ∧
    (token = true → p.secured = true → r.macOk = false → Runs (.reelRecordRun n r) s fun t => passed t ∧ marked t ∧
      t.get F.REEL_STAT.AUTH_FAIL_CNT = min (s.get F.REEL_STAT.AUTH_FAIL_CNT + 1) 255 ∧
      SMap.get 0 t.bus.reel.authRun r.dfn.val = SMap.get 0 s.bus.reel.authRun r.dfn.val + 1 ∧ t.bus.reel.last = s.bus.reel.last ∧
      t.bus.reel.mbxN = s.bus.reel.mbxN ∧ OnlyChanges { regs := true, mem := true, sys := true, fab := true, kln := true, bus := true } s t) ∧
    (token = true → p.secured = false → r.outcome = 1 → Runs (.reelRecordRun n r) s fun t => passed t ∧ marked t ∧
      t.bus.reel.mbxN = s.bus.reel.mbxN ∧ t.bus.can = s.bus.can ∧
        OnlyChanges { regs := true, mem := true, sys := true, fab := true, kln := true, bus := true } s t) ∧
    (token = true → p.secured = false → r.outcome = 0 → ringHigh s n.val = false → SMap.get 0 s.bus.reel.mbxN r.pair.val < 256 →
      Runs (.reelRecordRun n r) s fun t => SMap.get 0 t.bus.reel.mbxN r.pair.val = SMap.get 0 s.bus.reel.mbxN r.pair.val + 1 ∧
        SMap.get 0 t.bus.reel.mbxW r.pair.val = SMap.get 0 s.bus.reel.mbxW r.pair.val + 1 ∧
          OnlyChanges { regs := true, mem := true, sys := true, fab := true, kln := true, bus := true } s t) ∧
    (token = true → p.secured = true → r.macOk = true → last < r.fresh → r.fresh ≤ last + p.freshWin → r.fresh ≤ 0xFFFFFFFF →
      Runs (.reelRecordRun n r) s fun t => SMap.get 0 t.bus.reel.last r.dfn.val = r.fresh ∧ SMap.get 0 t.bus.reel.authRun r.dfn.val = 0 ∧
        OnlyChanges { regs := true, mem := true, sys := true, fab := true, kln := true, bus := true } s t) ∧
    (Runs (.reelOverrun n .wcet) s fun t => passed t ∧ marked t ∧ t.get F.REEL_STAT.OVR_CNT = min (s.get F.REEL_STAT.OVR_CNT + 1) 255 ∧
      (s.bus.reel.ovrRun + 1 < max 1 (s.get F.REEL_CFG.OVR_N) → t.bus.reel = { s.bus.reel with ovrRun := s.bus.reel.ovrRun + 1 } ∧
        t.get F.REEL_CTL.RUN = 1) ∧
      (max 1 (s.get F.REEL_CFG.OVR_N) ≤ s.bus.reel.ovrRun + 1 → t.get F.REEL_CTL.RUN = 0 ∧ t.get F.REEL_CTL.RESETS = resets) ∧
        OnlyChanges { regs := true, mem := true, fab := true, tnd := true, upd := true, bus := true } s t)) ∧
  (reelRuns s = true → how ≠ .wcet → Runs (.reelOverrun n how) s fun t => t.get F.REEL_CTL.RUN = 0 ∧ t.get F.REEL_CTL.RESETS = resets ∧
    t.bus = s.bus ∧ OnlyChanges { regs := true, mem := true, fab := true, tnd := true, upd := true, bus := true } s t) ∧
  (ready → s.get F.REEL_CTL.RESETS ≠ 0 → s.get F.REEL_CTL.RESETS < 3 → Runs .reelResetDone s fun t => t.get F.REEL_CTL.RUN = 1 ∧
    t.get F.REEL_CTL.STOPPED = 0 ∧ t.sys.lastFault = 0x1004 ∧ RegsOnly [F.REEL_CTL.RUN.addr 0 0 0] s t ∧
      OnlyChanges { regs := true, sys := true, kln := true } s t) ∧
  (ready → s.get F.REEL_CTL.RESETS = 3 → Runs .reelResetDone s fun t => t.get F.REEL_CTL.RUN = 0 ∧ t.get F.REEL_CTL.STOPPED = 1 ∧
    t.sys.lastFault = 0x1005 ∧ RegsOnly [F.REEL_CTL.RUN.addr 0 0 0] s t ∧ OnlyChanges { regs := true, sys := true, kln := true } s t) ∧
  (reelRuns s = true → s.sys.cfg.reel.tx[d.val]? = some x → x.event = none → defCtrl s x = some c →
    ((s.can c).queue.any (fun e => e.dfn == some d.val) = true → Runs (.statusFrameDue d) s fun t =>
      t = s.setReel { s.bus.reel with skips := SMap.put 0 s.bus.reel.skips d.val (SMap.get 0 s.bus.reel.skips d.val + 1) }) ∧
    ((s.can c).queue.any (fun e => e.dfn == some d.val) = false → (s.can c).queue.length < 128 → x.secured = false →
      Runs (.statusFrameDue d) s fun t => (∃ e, (t.can c).queue = (s.can c).queue ++ [e] ∧ e.w0 = x.w0 ∧ e.w2 = BitVec.ofNat 32 x.buf ∧
          e.w3 = BitVec.ofNat 32 s.ts32 ∧ e.dfn = some d.val ∧ entryAt e = true) ∧
        (x.stat0 = true → t.bus.reel.beat = (s.bus.reel.beat + 1) % 256 ∧ t.bus.reel.lostSeen = false) ∧
          OnlyChanges { regs := true, mem := true, sys := true, fab := true, kln := true, bus := true } s t))

/-- Losing XIN puts every PLL into holdover with 0x1112; an unlock puts one into holdover with 0x1113; the second bad window in a row
sets FREQ_ERR with 0x1114; a token period beyond 8 % sets TOKEN_ERR with 0x1115; a relock runs only where R530 permits it and ends
with its mask; a stale crossing sets its bits with 0x1116, but for TCK; a read of CLK_TS_LO copies the upper half into CLK_TS_HI.
(19_clocks_crossings.md R526, 19_clocks_crossings.md R527, 19_clocks_crossings.md R528, 19_clocks_crossings.md R529,
19_clocks_crossings.md R530, 19_clocks_crossings.md R531, 19_clocks_crossings.md R536) -/
def Obligations.ClockMonitors : Prop :=
  ∀ (s : State) (p : Fin 4) (count : Nat) (period : BitVec 16) (m : Master) (mask : BitVec 4) (c : ClockSrc),
  let n := pllNominal p.val
  let bad := n < 100 * ((count : Int) - n).natAbs
  let was := SMap.get 0 s.fab.badWin p.val
  let left := putBit s.fab.relocking p.val false
  let code := fun (k : Nat) (t : State) => t.get F.CLK_STAT.LAST_CODE = k ∧ t.sys.lastFault = k
  (clocksUp s = true → s.getB F.CLK_STAT.XIN_OK = true → Runs .xinLoss s fun t => t.get F.CLK_STAT.XIN_OK = 0 ∧ t.get F.CLK_STAT.XIN_LOST = 1 ∧
    t.get F.CLK_STAT.LOCK = 0 ∧ t.get F.CLK_STAT.HOLDOVER = 15 ∧ code 0x1112 t ∧
      OnlyChanges { regs := true, sys := true, fab := true, kln := true } s t) ∧
  (clocksUp s = true → s.bit F.CLK_STAT.LOCK p.val = true → Runs (.pllUnlock p) s fun t => code 0x1113 t ∧
    (∀ q : Fin 4, t.bit F.CLK_STAT.LOCK q.val = (s.bit F.CLK_STAT.LOCK q.val && q != p) ∧
      t.bit F.CLK_STAT.HOLDOVER q.val = (s.bit F.CLK_STAT.HOLDOVER q.val || q == p)) ∧
        OnlyChanges { regs := true, sys := true, fab := true, kln := true } s t) ∧
  (clocksUp s = true → ¬ bad → Runs (.pllFrequencyWindow p count) s fun t => SMap.get 0 t.fab.badWin p.val = 0 ∧ t.regs = s.regs ∧
    OnlyChanges { regs := true, sys := true, fab := true, kln := true } s t) ∧
  (clocksUp s = true → bad → was = 0 → Runs (.pllFrequencyWindow p count) s fun t => SMap.get 0 t.fab.badWin p.val = 1 ∧ t.regs = s.regs ∧
    OnlyChanges { regs := true, sys := true, fab := true, kln := true } s t) ∧
  (clocksUp s = true → bad → was = 1 → Runs (.pllFrequencyWindow p count) s fun t => SMap.get 0 t.fab.badWin p.val = 2 ∧
    t.bit F.CLK_STAT.FREQ_ERR p.val = true ∧ code 0x1114 t ∧ OnlyChanges { regs := true, sys := true, fab := true, kln := true } s t) ∧
  (clocksUp s = true → s.sys.linkUp = true → ((period.toNat : Int) - 5000).natAbs ≤ 400 → Runs (.tokenPeriodCheck period) s fun t =>
    t = s.set F.CLK_TOKEN.TOKEN_PER period.toNat) ∧
  (clocksUp s = true → s.sys.linkUp = true → 400 < ((period.toNat : Int) - 5000).natAbs → Runs (.tokenPeriodCheck period) s fun t =>
    t.get F.CLK_TOKEN.TOKEN_PER = period.toNat ∧ t.get F.CLK_STAT.TOKEN_ERR = 1 ∧ code 0x1115 t ∧
      OnlyChanges { regs := true, sys := true, fab := true, kln := true } s t) ∧
  (s.regWriter m = true → s.pdReady 8 = true → mask ≠ 0 → relockOk s = true → Runs (.pllRelock m mask) s fun t =>
    t.get F.CLK_CFG.RELOCK_BUSY = mask.toNat ∧ t.fab.relocking = mask.toNat ∧ t.olt.test = some (4, lowestBit mask.toNat) ∧
    t.get F.DBG_OLT_REQ.BUSY = 1 ∧ t.resp = .done ∧ RegsOnly [F.CLK_CFG.RELOCK_BUSY.addr 0 0 0, F.DBG_OLT_REQ.BUSY.addr 0 0 0] s t ∧
      OnlyChanges { regs := true, resp := true, fab := true, olt := true } s t) ∧
  (s.regWriter m = true → s.pdReady 8 = true → mask ≠ 0 → relockOk s = false → Runs (.pllRelock m mask) s fun t =>
    t = (s.set F.CLK_STAT.RELOCK_REF 1).answer .done) ∧
  (s.fab.relocking.testBit p.val = true → s.get F.CLK_STAT.HOLDOVER = 0 → Runs (.pllRelockDone p true) s fun t => t.fab.relocking = left ∧
    t.get F.CLK_CFG.RELOCK_BUSY = left % 16 ∧ (left ≠ 0 → t.olt = s.olt) ∧
    (left = 0 → t.olt.test = none ∧ t.get F.DBG_OLT_REQ.BUSY = 0 ∧ t.get F.DBG_OLT_REQ.RESULT = 0) ∧
      OnlyChanges { regs := true, sys := true, fab := true, kln := true, olt := true } s t) ∧
  (s.fab.relocking.testBit p.val = true → clocksUp s = true → s.bit F.CLK_STAT.LOCK p.val = true → Runs (.pllRelockDone p false) s fun t =>
    t.fab.relocking = left ∧ t.bit F.CLK_STAT.LOCK p.val = false ∧ t.bit F.CLK_STAT.HOLDOVER p.val = true ∧ code 0x1113 t ∧
    (left = 0 → t.olt.test = none ∧ t.get F.DBG_OLT_REQ.RESULT = 1) ∧
      OnlyChanges { regs := true, sys := true, fab := true, kln := true, olt := true } s t) ∧
  (s.pdOn 8 = true → s.bit F.CDC_STALE.STALE c.val = false → (s.pdReady 7 = false ∨ sampledBy c.val = []) → Runs (.crossingStale c) s fun t =>
    t.bit F.CDC_STALE.STALE c.val = true ∧ t.bit F.CDC_STALE.STALE_SEEN c.val = true ∧
    t.sys.lastFault = (if c.val = 7 then s.sys.lastFault else 0x1116) ∧ RegsOnly [F.CDC_STALE.STALE.addr 0 0 0] s t ∧
      OnlyChanges { regs := true, sys := true, fab := true, pwm := true, cnv := true, fly := true, kln := true, act := true } s t) ∧
  (s.pdOn 8 = true → s.bit F.CDC_STALE.STALE c.val = true → Runs (.crossingRecovered c) s fun t =>
    t.bit F.CDC_STALE.STALE c.val = false ∧ t.get F.CDC_STALE.STALE_SEEN = s.get F.CDC_STALE.STALE_SEEN ∧
    (s.pdReady 7 = true → ∀ k ∈ sampledBy c.val, t.get F.FLY_SRC_STAT.STALE k = 0) ∧ RegsOf [F.CDC_STALE.STALE, F.FLY_SRC_STAT.STALE] s t ∧
      OnlyChanges { regs := true } s t) ∧
  (regReader s m 0x30010010 = true → s.pdReady 8 = true → Runs (.tsLoRead m) s fun t =>
    t.get F.CLK_TS_HI.TS_HI = s.fab.ts / 2 ^ 32 % 2 ^ 32 ∧ t.resp = .data s.ts32 ∧ RegsOnly [F.CLK_TS_HI.TS_HI.addr 0 0 0] s t ∧
      OnlyChanges { regs := true, resp := true } s t) ∧
  (regReader s m 0x30010010 = false → Runs (.tsLoRead m) s fun t => t = busError s)

/-- The end of a grant drops the level to L0 with cause 3 and a failed condition of L2 to L1 with cause 2; a halt at L2 or L3 stops a
split pair's core alone and a checked pair as a whole, and a resume starts it again, a pair through RESYNC; Reel is halted and
resumed alike; IDCODE, BYPASS, SAMPLE/PRELOAD and EXTEST select their registers and drive balls as their rules say.
(17_security_debug.md R494, 17_security_debug.md R495, 17_security_debug.md R497, 17_security_debug.md R500, 17_security_debug.md
R501, 17_security_debug.md R502, 17_security_debug.md R503, 17_security_debug.md R504, 15_safety.md R412) -/
def Obligations.DebugAndJtag : Prop :=
  ∀ (s : State) (m : Master) (c : Fin 4) (p : Fin 2) (pins : List (Fin 64 × Bool)),
  let q := c.val / 2
  let partner := 2 * q + (1 - c.val % 2)
  let writer := haltWriter s m = true
  let revoked := fun (level cause : Nat) (t : State) => t.dbgLevel = level ∧ t.get F.DBG_STAT.LEFT = 0 ∧ t.get F.DBG_STAT.REVOKED = 1 ∧
    t.get F.DBG_STAT.REVOKE_CAUSE = cause ∧ t.tnd.expiry = false ∧ t.xcp.connected = false
  (s.tnd.expiry = true → s.dbgLevel ≠ 0 → Runs .debugLifetimeExpiry s fun t => revoked 0 3 t ∧
    OnlyChanges { regs := true, fab := true, spx := true, tnd := true, xcp := true } s t) ∧
  (s.dbgLevel = 2 → l2Cond s = false → Runs .l2ConditionLoss s fun t => revoked 1 2 t ∧
    OnlyChanges { regs := true, fab := true, spx := true, tnd := true, xcp := true } s t) ∧
  (writer → s.pdReady (2 + q) = true → s.bit F.DBG_HALT.HALT c.val = false → s.get F.SPX_STAT.STATE q = 5 → Runs (.coreHalt m c) s fun t =>
    (∀ k : Fin 4, t.bit F.DBG_HALT.HALT k.val = (s.bit F.DBG_HALT.HALT k.val || k == c) ∧
      t.bit F.DBG_HALT.HALTED k.val = (s.bit F.DBG_HALT.HALTED k.val || k == c)) ∧ t.resp = .done ∧ t.spx = s.spx ∧
        OnlyChanges { regs := true, resp := true, fab := true, spx := true } s t) ∧
  (writer → s.pdReady (2 + q) = true → s.bit F.DBG_HALT.HALT c.val = false → s.get F.SPX_STAT.STATE q = 0 → Runs (.coreHalt m c) s fun t =>
    t.get F.SPX_STAT.STATE q = 6 ∧ (t.pairSt q).halt = min (s.pairSt q).buf0.length (s.pairSt q).buf1.length ∧
    t.bit F.DBG_HALT.HALT c.val = true ∧ t.bit F.DBG_HALT.HALT partner = false ∧ t.bit F.DBG_HALT.HALTED c.val = true ∧
    t.bit F.DBG_HALT.HALTED partner = true ∧ t.resp = .done ∧ OnlyChanges { regs := true, resp := true, fab := true, spx := true } s t) ∧
  (writer → s.bit F.DBG_HALT.HALT c.val = true → s.get F.SPX_STAT.STATE q = 5 → Runs (.coreResume m c) s fun t =>
    t.bit F.DBG_HALT.HALT c.val = false ∧ t.bit F.DBG_HALT.HALTED c.val = false ∧ t.bit F.DBG_HALT.HALT partner = s.bit F.DBG_HALT.HALT partner ∧
    t.resp = .done ∧ t.spx = s.spx ∧ OnlyChanges { regs := true, resp := true, fab := true, spx := true } s t) ∧
  (writer → s.bit F.DBG_HALT.HALT c.val = true → s.bit F.DBG_HALT.HALT partner = false → s.get F.SPX_STAT.STATE q = 6 → s.pdReady (2 + q) = true →
    Runs (.coreResume m c) s fun t => t.get F.SPX_STAT.STATE q = 2 ∧ t.bit F.DBG_HALT.HALT c.val = false ∧
      t.bit F.DBG_HALT.HALTED c.val = false ∧ t.bit F.DBG_HALT.HALTED partner = false ∧ (t.pairSt q).buf1 = [] ∧ t.resp = .done ∧
        OnlyChanges { regs := true, resp := true, fab := true, spx := true } s t) ∧
  (writer → Runs (.reelHalt m) s fun t => t.getB F.DBG_HALT.HALT_REEL = true ∧
    (s.getB F.DBG_HALT.HALT_REEL = false → t.getB F.DBG_HALT.REEL_HALTED = true) ∧ t.get F.DBG_HALT.HALT = s.get F.DBG_HALT.HALT ∧ t.resp = .done ∧
      OnlyChanges { regs := true, resp := true, fab := true } s t) ∧
  (writer → Runs (.reelResume m) s fun t => t.getB F.DBG_HALT.HALT_REEL = false ∧
    (s.getB F.DBG_HALT.HALT_REEL = true → t.getB F.DBG_HALT.REEL_HALTED = false) ∧ t.get F.DBG_HALT.HALT = s.get F.DBG_HALT.HALT ∧ t.resp = .done ∧
      OnlyChanges { regs := true, resp := true, fab := true } s t) ∧
  (haltWriter s m = false → Runs (.reelHalt m) s (fun t => t = busError s) ∧ Runs (.coreHalt m c) s (fun t => t = busError s)) ∧
  (s.sys.trans.isSome = true → s.get F.SPX_STAT.STATE p.val = 2 → s.pdReady (2 + p.val) = true → Runs (.resyncTimeout p) s fun t =>
    t.get F.SPX_STAT.LAST_CODE p.val = 0x0403 ∧ t.pairSt p.val = {} ∧
    t.get F.SPX_STAT.RESETS p.val = min 3 (s.get F.SPX_STAT.RESETS p.val + 1) ∧
    t.get F.SPX_STAT.STATE p.val = (if s.get F.SPX_STAT.RESETS p.val < 2 then 4 else 3) ∧
      OnlyChanges { regs := true, sys := true, fab := true, kln := true, spx := true, sup := true, chg := true, tnd := true, upd := true, xcp := true } s t) ∧
  ((vddIoOk s = true ∨ s.mode = 0) → Runs .idcode s fun t => t = { s with olt := { s.olt with jtagReg := 1, jtagOut := Config.idcode, extest := [] } }) ∧
  ((vddIoOk s = true ∨ s.mode = 0) → Runs .bypass s fun t => t = { s with olt := { s.olt with jtagReg := 0, jtagOut := 0, extest := [] } }) ∧
  (vddIoOk s = true → s.mode ≠ 0 → lifecycle s ≠ 4 → Runs .samplePreload s fun t =>
    t = { s with olt := { s.olt with jtagReg := 2, jtagOut := Config.ballLevels s.fab.ts, extest := [] } }) ∧
  (vddIoOk s = true → s.mode ≠ 0 → ((s.dbgLevel = 3 ∧ l2Cond s = true) ∨ lifecycle s = 0) → Runs (.extest pins) s fun t =>
    t = { s with olt := { s.olt with jtagReg := 2, jtagOut := 0, extest := pins.map (fun e => (e.1.val, e.2)) } })

/-- A request of a checked output or of debug at L3 begins its test while none runs and its conditions hold, and is refused with
REQ_REF otherwise; a test's end writes RESULT, and a failed march 0x1402 or logic test 0x1401; a loopback test begins on a
controller whose EN is clear and, failed, fails the controller with 0x1014; a failed slice issues 0x1403. (21_online_test.md R564,
21_online_test.md R565, 21_online_test.md R566, 21_online_test.md R567, 21_online_test.md R568, 21_online_test.md R569) -/
def Obligations.OnlineTests : Prop :=
  ∀ (s : State) (m : Master) (p : Fin 2) (b : Fin 16) (w : Fin 8) (k n : Fin 4) (ok : Bool) (ws : List Nat) (mask : BitVec 4) (v : Word),
  let asks := s.regWriter m = true ∧ s.pdReady 8 = true ∧ (checkedOutput m = true ∨ m = .debug) ∧ s.olt.test = none ∧ s.get F.DBG_OLT_REQ.BUSY = 0
  let begun := fun (kind target : Nat) (t : State) => t.olt = { s.olt with test := some (kind, target) } ∧ t.get F.DBG_OLT_REQ.BUSY = 1 ∧
    t.resp = .done
  let req := [F.DBG_OLT_REQ.BUSY.addr 0 0 0]
  let ended := fun (r : Nat) (t : State) => t.olt.test = none ∧ t.get F.DBG_OLT_REQ.BUSY = 0 ∧ t.get F.DBG_OLT_REQ.RESULT = r
  (asks → logicTestOk s p.val = true → Runs (.logicSelfTest m p) s fun t => t.olt = { s.olt with test := some (1, p.val), logicTs := s.fab.ts } ∧
    t.get F.DBG_OLT_REQ.BUSY = 1 ∧ t.resp = .done ∧ t.get F.SPX_STAT.STATE p.val = 3 ∧ t.pairSt p.val = {} ∧
    RegsOnly (F.SPX_STAT.STATE.addr p.val 0 0 :: req) s t ∧
      OnlyChanges { regs := true, resp := true, spx := true, sup := true, chg := true, xcp := true, olt := true } s t) ∧
  (asks → atRest s = true → Runs (.sramMarch m b) s fun t => begun 2 b.val t ∧ RegsOnly req s t ∧
    OnlyChanges { regs := true, resp := true, olt := true } s t) ∧
  (asks → atRest s = false → Runs (.sramMarch m b) s fun t => t = (s.set F.DBG_OLT_REQ.REQ_REF 1).answer .done) ∧
  (asks → whorlMarchOk s w.val = true → Runs (.whorlMarch m w) s fun t => begun 3 w.val t ∧ RegsOnly req s t ∧
    OnlyChanges { regs := true, resp := true, olt := true } s t) ∧
  (asks → relockOk s = true → Runs (.oltPllRelock m k) s fun t => begun 4 k.val t ∧ t.get F.CLK_CFG.RELOCK_BUSY = 2 ^ k.val ∧
    t.fab.relocking = 2 ^ k.val ∧ OnlyChanges { regs := true, resp := true, fab := true, olt := true } s t) ∧
  (asks → (s.mode = 1 ∨ s.mode = 2 ∨ s.mode = 7) → s.pdReady 1 = true → s.tnd.serving = none → Runs (.oltTinderSelfTest m ok) s fun t =>
    begun 5 (if ok then 0 else 1) t ∧ RegsOnly req s t ∧ OnlyChanges { regs := true, resp := true, olt := true } s t) ∧
  (s.pdReady 8 = true → s.olt.test = some (2, b.val) → Runs (.oltTestDone .pass) s fun t => ended 0 t ∧ t.sys = s.sys ∧ t.mem = s.mem ∧
    OnlyChanges { regs := true, sys := true, fab := true, whl := true, pwm := true, cnv := true, kln := true, spx := true, sup := true, act := true, chg := true, tnd := true, upd := true, xcp := true, olt := true } s t) ∧
  (s.pdReady 8 = true → s.olt.test = some (2, b.val) → Runs (.oltTestDone (.fail ws)) s fun t => ended 1 t ∧
    t.get F.DBG_OLT_STAT.FAIL_CNT = min (s.get F.DBG_OLT_STAT.FAIL_CNT + 1) 255 ∧ t.sys.lastFault = 0x1402 ∧
    (∀ x ∈ ws, t.poisoned (0x10000000 + b.val * 0x100000 + x % 0x100000) = true) ∧
      OnlyChanges { regs := true, sys := true, fab := true, whl := true, pwm := true, cnv := true, kln := true, spx := true, sup := true, act := true, chg := true, tnd := true, upd := true, xcp := true, olt := true } s t) ∧
  (s.pdReady 8 = true → s.olt.test = some (1, p.val) → Runs (.oltTestDone (.fail ws)) s fun t => ended 1 t ∧ t.get F.SPX_STAT.STATE p.val = 3 ∧
    t.sys.lastFault = 0x1401 ∧ OnlyChanges { regs := true, sys := true, fab := true, whl := true, pwm := true, cnv := true, kln := true, spx := true, sup := true, act := true, chg := true, tnd := true, upd := true, xcp := true, olt := true } s t) ∧
  (s.pdReady 8 = true → s.olt.test = some (1, p.val) → Runs (.oltTestDone .pass) s fun t => ended 0 t ∧ t.get F.SPX_STAT.STATE p.val = 4 ∧
    t.pairSt p.val = {} ∧ OnlyChanges { regs := true, sys := true, fab := true, whl := true, pwm := true, cnv := true, kln := true, spx := true, sup := true, act := true, chg := true, tnd := true, upd := true, xcp := true, olt := true } s t) ∧
  (s.pdReady 8 = true → s.pdReady 9 = true → s.sys.released = true → s.getB F.CAN_CTL.EN n.val = false → canState s n.val ≠ 7 →
    Runs (.canLoopbackTest n) s fun t => (∀ j : Fin 4, t.bit F.DBG_OLT_CAN.IN_TEST j.val = (s.bit F.DBG_OLT_CAN.IN_TEST j.val || j == n)) ∧
      RegsOnly [F.DBG_OLT_CAN.IN_TEST.addr 0 0 0] s t ∧ OnlyChanges { regs := true } s t) ∧
  (s.regWriter m = true → s.pdReady 8 = true → s.pdReady 9 = true → Runs (.canTestRequest m mask) s fun t =>
    (∀ j : Fin 4, t.bit F.DBG_OLT_CAN.IN_TEST j.val = (s.bit F.DBG_OLT_CAN.IN_TEST j.val || (mask.getLsbD j.val && !s.getB F.CAN_CTL.EN j.val))) ∧
    ((∃ j : Fin 4, mask.getLsbD j.val = true ∧ s.getB F.CAN_CTL.EN j.val = true) → t.get F.DBG_OLT_REQ.REQ_REF = 1) ∧ t.resp = .done ∧
    RegsOnly (F.DBG_OLT_CAN.IN_TEST.addr 0 0 0 :: req) s t ∧ OnlyChanges { regs := true, resp := true } s t) ∧
  (s.regWriter m = true → s.pdReady 8 = true → checkedOutput m = true → v.getLsbD 0 = true → Runs (.swSliceResult m v) s fun t =>
    t = (s.set F.DBG_OLT_SW.SW_CLASS (getBits v 3 1)).answer .done) ∧
  (s.regWriter m = true → s.pdReady 8 = true → checkedOutput m = true → v.getLsbD 0 = false → Runs (.swSliceResult m v) s fun t =>
    t.get F.DBG_OLT_SW.SW_CLASS = getBits v 3 1 ∧ t.sys.lastFault = 0x1403 ∧ t.resp = .done ∧
      OnlyChanges { regs := true, resp := true, sys := true, kln := true } s t) ∧
  (s.regWriter m = true → s.pdReady 8 = true → checkedOutput m = false → Runs (.swSliceResult m v) s fun t => t = s.answer .done) ∧
  (s.pdReady 8 = true → s.pdReady 9 = true → s.bit F.DBG_OLT_CAN.IN_TEST n.val = true →
    (Runs (.loopbackTestEnd n true) s fun t => t.bit F.DBG_OLT_CAN.IN_TEST n.val = false ∧ (t.can n.val).enAfter = false ∧
      canState t n.val = (if (s.can n.val).enAfter = true ∧ s.getB F.CAN_CTL.EN n.val = true ∧ canState s n.val = 0 then 1 else canState s n.val) ∧
        OnlyChanges { regs := true, sys := true, fab := true, kln := true, bus := true } s t) ∧
    (canState s n.val ≠ 7 → Runs (.loopbackTestEnd n false) s fun t => t.bit F.DBG_OLT_CAN.IN_TEST n.val = false ∧
      t.bit F.DBG_OLT_CAN.LAST_FAIL n.val = true ∧ canState t n.val = 7 ∧ t.get F.DBG_OLT_STAT.CAN_ALT = 1 ∧
      t.bus.reel.moved = s.bus.reel.moved ++ [n.val] ∧ t.sys.lastFault = 0x1014 ∧
        OnlyChanges { regs := true, sys := true, fab := true, kln := true, bus := true } s t))

/-- While a pair is checked a core's store waits in its buffer and a checkpoint record too; two equal records leave the buffers and an
output is performed once through the pair's port; records that differ, or one that waits too long, fault the pair with 0x0402 or
0x0403, and it resets or, the third time, stays halted; an input is performed once and given to both cores; a failed comparator
test leaves the pair unchecked with 0x0404; the reset's end starts both cores or halts them with 0x0409. (15_safety.md R407,
15_safety.md R408, 15_safety.md R410, 15_safety.md R411, 15_safety.md R413, 15_safety.md R414, 15_safety.md R415, 15_safety.md
R417, 15_safety.md R419) -/
def Obligations.LockstepPairs : Prop :=
  ∀ (s : State) (c : Fin 4) (st : CoreStore) (x : WriteCtx) (p : Fin 2) (r0 r1 : PRec) (b0 b1 : List PRec) (lag : Fin 2048) (addr : Word)
    (size : Fin 9) (synd : Syndrome) (value : Word) (sig : BitVec 64) (ev : Fin 256) (count : Nat),
  let q := c.val / 2
  let y := s.pairSt q
  let z := s.pairSt p.val
  let put := fun (r : PRec) => if c.val % 2 = 0 then { y with buf0 := y.buf0 ++ [r] } else { y with buf1 := y.buf1 ++ [r] }
  let a := st.addr.toNat
  let v := st.value.toNat % 2 ^ (8 * st.size.val)
  let checked := s.get F.SPX_STAT.STATE p.val = 0 ∧ SMap.get 0 s.upd.migr p.val ≠ 2 ∧ s.pdReady (2 + p.val) = true
  let faulted := fun (code addr : Nat) (t : State) => t.get F.SPX_MISM.ADDR p.val = addr % 2 ^ 32 ∧ t.get F.SPX_STAT.LAST_CODE p.val = code ∧
    t.get F.SPX_STAT.RESETS p.val = min 3 (s.get F.SPX_STAT.RESETS p.val + 1) ∧ t.pairSt p.val = {} ∧
    (s.get F.SPX_STAT.RESETS p.val < 2 → t.get F.SPX_STAT.STATE p.val = 4 ∧ t.sys.lastFault = code) ∧
    (2 ≤ s.get F.SPX_STAT.RESETS p.val → t.get F.SPX_STAT.STATE p.val = 3 ∧ t.sys.lastFault = 0x0408)
  let other := 4 * ev.val + (2 * q + (1 - c.val % 2))
  let at_ := ((s.sys.loader.descs.find? (fun d => d.type == 4 && d.inst == p.val)).map (fun d => d.loadAddr)).getD 0x10000000
  (coreRuns s c = true → inTcm a = false → s.get F.SPX_STAT.STATE q = 0 → leadOf (put (.out a st.size.val v)) < 256 →
    Runs (.pairOutputStore c st .none x) s fun t => t.pairSt q = put (.out a st.size.val v) ∧ t.mem = s.mem ∧ t.resp = s.resp ∧
      RegsOnly [F.SPX_DIAG.DEPTH_MAX.addr q 0 0] s t ∧ OnlyChanges { regs := true, mem := true, resp := true, sys := true, emb := true, fab := true, afe := true, hk := true, whl := true, pwm := true, cnv := true, fly := true, kln := true, spx := true, sup := true, act := true, thm := true, chg := true, tnd := true, upd := true, bus := true, xcp := true, olt := true } s t) ∧
  (coreRuns s c = true → (inTcm a = true ∨ s.get F.SPX_STAT.STATE q = 5) → Runs (.pairOutputStore c st .none x) s fun t =>
    t = busWrite (.core c) a st.size.val v x s) ∧
  (coreRuns s c = true → inTcm a = false → s.get F.SPX_STAT.STATE q = 1 → Runs (.pairOutputStore c st .none x) s fun t =>
    t = if c.val % 2 = 0 then busWrite (.pair (Fin.ofNat 2 q)) a st.size.val v x s else s) ∧
  (checked → z.buf0 = r0 :: b0 → z.buf1 = r1 :: b1 → r0.same r1 = true →
    (∀ a n v, r0 = .out a n v → Runs (.pairCompare p .none lag x) s fun t =>
      t = busWrite (.pair p) a n v x ((s.set F.SPX_DIAG.LAG_MAX (max lag.val (s.get F.SPX_DIAG.LAG_MAX p.val)) p.val).setPair p.val
        { z with buf0 := b0, buf1 := b1, halt := z.halt - 1 })) ∧
    (∀ g, r0 = .forced g → Runs (.pairCompare p .none lag x) s fun t => t.pairSt p.val = { z with buf0 := b0, buf1 := b1, halt := z.halt - 1 } ∧
      t.get F.SPX_DIAG.LAG_MAX p.val = max lag.val (s.get F.SPX_DIAG.LAG_MAX p.val) ∧ t.mem = s.mem ∧
      RegsOnly [F.SPX_DIAG.LAG_MAX.addr p.val 0 0] s t ∧ OnlyChanges { regs := true, mem := true, resp := true, sys := true, emb := true, fab := true, afe := true, hk := true, whl := true, pwm := true, cnv := true, fly := true, kln := true, spx := true, sup := true, act := true, thm := true, chg := true, tnd := true, upd := true, bus := true, xcp := true, olt := true } s t)) ∧
  (checked → z.buf0 = r0 :: b0 → z.buf1 = r1 :: b1 → r0.same r1 = false → Runs (.pairCompare p .none lag x) s fun t =>
    faulted 0x0402 r0.addr t ∧ t.mem = s.mem ∧ OnlyChanges { regs := true, mem := true, resp := true, sys := true, emb := true, fab := true, afe := true, hk := true, whl := true, pwm := true, cnv := true, fly := true, kln := true, spx := true, sup := true, act := true, thm := true, chg := true, tnd := true, upd := true, bus := true, xcp := true, olt := true } s t) ∧
  (checked → z.buf0 = [] → z.buf1 = r1 :: b1 → Runs (.pairLagTimeout p) s fun t => faulted 0x0403 r1.addr t ∧
    OnlyChanges { regs := true, sys := true, fab := true, kln := true, spx := true, sup := true, chg := true, tnd := true, upd := true, xcp := true } s t) ∧
  (coreRuns s c = true → inTcm addr.toNat = false → s.get F.SPX_STAT.STATE q = 0 → stalls s c addr.toNat size.val = false → y.ins = [] →
    Runs (.pairInputLoad c (.load addr size synd)) s fun t =>
      let u := busRead (.pair (Fin.ofNat 2 q)) addr.toNat size.val synd s; t = u.setPair q { u.pairSt q with ins := [(addr.toNat, size.val, u.resp)], lead1 := c.val % 2 == 1 }) ∧
  (∀ ans rest, coreRuns s c = true → inTcm addr.toNat = false → s.get F.SPX_STAT.STATE q = 0 → stalls s c addr.toNat size.val = false →
    y.ins = (addr.toNat, size.val, ans) :: rest → y.lead1 ≠ (c.val % 2 == 1) → Runs (.pairInputLoad c (.load addr size synd)) s fun t =>
      t = (s.setPair q { y with ins := rest }).answer ans) ∧
  (coreRuns s c = true → s.get F.SPX_STAT.STATE q = 5 → Runs (.pairInputLoad c (.csr value)) s fun t => t = s.answer (.data value.toNat)) ∧
  (coreRuns s c = true → s.get F.SPX_STAT.STATE q = 0 → leadOf (put (.check value.toNat sig.toNat)) < 256 →
    Runs (.checkpointWrite c value sig) s fun t =>
    t.pairSt q = put (.check value.toNat sig.toNat) ∧ RegsOnly [F.SPX_DIAG.DEPTH_MAX.addr q 0 0] s t ∧
      OnlyChanges { regs := true, sys := true, fab := true, kln := true, spx := true, sup := true, chg := true, tnd := true, upd := true, xcp := true } s t) ∧
  (coreRuns s c = true → s.get F.SPX_STAT.STATE q = 0 → leadOf (put (.forced sig.toNat)) < 256 → Runs (.forcedCheckpoint c sig) s fun t =>
    t.pairSt q = put (.forced sig.toNat) ∧ RegsOnly [F.SPX_DIAG.DEPTH_MAX.addr q 0 0] s t ∧
      OnlyChanges { regs := true, sys := true, fab := true, kln := true, spx := true, sup := true, chg := true, tnd := true, upd := true, xcp := true } s t) ∧
  (coreRuns s c = true → s.get F.SPX_STAT.STATE q ≠ 5 → y.events.find? (fun e => e.1 == other) = none →
    Runs (.pairEventDelivery c ev count) s fun t =>
    t = s.setPair q { y with events := y.events ++ [(4 * ev.val + c.val, count)] }) ∧
  (coreRuns s c = true → s.get F.SPX_STAT.STATE q ≠ 5 → y.events.find? (fun e => e.1 == other) = some (other, count) →
    Runs (.pairEventDelivery c ev count) s fun t => t = s.setPair q { y with events := y.events.erase (other, count) }) ∧
  (s.pdReady (2 + p.val) = true → s.get F.SPX_STAT.STATE p.val = 4 → SMap.get 0 s.upd.migr p.val = 0 → s.poisoned at_ = false → synd ≠ .multi →
    Runs (.pairResetDone p synd) s fun t => t.get F.SPX_STAT.STATE p.val = 0 ∧ t.pairSt p.val = {} ∧
      OnlyChanges { regs := true, mem := true, sys := true, fab := true, kln := true, spx := true } s t) ∧
  (s.pdReady (2 + p.val) = true → s.get F.SPX_STAT.STATE p.val = 4 → SMap.get 0 s.upd.migr p.val = 0 → s.poisoned at_ = true →
    Runs (.pairResetDone p synd) s fun t => t.get F.SPX_STAT.STATE p.val = 3 ∧ t.sys.lastFault = 0x0409 ∧ t.mem = s.mem ∧
      OnlyChanges { regs := true, mem := true, sys := true, fab := true, kln := true, spx := true } s t) ∧
  (s.pdReady (2 + p.val) = true → s.get F.SPX_STAT.STATE p.val = 0 →
    (Runs (.comparatorSelfTest p true) s fun t => t = s.set F.SPX_DIAG.INJ_OK (s.get F.SPX_DIAG.INJ_OK p.val + 1) p.val) ∧
    (z.buf0 = [] → Runs (.comparatorSelfTest p false) s fun t => t.get F.SPX_STAT.STATE p.val = 1 ∧ t.get F.SPX_STAT.LAST_CODE p.val = 0x0404 ∧
      (t.pairSt p.val).buf1 = [] ∧ t.sys.lastFault = 0x0404 ∧
        OnlyChanges { regs := true, mem := true, resp := true, sys := true, emb := true, fab := true, afe := true, hk := true, whl := true, pwm := true, cnv := true, fly := true, kln := true, spx := true, sup := true, act := true, thm := true, chg := true, tnd := true, upd := true, bus := true, xcp := true, olt := true } s t))

/-- An authenticated command with a good alive counter sets what its rule names: torques or speeds of the machines, stops,
EMERGENCY_RUN, the charge command, the battery's limits, the precharge and the contactors; a break of the alive counter is counted
and nothing else; a time-out marks the machines as lost and goes on as the machines' kind says. (16_bus.md R479, 16_bus.md R480,
10_machine_control.md R309, 10_machine_control.md R312, 10_machine_control.md R325, 10_machine_control.md R326,
13_charging_powerpath.md R379, 13_charging_powerpath.md R383, 13_charging_powerpath.md R392, 13_charging_powerpath.md R393,
13_charging_powerpath.md R394) -/
def Obligations.HostCommands : Prop :=
  ∀ (s : State) (x : AxleCmd) (y : SpeedCmd) (z : ChgCmd) (b : BmsLimits) (m : Fin 2) (p : MachPar) (r : Fin 8) (v : Nat),
  let ts := splitTorque (supAlive 0 x.alive.val s) x.tAx x.dT
  let chg := s.get F.CHG_SESS.STATE
  let lost := s.get F.REEL_STAT2.HOST_TMO_CNT
  (x.auth = true → pairRuns s 0 = true → aliveOk s (SMap.get 0 s.sup.alive 0) x.alive.val = true →
    (x.req = none → preBlocks s = false → machPar s m.val = some p → p.speedMode = false → Runs (.axleCmd x) s fun t =>
      (t.mach m.val).cmdT = (if m.val = 0 then ts.1 else ts.2) ∧ (t.mach m.val).commanded = true ∧ (t.mach m.val).hostLost = false ∧
      SMap.get 0 t.sup.alive 0 = x.alive.val + 1 ∧ t.regs = s.regs ∧ t.sys = s.sys ∧
        OnlyChanges { regs := true, mem := true, resp := true, sys := true, fab := true, afe := true, hk := true, whl := true, pwm := true, cnv := true, fly := true, kln := true, spx := true, sup := true, act := true, thm := true, chg := true, tnd := true, upd := true, bus := true, xcp := true, olt := true } s t) ∧
    (x.req = none → preBlocks s = true → Runs (.axleCmd x) s fun t => t = supAlive 0 x.alive.val s) ∧
    (x.req = some r → preBlocks s = false → Runs (.axleCmd { x with req := none }) s fun u => Runs (.axleCmd x) s fun t =>
      t = quietly (modeRequest (.pair s.sys.cfg.modePair) 0xC3A5 r.val false true) u)) ∧
  (x.auth = true → pairRuns s 0 = true → aliveOk s (SMap.get 0 s.sup.alive 0) x.alive.val = false → Runs (.axleCmd x) s fun t =>
    t.get F.REEL_STAT2.ALIVE_ERR = min (s.get F.REEL_STAT2.ALIVE_ERR + 1) 255 ∧ t.sup = s.sup ∧ t.sys = s.sys ∧
      OnlyChanges { regs := true, mem := true, resp := true, sys := true, fab := true, afe := true, hk := true, whl := true, pwm := true, cnv := true, fly := true, kln := true, spx := true, sup := true, act := true, thm := true, chg := true, tnd := true, upd := true, bus := true, xcp := true, olt := true } s t) ∧
  (x.auth = false → Runs (.axleCmd x) s fun t => t = s) ∧
  (y.auth = true → pairRuns s 0 = true → aliveOk s (SMap.get 0 s.sup.alive 1) y.alive.val = true → preBlocks s = false → machPar s m.val = some p →
    p.speedMode = true → Runs (.speedCmd y) s fun t => (t.mach m.val).cmdSpd = (if m.val = 0 then y.spd0 else y.spd1) ∧
      (t.mach m.val).commanded = true ∧ (t.mach m.val).hostLost = false ∧ SMap.get 0 t.sup.alive 1 = y.alive.val + 1 ∧ t.regs = s.regs ∧
        OnlyChanges { regs := true, sup := true } s t) ∧
  (pairRuns s 0 = true → kreqPair s = 0 →
    (Runs (.stopCmd true true) s fun t => (machPar s m.val = some p → (t.mach m.val).stop1 = true ∧ (t.mach m.val).below = 0) ∧
      t.get F.SPX_KREQ.SS1_REQ = 1 ∧ t.resp = s.resp ∧ OnlyChanges { regs := true, resp := true, sys := true, fab := true, pwm := true, kln := true, sup := true, act := true } s t) ∧
    (Runs (.stopCmd true false) s fun t => (t.mach m.val).stop1 = false ∧ t.get F.SPX_KREQ.STO_REQ = 1 ∧ t.resp = s.resp ∧
      OnlyChanges { regs := true, resp := true, sys := true, fab := true, pwm := true, kln := true, sup := true, act := true } s t)) ∧
  (pairRuns s 0 = true → s.sup.emr = true → Runs (.emrCmd true true) s fun t => t.sup.emr = false ∧ t.sup.machs = s.sup.machs ∧
    OnlyChanges { regs := true, fab := true, sup := true } s t) ∧
  (pairRuns s 0 = true → s.sup.emr = true → Runs (.emrCmd true false) s fun t => t = { s with sup := { s.sup with emrTasks := 0 } }) ∧
  (pairRuns s 0 = true → s.sup.emr = false → s.sys.cfg.sup.emrEn = true → (s.mode = 3 ∨ s.mode = 5) → Runs (.emrCmd true false) s fun t =>
    t.sup.emr = true ∧ t.sup.emrTasks = 0 ∧ t.sup.machs = s.sup.machs ∧ OnlyChanges { regs := true, fab := true, sup := true } s t) ∧
  (z.auth = true → pairBRuns s = true → aliveOk s s.chg.alive z.alive.val = true →
    (z.start = true → preBlocks s = false → Runs (.chgCmd z) s fun t => t = s.setChg { s.chg with
      alive := z.alive.val + 1, hostMs := 0, digital := z.digital, cmd := true, hvHold := false }) ∧
    (z.start = true → preBlocks s = true → Runs (.chgCmd z) s fun t => t = s.setChg { s.chg with
      alive := z.alive.val + 1, hostMs := 0, digital := z.digital }) ∧
    (z.start = false → Runs (.chgCmd z) s fun t => t = s.setChg { s.chg with
      alive := z.alive.val + 1, hostMs := 0, digital := z.digital, cmd := false, hvHold := false
      ends := if sessActive s then s.chg.ends ++ [1] else s.chg.ends })) ∧
  (pairBRuns s = true →
    (chg = 4 → s.chg.pause = 1 → Runs (.bmsLim true b) s fun t => t.get F.CHG_SESS.STATE = 2 ∧
      t.chg = { s.chg with bms := some b, fresh := true, pause := 0 } ∧ RegsOnly [F.CHG_SESS.STATE.addr 0 0 0] s t ∧
        OnlyChanges { regs := true, chg := true } s t) ∧
    (chg ≠ 4 → Runs (.bmsLim true b) s fun t => t = s.setChg { s.chg with bms := some b, fresh := true }) ∧
    (s.mode = 2 → s.get F.CHG_PRE.PSTATE ≠ 1 → s.get F.CHG_PRE.PSTATE ≠ 2 → s.chg.bms = some b → s.chg.fresh = true → b.packV = some v →
      (v ≤ (chgPar s).hvMax → chUsed s 2 = true → s.chState 2 = 0 → s.getB F.CNV_CH_CFG.DRAINING 2 = false → Runs (.preCmd true true) s fun t =>
        t.get F.CHG_PRE.PSTATE = 1 ∧ t.get F.CHG_PRE.FAIL = 0 ∧ t.get F.CHG_PRE.TARGET = min v 65535 ∧ t.get F.CNV_CH_CFG.DIR 2 = 1 ∧
        t.chState 2 = 1 ∧ t.chg = { s.chg with contactors := false } ∧ t.resp = s.resp ∧
          OnlyChanges { regs := true, resp := true, fab := true, pwm := true, cnv := true, act := true, chg := true } s t) ∧
      ((chgPar s).hvMax < v → Runs (.preCmd true true) s fun t => t.get F.CHG_PRE.PSTATE = 4 ∧ t.get F.CHG_PRE.FAIL = 2 ∧
        RegsOnly [F.CHG_PRE.PSTATE.addr 0 0 0] s t ∧ OnlyChanges { regs := true, resp := true, fab := true, pwm := true, cnv := true, act := true, chg := true } s t)) ∧
    (Runs (.preCmd true false) s fun t => t = s.setChg { s.chg with contactors := true }) ∧
    (s.get F.CHG_PRE.PSTATE = 2 → (s.chState 2 = 1 ∨ s.chState 2 = 2) → Runs (.contactorClosed true) s fun t => t.chState 2 = 3 ∧
      t.chg = { s.chg with contactors := true, preStop := true } ∧ t.resp = s.resp ∧
        OnlyChanges { regs := true, resp := true, fab := true, pwm := true, cnv := true, act := true, chg := true } s t) ∧
    (s.chg.cmd = true → s.chg.hostMs = 0 → Runs .chgCmdTimeout s fun t => t.chg = { s.chg with hostMs := 1 } ∧
      t.get F.REEL_STAT2.HOST_TMO_CNT = min (lost + 1) 255 ∧ OnlyChanges { regs := true, fab := true, chg := true } s t)) ∧
  (pairRuns s 0 = true → machPar s m.val = some p → (s.mach m.val).commanded = true → (s.mach m.val).hostLost = false →
    Runs .hostTimeout s fun t => (t.mach m.val).hostLost = true ∧ t.get F.REEL_STAT2.HOST_TMO_CNT = min (lost + 1) 255 ∧
      (p.speedMode = false → s.sys.cfg.sup.lossAct ≠ 2 → t.sys.lastFault = 0x1010) ∧
      (p.speedMode = true → s.sys.cfg.sup.lossAct = 0 → (t.mach m.val).cmdSpd = 0) ∧
        OnlyChanges { regs := true, resp := true, sys := true, fab := true, pwm := true, kln := true, sup := true, act := true } s t) ∧
  (pairRuns s 0 = true → machPar s m.val = some p → (s.mach m.val).hostLost = true →
    Runs .hostLossTimeout s fun t => (p.speedMode = false → (t.mach m.val).stop1 = true ∧ (t.mach m.val).below = 0) ∧
      (p.speedMode = true → s.sys.cfg.sup.lossAct = 1 → (t.mach m.val).cmdSpd = 0) ∧
        OnlyChanges { regs := true, resp := true, sys := true, fab := true, pwm := true, kln := true, sup := true, act := true } s t)

/-- A request from the pair that may make it, with the key, while none is in progress and no online test runs, to a mode the table
allows whose conditions hold, sets BUSY and its target, revoking L2 and L3 towards DRIVE, CHARGE and LIMP; every other is refused
with its reason; a completed transition writes MODE, PREV_MODE and V2L and clears BUSY; DORMANT entry and a restart begin at once.
(02_modes_power_start.md R40, 02_modes_power_start.md R44, 02_modes_power_start.md R45, 02_modes_power_start.md R46,
02_modes_power_start.md R47, 02_modes_power_start.md R50, 02_modes_power_start.md R70, 02_modes_power_start.md R71,
02_modes_power_start.md R590, 17_security_debug.md R500, 17_security_debug.md R501, 21_online_test.md R569) -/
def Obligations.ModeRequests : Prop :=
  ∀ (s : State) (m : Master) (key : BitVec 16) (cleared : Bool) (x : Trans) (d : Fin 11),
  let may := s.regWriter m = true ∧ s.pdReady 8 = true ∧ m = .pair s.sys.cfg.modePair
  let ask := may ∧ key = 0xC3A5 ∧ s.getB F.MODE_STAT.BUSY = false ∧ s.olt.test = none
  let fits := fun (target : Nat) => requestable s target = true ∧ conditions s target true = none
  let taken := fun (target : Nat) (v2l : Bool) (t : State) => t.sys.trans = some ⟨target, v2l⟩ ∧ t.get F.MODE_STAT.BUSY = 1 ∧
    t.get F.MODE_STAT.MODE = s.get F.MODE_STAT.MODE ∧ t.resp = .done
  let refused := fun (reason : Nat) (t : State) => t.get F.MODE_STAT.REFUSE_REASON = reason ∧ t.sys = s.sys ∧ t.resp = .done ∧
    RegsOnly [F.MODE_STAT.MODE.addr 0 0 0] s t
  (ask → requestable s 2 = true → conditions s 2 cleared = none → Runs (.requestReady m key cleared) s fun t => taken 2 false t ∧
    (s.mode = 5 → t.get F.MODE_STAT.LIMP_LATCH = 0 ∧ t.sys.causes = []) ∧
      OnlyChanges { regs := true, mem := true, resp := true, sys := true, fab := true, afe := true, hk := true, whl := true, pwm := true, cnv := true, fly := true, kln := true, spx := true, sup := true, act := true, thm := true, chg := true, tnd := true, upd := true, bus := true, xcp := true, olt := true } s t) ∧
  (ask → fits 3 → Runs (.requestDrive m key) s fun t => taken 3 false t ∧ t.dbgLevel ≤ 1 ∧
    OnlyChanges { regs := true, mem := true, resp := true, sys := true, fab := true, afe := true, hk := true, whl := true, pwm := true, cnv := true, fly := true, kln := true, spx := true, sup := true, act := true, thm := true, chg := true, tnd := true, upd := true, bus := true, xcp := true, olt := true } s t) ∧
  (ask → fits 4 → Runs (.requestCharge m key) s fun t => taken 4 false t ∧ t.dbgLevel ≤ 1 ∧
    OnlyChanges { regs := true, mem := true, resp := true, sys := true, fab := true, afe := true, hk := true, whl := true, pwm := true, cnv := true, fly := true, kln := true, spx := true, sup := true, act := true, thm := true, chg := true, tnd := true, upd := true, bus := true, xcp := true, olt := true } s t) ∧
  (ask → s.mode = 4 → s.getB F.MODE_STAT.V2L = false → conditions s 4 true = none → Runs (.requestV2l m key) s fun t => taken 4 true t ∧
    OnlyChanges { regs := true, mem := true, resp := true, sys := true, fab := true, afe := true, hk := true, whl := true, pwm := true, cnv := true, fly := true, kln := true, spx := true, sup := true, act := true, thm := true, chg := true, tnd := true, upd := true, bus := true, xcp := true, olt := true } s t) ∧
  (ask → fits 5 → Runs (.requestLimp m key) s fun t => taken 5 false t ∧ t.dbgLevel ≤ 1 ∧
    OnlyChanges { regs := true, mem := true, resp := true, sys := true, fab := true, afe := true, hk := true, whl := true, pwm := true, cnv := true, fly := true, kln := true, spx := true, sup := true, act := true, thm := true, chg := true, tnd := true, upd := true, bus := true, xcp := true, olt := true } s t) ∧
  (ask → fits 7 → Runs (.requestService m key) s fun t => taken 7 false t ∧ t.dbgLevel = s.dbgLevel ∧
    OnlyChanges { regs := true, mem := true, resp := true, sys := true, fab := true, afe := true, hk := true, whl := true, pwm := true, cnv := true, fly := true, kln := true, spx := true, sup := true, act := true, thm := true, chg := true, tnd := true, upd := true, bus := true, xcp := true, olt := true } s t) ∧
  (ask → Runs (.requestSafe m key) s fun t => refused 1 t ∧
    OnlyChanges { regs := true, mem := true, resp := true, sys := true, fab := true, afe := true, hk := true, whl := true, pwm := true, cnv := true, fly := true, kln := true, spx := true, sup := true, act := true, thm := true, chg := true, tnd := true, upd := true, bus := true, xcp := true, olt := true } s t) ∧
  (ask → dormantAllowed s = true → Runs (.requestDormant m key) s fun t => t.sys.phase = .dormantEntry ∧ t.sys.trans = none ∧
    t.get F.MODE_STAT.BUSY = 1 ∧ t.sys.offSeq = [7, 6, 5, 4, 3, 2, 10, 9, 1, 8] ∧ t.resp = .done ∧
      OnlyChanges { regs := true, mem := true, resp := true, sys := true, fab := true, afe := true, hk := true, whl := true, pwm := true, cnv := true, fly := true, kln := true, spx := true, sup := true, act := true, thm := true, chg := true, tnd := true, upd := true, bus := true, xcp := true, olt := true } s t) ∧
  (ask → fits 1 → Runs (.requestRestart m key) s fun t => t.sys.phase = .supplies ∧ t.sys.released = false ∧ t.sys.trans = none ∧
    t.get F.START_LOG.KIND = 2 ∧ (0 < d.val → t.pdOn d.val = false) ∧ t.resp = .done ∧
      OnlyChanges { regs := true, mem := true, resp := true, sys := true, fab := true, afe := true, hk := true, whl := true, pwm := true, cnv := true, fly := true, kln := true, spx := true, sup := true, act := true, thm := true, chg := true, tnd := true, upd := true, bus := true, xcp := true, olt := true } s t) ∧
  (s.regWriter m = true → s.pdReady 8 = true → m ≠ .pair s.sys.cfg.modePair → Runs (.requestDrive m key) s fun t => refused 10 t ∧
    OnlyChanges { regs := true, mem := true, resp := true, sys := true, fab := true, afe := true, hk := true, whl := true, pwm := true, cnv := true, fly := true, kln := true, spx := true, sup := true, act := true, thm := true, chg := true, tnd := true, upd := true, bus := true, xcp := true, olt := true } s t) ∧
  (may → key ≠ 0xC3A5 → Runs (.requestDrive m key) s fun t => refused 12 t ∧
    OnlyChanges { regs := true, mem := true, resp := true, sys := true, fab := true, afe := true, hk := true, whl := true, pwm := true, cnv := true, fly := true, kln := true, spx := true, sup := true, act := true, thm := true, chg := true, tnd := true, upd := true, bus := true, xcp := true, olt := true } s t) ∧
  (may → key = 0xC3A5 → s.getB F.MODE_STAT.BUSY = true → Runs (.requestDrive m key) s fun t => refused 2 t ∧
    OnlyChanges { regs := true, mem := true, resp := true, sys := true, fab := true, afe := true, hk := true, whl := true, pwm := true, cnv := true, fly := true, kln := true, spx := true, sup := true, act := true, thm := true, chg := true, tnd := true, upd := true, bus := true, xcp := true, olt := true } s t) ∧
  (ask → requestable s 3 = false → Runs (.requestDrive m key) s fun t => refused 1 t ∧
    OnlyChanges { regs := true, mem := true, resp := true, sys := true, fab := true, afe := true, hk := true, whl := true, pwm := true, cnv := true, fly := true, kln := true, spx := true, sup := true, act := true, thm := true, chg := true, tnd := true, upd := true, bus := true, xcp := true, olt := true } s t) ∧
  (∀ r, ask → requestable s 3 = true → conditions s 3 true = some r → Runs (.requestDrive m key) s fun t => refused r t ∧
    OnlyChanges { regs := true, mem := true, resp := true, sys := true, fab := true, afe := true, hk := true, whl := true, pwm := true, cnv := true, fly := true, kln := true, spx := true, sup := true, act := true, thm := true, chg := true, tnd := true, upd := true, bus := true, xcp := true, olt := true } s t) ∧
  (s.regWriter m = false → Runs (.requestDrive m key) s fun t => t = busError s) ∧
  (s.sys.trans = some x → (x.target = 3 ∨ x.target = 4 ∨ x.target = 5 → pairsSettled s = true) → Runs .modeTransitionComplete s fun t =>
    t.get F.MODE_STAT.MODE = x.target % 8 ∧ t.get F.MODE_STAT.PREV_MODE = s.mode ∧ t.get F.MODE_STAT.V2L = x.v2l.toNat ∧
    t.get F.MODE_STAT.BUSY = 0 ∧ t.sys.trans = none ∧ OnlyChanges { regs := true, mem := true, sys := true, fab := true, afe := true, hk := true, whl := true, pwm := true, cnv := true, fly := true, kln := true, spx := true, sup := true, act := true, thm := true, chg := true, tnd := true, upd := true, bus := true, xcp := true, olt := true } s t) ∧
  (s.sys.trans = some x → (x.target = 3 ∨ x.target = 4 ∨ x.target = 5) → pairsSettled s = false → Runs .modeTransitionComplete s fun t => t = s)

/-- The reactions that wait and that the mode machine hears in this phase act together: a class 3 to 5 imposes SAFE, a class 2 imposes
LIMP from DRIVE and CHARGE and latches it elsewhere, a class 1 derates; a token time-out loses the link on its die, or fails the
start; a good frame brings the link up or notes a late token, and three bad ones in a row are a loss. (02_modes_power_start.md
R41, 02_modes_power_start.md R42, 02_modes_power_start.md R43, 02_modes_power_start.md R63, 01_architecture.md R24,
01_architecture.md R25, 01_architecture.md R26) -/
def Obligations.ImposedTransitionsAndLink : Prop :=
  ∀ (s : State) (top : React) (f : LinkFrame),
  let rs := s.sys.reacts.filter (fun r => imposes s r.cls)
  let top? := topReact rs
  (top? = some top → 3 ≤ top.cls → Runs .imposedTransition s fun t => t.get F.MODE_STAT.MODE = 6 ∧
    t.sys.safeCls = max s.sys.safeCls top.cls ∧ t.sys.trans = none ∧ t.sup.derated = true ∧ (s.mode ≠ 6 → t.get F.MODE_STAT.PREV_MODE = s.mode) ∧
      OnlyChanges { regs := true, mem := true, sys := true, fab := true, afe := true, hk := true, whl := true, pwm := true, cnv := true, fly := true, kln := true, spx := true, sup := true, act := true, thm := true, chg := true, tnd := true, upd := true, bus := true, xcp := true, olt := true } s t) ∧
  (top? = some top → top.cls = 2 → (s.mode = 3 ∨ s.mode = 4) → Runs .imposedTransition s fun t => t.get F.MODE_STAT.MODE = 5 ∧
    t.get F.MODE_STAT.PREV_MODE = s.mode ∧ t.sys.causes = s.sys.causes ++ rs.filter (fun r => r.cls == 2) ∧ t.dbgLevel ≤ 1 ∧
      OnlyChanges { regs := true, mem := true, sys := true, fab := true, afe := true, hk := true, whl := true, pwm := true, cnv := true, fly := true, kln := true, spx := true, sup := true, act := true, thm := true, chg := true, tnd := true, upd := true, bus := true, xcp := true, olt := true } s t) ∧
  (top? = some top → top.cls = 2 → (s.mode = 1 ∨ s.mode = 2 ∨ s.mode = 7) → s.sys.trans = none → Runs .imposedTransition s fun t =>
    t.get F.MODE_STAT.LIMP_LATCH = 1 ∧ t.sys.causes = s.sys.causes ++ rs.filter (fun r => r.cls == 2) ∧
    t.get F.MODE_STAT.MODE = s.get F.MODE_STAT.MODE ∧ RegsOnly [F.MODE_STAT.MODE.addr 0 0 0] s t ∧
      OnlyChanges { regs := true, mem := true, sys := true, fab := true, afe := true, hk := true, whl := true, pwm := true, cnv := true, fly := true, kln := true, spx := true, sup := true, act := true, thm := true, chg := true, tnd := true, upd := true, bus := true, xcp := true, olt := true } s t) ∧
  (top? = some top → top.cls = 1 → Runs .imposedTransition s fun t =>
    t = { s with sys := { s.sys with reacts := [] }, sup := { s.sup with derated := true } }) ∧
  (top? = none → Runs .imposedTransition s fun t => t = { s with sys := { s.sys with reacts := [] } }) ∧
  (s.sys.linkUp = true → s.sys.linkLost = false → s.pdOn 8 = true → starting s = false → Runs (.linkTokenTimeout .control) s fun t =>
    t.sys.linkUp = false ∧ t.sys.linkLost = true ∧ t.sys.dcdcHeld = true ∧ t.get F.D2D_STAT.LOST = 1 ∧ t.get F.D2D_STAT.LINK_UP = 0 ∧
      OnlyChanges { regs := true, mem := true, sys := true, fab := true, afe := true, hk := true, whl := true, pwm := true, cnv := true, fly := true, kln := true, spx := true, sup := true, act := true, thm := true, chg := true, tnd := true, upd := true, bus := true, xcp := true, olt := true } s t) ∧
  (s.sys.linkUp = true → s.sys.linkLost = false → s.pdOn 8 = true → starting s = true → Runs (.linkTokenTimeout .control) s fun t =>
    t.sys.phase = .hold ∧ t.sys.supEn = false ∧ t.get F.START_LOG.LAST_FAULT = 0x1101 ∧
      OnlyChanges { regs := true, mem := true, sys := true, fab := true, afe := true, hk := true, whl := true, pwm := true, cnv := true, fly := true, kln := true, spx := true, sup := true, act := true, thm := true, chg := true, tnd := true, upd := true, bus := true, xcp := true, olt := true } s t) ∧
  (s.sys.linkUp = true → kilnRuns s = true → Runs (.linkTokenTimeout .power) s fun t => t.sys.linkUp = false ∧ t.kln.present.testBit 0 = true ∧
    t.kln.crcRun = 0 ∧ OnlyChanges { regs := true, mem := true, sys := true, fab := true, afe := true, hk := true, whl := true, pwm := true, cnv := true, fly := true, kln := true, spx := true, sup := true, act := true, thm := true, chg := true, tnd := true, upd := true, bus := true, xcp := true, olt := true } s t) ∧
  (f.die = .control → f.crcOk = true → f.late = false → s.pdOn 8 = true → s.sys.linkUp = true → Runs (.linkFrameReceive f) s fun t =>
    t = { s with sys := { s.sys with linkCrcRun := 0, linkLost := false } }) ∧
  (f.die = .control → f.crcOk = true → f.late = true → s.pdOn 8 = true → s.sys.linkUp = true → Runs (.linkFrameReceive f) s fun t =>
    t.get F.D2D_STAT.TOKEN_LATE = min (s.get F.D2D_STAT.TOKEN_LATE + 1) 255 ∧ t.sys = { s.sys with linkCrcRun := 0, linkLost := false } ∧
    RegsOnly [F.D2D_STAT.TOKEN_LATE.addr 0 0 0] s t ∧ OnlyChanges { regs := true, mem := true, sys := true, fab := true, afe := true, hk := true, whl := true, pwm := true, cnv := true, fly := true, kln := true, spx := true, sup := true, act := true, thm := true, chg := true, tnd := true, upd := true, bus := true, xcp := true, olt := true } s t) ∧
  (f.die = .control → f.crcOk = true → s.pdOn 8 = true → s.pdOn 10 = true → s.sys.linkUp = false → Runs (.linkFrameReceive f) s fun t =>
    t.sys.linkUp = true ∧ t.get F.D2D_STAT.LINK_UP = 1 ∧ t.get F.D2D_STAT.LAT_TRIM = f.trim.val ∧
      OnlyChanges { regs := true, mem := true, sys := true, fab := true, afe := true, hk := true, whl := true, pwm := true, cnv := true, fly := true, kln := true, spx := true, sup := true, act := true, thm := true, chg := true, tnd := true, upd := true, bus := true, xcp := true, olt := true } s t) ∧
  (f.die = .control → f.crcOk = false → s.pdOn 8 = true → s.sys.linkCrcRun < 2 → Runs (.linkFrameReceive f) s fun t =>
    t.get F.D2D_STAT.CRC_ERR = min (s.get F.D2D_STAT.CRC_ERR + 1) 255 ∧ t.sys = { s.sys with linkCrcRun := s.sys.linkCrcRun + 1 } ∧
    RegsOnly [F.D2D_STAT.CRC_ERR.addr 0 0 0] s t ∧ OnlyChanges { regs := true, mem := true, sys := true, fab := true, afe := true, hk := true, whl := true, pwm := true, cnv := true, fly := true, kln := true, spx := true, sup := true, act := true, thm := true, chg := true, tnd := true, upd := true, bus := true, xcp := true, olt := true } s t) ∧
  (f.die = .control → f.crcOk = false → s.pdOn 8 = true → 2 ≤ s.sys.linkCrcRun → s.sys.linkUp = true → s.sys.linkLost = false → starting s = false →
    Runs (.linkFrameReceive f) s fun t => t.sys.linkUp = false ∧ t.sys.linkLost = true ∧ t.get F.D2D_STAT.LOST = 1 ∧
      OnlyChanges { regs := true, mem := true, sys := true, fab := true, afe := true, hk := true, whl := true, pwm := true, cnv := true, fly := true, kln := true, spx := true, sup := true, act := true, thm := true, chg := true, tnd := true, upd := true, bus := true, xcp := true, olt := true } s t) ∧
  (f.die = .power → f.crcOk = true → Runs (.linkFrameReceive f) s fun t =>
    t = s.setKln { s.kln with crcRun := 0, present := putBit s.kln.present 0 false }) ∧
  (f.die = .power → f.crcOk = false → s.kln.crcRun < 2 → Runs (.linkFrameReceive f) s fun t => t = s.setKln { s.kln with crcRun := s.kln.crcRun + 1 })

/-- VBAT's rise begins a cold start; the supplies, the PLLs, the domains and their fills follow in order; the release leaves the units
running, in SAFE where a Kiln latch is held; a failure before it holds the part with its code, and after the hold a new start
follows, or START_LOCK and DORMANT after three; the collapse of VBAT leaves the MRAM and the fuses alone. (02_modes_power_start.md
R52, 02_modes_power_start.md R53, 02_modes_power_start.md R54, 02_modes_power_start.md R56, 02_modes_power_start.md R60,
02_modes_power_start.md R62, 02_modes_power_start.md R63, 02_modes_power_start.md R64, 02_modes_power_start.md R68,
17_security_debug.md R485, 19_clocks_crossings.md R531, 21_online_test.md R564) -/
def Obligations.StartSequence : Prop :=
  ∀ (s : State) (d : Fin 11) (e : Fin 11) (rest : List Nat) (high : Bool) (a : Nat),
  let started := fun (kind : Nat) (t : State) => t.sys.phase = .supplies ∧ t.sys.supEn = true ∧ t.sys.released = false ∧ t.sys.trans = none ∧
    t.get F.START_LOG.KIND = kind
  let failed := fun (code : Nat) (t : State) => t.sys.phase = .hold ∧ t.sys.supEn = false ∧ t.sys.released = false ∧
    t.get F.START_LOG.LAST_FAULT = code ∧ (0 < d.val → t.pdOn d.val = false)
  let w := if high then 5 else 4
  let locked := (s.tnd.fuse.lc.any (fun n => n == 1 || n == 2)) = false ∧ lifecycle s < 3
  (s.sys.phase = .noPower → Runs .vbatRise s fun t => started 0 t ∧ t.sys.pd0 = true ∧ t.kln.kstate = 1 ∧ t.kln.por = true ∧ t.mem = s.mem ∧
    OnlyChanges { regs := true, sys := true, kln := true, tnd := true } s t) ∧
  (s.sys.phase = .supplies → Runs .supplyGood s fun t => t = { s with sys := { s.sys with phase := .pllStart } }) ∧
  (s.sys.phase = .supplies → Runs .supplyTimeout s fun t => failed 0x0F15 t ∧
    OnlyChanges { regs := true, mem := true, sys := true, fab := true, afe := true, hk := true, whl := true, pwm := true, cnv := true, fly := true, kln := true, spx := true, sup := true, act := true, thm := true, chg := true, tnd := true, upd := true, bus := true, xcp := true, olt := true } s t) ∧
  (s.sys.phase = .pllStart → Runs .referenceClockFail s fun t => failed 0x1110 t ∧
    OnlyChanges { regs := true, mem := true, sys := true, fab := true, afe := true, hk := true, whl := true, pwm := true, cnv := true, fly := true, kln := true, spx := true, sup := true, act := true, thm := true, chg := true, tnd := true, upd := true, bus := true, xcp := true, olt := true } s t) ∧
  (s.sys.phase = .pllStart → Runs .pllLockTimeout s fun t => failed 0x1111 t ∧
    OnlyChanges { regs := true, mem := true, sys := true, fab := true, afe := true, hk := true, whl := true, pwm := true, cnv := true, fly := true, kln := true, spx := true, sup := true, act := true, thm := true, chg := true, tnd := true, upd := true, bus := true, xcp := true, olt := true } s t) ∧
  (s.sys.phase = .pllStart → locked → Runs (.pllLock true) s fun t => t.sys.phase = .loading ∧ t.sys.onSeq = [1, 9] ∧ t.pdOn 8 = true ∧
    t.fab.tsRun = true ∧ t.fab.ts = 0 ∧ t.get F.CLK_STAT.LOCK = 15 ∧ t.get F.CLK_STAT.XIN_OK = 1 ∧
    t.get F.CLK_TS_EPOCH.EPOCH_SEC = s.get F.EMB_RTC_SEC.SEC ∧
      OnlyChanges { regs := true, mem := true, sys := true, fab := true, afe := true, hk := true, whl := true, pwm := true, cnv := true, fly := true, kln := true, spx := true, sup := true, act := true, thm := true, chg := true, tnd := true, upd := true, bus := true, xcp := true, olt := true } s t) ∧
  (s.sys.phase = .pllStart → Runs (.pllLock false) s fun t => failed 0x0206 t ∧
    OnlyChanges { regs := true, mem := true, sys := true, fab := true, afe := true, hk := true, whl := true, pwm := true, cnv := true, fly := true, kln := true, spx := true, sup := true, act := true, thm := true, chg := true, tnd := true, upd := true, bus := true, xcp := true, olt := true } s t) ∧
  (s.sys.onSeq = e.val :: rest → 0 < e.val → s.pdOn 8 = true → s.pdOn e.val = false → Runs .domainPowerOn s fun t => t.pdOn e.val = true ∧
    t.sys = { s.sys with onSeq := rest } ∧ RegsOnly [F.PD_STAT.ON.addr 0 0 0] s t ∧ OnlyChanges { regs := true, sys := true } s t) ∧
  (s.pdOn d.val = true → s.pdFilled d.val = false → ¬ ((d.val = 4 ∨ d.val = 5) ∧ s.sys.released = true) → Runs (.memoryFillDone d true) s fun t =>
    t.pdReady d.val = true ∧ t.sys.phase = s.sys.phase ∧
    (d.val = 8 → starting s = true → t.sys.onSeq = s.sys.onSeq ++ [10, 2, 3, 4, 5, 6, 7]) ∧
      OnlyChanges { regs := true, mem := true, sys := true, fab := true, afe := true, hk := true, whl := true, pwm := true, cnv := true, fly := true, kln := true, spx := true, sup := true, act := true, thm := true, chg := true, tnd := true, upd := true, bus := true, xcp := true, olt := true } s t) ∧
  (s.pdOn d.val = true → s.pdFilled d.val = false → starting s = true → Runs (.memoryFillDone d false) s fun t => failed 0x1210 t ∧
    OnlyChanges { regs := true, mem := true, sys := true, fab := true, afe := true, hk := true, whl := true, pwm := true, cnv := true, fly := true, kln := true, spx := true, sup := true, act := true, thm := true, chg := true, tnd := true, upd := true, bus := true, xcp := true, olt := true } s t) ∧
  (s.pdOn w = true → s.pdFilled w = false → s.sys.released = true → Runs (.whorlReloadDone high) s fun t => t.pdReady w = true ∧
    RegsOnly [F.PD_STAT.ON.addr 0 0 0] s t ∧ OnlyChanges { regs := true, mem := true, fab := true } s t) ∧
  (starting s = true → s.pdOn 10 = true → s.sys.linkUp = false → Runs .linkUpTimeout s fun t => failed 0x1101 t ∧
    OnlyChanges { regs := true, mem := true, sys := true, fab := true, afe := true, hk := true, whl := true, pwm := true, cnv := true, fly := true, kln := true, spx := true, sup := true, act := true, thm := true, chg := true, tnd := true, upd := true, bus := true, xcp := true, olt := true } s t) ∧
  (releasable s = true → kilnLatched s = false → Runs .coreRelease s fun t => t.sys.phase = .run ∧ t.sys.released = true ∧
    t.get F.START_LOG.FAILS = 0 ∧ t.get F.REEL_CTL.RUN = 1 ∧ t.get F.DBG_OLT_CAN.IN_TEST = 15 ∧
    t.get F.SPX_STAT.STATE 0 = (if s.getB F.SPX_STAT.SPLIT 0 then 5 else 0) ∧ t.get F.MODE_STAT.MODE = s.get F.MODE_STAT.MODE ∧
      OnlyChanges { regs := true, mem := true, sys := true, fab := true, afe := true, hk := true, whl := true, pwm := true, cnv := true, fly := true, kln := true, spx := true, sup := true, act := true, thm := true, chg := true, tnd := true, upd := true, bus := true, xcp := true, olt := true } s t) ∧
  (releasable s = true → kilnLatched s = true → Runs .coreRelease s fun t => t.sys.phase = .run ∧ t.sys.released = true ∧
    t.get F.MODE_STAT.MODE = 6 ∧ t.sys.safeCls = (if s.kln.cls5 then 5 else 3) ∧
      OnlyChanges { regs := true, mem := true, sys := true, fab := true, afe := true, hk := true, whl := true, pwm := true, cnv := true, fly := true, kln := true, spx := true, sup := true, act := true, thm := true, chg := true, tnd := true, upd := true, bus := true, xcp := true, olt := true } s t) ∧
  (s.sys.phase = .run → s.mode = 1 → Runs .startTimeout s fun t => t.sys.lastFault = 0x0401 ∧
    t.sys.reacts = s.sys.reacts ++ [⟨0x0401, 4, .other⟩] ∧ t.regs = s.regs ∧ OnlyChanges { sys := true, kln := true } s t) ∧
  (s.sys.phase = .hold → s.get F.START_LOG.FAILS < 3 → Runs .supEnHoldEnd s fun t => started (s.sys.kind % 4) t ∧
    RegsOnly [F.START_LOG.KIND.addr 0 0 0] s t ∧ OnlyChanges { regs := true, sys := true, fab := true, pwm := true, kln := true, act := true, tnd := true } s t) ∧
  (s.sys.phase = .hold → 3 ≤ s.get F.START_LOG.FAILS → Runs .supEnHoldEnd s fun t => t.sys.phase = .dormant ∧ t.sys.supEn = false ∧
    t.get F.START_LOG.START_LOCK = 1 ∧ t.kln.kstate = 4 ∧ OnlyChanges { regs := true, sys := true, fab := true, pwm := true, kln := true, act := true, tnd := true } s t) ∧
  (Runs .vbatCollapse s fun t => t.sys.phase = .noPower ∧ t.regs = [] ∧ t.tnd.fuse = s.tnd.fuse ∧ t.tnd.priv = s.tnd.priv ∧
    t.byte a = (if inMram a then s.byte a else 0) ∧ t.emb = State.reset.emb ∧ t.pending = s.pending)

/-- A warning and a fault of a monitored supply set their bits, a core or I/O fault holding the control die in reset with its domains
off; a recovery clears them and the condition of their Kiln entry; the domains go off one by one into DORMANT, where the Kiln is
in hold, and a latched wake begins a wake start. (02_modes_power_start.md R51, 02_modes_power_start.md R65,
02_modes_power_start.md R66, 02_modes_power_start.md R67, 02_modes_power_start.md R71, 02_modes_power_start.md R72,
13_charging_powerpath.md R393) -/
def Obligations.SuppliesAndDormant : Prop :=
  ∀ (s : State) (k : Supply) (above : Bool) (d e : Fin 11) (rest : List Nat),
  let warn := putBit s.sys.supWarn k.val true
  let flt := putBit s.sys.supFlt k.val true
  let pre := s.get F.CHG_PRE.PSTATE
  let started := fun (kind : Nat) (t : State) => t.sys.phase = .supplies ∧ t.sys.supEn = true ∧ t.sys.released = false ∧ t.get F.START_LOG.KIND = kind
  (monitored s k.val = true → s.sys.supWarn.testBit k.val = false → (k.val ≠ 0 ∨ above = true ∨ (pre ≠ 1 ∧ pre ≠ 2)) →
    Runs (.supplyWarning k above) s fun t => t.sys = { s.sys with supWarn := warn } ∧ (s.pdOn 8 = true → t.get F.SUP_STAT.WARN = warn % 32) ∧
      OnlyChanges { regs := true, sys := true, fab := true, pwm := true, cnv := true, kln := true, act := true } s t) ∧
  (monitored s 0 = true → s.sys.supWarn.testBit 0 = false → (pre = 1 ∨ pre = 2) → Runs (.supplyWarning 0 false) s fun t =>
    t.get F.CHG_PRE.PSTATE = 4 ∧ t.get F.CHG_PRE.FAIL = 3 ∧ t.sys.lastFault = 0x0D22 ∧ t.sys.supWarn = putBit s.sys.supWarn 0 true ∧
      OnlyChanges { regs := true, sys := true, fab := true, pwm := true, cnv := true, kln := true, act := true } s t) ∧
  (monitored s k.val = true → (k.val = 2 ∨ k.val = 4) → Runs (.supplyFault k above) s fun t => t.sys.supFlt = flt ∧
    t.bit F.SUP_STAT.FLT_SEEN k.val = true ∧ (k.val = 2 → t.kln.present.testBit 4 = true) ∧ t.sys.phase = s.sys.phase ∧
      OnlyChanges { regs := true, mem := true, sys := true, fab := true, afe := true, hk := true, whl := true, pwm := true, cnv := true, fly := true, kln := true, spx := true, sup := true, act := true, thm := true, chg := true, tnd := true, upd := true, bus := true, xcp := true, olt := true } s t) ∧
  (monitored s k.val = true → (k.val = 1 ∨ k.val = 3) → s.sys.phase ≠ .dormantEntry → Runs (.supplyFault k above) s fun t => t.sys.supFlt = flt ∧
    t.sys.phase = .dieReset ∧
    t.sys.released = false ∧ t.sys.trans = none ∧ (0 < d.val → t.pdOn d.val = false) ∧
      OnlyChanges { regs := true, mem := true, sys := true, fab := true, afe := true, hk := true, whl := true, pwm := true, cnv := true, fly := true, kln := true, spx := true, sup := true, act := true, thm := true, chg := true, tnd := true, upd := true, bus := true, xcp := true, olt := true } s t) ∧
  (monitored s k.val = true → (k.val = 1 ∨ k.val = 3) → s.sys.phase = .dormantEntry → Runs (.supplyFault k above) s fun t => t.sys.supFlt = flt ∧
    t.sys.phase = .dormantEntry ∧ t.sys.offSeq = [] ∧ (0 < d.val → t.pdOn d.val = false) ∧
      OnlyChanges { regs := true, mem := true, sys := true, fab := true, afe := true, hk := true, whl := true, pwm := true, cnv := true, fly := true, kln := true, spx := true, sup := true, act := true, thm := true, chg := true, tnd := true, upd := true, bus := true, xcp := true, olt := true } s t) ∧
  (monitored s 0 = false → Runs (.supplyFault 0 above) s fun t => t = { s with sys := { s.sys with vbat := if above then 2 else 1 } }) ∧
  (Runs (.supplyRecovery k false) s fun t => t.sys = { s.sys with supWarn := putBit s.sys.supWarn k.val false } ∧ t.kln = s.kln ∧
    (s.pdOn 8 = true → t.get F.SUP_STAT.WARN = putBit s.sys.supWarn k.val false % 32) ∧ RegsOnly [F.SUP_STAT.WARN.addr 0 0 0] s t ∧
      OnlyChanges { regs := true, sys := true, fab := true, pwm := true, kln := true, act := true } s t) ∧
  (k.val ≠ 0 → Runs (.supplyRecovery k true) s fun t => t.sys = { s.sys with supFlt := putBit s.sys.supFlt k.val false } ∧
    (k.val < 4 → t.kln.present.testBit (k.val + 2) = false) ∧ RegsOnly [F.SUP_STAT.WARN.addr 0 0 0] s t ∧
      OnlyChanges { regs := true, sys := true, fab := true, pwm := true, kln := true, act := true } s t) ∧
  (s.sys.phase = .dieReset → s.sys.supFlt.testBit 1 = false → s.sys.supFlt.testBit 3 = false → Runs .controlDieRelease s fun t => started 2 t ∧
    RegsOnly [F.START_LOG.KIND.addr 0 0 0] s t ∧ OnlyChanges { regs := true, sys := true, kln := true, tnd := true } s t) ∧
  (s.sys.phase = .dieReset → s.sys.supFlt.testBit 1 = true → Runs .controlDieRelease s fun t => t = s) ∧
  (s.sys.phase = .dormantEntry → s.sys.offSeq = e.val :: rest → 0 < e.val → Runs .dormantDomainOff s fun t => t.pdOn e.val = false ∧
    t.sys.offSeq = rest ∧ t.sys.phase = .dormantEntry ∧ OnlyChanges { regs := true, mem := true, sys := true, fab := true, afe := true, hk := true, whl := true, pwm := true, cnv := true, fly := true, kln := true, spx := true, sup := true, act := true, thm := true, chg := true, tnd := true, upd := true, bus := true, xcp := true, olt := true } s t) ∧
  (s.sys.phase = .dormantEntry → s.sys.offSeq = [] → Runs .dormantEntryComplete s fun t => t.mode = 0 ∧ t.sys.supEn = false ∧
    t.sys.released = false ∧ t.kln.kstate = 4 ∧ t.kln.present = 0 ∧ t.mem = s.mem ∧
      OnlyChanges { regs := true, sys := true, fab := true, pwm := true, kln := true, act := true } s t) ∧
  (s.sys.phase = .dormant → s.emb.latched = true → Runs .latchedWakeStart s fun t => started 1 t ∧ t.emb = { s.emb with latched := false } ∧
    RegsOnly [F.START_LOG.KIND.addr 0 0 0] s t ∧ OnlyChanges { regs := true, sys := true, emb := true, kln := true, tnd := true } s t) ∧
  (s.kln.kstate = 4 → s.sys.supEn = true → s.sys.vbat = 0 → Runs .kilnHoldExit s fun t =>
    t.kln.kstate = (if s.kln.locked = false then 1 else if kilnLatched s then 3 else 2) ∧
    t.sys = { s.sys with supFlt := putBit s.sys.supFlt 0 false } ∧
      OnlyChanges { regs := true, sys := true, fab := true, pwm := true, kln := true, act := true } s t)

/-- The flash is brought up, then the header, the descriptors, each component in the order of its offset, the configuration, the
write-once registers and the Kiln's table are taken once they pass their checks; a check that fails falls to the limp image with
its code, or stops the start, with 0x0330 in the limp image; a table already locked is kept and, where it differs, shown as old.
(03_skein.md R76, 03_skein.md R80, 03_skein.md R86, 03_skein.md R91, 03_skein.md R93, 03_skein.md R94, 03_skein.md R96,
03_skein.md R99, 02_modes_power_start.md R61, 02_modes_power_start.md R63, 15_safety.md R431, 18_update.md R524) -/
def Obligations.SkeinLoading : Prop :=
  ∀ (s : State) (f : FlashInfo) (h : Header) (ds : List Descriptor) (d : Descriptor) (x : Streamed) (y : ConfigIn) (wo : WriteOnce) (c : Nat)
    (b : BitVec 2) (i : Fin 32) (p : Fin 2),
  let l := s.sys.loader
  let failed := fun (code : Nat) (t : State) => t.sys.phase = .hold ∧ t.sys.supEn = false ∧
    t.get F.START_LOG.LAST_FAULT = (if l.limp then 0x0330 else code)
  let fell := fun (code : Nat) (t : State) => t.get F.SKN_STAT.LIMP_BOOT = 1 ∧ t.get F.SKN_STAT.LAST_CODE = code ∧
    t.sys.loader = { flashUp := true, limp := true } ∧ t.get F.SIG_CTL.DICT_OK = 0 ∧ t.fab.dict = []
  let u := applyConfig y (match l.hdr with | some h => h.flags.testBit 0 | none => false) s
  let bench := match l.hdr with | some h => h.flags.testBit 0 | none => false
  let images := y.sys.loops.all (fun e => l.done.any (fun k => k.type == 5 && k.inst == e.whorl)) = true
  let complete := l.descsOk = true ∧ l.configDone = false ∧ l.done.length = l.descs.length ∧ s.sys.linkUp = true ∧ ∀ k < 11, s.pdReady k = true
  let table := s.sys.kilnTable
  loading s = true →
  (s.pdReady 9 = true → l.flashUp = false →
    (f.readOk = true → f.sfdpOk = true → Runs (.flashInit f) s fun t => t.sys.loader = { l with flashUp := true } ∧ t.get F.SKN_STAT.FLASH_OK = 1 ∧
      t.get F.SKN_FLASH.DENSITY_LOG2 = f.densityLog2.val ∧ t.get F.SKN_FLASH.DUMMY = f.dummy.val ∧ t.get F.SKN_FLASH.PROTO = 2 ∧
      RegsOnly [F.SKN_STAT.FLASH_OK.addr 0 0 0, F.SKN_FLASH.PROTO.addr 0 0 0] s t ∧
        OnlyChanges { regs := true, mem := true, sys := true, fab := true, afe := true, hk := true, whl := true, pwm := true, cnv := true, fly := true, kln := true, spx := true, sup := true, act := true, thm := true, chg := true, tnd := true, upd := true, bus := true, xcp := true, olt := true } s t) ∧
    (f.readOk = true → f.sfdpOk = false → Runs (.flashInit f) s fun t => failed 0x0301 t ∧
      OnlyChanges { regs := true, mem := true, sys := true, fab := true, afe := true, hk := true, whl := true, pwm := true, cnv := true, fly := true, kln := true, spx := true, sup := true, act := true, thm := true, chg := true, tnd := true, upd := true, bus := true, xcp := true, olt := true } s t)) ∧
  (l.flashUp = true → l.headerOk = false → s.pdReady 1 = true → s.pdReady 9 = true →
    (l.limp = true ∨ (s.journal.op = 0 ∧ s.journal.steps = [] ∧ s.journal.nSteps = 0)) →
    (headerCode s h = none → h.flashMin ≤ flashSize s → Runs (.headerVerified h true) s fun t => t.sys.loader = { l with headerOk := true, hdr := some h } ∧
      t.sys.startTimeout = (if h.startTimeout = 0 then 500 else h.startTimeout) ∧ t.regs = s.regs ∧
        OnlyChanges { regs := true, mem := true, sys := true, fab := true, afe := true, hk := true, whl := true, pwm := true, cnv := true, fly := true, kln := true, spx := true, sup := true, act := true, thm := true, chg := true, tnd := true, upd := true, bus := true, xcp := true, olt := true } s t) ∧
    (headerCode s h = some c → l.limp = false → c < 65536 → Runs (.headerVerified h true) s fun t => fell c t ∧
      OnlyChanges { regs := true, mem := true, sys := true, fab := true, afe := true, hk := true, whl := true, pwm := true, cnv := true, fly := true, kln := true, spx := true, sup := true, act := true, thm := true, chg := true, tnd := true, upd := true, bus := true, xcp := true, olt := true } s t) ∧
    (Runs (.headerVerified h false) s fun t => failed 0x0302 t ∧
      OnlyChanges { regs := true, mem := true, sys := true, fab := true, afe := true, hk := true, whl := true, pwm := true, cnv := true, fly := true, kln := true, spx := true, sup := true, act := true, thm := true, chg := true, tnd := true, upd := true, bus := true, xcp := true, olt := true } s t)) ∧
  (l.flashUp = true → l.headerOk = false → s.pdReady 1 = true → s.pdReady 9 = true → l.limp = false → s.journal.op = 1 →
    Runs (.headerVerified h true) s fun t => fell 0x0224 t ∧ t.sys.lastFault = 0x0224 ∧
      OnlyChanges { regs := true, mem := true, sys := true, fab := true, afe := true, hk := true, whl := true, pwm := true, cnv := true, fly := true, kln := true, spx := true, sup := true, act := true, thm := true, chg := true, tnd := true, upd := true, bus := true, xcp := true, olt := true } s t) ∧
  (l.descsOk = false → l.hdr = some h →
    ((∀ e ∈ ds, descOk s h e = true) → ds.length = h.nDesc → slotsApart ds = true → setOk s ds = true →
      ifacesOk (ds.map (fun e => (e.provides, e.requires))) = true → Runs (.descriptorsVerified ds true) s fun t =>
        t = s.setLoader { l with descs := ds, descsOk := true }) ∧
    (ds.find? (fun e => !descOk s h e) = some d → d.flags.testBit 1 = false → l.limp = false → Runs (.descriptorsVerified ds true) s fun t =>
      fell 0x0307 t ∧ OnlyChanges { regs := true, mem := true, sys := true, fab := true, afe := true, hk := true, whl := true, pwm := true, cnv := true, fly := true, kln := true, spx := true, sup := true, act := true, thm := true, chg := true, tnd := true, upd := true, bus := true, xcp := true, olt := true } s t)) ∧
  (l.descsOk = true → l.configDone = false → nextDesc l = some d → destReady s d = true →
    (x.readOk = true → x.hashOk = true → (d.flags.testBit 0 = true → x.tagOk = true) → Runs (.componentVerified x) s fun t =>
      t.sys.loader.done = l.done ++ [compOf d] ∧ t.get F.SKN_STAT.N_COMP = (l.done.length + 1) % 256 ∧
      (d.type = 9 → t.sys.cfgVersion = d.version) ∧ (d.type = 5 → t.bytes (whlBase d.inst) x.data.length = x.data) ∧
        OnlyChanges { regs := true, mem := true, sys := true, fab := true, afe := true, hk := true, whl := true, pwm := true, cnv := true, fly := true, kln := true, spx := true, sup := true, act := true, thm := true, chg := true, tnd := true, upd := true, bus := true, xcp := true, olt := true } s t) ∧
    (x.readOk = true → x.hashOk = false → d.flags.testBit 1 = false → l.limp = false → Runs (.componentVerified x) s fun t => fell 0x030A t ∧
      OnlyChanges { regs := true, mem := true, sys := true, fab := true, afe := true, hk := true, whl := true, pwm := true, cnv := true, fly := true, kln := true, spx := true, sup := true, act := true, thm := true, chg := true, tnd := true, upd := true, bus := true, xcp := true, olt := true } s t)) ∧
  (complete → loaderOk y wo bench l.limp u = true → images → Runs (.configRecordsApply y wo) s fun t =>
    t = u.setLoader { u.sys.loader with configDone := true, wo := wo }) ∧
  (complete → loaderOk y wo bench l.limp u = false → l.limp = false → Runs (.configRecordsApply y wo) s fun t => fell 0x030B t ∧
    OnlyChanges { regs := true, mem := true, sys := true, emb := true, fab := true, afe := true, hk := true, whl := true, pwm := true, cnv := true, fly := true, kln := true, spx := true, sup := true, act := true, thm := true, chg := true, tnd := true, upd := true, bus := true, xcp := true, olt := true } s t) ∧
  (l.configDone = true → l.writeOnceDone = false →
    (l.wo.split = some b → (∀ k < 32, wlClosed s (F.PWM_LEG_FLOOR.FLOOR_TB.addr k 0 0) = false) →
      (∀ k < 2, wlClosed s (F.SPX_STAT.SPLIT.addr k 0 0) = false) → Runs (.writeOnceWrite true) s fun t => t.sys.loader.writeOnceDone = true ∧
        t.sys.kilnTable = l.wo.kilnTable.getD [] ∧ t.get F.SPX_STAT.SPLIT p.val = (b.getLsbD p.val).toNat ∧
        t.get F.PWM_LEG_FLOOR.FLOOR_TB i.val = getBits ((l.wo.dtFloor.getD []).getD i.val 0) F.PWM_LEG_FLOOR.FLOOR_TB.hi F.PWM_LEG_FLOOR.FLOOR_TB.lo ∧ OnlyChanges { regs := true, mem := true, sys := true, fab := true, afe := true, hk := true, whl := true, pwm := true, cnv := true, fly := true, kln := true, spx := true, sup := true, act := true, thm := true, chg := true, tnd := true, upd := true, bus := true, xcp := true, olt := true } s t) ∧
    (Runs (.writeOnceWrite false) s fun t => failed 0x030C t ∧
      OnlyChanges { regs := true, mem := true, sys := true, fab := true, afe := true, hk := true, whl := true, pwm := true, cnv := true, fly := true, kln := true, spx := true, sup := true, act := true, thm := true, chg := true, tnd := true, upd := true, bus := true, xcp := true, olt := true } s t)) ∧
  (l.writeOnceDone = true → l.tableSent = false → s.sys.linkUp = true → s.kln.tableCrc = false →
    (s.kln.locked = true → tbl32 table 0x1FC = tbl32 s.kln.table 0x1FC → Runs (.kilnTableTransfer true) s fun t =>
      t = s.setLoader { l with tableSent := true }) ∧
    (s.kln.locked = true → tbl32 table 0x1FC ≠ tbl32 s.kln.table 0x1FC → Runs (.kilnTableTransfer true) s fun t =>
      t = (s.set F.MODE_STAT.KILN_TABLE_OLD 1).setLoader { l with tableSent := true }) ∧
    (s.kln.locked = false → kilnTableOk table = true → Runs (.kilnTableTransfer true) s fun t => t.kln.locked = true ∧ t.kln.table = table ∧
      t.kln.tries = 0 ∧ t.sys.loader.tableSent = true ∧ OnlyChanges { regs := true, mem := true, sys := true, fab := true, afe := true, hk := true, whl := true, pwm := true, cnv := true, fly := true, kln := true, spx := true, sup := true, act := true, thm := true, chg := true, tnd := true, upd := true, bus := true, xcp := true, olt := true } s t) ∧
    (s.kln.locked = false → s.kln.tries < 2 → Runs (.kilnTableTransfer false) s fun t => t = s.setKln { s.kln with tries := s.kln.tries + 1 }) ∧
    (s.kln.locked = false → 2 ≤ s.kln.tries → Runs (.kilnTableTransfer false) s fun t => t.kln.tableCrc = true ∧ t.sys.phase = .hold ∧
      t.get F.START_LOG.LAST_FAULT = 0x0F20 ∧ OnlyChanges { regs := true, mem := true, sys := true, fab := true, afe := true, hk := true, whl := true, pwm := true, cnv := true, fly := true, kln := true, spx := true, sup := true, act := true, thm := true, chg := true, tnd := true, upd := true, bus := true, xcp := true, olt := true } s t)) ∧
  (l.flashUp = true → Runs .flashReadError s fun t => failed 0x0302 t ∧
    OnlyChanges { regs := true, mem := true, sys := true, fab := true, afe := true, hk := true, whl := true, pwm := true, cnv := true, fly := true, kln := true, spx := true, sup := true, act := true, thm := true, chg := true, tnd := true, upd := true, bus := true, xcp := true, olt := true } s t)

/-- A read of the flash window by a master that may read it answers what the flash holds; one during another operation answers a bus
error and is counted; a failing read after release raises READ_ERR with 0x0320; every other master and every address behind the
flash gets a bus error. (01_architecture.md R30, 01_architecture.md R31, 03_skein.md R98, 03_skein.md R99) -/
def Obligations.FlashWindowReads : Prop :=
  ∀ (s : State) (m : Master) (addr : BitVec 28) (v : Word),
  let open_ := flashReader s m = true ∧ s.pdReady 9 = true ∧ s.getB F.SKN_STAT.FLASH_OK = true ∧ addr.toNat < flashSize s
  (open_ → s.getB F.SKN_STAT.BUSY = false → Runs (.mmapFlashRead m addr v true) s fun t => t = s.answer (.data v.toNat)) ∧
  (open_ → s.getB F.SKN_STAT.BUSY = true → Runs (.mmapFlashRead m addr v true) s fun t => t.resp = .error ∧
    t.get F.SKN_ERR.MMAP_BUSY = min (s.get F.SKN_ERR.MMAP_BUSY + 1) 255 ∧ RegsOnly [F.SKN_ERR.SAT.addr 0 0 0] s t ∧
      OnlyChanges { regs := true, resp := true, sys := true, fab := true, kln := true } s t) ∧
  (open_ → s.getB F.SKN_STAT.BUSY = false → s.sys.released = true → Runs (.mmapFlashRead m addr v false) s fun t => t.resp = .error ∧
    t.get F.SKN_ERR.READ_ERR = min (s.get F.SKN_ERR.READ_ERR + 1) 255 ∧ t.sys.lastFault = 0x0320 ∧
      OnlyChanges { regs := true, resp := true, sys := true, fab := true, kln := true } s t) ∧
  ((flashReader s m = false ∨ flashSize s ≤ addr.toNat) → Runs (.mmapFlashRead m addr v true) s fun t => t = busError s) ∧
  (loading s = false → s.sys.released = true → s.pdReady 9 = true → Runs .flashReadError s fun t =>
    t.get F.SKN_ERR.READ_ERR = min (s.get F.SKN_ERR.READ_ERR + 1) 255 ∧ t.sys.lastFault = 0x0320 ∧ t.resp = s.resp ∧
      OnlyChanges { regs := true, mem := true, sys := true, fab := true, afe := true, hk := true, whl := true, pwm := true, cnv := true, fly := true, kln := true, spx := true, sup := true, act := true, thm := true, chg := true, tnd := true, upd := true, bus := true, xcp := true, olt := true } s t)

/-- Only an aligned 32-bit access of a permitted master to a domain that is on and filled reaches a register; an address without a
register ignores writes and reads zero; a plain write sets the RW fields, clears W1C and sets W1S fields by ones and leaves every
other bit; a plain read answers the register with its WO bits zero and clears its RC fields. (00_scope.md R3, 00_scope.md R4,
00_scope.md R6, 00_scope.md R8, 01_architecture.md R30, 01_architecture.md R32, 01_architecture.md R33) -/
def Obligations.RegisterAccess : Prop :=
  ∀ (s : State) (m : Master) (a : Word) (size : Fin 9) (v : Word) (x : WriteCtx) (g : RegGroup),
  let n := a.toNat
  let b := (n - 0x30000000) / 0x10000
  let o := (n - 0x30000000) % 0x10000
  let plain := [2, 3, 6, 7, 12, 18, 23].contains b = true
  let bits := fun (c : Acc) => BitVec.ofNat 32 (accMask n c)
  let old := s.rd n
  (size.val ≠ 4 → Runs (.registerWrite m a size v x) s (fun t => t = busError s) ∧ Runs (.registerRead m a size) s (fun t => t = busError s)) ∧
  (n % 4 ≠ 0 → Runs (.registerWrite m a size v x) s (fun t => t = busError s) ∧ Runs (.registerRead m a size) s (fun t => t = busError s)) ∧
  (inRegs n = false → Runs (.registerWrite m a size v x) s (fun t => t = busError s) ∧ Runs (.registerRead m a size) s (fun t => t = busError s)) ∧
  (inEmbMem n = false → s.pdReady (domainOf n) = false → Runs (.registerWrite m a size v x) s (fun t => t = busError s) ∧
    Runs (.registerRead m a size) s (fun t => t = busError s)) ∧
  (inRegs n = true → inEmbMem n = false → n % 4 = 0 → b ≠ 19 → s.pdReady (domainOf n) = true → blockWriter s m b o = true → groupAt n = none →
    Runs (.registerWrite m a 4 v x) s (fun t => t = s.answer .done)) ∧
  (inEmbMem n = false → blockWriter s m b o = false → Runs (.registerWrite m a 4 v x) s fun t => t = busError s) ∧
  (inRegs n = true → n % 4 = 0 → plain → s.pdReady (domainOf n) = true → blockWriter s m b o = true → groupAt n = some g →
    g.fields.any (fun f => f.acc == .wl) = false → Runs (.registerWrite m a 4 v x) s fun t =>
      t.rd n = ((old &&& ~~~bits .rw ||| v &&& bits .rw) &&& ~~~(v &&& bits .w1c)) ||| (v &&& bits .w1s) ∧
      t.resp = .done ∧ RegsOnly [n] s t ∧ OnlyChanges { regs := true, resp := true } s t) ∧
  (inRegs n = true → n % 4 = 0 → plain → b ≠ 3 → b ≠ 7 → s.pdReady (domainOf n) = true → m ≠ .debug → regReader s m n = true →
    Runs (.registerRead m a 4) s fun t => t.resp = .data (old &&& ~~~bits .wo).toNat ∧ t.rd n = old &&& ~~~bits .rc ∧ RegsOnly [n] s t ∧
      OnlyChanges { regs := true, resp := true } s t)

/-- A committed command of a mailbox's own source is served and its outcome returned at its end: GET_INFO, a challenge that replaces
the pending one, a response that grants its level, a password that grants L1 or counts a failure, CLOSE; an unknown code answers 1
and a busy mailbox 2; a failed signature locks challenges out with 0x0201; the end writes RESULT, OUT_LEN and TND_DATA; challenges
and lockouts expire; a failed health test issues 0x0204. (17_security_debug.md R486, 17_security_debug.md R487,
17_security_debug.md R488, 17_security_debug.md R494, 17_security_debug.md R496, 17_security_debug.md R497, 17_security_debug.md
R498, 17_security_debug.md R499, 17_security_debug.md R500, 17_security_debug.md R503) -/
def Obligations.TinderMailboxes : Prop :=
  ∀ (s : State) (m : Master) (mb : Fin 3) (purpose : Byte) (lifetime : BitVec 32) (argHash nonce hash life p : Nat) (a : AuthIn) (arg : PrivArg)
    (code : Byte) (d : TndDone) (i : Fin 64),
  let acc := s.pdReady 1 = true ∧ mailboxWriter s m mb.val = true ∧ s.getB F.TND_STAT.BUSY mb.val = false ∧ s.tnd.serving = none ∧
    s.tnd.waiting = [] ∧
    s.tnd.fuse.jtagOff = false ∧ s.tnd.testBad = false ∧ (s.sys.released = true ∨ mb.val ≠ 2)
  let served := fun (r : Nat) (out : List Byte) (t : State) => t.tnd.serving = some (mb.val, { result := r, out := out }) ∧
    t.get F.TND_STAT.BUSY mb.val = 1 ∧ t.tnd.waiting = [] ∧ t.resp = .done
  let asks := fun (r : Nat) => acc ∧ (∀ k, m ≠ .core k) ∧ SMap.get none s.tnd.chal mb.val = some ⟨r, life, a.argHash⟩ ∧ a.sigOk = true ∧
    (∃ k : Fin 4, SMap.get 0 s.tnd.fuse.keyHash k.val = a.keyHash ∧ a.keyHash ≠ 0 ∧ (SMap.get 0 s.tnd.fuse.role k.val).testBit 1 = true ∧
      s.tnd.fuse.revoked.testBit k.val = false)
  let done_ := fun (r : Nat) (out : List Byte) (t : State) => t.tnd = { s.tnd with serving := some (mb.val, { result := r, out := out }) } ∧
    t.get F.TND_STAT.BUSY mb.val = 1 ∧ t.resp = .done ∧ RegsOnly [F.TND_STAT.BUSY.addr mb.val 0 0] s t ∧
    OnlyChanges { regs := true, resp := true, tnd := true } s t
  let h := if purpose.toNat ≤ 3 then 0 else argHash
  let fails := s.tnd.priv.pwFails
  let level := asks p ∧ 0 < p ∧ p ≤ 3
  let asked := acc ∧ (∀ k, m ≠ .core k) ∧ s.tnd.priv.lockUntil = 0 ∧ s.tnd.fuse.pwOff = false ∧ lifecycle s ≠ 0 ∧ lifecycle s ≠ 4
  (acc → Runs (.getInfo m mb) s (done_ 0 (infoBytes s))) ∧
  (acc → (∀ k, m ≠ .core k) → Runs (.tndBadCommand m mb code) s (done_ 1 [])) ∧
  (s.pdReady 1 = true → mailboxWriter s m mb.val = true → s.getB F.TND_STAT.BUSY mb.val = true → Runs (.getInfo m mb) s fun t =>
    t = (s.answer .done).set F.TND_STAT.RESULT 2 mb.val) ∧
  (mailboxWriter s m mb.val = false → Runs (.getInfo m mb) s fun t => t = busError s) ∧
  (acc → (∀ k, m ≠ .core k) → s.tnd.lockout.testBit mb.val = false → s.tnd.rngBad = false → isPurpose purpose.toNat = true →
    (lifetime ≠ 0 ∨ lifecycle s = 1 ∨ lifecycle s = 3) → Runs (.challenge m mb purpose lifetime argHash nonce) s fun t =>
      served 0 (challengeBlock s mb.val purpose.toNat lifetime.toNat h nonce) t ∧
      SMap.get none t.tnd.chal mb.val = some ⟨purpose.toNat, lifetime.toNat, h⟩ ∧ OnlyChanges { regs := true, resp := true, tnd := true } s t) ∧
  (acc → (∀ k, m ≠ .core k) → s.tnd.lockout.testBit mb.val = true → Runs (.challenge m mb purpose lifetime argHash nonce) s (done_ 2 [])) ∧
  (acc → (∀ k, m ≠ .core k) → SMap.get none s.tnd.chal mb.val = none → Runs (.response m mb a arg) s (done_ 4 [])) ∧
  (level → p ≤ challengeLevel s → (p = 2 → l2Cond s = true) → s.dbgLevel ≤ p → Runs (.response m mb a arg) s fun t => served 0 [] t ∧
    t.dbgLevel = p ∧ t.get F.DBG_STAT.SOURCE = mb.val ∧ t.get F.DBG_STAT.LEFT = min life 131071 ∧ SMap.get none t.tnd.chal mb.val = none ∧
    t.tnd.expiry = (life != 0) ∧ OnlyChanges { regs := true, resp := true, fab := true, tnd := true } s t) ∧
  (level → challengeLevel s < p → Runs (.response m mb a arg) s fun t => served (levelRefusal s) [] t ∧ t.dbgLevel = s.dbgLevel ∧
    SMap.get none t.tnd.chal mb.val = none ∧ OnlyChanges { regs := true, resp := true, tnd := true } s t) ∧
  (asks p → Runs (.response m mb { a with sigOk := false } arg) s fun t => served 3 [] t ∧ t.tnd.lockout.testBit mb.val = true ∧
    t.sys.lastFault = 0x0201 ∧ t.dbgLevel = s.dbgLevel ∧ SMap.get none t.tnd.chal mb.val = none ∧
    OnlyChanges { regs := true, resp := true, sys := true, fab := true, tnd := true } s t) ∧
  (asked → s.tnd.priv.pwHash = some hash → Runs (.password m mb hash) s fun t => served 0 [] t ∧ t.tnd.priv = { s.tnd.priv with pwFails := 0 } ∧
    t.dbgLevel = max 1 s.dbgLevel ∧ OnlyChanges { regs := true, resp := true, fab := true, tnd := true } s t) ∧
  (asked → (∃ k, s.tnd.priv.pwHash = some k ∧ k ≠ hash) → Runs (.password m mb hash) s fun t => served 8 [] t ∧ t.tnd.priv.pwFails = fails + 1 ∧
    t.tnd.priv.lockUntil = (if 3 ≤ fails + 1 then s.get F.EMB_RTC_SEC.SEC + 3600 else 0) ∧
    t.sys.lastFault = (if 3 ≤ fails + 1 then 0x0203 else 0x0202) ∧ t.dbgLevel = s.dbgLevel ∧
    OnlyChanges { regs := true, resp := true, sys := true, fab := true, tnd := true } s t) ∧
  (acc → (∀ k, m ≠ .core k) → s.tnd.priv.pwHash = none → s.tnd.priv.lockUntil = 0 → Runs (.password m mb hash) s (done_ 6 [])) ∧
  (acc → (∀ k, m ≠ .core k) → Runs (.close m mb) s fun t => served 0 [] t ∧ t.dbgLevel = 0 ∧
    OnlyChanges { regs := true, resp := true, fab := true, spx := true, tnd := true, xcp := true } s t) ∧
  (s.tnd.serving = some (mb.val, d) → d.wait = false → s.tnd.waiting = [] → s.olt.test = none → Runs .tndCommandDone s fun t =>
    t.get F.TND_STAT.RESULT mb.val = d.result % 256 ∧ t.get F.TND_STAT.OUT_LEN mb.val = min d.out.length 256 ∧ t.get F.TND_STAT.DONE mb.val = 1 ∧
    t.get F.TND_STAT.BUSY mb.val = 0 ∧ (4 * i.val < min d.out.length 256 →
      t.get F.TND_DATA.DATA mb.val i.val = fromBytes ((d.out.drop (4 * i.val)).take 4)) ∧ t.tnd = { s.tnd with serving := none } ∧
    OnlyChanges { regs := true, fab := true, tnd := true } s t) ∧
  (Runs (.challengeExpiry mb) s fun t => t = s.setTnd { s.tnd with chal := SMap.put none s.tnd.chal mb.val none }) ∧
  (Runs (.challengeLockoutEnd mb) s fun t => t = s.setTnd { s.tnd with lockout := putBit s.tnd.lockout mb.val false }) ∧
  (s.pdReady 1 = true → s.tnd.rngBad = false → Runs .healthTestFail s fun t => t.tnd = { s.tnd with rngBad := true } ∧ t.sys.lastFault = 0x0204 ∧
    OnlyChanges { regs := true, sys := true, fab := true, kln := true, tnd := true } s t)

/-- With a response to its challenge at the level its command needs, a password hash, a freshness value, a lifecycle step, a security
version, a key slot or a revocation is written, and a lifecycle step drops the debug level and destroys the Skein key on RETURNED;
a key import with a good tag writes its slot, through mailbox 2 it answers 12; the self-test begins where an online test may.
(17_security_debug.md R487, 17_security_debug.md R488, 17_security_debug.md R489, 17_security_debug.md R490, 17_security_debug.md
R491, 17_security_debug.md R492, 17_security_debug.md R497, 17_security_debug.md R498, 17_security_debug.md R503, 16_bus.md R477,
21_online_test.md R566) -/
def Obligations.TinderPrivileged : Prop :=
  ∀ (s : State) (m : Master) (mb : Fin 3) (a : AuthIn) (life hash key : Nat) (d : Fin 128) (v : BitVec 32) (target : Fin 5) (ctr : Fin 257)
    (k roles : Fin 4) (slot : Byte),
  let acc := s.pdReady 1 = true ∧ mailboxWriter s m mb.val = true ∧ s.getB F.TND_STAT.BUSY mb.val = false ∧ s.tnd.serving = none ∧
    s.tnd.waiting = [] ∧
    s.tnd.fuse.jtagOff = false ∧ s.tnd.testBad = false ∧ (s.sys.released = true ∨ mb.val ≠ 2)
  let served := fun (r : Nat) (out : List Byte) (t : State) => t.tnd.serving = some (mb.val, { result := r, out := out }) ∧
    t.get F.TND_STAT.BUSY mb.val = 1 ∧ t.tnd.waiting = [] ∧ t.resp = .done
  let asks := fun (r : Nat) => acc ∧ (∀ k, m ≠ .core k) ∧ SMap.get none s.tnd.chal mb.val = some ⟨r, life, a.argHash⟩ ∧ a.sigOk = true ∧
    (∃ k : Fin 4, SMap.get 0 s.tnd.fuse.keyHash k.val = a.keyHash ∧ a.keyHash ≠ 0 ∧ (SMap.get 0 s.tnd.fuse.role k.val).testBit 1 = true ∧
      s.tnd.fuse.revoked.testBit k.val = false)
  let may := 3 ≤ challengeLevel s
  let plain := OnlyChanges { regs := true, resp := true, tnd := true } s
  let fuse := s.tnd.fuse
  let r := putBit fuse.revoked k.val true
  (asks 0x06 → may → Runs (.pwSet m mb (some a) hash) s fun t => served 0 [] t ∧ t.tnd.priv = { s.tnd.priv with pwHash := some hash } ∧ plain t) ∧
  (acc → (∀ k, m ≠ .core k) → Runs (.pwSet m mb none hash) s fun t => served 1 [] t ∧ t.tnd.priv = s.tnd.priv ∧ plain t) ∧
  (asks 0x11 → may → Runs (.freshSet m mb (some a) d false v) s fun t => served 0 [] t ∧ SMap.get 0 t.bus.reel.last d.val = v.toNat ∧
    t.load (freshKey false d.val) 4 = v.toNat ∧ BytesOnly (freshKey false d.val) 4 s t ∧
    OnlyChanges { regs := true, mem := true, resp := true, tnd := true, bus := true } s t) ∧
  (asks 0x11 → may → Runs (.freshSet m mb (some a) d true v) s fun t => served 0 [] t ∧ SMap.get 0 t.bus.reel.txF d.val = v.toNat ∧
    t.load (freshKey true d.val) 4 = v.toNat ∧ OnlyChanges { regs := true, mem := true, resp := true, tnd := true, bus := true } s t) ∧
  (asks 0x30 → (s.mode = 2 ∨ s.mode = 6 ∨ s.mode = 7) → gatesOff s = true → lcStep s target.val = true → fuse.lc.length = 4 →
    Runs (.lcAdvance m mb (some a) target 3) s fun t => served 0 [] t ∧ lifecycle t = target.val ∧ t.dbgLevel = 0 ∧ t.tnd.chal = [] ∧
      t.get F.TND_INFO.LC = target.val ∧ (target.val = 3 → t.tnd.fuse.skeinKey = 2 ^ 256 - 1) ∧
      OnlyChanges { regs := true, resp := true, fab := true, spx := true, tnd := true, xcp := true } s t) ∧
  (asks 0x30 → (gatesOff s = false ∨ s.mode = 3) → Runs (.lcAdvance m mb (some a) target 3) s fun t => served 5 [] t ∧ t.tnd.fuse = fuse ∧ plain t) ∧
  (asks 0x31 → may → fuse.secCtr ≤ ctr.val → Runs (.secAdvance m mb (some a) false ctr) s fun t => served 0 [] t ∧
    t.tnd.fuse = { fuse with secCtr := ctr.val } ∧ t.get F.TND_INFO.SEC_CTR = ctr.val ∧ plain t) ∧
  (asks 0x31 → may → ctr.val < fuse.secCtr → Runs (.secAdvance m mb (some a) false ctr) s fun t => served 11 [] t ∧ t.tnd.fuse = fuse ∧ plain t) ∧
  (asks 0x32 → may → SMap.get 0 fuse.keyHash k.val = 0 → hash ≠ 0 → Runs (.keyProvision m mb (some a) (.keySlot k roles hash)) s fun t =>
    served 0 [] t ∧ SMap.get 0 t.tnd.fuse.keyHash k.val = hash ∧ SMap.get 0 t.tnd.fuse.role k.val = roles.val ∧ plain t) ∧
  (asks 0x33 → may → slotWith s 0 r = true → slotWith s 1 r = true → Runs (.keyRevoke m mb (some a) k) s fun t => served 0 [] t ∧
    t.tnd.fuse = { fuse with revoked := r } ∧ plain t) ∧
  (acc → (∀ k, m ≠ .core k) → mb.val ≠ 2 → slot.toNat < 32 → fuse.skeinKey ≠ 0 → fuse.skeinKey ≠ 2 ^ 256 - 1 →
    Runs (.keyImport m mb slot key true) s fun t =>
    served 0 [] t ∧ SMap.get 0 t.tnd.priv.keys slot.toNat = key ∧ t.tnd.fuse = fuse ∧ (16 ≤ slot.toNat → plain t)) ∧
  (acc → (∀ k, m ≠ .core k) → mb.val = 2 → Runs (.keyImport m mb slot key true) s fun t => served 12 [] t ∧ t.tnd.priv = s.tnd.priv ∧ plain t) ∧
  (acc → (∀ k, m ≠ .core k) → (s.mode = 1 ∨ s.mode = 2 ∨ s.mode = 7) → s.olt.test = none → Runs (.selfTest m mb true) s fun t => served 0 [] t ∧
    t.olt = { s.olt with test := some (5, 0) } ∧ t.get F.DBG_OLT_REQ.BUSY = 1 ∧
    OnlyChanges { regs := true, resp := true, tnd := true, olt := true } s t)

/-- A service with an imported key where it needs one, with a good source and a destination within shared SRAM, writes what its engine
gives and answers 0, RANDOM at most 256 bytes; a check that does not hold answers 3, a key that is missing 9, and a random number
after a failed health test 10; the verifications write nothing. (17_security_debug.md R486, 17_security_debug.md R487,
17_security_debug.md R488, 17_security_debug.md R490) -/
def Obligations.TinderServices : Prop :=
  ∀ (s : State) (m : Master) (mb : Fin 3) (x : ServiceIn),
  let acc := s.pdReady 1 = true ∧ mailboxWriter s m mb.val = true ∧ s.getB F.TND_STAT.BUSY mb.val = false ∧ s.tnd.serving = none ∧
    s.tnd.waiting = [] ∧
    s.tnd.fuse.jtagOff = false ∧ s.tnd.testBad = false ∧ (s.sys.released = true ∨ mb.val ≠ 2)
  let served := fun (r : Nat) (out : List Byte) (t : State) => t.tnd.serving = some (mb.val, { result := r, out := out }) ∧
    t.get F.TND_STAT.BUSY mb.val = 1 ∧ t.tnd.waiting = [] ∧ t.resp = .done
  let plain := OnlyChanges { regs := true, resp := true, tnd := true } s
  let from_ := acc ∧ mb.val ≠ 2
  let keyed := 16 ≤ x.slot ∧ x.slot < 32 ∧ SMap.get 0 s.tnd.priv.keys x.slot ≠ 0
  let buf := x.srcOk = true ∧ inSram x.dst = true ∧ x.dst + x.out.length ≤ 0x11000000
  let wrote := fun (out : List Byte) (t : State) => served 0 [] t ∧ t.bytes x.dst out.length = out ∧ BytesOnly x.dst out.length s t ∧
    OnlyChanges { regs := true, mem := true, resp := true, fab := true, tnd := true } s t
  (from_ → keyed → buf → x.ok = true → Runs (.aesGcm m mb x) s (wrote x.out)) ∧
  (from_ → keyed → buf → x.ok = false → Runs (.aesGcm m mb x) s fun t => served 3 [] t ∧ plain t) ∧
  (from_ → 16 ≤ x.slot → x.slot < 32 → SMap.get 0 s.tnd.priv.keys x.slot = 0 → Runs (.cmac m mb x) s fun t => served 9 [] t ∧ plain t) ∧
  (from_ → keyed → buf → x.ok = true → Runs (.cmac m mb x) s (wrote x.out)) ∧
  (from_ → buf → x.ok = true → Runs (.hash m mb x) s (wrote x.out)) ∧
  (from_ → buf → x.ok = true → Runs (.ecdsaVerify m mb x) s fun t => served 0 [] t ∧ plain t) ∧
  (from_ → buf → x.ok = false → Runs (.ecdsaVerify m mb x) s fun t => served 3 [] t ∧ plain t) ∧
  (from_ → buf → x.ok = true → Runs (.lmsVerify m mb x) s fun t => served 0 [] t ∧ plain t) ∧
  (from_ → buf → x.ok = false → Runs (.lmsVerify m mb x) s fun t => served 3 [] t ∧ plain t) ∧
  (from_ → s.tnd.rngBad = false → buf → x.ok = true → Runs (.random m mb x) s (wrote (x.out.take 256))) ∧
  (from_ → s.tnd.rngBad = true → Runs (.random m mb x) s fun t => served 10 [] t ∧ plain t) ∧
  (acc → mb.val = 2 → Runs (.hash m mb x) s fun t => served 12 [] t ∧ plain t)

/-- UPD_BEGIN accepts a manifest that passes every check: its SEQ, hash, steps and probation time enter the journal and STATE is
ACCEPTED; a failed check answers its RESULT and REASON with 0x0220 and starts nothing; a second manifest is out of order.
UPD_WRITE of the next step marks it writing and keeps the flash busy until FLASH_OPERATION_DONE, which ends the command with the
step number and the step written; a failed read-back repeats the step once. UPD_STATUS answers the journal. (18_update.md R509,
18_update.md R510, 18_update.md R511, 18_update.md R512, 18_update.md R513, 18_update.md R514, 18_update.md R515) -/
def Obligations.UpdateBeginAndWrite : Prop :=
  ∀ (s : State) (m : Master) (mb : Fin 3) (x : Manifest) (y : ManStep) (k r reason : Nat),
  let go := s.pdReady 1 = true ∧ mailboxWriter s m mb.val = true ∧ s.getB F.TND_STAT.BUSY mb.val = false ∧ s.tnd.serving = none ∧ s.tnd.waiting = [] ∧
    s.tnd.fuse.jtagOff = false ∧ (s.sys.released = true ∨ mb.val ≠ 2) ∧ (mb.val ≠ 2 ∨ s.dbgLevel = 3) ∧ (∀ k, m ≠ .core k)
  let served := fun (r : Nat) (out : List Byte) (t : State) => t.tnd.serving = some (mb.val, { result := r, out := out }) ∧
    t.get F.TND_STAT.BUSY mb.val = 1 ∧ t.tnd.waiting = [] ∧ t.resp = .done
  let goesOn := fun (t : State) => t.tnd.serving = some (mb.val, { wait := true }) ∧ t.get F.TND_STAT.BUSY mb.val = 1 ∧ t.tnd.waiting = [] ∧
    t.resp = .done
  let plain := OnlyChanges { regs := true, resp := true, tnd := true } s
  let j := s.journal
  let free := s.upd.man = none ∧ s.upd.revertAt = none
  (go → free → beginCheck s x = none → s.sys.loader.limp = false → Runs (.updBegin m mb x) s fun t => served 0 [] t ∧
    t.upd.man = some x ∧ t.journal = { lastSeq := x.seq, manifest := x.hash, nSteps := x.steps.length, probT := x.probT } ∧
    t.get F.UPD_STAT.STATE = 1 ∧ t.get F.UPD_STAT.N_STEPS = x.steps.length ∧ t.get F.UPD_STAT.STEP = 0 ∧ t.sys.lastFault = s.sys.lastFault ∧
    RegsOnly [F.UPD_STAT.STATE.addr 0 0 0, F.TND_STAT.BUSY.addr mb.val 0 0] s t ∧
    OnlyChanges { regs := true, resp := true, tnd := true, upd := true } s t) ∧
  (go → free → beginCheck s x = some (r, reason) → Runs (.updBegin m mb x) s fun t => served r [] t ∧ t.sys.lastFault = 0x0220 ∧
    t.get F.UPD_STAT.REASON = reason % 16 ∧ t.journal = { j with reason := reason } ∧
    RegsOnly [F.UPD_STAT.STATE.addr 0 0 0, F.TND_STAT.BUSY.addr mb.val 0 0] s t ∧
    OnlyChanges { regs := true, resp := true, sys := true, fab := true, tnd := true } s t) ∧
  (go → (s.upd.man.isSome = true ∨ s.upd.revertAt.isSome = true) → Runs (.updBegin m mb x) s fun t => served 11 [] t ∧
    t.get F.UPD_STAT.REASON = 7 ∧ t.journal = { j with reason := 7 } ∧ plain t) ∧
  (go → nextWrite s = some k → manStep s k = some y → s.upd.revertAt = none → j.op = 0 → y.hashOk = true →
    (y.desc.flags.testBit 0 = true → y.tagOk = true) → Runs (.updWrite m mb) s fun t => goesOn t ∧
      t.journal = { j with steps := SMap.put 0 j.steps k 1, op := 1, step := k } ∧ t.get F.UPD_STAT.STATE = 2 ∧ t.get F.UPD_STAT.STEP = k % 32 ∧
      t.get F.SKN_STAT.BUSY = 1 ∧ t.sys = s.sys ∧ OnlyChanges { regs := true, resp := true, tnd := true, upd := true } s t) ∧
  (go → nextWrite s = none → Runs (.updWrite m mb) s fun t => served 11 [] t ∧ t.get F.UPD_STAT.REASON = 7 ∧ t.journal = { j with reason := 7 } ∧
    plain t) ∧
  (s.pdReady 1 = true → s.pdReady 9 = true → s.sys.released = true → j.op = 1 → s.upd.revertAt = none →
    (s.tnd.serving = some (mb.val, { wait := true }) → Runs (.flashOperationDone true) s fun t =>
      t.tnd.serving = some (mb.val, { result := 0, out := [BitVec.ofNat 8 j.step] }) ∧
      t.journal = { j with steps := SMap.put 0 j.steps j.step 2, op := 0 } ∧ t.get F.SKN_STAT.BUSY = 0 ∧
      RegsOnly [F.UPD_STAT.STATE.addr 0 0 0, F.SKN_STAT.BUSY.addr 0 0 0] s t ∧ OnlyChanges { regs := true, fab := true, tnd := true } s t) ∧
    (s.upd.retried = false → Runs (.flashOperationDone false) s fun t => t = s.setUpd { s.upd with retried := true })) ∧
  (go → Runs (.updStatus m mb) s fun t => t.tnd = { s.tnd with serving := some (mb.val, { result := 0, out := journalBytes j }) } ∧
    t.resp = .done ∧ RegsOnly [F.TND_STAT.BUSY.addr mb.val 0 0] s t ∧ plain t)

/-- UPD_ACTIVATE of the written step makes a NEXT_START step active at once with the deadline PROB_T away; an Ember program waits for
the pass boundary; a Whorl step without a standby answers 5 with REASON 9, a pair step outside R518's conditions 5 with REASON 8,
and within them its handover waits; with no written step it is out of order. A pair's handover is disarmed, its TCMs are loaded
from the new image, and a migration that is late ends with REASON 12 and 0x0222. (18_update.md R509, 18_update.md R513,
18_update.md R516, 18_update.md R517, 18_update.md R518, 18_update.md R520) -/
def Obligations.UpdateActivation : Prop :=
  ∀ (s : State) (m : Master) (mb : Fin 3) (y : ManStep) (k : Nat) (p : Fin 2),
  let go := s.pdReady 1 = true ∧ mailboxWriter s m mb.val = true ∧ s.getB F.TND_STAT.BUSY mb.val = false ∧ s.tnd.serving = none ∧ s.tnd.waiting = [] ∧
    s.tnd.fuse.jtagOff = false ∧ (s.sys.released = true ∨ mb.val ≠ 2) ∧ (mb.val ≠ 2 ∨ s.dbgLevel = 3) ∧ (∀ k, m ≠ .core k)
  let served := fun (r : Nat) (out : List Byte) (t : State) => t.tnd.serving = some (mb.val, { result := r, out := out }) ∧
    t.get F.TND_STAT.BUSY mb.val = 1 ∧ t.tnd.waiting = [] ∧ t.resp = .done
  let goesOn := fun (t : State) => t.tnd.serving = some (mb.val, { wait := true }) ∧ t.get F.TND_STAT.BUSY mb.val = 1 ∧ t.tnd.waiting = [] ∧
    t.resp = .done
  let plain := OnlyChanges { regs := true, resp := true, tnd := true } s
  let j := s.journal
  let type := y.desc.type
  let inst := y.desc.inst
  let written := go ∧ (List.range 28).find? (fun i => s.stepState i == 2) = some k ∧ manStep s k = some y ∧ s.upd.revertAt = none ∧
    SMap.get 0 s.upd.want inst = 0 ∧ SMap.get 0 s.upd.want (16 + whorlNow s inst) = 0
  let image := SMap.get [] s.upd.newImg (imgKey 4 p.val)
  (written → y.act = true → Runs (.updActivate m mb) s fun t => served 0 [BitVec.ofNat 8 k] t ∧
    t.journal = { j with steps := SMap.put 0 j.steps k 3, deadline := s.get F.EMB_RTC_SEC.SEC + j.probT } ∧
    t.get F.UPD_STAT.OLD_KEPT = 1 ∧ t.get F.UPD_STAT.STATE = 4 ∧
    RegsOnly [F.UPD_STAT.STATE.addr 0 0 0, F.TND_STAT.BUSY.addr mb.val 0 0] s t ∧
    OnlyChanges { regs := true, resp := true, fab := true, tnd := true, upd := true } s t) ∧
  (written → y.act = false → type = 2 → s.emb.inPass = true → Runs (.updActivate m mb) s fun t => served 0 [BitVec.ofNat 8 k] t ∧
    t.emb = { s.emb with progNext := some y.program } ∧ t.stepState k = 3 ∧
    OnlyChanges { regs := true, resp := true, sys := true, emb := true, fab := true, tnd := true, upd := true } s t) ∧
  (written → y.act = false → type = 5 → standbyFor s = none → Runs (.updActivate m mb) s fun t => served 5 [] t ∧
    t.get F.UPD_STAT.REASON = 9 ∧ t.journal = { j with reason := 9 } ∧ plain t) ∧
  (written → y.act = false → type = 4 → spxHandoverOk s inst y.migT = false → Runs (.updActivate m mb) s fun t => served 5 [] t ∧
    t.get F.UPD_STAT.REASON = 8 ∧ t.journal = { j with reason := 8 } ∧ plain t) ∧
  (written → y.act = false → type = 4 → spxHandoverOk s inst y.migT = true → Runs (.updActivate m mb) s fun t => goesOn t ∧
    SMap.get 0 t.upd.want inst = 1 ∧ t.get F.UPD_STAT.STATE = 3 ∧ t.journal = j ∧
    OnlyChanges { regs := true, resp := true, tnd := true, upd := true } s t) ∧
  (go → (∀ i, i < 28 → s.stepState i ≠ 2) → Runs (.updActivate m mb) s fun t => served 11 [] t ∧ t.get F.UPD_STAT.REASON = 7 ∧
    t.journal = { j with reason := 7 } ∧ plain t) ∧
  (s.pdReady 1 = true → Runs (.spxHandoverDisarm p) s fun t => t = s.set (if p.val = 0 then F.UPD_SPX.ARMED_A else F.UPD_SPX.ARMED_B) 0) ∧
  (s.pdReady (2 + p.val) = true → SMap.get 0 s.upd.migr p.val = 1 → SMap.get 0 s.upd.want p.val ≠ 2 → Runs (.spxTcmLoadDone p) s fun t =>
    SMap.get 0 t.upd.migr p.val = 2 ∧
    (∀ c : Fin 2, t.bytes (tcmKey (2 * p.val + c.val) 0) (min image.length 0x80000) = image.take 0x80000) ∧
      OnlyChanges { mem := true, fab := true, upd := true } s t) ∧
  (s.pdReady (2 + p.val) = true → SMap.get 0 s.upd.migr p.val = 2 → Runs (.migrationTimeout p) s fun t =>
    SMap.get 0 t.upd.migr p.val = 0 ∧ SMap.get 0 t.upd.want p.val = 0 ∧ t.get F.SPX_STAT.STATE p.val = 4 ∧ t.get F.UPD_STAT.REASON = 12 ∧
    t.journal = { j with reason := 12 } ∧ t.sys.lastFault = 0x0222 ∧
      OnlyChanges { regs := true, sys := true, kln := true, spx := true, sup := true, chg := true, tnd := true, upd := true, xcp := true } s t)

/-- UPD_CONFIRM with every step active goes on to CONFIRMING, and the end of its flash operation clears the journal and, with ADVANCE,
raises SEC_CTR; UPD_REVERT with nothing written clears the update with 0x0223 and REASON 15, and after a START it is out of order;
with a written step it begins the flash rewrite in STATE REVERTING; the deadline passing after a START sets PROB_CNT to 3 with
0x0225. (18_update.md R509, 18_update.md R513, 18_update.md R520, 18_update.md R521, 18_update.md R522, 18_update.md R523) -/
def Obligations.UpdateEnds : Prop :=
  ∀ (s : State) (m : Master) (mb : Fin 3) (advance : Bool),
  let go := s.pdReady 1 = true ∧ mailboxWriter s m mb.val = true ∧ s.getB F.TND_STAT.BUSY mb.val = false ∧ s.tnd.serving = none ∧ s.tnd.waiting = [] ∧
    s.tnd.fuse.jtagOff = false ∧ (s.sys.released = true ∨ mb.val ≠ 2) ∧ (mb.val ≠ 2 ∨ s.dbgLevel = 3) ∧ (∀ k, m ≠ .core k)
  let served := fun (r : Nat) (out : List Byte) (t : State) => t.tnd.serving = some (mb.val, { result := r, out := out }) ∧
    t.get F.TND_STAT.BUSY mb.val = 1 ∧ t.tnd.waiting = [] ∧ t.resp = .done
  let goesOn := fun (t : State) => t.tnd.serving = some (mb.val, { wait := true }) ∧ t.get F.TND_STAT.BUSY mb.val = 1 ∧ t.tnd.waiting = [] ∧
    t.resp = .done
  let plain := OnlyChanges { regs := true, resp := true, tnd := true } s
  let j := s.journal
  let allActive := j.nSteps ≠ 0 ∧ ∀ k, k < j.nSteps → s.stepState k = 3
  let hitless := ∃ x, s.upd.man = some x ∧ ∀ y ∈ x.steps, y.act = false
  let mayRevert := go ∧ s.upd.man.isSome = true ∧ j.started = false ∧ s.upd.revertAt = none ∧ j.op = 0
  (go → allActive → (j.started = true ∨ hitless) → s.upd.revertAt = none → j.op = 0 → s.sys.loader.limp = false →
    Runs (.updConfirm m mb advance) s fun t => goesOn t ∧ t.journal.op = 2 ∧ t.journal.advance = advance ∧
      (∀ e ∈ t.journal.steps, e.2 = 4) ∧ t.get F.UPD_STAT.STATE = 5 ∧ t.get F.SKN_STAT.BUSY = 1 ∧ plain t) ∧
  (go → ¬ allActive → Runs (.updConfirm m mb advance) s fun t => served 11 [] t ∧ t.get F.UPD_STAT.REASON = 7 ∧ plain t) ∧
  (s.pdReady 1 = true → s.pdReady 9 = true → s.sys.released = true → j.op = 2 → s.upd.man = none → Runs (.flashOperationDone true) s fun t =>
    t.journal = { lastSeq := j.lastSeq, manifest := j.manifest, reason := j.reason } ∧ t.upd = {} ∧ t.get F.UPD_STAT.PROB_CNT = 0 ∧
    t.get F.UPD_STAT.STATE = 0 ∧ t.get F.UPD_STAT.OLD_KEPT = 0 ∧ t.get F.SKN_STAT.BUSY = 0 ∧
    t.tnd.fuse = (if j.advance then { s.tnd.fuse with secCtr := max s.tnd.fuse.secCtr j.next } else s.tnd.fuse) ∧
    OnlyChanges { regs := true, fab := true, tnd := true, upd := true } s t) ∧
  (mayRevert → (∀ e ∈ j.steps, e.2 < 2) → Runs (.updRevert m mb) s fun t => served 0 [] t ∧
    t.journal = { lastSeq := j.lastSeq, manifest := j.manifest, reason := 15 } ∧ t.upd.man = none ∧ t.get F.UPD_STAT.STATE = 0 ∧
    t.get F.UPD_STAT.REASON = 15 ∧ t.sys.lastFault = 0x0223 ∧
    OnlyChanges { regs := true, resp := true, sys := true, fab := true, tnd := true, upd := true } s t) ∧
  (mayRevert → (∃ e ∈ j.steps, e.2 = 2) → (∀ k, s.stepState k ≠ 3) → Runs (.updRevert m mb) s fun t => goesOn t ∧
    t.journal = { j with reason := 15, op := 3 } ∧ t.get F.UPD_STAT.STATE = 6 ∧ t.get F.UPD_STAT.REASON = 15 ∧ t.get F.SKN_STAT.BUSY = 1 ∧
    t.upd = { s.upd with revertAt := some 1 } ∧ plain { t with upd := s.upd }) ∧
  (go → j.started = true → Runs (.updRevert m mb) s fun t => served 11 [] t ∧ t.get F.UPD_STAT.REASON = 7 ∧ t.upd = s.upd ∧ plain t) ∧
  (s.pdReady 1 = true → s.sys.released = true → j.started = true → (∃ e ∈ j.steps, e.2 = 3) → Runs .probationDeadline s fun t =>
    t.journal = { j with probCnt := 3 } ∧ t.get F.UPD_STAT.PROB_CNT = 3 ∧ t.sys.lastFault = 0x0225 ∧
    RegsOnly [F.UPD_STAT.STATE.addr 0 0 0] s t ∧ OnlyChanges { regs := true, sys := true, tnd := true } s t)

/-- CONNECT at L1 opens a session and DISCONNECT, a timeout or a missing level closes or refuses it; outside a session no command does
anything and at L0 each is refused; an upload reads the dictionary from the transfer address and advances it, a download writes an
entry like a write of its own, and pages are selected, reported and copied; an unknown command is refused. (16_bus.md R480,
16_bus.md R481, 16_bus.md R482, 16_bus.md R483, 16_bus.md R484, 17_security_debug.md R503, 20_memory_events.md R561) -/
def Obligations.XcpSession : Prop :=
  ∀ (s : State) (fd : Bool) (addr : Word) (n mode page src dst code : Byte) (data l : List _) (r w : Nat × Nat) (old : Word),
  let live := xcpServes s = true
  let may := live ∧ 1 ≤ s.dbgLevel
  let cal := may ∧ calAllowed s = true
  let closed := { s.xcp with connected := false, lists := s.xcp.lists.map (fun x => { x with running := false, sample := none }) }
  let k := (s.xcp.mta - 0x50000000) / 8
  let bs := toBytes 4 old.toNat
  let v := BitVec.ofNat 32 (fromBytes (bs.take (s.xcp.mta % 8) ++ data ++ bs.drop (s.xcp.mta % 8 + data.length)))
  let u := sigWrite k v .clean s
  let at_ := s.setXcp { s.xcp with mta := addr.toNat }
  (pairBRuns s = true → s.xcp.connected = true → Runs .xcpTimeout s fun t => t.xcp = closed ∧
    OnlyChanges { regs := true, fab := true, xcp := true } s t) ∧
  (pairBRuns s = true → s.pdReady 8 = true → 1 ≤ s.dbgLevel → Runs (.xcpConnect fd) s fun t => (∃ b, t.xcp.reply = .ok b) ∧
    t.xcp = { s.xcp with connected := true, fd := fd, reply := t.xcp.reply } ∧ OnlyChanges { regs := true, fab := true, xcp := true } s t) ∧
  (pairBRuns s = true → s.pdReady 8 = true → s.dbgLevel = 0 → Runs (.xcpConnect fd) s fun t => t = s.reply .accessDenied) ∧
  (live → Runs .xcpDisconnect s fun t => t.xcp = { closed with reply := .ok [] } ∧ OnlyChanges { regs := true, fab := true, xcp := true } s t) ∧
  (∀ c ∈ [Instr.xcpGetStatus, .xcpSynch, .xcpGetCommModeInfo, .xcpSetMta addr, .xcpUpload n, .xcpShortUpload n addr, .xcpDownload data,
      .xcpSetCalPage mode page, .xcpGetCalPage mode, .xcpCopyCalPage src dst, .xcpFreeDaq, .xcpGetDaqProcessorInfo, .xcpUnknownCommand code],
    (xcpServes s = false → exec c s = .next s) ∧ (live → s.dbgLevel = 0 → exec c s = .next (s.reply .accessDenied))) ∧
  (may → Runs .xcpGetStatus s fun t => ∃ b, t = s.reply (.ok b)) ∧
  (may → Runs .xcpSynch s fun t => t = s.reply .synch) ∧
  (may → Runs .xcpGetCommModeInfo s fun t => ∃ b, t = s.reply (.ok b)) ∧
  (may → Runs (.xcpSetMta addr) s fun t =>
    t = if inDict addr.toNat then s.setXcp { s.xcp with mta := addr.toNat, reply := .ok [] } else s.reply .outOfRange) ∧
  (may → n.toNat ≠ 0 → n.toNat < maxCto s → dictLoad s s.xcp.mta n.toNat = some l → Runs (.xcpUpload n) s fun t =>
    t = s.setXcp { s.xcp with mta := s.xcp.mta + n.toNat, reply := .ok l }) ∧
  (may → dictLoad s s.xcp.mta n.toNat = none → Runs (.xcpUpload n) s fun t => t = s.reply .outOfRange) ∧
  (may → n.toNat ≠ 0 → n.toNat < maxCto s → inDict addr.toNat = true → dictLoad at_ addr.toNat n.toNat = some l →
    Runs (.xcpShortUpload n addr) s fun t => t = s.setXcp { s.xcp with mta := addr.toNat + n.toNat, reply := .ok l }) ∧
  (cal → 1 ≤ data.length → data.length + 2 ≤ maxCto s → inDict s.xcp.mta = true → s.xcp.mta % 8 + data.length ≤ 4 → sigValue s k = some old →
    Runs (.xcpDownload data) s fun t =>
      (u.resp = .error → t = s.reply .writeProtected) ∧
      (u.resp ≠ .error → t = { (u.setXcp { u.xcp with mta := s.xcp.mta + data.length, reply := .ok [] }) with resp := s.resp })) ∧
  (may → calAllowed s = false → Runs (.xcpDownload data) s fun t => t = s.reply .accessDenied) ∧
  (cal → page.toNat ≤ 1 → mode.toNat % 4 ≠ 0 → Runs (.xcpSetCalPage mode page) s fun t => t.xcp.working = (page == 1) ∧ t.xcp.reply = .ok [] ∧
    (s.xcp.working = (page == 1) → t = s.reply (.ok [])) ∧ t.resp = s.resp ∧
      OnlyChanges { regs := true, mem := true, resp := true, fab := true, whl := true, xcp := true } s t) ∧
  (cal → 1 < page.toNat → Runs (.xcpSetCalPage mode page) s fun t => t = s.reply .pageNotValid) ∧
  (may → (mode = 1 ∨ mode = 2) → Runs (.xcpGetCalPage mode) s fun t => ∃ b, t = s.reply (.ok b)) ∧
  (cal → pageBase s false = some r → pageBase s true = some w → s.xcp.working = false → Runs (.xcpCopyCalPage 0 1) s fun t =>
    t = (place w.1 (s.bytes r.1 r.2) s).reply (.ok [])) ∧
  (cal → src.toNat ≤ 1 → Runs (.xcpCopyCalPage src 0) s fun t => t = s.reply .writeProtected) ∧
  (may → Runs (.xcpUnknownCommand code) s fun t => t = s.reply .cmdUnknown)

/-- FREE_DAQ, ALLOC_DAQ, ALLOC_ODT and ALLOC_ODT_ENTRY lay lists out, SET_DAQ_PTR and WRITE_DAQ fill an entry with a signal whose DAQ
bit is set and whose size fits, SET_DAQ_LIST_MODE binds the list to an event channel; lists start and stop one at a time or
together; a list that runs is not changed, and one that does not exist is out of range. (16_bus.md R481, 16_bus.md R482,
20_memory_events.md R561, 20_memory_events.md R562) -/
def Obligations.XcpDaqLists : Prop :=
  ∀ (s : State) (count list evch : BitVec 16) (odts odt entry size mode prescaler prio : Byte) (addr : Word) (l : DaqList) (p : DaqPtr),
  let may := xcpServes s = true ∧ 1 ≤ s.dbgLevel
  let i := list.toNat
  let mine := may ∧ s.xcp.lists[i]? = some l ∧ l.running = false
  let k := (addr.toNat - 0x50000000) / 8
  let o := l.odts.getD p.odt []
  (may → Runs .xcpFreeDaq s fun t => t = s.setXcp { s.xcp with lists := [], ptr := none, reply := .ok [] }) ∧
  (may → s.xcp.lists = [] → Runs (.xcpAllocDaq count) s fun t =>
    t = s.setXcp { s.xcp with lists := List.replicate count.toNat {}, reply := .ok [] }) ∧
  (may → s.xcp.lists ≠ [] → Runs (.xcpAllocDaq count) s fun t => t = s.reply .sequence) ∧
  (mine → Runs (.xcpAllocOdt list odts) s fun t => t = s.setList i { l with odts := l.odts ++ List.replicate odts.toNat [] }) ∧
  (mine → odt.toNat < l.odts.length → Runs (.xcpAllocOdtEntry list odt odts) s fun t =>
    t = s.setList i { l with odts := l.odts.set odt.toNat (List.replicate odts.toNat noEntry) }) ∧
  (mine → entry.toNat < (l.odts.getD odt.toNat []).length → Runs (.xcpSetDaqPtr list odt entry) s fun t =>
    t = s.setXcp { s.xcp with ptr := some ⟨i, odt.toNat, entry.toNat⟩, reply := .ok [] }) ∧
  (mine → s.xcp.ptr = some p → p.list = i → p.entry < o.length → inDict addr.toNat = true → addr.toNat % 8 = 0 → sigDaq (s.sigEntry k) = true →
    size.toNat = sigBytes (sigType (s.sigEntry k)) → Runs (.xcpWriteDaq size addr) s fun t =>
      t.xcp.lists = s.xcp.lists.set i { l with odts := l.odts.set p.odt (o.set p.entry k) } ∧ t.xcp.ptr = some { p with entry := p.entry + 1 } ∧
      t.xcp.reply = .ok [] ∧ OnlyChanges { xcp := true } s t) ∧
  (mine → s.xcp.ptr = some p → p.list = i → p.entry < o.length → sigDaq (s.sigEntry k) = false → Runs (.xcpWriteDaq size addr) s fun t =>
    t = s.reply .outOfRange) ∧
  (may → s.xcp.ptr = none → Runs (.xcpWriteDaq size addr) s fun t => t = s.reply .sequence) ∧
  (mine → evch.toNat < 16 → Runs (.xcpSetDaqListMode list mode evch prescaler prio) s fun t =>
    t = s.setList i { l with mode := mode.toNat, evch := evch.toNat, prescaler := max 1 prescaler.toNat, skip := 0 }) ∧
  (may → s.xcp.lists[i]? = some l → Runs (.xcpStartStopDaqList list 0) s fun t => t = s.setList i (runList l false)) ∧
  (may → s.xcp.lists[i]? = some l → Runs (.xcpStartStopDaqList list 1) s fun t => t = s.setList i (runList l true)) ∧
  (may → s.xcp.lists[i]? = some l → Runs (.xcpStartStopDaqList list 2) s fun t => t = s.setList i { l with selected := true }) ∧
  (may → Runs (.xcpStartStopSynch 0) s fun t =>
    t = s.setXcp { s.xcp with lists := s.xcp.lists.map (fun x => runList x false), reply := .ok [] }) ∧
  (may → Runs (.xcpStartStopSynch 1) s fun t =>
    t = s.setXcp { s.xcp with lists := s.xcp.lists.map (fun x => if x.selected then runList x true else x), reply := .ok [] }) ∧
  (may → Runs .xcpGetDaqProcessorInfo s fun t => ∃ b, t = s.reply (.ok b)) ∧
  (may → s.xcp.lists[i]? = none → ∀ c ∈ [Instr.xcpAllocOdt list odts, .xcpAllocOdtEntry list odt odts, .xcpSetDaqPtr list odt entry,
      .xcpStartStopDaqList list mode], exec c s = .next (s.reply .outOfRange)) ∧
  (may → s.xcp.lists[i]? = some l → l.running = true → ∀ c ∈ [Instr.xcpAllocOdt list odts, .xcpAllocOdtEntry list odt odts,
      .xcpSetDaqPtr list odt entry, .xcpSetDaqListMode list mode evch prescaler prio], exec c s = .next (s.reply .sequence))

/-- Whatever the state, a step with command c in front of the queue is exec of c on the state with the queue's rest; with no command
waiting a step is one idle tick, in which TSTAMP counts while it runs and nothing enters the queue (DESIGN CHOICE, log entry 2).
(00_scope.md, 19_clocks_crossings.md R531) -/
def Obligations.QueueStep : Prop :=
  ∀ (s : State) (c : Instr) (rest : List Instr),
  step { s with pending := c :: rest } = exec c { s with pending := rest } ∧
  (s.pending = [] → ∃ t, step s = .next t ∧ t.pending = [] ∧ t.fab.ts = (if s.fab.tsRun then s.fab.ts + 1 else s.fab.ts))

/-- In every state each of the commands answers a next state (a bus error, a refusal of the block and a command out of its context are
next states too), and none of them touches the queue of waiting commands. (00_scope.md) -/
def Obligations.EveryCommandAnswers : Prop :=
  ∀ (c : Instr) (s : State), ∃ t, exec c s = .next t ∧ t.pending = s.pending

/-- The state after reset has its memory in canonical form with nothing listed, no leg with both switches commanded on, and an empty
queue. (00_scope.md, 08_pwm_gate.md R237) -/
def Obligations.ResetInvariants : Prop :=
  Memory.wf State.reset.mem ∧ NoLegShort State.reset ∧ State.reset.mem = [] ∧ State.reset.pending = []

/-- Whatever command a step runs, and in an idle tick, memory stays in canonical form: addresses strictly rising and no entry equal to
what an unlisted address reads as. (20_memory_events.md R538, 20_memory_events.md R543) -/
def Obligations.StepKeepsMemory : Prop :=
  ∀ (s t : State), Memory.wf s.mem → step s = .next t → Memory.wf t.mem

/-- From every state in which no leg has both of its switches commanded on, every step, whatever its command, leaves none: a turn-on
is issued only while the opposite switch is commanded off and its feedback, where used, shows off. (08_pwm_gate.md R236,
08_pwm_gate.md R237, 08_pwm_gate.md R256) -/
def Obligations.StepKeepsInterlock : Prop :=
  ∀ (s t : State), NoLegShort s → step s = .next t → NoLegShort t

/-- An access to a register block that is not 32 bits wide or not aligned returns a bus error and changes nothing, be it a read or a
write, as a register access or as an access over the bus to an address that no calibration page stands in for. (00_scope.md R3) -/
def Obligations.RegisterWidthRule : Prop :=
  ∀ (s : State) (m : Master) (a : Word) (size : Fin 9) (synd : Syndrome) (v : BitVec 64) (w : Word) (x : WriteCtx),
  inRegs a.toNat = true → (size.val ≠ 4 ∨ a.toNat % 4 ≠ 0) →
    exec (.registerRead m a size) s = .next { s with resp := .error } ∧
    exec (.registerWrite m a size w x) s = .next { s with resp := .error } ∧
    (busAddr s m a.toNat = a.toNat → exec (.memoryRead m a size synd) s = .next { s with resp := .error } ∧
      exec (.memoryWrite m a size v x) s = .next { s with resp := .error })

/-- Whoever writes whatever to an address of the KLN block, at any width, gets a bus error, and nothing else changes.
(01_architecture.md R33) -/
def Obligations.KlnBlockRule : Prop :=
  ∀ (s : State) (m : Master) (a : Word) (size : Fin 9) (v : BitVec 64) (w : Word) (x : WriteCtx),
  0x30130000 ≤ a.toNat → a.toNat < 0x30140000 →
    exec (.registerWrite m a size w x) s = .next { s with resp := .error } ∧
    (busAddr s m a.toNat = a.toNat → exec (.memoryWrite m a size v x) s = .next { s with resp := .error })

/-- A memory-mapped read of the flash by a master that may read it, while a program or erase is in progress, returns a bus error and
increments MMAP_BUSY (to its largest value); the operation goes on: BUSY stays set and the operation that the journal names stays
the same. (03_skein.md R98) -/
def Obligations.FlashBusyRule : Prop :=
  ∀ (s : State) (m : Master) (addr : BitVec 28) (v : Word) (readOk : Bool) (size : Fin 9) (synd : Syndrome),
  flashReader s m = true → s.pdReady 9 = true → s.getB F.SKN_STAT.FLASH_OK = true → addr.toNat < flashSize s → s.getB F.SKN_STAT.BUSY = true →
    let refused := fun (t : State) => t.resp = .error ∧ t.get F.SKN_ERR.MMAP_BUSY = min (s.get F.SKN_ERR.MMAP_BUSY + 1) 255 ∧
      t.get F.SKN_STAT.BUSY = 1 ∧ t.journal = s.journal ∧ RegsOnly [F.SKN_ERR.SAT.addr 0 0 0] s t ∧
      OnlyChanges { regs := true, resp := true } s t
    Runs (.mmapFlashRead m addr v readOk) s refused ∧
    (busAddr s m (0x60000000 + addr.toNat) = 0x60000000 + addr.toNat → aligned (0x60000000 + addr.toNat) size.val = true →
      Runs (.memoryRead m (0x60000000 + addr.setWidth 32) size synd) s refused)
end

