-- ==== Sys2Proof/Laws/MemBase.lean ====
section
/-! SUPPORT. The laws of sparse tables and of memory: a table stays in canonical form, a read after a write, and folds that leave
memory as it was or in canonical form. -/

namespace Sys2Proof.Machine
open Sys2Proof

/-- Insertion at key `k`, before the first greater key: what a put of a value other than the default does to the other entries. -/
def SMap.ins {α : Type} (m : SMap α) (k : Nat) (v : α) : SMap α :=
  match m with
  | [] => [(k, v)]
  | (a, w) :: r => if k < a then (k, v) :: (a, w) :: r else (a, w) :: SMap.ins r k v

/-- A put drops the key and, unless the default is put, inserts it again. -/
theorem SMap.put_eq {α : Type} [DecidableEq α] (d : α) (m : SMap α) (k : Nat) (v : α) :
    SMap.put d m k v = if v = d then m.filter (fun e => e.1 != k) else SMap.ins (m.filter (fun e => e.1 != k)) k v := by
  induction m with
  | nil => rfl
  | cons x r ih =>
    unfold SMap.put
    rw [List.filter_cons]
    by_cases h : x.1 = k
    · rw [if_pos h, ih, if_neg (c := (x.1 != k) = true) (by simp [h])]
    · rw [if_neg h, ih, if_pos (c := (x.1 != k) = true) (by simp [h])]
      by_cases hv : v = d
      · rw [if_neg (fun c => c.2 hv), if_pos hv, if_pos hv]
      · by_cases hk : k < x.1
        · rw [if_pos ⟨hk, hv⟩, if_neg hv]
          conv_rhs => unfold SMap.ins
          rw [if_pos hk]
        · rw [if_neg (fun c => hk c.1), if_neg hv, if_neg hv]
          conv_rhs => unfold SMap.ins
          rw [if_neg hk]

theorem SMap.get_filter_self {α : Type} (d : α) (m : SMap α) (k : Nat) : SMap.get d (m.filter (fun e => e.1 != k)) k = d := by
  induction m with
  | nil => rfl
  | cons x r ih =>
    rw [List.filter_cons]
    split
    · rename_i h
      unfold SMap.get
      rw [if_neg (by simpa using h)]
      exact ih
    · exact ih

theorem SMap.get_filter_ne {α : Type} (d : α) (m : SMap α) (k j : Nat) (hj : j ≠ k) :
    SMap.get d (m.filter (fun e => e.1 != k)) j = SMap.get d m j := by
  induction m with
  | nil => rfl
  | cons x r ih =>
    rw [List.filter_cons]
    split
    · unfold SMap.get
      rw [ih]
    · rename_i h
      have hx : x.1 = k := by simpa using h
      rw [ih]
      conv_rhs => unfold SMap.get
      rw [if_neg (by omega)]

theorem SMap.get_ins_ne {α : Type} (d : α) (m : SMap α) (k j : Nat) (v : α) (hj : j ≠ k) :
    SMap.get d (SMap.ins m k v) j = SMap.get d m j := by
  induction m with
  | nil => simp [SMap.ins, SMap.get, Ne.symm hj]
  | cons x r ih =>
    unfold SMap.ins
    split
    · conv_lhs => unfold SMap.get
      rw [if_neg (Ne.symm hj)]
    · unfold SMap.get
      rw [ih]

theorem SMap.get_ins_self {α : Type} (d : α) (m : SMap α) (k : Nat) (v : α) (h : ∀ e ∈ m, e.1 ≠ k) :
    SMap.get d (SMap.ins m k v) k = v := by
  induction m with
  | nil => simp [SMap.ins, SMap.get]
  | cons x r ih =>
    unfold SMap.ins
    split
    · simp [SMap.get]
    · unfold SMap.get
      rw [if_neg (h x List.mem_cons_self)]
      exact ih (fun e he => h e (List.mem_cons_of_mem _ he))

/-- A read of the key that was put. -/
@[simp] theorem SMap.get_put_self {α : Type} [DecidableEq α] (d : α) (m : SMap α) (k : Nat) (v : α) :
    SMap.get d (SMap.put d m k v) k = v := by
  rw [SMap.put_eq]
  split
  · rw [SMap.get_filter_self]
    exact (‹v = d›).symm
  · refine SMap.get_ins_self _ _ _ _ (fun e he => ?_)
    simpa using (List.mem_filter.mp he).2

/-- A read of any other key. -/
theorem SMap.get_put_ne {α : Type} [DecidableEq α] (d : α) (m : SMap α) (k j : Nat) (v : α) (hj : j ≠ k) :
    SMap.get d (SMap.put d m k v) j = SMap.get d m j := by
  rw [SMap.put_eq]
  split
  · exact SMap.get_filter_ne _ _ _ _ hj
  · rw [SMap.get_ins_ne _ _ _ _ _ hj, SMap.get_filter_ne _ _ _ _ hj]

/-- A read after a put. -/
theorem SMap.get_put {α : Type} [DecidableEq α] (d : α) (m : SMap α) (k j : Nat) (v : α) :
    SMap.get d (SMap.put d m k v) j = if j = k then v else SMap.get d m j := by
  split
  · rename_i h
    rw [h, SMap.get_put_self]
  · exact SMap.get_put_ne _ _ _ _ _ ‹_›

theorem SMap.filter_ins {α : Type} (m : SMap α) (k : Nat) (v : α) :
    (SMap.ins m k v).filter (fun e => e.1 != k) = m.filter (fun e => e.1 != k) := by
  induction m with
  | nil => simp [SMap.ins]
  | cons x r ih =>
    unfold SMap.ins
    split
    · rw [List.filter_cons, if_neg (by simp)]
    · rw [List.filter_cons, List.filter_cons, ih]

/-- Of two puts at one key the second stands. -/
theorem SMap.put_put {α : Type} [DecidableEq α] (d : α) (m : SMap α) (k : Nat) (u v : α) :
    SMap.put d (SMap.put d m k u) k v = SMap.put d m k v := by
  have h : (SMap.put d m k u).filter (fun e => e.1 != k) = m.filter (fun e => e.1 != k) := by
    rw [SMap.put_eq]
    split
    · rw [List.filter_filter]
      simp
    · rw [SMap.filter_ins, List.filter_filter]
      simp
  rw [SMap.put_eq d (SMap.put d m k u), h, SMap.put_eq d m k v]

theorem SMap.mem_ins {α : Type} (m : SMap α) (k : Nat) (v : α) (e : Nat × α) (h : e ∈ SMap.ins m k v) : e = (k, v) ∨ e ∈ m := by
  induction m with
  | nil => simpa [SMap.ins] using h
  | cons x r ih =>
    unfold SMap.ins at h
    split at h
    · exact List.mem_cons.mp h
    · rcases List.mem_cons.mp h with rfl | h
      · exact .inr List.mem_cons_self
      · rcases ih h with h | h
        · exact .inl h
        · exact .inr (List.mem_cons_of_mem _ h)

theorem SMap.ins_sorted {α : Type} (m : SMap α) (k : Nat) (v : α) (h : m.Pairwise (fun x y => x.1 < y.1)) (hk : ∀ e ∈ m, e.1 ≠ k) :
    (SMap.ins m k v).Pairwise (fun x y => x.1 < y.1) := by
  induction m with
  | nil => exact List.pairwise_singleton _ _
  | cons x r ih =>
    obtain ⟨hx, hr⟩ := List.pairwise_cons.mp h
    unfold SMap.ins
    split
    · refine List.pairwise_cons.mpr ⟨fun e he => ?_, h⟩
      rcases List.mem_cons.mp he with rfl | he
      · assumption
      · exact Nat.lt_trans ‹k < x.1› (hx e he)
    · refine List.pairwise_cons.mpr ⟨fun e he => ?_, ih hr (fun e he => hk e (List.mem_cons_of_mem _ he))⟩
      have h1 := hk x List.mem_cons_self
      rcases SMap.mem_ins _ _ _ _ he with rfl | he
      · show x.1 < k
        omega
      · exact hx e he

theorem SMap.filter_wf {α : Type} [DecidableEq α] (d : Nat → α) (m : SMap α) (p : Nat × α → Bool) (h : SMap.wf d m) :
    SMap.wf d (m.filter p) :=
  ⟨h.1.filter p, fun e he => h.2 e (List.mem_filter.mp he).1⟩

/-- A table with a default for each key stays in canonical form. -/
theorem SMap.put_wf {α : Type} [DecidableEq α] (d : Nat → α) (m : SMap α) (k : Nat) (v : α) (h : SMap.wf d m) :
    SMap.wf d (SMap.put (d k) m k v) := by
  have hf := SMap.filter_wf d m (fun e => e.1 != k) h
  rw [SMap.put_eq]
  split
  · exact hf
  · refine ⟨SMap.ins_sorted _ _ _ hf.1 (fun e he => by simpa using (List.mem_filter.mp he).2), fun e he => ?_⟩
    rcases SMap.mem_ins _ _ _ _ he with rfl | he
    · assumption
    · exact hf.2 e he

theorem foldl_mem {α : Type} (f : State → α → State) (hf : ∀ s x, (f s x).mem = s.mem) (l : List α) (s : State) :
    (l.foldl f s).mem = s.mem := by
  induction l generalizing s with
  | nil => rfl
  | cons x r ih => rw [List.foldl_cons, ih, hf]

theorem foldl_wf {α : Type} (f : State → α → State) (hf : ∀ s x, Memory.wf s.mem → Memory.wf (f s x).mem) (l : List α) (s : State)
    (h : Memory.wf s.mem) : Memory.wf (l.foldl f s).mem := by
  induction l generalizing s with
  | nil => exact h
  | cons x r ih => exact ih _ (hf _ _ h)

end Sys2Proof.Machine
end

