-- ==== Sys2Proof/Laws/Reg.lean ====
section
/-! SUPPORT. The laws of registers and their fields, and of memory bytes: what a read gives after a write. -/

namespace Sys2Proof.Machine
open Sys2Proof

/-- A register after a write of a register. -/
theorem State.rd_wr (s : State) (a b : Nat) (w : Word) : (s.wr a w).rd b = if b = a then w else s.rd b := by
  unfold State.rd State.wr
  dsimp only
  split
  · rename_i h
    subst h
    exact SMap.get_put_self _ _ _ _
  · have h : ∀ d, SMap.get (resetWord b) (SMap.put d s.regs a w) b = SMap.get (resetWord b) s.regs b := by
      intro d
      rw [SMap.put_eq]
      split
      · exact SMap.get_filter_ne _ _ _ _ ‹_›
      · rw [SMap.get_ins_ne _ _ _ _ _ ‹_›, SMap.get_filter_ne _ _ _ _ ‹_›]
    exact h _

@[simp] theorem State.rd_wr_self (s : State) (a : Nat) (w : Word) : (s.wr a w).rd a = w := by rw [State.rd_wr, if_pos rfl]

theorem State.rd_wr_ne (s : State) (a b : Nat) (w : Word) (h : b ≠ a) : (s.wr a w).rd b = s.rd b := by rw [State.rd_wr, if_neg h]

/-- The number a word becomes when bits [hi:lo] are replaced. -/
theorem setBits_toNat (w : Word) (hi lo v : Nat) (h1 : hi < 32) (h2 : lo ≤ hi) :
    (setBits w hi lo v).toNat = w.toNat % 2 ^ lo + (v % 2 ^ (hi + 1 - lo)) * 2 ^ lo + w.toNat / 2 ^ (hi + 1) * 2 ^ (hi + 1) := by
  unfold setBits
  rw [BitVec.toNat_ofNat]
  refine Nat.mod_eq_of_lt ?_
  have hw : w.toNat < 2 ^ 32 := w.isLt
  have e1 : (2 : Nat) ^ (hi + 1) = 2 ^ (hi + 1 - lo) * 2 ^ lo := by rw [← Nat.pow_add]; congr 1; omega
  have e2 : (2 : Nat) ^ 32 = 2 ^ (31 - hi) * 2 ^ (hi + 1) := by rw [← Nat.pow_add]; congr 1; omega
  have a1 : w.toNat % 2 ^ lo < 2 ^ lo := Nat.mod_lt _ (Nat.two_pow_pos _)
  have a2 : v % 2 ^ (hi + 1 - lo) + 1 ≤ 2 ^ (hi + 1 - lo) := Nat.mod_lt _ (Nat.two_pow_pos _)
  have a3 : w.toNat / 2 ^ (hi + 1) + 1 ≤ 2 ^ (31 - hi) := by
    refine Nat.div_lt_of_lt_mul ?_
    rw [Nat.mul_comm, ← e2]
    exact hw
  have b2 : (v % 2 ^ (hi + 1 - lo) + 1) * 2 ^ lo ≤ 2 ^ (hi + 1) := e1 ▸ Nat.mul_le_mul_right _ a2
  have b3 : (w.toNat / 2 ^ (hi + 1) + 1) * 2 ^ (hi + 1) ≤ 2 ^ 32 := e2 ▸ Nat.mul_le_mul_right _ a3
  rw [Nat.add_mul] at b2 b3
  omega

/-- The field that was replaced. -/
theorem getBits_setBits_self (w : Word) (hi lo v : Nat) (h1 : hi < 32) (h2 : lo ≤ hi) :
    getBits (setBits w hi lo v) hi lo = v % 2 ^ (hi + 1 - lo) := by
  unfold getBits
  rw [setBits_toNat w hi lo v h1 h2]
  have e1 : (2 : Nat) ^ (hi + 1) = 2 ^ lo * 2 ^ (hi + 1 - lo) := by rw [← Nat.pow_add]; congr 1; omega
  have a1 : w.toNat % 2 ^ lo < 2 ^ lo := Nat.mod_lt _ (Nat.two_pow_pos _)
  have e2 : w.toNat % 2 ^ lo + v % 2 ^ (hi + 1 - lo) * 2 ^ lo + w.toNat / 2 ^ (hi + 1) * 2 ^ (hi + 1) =
      w.toNat % 2 ^ lo + (v % 2 ^ (hi + 1 - lo) + w.toNat / 2 ^ (hi + 1) * 2 ^ (hi + 1 - lo)) * 2 ^ lo := by
    rw [Nat.add_mul, Nat.mul_assoc, Nat.mul_comm (2 ^ (hi + 1 - lo)) (2 ^ lo), ← e1, Nat.add_assoc]
  rw [e2, Nat.add_mul_div_right _ _ (Nat.two_pow_pos _), Nat.div_eq_of_lt a1, Nat.zero_add, Nat.add_mul_mod_self_right, Nat.mod_mod]

/-- A field below or above the one that was replaced. -/
theorem getBits_setBits_ne (w : Word) (hi lo v h l : Nat) (h1 : hi < 32) (h2 : lo ≤ hi) (h3 : h < lo ∨ hi < l) (h4 : l ≤ h) :
    getBits (setBits w hi lo v) h l = getBits w h l := by
  unfold getBits
  rw [setBits_toNat w hi lo v h1 h2]
  have a1 : w.toNat % 2 ^ lo < 2 ^ lo := Nat.mod_lt _ (Nat.two_pow_pos _)
  have a2 : v % 2 ^ (hi + 1 - lo) + 1 ≤ 2 ^ (hi + 1 - lo) := Nat.mod_lt _ (Nat.two_pow_pos _)
  have e1 : (2 : Nat) ^ (hi + 1) = 2 ^ lo * 2 ^ (hi + 1 - lo) := by rw [← Nat.pow_add]; congr 1; omega
  rcases h3 with h3 | h3
  · have e3 : (2 : Nat) ^ lo = 2 ^ (lo - (h + 1)) * (2 ^ (h + 1 - l) * 2 ^ l) := by
      rw [← Nat.pow_add, ← Nat.pow_add]; congr 1; omega
    have key : ∀ x y : Nat, (x + y * 2 ^ lo) / 2 ^ l % 2 ^ (h + 1 - l) = x / 2 ^ l % 2 ^ (h + 1 - l) := by
      intro x y
      have : x + y * 2 ^ lo = x + y * 2 ^ (lo - (h + 1)) * 2 ^ (h + 1 - l) * 2 ^ l := by
        rw [e3, Nat.mul_assoc, Nat.mul_assoc]
      rw [this, Nat.add_mul_div_right _ _ (Nat.two_pow_pos _), Nat.add_mul_mod_self_right]
    have e2 : w.toNat % 2 ^ lo + v % 2 ^ (hi + 1 - lo) * 2 ^ lo + w.toNat / 2 ^ (hi + 1) * 2 ^ (hi + 1) =
        w.toNat % 2 ^ lo + (v % 2 ^ (hi + 1 - lo) + w.toNat / 2 ^ (hi + 1) * 2 ^ (hi + 1 - lo)) * 2 ^ lo := by
      rw [Nat.add_mul, Nat.mul_assoc, Nat.mul_comm (2 ^ (hi + 1 - lo)) (2 ^ lo), ← e1, Nat.add_assoc]
    rw [e2, key]
    conv_rhs => rw [← Nat.mod_add_div w.toNat (2 ^ lo), Nat.mul_comm (2 ^ lo), key]
  · have e4 : (2 : Nat) ^ l = 2 ^ (hi + 1) * 2 ^ (l - (hi + 1)) := by rw [← Nat.pow_add]; congr 1; omega
    have b2 : v % 2 ^ (hi + 1 - lo) * 2 ^ lo + 2 ^ lo ≤ 2 ^ (hi + 1) := by
      have := Nat.mul_le_mul_right (2 ^ lo) a2
      rw [Nat.add_mul, Nat.one_mul] at this
      rw [e1, Nat.mul_comm (2 ^ lo)]
      exact this
    have b3 : w.toNat % 2 ^ lo + v % 2 ^ (hi + 1 - lo) * 2 ^ lo < 2 ^ (hi + 1) := by omega
    rw [e4, ← Nat.div_div_eq_div_mul, ← Nat.div_div_eq_div_mul, Nat.add_mul_div_right _ _ (Nat.two_pow_pos _),
      Nat.div_eq_of_lt b3, Nat.zero_add]

/-- A field that was set. -/
theorem State.get_set_self (s : State) (f : Fld) (v i j k : Nat) (h1 : f.hi < 32) (h2 : f.lo ≤ f.hi) :
    (s.set f v i j k).get f i j k = v % 2 ^ (f.hi + 1 - f.lo) := by
  unfold State.get State.set
  rw [State.rd_wr_self, getBits_setBits_self _ _ _ _ h1 h2]

/-- A field of another register. -/
theorem State.get_set_addr (s : State) (f g : Fld) (v i j k x y z : Nat) (h : g.addr x y z ≠ f.addr i j k) :
    (s.set f v i j k).get g x y z = s.get g x y z := by
  unfold State.get State.set
  rw [State.rd_wr_ne _ _ _ _ h]

/-- Another field of the same register. -/
theorem State.get_set_bits (s : State) (f g : Fld) (v i j k x y z : Nat) (h1 : f.hi < 32) (h2 : f.lo ≤ f.hi)
    (h3 : g.hi < f.lo ∨ f.hi < g.lo) (h4 : g.lo ≤ g.hi) : (s.set f v i j k).get g x y z = s.get g x y z := by
  by_cases h : g.addr x y z = f.addr i j k
  · unfold State.get State.set
    rw [h, State.rd_wr_self, getBits_setBits_ne _ _ _ _ _ _ h1 h2 h3 h4]
  · exact State.get_set_addr _ _ _ _ _ _ _ _ _ _ h

/-- A byte after a write of a byte. -/
theorem State.byte_setByte (s : State) (a b : Nat) (v : Byte) : (s.setByte a v).byte b = if b = a then v else s.byte b :=
  SMap.get_put _ _ _ _ _

/-- Bytes outside those that were written read as before. -/
theorem State.byte_setBytes (l : List Byte) (s : State) (a b : Nat) (h : b < a ∨ a + l.length ≤ b) : (s.setBytes a l).byte b = s.byte b := by
  induction l generalizing s a with
  | nil => rfl
  | cons v r ih =>
    rw [List.length_cons] at h
    unfold State.setBytes
    rw [ih _ _ (by omega), State.byte_setByte, if_neg (by omega)]

/-- The bytes that were written read back. -/
theorem State.bytes_setBytes (l : List Byte) (s : State) (a : Nat) : (s.setBytes a l).bytes a l.length = l := by
  induction l generalizing s a with
  | nil => rfl
  | cons v r ih =>
    have h : ((s.setByte a v).setBytes (a + 1) r).byte a = v := by
      rw [State.byte_setBytes _ _ _ _ (by omega), State.byte_setByte, if_pos rfl]
    rw [List.length_cons]
    unfold State.setBytes State.bytes
    rw [h, ih]

end Sys2Proof.Machine
end

