-- ==== Sys2Proof/Laws/State.lean ====
section
/-! SUPPORT. One lemma for each part of the state and each named update: an update leaves every part but its own as it was. -/

set_option linter.all false
namespace Sys2Proof.Machine
open Sys2Proof

section
variable (s : State) (a : Nat) (w : Word)
@[simp] theorem State.wr_mem : (s.wr a w).mem = s.mem := rfl
@[simp] theorem State.wr_resp : (s.wr a w).resp = s.resp := rfl
@[simp] theorem State.wr_sys : (s.wr a w).sys = s.sys := rfl
@[simp] theorem State.wr_emb : (s.wr a w).emb = s.emb := rfl
@[simp] theorem State.wr_fab : (s.wr a w).fab = s.fab := rfl
@[simp] theorem State.wr_afe : (s.wr a w).afe = s.afe := rfl
@[simp] theorem State.wr_hk : (s.wr a w).hk = s.hk := rfl
@[simp] theorem State.wr_whl : (s.wr a w).whl = s.whl := rfl
@[simp] theorem State.wr_pwm : (s.wr a w).pwm = s.pwm := rfl
@[simp] theorem State.wr_cnv : (s.wr a w).cnv = s.cnv := rfl
@[simp] theorem State.wr_fly : (s.wr a w).fly = s.fly := rfl
@[simp] theorem State.wr_kln : (s.wr a w).kln = s.kln := rfl
@[simp] theorem State.wr_spx : (s.wr a w).spx = s.spx := rfl
@[simp] theorem State.wr_sup : (s.wr a w).sup = s.sup := rfl
@[simp] theorem State.wr_act : (s.wr a w).act = s.act := rfl
@[simp] theorem State.wr_thm : (s.wr a w).thm = s.thm := rfl
@[simp] theorem State.wr_chg : (s.wr a w).chg = s.chg := rfl
@[simp] theorem State.wr_tnd : (s.wr a w).tnd = s.tnd := rfl
@[simp] theorem State.wr_upd : (s.wr a w).upd = s.upd := rfl
@[simp] theorem State.wr_bus : (s.wr a w).bus = s.bus := rfl
@[simp] theorem State.wr_xcp : (s.wr a w).xcp = s.xcp := rfl
@[simp] theorem State.wr_olt : (s.wr a w).olt = s.olt := rfl
@[simp] theorem State.wr_pending : (s.wr a w).pending = s.pending := rfl
end

section
variable (s : State) (f : Fld) (v : Nat) (i : Nat) (j : Nat) (k : Nat)
@[simp] theorem State.set_mem : (s.set f v i j k).mem = s.mem := rfl
@[simp] theorem State.set_resp : (s.set f v i j k).resp = s.resp := rfl
@[simp] theorem State.set_sys : (s.set f v i j k).sys = s.sys := rfl
@[simp] theorem State.set_emb : (s.set f v i j k).emb = s.emb := rfl
@[simp] theorem State.set_fab : (s.set f v i j k).fab = s.fab := rfl
@[simp] theorem State.set_afe : (s.set f v i j k).afe = s.afe := rfl
@[simp] theorem State.set_hk : (s.set f v i j k).hk = s.hk := rfl
@[simp] theorem State.set_whl : (s.set f v i j k).whl = s.whl := rfl
@[simp] theorem State.set_pwm : (s.set f v i j k).pwm = s.pwm := rfl
@[simp] theorem State.set_cnv : (s.set f v i j k).cnv = s.cnv := rfl
@[simp] theorem State.set_fly : (s.set f v i j k).fly = s.fly := rfl
@[simp] theorem State.set_kln : (s.set f v i j k).kln = s.kln := rfl
@[simp] theorem State.set_spx : (s.set f v i j k).spx = s.spx := rfl
@[simp] theorem State.set_sup : (s.set f v i j k).sup = s.sup := rfl
@[simp] theorem State.set_act : (s.set f v i j k).act = s.act := rfl
@[simp] theorem State.set_thm : (s.set f v i j k).thm = s.thm := rfl
@[simp] theorem State.set_chg : (s.set f v i j k).chg = s.chg := rfl
@[simp] theorem State.set_tnd : (s.set f v i j k).tnd = s.tnd := rfl
@[simp] theorem State.set_upd : (s.set f v i j k).upd = s.upd := rfl
@[simp] theorem State.set_bus : (s.set f v i j k).bus = s.bus := rfl
@[simp] theorem State.set_xcp : (s.set f v i j k).xcp = s.xcp := rfl
@[simp] theorem State.set_olt : (s.set f v i j k).olt = s.olt := rfl
@[simp] theorem State.set_pending : (s.set f v i j k).pending = s.pending := rfl
end

section
variable (s : State) (f : Fld) (b : Bool) (i : Nat) (j : Nat) (k : Nat)
@[simp] theorem State.setB_mem : (s.setB f b i j k).mem = s.mem := rfl
@[simp] theorem State.setB_resp : (s.setB f b i j k).resp = s.resp := rfl
@[simp] theorem State.setB_sys : (s.setB f b i j k).sys = s.sys := rfl
@[simp] theorem State.setB_emb : (s.setB f b i j k).emb = s.emb := rfl
@[simp] theorem State.setB_fab : (s.setB f b i j k).fab = s.fab := rfl
@[simp] theorem State.setB_afe : (s.setB f b i j k).afe = s.afe := rfl
@[simp] theorem State.setB_hk : (s.setB f b i j k).hk = s.hk := rfl
@[simp] theorem State.setB_whl : (s.setB f b i j k).whl = s.whl := rfl
@[simp] theorem State.setB_pwm : (s.setB f b i j k).pwm = s.pwm := rfl
@[simp] theorem State.setB_cnv : (s.setB f b i j k).cnv = s.cnv := rfl
@[simp] theorem State.setB_fly : (s.setB f b i j k).fly = s.fly := rfl
@[simp] theorem State.setB_kln : (s.setB f b i j k).kln = s.kln := rfl
@[simp] theorem State.setB_spx : (s.setB f b i j k).spx = s.spx := rfl
@[simp] theorem State.setB_sup : (s.setB f b i j k).sup = s.sup := rfl
@[simp] theorem State.setB_act : (s.setB f b i j k).act = s.act := rfl
@[simp] theorem State.setB_thm : (s.setB f b i j k).thm = s.thm := rfl
@[simp] theorem State.setB_chg : (s.setB f b i j k).chg = s.chg := rfl
@[simp] theorem State.setB_tnd : (s.setB f b i j k).tnd = s.tnd := rfl
@[simp] theorem State.setB_upd : (s.setB f b i j k).upd = s.upd := rfl
@[simp] theorem State.setB_bus : (s.setB f b i j k).bus = s.bus := rfl
@[simp] theorem State.setB_xcp : (s.setB f b i j k).xcp = s.xcp := rfl
@[simp] theorem State.setB_olt : (s.setB f b i j k).olt = s.olt := rfl
@[simp] theorem State.setB_pending : (s.setB f b i j k).pending = s.pending := rfl
end

section
variable (s : State) (f : Fld) (v : Int) (i : Nat) (j : Nat) (k : Nat)
@[simp] theorem State.setI_mem : (s.setI f v i j k).mem = s.mem := rfl
@[simp] theorem State.setI_resp : (s.setI f v i j k).resp = s.resp := rfl
@[simp] theorem State.setI_sys : (s.setI f v i j k).sys = s.sys := rfl
@[simp] theorem State.setI_emb : (s.setI f v i j k).emb = s.emb := rfl
@[simp] theorem State.setI_fab : (s.setI f v i j k).fab = s.fab := rfl
@[simp] theorem State.setI_afe : (s.setI f v i j k).afe = s.afe := rfl
@[simp] theorem State.setI_hk : (s.setI f v i j k).hk = s.hk := rfl
@[simp] theorem State.setI_whl : (s.setI f v i j k).whl = s.whl := rfl
@[simp] theorem State.setI_pwm : (s.setI f v i j k).pwm = s.pwm := rfl
@[simp] theorem State.setI_cnv : (s.setI f v i j k).cnv = s.cnv := rfl
@[simp] theorem State.setI_fly : (s.setI f v i j k).fly = s.fly := rfl
@[simp] theorem State.setI_kln : (s.setI f v i j k).kln = s.kln := rfl
@[simp] theorem State.setI_spx : (s.setI f v i j k).spx = s.spx := rfl
@[simp] theorem State.setI_sup : (s.setI f v i j k).sup = s.sup := rfl
@[simp] theorem State.setI_act : (s.setI f v i j k).act = s.act := rfl
@[simp] theorem State.setI_thm : (s.setI f v i j k).thm = s.thm := rfl
@[simp] theorem State.setI_chg : (s.setI f v i j k).chg = s.chg := rfl
@[simp] theorem State.setI_tnd : (s.setI f v i j k).tnd = s.tnd := rfl
@[simp] theorem State.setI_upd : (s.setI f v i j k).upd = s.upd := rfl
@[simp] theorem State.setI_bus : (s.setI f v i j k).bus = s.bus := rfl
@[simp] theorem State.setI_xcp : (s.setI f v i j k).xcp = s.xcp := rfl
@[simp] theorem State.setI_olt : (s.setI f v i j k).olt = s.olt := rfl
@[simp] theorem State.setI_pending : (s.setI f v i j k).pending = s.pending := rfl
end

section
variable (s : State) (f : Fld) (b : Nat) (v : Bool) (i : Nat) (j : Nat) (k : Nat)
@[simp] theorem State.setBit_mem : (s.setBit f b v i j k).mem = s.mem := rfl
@[simp] theorem State.setBit_resp : (s.setBit f b v i j k).resp = s.resp := rfl
@[simp] theorem State.setBit_sys : (s.setBit f b v i j k).sys = s.sys := rfl
@[simp] theorem State.setBit_emb : (s.setBit f b v i j k).emb = s.emb := rfl
@[simp] theorem State.setBit_fab : (s.setBit f b v i j k).fab = s.fab := rfl
@[simp] theorem State.setBit_afe : (s.setBit f b v i j k).afe = s.afe := rfl
@[simp] theorem State.setBit_hk : (s.setBit f b v i j k).hk = s.hk := rfl
@[simp] theorem State.setBit_whl : (s.setBit f b v i j k).whl = s.whl := rfl
@[simp] theorem State.setBit_pwm : (s.setBit f b v i j k).pwm = s.pwm := rfl
@[simp] theorem State.setBit_cnv : (s.setBit f b v i j k).cnv = s.cnv := rfl
@[simp] theorem State.setBit_fly : (s.setBit f b v i j k).fly = s.fly := rfl
@[simp] theorem State.setBit_kln : (s.setBit f b v i j k).kln = s.kln := rfl
@[simp] theorem State.setBit_spx : (s.setBit f b v i j k).spx = s.spx := rfl
@[simp] theorem State.setBit_sup : (s.setBit f b v i j k).sup = s.sup := rfl
@[simp] theorem State.setBit_act : (s.setBit f b v i j k).act = s.act := rfl
@[simp] theorem State.setBit_thm : (s.setBit f b v i j k).thm = s.thm := rfl
@[simp] theorem State.setBit_chg : (s.setBit f b v i j k).chg = s.chg := rfl
@[simp] theorem State.setBit_tnd : (s.setBit f b v i j k).tnd = s.tnd := rfl
@[simp] theorem State.setBit_upd : (s.setBit f b v i j k).upd = s.upd := rfl
@[simp] theorem State.setBit_bus : (s.setBit f b v i j k).bus = s.bus := rfl
@[simp] theorem State.setBit_xcp : (s.setBit f b v i j k).xcp = s.xcp := rfl
@[simp] theorem State.setBit_olt : (s.setBit f b v i j k).olt = s.olt := rfl
@[simp] theorem State.setBit_pending : (s.setBit f b v i j k).pending = s.pending := rfl
end

section
variable (s : State) (a : Nat) (b : Byte)
@[simp] theorem State.setByte_regs : (s.setByte a b).regs = s.regs := rfl
@[simp] theorem State.setByte_resp : (s.setByte a b).resp = s.resp := rfl
@[simp] theorem State.setByte_sys : (s.setByte a b).sys = s.sys := rfl
@[simp] theorem State.setByte_emb : (s.setByte a b).emb = s.emb := rfl
@[simp] theorem State.setByte_fab : (s.setByte a b).fab = s.fab := rfl
@[simp] theorem State.setByte_afe : (s.setByte a b).afe = s.afe := rfl
@[simp] theorem State.setByte_hk : (s.setByte a b).hk = s.hk := rfl
@[simp] theorem State.setByte_whl : (s.setByte a b).whl = s.whl := rfl
@[simp] theorem State.setByte_pwm : (s.setByte a b).pwm = s.pwm := rfl
@[simp] theorem State.setByte_cnv : (s.setByte a b).cnv = s.cnv := rfl
@[simp] theorem State.setByte_fly : (s.setByte a b).fly = s.fly := rfl
@[simp] theorem State.setByte_kln : (s.setByte a b).kln = s.kln := rfl
@[simp] theorem State.setByte_spx : (s.setByte a b).spx = s.spx := rfl
@[simp] theorem State.setByte_sup : (s.setByte a b).sup = s.sup := rfl
@[simp] theorem State.setByte_act : (s.setByte a b).act = s.act := rfl
@[simp] theorem State.setByte_thm : (s.setByte a b).thm = s.thm := rfl
@[simp] theorem State.setByte_chg : (s.setByte a b).chg = s.chg := rfl
@[simp] theorem State.setByte_tnd : (s.setByte a b).tnd = s.tnd := rfl
@[simp] theorem State.setByte_upd : (s.setByte a b).upd = s.upd := rfl
@[simp] theorem State.setByte_bus : (s.setByte a b).bus = s.bus := rfl
@[simp] theorem State.setByte_xcp : (s.setByte a b).xcp = s.xcp := rfl
@[simp] theorem State.setByte_olt : (s.setByte a b).olt = s.olt := rfl
@[simp] theorem State.setByte_pending : (s.setByte a b).pending = s.pending := rfl
end

section
variable (s : State) (r : BusResp)
@[simp] theorem State.answer_regs : (s.answer r).regs = s.regs := rfl
@[simp] theorem State.answer_mem : (s.answer r).mem = s.mem := rfl
@[simp] theorem State.answer_sys : (s.answer r).sys = s.sys := rfl
@[simp] theorem State.answer_emb : (s.answer r).emb = s.emb := rfl
@[simp] theorem State.answer_fab : (s.answer r).fab = s.fab := rfl
@[simp] theorem State.answer_afe : (s.answer r).afe = s.afe := rfl
@[simp] theorem State.answer_hk : (s.answer r).hk = s.hk := rfl
@[simp] theorem State.answer_whl : (s.answer r).whl = s.whl := rfl
@[simp] theorem State.answer_pwm : (s.answer r).pwm = s.pwm := rfl
@[simp] theorem State.answer_cnv : (s.answer r).cnv = s.cnv := rfl
@[simp] theorem State.answer_fly : (s.answer r).fly = s.fly := rfl
@[simp] theorem State.answer_kln : (s.answer r).kln = s.kln := rfl
@[simp] theorem State.answer_spx : (s.answer r).spx = s.spx := rfl
@[simp] theorem State.answer_sup : (s.answer r).sup = s.sup := rfl
@[simp] theorem State.answer_act : (s.answer r).act = s.act := rfl
@[simp] theorem State.answer_thm : (s.answer r).thm = s.thm := rfl
@[simp] theorem State.answer_chg : (s.answer r).chg = s.chg := rfl
@[simp] theorem State.answer_tnd : (s.answer r).tnd = s.tnd := rfl
@[simp] theorem State.answer_upd : (s.answer r).upd = s.upd := rfl
@[simp] theorem State.answer_bus : (s.answer r).bus = s.bus := rfl
@[simp] theorem State.answer_xcp : (s.answer r).xcp = s.xcp := rfl
@[simp] theorem State.answer_olt : (s.answer r).olt = s.olt := rfl
@[simp] theorem State.answer_pending : (s.answer r).pending = s.pending := rfl
end

section
variable (s : State) (n : Nat) (x : XingSt)
@[simp] theorem State.setXing_regs : (s.setXing n x).regs = s.regs := rfl
@[simp] theorem State.setXing_mem : (s.setXing n x).mem = s.mem := rfl
@[simp] theorem State.setXing_resp : (s.setXing n x).resp = s.resp := rfl
@[simp] theorem State.setXing_sys : (s.setXing n x).sys = s.sys := rfl
@[simp] theorem State.setXing_emb : (s.setXing n x).emb = s.emb := rfl
@[simp] theorem State.setXing_afe : (s.setXing n x).afe = s.afe := rfl
@[simp] theorem State.setXing_hk : (s.setXing n x).hk = s.hk := rfl
@[simp] theorem State.setXing_whl : (s.setXing n x).whl = s.whl := rfl
@[simp] theorem State.setXing_pwm : (s.setXing n x).pwm = s.pwm := rfl
@[simp] theorem State.setXing_cnv : (s.setXing n x).cnv = s.cnv := rfl
@[simp] theorem State.setXing_fly : (s.setXing n x).fly = s.fly := rfl
@[simp] theorem State.setXing_kln : (s.setXing n x).kln = s.kln := rfl
@[simp] theorem State.setXing_spx : (s.setXing n x).spx = s.spx := rfl
@[simp] theorem State.setXing_sup : (s.setXing n x).sup = s.sup := rfl
@[simp] theorem State.setXing_act : (s.setXing n x).act = s.act := rfl
@[simp] theorem State.setXing_thm : (s.setXing n x).thm = s.thm := rfl
@[simp] theorem State.setXing_chg : (s.setXing n x).chg = s.chg := rfl
@[simp] theorem State.setXing_tnd : (s.setXing n x).tnd = s.tnd := rfl
@[simp] theorem State.setXing_upd : (s.setXing n x).upd = s.upd := rfl
@[simp] theorem State.setXing_bus : (s.setXing n x).bus = s.bus := rfl
@[simp] theorem State.setXing_xcp : (s.setXing n x).xcp = s.xcp := rfl
@[simp] theorem State.setXing_olt : (s.setXing n x).olt = s.olt := rfl
@[simp] theorem State.setXing_pending : (s.setXing n x).pending = s.pending := rfl
end

section
variable (s : State) (n : Nat) (x : CanSt)
@[simp] theorem State.setCan_regs : (s.setCan n x).regs = s.regs := rfl
@[simp] theorem State.setCan_mem : (s.setCan n x).mem = s.mem := rfl
@[simp] theorem State.setCan_resp : (s.setCan n x).resp = s.resp := rfl
@[simp] theorem State.setCan_sys : (s.setCan n x).sys = s.sys := rfl
@[simp] theorem State.setCan_emb : (s.setCan n x).emb = s.emb := rfl
@[simp] theorem State.setCan_fab : (s.setCan n x).fab = s.fab := rfl
@[simp] theorem State.setCan_afe : (s.setCan n x).afe = s.afe := rfl
@[simp] theorem State.setCan_hk : (s.setCan n x).hk = s.hk := rfl
@[simp] theorem State.setCan_whl : (s.setCan n x).whl = s.whl := rfl
@[simp] theorem State.setCan_pwm : (s.setCan n x).pwm = s.pwm := rfl
@[simp] theorem State.setCan_cnv : (s.setCan n x).cnv = s.cnv := rfl
@[simp] theorem State.setCan_fly : (s.setCan n x).fly = s.fly := rfl
@[simp] theorem State.setCan_kln : (s.setCan n x).kln = s.kln := rfl
@[simp] theorem State.setCan_spx : (s.setCan n x).spx = s.spx := rfl
@[simp] theorem State.setCan_sup : (s.setCan n x).sup = s.sup := rfl
@[simp] theorem State.setCan_act : (s.setCan n x).act = s.act := rfl
@[simp] theorem State.setCan_thm : (s.setCan n x).thm = s.thm := rfl
@[simp] theorem State.setCan_chg : (s.setCan n x).chg = s.chg := rfl
@[simp] theorem State.setCan_tnd : (s.setCan n x).tnd = s.tnd := rfl
@[simp] theorem State.setCan_upd : (s.setCan n x).upd = s.upd := rfl
@[simp] theorem State.setCan_xcp : (s.setCan n x).xcp = s.xcp := rfl
@[simp] theorem State.setCan_olt : (s.setCan n x).olt = s.olt := rfl
@[simp] theorem State.setCan_pending : (s.setCan n x).pending = s.pending := rfl
end

section
variable (s : State) (g : Nat) (x : CgSt)
@[simp] theorem State.setCg_regs : (s.setCg g x).regs = s.regs := rfl
@[simp] theorem State.setCg_mem : (s.setCg g x).mem = s.mem := rfl
@[simp] theorem State.setCg_resp : (s.setCg g x).resp = s.resp := rfl
@[simp] theorem State.setCg_sys : (s.setCg g x).sys = s.sys := rfl
@[simp] theorem State.setCg_emb : (s.setCg g x).emb = s.emb := rfl
@[simp] theorem State.setCg_fab : (s.setCg g x).fab = s.fab := rfl
@[simp] theorem State.setCg_afe : (s.setCg g x).afe = s.afe := rfl
@[simp] theorem State.setCg_hk : (s.setCg g x).hk = s.hk := rfl
@[simp] theorem State.setCg_whl : (s.setCg g x).whl = s.whl := rfl
@[simp] theorem State.setCg_cnv : (s.setCg g x).cnv = s.cnv := rfl
@[simp] theorem State.setCg_fly : (s.setCg g x).fly = s.fly := rfl
@[simp] theorem State.setCg_kln : (s.setCg g x).kln = s.kln := rfl
@[simp] theorem State.setCg_spx : (s.setCg g x).spx = s.spx := rfl
@[simp] theorem State.setCg_sup : (s.setCg g x).sup = s.sup := rfl
@[simp] theorem State.setCg_act : (s.setCg g x).act = s.act := rfl
@[simp] theorem State.setCg_thm : (s.setCg g x).thm = s.thm := rfl
@[simp] theorem State.setCg_chg : (s.setCg g x).chg = s.chg := rfl
@[simp] theorem State.setCg_tnd : (s.setCg g x).tnd = s.tnd := rfl
@[simp] theorem State.setCg_upd : (s.setCg g x).upd = s.upd := rfl
@[simp] theorem State.setCg_bus : (s.setCg g x).bus = s.bus := rfl
@[simp] theorem State.setCg_xcp : (s.setCg g x).xcp = s.xcp := rfl
@[simp] theorem State.setCg_olt : (s.setCg g x).olt = s.olt := rfl
@[simp] theorem State.setCg_pending : (s.setCg g x).pending = s.pending := rfl
end

section
variable (s : State) (c : Nat) (x : ChSt)
@[simp] theorem State.setChan_regs : (s.setChan c x).regs = s.regs := rfl
@[simp] theorem State.setChan_mem : (s.setChan c x).mem = s.mem := rfl
@[simp] theorem State.setChan_resp : (s.setChan c x).resp = s.resp := rfl
@[simp] theorem State.setChan_sys : (s.setChan c x).sys = s.sys := rfl
@[simp] theorem State.setChan_emb : (s.setChan c x).emb = s.emb := rfl
@[simp] theorem State.setChan_fab : (s.setChan c x).fab = s.fab := rfl
@[simp] theorem State.setChan_afe : (s.setChan c x).afe = s.afe := rfl
@[simp] theorem State.setChan_hk : (s.setChan c x).hk = s.hk := rfl
@[simp] theorem State.setChan_whl : (s.setChan c x).whl = s.whl := rfl
@[simp] theorem State.setChan_pwm : (s.setChan c x).pwm = s.pwm := rfl
@[simp] theorem State.setChan_fly : (s.setChan c x).fly = s.fly := rfl
@[simp] theorem State.setChan_kln : (s.setChan c x).kln = s.kln := rfl
@[simp] theorem State.setChan_spx : (s.setChan c x).spx = s.spx := rfl
@[simp] theorem State.setChan_sup : (s.setChan c x).sup = s.sup := rfl
@[simp] theorem State.setChan_act : (s.setChan c x).act = s.act := rfl
@[simp] theorem State.setChan_thm : (s.setChan c x).thm = s.thm := rfl
@[simp] theorem State.setChan_chg : (s.setChan c x).chg = s.chg := rfl
@[simp] theorem State.setChan_tnd : (s.setChan c x).tnd = s.tnd := rfl
@[simp] theorem State.setChan_upd : (s.setChan c x).upd = s.upd := rfl
@[simp] theorem State.setChan_bus : (s.setChan c x).bus = s.bus := rfl
@[simp] theorem State.setChan_xcp : (s.setChan c x).xcp = s.xcp := rfl
@[simp] theorem State.setChan_olt : (s.setChan c x).olt = s.olt := rfl
@[simp] theorem State.setChan_pending : (s.setChan c x).pending = s.pending := rfl
end

section
variable (s : State) (x : ChgSt)
@[simp] theorem State.setChg_regs : (s.setChg x).regs = s.regs := rfl
@[simp] theorem State.setChg_mem : (s.setChg x).mem = s.mem := rfl
@[simp] theorem State.setChg_resp : (s.setChg x).resp = s.resp := rfl
@[simp] theorem State.setChg_sys : (s.setChg x).sys = s.sys := rfl
@[simp] theorem State.setChg_emb : (s.setChg x).emb = s.emb := rfl
@[simp] theorem State.setChg_fab : (s.setChg x).fab = s.fab := rfl
@[simp] theorem State.setChg_afe : (s.setChg x).afe = s.afe := rfl
@[simp] theorem State.setChg_hk : (s.setChg x).hk = s.hk := rfl
@[simp] theorem State.setChg_whl : (s.setChg x).whl = s.whl := rfl
@[simp] theorem State.setChg_pwm : (s.setChg x).pwm = s.pwm := rfl
@[simp] theorem State.setChg_cnv : (s.setChg x).cnv = s.cnv := rfl
@[simp] theorem State.setChg_fly : (s.setChg x).fly = s.fly := rfl
@[simp] theorem State.setChg_kln : (s.setChg x).kln = s.kln := rfl
@[simp] theorem State.setChg_spx : (s.setChg x).spx = s.spx := rfl
@[simp] theorem State.setChg_sup : (s.setChg x).sup = s.sup := rfl
@[simp] theorem State.setChg_act : (s.setChg x).act = s.act := rfl
@[simp] theorem State.setChg_thm : (s.setChg x).thm = s.thm := rfl
@[simp] theorem State.setChg_tnd : (s.setChg x).tnd = s.tnd := rfl
@[simp] theorem State.setChg_upd : (s.setChg x).upd = s.upd := rfl
@[simp] theorem State.setChg_bus : (s.setChg x).bus = s.bus := rfl
@[simp] theorem State.setChg_xcp : (s.setChg x).xcp = s.xcp := rfl
@[simp] theorem State.setChg_olt : (s.setChg x).olt = s.olt := rfl
@[simp] theorem State.setChg_pending : (s.setChg x).pending = s.pending := rfl
end

section
variable (s : State) (c : Nat) (x : CompSt)
@[simp] theorem State.setCompar_regs : (s.setCompar c x).regs = s.regs := rfl
@[simp] theorem State.setCompar_mem : (s.setCompar c x).mem = s.mem := rfl
@[simp] theorem State.setCompar_resp : (s.setCompar c x).resp = s.resp := rfl
@[simp] theorem State.setCompar_sys : (s.setCompar c x).sys = s.sys := rfl
@[simp] theorem State.setCompar_emb : (s.setCompar c x).emb = s.emb := rfl
@[simp] theorem State.setCompar_fab : (s.setCompar c x).fab = s.fab := rfl
@[simp] theorem State.setCompar_afe : (s.setCompar c x).afe = s.afe := rfl
@[simp] theorem State.setCompar_hk : (s.setCompar c x).hk = s.hk := rfl
@[simp] theorem State.setCompar_whl : (s.setCompar c x).whl = s.whl := rfl
@[simp] theorem State.setCompar_cnv : (s.setCompar c x).cnv = s.cnv := rfl
@[simp] theorem State.setCompar_fly : (s.setCompar c x).fly = s.fly := rfl
@[simp] theorem State.setCompar_kln : (s.setCompar c x).kln = s.kln := rfl
@[simp] theorem State.setCompar_spx : (s.setCompar c x).spx = s.spx := rfl
@[simp] theorem State.setCompar_sup : (s.setCompar c x).sup = s.sup := rfl
@[simp] theorem State.setCompar_act : (s.setCompar c x).act = s.act := rfl
@[simp] theorem State.setCompar_thm : (s.setCompar c x).thm = s.thm := rfl
@[simp] theorem State.setCompar_chg : (s.setCompar c x).chg = s.chg := rfl
@[simp] theorem State.setCompar_tnd : (s.setCompar c x).tnd = s.tnd := rfl
@[simp] theorem State.setCompar_upd : (s.setCompar c x).upd = s.upd := rfl
@[simp] theorem State.setCompar_bus : (s.setCompar c x).bus = s.bus := rfl
@[simp] theorem State.setCompar_xcp : (s.setCompar c x).xcp = s.xcp := rfl
@[simp] theorem State.setCompar_olt : (s.setCompar c x).olt = s.olt := rfl
@[simp] theorem State.setCompar_pending : (s.setCompar c x).pending = s.pending := rfl
end

section
variable (s : State) (m : Nat) (x : EmfSt)
@[simp] theorem State.setEmf_regs : (s.setEmf m x).regs = s.regs := rfl
@[simp] theorem State.setEmf_mem : (s.setEmf m x).mem = s.mem := rfl
@[simp] theorem State.setEmf_resp : (s.setEmf m x).resp = s.resp := rfl
@[simp] theorem State.setEmf_sys : (s.setEmf m x).sys = s.sys := rfl
@[simp] theorem State.setEmf_emb : (s.setEmf m x).emb = s.emb := rfl
@[simp] theorem State.setEmf_fab : (s.setEmf m x).fab = s.fab := rfl
@[simp] theorem State.setEmf_afe : (s.setEmf m x).afe = s.afe := rfl
@[simp] theorem State.setEmf_hk : (s.setEmf m x).hk = s.hk := rfl
@[simp] theorem State.setEmf_whl : (s.setEmf m x).whl = s.whl := rfl
@[simp] theorem State.setEmf_pwm : (s.setEmf m x).pwm = s.pwm := rfl
@[simp] theorem State.setEmf_cnv : (s.setEmf m x).cnv = s.cnv := rfl
@[simp] theorem State.setEmf_kln : (s.setEmf m x).kln = s.kln := rfl
@[simp] theorem State.setEmf_spx : (s.setEmf m x).spx = s.spx := rfl
@[simp] theorem State.setEmf_sup : (s.setEmf m x).sup = s.sup := rfl
@[simp] theorem State.setEmf_act : (s.setEmf m x).act = s.act := rfl
@[simp] theorem State.setEmf_thm : (s.setEmf m x).thm = s.thm := rfl
@[simp] theorem State.setEmf_chg : (s.setEmf m x).chg = s.chg := rfl
@[simp] theorem State.setEmf_tnd : (s.setEmf m x).tnd = s.tnd := rfl
@[simp] theorem State.setEmf_upd : (s.setEmf m x).upd = s.upd := rfl
@[simp] theorem State.setEmf_bus : (s.setEmf m x).bus = s.bus := rfl
@[simp] theorem State.setEmf_xcp : (s.setEmf m x).xcp = s.xcp := rfl
@[simp] theorem State.setEmf_olt : (s.setEmf m x).olt = s.olt := rfl
@[simp] theorem State.setEmf_pending : (s.setEmf m x).pending = s.pending := rfl
end

section
variable (s : State) (e : Nat) (x : EmuSt)
@[simp] theorem State.setEmu_regs : (s.setEmu e x).regs = s.regs := rfl
@[simp] theorem State.setEmu_mem : (s.setEmu e x).mem = s.mem := rfl
@[simp] theorem State.setEmu_resp : (s.setEmu e x).resp = s.resp := rfl
@[simp] theorem State.setEmu_sys : (s.setEmu e x).sys = s.sys := rfl
@[simp] theorem State.setEmu_emb : (s.setEmu e x).emb = s.emb := rfl
@[simp] theorem State.setEmu_fab : (s.setEmu e x).fab = s.fab := rfl
@[simp] theorem State.setEmu_afe : (s.setEmu e x).afe = s.afe := rfl
@[simp] theorem State.setEmu_hk : (s.setEmu e x).hk = s.hk := rfl
@[simp] theorem State.setEmu_whl : (s.setEmu e x).whl = s.whl := rfl
@[simp] theorem State.setEmu_pwm : (s.setEmu e x).pwm = s.pwm := rfl
@[simp] theorem State.setEmu_cnv : (s.setEmu e x).cnv = s.cnv := rfl
@[simp] theorem State.setEmu_kln : (s.setEmu e x).kln = s.kln := rfl
@[simp] theorem State.setEmu_spx : (s.setEmu e x).spx = s.spx := rfl
@[simp] theorem State.setEmu_sup : (s.setEmu e x).sup = s.sup := rfl
@[simp] theorem State.setEmu_act : (s.setEmu e x).act = s.act := rfl
@[simp] theorem State.setEmu_thm : (s.setEmu e x).thm = s.thm := rfl
@[simp] theorem State.setEmu_chg : (s.setEmu e x).chg = s.chg := rfl
@[simp] theorem State.setEmu_tnd : (s.setEmu e x).tnd = s.tnd := rfl
@[simp] theorem State.setEmu_upd : (s.setEmu e x).upd = s.upd := rfl
@[simp] theorem State.setEmu_bus : (s.setEmu e x).bus = s.bus := rfl
@[simp] theorem State.setEmu_xcp : (s.setEmu e x).xcp = s.xcp := rfl
@[simp] theorem State.setEmu_olt : (s.setEmu e x).olt = s.olt := rfl
@[simp] theorem State.setEmu_pending : (s.setEmu e x).pending = s.pending := rfl
end

section
variable (s : State) (r : Nat) (v : Word)
@[simp] theorem State.setEreg_regs : (s.setEreg r v).regs = s.regs := rfl
@[simp] theorem State.setEreg_mem : (s.setEreg r v).mem = s.mem := rfl
@[simp] theorem State.setEreg_resp : (s.setEreg r v).resp = s.resp := rfl
@[simp] theorem State.setEreg_sys : (s.setEreg r v).sys = s.sys := rfl
@[simp] theorem State.setEreg_fab : (s.setEreg r v).fab = s.fab := rfl
@[simp] theorem State.setEreg_afe : (s.setEreg r v).afe = s.afe := rfl
@[simp] theorem State.setEreg_hk : (s.setEreg r v).hk = s.hk := rfl
@[simp] theorem State.setEreg_whl : (s.setEreg r v).whl = s.whl := rfl
@[simp] theorem State.setEreg_pwm : (s.setEreg r v).pwm = s.pwm := rfl
@[simp] theorem State.setEreg_cnv : (s.setEreg r v).cnv = s.cnv := rfl
@[simp] theorem State.setEreg_fly : (s.setEreg r v).fly = s.fly := rfl
@[simp] theorem State.setEreg_kln : (s.setEreg r v).kln = s.kln := rfl
@[simp] theorem State.setEreg_spx : (s.setEreg r v).spx = s.spx := rfl
@[simp] theorem State.setEreg_sup : (s.setEreg r v).sup = s.sup := rfl
@[simp] theorem State.setEreg_act : (s.setEreg r v).act = s.act := rfl
@[simp] theorem State.setEreg_thm : (s.setEreg r v).thm = s.thm := rfl
@[simp] theorem State.setEreg_chg : (s.setEreg r v).chg = s.chg := rfl
@[simp] theorem State.setEreg_tnd : (s.setEreg r v).tnd = s.tnd := rfl
@[simp] theorem State.setEreg_upd : (s.setEreg r v).upd = s.upd := rfl
@[simp] theorem State.setEreg_bus : (s.setEreg r v).bus = s.bus := rfl
@[simp] theorem State.setEreg_xcp : (s.setEreg r v).xcp = s.xcp := rfl
@[simp] theorem State.setEreg_olt : (s.setEreg r v).olt = s.olt := rfl
@[simp] theorem State.setEreg_pending : (s.setEreg r v).pending = s.pending := rfl
end

section
variable (s : State) (f : FuseSt)
@[simp] theorem State.setFuse_regs : (s.setFuse f).regs = s.regs := rfl
@[simp] theorem State.setFuse_mem : (s.setFuse f).mem = s.mem := rfl
@[simp] theorem State.setFuse_resp : (s.setFuse f).resp = s.resp := rfl
@[simp] theorem State.setFuse_sys : (s.setFuse f).sys = s.sys := rfl
@[simp] theorem State.setFuse_emb : (s.setFuse f).emb = s.emb := rfl
@[simp] theorem State.setFuse_fab : (s.setFuse f).fab = s.fab := rfl
@[simp] theorem State.setFuse_afe : (s.setFuse f).afe = s.afe := rfl
@[simp] theorem State.setFuse_hk : (s.setFuse f).hk = s.hk := rfl
@[simp] theorem State.setFuse_whl : (s.setFuse f).whl = s.whl := rfl
@[simp] theorem State.setFuse_pwm : (s.setFuse f).pwm = s.pwm := rfl
@[simp] theorem State.setFuse_cnv : (s.setFuse f).cnv = s.cnv := rfl
@[simp] theorem State.setFuse_fly : (s.setFuse f).fly = s.fly := rfl
@[simp] theorem State.setFuse_kln : (s.setFuse f).kln = s.kln := rfl
@[simp] theorem State.setFuse_spx : (s.setFuse f).spx = s.spx := rfl
@[simp] theorem State.setFuse_sup : (s.setFuse f).sup = s.sup := rfl
@[simp] theorem State.setFuse_act : (s.setFuse f).act = s.act := rfl
@[simp] theorem State.setFuse_thm : (s.setFuse f).thm = s.thm := rfl
@[simp] theorem State.setFuse_chg : (s.setFuse f).chg = s.chg := rfl
@[simp] theorem State.setFuse_upd : (s.setFuse f).upd = s.upd := rfl
@[simp] theorem State.setFuse_bus : (s.setFuse f).bus = s.bus := rfl
@[simp] theorem State.setFuse_xcp : (s.setFuse f).xcp = s.xcp := rfl
@[simp] theorem State.setFuse_olt : (s.setFuse f).olt = s.olt := rfl
@[simp] theorem State.setFuse_pending : (s.setFuse f).pending = s.pending := rfl
end

section
variable (s : State) (j : Journal)
@[simp] theorem State.setJournal_regs : (s.setJournal j).regs = s.regs := rfl
@[simp] theorem State.setJournal_mem : (s.setJournal j).mem = s.mem := rfl
@[simp] theorem State.setJournal_resp : (s.setJournal j).resp = s.resp := rfl
@[simp] theorem State.setJournal_sys : (s.setJournal j).sys = s.sys := rfl
@[simp] theorem State.setJournal_emb : (s.setJournal j).emb = s.emb := rfl
@[simp] theorem State.setJournal_fab : (s.setJournal j).fab = s.fab := rfl
@[simp] theorem State.setJournal_afe : (s.setJournal j).afe = s.afe := rfl
@[simp] theorem State.setJournal_hk : (s.setJournal j).hk = s.hk := rfl
@[simp] theorem State.setJournal_whl : (s.setJournal j).whl = s.whl := rfl
@[simp] theorem State.setJournal_pwm : (s.setJournal j).pwm = s.pwm := rfl
@[simp] theorem State.setJournal_cnv : (s.setJournal j).cnv = s.cnv := rfl
@[simp] theorem State.setJournal_fly : (s.setJournal j).fly = s.fly := rfl
@[simp] theorem State.setJournal_kln : (s.setJournal j).kln = s.kln := rfl
@[simp] theorem State.setJournal_spx : (s.setJournal j).spx = s.spx := rfl
@[simp] theorem State.setJournal_sup : (s.setJournal j).sup = s.sup := rfl
@[simp] theorem State.setJournal_act : (s.setJournal j).act = s.act := rfl
@[simp] theorem State.setJournal_thm : (s.setJournal j).thm = s.thm := rfl
@[simp] theorem State.setJournal_chg : (s.setJournal j).chg = s.chg := rfl
@[simp] theorem State.setJournal_upd : (s.setJournal j).upd = s.upd := rfl
@[simp] theorem State.setJournal_bus : (s.setJournal j).bus = s.bus := rfl
@[simp] theorem State.setJournal_xcp : (s.setJournal j).xcp = s.xcp := rfl
@[simp] theorem State.setJournal_olt : (s.setJournal j).olt = s.olt := rfl
@[simp] theorem State.setJournal_pending : (s.setJournal j).pending = s.pending := rfl
end

section
variable (s : State) (x : KlnSt)
@[simp] theorem State.setKln_regs : (s.setKln x).regs = s.regs := rfl
@[simp] theorem State.setKln_mem : (s.setKln x).mem = s.mem := rfl
@[simp] theorem State.setKln_resp : (s.setKln x).resp = s.resp := rfl
@[simp] theorem State.setKln_sys : (s.setKln x).sys = s.sys := rfl
@[simp] theorem State.setKln_emb : (s.setKln x).emb = s.emb := rfl
@[simp] theorem State.setKln_fab : (s.setKln x).fab = s.fab := rfl
@[simp] theorem State.setKln_afe : (s.setKln x).afe = s.afe := rfl
@[simp] theorem State.setKln_hk : (s.setKln x).hk = s.hk := rfl
@[simp] theorem State.setKln_whl : (s.setKln x).whl = s.whl := rfl
@[simp] theorem State.setKln_pwm : (s.setKln x).pwm = s.pwm := rfl
@[simp] theorem State.setKln_cnv : (s.setKln x).cnv = s.cnv := rfl
@[simp] theorem State.setKln_fly : (s.setKln x).fly = s.fly := rfl
@[simp] theorem State.setKln_spx : (s.setKln x).spx = s.spx := rfl
@[simp] theorem State.setKln_sup : (s.setKln x).sup = s.sup := rfl
@[simp] theorem State.setKln_act : (s.setKln x).act = s.act := rfl
@[simp] theorem State.setKln_thm : (s.setKln x).thm = s.thm := rfl
@[simp] theorem State.setKln_chg : (s.setKln x).chg = s.chg := rfl
@[simp] theorem State.setKln_tnd : (s.setKln x).tnd = s.tnd := rfl
@[simp] theorem State.setKln_upd : (s.setKln x).upd = s.upd := rfl
@[simp] theorem State.setKln_bus : (s.setKln x).bus = s.bus := rfl
@[simp] theorem State.setKln_xcp : (s.setKln x).xcp = s.xcp := rfl
@[simp] theorem State.setKln_olt : (s.setKln x).olt = s.olt := rfl
@[simp] theorem State.setKln_pending : (s.setKln x).pending = s.pending := rfl
end

section
variable (s : State) (l : Nat) (x : LegSt)
@[simp] theorem State.setLeg_regs : (s.setLeg l x).regs = s.regs := rfl
@[simp] theorem State.setLeg_mem : (s.setLeg l x).mem = s.mem := rfl
@[simp] theorem State.setLeg_resp : (s.setLeg l x).resp = s.resp := rfl
@[simp] theorem State.setLeg_sys : (s.setLeg l x).sys = s.sys := rfl
@[simp] theorem State.setLeg_emb : (s.setLeg l x).emb = s.emb := rfl
@[simp] theorem State.setLeg_fab : (s.setLeg l x).fab = s.fab := rfl
@[simp] theorem State.setLeg_afe : (s.setLeg l x).afe = s.afe := rfl
@[simp] theorem State.setLeg_hk : (s.setLeg l x).hk = s.hk := rfl
@[simp] theorem State.setLeg_whl : (s.setLeg l x).whl = s.whl := rfl
@[simp] theorem State.setLeg_cnv : (s.setLeg l x).cnv = s.cnv := rfl
@[simp] theorem State.setLeg_fly : (s.setLeg l x).fly = s.fly := rfl
@[simp] theorem State.setLeg_kln : (s.setLeg l x).kln = s.kln := rfl
@[simp] theorem State.setLeg_spx : (s.setLeg l x).spx = s.spx := rfl
@[simp] theorem State.setLeg_sup : (s.setLeg l x).sup = s.sup := rfl
@[simp] theorem State.setLeg_act : (s.setLeg l x).act = s.act := rfl
@[simp] theorem State.setLeg_thm : (s.setLeg l x).thm = s.thm := rfl
@[simp] theorem State.setLeg_chg : (s.setLeg l x).chg = s.chg := rfl
@[simp] theorem State.setLeg_tnd : (s.setLeg l x).tnd = s.tnd := rfl
@[simp] theorem State.setLeg_upd : (s.setLeg l x).upd = s.upd := rfl
@[simp] theorem State.setLeg_bus : (s.setLeg l x).bus = s.bus := rfl
@[simp] theorem State.setLeg_xcp : (s.setLeg l x).xcp = s.xcp := rfl
@[simp] theorem State.setLeg_olt : (s.setLeg l x).olt = s.olt := rfl
@[simp] theorem State.setLeg_pending : (s.setLeg l x).pending = s.pending := rfl
end

section
variable (s : State) (x : LoaderSt)
@[simp] theorem State.setLoader_regs : (s.setLoader x).regs = s.regs := rfl
@[simp] theorem State.setLoader_mem : (s.setLoader x).mem = s.mem := rfl
@[simp] theorem State.setLoader_resp : (s.setLoader x).resp = s.resp := rfl
@[simp] theorem State.setLoader_emb : (s.setLoader x).emb = s.emb := rfl
@[simp] theorem State.setLoader_fab : (s.setLoader x).fab = s.fab := rfl
@[simp] theorem State.setLoader_afe : (s.setLoader x).afe = s.afe := rfl
@[simp] theorem State.setLoader_hk : (s.setLoader x).hk = s.hk := rfl
@[simp] theorem State.setLoader_whl : (s.setLoader x).whl = s.whl := rfl
@[simp] theorem State.setLoader_pwm : (s.setLoader x).pwm = s.pwm := rfl
@[simp] theorem State.setLoader_cnv : (s.setLoader x).cnv = s.cnv := rfl
@[simp] theorem State.setLoader_fly : (s.setLoader x).fly = s.fly := rfl
@[simp] theorem State.setLoader_kln : (s.setLoader x).kln = s.kln := rfl
@[simp] theorem State.setLoader_spx : (s.setLoader x).spx = s.spx := rfl
@[simp] theorem State.setLoader_sup : (s.setLoader x).sup = s.sup := rfl
@[simp] theorem State.setLoader_act : (s.setLoader x).act = s.act := rfl
@[simp] theorem State.setLoader_thm : (s.setLoader x).thm = s.thm := rfl
@[simp] theorem State.setLoader_chg : (s.setLoader x).chg = s.chg := rfl
@[simp] theorem State.setLoader_tnd : (s.setLoader x).tnd = s.tnd := rfl
@[simp] theorem State.setLoader_upd : (s.setLoader x).upd = s.upd := rfl
@[simp] theorem State.setLoader_bus : (s.setLoader x).bus = s.bus := rfl
@[simp] theorem State.setLoader_xcp : (s.setLoader x).xcp = s.xcp := rfl
@[simp] theorem State.setLoader_olt : (s.setLoader x).olt = s.olt := rfl
@[simp] theorem State.setLoader_pending : (s.setLoader x).pending = s.pending := rfl
end

section
variable (s : State) (w : Nat) (l : Nat) (x : LoopSt)
@[simp] theorem State.setLoopSt_regs : (s.setLoopSt w l x).regs = s.regs := rfl
@[simp] theorem State.setLoopSt_mem : (s.setLoopSt w l x).mem = s.mem := rfl
@[simp] theorem State.setLoopSt_resp : (s.setLoopSt w l x).resp = s.resp := rfl
@[simp] theorem State.setLoopSt_sys : (s.setLoopSt w l x).sys = s.sys := rfl
@[simp] theorem State.setLoopSt_emb : (s.setLoopSt w l x).emb = s.emb := rfl
@[simp] theorem State.setLoopSt_fab : (s.setLoopSt w l x).fab = s.fab := rfl
@[simp] theorem State.setLoopSt_afe : (s.setLoopSt w l x).afe = s.afe := rfl
@[simp] theorem State.setLoopSt_hk : (s.setLoopSt w l x).hk = s.hk := rfl
@[simp] theorem State.setLoopSt_pwm : (s.setLoopSt w l x).pwm = s.pwm := rfl
@[simp] theorem State.setLoopSt_cnv : (s.setLoopSt w l x).cnv = s.cnv := rfl
@[simp] theorem State.setLoopSt_fly : (s.setLoopSt w l x).fly = s.fly := rfl
@[simp] theorem State.setLoopSt_kln : (s.setLoopSt w l x).kln = s.kln := rfl
@[simp] theorem State.setLoopSt_spx : (s.setLoopSt w l x).spx = s.spx := rfl
@[simp] theorem State.setLoopSt_sup : (s.setLoopSt w l x).sup = s.sup := rfl
@[simp] theorem State.setLoopSt_act : (s.setLoopSt w l x).act = s.act := rfl
@[simp] theorem State.setLoopSt_thm : (s.setLoopSt w l x).thm = s.thm := rfl
@[simp] theorem State.setLoopSt_chg : (s.setLoopSt w l x).chg = s.chg := rfl
@[simp] theorem State.setLoopSt_tnd : (s.setLoopSt w l x).tnd = s.tnd := rfl
@[simp] theorem State.setLoopSt_upd : (s.setLoopSt w l x).upd = s.upd := rfl
@[simp] theorem State.setLoopSt_bus : (s.setLoopSt w l x).bus = s.bus := rfl
@[simp] theorem State.setLoopSt_xcp : (s.setLoopSt w l x).xcp = s.xcp := rfl
@[simp] theorem State.setLoopSt_olt : (s.setLoopSt w l x).olt = s.olt := rfl
@[simp] theorem State.setLoopSt_pending : (s.setLoopSt w l x).pending = s.pending := rfl
end

section
variable (s : State) (m : Nat) (x : MachSup)
@[simp] theorem State.setMach_regs : (s.setMach m x).regs = s.regs := rfl
@[simp] theorem State.setMach_mem : (s.setMach m x).mem = s.mem := rfl
@[simp] theorem State.setMach_resp : (s.setMach m x).resp = s.resp := rfl
@[simp] theorem State.setMach_sys : (s.setMach m x).sys = s.sys := rfl
@[simp] theorem State.setMach_emb : (s.setMach m x).emb = s.emb := rfl
@[simp] theorem State.setMach_fab : (s.setMach m x).fab = s.fab := rfl
@[simp] theorem State.setMach_afe : (s.setMach m x).afe = s.afe := rfl
@[simp] theorem State.setMach_hk : (s.setMach m x).hk = s.hk := rfl
@[simp] theorem State.setMach_whl : (s.setMach m x).whl = s.whl := rfl
@[simp] theorem State.setMach_pwm : (s.setMach m x).pwm = s.pwm := rfl
@[simp] theorem State.setMach_cnv : (s.setMach m x).cnv = s.cnv := rfl
@[simp] theorem State.setMach_fly : (s.setMach m x).fly = s.fly := rfl
@[simp] theorem State.setMach_kln : (s.setMach m x).kln = s.kln := rfl
@[simp] theorem State.setMach_spx : (s.setMach m x).spx = s.spx := rfl
@[simp] theorem State.setMach_act : (s.setMach m x).act = s.act := rfl
@[simp] theorem State.setMach_thm : (s.setMach m x).thm = s.thm := rfl
@[simp] theorem State.setMach_chg : (s.setMach m x).chg = s.chg := rfl
@[simp] theorem State.setMach_tnd : (s.setMach m x).tnd = s.tnd := rfl
@[simp] theorem State.setMach_upd : (s.setMach m x).upd = s.upd := rfl
@[simp] theorem State.setMach_bus : (s.setMach m x).bus = s.bus := rfl
@[simp] theorem State.setMach_xcp : (s.setMach m x).xcp = s.xcp := rfl
@[simp] theorem State.setMach_olt : (s.setMach m x).olt = s.olt := rfl
@[simp] theorem State.setMach_pending : (s.setMach m x).pending = s.pending := rfl
end

section
variable (s : State) (p : Nat) (x : PairSt)
@[simp] theorem State.setPair_regs : (s.setPair p x).regs = s.regs := rfl
@[simp] theorem State.setPair_mem : (s.setPair p x).mem = s.mem := rfl
@[simp] theorem State.setPair_resp : (s.setPair p x).resp = s.resp := rfl
@[simp] theorem State.setPair_sys : (s.setPair p x).sys = s.sys := rfl
@[simp] theorem State.setPair_emb : (s.setPair p x).emb = s.emb := rfl
@[simp] theorem State.setPair_fab : (s.setPair p x).fab = s.fab := rfl
@[simp] theorem State.setPair_afe : (s.setPair p x).afe = s.afe := rfl
@[simp] theorem State.setPair_hk : (s.setPair p x).hk = s.hk := rfl
@[simp] theorem State.setPair_whl : (s.setPair p x).whl = s.whl := rfl
@[simp] theorem State.setPair_pwm : (s.setPair p x).pwm = s.pwm := rfl
@[simp] theorem State.setPair_cnv : (s.setPair p x).cnv = s.cnv := rfl
@[simp] theorem State.setPair_fly : (s.setPair p x).fly = s.fly := rfl
@[simp] theorem State.setPair_kln : (s.setPair p x).kln = s.kln := rfl
@[simp] theorem State.setPair_sup : (s.setPair p x).sup = s.sup := rfl
@[simp] theorem State.setPair_act : (s.setPair p x).act = s.act := rfl
@[simp] theorem State.setPair_thm : (s.setPair p x).thm = s.thm := rfl
@[simp] theorem State.setPair_chg : (s.setPair p x).chg = s.chg := rfl
@[simp] theorem State.setPair_tnd : (s.setPair p x).tnd = s.tnd := rfl
@[simp] theorem State.setPair_upd : (s.setPair p x).upd = s.upd := rfl
@[simp] theorem State.setPair_bus : (s.setPair p x).bus = s.bus := rfl
@[simp] theorem State.setPair_xcp : (s.setPair p x).xcp = s.xcp := rfl
@[simp] theorem State.setPair_olt : (s.setPair p x).olt = s.olt := rfl
@[simp] theorem State.setPair_pending : (s.setPair p x).pending = s.pending := rfl
end

section
variable (s : State) (p : PrivMram)
@[simp] theorem State.setPriv_regs : (s.setPriv p).regs = s.regs := rfl
@[simp] theorem State.setPriv_mem : (s.setPriv p).mem = s.mem := rfl
@[simp] theorem State.setPriv_resp : (s.setPriv p).resp = s.resp := rfl
@[simp] theorem State.setPriv_sys : (s.setPriv p).sys = s.sys := rfl
@[simp] theorem State.setPriv_emb : (s.setPriv p).emb = s.emb := rfl
@[simp] theorem State.setPriv_fab : (s.setPriv p).fab = s.fab := rfl
@[simp] theorem State.setPriv_afe : (s.setPriv p).afe = s.afe := rfl
@[simp] theorem State.setPriv_hk : (s.setPriv p).hk = s.hk := rfl
@[simp] theorem State.setPriv_whl : (s.setPriv p).whl = s.whl := rfl
@[simp] theorem State.setPriv_pwm : (s.setPriv p).pwm = s.pwm := rfl
@[simp] theorem State.setPriv_cnv : (s.setPriv p).cnv = s.cnv := rfl
@[simp] theorem State.setPriv_fly : (s.setPriv p).fly = s.fly := rfl
@[simp] theorem State.setPriv_kln : (s.setPriv p).kln = s.kln := rfl
@[simp] theorem State.setPriv_spx : (s.setPriv p).spx = s.spx := rfl
@[simp] theorem State.setPriv_sup : (s.setPriv p).sup = s.sup := rfl
@[simp] theorem State.setPriv_act : (s.setPriv p).act = s.act := rfl
@[simp] theorem State.setPriv_thm : (s.setPriv p).thm = s.thm := rfl
@[simp] theorem State.setPriv_chg : (s.setPriv p).chg = s.chg := rfl
@[simp] theorem State.setPriv_upd : (s.setPriv p).upd = s.upd := rfl
@[simp] theorem State.setPriv_bus : (s.setPriv p).bus = s.bus := rfl
@[simp] theorem State.setPriv_xcp : (s.setPriv p).xcp = s.xcp := rfl
@[simp] theorem State.setPriv_olt : (s.setPriv p).olt = s.olt := rfl
@[simp] theorem State.setPriv_pending : (s.setPriv p).pending = s.pending := rfl
end

section
variable (s : State) (p : Nat) (x : PsetSt)
@[simp] theorem State.setPset_regs : (s.setPset p x).regs = s.regs := rfl
@[simp] theorem State.setPset_mem : (s.setPset p x).mem = s.mem := rfl
@[simp] theorem State.setPset_resp : (s.setPset p x).resp = s.resp := rfl
@[simp] theorem State.setPset_sys : (s.setPset p x).sys = s.sys := rfl
@[simp] theorem State.setPset_emb : (s.setPset p x).emb = s.emb := rfl
@[simp] theorem State.setPset_fab : (s.setPset p x).fab = s.fab := rfl
@[simp] theorem State.setPset_afe : (s.setPset p x).afe = s.afe := rfl
@[simp] theorem State.setPset_hk : (s.setPset p x).hk = s.hk := rfl
@[simp] theorem State.setPset_whl : (s.setPset p x).whl = s.whl := rfl
@[simp] theorem State.setPset_cnv : (s.setPset p x).cnv = s.cnv := rfl
@[simp] theorem State.setPset_fly : (s.setPset p x).fly = s.fly := rfl
@[simp] theorem State.setPset_kln : (s.setPset p x).kln = s.kln := rfl
@[simp] theorem State.setPset_spx : (s.setPset p x).spx = s.spx := rfl
@[simp] theorem State.setPset_sup : (s.setPset p x).sup = s.sup := rfl
@[simp] theorem State.setPset_act : (s.setPset p x).act = s.act := rfl
@[simp] theorem State.setPset_thm : (s.setPset p x).thm = s.thm := rfl
@[simp] theorem State.setPset_chg : (s.setPset p x).chg = s.chg := rfl
@[simp] theorem State.setPset_tnd : (s.setPset p x).tnd = s.tnd := rfl
@[simp] theorem State.setPset_upd : (s.setPset p x).upd = s.upd := rfl
@[simp] theorem State.setPset_bus : (s.setPset p x).bus = s.bus := rfl
@[simp] theorem State.setPset_xcp : (s.setPset p x).xcp = s.xcp := rfl
@[simp] theorem State.setPset_olt : (s.setPset p x).olt = s.olt := rfl
@[simp] theorem State.setPset_pending : (s.setPset p x).pending = s.pending := rfl
end

section
variable (s : State) (x : ReelSt)
@[simp] theorem State.setReel_regs : (s.setReel x).regs = s.regs := rfl
@[simp] theorem State.setReel_mem : (s.setReel x).mem = s.mem := rfl
@[simp] theorem State.setReel_resp : (s.setReel x).resp = s.resp := rfl
@[simp] theorem State.setReel_sys : (s.setReel x).sys = s.sys := rfl
@[simp] theorem State.setReel_emb : (s.setReel x).emb = s.emb := rfl
@[simp] theorem State.setReel_fab : (s.setReel x).fab = s.fab := rfl
@[simp] theorem State.setReel_afe : (s.setReel x).afe = s.afe := rfl
@[simp] theorem State.setReel_hk : (s.setReel x).hk = s.hk := rfl
@[simp] theorem State.setReel_whl : (s.setReel x).whl = s.whl := rfl
@[simp] theorem State.setReel_pwm : (s.setReel x).pwm = s.pwm := rfl
@[simp] theorem State.setReel_cnv : (s.setReel x).cnv = s.cnv := rfl
@[simp] theorem State.setReel_fly : (s.setReel x).fly = s.fly := rfl
@[simp] theorem State.setReel_kln : (s.setReel x).kln = s.kln := rfl
@[simp] theorem State.setReel_spx : (s.setReel x).spx = s.spx := rfl
@[simp] theorem State.setReel_sup : (s.setReel x).sup = s.sup := rfl
@[simp] theorem State.setReel_act : (s.setReel x).act = s.act := rfl
@[simp] theorem State.setReel_thm : (s.setReel x).thm = s.thm := rfl
@[simp] theorem State.setReel_chg : (s.setReel x).chg = s.chg := rfl
@[simp] theorem State.setReel_tnd : (s.setReel x).tnd = s.tnd := rfl
@[simp] theorem State.setReel_upd : (s.setReel x).upd = s.upd := rfl
@[simp] theorem State.setReel_xcp : (s.setReel x).xcp = s.xcp := rfl
@[simp] theorem State.setReel_olt : (s.setReel x).olt = s.olt := rfl
@[simp] theorem State.setReel_pending : (s.setReel x).pending = s.pending := rfl
end

section
variable (s : State) (r : Nat) (x : RuleSt)
@[simp] theorem State.setRule_regs : (s.setRule r x).regs = s.regs := rfl
@[simp] theorem State.setRule_mem : (s.setRule r x).mem = s.mem := rfl
@[simp] theorem State.setRule_resp : (s.setRule r x).resp = s.resp := rfl
@[simp] theorem State.setRule_sys : (s.setRule r x).sys = s.sys := rfl
@[simp] theorem State.setRule_emb : (s.setRule r x).emb = s.emb := rfl
@[simp] theorem State.setRule_fab : (s.setRule r x).fab = s.fab := rfl
@[simp] theorem State.setRule_afe : (s.setRule r x).afe = s.afe := rfl
@[simp] theorem State.setRule_hk : (s.setRule r x).hk = s.hk := rfl
@[simp] theorem State.setRule_whl : (s.setRule r x).whl = s.whl := rfl
@[simp] theorem State.setRule_pwm : (s.setRule r x).pwm = s.pwm := rfl
@[simp] theorem State.setRule_cnv : (s.setRule r x).cnv = s.cnv := rfl
@[simp] theorem State.setRule_fly : (s.setRule r x).fly = s.fly := rfl
@[simp] theorem State.setRule_kln : (s.setRule r x).kln = s.kln := rfl
@[simp] theorem State.setRule_spx : (s.setRule r x).spx = s.spx := rfl
@[simp] theorem State.setRule_sup : (s.setRule r x).sup = s.sup := rfl
@[simp] theorem State.setRule_act : (s.setRule r x).act = s.act := rfl
@[simp] theorem State.setRule_chg : (s.setRule r x).chg = s.chg := rfl
@[simp] theorem State.setRule_tnd : (s.setRule r x).tnd = s.tnd := rfl
@[simp] theorem State.setRule_upd : (s.setRule r x).upd = s.upd := rfl
@[simp] theorem State.setRule_bus : (s.setRule r x).bus = s.bus := rfl
@[simp] theorem State.setRule_xcp : (s.setRule r x).xcp = s.xcp := rfl
@[simp] theorem State.setRule_olt : (s.setRule r x).olt = s.olt := rfl
@[simp] theorem State.setRule_pending : (s.setRule r x).pending = s.pending := rfl
end

section
variable (s : State) (k : Nat) (x : SensSt)
@[simp] theorem State.setSens_regs : (s.setSens k x).regs = s.regs := rfl
@[simp] theorem State.setSens_mem : (s.setSens k x).mem = s.mem := rfl
@[simp] theorem State.setSens_resp : (s.setSens k x).resp = s.resp := rfl
@[simp] theorem State.setSens_sys : (s.setSens k x).sys = s.sys := rfl
@[simp] theorem State.setSens_emb : (s.setSens k x).emb = s.emb := rfl
@[simp] theorem State.setSens_fab : (s.setSens k x).fab = s.fab := rfl
@[simp] theorem State.setSens_afe : (s.setSens k x).afe = s.afe := rfl
@[simp] theorem State.setSens_hk : (s.setSens k x).hk = s.hk := rfl
@[simp] theorem State.setSens_whl : (s.setSens k x).whl = s.whl := rfl
@[simp] theorem State.setSens_pwm : (s.setSens k x).pwm = s.pwm := rfl
@[simp] theorem State.setSens_cnv : (s.setSens k x).cnv = s.cnv := rfl
@[simp] theorem State.setSens_kln : (s.setSens k x).kln = s.kln := rfl
@[simp] theorem State.setSens_spx : (s.setSens k x).spx = s.spx := rfl
@[simp] theorem State.setSens_sup : (s.setSens k x).sup = s.sup := rfl
@[simp] theorem State.setSens_act : (s.setSens k x).act = s.act := rfl
@[simp] theorem State.setSens_thm : (s.setSens k x).thm = s.thm := rfl
@[simp] theorem State.setSens_chg : (s.setSens k x).chg = s.chg := rfl
@[simp] theorem State.setSens_tnd : (s.setSens k x).tnd = s.tnd := rfl
@[simp] theorem State.setSens_upd : (s.setSens k x).upd = s.upd := rfl
@[simp] theorem State.setSens_bus : (s.setSens k x).bus = s.bus := rfl
@[simp] theorem State.setSens_xcp : (s.setSens k x).xcp = s.xcp := rfl
@[simp] theorem State.setSens_olt : (s.setSens k x).olt = s.olt := rfl
@[simp] theorem State.setSens_pending : (s.setSens k x).pending = s.pending := rfl
end

section
variable (s : State) (i : Nat) (x : SensorSt)
@[simp] theorem State.setSensor_regs : (s.setSensor i x).regs = s.regs := rfl
@[simp] theorem State.setSensor_mem : (s.setSensor i x).mem = s.mem := rfl
@[simp] theorem State.setSensor_resp : (s.setSensor i x).resp = s.resp := rfl
@[simp] theorem State.setSensor_sys : (s.setSensor i x).sys = s.sys := rfl
@[simp] theorem State.setSensor_emb : (s.setSensor i x).emb = s.emb := rfl
@[simp] theorem State.setSensor_fab : (s.setSensor i x).fab = s.fab := rfl
@[simp] theorem State.setSensor_afe : (s.setSensor i x).afe = s.afe := rfl
@[simp] theorem State.setSensor_hk : (s.setSensor i x).hk = s.hk := rfl
@[simp] theorem State.setSensor_whl : (s.setSensor i x).whl = s.whl := rfl
@[simp] theorem State.setSensor_pwm : (s.setSensor i x).pwm = s.pwm := rfl
@[simp] theorem State.setSensor_cnv : (s.setSensor i x).cnv = s.cnv := rfl
@[simp] theorem State.setSensor_fly : (s.setSensor i x).fly = s.fly := rfl
@[simp] theorem State.setSensor_kln : (s.setSensor i x).kln = s.kln := rfl
@[simp] theorem State.setSensor_spx : (s.setSensor i x).spx = s.spx := rfl
@[simp] theorem State.setSensor_sup : (s.setSensor i x).sup = s.sup := rfl
@[simp] theorem State.setSensor_act : (s.setSensor i x).act = s.act := rfl
@[simp] theorem State.setSensor_chg : (s.setSensor i x).chg = s.chg := rfl
@[simp] theorem State.setSensor_tnd : (s.setSensor i x).tnd = s.tnd := rfl
@[simp] theorem State.setSensor_upd : (s.setSensor i x).upd = s.upd := rfl
@[simp] theorem State.setSensor_bus : (s.setSensor i x).bus = s.bus := rfl
@[simp] theorem State.setSensor_xcp : (s.setSensor i x).xcp = s.xcp := rfl
@[simp] theorem State.setSensor_olt : (s.setSensor i x).olt = s.olt := rfl
@[simp] theorem State.setSensor_pending : (s.setSensor i x).pending = s.pending := rfl
end

section
variable (s : State) (n : Nat) (x : SliceSt)
@[simp] theorem State.setSlices_regs : (s.setSlices n x).regs = s.regs := rfl
@[simp] theorem State.setSlices_mem : (s.setSlices n x).mem = s.mem := rfl
@[simp] theorem State.setSlices_resp : (s.setSlices n x).resp = s.resp := rfl
@[simp] theorem State.setSlices_sys : (s.setSlices n x).sys = s.sys := rfl
@[simp] theorem State.setSlices_emb : (s.setSlices n x).emb = s.emb := rfl
@[simp] theorem State.setSlices_fab : (s.setSlices n x).fab = s.fab := rfl
@[simp] theorem State.setSlices_hk : (s.setSlices n x).hk = s.hk := rfl
@[simp] theorem State.setSlices_whl : (s.setSlices n x).whl = s.whl := rfl
@[simp] theorem State.setSlices_pwm : (s.setSlices n x).pwm = s.pwm := rfl
@[simp] theorem State.setSlices_cnv : (s.setSlices n x).cnv = s.cnv := rfl
@[simp] theorem State.setSlices_fly : (s.setSlices n x).fly = s.fly := rfl
@[simp] theorem State.setSlices_kln : (s.setSlices n x).kln = s.kln := rfl
@[simp] theorem State.setSlices_spx : (s.setSlices n x).spx = s.spx := rfl
@[simp] theorem State.setSlices_sup : (s.setSlices n x).sup = s.sup := rfl
@[simp] theorem State.setSlices_act : (s.setSlices n x).act = s.act := rfl
@[simp] theorem State.setSlices_thm : (s.setSlices n x).thm = s.thm := rfl
@[simp] theorem State.setSlices_chg : (s.setSlices n x).chg = s.chg := rfl
@[simp] theorem State.setSlices_tnd : (s.setSlices n x).tnd = s.tnd := rfl
@[simp] theorem State.setSlices_upd : (s.setSlices n x).upd = s.upd := rfl
@[simp] theorem State.setSlices_bus : (s.setSlices n x).bus = s.bus := rfl
@[simp] theorem State.setSlices_xcp : (s.setSlices n x).xcp = s.xcp := rfl
@[simp] theorem State.setSlices_olt : (s.setSlices n x).olt = s.olt := rfl
@[simp] theorem State.setSlices_pending : (s.setSlices n x).pending = s.pending := rfl
end

section
variable (s : State) (k : Nat) (x : SrcSt)
@[simp] theorem State.setSrc_regs : (s.setSrc k x).regs = s.regs := rfl
@[simp] theorem State.setSrc_mem : (s.setSrc k x).mem = s.mem := rfl
@[simp] theorem State.setSrc_resp : (s.setSrc k x).resp = s.resp := rfl
@[simp] theorem State.setSrc_sys : (s.setSrc k x).sys = s.sys := rfl
@[simp] theorem State.setSrc_emb : (s.setSrc k x).emb = s.emb := rfl
@[simp] theorem State.setSrc_fab : (s.setSrc k x).fab = s.fab := rfl
@[simp] theorem State.setSrc_afe : (s.setSrc k x).afe = s.afe := rfl
@[simp] theorem State.setSrc_hk : (s.setSrc k x).hk = s.hk := rfl
@[simp] theorem State.setSrc_whl : (s.setSrc k x).whl = s.whl := rfl
@[simp] theorem State.setSrc_pwm : (s.setSrc k x).pwm = s.pwm := rfl
@[simp] theorem State.setSrc_cnv : (s.setSrc k x).cnv = s.cnv := rfl
@[simp] theorem State.setSrc_kln : (s.setSrc k x).kln = s.kln := rfl
@[simp] theorem State.setSrc_spx : (s.setSrc k x).spx = s.spx := rfl
@[simp] theorem State.setSrc_sup : (s.setSrc k x).sup = s.sup := rfl
@[simp] theorem State.setSrc_act : (s.setSrc k x).act = s.act := rfl
@[simp] theorem State.setSrc_thm : (s.setSrc k x).thm = s.thm := rfl
@[simp] theorem State.setSrc_chg : (s.setSrc k x).chg = s.chg := rfl
@[simp] theorem State.setSrc_tnd : (s.setSrc k x).tnd = s.tnd := rfl
@[simp] theorem State.setSrc_upd : (s.setSrc k x).upd = s.upd := rfl
@[simp] theorem State.setSrc_bus : (s.setSrc k x).bus = s.bus := rfl
@[simp] theorem State.setSrc_xcp : (s.setSrc k x).xcp = s.xcp := rfl
@[simp] theorem State.setSrc_olt : (s.setSrc k x).olt = s.olt := rfl
@[simp] theorem State.setSrc_pending : (s.setSrc k x).pending = s.pending := rfl
end

section
variable (s : State) (k : Nat) (x : SwSt)
@[simp] theorem State.setSw_regs : (s.setSw k x).regs = s.regs := rfl
@[simp] theorem State.setSw_mem : (s.setSw k x).mem = s.mem := rfl
@[simp] theorem State.setSw_resp : (s.setSw k x).resp = s.resp := rfl
@[simp] theorem State.setSw_sys : (s.setSw k x).sys = s.sys := rfl
@[simp] theorem State.setSw_emb : (s.setSw k x).emb = s.emb := rfl
@[simp] theorem State.setSw_fab : (s.setSw k x).fab = s.fab := rfl
@[simp] theorem State.setSw_afe : (s.setSw k x).afe = s.afe := rfl
@[simp] theorem State.setSw_hk : (s.setSw k x).hk = s.hk := rfl
@[simp] theorem State.setSw_whl : (s.setSw k x).whl = s.whl := rfl
@[simp] theorem State.setSw_cnv : (s.setSw k x).cnv = s.cnv := rfl
@[simp] theorem State.setSw_fly : (s.setSw k x).fly = s.fly := rfl
@[simp] theorem State.setSw_kln : (s.setSw k x).kln = s.kln := rfl
@[simp] theorem State.setSw_spx : (s.setSw k x).spx = s.spx := rfl
@[simp] theorem State.setSw_sup : (s.setSw k x).sup = s.sup := rfl
@[simp] theorem State.setSw_act : (s.setSw k x).act = s.act := rfl
@[simp] theorem State.setSw_thm : (s.setSw k x).thm = s.thm := rfl
@[simp] theorem State.setSw_chg : (s.setSw k x).chg = s.chg := rfl
@[simp] theorem State.setSw_tnd : (s.setSw k x).tnd = s.tnd := rfl
@[simp] theorem State.setSw_upd : (s.setSw k x).upd = s.upd := rfl
@[simp] theorem State.setSw_bus : (s.setSw k x).bus = s.bus := rfl
@[simp] theorem State.setSw_xcp : (s.setSw k x).xcp = s.xcp := rfl
@[simp] theorem State.setSw_olt : (s.setSw k x).olt = s.olt := rfl
@[simp] theorem State.setSw_pending : (s.setSw k x).pending = s.pending := rfl
end

section
variable (s : State) (x : TndSt)
@[simp] theorem State.setTnd_regs : (s.setTnd x).regs = s.regs := rfl
@[simp] theorem State.setTnd_mem : (s.setTnd x).mem = s.mem := rfl
@[simp] theorem State.setTnd_resp : (s.setTnd x).resp = s.resp := rfl
@[simp] theorem State.setTnd_sys : (s.setTnd x).sys = s.sys := rfl
@[simp] theorem State.setTnd_emb : (s.setTnd x).emb = s.emb := rfl
@[simp] theorem State.setTnd_fab : (s.setTnd x).fab = s.fab := rfl
@[simp] theorem State.setTnd_afe : (s.setTnd x).afe = s.afe := rfl
@[simp] theorem State.setTnd_hk : (s.setTnd x).hk = s.hk := rfl
@[simp] theorem State.setTnd_whl : (s.setTnd x).whl = s.whl := rfl
@[simp] theorem State.setTnd_pwm : (s.setTnd x).pwm = s.pwm := rfl
@[simp] theorem State.setTnd_cnv : (s.setTnd x).cnv = s.cnv := rfl
@[simp] theorem State.setTnd_fly : (s.setTnd x).fly = s.fly := rfl
@[simp] theorem State.setTnd_kln : (s.setTnd x).kln = s.kln := rfl
@[simp] theorem State.setTnd_spx : (s.setTnd x).spx = s.spx := rfl
@[simp] theorem State.setTnd_sup : (s.setTnd x).sup = s.sup := rfl
@[simp] theorem State.setTnd_act : (s.setTnd x).act = s.act := rfl
@[simp] theorem State.setTnd_thm : (s.setTnd x).thm = s.thm := rfl
@[simp] theorem State.setTnd_chg : (s.setTnd x).chg = s.chg := rfl
@[simp] theorem State.setTnd_upd : (s.setTnd x).upd = s.upd := rfl
@[simp] theorem State.setTnd_bus : (s.setTnd x).bus = s.bus := rfl
@[simp] theorem State.setTnd_xcp : (s.setTnd x).xcp = s.xcp := rfl
@[simp] theorem State.setTnd_olt : (s.setTnd x).olt = s.olt := rfl
@[simp] theorem State.setTnd_pending : (s.setTnd x).pending = s.pending := rfl
end

section
variable (s : State) (m : Nat) (x : TrkSt)
@[simp] theorem State.setTrk_regs : (s.setTrk m x).regs = s.regs := rfl
@[simp] theorem State.setTrk_mem : (s.setTrk m x).mem = s.mem := rfl
@[simp] theorem State.setTrk_resp : (s.setTrk m x).resp = s.resp := rfl
@[simp] theorem State.setTrk_sys : (s.setTrk m x).sys = s.sys := rfl
@[simp] theorem State.setTrk_emb : (s.setTrk m x).emb = s.emb := rfl
@[simp] theorem State.setTrk_fab : (s.setTrk m x).fab = s.fab := rfl
@[simp] theorem State.setTrk_afe : (s.setTrk m x).afe = s.afe := rfl
@[simp] theorem State.setTrk_hk : (s.setTrk m x).hk = s.hk := rfl
@[simp] theorem State.setTrk_whl : (s.setTrk m x).whl = s.whl := rfl
@[simp] theorem State.setTrk_pwm : (s.setTrk m x).pwm = s.pwm := rfl
@[simp] theorem State.setTrk_cnv : (s.setTrk m x).cnv = s.cnv := rfl
@[simp] theorem State.setTrk_kln : (s.setTrk m x).kln = s.kln := rfl
@[simp] theorem State.setTrk_spx : (s.setTrk m x).spx = s.spx := rfl
@[simp] theorem State.setTrk_sup : (s.setTrk m x).sup = s.sup := rfl
@[simp] theorem State.setTrk_act : (s.setTrk m x).act = s.act := rfl
@[simp] theorem State.setTrk_thm : (s.setTrk m x).thm = s.thm := rfl
@[simp] theorem State.setTrk_chg : (s.setTrk m x).chg = s.chg := rfl
@[simp] theorem State.setTrk_tnd : (s.setTrk m x).tnd = s.tnd := rfl
@[simp] theorem State.setTrk_upd : (s.setTrk m x).upd = s.upd := rfl
@[simp] theorem State.setTrk_bus : (s.setTrk m x).bus = s.bus := rfl
@[simp] theorem State.setTrk_xcp : (s.setTrk m x).xcp = s.xcp := rfl
@[simp] theorem State.setTrk_olt : (s.setTrk m x).olt = s.olt := rfl
@[simp] theorem State.setTrk_pending : (s.setTrk m x).pending = s.pending := rfl
end

section
variable (s : State) (n : Nat) (x : TwinSt)
@[simp] theorem State.setTwin_regs : (s.setTwin n x).regs = s.regs := rfl
@[simp] theorem State.setTwin_mem : (s.setTwin n x).mem = s.mem := rfl
@[simp] theorem State.setTwin_resp : (s.setTwin n x).resp = s.resp := rfl
@[simp] theorem State.setTwin_sys : (s.setTwin n x).sys = s.sys := rfl
@[simp] theorem State.setTwin_emb : (s.setTwin n x).emb = s.emb := rfl
@[simp] theorem State.setTwin_fab : (s.setTwin n x).fab = s.fab := rfl
@[simp] theorem State.setTwin_afe : (s.setTwin n x).afe = s.afe := rfl
@[simp] theorem State.setTwin_whl : (s.setTwin n x).whl = s.whl := rfl
@[simp] theorem State.setTwin_pwm : (s.setTwin n x).pwm = s.pwm := rfl
@[simp] theorem State.setTwin_cnv : (s.setTwin n x).cnv = s.cnv := rfl
@[simp] theorem State.setTwin_fly : (s.setTwin n x).fly = s.fly := rfl
@[simp] theorem State.setTwin_kln : (s.setTwin n x).kln = s.kln := rfl
@[simp] theorem State.setTwin_spx : (s.setTwin n x).spx = s.spx := rfl
@[simp] theorem State.setTwin_sup : (s.setTwin n x).sup = s.sup := rfl
@[simp] theorem State.setTwin_act : (s.setTwin n x).act = s.act := rfl
@[simp] theorem State.setTwin_thm : (s.setTwin n x).thm = s.thm := rfl
@[simp] theorem State.setTwin_chg : (s.setTwin n x).chg = s.chg := rfl
@[simp] theorem State.setTwin_tnd : (s.setTwin n x).tnd = s.tnd := rfl
@[simp] theorem State.setTwin_upd : (s.setTwin n x).upd = s.upd := rfl
@[simp] theorem State.setTwin_bus : (s.setTwin n x).bus = s.bus := rfl
@[simp] theorem State.setTwin_xcp : (s.setTwin n x).xcp = s.xcp := rfl
@[simp] theorem State.setTwin_olt : (s.setTwin n x).olt = s.olt := rfl
@[simp] theorem State.setTwin_pending : (s.setTwin n x).pending = s.pending := rfl
end

section
variable (s : State) (x : UpdSt)
@[simp] theorem State.setUpd_regs : (s.setUpd x).regs = s.regs := rfl
@[simp] theorem State.setUpd_mem : (s.setUpd x).mem = s.mem := rfl
@[simp] theorem State.setUpd_resp : (s.setUpd x).resp = s.resp := rfl
@[simp] theorem State.setUpd_sys : (s.setUpd x).sys = s.sys := rfl
@[simp] theorem State.setUpd_emb : (s.setUpd x).emb = s.emb := rfl
@[simp] theorem State.setUpd_fab : (s.setUpd x).fab = s.fab := rfl
@[simp] theorem State.setUpd_afe : (s.setUpd x).afe = s.afe := rfl
@[simp] theorem State.setUpd_hk : (s.setUpd x).hk = s.hk := rfl
@[simp] theorem State.setUpd_whl : (s.setUpd x).whl = s.whl := rfl
@[simp] theorem State.setUpd_pwm : (s.setUpd x).pwm = s.pwm := rfl
@[simp] theorem State.setUpd_cnv : (s.setUpd x).cnv = s.cnv := rfl
@[simp] theorem State.setUpd_fly : (s.setUpd x).fly = s.fly := rfl
@[simp] theorem State.setUpd_kln : (s.setUpd x).kln = s.kln := rfl
@[simp] theorem State.setUpd_spx : (s.setUpd x).spx = s.spx := rfl
@[simp] theorem State.setUpd_sup : (s.setUpd x).sup = s.sup := rfl
@[simp] theorem State.setUpd_act : (s.setUpd x).act = s.act := rfl
@[simp] theorem State.setUpd_thm : (s.setUpd x).thm = s.thm := rfl
@[simp] theorem State.setUpd_chg : (s.setUpd x).chg = s.chg := rfl
@[simp] theorem State.setUpd_tnd : (s.setUpd x).tnd = s.tnd := rfl
@[simp] theorem State.setUpd_bus : (s.setUpd x).bus = s.bus := rfl
@[simp] theorem State.setUpd_xcp : (s.setUpd x).xcp = s.xcp := rfl
@[simp] theorem State.setUpd_olt : (s.setUpd x).olt = s.olt := rfl
@[simp] theorem State.setUpd_pending : (s.setUpd x).pending = s.pending := rfl
end

section
variable (s : State) (w : Nat) (x : WhorlSt)
@[simp] theorem State.setWhorl_regs : (s.setWhorl w x).regs = s.regs := rfl
@[simp] theorem State.setWhorl_mem : (s.setWhorl w x).mem = s.mem := rfl
@[simp] theorem State.setWhorl_resp : (s.setWhorl w x).resp = s.resp := rfl
@[simp] theorem State.setWhorl_sys : (s.setWhorl w x).sys = s.sys := rfl
@[simp] theorem State.setWhorl_emb : (s.setWhorl w x).emb = s.emb := rfl
@[simp] theorem State.setWhorl_fab : (s.setWhorl w x).fab = s.fab := rfl
@[simp] theorem State.setWhorl_afe : (s.setWhorl w x).afe = s.afe := rfl
@[simp] theorem State.setWhorl_hk : (s.setWhorl w x).hk = s.hk := rfl
@[simp] theorem State.setWhorl_pwm : (s.setWhorl w x).pwm = s.pwm := rfl
@[simp] theorem State.setWhorl_cnv : (s.setWhorl w x).cnv = s.cnv := rfl
@[simp] theorem State.setWhorl_fly : (s.setWhorl w x).fly = s.fly := rfl
@[simp] theorem State.setWhorl_kln : (s.setWhorl w x).kln = s.kln := rfl
@[simp] theorem State.setWhorl_spx : (s.setWhorl w x).spx = s.spx := rfl
@[simp] theorem State.setWhorl_sup : (s.setWhorl w x).sup = s.sup := rfl
@[simp] theorem State.setWhorl_act : (s.setWhorl w x).act = s.act := rfl
@[simp] theorem State.setWhorl_thm : (s.setWhorl w x).thm = s.thm := rfl
@[simp] theorem State.setWhorl_chg : (s.setWhorl w x).chg = s.chg := rfl
@[simp] theorem State.setWhorl_tnd : (s.setWhorl w x).tnd = s.tnd := rfl
@[simp] theorem State.setWhorl_upd : (s.setWhorl w x).upd = s.upd := rfl
@[simp] theorem State.setWhorl_bus : (s.setWhorl w x).bus = s.bus := rfl
@[simp] theorem State.setWhorl_xcp : (s.setWhorl w x).xcp = s.xcp := rfl
@[simp] theorem State.setWhorl_olt : (s.setWhorl w x).olt = s.olt := rfl
@[simp] theorem State.setWhorl_pending : (s.setWhorl w x).pending = s.pending := rfl
end

section
variable (s : State) (n : Nat) (w : Nat) (x : WinSt)
@[simp] theorem State.setWin_regs : (s.setWin n w x).regs = s.regs := rfl
@[simp] theorem State.setWin_mem : (s.setWin n w x).mem = s.mem := rfl
@[simp] theorem State.setWin_resp : (s.setWin n w x).resp = s.resp := rfl
@[simp] theorem State.setWin_sys : (s.setWin n w x).sys = s.sys := rfl
@[simp] theorem State.setWin_emb : (s.setWin n w x).emb = s.emb := rfl
@[simp] theorem State.setWin_fab : (s.setWin n w x).fab = s.fab := rfl
@[simp] theorem State.setWin_hk : (s.setWin n w x).hk = s.hk := rfl
@[simp] theorem State.setWin_whl : (s.setWin n w x).whl = s.whl := rfl
@[simp] theorem State.setWin_pwm : (s.setWin n w x).pwm = s.pwm := rfl
@[simp] theorem State.setWin_cnv : (s.setWin n w x).cnv = s.cnv := rfl
@[simp] theorem State.setWin_fly : (s.setWin n w x).fly = s.fly := rfl
@[simp] theorem State.setWin_kln : (s.setWin n w x).kln = s.kln := rfl
@[simp] theorem State.setWin_spx : (s.setWin n w x).spx = s.spx := rfl
@[simp] theorem State.setWin_sup : (s.setWin n w x).sup = s.sup := rfl
@[simp] theorem State.setWin_act : (s.setWin n w x).act = s.act := rfl
@[simp] theorem State.setWin_thm : (s.setWin n w x).thm = s.thm := rfl
@[simp] theorem State.setWin_chg : (s.setWin n w x).chg = s.chg := rfl
@[simp] theorem State.setWin_tnd : (s.setWin n w x).tnd = s.tnd := rfl
@[simp] theorem State.setWin_upd : (s.setWin n w x).upd = s.upd := rfl
@[simp] theorem State.setWin_bus : (s.setWin n w x).bus = s.bus := rfl
@[simp] theorem State.setWin_xcp : (s.setWin n w x).xcp = s.xcp := rfl
@[simp] theorem State.setWin_olt : (s.setWin n w x).olt = s.olt := rfl
@[simp] theorem State.setWin_pending : (s.setWin n w x).pending = s.pending := rfl
end

section
variable (s : State) (i : Nat) (x : SetSup)
@[simp] theorem State.setWset_regs : (s.setWset i x).regs = s.regs := rfl
@[simp] theorem State.setWset_mem : (s.setWset i x).mem = s.mem := rfl
@[simp] theorem State.setWset_resp : (s.setWset i x).resp = s.resp := rfl
@[simp] theorem State.setWset_sys : (s.setWset i x).sys = s.sys := rfl
@[simp] theorem State.setWset_emb : (s.setWset i x).emb = s.emb := rfl
@[simp] theorem State.setWset_fab : (s.setWset i x).fab = s.fab := rfl
@[simp] theorem State.setWset_afe : (s.setWset i x).afe = s.afe := rfl
@[simp] theorem State.setWset_hk : (s.setWset i x).hk = s.hk := rfl
@[simp] theorem State.setWset_whl : (s.setWset i x).whl = s.whl := rfl
@[simp] theorem State.setWset_pwm : (s.setWset i x).pwm = s.pwm := rfl
@[simp] theorem State.setWset_cnv : (s.setWset i x).cnv = s.cnv := rfl
@[simp] theorem State.setWset_fly : (s.setWset i x).fly = s.fly := rfl
@[simp] theorem State.setWset_kln : (s.setWset i x).kln = s.kln := rfl
@[simp] theorem State.setWset_spx : (s.setWset i x).spx = s.spx := rfl
@[simp] theorem State.setWset_act : (s.setWset i x).act = s.act := rfl
@[simp] theorem State.setWset_thm : (s.setWset i x).thm = s.thm := rfl
@[simp] theorem State.setWset_chg : (s.setWset i x).chg = s.chg := rfl
@[simp] theorem State.setWset_tnd : (s.setWset i x).tnd = s.tnd := rfl
@[simp] theorem State.setWset_upd : (s.setWset i x).upd = s.upd := rfl
@[simp] theorem State.setWset_bus : (s.setWset i x).bus = s.bus := rfl
@[simp] theorem State.setWset_xcp : (s.setWset i x).xcp = s.xcp := rfl
@[simp] theorem State.setWset_olt : (s.setWset i x).olt = s.olt := rfl
@[simp] theorem State.setWset_pending : (s.setWset i x).pending = s.pending := rfl
end

section
variable (s : State) (x : XcpSt)
@[simp] theorem State.setXcp_regs : (s.setXcp x).regs = s.regs := rfl
@[simp] theorem State.setXcp_mem : (s.setXcp x).mem = s.mem := rfl
@[simp] theorem State.setXcp_resp : (s.setXcp x).resp = s.resp := rfl
@[simp] theorem State.setXcp_sys : (s.setXcp x).sys = s.sys := rfl
@[simp] theorem State.setXcp_emb : (s.setXcp x).emb = s.emb := rfl
@[simp] theorem State.setXcp_fab : (s.setXcp x).fab = s.fab := rfl
@[simp] theorem State.setXcp_afe : (s.setXcp x).afe = s.afe := rfl
@[simp] theorem State.setXcp_hk : (s.setXcp x).hk = s.hk := rfl
@[simp] theorem State.setXcp_whl : (s.setXcp x).whl = s.whl := rfl
@[simp] theorem State.setXcp_pwm : (s.setXcp x).pwm = s.pwm := rfl
@[simp] theorem State.setXcp_cnv : (s.setXcp x).cnv = s.cnv := rfl
@[simp] theorem State.setXcp_fly : (s.setXcp x).fly = s.fly := rfl
@[simp] theorem State.setXcp_kln : (s.setXcp x).kln = s.kln := rfl
@[simp] theorem State.setXcp_spx : (s.setXcp x).spx = s.spx := rfl
@[simp] theorem State.setXcp_sup : (s.setXcp x).sup = s.sup := rfl
@[simp] theorem State.setXcp_act : (s.setXcp x).act = s.act := rfl
@[simp] theorem State.setXcp_thm : (s.setXcp x).thm = s.thm := rfl
@[simp] theorem State.setXcp_chg : (s.setXcp x).chg = s.chg := rfl
@[simp] theorem State.setXcp_tnd : (s.setXcp x).tnd = s.tnd := rfl
@[simp] theorem State.setXcp_upd : (s.setXcp x).upd = s.upd := rfl
@[simp] theorem State.setXcp_bus : (s.setXcp x).bus = s.bus := rfl
@[simp] theorem State.setXcp_olt : (s.setXcp x).olt = s.olt := rfl
@[simp] theorem State.setXcp_pending : (s.setXcp x).pending = s.pending := rfl
end

section
variable (s : State) (c : Nat) (x : XferSt)
@[simp] theorem State.setXfer_regs : (s.setXfer c x).regs = s.regs := rfl
@[simp] theorem State.setXfer_mem : (s.setXfer c x).mem = s.mem := rfl
@[simp] theorem State.setXfer_resp : (s.setXfer c x).resp = s.resp := rfl
@[simp] theorem State.setXfer_sys : (s.setXfer c x).sys = s.sys := rfl
@[simp] theorem State.setXfer_emb : (s.setXfer c x).emb = s.emb := rfl
@[simp] theorem State.setXfer_afe : (s.setXfer c x).afe = s.afe := rfl
@[simp] theorem State.setXfer_hk : (s.setXfer c x).hk = s.hk := rfl
@[simp] theorem State.setXfer_whl : (s.setXfer c x).whl = s.whl := rfl
@[simp] theorem State.setXfer_pwm : (s.setXfer c x).pwm = s.pwm := rfl
@[simp] theorem State.setXfer_cnv : (s.setXfer c x).cnv = s.cnv := rfl
@[simp] theorem State.setXfer_fly : (s.setXfer c x).fly = s.fly := rfl
@[simp] theorem State.setXfer_kln : (s.setXfer c x).kln = s.kln := rfl
@[simp] theorem State.setXfer_spx : (s.setXfer c x).spx = s.spx := rfl
@[simp] theorem State.setXfer_sup : (s.setXfer c x).sup = s.sup := rfl
@[simp] theorem State.setXfer_act : (s.setXfer c x).act = s.act := rfl
@[simp] theorem State.setXfer_thm : (s.setXfer c x).thm = s.thm := rfl
@[simp] theorem State.setXfer_chg : (s.setXfer c x).chg = s.chg := rfl
@[simp] theorem State.setXfer_tnd : (s.setXfer c x).tnd = s.tnd := rfl
@[simp] theorem State.setXfer_upd : (s.setXfer c x).upd = s.upd := rfl
@[simp] theorem State.setXfer_bus : (s.setXfer c x).bus = s.bus := rfl
@[simp] theorem State.setXfer_xcp : (s.setXfer c x).xcp = s.xcp := rfl
@[simp] theorem State.setXfer_olt : (s.setXfer c x).olt = s.olt := rfl
@[simp] theorem State.setXfer_pending : (s.setXfer c x).pending = s.pending := rfl
end

/-! ### Reads see only their own part -/
@[simp] theorem State.byte_with_regs (s : State) (x : SMap Word) (a : Nat) : State.byte { s with regs := x } a = s.byte a := rfl
@[simp] theorem State.rd_with_mem (s : State) (x : List Host.Cell) (a : Nat) : State.rd { s with mem := x } a = s.rd a := rfl
@[simp] theorem State.get_with_mem (s : State) (x : List Host.Cell) (f : Fld) (i j k : Nat) : State.get { s with mem := x } f i j k = s.get f i j k := rfl
@[simp] theorem State.rd_with_resp (s : State) (x : BusResp) (a : Nat) : State.rd { s with resp := x } a = s.rd a := rfl
@[simp] theorem State.get_with_resp (s : State) (x : BusResp) (f : Fld) (i j k : Nat) : State.get { s with resp := x } f i j k = s.get f i j k := rfl
@[simp] theorem State.byte_with_resp (s : State) (x : BusResp) (a : Nat) : State.byte { s with resp := x } a = s.byte a := rfl
@[simp] theorem State.rd_with_sys (s : State) (x : SysSt) (a : Nat) : State.rd { s with sys := x } a = s.rd a := rfl
@[simp] theorem State.get_with_sys (s : State) (x : SysSt) (f : Fld) (i j k : Nat) : State.get { s with sys := x } f i j k = s.get f i j k := rfl
@[simp] theorem State.byte_with_sys (s : State) (x : SysSt) (a : Nat) : State.byte { s with sys := x } a = s.byte a := rfl
@[simp] theorem State.rd_with_emb (s : State) (x : EmberSt) (a : Nat) : State.rd { s with emb := x } a = s.rd a := rfl
@[simp] theorem State.get_with_emb (s : State) (x : EmberSt) (f : Fld) (i j k : Nat) : State.get { s with emb := x } f i j k = s.get f i j k := rfl
@[simp] theorem State.byte_with_emb (s : State) (x : EmberSt) (a : Nat) : State.byte { s with emb := x } a = s.byte a := rfl
@[simp] theorem State.rd_with_fab (s : State) (x : FabricSt) (a : Nat) : State.rd { s with fab := x } a = s.rd a := rfl
@[simp] theorem State.get_with_fab (s : State) (x : FabricSt) (f : Fld) (i j k : Nat) : State.get { s with fab := x } f i j k = s.get f i j k := rfl
@[simp] theorem State.byte_with_fab (s : State) (x : FabricSt) (a : Nat) : State.byte { s with fab := x } a = s.byte a := rfl
@[simp] theorem State.rd_with_afe (s : State) (x : AfeSt) (a : Nat) : State.rd { s with afe := x } a = s.rd a := rfl
@[simp] theorem State.get_with_afe (s : State) (x : AfeSt) (f : Fld) (i j k : Nat) : State.get { s with afe := x } f i j k = s.get f i j k := rfl
@[simp] theorem State.byte_with_afe (s : State) (x : AfeSt) (a : Nat) : State.byte { s with afe := x } a = s.byte a := rfl
@[simp] theorem State.rd_with_hk (s : State) (x : HkSt) (a : Nat) : State.rd { s with hk := x } a = s.rd a := rfl
@[simp] theorem State.get_with_hk (s : State) (x : HkSt) (f : Fld) (i j k : Nat) : State.get { s with hk := x } f i j k = s.get f i j k := rfl
@[simp] theorem State.byte_with_hk (s : State) (x : HkSt) (a : Nat) : State.byte { s with hk := x } a = s.byte a := rfl
@[simp] theorem State.rd_with_whl (s : State) (x : WhlSt) (a : Nat) : State.rd { s with whl := x } a = s.rd a := rfl
@[simp] theorem State.get_with_whl (s : State) (x : WhlSt) (f : Fld) (i j k : Nat) : State.get { s with whl := x } f i j k = s.get f i j k := rfl
@[simp] theorem State.byte_with_whl (s : State) (x : WhlSt) (a : Nat) : State.byte { s with whl := x } a = s.byte a := rfl
@[simp] theorem State.rd_with_pwm (s : State) (x : PwmSt) (a : Nat) : State.rd { s with pwm := x } a = s.rd a := rfl
@[simp] theorem State.get_with_pwm (s : State) (x : PwmSt) (f : Fld) (i j k : Nat) : State.get { s with pwm := x } f i j k = s.get f i j k := rfl
@[simp] theorem State.byte_with_pwm (s : State) (x : PwmSt) (a : Nat) : State.byte { s with pwm := x } a = s.byte a := rfl
@[simp] theorem State.rd_with_cnv (s : State) (x : CnvSt) (a : Nat) : State.rd { s with cnv := x } a = s.rd a := rfl
@[simp] theorem State.get_with_cnv (s : State) (x : CnvSt) (f : Fld) (i j k : Nat) : State.get { s with cnv := x } f i j k = s.get f i j k := rfl
@[simp] theorem State.byte_with_cnv (s : State) (x : CnvSt) (a : Nat) : State.byte { s with cnv := x } a = s.byte a := rfl
@[simp] theorem State.rd_with_fly (s : State) (x : FlySt) (a : Nat) : State.rd { s with fly := x } a = s.rd a := rfl
@[simp] theorem State.get_with_fly (s : State) (x : FlySt) (f : Fld) (i j k : Nat) : State.get { s with fly := x } f i j k = s.get f i j k := rfl
@[simp] theorem State.byte_with_fly (s : State) (x : FlySt) (a : Nat) : State.byte { s with fly := x } a = s.byte a := rfl
@[simp] theorem State.rd_with_kln (s : State) (x : KlnSt) (a : Nat) : State.rd { s with kln := x } a = s.rd a := rfl
@[simp] theorem State.get_with_kln (s : State) (x : KlnSt) (f : Fld) (i j k : Nat) : State.get { s with kln := x } f i j k = s.get f i j k := rfl
@[simp] theorem State.byte_with_kln (s : State) (x : KlnSt) (a : Nat) : State.byte { s with kln := x } a = s.byte a := rfl
@[simp] theorem State.rd_with_spx (s : State) (x : SpxSt) (a : Nat) : State.rd { s with spx := x } a = s.rd a := rfl
@[simp] theorem State.get_with_spx (s : State) (x : SpxSt) (f : Fld) (i j k : Nat) : State.get { s with spx := x } f i j k = s.get f i j k := rfl
@[simp] theorem State.byte_with_spx (s : State) (x : SpxSt) (a : Nat) : State.byte { s with spx := x } a = s.byte a := rfl
@[simp] theorem State.rd_with_sup (s : State) (x : SupSt) (a : Nat) : State.rd { s with sup := x } a = s.rd a := rfl
@[simp] theorem State.get_with_sup (s : State) (x : SupSt) (f : Fld) (i j k : Nat) : State.get { s with sup := x } f i j k = s.get f i j k := rfl
@[simp] theorem State.byte_with_sup (s : State) (x : SupSt) (a : Nat) : State.byte { s with sup := x } a = s.byte a := rfl
@[simp] theorem State.rd_with_act (s : State) (x : ActSt) (a : Nat) : State.rd { s with act := x } a = s.rd a := rfl
@[simp] theorem State.get_with_act (s : State) (x : ActSt) (f : Fld) (i j k : Nat) : State.get { s with act := x } f i j k = s.get f i j k := rfl
@[simp] theorem State.byte_with_act (s : State) (x : ActSt) (a : Nat) : State.byte { s with act := x } a = s.byte a := rfl
@[simp] theorem State.rd_with_thm (s : State) (x : ThmSt) (a : Nat) : State.rd { s with thm := x } a = s.rd a := rfl
@[simp] theorem State.get_with_thm (s : State) (x : ThmSt) (f : Fld) (i j k : Nat) : State.get { s with thm := x } f i j k = s.get f i j k := rfl
@[simp] theorem State.byte_with_thm (s : State) (x : ThmSt) (a : Nat) : State.byte { s with thm := x } a = s.byte a := rfl
@[simp] theorem State.rd_with_chg (s : State) (x : ChgSt) (a : Nat) : State.rd { s with chg := x } a = s.rd a := rfl
@[simp] theorem State.get_with_chg (s : State) (x : ChgSt) (f : Fld) (i j k : Nat) : State.get { s with chg := x } f i j k = s.get f i j k := rfl
@[simp] theorem State.byte_with_chg (s : State) (x : ChgSt) (a : Nat) : State.byte { s with chg := x } a = s.byte a := rfl
@[simp] theorem State.rd_with_tnd (s : State) (x : TndSt) (a : Nat) : State.rd { s with tnd := x } a = s.rd a := rfl
@[simp] theorem State.get_with_tnd (s : State) (x : TndSt) (f : Fld) (i j k : Nat) : State.get { s with tnd := x } f i j k = s.get f i j k := rfl
@[simp] theorem State.byte_with_tnd (s : State) (x : TndSt) (a : Nat) : State.byte { s with tnd := x } a = s.byte a := rfl
@[simp] theorem State.rd_with_upd (s : State) (x : UpdSt) (a : Nat) : State.rd { s with upd := x } a = s.rd a := rfl
@[simp] theorem State.get_with_upd (s : State) (x : UpdSt) (f : Fld) (i j k : Nat) : State.get { s with upd := x } f i j k = s.get f i j k := rfl
@[simp] theorem State.byte_with_upd (s : State) (x : UpdSt) (a : Nat) : State.byte { s with upd := x } a = s.byte a := rfl
@[simp] theorem State.rd_with_bus (s : State) (x : BusSt) (a : Nat) : State.rd { s with bus := x } a = s.rd a := rfl
@[simp] theorem State.get_with_bus (s : State) (x : BusSt) (f : Fld) (i j k : Nat) : State.get { s with bus := x } f i j k = s.get f i j k := rfl
@[simp] theorem State.byte_with_bus (s : State) (x : BusSt) (a : Nat) : State.byte { s with bus := x } a = s.byte a := rfl
@[simp] theorem State.rd_with_xcp (s : State) (x : XcpSt) (a : Nat) : State.rd { s with xcp := x } a = s.rd a := rfl
@[simp] theorem State.get_with_xcp (s : State) (x : XcpSt) (f : Fld) (i j k : Nat) : State.get { s with xcp := x } f i j k = s.get f i j k := rfl
@[simp] theorem State.byte_with_xcp (s : State) (x : XcpSt) (a : Nat) : State.byte { s with xcp := x } a = s.byte a := rfl
@[simp] theorem State.rd_with_olt (s : State) (x : OltSt) (a : Nat) : State.rd { s with olt := x } a = s.rd a := rfl
@[simp] theorem State.get_with_olt (s : State) (x : OltSt) (f : Fld) (i j k : Nat) : State.get { s with olt := x } f i j k = s.get f i j k := rfl
@[simp] theorem State.byte_with_olt (s : State) (x : OltSt) (a : Nat) : State.byte { s with olt := x } a = s.byte a := rfl
@[simp] theorem State.rd_with_pending (s : State) (x : List Instr) (a : Nat) : State.rd { s with pending := x } a = s.rd a := rfl
@[simp] theorem State.get_with_pending (s : State) (x : List Instr) (f : Fld) (i j k : Nat) : State.get { s with pending := x } f i j k = s.get f i j k := rfl
@[simp] theorem State.byte_with_pending (s : State) (x : List Instr) (a : Nat) : State.byte { s with pending := x } a = s.byte a := rfl

/-- Bytes depend on memory alone. -/
theorem State.bytes_of_mem {s t : State} (h : t.mem = s.mem) (a n : Nat) : t.bytes a n = s.bytes a n := by
  induction n generalizing a with
  | zero => rfl
  | succ n ih =>
    unfold State.bytes State.byte
    rw [h, ih]

/-- A byte depends on memory alone. -/
theorem State.byte_of_mem {s t : State} (h : t.mem = s.mem) (a : Nat) : t.byte a = s.byte a := by
  unfold State.byte
  rw [h]

/-- A register depends on the register table alone. -/
theorem State.rd_of_regs {s t : State} (h : t.regs = s.regs) (a : Nat) : t.rd a = s.rd a := by
  unfold State.rd
  rw [h]

/-- A field depends on the register table alone. -/
theorem State.get_of_regs {s t : State} (h : t.regs = s.regs) (f : Fld) (i j k : Nat) : t.get f i j k = s.get f i j k := by
  unfold State.get
  rw [State.rd_of_regs h]

end Sys2Proof.Machine
end

