-- ==== Sys2Proof/Laws/Events.lean ====
section
/-! SUPPORT. What raising an event and issuing a fault code do. -/

set_option linter.all false
namespace Sys2Proof.Machine
open Sys2Proof

/-- Counting an overrun writes the event's OVR field and SAT only. -/
theorem countOvr_rd (n a : Nat) (s : State) (h1 : a ≠ (ovrFld n).addr 0 0 0) (h2 : a ≠ F.CDC_STALE.SAT.addr 0 0 0) :
    (countOvr n s).rd a = s.rd a := by
  unfold countOvr
  split
  · rfl
  · dsimp only
    split <;> simp only [State.set, State.rd_wr, if_neg h1, if_neg h2]

/-- Raising an event writes no other register. -/
theorem raise_rd (n a : Nat) (s : State) (h1 : a ≠ (ovrFld n).addr 0 0 0) (h2 : a ≠ F.CDC_STALE.SAT.addr 0 0 0) :
    (raise n s).rd a = s.rd a := by
  unfold raise
  split
  · split
    · exact countOvr_rd _ _ _ h1 h2
    · rfl
  · rfl

theorem raise_get (n : Nat) (s : State) (f : Fld) (i j k : Nat) (h1 : f.addr i j k ≠ (ovrFld n).addr 0 0 0)
    (h2 : f.addr i j k ≠ F.CDC_STALE.SAT.addr 0 0 0) : (raise n s).get f i j k = s.get f i j k := by
  unfold State.get
  rw [raise_rd _ _ _ h1 h2]

/-- Of the other parts, raising an event changes only the fabric's. -/
theorem raise_eq (n : Nat) (s : State) : raise n s = { s with regs := (raise n s).regs, fab := (raise n s).fab } := by
  have h : ∀ t : State, countOvr n t = { t with regs := (countOvr n t).regs } := by
    intro t
    unfold countOvr
    split
    · rfl
    · dsimp only
      split <;> rfl
  unfold raise
  split
  · split
    · rw [h]; rfl
    · rfl
  · rfl

/-- With the fabric's domain on, a raised event is in flight. -/
theorem raise_flight (n : Nat) (s : State) (h : s.pdOn 8 = true) : ((raise n s).xing n).flight = true := by
  have hc : ∀ t : State, (countOvr n t).fab = t.fab := by
    intro t
    unfold countOvr
    split
    · rfl
    · dsimp only
      split <;> rfl
  unfold raise
  rw [if_pos h]
  split
  · unfold State.xing
    rw [hc]
    simp only [State.setXing, SMap.get_put_self]
    assumption
  · simp only [State.xing, State.setXing, SMap.get_put_self]

/-- Other events' crossings are not touched. -/
theorem raise_other (n m : Nat) (s : State) (h : m ≠ n) : (raise n s).xing m = s.xing m := by
  have hc : ∀ t : State, (countOvr n t).fab = t.fab := by
    intro t
    unfold countOvr
    split
    · rfl
    · dsimp only
      split <;> rfl
  unfold raise
  split
  · split
    · unfold State.xing
      rw [hc]
      simp only [State.setXing, SMap.get_put_ne _ _ _ _ _ h]
    · simp only [State.xing, State.setXing, SMap.get_put_ne _ _ _ _ _ h]
  · rfl

/-- Issuing a code changes no register; it is the last code issued, and a class above REPORT waits for a reaction. -/
theorem issueFor_eq (src : FaultSrc) (code cls : Nat) (s : State) : issueFor src code cls s =
    { s with
      sys := { s.sys with lastFault := code,
                          reacts := if clsOf cls = 0 then s.sys.reacts else s.sys.reacts ++ [⟨code, clsOf cls, src⟩] }
      kln := { s.kln with mail := if clsOf cls ≥ 3 then s.kln.mail ++ [⟨code, clsOf cls, src⟩] else s.kln.mail } } := by
  unfold issueFor
  dsimp only
  split <;> split <;> rfl

@[simp] theorem issueFor_rd (src : FaultSrc) (code cls a : Nat) (s : State) : (issueFor src code cls s).rd a = s.rd a := by
  rw [issueFor_eq]; rfl

@[simp] theorem issueFor_get (src : FaultSrc) (code cls : Nat) (s : State) (f : Fld) (i j k : Nat) :
    (issueFor src code cls s).get f i j k = s.get f i j k := by
  rw [issueFor_eq]; rfl

@[simp] theorem issue_rd (code cls a : Nat) (s : State) : (issue code cls s).rd a = s.rd a := issueFor_rd _ _ _ _ _

@[simp] theorem issue_get (code cls : Nat) (s : State) (f : Fld) (i j k : Nat) : (issue code cls s).get f i j k = s.get f i j k :=
  issueFor_get _ _ _ _ _ _ _ _

@[simp] theorem issue_lastFault (code cls : Nat) (s : State) : (issue code cls s).sys.lastFault = code := by
  unfold issue
  rw [issueFor_eq]

end Sys2Proof.Machine
end

