-- ==== Sys2Proof/Laws/MaskBase.lean ====
section
/-! SUPPORT. Updates of single parts of the state, seen through a mask; a part that is not blanked is read back from it. -/

namespace Sys2Proof.Machine
open Sys2Proof

theorem mask_regs {K : Parts} (kA : K.regs) (s : State) (x0 : SMap Word) :
    State.mask K { s with regs := x0 } = s.mask K := by simp only [State.mask, kA, if_true]

theorem mask_mem {K : Parts} (kB : K.mem) (s : State) (x0 : List Host.Cell) :
    State.mask K { s with mem := x0 } = s.mask K := by simp only [State.mask, kB, if_true]

theorem mask_resp {K : Parts} (kC : K.resp) (s : State) (x0 : BusResp) :
    State.mask K { s with resp := x0 } = s.mask K := by simp only [State.mask, kC, if_true]

theorem mask_sys {K : Parts} (kD : K.sys) (s : State) (x0 : SysSt) :
    State.mask K { s with sys := x0 } = s.mask K := by simp only [State.mask, kD, if_true]

theorem mask_emb {K : Parts} (kE : K.emb) (s : State) (x0 : EmberSt) :
    State.mask K { s with emb := x0 } = s.mask K := by simp only [State.mask, kE, if_true]

theorem mask_fab {K : Parts} (kF : K.fab) (s : State) (x0 : FabricSt) :
    State.mask K { s with fab := x0 } = s.mask K := by simp only [State.mask, kF, if_true]

theorem mask_afe {K : Parts} (kG : K.afe) (s : State) (x0 : AfeSt) :
    State.mask K { s with afe := x0 } = s.mask K := by simp only [State.mask, kG, if_true]

theorem mask_hk {K : Parts} (kH : K.hk) (s : State) (x0 : HkSt) :
    State.mask K { s with hk := x0 } = s.mask K := by simp only [State.mask, kH, if_true]

theorem mask_whl {K : Parts} (kI : K.whl) (s : State) (x0 : WhlSt) :
    State.mask K { s with whl := x0 } = s.mask K := by simp only [State.mask, kI, if_true]

theorem mask_pwm {K : Parts} (kJ : K.pwm) (s : State) (x0 : PwmSt) :
    State.mask K { s with pwm := x0 } = s.mask K := by simp only [State.mask, kJ, if_true]

theorem mask_cnv {K : Parts} (kK : K.cnv) (s : State) (x0 : CnvSt) :
    State.mask K { s with cnv := x0 } = s.mask K := by simp only [State.mask, kK, if_true]

theorem mask_fly {K : Parts} (kL : K.fly) (s : State) (x0 : FlySt) :
    State.mask K { s with fly := x0 } = s.mask K := by simp only [State.mask, kL, if_true]

theorem mask_kln {K : Parts} (kM : K.kln) (s : State) (x0 : KlnSt) :
    State.mask K { s with kln := x0 } = s.mask K := by simp only [State.mask, kM, if_true]

theorem mask_spx {K : Parts} (kN : K.spx) (s : State) (x0 : SpxSt) :
    State.mask K { s with spx := x0 } = s.mask K := by simp only [State.mask, kN, if_true]

theorem mask_sup {K : Parts} (kO : K.sup) (s : State) (x0 : SupSt) :
    State.mask K { s with sup := x0 } = s.mask K := by simp only [State.mask, kO, if_true]

theorem mask_act {K : Parts} (kP : K.act) (s : State) (x0 : ActSt) :
    State.mask K { s with act := x0 } = s.mask K := by simp only [State.mask, kP, if_true]

theorem mask_thm {K : Parts} (kQ : K.thm) (s : State) (x0 : ThmSt) :
    State.mask K { s with thm := x0 } = s.mask K := by simp only [State.mask, kQ, if_true]

theorem mask_chg {K : Parts} (kR : K.chg) (s : State) (x0 : ChgSt) :
    State.mask K { s with chg := x0 } = s.mask K := by simp only [State.mask, kR, if_true]

theorem mask_tnd {K : Parts} (kS : K.tnd) (s : State) (x0 : TndSt) :
    State.mask K { s with tnd := x0 } = s.mask K := by simp only [State.mask, kS, if_true]

theorem mask_upd {K : Parts} (kT : K.upd) (s : State) (x0 : UpdSt) :
    State.mask K { s with upd := x0 } = s.mask K := by simp only [State.mask, kT, if_true]

theorem mask_bus {K : Parts} (kU : K.bus) (s : State) (x0 : BusSt) :
    State.mask K { s with bus := x0 } = s.mask K := by simp only [State.mask, kU, if_true]

theorem mask_xcp {K : Parts} (kV : K.xcp) (s : State) (x0 : XcpSt) :
    State.mask K { s with xcp := x0 } = s.mask K := by simp only [State.mask, kV, if_true]

theorem mask_olt {K : Parts} (kW : K.olt) (s : State) (x0 : OltSt) :
    State.mask K { s with olt := x0 } = s.mask K := by simp only [State.mask, kW, if_true]

theorem mask_chg_xcp {K : Parts} (kR : K.chg) (kV : K.xcp) (s : State) (x0 : ChgSt) (x1 : XcpSt) :
    State.mask K { s with chg := x0, xcp := x1 } = s.mask K := by simp only [State.mask, kR, kV, if_true]

theorem mask_sys_kln {K : Parts} (kD : K.sys) (kM : K.kln) (s : State) (x0 : SysSt) (x1 : KlnSt) :
    State.mask K { s with sys := x0, kln := x1 } = s.mask K := by simp only [State.mask, kD, kM, if_true]

theorem mask_mem_fab {K : Parts} (kB : K.mem) (kF : K.fab) (s : State) (x0 : List Host.Cell) (x1 : FabricSt) :
    State.mask K { s with mem := x0, fab := x1 } = s.mask K := by simp only [State.mask, kB, kF, if_true]

theorem mask_regs_mem_sys_fab {K : Parts} (kA : K.regs) (kB : K.mem) (kD : K.sys) (kF : K.fab) (s : State) (x0 : SMap Word) (x1 : List Host.Cell) (x2 : SysSt) (x3 : FabricSt) :
    State.mask K { s with regs := x0, mem := x1, sys := x2, fab := x3 } = s.mask K := by simp only [State.mask, kA, kB, kD, kF, if_true]

theorem mask_tnd_upd {K : Parts} (kS : K.tnd) (kT : K.upd) (s : State) (x0 : TndSt) (x1 : UpdSt) :
    State.mask K { s with tnd := x0, upd := x1 } = s.mask K := by simp only [State.mask, kS, kT, if_true]

theorem mask_spx_sup {K : Parts} (kN : K.spx) (kO : K.sup) (s : State) (x0 : SpxSt) (x1 : SupSt) :
    State.mask K { s with spx := x0, sup := x1 } = s.mask K := by simp only [State.mask, kN, kO, if_true]

theorem mask_spx_chg_xcp {K : Parts} (kN : K.spx) (kR : K.chg) (kV : K.xcp) (s : State) (x0 : SpxSt) (x1 : ChgSt) (x2 : XcpSt) :
    State.mask K { s with spx := x0, chg := x1, xcp := x2 } = s.mask K := by simp only [State.mask, kN, kR, kV, if_true]

theorem mask_whl_cnv {K : Parts} (kI : K.whl) (kK : K.cnv) (s : State) (x0 : WhlSt) (x1 : CnvSt) :
    State.mask K { s with whl := x0, cnv := x1 } = s.mask K := by simp only [State.mask, kI, kK, if_true]

theorem mask_pwm_fly {K : Parts} (kJ : K.pwm) (kL : K.fly) (s : State) (x0 : PwmSt) (x1 : FlySt) :
    State.mask K { s with pwm := x0, fly := x1 } = s.mask K := by simp only [State.mask, kJ, kL, if_true]

theorem mask_sys_fab_olt {K : Parts} (kD : K.sys) (kF : K.fab) (kW : K.olt) (s : State) (x0 : SysSt) (x1 : FabricSt) (x2 : OltSt) :
    State.mask K { s with sys := x0, fab := x1, olt := x2 } = s.mask K := by simp only [State.mask, kD, kF, kW, if_true]

theorem mask_sys_hk_kln_act_thm {K : Parts} (kD : K.sys) (kH : K.hk) (kM : K.kln) (kP : K.act) (kQ : K.thm) (s : State) (x0 : SysSt) (x1 : HkSt) (x2 : KlnSt) (x3 : ActSt) (x4 : ThmSt) :
    State.mask K { s with sys := x0, hk := x1, kln := x2, act := x3, thm := x4 } = s.mask K := by simp only [State.mask, kD, kH, kM, kP, kQ, if_true]

theorem mask_sys_kln_tnd {K : Parts} (kD : K.sys) (kM : K.kln) (kS : K.tnd) (s : State) (x0 : SysSt) (x1 : KlnSt) (x2 : TndSt) :
    State.mask K { s with sys := x0, kln := x1, tnd := x2 } = s.mask K := by simp only [State.mask, kD, kM, kS, if_true]

theorem mask_mem_fab_tnd {K : Parts} (kB : K.mem) (kF : K.fab) (kS : K.tnd) (s : State) (x0 : List Host.Cell) (x1 : FabricSt) (x2 : TndSt) :
    State.mask K { s with mem := x0, fab := x1, tnd := x2 } = s.mask K := by simp only [State.mask, kB, kF, kS, if_true]

theorem foldl_mask {K : Parts} {α : Type} (f : State → α → State) (hf : ∀ s x, (f s x).mask K = s.mask K) (l : List α) (s : State) :
    (l.foldl f s).mask K = s.mask K := by
  induction l generalizing s with
  | nil => rfl
  | cons x r ih => rw [List.foldl_cons, ih, hf]

/-- The queue is in no part. -/
theorem pending_of_mask {K : Parts} {s t : State} (h : t.mask K = s.mask K) : t.pending = s.pending := by
  have h := congrArg State.pending h
  exact h

theorem regs_of_mask {K : Parts} (hk : K.regs = false) {s t : State} (h : t.mask K = s.mask K) : t.regs = s.regs := by
  have h := congrArg State.regs h
  simpa only [State.mask, hk, Bool.false_eq_true, if_false] using h

theorem mem_of_mask {K : Parts} (hk : K.mem = false) {s t : State} (h : t.mask K = s.mask K) : t.mem = s.mem := by
  have h := congrArg State.mem h
  simpa only [State.mask, hk, Bool.false_eq_true, if_false] using h

theorem resp_of_mask {K : Parts} (hk : K.resp = false) {s t : State} (h : t.mask K = s.mask K) : t.resp = s.resp := by
  have h := congrArg State.resp h
  simpa only [State.mask, hk, Bool.false_eq_true, if_false] using h

theorem sys_of_mask {K : Parts} (hk : K.sys = false) {s t : State} (h : t.mask K = s.mask K) : t.sys = s.sys := by
  have h := congrArg State.sys h
  simpa only [State.mask, hk, Bool.false_eq_true, if_false] using h

theorem emb_of_mask {K : Parts} (hk : K.emb = false) {s t : State} (h : t.mask K = s.mask K) : t.emb = s.emb := by
  have h := congrArg State.emb h
  simpa only [State.mask, hk, Bool.false_eq_true, if_false] using h

theorem fab_of_mask {K : Parts} (hk : K.fab = false) {s t : State} (h : t.mask K = s.mask K) : t.fab = s.fab := by
  have h := congrArg State.fab h
  simpa only [State.mask, hk, Bool.false_eq_true, if_false] using h

theorem afe_of_mask {K : Parts} (hk : K.afe = false) {s t : State} (h : t.mask K = s.mask K) : t.afe = s.afe := by
  have h := congrArg State.afe h
  simpa only [State.mask, hk, Bool.false_eq_true, if_false] using h

theorem hk_of_mask {K : Parts} (hk : K.hk = false) {s t : State} (h : t.mask K = s.mask K) : t.hk = s.hk := by
  have h := congrArg State.hk h
  simpa only [State.mask, hk, Bool.false_eq_true, if_false] using h

theorem whl_of_mask {K : Parts} (hk : K.whl = false) {s t : State} (h : t.mask K = s.mask K) : t.whl = s.whl := by
  have h := congrArg State.whl h
  simpa only [State.mask, hk, Bool.false_eq_true, if_false] using h

theorem pwm_of_mask {K : Parts} (hk : K.pwm = false) {s t : State} (h : t.mask K = s.mask K) : t.pwm = s.pwm := by
  have h := congrArg State.pwm h
  simpa only [State.mask, hk, Bool.false_eq_true, if_false] using h

theorem cnv_of_mask {K : Parts} (hk : K.cnv = false) {s t : State} (h : t.mask K = s.mask K) : t.cnv = s.cnv := by
  have h := congrArg State.cnv h
  simpa only [State.mask, hk, Bool.false_eq_true, if_false] using h

theorem fly_of_mask {K : Parts} (hk : K.fly = false) {s t : State} (h : t.mask K = s.mask K) : t.fly = s.fly := by
  have h := congrArg State.fly h
  simpa only [State.mask, hk, Bool.false_eq_true, if_false] using h

theorem kln_of_mask {K : Parts} (hk : K.kln = false) {s t : State} (h : t.mask K = s.mask K) : t.kln = s.kln := by
  have h := congrArg State.kln h
  simpa only [State.mask, hk, Bool.false_eq_true, if_false] using h

theorem spx_of_mask {K : Parts} (hk : K.spx = false) {s t : State} (h : t.mask K = s.mask K) : t.spx = s.spx := by
  have h := congrArg State.spx h
  simpa only [State.mask, hk, Bool.false_eq_true, if_false] using h

theorem sup_of_mask {K : Parts} (hk : K.sup = false) {s t : State} (h : t.mask K = s.mask K) : t.sup = s.sup := by
  have h := congrArg State.sup h
  simpa only [State.mask, hk, Bool.false_eq_true, if_false] using h

theorem act_of_mask {K : Parts} (hk : K.act = false) {s t : State} (h : t.mask K = s.mask K) : t.act = s.act := by
  have h := congrArg State.act h
  simpa only [State.mask, hk, Bool.false_eq_true, if_false] using h

theorem thm_of_mask {K : Parts} (hk : K.thm = false) {s t : State} (h : t.mask K = s.mask K) : t.thm = s.thm := by
  have h := congrArg State.thm h
  simpa only [State.mask, hk, Bool.false_eq_true, if_false] using h

theorem chg_of_mask {K : Parts} (hk : K.chg = false) {s t : State} (h : t.mask K = s.mask K) : t.chg = s.chg := by
  have h := congrArg State.chg h
  simpa only [State.mask, hk, Bool.false_eq_true, if_false] using h

theorem tnd_of_mask {K : Parts} (hk : K.tnd = false) {s t : State} (h : t.mask K = s.mask K) : t.tnd = s.tnd := by
  have h := congrArg State.tnd h
  simpa only [State.mask, hk, Bool.false_eq_true, if_false] using h

theorem upd_of_mask {K : Parts} (hk : K.upd = false) {s t : State} (h : t.mask K = s.mask K) : t.upd = s.upd := by
  have h := congrArg State.upd h
  simpa only [State.mask, hk, Bool.false_eq_true, if_false] using h

theorem bus_of_mask {K : Parts} (hk : K.bus = false) {s t : State} (h : t.mask K = s.mask K) : t.bus = s.bus := by
  have h := congrArg State.bus h
  simpa only [State.mask, hk, Bool.false_eq_true, if_false] using h

theorem xcp_of_mask {K : Parts} (hk : K.xcp = false) {s t : State} (h : t.mask K = s.mask K) : t.xcp = s.xcp := by
  have h := congrArg State.xcp h
  simpa only [State.mask, hk, Bool.false_eq_true, if_false] using h

theorem olt_of_mask {K : Parts} (hk : K.olt = false) {s t : State} (h : t.mask K = s.mask K) : t.olt = s.olt := by
  have h := congrArg State.olt h
  simpa only [State.mask, hk, Bool.false_eq_true, if_false] using h

end Sys2Proof.Machine
end

