-- ==== Sys2Proof/Laws/Mask1.lean ====
section
/-! SUPPORT. What each operation and meaning leaves unchanged: it changes no part of the state but those its lemma blanks. -/

set_option maxRecDepth 4000
set_option linter.all false
namespace Sys2Proof.Machine
open Sys2Proof

theorem wr_mask {K : Parts} (kA : K.regs) (s : State) (a : Nat) (w : Word) :
    (State.wr s a w).mask K = s.mask K := by
  simp only [State.wr, ↓apply_ite (State.mask K), ite_self, ↓foldl_mask, implies_true, mask_regs kA]

theorem set_mask {K : Parts} (kA : K.regs) (s : State) (f : Fld) (v : Nat) (i : Nat) (j : Nat) (k : Nat) :
    (State.set s f v i j k).mask K = s.mask K := by
  simp only [State.set, ↓apply_ite (State.mask K), ite_self, ↓foldl_mask, implies_true, ↓(wr_mask kA)]

theorem setB_mask {K : Parts} (kA : K.regs) (s : State) (f : Fld) (b : Bool) (i : Nat) (j : Nat) (k : Nat) :
    (State.setB s f b i j k).mask K = s.mask K := by
  simp only [State.setB, ↓apply_ite (State.mask K), ite_self, ↓foldl_mask, implies_true, ↓(set_mask kA)]

theorem setI_mask {K : Parts} (kA : K.regs) (s : State) (f : Fld) (v : Int) (i : Nat) (j : Nat) (k : Nat) :
    (State.setI s f v i j k).mask K = s.mask K := by
  simp only [State.setI, ↓apply_ite (State.mask K), ite_self, ↓foldl_mask, implies_true, ↓(set_mask kA)]

theorem bump_mask {K : Parts} (kA : K.regs) (s : State) (f : Fld) (satF : Fld) (i : Nat) (j : Nat) (k : Nat) (n : Nat) :
    (State.bump s f satF i j k n).mask K = s.mask K := by
  simp only [State.bump, ↓apply_ite (State.mask K), ite_self, ↓foldl_mask, implies_true, ↓(set_mask kA)]

theorem setBit_mask {K : Parts} (kA : K.regs) (s : State) (f : Fld) (b : Nat) (v : Bool) (i : Nat) (j : Nat) (k : Nat) :
    (State.setBit s f b v i j k).mask K = s.mask K := by
  simp only [State.setBit, ↓apply_ite (State.mask K), ite_self, ↓foldl_mask, implies_true, ↓(set_mask kA)]

theorem countOvr_mask {K : Parts} (kA : K.regs) (n : Nat) (s : State) :
    (countOvr n s).mask K = s.mask K := by
  simp only [countOvr, ↓apply_ite (State.mask K), ite_self, ↓foldl_mask, implies_true, ↓(set_mask kA)]

theorem setXing_mask {K : Parts} (kF : K.fab) (s : State) (n : Nat) (x : XingSt) :
    (State.setXing s n x).mask K = s.mask K := by
  simp only [State.setXing, ↓apply_ite (State.mask K), ite_self, ↓foldl_mask, implies_true, mask_fab kF]

theorem raise_mask {K : Parts} (kA : K.regs) (kF : K.fab) (n : Nat) (s : State) :
    (raise n s).mask K = s.mask K := by
  simp only [raise, ↓apply_ite (State.mask K), ite_self, ↓foldl_mask, implies_true, ↓(setXing_mask kF), ↓(countOvr_mask kA)]

theorem issueFor_mask {K : Parts} (kD : K.sys) (kM : K.kln) (src : FaultSrc) (code : Nat) (cls : Nat) (s : State) :
    (issueFor src code cls s).mask K = s.mask K := by
  simp only [issueFor, ↓apply_ite (State.mask K), ite_self, ↓foldl_mask, implies_true, mask_sys kD, mask_kln kM]

theorem issue_mask {K : Parts} (kD : K.sys) (kM : K.kln) (code : Nat) (cls : Nat) (s : State) :
    (issue code cls s).mask K = s.mask K := by
  simp only [issue, ↓apply_ite (State.mask K), ite_self, ↓foldl_mask, implies_true, ↓(issueFor_mask kD kM)]

theorem setByte_mask {K : Parts} (kB : K.mem) (s : State) (a : Nat) (b : Byte) :
    (State.setByte s a b).mask K = s.mask K := by
  simp only [State.setByte, ↓apply_ite (State.mask K), ite_self, ↓foldl_mask, implies_true, mask_mem kB]

theorem setBytes_mask {K : Parts} (kB : K.mem) (s : State) (a : Nat) (y2 : List Byte) :
    (State.setBytes s a y2).mask K = s.mask K := by
  induction y2 generalizing s a with
  | nil => rfl
  | cons b r ih => exact (ih _ _).trans (setByte_mask kB _ _ _)

theorem store_mask {K : Parts} (kB : K.mem) (s : State) (a : Nat) (n : Nat) (v : Nat) :
    (State.store s a n v).mask K = s.mask K := by
  simp only [State.store, ↓apply_ite (State.mask K), ite_self, ↓foldl_mask, implies_true, ↓(setBytes_mask kB)]

theorem answer_mask {K : Parts} (kC : K.resp) (s : State) (r : BusResp) :
    (State.answer s r).mask K = s.mask K := by
  simp only [State.answer, ↓apply_ite (State.mask K), ite_self, ↓foldl_mask, implies_true, mask_resp kC]

theorem busError_mask {K : Parts} (kC : K.resp) (s : State) :
    (busError s).mask K = s.mask K := by
  simp only [busError, ↓apply_ite (State.mask K), ite_self, ↓foldl_mask, implies_true, ↓(answer_mask kC)]

theorem poisonWord_mask {K : Parts} (kF : K.fab) (k : Nat) (s : State) :
    (poisonWord k s).mask K = s.mask K := by
  simp only [poisonWord, ↓apply_ite (State.mask K), ite_self, ↓foldl_mask, implies_true, mask_fab kF]

theorem cleanWord_mask {K : Parts} (kF : K.fab) (k : Nat) (s : State) :
    (cleanWord k s).mask K = s.mask K := by
  simp only [cleanWord, ↓apply_ite (State.mask K), ite_self, ↓foldl_mask, implies_true, mask_fab kF]

theorem bucketAdd_mask {K : Parts} (kA : K.regs) (kD : K.sys) (kF : K.fab) (kM : K.kln) (b : Nat) (s : State) :
    (bucketAdd b s).mask K = s.mask K := by
  simp only [bucketAdd, ↓apply_ite (State.mask K), ite_self, ↓foldl_mask, implies_true, ↓(bump_mask kA), ↓(set_mask kA), ↓(issue_mask kD kM), ↓(raise_mask kA kF)]

theorem slogAdd_mask {K : Parts} (kA : K.regs) (k : Nat) (byRead : Bool) (s : State) :
    (slogAdd k byRead s).mask K = s.mask K := by
  simp only [slogAdd, ↓apply_ite (State.mask K), ite_self, ↓foldl_mask, implies_true, ↓(bump_mask kA), ↓(set_mask kA), ↓(setB_mask kA)]; (repeat' split) <;> first | (simp only [↓apply_ite (State.mask K), ite_self, ↓foldl_mask, implies_true, ↓(bump_mask kA), ↓(set_mask kA), ↓(setB_mask kA)]; done) | (simp only [↓apply_ite (State.mask K), ite_self, ↓foldl_mask, implies_true, ↓(bump_mask kA), ↓(set_mask kA), ↓(setB_mask kA)]; (repeat' split) <;> first | (simp only [↓apply_ite (State.mask K), ite_self, ↓foldl_mask, implies_true, ↓(bump_mask kA), ↓(set_mask kA), ↓(setB_mask kA)]; done) | rfl | grind [bump_mask, set_mask, setB_mask]) | rfl | grind [bump_mask, set_mask, setB_mask]

theorem readWord_mask {K : Parts} (kA : K.regs) (kD : K.sys) (kF : K.fab) (kM : K.kln) (k : Nat) (synd : Syndrome) (s : State) :
    (readWord k synd s).2.mask K = s.mask K := by
  simp only [readWord, ↓apply_ite (State.mask K), ite_self, ↓foldl_mask, implies_true, ↓apply_ite Prod.snd, ↓apply_ite Prod.fst, ↓(bump_mask kA), ↓(bucketAdd_mask kA kD kF kM), ↓(issue_mask kD kM), ↓(poisonWord_mask kF), ↓(raise_mask kA kF), ↓(slogAdd_mask kA)]; (repeat' split) <;> first | (simp only [↓apply_ite (State.mask K), ite_self, ↓foldl_mask, implies_true, ↓apply_ite Prod.snd, ↓apply_ite Prod.fst, ↓(bump_mask kA), ↓(bucketAdd_mask kA kD kF kM), ↓(issue_mask kD kM), ↓(poisonWord_mask kF), ↓(raise_mask kA kF), ↓(slogAdd_mask kA)]; done) | (simp only [↓apply_ite (State.mask K), ite_self, ↓foldl_mask, implies_true, ↓apply_ite Prod.snd, ↓apply_ite Prod.fst, ↓(bump_mask kA), ↓(bucketAdd_mask kA kD kF kM), ↓(issue_mask kD kM), ↓(poisonWord_mask kF), ↓(raise_mask kA kF), ↓(slogAdd_mask kA)]; (repeat' split) <;> first | (simp only [↓apply_ite (State.mask K), ite_self, ↓foldl_mask, implies_true, ↓apply_ite Prod.snd, ↓apply_ite Prod.fst, ↓(bump_mask kA), ↓(bucketAdd_mask kA kD kF kM), ↓(issue_mask kD kM), ↓(poisonWord_mask kF), ↓(raise_mask kA kF), ↓(slogAdd_mask kA)]; done) | rfl | grind [bump_mask, bucketAdd_mask, issue_mask, poisonWord_mask, raise_mask, slogAdd_mask]) | rfl | grind [bump_mask, bucketAdd_mask, issue_mask, poisonWord_mask, raise_mask, slogAdd_mask]

theorem memRead_mask {K : Parts} (kA : K.regs) (kC : K.resp) (kD : K.sys) (kF : K.fab) (kM : K.kln) (m : Master) (a : Nat) (size : Nat)
    (synd : Syndrome) (s : State) :
    (memRead m a size synd s).mask K = s.mask K := by
  simp only [memRead, ↓apply_ite (State.mask K), ite_self, ↓foldl_mask, implies_true, ↓apply_ite Prod.snd, ↓apply_ite Prod.fst, ↓(answer_mask kC), ↓(busError_mask kC), ↓(readWord_mask kA kD kF kM)]; (repeat' split) <;> first | (simp only [↓apply_ite (State.mask K), ite_self, ↓foldl_mask, implies_true, ↓apply_ite Prod.snd, ↓apply_ite Prod.fst, ↓(answer_mask kC), ↓(busError_mask kC), ↓(readWord_mask kA kD kF kM)]; done) | (simp only [↓apply_ite (State.mask K), ite_self, ↓foldl_mask, implies_true, ↓apply_ite Prod.snd, ↓apply_ite Prod.fst, ↓(answer_mask kC), ↓(busError_mask kC), ↓(readWord_mask kA kD kF kM)]; (repeat' split) <;> first | (simp only [↓apply_ite (State.mask K), ite_self, ↓foldl_mask, implies_true, ↓apply_ite Prod.snd, ↓apply_ite Prod.fst, ↓(answer_mask kC), ↓(busError_mask kC), ↓(readWord_mask kA kD kF kM)]; done) | rfl | grind [answer_mask, busError_mask, readWord_mask]) | rfl | grind [answer_mask, busError_mask, readWord_mask]

theorem memWrite_mask {K : Parts} (kA : K.regs) (kB : K.mem) (kC : K.resp) (kD : K.sys) (kF : K.fab) (kM : K.kln) (m : Master) (a : Nat)
    (size : Nat) (v : Nat) (synd : Syndrome) (s : State) :
    (memWrite m a size v synd s).mask K = s.mask K := by
  simp only [memWrite, ↓apply_ite (State.mask K), ite_self, ↓foldl_mask, implies_true, ↓apply_ite Prod.snd, ↓apply_ite Prod.fst, ↓(answer_mask kC), ↓(store_mask kB), ↓(busError_mask kC), ↓(cleanWord_mask kF), ↓(readWord_mask kA kD kF kM)]; (repeat' split) <;> first | (simp only [↓apply_ite (State.mask K), ite_self, ↓foldl_mask, implies_true, ↓apply_ite Prod.snd, ↓apply_ite Prod.fst, ↓(answer_mask kC), ↓(store_mask kB), ↓(busError_mask kC), ↓(cleanWord_mask kF), ↓(readWord_mask kA kD kF kM)]; done) | (simp only [↓apply_ite (State.mask K), ite_self, ↓foldl_mask, implies_true, ↓apply_ite Prod.snd, ↓apply_ite Prod.fst, ↓(answer_mask kC), ↓(store_mask kB), ↓(busError_mask kC), ↓(cleanWord_mask kF), ↓(readWord_mask kA kD kF kM)]; (repeat' split) <;> first | (simp only [↓apply_ite (State.mask K), ite_self, ↓foldl_mask, implies_true, ↓apply_ite Prod.snd, ↓apply_ite Prod.fst, ↓(answer_mask kC), ↓(store_mask kB), ↓(busError_mask kC), ↓(cleanWord_mask kF), ↓(readWord_mask kA kD kF kM)]; done) | rfl | grind [answer_mask, store_mask, busError_mask, cleanWord_mask, readWord_mask]) | rfl | grind [answer_mask, store_mask, busError_mask, cleanWord_mask, readWord_mask]

theorem scrubFinding_mask {K : Parts} (kA : K.regs) (kD : K.sys) (kF : K.fab) (kM : K.kln) (k : Nat) (s : State) :
    (scrubFinding k s).mask K = s.mask K := by
  simp only [scrubFinding, ↓apply_ite (State.mask K), ite_self, ↓foldl_mask, implies_true, mask_kln kM, ↓(issue_mask kD kM), ↓(poisonWord_mask kF), ↓(raise_mask kA kF), ↓(slogAdd_mask kA)]

theorem scrubStep_mask {K : Parts} (kA : K.regs) (kD : K.sys) (kF : K.fab) (kM : K.kln) (u : ScrubMem) (synd : Syndrome) (s : State) :
    (scrubStep u synd s).1.mask K = s.mask K := by
  simp only [scrubStep, ↓apply_ite (State.mask K), ite_self, ↓foldl_mask, implies_true, mask_fab kF, ↓apply_ite Prod.snd, ↓apply_ite Prod.fst, ↓(bump_mask kA), ↓(set_mask kA), ↓(bucketAdd_mask kA kD kF kM), ↓(scrubFinding_mask kA kD kF kM)]; (repeat' split) <;> first | (simp only [↓apply_ite (State.mask K), ite_self, ↓foldl_mask, implies_true, mask_fab kF, ↓apply_ite Prod.snd, ↓apply_ite Prod.fst, ↓(bump_mask kA), ↓(set_mask kA), ↓(bucketAdd_mask kA kD kF kM), ↓(scrubFinding_mask kA kD kF kM)]; done) | (simp only [↓apply_ite (State.mask K), ite_self, ↓foldl_mask, implies_true, mask_fab kF, ↓apply_ite Prod.snd, ↓apply_ite Prod.fst, ↓(bump_mask kA), ↓(set_mask kA), ↓(bucketAdd_mask kA kD kF kM), ↓(scrubFinding_mask kA kD kF kM)]; (repeat' split) <;> first | (simp only [↓apply_ite (State.mask K), ite_self, ↓foldl_mask, implies_true, mask_fab kF, ↓apply_ite Prod.snd, ↓apply_ite Prod.fst, ↓(bump_mask kA), ↓(set_mask kA), ↓(bucketAdd_mask kA kD kF kM), ↓(scrubFinding_mask kA kD kF kM)]; done) | rfl | grind [bump_mask, set_mask, bucketAdd_mask, scrubFinding_mask, mask_fab]) | rfl | grind [bump_mask, set_mask, bucketAdd_mask, scrubFinding_mask, mask_fab]

theorem execScrubDisable_mask {K : Parts} (kA : K.regs) (kC : K.resp) (m : Master) (s : State) {s' : State} (hr : execScrubDisable m s =
    .next s') :
    s'.mask K = s.mask K := by
  unfold execScrubDisable at hr
  injection hr with hr; subst hr; simp only [↓apply_ite (State.mask K), ite_self, ↓foldl_mask, implies_true, ↓(answer_mask kC), ↓(set_mask kA), ↓(busError_mask kC)]

theorem execBucketLeak_mask {K : Parts} (kA : K.regs) (s : State) {s' : State} (hr : execBucketLeak s = .next s') :
    s'.mask K = s.mask K := by
  rw [← Host.Outcome.next.inj hr]
  exact foldl_mask (fun s b => s.set F.MEMC_BKT.LEVEL (s.get F.MEMC_BKT.LEVEL b - 1) b) (fun _ _ => set_mask kA _ _ _ _ _ _) _ _

theorem setXfer_mask {K : Parts} (kF : K.fab) (s : State) (c : Nat) (x : XferSt) :
    (State.setXfer s c x).mask K = s.mask K := by
  simp only [State.setXfer, ↓apply_ite (State.mask K), ite_self, ↓foldl_mask, implies_true, mask_fab kF]

theorem copyBeats_mask {K : Parts} (kB : K.mem) (kF : K.fab) (src : Nat) (dst : Nat) (y2 : Nat) (y3 : Nat) (y4 : State) :
    (copyBeats src dst y2 y3 y4).2.mask K = y4.mask K := by
  induction y2 generalizing y3 y4 with
  | zero => rfl
  | succ n ih =>
    unfold copyBeats
    split
    · exact (ih _ _).trans ((setBytes_mask kB _ _ _).trans (foldl_mask _ (fun _ _ => cleanWord_mask kF _ _) _ _))
    · rfl

theorem execXferStart_mask {K : Parts} (kA : K.regs) (kC : K.resp) (kF : K.fab) (m : Master) (c : Fin 8) (s : State) {s' : State} (hr :
    execXferStart m c s = .next s') :
    s'.mask K = s.mask K := by
  unfold execXferStart at hr
  injection hr with hr; subst hr; simp only [↓apply_ite (State.mask K), ite_self, ↓foldl_mask, implies_true, ↓(answer_mask kC), ↓(set_mask kA), ↓(setXfer_mask kF), ↓(busError_mask kC)]

theorem xferStop_mask {K : Parts} (kA : K.regs) (kF : K.fab) (c : Nat) (dropped : Nat) (s : State) :
    (xferStop c dropped s).mask K = s.mask K := by
  simp only [xferStop, ↓apply_ite (State.mask K), ite_self, ↓foldl_mask, implies_true, ↓(bump_mask kA), ↓(set_mask kA), ↓(setXfer_mask kF)]

theorem execXferDrain_mask {K : Parts} (kA : K.regs) (kB : K.mem) (kF : K.fab) (c : Fin 8) (started : Nat) (s : State) {s' : State} (hr :
    execXferDrain c started s = .next s') :
    s'.mask K = s.mask K := by
  unfold execXferDrain at hr
  injection hr with hr; subst hr; simp only [↓apply_ite (State.mask K), ite_self, ↓foldl_mask, implies_true, ↓apply_ite Prod.snd, ↓apply_ite Prod.fst, ↓(set_mask kA), ↓(copyBeats_mask kB kF), ↓(raise_mask kA kF), ↓(xferStop_mask kA kF)]

theorem execXferDone_mask {K : Parts} (kA : K.regs) (kB : K.mem) (kF : K.fab) (c : Fin 8) (s : State) {s' : State} (hr : execXferDone c s
    = .next s') :
    s'.mask K = s.mask K := by
  unfold execXferDone at hr
  injection hr with hr; subst hr; simp only [↓apply_ite (State.mask K), ite_self, ↓foldl_mask, implies_true, ↓apply_ite Prod.snd, ↓apply_ite Prod.fst, ↓(set_mask kA), ↓(copyBeats_mask kB kF), ↓(raise_mask kA kF), ↓(xferStop_mask kA kF)]

theorem ashPush_mask {K : Parts} (kA : K.regs) (kF : K.fab) (source : Nat) (code : Nat) (cls : Nat) (body : List Byte) (s : State) :
    (ashPush source code cls body s).mask K = s.mask K := by
  simp only [ashPush, ↓apply_ite (State.mask K), ite_self, ↓foldl_mask, implies_true, mask_fab kF, ↓(bump_mask kA), ↓(set_mask kA)]

theorem execAshRecordWritten_mask {K : Parts} (kA : K.regs) (kB : K.mem) (kF : K.fab) (s : State) {s' : State} (hr : execAshRecordWritten
    s = .next s') :
    s'.mask K = s.mask K := by
  unfold execAshRecordWritten at hr
  injection hr with hr; subst hr; simp only [↓apply_ite (State.mask K), ite_self, ↓foldl_mask, implies_true, mask_fab kF, ↓(set_mask kA), ↓(setBytes_mask kB), ↓(raise_mask kA kF)]; (repeat' split) <;> first | (simp only [↓apply_ite (State.mask K), ite_self, ↓foldl_mask, implies_true, mask_fab kF, ↓(set_mask kA), ↓(setBytes_mask kB), ↓(raise_mask kA kF)]; done) | (simp only [↓apply_ite (State.mask K), ite_self, ↓foldl_mask, implies_true, mask_fab kF, ↓(set_mask kA), ↓(setBytes_mask kB), ↓(raise_mask kA kF)]; (repeat' split) <;> first | (simp only [↓apply_ite (State.mask K), ite_self, ↓foldl_mask, implies_true, mask_fab kF, ↓(set_mask kA), ↓(setBytes_mask kB), ↓(raise_mask kA kF)]; done) | rfl | grind [set_mask, setBytes_mask, raise_mask, mask_fab]) | rfl | grind [set_mask, setBytes_mask, raise_mask, mask_fab]

theorem setCg_mask {K : Parts} (kJ : K.pwm) (s : State) (g : Nat) (x : CgSt) :
    (State.setCg s g x).mask K = s.mask K := by
  simp only [State.setCg, ↓apply_ite (State.mask K), ite_self, ↓foldl_mask, implies_true, mask_pwm kJ]

theorem setLeg_mask {K : Parts} (kJ : K.pwm) (s : State) (l : Nat) (x : LegSt) :
    (State.setLeg s l x).mask K = s.mask K := by
  simp only [State.setLeg, ↓apply_ite (State.mask K), ite_self, ↓foldl_mask, implies_true, mask_pwm kJ]

theorem setSw_mask {K : Parts} (kJ : K.pwm) (s : State) (k : Nat) (x : SwSt) :
    (State.setSw s k x).mask K = s.mask K := by
  simp only [State.setSw, ↓apply_ite (State.mask K), ite_self, ↓foldl_mask, implies_true, mask_pwm kJ]

theorem setPset_mask {K : Parts} (kJ : K.pwm) (s : State) (p : Nat) (x : PsetSt) :
    (State.setPset s p x).mask K = s.mask K := by
  simp only [State.setPset, ↓apply_ite (State.mask K), ite_self, ↓foldl_mask, implies_true, mask_pwm kJ]

theorem setCompar_mask {K : Parts} (kJ : K.pwm) (s : State) (c : Nat) (x : CompSt) :
    (State.setCompar s c x).mask K = s.mask K := by
  simp only [State.setCompar, ↓apply_ite (State.mask K), ite_self, ↓foldl_mask, implies_true, mask_pwm kJ]

theorem showBridge_mask {K : Parts} (kA : K.regs) (b : Nat) (s : State) :
    (showBridge b s).mask K = s.mask K := by
  simp only [showBridge, ↓apply_ite (State.mask K), ite_self, ↓foldl_mask, implies_true, ↓(set_mask kA), ↓(setB_mask kA), ↓(setBit_mask kA)]

theorem legCommand_mask {K : Parts} (kA : K.regs) (kP : K.act) (l : Nat) (s : State) :
    (legCommand l s).mask K = s.mask K := by
  simp only [legCommand, ↓apply_ite (State.mask K), ite_self, ↓foldl_mask, implies_true, mask_act kP, ↓(showBridge_mask kA)]; (repeat' split) <;> first | (simp only [↓apply_ite (State.mask K), ite_self, ↓foldl_mask, implies_true, mask_act kP, ↓(showBridge_mask kA)]; done) | (simp only [↓apply_ite (State.mask K), ite_self, ↓foldl_mask, implies_true, mask_act kP, ↓(showBridge_mask kA)]; (repeat' split) <;> first | (simp only [↓apply_ite (State.mask K), ite_self, ↓foldl_mask, implies_true, mask_act kP, ↓(showBridge_mask kA)]; done) | rfl | grind [showBridge_mask, mask_act]) | rfl | grind [showBridge_mask, mask_act]

theorem edgeIssued_mask {K : Parts} (kJ : K.pwm) (l : Nat) (s : State) :
    (edgeIssued l s).mask K = s.mask K := by
  simp only [edgeIssued, ↓apply_ite (State.mask K), ite_self, ↓foldl_mask, implies_true, ↓(setCompar_mask kJ)]

theorem switchOff_mask {K : Parts} (kA : K.regs) (kJ : K.pwm) (kP : K.act) (k : Nat) (s : State) :
    (switchOff k s).mask K = s.mask K := by
  simp only [switchOff, ↓apply_ite (State.mask K), ite_self, ↓foldl_mask, implies_true, ↓(setSw_mask kJ), ↓(edgeIssued_mask kJ), ↓(legCommand_mask kA kP)]

theorem tryOn_mask {K : Parts} (kA : K.regs) (kJ : K.pwm) (kP : K.act) (k : Nat) (s : State) :
    (tryOn k s).mask K = s.mask K := by
  simp only [tryOn, ↓apply_ite (State.mask K), ite_self, ↓foldl_mask, implies_true, ↓(setSw_mask kJ), ↓(edgeIssued_mask kJ), ↓(legCommand_mask kA kP)]

theorem enforceLeg_mask {K : Parts} (kA : K.regs) (kJ : K.pwm) (kP : K.act) (l : Nat) (s : State) :
    (enforceLeg l s).mask K = s.mask K := by
  simp only [enforceLeg, ↓apply_ite (State.mask K), ite_self, ↓foldl_mask, implies_true, ↓(setSw_mask kJ), ↓(showBridge_mask kA), ↓(switchOff_mask kA kJ kP), ↓(tryOn_mask kA kJ kP)]; (repeat' split) <;> first | (simp only [↓apply_ite (State.mask K), ite_self, ↓foldl_mask, implies_true, ↓(setSw_mask kJ), ↓(showBridge_mask kA), ↓(switchOff_mask kA kJ kP), ↓(tryOn_mask kA kJ kP)]; done) | (simp only [↓apply_ite (State.mask K), ite_self, ↓foldl_mask, implies_true, ↓(setSw_mask kJ), ↓(showBridge_mask kA), ↓(switchOff_mask kA kJ kP), ↓(tryOn_mask kA kJ kP)]; (repeat' split) <;> first | (simp only [↓apply_ite (State.mask K), ite_self, ↓foldl_mask, implies_true, ↓(setSw_mask kJ), ↓(showBridge_mask kA), ↓(switchOff_mask kA kJ kP), ↓(tryOn_mask kA kJ kP)]; done) | rfl | grind [setSw_mask, showBridge_mask, switchOff_mask, tryOn_mask]) | rfl | grind [setSw_mask, showBridge_mask, switchOff_mask, tryOn_mask]

theorem enforceLegs_mask {K : Parts} (kA : K.regs) (kJ : K.pwm) (kP : K.act) (ls : List Nat) (s : State) :
    (enforceLegs ls s).mask K = s.mask K := by
  simp only [enforceLegs, ↓apply_ite (State.mask K), ite_self, ↓foldl_mask, implies_true, ↓(enforceLeg_mask kA kJ kP)]

theorem enforceAll_mask {K : Parts} (kA : K.regs) (kJ : K.pwm) (kP : K.act) (s : State) :
    (enforceAll s).mask K = s.mask K := by
  simp only [enforceAll, ↓apply_ite (State.mask K), ite_self, ↓foldl_mask, implies_true, ↓(enforceLegs_mask kA kJ kP)]

theorem disarm_mask {K : Parts} (kA : K.regs) (kJ : K.pwm) (ls : List Nat) (s : State) :
    (disarm ls s).mask K = s.mask K := by
  simp only [disarm, ↓apply_ite (State.mask K), ite_self, ↓foldl_mask, implies_true, ↓(set_mask kA), ↓(setLeg_mask kJ)]

theorem showOffReq_mask {K : Parts} (kA : K.regs) (l : Nat) (s : State) :
    (showOffReq l s).mask K = s.mask K := by
  simp only [showOffReq, ↓apply_ite (State.mask K), ite_self, ↓foldl_mask, implies_true, ↓(setB_mask kA)]

theorem setWhorl_mask {K : Parts} (kI : K.whl) (s : State) (w : Nat) (x : WhorlSt) :
    (State.setWhorl s w x).mask K = s.mask K := by
  simp only [State.setWhorl, ↓apply_ite (State.mask K), ite_self, ↓foldl_mask, implies_true, mask_whl kI]

theorem setLoopSt_mask {K : Parts} (kI : K.whl) (s : State) (w : Nat) (l : Nat) (x : LoopSt) :
    (State.setLoopSt s w l x).mask K = s.mask K := by
  simp only [State.setLoopSt, ↓apply_ite (State.mask K), ite_self, ↓foldl_mask, implies_true, ↓(setWhorl_mask kI)]

theorem setExe_mask {K : Parts} (kI : K.whl) (s : State) (w : Nat) (e : ExecSt) :
    (State.setExe s w e).mask K = s.mask K := by
  simp only [State.setExe, ↓apply_ite (State.mask K), ite_self, ↓foldl_mask, implies_true, ↓(setWhorl_mask kI)]

theorem lockstep_mask {K : Parts} (w : Nat) (f : Nat → Nat → State → State) (s : State) (hf : ∀ v0 v1 t, (f v0 v1 t).mask K = t.mask K) :
    (lockstep w f s).mask K = s.mask K := by
  simp only [lockstep, ↓apply_ite (State.mask K), ite_self, ↓foldl_mask, implies_true, hf]; (repeat' split) <;> first | (simp only [↓apply_ite (State.mask K), ite_self, ↓foldl_mask, implies_true, hf]; done) | (simp only [↓apply_ite (State.mask K), ite_self, ↓foldl_mask, implies_true, hf]; (repeat' split) <;> first | (simp only [↓apply_ite (State.mask K), ite_self, ↓foldl_mask, implies_true, hf]; done) | rfl | grind) | rfl | grind

theorem orFlags_mask {K : Parts} (kA : K.regs) (kF : K.fab) (o : Nat) (v : Nat) (l : Nat) (f : Flags) (s : State) :
    (orFlags o v l f s).mask K = s.mask K := by
  simp only [orFlags, ↓apply_ite (State.mask K), ite_self, ↓foldl_mask, implies_true, ↓(set_mask kA), ↓(raise_mask kA kF)]

theorem endExec_mask {K : Parts} (kA : K.regs) (kF : K.fab) (kI : K.whl) (o : Nat) (v : Nat) (ph : ExecPhase) (s : State) :
    (endExec o v ph s).mask K = s.mask K := by
  simp only [endExec, ↓apply_ite (State.mask K), ite_self, ↓foldl_mask, implies_true, ↓(setExe_mask kI), ↓(orFlags_mask kA kF)]

theorem endIfPast_mask {K : Parts} (kA : K.regs) (kF : K.fab) (kI : K.whl) (o : Nat) (v : Nat) (s : State) :
    (endIfPast o v s).mask K = s.mask K := by
  simp only [endIfPast, ↓apply_ite (State.mask K), ite_self, ↓foldl_mask, implies_true, ↓(setExe_mask kI), ↓(endExec_mask kA kF kI)]

theorem onSlot_mask {K : Parts} (kA : K.regs) (kF : K.fab) (kI : K.whl) (slot : Fin 2) (us : List Nat) (act : State → State) (o : Nat) (v
    : Nat) (s : State) (hact : ∀ t, (act t).mask K = t.mask K) :
    (onSlot slot us act o v s).mask K = s.mask K := by
  simp only [onSlot, ↓apply_ite (State.mask K), ite_self, ↓foldl_mask, implies_true, ↓(setExe_mask kI), ↓(endIfPast_mask kA kF kI), hact]; (repeat' split) <;> first | (simp only [↓apply_ite (State.mask K), ite_self, ↓foldl_mask, implies_true, ↓(setExe_mask kI), ↓(endIfPast_mask kA kF kI), hact]; done) | (simp only [↓apply_ite (State.mask K), ite_self, ↓foldl_mask, implies_true, ↓(setExe_mask kI), ↓(endIfPast_mask kA kF kI), hact]; (repeat' split) <;> first | (simp only [↓apply_ite (State.mask K), ite_self, ↓foldl_mask, implies_true, ↓(setExe_mask kI), ↓(endIfPast_mask kA kF kI), hact]; done) | rfl | grind [setExe_mask, endIfPast_mask]) | rfl | grind [setExe_mask, endIfPast_mask]

theorem slotRow_mask {K : Parts} (kA : K.regs) (kF : K.fab) (kI : K.whl) (w : Fin 8) (slot : Fin 2) (us : List Nat) (hz : List (Fin 36))
    (act : Nat → Nat → State → State) (s : State) {s' : State} (hact : ∀ v0 v1 t,
      (act v0 v1 t).mask K = t.mask K) (hr : slotRow w slot us hz act s = .next s') :
    s'.mask K = s.mask K := by
  unfold slotRow at hr
  injection hr with hr; subst hr; simp only [↓apply_ite (State.mask K), ite_self, ↓foldl_mask, implies_true, ↓(lockstep_mask), ↓(onSlot_mask kA kF kI), hact]

theorem onExe_mask {K : Parts} (kI : K.whl) (slot : Fin 2) (f : ExecSt → ExecSt) (v : Nat) (s : State) :
    (onExe slot f v s).mask K = s.mask K := by
  simp only [onExe, ↓apply_ite (State.mask K), ite_self, ↓foldl_mask, implies_true, ↓(setExe_mask kI)]

theorem regRow_mask {K : Parts} (kA : K.regs) (kF : K.fab) (kI : K.whl) (w : Fin 8) (slot : Fin 2) (us : List Nat) (hz : List (Fin 36))
    (d : Fin 32) (lat : Nat) (f : ExecSt → Word × Flags) (s : State) {s' : State} (hr : regRow w slot us hz d lat f s = .next s') :
    s'.mask K = s.mask K := by
  unfold regRow at hr
  exact slotRow_mask kA kF kI _ _ _ _ _ _ (by intros; first | (simp only [↓apply_ite (State.mask K), ite_self, ↓foldl_mask, implies_true, ↓(onExe_mask kI)]; done) | ((repeat' split) <;> first | (simp only [↓apply_ite (State.mask K), ite_self, ↓foldl_mask, implies_true, ↓(onExe_mask kI)]; done) | (simp only [↓apply_ite (State.mask K), ite_self, ↓foldl_mask, implies_true, ↓(onExe_mask kI)]; (repeat' split) <;> first | (simp only [↓apply_ite (State.mask K), ite_self, ↓foldl_mask, implies_true, ↓(onExe_mask kI)]; done) | rfl | grind [onExe_mask]) | rfl | grind [onExe_mask])) hr

theorem illegalAct_mask {K : Parts} (kI : K.whl) (slot : Fin 2) (y1 : Nat) (v : Nat) (s : State) :
    (illegalAct slot y1 v s).mask K = s.mask K := by
  simp only [illegalAct, ↓apply_ite (State.mask K), ite_self, ↓foldl_mask, implies_true, ↓(onExe_mask kI)]

theorem slot0Row_mask {K : Parts} (kA : K.regs) (kF : K.fab) (kI : K.whl) (w : Fin 8) (slot : Fin 2) (us : List Nat) (hz : List (Fin 36))
    (legal : Bool) (act : Nat → Nat → State → State) (s : State) {s' : State} (hact : ∀ v0 v1 t,
      (act v0 v1 t).mask K = t.mask K) (hr : slot0Row w slot us hz legal act s = .next s') :
    s'.mask K = s.mask K := by
  unfold slot0Row at hr
  ((repeat' split at hr) <;> first | (injection hr with hr; subst hr; simp only [↓apply_ite (State.mask K), ite_self, ↓foldl_mask, implies_true, ↓(illegalAct_mask kI), hact]; done) | exact slotRow_mask kA kF kI _ _ _ _ _ _ (by intros; first | (simp only [↓apply_ite (State.mask K), ite_self, ↓foldl_mask, implies_true, ↓(illegalAct_mask kI), hact]; done) | ((repeat' split) <;> first | (simp only [↓apply_ite (State.mask K), ite_self, ↓foldl_mask, implies_true, ↓(illegalAct_mask kI), hact]; done) | (simp only [↓apply_ite (State.mask K), ite_self, ↓foldl_mask, implies_true, ↓(illegalAct_mask kI), hact]; (repeat' split) <;> first | (simp only [↓apply_ite (State.mask K), ite_self, ↓foldl_mask, implies_true, ↓(illegalAct_mask kI), hact]; done) | rfl | grind [illegalAct_mask]) | rfl | grind [illegalAct_mask])) hr)

theorem execUnitResultRetire_mask {K : Parts} (kI : K.whl) (w : Fin 8) (s : State) {s' : State} (hr : execUnitResultRetire w s = .next s') :
    s'.mask K = s.mask K := by
  unfold execUnitResultRetire at hr
  injection hr with hr; subst hr; simp only [↓apply_ite (State.mask K), ite_self, ↓foldl_mask, implies_true, ↓(setExe_mask kI), ↓(lockstep_mask)]; (repeat' split) <;> first | (simp only [↓apply_ite (State.mask K), ite_self, ↓foldl_mask, implies_true, ↓(setExe_mask kI), ↓(lockstep_mask)]; done) | (simp only [↓apply_ite (State.mask K), ite_self, ↓foldl_mask, implies_true, ↓(setExe_mask kI), ↓(lockstep_mask)]; (repeat' split) <;> first | (simp only [↓apply_ite (State.mask K), ite_self, ↓foldl_mask, implies_true, ↓(setExe_mask kI), ↓(lockstep_mask)]; done) | rfl | grind [setExe_mask, lockstep_mask]) | rfl | grind [setExe_mask, lockstep_mask]

theorem execWhlIllegalOperation_mask {K : Parts} (kA : K.regs) (kF : K.fab) (kI : K.whl) (w : Fin 8) (slot : Fin 2) (hz : List (Fin 36))
    (s : State) {s' : State} (hr : execWhlIllegalOperation w slot hz s = .next s') :
    s'.mask K = s.mask K := by
  unfold execWhlIllegalOperation at hr
  exact slotRow_mask kA kF kI _ _ _ _ _ _ (by intros; first | (simp only [↓apply_ite (State.mask K), ite_self, ↓foldl_mask, implies_true, ↓(illegalAct_mask kI)]; done) | ((repeat' split) <;> first | (simp only [↓apply_ite (State.mask K), ite_self, ↓foldl_mask, implies_true, ↓(illegalAct_mask kI)]; done) | (simp only [↓apply_ite (State.mask K), ite_self, ↓foldl_mask, implies_true, ↓(illegalAct_mask kI)]; (repeat' split) <;> first | (simp only [↓apply_ite (State.mask K), ite_self, ↓foldl_mask, implies_true, ↓(illegalAct_mask kI)]; done) | rfl | grind [illegalAct_mask]) | rfl | grind [illegalAct_mask])) hr

theorem aluRow_mask {K : Parts} (kA : K.regs) (kF : K.fab) (kI : K.whl) (w : Fin 8) (slot : Fin 2) (d : Fin 32) (a : Fin 32) (b : Fin 32)
    (hz : List (Fin 36)) (f : Word → Word → Word × Flags) (s : State) {s' : State} (hr : aluRow w slot d a b hz f s = .next s') :
    s'.mask K = s.mask K := by
  unfold aluRow at hr
  exact regRow_mask kA kF kI _ _ _ _ _ _ _ _ hr

theorem alu1Row_mask {K : Parts} (kA : K.regs) (kF : K.fab) (kI : K.whl) (w : Fin 8) (slot : Fin 2) (d : Fin 32) (a : Fin 32) (hz : List
    (Fin 36)) (f : Word → Word × Flags) (s : State) {s' : State} (hr : alu1Row w slot d a hz f s = .next s') :
    s'.mask K = s.mask K := by
  unfold alu1Row at hr
  exact regRow_mask kA kF kI _ _ _ _ _ _ _ _ hr

theorem execWhlNop_mask {K : Parts} (kA : K.regs) (kD : K.sys) (kF : K.fab) (kI : K.whl) (kM : K.kln) (w : Fin 8) (slot : Fin 2) (hz :
    List (Fin 36)) (ue : Bool) (s : State) {s' : State} (hr : execWhlNop w slot hz ue s = .next s') :
    s'.mask K = s.mask K := by
  unfold execWhlNop at hr
  exact slotRow_mask kA kF kI _ _ _ _ _ _ (by intros; first | (simp only [↓apply_ite (State.mask K), ite_self, ↓foldl_mask, implies_true, ↓apply_ite Prod.snd, ↓apply_ite Prod.fst, ↓(onExe_mask kI), ↓(readWord_mask kA kD kF kM)]; done) | ((repeat' split) <;> first | (simp only [↓apply_ite (State.mask K), ite_self, ↓foldl_mask, implies_true, ↓apply_ite Prod.snd, ↓apply_ite Prod.fst, ↓(onExe_mask kI), ↓(readWord_mask kA kD kF kM)]; done) | (simp only [↓apply_ite (State.mask K), ite_self, ↓foldl_mask, implies_true, ↓apply_ite Prod.snd, ↓apply_ite Prod.fst, ↓(onExe_mask kI), ↓(readWord_mask kA kD kF kM)]; (repeat' split) <;> first | (simp only [↓apply_ite (State.mask K), ite_self, ↓foldl_mask, implies_true, ↓apply_ite Prod.snd, ↓apply_ite Prod.fst, ↓(onExe_mask kI), ↓(readWord_mask kA kD kF kM)]; done) | rfl | grind [onExe_mask, readWord_mask]) | rfl | grind [onExe_mask, readWord_mask])) hr

theorem execWhlAdd_mask {K : Parts} (kA : K.regs) (kF : K.fab) (kI : K.whl) (w : Fin 8) (slot : Fin 2) (d : Fin 32) (a : Fin 32) (b : Fin
    32) (hz : List (Fin 36)) (s : State) {s' : State} (hr : execWhlAdd w slot d a b hz s = .next s') :
    s'.mask K = s.mask K := by
  unfold execWhlAdd at hr
  exact aluRow_mask kA kF kI _ _ _ _ _ _ _ _ hr

theorem execWhlSub_mask {K : Parts} (kA : K.regs) (kF : K.fab) (kI : K.whl) (w : Fin 8) (slot : Fin 2) (d : Fin 32) (a : Fin 32) (b : Fin
    32) (hz : List (Fin 36)) (s : State) {s' : State} (hr : execWhlSub w slot d a b hz s = .next s') :
    s'.mask K = s.mask K := by
  unfold execWhlSub at hr
  exact aluRow_mask kA kF kI _ _ _ _ _ _ _ _ hr

theorem execWhlAddw_mask {K : Parts} (kA : K.regs) (kF : K.fab) (kI : K.whl) (w : Fin 8) (slot : Fin 2) (d : Fin 32) (a : Fin 32) (b :
    Fin 32) (hz : List (Fin 36)) (s : State) {s' : State} (hr : execWhlAddw w slot d a b hz s = .next s') :
    s'.mask K = s.mask K := by
  unfold execWhlAddw at hr
  exact aluRow_mask kA kF kI _ _ _ _ _ _ _ _ hr

theorem execWhlSubw_mask {K : Parts} (kA : K.regs) (kF : K.fab) (kI : K.whl) (w : Fin 8) (slot : Fin 2) (d : Fin 32) (a : Fin 32) (b :
    Fin 32) (hz : List (Fin 36)) (s : State) {s' : State} (hr : execWhlSubw w slot d a b hz s = .next s') :
    s'.mask K = s.mask K := by
  unfold execWhlSubw at hr
  exact aluRow_mask kA kF kI _ _ _ _ _ _ _ _ hr

theorem execWhlNeg_mask {K : Parts} (kA : K.regs) (kF : K.fab) (kI : K.whl) (w : Fin 8) (slot : Fin 2) (d : Fin 32) (a : Fin 32) (hz :
    List (Fin 36)) (s : State) {s' : State} (hr : execWhlNeg w slot d a hz s = .next s') :
    s'.mask K = s.mask K := by
  unfold execWhlNeg at hr
  exact alu1Row_mask kA kF kI _ _ _ _ _ _ _ hr

theorem execWhlAbs_mask {K : Parts} (kA : K.regs) (kF : K.fab) (kI : K.whl) (w : Fin 8) (slot : Fin 2) (d : Fin 32) (a : Fin 32) (hz :
    List (Fin 36)) (s : State) {s' : State} (hr : execWhlAbs w slot d a hz s = .next s') :
    s'.mask K = s.mask K := by
  unfold execWhlAbs at hr
  exact alu1Row_mask kA kF kI _ _ _ _ _ _ _ hr

theorem execWhlMin_mask {K : Parts} (kA : K.regs) (kF : K.fab) (kI : K.whl) (w : Fin 8) (slot : Fin 2) (d : Fin 32) (a : Fin 32) (b : Fin
    32) (hz : List (Fin 36)) (s : State) {s' : State} (hr : execWhlMin w slot d a b hz s = .next s') :
    s'.mask K = s.mask K := by
  unfold execWhlMin at hr
  exact aluRow_mask kA kF kI _ _ _ _ _ _ _ _ hr

theorem execWhlMax_mask {K : Parts} (kA : K.regs) (kF : K.fab) (kI : K.whl) (w : Fin 8) (slot : Fin 2) (d : Fin 32) (a : Fin 32) (b : Fin
    32) (hz : List (Fin 36)) (s : State) {s' : State} (hr : execWhlMax w slot d a b hz s = .next s') :
    s'.mask K = s.mask K := by
  unfold execWhlMax at hr
  exact aluRow_mask kA kF kI _ _ _ _ _ _ _ _ hr

theorem execWhlClmp_mask {K : Parts} (kA : K.regs) (kF : K.fab) (kI : K.whl) (w : Fin 8) (slot : Fin 2) (d : Fin 32) (a : Fin 32) (b :
    Fin 32) (hz : List (Fin 36)) (s : State) {s' : State} (hr : execWhlClmp w slot d a b hz s = .next s') :
    s'.mask K = s.mask K := by
  unfold execWhlClmp at hr
  exact aluRow_mask kA kF kI _ _ _ _ _ _ _ _ hr

theorem execWhlAnd_mask {K : Parts} (kA : K.regs) (kF : K.fab) (kI : K.whl) (w : Fin 8) (slot : Fin 2) (d : Fin 32) (a : Fin 32) (b : Fin
    32) (hz : List (Fin 36)) (s : State) {s' : State} (hr : execWhlAnd w slot d a b hz s = .next s') :
    s'.mask K = s.mask K := by
  unfold execWhlAnd at hr
  exact aluRow_mask kA kF kI _ _ _ _ _ _ _ _ hr

theorem execWhlOr_mask {K : Parts} (kA : K.regs) (kF : K.fab) (kI : K.whl) (w : Fin 8) (slot : Fin 2) (d : Fin 32) (a : Fin 32) (b : Fin
    32) (hz : List (Fin 36)) (s : State) {s' : State} (hr : execWhlOr w slot d a b hz s = .next s') :
    s'.mask K = s.mask K := by
  unfold execWhlOr at hr
  exact aluRow_mask kA kF kI _ _ _ _ _ _ _ _ hr

theorem execWhlXor_mask {K : Parts} (kA : K.regs) (kF : K.fab) (kI : K.whl) (w : Fin 8) (slot : Fin 2) (d : Fin 32) (a : Fin 32) (b : Fin
    32) (hz : List (Fin 36)) (s : State) {s' : State} (hr : execWhlXor w slot d a b hz s = .next s') :
    s'.mask K = s.mask K := by
  unfold execWhlXor at hr
  exact aluRow_mask kA kF kI _ _ _ _ _ _ _ _ hr

theorem execWhlShl_mask {K : Parts} (kA : K.regs) (kF : K.fab) (kI : K.whl) (w : Fin 8) (slot : Fin 2) (d : Fin 32) (a : Fin 32) (imm :
    BitVec 16) (hz : List (Fin 36)) (s : State) {s' : State} (hr : execWhlShl w slot d a imm hz s = .next s') :
    s'.mask K = s.mask K := by
  unfold execWhlShl at hr
  exact alu1Row_mask kA kF kI _ _ _ _ _ _ _ hr

theorem execWhlSar_mask {K : Parts} (kA : K.regs) (kF : K.fab) (kI : K.whl) (w : Fin 8) (slot : Fin 2) (d : Fin 32) (a : Fin 32) (imm :
    BitVec 16) (hz : List (Fin 36)) (s : State) {s' : State} (hr : execWhlSar w slot d a imm hz s = .next s') :
    s'.mask K = s.mask K := by
  unfold execWhlSar at hr
  exact alu1Row_mask kA kF kI _ _ _ _ _ _ _ hr

theorem execWhlShr_mask {K : Parts} (kA : K.regs) (kF : K.fab) (kI : K.whl) (w : Fin 8) (slot : Fin 2) (d : Fin 32) (a : Fin 32) (imm :
    BitVec 16) (hz : List (Fin 36)) (s : State) {s' : State} (hr : execWhlShr w slot d a imm hz s = .next s') :
    s'.mask K = s.mask K := by
  unfold execWhlShr at hr
  exact alu1Row_mask kA kF kI _ _ _ _ _ _ _ hr

theorem execWhlLih_mask {K : Parts} (kA : K.regs) (kF : K.fab) (kI : K.whl) (w : Fin 8) (slot : Fin 2) (d : Fin 32) (imm : BitVec 16) (hz
    : List (Fin 36)) (s : State) {s' : State} (hr : execWhlLih w slot d imm hz s = .next s') :
    s'.mask K = s.mask K := by
  unfold execWhlLih at hr
  exact regRow_mask kA kF kI _ _ _ _ _ _ _ _ hr

theorem execWhlLil_mask {K : Parts} (kA : K.regs) (kF : K.fab) (kI : K.whl) (w : Fin 8) (slot : Fin 2) (d : Fin 32) (imm : BitVec 16) (hz
    : List (Fin 36)) (s : State) {s' : State} (hr : execWhlLil w slot d imm hz s = .next s') :
    s'.mask K = s.mask K := by
  unfold execWhlLil at hr
  exact regRow_mask kA kF kI _ _ _ _ _ _ _ _ hr

theorem execWhlAddi_mask {K : Parts} (kA : K.regs) (kF : K.fab) (kI : K.whl) (w : Fin 8) (slot : Fin 2) (d : Fin 32) (a : Fin 32) (imm :
    BitVec 16) (hz : List (Fin 36)) (s : State) {s' : State} (hr : execWhlAddi w slot d a imm hz s = .next s') :
    s'.mask K = s.mask K := by
  unfold execWhlAddi at hr
  exact alu1Row_mask kA kF kI _ _ _ _ _ _ _ hr

theorem execWhlSlt_mask {K : Parts} (kA : K.regs) (kF : K.fab) (kI : K.whl) (w : Fin 8) (slot : Fin 2) (d : Fin 32) (a : Fin 32) (b : Fin
    32) (hz : List (Fin 36)) (s : State) {s' : State} (hr : execWhlSlt w slot d a b hz s = .next s') :
    s'.mask K = s.mask K := by
  unfold execWhlSlt at hr
  exact aluRow_mask kA kF kI _ _ _ _ _ _ _ _ hr

theorem execWhlCmov_mask {K : Parts} (kA : K.regs) (kF : K.fab) (kI : K.whl) (w : Fin 8) (slot : Fin 2) (d : Fin 32) (a : Fin 32) (b :
    Fin 32) (hz : List (Fin 36)) (s : State) {s' : State} (hr : execWhlCmov w slot d a b hz s = .next s') :
    s'.mask K = s.mask K := by
  unfold execWhlCmov at hr
  exact regRow_mask kA kF kI _ _ _ _ _ _ _ _ hr

theorem execWhlFlg_mask {K : Parts} (kA : K.regs) (kF : K.fab) (kI : K.whl) (w : Fin 8) (slot : Fin 2) (d : Fin 32) (hz : List (Fin 36))
    (s : State) {s' : State} (hr : execWhlFlg w slot d hz s = .next s') :
    s'.mask K = s.mask K := by
  unfold execWhlFlg at hr
  exact slotRow_mask kA kF kI _ _ _ _ _ _ (by intros; first | (simp only [↓apply_ite (State.mask K), ite_self, ↓foldl_mask, implies_true, ↓(onExe_mask kI)]; done) | ((repeat' split) <;> first | (simp only [↓apply_ite (State.mask K), ite_self, ↓foldl_mask, implies_true, ↓(onExe_mask kI)]; done) | (simp only [↓apply_ite (State.mask K), ite_self, ↓foldl_mask, implies_true, ↓(onExe_mask kI)]; (repeat' split) <;> first | (simp only [↓apply_ite (State.mask K), ite_self, ↓foldl_mask, implies_true, ↓(onExe_mask kI)]; done) | rfl | grind [onExe_mask]) | rfl | grind [onExe_mask])) hr

theorem execWhlMul_mask {K : Parts} (kA : K.regs) (kF : K.fab) (kI : K.whl) (w : Fin 8) (slot : Fin 2) (d : Fin 32) (a : Fin 32) (b : Fin
    32) (hz : List (Fin 36)) (s : State) {s' : State} (hr : execWhlMul w slot d a b hz s = .next s') :
    s'.mask K = s.mask K := by
  unfold execWhlMul at hr
  exact regRow_mask kA kF kI _ _ _ _ _ _ _ _ hr

theorem accRow_mask {K : Parts} (kA : K.regs) (kF : K.fab) (kI : K.whl) (w : Fin 8) (slot : Fin 2) (acc : Fin 4) (us : List Nat) (hz :
    List (Fin 36)) (f : ExecSt → FlightOp) (s : State) {s' : State} (hr : accRow w slot acc us hz f s = .next s') :
    s'.mask K = s.mask K := by
  unfold accRow at hr
  exact slotRow_mask kA kF kI _ _ _ _ _ _ (by intros; first | (simp only [↓apply_ite (State.mask K), ite_self, ↓foldl_mask, implies_true, ↓(onExe_mask kI)]; done) | ((repeat' split) <;> first | (simp only [↓apply_ite (State.mask K), ite_self, ↓foldl_mask, implies_true, ↓(onExe_mask kI)]; done) | (simp only [↓apply_ite (State.mask K), ite_self, ↓foldl_mask, implies_true, ↓(onExe_mask kI)]; (repeat' split) <;> first | (simp only [↓apply_ite (State.mask K), ite_self, ↓foldl_mask, implies_true, ↓(onExe_mask kI)]; done) | rfl | grind [onExe_mask]) | rfl | grind [onExe_mask])) hr

theorem execWhlMac_mask {K : Parts} (kA : K.regs) (kF : K.fab) (kI : K.whl) (w : Fin 8) (slot : Fin 2) (acc : Fin 4) (a : Fin 32) (b :
    Fin 32) (hz : List (Fin 36)) (s : State) {s' : State} (hr : execWhlMac w slot acc a b hz s = .next s') :
    s'.mask K = s.mask K := by
  unfold execWhlMac at hr
  exact accRow_mask kA kF kI _ _ _ _ _ _ _ hr

theorem execWhlMsu_mask {K : Parts} (kA : K.regs) (kF : K.fab) (kI : K.whl) (w : Fin 8) (slot : Fin 2) (acc : Fin 4) (a : Fin 32) (b :
    Fin 32) (hz : List (Fin 36)) (s : State) {s' : State} (hr : execWhlMsu w slot acc a b hz s = .next s') :
    s'.mask K = s.mask K := by
  unfold execWhlMsu at hr
  exact accRow_mask kA kF kI _ _ _ _ _ _ _ hr

theorem execWhlAld_mask {K : Parts} (kA : K.regs) (kF : K.fab) (kI : K.whl) (w : Fin 8) (slot : Fin 2) (acc : Fin 4) (a : Fin 32) (hz :
    List (Fin 36)) (s : State) {s' : State} (hr : execWhlAld w slot acc a hz s = .next s') :
    s'.mask K = s.mask K := by
  unfold execWhlAld at hr
  exact accRow_mask kA kF kI _ _ _ _ _ _ _ hr

theorem execWhlArd_mask {K : Parts} (kA : K.regs) (kF : K.fab) (kI : K.whl) (w : Fin 8) (slot : Fin 2) (d : Fin 32) (acc : Fin 4) (hz :
    List (Fin 36)) (s : State) {s' : State} (hr : execWhlArd w slot d acc hz s = .next s') :
    s'.mask K = s.mask K := by
  unfold execWhlArd at hr
  exact regRow_mask kA kF kI _ _ _ _ _ _ _ _ hr

theorem execWhlAclp_mask {K : Parts} (kA : K.regs) (kF : K.fab) (kI : K.whl) (w : Fin 8) (slot : Fin 2) (acc : Fin 4) (a : Fin 32) (hz :
    List (Fin 36)) (s : State) {s' : State} (hr : execWhlAclp w slot acc a hz s = .next s') :
    s'.mask K = s.mask K := by
  unfold execWhlAclp at hr
  exact accRow_mask kA kF kI _ _ _ _ _ _ _ hr

theorem pairRow_mask {K : Parts} (kA : K.regs) (kF : K.fab) (kI : K.whl) (w : Fin 8) (slot : Fin 2) (d : Fin 32) (us : List Nat) (legal :
    Bool) (hz : List (Fin 36)) (f : ExecSt → Word × Word × Flags) (s : State) {s' : State} (hr : pairRow w slot d us legal hz f s = .next s') :
    s'.mask K = s.mask K := by
  unfold pairRow at hr
  exact slot0Row_mask kA kF kI _ _ _ _ _ _ _ (by intros; first | (simp only [↓apply_ite (State.mask K), ite_self, ↓foldl_mask, implies_true, ↓(onExe_mask kI)]; done) | ((repeat' split) <;> first | (simp only [↓apply_ite (State.mask K), ite_self, ↓foldl_mask, implies_true, ↓(onExe_mask kI)]; done) | (simp only [↓apply_ite (State.mask K), ite_self, ↓foldl_mask, implies_true, ↓(onExe_mask kI)]; (repeat' split) <;> first | (simp only [↓apply_ite (State.mask K), ite_self, ↓foldl_mask, implies_true, ↓(onExe_mask kI)]; done) | rfl | grind [onExe_mask]) | rfl | grind [onExe_mask])) hr

theorem execWhlRot_mask {K : Parts} (kA : K.regs) (kF : K.fab) (kI : K.whl) (w : Fin 8) (slot : Fin 2) (d : Fin 32) (a : Fin 32) (b : Fin
    32) (hz : List (Fin 36)) (s : State) {s' : State} (hr : execWhlRot w slot d a b hz s = .next s') :
    s'.mask K = s.mask K := by
  unfold execWhlRot at hr
  exact pairRow_mask kA kF kI _ _ _ _ _ _ _ _ hr

theorem execWhlVec_mask {K : Parts} (kA : K.regs) (kF : K.fab) (kI : K.whl) (w : Fin 8) (slot : Fin 2) (d : Fin 32) (a : Fin 32) (hz :
    List (Fin 36)) (s : State) {s' : State} (hr : execWhlVec w slot d a hz s = .next s') :
    s'.mask K = s.mask K := by
  unfold execWhlVec at hr
  exact pairRow_mask kA kF kI _ _ _ _ _ _ _ _ hr

theorem execWhlScs_mask {K : Parts} (kA : K.regs) (kF : K.fab) (kI : K.whl) (w : Fin 8) (slot : Fin 2) (d : Fin 32) (a : Fin 32) (hz :
    List (Fin 36)) (s : State) {s' : State} (hr : execWhlScs w slot d a hz s = .next s') :
    s'.mask K = s.mask K := by
  unfold execWhlScs at hr
  exact pairRow_mask kA kF kI _ _ _ _ _ _ _ _ hr

theorem unitRow_mask {K : Parts} (kA : K.regs) (kF : K.fab) (kI : K.whl) (w : Fin 8) (slot : Fin 2) (d : Fin 32) (a : Fin 32) (lat : Nat)
    (hz : List (Fin 36)) (f : Word → Word × Flags) (s : State) {s' : State} (hr : unitRow w slot d a lat hz f s = .next s') :
    s'.mask K = s.mask K := by
  unfold unitRow at hr
  exact slot0Row_mask kA kF kI _ _ _ _ _ _ _ (by intros; first | (simp only [↓apply_ite (State.mask K), ite_self, ↓foldl_mask, implies_true, ↓(onExe_mask kI)]; done) | ((repeat' split) <;> first | (simp only [↓apply_ite (State.mask K), ite_self, ↓foldl_mask, implies_true, ↓(onExe_mask kI)]; done) | (simp only [↓apply_ite (State.mask K), ite_self, ↓foldl_mask, implies_true, ↓(onExe_mask kI)]; (repeat' split) <;> first | (simp only [↓apply_ite (State.mask K), ite_self, ↓foldl_mask, implies_true, ↓(onExe_mask kI)]; done) | rfl | grind [onExe_mask]) | rfl | grind [onExe_mask])) hr

theorem execWhlRcp_mask {K : Parts} (kA : K.regs) (kF : K.fab) (kI : K.whl) (w : Fin 8) (slot : Fin 2) (d : Fin 32) (a : Fin 32) (hz :
    List (Fin 36)) (s : State) {s' : State} (hr : execWhlRcp w slot d a hz s = .next s') :
    s'.mask K = s.mask K := by
  unfold execWhlRcp at hr
  exact unitRow_mask kA kF kI _ _ _ _ _ _ _ _ hr

theorem execWhlSqrt_mask {K : Parts} (kA : K.regs) (kF : K.fab) (kI : K.whl) (w : Fin 8) (slot : Fin 2) (d : Fin 32) (a : Fin 32) (hz :
    List (Fin 36)) (s : State) {s' : State} (hr : execWhlSqrt w slot d a hz s = .next s') :
    s'.mask K = s.mask K := by
  unfold execWhlSqrt at hr
  exact unitRow_mask kA kF kI _ _ _ _ _ _ _ _ hr

theorem loadWord_mask {K : Parts} (kA : K.regs) (kD : K.sys) (kF : K.fab) (kI : K.whl) (kM : K.kln) (o : Nat) (v : Nat) (key : Nat) (synd
    : Syndrome) (s : State) :
    (loadWord o v key synd s).2.mask K = s.mask K := by
  simp only [loadWord, ↓apply_ite (State.mask K), ite_self, ↓foldl_mask, implies_true, ↓apply_ite Prod.snd, ↓apply_ite Prod.fst, ↓(setExe_mask kI), ↓(readWord_mask kA kD kF kM)]; (repeat' split) <;> first | (simp only [↓apply_ite (State.mask K), ite_self, ↓foldl_mask, implies_true, ↓apply_ite Prod.snd, ↓apply_ite Prod.fst, ↓(setExe_mask kI), ↓(readWord_mask kA kD kF kM)]; done) | (simp only [↓apply_ite (State.mask K), ite_self, ↓foldl_mask, implies_true, ↓apply_ite Prod.snd, ↓apply_ite Prod.fst, ↓(setExe_mask kI), ↓(readWord_mask kA kD kF kM)]; (repeat' split) <;> first | (simp only [↓apply_ite (State.mask K), ite_self, ↓foldl_mask, implies_true, ↓apply_ite Prod.snd, ↓apply_ite Prod.fst, ↓(setExe_mask kI), ↓(readWord_mask kA kD kF kM)]; done) | rfl | grind [setExe_mask, readWord_mask]) | rfl | grind [setExe_mask, readWord_mask]

theorem tblAct_mask {K : Parts} (kA : K.regs) (kD : K.sys) (kF : K.fab) (kI : K.whl) (kM : K.kln) (slot : Fin 2) (d : Fin 32) (a : Fin
    32) (t : Nat) (synd : Syndrome) (o : Nat) (v : Nat) (s : State) :
    (tblAct slot d a t synd o v s).mask K = s.mask K := by
  simp only [tblAct, ↓apply_ite (State.mask K), ite_self, ↓foldl_mask, implies_true, ↓(loadWord_mask kA kD kF kI kM), ↓(onExe_mask kI)]

theorem execWhlTbl_mask {K : Parts} (kA : K.regs) (kD : K.sys) (kF : K.fab) (kI : K.whl) (kM : K.kln) (w : Fin 8) (slot : Fin 2) (d : Fin
    32) (a : Fin 32) (t : Fin 16) (synd : Syndrome) (hz : List (Fin 36)) (s : State) {s' : State} (hr : execWhlTbl w slot d a t synd hz s = .next s') :
    s'.mask K = s.mask K := by
  unfold execWhlTbl at hr
  exact slot0Row_mask kA kF kI _ _ _ _ _ _ _ (by intros; first | (simp only [↓apply_ite (State.mask K), ite_self, ↓foldl_mask, implies_true, ↓(tblAct_mask kA kD kF kI kM)]; done) | ((repeat' split) <;> first | (simp only [↓apply_ite (State.mask K), ite_self, ↓foldl_mask, implies_true, ↓(tblAct_mask kA kD kF kI kM)]; done) | (simp only [↓apply_ite (State.mask K), ite_self, ↓foldl_mask, implies_true, ↓(tblAct_mask kA kD kF kI kM)]; (repeat' split) <;> first | (simp only [↓apply_ite (State.mask K), ite_self, ↓foldl_mask, implies_true, ↓(tblAct_mask kA kD kF kI kM)]; done) | rfl | grind [tblAct_mask]) | rfl | grind [tblAct_mask])) hr

theorem execWhlIn_mask {K : Parts} (kA : K.regs) (kF : K.fab) (kI : K.whl) (w : Fin 8) (slot : Fin 2) (d : Fin 32) (p : Fin 64) (hz :
    List (Fin 36)) (s : State) {s' : State} (hr : execWhlIn w slot d p hz s = .next s') :
    s'.mask K = s.mask K := by
  unfold execWhlIn at hr
  exact slotRow_mask kA kF kI _ _ _ _ _ _ (by intros; first | (simp only [↓apply_ite (State.mask K), ite_self, ↓foldl_mask, implies_true, ↓(onExe_mask kI)]; done) | ((repeat' split) <;> first | (simp only [↓apply_ite (State.mask K), ite_self, ↓foldl_mask, implies_true, ↓(onExe_mask kI)]; done) | (simp only [↓apply_ite (State.mask K), ite_self, ↓foldl_mask, implies_true, ↓(onExe_mask kI)]; (repeat' split) <;> first | (simp only [↓apply_ite (State.mask K), ite_self, ↓foldl_mask, implies_true, ↓(onExe_mask kI)]; done) | rfl | grind [onExe_mask]) | rfl | grind [onExe_mask])) hr

theorem setFlagNow_mask {K : Parts} (kA : K.regs) (kF : K.fab) (kI : K.whl) (slot : Fin 2) (o : Nat) (v : Nat) (f : Flags) (s : State) :
    (setFlagNow slot o v f s).mask K = s.mask K := by
  simp only [setFlagNow, ↓apply_ite (State.mask K), ite_self, ↓foldl_mask, implies_true, ↓(setExe_mask kI), ↓(orFlags_mask kA kF)]

theorem execWhlOut_mask {K : Parts} (kA : K.regs) (kF : K.fab) (kI : K.whl) (w : Fin 8) (slot : Fin 2) (p : Fin 64) (src : Fin 32) (hz :
    List (Fin 36)) (s : State) {s' : State} (hr : execWhlOut w slot p src hz s = .next s') :
    s'.mask K = s.mask K := by
  unfold execWhlOut at hr
  exact slotRow_mask kA kF kI _ _ _ _ _ _ (by intros; first | (simp only [↓apply_ite (State.mask K), ite_self, ↓foldl_mask, implies_true, ↓(setExe_mask kI), ↓(setWhorl_mask kI), ↓(onExe_mask kI), ↓(setFlagNow_mask kA kF kI)]; done) | ((repeat' split) <;> first | (simp only [↓apply_ite (State.mask K), ite_self, ↓foldl_mask, implies_true, ↓(setExe_mask kI), ↓(setWhorl_mask kI), ↓(onExe_mask kI), ↓(setFlagNow_mask kA kF kI)]; done) | (simp only [↓apply_ite (State.mask K), ite_self, ↓foldl_mask, implies_true, ↓(setExe_mask kI), ↓(setWhorl_mask kI), ↓(onExe_mask kI), ↓(setFlagNow_mask kA kF kI)]; (repeat' split) <;> first | (simp only [↓apply_ite (State.mask K), ite_self, ↓foldl_mask, implies_true, ↓(setExe_mask kI), ↓(setWhorl_mask kI), ↓(onExe_mask kI), ↓(setFlagNow_mask kA kF kI)]; done) | rfl | grind [setExe_mask, setWhorl_mask, onExe_mask, setFlagNow_mask]) | rfl | grind [setExe_mask, setWhorl_mask, onExe_mask, setFlagNow_mask])) hr

theorem execWhlFrsh_mask {K : Parts} (kA : K.regs) (kF : K.fab) (kI : K.whl) (w : Fin 8) (slot : Fin 2) (d : Fin 32) (h : Fin 2) (hz :
    List (Fin 36)) (s : State) {s' : State} (hr : execWhlFrsh w slot d h hz s = .next s') :
    s'.mask K = s.mask K := by
  unfold execWhlFrsh at hr
  exact slotRow_mask kA kF kI _ _ _ _ _ _ (by intros; first | (simp only [↓apply_ite (State.mask K), ite_self, ↓foldl_mask, implies_true, ↓(onExe_mask kI)]; done) | ((repeat' split) <;> first | (simp only [↓apply_ite (State.mask K), ite_self, ↓foldl_mask, implies_true, ↓(onExe_mask kI)]; done) | (simp only [↓apply_ite (State.mask K), ite_self, ↓foldl_mask, implies_true, ↓(onExe_mask kI)]; (repeat' split) <;> first | (simp only [↓apply_ite (State.mask K), ite_self, ↓foldl_mask, implies_true, ↓(onExe_mask kI)]; done) | rfl | grind [onExe_mask]) | rfl | grind [onExe_mask])) hr

theorem execWhlLd_mask {K : Parts} (kA : K.regs) (kD : K.sys) (kF : K.fab) (kI : K.whl) (kM : K.kln) (w : Fin 8) (slot : Fin 2) (d : Fin
    32) (a : Fin 32) (off : BitVec 16) (synd : Syndrome) (hz : List (Fin 36)) (s : State) {s' : State} (hr : execWhlLd w slot d a off synd hz s = .next s') :
    s'.mask K = s.mask K := by
  unfold execWhlLd at hr
  exact slot0Row_mask kA kF kI _ _ _ _ _ _ _ (by intros; first | (simp only [↓apply_ite (State.mask K), ite_self, ↓foldl_mask, implies_true, ↓(loadWord_mask kA kD kF kI kM), ↓(onExe_mask kI)]; done) | ((repeat' split) <;> first | (simp only [↓apply_ite (State.mask K), ite_self, ↓foldl_mask, implies_true, ↓(loadWord_mask kA kD kF kI kM), ↓(onExe_mask kI)]; done) | (simp only [↓apply_ite (State.mask K), ite_self, ↓foldl_mask, implies_true, ↓(loadWord_mask kA kD kF kI kM), ↓(onExe_mask kI)]; (repeat' split) <;> first | (simp only [↓apply_ite (State.mask K), ite_self, ↓foldl_mask, implies_true, ↓(loadWord_mask kA kD kF kI kM), ↓(onExe_mask kI)]; done) | rfl | grind [loadWord_mask, onExe_mask]) | rfl | grind [loadWord_mask, onExe_mask])) hr

theorem execWhlSt_mask {K : Parts} (kA : K.regs) (kB : K.mem) (kF : K.fab) (kI : K.whl) (w : Fin 8) (slot : Fin 2) (src : Fin 32) (a :
    Fin 32) (off : BitVec 16) (hz : List (Fin 36)) (s : State) {s' : State} (hr : execWhlSt w slot src a off hz s = .next s') :
    s'.mask K = s.mask K := by
  unfold execWhlSt at hr
  exact slot0Row_mask kA kF kI _ _ _ _ _ _ _ (by intros; first | (simp only [↓apply_ite (State.mask K), ite_self, ↓foldl_mask, implies_true, ↓(store_mask kB), ↓(cleanWord_mask kF), ↓(onExe_mask kI), ↓(setFlagNow_mask kA kF kI)]; done) | ((repeat' split) <;> first | (simp only [↓apply_ite (State.mask K), ite_self, ↓foldl_mask, implies_true, ↓(store_mask kB), ↓(cleanWord_mask kF), ↓(onExe_mask kI), ↓(setFlagNow_mask kA kF kI)]; done) | (simp only [↓apply_ite (State.mask K), ite_self, ↓foldl_mask, implies_true, ↓(store_mask kB), ↓(cleanWord_mask kF), ↓(onExe_mask kI), ↓(setFlagNow_mask kA kF kI)]; (repeat' split) <;> first | (simp only [↓apply_ite (State.mask K), ite_self, ↓foldl_mask, implies_true, ↓(store_mask kB), ↓(cleanWord_mask kF), ↓(onExe_mask kI), ↓(setFlagNow_mask kA kF kI)]; done) | rfl | grind [store_mask, cleanWord_mask, onExe_mask, setFlagNow_mask]) | rfl | grind [store_mask, cleanWord_mask, onExe_mask, setFlagNow_mask])) hr

theorem branchRow_mask {K : Parts} (kA : K.regs) (kF : K.fab) (kI : K.whl) (w : Fin 8) (slot : Fin 2) (a : Fin 32) (target : BitVec 15)
    (hz : List (Fin 36)) (cond : Word → Bool) (s : State) {s' : State} (hr : branchRow w slot a target hz cond s = .next s') :
    s'.mask K = s.mask K := by
  unfold branchRow at hr
  exact slot0Row_mask kA kF kI _ _ _ _ _ _ _ (by intros; first | (simp only [↓apply_ite (State.mask K), ite_self, ↓foldl_mask, implies_true, ↓(setExe_mask kI)]; done) | ((repeat' split) <;> first | (simp only [↓apply_ite (State.mask K), ite_self, ↓foldl_mask, implies_true, ↓(setExe_mask kI)]; done) | (simp only [↓apply_ite (State.mask K), ite_self, ↓foldl_mask, implies_true, ↓(setExe_mask kI)]; (repeat' split) <;> first | (simp only [↓apply_ite (State.mask K), ite_self, ↓foldl_mask, implies_true, ↓(setExe_mask kI)]; done) | rfl | grind [setExe_mask]) | rfl | grind [setExe_mask])) hr

theorem execWhlBz_mask {K : Parts} (kA : K.regs) (kF : K.fab) (kI : K.whl) (w : Fin 8) (slot : Fin 2) (a : Fin 32) (target : BitVec 15)
    (hz : List (Fin 36)) (s : State) {s' : State} (hr : execWhlBz w slot a target hz s = .next s') :
    s'.mask K = s.mask K := by
  unfold execWhlBz at hr
  exact branchRow_mask kA kF kI _ _ _ _ _ _ _ hr

theorem execWhlBnz_mask {K : Parts} (kA : K.regs) (kF : K.fab) (kI : K.whl) (w : Fin 8) (slot : Fin 2) (a : Fin 32) (target : BitVec 15)
    (hz : List (Fin 36)) (s : State) {s' : State} (hr : execWhlBnz w slot a target hz s = .next s') :
    s'.mask K = s.mask K := by
  unfold execWhlBnz at hr
  exact branchRow_mask kA kF kI _ _ _ _ _ _ _ hr

theorem execWhlBltz_mask {K : Parts} (kA : K.regs) (kF : K.fab) (kI : K.whl) (w : Fin 8) (slot : Fin 2) (a : Fin 32) (target : BitVec 15)
    (hz : List (Fin 36)) (s : State) {s' : State} (hr : execWhlBltz w slot a target hz s = .next s') :
    s'.mask K = s.mask K := by
  unfold execWhlBltz at hr
  exact branchRow_mask kA kF kI _ _ _ _ _ _ _ hr

theorem execWhlBgez_mask {K : Parts} (kA : K.regs) (kF : K.fab) (kI : K.whl) (w : Fin 8) (slot : Fin 2) (a : Fin 32) (target : BitVec 15)
    (hz : List (Fin 36)) (s : State) {s' : State} (hr : execWhlBgez w slot a target hz s = .next s') :
    s'.mask K = s.mask K := by
  unfold execWhlBgez at hr
  exact branchRow_mask kA kF kI _ _ _ _ _ _ _ hr

theorem execWhlJmp_mask {K : Parts} (kA : K.regs) (kF : K.fab) (kI : K.whl) (w : Fin 8) (slot : Fin 2) (target : BitVec 15) (hz : List
    (Fin 36)) (s : State) {s' : State} (hr : execWhlJmp w slot target hz s = .next s') :
    s'.mask K = s.mask K := by
  unfold execWhlJmp at hr
  exact slot0Row_mask kA kF kI _ _ _ _ _ _ _ (by intros; first | (simp only [↓apply_ite (State.mask K), ite_self, ↓foldl_mask, implies_true, ↓(setExe_mask kI)]; done) | ((repeat' split) <;> first | (simp only [↓apply_ite (State.mask K), ite_self, ↓foldl_mask, implies_true, ↓(setExe_mask kI)]; done) | (simp only [↓apply_ite (State.mask K), ite_self, ↓foldl_mask, implies_true, ↓(setExe_mask kI)]; (repeat' split) <;> first | (simp only [↓apply_ite (State.mask K), ite_self, ↓foldl_mask, implies_true, ↓(setExe_mask kI)]; done) | rfl | grind [setExe_mask]) | rfl | grind [setExe_mask])) hr

theorem execWhlLoop_mask {K : Parts} (kA : K.regs) (kF : K.fab) (kI : K.whl) (w : Fin 8) (slot : Fin 2) (n : Fin 256) (last : BitVec 15)
    (hz : List (Fin 36)) (s : State) {s' : State} (hr : execWhlLoop w slot n last hz s = .next s') :
    s'.mask K = s.mask K := by
  unfold execWhlLoop at hr
  exact slot0Row_mask kA kF kI _ _ _ _ _ _ _ (by intros; first | (simp only [↓apply_ite (State.mask K), ite_self, ↓foldl_mask, implies_true, ↓(onExe_mask kI)]; done) | ((repeat' split) <;> first | (simp only [↓apply_ite (State.mask K), ite_self, ↓foldl_mask, implies_true, ↓(onExe_mask kI)]; done) | (simp only [↓apply_ite (State.mask K), ite_self, ↓foldl_mask, implies_true, ↓(onExe_mask kI)]; (repeat' split) <;> first | (simp only [↓apply_ite (State.mask K), ite_self, ↓foldl_mask, implies_true, ↓(onExe_mask kI)]; done) | rfl | grind [onExe_mask]) | rfl | grind [onExe_mask])) hr

theorem execWhlSafe_mask {K : Parts} (kA : K.regs) (kF : K.fab) (kI : K.whl) (w : Fin 8) (slot : Fin 2) (hz : List (Fin 36)) (s : State)
    {s' : State} (hr : execWhlSafe w slot hz s = .next s') :
    s'.mask K = s.mask K := by
  unfold execWhlSafe at hr
  exact slot0Row_mask kA kF kI _ _ _ _ _ _ _ (by intros; first | (simp only [↓apply_ite (State.mask K), ite_self, ↓foldl_mask, implies_true, ↓(endExec_mask kA kF kI)]; done) | ((repeat' split) <;> first | (simp only [↓apply_ite (State.mask K), ite_self, ↓foldl_mask, implies_true, ↓(endExec_mask kA kF kI)]; done) | (simp only [↓apply_ite (State.mask K), ite_self, ↓foldl_mask, implies_true, ↓(endExec_mask kA kF kI)]; (repeat' split) <;> first | (simp only [↓apply_ite (State.mask K), ite_self, ↓foldl_mask, implies_true, ↓(endExec_mask kA kF kI)]; done) | rfl | grind [endExec_mask]) | rfl | grind [endExec_mask])) hr

theorem execWhlEnd_mask {K : Parts} (kA : K.regs) (kF : K.fab) (kI : K.whl) (w : Fin 8) (slot : Fin 2) (hz : List (Fin 36)) (s : State)
    {s' : State} (hr : execWhlEnd w slot hz s = .next s') :
    s'.mask K = s.mask K := by
  unfold execWhlEnd at hr
  exact slot0Row_mask kA kF kI _ _ _ _ _ _ _ (by intros; first | (simp only [↓apply_ite (State.mask K), ite_self, ↓foldl_mask, implies_true, ↓(endExec_mask kA kF kI)]; done) | ((repeat' split) <;> first | (simp only [↓apply_ite (State.mask K), ite_self, ↓foldl_mask, implies_true, ↓(endExec_mask kA kF kI)]; done) | (simp only [↓apply_ite (State.mask K), ite_self, ↓foldl_mask, implies_true, ↓(endExec_mask kA kF kI)]; (repeat' split) <;> first | (simp only [↓apply_ite (State.mask K), ite_self, ↓foldl_mask, implies_true, ↓(endExec_mask kA kF kI)]; done) | rfl | grind [endExec_mask]) | rfl | grind [endExec_mask])) hr

theorem setChan_mask {K : Parts} (kK : K.cnv) (s : State) (c : Nat) (x : ChSt) :
    (State.setChan s c x).mask K = s.mask K := by
  simp only [State.setChan, ↓apply_ite (State.mask K), ite_self, ↓foldl_mask, implies_true, mask_cnv kK]

theorem holdLeg_mask {K : Parts} (kA : K.regs) (kJ : K.pwm) (kP : K.act) (h : Bool) (l : Nat) (s : State) :
    (holdLeg h l s).mask K = s.mask K := by
  simp only [holdLeg, ↓apply_ite (State.mask K), ite_self, ↓foldl_mask, implies_true, ↓(setLeg_mask kJ), ↓(enforceLeg_mask kA kJ kP), ↓(showOffReq_mask kA)]

theorem holdLegs_mask {K : Parts} (kA : K.regs) (kJ : K.pwm) (kP : K.act) (c : Nat) (s : State) :
    (holdLegs c s).mask K = s.mask K := by
  simp only [holdLegs, ↓apply_ite (State.mask K), ite_self, ↓foldl_mask, implies_true, ↓(holdLeg_mask kA kJ kP)]

theorem chGoto_mask {K : Parts} (kA : K.regs) (kF : K.fab) (c : Nat) (st : Nat) (s : State) :
    (chGoto c st s).mask K = s.mask K := by
  simp only [chGoto, ↓apply_ite (State.mask K), ite_self, ↓foldl_mask, implies_true, ↓(set_mask kA), ↓(raise_mask kA kF)]

theorem cnvAsh_mask {K : Parts} (kA : K.regs) (kF : K.fab) (c : Nat) (code : Nat) (cls : Nat) (s : State) :
    (cnvAsh c code cls s).mask K = s.mask K := by
  simp only [cnvAsh, ↓apply_ite (State.mask K), ite_self, ↓foldl_mask, implies_true, ↓(ashPush_mask kA kF)]

theorem nlFire_mask {K : Parts} (kA : K.regs) (kF : K.fab) (kJ : K.pwm) (kK : K.cnv) (kP : K.act) (c : Nat) (s : State) :
    (nlFire c s).mask K = s.mask K := by
  simp only [nlFire, ↓apply_ite (State.mask K), ite_self, ↓foldl_mask, implies_true, ↓(set_mask kA), ↓(setChan_mask kK), ↓(setLeg_mask kJ), ↓(enforceLeg_mask kA kJ kP), ↓(raise_mask kA kF), ↓(showOffReq_mask kA)]

theorem chQuiet_mask {K : Parts} (kA : K.regs) (kF : K.fab) (kJ : K.pwm) (kK : K.cnv) (kP : K.act) (c : Nat) (s : State) :
    (chQuiet c s).mask K = s.mask K := by
  simp only [chQuiet, ↓apply_ite (State.mask K), ite_self, ↓foldl_mask, implies_true, ↓(set_mask kA), ↓(setChan_mask kK), ↓(setLeg_mask kJ), ↓(nlFire_mask kA kF kJ kK kP)]

theorem chStop_mask {K : Parts} (kA : K.regs) (kF : K.fab) (kJ : K.pwm) (kK : K.cnv) (kP : K.act) (c : Nat) (st : Nat) (cause : Nat) (s :
    State) :
    (chStop c st cause s).mask K = s.mask K := by
  simp only [chStop, ↓apply_ite (State.mask K), ite_self, ↓foldl_mask, implies_true, ↓(set_mask kA), ↓(chGoto_mask kA kF), ↓(chQuiet_mask kA kF kJ kK kP), ↓(holdLegs_mask kA kJ kP)]

theorem cnvTripSet_mask {K : Parts} (kA : K.regs) (kD : K.sys) (kF : K.fab) (kJ : K.pwm) (kK : K.cnv) (kM : K.kln) (kP : K.act) (p : Nat)
    (s : State) :
    (cnvTripSet p s).mask K = s.mask K := by
  simp only [cnvTripSet, ↓apply_ite (State.mask K), ite_self, ↓foldl_mask, implies_true, ↓(chStop_mask kA kF kJ kK kP), ↓(cnvAsh_mask kA kF), ↓(issueFor_mask kD kM), ↓(set_mask kA)]

theorem hiccupEntry_mask {K : Parts} (kA : K.regs) (kD : K.sys) (kF : K.fab) (kJ : K.pwm) (kK : K.cnv) (kM : K.kln) (kP : K.act) (c :
    Nat) (s : State) :
    (hiccupEntry c s).mask K = s.mask K := by
  simp only [hiccupEntry, ↓apply_ite (State.mask K), ite_self, ↓foldl_mask, implies_true, ↓(setChan_mask kK), ↓(chStop_mask kA kF kJ kK kP), ↓(cnvAsh_mask kA kF), ↓(issueFor_mask kD kM), ↓(raise_mask kA kF), ↓(set_mask kA)]

theorem markLimited_mask {K : Parts} (kK : K.cnv) (l : Nat) (s : State) :
    (markLimited l s).mask K = s.mask K := by
  simp only [markLimited, ↓apply_ite (State.mask K), ite_self, ↓foldl_mask, implies_true, ↓(setChan_mask kK)]; (repeat' split) <;> first | (simp only [↓apply_ite (State.mask K), ite_self, ↓foldl_mask, implies_true, ↓(setChan_mask kK)]; done) | (simp only [↓apply_ite (State.mask K), ite_self, ↓foldl_mask, implies_true, ↓(setChan_mask kK)]; (repeat' split) <;> first | (simp only [↓apply_ite (State.mask K), ite_self, ↓foldl_mask, implies_true, ↓(setChan_mask kK)]; done) | rfl | grind [setChan_mask]) | rfl | grind [setChan_mask]

theorem cnvPeriod_mask {K : Parts} (kA : K.regs) (kD : K.sys) (kF : K.fab) (kJ : K.pwm) (kK : K.cnv) (kM : K.kln) (kP : K.act) (g : Nat)
    (s : State) :
    (cnvPeriod g s).mask K = s.mask K := by
  simp only [cnvPeriod, ↓apply_ite (State.mask K), ite_self, ↓foldl_mask, implies_true, ↓(set_mask kA), ↓(setChan_mask kK), ↓(hiccupEntry_mask kA kD kF kJ kK kM kP), ↓(holdLegs_mask kA kJ kP)]

theorem nlEnd_mask {K : Parts} (kA : K.regs) (kF : K.fab) (kJ : K.pwm) (kK : K.cnv) (kP : K.act) (c : Nat) (s : State) :
    (nlEnd c s).mask K = s.mask K := by
  simp only [nlEnd, ↓apply_ite (State.mask K), ite_self, ↓foldl_mask, implies_true, ↓(set_mask kA), ↓(setLeg_mask kJ), ↓(enforceLeg_mask kA kJ kP), ↓(nlFire_mask kA kF kJ kK kP)]

theorem fastStop_mask {K : Parts} (kA : K.regs) (kF : K.fab) (kJ : K.pwm) (kK : K.cnv) (kP : K.act) (c : Nat) (s : State) :
    (fastStop c s).mask K = s.mask K := by
  simp only [fastStop, ↓apply_ite (State.mask K), ite_self, ↓foldl_mask, implies_true, ↓(set_mask kA), ↓(setChan_mask kK), ↓(chGoto_mask kA kF), ↓(chQuiet_mask kA kF kJ kK kP), ↓(raise_mask kA kF)]

theorem cnvComparator_mask {K : Parts} (kA : K.regs) (kD : K.sys) (kF : K.fab) (kJ : K.pwm) (kK : K.cnv) (kM : K.kln) (kP : K.act) (ch :
    Nat) (above : Bool) (s : State) :
    (cnvComparator ch above s).mask K = s.mask K := by
  simp only [cnvComparator, ↓apply_ite (State.mask K), ite_self, ↓foldl_mask, implies_true, ↓(set_mask kA), ↓(setLeg_mask kJ), ↓(cnvAsh_mask kA kF), ↓(enforceLeg_mask kA kJ kP), ↓(fastStop_mask kA kF kJ kK kP), ↓(issueFor_mask kD kM), ↓(nlFire_mask kA kF kJ kK kP), ↓(showOffReq_mask kA)]

theorem cnvRelease_mask {K : Parts} (kA : K.regs) (kF : K.fab) (kJ : K.pwm) (kK : K.cnv) (kP : K.act) (ch : Nat) (s : State) :
    (cnvRelease ch s).mask K = s.mask K := by
  simp only [cnvRelease, ↓apply_ite (State.mask K), ite_self, ↓foldl_mask, implies_true, ↓(set_mask kA), ↓(setChan_mask kK), ↓(setLeg_mask kJ), ↓(nlEnd_mask kA kF kJ kK kP)]

theorem execNlMaxTimeout_mask {K : Parts} (kA : K.regs) (kF : K.fab) (kJ : K.pwm) (kK : K.cnv) (kP : K.act) (ch : Fin 3) (s : State) {s'
    : State} (hr : execNlMaxTimeout ch s = .next s') :
    s'.mask K = s.mask K := by
  unfold execNlMaxTimeout at hr
  injection hr with hr; subst hr; simp only [↓apply_ite (State.mask K), ite_self, ↓foldl_mask, implies_true, ↓(nlEnd_mask kA kF kJ kK kP)]

theorem writeCmp_mask {K : Parts} (kA : K.regs) (kJ : K.pwm) (late : List (Fin 12)) (l : Nat) (a : Int) (b : Int) (s : State) :
    (writeCmp late l a b s).mask K = s.mask K := by
  simp only [writeCmp, ↓apply_ite (State.mask K), ite_self, ↓foldl_mask, implies_true, ↓(setI_mask kA), ↓(setLeg_mask kJ)]

theorem balance_mask {K : Parts} (kA : K.regs) (kD : K.sys) (kF : K.fab) (kK : K.cnv) (kM : K.kln) (c : Nat) (s : State) :
    (balance c s).mask K = s.mask K := by
  simp only [balance, ↓apply_ite (State.mask K), ite_self, ↓foldl_mask, implies_true, ↓(setChan_mask kK), ↓(issueFor_mask kD kM), ↓(raise_mask kA kF)]

theorem restoreLegs_mask {K : Parts} (kA : K.regs) (kJ : K.pwm) (kK : K.cnv) (c : Nat) (s : State) :
    (restoreLegs c s).mask K = s.mask K := by
  simp only [restoreLegs, ↓apply_ite (State.mask K), ite_self, ↓foldl_mask, implies_true, ↓(set_mask kA), ↓(setChan_mask kK), ↓(setLeg_mask kJ)]

theorem shedCopy_mask {K : Parts} (kA : K.regs) (kF : K.fab) (kJ : K.pwm) (kK : K.cnv) (kP : K.act) (c : Nat) (s : State) :
    (shedCopy c s).mask K = s.mask K := by
  simp only [shedCopy, ↓apply_ite (State.mask K), ite_self, ↓foldl_mask, implies_true, ↓(set_mask kA), ↓(setBit_mask kA), ↓(setChan_mask kK), ↓(holdLeg_mask kA kJ kP), ↓(raise_mask kA kF)]

theorem telCopy_mask {K : Parts} (kA : K.regs) (kK : K.cnv) (c : Nat) (s : State) :
    (telCopy c s).mask K = s.mask K := by
  simp only [telCopy, ↓apply_ite (State.mask K), ite_self, ↓foldl_mask, implies_true, ↓(setChan_mask kK), ↓(setI_mask kA)]

theorem cnvCopy_mask {K : Parts} (kA : K.regs) (kD : K.sys) (kF : K.fab) (kJ : K.pwm) (kK : K.cnv) (kM : K.kln) (kP : K.act) (c : Nat)
    (cmds : List Word) (safe : Bool) (late : List (Fin 12)) (s : State) :
    (cnvCopy c cmds safe late s).mask K = s.mask K := by
  simp only [cnvCopy, ↓apply_ite (State.mask K), ite_self, ↓foldl_mask, implies_true, ↓(setChan_mask kK), ↓(setLeg_mask kJ), ↓(balance_mask kA kD kF kK kM), ↓(chGoto_mask kA kF), ↓(chStop_mask kA kF kJ kK kP), ↓(cnvAsh_mask kA kF), ↓(holdLeg_mask kA kJ kP), ↓(issueFor_mask kD kM), ↓(raise_mask kA kF), ↓(restoreLegs_mask kA kJ kK), ↓(shedCopy_mask kA kF kJ kK kP), ↓(telCopy_mask kA kK), ↓(writeCmp_mask kA kJ), ↓(set_mask kA)]

theorem nlLevel_mask {K : Parts} (kA : K.regs) (kJ : K.pwm) (c : Nat) (s : State) :
    (nlLevel c s).mask K = s.mask K := by
  simp only [nlLevel, ↓apply_ite (State.mask K), ite_self, ↓foldl_mask, implies_true, ↓(set_mask kA), ↓(setLeg_mask kJ), ↓(showOffReq_mask kA)]

theorem chStart_mask {K : Parts} (kA : K.regs) (kF : K.fab) (kJ : K.pwm) (kK : K.cnv) (kP : K.act) (c : Nat) (s : State) :
    (chStart c s).mask K = s.mask K := by
  simp only [chStart, ↓apply_ite (State.mask K), ite_self, ↓foldl_mask, implies_true, ↓(set_mask kA), ↓(setChan_mask kK), ↓(chGoto_mask kA kF), ↓(holdLegs_mask kA kJ kP), ↓(nlLevel_mask kA kJ)]

theorem execCnvChannelStart_mask {K : Parts} (kA : K.regs) (kC : K.resp) (kF : K.fab) (kJ : K.pwm) (kK : K.cnv) (kP : K.act) (m : Master)
    (ch : Fin 3) (s : State) {s' : State} (hr : execCnvChannelStart m ch s = .next s') :
    s'.mask K = s.mask K := by
  unfold execCnvChannelStart at hr
  injection hr with hr; subst hr; simp only [↓apply_ite (State.mask K), ite_self, ↓foldl_mask, implies_true, ↓(answer_mask kC), ↓(busError_mask kC), ↓(chStart_mask kA kF kJ kK kP)]

theorem chDisable_mask {K : Parts} (kA : K.regs) (kF : K.fab) (kJ : K.pwm) (kK : K.cnv) (kP : K.act) (c : Nat) (s : State) :
    (chDisable c s).mask K = s.mask K := by
  simp only [chDisable, ↓apply_ite (State.mask K), ite_self, ↓foldl_mask, implies_true, ↓(set_mask kA), ↓(chGoto_mask kA kF), ↓(chStop_mask kA kF kJ kK kP)]; (repeat' split) <;> first | (simp only [↓apply_ite (State.mask K), ite_self, ↓foldl_mask, implies_true, ↓(set_mask kA), ↓(chGoto_mask kA kF), ↓(chStop_mask kA kF kJ kK kP)]; done) | (simp only [↓apply_ite (State.mask K), ite_self, ↓foldl_mask, implies_true, ↓(set_mask kA), ↓(chGoto_mask kA kF), ↓(chStop_mask kA kF kJ kK kP)]; (repeat' split) <;> first | (simp only [↓apply_ite (State.mask K), ite_self, ↓foldl_mask, implies_true, ↓(set_mask kA), ↓(chGoto_mask kA kF), ↓(chStop_mask kA kF kJ kK kP)]; done) | rfl | grind [set_mask, chGoto_mask, chStop_mask]) | rfl | grind [set_mask, chGoto_mask, chStop_mask]

theorem execCnvChannelStop_mask {K : Parts} (kA : K.regs) (kC : K.resp) (kF : K.fab) (kJ : K.pwm) (kK : K.cnv) (kP : K.act) (m : Master)
    (ch : Fin 3) (s : State) {s' : State} (hr : execCnvChannelStop m ch s = .next s') :
    s'.mask K = s.mask K := by
  unfold execCnvChannelStop at hr
  injection hr with hr; subst hr; simp only [↓apply_ite (State.mask K), ite_self, ↓foldl_mask, implies_true, ↓(answer_mask kC), ↓(busError_mask kC), ↓(chDisable_mask kA kF kJ kK kP)]

theorem chClear_mask {K : Parts} (kA : K.regs) (kF : K.fab) (m : Master) (c : Nat) (s : State) :
    (chClear m c s).mask K = s.mask K := by
  simp only [chClear, ↓apply_ite (State.mask K), ite_self, ↓foldl_mask, implies_true, ↓(set_mask kA), ↓(chGoto_mask kA kF)]; (repeat' split) <;> first | (simp only [↓apply_ite (State.mask K), ite_self, ↓foldl_mask, implies_true, ↓(set_mask kA), ↓(chGoto_mask kA kF)]; done) | (simp only [↓apply_ite (State.mask K), ite_self, ↓foldl_mask, implies_true, ↓(set_mask kA), ↓(chGoto_mask kA kF)]; (repeat' split) <;> first | (simp only [↓apply_ite (State.mask K), ite_self, ↓foldl_mask, implies_true, ↓(set_mask kA), ↓(chGoto_mask kA kF)]; done) | rfl | grind [set_mask, chGoto_mask]) | rfl | grind [set_mask, chGoto_mask]

theorem execCnvChannelClear_mask {K : Parts} (kA : K.regs) (kC : K.resp) (kF : K.fab) (m : Master) (ch : Fin 3) (s : State) {s' : State}
    (hr : execCnvChannelClear m ch s = .next s') :
    s'.mask K = s.mask K := by
  unfold execCnvChannelClear at hr
  injection hr with hr; subst hr; simp only [↓apply_ite (State.mask K), ite_self, ↓foldl_mask, implies_true, ↓(answer_mask kC), ↓(busError_mask kC), ↓(chClear_mask kA kF)]

theorem execRampTimeout_mask {K : Parts} (kA : K.regs) (kD : K.sys) (kF : K.fab) (kJ : K.pwm) (kK : K.cnv) (kM : K.kln) (kP : K.act) (ch
    : Fin 3) (s : State) {s' : State} (hr : execRampTimeout ch s = .next s') :
    s'.mask K = s.mask K := by
  unfold execRampTimeout at hr
  injection hr with hr; subst hr; simp only [↓apply_ite (State.mask K), ite_self, ↓foldl_mask, implies_true, ↓(chStop_mask kA kF kJ kK kP), ↓(issueFor_mask kD kM)]

theorem preFail_mask {K : Parts} (kA : K.regs) (kD : K.sys) (kM : K.kln) (why : Nat) (s : State) :
    (preFail why s).mask K = s.mask K := by
  simp only [preFail, ↓apply_ite (State.mask K), ite_self, ↓foldl_mask, implies_true, ↓(set_mask kA), ↓(issue_mask kD kM)]

theorem execSoftStartCheckpoint_mask {K : Parts} (kA : K.regs) (kD : K.sys) (kF : K.fab) (kJ : K.pwm) (kK : K.cnv) (kM : K.kln) (kP :
    K.act) (ch : Fin 3) (k : Fin 3) (s : State) {s' : State} (hr : execSoftStartCheckpoint ch k s = .next s') :
    s'.mask K = s.mask K := by
  unfold execSoftStartCheckpoint at hr
  injection hr with hr; subst hr; simp only [↓apply_ite (State.mask K), ite_self, ↓foldl_mask, implies_true, ↓(setLeg_mask kJ), ↓(hiccupEntry_mask kA kD kF kJ kK kM kP), ↓(issueFor_mask kD kM), ↓(preFail_mask kA kD kM)]

theorem execSoftStopTimeout_mask {K : Parts} (kA : K.regs) (kD : K.sys) (kF : K.fab) (kJ : K.pwm) (kK : K.cnv) (kM : K.kln) (kP : K.act)
    (ch : Fin 3) (s : State) {s' : State} (hr : execSoftStopTimeout ch s = .next s') :
    s'.mask K = s.mask K := by
  unfold execSoftStopTimeout at hr
  injection hr with hr; subst hr; simp only [↓apply_ite (State.mask K), ite_self, ↓foldl_mask, implies_true, ↓(chStop_mask kA kF kJ kK kP), ↓(issueFor_mask kD kM)]

theorem execHiccupOffEnd_mask {K : Parts} (kA : K.regs) (kF : K.fab) (kJ : K.pwm) (kK : K.cnv) (ch : Fin 3) (s : State) {s' : State} (hr :
    execHiccupOffEnd ch s = .next s') :
    s'.mask K = s.mask K := by
  unfold execHiccupOffEnd at hr
  injection hr with hr; subst hr; simp only [↓apply_ite (State.mask K), ite_self, ↓foldl_mask, implies_true, ↓(set_mask kA), ↓(setChan_mask kK), ↓(chGoto_mask kA kF), ↓(raise_mask kA kF), ↓(nlLevel_mask kA kJ)]

theorem execRetryClear_mask {K : Parts} (kA : K.regs) (ch : Fin 3) (s : State) {s' : State} (hr : execRetryClear ch s = .next s') :
    s'.mask K = s.mask K := by
  unfold execRetryClear at hr
  injection hr with hr; subst hr; simp only [↓apply_ite (State.mask K), ite_self, ↓foldl_mask, implies_true, ↓(set_mask kA)]

theorem execShedStart_mask {K : Parts} (kA : K.regs) (kF : K.fab) (kK : K.cnv) (ch : Fin 3) (s : State) {s' : State} (hr : execShedStart
    ch s = .next s') :
    s'.mask K = s.mask K := by
  unfold execShedStart at hr
  injection hr with hr; subst hr; simp only [↓apply_ite (State.mask K), ite_self, ↓foldl_mask, implies_true, ↓(set_mask kA), ↓(setChan_mask kK), ↓(raise_mask kA kF)]

theorem execShedHoldoffEnd_mask {K : Parts} (kA : K.regs) (ch : Fin 3) (s : State) {s' : State} (hr : execShedHoldoffEnd ch s = .next s') :
    s'.mask K = s.mask K := by
  unfold execShedHoldoffEnd at hr
  injection hr with hr; subst hr; simp only [↓apply_ite (State.mask K), ite_self, ↓foldl_mask, implies_true, ↓(set_mask kA)]

theorem execTelemetryWindowClose_mask {K : Parts} (kA : K.regs) (kK : K.cnv) (ch : Fin 3) (w : Fin 3) (s : State) {s' : State} (hr :
    execTelemetryWindowClose ch w s = .next s') :
    s'.mask K = s.mask K := by
  unfold execTelemetryWindowClose at hr
  injection hr with hr; subst hr; simp only [↓apply_ite (State.mask K), ite_self, ↓foldl_mask, implies_true, ↓(setChan_mask kK), ↓(setI_mask kA)]

theorem telClear_mask {K : Parts} (kA : K.regs) (mask : Nat) (s : State) :
    (telClear mask s).mask K = s.mask K := by
  simp only [telClear, ↓apply_ite (State.mask K), ite_self, ↓foldl_mask, implies_true, ↓(set_mask kA)]

theorem execTelemetryClear_mask {K : Parts} (kA : K.regs) (kC : K.resp) (m : Master) (mask : Fin 8) (s : State) {s' : State} (hr :
    execTelemetryClear m mask s = .next s') :
    s'.mask K = s.mask K := by
  unfold execTelemetryClear at hr
  injection hr with hr; subst hr; simp only [↓apply_ite (State.mask K), ite_self, ↓foldl_mask, implies_true, ↓(answer_mask kC), ↓(busError_mask kC), ↓(telClear_mask kA)]

theorem cnvImposed_mask {K : Parts} (kA : K.regs) (kF : K.fab) (kJ : K.pwm) (kK : K.cnv) (kP : K.act) (mode : Nat) (code : Nat) (cls :
    Nat) (s : State) :
    (cnvImposed mode code cls s).mask K = s.mask K := by
  simp only [cnvImposed, ↓apply_ite (State.mask K), ite_self, ↓foldl_mask, implies_true, ↓(set_mask kA), ↓(chGoto_mask kA kF), ↓(chStop_mask kA kF kJ kK kP), ↓(cnvAsh_mask kA kF)]

theorem psetAsh_mask {K : Parts} (kA : K.regs) (kF : K.fab) (p : Nat) (code : Nat) (cls : Nat) (s : State) :
    (psetAsh p code cls s).mask K = s.mask K := by
  simp only [psetAsh, ↓apply_ite (State.mask K), ite_self, ↓foldl_mask, implies_true, ↓(ashPush_mask kA kF)]; (repeat' split) <;> first | (simp only [↓apply_ite (State.mask K), ite_self, ↓foldl_mask, implies_true, ↓(ashPush_mask kA kF)]; done) | (simp only [↓apply_ite (State.mask K), ite_self, ↓foldl_mask, implies_true, ↓(ashPush_mask kA kF)]; (repeat' split) <;> first | (simp only [↓apply_ite (State.mask K), ite_self, ↓foldl_mask, implies_true, ↓(ashPush_mask kA kF)]; done) | rfl | grind [ashPush_mask]) | rfl | grind [ashPush_mask]

theorem showAbove_mask {K : Parts} (kA : K.regs) (p : Nat) (s : State) :
    (showAbove p s).mask K = s.mask K := by
  simp only [showAbove, ↓apply_ite (State.mask K), ite_self, ↓foldl_mask, implies_true, ↓(setB_mask kA)]

theorem enterState_mask {K : Parts} (kA : K.regs) (kD : K.sys) (kF : K.fab) (kJ : K.pwm) (kK : K.cnv) (kM : K.kln) (kP : K.act) (p : Nat)
    (st : Nat) (s : State) :
    (enterState p st s).mask K = s.mask K := by
  simp only [enterState, ↓apply_ite (State.mask K), ite_self, ↓foldl_mask, implies_true, ↓(set_mask kA), ↓(cnvTripSet_mask kA kD kF kJ kK kM kP), ↓(enforceLegs_mask kA kJ kP)]

theorem setOffWith_mask {K : Parts} (kA : K.regs) (kD : K.sys) (kF : K.fab) (kJ : K.pwm) (kK : K.cnv) (kM : K.kln) (kP : K.act) (p : Nat)
    (code : Nat) (s : State) :
    (setOffWith p code s).mask K = s.mask K := by
  simp only [setOffWith, ↓apply_ite (State.mask K), ite_self, ↓foldl_mask, implies_true, ↓(set_mask kA), ↓(setLeg_mask kJ), ↓(disarm_mask kA kJ), ↓(enterState_mask kA kD kF kJ kK kM kP), ↓(issueFor_mask kD kM), ↓(psetAsh_mask kA kF), ↓(showOffReq_mask kA)]

theorem ascWith_mask {K : Parts} (kA : K.regs) (kD : K.sys) (kF : K.fab) (kJ : K.pwm) (kK : K.cnv) (kM : K.kln) (kP : K.act) (p : Nat)
    (top : Bool) (code : Nat) (s : State) :
    (ascWith p top code s).mask K = s.mask K := by
  simp only [ascWith, ↓apply_ite (State.mask K), ite_self, ↓foldl_mask, implies_true, ↓(set_mask kA), ↓(disarm_mask kA kJ), ↓(enterState_mask kA kD kF kJ kK kM kP), ↓(issueFor_mask kD kM), ↓(psetAsh_mask kA kF)]

theorem trigger_mask {K : Parts} (kA : K.regs) (kD : K.sys) (kF : K.fab) (kJ : K.pwm) (kK : K.cnv) (kM : K.kln) (kP : K.act) (p : Nat) (f
    : List Nat → Finding) (s : State) :
    (trigger p f s).mask K = s.mask K := by
  simp only [trigger, ↓apply_ite (State.mask K), ite_self, ↓foldl_mask, implies_true, ↓(setPset_mask kJ), ↓(enterState_mask kA kD kF kJ kK kM kP), ↓(setOffWith_mask kA kD kF kJ kK kM kP)]; (repeat' split) <;> first | (simp only [↓apply_ite (State.mask K), ite_self, ↓foldl_mask, implies_true, ↓(setPset_mask kJ), ↓(enterState_mask kA kD kF kJ kK kM kP), ↓(setOffWith_mask kA kD kF kJ kK kM kP)]; done) | (simp only [↓apply_ite (State.mask K), ite_self, ↓foldl_mask, implies_true, ↓(setPset_mask kJ), ↓(enterState_mask kA kD kF kJ kK kM kP), ↓(setOffWith_mask kA kD kF kJ kK kM kP)]; (repeat' split) <;> first | (simp only [↓apply_ite (State.mask K), ite_self, ↓foldl_mask, implies_true, ↓(setPset_mask kJ), ↓(enterState_mask kA kD kF kJ kK kM kP), ↓(setOffWith_mask kA kD kF kJ kK kM kP)]; done) | rfl | grind [setPset_mask, enterState_mask, setOffWith_mask]) | rfl | grind [setPset_mask, enterState_mask, setOffWith_mask]

theorem setLost_mask {K : Parts} (kA : K.regs) (kF : K.fab) (p : Nat) (s : State) :
    (setLost p s).mask K = s.mask K := by
  simp only [setLost, ↓apply_ite (State.mask K), ite_self, ↓foldl_mask, implies_true, ↓(bump_mask kA), ↓(set_mask kA), ↓(raise_mask kA kF)]

theorem execFaultMapDecision_mask {K : Parts} (kA : K.regs) (kD : K.sys) (kF : K.fab) (kJ : K.pwm) (kK : K.cnv) (kM : K.kln) (kP : K.act)
    (p : Fin 16) (s : State) {s' : State} (hr : execFaultMapDecision p s = .next s') :
    s'.mask K = s.mask K := by
  unfold execFaultMapDecision at hr
  injection hr with hr; subst hr; simp only [↓apply_ite (State.mask K), ite_self, ↓foldl_mask, implies_true, ↓(set_mask kA), ↓(setB_mask kA), ↓(ascWith_mask kA kD kF kJ kK kM kP), ↓(raise_mask kA kF), ↓(setLost_mask kA kF), ↓(setOffWith_mask kA kD kF kJ kK kM kP)]; (repeat' split) <;> first | (simp only [↓apply_ite (State.mask K), ite_self, ↓foldl_mask, implies_true, ↓(set_mask kA), ↓(setB_mask kA), ↓(ascWith_mask kA kD kF kJ kK kM kP), ↓(raise_mask kA kF), ↓(setLost_mask kA kF), ↓(setOffWith_mask kA kD kF kJ kK kM kP)]; done) | (simp only [↓apply_ite (State.mask K), ite_self, ↓foldl_mask, implies_true, ↓(set_mask kA), ↓(setB_mask kA), ↓(ascWith_mask kA kD kF kJ kK kM kP), ↓(raise_mask kA kF), ↓(setLost_mask kA kF), ↓(setOffWith_mask kA kD kF kJ kK kM kP)]; (repeat' split) <;> first | (simp only [↓apply_ite (State.mask K), ite_self, ↓foldl_mask, implies_true, ↓(set_mask kA), ↓(setB_mask kA), ↓(ascWith_mask kA kD kF kJ kK kM kP), ↓(raise_mask kA kF), ↓(setLost_mask kA kF), ↓(setOffWith_mask kA kD kF kJ kK kM kP)]; done) | rfl | grind [set_mask, setB_mask, ascWith_mask, raise_mask, setLost_mask, setOffWith_mask]) | rfl | grind [set_mask, setB_mask, ascWith_mask, raise_mask, setLost_mask, setOffWith_mask]

theorem execAscEntryTimeout_mask {K : Parts} (kA : K.regs) (kD : K.sys) (kF : K.fab) (kJ : K.pwm) (kK : K.cnv) (kM : K.kln) (kP : K.act)
    (p : Fin 16) (s : State) {s' : State} (hr : execAscEntryTimeout p s = .next s') :
    s'.mask K = s.mask K := by
  unfold execAscEntryTimeout at hr
  injection hr with hr; subst hr; (repeat' split) <;> first | (simp only [↓apply_ite (State.mask K), ite_self, ↓foldl_mask, implies_true, ↓(setOffWith_mask kA kD kF kJ kK kM kP)]; done) | (simp only [↓apply_ite (State.mask K), ite_self, ↓foldl_mask, implies_true, ↓(setOffWith_mask kA kD kF kJ kK kM kP)]; (repeat' split) <;> first | (simp only [↓apply_ite (State.mask K), ite_self, ↓foldl_mask, implies_true, ↓(setOffWith_mask kA kD kF kJ kK kM kP)]; done) | rfl | grind [setOffWith_mask]) | rfl | grind [setOffWith_mask]

theorem imposeTrip_mask {K : Parts} (kA : K.regs) (kD : K.sys) (kF : K.fab) (kJ : K.pwm) (kK : K.cnv) (kM : K.kln) (kP : K.act) (code :
    Nat) (cls : Nat) (p : Nat) (s : State) :
    (imposeTrip code cls p s).mask K = s.mask K := by
  simp only [imposeTrip, ↓apply_ite (State.mask K), ite_self, ↓foldl_mask, implies_true, ↓(set_mask kA), ↓(setPset_mask kJ), ↓(disarm_mask kA kJ), ↓(enterState_mask kA kD kF kJ kK kM kP), ↓(psetAsh_mask kA kF)]

theorem imposeOff_mask {K : Parts} (kA : K.regs) (kD : K.sys) (kF : K.fab) (kJ : K.pwm) (kK : K.cnv) (kM : K.kln) (kP : K.act) (code :
    Nat) (cls : Nat) (p : Nat) (s : State) :
    (imposeOff code cls p s).mask K = s.mask K := by
  simp only [imposeOff, ↓apply_ite (State.mask K), ite_self, ↓foldl_mask, implies_true, ↓(set_mask kA), ↓(disarm_mask kA kJ), ↓(enterState_mask kA kD kF kJ kK kM kP), ↓(psetAsh_mask kA kF)]

theorem safeReaction_mask {K : Parts} (kA : K.regs) (kD : K.sys) (kF : K.fab) (kJ : K.pwm) (kK : K.cnv) (kM : K.kln) (kP : K.act) (code :
    Nat) (cls : Nat) (s : State) :
    (safeReaction code cls s).mask K = s.mask K := by
  simp only [safeReaction, ↓apply_ite (State.mask K), ite_self, ↓foldl_mask, implies_true, ↓(imposeOff_mask kA kD kF kJ kK kM kP), ↓(imposeTrip_mask kA kD kF kJ kK kM kP)]

theorem refused_mask {K : Parts} (kA : K.regs) (kF : K.fab) (k : Nat) (s : State) :
    (refused k s).mask K = s.mask K := by
  simp only [refused, ↓apply_ite (State.mask K), ite_self, ↓foldl_mask, implies_true, ↓(bump_mask kA), ↓(raise_mask kA kF)]

theorem refusalRun_mask {K : Parts} (kA : K.regs) (kD : K.sys) (kF : K.fab) (kJ : K.pwm) (kK : K.cnv) (kM : K.kln) (kP : K.act) (k : Nat)
    (off : Bool) (s : State) :
    (refusalRun k off s).mask K = s.mask K := by
  simp only [refusalRun, ↓apply_ite (State.mask K), ite_self, ↓foldl_mask, implies_true, ↓(setSw_mask kJ), ↓(trigger_mask kA kD kF kJ kK kM kP)]

theorem pulseDrop_mask {K : Parts} (kA : K.regs) (l : Nat) (s : State) :
    (pulseDrop l s).mask K = s.mask K := by
  simp only [pulseDrop, ↓apply_ite (State.mask K), ite_self, ↓foldl_mask, implies_true, ↓(bump_mask kA)]

theorem execSwitchEdgeCommand_mask {K : Parts} (kA : K.regs) (kJ : K.pwm) (kP : K.act) (leg : Fin 32) (toTop : Bool) (width : Nat) (s :
    State) {s' : State} (hr : execSwitchEdgeCommand leg toTop width s = .next s') :
    s'.mask K = s.mask K := by
  unfold execSwitchEdgeCommand at hr
  injection hr with hr; subst hr; simp only [↓apply_ite (State.mask K), ite_self, ↓foldl_mask, implies_true, ↓(setLeg_mask kJ), ↓(setSw_mask kJ), ↓(pulseDrop_mask kA), ↓(switchOff_mask kA kJ kP), ↓(tryOn_mask kA kJ kP)]

theorem execDeadTimeExpiry_mask {K : Parts} (kA : K.regs) (kJ : K.pwm) (kP : K.act) (sw : Fin 64) (s : State) {s' : State} (hr :
    execDeadTimeExpiry sw s = .next s') :
    s'.mask K = s.mask K := by
  unfold execDeadTimeExpiry at hr
  injection hr with hr; subst hr; simp only [↓apply_ite (State.mask K), ite_self, ↓foldl_mask, implies_true, ↓(setSw_mask kJ), ↓(tryOn_mask kA kJ kP)]

theorem execGfbChange_mask {K : Parts} (kA : K.regs) (kD : K.sys) (kF : K.fab) (kJ : K.pwm) (kK : K.cnv) (kM : K.kln) (kP : K.act) (sw :
    Fin 64) (on : Bool) (delay : Nat) (s : State) {s' : State} (hr : execGfbChange sw on delay s = .next s') :
    s'.mask K = s.mask K := by
  unfold execGfbChange at hr
  injection hr with hr; subst hr; simp only [↓apply_ite (State.mask K), ite_self, ↓foldl_mask, implies_true, ↓(bump_mask kA), ↓(set_mask kA), ↓(setB_mask kA), ↓(setSw_mask kJ), ↓(trigger_mask kA kD kF kJ kK kM kP), ↓(tryOn_mask kA kJ kP)]

theorem execTurnOffFbWinExpiry_mask {K : Parts} (kA : K.regs) (kD : K.sys) (kF : K.fab) (kJ : K.pwm) (kK : K.cnv) (kM : K.kln) (kP :
    K.act) (sw : Fin 64) (s : State) {s' : State} (hr : execTurnOffFbWinExpiry sw s = .next s') :
    s'.mask K = s.mask K := by
  unfold execTurnOffFbWinExpiry at hr
  injection hr with hr; subst hr; simp only [↓apply_ite (State.mask K), ite_self, ↓foldl_mask, implies_true, ↓(setSw_mask kJ), ↓(refusalRun_mask kA kD kF kJ kK kM kP), ↓(refused_mask kA kF)]

theorem execTurnOnFbWinExpiry_mask {K : Parts} (kA : K.regs) (kD : K.sys) (kF : K.fab) (kJ : K.pwm) (kK : K.cnv) (kM : K.kln) (kP :
    K.act) (sw : Fin 64) (s : State) {s' : State} (hr : execTurnOnFbWinExpiry sw s = .next s') :
    s'.mask K = s.mask K := by
  unfold execTurnOnFbWinExpiry at hr
  injection hr with hr; subst hr; simp only [↓apply_ite (State.mask K), ite_self, ↓foldl_mask, implies_true, ↓(setSw_mask kJ), ↓(refusalRun_mask kA kD kF kJ kK kM kP), ↓(refused_mask kA kF), ↓(switchOff_mask kA kJ kP)]

theorem execArmSet_mask {K : Parts} (kA : K.regs) (kC : K.resp) (m : Master) (leg : Fin 32) (s : State) {s' : State} (hr : execArmSet m
    leg s = .next s') :
    s'.mask K = s.mask K := by
  unfold execArmSet at hr
  injection hr with hr; subst hr; simp only [↓apply_ite (State.mask K), ite_self, ↓foldl_mask, implies_true, ↓(answer_mask kC), ↓(set_mask kA), ↓(busError_mask kC)]

theorem execGenFall_mask {K : Parts} (kA : K.regs) (kF : K.fab) (kJ : K.pwm) (kP : K.act) (g : Fin 4) (s : State) {s' : State} (hr :
    execGenFall g s = .next s') :
    s'.mask K = s.mask K := by
  unfold execGenFall at hr
  injection hr with hr; subst hr; simp only [↓apply_ite (State.mask K), ite_self, ↓foldl_mask, implies_true, mask_pwm kJ, ↓(disarm_mask kA kJ), ↓(enforceLegs_mask kA kJ kP), ↓(raise_mask kA kF)]

theorem execGenLowFeedbackFault_mask {K : Parts} (kD : K.sys) (kM : K.kln) (sw : Fin 64) (s : State) {s' : State} (hr :
    execGenLowFeedbackFault sw s = .next s') :
    s'.mask K = s.mask K := by
  unfold execGenLowFeedbackFault at hr
  injection hr with hr; subst hr; simp only [↓apply_ite (State.mask K), ite_self, ↓foldl_mask, implies_true, ↓(issueFor_mask kD kM)]

theorem place_mask {K : Parts} (kB : K.mem) (kF : K.fab) (key : Nat) (data : List Byte) (s : State) :
    (place key data s).mask K = s.mask K := by
  simp only [place, ↓apply_ite (State.mask K), ite_self, ↓foldl_mask, implies_true, mask_fab kF, ↓(setBytes_mask kB)]

theorem cycleLimit_mask {K : Parts} (kA : K.regs) (kB : K.mem) (kF : K.fab) (kJ : K.pwm) (kK : K.cnv) (kP : K.act) (p : Nat) (s : State) :
    (cycleLimit p s).mask K = s.mask K := by
  simp only [cycleLimit, ↓apply_ite (State.mask K), ite_self, ↓foldl_mask, implies_true, ↓(setLeg_mask kJ), ↓(enforceLeg_mask kA kJ kP), ↓(markLimited_mask kK), ↓(place_mask kB kF)]

theorem compAct_mask {K : Parts} (kA : K.regs) (kB : K.mem) (kD : K.sys) (kF : K.fab) (kJ : K.pwm) (kK : K.cnv) (kM : K.kln) (kP : K.act)
    (c : Nat) (above : Bool) (s : State) :
    (compAct c above s).mask K = s.mask K := by
  simp only [compAct, ↓apply_ite (State.mask K), ite_self, ↓foldl_mask, implies_true, ↓(set_mask kA), ↓(cnvComparator_mask kA kD kF kJ kK kM kP), ↓(cycleLimit_mask kA kB kF kJ kK kP), ↓(raise_mask kA kF), ↓(trigger_mask kA kD kF kJ kK kM kP)]; (repeat' split) <;> first | (simp only [↓apply_ite (State.mask K), ite_self, ↓foldl_mask, implies_true, ↓(set_mask kA), ↓(cnvComparator_mask kA kD kF kJ kK kM kP), ↓(cycleLimit_mask kA kB kF kJ kK kP), ↓(raise_mask kA kF), ↓(trigger_mask kA kD kF kJ kK kM kP)]; done) | (simp only [↓apply_ite (State.mask K), ite_self, ↓foldl_mask, implies_true, ↓(set_mask kA), ↓(cnvComparator_mask kA kD kF kJ kK kM kP), ↓(cycleLimit_mask kA kB kF kJ kK kP), ↓(raise_mask kA kF), ↓(trigger_mask kA kD kF kJ kK kM kP)]; (repeat' split) <;> first | (simp only [↓apply_ite (State.mask K), ite_self, ↓foldl_mask, implies_true, ↓(set_mask kA), ↓(cnvComparator_mask kA kD kF kJ kK kM kP), ↓(cycleLimit_mask kA kB kF kJ kK kP), ↓(raise_mask kA kF), ↓(trigger_mask kA kD kF kJ kK kM kP)]; done) | rfl | grind [set_mask, cnvComparator_mask, cycleLimit_mask, raise_mask, trigger_mask]) | rfl | grind [set_mask, cnvComparator_mask, cycleLimit_mask, raise_mask, trigger_mask]

theorem execHardTrip_mask {K : Parts} (kA : K.regs) (kD : K.sys) (kF : K.fab) (kJ : K.pwm) (kK : K.cnv) (kM : K.kln) (kP : K.act) (ch :
    Fin 48) (above : Bool) (s : State) {s' : State} (hr : execHardTrip ch above s = .next s') :
    s'.mask K = s.mask K := by
  unfold execHardTrip at hr
  injection hr with hr; subst hr; simp only [↓apply_ite (State.mask K), ite_self, ↓foldl_mask, implies_true, ↓(set_mask kA), ↓(raise_mask kA kF), ↓(trigger_mask kA kD kF kJ kK kM kP)]

theorem execGfltAssert_mask {K : Parts} (kA : K.regs) (kD : K.sys) (kF : K.fab) (kJ : K.pwm) (kK : K.cnv) (kM : K.kln) (kP : K.act) (i :
    Fin 16) (on : Bool) (s : State) {s' : State} (hr : execGfltAssert i on s = .next s') :
    s'.mask K = s.mask K := by
  unfold execGfltAssert at hr
  injection hr with hr; subst hr; simp only [↓apply_ite (State.mask K), ite_self, ↓foldl_mask, implies_true, ↓(set_mask kA), ↓(raise_mask kA kF), ↓(trigger_mask kA kD kF kJ kK kM kP)]

theorem showLock_mask {K : Parts} (kA : K.regs) (kF : K.fab) (m : Nat) (b : Bool) (s : State) :
    (showLock m b s).mask K = s.mask K := by
  simp only [showLock, ↓apply_ite (State.mask K), ite_self, ↓foldl_mask, implies_true, ↓(setB_mask kA), ↓(raise_mask kA kF)]

theorem reacqStart_mask {K : Parts} (kA : K.regs) (p : Nat) (s : State) :
    (reacqStart p s).mask K = s.mask K := by
  simp only [reacqStart, ↓apply_ite (State.mask K), ite_self, ↓foldl_mask, implies_true, ↓(set_mask kA)]

theorem lossOff_mask {K : Parts} (kA : K.regs) (kJ : K.pwm) (kP : K.act) (p : Nat) (on : Bool) (s : State) :
    (lossOff p on s).mask K = s.mask K := by
  simp only [lossOff, ↓apply_ite (State.mask K), ite_self, ↓foldl_mask, implies_true, ↓(setLeg_mask kJ), ↓(enforceLeg_mask kA kJ kP), ↓(showOffReq_mask kA)]

theorem lossAsc_mask {K : Parts} (kA : K.regs) (kD : K.sys) (kF : K.fab) (kJ : K.pwm) (kK : K.cnv) (kM : K.kln) (kP : K.act) (p : Nat) (s
    : State) :
    (lossAsc p s).mask K = s.mask K := by
  simp only [lossAsc, ↓apply_ite (State.mask K), ite_self, ↓foldl_mask, implies_true, ↓(set_mask kA), ↓(ascWith_mask kA kD kF kJ kK kM kP), ↓(raise_mask kA kF)]

theorem coastSet_mask {K : Parts} (kA : K.regs) (kD : K.sys) (kF : K.fab) (kJ : K.pwm) (kL : K.fly) (kM : K.kln) (kP : K.act) (p : Nat)
    (s : State) :
    (coastSet p s).mask K = s.mask K := by
  simp only [coastSet, ↓apply_ite (State.mask K), ite_self, ↓foldl_mask, implies_true, mask_fly kL, ↓(set_mask kA), ↓(issueFor_mask kD kM), ↓(lossOff_mask kA kJ kP), ↓(psetAsh_mask kA kF), ↓(raise_mask kA kF), ↓(reacqStart_mask kA), ↓(showLock_mask kA kF)]

theorem lossCoast_mask {K : Parts} (kA : K.regs) (kD : K.sys) (kF : K.fab) (kJ : K.pwm) (kL : K.fly) (kM : K.kln) (kP : K.act) (p : Nat) (s : State) :
    (lossCoast p s).mask K = s.mask K := by
  simp only [lossCoast, ↓apply_ite (State.mask K), ite_self, ↓foldl_mask, implies_true, ↓(coastSet_mask kA kD kF kJ kL kM kP)]

theorem lossReact_mask {K : Parts} (kA : K.regs) (kD : K.sys) (kF : K.fab) (kJ : K.pwm) (kK : K.cnv) (kL : K.fly) (kM : K.kln) (kP :
    K.act) (m : Nat) (s : State) :
    (lossReact m s).mask K = s.mask K := by
  simp only [lossReact, ↓apply_ite (State.mask K), ite_self, ↓foldl_mask, implies_true, ↓(lossAsc_mask kA kD kF kJ kK kM kP), ↓(lossCoast_mask kA kD kF kJ kL kM kP), ↓(reacqStart_mask kA)]

theorem lossLocked_mask {K : Parts} (kA : K.regs) (kJ : K.pwm) (kP : K.act) (m : Nat) (s : State) :
    (lossLocked m s).mask K = s.mask K := by
  simp only [lossLocked, ↓apply_ite (State.mask K), ite_self, ↓foldl_mask, implies_true, ↓(set_mask kA), ↓(lossOff_mask kA kJ kP)]

theorem lossUnlocked_mask {K : Parts} (kA : K.regs) (kD : K.sys) (kF : K.fab) (kJ : K.pwm) (kL : K.fly) (kM : K.kln) (kP : K.act) (m :
    Nat) (s : State) :
    (lossUnlocked m s).mask K = s.mask K := by
  simp only [lossUnlocked, ↓apply_ite (State.mask K), ite_self, ↓foldl_mask, implies_true, ↓(lossCoast_mask kA kD kF kJ kL kM kP), ↓(coastSet_mask kA kD kF kJ kL kM kP)]

theorem lossCleared_mask {K : Parts} (kA : K.regs) (m : Nat) (s : State) :
    (lossCleared m s).mask K = s.mask K := by
  simp only [lossCleared, ↓apply_ite (State.mask K), ite_self, ↓foldl_mask, implies_true, ↓(set_mask kA)]

theorem aboveChanged_mask {K : Parts} (kA : K.regs) (kD : K.sys) (kF : K.fab) (kJ : K.pwm) (kK : K.cnv) (kM : K.kln) (kP : K.act) (p :
    Nat) (s : State) :
    (aboveChanged p s).mask K = s.mask K := by
  simp only [aboveChanged, ↓apply_ite (State.mask K), ite_self, ↓foldl_mask, implies_true, ↓(lossAsc_mask kA kD kF kJ kK kM kP), ↓(showAbove_mask kA)]

theorem ucgWrite_mask {K : Parts} (kA : K.regs) (kD : K.sys) (kF : K.fab) (kJ : K.pwm) (kK : K.cnv) (kM : K.kln) (kP : K.act) (p : Nat)
    (value : Word) (s : State) :
    (ucgWrite p value s).mask K = s.mask K := by
  simp only [ucgWrite, ↓apply_ite (State.mask K), ite_self, ↓foldl_mask, implies_true, ↓(set_mask kA), ↓(aboveChanged_mask kA kD kF kJ kK kM kP)]

theorem execUcgSpeedWrite_mask {K : Parts} (kA : K.regs) (kC : K.resp) (kD : K.sys) (kF : K.fab) (kJ : K.pwm) (kK : K.cnv) (kM : K.kln)
    (kP : K.act) (m : Master) (p : Fin 16) (value : Word) (s : State) {s' : State} (hr : execUcgSpeedWrite m p value s = .next s') :
    s'.mask K = s.mask K := by
  unfold execUcgSpeedWrite at hr
  injection hr with hr; subst hr; simp only [↓apply_ite (State.mask K), ite_self, ↓foldl_mask, implies_true, ↓(answer_mask kC), ↓(busError_mask kC), ↓(ucgWrite_mask kA kD kF kJ kK kM kP)]

theorem execUcgStaleTimeout_mask {K : Parts} (kA : K.regs) (kD : K.sys) (kF : K.fab) (kM : K.kln) (p : Fin 16) (s : State) {s' : State}
    (hr : execUcgStaleTimeout p s = .next s') :
    s'.mask K = s.mask K := by
  unfold execUcgStaleTimeout at hr
  injection hr with hr; subst hr; simp only [↓apply_ite (State.mask K), ite_self, ↓foldl_mask, implies_true, ↓(set_mask kA), ↓(issueFor_mask kD kM), ↓(raise_mask kA kF)]

theorem ascRequest_mask {K : Parts} (kJ : K.pwm) (m : Master) (p : Nat) (code : Nat) (s : State) :
    (ascRequest m p code s).mask K = s.mask K := by
  simp only [ascRequest, ↓apply_ite (State.mask K), ite_self, ↓foldl_mask, implies_true, ↓(setPset_mask kJ)]

theorem execPsetAscTop_mask {K : Parts} (kC : K.resp) (kJ : K.pwm) (m : Master) (p : Fin 16) (s : State) {s' : State} (hr :
    execPsetAscTop m p s = .next s') :
    s'.mask K = s.mask K := by
  unfold execPsetAscTop at hr
  injection hr with hr; subst hr; simp only [↓apply_ite (State.mask K), ite_self, ↓foldl_mask, implies_true, ↓(answer_mask kC), ↓(ascRequest_mask kJ), ↓(busError_mask kC)]

theorem execPsetAscBot_mask {K : Parts} (kC : K.resp) (kJ : K.pwm) (m : Master) (p : Fin 16) (s : State) {s' : State} (hr :
    execPsetAscBot m p s = .next s') :
    s'.mask K = s.mask K := by
  unfold execPsetAscBot at hr
  injection hr with hr; subst hr; simp only [↓apply_ite (State.mask K), ite_self, ↓foldl_mask, implies_true, ↓(answer_mask kC), ↓(ascRequest_mask kJ), ↓(busError_mask kC)]

theorem syncLost_mask {K : Parts} (kA : K.regs) (kD : K.sys) (kF : K.fab) (kM : K.kln) (g : Nat) (s : State) :
    (syncLost g s).mask K = s.mask K := by
  simp only [syncLost, ↓apply_ite (State.mask K), ite_self, ↓foldl_mask, implies_true, ↓(set_mask kA), ↓(issue_mask kD kM), ↓(raise_mask kA kF)]

theorem drainEnd_mask {K : Parts} (kA : K.regs) (kD : K.sys) (kF : K.fab) (kJ : K.pwm) (kM : K.kln) (kP : K.act) (g : Nat) (s : State) :
    (drainEnd g s).mask K = s.mask K := by
  simp only [drainEnd, ↓apply_ite (State.mask K), ite_self, ↓foldl_mask, implies_true, ↓(set_mask kA), ↓(setCg_mask kJ), ↓(enforceLegs_mask kA kJ kP), ↓(raise_mask kA kF), ↓(syncLost_mask kA kD kF kM)]

theorem generatorDisable_mask {K : Parts} (kA : K.regs) (g : Nat) (s : State) :
    (generatorDisable g s).mask K = s.mask K := by
  simp only [generatorDisable, ↓apply_ite (State.mask K), ite_self, ↓foldl_mask, implies_true, ↓(set_mask kA)]

theorem execGeneratorDisable_mask {K : Parts} (kA : K.regs) (kC : K.resp) (m : Master) (cg : Fin 12) (s : State) {s' : State} (hr :
    execGeneratorDisable m cg s = .next s') :
    s'.mask K = s.mask K := by
  unfold execGeneratorDisable at hr
  injection hr with hr; subst hr; simp only [↓apply_ite (State.mask K), ite_self, ↓foldl_mask, implies_true, ↓(answer_mask kC), ↓(busError_mask kC), ↓(generatorDisable_mask kA)]

theorem loadDt_mask {K : Parts} (kA : K.regs) (kJ : K.pwm) (l : Nat) (s : State) :
    (loadDt l s).mask K = s.mask K := by
  simp only [loadDt, ↓apply_ite (State.mask K), ite_self, ↓foldl_mask, implies_true, ↓(setB_mask kA), ↓(setLeg_mask kJ)]

theorem loadHalf_mask {K : Parts} (kA : K.regs) (kF : K.fab) (kJ : K.pwm) (g : Nat) (peak : Bool) (l : Nat) (s : State) :
    (loadHalf g peak l s).mask K = s.mask K := by
  simp only [loadHalf, ↓apply_ite (State.mask K), ite_self, ↓foldl_mask, implies_true, ↓(set_mask kA), ↓(setLeg_mask kJ), ↓(raise_mask kA kF)]

theorem bootRefresh_mask {K : Parts} (kA : K.regs) (kJ : K.pwm) (kP : K.act) (l : Nat) (s : State) :
    (bootRefresh l s).mask K = s.mask K := by
  simp only [bootRefresh, ↓apply_ite (State.mask K), ite_self, ↓foldl_mask, implies_true, ↓(set_mask kA), ↓(setLeg_mask kJ), ↓(setSw_mask kJ), ↓(edgeIssued_mask kJ), ↓(switchOff_mask kA kJ kP)]; (repeat' split) <;> first | (simp only [↓apply_ite (State.mask K), ite_self, ↓foldl_mask, implies_true, ↓(set_mask kA), ↓(setLeg_mask kJ), ↓(setSw_mask kJ), ↓(edgeIssued_mask kJ), ↓(switchOff_mask kA kJ kP)]; done) | (simp only [↓apply_ite (State.mask K), ite_self, ↓foldl_mask, implies_true, ↓(set_mask kA), ↓(setLeg_mask kJ), ↓(setSw_mask kJ), ↓(edgeIssued_mask kJ), ↓(switchOff_mask kA kJ kP)]; (repeat' split) <;> first | (simp only [↓apply_ite (State.mask K), ite_self, ↓foldl_mask, implies_true, ↓(set_mask kA), ↓(setLeg_mask kJ), ↓(setSw_mask kJ), ↓(edgeIssued_mask kJ), ↓(switchOff_mask kA kJ kP)]; done) | rfl | grind [set_mask, setLeg_mask, setSw_mask, edgeIssued_mask, switchOff_mask]) | rfl | grind [set_mask, setLeg_mask, setSw_mask, edgeIssued_mask, switchOff_mask]

theorem legCarrier_mask {K : Parts} (kA : K.regs) (kF : K.fab) (kJ : K.pwm) (kP : K.act) (g : Nat) (peak : Bool) (l : Nat) (s : State) :
    (legCarrier g peak l s).mask K = s.mask K := by
  simp only [legCarrier, ↓apply_ite (State.mask K), ite_self, ↓foldl_mask, implies_true, ↓(setLeg_mask kJ), ↓(bootRefresh_mask kA kJ kP), ↓(enforceLeg_mask kA kJ kP), ↓(loadDt_mask kA kJ), ↓(loadHalf_mask kA kF kJ), ↓(showOffReq_mask kA)]

theorem startRequests_mask {K : Parts} (kA : K.regs) (kD : K.sys) (kF : K.fab) (kJ : K.pwm) (kK : K.cnv) (kM : K.kln) (kP : K.act) (g :
    Nat) (s : State) :
    (startRequests g s).mask K = s.mask K := by
  simp only [startRequests, ↓apply_ite (State.mask K), ite_self, ↓foldl_mask, implies_true, ↓(setPset_mask kJ), ↓(enterState_mask kA kD kF kJ kK kM kP)]

theorem execCarrierEvent_mask {K : Parts} (kA : K.regs) (kD : K.sys) (kF : K.fab) (kJ : K.pwm) (kK : K.cnv) (kM : K.kln) (kP : K.act) (cg
    : Fin 12) (s : State) {s' : State} (hr : execCarrierEvent cg s = .next s') :
    s'.mask K = s.mask K := by
  unfold execCarrierEvent at hr
  injection hr with hr; subst hr; simp only [↓apply_ite (State.mask K), ite_self, ↓foldl_mask, implies_true, ↓(bump_mask kA), ↓(set_mask kA), ↓(setCg_mask kJ), ↓(cnvPeriod_mask kA kD kF kJ kK kM kP), ↓(drainEnd_mask kA kD kF kJ kM kP), ↓(legCarrier_mask kA kF kJ kP), ↓(raise_mask kA kF), ↓(startRequests_mask kA kD kF kJ kK kM kP)]

theorem bootTrip_mask {K : Parts} (kA : K.regs) (kF : K.fab) (kJ : K.pwm) (kP : K.act) (l : Nat) (s : State) :
    (bootTrip l s).1.mask K = s.mask K := by
  simp only [bootTrip, ↓apply_ite (State.mask K), ite_self, ↓foldl_mask, implies_true, ↓apply_ite Prod.snd, ↓apply_ite Prod.fst, ↓(set_mask kA), ↓(setLeg_mask kJ), ↓(disarm_mask kA kJ), ↓(enforceLeg_mask kA kJ kP), ↓(raise_mask kA kF)]

theorem setLoader_mask {K : Parts} (kD : K.sys) (s : State) (x : LoaderSt) :
    (State.setLoader s x).mask K = s.mask K := by
  simp only [State.setLoader, ↓apply_ite (State.mask K), ite_self, ↓foldl_mask, implies_true, mask_sys kD]

theorem setJournal_mask {K : Parts} (kS : K.tnd) (s : State) (j : Journal) :
    (State.setJournal s j).mask K = s.mask K := by
  simp only [State.setJournal, ↓apply_ite (State.mask K), ite_self, ↓foldl_mask, implies_true, mask_tnd kS]

theorem setUpd_mask {K : Parts} (kT : K.upd) (s : State) (x : UpdSt) :
    (State.setUpd s x).mask K = s.mask K := by
  simp only [State.setUpd, ↓apply_ite (State.mask K), ite_self, ↓foldl_mask, implies_true, mask_upd kT]

theorem setVerified_mask {K : Parts} (kD : K.sys) (type : Nat) (inst : Nat) (data : List Byte) (s : State) :
    (setVerified type inst data s).mask K = s.mask K := by
  simp only [setVerified, ↓apply_ite (State.mask K), ite_self, ↓foldl_mask, implies_true, ↓(setLoader_mask kD)]

theorem setStep_mask {K : Parts} (kS : K.tnd) (s : State) (k : Nat) (v : Nat) :
    (State.setStep s k v).mask K = s.mask K := by
  simp only [State.setStep, ↓apply_ite (State.mask K), ite_self, ↓foldl_mask, implies_true, ↓(setJournal_mask kS)]

theorem tndEnd_mask {K : Parts} (kS : K.tnd) (result : Nat) (out : List Byte) (s : State) :
    (tndEnd result out s).mask K = s.mask K := by
  simp only [tndEnd, ↓apply_ite (State.mask K), ite_self, ↓foldl_mask, implies_true, mask_tnd kS]; (repeat' split) <;> first | (simp only [↓apply_ite (State.mask K), ite_self, ↓foldl_mask, implies_true, mask_tnd kS]; done) | (simp only [↓apply_ite (State.mask K), ite_self, ↓foldl_mask, implies_true, mask_tnd kS]; (repeat' split) <;> first | (simp only [↓apply_ite (State.mask K), ite_self, ↓foldl_mask, implies_true, mask_tnd kS]; done) | rfl | grind [mask_tnd]) | rfl | grind [mask_tnd]

theorem updShowState_mask {K : Parts} (kA : K.regs) (s : State) :
    (updShowState s).mask K = s.mask K := by
  simp only [updShowState, ↓apply_ite (State.mask K), ite_self, ↓foldl_mask, implies_true, ↓(set_mask kA)]

theorem updReason_mask {K : Parts} (kA : K.regs) (kS : K.tnd) (r : Nat) (s : State) :
    (updReason r s).mask K = s.mask K := by
  simp only [updReason, ↓apply_ite (State.mask K), ite_self, ↓foldl_mask, implies_true, ↓(set_mask kA), ↓(setJournal_mask kS)]

theorem replaceComp_mask {K : Parts} (kD : K.sys) (c : CompInfo) (s : State) :
    (replaceComp c s).mask K = s.mask K := by
  simp only [replaceComp, ↓apply_ite (State.mask K), ite_self, ↓foldl_mask, implies_true, ↓(setLoader_mask kD)]

theorem stepActive_mask {K : Parts} (kA : K.regs) (kD : K.sys) (kF : K.fab) (kS : K.tnd) (kT : K.upd) (k : Nat) (s : State) :
    (stepActive k s).mask K = s.mask K := by
  simp only [stepActive, ↓apply_ite (State.mask K), ite_self, ↓foldl_mask, implies_true, ↓(set_mask kA), ↓(setJournal_mask kS), ↓(setStep_mask kS), ↓(setUpd_mask kT), ↓(raise_mask kA kF), ↓(replaceComp_mask kD), ↓(setVerified_mask kD), ↓(tndEnd_mask kS), ↓(updShowState_mask kA)]; (repeat' split) <;> first | (simp only [↓apply_ite (State.mask K), ite_self, ↓foldl_mask, implies_true, ↓(set_mask kA), ↓(setJournal_mask kS), ↓(setStep_mask kS), ↓(setUpd_mask kT), ↓(raise_mask kA kF), ↓(replaceComp_mask kD), ↓(setVerified_mask kD), ↓(tndEnd_mask kS), ↓(updShowState_mask kA)]; done) | (simp only [↓apply_ite (State.mask K), ite_self, ↓foldl_mask, implies_true, ↓(set_mask kA), ↓(setJournal_mask kS), ↓(setStep_mask kS), ↓(setUpd_mask kT), ↓(raise_mask kA kF), ↓(replaceComp_mask kD), ↓(setVerified_mask kD), ↓(tndEnd_mask kS), ↓(updShowState_mask kA)]; (repeat' split) <;> first | (simp only [↓apply_ite (State.mask K), ite_self, ↓foldl_mask, implies_true, ↓(set_mask kA), ↓(setJournal_mask kS), ↓(setStep_mask kS), ↓(setUpd_mask kT), ↓(raise_mask kA kF), ↓(replaceComp_mask kD), ↓(setVerified_mask kD), ↓(tndEnd_mask kS), ↓(updShowState_mask kA)]; done) | rfl | grind [set_mask, setJournal_mask, setStep_mask, setUpd_mask, raise_mask, replaceComp_mask, setVerified_mask, tndEnd_mask, updShowState_mask]) | rfl | grind [set_mask, setJournal_mask, setStep_mask, setUpd_mask, raise_mask, replaceComp_mask, setVerified_mask, tndEnd_mask, updShowState_mask]

theorem activateFail_mask {K : Parts} (kA : K.regs) (kD : K.sys) (kM : K.kln) (kS : K.tnd) (reason : Nat) (s : State) :
    (activateFail reason s).mask K = s.mask K := by
  simp only [activateFail, ↓apply_ite (State.mask K), ite_self, ↓foldl_mask, implies_true, ↓(issue_mask kD kM), ↓(tndEnd_mask kS), ↓(updReason_mask kA kS), ↓(updShowState_mask kA)]

theorem updWhorlSwitched_mask {K : Parts} (kA : K.regs) (kD : K.sys) (kF : K.fab) (kS : K.tnd) (kT : K.upd) (a : Nat) (b : Nat) (s :
    State) :
    (updWhorlSwitched a b s).mask K = s.mask K := by
  simp only [updWhorlSwitched, ↓apply_ite (State.mask K), ite_self, ↓foldl_mask, implies_true, ↓(setUpd_mask kT), ↓(setVerified_mask kD), ↓(stepActive_mask kA kD kF kS kT)]; (repeat' split) <;> first | (simp only [↓apply_ite (State.mask K), ite_self, ↓foldl_mask, implies_true, ↓(setUpd_mask kT), ↓(setVerified_mask kD), ↓(stepActive_mask kA kD kF kS kT)]; done) | (simp only [↓apply_ite (State.mask K), ite_self, ↓foldl_mask, implies_true, ↓(setUpd_mask kT), ↓(setVerified_mask kD), ↓(stepActive_mask kA kD kF kS kT)]; (repeat' split) <;> first | (simp only [↓apply_ite (State.mask K), ite_self, ↓foldl_mask, implies_true, ↓(setUpd_mask kT), ↓(setVerified_mask kD), ↓(stepActive_mask kA kD kF kS kT)]; done) | rfl | grind [setUpd_mask, setVerified_mask, stepActive_mask]) | rfl | grind [setUpd_mask, setVerified_mask, stepActive_mask]

theorem updWhorlAbort_mask {K : Parts} (kA : K.regs) (kD : K.sys) (kM : K.kln) (kS : K.tnd) (kT : K.upd) (w : Nat) (s : State) :
    (updWhorlAbort w s).mask K = s.mask K := by
  simp only [updWhorlAbort, ↓apply_ite (State.mask K), ite_self, ↓foldl_mask, implies_true, ↓(setUpd_mask kT), ↓(activateFail_mask kA kD kM kS)]

theorem revertBegin_mask {K : Parts} (kA : K.regs) (kS : K.tnd) (kT : K.upd) (reason : Nat) (s : State) :
    (revertBegin reason s).mask K = s.mask K := by
  simp only [revertBegin, ↓apply_ite (State.mask K), ite_self, ↓foldl_mask, implies_true, ↓(setUpd_mask kT), ↓(updReason_mask kA kS), ↓(updShowState_mask kA)]

theorem updFault_mask {K : Parts} (kA : K.regs) (kS : K.tnd) (kT : K.upd) (type : Nat) (inst : Nat) (s : State) :
    (updFault type inst s).mask K = s.mask K := by
  simp only [updFault, ↓apply_ite (State.mask K), ite_self, ↓foldl_mask, implies_true, ↓(revertBegin_mask kA kS kT)]; (repeat' split) <;> first | (simp only [↓apply_ite (State.mask K), ite_self, ↓foldl_mask, implies_true, ↓(revertBegin_mask kA kS kT)]; done) | (simp only [↓apply_ite (State.mask K), ite_self, ↓foldl_mask, implies_true, ↓(revertBegin_mask kA kS kT)]; (repeat' split) <;> first | (simp only [↓apply_ite (State.mask K), ite_self, ↓foldl_mask, implies_true, ↓(revertBegin_mask kA kS kT)]; done) | rfl | grind [revertBegin_mask]) | rfl | grind [revertBegin_mask]

theorem updArm_mask {K : Parts} (kA : K.regs) (p : Nat) (s : State) :
    (updArm p s).mask K = s.mask K := by
  simp only [updArm, ↓apply_ite (State.mask K), ite_self, ↓foldl_mask, implies_true, ↓(set_mask kA)]

theorem sampleList_mask {K : Parts} (kA : K.regs) (kF : K.fab) (kV : K.xcp) (i : Nat) (s : State) :
    (sampleList i s).mask K = s.mask K := by
  simp only [sampleList, ↓apply_ite (State.mask K), ite_self, ↓foldl_mask, implies_true, mask_xcp kV, ↓(bump_mask kA), ↓(set_mask kA), ↓(raise_mask kA kF)]; (repeat' split) <;> first | (simp only [↓apply_ite (State.mask K), ite_self, ↓foldl_mask, implies_true, mask_xcp kV, ↓(bump_mask kA), ↓(set_mask kA), ↓(raise_mask kA kF)]; done) | (simp only [↓apply_ite (State.mask K), ite_self, ↓foldl_mask, implies_true, mask_xcp kV, ↓(bump_mask kA), ↓(set_mask kA), ↓(raise_mask kA kF)]; (repeat' split) <;> first | (simp only [↓apply_ite (State.mask K), ite_self, ↓foldl_mask, implies_true, mask_xcp kV, ↓(bump_mask kA), ↓(set_mask kA), ↓(raise_mask kA kF)]; done) | rfl | grind [bump_mask, set_mask, raise_mask, mask_xcp]) | rfl | grind [bump_mask, set_mask, raise_mask, mask_xcp]

theorem daqTrigger_mask {K : Parts} (kA : K.regs) (kF : K.fab) (kV : K.xcp) (c : Nat) (s : State) :
    (daqTrigger c s).mask K = s.mask K := by
  unfold daqTrigger
  split
  · rfl
  · exact foldl_mask _ (fun t i => by (repeat' split) <;> first | rfl | exact sampleList_mask kA kF kV _ _) _ _

theorem daqPhase_mask {K : Parts} (kA : K.regs) (kF : K.fab) (kV : K.xcp) (w : Nat) (l : Nat) (s : State) :
    (daqPhase w l s).mask K = s.mask K := by
  simp only [daqPhase, ↓apply_ite (State.mask K), ite_self, ↓foldl_mask, implies_true, ↓(daqTrigger_mask kA kF kV)]

theorem traceAdd_mask {K : Parts} (kA : K.regs) (kF : K.fab) (m : List Byte) (s : State) :
    (traceAdd m s).mask K = s.mask K := by
  simp only [traceAdd, ↓apply_ite (State.mask K), ite_self, ↓foldl_mask, implies_true, mask_fab kF, ↓(bump_mask kA), ↓(set_mask kA), ↓(raise_mask kA kF)]

theorem traceEvent_mask {K : Parts} (kA : K.regs) (kF : K.fab) (n : Nat) (s : State) :
    (traceEvent n s).mask K = s.mask K := by
  simp only [traceEvent, ↓apply_ite (State.mask K), ite_self, ↓foldl_mask, implies_true, mask_fab kF, ↓(set_mask kA), ↓(traceAdd_mask kA kF)]

theorem tracePhase_mask {K : Parts} (kA : K.regs) (kF : K.fab) (w : Nat) (l : Nat) (s : State) :
    (tracePhase w l s).mask K = s.mask K := by
  simp only [tracePhase, ↓apply_ite (State.mask K), ite_self, ↓foldl_mask, implies_true, ↓(traceAdd_mask kA kF)]

theorem traceTick_mask {K : Parts} (kF : K.fab) (s : State) :
    (traceTick s).mask K = s.mask K := by
  simp only [traceTick, ↓apply_ite (State.mask K), ite_self, ↓foldl_mask, implies_true, mask_fab kF]

theorem putPort_mask {K : Parts} (kA : K.regs) (w : Nat) (p : Nat) (v : Option Word) (s : State) :
    (putPort w p v s).mask K = s.mask K := by
  simp only [putPort, ↓apply_ite (State.mask K), ite_self, ↓foldl_mask, implies_true, ↓(setBit_mask kA), ↓(wr_mask kA)]; (repeat' split) <;> first | (simp only [↓apply_ite (State.mask K), ite_self, ↓foldl_mask, implies_true, ↓(setBit_mask kA), ↓(wr_mask kA)]; done) | (simp only [↓apply_ite (State.mask K), ite_self, ↓foldl_mask, implies_true, ↓(setBit_mask kA), ↓(wr_mask kA)]; (repeat' split) <;> first | (simp only [↓apply_ite (State.mask K), ite_self, ↓foldl_mask, implies_true, ↓(setBit_mask kA), ↓(wr_mask kA)]; done) | rfl | grind [setBit_mask, wr_mask]) | rfl | grind [setBit_mask, wr_mask]

end Sys2Proof.Machine
end

