-- ==== Sys2Proof/Laws/Mask2.lean ====
section
/-! SUPPORT. What each operation and meaning leaves unchanged: it changes no part of the state but those its lemma blanks. -/

set_option maxRecDepth 4000
set_option linter.all false
namespace Sys2Proof.Machine
open Sys2Proof

theorem putPorts_mask {K : Parts} (kA : K.regs) (w : Nat) (p : Nat) (v : Option Word) (s : State) :
    (putPorts w p v s).mask K = s.mask K := by
  simp only [putPorts, ↓apply_ite (State.mask K), ite_self, ↓foldl_mask, implies_true, ↓(putPort_mask kA)]

theorem deliver_mask {K : Parts} (kA : K.regs) (w : Nat) (p : Nat) (v : Option Word) (s : State) :
    (deliver w p v s).mask K = s.mask K := by
  simp only [deliver, ↓apply_ite (State.mask K), ite_self, ↓foldl_mask, implies_true, ↓(putPorts_mask kA)]

theorem noteCurrents_mask {K : Parts} (kJ : K.pwm) (w : Nat) (l : Nat) (s : State) :
    (noteCurrents w l s).mask K = s.mask K := by
  simp only [noteCurrents, ↓apply_ite (State.mask K), ite_self, ↓foldl_mask, implies_true, ↓(setPset_mask kJ)]

theorem copyPorts_mask {K : Parts} (kA : K.regs) (kD : K.sys) (kF : K.fab) (kJ : K.pwm) (kK : K.cnv) (kM : K.kln) (kP : K.act) (w : Nat)
    (l : Nat) (vals : Nat → Word) (safe : Bool) (late : List (Fin 12)) (s : State) :
    (copyPorts w l vals safe late s).mask K = s.mask K := by
  simp only [copyPorts, ↓apply_ite (State.mask K), ite_self, ↓foldl_mask, implies_true, ↓(wr_mask kA), ↓(cnvCopy_mask kA kD kF kJ kK kM kP), ↓(noteCurrents_mask kJ), ↓(putPorts_mask kA), ↓(writeCmp_mask kA kJ)]

theorem safeOutput_mask {K : Parts} (kA : K.regs) (kD : K.sys) (kF : K.fab) (kJ : K.pwm) (kK : K.cnv) (kM : K.kln) (kP : K.act) (w : Nat)
    (l : Nat) (late : List (Fin 12)) (s : State) :
    (safeOutput w l late s).mask K = s.mask K := by
  simp only [safeOutput, ↓apply_ite (State.mask K), ite_self, ↓foldl_mask, implies_true, ↓(setLeg_mask kJ), ↓(chStop_mask kA kF kJ kK kP), ↓(cnvAsh_mask kA kF), ↓(copyPorts_mask kA kD kF kJ kK kM kP), ↓(issueFor_mask kD kM), ↓(set_mask kA)]; (repeat' split) <;> first | (simp only [↓apply_ite (State.mask K), ite_self, ↓foldl_mask, implies_true, ↓(setLeg_mask kJ), ↓(chStop_mask kA kF kJ kK kP), ↓(cnvAsh_mask kA kF), ↓(copyPorts_mask kA kD kF kJ kK kM kP), ↓(issueFor_mask kD kM), ↓(set_mask kA)]; done) | (simp only [↓apply_ite (State.mask K), ite_self, ↓foldl_mask, implies_true, ↓(setLeg_mask kJ), ↓(chStop_mask kA kF kJ kK kP), ↓(cnvAsh_mask kA kF), ↓(copyPorts_mask kA kD kF kJ kK kM kP), ↓(issueFor_mask kD kM), ↓(set_mask kA)]; (repeat' split) <;> first | (simp only [↓apply_ite (State.mask K), ite_self, ↓foldl_mask, implies_true, ↓(setLeg_mask kJ), ↓(chStop_mask kA kF kJ kK kP), ↓(cnvAsh_mask kA kF), ↓(copyPorts_mask kA kD kF kJ kK kM kP), ↓(issueFor_mask kD kM), ↓(set_mask kA)]; done) | rfl | grind [setLeg_mask, chStop_mask, cnvAsh_mask, copyPorts_mask, issueFor_mask, set_mask]) | rfl | grind [setLeg_mask, chStop_mask, cnvAsh_mask, copyPorts_mask, issueFor_mask, set_mask]

theorem clearOff_mask {K : Parts} (kA : K.regs) (kJ : K.pwm) (w : Nat) (l : Nat) (s : State) :
    (clearOff w l s).mask K = s.mask K := by
  simp only [clearOff, ↓apply_ite (State.mask K), ite_self, ↓foldl_mask, implies_true, ↓(setLeg_mask kJ), ↓(showOffReq_mask kA)]

theorem handoverAbort_mask {K : Parts} (kA : K.regs) (kD : K.sys) (kF : K.fab) (kI : K.whl) (kM : K.kln) (kS : K.tnd) (kT : K.upd)
    (reason : Nat) (s : State) :
    (handoverAbort reason s).mask K = s.mask K := by
  simp only [handoverAbort, ↓apply_ite (State.mask K), ite_self, ↓foldl_mask, implies_true, mask_whl kI, ↓(set_mask kA), ↓(setWhorl_mask kI), ↓(issue_mask kD kM), ↓(raise_mask kA kF), ↓(updWhorlAbort_mask kA kD kM kS kT)]; (repeat' split) <;> first | (simp only [↓apply_ite (State.mask K), ite_self, ↓foldl_mask, implies_true, mask_whl kI, ↓(set_mask kA), ↓(setWhorl_mask kI), ↓(issue_mask kD kM), ↓(raise_mask kA kF), ↓(updWhorlAbort_mask kA kD kM kS kT)]; done) | (simp only [↓apply_ite (State.mask K), ite_self, ↓foldl_mask, implies_true, mask_whl kI, ↓(set_mask kA), ↓(setWhorl_mask kI), ↓(issue_mask kD kM), ↓(raise_mask kA kF), ↓(updWhorlAbort_mask kA kD kM kS kT)]; (repeat' split) <;> first | (simp only [↓apply_ite (State.mask K), ite_self, ↓foldl_mask, implies_true, mask_whl kI, ↓(set_mask kA), ↓(setWhorl_mask kI), ↓(issue_mask kD kM), ↓(raise_mask kA kF), ↓(updWhorlAbort_mask kA kD kM kS kT)]; done) | rfl | grind [set_mask, setWhorl_mask, issue_mask, raise_mask, updWhorlAbort_mask, mask_whl]) | rfl | grind [set_mask, setWhorl_mask, issue_mask, raise_mask, updWhorlAbort_mask, mask_whl]

theorem handoverFault_mask {K : Parts} (kA : K.regs) (kD : K.sys) (kF : K.fab) (kI : K.whl) (kM : K.kln) (kS : K.tnd) (kT : K.upd) (w :
    Nat) (s : State) :
    (handoverFault w s).mask K = s.mask K := by
  simp only [handoverFault, ↓apply_ite (State.mask K), ite_self, ↓foldl_mask, implies_true, ↓(handoverAbort_mask kA kD kF kI kM kS kT)]; (repeat' split) <;> first | (simp only [↓apply_ite (State.mask K), ite_self, ↓foldl_mask, implies_true, ↓(handoverAbort_mask kA kD kF kI kM kS kT)]; done) | (simp only [↓apply_ite (State.mask K), ite_self, ↓foldl_mask, implies_true, ↓(handoverAbort_mask kA kD kF kI kM kS kT)]; (repeat' split) <;> first | (simp only [↓apply_ite (State.mask K), ite_self, ↓foldl_mask, implies_true, ↓(handoverAbort_mask kA kD kF kI kM kS kT)]; done) | rfl | grind [handoverAbort_mask]) | rfl | grind [handoverAbort_mask]

theorem stopLoop_mask {K : Parts} (kA : K.regs) (kD : K.sys) (kF : K.fab) (kI : K.whl) (kJ : K.pwm) (kK : K.cnv) (kM : K.kln) (kP :
    K.act) (kS : K.tnd) (kT : K.upd) (w : Nat) (l : Nat) (code : Nat) (s : State) :
    (stopLoop w l code s).mask K = s.mask K := by
  simp only [stopLoop, ↓apply_ite (State.mask K), ite_self, ↓foldl_mask, implies_true, ↓(set_mask kA), ↓(setLoopSt_mask kI), ↓(handoverFault_mask kA kD kF kI kM kS kT), ↓(issueFor_mask kD kM), ↓(raise_mask kA kF), ↓(safeOutput_mask kA kD kF kJ kK kM kP)]

theorem standbyLost_mask {K : Parts} (kA : K.regs) (s : State) :
    (standbyLost s).mask K = s.mask K := by
  simp only [standbyLost, ↓apply_ite (State.mask K), ite_self, ↓foldl_mask, implies_true, ↓(set_mask kA)]

theorem copyRegs_mask {K : Parts} (kA : K.regs) (src : Nat) (dst : Nat) (n : Nat) (s : State) :
    (copyRegs src dst n s).mask K = s.mask K := by
  simp only [copyRegs, ↓apply_ite (State.mask K), ite_self, ↓foldl_mask, implies_true, ↓(wr_mask kA)]

theorem switchTo_mask {K : Parts} (kA : K.regs) (kD : K.sys) (kI : K.whl) (a : Nat) (b : Nat) (s : State) :
    (switchTo a b s).mask K = s.mask K := by
  simp only [switchTo, ↓apply_ite (State.mask K), ite_self, ↓foldl_mask, implies_true, mask_sys kD, ↓(set_mask kA), ↓(setWhorl_mask kI), ↓(copyRegs_mask kA), ↓(setVerified_mask kD)]

theorem failWhorl_mask {K : Parts} (kA : K.regs) (kD : K.sys) (kF : K.fab) (kI : K.whl) (kJ : K.pwm) (kK : K.cnv) (kM : K.kln) (kP :
    K.act) (kS : K.tnd) (kT : K.upd) (w : Nat) (code : Nat) (s : State) :
    (failWhorl w code s).mask K = s.mask K := by
  simp only [failWhorl, ↓apply_ite (State.mask K), ite_self, ↓foldl_mask, implies_true, ↓(bump_mask kA), ↓(set_mask kA), ↓(setLoopSt_mask kI), ↓(setWhorl_mask kI), ↓(handoverFault_mask kA kD kF kI kM kS kT), ↓(issueFor_mask kD kM), ↓(raise_mask kA kF), ↓(safeOutput_mask kA kD kF kJ kK kM kP), ↓(standbyLost_mask kA), ↓(switchTo_mask kA kD kI), ↓(updFault_mask kA kS kT)]; (repeat' split) <;> first | (simp only [↓apply_ite (State.mask K), ite_self, ↓foldl_mask, implies_true, ↓(bump_mask kA), ↓(set_mask kA), ↓(setLoopSt_mask kI), ↓(setWhorl_mask kI), ↓(handoverFault_mask kA kD kF kI kM kS kT), ↓(issueFor_mask kD kM), ↓(raise_mask kA kF), ↓(safeOutput_mask kA kD kF kJ kK kM kP), ↓(standbyLost_mask kA), ↓(switchTo_mask kA kD kI), ↓(updFault_mask kA kS kT)]; done) | (simp only [↓apply_ite (State.mask K), ite_self, ↓foldl_mask, implies_true, ↓(bump_mask kA), ↓(set_mask kA), ↓(setLoopSt_mask kI), ↓(setWhorl_mask kI), ↓(handoverFault_mask kA kD kF kI kM kS kT), ↓(issueFor_mask kD kM), ↓(raise_mask kA kF), ↓(safeOutput_mask kA kD kF kJ kK kM kP), ↓(standbyLost_mask kA), ↓(switchTo_mask kA kD kI), ↓(updFault_mask kA kS kT)]; (repeat' split) <;> first | (simp only [↓apply_ite (State.mask K), ite_self, ↓foldl_mask, implies_true, ↓(bump_mask kA), ↓(set_mask kA), ↓(setLoopSt_mask kI), ↓(setWhorl_mask kI), ↓(handoverFault_mask kA kD kF kI kM kS kT), ↓(issueFor_mask kD kM), ↓(raise_mask kA kF), ↓(safeOutput_mask kA kD kF kJ kK kM kP), ↓(standbyLost_mask kA), ↓(switchTo_mask kA kD kI), ↓(updFault_mask kA kS kT)]; done) | rfl | grind [bump_mask, set_mask, setLoopSt_mask, setWhorl_mask, handoverFault_mask, issueFor_mask, raise_mask, safeOutput_mask, standbyLost_mask, switchTo_mask, updFault_mask]) | rfl | grind [bump_mask, set_mask, setLoopSt_mask, setWhorl_mask, handoverFault_mask, issueFor_mask, raise_mask, safeOutput_mask, standbyLost_mask, switchTo_mask, updFault_mask]

theorem bumpLoop_mask {K : Parts} (kA : K.regs) (f : Fld) (w : Nat) (l : Nat) (s : State) :
    (bumpLoop f w l s).mask K = s.mask K := by
  simp only [bumpLoop, ↓apply_ite (State.mask K), ite_self, ↓foldl_mask, implies_true, ↓(bump_mask kA)]

theorem clearFresh_mask {K : Parts} (kA : K.regs) (o : Nat) (v : Nat) (l : Nat) (s : State) :
    (clearFresh o v l s).mask K = s.mask K := by
  simp only [clearFresh, ↓apply_ite (State.mask K), ite_self, ↓foldl_mask, implies_true, ↓(setBit_mask kA)]

theorem beginExec_mask {K : Parts} (kA : K.regs) (kI : K.whl) (timed : Bool) (w : Nat) (l : Nat) (s : State) :
    (beginExec timed w l s).mask K = s.mask K := by
  simp only [beginExec, ↓apply_ite (State.mask K), ite_self, ↓foldl_mask, implies_true, ↓(set_mask kA), ↓(setLoopSt_mask kI), ↓(setWhorl_mask kI), ↓(clearFresh_mask kA), ↓(lockstep_mask)]

theorem startOrStale_mask {K : Parts} (kA : K.regs) (kD : K.sys) (kF : K.fab) (kI : K.whl) (kJ : K.pwm) (kK : K.cnv) (kM : K.kln) (kP :
    K.act) (kS : K.tnd) (kT : K.upd) (timed : Bool) (w : Nat) (l : Nat) (s : State) :
    (startOrStale timed w l s).mask K = s.mask K := by
  simp only [startOrStale, ↓apply_ite (State.mask K), ite_self, ↓foldl_mask, implies_true, ↓(set_mask kA), ↓(setLoopSt_mask kI), ↓(beginExec_mask kA kI), ↓(bumpLoop_mask kA), ↓(clearFresh_mask kA), ↓(raise_mask kA kF), ↓(safeOutput_mask kA kD kF kJ kK kM kP), ↓(stopLoop_mask kA kD kF kI kJ kK kM kP kS kT)]; (repeat' split) <;> first | (simp only [↓apply_ite (State.mask K), ite_self, ↓foldl_mask, implies_true, ↓(set_mask kA), ↓(setLoopSt_mask kI), ↓(beginExec_mask kA kI), ↓(bumpLoop_mask kA), ↓(clearFresh_mask kA), ↓(raise_mask kA kF), ↓(safeOutput_mask kA kD kF kJ kK kM kP), ↓(stopLoop_mask kA kD kF kI kJ kK kM kP kS kT)]; done) | (simp only [↓apply_ite (State.mask K), ite_self, ↓foldl_mask, implies_true, ↓(set_mask kA), ↓(setLoopSt_mask kI), ↓(beginExec_mask kA kI), ↓(bumpLoop_mask kA), ↓(clearFresh_mask kA), ↓(raise_mask kA kF), ↓(safeOutput_mask kA kD kF kJ kK kM kP), ↓(stopLoop_mask kA kD kF kI kJ kK kM kP kS kT)]; (repeat' split) <;> first | (simp only [↓apply_ite (State.mask K), ite_self, ↓foldl_mask, implies_true, ↓(set_mask kA), ↓(setLoopSt_mask kI), ↓(beginExec_mask kA kI), ↓(bumpLoop_mask kA), ↓(clearFresh_mask kA), ↓(raise_mask kA kF), ↓(safeOutput_mask kA kD kF kJ kK kM kP), ↓(stopLoop_mask kA kD kF kI kJ kK kM kP kS kT)]; done) | rfl | grind [set_mask, setLoopSt_mask, beginExec_mask, bumpLoop_mask, clearFresh_mask, raise_mask, safeOutput_mask, stopLoop_mask]) | rfl | grind [set_mask, setLoopSt_mask, beginExec_mask, bumpLoop_mask, clearFresh_mask, raise_mask, safeOutput_mask, stopLoop_mask]

theorem copyInterrupted_mask {K : Parts} (kA : K.regs) (kD : K.sys) (kF : K.fab) (kI : K.whl) (kM : K.kln) (kS : K.tnd) (kT : K.upd) (w :
    Nat) (s : State) :
    (copyInterrupted w s).mask K = s.mask K := by
  simp only [copyInterrupted, ↓apply_ite (State.mask K), ite_self, ↓foldl_mask, implies_true, mask_whl kI, ↓(handoverAbort_mask kA kD kF kI kM kS kT)]; (repeat' split) <;> first | (simp only [↓apply_ite (State.mask K), ite_self, ↓foldl_mask, implies_true, mask_whl kI, ↓(handoverAbort_mask kA kD kF kI kM kS kT)]; done) | (simp only [↓apply_ite (State.mask K), ite_self, ↓foldl_mask, implies_true, mask_whl kI, ↓(handoverAbort_mask kA kD kF kI kM kS kT)]; (repeat' split) <;> first | (simp only [↓apply_ite (State.mask K), ite_self, ↓foldl_mask, implies_true, mask_whl kI, ↓(handoverAbort_mask kA kD kF kI kM kS kT)]; done) | rfl | grind [handoverAbort_mask, mask_whl]) | rfl | grind [handoverAbort_mask, mask_whl]

theorem execTimedLoopStart_mask {K : Parts} (kA : K.regs) (kD : K.sys) (kF : K.fab) (kI : K.whl) (kJ : K.pwm) (kK : K.cnv) (kM : K.kln)
    (kP : K.act) (kS : K.tnd) (kT : K.upd) (w : Fin 8) (loop : Fin 8) (s : State) {s' : State} (hr : execTimedLoopStart w loop s = .next
      s') :
    s'.mask K = s.mask K := by
  unfold execTimedLoopStart at hr
  injection hr with hr; subst hr; simp only [↓apply_ite (State.mask K), ite_self, ↓foldl_mask, implies_true, ↓(set_mask kA), ↓(setLoopSt_mask kI), ↓(bumpLoop_mask kA), ↓(copyInterrupted_mask kA kD kF kI kM kS kT), ↓(startOrStale_mask kA kD kF kI kJ kK kM kP kS kT), ↓(stopLoop_mask kA kD kF kI kJ kK kM kP kS kT)]

theorem execBackgroundTrigger_mask {K : Parts} (kA : K.regs) (kD : K.sys) (kF : K.fab) (kI : K.whl) (kJ : K.pwm) (kK : K.cnv) (kM :
    K.kln) (kP : K.act) (kS : K.tnd) (kT : K.upd) (w : Fin 8) (loop : Fin 8) (s : State) {s' : State} (hr : execBackgroundTrigger w loop s = .next s') :
    s'.mask K = s.mask K := by
  unfold execBackgroundTrigger at hr
  injection hr with hr; subst hr; simp only [↓apply_ite (State.mask K), ite_self, ↓foldl_mask, implies_true, ↓(set_mask kA), ↓(setLoopSt_mask kI), ↓(bumpLoop_mask kA), ↓(stopLoop_mask kA kD kF kI kJ kK kM kP kS kT)]

theorem execBackgroundStart_mask {K : Parts} (kA : K.regs) (kD : K.sys) (kF : K.fab) (kI : K.whl) (kJ : K.pwm) (kK : K.cnv) (kM : K.kln)
    (kP : K.act) (kS : K.tnd) (kT : K.upd) (w : Fin 8) (loop : Fin 8) (s : State) {s' : State} (hr : execBackgroundStart w loop s = .next
      s') :
    s'.mask K = s.mask K := by
  unfold execBackgroundStart at hr
  injection hr with hr; subst hr; simp only [↓apply_ite (State.mask K), ite_self, ↓foldl_mask, implies_true, ↓(startOrStale_mask kA kD kF kI kJ kK kM kP kS kT)]

theorem settleExec_mask {K : Parts} (kA : K.regs) (kD : K.sys) (kF : K.fab) (kI : K.whl) (kJ : K.pwm) (kK : K.cnv) (kM : K.kln) (kP :
    K.act) (kS : K.tnd) (kT : K.upd) (w : Nat) (l : Nat) (e : ExecSt) (cut : Bool) (s : State) :
    (settleExec w l e cut s).mask K = s.mask K := by
  simp only [settleExec, ↓apply_ite (State.mask K), ite_self, ↓foldl_mask, implies_true, ↓(set_mask kA), ↓(setLoopSt_mask kI), ↓(failWhorl_mask kA kD kF kI kJ kK kM kP kS kT), ↓(stopLoop_mask kA kD kF kI kJ kK kM kP kS kT)]

theorem budgetEnd_mask {K : Parts} (kA : K.regs) (kD : K.sys) (kF : K.fab) (kI : K.whl) (kJ : K.pwm) (kK : K.cnv) (kM : K.kln) (kP :
    K.act) (kS : K.tnd) (kT : K.upd) (timed : Bool) (w : Nat) (l : Nat) (s : State) :
    (budgetEnd timed w l s).mask K = s.mask K := by
  simp only [budgetEnd, ↓apply_ite (State.mask K), ite_self, ↓foldl_mask, implies_true, ↓(setWhorl_mask kI), ↓(endIfPast_mask kA kF kI), ↓(lockstep_mask), ↓(orFlags_mask kA kF), ↓(settleExec_mask kA kD kF kI kJ kK kM kP kS kT)]

theorem outputPhase_mask {K : Parts} (kA : K.regs) (kD : K.sys) (kF : K.fab) (kI : K.whl) (kJ : K.pwm) (kK : K.cnv) (kM : K.kln) (kP :
    K.act) (kS : K.tnd) (kT : K.upd) (kV : K.xcp) (w : Nat) (l : Nat) (late : List (Fin 12)) (s : State) :
    (outputPhase w l late s).mask K = s.mask K := by
  simp only [outputPhase, ↓apply_ite (State.mask K), ite_self, ↓foldl_mask, implies_true, ↓(set_mask kA), ↓(setLoopSt_mask kI), ↓(clearOff_mask kA kJ), ↓(copyPorts_mask kA kD kF kJ kK kM kP), ↓(daqPhase_mask kA kF kV), ↓(raise_mask kA kF), ↓(safeOutput_mask kA kD kF kJ kK kM kP), ↓(stopLoop_mask kA kD kF kI kJ kK kM kP kS kT), ↓(tracePhase_mask kA kF)]; (repeat' split) <;> first | (simp only [↓apply_ite (State.mask K), ite_self, ↓foldl_mask, implies_true, ↓(set_mask kA), ↓(setLoopSt_mask kI), ↓(clearOff_mask kA kJ), ↓(copyPorts_mask kA kD kF kJ kK kM kP), ↓(daqPhase_mask kA kF kV), ↓(raise_mask kA kF), ↓(safeOutput_mask kA kD kF kJ kK kM kP), ↓(stopLoop_mask kA kD kF kI kJ kK kM kP kS kT), ↓(tracePhase_mask kA kF)]; done) | (simp only [↓apply_ite (State.mask K), ite_self, ↓foldl_mask, implies_true, ↓(set_mask kA), ↓(setLoopSt_mask kI), ↓(clearOff_mask kA kJ), ↓(copyPorts_mask kA kD kF kJ kK kM kP), ↓(daqPhase_mask kA kF kV), ↓(raise_mask kA kF), ↓(safeOutput_mask kA kD kF kJ kK kM kP), ↓(stopLoop_mask kA kD kF kI kJ kK kM kP kS kT), ↓(tracePhase_mask kA kF)]; (repeat' split) <;> first | (simp only [↓apply_ite (State.mask K), ite_self, ↓foldl_mask, implies_true, ↓(set_mask kA), ↓(setLoopSt_mask kI), ↓(clearOff_mask kA kJ), ↓(copyPorts_mask kA kD kF kJ kK kM kP), ↓(daqPhase_mask kA kF kV), ↓(raise_mask kA kF), ↓(safeOutput_mask kA kD kF kJ kK kM kP), ↓(stopLoop_mask kA kD kF kI kJ kK kM kP kS kT), ↓(tracePhase_mask kA kF)]; done) | rfl | grind [set_mask, setLoopSt_mask, clearOff_mask, copyPorts_mask, daqPhase_mask, raise_mask, safeOutput_mask, stopLoop_mask, tracePhase_mask]) | rfl | grind [set_mask, setLoopSt_mask, clearOff_mask, copyPorts_mask, daqPhase_mask, raise_mask, safeOutput_mask, stopLoop_mask, tracePhase_mask]

theorem shadowCompare_mask {K : Parts} (kA : K.regs) (kD : K.sys) (kF : K.fab) (kI : K.whl) (kM : K.kln) (w : Nat) (l : Nat) (s : State) :
    (shadowCompare w l s).mask K = s.mask K := by
  simp only [shadowCompare, ↓apply_ite (State.mask K), ite_self, ↓foldl_mask, implies_true, ↓(set_mask kA), ↓(setWhorl_mask kI), ↓(issueFor_mask kD kM), ↓(raise_mask kA kF)]; (repeat' split) <;> first | (simp only [↓apply_ite (State.mask K), ite_self, ↓foldl_mask, implies_true, ↓(set_mask kA), ↓(setWhorl_mask kI), ↓(issueFor_mask kD kM), ↓(raise_mask kA kF)]; done) | (simp only [↓apply_ite (State.mask K), ite_self, ↓foldl_mask, implies_true, ↓(set_mask kA), ↓(setWhorl_mask kI), ↓(issueFor_mask kD kM), ↓(raise_mask kA kF)]; (repeat' split) <;> first | (simp only [↓apply_ite (State.mask K), ite_self, ↓foldl_mask, implies_true, ↓(set_mask kA), ↓(setWhorl_mask kI), ↓(issueFor_mask kD kM), ↓(raise_mask kA kF)]; done) | rfl | grind [set_mask, setWhorl_mask, issueFor_mask, raise_mask]) | rfl | grind [set_mask, setWhorl_mask, issueFor_mask, raise_mask]

theorem execBudgetEnd_mask {K : Parts} (kA : K.regs) (kD : K.sys) (kF : K.fab) (kI : K.whl) (kJ : K.pwm) (kK : K.cnv) (kM : K.kln) (kP :
    K.act) (kS : K.tnd) (kT : K.upd) (kV : K.xcp) (w : Fin 8) (loop : Fin 8) (s : State) {s' : State} (hr : execBudgetEnd w loop s = .next s') :
    s'.mask K = s.mask K := by
  unfold execBudgetEnd at hr
  injection hr with hr; subst hr; simp only [↓apply_ite (State.mask K), ite_self, ↓foldl_mask, implies_true, ↓(budgetEnd_mask kA kD kF kI kJ kK kM kP kS kT), ↓(outputPhase_mask kA kD kF kI kJ kK kM kP kS kT kV)]

theorem execOutputPhaseCopy_mask {K : Parts} (kA : K.regs) (kD : K.sys) (kF : K.fab) (kI : K.whl) (kJ : K.pwm) (kK : K.cnv) (kM : K.kln)
    (kP : K.act) (kS : K.tnd) (kT : K.upd) (kV : K.xcp) (w : Fin 8) (loop : Fin 8) (late : List (Fin 12)) (s : State) {s' : State} (hr :
      execOutputPhaseCopy w loop late s = .next s') :
    s'.mask K = s.mask K := by
  unfold execOutputPhaseCopy at hr
  injection hr with hr; subst hr; simp only [↓apply_ite (State.mask K), ite_self, ↓foldl_mask, implies_true, ↓(outputPhase_mask kA kD kF kI kJ kK kM kP kS kT kV), ↓(shadowCompare_mask kA kD kF kI kM)]

theorem execBackgroundComplete_mask {K : Parts} (kA : K.regs) (kD : K.sys) (kF : K.fab) (kI : K.whl) (kJ : K.pwm) (kK : K.cnv) (kM :
    K.kln) (kP : K.act) (kS : K.tnd) (kT : K.upd) (kV : K.xcp) (w : Fin 8) (loop : Fin 8) (s : State) {s' : State} (hr : execBackgroundComplete w loop s = .next s') :
    s'.mask K = s.mask K := by
  unfold execBackgroundComplete at hr
  injection hr with hr; subst hr; simp only [↓apply_ite (State.mask K), ite_self, ↓foldl_mask, implies_true, ↓(budgetEnd_mask kA kD kF kI kJ kK kM kP kS kT), ↓(outputPhase_mask kA kD kF kI kJ kK kM kP kS kT kV), ↓(shadowCompare_mask kA kD kF kI kM)]

theorem loopEnable_mask {K : Parts} (kA : K.regs) (kI : K.whl) (w : Nat) (l : Nat) (atTrigger : Bool) (s : State) :
    (loopEnable w l atTrigger s).mask K = s.mask K := by
  simp only [loopEnable, ↓apply_ite (State.mask K), ite_self, ↓foldl_mask, implies_true, ↓(set_mask kA), ↓(setLoopSt_mask kI)]

theorem loopDisable_mask {K : Parts} (kA : K.regs) (kD : K.sys) (kF : K.fab) (kI : K.whl) (kJ : K.pwm) (kK : K.cnv) (kM : K.kln) (kP :
    K.act) (w : Nat) (l : Nat) (s : State) :
    (loopDisable w l s).mask K = s.mask K := by
  simp only [loopDisable, ↓apply_ite (State.mask K), ite_self, ↓foldl_mask, implies_true, ↓(set_mask kA), ↓(setLoopSt_mask kI), ↓(raise_mask kA kF), ↓(safeOutput_mask kA kD kF kJ kK kM kP)]

theorem execLoopEnable_mask {K : Parts} (kA : K.regs) (kC : K.resp) (kI : K.whl) (m : Master) (w : Fin 8) (loop : Fin 8) (atTrigger :
    Bool) (s : State) {s' : State} (hr : execLoopEnable m w loop atTrigger s = .next s') :
    s'.mask K = s.mask K := by
  unfold execLoopEnable at hr
  injection hr with hr; subst hr; simp only [↓apply_ite (State.mask K), ite_self, ↓foldl_mask, implies_true, ↓(answer_mask kC), ↓(busError_mask kC), ↓(loopEnable_mask kA kI)]

theorem execLoopDisable_mask {K : Parts} (kA : K.regs) (kC : K.resp) (kD : K.sys) (kF : K.fab) (kI : K.whl) (kJ : K.pwm) (kK : K.cnv) (kM
    : K.kln) (kP : K.act) (m : Master) (w : Fin 8) (loop : Fin 8) (s : State) {s' : State} (hr : execLoopDisable m w loop s = .next s') :
    s'.mask K = s.mask K := by
  unfold execLoopDisable at hr
  injection hr with hr; subst hr; simp only [↓apply_ite (State.mask K), ite_self, ↓foldl_mask, implies_true, ↓(answer_mask kC), ↓(busError_mask kC), ↓(loopDisable_mask kA kD kF kI kJ kK kM kP)]

theorem applyEntry_mask {K : Parts} (kA : K.regs) (kB : K.mem) (kF : K.fab) (w : Nat) (e : QEntry) (s : State) :
    (applyEntry w e s).mask K = s.mask K := by
  simp only [applyEntry, ↓apply_ite (State.mask K), ite_self, ↓foldl_mask, implies_true, ↓(store_mask kB), ↓(wr_mask kA), ↓(cleanWord_mask kF)]; (repeat' split) <;> first | (simp only [↓apply_ite (State.mask K), ite_self, ↓foldl_mask, implies_true, ↓(store_mask kB), ↓(wr_mask kA), ↓(cleanWord_mask kF)]; done) | (simp only [↓apply_ite (State.mask K), ite_self, ↓foldl_mask, implies_true, ↓(store_mask kB), ↓(wr_mask kA), ↓(cleanWord_mask kF)]; (repeat' split) <;> first | (simp only [↓apply_ite (State.mask K), ite_self, ↓foldl_mask, implies_true, ↓(store_mask kB), ↓(wr_mask kA), ↓(cleanWord_mask kF)]; done) | rfl | grind [store_mask, wr_mask, cleanWord_mask]) | rfl | grind [store_mask, wr_mask, cleanWord_mask]

theorem enqueue_mask {K : Parts} (kA : K.regs) (kC : K.resp) (kF : K.fab) (kI : K.whl) (w : Nat) (e : QEntry) (s : State) :
    (enqueue w e s).mask K = s.mask K := by
  simp only [enqueue, ↓apply_ite (State.mask K), ite_self, ↓foldl_mask, implies_true, ↓(answer_mask kC), ↓(bump_mask kA), ↓(set_mask kA), ↓(setWhorl_mask kI), ↓(busError_mask kC), ↓(raise_mask kA kF)]

theorem coefWrite_mask {K : Parts} (kA : K.regs) (kB : K.mem) (kC : K.resp) (kF : K.fab) (kI : K.whl) (m : Master) (w : Nat) (i : Nat) (v
    : Word) (s : State) :
    (coefWrite m w i v s).mask K = s.mask K := by
  simp only [coefWrite, ↓apply_ite (State.mask K), ite_self, ↓foldl_mask, implies_true, ↓(answer_mask kC), ↓(applyEntry_mask kA kB kF), ↓(busError_mask kC), ↓(enqueue_mask kA kC kF kI)]

theorem tblCfgWrite_mask {K : Parts} (kA : K.regs) (kB : K.mem) (kC : K.resp) (kF : K.fab) (kI : K.whl) (m : Master) (w : Nat) (t : Nat)
    (v : Word) (s : State) :
    (tblCfgWrite m w t v s).mask K = s.mask K := by
  simp only [tblCfgWrite, ↓apply_ite (State.mask K), ite_self, ↓foldl_mask, implies_true, ↓(answer_mask kC), ↓(applyEntry_mask kA kB kF), ↓(busError_mask kC), ↓(enqueue_mask kA kC kF kI)]

theorem execCoefQueueWrite_mask {K : Parts} (kA : K.regs) (kB : K.mem) (kC : K.resp) (kF : K.fab) (kI : K.whl) (m : Master) (w : Fin 8)
    (entry : CoefWrite) (s : State) {s' : State} (hr : execCoefQueueWrite m w entry s = .next s') :
    s'.mask K = s.mask K := by
  unfold execCoefQueueWrite at hr
  injection hr with hr; subst hr; (repeat' split) <;> first | (simp only [↓apply_ite (State.mask K), ite_self, ↓foldl_mask, implies_true, ↓(coefWrite_mask kA kB kC kF kI), ↓(tblCfgWrite_mask kA kB kC kF kI)]; done) | (simp only [↓apply_ite (State.mask K), ite_self, ↓foldl_mask, implies_true, ↓(coefWrite_mask kA kB kC kF kI), ↓(tblCfgWrite_mask kA kB kC kF kI)]; (repeat' split) <;> first | (simp only [↓apply_ite (State.mask K), ite_self, ↓foldl_mask, implies_true, ↓(coefWrite_mask kA kB kC kF kI), ↓(tblCfgWrite_mask kA kB kC kF kI)]; done) | rfl | grind [coefWrite_mask, tblCfgWrite_mask]) | rfl | grind [coefWrite_mask, tblCfgWrite_mask]

theorem execQueueBatchApply_mask {K : Parts} (kA : K.regs) (kB : K.mem) (kF : K.fab) (kI : K.whl) (w : Fin 8) (s : State) {s' : State}
    (hr : execQueueBatchApply w s = .next s') :
    s'.mask K = s.mask K := by
  unfold execQueueBatchApply at hr
  injection hr with hr; subst hr; simp only [↓apply_ite (State.mask K), ite_self, ↓foldl_mask, implies_true, ↓(set_mask kA), ↓(setWhorl_mask kI), ↓(applyEntry_mask kA kB kF)]

theorem execCqHoldSet_mask {K : Parts} (kA : K.regs) (kC : K.resp) (m : Master) (w : Fin 8) (s : State) {s' : State} (hr : execCqHoldSet
    m w s = .next s') :
    s'.mask K = s.mask K := by
  unfold execCqHoldSet at hr
  injection hr with hr; subst hr; simp only [↓apply_ite (State.mask K), ite_self, ↓foldl_mask, implies_true, ↓(answer_mask kC), ↓(set_mask kA), ↓(busError_mask kC)]

theorem execCqHoldClear_mask {K : Parts} (kA : K.regs) (kC : K.resp) (m : Master) (w : Fin 8) (s : State) {s' : State} (hr :
    execCqHoldClear m w s = .next s') :
    s'.mask K = s.mask K := by
  unfold execCqHoldClear at hr
  injection hr with hr; subst hr; simp only [↓apply_ite (State.mask K), ite_self, ↓foldl_mask, implies_true, ↓(answer_mask kC), ↓(set_mask kA), ↓(busError_mask kC)]

theorem cqFlush_mask {K : Parts} (kA : K.regs) (kD : K.sys) (kF : K.fab) (kI : K.whl) (kM : K.kln) (kS : K.tnd) (kT : K.upd) (w : Nat) (s
    : State) :
    (cqFlush w s).mask K = s.mask K := by
  simp only [cqFlush, ↓apply_ite (State.mask K), ite_self, ↓foldl_mask, implies_true, ↓(set_mask kA), ↓(setWhorl_mask kI), ↓(handoverAbort_mask kA kD kF kI kM kS kT)]; (repeat' split) <;> first | (simp only [↓apply_ite (State.mask K), ite_self, ↓foldl_mask, implies_true, ↓(set_mask kA), ↓(setWhorl_mask kI), ↓(handoverAbort_mask kA kD kF kI kM kS kT)]; done) | (simp only [↓apply_ite (State.mask K), ite_self, ↓foldl_mask, implies_true, ↓(set_mask kA), ↓(setWhorl_mask kI), ↓(handoverAbort_mask kA kD kF kI kM kS kT)]; (repeat' split) <;> first | (simp only [↓apply_ite (State.mask K), ite_self, ↓foldl_mask, implies_true, ↓(set_mask kA), ↓(setWhorl_mask kI), ↓(handoverAbort_mask kA kD kF kI kM kS kT)]; done) | rfl | grind [set_mask, setWhorl_mask, handoverAbort_mask]) | rfl | grind [set_mask, setWhorl_mask, handoverAbort_mask]

theorem execCqFlush_mask {K : Parts} (kA : K.regs) (kC : K.resp) (kD : K.sys) (kF : K.fab) (kI : K.whl) (kM : K.kln) (kS : K.tnd) (kT :
    K.upd) (m : Master) (w : Fin 8) (s : State) {s' : State} (hr : execCqFlush m w s = .next s') :
    s'.mask K = s.mask K := by
  unfold execCqFlush at hr
  injection hr with hr; subst hr; simp only [↓apply_ite (State.mask K), ite_self, ↓foldl_mask, implies_true, ↓(answer_mask kC), ↓(busError_mask kC), ↓(cqFlush_mask kA kD kF kI kM kS kT)]

theorem tableWrite_mask {K : Parts} (kB : K.mem) (kC : K.resp) (kF : K.fab) (m : Master) (w : Nat) (i : Nat) (v : Word) (s : State) :
    (tableWrite m w i v s).mask K = s.mask K := by
  simp only [tableWrite, ↓apply_ite (State.mask K), ite_self, ↓foldl_mask, implies_true, ↓(answer_mask kC), ↓(store_mask kB), ↓(busError_mask kC), ↓(cleanWord_mask kF)]

theorem execTableRegionWrite_mask {K : Parts} (kB : K.mem) (kC : K.resp) (kF : K.fab) (m : Master) (w : Fin 8) (word : Fin 114688) (value
    : Word) (s : State) {s' : State} (hr : execTableRegionWrite m w word value s = .next s') :
    s'.mask K = s.mask K := by
  unfold execTableRegionWrite at hr
  injection hr with hr; subst hr; simp only [↓apply_ite (State.mask K), ite_self, ↓foldl_mask, implies_true, ↓(tableWrite_mask kB kC kF)]

theorem whorlWrite_mask {K : Parts} (kA : K.regs) (kB : K.mem) (kC : K.resp) (kD : K.sys) (kF : K.fab) (kI : K.whl) (kM : K.kln) (m :
    Master) (w : Nat) (off : Nat) (size : Nat) (v : Nat) (s : State) :
    (whorlWrite m w off size v s).mask K = s.mask K := by
  simp only [whorlWrite, ↓apply_ite (State.mask K), ite_self, ↓foldl_mask, implies_true, ↓(busError_mask kC), ↓(coefWrite_mask kA kB kC kF kI), ↓(memWrite_mask kA kB kC kD kF kM), ↓(tableWrite_mask kB kC kF)]

theorem execWhorlMemoryWrite_mask {K : Parts} (kA : K.regs) (kB : K.mem) (kC : K.resp) (kD : K.sys) (kF : K.fab) (kI : K.whl) (kM :
    K.kln) (m : Master) (w : Fin 8) (off : Fin 1048576) (size : Fin 9) (value : BitVec 64) (s : State) {s' : State} (hr : execWhorlMemoryWrite m w off size value s = .next s') :
    s'.mask K = s.mask K := by
  unfold execWhorlMemoryWrite at hr
  injection hr with hr; subst hr; simp only [↓apply_ite (State.mask K), ite_self, ↓foldl_mask, implies_true, ↓(whorlWrite_mask kA kB kC kD kF kI kM)]

theorem copyMem_mask {K : Parts} (kB : K.mem) (kF : K.fab) (a : Nat) (b : Nat) (n : Nat) (s : State) :
    (copyMem a b n s).mask K = s.mask K := by
  unfold copyMem
  exact (foldl_mask _ (fun _ _ => setByte_mask kB _ _ _) _ _).trans ((mask_fab kF _ _).trans (mask_mem kB _ _))

theorem copyState_mask {K : Parts} (kB : K.mem) (kF : K.fab) (a : Nat) (b : Nat) (zero : Bool) (s : State) :
    (copyState a b zero s).mask K = s.mask K := by
  simp only [copyState, ↓apply_ite (State.mask K), ite_self, ↓foldl_mask, implies_true, ↓(setBytes_mask kB), ↓(copyMem_mask kB kF)]

theorem loadWhorl_mask {K : Parts} (kB : K.mem) (kF : K.fab) (w : Nat) (image : List Byte) (s : State) :
    (loadWhorl w image s).mask K = s.mask K := by
  simp only [loadWhorl, ↓apply_ite (State.mask K), ite_self, ↓foldl_mask, implies_true, mask_mem_fab kB kF, ↓(place_mask kB kF)]

theorem execShadowSessionStart_mask {K : Parts} (kA : K.regs) (kI : K.whl) (w : Fin 8) (s : State) {s' : State} (hr :
    execShadowSessionStart w s = .next s') :
    s'.mask K = s.mask K := by
  unfold execShadowSessionStart at hr
  injection hr with hr; subst hr; simp only [↓apply_ite (State.mask K), ite_self, ↓foldl_mask, implies_true, ↓(set_mask kA), ↓(setWhorl_mask kI)]; (repeat' split) <;> first | (simp only [↓apply_ite (State.mask K), ite_self, ↓foldl_mask, implies_true, ↓(set_mask kA), ↓(setWhorl_mask kI)]; done) | (simp only [↓apply_ite (State.mask K), ite_self, ↓foldl_mask, implies_true, ↓(set_mask kA), ↓(setWhorl_mask kI)]; (repeat' split) <;> first | (simp only [↓apply_ite (State.mask K), ite_self, ↓foldl_mask, implies_true, ↓(set_mask kA), ↓(setWhorl_mask kI)]; done) | rfl | grind [set_mask, setWhorl_mask]) | rfl | grind [set_mask, setWhorl_mask]

theorem startShadow_mask {K : Parts} (kA : K.regs) (kI : K.whl) (w : Nat) (s : State) :
    (startShadow w s).mask K = s.mask K := by
  simp only [startShadow, ↓apply_ite (State.mask K), ite_self, ↓foldl_mask, implies_true, ↓(set_mask kA), ↓(setWhorl_mask kI)]

theorem execStandbyPrepareDone_mask {K : Parts} (kA : K.regs) (kB : K.mem) (kD : K.sys) (kF : K.fab) (kI : K.whl) (w : Fin 8) (s : State)
    {s' : State} (hr : execStandbyPrepareDone w s = .next s') :
    s'.mask K = s.mask K := by
  unfold execStandbyPrepareDone at hr
  injection hr with hr; subst hr; simp only [↓apply_ite (State.mask K), ite_self, ↓foldl_mask, implies_true, ↓(bump_mask kA), ↓(set_mask kA), ↓(setWhorl_mask kI), ↓(copyMem_mask kB kF), ↓(copyRegs_mask kA), ↓(copyState_mask kB kF), ↓(loadWhorl_mask kB kF), ↓(raise_mask kA kF), ↓(startShadow_mask kA kI), ↓(switchTo_mask kA kD kI)]

theorem handoverSwitch_mask {K : Parts} (kA : K.regs) (kD : K.sys) (kF : K.fab) (kI : K.whl) (kS : K.tnd) (kT : K.upd) (a : Nat) (b :
    Nat) (s : State) :
    (handoverSwitch a b s).mask K = s.mask K := by
  simp only [handoverSwitch, ↓apply_ite (State.mask K), ite_self, ↓foldl_mask, implies_true, mask_whl kI, ↓(set_mask kA), ↓(setWhorl_mask kI), ↓(raise_mask kA kF), ↓(startShadow_mask kA kI), ↓(switchTo_mask kA kD kI), ↓(updWhorlSwitched_mask kA kD kF kS kT)]

theorem execStateCopyDone_mask {K : Parts} (kA : K.regs) (kB : K.mem) (kD : K.sys) (kF : K.fab) (kI : K.whl) (kM : K.kln) (kS : K.tnd)
    (kT : K.upd) (w : Fin 8) (abandoned : Bool) (s : State) {s' : State} (hr : execStateCopyDone w abandoned s = .next s') :
    s'.mask K = s.mask K := by
  unfold execStateCopyDone at hr
  injection hr with hr; subst hr; (repeat' split) <;> first | (simp only [↓apply_ite (State.mask K), ite_self, ↓foldl_mask, implies_true, ↓(copyInterrupted_mask kA kD kF kI kM kS kT), ↓(copyState_mask kB kF), ↓(handoverSwitch_mask kA kD kF kI kS kT), ↓(startShadow_mask kA kI)]; done) | (simp only [↓apply_ite (State.mask K), ite_self, ↓foldl_mask, implies_true, ↓(copyInterrupted_mask kA kD kF kI kM kS kT), ↓(copyState_mask kB kF), ↓(handoverSwitch_mask kA kD kF kI kS kT), ↓(startShadow_mask kA kI)]; (repeat' split) <;> first | (simp only [↓apply_ite (State.mask K), ite_self, ↓foldl_mask, implies_true, ↓(copyInterrupted_mask kA kD kF kI kM kS kT), ↓(copyState_mask kB kF), ↓(handoverSwitch_mask kA kD kF kI kS kT), ↓(startShadow_mask kA kI)]; done) | rfl | grind [copyInterrupted_mask, copyState_mask, handoverSwitch_mask, startShadow_mask]) | rfl | grind [copyInterrupted_mask, copyState_mask, handoverSwitch_mask, startShadow_mask]

theorem handoverRequest_mask {K : Parts} (kA : K.regs) (kI : K.whl) (a : Nat) (b : Nat) (s : State) :
    (handoverRequest a b s).mask K = s.mask K := by
  simp only [handoverRequest, ↓apply_ite (State.mask K), ite_self, ↓foldl_mask, implies_true, mask_whl kI, ↓(set_mask kA), ↓(setWhorl_mask kI)]

theorem handoverWrite_mask {K : Parts} (kA : K.regs) (kC : K.resp) (kI : K.whl) (m : Master) (value : Word) (s : State) :
    (handoverWrite m value s).mask K = s.mask K := by
  simp only [handoverWrite, ↓apply_ite (State.mask K), ite_self, ↓foldl_mask, implies_true, ↓(answer_mask kC), ↓(set_mask kA), ↓(busError_mask kC), ↓(handoverRequest_mask kA kI)]

theorem execWhlHandoverRequest_mask {K : Parts} (kA : K.regs) (kC : K.resp) (kI : K.whl) (m : Master) (value : Word) (s : State) {s' :
    State} (hr : execWhlHandoverRequest m value s = .next s') :
    s'.mask K = s.mask K := by
  unfold execWhlHandoverRequest at hr
  injection hr with hr; subst hr; simp only [↓apply_ite (State.mask K), ite_self, ↓foldl_mask, implies_true, ↓(handoverWrite_mask kA kC kI)]

theorem scrubPoisonWhorl_mask {K : Parts} (kA : K.regs) (kD : K.sys) (kF : K.fab) (kI : K.whl) (kJ : K.pwm) (kK : K.cnv) (kM : K.kln) (kP
    : K.act) (kS : K.tnd) (kT : K.upd) (w : Nat) (off : Nat) (s : State) :
    (scrubPoisonWhorl w off s).mask K = s.mask K := by
  simp only [scrubPoisonWhorl, ↓apply_ite (State.mask K), ite_self, ↓foldl_mask, implies_true, ↓(setLoopSt_mask kI), ↓(setWhorl_mask kI), ↓(stopLoop_mask kA kD kF kI kJ kK kM kP kS kT)]

theorem execCodeRepair_mask {K : Parts} (kA : K.regs) (kD : K.sys) (kF : K.fab) (kI : K.whl) (kJ : K.pwm) (kK : K.cnv) (kM : K.kln) (kP :
    K.act) (kS : K.tnd) (kT : K.upd) (w : Fin 8) (word : Fin 32768) (copyOk : Bool) (s : State) {s' : State} (hr : execCodeRepair w word copyOk s = .next s') :
    s'.mask K = s.mask K := by
  unfold execCodeRepair at hr
  injection hr with hr; subst hr; simp only [↓apply_ite (State.mask K), ite_self, ↓foldl_mask, implies_true, ↓(setWhorl_mask kI), ↓(cleanWord_mask kF), ↓(failWhorl_mask kA kD kF kI kJ kK kM kP kS kT)]

theorem setSrc_mask {K : Parts} (kL : K.fly) (s : State) (k : Nat) (x : SrcSt) :
    (State.setSrc s k x).mask K = s.mask K := by
  simp only [State.setSrc, ↓apply_ite (State.mask K), ite_self, ↓foldl_mask, implies_true, mask_fly kL]

theorem setSens_mask {K : Parts} (kL : K.fly) (s : State) (k : Nat) (x : SensSt) :
    (State.setSens s k x).mask K = s.mask K := by
  simp only [State.setSens, ↓apply_ite (State.mask K), ite_self, ↓foldl_mask, implies_true, mask_fly kL]

theorem setTrk_mask {K : Parts} (kL : K.fly) (s : State) (m : Nat) (x : TrkSt) :
    (State.setTrk s m x).mask K = s.mask K := by
  simp only [State.setTrk, ↓apply_ite (State.mask K), ite_self, ↓foldl_mask, implies_true, mask_fly kL]

theorem setEmf_mask {K : Parts} (kL : K.fly) (s : State) (m : Nat) (x : EmfSt) :
    (State.setEmf s m x).mask K = s.mask K := by
  simp only [State.setEmf, ↓apply_ite (State.mask K), ite_self, ↓foldl_mask, implies_true, mask_fly kL]

theorem setEmu_mask {K : Parts} (kL : K.fly) (s : State) (e : Nat) (x : EmuSt) :
    (State.setEmu s e x).mask K = s.mask K := by
  simp only [State.setEmu, ↓apply_ite (State.mask K), ite_self, ↓foldl_mask, implies_true, mask_fly kL]

theorem declareLoss_mask {K : Parts} (kA : K.regs) (kD : K.sys) (kF : K.fab) (kJ : K.pwm) (kK : K.cnv) (kL : K.fly) (kM : K.kln) (kP :
    K.act) (m : Nat) (cause : Nat) (s : State) :
    (declareLoss m cause s).mask K = s.mask K := by
  simp only [declareLoss, ↓apply_ite (State.mask K), ite_self, ↓foldl_mask, implies_true, ↓(set_mask kA), ↓(setBit_mask kA), ↓(setSrc_mask kL), ↓(setTrk_mask kL), ↓(issue_mask kD kM), ↓(lossReact_mask kA kD kF kJ kK kL kM kP), ↓(raise_mask kA kF)]

theorem lossOfSrc_mask {K : Parts} (kA : K.regs) (kD : K.sys) (kF : K.fab) (kJ : K.pwm) (kK : K.cnv) (kL : K.fly) (kM : K.kln) (kP :
    K.act) (k : Nat) (cause : Nat) (s : State) :
    (lossOfSrc k cause s).mask K = s.mask K := by
  simp only [lossOfSrc, ↓apply_ite (State.mask K), ite_self, ↓foldl_mask, implies_true, ↓(declareLoss_mask kA kD kF kJ kK kL kM kP)]

theorem srcValid_mask {K : Parts} (kA : K.regs) (kL : K.fly) (k : Nat) (theta : Nat) (s : State) :
    (srcValid k theta s).mask K = s.mask K := by
  simp only [srcValid, ↓apply_ite (State.mask K), ite_self, ↓foldl_mask, implies_true, ↓(set_mask kA), ↓(setSrc_mask kL), ↓(wr_mask kA)]

theorem srcError_mask {K : Parts} (kA : K.regs) (kD : K.sys) (kF : K.fab) (kJ : K.pwm) (kK : K.cnv) (kL : K.fly) (kM : K.kln) (kP :
    K.act) (k : Nat) (s : State) :
    (srcError k s).mask K = s.mask K := by
  simp only [srcError, ↓apply_ite (State.mask K), ite_self, ↓foldl_mask, implies_true, ↓(bump_mask kA), ↓(set_mask kA), ↓(setSrc_mask kL), ↓(lossOfSrc_mask kA kD kF kJ kK kL kM kP), ↓(raise_mask kA kF)]

theorem staleSrc_mask {K : Parts} (kA : K.regs) (kD : K.sys) (kF : K.fab) (kJ : K.pwm) (kK : K.cnv) (kL : K.fly) (kM : K.kln) (kP :
    K.act) (k : Nat) (s : State) :
    (staleSrc k s).mask K = s.mask K := by
  simp only [staleSrc, ↓apply_ite (State.mask K), ite_self, ↓foldl_mask, implies_true, ↓(set_mask kA), ↓(lossOfSrc_mask kA kD kF kJ kK kL kM kP)]

theorem execMeasurementTimeout_mask {K : Parts} (kA : K.regs) (kD : K.sys) (kF : K.fab) (kJ : K.pwm) (kK : K.cnv) (kL : K.fly) (kM :
    K.kln) (kP : K.act) (src : Fin 14) (s : State) {s' : State} (hr : execMeasurementTimeout src s = .next s') :
    s'.mask K = s.mask K := by
  unfold execMeasurementTimeout at hr
  injection hr with hr; subst hr; simp only [↓apply_ite (State.mask K), ite_self, ↓foldl_mask, implies_true, ↓(set_mask kA), ↓(setSrc_mask kL), ↓(lossOfSrc_mask kA kD kF kJ kK kL kM kP)]

theorem cmpFire_mask {K : Parts} (kA : K.regs) (kF : K.fab) (c : Nat) (range : Nat) (s : State) :
    (cmpFire c range s).mask K = s.mask K := by
  simp only [cmpFire, ↓apply_ite (State.mask K), ite_self, ↓foldl_mask, implies_true, ↓(set_mask kA), ↓(raise_mask kA kF)]

theorem cmpCheck_mask {K : Parts} (kA : K.regs) (kF : K.fab) (k : Nat) (hit : Nat → Bool) (s : State) :
    (cmpCheck k hit s).mask K = s.mask K := by
  simp only [cmpCheck, ↓apply_ite (State.mask K), ite_self, ↓foldl_mask, implies_true, ↓(cmpFire_mask kA kF)]

theorem cmpWrite_mask {K : Parts} (kA : K.regs) (kF : K.fab) (c : Nat) (value : Word) (reached : Bool) (s : State) :
    (cmpWrite c value reached s).mask K = s.mask K := by
  simp only [cmpWrite, ↓apply_ite (State.mask K), ite_self, ↓foldl_mask, implies_true, ↓(set_mask kA), ↓(cmpFire_mask kA kF)]

theorem execCompareValWrite_mask {K : Parts} (kA : K.regs) (kC : K.resp) (kF : K.fab) (m : Master) (c : Fin 8) (value : Word) (reached :
    Bool) (s : State) {s' : State} (hr : execCompareValWrite m c value reached s = .next s') :
    s'.mask K = s.mask K := by
  unfold execCompareValWrite at hr
  injection hr with hr; subst hr; simp only [↓apply_ite (State.mask K), ite_self, ↓foldl_mask, implies_true, ↓(answer_mask kC), ↓(busError_mask kC), ↓(cmpWrite_mask kA kF)]

theorem emuDue_mask {K : Parts} (kA : K.regs) (kD : K.sys) (kF : K.fab) (kL : K.fly) (kM : K.kln) (e : Nat) (num : Int) (den : Int) (s :
    State) :
    (emuDue e num den s).mask K = s.mask K := by
  simp only [emuDue, ↓apply_ite (State.mask K), ite_self, ↓foldl_mask, implies_true, ↓(set_mask kA), ↓(setEmu_mask kL), ↓(issue_mask kD kM), ↓(raise_mask kA kF)]

theorem execEmulationEdge_mask {K : Parts} (kA : K.regs) (kL : K.fly) (e : Fin 2) (s : State) {s' : State} (hr : execEmulationEdge e s =
    .next s') :
    s'.mask K = s.mask K := by
  unfold execEmulationEdge at hr
  injection hr with hr; subst hr; simp only [↓apply_ite (State.mask K), ite_self, ↓foldl_mask, implies_true, ↓(set_mask kA), ↓(setEmu_mask kL)]

theorem emuEnable_mask {K : Parts} (kA : K.regs) (kL : K.fly) (e : Nat) (s : State) :
    (emuEnable e s).mask K = s.mask K := by
  simp only [emuEnable, ↓apply_ite (State.mask K), ite_self, ↓foldl_mask, implies_true, ↓(set_mask kA), ↓(setEmu_mask kL)]

theorem acquire_mask {K : Parts} (kA : K.regs) (kF : K.fab) (kL : K.fly) (m : Nat) (theta : Nat) (ofs : Nat) (s : State) :
    (acquire m theta ofs s).mask K = s.mask K := by
  simp only [acquire, ↓apply_ite (State.mask K), ite_self, ↓foldl_mask, implies_true, ↓(set_mask kA), ↓(setTrk_mask kL), ↓(raise_mask kA kF)]

theorem acquireEnc_mask {K : Parts} (kA : K.regs) (kF : K.fab) (kL : K.fly) (m : Nat) (theta : Nat) (s : State) :
    (acquireEnc m theta s).mask K = s.mask K := by
  simp only [acquireEnc, ↓apply_ite (State.mask K), ite_self, ↓foldl_mask, implies_true, ↓(acquire_mask kA kF kL)]

theorem trkEnable_mask {K : Parts} (kA : K.regs) (kL : K.fly) (m : Nat) (s : State) :
    (trkEnable m s).mask K = s.mask K := by
  simp only [trkEnable, ↓apply_ite (State.mask K), ite_self, ↓foldl_mask, implies_true, ↓(set_mask kA), ↓(setSrc_mask kL)]

theorem machAcq_mask {K : Parts} (kA : K.regs) (kF : K.fab) (kL : K.fly) (mst : Master) (m : Nat) (useSet : Bool) (s : State) :
    (machAcq mst m useSet s).mask K = s.mask K := by
  simp only [machAcq, ↓apply_ite (State.mask K), ite_self, ↓foldl_mask, implies_true, ↓(set_mask kA), ↓(acquireEnc_mask kA kF kL), ↓(lossCleared_mask kA)]

theorem execMachAcq_mask {K : Parts} (kA : K.regs) (kC : K.resp) (kF : K.fab) (kL : K.fly) (m : Master) (mach : Fin 2) (s : State) {s' :
    State} (hr : execMachAcq m mach s = .next s') :
    s'.mask K = s.mask K := by
  unfold execMachAcq at hr
  injection hr with hr; subst hr; simp only [↓apply_ite (State.mask K), ite_self, ↓foldl_mask, implies_true, ↓(answer_mask kC), ↓(busError_mask kC), ↓(machAcq_mask kA kF kL)]

theorem execMachAcqUseSet_mask {K : Parts} (kA : K.regs) (kC : K.resp) (kF : K.fab) (kL : K.fly) (m : Master) (mach : Fin 2) (s : State)
    {s' : State} (hr : execMachAcqUseSet m mach s = .next s') :
    s'.mask K = s.mask K := by
  unfold execMachAcqUseSet at hr
  injection hr with hr; subst hr; simp only [↓apply_ite (State.mask K), ite_self, ↓foldl_mask, implies_true, ↓(answer_mask kC), ↓(busError_mask kC), ↓(machAcq_mask kA kF kL)]

theorem encCount_mask {K : Parts} (kA : K.regs) (kF : K.fab) (kL : K.fly) (n : Nat) (up : Bool) (s : State) :
    (encCount n up s).mask K = s.mask K := by
  simp only [encCount, ↓apply_ite (State.mask K), ite_self, ↓foldl_mask, implies_true, ↓(set_mask kA), ↓(setSens_mask kL), ↓(raise_mask kA kF)]

theorem execEncoderEdge_mask {K : Parts} (kA : K.regs) (kD : K.sys) (kF : K.fab) (kJ : K.pwm) (kK : K.cnv) (kL : K.fly) (kM : K.kln) (kP
    : K.act) (n : Fin 4) (count : Option Bool) (s : State) {s' : State} (hr : execEncoderEdge n count s = .next s') :
    s'.mask K = s.mask K := by
  unfold execEncoderEdge at hr
  injection hr with hr; subst hr; simp only [↓apply_ite (State.mask K), ite_self, ↓foldl_mask, implies_true, ↓(bump_mask kA), ↓(setSrc_mask kL), ↓(cmpCheck_mask kA kF), ↓(emuDue_mask kA kD kF kL kM), ↓(encCount_mask kA kF kL), ↓(srcError_mask kA kD kF kJ kK kL kM kP), ↓(srcValid_mask kA kL)]; (repeat' split) <;> first | (simp only [↓apply_ite (State.mask K), ite_self, ↓foldl_mask, implies_true, ↓(bump_mask kA), ↓(setSrc_mask kL), ↓(cmpCheck_mask kA kF), ↓(emuDue_mask kA kD kF kL kM), ↓(encCount_mask kA kF kL), ↓(srcError_mask kA kD kF kJ kK kL kM kP), ↓(srcValid_mask kA kL)]; done) | (simp only [↓apply_ite (State.mask K), ite_self, ↓foldl_mask, implies_true, ↓(bump_mask kA), ↓(setSrc_mask kL), ↓(cmpCheck_mask kA kF), ↓(emuDue_mask kA kD kF kL kM), ↓(encCount_mask kA kF kL), ↓(srcError_mask kA kD kF kJ kK kL kM kP), ↓(srcValid_mask kA kL)]; (repeat' split) <;> first | (simp only [↓apply_ite (State.mask K), ite_self, ↓foldl_mask, implies_true, ↓(bump_mask kA), ↓(setSrc_mask kL), ↓(cmpCheck_mask kA kF), ↓(emuDue_mask kA kD kF kL kM), ↓(encCount_mask kA kF kL), ↓(srcError_mask kA kD kF kJ kK kL kM kP), ↓(srcValid_mask kA kL)]; done) | rfl | grind [bump_mask, setSrc_mask, cmpCheck_mask, emuDue_mask, encCount_mask, srcError_mask, srcValid_mask]) | rfl | grind [bump_mask, setSrc_mask, cmpCheck_mask, emuDue_mask, encCount_mask, srcError_mask, srcValid_mask]

theorem execEncoderIndex_mask {K : Parts} (kA : K.regs) (kD : K.sys) (kF : K.fab) (kJ : K.pwm) (kK : K.cnv) (kL : K.fly) (kM : K.kln) (kP
    : K.act) (n : Fin 4) (abHigh : Bool) (s : State) {s' : State} (hr : execEncoderIndex n abHigh s = .next s') :
    s'.mask K = s.mask K := by
  unfold execEncoderIndex at hr
  injection hr with hr; subst hr; simp only [↓apply_ite (State.mask K), ite_self, ↓foldl_mask, implies_true, ↓(set_mask kA), ↓(setSens_mask kL), ↓(acquireEnc_mask kA kF kL), ↓(issue_mask kD kM), ↓(raise_mask kA kF), ↓(srcError_mask kA kD kF kJ kK kL kM kP)]; (repeat' split) <;> first | (simp only [↓apply_ite (State.mask K), ite_self, ↓foldl_mask, implies_true, ↓(set_mask kA), ↓(setSens_mask kL), ↓(acquireEnc_mask kA kF kL), ↓(issue_mask kD kM), ↓(raise_mask kA kF), ↓(srcError_mask kA kD kF kJ kK kL kM kP)]; done) | (simp only [↓apply_ite (State.mask K), ite_self, ↓foldl_mask, implies_true, ↓(set_mask kA), ↓(setSens_mask kL), ↓(acquireEnc_mask kA kF kL), ↓(issue_mask kD kM), ↓(raise_mask kA kF), ↓(srcError_mask kA kD kF kJ kK kL kM kP)]; (repeat' split) <;> first | (simp only [↓apply_ite (State.mask K), ite_self, ↓foldl_mask, implies_true, ↓(set_mask kA), ↓(setSens_mask kL), ↓(acquireEnc_mask kA kF kL), ↓(issue_mask kD kM), ↓(raise_mask kA kF), ↓(srcError_mask kA kD kF kJ kK kL kM kP)]; done) | rfl | grind [set_mask, setSens_mask, acquireEnc_mask, issue_mask, raise_mask, srcError_mask]) | rfl | grind [set_mask, setSens_mask, acquireEnc_mask, issue_mask, raise_mask, srcError_mask]

theorem encCapture_mask {K : Parts} (kA : K.regs) (n : Nat) (s : State) :
    (encCapture n s).mask K = s.mask K := by
  simp only [encCapture, ↓apply_ite (State.mask K), ite_self, ↓foldl_mask, implies_true, ↓(set_mask kA)]

theorem execEncPosRead_mask {K : Parts} (kA : K.regs) (kC : K.resp) (m : Master) (n : Fin 4) (s : State) {s' : State} (hr :
    execEncPosRead m n s = .next s') :
    s'.mask K = s.mask K := by
  unfold execEncPosRead at hr
  injection hr with hr; subst hr; simp only [↓apply_ite (State.mask K), ite_self, ↓foldl_mask, implies_true, ↓(answer_mask kC), ↓(busError_mask kC), ↓(encCapture_mask kA)]

theorem execHallTransition_mask {K : Parts} (kA : K.regs) (kD : K.sys) (kF : K.fab) (kJ : K.pwm) (kK : K.cnv) (kL : K.fly) (kM : K.kln)
    (kP : K.act) (h : Fin 2) (state : BitVec 3) (s : State) {s' : State} (hr : execHallTransition h state s = .next s') :
    s'.mask K = s.mask K := by
  unfold execHallTransition at hr
  injection hr with hr; subst hr; simp only [↓apply_ite (State.mask K), ite_self, ↓foldl_mask, implies_true, ↓(set_mask kA), ↓(setSens_mask kL), ↓(setSrc_mask kL), ↓(acquireEnc_mask kA kF kL), ↓(srcError_mask kA kD kF kJ kK kL kM kP), ↓(srcValid_mask kA kL)]; (repeat' split) <;> first | (simp only [↓apply_ite (State.mask K), ite_self, ↓foldl_mask, implies_true, ↓(set_mask kA), ↓(setSens_mask kL), ↓(setSrc_mask kL), ↓(acquireEnc_mask kA kF kL), ↓(srcError_mask kA kD kF kJ kK kL kM kP), ↓(srcValid_mask kA kL)]; done) | (simp only [↓apply_ite (State.mask K), ite_self, ↓foldl_mask, implies_true, ↓(set_mask kA), ↓(setSens_mask kL), ↓(setSrc_mask kL), ↓(acquireEnc_mask kA kF kL), ↓(srcError_mask kA kD kF kJ kK kL kM kP), ↓(srcValid_mask kA kL)]; (repeat' split) <;> first | (simp only [↓apply_ite (State.mask K), ite_self, ↓foldl_mask, implies_true, ↓(set_mask kA), ↓(setSens_mask kL), ↓(setSrc_mask kL), ↓(acquireEnc_mask kA kF kL), ↓(srcError_mask kA kD kF kJ kK kL kM kP), ↓(srcValid_mask kA kL)]; done) | rfl | grind [set_mask, setSens_mask, setSrc_mask, acquireEnc_mask, srcError_mask, srcValid_mask]) | rfl | grind [set_mask, setSens_mask, setSrc_mask, acquireEnc_mask, srcError_mask, srcValid_mask]

theorem execResolverHalfPeriod_mask {K : Parts} (kA : K.regs) (kD : K.sys) (kF : K.fab) (kJ : K.pwm) (kK : K.cnv) (kL : K.fly) (kM :
    K.kln) (kP : K.act) (r : Fin 2) (sinV : Int) (cosV : Int) (s : State) {s' : State} (hr : execResolverHalfPeriod r sinV cosV s = .next s') :
    s'.mask K = s.mask K := by
  unfold execResolverHalfPeriod at hr
  injection hr with hr; subst hr; simp only [↓apply_ite (State.mask K), ite_self, ↓foldl_mask, implies_true, ↓(setSens_mask kL), ↓(setSrc_mask kL), ↓(lossOfSrc_mask kA kD kF kJ kK kL kM kP), ↓(srcValid_mask kA kL)]

theorem execExcitationFault_mask {K : Parts} (kA : K.regs) (kD : K.sys) (kF : K.fab) (kJ : K.pwm) (kK : K.cnv) (kL : K.fly) (kM : K.kln)
    (kP : K.act) (r : Fin 2) (present : Bool) (s : State) {s' : State} (hr : execExcitationFault r present s = .next s') :
    s'.mask K = s.mask K := by
  unfold execExcitationFault at hr
  injection hr with hr; subst hr; simp only [↓apply_ite (State.mask K), ite_self, ↓foldl_mask, implies_true, ↓(setB_mask kA), ↓(lossOfSrc_mask kA kD kF kJ kK kL kM kP)]

theorem execSerialPoll_mask {K : Parts} (kL : K.fly) (k : Fin 2) (s : State) {s' : State} (hr : execSerialPoll k s = .next s') :
    s'.mask K = s.mask K := by
  unfold execSerialPoll at hr
  injection hr with hr; subst hr; simp only [↓apply_ite (State.mask K), ite_self, ↓foldl_mask, implies_true, ↓(setSens_mask kL)]

theorem execSerialFrameEnd_mask {K : Parts} (kA : K.regs) (kD : K.sys) (kF : K.fab) (kJ : K.pwm) (kK : K.cnv) (kL : K.fly) (kM : K.kln)
    (kP : K.act) (k : Fin 2) (frame : SerFrame) (s : State) {s' : State} (hr : execSerialFrameEnd k frame s = .next s') :
    s'.mask K = s.mask K := by
  unfold execSerialFrameEnd at hr
  injection hr with hr; subst hr; simp only [↓apply_ite (State.mask K), ite_self, ↓foldl_mask, implies_true, ↓(set_mask kA), ↓(setSens_mask kL), ↓(srcError_mask kA kD kF kJ kK kL kM kP), ↓(srcValid_mask kA kL)]

theorem execSerialTimeout_mask {K : Parts} (kA : K.regs) (kD : K.sys) (kF : K.fab) (kJ : K.pwm) (kK : K.cnv) (kL : K.fly) (kM : K.kln)
    (kP : K.act) (k : Fin 2) (s : State) {s' : State} (hr : execSerialTimeout k s = .next s') :
    s'.mask K = s.mask K := by
  unfold execSerialTimeout at hr
  injection hr with hr; subst hr; simp only [↓apply_ite (State.mask K), ite_self, ↓foldl_mask, implies_true, ↓(setSens_mask kL), ↓(srcError_mask kA kD kF kJ kK kL kM kP)]

theorem execSentFrame_mask {K : Parts} (kA : K.regs) (kD : K.sys) (kF : K.fab) (kJ : K.pwm) (kK : K.cnv) (kL : K.fly) (kM : K.kln) (kP :
    K.act) (k : Fin 4) (nibbles : List (Fin 16)) (crc : Fin 16) (syncOk : Bool) (slow : Option SlowMsg) (s : State) {s' : State} (hr : execSentFrame k nibbles crc syncOk slow s = .next s') :
    s'.mask K = s.mask K := by
  unfold execSentFrame at hr
  injection hr with hr; subst hr; simp only [↓apply_ite (State.mask K), ite_self, ↓foldl_mask, implies_true, ↓(bump_mask kA), ↓(set_mask kA), ↓(setB_mask kA), ↓(srcError_mask kA kD kF kJ kK kL kM kP), ↓(srcValid_mask kA kL)]; (repeat' split) <;> first | (simp only [↓apply_ite (State.mask K), ite_self, ↓foldl_mask, implies_true, ↓(bump_mask kA), ↓(set_mask kA), ↓(setB_mask kA), ↓(srcError_mask kA kD kF kJ kK kL kM kP), ↓(srcValid_mask kA kL)]; done) | (simp only [↓apply_ite (State.mask K), ite_self, ↓foldl_mask, implies_true, ↓(bump_mask kA), ↓(set_mask kA), ↓(setB_mask kA), ↓(srcError_mask kA kD kF kJ kK kL kM kP), ↓(srcValid_mask kA kL)]; (repeat' split) <;> first | (simp only [↓apply_ite (State.mask K), ite_self, ↓foldl_mask, implies_true, ↓(bump_mask kA), ↓(set_mask kA), ↓(setB_mask kA), ↓(srcError_mask kA kD kF kJ kK kL kM kP), ↓(srcValid_mask kA kL)]; done) | rfl | grind [bump_mask, set_mask, setB_mask, srcError_mask, srcValid_mask]) | rfl | grind [bump_mask, set_mask, setB_mask, srcError_mask, srcValid_mask]

theorem trkApply_mask {K : Parts} (kA : K.regs) (kD : K.sys) (kF : K.fab) (kJ : K.pwm) (kK : K.cnv) (kL : K.fly) (kM : K.kln) (kP :
    K.act) (m : Nat) (thetaM : Nat) (age : Nat) (s : State) :
    (trkApply m thetaM age s).mask K = s.mask K := by
  simp only [trkApply, ↓apply_ite (State.mask K), ite_self, ↓foldl_mask, implies_true, ↓(setTrk_mask kL), ↓(declareLoss_mask kA kD kF kJ kK kL kM kP)]

theorem trkReport_mask {K : Parts} (kA : K.regs) (kD : K.sys) (kF : K.fab) (kJ : K.pwm) (kK : K.cnv) (kM : K.kln) (kP : K.act) (m : Nat)
    (s : State) :
    (trkReport m s).mask K = s.mask K := by
  simp only [trkReport, ↓apply_ite (State.mask K), ite_self, ↓foldl_mask, implies_true, mask_pwm kJ, ↓(set_mask kA), ↓(setB_mask kA), ↓(setI_mask kA), ↓(aboveChanged_mask kA kD kF kJ kK kM kP), ↓(raise_mask kA kF)]

theorem trkMoved_mask {K : Parts} (kA : K.regs) (kD : K.sys) (kF : K.fab) (kL : K.fly) (kM : K.kln) (m : Nat) (s : State) :
    (trkMoved m s).mask K = s.mask K := by
  simp only [trkMoved, ↓apply_ite (State.mask K), ite_self, ↓foldl_mask, implies_true, ↓(setTrk_mask kL), ↓(cmpCheck_mask kA kF), ↓(emuDue_mask kA kD kF kL kM)]

theorem trkMeasure_mask {K : Parts} (kA : K.regs) (kD : K.sys) (kF : K.fab) (kJ : K.pwm) (kK : K.cnv) (kL : K.fly) (kM : K.kln) (kP :
    K.act) (m : Nat) (age : Nat) (fresh : Bool) (s : State) :
    (trkMeasure m age fresh s).mask K = s.mask K := by
  simp only [trkMeasure, ↓apply_ite (State.mask K), ite_self, ↓foldl_mask, implies_true, ↓(setTrk_mask kL), ↓(trkApply_mask kA kD kF kJ kK kL kM kP)]

theorem reacqTick_mask {K : Parts} (kA : K.regs) (m : Nat) (s : State) :
    (reacqTick m s).mask K = s.mask K := by
  simp only [reacqTick, ↓apply_ite (State.mask K), ite_self, ↓foldl_mask, implies_true, ↓(set_mask kA)]

theorem trkPropagate_mask {K : Parts} (kA : K.regs) (kD : K.sys) (kF : K.fab) (kJ : K.pwm) (kK : K.cnv) (kL : K.fly) (kM : K.kln) (kP :
    K.act) (m : Nat) (age : Nat) (fresh : Bool) (s : State) :
    (trkPropagate m age fresh s).mask K = s.mask K := by
  simp only [trkPropagate, ↓apply_ite (State.mask K), ite_self, ↓foldl_mask, implies_true, ↓(setTrk_mask kL), ↓(trkMeasure_mask kA kD kF kJ kK kL kM kP), ↓(trkMoved_mask kA kD kF kL kM)]

theorem execTrackerStep_mask {K : Parts} (kA : K.regs) (kD : K.sys) (kF : K.fab) (kJ : K.pwm) (kK : K.cnv) (kL : K.fly) (kM : K.kln) (kP
    : K.act) (mach : Fin 2) (age : Nat) (s : State) {s' : State} (hr : execTrackerStep mach age s = .next s') :
    s'.mask K = s.mask K := by
  unfold execTrackerStep at hr
  injection hr with hr; subst hr; simp only [↓apply_ite (State.mask K), ite_self, ↓foldl_mask, implies_true, ↓(set_mask kA), ↓(setSrc_mask kL), ↓(setTrk_mask kL), ↓(acquire_mask kA kF kL), ↓(reacqTick_mask kA), ↓(trkPropagate_mask kA kD kF kJ kK kL kM kP), ↓(trkReport_mask kA kD kF kJ kK kM kP)]

theorem emfLock_mask {K : Parts} (kA : K.regs) (kD : K.sys) (kF : K.fab) (kJ : K.pwm) (kL : K.fly) (kM : K.kln) (kP : K.act) (m : Nat) (b
    : Bool) (s : State) :
    (emfLock m b s).mask K = s.mask K := by
  simp only [emfLock, ↓apply_ite (State.mask K), ite_self, ↓foldl_mask, implies_true, ↓(lossLocked_mask kA kJ kP), ↓(lossUnlocked_mask kA kD kF kJ kL kM kP), ↓(showLock_mask kA kF)]

theorem crossCheck_mask {K : Parts} (kA : K.regs) (kD : K.sys) (kF : K.fab) (kJ : K.pwm) (kK : K.cnv) (kL : K.fly) (kM : K.kln) (kP :
    K.act) (m : Nat) (d : Nat) (s : State) :
    (crossCheck m d s).mask K = s.mask K := by
  simp only [crossCheck, ↓apply_ite (State.mask K), ite_self, ↓foldl_mask, implies_true, ↓(setB_mask kA), ↓(setTrk_mask kL), ↓(declareLoss_mask kA kD kF kJ kK kL kM kP)]

theorem emfUpdate_mask {K : Parts} (kA : K.regs) (kD : K.sys) (kF : K.fab) (kJ : K.pwm) (kK : K.cnv) (kL : K.fly) (kM : K.kln) (kP :
    K.act) (m : Nat) (vUV : Int) (vVW : Int) (iU : Int) (iV : Int) (ok : Bool) (wlen : Nat) (d : Nat) (s : State) :
    (emfUpdate m vUV vVW iU iV ok wlen d s).mask K = s.mask K := by
  simp only [emfUpdate, ↓apply_ite (State.mask K), ite_self, ↓foldl_mask, implies_true, ↓(set_mask kA), ↓(setB_mask kA), ↓(setEmf_mask kL), ↓(crossCheck_mask kA kD kF kJ kK kL kM kP), ↓(emfLock_mask kA kD kF kJ kL kM kP), ↓(srcValid_mask kA kL)]

theorem takeSnapshot_mask {K : Parts} (kL : K.fly) (n : Nat) (w : Nat) (d : SnapAge) (s : State) :
    (takeSnapshot n w d s).mask K = s.mask K := by
  simp only [takeSnapshot, ↓apply_ite (State.mask K), ite_self, ↓foldl_mask, implies_true, mask_fly kL]

theorem flyDisable_mask {K : Parts} (kA : K.regs) (kL : K.fly) (u : FlyUnit) (s : State) :
    (flyDisable u s).mask K = s.mask K := by
  simp only [flyDisable, ↓apply_ite (State.mask K), ite_self, ↓foldl_mask, implies_true, ↓(set_mask kA), ↓(setSens_mask kL)]; (repeat' split) <;> first | (simp only [↓apply_ite (State.mask K), ite_self, ↓foldl_mask, implies_true, ↓(set_mask kA), ↓(setSens_mask kL)]; done) | (simp only [↓apply_ite (State.mask K), ite_self, ↓foldl_mask, implies_true, ↓(set_mask kA), ↓(setSens_mask kL)]; (repeat' split) <;> first | (simp only [↓apply_ite (State.mask K), ite_self, ↓foldl_mask, implies_true, ↓(set_mask kA), ↓(setSens_mask kL)]; done) | rfl | grind [set_mask, setSens_mask]) | rfl | grind [set_mask, setSens_mask]

theorem execFlyerUnitDisable_mask {K : Parts} (kA : K.regs) (kC : K.resp) (kL : K.fly) (m : Master) (unit : FlyUnit) (s : State) {s' :
    State} (hr : execFlyerUnitDisable m unit s = .next s') :
    s'.mask K = s.mask K := by
  unfold execFlyerUnitDisable at hr
  injection hr with hr; subst hr; simp only [↓apply_ite (State.mask K), ite_self, ↓foldl_mask, implies_true, ↓(answer_mask kC), ↓(busError_mask kC), ↓(flyDisable_mask kA kL)]

theorem srcEnable_mask {K : Parts} (kA : K.regs) (kL : K.fly) (k : Nat) (s : State) :
    (srcEnable k s).mask K = s.mask K := by
  simp only [srcEnable, ↓apply_ite (State.mask K), ite_self, ↓foldl_mask, implies_true, ↓(set_mask kA), ↓(setSens_mask kL), ↓(setSrc_mask kL)]

theorem execReacqTimeout_mask {K : Parts} (kA : K.regs) (kD : K.sys) (kM : K.kln) (p : Fin 16) (s : State) {s' : State} (hr :
    execReacqTimeout p s = .next s') :
    s'.mask K = s.mask K := by
  unfold execReacqTimeout at hr
  injection hr with hr; subst hr; simp only [↓apply_ite (State.mask K), ite_self, ↓foldl_mask, implies_true, ↓(set_mask kA), ↓(issueFor_mask kD kM)]

theorem psetClear_mask {K : Parts} (kA : K.regs) (kD : K.sys) (kF : K.fab) (kJ : K.pwm) (kK : K.cnv) (kL : K.fly) (kM : K.kln) (kP :
    K.act) (m : Master) (p : Nat) (s : State) :
    (psetClear m p s).mask K = s.mask K := by
  simp only [psetClear, ↓apply_ite (State.mask K), ite_self, ↓foldl_mask, implies_true, ↓(set_mask kA), ↓(setPset_mask kJ), ↓(aboveChanged_mask kA kD kF kJ kK kM kP), ↓(disarm_mask kA kJ), ↓(enterState_mask kA kD kF kJ kK kM kP), ↓(lossCoast_mask kA kD kF kJ kL kM kP), ↓(lossOff_mask kA kJ kP)]

theorem execPsetClear_mask {K : Parts} (kA : K.regs) (kC : K.resp) (kD : K.sys) (kF : K.fab) (kJ : K.pwm) (kK : K.cnv) (kL : K.fly) (kM :
    K.kln) (kP : K.act) (m : Master) (p : Fin 16) (s : State) {s' : State} (hr : execPsetClear m p s = .next s') :
    s'.mask K = s.mask K := by
  unfold execPsetClear at hr
  injection hr with hr; subst hr; simp only [↓apply_ite (State.mask K), ite_self, ↓foldl_mask, implies_true, ↓(answer_mask kC), ↓(busError_mask kC), ↓(psetClear_mask kA kD kF kJ kK kL kM kP)]

theorem setKln_mask {K : Parts} (kM : K.kln) (s : State) (x : KlnSt) :
    (State.setKln s x).mask K = s.mask K := by
  simp only [State.setKln, ↓apply_ite (State.mask K), ite_self, ↓foldl_mask, implies_true, mask_kln kM]

theorem genRise_mask {K : Parts} (kA : K.regs) (kF : K.fab) (kJ : K.pwm) (g : Nat) (s : State) :
    (genRise g s).mask K = s.mask K := by
  simp only [genRise, ↓apply_ite (State.mask K), ite_self, ↓foldl_mask, implies_true, mask_pwm kJ, ↓(raise_mask kA kF)]

theorem kilnDrive_mask {K : Parts} (kA : K.regs) (kF : K.fab) (kJ : K.pwm) (kM : K.kln) (kP : K.act) (s : State) :
    (kilnDrive s).mask K = s.mask K := by
  simp only [kilnDrive, ↓apply_ite (State.mask K), ite_self, ↓foldl_mask, implies_true, ↓(setKln_mask kM), ↓(enforceAll_mask kA kJ kP), ↓(genRise_mask kA kF kJ), ↓(raise_mask kA kF)]

theorem issueKiln_mask {K : Parts} (kD : K.sys) (code : Nat) (cls : Nat) (s : State) :
    (issueKiln code cls s).mask K = s.mask K := by
  simp only [issueKiln, ↓apply_ite (State.mask K), ite_self, ↓foldl_mask, implies_true, mask_sys kD]

theorem tellControl_mask {K : Parts} (kD : K.sys) (code : Nat) (cls : Nat) (s : State) :
    (tellControl code cls s).mask K = s.mask K := by
  simp only [tellControl, ↓apply_ite (State.mask K), ite_self, ↓foldl_mask, implies_true, ↓(issueKiln_mask kD)]

theorem kilnRecord_mask {K : Parts} (kM : K.kln) (code : Nat) (s : State) :
    (kilnRecord code s).mask K = s.mask K := by
  simp only [kilnRecord, ↓apply_ite (State.mask K), ite_self, ↓foldl_mask, implies_true, ↓(setKln_mask kM)]

theorem kilnLatch_mask {K : Parts} (kA : K.regs) (kF : K.fab) (kJ : K.pwm) (kM : K.kln) (kP : K.act) (e : Nat) (cls : Nat) (mask : Nat)
    (brake : Bool) (s : State) :
    (kilnLatch e cls mask brake s).mask K = s.mask K := by
  simp only [kilnLatch, ↓apply_ite (State.mask K), ite_self, ↓foldl_mask, implies_true, ↓(setKln_mask kM), ↓(kilnDrive_mask kA kF kJ kM kP), ↓(raise_mask kA kF)]

theorem kilnApplyAs_mask {K : Parts} (kA : K.regs) (kD : K.sys) (kF : K.fab) (kJ : K.pwm) (kM : K.kln) (kP : K.act) (e : Nat) (code :
    Nat) (cls : Nat) (mask : Nat) (brake : Bool) (s : State) :
    (kilnApplyAs e code cls mask brake s).mask K = s.mask K := by
  simp only [kilnApplyAs, ↓apply_ite (State.mask K), ite_self, ↓foldl_mask, implies_true, ↓(kilnLatch_mask kA kF kJ kM kP), ↓(kilnRecord_mask kM), ↓(tellControl_mask kD)]

theorem kilnApply_mask {K : Parts} (kA : K.regs) (kD : K.sys) (kF : K.fab) (kJ : K.pwm) (kM : K.kln) (kP : K.act) (e : Nat) (s : State) :
    (kilnApply e s).mask K = s.mask K := by
  simp only [kilnApply, ↓apply_ite (State.mask K), ite_self, ↓foldl_mask, implies_true, ↓(kilnApplyAs_mask kA kD kF kJ kM kP)]

theorem kilnCond_mask {K : Parts} (kA : K.regs) (kD : K.sys) (kF : K.fab) (kJ : K.pwm) (kM : K.kln) (kP : K.act) (e : Nat) (present :
    Bool) (s : State) :
    (kilnCond e present s).mask K = s.mask K := by
  simp only [kilnCond, ↓apply_ite (State.mask K), ite_self, ↓foldl_mask, implies_true, ↓(setKln_mask kM), ↓(kilnApply_mask kA kD kF kJ kM kP)]

theorem kreqArrive_mask {K : Parts} (kA : K.regs) (kD : K.sys) (kF : K.fab) (kJ : K.pwm) (kM : K.kln) (kP : K.act) (new : Word) (s :
    State) :
    (kreqArrive new s).mask K = s.mask K := by
  simp only [kreqArrive, ↓apply_ite (State.mask K), ite_self, ↓foldl_mask, implies_true, ↓(setKln_mask kM), ↓(kilnApply_mask kA kD kF kJ kM kP), ↓(kilnDrive_mask kA kF kJ kM kP)]

theorem kreqWrite_mask {K : Parts} (kA : K.regs) (kD : K.sys) (kF : K.fab) (kJ : K.pwm) (kM : K.kln) (kP : K.act) (m : Master) (p : Nat)
    (new : Word) (s : State) :
    (kreqWrite m p new s).mask K = s.mask K := by
  simp only [kreqWrite, ↓apply_ite (State.mask K), ite_self, ↓foldl_mask, implies_true, ↓(wr_mask kA), ↓(kreqArrive_mask kA kD kF kJ kM kP)]

theorem kreqField_mask {K : Parts} (kA : K.regs) (kC : K.resp) (kD : K.sys) (kF : K.fab) (kJ : K.pwm) (kM : K.kln) (kP : K.act) (m :
    Master) (p : Nat) (f : Fld) (v : Nat) (s : State) :
    (kreqField m p f v s).mask K = s.mask K := by
  simp only [kreqField, ↓apply_ite (State.mask K), ite_self, ↓foldl_mask, implies_true, ↓(answer_mask kC), ↓(busError_mask kC), ↓(kreqWrite_mask kA kD kF kJ kM kP)]

theorem claimCommit_mask {K : Parts} (kA : K.regs) (kD : K.sys) (kF : K.fab) (kJ : K.pwm) (kM : K.kln) (kP : K.act) (m : Master) (p :
    Nat) (s : State) :
    (claimCommit m p s).mask K = s.mask K := by
  simp only [claimCommit, ↓apply_ite (State.mask K), ite_self, ↓foldl_mask, implies_true, ↓(setKln_mask kM), ↓(kilnCond_mask kA kD kF kJ kM kP)]

theorem currentCheck_mask {K : Parts} (kA : K.regs) (kD : K.sys) (kF : K.fab) (kJ : K.pwm) (kM : K.kln) (kP : K.act) (k : Nat) (s : State) :
    (currentCheck k s).mask K = s.mask K := by
  simp only [currentCheck, ↓apply_ite (State.mask K), ite_self, ↓foldl_mask, implies_true, ↓(setKln_mask kM), ↓(kilnCond_mask kA kD kF kJ kM kP)]

theorem kilnBurst_mask {K : Parts} (kA : K.regs) (kD : K.sys) (kF : K.fab) (kJ : K.pwm) (kM : K.kln) (kP : K.act) (n : Nat) (sum : Int)
    (s : State) :
    (kilnBurst n sum s).mask K = s.mask K := by
  simp only [kilnBurst, ↓apply_ite (State.mask K), ite_self, ↓foldl_mask, implies_true, ↓(setKln_mask kM), ↓(currentCheck_mask kA kD kF kJ kM kP)]

theorem kilnLinkHk_mask {K : Parts} (kA : K.regs) (kD : K.sys) (kF : K.fab) (kJ : K.pwm) (kM : K.kln) (kP : K.act) (i : Nat) (code : Nat)
    (s : State) :
    (kilnLinkHk i code s).mask K = s.mask K := by
  simp only [kilnLinkHk, ↓apply_ite (State.mask K), ite_self, ↓foldl_mask, implies_true, ↓(setKln_mask kM), ↓(kilnCond_mask kA kD kF kJ kM kP)]

theorem kilnSuspend_mask {K : Parts} (kA : K.regs) (kD : K.sys) (kF : K.fab) (kJ : K.pwm) (kM : K.kln) (kP : K.act) (i : Nat) (s : State) :
    (kilnSuspend i s).mask K = s.mask K := by
  simp only [kilnSuspend, ↓apply_ite (State.mask K), ite_self, ↓foldl_mask, implies_true, ↓(setKln_mask kM), ↓(kilnApply_mask kA kD kF kJ kM kP), ↓(raise_mask kA kF)]

theorem kilnInputs_mask {K : Parts} (kA : K.regs) (kD : K.sys) (kF : K.fab) (kJ : K.pwm) (kM : K.kln) (kP : K.act) (s : State) :
    (kilnInputs s).mask K = s.mask K := by
  simp only [kilnInputs, ↓apply_ite (State.mask K), ite_self, ↓foldl_mask, implies_true, ↓(kilnSuspend_mask kA kD kF kJ kM kP)]

theorem execKilnPowerCheck_mask {K : Parts} (kA : K.regs) (kD : K.sys) (kF : K.fab) (kJ : K.pwm) (kM : K.kln) (kP : K.act) (s : State)
    {s' : State} (hr : execKilnPowerCheck s = .next s') :
    s'.mask K = s.mask K := by
  unfold execKilnPowerCheck at hr
  injection hr with hr; subst hr; simp only [↓apply_ite (State.mask K), ite_self, ↓foldl_mask, implies_true, ↓(setKln_mask kM), ↓(kilnCond_mask kA kD kF kJ kM kP)]

theorem execClaimCommit_mask {K : Parts} (kA : K.regs) (kC : K.resp) (kD : K.sys) (kF : K.fab) (kJ : K.pwm) (kM : K.kln) (kP : K.act) (m
    : Master) (p : Fin 2) (s : State) {s' : State} (hr : execClaimCommit m p s = .next s') :
    s'.mask K = s.mask K := by
  unfold execClaimCommit at hr
  injection hr with hr; subst hr; simp only [↓apply_ite (State.mask K), ite_self, ↓foldl_mask, implies_true, ↓(answer_mask kC), ↓(busError_mask kC), ↓(claimCommit_mask kA kD kF kJ kM kP)]

theorem execClaimTimeout_mask {K : Parts} (kA : K.regs) (kD : K.sys) (kF : K.fab) (kJ : K.pwm) (kM : K.kln) (kP : K.act) (s : State) {s'
    : State} (hr : execClaimTimeout s = .next s') :
    s'.mask K = s.mask K := by
  unfold execClaimTimeout at hr
  injection hr with hr; subst hr; simp only [↓apply_ite (State.mask K), ite_self, ↓foldl_mask, implies_true, ↓(kilnCond_mask kA kD kF kJ kM kP)]

theorem execKirchhoffTrip_mask {K : Parts} (kA : K.regs) (kD : K.sys) (kF : K.fab) (kJ : K.pwm) (kM : K.kln) (kP : K.act) (set : Fin 4)
    (s : State) {s' : State} (hr : execKirchhoffTrip set s = .next s') :
    s'.mask K = s.mask K := by
  unfold execKirchhoffTrip at hr
  injection hr with hr; subst hr; simp only [↓apply_ite (State.mask K), ite_self, ↓foldl_mask, implies_true, ↓(set_mask kA), ↓(kilnApply_mask kA kD kF kJ kM kP)]

theorem execKilnSpeedEdge_mask {K : Parts} (kM : K.kln) (mach : Fin 2) (s : State) {s' : State} (hr : execKilnSpeedEdge mach s = .next s') :
    s'.mask K = s.mask K := by
  unfold execKilnSpeedEdge at hr
  injection hr with hr; subst hr; simp only [↓apply_ite (State.mask K), ite_self, ↓foldl_mask, implies_true, ↓(setKln_mask kM)]

theorem ss1Complete_mask {K : Parts} (kA : K.regs) (kF : K.fab) (kJ : K.pwm) (kM : K.kln) (kP : K.act) (s : State) :
    (ss1Complete s).mask K = s.mask K := by
  simp only [ss1Complete, ↓apply_ite (State.mask K), ite_self, ↓foldl_mask, implies_true, ↓(setKln_mask kM), ↓(kilnDrive_mask kA kF kJ kM kP)]

theorem gateEnd_mask {K : Parts} (kA : K.regs) (kD : K.sys) (kF : K.fab) (kJ : K.pwm) (kM : K.kln) (kP : K.act) (m : Nat) (t : Nat) (s :
    State) :
    (gateEnd m t s).mask K = s.mask K := by
  simp only [gateEnd, ↓apply_ite (State.mask K), ite_self, ↓foldl_mask, implies_true, ↓(setKln_mask kM), ↓(kilnApply_mask kA kD kF kJ kM kP), ↓(kilnCond_mask kA kD kF kJ kM kP), ↓(ss1Complete_mask kA kF kJ kM kP)]

theorem execKilnGateEnd_mask {K : Parts} (kA : K.regs) (kD : K.sys) (kF : K.fab) (kJ : K.pwm) (kM : K.kln) (kP : K.act) (mach : Fin 2) (t
    : Nat) (s : State) {s' : State} (hr : execKilnGateEnd mach t s = .next s') :
    s'.mask K = s.mask K := by
  unfold execKilnGateEnd at hr
  injection hr with hr; subst hr; simp only [↓apply_ite (State.mask K), ite_self, ↓foldl_mask, implies_true, ↓(gateEnd_mask kA kD kF kJ kM kP)]

theorem execSs1Timeout_mask {K : Parts} (kA : K.regs) (kD : K.sys) (kF : K.fab) (kJ : K.pwm) (kM : K.kln) (kP : K.act) (s : State) {s' :
    State} (hr : execSs1Timeout s = .next s') :
    s'.mask K = s.mask K := by
  unfold execSs1Timeout at hr
  injection hr with hr; subst hr; simp only [↓apply_ite (State.mask K), ite_self, ↓foldl_mask, implies_true, ↓(setKln_mask kM), ↓(kilnApply_mask kA kD kF kJ kM kP)]

theorem execSs1StopComplete_mask {K : Parts} (kA : K.regs) (kF : K.fab) (kJ : K.pwm) (kM : K.kln) (kP : K.act) (s : State) {s' : State}
    (hr : execSs1StopComplete s = .next s') :
    s'.mask K = s.mask K := by
  unfold execSs1StopComplete at hr
  injection hr with hr; subst hr; simp only [↓apply_ite (State.mask K), ite_self, ↓foldl_mask, implies_true, ↓(ss1Complete_mask kA kF kJ kM kP)]

theorem execSlsRequest_mask {K : Parts} (kA : K.regs) (kC : K.resp) (kD : K.sys) (kF : K.fab) (kJ : K.pwm) (kM : K.kln) (kP : K.act) (m :
    Master) (p : Fin 2) (bits : BitVec 2) (s : State) {s' : State} (hr : execSlsRequest m p bits s = .next s') :
    s'.mask K = s.mask K := by
  unfold execSlsRequest at hr
  injection hr with hr; subst hr; simp only [↓apply_ite (State.mask K), ite_self, ↓foldl_mask, implies_true, ↓(kreqField_mask kA kC kD kF kJ kM kP)]

theorem execSs1Request_mask {K : Parts} (kA : K.regs) (kC : K.resp) (kD : K.sys) (kF : K.fab) (kJ : K.pwm) (kM : K.kln) (kP : K.act) (m :
    Master) (p : Fin 2) (on : Bool) (s : State) {s' : State} (hr : execSs1Request m p on s = .next s') :
    s'.mask K = s.mask K := by
  unfold execSs1Request at hr
  injection hr with hr; subst hr; simp only [↓apply_ite (State.mask K), ite_self, ↓foldl_mask, implies_true, ↓(kreqField_mask kA kC kD kF kJ kM kP)]

theorem execStoRequest_mask {K : Parts} (kA : K.regs) (kC : K.resp) (kD : K.sys) (kF : K.fab) (kJ : K.pwm) (kM : K.kln) (kP : K.act) (m :
    Master) (p : Fin 2) (on : Bool) (s : State) {s' : State} (hr : execStoRequest m p on s = .next s') :
    s'.mask K = s.mask K := by
  unfold execStoRequest at hr
  injection hr with hr; subst hr; simp only [↓apply_ite (State.mask K), ite_self, ↓foldl_mask, implies_true, ↓(kreqField_mask kA kC kD kF kJ kM kP)]

theorem execStoRelease_mask {K : Parts} (kA : K.regs) (kC : K.resp) (kD : K.sys) (kF : K.fab) (kJ : K.pwm) (kM : K.kln) (kP : K.act) (m :
    Master) (p : Fin 2) (on : Bool) (s : State) {s' : State} (hr : execStoRelease m p on s = .next s') :
    s'.mask K = s.mask K := by
  unfold execStoRelease at hr
  injection hr with hr; subst hr; simp only [↓apply_ite (State.mask K), ite_self, ↓foldl_mask, implies_true, ↓(kreqField_mask kA kC kD kF kJ kM kP)]

theorem execBrakeRelease_mask {K : Parts} (kA : K.regs) (kC : K.resp) (kD : K.sys) (kF : K.fab) (kJ : K.pwm) (kM : K.kln) (kP : K.act) (m
    : Master) (p : Fin 2) (on : Bool) (s : State) {s' : State} (hr : execBrakeRelease m p on s = .next s') :
    s'.mask K = s.mask K := by
  unfold execBrakeRelease at hr
  injection hr with hr; subst hr; simp only [↓apply_ite (State.mask K), ite_self, ↓foldl_mask, implies_true, ↓(kreqField_mask kA kC kD kF kJ kM kP)]

theorem execGenRelease_mask {K : Parts} (kA : K.regs) (kC : K.resp) (kD : K.sys) (kF : K.fab) (kJ : K.pwm) (kM : K.kln) (kP : K.act) (m :
    Master) (p : Fin 2) (bits : BitVec 4) (s : State) {s' : State} (hr : execGenRelease m p bits s = .next s') :
    s'.mask K = s.mask K := by
  unfold execGenRelease at hr
  injection hr with hr; subst hr; simp only [↓apply_ite (State.mask K), ite_self, ↓foldl_mask, implies_true, ↓(kreqField_mask kA kC kD kF kJ kM kP)]

theorem execStoFeedbackTimeout_mask {K : Parts} (kA : K.regs) (kD : K.sys) (kF : K.fab) (kJ : K.pwm) (kM : K.kln) (kP : K.act) (s :
    State) {s' : State} (hr : execStoFeedbackTimeout s = .next s') :
    s'.mask K = s.mask K := by
  unfold execStoFeedbackTimeout at hr
  injection hr with hr; subst hr; simp only [↓apply_ite (State.mask K), ite_self, ↓foldl_mask, implies_true, ↓(kilnCond_mask kA kD kF kJ kM kP)]

theorem execBrakeFeedbackTimeout_mask {K : Parts} (kA : K.regs) (kD : K.sys) (kF : K.fab) (kJ : K.pwm) (kM : K.kln) (kP : K.act) (agrees
    : Bool) (s : State) {s' : State} (hr : execBrakeFeedbackTimeout agrees s = .next s') :
    s'.mask K = s.mask K := by
  unfold execBrakeFeedbackTimeout at hr
  injection hr with hr; subst hr; simp only [↓apply_ite (State.mask K), ite_self, ↓foldl_mask, implies_true, ↓(kilnCond_mask kA kD kF kJ kM kP)]

theorem execDarkPulseStart_mask {K : Parts} (kM : K.kln) (sw : Fin 3) (s : State) {s' : State} (hr : execDarkPulseStart sw s = .next s') :
    s'.mask K = s.mask K := by
  unfold execDarkPulseStart at hr
  injection hr with hr; subst hr; simp only [↓apply_ite (State.mask K), ite_self, ↓foldl_mask, implies_true, ↓(setKln_mask kM)]

theorem execDarkPulseEnd_mask {K : Parts} (kA : K.regs) (kD : K.sys) (kF : K.fab) (kJ : K.pwm) (kM : K.kln) (kP : K.act) (sw : Fin 3)
    (off : Bool) (s : State) {s' : State} (hr : execDarkPulseEnd sw off s = .next s') :
    s'.mask K = s.mask K := by
  unfold execDarkPulseEnd at hr
  injection hr with hr; subst hr; simp only [↓apply_ite (State.mask K), ite_self, ↓foldl_mask, implies_true, ↓(setKln_mask kM), ↓(kilnCond_mask kA kD kF kJ kM kP), ↓(raise_mask kA kF)]

theorem execKilnComparatorTest_mask {K : Parts} (kA : K.regs) (kD : K.sys) (kF : K.fab) (kJ : K.pwm) (kM : K.kln) (kP : K.act) (missed :
    Bool) (s : State) {s' : State} (hr : execKilnComparatorTest missed s = .next s') :
    s'.mask K = s.mask K := by
  unfold execKilnComparatorTest at hr
  injection hr with hr; subst hr; simp only [↓apply_ite (State.mask K), ite_self, ↓foldl_mask, implies_true, ↓(kilnApply_mask kA kD kF kJ kM kP), ↓(raise_mask kA kF)]

theorem execCtrlReact_mask {K : Parts} (kA : K.regs) (kF : K.fab) (kJ : K.pwm) (kM : K.kln) (kP : K.act) (s : State) {s' : State} (hr :
    execCtrlReact s = .next s') :
    s'.mask K = s.mask K := by
  unfold execCtrlReact at hr
  injection hr with hr; subst hr; simp only [↓apply_ite (State.mask K), ite_self, ↓foldl_mask, implies_true, ↓(setKln_mask kM), ↓(kilnLatch_mask kA kF kJ kM kP), ↓(kilnRecord_mask kM)]; (repeat' split) <;> first | (simp only [↓apply_ite (State.mask K), ite_self, ↓foldl_mask, implies_true, ↓(setKln_mask kM), ↓(kilnLatch_mask kA kF kJ kM kP), ↓(kilnRecord_mask kM)]; done) | (simp only [↓apply_ite (State.mask K), ite_self, ↓foldl_mask, implies_true, ↓(setKln_mask kM), ↓(kilnLatch_mask kA kF kJ kM kP), ↓(kilnRecord_mask kM)]; (repeat' split) <;> first | (simp only [↓apply_ite (State.mask K), ite_self, ↓foldl_mask, implies_true, ↓(setKln_mask kM), ↓(kilnLatch_mask kA kF kJ kM kP), ↓(kilnRecord_mask kM)]; done) | rfl | grind [setKln_mask, kilnLatch_mask, kilnRecord_mask]) | rfl | grind [setKln_mask, kilnLatch_mask, kilnRecord_mask]

theorem kilnMirror_mask {K : Parts} (kA : K.regs) (s : State) :
    (kilnMirror s).mask K = s.mask K := by
  simp only [kilnMirror, ↓apply_ite (State.mask K), ite_self, ↓foldl_mask, implies_true, ↓(set_mask kA), ↓(setB_mask kA)]

theorem execKilnMirrorRefresh_mask {K : Parts} (kA : K.regs) (s : State) {s' : State} (hr : execKilnMirrorRefresh s = .next s') :
    s'.mask K = s.mask K := by
  unfold execKilnMirrorRefresh at hr
  injection hr with hr; subst hr; simp only [↓apply_ite (State.mask K), ite_self, ↓foldl_mask, implies_true, ↓(kilnMirror_mask kA)]

theorem hbMiss_mask {K : Parts} (kA : K.regs) (kD : K.sys) (kF : K.fab) (kJ : K.pwm) (kM : K.kln) (kP : K.act) (p : Nat) (c : Nat) (s :
    State) :
    (hbMiss p c s).mask K = s.mask K := by
  simp only [hbMiss, ↓apply_ite (State.mask K), ite_self, ↓foldl_mask, implies_true, ↓(setKln_mask kM), ↓(kilnApplyAs_mask kA kD kF kJ kM kP), ↓(kilnCond_mask kA kD kF kJ kM kP), ↓(raise_mask kA kF)]

theorem hbChallenge_mask {K : Parts} (kA : K.regs) (kD : K.sys) (kF : K.fab) (kJ : K.pwm) (kM : K.kln) (kP : K.act) (p : Nat) (q : Nat)
    (s : State) :
    (hbChallenge p q s).mask K = s.mask K := by
  simp only [hbChallenge, ↓apply_ite (State.mask K), ite_self, ↓set_mask kA, ↓kilnCond_mask kA kD kF kJ kM kP, ↓setKln_mask kM]
  exact foldl_mask _ (fun t c => by split <;> first | rfl | exact setKln_mask kM _ _ | exact hbMiss_mask kA kD kF kJ kM kP _ _ _) _ _

theorem execHeartbeatChallenge_mask {K : Parts} (kA : K.regs) (kD : K.sys) (kF : K.fab) (kJ : K.pwm) (kM : K.kln) (kP : K.act) (qa : Fin
    16) (qb : Fin 16) (s : State) {s' : State} (hr : execHeartbeatChallenge qa qb s = .next s') :
    s'.mask K = s.mask K := by
  unfold execHeartbeatChallenge at hr
  injection hr with hr; subst hr; simp only [↓apply_ite (State.mask K), ite_self, ↓foldl_mask, implies_true, ↓(setKln_mask kM), ↓(hbChallenge_mask kA kD kF kJ kM kP)]

theorem hbAnswer_mask {K : Parts} (kA : K.regs) (kM : K.kln) (p : Nat) (c : Nat) (us : Nat) (value : Word) (s : State) :
    (hbAnswer p c us value s).mask K = s.mask K := by
  simp only [hbAnswer, ↓apply_ite (State.mask K), ite_self, ↓foldl_mask, implies_true, ↓(setKln_mask kM), ↓(updArm_mask kA)]; (repeat' split) <;> first | (simp only [↓apply_ite (State.mask K), ite_self, ↓foldl_mask, implies_true, ↓(setKln_mask kM), ↓(updArm_mask kA)]; done) | (simp only [↓apply_ite (State.mask K), ite_self, ↓foldl_mask, implies_true, ↓(setKln_mask kM), ↓(updArm_mask kA)]; (repeat' split) <;> first | (simp only [↓apply_ite (State.mask K), ite_self, ↓foldl_mask, implies_true, ↓(setKln_mask kM), ↓(updArm_mask kA)]; done) | rfl | grind [setKln_mask, updArm_mask]) | rfl | grind [setKln_mask, updArm_mask]

theorem execHeartbeatAnswer_mask {K : Parts} (kA : K.regs) (kC : K.resp) (kM : K.kln) (m : Master) (p : Fin 2) (one : Bool) (value :
    Word) (us : Nat) (s : State) {s' : State} (hr : execHeartbeatAnswer m p one value us s = .next s') :
    s'.mask K = s.mask K := by
  unfold execHeartbeatAnswer at hr
  injection hr with hr; subst hr; simp only [↓apply_ite (State.mask K), ite_self, ↓foldl_mask, implies_true, ↓(answer_mask kC), ↓(busError_mask kC), ↓(hbAnswer_mask kA kM)]; (repeat' split) <;> first | (simp only [↓apply_ite (State.mask K), ite_self, ↓foldl_mask, implies_true, ↓(answer_mask kC), ↓(busError_mask kC), ↓(hbAnswer_mask kA kM)]; done) | (simp only [↓apply_ite (State.mask K), ite_self, ↓foldl_mask, implies_true, ↓(answer_mask kC), ↓(busError_mask kC), ↓(hbAnswer_mask kA kM)]; (repeat' split) <;> first | (simp only [↓apply_ite (State.mask K), ite_self, ↓foldl_mask, implies_true, ↓(answer_mask kC), ↓(busError_mask kC), ↓(hbAnswer_mask kA kM)]; done) | rfl | grind [answer_mask, busError_mask, hbAnswer_mask]) | rfl | grind [answer_mask, busError_mask, hbAnswer_mask]

theorem setWin_mask {K : Parts} (kG : K.afe) (s : State) (n : Nat) (w : Nat) (x : WinSt) :
    (State.setWin s n w x).mask K = s.mask K := by
  simp only [State.setWin, ↓apply_ite (State.mask K), ite_self, ↓foldl_mask, implies_true, mask_afe kG]

theorem setSlices_mask {K : Parts} (kG : K.afe) (s : State) (n : Nat) (x : SliceSt) :
    (State.setSlices s n x).mask K = s.mask K := by
  simp only [State.setSlices, ↓apply_ite (State.mask K), ite_self, ↓foldl_mask, implies_true, mask_afe kG]

theorem setTwin_mask {K : Parts} (kH : K.hk) (s : State) (n : Nat) (x : TwinSt) :
    (State.setTwin s n x).mask K = s.mask K := by
  simp only [State.setTwin, ↓apply_ite (State.mask K), ite_self, ↓foldl_mask, implies_true, mask_hk kH]

theorem execWindowStart_mask {K : Parts} (kG : K.afe) (ch : Fin 48) (win : Fin 2) (s : State) {s' : State} (hr : execWindowStart ch win s
    = .next s') :
    s'.mask K = s.mask K := by
  unfold execWindowStart at hr
  injection hr with hr; subst hr; simp only [↓apply_ite (State.mask K), ite_self, ↓foldl_mask, implies_true, ↓(setWin_mask kG)]

theorem execSegmentAnchor_mask {K : Parts} (kG : K.afe) (ch : Fin 48) (win : Fin 2) (leg : Fin 32) (next : Option (Fin 32)) (apart : Nat)
    (s : State) {s' : State} (hr : execSegmentAnchor ch win leg next apart s = .next s') :
    s'.mask K = s.mask K := by
  unfold execSegmentAnchor at hr
  injection hr with hr; subst hr; simp only [↓apply_ite (State.mask K), ite_self, ↓foldl_mask, implies_true, ↓(setWin_mask kG)]

theorem execPointSample_mask {K : Parts} (kG : K.afe) (ch : Fin 48) (pt : Fin 4) (samples : List RawSample) (frac : Fin 8) (age : Nat) (s
    : State) {s' : State} (hr : execPointSample ch pt samples frac age s = .next s') :
    s'.mask K = s.mask K := by
  unfold execPointSample at hr
  injection hr with hr; subst hr; simp only [↓apply_ite (State.mask K), ite_self, ↓foldl_mask, implies_true, ↓(setWin_mask kG)]

theorem keepPoints_mask {K : Parts} (kG : K.afe) (n : Nat) (w : Nat) (os : List (Int × Bool)) (s : State) :
    (keepPoints n w os s).mask K = s.mask K := by
  unfold keepPoints
  exact foldl_mask _ (fun t p => by (repeat' split) <;> first | rfl | exact mask_afe kG _ _) _ _

theorem closeWindow_mask {K : Parts} (kA : K.regs) (kF : K.fab) (kG : K.afe) (n : Nat) (w : Nat) (samples : List RawSample) (abort :
    Bool) (s : State) :
    (closeWindow n w samples abort s).mask K = s.mask K := by
  simp only [closeWindow, ↓apply_ite (State.mask K), ite_self, ↓foldl_mask, implies_true, ↓(bump_mask kA), ↓(set_mask kA), ↓(setWin_mask kG), ↓(keepPoints_mask kG), ↓(raise_mask kA kF)]

theorem drainWindow_mask {K : Parts} (kA : K.regs) (n : Nat) (w : Nat) (s : State) :
    (drainWindow n w s).mask K = s.mask K := by
  simp only [drainWindow, ↓apply_ite (State.mask K), ite_self, ↓foldl_mask, implies_true, ↓(set_mask kA)]

theorem execWindowDisable_mask {K : Parts} (kA : K.regs) (ch : Fin 48) (win : Fin 2) (s : State) {s' : State} (hr : execWindowDisable ch
    win s = .next s') :
    s'.mask K = s.mask K := by
  unfold execWindowDisable at hr
  injection hr with hr; subst hr; simp only [↓apply_ite (State.mask K), ite_self, ↓foldl_mask, implies_true, ↓(set_mask kA), ↓(drainWindow_mask kA)]

theorem execAfeChannelDisable_mask {K : Parts} (kA : K.regs) (ch : Fin 48) (s : State) {s' : State} (hr : execAfeChannelDisable ch s =
    .next s') :
    s'.mask K = s.mask K := by
  unfold execAfeChannelDisable at hr
  injection hr with hr; subst hr; simp only [↓apply_ite (State.mask K), ite_self, ↓foldl_mask, implies_true, ↓(set_mask kA), ↓(drainWindow_mask kA)]

theorem substitution_mask {K : Parts} (kA : K.regs) (kF : K.fab) (flag : Fld) (s : State) :
    (substitution flag s).mask K = s.mask K := by
  simp only [substitution, ↓apply_ite (State.mask K), ite_self, ↓foldl_mask, implies_true, ↓(bump_mask kA), ↓(set_mask kA), ↓(raise_mask kA kF)]

theorem failChannel_mask {K : Parts} (kA : K.regs) (kD : K.sys) (kF : K.fab) (kM : K.kln) (n : Nat) (code : Nat) (s : State) :
    (failChannel n code s).mask K = s.mask K := by
  simp only [failChannel, ↓apply_ite (State.mask K), ite_self, ↓foldl_mask, implies_true, ↓(bump_mask kA), ↓(set_mask kA), ↓(issue_mask kD kM), ↓(raise_mask kA kF)]

theorem failSlice_mask {K : Parts} (kA : K.regs) (kD : K.sys) (kF : K.fab) (kG : K.afe) (kM : K.kln) (n : Nat) (slice : Nat) (s : State) :
    (failSlice n slice s).mask K = s.mask K := by
  simp only [failSlice, ↓apply_ite (State.mask K), ite_self, ↓foldl_mask, implies_true, ↓(bump_mask kA), ↓(set_mask kA), ↓(setBit_mask kA), ↓(setSlices_mask kG), ↓(failChannel_mask kA kD kF kM), ↓(issue_mask kD kM), ↓(raise_mask kA kF), ↓(substitution_mask kA kF), ↓(setI_mask kA)]

theorem execSliceTimeout_mask {K : Parts} (kA : K.regs) (kD : K.sys) (kF : K.fab) (kG : K.afe) (kM : K.kln) (ch : Fin 48) (slot : Fin 8)
    (s : State) {s' : State} (hr : execSliceTimeout ch slot s = .next s') :
    s'.mask K = s.mask K := by
  unfold execSliceTimeout at hr
  injection hr with hr; subst hr; simp only [↓apply_ite (State.mask K), ite_self, ↓foldl_mask, implies_true, ↓(failSlice_mask kA kD kF kG kM)]

theorem skewUpdate_mask {K : Parts} (kA : K.regs) (n : Nat) (k : SlotSkew) (s : State) :
    (skewUpdate n k s).mask K = s.mask K := by
  simp only [skewUpdate, ↓apply_ite (State.mask K), ite_self, ↓foldl_mask, implies_true, ↓(set_mask kA), ↓(setI_mask kA)]

theorem execRotationStep_mask {K : Parts} (kA : K.regs) (kD : K.sys) (kF : K.fab) (kG : K.afe) (kM : K.kln) (ch : Fin 48) (shadowSum :
    Nat) (skew : List SlotSkew) (s : State) {s' : State} (hr : execRotationStep ch shadowSum skew s = .next s') :
    s'.mask K = s.mask K := by
  unfold execRotationStep at hr
  injection hr with hr; subst hr; simp only [↓apply_ite (State.mask K), ite_self, ↓foldl_mask, implies_true, ↓(set_mask kA), ↓(setI_mask kA), ↓(setSlices_mask kG), ↓(failSlice_mask kA kD kF kG kM), ↓(skewUpdate_mask kA)]

theorem execSpareCalibration_mask {K : Parts} (kA : K.regs) (kD : K.sys) (kF : K.fab) (kG : K.afe) (kM : K.kln) (ch : Fin 48) (ofs : Int)
    (gain : Nat) (s : State) {s' : State} (hr : execSpareCalibration ch ofs gain s = .next s') :
    s'.mask K = s.mask K := by
  unfold execSpareCalibration at hr
  injection hr with hr; subst hr; simp only [↓apply_ite (State.mask K), ite_self, ↓foldl_mask, implies_true, ↓(setSlices_mask kG), ↓(failSlice_mask kA kD kF kG kM)]

theorem execRefEnable_mask {K : Parts} (kA : K.regs) (kC : K.resp) (m : Master) (s : State) {s' : State} (hr : execRefEnable m s = .next
    s') :
    s'.mask K = s.mask K := by
  unfold execRefEnable at hr
  injection hr with hr; subst hr; simp only [↓apply_ite (State.mask K), ite_self, ↓foldl_mask, implies_true, ↓(answer_mask kC), ↓(set_mask kA), ↓(busError_mask kC)]

theorem execRefReady_mask {K : Parts} (kA : K.regs) (kD : K.sys) (kF : K.fab) (kG : K.afe) (kM : K.kln) (cals : List SliceCal) (s :
    State) {s' : State} (hr : execRefReady cals s = .next s') :
    s'.mask K = s.mask K := by
  unfold execRefReady at hr
  injection hr with hr; subst hr; simp only [↓apply_ite (State.mask K), ite_self, ↓foldl_mask, implies_true, ↓(set_mask kA), ↓(setI_mask kA), ↓(failSlice_mask kA kD kF kG kM), ↓(raise_mask kA kF)]

theorem refDisable_mask {K : Parts} (kA : K.regs) (s : State) :
    (refDisable s).mask K = s.mask K := by
  simp only [refDisable, ↓apply_ite (State.mask K), ite_self, ↓foldl_mask, implies_true, ↓(set_mask kA)]

theorem execRefDisable_mask {K : Parts} (kA : K.regs) (kC : K.resp) (m : Master) (s : State) {s' : State} (hr : execRefDisable m s =
    .next s') :
    s'.mask K = s.mask K := by
  unfold execRefDisable at hr
  injection hr with hr; subst hr; simp only [↓apply_ite (State.mask K), ite_self, ↓foldl_mask, implies_true, ↓(answer_mask kC), ↓(busError_mask kC), ↓(refDisable_mask kA)]

theorem execRefBufferFault_mask {K : Parts} (kA : K.regs) (kD : K.sys) (kF : K.fab) (kM : K.kln) (buf : Fin 6) (s : State) {s' : State}
    (hr : execRefBufferFault buf s = .next s') :
    s'.mask K = s.mask K := by
  unfold execRefBufferFault at hr
  injection hr with hr; subst hr; simp only [↓apply_ite (State.mask K), ite_self, ↓foldl_mask, implies_true, ↓(setBit_mask kA), ↓(issue_mask kD kM), ↓(raise_mask kA kF)]

theorem sliceCoefWrite_mask {K : Parts} (kA : K.regs) (n : Nat) (k : Nat) (value : Word) (s : State) :
    (sliceCoefWrite n k value s).mask K = s.mask K := by
  simp only [sliceCoefWrite, ↓apply_ite (State.mask K), ite_self, ↓foldl_mask, implies_true, ↓(wr_mask kA)]

theorem execSliceCoefWrite_mask {K : Parts} (kA : K.regs) (kC : K.resp) (m : Master) (ch : Fin 48) (slice : Fin 9) (value : Word) (s :
    State) {s' : State} (hr : execSliceCoefWrite m ch slice value s = .next s') :
    s'.mask K = s.mask K := by
  unfold execSliceCoefWrite at hr
  injection hr with hr; subst hr; simp only [↓apply_ite (State.mask K), ite_self, ↓foldl_mask, implies_true, ↓(answer_mask kC), ↓(busError_mask kC), ↓(sliceCoefWrite_mask kA)]

theorem hkInput_mask {K : Parts} (kA : K.regs) (kH : K.hk) (i : Nat) (code : Nat) (s : State) :
    (hkInput i code s).mask K = s.mask K := by
  simp only [hkInput, ↓apply_ite (State.mask K), ite_self, ↓foldl_mask, implies_true, mask_hk kH, ↓(set_mask kA), ↓(setB_mask kA)]

theorem hkRefFail_mask {K : Parts} (kA : K.regs) (c : Nat) (s : State) :
    (hkRefFail c s).mask K = s.mask K := by
  simp only [hkRefFail, ↓apply_ite (State.mask K), ite_self, ↓foldl_mask, implies_true, ↓(set_mask kA)]

theorem hkReference_mask {K : Parts} (kA : K.regs) (c : Nat) (r : Nat) (code : BitVec 12) (s : State) :
    (hkReference c r code s).mask K = s.mask K := by
  simp only [hkReference, ↓apply_ite (State.mask K), ite_self, ↓foldl_mask, implies_true, ↓(hkRefFail_mask kA)]

theorem loseTwins_mask {K : Parts} (kA : K.regs) (kD : K.sys) (kF : K.fab) (kM : K.kln) (c : Nat) (code : Nat) (s : State) :
    (loseTwins c code s).mask K = s.mask K := by
  simp only [loseTwins, ↓apply_ite (State.mask K), ite_self, ↓foldl_mask, implies_true, ↓(set_mask kA), ↓(issue_mask kD kM), ↓(raise_mask kA kF)]

theorem twinCheck_mask {K : Parts} (kA : K.regs) (kF : K.fab) (kH : K.hk) (n : Nat) (s : State) :
    (twinCheck n s).mask K = s.mask K := by
  simp only [twinCheck, ↓apply_ite (State.mask K), ite_self, ↓foldl_mask, implies_true, ↓(set_mask kA), ↓(setTwin_mask kH), ↓(raise_mask kA kF)]

theorem twinConvert_mask {K : Parts} (kA : K.regs) (kF : K.fab) (kH : K.hk) (n : Nat) (code : BitVec 12) (fa : Option Int) (s : State) :
    (twinConvert n code fa s).1.mask K = s.mask K := by
  simp only [twinConvert, ↓apply_ite (State.mask K), ite_self, ↓foldl_mask, implies_true, ↓apply_ite Prod.snd, ↓apply_ite Prod.fst, ↓(setTwin_mask kH), ↓(twinCheck_mask kA kF kH)]

theorem twinArbitration_mask {K : Parts} (kA : K.regs) (kD : K.sys) (kF : K.fab) (kG : K.afe) (kH : K.hk) (kM : K.kln) (n : Nat) (refOk :
    Bool) (spareDisagrees : Bool) (slot : Nat) (s : State) :
    (twinArbitration n refOk spareDisagrees slot s).mask K = s.mask K := by
  simp only [twinArbitration, ↓apply_ite (State.mask K), ite_self, ↓foldl_mask, implies_true, ↓(setTwin_mask kH), ↓(failChannel_mask kA kD kF kM), ↓(failSlice_mask kA kD kF kG kM), ↓(hkRefFail_mask kA), ↓(loseTwins_mask kA kD kF kM), ↓(substitution_mask kA kF)]

theorem twinStrobeLost_mask {K : Parts} (kA : K.regs) (kD : K.sys) (kF : K.fab) (kM : K.kln) (c : Nat) (s : State) :
    (twinStrobeLost c s).mask K = s.mask K := by
  simp only [twinStrobeLost, ↓apply_ite (State.mask K), ite_self, ↓foldl_mask, implies_true, ↓(loseTwins_mask kA kD kF kM), ↓(substitution_mask kA kF)]

theorem emfUpdates_mask {K : Parts} (kA : K.regs) (kD : K.sys) (kF : K.fab) (kJ : K.pwm) (kK : K.cnv) (kL : K.fly) (kM : K.kln) (kP :
    K.act) (n : Nat) (wlen : Nat) (d : SnapAge) (s : State) :
    (emfUpdates n wlen d s).mask K = s.mask K := by
  simp only [emfUpdates, ↓apply_ite (State.mask K), ite_self, ↓foldl_mask, implies_true, ↓(emfUpdate_mask kA kD kF kJ kK kL kM kP)]

theorem windowEnd_mask {K : Parts} (kA : K.regs) (kD : K.sys) (kF : K.fab) (kG : K.afe) (kJ : K.pwm) (kK : K.cnv) (kL : K.fly) (kM :
    K.kln) (kP : K.act) (n : Nat) (w : Nat) (samples : List RawSample) (abort : Bool) (d : SnapAge) (s : State) :
    (windowEnd n w samples abort d s).mask K = s.mask K := by
  simp only [windowEnd, ↓apply_ite (State.mask K), ite_self, ↓foldl_mask, implies_true, ↓(closeWindow_mask kA kF kG), ↓(emfUpdates_mask kA kD kF kJ kK kL kM kP), ↓(takeSnapshot_mask kL)]

theorem execWindowEnd_mask {K : Parts} (kA : K.regs) (kD : K.sys) (kF : K.fab) (kG : K.afe) (kJ : K.pwm) (kK : K.cnv) (kL : K.fly) (kM :
    K.kln) (kP : K.act) (ch : Fin 48) (win : Fin 2) (samples : List RawSample) (d : SnapAge) (s : State) {s' : State} (hr : execWindowEnd ch win samples d s = .next s') :
    s'.mask K = s.mask K := by
  unfold execWindowEnd at hr
  injection hr with hr; subst hr; simp only [↓apply_ite (State.mask K), ite_self, ↓foldl_mask, implies_true, ↓(windowEnd_mask kA kD kF kG kJ kK kL kM kP)]

theorem execWindowAbort_mask {K : Parts} (kA : K.regs) (kD : K.sys) (kF : K.fab) (kG : K.afe) (kJ : K.pwm) (kK : K.cnv) (kL : K.fly) (kM
    : K.kln) (kP : K.act) (ch : Fin 48) (win : Fin 2) (samples : List RawSample) (d : SnapAge) (s : State) {s' : State} (hr : execWindowAbort ch win samples d s = .next s') :
    s'.mask K = s.mask K := by
  unfold execWindowAbort at hr
  injection hr with hr; subst hr; simp only [↓apply_ite (State.mask K), ite_self, ↓foldl_mask, implies_true, ↓(windowEnd_mask kA kD kF kG kJ kK kL kM kP)]

theorem markConflicts_mask {K : Parts} (kA : K.regs) (n : Nat) (s : State) :
    (markConflicts n s).mask K = s.mask K := by
  simp only [markConflicts, ↓apply_ite (State.mask K), ite_self, ↓foldl_mask, implies_true, ↓(set_mask kA)]

theorem execAfeResultDelivery_mask {K : Parts} (kA : K.regs) (kB : K.mem) (kG : K.afe) (kL : K.fly) (ch : Fin 48) (win : Fin 2) (s :
    State) {s' : State} (hr : execAfeResultDelivery ch win s = .next s') :
    s'.mask K = s.mask K := by
  unfold execAfeResultDelivery at hr
  injection hr with hr; subst hr; simp only [↓apply_ite (State.mask K), ite_self, ↓foldl_mask, implies_true, mask_fly kL, ↓(setBytes_mask kB), ↓(setWin_mask kG), ↓(deliver_mask kA)]; (repeat' split) <;> first | (simp only [↓apply_ite (State.mask K), ite_self, ↓foldl_mask, implies_true, mask_fly kL, ↓(setBytes_mask kB), ↓(setWin_mask kG), ↓(deliver_mask kA)]; done) | (simp only [↓apply_ite (State.mask K), ite_self, ↓foldl_mask, implies_true, mask_fly kL, ↓(setBytes_mask kB), ↓(setWin_mask kG), ↓(deliver_mask kA)]; (repeat' split) <;> first | (simp only [↓apply_ite (State.mask K), ite_self, ↓foldl_mask, implies_true, mask_fly kL, ↓(setBytes_mask kB), ↓(setWin_mask kG), ↓(deliver_mask kA)]; done) | rfl | grind [setBytes_mask, setWin_mask, deliver_mask, mask_fly]) | rfl | grind [setBytes_mask, setWin_mask, deliver_mask, mask_fly]

theorem execHkConversionSlot_mask {K : Parts} (kA : K.regs) (kD : K.sys) (kF : K.fab) (kH : K.hk) (kJ : K.pwm) (kM : K.kln) (kP : K.act)
    (slot : HkSlot) (s : State) {s' : State} (hr : execHkConversionSlot slot s = .next s') :
    s'.mask K = s.mask K := by
  unfold execHkConversionSlot at hr
  injection hr with hr; subst hr; simp only [↓apply_ite (State.mask K), ite_self, ↓foldl_mask, implies_true, ↓apply_ite Prod.snd, ↓apply_ite Prod.fst, ↓(hkInput_mask kA kH), ↓(hkReference_mask kA), ↓(kilnBurst_mask kA kD kF kJ kM kP), ↓(kilnInputs_mask kA kD kF kJ kM kP), ↓(kilnLinkHk_mask kA kD kF kJ kM kP), ↓(twinConvert_mask kA kF kH)]; (repeat' split) <;> first | (simp only [↓apply_ite (State.mask K), ite_self, ↓foldl_mask, implies_true, ↓apply_ite Prod.snd, ↓apply_ite Prod.fst, ↓(hkInput_mask kA kH), ↓(hkReference_mask kA), ↓(kilnBurst_mask kA kD kF kJ kM kP), ↓(kilnInputs_mask kA kD kF kJ kM kP), ↓(kilnLinkHk_mask kA kD kF kJ kM kP), ↓(twinConvert_mask kA kF kH)]; done) | (simp only [↓apply_ite (State.mask K), ite_self, ↓foldl_mask, implies_true, ↓apply_ite Prod.snd, ↓apply_ite Prod.fst, ↓(hkInput_mask kA kH), ↓(hkReference_mask kA), ↓(kilnBurst_mask kA kD kF kJ kM kP), ↓(kilnInputs_mask kA kD kF kJ kM kP), ↓(kilnLinkHk_mask kA kD kF kJ kM kP), ↓(twinConvert_mask kA kF kH)]; (repeat' split) <;> first | (simp only [↓apply_ite (State.mask K), ite_self, ↓foldl_mask, implies_true, ↓apply_ite Prod.snd, ↓apply_ite Prod.fst, ↓(hkInput_mask kA kH), ↓(hkReference_mask kA), ↓(kilnBurst_mask kA kD kF kJ kM kP), ↓(kilnInputs_mask kA kD kF kJ kM kP), ↓(kilnLinkHk_mask kA kD kF kJ kM kP), ↓(twinConvert_mask kA kF kH)]; done) | rfl | grind [hkInput_mask, hkReference_mask, kilnBurst_mask, kilnInputs_mask, kilnLinkHk_mask, twinConvert_mask]) | rfl | grind [hkInput_mask, hkReference_mask, kilnBurst_mask, kilnInputs_mask, kilnLinkHk_mask, twinConvert_mask]

theorem execTwinArbitrationEnd_mask {K : Parts} (kA : K.regs) (kD : K.sys) (kF : K.fab) (kG : K.afe) (kH : K.hk) (kJ : K.pwm) (kM :
    K.kln) (kP : K.act) (ch : Fin 48) (refOk : Bool) (spareDisagrees : Bool) (slot : Fin 8) (s : State) {s' : State} (hr : execTwinArbitrationEnd ch refOk spareDisagrees slot s = .next s') :
    s'.mask K = s.mask K := by
  unfold execTwinArbitrationEnd at hr
  injection hr with hr; subst hr; simp only [↓apply_ite (State.mask K), ite_self, ↓foldl_mask, implies_true, ↓(kilnInputs_mask kA kD kF kJ kM kP), ↓(twinArbitration_mask kA kD kF kG kH kM)]

theorem execTwinStrobeTimeout_mask {K : Parts} (kA : K.regs) (kD : K.sys) (kF : K.fab) (kJ : K.pwm) (kM : K.kln) (kP : K.act) (conv : Fin
    4) (s : State) {s' : State} (hr : execTwinStrobeTimeout conv s = .next s') :
    s'.mask K = s.mask K := by
  unfold execTwinStrobeTimeout at hr
  injection hr with hr; subst hr; simp only [↓apply_ite (State.mask K), ite_self, ↓foldl_mask, implies_true, ↓(kilnInputs_mask kA kD kF kJ kM kP), ↓(twinStrobeLost_mask kA kD kF kM)]

theorem execScrubWord_mask {K : Parts} (kA : K.regs) (kD : K.sys) (kF : K.fab) (kI : K.whl) (kJ : K.pwm) (kK : K.cnv) (kM : K.kln) (kP :
    K.act) (kS : K.tnd) (kT : K.upd) (u : ScrubMem) (synd : Syndrome) (s : State) {s' : State} (hr : execScrubWord u synd s = .next s') :
    s'.mask K = s.mask K := by
  unfold execScrubWord at hr
  split at hr <;> (injection hr with hr; subst hr; (repeat' split) <;> first | (simp only [↓apply_ite (State.mask K), ite_self, ↓foldl_mask, implies_true, ↓apply_ite Prod.snd, ↓apply_ite Prod.fst, ↓(scrubPoisonWhorl_mask kA kD kF kI kJ kK kM kP kS kT), ↓(scrubStep_mask kA kD kF kM)]; done) | (simp only [↓apply_ite (State.mask K), ite_self, ↓foldl_mask, implies_true, ↓apply_ite Prod.snd, ↓apply_ite Prod.fst, ↓(scrubPoisonWhorl_mask kA kD kF kI kJ kK kM kP kS kT), ↓(scrubStep_mask kA kD kF kM)]; (repeat' split) <;> first | (simp only [↓apply_ite (State.mask K), ite_self, ↓foldl_mask, implies_true, ↓apply_ite Prod.snd, ↓apply_ite Prod.fst, ↓(scrubPoisonWhorl_mask kA kD kF kI kJ kK kM kP kS kT), ↓(scrubStep_mask kA kD kF kM)]; done) | rfl | grind [scrubPoisonWhorl_mask, scrubStep_mask]) | rfl | grind [scrubPoisonWhorl_mask, scrubStep_mask])

theorem setMach_mask {K : Parts} (kO : K.sup) (s : State) (m : Nat) (x : MachSup) :
    (State.setMach s m x).mask K = s.mask K := by
  simp only [State.setMach, ↓apply_ite (State.mask K), ite_self, ↓foldl_mask, implies_true, mask_sup kO]

theorem setWset_mask {K : Parts} (kO : K.sup) (s : State) (i : Nat) (x : SetSup) :
    (State.setWset s i x).mask K = s.mask K := by
  simp only [State.setWset, ↓apply_ite (State.mask K), ite_self, ↓foldl_mask, implies_true, mask_sup kO]

theorem quietly_mask {K : Parts} (kC : K.resp) (f : State → State) (s : State) (hf : ∀ t, (f t).mask K = t.mask K) :
    (quietly f s).mask K = s.mask K := by
  simp only [quietly, ↓apply_ite (State.mask K), ite_self, ↓foldl_mask, implies_true, mask_resp kC, hf]

theorem limitTask_mask {K : Parts} (kO : K.sup) (i : Nat) (p : SetPar) (s : State) :
    (limitTask i p s).mask K = s.mask K := by
  simp only [limitTask, ↓apply_ite (State.mask K), ite_self, ↓foldl_mask, implies_true, ↓(setWset_mask kO)]

theorem shareTorque_mask {K : Parts} (kO : K.sup) (m : Nat) (t : Int) (s : State) :
    (shareTorque m t s).mask K = s.mask K := by
  simp only [shareTorque, ↓apply_ite (State.mask K), ite_self, ↓foldl_mask, implies_true, ↓(setWset_mask kO)]; (repeat' split) <;> first | (simp only [↓apply_ite (State.mask K), ite_self, ↓foldl_mask, implies_true, ↓(setWset_mask kO)]; done) | (simp only [↓apply_ite (State.mask K), ite_self, ↓foldl_mask, implies_true, ↓(setWset_mask kO)]; (repeat' split) <;> first | (simp only [↓apply_ite (State.mask K), ite_self, ↓foldl_mask, implies_true, ↓(setWset_mask kO)]; done) | rfl | grind [setWset_mask]) | rfl | grind [setWset_mask]

theorem speedTask_mask {K : Parts} (kO : K.sup) (m : Nat) (p : MachPar) (s : State) :
    (speedTask m p s).mask K = s.mask K := by
  simp only [speedTask, ↓apply_ite (State.mask K), ite_self, ↓foldl_mask, implies_true, ↓(setMach_mask kO)]

theorem execShockHoldEnd_mask {K : Parts} (kO : K.sup) (mach : Fin 2) (s : State) {s' : State} (hr : execShockHoldEnd mach s = .next s') :
    s'.mask K = s.mask K := by
  unfold execShockHoldEnd at hr
  injection hr with hr; subst hr; simp only [↓apply_ite (State.mask K), ite_self, ↓foldl_mask, implies_true, ↓(setMach_mask kO)]

theorem writeBatch_mask {K : Parts} (kA : K.regs) (kB : K.mem) (kC : K.resp) (kF : K.fab) (kI : K.whl) (w : Nat) (ws : List (Nat × Word))
    (s : State) :
    (writeBatch w ws s).mask K = s.mask K := by
  simp only [writeBatch, ↓apply_ite (State.mask K), ite_self, ↓foldl_mask, implies_true, ↓(set_mask kA), ↓(coefWrite_mask kA kB kC kF kI)]

theorem setTask_mask {K : Parts} (kA : K.regs) (kB : K.mem) (kC : K.resp) (kF : K.fab) (kI : K.whl) (kO : K.sup) (i : Nat) (p : SetPar)
    (s : State) :
    (setTask i p s).mask K = s.mask K := by
  simp only [setTask, ↓apply_ite (State.mask K), ite_self, ↓foldl_mask, implies_true, ↓(setWset_mask kO), ↓(writeBatch_mask kA kB kC kF kI)]

theorem armSet_mask {K : Parts} (kA : K.regs) (p : Nat) (s : State) :
    (armSet p s).mask K = s.mask K := by
  simp only [armSet, ↓apply_ite (State.mask K), ite_self, ↓foldl_mask, implies_true, ↓(set_mask kA)]

theorem toSrc14_mask {K : Parts} (kA : K.regs) (kL : K.fly) (m : Nat) (s : State) :
    (toSrc14 m s).mask K = s.mask K := by
  simp only [toSrc14, ↓apply_ite (State.mask K), ite_self, ↓foldl_mask, implies_true, ↓(set_mask kA), ↓(trkEnable_mask kA kL)]

theorem startRun_mask {K : Parts} (kA : K.regs) (kO : K.sup) (m : Nat) (how : StartPhase) (s : State) :
    (startRun m how s).mask K = s.mask K := by
  simp only [startRun, ↓apply_ite (State.mask K), ite_self, ↓foldl_mask, implies_true, ↓(setMach_mask kO), ↓(armSet_mask kA)]

theorem requestAsc_mask {K : Parts} (kJ : K.pwm) (m : Nat) (s : State) :
    (requestAsc m s).mask K = s.mask K := by
  simp only [requestAsc, ↓apply_ite (State.mask K), ite_self, ↓foldl_mask, implies_true, ↓(ascRequest_mask kJ)]

theorem releaseAsc_mask {K : Parts} (kA : K.regs) (kD : K.sys) (kF : K.fab) (kJ : K.pwm) (kK : K.cnv) (kL : K.fly) (kM : K.kln) (kP :
    K.act) (m : Nat) (s : State) :
    (releaseAsc m s).mask K = s.mask K := by
  simp only [releaseAsc, ↓apply_ite (State.mask K), ite_self, ↓foldl_mask, implies_true, ↓(armSet_mask kA), ↓(psetClear_mask kA kD kF kJ kK kL kM kP)]

theorem startTask_mask {K : Parts} (kA : K.regs) (kD : K.sys) (kF : K.fab) (kJ : K.pwm) (kK : K.cnv) (kL : K.fly) (kM : K.kln) (kO :
    K.sup) (kP : K.act) (m : Nat) (s : State) :
    (startTask m s).mask K = s.mask K := by
  simp only [startTask, ↓apply_ite (State.mask K), ite_self, ↓foldl_mask, implies_true, ↓(set_mask kA), ↓(setMach_mask kO), ↓(releaseAsc_mask kA kD kF kJ kK kL kM kP), ↓(requestAsc_mask kJ), ↓(startRun_mask kA kO), ↓(toSrc14_mask kA kL)]; (repeat' split) <;> first | (simp only [↓apply_ite (State.mask K), ite_self, ↓foldl_mask, implies_true, ↓(set_mask kA), ↓(setMach_mask kO), ↓(releaseAsc_mask kA kD kF kJ kK kL kM kP), ↓(requestAsc_mask kJ), ↓(startRun_mask kA kO), ↓(toSrc14_mask kA kL)]; done) | (simp only [↓apply_ite (State.mask K), ite_self, ↓foldl_mask, implies_true, ↓(set_mask kA), ↓(setMach_mask kO), ↓(releaseAsc_mask kA kD kF kJ kK kL kM kP), ↓(requestAsc_mask kJ), ↓(startRun_mask kA kO), ↓(toSrc14_mask kA kL)]; (repeat' split) <;> first | (simp only [↓apply_ite (State.mask K), ite_self, ↓foldl_mask, implies_true, ↓(set_mask kA), ↓(setMach_mask kO), ↓(releaseAsc_mask kA kD kF kJ kK kL kM kP), ↓(requestAsc_mask kJ), ↓(startRun_mask kA kO), ↓(toSrc14_mask kA kL)]; done) | rfl | grind [set_mask, setMach_mask, releaseAsc_mask, requestAsc_mask, startRun_mask, toSrc14_mask]) | rfl | grind [set_mask, setMach_mask, releaseAsc_mask, requestAsc_mask, startRun_mask, toSrc14_mask]

theorem execCatchPhaseEnd_mask {K : Parts} (kA : K.regs) (kL : K.fly) (kO : K.sup) (mach : Fin 2) (s : State) {s' : State} (hr :
    execCatchPhaseEnd mach s = .next s') :
    s'.mask K = s.mask K := by
  unfold execCatchPhaseEnd at hr
  injection hr with hr; subst hr; simp only [↓apply_ite (State.mask K), ite_self, ↓foldl_mask, implies_true, ↓(startRun_mask kA kO), ↓(toSrc14_mask kA kL)]

theorem lossTask_mask {K : Parts} (kA : K.regs) (kD : K.sys) (kF : K.fab) (kJ : K.pwm) (kK : K.cnv) (kL : K.fly) (kM : K.kln) (kO :
    K.sup) (kP : K.act) (m : Nat) (s : State) :
    (lossTask m s).mask K = s.mask K := by
  simp only [lossTask, ↓apply_ite (State.mask K), ite_self, ↓foldl_mask, implies_true, ↓(setMach_mask kO), ↓(armSet_mask kA), ↓(machAcq_mask kA kF kL), ↓(psetClear_mask kA kD kF kJ kK kL kM kP), ↓(toSrc14_mask kA kL)]; (repeat' split) <;> first | (simp only [↓apply_ite (State.mask K), ite_self, ↓foldl_mask, implies_true, ↓(setMach_mask kO), ↓(armSet_mask kA), ↓(machAcq_mask kA kF kL), ↓(psetClear_mask kA kD kF kJ kK kL kM kP), ↓(toSrc14_mask kA kL)]; done) | (simp only [↓apply_ite (State.mask K), ite_self, ↓foldl_mask, implies_true, ↓(setMach_mask kO), ↓(armSet_mask kA), ↓(machAcq_mask kA kF kL), ↓(psetClear_mask kA kD kF kJ kK kL kM kP), ↓(toSrc14_mask kA kL)]; (repeat' split) <;> first | (simp only [↓apply_ite (State.mask K), ite_self, ↓foldl_mask, implies_true, ↓(setMach_mask kO), ↓(armSet_mask kA), ↓(machAcq_mask kA kF kL), ↓(psetClear_mask kA kD kF kJ kK kL kM kP), ↓(toSrc14_mask kA kL)]; done) | rfl | grind [setMach_mask, armSet_mask, machAcq_mask, psetClear_mask, toSrc14_mask]) | rfl | grind [setMach_mask, armSet_mask, machAcq_mask, psetClear_mask, toSrc14_mask]

theorem ascTask_mask {K : Parts} (kA : K.regs) (kC : K.resp) (kD : K.sys) (kF : K.fab) (kJ : K.pwm) (kK : K.cnv) (kL : K.fly) (kM :
    K.kln) (kO : K.sup) (kP : K.act) (m : Nat) (p : MachPar) (i : SupIn) (s : State) :
    (ascTask m p i s).mask K = s.mask K := by
  simp only [ascTask, ↓apply_ite (State.mask K), ite_self, ↓foldl_mask, implies_true, ↓(setMach_mask kO), ↓(kreqField_mask kA kC kD kF kJ kM kP), ↓(quietly_mask kC), ↓(releaseAsc_mask kA kD kF kJ kK kL kM kP), ↓(requestAsc_mask kJ)]

theorem calApply_mask {K : Parts} (kA : K.regs) (kB : K.mem) (kC : K.resp) (kF : K.fab) (kI : K.whl) (c : CalSet) (s : State) :
    (calApply c s).mask K = s.mask K := by
  simp only [calApply, ↓apply_ite (State.mask K), ite_self, ↓foldl_mask, implies_true, ↓(set_mask kA), ↓(coefWrite_mask kA kB kC kF kI), ↓(tableWrite_mask kB kC kF), ↓(tblCfgWrite_mask kA kB kC kF kI)]

theorem calLoad_mask {K : Parts} (kA : K.regs) (kB : K.mem) (kC : K.resp) (kF : K.fab) (kI : K.whl) (kQ : K.thm) (p : Nat) (s : State) :
    (calLoad p s).mask K = s.mask K := by
  simp only [calLoad, ↓apply_ite (State.mask K), ite_self, ↓foldl_mask, implies_true, mask_thm kQ, ↓(calApply_mask kA kB kC kF kI)]

theorem torqueTask_mask {K : Parts} (kO : K.sup) (m : Nat) (p : MachPar) (s : State) :
    (torqueTask m p s).mask K = s.mask K := by
  simp only [torqueTask, ↓apply_ite (State.mask K), ite_self, ↓foldl_mask, implies_true, ↓(setMach_mask kO), ↓(speedTask_mask kO)]

theorem stopTask_mask {K : Parts} (kO : K.sup) (m : Nat) (p : MachPar) (s : State) :
    (stopTask m p s).mask K = s.mask K := by
  simp only [stopTask, ↓apply_ite (State.mask K), ite_self, ↓foldl_mask, implies_true, ↓(setMach_mask kO)]

theorem machTask_mask {K : Parts} (kA : K.regs) (kC : K.resp) (kD : K.sys) (kF : K.fab) (kJ : K.pwm) (kK : K.cnv) (kL : K.fly) (kM :
    K.kln) (kO : K.sup) (kP : K.act) (m : Nat) (p : MachPar) (i : SupIn) (s : State) :
    (machTask m p i s).mask K = s.mask K := by
  simp only [machTask, ↓apply_ite (State.mask K), ite_self, ↓foldl_mask, implies_true, ↓(setMach_mask kO), ↓(ascTask_mask kA kC kD kF kJ kK kL kM kO kP), ↓(lossTask_mask kA kD kF kJ kK kL kM kO kP), ↓(startTask_mask kA kD kF kJ kK kL kM kO kP), ↓(stopTask_mask kO), ↓(torqueTask_mask kO)]

theorem exitTask_mask {K : Parts} (kO : K.sup) (s : State) :
    (exitTask s).mask K = s.mask K := by
  simp only [exitTask, ↓apply_ite (State.mask K), ite_self, ↓foldl_mask, implies_true, mask_sup kO]

theorem emrTask_mask {K : Parts} (kO : K.sup) (s : State) :
    (emrTask s).mask K = s.mask K := by
  simp only [emrTask, ↓apply_ite (State.mask K), ite_self, ↓foldl_mask, implies_true, mask_sup kO]

theorem supervisionTask_mask {K : Parts} (kA : K.regs) (kB : K.mem) (kC : K.resp) (kD : K.sys) (kF : K.fab) (kI : K.whl) (kJ : K.pwm) (kK
    : K.cnv) (kL : K.fly) (kM : K.kln) (kO : K.sup) (kP : K.act) (kQ : K.thm) (i : SupIn) (s : State) :
    (supervisionTask i s).mask K = s.mask K := by
  simp only [supervisionTask, ↓apply_ite (State.mask K), ite_self, ↓foldl_mask, implies_true, ↓(calLoad_mask kA kB kC kF kI kQ), ↓(emrTask_mask kO), ↓(exitTask_mask kO), ↓(limitTask_mask kO), ↓(machTask_mask kA kC kD kF kJ kK kL kM kO kP), ↓(setTask_mask kA kB kC kF kI kO), ↓(shareTorque_mask kO)]; (repeat' split) <;> first | (simp only [↓apply_ite (State.mask K), ite_self, ↓foldl_mask, implies_true, ↓(calLoad_mask kA kB kC kF kI kQ), ↓(emrTask_mask kO), ↓(exitTask_mask kO), ↓(limitTask_mask kO), ↓(machTask_mask kA kC kD kF kJ kK kL kM kO kP), ↓(setTask_mask kA kB kC kF kI kO), ↓(shareTorque_mask kO)]; done) | (simp only [↓apply_ite (State.mask K), ite_self, ↓foldl_mask, implies_true, ↓(calLoad_mask kA kB kC kF kI kQ), ↓(emrTask_mask kO), ↓(exitTask_mask kO), ↓(limitTask_mask kO), ↓(machTask_mask kA kC kD kF kJ kK kL kM kO kP), ↓(setTask_mask kA kB kC kF kI kO), ↓(shareTorque_mask kO)]; (repeat' split) <;> first | (simp only [↓apply_ite (State.mask K), ite_self, ↓foldl_mask, implies_true, ↓(calLoad_mask kA kB kC kF kI kQ), ↓(emrTask_mask kO), ↓(exitTask_mask kO), ↓(limitTask_mask kO), ↓(machTask_mask kA kC kD kF kJ kK kL kM kO kP), ↓(setTask_mask kA kB kC kF kI kO), ↓(shareTorque_mask kO)]; done) | rfl | grind [calLoad_mask, emrTask_mask, exitTask_mask, limitTask_mask, machTask_mask, setTask_mask, shareTorque_mask]) | rfl | grind [calLoad_mask, emrTask_mask, exitTask_mask, limitTask_mask, machTask_mask, setTask_mask, shareTorque_mask]

end Sys2Proof.Machine
end

