-- ==== Sys2Proof/Laws/Mask3.lean ====
section
/-! SUPPORT. What each operation and meaning leaves unchanged: it changes no part of the state but those its lemma blanks. -/

set_option maxRecDepth 4000
set_option linter.all false
namespace Sys2Proof.Machine
open Sys2Proof

theorem execSupervisionTask_mask {K : Parts} (kA : K.regs) (kB : K.mem) (kC : K.resp) (kD : K.sys) (kF : K.fab) (kI : K.whl) (kJ : K.pwm)
    (kK : K.cnv) (kL : K.fly) (kM : K.kln) (kO : K.sup) (kP : K.act) (kQ : K.thm) (i : SupIn) (s : State) {s' : State} (hr :
      execSupervisionTask i s = .next s') :
    s'.mask K = s.mask K := by
  unfold execSupervisionTask at hr
  injection hr with hr; subst hr; simp only [↓apply_ite (State.mask K), ite_self, ↓foldl_mask, implies_true, ↓(quietly_mask kC), ↓(supervisionTask_mask kA kB kC kD kF kI kJ kK kL kM kO kP kQ)]

theorem execUcgCompute_mask {K : Parts} (kA : K.regs) (kC : K.resp) (kD : K.sys) (kF : K.fab) (kJ : K.pwm) (kK : K.cnv) (kM : K.kln) (kP
    : K.act) (s : State) {s' : State} (hr : execUcgCompute s = .next s') :
    s'.mask K = s.mask K := by
  unfold execUcgCompute at hr
  injection hr with hr; subst hr; simp only [↓apply_ite (State.mask K), ite_self, ↓foldl_mask, implies_true, ↓(quietly_mask kC), ↓(ucgWrite_mask kA kD kF kJ kK kM kP)]

theorem emrEnd_mask {K : Parts} (kA : K.regs) (kF : K.fab) (kO : K.sup) (cause : Nat) (s : State) :
    (emrEnd cause s).mask K = s.mask K := by
  simp only [emrEnd, ↓apply_ite (State.mask K), ite_self, ↓foldl_mask, implies_true, mask_sup kO, ↓(ashPush_mask kA kF)]

theorem emrEnter_mask {K : Parts} (kA : K.regs) (kF : K.fab) (kO : K.sup) (s : State) :
    (emrEnter s).mask K = s.mask K := by
  simp only [emrEnter, ↓apply_ite (State.mask K), ite_self, ↓foldl_mask, implies_true, mask_sup kO, ↓(setWset_mask kO), ↓(ashPush_mask kA kF)]

theorem execEmergencyRunEnd_mask {K : Parts} (kA : K.regs) (kF : K.fab) (kO : K.sup) (s : State) {s' : State} (hr : execEmergencyRunEnd s
    = .next s') :
    s'.mask K = s.mask K := by
  unfold execEmergencyRunEnd at hr
  injection hr with hr; subst hr; simp only [↓apply_ite (State.mask K), ite_self, ↓foldl_mask, implies_true, ↓(emrEnd_mask kA kF kO)]

theorem showBridges_mask {K : Parts} (kA : K.regs) (s : State) :
    (showBridges s).mask K = s.mask K := by
  simp only [showBridges, ↓apply_ite (State.mask K), ite_self, ↓foldl_mask, implies_true, ↓(showBridge_mask kA)]

theorem bridgeModeWrite_mask {K : Parts} (kA : K.regs) (kP : K.act) (b : Nat) (v : Nat) (s : State) :
    (bridgeModeWrite b v s).mask K = s.mask K := by
  simp only [bridgeModeWrite, ↓apply_ite (State.mask K), ite_self, ↓foldl_mask, implies_true, mask_act kP, ↓(set_mask kA), ↓(showBridge_mask kA)]

theorem bridgeCommand_mask {K : Parts} (kA : K.regs) (kC : K.resp) (kP : K.act) (m : Master) (b : Nat) (v : Nat) (s : State) {s' : State}
    (hr : bridgeCommand m b v s = .next s') :
    s'.mask K = s.mask K := by
  unfold bridgeCommand at hr
  injection hr with hr; subst hr; simp only [↓apply_ite (State.mask K), ite_self, ↓foldl_mask, implies_true, ↓(answer_mask kC), ↓(bridgeModeWrite_mask kA kP), ↓(busError_mask kC)]

theorem execBridgeHiz_mask {K : Parts} (kA : K.regs) (kC : K.resp) (kP : K.act) (m : Master) (bridge : Fin 12) (s : State) {s' : State}
    (hr : execBridgeHiz m bridge s = .next s') :
    s'.mask K = s.mask K := by
  unfold execBridgeHiz at hr
  exact bridgeCommand_mask kA kC kP _ _ _ _ hr

theorem execBridgePwm_mask {K : Parts} (kA : K.regs) (kC : K.resp) (kP : K.act) (m : Master) (bridge : Fin 12) (s : State) {s' : State}
    (hr : execBridgePwm m bridge s = .next s') :
    s'.mask K = s.mask K := by
  unfold execBridgePwm at hr
  exact bridgeCommand_mask kA kC kP _ _ _ _ hr

theorem execBridgeLowOn_mask {K : Parts} (kA : K.regs) (kC : K.resp) (kP : K.act) (m : Master) (bridge : Fin 12) (s : State) {s' : State}
    (hr : execBridgeLowOn m bridge s = .next s') :
    s'.mask K = s.mask K := by
  unfold execBridgeLowOn at hr
  exact bridgeCommand_mask kA kC kP _ _ _ _ hr

theorem actLatch_mask {K : Parts} (kA : K.regs) (kD : K.sys) (kF : K.fab) (kM : K.kln) (f : Fld) (code : Nat) (b : Nat) (s : State) :
    (actLatch f code b s).mask K = s.mask K := by
  simp only [actLatch, ↓apply_ite (State.mask K), ite_self, ↓foldl_mask, implies_true, ↓(set_mask kA), ↓(setBit_mask kA), ↓(issue_mask kD kM), ↓(raise_mask kA kF), ↓(showBridge_mask kA)]

theorem actLatchAll_mask {K : Parts} (kA : K.regs) (kD : K.sys) (kF : K.fab) (kM : K.kln) (f : Fld) (code : Nat) (s : State) :
    (actLatchAll f code s).mask K = s.mask K := by
  simp only [actLatchAll, ↓apply_ite (State.mask K), ite_self, ↓foldl_mask, implies_true, ↓(actLatch_mask kA kD kF kM)]

theorem execBootUndervoltage_mask {K : Parts} (kA : K.regs) (kD : K.sys) (kF : K.fab) (kJ : K.pwm) (kM : K.kln) (kP : K.act) (bridge :
    Fin 12) (s : State) {s' : State} (hr : execBootUndervoltage bridge s = .next s') :
    s'.mask K = s.mask K := by
  unfold execBootUndervoltage at hr
  injection hr with hr; subst hr; simp only [↓apply_ite (State.mask K), ite_self, ↓foldl_mask, implies_true, ↓apply_ite Prod.snd, ↓apply_ite Prod.fst, ↓(bump_mask kA), ↓(actLatch_mask kA kD kF kM), ↓(bootTrip_mask kA kF kJ kP), ↓(showBridge_mask kA)]; (repeat' split) <;> first | (simp only [↓apply_ite (State.mask K), ite_self, ↓foldl_mask, implies_true, ↓apply_ite Prod.snd, ↓apply_ite Prod.fst, ↓(bump_mask kA), ↓(actLatch_mask kA kD kF kM), ↓(bootTrip_mask kA kF kJ kP), ↓(showBridge_mask kA)]; done) | (simp only [↓apply_ite (State.mask K), ite_self, ↓foldl_mask, implies_true, ↓apply_ite Prod.snd, ↓apply_ite Prod.fst, ↓(bump_mask kA), ↓(actLatch_mask kA kD kF kM), ↓(bootTrip_mask kA kF kJ kP), ↓(showBridge_mask kA)]; (repeat' split) <;> first | (simp only [↓apply_ite (State.mask K), ite_self, ↓foldl_mask, implies_true, ↓apply_ite Prod.snd, ↓apply_ite Prod.fst, ↓(bump_mask kA), ↓(actLatch_mask kA kD kF kM), ↓(bootTrip_mask kA kF kJ kP), ↓(showBridge_mask kA)]; done) | rfl | grind [bump_mask, actLatch_mask, bootTrip_mask, showBridge_mask]) | rfl | grind [bump_mask, actLatch_mask, bootTrip_mask, showBridge_mask]

theorem execPredriverGateReport_mask {K : Parts} (kA : K.regs) (kD : K.sys) (kF : K.fab) (kJ : K.pwm) (kK : K.cnv) (kM : K.kln) (kP :
    K.act) (bridge : Fin 12) (report : GateReport) (s : State) {s' : State} (hr : execPredriverGateReport bridge report s = .next s') :
    s'.mask K = s.mask K := by
  unfold execPredriverGateReport at hr
  injection hr with hr; subst hr; simp only [↓apply_ite (State.mask K), ite_self, ↓foldl_mask, implies_true, ↓(setSw_mask kJ), ↓(actLatch_mask kA kD kF kM), ↓(refusalRun_mask kA kD kF kJ kK kM kP), ↓(refused_mask kA kF), ↓(switchOff_mask kA kJ kP), ↓(trigger_mask kA kD kF kJ kK kM kP)]; (repeat' split) <;> first | (simp only [↓apply_ite (State.mask K), ite_self, ↓foldl_mask, implies_true, ↓(setSw_mask kJ), ↓(actLatch_mask kA kD kF kM), ↓(refusalRun_mask kA kD kF kJ kK kM kP), ↓(refused_mask kA kF), ↓(switchOff_mask kA kJ kP), ↓(trigger_mask kA kD kF kJ kK kM kP)]; done) | (simp only [↓apply_ite (State.mask K), ite_self, ↓foldl_mask, implies_true, ↓(setSw_mask kJ), ↓(actLatch_mask kA kD kF kM), ↓(refusalRun_mask kA kD kF kJ kK kM kP), ↓(refused_mask kA kF), ↓(switchOff_mask kA kJ kP), ↓(trigger_mask kA kD kF kJ kK kM kP)]; (repeat' split) <;> first | (simp only [↓apply_ite (State.mask K), ite_self, ↓foldl_mask, implies_true, ↓(setSw_mask kJ), ↓(actLatch_mask kA kD kF kM), ↓(refusalRun_mask kA kD kF kJ kK kM kP), ↓(refused_mask kA kF), ↓(switchOff_mask kA kJ kP), ↓(trigger_mask kA kD kF kJ kK kM kP)]; done) | rfl | grind [setSw_mask, actLatch_mask, refusalRun_mask, refused_mask, switchOff_mask, trigger_mask]) | rfl | grind [setSw_mask, actLatch_mask, refusalRun_mask, refused_mask, switchOff_mask, trigger_mask]

theorem execDrainSourceFault_mask {K : Parts} (kA : K.regs) (kD : K.sys) (kF : K.fab) (kM : K.kln) (bridge : Fin 12) (high : Bool) (s :
    State) {s' : State} (hr : execDrainSourceFault bridge high s = .next s') :
    s'.mask K = s.mask K := by
  unfold execDrainSourceFault at hr
  injection hr with hr; subst hr; simp only [↓apply_ite (State.mask K), ite_self, ↓foldl_mask, implies_true, ↓(actLatch_mask kA kD kF kM)]

theorem execVgdUndervoltage_mask {K : Parts} (kA : K.regs) (kD : K.sys) (kF : K.fab) (kM : K.kln) (low : Bool) (s : State) {s' : State}
    (hr : execVgdUndervoltage low s = .next s') :
    s'.mask K = s.mask K := by
  unfold execVgdUndervoltage at hr
  injection hr with hr; subst hr; simp only [↓apply_ite (State.mask K), ite_self, ↓foldl_mask, implies_true, ↓(setB_mask kA), ↓(actLatchAll_mask kA kD kF kM)]

theorem execDriveSupplyFault_mask {K : Parts} (kA : K.regs) (kD : K.sys) (kF : K.fab) (kM : K.kln) (above : Bool) (s : State) {s' :
    State} (hr : execDriveSupplyFault above s = .next s') :
    s'.mask K = s.mask K := by
  unfold execDriveSupplyFault at hr
  injection hr with hr; subst hr; simp only [↓apply_ite (State.mask K), ite_self, ↓foldl_mask, implies_true, ↓(actLatchAll_mask kA kD kF kM)]

theorem execPredriverOvertemp_mask {K : Parts} (kA : K.regs) (kD : K.sys) (kF : K.fab) (kM : K.kln) (_sensor : Fin 2) (s : State) {s' :
    State} (hr : execPredriverOvertemp _sensor s = .next s') :
    s'.mask K = s.mask K := by
  unfold execPredriverOvertemp at hr
  injection hr with hr; subst hr; simp only [↓apply_ite (State.mask K), ite_self, ↓foldl_mask, implies_true, ↓(actLatchAll_mask kA kD kF kM)]

theorem execPredriverWarning_mask {K : Parts} (kA : K.regs) (kF : K.fab) (supply : Bool) (present : Bool) (s : State) {s' : State} (hr :
    execPredriverWarning supply present s = .next s') :
    s'.mask K = s.mask K := by
  unfold execPredriverWarning at hr
  injection hr with hr; subst hr; simp only [↓apply_ite (State.mask K), ite_self, ↓foldl_mask, implies_true, ↓(setB_mask kA), ↓(raise_mask kA kF)]

theorem execActEnFall_mask {K : Parts} (kA : K.regs) (kF : K.fab) (kP : K.act) (s : State) {s' : State} (hr : execActEnFall s = .next s') :
    s'.mask K = s.mask K := by
  unfold execActEnFall at hr
  injection hr with hr; subst hr; simp only [↓apply_ite (State.mask K), ite_self, ↓foldl_mask, implies_true, ↓(set_mask kA), ↓(bridgeModeWrite_mask kA kP), ↓(raise_mask kA kF)]

theorem clearLatches_mask {K : Parts} (kA : K.regs) (c : LatchCauses) (b : Nat) (s : State) :
    (clearLatches c b s).mask K = s.mask K := by
  simp only [clearLatches, ↓apply_ite (State.mask K), ite_self, ↓foldl_mask, implies_true, ↓(set_mask kA), ↓(setBit_mask kA)]

theorem execActEnRise_mask {K : Parts} (kA : K.regs) (kF : K.fab) (lowUs : Nat) (causes : LatchCauses) (s : State) {s' : State} (hr :
    execActEnRise lowUs causes s = .next s') :
    s'.mask K = s.mask K := by
  unfold execActEnRise at hr
  injection hr with hr; subst hr; simp only [↓apply_ite (State.mask K), ite_self, ↓foldl_mask, implies_true, ↓(set_mask kA), ↓(clearLatches_mask kA), ↓(raise_mask kA kF), ↓(showBridges_mask kA)]

theorem execParkLockStall_mask {K : Parts} (kA : K.regs) (kP : K.act) (bridges : BitVec 12) (s : State) {s' : State} (hr :
    execParkLockStall bridges s = .next s') :
    s'.mask K = s.mask K := by
  unfold execParkLockStall at hr
  injection hr with hr; subst hr; simp only [↓apply_ite (State.mask K), ite_self, ↓foldl_mask, implies_true, ↓(bridgeModeWrite_mask kA kP)]

theorem execParkLockHoldEnd_mask {K : Parts} (kA : K.regs) (kP : K.act) (bridges : BitVec 12) (s : State) {s' : State} (hr :
    execParkLockHoldEnd bridges s = .next s') :
    s'.mask K = s.mask K := by
  unfold execParkLockHoldEnd at hr
  injection hr with hr; subst hr; simp only [↓apply_ite (State.mask K), ite_self, ↓foldl_mask, implies_true, ↓(bridgeModeWrite_mask kA kP)]

theorem setChg_mask {K : Parts} (kR : K.chg) (s : State) (x : ChgSt) :
    (State.setChg s x).mask K = s.mask K := by
  simp only [State.setChg, ↓apply_ite (State.mask K), ite_self, ↓foldl_mask, implies_true, mask_chg kR]

theorem hvLost_mask {K : Parts} (kA : K.regs) (kF : K.fab) (kJ : K.pwm) (kK : K.cnv) (kP : K.act) (kR : K.chg) (before : State) (s :
    State) :
    (hvLost before s).mask K = s.mask K := by
  simp only [hvLost, ↓apply_ite (State.mask K), ite_self, ↓foldl_mask, implies_true, ↓(set_mask kA), ↓(setChg_mask kR), ↓(chDisable_mask kA kF kJ kK kP), ↓(raise_mask kA kF)]

theorem execComparatorTrip_mask {K : Parts} (kA : K.regs) (kB : K.mem) (kD : K.sys) (kF : K.fab) (kJ : K.pwm) (kK : K.cnv) (kM : K.kln)
    (kP : K.act) (kR : K.chg) (ch : Fin 48) (above : Bool) (s : State) {s' : State} (hr : execComparatorTrip ch above s = .next s') :
    s'.mask K = s.mask K := by
  unfold execComparatorTrip at hr
  injection hr with hr; subst hr; simp only [↓apply_ite (State.mask K), ite_self, ↓foldl_mask, implies_true, ↓(setCompar_mask kJ), ↓(compAct_mask kA kB kD kF kJ kK kM kP), ↓(hvLost_mask kA kF kJ kK kP kR)]

theorem execComparatorRelease_mask {K : Parts} (kA : K.regs) (kF : K.fab) (kJ : K.pwm) (kK : K.cnv) (kP : K.act) (ch : Fin 48) (s :
    State) {s' : State} (hr : execComparatorRelease ch s = .next s') :
    s'.mask K = s.mask K := by
  unfold execComparatorRelease at hr
  injection hr with hr; subst hr; simp only [↓apply_ite (State.mask K), ite_self, ↓foldl_mask, implies_true, ↓(setCompar_mask kJ), ↓(cnvRelease_mask kA kF kJ kK kP)]

theorem execBlankingEnd_mask {K : Parts} (kA : K.regs) (kB : K.mem) (kD : K.sys) (kF : K.fab) (kJ : K.pwm) (kK : K.cnv) (kM : K.kln) (kP
    : K.act) (kR : K.chg) (ch : Fin 48) (s : State) {s' : State} (hr : execBlankingEnd ch s = .next s') :
    s'.mask K = s.mask K := by
  unfold execBlankingEnd at hr
  injection hr with hr; subst hr; simp only [↓apply_ite (State.mask K), ite_self, ↓foldl_mask, implies_true, ↓(setCompar_mask kJ), ↓(compAct_mask kA kB kD kF kJ kK kM kP), ↓(hvLost_mask kA kF kJ kK kP kR)]

theorem stopNow_mask {K : Parts} (kA : K.regs) (kF : K.fab) (kJ : K.pwm) (kK : K.cnv) (kP : K.act) (m : Master) (c : Nat) (s : State) :
    (stopNow m c s).mask K = s.mask K := by
  simp only [stopNow, ↓apply_ite (State.mask K), ite_self, ↓foldl_mask, implies_true, ↓(fastStop_mask kA kF kJ kK kP)]

theorem execCnvChannelStopNow_mask {K : Parts} (kA : K.regs) (kC : K.resp) (kF : K.fab) (kJ : K.pwm) (kK : K.cnv) (kP : K.act) (m :
    Master) (ch : Fin 3) (s : State) {s' : State} (hr : execCnvChannelStopNow m ch s = .next s') :
    s'.mask K = s.mask K := by
  unfold execCnvChannelStopNow at hr
  injection hr with hr; subst hr; simp only [↓apply_ite (State.mask K), ite_self, ↓foldl_mask, implies_true, ↓(answer_mask kC), ↓(busError_mask kC), ↓(stopNow_mask kA kF kJ kK kP)]

theorem pilotChange_mask {K : Parts} (kA : K.regs) (kF : K.fab) (kR : K.chg) (st : Nat) (s : State) :
    (pilotChange st s).mask K = s.mask K := by
  simp only [pilotChange, ↓apply_ite (State.mask K), ite_self, ↓foldl_mask, implies_true, ↓(set_mask kA), ↓(setChg_mask kR), ↓(raise_mask kA kF)]

theorem pilotPeriod_mask {K : Parts} (kA : K.regs) (kF : K.fab) (kR : K.chg) (x : PilotIn) (s : State) :
    (pilotPeriod x s).mask K = s.mask K := by
  simp only [pilotPeriod, ↓apply_ite (State.mask K), ite_self, ↓foldl_mask, implies_true, ↓(set_mask kA), ↓(setB_mask kA), ↓(setChg_mask kR), ↓(setI_mask kA), ↓(pilotChange_mask kA kF kR)]

theorem execPilotPeriod_mask {K : Parts} (kA : K.regs) (kF : K.fab) (kR : K.chg) (x : PilotIn) (s : State) {s' : State} (hr :
    execPilotPeriod x s = .next s') :
    s'.mask K = s.mask K := by
  unfold execPilotPeriod at hr
  injection hr with hr; subst hr; simp only [↓apply_ite (State.mask K), ite_self, ↓foldl_mask, implies_true, ↓(pilotPeriod_mask kA kF kR)]

theorem execProximitySample_mask {K : Parts} (kA : K.regs) (kF : K.fab) (kR : K.chg) (mv : Nat) (s : State) {s' : State} (hr :
    execProximitySample mv s = .next s') :
    s'.mask K = s.mask K := by
  unfold execProximitySample at hr
  injection hr with hr; subst hr; simp only [↓apply_ite (State.mask K), ite_self, ↓foldl_mask, implies_true, ↓(set_mask kA), ↓(setChg_mask kR), ↓(raise_mask kA kF)]

theorem endCode_mask {K : Parts} (kA : K.regs) (kD : K.sys) (kF : K.fab) (kM : K.kln) (r : Nat) (s : State) :
    (endCode r s).mask K = s.mask K := by
  simp only [endCode, ↓apply_ite (State.mask K), ite_self, ↓foldl_mask, implies_true, ↓(issue_mask kD kM), ↓(raise_mask kA kF)]

theorem obcSoftStop_mask {K : Parts} (kA : K.regs) (kF : K.fab) (kJ : K.pwm) (kK : K.cnv) (kP : K.act) (s : State) :
    (obcSoftStop s).mask K = s.mask K := by
  simp only [obcSoftStop, ↓apply_ite (State.mask K), ite_self, ↓foldl_mask, implies_true, ↓(chDisable_mask kA kF kJ kK kP)]

theorem endSession_mask {K : Parts} (kA : K.regs) (kD : K.sys) (kF : K.fab) (kJ : K.pwm) (kK : K.cnv) (kM : K.kln) (kP : K.act) (kR :
    K.chg) (hard : Bool) (s : State) :
    (endSession hard s).mask K = s.mask K := by
  simp only [endSession, ↓apply_ite (State.mask K), ite_self, ↓foldl_mask, implies_true, ↓(set_mask kA), ↓(setChg_mask kR), ↓(endCode_mask kA kD kF kM), ↓(obcSoftStop_mask kA kF kJ kK kP), ↓(stopNow_mask kA kF kJ kK kP)]; (repeat' split) <;> first | (simp only [↓apply_ite (State.mask K), ite_self, ↓foldl_mask, implies_true, ↓(set_mask kA), ↓(setChg_mask kR), ↓(endCode_mask kA kD kF kM), ↓(obcSoftStop_mask kA kF kJ kK kP), ↓(stopNow_mask kA kF kJ kK kP)]; done) | (simp only [↓apply_ite (State.mask K), ite_self, ↓foldl_mask, implies_true, ↓(set_mask kA), ↓(setChg_mask kR), ↓(endCode_mask kA kD kF kM), ↓(obcSoftStop_mask kA kF kJ kK kP), ↓(stopNow_mask kA kF kJ kK kP)]; (repeat' split) <;> first | (simp only [↓apply_ite (State.mask K), ite_self, ↓foldl_mask, implies_true, ↓(set_mask kA), ↓(setChg_mask kR), ↓(endCode_mask kA kD kF kM), ↓(obcSoftStop_mask kA kF kJ kK kP), ↓(stopNow_mask kA kF kJ kK kP)]; done) | rfl | grind [set_mask, setChg_mask, endCode_mask, obcSoftStop_mask, stopNow_mask]) | rfl | grind [set_mask, setChg_mask, endCode_mask, obcSoftStop_mask, stopNow_mask]

theorem chgCoef_mask {K : Parts} (kA : K.regs) (kB : K.mem) (kC : K.resp) (kF : K.fab) (kI : K.whl) (w : Nat) (i : Nat) (v : Nat) (s :
    State) :
    (chgCoef w i v s).mask K = s.mask K := by
  simp only [chgCoef, ↓apply_ite (State.mask K), ite_self, ↓foldl_mask, implies_true, ↓(coefWrite_mask kA kB kC kF kI)]

theorem limitWrite_mask {K : Parts} (kA : K.regs) (kB : K.mem) (kC : K.resp) (kF : K.fab) (kI : K.whl) (i : ChgIn) (s : State) :
    (limitWrite i s).mask K = s.mask K := by
  simp only [limitWrite, ↓apply_ite (State.mask K), ite_self, ↓foldl_mask, implies_true, ↓(set_mask kA), ↓(chgCoef_mask kA kB kC kF kI)]

theorem taskEnds_mask {K : Parts} (kR : K.chg) (i : ChgIn) (s : State) :
    (taskEnds i s).mask K = s.mask K := by
  simp only [taskEnds, ↓apply_ite (State.mask K), ite_self, ↓foldl_mask, implies_true, ↓(setChg_mask kR)]

theorem sessTask_mask {K : Parts} (kA : K.regs) (kD : K.sys) (kF : K.fab) (kJ : K.pwm) (kK : K.cnv) (kM : K.kln) (kP : K.act) (kR :
    K.chg) (i : ChgIn) (s : State) :
    (sessTask i s).mask K = s.mask K := by
  simp only [sessTask, ↓apply_ite (State.mask K), ite_self, ↓foldl_mask, implies_true, ↓(set_mask kA), ↓(setChg_mask kR), ↓(chStart_mask kA kF kJ kK kP), ↓(endSession_mask kA kD kF kJ kK kM kP kR), ↓(obcSoftStop_mask kA kF kJ kK kP), ↓(raise_mask kA kF), ↓(taskEnds_mask kR)]; (repeat' split) <;> first | (simp only [↓apply_ite (State.mask K), ite_self, ↓foldl_mask, implies_true, ↓(set_mask kA), ↓(setChg_mask kR), ↓(chStart_mask kA kF kJ kK kP), ↓(endSession_mask kA kD kF kJ kK kM kP kR), ↓(obcSoftStop_mask kA kF kJ kK kP), ↓(raise_mask kA kF), ↓(taskEnds_mask kR)]; done) | (simp only [↓apply_ite (State.mask K), ite_self, ↓foldl_mask, implies_true, ↓(set_mask kA), ↓(setChg_mask kR), ↓(chStart_mask kA kF kJ kK kP), ↓(endSession_mask kA kD kF kJ kK kM kP kR), ↓(obcSoftStop_mask kA kF kJ kK kP), ↓(raise_mask kA kF), ↓(taskEnds_mask kR)]; (repeat' split) <;> first | (simp only [↓apply_ite (State.mask K), ite_self, ↓foldl_mask, implies_true, ↓(set_mask kA), ↓(setChg_mask kR), ↓(chStart_mask kA kF kJ kK kP), ↓(endSession_mask kA kD kF kJ kK kM kP kR), ↓(obcSoftStop_mask kA kF kJ kK kP), ↓(raise_mask kA kF), ↓(taskEnds_mask kR)]; done) | rfl | grind [set_mask, setChg_mask, chStart_mask, endSession_mask, obcSoftStop_mask, raise_mask, taskEnds_mask]) | rfl | grind [set_mask, setChg_mask, chStart_mask, endSession_mask, obcSoftStop_mask, raise_mask, taskEnds_mask]

theorem execLimitsTimeout_mask {K : Parts} (kA : K.regs) (kR : K.chg) (s : State) {s' : State} (hr : execLimitsTimeout s = .next s') :
    s'.mask K = s.mask K := by
  unfold execLimitsTimeout at hr
  injection hr with hr; subst hr; simp only [↓apply_ite (State.mask K), ite_self, ↓foldl_mask, implies_true, ↓(set_mask kA), ↓(setChg_mask kR)]

theorem execPauseTimeout_mask {K : Parts} (kA : K.regs) (kC : K.resp) (kD : K.sys) (kF : K.fab) (kJ : K.pwm) (kK : K.cnv) (kM : K.kln)
    (kP : K.act) (kR : K.chg) (s : State) {s' : State} (hr : execPauseTimeout s = .next s') :
    s'.mask K = s.mask K := by
  unfold execPauseTimeout at hr
  injection hr with hr; subst hr; simp only [↓apply_ite (State.mask K), ite_self, ↓foldl_mask, implies_true, ↓(setChg_mask kR), ↓(endSession_mask kA kD kF kJ kK kM kP kR), ↓(quietly_mask kC)]

theorem execHvLostHoldEnd_mask {K : Parts} (kA : K.regs) (kF : K.fab) (kJ : K.pwm) (kK : K.cnv) (kP : K.act) (kR : K.chg) (s : State) {s'
    : State} (hr : execHvLostHoldEnd s = .next s') :
    s'.mask K = s.mask K := by
  unfold execHvLostHoldEnd at hr
  injection hr with hr; subst hr; simp only [↓apply_ite (State.mask K), ite_self, ↓foldl_mask, implies_true, ↓(setChg_mask kR), ↓(chDisable_mask kA kF kJ kK kP)]

theorem b12Start_mask {K : Parts} (kA : K.regs) (kF : K.fab) (kR : K.chg) (battV : Nat) (s : State) :
    (b12Start battV s).mask K = s.mask K := by
  simp only [b12Start, ↓apply_ite (State.mask K), ite_self, ↓foldl_mask, implies_true, ↓(set_mask kA), ↓(setChg_mask kR), ↓(raise_mask kA kF)]

theorem b12End_mask {K : Parts} (kA : K.regs) (kD : K.sys) (kF : K.fab) (kM : K.kln) (kR : K.chg) (r : Nat) (phase : Nat) (s : State) :
    (b12End r phase s).mask K = s.mask K := by
  simp only [b12End, ↓apply_ite (State.mask K), ite_self, ↓foldl_mask, implies_true, ↓(set_mask kA), ↓(setChg_mask kR), ↓(endCode_mask kA kD kF kM)]

theorem timerTask_mask {K : Parts} (kA : K.regs) (kR : K.chg) (i : ChgIn) (s : State) :
    (timerTask i s).mask K = s.mask K := by
  simp only [timerTask, ↓apply_ite (State.mask K), ite_self, ↓foldl_mask, implies_true, ↓(set_mask kA), ↓(setB_mask kA), ↓(setChg_mask kR)]

theorem zoneTask_mask {K : Parts} (kA : K.regs) (s : State) :
    (zoneTask s).mask K = s.mask K := by
  simp only [zoneTask, ↓apply_ite (State.mask K), ite_self, ↓foldl_mask, implies_true, ↓(set_mask kA)]

theorem b12Phase_mask {K : Parts} (kA : K.regs) (kD : K.sys) (kF : K.fab) (kM : K.kln) (kR : K.chg) (i : ChgIn) (s : State) :
    (b12Phase i s).mask K = s.mask K := by
  have hr : (recharge i.battV s).1.mask K = s.mask K := by
    unfold recharge
    (repeat' split) <;> first | rfl | exact setChg_mask kR _ _
  unfold b12Phase
  simp only [↓apply_ite (State.mask K), ↓set_mask kA, ↓b12Start_mask kA kF kR, ↓raise_mask kA kF, ↓b12End_mask kA kD kF kM kR, ↓setChg_mask kR, ite_self]
  (repeat' split) <;> first | rfl | exact hr | (simp only [↓apply_ite (State.mask K), ↓set_mask kA, ↓b12Start_mask kA kF kR, ↓setChg_mask kR, ite_self]; done) | (simp only [↓apply_ite (State.mask K), ↓set_mask kA, ↓b12Start_mask kA kF kR, ↓setChg_mask kR, hr, ite_self]; done) | exact b12End_mask kA kD kF kM kR _ _ _

theorem b12Task_mask {K : Parts} (kA : K.regs) (kB : K.mem) (kC : K.resp) (kD : K.sys) (kF : K.fab) (kI : K.whl) (kM : K.kln) (kR :
    K.chg) (i : ChgIn) (s : State) :
    (b12Task i s).mask K = s.mask K := by
  simp only [b12Task, ↓apply_ite (State.mask K), ite_self, ↓foldl_mask, implies_true, ↓(b12Phase_mask kA kD kF kM kR), ↓(chgCoef_mask kA kB kC kF kI), ↓(timerTask_mask kA kR), ↓(zoneTask_mask kA)]

theorem execAcceptanceProbe_mask {K : Parts} (kA : K.regs) (kB : K.mem) (kC : K.resp) (kF : K.fab) (kI : K.whl) (kR : K.chg) (battI :
    Int) (battV : Nat) (s : State) {s' : State} (hr : execAcceptanceProbe battI battV s = .next s') :
    s'.mask K = s.mask K := by
  unfold execAcceptanceProbe at hr
  injection hr with hr; subst hr; simp only [↓apply_ite (State.mask K), ite_self, ↓foldl_mask, implies_true, ↓(b12Start_mask kA kF kR), ↓(chgCoef_mask kA kB kC kF kI), ↓(quietly_mask kC)]

theorem execSafetyTimerExpiry_mask {K : Parts} (kA : K.regs) (kD : K.sys) (kF : K.fab) (kM : K.kln) (kR : K.chg) (s : State) {s' : State}
    (hr : execSafetyTimerExpiry s = .next s') :
    s'.mask K = s.mask K := by
  unfold execSafetyTimerExpiry at hr
  injection hr with hr; subst hr; simp only [↓apply_ite (State.mask K), ite_self, ↓foldl_mask, implies_true, ↓(b12End_mask kA kD kF kM kR)]

theorem preCommand_mask {K : Parts} (kA : K.regs) (kF : K.fab) (kJ : K.pwm) (kK : K.cnv) (kP : K.act) (s : State) :
    (preCommand s).mask K = s.mask K := by
  simp only [preCommand, ↓apply_ite (State.mask K), ite_self, ↓foldl_mask, implies_true, ↓(set_mask kA), ↓(chStart_mask kA kF kJ kK kP)]; (repeat' split) <;> first | (simp only [↓apply_ite (State.mask K), ite_self, ↓foldl_mask, implies_true, ↓(set_mask kA), ↓(chStart_mask kA kF kJ kK kP)]; done) | (simp only [↓apply_ite (State.mask K), ite_self, ↓foldl_mask, implies_true, ↓(set_mask kA), ↓(chStart_mask kA kF kJ kK kP)]; (repeat' split) <;> first | (simp only [↓apply_ite (State.mask K), ite_self, ↓foldl_mask, implies_true, ↓(set_mask kA), ↓(chStart_mask kA kF kJ kK kP)]; done) | rfl | grind [set_mask, chStart_mask]) | rfl | grind [set_mask, chStart_mask]

theorem preTask_mask {K : Parts} (kA : K.regs) (kF : K.fab) (kR : K.chg) (i : ChgIn) (s : State) :
    (preTask i s).mask K = s.mask K := by
  simp only [preTask, ↓apply_ite (State.mask K), ite_self, ↓foldl_mask, implies_true, ↓(set_mask kA), ↓(setChg_mask kR), ↓(raise_mask kA kF)]

theorem execPrechargeTimeout_mask {K : Parts} (kA : K.regs) (kD : K.sys) (kF : K.fab) (kJ : K.pwm) (kK : K.cnv) (kM : K.kln) (kP : K.act)
    (s : State) {s' : State} (hr : execPrechargeTimeout s = .next s') :
    s'.mask K = s.mask K := by
  unfold execPrechargeTimeout at hr
  injection hr with hr; subst hr; simp only [↓apply_ite (State.mask K), ite_self, ↓foldl_mask, implies_true, ↓(preFail_mask kA kD kM), ↓(stopNow_mask kA kF kJ kK kP)]

theorem preEnd_mask {K : Parts} (kA : K.regs) (kF : K.fab) (kJ : K.pwm) (kK : K.cnv) (kP : K.act) (kR : K.chg) (s : State) :
    (preEnd s).mask K = s.mask K := by
  simp only [preEnd, ↓apply_ite (State.mask K), ite_self, ↓foldl_mask, implies_true, ↓(setChg_mask kR), ↓(chDisable_mask kA kF kJ kK kP)]

theorem execPreHoldTimeout_mask {K : Parts} (kA : K.regs) (kF : K.fab) (kJ : K.pwm) (kK : K.cnv) (kP : K.act) (kR : K.chg) (s : State)
    {s' : State} (hr : execPreHoldTimeout s = .next s') :
    s'.mask K = s.mask K := by
  unfold execPreHoldTimeout at hr
  injection hr with hr; subst hr; simp only [↓apply_ite (State.mask K), ite_self, ↓foldl_mask, implies_true, ↓(preEnd_mask kA kF kJ kK kP kR)]

theorem actLimits_mask {K : Parts} (kA : K.regs) (kB : K.mem) (kC : K.resp) (kF : K.fab) (kI : K.whl) (s : State) :
    (actLimits s).mask K = s.mask K := by
  simp only [actLimits, ↓apply_ite (State.mask K), ite_self, ↓foldl_mask, implies_true, ↓(chgCoef_mask kA kB kC kF kI)]

theorem execChargeTask_mask {K : Parts} (kA : K.regs) (kB : K.mem) (kC : K.resp) (kD : K.sys) (kF : K.fab) (kI : K.whl) (kJ : K.pwm) (kK
    : K.cnv) (kM : K.kln) (kP : K.act) (kQ : K.thm) (kR : K.chg) (i : ChgIn) (s : State) {s' : State} (hr : execChargeTask i s = .next s') :
    s'.mask K = s.mask K := by
  unfold execChargeTask at hr
  injection hr with hr; subst hr; simp only [↓apply_ite (State.mask K), ite_self, ↓foldl_mask, implies_true, ↓(actLimits_mask kA kB kC kF kI), ↓(b12Task_mask kA kB kC kD kF kI kM kR), ↓(calLoad_mask kA kB kC kF kI kQ), ↓(limitWrite_mask kA kB kC kF kI), ↓(preTask_mask kA kF kR), ↓(quietly_mask kC), ↓(sessTask_mask kA kD kF kJ kK kM kP kR)]

theorem setCan_mask {K : Parts} (kU : K.bus) (s : State) (n : Nat) (x : CanSt) :
    (State.setCan s n x).mask K = s.mask K := by
  simp only [State.setCan, ↓apply_ite (State.mask K), ite_self, ↓foldl_mask, implies_true, mask_bus kU]

theorem setPair_mask {K : Parts} (kN : K.spx) (s : State) (p : Nat) (x : PairSt) :
    (State.setPair s p x).mask K = s.mask K := by
  simp only [State.setPair, ↓apply_ite (State.mask K), ite_self, ↓foldl_mask, implies_true, mask_spx kN]

theorem setReel_mask {K : Parts} (kU : K.bus) (s : State) (x : ReelSt) :
    (State.setReel s x).mask K = s.mask K := by
  simp only [State.setReel, ↓apply_ite (State.mask K), ite_self, ↓foldl_mask, implies_true, mask_bus kU]

theorem resumePair_mask {K : Parts} (kA : K.regs) (kN : K.spx) (p : Nat) (s : State) :
    (resumePair p s).mask K = s.mask K := by
  simp only [resumePair, ↓apply_ite (State.mask K), ite_self, ↓foldl_mask, implies_true, ↓(set_mask kA), ↓(setPair_mask kN)]

theorem releaseHalts_mask {K : Parts} (kA : K.regs) (kF : K.fab) (kN : K.spx) (s : State) :
    (releaseHalts s).mask K = s.mask K := by
  simp only [releaseHalts, ↓apply_ite (State.mask K), ite_self, ↓foldl_mask, implies_true, ↓(set_mask kA), ↓(raise_mask kA kF), ↓(resumePair_mask kA kN)]

theorem xcpEnd_mask {K : Parts} (kA : K.regs) (kF : K.fab) (kV : K.xcp) (s : State) :
    (xcpEnd s).mask K = s.mask K := by
  simp only [xcpEnd, ↓apply_ite (State.mask K), ite_self, ↓foldl_mask, implies_true, mask_xcp kV, ↓(raise_mask kA kF)]

theorem debugRevoke_mask {K : Parts} (kA : K.regs) (kF : K.fab) (kN : K.spx) (kS : K.tnd) (kV : K.xcp) (cause : Nat) (level : Nat) (s :
    State) :
    (debugRevoke cause level s).mask K = s.mask K := by
  simp only [debugRevoke, ↓apply_ite (State.mask K), ite_self, ↓foldl_mask, implies_true, mask_tnd kS, ↓(set_mask kA), ↓(raise_mask kA kF), ↓(releaseHalts_mask kA kF kN), ↓(xcpEnd_mask kA kF kV)]

theorem blankGrant_mask {K : Parts} (kA : K.regs) (kF : K.fab) (s : State) :
    (blankGrant s).mask K = s.mask K := by
  simp only [blankGrant, ↓apply_ite (State.mask K), ite_self, ↓foldl_mask, implies_true, ↓(set_mask kA), ↓(raise_mask kA kF)]

theorem engineOff_mask {K : Parts} (kD : K.sys) (kF : K.fab) (kG : K.afe) (kH : K.hk) (kI : K.whl) (kJ : K.pwm) (kK : K.cnv) (kL : K.fly)
    (kM : K.kln) (kN : K.spx) (kO : K.sup) (kP : K.act) (kQ : K.thm) (kR : K.chg) (kS : K.tnd) (kT : K.upd) (kU : K.bus) (kV : K.xcp) (kW
      : K.olt) (d : Nat) (s : State) :
    (engineOff d s).mask K = s.mask K := by
  simp only [engineOff, ↓apply_ite (State.mask K), ite_self, ↓foldl_mask, implies_true, mask_tnd_upd kS kT, mask_spx_sup kN kO, mask_spx_chg_xcp kN kR kV, mask_whl kI, mask_whl_cnv kI kK, mask_afe kG, mask_pwm_fly kJ kL, mask_sys_fab_olt kD kF kW, mask_bus kU, mask_sys_hk_kln_act_thm kD kH kM kP kQ]; (repeat' split) <;> first | (simp only [↓apply_ite (State.mask K), ite_self, ↓foldl_mask, implies_true, mask_tnd_upd kS kT, mask_spx_sup kN kO, mask_spx_chg_xcp kN kR kV, mask_whl kI, mask_whl_cnv kI kK, mask_afe kG, mask_pwm_fly kJ kL, mask_sys_fab_olt kD kF kW, mask_bus kU, mask_sys_hk_kln_act_thm kD kH kM kP kQ]; done) | (simp only [↓apply_ite (State.mask K), ite_self, ↓foldl_mask, implies_true, mask_tnd_upd kS kT, mask_spx_sup kN kO, mask_spx_chg_xcp kN kR kV, mask_whl kI, mask_whl_cnv kI kK, mask_afe kG, mask_pwm_fly kJ kL, mask_sys_fab_olt kD kF kW, mask_bus kU, mask_sys_hk_kln_act_thm kD kH kM kP kQ]; (repeat' split) <;> first | (simp only [↓apply_ite (State.mask K), ite_self, ↓foldl_mask, implies_true, mask_tnd_upd kS kT, mask_spx_sup kN kO, mask_spx_chg_xcp kN kR kV, mask_whl kI, mask_whl_cnv kI kK, mask_afe kG, mask_pwm_fly kJ kL, mask_sys_fab_olt kD kF kW, mask_bus kU, mask_sys_hk_kln_act_thm kD kH kM kP kQ]; done) | rfl | grind [mask_tnd_upd, mask_spx_sup, mask_spx_chg_xcp, mask_whl, mask_whl_cnv, mask_afe, mask_pwm_fly, mask_sys_fab_olt, mask_bus, mask_sys_hk_kln_act_thm]) | rfl | grind [mask_tnd_upd, mask_spx_sup, mask_spx_chg_xcp, mask_whl, mask_whl_cnv, mask_afe, mask_pwm_fly, mask_sys_fab_olt, mask_bus, mask_sys_hk_kln_act_thm]

theorem domainOff_mask {K : Parts} (kA : K.regs) (kB : K.mem) (kD : K.sys) (kF : K.fab) (kG : K.afe) (kH : K.hk) (kI : K.whl) (kJ :
    K.pwm) (kK : K.cnv) (kL : K.fly) (kM : K.kln) (kN : K.spx) (kO : K.sup) (kP : K.act) (kQ : K.thm) (kR : K.chg) (kS : K.tnd) (kT : K.upd) (kU : K.bus) (kV : K.xcp) (kW : K.olt) (d : Nat) (s : State) :
    (domainOff d s).mask K = s.mask K := by
  simp only [domainOff, ↓apply_ite (State.mask K), ite_self, ↓foldl_mask, implies_true, mask_regs_mem_sys_fab kA kB kD kF, mask_kln kM, ↓(setBit_mask kA), ↓(engineOff_mask kD kF kG kH kI kJ kK kL kM kN kO kP kQ kR kS kT kU kV kW)]

theorem allOff_mask {K : Parts} (kA : K.regs) (kB : K.mem) (kD : K.sys) (kF : K.fab) (kG : K.afe) (kH : K.hk) (kI : K.whl) (kJ : K.pwm)
    (kK : K.cnv) (kL : K.fly) (kM : K.kln) (kN : K.spx) (kO : K.sup) (kP : K.act) (kQ : K.thm) (kR : K.chg) (kS : K.tnd) (kT : K.upd) (kU
      : K.bus) (kV : K.xcp) (kW : K.olt) (s : State) :
    (allOff s).mask K = s.mask K := by
  simp only [allOff, ↓apply_ite (State.mask K), ite_self, ↓foldl_mask, implies_true, ↓(domainOff_mask kA kB kD kF kG kH kI kJ kK kL kM kN kO kP kQ kR kS kT kU kV kW), ↓(kilnDrive_mask kA kF kJ kM kP)]

theorem domainOn_mask {K : Parts} (kA : K.regs) (d : Nat) (s : State) :
    (domainOn d s).mask K = s.mask K := by
  simp only [domainOn, ↓apply_ite (State.mask K), ite_self, ↓foldl_mask, implies_true, ↓(set_mask kA), ↓(setBit_mask kA)]

theorem startBegin_mask {K : Parts} (kA : K.regs) (kD : K.sys) (kM : K.kln) (kS : K.tnd) (kind : Nat) (s : State) :
    (startBegin kind s).mask K = s.mask K := by
  simp only [startBegin, ↓apply_ite (State.mask K), ite_self, ↓foldl_mask, implies_true, mask_sys_kln_tnd kD kM kS, ↓(set_mask kA)]

theorem startFail_mask {K : Parts} (kA : K.regs) (kB : K.mem) (kD : K.sys) (kF : K.fab) (kG : K.afe) (kH : K.hk) (kI : K.whl) (kJ :
    K.pwm) (kK : K.cnv) (kL : K.fly) (kM : K.kln) (kN : K.spx) (kO : K.sup) (kP : K.act) (kQ : K.thm) (kR : K.chg) (kS : K.tnd) (kT : K.upd) (kU : K.bus) (kV : K.xcp) (kW : K.olt) (code : Nat) (s : State) :
    (startFail code s).mask K = s.mask K := by
  simp only [startFail, ↓apply_ite (State.mask K), ite_self, ↓foldl_mask, implies_true, mask_sys kD, ↓(bump_mask kA), ↓(set_mask kA), ↓(allOff_mask kA kB kD kF kG kH kI kJ kK kL kM kN kO kP kQ kR kS kT kU kV kW)]

theorem restart_mask {K : Parts} (kA : K.regs) (kB : K.mem) (kD : K.sys) (kF : K.fab) (kG : K.afe) (kH : K.hk) (kI : K.whl) (kJ : K.pwm)
    (kK : K.cnv) (kL : K.fly) (kM : K.kln) (kN : K.spx) (kO : K.sup) (kP : K.act) (kQ : K.thm) (kR : K.chg) (kS : K.tnd) (kT : K.upd) (kU
      : K.bus) (kV : K.xcp) (kW : K.olt) (s : State) :
    (restart s).mask K = s.mask K := by
  simp only [restart, ↓apply_ite (State.mask K), ite_self, ↓foldl_mask, implies_true, ↓(allOff_mask kA kB kD kF kG kH kI kJ kK kL kM kN kO kP kQ kR kS kT kU kV kW), ↓(debugRevoke_mask kA kF kN kS kV), ↓(startBegin_mask kA kD kM kS)]

theorem refuse_mask {K : Parts} (kA : K.regs) (kF : K.fab) (reason : Nat) (s : State) :
    (refuse reason s).mask K = s.mask K := by
  simp only [refuse, ↓apply_ite (State.mask K), ite_self, ↓foldl_mask, implies_true, ↓(set_mask kA), ↓(raise_mask kA kF)]

theorem storeFresh_mask {K : Parts} (kB : K.mem) (s : State) :
    (storeFresh s).mask K = s.mask K := by
  simp only [storeFresh, ↓apply_ite (State.mask K), ite_self, ↓foldl_mask, implies_true, ↓(store_mask kB)]

theorem canDrain_mask {K : Parts} (kA : K.regs) (n : Nat) (s : State) :
    (canDrain n s).mask K = s.mask K := by
  simp only [canDrain, ↓apply_ite (State.mask K), ite_self, ↓foldl_mask, implies_true, ↓(set_mask kA)]

theorem dormantBegin_mask {K : Parts} (kA : K.regs) (kB : K.mem) (kD : K.sys) (s : State) :
    (dormantBegin s).mask K = s.mask K := by
  simp only [dormantBegin, ↓apply_ite (State.mask K), ite_self, ↓foldl_mask, implies_true, mask_sys kD, ↓(set_mask kA), ↓(canDrain_mask kA), ↓(storeFresh_mask kB)]

theorem accept_mask {K : Parts} (kA : K.regs) (kB : K.mem) (kD : K.sys) (kF : K.fab) (kG : K.afe) (kH : K.hk) (kI : K.whl) (kJ : K.pwm)
    (kK : K.cnv) (kL : K.fly) (kM : K.kln) (kN : K.spx) (kO : K.sup) (kP : K.act) (kQ : K.thm) (kR : K.chg) (kS : K.tnd) (kT : K.upd) (kU
      : K.bus) (kV : K.xcp) (kW : K.olt) (target : Nat) (v2l : Bool) (s : State) :
    (accept target v2l s).mask K = s.mask K := by
  simp only [accept, ↓apply_ite (State.mask K), ite_self, ↓foldl_mask, implies_true, mask_sys kD, ↓(set_mask kA), ↓(debugRevoke_mask kA kF kN kS kV), ↓(dormantBegin_mask kA kB kD), ↓(restart_mask kA kB kD kF kG kH kI kJ kK kL kM kN kO kP kQ kR kS kT kU kV kW)]

theorem modeRequest_mask {K : Parts} (kA : K.regs) (kB : K.mem) (kC : K.resp) (kD : K.sys) (kF : K.fab) (kG : K.afe) (kH : K.hk) (kI :
    K.whl) (kJ : K.pwm) (kK : K.cnv) (kL : K.fly) (kM : K.kln) (kN : K.spx) (kO : K.sup) (kP : K.act) (kQ : K.thm) (kR : K.chg) (kS : K.tnd) (kT : K.upd) (kU : K.bus) (kV : K.xcp) (kW : K.olt) (m : Master) (key : BitVec 16) (target : Nat) (v2l : Bool) (cleared : Bool) (s : State) :
    (modeRequest m key target v2l cleared s).mask K = s.mask K := by
  simp only [modeRequest, ↓apply_ite (State.mask K), ite_self, ↓foldl_mask, implies_true, ↓(answer_mask kC), ↓(accept_mask kA kB kD kF kG kH kI kJ kK kL kM kN kO kP kQ kR kS kT kU kV kW), ↓(busError_mask kC), ↓(refuse_mask kA kF)]; (repeat' split) <;> first | (simp only [↓apply_ite (State.mask K), ite_self, ↓foldl_mask, implies_true, ↓(answer_mask kC), ↓(accept_mask kA kB kD kF kG kH kI kJ kK kL kM kN kO kP kQ kR kS kT kU kV kW), ↓(busError_mask kC), ↓(refuse_mask kA kF)]; done) | (simp only [↓apply_ite (State.mask K), ite_self, ↓foldl_mask, implies_true, ↓(answer_mask kC), ↓(accept_mask kA kB kD kF kG kH kI kJ kK kL kM kN kO kP kQ kR kS kT kU kV kW), ↓(busError_mask kC), ↓(refuse_mask kA kF)]; (repeat' split) <;> first | (simp only [↓apply_ite (State.mask K), ite_self, ↓foldl_mask, implies_true, ↓(answer_mask kC), ↓(accept_mask kA kB kD kF kG kH kI kJ kK kL kM kN kO kP kQ kR kS kT kU kV kW), ↓(busError_mask kC), ↓(refuse_mask kA kF)]; done) | rfl | grind [answer_mask, accept_mask, busError_mask, refuse_mask]) | rfl | grind [answer_mask, accept_mask, busError_mask, refuse_mask]

theorem execRequestReady_mask {K : Parts} (kA : K.regs) (kB : K.mem) (kC : K.resp) (kD : K.sys) (kF : K.fab) (kG : K.afe) (kH : K.hk) (kI
    : K.whl) (kJ : K.pwm) (kK : K.cnv) (kL : K.fly) (kM : K.kln) (kN : K.spx) (kO : K.sup) (kP : K.act) (kQ : K.thm) (kR : K.chg) (kS : K.tnd) (kT : K.upd) (kU : K.bus) (kV : K.xcp) (kW : K.olt) (m : Master) (key : BitVec 16) (cleared : Bool) (s : State) {s' : State} (hr : execRequestReady m key cleared s = .next s') :
    s'.mask K = s.mask K := by
  unfold execRequestReady at hr
  injection hr with hr; subst hr; simp only [↓apply_ite (State.mask K), ite_self, ↓foldl_mask, implies_true, ↓(modeRequest_mask kA kB kC kD kF kG kH kI kJ kK kL kM kN kO kP kQ kR kS kT kU kV kW)]

theorem execRequestDrive_mask {K : Parts} (kA : K.regs) (kB : K.mem) (kC : K.resp) (kD : K.sys) (kF : K.fab) (kG : K.afe) (kH : K.hk) (kI
    : K.whl) (kJ : K.pwm) (kK : K.cnv) (kL : K.fly) (kM : K.kln) (kN : K.spx) (kO : K.sup) (kP : K.act) (kQ : K.thm) (kR : K.chg) (kS : K.tnd) (kT : K.upd) (kU : K.bus) (kV : K.xcp) (kW : K.olt) (m : Master) (key : BitVec 16) (s : State) {s' : State} (hr : execRequestDrive m key s = .next s') :
    s'.mask K = s.mask K := by
  unfold execRequestDrive at hr
  injection hr with hr; subst hr; simp only [↓apply_ite (State.mask K), ite_self, ↓foldl_mask, implies_true, ↓(modeRequest_mask kA kB kC kD kF kG kH kI kJ kK kL kM kN kO kP kQ kR kS kT kU kV kW)]

theorem execRequestCharge_mask {K : Parts} (kA : K.regs) (kB : K.mem) (kC : K.resp) (kD : K.sys) (kF : K.fab) (kG : K.afe) (kH : K.hk)
    (kI : K.whl) (kJ : K.pwm) (kK : K.cnv) (kL : K.fly) (kM : K.kln) (kN : K.spx) (kO : K.sup) (kP : K.act) (kQ : K.thm) (kR : K.chg) (kS
      : K.tnd) (kT : K.upd) (kU : K.bus) (kV : K.xcp) (kW : K.olt) (m : Master) (key : BitVec 16) (s : State) {s' : State} (hr : execRequestCharge m key s = .next s') :
    s'.mask K = s.mask K := by
  unfold execRequestCharge at hr
  injection hr with hr; subst hr; simp only [↓apply_ite (State.mask K), ite_self, ↓foldl_mask, implies_true, ↓(modeRequest_mask kA kB kC kD kF kG kH kI kJ kK kL kM kN kO kP kQ kR kS kT kU kV kW)]

theorem execRequestV2l_mask {K : Parts} (kA : K.regs) (kB : K.mem) (kC : K.resp) (kD : K.sys) (kF : K.fab) (kG : K.afe) (kH : K.hk) (kI :
    K.whl) (kJ : K.pwm) (kK : K.cnv) (kL : K.fly) (kM : K.kln) (kN : K.spx) (kO : K.sup) (kP : K.act) (kQ : K.thm) (kR : K.chg) (kS : K.tnd) (kT : K.upd) (kU : K.bus) (kV : K.xcp) (kW : K.olt) (m : Master) (key : BitVec 16) (s : State) {s' : State} (hr : execRequestV2l m key s = .next s') :
    s'.mask K = s.mask K := by
  unfold execRequestV2l at hr
  injection hr with hr; subst hr; simp only [↓apply_ite (State.mask K), ite_self, ↓foldl_mask, implies_true, ↓(modeRequest_mask kA kB kC kD kF kG kH kI kJ kK kL kM kN kO kP kQ kR kS kT kU kV kW)]

theorem execRequestLimp_mask {K : Parts} (kA : K.regs) (kB : K.mem) (kC : K.resp) (kD : K.sys) (kF : K.fab) (kG : K.afe) (kH : K.hk) (kI
    : K.whl) (kJ : K.pwm) (kK : K.cnv) (kL : K.fly) (kM : K.kln) (kN : K.spx) (kO : K.sup) (kP : K.act) (kQ : K.thm) (kR : K.chg) (kS : K.tnd) (kT : K.upd) (kU : K.bus) (kV : K.xcp) (kW : K.olt) (m : Master) (key : BitVec 16) (s : State) {s' : State} (hr : execRequestLimp m key s = .next s') :
    s'.mask K = s.mask K := by
  unfold execRequestLimp at hr
  injection hr with hr; subst hr; simp only [↓apply_ite (State.mask K), ite_self, ↓foldl_mask, implies_true, ↓(modeRequest_mask kA kB kC kD kF kG kH kI kJ kK kL kM kN kO kP kQ kR kS kT kU kV kW)]

theorem execRequestService_mask {K : Parts} (kA : K.regs) (kB : K.mem) (kC : K.resp) (kD : K.sys) (kF : K.fab) (kG : K.afe) (kH : K.hk)
    (kI : K.whl) (kJ : K.pwm) (kK : K.cnv) (kL : K.fly) (kM : K.kln) (kN : K.spx) (kO : K.sup) (kP : K.act) (kQ : K.thm) (kR : K.chg) (kS
      : K.tnd) (kT : K.upd) (kU : K.bus) (kV : K.xcp) (kW : K.olt) (m : Master) (key : BitVec 16) (s : State) {s' : State} (hr : execRequestService m key s = .next s') :
    s'.mask K = s.mask K := by
  unfold execRequestService at hr
  injection hr with hr; subst hr; simp only [↓apply_ite (State.mask K), ite_self, ↓foldl_mask, implies_true, ↓(modeRequest_mask kA kB kC kD kF kG kH kI kJ kK kL kM kN kO kP kQ kR kS kT kU kV kW)]

theorem execRequestSafe_mask {K : Parts} (kA : K.regs) (kB : K.mem) (kC : K.resp) (kD : K.sys) (kF : K.fab) (kG : K.afe) (kH : K.hk) (kI
    : K.whl) (kJ : K.pwm) (kK : K.cnv) (kL : K.fly) (kM : K.kln) (kN : K.spx) (kO : K.sup) (kP : K.act) (kQ : K.thm) (kR : K.chg) (kS : K.tnd) (kT : K.upd) (kU : K.bus) (kV : K.xcp) (kW : K.olt) (m : Master) (key : BitVec 16) (s : State) {s' : State} (hr : execRequestSafe m key s = .next s') :
    s'.mask K = s.mask K := by
  unfold execRequestSafe at hr
  injection hr with hr; subst hr; simp only [↓apply_ite (State.mask K), ite_self, ↓foldl_mask, implies_true, ↓(modeRequest_mask kA kB kC kD kF kG kH kI kJ kK kL kM kN kO kP kQ kR kS kT kU kV kW)]

theorem execRequestDormant_mask {K : Parts} (kA : K.regs) (kB : K.mem) (kC : K.resp) (kD : K.sys) (kF : K.fab) (kG : K.afe) (kH : K.hk)
    (kI : K.whl) (kJ : K.pwm) (kK : K.cnv) (kL : K.fly) (kM : K.kln) (kN : K.spx) (kO : K.sup) (kP : K.act) (kQ : K.thm) (kR : K.chg) (kS
      : K.tnd) (kT : K.upd) (kU : K.bus) (kV : K.xcp) (kW : K.olt) (m : Master) (key : BitVec 16) (s : State) {s' : State} (hr : execRequestDormant m key s = .next s') :
    s'.mask K = s.mask K := by
  unfold execRequestDormant at hr
  injection hr with hr; subst hr; simp only [↓apply_ite (State.mask K), ite_self, ↓foldl_mask, implies_true, ↓(modeRequest_mask kA kB kC kD kF kG kH kI kJ kK kL kM kN kO kP kQ kR kS kT kU kV kW)]

theorem execRequestRestart_mask {K : Parts} (kA : K.regs) (kB : K.mem) (kC : K.resp) (kD : K.sys) (kF : K.fab) (kG : K.afe) (kH : K.hk)
    (kI : K.whl) (kJ : K.pwm) (kK : K.cnv) (kL : K.fly) (kM : K.kln) (kN : K.spx) (kO : K.sup) (kP : K.act) (kQ : K.thm) (kR : K.chg) (kS
      : K.tnd) (kT : K.upd) (kU : K.bus) (kV : K.xcp) (kW : K.olt) (m : Master) (key : BitVec 16) (s : State) {s' : State} (hr : execRequestRestart m key s = .next s') :
    s'.mask K = s.mask K := by
  unfold execRequestRestart at hr
  injection hr with hr; subst hr; simp only [↓apply_ite (State.mask K), ite_self, ↓foldl_mask, implies_true, ↓(modeRequest_mask kA kB kC kD kF kG kH kI kJ kK kL kM kN kO kP kQ kR kS kT kU kV kW)]

theorem enterMode_mask {K : Parts} (kA : K.regs) (kB : K.mem) (kD : K.sys) (kF : K.fab) (kG : K.afe) (kH : K.hk) (kI : K.whl) (kJ :
    K.pwm) (kK : K.cnv) (kL : K.fly) (kM : K.kln) (kN : K.spx) (kO : K.sup) (kP : K.act) (kQ : K.thm) (kR : K.chg) (kS : K.tnd) (kT : K.upd) (kU : K.bus) (kV : K.xcp) (kW : K.olt) (mode : Nat) (v2l : Bool) (s : State) :
    (enterMode mode v2l s).mask K = s.mask K := by
  simp only [enterMode, ↓apply_ite (State.mask K), ite_self, ↓foldl_mask, implies_true, mask_sys kD, ↓(set_mask kA), ↓(setB_mask kA), ↓(blankGrant_mask kA kF), ↓(domainOff_mask kA kB kD kF kG kH kI kJ kK kL kM kN kO kP kQ kR kS kT kU kV kW), ↓(emrEnd_mask kA kF kO), ↓(enforceAll_mask kA kJ kP), ↓(kilnDrive_mask kA kF kJ kM kP), ↓(raise_mask kA kF), ↓(showBridges_mask kA)]

theorem execModeTransitionComplete_mask {K : Parts} (kA : K.regs) (kB : K.mem) (kD : K.sys) (kF : K.fab) (kG : K.afe) (kH : K.hk) (kI :
    K.whl) (kJ : K.pwm) (kK : K.cnv) (kL : K.fly) (kM : K.kln) (kN : K.spx) (kO : K.sup) (kP : K.act) (kQ : K.thm) (kR : K.chg) (kS : K.tnd) (kT : K.upd) (kU : K.bus) (kV : K.xcp) (kW : K.olt) (s : State) {s' : State} (hr : execModeTransitionComplete s = .next s') :
    s'.mask K = s.mask K := by
  unfold execModeTransitionComplete at hr
  injection hr with hr; subst hr; (repeat' split) <;> first | (simp only [↓apply_ite (State.mask K), ite_self, ↓foldl_mask, implies_true, ↓(enterMode_mask kA kB kD kF kG kH kI kJ kK kL kM kN kO kP kQ kR kS kT kU kV kW)]; done) | (simp only [↓apply_ite (State.mask K), ite_self, ↓foldl_mask, implies_true, ↓(enterMode_mask kA kB kD kF kG kH kI kJ kK kL kM kN kO kP kQ kR kS kT kU kV kW)]; (repeat' split) <;> first | (simp only [↓apply_ite (State.mask K), ite_self, ↓foldl_mask, implies_true, ↓(enterMode_mask kA kB kD kF kG kH kI kJ kK kL kM kN kO kP kQ kR kS kT kU kV kW)]; done) | rfl | grind [enterMode_mask]) | rfl | grind [enterMode_mask]

theorem dropRequest_mask {K : Parts} (kA : K.regs) (kD : K.sys) (kF : K.fab) (reason : Nat) (s : State) :
    (dropRequest reason s).mask K = s.mask K := by
  simp only [dropRequest, ↓apply_ite (State.mask K), ite_self, ↓foldl_mask, implies_true, mask_sys kD, ↓(set_mask kA), ↓(refuse_mask kA kF)]; (repeat' split) <;> first | (simp only [↓apply_ite (State.mask K), ite_self, ↓foldl_mask, implies_true, mask_sys kD, ↓(set_mask kA), ↓(refuse_mask kA kF)]; done) | (simp only [↓apply_ite (State.mask K), ite_self, ↓foldl_mask, implies_true, mask_sys kD, ↓(set_mask kA), ↓(refuse_mask kA kF)]; (repeat' split) <;> first | (simp only [↓apply_ite (State.mask K), ite_self, ↓foldl_mask, implies_true, mask_sys kD, ↓(set_mask kA), ↓(refuse_mask kA kF)]; done) | rfl | grind [set_mask, refuse_mask, mask_sys]) | rfl | grind [set_mask, refuse_mask, mask_sys]

theorem oltAbort_mask {K : Parts} (kA : K.regs) (kF : K.fab) (kW : K.olt) (s : State) :
    (oltAbort s).mask K = s.mask K := by
  simp only [oltAbort, ↓apply_ite (State.mask K), ite_self, ↓foldl_mask, implies_true, mask_olt kW, ↓(set_mask kA), ↓(raise_mask kA kF)]; (repeat' split) <;> first | (simp only [↓apply_ite (State.mask K), ite_self, ↓foldl_mask, implies_true, mask_olt kW, ↓(set_mask kA), ↓(raise_mask kA kF)]; done) | (simp only [↓apply_ite (State.mask K), ite_self, ↓foldl_mask, implies_true, mask_olt kW, ↓(set_mask kA), ↓(raise_mask kA kF)]; (repeat' split) <;> first | (simp only [↓apply_ite (State.mask K), ite_self, ↓foldl_mask, implies_true, mask_olt kW, ↓(set_mask kA), ↓(raise_mask kA kF)]; done) | rfl | grind [set_mask, raise_mask, mask_olt]) | rfl | grind [set_mask, raise_mask, mask_olt]

theorem imposeSafe_mask {K : Parts} (kA : K.regs) (kB : K.mem) (kD : K.sys) (kF : K.fab) (kG : K.afe) (kH : K.hk) (kI : K.whl) (kJ :
    K.pwm) (kK : K.cnv) (kL : K.fly) (kM : K.kln) (kN : K.spx) (kO : K.sup) (kP : K.act) (kQ : K.thm) (kR : K.chg) (kS : K.tnd) (kT : K.upd) (kU : K.bus) (kV : K.xcp) (kW : K.olt) (top : React) (rs : List React) (s : State) :
    (imposeSafe top rs s).mask K = s.mask K := by
  simp only [imposeSafe, ↓apply_ite (State.mask K), ite_self, ↓foldl_mask, implies_true, mask_sys kD, ↓(cnvImposed_mask kA kF kJ kK kP), ↓(dropRequest_mask kA kD kF), ↓(enforceAll_mask kA kJ kP), ↓(enterMode_mask kA kB kD kF kG kH kI kJ kK kL kM kN kO kP kQ kR kS kT kU kV kW), ↓(kilnDrive_mask kA kF kJ kM kP), ↓(oltAbort_mask kA kF kW), ↓(safeReaction_mask kA kD kF kJ kK kM kP), ↓(showBridges_mask kA)]

theorem imposeLimp_mask {K : Parts} (kA : K.regs) (kB : K.mem) (kD : K.sys) (kF : K.fab) (kG : K.afe) (kH : K.hk) (kI : K.whl) (kJ :
    K.pwm) (kK : K.cnv) (kL : K.fly) (kM : K.kln) (kN : K.spx) (kO : K.sup) (kP : K.act) (kQ : K.thm) (kR : K.chg) (kS : K.tnd) (kT : K.upd) (kU : K.bus) (kV : K.xcp) (kW : K.olt) (rs : List React) (s : State) :
    (imposeLimp rs s).mask K = s.mask K := by
  simp only [imposeLimp, ↓apply_ite (State.mask K), ite_self, ↓foldl_mask, implies_true, mask_sys kD, ↓(set_mask kA), ↓(cnvImposed_mask kA kF kJ kK kP), ↓(debugRevoke_mask kA kF kN kS kV), ↓(dropRequest_mask kA kD kF), ↓(enforceAll_mask kA kJ kP), ↓(enterMode_mask kA kB kD kF kG kH kI kJ kK kL kM kN kO kP kQ kR kS kT kU kV kW)]; (repeat' split) <;> first | (simp only [↓apply_ite (State.mask K), ite_self, ↓foldl_mask, implies_true, mask_sys kD, ↓(set_mask kA), ↓(cnvImposed_mask kA kF kJ kK kP), ↓(debugRevoke_mask kA kF kN kS kV), ↓(dropRequest_mask kA kD kF), ↓(enforceAll_mask kA kJ kP), ↓(enterMode_mask kA kB kD kF kG kH kI kJ kK kL kM kN kO kP kQ kR kS kT kU kV kW)]; done) | (simp only [↓apply_ite (State.mask K), ite_self, ↓foldl_mask, implies_true, mask_sys kD, ↓(set_mask kA), ↓(cnvImposed_mask kA kF kJ kK kP), ↓(debugRevoke_mask kA kF kN kS kV), ↓(dropRequest_mask kA kD kF), ↓(enforceAll_mask kA kJ kP), ↓(enterMode_mask kA kB kD kF kG kH kI kJ kK kL kM kN kO kP kQ kR kS kT kU kV kW)]; (repeat' split) <;> first | (simp only [↓apply_ite (State.mask K), ite_self, ↓foldl_mask, implies_true, mask_sys kD, ↓(set_mask kA), ↓(cnvImposed_mask kA kF kJ kK kP), ↓(debugRevoke_mask kA kF kN kS kV), ↓(dropRequest_mask kA kD kF), ↓(enforceAll_mask kA kJ kP), ↓(enterMode_mask kA kB kD kF kG kH kI kJ kK kL kM kN kO kP kQ kR kS kT kU kV kW)]; done) | rfl | grind [set_mask, cnvImposed_mask, debugRevoke_mask, dropRequest_mask, enforceAll_mask, enterMode_mask, mask_sys]) | rfl | grind [set_mask, cnvImposed_mask, debugRevoke_mask, dropRequest_mask, enforceAll_mask, enterMode_mask, mask_sys]

theorem execImposedTransition_mask {K : Parts} (kA : K.regs) (kB : K.mem) (kD : K.sys) (kF : K.fab) (kG : K.afe) (kH : K.hk) (kI : K.whl)
    (kJ : K.pwm) (kK : K.cnv) (kL : K.fly) (kM : K.kln) (kN : K.spx) (kO : K.sup) (kP : K.act) (kQ : K.thm) (kR : K.chg) (kS : K.tnd) (kT
      : K.upd) (kU : K.bus) (kV : K.xcp) (kW : K.olt) (s : State) {s' : State} (hr : execImposedTransition s = .next s') :
    s'.mask K = s.mask K := by
  injection hr with hr
  subst hr
  dsimp only
  split
  · exact mask_sys kD _ _
  · have h0 := (mask_sup kO { s with sys := { s.sys with reacts := [] } } · |>.trans (mask_sys kD s { s.sys with reacts := [] }))
    (repeat' split) <;> first | exact (imposeSafe_mask kA kB kD kF kG kH kI kJ kK kL kM kN kO kP kQ kR kS kT kU kV kW _ _ _).trans (h0 _) | exact (imposeLimp_mask kA kB kD kF kG kH kI kJ kK kL kM kN kO kP kQ kR kS kT kU kV kW _ _).trans (h0 _) | exact h0 _

theorem linkLossControl_mask {K : Parts} (kA : K.regs) (kB : K.mem) (kD : K.sys) (kF : K.fab) (kG : K.afe) (kH : K.hk) (kI : K.whl) (kJ :
    K.pwm) (kK : K.cnv) (kL : K.fly) (kM : K.kln) (kN : K.spx) (kO : K.sup) (kP : K.act) (kQ : K.thm) (kR : K.chg) (kS : K.tnd) (kT : K.upd) (kU : K.bus) (kV : K.xcp) (kW : K.olt) (s : State) :
    (linkLossControl s).mask K = s.mask K := by
  simp only [linkLossControl, ↓apply_ite (State.mask K), ite_self, ↓foldl_mask, implies_true, mask_sys kD, ↓(set_mask kA), ↓(bridgeModeWrite_mask kA kP), ↓(chStop_mask kA kF kJ kK kP), ↓(cnvAsh_mask kA kF), ↓(issue_mask kD kM), ↓(kilnDrive_mask kA kF kJ kM kP), ↓(raise_mask kA kF), ↓(safeReaction_mask kA kD kF kJ kK kM kP), ↓(startFail_mask kA kB kD kF kG kH kI kJ kK kL kM kN kO kP kQ kR kS kT kU kV kW)]

theorem linkLossKiln_mask {K : Parts} (kA : K.regs) (kD : K.sys) (kF : K.fab) (kJ : K.pwm) (kM : K.kln) (kP : K.act) (s : State) :
    (linkLossKiln s).mask K = s.mask K := by
  simp only [linkLossKiln, ↓apply_ite (State.mask K), ite_self, ↓foldl_mask, implies_true, mask_sys_kln kD kM, ↓(setKln_mask kM), ↓(kilnCond_mask kA kD kF kJ kM kP), ↓(kilnDrive_mask kA kF kJ kM kP), ↓(kilnLatch_mask kA kF kJ kM kP), ↓(kilnRecord_mask kM)]

theorem execLinkTokenTimeout_mask {K : Parts} (kA : K.regs) (kB : K.mem) (kD : K.sys) (kF : K.fab) (kG : K.afe) (kH : K.hk) (kI : K.whl)
    (kJ : K.pwm) (kK : K.cnv) (kL : K.fly) (kM : K.kln) (kN : K.spx) (kO : K.sup) (kP : K.act) (kQ : K.thm) (kR : K.chg) (kS : K.tnd) (kT
      : K.upd) (kU : K.bus) (kV : K.xcp) (kW : K.olt) (die : Die) (s : State) {s' : State} (hr : execLinkTokenTimeout die s = .next s') :
    s'.mask K = s.mask K := by
  unfold execLinkTokenTimeout at hr
  injection hr with hr; subst hr; (repeat' split) <;> first | (simp only [↓apply_ite (State.mask K), ite_self, ↓foldl_mask, implies_true, ↓(linkLossControl_mask kA kB kD kF kG kH kI kJ kK kL kM kN kO kP kQ kR kS kT kU kV kW), ↓(linkLossKiln_mask kA kD kF kJ kM kP)]; done) | (simp only [↓apply_ite (State.mask K), ite_self, ↓foldl_mask, implies_true, ↓(linkLossControl_mask kA kB kD kF kG kH kI kJ kK kL kM kN kO kP kQ kR kS kT kU kV kW), ↓(linkLossKiln_mask kA kD kF kJ kM kP)]; (repeat' split) <;> first | (simp only [↓apply_ite (State.mask K), ite_self, ↓foldl_mask, implies_true, ↓(linkLossControl_mask kA kB kD kF kG kH kI kJ kK kL kM kN kO kP kQ kR kS kT kU kV kW), ↓(linkLossKiln_mask kA kD kF kJ kM kP)]; done) | rfl | grind [linkLossControl_mask, linkLossKiln_mask]) | rfl | grind [linkLossControl_mask, linkLossKiln_mask]

theorem linkFrameControl_mask {K : Parts} (kA : K.regs) (kD : K.sys) (kF : K.fab) (kJ : K.pwm) (kM : K.kln) (kP : K.act) (f : LinkFrame)
    (s : State) :
    (linkFrameControl f s).mask K = s.mask K := by
  simp only [linkFrameControl, ↓apply_ite (State.mask K), ite_self, ↓foldl_mask, implies_true, mask_sys kD, ↓(set_mask kA), ↓(kilnDrive_mask kA kF kJ kM kP), ↓(kreqArrive_mask kA kD kF kJ kM kP)]

theorem execLinkFrameReceive_mask {K : Parts} (kA : K.regs) (kB : K.mem) (kD : K.sys) (kF : K.fab) (kG : K.afe) (kH : K.hk) (kI : K.whl)
    (kJ : K.pwm) (kK : K.cnv) (kL : K.fly) (kM : K.kln) (kN : K.spx) (kO : K.sup) (kP : K.act) (kQ : K.thm) (kR : K.chg) (kS : K.tnd) (kT
      : K.upd) (kU : K.bus) (kV : K.xcp) (kW : K.olt) (f : LinkFrame) (s : State) {s' : State} (hr : execLinkFrameReceive f s = .next s') :
    s'.mask K = s.mask K := by
  unfold execLinkFrameReceive at hr
  injection hr with hr; subst hr; simp only [↓apply_ite (State.mask K), ite_self, ↓foldl_mask, implies_true, mask_sys kD, ↓(bump_mask kA), ↓(setKln_mask kM), ↓(linkFrameControl_mask kA kD kF kJ kM kP), ↓(linkLossControl_mask kA kB kD kF kG kH kI kJ kK kL kM kN kO kP kQ kR kS kT kU kV kW), ↓(linkLossKiln_mask kA kD kF kJ kM kP)]; (repeat' split) <;> first | (simp only [↓apply_ite (State.mask K), ite_self, ↓foldl_mask, implies_true, mask_sys kD, ↓(bump_mask kA), ↓(setKln_mask kM), ↓(linkFrameControl_mask kA kD kF kJ kM kP), ↓(linkLossControl_mask kA kB kD kF kG kH kI kJ kK kL kM kN kO kP kQ kR kS kT kU kV kW), ↓(linkLossKiln_mask kA kD kF kJ kM kP)]; done) | (simp only [↓apply_ite (State.mask K), ite_self, ↓foldl_mask, implies_true, mask_sys kD, ↓(bump_mask kA), ↓(setKln_mask kM), ↓(linkFrameControl_mask kA kD kF kJ kM kP), ↓(linkLossControl_mask kA kB kD kF kG kH kI kJ kK kL kM kN kO kP kQ kR kS kT kU kV kW), ↓(linkLossKiln_mask kA kD kF kJ kM kP)]; (repeat' split) <;> first | (simp only [↓apply_ite (State.mask K), ite_self, ↓foldl_mask, implies_true, mask_sys kD, ↓(bump_mask kA), ↓(setKln_mask kM), ↓(linkFrameControl_mask kA kD kF kJ kM kP), ↓(linkLossControl_mask kA kB kD kF kG kH kI kJ kK kL kM kN kO kP kQ kR kS kT kU kV kW), ↓(linkLossKiln_mask kA kD kF kJ kM kP)]; done) | rfl | grind [bump_mask, setKln_mask, linkFrameControl_mask, linkLossControl_mask, linkLossKiln_mask, mask_sys]) | rfl | grind [bump_mask, setKln_mask, linkFrameControl_mask, linkLossControl_mask, linkLossKiln_mask, mask_sys]

theorem execVbatRise_mask {K : Parts} (kA : K.regs) (kD : K.sys) (kM : K.kln) (kS : K.tnd) (s : State) {s' : State} (hr : execVbatRise s
    = .next s') :
    s'.mask K = s.mask K := by
  unfold execVbatRise at hr
  injection hr with hr; subst hr; simp only [↓apply_ite (State.mask K), ite_self, ↓foldl_mask, implies_true, mask_sys_kln kD kM, ↓(startBegin_mask kA kD kM kS)]; (repeat' split) <;> first | (simp only [↓apply_ite (State.mask K), ite_self, ↓foldl_mask, implies_true, mask_sys_kln kD kM, ↓(startBegin_mask kA kD kM kS)]; done) | (simp only [↓apply_ite (State.mask K), ite_self, ↓foldl_mask, implies_true, mask_sys_kln kD kM, ↓(startBegin_mask kA kD kM kS)]; (repeat' split) <;> first | (simp only [↓apply_ite (State.mask K), ite_self, ↓foldl_mask, implies_true, mask_sys_kln kD kM, ↓(startBegin_mask kA kD kM kS)]; done) | rfl | grind [startBegin_mask, mask_sys_kln]) | rfl | grind [startBegin_mask, mask_sys_kln]

theorem execVbatCollapse_mask {K : Parts} (kA : K.regs) (kB : K.mem) (kC : K.resp) (kD : K.sys) (kE : K.emb) (kF : K.fab) (kG : K.afe)
    (kH : K.hk) (kI : K.whl) (kJ : K.pwm) (kK : K.cnv) (kL : K.fly) (kM : K.kln) (kN : K.spx) (kO : K.sup) (kP : K.act) (kQ : K.thm) (kR
      : K.chg) (kS : K.tnd) (kT : K.upd) (kU : K.bus) (kV : K.xcp) (kW : K.olt) (s : State) {s' : State} (hr : execVbatCollapse s = .next s') :
    s'.mask K = s.mask K := by
  injection hr with hr
  subst hr
  simp only [State.mask, kA, kB, kC, kD, kE, kF, kG, kH, kI, kJ, kK, kL, kM, kN, kO, kP, kQ, kR, kS, kT, kU, kV, kW, if_true, State.reset]

theorem execSupplyGood_mask {K : Parts} (kD : K.sys) (s : State) {s' : State} (hr : execSupplyGood s = .next s') :
    s'.mask K = s.mask K := by
  unfold execSupplyGood at hr
  injection hr with hr; subst hr; simp only [↓apply_ite (State.mask K), ite_self, ↓foldl_mask, implies_true, mask_sys kD]; (repeat' split) <;> first | (simp only [↓apply_ite (State.mask K), ite_self, ↓foldl_mask, implies_true, mask_sys kD]; done) | (simp only [↓apply_ite (State.mask K), ite_self, ↓foldl_mask, implies_true, mask_sys kD]; (repeat' split) <;> first | (simp only [↓apply_ite (State.mask K), ite_self, ↓foldl_mask, implies_true, mask_sys kD]; done) | rfl | grind [mask_sys]) | rfl | grind [mask_sys]

theorem execSupplyTimeout_mask {K : Parts} (kA : K.regs) (kB : K.mem) (kD : K.sys) (kF : K.fab) (kG : K.afe) (kH : K.hk) (kI : K.whl) (kJ
    : K.pwm) (kK : K.cnv) (kL : K.fly) (kM : K.kln) (kN : K.spx) (kO : K.sup) (kP : K.act) (kQ : K.thm) (kR : K.chg) (kS : K.tnd) (kT : K.upd) (kU : K.bus) (kV : K.xcp) (kW : K.olt) (s : State) {s' : State} (hr : execSupplyTimeout s = .next s') :
    s'.mask K = s.mask K := by
  unfold execSupplyTimeout at hr
  injection hr with hr; subst hr; (repeat' split) <;> first | (simp only [↓apply_ite (State.mask K), ite_self, ↓foldl_mask, implies_true, ↓(startFail_mask kA kB kD kF kG kH kI kJ kK kL kM kN kO kP kQ kR kS kT kU kV kW)]; done) | (simp only [↓apply_ite (State.mask K), ite_self, ↓foldl_mask, implies_true, ↓(startFail_mask kA kB kD kF kG kH kI kJ kK kL kM kN kO kP kQ kR kS kT kU kV kW)]; (repeat' split) <;> first | (simp only [↓apply_ite (State.mask K), ite_self, ↓foldl_mask, implies_true, ↓(startFail_mask kA kB kD kF kG kH kI kJ kK kL kM kN kO kP kQ kR kS kT kU kV kW)]; done) | rfl | grind [startFail_mask]) | rfl | grind [startFail_mask]

theorem execReferenceClockFail_mask {K : Parts} (kA : K.regs) (kB : K.mem) (kD : K.sys) (kF : K.fab) (kG : K.afe) (kH : K.hk) (kI :
    K.whl) (kJ : K.pwm) (kK : K.cnv) (kL : K.fly) (kM : K.kln) (kN : K.spx) (kO : K.sup) (kP : K.act) (kQ : K.thm) (kR : K.chg) (kS : K.tnd) (kT : K.upd) (kU : K.bus) (kV : K.xcp) (kW : K.olt) (s : State) {s' : State} (hr : execReferenceClockFail s = .next s') :
    s'.mask K = s.mask K := by
  unfold execReferenceClockFail at hr
  injection hr with hr; subst hr; (repeat' split) <;> first | (simp only [↓apply_ite (State.mask K), ite_self, ↓foldl_mask, implies_true, ↓(startFail_mask kA kB kD kF kG kH kI kJ kK kL kM kN kO kP kQ kR kS kT kU kV kW)]; done) | (simp only [↓apply_ite (State.mask K), ite_self, ↓foldl_mask, implies_true, ↓(startFail_mask kA kB kD kF kG kH kI kJ kK kL kM kN kO kP kQ kR kS kT kU kV kW)]; (repeat' split) <;> first | (simp only [↓apply_ite (State.mask K), ite_self, ↓foldl_mask, implies_true, ↓(startFail_mask kA kB kD kF kG kH kI kJ kK kL kM kN kO kP kQ kR kS kT kU kV kW)]; done) | rfl | grind [startFail_mask]) | rfl | grind [startFail_mask]

theorem execPllLockTimeout_mask {K : Parts} (kA : K.regs) (kB : K.mem) (kD : K.sys) (kF : K.fab) (kG : K.afe) (kH : K.hk) (kI : K.whl)
    (kJ : K.pwm) (kK : K.cnv) (kL : K.fly) (kM : K.kln) (kN : K.spx) (kO : K.sup) (kP : K.act) (kQ : K.thm) (kR : K.chg) (kS : K.tnd) (kT
      : K.upd) (kU : K.bus) (kV : K.xcp) (kW : K.olt) (s : State) {s' : State} (hr : execPllLockTimeout s = .next s') :
    s'.mask K = s.mask K := by
  unfold execPllLockTimeout at hr
  injection hr with hr; subst hr; (repeat' split) <;> first | (simp only [↓apply_ite (State.mask K), ite_self, ↓foldl_mask, implies_true, ↓(startFail_mask kA kB kD kF kG kH kI kJ kK kL kM kN kO kP kQ kR kS kT kU kV kW)]; done) | (simp only [↓apply_ite (State.mask K), ite_self, ↓foldl_mask, implies_true, ↓(startFail_mask kA kB kD kF kG kH kI kJ kK kL kM kN kO kP kQ kR kS kT kU kV kW)]; (repeat' split) <;> first | (simp only [↓apply_ite (State.mask K), ite_self, ↓foldl_mask, implies_true, ↓(startFail_mask kA kB kD kF kG kH kI kJ kK kL kM kN kO kP kQ kR kS kT kU kV kW)]; done) | rfl | grind [startFail_mask]) | rfl | grind [startFail_mask]

theorem tndShow_mask {K : Parts} (kA : K.regs) (s : State) :
    (tndShow s).mask K = s.mask K := by
  simp only [tndShow, ↓apply_ite (State.mask K), ite_self, ↓foldl_mask, implies_true, ↓(set_mask kA), ↓(setB_mask kA)]

theorem tndFault_mask {K : Parts} (kA : K.regs) (kD : K.sys) (kF : K.fab) (kM : K.kln) (code : Nat) (s : State) :
    (tndFault code s).mask K = s.mask K := by
  simp only [tndFault, ↓apply_ite (State.mask K), ite_self, ↓foldl_mask, implies_true, ↓(issue_mask kD kM), ↓(raise_mask kA kF)]

theorem zeroise_mask {K : Parts} (kS : K.tnd) (s : State) :
    (zeroise s).mask K = s.mask K := by
  simp only [zeroise, ↓apply_ite (State.mask K), ite_self, ↓foldl_mask, implies_true, mask_tnd kS]

theorem tinderBoot_mask {K : Parts} (kA : K.regs) (kB : K.mem) (kD : K.sys) (kF : K.fab) (kG : K.afe) (kH : K.hk) (kI : K.whl) (kJ :
    K.pwm) (kK : K.cnv) (kL : K.fly) (kM : K.kln) (kN : K.spx) (kO : K.sup) (kP : K.act) (kQ : K.thm) (kR : K.chg) (kS : K.tnd) (kT : K.upd) (kU : K.bus) (kV : K.xcp) (kW : K.olt) (fuseOk : Bool) (s : State) :
    (tinderBoot fuseOk s).mask K = s.mask K := by
  simp only [tinderBoot, ↓apply_ite (State.mask K), ite_self, ↓foldl_mask, implies_true, mask_tnd kS, ↓(startFail_mask kA kB kD kF kG kH kI kJ kK kL kM kN kO kP kQ kR kS kT kU kV kW), ↓(tndFault_mask kA kD kF kM), ↓(zeroise_mask kS)]

theorem execPllLock_mask {K : Parts} (kA : K.regs) (kB : K.mem) (kD : K.sys) (kF : K.fab) (kG : K.afe) (kH : K.hk) (kI : K.whl) (kJ :
    K.pwm) (kK : K.cnv) (kL : K.fly) (kM : K.kln) (kN : K.spx) (kO : K.sup) (kP : K.act) (kQ : K.thm) (kR : K.chg) (kS : K.tnd) (kT : K.upd) (kU : K.bus) (kV : K.xcp) (kW : K.olt) (fuseOk : Bool) (s : State) {s' : State} (hr : execPllLock fuseOk s = .next s') :
    s'.mask K = s.mask K := by
  unfold execPllLock at hr
  injection hr with hr; subst hr; simp only [↓apply_ite (State.mask K), ite_self, ↓foldl_mask, implies_true, mask_sys kD, mask_fab kF, ↓(set_mask kA), ↓(setB_mask kA), ↓(domainOn_mask kA), ↓(tinderBoot_mask kA kB kD kF kG kH kI kJ kK kL kM kN kO kP kQ kR kS kT kU kV kW)]; (repeat' split) <;> first | (simp only [↓apply_ite (State.mask K), ite_self, ↓foldl_mask, implies_true, mask_sys kD, mask_fab kF, ↓(set_mask kA), ↓(setB_mask kA), ↓(domainOn_mask kA), ↓(tinderBoot_mask kA kB kD kF kG kH kI kJ kK kL kM kN kO kP kQ kR kS kT kU kV kW)]; done) | (simp only [↓apply_ite (State.mask K), ite_self, ↓foldl_mask, implies_true, mask_sys kD, mask_fab kF, ↓(set_mask kA), ↓(setB_mask kA), ↓(domainOn_mask kA), ↓(tinderBoot_mask kA kB kD kF kG kH kI kJ kK kL kM kN kO kP kQ kR kS kT kU kV kW)]; (repeat' split) <;> first | (simp only [↓apply_ite (State.mask K), ite_self, ↓foldl_mask, implies_true, mask_sys kD, mask_fab kF, ↓(set_mask kA), ↓(setB_mask kA), ↓(domainOn_mask kA), ↓(tinderBoot_mask kA kB kD kF kG kH kI kJ kK kL kM kN kO kP kQ kR kS kT kU kV kW)]; done) | rfl | grind [set_mask, setB_mask, domainOn_mask, tinderBoot_mask, mask_sys, mask_fab]) | rfl | grind [set_mask, setB_mask, domainOn_mask, tinderBoot_mask, mask_sys, mask_fab]

theorem execDomainPowerOn_mask {K : Parts} (kA : K.regs) (kD : K.sys) (s : State) {s' : State} (hr : execDomainPowerOn s = .next s') :
    s'.mask K = s.mask K := by
  unfold execDomainPowerOn at hr
  injection hr with hr; subst hr; simp only [↓apply_ite (State.mask K), ite_self, ↓foldl_mask, implies_true, mask_sys kD, ↓(domainOn_mask kA)]; (repeat' split) <;> first | (simp only [↓apply_ite (State.mask K), ite_self, ↓foldl_mask, implies_true, mask_sys kD, ↓(domainOn_mask kA)]; done) | (simp only [↓apply_ite (State.mask K), ite_self, ↓foldl_mask, implies_true, mask_sys kD, ↓(domainOn_mask kA)]; (repeat' split) <;> first | (simp only [↓apply_ite (State.mask K), ite_self, ↓foldl_mask, implies_true, mask_sys kD, ↓(domainOn_mask kA)]; done) | rfl | grind [domainOn_mask, mask_sys]) | rfl | grind [domainOn_mask, mask_sys]

theorem execMemoryFillDone_mask {K : Parts} (kA : K.regs) (kB : K.mem) (kD : K.sys) (kF : K.fab) (kG : K.afe) (kH : K.hk) (kI : K.whl)
    (kJ : K.pwm) (kK : K.cnv) (kL : K.fly) (kM : K.kln) (kN : K.spx) (kO : K.sup) (kP : K.act) (kQ : K.thm) (kR : K.chg) (kS : K.tnd) (kT
      : K.upd) (kU : K.bus) (kV : K.xcp) (kW : K.olt) (d : Fin 11) (ok : Bool) (s : State) {s' : State} (hr : execMemoryFillDone d ok s = .next s') :
    s'.mask K = s.mask K := by
  unfold execMemoryFillDone at hr
  injection hr with hr; subst hr; simp only [↓apply_ite (State.mask K), ite_self, ↓foldl_mask, implies_true, mask_sys kD, ↓(setBit_mask kA), ↓(startFail_mask kA kB kD kF kG kH kI kJ kK kL kM kN kO kP kQ kR kS kT kU kV kW), ↓(tndShow_mask kA)]

theorem execWhorlReloadDone_mask {K : Parts} (kA : K.regs) (kB : K.mem) (kF : K.fab) (high : Bool) (s : State) {s' : State} (hr :
    execWhorlReloadDone high s = .next s') :
    s'.mask K = s.mask K := by
  unfold execWhorlReloadDone at hr
  injection hr with hr; subst hr; simp only [↓apply_ite (State.mask K), ite_self, ↓foldl_mask, implies_true, ↓(setBit_mask kA), ↓(place_mask kB kF)]

theorem execLinkUpTimeout_mask {K : Parts} (kA : K.regs) (kB : K.mem) (kD : K.sys) (kF : K.fab) (kG : K.afe) (kH : K.hk) (kI : K.whl) (kJ
    : K.pwm) (kK : K.cnv) (kL : K.fly) (kM : K.kln) (kN : K.spx) (kO : K.sup) (kP : K.act) (kQ : K.thm) (kR : K.chg) (kS : K.tnd) (kT : K.upd) (kU : K.bus) (kV : K.xcp) (kW : K.olt) (s : State) {s' : State} (hr : execLinkUpTimeout s = .next s') :
    s'.mask K = s.mask K := by
  unfold execLinkUpTimeout at hr
  injection hr with hr; subst hr; simp only [↓apply_ite (State.mask K), ite_self, ↓foldl_mask, implies_true, ↓(startFail_mask kA kB kD kF kG kH kI kJ kK kL kM kN kO kP kQ kR kS kT kU kV kW)]

theorem releaseUnits_mask {K : Parts} (kA : K.regs) (kD : K.sys) (kU : K.bus) (s : State) :
    (releaseUnits s).mask K = s.mask K := by
  simp only [releaseUnits, ↓apply_ite (State.mask K), ite_self, ↓foldl_mask, implies_true, mask_sys kD, mask_bus kU, ↓(set_mask kA), ↓(setB_mask kA), ↓(setCan_mask kU)]

theorem releaseProbation_mask {K : Parts} (kA : K.regs) (kS : K.tnd) (s : State) :
    (releaseProbation s).mask K = s.mask K := by
  simp only [releaseProbation, ↓apply_ite (State.mask K), ite_self, ↓foldl_mask, implies_true, mask_tnd kS, ↓(set_mask kA)]

theorem execCoreRelease_mask {K : Parts} (kA : K.regs) (kB : K.mem) (kD : K.sys) (kF : K.fab) (kG : K.afe) (kH : K.hk) (kI : K.whl) (kJ :
    K.pwm) (kK : K.cnv) (kL : K.fly) (kM : K.kln) (kN : K.spx) (kO : K.sup) (kP : K.act) (kQ : K.thm) (kR : K.chg) (kS : K.tnd) (kT : K.upd) (kU : K.bus) (kV : K.xcp) (kW : K.olt) (s : State) {s' : State} (hr : execCoreRelease s = .next s') :
    s'.mask K = s.mask K := by
  unfold execCoreRelease at hr
  injection hr with hr; subst hr; simp only [↓apply_ite (State.mask K), ite_self, ↓foldl_mask, implies_true, mask_sys kD, ↓(blankGrant_mask kA kF), ↓(enterMode_mask kA kB kD kF kG kH kI kJ kK kL kM kN kO kP kQ kR kS kT kU kV kW), ↓(kilnDrive_mask kA kF kJ kM kP), ↓(raise_mask kA kF), ↓(releaseProbation_mask kA kS), ↓(releaseUnits_mask kA kD kU)]

theorem execStartTimeout_mask {K : Parts} (kD : K.sys) (kM : K.kln) (s : State) {s' : State} (hr : execStartTimeout s = .next s') :
    s'.mask K = s.mask K := by
  unfold execStartTimeout at hr
  injection hr with hr; subst hr; (repeat' split) <;> first | (simp only [↓apply_ite (State.mask K), ite_self, ↓foldl_mask, implies_true, ↓(issue_mask kD kM)]; done) | (simp only [↓apply_ite (State.mask K), ite_self, ↓foldl_mask, implies_true, ↓(issue_mask kD kM)]; (repeat' split) <;> first | (simp only [↓apply_ite (State.mask K), ite_self, ↓foldl_mask, implies_true, ↓(issue_mask kD kM)]; done) | rfl | grind [issue_mask]) | rfl | grind [issue_mask]

theorem kilnHold_mask {K : Parts} (kA : K.regs) (kF : K.fab) (kJ : K.pwm) (kM : K.kln) (kP : K.act) (s : State) :
    (kilnHold s).mask K = s.mask K := by
  simp only [kilnHold, ↓apply_ite (State.mask K), ite_self, ↓foldl_mask, implies_true, ↓(setKln_mask kM), ↓(kilnDrive_mask kA kF kJ kM kP)]

theorem execSupEnHoldEnd_mask {K : Parts} (kA : K.regs) (kD : K.sys) (kF : K.fab) (kJ : K.pwm) (kM : K.kln) (kP : K.act) (kS : K.tnd) (s
    : State) {s' : State} (hr : execSupEnHoldEnd s = .next s') :
    s'.mask K = s.mask K := by
  unfold execSupEnHoldEnd at hr
  injection hr with hr; subst hr; simp only [↓apply_ite (State.mask K), ite_self, ↓foldl_mask, implies_true, mask_sys kD, ↓(set_mask kA), ↓(kilnHold_mask kA kF kJ kM kP), ↓(startBegin_mask kA kD kM kS)]; (repeat' split) <;> first | (simp only [↓apply_ite (State.mask K), ite_self, ↓foldl_mask, implies_true, mask_sys kD, ↓(set_mask kA), ↓(kilnHold_mask kA kF kJ kM kP), ↓(startBegin_mask kA kD kM kS)]; done) | (simp only [↓apply_ite (State.mask K), ite_self, ↓foldl_mask, implies_true, mask_sys kD, ↓(set_mask kA), ↓(kilnHold_mask kA kF kJ kM kP), ↓(startBegin_mask kA kD kM kS)]; (repeat' split) <;> first | (simp only [↓apply_ite (State.mask K), ite_self, ↓foldl_mask, implies_true, mask_sys kD, ↓(set_mask kA), ↓(kilnHold_mask kA kF kJ kM kP), ↓(startBegin_mask kA kD kM kS)]; done) | rfl | grind [set_mask, kilnHold_mask, startBegin_mask, mask_sys]) | rfl | grind [set_mask, kilnHold_mask, startBegin_mask, mask_sys]

theorem showSupplies_mask {K : Parts} (kA : K.regs) (s : State) :
    (showSupplies s).mask K = s.mask K := by
  simp only [showSupplies, ↓apply_ite (State.mask K), ite_self, ↓foldl_mask, implies_true, ↓(set_mask kA)]

theorem execSupplyWarning_mask {K : Parts} (kA : K.regs) (kD : K.sys) (kF : K.fab) (kJ : K.pwm) (kK : K.cnv) (kM : K.kln) (kP : K.act)
    (supply : Supply) (above : Bool) (s : State) {s' : State} (hr : execSupplyWarning supply above s = .next s') :
    s'.mask K = s.mask K := by
  unfold execSupplyWarning at hr
  injection hr with hr; subst hr; simp only [↓apply_ite (State.mask K), ite_self, ↓foldl_mask, implies_true, mask_sys kD, ↓(chDisable_mask kA kF kJ kK kP), ↓(preFail_mask kA kD kM), ↓(raise_mask kA kF), ↓(showSupplies_mask kA)]

theorem execSupplyFault_mask {K : Parts} (kA : K.regs) (kB : K.mem) (kD : K.sys) (kF : K.fab) (kG : K.afe) (kH : K.hk) (kI : K.whl) (kJ :
    K.pwm) (kK : K.cnv) (kL : K.fly) (kM : K.kln) (kN : K.spx) (kO : K.sup) (kP : K.act) (kQ : K.thm) (kR : K.chg) (kS : K.tnd) (kT : K.upd) (kU : K.bus) (kV : K.xcp) (kW : K.olt) (supply : Supply) (above : Bool) (s : State) {s' : State} (hr : execSupplyFault supply above s = .next s') :
    s'.mask K = s.mask K := by
  unfold execSupplyFault at hr
  injection hr with hr; subst hr; simp only [↓apply_ite (State.mask K), ite_self, ↓foldl_mask, implies_true, mask_sys kD, ↓(setBit_mask kA), ↓(allOff_mask kA kB kD kF kG kH kI kJ kK kL kM kN kO kP kQ kR kS kT kU kV kW), ↓(kilnCond_mask kA kD kF kJ kM kP), ↓(raise_mask kA kF), ↓(showSupplies_mask kA)]; (repeat' split) <;> first | (simp only [↓apply_ite (State.mask K), ite_self, ↓foldl_mask, implies_true, mask_sys kD, ↓(setBit_mask kA), ↓(allOff_mask kA kB kD kF kG kH kI kJ kK kL kM kN kO kP kQ kR kS kT kU kV kW), ↓(kilnCond_mask kA kD kF kJ kM kP), ↓(raise_mask kA kF), ↓(showSupplies_mask kA)]; done) | (simp only [↓apply_ite (State.mask K), ite_self, ↓foldl_mask, implies_true, mask_sys kD, ↓(setBit_mask kA), ↓(allOff_mask kA kB kD kF kG kH kI kJ kK kL kM kN kO kP kQ kR kS kT kU kV kW), ↓(kilnCond_mask kA kD kF kJ kM kP), ↓(raise_mask kA kF), ↓(showSupplies_mask kA)]; (repeat' split) <;> first | (simp only [↓apply_ite (State.mask K), ite_self, ↓foldl_mask, implies_true, mask_sys kD, ↓(setBit_mask kA), ↓(allOff_mask kA kB kD kF kG kH kI kJ kK kL kM kN kO kP kQ kR kS kT kU kV kW), ↓(kilnCond_mask kA kD kF kJ kM kP), ↓(raise_mask kA kF), ↓(showSupplies_mask kA)]; done) | rfl | grind [setBit_mask, allOff_mask, kilnCond_mask, raise_mask, showSupplies_mask, mask_sys]) | rfl | grind [setBit_mask, allOff_mask, kilnCond_mask, raise_mask, showSupplies_mask, mask_sys]

theorem execSupplyRecovery_mask {K : Parts} (kA : K.regs) (kD : K.sys) (kF : K.fab) (kJ : K.pwm) (kM : K.kln) (kP : K.act) (supply :
    Supply) (fault : Bool) (s : State) {s' : State} (hr : execSupplyRecovery supply fault s = .next s') :
    s'.mask K = s.mask K := by
  unfold execSupplyRecovery at hr
  injection hr with hr; subst hr; simp only [↓apply_ite (State.mask K), ite_self, ↓foldl_mask, implies_true, mask_sys kD, ↓(kilnCond_mask kA kD kF kJ kM kP), ↓(showSupplies_mask kA)]; (repeat' split) <;> first | (simp only [↓apply_ite (State.mask K), ite_self, ↓foldl_mask, implies_true, mask_sys kD, ↓(kilnCond_mask kA kD kF kJ kM kP), ↓(showSupplies_mask kA)]; done) | (simp only [↓apply_ite (State.mask K), ite_self, ↓foldl_mask, implies_true, mask_sys kD, ↓(kilnCond_mask kA kD kF kJ kM kP), ↓(showSupplies_mask kA)]; (repeat' split) <;> first | (simp only [↓apply_ite (State.mask K), ite_self, ↓foldl_mask, implies_true, mask_sys kD, ↓(kilnCond_mask kA kD kF kJ kM kP), ↓(showSupplies_mask kA)]; done) | rfl | grind [kilnCond_mask, showSupplies_mask, mask_sys]) | rfl | grind [kilnCond_mask, showSupplies_mask, mask_sys]

theorem execControlDieRelease_mask {K : Parts} (kA : K.regs) (kD : K.sys) (kM : K.kln) (kS : K.tnd) (s : State) {s' : State} (hr :
    execControlDieRelease s = .next s') :
    s'.mask K = s.mask K := by
  unfold execControlDieRelease at hr
  injection hr with hr; subst hr; (repeat' split) <;> first | (simp only [↓apply_ite (State.mask K), ite_self, ↓foldl_mask, implies_true, ↓(startBegin_mask kA kD kM kS)]; done) | (simp only [↓apply_ite (State.mask K), ite_self, ↓foldl_mask, implies_true, ↓(startBegin_mask kA kD kM kS)]; (repeat' split) <;> first | (simp only [↓apply_ite (State.mask K), ite_self, ↓foldl_mask, implies_true, ↓(startBegin_mask kA kD kM kS)]; done) | rfl | grind [startBegin_mask]) | rfl | grind [startBegin_mask]

theorem execDormantDomainOff_mask {K : Parts} (kA : K.regs) (kB : K.mem) (kD : K.sys) (kF : K.fab) (kG : K.afe) (kH : K.hk) (kI : K.whl)
    (kJ : K.pwm) (kK : K.cnv) (kL : K.fly) (kM : K.kln) (kN : K.spx) (kO : K.sup) (kP : K.act) (kQ : K.thm) (kR : K.chg) (kS : K.tnd) (kT
      : K.upd) (kU : K.bus) (kV : K.xcp) (kW : K.olt) (s : State) {s' : State} (hr : execDormantDomainOff s = .next s') :
    s'.mask K = s.mask K := by
  unfold execDormantDomainOff at hr
  injection hr with hr; subst hr; simp only [↓apply_ite (State.mask K), ite_self, ↓foldl_mask, implies_true, mask_sys kD, ↓(domainOff_mask kA kB kD kF kG kH kI kJ kK kL kM kN kO kP kQ kR kS kT kU kV kW), ↓(kilnDrive_mask kA kF kJ kM kP)]; (repeat' split) <;> first | (simp only [↓apply_ite (State.mask K), ite_self, ↓foldl_mask, implies_true, mask_sys kD, ↓(domainOff_mask kA kB kD kF kG kH kI kJ kK kL kM kN kO kP kQ kR kS kT kU kV kW), ↓(kilnDrive_mask kA kF kJ kM kP)]; done) | (simp only [↓apply_ite (State.mask K), ite_self, ↓foldl_mask, implies_true, mask_sys kD, ↓(domainOff_mask kA kB kD kF kG kH kI kJ kK kL kM kN kO kP kQ kR kS kT kU kV kW), ↓(kilnDrive_mask kA kF kJ kM kP)]; (repeat' split) <;> first | (simp only [↓apply_ite (State.mask K), ite_self, ↓foldl_mask, implies_true, mask_sys kD, ↓(domainOff_mask kA kB kD kF kG kH kI kJ kK kL kM kN kO kP kQ kR kS kT kU kV kW), ↓(kilnDrive_mask kA kF kJ kM kP)]; done) | rfl | grind [domainOff_mask, kilnDrive_mask, mask_sys]) | rfl | grind [domainOff_mask, kilnDrive_mask, mask_sys]

theorem execDormantEntryComplete_mask {K : Parts} (kA : K.regs) (kD : K.sys) (kF : K.fab) (kJ : K.pwm) (kM : K.kln) (kP : K.act) (s :
    State) {s' : State} (hr : execDormantEntryComplete s = .next s') :
    s'.mask K = s.mask K := by
  unfold execDormantEntryComplete at hr
  injection hr with hr; subst hr; simp only [↓apply_ite (State.mask K), ite_self, ↓foldl_mask, implies_true, mask_sys kD, ↓(kilnHold_mask kA kF kJ kM kP)]; (repeat' split) <;> first | (simp only [↓apply_ite (State.mask K), ite_self, ↓foldl_mask, implies_true, mask_sys kD, ↓(kilnHold_mask kA kF kJ kM kP)]; done) | (simp only [↓apply_ite (State.mask K), ite_self, ↓foldl_mask, implies_true, mask_sys kD, ↓(kilnHold_mask kA kF kJ kM kP)]; (repeat' split) <;> first | (simp only [↓apply_ite (State.mask K), ite_self, ↓foldl_mask, implies_true, mask_sys kD, ↓(kilnHold_mask kA kF kJ kM kP)]; done) | rfl | grind [kilnHold_mask, mask_sys]) | rfl | grind [kilnHold_mask, mask_sys]

theorem execLatchedWakeStart_mask {K : Parts} (kA : K.regs) (kD : K.sys) (kE : K.emb) (kM : K.kln) (kS : K.tnd) (s : State) {s' : State}
    (hr : execLatchedWakeStart s = .next s') :
    s'.mask K = s.mask K := by
  unfold execLatchedWakeStart at hr
  injection hr with hr; subst hr; simp only [↓apply_ite (State.mask K), ite_self, ↓foldl_mask, implies_true, mask_emb kE, ↓(startBegin_mask kA kD kM kS)]; (repeat' split) <;> first | (simp only [↓apply_ite (State.mask K), ite_self, ↓foldl_mask, implies_true, mask_emb kE, ↓(startBegin_mask kA kD kM kS)]; done) | (simp only [↓apply_ite (State.mask K), ite_self, ↓foldl_mask, implies_true, mask_emb kE, ↓(startBegin_mask kA kD kM kS)]; (repeat' split) <;> first | (simp only [↓apply_ite (State.mask K), ite_self, ↓foldl_mask, implies_true, mask_emb kE, ↓(startBegin_mask kA kD kM kS)]; done) | rfl | grind [startBegin_mask, mask_emb]) | rfl | grind [startBegin_mask, mask_emb]

theorem execKilnHoldExit_mask {K : Parts} (kA : K.regs) (kD : K.sys) (kF : K.fab) (kJ : K.pwm) (kM : K.kln) (kP : K.act) (s : State) {s'
    : State} (hr : execKilnHoldExit s = .next s') :
    s'.mask K = s.mask K := by
  unfold execKilnHoldExit at hr
  injection hr with hr; subst hr; simp only [↓apply_ite (State.mask K), ite_self, ↓foldl_mask, implies_true, mask_sys kD, ↓(setKln_mask kM), ↓(kilnCond_mask kA kD kF kJ kM kP), ↓(kilnDrive_mask kA kF kJ kM kP)]

theorem setEreg_mask {K : Parts} (kE : K.emb) (s : State) (r : Nat) (v : Word) :
    (State.setEreg s r v).mask K = s.mask K := by
  simp only [State.setEreg, ↓apply_ite (State.mask K), ite_self, ↓foldl_mask, implies_true, mask_emb kE]

theorem storeWords_mask {K : Parts} (kB : K.mem) (s : State) (a : Nat) (y2 : List Word) :
    (State.storeWords s a y2).mask K = s.mask K := by
  induction y2 generalizing s a with
  | nil => rfl
  | cons b r ih => exact (ih _ _).trans (store_mask kB _ _ _ _)

theorem refreshArmed_mask {K : Parts} (kA : K.regs) (s : State) :
    (refreshArmed s).mask K = s.mask K := by
  simp only [refreshArmed, ↓apply_ite (State.mask K), ite_self, ↓foldl_mask, implies_true, ↓(setB_mask kA)]

theorem installProgram_mask {K : Parts} (kA : K.regs) (kB : K.mem) (kE : K.emb) (p : List Word) (s : State) :
    (installProgram p s).mask K = s.mask K := by
  simp only [installProgram, ↓apply_ite (State.mask K), ite_self, ↓foldl_mask, implies_true, mask_emb kE, ↓(set_mask kA), ↓(storeWords_mask kB), ↓(refreshArmed_mask kA)]

theorem passBoundary_mask {K : Parts} (kA : K.regs) (kB : K.mem) (kE : K.emb) (s : State) :
    (passBoundary s).mask K = s.mask K := by
  simp only [passBoundary, ↓apply_ite (State.mask K), ite_self, ↓foldl_mask, implies_true, ↓(installProgram_mask kA kB kE)]; (repeat' split) <;> first | (simp only [↓apply_ite (State.mask K), ite_self, ↓foldl_mask, implies_true, ↓(installProgram_mask kA kB kE)]; done) | (simp only [↓apply_ite (State.mask K), ite_self, ↓foldl_mask, implies_true, ↓(installProgram_mask kA kB kE)]; (repeat' split) <;> first | (simp only [↓apply_ite (State.mask K), ite_self, ↓foldl_mask, implies_true, ↓(installProgram_mask kA kB kE)]; done) | rfl | grind [installProgram_mask]) | rfl | grind [installProgram_mask]

theorem startPass_mask {K : Parts} (kE : K.emb) (s : State) :
    (startPass s).mask K = s.mask K := by
  simp only [startPass, ↓apply_ite (State.mask K), ite_self, ↓foldl_mask, implies_true, mask_emb kE]

theorem triggerPass_mask {K : Parts} (kA : K.regs) (kB : K.mem) (kE : K.emb) (s : State) :
    (triggerPass s).mask K = s.mask K := by
  simp only [triggerPass, ↓apply_ite (State.mask K), ite_self, ↓foldl_mask, implies_true, mask_emb kE, ↓(passBoundary_mask kA kB kE), ↓(startPass_mask kE)]

theorem endPass_mask {K : Parts} (kA : K.regs) (kB : K.mem) (kE : K.emb) (s : State) :
    (endPass s).mask K = s.mask K := by
  simp only [endPass, ↓apply_ite (State.mask K), ite_self, ↓foldl_mask, implies_true, mask_emb kE, ↓(passBoundary_mask kA kB kE), ↓(startPass_mask kE)]

theorem wakeDecision_mask {K : Parts} (kA : K.regs) (kD : K.sys) (kE : K.emb) (kF : K.fab) (kM : K.kln) (kS : K.tnd) (reason : Nat) (s : State) :
    (wakeDecision reason s).mask K = s.mask K := by
  simp only [wakeDecision, ↓apply_ite (State.mask K), ite_self, ↓foldl_mask, implies_true, mask_sys kD, mask_emb kE, ↓(set_mask kA), ↓(raise_mask kA kF), ↓(startBegin_mask kA kD kM kS)]; (repeat' split) <;> first | (simp only [↓apply_ite (State.mask K), ite_self, ↓foldl_mask, implies_true, mask_sys kD, mask_emb kE, ↓(set_mask kA), ↓(raise_mask kA kF), ↓(startBegin_mask kA kD kM kS)]; done) | (simp only [↓apply_ite (State.mask K), ite_self, ↓foldl_mask, implies_true, mask_sys kD, mask_emb kE, ↓(set_mask kA), ↓(raise_mask kA kF), ↓(startBegin_mask kA kD kM kS)]; (repeat' split) <;> first | (simp only [↓apply_ite (State.mask K), ite_self, ↓foldl_mask, implies_true, mask_sys kD, mask_emb kE, ↓(set_mask kA), ↓(raise_mask kA kF), ↓(startBegin_mask kA kD kM kS)]; done) | rfl | grind [set_mask, raise_mask, mask_sys, mask_emb, startBegin_mask]) | rfl | grind [set_mask, raise_mask, mask_sys, mask_emb, startBegin_mask]

theorem emberFault_mask {K : Parts} (kA : K.regs) (kB : K.mem) (kD : K.sys) (kE : K.emb) (kF : K.fab) (kM : K.kln) (kS : K.tnd) (code : Nat) (s :
    State) :
    (emberFault code s).mask K = s.mask K := by
  simp only [emberFault, ↓apply_ite (State.mask K), ite_self, ↓foldl_mask, implies_true, ↓(set_mask kA), ↓(endPass_mask kA kB kE), ↓(issue_mask kD kM), ↓(raise_mask kA kF), ↓(wakeDecision_mask kA kD kE kF kM kS)]; (repeat' split) <;> first | (simp only [↓apply_ite (State.mask K), ite_self, ↓foldl_mask, implies_true, ↓(set_mask kA), ↓(endPass_mask kA kB kE), ↓(issue_mask kD kM), ↓(raise_mask kA kF), ↓(wakeDecision_mask kA kD kE kF kM kS)]; done) | (simp only [↓apply_ite (State.mask K), ite_self, ↓foldl_mask, implies_true, ↓(set_mask kA), ↓(endPass_mask kA kB kE), ↓(issue_mask kD kM), ↓(raise_mask kA kF), ↓(wakeDecision_mask kA kD kE kF kM kS)]; (repeat' split) <;> first | (simp only [↓apply_ite (State.mask K), ite_self, ↓foldl_mask, implies_true, ↓(set_mask kA), ↓(endPass_mask kA kB kE), ↓(issue_mask kD kM), ↓(raise_mask kA kF), ↓(wakeDecision_mask kA kD kE kF kM kS)]; done) | rfl | grind [set_mask, endPass_mask, issue_mask, raise_mask, wakeDecision_mask]) | rfl | grind [set_mask, endPass_mask, issue_mask, raise_mask, wakeDecision_mask]

theorem execPassTimerExpiry_mask {K : Parts} (kA : K.regs) (kB : K.mem) (kE : K.emb) (s : State) {s' : State} (hr : execPassTimerExpiry s
    = .next s') :
    s'.mask K = s.mask K := by
  unfold execPassTimerExpiry at hr
  injection hr with hr; subst hr; simp only [↓apply_ite (State.mask K), ite_self, ↓foldl_mask, implies_true, mask_emb kE, ↓(triggerPass_mask kA kB kE)]

theorem execWakePinEdge_mask {K : Parts} (kA : K.regs) (kB : K.mem) (kD : K.sys) (kE : K.emb) (kF : K.fab) (kM : K.kln) (kS : K.tnd) (pin : Fin 4) (rising : Bool)
    (s : State) {s' : State} (hr : execWakePinEdge pin rising s = .next s') :
    s'.mask K = s.mask K := by
  unfold execWakePinEdge at hr
  injection hr with hr; subst hr; simp only [↓apply_ite (State.mask K), ite_self, ↓foldl_mask, implies_true, mask_emb kE, ↓(triggerPass_mask kA kB kE), ↓(wakeDecision_mask kA kD kE kF kM kS)]

theorem execRtcSecondTick_mask {K : Parts} (kA : K.regs) (kB : K.mem) (kE : K.emb) (s : State) {s' : State} (hr : execRtcSecondTick s =
    .next s') :
    s'.mask K = s.mask K := by
  unfold execRtcSecondTick at hr
  injection hr with hr; subst hr; simp only [↓apply_ite (State.mask K), ite_self, ↓foldl_mask, implies_true, mask_emb kE, ↓(set_mask kA), ↓(triggerPass_mask kA kB kE)]

theorem rtcSecWrite_mask {K : Parts} (kA : K.regs) (kC : K.resp) (m : Master) (value : Word) (s : State) :
    (rtcSecWrite m value s).mask K = s.mask K := by
  simp only [rtcSecWrite, ↓apply_ite (State.mask K), ite_self, ↓foldl_mask, implies_true, ↓(answer_mask kC), ↓(set_mask kA), ↓(busError_mask kC)]

theorem execRtcSecWrite_mask {K : Parts} (kA : K.regs) (kC : K.resp) (m : Master) (value : Word) (s : State) {s' : State} (hr :
    execRtcSecWrite m value s = .next s') :
    s'.mask K = s.mask K := by
  unfold execRtcSecWrite at hr
  injection hr with hr; subst hr; simp only [↓apply_ite (State.mask K), ite_self, ↓foldl_mask, implies_true, ↓(rtcSecWrite_mask kA kC)]

theorem rtcAlarmWrite_mask {K : Parts} (kA : K.regs) (kC : K.resp) (kE : K.emb) (m : Master) (value : Word) (s : State) :
    (rtcAlarmWrite m value s).mask K = s.mask K := by
  simp only [rtcAlarmWrite, ↓apply_ite (State.mask K), ite_self, ↓foldl_mask, implies_true, mask_emb kE, ↓(answer_mask kC), ↓(set_mask kA), ↓(busError_mask kC)]

theorem execRtcAlarmWrite_mask {K : Parts} (kA : K.regs) (kC : K.resp) (kE : K.emb) (m : Master) (value : Word) (s : State) {s' : State}
    (hr : execRtcAlarmWrite m value s = .next s') :
    s'.mask K = s.mask K := by
  unfold execRtcAlarmWrite at hr
  injection hr with hr; subst hr; simp only [↓apply_ite (State.mask K), ite_self, ↓foldl_mask, implies_true, ↓(rtcAlarmWrite_mask kA kC kE)]

theorem execPassLimit_mask {K : Parts} (kA : K.regs) (kB : K.mem) (kD : K.sys) (kE : K.emb) (kF : K.fab) (kM : K.kln) (kS : K.tnd) (s : State) {s' :
    State} (hr : execPassLimit s = .next s') :
    s'.mask K = s.mask K := by
  unfold execPassLimit at hr
  injection hr with hr; subst hr; simp only [↓apply_ite (State.mask K), ite_self, ↓foldl_mask, implies_true, ↓(emberFault_mask kA kB kD kE kF kM kS)]

theorem execEmbIllegalOpcode_mask {K : Parts} (kA : K.regs) (kB : K.mem) (kD : K.sys) (kE : K.emb) (kF : K.fab) (kM : K.kln) (kS : K.tnd) (parity :
    Bool) (s : State) {s' : State} (hr : execEmbIllegalOpcode parity s = .next s') :
    s'.mask K = s.mask K := by
  unfold execEmbIllegalOpcode at hr
  injection hr with hr; subst hr; simp only [↓apply_ite (State.mask K), ite_self, ↓foldl_mask, implies_true, mask_emb kE, ↓(set_mask kA), ↓(emberFault_mask kA kB kD kE kF kM kS)]

theorem embGo_mask {K : Parts} (kE : K.emb) (pc : Nat) (s : State) :
    (embGo pc s).mask K = s.mask K := by
  simp only [embGo, ↓apply_ite (State.mask K), ite_self, ↓foldl_mask, implies_true, mask_emb kE]

theorem embInstr_mask {K : Parts} (kE : K.emb) (f : State → State) (s : State) (hf : ∀ t, (f t).mask K = t.mask K) :
    (embInstr f s).mask K = s.mask K := by
  simp only [embInstr, ↓apply_ite (State.mask K), ite_self, ↓foldl_mask, implies_true, ↓(embGo_mask kE), hf]

theorem embAlu_mask {K : Parts} (kE : K.emb) (rd : Fin 16) (v : Word) (s : State) :
    (embAlu rd v s).mask K = s.mask K := by
  simp only [embAlu, ↓apply_ite (State.mask K), ite_self, ↓foldl_mask, implies_true, ↓(setEreg_mask kE), ↓(embInstr_mask kE)]

theorem embBranch_mask {K : Parts} (kE : K.emb) (taken : Bool) (imm : BitVec 16) (s : State) :
    (embBranch taken imm s).mask K = s.mask K := by
  simp only [embBranch, ↓apply_ite (State.mask K), ite_self, ↓foldl_mask, implies_true, ↓(embGo_mask kE)]

theorem execEmbSleep_mask {K : Parts} (kA : K.regs) (kB : K.mem) (kE : K.emb) (s : State) {s' : State} (hr : execEmbSleep s = .next s') :
    s'.mask K = s.mask K := by
  unfold execEmbSleep at hr
  injection hr with hr; subst hr; simp only [↓apply_ite (State.mask K), ite_self, ↓foldl_mask, implies_true, ↓(embGo_mask kE), ↓(endPass_mask kA kB kE)]

theorem execEmbLdi_mask {K : Parts} (kE : K.emb) (rd : Fin 16) (imm : BitVec 16) (s : State) {s' : State} (hr : execEmbLdi rd imm s =
    .next s') :
    s'.mask K = s.mask K := by
  unfold execEmbLdi at hr
  injection hr with hr; subst hr; simp only [↓apply_ite (State.mask K), ite_self, ↓foldl_mask, implies_true, ↓(embAlu_mask kE)]

theorem execEmbLui_mask {K : Parts} (kE : K.emb) (rd : Fin 16) (imm : BitVec 16) (s : State) {s' : State} (hr : execEmbLui rd imm s =
    .next s') :
    s'.mask K = s.mask K := by
  unfold execEmbLui at hr
  injection hr with hr; subst hr; simp only [↓apply_ite (State.mask K), ite_self, ↓foldl_mask, implies_true, ↓(embAlu_mask kE)]

theorem execEmbAdd_mask {K : Parts} (kE : K.emb) (rd : Fin 16) (ra : Fin 16) (rb : Fin 16) (s : State) {s' : State} (hr : execEmbAdd rd
    ra rb s = .next s') :
    s'.mask K = s.mask K := by
  unfold execEmbAdd at hr
  injection hr with hr; subst hr; simp only [↓apply_ite (State.mask K), ite_self, ↓foldl_mask, implies_true, ↓(embAlu_mask kE)]

theorem execEmbSub_mask {K : Parts} (kE : K.emb) (rd : Fin 16) (ra : Fin 16) (rb : Fin 16) (s : State) {s' : State} (hr : execEmbSub rd
    ra rb s = .next s') :
    s'.mask K = s.mask K := by
  unfold execEmbSub at hr
  injection hr with hr; subst hr; simp only [↓apply_ite (State.mask K), ite_self, ↓foldl_mask, implies_true, ↓(embAlu_mask kE)]

theorem execEmbAddi_mask {K : Parts} (kE : K.emb) (rd : Fin 16) (ra : Fin 16) (imm : BitVec 16) (s : State) {s' : State} (hr :
    execEmbAddi rd ra imm s = .next s') :
    s'.mask K = s.mask K := by
  unfold execEmbAddi at hr
  injection hr with hr; subst hr; simp only [↓apply_ite (State.mask K), ite_self, ↓foldl_mask, implies_true, ↓(embAlu_mask kE)]

theorem execEmbAnd_mask {K : Parts} (kE : K.emb) (rd : Fin 16) (ra : Fin 16) (rb : Fin 16) (s : State) {s' : State} (hr : execEmbAnd rd
    ra rb s = .next s') :
    s'.mask K = s.mask K := by
  unfold execEmbAnd at hr
  injection hr with hr; subst hr; simp only [↓apply_ite (State.mask K), ite_self, ↓foldl_mask, implies_true, ↓(embAlu_mask kE)]

theorem execEmbOr_mask {K : Parts} (kE : K.emb) (rd : Fin 16) (ra : Fin 16) (rb : Fin 16) (s : State) {s' : State} (hr : execEmbOr rd ra
    rb s = .next s') :
    s'.mask K = s.mask K := by
  unfold execEmbOr at hr
  injection hr with hr; subst hr; simp only [↓apply_ite (State.mask K), ite_self, ↓foldl_mask, implies_true, ↓(embAlu_mask kE)]

theorem execEmbXor_mask {K : Parts} (kE : K.emb) (rd : Fin 16) (ra : Fin 16) (rb : Fin 16) (s : State) {s' : State} (hr : execEmbXor rd
    ra rb s = .next s') :
    s'.mask K = s.mask K := by
  unfold execEmbXor at hr
  injection hr with hr; subst hr; simp only [↓apply_ite (State.mask K), ite_self, ↓foldl_mask, implies_true, ↓(embAlu_mask kE)]

theorem execEmbShl_mask {K : Parts} (kE : K.emb) (rd : Fin 16) (ra : Fin 16) (imm : BitVec 16) (s : State) {s' : State} (hr : execEmbShl
    rd ra imm s = .next s') :
    s'.mask K = s.mask K := by
  unfold execEmbShl at hr
  injection hr with hr; subst hr; simp only [↓apply_ite (State.mask K), ite_self, ↓foldl_mask, implies_true, ↓(embAlu_mask kE)]

theorem execEmbShr_mask {K : Parts} (kE : K.emb) (rd : Fin 16) (ra : Fin 16) (imm : BitVec 16) (s : State) {s' : State} (hr : execEmbShr
    rd ra imm s = .next s') :
    s'.mask K = s.mask K := by
  unfold execEmbShr at hr
  injection hr with hr; subst hr; simp only [↓apply_ite (State.mask K), ite_self, ↓foldl_mask, implies_true, ↓(embAlu_mask kE)]

theorem execEmbAsr_mask {K : Parts} (kE : K.emb) (rd : Fin 16) (ra : Fin 16) (imm : BitVec 16) (s : State) {s' : State} (hr : execEmbAsr
    rd ra imm s = .next s') :
    s'.mask K = s.mask K := by
  unfold execEmbAsr at hr
  injection hr with hr; subst hr; simp only [↓apply_ite (State.mask K), ite_self, ↓foldl_mask, implies_true, ↓(embAlu_mask kE)]

theorem execEmbFilt_mask {K : Parts} (kE : K.emb) (rd : Fin 16) (ra : Fin 16) (imm : BitVec 16) (s : State) {s' : State} (hr :
    execEmbFilt rd ra imm s = .next s') :
    s'.mask K = s.mask K := by
  unfold execEmbFilt at hr
  injection hr with hr; subst hr; simp only [↓apply_ite (State.mask K), ite_self, ↓foldl_mask, implies_true, ↓(embAlu_mask kE)]

theorem execEmbLd_mask {K : Parts} (kE : K.emb) (rd : Fin 16) (ra : Fin 16) (imm : BitVec 16) (s : State) {s' : State} (hr : execEmbLd rd
    ra imm s = .next s') :
    s'.mask K = s.mask K := by
  unfold execEmbLd at hr
  injection hr with hr; subst hr; simp only [↓apply_ite (State.mask K), ite_self, ↓foldl_mask, implies_true, ↓(embAlu_mask kE)]

theorem execEmbSt_mask {K : Parts} (kB : K.mem) (kE : K.emb) (rd : Fin 16) (ra : Fin 16) (imm : BitVec 16) (s : State) {s' : State} (hr :
    execEmbSt rd ra imm s = .next s') :
    s'.mask K = s.mask K := by
  unfold execEmbSt at hr
  injection hr with hr; subst hr; simp only [↓apply_ite (State.mask K), ite_self, ↓foldl_mask, implies_true, ↓(store_mask kB), ↓(embInstr_mask kE)]

theorem execEmbBeq_mask {K : Parts} (kE : K.emb) (rd : Fin 16) (ra : Fin 16) (imm : BitVec 16) (s : State) {s' : State} (hr : execEmbBeq
    rd ra imm s = .next s') :
    s'.mask K = s.mask K := by
  unfold execEmbBeq at hr
  injection hr with hr; subst hr; simp only [↓apply_ite (State.mask K), ite_self, ↓foldl_mask, implies_true, ↓(embBranch_mask kE)]

theorem execEmbBne_mask {K : Parts} (kE : K.emb) (rd : Fin 16) (ra : Fin 16) (imm : BitVec 16) (s : State) {s' : State} (hr : execEmbBne
    rd ra imm s = .next s') :
    s'.mask K = s.mask K := by
  unfold execEmbBne at hr
  injection hr with hr; subst hr; simp only [↓apply_ite (State.mask K), ite_self, ↓foldl_mask, implies_true, ↓(embBranch_mask kE)]

theorem execEmbBlt_mask {K : Parts} (kE : K.emb) (rd : Fin 16) (ra : Fin 16) (imm : BitVec 16) (s : State) {s' : State} (hr : execEmbBlt
    rd ra imm s = .next s') :
    s'.mask K = s.mask K := by
  unfold execEmbBlt at hr
  injection hr with hr; subst hr; simp only [↓apply_ite (State.mask K), ite_self, ↓foldl_mask, implies_true, ↓(embBranch_mask kE)]

theorem execEmbBge_mask {K : Parts} (kE : K.emb) (rd : Fin 16) (ra : Fin 16) (imm : BitVec 16) (s : State) {s' : State} (hr : execEmbBge
    rd ra imm s = .next s') :
    s'.mask K = s.mask K := by
  unfold execEmbBge at hr
  injection hr with hr; subst hr; simp only [↓apply_ite (State.mask K), ite_self, ↓foldl_mask, implies_true, ↓(embBranch_mask kE)]

theorem execEmbJmp_mask {K : Parts} (kE : K.emb) (imm : BitVec 16) (s : State) {s' : State} (hr : execEmbJmp imm s = .next s') :
    s'.mask K = s.mask K := by
  unfold execEmbJmp at hr
  injection hr with hr; subst hr; simp only [↓apply_ite (State.mask K), ite_self, ↓foldl_mask, implies_true, ↓(embBranch_mask kE)]

theorem execEmbSamp_mask {K : Parts} (kE : K.emb) (rd : Fin 16) (imm : BitVec 16) (codes : List (BitVec 12)) (s : State) {s' : State} (hr
    : execEmbSamp rd imm codes s = .next s') :
    s'.mask K = s.mask K := by
  unfold execEmbSamp at hr
  injection hr with hr; subst hr; simp only [↓apply_ite (State.mask K), ite_self, ↓foldl_mask, implies_true, mask_emb kE, ↓(setEreg_mask kE), ↓(embInstr_mask kE)]

theorem execEmbCnt_mask {K : Parts} (kE : K.emb) (rd : Fin 16) (imm : BitVec 16) (crossing : Bool) (s : State) {s' : State} (hr :
    execEmbCnt rd imm crossing s = .next s') :
    s'.mask K = s.mask K := by
  unfold execEmbCnt at hr
  injection hr with hr; subst hr; simp only [↓apply_ite (State.mask K), ite_self, ↓foldl_mask, implies_true, mask_emb kE, ↓(setEreg_mask kE), ↓(embInstr_mask kE)]

theorem execEmbInp_mask {K : Parts} (kE : K.emb) (rd : Fin 16) (s : State) {s' : State} (hr : execEmbInp rd s = .next s') :
    s'.mask K = s.mask K := by
  unfold execEmbInp at hr
  injection hr with hr; subst hr; simp only [↓apply_ite (State.mask K), ite_self, ↓foldl_mask, implies_true, mask_emb kE, ↓(setEreg_mask kE), ↓(embInstr_mask kE)]

theorem execEmbRtc_mask {K : Parts} (kE : K.emb) (rd : Fin 16) (s : State) {s' : State} (hr : execEmbRtc rd s = .next s') :
    s'.mask K = s.mask K := by
  unfold execEmbRtc at hr
  injection hr with hr; subst hr; simp only [↓apply_ite (State.mask K), ite_self, ↓foldl_mask, implies_true, ↓(embAlu_mask kE)]

theorem execEmbWake_mask {K : Parts} (kA : K.regs) (kB : K.mem) (kD : K.sys) (kE : K.emb) (kF : K.fab) (kM : K.kln) (kS : K.tnd) (imm : BitVec 16) (directEdge :
    Option (Fin 4)) (s : State) {s' : State} (hr : execEmbWake imm directEdge s = .next s') :
    s'.mask K = s.mask K := by
  unfold execEmbWake at hr
  injection hr with hr; subst hr; simp only [↓apply_ite (State.mask K), ite_self, ↓foldl_mask, implies_true, ↓(set_mask kA), ↓(embGo_mask kE), ↓(endPass_mask kA kB kE), ↓(wakeDecision_mask kA kD kE kF kM kS)]; (repeat' split) <;> first | (simp only [↓apply_ite (State.mask K), ite_self, ↓foldl_mask, implies_true, ↓(set_mask kA), ↓(embGo_mask kE), ↓(endPass_mask kA kB kE), ↓(wakeDecision_mask kA kD kE kF kM kS)]; done) | (simp only [↓apply_ite (State.mask K), ite_self, ↓foldl_mask, implies_true, ↓(set_mask kA), ↓(embGo_mask kE), ↓(endPass_mask kA kB kE), ↓(wakeDecision_mask kA kD kE kF kM kS)]; (repeat' split) <;> first | (simp only [↓apply_ite (State.mask K), ite_self, ↓foldl_mask, implies_true, ↓(set_mask kA), ↓(embGo_mask kE), ↓(endPass_mask kA kB kE), ↓(wakeDecision_mask kA kD kE kF kM kS)]; done) | rfl | grind [set_mask, embGo_mask, endPass_mask, wakeDecision_mask]) | rfl | grind [set_mask, embGo_mask, endPass_mask, wakeDecision_mask]

theorem execEmbOut_mask {K : Parts} (kA : K.regs) (kE : K.emb) (imm : BitVec 16) (s : State) {s' : State} (hr : execEmbOut imm s = .next
    s') :
    s'.mask K = s.mask K := by
  unfold execEmbOut at hr
  injection hr with hr; subst hr; simp only [↓apply_ite (State.mask K), ite_self, ↓foldl_mask, implies_true, ↓(set_mask kA), ↓(embInstr_mask kE)]

theorem execEmbWait_mask {K : Parts} (kE : K.emb) (_imm : BitVec 16) (s : State) {s' : State} (hr : execEmbWait _imm s = .next s') :
    s'.mask K = s.mask K := by
  unfold execEmbWait at hr
  injection hr with hr; subst hr; (repeat' split) <;> first | (simp only [↓apply_ite (State.mask K), ite_self, ↓foldl_mask, implies_true, ↓(embInstr_mask kE)]; done) | (simp only [↓apply_ite (State.mask K), ite_self, ↓foldl_mask, implies_true, ↓(embInstr_mask kE)]; (repeat' split) <;> first | (simp only [↓apply_ite (State.mask K), ite_self, ↓foldl_mask, implies_true, ↓(embInstr_mask kE)]; done) | rfl | grind [embInstr_mask]) | rfl | grind [embInstr_mask]

theorem execConverterPowerDown_mask {K : Parts} (kE : K.emb) (s : State) {s' : State} (hr : execConverterPowerDown s = .next s') :
    s'.mask K = s.mask K := by
  unfold execConverterPowerDown at hr
  injection hr with hr; subst hr; simp only [↓apply_ite (State.mask K), ite_self, ↓foldl_mask, implies_true, mask_emb kE]

theorem execRotationCrossing_mask {K : Parts} (kA : K.regs) (kE : K.emb) (cmp : Fin 2) (s : State) {s' : State} (hr :
    execRotationCrossing cmp s = .next s') :
    s'.mask K = s.mask K := by
  unfold execRotationCrossing at hr
  injection hr with hr; subst hr; simp only [↓apply_ite (State.mask K), ite_self, ↓foldl_mask, implies_true, mask_emb kE, ↓(setBit_mask kA)]

theorem execXtalStop_mask {K : Parts} (kA : K.regs) (s : State) {s' : State} (hr : execXtalStop s = .next s') :
    s'.mask K = s.mask K := by
  unfold execXtalStop at hr
  injection hr with hr; subst hr; simp only [↓apply_ite (State.mask K), ite_self, ↓foldl_mask, implies_true, ↓(set_mask kA)]

theorem execXtalReturn_mask {K : Parts} (kA : K.regs) (s : State) {s' : State} (hr : execXtalReturn s = .next s') :
    s'.mask K = s.mask K := by
  unfold execXtalReturn at hr
  injection hr with hr; subst hr; simp only [↓apply_ite (State.mask K), ite_self, ↓foldl_mask, implies_true, ↓(set_mask kA)]

theorem execEmberProgramLoad_mask {K : Parts} (kA : K.regs) (kB : K.mem) (kC : K.resp) (kE : K.emb) (m : Master) (prog : List Word) (s :
    State) {s' : State} (hr : execEmberProgramLoad m prog s = .next s') :
    s'.mask K = s.mask K := by
  unfold execEmberProgramLoad at hr
  split at hr <;> (injection hr with hr; subst hr; (repeat' split) <;> first | (simp only [↓apply_ite (State.mask K), ite_self, ↓foldl_mask, implies_true, mask_emb kE, ↓(answer_mask kC), ↓(busError_mask kC), ↓(installProgram_mask kA kB kE)]; done) | (simp only [↓apply_ite (State.mask K), ite_self, ↓foldl_mask, implies_true, mask_emb kE, ↓(answer_mask kC), ↓(busError_mask kC), ↓(installProgram_mask kA kB kE)]; (repeat' split) <;> first | (simp only [↓apply_ite (State.mask K), ite_self, ↓foldl_mask, implies_true, mask_emb kE, ↓(answer_mask kC), ↓(busError_mask kC), ↓(installProgram_mask kA kB kE)]; done) | rfl | grind [answer_mask, busError_mask, installProgram_mask, mask_emb]) | rfl | grind [answer_mask, busError_mask, installProgram_mask, mask_emb])

theorem plainWrite_mask {K : Parts} (kA : K.regs) (kD : K.sys) (a : Nat) (v : Word) (s : State) :
    (plainWrite a v s).mask K = s.mask K := by
  simp only [plainWrite, ↓apply_ite (State.mask K), ite_self, ↓foldl_mask, implies_true, mask_sys kD, ↓(wr_mask kA)]; (repeat' split) <;> first | (simp only [↓apply_ite (State.mask K), ite_self, ↓foldl_mask, implies_true, mask_sys kD, ↓(wr_mask kA)]; done) | (simp only [↓apply_ite (State.mask K), ite_self, ↓foldl_mask, implies_true, mask_sys kD, ↓(wr_mask kA)]; (repeat' split) <;> first | (simp only [↓apply_ite (State.mask K), ite_self, ↓foldl_mask, implies_true, mask_sys kD, ↓(wr_mask kA)]; done) | rfl | grind [wr_mask, mask_sys]) | rfl | grind [wr_mask, mask_sys]

theorem applyRecord_mask {K : Parts} (kA : K.regs) (kB : K.mem) (kD : K.sys) (kF : K.fab) (r : ConfigRec) (s : State) :
    (applyRecord r s).mask K = s.mask K := by
  unfold applyRecord
  split
  · exact foldl_mask _ (fun t w => by
      dsimp only
      split
      · split
        · exact (wr_mask kA _ _ _).trans (plainWrite_mask kA kD _ _ _)
        · exact plainWrite_mask kA kD _ _ _
      · rfl) _ _
  · split
    · exact mask_fab kF _ _
    · exact place_mask kB kF _ _ _

theorem writeDefaults_mask {K : Parts} (kA : K.regs) (s : State) :
    (writeDefaults s).mask K = s.mask K := by
  simp only [writeDefaults, ↓apply_ite (State.mask K), ite_self, ↓foldl_mask, implies_true, ↓(set_mask kA), ↓(setI_mask kA)]

theorem writeSystem_mask {K : Parts} (kA : K.regs) (c : SysRecord) (bench : Bool) (s : State) :
    (writeSystem c bench s).mask K = s.mask K := by
  simp only [writeSystem, ↓apply_ite (State.mask K), ite_self, ↓foldl_mask, implies_true, ↓(set_mask kA), ↓(setB_mask kA)]

theorem applyConfig_mask {K : Parts} (kA : K.regs) (kB : K.mem) (kD : K.sys) (kE : K.emb) (kF : K.fab) (x : ConfigIn) (bench : Bool) (s :
    State) :
    (applyConfig x bench s).mask K = s.mask K := by
  simp only [applyConfig, ↓apply_ite (State.mask K), ite_self, ↓foldl_mask, implies_true, mask_emb kE, mask_sys kD, ↓(set_mask kA), ↓(applyRecord_mask kA kB kD kF), ↓(installProgram_mask kA kB kE), ↓(refreshArmed_mask kA), ↓(writeDefaults_mask kA), ↓(writeSystem_mask kA)]

theorem loadFail_mask {K : Parts} (kA : K.regs) (kB : K.mem) (kD : K.sys) (kF : K.fab) (kG : K.afe) (kH : K.hk) (kI : K.whl) (kJ : K.pwm)
    (kK : K.cnv) (kL : K.fly) (kM : K.kln) (kN : K.spx) (kO : K.sup) (kP : K.act) (kQ : K.thm) (kR : K.chg) (kS : K.tnd) (kT : K.upd) (kU
      : K.bus) (kV : K.xcp) (kW : K.olt) (code : Nat) (s : State) :
    (loadFail code s).mask K = s.mask K := by
  simp only [loadFail, ↓apply_ite (State.mask K), ite_self, ↓foldl_mask, implies_true, ↓(startFail_mask kA kB kD kF kG kH kI kJ kK kL kM kN kO kP kQ kR kS kT kU kV kW)]

theorem limpFall_mask {K : Parts} (kA : K.regs) (kB : K.mem) (kD : K.sys) (kF : K.fab) (kG : K.afe) (kH : K.hk) (kI : K.whl) (kJ : K.pwm)
    (kK : K.cnv) (kL : K.fly) (kM : K.kln) (kN : K.spx) (kO : K.sup) (kP : K.act) (kQ : K.thm) (kR : K.chg) (kS : K.tnd) (kT : K.upd) (kU
      : K.bus) (kV : K.xcp) (kW : K.olt) (code : Nat) (s : State) :
    (limpFall code s).mask K = s.mask K := by
  simp only [limpFall, ↓apply_ite (State.mask K), ite_self, ↓foldl_mask, implies_true, mask_fab kF, ↓(set_mask kA), ↓(setLoader_mask kD), ↓(startFail_mask kA kB kD kF kG kH kI kJ kK kL kM kN kO kP kQ kR kS kT kU kV kW)]

theorem updateFall_mask {K : Parts} (kA : K.regs) (kB : K.mem) (kD : K.sys) (kF : K.fab) (kG : K.afe) (kH : K.hk) (kI : K.whl) (kJ :
    K.pwm) (kK : K.cnv) (kL : K.fly) (kM : K.kln) (kN : K.spx) (kO : K.sup) (kP : K.act) (kQ : K.thm) (kR : K.chg) (kS : K.tnd) (kT : K.upd) (kU : K.bus) (kV : K.xcp) (kW : K.olt) (code : Nat) (s : State) :
    (updateFall code s).mask K = s.mask K := by
  simp only [updateFall, ↓apply_ite (State.mask K), ite_self, ↓foldl_mask, implies_true, ↓(issue_mask kD kM), ↓(limpFall_mask kA kB kD kF kG kH kI kJ kK kL kM kN kO kP kQ kR kS kT kU kV kW)]

theorem execFlashInit_mask {K : Parts} (kA : K.regs) (kB : K.mem) (kD : K.sys) (kF : K.fab) (kG : K.afe) (kH : K.hk) (kI : K.whl) (kJ :
    K.pwm) (kK : K.cnv) (kL : K.fly) (kM : K.kln) (kN : K.spx) (kO : K.sup) (kP : K.act) (kQ : K.thm) (kR : K.chg) (kS : K.tnd) (kT : K.upd) (kU : K.bus) (kV : K.xcp) (kW : K.olt) (x : FlashInfo) (s : State) {s' : State} (hr : execFlashInit x s = .next s') :
    s'.mask K = s.mask K := by
  unfold execFlashInit at hr
  injection hr with hr; subst hr; simp only [↓apply_ite (State.mask K), ite_self, ↓foldl_mask, implies_true, ↓(set_mask kA), ↓(setLoader_mask kD), ↓(loadFail_mask kA kB kD kF kG kH kI kJ kK kL kM kN kO kP kQ kR kS kT kU kV kW)]

theorem confirmJournal_mask {K : Parts} (kA : K.regs) (kF : K.fab) (kS : K.tnd) (s : State) :
    (confirmJournal s).mask K = s.mask K := by
  simp only [confirmJournal, ↓apply_ite (State.mask K), ite_self, ↓foldl_mask, implies_true, mask_tnd kS, ↓(set_mask kA), ↓(setJournal_mask kS), ↓(raise_mask kA kF)]

theorem settleUpdate_mask {K : Parts} (kA : K.regs) (kB : K.mem) (kD : K.sys) (kF : K.fab) (kG : K.afe) (kH : K.hk) (kI : K.whl) (kJ :
    K.pwm) (kK : K.cnv) (kL : K.fly) (kM : K.kln) (kN : K.spx) (kO : K.sup) (kP : K.act) (kQ : K.thm) (kR : K.chg) (kS : K.tnd) (kT : K.upd) (kU : K.bus) (kV : K.xcp) (kW : K.olt) (s : State) :
    (settleUpdate s).2.mask K = s.mask K := by
  simp only [settleUpdate, ↓apply_ite (State.mask K), ite_self, ↓foldl_mask, implies_true, ↓apply_ite Prod.snd, ↓apply_ite Prod.fst, ↓(set_mask kA), ↓(setJournal_mask kS), ↓(confirmJournal_mask kA kF kS), ↓(tndShow_mask kA), ↓(updateFall_mask kA kB kD kF kG kH kI kJ kK kL kM kN kO kP kQ kR kS kT kU kV kW)]

theorem takeHeader_mask {K : Parts} (kA : K.regs) (kB : K.mem) (kD : K.sys) (kF : K.fab) (kG : K.afe) (kH : K.hk) (kI : K.whl) (kJ :
    K.pwm) (kK : K.cnv) (kL : K.fly) (kM : K.kln) (kN : K.spx) (kO : K.sup) (kP : K.act) (kQ : K.thm) (kR : K.chg) (kS : K.tnd) (kT : K.upd) (kU : K.bus) (kV : K.xcp) (kW : K.olt) (h : Header) (s : State) :
    (takeHeader h s).mask K = s.mask K := by
  simp only [takeHeader, ↓apply_ite (State.mask K), ite_self, ↓foldl_mask, implies_true, mask_sys kD, ↓(setLoader_mask kD), ↓(limpFall_mask kA kB kD kF kG kH kI kJ kK kL kM kN kO kP kQ kR kS kT kU kV kW), ↓(loadFail_mask kA kB kD kF kG kH kI kJ kK kL kM kN kO kP kQ kR kS kT kU kV kW)]; (repeat' split) <;> first | (simp only [↓apply_ite (State.mask K), ite_self, ↓foldl_mask, implies_true, mask_sys kD, ↓(setLoader_mask kD), ↓(limpFall_mask kA kB kD kF kG kH kI kJ kK kL kM kN kO kP kQ kR kS kT kU kV kW), ↓(loadFail_mask kA kB kD kF kG kH kI kJ kK kL kM kN kO kP kQ kR kS kT kU kV kW)]; done) | (simp only [↓apply_ite (State.mask K), ite_self, ↓foldl_mask, implies_true, mask_sys kD, ↓(setLoader_mask kD), ↓(limpFall_mask kA kB kD kF kG kH kI kJ kK kL kM kN kO kP kQ kR kS kT kU kV kW), ↓(loadFail_mask kA kB kD kF kG kH kI kJ kK kL kM kN kO kP kQ kR kS kT kU kV kW)]; (repeat' split) <;> first | (simp only [↓apply_ite (State.mask K), ite_self, ↓foldl_mask, implies_true, mask_sys kD, ↓(setLoader_mask kD), ↓(limpFall_mask kA kB kD kF kG kH kI kJ kK kL kM kN kO kP kQ kR kS kT kU kV kW), ↓(loadFail_mask kA kB kD kF kG kH kI kJ kK kL kM kN kO kP kQ kR kS kT kU kV kW)]; done) | rfl | grind [setLoader_mask, limpFall_mask, loadFail_mask, mask_sys]) | rfl | grind [setLoader_mask, limpFall_mask, loadFail_mask, mask_sys]

theorem execHeaderVerified_mask {K : Parts} (kA : K.regs) (kB : K.mem) (kD : K.sys) (kF : K.fab) (kG : K.afe) (kH : K.hk) (kI : K.whl)
    (kJ : K.pwm) (kK : K.cnv) (kL : K.fly) (kM : K.kln) (kN : K.spx) (kO : K.sup) (kP : K.act) (kQ : K.thm) (kR : K.chg) (kS : K.tnd) (kT
      : K.upd) (kU : K.bus) (kV : K.xcp) (kW : K.olt) (h : Header) (readOk : Bool) (s : State) {s' : State} (hr : execHeaderVerified h readOk s = .next s') :
    s'.mask K = s.mask K := by
  unfold execHeaderVerified at hr
  injection hr with hr; subst hr; simp only [↓apply_ite (State.mask K), ite_self, ↓foldl_mask, implies_true, ↓apply_ite Prod.snd, ↓apply_ite Prod.fst, ↓(loadFail_mask kA kB kD kF kG kH kI kJ kK kL kM kN kO kP kQ kR kS kT kU kV kW), ↓(settleUpdate_mask kA kB kD kF kG kH kI kJ kK kL kM kN kO kP kQ kR kS kT kU kV kW), ↓(takeHeader_mask kA kB kD kF kG kH kI kJ kK kL kM kN kO kP kQ kR kS kT kU kV kW)]

theorem execDescriptorsVerified_mask {K : Parts} (kA : K.regs) (kB : K.mem) (kD : K.sys) (kF : K.fab) (kG : K.afe) (kH : K.hk) (kI :
    K.whl) (kJ : K.pwm) (kK : K.cnv) (kL : K.fly) (kM : K.kln) (kN : K.spx) (kO : K.sup) (kP : K.act) (kQ : K.thm) (kR : K.chg) (kS : K.tnd) (kT : K.upd) (kU : K.bus) (kV : K.xcp) (kW : K.olt) (ds : List Descriptor) (readOk : Bool) (s : State) {s' : State} (hr : execDescriptorsVerified ds readOk s = .next s') :
    s'.mask K = s.mask K := by
  unfold execDescriptorsVerified at hr
  injection hr with hr; subst hr; simp only [↓apply_ite (State.mask K), ite_self, ↓foldl_mask, implies_true, ↓(setLoader_mask kD), ↓(limpFall_mask kA kB kD kF kG kH kI kJ kK kL kM kN kO kP kQ kR kS kT kU kV kW), ↓(loadFail_mask kA kB kD kF kG kH kI kJ kK kL kM kN kO kP kQ kR kS kT kU kV kW), ↓(updateFall_mask kA kB kD kF kG kH kI kJ kK kL kM kN kO kP kQ kR kS kT kU kV kW)]; (repeat' split) <;> first | (simp only [↓apply_ite (State.mask K), ite_self, ↓foldl_mask, implies_true, ↓(setLoader_mask kD), ↓(limpFall_mask kA kB kD kF kG kH kI kJ kK kL kM kN kO kP kQ kR kS kT kU kV kW), ↓(loadFail_mask kA kB kD kF kG kH kI kJ kK kL kM kN kO kP kQ kR kS kT kU kV kW), ↓(updateFall_mask kA kB kD kF kG kH kI kJ kK kL kM kN kO kP kQ kR kS kT kU kV kW)]; done) | (simp only [↓apply_ite (State.mask K), ite_self, ↓foldl_mask, implies_true, ↓(setLoader_mask kD), ↓(limpFall_mask kA kB kD kF kG kH kI kJ kK kL kM kN kO kP kQ kR kS kT kU kV kW), ↓(loadFail_mask kA kB kD kF kG kH kI kJ kK kL kM kN kO kP kQ kR kS kT kU kV kW), ↓(updateFall_mask kA kB kD kF kG kH kI kJ kK kL kM kN kO kP kQ kR kS kT kU kV kW)]; (repeat' split) <;> first | (simp only [↓apply_ite (State.mask K), ite_self, ↓foldl_mask, implies_true, ↓(setLoader_mask kD), ↓(limpFall_mask kA kB kD kF kG kH kI kJ kK kL kM kN kO kP kQ kR kS kT kU kV kW), ↓(loadFail_mask kA kB kD kF kG kH kI kJ kK kL kM kN kO kP kQ kR kS kT kU kV kW), ↓(updateFall_mask kA kB kD kF kG kH kI kJ kK kL kM kN kO kP kQ kR kS kT kU kV kW)]; done) | rfl | grind [setLoader_mask, limpFall_mask, loadFail_mask, updateFall_mask]) | rfl | grind [setLoader_mask, limpFall_mask, loadFail_mask, updateFall_mask]

end Sys2Proof.Machine
end

