-- ==== Sys2Proof/Laws/Mask4.lean ====
section
/-! SUPPORT. What each operation and meaning leaves unchanged: it changes no part of the state but those its lemma blanks. -/

set_option maxRecDepth 4000
set_option linter.all false
namespace Sys2Proof.Machine
open Sys2Proof

theorem loadTcms_mask {K : Parts} (kB : K.mem) (kF : K.fab) (p : Nat) (data : List Byte) (s : State) :
    (loadTcms p data s).mask K = s.mask K := by
  simp only [loadTcms, ↓apply_ite (State.mask K), ite_self, ↓foldl_mask, implies_true, ↓(place_mask kB kF)]

theorem placeComponent_mask {K : Parts} (kA : K.regs) (kB : K.mem) (kD : K.sys) (kF : K.fab) (d : Descriptor) (data : List Byte) (program
    : List Word) (s : State) :
    (placeComponent d data program s).mask K = s.mask K := by
  simp only [placeComponent, ↓apply_ite (State.mask K), ite_self, ↓foldl_mask, implies_true, mask_fab kF, ↓(set_mask kA), ↓(setLoader_mask kD), ↓(loadTcms_mask kB kF), ↓(place_mask kB kF)]; (repeat' split) <;> first | (simp only [↓apply_ite (State.mask K), ite_self, ↓foldl_mask, implies_true, mask_fab kF, ↓(set_mask kA), ↓(setLoader_mask kD), ↓(loadTcms_mask kB kF), ↓(place_mask kB kF)]; done) | (simp only [↓apply_ite (State.mask K), ite_self, ↓foldl_mask, implies_true, mask_fab kF, ↓(set_mask kA), ↓(setLoader_mask kD), ↓(loadTcms_mask kB kF), ↓(place_mask kB kF)]; (repeat' split) <;> first | (simp only [↓apply_ite (State.mask K), ite_self, ↓foldl_mask, implies_true, mask_fab kF, ↓(set_mask kA), ↓(setLoader_mask kD), ↓(loadTcms_mask kB kF), ↓(place_mask kB kF)]; done) | rfl | grind [set_mask, setLoader_mask, loadTcms_mask, place_mask, mask_fab]) | rfl | grind [set_mask, setLoader_mask, loadTcms_mask, place_mask, mask_fab]

theorem execComponentVerified_mask {K : Parts} (kA : K.regs) (kB : K.mem) (kD : K.sys) (kF : K.fab) (kG : K.afe) (kH : K.hk) (kI : K.whl)
    (kJ : K.pwm) (kK : K.cnv) (kL : K.fly) (kM : K.kln) (kN : K.spx) (kO : K.sup) (kP : K.act) (kQ : K.thm) (kR : K.chg) (kS : K.tnd) (kT
      : K.upd) (kU : K.bus) (kV : K.xcp) (kW : K.olt) (x : Streamed) (s : State) {s' : State} (hr : execComponentVerified x s = .next s') :
    s'.mask K = s.mask K := by
  unfold execComponentVerified at hr
  injection hr with hr; subst hr; simp only [↓apply_ite (State.mask K), ite_self, ↓foldl_mask, implies_true, mask_sys kD, ↓(set_mask kA), ↓(setLoader_mask kD), ↓(limpFall_mask kA kB kD kF kG kH kI kJ kK kL kM kN kO kP kQ kR kS kT kU kV kW), ↓(loadFail_mask kA kB kD kF kG kH kI kJ kK kL kM kN kO kP kQ kR kS kT kU kV kW), ↓(placeComponent_mask kA kB kD kF), ↓(updateFall_mask kA kB kD kF kG kH kI kJ kK kL kM kN kO kP kQ kR kS kT kU kV kW)]; (repeat' split) <;> first | (simp only [↓apply_ite (State.mask K), ite_self, ↓foldl_mask, implies_true, mask_sys kD, ↓(set_mask kA), ↓(setLoader_mask kD), ↓(limpFall_mask kA kB kD kF kG kH kI kJ kK kL kM kN kO kP kQ kR kS kT kU kV kW), ↓(loadFail_mask kA kB kD kF kG kH kI kJ kK kL kM kN kO kP kQ kR kS kT kU kV kW), ↓(placeComponent_mask kA kB kD kF), ↓(updateFall_mask kA kB kD kF kG kH kI kJ kK kL kM kN kO kP kQ kR kS kT kU kV kW)]; done) | (simp only [↓apply_ite (State.mask K), ite_self, ↓foldl_mask, implies_true, mask_sys kD, ↓(set_mask kA), ↓(setLoader_mask kD), ↓(limpFall_mask kA kB kD kF kG kH kI kJ kK kL kM kN kO kP kQ kR kS kT kU kV kW), ↓(loadFail_mask kA kB kD kF kG kH kI kJ kK kL kM kN kO kP kQ kR kS kT kU kV kW), ↓(placeComponent_mask kA kB kD kF), ↓(updateFall_mask kA kB kD kF kG kH kI kJ kK kL kM kN kO kP kQ kR kS kT kU kV kW)]; (repeat' split) <;> first | (simp only [↓apply_ite (State.mask K), ite_self, ↓foldl_mask, implies_true, mask_sys kD, ↓(set_mask kA), ↓(setLoader_mask kD), ↓(limpFall_mask kA kB kD kF kG kH kI kJ kK kL kM kN kO kP kQ kR kS kT kU kV kW), ↓(loadFail_mask kA kB kD kF kG kH kI kJ kK kL kM kN kO kP kQ kR kS kT kU kV kW), ↓(placeComponent_mask kA kB kD kF), ↓(updateFall_mask kA kB kD kF kG kH kI kJ kK kL kM kN kO kP kQ kR kS kT kU kV kW)]; done) | rfl | grind [set_mask, setLoader_mask, limpFall_mask, loadFail_mask, placeComponent_mask, updateFall_mask, mask_sys]) | rfl | grind [set_mask, setLoader_mask, limpFall_mask, loadFail_mask, placeComponent_mask, updateFall_mask, mask_sys]

theorem execConfigRecordsApply_mask {K : Parts} (kA : K.regs) (kB : K.mem) (kD : K.sys) (kE : K.emb) (kF : K.fab) (kG : K.afe) (kH :
    K.hk) (kI : K.whl) (kJ : K.pwm) (kK : K.cnv) (kL : K.fly) (kM : K.kln) (kN : K.spx) (kO : K.sup) (kP : K.act) (kQ : K.thm) (kR : K.chg) (kS : K.tnd) (kT : K.upd) (kU : K.bus) (kV : K.xcp) (kW : K.olt) (x : ConfigIn) (wo : WriteOnce) (s : State) {s' : State} (hr : execConfigRecordsApply x wo s = .next s') :
    s'.mask K = s.mask K := by
  unfold execConfigRecordsApply at hr
  injection hr with hr; subst hr; simp only [↓apply_ite (State.mask K), ite_self, ↓foldl_mask, implies_true, ↓(setLoader_mask kD), ↓(applyConfig_mask kA kB kD kE kF), ↓(limpFall_mask kA kB kD kF kG kH kI kJ kK kL kM kN kO kP kQ kR kS kT kU kV kW)]

theorem writeOnce_mask {K : Parts} (kA : K.regs) (kD : K.sys) (a : Nat) (v : Word) (s : State) :
    (writeOnce a v s).mask K = s.mask K := by
  simp only [writeOnce, ↓apply_ite (State.mask K), ite_self, ↓foldl_mask, implies_true, ↓(plainWrite_mask kA kD)]

theorem execWriteOnceWrite_mask {K : Parts} (kA : K.regs) (kB : K.mem) (kD : K.sys) (kF : K.fab) (kG : K.afe) (kH : K.hk) (kI : K.whl)
    (kJ : K.pwm) (kK : K.cnv) (kL : K.fly) (kM : K.kln) (kN : K.spx) (kO : K.sup) (kP : K.act) (kQ : K.thm) (kR : K.chg) (kS : K.tnd) (kT
      : K.upd) (kU : K.bus) (kV : K.xcp) (kW : K.olt) (readOk : Bool) (s : State) {s' : State} (hr : execWriteOnceWrite readOk s = .next s') :
    s'.mask K = s.mask K := by
  unfold execWriteOnceWrite at hr
  injection hr with hr; subst hr; simp only [↓apply_ite (State.mask K), ite_self, ↓foldl_mask, implies_true, mask_sys kD, ↓(setLoader_mask kD), ↓(loadFail_mask kA kB kD kF kG kH kI kJ kK kL kM kN kO kP kQ kR kS kT kU kV kW), ↓(writeOnce_mask kA kD)]

theorem kilnLock_mask {K : Parts} (kA : K.regs) (kD : K.sys) (kF : K.fab) (kJ : K.pwm) (kM : K.kln) (kP : K.act) (t : List Byte) (s :
    State) :
    (kilnLock t s).mask K = s.mask K := by
  simp only [kilnLock, ↓apply_ite (State.mask K), ite_self, ↓foldl_mask, implies_true, ↓(setKln_mask kM), ↓(kilnApply_mask kA kD kF kJ kM kP), ↓(kilnDrive_mask kA kF kJ kM kP)]

theorem execKilnTableTransfer_mask {K : Parts} (kA : K.regs) (kB : K.mem) (kD : K.sys) (kF : K.fab) (kG : K.afe) (kH : K.hk) (kI : K.whl)
    (kJ : K.pwm) (kK : K.cnv) (kL : K.fly) (kM : K.kln) (kN : K.spx) (kO : K.sup) (kP : K.act) (kQ : K.thm) (kR : K.chg) (kS : K.tnd) (kT
      : K.upd) (kU : K.bus) (kV : K.xcp) (kW : K.olt) (intact : Bool) (s : State) {s' : State} (hr : execKilnTableTransfer intact s = .next s') :
    s'.mask K = s.mask K := by
  unfold execKilnTableTransfer at hr
  injection hr with hr; subst hr; simp only [↓apply_ite (State.mask K), ite_self, ↓foldl_mask, implies_true, ↓(set_mask kA), ↓(setKln_mask kM), ↓(setLoader_mask kD), ↓(kilnLock_mask kA kD kF kJ kM kP), ↓(startFail_mask kA kB kD kF kG kH kI kJ kK kL kM kN kO kP kQ kR kS kT kU kV kW)]

theorem flashReadError_mask {K : Parts} (kA : K.regs) (kD : K.sys) (kF : K.fab) (kM : K.kln) (s : State) :
    (flashReadError s).mask K = s.mask K := by
  simp only [flashReadError, ↓apply_ite (State.mask K), ite_self, ↓foldl_mask, implies_true, ↓(bump_mask kA), ↓(issue_mask kD kM), ↓(raise_mask kA kF)]

theorem execMmapFlashRead_mask {K : Parts} (kA : K.regs) (kC : K.resp) (kD : K.sys) (kF : K.fab) (kM : K.kln) (m : Master) (addr : BitVec
    28) (value : Word) (readOk : Bool) (s : State) {s' : State} (hr : execMmapFlashRead m addr value readOk s = .next s') :
    s'.mask K = s.mask K := by
  unfold execMmapFlashRead at hr
  injection hr with hr; subst hr; simp only [↓apply_ite (State.mask K), ite_self, ↓foldl_mask, implies_true, ↓(answer_mask kC), ↓(bump_mask kA), ↓(busError_mask kC), ↓(flashReadError_mask kA kD kF kM)]

theorem execFlashReadError_mask {K : Parts} (kA : K.regs) (kB : K.mem) (kD : K.sys) (kF : K.fab) (kG : K.afe) (kH : K.hk) (kI : K.whl)
    (kJ : K.pwm) (kK : K.cnv) (kL : K.fly) (kM : K.kln) (kN : K.spx) (kO : K.sup) (kP : K.act) (kQ : K.thm) (kR : K.chg) (kS : K.tnd) (kT
      : K.upd) (kU : K.bus) (kV : K.xcp) (kW : K.olt) (s : State) {s' : State} (hr : execFlashReadError s = .next s') :
    s'.mask K = s.mask K := by
  unfold execFlashReadError at hr
  injection hr with hr; subst hr; simp only [↓apply_ite (State.mask K), ite_self, ↓foldl_mask, implies_true, ↓(flashReadError_mask kA kD kF kM), ↓(loadFail_mask kA kB kD kF kG kH kI kJ kK kL kM kN kO kP kQ kR kS kT kU kV kW)]

theorem setCanState_mask {K : Parts} (kA : K.regs) (n : Nat) (v : Nat) (s : State) :
    (setCanState n v s).mask K = s.mask K := by
  simp only [setCanState, ↓apply_ite (State.mask K), ite_self, ↓foldl_mask, implies_true, ↓(set_mask kA)]

theorem bumpCan_mask {K : Parts} (kA : K.regs) (f : Fld) (n : Nat) (s : State) :
    (bumpCan f n s).mask K = s.mask K := by
  simp only [bumpCan, ↓apply_ite (State.mask K), ite_self, ↓foldl_mask, implies_true, ↓(bump_mask kA)]

theorem canStop_mask {K : Parts} (kA : K.regs) (kF : K.fab) (kU : K.bus) (n : Nat) (s : State) :
    (canStop n s).mask K = s.mask K := by
  simp only [canStop, ↓apply_ite (State.mask K), ite_self, ↓foldl_mask, implies_true, ↓(set_mask kA), ↓(setCan_mask kU), ↓(raise_mask kA kF), ↓(setCanState_mask kA)]

theorem frameBoundary_mask {K : Parts} (kA : K.regs) (kF : K.fab) (kU : K.bus) (n : Nat) (s : State) :
    (frameBoundary n s).mask K = s.mask K := by
  simp only [frameBoundary, ↓apply_ite (State.mask K), ite_self, ↓foldl_mask, implies_true, ↓(canStop_mask kA kF kU)]

theorem canFail_mask {K : Parts} (kA : K.regs) (kD : K.sys) (kF : K.fab) (kM : K.kln) (kU : K.bus) (n : Nat) (s : State) :
    (canFail n s).mask K = s.mask K := by
  simp only [canFail, ↓apply_ite (State.mask K), ite_self, ↓foldl_mask, implies_true, ↓(bump_mask kA), ↓(set_mask kA), ↓(setReel_mask kU), ↓(issue_mask kD kM), ↓(raise_mask kA kF), ↓(setCanState_mask kA)]

theorem busOff_mask {K : Parts} (kA : K.regs) (kD : K.sys) (kF : K.fab) (kM : K.kln) (kU : K.bus) (n : Nat) (s : State) :
    (busOff n s).mask K = s.mask K := by
  simp only [busOff, ↓apply_ite (State.mask K), ite_self, ↓foldl_mask, implies_true, ↓(set_mask kA), ↓(setCan_mask kU), ↓(bumpCan_mask kA), ↓(issue_mask kD kM), ↓(raise_mask kA kF), ↓(setCanState_mask kA)]

theorem confine_mask {K : Parts} (kA : K.regs) (kD : K.sys) (kF : K.fab) (kM : K.kln) (kU : K.bus) (n : Nat) (tec : Nat) (rec_ : Nat) (s
    : State) :
    (confine n tec rec_ s).mask K = s.mask K := by
  simp only [confine, ↓apply_ite (State.mask K), ite_self, ↓foldl_mask, implies_true, ↓(set_mask kA), ↓(busOff_mask kA kD kF kM kU), ↓(raise_mask kA kF), ↓(setCanState_mask kA)]

theorem goodReceive_mask {K : Parts} (kA : K.regs) (kD : K.sys) (kF : K.fab) (kM : K.kln) (kU : K.bus) (n : Nat) (s : State) :
    (goodReceive n s).mask K = s.mask K := by
  simp only [goodReceive, ↓apply_ite (State.mask K), ite_self, ↓foldl_mask, implies_true, ↓(confine_mask kA kD kF kM kU)]

theorem ringWrite_mask {K : Parts} (kA : K.regs) (kB : K.mem) (kD : K.sys) (kF : K.fab) (kM : K.kln) (kU : K.bus) (n : Nat) (hdr : List
    Byte) (payload : List Byte) (s : State) :
    (ringWrite n hdr payload s).mask K = s.mask K := by
  simp only [ringWrite, ↓apply_ite (State.mask K), ite_self, ↓foldl_mask, implies_true, ↓(set_mask kA), ↓(setCan_mask kU), ↓(wr_mask kA), ↓(bumpCan_mask kA), ↓(issue_mask kD kM), ↓(place_mask kB kF), ↓(raise_mask kA kF)]; (repeat' split) <;> first | (simp only [↓apply_ite (State.mask K), ite_self, ↓foldl_mask, implies_true, ↓(set_mask kA), ↓(setCan_mask kU), ↓(wr_mask kA), ↓(bumpCan_mask kA), ↓(issue_mask kD kM), ↓(place_mask kB kF), ↓(raise_mask kA kF)]; done) | (simp only [↓apply_ite (State.mask K), ite_self, ↓foldl_mask, implies_true, ↓(set_mask kA), ↓(setCan_mask kU), ↓(wr_mask kA), ↓(bumpCan_mask kA), ↓(issue_mask kD kM), ↓(place_mask kB kF), ↓(raise_mask kA kF)]; (repeat' split) <;> first | (simp only [↓apply_ite (State.mask K), ite_self, ↓foldl_mask, implies_true, ↓(set_mask kA), ↓(setCan_mask kU), ↓(wr_mask kA), ↓(bumpCan_mask kA), ↓(issue_mask kD kM), ↓(place_mask kB kF), ↓(raise_mask kA kF)]; done) | rfl | grind [set_mask, setCan_mask, wr_mask, bumpCan_mask, issue_mask, place_mask, raise_mask]) | rfl | grind [set_mask, setCan_mask, wr_mask, bumpCan_mask, issue_mask, place_mask, raise_mask]

theorem execFrameReceived_mask {K : Parts} (kA : K.regs) (kB : K.mem) (kD : K.sys) (kF : K.fab) (kM : K.kln) (kU : K.bus) (n : Fin 4) (f
    : RxFrame) (s : State) {s' : State} (hr : execFrameReceived n f s = .next s') :
    s'.mask K = s.mask K := by
  unfold execFrameReceived at hr
  injection hr with hr; subst hr; simp only [↓apply_ite (State.mask K), ite_self, ↓foldl_mask, implies_true, ↓(frameBoundary_mask kA kF kU), ↓(goodReceive_mask kA kD kF kM kU), ↓(ringWrite_mask kA kB kD kF kM kU)]

theorem execReceiveError_mask {K : Parts} (kA : K.regs) (kD : K.sys) (kF : K.fab) (kM : K.kln) (kU : K.bus) (n : Fin 4) (dominant : Bool)
    (s : State) {s' : State} (hr : execReceiveError n dominant s = .next s') :
    s'.mask K = s.mask K := by
  unfold execReceiveError at hr
  injection hr with hr; subst hr; simp only [↓apply_ite (State.mask K), ite_self, ↓foldl_mask, implies_true, ↓(confine_mask kA kD kF kM kU)]

theorem execProtocolException_mask {K : Parts} (kA : K.regs) (kF : K.fab) (kU : K.bus) (n : Fin 4) (s : State) {s' : State} (hr :
    execProtocolException n s = .next s') :
    s'.mask K = s.mask K := by
  unfold execProtocolException at hr
  injection hr with hr; subst hr; simp only [↓apply_ite (State.mask K), ite_self, ↓foldl_mask, implies_true, ↓(frameBoundary_mask kA kF kU), ↓(setCanState_mask kA)]

theorem execBusIntegrationDone_mask {K : Parts} (kA : K.regs) (kD : K.sys) (kF : K.fab) (kM : K.kln) (kU : K.bus) (n : Fin 4) (s : State)
    {s' : State} (hr : execBusIntegrationDone n s = .next s') :
    s'.mask K = s.mask K := by
  unfold execBusIntegrationDone at hr
  injection hr with hr; subst hr; simp only [↓apply_ite (State.mask K), ite_self, ↓foldl_mask, implies_true, ↓(canStop_mask kA kF kU), ↓(confine_mask kA kD kF kM kU), ↓(setCanState_mask kA)]

theorem execBusOffHoldEnd_mask {K : Parts} (kA : K.regs) (n : Fin 4) (s : State) {s' : State} (hr : execBusOffHoldEnd n s = .next s') :
    s'.mask K = s.mask K := by
  unfold execBusOffHoldEnd at hr
  injection hr with hr; subst hr; simp only [↓apply_ite (State.mask K), ite_self, ↓foldl_mask, implies_true, ↓(setCanState_mask kA)]

theorem execBusOffRecovered_mask {K : Parts} (kA : K.regs) (kF : K.fab) (n : Fin 4) (s : State) {s' : State} (hr : execBusOffRecovered n
    s = .next s') :
    s'.mask K = s.mask K := by
  unfold execBusOffRecovered at hr
  injection hr with hr; subst hr; simp only [↓apply_ite (State.mask K), ite_self, ↓foldl_mask, implies_true, ↓(set_mask kA), ↓(raise_mask kA kF), ↓(setCanState_mask kA)]

theorem setQueue_mask {K : Parts} (kA : K.regs) (kU : K.bus) (n : Nat) (q : List TxEntry) (s : State) :
    (setQueue n q s).mask K = s.mask K := by
  simp only [setQueue, ↓apply_ite (State.mask K), ite_self, ↓foldl_mask, implies_true, ↓(set_mask kA), ↓(setCan_mask kU)]

theorem popHead_mask {K : Parts} (kA : K.regs) (kU : K.bus) (n : Nat) (s : State) :
    (popHead n s).mask K = s.mask K := by
  simp only [popHead, ↓apply_ite (State.mask K), ite_self, ↓foldl_mask, implies_true, ↓(set_mask kA), ↓(setCan_mask kU), ↓(setQueue_mask kA kU)]

theorem pushEntry_mask {K : Parts} (kA : K.regs) (kF : K.fab) (kU : K.bus) (n : Nat) (e : TxEntry) (s : State) :
    (pushEntry n e s).2.mask K = s.mask K := by
  simp only [pushEntry, ↓apply_ite (State.mask K), ite_self, ↓foldl_mask, implies_true, ↓apply_ite Prod.snd, ↓apply_ite Prod.fst, ↓(bumpCan_mask kA), ↓(raise_mask kA kF), ↓(setQueue_mask kA kU)]

theorem txPush_mask {K : Parts} (kA : K.regs) (kC : K.resp) (kF : K.fab) (kU : K.bus) (m : Master) (n : Nat) (win : Nat) (e : TxEntry) (s
    : State) :
    (txPush m n win e s).mask K = s.mask K := by
  simp only [txPush, ↓apply_ite (State.mask K), ite_self, ↓foldl_mask, implies_true, ↓apply_ite Prod.snd, ↓apply_ite Prod.fst, ↓(answer_mask kC), ↓(busError_mask kC), ↓(pushEntry_mask kA kF kU)]

theorem execTxPush_mask {K : Parts} (kA : K.regs) (kC : K.resp) (kF : K.fab) (kU : K.bus) (m : Master) (n : Fin 4) (win : Fin 3) (w0 :
    Word) (w1 : Word) (w2 : Word) (w3 : Word) (s : State) {s' : State} (hr : execTxPush m n win w0 w1 w2 w3 s = .next s') :
    s'.mask K = s.mask K := by
  unfold execTxPush at hr
  injection hr with hr; subst hr; simp only [↓apply_ite (State.mask K), ite_self, ↓foldl_mask, implies_true, ↓(txPush_mask kA kC kF kU)]

theorem arbitrate_mask {K : Parts} (kA : K.regs) (kU : K.bus) (n : Nat) (late : Bool) (s : State) :
    (arbitrate n late s).mask K = s.mask K := by
  simp only [arbitrate, ↓apply_ite (State.mask K), ite_self, ↓foldl_mask, implies_true, ↓(set_mask kA), ↓(setCan_mask kU)]

theorem execTxHeadFetch_mask {K : Parts} (kA : K.regs) (kD : K.sys) (kM : K.kln) (kU : K.bus) (n : Fin 4) (s : State) {s' : State} (hr :
    execTxHeadFetch n s = .next s') :
    s'.mask K = s.mask K := by
  unfold execTxHeadFetch at hr
  injection hr with hr; subst hr; simp only [↓apply_ite (State.mask K), ite_self, ↓foldl_mask, implies_true, ↓(setCan_mask kU), ↓(arbitrate_mask kA kU), ↓(bumpCan_mask kA), ↓(issue_mask kD kM), ↓(popHead_mask kA kU)]; (repeat' split) <;> first | (simp only [↓apply_ite (State.mask K), ite_self, ↓foldl_mask, implies_true, ↓(setCan_mask kU), ↓(arbitrate_mask kA kU), ↓(bumpCan_mask kA), ↓(issue_mask kD kM), ↓(popHead_mask kA kU)]; done) | (simp only [↓apply_ite (State.mask K), ite_self, ↓foldl_mask, implies_true, ↓(setCan_mask kU), ↓(arbitrate_mask kA kU), ↓(bumpCan_mask kA), ↓(issue_mask kD kM), ↓(popHead_mask kA kU)]; (repeat' split) <;> first | (simp only [↓apply_ite (State.mask K), ite_self, ↓foldl_mask, implies_true, ↓(setCan_mask kU), ↓(arbitrate_mask kA kU), ↓(bumpCan_mask kA), ↓(issue_mask kD kM), ↓(popHead_mask kA kU)]; done) | rfl | grind [setCan_mask, arbitrate_mask, bumpCan_mask, issue_mask, popHead_mask]) | rfl | grind [setCan_mask, arbitrate_mask, bumpCan_mask, issue_mask, popHead_mask]

theorem execTxEligible_mask {K : Parts} (kA : K.regs) (kF : K.fab) (kU : K.bus) (n : Fin 4) (s : State) {s' : State} (hr : execTxEligible
    n s = .next s') :
    s'.mask K = s.mask K := by
  unfold execTxEligible at hr
  injection hr with hr; subst hr; simp only [↓apply_ite (State.mask K), ite_self, ↓foldl_mask, implies_true, ↓(arbitrate_mask kA kU), ↓(bumpCan_mask kA), ↓(popHead_mask kA kU), ↓(raise_mask kA kF)]; (repeat' split) <;> first | (simp only [↓apply_ite (State.mask K), ite_self, ↓foldl_mask, implies_true, ↓(arbitrate_mask kA kU), ↓(bumpCan_mask kA), ↓(popHead_mask kA kU), ↓(raise_mask kA kF)]; done) | (simp only [↓apply_ite (State.mask K), ite_self, ↓foldl_mask, implies_true, ↓(arbitrate_mask kA kU), ↓(bumpCan_mask kA), ↓(popHead_mask kA kU), ↓(raise_mask kA kF)]; (repeat' split) <;> first | (simp only [↓apply_ite (State.mask K), ite_self, ↓foldl_mask, implies_true, ↓(arbitrate_mask kA kU), ↓(bumpCan_mask kA), ↓(popHead_mask kA kU), ↓(raise_mask kA kF)]; done) | rfl | grind [arbitrate_mask, bumpCan_mask, popHead_mask, raise_mask]) | rfl | grind [arbitrate_mask, bumpCan_mask, popHead_mask, raise_mask]

theorem echo_mask {K : Parts} (kA : K.regs) (kB : K.mem) (kD : K.sys) (kF : K.fab) (kM : K.kln) (kU : K.bus) (n : Nat) (e : TxEntry)
    (late : Bool) (abandoned : Bool) (s : State) :
    (echo n e late abandoned s).mask K = s.mask K := by
  simp only [echo, ↓apply_ite (State.mask K), ite_self, ↓foldl_mask, implies_true, ↓(ringWrite_mask kA kB kD kF kM kU)]

theorem execTxFrameSent_mask {K : Parts} (kA : K.regs) (kB : K.mem) (kD : K.sys) (kF : K.fab) (kM : K.kln) (kU : K.bus) (n : Fin 4) (s :
    State) {s' : State} (hr : execTxFrameSent n s = .next s') :
    s'.mask K = s.mask K := by
  unfold execTxFrameSent at hr
  injection hr with hr; subst hr; simp only [↓apply_ite (State.mask K), ite_self, ↓foldl_mask, implies_true, ↓(confine_mask kA kD kF kM kU), ↓(echo_mask kA kB kD kF kM kU), ↓(frameBoundary_mask kA kF kU), ↓(popHead_mask kA kU)]; (repeat' split) <;> first | (simp only [↓apply_ite (State.mask K), ite_self, ↓foldl_mask, implies_true, ↓(confine_mask kA kD kF kM kU), ↓(echo_mask kA kB kD kF kM kU), ↓(frameBoundary_mask kA kF kU), ↓(popHead_mask kA kU)]; done) | (simp only [↓apply_ite (State.mask K), ite_self, ↓foldl_mask, implies_true, ↓(confine_mask kA kD kF kM kU), ↓(echo_mask kA kB kD kF kM kU), ↓(frameBoundary_mask kA kF kU), ↓(popHead_mask kA kU)]; (repeat' split) <;> first | (simp only [↓apply_ite (State.mask K), ite_self, ↓foldl_mask, implies_true, ↓(confine_mask kA kD kF kM kU), ↓(echo_mask kA kB kD kF kM kU), ↓(frameBoundary_mask kA kF kU), ↓(popHead_mask kA kU)]; done) | rfl | grind [confine_mask, echo_mask, frameBoundary_mask, popHead_mask]) | rfl | grind [confine_mask, echo_mask, frameBoundary_mask, popHead_mask]

theorem execTxAttemptError_mask {K : Parts} (kA : K.regs) (kB : K.mem) (kD : K.sys) (kF : K.fab) (kM : K.kln) (kU : K.bus) (n : Fin 4)
    (passive : Bool) (s : State) {s' : State} (hr : execTxAttemptError n passive s = .next s') :
    s'.mask K = s.mask K := by
  unfold execTxAttemptError at hr
  injection hr with hr; subst hr; simp only [↓apply_ite (State.mask K), ite_self, ↓foldl_mask, implies_true, ↓(set_mask kA), ↓(bumpCan_mask kA), ↓(confine_mask kA kD kF kM kU), ↓(echo_mask kA kB kD kF kM kU), ↓(frameBoundary_mask kA kF kU), ↓(issue_mask kD kM), ↓(popHead_mask kA kU), ↓(raise_mask kA kF)]; (repeat' split) <;> first | (simp only [↓apply_ite (State.mask K), ite_self, ↓foldl_mask, implies_true, ↓(set_mask kA), ↓(bumpCan_mask kA), ↓(confine_mask kA kD kF kM kU), ↓(echo_mask kA kB kD kF kM kU), ↓(frameBoundary_mask kA kF kU), ↓(issue_mask kD kM), ↓(popHead_mask kA kU), ↓(raise_mask kA kF)]; done) | (simp only [↓apply_ite (State.mask K), ite_self, ↓foldl_mask, implies_true, ↓(set_mask kA), ↓(bumpCan_mask kA), ↓(confine_mask kA kD kF kM kU), ↓(echo_mask kA kB kD kF kM kU), ↓(frameBoundary_mask kA kF kU), ↓(issue_mask kD kM), ↓(popHead_mask kA kU), ↓(raise_mask kA kF)]; (repeat' split) <;> first | (simp only [↓apply_ite (State.mask K), ite_self, ↓foldl_mask, implies_true, ↓(set_mask kA), ↓(bumpCan_mask kA), ↓(confine_mask kA kD kF kM kU), ↓(echo_mask kA kB kD kF kM kU), ↓(frameBoundary_mask kA kF kU), ↓(issue_mask kD kM), ↓(popHead_mask kA kU), ↓(raise_mask kA kF)]; done) | rfl | grind [set_mask, bumpCan_mask, confine_mask, echo_mask, frameBoundary_mask, issue_mask, popHead_mask, raise_mask]) | rfl | grind [set_mask, bumpCan_mask, confine_mask, echo_mask, frameBoundary_mask, issue_mask, popHead_mask, raise_mask]

theorem canDisable_mask {K : Parts} (kA : K.regs) (kF : K.fab) (kU : K.bus) (n : Nat) (s : State) :
    (canDisable n s).mask K = s.mask K := by
  simp only [canDisable, ↓apply_ite (State.mask K), ite_self, ↓foldl_mask, implies_true, ↓(set_mask kA), ↓(setCan_mask kU), ↓(canStop_mask kA kF kU)]; (repeat' split) <;> first | (simp only [↓apply_ite (State.mask K), ite_self, ↓foldl_mask, implies_true, ↓(set_mask kA), ↓(setCan_mask kU), ↓(canStop_mask kA kF kU)]; done) | (simp only [↓apply_ite (State.mask K), ite_self, ↓foldl_mask, implies_true, ↓(set_mask kA), ↓(setCan_mask kU), ↓(canStop_mask kA kF kU)]; (repeat' split) <;> first | (simp only [↓apply_ite (State.mask K), ite_self, ↓foldl_mask, implies_true, ↓(set_mask kA), ↓(setCan_mask kU), ↓(canStop_mask kA kF kU)]; done) | rfl | grind [set_mask, setCan_mask, canStop_mask]) | rfl | grind [set_mask, setCan_mask, canStop_mask]

theorem canEnable_mask {K : Parts} (kA : K.regs) (kF : K.fab) (kU : K.bus) (n : Nat) (s : State) :
    (canEnable n s).mask K = s.mask K := by
  simp only [canEnable, ↓apply_ite (State.mask K), ite_self, ↓foldl_mask, implies_true, ↓(set_mask kA), ↓(setCan_mask kU), ↓(canStop_mask kA kF kU), ↓(setCanState_mask kA)]

theorem canFlush_mask {K : Parts} (kA : K.regs) (kU : K.bus) (n : Nat) (s : State) :
    (canFlush n s).mask K = s.mask K := by
  simp only [canFlush, ↓apply_ite (State.mask K), ite_self, ↓foldl_mask, implies_true, ↓(set_mask kA), ↓(setCan_mask kU), ↓(setQueue_mask kA kU)]

theorem execCanDisable_mask {K : Parts} (kA : K.regs) (kC : K.resp) (kF : K.fab) (kU : K.bus) (m : Master) (n : Fin 4) (s : State) {s' :
    State} (hr : execCanDisable m n s = .next s') :
    s'.mask K = s.mask K := by
  unfold execCanDisable at hr
  injection hr with hr; subst hr; simp only [↓apply_ite (State.mask K), ite_self, ↓foldl_mask, implies_true, ↓(answer_mask kC), ↓(busError_mask kC), ↓(canDisable_mask kA kF kU)]

theorem execCanEnable_mask {K : Parts} (kA : K.regs) (kC : K.resp) (kF : K.fab) (kU : K.bus) (m : Master) (n : Fin 4) (s : State) {s' :
    State} (hr : execCanEnable m n s = .next s') :
    s'.mask K = s.mask K := by
  unfold execCanEnable at hr
  injection hr with hr; subst hr; simp only [↓apply_ite (State.mask K), ite_self, ↓foldl_mask, implies_true, ↓(answer_mask kC), ↓(busError_mask kC), ↓(canEnable_mask kA kF kU)]

theorem execCanFlush_mask {K : Parts} (kA : K.regs) (kC : K.resp) (kU : K.bus) (m : Master) (n : Fin 4) (s : State) {s' : State} (hr :
    execCanFlush m n s = .next s') :
    s'.mask K = s.mask K := by
  unfold execCanFlush at hr
  injection hr with hr; subst hr; simp only [↓apply_ite (State.mask K), ite_self, ↓foldl_mask, implies_true, ↓(answer_mask kC), ↓(busError_mask kC), ↓(canFlush_mask kA kU)]

theorem execCanDrainTimeout_mask {K : Parts} (kA : K.regs) (kF : K.fab) (kU : K.bus) (n : Fin 4) (s : State) {s' : State} (hr :
    execCanDrainTimeout n s = .next s') :
    s'.mask K = s.mask K := by
  unfold execCanDrainTimeout at hr
  injection hr with hr; subst hr; simp only [↓apply_ite (State.mask K), ite_self, ↓foldl_mask, implies_true, ↓(canStop_mask kA kF kU)]

theorem bumpReel_mask {K : Parts} (kA : K.regs) (f : Fld) (s : State) :
    (bumpReel f s).mask K = s.mask K := by
  simp only [bumpReel, ↓apply_ite (State.mask K), ite_self, ↓foldl_mask, implies_true, ↓(bump_mask kA)]

theorem markRecord_mask {K : Parts} (kB : K.mem) (kF : K.fab) (n : Nat) (off : Nat) (k : Nat) (s : State) :
    (markRecord n off k s).mask K = s.mask K := by
  simp only [markRecord, ↓apply_ite (State.mask K), ite_self, ↓foldl_mask, implies_true, ↓(place_mask kB kF)]

theorem passRecord_mask {K : Parts} (kA : K.regs) (n : Nat) (off : Nat) (s : State) :
    (passRecord n off s).mask K = s.mask K := by
  simp only [passRecord, ↓apply_ite (State.mask K), ite_self, ↓foldl_mask, implies_true, ↓(set_mask kA)]

theorem takeToken_mask {K : Parts} (kU : K.bus) (c : Nat) (s : State) :
    (takeToken c s).2.mask K = s.mask K := by
  simp only [takeToken, ↓apply_ite (State.mask K), ite_self, ↓foldl_mask, implies_true, ↓apply_ite Prod.snd, ↓apply_ite Prod.fst, ↓(setReel_mask kU)]

theorem flood_mask {K : Parts} (kA : K.regs) (kB : K.mem) (kD : K.sys) (kF : K.fab) (kM : K.kln) (kU : K.bus) (n : Nat) (off : Nat) (s :
    State) :
    (flood n off s).mask K = s.mask K := by
  simp only [flood, ↓apply_ite (State.mask K), ite_self, ↓foldl_mask, implies_true, ↓(setReel_mask kU), ↓(bumpReel_mask kA), ↓(issue_mask kD kM), ↓(markRecord_mask kB kF), ↓(raise_mask kA kF)]; (repeat' split) <;> first | (simp only [↓apply_ite (State.mask K), ite_self, ↓foldl_mask, implies_true, ↓(setReel_mask kU), ↓(bumpReel_mask kA), ↓(issue_mask kD kM), ↓(markRecord_mask kB kF), ↓(raise_mask kA kF)]; done) | (simp only [↓apply_ite (State.mask K), ite_self, ↓foldl_mask, implies_true, ↓(setReel_mask kU), ↓(bumpReel_mask kA), ↓(issue_mask kD kM), ↓(markRecord_mask kB kF), ↓(raise_mask kA kF)]; (repeat' split) <;> first | (simp only [↓apply_ite (State.mask K), ite_self, ↓foldl_mask, implies_true, ↓(setReel_mask kU), ↓(bumpReel_mask kA), ↓(issue_mask kD kM), ↓(markRecord_mask kB kF), ↓(raise_mask kA kF)]; done) | rfl | grind [setReel_mask, bumpReel_mask, issue_mask, markRecord_mask, raise_mask]) | rfl | grind [setReel_mask, bumpReel_mask, issue_mask, markRecord_mask, raise_mask]

theorem acceptFresh_mask {K : Parts} (kA : K.regs) (kB : K.mem) (kD : K.sys) (kM : K.kln) (kU : K.bus) (d : Nat) (f : Nat) (s : State) :
    (acceptFresh d f s).mask K = s.mask K := by
  simp only [acceptFresh, ↓apply_ite (State.mask K), ite_self, ↓foldl_mask, implies_true, ↓(set_mask kA), ↓(setReel_mask kU), ↓(store_mask kB), ↓(issue_mask kD kM)]

theorem authFail_mask {K : Parts} (kA : K.regs) (kB : K.mem) (kD : K.sys) (kF : K.fab) (kM : K.kln) (kU : K.bus) (n : Nat) (off : Nat) (d
    : Nat) (p : RxDef) (s : State) :
    (authFail n off d p s).mask K = s.mask K := by
  simp only [authFail, ↓apply_ite (State.mask K), ite_self, ↓foldl_mask, implies_true, ↓(setReel_mask kU), ↓(bumpReel_mask kA), ↓(issue_mask kD kM), ↓(markRecord_mask kB kF), ↓(raise_mask kA kF)]

theorem deliverRecord_mask {K : Parts} (kA : K.regs) (kB : K.mem) (kF : K.fab) (kU : K.bus) (n : Nat) (off : Nat) (d : Nat) (p : Nat) (s
    : State) :
    (deliverRecord n off d p s).mask K = s.mask K := by
  simp only [deliverRecord, ↓apply_ite (State.mask K), ite_self, ↓foldl_mask, implies_true, ↓(setReel_mask kU), ↓(bumpReel_mask kA), ↓(markRecord_mask kB kF), ↓(place_mask kB kF), ↓(raise_mask kA kF)]

theorem runOutcome_mask {K : Parts} (kA : K.regs) (kB : K.mem) (kF : K.fab) (kU : K.bus) (n : Nat) (off : Nat) (r : ReelRun) (s : State) :
    (runOutcome n off r s).mask K = s.mask K := by
  simp only [runOutcome, ↓apply_ite (State.mask K), ite_self, ↓foldl_mask, implies_true, ↓apply_ite Prod.snd, ↓apply_ite Prod.fst, ↓(deliverRecord_mask kA kB kF kU), ↓(markRecord_mask kB kF), ↓(pushEntry_mask kA kF kU)]; (repeat' split) <;> first | (simp only [↓apply_ite (State.mask K), ite_self, ↓foldl_mask, implies_true, ↓apply_ite Prod.snd, ↓apply_ite Prod.fst, ↓(deliverRecord_mask kA kB kF kU), ↓(markRecord_mask kB kF), ↓(pushEntry_mask kA kF kU)]; done) | (simp only [↓apply_ite (State.mask K), ite_self, ↓foldl_mask, implies_true, ↓apply_ite Prod.snd, ↓apply_ite Prod.fst, ↓(deliverRecord_mask kA kB kF kU), ↓(markRecord_mask kB kF), ↓(pushEntry_mask kA kF kU)]; (repeat' split) <;> first | (simp only [↓apply_ite (State.mask K), ite_self, ↓foldl_mask, implies_true, ↓apply_ite Prod.snd, ↓apply_ite Prod.fst, ↓(deliverRecord_mask kA kB kF kU), ↓(markRecord_mask kB kF), ↓(pushEntry_mask kA kF kU)]; done) | rfl | grind [deliverRecord_mask, markRecord_mask, pushEntry_mask]) | rfl | grind [deliverRecord_mask, markRecord_mask, pushEntry_mask]

theorem execReelRecordRun_mask {K : Parts} (kA : K.regs) (kB : K.mem) (kD : K.sys) (kF : K.fab) (kM : K.kln) (kU : K.bus) (n : Fin 4) (r
    : ReelRun) (s : State) {s' : State} (hr : execReelRecordRun n r s = .next s') :
    s'.mask K = s.mask K := by
  unfold execReelRecordRun at hr
  injection hr with hr; subst hr; simp only [↓apply_ite (State.mask K), ite_self, ↓foldl_mask, implies_true, ↓apply_ite Prod.snd, ↓apply_ite Prod.fst, ↓(setReel_mask kU), ↓(acceptFresh_mask kA kB kD kM kU), ↓(authFail_mask kA kB kD kF kM kU), ↓(flood_mask kA kB kD kF kM kU), ↓(passRecord_mask kA), ↓(runOutcome_mask kA kB kF kU), ↓(takeToken_mask kU)]; (repeat' split) <;> first | (simp only [↓apply_ite (State.mask K), ite_self, ↓foldl_mask, implies_true, ↓apply_ite Prod.snd, ↓apply_ite Prod.fst, ↓(setReel_mask kU), ↓(acceptFresh_mask kA kB kD kM kU), ↓(authFail_mask kA kB kD kF kM kU), ↓(flood_mask kA kB kD kF kM kU), ↓(passRecord_mask kA), ↓(runOutcome_mask kA kB kF kU), ↓(takeToken_mask kU)]; done) | (simp only [↓apply_ite (State.mask K), ite_self, ↓foldl_mask, implies_true, ↓apply_ite Prod.snd, ↓apply_ite Prod.fst, ↓(setReel_mask kU), ↓(acceptFresh_mask kA kB kD kM kU), ↓(authFail_mask kA kB kD kF kM kU), ↓(flood_mask kA kB kD kF kM kU), ↓(passRecord_mask kA), ↓(runOutcome_mask kA kB kF kU), ↓(takeToken_mask kU)]; (repeat' split) <;> first | (simp only [↓apply_ite (State.mask K), ite_self, ↓foldl_mask, implies_true, ↓apply_ite Prod.snd, ↓apply_ite Prod.fst, ↓(setReel_mask kU), ↓(acceptFresh_mask kA kB kD kM kU), ↓(authFail_mask kA kB kD kF kM kU), ↓(flood_mask kA kB kD kF kM kU), ↓(passRecord_mask kA), ↓(runOutcome_mask kA kB kF kU), ↓(takeToken_mask kU)]; done) | rfl | grind [setReel_mask, acceptFresh_mask, authFail_mask, flood_mask, passRecord_mask, runOutcome_mask, takeToken_mask]) | rfl | grind [setReel_mask, acceptFresh_mask, authFail_mask, flood_mask, passRecord_mask, runOutcome_mask, takeToken_mask]

theorem reelReset_mask {K : Parts} (kA : K.regs) (kS : K.tnd) (kT : K.upd) (s : State) :
    (reelReset s).mask K = s.mask K := by
  simp only [reelReset, ↓apply_ite (State.mask K), ite_self, ↓foldl_mask, implies_true, ↓(set_mask kA), ↓(updFault_mask kA kS kT)]

theorem execReelOverrun_mask {K : Parts} (kA : K.regs) (kB : K.mem) (kF : K.fab) (kS : K.tnd) (kT : K.upd) (kU : K.bus) (n : Fin 4) (how
    : ReelEnd) (s : State) {s' : State} (hr : execReelOverrun n how s = .next s') :
    s'.mask K = s.mask K := by
  unfold execReelOverrun at hr
  injection hr with hr; subst hr; simp only [↓apply_ite (State.mask K), ite_self, ↓foldl_mask, implies_true, ↓(setReel_mask kU), ↓(bumpReel_mask kA), ↓(markRecord_mask kB kF), ↓(passRecord_mask kA), ↓(raise_mask kA kF), ↓(reelReset_mask kA kS kT)]; (repeat' split) <;> first | (simp only [↓apply_ite (State.mask K), ite_self, ↓foldl_mask, implies_true, ↓(setReel_mask kU), ↓(bumpReel_mask kA), ↓(markRecord_mask kB kF), ↓(passRecord_mask kA), ↓(raise_mask kA kF), ↓(reelReset_mask kA kS kT)]; done) | (simp only [↓apply_ite (State.mask K), ite_self, ↓foldl_mask, implies_true, ↓(setReel_mask kU), ↓(bumpReel_mask kA), ↓(markRecord_mask kB kF), ↓(passRecord_mask kA), ↓(raise_mask kA kF), ↓(reelReset_mask kA kS kT)]; (repeat' split) <;> first | (simp only [↓apply_ite (State.mask K), ite_self, ↓foldl_mask, implies_true, ↓(setReel_mask kU), ↓(bumpReel_mask kA), ↓(markRecord_mask kB kF), ↓(passRecord_mask kA), ↓(raise_mask kA kF), ↓(reelReset_mask kA kS kT)]; done) | rfl | grind [setReel_mask, bumpReel_mask, markRecord_mask, passRecord_mask, raise_mask, reelReset_mask]) | rfl | grind [setReel_mask, bumpReel_mask, markRecord_mask, passRecord_mask, raise_mask, reelReset_mask]

theorem execReelResetDone_mask {K : Parts} (kA : K.regs) (kD : K.sys) (kM : K.kln) (s : State) {s' : State} (hr : execReelResetDone s =
    .next s') :
    s'.mask K = s.mask K := by
  unfold execReelResetDone at hr
  injection hr with hr; subst hr; simp only [↓apply_ite (State.mask K), ite_self, ↓foldl_mask, implies_true, ↓(set_mask kA), ↓(issue_mask kD kM)]

theorem nextFresh_mask {K : Parts} (kA : K.regs) (kB : K.mem) (kD : K.sys) (kM : K.kln) (kU : K.bus) (d : Nat) (s : State) :
    (nextFresh d s).2.mask K = s.mask K := by
  simp only [nextFresh, ↓apply_ite (State.mask K), ite_self, ↓foldl_mask, implies_true, ↓apply_ite Prod.snd, ↓apply_ite Prod.fst, ↓(set_mask kA), ↓(setReel_mask kU), ↓(store_mask kB), ↓(issue_mask kD kM)]

theorem pushOwn_mask {K : Parts} (kA : K.regs) (kB : K.mem) (kD : K.sys) (kF : K.fab) (kM : K.kln) (kU : K.bus) (k : Nat) (d : TxDef)
    (data : List Byte) (at_ : Option Nat) (s : State) :
    (pushOwn k d data at_ s).2.mask K = s.mask K := by
  simp only [pushOwn, ↓apply_ite (State.mask K), ite_self, ↓foldl_mask, implies_true, ↓apply_ite Prod.snd, ↓apply_ite Prod.fst, ↓(nextFresh_mask kA kB kD kM kU), ↓(place_mask kB kF), ↓(pushEntry_mask kA kF kU)]; (repeat' split) <;> first | (simp only [↓apply_ite (State.mask K), ite_self, ↓foldl_mask, implies_true, ↓apply_ite Prod.snd, ↓apply_ite Prod.fst, ↓(nextFresh_mask kA kB kD kM kU), ↓(place_mask kB kF), ↓(pushEntry_mask kA kF kU)]; done) | (simp only [↓apply_ite (State.mask K), ite_self, ↓foldl_mask, implies_true, ↓apply_ite Prod.snd, ↓apply_ite Prod.fst, ↓(nextFresh_mask kA kB kD kM kU), ↓(place_mask kB kF), ↓(pushEntry_mask kA kF kU)]; (repeat' split) <;> first | (simp only [↓apply_ite (State.mask K), ite_self, ↓foldl_mask, implies_true, ↓apply_ite Prod.snd, ↓apply_ite Prod.fst, ↓(nextFresh_mask kA kB kD kM kU), ↓(place_mask kB kF), ↓(pushEntry_mask kA kF kU)]; done) | rfl | grind [nextFresh_mask, place_mask, pushEntry_mask]) | rfl | grind [nextFresh_mask, place_mask, pushEntry_mask]

theorem execStatusFrameDue_mask {K : Parts} (kA : K.regs) (kB : K.mem) (kD : K.sys) (kF : K.fab) (kM : K.kln) (kU : K.bus) (d : Fin 32)
    (s : State) {s' : State} (hr : execStatusFrameDue d s = .next s') :
    s'.mask K = s.mask K := by
  unfold execStatusFrameDue at hr
  injection hr with hr; subst hr; simp only [↓apply_ite (State.mask K), ite_self, ↓foldl_mask, implies_true, ↓apply_ite Prod.snd, ↓apply_ite Prod.fst, ↓(setReel_mask kU), ↓(pushOwn_mask kA kB kD kF kM kU)]; (repeat' split) <;> first | (simp only [↓apply_ite (State.mask K), ite_self, ↓foldl_mask, implies_true, ↓apply_ite Prod.snd, ↓apply_ite Prod.fst, ↓(setReel_mask kU), ↓(pushOwn_mask kA kB kD kF kM kU)]; done) | (simp only [↓apply_ite (State.mask K), ite_self, ↓foldl_mask, implies_true, ↓apply_ite Prod.snd, ↓apply_ite Prod.fst, ↓(setReel_mask kU), ↓(pushOwn_mask kA kB kD kF kM kU)]; (repeat' split) <;> first | (simp only [↓apply_ite (State.mask K), ite_self, ↓foldl_mask, implies_true, ↓apply_ite Prod.snd, ↓apply_ite Prod.fst, ↓(setReel_mask kU), ↓(pushOwn_mask kA kB kD kF kM kU)]; done) | rfl | grind [setReel_mask, pushOwn_mask]) | rfl | grind [setReel_mask, pushOwn_mask]

theorem reelEvent_mask {K : Parts} (kA : K.regs) (kU : K.bus) (n : Nat) (s : State) :
    (reelEvent n s).mask K = s.mask K := by
  simp only [reelEvent, ↓apply_ite (State.mask K), ite_self, ↓foldl_mask, implies_true, ↓(setReel_mask kU), ↓(bumpReel_mask kA)]; (repeat' split) <;> first | (simp only [↓apply_ite (State.mask K), ite_self, ↓foldl_mask, implies_true, ↓(setReel_mask kU), ↓(bumpReel_mask kA)]; done) | (simp only [↓apply_ite (State.mask K), ite_self, ↓foldl_mask, implies_true, ↓(setReel_mask kU), ↓(bumpReel_mask kA)]; (repeat' split) <;> first | (simp only [↓apply_ite (State.mask K), ite_self, ↓foldl_mask, implies_true, ↓(setReel_mask kU), ↓(bumpReel_mask kA)]; done) | rfl | grind [setReel_mask, bumpReel_mask]) | rfl | grind [setReel_mask, bumpReel_mask]

theorem sendEvent_mask {K : Parts} (kA : K.regs) (kB : K.mem) (kD : K.sys) (kF : K.fab) (kM : K.kln) (kU : K.bus) (s : State) :
    (sendEvent s).mask K = s.mask K := by
  simp only [sendEvent, ↓apply_ite (State.mask K), ite_self, ↓foldl_mask, implies_true, ↓apply_ite Prod.snd, ↓apply_ite Prod.fst, ↓(setReel_mask kU), ↓(pushOwn_mask kA kB kD kF kM kU)]; (repeat' split) <;> first | (simp only [↓apply_ite (State.mask K), ite_self, ↓foldl_mask, implies_true, ↓apply_ite Prod.snd, ↓apply_ite Prod.fst, ↓(setReel_mask kU), ↓(pushOwn_mask kA kB kD kF kM kU)]; done) | (simp only [↓apply_ite (State.mask K), ite_self, ↓foldl_mask, implies_true, ↓apply_ite Prod.snd, ↓apply_ite Prod.fst, ↓(setReel_mask kU), ↓(pushOwn_mask kA kB kD kF kM kU)]; (repeat' split) <;> first | (simp only [↓apply_ite (State.mask K), ite_self, ↓foldl_mask, implies_true, ↓apply_ite Prod.snd, ↓apply_ite Prod.fst, ↓(setReel_mask kU), ↓(pushOwn_mask kA kB kD kF kM kU)]; done) | rfl | grind [setReel_mask, pushOwn_mask]) | rfl | grind [setReel_mask, pushOwn_mask]

theorem pushDtos_mask {K : Parts} (kA : K.regs) (kB : K.mem) (kD : K.sys) (kF : K.fab) (kM : K.kln) (kU : K.bus) (d : TxDef) (y1 : List
    (List Byte)) (y2 : Nat) (y3 : State) :
    (pushDtos d y1 y2 y3).2.mask K = y3.mask K := by
  induction y1 generalizing y2 y3 with
  | nil => rfl
  | cons f r ih => exact (ih _ _).trans (pushOwn_mask kA kB kD kF kM kU _ _ _ _ _)

theorem packSample_mask {K : Parts} (kA : K.regs) (kB : K.mem) (kD : K.sys) (kF : K.fab) (kM : K.kln) (kU : K.bus) (kV : K.xcp) (i : Nat)
    (s : State) :
    (packSample i s).mask K = s.mask K := by
  simp only [packSample, ↓apply_ite (State.mask K), ite_self, ↓foldl_mask, implies_true, mask_xcp kV, ↓apply_ite Prod.snd, ↓apply_ite Prod.fst, ↓(set_mask kA), ↓(pushDtos_mask kA kB kD kF kM kU)]; (repeat' split) <;> first | (simp only [↓apply_ite (State.mask K), ite_self, ↓foldl_mask, implies_true, mask_xcp kV, ↓apply_ite Prod.snd, ↓apply_ite Prod.fst, ↓(set_mask kA), ↓(pushDtos_mask kA kB kD kF kM kU)]; done) | (simp only [↓apply_ite (State.mask K), ite_self, ↓foldl_mask, implies_true, mask_xcp kV, ↓apply_ite Prod.snd, ↓apply_ite Prod.fst, ↓(set_mask kA), ↓(pushDtos_mask kA kB kD kF kM kU)]; (repeat' split) <;> first | (simp only [↓apply_ite (State.mask K), ite_self, ↓foldl_mask, implies_true, mask_xcp kV, ↓apply_ite Prod.snd, ↓apply_ite Prod.fst, ↓(set_mask kA), ↓(pushDtos_mask kA kB kD kF kM kU)]; done) | rfl | grind [set_mask, pushDtos_mask, mask_xcp]) | rfl | grind [set_mask, pushDtos_mask, mask_xcp]

theorem reelTick_mask {K : Parts} (kA : K.regs) (kB : K.mem) (kD : K.sys) (kF : K.fab) (kM : K.kln) (kU : K.bus) (kV : K.xcp) (s : State) :
    (reelTick s).mask K = s.mask K := by
  simp only [reelTick, ↓apply_ite (State.mask K), ite_self, ↓foldl_mask, implies_true, ↓(packSample_mask kA kB kD kF kM kU kV), ↓(sendEvent_mask kA kB kD kF kM kU)]

theorem aliveBreak_mask {K : Parts} (kA : K.regs) (s : State) :
    (aliveBreak s).mask K = s.mask K := by
  simp only [aliveBreak, ↓apply_ite (State.mask K), ite_self, ↓foldl_mask, implies_true, ↓(bump_mask kA)]

theorem supAlive_mask {K : Parts} (kO : K.sup) (k : Nat) (a : Nat) (s : State) :
    (supAlive k a s).mask K = s.mask K := by
  simp only [supAlive, ↓apply_ite (State.mask K), ite_self, ↓foldl_mask, implies_true, mask_sup kO]

theorem axleTorque_mask {K : Parts} (kO : K.sup) (tAx : Int) (dT : Int) (s : State) :
    (axleTorque tAx dT s).mask K = s.mask K := by
  simp only [axleTorque, ↓apply_ite (State.mask K), ite_self, ↓foldl_mask, implies_true, ↓(setMach_mask kO)]; (repeat' split) <;> first | (simp only [↓apply_ite (State.mask K), ite_self, ↓foldl_mask, implies_true, ↓(setMach_mask kO)]; done) | (simp only [↓apply_ite (State.mask K), ite_self, ↓foldl_mask, implies_true, ↓(setMach_mask kO)]; (repeat' split) <;> first | (simp only [↓apply_ite (State.mask K), ite_self, ↓foldl_mask, implies_true, ↓(setMach_mask kO)]; done) | rfl | grind [setMach_mask]) | rfl | grind [setMach_mask]

theorem execAxleCmd_mask {K : Parts} (kA : K.regs) (kB : K.mem) (kC : K.resp) (kD : K.sys) (kF : K.fab) (kG : K.afe) (kH : K.hk) (kI :
    K.whl) (kJ : K.pwm) (kK : K.cnv) (kL : K.fly) (kM : K.kln) (kN : K.spx) (kO : K.sup) (kP : K.act) (kQ : K.thm) (kR : K.chg) (kS : K.tnd) (kT : K.upd) (kU : K.bus) (kV : K.xcp) (kW : K.olt) (x : AxleCmd) (s : State) {s' : State} (hr : execAxleCmd x s = .next s') :
    s'.mask K = s.mask K := by
  unfold execAxleCmd at hr
  injection hr with hr; subst hr; simp only [↓apply_ite (State.mask K), ite_self, ↓foldl_mask, implies_true, ↓(aliveBreak_mask kA), ↓(axleTorque_mask kO), ↓(modeRequest_mask kA kB kC kD kF kG kH kI kJ kK kL kM kN kO kP kQ kR kS kT kU kV kW), ↓(quietly_mask kC), ↓(supAlive_mask kO)]; (repeat' split) <;> first | (simp only [↓apply_ite (State.mask K), ite_self, ↓foldl_mask, implies_true, ↓(aliveBreak_mask kA), ↓(axleTorque_mask kO), ↓(modeRequest_mask kA kB kC kD kF kG kH kI kJ kK kL kM kN kO kP kQ kR kS kT kU kV kW), ↓(quietly_mask kC), ↓(supAlive_mask kO)]; done) | (simp only [↓apply_ite (State.mask K), ite_self, ↓foldl_mask, implies_true, ↓(aliveBreak_mask kA), ↓(axleTorque_mask kO), ↓(modeRequest_mask kA kB kC kD kF kG kH kI kJ kK kL kM kN kO kP kQ kR kS kT kU kV kW), ↓(quietly_mask kC), ↓(supAlive_mask kO)]; (repeat' split) <;> first | (simp only [↓apply_ite (State.mask K), ite_self, ↓foldl_mask, implies_true, ↓(aliveBreak_mask kA), ↓(axleTorque_mask kO), ↓(modeRequest_mask kA kB kC kD kF kG kH kI kJ kK kL kM kN kO kP kQ kR kS kT kU kV kW), ↓(quietly_mask kC), ↓(supAlive_mask kO)]; done) | rfl | grind [aliveBreak_mask, axleTorque_mask, modeRequest_mask, quietly_mask, supAlive_mask]) | rfl | grind [aliveBreak_mask, axleTorque_mask, modeRequest_mask, quietly_mask, supAlive_mask]

theorem execSpeedCmd_mask {K : Parts} (kA : K.regs) (kO : K.sup) (x : SpeedCmd) (s : State) {s' : State} (hr : execSpeedCmd x s = .next
    s') :
    s'.mask K = s.mask K := by
  unfold execSpeedCmd at hr
  injection hr with hr; subst hr; simp only [↓apply_ite (State.mask K), ite_self, ↓foldl_mask, implies_true, ↓(setMach_mask kO), ↓(aliveBreak_mask kA), ↓(supAlive_mask kO)]; (repeat' split) <;> first | (simp only [↓apply_ite (State.mask K), ite_self, ↓foldl_mask, implies_true, ↓(setMach_mask kO), ↓(aliveBreak_mask kA), ↓(supAlive_mask kO)]; done) | (simp only [↓apply_ite (State.mask K), ite_self, ↓foldl_mask, implies_true, ↓(setMach_mask kO), ↓(aliveBreak_mask kA), ↓(supAlive_mask kO)]; (repeat' split) <;> first | (simp only [↓apply_ite (State.mask K), ite_self, ↓foldl_mask, implies_true, ↓(setMach_mask kO), ↓(aliveBreak_mask kA), ↓(supAlive_mask kO)]; done) | rfl | grind [setMach_mask, aliveBreak_mask, supAlive_mask]) | rfl | grind [setMach_mask, aliveBreak_mask, supAlive_mask]

theorem supKreq_mask {K : Parts} (kA : K.regs) (kC : K.resp) (kD : K.sys) (kF : K.fab) (kJ : K.pwm) (kM : K.kln) (kP : K.act) (f : Fld)
    (v : Nat) (s : State) :
    (supKreq f v s).mask K = s.mask K := by
  simp only [supKreq, ↓apply_ite (State.mask K), ite_self, ↓foldl_mask, implies_true, ↓(kreqField_mask kA kC kD kF kJ kM kP), ↓(quietly_mask kC)]

theorem stopOne_mask {K : Parts} (kA : K.regs) (kC : K.resp) (kD : K.sys) (kF : K.fab) (kJ : K.pwm) (kM : K.kln) (kO : K.sup) (kP :
    K.act) (s : State) :
    (stopOne s).mask K = s.mask K := by
  simp only [stopOne, ↓apply_ite (State.mask K), ite_self, ↓foldl_mask, implies_true, ↓(setMach_mask kO), ↓(supKreq_mask kA kC kD kF kJ kM kP)]; (repeat' split) <;> first | (simp only [↓apply_ite (State.mask K), ite_self, ↓foldl_mask, implies_true, ↓(setMach_mask kO), ↓(supKreq_mask kA kC kD kF kJ kM kP)]; done) | (simp only [↓apply_ite (State.mask K), ite_self, ↓foldl_mask, implies_true, ↓(setMach_mask kO), ↓(supKreq_mask kA kC kD kF kJ kM kP)]; (repeat' split) <;> first | (simp only [↓apply_ite (State.mask K), ite_self, ↓foldl_mask, implies_true, ↓(setMach_mask kO), ↓(supKreq_mask kA kC kD kF kJ kM kP)]; done) | rfl | grind [setMach_mask, supKreq_mask]) | rfl | grind [setMach_mask, supKreq_mask]

theorem execStopCmd_mask {K : Parts} (kA : K.regs) (kC : K.resp) (kD : K.sys) (kF : K.fab) (kJ : K.pwm) (kM : K.kln) (kO : K.sup) (kP :
    K.act) (auth : Bool) (one : Bool) (s : State) {s' : State} (hr : execStopCmd auth one s = .next s') :
    s'.mask K = s.mask K := by
  unfold execStopCmd at hr
  injection hr with hr; subst hr; simp only [↓apply_ite (State.mask K), ite_self, ↓foldl_mask, implies_true, ↓(setMach_mask kO), ↓(stopOne_mask kA kC kD kF kJ kM kO kP), ↓(supKreq_mask kA kC kD kF kJ kM kP)]

theorem execEmrCmd_mask {K : Parts} (kA : K.regs) (kF : K.fab) (kO : K.sup) (auth : Bool) (cancel : Bool) (s : State) {s' : State} (hr :
    execEmrCmd auth cancel s = .next s') :
    s'.mask K = s.mask K := by
  unfold execEmrCmd at hr
  injection hr with hr; subst hr; simp only [↓apply_ite (State.mask K), ite_self, ↓foldl_mask, implies_true, mask_sup kO, ↓(emrEnd_mask kA kF kO), ↓(emrEnter_mask kA kF kO)]

theorem execChgCmd_mask {K : Parts} (kA : K.regs) (kR : K.chg) (x : ChgCmd) (s : State) {s' : State} (hr : execChgCmd x s = .next s') :
    s'.mask K = s.mask K := by
  unfold execChgCmd at hr
  injection hr with hr; subst hr; simp only [↓apply_ite (State.mask K), ite_self, ↓foldl_mask, implies_true, ↓(setChg_mask kR), ↓(aliveBreak_mask kA)]

theorem execBmsLim_mask {K : Parts} (kA : K.regs) (kR : K.chg) (auth : Bool) (x : BmsLimits) (s : State) {s' : State} (hr : execBmsLim
    auth x s = .next s') :
    s'.mask K = s.mask K := by
  unfold execBmsLim at hr
  injection hr with hr; subst hr; simp only [↓apply_ite (State.mask K), ite_self, ↓foldl_mask, implies_true, ↓(set_mask kA), ↓(setChg_mask kR)]

theorem execPreCmd_mask {K : Parts} (kA : K.regs) (kC : K.resp) (kF : K.fab) (kJ : K.pwm) (kK : K.cnv) (kP : K.act) (kR : K.chg) (auth :
    Bool) (cOpen : Bool) (s : State) {s' : State} (hr : execPreCmd auth cOpen s = .next s') :
    s'.mask K = s.mask K := by
  unfold execPreCmd at hr
  injection hr with hr; subst hr; simp only [↓apply_ite (State.mask K), ite_self, ↓foldl_mask, implies_true, ↓(setChg_mask kR), ↓(preCommand_mask kA kF kJ kK kP), ↓(quietly_mask kC)]

theorem execContactorClosed_mask {K : Parts} (kA : K.regs) (kC : K.resp) (kF : K.fab) (kJ : K.pwm) (kK : K.cnv) (kP : K.act) (kR : K.chg)
    (auth : Bool) (s : State) {s' : State} (hr : execContactorClosed auth s = .next s') :
    s'.mask K = s.mask K := by
  unfold execContactorClosed at hr
  injection hr with hr; subst hr; simp only [↓apply_ite (State.mask K), ite_self, ↓foldl_mask, implies_true, ↓(setChg_mask kR), ↓(preEnd_mask kA kF kJ kK kP kR), ↓(quietly_mask kC)]

theorem execHostTimeout_mask {K : Parts} (kA : K.regs) (kC : K.resp) (kD : K.sys) (kF : K.fab) (kJ : K.pwm) (kM : K.kln) (kO : K.sup) (kP
    : K.act) (s : State) {s' : State} (hr : execHostTimeout s = .next s') :
    s'.mask K = s.mask K := by
  unfold execHostTimeout at hr
  injection hr with hr; subst hr; simp only [↓apply_ite (State.mask K), ite_self, ↓foldl_mask, implies_true, ↓(bump_mask kA), ↓(setMach_mask kO), ↓(issue_mask kD kM), ↓(raise_mask kA kF), ↓(stopOne_mask kA kC kD kF kJ kM kO kP)]

theorem execHostLossTimeout_mask {K : Parts} (kA : K.regs) (kC : K.resp) (kD : K.sys) (kF : K.fab) (kJ : K.pwm) (kM : K.kln) (kO : K.sup)
    (kP : K.act) (s : State) {s' : State} (hr : execHostLossTimeout s = .next s') :
    s'.mask K = s.mask K := by
  unfold execHostLossTimeout at hr
  injection hr with hr; subst hr; simp only [↓apply_ite (State.mask K), ite_self, ↓foldl_mask, implies_true, ↓(setMach_mask kO), ↓(stopOne_mask kA kC kD kF kJ kM kO kP)]

theorem execChgCmdTimeout_mask {K : Parts} (kA : K.regs) (kF : K.fab) (kR : K.chg) (s : State) {s' : State} (hr : execChgCmdTimeout s =
    .next s') :
    s'.mask K = s.mask K := by
  unfold execChgCmdTimeout at hr
  injection hr with hr; subst hr; simp only [↓apply_ite (State.mask K), ite_self, ↓foldl_mask, implies_true, ↓(bump_mask kA), ↓(setChg_mask kR), ↓(raise_mask kA kF)]

theorem setXcp_mask {K : Parts} (kV : K.xcp) (s : State) (x : XcpSt) :
    (State.setXcp s x).mask K = s.mask K := by
  simp only [State.setXcp, ↓apply_ite (State.mask K), ite_self, ↓foldl_mask, implies_true, mask_xcp kV]

theorem reply_mask {K : Parts} (kV : K.xcp) (s : State) (r : XcpReply) :
    (State.reply s r).mask K = s.mask K := by
  simp only [State.reply, ↓apply_ite (State.mask K), ite_self, ↓foldl_mask, implies_true, ↓(setXcp_mask kV)]

theorem whorlBatches_mask {K : Parts} (kA : K.regs) (kB : K.mem) (kC : K.resp) (kF : K.fab) (kI : K.whl) (ws : List (Nat × Word)) (s :
    State) :
    (whorlBatches ws s).mask K = s.mask K := by
  simp only [whorlBatches, ↓apply_ite (State.mask K), ite_self, ↓foldl_mask, implies_true, ↓(set_mask kA), ↓(coefWrite_mask kA kB kC kF kI)]

theorem pageToWhorls_mask {K : Parts} (kA : K.regs) (kB : K.mem) (kC : K.resp) (kF : K.fab) (kI : K.whl) (working : Bool) (s : State) :
    (pageToWhorls working s).mask K = s.mask K := by
  simp only [pageToWhorls, ↓apply_ite (State.mask K), ite_self, ↓foldl_mask, implies_true, ↓(whorlBatches_mask kA kB kC kF kI)]; (repeat' split) <;> first | (simp only [↓apply_ite (State.mask K), ite_self, ↓foldl_mask, implies_true, ↓(whorlBatches_mask kA kB kC kF kI)]; done) | (simp only [↓apply_ite (State.mask K), ite_self, ↓foldl_mask, implies_true, ↓(whorlBatches_mask kA kB kC kF kI)]; (repeat' split) <;> first | (simp only [↓apply_ite (State.mask K), ite_self, ↓foldl_mask, implies_true, ↓(whorlBatches_mask kA kB kC kF kI)]; done) | rfl | grind [whorlBatches_mask]) | rfl | grind [whorlBatches_mask]

theorem pageKeeps_mask {K : Parts} (kB : K.mem) (kF : K.fab) (a : Nat) (v : Word) (s : State) :
    (pageKeeps a v s).mask K = s.mask K := by
  simp only [pageKeeps, ↓apply_ite (State.mask K), ite_self, ↓foldl_mask, implies_true, ↓(place_mask kB kF)]; (repeat' split) <;> first | (simp only [↓apply_ite (State.mask K), ite_self, ↓foldl_mask, implies_true, ↓(place_mask kB kF)]; done) | (simp only [↓apply_ite (State.mask K), ite_self, ↓foldl_mask, implies_true, ↓(place_mask kB kF)]; (repeat' split) <;> first | (simp only [↓apply_ite (State.mask K), ite_self, ↓foldl_mask, implies_true, ↓(place_mask kB kF)]; done) | rfl | grind [place_mask]) | rfl | grind [place_mask]

theorem sigWrite_mask {K : Parts} (kA : K.regs) (kB : K.mem) (kC : K.resp) (kD : K.sys) (kF : K.fab) (kI : K.whl) (kM : K.kln) (k : Nat)
    (v : Word) (synd : Syndrome) (s : State) :
    (sigWrite k v synd s).mask K = s.mask K := by
  simp only [sigWrite, ↓apply_ite (State.mask K), ite_self, ↓foldl_mask, implies_true, ↓(answer_mask kC), ↓(busError_mask kC), ↓(memWrite_mask kA kB kC kD kF kM), ↓(pageKeeps_mask kB kF), ↓(whorlBatches_mask kA kB kC kF kI)]

theorem xcpCmd_mask {K : Parts} (kC : K.resp) (kV : K.xcp) (f : State → State) (s : State) {s' : State} (hf : ∀ t,
    (f t).mask K = t.mask K) (hr : xcpCmd f s = .next s') :
    s'.mask K = s.mask K := by
  unfold xcpCmd at hr
  injection hr with hr; subst hr; simp only [↓apply_ite (State.mask K), ite_self, ↓foldl_mask, implies_true, ↓(reply_mask kV), ↓(quietly_mask kC), hf]

theorem execXcpTimeout_mask {K : Parts} (kA : K.regs) (kF : K.fab) (kV : K.xcp) (s : State) {s' : State} (hr : execXcpTimeout s = .next
    s') :
    s'.mask K = s.mask K := by
  unfold execXcpTimeout at hr
  injection hr with hr; subst hr; simp only [↓apply_ite (State.mask K), ite_self, ↓foldl_mask, implies_true, ↓(xcpEnd_mask kA kF kV)]

theorem execXcpConnect_mask {K : Parts} (kA : K.regs) (kF : K.fab) (kV : K.xcp) (fd : Bool) (s : State) {s' : State} (hr : execXcpConnect
    fd s = .next s') :
    s'.mask K = s.mask K := by
  unfold execXcpConnect at hr
  injection hr with hr; subst hr; simp only [↓apply_ite (State.mask K), ite_self, ↓foldl_mask, implies_true, ↓(reply_mask kV), ↓(setXcp_mask kV), ↓(raise_mask kA kF)]

theorem execXcpDisconnect_mask {K : Parts} (kA : K.regs) (kF : K.fab) (kV : K.xcp) (s : State) {s' : State} (hr : execXcpDisconnect s =
    .next s') :
    s'.mask K = s.mask K := by
  unfold execXcpDisconnect at hr
  injection hr with hr; subst hr; simp only [↓apply_ite (State.mask K), ite_self, ↓foldl_mask, implies_true, ↓(reply_mask kV), ↓(xcpEnd_mask kA kF kV)]

theorem execXcpGetStatus_mask {K : Parts} (kC : K.resp) (kV : K.xcp) (s : State) {s' : State} (hr : execXcpGetStatus s = .next s') :
    s'.mask K = s.mask K := by
  unfold execXcpGetStatus at hr
  exact xcpCmd_mask kC kV _ _ (by intros; first | (simp only [↓apply_ite (State.mask K), ite_self, ↓foldl_mask, implies_true, ↓(reply_mask kV)]; done) | ((repeat' split) <;> first | (simp only [↓apply_ite (State.mask K), ite_self, ↓foldl_mask, implies_true, ↓(reply_mask kV)]; done) | (simp only [↓apply_ite (State.mask K), ite_self, ↓foldl_mask, implies_true, ↓(reply_mask kV)]; (repeat' split) <;> first | (simp only [↓apply_ite (State.mask K), ite_self, ↓foldl_mask, implies_true, ↓(reply_mask kV)]; done) | rfl | grind [reply_mask]) | rfl | grind [reply_mask])) hr

theorem execXcpSynch_mask {K : Parts} (kC : K.resp) (kV : K.xcp) (s : State) {s' : State} (hr : execXcpSynch s = .next s') :
    s'.mask K = s.mask K := by
  unfold execXcpSynch at hr
  exact xcpCmd_mask kC kV _ _ (by intros; first | (simp only [↓apply_ite (State.mask K), ite_self, ↓foldl_mask, implies_true, ↓(reply_mask kV)]; done) | ((repeat' split) <;> first | (simp only [↓apply_ite (State.mask K), ite_self, ↓foldl_mask, implies_true, ↓(reply_mask kV)]; done) | (simp only [↓apply_ite (State.mask K), ite_self, ↓foldl_mask, implies_true, ↓(reply_mask kV)]; (repeat' split) <;> first | (simp only [↓apply_ite (State.mask K), ite_self, ↓foldl_mask, implies_true, ↓(reply_mask kV)]; done) | rfl | grind [reply_mask]) | rfl | grind [reply_mask])) hr

theorem execXcpGetCommModeInfo_mask {K : Parts} (kC : K.resp) (kV : K.xcp) (s : State) {s' : State} (hr : execXcpGetCommModeInfo s =
    .next s') :
    s'.mask K = s.mask K := by
  unfold execXcpGetCommModeInfo at hr
  exact xcpCmd_mask kC kV _ _ (by intros; first | (simp only [↓apply_ite (State.mask K), ite_self, ↓foldl_mask, implies_true, ↓(reply_mask kV)]; done) | ((repeat' split) <;> first | (simp only [↓apply_ite (State.mask K), ite_self, ↓foldl_mask, implies_true, ↓(reply_mask kV)]; done) | (simp only [↓apply_ite (State.mask K), ite_self, ↓foldl_mask, implies_true, ↓(reply_mask kV)]; (repeat' split) <;> first | (simp only [↓apply_ite (State.mask K), ite_self, ↓foldl_mask, implies_true, ↓(reply_mask kV)]; done) | rfl | grind [reply_mask]) | rfl | grind [reply_mask])) hr

theorem setMta_mask {K : Parts} (kV : K.xcp) (a : Nat) (s : State) :
    (setMta a s).mask K = s.mask K := by
  simp only [setMta, ↓apply_ite (State.mask K), ite_self, ↓foldl_mask, implies_true, ↓(reply_mask kV), ↓(setXcp_mask kV)]

theorem execXcpSetMta_mask {K : Parts} (kC : K.resp) (kV : K.xcp) (addr : Word) (s : State) {s' : State} (hr : execXcpSetMta addr s =
    .next s') :
    s'.mask K = s.mask K := by
  unfold execXcpSetMta at hr
  exact xcpCmd_mask kC kV _ _ (by intros; first | (simp only [↓apply_ite (State.mask K), ite_self, ↓foldl_mask, implies_true, ↓(setMta_mask kV)]; done) | ((repeat' split) <;> first | (simp only [↓apply_ite (State.mask K), ite_self, ↓foldl_mask, implies_true, ↓(setMta_mask kV)]; done) | (simp only [↓apply_ite (State.mask K), ite_self, ↓foldl_mask, implies_true, ↓(setMta_mask kV)]; (repeat' split) <;> first | (simp only [↓apply_ite (State.mask K), ite_self, ↓foldl_mask, implies_true, ↓(setMta_mask kV)]; done) | rfl | grind [setMta_mask]) | rfl | grind [setMta_mask])) hr

theorem upload_mask {K : Parts} (kV : K.xcp) (n : Nat) (s : State) :
    (upload n s).mask K = s.mask K := by
  simp only [upload, ↓apply_ite (State.mask K), ite_self, ↓foldl_mask, implies_true, ↓(reply_mask kV), ↓(setXcp_mask kV)]; (repeat' split) <;> first | (simp only [↓apply_ite (State.mask K), ite_self, ↓foldl_mask, implies_true, ↓(reply_mask kV), ↓(setXcp_mask kV)]; done) | (simp only [↓apply_ite (State.mask K), ite_self, ↓foldl_mask, implies_true, ↓(reply_mask kV), ↓(setXcp_mask kV)]; (repeat' split) <;> first | (simp only [↓apply_ite (State.mask K), ite_self, ↓foldl_mask, implies_true, ↓(reply_mask kV), ↓(setXcp_mask kV)]; done) | rfl | grind [reply_mask, setXcp_mask]) | rfl | grind [reply_mask, setXcp_mask]

theorem execXcpUpload_mask {K : Parts} (kC : K.resp) (kV : K.xcp) (n : Byte) (s : State) {s' : State} (hr : execXcpUpload n s = .next s') :
    s'.mask K = s.mask K := by
  unfold execXcpUpload at hr
  exact xcpCmd_mask kC kV _ _ (by intros; first | (simp only [↓apply_ite (State.mask K), ite_self, ↓foldl_mask, implies_true, ↓(upload_mask kV)]; done) | ((repeat' split) <;> first | (simp only [↓apply_ite (State.mask K), ite_self, ↓foldl_mask, implies_true, ↓(upload_mask kV)]; done) | (simp only [↓apply_ite (State.mask K), ite_self, ↓foldl_mask, implies_true, ↓(upload_mask kV)]; (repeat' split) <;> first | (simp only [↓apply_ite (State.mask K), ite_self, ↓foldl_mask, implies_true, ↓(upload_mask kV)]; done) | rfl | grind [upload_mask]) | rfl | grind [upload_mask])) hr

theorem execXcpShortUpload_mask {K : Parts} (kC : K.resp) (kV : K.xcp) (n : Byte) (addr : Word) (s : State) {s' : State} (hr :
    execXcpShortUpload n addr s = .next s') :
    s'.mask K = s.mask K := by
  unfold execXcpShortUpload at hr
  exact xcpCmd_mask kC kV _ _ (by intros; first | (simp only [↓apply_ite (State.mask K), ite_self, ↓foldl_mask, implies_true, ↓(reply_mask kV), ↓(setXcp_mask kV), ↓(upload_mask kV)]; done) | ((repeat' split) <;> first | (simp only [↓apply_ite (State.mask K), ite_self, ↓foldl_mask, implies_true, ↓(reply_mask kV), ↓(setXcp_mask kV), ↓(upload_mask kV)]; done) | (simp only [↓apply_ite (State.mask K), ite_self, ↓foldl_mask, implies_true, ↓(reply_mask kV), ↓(setXcp_mask kV), ↓(upload_mask kV)]; (repeat' split) <;> first | (simp only [↓apply_ite (State.mask K), ite_self, ↓foldl_mask, implies_true, ↓(reply_mask kV), ↓(setXcp_mask kV), ↓(upload_mask kV)]; done) | rfl | grind [reply_mask, setXcp_mask, upload_mask]) | rfl | grind [reply_mask, setXcp_mask, upload_mask])) hr

theorem download_mask {K : Parts} (kA : K.regs) (kB : K.mem) (kC : K.resp) (kD : K.sys) (kF : K.fab) (kI : K.whl) (kM : K.kln) (kV :
    K.xcp) (data : List Byte) (s : State) :
    (download data s).mask K = s.mask K := by
  simp only [download, ↓apply_ite (State.mask K), ite_self, ↓foldl_mask, implies_true, ↓(reply_mask kV), ↓(setXcp_mask kV), ↓(sigWrite_mask kA kB kC kD kF kI kM)]; (repeat' split) <;> first | (simp only [↓apply_ite (State.mask K), ite_self, ↓foldl_mask, implies_true, ↓(reply_mask kV), ↓(setXcp_mask kV), ↓(sigWrite_mask kA kB kC kD kF kI kM)]; done) | (simp only [↓apply_ite (State.mask K), ite_self, ↓foldl_mask, implies_true, ↓(reply_mask kV), ↓(setXcp_mask kV), ↓(sigWrite_mask kA kB kC kD kF kI kM)]; (repeat' split) <;> first | (simp only [↓apply_ite (State.mask K), ite_self, ↓foldl_mask, implies_true, ↓(reply_mask kV), ↓(setXcp_mask kV), ↓(sigWrite_mask kA kB kC kD kF kI kM)]; done) | rfl | grind [reply_mask, setXcp_mask, sigWrite_mask]) | rfl | grind [reply_mask, setXcp_mask, sigWrite_mask]

theorem execXcpDownload_mask {K : Parts} (kA : K.regs) (kB : K.mem) (kC : K.resp) (kD : K.sys) (kF : K.fab) (kI : K.whl) (kM : K.kln) (kV
    : K.xcp) (data : List Byte) (s : State) {s' : State} (hr : execXcpDownload data s = .next s') :
    s'.mask K = s.mask K := by
  unfold execXcpDownload at hr
  exact xcpCmd_mask kC kV _ _ (by intros; first | (simp only [↓apply_ite (State.mask K), ite_self, ↓foldl_mask, implies_true, ↓(download_mask kA kB kC kD kF kI kM kV)]; done) | ((repeat' split) <;> first | (simp only [↓apply_ite (State.mask K), ite_self, ↓foldl_mask, implies_true, ↓(download_mask kA kB kC kD kF kI kM kV)]; done) | (simp only [↓apply_ite (State.mask K), ite_self, ↓foldl_mask, implies_true, ↓(download_mask kA kB kC kD kF kI kM kV)]; (repeat' split) <;> first | (simp only [↓apply_ite (State.mask K), ite_self, ↓foldl_mask, implies_true, ↓(download_mask kA kB kC kD kF kI kM kV)]; done) | rfl | grind [download_mask]) | rfl | grind [download_mask])) hr

theorem execXcpSetCalPage_mask {K : Parts} (kA : K.regs) (kB : K.mem) (kC : K.resp) (kF : K.fab) (kI : K.whl) (kV : K.xcp) (mode : Byte)
    (page : Byte) (s : State) {s' : State} (hr : execXcpSetCalPage mode page s = .next s') :
    s'.mask K = s.mask K := by
  unfold execXcpSetCalPage at hr
  exact xcpCmd_mask kC kV _ _ (by intros; first | (simp only [↓apply_ite (State.mask K), ite_self, ↓foldl_mask, implies_true, ↓(reply_mask kV), ↓(setXcp_mask kV), ↓(pageToWhorls_mask kA kB kC kF kI)]; done) | ((repeat' split) <;> first | (simp only [↓apply_ite (State.mask K), ite_self, ↓foldl_mask, implies_true, ↓(reply_mask kV), ↓(setXcp_mask kV), ↓(pageToWhorls_mask kA kB kC kF kI)]; done) | (simp only [↓apply_ite (State.mask K), ite_self, ↓foldl_mask, implies_true, ↓(reply_mask kV), ↓(setXcp_mask kV), ↓(pageToWhorls_mask kA kB kC kF kI)]; (repeat' split) <;> first | (simp only [↓apply_ite (State.mask K), ite_self, ↓foldl_mask, implies_true, ↓(reply_mask kV), ↓(setXcp_mask kV), ↓(pageToWhorls_mask kA kB kC kF kI)]; done) | rfl | grind [reply_mask, setXcp_mask, pageToWhorls_mask]) | rfl | grind [reply_mask, setXcp_mask, pageToWhorls_mask])) hr

theorem execXcpGetCalPage_mask {K : Parts} (kC : K.resp) (kV : K.xcp) (mode : Byte) (s : State) {s' : State} (hr : execXcpGetCalPage mode
    s = .next s') :
    s'.mask K = s.mask K := by
  unfold execXcpGetCalPage at hr
  exact xcpCmd_mask kC kV _ _ (by intros; first | (simp only [↓apply_ite (State.mask K), ite_self, ↓foldl_mask, implies_true, ↓(reply_mask kV)]; done) | ((repeat' split) <;> first | (simp only [↓apply_ite (State.mask K), ite_self, ↓foldl_mask, implies_true, ↓(reply_mask kV)]; done) | (simp only [↓apply_ite (State.mask K), ite_self, ↓foldl_mask, implies_true, ↓(reply_mask kV)]; (repeat' split) <;> first | (simp only [↓apply_ite (State.mask K), ite_self, ↓foldl_mask, implies_true, ↓(reply_mask kV)]; done) | rfl | grind [reply_mask]) | rfl | grind [reply_mask])) hr

theorem execXcpCopyCalPage_mask {K : Parts} (kA : K.regs) (kB : K.mem) (kC : K.resp) (kF : K.fab) (kI : K.whl) (kV : K.xcp) (src : Byte)
    (dst : Byte) (s : State) {s' : State} (hr : execXcpCopyCalPage src dst s = .next s') :
    s'.mask K = s.mask K := by
  unfold execXcpCopyCalPage at hr
  exact xcpCmd_mask kC kV _ _ (by intros; first | (simp only [↓apply_ite (State.mask K), ite_self, ↓foldl_mask, implies_true, ↓(reply_mask kV), ↓(pageToWhorls_mask kA kB kC kF kI), ↓(place_mask kB kF)]; done) | ((repeat' split) <;> first | (simp only [↓apply_ite (State.mask K), ite_self, ↓foldl_mask, implies_true, ↓(reply_mask kV), ↓(pageToWhorls_mask kA kB kC kF kI), ↓(place_mask kB kF)]; done) | (simp only [↓apply_ite (State.mask K), ite_self, ↓foldl_mask, implies_true, ↓(reply_mask kV), ↓(pageToWhorls_mask kA kB kC kF kI), ↓(place_mask kB kF)]; (repeat' split) <;> first | (simp only [↓apply_ite (State.mask K), ite_self, ↓foldl_mask, implies_true, ↓(reply_mask kV), ↓(pageToWhorls_mask kA kB kC kF kI), ↓(place_mask kB kF)]; done) | rfl | grind [reply_mask, pageToWhorls_mask, place_mask]) | rfl | grind [reply_mask, pageToWhorls_mask, place_mask])) hr

theorem setList_mask {K : Parts} (kA : K.regs) (kV : K.xcp) (s : State) (i : Nat) (l : DaqList) :
    (State.setList s i l).mask K = s.mask K := by
  simp only [State.setList, ↓apply_ite (State.mask K), ite_self, ↓foldl_mask, implies_true, ↓(reply_mask kV), ↓(set_mask kA), ↓(setXcp_mask kV)]

theorem execXcpFreeDaq_mask {K : Parts} (kC : K.resp) (kV : K.xcp) (s : State) {s' : State} (hr : execXcpFreeDaq s = .next s') :
    s'.mask K = s.mask K := by
  unfold execXcpFreeDaq at hr
  exact xcpCmd_mask kC kV _ _ (by intros; first | (simp only [↓apply_ite (State.mask K), ite_self, ↓foldl_mask, implies_true, ↓(reply_mask kV), ↓(setXcp_mask kV)]; done) | ((repeat' split) <;> first | (simp only [↓apply_ite (State.mask K), ite_self, ↓foldl_mask, implies_true, ↓(reply_mask kV), ↓(setXcp_mask kV)]; done) | (simp only [↓apply_ite (State.mask K), ite_self, ↓foldl_mask, implies_true, ↓(reply_mask kV), ↓(setXcp_mask kV)]; (repeat' split) <;> first | (simp only [↓apply_ite (State.mask K), ite_self, ↓foldl_mask, implies_true, ↓(reply_mask kV), ↓(setXcp_mask kV)]; done) | rfl | grind [reply_mask, setXcp_mask]) | rfl | grind [reply_mask, setXcp_mask])) hr

theorem execXcpAllocDaq_mask {K : Parts} (kC : K.resp) (kV : K.xcp) (count : BitVec 16) (s : State) {s' : State} (hr : execXcpAllocDaq
    count s = .next s') :
    s'.mask K = s.mask K := by
  unfold execXcpAllocDaq at hr
  exact xcpCmd_mask kC kV _ _ (by intros; first | (simp only [↓apply_ite (State.mask K), ite_self, ↓foldl_mask, implies_true, ↓(reply_mask kV), ↓(setXcp_mask kV)]; done) | ((repeat' split) <;> first | (simp only [↓apply_ite (State.mask K), ite_self, ↓foldl_mask, implies_true, ↓(reply_mask kV), ↓(setXcp_mask kV)]; done) | (simp only [↓apply_ite (State.mask K), ite_self, ↓foldl_mask, implies_true, ↓(reply_mask kV), ↓(setXcp_mask kV)]; (repeat' split) <;> first | (simp only [↓apply_ite (State.mask K), ite_self, ↓foldl_mask, implies_true, ↓(reply_mask kV), ↓(setXcp_mask kV)]; done) | rfl | grind [reply_mask, setXcp_mask]) | rfl | grind [reply_mask, setXcp_mask])) hr

theorem withList_mask {K : Parts} (kV : K.xcp) (i : Nat) (f : DaqList → State → State) (s : State) (hf : ∀ v0 t,
    (f v0 t).mask K = t.mask K) :
    (withList i f s).mask K = s.mask K := by
  simp only [withList, ↓apply_ite (State.mask K), ite_self, ↓foldl_mask, implies_true, ↓(reply_mask kV), hf]; (repeat' split) <;> first | (simp only [↓apply_ite (State.mask K), ite_self, ↓foldl_mask, implies_true, ↓(reply_mask kV), hf]; done) | (simp only [↓apply_ite (State.mask K), ite_self, ↓foldl_mask, implies_true, ↓(reply_mask kV), hf]; (repeat' split) <;> first | (simp only [↓apply_ite (State.mask K), ite_self, ↓foldl_mask, implies_true, ↓(reply_mask kV), hf]; done) | rfl | grind [reply_mask]) | rfl | grind [reply_mask]

theorem execXcpAllocOdt_mask {K : Parts} (kA : K.regs) (kC : K.resp) (kV : K.xcp) (list : BitVec 16) (count : Byte) (s : State) {s' :
    State} (hr : execXcpAllocOdt list count s = .next s') :
    s'.mask K = s.mask K := by
  unfold execXcpAllocOdt at hr
  exact xcpCmd_mask kC kV _ _ (by intros; first | (simp only [↓apply_ite (State.mask K), ite_self, ↓foldl_mask, implies_true, ↓(setList_mask kA kV), ↓(withList_mask kV)]; done) | ((repeat' split) <;> first | (simp only [↓apply_ite (State.mask K), ite_self, ↓foldl_mask, implies_true, ↓(setList_mask kA kV), ↓(withList_mask kV)]; done) | (simp only [↓apply_ite (State.mask K), ite_self, ↓foldl_mask, implies_true, ↓(setList_mask kA kV), ↓(withList_mask kV)]; (repeat' split) <;> first | (simp only [↓apply_ite (State.mask K), ite_self, ↓foldl_mask, implies_true, ↓(setList_mask kA kV), ↓(withList_mask kV)]; done) | rfl | grind [setList_mask, withList_mask]) | rfl | grind [setList_mask, withList_mask])) hr

theorem execXcpAllocOdtEntry_mask {K : Parts} (kA : K.regs) (kC : K.resp) (kV : K.xcp) (list : BitVec 16) (odt : Byte) (count : Byte) (s
    : State) {s' : State} (hr : execXcpAllocOdtEntry list odt count s = .next s') :
    s'.mask K = s.mask K := by
  unfold execXcpAllocOdtEntry at hr
  exact xcpCmd_mask kC kV _ _ (by intros; first | (simp only [↓apply_ite (State.mask K), ite_self, ↓foldl_mask, implies_true, ↓(reply_mask kV), ↓(set_mask kA), ↓(setList_mask kA kV), ↓(withList_mask kV)]; done) | ((repeat' split) <;> first | (simp only [↓apply_ite (State.mask K), ite_self, ↓foldl_mask, implies_true, ↓(reply_mask kV), ↓(set_mask kA), ↓(setList_mask kA kV), ↓(withList_mask kV)]; done) | (simp only [↓apply_ite (State.mask K), ite_self, ↓foldl_mask, implies_true, ↓(reply_mask kV), ↓(set_mask kA), ↓(setList_mask kA kV), ↓(withList_mask kV)]; (repeat' split) <;> first | (simp only [↓apply_ite (State.mask K), ite_self, ↓foldl_mask, implies_true, ↓(reply_mask kV), ↓(set_mask kA), ↓(setList_mask kA kV), ↓(withList_mask kV)]; done) | rfl | grind [reply_mask, set_mask, setList_mask, withList_mask]) | rfl | grind [reply_mask, set_mask, setList_mask, withList_mask])) hr

theorem execXcpSetDaqPtr_mask {K : Parts} (kC : K.resp) (kV : K.xcp) (list : BitVec 16) (odt : Byte) (entry : Byte) (s : State) {s' :
    State} (hr : execXcpSetDaqPtr list odt entry s = .next s') :
    s'.mask K = s.mask K := by
  unfold execXcpSetDaqPtr at hr
  exact xcpCmd_mask kC kV _ _ (by intros; first | (simp only [↓apply_ite (State.mask K), ite_self, ↓foldl_mask, implies_true, ↓(reply_mask kV), ↓(setXcp_mask kV), ↓(withList_mask kV)]; done) | ((repeat' split) <;> first | (simp only [↓apply_ite (State.mask K), ite_self, ↓foldl_mask, implies_true, ↓(reply_mask kV), ↓(setXcp_mask kV), ↓(withList_mask kV)]; done) | (simp only [↓apply_ite (State.mask K), ite_self, ↓foldl_mask, implies_true, ↓(reply_mask kV), ↓(setXcp_mask kV), ↓(withList_mask kV)]; (repeat' split) <;> first | (simp only [↓apply_ite (State.mask K), ite_self, ↓foldl_mask, implies_true, ↓(reply_mask kV), ↓(setXcp_mask kV), ↓(withList_mask kV)]; done) | rfl | grind [reply_mask, setXcp_mask, withList_mask]) | rfl | grind [reply_mask, setXcp_mask, withList_mask])) hr

theorem execXcpWriteDaq_mask {K : Parts} (kA : K.regs) (kC : K.resp) (kV : K.xcp) (size : Byte) (addr : Word) (s : State) {s' : State}
    (hr : execXcpWriteDaq size addr s = .next s') :
    s'.mask K = s.mask K := by
  unfold execXcpWriteDaq at hr
  exact xcpCmd_mask kC kV _ _ (by intros; first | (simp only [↓apply_ite (State.mask K), ite_self, ↓foldl_mask, implies_true, ↓(reply_mask kV), ↓(set_mask kA), ↓(setList_mask kA kV), ↓(setXcp_mask kV), ↓(withList_mask kV)]; done) | ((repeat' split) <;> first | (simp only [↓apply_ite (State.mask K), ite_self, ↓foldl_mask, implies_true, ↓(reply_mask kV), ↓(set_mask kA), ↓(setList_mask kA kV), ↓(setXcp_mask kV), ↓(withList_mask kV)]; done) | (simp only [↓apply_ite (State.mask K), ite_self, ↓foldl_mask, implies_true, ↓(reply_mask kV), ↓(set_mask kA), ↓(setList_mask kA kV), ↓(setXcp_mask kV), ↓(withList_mask kV)]; (repeat' split) <;> first | (simp only [↓apply_ite (State.mask K), ite_self, ↓foldl_mask, implies_true, ↓(reply_mask kV), ↓(set_mask kA), ↓(setList_mask kA kV), ↓(setXcp_mask kV), ↓(withList_mask kV)]; done) | rfl | grind [reply_mask, set_mask, setList_mask, setXcp_mask, withList_mask]) | rfl | grind [reply_mask, set_mask, setList_mask, setXcp_mask, withList_mask])) hr

theorem execXcpSetDaqListMode_mask {K : Parts} (kA : K.regs) (kC : K.resp) (kV : K.xcp) (list : BitVec 16) (mode : Byte) (evch : BitVec
    16) (prescaler : Byte) (prio : Byte) (s : State) {s' : State} (hr : execXcpSetDaqListMode list mode evch prescaler prio s = .next s') :
    s'.mask K = s.mask K := by
  unfold execXcpSetDaqListMode at hr
  exact xcpCmd_mask kC kV _ _ (by intros; first | (simp only [↓apply_ite (State.mask K), ite_self, ↓foldl_mask, implies_true, ↓(reply_mask kV), ↓(setList_mask kA kV), ↓(withList_mask kV)]; done) | ((repeat' split) <;> first | (simp only [↓apply_ite (State.mask K), ite_self, ↓foldl_mask, implies_true, ↓(reply_mask kV), ↓(setList_mask kA kV), ↓(withList_mask kV)]; done) | (simp only [↓apply_ite (State.mask K), ite_self, ↓foldl_mask, implies_true, ↓(reply_mask kV), ↓(setList_mask kA kV), ↓(withList_mask kV)]; (repeat' split) <;> first | (simp only [↓apply_ite (State.mask K), ite_self, ↓foldl_mask, implies_true, ↓(reply_mask kV), ↓(setList_mask kA kV), ↓(withList_mask kV)]; done) | rfl | grind [reply_mask, setList_mask, withList_mask]) | rfl | grind [reply_mask, setList_mask, withList_mask])) hr

theorem execXcpStartStopDaqList_mask {K : Parts} (kA : K.regs) (kC : K.resp) (kV : K.xcp) (list : BitVec 16) (mode : Byte) (s : State)
    {s' : State} (hr : execXcpStartStopDaqList list mode s = .next s') :
    s'.mask K = s.mask K := by
  unfold execXcpStartStopDaqList at hr
  exact xcpCmd_mask kC kV _ _ (by intros; first | (simp only [↓apply_ite (State.mask K), ite_self, ↓foldl_mask, implies_true, ↓(reply_mask kV), ↓(setList_mask kA kV)]; done) | ((repeat' split) <;> first | (simp only [↓apply_ite (State.mask K), ite_self, ↓foldl_mask, implies_true, ↓(reply_mask kV), ↓(setList_mask kA kV)]; done) | (simp only [↓apply_ite (State.mask K), ite_self, ↓foldl_mask, implies_true, ↓(reply_mask kV), ↓(setList_mask kA kV)]; (repeat' split) <;> first | (simp only [↓apply_ite (State.mask K), ite_self, ↓foldl_mask, implies_true, ↓(reply_mask kV), ↓(setList_mask kA kV)]; done) | rfl | grind [reply_mask, setList_mask]) | rfl | grind [reply_mask, setList_mask])) hr

theorem execXcpStartStopSynch_mask {K : Parts} (kC : K.resp) (kV : K.xcp) (mode : Byte) (s : State) {s' : State} (hr :
    execXcpStartStopSynch mode s = .next s') :
    s'.mask K = s.mask K := by
  unfold execXcpStartStopSynch at hr
  exact xcpCmd_mask kC kV _ _ (by intros; first | (simp only [↓apply_ite (State.mask K), ite_self, ↓foldl_mask, implies_true, ↓(reply_mask kV), ↓(setXcp_mask kV)]; done) | ((repeat' split) <;> first | (simp only [↓apply_ite (State.mask K), ite_self, ↓foldl_mask, implies_true, ↓(reply_mask kV), ↓(setXcp_mask kV)]; done) | (simp only [↓apply_ite (State.mask K), ite_self, ↓foldl_mask, implies_true, ↓(reply_mask kV), ↓(setXcp_mask kV)]; (repeat' split) <;> first | (simp only [↓apply_ite (State.mask K), ite_self, ↓foldl_mask, implies_true, ↓(reply_mask kV), ↓(setXcp_mask kV)]; done) | rfl | grind [reply_mask, setXcp_mask]) | rfl | grind [reply_mask, setXcp_mask])) hr

theorem execXcpGetDaqProcessorInfo_mask {K : Parts} (kC : K.resp) (kV : K.xcp) (s : State) {s' : State} (hr : execXcpGetDaqProcessorInfo
    s = .next s') :
    s'.mask K = s.mask K := by
  unfold execXcpGetDaqProcessorInfo at hr
  exact xcpCmd_mask kC kV _ _ (by intros; first | (simp only [↓apply_ite (State.mask K), ite_self, ↓foldl_mask, implies_true, ↓(reply_mask kV)]; done) | ((repeat' split) <;> first | (simp only [↓apply_ite (State.mask K), ite_self, ↓foldl_mask, implies_true, ↓(reply_mask kV)]; done) | (simp only [↓apply_ite (State.mask K), ite_self, ↓foldl_mask, implies_true, ↓(reply_mask kV)]; (repeat' split) <;> first | (simp only [↓apply_ite (State.mask K), ite_self, ↓foldl_mask, implies_true, ↓(reply_mask kV)]; done) | rfl | grind [reply_mask]) | rfl | grind [reply_mask])) hr

theorem execXcpUnknownCommand_mask {K : Parts} (kC : K.resp) (kV : K.xcp) (code : Byte) (s : State) {s' : State} (hr :
    execXcpUnknownCommand code s = .next s') :
    s'.mask K = s.mask K := by
  unfold execXcpUnknownCommand at hr
  exact xcpCmd_mask kC kV _ _ (by intros; first | (simp only [↓apply_ite (State.mask K), ite_self, ↓foldl_mask, implies_true, ↓(reply_mask kV)]; done) | ((repeat' split) <;> first | (simp only [↓apply_ite (State.mask K), ite_self, ↓foldl_mask, implies_true, ↓(reply_mask kV)]; done) | (simp only [↓apply_ite (State.mask K), ite_self, ↓foldl_mask, implies_true, ↓(reply_mask kV)]; (repeat' split) <;> first | (simp only [↓apply_ite (State.mask K), ite_self, ↓foldl_mask, implies_true, ↓(reply_mask kV)]; done) | rfl | grind [reply_mask]) | rfl | grind [reply_mask])) hr

theorem firmwareLost_mask {K : Parts} (kO : K.sup) (kR : K.chg) (kV : K.xcp) (p : Nat) (s : State) :
    (firmwareLost p s).mask K = s.mask K := by
  simp only [firmwareLost, ↓apply_ite (State.mask K), ite_self, ↓foldl_mask, implies_true, mask_sup kO, mask_chg_xcp kR kV]

theorem pairFault_mask {K : Parts} (kA : K.regs) (kD : K.sys) (kF : K.fab) (kM : K.kln) (kN : K.spx) (kO : K.sup) (kR : K.chg) (kS :
    K.tnd) (kT : K.upd) (kV : K.xcp) (p : Nat) (code : Nat) (s : State) :
    (pairFault p code s).mask K = s.mask K := by
  simp only [pairFault, ↓apply_ite (State.mask K), ite_self, ↓foldl_mask, implies_true, ↓(set_mask kA), ↓(setPair_mask kN), ↓(firmwareLost_mask kO kR kV), ↓(issue_mask kD kM), ↓(raise_mask kA kF), ↓(updFault_mask kA kS kT)]

theorem pairUncheck_mask {K : Parts} (kA : K.regs) (kD : K.sys) (kF : K.fab) (kM : K.kln) (kN : K.spx) (p : Nat) (code : Nat) (s : State) :
    (pairUncheck p code s).mask K = s.mask K := by
  simp only [pairUncheck, ↓apply_ite (State.mask K), ite_self, ↓foldl_mask, implies_true, ↓(set_mask kA), ↓(setKln_mask kM), ↓(setPair_mask kN), ↓(issue_mask kD kM), ↓(raise_mask kA kF)]

theorem refillTcms_mask {K : Parts} (kB : K.mem) (kF : K.fab) (p : Nat) (image : List Byte) (s : State) :
    (refillTcms p image s).mask K = s.mask K := by
  simp only [refillTcms, ↓apply_ite (State.mask K), ite_self, ↓foldl_mask, implies_true, mask_mem_fab kB kF, ↓(loadTcms_mask kB kF)]

theorem pairResetDone_mask {K : Parts} (kA : K.regs) (kB : K.mem) (kD : K.sys) (kF : K.fab) (kM : K.kln) (kN : K.spx) (p : Nat) (synd :
    Syndrome) (s : State) :
    (pairResetDone p synd s).mask K = s.mask K := by
  simp only [pairResetDone, ↓apply_ite (State.mask K), ite_self, ↓foldl_mask, implies_true, ↓apply_ite Prod.snd, ↓apply_ite Prod.fst, ↓(set_mask kA), ↓(setPair_mask kN), ↓(issue_mask kD kM), ↓(raise_mask kA kF), ↓(readWord_mask kA kD kF kM), ↓(refillTcms_mask kB kF)]; (repeat' split) <;> first | (simp only [↓apply_ite (State.mask K), ite_self, ↓foldl_mask, implies_true, ↓apply_ite Prod.snd, ↓apply_ite Prod.fst, ↓(set_mask kA), ↓(setPair_mask kN), ↓(issue_mask kD kM), ↓(raise_mask kA kF), ↓(readWord_mask kA kD kF kM), ↓(refillTcms_mask kB kF)]; done) | (simp only [↓apply_ite (State.mask K), ite_self, ↓foldl_mask, implies_true, ↓apply_ite Prod.snd, ↓apply_ite Prod.fst, ↓(set_mask kA), ↓(setPair_mask kN), ↓(issue_mask kD kM), ↓(raise_mask kA kF), ↓(readWord_mask kA kD kF kM), ↓(refillTcms_mask kB kF)]; (repeat' split) <;> first | (simp only [↓apply_ite (State.mask K), ite_self, ↓foldl_mask, implies_true, ↓apply_ite Prod.snd, ↓apply_ite Prod.fst, ↓(set_mask kA), ↓(setPair_mask kN), ↓(issue_mask kD kM), ↓(raise_mask kA kF), ↓(readWord_mask kA kD kF kM), ↓(refillTcms_mask kB kF)]; done) | rfl | grind [set_mask, setPair_mask, issue_mask, raise_mask, readWord_mask, refillTcms_mask]) | rfl | grind [set_mask, setPair_mask, issue_mask, raise_mask, readWord_mask, refillTcms_mask]

theorem pairRestart_mask {K : Parts} (kA : K.regs) (kN : K.spx) (kO : K.sup) (kR : K.chg) (kV : K.xcp) (p : Nat) (s : State) :
    (pairRestart p s).mask K = s.mask K := by
  simp only [pairRestart, ↓apply_ite (State.mask K), ite_self, ↓foldl_mask, implies_true, ↓(set_mask kA), ↓(setPair_mask kN), ↓(firmwareLost_mask kO kR kV)]

theorem oltEnd_mask {K : Parts} (kA : K.regs) (kF : K.fab) (kW : K.olt) (result : Nat) (s : State) :
    (oltEnd result s).mask K = s.mask K := by
  simp only [oltEnd, ↓apply_ite (State.mask K), ite_self, ↓foldl_mask, implies_true, mask_olt kW, ↓(bump_mask kA), ↓(set_mask kA), ↓(raise_mask kA kF)]

theorem oltBegin_mask {K : Parts} (kA : K.regs) (kW : K.olt) (kind : Nat) (target : Nat) (s : State) :
    (oltBegin kind target s).mask K = s.mask K := by
  simp only [oltBegin, ↓apply_ite (State.mask K), ite_self, ↓foldl_mask, implies_true, mask_olt kW, ↓(set_mask kA)]

theorem setMigr_mask {K : Parts} (kT : K.upd) (s : State) (p : Nat) (v : Nat) :
    (State.setMigr s p v).mask K = s.mask K := by
  simp only [State.setMigr, ↓apply_ite (State.mask K), ite_self, ↓foldl_mask, implies_true, ↓(setUpd_mask kT)]

theorem setWant_mask {K : Parts} (kT : K.upd) (s : State) (k : Nat) (v : Nat) :
    (State.setWant s k v).mask K = s.mask K := by
  simp only [State.setWant, ↓apply_ite (State.mask K), ite_self, ↓foldl_mask, implies_true, ↓(setUpd_mask kT)]

theorem handoverTag_mask {K : Parts} (kA : K.regs) (kN : K.spx) (kO : K.sup) (kR : K.chg) (kT : K.upd) (kV : K.xcp) (p : Nat) (value :
    Nat) (s : State) :
    (handoverTag p value s).mask K = s.mask K := by
  simp only [handoverTag, ↓apply_ite (State.mask K), ite_self, ↓foldl_mask, implies_true, ↓(set_mask kA), ↓(setMigr_mask kT), ↓(setPair_mask kN), ↓(firmwareLost_mask kO kR kV)]

theorem handoverEnd_mask {K : Parts} (kA : K.regs) (kD : K.sys) (kF : K.fab) (kS : K.tnd) (kT : K.upd) (p : Nat) (value : Nat) (s : State) :
    (handoverEnd p value s).mask K = s.mask K := by
  simp only [handoverEnd, ↓apply_ite (State.mask K), ite_self, ↓foldl_mask, implies_true, ↓(set_mask kA), ↓(setMigr_mask kT), ↓(setWant_mask kT), ↓(stepActive_mask kA kD kF kS kT)]; (repeat' split) <;> first | (simp only [↓apply_ite (State.mask K), ite_self, ↓foldl_mask, implies_true, ↓(set_mask kA), ↓(setMigr_mask kT), ↓(setWant_mask kT), ↓(stepActive_mask kA kD kF kS kT)]; done) | (simp only [↓apply_ite (State.mask K), ite_self, ↓foldl_mask, implies_true, ↓(set_mask kA), ↓(setMigr_mask kT), ↓(setWant_mask kT), ↓(stepActive_mask kA kD kF kS kT)]; (repeat' split) <;> first | (simp only [↓apply_ite (State.mask K), ite_self, ↓foldl_mask, implies_true, ↓(set_mask kA), ↓(setMigr_mask kT), ↓(setWant_mask kT), ↓(stepActive_mask kA kD kF kS kT)]; done) | rfl | grind [set_mask, setMigr_mask, setWant_mask, stepActive_mask]) | rfl | grind [set_mask, setMigr_mask, setWant_mask, stepActive_mask]

theorem spxDisarm_mask {K : Parts} (kA : K.regs) (p : Nat) (s : State) :
    (spxDisarm p s).mask K = s.mask K := by
  simp only [spxDisarm, ↓apply_ite (State.mask K), ite_self, ↓foldl_mask, implies_true, ↓(set_mask kA)]

theorem tcmLoadDone_mask {K : Parts} (kB : K.mem) (kF : K.fab) (kT : K.upd) (p : Nat) (s : State) :
    (tcmLoadDone p s).mask K = s.mask K := by
  simp only [tcmLoadDone, ↓apply_ite (State.mask K), ite_self, ↓foldl_mask, implies_true, ↓(setMigr_mask kT), ↓(refillTcms_mask kB kF)]

theorem migrationTimeout_mask {K : Parts} (kA : K.regs) (kD : K.sys) (kM : K.kln) (kN : K.spx) (kO : K.sup) (kR : K.chg) (kS : K.tnd) (kT
    : K.upd) (kV : K.xcp) (p : Nat) (s : State) :
    (migrationTimeout p s).mask K = s.mask K := by
  simp only [migrationTimeout, ↓apply_ite (State.mask K), ite_self, ↓foldl_mask, implies_true, ↓(setMigr_mask kT), ↓(setWant_mask kT), ↓(activateFail_mask kA kD kM kS), ↓(pairRestart_mask kA kN kO kR kV)]

theorem outOfOrder_mask {K : Parts} (kA : K.regs) (kS : K.tnd) (s : State) :
    (outOfOrder s).mask K = s.mask K := by
  simp only [outOfOrder, ↓apply_ite (State.mask K), ite_self, ↓foldl_mask, implies_true, ↓(tndEnd_mask kS), ↓(updReason_mask kA kS)]

theorem updBegin_mask {K : Parts} (kA : K.regs) (kD : K.sys) (kF : K.fab) (kM : K.kln) (kP : K.act) (kS : K.tnd) (kT : K.upd) (x :
    Manifest) (s : State) :
    (updBegin x s).mask K = s.mask K := by
  simp only [updBegin, ↓apply_ite (State.mask K), ite_self, ↓foldl_mask, implies_true, mask_act kP, ↓(set_mask kA), ↓(setJournal_mask kS), ↓(setUpd_mask kT), ↓(issue_mask kD kM), ↓(outOfOrder_mask kA kS), ↓(raise_mask kA kF), ↓(tndEnd_mask kS), ↓(updReason_mask kA kS), ↓(updShowState_mask kA)]; (repeat' split) <;> first | (simp only [↓apply_ite (State.mask K), ite_self, ↓foldl_mask, implies_true, mask_act kP, ↓(set_mask kA), ↓(setJournal_mask kS), ↓(setUpd_mask kT), ↓(issue_mask kD kM), ↓(outOfOrder_mask kA kS), ↓(raise_mask kA kF), ↓(tndEnd_mask kS), ↓(updReason_mask kA kS), ↓(updShowState_mask kA)]; done) | (simp only [↓apply_ite (State.mask K), ite_self, ↓foldl_mask, implies_true, mask_act kP, ↓(set_mask kA), ↓(setJournal_mask kS), ↓(setUpd_mask kT), ↓(issue_mask kD kM), ↓(outOfOrder_mask kA kS), ↓(raise_mask kA kF), ↓(tndEnd_mask kS), ↓(updReason_mask kA kS), ↓(updShowState_mask kA)]; (repeat' split) <;> first | (simp only [↓apply_ite (State.mask K), ite_self, ↓foldl_mask, implies_true, mask_act kP, ↓(set_mask kA), ↓(setJournal_mask kS), ↓(setUpd_mask kT), ↓(issue_mask kD kM), ↓(outOfOrder_mask kA kS), ↓(raise_mask kA kF), ↓(tndEnd_mask kS), ↓(updReason_mask kA kS), ↓(updShowState_mask kA)]; done) | rfl | grind [set_mask, setJournal_mask, setUpd_mask, issue_mask, outOfOrder_mask, raise_mask, tndEnd_mask, updReason_mask, updShowState_mask, mask_act]) | rfl | grind [set_mask, setJournal_mask, setUpd_mask, issue_mask, outOfOrder_mask, raise_mask, tndEnd_mask, updReason_mask, updShowState_mask, mask_act]

theorem flashOp_mask {K : Parts} (kA : K.regs) (kB : K.mem) (kC : K.resp) (kD : K.sys) (kE : K.emb) (kF : K.fab) (kG : K.afe) (kH : K.hk)
    (kI : K.whl) (kJ : K.pwm) (kK : K.cnv) (kL : K.fly) (kM : K.kln) (kN : K.spx) (kO : K.sup) (kP : K.act) (kQ : K.thm) (kR : K.chg) (kS
      : K.tnd) (kT : K.upd) (kU : K.bus) (kV : K.xcp) (kW : K.olt) (op : Nat) (step : Nat) (s : State) :
    (flashOp op step s).mask K = s.mask K := by
  simp only [flashOp, ↓apply_ite (State.mask K), ite_self, ↓foldl_mask, implies_true, ↓(set_mask kA), ↓(setJournal_mask kS)]

theorem flashIdle_mask {K : Parts} (kA : K.regs) (kS : K.tnd) (s : State) :
    (flashIdle s).mask K = s.mask K := by
  simp only [flashIdle, ↓apply_ite (State.mask K), ite_self, ↓foldl_mask, implies_true, ↓(set_mask kA), ↓(setJournal_mask kS)]

theorem updWrite_mask {K : Parts} (kA : K.regs) (kB : K.mem) (kC : K.resp) (kD : K.sys) (kE : K.emb) (kF : K.fab) (kG : K.afe) (kH :
    K.hk) (kI : K.whl) (kJ : K.pwm) (kK : K.cnv) (kL : K.fly) (kM : K.kln) (kN : K.spx) (kO : K.sup) (kP : K.act) (kQ : K.thm) (kR : K.chg) (kS : K.tnd) (kT : K.upd) (kU : K.bus) (kV : K.xcp) (kW : K.olt) (s : State) :
    (updWrite s).mask K = s.mask K := by
  simp only [updWrite, ↓apply_ite (State.mask K), ite_self, ↓foldl_mask, implies_true, ↓(set_mask kA), ↓(setStep_mask kS), ↓(setUpd_mask kT), ↓(flashOp_mask kA kB kC kD kE kF kG kH kI kJ kK kL kM kN kO kP kQ kR kS kT kU kV kW), ↓(outOfOrder_mask kA kS), ↓(tndEnd_mask kS), ↓(updReason_mask kA kS)]; (repeat' split) <;> first | (simp only [↓apply_ite (State.mask K), ite_self, ↓foldl_mask, implies_true, ↓(set_mask kA), ↓(setStep_mask kS), ↓(setUpd_mask kT), ↓(flashOp_mask kA kB kC kD kE kF kG kH kI kJ kK kL kM kN kO kP kQ kR kS kT kU kV kW), ↓(outOfOrder_mask kA kS), ↓(tndEnd_mask kS), ↓(updReason_mask kA kS)]; done) | (simp only [↓apply_ite (State.mask K), ite_self, ↓foldl_mask, implies_true, ↓(set_mask kA), ↓(setStep_mask kS), ↓(setUpd_mask kT), ↓(flashOp_mask kA kB kC kD kE kF kG kH kI kJ kK kL kM kN kO kP kQ kR kS kT kU kV kW), ↓(outOfOrder_mask kA kS), ↓(tndEnd_mask kS), ↓(updReason_mask kA kS)]; (repeat' split) <;> first | (simp only [↓apply_ite (State.mask K), ite_self, ↓foldl_mask, implies_true, ↓(set_mask kA), ↓(setStep_mask kS), ↓(setUpd_mask kT), ↓(flashOp_mask kA kB kC kD kE kF kG kH kI kJ kK kL kM kN kO kP kQ kR kS kT kU kV kW), ↓(outOfOrder_mask kA kS), ↓(tndEnd_mask kS), ↓(updReason_mask kA kS)]; done) | rfl | grind [set_mask, setStep_mask, setUpd_mask, flashOp_mask, outOfOrder_mask, tndEnd_mask, updReason_mask]) | rfl | grind [set_mask, setStep_mask, setUpd_mask, flashOp_mask, outOfOrder_mask, tndEnd_mask, updReason_mask]

theorem prepareFor_mask {K : Parts} (kA : K.regs) (kI : K.whl) (w : Nat) (t : Nat) (s : State) :
    (prepareFor w t s).mask K = s.mask K := by
  simp only [prepareFor, ↓apply_ite (State.mask K), ite_self, ↓foldl_mask, implies_true, ↓(set_mask kA), ↓(setWhorl_mask kI)]

theorem calSwitch_mask {K : Parts} (kA : K.regs) (kB : K.mem) (kC : K.resp) (kF : K.fab) (kI : K.whl) (new : Bool) (s : State) :
    (calSwitch new s).mask K = s.mask K := by
  simp only [calSwitch, ↓apply_ite (State.mask K), ite_self, ↓foldl_mask, implies_true, ↓(setB_mask kA), ↓(pageToWhorls_mask kA kB kC kF kI)]

theorem updActivate_mask {K : Parts} (kA : K.regs) (kB : K.mem) (kC : K.resp) (kD : K.sys) (kE : K.emb) (kF : K.fab) (kI : K.whl) (kS :
    K.tnd) (kT : K.upd) (s : State) :
    (updActivate s).mask K = s.mask K := by
  simp only [updActivate, ↓apply_ite (State.mask K), ite_self, ↓foldl_mask, implies_true, mask_emb kE, ↓(set_mask kA), ↓(setWant_mask kT), ↓(calSwitch_mask kA kB kC kF kI), ↓(installProgram_mask kA kB kE), ↓(outOfOrder_mask kA kS), ↓(place_mask kB kF), ↓(prepareFor_mask kA kI), ↓(stepActive_mask kA kD kF kS kT), ↓(tndEnd_mask kS), ↓(updReason_mask kA kS)]; (repeat' split) <;> first | (simp only [↓apply_ite (State.mask K), ite_self, ↓foldl_mask, implies_true, mask_emb kE, ↓(set_mask kA), ↓(setWant_mask kT), ↓(calSwitch_mask kA kB kC kF kI), ↓(installProgram_mask kA kB kE), ↓(outOfOrder_mask kA kS), ↓(place_mask kB kF), ↓(prepareFor_mask kA kI), ↓(stepActive_mask kA kD kF kS kT), ↓(tndEnd_mask kS), ↓(updReason_mask kA kS)]; done) | (simp only [↓apply_ite (State.mask K), ite_self, ↓foldl_mask, implies_true, mask_emb kE, ↓(set_mask kA), ↓(setWant_mask kT), ↓(calSwitch_mask kA kB kC kF kI), ↓(installProgram_mask kA kB kE), ↓(outOfOrder_mask kA kS), ↓(place_mask kB kF), ↓(prepareFor_mask kA kI), ↓(stepActive_mask kA kD kF kS kT), ↓(tndEnd_mask kS), ↓(updReason_mask kA kS)]; (repeat' split) <;> first | (simp only [↓apply_ite (State.mask K), ite_self, ↓foldl_mask, implies_true, mask_emb kE, ↓(set_mask kA), ↓(setWant_mask kT), ↓(calSwitch_mask kA kB kC kF kI), ↓(installProgram_mask kA kB kE), ↓(outOfOrder_mask kA kS), ↓(place_mask kB kF), ↓(prepareFor_mask kA kI), ↓(stepActive_mask kA kD kF kS kT), ↓(tndEnd_mask kS), ↓(updReason_mask kA kS)]; done) | rfl | grind [set_mask, setWant_mask, calSwitch_mask, installProgram_mask, outOfOrder_mask, place_mask, prepareFor_mask, stepActive_mask, tndEnd_mask, updReason_mask, mask_emb]) | rfl | grind [set_mask, setWant_mask, calSwitch_mask, installProgram_mask, outOfOrder_mask, place_mask, prepareFor_mask, stepActive_mask, tndEnd_mask, updReason_mask, mask_emb]

theorem undoStep_mask {K : Parts} (kA : K.regs) (kB : K.mem) (kC : K.resp) (kD : K.sys) (kE : K.emb) (kF : K.fab) (kI : K.whl) (kT :
    K.upd) (k : Nat) (s : State) :
    (undoStep k s).mask K = s.mask K := by
  simp only [undoStep, ↓apply_ite (State.mask K), ite_self, ↓foldl_mask, implies_true, mask_emb kE, ↓(setUpd_mask kT), ↓(setWant_mask kT), ↓(calSwitch_mask kA kB kC kF kI), ↓(installProgram_mask kA kB kE), ↓(prepareFor_mask kA kI), ↓(replaceComp_mask kD), ↓(setVerified_mask kD)]; (repeat' split) <;> first | (simp only [↓apply_ite (State.mask K), ite_self, ↓foldl_mask, implies_true, mask_emb kE, ↓(setUpd_mask kT), ↓(setWant_mask kT), ↓(calSwitch_mask kA kB kC kF kI), ↓(installProgram_mask kA kB kE), ↓(prepareFor_mask kA kI), ↓(replaceComp_mask kD), ↓(setVerified_mask kD)]; done) | (simp only [↓apply_ite (State.mask K), ite_self, ↓foldl_mask, implies_true, mask_emb kE, ↓(setUpd_mask kT), ↓(setWant_mask kT), ↓(calSwitch_mask kA kB kC kF kI), ↓(installProgram_mask kA kB kE), ↓(prepareFor_mask kA kI), ↓(replaceComp_mask kD), ↓(setVerified_mask kD)]; (repeat' split) <;> first | (simp only [↓apply_ite (State.mask K), ite_self, ↓foldl_mask, implies_true, mask_emb kE, ↓(setUpd_mask kT), ↓(setWant_mask kT), ↓(calSwitch_mask kA kB kC kF kI), ↓(installProgram_mask kA kB kE), ↓(prepareFor_mask kA kI), ↓(replaceComp_mask kD), ↓(setVerified_mask kD)]; done) | rfl | grind [setUpd_mask, setWant_mask, calSwitch_mask, installProgram_mask, prepareFor_mask, replaceComp_mask, setVerified_mask, mask_emb]) | rfl | grind [setUpd_mask, setWant_mask, calSwitch_mask, installProgram_mask, prepareFor_mask, replaceComp_mask, setVerified_mask, mask_emb]

theorem undoAll_mask {K : Parts} (kA : K.regs) (kB : K.mem) (kC : K.resp) (kD : K.sys) (kE : K.emb) (kF : K.fab) (kG : K.afe) (kH : K.hk)
    (kI : K.whl) (kJ : K.pwm) (kK : K.cnv) (kL : K.fly) (kM : K.kln) (kN : K.spx) (kO : K.sup) (kP : K.act) (kQ : K.thm) (kR : K.chg) (kS
      : K.tnd) (kT : K.upd) (kU : K.bus) (kV : K.xcp) (kW : K.olt) (s : State) :
    (undoAll s).mask K = s.mask K := by
  simp only [undoAll, ↓apply_ite (State.mask K), ite_self, ↓foldl_mask, implies_true, ↓(setUpd_mask kT), ↓(flashOp_mask kA kB kC kD kE kF kG kH kI kJ kK kL kM kN kO kP kQ kR kS kT kU kV kW), ↓(undoStep_mask kA kB kC kD kE kF kI kT), ↓(updShowState_mask kA)]

theorem journalClear_mask {K : Parts} (kS : K.tnd) (s : State) :
    (journalClear s).mask K = s.mask K := by
  simp only [journalClear, ↓apply_ite (State.mask K), ite_self, ↓foldl_mask, implies_true, ↓(setJournal_mask kS)]

theorem statClear_mask {K : Parts} (kA : K.regs) (s : State) :
    (statClear s).mask K = s.mask K := by
  simp only [statClear, ↓apply_ite (State.mask K), ite_self, ↓foldl_mask, implies_true, ↓(set_mask kA)]

theorem revertDone_mask {K : Parts} (kA : K.regs) (kD : K.sys) (kF : K.fab) (kM : K.kln) (kS : K.tnd) (kT : K.upd) (s : State) :
    (revertDone s).mask K = s.mask K := by
  simp only [revertDone, ↓apply_ite (State.mask K), ite_self, ↓foldl_mask, implies_true, ↓(setUpd_mask kT), ↓(issue_mask kD kM), ↓(journalClear_mask kS), ↓(raise_mask kA kF), ↓(statClear_mask kA), ↓(tndEnd_mask kS)]

theorem updRevert_mask {K : Parts} (kA : K.regs) (kB : K.mem) (kC : K.resp) (kD : K.sys) (kE : K.emb) (kF : K.fab) (kG : K.afe) (kH :
    K.hk) (kI : K.whl) (kJ : K.pwm) (kK : K.cnv) (kL : K.fly) (kM : K.kln) (kN : K.spx) (kO : K.sup) (kP : K.act) (kQ : K.thm) (kR : K.chg) (kS : K.tnd) (kT : K.upd) (kU : K.bus) (kV : K.xcp) (kW : K.olt) (s : State) :
    (updRevert s).mask K = s.mask K := by
  simp only [updRevert, ↓apply_ite (State.mask K), ite_self, ↓foldl_mask, implies_true, ↓(outOfOrder_mask kA kS), ↓(revertBegin_mask kA kS kT), ↓(revertDone_mask kA kD kF kM kS kT), ↓(undoAll_mask kA kB kC kD kE kF kG kH kI kJ kK kL kM kN kO kP kQ kR kS kT kU kV kW), ↓(updReason_mask kA kS)]

theorem updConfirm_mask {K : Parts} (kA : K.regs) (kB : K.mem) (kC : K.resp) (kD : K.sys) (kE : K.emb) (kF : K.fab) (kG : K.afe) (kH :
    K.hk) (kI : K.whl) (kJ : K.pwm) (kK : K.cnv) (kL : K.fly) (kM : K.kln) (kN : K.spx) (kO : K.sup) (kP : K.act) (kQ : K.thm) (kR : K.chg) (kS : K.tnd) (kT : K.upd) (kU : K.bus) (kV : K.xcp) (kW : K.olt) (advance : Bool) (s : State) :
    (updConfirm advance s).mask K = s.mask K := by
  simp only [updConfirm, ↓apply_ite (State.mask K), ite_self, ↓foldl_mask, implies_true, ↓(set_mask kA), ↓(setJournal_mask kS), ↓(flashOp_mask kA kB kC kD kE kF kG kH kI kJ kK kL kM kN kO kP kQ kR kS kT kU kV kW), ↓(outOfOrder_mask kA kS)]

theorem confirmDone_mask {K : Parts} (kA : K.regs) (kB : K.mem) (kD : K.sys) (kF : K.fab) (kS : K.tnd) (kT : K.upd) (s : State) :
    (confirmDone s).mask K = s.mask K := by
  simp only [confirmDone, ↓tndEnd_mask kS, ↓tndShow_mask kA, ↓setUpd_mask kT, ↓statClear_mask kA, ↓confirmJournal_mask kA kF kS]
  split
  · rfl
  · simp only [↓setLoader_mask kD]
    exact foldl_mask _ (fun t x => by
      (repeat' split) <;> first | rfl | exact setLoader_mask kD _ _ | exact place_mask kB kF _ _ _ | exact (set_mask kA _ _ _ _ _ _).trans (place_mask kB kF _ _ _)) _ _

theorem writeFailed_mask {K : Parts} (kA : K.regs) (kB : K.mem) (kC : K.resp) (kD : K.sys) (kE : K.emb) (kF : K.fab) (kG : K.afe) (kH :
    K.hk) (kI : K.whl) (kJ : K.pwm) (kK : K.cnv) (kL : K.fly) (kM : K.kln) (kN : K.spx) (kO : K.sup) (kP : K.act) (kQ : K.thm) (kR : K.chg) (kS : K.tnd) (kT : K.upd) (kU : K.bus) (kV : K.xcp) (kW : K.olt) (s : State) :
    (writeFailed s).mask K = s.mask K := by
  simp only [writeFailed, ↓apply_ite (State.mask K), ite_self, ↓foldl_mask, implies_true, ↓(setStep_mask kS), ↓(setUpd_mask kT), ↓(issue_mask kD kM), ↓(tndEnd_mask kS), ↓(undoAll_mask kA kB kC kD kE kF kG kH kI kJ kK kL kM kN kO kP kQ kR kS kT kU kV kW), ↓(updReason_mask kA kS)]

theorem flashDone_mask {K : Parts} (kA : K.regs) (kB : K.mem) (kC : K.resp) (kD : K.sys) (kE : K.emb) (kF : K.fab) (kG : K.afe) (kH :
    K.hk) (kI : K.whl) (kJ : K.pwm) (kK : K.cnv) (kL : K.fly) (kM : K.kln) (kN : K.spx) (kO : K.sup) (kP : K.act) (kQ : K.thm) (kR : K.chg) (kS : K.tnd) (kT : K.upd) (kU : K.bus) (kV : K.xcp) (kW : K.olt) (readOk : Bool) (s : State) :
    (flashDone readOk s).mask K = s.mask K := by
  simp only [flashDone, ↓apply_ite (State.mask K), ite_self, ↓foldl_mask, implies_true, ↓(setStep_mask kS), ↓(setUpd_mask kT), ↓(confirmDone_mask kA kB kD kF kS kT), ↓(flashIdle_mask kA kS), ↓(raise_mask kA kF), ↓(revertDone_mask kA kD kF kM kS kT), ↓(tndEnd_mask kS), ↓(undoAll_mask kA kB kC kD kE kF kG kH kI kJ kK kL kM kN kO kP kQ kR kS kT kU kV kW), ↓(updShowState_mask kA), ↓(writeFailed_mask kA kB kC kD kE kF kG kH kI kJ kK kL kM kN kO kP kQ kR kS kT kU kV kW)]; (repeat' split) <;> first | (simp only [↓apply_ite (State.mask K), ite_self, ↓foldl_mask, implies_true, ↓(setStep_mask kS), ↓(setUpd_mask kT), ↓(confirmDone_mask kA kB kD kF kS kT), ↓(flashIdle_mask kA kS), ↓(raise_mask kA kF), ↓(revertDone_mask kA kD kF kM kS kT), ↓(tndEnd_mask kS), ↓(undoAll_mask kA kB kC kD kE kF kG kH kI kJ kK kL kM kN kO kP kQ kR kS kT kU kV kW), ↓(updShowState_mask kA), ↓(writeFailed_mask kA kB kC kD kE kF kG kH kI kJ kK kL kM kN kO kP kQ kR kS kT kU kV kW)]; done) | (simp only [↓apply_ite (State.mask K), ite_self, ↓foldl_mask, implies_true, ↓(setStep_mask kS), ↓(setUpd_mask kT), ↓(confirmDone_mask kA kB kD kF kS kT), ↓(flashIdle_mask kA kS), ↓(raise_mask kA kF), ↓(revertDone_mask kA kD kF kM kS kT), ↓(tndEnd_mask kS), ↓(undoAll_mask kA kB kC kD kE kF kG kH kI kJ kK kL kM kN kO kP kQ kR kS kT kU kV kW), ↓(updShowState_mask kA), ↓(writeFailed_mask kA kB kC kD kE kF kG kH kI kJ kK kL kM kN kO kP kQ kR kS kT kU kV kW)]; (repeat' split) <;> first | (simp only [↓apply_ite (State.mask K), ite_self, ↓foldl_mask, implies_true, ↓(setStep_mask kS), ↓(setUpd_mask kT), ↓(confirmDone_mask kA kB kD kF kS kT), ↓(flashIdle_mask kA kS), ↓(raise_mask kA kF), ↓(revertDone_mask kA kD kF kM kS kT), ↓(tndEnd_mask kS), ↓(undoAll_mask kA kB kC kD kE kF kG kH kI kJ kK kL kM kN kO kP kQ kR kS kT kU kV kW), ↓(updShowState_mask kA), ↓(writeFailed_mask kA kB kC kD kE kF kG kH kI kJ kK kL kM kN kO kP kQ kR kS kT kU kV kW)]; done) | rfl | grind [setStep_mask, setUpd_mask, confirmDone_mask, flashIdle_mask, raise_mask, revertDone_mask, tndEnd_mask, undoAll_mask, updShowState_mask, writeFailed_mask]) | rfl | grind [setStep_mask, setUpd_mask, confirmDone_mask, flashIdle_mask, raise_mask, revertDone_mask, tndEnd_mask, undoAll_mask, updShowState_mask, writeFailed_mask]

theorem probationDeadline_mask {K : Parts} (kA : K.regs) (kB : K.mem) (kC : K.resp) (kD : K.sys) (kE : K.emb) (kF : K.fab) (kG : K.afe)
    (kH : K.hk) (kI : K.whl) (kJ : K.pwm) (kK : K.cnv) (kL : K.fly) (kM : K.kln) (kN : K.spx) (kO : K.sup) (kP : K.act) (kQ : K.thm) (kR
      : K.chg) (kS : K.tnd) (kT : K.upd) (kU : K.bus) (kV : K.xcp) (kW : K.olt) (s : State) :
    (probationDeadline s).mask K = s.mask K := by
  simp only [probationDeadline, ↓apply_ite (State.mask K), ite_self, ↓foldl_mask, implies_true, ↓(set_mask kA), ↓(setJournal_mask kS), ↓(issue_mask kD kM), ↓(revertBegin_mask kA kS kT), ↓(undoAll_mask kA kB kC kD kE kF kG kH kI kJ kK kL kM kN kO kP kQ kR kS kT kU kV kW)]

theorem setTnd_mask {K : Parts} (kS : K.tnd) (s : State) (x : TndSt) :
    (State.setTnd s x).mask K = s.mask K := by
  simp only [State.setTnd, ↓apply_ite (State.mask K), ite_self, ↓foldl_mask, implies_true, mask_tnd kS]

theorem grantLevel_mask {K : Parts} (kA : K.regs) (kF : K.fab) (kS : K.tnd) (level : Nat) (mb : Nat) (lifetime : Nat) (s : State) :
    (grantLevel level mb lifetime s).mask K = s.mask K := by
  simp only [grantLevel, ↓apply_ite (State.mask K), ite_self, ↓foldl_mask, implies_true, ↓(set_mask kA), ↓(setTnd_mask kS), ↓(raise_mask kA kF)]

theorem tndAnswer_mask {K : Parts} (kS : K.tnd) (result : Nat) (out : List Byte) (s : State) :
    (tndAnswer result out s).mask K = s.mask K := by
  simp only [tndAnswer, ↓apply_ite (State.mask K), ite_self, ↓foldl_mask, implies_true, ↓(setTnd_mask kS)]; (repeat' split) <;> first | (simp only [↓apply_ite (State.mask K), ite_self, ↓foldl_mask, implies_true, ↓(setTnd_mask kS)]; done) | (simp only [↓apply_ite (State.mask K), ite_self, ↓foldl_mask, implies_true, ↓(setTnd_mask kS)]; (repeat' split) <;> first | (simp only [↓apply_ite (State.mask K), ite_self, ↓foldl_mask, implies_true, ↓(setTnd_mask kS)]; done) | rfl | grind [setTnd_mask]) | rfl | grind [setTnd_mask]

theorem challenge_mask {K : Parts} (kS : K.tnd) (mb : Nat) (purpose : Nat) (lifetime : Nat) (argHash : Nat) (nonce : Nat) (s : State) :
    (challenge mb purpose lifetime argHash nonce s).mask K = s.mask K := by
  simp only [challenge, ↓apply_ite (State.mask K), ite_self, ↓foldl_mask, implies_true, ↓(setTnd_mask kS), ↓(tndAnswer_mask kS)]

theorem authFailed_mask {K : Parts} (kA : K.regs) (kD : K.sys) (kF : K.fab) (kM : K.kln) (kS : K.tnd) (mb : Nat) (result : Nat) (s :
    State) :
    (authFailed mb result s).mask K = s.mask K := by
  simp only [authFailed, ↓apply_ite (State.mask K), ite_self, ↓foldl_mask, implies_true, ↓(setTnd_mask kS), ↓(raise_mask kA kF), ↓(tndAnswer_mask kS), ↓(tndFault_mask kA kD kF kM)]

theorem setFuse_mask {K : Parts} (kS : K.tnd) (s : State) (f : FuseSt) :
    (State.setFuse s f).mask K = s.mask K := by
  simp only [State.setFuse, ↓apply_ite (State.mask K), ite_self, ↓foldl_mask, implies_true, ↓(setTnd_mask kS)]

theorem setPriv_mask {K : Parts} (kS : K.tnd) (s : State) (p : PrivMram) :
    (State.setPriv s p).mask K = s.mask K := by
  simp only [State.setPriv, ↓apply_ite (State.mask K), ite_self, ↓foldl_mask, implies_true, ↓(setTnd_mask kS)]

theorem freshSet_mask {K : Parts} (kB : K.mem) (kU : K.bus) (d : Nat) (tx : Bool) (v : Nat) (s : State) :
    (freshSet d tx v s).mask K = s.mask K := by
  simp only [freshSet, ↓apply_ite (State.mask K), ite_self, ↓foldl_mask, implies_true, ↓(setReel_mask kU), ↓(store_mask kB)]

theorem lcAdvance_mask {K : Parts} (kA : K.regs) (kD : K.sys) (kF : K.fab) (kM : K.kln) (kN : K.spx) (kS : K.tnd) (kV : K.xcp) (target :
    Nat) (copies : Nat) (erased : Bool) (s : State) :
    (lcAdvance target copies erased s).2.mask K = s.mask K := by
  simp only [lcAdvance, ↓apply_ite (State.mask K), ite_self, ↓foldl_mask, implies_true, ↓apply_ite Prod.snd, ↓apply_ite Prod.fst, ↓(set_mask kA), ↓(setFuse_mask kS), ↓(setTnd_mask kS), ↓(debugRevoke_mask kA kF kN kS kV), ↓(raise_mask kA kF), ↓(tndFault_mask kA kD kF kM), ↓(tndShow_mask kA), ↓(zeroise_mask kS)]

theorem privileged_mask {K : Parts} (kA : K.regs) (kB : K.mem) (kD : K.sys) (kF : K.fab) (kM : K.kln) (kN : K.spx) (kS : K.tnd) (kU :
    K.bus) (kV : K.xcp) (arg : PrivArg) (s : State) :
    (privileged arg s).2.mask K = s.mask K := by
  simp only [privileged, ↓apply_ite (State.mask K), ite_self, ↓foldl_mask, implies_true, ↓apply_ite Prod.snd, ↓apply_ite Prod.fst, ↓(setFuse_mask kS), ↓(setPriv_mask kS), ↓(freshSet_mask kB kU), ↓(lcAdvance_mask kA kD kF kM kN kS kV), ↓(tndShow_mask kA)]; (repeat' split) <;> first | (simp only [↓apply_ite (State.mask K), ite_self, ↓foldl_mask, implies_true, ↓apply_ite Prod.snd, ↓apply_ite Prod.fst, ↓(setFuse_mask kS), ↓(setPriv_mask kS), ↓(freshSet_mask kB kU), ↓(lcAdvance_mask kA kD kF kM kN kS kV), ↓(tndShow_mask kA)]; done) | (simp only [↓apply_ite (State.mask K), ite_self, ↓foldl_mask, implies_true, ↓apply_ite Prod.snd, ↓apply_ite Prod.fst, ↓(setFuse_mask kS), ↓(setPriv_mask kS), ↓(freshSet_mask kB kU), ↓(lcAdvance_mask kA kD kF kM kN kS kV), ↓(tndShow_mask kA)]; (repeat' split) <;> first | (simp only [↓apply_ite (State.mask K), ite_self, ↓foldl_mask, implies_true, ↓apply_ite Prod.snd, ↓apply_ite Prod.fst, ↓(setFuse_mask kS), ↓(setPriv_mask kS), ↓(freshSet_mask kB kU), ↓(lcAdvance_mask kA kD kF kM kN kS kV), ↓(tndShow_mask kA)]; done) | rfl | grind [setFuse_mask, setPriv_mask, freshSet_mask, lcAdvance_mask, tndShow_mask]) | rfl | grind [setFuse_mask, setPriv_mask, freshSet_mask, lcAdvance_mask, tndShow_mask]

theorem response_mask {K : Parts} (kA : K.regs) (kB : K.mem) (kD : K.sys) (kF : K.fab) (kM : K.kln) (kN : K.spx) (kS : K.tnd) (kU :
    K.bus) (kV : K.xcp) (mb : Nat) (a : AuthIn) (arg : PrivArg) (s : State) :
    (response mb a arg s).mask K = s.mask K := by
  simp only [response, ↓apply_ite (State.mask K), ite_self, ↓foldl_mask, implies_true, ↓apply_ite Prod.snd, ↓apply_ite Prod.fst, ↓(setTnd_mask kS), ↓(authFailed_mask kA kD kF kM kS), ↓(grantLevel_mask kA kF kS), ↓(privileged_mask kA kB kD kF kM kN kS kU kV), ↓(tndAnswer_mask kS)]; (repeat' split) <;> first | (simp only [↓apply_ite (State.mask K), ite_self, ↓foldl_mask, implies_true, ↓apply_ite Prod.snd, ↓apply_ite Prod.fst, ↓(setTnd_mask kS), ↓(authFailed_mask kA kD kF kM kS), ↓(grantLevel_mask kA kF kS), ↓(privileged_mask kA kB kD kF kM kN kS kU kV), ↓(tndAnswer_mask kS)]; done) | (simp only [↓apply_ite (State.mask K), ite_self, ↓foldl_mask, implies_true, ↓apply_ite Prod.snd, ↓apply_ite Prod.fst, ↓(setTnd_mask kS), ↓(authFailed_mask kA kD kF kM kS), ↓(grantLevel_mask kA kF kS), ↓(privileged_mask kA kB kD kF kM kN kS kU kV), ↓(tndAnswer_mask kS)]; (repeat' split) <;> first | (simp only [↓apply_ite (State.mask K), ite_self, ↓foldl_mask, implies_true, ↓apply_ite Prod.snd, ↓apply_ite Prod.fst, ↓(setTnd_mask kS), ↓(authFailed_mask kA kD kF kM kS), ↓(grantLevel_mask kA kF kS), ↓(privileged_mask kA kB kD kF kM kN kS kU kV), ↓(tndAnswer_mask kS)]; done) | rfl | grind [setTnd_mask, authFailed_mask, grantLevel_mask, privileged_mask, tndAnswer_mask]) | rfl | grind [setTnd_mask, authFailed_mask, grantLevel_mask, privileged_mask, tndAnswer_mask]

theorem lockoutNow_mask {K : Parts} (kS : K.tnd) (s : State) :
    (lockoutNow s).mask K = s.mask K := by
  simp only [lockoutNow, ↓apply_ite (State.mask K), ite_self, ↓foldl_mask, implies_true, ↓(setPriv_mask kS)]

theorem password_mask {K : Parts} (kA : K.regs) (kD : K.sys) (kF : K.fab) (kM : K.kln) (kS : K.tnd) (mb : Nat) (hash : Nat) (s : State) :
    (password mb hash s).mask K = s.mask K := by
  simp only [password, ↓apply_ite (State.mask K), ite_self, ↓foldl_mask, implies_true, ↓(setPriv_mask kS), ↓(grantLevel_mask kA kF kS), ↓(lockoutNow_mask kS), ↓(raise_mask kA kF), ↓(tndAnswer_mask kS), ↓(tndFault_mask kA kD kF kM), ↓(tndShow_mask kA)]; (repeat' split) <;> first | (simp only [↓apply_ite (State.mask K), ite_self, ↓foldl_mask, implies_true, ↓(setPriv_mask kS), ↓(grantLevel_mask kA kF kS), ↓(lockoutNow_mask kS), ↓(raise_mask kA kF), ↓(tndAnswer_mask kS), ↓(tndFault_mask kA kD kF kM), ↓(tndShow_mask kA)]; done) | (simp only [↓apply_ite (State.mask K), ite_self, ↓foldl_mask, implies_true, ↓(setPriv_mask kS), ↓(grantLevel_mask kA kF kS), ↓(lockoutNow_mask kS), ↓(raise_mask kA kF), ↓(tndAnswer_mask kS), ↓(tndFault_mask kA kD kF kM), ↓(tndShow_mask kA)]; (repeat' split) <;> first | (simp only [↓apply_ite (State.mask K), ite_self, ↓foldl_mask, implies_true, ↓(setPriv_mask kS), ↓(grantLevel_mask kA kF kS), ↓(lockoutNow_mask kS), ↓(raise_mask kA kF), ↓(tndAnswer_mask kS), ↓(tndFault_mask kA kD kF kM), ↓(tndShow_mask kA)]; done) | rfl | grind [setPriv_mask, grantLevel_mask, lockoutNow_mask, raise_mask, tndAnswer_mask, tndFault_mask, tndShow_mask]) | rfl | grind [setPriv_mask, grantLevel_mask, lockoutNow_mask, raise_mask, tndAnswer_mask, tndFault_mask, tndShow_mask]

theorem keyImport_mask {K : Parts} (kB : K.mem) (kS : K.tnd) (kU : K.bus) (slot : Nat) (key : Nat) (tagOk : Bool) (s : State) :
    (keyImport slot key tagOk s).mask K = s.mask K := by
  simp only [keyImport, ↓apply_ite (State.mask K), ite_self, ↓foldl_mask, implies_true, ↓(setPriv_mask kS), ↓(freshSet_mask kB kU), ↓(tndAnswer_mask kS)]

theorem service_mask {K : Parts} (kB : K.mem) (kF : K.fab) (kS : K.tnd) (code : Nat) (x : ServiceIn) (s : State) :
    (service code x s).mask K = s.mask K := by
  simp only [service, ↓apply_ite (State.mask K), ite_self, ↓foldl_mask, implies_true, ↓(place_mask kB kF), ↓(tndAnswer_mask kS)]

theorem testFailed_mask {K : Parts} (kA : K.regs) (kD : K.sys) (kF : K.fab) (kM : K.kln) (kS : K.tnd) (s : State) :
    (testFailed s).mask K = s.mask K := by
  simp only [testFailed, ↓apply_ite (State.mask K), ite_self, ↓foldl_mask, implies_true, ↓(setTnd_mask kS), ↓(tndFault_mask kA kD kF kM)]

theorem selfTest_mask {K : Parts} (kA : K.regs) (kD : K.sys) (kF : K.fab) (kM : K.kln) (kS : K.tnd) (kW : K.olt) (ok : Bool) (s : State) :
    (selfTest ok s).mask K = s.mask K := by
  simp only [selfTest, ↓apply_ite (State.mask K), ite_self, ↓foldl_mask, implies_true, ↓(oltBegin_mask kA kW), ↓(testFailed_mask kA kD kF kM kS), ↓(tndAnswer_mask kS)]

theorem selfTestEnd_mask {K : Parts} (kA : K.regs) (kF : K.fab) (kW : K.olt) (s : State) :
    (selfTestEnd s).mask K = s.mask K := by
  simp only [selfTestEnd, ↓apply_ite (State.mask K), ite_self, ↓foldl_mask, implies_true, ↓(oltEnd_mask kA kF kW)]; (repeat' split) <;> first | (simp only [↓apply_ite (State.mask K), ite_self, ↓foldl_mask, implies_true, ↓(oltEnd_mask kA kF kW)]; done) | (simp only [↓apply_ite (State.mask K), ite_self, ↓foldl_mask, implies_true, ↓(oltEnd_mask kA kF kW)]; (repeat' split) <;> first | (simp only [↓apply_ite (State.mask K), ite_self, ↓foldl_mask, implies_true, ↓(oltEnd_mask kA kF kW)]; done) | rfl | grind [oltEnd_mask]) | rfl | grind [oltEnd_mask]

theorem ownCode_mask {K : Parts} (kA : K.regs) (kB : K.mem) (kD : K.sys) (kF : K.fab) (kM : K.kln) (kN : K.spx) (kS : K.tnd) (kU : K.bus)
    (kV : K.xcp) (mb : Nat) (arg : PrivArg) (s : State) :
    (ownCode mb arg s).mask K = s.mask K := by
  simp only [ownCode, ↓apply_ite (State.mask K), ite_self, ↓foldl_mask, implies_true, ↓apply_ite Prod.snd, ↓apply_ite Prod.fst, ↓(privileged_mask kA kB kD kF kM kN kS kU kV), ↓(tndAnswer_mask kS)]

end Sys2Proof.Machine
end

