-- ==== Sys2Proof/Laws/Mask5.lean ====
section
/-! SUPPORT. What each operation and meaning leaves unchanged: it changes no part of the state but those its lemma blanks. -/

set_option maxRecDepth 4000
set_option linter.all false
namespace Sys2Proof.Machine
open Sys2Proof

theorem updCmd_mask {K : Parts} (kS : K.tnd) (mb : Nat) (f : State → State) (s : State) (hf : ∀ t, (f t).mask K = t.mask K) :
    (updCmd mb f s).mask K = s.mask K := by
  simp only [updCmd, ↓apply_ite (State.mask K), ite_self, ↓foldl_mask, implies_true, ↓(tndAnswer_mask kS), hf]

theorem runCommand_mask {K : Parts} (kA : K.regs) (kB : K.mem) (kC : K.resp) (kD : K.sys) (kE : K.emb) (kF : K.fab) (kG : K.afe) (kH :
    K.hk) (kI : K.whl) (kJ : K.pwm) (kK : K.cnv) (kL : K.fly) (kM : K.kln) (kN : K.spx) (kO : K.sup) (kP : K.act) (kQ : K.thm) (kR : K.chg) (kS : K.tnd) (kT : K.upd) (kU : K.bus) (kV : K.xcp) (kW : K.olt) (mb : Nat) (c : TndCommand) (s : State) :
    (runCommand mb c s).mask K = s.mask K := by
  simp only [runCommand, ↓apply_ite (State.mask K), ite_self, ↓foldl_mask, implies_true, ↓apply_ite Prod.snd, ↓apply_ite Prod.fst, ↓(setTnd_mask kS), ↓(challenge_mask kS), ↓(debugRevoke_mask kA kF kN kS kV), ↓(keyImport_mask kB kS kU), ↓(ownCode_mask kA kB kD kF kM kN kS kU kV), ↓(password_mask kA kD kF kM kS), ↓(privileged_mask kA kB kD kF kM kN kS kU kV), ↓(response_mask kA kB kD kF kM kN kS kU kV), ↓(selfTest_mask kA kD kF kM kS kW), ↓(service_mask kB kF kS), ↓(tndAnswer_mask kS), ↓(updActivate_mask kA kB kC kD kE kF kI kS kT), ↓(updBegin_mask kA kD kF kM kP kS kT), ↓(updCmd_mask kS), ↓(updConfirm_mask kA kB kC kD kE kF kG kH kI kJ kK kL kM kN kO kP kQ kR kS kT kU kV kW), ↓(updRevert_mask kA kB kC kD kE kF kG kH kI kJ kK kL kM kN kO kP kQ kR kS kT kU kV kW), ↓(updWrite_mask kA kB kC kD kE kF kG kH kI kJ kK kL kM kN kO kP kQ kR kS kT kU kV kW)]; (repeat' split) <;> first | (simp only [↓apply_ite (State.mask K), ite_self, ↓foldl_mask, implies_true, ↓apply_ite Prod.snd, ↓apply_ite Prod.fst, ↓(setTnd_mask kS), ↓(challenge_mask kS), ↓(debugRevoke_mask kA kF kN kS kV), ↓(keyImport_mask kB kS kU), ↓(ownCode_mask kA kB kD kF kM kN kS kU kV), ↓(password_mask kA kD kF kM kS), ↓(privileged_mask kA kB kD kF kM kN kS kU kV), ↓(response_mask kA kB kD kF kM kN kS kU kV), ↓(selfTest_mask kA kD kF kM kS kW), ↓(service_mask kB kF kS), ↓(tndAnswer_mask kS), ↓(updActivate_mask kA kB kC kD kE kF kI kS kT), ↓(updBegin_mask kA kD kF kM kP kS kT), ↓(updCmd_mask kS), ↓(updConfirm_mask kA kB kC kD kE kF kG kH kI kJ kK kL kM kN kO kP kQ kR kS kT kU kV kW), ↓(updRevert_mask kA kB kC kD kE kF kG kH kI kJ kK kL kM kN kO kP kQ kR kS kT kU kV kW), ↓(updWrite_mask kA kB kC kD kE kF kG kH kI kJ kK kL kM kN kO kP kQ kR kS kT kU kV kW)]; done) | (simp only [↓apply_ite (State.mask K), ite_self, ↓foldl_mask, implies_true, ↓apply_ite Prod.snd, ↓apply_ite Prod.fst, ↓(setTnd_mask kS), ↓(challenge_mask kS), ↓(debugRevoke_mask kA kF kN kS kV), ↓(keyImport_mask kB kS kU), ↓(ownCode_mask kA kB kD kF kM kN kS kU kV), ↓(password_mask kA kD kF kM kS), ↓(privileged_mask kA kB kD kF kM kN kS kU kV), ↓(response_mask kA kB kD kF kM kN kS kU kV), ↓(selfTest_mask kA kD kF kM kS kW), ↓(service_mask kB kF kS), ↓(tndAnswer_mask kS), ↓(updActivate_mask kA kB kC kD kE kF kI kS kT), ↓(updBegin_mask kA kD kF kM kP kS kT), ↓(updCmd_mask kS), ↓(updConfirm_mask kA kB kC kD kE kF kG kH kI kJ kK kL kM kN kO kP kQ kR kS kT kU kV kW), ↓(updRevert_mask kA kB kC kD kE kF kG kH kI kJ kK kL kM kN kO kP kQ kR kS kT kU kV kW), ↓(updWrite_mask kA kB kC kD kE kF kG kH kI kJ kK kL kM kN kO kP kQ kR kS kT kU kV kW)]; (repeat' split) <;> first | (simp only [↓apply_ite (State.mask K), ite_self, ↓foldl_mask, implies_true, ↓apply_ite Prod.snd, ↓apply_ite Prod.fst, ↓(setTnd_mask kS), ↓(challenge_mask kS), ↓(debugRevoke_mask kA kF kN kS kV), ↓(keyImport_mask kB kS kU), ↓(ownCode_mask kA kB kD kF kM kN kS kU kV), ↓(password_mask kA kD kF kM kS), ↓(privileged_mask kA kB kD kF kM kN kS kU kV), ↓(response_mask kA kB kD kF kM kN kS kU kV), ↓(selfTest_mask kA kD kF kM kS kW), ↓(service_mask kB kF kS), ↓(tndAnswer_mask kS), ↓(updActivate_mask kA kB kC kD kE kF kI kS kT), ↓(updBegin_mask kA kD kF kM kP kS kT), ↓(updCmd_mask kS), ↓(updConfirm_mask kA kB kC kD kE kF kG kH kI kJ kK kL kM kN kO kP kQ kR kS kT kU kV kW), ↓(updRevert_mask kA kB kC kD kE kF kG kH kI kJ kK kL kM kN kO kP kQ kR kS kT kU kV kW), ↓(updWrite_mask kA kB kC kD kE kF kG kH kI kJ kK kL kM kN kO kP kQ kR kS kT kU kV kW)]; done) | rfl | grind [setTnd_mask, challenge_mask, debugRevoke_mask, keyImport_mask, ownCode_mask, password_mask, privileged_mask, response_mask, selfTest_mask, service_mask, tndAnswer_mask, updActivate_mask, updBegin_mask, updCmd_mask, updConfirm_mask, updRevert_mask, updWrite_mask]) | rfl | grind [setTnd_mask, challenge_mask, debugRevoke_mask, keyImport_mask, ownCode_mask, password_mask, privileged_mask, response_mask, selfTest_mask, service_mask, tndAnswer_mask, updActivate_mask, updBegin_mask, updCmd_mask, updConfirm_mask, updRevert_mask, updWrite_mask]

theorem serveNext_mask {K : Parts} (kA : K.regs) (kB : K.mem) (kC : K.resp) (kD : K.sys) (kE : K.emb) (kF : K.fab) (kG : K.afe) (kH :
    K.hk) (kI : K.whl) (kJ : K.pwm) (kK : K.cnv) (kL : K.fly) (kM : K.kln) (kN : K.spx) (kO : K.sup) (kP : K.act) (kQ : K.thm) (kR : K.chg) (kS : K.tnd) (kT : K.upd) (kU : K.bus) (kV : K.xcp) (kW : K.olt) (first : Nat) (s : State) :
    (serveNext first s).mask K = s.mask K := by
  simp only [serveNext, ↓apply_ite (State.mask K), ite_self, ↓foldl_mask, implies_true, ↓(setTnd_mask kS), ↓(runCommand_mask kA kB kC kD kE kF kG kH kI kJ kK kL kM kN kO kP kQ kR kS kT kU kV kW)]; (repeat' split) <;> first | (simp only [↓apply_ite (State.mask K), ite_self, ↓foldl_mask, implies_true, ↓(setTnd_mask kS), ↓(runCommand_mask kA kB kC kD kE kF kG kH kI kJ kK kL kM kN kO kP kQ kR kS kT kU kV kW)]; done) | (simp only [↓apply_ite (State.mask K), ite_self, ↓foldl_mask, implies_true, ↓(setTnd_mask kS), ↓(runCommand_mask kA kB kC kD kE kF kG kH kI kJ kK kL kM kN kO kP kQ kR kS kT kU kV kW)]; (repeat' split) <;> first | (simp only [↓apply_ite (State.mask K), ite_self, ↓foldl_mask, implies_true, ↓(setTnd_mask kS), ↓(runCommand_mask kA kB kC kD kE kF kG kH kI kJ kK kL kM kN kO kP kQ kR kS kT kU kV kW)]; done) | rfl | grind [setTnd_mask, runCommand_mask]) | rfl | grind [setTnd_mask, runCommand_mask]

theorem tndWrite_mask {K : Parts} (kA : K.regs) (kB : K.mem) (kC : K.resp) (kD : K.sys) (kE : K.emb) (kF : K.fab) (kG : K.afe) (kH :
    K.hk) (kI : K.whl) (kJ : K.pwm) (kK : K.cnv) (kL : K.fly) (kM : K.kln) (kN : K.spx) (kO : K.sup) (kP : K.act) (kQ : K.thm) (kR : K.chg) (kS : K.tnd) (kT : K.upd) (kU : K.bus) (kV : K.xcp) (kW : K.olt) (m : Master) (mb : Nat) (c : TndCommand) (s : State) :
    (tndWrite m mb c s).mask K = s.mask K := by
  simp only [tndWrite, ↓apply_ite (State.mask K), ite_self, ↓foldl_mask, implies_true, ↓(answer_mask kC), ↓(set_mask kA), ↓(setTnd_mask kS), ↓(busError_mask kC), ↓(serveNext_mask kA kB kC kD kE kF kG kH kI kJ kK kL kM kN kO kP kQ kR kS kT kU kV kW)]

theorem tndCommit_mask {K : Parts} (kA : K.regs) (kB : K.mem) (kC : K.resp) (kD : K.sys) (kE : K.emb) (kF : K.fab) (kG : K.afe) (kH :
    K.hk) (kI : K.whl) (kJ : K.pwm) (kK : K.cnv) (kL : K.fly) (kM : K.kln) (kN : K.spx) (kO : K.sup) (kP : K.act) (kQ : K.thm) (kR : K.chg) (kS : K.tnd) (kT : K.upd) (kU : K.bus) (kV : K.xcp) (kW : K.olt) (m : Master) (mb : Nat) (c : TndCommand) (s : State) {s' : State} (hr : tndCommit m mb c s = .next s') :
    s'.mask K = s.mask K := by
  unfold tndCommit at hr
  injection hr with hr; subst hr; simp only [↓apply_ite (State.mask K), ite_self, ↓foldl_mask, implies_true, ↓(tndWrite_mask kA kB kC kD kE kF kG kH kI kJ kK kL kM kN kO kP kQ kR kS kT kU kV kW)]

theorem execGetInfo_mask {K : Parts} (kA : K.regs) (kB : K.mem) (kC : K.resp) (kD : K.sys) (kE : K.emb) (kF : K.fab) (kG : K.afe) (kH :
    K.hk) (kI : K.whl) (kJ : K.pwm) (kK : K.cnv) (kL : K.fly) (kM : K.kln) (kN : K.spx) (kO : K.sup) (kP : K.act) (kQ : K.thm) (kR : K.chg) (kS : K.tnd) (kT : K.upd) (kU : K.bus) (kV : K.xcp) (kW : K.olt) (m : Master) (mb : Fin 3) (s : State) {s' : State} (hr : execGetInfo m mb s = .next s') :
    s'.mask K = s.mask K := by
  unfold execGetInfo at hr
  exact tndCommit_mask kA kB kC kD kE kF kG kH kI kJ kK kL kM kN kO kP kQ kR kS kT kU kV kW _ _ _ _ hr

theorem execChallenge_mask {K : Parts} (kA : K.regs) (kB : K.mem) (kC : K.resp) (kD : K.sys) (kE : K.emb) (kF : K.fab) (kG : K.afe) (kH :
    K.hk) (kI : K.whl) (kJ : K.pwm) (kK : K.cnv) (kL : K.fly) (kM : K.kln) (kN : K.spx) (kO : K.sup) (kP : K.act) (kQ : K.thm) (kR : K.chg) (kS : K.tnd) (kT : K.upd) (kU : K.bus) (kV : K.xcp) (kW : K.olt) (m : Master) (mb : Fin 3) (purpose : Byte) (lifetime : BitVec 32) (argHash : Nat) (nonce : Nat) (s : State) {s' : State} (hr : execChallenge m mb purpose lifetime argHash nonce s = .next s') :
    s'.mask K = s.mask K := by
  unfold execChallenge at hr
  exact tndCommit_mask kA kB kC kD kE kF kG kH kI kJ kK kL kM kN kO kP kQ kR kS kT kU kV kW _ _ _ _ hr

theorem execResponse_mask {K : Parts} (kA : K.regs) (kB : K.mem) (kC : K.resp) (kD : K.sys) (kE : K.emb) (kF : K.fab) (kG : K.afe) (kH :
    K.hk) (kI : K.whl) (kJ : K.pwm) (kK : K.cnv) (kL : K.fly) (kM : K.kln) (kN : K.spx) (kO : K.sup) (kP : K.act) (kQ : K.thm) (kR : K.chg) (kS : K.tnd) (kT : K.upd) (kU : K.bus) (kV : K.xcp) (kW : K.olt) (m : Master) (mb : Fin 3) (a : AuthIn) (arg : PrivArg) (s : State) {s' : State} (hr : execResponse m mb a arg s = .next s') :
    s'.mask K = s.mask K := by
  unfold execResponse at hr
  exact tndCommit_mask kA kB kC kD kE kF kG kH kI kJ kK kL kM kN kO kP kQ kR kS kT kU kV kW _ _ _ _ hr

theorem execPassword_mask {K : Parts} (kA : K.regs) (kB : K.mem) (kC : K.resp) (kD : K.sys) (kE : K.emb) (kF : K.fab) (kG : K.afe) (kH :
    K.hk) (kI : K.whl) (kJ : K.pwm) (kK : K.cnv) (kL : K.fly) (kM : K.kln) (kN : K.spx) (kO : K.sup) (kP : K.act) (kQ : K.thm) (kR : K.chg) (kS : K.tnd) (kT : K.upd) (kU : K.bus) (kV : K.xcp) (kW : K.olt) (m : Master) (mb : Fin 3) (hash : Nat) (s : State) {s' : State} (hr : execPassword m mb hash s = .next s') :
    s'.mask K = s.mask K := by
  unfold execPassword at hr
  exact tndCommit_mask kA kB kC kD kE kF kG kH kI kJ kK kL kM kN kO kP kQ kR kS kT kU kV kW _ _ _ _ hr

theorem execClose_mask {K : Parts} (kA : K.regs) (kB : K.mem) (kC : K.resp) (kD : K.sys) (kE : K.emb) (kF : K.fab) (kG : K.afe) (kH :
    K.hk) (kI : K.whl) (kJ : K.pwm) (kK : K.cnv) (kL : K.fly) (kM : K.kln) (kN : K.spx) (kO : K.sup) (kP : K.act) (kQ : K.thm) (kR : K.chg) (kS : K.tnd) (kT : K.upd) (kU : K.bus) (kV : K.xcp) (kW : K.olt) (m : Master) (mb : Fin 3) (s : State) {s' : State} (hr : execClose m mb s = .next s') :
    s'.mask K = s.mask K := by
  unfold execClose at hr
  exact tndCommit_mask kA kB kC kD kE kF kG kH kI kJ kK kL kM kN kO kP kQ kR kS kT kU kV kW _ _ _ _ hr

theorem privCommit_mask {K : Parts} (kA : K.regs) (kB : K.mem) (kC : K.resp) (kD : K.sys) (kE : K.emb) (kF : K.fab) (kG : K.afe) (kH :
    K.hk) (kI : K.whl) (kJ : K.pwm) (kK : K.cnv) (kL : K.fly) (kM : K.kln) (kN : K.spx) (kO : K.sup) (kP : K.act) (kQ : K.thm) (kR : K.chg) (kS : K.tnd) (kT : K.upd) (kU : K.bus) (kV : K.xcp) (kW : K.olt) (m : Master) (mb : Nat) (auth : Option AuthIn) (arg : PrivArg) (s : State) {s' : State} (hr : privCommit m mb auth arg s = .next s') :
    s'.mask K = s.mask K := by
  unfold privCommit at hr
  ((repeat' split at hr) <;> first | (injection hr with hr; subst hr; simp only [↓apply_ite (State.mask K), ite_self, ↓foldl_mask, implies_true, ↓apply_ite Prod.snd, ↓apply_ite Prod.fst, ↓(privileged_mask kA kB kD kF kM kN kS kU kV), ↓(response_mask kA kB kD kF kM kN kS kU kV)]; done) | exact tndCommit_mask kA kB kC kD kE kF kG kH kI kJ kK kL kM kN kO kP kQ kR kS kT kU kV kW _ _ _ _ hr)

theorem execPwSet_mask {K : Parts} (kA : K.regs) (kB : K.mem) (kC : K.resp) (kD : K.sys) (kE : K.emb) (kF : K.fab) (kG : K.afe) (kH :
    K.hk) (kI : K.whl) (kJ : K.pwm) (kK : K.cnv) (kL : K.fly) (kM : K.kln) (kN : K.spx) (kO : K.sup) (kP : K.act) (kQ : K.thm) (kR : K.chg) (kS : K.tnd) (kT : K.upd) (kU : K.bus) (kV : K.xcp) (kW : K.olt) (m : Master) (mb : Fin 3) (auth : Option AuthIn) (hash : Nat) (s : State) {s' : State} (hr : execPwSet m mb auth hash s = .next s') :
    s'.mask K = s.mask K := by
  unfold execPwSet at hr
  exact privCommit_mask kA kB kC kD kE kF kG kH kI kJ kK kL kM kN kO kP kQ kR kS kT kU kV kW _ _ _ _ _ hr

theorem execKeyImport_mask {K : Parts} (kA : K.regs) (kB : K.mem) (kC : K.resp) (kD : K.sys) (kE : K.emb) (kF : K.fab) (kG : K.afe) (kH :
    K.hk) (kI : K.whl) (kJ : K.pwm) (kK : K.cnv) (kL : K.fly) (kM : K.kln) (kN : K.spx) (kO : K.sup) (kP : K.act) (kQ : K.thm) (kR : K.chg) (kS : K.tnd) (kT : K.upd) (kU : K.bus) (kV : K.xcp) (kW : K.olt) (m : Master) (mb : Fin 3) (slot : Byte) (key : Nat) (tagOk : Bool) (s : State) {s' : State} (hr : execKeyImport m mb slot key tagOk s = .next s') :
    s'.mask K = s.mask K := by
  unfold execKeyImport at hr
  exact tndCommit_mask kA kB kC kD kE kF kG kH kI kJ kK kL kM kN kO kP kQ kR kS kT kU kV kW _ _ _ _ hr

theorem execFreshSet_mask {K : Parts} (kA : K.regs) (kB : K.mem) (kC : K.resp) (kD : K.sys) (kE : K.emb) (kF : K.fab) (kG : K.afe) (kH :
    K.hk) (kI : K.whl) (kJ : K.pwm) (kK : K.cnv) (kL : K.fly) (kM : K.kln) (kN : K.spx) (kO : K.sup) (kP : K.act) (kQ : K.thm) (kR : K.chg) (kS : K.tnd) (kT : K.upd) (kU : K.bus) (kV : K.xcp) (kW : K.olt) (m : Master) (mb : Fin 3) (auth : Option AuthIn) (dfn : Fin 128) (tx : Bool) (value : BitVec 32) (s : State) {s' : State} (hr : execFreshSet m mb auth dfn tx value s = .next s') :
    s'.mask K = s.mask K := by
  unfold execFreshSet at hr
  exact privCommit_mask kA kB kC kD kE kF kG kH kI kJ kK kL kM kN kO kP kQ kR kS kT kU kV kW _ _ _ _ _ hr

theorem execAesGcm_mask {K : Parts} (kA : K.regs) (kB : K.mem) (kC : K.resp) (kD : K.sys) (kE : K.emb) (kF : K.fab) (kG : K.afe) (kH :
    K.hk) (kI : K.whl) (kJ : K.pwm) (kK : K.cnv) (kL : K.fly) (kM : K.kln) (kN : K.spx) (kO : K.sup) (kP : K.act) (kQ : K.thm) (kR : K.chg) (kS : K.tnd) (kT : K.upd) (kU : K.bus) (kV : K.xcp) (kW : K.olt) (m : Master) (mb : Fin 3) (x : ServiceIn) (s : State) {s' : State} (hr : execAesGcm m mb x s = .next s') :
    s'.mask K = s.mask K := by
  unfold execAesGcm at hr
  exact tndCommit_mask kA kB kC kD kE kF kG kH kI kJ kK kL kM kN kO kP kQ kR kS kT kU kV kW _ _ _ _ hr

theorem execCmac_mask {K : Parts} (kA : K.regs) (kB : K.mem) (kC : K.resp) (kD : K.sys) (kE : K.emb) (kF : K.fab) (kG : K.afe) (kH :
    K.hk) (kI : K.whl) (kJ : K.pwm) (kK : K.cnv) (kL : K.fly) (kM : K.kln) (kN : K.spx) (kO : K.sup) (kP : K.act) (kQ : K.thm) (kR : K.chg) (kS : K.tnd) (kT : K.upd) (kU : K.bus) (kV : K.xcp) (kW : K.olt) (m : Master) (mb : Fin 3) (x : ServiceIn) (s : State) {s' : State} (hr : execCmac m mb x s = .next s') :
    s'.mask K = s.mask K := by
  unfold execCmac at hr
  exact tndCommit_mask kA kB kC kD kE kF kG kH kI kJ kK kL kM kN kO kP kQ kR kS kT kU kV kW _ _ _ _ hr

theorem execHash_mask {K : Parts} (kA : K.regs) (kB : K.mem) (kC : K.resp) (kD : K.sys) (kE : K.emb) (kF : K.fab) (kG : K.afe) (kH :
    K.hk) (kI : K.whl) (kJ : K.pwm) (kK : K.cnv) (kL : K.fly) (kM : K.kln) (kN : K.spx) (kO : K.sup) (kP : K.act) (kQ : K.thm) (kR : K.chg) (kS : K.tnd) (kT : K.upd) (kU : K.bus) (kV : K.xcp) (kW : K.olt) (m : Master) (mb : Fin 3) (x : ServiceIn) (s : State) {s' : State} (hr : execHash m mb x s = .next s') :
    s'.mask K = s.mask K := by
  unfold execHash at hr
  exact tndCommit_mask kA kB kC kD kE kF kG kH kI kJ kK kL kM kN kO kP kQ kR kS kT kU kV kW _ _ _ _ hr

theorem execEcdsaVerify_mask {K : Parts} (kA : K.regs) (kB : K.mem) (kC : K.resp) (kD : K.sys) (kE : K.emb) (kF : K.fab) (kG : K.afe) (kH
    : K.hk) (kI : K.whl) (kJ : K.pwm) (kK : K.cnv) (kL : K.fly) (kM : K.kln) (kN : K.spx) (kO : K.sup) (kP : K.act) (kQ : K.thm) (kR : K.chg) (kS : K.tnd) (kT : K.upd) (kU : K.bus) (kV : K.xcp) (kW : K.olt) (m : Master) (mb : Fin 3) (x : ServiceIn) (s : State) {s' : State} (hr : execEcdsaVerify m mb x s = .next s') :
    s'.mask K = s.mask K := by
  unfold execEcdsaVerify at hr
  exact tndCommit_mask kA kB kC kD kE kF kG kH kI kJ kK kL kM kN kO kP kQ kR kS kT kU kV kW _ _ _ _ hr

theorem execLmsVerify_mask {K : Parts} (kA : K.regs) (kB : K.mem) (kC : K.resp) (kD : K.sys) (kE : K.emb) (kF : K.fab) (kG : K.afe) (kH :
    K.hk) (kI : K.whl) (kJ : K.pwm) (kK : K.cnv) (kL : K.fly) (kM : K.kln) (kN : K.spx) (kO : K.sup) (kP : K.act) (kQ : K.thm) (kR : K.chg) (kS : K.tnd) (kT : K.upd) (kU : K.bus) (kV : K.xcp) (kW : K.olt) (m : Master) (mb : Fin 3) (x : ServiceIn) (s : State) {s' : State} (hr : execLmsVerify m mb x s = .next s') :
    s'.mask K = s.mask K := by
  unfold execLmsVerify at hr
  exact tndCommit_mask kA kB kC kD kE kF kG kH kI kJ kK kL kM kN kO kP kQ kR kS kT kU kV kW _ _ _ _ hr

theorem execRandom_mask {K : Parts} (kA : K.regs) (kB : K.mem) (kC : K.resp) (kD : K.sys) (kE : K.emb) (kF : K.fab) (kG : K.afe) (kH :
    K.hk) (kI : K.whl) (kJ : K.pwm) (kK : K.cnv) (kL : K.fly) (kM : K.kln) (kN : K.spx) (kO : K.sup) (kP : K.act) (kQ : K.thm) (kR : K.chg) (kS : K.tnd) (kT : K.upd) (kU : K.bus) (kV : K.xcp) (kW : K.olt) (m : Master) (mb : Fin 3) (x : ServiceIn) (s : State) {s' : State} (hr : execRandom m mb x s = .next s') :
    s'.mask K = s.mask K := by
  unfold execRandom at hr
  exact tndCommit_mask kA kB kC kD kE kF kG kH kI kJ kK kL kM kN kO kP kQ kR kS kT kU kV kW _ _ _ _ hr

theorem execLcAdvance_mask {K : Parts} (kA : K.regs) (kB : K.mem) (kC : K.resp) (kD : K.sys) (kE : K.emb) (kF : K.fab) (kG : K.afe) (kH :
    K.hk) (kI : K.whl) (kJ : K.pwm) (kK : K.cnv) (kL : K.fly) (kM : K.kln) (kN : K.spx) (kO : K.sup) (kP : K.act) (kQ : K.thm) (kR : K.chg) (kS : K.tnd) (kT : K.upd) (kU : K.bus) (kV : K.xcp) (kW : K.olt) (m : Master) (mb : Fin 3) (auth : Option AuthIn) (target : Fin 5) (copies : Fin 4) (s : State) {s' : State} (hr : execLcAdvance m mb auth target copies s = .next s') :
    s'.mask K = s.mask K := by
  unfold execLcAdvance at hr
  exact privCommit_mask kA kB kC kD kE kF kG kH kI kJ kK kL kM kN kO kP kQ kR kS kT kU kV kW _ _ _ _ _ hr

theorem execSecAdvance_mask {K : Parts} (kA : K.regs) (kB : K.mem) (kC : K.resp) (kD : K.sys) (kE : K.emb) (kF : K.fab) (kG : K.afe) (kH
    : K.hk) (kI : K.whl) (kJ : K.pwm) (kK : K.cnv) (kL : K.fly) (kM : K.kln) (kN : K.spx) (kO : K.sup) (kP : K.act) (kQ : K.thm) (kR : K.chg) (kS : K.tnd) (kT : K.upd) (kU : K.bus) (kV : K.xcp) (kW : K.olt) (m : Master) (mb : Fin 3) (auth : Option AuthIn) (limp : Bool) (value : Fin 257) (s : State) {s' : State} (hr : execSecAdvance m mb auth limp value s = .next s') :
    s'.mask K = s.mask K := by
  unfold execSecAdvance at hr
  exact privCommit_mask kA kB kC kD kE kF kG kH kI kJ kK kL kM kN kO kP kQ kR kS kT kU kV kW _ _ _ _ _ hr

theorem execKeyProvision_mask {K : Parts} (kA : K.regs) (kB : K.mem) (kC : K.resp) (kD : K.sys) (kE : K.emb) (kF : K.fab) (kG : K.afe)
    (kH : K.hk) (kI : K.whl) (kJ : K.pwm) (kK : K.cnv) (kL : K.fly) (kM : K.kln) (kN : K.spx) (kO : K.sup) (kP : K.act) (kQ : K.thm) (kR
      : K.chg) (kS : K.tnd) (kT : K.upd) (kU : K.bus) (kV : K.xcp) (kW : K.olt) (m : Master) (mb : Fin 3) (auth : Option AuthIn) (arg : PrivArg) (s : State) {s' : State} (hr : execKeyProvision m mb auth arg s = .next s') :
    s'.mask K = s.mask K := by
  unfold execKeyProvision at hr
  exact privCommit_mask kA kB kC kD kE kF kG kH kI kJ kK kL kM kN kO kP kQ kR kS kT kU kV kW _ _ _ _ _ hr

theorem execKeyRevoke_mask {K : Parts} (kA : K.regs) (kB : K.mem) (kC : K.resp) (kD : K.sys) (kE : K.emb) (kF : K.fab) (kG : K.afe) (kH :
    K.hk) (kI : K.whl) (kJ : K.pwm) (kK : K.cnv) (kL : K.fly) (kM : K.kln) (kN : K.spx) (kO : K.sup) (kP : K.act) (kQ : K.thm) (kR : K.chg) (kS : K.tnd) (kT : K.upd) (kU : K.bus) (kV : K.xcp) (kW : K.olt) (m : Master) (mb : Fin 3) (auth : Option AuthIn) (slot : Fin 4) (s : State) {s' : State} (hr : execKeyRevoke m mb auth slot s = .next s') :
    s'.mask K = s.mask K := by
  unfold execKeyRevoke at hr
  exact privCommit_mask kA kB kC kD kE kF kG kH kI kJ kK kL kM kN kO kP kQ kR kS kT kU kV kW _ _ _ _ _ hr

theorem execSelfTest_mask {K : Parts} (kA : K.regs) (kB : K.mem) (kC : K.resp) (kD : K.sys) (kE : K.emb) (kF : K.fab) (kG : K.afe) (kH :
    K.hk) (kI : K.whl) (kJ : K.pwm) (kK : K.cnv) (kL : K.fly) (kM : K.kln) (kN : K.spx) (kO : K.sup) (kP : K.act) (kQ : K.thm) (kR : K.chg) (kS : K.tnd) (kT : K.upd) (kU : K.bus) (kV : K.xcp) (kW : K.olt) (m : Master) (mb : Fin 3) (ok : Bool) (s : State) {s' : State} (hr : execSelfTest m mb ok s = .next s') :
    s'.mask K = s.mask K := by
  unfold execSelfTest at hr
  exact tndCommit_mask kA kB kC kD kE kF kG kH kI kJ kK kL kM kN kO kP kQ kR kS kT kU kV kW _ _ _ _ hr

theorem execTndBadCommand_mask {K : Parts} (kA : K.regs) (kB : K.mem) (kC : K.resp) (kD : K.sys) (kE : K.emb) (kF : K.fab) (kG : K.afe)
    (kH : K.hk) (kI : K.whl) (kJ : K.pwm) (kK : K.cnv) (kL : K.fly) (kM : K.kln) (kN : K.spx) (kO : K.sup) (kP : K.act) (kQ : K.thm) (kR
      : K.chg) (kS : K.tnd) (kT : K.upd) (kU : K.bus) (kV : K.xcp) (kW : K.olt) (m : Master) (mb : Fin 3) (code : Byte) (s : State) {s' : State} (hr : execTndBadCommand m mb code s = .next s') :
    s'.mask K = s.mask K := by
  unfold execTndBadCommand at hr
  exact tndCommit_mask kA kB kC kD kE kF kG kH kI kJ kK kL kM kN kO kP kQ kR kS kT kU kV kW _ _ _ _ hr

theorem dataOut_mask {K : Parts} (kA : K.regs) (mb : Nat) (out : List Byte) (s : State) :
    (dataOut mb out s).mask K = s.mask K := by
  simp only [dataOut, ↓apply_ite (State.mask K), ite_self, ↓foldl_mask, implies_true, ↓(set_mask kA)]

theorem execTndCommandDone_mask {K : Parts} (kA : K.regs) (kB : K.mem) (kC : K.resp) (kD : K.sys) (kE : K.emb) (kF : K.fab) (kG : K.afe)
    (kH : K.hk) (kI : K.whl) (kJ : K.pwm) (kK : K.cnv) (kL : K.fly) (kM : K.kln) (kN : K.spx) (kO : K.sup) (kP : K.act) (kQ : K.thm) (kR
      : K.chg) (kS : K.tnd) (kT : K.upd) (kU : K.bus) (kV : K.xcp) (kW : K.olt) (s : State) {s' : State} (hr : execTndCommandDone s = .next s') :
    s'.mask K = s.mask K := by
  unfold execTndCommandDone at hr
  injection hr with hr; subst hr; simp only [↓apply_ite (State.mask K), ite_self, ↓foldl_mask, implies_true, ↓(set_mask kA), ↓(setTnd_mask kS), ↓(dataOut_mask kA), ↓(raise_mask kA kF), ↓(selfTestEnd_mask kA kF kW), ↓(serveNext_mask kA kB kC kD kE kF kG kH kI kJ kK kL kM kN kO kP kQ kR kS kT kU kV kW)]; (repeat' split) <;> first | (simp only [↓apply_ite (State.mask K), ite_self, ↓foldl_mask, implies_true, ↓(set_mask kA), ↓(setTnd_mask kS), ↓(dataOut_mask kA), ↓(raise_mask kA kF), ↓(selfTestEnd_mask kA kF kW), ↓(serveNext_mask kA kB kC kD kE kF kG kH kI kJ kK kL kM kN kO kP kQ kR kS kT kU kV kW)]; done) | (simp only [↓apply_ite (State.mask K), ite_self, ↓foldl_mask, implies_true, ↓(set_mask kA), ↓(setTnd_mask kS), ↓(dataOut_mask kA), ↓(raise_mask kA kF), ↓(selfTestEnd_mask kA kF kW), ↓(serveNext_mask kA kB kC kD kE kF kG kH kI kJ kK kL kM kN kO kP kQ kR kS kT kU kV kW)]; (repeat' split) <;> first | (simp only [↓apply_ite (State.mask K), ite_self, ↓foldl_mask, implies_true, ↓(set_mask kA), ↓(setTnd_mask kS), ↓(dataOut_mask kA), ↓(raise_mask kA kF), ↓(selfTestEnd_mask kA kF kW), ↓(serveNext_mask kA kB kC kD kE kF kG kH kI kJ kK kL kM kN kO kP kQ kR kS kT kU kV kW)]; done) | rfl | grind [set_mask, setTnd_mask, dataOut_mask, raise_mask, selfTestEnd_mask, serveNext_mask]) | rfl | grind [set_mask, setTnd_mask, dataOut_mask, raise_mask, selfTestEnd_mask, serveNext_mask]

theorem execChallengeExpiry_mask {K : Parts} (kS : K.tnd) (mb : Fin 3) (s : State) {s' : State} (hr : execChallengeExpiry mb s = .next s') :
    s'.mask K = s.mask K := by
  unfold execChallengeExpiry at hr
  injection hr with hr; subst hr; simp only [↓apply_ite (State.mask K), ite_self, ↓foldl_mask, implies_true, ↓(setTnd_mask kS)]

theorem execChallengeLockoutEnd_mask {K : Parts} (kS : K.tnd) (mb : Fin 3) (s : State) {s' : State} (hr : execChallengeLockoutEnd mb s =
    .next s') :
    s'.mask K = s.mask K := by
  unfold execChallengeLockoutEnd at hr
  injection hr with hr; subst hr; simp only [↓apply_ite (State.mask K), ite_self, ↓foldl_mask, implies_true, ↓(setTnd_mask kS)]

theorem execHealthTestFail_mask {K : Parts} (kA : K.regs) (kD : K.sys) (kF : K.fab) (kM : K.kln) (kS : K.tnd) (s : State) {s' : State}
    (hr : execHealthTestFail s = .next s') :
    s'.mask K = s.mask K := by
  unfold execHealthTestFail at hr
  injection hr with hr; subst hr; simp only [↓apply_ite (State.mask K), ite_self, ↓foldl_mask, implies_true, ↓(setTnd_mask kS), ↓(tndFault_mask kA kD kF kM)]

theorem execUpdBegin_mask {K : Parts} (kA : K.regs) (kB : K.mem) (kC : K.resp) (kD : K.sys) (kE : K.emb) (kF : K.fab) (kG : K.afe) (kH :
    K.hk) (kI : K.whl) (kJ : K.pwm) (kK : K.cnv) (kL : K.fly) (kM : K.kln) (kN : K.spx) (kO : K.sup) (kP : K.act) (kQ : K.thm) (kR : K.chg) (kS : K.tnd) (kT : K.upd) (kU : K.bus) (kV : K.xcp) (kW : K.olt) (m : Master) (mb : Fin 3) (x : Manifest) (s : State) {s' : State} (hr : execUpdBegin m mb x s = .next s') :
    s'.mask K = s.mask K := by
  unfold execUpdBegin at hr
  exact tndCommit_mask kA kB kC kD kE kF kG kH kI kJ kK kL kM kN kO kP kQ kR kS kT kU kV kW _ _ _ _ hr

theorem execUpdWrite_mask {K : Parts} (kA : K.regs) (kB : K.mem) (kC : K.resp) (kD : K.sys) (kE : K.emb) (kF : K.fab) (kG : K.afe) (kH :
    K.hk) (kI : K.whl) (kJ : K.pwm) (kK : K.cnv) (kL : K.fly) (kM : K.kln) (kN : K.spx) (kO : K.sup) (kP : K.act) (kQ : K.thm) (kR : K.chg) (kS : K.tnd) (kT : K.upd) (kU : K.bus) (kV : K.xcp) (kW : K.olt) (m : Master) (mb : Fin 3) (s : State) {s' : State} (hr : execUpdWrite m mb s = .next s') :
    s'.mask K = s.mask K := by
  unfold execUpdWrite at hr
  exact tndCommit_mask kA kB kC kD kE kF kG kH kI kJ kK kL kM kN kO kP kQ kR kS kT kU kV kW _ _ _ _ hr

theorem execUpdActivate_mask {K : Parts} (kA : K.regs) (kB : K.mem) (kC : K.resp) (kD : K.sys) (kE : K.emb) (kF : K.fab) (kG : K.afe) (kH
    : K.hk) (kI : K.whl) (kJ : K.pwm) (kK : K.cnv) (kL : K.fly) (kM : K.kln) (kN : K.spx) (kO : K.sup) (kP : K.act) (kQ : K.thm) (kR : K.chg) (kS : K.tnd) (kT : K.upd) (kU : K.bus) (kV : K.xcp) (kW : K.olt) (m : Master) (mb : Fin 3) (s : State) {s' : State} (hr : execUpdActivate m mb s = .next s') :
    s'.mask K = s.mask K := by
  unfold execUpdActivate at hr
  exact tndCommit_mask kA kB kC kD kE kF kG kH kI kJ kK kL kM kN kO kP kQ kR kS kT kU kV kW _ _ _ _ hr

theorem execUpdConfirm_mask {K : Parts} (kA : K.regs) (kB : K.mem) (kC : K.resp) (kD : K.sys) (kE : K.emb) (kF : K.fab) (kG : K.afe) (kH
    : K.hk) (kI : K.whl) (kJ : K.pwm) (kK : K.cnv) (kL : K.fly) (kM : K.kln) (kN : K.spx) (kO : K.sup) (kP : K.act) (kQ : K.thm) (kR : K.chg) (kS : K.tnd) (kT : K.upd) (kU : K.bus) (kV : K.xcp) (kW : K.olt) (m : Master) (mb : Fin 3) (advance : Bool) (s : State) {s' : State} (hr : execUpdConfirm m mb advance s = .next s') :
    s'.mask K = s.mask K := by
  unfold execUpdConfirm at hr
  exact tndCommit_mask kA kB kC kD kE kF kG kH kI kJ kK kL kM kN kO kP kQ kR kS kT kU kV kW _ _ _ _ hr

theorem execUpdRevert_mask {K : Parts} (kA : K.regs) (kB : K.mem) (kC : K.resp) (kD : K.sys) (kE : K.emb) (kF : K.fab) (kG : K.afe) (kH :
    K.hk) (kI : K.whl) (kJ : K.pwm) (kK : K.cnv) (kL : K.fly) (kM : K.kln) (kN : K.spx) (kO : K.sup) (kP : K.act) (kQ : K.thm) (kR : K.chg) (kS : K.tnd) (kT : K.upd) (kU : K.bus) (kV : K.xcp) (kW : K.olt) (m : Master) (mb : Fin 3) (s : State) {s' : State} (hr : execUpdRevert m mb s = .next s') :
    s'.mask K = s.mask K := by
  unfold execUpdRevert at hr
  exact tndCommit_mask kA kB kC kD kE kF kG kH kI kJ kK kL kM kN kO kP kQ kR kS kT kU kV kW _ _ _ _ hr

theorem execUpdStatus_mask {K : Parts} (kA : K.regs) (kB : K.mem) (kC : K.resp) (kD : K.sys) (kE : K.emb) (kF : K.fab) (kG : K.afe) (kH :
    K.hk) (kI : K.whl) (kJ : K.pwm) (kK : K.cnv) (kL : K.fly) (kM : K.kln) (kN : K.spx) (kO : K.sup) (kP : K.act) (kQ : K.thm) (kR : K.chg) (kS : K.tnd) (kT : K.upd) (kU : K.bus) (kV : K.xcp) (kW : K.olt) (m : Master) (mb : Fin 3) (s : State) {s' : State} (hr : execUpdStatus m mb s = .next s') :
    s'.mask K = s.mask K := by
  unfold execUpdStatus at hr
  exact tndCommit_mask kA kB kC kD kE kF kG kH kI kJ kK kL kM kN kO kP kQ kR kS kT kU kV kW _ _ _ _ hr

theorem execProbationDeadline_mask {K : Parts} (kA : K.regs) (kB : K.mem) (kC : K.resp) (kD : K.sys) (kE : K.emb) (kF : K.fab) (kG :
    K.afe) (kH : K.hk) (kI : K.whl) (kJ : K.pwm) (kK : K.cnv) (kL : K.fly) (kM : K.kln) (kN : K.spx) (kO : K.sup) (kP : K.act) (kQ : K.thm) (kR : K.chg) (kS : K.tnd) (kT : K.upd) (kU : K.bus) (kV : K.xcp) (kW : K.olt) (s : State) {s' : State} (hr : execProbationDeadline s = .next s') :
    s'.mask K = s.mask K := by
  unfold execProbationDeadline at hr
  injection hr with hr; subst hr; simp only [↓apply_ite (State.mask K), ite_self, ↓foldl_mask, implies_true, ↓(probationDeadline_mask kA kB kC kD kE kF kG kH kI kJ kK kL kM kN kO kP kQ kR kS kT kU kV kW)]

theorem execSpxHandoverDisarm_mask {K : Parts} (kA : K.regs) (p : Fin 2) (s : State) {s' : State} (hr : execSpxHandoverDisarm p s = .next
    s') :
    s'.mask K = s.mask K := by
  unfold execSpxHandoverDisarm at hr
  injection hr with hr; subst hr; simp only [↓apply_ite (State.mask K), ite_self, ↓foldl_mask, implies_true, ↓(spxDisarm_mask kA)]

theorem execSpxTcmLoadDone_mask {K : Parts} (kB : K.mem) (kF : K.fab) (kT : K.upd) (p : Fin 2) (s : State) {s' : State} (hr :
    execSpxTcmLoadDone p s = .next s') :
    s'.mask K = s.mask K := by
  unfold execSpxTcmLoadDone at hr
  injection hr with hr; subst hr; simp only [↓apply_ite (State.mask K), ite_self, ↓foldl_mask, implies_true, ↓(tcmLoadDone_mask kB kF kT)]

theorem execMigrationTimeout_mask {K : Parts} (kA : K.regs) (kD : K.sys) (kM : K.kln) (kN : K.spx) (kO : K.sup) (kR : K.chg) (kS : K.tnd)
    (kT : K.upd) (kV : K.xcp) (p : Fin 2) (s : State) {s' : State} (hr : execMigrationTimeout p s = .next s') :
    s'.mask K = s.mask K := by
  unfold execMigrationTimeout at hr
  injection hr with hr; subst hr; simp only [↓apply_ite (State.mask K), ite_self, ↓foldl_mask, implies_true, ↓(migrationTimeout_mask kA kD kM kN kO kR kS kT kV)]

theorem execFlashOperationDone_mask {K : Parts} (kA : K.regs) (kB : K.mem) (kC : K.resp) (kD : K.sys) (kE : K.emb) (kF : K.fab) (kG :
    K.afe) (kH : K.hk) (kI : K.whl) (kJ : K.pwm) (kK : K.cnv) (kL : K.fly) (kM : K.kln) (kN : K.spx) (kO : K.sup) (kP : K.act) (kQ : K.thm) (kR : K.chg) (kS : K.tnd) (kT : K.upd) (kU : K.bus) (kV : K.xcp) (kW : K.olt) (readOk : Bool) (s : State) {s' : State} (hr : execFlashOperationDone readOk s = .next s') :
    s'.mask K = s.mask K := by
  unfold execFlashOperationDone at hr
  injection hr with hr; subst hr; simp only [↓apply_ite (State.mask K), ite_self, ↓foldl_mask, implies_true, ↓(flashDone_mask kA kB kC kD kE kF kG kH kI kJ kK kL kM kN kO kP kQ kR kS kT kU kV kW)]

theorem clkFault_mask {K : Parts} (kA : K.regs) (kD : K.sys) (kM : K.kln) (code : Nat) (s : State) :
    (clkFault code s).mask K = s.mask K := by
  simp only [clkFault, ↓apply_ite (State.mask K), ite_self, ↓foldl_mask, implies_true, ↓(set_mask kA), ↓(issue_mask kD kM)]

theorem execXinLoss_mask {K : Parts} (kA : K.regs) (kD : K.sys) (kF : K.fab) (kM : K.kln) (s : State) {s' : State} (hr : execXinLoss s =
    .next s') :
    s'.mask K = s.mask K := by
  unfold execXinLoss at hr
  injection hr with hr; subst hr; simp only [↓apply_ite (State.mask K), ite_self, ↓foldl_mask, implies_true, ↓(set_mask kA), ↓(clkFault_mask kA kD kM), ↓(raise_mask kA kF)]

theorem pllUnlock_mask {K : Parts} (kA : K.regs) (kD : K.sys) (kF : K.fab) (kM : K.kln) (p : Nat) (s : State) :
    (pllUnlock p s).mask K = s.mask K := by
  simp only [pllUnlock, ↓apply_ite (State.mask K), ite_self, ↓foldl_mask, implies_true, ↓(setBit_mask kA), ↓(clkFault_mask kA kD kM), ↓(raise_mask kA kF)]

theorem execPllUnlock_mask {K : Parts} (kA : K.regs) (kD : K.sys) (kF : K.fab) (kM : K.kln) (pll : Fin 4) (s : State) {s' : State} (hr :
    execPllUnlock pll s = .next s') :
    s'.mask K = s.mask K := by
  unfold execPllUnlock at hr
  injection hr with hr; subst hr; simp only [↓apply_ite (State.mask K), ite_self, ↓foldl_mask, implies_true, ↓(pllUnlock_mask kA kD kF kM)]

theorem execPllFrequencyWindow_mask {K : Parts} (kA : K.regs) (kD : K.sys) (kF : K.fab) (kM : K.kln) (pll : Fin 4) (count : Nat) (s :
    State) {s' : State} (hr : execPllFrequencyWindow pll count s = .next s') :
    s'.mask K = s.mask K := by
  unfold execPllFrequencyWindow at hr
  injection hr with hr; subst hr; simp only [↓apply_ite (State.mask K), ite_self, ↓foldl_mask, implies_true, mask_fab kF, ↓(setBit_mask kA), ↓(clkFault_mask kA kD kM), ↓(raise_mask kA kF)]

theorem execTokenPeriodCheck_mask {K : Parts} (kA : K.regs) (kD : K.sys) (kF : K.fab) (kM : K.kln) (period : BitVec 16) (s : State) {s' :
    State} (hr : execTokenPeriodCheck period s = .next s') :
    s'.mask K = s.mask K := by
  unfold execTokenPeriodCheck at hr
  injection hr with hr; subst hr; simp only [↓apply_ite (State.mask K), ite_self, ↓foldl_mask, implies_true, ↓(set_mask kA), ↓(clkFault_mask kA kD kM), ↓(raise_mask kA kF)]

theorem relock_mask {K : Parts} (kA : K.regs) (kF : K.fab) (kW : K.olt) (mask : Nat) (s : State) :
    (relock mask s).mask K = s.mask K := by
  simp only [relock, ↓apply_ite (State.mask K), ite_self, ↓foldl_mask, implies_true, mask_fab kF, ↓(set_mask kA), ↓(oltBegin_mask kA kW)]

theorem execPllRelock_mask {K : Parts} (kA : K.regs) (kC : K.resp) (kF : K.fab) (kW : K.olt) (m : Master) (mask : BitVec 4) (s : State)
    {s' : State} (hr : execPllRelock m mask s = .next s') :
    s'.mask K = s.mask K := by
  unfold execPllRelock at hr
  injection hr with hr; subst hr; simp only [↓apply_ite (State.mask K), ite_self, ↓foldl_mask, implies_true, ↓(answer_mask kC), ↓(busError_mask kC), ↓(relock_mask kA kF kW)]

theorem execPllRelockDone_mask {K : Parts} (kA : K.regs) (kD : K.sys) (kF : K.fab) (kM : K.kln) (kW : K.olt) (pll : Fin 4) (ok : Bool) (s
    : State) {s' : State} (hr : execPllRelockDone pll ok s = .next s') :
    s'.mask K = s.mask K := by
  unfold execPllRelockDone at hr
  injection hr with hr; subst hr; simp only [↓apply_ite (State.mask K), ite_self, ↓foldl_mask, implies_true, mask_fab kF, ↓(set_mask kA), ↓(oltEnd_mask kA kF kW), ↓(pllUnlock_mask kA kD kF kM)]

theorem execCrossingStale_mask {K : Parts} (kA : K.regs) (kD : K.sys) (kF : K.fab) (kJ : K.pwm) (kK : K.cnv) (kL : K.fly) (kM : K.kln)
    (kP : K.act) (src : ClockSrc) (s : State) {s' : State} (hr : execCrossingStale src s = .next s') :
    s'.mask K = s.mask K := by
  unfold execCrossingStale at hr
  injection hr with hr; subst hr; simp only [↓apply_ite (State.mask K), ite_self, ↓foldl_mask, implies_true, ↓(setBit_mask kA), ↓(issue_mask kD kM), ↓(raise_mask kA kF), ↓(staleSrc_mask kA kD kF kJ kK kL kM kP)]

theorem execCrossingRecovered_mask {K : Parts} (kA : K.regs) (src : ClockSrc) (s : State) {s' : State} (hr : execCrossingRecovered src s
    = .next s') :
    s'.mask K = s.mask K := by
  unfold execCrossingRecovered at hr
  injection hr with hr; subst hr; simp only [↓apply_ite (State.mask K), ite_self, ↓foldl_mask, implies_true, ↓(set_mask kA), ↓(setBit_mask kA)]

theorem tsLoRead_mask {K : Parts} (kA : K.regs) (kC : K.resp) (s : State) :
    (tsLoRead s).mask K = s.mask K := by
  simp only [tsLoRead, ↓apply_ite (State.mask K), ite_self, ↓foldl_mask, implies_true, ↓(answer_mask kC), ↓(set_mask kA)]

theorem execTsLoRead_mask {K : Parts} (kA : K.regs) (kC : K.resp) (m : Master) (s : State) {s' : State} (hr : execTsLoRead m s = .next s') :
    s'.mask K = s.mask K := by
  unfold execTsLoRead at hr
  injection hr with hr; subst hr; simp only [↓apply_ite (State.mask K), ite_self, ↓foldl_mask, implies_true, ↓(busError_mask kC), ↓(tsLoRead_mask kA kC)]

theorem execDebugLifetimeExpiry_mask {K : Parts} (kA : K.regs) (kF : K.fab) (kN : K.spx) (kS : K.tnd) (kV : K.xcp) (s : State) {s' :
    State} (hr : execDebugLifetimeExpiry s = .next s') :
    s'.mask K = s.mask K := by
  unfold execDebugLifetimeExpiry at hr
  injection hr with hr; subst hr; simp only [↓apply_ite (State.mask K), ite_self, ↓foldl_mask, implies_true, ↓(debugRevoke_mask kA kF kN kS kV)]

theorem execL2ConditionLoss_mask {K : Parts} (kA : K.regs) (kF : K.fab) (kN : K.spx) (kS : K.tnd) (kV : K.xcp) (s : State) {s' : State}
    (hr : execL2ConditionLoss s = .next s') :
    s'.mask K = s.mask K := by
  unfold execL2ConditionLoss at hr
  injection hr with hr; subst hr; simp only [↓apply_ite (State.mask K), ite_self, ↓foldl_mask, implies_true, ↓(debugRevoke_mask kA kF kN kS kV)]

theorem haltCore_mask {K : Parts} (kA : K.regs) (c : Nat) (v : Bool) (s : State) :
    (haltCore c v s).mask K = s.mask K := by
  simp only [haltCore, ↓apply_ite (State.mask K), ite_self, ↓foldl_mask, implies_true, ↓(setBit_mask kA)]

theorem coreHalt_mask {K : Parts} (kA : K.regs) (kF : K.fab) (kN : K.spx) (c : Nat) (s : State) :
    (coreHalt c s).mask K = s.mask K := by
  simp only [coreHalt, ↓apply_ite (State.mask K), ite_self, ↓foldl_mask, implies_true, ↓(set_mask kA), ↓(setBit_mask kA), ↓(setPair_mask kN), ↓(haltCore_mask kA), ↓(raise_mask kA kF)]; (repeat' split) <;> first | (simp only [↓apply_ite (State.mask K), ite_self, ↓foldl_mask, implies_true, ↓(set_mask kA), ↓(setBit_mask kA), ↓(setPair_mask kN), ↓(haltCore_mask kA), ↓(raise_mask kA kF)]; done) | (simp only [↓apply_ite (State.mask K), ite_self, ↓foldl_mask, implies_true, ↓(set_mask kA), ↓(setBit_mask kA), ↓(setPair_mask kN), ↓(haltCore_mask kA), ↓(raise_mask kA kF)]; (repeat' split) <;> first | (simp only [↓apply_ite (State.mask K), ite_self, ↓foldl_mask, implies_true, ↓(set_mask kA), ↓(setBit_mask kA), ↓(setPair_mask kN), ↓(haltCore_mask kA), ↓(raise_mask kA kF)]; done) | rfl | grind [set_mask, setBit_mask, setPair_mask, haltCore_mask, raise_mask]) | rfl | grind [set_mask, setBit_mask, setPair_mask, haltCore_mask, raise_mask]

theorem coreResume_mask {K : Parts} (kA : K.regs) (kF : K.fab) (kN : K.spx) (c : Nat) (s : State) :
    (coreResume c s).mask K = s.mask K := by
  simp only [coreResume, ↓apply_ite (State.mask K), ite_self, ↓foldl_mask, implies_true, ↓(setBit_mask kA), ↓(raise_mask kA kF), ↓(resumePair_mask kA kN)]

theorem reelHalt_mask {K : Parts} (kA : K.regs) (kF : K.fab) (v : Bool) (s : State) :
    (reelHalt v s).mask K = s.mask K := by
  simp only [reelHalt, ↓apply_ite (State.mask K), ite_self, ↓foldl_mask, implies_true, ↓(setB_mask kA), ↓(raise_mask kA kF)]

theorem execCoreHalt_mask {K : Parts} (kA : K.regs) (kC : K.resp) (kF : K.fab) (kN : K.spx) (m : Master) (core : Fin 4) (s : State) {s' :
    State} (hr : execCoreHalt m core s = .next s') :
    s'.mask K = s.mask K := by
  unfold execCoreHalt at hr
  injection hr with hr; subst hr; simp only [↓apply_ite (State.mask K), ite_self, ↓foldl_mask, implies_true, ↓(answer_mask kC), ↓(busError_mask kC), ↓(coreHalt_mask kA kF kN)]

theorem execCoreResume_mask {K : Parts} (kA : K.regs) (kC : K.resp) (kF : K.fab) (kN : K.spx) (m : Master) (core : Fin 4) (s : State) {s'
    : State} (hr : execCoreResume m core s = .next s') :
    s'.mask K = s.mask K := by
  unfold execCoreResume at hr
  injection hr with hr; subst hr; simp only [↓apply_ite (State.mask K), ite_self, ↓foldl_mask, implies_true, ↓(answer_mask kC), ↓(busError_mask kC), ↓(coreResume_mask kA kF kN)]

theorem execReelHalt_mask {K : Parts} (kA : K.regs) (kC : K.resp) (kF : K.fab) (m : Master) (s : State) {s' : State} (hr : execReelHalt m
    s = .next s') :
    s'.mask K = s.mask K := by
  unfold execReelHalt at hr
  injection hr with hr; subst hr; simp only [↓apply_ite (State.mask K), ite_self, ↓foldl_mask, implies_true, ↓(answer_mask kC), ↓(busError_mask kC), ↓(reelHalt_mask kA kF)]

theorem execReelResume_mask {K : Parts} (kA : K.regs) (kC : K.resp) (kF : K.fab) (m : Master) (s : State) {s' : State} (hr :
    execReelResume m s = .next s') :
    s'.mask K = s.mask K := by
  unfold execReelResume at hr
  injection hr with hr; subst hr; simp only [↓apply_ite (State.mask K), ite_self, ↓foldl_mask, implies_true, ↓(answer_mask kC), ↓(busError_mask kC), ↓(reelHalt_mask kA kF)]

theorem execResyncTimeout_mask {K : Parts} (kA : K.regs) (kD : K.sys) (kF : K.fab) (kM : K.kln) (kN : K.spx) (kO : K.sup) (kR : K.chg)
    (kS : K.tnd) (kT : K.upd) (kV : K.xcp) (p : Fin 2) (s : State) {s' : State} (hr : execResyncTimeout p s = .next s') :
    s'.mask K = s.mask K := by
  unfold execResyncTimeout at hr
  injection hr with hr; subst hr; simp only [↓apply_ite (State.mask K), ite_self, ↓foldl_mask, implies_true, ↓(pairFault_mask kA kD kF kM kN kO kR kS kT kV)]

theorem jtagSelect_mask {K : Parts} (kW : K.olt) (r : Nat) (v : Nat) (s : State) :
    (jtagSelect r v s).mask K = s.mask K := by
  simp only [jtagSelect, ↓apply_ite (State.mask K), ite_self, ↓foldl_mask, implies_true, mask_olt kW]

theorem ballsFree_mask {K : Parts} (kW : K.olt) (s : State) :
    (ballsFree s).mask K = s.mask K := by
  simp only [ballsFree, ↓apply_ite (State.mask K), ite_self, ↓foldl_mask, implies_true, mask_olt kW]

theorem execIdcode_mask {K : Parts} (kW : K.olt) (s : State) {s' : State} (hr : execIdcode s = .next s') :
    s'.mask K = s.mask K := by
  unfold execIdcode at hr
  injection hr with hr; subst hr; simp only [↓apply_ite (State.mask K), ite_self, ↓foldl_mask, implies_true, ↓(ballsFree_mask kW), ↓(jtagSelect_mask kW)]

theorem execBypass_mask {K : Parts} (kW : K.olt) (s : State) {s' : State} (hr : execBypass s = .next s') :
    s'.mask K = s.mask K := by
  unfold execBypass at hr
  injection hr with hr; subst hr; simp only [↓apply_ite (State.mask K), ite_self, ↓foldl_mask, implies_true, ↓(ballsFree_mask kW), ↓(jtagSelect_mask kW)]

theorem execSamplePreload_mask {K : Parts} (kW : K.olt) (s : State) {s' : State} (hr : execSamplePreload s = .next s') :
    s'.mask K = s.mask K := by
  unfold execSamplePreload at hr
  injection hr with hr; subst hr; simp only [↓apply_ite (State.mask K), ite_self, ↓foldl_mask, implies_true, ↓(ballsFree_mask kW), ↓(jtagSelect_mask kW)]

theorem execExtest_mask {K : Parts} (kW : K.olt) (pins : List (Fin 64 × Bool)) (s : State) {s' : State} (hr : execExtest pins s = .next
    s') :
    s'.mask K = s.mask K := by
  unfold execExtest at hr
  injection hr with hr; subst hr; simp only [↓apply_ite (State.mask K), ite_self, ↓foldl_mask, implies_true, mask_olt kW, ↓(jtagSelect_mask kW)]

theorem plyDeliver_mask {K : Parts} (kA : K.regs) (kF : K.fab) (kU : K.bus) (kV : K.xcp) (n : Nat) (s : State) :
    (plyDeliver n s).mask K = s.mask K := by
  simp only [plyDeliver, ↓apply_ite (State.mask K), ite_self, ↓foldl_mask, implies_true, ↓(setBit_mask kA), ↓(daqTrigger_mask kA kF kV), ↓(reelEvent_mask kA kU), ↓(traceEvent_mask kA kF)]

theorem execEventDelivery_mask {K : Parts} (kA : K.regs) (kF : K.fab) (kU : K.bus) (kV : K.xcp) (n : Fin 256) (s : State) {s' : State}
    (hr : execEventDelivery n s = .next s') :
    s'.mask K = s.mask K := by
  unfold execEventDelivery at hr
  injection hr with hr; subst hr; simp only [↓apply_ite (State.mask K), ite_self, ↓foldl_mask, implies_true, ↓(setXing_mask kF), ↓(plyDeliver_mask kA kF kU kV)]

theorem claimRead_mask {K : Parts} (kA : K.regs) (kC : K.resp) (kU : K.bus) (p : Nat) (s : State) :
    (claimRead p s).mask K = s.mask K := by
  simp only [claimRead, ↓apply_ite (State.mask K), ite_self, ↓foldl_mask, implies_true, ↓(answer_mask kC), ↓(setBit_mask kA), ↓(setReel_mask kU)]; (repeat' split) <;> first | (simp only [↓apply_ite (State.mask K), ite_self, ↓foldl_mask, implies_true, ↓(answer_mask kC), ↓(setBit_mask kA), ↓(setReel_mask kU)]; done) | (simp only [↓apply_ite (State.mask K), ite_self, ↓foldl_mask, implies_true, ↓(answer_mask kC), ↓(setBit_mask kA), ↓(setReel_mask kU)]; (repeat' split) <;> first | (simp only [↓apply_ite (State.mask K), ite_self, ↓foldl_mask, implies_true, ↓(answer_mask kC), ↓(setBit_mask kA), ↓(setReel_mask kU)]; done) | rfl | grind [answer_mask, setBit_mask, setReel_mask]) | rfl | grind [answer_mask, setBit_mask, setReel_mask]

theorem execEventClaim_mask {K : Parts} (kA : K.regs) (kC : K.resp) (kU : K.bus) (m : Master) (p : Fin 2) (s : State) {s' : State} (hr :
    execEventClaim m p s = .next s') :
    s'.mask K = s.mask K := by
  unfold execEventClaim at hr
  injection hr with hr; subst hr; simp only [↓apply_ite (State.mask K), ite_self, ↓foldl_mask, implies_true, ↓(busError_mask kC), ↓(claimRead_mask kA kC kU)]

theorem execSignalWrite_mask {K : Parts} (kA : K.regs) (kB : K.mem) (kC : K.resp) (kD : K.sys) (kF : K.fab) (kI : K.whl) (kM : K.kln) (m
    : Master) (k : Fin 131072) (value : Word) (synd : Syndrome) (s : State) {s' : State} (hr : execSignalWrite m k value synd s = .next s') :
    s'.mask K = s.mask K := by
  unfold execSignalWrite at hr
  injection hr with hr; subst hr; simp only [↓apply_ite (State.mask K), ite_self, ↓foldl_mask, implies_true, ↓(busError_mask kC), ↓(sigWrite_mask kA kB kC kD kF kI kM)]

theorem execDaqTimerExpiry_mask {K : Parts} (kA : K.regs) (kF : K.fab) (kV : K.xcp) (c : Fin 16) (s : State) {s' : State} (hr :
    execDaqTimerExpiry c s = .next s') :
    s'.mask K = s.mask K := by
  unfold execDaqTimerExpiry at hr
  injection hr with hr; subst hr; simp only [↓apply_ite (State.mask K), ite_self, ↓foldl_mask, implies_true, ↓(daqTrigger_mask kA kF kV)]

theorem oltRequest_mask {K : Parts} (kA : K.regs) (kC : K.resp) (m : Master) (ok : Bool) (f : State → State) (s : State) (hf : ∀ t,
    (f t).mask K = t.mask K) :
    (oltRequest m ok f s).mask K = s.mask K := by
  simp only [oltRequest, ↓apply_ite (State.mask K), ite_self, ↓foldl_mask, implies_true, ↓(answer_mask kC), ↓(set_mask kA), ↓(busError_mask kC), hf]

theorem logicTest_mask {K : Parts} (kA : K.regs) (kN : K.spx) (kO : K.sup) (kR : K.chg) (kV : K.xcp) (kW : K.olt) (p : Nat) (s : State) :
    (logicTest p s).mask K = s.mask K := by
  simp only [logicTest, ↓apply_ite (State.mask K), ite_self, ↓foldl_mask, implies_true, mask_olt kW, ↓(set_mask kA), ↓(setPair_mask kN), ↓(firmwareLost_mask kO kR kV), ↓(oltBegin_mask kA kW)]

theorem execLogicSelfTest_mask {K : Parts} (kA : K.regs) (kC : K.resp) (kN : K.spx) (kO : K.sup) (kR : K.chg) (kV : K.xcp) (kW : K.olt)
    (m : Master) (p : Fin 2) (s : State) {s' : State} (hr : execLogicSelfTest m p s = .next s') :
    s'.mask K = s.mask K := by
  unfold execLogicSelfTest at hr
  injection hr with hr; subst hr; simp only [↓apply_ite (State.mask K), ite_self, ↓foldl_mask, implies_true, ↓(logicTest_mask kA kN kO kR kV kW), ↓(oltRequest_mask kA kC)]

theorem execSramMarch_mask {K : Parts} (kA : K.regs) (kC : K.resp) (kW : K.olt) (m : Master) (bank : Fin 16) (s : State) {s' : State} (hr
    : execSramMarch m bank s = .next s') :
    s'.mask K = s.mask K := by
  unfold execSramMarch at hr
  injection hr with hr; subst hr; simp only [↓apply_ite (State.mask K), ite_self, ↓foldl_mask, implies_true, ↓(oltBegin_mask kA kW), ↓(oltRequest_mask kA kC)]

theorem execWhorlMarch_mask {K : Parts} (kA : K.regs) (kC : K.resp) (kW : K.olt) (m : Master) (w : Fin 8) (s : State) {s' : State} (hr :
    execWhorlMarch m w s = .next s') :
    s'.mask K = s.mask K := by
  unfold execWhorlMarch at hr
  injection hr with hr; subst hr; simp only [↓apply_ite (State.mask K), ite_self, ↓foldl_mask, implies_true, ↓(oltBegin_mask kA kW), ↓(oltRequest_mask kA kC)]

theorem execOltPllRelock_mask {K : Parts} (kA : K.regs) (kC : K.resp) (kF : K.fab) (kW : K.olt) (m : Master) (pll : Fin 4) (s : State)
    {s' : State} (hr : execOltPllRelock m pll s = .next s') :
    s'.mask K = s.mask K := by
  unfold execOltPllRelock at hr
  injection hr with hr; subst hr; simp only [↓apply_ite (State.mask K), ite_self, ↓foldl_mask, implies_true, ↓(oltRequest_mask kA kC), ↓(relock_mask kA kF kW)]

theorem execOltTinderSelfTest_mask {K : Parts} (kA : K.regs) (kC : K.resp) (kW : K.olt) (m : Master) (ok : Bool) (s : State) {s' : State}
    (hr : execOltTinderSelfTest m ok s = .next s') :
    s'.mask K = s.mask K := by
  unfold execOltTinderSelfTest at hr
  injection hr with hr; subst hr; simp only [↓apply_ite (State.mask K), ite_self, ↓foldl_mask, implies_true, ↓(oltBegin_mask kA kW), ↓(oltRequest_mask kA kC)]

theorem marchFailed_mask {K : Parts} (kD : K.sys) (kF : K.fab) (kM : K.kln) (words : List Nat) (s : State) :
    (marchFailed words s).mask K = s.mask K := by
  simp only [marchFailed, ↓apply_ite (State.mask K), ite_self, ↓foldl_mask, implies_true, ↓(issue_mask kD kM), ↓(poisonWord_mask kF)]

theorem oltDone_mask {K : Parts} (kA : K.regs) (kD : K.sys) (kF : K.fab) (kI : K.whl) (kJ : K.pwm) (kK : K.cnv) (kM : K.kln) (kN : K.spx)
    (kO : K.sup) (kP : K.act) (kR : K.chg) (kS : K.tnd) (kT : K.upd) (kV : K.xcp) (kW : K.olt) (r : OltEnd) (s : State) :
    (oltDone r s).mask K = s.mask K := by
  simp only [oltDone, ↓apply_ite (State.mask K), ite_self, ↓foldl_mask, implies_true, ↓(set_mask kA), ↓(failWhorl_mask kA kD kF kI kJ kK kM kP kS kT), ↓(issue_mask kD kM), ↓(marchFailed_mask kD kF kM), ↓(oltEnd_mask kA kF kW), ↓(pairRestart_mask kA kN kO kR kV), ↓(poisonWord_mask kF), ↓(testFailed_mask kA kD kF kM kS)]; (repeat' split) <;> first | (simp only [↓apply_ite (State.mask K), ite_self, ↓foldl_mask, implies_true, ↓(set_mask kA), ↓(failWhorl_mask kA kD kF kI kJ kK kM kP kS kT), ↓(issue_mask kD kM), ↓(marchFailed_mask kD kF kM), ↓(oltEnd_mask kA kF kW), ↓(pairRestart_mask kA kN kO kR kV), ↓(poisonWord_mask kF), ↓(testFailed_mask kA kD kF kM kS)]; done) | (simp only [↓apply_ite (State.mask K), ite_self, ↓foldl_mask, implies_true, ↓(set_mask kA), ↓(failWhorl_mask kA kD kF kI kJ kK kM kP kS kT), ↓(issue_mask kD kM), ↓(marchFailed_mask kD kF kM), ↓(oltEnd_mask kA kF kW), ↓(pairRestart_mask kA kN kO kR kV), ↓(poisonWord_mask kF), ↓(testFailed_mask kA kD kF kM kS)]; (repeat' split) <;> first | (simp only [↓apply_ite (State.mask K), ite_self, ↓foldl_mask, implies_true, ↓(set_mask kA), ↓(failWhorl_mask kA kD kF kI kJ kK kM kP kS kT), ↓(issue_mask kD kM), ↓(marchFailed_mask kD kF kM), ↓(oltEnd_mask kA kF kW), ↓(pairRestart_mask kA kN kO kR kV), ↓(poisonWord_mask kF), ↓(testFailed_mask kA kD kF kM kS)]; done) | rfl | grind [set_mask, failWhorl_mask, issue_mask, marchFailed_mask, oltEnd_mask, pairRestart_mask, poisonWord_mask, testFailed_mask]) | rfl | grind [set_mask, failWhorl_mask, issue_mask, marchFailed_mask, oltEnd_mask, pairRestart_mask, poisonWord_mask, testFailed_mask]

theorem execOltTestDone_mask {K : Parts} (kA : K.regs) (kD : K.sys) (kF : K.fab) (kI : K.whl) (kJ : K.pwm) (kK : K.cnv) (kM : K.kln) (kN
    : K.spx) (kO : K.sup) (kP : K.act) (kR : K.chg) (kS : K.tnd) (kT : K.upd) (kV : K.xcp) (kW : K.olt) (r : OltEnd) (s : State) {s' : State} (hr : execOltTestDone r s = .next s') :
    s'.mask K = s.mask K := by
  unfold execOltTestDone at hr
  injection hr with hr; subst hr; simp only [↓apply_ite (State.mask K), ite_self, ↓foldl_mask, implies_true, ↓(oltDone_mask kA kD kF kI kJ kK kM kN kO kP kR kS kT kV kW)]

theorem loopbackBegin_mask {K : Parts} (kA : K.regs) (n : Nat) (s : State) :
    (loopbackBegin n s).mask K = s.mask K := by
  simp only [loopbackBegin, ↓apply_ite (State.mask K), ite_self, ↓foldl_mask, implies_true, ↓(setBit_mask kA)]

theorem execCanLoopbackTest_mask {K : Parts} (kA : K.regs) (n : Fin 4) (s : State) {s' : State} (hr : execCanLoopbackTest n s = .next s') :
    s'.mask K = s.mask K := by
  unfold execCanLoopbackTest at hr
  injection hr with hr; subst hr; simp only [↓apply_ite (State.mask K), ite_self, ↓foldl_mask, implies_true, ↓(loopbackBegin_mask kA)]

theorem testRequest_mask {K : Parts} (kA : K.regs) (mask : Nat) (s : State) :
    (testRequest mask s).mask K = s.mask K := by
  simp only [testRequest, ↓apply_ite (State.mask K), ite_self, ↓foldl_mask, implies_true, ↓(set_mask kA), ↓(loopbackBegin_mask kA)]

theorem execCanTestRequest_mask {K : Parts} (kA : K.regs) (kC : K.resp) (m : Master) (mask : BitVec 4) (s : State) {s' : State} (hr :
    execCanTestRequest m mask s = .next s') :
    s'.mask K = s.mask K := by
  unfold execCanTestRequest at hr
  injection hr with hr; subst hr; simp only [↓apply_ite (State.mask K), ite_self, ↓foldl_mask, implies_true, ↓(answer_mask kC), ↓(busError_mask kC), ↓(testRequest_mask kA)]

theorem loopbackEnd_mask {K : Parts} (kA : K.regs) (kD : K.sys) (kF : K.fab) (kM : K.kln) (kU : K.bus) (n : Nat) (ok : Bool) (s : State) :
    (loopbackEnd n ok s).mask K = s.mask K := by
  simp only [loopbackEnd, ↓apply_ite (State.mask K), ite_self, ↓foldl_mask, implies_true, ↓(setBit_mask kA), ↓(setCan_mask kU), ↓(canFail_mask kA kD kF kM kU), ↓(setCanState_mask kA)]

theorem execLoopbackTestEnd_mask {K : Parts} (kA : K.regs) (kD : K.sys) (kF : K.fab) (kM : K.kln) (kU : K.bus) (n : Fin 4) (ok : Bool) (s
    : State) {s' : State} (hr : execLoopbackTestEnd n ok s = .next s') :
    s'.mask K = s.mask K := by
  unfold execLoopbackTestEnd at hr
  injection hr with hr; subst hr; simp only [↓apply_ite (State.mask K), ite_self, ↓foldl_mask, implies_true, ↓(loopbackEnd_mask kA kD kF kM kU)]

theorem sliceResult_mask {K : Parts} (kA : K.regs) (kD : K.sys) (kM : K.kln) (m : Master) (v : Word) (s : State) :
    (sliceResult m v s).mask K = s.mask K := by
  simp only [sliceResult, ↓apply_ite (State.mask K), ite_self, ↓foldl_mask, implies_true, ↓(set_mask kA), ↓(issue_mask kD kM)]

theorem execSwSliceResult_mask {K : Parts} (kA : K.regs) (kC : K.resp) (kD : K.sys) (kM : K.kln) (m : Master) (value : Word) (s : State)
    {s' : State} (hr : execSwSliceResult m value s = .next s') :
    s'.mask K = s.mask K := by
  unfold execSwSliceResult at hr
  injection hr with hr; subst hr; simp only [↓apply_ite (State.mask K), ite_self, ↓foldl_mask, implies_true, ↓(answer_mask kC), ↓(busError_mask kC), ↓(sliceResult_mask kA kD kM)]

theorem codeWrite_mask {K : Parts} (kA : K.regs) (kD : K.sys) (a : Nat) (v : Word) (s : State) :
    (codeWrite a v s).mask K = s.mask K := by
  simp only [codeWrite, ↓apply_ite (State.mask K), ite_self, ↓foldl_mask, implies_true, ↓(wr_mask kA), ↓(plainWrite_mask kA kD)]

theorem codeWriteKeep_mask {K : Parts} (kA : K.regs) (kD : K.sys) (mask : Nat) (a : Nat) (v : Word) (s : State) :
    (codeWriteKeep mask a v s).mask K = s.mask K := by
  simp only [codeWriteKeep, ↓apply_ite (State.mask K), ite_self, ↓foldl_mask, implies_true, ↓(codeWrite_mask kA kD)]

theorem enWrite_mask {K : Parts} (kA : K.regs) (kD : K.sys) (a : Nat) (v : Word) (up : State → State) (down : State → State) (s : State)
    (hup : ∀ t, (up t).mask K = t.mask K) (hdown : ∀ t, (down t).mask K = t.mask K) :
    (enWrite a v up down s).mask K = s.mask K := by
  simp only [enWrite, ↓apply_ite (State.mask K), ite_self, ↓foldl_mask, implies_true, ↓(codeWriteKeep_mask kA kD), hup, hdown]

theorem sysctlWrite_mask {K : Parts} (kA : K.regs) (kB : K.mem) (kC : K.resp) (kD : K.sys) (kF : K.fab) (kG : K.afe) (kH : K.hk) (kI :
    K.whl) (kJ : K.pwm) (kK : K.cnv) (kL : K.fly) (kM : K.kln) (kN : K.spx) (kO : K.sup) (kP : K.act) (kQ : K.thm) (kR : K.chg) (kS : K.tnd) (kT : K.upd) (kU : K.bus) (kV : K.xcp) (kW : K.olt) (m : Master) (x : WriteCtx) (o : Nat) (v : Word) (s : State) :
    (sysctlWrite m x o v s).mask K = s.mask K := by
  simp only [sysctlWrite, ↓apply_ite (State.mask K), ite_self, ↓foldl_mask, implies_true, ↓(answer_mask kC), ↓(setKln_mask kM), ↓(codeWrite_mask kA kD), ↓(modeRequest_mask kA kB kC kD kF kG kH kI kJ kK kL kM kN kO kP kQ kR kS kT kU kV kW)]

theorem clkWrite_mask {K : Parts} (kA : K.regs) (kC : K.resp) (kD : K.sys) (kF : K.fab) (kW : K.olt) (o : Nat) (v : Word) (s : State) :
    (clkWrite o v s).mask K = s.mask K := by
  simp only [clkWrite, ↓apply_ite (State.mask K), ite_self, ↓foldl_mask, implies_true, ↓(answer_mask kC), ↓(codeWrite_mask kA kD), ↓(relock_mask kA kF kW)]

theorem memcWrite_mask {K : Parts} (kA : K.regs) (kC : K.resp) (kD : K.sys) (kF : K.fab) (o : Nat) (v : Word) (s : State) :
    (memcWrite o v s).mask K = s.mask K := by
  simp only [memcWrite, ↓apply_ite (State.mask K), ite_self, ↓foldl_mask, implies_true, ↓(answer_mask kC), ↓(set_mask kA), ↓(setXfer_mask kF), ↓(codeWrite_mask kA kD), ↓(enWrite_mask kA kD)]

theorem tndRegWrite_mask {K : Parts} (kA : K.regs) (kB : K.mem) (kC : K.resp) (kD : K.sys) (kE : K.emb) (kF : K.fab) (kG : K.afe) (kH :
    K.hk) (kI : K.whl) (kJ : K.pwm) (kK : K.cnv) (kL : K.fly) (kM : K.kln) (kN : K.spx) (kO : K.sup) (kP : K.act) (kQ : K.thm) (kR : K.chg) (kS : K.tnd) (kT : K.upd) (kU : K.bus) (kV : K.xcp) (kW : K.olt) (m : Master) (x : WriteCtx) (o : Nat) (v : Word) (s : State) :
    (tndRegWrite m x o v s).mask K = s.mask K := by
  simp only [tndRegWrite, ↓apply_ite (State.mask K), ite_self, ↓foldl_mask, implies_true, ↓(answer_mask kC), ↓(busError_mask kC), ↓(codeWrite_mask kA kD), ↓(tndWrite_mask kA kB kC kD kE kF kG kH kI kJ kK kL kM kN kO kP kQ kR kS kT kU kV kW)]

theorem spxWrite_mask {K : Parts} (kA : K.regs) (kC : K.resp) (kD : K.sys) (kF : K.fab) (kJ : K.pwm) (kM : K.kln) (kP : K.act) (m :
    Master) (x : WriteCtx) (o : Nat) (v : Word) (s : State) :
    (spxWrite m x o v s).mask K = s.mask K := by
  simp only [spxWrite, ↓apply_ite (State.mask K), ite_self, ↓foldl_mask, implies_true, ↓(answer_mask kC), ↓(claimCommit_mask kA kD kF kJ kM kP), ↓(codeWrite_mask kA kD), ↓(hbAnswer_mask kA kM), ↓(kreqWrite_mask kA kD kF kJ kM kP)]; (repeat' split) <;> first | (simp only [↓apply_ite (State.mask K), ite_self, ↓foldl_mask, implies_true, ↓(answer_mask kC), ↓(claimCommit_mask kA kD kF kJ kM kP), ↓(codeWrite_mask kA kD), ↓(hbAnswer_mask kA kM), ↓(kreqWrite_mask kA kD kF kJ kM kP)]; done) | (simp only [↓apply_ite (State.mask K), ite_self, ↓foldl_mask, implies_true, ↓(answer_mask kC), ↓(claimCommit_mask kA kD kF kJ kM kP), ↓(codeWrite_mask kA kD), ↓(hbAnswer_mask kA kM), ↓(kreqWrite_mask kA kD kF kJ kM kP)]; (repeat' split) <;> first | (simp only [↓apply_ite (State.mask K), ite_self, ↓foldl_mask, implies_true, ↓(answer_mask kC), ↓(claimCommit_mask kA kD kF kJ kM kP), ↓(codeWrite_mask kA kD), ↓(hbAnswer_mask kA kM), ↓(kreqWrite_mask kA kD kF kJ kM kP)]; done) | rfl | grind [answer_mask, claimCommit_mask, codeWrite_mask, hbAnswer_mask, kreqWrite_mask]) | rfl | grind [answer_mask, claimCommit_mask, codeWrite_mask, hbAnswer_mask, kreqWrite_mask]

theorem whlWrite_mask {K : Parts} (kA : K.regs) (kB : K.mem) (kC : K.resp) (kD : K.sys) (kF : K.fab) (kI : K.whl) (kJ : K.pwm) (kK :
    K.cnv) (kM : K.kln) (kP : K.act) (kS : K.tnd) (kT : K.upd) (m : Master) (x : WriteCtx) (o : Nat) (v : Word) (s : State) :
    (whlWrite m x o v s).mask K = s.mask K := by
  simp only [whlWrite, ↓apply_ite (State.mask K), ite_self, ↓foldl_mask, implies_true, ↓(answer_mask kC), ↓(codeWrite_mask kA kD), ↓(cqFlush_mask kA kD kF kI kM kS kT), ↓(enWrite_mask kA kD), ↓(handoverWrite_mask kA kC kI), ↓(loopDisable_mask kA kD kF kI kJ kK kM kP), ↓(loopEnable_mask kA kI), ↓(tblCfgWrite_mask kA kB kC kF kI)]

theorem cfgIgn_mask {K : Parts} (kA : K.regs) (k : Option Nat) (s : State) :
    (cfgIgn k s).mask K = s.mask K := by
  simp only [cfgIgn, ↓apply_ite (State.mask K), ite_self, ↓foldl_mask, implies_true, ↓(set_mask kA)]; (repeat' split) <;> first | (simp only [↓apply_ite (State.mask K), ite_self, ↓foldl_mask, implies_true, ↓(set_mask kA)]; done) | (simp only [↓apply_ite (State.mask K), ite_self, ↓foldl_mask, implies_true, ↓(set_mask kA)]; (repeat' split) <;> first | (simp only [↓apply_ite (State.mask K), ite_self, ↓foldl_mask, implies_true, ↓(set_mask kA)]; done) | rfl | grind [set_mask]) | rfl | grind [set_mask]

theorem flyCfg_mask {K : Parts} (kA : K.regs) (kD : K.sys) (en : Bool) (k : Option Nat) (a : Nat) (v : Word) (s : State) :
    (flyCfg en k a v s).mask K = s.mask K := by
  simp only [flyCfg, ↓apply_ite (State.mask K), ite_self, ↓foldl_mask, implies_true, ↓(cfgIgn_mask kA), ↓(codeWrite_mask kA kD), ↓(codeWriteKeep_mask kA kD)]

theorem flyEn_mask {K : Parts} (kA : K.regs) (kD : K.sys) (k : Option Nat) (a : Nat) (v : Word) (up : State → State) (down : State →
    State) (s : State) (hup : ∀ t, (up t).mask K = t.mask K) (hdown : ∀ t, (down t).mask K = t.mask K) :
    (flyEn k a v up down s).mask K = s.mask K := by
  simp only [flyEn, ↓apply_ite (State.mask K), ite_self, ↓foldl_mask, implies_true, ↓(cfgIgn_mask kA), ↓(codeWriteKeep_mask kA kD), ↓(enWrite_mask kA kD), hup, hdown]

theorem flyWrite_mask {K : Parts} (kA : K.regs) (kC : K.resp) (kD : K.sys) (kF : K.fab) (kL : K.fly) (m : Master) (x : WriteCtx) (o :
    Nat) (v : Word) (s : State) :
    (flyWrite m x o v s).mask K = s.mask K := by
  simp only [flyWrite, ↓apply_ite (State.mask K), ite_self, ↓foldl_mask, implies_true, ↓(answer_mask kC), ↓(set_mask kA), ↓(setEmf_mask kL), ↓(cmpWrite_mask kA kF), ↓(codeWrite_mask kA kD), ↓(emuEnable_mask kA kL), ↓(flyCfg_mask kA kD), ↓(flyDisable_mask kA kL), ↓(flyEn_mask kA kD), ↓(machAcq_mask kA kF kL), ↓(srcEnable_mask kA kL), ↓(trkEnable_mask kA kL)]

theorem afeWrite_mask {K : Parts} (kA : K.regs) (kC : K.resp) (kD : K.sys) (o : Nat) (v : Word) (s : State) :
    (afeWrite o v s).mask K = s.mask K := by
  simp only [afeWrite, ↓apply_ite (State.mask K), ite_self, ↓foldl_mask, implies_true, ↓(answer_mask kC), ↓(set_mask kA), ↓(codeWrite_mask kA kD), ↓(drainWindow_mask kA), ↓(enWrite_mask kA kD), ↓(markConflicts_mask kA), ↓(refDisable_mask kA), ↓(sliceCoefWrite_mask kA)]

theorem pwmWrite_mask {K : Parts} (kA : K.regs) (kC : K.resp) (kD : K.sys) (o : Nat) (v : Word) (s : State) :
    (pwmWrite o v s).mask K = s.mask K := by
  simp only [pwmWrite, ↓apply_ite (State.mask K), ite_self, ↓foldl_mask, implies_true, ↓(answer_mask kC), ↓(set_mask kA), ↓(codeWrite_mask kA kD), ↓(enWrite_mask kA kD), ↓(generatorDisable_mask kA)]

theorem gifWrite_mask {K : Parts} (kA : K.regs) (kC : K.resp) (kD : K.sys) (kF : K.fab) (kJ : K.pwm) (kK : K.cnv) (kL : K.fly) (kM :
    K.kln) (kP : K.act) (m : Master) (o : Nat) (v : Word) (s : State) :
    (gifWrite m o v s).mask K = s.mask K := by
  simp only [gifWrite, ↓apply_ite (State.mask K), ite_self, ↓foldl_mask, implies_true, ↓(answer_mask kC), ↓(ascRequest_mask kJ), ↓(codeWrite_mask kA kD), ↓(psetClear_mask kA kD kF kJ kK kL kM kP), ↓(ucgWrite_mask kA kD kF kJ kK kM kP)]; (repeat' split) <;> first | (simp only [↓apply_ite (State.mask K), ite_self, ↓foldl_mask, implies_true, ↓(answer_mask kC), ↓(ascRequest_mask kJ), ↓(codeWrite_mask kA kD), ↓(psetClear_mask kA kD kF kJ kK kL kM kP), ↓(ucgWrite_mask kA kD kF kJ kK kM kP)]; done) | (simp only [↓apply_ite (State.mask K), ite_self, ↓foldl_mask, implies_true, ↓(answer_mask kC), ↓(ascRequest_mask kJ), ↓(codeWrite_mask kA kD), ↓(psetClear_mask kA kD kF kJ kK kL kM kP), ↓(ucgWrite_mask kA kD kF kJ kK kM kP)]; (repeat' split) <;> first | (simp only [↓apply_ite (State.mask K), ite_self, ↓foldl_mask, implies_true, ↓(answer_mask kC), ↓(ascRequest_mask kJ), ↓(codeWrite_mask kA kD), ↓(psetClear_mask kA kD kF kJ kK kL kM kP), ↓(ucgWrite_mask kA kD kF kJ kK kM kP)]; done) | rfl | grind [answer_mask, ascRequest_mask, codeWrite_mask, psetClear_mask, ucgWrite_mask]) | rfl | grind [answer_mask, ascRequest_mask, codeWrite_mask, psetClear_mask, ucgWrite_mask]

theorem actWrite_mask {K : Parts} (kA : K.regs) (kC : K.resp) (kD : K.sys) (kP : K.act) (o : Nat) (v : Word) (s : State) :
    (actWrite o v s).mask K = s.mask K := by
  simp only [actWrite, ↓apply_ite (State.mask K), ite_self, ↓foldl_mask, implies_true, ↓(answer_mask kC), ↓(bridgeModeWrite_mask kA kP), ↓(codeWrite_mask kA kD), ↓(codeWriteKeep_mask kA kD)]

theorem cnvWrite_mask {K : Parts} (kA : K.regs) (kC : K.resp) (kD : K.sys) (kF : K.fab) (kJ : K.pwm) (kK : K.cnv) (kP : K.act) (m :
    Master) (o : Nat) (v : Word) (s : State) :
    (cnvWrite m o v s).mask K = s.mask K := by
  simp only [cnvWrite, ↓apply_ite (State.mask K), ite_self, ↓foldl_mask, implies_true, ↓(answer_mask kC), ↓(set_mask kA), ↓(chClear_mask kA kF), ↓(chDisable_mask kA kF kJ kK kP), ↓(chStart_mask kA kF kJ kK kP), ↓(codeWrite_mask kA kD), ↓(codeWriteKeep_mask kA kD), ↓(stopNow_mask kA kF kJ kK kP), ↓(telClear_mask kA)]; (repeat' split) <;> first | (simp only [↓apply_ite (State.mask K), ite_self, ↓foldl_mask, implies_true, ↓(answer_mask kC), ↓(set_mask kA), ↓(chClear_mask kA kF), ↓(chDisable_mask kA kF kJ kK kP), ↓(chStart_mask kA kF kJ kK kP), ↓(codeWrite_mask kA kD), ↓(codeWriteKeep_mask kA kD), ↓(stopNow_mask kA kF kJ kK kP), ↓(telClear_mask kA)]; done) | (simp only [↓apply_ite (State.mask K), ite_self, ↓foldl_mask, implies_true, ↓(answer_mask kC), ↓(set_mask kA), ↓(chClear_mask kA kF), ↓(chDisable_mask kA kF kJ kK kP), ↓(chStart_mask kA kF kJ kK kP), ↓(codeWrite_mask kA kD), ↓(codeWriteKeep_mask kA kD), ↓(stopNow_mask kA kF kJ kK kP), ↓(telClear_mask kA)]; (repeat' split) <;> first | (simp only [↓apply_ite (State.mask K), ite_self, ↓foldl_mask, implies_true, ↓(answer_mask kC), ↓(set_mask kA), ↓(chClear_mask kA kF), ↓(chDisable_mask kA kF kJ kK kP), ↓(chStart_mask kA kF kJ kK kP), ↓(codeWrite_mask kA kD), ↓(codeWriteKeep_mask kA kD), ↓(stopNow_mask kA kF kJ kK kP), ↓(telClear_mask kA)]; done) | rfl | grind [answer_mask, set_mask, chClear_mask, chDisable_mask, chStart_mask, codeWrite_mask, codeWriteKeep_mask, stopNow_mask, telClear_mask]) | rfl | grind [answer_mask, set_mask, chClear_mask, chDisable_mask, chStart_mask, codeWrite_mask, codeWriteKeep_mask, stopNow_mask, telClear_mask]

theorem chgWrite_mask {K : Parts} (kA : K.regs) (kC : K.resp) (kD : K.sys) (m : Master) (o : Nat) (v : Word) (s : State) :
    (chgWrite m o v s).mask K = s.mask K := by
  simp only [chgWrite, ↓apply_ite (State.mask K), ite_self, ↓foldl_mask, implies_true, ↓(answer_mask kC), ↓(wr_mask kA), ↓(codeWrite_mask kA kD)]

theorem busRegWrite_mask {K : Parts} (kA : K.regs) (kC : K.resp) (kD : K.sys) (kF : K.fab) (kU : K.bus) (m : Master) (o : Nat) (v : Word)
    (s : State) :
    (busRegWrite m o v s).mask K = s.mask K := by
  simp only [busRegWrite, ↓apply_ite (State.mask K), ite_self, ↓foldl_mask, implies_true, ↓(answer_mask kC), ↓(setCan_mask kU), ↓(busError_mask kC), ↓(canDisable_mask kA kF kU), ↓(canEnable_mask kA kF kU), ↓(canFlush_mask kA kU), ↓(codeWrite_mask kA kD), ↓(enWrite_mask kA kD), ↓(txPush_mask kA kC kF kU)]

theorem dbgWrite_mask {K : Parts} (kA : K.regs) (kC : K.resp) (kD : K.sys) (kF : K.fab) (kM : K.kln) (kN : K.spx) (kO : K.sup) (kR :
    K.chg) (kV : K.xcp) (kW : K.olt) (m : Master) (x : WriteCtx) (o : Nat) (v : Word) (s : State) :
    (dbgWrite m x o v s).mask K = s.mask K := by
  simp only [dbgWrite, ↓apply_ite (State.mask K), ite_self, ↓foldl_mask, implies_true, ↓(answer_mask kC), ↓(busError_mask kC), ↓(codeWrite_mask kA kD), ↓(coreHalt_mask kA kF kN), ↓(coreResume_mask kA kF kN), ↓(logicTest_mask kA kN kO kR kV kW), ↓(oltBegin_mask kA kW), ↓(oltRequest_mask kA kC), ↓(reelHalt_mask kA kF), ↓(relock_mask kA kF kW), ↓(sliceResult_mask kA kD kM), ↓(testRequest_mask kA)]; (repeat' split) <;> first | (simp only [↓apply_ite (State.mask K), ite_self, ↓foldl_mask, implies_true, ↓(answer_mask kC), ↓(busError_mask kC), ↓(codeWrite_mask kA kD), ↓(coreHalt_mask kA kF kN), ↓(coreResume_mask kA kF kN), ↓(logicTest_mask kA kN kO kR kV kW), ↓(oltBegin_mask kA kW), ↓(oltRequest_mask kA kC), ↓(reelHalt_mask kA kF), ↓(relock_mask kA kF kW), ↓(sliceResult_mask kA kD kM), ↓(testRequest_mask kA)]; done) | (simp only [↓apply_ite (State.mask K), ite_self, ↓foldl_mask, implies_true, ↓(answer_mask kC), ↓(busError_mask kC), ↓(codeWrite_mask kA kD), ↓(coreHalt_mask kA kF kN), ↓(coreResume_mask kA kF kN), ↓(logicTest_mask kA kN kO kR kV kW), ↓(oltBegin_mask kA kW), ↓(oltRequest_mask kA kC), ↓(reelHalt_mask kA kF), ↓(relock_mask kA kF kW), ↓(sliceResult_mask kA kD kM), ↓(testRequest_mask kA)]; (repeat' split) <;> first | (simp only [↓apply_ite (State.mask K), ite_self, ↓foldl_mask, implies_true, ↓(answer_mask kC), ↓(busError_mask kC), ↓(codeWrite_mask kA kD), ↓(coreHalt_mask kA kF kN), ↓(coreResume_mask kA kF kN), ↓(logicTest_mask kA kN kO kR kV kW), ↓(oltBegin_mask kA kW), ↓(oltRequest_mask kA kC), ↓(reelHalt_mask kA kF), ↓(relock_mask kA kF kW), ↓(sliceResult_mask kA kD kM), ↓(testRequest_mask kA)]; done) | rfl | grind [answer_mask, busError_mask, codeWrite_mask, coreHalt_mask, coreResume_mask, logicTest_mask, oltBegin_mask, oltRequest_mask, reelHalt_mask, relock_mask, sliceResult_mask, testRequest_mask]) | rfl | grind [answer_mask, busError_mask, codeWrite_mask, coreHalt_mask, coreResume_mask, logicTest_mask, oltBegin_mask, oltRequest_mask, reelHalt_mask, relock_mask, sliceResult_mask, testRequest_mask]

theorem embWrite_mask {K : Parts} (kA : K.regs) (kC : K.resp) (kD : K.sys) (kE : K.emb) (m : Master) (o : Nat) (v : Word) (s : State) :
    (embWrite m o v s).mask K = s.mask K := by
  simp only [embWrite, ↓apply_ite (State.mask K), ite_self, ↓foldl_mask, implies_true, ↓(answer_mask kC), ↓(codeWrite_mask kA kD), ↓(refreshArmed_mask kA), ↓(rtcAlarmWrite_mask kA kC kE), ↓(rtcSecWrite_mask kA kC)]

theorem regWrite_mask {K : Parts} (kA : K.regs) (kB : K.mem) (kC : K.resp) (kD : K.sys) (kE : K.emb) (kF : K.fab) (kG : K.afe) (kH :
    K.hk) (kI : K.whl) (kJ : K.pwm) (kK : K.cnv) (kL : K.fly) (kM : K.kln) (kN : K.spx) (kO : K.sup) (kP : K.act) (kQ : K.thm) (kR : K.chg) (kS : K.tnd) (kT : K.upd) (kU : K.bus) (kV : K.xcp) (kW : K.olt) (m : Master) (a : Nat) (size : Nat) (v : Word) (x : WriteCtx) (s : State) :
    (regWrite m a size v x s).mask K = s.mask K := by
  simp only [regWrite, ↓apply_ite (State.mask K), ite_self, ↓foldl_mask, implies_true, ↓(answer_mask kC), ↓(actWrite_mask kA kC kD kP), ↓(afeWrite_mask kA kC kD), ↓(busError_mask kC), ↓(busRegWrite_mask kA kC kD kF kU), ↓(chgWrite_mask kA kC kD), ↓(clkWrite_mask kA kC kD kF kW), ↓(cnvWrite_mask kA kC kD kF kJ kK kP), ↓(codeWrite_mask kA kD), ↓(dbgWrite_mask kA kC kD kF kM kN kO kR kV kW), ↓(embWrite_mask kA kC kD kE), ↓(flyWrite_mask kA kC kD kF kL), ↓(gifWrite_mask kA kC kD kF kJ kK kL kM kP), ↓(memWrite_mask kA kB kC kD kF kM), ↓(memcWrite_mask kA kC kD kF), ↓(pwmWrite_mask kA kC kD), ↓(spxWrite_mask kA kC kD kF kJ kM kP), ↓(sysctlWrite_mask kA kB kC kD kF kG kH kI kJ kK kL kM kN kO kP kQ kR kS kT kU kV kW), ↓(tndRegWrite_mask kA kB kC kD kE kF kG kH kI kJ kK kL kM kN kO kP kQ kR kS kT kU kV kW), ↓(whlWrite_mask kA kB kC kD kF kI kJ kK kM kP kS kT)]; (repeat' split) <;> first | (simp only [↓apply_ite (State.mask K), ite_self, ↓foldl_mask, implies_true, ↓(answer_mask kC), ↓(actWrite_mask kA kC kD kP), ↓(afeWrite_mask kA kC kD), ↓(busError_mask kC), ↓(busRegWrite_mask kA kC kD kF kU), ↓(chgWrite_mask kA kC kD), ↓(clkWrite_mask kA kC kD kF kW), ↓(cnvWrite_mask kA kC kD kF kJ kK kP), ↓(codeWrite_mask kA kD), ↓(dbgWrite_mask kA kC kD kF kM kN kO kR kV kW), ↓(embWrite_mask kA kC kD kE), ↓(flyWrite_mask kA kC kD kF kL), ↓(gifWrite_mask kA kC kD kF kJ kK kL kM kP), ↓(memWrite_mask kA kB kC kD kF kM), ↓(memcWrite_mask kA kC kD kF), ↓(pwmWrite_mask kA kC kD), ↓(spxWrite_mask kA kC kD kF kJ kM kP), ↓(sysctlWrite_mask kA kB kC kD kF kG kH kI kJ kK kL kM kN kO kP kQ kR kS kT kU kV kW), ↓(tndRegWrite_mask kA kB kC kD kE kF kG kH kI kJ kK kL kM kN kO kP kQ kR kS kT kU kV kW), ↓(whlWrite_mask kA kB kC kD kF kI kJ kK kM kP kS kT)]; done) | (simp only [↓apply_ite (State.mask K), ite_self, ↓foldl_mask, implies_true, ↓(answer_mask kC), ↓(actWrite_mask kA kC kD kP), ↓(afeWrite_mask kA kC kD), ↓(busError_mask kC), ↓(busRegWrite_mask kA kC kD kF kU), ↓(chgWrite_mask kA kC kD), ↓(clkWrite_mask kA kC kD kF kW), ↓(cnvWrite_mask kA kC kD kF kJ kK kP), ↓(codeWrite_mask kA kD), ↓(dbgWrite_mask kA kC kD kF kM kN kO kR kV kW), ↓(embWrite_mask kA kC kD kE), ↓(flyWrite_mask kA kC kD kF kL), ↓(gifWrite_mask kA kC kD kF kJ kK kL kM kP), ↓(memWrite_mask kA kB kC kD kF kM), ↓(memcWrite_mask kA kC kD kF), ↓(pwmWrite_mask kA kC kD), ↓(spxWrite_mask kA kC kD kF kJ kM kP), ↓(sysctlWrite_mask kA kB kC kD kF kG kH kI kJ kK kL kM kN kO kP kQ kR kS kT kU kV kW), ↓(tndRegWrite_mask kA kB kC kD kE kF kG kH kI kJ kK kL kM kN kO kP kQ kR kS kT kU kV kW), ↓(whlWrite_mask kA kB kC kD kF kI kJ kK kM kP kS kT)]; (repeat' split) <;> first | (simp only [↓apply_ite (State.mask K), ite_self, ↓foldl_mask, implies_true, ↓(answer_mask kC), ↓(actWrite_mask kA kC kD kP), ↓(afeWrite_mask kA kC kD), ↓(busError_mask kC), ↓(busRegWrite_mask kA kC kD kF kU), ↓(chgWrite_mask kA kC kD), ↓(clkWrite_mask kA kC kD kF kW), ↓(cnvWrite_mask kA kC kD kF kJ kK kP), ↓(codeWrite_mask kA kD), ↓(dbgWrite_mask kA kC kD kF kM kN kO kR kV kW), ↓(embWrite_mask kA kC kD kE), ↓(flyWrite_mask kA kC kD kF kL), ↓(gifWrite_mask kA kC kD kF kJ kK kL kM kP), ↓(memWrite_mask kA kB kC kD kF kM), ↓(memcWrite_mask kA kC kD kF), ↓(pwmWrite_mask kA kC kD), ↓(spxWrite_mask kA kC kD kF kJ kM kP), ↓(sysctlWrite_mask kA kB kC kD kF kG kH kI kJ kK kL kM kN kO kP kQ kR kS kT kU kV kW), ↓(tndRegWrite_mask kA kB kC kD kE kF kG kH kI kJ kK kL kM kN kO kP kQ kR kS kT kU kV kW), ↓(whlWrite_mask kA kB kC kD kF kI kJ kK kM kP kS kT)]; done) | rfl | grind [answer_mask, actWrite_mask, afeWrite_mask, busError_mask, busRegWrite_mask, chgWrite_mask, clkWrite_mask, cnvWrite_mask, codeWrite_mask, dbgWrite_mask, embWrite_mask, flyWrite_mask, gifWrite_mask, memWrite_mask, memcWrite_mask, pwmWrite_mask, spxWrite_mask, sysctlWrite_mask, tndRegWrite_mask, whlWrite_mask]) | rfl | grind [answer_mask, actWrite_mask, afeWrite_mask, busError_mask, busRegWrite_mask, chgWrite_mask, clkWrite_mask, cnvWrite_mask, codeWrite_mask, dbgWrite_mask, embWrite_mask, flyWrite_mask, gifWrite_mask, memWrite_mask, memcWrite_mask, pwmWrite_mask, spxWrite_mask, sysctlWrite_mask, tndRegWrite_mask, whlWrite_mask]

theorem execRegisterWrite_mask {K : Parts} (kA : K.regs) (kB : K.mem) (kC : K.resp) (kD : K.sys) (kE : K.emb) (kF : K.fab) (kG : K.afe)
    (kH : K.hk) (kI : K.whl) (kJ : K.pwm) (kK : K.cnv) (kL : K.fly) (kM : K.kln) (kN : K.spx) (kO : K.sup) (kP : K.act) (kQ : K.thm) (kR
      : K.chg) (kS : K.tnd) (kT : K.upd) (kU : K.bus) (kV : K.xcp) (kW : K.olt) (m : Master) (addr : Word) (size : Fin 9) (value : Word) (x : WriteCtx) (s : State) {s' : State} (hr : execRegisterWrite m addr size value x s = .next s') :
    s'.mask K = s.mask K := by
  unfold execRegisterWrite at hr
  injection hr with hr; subst hr; simp only [↓apply_ite (State.mask K), ite_self, ↓foldl_mask, implies_true, ↓(regWrite_mask kA kB kC kD kE kF kG kH kI kJ kK kL kM kN kO kP kQ kR kS kT kU kV kW)]

theorem refreshLive_mask {K : Parts} (kA : K.regs) (a : Nat) (s : State) :
    (refreshLive a s).mask K = s.mask K := by
  simp only [refreshLive, ↓apply_ite (State.mask K), ite_self, ↓foldl_mask, implies_true, ↓(set_mask kA), ↓(setB_mask kA)]

theorem codeRead_mask {K : Parts} (kA : K.regs) (kC : K.resp) (a : Nat) (s : State) :
    (codeRead a s).mask K = s.mask K := by
  simp only [codeRead, ↓apply_ite (State.mask K), ite_self, ↓foldl_mask, implies_true, ↓(answer_mask kC), ↓(wr_mask kA)]

theorem regRead_mask {K : Parts} (kA : K.regs) (kC : K.resp) (kD : K.sys) (kF : K.fab) (kM : K.kln) (kU : K.bus) (m : Master) (a : Nat)
    (size : Nat) (synd : Syndrome) (s : State) :
    (regRead m a size synd s).mask K = s.mask K := by
  simp only [regRead, ↓apply_ite (State.mask K), ite_self, ↓foldl_mask, implies_true, ↓(busError_mask kC), ↓(claimRead_mask kA kC kU), ↓(codeRead_mask kA kC), ↓(encCapture_mask kA), ↓(memRead_mask kA kC kD kF kM), ↓(refreshLive_mask kA), ↓(tsLoRead_mask kA kC)]

theorem execRegisterRead_mask {K : Parts} (kA : K.regs) (kC : K.resp) (kD : K.sys) (kF : K.fab) (kM : K.kln) (kU : K.bus) (m : Master)
    (addr : Word) (size : Fin 9) (s : State) {s' : State} (hr : execRegisterRead m addr size s = .next s') :
    s'.mask K = s.mask K := by
  unfold execRegisterRead at hr
  injection hr with hr; subst hr; simp only [↓apply_ite (State.mask K), ite_self, ↓foldl_mask, implies_true, ↓(regRead_mask kA kC kD kF kM kU)]

theorem flashRead_mask {K : Parts} (kA : K.regs) (kC : K.resp) (kD : K.sys) (kF : K.fab) (kM : K.kln) (m : Master) (a : Nat) (size : Nat)
    (synd : Syndrome) (s : State) :
    (flashRead m a size synd s).mask K = s.mask K := by
  simp only [flashRead, ↓apply_ite (State.mask K), ite_self, ↓foldl_mask, implies_true, ↓(answer_mask kC), ↓(bump_mask kA), ↓(busError_mask kC), ↓(flashReadError_mask kA kD kF kM)]

theorem dictRead_mask {K : Parts} (kC : K.resp) (m : Master) (a : Nat) (size : Nat) (s : State) :
    (dictRead m a size s).mask K = s.mask K := by
  simp only [dictRead, ↓apply_ite (State.mask K), ite_self, ↓foldl_mask, implies_true, ↓(answer_mask kC), ↓(busError_mask kC)]; (repeat' split) <;> first | (simp only [↓apply_ite (State.mask K), ite_self, ↓foldl_mask, implies_true, ↓(answer_mask kC), ↓(busError_mask kC)]; done) | (simp only [↓apply_ite (State.mask K), ite_self, ↓foldl_mask, implies_true, ↓(answer_mask kC), ↓(busError_mask kC)]; (repeat' split) <;> first | (simp only [↓apply_ite (State.mask K), ite_self, ↓foldl_mask, implies_true, ↓(answer_mask kC), ↓(busError_mask kC)]; done) | rfl | grind [answer_mask, busError_mask]) | rfl | grind [answer_mask, busError_mask]

theorem dictWrite_mask {K : Parts} (kA : K.regs) (kB : K.mem) (kC : K.resp) (kD : K.sys) (kF : K.fab) (kI : K.whl) (kM : K.kln) (m :
    Master) (a : Nat) (size : Nat) (v : Word) (synd : Syndrome) (s : State) :
    (dictWrite m a size v synd s).mask K = s.mask K := by
  simp only [dictWrite, ↓apply_ite (State.mask K), ite_self, ↓foldl_mask, implies_true, ↓(busError_mask kC), ↓(sigWrite_mask kA kB kC kD kF kI kM)]

theorem busRead_mask {K : Parts} (kA : K.regs) (kC : K.resp) (kD : K.sys) (kF : K.fab) (kM : K.kln) (kU : K.bus) (m : Master) (addr :
    Nat) (size : Nat) (synd : Syndrome) (s : State) :
    (busRead m addr size synd s).mask K = s.mask K := by
  simp only [busRead, ↓apply_ite (State.mask K), ite_self, ↓foldl_mask, implies_true, ↓(dictRead_mask kC), ↓(flashRead_mask kA kC kD kF kM), ↓(memRead_mask kA kC kD kF kM), ↓(regRead_mask kA kC kD kF kM kU)]

theorem busWrite_mask {K : Parts} (kA : K.regs) (kB : K.mem) (kC : K.resp) (kD : K.sys) (kE : K.emb) (kF : K.fab) (kG : K.afe) (kH :
    K.hk) (kI : K.whl) (kJ : K.pwm) (kK : K.cnv) (kL : K.fly) (kM : K.kln) (kN : K.spx) (kO : K.sup) (kP : K.act) (kQ : K.thm) (kR : K.chg) (kS : K.tnd) (kT : K.upd) (kU : K.bus) (kV : K.xcp) (kW : K.olt) (m : Master) (addr : Nat) (size : Nat) (v : Nat) (x : WriteCtx) (s : State) :
    (busWrite m addr size v x s).mask K = s.mask K := by
  simp only [busWrite, ↓apply_ite (State.mask K), ite_self, ↓foldl_mask, implies_true, ↓(busError_mask kC), ↓(dictWrite_mask kA kB kC kD kF kI kM), ↓(memWrite_mask kA kB kC kD kF kM), ↓(regWrite_mask kA kB kC kD kE kF kG kH kI kJ kK kL kM kN kO kP kQ kR kS kT kU kV kW), ↓(whorlWrite_mask kA kB kC kD kF kI kM)]

theorem execMemoryRead_mask {K : Parts} (kA : K.regs) (kC : K.resp) (kD : K.sys) (kF : K.fab) (kM : K.kln) (kU : K.bus) (m : Master)
    (addr : Word) (size : Fin 9) (synd : Syndrome) (s : State) {s' : State} (hr : execMemoryRead m addr size synd s = .next s') :
    s'.mask K = s.mask K := by
  unfold execMemoryRead at hr
  injection hr with hr; subst hr; simp only [↓apply_ite (State.mask K), ite_self, ↓foldl_mask, implies_true, ↓(busRead_mask kA kC kD kF kM kU)]

theorem execMemoryWrite_mask {K : Parts} (kA : K.regs) (kB : K.mem) (kC : K.resp) (kD : K.sys) (kE : K.emb) (kF : K.fab) (kG : K.afe) (kH
    : K.hk) (kI : K.whl) (kJ : K.pwm) (kK : K.cnv) (kL : K.fly) (kM : K.kln) (kN : K.spx) (kO : K.sup) (kP : K.act) (kQ : K.thm) (kR : K.chg) (kS : K.tnd) (kT : K.upd) (kU : K.bus) (kV : K.xcp) (kW : K.olt) (m : Master) (addr : Word) (size : Fin 9) (value : BitVec 64) (x : WriteCtx) (s : State) {s' : State} (hr : execMemoryWrite m addr size value x s = .next s') :
    s'.mask K = s.mask K := by
  unfold execMemoryWrite at hr
  injection hr with hr; subst hr; simp only [↓apply_ite (State.mask K), ite_self, ↓foldl_mask, implies_true, ↓(busWrite_mask kA kB kC kD kE kF kG kH kI kJ kK kL kM kN kO kP kQ kR kS kT kU kV kW)]

theorem releaseRefused_mask {K : Parts} (kA : K.regs) (kF : K.fab) (kM : K.kln) (reason : Nat) (s : State) :
    (releaseRefused reason s).mask K = s.mask K := by
  simp only [releaseRefused, ↓apply_ite (State.mask K), ite_self, ↓foldl_mask, implies_true, ↓(setKln_mask kM), ↓(raise_mask kA kF)]

theorem kilnRelease_mask {K : Parts} (kA : K.regs) (kB : K.mem) (kD : K.sys) (kF : K.fab) (kG : K.afe) (kH : K.hk) (kI : K.whl) (kJ :
    K.pwm) (kK : K.cnv) (kL : K.fly) (kM : K.kln) (kN : K.spx) (kO : K.sup) (kP : K.act) (kQ : K.thm) (kR : K.chg) (kS : K.tnd) (kT : K.upd) (kU : K.bus) (kV : K.xcp) (kW : K.olt) (s : State) :
    (kilnRelease s).mask K = s.mask K := by
  simp only [kilnRelease, ↓apply_ite (State.mask K), ite_self, ↓foldl_mask, implies_true, mask_sys kD, ↓(setKln_mask kM), ↓(enterMode_mask kA kB kD kF kG kH kI kJ kK kL kM kN kO kP kQ kR kS kT kU kV kW), ↓(raise_mask kA kF)]

theorem execSafeResetEdge_mask {K : Parts} (kA : K.regs) (kB : K.mem) (kD : K.sys) (kF : K.fab) (kG : K.afe) (kH : K.hk) (kI : K.whl) (kJ
    : K.pwm) (kK : K.cnv) (kL : K.fly) (kM : K.kln) (kN : K.spx) (kO : K.sup) (kP : K.act) (kQ : K.thm) (kR : K.chg) (kS : K.tnd) (kT : K.upd) (kU : K.bus) (kV : K.xcp) (kW : K.olt) (e : ResetEdge) (s : State) {s' : State} (hr : execSafeResetEdge e s = .next s') :
    s'.mask K = s.mask K := by
  unfold execSafeResetEdge at hr
  injection hr with hr; subst hr; simp only [↓apply_ite (State.mask K), ite_self, ↓foldl_mask, implies_true, ↓(kilnRelease_mask kA kB kD kF kG kH kI kJ kK kL kM kN kO kP kQ kR kS kT kU kV kW), ↓(releaseRefused_mask kA kF kM), ↓(restart_mask kA kB kD kF kG kH kI kJ kK kL kM kN kO kP kQ kR kS kT kU kV kW)]; (repeat' split) <;> first | (simp only [↓apply_ite (State.mask K), ite_self, ↓foldl_mask, implies_true, ↓(kilnRelease_mask kA kB kD kF kG kH kI kJ kK kL kM kN kO kP kQ kR kS kT kU kV kW), ↓(releaseRefused_mask kA kF kM), ↓(restart_mask kA kB kD kF kG kH kI kJ kK kL kM kN kO kP kQ kR kS kT kU kV kW)]; done) | (simp only [↓apply_ite (State.mask K), ite_self, ↓foldl_mask, implies_true, ↓(kilnRelease_mask kA kB kD kF kG kH kI kJ kK kL kM kN kO kP kQ kR kS kT kU kV kW), ↓(releaseRefused_mask kA kF kM), ↓(restart_mask kA kB kD kF kG kH kI kJ kK kL kM kN kO kP kQ kR kS kT kU kV kW)]; (repeat' split) <;> first | (simp only [↓apply_ite (State.mask K), ite_self, ↓foldl_mask, implies_true, ↓(kilnRelease_mask kA kB kD kF kG kH kI kJ kK kL kM kN kO kP kQ kR kS kT kU kV kW), ↓(releaseRefused_mask kA kF kM), ↓(restart_mask kA kB kD kF kG kH kI kJ kK kL kM kN kO kP kQ kR kS kT kU kV kW)]; done) | rfl | grind [kilnRelease_mask, releaseRefused_mask, restart_mask]) | rfl | grind [kilnRelease_mask, releaseRefused_mask, restart_mask]

theorem execKlnclkWatchdog_mask {K : Parts} (kA : K.regs) (kD : K.sys) (kF : K.fab) (kJ : K.pwm) (kM : K.kln) (kP : K.act) (s : State)
    {s' : State} (hr : execKlnclkWatchdog s = .next s') :
    s'.mask K = s.mask K := by
  unfold execKlnclkWatchdog at hr
  injection hr with hr; subst hr; simp only [↓apply_ite (State.mask K), ite_self, ↓foldl_mask, implies_true, ↓(setKln_mask kM), ↓(kilnDrive_mask kA kF kJ kM kP), ↓(kilnRecord_mask kM), ↓(raise_mask kA kF), ↓(tellControl_mask kD)]

theorem performRec_mask {K : Parts} (kA : K.regs) (kB : K.mem) (kC : K.resp) (kD : K.sys) (kE : K.emb) (kF : K.fab) (kG : K.afe) (kH :
    K.hk) (kI : K.whl) (kJ : K.pwm) (kK : K.cnv) (kL : K.fly) (kM : K.kln) (kN : K.spx) (kO : K.sup) (kP : K.act) (kQ : K.thm) (kR : K.chg) (kS : K.tnd) (kT : K.upd) (kU : K.bus) (kV : K.xcp) (kW : K.olt) (p : Nat) (x : WriteCtx) (r : PRec) (s : State) :
    (performRec p x r s).mask K = s.mask K := by
  simp only [performRec, ↓apply_ite (State.mask K), ite_self, ↓foldl_mask, implies_true, ↓(busWrite_mask kA kB kC kD kE kF kG kH kI kJ kK kL kM kN kO kP kQ kR kS kT kU kV kW)]; (repeat' split) <;> first | (simp only [↓apply_ite (State.mask K), ite_self, ↓foldl_mask, implies_true, ↓(busWrite_mask kA kB kC kD kE kF kG kH kI kJ kK kL kM kN kO kP kQ kR kS kT kU kV kW)]; done) | (simp only [↓apply_ite (State.mask K), ite_self, ↓foldl_mask, implies_true, ↓(busWrite_mask kA kB kC kD kE kF kG kH kI kJ kK kL kM kN kO kP kQ kR kS kT kU kV kW)]; (repeat' split) <;> first | (simp only [↓apply_ite (State.mask K), ite_self, ↓foldl_mask, implies_true, ↓(busWrite_mask kA kB kC kD kE kF kG kH kI kJ kK kL kM kN kO kP kQ kR kS kT kU kV kW)]; done) | rfl | grind [busWrite_mask]) | rfl | grind [busWrite_mask]

theorem flushCore0_mask {K : Parts} (kA : K.regs) (kB : K.mem) (kC : K.resp) (kD : K.sys) (kE : K.emb) (kF : K.fab) (kG : K.afe) (kH :
    K.hk) (kI : K.whl) (kJ : K.pwm) (kK : K.cnv) (kL : K.fly) (kM : K.kln) (kN : K.spx) (kO : K.sup) (kP : K.act) (kQ : K.thm) (kR : K.chg) (kS : K.tnd) (kT : K.upd) (kU : K.bus) (kV : K.xcp) (kW : K.olt) (p : Nat) (s : State) :
    (flushCore0 p s).mask K = s.mask K := by
  simp only [flushCore0, ↓apply_ite (State.mask K), ite_self, ↓foldl_mask, implies_true, ↓(setPair_mask kN), ↓(performRec_mask kA kB kC kD kE kF kG kH kI kJ kK kL kM kN kO kP kQ kR kS kT kU kV kW)]

theorem unchecked_mask {K : Parts} (kA : K.regs) (kB : K.mem) (kC : K.resp) (kD : K.sys) (kE : K.emb) (kF : K.fab) (kG : K.afe) (kH :
    K.hk) (kI : K.whl) (kJ : K.pwm) (kK : K.cnv) (kL : K.fly) (kM : K.kln) (kN : K.spx) (kO : K.sup) (kP : K.act) (kQ : K.thm) (kR : K.chg) (kS : K.tnd) (kT : K.upd) (kU : K.bus) (kV : K.xcp) (kW : K.olt) (p : Nat) (code : Nat) (s : State) :
    (unchecked p code s).mask K = s.mask K := by
  simp only [unchecked, ↓apply_ite (State.mask K), ite_self, ↓foldl_mask, implies_true, ↓(flushCore0_mask kA kB kC kD kE kF kG kH kI kJ kK kL kM kN kO kP kQ kR kS kT kU kV kW), ↓(pairUncheck_mask kA kD kF kM kN)]

theorem faultAt_mask {K : Parts} (kA : K.regs) (kD : K.sys) (kF : K.fab) (kM : K.kln) (kN : K.spx) (kO : K.sup) (kR : K.chg) (kS : K.tnd)
    (kT : K.upd) (kV : K.xcp) (p : Nat) (code : Nat) (a : Nat) (s : State) :
    (faultAt p code a s).mask K = s.mask K := by
  simp only [faultAt, ↓apply_ite (State.mask K), ite_self, ↓foldl_mask, implies_true, ↓(set_mask kA), ↓(migrationTimeout_mask kA kD kM kN kO kR kS kT kV), ↓(pairFault_mask kA kD kF kM kN kO kR kS kT kV)]

theorem pairErr_mask {K : Parts} (kA : K.regs) (kB : K.mem) (kC : K.resp) (kD : K.sys) (kE : K.emb) (kF : K.fab) (kG : K.afe) (kH : K.hk)
    (kI : K.whl) (kJ : K.pwm) (kK : K.cnv) (kL : K.fly) (kM : K.kln) (kN : K.spx) (kO : K.sup) (kP : K.act) (kQ : K.thm) (kR : K.chg) (kS
      : K.tnd) (kT : K.upd) (kU : K.bus) (kV : K.xcp) (kW : K.olt) (p : Nat) (err : PairErr) (s : State) :
    (pairErr p err s).2.mask K = s.mask K := by
  simp only [pairErr, ↓apply_ite (State.mask K), ite_self, ↓foldl_mask, implies_true, ↓apply_ite Prod.snd, ↓apply_ite Prod.fst, ↓(bump_mask kA), ↓(unchecked_mask kA kB kC kD kE kF kG kH kI kJ kK kL kM kN kO kP kQ kR kS kT kU kV kW)]; (repeat' split) <;> first | (simp only [↓apply_ite (State.mask K), ite_self, ↓foldl_mask, implies_true, ↓apply_ite Prod.snd, ↓apply_ite Prod.fst, ↓(bump_mask kA), ↓(unchecked_mask kA kB kC kD kE kF kG kH kI kJ kK kL kM kN kO kP kQ kR kS kT kU kV kW)]; done) | (simp only [↓apply_ite (State.mask K), ite_self, ↓foldl_mask, implies_true, ↓apply_ite Prod.snd, ↓apply_ite Prod.fst, ↓(bump_mask kA), ↓(unchecked_mask kA kB kC kD kE kF kG kH kI kJ kK kL kM kN kO kP kQ kR kS kT kU kV kW)]; (repeat' split) <;> first | (simp only [↓apply_ite (State.mask K), ite_self, ↓foldl_mask, implies_true, ↓apply_ite Prod.snd, ↓apply_ite Prod.fst, ↓(bump_mask kA), ↓(unchecked_mask kA kB kC kD kE kF kG kH kI kJ kK kL kM kN kO kP kQ kR kS kT kU kV kW)]; done) | rfl | grind [bump_mask, unchecked_mask]) | rfl | grind [bump_mask, unchecked_mask]

theorem noteDepth_mask {K : Parts} (kA : K.regs) (kD : K.sys) (kF : K.fab) (kM : K.kln) (kN : K.spx) (kO : K.sup) (kR : K.chg) (kS :
    K.tnd) (kT : K.upd) (kV : K.xcp) (p : Nat) (depth : Nat) (a : Nat) (s : State) :
    (noteDepth p depth a s).mask K = s.mask K := by
  simp only [noteDepth, ↓apply_ite (State.mask K), ite_self, ↓foldl_mask, implies_true, ↓(set_mask kA), ↓(faultAt_mask kA kD kF kM kN kO kR kS kT kV)]

theorem enterRec_mask {K : Parts} (kA : K.regs) (kD : K.sys) (kF : K.fab) (kM : K.kln) (kN : K.spx) (kO : K.sup) (kR : K.chg) (kS :
    K.tnd) (kT : K.upd) (kV : K.xcp) (c : Core) (r : PRec) (s : State) :
    (enterRec c r s).mask K = s.mask K := by
  simp only [enterRec, ↓apply_ite (State.mask K), ite_self, ↓foldl_mask, implies_true, ↓(setPair_mask kN), ↓(noteDepth_mask kA kD kF kM kN kO kR kS kT kV)]

theorem syncAdd_mask {K : Parts} (kN : K.spx) (c : Core) (r : PRec) (s : State) :
    (syncAdd c r s).mask K = s.mask K := by
  simp only [syncAdd, ↓apply_ite (State.mask K), ite_self, ↓foldl_mask, implies_true, ↓(setPair_mask kN)]

theorem syncAt_mask {K : Parts} (kA : K.regs) (kN : K.spx) (p : Nat) (v : Nat) (s : State) :
    (syncAt p v s).mask K = s.mask K := by
  simp only [syncAt, ↓apply_ite (State.mask K), ite_self, ↓foldl_mask, implies_true, ↓(set_mask kA), ↓(setPair_mask kN)]; (repeat' split) <;> first | (simp only [↓apply_ite (State.mask K), ite_self, ↓foldl_mask, implies_true, ↓(set_mask kA), ↓(setPair_mask kN)]; done) | (simp only [↓apply_ite (State.mask K), ite_self, ↓foldl_mask, implies_true, ↓(set_mask kA), ↓(setPair_mask kN)]; (repeat' split) <;> first | (simp only [↓apply_ite (State.mask K), ite_self, ↓foldl_mask, implies_true, ↓(set_mask kA), ↓(setPair_mask kN)]; done) | rfl | grind [set_mask, setPair_mask]) | rfl | grind [set_mask, setPair_mask]

theorem outputStore_mask {K : Parts} (kA : K.regs) (kB : K.mem) (kC : K.resp) (kD : K.sys) (kE : K.emb) (kF : K.fab) (kG : K.afe) (kH :
    K.hk) (kI : K.whl) (kJ : K.pwm) (kK : K.cnv) (kL : K.fly) (kM : K.kln) (kN : K.spx) (kO : K.sup) (kP : K.act) (kQ : K.thm) (kR : K.chg) (kS : K.tnd) (kT : K.upd) (kU : K.bus) (kV : K.xcp) (kW : K.olt) (c : Core) (st : CoreStore) (err : PairErr) (x : WriteCtx) (s : State) :
    (outputStore c st err x s).mask K = s.mask K := by
  simp only [outputStore, ↓apply_ite (State.mask K), ite_self, ↓foldl_mask, implies_true, ↓apply_ite Prod.snd, ↓apply_ite Prod.fst, ↓(busWrite_mask kA kB kC kD kE kF kG kH kI kJ kK kL kM kN kO kP kQ kR kS kT kU kV kW), ↓(enterRec_mask kA kD kF kM kN kO kR kS kT kV), ↓(flushCore0_mask kA kB kC kD kE kF kG kH kI kJ kK kL kM kN kO kP kQ kR kS kT kU kV kW), ↓(pairErr_mask kA kB kC kD kE kF kG kH kI kJ kK kL kM kN kO kP kQ kR kS kT kU kV kW), ↓(performRec_mask kA kB kC kD kE kF kG kH kI kJ kK kL kM kN kO kP kQ kR kS kT kU kV kW), ↓(syncAdd_mask kN)]; (repeat' split) <;> first | (simp only [↓apply_ite (State.mask K), ite_self, ↓foldl_mask, implies_true, ↓apply_ite Prod.snd, ↓apply_ite Prod.fst, ↓(busWrite_mask kA kB kC kD kE kF kG kH kI kJ kK kL kM kN kO kP kQ kR kS kT kU kV kW), ↓(enterRec_mask kA kD kF kM kN kO kR kS kT kV), ↓(flushCore0_mask kA kB kC kD kE kF kG kH kI kJ kK kL kM kN kO kP kQ kR kS kT kU kV kW), ↓(pairErr_mask kA kB kC kD kE kF kG kH kI kJ kK kL kM kN kO kP kQ kR kS kT kU kV kW), ↓(performRec_mask kA kB kC kD kE kF kG kH kI kJ kK kL kM kN kO kP kQ kR kS kT kU kV kW), ↓(syncAdd_mask kN)]; done) | (simp only [↓apply_ite (State.mask K), ite_self, ↓foldl_mask, implies_true, ↓apply_ite Prod.snd, ↓apply_ite Prod.fst, ↓(busWrite_mask kA kB kC kD kE kF kG kH kI kJ kK kL kM kN kO kP kQ kR kS kT kU kV kW), ↓(enterRec_mask kA kD kF kM kN kO kR kS kT kV), ↓(flushCore0_mask kA kB kC kD kE kF kG kH kI kJ kK kL kM kN kO kP kQ kR kS kT kU kV kW), ↓(pairErr_mask kA kB kC kD kE kF kG kH kI kJ kK kL kM kN kO kP kQ kR kS kT kU kV kW), ↓(performRec_mask kA kB kC kD kE kF kG kH kI kJ kK kL kM kN kO kP kQ kR kS kT kU kV kW), ↓(syncAdd_mask kN)]; (repeat' split) <;> first | (simp only [↓apply_ite (State.mask K), ite_self, ↓foldl_mask, implies_true, ↓apply_ite Prod.snd, ↓apply_ite Prod.fst, ↓(busWrite_mask kA kB kC kD kE kF kG kH kI kJ kK kL kM kN kO kP kQ kR kS kT kU kV kW), ↓(enterRec_mask kA kD kF kM kN kO kR kS kT kV), ↓(flushCore0_mask kA kB kC kD kE kF kG kH kI kJ kK kL kM kN kO kP kQ kR kS kT kU kV kW), ↓(pairErr_mask kA kB kC kD kE kF kG kH kI kJ kK kL kM kN kO kP kQ kR kS kT kU kV kW), ↓(performRec_mask kA kB kC kD kE kF kG kH kI kJ kK kL kM kN kO kP kQ kR kS kT kU kV kW), ↓(syncAdd_mask kN)]; done) | rfl | grind [busWrite_mask, enterRec_mask, flushCore0_mask, pairErr_mask, performRec_mask, syncAdd_mask]) | rfl | grind [busWrite_mask, enterRec_mask, flushCore0_mask, pairErr_mask, performRec_mask, syncAdd_mask]

theorem execPairOutputStore_mask {K : Parts} (kA : K.regs) (kB : K.mem) (kC : K.resp) (kD : K.sys) (kE : K.emb) (kF : K.fab) (kG : K.afe)
    (kH : K.hk) (kI : K.whl) (kJ : K.pwm) (kK : K.cnv) (kL : K.fly) (kM : K.kln) (kN : K.spx) (kO : K.sup) (kP : K.act) (kQ : K.thm) (kR
      : K.chg) (kS : K.tnd) (kT : K.upd) (kU : K.bus) (kV : K.xcp) (kW : K.olt) (core : Core) (st : CoreStore) (err : PairErr) (x : WriteCtx) (s : State) {s' : State} (hr : execPairOutputStore core st err x s = .next s') :
    s'.mask K = s.mask K := by
  unfold execPairOutputStore at hr
  injection hr with hr; subst hr; simp only [↓apply_ite (State.mask K), ite_self, ↓foldl_mask, implies_true, ↓(outputStore_mask kA kB kC kD kE kF kG kH kI kJ kK kL kM kN kO kP kQ kR kS kT kU kV kW)]

theorem compareRec_mask {K : Parts} (kA : K.regs) (kB : K.mem) (kC : K.resp) (kD : K.sys) (kE : K.emb) (kF : K.fab) (kG : K.afe) (kH :
    K.hk) (kI : K.whl) (kJ : K.pwm) (kK : K.cnv) (kL : K.fly) (kM : K.kln) (kN : K.spx) (kO : K.sup) (kP : K.act) (kQ : K.thm) (kR : K.chg) (kS : K.tnd) (kT : K.upd) (kU : K.bus) (kV : K.xcp) (kW : K.olt) (p : Nat) (err : PairErr) (lag : Nat) (x : WriteCtx) (s : State) :
    (compareRec p err lag x s).mask K = s.mask K := by
  simp only [compareRec, ↓apply_ite (State.mask K), ite_self, ↓foldl_mask, implies_true, ↓apply_ite Prod.snd, ↓apply_ite Prod.fst, ↓(set_mask kA), ↓(setPair_mask kN), ↓(faultAt_mask kA kD kF kM kN kO kR kS kT kV), ↓(handoverEnd_mask kA kD kF kS kT), ↓(handoverTag_mask kA kN kO kR kT kV), ↓(pairErr_mask kA kB kC kD kE kF kG kH kI kJ kK kL kM kN kO kP kQ kR kS kT kU kV kW), ↓(performRec_mask kA kB kC kD kE kF kG kH kI kJ kK kL kM kN kO kP kQ kR kS kT kU kV kW)]; (repeat' split) <;> first | (simp only [↓apply_ite (State.mask K), ite_self, ↓foldl_mask, implies_true, ↓apply_ite Prod.snd, ↓apply_ite Prod.fst, ↓(set_mask kA), ↓(setPair_mask kN), ↓(faultAt_mask kA kD kF kM kN kO kR kS kT kV), ↓(handoverEnd_mask kA kD kF kS kT), ↓(handoverTag_mask kA kN kO kR kT kV), ↓(pairErr_mask kA kB kC kD kE kF kG kH kI kJ kK kL kM kN kO kP kQ kR kS kT kU kV kW), ↓(performRec_mask kA kB kC kD kE kF kG kH kI kJ kK kL kM kN kO kP kQ kR kS kT kU kV kW)]; done) | (simp only [↓apply_ite (State.mask K), ite_self, ↓foldl_mask, implies_true, ↓apply_ite Prod.snd, ↓apply_ite Prod.fst, ↓(set_mask kA), ↓(setPair_mask kN), ↓(faultAt_mask kA kD kF kM kN kO kR kS kT kV), ↓(handoverEnd_mask kA kD kF kS kT), ↓(handoverTag_mask kA kN kO kR kT kV), ↓(pairErr_mask kA kB kC kD kE kF kG kH kI kJ kK kL kM kN kO kP kQ kR kS kT kU kV kW), ↓(performRec_mask kA kB kC kD kE kF kG kH kI kJ kK kL kM kN kO kP kQ kR kS kT kU kV kW)]; (repeat' split) <;> first | (simp only [↓apply_ite (State.mask K), ite_self, ↓foldl_mask, implies_true, ↓apply_ite Prod.snd, ↓apply_ite Prod.fst, ↓(set_mask kA), ↓(setPair_mask kN), ↓(faultAt_mask kA kD kF kM kN kO kR kS kT kV), ↓(handoverEnd_mask kA kD kF kS kT), ↓(handoverTag_mask kA kN kO kR kT kV), ↓(pairErr_mask kA kB kC kD kE kF kG kH kI kJ kK kL kM kN kO kP kQ kR kS kT kU kV kW), ↓(performRec_mask kA kB kC kD kE kF kG kH kI kJ kK kL kM kN kO kP kQ kR kS kT kU kV kW)]; done) | rfl | grind [set_mask, setPair_mask, faultAt_mask, handoverEnd_mask, handoverTag_mask, pairErr_mask, performRec_mask]) | rfl | grind [set_mask, setPair_mask, faultAt_mask, handoverEnd_mask, handoverTag_mask, pairErr_mask, performRec_mask]

theorem execPairCompare_mask {K : Parts} (kA : K.regs) (kB : K.mem) (kC : K.resp) (kD : K.sys) (kE : K.emb) (kF : K.fab) (kG : K.afe) (kH
    : K.hk) (kI : K.whl) (kJ : K.pwm) (kK : K.cnv) (kL : K.fly) (kM : K.kln) (kN : K.spx) (kO : K.sup) (kP : K.act) (kQ : K.thm) (kR : K.chg) (kS : K.tnd) (kT : K.upd) (kU : K.bus) (kV : K.xcp) (kW : K.olt) (p : Fin 2) (err : PairErr) (lag : Fin 2048) (x : WriteCtx) (s : State) {s' : State} (hr : execPairCompare p err lag x s = .next s') :
    s'.mask K = s.mask K := by
  unfold execPairCompare at hr
  injection hr with hr; subst hr; simp only [↓apply_ite (State.mask K), ite_self, ↓foldl_mask, implies_true, ↓(compareRec_mask kA kB kC kD kE kF kG kH kI kJ kK kL kM kN kO kP kQ kR kS kT kU kV kW), ↓(flushCore0_mask kA kB kC kD kE kF kG kH kI kJ kK kL kM kN kO kP kQ kR kS kT kU kV kW)]

theorem pairInput_mask {K : Parts} (kA : K.regs) (kC : K.resp) (kD : K.sys) (kF : K.fab) (kM : K.kln) (kN : K.spx) (kO : K.sup) (kR :
    K.chg) (kS : K.tnd) (kT : K.upd) (kV : K.xcp) (c : Core) (a : Nat) (n : Nat) (read : State → State) (s : State) (hread : ∀ t, (read t).mask K = t.mask K) :
    (pairInput c a n read s).mask K = s.mask K := by
  simp only [pairInput, ↓apply_ite (State.mask K), ite_self, ↓foldl_mask, implies_true, ↓(answer_mask kC), ↓(setPair_mask kN), ↓(faultAt_mask kA kD kF kM kN kO kR kS kT kV), ↓(noteDepth_mask kA kD kF kM kN kO kR kS kT kV), hread]; (repeat' split) <;> first | (simp only [↓apply_ite (State.mask K), ite_self, ↓foldl_mask, implies_true, ↓(answer_mask kC), ↓(setPair_mask kN), ↓(faultAt_mask kA kD kF kM kN kO kR kS kT kV), ↓(noteDepth_mask kA kD kF kM kN kO kR kS kT kV), hread]; done) | (simp only [↓apply_ite (State.mask K), ite_self, ↓foldl_mask, implies_true, ↓(answer_mask kC), ↓(setPair_mask kN), ↓(faultAt_mask kA kD kF kM kN kO kR kS kT kV), ↓(noteDepth_mask kA kD kF kM kN kO kR kS kT kV), hread]; (repeat' split) <;> first | (simp only [↓apply_ite (State.mask K), ite_self, ↓foldl_mask, implies_true, ↓(answer_mask kC), ↓(setPair_mask kN), ↓(faultAt_mask kA kD kF kM kN kO kR kS kT kV), ↓(noteDepth_mask kA kD kF kM kN kO kR kS kT kV), hread]; done) | rfl | grind [answer_mask, setPair_mask, faultAt_mask, noteDepth_mask]) | rfl | grind [answer_mask, setPair_mask, faultAt_mask, noteDepth_mask]

theorem inputLoad_mask {K : Parts} (kA : K.regs) (kC : K.resp) (kD : K.sys) (kF : K.fab) (kM : K.kln) (kN : K.spx) (kO : K.sup) (kR :
    K.chg) (kS : K.tnd) (kT : K.upd) (kU : K.bus) (kV : K.xcp) (c : Core) (x : CoreInput) (s : State) :
    (inputLoad c x s).mask K = s.mask K := by
  simp only [inputLoad, ↓apply_ite (State.mask K), ite_self, ↓foldl_mask, implies_true, ↓(answer_mask kC), ↓(busRead_mask kA kC kD kF kM kU), ↓(pairInput_mask kA kC kD kF kM kN kO kR kS kT kV)]; (repeat' split) <;> first | (simp only [↓apply_ite (State.mask K), ite_self, ↓foldl_mask, implies_true, ↓(answer_mask kC), ↓(busRead_mask kA kC kD kF kM kU), ↓(pairInput_mask kA kC kD kF kM kN kO kR kS kT kV)]; done) | (simp only [↓apply_ite (State.mask K), ite_self, ↓foldl_mask, implies_true, ↓(answer_mask kC), ↓(busRead_mask kA kC kD kF kM kU), ↓(pairInput_mask kA kC kD kF kM kN kO kR kS kT kV)]; (repeat' split) <;> first | (simp only [↓apply_ite (State.mask K), ite_self, ↓foldl_mask, implies_true, ↓(answer_mask kC), ↓(busRead_mask kA kC kD kF kM kU), ↓(pairInput_mask kA kC kD kF kM kN kO kR kS kT kV)]; done) | rfl | grind [answer_mask, busRead_mask, pairInput_mask]) | rfl | grind [answer_mask, busRead_mask, pairInput_mask]

theorem execPairInputLoad_mask {K : Parts} (kA : K.regs) (kC : K.resp) (kD : K.sys) (kF : K.fab) (kM : K.kln) (kN : K.spx) (kO : K.sup)
    (kR : K.chg) (kS : K.tnd) (kT : K.upd) (kU : K.bus) (kV : K.xcp) (core : Core) (x : CoreInput) (s : State) {s' : State} (hr :
      execPairInputLoad core x s = .next s') :
    s'.mask K = s.mask K := by
  unfold execPairInputLoad at hr
  injection hr with hr; subst hr; simp only [↓apply_ite (State.mask K), ite_self, ↓foldl_mask, implies_true, ↓(inputLoad_mask kA kC kD kF kM kN kO kR kS kT kU kV)]

theorem checkpoint_mask {K : Parts} (kA : K.regs) (kD : K.sys) (kF : K.fab) (kM : K.kln) (kN : K.spx) (kO : K.sup) (kR : K.chg) (kS :
    K.tnd) (kT : K.upd) (kV : K.xcp) (c : Core) (r : PRec) (s : State) :
    (checkpoint c r s).mask K = s.mask K := by
  simp only [checkpoint, ↓apply_ite (State.mask K), ite_self, ↓foldl_mask, implies_true, ↓(enterRec_mask kA kD kF kM kN kO kR kS kT kV), ↓(syncAdd_mask kN), ↓(syncAt_mask kA kN)]; (repeat' split) <;> first | (simp only [↓apply_ite (State.mask K), ite_self, ↓foldl_mask, implies_true, ↓(enterRec_mask kA kD kF kM kN kO kR kS kT kV), ↓(syncAdd_mask kN), ↓(syncAt_mask kA kN)]; done) | (simp only [↓apply_ite (State.mask K), ite_self, ↓foldl_mask, implies_true, ↓(enterRec_mask kA kD kF kM kN kO kR kS kT kV), ↓(syncAdd_mask kN), ↓(syncAt_mask kA kN)]; (repeat' split) <;> first | (simp only [↓apply_ite (State.mask K), ite_self, ↓foldl_mask, implies_true, ↓(enterRec_mask kA kD kF kM kN kO kR kS kT kV), ↓(syncAdd_mask kN), ↓(syncAt_mask kA kN)]; done) | rfl | grind [enterRec_mask, syncAdd_mask, syncAt_mask]) | rfl | grind [enterRec_mask, syncAdd_mask, syncAt_mask]

theorem execCheckpointWrite_mask {K : Parts} (kA : K.regs) (kD : K.sys) (kF : K.fab) (kM : K.kln) (kN : K.spx) (kO : K.sup) (kR : K.chg)
    (kS : K.tnd) (kT : K.upd) (kV : K.xcp) (core : Core) (value : Word) (sig : BitVec 64) (s : State) {s' : State} (hr :
      execCheckpointWrite core value sig s = .next s') :
    s'.mask K = s.mask K := by
  unfold execCheckpointWrite at hr
  injection hr with hr; subst hr; simp only [↓apply_ite (State.mask K), ite_self, ↓foldl_mask, implies_true, ↓(checkpoint_mask kA kD kF kM kN kO kR kS kT kV)]

theorem execForcedCheckpoint_mask {K : Parts} (kA : K.regs) (kD : K.sys) (kF : K.fab) (kM : K.kln) (kN : K.spx) (kO : K.sup) (kR : K.chg)
    (kS : K.tnd) (kT : K.upd) (kV : K.xcp) (core : Core) (sig : BitVec 64) (s : State) {s' : State} (hr : execForcedCheckpoint core sig s
      = .next s') :
    s'.mask K = s.mask K := by
  unfold execForcedCheckpoint at hr
  injection hr with hr; subst hr; simp only [↓apply_ite (State.mask K), ite_self, ↓foldl_mask, implies_true, ↓(checkpoint_mask kA kD kF kM kN kO kR kS kT kV)]

theorem execPairEventDelivery_mask {K : Parts} (kN : K.spx) (core : Core) (ev : Fin 256) (count : Nat) (s : State) {s' : State} (hr :
    execPairEventDelivery core ev count s = .next s') :
    s'.mask K = s.mask K := by
  unfold execPairEventDelivery at hr
  injection hr with hr; subst hr; simp only [↓apply_ite (State.mask K), ite_self, ↓foldl_mask, implies_true, ↓(setPair_mask kN)]; (repeat' split) <;> first | (simp only [↓apply_ite (State.mask K), ite_self, ↓foldl_mask, implies_true, ↓(setPair_mask kN)]; done) | (simp only [↓apply_ite (State.mask K), ite_self, ↓foldl_mask, implies_true, ↓(setPair_mask kN)]; (repeat' split) <;> first | (simp only [↓apply_ite (State.mask K), ite_self, ↓foldl_mask, implies_true, ↓(setPair_mask kN)]; done) | rfl | grind [setPair_mask]) | rfl | grind [setPair_mask]

theorem execPairLagTimeout_mask {K : Parts} (kA : K.regs) (kD : K.sys) (kF : K.fab) (kM : K.kln) (kN : K.spx) (kO : K.sup) (kR : K.chg)
    (kS : K.tnd) (kT : K.upd) (kV : K.xcp) (p : Fin 2) (s : State) {s' : State} (hr : execPairLagTimeout p s = .next s') :
    s'.mask K = s.mask K := by
  unfold execPairLagTimeout at hr
  injection hr with hr; subst hr; (repeat' split) <;> first | (simp only [↓apply_ite (State.mask K), ite_self, ↓foldl_mask, implies_true, ↓(faultAt_mask kA kD kF kM kN kO kR kS kT kV)]; done) | (simp only [↓apply_ite (State.mask K), ite_self, ↓foldl_mask, implies_true, ↓(faultAt_mask kA kD kF kM kN kO kR kS kT kV)]; (repeat' split) <;> first | (simp only [↓apply_ite (State.mask K), ite_self, ↓foldl_mask, implies_true, ↓(faultAt_mask kA kD kF kM kN kO kR kS kT kV)]; done) | rfl | grind [faultAt_mask]) | rfl | grind [faultAt_mask]

theorem execPairResetDone_mask {K : Parts} (kA : K.regs) (kB : K.mem) (kD : K.sys) (kF : K.fab) (kM : K.kln) (kN : K.spx) (p : Fin 2)
    (synd : Syndrome) (s : State) {s' : State} (hr : execPairResetDone p synd s = .next s') :
    s'.mask K = s.mask K := by
  unfold execPairResetDone at hr
  injection hr with hr; subst hr; simp only [↓apply_ite (State.mask K), ite_self, ↓foldl_mask, implies_true, ↓(pairResetDone_mask kA kB kD kF kM kN)]

theorem execComparatorSelfTest_mask {K : Parts} (kA : K.regs) (kB : K.mem) (kC : K.resp) (kD : K.sys) (kE : K.emb) (kF : K.fab) (kG :
    K.afe) (kH : K.hk) (kI : K.whl) (kJ : K.pwm) (kK : K.cnv) (kL : K.fly) (kM : K.kln) (kN : K.spx) (kO : K.sup) (kP : K.act) (kQ : K.thm) (kR : K.chg) (kS : K.tnd) (kT : K.upd) (kU : K.bus) (kV : K.xcp) (kW : K.olt) (p : Fin 2) (ok : Bool) (s : State) {s' : State} (hr : execComparatorSelfTest p ok s = .next s') :
    s'.mask K = s.mask K := by
  unfold execComparatorSelfTest at hr
  injection hr with hr; subst hr; simp only [↓apply_ite (State.mask K), ite_self, ↓foldl_mask, implies_true, ↓(set_mask kA), ↓(unchecked_mask kA kB kC kD kE kF kG kH kI kJ kK kL kM kN kO kP kQ kR kS kT kU kV kW)]

theorem setSensor_mask {K : Parts} (kQ : K.thm) (s : State) (i : Nat) (x : SensorSt) :
    (State.setSensor s i x).mask K = s.mask K := by
  simp only [State.setSensor, ↓apply_ite (State.mask K), ite_self, ↓foldl_mask, implies_true, mask_thm kQ]

theorem setRule_mask {K : Parts} (kQ : K.thm) (s : State) (r : Nat) (x : RuleSt) :
    (State.setRule s r x).mask K = s.mask K := by
  simp only [State.setRule, ↓apply_ite (State.mask K), ite_self, ↓foldl_mask, implies_true, mask_thm kQ]

theorem sensorSample_mask {K : Parts} (kA : K.regs) (kD : K.sys) (kF : K.fab) (kM : K.kln) (kQ : K.thm) (i : Nat) (ok : Bool) (value :
    Int) (s : State) :
    (sensorSample i ok value s).mask K = s.mask K := by
  simp only [sensorSample, ↓apply_ite (State.mask K), ite_self, ↓foldl_mask, implies_true, ↓(set_mask kA), ↓(setB_mask kA), ↓(setI_mask kA), ↓(setSensor_mask kQ), ↓(issue_mask kD kM), ↓(raise_mask kA kF)]; (repeat' split) <;> first | (simp only [↓apply_ite (State.mask K), ite_self, ↓foldl_mask, implies_true, ↓(set_mask kA), ↓(setB_mask kA), ↓(setI_mask kA), ↓(setSensor_mask kQ), ↓(issue_mask kD kM), ↓(raise_mask kA kF)]; done) | (simp only [↓apply_ite (State.mask K), ite_self, ↓foldl_mask, implies_true, ↓(set_mask kA), ↓(setB_mask kA), ↓(setI_mask kA), ↓(setSensor_mask kQ), ↓(issue_mask kD kM), ↓(raise_mask kA kF)]; (repeat' split) <;> first | (simp only [↓apply_ite (State.mask K), ite_self, ↓foldl_mask, implies_true, ↓(set_mask kA), ↓(setB_mask kA), ↓(setI_mask kA), ↓(setSensor_mask kQ), ↓(issue_mask kD kM), ↓(raise_mask kA kF)]; done) | rfl | grind [set_mask, setB_mask, setI_mask, setSensor_mask, issue_mask, raise_mask]) | rfl | grind [set_mask, setB_mask, setI_mask, setSensor_mask, issue_mask, raise_mask]

theorem execSensorSample_mask {K : Parts} (kA : K.regs) (kD : K.sys) (kF : K.fab) (kM : K.kln) (kQ : K.thm) (sensor : Fin 36) (ok : Bool)
    (value : Int) (s : State) {s' : State} (hr : execSensorSample sensor ok value s = .next s') :
    s'.mask K = s.mask K := by
  unfold execSensorSample at hr
  injection hr with hr; subst hr; simp only [↓apply_ite (State.mask K), ite_self, ↓foldl_mask, implies_true, ↓(sensorSample_mask kA kD kF kM kQ)]

theorem execDieHardLimit_mask {K : Parts} (kA : K.regs) (kD : K.sys) (kF : K.fab) (kM : K.kln) (kO : K.sup) (sensor : Fin 36) (s : State)
    {s' : State} (hr : execDieHardLimit sensor s = .next s') :
    s'.mask K = s.mask K := by
  unfold execDieHardLimit at hr
  injection hr with hr; subst hr; simp only [↓apply_ite (State.mask K), ite_self, ↓foldl_mask, implies_true, ↓(emrEnd_mask kA kF kO), ↓(issue_mask kD kM)]

theorem ruleEval_mask {K : Parts} (kA : K.regs) (kB : K.mem) (kC : K.resp) (kD : K.sys) (kE : K.emb) (kF : K.fab) (kG : K.afe) (kH :
    K.hk) (kI : K.whl) (kJ : K.pwm) (kK : K.cnv) (kL : K.fly) (kM : K.kln) (kN : K.spx) (kO : K.sup) (kP : K.act) (kQ : K.thm) (kR : K.chg) (kS : K.tnd) (kT : K.upd) (kU : K.bus) (kV : K.xcp) (kW : K.olt) (r : Nat) (s : State) :
    (ruleEval r s).mask K = s.mask K := by
  simp only [ruleEval, ↓apply_ite (State.mask K), ite_self, ↓foldl_mask, implies_true, ↓(set_mask kA), ↓(setB_mask kA), ↓(setI_mask kA), ↓(setRule_mask kQ), ↓(emrEnd_mask kA kF kO), ↓(issue_mask kD kM), ↓(raise_mask kA kF)]; (repeat' split) <;> first | (simp only [↓apply_ite (State.mask K), ite_self, ↓foldl_mask, implies_true, ↓(set_mask kA), ↓(setB_mask kA), ↓(setI_mask kA), ↓(setRule_mask kQ), ↓(emrEnd_mask kA kF kO), ↓(issue_mask kD kM), ↓(raise_mask kA kF)]; done) | (simp only [↓apply_ite (State.mask K), ite_self, ↓foldl_mask, implies_true, ↓(set_mask kA), ↓(setB_mask kA), ↓(setI_mask kA), ↓(setRule_mask kQ), ↓(emrEnd_mask kA kF kO), ↓(issue_mask kD kM), ↓(raise_mask kA kF)]; (repeat' split) <;> first | (simp only [↓apply_ite (State.mask K), ite_self, ↓foldl_mask, implies_true, ↓(set_mask kA), ↓(setB_mask kA), ↓(setI_mask kA), ↓(setRule_mask kQ), ↓(emrEnd_mask kA kF kO), ↓(issue_mask kD kM), ↓(raise_mask kA kF)]; done) | rfl | grind [set_mask, setB_mask, setI_mask, setRule_mask, emrEnd_mask, issue_mask, raise_mask]) | rfl | grind [set_mask, setB_mask, setI_mask, setRule_mask, emrEnd_mask, issue_mask, raise_mask]

theorem publish_mask {K : Parts} (kA : K.regs) (kF : K.fab) (i : Nat) (f : Nat) (s : State) :
    (publish i f s).mask K = s.mask K := by
  simp only [publish, ↓apply_ite (State.mask K), ite_self, ↓foldl_mask, implies_true, ↓(set_mask kA), ↓(raise_mask kA kF)]

theorem targetEval_mask {K : Parts} (kA : K.regs) (kF : K.fab) (kQ : K.thm) (i : Nat) (s : State) :
    (targetEval i s).mask K = s.mask K := by
  simp only [targetEval, ↓apply_ite (State.mask K), ite_self, ↓foldl_mask, implies_true, mask_thm kQ, ↓(publish_mask kA kF)]

theorem bandChange_mask {K : Parts} (kA : K.regs) (kF : K.fab) (kQ : K.thm) (b : Nat) (k : Nat) (s : State) :
    (bandChange b k s).mask K = s.mask K := by
  simp only [bandChange, ↓apply_ite (State.mask K), ite_self, ↓foldl_mask, implies_true, mask_thm kQ, ↓(set_mask kA), ↓(raise_mask kA kF)]

theorem bandEval_mask {K : Parts} (kA : K.regs) (kF : K.fab) (kQ : K.thm) (b : Nat) (s : State) :
    (bandEval b s).mask K = s.mask K := by
  simp only [bandEval, ↓apply_ite (State.mask K), ite_self, ↓foldl_mask, implies_true, mask_thm kQ, ↓(set_mask kA), ↓(bandChange_mask kA kF kQ)]; (repeat' split) <;> first | (simp only [↓apply_ite (State.mask K), ite_self, ↓foldl_mask, implies_true, mask_thm kQ, ↓(set_mask kA), ↓(bandChange_mask kA kF kQ)]; done) | (simp only [↓apply_ite (State.mask K), ite_self, ↓foldl_mask, implies_true, mask_thm kQ, ↓(set_mask kA), ↓(bandChange_mask kA kF kQ)]; (repeat' split) <;> first | (simp only [↓apply_ite (State.mask K), ite_self, ↓foldl_mask, implies_true, mask_thm kQ, ↓(set_mask kA), ↓(bandChange_mask kA kF kQ)]; done) | rfl | grind [set_mask, bandChange_mask, mask_thm]) | rfl | grind [set_mask, bandChange_mask, mask_thm]

theorem execRuleEvaluation_mask {K : Parts} (kA : K.regs) (kB : K.mem) (kC : K.resp) (kD : K.sys) (kE : K.emb) (kF : K.fab) (kG : K.afe)
    (kH : K.hk) (kI : K.whl) (kJ : K.pwm) (kK : K.cnv) (kL : K.fly) (kM : K.kln) (kN : K.spx) (kO : K.sup) (kP : K.act) (kQ : K.thm) (kR
      : K.chg) (kS : K.tnd) (kT : K.upd) (kU : K.bus) (kV : K.xcp) (kW : K.olt) (s : State) {s' : State} (hr : execRuleEvaluation s = .next s') :
    s'.mask K = s.mask K := by
  unfold execRuleEvaluation at hr
  injection hr with hr; subst hr; simp only [↓apply_ite (State.mask K), ite_self, ↓foldl_mask, implies_true, ↓(bandEval_mask kA kF kQ), ↓(ruleEval_mask kA kB kC kD kE kF kG kH kI kJ kK kL kM kN kO kP kQ kR kS kT kU kV kW), ↓(targetEval_mask kA kF kQ)]

end Sys2Proof.Machine
end

