-- ==== Sys2Proof/Laws/Mask6.lean ====
section
/-! SUPPORT. What each operation and meaning leaves unchanged: it changes no part of the state but those its lemma blanks. -/

set_option maxRecDepth 4000
set_option linter.all false
namespace Sys2Proof.Machine
open Sys2Proof

theorem execFactorRiseStep_mask {K : Parts} (kA : K.regs) (kF : K.fab) (target : Fin 8) (s : State) {s' : State} (hr : execFactorRiseStep
    target s = .next s') :
    s'.mask K = s.mask K := by
  unfold execFactorRiseStep at hr
  injection hr with hr; subst hr; simp only [↓apply_ite (State.mask K), ite_self, ↓foldl_mask, implies_true, ↓(publish_mask kA kF)]

theorem tsTick_mask {K : Parts} (kF : K.fab) (s : State) :
    (tsTick s).mask K = s.mask K := by
  simp only [tsTick, ↓apply_ite (State.mask K), ite_self, ↓foldl_mask, implies_true, mask_fab kF]

theorem idleTick_mask {K : Parts} (kA : K.regs) (kB : K.mem) (kD : K.sys) (kF : K.fab) (kM : K.kln) (kU : K.bus) (kV : K.xcp) (s : State) :
    (idleTick s).mask K = s.mask K := by
  simp only [idleTick, ↓apply_ite (State.mask K), ite_self, ↓foldl_mask, implies_true, ↓(reelTick_mask kA kB kD kF kM kU kV), ↓(traceTick_mask kF), ↓(tsTick_mask kF)]

theorem withFetchWord_mask {K : Parts} (s : State) (nbits : Nat) (w : Nat) :
    (State.withFetchWord s nbits w).mask K = s.mask K := by
  rfl

end Sys2Proof.Machine
end

