-- ==== Sys2Proof/Laws/Drive.lean ====
section
/-! SUPPORT. Bringing switches under R245 and applying a Kiln finding write no register but the event crossings' and the actuator
bridges'. -/

set_option linter.all false
namespace Sys2Proof.Machine
open Sys2Proof

/-- Not an event crossing's register (block 2), not an actuator register (block 15). -/
abbrev Quiet (a : Nat) : Prop := (a < 0x30020000 ∨ 0x30030000 ≤ a) ∧ (a < 0x300F0000 ∨ 0x30100000 ≤ a)

theorem foldl_rd {α : Type} (a : Nat) (f : State → α → State) (hf : ∀ s x, (f s x).rd a = s.rd a) (l : List α) (s : State) :
    (l.foldl f s).rd a = s.rd a := by
  induction l generalizing s with
  | nil => rfl
  | cons x r ih => rw [List.foldl_cons, ih, hf]

theorem raise_quiet (n a : Nat) (s : State) (hn : n < 256) (h : Quiet a) : (raise n s).rd a = s.rd a := by
  refine raise_rd n a s ?_ ?_
  · intro e
    simp only [Fld.addr, ovrFld] at e
    obtain ⟨h1, h2⟩ := h
    omega
  · intro e
    simp only [Fld.addr, F.CDC_STALE.SAT] at e
    obtain ⟨h1, h2⟩ := h
    omega

theorem set_quiet (s : State) (f : Fld) (v i j k a : Nat) (h : a ≠ f.addr i j k) : (s.set f v i j k).rd a = s.rd a :=
  State.rd_wr_ne _ _ _ _ h

theorem showBridge_quiet (b a : Nat) (s : State) (hb : b < 12) (h : Quiet a) : (showBridge b s).rd a = s.rd a := by
  obtain ⟨h1, h2⟩ := h
  have e1 : ∀ (f : Fld), (f = F.ACT_BR_STAT.REFRESH_HOLD ∨ f = F.ACT_BR_STAT.GATE_H ∨ f = F.ACT_BR_STAT.GATE_L) → a ≠ f.addr b 0 0 := by
    intro f hf e
    rcases hf with rfl | rfl | rfl <;> simp only [Fld.addr, F.ACT_BR_STAT.REFRESH_HOLD, F.ACT_BR_STAT.GATE_H, F.ACT_BR_STAT.GATE_L] at e <;> omega
  have e2 : a ≠ F.ACT_STAT.HIZ.addr 0 0 0 := by
    intro e; simp only [Fld.addr, F.ACT_STAT.HIZ] at e; omega
  unfold showBridge
  split
  · rfl
  · simp only [State.setB, State.setBit]
    rw [set_quiet _ _ _ _ _ _ _ (e1 _ (by simp)), set_quiet _ _ _ _ _ _ _ (e1 _ (by simp)), set_quiet _ _ _ _ _ _ _ e2]
    split <;> split <;> simp only [set_quiet _ _ _ _ _ _ _ (e1 F.ACT_BR_STAT.REFRESH_HOLD (by simp))]

theorem bridgeOf_lt (s : State) (l b : Nat) (h : bridgeOf s l = some b) : b < 12 := by
  unfold bridgeOf at h
  dsimp only at h
  split at h
  · rename_i hc
    simp only [Option.some.injEq] at h
    simp only [Bool.and_eq_true, decide_eq_true_eq] at hc
    omega
  · cases h

theorem legCommand_quiet (l a : Nat) (s : State) (h : Quiet a) : (legCommand l s).rd a = s.rd a := by
  unfold legCommand
  split
  · rfl
  · rename_i b hb
    rw [showBridge_quiet _ _ _ (bridgeOf_lt _ _ _ hb) h]
    split <;> rfl

theorem edgeIssued_quiet (l a : Nat) (s : State) : (edgeIssued l s).rd a = s.rd a := by
  unfold edgeIssued
  exact foldl_rd _ _ (by intro s x; split <;> rfl) _ _

theorem switchOff_quiet (k a : Nat) (s : State) (h : Quiet a) : (switchOff k s).rd a = s.rd a := by
  unfold switchOff
  dsimp only
  split
  · rw [legCommand_quiet _ _ _ h, edgeIssued_quiet]; rfl
  · split <;> rfl

theorem tryOn_quiet (k a : Nat) (s : State) (h : Quiet a) : (tryOn k s).rd a = s.rd a := by
  unfold tryOn
  dsimp only
  split
  · rw [legCommand_quiet _ _ _ h, edgeIssued_quiet]; rfl
  · rfl

theorem enforceLeg_quiet (l a : Nat) (s : State) (h : Quiet a) : (enforceLeg l s).rd a = s.rd a := by
  have hoff : ∀ k (s : State), (if decideSw s k == .off then switchOff k s else s).rd a = s.rd a := by
    intro k s; split
    · exact switchOff_quiet _ _ _ h
    · rfl
  have hon : ∀ k (s : State), (if decideSw s k == .on && !(s.sw k).cmd then tryOn k (s.setSw k { s.sw k with pendOn := true }) else s).rd a = s.rd a := by
    intro k s; split
    · rw [tryOn_quiet _ _ _ h]; rfl
    · rfl
  unfold enforceLeg
  dsimp only
  split
  · rename_i b hb
    rw [showBridge_quiet _ _ _ (bridgeOf_lt _ _ _ hb) h, hon, hon, hoff, hoff]
  · rw [hon, hon, hoff, hoff]

theorem enforceLegs_quiet (ls : List Nat) (a : Nat) (s : State) (h : Quiet a) : (enforceLegs ls s).rd a = s.rd a :=
  foldl_rd _ _ (fun s l => enforceLeg_quiet l a s h) _ _

theorem enforceAll_quiet (a : Nat) (s : State) (h : Quiet a) : (enforceAll s).rd a = s.rd a := enforceLegs_quiet _ _ _ h

theorem genRise_quiet (g a : Nat) (s : State) (h : Quiet a) : (genRise g s).rd a = s.rd a := by
  unfold genRise
  split
  · rw [raise_quiet _ _ _ (by decide) h]; rfl
  · rfl

theorem setKln_rd (s : State) (x : KlnSt) (a : Nat) : (s.setKln x).rd a = s.rd a := rfl

theorem kilnDrive_quiet (a : Nat) (s : State) (h : Quiet a) : (kilnDrive s).rd a = s.rd a := by
  unfold kilnDrive
  dsimp only
  have hr : ∀ (c : Bool) (n : Nat) (s : State), n < 256 → (if c = true then raise n s else s).rd a = s.rd a := by
    intro c n s hn; split
    · exact raise_quiet _ _ _ hn h
    · rfl
  have he : ∀ (c : Bool) (s : State), (if c = true then enforceAll s else s).rd a = s.rd a := by
    intro c s; split
    · exact enforceAll_quiet _ _ h
    · rfl
  rw [he, foldl_rd _ _ (fun s g => genRise_quiet g a s h), hr _ _ _ (by decide), hr _ _ _ (by decide), setKln_rd]

theorem tellControl_rd (code cls a : Nat) (s : State) : (tellControl code cls s).rd a = s.rd a := by
  unfold tellControl issueKiln
  split
  · dsimp only; split <;> rfl
  · rfl

theorem kilnLatch_quiet (e cls mask : Nat) (b : Bool) (a : Nat) (s : State) (h : Quiet a) : (kilnLatch e cls mask b s).rd a = s.rd a := by
  unfold kilnLatch
  dsimp only
  rw [raise_quiet _ _ _ (by decide) h, kilnDrive_quiet _ _ h, setKln_rd]

theorem kilnApplyAs_quiet (e code cls mask : Nat) (b : Bool) (a : Nat) (s : State) (h : Quiet a) :
    (kilnApplyAs e code cls mask b s).rd a = s.rd a := by
  unfold kilnApplyAs
  dsimp only
  rw [tellControl_rd]
  split
  · rw [kilnLatch_quiet _ _ _ _ _ _ h]; rfl
  · rfl

theorem kilnApply_quiet (e a : Nat) (s : State) (h : Quiet a) : (kilnApply e s).rd a = s.rd a := by
  unfold kilnApply
  split
  · rfl
  · exact kilnApplyAs_quiet _ _ _ _ _ _ _ h

theorem kilnCond_quiet (e : Nat) (p : Bool) (a : Nat) (s : State) (h : Quiet a) : (kilnCond e p s).rd a = s.rd a := by
  unfold kilnCond
  dsimp only
  split
  · rw [kilnApply_quiet _ _ _ h]; rfl
  · rfl

theorem kilnSuspend_quiet (i a : Nat) (s : State) (h : Quiet a) : (kilnSuspend i s).rd a = s.rd a := by
  unfold kilnSuspend
  split
  · rfl
  · rw [raise_quiet _ _ _ (by decide) h, kilnApply_quiet _ _ _ h]; rfl

theorem kilnInputs_quiet (a : Nat) (s : State) (h : Quiet a) : (kilnInputs s).rd a = s.rd a := by
  have hs : ∀ (c : Bool) (n : Nat) (s : State), (if c = true then kilnSuspend n s else s).rd a = s.rd a := by
    intro c n s; split
    · exact kilnSuspend_quiet _ _ _ h
    · rfl
  unfold kilnInputs
  dsimp only
  rw [hs, hs, foldl_rd _ _ (fun s k => hs _ _ s)]

end Sys2Proof.Machine
end

