-- ==== Sys2Proof/Laws/MemKept1.lean ====
section
/-! SUPPORT. Operations and meanings that leave every byte of memory as it was. -/

set_option maxRecDepth 4000
set_option linter.all false
namespace Sys2Proof.Machine
open Sys2Proof

theorem wr_mem (s : State) (a : Nat) (w : Word) :
    (State.wr s a w).mem = s.mem := by
  simp only [State.wr, ↓apply_ite State.mem, ite_self, ↓foldl_mem, implies_true]

theorem set_mem (s : State) (f : Fld) (v : Nat) (i : Nat) (j : Nat) (k : Nat) :
    (State.set s f v i j k).mem = s.mem := by
  simp only [State.set, ↓apply_ite State.mem, ite_self, ↓foldl_mem, implies_true, ↓wr_mem]

theorem setB_mem (s : State) (f : Fld) (b : Bool) (i : Nat) (j : Nat) (k : Nat) :
    (State.setB s f b i j k).mem = s.mem := by
  simp only [State.setB, ↓apply_ite State.mem, ite_self, ↓foldl_mem, implies_true, ↓set_mem]

theorem setI_mem (s : State) (f : Fld) (v : Int) (i : Nat) (j : Nat) (k : Nat) :
    (State.setI s f v i j k).mem = s.mem := by
  simp only [State.setI, ↓apply_ite State.mem, ite_self, ↓foldl_mem, implies_true, ↓set_mem]

theorem bump_mem (s : State) (f : Fld) (satF : Fld) (i : Nat) (j : Nat) (k : Nat) (n : Nat) :
    (State.bump s f satF i j k n).mem = s.mem := by
  simp only [State.bump, ↓apply_ite State.mem, ite_self, ↓foldl_mem, implies_true, ↓set_mem]

theorem setBit_mem (s : State) (f : Fld) (b : Nat) (v : Bool) (i : Nat) (j : Nat) (k : Nat) :
    (State.setBit s f b v i j k).mem = s.mem := by
  simp only [State.setBit, ↓apply_ite State.mem, ite_self, ↓foldl_mem, implies_true, ↓set_mem]

theorem countOvr_mem (n : Nat) (s : State) :
    (countOvr n s).mem = s.mem := by
  simp only [countOvr, ↓apply_ite State.mem, ite_self, ↓foldl_mem, implies_true, ↓set_mem]

theorem setXing_mem (s : State) (n : Nat) (x : XingSt) :
    (State.setXing s n x).mem = s.mem := by
  simp only [State.setXing, ↓apply_ite State.mem, ite_self, ↓foldl_mem, implies_true]

theorem raise_mem (n : Nat) (s : State) :
    (raise n s).mem = s.mem := by
  simp only [raise, ↓apply_ite State.mem, ite_self, ↓foldl_mem, implies_true, ↓setXing_mem, ↓countOvr_mem]

theorem issueFor_mem (src : FaultSrc) (code : Nat) (cls : Nat) (s : State) :
    (issueFor src code cls s).mem = s.mem := by
  simp only [issueFor, ↓apply_ite State.mem, ite_self, ↓foldl_mem, implies_true]

theorem issue_mem (code : Nat) (cls : Nat) (s : State) :
    (issue code cls s).mem = s.mem := by
  simp only [issue, ↓apply_ite State.mem, ite_self, ↓foldl_mem, implies_true, ↓issueFor_mem]

theorem answer_mem (s : State) (r : BusResp) :
    (State.answer s r).mem = s.mem := by
  simp only [State.answer, ↓apply_ite State.mem, ite_self, ↓foldl_mem, implies_true]

theorem busError_mem (s : State) :
    (busError s).mem = s.mem := by
  simp only [busError, ↓apply_ite State.mem, ite_self, ↓foldl_mem, implies_true, ↓answer_mem]

theorem poisonWord_mem (k : Nat) (s : State) :
    (poisonWord k s).mem = s.mem := by
  simp only [poisonWord, ↓apply_ite State.mem, ite_self, ↓foldl_mem, implies_true]

theorem cleanWord_mem (k : Nat) (s : State) :
    (cleanWord k s).mem = s.mem := by
  simp only [cleanWord, ↓apply_ite State.mem, ite_self, ↓foldl_mem, implies_true]

theorem bucketAdd_mem (b : Nat) (s : State) :
    (bucketAdd b s).mem = s.mem := by
  simp only [bucketAdd, ↓apply_ite State.mem, ite_self, ↓foldl_mem, implies_true, ↓bump_mem, ↓set_mem, ↓issue_mem, ↓raise_mem]

theorem slogAdd_mem (k : Nat) (byRead : Bool) (s : State) :
    (slogAdd k byRead s).mem = s.mem := by
  simp only [slogAdd, ↓apply_ite State.mem, ite_self, ↓foldl_mem, implies_true, ↓bump_mem, ↓set_mem, ↓setB_mem]; (repeat' split) <;> first | (simp only [↓apply_ite State.mem, ite_self, ↓foldl_mem, implies_true, ↓bump_mem, ↓set_mem, ↓setB_mem]; done) | (simp only [↓apply_ite State.mem, ite_self, ↓foldl_mem, implies_true, ↓bump_mem, ↓set_mem, ↓setB_mem]; (repeat' split) <;> first | (simp only [↓apply_ite State.mem, ite_self, ↓foldl_mem, implies_true, ↓bump_mem, ↓set_mem, ↓setB_mem]; done) | rfl | grind [bump_mem, set_mem, setB_mem]) | rfl | grind [bump_mem, set_mem, setB_mem]

theorem readWord_mem (k : Nat) (synd : Syndrome) (s : State) :
    (readWord k synd s).2.mem = s.mem := by
  simp only [readWord, ↓apply_ite State.mem, ite_self, ↓foldl_mem, implies_true, ↓apply_ite Prod.snd, ↓apply_ite Prod.fst, ↓bump_mem, ↓bucketAdd_mem, ↓issue_mem, ↓poisonWord_mem, ↓raise_mem, ↓slogAdd_mem]; (repeat' split) <;> first | (simp only [↓apply_ite State.mem, ite_self, ↓foldl_mem, implies_true, ↓apply_ite Prod.snd, ↓apply_ite Prod.fst, ↓bump_mem, ↓bucketAdd_mem, ↓issue_mem, ↓poisonWord_mem, ↓raise_mem, ↓slogAdd_mem]; done) | (simp only [↓apply_ite State.mem, ite_self, ↓foldl_mem, implies_true, ↓apply_ite Prod.snd, ↓apply_ite Prod.fst, ↓bump_mem, ↓bucketAdd_mem, ↓issue_mem, ↓poisonWord_mem, ↓raise_mem, ↓slogAdd_mem]; (repeat' split) <;> first | (simp only [↓apply_ite State.mem, ite_self, ↓foldl_mem, implies_true, ↓apply_ite Prod.snd, ↓apply_ite Prod.fst, ↓bump_mem, ↓bucketAdd_mem, ↓issue_mem, ↓poisonWord_mem, ↓raise_mem, ↓slogAdd_mem]; done) | rfl | grind [bump_mem, bucketAdd_mem, issue_mem, poisonWord_mem, raise_mem, slogAdd_mem]) | rfl | grind [bump_mem, bucketAdd_mem, issue_mem, poisonWord_mem, raise_mem, slogAdd_mem]

theorem memRead_mem (m : Master) (a : Nat) (size : Nat) (synd : Syndrome) (s : State) :
    (memRead m a size synd s).mem = s.mem := by
  simp only [memRead, ↓apply_ite State.mem, ite_self, ↓foldl_mem, implies_true, ↓apply_ite Prod.snd, ↓apply_ite Prod.fst, ↓answer_mem, ↓busError_mem, ↓readWord_mem]; (repeat' split) <;> first | (simp only [↓apply_ite State.mem, ite_self, ↓foldl_mem, implies_true, ↓apply_ite Prod.snd, ↓apply_ite Prod.fst, ↓answer_mem, ↓busError_mem, ↓readWord_mem]; done) | (simp only [↓apply_ite State.mem, ite_self, ↓foldl_mem, implies_true, ↓apply_ite Prod.snd, ↓apply_ite Prod.fst, ↓answer_mem, ↓busError_mem, ↓readWord_mem]; (repeat' split) <;> first | (simp only [↓apply_ite State.mem, ite_self, ↓foldl_mem, implies_true, ↓apply_ite Prod.snd, ↓apply_ite Prod.fst, ↓answer_mem, ↓busError_mem, ↓readWord_mem]; done) | rfl | grind [answer_mem, busError_mem, readWord_mem]) | rfl | grind [answer_mem, busError_mem, readWord_mem]

theorem scrubFinding_mem (k : Nat) (s : State) :
    (scrubFinding k s).mem = s.mem := by
  simp only [scrubFinding, ↓apply_ite State.mem, ite_self, ↓foldl_mem, implies_true, ↓issue_mem, ↓poisonWord_mem, ↓raise_mem, ↓slogAdd_mem]

theorem scrubStep_mem (u : ScrubMem) (synd : Syndrome) (s : State) :
    (scrubStep u synd s).1.mem = s.mem := by
  simp only [scrubStep, ↓apply_ite State.mem, ite_self, ↓foldl_mem, implies_true, ↓apply_ite Prod.snd, ↓apply_ite Prod.fst, ↓bump_mem, ↓set_mem, ↓bucketAdd_mem, ↓scrubFinding_mem]; (repeat' split) <;> first | (simp only [↓apply_ite State.mem, ite_self, ↓foldl_mem, implies_true, ↓apply_ite Prod.snd, ↓apply_ite Prod.fst, ↓bump_mem, ↓set_mem, ↓bucketAdd_mem, ↓scrubFinding_mem]; done) | (simp only [↓apply_ite State.mem, ite_self, ↓foldl_mem, implies_true, ↓apply_ite Prod.snd, ↓apply_ite Prod.fst, ↓bump_mem, ↓set_mem, ↓bucketAdd_mem, ↓scrubFinding_mem]; (repeat' split) <;> first | (simp only [↓apply_ite State.mem, ite_self, ↓foldl_mem, implies_true, ↓apply_ite Prod.snd, ↓apply_ite Prod.fst, ↓bump_mem, ↓set_mem, ↓bucketAdd_mem, ↓scrubFinding_mem]; done) | rfl | grind [bump_mem, set_mem, bucketAdd_mem, scrubFinding_mem]) | rfl | grind [bump_mem, set_mem, bucketAdd_mem, scrubFinding_mem]

theorem execScrubDisable_mem (m : Master) (s : State) {s' : State} (hr : execScrubDisable m s = .next s') :
    s'.mem = s.mem := by
  unfold execScrubDisable at hr
  injection hr with hr; subst hr; simp only [↓apply_ite State.mem, ite_self, ↓foldl_mem, implies_true, ↓answer_mem, ↓set_mem, ↓busError_mem]

theorem execBucketLeak_mem (s : State) {s' : State} (hr : execBucketLeak s = .next s') :
    s'.mem = s.mem := by
  unfold execBucketLeak at hr
  injection hr with hr; subst hr; simp only [↓apply_ite State.mem, ite_self, ↓foldl_mem, implies_true, ↓set_mem]

theorem setXfer_mem (s : State) (c : Nat) (x : XferSt) :
    (State.setXfer s c x).mem = s.mem := by
  simp only [State.setXfer, ↓apply_ite State.mem, ite_self, ↓foldl_mem, implies_true]

theorem execXferStart_mem (m : Master) (c : Fin 8) (s : State) {s' : State} (hr : execXferStart m c s = .next s') :
    s'.mem = s.mem := by
  unfold execXferStart at hr
  injection hr with hr; subst hr; simp only [↓apply_ite State.mem, ite_self, ↓foldl_mem, implies_true, ↓answer_mem, ↓set_mem, ↓setXfer_mem, ↓busError_mem]

theorem xferStop_mem (c : Nat) (dropped : Nat) (s : State) :
    (xferStop c dropped s).mem = s.mem := by
  simp only [xferStop, ↓apply_ite State.mem, ite_self, ↓foldl_mem, implies_true, ↓bump_mem, ↓set_mem, ↓setXfer_mem]

theorem ashPush_mem (source : Nat) (code : Nat) (cls : Nat) (body : List Byte) (s : State) :
    (ashPush source code cls body s).mem = s.mem := by
  simp only [ashPush, ↓apply_ite State.mem, ite_self, ↓foldl_mem, implies_true, ↓bump_mem, ↓set_mem]

theorem setCg_mem (s : State) (g : Nat) (x : CgSt) :
    (State.setCg s g x).mem = s.mem := by
  simp only [State.setCg, ↓apply_ite State.mem, ite_self, ↓foldl_mem, implies_true]

theorem setLeg_mem (s : State) (l : Nat) (x : LegSt) :
    (State.setLeg s l x).mem = s.mem := by
  simp only [State.setLeg, ↓apply_ite State.mem, ite_self, ↓foldl_mem, implies_true]

theorem setSw_mem (s : State) (k : Nat) (x : SwSt) :
    (State.setSw s k x).mem = s.mem := by
  simp only [State.setSw, ↓apply_ite State.mem, ite_self, ↓foldl_mem, implies_true]

theorem setPset_mem (s : State) (p : Nat) (x : PsetSt) :
    (State.setPset s p x).mem = s.mem := by
  simp only [State.setPset, ↓apply_ite State.mem, ite_self, ↓foldl_mem, implies_true]

theorem setCompar_mem (s : State) (c : Nat) (x : CompSt) :
    (State.setCompar s c x).mem = s.mem := by
  simp only [State.setCompar, ↓apply_ite State.mem, ite_self, ↓foldl_mem, implies_true]

theorem showBridge_mem (b : Nat) (s : State) :
    (showBridge b s).mem = s.mem := by
  simp only [showBridge, ↓apply_ite State.mem, ite_self, ↓foldl_mem, implies_true, ↓set_mem, ↓setB_mem, ↓setBit_mem]

theorem legCommand_mem (l : Nat) (s : State) :
    (legCommand l s).mem = s.mem := by
  simp only [legCommand, ↓apply_ite State.mem, ite_self, ↓foldl_mem, implies_true, ↓showBridge_mem]; (repeat' split) <;> first | (simp only [↓apply_ite State.mem, ite_self, ↓foldl_mem, implies_true, ↓showBridge_mem]; done) | (simp only [↓apply_ite State.mem, ite_self, ↓foldl_mem, implies_true, ↓showBridge_mem]; (repeat' split) <;> first | (simp only [↓apply_ite State.mem, ite_self, ↓foldl_mem, implies_true, ↓showBridge_mem]; done) | rfl | grind [showBridge_mem]) | rfl | grind [showBridge_mem]

theorem edgeIssued_mem (l : Nat) (s : State) :
    (edgeIssued l s).mem = s.mem := by
  simp only [edgeIssued, ↓apply_ite State.mem, ite_self, ↓foldl_mem, implies_true, ↓setCompar_mem]

theorem switchOff_mem (k : Nat) (s : State) :
    (switchOff k s).mem = s.mem := by
  simp only [switchOff, ↓apply_ite State.mem, ite_self, ↓foldl_mem, implies_true, ↓setSw_mem, ↓edgeIssued_mem, ↓legCommand_mem]

theorem tryOn_mem (k : Nat) (s : State) :
    (tryOn k s).mem = s.mem := by
  simp only [tryOn, ↓apply_ite State.mem, ite_self, ↓foldl_mem, implies_true, ↓setSw_mem, ↓edgeIssued_mem, ↓legCommand_mem]

theorem enforceLeg_mem (l : Nat) (s : State) :
    (enforceLeg l s).mem = s.mem := by
  simp only [enforceLeg, ↓apply_ite State.mem, ite_self, ↓foldl_mem, implies_true, ↓setSw_mem, ↓showBridge_mem, ↓switchOff_mem, ↓tryOn_mem]; (repeat' split) <;> first | (simp only [↓apply_ite State.mem, ite_self, ↓foldl_mem, implies_true, ↓setSw_mem, ↓showBridge_mem, ↓switchOff_mem, ↓tryOn_mem]; done) | (simp only [↓apply_ite State.mem, ite_self, ↓foldl_mem, implies_true, ↓setSw_mem, ↓showBridge_mem, ↓switchOff_mem, ↓tryOn_mem]; (repeat' split) <;> first | (simp only [↓apply_ite State.mem, ite_self, ↓foldl_mem, implies_true, ↓setSw_mem, ↓showBridge_mem, ↓switchOff_mem, ↓tryOn_mem]; done) | rfl | grind [setSw_mem, showBridge_mem, switchOff_mem, tryOn_mem]) | rfl | grind [setSw_mem, showBridge_mem, switchOff_mem, tryOn_mem]

theorem enforceLegs_mem (ls : List Nat) (s : State) :
    (enforceLegs ls s).mem = s.mem := by
  simp only [enforceLegs, ↓apply_ite State.mem, ite_self, ↓foldl_mem, implies_true, ↓enforceLeg_mem]

theorem enforceAll_mem (s : State) :
    (enforceAll s).mem = s.mem := by
  simp only [enforceAll, ↓apply_ite State.mem, ite_self, ↓foldl_mem, implies_true, ↓enforceLegs_mem]

theorem disarm_mem (ls : List Nat) (s : State) :
    (disarm ls s).mem = s.mem := by
  simp only [disarm, ↓apply_ite State.mem, ite_self, ↓foldl_mem, implies_true, ↓set_mem, ↓setLeg_mem]

theorem showOffReq_mem (l : Nat) (s : State) :
    (showOffReq l s).mem = s.mem := by
  simp only [showOffReq, ↓apply_ite State.mem, ite_self, ↓foldl_mem, implies_true, ↓setB_mem]

theorem setWhorl_mem (s : State) (w : Nat) (x : WhorlSt) :
    (State.setWhorl s w x).mem = s.mem := by
  simp only [State.setWhorl, ↓apply_ite State.mem, ite_self, ↓foldl_mem, implies_true]

theorem setLoopSt_mem (s : State) (w : Nat) (l : Nat) (x : LoopSt) :
    (State.setLoopSt s w l x).mem = s.mem := by
  simp only [State.setLoopSt, ↓apply_ite State.mem, ite_self, ↓foldl_mem, implies_true, ↓setWhorl_mem]

theorem setExe_mem (s : State) (w : Nat) (e : ExecSt) :
    (State.setExe s w e).mem = s.mem := by
  simp only [State.setExe, ↓apply_ite State.mem, ite_self, ↓foldl_mem, implies_true, ↓setWhorl_mem]

theorem lockstep_mem (w : Nat) (f : Nat → Nat → State → State) (s : State) (hf : ∀ v0 v1 t, (f v0 v1 t).mem = t.mem) :
    (lockstep w f s).mem = s.mem := by
  simp only [lockstep, ↓apply_ite State.mem, ite_self, ↓foldl_mem, implies_true, hf]; (repeat' split) <;> first | (simp only [↓apply_ite State.mem, ite_self, ↓foldl_mem, implies_true, hf]; done) | (simp only [↓apply_ite State.mem, ite_self, ↓foldl_mem, implies_true, hf]; (repeat' split) <;> first | (simp only [↓apply_ite State.mem, ite_self, ↓foldl_mem, implies_true, hf]; done) | rfl | grind) | rfl | grind

theorem orFlags_mem (o : Nat) (v : Nat) (l : Nat) (f : Flags) (s : State) :
    (orFlags o v l f s).mem = s.mem := by
  simp only [orFlags, ↓apply_ite State.mem, ite_self, ↓foldl_mem, implies_true, ↓set_mem, ↓raise_mem]

theorem endExec_mem (o : Nat) (v : Nat) (ph : ExecPhase) (s : State) :
    (endExec o v ph s).mem = s.mem := by
  simp only [endExec, ↓apply_ite State.mem, ite_self, ↓foldl_mem, implies_true, ↓setExe_mem, ↓orFlags_mem]

theorem endIfPast_mem (o : Nat) (v : Nat) (s : State) :
    (endIfPast o v s).mem = s.mem := by
  simp only [endIfPast, ↓apply_ite State.mem, ite_self, ↓foldl_mem, implies_true, ↓setExe_mem, ↓endExec_mem]

theorem onSlot_mem (slot : Fin 2) (us : List Nat) (act : State → State) (o : Nat) (v : Nat) (s : State) (hact : ∀ t, (act t).mem = t.mem) :
    (onSlot slot us act o v s).mem = s.mem := by
  simp only [onSlot, ↓apply_ite State.mem, ite_self, ↓foldl_mem, implies_true, ↓setExe_mem, ↓endIfPast_mem, hact]; (repeat' split) <;> first | (simp only [↓apply_ite State.mem, ite_self, ↓foldl_mem, implies_true, ↓setExe_mem, ↓endIfPast_mem, hact]; done) | (simp only [↓apply_ite State.mem, ite_self, ↓foldl_mem, implies_true, ↓setExe_mem, ↓endIfPast_mem, hact]; (repeat' split) <;> first | (simp only [↓apply_ite State.mem, ite_self, ↓foldl_mem, implies_true, ↓setExe_mem, ↓endIfPast_mem, hact]; done) | rfl | grind [setExe_mem, endIfPast_mem]) | rfl | grind [setExe_mem, endIfPast_mem]

theorem slotRow_mem (w : Fin 8) (slot : Fin 2) (us : List Nat) (hz : List (Fin 36)) (act : Nat → Nat → State → State) (s : State) {s' :
    State} (hact : ∀ v0 v1 t, (act v0 v1 t).mem = t.mem) (hr : slotRow w slot us hz act s = .next s') :
    s'.mem = s.mem := by
  unfold slotRow at hr
  injection hr with hr; subst hr; simp only [↓apply_ite State.mem, ite_self, ↓foldl_mem, implies_true, ↓lockstep_mem, ↓onSlot_mem, hact]

theorem onExe_mem (slot : Fin 2) (f : ExecSt → ExecSt) (v : Nat) (s : State) :
    (onExe slot f v s).mem = s.mem := by
  simp only [onExe, ↓apply_ite State.mem, ite_self, ↓foldl_mem, implies_true, ↓setExe_mem]

theorem regRow_mem (w : Fin 8) (slot : Fin 2) (us : List Nat) (hz : List (Fin 36)) (d : Fin 32) (lat : Nat) (f : ExecSt → Word × Flags)
    (s : State) {s' : State} (hr : regRow w slot us hz d lat f s = .next s') :
    s'.mem = s.mem := by
  unfold regRow at hr
  exact slotRow_mem _ _ _ _ _ _ (by intros; first | (simp only [↓apply_ite State.mem, ite_self, ↓foldl_mem, implies_true, ↓onExe_mem]; done) | ((repeat' split) <;> first | (simp only [↓apply_ite State.mem, ite_self, ↓foldl_mem, implies_true, ↓onExe_mem]; done) | (simp only [↓apply_ite State.mem, ite_self, ↓foldl_mem, implies_true, ↓onExe_mem]; (repeat' split) <;> first | (simp only [↓apply_ite State.mem, ite_self, ↓foldl_mem, implies_true, ↓onExe_mem]; done) | rfl | grind [onExe_mem]) | rfl | grind [onExe_mem])) hr

theorem illegalAct_mem (slot : Fin 2) (y1 : Nat) (v : Nat) (s : State) :
    (illegalAct slot y1 v s).mem = s.mem := by
  simp only [illegalAct, ↓apply_ite State.mem, ite_self, ↓foldl_mem, implies_true, ↓onExe_mem]

theorem slot0Row_mem (w : Fin 8) (slot : Fin 2) (us : List Nat) (hz : List (Fin 36)) (legal : Bool) (act : Nat → Nat → State → State) (s
    : State) {s' : State} (hact : ∀ v0 v1 t, (act v0 v1 t).mem = t.mem) (hr : slot0Row w slot us hz legal act s = .next s') :
    s'.mem = s.mem := by
  unfold slot0Row at hr
  split at hr
  · exact slotRow_mem _ _ _ _ _ _ hact hr
  · exact slotRow_mem _ _ _ _ _ _ (fun _ _ _ => illegalAct_mem _ _ _ _) hr

theorem execUnitResultRetire_mem (w : Fin 8) (s : State) {s' : State} (hr : execUnitResultRetire w s = .next s') :
    s'.mem = s.mem := by
  unfold execUnitResultRetire at hr
  injection hr with hr; subst hr; simp only [↓apply_ite State.mem, ite_self, ↓foldl_mem, implies_true, ↓setExe_mem, ↓lockstep_mem]; (repeat' split) <;> first | (simp only [↓apply_ite State.mem, ite_self, ↓foldl_mem, implies_true, ↓setExe_mem, ↓lockstep_mem]; done) | (simp only [↓apply_ite State.mem, ite_self, ↓foldl_mem, implies_true, ↓setExe_mem, ↓lockstep_mem]; (repeat' split) <;> first | (simp only [↓apply_ite State.mem, ite_self, ↓foldl_mem, implies_true, ↓setExe_mem, ↓lockstep_mem]; done) | rfl | grind [setExe_mem, lockstep_mem]) | rfl | grind [setExe_mem, lockstep_mem]

theorem execWhlIllegalOperation_mem (w : Fin 8) (slot : Fin 2) (hz : List (Fin 36)) (s : State) {s' : State} (hr :
    execWhlIllegalOperation w slot hz s = .next s') :
    s'.mem = s.mem := by
  unfold execWhlIllegalOperation at hr
  exact slotRow_mem _ _ _ _ _ _ (by intros; first | (simp only [↓apply_ite State.mem, ite_self, ↓foldl_mem, implies_true, ↓illegalAct_mem]; done) | ((repeat' split) <;> first | (simp only [↓apply_ite State.mem, ite_self, ↓foldl_mem, implies_true, ↓illegalAct_mem]; done) | (simp only [↓apply_ite State.mem, ite_self, ↓foldl_mem, implies_true, ↓illegalAct_mem]; (repeat' split) <;> first | (simp only [↓apply_ite State.mem, ite_self, ↓foldl_mem, implies_true, ↓illegalAct_mem]; done) | rfl | grind [illegalAct_mem]) | rfl | grind [illegalAct_mem])) hr

theorem aluRow_mem (w : Fin 8) (slot : Fin 2) (d : Fin 32) (a : Fin 32) (b : Fin 32) (hz : List (Fin 36)) (f : Word → Word → Word ×
    Flags) (s : State) {s' : State} (hr : aluRow w slot d a b hz f s = .next s') :
    s'.mem = s.mem := by
  unfold aluRow at hr
  exact regRow_mem _ _ _ _ _ _ _ _ hr

theorem alu1Row_mem (w : Fin 8) (slot : Fin 2) (d : Fin 32) (a : Fin 32) (hz : List (Fin 36)) (f : Word → Word × Flags) (s : State) {s' :
    State} (hr : alu1Row w slot d a hz f s = .next s') :
    s'.mem = s.mem := by
  unfold alu1Row at hr
  exact regRow_mem _ _ _ _ _ _ _ _ hr

theorem execWhlNop_mem (w : Fin 8) (slot : Fin 2) (hz : List (Fin 36)) (ue : Bool) (s : State) {s' : State} (hr : execWhlNop w slot hz ue
    s = .next s') :
    s'.mem = s.mem := by
  unfold execWhlNop at hr
  exact slotRow_mem _ _ _ _ _ _ (by intros; first | (simp only [↓apply_ite State.mem, ite_self, ↓foldl_mem, implies_true, ↓apply_ite Prod.snd, ↓apply_ite Prod.fst, ↓onExe_mem, ↓readWord_mem]; done) | ((repeat' split) <;> first | (simp only [↓apply_ite State.mem, ite_self, ↓foldl_mem, implies_true, ↓apply_ite Prod.snd, ↓apply_ite Prod.fst, ↓onExe_mem, ↓readWord_mem]; done) | (simp only [↓apply_ite State.mem, ite_self, ↓foldl_mem, implies_true, ↓apply_ite Prod.snd, ↓apply_ite Prod.fst, ↓onExe_mem, ↓readWord_mem]; (repeat' split) <;> first | (simp only [↓apply_ite State.mem, ite_self, ↓foldl_mem, implies_true, ↓apply_ite Prod.snd, ↓apply_ite Prod.fst, ↓onExe_mem, ↓readWord_mem]; done) | rfl | grind [onExe_mem, readWord_mem]) | rfl | grind [onExe_mem, readWord_mem])) hr

theorem execWhlAdd_mem (w : Fin 8) (slot : Fin 2) (d : Fin 32) (a : Fin 32) (b : Fin 32) (hz : List (Fin 36)) (s : State) {s' : State}
    (hr : execWhlAdd w slot d a b hz s = .next s') :
    s'.mem = s.mem := by
  unfold execWhlAdd at hr
  exact aluRow_mem _ _ _ _ _ _ _ _ hr

theorem execWhlSub_mem (w : Fin 8) (slot : Fin 2) (d : Fin 32) (a : Fin 32) (b : Fin 32) (hz : List (Fin 36)) (s : State) {s' : State}
    (hr : execWhlSub w slot d a b hz s = .next s') :
    s'.mem = s.mem := by
  unfold execWhlSub at hr
  exact aluRow_mem _ _ _ _ _ _ _ _ hr

theorem execWhlAddw_mem (w : Fin 8) (slot : Fin 2) (d : Fin 32) (a : Fin 32) (b : Fin 32) (hz : List (Fin 36)) (s : State) {s' : State}
    (hr : execWhlAddw w slot d a b hz s = .next s') :
    s'.mem = s.mem := by
  unfold execWhlAddw at hr
  exact aluRow_mem _ _ _ _ _ _ _ _ hr

theorem execWhlSubw_mem (w : Fin 8) (slot : Fin 2) (d : Fin 32) (a : Fin 32) (b : Fin 32) (hz : List (Fin 36)) (s : State) {s' : State}
    (hr : execWhlSubw w slot d a b hz s = .next s') :
    s'.mem = s.mem := by
  unfold execWhlSubw at hr
  exact aluRow_mem _ _ _ _ _ _ _ _ hr

theorem execWhlNeg_mem (w : Fin 8) (slot : Fin 2) (d : Fin 32) (a : Fin 32) (hz : List (Fin 36)) (s : State) {s' : State} (hr :
    execWhlNeg w slot d a hz s = .next s') :
    s'.mem = s.mem := by
  unfold execWhlNeg at hr
  exact alu1Row_mem _ _ _ _ _ _ _ hr

theorem execWhlAbs_mem (w : Fin 8) (slot : Fin 2) (d : Fin 32) (a : Fin 32) (hz : List (Fin 36)) (s : State) {s' : State} (hr :
    execWhlAbs w slot d a hz s = .next s') :
    s'.mem = s.mem := by
  unfold execWhlAbs at hr
  exact alu1Row_mem _ _ _ _ _ _ _ hr

theorem execWhlMin_mem (w : Fin 8) (slot : Fin 2) (d : Fin 32) (a : Fin 32) (b : Fin 32) (hz : List (Fin 36)) (s : State) {s' : State}
    (hr : execWhlMin w slot d a b hz s = .next s') :
    s'.mem = s.mem := by
  unfold execWhlMin at hr
  exact aluRow_mem _ _ _ _ _ _ _ _ hr

theorem execWhlMax_mem (w : Fin 8) (slot : Fin 2) (d : Fin 32) (a : Fin 32) (b : Fin 32) (hz : List (Fin 36)) (s : State) {s' : State}
    (hr : execWhlMax w slot d a b hz s = .next s') :
    s'.mem = s.mem := by
  unfold execWhlMax at hr
  exact aluRow_mem _ _ _ _ _ _ _ _ hr

theorem execWhlClmp_mem (w : Fin 8) (slot : Fin 2) (d : Fin 32) (a : Fin 32) (b : Fin 32) (hz : List (Fin 36)) (s : State) {s' : State}
    (hr : execWhlClmp w slot d a b hz s = .next s') :
    s'.mem = s.mem := by
  unfold execWhlClmp at hr
  exact aluRow_mem _ _ _ _ _ _ _ _ hr

theorem execWhlAnd_mem (w : Fin 8) (slot : Fin 2) (d : Fin 32) (a : Fin 32) (b : Fin 32) (hz : List (Fin 36)) (s : State) {s' : State}
    (hr : execWhlAnd w slot d a b hz s = .next s') :
    s'.mem = s.mem := by
  unfold execWhlAnd at hr
  exact aluRow_mem _ _ _ _ _ _ _ _ hr

theorem execWhlOr_mem (w : Fin 8) (slot : Fin 2) (d : Fin 32) (a : Fin 32) (b : Fin 32) (hz : List (Fin 36)) (s : State) {s' : State} (hr
    : execWhlOr w slot d a b hz s = .next s') :
    s'.mem = s.mem := by
  unfold execWhlOr at hr
  exact aluRow_mem _ _ _ _ _ _ _ _ hr

theorem execWhlXor_mem (w : Fin 8) (slot : Fin 2) (d : Fin 32) (a : Fin 32) (b : Fin 32) (hz : List (Fin 36)) (s : State) {s' : State}
    (hr : execWhlXor w slot d a b hz s = .next s') :
    s'.mem = s.mem := by
  unfold execWhlXor at hr
  exact aluRow_mem _ _ _ _ _ _ _ _ hr

theorem execWhlShl_mem (w : Fin 8) (slot : Fin 2) (d : Fin 32) (a : Fin 32) (imm : BitVec 16) (hz : List (Fin 36)) (s : State) {s' :
    State} (hr : execWhlShl w slot d a imm hz s = .next s') :
    s'.mem = s.mem := by
  unfold execWhlShl at hr
  exact alu1Row_mem _ _ _ _ _ _ _ hr

theorem execWhlSar_mem (w : Fin 8) (slot : Fin 2) (d : Fin 32) (a : Fin 32) (imm : BitVec 16) (hz : List (Fin 36)) (s : State) {s' :
    State} (hr : execWhlSar w slot d a imm hz s = .next s') :
    s'.mem = s.mem := by
  unfold execWhlSar at hr
  exact alu1Row_mem _ _ _ _ _ _ _ hr

theorem execWhlShr_mem (w : Fin 8) (slot : Fin 2) (d : Fin 32) (a : Fin 32) (imm : BitVec 16) (hz : List (Fin 36)) (s : State) {s' :
    State} (hr : execWhlShr w slot d a imm hz s = .next s') :
    s'.mem = s.mem := by
  unfold execWhlShr at hr
  exact alu1Row_mem _ _ _ _ _ _ _ hr

theorem execWhlLih_mem (w : Fin 8) (slot : Fin 2) (d : Fin 32) (imm : BitVec 16) (hz : List (Fin 36)) (s : State) {s' : State} (hr :
    execWhlLih w slot d imm hz s = .next s') :
    s'.mem = s.mem := by
  unfold execWhlLih at hr
  exact regRow_mem _ _ _ _ _ _ _ _ hr

theorem execWhlLil_mem (w : Fin 8) (slot : Fin 2) (d : Fin 32) (imm : BitVec 16) (hz : List (Fin 36)) (s : State) {s' : State} (hr :
    execWhlLil w slot d imm hz s = .next s') :
    s'.mem = s.mem := by
  unfold execWhlLil at hr
  exact regRow_mem _ _ _ _ _ _ _ _ hr

theorem execWhlAddi_mem (w : Fin 8) (slot : Fin 2) (d : Fin 32) (a : Fin 32) (imm : BitVec 16) (hz : List (Fin 36)) (s : State) {s' :
    State} (hr : execWhlAddi w slot d a imm hz s = .next s') :
    s'.mem = s.mem := by
  unfold execWhlAddi at hr
  exact alu1Row_mem _ _ _ _ _ _ _ hr

theorem execWhlSlt_mem (w : Fin 8) (slot : Fin 2) (d : Fin 32) (a : Fin 32) (b : Fin 32) (hz : List (Fin 36)) (s : State) {s' : State}
    (hr : execWhlSlt w slot d a b hz s = .next s') :
    s'.mem = s.mem := by
  unfold execWhlSlt at hr
  exact aluRow_mem _ _ _ _ _ _ _ _ hr

theorem execWhlCmov_mem (w : Fin 8) (slot : Fin 2) (d : Fin 32) (a : Fin 32) (b : Fin 32) (hz : List (Fin 36)) (s : State) {s' : State}
    (hr : execWhlCmov w slot d a b hz s = .next s') :
    s'.mem = s.mem := by
  unfold execWhlCmov at hr
  exact regRow_mem _ _ _ _ _ _ _ _ hr

theorem execWhlFlg_mem (w : Fin 8) (slot : Fin 2) (d : Fin 32) (hz : List (Fin 36)) (s : State) {s' : State} (hr : execWhlFlg w slot d hz
    s = .next s') :
    s'.mem = s.mem := by
  unfold execWhlFlg at hr
  exact slotRow_mem _ _ _ _ _ _ (by intros; first | (simp only [↓apply_ite State.mem, ite_self, ↓foldl_mem, implies_true, ↓onExe_mem]; done) | ((repeat' split) <;> first | (simp only [↓apply_ite State.mem, ite_self, ↓foldl_mem, implies_true, ↓onExe_mem]; done) | (simp only [↓apply_ite State.mem, ite_self, ↓foldl_mem, implies_true, ↓onExe_mem]; (repeat' split) <;> first | (simp only [↓apply_ite State.mem, ite_self, ↓foldl_mem, implies_true, ↓onExe_mem]; done) | rfl | grind [onExe_mem]) | rfl | grind [onExe_mem])) hr

theorem execWhlMul_mem (w : Fin 8) (slot : Fin 2) (d : Fin 32) (a : Fin 32) (b : Fin 32) (hz : List (Fin 36)) (s : State) {s' : State}
    (hr : execWhlMul w slot d a b hz s = .next s') :
    s'.mem = s.mem := by
  unfold execWhlMul at hr
  exact regRow_mem _ _ _ _ _ _ _ _ hr

theorem accRow_mem (w : Fin 8) (slot : Fin 2) (acc : Fin 4) (us : List Nat) (hz : List (Fin 36)) (f : ExecSt → FlightOp) (s : State) {s'
    : State} (hr : accRow w slot acc us hz f s = .next s') :
    s'.mem = s.mem := by
  unfold accRow at hr
  exact slotRow_mem _ _ _ _ _ _ (by intros; first | (simp only [↓apply_ite State.mem, ite_self, ↓foldl_mem, implies_true, ↓onExe_mem]; done) | ((repeat' split) <;> first | (simp only [↓apply_ite State.mem, ite_self, ↓foldl_mem, implies_true, ↓onExe_mem]; done) | (simp only [↓apply_ite State.mem, ite_self, ↓foldl_mem, implies_true, ↓onExe_mem]; (repeat' split) <;> first | (simp only [↓apply_ite State.mem, ite_self, ↓foldl_mem, implies_true, ↓onExe_mem]; done) | rfl | grind [onExe_mem]) | rfl | grind [onExe_mem])) hr

theorem execWhlMac_mem (w : Fin 8) (slot : Fin 2) (acc : Fin 4) (a : Fin 32) (b : Fin 32) (hz : List (Fin 36)) (s : State) {s' : State}
    (hr : execWhlMac w slot acc a b hz s = .next s') :
    s'.mem = s.mem := by
  unfold execWhlMac at hr
  exact accRow_mem _ _ _ _ _ _ _ hr

theorem execWhlMsu_mem (w : Fin 8) (slot : Fin 2) (acc : Fin 4) (a : Fin 32) (b : Fin 32) (hz : List (Fin 36)) (s : State) {s' : State}
    (hr : execWhlMsu w slot acc a b hz s = .next s') :
    s'.mem = s.mem := by
  unfold execWhlMsu at hr
  exact accRow_mem _ _ _ _ _ _ _ hr

theorem execWhlAld_mem (w : Fin 8) (slot : Fin 2) (acc : Fin 4) (a : Fin 32) (hz : List (Fin 36)) (s : State) {s' : State} (hr :
    execWhlAld w slot acc a hz s = .next s') :
    s'.mem = s.mem := by
  unfold execWhlAld at hr
  exact accRow_mem _ _ _ _ _ _ _ hr

theorem execWhlArd_mem (w : Fin 8) (slot : Fin 2) (d : Fin 32) (acc : Fin 4) (hz : List (Fin 36)) (s : State) {s' : State} (hr :
    execWhlArd w slot d acc hz s = .next s') :
    s'.mem = s.mem := by
  unfold execWhlArd at hr
  exact regRow_mem _ _ _ _ _ _ _ _ hr

theorem execWhlAclp_mem (w : Fin 8) (slot : Fin 2) (acc : Fin 4) (a : Fin 32) (hz : List (Fin 36)) (s : State) {s' : State} (hr :
    execWhlAclp w slot acc a hz s = .next s') :
    s'.mem = s.mem := by
  unfold execWhlAclp at hr
  exact accRow_mem _ _ _ _ _ _ _ hr

theorem pairRow_mem (w : Fin 8) (slot : Fin 2) (d : Fin 32) (us : List Nat) (legal : Bool) (hz : List (Fin 36)) (f : ExecSt → Word × Word
    × Flags) (s : State) {s' : State} (hr : pairRow w slot d us legal hz f s = .next s') :
    s'.mem = s.mem := by
  unfold pairRow at hr
  exact slot0Row_mem _ _ _ _ _ _ _ (by intros; first | (simp only [↓apply_ite State.mem, ite_self, ↓foldl_mem, implies_true, ↓onExe_mem]; done) | ((repeat' split) <;> first | (simp only [↓apply_ite State.mem, ite_self, ↓foldl_mem, implies_true, ↓onExe_mem]; done) | (simp only [↓apply_ite State.mem, ite_self, ↓foldl_mem, implies_true, ↓onExe_mem]; (repeat' split) <;> first | (simp only [↓apply_ite State.mem, ite_self, ↓foldl_mem, implies_true, ↓onExe_mem]; done) | rfl | grind [onExe_mem]) | rfl | grind [onExe_mem])) hr

theorem execWhlRot_mem (w : Fin 8) (slot : Fin 2) (d : Fin 32) (a : Fin 32) (b : Fin 32) (hz : List (Fin 36)) (s : State) {s' : State}
    (hr : execWhlRot w slot d a b hz s = .next s') :
    s'.mem = s.mem := by
  unfold execWhlRot at hr
  exact pairRow_mem _ _ _ _ _ _ _ _ hr

theorem execWhlVec_mem (w : Fin 8) (slot : Fin 2) (d : Fin 32) (a : Fin 32) (hz : List (Fin 36)) (s : State) {s' : State} (hr :
    execWhlVec w slot d a hz s = .next s') :
    s'.mem = s.mem := by
  unfold execWhlVec at hr
  exact pairRow_mem _ _ _ _ _ _ _ _ hr

theorem execWhlScs_mem (w : Fin 8) (slot : Fin 2) (d : Fin 32) (a : Fin 32) (hz : List (Fin 36)) (s : State) {s' : State} (hr :
    execWhlScs w slot d a hz s = .next s') :
    s'.mem = s.mem := by
  unfold execWhlScs at hr
  exact pairRow_mem _ _ _ _ _ _ _ _ hr

theorem unitRow_mem (w : Fin 8) (slot : Fin 2) (d : Fin 32) (a : Fin 32) (lat : Nat) (hz : List (Fin 36)) (f : Word → Word × Flags) (s :
    State) {s' : State} (hr : unitRow w slot d a lat hz f s = .next s') :
    s'.mem = s.mem := by
  unfold unitRow at hr
  exact slot0Row_mem _ _ _ _ _ _ _ (by intros; first | (simp only [↓apply_ite State.mem, ite_self, ↓foldl_mem, implies_true, ↓onExe_mem]; done) | ((repeat' split) <;> first | (simp only [↓apply_ite State.mem, ite_self, ↓foldl_mem, implies_true, ↓onExe_mem]; done) | (simp only [↓apply_ite State.mem, ite_self, ↓foldl_mem, implies_true, ↓onExe_mem]; (repeat' split) <;> first | (simp only [↓apply_ite State.mem, ite_self, ↓foldl_mem, implies_true, ↓onExe_mem]; done) | rfl | grind [onExe_mem]) | rfl | grind [onExe_mem])) hr

theorem execWhlRcp_mem (w : Fin 8) (slot : Fin 2) (d : Fin 32) (a : Fin 32) (hz : List (Fin 36)) (s : State) {s' : State} (hr :
    execWhlRcp w slot d a hz s = .next s') :
    s'.mem = s.mem := by
  unfold execWhlRcp at hr
  exact unitRow_mem _ _ _ _ _ _ _ _ hr

theorem execWhlSqrt_mem (w : Fin 8) (slot : Fin 2) (d : Fin 32) (a : Fin 32) (hz : List (Fin 36)) (s : State) {s' : State} (hr :
    execWhlSqrt w slot d a hz s = .next s') :
    s'.mem = s.mem := by
  unfold execWhlSqrt at hr
  exact unitRow_mem _ _ _ _ _ _ _ _ hr

theorem loadWord_mem (o : Nat) (v : Nat) (key : Nat) (synd : Syndrome) (s : State) :
    (loadWord o v key synd s).2.mem = s.mem := by
  simp only [loadWord, ↓apply_ite State.mem, ite_self, ↓foldl_mem, implies_true, ↓apply_ite Prod.snd, ↓apply_ite Prod.fst, ↓setExe_mem, ↓readWord_mem]; (repeat' split) <;> first | (simp only [↓apply_ite State.mem, ite_self, ↓foldl_mem, implies_true, ↓apply_ite Prod.snd, ↓apply_ite Prod.fst, ↓setExe_mem, ↓readWord_mem]; done) | (simp only [↓apply_ite State.mem, ite_self, ↓foldl_mem, implies_true, ↓apply_ite Prod.snd, ↓apply_ite Prod.fst, ↓setExe_mem, ↓readWord_mem]; (repeat' split) <;> first | (simp only [↓apply_ite State.mem, ite_self, ↓foldl_mem, implies_true, ↓apply_ite Prod.snd, ↓apply_ite Prod.fst, ↓setExe_mem, ↓readWord_mem]; done) | rfl | grind [setExe_mem, readWord_mem]) | rfl | grind [setExe_mem, readWord_mem]

theorem tblAct_mem (slot : Fin 2) (d : Fin 32) (a : Fin 32) (t : Nat) (synd : Syndrome) (o : Nat) (v : Nat) (s : State) :
    (tblAct slot d a t synd o v s).mem = s.mem := by
  simp only [tblAct, ↓apply_ite State.mem, ite_self, ↓foldl_mem, implies_true, ↓loadWord_mem, ↓onExe_mem]

theorem execWhlTbl_mem (w : Fin 8) (slot : Fin 2) (d : Fin 32) (a : Fin 32) (t : Fin 16) (synd : Syndrome) (hz : List (Fin 36)) (s :
    State) {s' : State} (hr : execWhlTbl w slot d a t synd hz s = .next s') :
    s'.mem = s.mem := by
  unfold execWhlTbl at hr
  exact slot0Row_mem _ _ _ _ _ _ _ (by intros; first | (simp only [↓apply_ite State.mem, ite_self, ↓foldl_mem, implies_true, ↓tblAct_mem]; done) | ((repeat' split) <;> first | (simp only [↓apply_ite State.mem, ite_self, ↓foldl_mem, implies_true, ↓tblAct_mem]; done) | (simp only [↓apply_ite State.mem, ite_self, ↓foldl_mem, implies_true, ↓tblAct_mem]; (repeat' split) <;> first | (simp only [↓apply_ite State.mem, ite_self, ↓foldl_mem, implies_true, ↓tblAct_mem]; done) | rfl | grind [tblAct_mem]) | rfl | grind [tblAct_mem])) hr

theorem execWhlIn_mem (w : Fin 8) (slot : Fin 2) (d : Fin 32) (p : Fin 64) (hz : List (Fin 36)) (s : State) {s' : State} (hr : execWhlIn
    w slot d p hz s = .next s') :
    s'.mem = s.mem := by
  unfold execWhlIn at hr
  exact slotRow_mem _ _ _ _ _ _ (by intros; first | (simp only [↓apply_ite State.mem, ite_self, ↓foldl_mem, implies_true, ↓onExe_mem]; done) | ((repeat' split) <;> first | (simp only [↓apply_ite State.mem, ite_self, ↓foldl_mem, implies_true, ↓onExe_mem]; done) | (simp only [↓apply_ite State.mem, ite_self, ↓foldl_mem, implies_true, ↓onExe_mem]; (repeat' split) <;> first | (simp only [↓apply_ite State.mem, ite_self, ↓foldl_mem, implies_true, ↓onExe_mem]; done) | rfl | grind [onExe_mem]) | rfl | grind [onExe_mem])) hr

theorem setFlagNow_mem (slot : Fin 2) (o : Nat) (v : Nat) (f : Flags) (s : State) :
    (setFlagNow slot o v f s).mem = s.mem := by
  simp only [setFlagNow, ↓apply_ite State.mem, ite_self, ↓foldl_mem, implies_true, ↓setExe_mem, ↓orFlags_mem]

theorem execWhlOut_mem (w : Fin 8) (slot : Fin 2) (p : Fin 64) (src : Fin 32) (hz : List (Fin 36)) (s : State) {s' : State} (hr :
    execWhlOut w slot p src hz s = .next s') :
    s'.mem = s.mem := by
  unfold execWhlOut at hr
  exact slotRow_mem _ _ _ _ _ _ (by intros; first | (simp only [↓apply_ite State.mem, ite_self, ↓foldl_mem, implies_true, ↓setExe_mem, ↓setWhorl_mem, ↓onExe_mem, ↓setFlagNow_mem]; done) | ((repeat' split) <;> first | (simp only [↓apply_ite State.mem, ite_self, ↓foldl_mem, implies_true, ↓setExe_mem, ↓setWhorl_mem, ↓onExe_mem, ↓setFlagNow_mem]; done) | (simp only [↓apply_ite State.mem, ite_self, ↓foldl_mem, implies_true, ↓setExe_mem, ↓setWhorl_mem, ↓onExe_mem, ↓setFlagNow_mem]; (repeat' split) <;> first | (simp only [↓apply_ite State.mem, ite_self, ↓foldl_mem, implies_true, ↓setExe_mem, ↓setWhorl_mem, ↓onExe_mem, ↓setFlagNow_mem]; done) | rfl | grind [setExe_mem, setWhorl_mem, onExe_mem, setFlagNow_mem]) | rfl | grind [setExe_mem, setWhorl_mem, onExe_mem, setFlagNow_mem])) hr

theorem execWhlFrsh_mem (w : Fin 8) (slot : Fin 2) (d : Fin 32) (h : Fin 2) (hz : List (Fin 36)) (s : State) {s' : State} (hr :
    execWhlFrsh w slot d h hz s = .next s') :
    s'.mem = s.mem := by
  unfold execWhlFrsh at hr
  exact slotRow_mem _ _ _ _ _ _ (by intros; first | (simp only [↓apply_ite State.mem, ite_self, ↓foldl_mem, implies_true, ↓onExe_mem]; done) | ((repeat' split) <;> first | (simp only [↓apply_ite State.mem, ite_self, ↓foldl_mem, implies_true, ↓onExe_mem]; done) | (simp only [↓apply_ite State.mem, ite_self, ↓foldl_mem, implies_true, ↓onExe_mem]; (repeat' split) <;> first | (simp only [↓apply_ite State.mem, ite_self, ↓foldl_mem, implies_true, ↓onExe_mem]; done) | rfl | grind [onExe_mem]) | rfl | grind [onExe_mem])) hr

theorem execWhlLd_mem (w : Fin 8) (slot : Fin 2) (d : Fin 32) (a : Fin 32) (off : BitVec 16) (synd : Syndrome) (hz : List (Fin 36)) (s :
    State) {s' : State} (hr : execWhlLd w slot d a off synd hz s = .next s') :
    s'.mem = s.mem := by
  unfold execWhlLd at hr
  exact slot0Row_mem _ _ _ _ _ _ _ (by intros; first | (simp only [↓apply_ite State.mem, ite_self, ↓foldl_mem, implies_true, ↓loadWord_mem, ↓onExe_mem]; done) | ((repeat' split) <;> first | (simp only [↓apply_ite State.mem, ite_self, ↓foldl_mem, implies_true, ↓loadWord_mem, ↓onExe_mem]; done) | (simp only [↓apply_ite State.mem, ite_self, ↓foldl_mem, implies_true, ↓loadWord_mem, ↓onExe_mem]; (repeat' split) <;> first | (simp only [↓apply_ite State.mem, ite_self, ↓foldl_mem, implies_true, ↓loadWord_mem, ↓onExe_mem]; done) | rfl | grind [loadWord_mem, onExe_mem]) | rfl | grind [loadWord_mem, onExe_mem])) hr

theorem branchRow_mem (w : Fin 8) (slot : Fin 2) (a : Fin 32) (target : BitVec 15) (hz : List (Fin 36)) (cond : Word → Bool) (s : State)
    {s' : State} (hr : branchRow w slot a target hz cond s = .next s') :
    s'.mem = s.mem := by
  unfold branchRow at hr
  exact slot0Row_mem _ _ _ _ _ _ _ (by intros; first | (simp only [↓apply_ite State.mem, ite_self, ↓foldl_mem, implies_true, ↓setExe_mem]; done) | ((repeat' split) <;> first | (simp only [↓apply_ite State.mem, ite_self, ↓foldl_mem, implies_true, ↓setExe_mem]; done) | (simp only [↓apply_ite State.mem, ite_self, ↓foldl_mem, implies_true, ↓setExe_mem]; (repeat' split) <;> first | (simp only [↓apply_ite State.mem, ite_self, ↓foldl_mem, implies_true, ↓setExe_mem]; done) | rfl | grind [setExe_mem]) | rfl | grind [setExe_mem])) hr

theorem execWhlBz_mem (w : Fin 8) (slot : Fin 2) (a : Fin 32) (target : BitVec 15) (hz : List (Fin 36)) (s : State) {s' : State} (hr :
    execWhlBz w slot a target hz s = .next s') :
    s'.mem = s.mem := by
  unfold execWhlBz at hr
  exact branchRow_mem _ _ _ _ _ _ _ hr

theorem execWhlBnz_mem (w : Fin 8) (slot : Fin 2) (a : Fin 32) (target : BitVec 15) (hz : List (Fin 36)) (s : State) {s' : State} (hr :
    execWhlBnz w slot a target hz s = .next s') :
    s'.mem = s.mem := by
  unfold execWhlBnz at hr
  exact branchRow_mem _ _ _ _ _ _ _ hr

theorem execWhlBltz_mem (w : Fin 8) (slot : Fin 2) (a : Fin 32) (target : BitVec 15) (hz : List (Fin 36)) (s : State) {s' : State} (hr :
    execWhlBltz w slot a target hz s = .next s') :
    s'.mem = s.mem := by
  unfold execWhlBltz at hr
  exact branchRow_mem _ _ _ _ _ _ _ hr

theorem execWhlBgez_mem (w : Fin 8) (slot : Fin 2) (a : Fin 32) (target : BitVec 15) (hz : List (Fin 36)) (s : State) {s' : State} (hr :
    execWhlBgez w slot a target hz s = .next s') :
    s'.mem = s.mem := by
  unfold execWhlBgez at hr
  exact branchRow_mem _ _ _ _ _ _ _ hr

theorem execWhlJmp_mem (w : Fin 8) (slot : Fin 2) (target : BitVec 15) (hz : List (Fin 36)) (s : State) {s' : State} (hr : execWhlJmp w
    slot target hz s = .next s') :
    s'.mem = s.mem := by
  unfold execWhlJmp at hr
  exact slot0Row_mem _ _ _ _ _ _ _ (by intros; first | (simp only [↓apply_ite State.mem, ite_self, ↓foldl_mem, implies_true, ↓setExe_mem]; done) | ((repeat' split) <;> first | (simp only [↓apply_ite State.mem, ite_self, ↓foldl_mem, implies_true, ↓setExe_mem]; done) | (simp only [↓apply_ite State.mem, ite_self, ↓foldl_mem, implies_true, ↓setExe_mem]; (repeat' split) <;> first | (simp only [↓apply_ite State.mem, ite_self, ↓foldl_mem, implies_true, ↓setExe_mem]; done) | rfl | grind [setExe_mem]) | rfl | grind [setExe_mem])) hr

theorem execWhlLoop_mem (w : Fin 8) (slot : Fin 2) (n : Fin 256) (last : BitVec 15) (hz : List (Fin 36)) (s : State) {s' : State} (hr :
    execWhlLoop w slot n last hz s = .next s') :
    s'.mem = s.mem := by
  unfold execWhlLoop at hr
  exact slot0Row_mem _ _ _ _ _ _ _ (by intros; first | (simp only [↓apply_ite State.mem, ite_self, ↓foldl_mem, implies_true, ↓onExe_mem]; done) | ((repeat' split) <;> first | (simp only [↓apply_ite State.mem, ite_self, ↓foldl_mem, implies_true, ↓onExe_mem]; done) | (simp only [↓apply_ite State.mem, ite_self, ↓foldl_mem, implies_true, ↓onExe_mem]; (repeat' split) <;> first | (simp only [↓apply_ite State.mem, ite_self, ↓foldl_mem, implies_true, ↓onExe_mem]; done) | rfl | grind [onExe_mem]) | rfl | grind [onExe_mem])) hr

theorem execWhlSafe_mem (w : Fin 8) (slot : Fin 2) (hz : List (Fin 36)) (s : State) {s' : State} (hr : execWhlSafe w slot hz s = .next s') :
    s'.mem = s.mem := by
  unfold execWhlSafe at hr
  exact slot0Row_mem _ _ _ _ _ _ _ (by intros; first | (simp only [↓apply_ite State.mem, ite_self, ↓foldl_mem, implies_true, ↓endExec_mem]; done) | ((repeat' split) <;> first | (simp only [↓apply_ite State.mem, ite_self, ↓foldl_mem, implies_true, ↓endExec_mem]; done) | (simp only [↓apply_ite State.mem, ite_self, ↓foldl_mem, implies_true, ↓endExec_mem]; (repeat' split) <;> first | (simp only [↓apply_ite State.mem, ite_self, ↓foldl_mem, implies_true, ↓endExec_mem]; done) | rfl | grind [endExec_mem]) | rfl | grind [endExec_mem])) hr

theorem execWhlEnd_mem (w : Fin 8) (slot : Fin 2) (hz : List (Fin 36)) (s : State) {s' : State} (hr : execWhlEnd w slot hz s = .next s') :
    s'.mem = s.mem := by
  unfold execWhlEnd at hr
  exact slot0Row_mem _ _ _ _ _ _ _ (by intros; first | (simp only [↓apply_ite State.mem, ite_self, ↓foldl_mem, implies_true, ↓endExec_mem]; done) | ((repeat' split) <;> first | (simp only [↓apply_ite State.mem, ite_self, ↓foldl_mem, implies_true, ↓endExec_mem]; done) | (simp only [↓apply_ite State.mem, ite_self, ↓foldl_mem, implies_true, ↓endExec_mem]; (repeat' split) <;> first | (simp only [↓apply_ite State.mem, ite_self, ↓foldl_mem, implies_true, ↓endExec_mem]; done) | rfl | grind [endExec_mem]) | rfl | grind [endExec_mem])) hr

theorem setChan_mem (s : State) (c : Nat) (x : ChSt) :
    (State.setChan s c x).mem = s.mem := by
  simp only [State.setChan, ↓apply_ite State.mem, ite_self, ↓foldl_mem, implies_true]

theorem holdLeg_mem (h : Bool) (l : Nat) (s : State) :
    (holdLeg h l s).mem = s.mem := by
  simp only [holdLeg, ↓apply_ite State.mem, ite_self, ↓foldl_mem, implies_true, ↓setLeg_mem, ↓enforceLeg_mem, ↓showOffReq_mem]

theorem holdLegs_mem (c : Nat) (s : State) :
    (holdLegs c s).mem = s.mem := by
  simp only [holdLegs, ↓apply_ite State.mem, ite_self, ↓foldl_mem, implies_true, ↓holdLeg_mem]

theorem chGoto_mem (c : Nat) (st : Nat) (s : State) :
    (chGoto c st s).mem = s.mem := by
  simp only [chGoto, ↓apply_ite State.mem, ite_self, ↓foldl_mem, implies_true, ↓set_mem, ↓raise_mem]

theorem cnvAsh_mem (c : Nat) (code : Nat) (cls : Nat) (s : State) :
    (cnvAsh c code cls s).mem = s.mem := by
  simp only [cnvAsh, ↓apply_ite State.mem, ite_self, ↓foldl_mem, implies_true, ↓ashPush_mem]

theorem nlFire_mem (c : Nat) (s : State) :
    (nlFire c s).mem = s.mem := by
  simp only [nlFire, ↓apply_ite State.mem, ite_self, ↓foldl_mem, implies_true, ↓set_mem, ↓setChan_mem, ↓setLeg_mem, ↓enforceLeg_mem, ↓raise_mem, ↓showOffReq_mem]

theorem chQuiet_mem (c : Nat) (s : State) :
    (chQuiet c s).mem = s.mem := by
  simp only [chQuiet, ↓apply_ite State.mem, ite_self, ↓foldl_mem, implies_true, ↓set_mem, ↓setChan_mem, ↓setLeg_mem, ↓nlFire_mem]

theorem chStop_mem (c : Nat) (st : Nat) (cause : Nat) (s : State) :
    (chStop c st cause s).mem = s.mem := by
  simp only [chStop, ↓apply_ite State.mem, ite_self, ↓foldl_mem, implies_true, ↓set_mem, ↓chGoto_mem, ↓chQuiet_mem, ↓holdLegs_mem]

theorem cnvTripSet_mem (p : Nat) (s : State) :
    (cnvTripSet p s).mem = s.mem := by
  simp only [cnvTripSet, ↓apply_ite State.mem, ite_self, ↓foldl_mem, implies_true, ↓chStop_mem, ↓cnvAsh_mem, ↓issueFor_mem, ↓set_mem]

theorem hiccupEntry_mem (c : Nat) (s : State) :
    (hiccupEntry c s).mem = s.mem := by
  simp only [hiccupEntry, ↓apply_ite State.mem, ite_self, ↓foldl_mem, implies_true, ↓setChan_mem, ↓chStop_mem, ↓cnvAsh_mem, ↓issueFor_mem, ↓raise_mem, ↓set_mem]

theorem markLimited_mem (l : Nat) (s : State) :
    (markLimited l s).mem = s.mem := by
  simp only [markLimited, ↓apply_ite State.mem, ite_self, ↓foldl_mem, implies_true, ↓setChan_mem]; (repeat' split) <;> first | (simp only [↓apply_ite State.mem, ite_self, ↓foldl_mem, implies_true, ↓setChan_mem]; done) | (simp only [↓apply_ite State.mem, ite_self, ↓foldl_mem, implies_true, ↓setChan_mem]; (repeat' split) <;> first | (simp only [↓apply_ite State.mem, ite_self, ↓foldl_mem, implies_true, ↓setChan_mem]; done) | rfl | grind [setChan_mem]) | rfl | grind [setChan_mem]

theorem cnvPeriod_mem (g : Nat) (s : State) :
    (cnvPeriod g s).mem = s.mem := by
  simp only [cnvPeriod, ↓apply_ite State.mem, ite_self, ↓foldl_mem, implies_true, ↓set_mem, ↓setChan_mem, ↓hiccupEntry_mem, ↓holdLegs_mem]

theorem nlEnd_mem (c : Nat) (s : State) :
    (nlEnd c s).mem = s.mem := by
  simp only [nlEnd, ↓apply_ite State.mem, ite_self, ↓foldl_mem, implies_true, ↓set_mem, ↓setLeg_mem, ↓enforceLeg_mem, ↓nlFire_mem]

theorem fastStop_mem (c : Nat) (s : State) :
    (fastStop c s).mem = s.mem := by
  simp only [fastStop, ↓apply_ite State.mem, ite_self, ↓foldl_mem, implies_true, ↓set_mem, ↓setChan_mem, ↓chGoto_mem, ↓chQuiet_mem, ↓raise_mem]

theorem cnvComparator_mem (ch : Nat) (above : Bool) (s : State) :
    (cnvComparator ch above s).mem = s.mem := by
  simp only [cnvComparator, ↓apply_ite State.mem, ite_self, ↓foldl_mem, implies_true, ↓set_mem, ↓setLeg_mem, ↓cnvAsh_mem, ↓enforceLeg_mem, ↓fastStop_mem, ↓issueFor_mem, ↓nlFire_mem, ↓showOffReq_mem]

theorem cnvRelease_mem (ch : Nat) (s : State) :
    (cnvRelease ch s).mem = s.mem := by
  simp only [cnvRelease, ↓apply_ite State.mem, ite_self, ↓foldl_mem, implies_true, ↓set_mem, ↓setChan_mem, ↓setLeg_mem, ↓nlEnd_mem]

theorem execNlMaxTimeout_mem (ch : Fin 3) (s : State) {s' : State} (hr : execNlMaxTimeout ch s = .next s') :
    s'.mem = s.mem := by
  unfold execNlMaxTimeout at hr
  injection hr with hr; subst hr; simp only [↓apply_ite State.mem, ite_self, ↓foldl_mem, implies_true, ↓nlEnd_mem]

theorem writeCmp_mem (late : List (Fin 12)) (l : Nat) (a : Int) (b : Int) (s : State) :
    (writeCmp late l a b s).mem = s.mem := by
  simp only [writeCmp, ↓apply_ite State.mem, ite_self, ↓foldl_mem, implies_true, ↓setI_mem, ↓setLeg_mem]

theorem balance_mem (c : Nat) (s : State) :
    (balance c s).mem = s.mem := by
  simp only [balance, ↓apply_ite State.mem, ite_self, ↓foldl_mem, implies_true, ↓setChan_mem, ↓issueFor_mem, ↓raise_mem]

theorem restoreLegs_mem (c : Nat) (s : State) :
    (restoreLegs c s).mem = s.mem := by
  simp only [restoreLegs, ↓apply_ite State.mem, ite_self, ↓foldl_mem, implies_true, ↓set_mem, ↓setChan_mem, ↓setLeg_mem]

theorem shedCopy_mem (c : Nat) (s : State) :
    (shedCopy c s).mem = s.mem := by
  simp only [shedCopy, ↓apply_ite State.mem, ite_self, ↓foldl_mem, implies_true, ↓set_mem, ↓setBit_mem, ↓setChan_mem, ↓holdLeg_mem, ↓raise_mem]

theorem telCopy_mem (c : Nat) (s : State) :
    (telCopy c s).mem = s.mem := by
  simp only [telCopy, ↓apply_ite State.mem, ite_self, ↓foldl_mem, implies_true, ↓setChan_mem, ↓setI_mem]

theorem cnvCopy_mem (c : Nat) (cmds : List Word) (safe : Bool) (late : List (Fin 12)) (s : State) :
    (cnvCopy c cmds safe late s).mem = s.mem := by
  simp only [cnvCopy, ↓apply_ite State.mem, ite_self, ↓foldl_mem, implies_true, ↓setChan_mem, ↓setLeg_mem, ↓balance_mem, ↓chGoto_mem, ↓chStop_mem, ↓cnvAsh_mem, ↓holdLeg_mem, ↓issueFor_mem, ↓raise_mem, ↓restoreLegs_mem, ↓shedCopy_mem, ↓telCopy_mem, ↓writeCmp_mem, ↓set_mem]

theorem nlLevel_mem (c : Nat) (s : State) :
    (nlLevel c s).mem = s.mem := by
  simp only [nlLevel, ↓apply_ite State.mem, ite_self, ↓foldl_mem, implies_true, ↓set_mem, ↓setLeg_mem, ↓showOffReq_mem]

theorem chStart_mem (c : Nat) (s : State) :
    (chStart c s).mem = s.mem := by
  simp only [chStart, ↓apply_ite State.mem, ite_self, ↓foldl_mem, implies_true, ↓set_mem, ↓setChan_mem, ↓chGoto_mem, ↓holdLegs_mem, ↓nlLevel_mem]

theorem execCnvChannelStart_mem (m : Master) (ch : Fin 3) (s : State) {s' : State} (hr : execCnvChannelStart m ch s = .next s') :
    s'.mem = s.mem := by
  unfold execCnvChannelStart at hr
  injection hr with hr; subst hr; simp only [↓apply_ite State.mem, ite_self, ↓foldl_mem, implies_true, ↓answer_mem, ↓busError_mem, ↓chStart_mem]

theorem chDisable_mem (c : Nat) (s : State) :
    (chDisable c s).mem = s.mem := by
  simp only [chDisable, ↓apply_ite State.mem, ite_self, ↓foldl_mem, implies_true, ↓set_mem, ↓chGoto_mem, ↓chStop_mem]; (repeat' split) <;> first | (simp only [↓apply_ite State.mem, ite_self, ↓foldl_mem, implies_true, ↓set_mem, ↓chGoto_mem, ↓chStop_mem]; done) | (simp only [↓apply_ite State.mem, ite_self, ↓foldl_mem, implies_true, ↓set_mem, ↓chGoto_mem, ↓chStop_mem]; (repeat' split) <;> first | (simp only [↓apply_ite State.mem, ite_self, ↓foldl_mem, implies_true, ↓set_mem, ↓chGoto_mem, ↓chStop_mem]; done) | rfl | grind [set_mem, chGoto_mem, chStop_mem]) | rfl | grind [set_mem, chGoto_mem, chStop_mem]

theorem execCnvChannelStop_mem (m : Master) (ch : Fin 3) (s : State) {s' : State} (hr : execCnvChannelStop m ch s = .next s') :
    s'.mem = s.mem := by
  unfold execCnvChannelStop at hr
  injection hr with hr; subst hr; simp only [↓apply_ite State.mem, ite_self, ↓foldl_mem, implies_true, ↓answer_mem, ↓busError_mem, ↓chDisable_mem]

theorem chClear_mem (m : Master) (c : Nat) (s : State) :
    (chClear m c s).mem = s.mem := by
  simp only [chClear, ↓apply_ite State.mem, ite_self, ↓foldl_mem, implies_true, ↓set_mem, ↓chGoto_mem]; (repeat' split) <;> first | (simp only [↓apply_ite State.mem, ite_self, ↓foldl_mem, implies_true, ↓set_mem, ↓chGoto_mem]; done) | (simp only [↓apply_ite State.mem, ite_self, ↓foldl_mem, implies_true, ↓set_mem, ↓chGoto_mem]; (repeat' split) <;> first | (simp only [↓apply_ite State.mem, ite_self, ↓foldl_mem, implies_true, ↓set_mem, ↓chGoto_mem]; done) | rfl | grind [set_mem, chGoto_mem]) | rfl | grind [set_mem, chGoto_mem]

theorem execCnvChannelClear_mem (m : Master) (ch : Fin 3) (s : State) {s' : State} (hr : execCnvChannelClear m ch s = .next s') :
    s'.mem = s.mem := by
  unfold execCnvChannelClear at hr
  injection hr with hr; subst hr; simp only [↓apply_ite State.mem, ite_self, ↓foldl_mem, implies_true, ↓answer_mem, ↓busError_mem, ↓chClear_mem]

theorem execRampTimeout_mem (ch : Fin 3) (s : State) {s' : State} (hr : execRampTimeout ch s = .next s') :
    s'.mem = s.mem := by
  unfold execRampTimeout at hr
  injection hr with hr; subst hr; simp only [↓apply_ite State.mem, ite_self, ↓foldl_mem, implies_true, ↓chStop_mem, ↓issueFor_mem]

theorem preFail_mem (why : Nat) (s : State) :
    (preFail why s).mem = s.mem := by
  simp only [preFail, ↓apply_ite State.mem, ite_self, ↓foldl_mem, implies_true, ↓set_mem, ↓issue_mem]

theorem execSoftStartCheckpoint_mem (ch : Fin 3) (k : Fin 3) (s : State) {s' : State} (hr : execSoftStartCheckpoint ch k s = .next s') :
    s'.mem = s.mem := by
  unfold execSoftStartCheckpoint at hr
  injection hr with hr; subst hr; simp only [↓apply_ite State.mem, ite_self, ↓foldl_mem, implies_true, ↓setLeg_mem, ↓hiccupEntry_mem, ↓issueFor_mem, ↓preFail_mem]

theorem execSoftStopTimeout_mem (ch : Fin 3) (s : State) {s' : State} (hr : execSoftStopTimeout ch s = .next s') :
    s'.mem = s.mem := by
  unfold execSoftStopTimeout at hr
  injection hr with hr; subst hr; simp only [↓apply_ite State.mem, ite_self, ↓foldl_mem, implies_true, ↓chStop_mem, ↓issueFor_mem]

theorem execHiccupOffEnd_mem (ch : Fin 3) (s : State) {s' : State} (hr : execHiccupOffEnd ch s = .next s') :
    s'.mem = s.mem := by
  unfold execHiccupOffEnd at hr
  injection hr with hr; subst hr; simp only [↓apply_ite State.mem, ite_self, ↓foldl_mem, implies_true, ↓set_mem, ↓setChan_mem, ↓chGoto_mem, ↓raise_mem, ↓nlLevel_mem]

theorem execRetryClear_mem (ch : Fin 3) (s : State) {s' : State} (hr : execRetryClear ch s = .next s') :
    s'.mem = s.mem := by
  unfold execRetryClear at hr
  injection hr with hr; subst hr; simp only [↓apply_ite State.mem, ite_self, ↓foldl_mem, implies_true, ↓set_mem]

theorem execShedStart_mem (ch : Fin 3) (s : State) {s' : State} (hr : execShedStart ch s = .next s') :
    s'.mem = s.mem := by
  unfold execShedStart at hr
  injection hr with hr; subst hr; simp only [↓apply_ite State.mem, ite_self, ↓foldl_mem, implies_true, ↓set_mem, ↓setChan_mem, ↓raise_mem]

theorem execShedHoldoffEnd_mem (ch : Fin 3) (s : State) {s' : State} (hr : execShedHoldoffEnd ch s = .next s') :
    s'.mem = s.mem := by
  unfold execShedHoldoffEnd at hr
  injection hr with hr; subst hr; simp only [↓apply_ite State.mem, ite_self, ↓foldl_mem, implies_true, ↓set_mem]

theorem execTelemetryWindowClose_mem (ch : Fin 3) (w : Fin 3) (s : State) {s' : State} (hr : execTelemetryWindowClose ch w s = .next s') :
    s'.mem = s.mem := by
  unfold execTelemetryWindowClose at hr
  injection hr with hr; subst hr; simp only [↓apply_ite State.mem, ite_self, ↓foldl_mem, implies_true, ↓setChan_mem, ↓setI_mem]

theorem telClear_mem (mask : Nat) (s : State) :
    (telClear mask s).mem = s.mem := by
  simp only [telClear, ↓apply_ite State.mem, ite_self, ↓foldl_mem, implies_true, ↓set_mem]

theorem execTelemetryClear_mem (m : Master) (mask : Fin 8) (s : State) {s' : State} (hr : execTelemetryClear m mask s = .next s') :
    s'.mem = s.mem := by
  unfold execTelemetryClear at hr
  injection hr with hr; subst hr; simp only [↓apply_ite State.mem, ite_self, ↓foldl_mem, implies_true, ↓answer_mem, ↓busError_mem, ↓telClear_mem]

theorem cnvImposed_mem (mode : Nat) (code : Nat) (cls : Nat) (s : State) :
    (cnvImposed mode code cls s).mem = s.mem := by
  simp only [cnvImposed, ↓apply_ite State.mem, ite_self, ↓foldl_mem, implies_true, ↓set_mem, ↓chGoto_mem, ↓chStop_mem, ↓cnvAsh_mem]

theorem psetAsh_mem (p : Nat) (code : Nat) (cls : Nat) (s : State) :
    (psetAsh p code cls s).mem = s.mem := by
  simp only [psetAsh, ↓apply_ite State.mem, ite_self, ↓foldl_mem, implies_true, ↓ashPush_mem]; (repeat' split) <;> first | (simp only [↓apply_ite State.mem, ite_self, ↓foldl_mem, implies_true, ↓ashPush_mem]; done) | (simp only [↓apply_ite State.mem, ite_self, ↓foldl_mem, implies_true, ↓ashPush_mem]; (repeat' split) <;> first | (simp only [↓apply_ite State.mem, ite_self, ↓foldl_mem, implies_true, ↓ashPush_mem]; done) | rfl | grind [ashPush_mem]) | rfl | grind [ashPush_mem]

theorem showAbove_mem (p : Nat) (s : State) :
    (showAbove p s).mem = s.mem := by
  simp only [showAbove, ↓apply_ite State.mem, ite_self, ↓foldl_mem, implies_true, ↓setB_mem]

theorem enterState_mem (p : Nat) (st : Nat) (s : State) :
    (enterState p st s).mem = s.mem := by
  simp only [enterState, ↓apply_ite State.mem, ite_self, ↓foldl_mem, implies_true, ↓set_mem, ↓cnvTripSet_mem, ↓enforceLegs_mem]

theorem setOffWith_mem (p : Nat) (code : Nat) (s : State) :
    (setOffWith p code s).mem = s.mem := by
  simp only [setOffWith, ↓apply_ite State.mem, ite_self, ↓foldl_mem, implies_true, ↓set_mem, ↓setLeg_mem, ↓disarm_mem, ↓enterState_mem, ↓issueFor_mem, ↓psetAsh_mem, ↓showOffReq_mem]

theorem ascWith_mem (p : Nat) (top : Bool) (code : Nat) (s : State) :
    (ascWith p top code s).mem = s.mem := by
  simp only [ascWith, ↓apply_ite State.mem, ite_self, ↓foldl_mem, implies_true, ↓set_mem, ↓disarm_mem, ↓enterState_mem, ↓issueFor_mem, ↓psetAsh_mem]

theorem trigger_mem (p : Nat) (f : List Nat → Finding) (s : State) :
    (trigger p f s).mem = s.mem := by
  simp only [trigger, ↓apply_ite State.mem, ite_self, ↓foldl_mem, implies_true, ↓setPset_mem, ↓enterState_mem, ↓setOffWith_mem]; (repeat' split) <;> first | (simp only [↓apply_ite State.mem, ite_self, ↓foldl_mem, implies_true, ↓setPset_mem, ↓enterState_mem, ↓setOffWith_mem]; done) | (simp only [↓apply_ite State.mem, ite_self, ↓foldl_mem, implies_true, ↓setPset_mem, ↓enterState_mem, ↓setOffWith_mem]; (repeat' split) <;> first | (simp only [↓apply_ite State.mem, ite_self, ↓foldl_mem, implies_true, ↓setPset_mem, ↓enterState_mem, ↓setOffWith_mem]; done) | rfl | grind [setPset_mem, enterState_mem, setOffWith_mem]) | rfl | grind [setPset_mem, enterState_mem, setOffWith_mem]

theorem setLost_mem (p : Nat) (s : State) :
    (setLost p s).mem = s.mem := by
  simp only [setLost, ↓apply_ite State.mem, ite_self, ↓foldl_mem, implies_true, ↓bump_mem, ↓set_mem, ↓raise_mem]

theorem execFaultMapDecision_mem (p : Fin 16) (s : State) {s' : State} (hr : execFaultMapDecision p s = .next s') :
    s'.mem = s.mem := by
  unfold execFaultMapDecision at hr
  injection hr with hr; subst hr; simp only [↓apply_ite State.mem, ite_self, ↓foldl_mem, implies_true, ↓set_mem, ↓setB_mem, ↓ascWith_mem, ↓raise_mem, ↓setLost_mem, ↓setOffWith_mem]; (repeat' split) <;> first | (simp only [↓apply_ite State.mem, ite_self, ↓foldl_mem, implies_true, ↓set_mem, ↓setB_mem, ↓ascWith_mem, ↓raise_mem, ↓setLost_mem, ↓setOffWith_mem]; done) | (simp only [↓apply_ite State.mem, ite_self, ↓foldl_mem, implies_true, ↓set_mem, ↓setB_mem, ↓ascWith_mem, ↓raise_mem, ↓setLost_mem, ↓setOffWith_mem]; (repeat' split) <;> first | (simp only [↓apply_ite State.mem, ite_self, ↓foldl_mem, implies_true, ↓set_mem, ↓setB_mem, ↓ascWith_mem, ↓raise_mem, ↓setLost_mem, ↓setOffWith_mem]; done) | rfl | grind [set_mem, setB_mem, ascWith_mem, raise_mem, setLost_mem, setOffWith_mem]) | rfl | grind [set_mem, setB_mem, ascWith_mem, raise_mem, setLost_mem, setOffWith_mem]

theorem execAscEntryTimeout_mem (p : Fin 16) (s : State) {s' : State} (hr : execAscEntryTimeout p s = .next s') :
    s'.mem = s.mem := by
  unfold execAscEntryTimeout at hr
  injection hr with hr; subst hr; (repeat' split) <;> first | (simp only [↓apply_ite State.mem, ite_self, ↓foldl_mem, implies_true, ↓setOffWith_mem]; done) | (simp only [↓apply_ite State.mem, ite_self, ↓foldl_mem, implies_true, ↓setOffWith_mem]; (repeat' split) <;> first | (simp only [↓apply_ite State.mem, ite_self, ↓foldl_mem, implies_true, ↓setOffWith_mem]; done) | rfl | grind [setOffWith_mem]) | rfl | grind [setOffWith_mem]

theorem imposeTrip_mem (code : Nat) (cls : Nat) (p : Nat) (s : State) :
    (imposeTrip code cls p s).mem = s.mem := by
  simp only [imposeTrip, ↓apply_ite State.mem, ite_self, ↓foldl_mem, implies_true, ↓set_mem, ↓setPset_mem, ↓disarm_mem, ↓enterState_mem, ↓psetAsh_mem]

theorem imposeOff_mem (code : Nat) (cls : Nat) (p : Nat) (s : State) :
    (imposeOff code cls p s).mem = s.mem := by
  simp only [imposeOff, ↓apply_ite State.mem, ite_self, ↓foldl_mem, implies_true, ↓set_mem, ↓disarm_mem, ↓enterState_mem, ↓psetAsh_mem]

theorem safeReaction_mem (code : Nat) (cls : Nat) (s : State) :
    (safeReaction code cls s).mem = s.mem := by
  simp only [safeReaction, ↓apply_ite State.mem, ite_self, ↓foldl_mem, implies_true, ↓imposeOff_mem, ↓imposeTrip_mem]

theorem refused_mem (k : Nat) (s : State) :
    (refused k s).mem = s.mem := by
  simp only [refused, ↓apply_ite State.mem, ite_self, ↓foldl_mem, implies_true, ↓bump_mem, ↓raise_mem]

theorem refusalRun_mem (k : Nat) (off : Bool) (s : State) :
    (refusalRun k off s).mem = s.mem := by
  simp only [refusalRun, ↓apply_ite State.mem, ite_self, ↓foldl_mem, implies_true, ↓setSw_mem, ↓trigger_mem]

theorem pulseDrop_mem (l : Nat) (s : State) :
    (pulseDrop l s).mem = s.mem := by
  simp only [pulseDrop, ↓apply_ite State.mem, ite_self, ↓foldl_mem, implies_true, ↓bump_mem]

theorem execSwitchEdgeCommand_mem (leg : Fin 32) (toTop : Bool) (width : Nat) (s : State) {s' : State} (hr : execSwitchEdgeCommand leg
    toTop width s = .next s') :
    s'.mem = s.mem := by
  unfold execSwitchEdgeCommand at hr
  injection hr with hr; subst hr; simp only [↓apply_ite State.mem, ite_self, ↓foldl_mem, implies_true, ↓setLeg_mem, ↓setSw_mem, ↓pulseDrop_mem, ↓switchOff_mem, ↓tryOn_mem]

theorem execDeadTimeExpiry_mem (sw : Fin 64) (s : State) {s' : State} (hr : execDeadTimeExpiry sw s = .next s') :
    s'.mem = s.mem := by
  unfold execDeadTimeExpiry at hr
  injection hr with hr; subst hr; simp only [↓apply_ite State.mem, ite_self, ↓foldl_mem, implies_true, ↓setSw_mem, ↓tryOn_mem]

theorem execGfbChange_mem (sw : Fin 64) (on : Bool) (delay : Nat) (s : State) {s' : State} (hr : execGfbChange sw on delay s = .next s') :
    s'.mem = s.mem := by
  unfold execGfbChange at hr
  injection hr with hr; subst hr; simp only [↓apply_ite State.mem, ite_self, ↓foldl_mem, implies_true, ↓bump_mem, ↓set_mem, ↓setB_mem, ↓setSw_mem, ↓trigger_mem, ↓tryOn_mem]

theorem execTurnOffFbWinExpiry_mem (sw : Fin 64) (s : State) {s' : State} (hr : execTurnOffFbWinExpiry sw s = .next s') :
    s'.mem = s.mem := by
  unfold execTurnOffFbWinExpiry at hr
  injection hr with hr; subst hr; simp only [↓apply_ite State.mem, ite_self, ↓foldl_mem, implies_true, ↓setSw_mem, ↓refusalRun_mem, ↓refused_mem]

theorem execTurnOnFbWinExpiry_mem (sw : Fin 64) (s : State) {s' : State} (hr : execTurnOnFbWinExpiry sw s = .next s') :
    s'.mem = s.mem := by
  unfold execTurnOnFbWinExpiry at hr
  injection hr with hr; subst hr; simp only [↓apply_ite State.mem, ite_self, ↓foldl_mem, implies_true, ↓setSw_mem, ↓refusalRun_mem, ↓refused_mem, ↓switchOff_mem]

theorem execArmSet_mem (m : Master) (leg : Fin 32) (s : State) {s' : State} (hr : execArmSet m leg s = .next s') :
    s'.mem = s.mem := by
  unfold execArmSet at hr
  injection hr with hr; subst hr; simp only [↓apply_ite State.mem, ite_self, ↓foldl_mem, implies_true, ↓answer_mem, ↓set_mem, ↓busError_mem]

theorem execGenFall_mem (g : Fin 4) (s : State) {s' : State} (hr : execGenFall g s = .next s') :
    s'.mem = s.mem := by
  unfold execGenFall at hr
  injection hr with hr; subst hr; simp only [↓apply_ite State.mem, ite_self, ↓foldl_mem, implies_true, ↓disarm_mem, ↓enforceLegs_mem, ↓raise_mem]

theorem execGenLowFeedbackFault_mem (sw : Fin 64) (s : State) {s' : State} (hr : execGenLowFeedbackFault sw s = .next s') :
    s'.mem = s.mem := by
  unfold execGenLowFeedbackFault at hr
  injection hr with hr; subst hr; simp only [↓apply_ite State.mem, ite_self, ↓foldl_mem, implies_true, ↓issueFor_mem]

theorem execHardTrip_mem (ch : Fin 48) (above : Bool) (s : State) {s' : State} (hr : execHardTrip ch above s = .next s') :
    s'.mem = s.mem := by
  unfold execHardTrip at hr
  injection hr with hr; subst hr; simp only [↓apply_ite State.mem, ite_self, ↓foldl_mem, implies_true, ↓set_mem, ↓raise_mem, ↓trigger_mem]

theorem execGfltAssert_mem (i : Fin 16) (on : Bool) (s : State) {s' : State} (hr : execGfltAssert i on s = .next s') :
    s'.mem = s.mem := by
  unfold execGfltAssert at hr
  injection hr with hr; subst hr; simp only [↓apply_ite State.mem, ite_self, ↓foldl_mem, implies_true, ↓set_mem, ↓raise_mem, ↓trigger_mem]

theorem showLock_mem (m : Nat) (b : Bool) (s : State) :
    (showLock m b s).mem = s.mem := by
  simp only [showLock, ↓apply_ite State.mem, ite_self, ↓foldl_mem, implies_true, ↓setB_mem, ↓raise_mem]

theorem reacqStart_mem (p : Nat) (s : State) :
    (reacqStart p s).mem = s.mem := by
  simp only [reacqStart, ↓apply_ite State.mem, ite_self, ↓foldl_mem, implies_true, ↓set_mem]

theorem lossOff_mem (p : Nat) (on : Bool) (s : State) :
    (lossOff p on s).mem = s.mem := by
  simp only [lossOff, ↓apply_ite State.mem, ite_self, ↓foldl_mem, implies_true, ↓setLeg_mem, ↓enforceLeg_mem, ↓showOffReq_mem]

theorem lossAsc_mem (p : Nat) (s : State) :
    (lossAsc p s).mem = s.mem := by
  simp only [lossAsc, ↓apply_ite State.mem, ite_self, ↓foldl_mem, implies_true, ↓set_mem, ↓ascWith_mem, ↓raise_mem]

theorem coastSet_mem (p : Nat) (s : State) :
    (coastSet p s).mem = s.mem := by
  simp only [coastSet, ↓apply_ite State.mem, ite_self, ↓foldl_mem, implies_true, ↓set_mem, ↓issueFor_mem, ↓lossOff_mem, ↓psetAsh_mem, ↓raise_mem, ↓reacqStart_mem, ↓showLock_mem]

theorem lossCoast_mem (p : Nat) (s : State) :
    (lossCoast p s).mem = s.mem := by
  simp only [lossCoast, ↓apply_ite State.mem, ite_self, ↓foldl_mem, implies_true, ↓coastSet_mem]

theorem lossReact_mem (m : Nat) (s : State) :
    (lossReact m s).mem = s.mem := by
  simp only [lossReact, ↓apply_ite State.mem, ite_self, ↓foldl_mem, implies_true, ↓lossAsc_mem, ↓lossCoast_mem, ↓reacqStart_mem]

theorem lossLocked_mem (m : Nat) (s : State) :
    (lossLocked m s).mem = s.mem := by
  simp only [lossLocked, ↓apply_ite State.mem, ite_self, ↓foldl_mem, implies_true, ↓set_mem, ↓lossOff_mem]

theorem lossUnlocked_mem (m : Nat) (s : State) :
    (lossUnlocked m s).mem = s.mem := by
  simp only [lossUnlocked, ↓apply_ite State.mem, ite_self, ↓foldl_mem, implies_true, ↓lossCoast_mem, ↓coastSet_mem]

theorem lossCleared_mem (m : Nat) (s : State) :
    (lossCleared m s).mem = s.mem := by
  simp only [lossCleared, ↓apply_ite State.mem, ite_self, ↓foldl_mem, implies_true, ↓set_mem]

theorem aboveChanged_mem (p : Nat) (s : State) :
    (aboveChanged p s).mem = s.mem := by
  simp only [aboveChanged, ↓apply_ite State.mem, ite_self, ↓foldl_mem, implies_true, ↓lossAsc_mem, ↓showAbove_mem]

theorem ucgWrite_mem (p : Nat) (value : Word) (s : State) :
    (ucgWrite p value s).mem = s.mem := by
  simp only [ucgWrite, ↓apply_ite State.mem, ite_self, ↓foldl_mem, implies_true, ↓set_mem, ↓aboveChanged_mem]

theorem execUcgSpeedWrite_mem (m : Master) (p : Fin 16) (value : Word) (s : State) {s' : State} (hr : execUcgSpeedWrite m p value s =
    .next s') :
    s'.mem = s.mem := by
  unfold execUcgSpeedWrite at hr
  injection hr with hr; subst hr; simp only [↓apply_ite State.mem, ite_self, ↓foldl_mem, implies_true, ↓answer_mem, ↓busError_mem, ↓ucgWrite_mem]

theorem execUcgStaleTimeout_mem (p : Fin 16) (s : State) {s' : State} (hr : execUcgStaleTimeout p s = .next s') :
    s'.mem = s.mem := by
  unfold execUcgStaleTimeout at hr
  injection hr with hr; subst hr; simp only [↓apply_ite State.mem, ite_self, ↓foldl_mem, implies_true, ↓set_mem, ↓issueFor_mem, ↓raise_mem]

theorem ascRequest_mem (m : Master) (p : Nat) (code : Nat) (s : State) :
    (ascRequest m p code s).mem = s.mem := by
  simp only [ascRequest, ↓apply_ite State.mem, ite_self, ↓foldl_mem, implies_true, ↓setPset_mem]

theorem execPsetAscTop_mem (m : Master) (p : Fin 16) (s : State) {s' : State} (hr : execPsetAscTop m p s = .next s') :
    s'.mem = s.mem := by
  unfold execPsetAscTop at hr
  injection hr with hr; subst hr; simp only [↓apply_ite State.mem, ite_self, ↓foldl_mem, implies_true, ↓answer_mem, ↓ascRequest_mem, ↓busError_mem]

theorem execPsetAscBot_mem (m : Master) (p : Fin 16) (s : State) {s' : State} (hr : execPsetAscBot m p s = .next s') :
    s'.mem = s.mem := by
  unfold execPsetAscBot at hr
  injection hr with hr; subst hr; simp only [↓apply_ite State.mem, ite_self, ↓foldl_mem, implies_true, ↓answer_mem, ↓ascRequest_mem, ↓busError_mem]

theorem syncLost_mem (g : Nat) (s : State) :
    (syncLost g s).mem = s.mem := by
  simp only [syncLost, ↓apply_ite State.mem, ite_self, ↓foldl_mem, implies_true, ↓set_mem, ↓issue_mem, ↓raise_mem]

theorem drainEnd_mem (g : Nat) (s : State) :
    (drainEnd g s).mem = s.mem := by
  simp only [drainEnd, ↓apply_ite State.mem, ite_self, ↓foldl_mem, implies_true, ↓set_mem, ↓setCg_mem, ↓enforceLegs_mem, ↓raise_mem, ↓syncLost_mem]

theorem generatorDisable_mem (g : Nat) (s : State) :
    (generatorDisable g s).mem = s.mem := by
  simp only [generatorDisable, ↓apply_ite State.mem, ite_self, ↓foldl_mem, implies_true, ↓set_mem]

theorem execGeneratorDisable_mem (m : Master) (cg : Fin 12) (s : State) {s' : State} (hr : execGeneratorDisable m cg s = .next s') :
    s'.mem = s.mem := by
  unfold execGeneratorDisable at hr
  injection hr with hr; subst hr; simp only [↓apply_ite State.mem, ite_self, ↓foldl_mem, implies_true, ↓answer_mem, ↓busError_mem, ↓generatorDisable_mem]

theorem loadDt_mem (l : Nat) (s : State) :
    (loadDt l s).mem = s.mem := by
  simp only [loadDt, ↓apply_ite State.mem, ite_self, ↓foldl_mem, implies_true, ↓setB_mem, ↓setLeg_mem]

theorem loadHalf_mem (g : Nat) (peak : Bool) (l : Nat) (s : State) :
    (loadHalf g peak l s).mem = s.mem := by
  simp only [loadHalf, ↓apply_ite State.mem, ite_self, ↓foldl_mem, implies_true, ↓set_mem, ↓setLeg_mem, ↓raise_mem]

theorem bootRefresh_mem (l : Nat) (s : State) :
    (bootRefresh l s).mem = s.mem := by
  simp only [bootRefresh, ↓apply_ite State.mem, ite_self, ↓foldl_mem, implies_true, ↓set_mem, ↓setLeg_mem, ↓setSw_mem, ↓edgeIssued_mem, ↓switchOff_mem]; (repeat' split) <;> first | (simp only [↓apply_ite State.mem, ite_self, ↓foldl_mem, implies_true, ↓set_mem, ↓setLeg_mem, ↓setSw_mem, ↓edgeIssued_mem, ↓switchOff_mem]; done) | (simp only [↓apply_ite State.mem, ite_self, ↓foldl_mem, implies_true, ↓set_mem, ↓setLeg_mem, ↓setSw_mem, ↓edgeIssued_mem, ↓switchOff_mem]; (repeat' split) <;> first | (simp only [↓apply_ite State.mem, ite_self, ↓foldl_mem, implies_true, ↓set_mem, ↓setLeg_mem, ↓setSw_mem, ↓edgeIssued_mem, ↓switchOff_mem]; done) | rfl | grind [set_mem, setLeg_mem, setSw_mem, edgeIssued_mem, switchOff_mem]) | rfl | grind [set_mem, setLeg_mem, setSw_mem, edgeIssued_mem, switchOff_mem]

theorem legCarrier_mem (g : Nat) (peak : Bool) (l : Nat) (s : State) :
    (legCarrier g peak l s).mem = s.mem := by
  simp only [legCarrier, ↓apply_ite State.mem, ite_self, ↓foldl_mem, implies_true, ↓setLeg_mem, ↓bootRefresh_mem, ↓enforceLeg_mem, ↓loadDt_mem, ↓loadHalf_mem, ↓showOffReq_mem]

theorem startRequests_mem (g : Nat) (s : State) :
    (startRequests g s).mem = s.mem := by
  simp only [startRequests, ↓apply_ite State.mem, ite_self, ↓foldl_mem, implies_true, ↓setPset_mem, ↓enterState_mem]

theorem execCarrierEvent_mem (cg : Fin 12) (s : State) {s' : State} (hr : execCarrierEvent cg s = .next s') :
    s'.mem = s.mem := by
  unfold execCarrierEvent at hr
  injection hr with hr; subst hr; simp only [↓apply_ite State.mem, ite_self, ↓foldl_mem, implies_true, ↓bump_mem, ↓set_mem, ↓setCg_mem, ↓cnvPeriod_mem, ↓drainEnd_mem, ↓legCarrier_mem, ↓raise_mem, ↓startRequests_mem]

theorem bootTrip_mem (l : Nat) (s : State) :
    (bootTrip l s).1.mem = s.mem := by
  simp only [bootTrip, ↓apply_ite State.mem, ite_self, ↓foldl_mem, implies_true, ↓apply_ite Prod.snd, ↓apply_ite Prod.fst, ↓set_mem, ↓setLeg_mem, ↓disarm_mem, ↓enforceLeg_mem, ↓raise_mem]

theorem setLoader_mem (s : State) (x : LoaderSt) :
    (State.setLoader s x).mem = s.mem := by
  simp only [State.setLoader, ↓apply_ite State.mem, ite_self, ↓foldl_mem, implies_true]

theorem setJournal_mem (s : State) (j : Journal) :
    (State.setJournal s j).mem = s.mem := by
  simp only [State.setJournal, ↓apply_ite State.mem, ite_self, ↓foldl_mem, implies_true]

theorem setUpd_mem (s : State) (x : UpdSt) :
    (State.setUpd s x).mem = s.mem := by
  simp only [State.setUpd, ↓apply_ite State.mem, ite_self, ↓foldl_mem, implies_true]

theorem setVerified_mem (type : Nat) (inst : Nat) (data : List Byte) (s : State) :
    (setVerified type inst data s).mem = s.mem := by
  simp only [setVerified, ↓apply_ite State.mem, ite_self, ↓foldl_mem, implies_true, ↓setLoader_mem]

theorem setStep_mem (s : State) (k : Nat) (v : Nat) :
    (State.setStep s k v).mem = s.mem := by
  simp only [State.setStep, ↓apply_ite State.mem, ite_self, ↓foldl_mem, implies_true, ↓setJournal_mem]

theorem tndEnd_mem (result : Nat) (out : List Byte) (s : State) :
    (tndEnd result out s).mem = s.mem := by
  simp only [tndEnd, ↓apply_ite State.mem, ite_self, ↓foldl_mem, implies_true]; (repeat' split) <;> first | (simp only [↓apply_ite State.mem, ite_self, ↓foldl_mem, implies_true]; done) | (simp only [↓apply_ite State.mem, ite_self, ↓foldl_mem, implies_true]; (repeat' split) <;> first | (simp only [↓apply_ite State.mem, ite_self, ↓foldl_mem, implies_true]; done) | rfl | grind) | rfl | grind

theorem updShowState_mem (s : State) :
    (updShowState s).mem = s.mem := by
  simp only [updShowState, ↓apply_ite State.mem, ite_self, ↓foldl_mem, implies_true, ↓set_mem]

theorem updReason_mem (r : Nat) (s : State) :
    (updReason r s).mem = s.mem := by
  simp only [updReason, ↓apply_ite State.mem, ite_self, ↓foldl_mem, implies_true, ↓set_mem, ↓setJournal_mem]

theorem replaceComp_mem (c : CompInfo) (s : State) :
    (replaceComp c s).mem = s.mem := by
  simp only [replaceComp, ↓apply_ite State.mem, ite_self, ↓foldl_mem, implies_true, ↓setLoader_mem]

theorem stepActive_mem (k : Nat) (s : State) :
    (stepActive k s).mem = s.mem := by
  simp only [stepActive, ↓apply_ite State.mem, ite_self, ↓foldl_mem, implies_true, ↓set_mem, ↓setJournal_mem, ↓setStep_mem, ↓setUpd_mem, ↓raise_mem, ↓replaceComp_mem, ↓setVerified_mem, ↓tndEnd_mem, ↓updShowState_mem]; (repeat' split) <;> first | (simp only [↓apply_ite State.mem, ite_self, ↓foldl_mem, implies_true, ↓set_mem, ↓setJournal_mem, ↓setStep_mem, ↓setUpd_mem, ↓raise_mem, ↓replaceComp_mem, ↓setVerified_mem, ↓tndEnd_mem, ↓updShowState_mem]; done) | (simp only [↓apply_ite State.mem, ite_self, ↓foldl_mem, implies_true, ↓set_mem, ↓setJournal_mem, ↓setStep_mem, ↓setUpd_mem, ↓raise_mem, ↓replaceComp_mem, ↓setVerified_mem, ↓tndEnd_mem, ↓updShowState_mem]; (repeat' split) <;> first | (simp only [↓apply_ite State.mem, ite_self, ↓foldl_mem, implies_true, ↓set_mem, ↓setJournal_mem, ↓setStep_mem, ↓setUpd_mem, ↓raise_mem, ↓replaceComp_mem, ↓setVerified_mem, ↓tndEnd_mem, ↓updShowState_mem]; done) | rfl | grind [set_mem, setJournal_mem, setStep_mem, setUpd_mem, raise_mem, replaceComp_mem, setVerified_mem, tndEnd_mem, updShowState_mem]) | rfl | grind [set_mem, setJournal_mem, setStep_mem, setUpd_mem, raise_mem, replaceComp_mem, setVerified_mem, tndEnd_mem, updShowState_mem]

theorem activateFail_mem (reason : Nat) (s : State) :
    (activateFail reason s).mem = s.mem := by
  simp only [activateFail, ↓apply_ite State.mem, ite_self, ↓foldl_mem, implies_true, ↓issue_mem, ↓tndEnd_mem, ↓updReason_mem, ↓updShowState_mem]

theorem updWhorlSwitched_mem (a : Nat) (b : Nat) (s : State) :
    (updWhorlSwitched a b s).mem = s.mem := by
  simp only [updWhorlSwitched, ↓apply_ite State.mem, ite_self, ↓foldl_mem, implies_true, ↓setUpd_mem, ↓setVerified_mem, ↓stepActive_mem]; (repeat' split) <;> first | (simp only [↓apply_ite State.mem, ite_self, ↓foldl_mem, implies_true, ↓setUpd_mem, ↓setVerified_mem, ↓stepActive_mem]; done) | (simp only [↓apply_ite State.mem, ite_self, ↓foldl_mem, implies_true, ↓setUpd_mem, ↓setVerified_mem, ↓stepActive_mem]; (repeat' split) <;> first | (simp only [↓apply_ite State.mem, ite_self, ↓foldl_mem, implies_true, ↓setUpd_mem, ↓setVerified_mem, ↓stepActive_mem]; done) | rfl | grind [setUpd_mem, setVerified_mem, stepActive_mem]) | rfl | grind [setUpd_mem, setVerified_mem, stepActive_mem]

theorem updWhorlAbort_mem (w : Nat) (s : State) :
    (updWhorlAbort w s).mem = s.mem := by
  simp only [updWhorlAbort, ↓apply_ite State.mem, ite_self, ↓foldl_mem, implies_true, ↓setUpd_mem, ↓activateFail_mem]

theorem revertBegin_mem (reason : Nat) (s : State) :
    (revertBegin reason s).mem = s.mem := by
  simp only [revertBegin, ↓apply_ite State.mem, ite_self, ↓foldl_mem, implies_true, ↓setUpd_mem, ↓updReason_mem, ↓updShowState_mem]

theorem updFault_mem (type : Nat) (inst : Nat) (s : State) :
    (updFault type inst s).mem = s.mem := by
  simp only [updFault, ↓apply_ite State.mem, ite_self, ↓foldl_mem, implies_true, ↓revertBegin_mem]; (repeat' split) <;> first | (simp only [↓apply_ite State.mem, ite_self, ↓foldl_mem, implies_true, ↓revertBegin_mem]; done) | (simp only [↓apply_ite State.mem, ite_self, ↓foldl_mem, implies_true, ↓revertBegin_mem]; (repeat' split) <;> first | (simp only [↓apply_ite State.mem, ite_self, ↓foldl_mem, implies_true, ↓revertBegin_mem]; done) | rfl | grind [revertBegin_mem]) | rfl | grind [revertBegin_mem]

theorem updArm_mem (p : Nat) (s : State) :
    (updArm p s).mem = s.mem := by
  simp only [updArm, ↓apply_ite State.mem, ite_self, ↓foldl_mem, implies_true, ↓set_mem]

theorem sampleList_mem (i : Nat) (s : State) :
    (sampleList i s).mem = s.mem := by
  simp only [sampleList, ↓apply_ite State.mem, ite_self, ↓foldl_mem, implies_true, ↓bump_mem, ↓set_mem, ↓raise_mem]; (repeat' split) <;> first | (simp only [↓apply_ite State.mem, ite_self, ↓foldl_mem, implies_true, ↓bump_mem, ↓set_mem, ↓raise_mem]; done) | (simp only [↓apply_ite State.mem, ite_self, ↓foldl_mem, implies_true, ↓bump_mem, ↓set_mem, ↓raise_mem]; (repeat' split) <;> first | (simp only [↓apply_ite State.mem, ite_self, ↓foldl_mem, implies_true, ↓bump_mem, ↓set_mem, ↓raise_mem]; done) | rfl | grind [bump_mem, set_mem, raise_mem]) | rfl | grind [bump_mem, set_mem, raise_mem]

theorem daqTrigger_mem (c : Nat) (s : State) :
    (daqTrigger c s).mem = s.mem := by
  unfold daqTrigger
  split
  · rfl
  · exact foldl_mem _ (fun t i => by (repeat' split) <;> first | rfl | exact sampleList_mem _ _) _ _

theorem daqPhase_mem (w : Nat) (l : Nat) (s : State) :
    (daqPhase w l s).mem = s.mem := by
  simp only [daqPhase, ↓apply_ite State.mem, ite_self, ↓foldl_mem, implies_true, ↓daqTrigger_mem]

theorem traceAdd_mem (m : List Byte) (s : State) :
    (traceAdd m s).mem = s.mem := by
  simp only [traceAdd, ↓apply_ite State.mem, ite_self, ↓foldl_mem, implies_true, ↓bump_mem, ↓set_mem, ↓raise_mem]

theorem traceEvent_mem (n : Nat) (s : State) :
    (traceEvent n s).mem = s.mem := by
  simp only [traceEvent, ↓apply_ite State.mem, ite_self, ↓foldl_mem, implies_true, ↓set_mem, ↓traceAdd_mem]

theorem tracePhase_mem (w : Nat) (l : Nat) (s : State) :
    (tracePhase w l s).mem = s.mem := by
  simp only [tracePhase, ↓apply_ite State.mem, ite_self, ↓foldl_mem, implies_true, ↓traceAdd_mem]

theorem traceTick_mem (s : State) :
    (traceTick s).mem = s.mem := by
  simp only [traceTick, ↓apply_ite State.mem, ite_self, ↓foldl_mem, implies_true]

theorem putPort_mem (w : Nat) (p : Nat) (v : Option Word) (s : State) :
    (putPort w p v s).mem = s.mem := by
  simp only [putPort, ↓apply_ite State.mem, ite_self, ↓foldl_mem, implies_true, ↓setBit_mem, ↓wr_mem]; (repeat' split) <;> first | (simp only [↓apply_ite State.mem, ite_self, ↓foldl_mem, implies_true, ↓setBit_mem, ↓wr_mem]; done) | (simp only [↓apply_ite State.mem, ite_self, ↓foldl_mem, implies_true, ↓setBit_mem, ↓wr_mem]; (repeat' split) <;> first | (simp only [↓apply_ite State.mem, ite_self, ↓foldl_mem, implies_true, ↓setBit_mem, ↓wr_mem]; done) | rfl | grind [setBit_mem, wr_mem]) | rfl | grind [setBit_mem, wr_mem]

theorem putPorts_mem (w : Nat) (p : Nat) (v : Option Word) (s : State) :
    (putPorts w p v s).mem = s.mem := by
  simp only [putPorts, ↓apply_ite State.mem, ite_self, ↓foldl_mem, implies_true, ↓putPort_mem]

theorem deliver_mem (w : Nat) (p : Nat) (v : Option Word) (s : State) :
    (deliver w p v s).mem = s.mem := by
  simp only [deliver, ↓apply_ite State.mem, ite_self, ↓foldl_mem, implies_true, ↓putPorts_mem]

theorem noteCurrents_mem (w : Nat) (l : Nat) (s : State) :
    (noteCurrents w l s).mem = s.mem := by
  simp only [noteCurrents, ↓apply_ite State.mem, ite_self, ↓foldl_mem, implies_true, ↓setPset_mem]

theorem copyPorts_mem (w : Nat) (l : Nat) (vals : Nat → Word) (safe : Bool) (late : List (Fin 12)) (s : State) :
    (copyPorts w l vals safe late s).mem = s.mem := by
  simp only [copyPorts, ↓apply_ite State.mem, ite_self, ↓foldl_mem, implies_true, ↓wr_mem, ↓cnvCopy_mem, ↓noteCurrents_mem, ↓putPorts_mem, ↓writeCmp_mem]

theorem safeOutput_mem (w : Nat) (l : Nat) (late : List (Fin 12)) (s : State) :
    (safeOutput w l late s).mem = s.mem := by
  simp only [safeOutput, ↓apply_ite State.mem, ite_self, ↓foldl_mem, implies_true, ↓setLeg_mem, ↓chStop_mem, ↓cnvAsh_mem, ↓copyPorts_mem, ↓issueFor_mem, ↓set_mem]; (repeat' split) <;> first | (simp only [↓apply_ite State.mem, ite_self, ↓foldl_mem, implies_true, ↓setLeg_mem, ↓chStop_mem, ↓cnvAsh_mem, ↓copyPorts_mem, ↓issueFor_mem, ↓set_mem]; done) | (simp only [↓apply_ite State.mem, ite_self, ↓foldl_mem, implies_true, ↓setLeg_mem, ↓chStop_mem, ↓cnvAsh_mem, ↓copyPorts_mem, ↓issueFor_mem, ↓set_mem]; (repeat' split) <;> first | (simp only [↓apply_ite State.mem, ite_self, ↓foldl_mem, implies_true, ↓setLeg_mem, ↓chStop_mem, ↓cnvAsh_mem, ↓copyPorts_mem, ↓issueFor_mem, ↓set_mem]; done) | rfl | grind [setLeg_mem, chStop_mem, cnvAsh_mem, copyPorts_mem, issueFor_mem, set_mem]) | rfl | grind [setLeg_mem, chStop_mem, cnvAsh_mem, copyPorts_mem, issueFor_mem, set_mem]

theorem clearOff_mem (w : Nat) (l : Nat) (s : State) :
    (clearOff w l s).mem = s.mem := by
  simp only [clearOff, ↓apply_ite State.mem, ite_self, ↓foldl_mem, implies_true, ↓setLeg_mem, ↓showOffReq_mem]

theorem handoverAbort_mem (reason : Nat) (s : State) :
    (handoverAbort reason s).mem = s.mem := by
  simp only [handoverAbort, ↓apply_ite State.mem, ite_self, ↓foldl_mem, implies_true, ↓set_mem, ↓setWhorl_mem, ↓issue_mem, ↓raise_mem, ↓updWhorlAbort_mem]; (repeat' split) <;> first | (simp only [↓apply_ite State.mem, ite_self, ↓foldl_mem, implies_true, ↓set_mem, ↓setWhorl_mem, ↓issue_mem, ↓raise_mem, ↓updWhorlAbort_mem]; done) | (simp only [↓apply_ite State.mem, ite_self, ↓foldl_mem, implies_true, ↓set_mem, ↓setWhorl_mem, ↓issue_mem, ↓raise_mem, ↓updWhorlAbort_mem]; (repeat' split) <;> first | (simp only [↓apply_ite State.mem, ite_self, ↓foldl_mem, implies_true, ↓set_mem, ↓setWhorl_mem, ↓issue_mem, ↓raise_mem, ↓updWhorlAbort_mem]; done) | rfl | grind [set_mem, setWhorl_mem, issue_mem, raise_mem, updWhorlAbort_mem]) | rfl | grind [set_mem, setWhorl_mem, issue_mem, raise_mem, updWhorlAbort_mem]

theorem handoverFault_mem (w : Nat) (s : State) :
    (handoverFault w s).mem = s.mem := by
  simp only [handoverFault, ↓apply_ite State.mem, ite_self, ↓foldl_mem, implies_true, ↓handoverAbort_mem]; (repeat' split) <;> first | (simp only [↓apply_ite State.mem, ite_self, ↓foldl_mem, implies_true, ↓handoverAbort_mem]; done) | (simp only [↓apply_ite State.mem, ite_self, ↓foldl_mem, implies_true, ↓handoverAbort_mem]; (repeat' split) <;> first | (simp only [↓apply_ite State.mem, ite_self, ↓foldl_mem, implies_true, ↓handoverAbort_mem]; done) | rfl | grind [handoverAbort_mem]) | rfl | grind [handoverAbort_mem]

theorem stopLoop_mem (w : Nat) (l : Nat) (code : Nat) (s : State) :
    (stopLoop w l code s).mem = s.mem := by
  simp only [stopLoop, ↓apply_ite State.mem, ite_self, ↓foldl_mem, implies_true, ↓set_mem, ↓setLoopSt_mem, ↓handoverFault_mem, ↓issueFor_mem, ↓raise_mem, ↓safeOutput_mem]

theorem standbyLost_mem (s : State) :
    (standbyLost s).mem = s.mem := by
  simp only [standbyLost, ↓apply_ite State.mem, ite_self, ↓foldl_mem, implies_true, ↓set_mem]

theorem copyRegs_mem (src : Nat) (dst : Nat) (n : Nat) (s : State) :
    (copyRegs src dst n s).mem = s.mem := by
  simp only [copyRegs, ↓apply_ite State.mem, ite_self, ↓foldl_mem, implies_true, ↓wr_mem]

theorem switchTo_mem (a : Nat) (b : Nat) (s : State) :
    (switchTo a b s).mem = s.mem := by
  simp only [switchTo, ↓apply_ite State.mem, ite_self, ↓foldl_mem, implies_true, ↓set_mem, ↓setWhorl_mem, ↓copyRegs_mem, ↓setVerified_mem]

theorem failWhorl_mem (w : Nat) (code : Nat) (s : State) :
    (failWhorl w code s).mem = s.mem := by
  simp only [failWhorl, ↓apply_ite State.mem, ite_self, ↓foldl_mem, implies_true, ↓bump_mem, ↓set_mem, ↓setLoopSt_mem, ↓setWhorl_mem, ↓handoverFault_mem, ↓issueFor_mem, ↓raise_mem, ↓safeOutput_mem, ↓standbyLost_mem, ↓switchTo_mem, ↓updFault_mem]; (repeat' split) <;> first | (simp only [↓apply_ite State.mem, ite_self, ↓foldl_mem, implies_true, ↓bump_mem, ↓set_mem, ↓setLoopSt_mem, ↓setWhorl_mem, ↓handoverFault_mem, ↓issueFor_mem, ↓raise_mem, ↓safeOutput_mem, ↓standbyLost_mem, ↓switchTo_mem, ↓updFault_mem]; done) | (simp only [↓apply_ite State.mem, ite_self, ↓foldl_mem, implies_true, ↓bump_mem, ↓set_mem, ↓setLoopSt_mem, ↓setWhorl_mem, ↓handoverFault_mem, ↓issueFor_mem, ↓raise_mem, ↓safeOutput_mem, ↓standbyLost_mem, ↓switchTo_mem, ↓updFault_mem]; (repeat' split) <;> first | (simp only [↓apply_ite State.mem, ite_self, ↓foldl_mem, implies_true, ↓bump_mem, ↓set_mem, ↓setLoopSt_mem, ↓setWhorl_mem, ↓handoverFault_mem, ↓issueFor_mem, ↓raise_mem, ↓safeOutput_mem, ↓standbyLost_mem, ↓switchTo_mem, ↓updFault_mem]; done) | rfl | grind [bump_mem, set_mem, setLoopSt_mem, setWhorl_mem, handoverFault_mem, issueFor_mem, raise_mem, safeOutput_mem, standbyLost_mem, switchTo_mem, updFault_mem]) | rfl | grind [bump_mem, set_mem, setLoopSt_mem, setWhorl_mem, handoverFault_mem, issueFor_mem, raise_mem, safeOutput_mem, standbyLost_mem, switchTo_mem, updFault_mem]

theorem bumpLoop_mem (f : Fld) (w : Nat) (l : Nat) (s : State) :
    (bumpLoop f w l s).mem = s.mem := by
  simp only [bumpLoop, ↓apply_ite State.mem, ite_self, ↓foldl_mem, implies_true, ↓bump_mem]

theorem clearFresh_mem (o : Nat) (v : Nat) (l : Nat) (s : State) :
    (clearFresh o v l s).mem = s.mem := by
  simp only [clearFresh, ↓apply_ite State.mem, ite_self, ↓foldl_mem, implies_true, ↓setBit_mem]

theorem beginExec_mem (timed : Bool) (w : Nat) (l : Nat) (s : State) :
    (beginExec timed w l s).mem = s.mem := by
  simp only [beginExec, ↓apply_ite State.mem, ite_self, ↓foldl_mem, implies_true, ↓set_mem, ↓setLoopSt_mem, ↓setWhorl_mem, ↓clearFresh_mem, ↓lockstep_mem]

theorem startOrStale_mem (timed : Bool) (w : Nat) (l : Nat) (s : State) :
    (startOrStale timed w l s).mem = s.mem := by
  simp only [startOrStale, ↓apply_ite State.mem, ite_self, ↓foldl_mem, implies_true, ↓set_mem, ↓setLoopSt_mem, ↓beginExec_mem, ↓bumpLoop_mem, ↓clearFresh_mem, ↓raise_mem, ↓safeOutput_mem, ↓stopLoop_mem]; (repeat' split) <;> first | (simp only [↓apply_ite State.mem, ite_self, ↓foldl_mem, implies_true, ↓set_mem, ↓setLoopSt_mem, ↓beginExec_mem, ↓bumpLoop_mem, ↓clearFresh_mem, ↓raise_mem, ↓safeOutput_mem, ↓stopLoop_mem]; done) | (simp only [↓apply_ite State.mem, ite_self, ↓foldl_mem, implies_true, ↓set_mem, ↓setLoopSt_mem, ↓beginExec_mem, ↓bumpLoop_mem, ↓clearFresh_mem, ↓raise_mem, ↓safeOutput_mem, ↓stopLoop_mem]; (repeat' split) <;> first | (simp only [↓apply_ite State.mem, ite_self, ↓foldl_mem, implies_true, ↓set_mem, ↓setLoopSt_mem, ↓beginExec_mem, ↓bumpLoop_mem, ↓clearFresh_mem, ↓raise_mem, ↓safeOutput_mem, ↓stopLoop_mem]; done) | rfl | grind [set_mem, setLoopSt_mem, beginExec_mem, bumpLoop_mem, clearFresh_mem, raise_mem, safeOutput_mem, stopLoop_mem]) | rfl | grind [set_mem, setLoopSt_mem, beginExec_mem, bumpLoop_mem, clearFresh_mem, raise_mem, safeOutput_mem, stopLoop_mem]

theorem copyInterrupted_mem (w : Nat) (s : State) :
    (copyInterrupted w s).mem = s.mem := by
  simp only [copyInterrupted, ↓apply_ite State.mem, ite_self, ↓foldl_mem, implies_true, ↓handoverAbort_mem]; (repeat' split) <;> first | (simp only [↓apply_ite State.mem, ite_self, ↓foldl_mem, implies_true, ↓handoverAbort_mem]; done) | (simp only [↓apply_ite State.mem, ite_self, ↓foldl_mem, implies_true, ↓handoverAbort_mem]; (repeat' split) <;> first | (simp only [↓apply_ite State.mem, ite_self, ↓foldl_mem, implies_true, ↓handoverAbort_mem]; done) | rfl | grind [handoverAbort_mem]) | rfl | grind [handoverAbort_mem]

theorem execTimedLoopStart_mem (w : Fin 8) (loop : Fin 8) (s : State) {s' : State} (hr : execTimedLoopStart w loop s = .next s') :
    s'.mem = s.mem := by
  unfold execTimedLoopStart at hr
  injection hr with hr; subst hr; simp only [↓apply_ite State.mem, ite_self, ↓foldl_mem, implies_true, ↓set_mem, ↓setLoopSt_mem, ↓bumpLoop_mem, ↓copyInterrupted_mem, ↓startOrStale_mem, ↓stopLoop_mem]

theorem execBackgroundTrigger_mem (w : Fin 8) (loop : Fin 8) (s : State) {s' : State} (hr : execBackgroundTrigger w loop s = .next s') :
    s'.mem = s.mem := by
  unfold execBackgroundTrigger at hr
  injection hr with hr; subst hr; simp only [↓apply_ite State.mem, ite_self, ↓foldl_mem, implies_true, ↓set_mem, ↓setLoopSt_mem, ↓bumpLoop_mem, ↓stopLoop_mem]

theorem execBackgroundStart_mem (w : Fin 8) (loop : Fin 8) (s : State) {s' : State} (hr : execBackgroundStart w loop s = .next s') :
    s'.mem = s.mem := by
  unfold execBackgroundStart at hr
  injection hr with hr; subst hr; simp only [↓apply_ite State.mem, ite_self, ↓foldl_mem, implies_true, ↓startOrStale_mem]

theorem settleExec_mem (w : Nat) (l : Nat) (e : ExecSt) (cut : Bool) (s : State) :
    (settleExec w l e cut s).mem = s.mem := by
  simp only [settleExec, ↓apply_ite State.mem, ite_self, ↓foldl_mem, implies_true, ↓set_mem, ↓setLoopSt_mem, ↓failWhorl_mem, ↓stopLoop_mem]

theorem budgetEnd_mem (timed : Bool) (w : Nat) (l : Nat) (s : State) :
    (budgetEnd timed w l s).mem = s.mem := by
  simp only [budgetEnd, ↓apply_ite State.mem, ite_self, ↓foldl_mem, implies_true, ↓setWhorl_mem, ↓endIfPast_mem, ↓lockstep_mem, ↓orFlags_mem, ↓settleExec_mem]

theorem outputPhase_mem (w : Nat) (l : Nat) (late : List (Fin 12)) (s : State) :
    (outputPhase w l late s).mem = s.mem := by
  simp only [outputPhase, ↓apply_ite State.mem, ite_self, ↓foldl_mem, implies_true, ↓set_mem, ↓setLoopSt_mem, ↓clearOff_mem, ↓copyPorts_mem, ↓daqPhase_mem, ↓raise_mem, ↓safeOutput_mem, ↓stopLoop_mem, ↓tracePhase_mem]; (repeat' split) <;> first | (simp only [↓apply_ite State.mem, ite_self, ↓foldl_mem, implies_true, ↓set_mem, ↓setLoopSt_mem, ↓clearOff_mem, ↓copyPorts_mem, ↓daqPhase_mem, ↓raise_mem, ↓safeOutput_mem, ↓stopLoop_mem, ↓tracePhase_mem]; done) | (simp only [↓apply_ite State.mem, ite_self, ↓foldl_mem, implies_true, ↓set_mem, ↓setLoopSt_mem, ↓clearOff_mem, ↓copyPorts_mem, ↓daqPhase_mem, ↓raise_mem, ↓safeOutput_mem, ↓stopLoop_mem, ↓tracePhase_mem]; (repeat' split) <;> first | (simp only [↓apply_ite State.mem, ite_self, ↓foldl_mem, implies_true, ↓set_mem, ↓setLoopSt_mem, ↓clearOff_mem, ↓copyPorts_mem, ↓daqPhase_mem, ↓raise_mem, ↓safeOutput_mem, ↓stopLoop_mem, ↓tracePhase_mem]; done) | rfl | grind [set_mem, setLoopSt_mem, clearOff_mem, copyPorts_mem, daqPhase_mem, raise_mem, safeOutput_mem, stopLoop_mem, tracePhase_mem]) | rfl | grind [set_mem, setLoopSt_mem, clearOff_mem, copyPorts_mem, daqPhase_mem, raise_mem, safeOutput_mem, stopLoop_mem, tracePhase_mem]

theorem shadowCompare_mem (w : Nat) (l : Nat) (s : State) :
    (shadowCompare w l s).mem = s.mem := by
  simp only [shadowCompare, ↓apply_ite State.mem, ite_self, ↓foldl_mem, implies_true, ↓set_mem, ↓setWhorl_mem, ↓issueFor_mem, ↓raise_mem]; (repeat' split) <;> first | (simp only [↓apply_ite State.mem, ite_self, ↓foldl_mem, implies_true, ↓set_mem, ↓setWhorl_mem, ↓issueFor_mem, ↓raise_mem]; done) | (simp only [↓apply_ite State.mem, ite_self, ↓foldl_mem, implies_true, ↓set_mem, ↓setWhorl_mem, ↓issueFor_mem, ↓raise_mem]; (repeat' split) <;> first | (simp only [↓apply_ite State.mem, ite_self, ↓foldl_mem, implies_true, ↓set_mem, ↓setWhorl_mem, ↓issueFor_mem, ↓raise_mem]; done) | rfl | grind [set_mem, setWhorl_mem, issueFor_mem, raise_mem]) | rfl | grind [set_mem, setWhorl_mem, issueFor_mem, raise_mem]

theorem execBudgetEnd_mem (w : Fin 8) (loop : Fin 8) (s : State) {s' : State} (hr : execBudgetEnd w loop s = .next s') :
    s'.mem = s.mem := by
  unfold execBudgetEnd at hr
  injection hr with hr; subst hr; simp only [↓apply_ite State.mem, ite_self, ↓foldl_mem, implies_true, ↓budgetEnd_mem, ↓outputPhase_mem]

theorem execOutputPhaseCopy_mem (w : Fin 8) (loop : Fin 8) (late : List (Fin 12)) (s : State) {s' : State} (hr : execOutputPhaseCopy w
    loop late s = .next s') :
    s'.mem = s.mem := by
  unfold execOutputPhaseCopy at hr
  injection hr with hr; subst hr; simp only [↓apply_ite State.mem, ite_self, ↓foldl_mem, implies_true, ↓outputPhase_mem, ↓shadowCompare_mem]

theorem execBackgroundComplete_mem (w : Fin 8) (loop : Fin 8) (s : State) {s' : State} (hr : execBackgroundComplete w loop s = .next s') :
    s'.mem = s.mem := by
  unfold execBackgroundComplete at hr
  injection hr with hr; subst hr; simp only [↓apply_ite State.mem, ite_self, ↓foldl_mem, implies_true, ↓budgetEnd_mem, ↓outputPhase_mem, ↓shadowCompare_mem]

theorem loopEnable_mem (w : Nat) (l : Nat) (atTrigger : Bool) (s : State) :
    (loopEnable w l atTrigger s).mem = s.mem := by
  simp only [loopEnable, ↓apply_ite State.mem, ite_self, ↓foldl_mem, implies_true, ↓set_mem, ↓setLoopSt_mem]

theorem loopDisable_mem (w : Nat) (l : Nat) (s : State) :
    (loopDisable w l s).mem = s.mem := by
  simp only [loopDisable, ↓apply_ite State.mem, ite_self, ↓foldl_mem, implies_true, ↓set_mem, ↓setLoopSt_mem, ↓raise_mem, ↓safeOutput_mem]

theorem execLoopEnable_mem (m : Master) (w : Fin 8) (loop : Fin 8) (atTrigger : Bool) (s : State) {s' : State} (hr : execLoopEnable m w
    loop atTrigger s = .next s') :
    s'.mem = s.mem := by
  unfold execLoopEnable at hr
  injection hr with hr; subst hr; simp only [↓apply_ite State.mem, ite_self, ↓foldl_mem, implies_true, ↓answer_mem, ↓busError_mem, ↓loopEnable_mem]

theorem execLoopDisable_mem (m : Master) (w : Fin 8) (loop : Fin 8) (s : State) {s' : State} (hr : execLoopDisable m w loop s = .next s') :
    s'.mem = s.mem := by
  unfold execLoopDisable at hr
  injection hr with hr; subst hr; simp only [↓apply_ite State.mem, ite_self, ↓foldl_mem, implies_true, ↓answer_mem, ↓busError_mem, ↓loopDisable_mem]

theorem enqueue_mem (w : Nat) (e : QEntry) (s : State) :
    (enqueue w e s).mem = s.mem := by
  simp only [enqueue, ↓apply_ite State.mem, ite_self, ↓foldl_mem, implies_true, ↓answer_mem, ↓bump_mem, ↓set_mem, ↓setWhorl_mem, ↓busError_mem, ↓raise_mem]

theorem execCqHoldSet_mem (m : Master) (w : Fin 8) (s : State) {s' : State} (hr : execCqHoldSet m w s = .next s') :
    s'.mem = s.mem := by
  unfold execCqHoldSet at hr
  injection hr with hr; subst hr; simp only [↓apply_ite State.mem, ite_self, ↓foldl_mem, implies_true, ↓answer_mem, ↓set_mem, ↓busError_mem]

theorem execCqHoldClear_mem (m : Master) (w : Fin 8) (s : State) {s' : State} (hr : execCqHoldClear m w s = .next s') :
    s'.mem = s.mem := by
  unfold execCqHoldClear at hr
  injection hr with hr; subst hr; simp only [↓apply_ite State.mem, ite_self, ↓foldl_mem, implies_true, ↓answer_mem, ↓set_mem, ↓busError_mem]

theorem cqFlush_mem (w : Nat) (s : State) :
    (cqFlush w s).mem = s.mem := by
  simp only [cqFlush, ↓apply_ite State.mem, ite_self, ↓foldl_mem, implies_true, ↓set_mem, ↓setWhorl_mem, ↓handoverAbort_mem]; (repeat' split) <;> first | (simp only [↓apply_ite State.mem, ite_self, ↓foldl_mem, implies_true, ↓set_mem, ↓setWhorl_mem, ↓handoverAbort_mem]; done) | (simp only [↓apply_ite State.mem, ite_self, ↓foldl_mem, implies_true, ↓set_mem, ↓setWhorl_mem, ↓handoverAbort_mem]; (repeat' split) <;> first | (simp only [↓apply_ite State.mem, ite_self, ↓foldl_mem, implies_true, ↓set_mem, ↓setWhorl_mem, ↓handoverAbort_mem]; done) | rfl | grind [set_mem, setWhorl_mem, handoverAbort_mem]) | rfl | grind [set_mem, setWhorl_mem, handoverAbort_mem]

theorem execCqFlush_mem (m : Master) (w : Fin 8) (s : State) {s' : State} (hr : execCqFlush m w s = .next s') :
    s'.mem = s.mem := by
  unfold execCqFlush at hr
  injection hr with hr; subst hr; simp only [↓apply_ite State.mem, ite_self, ↓foldl_mem, implies_true, ↓answer_mem, ↓busError_mem, ↓cqFlush_mem]

theorem execShadowSessionStart_mem (w : Fin 8) (s : State) {s' : State} (hr : execShadowSessionStart w s = .next s') :
    s'.mem = s.mem := by
  unfold execShadowSessionStart at hr
  injection hr with hr; subst hr; simp only [↓apply_ite State.mem, ite_self, ↓foldl_mem, implies_true, ↓set_mem, ↓setWhorl_mem]; (repeat' split) <;> first | (simp only [↓apply_ite State.mem, ite_self, ↓foldl_mem, implies_true, ↓set_mem, ↓setWhorl_mem]; done) | (simp only [↓apply_ite State.mem, ite_self, ↓foldl_mem, implies_true, ↓set_mem, ↓setWhorl_mem]; (repeat' split) <;> first | (simp only [↓apply_ite State.mem, ite_self, ↓foldl_mem, implies_true, ↓set_mem, ↓setWhorl_mem]; done) | rfl | grind [set_mem, setWhorl_mem]) | rfl | grind [set_mem, setWhorl_mem]

theorem startShadow_mem (w : Nat) (s : State) :
    (startShadow w s).mem = s.mem := by
  simp only [startShadow, ↓apply_ite State.mem, ite_self, ↓foldl_mem, implies_true, ↓set_mem, ↓setWhorl_mem]

theorem handoverSwitch_mem (a : Nat) (b : Nat) (s : State) :
    (handoverSwitch a b s).mem = s.mem := by
  simp only [handoverSwitch, ↓apply_ite State.mem, ite_self, ↓foldl_mem, implies_true, ↓set_mem, ↓setWhorl_mem, ↓raise_mem, ↓startShadow_mem, ↓switchTo_mem, ↓updWhorlSwitched_mem]

theorem handoverRequest_mem (a : Nat) (b : Nat) (s : State) :
    (handoverRequest a b s).mem = s.mem := by
  simp only [handoverRequest, ↓apply_ite State.mem, ite_self, ↓foldl_mem, implies_true, ↓set_mem, ↓setWhorl_mem]

theorem handoverWrite_mem (m : Master) (value : Word) (s : State) :
    (handoverWrite m value s).mem = s.mem := by
  simp only [handoverWrite, ↓apply_ite State.mem, ite_self, ↓foldl_mem, implies_true, ↓answer_mem, ↓set_mem, ↓busError_mem, ↓handoverRequest_mem]

theorem execWhlHandoverRequest_mem (m : Master) (value : Word) (s : State) {s' : State} (hr : execWhlHandoverRequest m value s = .next s') :
    s'.mem = s.mem := by
  unfold execWhlHandoverRequest at hr
  injection hr with hr; subst hr; simp only [↓apply_ite State.mem, ite_self, ↓foldl_mem, implies_true, ↓handoverWrite_mem]

theorem scrubPoisonWhorl_mem (w : Nat) (off : Nat) (s : State) :
    (scrubPoisonWhorl w off s).mem = s.mem := by
  simp only [scrubPoisonWhorl, ↓apply_ite State.mem, ite_self, ↓foldl_mem, implies_true, ↓setLoopSt_mem, ↓setWhorl_mem, ↓stopLoop_mem]

theorem execCodeRepair_mem (w : Fin 8) (word : Fin 32768) (copyOk : Bool) (s : State) {s' : State} (hr : execCodeRepair w word copyOk s =
    .next s') :
    s'.mem = s.mem := by
  unfold execCodeRepair at hr
  injection hr with hr; subst hr; simp only [↓apply_ite State.mem, ite_self, ↓foldl_mem, implies_true, ↓setWhorl_mem, ↓cleanWord_mem, ↓failWhorl_mem]

theorem setSrc_mem (s : State) (k : Nat) (x : SrcSt) :
    (State.setSrc s k x).mem = s.mem := by
  simp only [State.setSrc, ↓apply_ite State.mem, ite_self, ↓foldl_mem, implies_true]

theorem setSens_mem (s : State) (k : Nat) (x : SensSt) :
    (State.setSens s k x).mem = s.mem := by
  simp only [State.setSens, ↓apply_ite State.mem, ite_self, ↓foldl_mem, implies_true]

theorem setTrk_mem (s : State) (m : Nat) (x : TrkSt) :
    (State.setTrk s m x).mem = s.mem := by
  simp only [State.setTrk, ↓apply_ite State.mem, ite_self, ↓foldl_mem, implies_true]

theorem setEmf_mem (s : State) (m : Nat) (x : EmfSt) :
    (State.setEmf s m x).mem = s.mem := by
  simp only [State.setEmf, ↓apply_ite State.mem, ite_self, ↓foldl_mem, implies_true]

theorem setEmu_mem (s : State) (e : Nat) (x : EmuSt) :
    (State.setEmu s e x).mem = s.mem := by
  simp only [State.setEmu, ↓apply_ite State.mem, ite_self, ↓foldl_mem, implies_true]

theorem declareLoss_mem (m : Nat) (cause : Nat) (s : State) :
    (declareLoss m cause s).mem = s.mem := by
  simp only [declareLoss, ↓apply_ite State.mem, ite_self, ↓foldl_mem, implies_true, ↓set_mem, ↓setBit_mem, ↓setSrc_mem, ↓setTrk_mem, ↓issue_mem, ↓lossReact_mem, ↓raise_mem]

theorem lossOfSrc_mem (k : Nat) (cause : Nat) (s : State) :
    (lossOfSrc k cause s).mem = s.mem := by
  simp only [lossOfSrc, ↓apply_ite State.mem, ite_self, ↓foldl_mem, implies_true, ↓declareLoss_mem]

theorem srcValid_mem (k : Nat) (theta : Nat) (s : State) :
    (srcValid k theta s).mem = s.mem := by
  simp only [srcValid, ↓apply_ite State.mem, ite_self, ↓foldl_mem, implies_true, ↓set_mem, ↓setSrc_mem, ↓wr_mem]

theorem srcError_mem (k : Nat) (s : State) :
    (srcError k s).mem = s.mem := by
  simp only [srcError, ↓apply_ite State.mem, ite_self, ↓foldl_mem, implies_true, ↓bump_mem, ↓set_mem, ↓setSrc_mem, ↓lossOfSrc_mem, ↓raise_mem]

theorem staleSrc_mem (k : Nat) (s : State) :
    (staleSrc k s).mem = s.mem := by
  simp only [staleSrc, ↓apply_ite State.mem, ite_self, ↓foldl_mem, implies_true, ↓set_mem, ↓lossOfSrc_mem]

theorem execMeasurementTimeout_mem (src : Fin 14) (s : State) {s' : State} (hr : execMeasurementTimeout src s = .next s') :
    s'.mem = s.mem := by
  unfold execMeasurementTimeout at hr
  injection hr with hr; subst hr; simp only [↓apply_ite State.mem, ite_self, ↓foldl_mem, implies_true, ↓set_mem, ↓setSrc_mem, ↓lossOfSrc_mem]

theorem cmpFire_mem (c : Nat) (range : Nat) (s : State) :
    (cmpFire c range s).mem = s.mem := by
  simp only [cmpFire, ↓apply_ite State.mem, ite_self, ↓foldl_mem, implies_true, ↓set_mem, ↓raise_mem]

theorem cmpCheck_mem (k : Nat) (hit : Nat → Bool) (s : State) :
    (cmpCheck k hit s).mem = s.mem := by
  simp only [cmpCheck, ↓apply_ite State.mem, ite_self, ↓foldl_mem, implies_true, ↓cmpFire_mem]

theorem cmpWrite_mem (c : Nat) (value : Word) (reached : Bool) (s : State) :
    (cmpWrite c value reached s).mem = s.mem := by
  simp only [cmpWrite, ↓apply_ite State.mem, ite_self, ↓foldl_mem, implies_true, ↓set_mem, ↓cmpFire_mem]

theorem execCompareValWrite_mem (m : Master) (c : Fin 8) (value : Word) (reached : Bool) (s : State) {s' : State} (hr :
    execCompareValWrite m c value reached s = .next s') :
    s'.mem = s.mem := by
  unfold execCompareValWrite at hr
  injection hr with hr; subst hr; simp only [↓apply_ite State.mem, ite_self, ↓foldl_mem, implies_true, ↓answer_mem, ↓busError_mem, ↓cmpWrite_mem]

theorem emuDue_mem (e : Nat) (num : Int) (den : Int) (s : State) :
    (emuDue e num den s).mem = s.mem := by
  simp only [emuDue, ↓apply_ite State.mem, ite_self, ↓foldl_mem, implies_true, ↓set_mem, ↓setEmu_mem, ↓issue_mem, ↓raise_mem]

theorem execEmulationEdge_mem (e : Fin 2) (s : State) {s' : State} (hr : execEmulationEdge e s = .next s') :
    s'.mem = s.mem := by
  unfold execEmulationEdge at hr
  injection hr with hr; subst hr; simp only [↓apply_ite State.mem, ite_self, ↓foldl_mem, implies_true, ↓set_mem, ↓setEmu_mem]

theorem emuEnable_mem (e : Nat) (s : State) :
    (emuEnable e s).mem = s.mem := by
  simp only [emuEnable, ↓apply_ite State.mem, ite_self, ↓foldl_mem, implies_true, ↓set_mem, ↓setEmu_mem]

theorem acquire_mem (m : Nat) (theta : Nat) (ofs : Nat) (s : State) :
    (acquire m theta ofs s).mem = s.mem := by
  simp only [acquire, ↓apply_ite State.mem, ite_self, ↓foldl_mem, implies_true, ↓set_mem, ↓setTrk_mem, ↓raise_mem]

theorem acquireEnc_mem (m : Nat) (theta : Nat) (s : State) :
    (acquireEnc m theta s).mem = s.mem := by
  simp only [acquireEnc, ↓apply_ite State.mem, ite_self, ↓foldl_mem, implies_true, ↓acquire_mem]

theorem trkEnable_mem (m : Nat) (s : State) :
    (trkEnable m s).mem = s.mem := by
  simp only [trkEnable, ↓apply_ite State.mem, ite_self, ↓foldl_mem, implies_true, ↓set_mem, ↓setSrc_mem]

theorem machAcq_mem (mst : Master) (m : Nat) (useSet : Bool) (s : State) :
    (machAcq mst m useSet s).mem = s.mem := by
  simp only [machAcq, ↓apply_ite State.mem, ite_self, ↓foldl_mem, implies_true, ↓set_mem, ↓acquireEnc_mem, ↓lossCleared_mem]

theorem execMachAcq_mem (m : Master) (mach : Fin 2) (s : State) {s' : State} (hr : execMachAcq m mach s = .next s') :
    s'.mem = s.mem := by
  unfold execMachAcq at hr
  injection hr with hr; subst hr; simp only [↓apply_ite State.mem, ite_self, ↓foldl_mem, implies_true, ↓answer_mem, ↓busError_mem, ↓machAcq_mem]

theorem execMachAcqUseSet_mem (m : Master) (mach : Fin 2) (s : State) {s' : State} (hr : execMachAcqUseSet m mach s = .next s') :
    s'.mem = s.mem := by
  unfold execMachAcqUseSet at hr
  injection hr with hr; subst hr; simp only [↓apply_ite State.mem, ite_self, ↓foldl_mem, implies_true, ↓answer_mem, ↓busError_mem, ↓machAcq_mem]

theorem encCount_mem (n : Nat) (up : Bool) (s : State) :
    (encCount n up s).mem = s.mem := by
  simp only [encCount, ↓apply_ite State.mem, ite_self, ↓foldl_mem, implies_true, ↓set_mem, ↓setSens_mem, ↓raise_mem]

theorem execEncoderEdge_mem (n : Fin 4) (count : Option Bool) (s : State) {s' : State} (hr : execEncoderEdge n count s = .next s') :
    s'.mem = s.mem := by
  unfold execEncoderEdge at hr
  injection hr with hr; subst hr; simp only [↓apply_ite State.mem, ite_self, ↓foldl_mem, implies_true, ↓bump_mem, ↓setSrc_mem, ↓cmpCheck_mem, ↓emuDue_mem, ↓encCount_mem, ↓srcError_mem, ↓srcValid_mem]; (repeat' split) <;> first | (simp only [↓apply_ite State.mem, ite_self, ↓foldl_mem, implies_true, ↓bump_mem, ↓setSrc_mem, ↓cmpCheck_mem, ↓emuDue_mem, ↓encCount_mem, ↓srcError_mem, ↓srcValid_mem]; done) | (simp only [↓apply_ite State.mem, ite_self, ↓foldl_mem, implies_true, ↓bump_mem, ↓setSrc_mem, ↓cmpCheck_mem, ↓emuDue_mem, ↓encCount_mem, ↓srcError_mem, ↓srcValid_mem]; (repeat' split) <;> first | (simp only [↓apply_ite State.mem, ite_self, ↓foldl_mem, implies_true, ↓bump_mem, ↓setSrc_mem, ↓cmpCheck_mem, ↓emuDue_mem, ↓encCount_mem, ↓srcError_mem, ↓srcValid_mem]; done) | rfl | grind [bump_mem, setSrc_mem, cmpCheck_mem, emuDue_mem, encCount_mem, srcError_mem, srcValid_mem]) | rfl | grind [bump_mem, setSrc_mem, cmpCheck_mem, emuDue_mem, encCount_mem, srcError_mem, srcValid_mem]

theorem execEncoderIndex_mem (n : Fin 4) (abHigh : Bool) (s : State) {s' : State} (hr : execEncoderIndex n abHigh s = .next s') :
    s'.mem = s.mem := by
  unfold execEncoderIndex at hr
  injection hr with hr; subst hr; simp only [↓apply_ite State.mem, ite_self, ↓foldl_mem, implies_true, ↓set_mem, ↓setSens_mem, ↓acquireEnc_mem, ↓issue_mem, ↓raise_mem, ↓srcError_mem]; (repeat' split) <;> first | (simp only [↓apply_ite State.mem, ite_self, ↓foldl_mem, implies_true, ↓set_mem, ↓setSens_mem, ↓acquireEnc_mem, ↓issue_mem, ↓raise_mem, ↓srcError_mem]; done) | (simp only [↓apply_ite State.mem, ite_self, ↓foldl_mem, implies_true, ↓set_mem, ↓setSens_mem, ↓acquireEnc_mem, ↓issue_mem, ↓raise_mem, ↓srcError_mem]; (repeat' split) <;> first | (simp only [↓apply_ite State.mem, ite_self, ↓foldl_mem, implies_true, ↓set_mem, ↓setSens_mem, ↓acquireEnc_mem, ↓issue_mem, ↓raise_mem, ↓srcError_mem]; done) | rfl | grind [set_mem, setSens_mem, acquireEnc_mem, issue_mem, raise_mem, srcError_mem]) | rfl | grind [set_mem, setSens_mem, acquireEnc_mem, issue_mem, raise_mem, srcError_mem]

theorem encCapture_mem (n : Nat) (s : State) :
    (encCapture n s).mem = s.mem := by
  simp only [encCapture, ↓apply_ite State.mem, ite_self, ↓foldl_mem, implies_true, ↓set_mem]

theorem execEncPosRead_mem (m : Master) (n : Fin 4) (s : State) {s' : State} (hr : execEncPosRead m n s = .next s') :
    s'.mem = s.mem := by
  unfold execEncPosRead at hr
  injection hr with hr; subst hr; simp only [↓apply_ite State.mem, ite_self, ↓foldl_mem, implies_true, ↓answer_mem, ↓busError_mem, ↓encCapture_mem]

theorem execHallTransition_mem (h : Fin 2) (state : BitVec 3) (s : State) {s' : State} (hr : execHallTransition h state s = .next s') :
    s'.mem = s.mem := by
  unfold execHallTransition at hr
  injection hr with hr; subst hr; simp only [↓apply_ite State.mem, ite_self, ↓foldl_mem, implies_true, ↓set_mem, ↓setSens_mem, ↓setSrc_mem, ↓acquireEnc_mem, ↓srcError_mem, ↓srcValid_mem]; (repeat' split) <;> first | (simp only [↓apply_ite State.mem, ite_self, ↓foldl_mem, implies_true, ↓set_mem, ↓setSens_mem, ↓setSrc_mem, ↓acquireEnc_mem, ↓srcError_mem, ↓srcValid_mem]; done) | (simp only [↓apply_ite State.mem, ite_self, ↓foldl_mem, implies_true, ↓set_mem, ↓setSens_mem, ↓setSrc_mem, ↓acquireEnc_mem, ↓srcError_mem, ↓srcValid_mem]; (repeat' split) <;> first | (simp only [↓apply_ite State.mem, ite_self, ↓foldl_mem, implies_true, ↓set_mem, ↓setSens_mem, ↓setSrc_mem, ↓acquireEnc_mem, ↓srcError_mem, ↓srcValid_mem]; done) | rfl | grind [set_mem, setSens_mem, setSrc_mem, acquireEnc_mem, srcError_mem, srcValid_mem]) | rfl | grind [set_mem, setSens_mem, setSrc_mem, acquireEnc_mem, srcError_mem, srcValid_mem]

theorem execResolverHalfPeriod_mem (r : Fin 2) (sinV : Int) (cosV : Int) (s : State) {s' : State} (hr : execResolverHalfPeriod r sinV
    cosV s = .next s') :
    s'.mem = s.mem := by
  unfold execResolverHalfPeriod at hr
  injection hr with hr; subst hr; simp only [↓apply_ite State.mem, ite_self, ↓foldl_mem, implies_true, ↓setSens_mem, ↓setSrc_mem, ↓lossOfSrc_mem, ↓srcValid_mem]

theorem execExcitationFault_mem (r : Fin 2) (present : Bool) (s : State) {s' : State} (hr : execExcitationFault r present s = .next s') :
    s'.mem = s.mem := by
  unfold execExcitationFault at hr
  injection hr with hr; subst hr; simp only [↓apply_ite State.mem, ite_self, ↓foldl_mem, implies_true, ↓setB_mem, ↓lossOfSrc_mem]

theorem execSerialPoll_mem (k : Fin 2) (s : State) {s' : State} (hr : execSerialPoll k s = .next s') :
    s'.mem = s.mem := by
  unfold execSerialPoll at hr
  injection hr with hr; subst hr; simp only [↓apply_ite State.mem, ite_self, ↓foldl_mem, implies_true, ↓setSens_mem]

theorem execSerialFrameEnd_mem (k : Fin 2) (frame : SerFrame) (s : State) {s' : State} (hr : execSerialFrameEnd k frame s = .next s') :
    s'.mem = s.mem := by
  unfold execSerialFrameEnd at hr
  injection hr with hr; subst hr; simp only [↓apply_ite State.mem, ite_self, ↓foldl_mem, implies_true, ↓set_mem, ↓setSens_mem, ↓srcError_mem, ↓srcValid_mem]

theorem execSerialTimeout_mem (k : Fin 2) (s : State) {s' : State} (hr : execSerialTimeout k s = .next s') :
    s'.mem = s.mem := by
  unfold execSerialTimeout at hr
  injection hr with hr; subst hr; simp only [↓apply_ite State.mem, ite_self, ↓foldl_mem, implies_true, ↓setSens_mem, ↓srcError_mem]

theorem execSentFrame_mem (k : Fin 4) (nibbles : List (Fin 16)) (crc : Fin 16) (syncOk : Bool) (slow : Option SlowMsg) (s : State) {s' :
    State} (hr : execSentFrame k nibbles crc syncOk slow s = .next s') :
    s'.mem = s.mem := by
  unfold execSentFrame at hr
  injection hr with hr; subst hr; simp only [↓apply_ite State.mem, ite_self, ↓foldl_mem, implies_true, ↓bump_mem, ↓set_mem, ↓setB_mem, ↓srcError_mem, ↓srcValid_mem]; (repeat' split) <;> first | (simp only [↓apply_ite State.mem, ite_self, ↓foldl_mem, implies_true, ↓bump_mem, ↓set_mem, ↓setB_mem, ↓srcError_mem, ↓srcValid_mem]; done) | (simp only [↓apply_ite State.mem, ite_self, ↓foldl_mem, implies_true, ↓bump_mem, ↓set_mem, ↓setB_mem, ↓srcError_mem, ↓srcValid_mem]; (repeat' split) <;> first | (simp only [↓apply_ite State.mem, ite_self, ↓foldl_mem, implies_true, ↓bump_mem, ↓set_mem, ↓setB_mem, ↓srcError_mem, ↓srcValid_mem]; done) | rfl | grind [bump_mem, set_mem, setB_mem, srcError_mem, srcValid_mem]) | rfl | grind [bump_mem, set_mem, setB_mem, srcError_mem, srcValid_mem]

theorem trkApply_mem (m : Nat) (thetaM : Nat) (age : Nat) (s : State) :
    (trkApply m thetaM age s).mem = s.mem := by
  simp only [trkApply, ↓apply_ite State.mem, ite_self, ↓foldl_mem, implies_true, ↓setTrk_mem, ↓declareLoss_mem]

theorem trkReport_mem (m : Nat) (s : State) :
    (trkReport m s).mem = s.mem := by
  simp only [trkReport, ↓apply_ite State.mem, ite_self, ↓foldl_mem, implies_true, ↓set_mem, ↓setB_mem, ↓setI_mem, ↓aboveChanged_mem, ↓raise_mem]

theorem trkMoved_mem (m : Nat) (s : State) :
    (trkMoved m s).mem = s.mem := by
  simp only [trkMoved, ↓apply_ite State.mem, ite_self, ↓foldl_mem, implies_true, ↓setTrk_mem, ↓cmpCheck_mem, ↓emuDue_mem]

theorem trkMeasure_mem (m : Nat) (age : Nat) (fresh : Bool) (s : State) :
    (trkMeasure m age fresh s).mem = s.mem := by
  simp only [trkMeasure, ↓apply_ite State.mem, ite_self, ↓foldl_mem, implies_true, ↓setTrk_mem, ↓trkApply_mem]

end Sys2Proof.Machine
end

