-- ==== Sys2Proof/Laws/MemKept2.lean ====
section
/-! SUPPORT. Operations and meanings that leave every byte of memory as it was. -/

set_option maxRecDepth 4000
set_option linter.all false
namespace Sys2Proof.Machine
open Sys2Proof

theorem reacqTick_mem (m : Nat) (s : State) :
    (reacqTick m s).mem = s.mem := by
  simp only [reacqTick, ↓apply_ite State.mem, ite_self, ↓foldl_mem, implies_true, ↓set_mem]

theorem trkPropagate_mem (m : Nat) (age : Nat) (fresh : Bool) (s : State) :
    (trkPropagate m age fresh s).mem = s.mem := by
  simp only [trkPropagate, ↓apply_ite State.mem, ite_self, ↓foldl_mem, implies_true, ↓setTrk_mem, ↓trkMeasure_mem, ↓trkMoved_mem]

theorem execTrackerStep_mem (mach : Fin 2) (age : Nat) (s : State) {s' : State} (hr : execTrackerStep mach age s = .next s') :
    s'.mem = s.mem := by
  unfold execTrackerStep at hr
  injection hr with hr; subst hr; simp only [↓apply_ite State.mem, ite_self, ↓foldl_mem, implies_true, ↓set_mem, ↓setSrc_mem, ↓setTrk_mem, ↓acquire_mem, ↓reacqTick_mem, ↓trkPropagate_mem, ↓trkReport_mem]

theorem emfLock_mem (m : Nat) (b : Bool) (s : State) :
    (emfLock m b s).mem = s.mem := by
  simp only [emfLock, ↓apply_ite State.mem, ite_self, ↓foldl_mem, implies_true, ↓lossLocked_mem, ↓lossUnlocked_mem, ↓showLock_mem]

theorem crossCheck_mem (m : Nat) (d : Nat) (s : State) :
    (crossCheck m d s).mem = s.mem := by
  simp only [crossCheck, ↓apply_ite State.mem, ite_self, ↓foldl_mem, implies_true, ↓setB_mem, ↓setTrk_mem, ↓declareLoss_mem]

theorem emfUpdate_mem (m : Nat) (vUV : Int) (vVW : Int) (iU : Int) (iV : Int) (ok : Bool) (wlen : Nat) (d : Nat) (s : State) :
    (emfUpdate m vUV vVW iU iV ok wlen d s).mem = s.mem := by
  simp only [emfUpdate, ↓apply_ite State.mem, ite_self, ↓foldl_mem, implies_true, ↓set_mem, ↓setB_mem, ↓setEmf_mem, ↓crossCheck_mem, ↓emfLock_mem, ↓srcValid_mem]

theorem takeSnapshot_mem (n : Nat) (w : Nat) (d : SnapAge) (s : State) :
    (takeSnapshot n w d s).mem = s.mem := by
  simp only [takeSnapshot, ↓apply_ite State.mem, ite_self, ↓foldl_mem, implies_true]

theorem flyDisable_mem (u : FlyUnit) (s : State) :
    (flyDisable u s).mem = s.mem := by
  simp only [flyDisable, ↓apply_ite State.mem, ite_self, ↓foldl_mem, implies_true, ↓set_mem, ↓setSens_mem]; (repeat' split) <;> first | (simp only [↓apply_ite State.mem, ite_self, ↓foldl_mem, implies_true, ↓set_mem, ↓setSens_mem]; done) | (simp only [↓apply_ite State.mem, ite_self, ↓foldl_mem, implies_true, ↓set_mem, ↓setSens_mem]; (repeat' split) <;> first | (simp only [↓apply_ite State.mem, ite_self, ↓foldl_mem, implies_true, ↓set_mem, ↓setSens_mem]; done) | rfl | grind [set_mem, setSens_mem]) | rfl | grind [set_mem, setSens_mem]

theorem execFlyerUnitDisable_mem (m : Master) (unit : FlyUnit) (s : State) {s' : State} (hr : execFlyerUnitDisable m unit s = .next s') :
    s'.mem = s.mem := by
  unfold execFlyerUnitDisable at hr
  injection hr with hr; subst hr; simp only [↓apply_ite State.mem, ite_self, ↓foldl_mem, implies_true, ↓answer_mem, ↓busError_mem, ↓flyDisable_mem]

theorem srcEnable_mem (k : Nat) (s : State) :
    (srcEnable k s).mem = s.mem := by
  simp only [srcEnable, ↓apply_ite State.mem, ite_self, ↓foldl_mem, implies_true, ↓set_mem, ↓setSens_mem, ↓setSrc_mem]

theorem execReacqTimeout_mem (p : Fin 16) (s : State) {s' : State} (hr : execReacqTimeout p s = .next s') :
    s'.mem = s.mem := by
  unfold execReacqTimeout at hr
  injection hr with hr; subst hr; simp only [↓apply_ite State.mem, ite_self, ↓foldl_mem, implies_true, ↓set_mem, ↓issueFor_mem]

theorem psetClear_mem (m : Master) (p : Nat) (s : State) :
    (psetClear m p s).mem = s.mem := by
  simp only [psetClear, ↓apply_ite State.mem, ite_self, ↓foldl_mem, implies_true, ↓set_mem, ↓setPset_mem, ↓aboveChanged_mem, ↓disarm_mem, ↓enterState_mem, ↓lossCoast_mem, ↓lossOff_mem]

theorem execPsetClear_mem (m : Master) (p : Fin 16) (s : State) {s' : State} (hr : execPsetClear m p s = .next s') :
    s'.mem = s.mem := by
  unfold execPsetClear at hr
  injection hr with hr; subst hr; simp only [↓apply_ite State.mem, ite_self, ↓foldl_mem, implies_true, ↓answer_mem, ↓busError_mem, ↓psetClear_mem]

theorem setKln_mem (s : State) (x : KlnSt) :
    (State.setKln s x).mem = s.mem := by
  simp only [State.setKln, ↓apply_ite State.mem, ite_self, ↓foldl_mem, implies_true]

theorem genRise_mem (g : Nat) (s : State) :
    (genRise g s).mem = s.mem := by
  simp only [genRise, ↓apply_ite State.mem, ite_self, ↓foldl_mem, implies_true, ↓raise_mem]

theorem kilnDrive_mem (s : State) :
    (kilnDrive s).mem = s.mem := by
  simp only [kilnDrive, ↓apply_ite State.mem, ite_self, ↓foldl_mem, implies_true, ↓setKln_mem, ↓enforceAll_mem, ↓genRise_mem, ↓raise_mem]

theorem issueKiln_mem (code : Nat) (cls : Nat) (s : State) :
    (issueKiln code cls s).mem = s.mem := by
  simp only [issueKiln, ↓apply_ite State.mem, ite_self, ↓foldl_mem, implies_true]

theorem tellControl_mem (code : Nat) (cls : Nat) (s : State) :
    (tellControl code cls s).mem = s.mem := by
  simp only [tellControl, ↓apply_ite State.mem, ite_self, ↓foldl_mem, implies_true, ↓issueKiln_mem]

theorem kilnRecord_mem (code : Nat) (s : State) :
    (kilnRecord code s).mem = s.mem := by
  simp only [kilnRecord, ↓apply_ite State.mem, ite_self, ↓foldl_mem, implies_true, ↓setKln_mem]

theorem kilnLatch_mem (e : Nat) (cls : Nat) (mask : Nat) (brake : Bool) (s : State) :
    (kilnLatch e cls mask brake s).mem = s.mem := by
  simp only [kilnLatch, ↓apply_ite State.mem, ite_self, ↓foldl_mem, implies_true, ↓setKln_mem, ↓kilnDrive_mem, ↓raise_mem]

theorem kilnApplyAs_mem (e : Nat) (code : Nat) (cls : Nat) (mask : Nat) (brake : Bool) (s : State) :
    (kilnApplyAs e code cls mask brake s).mem = s.mem := by
  simp only [kilnApplyAs, ↓apply_ite State.mem, ite_self, ↓foldl_mem, implies_true, ↓kilnLatch_mem, ↓kilnRecord_mem, ↓tellControl_mem]

theorem kilnApply_mem (e : Nat) (s : State) :
    (kilnApply e s).mem = s.mem := by
  simp only [kilnApply, ↓apply_ite State.mem, ite_self, ↓foldl_mem, implies_true, ↓kilnApplyAs_mem]

theorem kilnCond_mem (e : Nat) (present : Bool) (s : State) :
    (kilnCond e present s).mem = s.mem := by
  simp only [kilnCond, ↓apply_ite State.mem, ite_self, ↓foldl_mem, implies_true, ↓setKln_mem, ↓kilnApply_mem]

theorem kreqArrive_mem (new : Word) (s : State) :
    (kreqArrive new s).mem = s.mem := by
  simp only [kreqArrive, ↓apply_ite State.mem, ite_self, ↓foldl_mem, implies_true, ↓setKln_mem, ↓kilnApply_mem, ↓kilnDrive_mem]

theorem kreqWrite_mem (m : Master) (p : Nat) (new : Word) (s : State) :
    (kreqWrite m p new s).mem = s.mem := by
  simp only [kreqWrite, ↓apply_ite State.mem, ite_self, ↓foldl_mem, implies_true, ↓wr_mem, ↓kreqArrive_mem]

theorem kreqField_mem (m : Master) (p : Nat) (f : Fld) (v : Nat) (s : State) :
    (kreqField m p f v s).mem = s.mem := by
  simp only [kreqField, ↓apply_ite State.mem, ite_self, ↓foldl_mem, implies_true, ↓answer_mem, ↓busError_mem, ↓kreqWrite_mem]

theorem claimCommit_mem (m : Master) (p : Nat) (s : State) :
    (claimCommit m p s).mem = s.mem := by
  simp only [claimCommit, ↓apply_ite State.mem, ite_self, ↓foldl_mem, implies_true, ↓setKln_mem, ↓kilnCond_mem]

theorem currentCheck_mem (k : Nat) (s : State) :
    (currentCheck k s).mem = s.mem := by
  simp only [currentCheck, ↓apply_ite State.mem, ite_self, ↓foldl_mem, implies_true, ↓setKln_mem, ↓kilnCond_mem]

theorem kilnBurst_mem (n : Nat) (sum : Int) (s : State) :
    (kilnBurst n sum s).mem = s.mem := by
  simp only [kilnBurst, ↓apply_ite State.mem, ite_self, ↓foldl_mem, implies_true, ↓setKln_mem, ↓currentCheck_mem]

theorem kilnLinkHk_mem (i : Nat) (code : Nat) (s : State) :
    (kilnLinkHk i code s).mem = s.mem := by
  simp only [kilnLinkHk, ↓apply_ite State.mem, ite_self, ↓foldl_mem, implies_true, ↓setKln_mem, ↓kilnCond_mem]

theorem kilnSuspend_mem (i : Nat) (s : State) :
    (kilnSuspend i s).mem = s.mem := by
  simp only [kilnSuspend, ↓apply_ite State.mem, ite_self, ↓foldl_mem, implies_true, ↓setKln_mem, ↓kilnApply_mem, ↓raise_mem]

theorem kilnInputs_mem (s : State) :
    (kilnInputs s).mem = s.mem := by
  simp only [kilnInputs, ↓apply_ite State.mem, ite_self, ↓foldl_mem, implies_true, ↓kilnSuspend_mem]

theorem execKilnPowerCheck_mem (s : State) {s' : State} (hr : execKilnPowerCheck s = .next s') :
    s'.mem = s.mem := by
  unfold execKilnPowerCheck at hr
  injection hr with hr; subst hr; simp only [↓apply_ite State.mem, ite_self, ↓foldl_mem, implies_true, ↓setKln_mem, ↓kilnCond_mem]

theorem execClaimCommit_mem (m : Master) (p : Fin 2) (s : State) {s' : State} (hr : execClaimCommit m p s = .next s') :
    s'.mem = s.mem := by
  unfold execClaimCommit at hr
  injection hr with hr; subst hr; simp only [↓apply_ite State.mem, ite_self, ↓foldl_mem, implies_true, ↓answer_mem, ↓busError_mem, ↓claimCommit_mem]

theorem execClaimTimeout_mem (s : State) {s' : State} (hr : execClaimTimeout s = .next s') :
    s'.mem = s.mem := by
  unfold execClaimTimeout at hr
  injection hr with hr; subst hr; simp only [↓apply_ite State.mem, ite_self, ↓foldl_mem, implies_true, ↓kilnCond_mem]

theorem execKirchhoffTrip_mem (set : Fin 4) (s : State) {s' : State} (hr : execKirchhoffTrip set s = .next s') :
    s'.mem = s.mem := by
  unfold execKirchhoffTrip at hr
  injection hr with hr; subst hr; simp only [↓apply_ite State.mem, ite_self, ↓foldl_mem, implies_true, ↓set_mem, ↓kilnApply_mem]

theorem execKilnSpeedEdge_mem (mach : Fin 2) (s : State) {s' : State} (hr : execKilnSpeedEdge mach s = .next s') :
    s'.mem = s.mem := by
  unfold execKilnSpeedEdge at hr
  injection hr with hr; subst hr; simp only [↓apply_ite State.mem, ite_self, ↓foldl_mem, implies_true, ↓setKln_mem]

theorem ss1Complete_mem (s : State) :
    (ss1Complete s).mem = s.mem := by
  simp only [ss1Complete, ↓apply_ite State.mem, ite_self, ↓foldl_mem, implies_true, ↓setKln_mem, ↓kilnDrive_mem]

theorem gateEnd_mem (m : Nat) (t : Nat) (s : State) :
    (gateEnd m t s).mem = s.mem := by
  simp only [gateEnd, ↓apply_ite State.mem, ite_self, ↓foldl_mem, implies_true, ↓setKln_mem, ↓kilnApply_mem, ↓kilnCond_mem, ↓ss1Complete_mem]

theorem execKilnGateEnd_mem (mach : Fin 2) (t : Nat) (s : State) {s' : State} (hr : execKilnGateEnd mach t s = .next s') :
    s'.mem = s.mem := by
  unfold execKilnGateEnd at hr
  injection hr with hr; subst hr; simp only [↓apply_ite State.mem, ite_self, ↓foldl_mem, implies_true, ↓gateEnd_mem]

theorem execSs1Timeout_mem (s : State) {s' : State} (hr : execSs1Timeout s = .next s') :
    s'.mem = s.mem := by
  unfold execSs1Timeout at hr
  injection hr with hr; subst hr; simp only [↓apply_ite State.mem, ite_self, ↓foldl_mem, implies_true, ↓setKln_mem, ↓kilnApply_mem]

theorem execSs1StopComplete_mem (s : State) {s' : State} (hr : execSs1StopComplete s = .next s') :
    s'.mem = s.mem := by
  unfold execSs1StopComplete at hr
  injection hr with hr; subst hr; simp only [↓apply_ite State.mem, ite_self, ↓foldl_mem, implies_true, ↓ss1Complete_mem]

theorem execSlsRequest_mem (m : Master) (p : Fin 2) (bits : BitVec 2) (s : State) {s' : State} (hr : execSlsRequest m p bits s = .next s') :
    s'.mem = s.mem := by
  unfold execSlsRequest at hr
  injection hr with hr; subst hr; simp only [↓apply_ite State.mem, ite_self, ↓foldl_mem, implies_true, ↓kreqField_mem]

theorem execSs1Request_mem (m : Master) (p : Fin 2) (on : Bool) (s : State) {s' : State} (hr : execSs1Request m p on s = .next s') :
    s'.mem = s.mem := by
  unfold execSs1Request at hr
  injection hr with hr; subst hr; simp only [↓apply_ite State.mem, ite_self, ↓foldl_mem, implies_true, ↓kreqField_mem]

theorem execStoRequest_mem (m : Master) (p : Fin 2) (on : Bool) (s : State) {s' : State} (hr : execStoRequest m p on s = .next s') :
    s'.mem = s.mem := by
  unfold execStoRequest at hr
  injection hr with hr; subst hr; simp only [↓apply_ite State.mem, ite_self, ↓foldl_mem, implies_true, ↓kreqField_mem]

theorem execStoRelease_mem (m : Master) (p : Fin 2) (on : Bool) (s : State) {s' : State} (hr : execStoRelease m p on s = .next s') :
    s'.mem = s.mem := by
  unfold execStoRelease at hr
  injection hr with hr; subst hr; simp only [↓apply_ite State.mem, ite_self, ↓foldl_mem, implies_true, ↓kreqField_mem]

theorem execBrakeRelease_mem (m : Master) (p : Fin 2) (on : Bool) (s : State) {s' : State} (hr : execBrakeRelease m p on s = .next s') :
    s'.mem = s.mem := by
  unfold execBrakeRelease at hr
  injection hr with hr; subst hr; simp only [↓apply_ite State.mem, ite_self, ↓foldl_mem, implies_true, ↓kreqField_mem]

theorem execGenRelease_mem (m : Master) (p : Fin 2) (bits : BitVec 4) (s : State) {s' : State} (hr : execGenRelease m p bits s = .next s') :
    s'.mem = s.mem := by
  unfold execGenRelease at hr
  injection hr with hr; subst hr; simp only [↓apply_ite State.mem, ite_self, ↓foldl_mem, implies_true, ↓kreqField_mem]

theorem execStoFeedbackTimeout_mem (s : State) {s' : State} (hr : execStoFeedbackTimeout s = .next s') :
    s'.mem = s.mem := by
  unfold execStoFeedbackTimeout at hr
  injection hr with hr; subst hr; simp only [↓apply_ite State.mem, ite_self, ↓foldl_mem, implies_true, ↓kilnCond_mem]

theorem execBrakeFeedbackTimeout_mem (agrees : Bool) (s : State) {s' : State} (hr : execBrakeFeedbackTimeout agrees s = .next s') :
    s'.mem = s.mem := by
  unfold execBrakeFeedbackTimeout at hr
  injection hr with hr; subst hr; simp only [↓apply_ite State.mem, ite_self, ↓foldl_mem, implies_true, ↓kilnCond_mem]

theorem execDarkPulseStart_mem (sw : Fin 3) (s : State) {s' : State} (hr : execDarkPulseStart sw s = .next s') :
    s'.mem = s.mem := by
  unfold execDarkPulseStart at hr
  injection hr with hr; subst hr; simp only [↓apply_ite State.mem, ite_self, ↓foldl_mem, implies_true, ↓setKln_mem]

theorem execDarkPulseEnd_mem (sw : Fin 3) (off : Bool) (s : State) {s' : State} (hr : execDarkPulseEnd sw off s = .next s') :
    s'.mem = s.mem := by
  unfold execDarkPulseEnd at hr
  injection hr with hr; subst hr; simp only [↓apply_ite State.mem, ite_self, ↓foldl_mem, implies_true, ↓setKln_mem, ↓kilnCond_mem, ↓raise_mem]

theorem execKilnComparatorTest_mem (missed : Bool) (s : State) {s' : State} (hr : execKilnComparatorTest missed s = .next s') :
    s'.mem = s.mem := by
  unfold execKilnComparatorTest at hr
  injection hr with hr; subst hr; simp only [↓apply_ite State.mem, ite_self, ↓foldl_mem, implies_true, ↓kilnApply_mem, ↓raise_mem]

theorem execCtrlReact_mem (s : State) {s' : State} (hr : execCtrlReact s = .next s') :
    s'.mem = s.mem := by
  unfold execCtrlReact at hr
  injection hr with hr; subst hr; simp only [↓apply_ite State.mem, ite_self, ↓foldl_mem, implies_true, ↓setKln_mem, ↓kilnLatch_mem, ↓kilnRecord_mem]; (repeat' split) <;> first | (simp only [↓apply_ite State.mem, ite_self, ↓foldl_mem, implies_true, ↓setKln_mem, ↓kilnLatch_mem, ↓kilnRecord_mem]; done) | (simp only [↓apply_ite State.mem, ite_self, ↓foldl_mem, implies_true, ↓setKln_mem, ↓kilnLatch_mem, ↓kilnRecord_mem]; (repeat' split) <;> first | (simp only [↓apply_ite State.mem, ite_self, ↓foldl_mem, implies_true, ↓setKln_mem, ↓kilnLatch_mem, ↓kilnRecord_mem]; done) | rfl | grind [setKln_mem, kilnLatch_mem, kilnRecord_mem]) | rfl | grind [setKln_mem, kilnLatch_mem, kilnRecord_mem]

theorem kilnMirror_mem (s : State) :
    (kilnMirror s).mem = s.mem := by
  simp only [kilnMirror, ↓apply_ite State.mem, ite_self, ↓foldl_mem, implies_true, ↓set_mem, ↓setB_mem]

theorem execKilnMirrorRefresh_mem (s : State) {s' : State} (hr : execKilnMirrorRefresh s = .next s') :
    s'.mem = s.mem := by
  unfold execKilnMirrorRefresh at hr
  injection hr with hr; subst hr; simp only [↓apply_ite State.mem, ite_self, ↓foldl_mem, implies_true, ↓kilnMirror_mem]

theorem hbMiss_mem (p : Nat) (c : Nat) (s : State) :
    (hbMiss p c s).mem = s.mem := by
  simp only [hbMiss, ↓apply_ite State.mem, ite_self, ↓foldl_mem, implies_true, ↓setKln_mem, ↓kilnApplyAs_mem, ↓kilnCond_mem, ↓raise_mem]

theorem hbChallenge_mem (p : Nat) (q : Nat) (s : State) :
    (hbChallenge p q s).mem = s.mem := by
  simp only [hbChallenge, ↓apply_ite State.mem, ite_self, ↓set_mem, ↓kilnCond_mem, ↓setKln_mem]
  exact foldl_mem _ (fun t c => by split <;> first | rfl | exact setKln_mem _ _ | exact hbMiss_mem _ _ _) _ _

theorem execHeartbeatChallenge_mem (qa : Fin 16) (qb : Fin 16) (s : State) {s' : State} (hr : execHeartbeatChallenge qa qb s = .next s') :
    s'.mem = s.mem := by
  unfold execHeartbeatChallenge at hr
  injection hr with hr; subst hr; simp only [↓apply_ite State.mem, ite_self, ↓foldl_mem, implies_true, ↓setKln_mem, ↓hbChallenge_mem]

theorem hbAnswer_mem (p : Nat) (c : Nat) (us : Nat) (value : Word) (s : State) :
    (hbAnswer p c us value s).mem = s.mem := by
  simp only [hbAnswer, ↓apply_ite State.mem, ite_self, ↓foldl_mem, implies_true, ↓setKln_mem, ↓updArm_mem]; (repeat' split) <;> first | (simp only [↓apply_ite State.mem, ite_self, ↓foldl_mem, implies_true, ↓setKln_mem, ↓updArm_mem]; done) | (simp only [↓apply_ite State.mem, ite_self, ↓foldl_mem, implies_true, ↓setKln_mem, ↓updArm_mem]; (repeat' split) <;> first | (simp only [↓apply_ite State.mem, ite_self, ↓foldl_mem, implies_true, ↓setKln_mem, ↓updArm_mem]; done) | rfl | grind [setKln_mem, updArm_mem]) | rfl | grind [setKln_mem, updArm_mem]

theorem execHeartbeatAnswer_mem (m : Master) (p : Fin 2) (one : Bool) (value : Word) (us : Nat) (s : State) {s' : State} (hr :
    execHeartbeatAnswer m p one value us s = .next s') :
    s'.mem = s.mem := by
  unfold execHeartbeatAnswer at hr
  injection hr with hr; subst hr; simp only [↓apply_ite State.mem, ite_self, ↓foldl_mem, implies_true, ↓answer_mem, ↓busError_mem, ↓hbAnswer_mem]; (repeat' split) <;> first | (simp only [↓apply_ite State.mem, ite_self, ↓foldl_mem, implies_true, ↓answer_mem, ↓busError_mem, ↓hbAnswer_mem]; done) | (simp only [↓apply_ite State.mem, ite_self, ↓foldl_mem, implies_true, ↓answer_mem, ↓busError_mem, ↓hbAnswer_mem]; (repeat' split) <;> first | (simp only [↓apply_ite State.mem, ite_self, ↓foldl_mem, implies_true, ↓answer_mem, ↓busError_mem, ↓hbAnswer_mem]; done) | rfl | grind [answer_mem, busError_mem, hbAnswer_mem]) | rfl | grind [answer_mem, busError_mem, hbAnswer_mem]

theorem setWin_mem (s : State) (n : Nat) (w : Nat) (x : WinSt) :
    (State.setWin s n w x).mem = s.mem := by
  simp only [State.setWin, ↓apply_ite State.mem, ite_self, ↓foldl_mem, implies_true]

theorem setSlices_mem (s : State) (n : Nat) (x : SliceSt) :
    (State.setSlices s n x).mem = s.mem := by
  simp only [State.setSlices, ↓apply_ite State.mem, ite_self, ↓foldl_mem, implies_true]

theorem setTwin_mem (s : State) (n : Nat) (x : TwinSt) :
    (State.setTwin s n x).mem = s.mem := by
  simp only [State.setTwin, ↓apply_ite State.mem, ite_self, ↓foldl_mem, implies_true]

theorem execWindowStart_mem (ch : Fin 48) (win : Fin 2) (s : State) {s' : State} (hr : execWindowStart ch win s = .next s') :
    s'.mem = s.mem := by
  unfold execWindowStart at hr
  injection hr with hr; subst hr; simp only [↓apply_ite State.mem, ite_self, ↓foldl_mem, implies_true, ↓setWin_mem]

theorem execSegmentAnchor_mem (ch : Fin 48) (win : Fin 2) (leg : Fin 32) (next : Option (Fin 32)) (apart : Nat) (s : State) {s' : State}
    (hr : execSegmentAnchor ch win leg next apart s = .next s') :
    s'.mem = s.mem := by
  unfold execSegmentAnchor at hr
  injection hr with hr; subst hr; simp only [↓apply_ite State.mem, ite_self, ↓foldl_mem, implies_true, ↓setWin_mem]

theorem execPointSample_mem (ch : Fin 48) (pt : Fin 4) (samples : List RawSample) (frac : Fin 8) (age : Nat) (s : State) {s' : State} (hr
    : execPointSample ch pt samples frac age s = .next s') :
    s'.mem = s.mem := by
  unfold execPointSample at hr
  injection hr with hr; subst hr; simp only [↓apply_ite State.mem, ite_self, ↓foldl_mem, implies_true, ↓setWin_mem]

theorem keepPoints_mem (n : Nat) (w : Nat) (os : List (Int × Bool)) (s : State) :
    (keepPoints n w os s).mem = s.mem := by
  unfold keepPoints
  exact foldl_mem _ (fun t p => by (repeat' split) <;> rfl) _ _

theorem closeWindow_mem (n : Nat) (w : Nat) (samples : List RawSample) (abort : Bool) (s : State) :
    (closeWindow n w samples abort s).mem = s.mem := by
  simp only [closeWindow, ↓apply_ite State.mem, ite_self, ↓foldl_mem, implies_true, ↓bump_mem, ↓set_mem, ↓setWin_mem, ↓keepPoints_mem, ↓raise_mem]

theorem drainWindow_mem (n : Nat) (w : Nat) (s : State) :
    (drainWindow n w s).mem = s.mem := by
  simp only [drainWindow, ↓apply_ite State.mem, ite_self, ↓foldl_mem, implies_true, ↓set_mem]

theorem execWindowDisable_mem (ch : Fin 48) (win : Fin 2) (s : State) {s' : State} (hr : execWindowDisable ch win s = .next s') :
    s'.mem = s.mem := by
  unfold execWindowDisable at hr
  injection hr with hr; subst hr; simp only [↓apply_ite State.mem, ite_self, ↓foldl_mem, implies_true, ↓set_mem, ↓drainWindow_mem]

theorem execAfeChannelDisable_mem (ch : Fin 48) (s : State) {s' : State} (hr : execAfeChannelDisable ch s = .next s') :
    s'.mem = s.mem := by
  unfold execAfeChannelDisable at hr
  injection hr with hr; subst hr; simp only [↓apply_ite State.mem, ite_self, ↓foldl_mem, implies_true, ↓set_mem, ↓drainWindow_mem]

theorem substitution_mem (flag : Fld) (s : State) :
    (substitution flag s).mem = s.mem := by
  simp only [substitution, ↓apply_ite State.mem, ite_self, ↓foldl_mem, implies_true, ↓bump_mem, ↓set_mem, ↓raise_mem]

theorem failChannel_mem (n : Nat) (code : Nat) (s : State) :
    (failChannel n code s).mem = s.mem := by
  simp only [failChannel, ↓apply_ite State.mem, ite_self, ↓foldl_mem, implies_true, ↓bump_mem, ↓set_mem, ↓issue_mem, ↓raise_mem]

theorem failSlice_mem (n : Nat) (slice : Nat) (s : State) :
    (failSlice n slice s).mem = s.mem := by
  simp only [failSlice, ↓apply_ite State.mem, ite_self, ↓foldl_mem, implies_true, ↓bump_mem, ↓set_mem, ↓setBit_mem, ↓setSlices_mem, ↓failChannel_mem, ↓issue_mem, ↓raise_mem, ↓substitution_mem, ↓setI_mem]

theorem execSliceTimeout_mem (ch : Fin 48) (slot : Fin 8) (s : State) {s' : State} (hr : execSliceTimeout ch slot s = .next s') :
    s'.mem = s.mem := by
  unfold execSliceTimeout at hr
  injection hr with hr; subst hr; simp only [↓apply_ite State.mem, ite_self, ↓foldl_mem, implies_true, ↓failSlice_mem]

theorem skewUpdate_mem (n : Nat) (k : SlotSkew) (s : State) :
    (skewUpdate n k s).mem = s.mem := by
  simp only [skewUpdate, ↓apply_ite State.mem, ite_self, ↓foldl_mem, implies_true, ↓set_mem, ↓setI_mem]

theorem execRotationStep_mem (ch : Fin 48) (shadowSum : Nat) (skew : List SlotSkew) (s : State) {s' : State} (hr : execRotationStep ch
    shadowSum skew s = .next s') :
    s'.mem = s.mem := by
  unfold execRotationStep at hr
  injection hr with hr; subst hr; simp only [↓apply_ite State.mem, ite_self, ↓foldl_mem, implies_true, ↓set_mem, ↓setI_mem, ↓setSlices_mem, ↓failSlice_mem, ↓skewUpdate_mem]

theorem execSpareCalibration_mem (ch : Fin 48) (ofs : Int) (gain : Nat) (s : State) {s' : State} (hr : execSpareCalibration ch ofs gain s
    = .next s') :
    s'.mem = s.mem := by
  unfold execSpareCalibration at hr
  injection hr with hr; subst hr; simp only [↓apply_ite State.mem, ite_self, ↓foldl_mem, implies_true, ↓setSlices_mem, ↓failSlice_mem]

theorem execRefEnable_mem (m : Master) (s : State) {s' : State} (hr : execRefEnable m s = .next s') :
    s'.mem = s.mem := by
  unfold execRefEnable at hr
  injection hr with hr; subst hr; simp only [↓apply_ite State.mem, ite_self, ↓foldl_mem, implies_true, ↓answer_mem, ↓set_mem, ↓busError_mem]

theorem execRefReady_mem (cals : List SliceCal) (s : State) {s' : State} (hr : execRefReady cals s = .next s') :
    s'.mem = s.mem := by
  unfold execRefReady at hr
  injection hr with hr; subst hr; simp only [↓apply_ite State.mem, ite_self, ↓foldl_mem, implies_true, ↓set_mem, ↓setI_mem, ↓failSlice_mem, ↓raise_mem]

theorem refDisable_mem (s : State) :
    (refDisable s).mem = s.mem := by
  simp only [refDisable, ↓apply_ite State.mem, ite_self, ↓foldl_mem, implies_true, ↓set_mem]

theorem execRefDisable_mem (m : Master) (s : State) {s' : State} (hr : execRefDisable m s = .next s') :
    s'.mem = s.mem := by
  unfold execRefDisable at hr
  injection hr with hr; subst hr; simp only [↓apply_ite State.mem, ite_self, ↓foldl_mem, implies_true, ↓answer_mem, ↓busError_mem, ↓refDisable_mem]

theorem execRefBufferFault_mem (buf : Fin 6) (s : State) {s' : State} (hr : execRefBufferFault buf s = .next s') :
    s'.mem = s.mem := by
  unfold execRefBufferFault at hr
  injection hr with hr; subst hr; simp only [↓apply_ite State.mem, ite_self, ↓foldl_mem, implies_true, ↓setBit_mem, ↓issue_mem, ↓raise_mem]

theorem sliceCoefWrite_mem (n : Nat) (k : Nat) (value : Word) (s : State) :
    (sliceCoefWrite n k value s).mem = s.mem := by
  simp only [sliceCoefWrite, ↓apply_ite State.mem, ite_self, ↓foldl_mem, implies_true, ↓wr_mem]

theorem execSliceCoefWrite_mem (m : Master) (ch : Fin 48) (slice : Fin 9) (value : Word) (s : State) {s' : State} (hr :
    execSliceCoefWrite m ch slice value s = .next s') :
    s'.mem = s.mem := by
  unfold execSliceCoefWrite at hr
  injection hr with hr; subst hr; simp only [↓apply_ite State.mem, ite_self, ↓foldl_mem, implies_true, ↓answer_mem, ↓busError_mem, ↓sliceCoefWrite_mem]

theorem hkInput_mem (i : Nat) (code : Nat) (s : State) :
    (hkInput i code s).mem = s.mem := by
  simp only [hkInput, ↓apply_ite State.mem, ite_self, ↓foldl_mem, implies_true, ↓set_mem, ↓setB_mem]

theorem hkRefFail_mem (c : Nat) (s : State) :
    (hkRefFail c s).mem = s.mem := by
  simp only [hkRefFail, ↓apply_ite State.mem, ite_self, ↓foldl_mem, implies_true, ↓set_mem]

theorem hkReference_mem (c : Nat) (r : Nat) (code : BitVec 12) (s : State) :
    (hkReference c r code s).mem = s.mem := by
  simp only [hkReference, ↓apply_ite State.mem, ite_self, ↓foldl_mem, implies_true, ↓hkRefFail_mem]

theorem loseTwins_mem (c : Nat) (code : Nat) (s : State) :
    (loseTwins c code s).mem = s.mem := by
  simp only [loseTwins, ↓apply_ite State.mem, ite_self, ↓foldl_mem, implies_true, ↓set_mem, ↓issue_mem, ↓raise_mem]

theorem twinCheck_mem (n : Nat) (s : State) :
    (twinCheck n s).mem = s.mem := by
  simp only [twinCheck, ↓apply_ite State.mem, ite_self, ↓foldl_mem, implies_true, ↓set_mem, ↓setTwin_mem, ↓raise_mem]

theorem twinConvert_mem (n : Nat) (code : BitVec 12) (fa : Option Int) (s : State) :
    (twinConvert n code fa s).1.mem = s.mem := by
  simp only [twinConvert, ↓apply_ite State.mem, ite_self, ↓foldl_mem, implies_true, ↓apply_ite Prod.snd, ↓apply_ite Prod.fst, ↓setTwin_mem, ↓twinCheck_mem]

theorem twinArbitration_mem (n : Nat) (refOk : Bool) (spareDisagrees : Bool) (slot : Nat) (s : State) :
    (twinArbitration n refOk spareDisagrees slot s).mem = s.mem := by
  simp only [twinArbitration, ↓apply_ite State.mem, ite_self, ↓foldl_mem, implies_true, ↓setTwin_mem, ↓failChannel_mem, ↓failSlice_mem, ↓hkRefFail_mem, ↓loseTwins_mem, ↓substitution_mem]

theorem twinStrobeLost_mem (c : Nat) (s : State) :
    (twinStrobeLost c s).mem = s.mem := by
  simp only [twinStrobeLost, ↓apply_ite State.mem, ite_self, ↓foldl_mem, implies_true, ↓loseTwins_mem, ↓substitution_mem]

theorem emfUpdates_mem (n : Nat) (wlen : Nat) (d : SnapAge) (s : State) :
    (emfUpdates n wlen d s).mem = s.mem := by
  simp only [emfUpdates, ↓apply_ite State.mem, ite_self, ↓foldl_mem, implies_true, ↓emfUpdate_mem]

theorem windowEnd_mem (n : Nat) (w : Nat) (samples : List RawSample) (abort : Bool) (d : SnapAge) (s : State) :
    (windowEnd n w samples abort d s).mem = s.mem := by
  simp only [windowEnd, ↓apply_ite State.mem, ite_self, ↓foldl_mem, implies_true, ↓closeWindow_mem, ↓emfUpdates_mem, ↓takeSnapshot_mem]

theorem execWindowEnd_mem (ch : Fin 48) (win : Fin 2) (samples : List RawSample) (d : SnapAge) (s : State) {s' : State} (hr :
    execWindowEnd ch win samples d s = .next s') :
    s'.mem = s.mem := by
  unfold execWindowEnd at hr
  injection hr with hr; subst hr; simp only [↓apply_ite State.mem, ite_self, ↓foldl_mem, implies_true, ↓windowEnd_mem]

theorem execWindowAbort_mem (ch : Fin 48) (win : Fin 2) (samples : List RawSample) (d : SnapAge) (s : State) {s' : State} (hr :
    execWindowAbort ch win samples d s = .next s') :
    s'.mem = s.mem := by
  unfold execWindowAbort at hr
  injection hr with hr; subst hr; simp only [↓apply_ite State.mem, ite_self, ↓foldl_mem, implies_true, ↓windowEnd_mem]

theorem markConflicts_mem (n : Nat) (s : State) :
    (markConflicts n s).mem = s.mem := by
  simp only [markConflicts, ↓apply_ite State.mem, ite_self, ↓foldl_mem, implies_true, ↓set_mem]

theorem execHkConversionSlot_mem (slot : HkSlot) (s : State) {s' : State} (hr : execHkConversionSlot slot s = .next s') :
    s'.mem = s.mem := by
  unfold execHkConversionSlot at hr
  injection hr with hr; subst hr; simp only [↓apply_ite State.mem, ite_self, ↓foldl_mem, implies_true, ↓apply_ite Prod.snd, ↓apply_ite Prod.fst, ↓hkInput_mem, ↓hkReference_mem, ↓kilnBurst_mem, ↓kilnInputs_mem, ↓kilnLinkHk_mem, ↓twinConvert_mem]; (repeat' split) <;> first | (simp only [↓apply_ite State.mem, ite_self, ↓foldl_mem, implies_true, ↓apply_ite Prod.snd, ↓apply_ite Prod.fst, ↓hkInput_mem, ↓hkReference_mem, ↓kilnBurst_mem, ↓kilnInputs_mem, ↓kilnLinkHk_mem, ↓twinConvert_mem]; done) | (simp only [↓apply_ite State.mem, ite_self, ↓foldl_mem, implies_true, ↓apply_ite Prod.snd, ↓apply_ite Prod.fst, ↓hkInput_mem, ↓hkReference_mem, ↓kilnBurst_mem, ↓kilnInputs_mem, ↓kilnLinkHk_mem, ↓twinConvert_mem]; (repeat' split) <;> first | (simp only [↓apply_ite State.mem, ite_self, ↓foldl_mem, implies_true, ↓apply_ite Prod.snd, ↓apply_ite Prod.fst, ↓hkInput_mem, ↓hkReference_mem, ↓kilnBurst_mem, ↓kilnInputs_mem, ↓kilnLinkHk_mem, ↓twinConvert_mem]; done) | rfl | grind [hkInput_mem, hkReference_mem, kilnBurst_mem, kilnInputs_mem, kilnLinkHk_mem, twinConvert_mem]) | rfl | grind [hkInput_mem, hkReference_mem, kilnBurst_mem, kilnInputs_mem, kilnLinkHk_mem, twinConvert_mem]

theorem execTwinArbitrationEnd_mem (ch : Fin 48) (refOk : Bool) (spareDisagrees : Bool) (slot : Fin 8) (s : State) {s' : State} (hr :
    execTwinArbitrationEnd ch refOk spareDisagrees slot s = .next s') :
    s'.mem = s.mem := by
  unfold execTwinArbitrationEnd at hr
  injection hr with hr; subst hr; simp only [↓apply_ite State.mem, ite_self, ↓foldl_mem, implies_true, ↓kilnInputs_mem, ↓twinArbitration_mem]

theorem execTwinStrobeTimeout_mem (conv : Fin 4) (s : State) {s' : State} (hr : execTwinStrobeTimeout conv s = .next s') :
    s'.mem = s.mem := by
  unfold execTwinStrobeTimeout at hr
  injection hr with hr; subst hr; simp only [↓apply_ite State.mem, ite_self, ↓foldl_mem, implies_true, ↓kilnInputs_mem, ↓twinStrobeLost_mem]

theorem execScrubWord_mem (u : ScrubMem) (synd : Syndrome) (s : State) {s' : State} (hr : execScrubWord u synd s = .next s') :
    s'.mem = s.mem := by
  unfold execScrubWord at hr
  split at hr <;> (injection hr with hr; subst hr; (repeat' split) <;> first | (simp only [↓apply_ite State.mem, ite_self, ↓foldl_mem, implies_true, ↓apply_ite Prod.snd, ↓apply_ite Prod.fst, ↓scrubPoisonWhorl_mem, ↓scrubStep_mem]; done) | (simp only [↓apply_ite State.mem, ite_self, ↓foldl_mem, implies_true, ↓apply_ite Prod.snd, ↓apply_ite Prod.fst, ↓scrubPoisonWhorl_mem, ↓scrubStep_mem]; (repeat' split) <;> first | (simp only [↓apply_ite State.mem, ite_self, ↓foldl_mem, implies_true, ↓apply_ite Prod.snd, ↓apply_ite Prod.fst, ↓scrubPoisonWhorl_mem, ↓scrubStep_mem]; done) | rfl | grind [scrubPoisonWhorl_mem, scrubStep_mem]) | rfl | grind [scrubPoisonWhorl_mem, scrubStep_mem])

theorem setMach_mem (s : State) (m : Nat) (x : MachSup) :
    (State.setMach s m x).mem = s.mem := by
  simp only [State.setMach, ↓apply_ite State.mem, ite_self, ↓foldl_mem, implies_true]

theorem setWset_mem (s : State) (i : Nat) (x : SetSup) :
    (State.setWset s i x).mem = s.mem := by
  simp only [State.setWset, ↓apply_ite State.mem, ite_self, ↓foldl_mem, implies_true]

theorem quietly_mem (f : State → State) (s : State) (hf : ∀ t, (f t).mem = t.mem) :
    (quietly f s).mem = s.mem := by
  simp only [quietly, ↓apply_ite State.mem, ite_self, ↓foldl_mem, implies_true, hf]

theorem limitTask_mem (i : Nat) (p : SetPar) (s : State) :
    (limitTask i p s).mem = s.mem := by
  simp only [limitTask, ↓apply_ite State.mem, ite_self, ↓foldl_mem, implies_true, ↓setWset_mem]

theorem shareTorque_mem (m : Nat) (t : Int) (s : State) :
    (shareTorque m t s).mem = s.mem := by
  simp only [shareTorque, ↓apply_ite State.mem, ite_self, ↓foldl_mem, implies_true, ↓setWset_mem]; (repeat' split) <;> first | (simp only [↓apply_ite State.mem, ite_self, ↓foldl_mem, implies_true, ↓setWset_mem]; done) | (simp only [↓apply_ite State.mem, ite_self, ↓foldl_mem, implies_true, ↓setWset_mem]; (repeat' split) <;> first | (simp only [↓apply_ite State.mem, ite_self, ↓foldl_mem, implies_true, ↓setWset_mem]; done) | rfl | grind [setWset_mem]) | rfl | grind [setWset_mem]

theorem speedTask_mem (m : Nat) (p : MachPar) (s : State) :
    (speedTask m p s).mem = s.mem := by
  simp only [speedTask, ↓apply_ite State.mem, ite_self, ↓foldl_mem, implies_true, ↓setMach_mem]

theorem execShockHoldEnd_mem (mach : Fin 2) (s : State) {s' : State} (hr : execShockHoldEnd mach s = .next s') :
    s'.mem = s.mem := by
  unfold execShockHoldEnd at hr
  injection hr with hr; subst hr; simp only [↓apply_ite State.mem, ite_self, ↓foldl_mem, implies_true, ↓setMach_mem]

theorem armSet_mem (p : Nat) (s : State) :
    (armSet p s).mem = s.mem := by
  simp only [armSet, ↓apply_ite State.mem, ite_self, ↓foldl_mem, implies_true, ↓set_mem]

theorem toSrc14_mem (m : Nat) (s : State) :
    (toSrc14 m s).mem = s.mem := by
  simp only [toSrc14, ↓apply_ite State.mem, ite_self, ↓foldl_mem, implies_true, ↓set_mem, ↓trkEnable_mem]

theorem startRun_mem (m : Nat) (how : StartPhase) (s : State) :
    (startRun m how s).mem = s.mem := by
  simp only [startRun, ↓apply_ite State.mem, ite_self, ↓foldl_mem, implies_true, ↓setMach_mem, ↓armSet_mem]

theorem requestAsc_mem (m : Nat) (s : State) :
    (requestAsc m s).mem = s.mem := by
  simp only [requestAsc, ↓apply_ite State.mem, ite_self, ↓foldl_mem, implies_true, ↓ascRequest_mem]

theorem releaseAsc_mem (m : Nat) (s : State) :
    (releaseAsc m s).mem = s.mem := by
  simp only [releaseAsc, ↓apply_ite State.mem, ite_self, ↓foldl_mem, implies_true, ↓armSet_mem, ↓psetClear_mem]

theorem startTask_mem (m : Nat) (s : State) :
    (startTask m s).mem = s.mem := by
  simp only [startTask, ↓apply_ite State.mem, ite_self, ↓foldl_mem, implies_true, ↓set_mem, ↓setMach_mem, ↓releaseAsc_mem, ↓requestAsc_mem, ↓startRun_mem, ↓toSrc14_mem]; (repeat' split) <;> first | (simp only [↓apply_ite State.mem, ite_self, ↓foldl_mem, implies_true, ↓set_mem, ↓setMach_mem, ↓releaseAsc_mem, ↓requestAsc_mem, ↓startRun_mem, ↓toSrc14_mem]; done) | (simp only [↓apply_ite State.mem, ite_self, ↓foldl_mem, implies_true, ↓set_mem, ↓setMach_mem, ↓releaseAsc_mem, ↓requestAsc_mem, ↓startRun_mem, ↓toSrc14_mem]; (repeat' split) <;> first | (simp only [↓apply_ite State.mem, ite_self, ↓foldl_mem, implies_true, ↓set_mem, ↓setMach_mem, ↓releaseAsc_mem, ↓requestAsc_mem, ↓startRun_mem, ↓toSrc14_mem]; done) | rfl | grind [set_mem, setMach_mem, releaseAsc_mem, requestAsc_mem, startRun_mem, toSrc14_mem]) | rfl | grind [set_mem, setMach_mem, releaseAsc_mem, requestAsc_mem, startRun_mem, toSrc14_mem]

theorem execCatchPhaseEnd_mem (mach : Fin 2) (s : State) {s' : State} (hr : execCatchPhaseEnd mach s = .next s') :
    s'.mem = s.mem := by
  unfold execCatchPhaseEnd at hr
  injection hr with hr; subst hr; simp only [↓apply_ite State.mem, ite_self, ↓foldl_mem, implies_true, ↓startRun_mem, ↓toSrc14_mem]

theorem lossTask_mem (m : Nat) (s : State) :
    (lossTask m s).mem = s.mem := by
  simp only [lossTask, ↓apply_ite State.mem, ite_self, ↓foldl_mem, implies_true, ↓setMach_mem, ↓armSet_mem, ↓machAcq_mem, ↓psetClear_mem, ↓toSrc14_mem]; (repeat' split) <;> first | (simp only [↓apply_ite State.mem, ite_self, ↓foldl_mem, implies_true, ↓setMach_mem, ↓armSet_mem, ↓machAcq_mem, ↓psetClear_mem, ↓toSrc14_mem]; done) | (simp only [↓apply_ite State.mem, ite_self, ↓foldl_mem, implies_true, ↓setMach_mem, ↓armSet_mem, ↓machAcq_mem, ↓psetClear_mem, ↓toSrc14_mem]; (repeat' split) <;> first | (simp only [↓apply_ite State.mem, ite_self, ↓foldl_mem, implies_true, ↓setMach_mem, ↓armSet_mem, ↓machAcq_mem, ↓psetClear_mem, ↓toSrc14_mem]; done) | rfl | grind [setMach_mem, armSet_mem, machAcq_mem, psetClear_mem, toSrc14_mem]) | rfl | grind [setMach_mem, armSet_mem, machAcq_mem, psetClear_mem, toSrc14_mem]

theorem ascTask_mem (m : Nat) (p : MachPar) (i : SupIn) (s : State) :
    (ascTask m p i s).mem = s.mem := by
  simp only [ascTask, ↓apply_ite State.mem, ite_self, ↓foldl_mem, implies_true, ↓setMach_mem, ↓kreqField_mem, ↓quietly_mem, ↓releaseAsc_mem, ↓requestAsc_mem]

theorem torqueTask_mem (m : Nat) (p : MachPar) (s : State) :
    (torqueTask m p s).mem = s.mem := by
  simp only [torqueTask, ↓apply_ite State.mem, ite_self, ↓foldl_mem, implies_true, ↓setMach_mem, ↓speedTask_mem]

theorem stopTask_mem (m : Nat) (p : MachPar) (s : State) :
    (stopTask m p s).mem = s.mem := by
  simp only [stopTask, ↓apply_ite State.mem, ite_self, ↓foldl_mem, implies_true, ↓setMach_mem]

theorem machTask_mem (m : Nat) (p : MachPar) (i : SupIn) (s : State) :
    (machTask m p i s).mem = s.mem := by
  simp only [machTask, ↓apply_ite State.mem, ite_self, ↓foldl_mem, implies_true, ↓setMach_mem, ↓ascTask_mem, ↓lossTask_mem, ↓startTask_mem, ↓stopTask_mem, ↓torqueTask_mem]

theorem exitTask_mem (s : State) :
    (exitTask s).mem = s.mem := by
  simp only [exitTask, ↓apply_ite State.mem, ite_self, ↓foldl_mem, implies_true]

theorem emrTask_mem (s : State) :
    (emrTask s).mem = s.mem := by
  simp only [emrTask, ↓apply_ite State.mem, ite_self, ↓foldl_mem, implies_true]

theorem execUcgCompute_mem (s : State) {s' : State} (hr : execUcgCompute s = .next s') :
    s'.mem = s.mem := by
  unfold execUcgCompute at hr
  injection hr with hr; subst hr; simp only [↓apply_ite State.mem, ite_self, ↓foldl_mem, implies_true, ↓quietly_mem, ↓ucgWrite_mem]

theorem emrEnd_mem (cause : Nat) (s : State) :
    (emrEnd cause s).mem = s.mem := by
  simp only [emrEnd, ↓apply_ite State.mem, ite_self, ↓foldl_mem, implies_true, ↓ashPush_mem]

theorem emrEnter_mem (s : State) :
    (emrEnter s).mem = s.mem := by
  simp only [emrEnter, ↓apply_ite State.mem, ite_self, ↓foldl_mem, implies_true, ↓setWset_mem, ↓ashPush_mem]

theorem execEmergencyRunEnd_mem (s : State) {s' : State} (hr : execEmergencyRunEnd s = .next s') :
    s'.mem = s.mem := by
  unfold execEmergencyRunEnd at hr
  injection hr with hr; subst hr; simp only [↓apply_ite State.mem, ite_self, ↓foldl_mem, implies_true, ↓emrEnd_mem]

theorem showBridges_mem (s : State) :
    (showBridges s).mem = s.mem := by
  simp only [showBridges, ↓apply_ite State.mem, ite_self, ↓foldl_mem, implies_true, ↓showBridge_mem]

theorem bridgeModeWrite_mem (b : Nat) (v : Nat) (s : State) :
    (bridgeModeWrite b v s).mem = s.mem := by
  simp only [bridgeModeWrite, ↓apply_ite State.mem, ite_self, ↓foldl_mem, implies_true, ↓set_mem, ↓showBridge_mem]

theorem bridgeCommand_mem (m : Master) (b : Nat) (v : Nat) (s : State) {s' : State} (hr : bridgeCommand m b v s = .next s') :
    s'.mem = s.mem := by
  unfold bridgeCommand at hr
  injection hr with hr; subst hr; simp only [↓apply_ite State.mem, ite_self, ↓foldl_mem, implies_true, ↓answer_mem, ↓bridgeModeWrite_mem, ↓busError_mem]

theorem execBridgeHiz_mem (m : Master) (bridge : Fin 12) (s : State) {s' : State} (hr : execBridgeHiz m bridge s = .next s') :
    s'.mem = s.mem := by
  unfold execBridgeHiz at hr
  exact bridgeCommand_mem _ _ _ _ hr

theorem execBridgePwm_mem (m : Master) (bridge : Fin 12) (s : State) {s' : State} (hr : execBridgePwm m bridge s = .next s') :
    s'.mem = s.mem := by
  unfold execBridgePwm at hr
  exact bridgeCommand_mem _ _ _ _ hr

theorem execBridgeLowOn_mem (m : Master) (bridge : Fin 12) (s : State) {s' : State} (hr : execBridgeLowOn m bridge s = .next s') :
    s'.mem = s.mem := by
  unfold execBridgeLowOn at hr
  exact bridgeCommand_mem _ _ _ _ hr

theorem actLatch_mem (f : Fld) (code : Nat) (b : Nat) (s : State) :
    (actLatch f code b s).mem = s.mem := by
  simp only [actLatch, ↓apply_ite State.mem, ite_self, ↓foldl_mem, implies_true, ↓set_mem, ↓setBit_mem, ↓issue_mem, ↓raise_mem, ↓showBridge_mem]

theorem actLatchAll_mem (f : Fld) (code : Nat) (s : State) :
    (actLatchAll f code s).mem = s.mem := by
  simp only [actLatchAll, ↓apply_ite State.mem, ite_self, ↓foldl_mem, implies_true, ↓actLatch_mem]

theorem execBootUndervoltage_mem (bridge : Fin 12) (s : State) {s' : State} (hr : execBootUndervoltage bridge s = .next s') :
    s'.mem = s.mem := by
  unfold execBootUndervoltage at hr
  injection hr with hr; subst hr; simp only [↓apply_ite State.mem, ite_self, ↓foldl_mem, implies_true, ↓apply_ite Prod.snd, ↓apply_ite Prod.fst, ↓bump_mem, ↓actLatch_mem, ↓bootTrip_mem, ↓showBridge_mem]; (repeat' split) <;> first | (simp only [↓apply_ite State.mem, ite_self, ↓foldl_mem, implies_true, ↓apply_ite Prod.snd, ↓apply_ite Prod.fst, ↓bump_mem, ↓actLatch_mem, ↓bootTrip_mem, ↓showBridge_mem]; done) | (simp only [↓apply_ite State.mem, ite_self, ↓foldl_mem, implies_true, ↓apply_ite Prod.snd, ↓apply_ite Prod.fst, ↓bump_mem, ↓actLatch_mem, ↓bootTrip_mem, ↓showBridge_mem]; (repeat' split) <;> first | (simp only [↓apply_ite State.mem, ite_self, ↓foldl_mem, implies_true, ↓apply_ite Prod.snd, ↓apply_ite Prod.fst, ↓bump_mem, ↓actLatch_mem, ↓bootTrip_mem, ↓showBridge_mem]; done) | rfl | grind [bump_mem, actLatch_mem, bootTrip_mem, showBridge_mem]) | rfl | grind [bump_mem, actLatch_mem, bootTrip_mem, showBridge_mem]

theorem execPredriverGateReport_mem (bridge : Fin 12) (report : GateReport) (s : State) {s' : State} (hr : execPredriverGateReport bridge
    report s = .next s') :
    s'.mem = s.mem := by
  unfold execPredriverGateReport at hr
  injection hr with hr; subst hr; simp only [↓apply_ite State.mem, ite_self, ↓foldl_mem, implies_true, ↓setSw_mem, ↓actLatch_mem, ↓refusalRun_mem, ↓refused_mem, ↓switchOff_mem, ↓trigger_mem]; (repeat' split) <;> first | (simp only [↓apply_ite State.mem, ite_self, ↓foldl_mem, implies_true, ↓setSw_mem, ↓actLatch_mem, ↓refusalRun_mem, ↓refused_mem, ↓switchOff_mem, ↓trigger_mem]; done) | (simp only [↓apply_ite State.mem, ite_self, ↓foldl_mem, implies_true, ↓setSw_mem, ↓actLatch_mem, ↓refusalRun_mem, ↓refused_mem, ↓switchOff_mem, ↓trigger_mem]; (repeat' split) <;> first | (simp only [↓apply_ite State.mem, ite_self, ↓foldl_mem, implies_true, ↓setSw_mem, ↓actLatch_mem, ↓refusalRun_mem, ↓refused_mem, ↓switchOff_mem, ↓trigger_mem]; done) | rfl | grind [setSw_mem, actLatch_mem, refusalRun_mem, refused_mem, switchOff_mem, trigger_mem]) | rfl | grind [setSw_mem, actLatch_mem, refusalRun_mem, refused_mem, switchOff_mem, trigger_mem]

theorem execDrainSourceFault_mem (bridge : Fin 12) (high : Bool) (s : State) {s' : State} (hr : execDrainSourceFault bridge high s =
    .next s') :
    s'.mem = s.mem := by
  unfold execDrainSourceFault at hr
  injection hr with hr; subst hr; simp only [↓apply_ite State.mem, ite_self, ↓foldl_mem, implies_true, ↓actLatch_mem]

theorem execVgdUndervoltage_mem (low : Bool) (s : State) {s' : State} (hr : execVgdUndervoltage low s = .next s') :
    s'.mem = s.mem := by
  unfold execVgdUndervoltage at hr
  injection hr with hr; subst hr; simp only [↓apply_ite State.mem, ite_self, ↓foldl_mem, implies_true, ↓setB_mem, ↓actLatchAll_mem]

theorem execDriveSupplyFault_mem (above : Bool) (s : State) {s' : State} (hr : execDriveSupplyFault above s = .next s') :
    s'.mem = s.mem := by
  unfold execDriveSupplyFault at hr
  injection hr with hr; subst hr; simp only [↓apply_ite State.mem, ite_self, ↓foldl_mem, implies_true, ↓actLatchAll_mem]

theorem execPredriverOvertemp_mem (_sensor : Fin 2) (s : State) {s' : State} (hr : execPredriverOvertemp _sensor s = .next s') :
    s'.mem = s.mem := by
  unfold execPredriverOvertemp at hr
  injection hr with hr; subst hr; simp only [↓apply_ite State.mem, ite_self, ↓foldl_mem, implies_true, ↓actLatchAll_mem]

theorem execPredriverWarning_mem (supply : Bool) (present : Bool) (s : State) {s' : State} (hr : execPredriverWarning supply present s =
    .next s') :
    s'.mem = s.mem := by
  unfold execPredriverWarning at hr
  injection hr with hr; subst hr; simp only [↓apply_ite State.mem, ite_self, ↓foldl_mem, implies_true, ↓setB_mem, ↓raise_mem]

theorem execActEnFall_mem (s : State) {s' : State} (hr : execActEnFall s = .next s') :
    s'.mem = s.mem := by
  unfold execActEnFall at hr
  injection hr with hr; subst hr; simp only [↓apply_ite State.mem, ite_self, ↓foldl_mem, implies_true, ↓set_mem, ↓bridgeModeWrite_mem, ↓raise_mem]

theorem clearLatches_mem (c : LatchCauses) (b : Nat) (s : State) :
    (clearLatches c b s).mem = s.mem := by
  simp only [clearLatches, ↓apply_ite State.mem, ite_self, ↓foldl_mem, implies_true, ↓set_mem, ↓setBit_mem]

theorem execActEnRise_mem (lowUs : Nat) (causes : LatchCauses) (s : State) {s' : State} (hr : execActEnRise lowUs causes s = .next s') :
    s'.mem = s.mem := by
  unfold execActEnRise at hr
  injection hr with hr; subst hr; simp only [↓apply_ite State.mem, ite_self, ↓foldl_mem, implies_true, ↓set_mem, ↓clearLatches_mem, ↓raise_mem, ↓showBridges_mem]

theorem execParkLockStall_mem (bridges : BitVec 12) (s : State) {s' : State} (hr : execParkLockStall bridges s = .next s') :
    s'.mem = s.mem := by
  unfold execParkLockStall at hr
  injection hr with hr; subst hr; simp only [↓apply_ite State.mem, ite_self, ↓foldl_mem, implies_true, ↓bridgeModeWrite_mem]

theorem execParkLockHoldEnd_mem (bridges : BitVec 12) (s : State) {s' : State} (hr : execParkLockHoldEnd bridges s = .next s') :
    s'.mem = s.mem := by
  unfold execParkLockHoldEnd at hr
  injection hr with hr; subst hr; simp only [↓apply_ite State.mem, ite_self, ↓foldl_mem, implies_true, ↓bridgeModeWrite_mem]

theorem setChg_mem (s : State) (x : ChgSt) :
    (State.setChg s x).mem = s.mem := by
  simp only [State.setChg, ↓apply_ite State.mem, ite_self, ↓foldl_mem, implies_true]

theorem hvLost_mem (before : State) (s : State) :
    (hvLost before s).mem = s.mem := by
  simp only [hvLost, ↓apply_ite State.mem, ite_self, ↓foldl_mem, implies_true, ↓set_mem, ↓setChg_mem, ↓chDisable_mem, ↓raise_mem]

theorem execComparatorRelease_mem (ch : Fin 48) (s : State) {s' : State} (hr : execComparatorRelease ch s = .next s') :
    s'.mem = s.mem := by
  unfold execComparatorRelease at hr
  injection hr with hr; subst hr; simp only [↓apply_ite State.mem, ite_self, ↓foldl_mem, implies_true, ↓setCompar_mem, ↓cnvRelease_mem]

theorem stopNow_mem (m : Master) (c : Nat) (s : State) :
    (stopNow m c s).mem = s.mem := by
  simp only [stopNow, ↓apply_ite State.mem, ite_self, ↓foldl_mem, implies_true, ↓fastStop_mem]

theorem execCnvChannelStopNow_mem (m : Master) (ch : Fin 3) (s : State) {s' : State} (hr : execCnvChannelStopNow m ch s = .next s') :
    s'.mem = s.mem := by
  unfold execCnvChannelStopNow at hr
  injection hr with hr; subst hr; simp only [↓apply_ite State.mem, ite_self, ↓foldl_mem, implies_true, ↓answer_mem, ↓busError_mem, ↓stopNow_mem]

theorem pilotChange_mem (st : Nat) (s : State) :
    (pilotChange st s).mem = s.mem := by
  simp only [pilotChange, ↓apply_ite State.mem, ite_self, ↓foldl_mem, implies_true, ↓set_mem, ↓setChg_mem, ↓raise_mem]

theorem pilotPeriod_mem (x : PilotIn) (s : State) :
    (pilotPeriod x s).mem = s.mem := by
  simp only [pilotPeriod, ↓apply_ite State.mem, ite_self, ↓foldl_mem, implies_true, ↓set_mem, ↓setB_mem, ↓setChg_mem, ↓setI_mem, ↓pilotChange_mem]

theorem execPilotPeriod_mem (x : PilotIn) (s : State) {s' : State} (hr : execPilotPeriod x s = .next s') :
    s'.mem = s.mem := by
  unfold execPilotPeriod at hr
  injection hr with hr; subst hr; simp only [↓apply_ite State.mem, ite_self, ↓foldl_mem, implies_true, ↓pilotPeriod_mem]

theorem execProximitySample_mem (mv : Nat) (s : State) {s' : State} (hr : execProximitySample mv s = .next s') :
    s'.mem = s.mem := by
  unfold execProximitySample at hr
  injection hr with hr; subst hr; simp only [↓apply_ite State.mem, ite_self, ↓foldl_mem, implies_true, ↓set_mem, ↓setChg_mem, ↓raise_mem]

theorem endCode_mem (r : Nat) (s : State) :
    (endCode r s).mem = s.mem := by
  simp only [endCode, ↓apply_ite State.mem, ite_self, ↓foldl_mem, implies_true, ↓issue_mem, ↓raise_mem]

theorem obcSoftStop_mem (s : State) :
    (obcSoftStop s).mem = s.mem := by
  simp only [obcSoftStop, ↓apply_ite State.mem, ite_self, ↓foldl_mem, implies_true, ↓chDisable_mem]

theorem endSession_mem (hard : Bool) (s : State) :
    (endSession hard s).mem = s.mem := by
  simp only [endSession, ↓apply_ite State.mem, ite_self, ↓foldl_mem, implies_true, ↓set_mem, ↓setChg_mem, ↓endCode_mem, ↓obcSoftStop_mem, ↓stopNow_mem]; (repeat' split) <;> first | (simp only [↓apply_ite State.mem, ite_self, ↓foldl_mem, implies_true, ↓set_mem, ↓setChg_mem, ↓endCode_mem, ↓obcSoftStop_mem, ↓stopNow_mem]; done) | (simp only [↓apply_ite State.mem, ite_self, ↓foldl_mem, implies_true, ↓set_mem, ↓setChg_mem, ↓endCode_mem, ↓obcSoftStop_mem, ↓stopNow_mem]; (repeat' split) <;> first | (simp only [↓apply_ite State.mem, ite_self, ↓foldl_mem, implies_true, ↓set_mem, ↓setChg_mem, ↓endCode_mem, ↓obcSoftStop_mem, ↓stopNow_mem]; done) | rfl | grind [set_mem, setChg_mem, endCode_mem, obcSoftStop_mem, stopNow_mem]) | rfl | grind [set_mem, setChg_mem, endCode_mem, obcSoftStop_mem, stopNow_mem]

theorem taskEnds_mem (i : ChgIn) (s : State) :
    (taskEnds i s).mem = s.mem := by
  simp only [taskEnds, ↓apply_ite State.mem, ite_self, ↓foldl_mem, implies_true, ↓setChg_mem]

theorem sessTask_mem (i : ChgIn) (s : State) :
    (sessTask i s).mem = s.mem := by
  simp only [sessTask, ↓apply_ite State.mem, ite_self, ↓foldl_mem, implies_true, ↓set_mem, ↓setChg_mem, ↓chStart_mem, ↓endSession_mem, ↓obcSoftStop_mem, ↓raise_mem, ↓taskEnds_mem]; (repeat' split) <;> first | (simp only [↓apply_ite State.mem, ite_self, ↓foldl_mem, implies_true, ↓set_mem, ↓setChg_mem, ↓chStart_mem, ↓endSession_mem, ↓obcSoftStop_mem, ↓raise_mem, ↓taskEnds_mem]; done) | (simp only [↓apply_ite State.mem, ite_self, ↓foldl_mem, implies_true, ↓set_mem, ↓setChg_mem, ↓chStart_mem, ↓endSession_mem, ↓obcSoftStop_mem, ↓raise_mem, ↓taskEnds_mem]; (repeat' split) <;> first | (simp only [↓apply_ite State.mem, ite_self, ↓foldl_mem, implies_true, ↓set_mem, ↓setChg_mem, ↓chStart_mem, ↓endSession_mem, ↓obcSoftStop_mem, ↓raise_mem, ↓taskEnds_mem]; done) | rfl | grind [set_mem, setChg_mem, chStart_mem, endSession_mem, obcSoftStop_mem, raise_mem, taskEnds_mem]) | rfl | grind [set_mem, setChg_mem, chStart_mem, endSession_mem, obcSoftStop_mem, raise_mem, taskEnds_mem]

theorem execLimitsTimeout_mem (s : State) {s' : State} (hr : execLimitsTimeout s = .next s') :
    s'.mem = s.mem := by
  unfold execLimitsTimeout at hr
  injection hr with hr; subst hr; simp only [↓apply_ite State.mem, ite_self, ↓foldl_mem, implies_true, ↓set_mem, ↓setChg_mem]

theorem execPauseTimeout_mem (s : State) {s' : State} (hr : execPauseTimeout s = .next s') :
    s'.mem = s.mem := by
  unfold execPauseTimeout at hr
  injection hr with hr; subst hr; simp only [↓apply_ite State.mem, ite_self, ↓foldl_mem, implies_true, ↓setChg_mem, ↓endSession_mem, ↓quietly_mem]

theorem execHvLostHoldEnd_mem (s : State) {s' : State} (hr : execHvLostHoldEnd s = .next s') :
    s'.mem = s.mem := by
  unfold execHvLostHoldEnd at hr
  injection hr with hr; subst hr; simp only [↓apply_ite State.mem, ite_self, ↓foldl_mem, implies_true, ↓setChg_mem, ↓chDisable_mem]

theorem b12Start_mem (battV : Nat) (s : State) :
    (b12Start battV s).mem = s.mem := by
  simp only [b12Start, ↓apply_ite State.mem, ite_self, ↓foldl_mem, implies_true, ↓set_mem, ↓setChg_mem, ↓raise_mem]

theorem b12End_mem (r : Nat) (phase : Nat) (s : State) :
    (b12End r phase s).mem = s.mem := by
  simp only [b12End, ↓apply_ite State.mem, ite_self, ↓foldl_mem, implies_true, ↓set_mem, ↓setChg_mem, ↓endCode_mem]

theorem timerTask_mem (i : ChgIn) (s : State) :
    (timerTask i s).mem = s.mem := by
  simp only [timerTask, ↓apply_ite State.mem, ite_self, ↓foldl_mem, implies_true, ↓set_mem, ↓setB_mem, ↓setChg_mem]

theorem zoneTask_mem (s : State) :
    (zoneTask s).mem = s.mem := by
  simp only [zoneTask, ↓apply_ite State.mem, ite_self, ↓foldl_mem, implies_true, ↓set_mem]

theorem b12Phase_mem (i : ChgIn) (s : State) :
    (b12Phase i s).mem = s.mem := by
  simp only [b12Phase, ↓apply_ite State.mem, ite_self, ↓foldl_mem, implies_true, ↓set_mem, ↓setChg_mem, ↓b12End_mem, ↓b12Start_mem, ↓raise_mem]; (repeat' split) <;> first | (simp only [↓apply_ite State.mem, ite_self, ↓foldl_mem, implies_true, ↓set_mem, ↓setChg_mem, ↓b12End_mem, ↓b12Start_mem, ↓raise_mem]; done) | (simp only [↓apply_ite State.mem, ite_self, ↓foldl_mem, implies_true, ↓set_mem, ↓setChg_mem, ↓b12End_mem, ↓b12Start_mem, ↓raise_mem]; (repeat' split) <;> first | (simp only [↓apply_ite State.mem, ite_self, ↓foldl_mem, implies_true, ↓set_mem, ↓setChg_mem, ↓b12End_mem, ↓b12Start_mem, ↓raise_mem]; done) | rfl | grind [set_mem, setChg_mem, b12End_mem, b12Start_mem, raise_mem]) | rfl | grind [set_mem, setChg_mem, b12End_mem, b12Start_mem, raise_mem]

theorem execSafetyTimerExpiry_mem (s : State) {s' : State} (hr : execSafetyTimerExpiry s = .next s') :
    s'.mem = s.mem := by
  unfold execSafetyTimerExpiry at hr
  injection hr with hr; subst hr; simp only [↓apply_ite State.mem, ite_self, ↓foldl_mem, implies_true, ↓b12End_mem]

theorem preCommand_mem (s : State) :
    (preCommand s).mem = s.mem := by
  simp only [preCommand, ↓apply_ite State.mem, ite_self, ↓foldl_mem, implies_true, ↓set_mem, ↓chStart_mem]; (repeat' split) <;> first | (simp only [↓apply_ite State.mem, ite_self, ↓foldl_mem, implies_true, ↓set_mem, ↓chStart_mem]; done) | (simp only [↓apply_ite State.mem, ite_self, ↓foldl_mem, implies_true, ↓set_mem, ↓chStart_mem]; (repeat' split) <;> first | (simp only [↓apply_ite State.mem, ite_self, ↓foldl_mem, implies_true, ↓set_mem, ↓chStart_mem]; done) | rfl | grind [set_mem, chStart_mem]) | rfl | grind [set_mem, chStart_mem]

theorem preTask_mem (i : ChgIn) (s : State) :
    (preTask i s).mem = s.mem := by
  simp only [preTask, ↓apply_ite State.mem, ite_self, ↓foldl_mem, implies_true, ↓set_mem, ↓setChg_mem, ↓raise_mem]

theorem execPrechargeTimeout_mem (s : State) {s' : State} (hr : execPrechargeTimeout s = .next s') :
    s'.mem = s.mem := by
  unfold execPrechargeTimeout at hr
  injection hr with hr; subst hr; simp only [↓apply_ite State.mem, ite_self, ↓foldl_mem, implies_true, ↓preFail_mem, ↓stopNow_mem]

theorem preEnd_mem (s : State) :
    (preEnd s).mem = s.mem := by
  simp only [preEnd, ↓apply_ite State.mem, ite_self, ↓foldl_mem, implies_true, ↓setChg_mem, ↓chDisable_mem]

theorem execPreHoldTimeout_mem (s : State) {s' : State} (hr : execPreHoldTimeout s = .next s') :
    s'.mem = s.mem := by
  unfold execPreHoldTimeout at hr
  injection hr with hr; subst hr; simp only [↓apply_ite State.mem, ite_self, ↓foldl_mem, implies_true, ↓preEnd_mem]

theorem setCan_mem (s : State) (n : Nat) (x : CanSt) :
    (State.setCan s n x).mem = s.mem := by
  simp only [State.setCan, ↓apply_ite State.mem, ite_self, ↓foldl_mem, implies_true]

theorem setPair_mem (s : State) (p : Nat) (x : PairSt) :
    (State.setPair s p x).mem = s.mem := by
  simp only [State.setPair, ↓apply_ite State.mem, ite_self, ↓foldl_mem, implies_true]

theorem setReel_mem (s : State) (x : ReelSt) :
    (State.setReel s x).mem = s.mem := by
  simp only [State.setReel, ↓apply_ite State.mem, ite_self, ↓foldl_mem, implies_true]

theorem resumePair_mem (p : Nat) (s : State) :
    (resumePair p s).mem = s.mem := by
  simp only [resumePair, ↓apply_ite State.mem, ite_self, ↓foldl_mem, implies_true, ↓set_mem, ↓setPair_mem]

theorem releaseHalts_mem (s : State) :
    (releaseHalts s).mem = s.mem := by
  simp only [releaseHalts, ↓apply_ite State.mem, ite_self, ↓foldl_mem, implies_true, ↓set_mem, ↓raise_mem, ↓resumePair_mem]

theorem xcpEnd_mem (s : State) :
    (xcpEnd s).mem = s.mem := by
  simp only [xcpEnd, ↓apply_ite State.mem, ite_self, ↓foldl_mem, implies_true, ↓raise_mem]

theorem debugRevoke_mem (cause : Nat) (level : Nat) (s : State) :
    (debugRevoke cause level s).mem = s.mem := by
  simp only [debugRevoke, ↓apply_ite State.mem, ite_self, ↓foldl_mem, implies_true, ↓set_mem, ↓raise_mem, ↓releaseHalts_mem, ↓xcpEnd_mem]

theorem blankGrant_mem (s : State) :
    (blankGrant s).mem = s.mem := by
  simp only [blankGrant, ↓apply_ite State.mem, ite_self, ↓foldl_mem, implies_true, ↓set_mem, ↓raise_mem]

theorem engineOff_mem (d : Nat) (s : State) :
    (engineOff d s).mem = s.mem := by
  simp only [engineOff, ↓apply_ite State.mem, ite_self, ↓foldl_mem, implies_true]; (repeat' split) <;> first | (simp only [↓apply_ite State.mem, ite_self, ↓foldl_mem, implies_true]; done) | (simp only [↓apply_ite State.mem, ite_self, ↓foldl_mem, implies_true]; (repeat' split) <;> first | (simp only [↓apply_ite State.mem, ite_self, ↓foldl_mem, implies_true]; done) | rfl | grind) | rfl | grind

theorem domainOn_mem (d : Nat) (s : State) :
    (domainOn d s).mem = s.mem := by
  simp only [domainOn, ↓apply_ite State.mem, ite_self, ↓foldl_mem, implies_true, ↓set_mem, ↓setBit_mem]

theorem startBegin_mem (kind : Nat) (s : State) :
    (startBegin kind s).mem = s.mem := by
  simp only [startBegin, ↓apply_ite State.mem, ite_self, ↓foldl_mem, implies_true, ↓set_mem]

theorem refuse_mem (reason : Nat) (s : State) :
    (refuse reason s).mem = s.mem := by
  simp only [refuse, ↓apply_ite State.mem, ite_self, ↓foldl_mem, implies_true, ↓set_mem, ↓raise_mem]

theorem canDrain_mem (n : Nat) (s : State) :
    (canDrain n s).mem = s.mem := by
  simp only [canDrain, ↓apply_ite State.mem, ite_self, ↓foldl_mem, implies_true, ↓set_mem]

theorem dropRequest_mem (reason : Nat) (s : State) :
    (dropRequest reason s).mem = s.mem := by
  simp only [dropRequest, ↓apply_ite State.mem, ite_self, ↓foldl_mem, implies_true, ↓set_mem, ↓refuse_mem]; (repeat' split) <;> first | (simp only [↓apply_ite State.mem, ite_self, ↓foldl_mem, implies_true, ↓set_mem, ↓refuse_mem]; done) | (simp only [↓apply_ite State.mem, ite_self, ↓foldl_mem, implies_true, ↓set_mem, ↓refuse_mem]; (repeat' split) <;> first | (simp only [↓apply_ite State.mem, ite_self, ↓foldl_mem, implies_true, ↓set_mem, ↓refuse_mem]; done) | rfl | grind [set_mem, refuse_mem]) | rfl | grind [set_mem, refuse_mem]

theorem oltAbort_mem (s : State) :
    (oltAbort s).mem = s.mem := by
  simp only [oltAbort, ↓apply_ite State.mem, ite_self, ↓foldl_mem, implies_true, ↓set_mem, ↓raise_mem]; (repeat' split) <;> first | (simp only [↓apply_ite State.mem, ite_self, ↓foldl_mem, implies_true, ↓set_mem, ↓raise_mem]; done) | (simp only [↓apply_ite State.mem, ite_self, ↓foldl_mem, implies_true, ↓set_mem, ↓raise_mem]; (repeat' split) <;> first | (simp only [↓apply_ite State.mem, ite_self, ↓foldl_mem, implies_true, ↓set_mem, ↓raise_mem]; done) | rfl | grind [set_mem, raise_mem]) | rfl | grind [set_mem, raise_mem]

theorem linkLossKiln_mem (s : State) :
    (linkLossKiln s).mem = s.mem := by
  simp only [linkLossKiln, ↓apply_ite State.mem, ite_self, ↓foldl_mem, implies_true, ↓setKln_mem, ↓kilnCond_mem, ↓kilnDrive_mem, ↓kilnLatch_mem, ↓kilnRecord_mem]

theorem linkFrameControl_mem (f : LinkFrame) (s : State) :
    (linkFrameControl f s).mem = s.mem := by
  simp only [linkFrameControl, ↓apply_ite State.mem, ite_self, ↓foldl_mem, implies_true, ↓set_mem, ↓kilnDrive_mem, ↓kreqArrive_mem]

theorem execVbatRise_mem (s : State) {s' : State} (hr : execVbatRise s = .next s') :
    s'.mem = s.mem := by
  unfold execVbatRise at hr
  injection hr with hr; subst hr; simp only [↓apply_ite State.mem, ite_self, ↓foldl_mem, implies_true, ↓startBegin_mem]; (repeat' split) <;> first | (simp only [↓apply_ite State.mem, ite_self, ↓foldl_mem, implies_true, ↓startBegin_mem]; done) | (simp only [↓apply_ite State.mem, ite_self, ↓foldl_mem, implies_true, ↓startBegin_mem]; (repeat' split) <;> first | (simp only [↓apply_ite State.mem, ite_self, ↓foldl_mem, implies_true, ↓startBegin_mem]; done) | rfl | grind [startBegin_mem]) | rfl | grind [startBegin_mem]

theorem execSupplyGood_mem (s : State) {s' : State} (hr : execSupplyGood s = .next s') :
    s'.mem = s.mem := by
  unfold execSupplyGood at hr
  injection hr with hr; subst hr; simp only [↓apply_ite State.mem, ite_self, ↓foldl_mem, implies_true]; (repeat' split) <;> first | (simp only [↓apply_ite State.mem, ite_self, ↓foldl_mem, implies_true]; done) | (simp only [↓apply_ite State.mem, ite_self, ↓foldl_mem, implies_true]; (repeat' split) <;> first | (simp only [↓apply_ite State.mem, ite_self, ↓foldl_mem, implies_true]; done) | rfl | grind) | rfl | grind

theorem tndShow_mem (s : State) :
    (tndShow s).mem = s.mem := by
  simp only [tndShow, ↓apply_ite State.mem, ite_self, ↓foldl_mem, implies_true, ↓set_mem, ↓setB_mem]

theorem tndFault_mem (code : Nat) (s : State) :
    (tndFault code s).mem = s.mem := by
  simp only [tndFault, ↓apply_ite State.mem, ite_self, ↓foldl_mem, implies_true, ↓issue_mem, ↓raise_mem]

theorem zeroise_mem (s : State) :
    (zeroise s).mem = s.mem := by
  simp only [zeroise, ↓apply_ite State.mem, ite_self, ↓foldl_mem, implies_true]

theorem execDomainPowerOn_mem (s : State) {s' : State} (hr : execDomainPowerOn s = .next s') :
    s'.mem = s.mem := by
  unfold execDomainPowerOn at hr
  injection hr with hr; subst hr; simp only [↓apply_ite State.mem, ite_self, ↓foldl_mem, implies_true, ↓domainOn_mem]; (repeat' split) <;> first | (simp only [↓apply_ite State.mem, ite_self, ↓foldl_mem, implies_true, ↓domainOn_mem]; done) | (simp only [↓apply_ite State.mem, ite_self, ↓foldl_mem, implies_true, ↓domainOn_mem]; (repeat' split) <;> first | (simp only [↓apply_ite State.mem, ite_self, ↓foldl_mem, implies_true, ↓domainOn_mem]; done) | rfl | grind [domainOn_mem]) | rfl | grind [domainOn_mem]

theorem releaseUnits_mem (s : State) :
    (releaseUnits s).mem = s.mem := by
  simp only [releaseUnits, ↓apply_ite State.mem, ite_self, ↓foldl_mem, implies_true, ↓set_mem, ↓setB_mem, ↓setCan_mem]

theorem releaseProbation_mem (s : State) :
    (releaseProbation s).mem = s.mem := by
  simp only [releaseProbation, ↓apply_ite State.mem, ite_self, ↓foldl_mem, implies_true, ↓set_mem]

theorem execStartTimeout_mem (s : State) {s' : State} (hr : execStartTimeout s = .next s') :
    s'.mem = s.mem := by
  unfold execStartTimeout at hr
  injection hr with hr; subst hr; (repeat' split) <;> first | (simp only [↓apply_ite State.mem, ite_self, ↓foldl_mem, implies_true, ↓issue_mem]; done) | (simp only [↓apply_ite State.mem, ite_self, ↓foldl_mem, implies_true, ↓issue_mem]; (repeat' split) <;> first | (simp only [↓apply_ite State.mem, ite_self, ↓foldl_mem, implies_true, ↓issue_mem]; done) | rfl | grind [issue_mem]) | rfl | grind [issue_mem]

theorem kilnHold_mem (s : State) :
    (kilnHold s).mem = s.mem := by
  simp only [kilnHold, ↓apply_ite State.mem, ite_self, ↓foldl_mem, implies_true, ↓setKln_mem, ↓kilnDrive_mem]

theorem execSupEnHoldEnd_mem (s : State) {s' : State} (hr : execSupEnHoldEnd s = .next s') :
    s'.mem = s.mem := by
  unfold execSupEnHoldEnd at hr
  injection hr with hr; subst hr; simp only [↓apply_ite State.mem, ite_self, ↓foldl_mem, implies_true, ↓set_mem, ↓kilnHold_mem, ↓startBegin_mem]; (repeat' split) <;> first | (simp only [↓apply_ite State.mem, ite_self, ↓foldl_mem, implies_true, ↓set_mem, ↓kilnHold_mem, ↓startBegin_mem]; done) | (simp only [↓apply_ite State.mem, ite_self, ↓foldl_mem, implies_true, ↓set_mem, ↓kilnHold_mem, ↓startBegin_mem]; (repeat' split) <;> first | (simp only [↓apply_ite State.mem, ite_self, ↓foldl_mem, implies_true, ↓set_mem, ↓kilnHold_mem, ↓startBegin_mem]; done) | rfl | grind [set_mem, kilnHold_mem, startBegin_mem]) | rfl | grind [set_mem, kilnHold_mem, startBegin_mem]

theorem showSupplies_mem (s : State) :
    (showSupplies s).mem = s.mem := by
  simp only [showSupplies, ↓apply_ite State.mem, ite_self, ↓foldl_mem, implies_true, ↓set_mem]

theorem execSupplyWarning_mem (supply : Supply) (above : Bool) (s : State) {s' : State} (hr : execSupplyWarning supply above s = .next s') :
    s'.mem = s.mem := by
  unfold execSupplyWarning at hr
  injection hr with hr; subst hr; simp only [↓apply_ite State.mem, ite_self, ↓foldl_mem, implies_true, ↓chDisable_mem, ↓preFail_mem, ↓raise_mem, ↓showSupplies_mem]

theorem execSupplyRecovery_mem (supply : Supply) (fault : Bool) (s : State) {s' : State} (hr : execSupplyRecovery supply fault s = .next
    s') :
    s'.mem = s.mem := by
  unfold execSupplyRecovery at hr
  injection hr with hr; subst hr; simp only [↓apply_ite State.mem, ite_self, ↓foldl_mem, implies_true, ↓kilnCond_mem, ↓showSupplies_mem]; (repeat' split) <;> first | (simp only [↓apply_ite State.mem, ite_self, ↓foldl_mem, implies_true, ↓kilnCond_mem, ↓showSupplies_mem]; done) | (simp only [↓apply_ite State.mem, ite_self, ↓foldl_mem, implies_true, ↓kilnCond_mem, ↓showSupplies_mem]; (repeat' split) <;> first | (simp only [↓apply_ite State.mem, ite_self, ↓foldl_mem, implies_true, ↓kilnCond_mem, ↓showSupplies_mem]; done) | rfl | grind [kilnCond_mem, showSupplies_mem]) | rfl | grind [kilnCond_mem, showSupplies_mem]

theorem execControlDieRelease_mem (s : State) {s' : State} (hr : execControlDieRelease s = .next s') :
    s'.mem = s.mem := by
  unfold execControlDieRelease at hr
  injection hr with hr; subst hr; (repeat' split) <;> first | (simp only [↓apply_ite State.mem, ite_self, ↓foldl_mem, implies_true, ↓startBegin_mem]; done) | (simp only [↓apply_ite State.mem, ite_self, ↓foldl_mem, implies_true, ↓startBegin_mem]; (repeat' split) <;> first | (simp only [↓apply_ite State.mem, ite_self, ↓foldl_mem, implies_true, ↓startBegin_mem]; done) | rfl | grind [startBegin_mem]) | rfl | grind [startBegin_mem]

theorem execDormantEntryComplete_mem (s : State) {s' : State} (hr : execDormantEntryComplete s = .next s') :
    s'.mem = s.mem := by
  unfold execDormantEntryComplete at hr
  injection hr with hr; subst hr; simp only [↓apply_ite State.mem, ite_self, ↓foldl_mem, implies_true, ↓kilnHold_mem]; (repeat' split) <;> first | (simp only [↓apply_ite State.mem, ite_self, ↓foldl_mem, implies_true, ↓kilnHold_mem]; done) | (simp only [↓apply_ite State.mem, ite_self, ↓foldl_mem, implies_true, ↓kilnHold_mem]; (repeat' split) <;> first | (simp only [↓apply_ite State.mem, ite_self, ↓foldl_mem, implies_true, ↓kilnHold_mem]; done) | rfl | grind [kilnHold_mem]) | rfl | grind [kilnHold_mem]

theorem execLatchedWakeStart_mem (s : State) {s' : State} (hr : execLatchedWakeStart s = .next s') :
    s'.mem = s.mem := by
  unfold execLatchedWakeStart at hr
  injection hr with hr; subst hr; simp only [↓apply_ite State.mem, ite_self, ↓foldl_mem, implies_true, ↓startBegin_mem]; (repeat' split) <;> first | (simp only [↓apply_ite State.mem, ite_self, ↓foldl_mem, implies_true, ↓startBegin_mem]; done) | (simp only [↓apply_ite State.mem, ite_self, ↓foldl_mem, implies_true, ↓startBegin_mem]; (repeat' split) <;> first | (simp only [↓apply_ite State.mem, ite_self, ↓foldl_mem, implies_true, ↓startBegin_mem]; done) | rfl | grind [startBegin_mem]) | rfl | grind [startBegin_mem]

theorem execKilnHoldExit_mem (s : State) {s' : State} (hr : execKilnHoldExit s = .next s') :
    s'.mem = s.mem := by
  unfold execKilnHoldExit at hr
  injection hr with hr; subst hr; simp only [↓apply_ite State.mem, ite_self, ↓foldl_mem, implies_true, ↓setKln_mem, ↓kilnCond_mem, ↓kilnDrive_mem]

theorem setEreg_mem (s : State) (r : Nat) (v : Word) :
    (State.setEreg s r v).mem = s.mem := by
  simp only [State.setEreg, ↓apply_ite State.mem, ite_self, ↓foldl_mem, implies_true]

theorem refreshArmed_mem (s : State) :
    (refreshArmed s).mem = s.mem := by
  simp only [refreshArmed, ↓apply_ite State.mem, ite_self, ↓foldl_mem, implies_true, ↓setB_mem]

theorem startPass_mem (s : State) :
    (startPass s).mem = s.mem := by
  simp only [startPass, ↓apply_ite State.mem, ite_self, ↓foldl_mem, implies_true]

theorem wakeDecision_mem (reason : Nat) (s : State) :
    (wakeDecision reason s).mem = s.mem := by
  simp only [wakeDecision, ↓apply_ite State.mem, ite_self, ↓foldl_mem, implies_true, ↓set_mem, ↓raise_mem]; (repeat' split) <;> first | (simp only [↓apply_ite State.mem, ite_self, ↓foldl_mem, implies_true, ↓set_mem, ↓raise_mem]; done) | (simp only [↓apply_ite State.mem, ite_self, ↓foldl_mem, implies_true, ↓set_mem, ↓raise_mem]; (repeat' split) <;> first | (simp only [↓apply_ite State.mem, ite_self, ↓foldl_mem, implies_true, ↓set_mem, ↓raise_mem]; done) | rfl | grind [set_mem, raise_mem]) | rfl | grind [set_mem, raise_mem]

theorem rtcSecWrite_mem (m : Master) (value : Word) (s : State) :
    (rtcSecWrite m value s).mem = s.mem := by
  simp only [rtcSecWrite, ↓apply_ite State.mem, ite_self, ↓foldl_mem, implies_true, ↓answer_mem, ↓set_mem, ↓busError_mem]

theorem execRtcSecWrite_mem (m : Master) (value : Word) (s : State) {s' : State} (hr : execRtcSecWrite m value s = .next s') :
    s'.mem = s.mem := by
  unfold execRtcSecWrite at hr
  injection hr with hr; subst hr; simp only [↓apply_ite State.mem, ite_self, ↓foldl_mem, implies_true, ↓rtcSecWrite_mem]

theorem rtcAlarmWrite_mem (m : Master) (value : Word) (s : State) :
    (rtcAlarmWrite m value s).mem = s.mem := by
  simp only [rtcAlarmWrite, ↓apply_ite State.mem, ite_self, ↓foldl_mem, implies_true, ↓answer_mem, ↓set_mem, ↓busError_mem]

theorem execRtcAlarmWrite_mem (m : Master) (value : Word) (s : State) {s' : State} (hr : execRtcAlarmWrite m value s = .next s') :
    s'.mem = s.mem := by
  unfold execRtcAlarmWrite at hr
  injection hr with hr; subst hr; simp only [↓apply_ite State.mem, ite_self, ↓foldl_mem, implies_true, ↓rtcAlarmWrite_mem]

theorem embGo_mem (pc : Nat) (s : State) :
    (embGo pc s).mem = s.mem := by
  simp only [embGo, ↓apply_ite State.mem, ite_self, ↓foldl_mem, implies_true]

theorem embInstr_mem (f : State → State) (s : State) (hf : ∀ t, (f t).mem = t.mem) :
    (embInstr f s).mem = s.mem := by
  simp only [embInstr, ↓apply_ite State.mem, ite_self, ↓foldl_mem, implies_true, ↓embGo_mem, hf]

theorem embAlu_mem (rd : Fin 16) (v : Word) (s : State) :
    (embAlu rd v s).mem = s.mem := by
  simp only [embAlu, ↓apply_ite State.mem, ite_self, ↓foldl_mem, implies_true, ↓setEreg_mem, ↓embInstr_mem]

theorem embBranch_mem (taken : Bool) (imm : BitVec 16) (s : State) :
    (embBranch taken imm s).mem = s.mem := by
  simp only [embBranch, ↓apply_ite State.mem, ite_self, ↓foldl_mem, implies_true, ↓embGo_mem]

theorem execEmbLdi_mem (rd : Fin 16) (imm : BitVec 16) (s : State) {s' : State} (hr : execEmbLdi rd imm s = .next s') :
    s'.mem = s.mem := by
  unfold execEmbLdi at hr
  injection hr with hr; subst hr; simp only [↓apply_ite State.mem, ite_self, ↓foldl_mem, implies_true, ↓embAlu_mem]

theorem execEmbLui_mem (rd : Fin 16) (imm : BitVec 16) (s : State) {s' : State} (hr : execEmbLui rd imm s = .next s') :
    s'.mem = s.mem := by
  unfold execEmbLui at hr
  injection hr with hr; subst hr; simp only [↓apply_ite State.mem, ite_self, ↓foldl_mem, implies_true, ↓embAlu_mem]

theorem execEmbAdd_mem (rd : Fin 16) (ra : Fin 16) (rb : Fin 16) (s : State) {s' : State} (hr : execEmbAdd rd ra rb s = .next s') :
    s'.mem = s.mem := by
  unfold execEmbAdd at hr
  injection hr with hr; subst hr; simp only [↓apply_ite State.mem, ite_self, ↓foldl_mem, implies_true, ↓embAlu_mem]

theorem execEmbSub_mem (rd : Fin 16) (ra : Fin 16) (rb : Fin 16) (s : State) {s' : State} (hr : execEmbSub rd ra rb s = .next s') :
    s'.mem = s.mem := by
  unfold execEmbSub at hr
  injection hr with hr; subst hr; simp only [↓apply_ite State.mem, ite_self, ↓foldl_mem, implies_true, ↓embAlu_mem]

theorem execEmbAddi_mem (rd : Fin 16) (ra : Fin 16) (imm : BitVec 16) (s : State) {s' : State} (hr : execEmbAddi rd ra imm s = .next s') :
    s'.mem = s.mem := by
  unfold execEmbAddi at hr
  injection hr with hr; subst hr; simp only [↓apply_ite State.mem, ite_self, ↓foldl_mem, implies_true, ↓embAlu_mem]

theorem execEmbAnd_mem (rd : Fin 16) (ra : Fin 16) (rb : Fin 16) (s : State) {s' : State} (hr : execEmbAnd rd ra rb s = .next s') :
    s'.mem = s.mem := by
  unfold execEmbAnd at hr
  injection hr with hr; subst hr; simp only [↓apply_ite State.mem, ite_self, ↓foldl_mem, implies_true, ↓embAlu_mem]

theorem execEmbOr_mem (rd : Fin 16) (ra : Fin 16) (rb : Fin 16) (s : State) {s' : State} (hr : execEmbOr rd ra rb s = .next s') :
    s'.mem = s.mem := by
  unfold execEmbOr at hr
  injection hr with hr; subst hr; simp only [↓apply_ite State.mem, ite_self, ↓foldl_mem, implies_true, ↓embAlu_mem]

theorem execEmbXor_mem (rd : Fin 16) (ra : Fin 16) (rb : Fin 16) (s : State) {s' : State} (hr : execEmbXor rd ra rb s = .next s') :
    s'.mem = s.mem := by
  unfold execEmbXor at hr
  injection hr with hr; subst hr; simp only [↓apply_ite State.mem, ite_self, ↓foldl_mem, implies_true, ↓embAlu_mem]

theorem execEmbShl_mem (rd : Fin 16) (ra : Fin 16) (imm : BitVec 16) (s : State) {s' : State} (hr : execEmbShl rd ra imm s = .next s') :
    s'.mem = s.mem := by
  unfold execEmbShl at hr
  injection hr with hr; subst hr; simp only [↓apply_ite State.mem, ite_self, ↓foldl_mem, implies_true, ↓embAlu_mem]

theorem execEmbShr_mem (rd : Fin 16) (ra : Fin 16) (imm : BitVec 16) (s : State) {s' : State} (hr : execEmbShr rd ra imm s = .next s') :
    s'.mem = s.mem := by
  unfold execEmbShr at hr
  injection hr with hr; subst hr; simp only [↓apply_ite State.mem, ite_self, ↓foldl_mem, implies_true, ↓embAlu_mem]

theorem execEmbAsr_mem (rd : Fin 16) (ra : Fin 16) (imm : BitVec 16) (s : State) {s' : State} (hr : execEmbAsr rd ra imm s = .next s') :
    s'.mem = s.mem := by
  unfold execEmbAsr at hr
  injection hr with hr; subst hr; simp only [↓apply_ite State.mem, ite_self, ↓foldl_mem, implies_true, ↓embAlu_mem]

theorem execEmbFilt_mem (rd : Fin 16) (ra : Fin 16) (imm : BitVec 16) (s : State) {s' : State} (hr : execEmbFilt rd ra imm s = .next s') :
    s'.mem = s.mem := by
  unfold execEmbFilt at hr
  injection hr with hr; subst hr; simp only [↓apply_ite State.mem, ite_self, ↓foldl_mem, implies_true, ↓embAlu_mem]

theorem execEmbLd_mem (rd : Fin 16) (ra : Fin 16) (imm : BitVec 16) (s : State) {s' : State} (hr : execEmbLd rd ra imm s = .next s') :
    s'.mem = s.mem := by
  unfold execEmbLd at hr
  injection hr with hr; subst hr; simp only [↓apply_ite State.mem, ite_self, ↓foldl_mem, implies_true, ↓embAlu_mem]

theorem execEmbBeq_mem (rd : Fin 16) (ra : Fin 16) (imm : BitVec 16) (s : State) {s' : State} (hr : execEmbBeq rd ra imm s = .next s') :
    s'.mem = s.mem := by
  unfold execEmbBeq at hr
  injection hr with hr; subst hr; simp only [↓apply_ite State.mem, ite_self, ↓foldl_mem, implies_true, ↓embBranch_mem]

theorem execEmbBne_mem (rd : Fin 16) (ra : Fin 16) (imm : BitVec 16) (s : State) {s' : State} (hr : execEmbBne rd ra imm s = .next s') :
    s'.mem = s.mem := by
  unfold execEmbBne at hr
  injection hr with hr; subst hr; simp only [↓apply_ite State.mem, ite_self, ↓foldl_mem, implies_true, ↓embBranch_mem]

theorem execEmbBlt_mem (rd : Fin 16) (ra : Fin 16) (imm : BitVec 16) (s : State) {s' : State} (hr : execEmbBlt rd ra imm s = .next s') :
    s'.mem = s.mem := by
  unfold execEmbBlt at hr
  injection hr with hr; subst hr; simp only [↓apply_ite State.mem, ite_self, ↓foldl_mem, implies_true, ↓embBranch_mem]

theorem execEmbBge_mem (rd : Fin 16) (ra : Fin 16) (imm : BitVec 16) (s : State) {s' : State} (hr : execEmbBge rd ra imm s = .next s') :
    s'.mem = s.mem := by
  unfold execEmbBge at hr
  injection hr with hr; subst hr; simp only [↓apply_ite State.mem, ite_self, ↓foldl_mem, implies_true, ↓embBranch_mem]

theorem execEmbJmp_mem (imm : BitVec 16) (s : State) {s' : State} (hr : execEmbJmp imm s = .next s') :
    s'.mem = s.mem := by
  unfold execEmbJmp at hr
  injection hr with hr; subst hr; simp only [↓apply_ite State.mem, ite_self, ↓foldl_mem, implies_true, ↓embBranch_mem]

theorem execEmbSamp_mem (rd : Fin 16) (imm : BitVec 16) (codes : List (BitVec 12)) (s : State) {s' : State} (hr : execEmbSamp rd imm
    codes s = .next s') :
    s'.mem = s.mem := by
  unfold execEmbSamp at hr
  injection hr with hr; subst hr; simp only [↓apply_ite State.mem, ite_self, ↓foldl_mem, implies_true, ↓setEreg_mem, ↓embInstr_mem]

theorem execEmbCnt_mem (rd : Fin 16) (imm : BitVec 16) (crossing : Bool) (s : State) {s' : State} (hr : execEmbCnt rd imm crossing s =
    .next s') :
    s'.mem = s.mem := by
  unfold execEmbCnt at hr
  injection hr with hr; subst hr; simp only [↓apply_ite State.mem, ite_self, ↓foldl_mem, implies_true, ↓setEreg_mem, ↓embInstr_mem]

theorem execEmbInp_mem (rd : Fin 16) (s : State) {s' : State} (hr : execEmbInp rd s = .next s') :
    s'.mem = s.mem := by
  unfold execEmbInp at hr
  injection hr with hr; subst hr; simp only [↓apply_ite State.mem, ite_self, ↓foldl_mem, implies_true, ↓setEreg_mem, ↓embInstr_mem]

theorem execEmbRtc_mem (rd : Fin 16) (s : State) {s' : State} (hr : execEmbRtc rd s = .next s') :
    s'.mem = s.mem := by
  unfold execEmbRtc at hr
  injection hr with hr; subst hr; simp only [↓apply_ite State.mem, ite_self, ↓foldl_mem, implies_true, ↓embAlu_mem]

theorem execEmbOut_mem (imm : BitVec 16) (s : State) {s' : State} (hr : execEmbOut imm s = .next s') :
    s'.mem = s.mem := by
  unfold execEmbOut at hr
  injection hr with hr; subst hr; simp only [↓apply_ite State.mem, ite_self, ↓foldl_mem, implies_true, ↓set_mem, ↓embInstr_mem]

theorem execEmbWait_mem (_imm : BitVec 16) (s : State) {s' : State} (hr : execEmbWait _imm s = .next s') :
    s'.mem = s.mem := by
  unfold execEmbWait at hr
  injection hr with hr; subst hr; (repeat' split) <;> first | (simp only [↓apply_ite State.mem, ite_self, ↓foldl_mem, implies_true, ↓embInstr_mem]; done) | (simp only [↓apply_ite State.mem, ite_self, ↓foldl_mem, implies_true, ↓embInstr_mem]; (repeat' split) <;> first | (simp only [↓apply_ite State.mem, ite_self, ↓foldl_mem, implies_true, ↓embInstr_mem]; done) | rfl | grind [embInstr_mem]) | rfl | grind [embInstr_mem]

theorem execConverterPowerDown_mem (s : State) {s' : State} (hr : execConverterPowerDown s = .next s') :
    s'.mem = s.mem := by
  unfold execConverterPowerDown at hr
  injection hr with hr; subst hr; simp only [↓apply_ite State.mem, ite_self, ↓foldl_mem, implies_true]

theorem execRotationCrossing_mem (cmp : Fin 2) (s : State) {s' : State} (hr : execRotationCrossing cmp s = .next s') :
    s'.mem = s.mem := by
  unfold execRotationCrossing at hr
  injection hr with hr; subst hr; simp only [↓apply_ite State.mem, ite_self, ↓foldl_mem, implies_true, ↓setBit_mem]

theorem execXtalStop_mem (s : State) {s' : State} (hr : execXtalStop s = .next s') :
    s'.mem = s.mem := by
  unfold execXtalStop at hr
  injection hr with hr; subst hr; simp only [↓apply_ite State.mem, ite_self, ↓foldl_mem, implies_true, ↓set_mem]

theorem execXtalReturn_mem (s : State) {s' : State} (hr : execXtalReturn s = .next s') :
    s'.mem = s.mem := by
  unfold execXtalReturn at hr
  injection hr with hr; subst hr; simp only [↓apply_ite State.mem, ite_self, ↓foldl_mem, implies_true, ↓set_mem]

theorem plainWrite_mem (a : Nat) (v : Word) (s : State) :
    (plainWrite a v s).mem = s.mem := by
  simp only [plainWrite, ↓apply_ite State.mem, ite_self, ↓foldl_mem, implies_true, ↓wr_mem]; (repeat' split) <;> first | (simp only [↓apply_ite State.mem, ite_self, ↓foldl_mem, implies_true, ↓wr_mem]; done) | (simp only [↓apply_ite State.mem, ite_self, ↓foldl_mem, implies_true, ↓wr_mem]; (repeat' split) <;> first | (simp only [↓apply_ite State.mem, ite_self, ↓foldl_mem, implies_true, ↓wr_mem]; done) | rfl | grind [wr_mem]) | rfl | grind [wr_mem]

theorem writeDefaults_mem (s : State) :
    (writeDefaults s).mem = s.mem := by
  simp only [writeDefaults, ↓apply_ite State.mem, ite_self, ↓foldl_mem, implies_true, ↓set_mem, ↓setI_mem]

theorem writeSystem_mem (c : SysRecord) (bench : Bool) (s : State) :
    (writeSystem c bench s).mem = s.mem := by
  simp only [writeSystem, ↓apply_ite State.mem, ite_self, ↓foldl_mem, implies_true, ↓set_mem, ↓setB_mem]

theorem confirmJournal_mem (s : State) :
    (confirmJournal s).mem = s.mem := by
  simp only [confirmJournal, ↓apply_ite State.mem, ite_self, ↓foldl_mem, implies_true, ↓set_mem, ↓setJournal_mem, ↓raise_mem]

theorem writeOnce_mem (a : Nat) (v : Word) (s : State) :
    (writeOnce a v s).mem = s.mem := by
  simp only [writeOnce, ↓apply_ite State.mem, ite_self, ↓foldl_mem, implies_true, ↓plainWrite_mem]

theorem kilnLock_mem (t : List Byte) (s : State) :
    (kilnLock t s).mem = s.mem := by
  simp only [kilnLock, ↓apply_ite State.mem, ite_self, ↓foldl_mem, implies_true, ↓setKln_mem, ↓kilnApply_mem, ↓kilnDrive_mem]

theorem flashReadError_mem (s : State) :
    (flashReadError s).mem = s.mem := by
  simp only [flashReadError, ↓apply_ite State.mem, ite_self, ↓foldl_mem, implies_true, ↓bump_mem, ↓issue_mem, ↓raise_mem]

theorem execMmapFlashRead_mem (m : Master) (addr : BitVec 28) (value : Word) (readOk : Bool) (s : State) {s' : State} (hr :
    execMmapFlashRead m addr value readOk s = .next s') :
    s'.mem = s.mem := by
  unfold execMmapFlashRead at hr
  injection hr with hr; subst hr; simp only [↓apply_ite State.mem, ite_self, ↓foldl_mem, implies_true, ↓answer_mem, ↓bump_mem, ↓busError_mem, ↓flashReadError_mem]

theorem setCanState_mem (n : Nat) (v : Nat) (s : State) :
    (setCanState n v s).mem = s.mem := by
  simp only [setCanState, ↓apply_ite State.mem, ite_self, ↓foldl_mem, implies_true, ↓set_mem]

theorem bumpCan_mem (f : Fld) (n : Nat) (s : State) :
    (bumpCan f n s).mem = s.mem := by
  simp only [bumpCan, ↓apply_ite State.mem, ite_self, ↓foldl_mem, implies_true, ↓bump_mem]

theorem canStop_mem (n : Nat) (s : State) :
    (canStop n s).mem = s.mem := by
  simp only [canStop, ↓apply_ite State.mem, ite_self, ↓foldl_mem, implies_true, ↓set_mem, ↓setCan_mem, ↓raise_mem, ↓setCanState_mem]

theorem frameBoundary_mem (n : Nat) (s : State) :
    (frameBoundary n s).mem = s.mem := by
  simp only [frameBoundary, ↓apply_ite State.mem, ite_self, ↓foldl_mem, implies_true, ↓canStop_mem]

theorem canFail_mem (n : Nat) (s : State) :
    (canFail n s).mem = s.mem := by
  simp only [canFail, ↓apply_ite State.mem, ite_self, ↓foldl_mem, implies_true, ↓bump_mem, ↓set_mem, ↓setReel_mem, ↓issue_mem, ↓raise_mem, ↓setCanState_mem]

theorem busOff_mem (n : Nat) (s : State) :
    (busOff n s).mem = s.mem := by
  simp only [busOff, ↓apply_ite State.mem, ite_self, ↓foldl_mem, implies_true, ↓set_mem, ↓setCan_mem, ↓bumpCan_mem, ↓issue_mem, ↓raise_mem, ↓setCanState_mem]

theorem confine_mem (n : Nat) (tec : Nat) (rec_ : Nat) (s : State) :
    (confine n tec rec_ s).mem = s.mem := by
  simp only [confine, ↓apply_ite State.mem, ite_self, ↓foldl_mem, implies_true, ↓set_mem, ↓busOff_mem, ↓raise_mem, ↓setCanState_mem]

theorem goodReceive_mem (n : Nat) (s : State) :
    (goodReceive n s).mem = s.mem := by
  simp only [goodReceive, ↓apply_ite State.mem, ite_self, ↓foldl_mem, implies_true, ↓confine_mem]

theorem execReceiveError_mem (n : Fin 4) (dominant : Bool) (s : State) {s' : State} (hr : execReceiveError n dominant s = .next s') :
    s'.mem = s.mem := by
  unfold execReceiveError at hr
  injection hr with hr; subst hr; simp only [↓apply_ite State.mem, ite_self, ↓foldl_mem, implies_true, ↓confine_mem]

theorem execProtocolException_mem (n : Fin 4) (s : State) {s' : State} (hr : execProtocolException n s = .next s') :
    s'.mem = s.mem := by
  unfold execProtocolException at hr
  injection hr with hr; subst hr; simp only [↓apply_ite State.mem, ite_self, ↓foldl_mem, implies_true, ↓frameBoundary_mem, ↓setCanState_mem]

theorem execBusIntegrationDone_mem (n : Fin 4) (s : State) {s' : State} (hr : execBusIntegrationDone n s = .next s') :
    s'.mem = s.mem := by
  unfold execBusIntegrationDone at hr
  injection hr with hr; subst hr; simp only [↓apply_ite State.mem, ite_self, ↓foldl_mem, implies_true, ↓canStop_mem, ↓confine_mem, ↓setCanState_mem]

theorem execBusOffHoldEnd_mem (n : Fin 4) (s : State) {s' : State} (hr : execBusOffHoldEnd n s = .next s') :
    s'.mem = s.mem := by
  unfold execBusOffHoldEnd at hr
  injection hr with hr; subst hr; simp only [↓apply_ite State.mem, ite_self, ↓foldl_mem, implies_true, ↓setCanState_mem]

theorem execBusOffRecovered_mem (n : Fin 4) (s : State) {s' : State} (hr : execBusOffRecovered n s = .next s') :
    s'.mem = s.mem := by
  unfold execBusOffRecovered at hr
  injection hr with hr; subst hr; simp only [↓apply_ite State.mem, ite_self, ↓foldl_mem, implies_true, ↓set_mem, ↓raise_mem, ↓setCanState_mem]

theorem setQueue_mem (n : Nat) (q : List TxEntry) (s : State) :
    (setQueue n q s).mem = s.mem := by
  simp only [setQueue, ↓apply_ite State.mem, ite_self, ↓foldl_mem, implies_true, ↓set_mem, ↓setCan_mem]

theorem popHead_mem (n : Nat) (s : State) :
    (popHead n s).mem = s.mem := by
  simp only [popHead, ↓apply_ite State.mem, ite_self, ↓foldl_mem, implies_true, ↓set_mem, ↓setCan_mem, ↓setQueue_mem]

theorem pushEntry_mem (n : Nat) (e : TxEntry) (s : State) :
    (pushEntry n e s).2.mem = s.mem := by
  simp only [pushEntry, ↓apply_ite State.mem, ite_self, ↓foldl_mem, implies_true, ↓apply_ite Prod.snd, ↓apply_ite Prod.fst, ↓bumpCan_mem, ↓raise_mem, ↓setQueue_mem]

theorem txPush_mem (m : Master) (n : Nat) (win : Nat) (e : TxEntry) (s : State) :
    (txPush m n win e s).mem = s.mem := by
  simp only [txPush, ↓apply_ite State.mem, ite_self, ↓foldl_mem, implies_true, ↓apply_ite Prod.snd, ↓apply_ite Prod.fst, ↓answer_mem, ↓busError_mem, ↓pushEntry_mem]

theorem execTxPush_mem (m : Master) (n : Fin 4) (win : Fin 3) (w0 : Word) (w1 : Word) (w2 : Word) (w3 : Word) (s : State) {s' : State}
    (hr : execTxPush m n win w0 w1 w2 w3 s = .next s') :
    s'.mem = s.mem := by
  unfold execTxPush at hr
  injection hr with hr; subst hr; simp only [↓apply_ite State.mem, ite_self, ↓foldl_mem, implies_true, ↓txPush_mem]

theorem arbitrate_mem (n : Nat) (late : Bool) (s : State) :
    (arbitrate n late s).mem = s.mem := by
  simp only [arbitrate, ↓apply_ite State.mem, ite_self, ↓foldl_mem, implies_true, ↓set_mem, ↓setCan_mem]

theorem execTxHeadFetch_mem (n : Fin 4) (s : State) {s' : State} (hr : execTxHeadFetch n s = .next s') :
    s'.mem = s.mem := by
  unfold execTxHeadFetch at hr
  injection hr with hr; subst hr; simp only [↓apply_ite State.mem, ite_self, ↓foldl_mem, implies_true, ↓setCan_mem, ↓arbitrate_mem, ↓bumpCan_mem, ↓issue_mem, ↓popHead_mem]; (repeat' split) <;> first | (simp only [↓apply_ite State.mem, ite_self, ↓foldl_mem, implies_true, ↓setCan_mem, ↓arbitrate_mem, ↓bumpCan_mem, ↓issue_mem, ↓popHead_mem]; done) | (simp only [↓apply_ite State.mem, ite_self, ↓foldl_mem, implies_true, ↓setCan_mem, ↓arbitrate_mem, ↓bumpCan_mem, ↓issue_mem, ↓popHead_mem]; (repeat' split) <;> first | (simp only [↓apply_ite State.mem, ite_self, ↓foldl_mem, implies_true, ↓setCan_mem, ↓arbitrate_mem, ↓bumpCan_mem, ↓issue_mem, ↓popHead_mem]; done) | rfl | grind [setCan_mem, arbitrate_mem, bumpCan_mem, issue_mem, popHead_mem]) | rfl | grind [setCan_mem, arbitrate_mem, bumpCan_mem, issue_mem, popHead_mem]

theorem execTxEligible_mem (n : Fin 4) (s : State) {s' : State} (hr : execTxEligible n s = .next s') :
    s'.mem = s.mem := by
  unfold execTxEligible at hr
  injection hr with hr; subst hr; simp only [↓apply_ite State.mem, ite_self, ↓foldl_mem, implies_true, ↓arbitrate_mem, ↓bumpCan_mem, ↓popHead_mem, ↓raise_mem]; (repeat' split) <;> first | (simp only [↓apply_ite State.mem, ite_self, ↓foldl_mem, implies_true, ↓arbitrate_mem, ↓bumpCan_mem, ↓popHead_mem, ↓raise_mem]; done) | (simp only [↓apply_ite State.mem, ite_self, ↓foldl_mem, implies_true, ↓arbitrate_mem, ↓bumpCan_mem, ↓popHead_mem, ↓raise_mem]; (repeat' split) <;> first | (simp only [↓apply_ite State.mem, ite_self, ↓foldl_mem, implies_true, ↓arbitrate_mem, ↓bumpCan_mem, ↓popHead_mem, ↓raise_mem]; done) | rfl | grind [arbitrate_mem, bumpCan_mem, popHead_mem, raise_mem]) | rfl | grind [arbitrate_mem, bumpCan_mem, popHead_mem, raise_mem]

theorem canDisable_mem (n : Nat) (s : State) :
    (canDisable n s).mem = s.mem := by
  simp only [canDisable, ↓apply_ite State.mem, ite_self, ↓foldl_mem, implies_true, ↓set_mem, ↓setCan_mem, ↓canStop_mem]; (repeat' split) <;> first | (simp only [↓apply_ite State.mem, ite_self, ↓foldl_mem, implies_true, ↓set_mem, ↓setCan_mem, ↓canStop_mem]; done) | (simp only [↓apply_ite State.mem, ite_self, ↓foldl_mem, implies_true, ↓set_mem, ↓setCan_mem, ↓canStop_mem]; (repeat' split) <;> first | (simp only [↓apply_ite State.mem, ite_self, ↓foldl_mem, implies_true, ↓set_mem, ↓setCan_mem, ↓canStop_mem]; done) | rfl | grind [set_mem, setCan_mem, canStop_mem]) | rfl | grind [set_mem, setCan_mem, canStop_mem]

theorem canEnable_mem (n : Nat) (s : State) :
    (canEnable n s).mem = s.mem := by
  simp only [canEnable, ↓apply_ite State.mem, ite_self, ↓foldl_mem, implies_true, ↓set_mem, ↓setCan_mem, ↓canStop_mem, ↓setCanState_mem]

theorem canFlush_mem (n : Nat) (s : State) :
    (canFlush n s).mem = s.mem := by
  simp only [canFlush, ↓apply_ite State.mem, ite_self, ↓foldl_mem, implies_true, ↓set_mem, ↓setCan_mem, ↓setQueue_mem]

theorem execCanDisable_mem (m : Master) (n : Fin 4) (s : State) {s' : State} (hr : execCanDisable m n s = .next s') :
    s'.mem = s.mem := by
  unfold execCanDisable at hr
  injection hr with hr; subst hr; simp only [↓apply_ite State.mem, ite_self, ↓foldl_mem, implies_true, ↓answer_mem, ↓busError_mem, ↓canDisable_mem]

theorem execCanEnable_mem (m : Master) (n : Fin 4) (s : State) {s' : State} (hr : execCanEnable m n s = .next s') :
    s'.mem = s.mem := by
  unfold execCanEnable at hr
  injection hr with hr; subst hr; simp only [↓apply_ite State.mem, ite_self, ↓foldl_mem, implies_true, ↓answer_mem, ↓busError_mem, ↓canEnable_mem]

theorem execCanFlush_mem (m : Master) (n : Fin 4) (s : State) {s' : State} (hr : execCanFlush m n s = .next s') :
    s'.mem = s.mem := by
  unfold execCanFlush at hr
  injection hr with hr; subst hr; simp only [↓apply_ite State.mem, ite_self, ↓foldl_mem, implies_true, ↓answer_mem, ↓busError_mem, ↓canFlush_mem]

theorem execCanDrainTimeout_mem (n : Fin 4) (s : State) {s' : State} (hr : execCanDrainTimeout n s = .next s') :
    s'.mem = s.mem := by
  unfold execCanDrainTimeout at hr
  injection hr with hr; subst hr; simp only [↓apply_ite State.mem, ite_self, ↓foldl_mem, implies_true, ↓canStop_mem]

theorem bumpReel_mem (f : Fld) (s : State) :
    (bumpReel f s).mem = s.mem := by
  simp only [bumpReel, ↓apply_ite State.mem, ite_self, ↓foldl_mem, implies_true, ↓bump_mem]

theorem passRecord_mem (n : Nat) (off : Nat) (s : State) :
    (passRecord n off s).mem = s.mem := by
  simp only [passRecord, ↓apply_ite State.mem, ite_self, ↓foldl_mem, implies_true, ↓set_mem]

theorem takeToken_mem (c : Nat) (s : State) :
    (takeToken c s).2.mem = s.mem := by
  simp only [takeToken, ↓apply_ite State.mem, ite_self, ↓foldl_mem, implies_true, ↓apply_ite Prod.snd, ↓apply_ite Prod.fst, ↓setReel_mem]

theorem reelReset_mem (s : State) :
    (reelReset s).mem = s.mem := by
  simp only [reelReset, ↓apply_ite State.mem, ite_self, ↓foldl_mem, implies_true, ↓set_mem, ↓updFault_mem]

theorem execReelResetDone_mem (s : State) {s' : State} (hr : execReelResetDone s = .next s') :
    s'.mem = s.mem := by
  unfold execReelResetDone at hr
  injection hr with hr; subst hr; simp only [↓apply_ite State.mem, ite_self, ↓foldl_mem, implies_true, ↓set_mem, ↓issue_mem]

theorem reelEvent_mem (n : Nat) (s : State) :
    (reelEvent n s).mem = s.mem := by
  simp only [reelEvent, ↓apply_ite State.mem, ite_self, ↓foldl_mem, implies_true, ↓setReel_mem, ↓bumpReel_mem]; (repeat' split) <;> first | (simp only [↓apply_ite State.mem, ite_self, ↓foldl_mem, implies_true, ↓setReel_mem, ↓bumpReel_mem]; done) | (simp only [↓apply_ite State.mem, ite_self, ↓foldl_mem, implies_true, ↓setReel_mem, ↓bumpReel_mem]; (repeat' split) <;> first | (simp only [↓apply_ite State.mem, ite_self, ↓foldl_mem, implies_true, ↓setReel_mem, ↓bumpReel_mem]; done) | rfl | grind [setReel_mem, bumpReel_mem]) | rfl | grind [setReel_mem, bumpReel_mem]

theorem aliveBreak_mem (s : State) :
    (aliveBreak s).mem = s.mem := by
  simp only [aliveBreak, ↓apply_ite State.mem, ite_self, ↓foldl_mem, implies_true, ↓bump_mem]

theorem supAlive_mem (k : Nat) (a : Nat) (s : State) :
    (supAlive k a s).mem = s.mem := by
  simp only [supAlive, ↓apply_ite State.mem, ite_self, ↓foldl_mem, implies_true]

theorem axleTorque_mem (tAx : Int) (dT : Int) (s : State) :
    (axleTorque tAx dT s).mem = s.mem := by
  simp only [axleTorque, ↓apply_ite State.mem, ite_self, ↓foldl_mem, implies_true, ↓setMach_mem]; (repeat' split) <;> first | (simp only [↓apply_ite State.mem, ite_self, ↓foldl_mem, implies_true, ↓setMach_mem]; done) | (simp only [↓apply_ite State.mem, ite_self, ↓foldl_mem, implies_true, ↓setMach_mem]; (repeat' split) <;> first | (simp only [↓apply_ite State.mem, ite_self, ↓foldl_mem, implies_true, ↓setMach_mem]; done) | rfl | grind [setMach_mem]) | rfl | grind [setMach_mem]

theorem execSpeedCmd_mem (x : SpeedCmd) (s : State) {s' : State} (hr : execSpeedCmd x s = .next s') :
    s'.mem = s.mem := by
  unfold execSpeedCmd at hr
  injection hr with hr; subst hr; simp only [↓apply_ite State.mem, ite_self, ↓foldl_mem, implies_true, ↓setMach_mem, ↓aliveBreak_mem, ↓supAlive_mem]; (repeat' split) <;> first | (simp only [↓apply_ite State.mem, ite_self, ↓foldl_mem, implies_true, ↓setMach_mem, ↓aliveBreak_mem, ↓supAlive_mem]; done) | (simp only [↓apply_ite State.mem, ite_self, ↓foldl_mem, implies_true, ↓setMach_mem, ↓aliveBreak_mem, ↓supAlive_mem]; (repeat' split) <;> first | (simp only [↓apply_ite State.mem, ite_self, ↓foldl_mem, implies_true, ↓setMach_mem, ↓aliveBreak_mem, ↓supAlive_mem]; done) | rfl | grind [setMach_mem, aliveBreak_mem, supAlive_mem]) | rfl | grind [setMach_mem, aliveBreak_mem, supAlive_mem]

theorem supKreq_mem (f : Fld) (v : Nat) (s : State) :
    (supKreq f v s).mem = s.mem := by
  simp only [supKreq, ↓apply_ite State.mem, ite_self, ↓foldl_mem, implies_true, ↓kreqField_mem, ↓quietly_mem]

theorem stopOne_mem (s : State) :
    (stopOne s).mem = s.mem := by
  simp only [stopOne, ↓apply_ite State.mem, ite_self, ↓foldl_mem, implies_true, ↓setMach_mem, ↓supKreq_mem]; (repeat' split) <;> first | (simp only [↓apply_ite State.mem, ite_self, ↓foldl_mem, implies_true, ↓setMach_mem, ↓supKreq_mem]; done) | (simp only [↓apply_ite State.mem, ite_self, ↓foldl_mem, implies_true, ↓setMach_mem, ↓supKreq_mem]; (repeat' split) <;> first | (simp only [↓apply_ite State.mem, ite_self, ↓foldl_mem, implies_true, ↓setMach_mem, ↓supKreq_mem]; done) | rfl | grind [setMach_mem, supKreq_mem]) | rfl | grind [setMach_mem, supKreq_mem]

theorem execStopCmd_mem (auth : Bool) (one : Bool) (s : State) {s' : State} (hr : execStopCmd auth one s = .next s') :
    s'.mem = s.mem := by
  unfold execStopCmd at hr
  injection hr with hr; subst hr; simp only [↓apply_ite State.mem, ite_self, ↓foldl_mem, implies_true, ↓setMach_mem, ↓stopOne_mem, ↓supKreq_mem]

theorem execEmrCmd_mem (auth : Bool) (cancel : Bool) (s : State) {s' : State} (hr : execEmrCmd auth cancel s = .next s') :
    s'.mem = s.mem := by
  unfold execEmrCmd at hr
  injection hr with hr; subst hr; simp only [↓apply_ite State.mem, ite_self, ↓foldl_mem, implies_true, ↓emrEnd_mem, ↓emrEnter_mem]

theorem execChgCmd_mem (x : ChgCmd) (s : State) {s' : State} (hr : execChgCmd x s = .next s') :
    s'.mem = s.mem := by
  unfold execChgCmd at hr
  injection hr with hr; subst hr; simp only [↓apply_ite State.mem, ite_self, ↓foldl_mem, implies_true, ↓setChg_mem, ↓aliveBreak_mem]

theorem execBmsLim_mem (auth : Bool) (x : BmsLimits) (s : State) {s' : State} (hr : execBmsLim auth x s = .next s') :
    s'.mem = s.mem := by
  unfold execBmsLim at hr
  injection hr with hr; subst hr; simp only [↓apply_ite State.mem, ite_self, ↓foldl_mem, implies_true, ↓set_mem, ↓setChg_mem]

theorem execPreCmd_mem (auth : Bool) (cOpen : Bool) (s : State) {s' : State} (hr : execPreCmd auth cOpen s = .next s') :
    s'.mem = s.mem := by
  unfold execPreCmd at hr
  injection hr with hr; subst hr; simp only [↓apply_ite State.mem, ite_self, ↓foldl_mem, implies_true, ↓setChg_mem, ↓preCommand_mem, ↓quietly_mem]

theorem execContactorClosed_mem (auth : Bool) (s : State) {s' : State} (hr : execContactorClosed auth s = .next s') :
    s'.mem = s.mem := by
  unfold execContactorClosed at hr
  injection hr with hr; subst hr; simp only [↓apply_ite State.mem, ite_self, ↓foldl_mem, implies_true, ↓setChg_mem, ↓preEnd_mem, ↓quietly_mem]

theorem execHostTimeout_mem (s : State) {s' : State} (hr : execHostTimeout s = .next s') :
    s'.mem = s.mem := by
  unfold execHostTimeout at hr
  injection hr with hr; subst hr; simp only [↓apply_ite State.mem, ite_self, ↓foldl_mem, implies_true, ↓bump_mem, ↓setMach_mem, ↓issue_mem, ↓raise_mem, ↓stopOne_mem]

theorem execHostLossTimeout_mem (s : State) {s' : State} (hr : execHostLossTimeout s = .next s') :
    s'.mem = s.mem := by
  unfold execHostLossTimeout at hr
  injection hr with hr; subst hr; simp only [↓apply_ite State.mem, ite_self, ↓foldl_mem, implies_true, ↓setMach_mem, ↓stopOne_mem]

theorem execChgCmdTimeout_mem (s : State) {s' : State} (hr : execChgCmdTimeout s = .next s') :
    s'.mem = s.mem := by
  unfold execChgCmdTimeout at hr
  injection hr with hr; subst hr; simp only [↓apply_ite State.mem, ite_self, ↓foldl_mem, implies_true, ↓bump_mem, ↓setChg_mem, ↓raise_mem]

theorem setXcp_mem (s : State) (x : XcpSt) :
    (State.setXcp s x).mem = s.mem := by
  simp only [State.setXcp, ↓apply_ite State.mem, ite_self, ↓foldl_mem, implies_true]

theorem reply_mem (s : State) (r : XcpReply) :
    (State.reply s r).mem = s.mem := by
  simp only [State.reply, ↓apply_ite State.mem, ite_self, ↓foldl_mem, implies_true, ↓setXcp_mem]

theorem xcpCmd_mem (f : State → State) (s : State) {s' : State} (hf : ∀ t, (f t).mem = t.mem) (hr : xcpCmd f s = .next s') :
    s'.mem = s.mem := by
  unfold xcpCmd at hr
  injection hr with hr; subst hr; simp only [↓apply_ite State.mem, ite_self, ↓foldl_mem, implies_true, ↓reply_mem, ↓quietly_mem, hf]

theorem execXcpTimeout_mem (s : State) {s' : State} (hr : execXcpTimeout s = .next s') :
    s'.mem = s.mem := by
  unfold execXcpTimeout at hr
  injection hr with hr; subst hr; simp only [↓apply_ite State.mem, ite_self, ↓foldl_mem, implies_true, ↓xcpEnd_mem]

theorem execXcpConnect_mem (fd : Bool) (s : State) {s' : State} (hr : execXcpConnect fd s = .next s') :
    s'.mem = s.mem := by
  unfold execXcpConnect at hr
  injection hr with hr; subst hr; simp only [↓apply_ite State.mem, ite_self, ↓foldl_mem, implies_true, ↓reply_mem, ↓setXcp_mem, ↓raise_mem]

theorem execXcpDisconnect_mem (s : State) {s' : State} (hr : execXcpDisconnect s = .next s') :
    s'.mem = s.mem := by
  unfold execXcpDisconnect at hr
  injection hr with hr; subst hr; simp only [↓apply_ite State.mem, ite_self, ↓foldl_mem, implies_true, ↓reply_mem, ↓xcpEnd_mem]

theorem execXcpGetStatus_mem (s : State) {s' : State} (hr : execXcpGetStatus s = .next s') :
    s'.mem = s.mem := by
  unfold execXcpGetStatus at hr
  exact xcpCmd_mem _ _ (by intros; first | (simp only [↓apply_ite State.mem, ite_self, ↓foldl_mem, implies_true, ↓reply_mem]; done) | ((repeat' split) <;> first | (simp only [↓apply_ite State.mem, ite_self, ↓foldl_mem, implies_true, ↓reply_mem]; done) | (simp only [↓apply_ite State.mem, ite_self, ↓foldl_mem, implies_true, ↓reply_mem]; (repeat' split) <;> first | (simp only [↓apply_ite State.mem, ite_self, ↓foldl_mem, implies_true, ↓reply_mem]; done) | rfl | grind [reply_mem]) | rfl | grind [reply_mem])) hr

theorem execXcpSynch_mem (s : State) {s' : State} (hr : execXcpSynch s = .next s') :
    s'.mem = s.mem := by
  unfold execXcpSynch at hr
  exact xcpCmd_mem _ _ (by intros; first | (simp only [↓apply_ite State.mem, ite_self, ↓foldl_mem, implies_true, ↓reply_mem]; done) | ((repeat' split) <;> first | (simp only [↓apply_ite State.mem, ite_self, ↓foldl_mem, implies_true, ↓reply_mem]; done) | (simp only [↓apply_ite State.mem, ite_self, ↓foldl_mem, implies_true, ↓reply_mem]; (repeat' split) <;> first | (simp only [↓apply_ite State.mem, ite_self, ↓foldl_mem, implies_true, ↓reply_mem]; done) | rfl | grind [reply_mem]) | rfl | grind [reply_mem])) hr

theorem execXcpGetCommModeInfo_mem (s : State) {s' : State} (hr : execXcpGetCommModeInfo s = .next s') :
    s'.mem = s.mem := by
  unfold execXcpGetCommModeInfo at hr
  exact xcpCmd_mem _ _ (by intros; first | (simp only [↓apply_ite State.mem, ite_self, ↓foldl_mem, implies_true, ↓reply_mem]; done) | ((repeat' split) <;> first | (simp only [↓apply_ite State.mem, ite_self, ↓foldl_mem, implies_true, ↓reply_mem]; done) | (simp only [↓apply_ite State.mem, ite_self, ↓foldl_mem, implies_true, ↓reply_mem]; (repeat' split) <;> first | (simp only [↓apply_ite State.mem, ite_self, ↓foldl_mem, implies_true, ↓reply_mem]; done) | rfl | grind [reply_mem]) | rfl | grind [reply_mem])) hr

theorem setMta_mem (a : Nat) (s : State) :
    (setMta a s).mem = s.mem := by
  simp only [setMta, ↓apply_ite State.mem, ite_self, ↓foldl_mem, implies_true, ↓reply_mem, ↓setXcp_mem]

theorem execXcpSetMta_mem (addr : Word) (s : State) {s' : State} (hr : execXcpSetMta addr s = .next s') :
    s'.mem = s.mem := by
  unfold execXcpSetMta at hr
  exact xcpCmd_mem _ _ (by intros; first | (simp only [↓apply_ite State.mem, ite_self, ↓foldl_mem, implies_true, ↓setMta_mem]; done) | ((repeat' split) <;> first | (simp only [↓apply_ite State.mem, ite_self, ↓foldl_mem, implies_true, ↓setMta_mem]; done) | (simp only [↓apply_ite State.mem, ite_self, ↓foldl_mem, implies_true, ↓setMta_mem]; (repeat' split) <;> first | (simp only [↓apply_ite State.mem, ite_self, ↓foldl_mem, implies_true, ↓setMta_mem]; done) | rfl | grind [setMta_mem]) | rfl | grind [setMta_mem])) hr

theorem upload_mem (n : Nat) (s : State) :
    (upload n s).mem = s.mem := by
  simp only [upload, ↓apply_ite State.mem, ite_self, ↓foldl_mem, implies_true, ↓reply_mem, ↓setXcp_mem]; (repeat' split) <;> first | (simp only [↓apply_ite State.mem, ite_self, ↓foldl_mem, implies_true, ↓reply_mem, ↓setXcp_mem]; done) | (simp only [↓apply_ite State.mem, ite_self, ↓foldl_mem, implies_true, ↓reply_mem, ↓setXcp_mem]; (repeat' split) <;> first | (simp only [↓apply_ite State.mem, ite_self, ↓foldl_mem, implies_true, ↓reply_mem, ↓setXcp_mem]; done) | rfl | grind [reply_mem, setXcp_mem]) | rfl | grind [reply_mem, setXcp_mem]

theorem execXcpUpload_mem (n : Byte) (s : State) {s' : State} (hr : execXcpUpload n s = .next s') :
    s'.mem = s.mem := by
  unfold execXcpUpload at hr
  exact xcpCmd_mem _ _ (by intros; first | (simp only [↓apply_ite State.mem, ite_self, ↓foldl_mem, implies_true, ↓upload_mem]; done) | ((repeat' split) <;> first | (simp only [↓apply_ite State.mem, ite_self, ↓foldl_mem, implies_true, ↓upload_mem]; done) | (simp only [↓apply_ite State.mem, ite_self, ↓foldl_mem, implies_true, ↓upload_mem]; (repeat' split) <;> first | (simp only [↓apply_ite State.mem, ite_self, ↓foldl_mem, implies_true, ↓upload_mem]; done) | rfl | grind [upload_mem]) | rfl | grind [upload_mem])) hr

theorem execXcpShortUpload_mem (n : Byte) (addr : Word) (s : State) {s' : State} (hr : execXcpShortUpload n addr s = .next s') :
    s'.mem = s.mem := by
  unfold execXcpShortUpload at hr
  exact xcpCmd_mem _ _ (by intros; first | (simp only [↓apply_ite State.mem, ite_self, ↓foldl_mem, implies_true, ↓reply_mem, ↓setXcp_mem, ↓upload_mem]; done) | ((repeat' split) <;> first | (simp only [↓apply_ite State.mem, ite_self, ↓foldl_mem, implies_true, ↓reply_mem, ↓setXcp_mem, ↓upload_mem]; done) | (simp only [↓apply_ite State.mem, ite_self, ↓foldl_mem, implies_true, ↓reply_mem, ↓setXcp_mem, ↓upload_mem]; (repeat' split) <;> first | (simp only [↓apply_ite State.mem, ite_self, ↓foldl_mem, implies_true, ↓reply_mem, ↓setXcp_mem, ↓upload_mem]; done) | rfl | grind [reply_mem, setXcp_mem, upload_mem]) | rfl | grind [reply_mem, setXcp_mem, upload_mem])) hr

theorem execXcpGetCalPage_mem (mode : Byte) (s : State) {s' : State} (hr : execXcpGetCalPage mode s = .next s') :
    s'.mem = s.mem := by
  unfold execXcpGetCalPage at hr
  exact xcpCmd_mem _ _ (by intros; first | (simp only [↓apply_ite State.mem, ite_self, ↓foldl_mem, implies_true, ↓reply_mem]; done) | ((repeat' split) <;> first | (simp only [↓apply_ite State.mem, ite_self, ↓foldl_mem, implies_true, ↓reply_mem]; done) | (simp only [↓apply_ite State.mem, ite_self, ↓foldl_mem, implies_true, ↓reply_mem]; (repeat' split) <;> first | (simp only [↓apply_ite State.mem, ite_self, ↓foldl_mem, implies_true, ↓reply_mem]; done) | rfl | grind [reply_mem]) | rfl | grind [reply_mem])) hr

theorem setList_mem (s : State) (i : Nat) (l : DaqList) :
    (State.setList s i l).mem = s.mem := by
  simp only [State.setList, ↓apply_ite State.mem, ite_self, ↓foldl_mem, implies_true, ↓reply_mem, ↓set_mem, ↓setXcp_mem]

theorem execXcpFreeDaq_mem (s : State) {s' : State} (hr : execXcpFreeDaq s = .next s') :
    s'.mem = s.mem := by
  unfold execXcpFreeDaq at hr
  exact xcpCmd_mem _ _ (by intros; first | (simp only [↓apply_ite State.mem, ite_self, ↓foldl_mem, implies_true, ↓reply_mem, ↓setXcp_mem]; done) | ((repeat' split) <;> first | (simp only [↓apply_ite State.mem, ite_self, ↓foldl_mem, implies_true, ↓reply_mem, ↓setXcp_mem]; done) | (simp only [↓apply_ite State.mem, ite_self, ↓foldl_mem, implies_true, ↓reply_mem, ↓setXcp_mem]; (repeat' split) <;> first | (simp only [↓apply_ite State.mem, ite_self, ↓foldl_mem, implies_true, ↓reply_mem, ↓setXcp_mem]; done) | rfl | grind [reply_mem, setXcp_mem]) | rfl | grind [reply_mem, setXcp_mem])) hr

theorem execXcpAllocDaq_mem (count : BitVec 16) (s : State) {s' : State} (hr : execXcpAllocDaq count s = .next s') :
    s'.mem = s.mem := by
  unfold execXcpAllocDaq at hr
  exact xcpCmd_mem _ _ (by intros; first | (simp only [↓apply_ite State.mem, ite_self, ↓foldl_mem, implies_true, ↓reply_mem, ↓setXcp_mem]; done) | ((repeat' split) <;> first | (simp only [↓apply_ite State.mem, ite_self, ↓foldl_mem, implies_true, ↓reply_mem, ↓setXcp_mem]; done) | (simp only [↓apply_ite State.mem, ite_self, ↓foldl_mem, implies_true, ↓reply_mem, ↓setXcp_mem]; (repeat' split) <;> first | (simp only [↓apply_ite State.mem, ite_self, ↓foldl_mem, implies_true, ↓reply_mem, ↓setXcp_mem]; done) | rfl | grind [reply_mem, setXcp_mem]) | rfl | grind [reply_mem, setXcp_mem])) hr

theorem withList_mem (i : Nat) (f : DaqList → State → State) (s : State) (hf : ∀ v0 t, (f v0 t).mem = t.mem) :
    (withList i f s).mem = s.mem := by
  simp only [withList, ↓apply_ite State.mem, ite_self, ↓foldl_mem, implies_true, ↓reply_mem, hf]; (repeat' split) <;> first | (simp only [↓apply_ite State.mem, ite_self, ↓foldl_mem, implies_true, ↓reply_mem, hf]; done) | (simp only [↓apply_ite State.mem, ite_self, ↓foldl_mem, implies_true, ↓reply_mem, hf]; (repeat' split) <;> first | (simp only [↓apply_ite State.mem, ite_self, ↓foldl_mem, implies_true, ↓reply_mem, hf]; done) | rfl | grind [reply_mem]) | rfl | grind [reply_mem]

theorem execXcpAllocOdt_mem (list : BitVec 16) (count : Byte) (s : State) {s' : State} (hr : execXcpAllocOdt list count s = .next s') :
    s'.mem = s.mem := by
  unfold execXcpAllocOdt at hr
  exact xcpCmd_mem _ _ (by intros; first | (simp only [↓apply_ite State.mem, ite_self, ↓foldl_mem, implies_true, ↓setList_mem, ↓withList_mem]; done) | ((repeat' split) <;> first | (simp only [↓apply_ite State.mem, ite_self, ↓foldl_mem, implies_true, ↓setList_mem, ↓withList_mem]; done) | (simp only [↓apply_ite State.mem, ite_self, ↓foldl_mem, implies_true, ↓setList_mem, ↓withList_mem]; (repeat' split) <;> first | (simp only [↓apply_ite State.mem, ite_self, ↓foldl_mem, implies_true, ↓setList_mem, ↓withList_mem]; done) | rfl | grind [setList_mem, withList_mem]) | rfl | grind [setList_mem, withList_mem])) hr

theorem execXcpAllocOdtEntry_mem (list : BitVec 16) (odt : Byte) (count : Byte) (s : State) {s' : State} (hr : execXcpAllocOdtEntry list
    odt count s = .next s') :
    s'.mem = s.mem := by
  unfold execXcpAllocOdtEntry at hr
  exact xcpCmd_mem _ _ (by intros; first | (simp only [↓apply_ite State.mem, ite_self, ↓foldl_mem, implies_true, ↓reply_mem, ↓set_mem, ↓setList_mem, ↓withList_mem]; done) | ((repeat' split) <;> first | (simp only [↓apply_ite State.mem, ite_self, ↓foldl_mem, implies_true, ↓reply_mem, ↓set_mem, ↓setList_mem, ↓withList_mem]; done) | (simp only [↓apply_ite State.mem, ite_self, ↓foldl_mem, implies_true, ↓reply_mem, ↓set_mem, ↓setList_mem, ↓withList_mem]; (repeat' split) <;> first | (simp only [↓apply_ite State.mem, ite_self, ↓foldl_mem, implies_true, ↓reply_mem, ↓set_mem, ↓setList_mem, ↓withList_mem]; done) | rfl | grind [reply_mem, set_mem, setList_mem, withList_mem]) | rfl | grind [reply_mem, set_mem, setList_mem, withList_mem])) hr

theorem execXcpSetDaqPtr_mem (list : BitVec 16) (odt : Byte) (entry : Byte) (s : State) {s' : State} (hr : execXcpSetDaqPtr list odt
    entry s = .next s') :
    s'.mem = s.mem := by
  unfold execXcpSetDaqPtr at hr
  exact xcpCmd_mem _ _ (by intros; first | (simp only [↓apply_ite State.mem, ite_self, ↓foldl_mem, implies_true, ↓reply_mem, ↓setXcp_mem, ↓withList_mem]; done) | ((repeat' split) <;> first | (simp only [↓apply_ite State.mem, ite_self, ↓foldl_mem, implies_true, ↓reply_mem, ↓setXcp_mem, ↓withList_mem]; done) | (simp only [↓apply_ite State.mem, ite_self, ↓foldl_mem, implies_true, ↓reply_mem, ↓setXcp_mem, ↓withList_mem]; (repeat' split) <;> first | (simp only [↓apply_ite State.mem, ite_self, ↓foldl_mem, implies_true, ↓reply_mem, ↓setXcp_mem, ↓withList_mem]; done) | rfl | grind [reply_mem, setXcp_mem, withList_mem]) | rfl | grind [reply_mem, setXcp_mem, withList_mem])) hr

theorem execXcpWriteDaq_mem (size : Byte) (addr : Word) (s : State) {s' : State} (hr : execXcpWriteDaq size addr s = .next s') :
    s'.mem = s.mem := by
  unfold execXcpWriteDaq at hr
  exact xcpCmd_mem _ _ (by intros; first | (simp only [↓apply_ite State.mem, ite_self, ↓foldl_mem, implies_true, ↓reply_mem, ↓set_mem, ↓setList_mem, ↓setXcp_mem, ↓withList_mem]; done) | ((repeat' split) <;> first | (simp only [↓apply_ite State.mem, ite_self, ↓foldl_mem, implies_true, ↓reply_mem, ↓set_mem, ↓setList_mem, ↓setXcp_mem, ↓withList_mem]; done) | (simp only [↓apply_ite State.mem, ite_self, ↓foldl_mem, implies_true, ↓reply_mem, ↓set_mem, ↓setList_mem, ↓setXcp_mem, ↓withList_mem]; (repeat' split) <;> first | (simp only [↓apply_ite State.mem, ite_self, ↓foldl_mem, implies_true, ↓reply_mem, ↓set_mem, ↓setList_mem, ↓setXcp_mem, ↓withList_mem]; done) | rfl | grind [reply_mem, set_mem, setList_mem, setXcp_mem, withList_mem]) | rfl | grind [reply_mem, set_mem, setList_mem, setXcp_mem, withList_mem])) hr

theorem execXcpSetDaqListMode_mem (list : BitVec 16) (mode : Byte) (evch : BitVec 16) (prescaler : Byte) (prio : Byte) (s : State) {s' :
    State} (hr : execXcpSetDaqListMode list mode evch prescaler prio s = .next s') :
    s'.mem = s.mem := by
  unfold execXcpSetDaqListMode at hr
  exact xcpCmd_mem _ _ (by intros; first | (simp only [↓apply_ite State.mem, ite_self, ↓foldl_mem, implies_true, ↓reply_mem, ↓setList_mem, ↓withList_mem]; done) | ((repeat' split) <;> first | (simp only [↓apply_ite State.mem, ite_self, ↓foldl_mem, implies_true, ↓reply_mem, ↓setList_mem, ↓withList_mem]; done) | (simp only [↓apply_ite State.mem, ite_self, ↓foldl_mem, implies_true, ↓reply_mem, ↓setList_mem, ↓withList_mem]; (repeat' split) <;> first | (simp only [↓apply_ite State.mem, ite_self, ↓foldl_mem, implies_true, ↓reply_mem, ↓setList_mem, ↓withList_mem]; done) | rfl | grind [reply_mem, setList_mem, withList_mem]) | rfl | grind [reply_mem, setList_mem, withList_mem])) hr

end Sys2Proof.Machine
end

