-- ==== Sys2Proof/Laws/MemKept3.lean ====
section
/-! SUPPORT. Operations and meanings that leave every byte of memory as it was. -/

set_option maxRecDepth 4000
set_option linter.all false
namespace Sys2Proof.Machine
open Sys2Proof

theorem execXcpStartStopDaqList_mem (list : BitVec 16) (mode : Byte) (s : State) {s' : State} (hr : execXcpStartStopDaqList list mode s =
    .next s') :
    s'.mem = s.mem := by
  unfold execXcpStartStopDaqList at hr
  exact xcpCmd_mem _ _ (by intros; first | (simp only [↓apply_ite State.mem, ite_self, ↓foldl_mem, implies_true, ↓reply_mem, ↓setList_mem]; done) | ((repeat' split) <;> first | (simp only [↓apply_ite State.mem, ite_self, ↓foldl_mem, implies_true, ↓reply_mem, ↓setList_mem]; done) | (simp only [↓apply_ite State.mem, ite_self, ↓foldl_mem, implies_true, ↓reply_mem, ↓setList_mem]; (repeat' split) <;> first | (simp only [↓apply_ite State.mem, ite_self, ↓foldl_mem, implies_true, ↓reply_mem, ↓setList_mem]; done) | rfl | grind [reply_mem, setList_mem]) | rfl | grind [reply_mem, setList_mem])) hr

theorem execXcpStartStopSynch_mem (mode : Byte) (s : State) {s' : State} (hr : execXcpStartStopSynch mode s = .next s') :
    s'.mem = s.mem := by
  unfold execXcpStartStopSynch at hr
  exact xcpCmd_mem _ _ (by intros; first | (simp only [↓apply_ite State.mem, ite_self, ↓foldl_mem, implies_true, ↓reply_mem, ↓setXcp_mem]; done) | ((repeat' split) <;> first | (simp only [↓apply_ite State.mem, ite_self, ↓foldl_mem, implies_true, ↓reply_mem, ↓setXcp_mem]; done) | (simp only [↓apply_ite State.mem, ite_self, ↓foldl_mem, implies_true, ↓reply_mem, ↓setXcp_mem]; (repeat' split) <;> first | (simp only [↓apply_ite State.mem, ite_self, ↓foldl_mem, implies_true, ↓reply_mem, ↓setXcp_mem]; done) | rfl | grind [reply_mem, setXcp_mem]) | rfl | grind [reply_mem, setXcp_mem])) hr

theorem execXcpGetDaqProcessorInfo_mem (s : State) {s' : State} (hr : execXcpGetDaqProcessorInfo s = .next s') :
    s'.mem = s.mem := by
  unfold execXcpGetDaqProcessorInfo at hr
  exact xcpCmd_mem _ _ (by intros; first | (simp only [↓apply_ite State.mem, ite_self, ↓foldl_mem, implies_true, ↓reply_mem]; done) | ((repeat' split) <;> first | (simp only [↓apply_ite State.mem, ite_self, ↓foldl_mem, implies_true, ↓reply_mem]; done) | (simp only [↓apply_ite State.mem, ite_self, ↓foldl_mem, implies_true, ↓reply_mem]; (repeat' split) <;> first | (simp only [↓apply_ite State.mem, ite_self, ↓foldl_mem, implies_true, ↓reply_mem]; done) | rfl | grind [reply_mem]) | rfl | grind [reply_mem])) hr

theorem execXcpUnknownCommand_mem (code : Byte) (s : State) {s' : State} (hr : execXcpUnknownCommand code s = .next s') :
    s'.mem = s.mem := by
  unfold execXcpUnknownCommand at hr
  exact xcpCmd_mem _ _ (by intros; first | (simp only [↓apply_ite State.mem, ite_self, ↓foldl_mem, implies_true, ↓reply_mem]; done) | ((repeat' split) <;> first | (simp only [↓apply_ite State.mem, ite_self, ↓foldl_mem, implies_true, ↓reply_mem]; done) | (simp only [↓apply_ite State.mem, ite_self, ↓foldl_mem, implies_true, ↓reply_mem]; (repeat' split) <;> first | (simp only [↓apply_ite State.mem, ite_self, ↓foldl_mem, implies_true, ↓reply_mem]; done) | rfl | grind [reply_mem]) | rfl | grind [reply_mem])) hr

theorem firmwareLost_mem (p : Nat) (s : State) :
    (firmwareLost p s).mem = s.mem := by
  simp only [firmwareLost, ↓apply_ite State.mem, ite_self, ↓foldl_mem, implies_true]

theorem pairFault_mem (p : Nat) (code : Nat) (s : State) :
    (pairFault p code s).mem = s.mem := by
  simp only [pairFault, ↓apply_ite State.mem, ite_self, ↓foldl_mem, implies_true, ↓set_mem, ↓setPair_mem, ↓firmwareLost_mem, ↓issue_mem, ↓raise_mem, ↓updFault_mem]

theorem pairUncheck_mem (p : Nat) (code : Nat) (s : State) :
    (pairUncheck p code s).mem = s.mem := by
  simp only [pairUncheck, ↓apply_ite State.mem, ite_self, ↓foldl_mem, implies_true, ↓set_mem, ↓setKln_mem, ↓setPair_mem, ↓issue_mem, ↓raise_mem]

theorem pairRestart_mem (p : Nat) (s : State) :
    (pairRestart p s).mem = s.mem := by
  simp only [pairRestart, ↓apply_ite State.mem, ite_self, ↓foldl_mem, implies_true, ↓set_mem, ↓setPair_mem, ↓firmwareLost_mem]

theorem oltEnd_mem (result : Nat) (s : State) :
    (oltEnd result s).mem = s.mem := by
  simp only [oltEnd, ↓apply_ite State.mem, ite_self, ↓foldl_mem, implies_true, ↓bump_mem, ↓set_mem, ↓raise_mem]

theorem oltBegin_mem (kind : Nat) (target : Nat) (s : State) :
    (oltBegin kind target s).mem = s.mem := by
  simp only [oltBegin, ↓apply_ite State.mem, ite_self, ↓foldl_mem, implies_true, ↓set_mem]

theorem setMigr_mem (s : State) (p : Nat) (v : Nat) :
    (State.setMigr s p v).mem = s.mem := by
  simp only [State.setMigr, ↓apply_ite State.mem, ite_self, ↓foldl_mem, implies_true, ↓setUpd_mem]

theorem setWant_mem (s : State) (k : Nat) (v : Nat) :
    (State.setWant s k v).mem = s.mem := by
  simp only [State.setWant, ↓apply_ite State.mem, ite_self, ↓foldl_mem, implies_true, ↓setUpd_mem]

theorem handoverTag_mem (p : Nat) (value : Nat) (s : State) :
    (handoverTag p value s).mem = s.mem := by
  simp only [handoverTag, ↓apply_ite State.mem, ite_self, ↓foldl_mem, implies_true, ↓set_mem, ↓setMigr_mem, ↓setPair_mem, ↓firmwareLost_mem]

theorem handoverEnd_mem (p : Nat) (value : Nat) (s : State) :
    (handoverEnd p value s).mem = s.mem := by
  simp only [handoverEnd, ↓apply_ite State.mem, ite_self, ↓foldl_mem, implies_true, ↓set_mem, ↓setMigr_mem, ↓setWant_mem, ↓stepActive_mem]; (repeat' split) <;> first | (simp only [↓apply_ite State.mem, ite_self, ↓foldl_mem, implies_true, ↓set_mem, ↓setMigr_mem, ↓setWant_mem, ↓stepActive_mem]; done) | (simp only [↓apply_ite State.mem, ite_self, ↓foldl_mem, implies_true, ↓set_mem, ↓setMigr_mem, ↓setWant_mem, ↓stepActive_mem]; (repeat' split) <;> first | (simp only [↓apply_ite State.mem, ite_self, ↓foldl_mem, implies_true, ↓set_mem, ↓setMigr_mem, ↓setWant_mem, ↓stepActive_mem]; done) | rfl | grind [set_mem, setMigr_mem, setWant_mem, stepActive_mem]) | rfl | grind [set_mem, setMigr_mem, setWant_mem, stepActive_mem]

theorem spxDisarm_mem (p : Nat) (s : State) :
    (spxDisarm p s).mem = s.mem := by
  simp only [spxDisarm, ↓apply_ite State.mem, ite_self, ↓foldl_mem, implies_true, ↓set_mem]

theorem migrationTimeout_mem (p : Nat) (s : State) :
    (migrationTimeout p s).mem = s.mem := by
  simp only [migrationTimeout, ↓apply_ite State.mem, ite_self, ↓foldl_mem, implies_true, ↓setMigr_mem, ↓setWant_mem, ↓activateFail_mem, ↓pairRestart_mem]

theorem outOfOrder_mem (s : State) :
    (outOfOrder s).mem = s.mem := by
  simp only [outOfOrder, ↓apply_ite State.mem, ite_self, ↓foldl_mem, implies_true, ↓tndEnd_mem, ↓updReason_mem]

theorem updBegin_mem (x : Manifest) (s : State) :
    (updBegin x s).mem = s.mem := by
  simp only [updBegin, ↓apply_ite State.mem, ite_self, ↓foldl_mem, implies_true, ↓set_mem, ↓setJournal_mem, ↓setUpd_mem, ↓issue_mem, ↓outOfOrder_mem, ↓raise_mem, ↓tndEnd_mem, ↓updReason_mem, ↓updShowState_mem]; (repeat' split) <;> first | (simp only [↓apply_ite State.mem, ite_self, ↓foldl_mem, implies_true, ↓set_mem, ↓setJournal_mem, ↓setUpd_mem, ↓issue_mem, ↓outOfOrder_mem, ↓raise_mem, ↓tndEnd_mem, ↓updReason_mem, ↓updShowState_mem]; done) | (simp only [↓apply_ite State.mem, ite_self, ↓foldl_mem, implies_true, ↓set_mem, ↓setJournal_mem, ↓setUpd_mem, ↓issue_mem, ↓outOfOrder_mem, ↓raise_mem, ↓tndEnd_mem, ↓updReason_mem, ↓updShowState_mem]; (repeat' split) <;> first | (simp only [↓apply_ite State.mem, ite_self, ↓foldl_mem, implies_true, ↓set_mem, ↓setJournal_mem, ↓setUpd_mem, ↓issue_mem, ↓outOfOrder_mem, ↓raise_mem, ↓tndEnd_mem, ↓updReason_mem, ↓updShowState_mem]; done) | rfl | grind [set_mem, setJournal_mem, setUpd_mem, issue_mem, outOfOrder_mem, raise_mem, tndEnd_mem, updReason_mem, updShowState_mem]) | rfl | grind [set_mem, setJournal_mem, setUpd_mem, issue_mem, outOfOrder_mem, raise_mem, tndEnd_mem, updReason_mem, updShowState_mem]

theorem flashIdle_mem (s : State) :
    (flashIdle s).mem = s.mem := by
  simp only [flashIdle, ↓apply_ite State.mem, ite_self, ↓foldl_mem, implies_true, ↓set_mem, ↓setJournal_mem]

theorem prepareFor_mem (w : Nat) (t : Nat) (s : State) :
    (prepareFor w t s).mem = s.mem := by
  simp only [prepareFor, ↓apply_ite State.mem, ite_self, ↓foldl_mem, implies_true, ↓set_mem, ↓setWhorl_mem]

theorem journalClear_mem (s : State) :
    (journalClear s).mem = s.mem := by
  simp only [journalClear, ↓apply_ite State.mem, ite_self, ↓foldl_mem, implies_true, ↓setJournal_mem]

theorem statClear_mem (s : State) :
    (statClear s).mem = s.mem := by
  simp only [statClear, ↓apply_ite State.mem, ite_self, ↓foldl_mem, implies_true, ↓set_mem]

theorem revertDone_mem (s : State) :
    (revertDone s).mem = s.mem := by
  simp only [revertDone, ↓apply_ite State.mem, ite_self, ↓foldl_mem, implies_true, ↓setUpd_mem, ↓issue_mem, ↓journalClear_mem, ↓raise_mem, ↓statClear_mem, ↓tndEnd_mem]

theorem setTnd_mem (s : State) (x : TndSt) :
    (State.setTnd s x).mem = s.mem := by
  simp only [State.setTnd, ↓apply_ite State.mem, ite_self, ↓foldl_mem, implies_true]

theorem grantLevel_mem (level : Nat) (mb : Nat) (lifetime : Nat) (s : State) :
    (grantLevel level mb lifetime s).mem = s.mem := by
  simp only [grantLevel, ↓apply_ite State.mem, ite_self, ↓foldl_mem, implies_true, ↓set_mem, ↓setTnd_mem, ↓raise_mem]

theorem tndAnswer_mem (result : Nat) (out : List Byte) (s : State) :
    (tndAnswer result out s).mem = s.mem := by
  simp only [tndAnswer, ↓apply_ite State.mem, ite_self, ↓foldl_mem, implies_true, ↓setTnd_mem]; (repeat' split) <;> first | (simp only [↓apply_ite State.mem, ite_self, ↓foldl_mem, implies_true, ↓setTnd_mem]; done) | (simp only [↓apply_ite State.mem, ite_self, ↓foldl_mem, implies_true, ↓setTnd_mem]; (repeat' split) <;> first | (simp only [↓apply_ite State.mem, ite_self, ↓foldl_mem, implies_true, ↓setTnd_mem]; done) | rfl | grind [setTnd_mem]) | rfl | grind [setTnd_mem]

theorem challenge_mem (mb : Nat) (purpose : Nat) (lifetime : Nat) (argHash : Nat) (nonce : Nat) (s : State) :
    (challenge mb purpose lifetime argHash nonce s).mem = s.mem := by
  simp only [challenge, ↓apply_ite State.mem, ite_self, ↓foldl_mem, implies_true, ↓setTnd_mem, ↓tndAnswer_mem]

theorem authFailed_mem (mb : Nat) (result : Nat) (s : State) :
    (authFailed mb result s).mem = s.mem := by
  simp only [authFailed, ↓apply_ite State.mem, ite_self, ↓foldl_mem, implies_true, ↓setTnd_mem, ↓raise_mem, ↓tndAnswer_mem, ↓tndFault_mem]

theorem setFuse_mem (s : State) (f : FuseSt) :
    (State.setFuse s f).mem = s.mem := by
  simp only [State.setFuse, ↓apply_ite State.mem, ite_self, ↓foldl_mem, implies_true, ↓setTnd_mem]

theorem setPriv_mem (s : State) (p : PrivMram) :
    (State.setPriv s p).mem = s.mem := by
  simp only [State.setPriv, ↓apply_ite State.mem, ite_self, ↓foldl_mem, implies_true, ↓setTnd_mem]

theorem lcAdvance_mem (target : Nat) (copies : Nat) (erased : Bool) (s : State) :
    (lcAdvance target copies erased s).2.mem = s.mem := by
  simp only [lcAdvance, ↓apply_ite State.mem, ite_self, ↓foldl_mem, implies_true, ↓apply_ite Prod.snd, ↓apply_ite Prod.fst, ↓set_mem, ↓setFuse_mem, ↓setTnd_mem, ↓debugRevoke_mem, ↓raise_mem, ↓tndFault_mem, ↓tndShow_mem, ↓zeroise_mem]

theorem lockoutNow_mem (s : State) :
    (lockoutNow s).mem = s.mem := by
  simp only [lockoutNow, ↓apply_ite State.mem, ite_self, ↓foldl_mem, implies_true, ↓setPriv_mem]

theorem password_mem (mb : Nat) (hash : Nat) (s : State) :
    (password mb hash s).mem = s.mem := by
  simp only [password, ↓apply_ite State.mem, ite_self, ↓foldl_mem, implies_true, ↓setPriv_mem, ↓grantLevel_mem, ↓lockoutNow_mem, ↓raise_mem, ↓tndAnswer_mem, ↓tndFault_mem, ↓tndShow_mem]; (repeat' split) <;> first | (simp only [↓apply_ite State.mem, ite_self, ↓foldl_mem, implies_true, ↓setPriv_mem, ↓grantLevel_mem, ↓lockoutNow_mem, ↓raise_mem, ↓tndAnswer_mem, ↓tndFault_mem, ↓tndShow_mem]; done) | (simp only [↓apply_ite State.mem, ite_self, ↓foldl_mem, implies_true, ↓setPriv_mem, ↓grantLevel_mem, ↓lockoutNow_mem, ↓raise_mem, ↓tndAnswer_mem, ↓tndFault_mem, ↓tndShow_mem]; (repeat' split) <;> first | (simp only [↓apply_ite State.mem, ite_self, ↓foldl_mem, implies_true, ↓setPriv_mem, ↓grantLevel_mem, ↓lockoutNow_mem, ↓raise_mem, ↓tndAnswer_mem, ↓tndFault_mem, ↓tndShow_mem]; done) | rfl | grind [setPriv_mem, grantLevel_mem, lockoutNow_mem, raise_mem, tndAnswer_mem, tndFault_mem, tndShow_mem]) | rfl | grind [setPriv_mem, grantLevel_mem, lockoutNow_mem, raise_mem, tndAnswer_mem, tndFault_mem, tndShow_mem]

theorem testFailed_mem (s : State) :
    (testFailed s).mem = s.mem := by
  simp only [testFailed, ↓apply_ite State.mem, ite_self, ↓foldl_mem, implies_true, ↓setTnd_mem, ↓tndFault_mem]

theorem selfTest_mem (ok : Bool) (s : State) :
    (selfTest ok s).mem = s.mem := by
  simp only [selfTest, ↓apply_ite State.mem, ite_self, ↓foldl_mem, implies_true, ↓oltBegin_mem, ↓testFailed_mem, ↓tndAnswer_mem]

theorem selfTestEnd_mem (s : State) :
    (selfTestEnd s).mem = s.mem := by
  simp only [selfTestEnd, ↓apply_ite State.mem, ite_self, ↓foldl_mem, implies_true, ↓oltEnd_mem]; (repeat' split) <;> first | (simp only [↓apply_ite State.mem, ite_self, ↓foldl_mem, implies_true, ↓oltEnd_mem]; done) | (simp only [↓apply_ite State.mem, ite_self, ↓foldl_mem, implies_true, ↓oltEnd_mem]; (repeat' split) <;> first | (simp only [↓apply_ite State.mem, ite_self, ↓foldl_mem, implies_true, ↓oltEnd_mem]; done) | rfl | grind [oltEnd_mem]) | rfl | grind [oltEnd_mem]

theorem updCmd_mem (mb : Nat) (f : State → State) (s : State) (hf : ∀ t, (f t).mem = t.mem) :
    (updCmd mb f s).mem = s.mem := by
  simp only [updCmd, ↓apply_ite State.mem, ite_self, ↓foldl_mem, implies_true, ↓tndAnswer_mem, hf]

theorem dataOut_mem (mb : Nat) (out : List Byte) (s : State) :
    (dataOut mb out s).mem = s.mem := by
  simp only [dataOut, ↓apply_ite State.mem, ite_self, ↓foldl_mem, implies_true, ↓set_mem]

theorem execChallengeExpiry_mem (mb : Fin 3) (s : State) {s' : State} (hr : execChallengeExpiry mb s = .next s') :
    s'.mem = s.mem := by
  unfold execChallengeExpiry at hr
  injection hr with hr; subst hr; simp only [↓apply_ite State.mem, ite_self, ↓foldl_mem, implies_true, ↓setTnd_mem]

theorem execChallengeLockoutEnd_mem (mb : Fin 3) (s : State) {s' : State} (hr : execChallengeLockoutEnd mb s = .next s') :
    s'.mem = s.mem := by
  unfold execChallengeLockoutEnd at hr
  injection hr with hr; subst hr; simp only [↓apply_ite State.mem, ite_self, ↓foldl_mem, implies_true, ↓setTnd_mem]

theorem execHealthTestFail_mem (s : State) {s' : State} (hr : execHealthTestFail s = .next s') :
    s'.mem = s.mem := by
  unfold execHealthTestFail at hr
  injection hr with hr; subst hr; simp only [↓apply_ite State.mem, ite_self, ↓foldl_mem, implies_true, ↓setTnd_mem, ↓tndFault_mem]

theorem execSpxHandoverDisarm_mem (p : Fin 2) (s : State) {s' : State} (hr : execSpxHandoverDisarm p s = .next s') :
    s'.mem = s.mem := by
  unfold execSpxHandoverDisarm at hr
  injection hr with hr; subst hr; simp only [↓apply_ite State.mem, ite_self, ↓foldl_mem, implies_true, ↓spxDisarm_mem]

theorem execMigrationTimeout_mem (p : Fin 2) (s : State) {s' : State} (hr : execMigrationTimeout p s = .next s') :
    s'.mem = s.mem := by
  unfold execMigrationTimeout at hr
  injection hr with hr; subst hr; simp only [↓apply_ite State.mem, ite_self, ↓foldl_mem, implies_true, ↓migrationTimeout_mem]

theorem clkFault_mem (code : Nat) (s : State) :
    (clkFault code s).mem = s.mem := by
  simp only [clkFault, ↓apply_ite State.mem, ite_self, ↓foldl_mem, implies_true, ↓set_mem, ↓issue_mem]

theorem execXinLoss_mem (s : State) {s' : State} (hr : execXinLoss s = .next s') :
    s'.mem = s.mem := by
  unfold execXinLoss at hr
  injection hr with hr; subst hr; simp only [↓apply_ite State.mem, ite_self, ↓foldl_mem, implies_true, ↓set_mem, ↓clkFault_mem, ↓raise_mem]

theorem pllUnlock_mem (p : Nat) (s : State) :
    (pllUnlock p s).mem = s.mem := by
  simp only [pllUnlock, ↓apply_ite State.mem, ite_self, ↓foldl_mem, implies_true, ↓setBit_mem, ↓clkFault_mem, ↓raise_mem]

theorem execPllUnlock_mem (pll : Fin 4) (s : State) {s' : State} (hr : execPllUnlock pll s = .next s') :
    s'.mem = s.mem := by
  unfold execPllUnlock at hr
  injection hr with hr; subst hr; simp only [↓apply_ite State.mem, ite_self, ↓foldl_mem, implies_true, ↓pllUnlock_mem]

theorem execPllFrequencyWindow_mem (pll : Fin 4) (count : Nat) (s : State) {s' : State} (hr : execPllFrequencyWindow pll count s = .next
    s') :
    s'.mem = s.mem := by
  unfold execPllFrequencyWindow at hr
  injection hr with hr; subst hr; simp only [↓apply_ite State.mem, ite_self, ↓foldl_mem, implies_true, ↓setBit_mem, ↓clkFault_mem, ↓raise_mem]

theorem execTokenPeriodCheck_mem (period : BitVec 16) (s : State) {s' : State} (hr : execTokenPeriodCheck period s = .next s') :
    s'.mem = s.mem := by
  unfold execTokenPeriodCheck at hr
  injection hr with hr; subst hr; simp only [↓apply_ite State.mem, ite_self, ↓foldl_mem, implies_true, ↓set_mem, ↓clkFault_mem, ↓raise_mem]

theorem relock_mem (mask : Nat) (s : State) :
    (relock mask s).mem = s.mem := by
  simp only [relock, ↓apply_ite State.mem, ite_self, ↓foldl_mem, implies_true, ↓set_mem, ↓oltBegin_mem]

theorem execPllRelock_mem (m : Master) (mask : BitVec 4) (s : State) {s' : State} (hr : execPllRelock m mask s = .next s') :
    s'.mem = s.mem := by
  unfold execPllRelock at hr
  injection hr with hr; subst hr; simp only [↓apply_ite State.mem, ite_self, ↓foldl_mem, implies_true, ↓answer_mem, ↓busError_mem, ↓relock_mem]

theorem execPllRelockDone_mem (pll : Fin 4) (ok : Bool) (s : State) {s' : State} (hr : execPllRelockDone pll ok s = .next s') :
    s'.mem = s.mem := by
  unfold execPllRelockDone at hr
  injection hr with hr; subst hr; simp only [↓apply_ite State.mem, ite_self, ↓foldl_mem, implies_true, ↓set_mem, ↓oltEnd_mem, ↓pllUnlock_mem]

theorem execCrossingStale_mem (src : ClockSrc) (s : State) {s' : State} (hr : execCrossingStale src s = .next s') :
    s'.mem = s.mem := by
  unfold execCrossingStale at hr
  injection hr with hr; subst hr; simp only [↓apply_ite State.mem, ite_self, ↓foldl_mem, implies_true, ↓setBit_mem, ↓issue_mem, ↓raise_mem, ↓staleSrc_mem]

theorem execCrossingRecovered_mem (src : ClockSrc) (s : State) {s' : State} (hr : execCrossingRecovered src s = .next s') :
    s'.mem = s.mem := by
  unfold execCrossingRecovered at hr
  injection hr with hr; subst hr; simp only [↓apply_ite State.mem, ite_self, ↓foldl_mem, implies_true, ↓set_mem, ↓setBit_mem]

theorem tsLoRead_mem (s : State) :
    (tsLoRead s).mem = s.mem := by
  simp only [tsLoRead, ↓apply_ite State.mem, ite_self, ↓foldl_mem, implies_true, ↓answer_mem, ↓set_mem]

theorem execTsLoRead_mem (m : Master) (s : State) {s' : State} (hr : execTsLoRead m s = .next s') :
    s'.mem = s.mem := by
  unfold execTsLoRead at hr
  injection hr with hr; subst hr; simp only [↓apply_ite State.mem, ite_self, ↓foldl_mem, implies_true, ↓busError_mem, ↓tsLoRead_mem]

theorem execDebugLifetimeExpiry_mem (s : State) {s' : State} (hr : execDebugLifetimeExpiry s = .next s') :
    s'.mem = s.mem := by
  unfold execDebugLifetimeExpiry at hr
  injection hr with hr; subst hr; simp only [↓apply_ite State.mem, ite_self, ↓foldl_mem, implies_true, ↓debugRevoke_mem]

theorem execL2ConditionLoss_mem (s : State) {s' : State} (hr : execL2ConditionLoss s = .next s') :
    s'.mem = s.mem := by
  unfold execL2ConditionLoss at hr
  injection hr with hr; subst hr; simp only [↓apply_ite State.mem, ite_self, ↓foldl_mem, implies_true, ↓debugRevoke_mem]

theorem haltCore_mem (c : Nat) (v : Bool) (s : State) :
    (haltCore c v s).mem = s.mem := by
  simp only [haltCore, ↓apply_ite State.mem, ite_self, ↓foldl_mem, implies_true, ↓setBit_mem]

theorem coreHalt_mem (c : Nat) (s : State) :
    (coreHalt c s).mem = s.mem := by
  simp only [coreHalt, ↓apply_ite State.mem, ite_self, ↓foldl_mem, implies_true, ↓set_mem, ↓setBit_mem, ↓setPair_mem, ↓haltCore_mem, ↓raise_mem]; (repeat' split) <;> first | (simp only [↓apply_ite State.mem, ite_self, ↓foldl_mem, implies_true, ↓set_mem, ↓setBit_mem, ↓setPair_mem, ↓haltCore_mem, ↓raise_mem]; done) | (simp only [↓apply_ite State.mem, ite_self, ↓foldl_mem, implies_true, ↓set_mem, ↓setBit_mem, ↓setPair_mem, ↓haltCore_mem, ↓raise_mem]; (repeat' split) <;> first | (simp only [↓apply_ite State.mem, ite_self, ↓foldl_mem, implies_true, ↓set_mem, ↓setBit_mem, ↓setPair_mem, ↓haltCore_mem, ↓raise_mem]; done) | rfl | grind [set_mem, setBit_mem, setPair_mem, haltCore_mem, raise_mem]) | rfl | grind [set_mem, setBit_mem, setPair_mem, haltCore_mem, raise_mem]

theorem coreResume_mem (c : Nat) (s : State) :
    (coreResume c s).mem = s.mem := by
  simp only [coreResume, ↓apply_ite State.mem, ite_self, ↓foldl_mem, implies_true, ↓setBit_mem, ↓raise_mem, ↓resumePair_mem]

theorem reelHalt_mem (v : Bool) (s : State) :
    (reelHalt v s).mem = s.mem := by
  simp only [reelHalt, ↓apply_ite State.mem, ite_self, ↓foldl_mem, implies_true, ↓setB_mem, ↓raise_mem]

theorem execCoreHalt_mem (m : Master) (core : Fin 4) (s : State) {s' : State} (hr : execCoreHalt m core s = .next s') :
    s'.mem = s.mem := by
  unfold execCoreHalt at hr
  injection hr with hr; subst hr; simp only [↓apply_ite State.mem, ite_self, ↓foldl_mem, implies_true, ↓answer_mem, ↓busError_mem, ↓coreHalt_mem]

theorem execCoreResume_mem (m : Master) (core : Fin 4) (s : State) {s' : State} (hr : execCoreResume m core s = .next s') :
    s'.mem = s.mem := by
  unfold execCoreResume at hr
  injection hr with hr; subst hr; simp only [↓apply_ite State.mem, ite_self, ↓foldl_mem, implies_true, ↓answer_mem, ↓busError_mem, ↓coreResume_mem]

theorem execReelHalt_mem (m : Master) (s : State) {s' : State} (hr : execReelHalt m s = .next s') :
    s'.mem = s.mem := by
  unfold execReelHalt at hr
  injection hr with hr; subst hr; simp only [↓apply_ite State.mem, ite_self, ↓foldl_mem, implies_true, ↓answer_mem, ↓busError_mem, ↓reelHalt_mem]

theorem execReelResume_mem (m : Master) (s : State) {s' : State} (hr : execReelResume m s = .next s') :
    s'.mem = s.mem := by
  unfold execReelResume at hr
  injection hr with hr; subst hr; simp only [↓apply_ite State.mem, ite_self, ↓foldl_mem, implies_true, ↓answer_mem, ↓busError_mem, ↓reelHalt_mem]

theorem execResyncTimeout_mem (p : Fin 2) (s : State) {s' : State} (hr : execResyncTimeout p s = .next s') :
    s'.mem = s.mem := by
  unfold execResyncTimeout at hr
  injection hr with hr; subst hr; simp only [↓apply_ite State.mem, ite_self, ↓foldl_mem, implies_true, ↓pairFault_mem]

theorem jtagSelect_mem (r : Nat) (v : Nat) (s : State) :
    (jtagSelect r v s).mem = s.mem := by
  simp only [jtagSelect, ↓apply_ite State.mem, ite_self, ↓foldl_mem, implies_true]

theorem ballsFree_mem (s : State) :
    (ballsFree s).mem = s.mem := by
  simp only [ballsFree, ↓apply_ite State.mem, ite_self, ↓foldl_mem, implies_true]

theorem execIdcode_mem (s : State) {s' : State} (hr : execIdcode s = .next s') :
    s'.mem = s.mem := by
  unfold execIdcode at hr
  injection hr with hr; subst hr; simp only [↓apply_ite State.mem, ite_self, ↓foldl_mem, implies_true, ↓ballsFree_mem, ↓jtagSelect_mem]

theorem execBypass_mem (s : State) {s' : State} (hr : execBypass s = .next s') :
    s'.mem = s.mem := by
  unfold execBypass at hr
  injection hr with hr; subst hr; simp only [↓apply_ite State.mem, ite_self, ↓foldl_mem, implies_true, ↓ballsFree_mem, ↓jtagSelect_mem]

theorem execSamplePreload_mem (s : State) {s' : State} (hr : execSamplePreload s = .next s') :
    s'.mem = s.mem := by
  unfold execSamplePreload at hr
  injection hr with hr; subst hr; simp only [↓apply_ite State.mem, ite_self, ↓foldl_mem, implies_true, ↓ballsFree_mem, ↓jtagSelect_mem]

theorem execExtest_mem (pins : List (Fin 64 × Bool)) (s : State) {s' : State} (hr : execExtest pins s = .next s') :
    s'.mem = s.mem := by
  unfold execExtest at hr
  injection hr with hr; subst hr; simp only [↓apply_ite State.mem, ite_self, ↓foldl_mem, implies_true, ↓jtagSelect_mem]

theorem plyDeliver_mem (n : Nat) (s : State) :
    (plyDeliver n s).mem = s.mem := by
  simp only [plyDeliver, ↓apply_ite State.mem, ite_self, ↓foldl_mem, implies_true, ↓setBit_mem, ↓daqTrigger_mem, ↓reelEvent_mem, ↓traceEvent_mem]

theorem execEventDelivery_mem (n : Fin 256) (s : State) {s' : State} (hr : execEventDelivery n s = .next s') :
    s'.mem = s.mem := by
  unfold execEventDelivery at hr
  injection hr with hr; subst hr; simp only [↓apply_ite State.mem, ite_self, ↓foldl_mem, implies_true, ↓setXing_mem, ↓plyDeliver_mem]

theorem claimRead_mem (p : Nat) (s : State) :
    (claimRead p s).mem = s.mem := by
  simp only [claimRead, ↓apply_ite State.mem, ite_self, ↓foldl_mem, implies_true, ↓answer_mem, ↓setBit_mem, ↓setReel_mem]; (repeat' split) <;> first | (simp only [↓apply_ite State.mem, ite_self, ↓foldl_mem, implies_true, ↓answer_mem, ↓setBit_mem, ↓setReel_mem]; done) | (simp only [↓apply_ite State.mem, ite_self, ↓foldl_mem, implies_true, ↓answer_mem, ↓setBit_mem, ↓setReel_mem]; (repeat' split) <;> first | (simp only [↓apply_ite State.mem, ite_self, ↓foldl_mem, implies_true, ↓answer_mem, ↓setBit_mem, ↓setReel_mem]; done) | rfl | grind [answer_mem, setBit_mem, setReel_mem]) | rfl | grind [answer_mem, setBit_mem, setReel_mem]

theorem execEventClaim_mem (m : Master) (p : Fin 2) (s : State) {s' : State} (hr : execEventClaim m p s = .next s') :
    s'.mem = s.mem := by
  unfold execEventClaim at hr
  injection hr with hr; subst hr; simp only [↓apply_ite State.mem, ite_self, ↓foldl_mem, implies_true, ↓busError_mem, ↓claimRead_mem]

theorem execDaqTimerExpiry_mem (c : Fin 16) (s : State) {s' : State} (hr : execDaqTimerExpiry c s = .next s') :
    s'.mem = s.mem := by
  unfold execDaqTimerExpiry at hr
  injection hr with hr; subst hr; simp only [↓apply_ite State.mem, ite_self, ↓foldl_mem, implies_true, ↓daqTrigger_mem]

theorem oltRequest_mem (m : Master) (ok : Bool) (f : State → State) (s : State) (hf : ∀ t, (f t).mem = t.mem) :
    (oltRequest m ok f s).mem = s.mem := by
  simp only [oltRequest, ↓apply_ite State.mem, ite_self, ↓foldl_mem, implies_true, ↓answer_mem, ↓set_mem, ↓busError_mem, hf]

theorem logicTest_mem (p : Nat) (s : State) :
    (logicTest p s).mem = s.mem := by
  simp only [logicTest, ↓apply_ite State.mem, ite_self, ↓foldl_mem, implies_true, ↓set_mem, ↓setPair_mem, ↓firmwareLost_mem, ↓oltBegin_mem]

theorem execLogicSelfTest_mem (m : Master) (p : Fin 2) (s : State) {s' : State} (hr : execLogicSelfTest m p s = .next s') :
    s'.mem = s.mem := by
  unfold execLogicSelfTest at hr
  injection hr with hr; subst hr; simp only [↓apply_ite State.mem, ite_self, ↓foldl_mem, implies_true, ↓logicTest_mem, ↓oltRequest_mem]

theorem execSramMarch_mem (m : Master) (bank : Fin 16) (s : State) {s' : State} (hr : execSramMarch m bank s = .next s') :
    s'.mem = s.mem := by
  unfold execSramMarch at hr
  injection hr with hr; subst hr; simp only [↓apply_ite State.mem, ite_self, ↓foldl_mem, implies_true, ↓oltBegin_mem, ↓oltRequest_mem]

theorem execWhorlMarch_mem (m : Master) (w : Fin 8) (s : State) {s' : State} (hr : execWhorlMarch m w s = .next s') :
    s'.mem = s.mem := by
  unfold execWhorlMarch at hr
  injection hr with hr; subst hr; simp only [↓apply_ite State.mem, ite_self, ↓foldl_mem, implies_true, ↓oltBegin_mem, ↓oltRequest_mem]

theorem execOltPllRelock_mem (m : Master) (pll : Fin 4) (s : State) {s' : State} (hr : execOltPllRelock m pll s = .next s') :
    s'.mem = s.mem := by
  unfold execOltPllRelock at hr
  injection hr with hr; subst hr; simp only [↓apply_ite State.mem, ite_self, ↓foldl_mem, implies_true, ↓oltRequest_mem, ↓relock_mem]

theorem execOltTinderSelfTest_mem (m : Master) (ok : Bool) (s : State) {s' : State} (hr : execOltTinderSelfTest m ok s = .next s') :
    s'.mem = s.mem := by
  unfold execOltTinderSelfTest at hr
  injection hr with hr; subst hr; simp only [↓apply_ite State.mem, ite_self, ↓foldl_mem, implies_true, ↓oltBegin_mem, ↓oltRequest_mem]

theorem marchFailed_mem (words : List Nat) (s : State) :
    (marchFailed words s).mem = s.mem := by
  simp only [marchFailed, ↓apply_ite State.mem, ite_self, ↓foldl_mem, implies_true, ↓issue_mem, ↓poisonWord_mem]

theorem oltDone_mem (r : OltEnd) (s : State) :
    (oltDone r s).mem = s.mem := by
  simp only [oltDone, ↓apply_ite State.mem, ite_self, ↓foldl_mem, implies_true, ↓set_mem, ↓failWhorl_mem, ↓issue_mem, ↓marchFailed_mem, ↓oltEnd_mem, ↓pairRestart_mem, ↓poisonWord_mem, ↓testFailed_mem]; (repeat' split) <;> first | (simp only [↓apply_ite State.mem, ite_self, ↓foldl_mem, implies_true, ↓set_mem, ↓failWhorl_mem, ↓issue_mem, ↓marchFailed_mem, ↓oltEnd_mem, ↓pairRestart_mem, ↓poisonWord_mem, ↓testFailed_mem]; done) | (simp only [↓apply_ite State.mem, ite_self, ↓foldl_mem, implies_true, ↓set_mem, ↓failWhorl_mem, ↓issue_mem, ↓marchFailed_mem, ↓oltEnd_mem, ↓pairRestart_mem, ↓poisonWord_mem, ↓testFailed_mem]; (repeat' split) <;> first | (simp only [↓apply_ite State.mem, ite_self, ↓foldl_mem, implies_true, ↓set_mem, ↓failWhorl_mem, ↓issue_mem, ↓marchFailed_mem, ↓oltEnd_mem, ↓pairRestart_mem, ↓poisonWord_mem, ↓testFailed_mem]; done) | rfl | grind [set_mem, failWhorl_mem, issue_mem, marchFailed_mem, oltEnd_mem, pairRestart_mem, poisonWord_mem, testFailed_mem]) | rfl | grind [set_mem, failWhorl_mem, issue_mem, marchFailed_mem, oltEnd_mem, pairRestart_mem, poisonWord_mem, testFailed_mem]

theorem execOltTestDone_mem (r : OltEnd) (s : State) {s' : State} (hr : execOltTestDone r s = .next s') :
    s'.mem = s.mem := by
  unfold execOltTestDone at hr
  injection hr with hr; subst hr; simp only [↓apply_ite State.mem, ite_self, ↓foldl_mem, implies_true, ↓oltDone_mem]

theorem loopbackBegin_mem (n : Nat) (s : State) :
    (loopbackBegin n s).mem = s.mem := by
  simp only [loopbackBegin, ↓apply_ite State.mem, ite_self, ↓foldl_mem, implies_true, ↓setBit_mem]

theorem execCanLoopbackTest_mem (n : Fin 4) (s : State) {s' : State} (hr : execCanLoopbackTest n s = .next s') :
    s'.mem = s.mem := by
  unfold execCanLoopbackTest at hr
  injection hr with hr; subst hr; simp only [↓apply_ite State.mem, ite_self, ↓foldl_mem, implies_true, ↓loopbackBegin_mem]

theorem testRequest_mem (mask : Nat) (s : State) :
    (testRequest mask s).mem = s.mem := by
  simp only [testRequest, ↓apply_ite State.mem, ite_self, ↓foldl_mem, implies_true, ↓set_mem, ↓loopbackBegin_mem]

theorem execCanTestRequest_mem (m : Master) (mask : BitVec 4) (s : State) {s' : State} (hr : execCanTestRequest m mask s = .next s') :
    s'.mem = s.mem := by
  unfold execCanTestRequest at hr
  injection hr with hr; subst hr; simp only [↓apply_ite State.mem, ite_self, ↓foldl_mem, implies_true, ↓answer_mem, ↓busError_mem, ↓testRequest_mem]

theorem loopbackEnd_mem (n : Nat) (ok : Bool) (s : State) :
    (loopbackEnd n ok s).mem = s.mem := by
  simp only [loopbackEnd, ↓apply_ite State.mem, ite_self, ↓foldl_mem, implies_true, ↓setBit_mem, ↓setCan_mem, ↓canFail_mem, ↓setCanState_mem]

theorem execLoopbackTestEnd_mem (n : Fin 4) (ok : Bool) (s : State) {s' : State} (hr : execLoopbackTestEnd n ok s = .next s') :
    s'.mem = s.mem := by
  unfold execLoopbackTestEnd at hr
  injection hr with hr; subst hr; simp only [↓apply_ite State.mem, ite_self, ↓foldl_mem, implies_true, ↓loopbackEnd_mem]

theorem sliceResult_mem (m : Master) (v : Word) (s : State) :
    (sliceResult m v s).mem = s.mem := by
  simp only [sliceResult, ↓apply_ite State.mem, ite_self, ↓foldl_mem, implies_true, ↓set_mem, ↓issue_mem]

theorem execSwSliceResult_mem (m : Master) (value : Word) (s : State) {s' : State} (hr : execSwSliceResult m value s = .next s') :
    s'.mem = s.mem := by
  unfold execSwSliceResult at hr
  injection hr with hr; subst hr; simp only [↓apply_ite State.mem, ite_self, ↓foldl_mem, implies_true, ↓answer_mem, ↓busError_mem, ↓sliceResult_mem]

theorem codeWrite_mem (a : Nat) (v : Word) (s : State) :
    (codeWrite a v s).mem = s.mem := by
  simp only [codeWrite, ↓apply_ite State.mem, ite_self, ↓foldl_mem, implies_true, ↓wr_mem, ↓plainWrite_mem]

theorem codeWriteKeep_mem (mask : Nat) (a : Nat) (v : Word) (s : State) :
    (codeWriteKeep mask a v s).mem = s.mem := by
  simp only [codeWriteKeep, ↓apply_ite State.mem, ite_self, ↓foldl_mem, implies_true, ↓codeWrite_mem]

theorem enWrite_mem (a : Nat) (v : Word) (up : State → State) (down : State → State) (s : State) (hup : ∀ t,
    (up t).mem = t.mem) (hdown : ∀ t, (down t).mem = t.mem) :
    (enWrite a v up down s).mem = s.mem := by
  simp only [enWrite, ↓apply_ite State.mem, ite_self, ↓foldl_mem, implies_true, ↓codeWriteKeep_mem, hup, hdown]

theorem clkWrite_mem (o : Nat) (v : Word) (s : State) :
    (clkWrite o v s).mem = s.mem := by
  simp only [clkWrite, ↓apply_ite State.mem, ite_self, ↓foldl_mem, implies_true, ↓answer_mem, ↓codeWrite_mem, ↓relock_mem]

theorem memcWrite_mem (o : Nat) (v : Word) (s : State) :
    (memcWrite o v s).mem = s.mem := by
  simp only [memcWrite, ↓apply_ite State.mem, ite_self, ↓foldl_mem, implies_true, ↓answer_mem, ↓set_mem, ↓setXfer_mem, ↓codeWrite_mem, ↓enWrite_mem]

theorem spxWrite_mem (m : Master) (x : WriteCtx) (o : Nat) (v : Word) (s : State) :
    (spxWrite m x o v s).mem = s.mem := by
  simp only [spxWrite, ↓apply_ite State.mem, ite_self, ↓foldl_mem, implies_true, ↓answer_mem, ↓claimCommit_mem, ↓codeWrite_mem, ↓hbAnswer_mem, ↓kreqWrite_mem]; (repeat' split) <;> first | (simp only [↓apply_ite State.mem, ite_self, ↓foldl_mem, implies_true, ↓answer_mem, ↓claimCommit_mem, ↓codeWrite_mem, ↓hbAnswer_mem, ↓kreqWrite_mem]; done) | (simp only [↓apply_ite State.mem, ite_self, ↓foldl_mem, implies_true, ↓answer_mem, ↓claimCommit_mem, ↓codeWrite_mem, ↓hbAnswer_mem, ↓kreqWrite_mem]; (repeat' split) <;> first | (simp only [↓apply_ite State.mem, ite_self, ↓foldl_mem, implies_true, ↓answer_mem, ↓claimCommit_mem, ↓codeWrite_mem, ↓hbAnswer_mem, ↓kreqWrite_mem]; done) | rfl | grind [answer_mem, claimCommit_mem, codeWrite_mem, hbAnswer_mem, kreqWrite_mem]) | rfl | grind [answer_mem, claimCommit_mem, codeWrite_mem, hbAnswer_mem, kreqWrite_mem]

theorem cfgIgn_mem (k : Option Nat) (s : State) :
    (cfgIgn k s).mem = s.mem := by
  simp only [cfgIgn, ↓apply_ite State.mem, ite_self, ↓foldl_mem, implies_true, ↓set_mem]; (repeat' split) <;> first | (simp only [↓apply_ite State.mem, ite_self, ↓foldl_mem, implies_true, ↓set_mem]; done) | (simp only [↓apply_ite State.mem, ite_self, ↓foldl_mem, implies_true, ↓set_mem]; (repeat' split) <;> first | (simp only [↓apply_ite State.mem, ite_self, ↓foldl_mem, implies_true, ↓set_mem]; done) | rfl | grind [set_mem]) | rfl | grind [set_mem]

theorem flyCfg_mem (en : Bool) (k : Option Nat) (a : Nat) (v : Word) (s : State) :
    (flyCfg en k a v s).mem = s.mem := by
  simp only [flyCfg, ↓apply_ite State.mem, ite_self, ↓foldl_mem, implies_true, ↓cfgIgn_mem, ↓codeWrite_mem, ↓codeWriteKeep_mem]

theorem flyEn_mem (k : Option Nat) (a : Nat) (v : Word) (up : State → State) (down : State → State) (s : State) (hup : ∀ t,
    (up t).mem = t.mem) (hdown : ∀ t, (down t).mem = t.mem) :
    (flyEn k a v up down s).mem = s.mem := by
  simp only [flyEn, ↓apply_ite State.mem, ite_self, ↓foldl_mem, implies_true, ↓cfgIgn_mem, ↓codeWriteKeep_mem, ↓enWrite_mem, hup, hdown]

theorem flyWrite_mem (m : Master) (x : WriteCtx) (o : Nat) (v : Word) (s : State) :
    (flyWrite m x o v s).mem = s.mem := by
  simp only [flyWrite, ↓apply_ite State.mem, ite_self, ↓foldl_mem, implies_true, ↓answer_mem, ↓set_mem, ↓setEmf_mem, ↓cmpWrite_mem, ↓codeWrite_mem, ↓emuEnable_mem, ↓flyCfg_mem, ↓flyDisable_mem, ↓flyEn_mem, ↓machAcq_mem, ↓srcEnable_mem, ↓trkEnable_mem]

theorem afeWrite_mem (o : Nat) (v : Word) (s : State) :
    (afeWrite o v s).mem = s.mem := by
  simp only [afeWrite, ↓apply_ite State.mem, ite_self, ↓foldl_mem, implies_true, ↓answer_mem, ↓set_mem, ↓codeWrite_mem, ↓drainWindow_mem, ↓enWrite_mem, ↓markConflicts_mem, ↓refDisable_mem, ↓sliceCoefWrite_mem]

theorem pwmWrite_mem (o : Nat) (v : Word) (s : State) :
    (pwmWrite o v s).mem = s.mem := by
  simp only [pwmWrite, ↓apply_ite State.mem, ite_self, ↓foldl_mem, implies_true, ↓answer_mem, ↓set_mem, ↓codeWrite_mem, ↓enWrite_mem, ↓generatorDisable_mem]

theorem gifWrite_mem (m : Master) (o : Nat) (v : Word) (s : State) :
    (gifWrite m o v s).mem = s.mem := by
  simp only [gifWrite, ↓apply_ite State.mem, ite_self, ↓foldl_mem, implies_true, ↓answer_mem, ↓ascRequest_mem, ↓codeWrite_mem, ↓psetClear_mem, ↓ucgWrite_mem]; (repeat' split) <;> first | (simp only [↓apply_ite State.mem, ite_self, ↓foldl_mem, implies_true, ↓answer_mem, ↓ascRequest_mem, ↓codeWrite_mem, ↓psetClear_mem, ↓ucgWrite_mem]; done) | (simp only [↓apply_ite State.mem, ite_self, ↓foldl_mem, implies_true, ↓answer_mem, ↓ascRequest_mem, ↓codeWrite_mem, ↓psetClear_mem, ↓ucgWrite_mem]; (repeat' split) <;> first | (simp only [↓apply_ite State.mem, ite_self, ↓foldl_mem, implies_true, ↓answer_mem, ↓ascRequest_mem, ↓codeWrite_mem, ↓psetClear_mem, ↓ucgWrite_mem]; done) | rfl | grind [answer_mem, ascRequest_mem, codeWrite_mem, psetClear_mem, ucgWrite_mem]) | rfl | grind [answer_mem, ascRequest_mem, codeWrite_mem, psetClear_mem, ucgWrite_mem]

theorem actWrite_mem (o : Nat) (v : Word) (s : State) :
    (actWrite o v s).mem = s.mem := by
  simp only [actWrite, ↓apply_ite State.mem, ite_self, ↓foldl_mem, implies_true, ↓answer_mem, ↓bridgeModeWrite_mem, ↓codeWrite_mem, ↓codeWriteKeep_mem]

theorem cnvWrite_mem (m : Master) (o : Nat) (v : Word) (s : State) :
    (cnvWrite m o v s).mem = s.mem := by
  simp only [cnvWrite, ↓apply_ite State.mem, ite_self, ↓foldl_mem, implies_true, ↓answer_mem, ↓set_mem, ↓chClear_mem, ↓chDisable_mem, ↓chStart_mem, ↓codeWrite_mem, ↓codeWriteKeep_mem, ↓stopNow_mem, ↓telClear_mem]; (repeat' split) <;> first | (simp only [↓apply_ite State.mem, ite_self, ↓foldl_mem, implies_true, ↓answer_mem, ↓set_mem, ↓chClear_mem, ↓chDisable_mem, ↓chStart_mem, ↓codeWrite_mem, ↓codeWriteKeep_mem, ↓stopNow_mem, ↓telClear_mem]; done) | (simp only [↓apply_ite State.mem, ite_self, ↓foldl_mem, implies_true, ↓answer_mem, ↓set_mem, ↓chClear_mem, ↓chDisable_mem, ↓chStart_mem, ↓codeWrite_mem, ↓codeWriteKeep_mem, ↓stopNow_mem, ↓telClear_mem]; (repeat' split) <;> first | (simp only [↓apply_ite State.mem, ite_self, ↓foldl_mem, implies_true, ↓answer_mem, ↓set_mem, ↓chClear_mem, ↓chDisable_mem, ↓chStart_mem, ↓codeWrite_mem, ↓codeWriteKeep_mem, ↓stopNow_mem, ↓telClear_mem]; done) | rfl | grind [answer_mem, set_mem, chClear_mem, chDisable_mem, chStart_mem, codeWrite_mem, codeWriteKeep_mem, stopNow_mem, telClear_mem]) | rfl | grind [answer_mem, set_mem, chClear_mem, chDisable_mem, chStart_mem, codeWrite_mem, codeWriteKeep_mem, stopNow_mem, telClear_mem]

theorem chgWrite_mem (m : Master) (o : Nat) (v : Word) (s : State) :
    (chgWrite m o v s).mem = s.mem := by
  simp only [chgWrite, ↓apply_ite State.mem, ite_self, ↓foldl_mem, implies_true, ↓answer_mem, ↓wr_mem, ↓codeWrite_mem]

theorem busRegWrite_mem (m : Master) (o : Nat) (v : Word) (s : State) :
    (busRegWrite m o v s).mem = s.mem := by
  simp only [busRegWrite, ↓apply_ite State.mem, ite_self, ↓foldl_mem, implies_true, ↓answer_mem, ↓setCan_mem, ↓busError_mem, ↓canDisable_mem, ↓canEnable_mem, ↓canFlush_mem, ↓codeWrite_mem, ↓enWrite_mem, ↓txPush_mem]

theorem dbgWrite_mem (m : Master) (x : WriteCtx) (o : Nat) (v : Word) (s : State) :
    (dbgWrite m x o v s).mem = s.mem := by
  simp only [dbgWrite, ↓apply_ite State.mem, ite_self, ↓foldl_mem, implies_true, ↓answer_mem, ↓busError_mem, ↓codeWrite_mem, ↓coreHalt_mem, ↓coreResume_mem, ↓logicTest_mem, ↓oltBegin_mem, ↓oltRequest_mem, ↓reelHalt_mem, ↓relock_mem, ↓sliceResult_mem, ↓testRequest_mem]; (repeat' split) <;> first | (simp only [↓apply_ite State.mem, ite_self, ↓foldl_mem, implies_true, ↓answer_mem, ↓busError_mem, ↓codeWrite_mem, ↓coreHalt_mem, ↓coreResume_mem, ↓logicTest_mem, ↓oltBegin_mem, ↓oltRequest_mem, ↓reelHalt_mem, ↓relock_mem, ↓sliceResult_mem, ↓testRequest_mem]; done) | (simp only [↓apply_ite State.mem, ite_self, ↓foldl_mem, implies_true, ↓answer_mem, ↓busError_mem, ↓codeWrite_mem, ↓coreHalt_mem, ↓coreResume_mem, ↓logicTest_mem, ↓oltBegin_mem, ↓oltRequest_mem, ↓reelHalt_mem, ↓relock_mem, ↓sliceResult_mem, ↓testRequest_mem]; (repeat' split) <;> first | (simp only [↓apply_ite State.mem, ite_self, ↓foldl_mem, implies_true, ↓answer_mem, ↓busError_mem, ↓codeWrite_mem, ↓coreHalt_mem, ↓coreResume_mem, ↓logicTest_mem, ↓oltBegin_mem, ↓oltRequest_mem, ↓reelHalt_mem, ↓relock_mem, ↓sliceResult_mem, ↓testRequest_mem]; done) | rfl | grind [answer_mem, busError_mem, codeWrite_mem, coreHalt_mem, coreResume_mem, logicTest_mem, oltBegin_mem, oltRequest_mem, reelHalt_mem, relock_mem, sliceResult_mem, testRequest_mem]) | rfl | grind [answer_mem, busError_mem, codeWrite_mem, coreHalt_mem, coreResume_mem, logicTest_mem, oltBegin_mem, oltRequest_mem, reelHalt_mem, relock_mem, sliceResult_mem, testRequest_mem]

theorem embWrite_mem (m : Master) (o : Nat) (v : Word) (s : State) :
    (embWrite m o v s).mem = s.mem := by
  simp only [embWrite, ↓apply_ite State.mem, ite_self, ↓foldl_mem, implies_true, ↓answer_mem, ↓codeWrite_mem, ↓refreshArmed_mem, ↓rtcAlarmWrite_mem, ↓rtcSecWrite_mem]

theorem refreshLive_mem (a : Nat) (s : State) :
    (refreshLive a s).mem = s.mem := by
  simp only [refreshLive, ↓apply_ite State.mem, ite_self, ↓foldl_mem, implies_true, ↓set_mem, ↓setB_mem]

theorem codeRead_mem (a : Nat) (s : State) :
    (codeRead a s).mem = s.mem := by
  simp only [codeRead, ↓apply_ite State.mem, ite_self, ↓foldl_mem, implies_true, ↓answer_mem, ↓wr_mem]

theorem regRead_mem (m : Master) (a : Nat) (size : Nat) (synd : Syndrome) (s : State) :
    (regRead m a size synd s).mem = s.mem := by
  simp only [regRead, ↓apply_ite State.mem, ite_self, ↓foldl_mem, implies_true, ↓busError_mem, ↓claimRead_mem, ↓codeRead_mem, ↓encCapture_mem, ↓memRead_mem, ↓refreshLive_mem, ↓tsLoRead_mem]

theorem execRegisterRead_mem (m : Master) (addr : Word) (size : Fin 9) (s : State) {s' : State} (hr : execRegisterRead m addr size s =
    .next s') :
    s'.mem = s.mem := by
  unfold execRegisterRead at hr
  injection hr with hr; subst hr; simp only [↓apply_ite State.mem, ite_self, ↓foldl_mem, implies_true, ↓regRead_mem]

theorem flashRead_mem (m : Master) (a : Nat) (size : Nat) (synd : Syndrome) (s : State) :
    (flashRead m a size synd s).mem = s.mem := by
  simp only [flashRead, ↓apply_ite State.mem, ite_self, ↓foldl_mem, implies_true, ↓answer_mem, ↓bump_mem, ↓busError_mem, ↓flashReadError_mem]

theorem dictRead_mem (m : Master) (a : Nat) (size : Nat) (s : State) :
    (dictRead m a size s).mem = s.mem := by
  simp only [dictRead, ↓apply_ite State.mem, ite_self, ↓foldl_mem, implies_true, ↓answer_mem, ↓busError_mem]; (repeat' split) <;> first | (simp only [↓apply_ite State.mem, ite_self, ↓foldl_mem, implies_true, ↓answer_mem, ↓busError_mem]; done) | (simp only [↓apply_ite State.mem, ite_self, ↓foldl_mem, implies_true, ↓answer_mem, ↓busError_mem]; (repeat' split) <;> first | (simp only [↓apply_ite State.mem, ite_self, ↓foldl_mem, implies_true, ↓answer_mem, ↓busError_mem]; done) | rfl | grind [answer_mem, busError_mem]) | rfl | grind [answer_mem, busError_mem]

theorem busRead_mem (m : Master) (addr : Nat) (size : Nat) (synd : Syndrome) (s : State) :
    (busRead m addr size synd s).mem = s.mem := by
  simp only [busRead, ↓apply_ite State.mem, ite_self, ↓foldl_mem, implies_true, ↓dictRead_mem, ↓flashRead_mem, ↓memRead_mem, ↓regRead_mem]

theorem execMemoryRead_mem (m : Master) (addr : Word) (size : Fin 9) (synd : Syndrome) (s : State) {s' : State} (hr : execMemoryRead m
    addr size synd s = .next s') :
    s'.mem = s.mem := by
  unfold execMemoryRead at hr
  injection hr with hr; subst hr; simp only [↓apply_ite State.mem, ite_self, ↓foldl_mem, implies_true, ↓busRead_mem]

theorem releaseRefused_mem (reason : Nat) (s : State) :
    (releaseRefused reason s).mem = s.mem := by
  simp only [releaseRefused, ↓apply_ite State.mem, ite_self, ↓foldl_mem, implies_true, ↓setKln_mem, ↓raise_mem]

theorem execKlnclkWatchdog_mem (s : State) {s' : State} (hr : execKlnclkWatchdog s = .next s') :
    s'.mem = s.mem := by
  unfold execKlnclkWatchdog at hr
  injection hr with hr; subst hr; simp only [↓apply_ite State.mem, ite_self, ↓foldl_mem, implies_true, ↓setKln_mem, ↓kilnDrive_mem, ↓kilnRecord_mem, ↓raise_mem, ↓tellControl_mem]

theorem faultAt_mem (p : Nat) (code : Nat) (a : Nat) (s : State) :
    (faultAt p code a s).mem = s.mem := by
  simp only [faultAt, ↓apply_ite State.mem, ite_self, ↓foldl_mem, implies_true, ↓set_mem, ↓migrationTimeout_mem, ↓pairFault_mem]

theorem noteDepth_mem (p : Nat) (depth : Nat) (a : Nat) (s : State) :
    (noteDepth p depth a s).mem = s.mem := by
  simp only [noteDepth, ↓apply_ite State.mem, ite_self, ↓foldl_mem, implies_true, ↓set_mem, ↓faultAt_mem]

theorem enterRec_mem (c : Core) (r : PRec) (s : State) :
    (enterRec c r s).mem = s.mem := by
  simp only [enterRec, ↓apply_ite State.mem, ite_self, ↓foldl_mem, implies_true, ↓setPair_mem, ↓noteDepth_mem]

theorem syncAdd_mem (c : Core) (r : PRec) (s : State) :
    (syncAdd c r s).mem = s.mem := by
  simp only [syncAdd, ↓apply_ite State.mem, ite_self, ↓foldl_mem, implies_true, ↓setPair_mem]

theorem syncAt_mem (p : Nat) (v : Nat) (s : State) :
    (syncAt p v s).mem = s.mem := by
  simp only [syncAt, ↓apply_ite State.mem, ite_self, ↓foldl_mem, implies_true, ↓set_mem, ↓setPair_mem]; (repeat' split) <;> first | (simp only [↓apply_ite State.mem, ite_self, ↓foldl_mem, implies_true, ↓set_mem, ↓setPair_mem]; done) | (simp only [↓apply_ite State.mem, ite_self, ↓foldl_mem, implies_true, ↓set_mem, ↓setPair_mem]; (repeat' split) <;> first | (simp only [↓apply_ite State.mem, ite_self, ↓foldl_mem, implies_true, ↓set_mem, ↓setPair_mem]; done) | rfl | grind [set_mem, setPair_mem]) | rfl | grind [set_mem, setPair_mem]

theorem pairInput_mem (c : Core) (a : Nat) (n : Nat) (read : State → State) (s : State) (hread : ∀ t, (read t).mem = t.mem) :
    (pairInput c a n read s).mem = s.mem := by
  simp only [pairInput, ↓apply_ite State.mem, ite_self, ↓foldl_mem, implies_true, ↓answer_mem, ↓setPair_mem, ↓faultAt_mem, ↓noteDepth_mem, hread]; (repeat' split) <;> first | (simp only [↓apply_ite State.mem, ite_self, ↓foldl_mem, implies_true, ↓answer_mem, ↓setPair_mem, ↓faultAt_mem, ↓noteDepth_mem, hread]; done) | (simp only [↓apply_ite State.mem, ite_self, ↓foldl_mem, implies_true, ↓answer_mem, ↓setPair_mem, ↓faultAt_mem, ↓noteDepth_mem, hread]; (repeat' split) <;> first | (simp only [↓apply_ite State.mem, ite_self, ↓foldl_mem, implies_true, ↓answer_mem, ↓setPair_mem, ↓faultAt_mem, ↓noteDepth_mem, hread]; done) | rfl | grind [answer_mem, setPair_mem, faultAt_mem, noteDepth_mem]) | rfl | grind [answer_mem, setPair_mem, faultAt_mem, noteDepth_mem]

theorem inputLoad_mem (c : Core) (x : CoreInput) (s : State) :
    (inputLoad c x s).mem = s.mem := by
  simp only [inputLoad, ↓apply_ite State.mem, ite_self, ↓foldl_mem, implies_true, ↓answer_mem, ↓busRead_mem, ↓pairInput_mem]; (repeat' split) <;> first | (simp only [↓apply_ite State.mem, ite_self, ↓foldl_mem, implies_true, ↓answer_mem, ↓busRead_mem, ↓pairInput_mem]; done) | (simp only [↓apply_ite State.mem, ite_self, ↓foldl_mem, implies_true, ↓answer_mem, ↓busRead_mem, ↓pairInput_mem]; (repeat' split) <;> first | (simp only [↓apply_ite State.mem, ite_self, ↓foldl_mem, implies_true, ↓answer_mem, ↓busRead_mem, ↓pairInput_mem]; done) | rfl | grind [answer_mem, busRead_mem, pairInput_mem]) | rfl | grind [answer_mem, busRead_mem, pairInput_mem]

theorem execPairInputLoad_mem (core : Core) (x : CoreInput) (s : State) {s' : State} (hr : execPairInputLoad core x s = .next s') :
    s'.mem = s.mem := by
  unfold execPairInputLoad at hr
  injection hr with hr; subst hr; simp only [↓apply_ite State.mem, ite_self, ↓foldl_mem, implies_true, ↓inputLoad_mem]

theorem checkpoint_mem (c : Core) (r : PRec) (s : State) :
    (checkpoint c r s).mem = s.mem := by
  simp only [checkpoint, ↓apply_ite State.mem, ite_self, ↓foldl_mem, implies_true, ↓enterRec_mem, ↓syncAdd_mem, ↓syncAt_mem]; (repeat' split) <;> first | (simp only [↓apply_ite State.mem, ite_self, ↓foldl_mem, implies_true, ↓enterRec_mem, ↓syncAdd_mem, ↓syncAt_mem]; done) | (simp only [↓apply_ite State.mem, ite_self, ↓foldl_mem, implies_true, ↓enterRec_mem, ↓syncAdd_mem, ↓syncAt_mem]; (repeat' split) <;> first | (simp only [↓apply_ite State.mem, ite_self, ↓foldl_mem, implies_true, ↓enterRec_mem, ↓syncAdd_mem, ↓syncAt_mem]; done) | rfl | grind [enterRec_mem, syncAdd_mem, syncAt_mem]) | rfl | grind [enterRec_mem, syncAdd_mem, syncAt_mem]

theorem execCheckpointWrite_mem (core : Core) (value : Word) (sig : BitVec 64) (s : State) {s' : State} (hr : execCheckpointWrite core
    value sig s = .next s') :
    s'.mem = s.mem := by
  unfold execCheckpointWrite at hr
  injection hr with hr; subst hr; simp only [↓apply_ite State.mem, ite_self, ↓foldl_mem, implies_true, ↓checkpoint_mem]

theorem execForcedCheckpoint_mem (core : Core) (sig : BitVec 64) (s : State) {s' : State} (hr : execForcedCheckpoint core sig s = .next
    s') :
    s'.mem = s.mem := by
  unfold execForcedCheckpoint at hr
  injection hr with hr; subst hr; simp only [↓apply_ite State.mem, ite_self, ↓foldl_mem, implies_true, ↓checkpoint_mem]

theorem execPairEventDelivery_mem (core : Core) (ev : Fin 256) (count : Nat) (s : State) {s' : State} (hr : execPairEventDelivery core ev
    count s = .next s') :
    s'.mem = s.mem := by
  unfold execPairEventDelivery at hr
  injection hr with hr; subst hr; simp only [↓apply_ite State.mem, ite_self, ↓foldl_mem, implies_true, ↓setPair_mem]; (repeat' split) <;> first | (simp only [↓apply_ite State.mem, ite_self, ↓foldl_mem, implies_true, ↓setPair_mem]; done) | (simp only [↓apply_ite State.mem, ite_self, ↓foldl_mem, implies_true, ↓setPair_mem]; (repeat' split) <;> first | (simp only [↓apply_ite State.mem, ite_self, ↓foldl_mem, implies_true, ↓setPair_mem]; done) | rfl | grind [setPair_mem]) | rfl | grind [setPair_mem]

theorem execPairLagTimeout_mem (p : Fin 2) (s : State) {s' : State} (hr : execPairLagTimeout p s = .next s') :
    s'.mem = s.mem := by
  unfold execPairLagTimeout at hr
  injection hr with hr; subst hr; (repeat' split) <;> first | (simp only [↓apply_ite State.mem, ite_self, ↓foldl_mem, implies_true, ↓faultAt_mem]; done) | (simp only [↓apply_ite State.mem, ite_self, ↓foldl_mem, implies_true, ↓faultAt_mem]; (repeat' split) <;> first | (simp only [↓apply_ite State.mem, ite_self, ↓foldl_mem, implies_true, ↓faultAt_mem]; done) | rfl | grind [faultAt_mem]) | rfl | grind [faultAt_mem]

theorem setSensor_mem (s : State) (i : Nat) (x : SensorSt) :
    (State.setSensor s i x).mem = s.mem := by
  simp only [State.setSensor, ↓apply_ite State.mem, ite_self, ↓foldl_mem, implies_true]

theorem setRule_mem (s : State) (r : Nat) (x : RuleSt) :
    (State.setRule s r x).mem = s.mem := by
  simp only [State.setRule, ↓apply_ite State.mem, ite_self, ↓foldl_mem, implies_true]

theorem sensorSample_mem (i : Nat) (ok : Bool) (value : Int) (s : State) :
    (sensorSample i ok value s).mem = s.mem := by
  simp only [sensorSample, ↓apply_ite State.mem, ite_self, ↓foldl_mem, implies_true, ↓set_mem, ↓setB_mem, ↓setI_mem, ↓setSensor_mem, ↓issue_mem, ↓raise_mem]; (repeat' split) <;> first | (simp only [↓apply_ite State.mem, ite_self, ↓foldl_mem, implies_true, ↓set_mem, ↓setB_mem, ↓setI_mem, ↓setSensor_mem, ↓issue_mem, ↓raise_mem]; done) | (simp only [↓apply_ite State.mem, ite_self, ↓foldl_mem, implies_true, ↓set_mem, ↓setB_mem, ↓setI_mem, ↓setSensor_mem, ↓issue_mem, ↓raise_mem]; (repeat' split) <;> first | (simp only [↓apply_ite State.mem, ite_self, ↓foldl_mem, implies_true, ↓set_mem, ↓setB_mem, ↓setI_mem, ↓setSensor_mem, ↓issue_mem, ↓raise_mem]; done) | rfl | grind [set_mem, setB_mem, setI_mem, setSensor_mem, issue_mem, raise_mem]) | rfl | grind [set_mem, setB_mem, setI_mem, setSensor_mem, issue_mem, raise_mem]

theorem execSensorSample_mem (sensor : Fin 36) (ok : Bool) (value : Int) (s : State) {s' : State} (hr : execSensorSample sensor ok value
    s = .next s') :
    s'.mem = s.mem := by
  unfold execSensorSample at hr
  injection hr with hr; subst hr; simp only [↓apply_ite State.mem, ite_self, ↓foldl_mem, implies_true, ↓sensorSample_mem]

theorem execDieHardLimit_mem (sensor : Fin 36) (s : State) {s' : State} (hr : execDieHardLimit sensor s = .next s') :
    s'.mem = s.mem := by
  unfold execDieHardLimit at hr
  injection hr with hr; subst hr; simp only [↓apply_ite State.mem, ite_self, ↓foldl_mem, implies_true, ↓emrEnd_mem, ↓issue_mem]

theorem publish_mem (i : Nat) (f : Nat) (s : State) :
    (publish i f s).mem = s.mem := by
  simp only [publish, ↓apply_ite State.mem, ite_self, ↓foldl_mem, implies_true, ↓set_mem, ↓raise_mem]

theorem targetEval_mem (i : Nat) (s : State) :
    (targetEval i s).mem = s.mem := by
  simp only [targetEval, ↓apply_ite State.mem, ite_self, ↓foldl_mem, implies_true, ↓publish_mem]

theorem bandChange_mem (b : Nat) (k : Nat) (s : State) :
    (bandChange b k s).mem = s.mem := by
  simp only [bandChange, ↓apply_ite State.mem, ite_self, ↓foldl_mem, implies_true, ↓set_mem, ↓raise_mem]

theorem bandEval_mem (b : Nat) (s : State) :
    (bandEval b s).mem = s.mem := by
  simp only [bandEval, ↓apply_ite State.mem, ite_self, ↓foldl_mem, implies_true, ↓set_mem, ↓bandChange_mem]; (repeat' split) <;> first | (simp only [↓apply_ite State.mem, ite_self, ↓foldl_mem, implies_true, ↓set_mem, ↓bandChange_mem]; done) | (simp only [↓apply_ite State.mem, ite_self, ↓foldl_mem, implies_true, ↓set_mem, ↓bandChange_mem]; (repeat' split) <;> first | (simp only [↓apply_ite State.mem, ite_self, ↓foldl_mem, implies_true, ↓set_mem, ↓bandChange_mem]; done) | rfl | grind [set_mem, bandChange_mem]) | rfl | grind [set_mem, bandChange_mem]

theorem execFactorRiseStep_mem (target : Fin 8) (s : State) {s' : State} (hr : execFactorRiseStep target s = .next s') :
    s'.mem = s.mem := by
  unfold execFactorRiseStep at hr
  injection hr with hr; subst hr; simp only [↓apply_ite State.mem, ite_self, ↓foldl_mem, implies_true, ↓publish_mem]

theorem tsTick_mem (s : State) :
    (tsTick s).mem = s.mem := by
  simp only [tsTick, ↓apply_ite State.mem, ite_self, ↓foldl_mem, implies_true]

theorem withFetchWord_mem (s : State) (nbits : Nat) (w : Nat) :
    (State.withFetchWord s nbits w).mem = s.mem := by
  simp only [State.withFetchWord, ↓apply_ite State.mem, ite_self, ↓foldl_mem, implies_true]; (repeat' split) <;> first | (simp only [↓apply_ite State.mem, ite_self, ↓foldl_mem, implies_true]; done) | (simp only [↓apply_ite State.mem, ite_self, ↓foldl_mem, implies_true]; (repeat' split) <;> first | (simp only [↓apply_ite State.mem, ite_self, ↓foldl_mem, implies_true]; done) | rfl | grind) | rfl | grind

end Sys2Proof.Machine
end

