-- ==== Sys2Proof/Laws/MemWf1.lean ====
section
/-! SUPPORT. Operations and meanings that may change memory keep its canonical form. -/

set_option maxRecDepth 4000
set_option linter.all false
namespace Sys2Proof.Machine
open Sys2Proof

theorem setByte_wf (s : State) (a : Nat) (b : Byte) (hw : Memory.wf s.mem) :
    Memory.wf (State.setByte s a b).mem := SMap.put_wf (fun _ => 0) s.mem a b hw

theorem setBytes_wf (s : State) (a : Nat) (y2 : List Byte) (hw : Memory.wf s.mem) :
    Memory.wf (State.setBytes s a y2).mem := by
  induction y2 generalizing s a with
  | nil => exact hw
  | cons b r ih => exact ih _ _ (setByte_wf _ _ _ hw)

theorem store_wf (s : State) (a : Nat) (n : Nat) (v : Nat) (hw : Memory.wf s.mem) :
    Memory.wf (State.store s a n v).mem := by
  simp only [State.store]; (repeat' (first | with_reducible exact hw | with_reducible assumption | with_reducible apply setBytes_wf | with_reducible refine foldl_wf _ ?_ _ _ ?_ | (intro _; intros) | split | (dsimp only)))

theorem memWrite_wf (m : Master) (a : Nat) (size : Nat) (v : Nat) (synd : Syndrome) (s : State) (hw : Memory.wf s.mem) :
    Memory.wf (memWrite m a size v synd s).mem := by
  simp only [memWrite]; (repeat' (first | with_reducible exact hw | with_reducible assumption | with_reducible apply store_wf | with_reducible refine foldl_wf _ ?_ _ _ ?_ | (intro _; intros) | split | simp only [apply_ite Prod.snd, apply_ite Prod.fst, ↓answer_mem, ↓busError_mem, ↓cleanWord_mem, ↓readWord_mem] | (dsimp only))) <;> grind [answer_mem, busError_mem, cleanWord_mem, readWord_mem, store_wf]

theorem copyBeats_wf (src : Nat) (dst : Nat) (y2 : Nat) (y3 : Nat) (y4 : State) (hw : Memory.wf y4.mem) :
    Memory.wf (copyBeats src dst y2 y3 y4).2.mem := by
  induction y2 generalizing y3 y4 with
  | zero => exact hw
  | succ n ih =>
    unfold copyBeats
    split
    · exact ih _ _ (setBytes_wf _ _ _ ((foldl_mem _ (fun _ _ => cleanWord_mem _ _) _ _).symm ▸ hw))
    · exact hw

theorem execXferDrain_wf (c : Fin 8) (started : Nat) (s : State) {s' : State} (hw : Memory.wf s.mem) (hr : execXferDrain c started s =
    .next s') :
    Memory.wf s'.mem := by
  unfold execXferDrain at hr
  injection hr with hr; subst hr; (repeat' (first | with_reducible exact hw | with_reducible assumption | with_reducible apply copyBeats_wf | with_reducible refine foldl_wf _ ?_ _ _ ?_ | (intro _; intros) | split | simp only [apply_ite Prod.snd, apply_ite Prod.fst, ↓set_mem, ↓raise_mem, ↓xferStop_mem] | (dsimp only)))

theorem execXferDone_wf (c : Fin 8) (s : State) {s' : State} (hw : Memory.wf s.mem) (hr : execXferDone c s = .next s') :
    Memory.wf s'.mem := by
  unfold execXferDone at hr
  injection hr with hr; subst hr; (repeat' (first | with_reducible exact hw | with_reducible assumption | with_reducible apply copyBeats_wf | with_reducible refine foldl_wf _ ?_ _ _ ?_ | (intro _; intros) | split | simp only [apply_ite Prod.snd, apply_ite Prod.fst, ↓set_mem, ↓raise_mem, ↓xferStop_mem] | (dsimp only)))

theorem execAshRecordWritten_wf (s : State) {s' : State} (hw : Memory.wf s.mem) (hr : execAshRecordWritten s = .next s') :
    Memory.wf s'.mem := by
  unfold execAshRecordWritten at hr
  injection hr with hr; subst hr; (repeat' (first | with_reducible exact hw | with_reducible assumption | with_reducible apply setBytes_wf | with_reducible refine foldl_wf _ ?_ _ _ ?_ | (intro _; intros) | split | simp only [↓set_mem, ↓raise_mem] | (dsimp only)))

theorem lockstep_wf (w : Nat) (f : Nat → Nat → State → State) (s : State) (hw : Memory.wf s.mem) (hf : ∀ v0 v1 t,
    Memory.wf t.mem → Memory.wf (f v0 v1 t).mem) :
    Memory.wf (lockstep w f s).mem := by
  simp only [lockstep]; (repeat' (first | with_reducible exact hw | with_reducible assumption | with_reducible apply hf | with_reducible refine foldl_wf _ ?_ _ _ ?_ | (intro _; intros) | split | (dsimp only)))

theorem onSlot_wf (slot : Fin 2) (us : List Nat) (act : State → State) (o : Nat) (v : Nat) (s : State) (hw : Memory.wf s.mem) (hact : ∀
    t, Memory.wf t.mem → Memory.wf (act t).mem) :
    Memory.wf (onSlot slot us act o v s).mem := by
  simp only [onSlot]; (repeat' (first | with_reducible exact hw | with_reducible assumption | with_reducible apply hact | with_reducible refine foldl_wf _ ?_ _ _ ?_ | (intro _; intros) | split | simp only [↓setExe_mem, ↓endIfPast_mem] | (dsimp only)))

theorem slotRow_wf (w : Fin 8) (slot : Fin 2) (us : List Nat) (hz : List (Fin 36)) (act : Nat → Nat → State → State) (s : State) {s' :
    State} (hw : Memory.wf s.mem) (hact : ∀ v0 v1 t, Memory.wf t.mem → Memory.wf (act v0 v1 t).mem) (hr : slotRow w slot us hz act s = .next s') :
    Memory.wf s'.mem := by
  unfold slotRow at hr
  injection hr with hr; subst hr; (repeat' (first | with_reducible exact hw | with_reducible assumption | with_reducible apply hact | with_reducible apply lockstep_wf | with_reducible apply onSlot_wf | with_reducible refine foldl_wf _ ?_ _ _ ?_ | (intro _; intros) | split | simp only [↓lockstep_mem, ↓onSlot_mem] | (dsimp only)))

theorem slot0Row_wf (w : Fin 8) (slot : Fin 2) (us : List Nat) (hz : List (Fin 36)) (legal : Bool) (act : Nat → Nat → State → State) (s :
    State) {s' : State} (hw : Memory.wf s.mem) (hact : ∀ v0 v1 t, Memory.wf t.mem → Memory.wf (act v0 v1 t).mem) (hr : slot0Row w slot us hz legal act s = .next s') :
    Memory.wf s'.mem := by
  unfold slot0Row at hr
  split at hr
  · exact slotRow_wf _ _ _ _ _ _ hw hact hr
  · exact slotRow_wf _ _ _ _ _ _ hw (fun _ _ _ h => (illegalAct_mem _ _ _ _).symm ▸ h) hr

theorem execWhlSt_wf (w : Fin 8) (slot : Fin 2) (src : Fin 32) (a : Fin 32) (off : BitVec 16) (hz : List (Fin 36)) (s : State) {s' :
    State} (hw : Memory.wf s.mem) (hr : execWhlSt w slot src a off hz s = .next s') :
    Memory.wf s'.mem := by
  unfold execWhlSt at hr
  exact slot0Row_wf _ _ _ _ _ _ _ hw (by intros; (repeat' (first | with_reducible exact hw | with_reducible assumption | with_reducible apply store_wf | with_reducible refine foldl_wf _ ?_ _ _ ?_ | (intro _; intros) | split | simp only [↓cleanWord_mem, ↓onExe_mem, ↓setFlagNow_mem] | (dsimp only)))) hr

theorem place_wf (key : Nat) (data : List Byte) (s : State) (hw : Memory.wf s.mem) :
    Memory.wf (place key data s).mem := by
  simp only [place]; (repeat' (first | with_reducible exact hw | with_reducible assumption | with_reducible apply setBytes_wf | with_reducible refine foldl_wf _ ?_ _ _ ?_ | (intro _; intros) | split | (dsimp only)))

theorem cycleLimit_wf (p : Nat) (s : State) (hw : Memory.wf s.mem) :
    Memory.wf (cycleLimit p s).mem := by
  simp only [cycleLimit]; (repeat' (first | with_reducible exact hw | with_reducible assumption | with_reducible apply place_wf | with_reducible refine foldl_wf _ ?_ _ _ ?_ | (intro _; intros) | split | simp only [↓setLeg_mem, ↓enforceLeg_mem, ↓markLimited_mem] | (dsimp only)))

theorem compAct_wf (c : Nat) (above : Bool) (s : State) (hw : Memory.wf s.mem) :
    Memory.wf (compAct c above s).mem := by
  simp only [compAct]; (repeat' (first | with_reducible exact hw | with_reducible assumption | with_reducible apply cycleLimit_wf | with_reducible refine foldl_wf _ ?_ _ _ ?_ | (intro _; intros) | split | simp only [↓set_mem, ↓cnvComparator_mem, ↓raise_mem, ↓trigger_mem] | (dsimp only)))

theorem applyEntry_wf (w : Nat) (e : QEntry) (s : State) (hw : Memory.wf s.mem) :
    Memory.wf (applyEntry w e s).mem := by
  simp only [applyEntry]; (repeat' (first | with_reducible exact hw | with_reducible assumption | with_reducible apply store_wf | with_reducible refine foldl_wf _ ?_ _ _ ?_ | (intro _; intros) | split | simp only [↓wr_mem, ↓cleanWord_mem] | (dsimp only)))

theorem coefWrite_wf (m : Master) (w : Nat) (i : Nat) (v : Word) (s : State) (hw : Memory.wf s.mem) :
    Memory.wf (coefWrite m w i v s).mem := by
  simp only [coefWrite]; (repeat' (first | with_reducible exact hw | with_reducible assumption | with_reducible apply applyEntry_wf | with_reducible refine foldl_wf _ ?_ _ _ ?_ | (intro _; intros) | split | simp only [↓answer_mem, ↓busError_mem, ↓enqueue_mem] | (dsimp only)))

theorem tblCfgWrite_wf (m : Master) (w : Nat) (t : Nat) (v : Word) (s : State) (hw : Memory.wf s.mem) :
    Memory.wf (tblCfgWrite m w t v s).mem := by
  simp only [tblCfgWrite]; (repeat' (first | with_reducible exact hw | with_reducible assumption | with_reducible apply applyEntry_wf | with_reducible refine foldl_wf _ ?_ _ _ ?_ | (intro _; intros) | split | simp only [↓answer_mem, ↓busError_mem, ↓enqueue_mem] | (dsimp only)))

theorem execCoefQueueWrite_wf (m : Master) (w : Fin 8) (entry : CoefWrite) (s : State) {s' : State} (hw : Memory.wf s.mem) (hr :
    execCoefQueueWrite m w entry s = .next s') :
    Memory.wf s'.mem := by
  unfold execCoefQueueWrite at hr
  injection hr with hr; subst hr; (repeat' (first | with_reducible exact hw | with_reducible assumption | with_reducible apply coefWrite_wf | with_reducible apply tblCfgWrite_wf | with_reducible refine foldl_wf _ ?_ _ _ ?_ | (intro _; intros) | split | (dsimp only)))

theorem execQueueBatchApply_wf (w : Fin 8) (s : State) {s' : State} (hw : Memory.wf s.mem) (hr : execQueueBatchApply w s = .next s') :
    Memory.wf s'.mem := by
  unfold execQueueBatchApply at hr
  injection hr with hr; subst hr; (repeat' (first | with_reducible exact hw | with_reducible assumption | with_reducible apply applyEntry_wf | with_reducible refine foldl_wf _ ?_ _ _ ?_ | (intro _; intros) | split | simp only [↓set_mem, ↓setWhorl_mem] | (dsimp only)))

theorem tableWrite_wf (m : Master) (w : Nat) (i : Nat) (v : Word) (s : State) (hw : Memory.wf s.mem) :
    Memory.wf (tableWrite m w i v s).mem := by
  simp only [tableWrite]; (repeat' (first | with_reducible exact hw | with_reducible assumption | with_reducible apply store_wf | with_reducible refine foldl_wf _ ?_ _ _ ?_ | (intro _; intros) | split | simp only [↓answer_mem, ↓busError_mem, ↓cleanWord_mem] | (dsimp only)))

theorem execTableRegionWrite_wf (m : Master) (w : Fin 8) (word : Fin 114688) (value : Word) (s : State) {s' : State} (hw : Memory.wf
    s.mem) (hr : execTableRegionWrite m w word value s = .next s') :
    Memory.wf s'.mem := by
  unfold execTableRegionWrite at hr
  injection hr with hr; subst hr; (repeat' (first | with_reducible exact hw | with_reducible assumption | with_reducible apply tableWrite_wf | with_reducible refine foldl_wf _ ?_ _ _ ?_ | (intro _; intros) | split | (dsimp only)))

theorem whorlWrite_wf (m : Master) (w : Nat) (off : Nat) (size : Nat) (v : Nat) (s : State) (hw : Memory.wf s.mem) :
    Memory.wf (whorlWrite m w off size v s).mem := by
  simp only [whorlWrite]; (repeat' (first | with_reducible exact hw | with_reducible assumption | with_reducible apply coefWrite_wf | with_reducible apply memWrite_wf | with_reducible apply tableWrite_wf | with_reducible refine foldl_wf _ ?_ _ _ ?_ | (intro _; intros) | split | simp only [↓busError_mem] | (dsimp only)))

theorem execWhorlMemoryWrite_wf (m : Master) (w : Fin 8) (off : Fin 1048576) (size : Fin 9) (value : BitVec 64) (s : State) {s' : State}
    (hw : Memory.wf s.mem) (hr : execWhorlMemoryWrite m w off size value s = .next s') :
    Memory.wf s'.mem := by
  unfold execWhorlMemoryWrite at hr
  injection hr with hr; subst hr; (repeat' (first | with_reducible exact hw | with_reducible assumption | with_reducible apply whorlWrite_wf | with_reducible refine foldl_wf _ ?_ _ _ ?_ | (intro _; intros) | split | (dsimp only)))

theorem copyMem_wf (a : Nat) (b : Nat) (n : Nat) (s : State) (hw : Memory.wf s.mem) :
    Memory.wf (copyMem a b n s).mem := foldl_wf _ (fun _ _ h => setByte_wf _ _ _ h) _ _ (SMap.filter_wf (fun _ => 0) _ _ hw)

theorem copyState_wf (a : Nat) (b : Nat) (zero : Bool) (s : State) (hw : Memory.wf s.mem) :
    Memory.wf (copyState a b zero s).mem := by
  simp only [copyState]; (repeat' (first | with_reducible exact hw | with_reducible assumption | with_reducible apply setBytes_wf | with_reducible apply copyMem_wf | with_reducible refine foldl_wf _ ?_ _ _ ?_ | (intro _; intros) | split | (dsimp only)))

theorem loadWhorl_wf (w : Nat) (image : List Byte) (s : State) (hw : Memory.wf s.mem) :
    Memory.wf (loadWhorl w image s).mem := place_wf _ _ _ (SMap.filter_wf (fun _ => 0) _ _ (place_wf _ _ _ (SMap.filter_wf (fun _ => 0) _ _ hw)))

theorem execStandbyPrepareDone_wf (w : Fin 8) (s : State) {s' : State} (hw : Memory.wf s.mem) (hr : execStandbyPrepareDone w s = .next s') :
    Memory.wf s'.mem := by
  unfold execStandbyPrepareDone at hr
  injection hr with hr; subst hr; (repeat' (first | with_reducible exact hw | with_reducible assumption | with_reducible apply copyMem_wf | with_reducible apply copyState_wf | with_reducible apply loadWhorl_wf | with_reducible refine foldl_wf _ ?_ _ _ ?_ | (intro _; intros) | split | simp only [↓bump_mem, ↓set_mem, ↓setWhorl_mem, ↓copyRegs_mem, ↓raise_mem, ↓startShadow_mem, ↓switchTo_mem] | (dsimp only)))

theorem execStateCopyDone_wf (w : Fin 8) (abandoned : Bool) (s : State) {s' : State} (hw : Memory.wf s.mem) (hr : execStateCopyDone w
    abandoned s = .next s') :
    Memory.wf s'.mem := by
  unfold execStateCopyDone at hr
  injection hr with hr; subst hr; (repeat' (first | with_reducible exact hw | with_reducible assumption | with_reducible apply copyState_wf | with_reducible refine foldl_wf _ ?_ _ _ ?_ | (intro _; intros) | split | simp only [↓copyInterrupted_mem, ↓handoverSwitch_mem, ↓startShadow_mem] | (dsimp only)))

theorem execAfeResultDelivery_wf (ch : Fin 48) (win : Fin 2) (s : State) {s' : State} (hw : Memory.wf s.mem) (hr : execAfeResultDelivery
    ch win s = .next s') :
    Memory.wf s'.mem := by
  unfold execAfeResultDelivery at hr
  injection hr with hr; subst hr; (repeat' (first | with_reducible exact hw | with_reducible assumption | with_reducible apply setBytes_wf | with_reducible refine foldl_wf _ ?_ _ _ ?_ | (intro _; intros) | split | simp only [↓setWin_mem, ↓deliver_mem] | (dsimp only)))

theorem quietly_wf (f : State → State) (s : State) (hw : Memory.wf s.mem) (hf : ∀ t, Memory.wf t.mem → Memory.wf (f t).mem) :
    Memory.wf (quietly f s).mem := by
  simp only [quietly]; (repeat' (first | with_reducible exact hw | with_reducible assumption | with_reducible apply hf | with_reducible refine foldl_wf _ ?_ _ _ ?_ | (intro _; intros) | split | (dsimp only)))

theorem writeBatch_wf (w : Nat) (ws : List (Nat × Word)) (s : State) (hw : Memory.wf s.mem) :
    Memory.wf (writeBatch w ws s).mem := by
  simp only [writeBatch]; (repeat' (first | with_reducible exact hw | with_reducible assumption | with_reducible apply coefWrite_wf | with_reducible refine foldl_wf _ ?_ _ _ ?_ | (intro _; intros) | split | simp only [↓set_mem] | (dsimp only)))

theorem setTask_wf (i : Nat) (p : SetPar) (s : State) (hw : Memory.wf s.mem) :
    Memory.wf (setTask i p s).mem := by
  simp only [setTask]; (repeat' (first | with_reducible exact hw | with_reducible assumption | with_reducible apply writeBatch_wf | with_reducible refine foldl_wf _ ?_ _ _ ?_ | (intro _; intros) | split | simp only [↓setWset_mem] | (dsimp only)))

theorem calApply_wf (c : CalSet) (s : State) (hw : Memory.wf s.mem) :
    Memory.wf (calApply c s).mem := by
  simp only [calApply]; (repeat' (first | with_reducible exact hw | with_reducible assumption | with_reducible apply coefWrite_wf | with_reducible apply tableWrite_wf | with_reducible apply tblCfgWrite_wf | with_reducible refine foldl_wf _ ?_ _ _ ?_ | (intro _; intros) | split | simp only [↓set_mem] | (dsimp only)))

theorem calLoad_wf (p : Nat) (s : State) (hw : Memory.wf s.mem) :
    Memory.wf (calLoad p s).mem := by
  simp only [calLoad]; (repeat' (first | with_reducible exact hw | with_reducible assumption | with_reducible apply calApply_wf | with_reducible refine foldl_wf _ ?_ _ _ ?_ | (intro _; intros) | split | (dsimp only)))

theorem supervisionTask_wf (i : SupIn) (s : State) (hw : Memory.wf s.mem) :
    Memory.wf (supervisionTask i s).mem := by
  simp only [supervisionTask]; (repeat' (first | with_reducible exact hw | with_reducible assumption | with_reducible apply calLoad_wf | with_reducible apply setTask_wf | with_reducible refine foldl_wf _ ?_ _ _ ?_ | (intro _; intros) | split | simp only [↓emrTask_mem, ↓exitTask_mem, ↓limitTask_mem, ↓machTask_mem, ↓shareTorque_mem] | (dsimp only)))

theorem execSupervisionTask_wf (i : SupIn) (s : State) {s' : State} (hw : Memory.wf s.mem) (hr : execSupervisionTask i s = .next s') :
    Memory.wf s'.mem := by
  unfold execSupervisionTask at hr
  injection hr with hr; subst hr; (repeat' (first | with_reducible exact hw | with_reducible assumption | with_reducible apply quietly_wf | with_reducible apply supervisionTask_wf | with_reducible refine foldl_wf _ ?_ _ _ ?_ | (intro _; intros) | split | simp only [↓quietly_mem] | (dsimp only)))

theorem execComparatorTrip_wf (ch : Fin 48) (above : Bool) (s : State) {s' : State} (hw : Memory.wf s.mem) (hr : execComparatorTrip ch
    above s = .next s') :
    Memory.wf s'.mem := by
  unfold execComparatorTrip at hr
  injection hr with hr; subst hr; (repeat' (first | with_reducible exact hw | with_reducible assumption | with_reducible apply compAct_wf | with_reducible refine foldl_wf _ ?_ _ _ ?_ | (intro _; intros) | split | simp only [↓setCompar_mem, ↓hvLost_mem] | (dsimp only)))

theorem execBlankingEnd_wf (ch : Fin 48) (s : State) {s' : State} (hw : Memory.wf s.mem) (hr : execBlankingEnd ch s = .next s') :
    Memory.wf s'.mem := by
  unfold execBlankingEnd at hr
  injection hr with hr; subst hr; (repeat' (first | with_reducible exact hw | with_reducible assumption | with_reducible apply compAct_wf | with_reducible refine foldl_wf _ ?_ _ _ ?_ | (intro _; intros) | split | simp only [↓setCompar_mem, ↓hvLost_mem] | (dsimp only)))

theorem chgCoef_wf (w : Nat) (i : Nat) (v : Nat) (s : State) (hw : Memory.wf s.mem) :
    Memory.wf (chgCoef w i v s).mem := by
  simp only [chgCoef]; (repeat' (first | with_reducible exact hw | with_reducible assumption | with_reducible apply coefWrite_wf | with_reducible refine foldl_wf _ ?_ _ _ ?_ | (intro _; intros) | split | (dsimp only)))

theorem limitWrite_wf (i : ChgIn) (s : State) (hw : Memory.wf s.mem) :
    Memory.wf (limitWrite i s).mem := by
  simp only [limitWrite]; (repeat' (first | with_reducible exact hw | with_reducible assumption | with_reducible apply chgCoef_wf | with_reducible refine foldl_wf _ ?_ _ _ ?_ | (intro _; intros) | split | simp only [↓set_mem] | (dsimp only)))

theorem b12Task_wf (i : ChgIn) (s : State) (hw : Memory.wf s.mem) :
    Memory.wf (b12Task i s).mem := by
  simp only [b12Task]; (repeat' (first | with_reducible exact hw | with_reducible assumption | with_reducible apply chgCoef_wf | with_reducible refine foldl_wf _ ?_ _ _ ?_ | (intro _; intros) | split | simp only [↓b12Phase_mem, ↓timerTask_mem, ↓zoneTask_mem] | (dsimp only)))

theorem execAcceptanceProbe_wf (battI : Int) (battV : Nat) (s : State) {s' : State} (hw : Memory.wf s.mem) (hr : execAcceptanceProbe
    battI battV s = .next s') :
    Memory.wf s'.mem := by
  unfold execAcceptanceProbe at hr
  injection hr with hr; subst hr; (repeat' (first | with_reducible exact hw | with_reducible assumption | with_reducible apply chgCoef_wf | with_reducible apply quietly_wf | with_reducible refine foldl_wf _ ?_ _ _ ?_ | (intro _; intros) | split | simp only [↓b12Start_mem, ↓quietly_mem] | (dsimp only)))

theorem actLimits_wf (s : State) (hw : Memory.wf s.mem) :
    Memory.wf (actLimits s).mem := by
  simp only [actLimits]; (repeat' (first | with_reducible exact hw | with_reducible assumption | with_reducible apply chgCoef_wf | with_reducible refine foldl_wf _ ?_ _ _ ?_ | (intro _; intros) | split | (dsimp only)))

theorem execChargeTask_wf (i : ChgIn) (s : State) {s' : State} (hw : Memory.wf s.mem) (hr : execChargeTask i s = .next s') :
    Memory.wf s'.mem := by
  unfold execChargeTask at hr
  injection hr with hr; subst hr; (repeat' (first | with_reducible exact hw | with_reducible assumption | with_reducible apply actLimits_wf | with_reducible apply b12Task_wf | with_reducible apply calLoad_wf | with_reducible apply limitWrite_wf | with_reducible apply quietly_wf | with_reducible refine foldl_wf _ ?_ _ _ ?_ | (intro _; intros) | split | simp only [↓preTask_mem, ↓quietly_mem, ↓sessTask_mem] | (dsimp only)))

theorem domainOff_wf (d : Nat) (s : State) (hw : Memory.wf s.mem) :
    Memory.wf (domainOff d s).mem := by
  have h1 : Memory.wf (s.mem.filter (fun e => !domainKey d e.1)) := SMap.filter_wf (fun _ => 0) _ _ hw
  unfold domainOff
  dsimp only
  split <;> exact (engineOff_mem _ _).symm ▸ h1

theorem allOff_wf (s : State) (hw : Memory.wf s.mem) :
    Memory.wf (allOff s).mem := by
  simp only [allOff]; (repeat' (first | with_reducible exact hw | with_reducible assumption | with_reducible apply domainOff_wf | with_reducible refine foldl_wf _ ?_ _ _ ?_ | (intro _; intros) | split | simp only [↓kilnDrive_mem] | (dsimp only)))

theorem startFail_wf (code : Nat) (s : State) (hw : Memory.wf s.mem) :
    Memory.wf (startFail code s).mem := by
  simp only [startFail]; (repeat' (first | with_reducible exact hw | with_reducible assumption | with_reducible apply allOff_wf | with_reducible refine foldl_wf _ ?_ _ _ ?_ | (intro _; intros) | split | simp only [↓bump_mem, ↓set_mem] | (dsimp only)))

theorem restart_wf (s : State) (hw : Memory.wf s.mem) :
    Memory.wf (restart s).mem := by
  simp only [restart]; (repeat' (first | with_reducible exact hw | with_reducible assumption | with_reducible apply allOff_wf | with_reducible refine foldl_wf _ ?_ _ _ ?_ | (intro _; intros) | split | simp only [↓debugRevoke_mem, ↓startBegin_mem] | (dsimp only)))

theorem storeFresh_wf (s : State) (hw : Memory.wf s.mem) :
    Memory.wf (storeFresh s).mem := by
  simp only [storeFresh]; (repeat' (first | with_reducible exact hw | with_reducible assumption | with_reducible apply store_wf | with_reducible refine foldl_wf _ ?_ _ _ ?_ | (intro _; intros) | split | (dsimp only)))

theorem dormantBegin_wf (s : State) (hw : Memory.wf s.mem) :
    Memory.wf (dormantBegin s).mem := by
  have h : ∀ t : State, Memory.wf t.mem → Memory.wf ([0, 1, 2, 3].foldl (fun s n => canDrain n s) t).mem := fun t ht =>
    foldl_wf _ (fun _ _ h => by simpa only [↓canDrain_mem] using h) _ _ ht
  unfold dormantBegin
  simp only [↓set_mem]
  refine h _ ?_
  split
  · exact storeFresh_wf s hw
  · exact hw

theorem accept_wf (target : Nat) (v2l : Bool) (s : State) (hw : Memory.wf s.mem) :
    Memory.wf (accept target v2l s).mem := by
  simp only [accept]; (repeat' (first | with_reducible exact hw | with_reducible assumption | with_reducible apply dormantBegin_wf | with_reducible apply restart_wf | with_reducible refine foldl_wf _ ?_ _ _ ?_ | (intro _; intros) | split | simp only [↓set_mem, ↓debugRevoke_mem] | (dsimp only)))

theorem modeRequest_wf (m : Master) (key : BitVec 16) (target : Nat) (v2l : Bool) (cleared : Bool) (s : State) (hw : Memory.wf s.mem) :
    Memory.wf (modeRequest m key target v2l cleared s).mem := by
  simp only [modeRequest]; (repeat' (first | with_reducible exact hw | with_reducible assumption | with_reducible apply accept_wf | with_reducible refine foldl_wf _ ?_ _ _ ?_ | (intro _; intros) | split | simp only [↓answer_mem, ↓busError_mem, ↓refuse_mem] | (dsimp only)))

theorem execRequestReady_wf (m : Master) (key : BitVec 16) (cleared : Bool) (s : State) {s' : State} (hw : Memory.wf s.mem) (hr :
    execRequestReady m key cleared s = .next s') :
    Memory.wf s'.mem := by
  unfold execRequestReady at hr
  injection hr with hr; subst hr; (repeat' (first | with_reducible exact hw | with_reducible assumption | with_reducible apply modeRequest_wf | with_reducible refine foldl_wf _ ?_ _ _ ?_ | (intro _; intros) | split | (dsimp only)))

theorem execRequestDrive_wf (m : Master) (key : BitVec 16) (s : State) {s' : State} (hw : Memory.wf s.mem) (hr : execRequestDrive m key s
    = .next s') :
    Memory.wf s'.mem := by
  unfold execRequestDrive at hr
  injection hr with hr; subst hr; (repeat' (first | with_reducible exact hw | with_reducible assumption | with_reducible apply modeRequest_wf | with_reducible refine foldl_wf _ ?_ _ _ ?_ | (intro _; intros) | split | (dsimp only)))

theorem execRequestCharge_wf (m : Master) (key : BitVec 16) (s : State) {s' : State} (hw : Memory.wf s.mem) (hr : execRequestCharge m key
    s = .next s') :
    Memory.wf s'.mem := by
  unfold execRequestCharge at hr
  injection hr with hr; subst hr; (repeat' (first | with_reducible exact hw | with_reducible assumption | with_reducible apply modeRequest_wf | with_reducible refine foldl_wf _ ?_ _ _ ?_ | (intro _; intros) | split | (dsimp only)))

theorem execRequestV2l_wf (m : Master) (key : BitVec 16) (s : State) {s' : State} (hw : Memory.wf s.mem) (hr : execRequestV2l m key s =
    .next s') :
    Memory.wf s'.mem := by
  unfold execRequestV2l at hr
  injection hr with hr; subst hr; (repeat' (first | with_reducible exact hw | with_reducible assumption | with_reducible apply modeRequest_wf | with_reducible refine foldl_wf _ ?_ _ _ ?_ | (intro _; intros) | split | (dsimp only)))

theorem execRequestLimp_wf (m : Master) (key : BitVec 16) (s : State) {s' : State} (hw : Memory.wf s.mem) (hr : execRequestLimp m key s =
    .next s') :
    Memory.wf s'.mem := by
  unfold execRequestLimp at hr
  injection hr with hr; subst hr; (repeat' (first | with_reducible exact hw | with_reducible assumption | with_reducible apply modeRequest_wf | with_reducible refine foldl_wf _ ?_ _ _ ?_ | (intro _; intros) | split | (dsimp only)))

theorem execRequestService_wf (m : Master) (key : BitVec 16) (s : State) {s' : State} (hw : Memory.wf s.mem) (hr : execRequestService m
    key s = .next s') :
    Memory.wf s'.mem := by
  unfold execRequestService at hr
  injection hr with hr; subst hr; (repeat' (first | with_reducible exact hw | with_reducible assumption | with_reducible apply modeRequest_wf | with_reducible refine foldl_wf _ ?_ _ _ ?_ | (intro _; intros) | split | (dsimp only)))

theorem execRequestSafe_wf (m : Master) (key : BitVec 16) (s : State) {s' : State} (hw : Memory.wf s.mem) (hr : execRequestSafe m key s =
    .next s') :
    Memory.wf s'.mem := by
  unfold execRequestSafe at hr
  injection hr with hr; subst hr; (repeat' (first | with_reducible exact hw | with_reducible assumption | with_reducible apply modeRequest_wf | with_reducible refine foldl_wf _ ?_ _ _ ?_ | (intro _; intros) | split | (dsimp only)))

theorem execRequestDormant_wf (m : Master) (key : BitVec 16) (s : State) {s' : State} (hw : Memory.wf s.mem) (hr : execRequestDormant m
    key s = .next s') :
    Memory.wf s'.mem := by
  unfold execRequestDormant at hr
  injection hr with hr; subst hr; (repeat' (first | with_reducible exact hw | with_reducible assumption | with_reducible apply modeRequest_wf | with_reducible refine foldl_wf _ ?_ _ _ ?_ | (intro _; intros) | split | (dsimp only)))

theorem execRequestRestart_wf (m : Master) (key : BitVec 16) (s : State) {s' : State} (hw : Memory.wf s.mem) (hr : execRequestRestart m
    key s = .next s') :
    Memory.wf s'.mem := by
  unfold execRequestRestart at hr
  injection hr with hr; subst hr; (repeat' (first | with_reducible exact hw | with_reducible assumption | with_reducible apply modeRequest_wf | with_reducible refine foldl_wf _ ?_ _ _ ?_ | (intro _; intros) | split | (dsimp only)))

theorem enterMode_wf (mode : Nat) (v2l : Bool) (s : State) (hw : Memory.wf s.mem) :
    Memory.wf (enterMode mode v2l s).mem := by
  simp only [enterMode]; (repeat' (first | with_reducible exact hw | with_reducible assumption | with_reducible apply domainOff_wf | with_reducible refine foldl_wf _ ?_ _ _ ?_ | (intro _; intros) | split | simp only [↓set_mem, ↓setB_mem, ↓blankGrant_mem, ↓emrEnd_mem, ↓enforceAll_mem, ↓kilnDrive_mem, ↓raise_mem, ↓showBridges_mem] | (dsimp only)))

theorem execModeTransitionComplete_wf (s : State) {s' : State} (hw : Memory.wf s.mem) (hr : execModeTransitionComplete s = .next s') :
    Memory.wf s'.mem := by
  unfold execModeTransitionComplete at hr
  injection hr with hr; subst hr; (repeat' (first | with_reducible exact hw | with_reducible assumption | with_reducible apply enterMode_wf | with_reducible refine foldl_wf _ ?_ _ _ ?_ | (intro _; intros) | split | (dsimp only)))

theorem imposeSafe_wf (top : React) (rs : List React) (s : State) (hw : Memory.wf s.mem) :
    Memory.wf (imposeSafe top rs s).mem := by
  simp only [imposeSafe]; (repeat' (first | with_reducible exact hw | with_reducible assumption | with_reducible apply enterMode_wf | with_reducible refine foldl_wf _ ?_ _ _ ?_ | (intro _; intros) | split | simp only [↓cnvImposed_mem, ↓dropRequest_mem, ↓enforceAll_mem, ↓kilnDrive_mem, ↓oltAbort_mem, ↓safeReaction_mem, ↓showBridges_mem] | (dsimp only)))

theorem imposeLimp_wf (rs : List React) (s : State) (hw : Memory.wf s.mem) :
    Memory.wf (imposeLimp rs s).mem := by
  simp only [imposeLimp]; (repeat' (first | with_reducible exact hw | with_reducible assumption | with_reducible apply enterMode_wf | with_reducible refine foldl_wf _ ?_ _ _ ?_ | (intro _; intros) | split | simp only [↓set_mem, ↓cnvImposed_mem, ↓debugRevoke_mem, ↓dropRequest_mem, ↓enforceAll_mem] | (dsimp only)))

theorem execImposedTransition_wf (s : State) {s' : State} (hw : Memory.wf s.mem) (hr : execImposedTransition s = .next s') :
    Memory.wf s'.mem := by
  unfold execImposedTransition at hr
  injection hr with hr; subst hr; (repeat' (first | with_reducible exact hw | with_reducible assumption | with_reducible apply imposeLimp_wf | with_reducible apply imposeSafe_wf | with_reducible refine foldl_wf _ ?_ _ _ ?_ | (intro _; intros) | split | (dsimp only)))

theorem linkLossControl_wf (s : State) (hw : Memory.wf s.mem) :
    Memory.wf (linkLossControl s).mem := by
  simp only [linkLossControl]; (repeat' (first | with_reducible exact hw | with_reducible assumption | with_reducible apply startFail_wf | with_reducible refine foldl_wf _ ?_ _ _ ?_ | (intro _; intros) | split | simp only [↓set_mem, ↓bridgeModeWrite_mem, ↓chStop_mem, ↓cnvAsh_mem, ↓issue_mem, ↓kilnDrive_mem, ↓raise_mem, ↓safeReaction_mem] | (dsimp only)))

theorem execLinkTokenTimeout_wf (die : Die) (s : State) {s' : State} (hw : Memory.wf s.mem) (hr : execLinkTokenTimeout die s = .next s') :
    Memory.wf s'.mem := by
  unfold execLinkTokenTimeout at hr
  injection hr with hr; subst hr; (repeat' (first | with_reducible exact hw | with_reducible assumption | with_reducible apply linkLossControl_wf | with_reducible refine foldl_wf _ ?_ _ _ ?_ | (intro _; intros) | split | simp only [↓linkLossKiln_mem] | (dsimp only)))

theorem execLinkFrameReceive_wf (f : LinkFrame) (s : State) {s' : State} (hw : Memory.wf s.mem) (hr : execLinkFrameReceive f s = .next s') :
    Memory.wf s'.mem := by
  unfold execLinkFrameReceive at hr
  injection hr with hr; subst hr; (repeat' (first | with_reducible exact hw | with_reducible assumption | with_reducible apply linkLossControl_wf | with_reducible refine foldl_wf _ ?_ _ _ ?_ | (intro _; intros) | split | simp only [↓bump_mem, ↓setKln_mem, ↓linkFrameControl_mem, ↓linkLossKiln_mem] | (dsimp only)))

theorem execVbatCollapse_wf (s : State) {s' : State} (hw : Memory.wf s.mem) (hr : execVbatCollapse s = .next s') :
    Memory.wf s'.mem := by
  injection hr with hr
  subst hr
  exact SMap.filter_wf (fun _ => 0) _ _ hw

theorem execSupplyTimeout_wf (s : State) {s' : State} (hw : Memory.wf s.mem) (hr : execSupplyTimeout s = .next s') :
    Memory.wf s'.mem := by
  unfold execSupplyTimeout at hr
  injection hr with hr; subst hr; (repeat' (first | with_reducible exact hw | with_reducible assumption | with_reducible apply startFail_wf | with_reducible refine foldl_wf _ ?_ _ _ ?_ | (intro _; intros) | split | (dsimp only)))

theorem execReferenceClockFail_wf (s : State) {s' : State} (hw : Memory.wf s.mem) (hr : execReferenceClockFail s = .next s') :
    Memory.wf s'.mem := by
  unfold execReferenceClockFail at hr
  injection hr with hr; subst hr; (repeat' (first | with_reducible exact hw | with_reducible assumption | with_reducible apply startFail_wf | with_reducible refine foldl_wf _ ?_ _ _ ?_ | (intro _; intros) | split | (dsimp only)))

theorem execPllLockTimeout_wf (s : State) {s' : State} (hw : Memory.wf s.mem) (hr : execPllLockTimeout s = .next s') :
    Memory.wf s'.mem := by
  unfold execPllLockTimeout at hr
  injection hr with hr; subst hr; (repeat' (first | with_reducible exact hw | with_reducible assumption | with_reducible apply startFail_wf | with_reducible refine foldl_wf _ ?_ _ _ ?_ | (intro _; intros) | split | (dsimp only)))

theorem tinderBoot_wf (fuseOk : Bool) (s : State) (hw : Memory.wf s.mem) :
    Memory.wf (tinderBoot fuseOk s).mem := by
  simp only [tinderBoot]; (repeat' (first | with_reducible exact hw | with_reducible assumption | with_reducible apply startFail_wf | with_reducible refine foldl_wf _ ?_ _ _ ?_ | (intro _; intros) | split | simp only [↓tndFault_mem, ↓zeroise_mem] | (dsimp only)))

theorem execPllLock_wf (fuseOk : Bool) (s : State) {s' : State} (hw : Memory.wf s.mem) (hr : execPllLock fuseOk s = .next s') :
    Memory.wf s'.mem := by
  unfold execPllLock at hr
  injection hr with hr; subst hr; (repeat' (first | with_reducible exact hw | with_reducible assumption | with_reducible apply tinderBoot_wf | with_reducible refine foldl_wf _ ?_ _ _ ?_ | (intro _; intros) | split | simp only [↓set_mem, ↓setB_mem, ↓domainOn_mem] | (dsimp only)))

theorem execMemoryFillDone_wf (d : Fin 11) (ok : Bool) (s : State) {s' : State} (hw : Memory.wf s.mem) (hr : execMemoryFillDone d ok s =
    .next s') :
    Memory.wf s'.mem := by
  unfold execMemoryFillDone at hr
  injection hr with hr; subst hr; (repeat' (first | with_reducible exact hw | with_reducible assumption | with_reducible apply startFail_wf | with_reducible refine foldl_wf _ ?_ _ _ ?_ | (intro _; intros) | split | simp only [↓setBit_mem, ↓tndShow_mem] | (dsimp only)))

theorem execWhorlReloadDone_wf (high : Bool) (s : State) {s' : State} (hw : Memory.wf s.mem) (hr : execWhorlReloadDone high s = .next s') :
    Memory.wf s'.mem := by
  unfold execWhorlReloadDone at hr
  injection hr with hr; subst hr; (repeat' (first | with_reducible exact hw | with_reducible assumption | with_reducible apply place_wf | with_reducible refine foldl_wf _ ?_ _ _ ?_ | (intro _; intros) | split | simp only [↓setBit_mem] | (dsimp only)))

theorem execLinkUpTimeout_wf (s : State) {s' : State} (hw : Memory.wf s.mem) (hr : execLinkUpTimeout s = .next s') :
    Memory.wf s'.mem := by
  unfold execLinkUpTimeout at hr
  injection hr with hr; subst hr; (repeat' (first | with_reducible exact hw | with_reducible assumption | with_reducible apply startFail_wf | with_reducible refine foldl_wf _ ?_ _ _ ?_ | (intro _; intros) | split | (dsimp only)))

theorem execCoreRelease_wf (s : State) {s' : State} (hw : Memory.wf s.mem) (hr : execCoreRelease s = .next s') :
    Memory.wf s'.mem := by
  unfold execCoreRelease at hr
  injection hr with hr; subst hr; (repeat' (first | with_reducible exact hw | with_reducible assumption | with_reducible apply enterMode_wf | with_reducible refine foldl_wf _ ?_ _ _ ?_ | (intro _; intros) | split | simp only [↓blankGrant_mem, ↓kilnDrive_mem, ↓raise_mem, ↓releaseProbation_mem, ↓releaseUnits_mem] | (dsimp only)))

theorem execSupplyFault_wf (supply : Supply) (above : Bool) (s : State) {s' : State} (hw : Memory.wf s.mem) (hr : execSupplyFault supply
    above s = .next s') :
    Memory.wf s'.mem := by
  unfold execSupplyFault at hr
  injection hr with hr; subst hr; (repeat' (first | with_reducible exact hw | with_reducible assumption | with_reducible apply allOff_wf | with_reducible refine foldl_wf _ ?_ _ _ ?_ | (intro _; intros) | split | simp only [↓setBit_mem, ↓kilnCond_mem, ↓raise_mem, ↓showSupplies_mem] | (dsimp only)))

theorem execDormantDomainOff_wf (s : State) {s' : State} (hw : Memory.wf s.mem) (hr : execDormantDomainOff s = .next s') :
    Memory.wf s'.mem := by
  unfold execDormantDomainOff at hr
  injection hr with hr; subst hr; (repeat' (first | with_reducible exact hw | with_reducible assumption | with_reducible apply domainOff_wf | with_reducible refine foldl_wf _ ?_ _ _ ?_ | (intro _; intros) | split | simp only [↓kilnDrive_mem] | (dsimp only)))

theorem storeWords_wf (s : State) (a : Nat) (y2 : List Word) (hw : Memory.wf s.mem) :
    Memory.wf (State.storeWords s a y2).mem := by
  induction y2 generalizing s a with
  | nil => exact hw
  | cons b r ih => exact ih _ _ (store_wf _ _ _ _ hw)

theorem installProgram_wf (p : List Word) (s : State) (hw : Memory.wf s.mem) :
    Memory.wf (installProgram p s).mem := by
  simp only [installProgram]; (repeat' (first | with_reducible exact hw | with_reducible assumption | with_reducible apply storeWords_wf | with_reducible refine foldl_wf _ ?_ _ _ ?_ | (intro _; intros) | split | simp only [↓set_mem, ↓refreshArmed_mem] | (dsimp only)))

theorem passBoundary_wf (s : State) (hw : Memory.wf s.mem) :
    Memory.wf (passBoundary s).mem := by
  simp only [passBoundary]; (repeat' (first | with_reducible exact hw | with_reducible assumption | with_reducible apply installProgram_wf | with_reducible refine foldl_wf _ ?_ _ _ ?_ | (intro _; intros) | split | (dsimp only)))

theorem triggerPass_wf (s : State) (hw : Memory.wf s.mem) :
    Memory.wf (triggerPass s).mem := by
  simp only [triggerPass]; (repeat' (first | with_reducible exact hw | with_reducible assumption | with_reducible apply passBoundary_wf | with_reducible refine foldl_wf _ ?_ _ _ ?_ | (intro _; intros) | split | simp only [↓startPass_mem] | (dsimp only)))

theorem endPass_wf (s : State) (hw : Memory.wf s.mem) :
    Memory.wf (endPass s).mem := by
  simp only [endPass]; (repeat' (first | with_reducible exact hw | with_reducible assumption | with_reducible apply passBoundary_wf | with_reducible refine foldl_wf _ ?_ _ _ ?_ | (intro _; intros) | split | simp only [↓startPass_mem] | (dsimp only)))

theorem emberFault_wf (code : Nat) (s : State) (hw : Memory.wf s.mem) :
    Memory.wf (emberFault code s).mem := by
  simp only [emberFault]; (repeat' (first | with_reducible exact hw | with_reducible assumption | with_reducible apply endPass_wf | with_reducible refine foldl_wf _ ?_ _ _ ?_ | (intro _; intros) | split | simp only [↓set_mem, ↓issue_mem, ↓raise_mem, ↓wakeDecision_mem] | (dsimp only)))

theorem execPassTimerExpiry_wf (s : State) {s' : State} (hw : Memory.wf s.mem) (hr : execPassTimerExpiry s = .next s') :
    Memory.wf s'.mem := by
  unfold execPassTimerExpiry at hr
  injection hr with hr; subst hr; (repeat' (first | with_reducible exact hw | with_reducible assumption | with_reducible apply triggerPass_wf | with_reducible refine foldl_wf _ ?_ _ _ ?_ | (intro _; intros) | split | (dsimp only)))

theorem execWakePinEdge_wf (pin : Fin 4) (rising : Bool) (s : State) {s' : State} (hw : Memory.wf s.mem) (hr : execWakePinEdge pin rising
    s = .next s') :
    Memory.wf s'.mem := by
  unfold execWakePinEdge at hr
  injection hr with hr; subst hr; (repeat' (first | with_reducible exact hw | with_reducible assumption | with_reducible apply triggerPass_wf | with_reducible refine foldl_wf _ ?_ _ _ ?_ | (intro _; intros) | split | simp only [↓wakeDecision_mem] | (dsimp only)))

theorem execRtcSecondTick_wf (s : State) {s' : State} (hw : Memory.wf s.mem) (hr : execRtcSecondTick s = .next s') :
    Memory.wf s'.mem := by
  unfold execRtcSecondTick at hr
  injection hr with hr; subst hr; (repeat' (first | with_reducible exact hw | with_reducible assumption | with_reducible apply triggerPass_wf | with_reducible refine foldl_wf _ ?_ _ _ ?_ | (intro _; intros) | split | simp only [↓set_mem] | (dsimp only)))

theorem execPassLimit_wf (s : State) {s' : State} (hw : Memory.wf s.mem) (hr : execPassLimit s = .next s') :
    Memory.wf s'.mem := by
  unfold execPassLimit at hr
  injection hr with hr; subst hr; (repeat' (first | with_reducible exact hw | with_reducible assumption | with_reducible apply emberFault_wf | with_reducible refine foldl_wf _ ?_ _ _ ?_ | (intro _; intros) | split | (dsimp only)))

theorem execEmbIllegalOpcode_wf (parity : Bool) (s : State) {s' : State} (hw : Memory.wf s.mem) (hr : execEmbIllegalOpcode parity s =
    .next s') :
    Memory.wf s'.mem := by
  unfold execEmbIllegalOpcode at hr
  injection hr with hr; subst hr; (repeat' (first | with_reducible exact hw | with_reducible assumption | with_reducible apply emberFault_wf | with_reducible refine foldl_wf _ ?_ _ _ ?_ | (intro _; intros) | split | simp only [↓set_mem] | (dsimp only)))

theorem embInstr_wf (f : State → State) (s : State) (hw : Memory.wf s.mem) (hf : ∀ t, Memory.wf t.mem → Memory.wf (f t).mem) :
    Memory.wf (embInstr f s).mem := by
  simp only [embInstr]; (repeat' (first | with_reducible exact hw | with_reducible assumption | with_reducible apply hf | with_reducible refine foldl_wf _ ?_ _ _ ?_ | (intro _; intros) | split | simp only [↓embGo_mem] | (dsimp only)))

theorem execEmbSleep_wf (s : State) {s' : State} (hw : Memory.wf s.mem) (hr : execEmbSleep s = .next s') :
    Memory.wf s'.mem := by
  unfold execEmbSleep at hr
  injection hr with hr; subst hr; (repeat' (first | with_reducible exact hw | with_reducible assumption | with_reducible apply endPass_wf | with_reducible refine foldl_wf _ ?_ _ _ ?_ | (intro _; intros) | split | simp only [↓embGo_mem] | (dsimp only)))

theorem execEmbSt_wf (rd : Fin 16) (ra : Fin 16) (imm : BitVec 16) (s : State) {s' : State} (hw : Memory.wf s.mem) (hr : execEmbSt rd ra
    imm s = .next s') :
    Memory.wf s'.mem := by
  unfold execEmbSt at hr
  injection hr with hr; subst hr; (repeat' (first | with_reducible exact hw | with_reducible assumption | with_reducible apply store_wf | with_reducible apply embInstr_wf | with_reducible refine foldl_wf _ ?_ _ _ ?_ | (intro _; intros) | split | simp only [↓embInstr_mem] | (dsimp only)))

theorem execEmbWake_wf (imm : BitVec 16) (directEdge : Option (Fin 4)) (s : State) {s' : State} (hw : Memory.wf s.mem) (hr : execEmbWake
    imm directEdge s = .next s') :
    Memory.wf s'.mem := by
  unfold execEmbWake at hr
  injection hr with hr; subst hr; (repeat' (first | with_reducible exact hw | with_reducible assumption | with_reducible apply endPass_wf | with_reducible refine foldl_wf _ ?_ _ _ ?_ | (intro _; intros) | split | simp only [↓set_mem, ↓embGo_mem, ↓wakeDecision_mem] | (dsimp only)))

theorem execEmberProgramLoad_wf (m : Master) (prog : List Word) (s : State) {s' : State} (hw : Memory.wf s.mem) (hr :
    execEmberProgramLoad m prog s = .next s') :
    Memory.wf s'.mem := by
  unfold execEmberProgramLoad at hr
  split at hr <;> (injection hr with hr; subst hr; (repeat' (first | with_reducible exact hw | with_reducible assumption | with_reducible apply installProgram_wf | with_reducible refine foldl_wf _ ?_ _ _ ?_ | (intro _; intros) | split | simp only [↓answer_mem, ↓busError_mem] | (dsimp only))))

theorem applyRecord_wf (r : ConfigRec) (s : State) (hw : Memory.wf s.mem) :
    Memory.wf (applyRecord r s).mem := by
  simp only [applyRecord]; (repeat' (first | with_reducible exact hw | with_reducible assumption | with_reducible apply place_wf | with_reducible refine foldl_wf _ ?_ _ _ ?_ | (intro _; intros) | split | simp only [↓wr_mem, ↓plainWrite_mem] | (dsimp only)))

theorem applyConfig_wf (x : ConfigIn) (bench : Bool) (s : State) (hw : Memory.wf s.mem) :
    Memory.wf (applyConfig x bench s).mem := by
  simp only [applyConfig]; (repeat' (first | with_reducible exact hw | with_reducible assumption | with_reducible apply applyRecord_wf | with_reducible apply installProgram_wf | with_reducible refine foldl_wf _ ?_ _ _ ?_ | (intro _; intros) | split | simp only [↓set_mem, ↓refreshArmed_mem, ↓writeDefaults_mem, ↓writeSystem_mem] | (dsimp only)))

theorem loadFail_wf (code : Nat) (s : State) (hw : Memory.wf s.mem) :
    Memory.wf (loadFail code s).mem := by
  simp only [loadFail]; (repeat' (first | with_reducible exact hw | with_reducible assumption | with_reducible apply startFail_wf | with_reducible refine foldl_wf _ ?_ _ _ ?_ | (intro _; intros) | split | (dsimp only)))

theorem limpFall_wf (code : Nat) (s : State) (hw : Memory.wf s.mem) :
    Memory.wf (limpFall code s).mem := by
  simp only [limpFall]; (repeat' (first | with_reducible exact hw | with_reducible assumption | with_reducible apply startFail_wf | with_reducible refine foldl_wf _ ?_ _ _ ?_ | (intro _; intros) | split | simp only [↓set_mem, ↓setLoader_mem] | (dsimp only)))

theorem updateFall_wf (code : Nat) (s : State) (hw : Memory.wf s.mem) :
    Memory.wf (updateFall code s).mem := by
  simp only [updateFall]; (repeat' (first | with_reducible exact hw | with_reducible assumption | with_reducible apply limpFall_wf | with_reducible refine foldl_wf _ ?_ _ _ ?_ | (intro _; intros) | split | simp only [↓issue_mem] | (dsimp only)))

theorem execFlashInit_wf (x : FlashInfo) (s : State) {s' : State} (hw : Memory.wf s.mem) (hr : execFlashInit x s = .next s') :
    Memory.wf s'.mem := by
  unfold execFlashInit at hr
  injection hr with hr; subst hr; (repeat' (first | with_reducible exact hw | with_reducible assumption | with_reducible apply loadFail_wf | with_reducible refine foldl_wf _ ?_ _ _ ?_ | (intro _; intros) | split | simp only [↓set_mem, ↓setLoader_mem] | (dsimp only)))

theorem settleUpdate_wf (s : State) (hw : Memory.wf s.mem) :
    Memory.wf (settleUpdate s).2.mem := by
  simp only [settleUpdate]; (repeat' (first | with_reducible exact hw | with_reducible assumption | with_reducible apply updateFall_wf | with_reducible refine foldl_wf _ ?_ _ _ ?_ | (intro _; intros) | split | simp only [apply_ite Prod.snd, apply_ite Prod.fst, ↓set_mem, ↓setJournal_mem, ↓confirmJournal_mem, ↓tndShow_mem] | (dsimp only)))

theorem takeHeader_wf (h : Header) (s : State) (hw : Memory.wf s.mem) :
    Memory.wf (takeHeader h s).mem := by
  simp only [takeHeader]; (repeat' (first | with_reducible exact hw | with_reducible assumption | with_reducible apply limpFall_wf | with_reducible apply loadFail_wf | with_reducible refine foldl_wf _ ?_ _ _ ?_ | (intro _; intros) | split | simp only [↓setLoader_mem] | (dsimp only)))

theorem execHeaderVerified_wf (h : Header) (readOk : Bool) (s : State) {s' : State} (hw : Memory.wf s.mem) (hr : execHeaderVerified h
    readOk s = .next s') :
    Memory.wf s'.mem := by
  unfold execHeaderVerified at hr
  injection hr with hr; subst hr; (repeat' (first | with_reducible exact hw | with_reducible assumption | with_reducible apply loadFail_wf | with_reducible apply settleUpdate_wf | with_reducible apply takeHeader_wf | with_reducible refine foldl_wf _ ?_ _ _ ?_ | (intro _; intros) | split | simp only [apply_ite Prod.snd, apply_ite Prod.fst] | (dsimp only))) <;> grind [loadFail_wf, settleUpdate_wf, takeHeader_wf]

theorem execDescriptorsVerified_wf (ds : List Descriptor) (readOk : Bool) (s : State) {s' : State} (hw : Memory.wf s.mem) (hr :
    execDescriptorsVerified ds readOk s = .next s') :
    Memory.wf s'.mem := by
  unfold execDescriptorsVerified at hr
  injection hr with hr; subst hr; (repeat' (first | with_reducible exact hw | with_reducible assumption | with_reducible apply limpFall_wf | with_reducible apply loadFail_wf | with_reducible apply updateFall_wf | with_reducible refine foldl_wf _ ?_ _ _ ?_ | (intro _; intros) | split | simp only [↓setLoader_mem] | (dsimp only)))

theorem loadTcms_wf (p : Nat) (data : List Byte) (s : State) (hw : Memory.wf s.mem) :
    Memory.wf (loadTcms p data s).mem := by
  simp only [loadTcms]; (repeat' (first | with_reducible exact hw | with_reducible assumption | with_reducible apply place_wf | with_reducible refine foldl_wf _ ?_ _ _ ?_ | (intro _; intros) | split | (dsimp only)))

theorem placeComponent_wf (d : Descriptor) (data : List Byte) (program : List Word) (s : State) (hw : Memory.wf s.mem) :
    Memory.wf (placeComponent d data program s).mem := by
  simp only [placeComponent]; (repeat' (first | with_reducible exact hw | with_reducible assumption | with_reducible apply loadTcms_wf | with_reducible apply place_wf | with_reducible refine foldl_wf _ ?_ _ _ ?_ | (intro _; intros) | split | simp only [↓set_mem, ↓setLoader_mem] | (dsimp only)))

theorem execComponentVerified_wf (x : Streamed) (s : State) {s' : State} (hw : Memory.wf s.mem) (hr : execComponentVerified x s = .next
    s') :
    Memory.wf s'.mem := by
  unfold execComponentVerified at hr
  injection hr with hr; subst hr; (repeat' (first | with_reducible exact hw | with_reducible assumption | with_reducible apply limpFall_wf | with_reducible apply loadFail_wf | with_reducible apply placeComponent_wf | with_reducible apply updateFall_wf | with_reducible refine foldl_wf _ ?_ _ _ ?_ | (intro _; intros) | split | simp only [↓set_mem, ↓setLoader_mem] | (dsimp only)))

theorem execConfigRecordsApply_wf (x : ConfigIn) (wo : WriteOnce) (s : State) {s' : State} (hw : Memory.wf s.mem) (hr :
    execConfigRecordsApply x wo s = .next s') :
    Memory.wf s'.mem := by
  unfold execConfigRecordsApply at hr
  injection hr with hr; subst hr; (repeat' (first | with_reducible exact hw | with_reducible assumption | with_reducible apply applyConfig_wf | with_reducible apply limpFall_wf | with_reducible refine foldl_wf _ ?_ _ _ ?_ | (intro _; intros) | split | simp only [↓setLoader_mem] | (dsimp only)))

theorem execWriteOnceWrite_wf (readOk : Bool) (s : State) {s' : State} (hw : Memory.wf s.mem) (hr : execWriteOnceWrite readOk s = .next
    s') :
    Memory.wf s'.mem := by
  unfold execWriteOnceWrite at hr
  injection hr with hr; subst hr; (repeat' (first | with_reducible exact hw | with_reducible assumption | with_reducible apply loadFail_wf | with_reducible refine foldl_wf _ ?_ _ _ ?_ | (intro _; intros) | split | simp only [↓setLoader_mem, ↓writeOnce_mem] | (dsimp only)))

theorem execKilnTableTransfer_wf (intact : Bool) (s : State) {s' : State} (hw : Memory.wf s.mem) (hr : execKilnTableTransfer intact s =
    .next s') :
    Memory.wf s'.mem := by
  unfold execKilnTableTransfer at hr
  injection hr with hr; subst hr; (repeat' (first | with_reducible exact hw | with_reducible assumption | with_reducible apply startFail_wf | with_reducible refine foldl_wf _ ?_ _ _ ?_ | (intro _; intros) | split | simp only [↓set_mem, ↓setKln_mem, ↓setLoader_mem, ↓kilnLock_mem] | (dsimp only)))

theorem execFlashReadError_wf (s : State) {s' : State} (hw : Memory.wf s.mem) (hr : execFlashReadError s = .next s') :
    Memory.wf s'.mem := by
  unfold execFlashReadError at hr
  injection hr with hr; subst hr; (repeat' (first | with_reducible exact hw | with_reducible assumption | with_reducible apply loadFail_wf | with_reducible refine foldl_wf _ ?_ _ _ ?_ | (intro _; intros) | split | simp only [↓flashReadError_mem] | (dsimp only)))

theorem ringWrite_wf (n : Nat) (hdr : List Byte) (payload : List Byte) (s : State) (hw : Memory.wf s.mem) :
    Memory.wf (ringWrite n hdr payload s).mem := by
  simp only [ringWrite]; (repeat' (first | with_reducible exact hw | with_reducible assumption | with_reducible apply place_wf | with_reducible refine foldl_wf _ ?_ _ _ ?_ | (intro _; intros) | split | simp only [↓set_mem, ↓setCan_mem, ↓wr_mem, ↓bumpCan_mem, ↓issue_mem, ↓raise_mem] | (dsimp only)))

theorem execFrameReceived_wf (n : Fin 4) (f : RxFrame) (s : State) {s' : State} (hw : Memory.wf s.mem) (hr : execFrameReceived n f s =
    .next s') :
    Memory.wf s'.mem := by
  unfold execFrameReceived at hr
  injection hr with hr; subst hr; (repeat' (first | with_reducible exact hw | with_reducible assumption | with_reducible apply ringWrite_wf | with_reducible refine foldl_wf _ ?_ _ _ ?_ | (intro _; intros) | split | simp only [↓frameBoundary_mem, ↓goodReceive_mem] | (dsimp only)))

theorem echo_wf (n : Nat) (e : TxEntry) (late : Bool) (abandoned : Bool) (s : State) (hw : Memory.wf s.mem) :
    Memory.wf (echo n e late abandoned s).mem := by
  simp only [echo]; (repeat' (first | with_reducible exact hw | with_reducible assumption | with_reducible apply ringWrite_wf | with_reducible refine foldl_wf _ ?_ _ _ ?_ | (intro _; intros) | split | (dsimp only)))

theorem execTxFrameSent_wf (n : Fin 4) (s : State) {s' : State} (hw : Memory.wf s.mem) (hr : execTxFrameSent n s = .next s') :
    Memory.wf s'.mem := by
  unfold execTxFrameSent at hr
  injection hr with hr; subst hr; (repeat' (first | with_reducible exact hw | with_reducible assumption | with_reducible apply echo_wf | with_reducible refine foldl_wf _ ?_ _ _ ?_ | (intro _; intros) | split | simp only [↓confine_mem, ↓frameBoundary_mem, ↓popHead_mem] | (dsimp only)))

theorem execTxAttemptError_wf (n : Fin 4) (passive : Bool) (s : State) {s' : State} (hw : Memory.wf s.mem) (hr : execTxAttemptError n
    passive s = .next s') :
    Memory.wf s'.mem := by
  unfold execTxAttemptError at hr
  injection hr with hr; subst hr; (repeat' (first | with_reducible exact hw | with_reducible assumption | with_reducible apply echo_wf | with_reducible refine foldl_wf _ ?_ _ _ ?_ | (intro _; intros) | split | simp only [↓set_mem, ↓bumpCan_mem, ↓confine_mem, ↓frameBoundary_mem, ↓issue_mem, ↓popHead_mem, ↓raise_mem] | (dsimp only)))

theorem markRecord_wf (n : Nat) (off : Nat) (k : Nat) (s : State) (hw : Memory.wf s.mem) :
    Memory.wf (markRecord n off k s).mem := by
  simp only [markRecord]; (repeat' (first | with_reducible exact hw | with_reducible assumption | with_reducible apply place_wf | with_reducible refine foldl_wf _ ?_ _ _ ?_ | (intro _; intros) | split | (dsimp only)))

theorem flood_wf (n : Nat) (off : Nat) (s : State) (hw : Memory.wf s.mem) :
    Memory.wf (flood n off s).mem := by
  simp only [flood]; (repeat' (first | with_reducible exact hw | with_reducible assumption | with_reducible apply markRecord_wf | with_reducible refine foldl_wf _ ?_ _ _ ?_ | (intro _; intros) | split | simp only [↓setReel_mem, ↓bumpReel_mem, ↓issue_mem, ↓raise_mem] | (dsimp only)))

theorem acceptFresh_wf (d : Nat) (f : Nat) (s : State) (hw : Memory.wf s.mem) :
    Memory.wf (acceptFresh d f s).mem := by
  simp only [acceptFresh]; (repeat' (first | with_reducible exact hw | with_reducible assumption | with_reducible apply store_wf | with_reducible refine foldl_wf _ ?_ _ _ ?_ | (intro _; intros) | split | simp only [↓set_mem, ↓setReel_mem, ↓issue_mem] | (dsimp only)))

theorem authFail_wf (n : Nat) (off : Nat) (d : Nat) (p : RxDef) (s : State) (hw : Memory.wf s.mem) :
    Memory.wf (authFail n off d p s).mem := by
  simp only [authFail]; (repeat' (first | with_reducible exact hw | with_reducible assumption | with_reducible apply markRecord_wf | with_reducible refine foldl_wf _ ?_ _ _ ?_ | (intro _; intros) | split | simp only [↓setReel_mem, ↓bumpReel_mem, ↓issue_mem, ↓raise_mem] | (dsimp only)))

theorem deliverRecord_wf (n : Nat) (off : Nat) (d : Nat) (p : Nat) (s : State) (hw : Memory.wf s.mem) :
    Memory.wf (deliverRecord n off d p s).mem := by
  simp only [deliverRecord]; (repeat' (first | with_reducible exact hw | with_reducible assumption | with_reducible apply markRecord_wf | with_reducible apply place_wf | with_reducible refine foldl_wf _ ?_ _ _ ?_ | (intro _; intros) | split | simp only [↓setReel_mem, ↓bumpReel_mem, ↓raise_mem] | (dsimp only)))

theorem runOutcome_wf (n : Nat) (off : Nat) (r : ReelRun) (s : State) (hw : Memory.wf s.mem) :
    Memory.wf (runOutcome n off r s).mem := by
  simp only [runOutcome]; (repeat' (first | with_reducible exact hw | with_reducible assumption | with_reducible apply deliverRecord_wf | with_reducible apply markRecord_wf | with_reducible refine foldl_wf _ ?_ _ _ ?_ | (intro _; intros) | split | simp only [apply_ite Prod.snd, apply_ite Prod.fst, ↓pushEntry_mem] | (dsimp only)))

theorem execReelRecordRun_wf (n : Fin 4) (r : ReelRun) (s : State) {s' : State} (hw : Memory.wf s.mem) (hr : execReelRecordRun n r s =
    .next s') :
    Memory.wf s'.mem := by
  unfold execReelRecordRun at hr
  injection hr with hr; subst hr; (repeat' (first | with_reducible exact hw | with_reducible assumption | with_reducible apply acceptFresh_wf | with_reducible apply authFail_wf | with_reducible apply flood_wf | with_reducible apply runOutcome_wf | with_reducible refine foldl_wf _ ?_ _ _ ?_ | (intro _; intros) | split | simp only [apply_ite Prod.snd, apply_ite Prod.fst, ↓setReel_mem, ↓passRecord_mem, ↓takeToken_mem] | (dsimp only)))

theorem execReelOverrun_wf (n : Fin 4) (how : ReelEnd) (s : State) {s' : State} (hw : Memory.wf s.mem) (hr : execReelOverrun n how s =
    .next s') :
    Memory.wf s'.mem := by
  unfold execReelOverrun at hr
  injection hr with hr; subst hr; (repeat' (first | with_reducible exact hw | with_reducible assumption | with_reducible apply markRecord_wf | with_reducible refine foldl_wf _ ?_ _ _ ?_ | (intro _; intros) | split | simp only [↓setReel_mem, ↓bumpReel_mem, ↓passRecord_mem, ↓raise_mem, ↓reelReset_mem] | (dsimp only)))

theorem nextFresh_wf (d : Nat) (s : State) (hw : Memory.wf s.mem) :
    Memory.wf (nextFresh d s).2.mem := by
  simp only [nextFresh]; (repeat' (first | with_reducible exact hw | with_reducible assumption | with_reducible apply store_wf | with_reducible refine foldl_wf _ ?_ _ _ ?_ | (intro _; intros) | split | simp only [apply_ite Prod.snd, apply_ite Prod.fst, ↓set_mem, ↓setReel_mem, ↓issue_mem] | (dsimp only)))

theorem pushOwn_wf (k : Nat) (d : TxDef) (data : List Byte) (at_ : Option Nat) (s : State) (hw : Memory.wf s.mem) :
    Memory.wf (pushOwn k d data at_ s).2.mem := by
  simp only [pushOwn]; (repeat' (first | with_reducible exact hw | with_reducible assumption | with_reducible apply nextFresh_wf | with_reducible apply place_wf | with_reducible refine foldl_wf _ ?_ _ _ ?_ | (intro _; intros) | split | simp only [apply_ite Prod.snd, apply_ite Prod.fst, ↓pushEntry_mem] | (dsimp only)))

theorem execStatusFrameDue_wf (d : Fin 32) (s : State) {s' : State} (hw : Memory.wf s.mem) (hr : execStatusFrameDue d s = .next s') :
    Memory.wf s'.mem := by
  unfold execStatusFrameDue at hr
  injection hr with hr; subst hr; (repeat' (first | with_reducible exact hw | with_reducible assumption | with_reducible apply pushOwn_wf | with_reducible refine foldl_wf _ ?_ _ _ ?_ | (intro _; intros) | split | simp only [apply_ite Prod.snd, apply_ite Prod.fst, ↓setReel_mem] | (dsimp only)))

theorem sendEvent_wf (s : State) (hw : Memory.wf s.mem) :
    Memory.wf (sendEvent s).mem := by
  simp only [sendEvent]; (repeat' (first | with_reducible exact hw | with_reducible assumption | with_reducible apply pushOwn_wf | with_reducible refine foldl_wf _ ?_ _ _ ?_ | (intro _; intros) | split | simp only [apply_ite Prod.snd, apply_ite Prod.fst, ↓setReel_mem] | (dsimp only)))

theorem pushDtos_wf (d : TxDef) (y1 : List (List Byte)) (y2 : Nat) (y3 : State) (hw : Memory.wf y3.mem) :
    Memory.wf (pushDtos d y1 y2 y3).2.mem := by
  induction y1 generalizing y2 y3 with
  | nil => exact hw
  | cons f r ih => exact ih _ _ (pushOwn_wf _ _ _ _ _ hw)

theorem packSample_wf (i : Nat) (s : State) (hw : Memory.wf s.mem) :
    Memory.wf (packSample i s).mem := by
  simp only [packSample]; (repeat' (first | with_reducible exact hw | with_reducible assumption | with_reducible apply pushDtos_wf | with_reducible refine foldl_wf _ ?_ _ _ ?_ | (intro _; intros) | split | simp only [apply_ite Prod.snd, apply_ite Prod.fst, ↓set_mem] | (dsimp only)))

theorem reelTick_wf (s : State) (hw : Memory.wf s.mem) :
    Memory.wf (reelTick s).mem := by
  simp only [reelTick]; (repeat' (first | with_reducible exact hw | with_reducible assumption | with_reducible apply packSample_wf | with_reducible apply sendEvent_wf | with_reducible refine foldl_wf _ ?_ _ _ ?_ | (intro _; intros) | split | (dsimp only)))

theorem execAxleCmd_wf (x : AxleCmd) (s : State) {s' : State} (hw : Memory.wf s.mem) (hr : execAxleCmd x s = .next s') :
    Memory.wf s'.mem := by
  unfold execAxleCmd at hr
  injection hr with hr; subst hr; (repeat' (first | with_reducible exact hw | with_reducible assumption | with_reducible apply modeRequest_wf | with_reducible apply quietly_wf | with_reducible refine foldl_wf _ ?_ _ _ ?_ | (intro _; intros) | split | simp only [↓aliveBreak_mem, ↓axleTorque_mem, ↓quietly_mem, ↓supAlive_mem] | (dsimp only)))

theorem whorlBatches_wf (ws : List (Nat × Word)) (s : State) (hw : Memory.wf s.mem) :
    Memory.wf (whorlBatches ws s).mem := by
  simp only [whorlBatches]; (repeat' (first | with_reducible exact hw | with_reducible assumption | with_reducible apply coefWrite_wf | with_reducible refine foldl_wf _ ?_ _ _ ?_ | (intro _; intros) | split | simp only [↓set_mem] | (dsimp only)))

theorem pageToWhorls_wf (working : Bool) (s : State) (hw : Memory.wf s.mem) :
    Memory.wf (pageToWhorls working s).mem := by
  simp only [pageToWhorls]; (repeat' (first | with_reducible exact hw | with_reducible assumption | with_reducible apply whorlBatches_wf | with_reducible refine foldl_wf _ ?_ _ _ ?_ | (intro _; intros) | split | (dsimp only)))

theorem pageKeeps_wf (a : Nat) (v : Word) (s : State) (hw : Memory.wf s.mem) :
    Memory.wf (pageKeeps a v s).mem := by
  simp only [pageKeeps]; (repeat' (first | with_reducible exact hw | with_reducible assumption | with_reducible apply place_wf | with_reducible refine foldl_wf _ ?_ _ _ ?_ | (intro _; intros) | split | (dsimp only)))

theorem sigWrite_wf (k : Nat) (v : Word) (synd : Syndrome) (s : State) (hw : Memory.wf s.mem) :
    Memory.wf (sigWrite k v synd s).mem := by
  simp only [sigWrite]; (repeat' (first | with_reducible exact hw | with_reducible assumption | with_reducible apply memWrite_wf | with_reducible apply pageKeeps_wf | with_reducible apply whorlBatches_wf | with_reducible refine foldl_wf _ ?_ _ _ ?_ | (intro _; intros) | split | simp only [↓answer_mem, ↓busError_mem] | (dsimp only)))

theorem xcpCmd_wf (f : State → State) (s : State) {s' : State} (hw : Memory.wf s.mem) (hf : ∀ t,
    Memory.wf t.mem → Memory.wf (f t).mem) (hr : xcpCmd f s = .next s') :
    Memory.wf s'.mem := by
  unfold xcpCmd at hr
  injection hr with hr; subst hr; (repeat' (first | with_reducible exact hw | with_reducible assumption | with_reducible apply hf | with_reducible apply quietly_wf | with_reducible refine foldl_wf _ ?_ _ _ ?_ | (intro _; intros) | split | simp only [↓reply_mem, ↓quietly_mem] | (dsimp only)))

theorem download_wf (data : List Byte) (s : State) (hw : Memory.wf s.mem) :
    Memory.wf (download data s).mem := by
  simp only [download]; (repeat' (first | with_reducible exact hw | with_reducible assumption | with_reducible apply sigWrite_wf | with_reducible refine foldl_wf _ ?_ _ _ ?_ | (intro _; intros) | split | simp only [↓reply_mem, ↓setXcp_mem] | (dsimp only)))

theorem execXcpDownload_wf (data : List Byte) (s : State) {s' : State} (hw : Memory.wf s.mem) (hr : execXcpDownload data s = .next s') :
    Memory.wf s'.mem := by
  unfold execXcpDownload at hr
  exact xcpCmd_wf _ _ hw (by intros; (repeat' (first | with_reducible exact hw | with_reducible assumption | with_reducible apply download_wf | with_reducible refine foldl_wf _ ?_ _ _ ?_ | (intro _; intros) | split | (dsimp only)))) hr

theorem execXcpSetCalPage_wf (mode : Byte) (page : Byte) (s : State) {s' : State} (hw : Memory.wf s.mem) (hr : execXcpSetCalPage mode
    page s = .next s') :
    Memory.wf s'.mem := by
  unfold execXcpSetCalPage at hr
  exact xcpCmd_wf _ _ hw (by intros; (repeat' (first | with_reducible exact hw | with_reducible assumption | with_reducible apply pageToWhorls_wf | with_reducible refine foldl_wf _ ?_ _ _ ?_ | (intro _; intros) | split | simp only [↓reply_mem, ↓setXcp_mem] | (dsimp only)))) hr

theorem execXcpCopyCalPage_wf (src : Byte) (dst : Byte) (s : State) {s' : State} (hw : Memory.wf s.mem) (hr : execXcpCopyCalPage src dst
    s = .next s') :
    Memory.wf s'.mem := by
  unfold execXcpCopyCalPage at hr
  exact xcpCmd_wf _ _ hw (by intros; (repeat' (first | with_reducible exact hw | with_reducible assumption | with_reducible apply pageToWhorls_wf | with_reducible apply place_wf | with_reducible refine foldl_wf _ ?_ _ _ ?_ | (intro _; intros) | split | simp only [↓reply_mem] | (dsimp only)))) hr

theorem withList_wf (i : Nat) (f : DaqList → State → State) (s : State) (hw : Memory.wf s.mem) (hf : ∀ v0 t,
    Memory.wf t.mem → Memory.wf (f v0 t).mem) :
    Memory.wf (withList i f s).mem := by
  simp only [withList]; (repeat' (first | with_reducible exact hw | with_reducible assumption | with_reducible apply hf | with_reducible refine foldl_wf _ ?_ _ _ ?_ | (intro _; intros) | split | simp only [↓reply_mem] | (dsimp only)))

theorem refillTcms_wf (p : Nat) (image : List Byte) (s : State) (hw : Memory.wf s.mem) :
    Memory.wf (refillTcms p image s).mem := loadTcms_wf _ _ _ (SMap.filter_wf (fun _ => 0) _ _ hw)

theorem pairResetDone_wf (p : Nat) (synd : Syndrome) (s : State) (hw : Memory.wf s.mem) :
    Memory.wf (pairResetDone p synd s).mem := by
  simp only [pairResetDone]; (repeat' (first | with_reducible exact hw | with_reducible assumption | with_reducible apply refillTcms_wf | with_reducible refine foldl_wf _ ?_ _ _ ?_ | (intro _; intros) | split | simp only [apply_ite Prod.snd, apply_ite Prod.fst, ↓set_mem, ↓setPair_mem, ↓issue_mem, ↓raise_mem, ↓readWord_mem] | (dsimp only))) <;> grind [set_mem, setPair_mem, issue_mem, raise_mem, readWord_mem, refillTcms_wf]

theorem tcmLoadDone_wf (p : Nat) (s : State) (hw : Memory.wf s.mem) :
    Memory.wf (tcmLoadDone p s).mem := by
  simp only [tcmLoadDone]; (repeat' (first | with_reducible exact hw | with_reducible assumption | with_reducible apply refillTcms_wf | with_reducible refine foldl_wf _ ?_ _ _ ?_ | (intro _; intros) | split | simp only [↓setMigr_mem] | (dsimp only)))

theorem flashOp_wf (op : Nat) (step : Nat) (s : State) (hw : Memory.wf s.mem) :
    Memory.wf (flashOp op step s).mem := by
  simp only [flashOp]; (repeat' (first | with_reducible exact hw | with_reducible assumption | with_reducible refine foldl_wf _ ?_ _ _ ?_ | (intro _; intros) | split | simp only [↓set_mem, ↓setJournal_mem] | (dsimp only)))

theorem updWrite_wf (s : State) (hw : Memory.wf s.mem) :
    Memory.wf (updWrite s).mem := by
  simp only [updWrite]; (repeat' (first | with_reducible exact hw | with_reducible assumption | with_reducible apply flashOp_wf | with_reducible refine foldl_wf _ ?_ _ _ ?_ | (intro _; intros) | split | simp only [↓set_mem, ↓setStep_mem, ↓setUpd_mem, ↓outOfOrder_mem, ↓tndEnd_mem, ↓updReason_mem] | (dsimp only)))

theorem calSwitch_wf (new : Bool) (s : State) (hw : Memory.wf s.mem) :
    Memory.wf (calSwitch new s).mem := by
  simp only [calSwitch]; (repeat' (first | with_reducible exact hw | with_reducible assumption | with_reducible apply pageToWhorls_wf | with_reducible refine foldl_wf _ ?_ _ _ ?_ | (intro _; intros) | split | simp only [↓setB_mem] | (dsimp only)))

theorem updActivate_wf (s : State) (hw : Memory.wf s.mem) :
    Memory.wf (updActivate s).mem := by
  simp only [updActivate]; (repeat' (first | with_reducible exact hw | with_reducible assumption | with_reducible apply calSwitch_wf | with_reducible apply installProgram_wf | with_reducible apply place_wf | with_reducible refine foldl_wf _ ?_ _ _ ?_ | (intro _; intros) | split | simp only [↓set_mem, ↓setWant_mem, ↓outOfOrder_mem, ↓prepareFor_mem, ↓stepActive_mem, ↓tndEnd_mem, ↓updReason_mem] | (dsimp only)))

theorem undoStep_wf (k : Nat) (s : State) (hw : Memory.wf s.mem) :
    Memory.wf (undoStep k s).mem := by
  simp only [undoStep]; (repeat' (first | with_reducible exact hw | with_reducible assumption | with_reducible apply calSwitch_wf | with_reducible apply installProgram_wf | with_reducible refine foldl_wf _ ?_ _ _ ?_ | (intro _; intros) | split | simp only [↓setUpd_mem, ↓setWant_mem, ↓prepareFor_mem, ↓replaceComp_mem, ↓setVerified_mem] | (dsimp only)))

theorem undoAll_wf (s : State) (hw : Memory.wf s.mem) :
    Memory.wf (undoAll s).mem := by
  simp only [undoAll]; (repeat' (first | with_reducible exact hw | with_reducible assumption | with_reducible apply flashOp_wf | with_reducible apply undoStep_wf | with_reducible refine foldl_wf _ ?_ _ _ ?_ | (intro _; intros) | split | simp only [↓setUpd_mem, ↓updShowState_mem] | (dsimp only)))

theorem updRevert_wf (s : State) (hw : Memory.wf s.mem) :
    Memory.wf (updRevert s).mem := by
  simp only [updRevert]; (repeat' (first | with_reducible exact hw | with_reducible assumption | with_reducible apply undoAll_wf | with_reducible refine foldl_wf _ ?_ _ _ ?_ | (intro _; intros) | split | simp only [↓outOfOrder_mem, ↓revertBegin_mem, ↓revertDone_mem, ↓updReason_mem] | (dsimp only)))

theorem updConfirm_wf (advance : Bool) (s : State) (hw : Memory.wf s.mem) :
    Memory.wf (updConfirm advance s).mem := by
  simp only [updConfirm]; (repeat' (first | with_reducible exact hw | with_reducible assumption | with_reducible apply flashOp_wf | with_reducible refine foldl_wf _ ?_ _ _ ?_ | (intro _; intros) | split | simp only [↓set_mem, ↓setJournal_mem, ↓outOfOrder_mem] | (dsimp only)))

theorem confirmDone_wf (s : State) (hw : Memory.wf s.mem) :
    Memory.wf (confirmDone s).mem := by
  simp only [confirmDone]; (repeat' (first | with_reducible exact hw | with_reducible assumption | with_reducible apply place_wf | with_reducible refine foldl_wf _ ?_ _ _ ?_ | (intro _; intros) | split | simp only [↓set_mem, ↓setLoader_mem, ↓setUpd_mem, ↓confirmJournal_mem, ↓statClear_mem, ↓tndEnd_mem, ↓tndShow_mem] | (dsimp only)))

theorem writeFailed_wf (s : State) (hw : Memory.wf s.mem) :
    Memory.wf (writeFailed s).mem := by
  simp only [writeFailed]; (repeat' (first | with_reducible exact hw | with_reducible assumption | with_reducible apply undoAll_wf | with_reducible refine foldl_wf _ ?_ _ _ ?_ | (intro _; intros) | split | simp only [↓setStep_mem, ↓setUpd_mem, ↓issue_mem, ↓tndEnd_mem, ↓updReason_mem] | (dsimp only)))

theorem flashDone_wf (readOk : Bool) (s : State) (hw : Memory.wf s.mem) :
    Memory.wf (flashDone readOk s).mem := by
  simp only [flashDone]; (repeat' (first | with_reducible exact hw | with_reducible assumption | with_reducible apply confirmDone_wf | with_reducible apply undoAll_wf | with_reducible apply writeFailed_wf | with_reducible refine foldl_wf _ ?_ _ _ ?_ | (intro _; intros) | split | simp only [↓setStep_mem, ↓setUpd_mem, ↓flashIdle_mem, ↓raise_mem, ↓revertDone_mem, ↓tndEnd_mem, ↓updShowState_mem] | (dsimp only)))

theorem probationDeadline_wf (s : State) (hw : Memory.wf s.mem) :
    Memory.wf (probationDeadline s).mem := by
  simp only [probationDeadline]; (repeat' (first | with_reducible exact hw | with_reducible assumption | with_reducible apply undoAll_wf | with_reducible refine foldl_wf _ ?_ _ _ ?_ | (intro _; intros) | split | simp only [↓set_mem, ↓setJournal_mem, ↓issue_mem, ↓revertBegin_mem] | (dsimp only)))

theorem freshSet_wf (d : Nat) (tx : Bool) (v : Nat) (s : State) (hw : Memory.wf s.mem) :
    Memory.wf (freshSet d tx v s).mem := by
  simp only [freshSet]; (repeat' (first | with_reducible exact hw | with_reducible assumption | with_reducible apply store_wf | with_reducible refine foldl_wf _ ?_ _ _ ?_ | (intro _; intros) | split | simp only [↓setReel_mem] | (dsimp only)))

theorem privileged_wf (arg : PrivArg) (s : State) (hw : Memory.wf s.mem) :
    Memory.wf (privileged arg s).2.mem := by
  simp only [privileged]; (repeat' (first | with_reducible exact hw | with_reducible assumption | with_reducible apply freshSet_wf | with_reducible refine foldl_wf _ ?_ _ _ ?_ | (intro _; intros) | split | simp only [apply_ite Prod.snd, apply_ite Prod.fst, ↓setFuse_mem, ↓setPriv_mem, ↓lcAdvance_mem, ↓tndShow_mem] | (dsimp only)))

theorem response_wf (mb : Nat) (a : AuthIn) (arg : PrivArg) (s : State) (hw : Memory.wf s.mem) :
    Memory.wf (response mb a arg s).mem := by
  simp only [response]; (repeat' (first | with_reducible exact hw | with_reducible assumption | with_reducible apply privileged_wf | with_reducible refine foldl_wf _ ?_ _ _ ?_ | (intro _; intros) | split | simp only [apply_ite Prod.snd, apply_ite Prod.fst, ↓setTnd_mem, ↓authFailed_mem, ↓grantLevel_mem, ↓tndAnswer_mem] | (dsimp only)))

theorem keyImport_wf (slot : Nat) (key : Nat) (tagOk : Bool) (s : State) (hw : Memory.wf s.mem) :
    Memory.wf (keyImport slot key tagOk s).mem := by
  simp only [keyImport]; (repeat' (first | with_reducible exact hw | with_reducible assumption | with_reducible apply freshSet_wf | with_reducible refine foldl_wf _ ?_ _ _ ?_ | (intro _; intros) | split | simp only [↓setPriv_mem, ↓tndAnswer_mem] | (dsimp only)))

theorem service_wf (code : Nat) (x : ServiceIn) (s : State) (hw : Memory.wf s.mem) :
    Memory.wf (service code x s).mem := by
  simp only [service]; (repeat' (first | with_reducible exact hw | with_reducible assumption | with_reducible apply place_wf | with_reducible refine foldl_wf _ ?_ _ _ ?_ | (intro _; intros) | split | simp only [↓tndAnswer_mem] | (dsimp only)))

theorem ownCode_wf (mb : Nat) (arg : PrivArg) (s : State) (hw : Memory.wf s.mem) :
    Memory.wf (ownCode mb arg s).mem := by
  simp only [ownCode]; (repeat' (first | with_reducible exact hw | with_reducible assumption | with_reducible apply privileged_wf | with_reducible refine foldl_wf _ ?_ _ _ ?_ | (intro _; intros) | split | simp only [apply_ite Prod.snd, apply_ite Prod.fst, ↓tndAnswer_mem] | (dsimp only)))

theorem updCmd_wf (mb : Nat) (f : State → State) (s : State) (hw : Memory.wf s.mem) (hf : ∀ t, Memory.wf t.mem → Memory.wf (f t).mem) :
    Memory.wf (updCmd mb f s).mem := by
  simp only [updCmd]; (repeat' (first | with_reducible exact hw | with_reducible assumption | with_reducible apply hf | with_reducible refine foldl_wf _ ?_ _ _ ?_ | (intro _; intros) | split | simp only [↓tndAnswer_mem] | (dsimp only)))

theorem runCommand_wf (mb : Nat) (c : TndCommand) (s : State) (hw : Memory.wf s.mem) :
    Memory.wf (runCommand mb c s).mem := by
  simp only [runCommand]; (repeat' (first | with_reducible exact hw | with_reducible assumption | with_reducible apply keyImport_wf | with_reducible apply ownCode_wf | with_reducible apply privileged_wf | with_reducible apply response_wf | with_reducible apply service_wf | with_reducible apply updActivate_wf | with_reducible apply updCmd_wf | with_reducible apply updConfirm_wf | with_reducible apply updRevert_wf | with_reducible apply updWrite_wf | with_reducible refine foldl_wf _ ?_ _ _ ?_ | (intro _; intros) | split | simp only [apply_ite Prod.snd, apply_ite Prod.fst, ↓setTnd_mem, ↓challenge_mem, ↓debugRevoke_mem, ↓password_mem, ↓selfTest_mem, ↓tndAnswer_mem, ↓updBegin_mem, ↓updCmd_mem] | (dsimp only)))

theorem serveNext_wf (first : Nat) (s : State) (hw : Memory.wf s.mem) :
    Memory.wf (serveNext first s).mem := by
  simp only [serveNext]; (repeat' (first | with_reducible exact hw | with_reducible assumption | with_reducible apply runCommand_wf | with_reducible refine foldl_wf _ ?_ _ _ ?_ | (intro _; intros) | split | simp only [↓setTnd_mem] | (dsimp only)))

theorem tndWrite_wf (m : Master) (mb : Nat) (c : TndCommand) (s : State) (hw : Memory.wf s.mem) :
    Memory.wf (tndWrite m mb c s).mem := by
  simp only [tndWrite]; (repeat' (first | with_reducible exact hw | with_reducible assumption | with_reducible apply serveNext_wf | with_reducible refine foldl_wf _ ?_ _ _ ?_ | (intro _; intros) | split | simp only [↓answer_mem, ↓set_mem, ↓setTnd_mem, ↓busError_mem] | (dsimp only)))

theorem tndCommit_wf (m : Master) (mb : Nat) (c : TndCommand) (s : State) {s' : State} (hw : Memory.wf s.mem) (hr : tndCommit m mb c s =
    .next s') :
    Memory.wf s'.mem := by
  unfold tndCommit at hr
  injection hr with hr; subst hr; (repeat' (first | with_reducible exact hw | with_reducible assumption | with_reducible apply tndWrite_wf | with_reducible refine foldl_wf _ ?_ _ _ ?_ | (intro _; intros) | split | (dsimp only)))

theorem execGetInfo_wf (m : Master) (mb : Fin 3) (s : State) {s' : State} (hw : Memory.wf s.mem) (hr : execGetInfo m mb s = .next s') :
    Memory.wf s'.mem := by
  unfold execGetInfo at hr
  exact tndCommit_wf _ _ _ _ hw  hr

theorem execChallenge_wf (m : Master) (mb : Fin 3) (purpose : Byte) (lifetime : BitVec 32) (argHash : Nat) (nonce : Nat) (s : State) {s'
    : State} (hw : Memory.wf s.mem) (hr : execChallenge m mb purpose lifetime argHash nonce s = .next s') :
    Memory.wf s'.mem := by
  unfold execChallenge at hr
  exact tndCommit_wf _ _ _ _ hw  hr

theorem execResponse_wf (m : Master) (mb : Fin 3) (a : AuthIn) (arg : PrivArg) (s : State) {s' : State} (hw : Memory.wf s.mem) (hr :
    execResponse m mb a arg s = .next s') :
    Memory.wf s'.mem := by
  unfold execResponse at hr
  exact tndCommit_wf _ _ _ _ hw  hr

theorem execPassword_wf (m : Master) (mb : Fin 3) (hash : Nat) (s : State) {s' : State} (hw : Memory.wf s.mem) (hr : execPassword m mb
    hash s = .next s') :
    Memory.wf s'.mem := by
  unfold execPassword at hr
  exact tndCommit_wf _ _ _ _ hw  hr

theorem execClose_wf (m : Master) (mb : Fin 3) (s : State) {s' : State} (hw : Memory.wf s.mem) (hr : execClose m mb s = .next s') :
    Memory.wf s'.mem := by
  unfold execClose at hr
  exact tndCommit_wf _ _ _ _ hw  hr

theorem privCommit_wf (m : Master) (mb : Nat) (auth : Option AuthIn) (arg : PrivArg) (s : State) {s' : State} (hw : Memory.wf s.mem) (hr
    : privCommit m mb auth arg s = .next s') :
    Memory.wf s'.mem := by
  cases auth <;> exact tndCommit_wf _ _ _ _ hw hr

theorem execPwSet_wf (m : Master) (mb : Fin 3) (auth : Option AuthIn) (hash : Nat) (s : State) {s' : State} (hw : Memory.wf s.mem) (hr :
    execPwSet m mb auth hash s = .next s') :
    Memory.wf s'.mem := by
  unfold execPwSet at hr
  exact privCommit_wf _ _ _ _ _ hw  hr

theorem execKeyImport_wf (m : Master) (mb : Fin 3) (slot : Byte) (key : Nat) (tagOk : Bool) (s : State) {s' : State} (hw : Memory.wf
    s.mem) (hr : execKeyImport m mb slot key tagOk s = .next s') :
    Memory.wf s'.mem := by
  unfold execKeyImport at hr
  exact tndCommit_wf _ _ _ _ hw  hr

theorem execFreshSet_wf (m : Master) (mb : Fin 3) (auth : Option AuthIn) (dfn : Fin 128) (tx : Bool) (value : BitVec 32) (s : State) {s'
    : State} (hw : Memory.wf s.mem) (hr : execFreshSet m mb auth dfn tx value s = .next s') :
    Memory.wf s'.mem := by
  unfold execFreshSet at hr
  exact privCommit_wf _ _ _ _ _ hw  hr

theorem execAesGcm_wf (m : Master) (mb : Fin 3) (x : ServiceIn) (s : State) {s' : State} (hw : Memory.wf s.mem) (hr : execAesGcm m mb x s
    = .next s') :
    Memory.wf s'.mem := by
  unfold execAesGcm at hr
  exact tndCommit_wf _ _ _ _ hw  hr

theorem execCmac_wf (m : Master) (mb : Fin 3) (x : ServiceIn) (s : State) {s' : State} (hw : Memory.wf s.mem) (hr : execCmac m mb x s =
    .next s') :
    Memory.wf s'.mem := by
  unfold execCmac at hr
  exact tndCommit_wf _ _ _ _ hw  hr

theorem execHash_wf (m : Master) (mb : Fin 3) (x : ServiceIn) (s : State) {s' : State} (hw : Memory.wf s.mem) (hr : execHash m mb x s =
    .next s') :
    Memory.wf s'.mem := by
  unfold execHash at hr
  exact tndCommit_wf _ _ _ _ hw  hr

theorem execEcdsaVerify_wf (m : Master) (mb : Fin 3) (x : ServiceIn) (s : State) {s' : State} (hw : Memory.wf s.mem) (hr :
    execEcdsaVerify m mb x s = .next s') :
    Memory.wf s'.mem := by
  unfold execEcdsaVerify at hr
  exact tndCommit_wf _ _ _ _ hw  hr

theorem execLmsVerify_wf (m : Master) (mb : Fin 3) (x : ServiceIn) (s : State) {s' : State} (hw : Memory.wf s.mem) (hr : execLmsVerify m
    mb x s = .next s') :
    Memory.wf s'.mem := by
  unfold execLmsVerify at hr
  exact tndCommit_wf _ _ _ _ hw  hr

theorem execRandom_wf (m : Master) (mb : Fin 3) (x : ServiceIn) (s : State) {s' : State} (hw : Memory.wf s.mem) (hr : execRandom m mb x s
    = .next s') :
    Memory.wf s'.mem := by
  unfold execRandom at hr
  exact tndCommit_wf _ _ _ _ hw  hr

theorem execLcAdvance_wf (m : Master) (mb : Fin 3) (auth : Option AuthIn) (target : Fin 5) (copies : Fin 4) (s : State) {s' : State} (hw
    : Memory.wf s.mem) (hr : execLcAdvance m mb auth target copies s = .next s') :
    Memory.wf s'.mem := by
  unfold execLcAdvance at hr
  exact privCommit_wf _ _ _ _ _ hw  hr

theorem execSecAdvance_wf (m : Master) (mb : Fin 3) (auth : Option AuthIn) (limp : Bool) (value : Fin 257) (s : State) {s' : State} (hw :
    Memory.wf s.mem) (hr : execSecAdvance m mb auth limp value s = .next s') :
    Memory.wf s'.mem := by
  unfold execSecAdvance at hr
  exact privCommit_wf _ _ _ _ _ hw  hr

theorem execKeyProvision_wf (m : Master) (mb : Fin 3) (auth : Option AuthIn) (arg : PrivArg) (s : State) {s' : State} (hw : Memory.wf
    s.mem) (hr : execKeyProvision m mb auth arg s = .next s') :
    Memory.wf s'.mem := by
  unfold execKeyProvision at hr
  exact privCommit_wf _ _ _ _ _ hw  hr

theorem execKeyRevoke_wf (m : Master) (mb : Fin 3) (auth : Option AuthIn) (slot : Fin 4) (s : State) {s' : State} (hw : Memory.wf s.mem)
    (hr : execKeyRevoke m mb auth slot s = .next s') :
    Memory.wf s'.mem := by
  unfold execKeyRevoke at hr
  exact privCommit_wf _ _ _ _ _ hw  hr

theorem execSelfTest_wf (m : Master) (mb : Fin 3) (ok : Bool) (s : State) {s' : State} (hw : Memory.wf s.mem) (hr : execSelfTest m mb ok
    s = .next s') :
    Memory.wf s'.mem := by
  unfold execSelfTest at hr
  exact tndCommit_wf _ _ _ _ hw  hr

theorem execTndBadCommand_wf (m : Master) (mb : Fin 3) (code : Byte) (s : State) {s' : State} (hw : Memory.wf s.mem) (hr :
    execTndBadCommand m mb code s = .next s') :
    Memory.wf s'.mem := by
  unfold execTndBadCommand at hr
  exact tndCommit_wf _ _ _ _ hw  hr

theorem execTndCommandDone_wf (s : State) {s' : State} (hw : Memory.wf s.mem) (hr : execTndCommandDone s = .next s') :
    Memory.wf s'.mem := by
  unfold execTndCommandDone at hr
  injection hr with hr; subst hr; (repeat' (first | with_reducible exact hw | with_reducible assumption | with_reducible apply serveNext_wf | with_reducible refine foldl_wf _ ?_ _ _ ?_ | (intro _; intros) | split | simp only [↓set_mem, ↓setTnd_mem, ↓dataOut_mem, ↓raise_mem, ↓selfTestEnd_mem] | (dsimp only)))

theorem execUpdBegin_wf (m : Master) (mb : Fin 3) (x : Manifest) (s : State) {s' : State} (hw : Memory.wf s.mem) (hr : execUpdBegin m mb
    x s = .next s') :
    Memory.wf s'.mem := by
  unfold execUpdBegin at hr
  exact tndCommit_wf _ _ _ _ hw  hr

theorem execUpdWrite_wf (m : Master) (mb : Fin 3) (s : State) {s' : State} (hw : Memory.wf s.mem) (hr : execUpdWrite m mb s = .next s') :
    Memory.wf s'.mem := by
  unfold execUpdWrite at hr
  exact tndCommit_wf _ _ _ _ hw  hr

theorem execUpdActivate_wf (m : Master) (mb : Fin 3) (s : State) {s' : State} (hw : Memory.wf s.mem) (hr : execUpdActivate m mb s = .next
    s') :
    Memory.wf s'.mem := by
  unfold execUpdActivate at hr
  exact tndCommit_wf _ _ _ _ hw  hr

theorem execUpdConfirm_wf (m : Master) (mb : Fin 3) (advance : Bool) (s : State) {s' : State} (hw : Memory.wf s.mem) (hr : execUpdConfirm
    m mb advance s = .next s') :
    Memory.wf s'.mem := by
  unfold execUpdConfirm at hr
  exact tndCommit_wf _ _ _ _ hw  hr

theorem execUpdRevert_wf (m : Master) (mb : Fin 3) (s : State) {s' : State} (hw : Memory.wf s.mem) (hr : execUpdRevert m mb s = .next s') :
    Memory.wf s'.mem := by
  unfold execUpdRevert at hr
  exact tndCommit_wf _ _ _ _ hw  hr

theorem execUpdStatus_wf (m : Master) (mb : Fin 3) (s : State) {s' : State} (hw : Memory.wf s.mem) (hr : execUpdStatus m mb s = .next s') :
    Memory.wf s'.mem := by
  unfold execUpdStatus at hr
  exact tndCommit_wf _ _ _ _ hw  hr

theorem execProbationDeadline_wf (s : State) {s' : State} (hw : Memory.wf s.mem) (hr : execProbationDeadline s = .next s') :
    Memory.wf s'.mem := by
  unfold execProbationDeadline at hr
  injection hr with hr; subst hr; (repeat' (first | with_reducible exact hw | with_reducible assumption | with_reducible apply probationDeadline_wf | with_reducible refine foldl_wf _ ?_ _ _ ?_ | (intro _; intros) | split | (dsimp only)))

theorem execSpxTcmLoadDone_wf (p : Fin 2) (s : State) {s' : State} (hw : Memory.wf s.mem) (hr : execSpxTcmLoadDone p s = .next s') :
    Memory.wf s'.mem := by
  unfold execSpxTcmLoadDone at hr
  injection hr with hr; subst hr; (repeat' (first | with_reducible exact hw | with_reducible assumption | with_reducible apply tcmLoadDone_wf | with_reducible refine foldl_wf _ ?_ _ _ ?_ | (intro _; intros) | split | (dsimp only)))

theorem execFlashOperationDone_wf (readOk : Bool) (s : State) {s' : State} (hw : Memory.wf s.mem) (hr : execFlashOperationDone readOk s =
    .next s') :
    Memory.wf s'.mem := by
  unfold execFlashOperationDone at hr
  injection hr with hr; subst hr; (repeat' (first | with_reducible exact hw | with_reducible assumption | with_reducible apply flashDone_wf | with_reducible refine foldl_wf _ ?_ _ _ ?_ | (intro _; intros) | split | (dsimp only)))

theorem execSignalWrite_wf (m : Master) (k : Fin 131072) (value : Word) (synd : Syndrome) (s : State) {s' : State} (hw : Memory.wf s.mem)
    (hr : execSignalWrite m k value synd s = .next s') :
    Memory.wf s'.mem := by
  unfold execSignalWrite at hr
  injection hr with hr; subst hr; (repeat' (first | with_reducible exact hw | with_reducible assumption | with_reducible apply sigWrite_wf | with_reducible refine foldl_wf _ ?_ _ _ ?_ | (intro _; intros) | split | simp only [↓busError_mem] | (dsimp only)))

theorem oltRequest_wf (m : Master) (ok : Bool) (f : State → State) (s : State) (hw : Memory.wf s.mem) (hf : ∀ t,
    Memory.wf t.mem → Memory.wf (f t).mem) :
    Memory.wf (oltRequest m ok f s).mem := by
  simp only [oltRequest]; (repeat' (first | with_reducible exact hw | with_reducible assumption | with_reducible apply hf | with_reducible refine foldl_wf _ ?_ _ _ ?_ | (intro _; intros) | split | simp only [↓answer_mem, ↓set_mem, ↓busError_mem] | (dsimp only)))

theorem enWrite_wf (a : Nat) (v : Word) (up : State → State) (down : State → State) (s : State) (hw : Memory.wf s.mem) (hup : ∀ t,
    Memory.wf t.mem → Memory.wf (up t).mem) (hdown : ∀ t, Memory.wf t.mem → Memory.wf (down t).mem) :
    Memory.wf (enWrite a v up down s).mem := by
  simp only [enWrite]; (repeat' (first | with_reducible exact hw | with_reducible assumption | with_reducible apply hup | with_reducible apply hdown | with_reducible refine foldl_wf _ ?_ _ _ ?_ | (intro _; intros) | split | simp only [↓codeWriteKeep_mem] | (dsimp only)))

theorem sysctlWrite_wf (m : Master) (x : WriteCtx) (o : Nat) (v : Word) (s : State) (hw : Memory.wf s.mem) :
    Memory.wf (sysctlWrite m x o v s).mem := by
  simp only [sysctlWrite]; (repeat' (first | with_reducible exact hw | with_reducible assumption | with_reducible apply modeRequest_wf | with_reducible refine foldl_wf _ ?_ _ _ ?_ | (intro _; intros) | split | simp only [↓answer_mem, ↓setKln_mem, ↓codeWrite_mem] | (dsimp only)))

theorem tndRegWrite_wf (m : Master) (x : WriteCtx) (o : Nat) (v : Word) (s : State) (hw : Memory.wf s.mem) :
    Memory.wf (tndRegWrite m x o v s).mem := by
  simp only [tndRegWrite]; (repeat' (first | with_reducible exact hw | with_reducible assumption | with_reducible apply tndWrite_wf | with_reducible refine foldl_wf _ ?_ _ _ ?_ | (intro _; intros) | split | simp only [↓answer_mem, ↓busError_mem, ↓codeWrite_mem] | (dsimp only)))

theorem whlWrite_wf (m : Master) (x : WriteCtx) (o : Nat) (v : Word) (s : State) (hw : Memory.wf s.mem) :
    Memory.wf (whlWrite m x o v s).mem := by
  simp only [whlWrite]; (repeat' (first | with_reducible exact hw | with_reducible assumption | with_reducible apply enWrite_wf | with_reducible apply tblCfgWrite_wf | with_reducible refine foldl_wf _ ?_ _ _ ?_ | (intro _; intros) | split | simp only [↓answer_mem, ↓codeWrite_mem, ↓cqFlush_mem, ↓enWrite_mem, ↓handoverWrite_mem, ↓loopDisable_mem, ↓loopEnable_mem] | (dsimp only)))

theorem flyEn_wf (k : Option Nat) (a : Nat) (v : Word) (up : State → State) (down : State → State) (s : State) (hw : Memory.wf s.mem)
    (hup : ∀ t, Memory.wf t.mem → Memory.wf (up t).mem) (hdown : ∀ t, Memory.wf t.mem → Memory.wf (down t).mem) :
    Memory.wf (flyEn k a v up down s).mem := by
  simp only [flyEn]; (repeat' (first | with_reducible exact hw | with_reducible assumption | with_reducible apply hup | with_reducible apply hdown | with_reducible apply enWrite_wf | with_reducible refine foldl_wf _ ?_ _ _ ?_ | (intro _; intros) | split | simp only [↓cfgIgn_mem, ↓codeWriteKeep_mem, ↓enWrite_mem] | (dsimp only)))

theorem regWrite_wf (m : Master) (a : Nat) (size : Nat) (v : Word) (x : WriteCtx) (s : State) (hw : Memory.wf s.mem) :
    Memory.wf (regWrite m a size v x s).mem := by
  simp only [regWrite]; (repeat' (first | with_reducible exact hw | with_reducible assumption | with_reducible apply memWrite_wf | with_reducible apply sysctlWrite_wf | with_reducible apply tndRegWrite_wf | with_reducible apply whlWrite_wf | with_reducible refine foldl_wf _ ?_ _ _ ?_ | (intro _; intros) | split | simp only [↓answer_mem, ↓actWrite_mem, ↓afeWrite_mem, ↓busError_mem, ↓busRegWrite_mem, ↓chgWrite_mem, ↓clkWrite_mem, ↓cnvWrite_mem, ↓codeWrite_mem, ↓dbgWrite_mem, ↓embWrite_mem, ↓flyWrite_mem, ↓gifWrite_mem, ↓memcWrite_mem, ↓pwmWrite_mem, ↓spxWrite_mem] | (dsimp only)))

theorem execRegisterWrite_wf (m : Master) (addr : Word) (size : Fin 9) (value : Word) (x : WriteCtx) (s : State) {s' : State} (hw :
    Memory.wf s.mem) (hr : execRegisterWrite m addr size value x s = .next s') :
    Memory.wf s'.mem := by
  unfold execRegisterWrite at hr
  injection hr with hr; subst hr; (repeat' (first | with_reducible exact hw | with_reducible assumption | with_reducible apply regWrite_wf | with_reducible refine foldl_wf _ ?_ _ _ ?_ | (intro _; intros) | split | (dsimp only)))

theorem dictWrite_wf (m : Master) (a : Nat) (size : Nat) (v : Word) (synd : Syndrome) (s : State) (hw : Memory.wf s.mem) :
    Memory.wf (dictWrite m a size v synd s).mem := by
  simp only [dictWrite]; (repeat' (first | with_reducible exact hw | with_reducible assumption | with_reducible apply sigWrite_wf | with_reducible refine foldl_wf _ ?_ _ _ ?_ | (intro _; intros) | split | simp only [↓busError_mem] | (dsimp only)))

theorem busWrite_wf (m : Master) (addr : Nat) (size : Nat) (v : Nat) (x : WriteCtx) (s : State) (hw : Memory.wf s.mem) :
    Memory.wf (busWrite m addr size v x s).mem := by
  simp only [busWrite]; (repeat' (first | with_reducible exact hw | with_reducible assumption | with_reducible apply dictWrite_wf | with_reducible apply memWrite_wf | with_reducible apply regWrite_wf | with_reducible apply whorlWrite_wf | with_reducible refine foldl_wf _ ?_ _ _ ?_ | (intro _; intros) | split | simp only [↓busError_mem] | (dsimp only)))

theorem execMemoryWrite_wf (m : Master) (addr : Word) (size : Fin 9) (value : BitVec 64) (x : WriteCtx) (s : State) {s' : State} (hw :
    Memory.wf s.mem) (hr : execMemoryWrite m addr size value x s = .next s') :
    Memory.wf s'.mem := by
  unfold execMemoryWrite at hr
  injection hr with hr; subst hr; (repeat' (first | with_reducible exact hw | with_reducible assumption | with_reducible apply busWrite_wf | with_reducible refine foldl_wf _ ?_ _ _ ?_ | (intro _; intros) | split | (dsimp only)))

theorem kilnRelease_wf (s : State) (hw : Memory.wf s.mem) :
    Memory.wf (kilnRelease s).mem := by
  simp only [kilnRelease]; (repeat' (first | with_reducible exact hw | with_reducible assumption | with_reducible apply enterMode_wf | with_reducible refine foldl_wf _ ?_ _ _ ?_ | (intro _; intros) | split | simp only [↓setKln_mem, ↓raise_mem] | (dsimp only)))

theorem execSafeResetEdge_wf (e : ResetEdge) (s : State) {s' : State} (hw : Memory.wf s.mem) (hr : execSafeResetEdge e s = .next s') :
    Memory.wf s'.mem := by
  unfold execSafeResetEdge at hr
  injection hr with hr; subst hr; (repeat' (first | with_reducible exact hw | with_reducible assumption | with_reducible apply kilnRelease_wf | with_reducible apply restart_wf | with_reducible refine foldl_wf _ ?_ _ _ ?_ | (intro _; intros) | split | simp only [↓releaseRefused_mem] | (dsimp only)))

theorem performRec_wf (p : Nat) (x : WriteCtx) (r : PRec) (s : State) (hw : Memory.wf s.mem) :
    Memory.wf (performRec p x r s).mem := by
  simp only [performRec]; (repeat' (first | with_reducible exact hw | with_reducible assumption | with_reducible apply busWrite_wf | with_reducible refine foldl_wf _ ?_ _ _ ?_ | (intro _; intros) | split | (dsimp only)))

theorem flushCore0_wf (p : Nat) (s : State) (hw : Memory.wf s.mem) :
    Memory.wf (flushCore0 p s).mem := by
  simp only [flushCore0]; (repeat' (first | with_reducible exact hw | with_reducible assumption | with_reducible apply performRec_wf | with_reducible refine foldl_wf _ ?_ _ _ ?_ | (intro _; intros) | split | simp only [↓setPair_mem] | (dsimp only)))

theorem unchecked_wf (p : Nat) (code : Nat) (s : State) (hw : Memory.wf s.mem) :
    Memory.wf (unchecked p code s).mem := by
  simp only [unchecked]; (repeat' (first | with_reducible exact hw | with_reducible assumption | with_reducible apply flushCore0_wf | with_reducible refine foldl_wf _ ?_ _ _ ?_ | (intro _; intros) | split | simp only [↓pairUncheck_mem] | (dsimp only)))

theorem pairErr_wf (p : Nat) (err : PairErr) (s : State) (hw : Memory.wf s.mem) :
    Memory.wf (pairErr p err s).2.mem := by
  simp only [pairErr]; (repeat' (first | with_reducible exact hw | with_reducible assumption | with_reducible apply unchecked_wf | with_reducible refine foldl_wf _ ?_ _ _ ?_ | (intro _; intros) | split | simp only [apply_ite Prod.snd, apply_ite Prod.fst, ↓bump_mem] | (dsimp only)))

theorem outputStore_wf (c : Core) (st : CoreStore) (err : PairErr) (x : WriteCtx) (s : State) (hw : Memory.wf s.mem) :
    Memory.wf (outputStore c st err x s).mem := by
  simp only [outputStore]; (repeat' (first | with_reducible exact hw | with_reducible assumption | with_reducible apply busWrite_wf | with_reducible apply flushCore0_wf | with_reducible apply pairErr_wf | with_reducible apply performRec_wf | with_reducible refine foldl_wf _ ?_ _ _ ?_ | (intro _; intros) | split | simp only [apply_ite Prod.snd, apply_ite Prod.fst, ↓enterRec_mem, ↓syncAdd_mem] | (dsimp only))) <;> grind [enterRec_mem, syncAdd_mem, busWrite_wf, flushCore0_wf, pairErr_wf, performRec_wf]

theorem execPairOutputStore_wf (core : Core) (st : CoreStore) (err : PairErr) (x : WriteCtx) (s : State) {s' : State} (hw : Memory.wf
    s.mem) (hr : execPairOutputStore core st err x s = .next s') :
    Memory.wf s'.mem := by
  unfold execPairOutputStore at hr
  injection hr with hr; subst hr; (repeat' (first | with_reducible exact hw | with_reducible assumption | with_reducible apply outputStore_wf | with_reducible refine foldl_wf _ ?_ _ _ ?_ | (intro _; intros) | split | (dsimp only)))

theorem compareRec_wf (p : Nat) (err : PairErr) (lag : Nat) (x : WriteCtx) (s : State) (hw : Memory.wf s.mem) :
    Memory.wf (compareRec p err lag x s).mem := by
  unfold compareRec
  dsimp only
  split
  · have h := pairErr_wf p err (State.set s F.SPX_DIAG.LAG_MAX (max lag (s.get F.SPX_DIAG.LAG_MAX p)) p) ((set_mem _ _ _ _ _ _).symm ▸ hw)
    split
    · rename_i heq
      rw [heq] at h
      exact h
    · rename_i heq
      rw [heq] at h
      split
      · exact (faultAt_mem _ _ _ _).symm ▸ h
      · split
        · simp only [handoverEnd_mem, handoverTag_mem]
          exact performRec_wf _ _ _ _ ((setPair_mem _ _ _).symm ▸ h)
        · exact performRec_wf _ _ _ _ ((setPair_mem _ _ _).symm ▸ h)
  · exact hw

theorem execPairCompare_wf (p : Fin 2) (err : PairErr) (lag : Fin 2048) (x : WriteCtx) (s : State) {s' : State} (hw : Memory.wf s.mem)
    (hr : execPairCompare p err lag x s = .next s') :
    Memory.wf s'.mem := by
  unfold execPairCompare at hr
  injection hr with hr; subst hr; (repeat' (first | with_reducible exact hw | with_reducible assumption | with_reducible apply compareRec_wf | with_reducible apply flushCore0_wf | with_reducible refine foldl_wf _ ?_ _ _ ?_ | (intro _; intros) | split | (dsimp only)))

theorem pairInput_wf (c : Core) (a : Nat) (n : Nat) (read : State → State) (s : State) (hw : Memory.wf s.mem) (hread : ∀ t,
    Memory.wf t.mem → Memory.wf (read t).mem) :
    Memory.wf (pairInput c a n read s).mem := by
  simp only [pairInput]; (repeat' (first | with_reducible exact hw | with_reducible assumption | with_reducible apply hread | with_reducible refine foldl_wf _ ?_ _ _ ?_ | (intro _; intros) | split | simp only [↓answer_mem, ↓setPair_mem, ↓faultAt_mem, ↓noteDepth_mem] | (dsimp only)))

theorem execPairResetDone_wf (p : Fin 2) (synd : Syndrome) (s : State) {s' : State} (hw : Memory.wf s.mem) (hr : execPairResetDone p synd
    s = .next s') :
    Memory.wf s'.mem := by
  unfold execPairResetDone at hr
  injection hr with hr; subst hr; (repeat' (first | with_reducible exact hw | with_reducible assumption | with_reducible apply pairResetDone_wf | with_reducible refine foldl_wf _ ?_ _ _ ?_ | (intro _; intros) | split | (dsimp only)))

theorem execComparatorSelfTest_wf (p : Fin 2) (ok : Bool) (s : State) {s' : State} (hw : Memory.wf s.mem) (hr : execComparatorSelfTest p
    ok s = .next s') :
    Memory.wf s'.mem := by
  unfold execComparatorSelfTest at hr
  injection hr with hr; subst hr; (repeat' (first | with_reducible exact hw | with_reducible assumption | with_reducible apply unchecked_wf | with_reducible refine foldl_wf _ ?_ _ _ ?_ | (intro _; intros) | split | simp only [↓set_mem] | (dsimp only)))

theorem ruleEval_wf (r : Nat) (s : State) (hw : Memory.wf s.mem) :
    Memory.wf (ruleEval r s).mem := by
  simp only [ruleEval]; (repeat' (first | with_reducible exact hw | with_reducible assumption | with_reducible refine foldl_wf _ ?_ _ _ ?_ | (intro _; intros) | split | simp only [↓set_mem, ↓setB_mem, ↓setI_mem, ↓setRule_mem, ↓emrEnd_mem, ↓issue_mem, ↓raise_mem] | (dsimp only)))

theorem execRuleEvaluation_wf (s : State) {s' : State} (hw : Memory.wf s.mem) (hr : execRuleEvaluation s = .next s') :
    Memory.wf s'.mem := by
  unfold execRuleEvaluation at hr
  injection hr with hr; subst hr; (repeat' (first | with_reducible exact hw | with_reducible assumption | with_reducible apply ruleEval_wf | with_reducible refine foldl_wf _ ?_ _ _ ?_ | (intro _; intros) | split | simp only [↓bandEval_mem, ↓targetEval_mem] | (dsimp only)))

theorem idleTick_wf (s : State) (hw : Memory.wf s.mem) :
    Memory.wf (idleTick s).mem := by
  simp only [idleTick]; (repeat' (first | with_reducible exact hw | with_reducible assumption | with_reducible apply reelTick_wf | with_reducible refine foldl_wf _ ?_ _ _ ?_ | (intro _; intros) | split | simp only [↓traceTick_mem, ↓tsTick_mem] | (dsimp only)))

end Sys2Proof.Machine
end

