-- ==== Sys2Proof/Laws/Whorl.lean ====
section
/-! SUPPORT. What issuing a slot of a Whorl word does where the slot is ready. -/

namespace Sys2Proof.Machine
open Sys2Proof

/-- The execution once slot `slot` has issued. -/
def opened (slot : Fin 2) (e : ExecSt) : ExecSt :=
  if slot.val = 0 then
    { e with cyc := issueCycle e [], started := true, words := e.words + 1, wpc := e.pc, slot1 := true, out0 := none, taken := false }
  else { e with slot1 := false }

/-- Where a slot is ready, its row issues it and acts. -/
theorem slotRow_ready (w : Fin 8) (slot : Fin 2) (us : List Nat) (hz : List (Fin 36)) (act : Nat → Nat → State → State) (s : State)
    (h : WhlReady s w slot) : slotRow w slot us hz act s =
      .next (act w.val w.val (s.setWhorl w.val { s.whorl w.val with timed := opened slot (s.whorl w.val).timed })) := by
  obtain ⟨h1, h2, h3, h4, h5⟩ := h
  have hp : (s.whorl w.val).timed.phase ≠ .none := by rw [h1]; decide
  have hx : s.exe w.val = (s.whorl w.val).timed := by unfold State.exe; rw [if_neg hp]
  have hi : ∀ us, issueCycle (s.whorl w.val).timed us = issueCycle (s.whorl w.val).timed [] := by
    intro us
    simp only [issueCycle, finalFrom, h2, List.filter_nil, List.foldl_nil]
  have hret : ∀ c, retire c (s.whorl w.val).timed = (s.whorl w.val).timed := by
    intro c
    simp only [retire, h2, List.filter_nil, List.foldl_nil]
    rw [← h2]
  have hset : ∀ e, s.setExe w.val e = s.setWhorl w.val { s.whorl w.val with timed := e } := by
    intro e
    unfold State.setExe
    rw [if_neg hp]
  unfold slotRow lockstep
  rw [h3]
  unfold onSlot opened
  by_cases hs : slot.val = 0
  · obtain ⟨ha, hb, hd⟩ := h4 hs
    have he : endIfPast w.val w.val s = s := by
      unfold endIfPast
      dsimp only
      rw [hx, if_neg (by omega)]
    dsimp only
    rw [if_pos hs, if_pos hs, he, hx]
    have ho : openWord (budgetOf s w.val (s.whorl w.val).timed) (hazards us hz) (s.whorl w.val).timed =
        ({ (s.whorl w.val).timed with cyc := issueCycle (s.whorl w.val).timed [], started := true, words := (s.whorl w.val).timed.words + 1, wpc := (s.whorl w.val).timed.pc, slot1 := true, out0 := none, taken := false }, true) := by
      unfold openWord
      dsimp only
      rw [hi, if_pos ⟨h1, ha, hb⟩, hret]
    rw [ho]
    dsimp only
    rw [hd, if_neg Bool.false_ne_true, hset]
  · obtain ⟨ha, hb⟩ := h5 (by omega)
    dsimp only
    rw [if_neg hs, if_neg hs, hx, ha, if_pos rfl, hset]
    have hb' : State.poisoned (s.setWhorl w.val { s.whorl w.val with timed := { (s.whorl w.val).timed with slot1 := false } })
        (codeKey w.val (s.whorl w.val).timed.wpc) = false := hb
    rw [hb', if_neg Bool.false_ne_true]

/-- The timed execution after an action of a row on the execution alone. -/
theorem onExe_timed (slot : Fin 2) (f : ExecSt → ExecSt) (w : Nat) (s : State) (e : ExecSt) (h : e.phase ≠ .none) :
    onExe slot f w (s.setWhorl w { s.whorl w with timed := e }) =
      s.setWhorl w { s.whorl w with timed := if slot.val = 0 then advance (f e) else f e } := by
  unfold onExe State.exe State.setExe State.setWhorl State.whorl
  simp only [SMap.get_put_self, if_neg h, SMap.put_put]

end Sys2Proof.Machine
end

