-- ==== Sys2Proof/Machine/Pins.lean ====
section
/-! DEFINITION. The states of the balls (R584), as the state of the part gives them: no ball has a level of its own in State.
Where another chapter's rule names the level, it is read from that unit's state. -/

namespace Sys2Proof.Machine
open Sys2Proof

/-- The signal balls of R584, by group. -/
inductive Ball where
  | pwm (k : Fin 64) | gfb (k : Fin 64) | gflt (k : Fin 16) | gen (g : Fin 4) | stoHs | stoLs | brkHs | brkLs | faultN
  | stoHsFb | stoLsFb | brkFb | safeReset | actEn | ah (b : Fin 12) | al (b : Fin 12) | resExc (r : Fin 2) | ssiClk (n : Fin 2)
  | emuA (e : Fin 2) | emuB (e : Fin 2) | emuZ (e : Fin 2) | trc | canTxd (n : Fin 4) | ospiCsN | ospiClk | ospiIo | tms | tdi | tck
  | trstN | tdo | supEn | embWake (n : Fin 4) | cpIn | ppIn | embBemf (n : Fin 2)
  deriving DecidableEq, Repr

/-- What a ball shows: driven, driven low without supply, high impedance, a disabled output or an input with its pull, an input,
or a signal that the rule of its interface forms. -/
inductive BallState where
  | low | high | lowPassive | highZ | pullUp | pullDown | input | unpowered | signal
  deriving DecidableEq, Repr

/-- The columns of R584. -/
inductive PinColumn where
  | noPower | dieOff | before | running
  deriving DecidableEq, Repr

/-- The column that holds (R584). -/
def pinColumn (s : State) : PinColumn :=
  match s.sys.phase with
  | .noPower => .noPower
  | .supplies | .hold | .dormant | .dieReset => .dieOff
  | .pllStart | .loading => .before
  | .run => .running
  | .dormantEntry => if s.pdOn 8 then .running else .dieOff

/-- A driven level. -/
def ballLevel (v : Bool) : BallState := if v then .high else .low

/-- A PWM ball that runs: its switch's command with its polarity (R245), the off level of a leg that drives a bridge (R229), or EXTEST's
level (R504). -/
def pwmBall (k : Nat) (s : State) : BallState :=
  match s.olt.extest.find? (fun e => e.1 == k) with
  | some e => ballLevel e.2
  | none =>
    let inverted := if isTop k then s.getB F.PWM_LEG_CFG.POL_T (k / 2) else s.getB F.PWM_LEG_CFG.POL_B (k / 2)
    ballLevel (((s.sw k).cmd && !s.getB F.PWM_LEG_CFG.ROUTE (k / 2)) != inverted)

/-- A quadrature phase of an emulation output, low until EN is set (R293). -/
def emuBall (e : Nat) (s : State) (up : Nat → Bool) : BallState :=
  ballLevel (s.getB F.FLY_EMU_CFG.EN e && up (s.emu e).pos)

/-- R584, row by row: the state of a ball in the four columns. -/
def ballState (b : Ball) (s : State) : BallState :=
  let pick (n o r x : BallState) : BallState := match pinColumn s with
    | .noPower => n
    | .dieOff => o
    | .before => r
    | .running => x
  let io (v : BallState) : BallState := if vddIoOk s then v else .highZ
  let k := s.kln
  match b with
  | .pwm j => pick .highZ (io .pullDown) .pullDown (pwmBall j.val s)
  | .gfb _ | .gflt _ | .stoHsFb | .stoLsFb | .brkFb | .safeReset => .input
  | .gen g => pick .lowPassive .low (ballLevel (k.gen.testBit g.val)) (ballLevel (k.gen.testBit g.val))
  | .stoHs => pick .lowPassive .low (ballLevel (k.stoHs && !k.pulse.testBit 0)) (ballLevel (k.stoHs && !k.pulse.testBit 0))
  | .brkHs => pick .lowPassive .low (ballLevel (k.brkHs && !k.pulse.testBit 2)) (ballLevel (k.brkHs && !k.pulse.testBit 2))
  | .stoLs => pick .lowPassive .lowPassive .low (ballLevel (k.stoLs && !k.pulse.testBit 1))
  | .brkLs => pick .lowPassive .lowPassive .low (ballLevel k.brkLs)
  | .faultN => if pinColumn s = .noPower then .lowPassive else if k.faultN then .highZ else .low
  | .actEn => .pullDown
  | .ah j => pick .lowPassive .lowPassive .low (ballLevel (s.getB F.ACT_BR_STAT.GATE_H j.val))
  | .al j => pick .lowPassive .lowPassive .low (ballLevel (s.getB F.ACT_BR_STAT.GATE_L j.val))
  | .resExc j => pick .highZ .highZ .highZ (if s.getB F.FLY_RES_CFG.EXC_EN j.val then .signal else .highZ)
  | .ssiClk j => pick .highZ .highZ .pullUp (if (s.sens (8 + j.val)).busy then .signal else .high)
  | .emuA e => pick .highZ .highZ .low (emuBall e.val s (fun p => p % 4 == 1 || p % 4 == 2))
  | .emuB e => pick .highZ .highZ .low (emuBall e.val s (fun p => p % 4 == 2 || p % 4 == 3))
  | .emuZ e => pick .highZ .highZ .low (ballLevel (s.getB F.FLY_EMU_CFG.EN e.val && (s.emu e.val).z))
  | .trc => pick .highZ .highZ .low (if traceOn s then .signal else .low)
  | .canTxd n => pick .highZ .highZ .pullUp (if (s.can n.val).arb then .signal else .high)
  | .ospiCsN => pick .highZ .highZ (if s.sys.phase = .loading then .high else .highZ) (if s.getB F.SKN_STAT.BUSY then .signal else .high)
  | .ospiClk => pick .highZ .highZ .low (if s.getB F.SKN_STAT.BUSY then .signal else .low)
  | .ospiIo => pick .highZ .highZ .pullDown .signal
  | .tms | .tdi => pick .highZ (io .pullUp) .pullUp .pullUp
  | .tck | .trstN => pick .highZ (io .pullDown) .pullDown .pullDown
  | .tdo => .highZ
  | .supEn => if pinColumn s = .noPower then .lowPassive else ballLevel s.sys.supEn
  | .embWake _ | .cpIn | .ppIn | .embBemf _ => if pinColumn s = .noPower then .unpowered else .input

end Sys2Proof.Machine
end

