-- ==== Sys2Proof/Tests/Slice0.lean ====
section
/-! SUPPORT. Tests of the model: what well-formedness refuses, small steps with results from the spec's own tables and worked examples, and
for each statement with hypotheses a state that meets them. -/

set_option maxRecDepth 4000
set_option Elab.async false
namespace Sys2Proof.Tests
open Sys2Proof Sys2Proof.Machine

/-- The state after a command. -/
def after (c : Instr) (s : State) : State :=
  match exec c s with
  | .next t => t
  | _ => s

/-- Every power domain on and filled. -/
def powered : State := (State.reset.set F.PD_STAT.ON 0x7FF).set F.PD_STAT.FILLED 0x7FF

/-! ### Well-formedness: a term that each check refuses -/

theorem test_wf_codes : (Instr.embSamp 1 0 (List.replicate 17 0)).wf = false := by decide
theorem test_wf_program : (Instr.emberProgramLoad .loader (List.replicate 257 0)).wf = false := by decide +kernel
theorem test_wf_spare : (Instr.spareCalibration 3 8192 1).wf = false ∧ (Instr.spareCalibration 3 0 16384).wf = false ∧
    (Instr.spareCalibration 3 (-8193) 1).wf = false := by decide
theorem test_wf_cals : (Instr.refReady [⟨0, 0, -8193, 1⟩]).wf = false := by decide
theorem test_wf_skew : (Instr.rotationStep 0 0 [⟨0, 1, -1, 1⟩]).wf = false := by decide
theorem test_wf_sent : (Instr.sentFrame 0 [1, 2, 3, 4, 5] 0 true none).wf = false := by decide
theorem test_wf_pins : (Instr.extest [(5, true), (5, false)]).wf = false := by decide
theorem test_wf_size : (Instr.registerWrite .debug 0 3 0 {}).wf = false ∧ (Instr.registerRead .debug 0 0).wf = false ∧
    (Instr.memoryRead .debug 0 5 .clean).wf = false ∧ (Instr.memoryWrite .debug 0 6 0 {}).wf = false ∧
    (Instr.whorlMemoryWrite .debug 0 0 7 0).wf = false := by decide
theorem test_wf_core : (Instr.pairOutputStore 0 { addr := 0, size := 3 } .none {}).wf = false ∧
    (Instr.pairInputLoad 0 (.load 0 3 .clean)).wf = false := by decide
theorem test_wf_answer : (Instr.heartbeatAnswer (.pair 0) 0 true 0 1001).wf = false := by decide
theorem test_wf_hash : (Instr.password .debug 2 (2 ^ 256)).wf = false ∧ (Instr.pwSet .debug 2 none (2 ^ 256)).wf = false ∧
    (Instr.challenge .debug 2 0 0 (2 ^ 256) 0).wf = false ∧ (Instr.challenge .debug 2 0 0 0 (2 ^ 128)).wf = false := by decide +kernel
theorem test_wf_auth : (Instr.response .debug 2 { keyHash := 2 ^ 384, sigOk := true } .level).wf = false ∧
    (Instr.keyImport .debug 2 0 (2 ^ 256) true).wf = false := by decide +kernel
theorem test_wf_payload : (Instr.frameReceived 0 { id := 0, payload := List.replicate 2049 0 }).wf = false := by decide +kernel
theorem test_wf_data : (Instr.xcpDownload (List.replicate 256 0)).wf = false := by decide +kernel
theorem test_wf_service : (Instr.aesGcm .debug 0 { out := List.replicate 4097 0 }).wf = false := by decide +kernel
theorem test_wf_steps : (Instr.updBegin .debug 0 { steps := List.replicate 29 { desc := { type := 3 } } }).wf = false := by decide +kernel
theorem test_wf_hazards : (Instr.whlIllegalOperation 0 0 [3, 3]).wf = false := by decide

/-- At a bound each is well formed. -/
theorem test_wf_good : (Instr.embSamp 1 0 (List.replicate 16 0)).wf = true ∧ (Instr.spareCalibration 3 (-8192) 16383).wf = true ∧
    (Instr.registerRead .debug 0 4).wf = true ∧ (Instr.heartbeatAnswer (.pair 0) 0 true 0 1000).wf = true ∧
    (Instr.whlIllegalOperation 0 0 [3, 4]).wf = true := by decide

/-! ### Small steps -/

/-- R584: without power PWM balls are high impedance and SUP_EN low; a running ball with POL_T set is high while its switch is off. -/
theorem test_balls : ballState (.pwm 0) State.reset = .highZ ∧ ballState .supEn State.reset = .lowPassive ∧
    ballState (.pwm 0) { (powered.set F.PWM_LEG_CFG.POL_T 1 0) with sys := { phase := .run } } = .high ∧
    ballState (.gen 0) { powered with sys := { phase := .dormant }, kln := { gen := 1 } } = .low := by decide +kernel

/-- Chapter 4's worked example, word 0x0900_0064: LDI E2, 100. -/
theorem test_ldi : (after (.embLdi 2 100) { State.reset with emb := { inPass := true } }).ereg 2 = 100 := by decide +kernel

/-- The same example, word 0x8890_0017 with 99 counts: BLT E1, E2, 0x17 is taken. -/
theorem test_blt : (after (.embBlt 1 2 0x17) { State.reset with emb := { inPass := true, e := [(1, 99), (2, 100)] } }).emb.pc = 0x17 := by
  decide +kernel

/-- R184's saturating add on the largest value (R201). -/
theorem test_sat32 : sat32 (2147483647 + 1) = (0x7FFFFFFF, { sat := true }) := by decide +kernel

/-- R374's table at 5 %, 9 %, 50 %, 96 % and 96.5 %, with 20 A negotiated. -/
theorem test_pilot_current : [50, 90, 500, 960, 965, 971].map (pilotCurrent 200) = [200, 60, 300, 800, 800, 0] := by decide +kernel

/-- Chapter 18's worked example: an order the loader refuses and the order it accepts (R511). -/
theorem test_update_order :
    let w (minor : Nat) : CompInfo := { type := 5, inst := 0, version := 1, provides := [⟨0x100, 3, minor⟩] }
    let f (minor : Nat) : CompInfo := { type := 4, inst := 0, version := 1, requires := [⟨0x100, 3, minor⟩] }
    let step (c : CompInfo) : ManStep := { desc := { type := c.type, inst := c.inst, provides := c.provides, requires := c.requires } }
    combosOk [step (f 2), step (w 2)] [w 1, f 1] [w 1, f 1] = false ∧ combosOk [step (w 2), step (f 2)] [w 1, f 1] [w 1, f 1] = true := by
  decide +kernel

/-- Chapter 19's worked example at 2.5 ns: a pulse in flight, the next one merges and counts. -/
theorem test_crossing_merge :
    let t := raise 96 (raise 96 powered)
    t.xing 96 = { flight := true, pend := true } ∧ t.get F.CDC_EVT_OVR.OVR0 12 = 1 := by decide +kernel

/-- R33, R3: the KLN block takes no write, a register no byte access. -/
theorem test_bus_errors : (after (.registerWrite (.pair 0) 0x30130000 4 1 {}) powered).resp = .error ∧
    (after (.registerRead (.pair 0) 0x30000000 1) powered).resp = .error := by decide +kernel

/-- R237: the top switch is on; a compare instant hands over to the bottom switch, which waits for its dead time. -/
theorem test_handover_waits :
    let s := (((powered.set F.MODE_STAT.MODE 7).set F.PWM_LEG_CFG.EN 1 1).set F.PWM_LEG_CFG.ARM 1 1).set F.PWM_LEG_CFG.CG 0 1
    let t := after (.switchEdgeCommand 1 false 60000) { s with
      sys := { s.sys with phase := .run }
      pwm := { genSeen := 15, cg := [(0, { running := true })], legs := [(1, { armed := true, c := 5 })], sw := [(2, { cmd := true })] } }
    (t.sw 2).cmd = false ∧ t.sw 3 = { pendOn := true, deadRun := true } := by decide +kernel

/-- R56: VBAT rises on an unpowered part; PD0 and the Kiln leave reset. -/
theorem test_vbat_rise : (after .vbatRise State.reset).sys.pd0 = true ∧ (after .vbatRise State.reset).sys.phase = .supplies := by decide +kernel

/-- R531: TSTAMP counts in a tick with no command waiting. -/
theorem test_tick : step { State.reset with fab := { ts := 41, tsRun := true } } = .next { State.reset with fab := { ts := 42, tsRun := true } } := by
  rfl

/-- R509: UPD_ACTIVATE without a written step: RESULT 11, REASON 7. -/
theorem test_out_of_order : (after (.updActivate (.pair 1) 1) powered).tnd.serving = some (1, { result := 11 }) ∧
    (after (.updActivate (.pair 1) 1) powered).get F.UPD_STAT.REASON = 7 := by decide +kernel

/-! ### The hypotheses of each statement are met -/

theorem witness_EmberArithmetic : ∃ s : State, s.emb.inPass = true := ⟨{ State.reset with emb := { inPass := true } }, rfl⟩

theorem witness_EmberFlow : ∃ s : State, s.emb.inPass = true ∧ s.emb.again = false ∧ s.emb.progNext = none :=
  ⟨{ State.reset with emb := { inPass := true } }, rfl, rfl, rfl⟩

theorem witness_EmberSensing : (∃ (s : State) (imm : BitVec 16) (codes : List (BitVec 12)), s.emb.inPass = true ∧ codes.length = imm.toNat / 64 % 64 + 1 ∧
    s.emb.again = false ∧ s.emb.progNext = none ∧ s.sys.phase = .run) ∧ ∃ s : State, s.bit F.EMB_CFG.BEMF_EN 1 = true :=
  ⟨⟨{ State.reset with emb := { inPass := true }, sys := { phase := .run } }, 0, [5], by decide⟩,
    ⟨State.reset.set F.EMB_CFG.BEMF_EN 3, by decide⟩⟩

theorem witness_EmberPasses : (∃ s : State, s.emb.inPass = false ∧ s.emb.progNext = none ∧ s.emb.parityBad = false ∧ s.get F.EMB_CFG.PASS_PERIOD ≠ 0 ∧
      (edgeSel s 2).testBit 0 = true ∧ s.bit F.EMB_CFG.DIRECT 2 = false) ∧
    (∃ s : State, s.emb.inPass = true ∧ s.emb.again = false ∧ s.emb.progNext = none ∧ s.sys.phase = .run) ∧
    ∃ s : State, embWriter s .tinder = true :=
  ⟨⟨(State.reset.set F.EMB_CFG.PASS_PERIOD 5).set F.EMB_PINCFG.EDGE2 1, by decide⟩,
    ⟨{ State.reset with emb := { inPass := true }, sys := { phase := .run } }, by decide⟩, ⟨{ State.reset with sys := { pd0 := true } }, by decide⟩⟩

theorem witness_WhorlClassA : (∃ s : State, WhlReady s 2 0) ∧ ∃ s : State, WhlReady s 2 1 :=
  ⟨⟨((State.reset.setWhorl 2 { timed := { phase := .running } }).set F.WHL_LOOP_TIME.BUDGET 100 2 0), by
      refine ⟨?_, ?_, ?_, ?_, ?_⟩ <;> decide⟩,
    ⟨State.reset.setWhorl 2 { timed := { phase := .running, slot1 := true } }, by refine ⟨?_, ?_, ?_, ?_, ?_⟩ <;> decide⟩⟩

theorem witness_WhorlClassXU : ∃ s : State, WhlReady s 2 0 ∧ s.pending = [] :=
  ⟨((State.reset.setWhorl 2 { timed := { phase := .running } }).set F.WHL_LOOP_TIME.BUDGET 100 2 0), by
      refine ⟨⟨?_, ?_, ?_, ?_, ?_⟩, ?_⟩ <;> decide⟩

theorem witness_WhorlPortsAndMemory : (∃ s : State, WhlReady s 2 0 ∧ inPort s 2 0 0 = true ∧ outPort s 2 0 0 = true ∧ inPort s 2 0 9 = false ∧
      loadAllowed s 2 0 (effAddr 0 0) = false ∧ s.getB F.WHL_TBL_CFG.EN 2 3 = false) ∧
    (∃ s : State, WhlReady s 2 0 ∧ loadAllowed s 2 0 (effAddr ((s.whorl 2).timed.reg 1) 0) = true ∧
      s.poisoned (whlBase 2 + 4 * effAddr ((s.whorl 2).timed.reg 1) 0) = false) ∧
    ∃ s : State, WhlReady s 2 0 ∧ (s.getB F.WHL_TBL_CFG.EN 2 3 && s.bit F.WHL_LOOP_COEF.TBL_MASK 3 2 0) = true :=
  ⟨⟨((State.reset.setWhorl 2 { timed := { phase := .running } }).set F.WHL_LOOP_TIME.BUDGET 100 2 0), by
      refine ⟨⟨?_, ?_, ?_, ?_, ?_⟩, ?_⟩ <;> decide⟩,
    ⟨((State.reset.setWhorl 2 { timed := { phase := .running, g := [(1, 0x31000)] } }).set F.WHL_LOOP_TIME.BUDGET 100 2 0), by
      refine ⟨⟨?_, ?_, ?_, ?_, ?_⟩, ?_⟩ <;> decide⟩,
    ⟨(((State.reset.setWhorl 2 { timed := { phase := .running } }).set F.WHL_LOOP_TIME.BUDGET 100 2 0).set F.WHL_TBL_CFG.EN 1 2 3).set
        F.WHL_LOOP_COEF.TBL_MASK 8 2 0, by refine ⟨⟨?_, ?_, ?_, ?_, ?_⟩, ?_⟩ <;> decide⟩⟩

theorem witness_WhorlControl : ∃ s : State, WhlReady s 2 0 ∧ (s.whorl 2).timed.rep = none :=
  ⟨((State.reset.setWhorl 2 { timed := { phase := .running } }).set F.WHL_LOOP_TIME.BUDGET 100 2 0), by
      refine ⟨⟨?_, ?_, ?_, ?_, ?_⟩, ?_⟩ <;> decide⟩

theorem witness_WhorlIllegalAndRetire : (∃ s : State, WhlReady s 2 1) ∧ ∃ s : State, (s.whorl 2).timed.phase ≠ .none ∧ shadowOf s 2 = none ∧
    (s.whorl 2).timed.flight = [⟨3, 1, 0, .reg 5 7, {}⟩] :=
  ⟨⟨State.reset.setWhorl 2 { timed := { phase := .running, slot1 := true } }, by refine ⟨?_, ?_, ?_, ?_, ?_⟩ <;> decide⟩,
    ⟨State.reset.setWhorl 2 { timed := { phase := .running, flight := [⟨3, 1, 0, .reg 5 7, {}⟩] } }, by decide⟩⟩

theorem witness_WhorlExecutions : (∃ s : State, shadowOf s 1 = none ∧ s.whl.handover = none ∧ startable s 1 2 false = true ∧ (s.loopSt 1 2).skipOne = false ∧
      (s.whorl 1).timed.phase = .none ∧ staleStart s 1 2 = false ∧ whlReady s 1 = true ∧ s.regWriter .tinder = true ∧
      s.getB F.WHL_LOOP_CFG.EN 1 3 = false) ∧
    (∃ s : State, shadowOf s 1 = none ∧ startable s 1 2 true = true ∧ (s.loopSt 1 2).bgWaiting = true ∧ (s.whorl 1).bg.phase = .none ∧
      (∀ k < 2, (s.loopSt 1 k).bgWaiting = false) ∧ (s.loopSt 1 3).bgWaiting = false) ∧
    (∃ s : State, (s.whorl 1).timed = { phase := .ended, loop := 2 } ∧ s.getB F.WHL_LOOP_CFG.DRAINING 1 2 = false ∧
      shadowOf s 1 = none) ∧
    (∃ s : State, (s.whorl 1).bg = { phase := .ended, loop := 2 } ∧ (s.whorl 1).timed.phase = .none ∧ (s.loopSt 1 2).stopNext = none) ∧
    ∃ s : State, whlReady s 1 = true ∧ s.getB F.WHL_LOOP_CFG.EN 1 2 = true ∧ (s.loopSt 1 2).inExec = true ∧ (s.loopSt 1 2).out = .normal :=
  ⟨⟨((State.reset.set F.PD_STAT.ON 0x7FF).set F.PD_STAT.FILLED 0x7FF).set F.WHL_LOOP_CFG.EN 1 1 2, by decide⟩,
    ⟨((((State.reset.set F.PD_STAT.ON 0x7FF).set F.PD_STAT.FILLED 0x7FF).set F.WHL_LOOP_CFG.EN 1 1 2).set F.WHL_LOOP_CFG.KIND 1 1 2).setLoopSt 1 2
      { bgWaiting := true }, by decide⟩,
    ⟨State.reset.setWhorl 1 { timed := { phase := .ended, loop := 2 } }, by decide⟩,
    ⟨State.reset.setWhorl 1 { bg := { phase := .ended, loop := 2 } }, by decide⟩,
    ⟨(((State.reset.set F.PD_STAT.ON 0x7FF).set F.PD_STAT.FILLED 0x7FF).set F.WHL_LOOP_CFG.EN 1 1 2).setLoopSt 1 2
      { inExec := true, out := .normal }, by decide⟩⟩

theorem witness_WhorlQueueAndStandby : (∃ s : State, whlReady s 1 = true ∧ enabledLoops s 1 ≠ [] ∧ queueSource s 1 .tinder = true ∧ (s.whorl 1).queue.length < 16 ∧
      inBank s 1 5 true = false) ∧
    (∃ s : State, whlReady s 1 = true ∧ enabledLoops s 1 = [] ∧ s.regWriter .tinder = true ∧ s.whl.handover = none ∧
      memOk s .tinder (whlBase 1 + 0x40000) 4 true = true ∧ s.getB F.WHL_CTL.CQ_HOLD 1 = false) ∧
    (∃ s : State, s.get F.WHL_CTL.ROLE 1 = 1 ∧ s.getB F.MODE_STAT.STANDBY_OK = true ∧ whlReady s 1 = true ∧ hasLoops s 2 = true) ∧
    (∃ s : State, (s.whorl 1).prep = .preparing ∧ whlReady s 1 = true) ∧ (∃ s : State, (s.whorl 1).prep = .copying) ∧
    (∃ s : State, s.pdReady 5 = true ∧ handoverAllowed (s.set F.WHL_HANDOVER.SHADOW_MIN 0) 2 1 = true) ∧
    ∃ s : State, (s.whorl 1).repair.contains 9 = true :=
  let on := (State.reset.set F.PD_STAT.ON 0x7FF).set F.PD_STAT.FILLED 0x7FF
  ⟨⟨on.set F.WHL_LOOP_CFG.EN 1 1 2, by decide⟩, ⟨on, by decide⟩,
    ⟨(((on.set F.WHL_CTL.ROLE 1 1).set F.MODE_STAT.STANDBY_OK 1).set F.WHL_LOOP_CFG.EN 1 2 0), by decide⟩,
    ⟨on.setWhorl 1 { prep := .preparing }, by decide⟩, ⟨on.setWhorl 1 { prep := .copying }, by decide⟩,
    ⟨(on.set F.MODE_STAT.STANDBY_OK 1).setWhorl 1 { prep := .shadowing, target := 2 }, by decide⟩,
    ⟨on.setWhorl 1 { repair := [9] }, by decide⟩⟩

theorem witness_AfeWindows : (∃ s : State, winStartable s 1 0 = true ∧ (s.win 1 0).open_ = false ∧ s.get F.AFE_WIN_CTL.MODE 1 0 ≠ 3) ∧
    (∃ s : State, winStartable s 1 0 = true ∧ s.get F.AFE_WIN_CTL.MODE 1 0 = 3 ∧ s.get F.AFE_WIN_CTL.SEG_LEG 1 0 ≤ 1) ∧
    (∃ (s : State) (xs : List RawSample), s.getB F.AFE_PT_CFG.EN 1 0 = true ∧ (s.win 1 (s.get F.AFE_PT_CFG.BIND 1 0)).open_ = true ∧
      s.get F.AFE_PT_CFG.AVG 1 0 = 0 ∧ ((correct s 1 xs).map (·.2)).length = 2) ∧
    ∃ s : State, (s.win 1 0).res ≠ none ∧ s.pdReady 6 = true :=
  ⟨⟨(State.reset.set F.AFE_CH_CFG.EN 1 1).set F.AFE_WIN_CTL.EN 1 1 0, by decide⟩,
    ⟨((State.reset.set F.AFE_CH_CFG.EN 1 1).set F.AFE_WIN_CTL.EN 1 1 0).set F.AFE_WIN_CTL.MODE 3 1 0, by decide⟩,
    ⟨(State.reset.set F.AFE_PT_CFG.EN 1 1 0).setWin 1 0 { open_ := true }, [⟨0, 5, 8, false⟩, ⟨1, 6, 8, false⟩, ⟨2, 7, 8, false⟩, ⟨3, 7, 8, false⟩], by decide⟩,
    ⟨((State.reset.set F.PD_STAT.ON 0x7FF).set F.PD_STAT.FILLED 0x7FF).setWin 1 0 { res := some ⟨0, 0, 0, [], 0, 0, 0, 0, 0, 0⟩ }, by decide⟩⟩

theorem witness_AfeSlicesAndReferences : (∃ s : State, s.bit F.AFE_SLICE_STAT.FAILED (sliceAt s 1 2) 1 = false ∧ s.getB F.AFE_CH_CFG.SPARE_LOST 1 = false ∧
      s.regWriter .tinder = true ∧ s.pdReady 6 = true ∧ s.getB F.AFE_CTL.REF_EN = true ∧ s.getB F.AFE_CTL.REF_RDY = false) ∧
    (∃ s : State, calHold s = true ∧ anyChannelEnabled s = false) ∧ ∃ s : State, anyChannelEnabled s = true :=
  let on := (State.reset.set F.PD_STAT.ON 0x7FF).set F.PD_STAT.FILLED 0x7FF
  ⟨⟨on.set F.AFE_CTL.REF_EN 1, by decide⟩, ⟨on.set F.AFE_CTL.CAL_MODE 1, by decide +kernel⟩, ⟨on.set F.AFE_CH_CFG.EN 1 0, by decide +kernel⟩⟩

theorem witness_HousekeepingConversions : (∃ s : State, s.pdReady 10 = true ∧ s.bit F.HK_CTL.IN_EN 3 1 = true) ∧ ∃ s : State, (s.twin 1).arb = true ∧ (s.twin 1).lastBad = false :=
  ⟨⟨((State.reset.set F.PD_STAT.ON 0x7FF).set F.PD_STAT.FILLED 0x7FF).set F.HK_CTL.IN_EN 8 1, by decide⟩,
    ⟨State.reset.setTwin 1 { arb := true }, by decide⟩⟩

theorem witness_MemoryAccesses : (∃ s : State, busAddr s .tinder 0x10000008 = 0x10000008 ∧ memOk s .tinder 0x10000008 8 false = true ∧ s.poisoned 0x10000008 = false ∧
      memOk s .tinder 0x10000008 8 true = true ∧ eccBytes 0x10000008 ≤ 8 ∧ memOk s .tinder 0x10000008 4 true = true) ∧
    ∃ s : State, memOk s .tinder 0x10000008 4 true = true ∧ s.poisoned 0x10000008 = true :=
  let on := (State.reset.set F.PD_STAT.ON 0x7FF).set F.PD_STAT.FILLED 0x7FF
  ⟨⟨on, by decide⟩, ⟨poisonWord 0x10000008 on, by decide⟩⟩

theorem witness_ScrubberBucketsAndAsh : (∃ s : State, s.getB F.MEMC_SCRUB_CFG.EN = true ∧ s.pdReady 8 = true ∧ s.pdReady (keyDomain (scrubKey (.bank 3) 0)) = true ∧
      s.regWriter .tinder = true ∧ s.getB F.MEMC_XF_CTL.DRAINING 1 = false ∧ s.poisoned 0x70000000 = false) ∧
    (∃ s : State, (s.xfer 1).active = true ∧ s.get F.MEMC_XF_CTL.LEN 1 = 1 ∧
      (copyBeats (s.get F.MEMC_XF_SRC.SRC 1) (s.get F.MEMC_XF_DST.DST 1) 1 0 s).1 = 0 ∧
      s.get F.MEMC_XF_SRC.SRC 1 + 64 ≤ s.get F.MEMC_XF_DST.DST 1) ∧ ∃ s : State, s.fab.ashQ = [⟨0, 0, 0, 0, 0, 0, 0, []⟩] :=
  let on := (State.reset.set F.PD_STAT.ON 0x7FF).set F.PD_STAT.FILLED 0x7FF
  ⟨⟨on.set F.MEMC_SCRUB_CFG.EN 1, by decide⟩,
    ⟨(((on.set F.MEMC_XF_CTL.LEN 1 1).set F.MEMC_XF_SRC.SRC 0x10000000 1).set F.MEMC_XF_DST.DST 0x10000040 1).setXfer 1 { active := true },
      by decide +kernel⟩,
    ⟨{ State.reset with fab := { State.reset.fab with ashQ := [⟨0, 0, 0, 0, 0, 0, 0, []⟩] } }, rfl⟩⟩

theorem witness_EventsAndSignals : (∃ s : State, s.pdOn 8 = true ∧ (s.xing 34).flight = true ∧ s.getB F.EVR_ROUTE.TO_DAQ 34 = false ∧ s.getB F.EVR_ROUTE.TO_TRACE 34 = false ∧
      s.getB F.EVR_ROUTE.TO_REEL 34 = false) ∧
    (∃ s : State, regReader s .tinder 0x30030440 = true ∧ s.pdReady 8 = true ∧ claimNext s 1 = some 34) ∧
    (∃ s : State, regReader s .tinder 0x30030440 = true ∧ s.pdReady 8 = true ∧ claimNext s 1 = none) ∧
    (∃ s : State, dictAllowed s .reel true = true ∧ calAllowed s = true ∧ s.sigEntry 5 ≠ 0 ∧ sigCal (s.sigEntry 5) = true ∧
      sourceOk s (pageAddr s true (sigSrc (s.sigEntry 5))) = true ∧ memOk s (.pair 1) (pageAddr s true (sigSrc (s.sigEntry 5))) 4 true = true ∧
      sigBytes (sigType (s.sigEntry 5)) = 4) ∧
    ∃ s : State, s.pdReady 8 = true ∧ s.get F.SIG_EVCH.KIND 2 = 1 ∧ s.getB F.SIG_EVCH.EN 2 = true ∧
      s.xcp.lists = [{ odts := [[1]], evch := 2, running := true }] :=
  let on := (State.reset.set F.PD_STAT.ON 0x7FF).set F.PD_STAT.FILLED 0x7FF
  ⟨⟨on.setXing 34 { flight := true }, by decide⟩, ⟨on.set F.EVR_PEND_B.PEND 4 1, by decide +kernel⟩, ⟨on, by decide +kernel⟩,
    ⟨{ (on.set F.DBG_STAT.LEVEL 3) with fab := { on.fab with dict := [(5, 0x0001000410000100)] } }, by decide +kernel⟩,
    ⟨{ ((on.set F.SIG_EVCH.KIND 1 2).set F.SIG_EVCH.EN 1 2) with xcp := { on.xcp with lists := [{ odts := [[1]], evch := 2, running := true }] } },
      by decide⟩⟩

theorem witness_PwmSwitching : (∃ s : State, s.pdReady 7 = true ∧ (s.cg 1).running = true ∧ (s.cg 1).rising = true ∧ s.get F.PWM_LEG_CFG.GEN_SEL 0 = 0) ∧
    (∃ s : State, s.pdReady 7 = true ∧ (s.cg 1).running = false ∧ s.getB F.PWM_CG_CTL.EN 1 = true ∧ s.regWriter .tinder = true) ∧
    (∃ s : State, decideSw s 2 = .follow ∧ decideSw s 3 = .follow ∧ (s.leg 1).c ≠ 0 ∧ (s.sw 3).cmd = true) ∧
    (∃ s : State, (s.sw 2).pendOn = true ∧ showsOff s 3 = true ∧ decideSw s 2 ≠ .off ∧ decideSw s 2 = .follow ∧ (s.sw 3).win = .off ∧
      s.getB F.GIF_SW_CFG.GFB 3 = true ∧ 1 < max (s.get F.GIF_SW_CFG.REFUSE_N 3) 1) ∧
    (∃ s : State, fbUsed s 2 = true ∧ (s.sw 2).cmd = true ∧ (s.sw 2).win = .on ∧ s.getB F.GIF_SW_CFG.GFB 2 = false ∧
      1 < max (s.get F.GIF_SW_CFG.REFUSE_N 2) 1) ∧
    ∃ s : State, s.pwm.genSeen.testBit (s.get F.PWM_LEG_CFG.GEN_SEL 1) = false ∧ s.getB F.GIF_SW_CFG.GFB 2 = true :=
  let on := (State.reset.set F.PD_STAT.ON 0x7FF).set F.PD_STAT.FILLED 0x7FF
  let dr := ((((on.set F.MODE_STAT.MODE 7).set F.PWM_LEG_CFG.EN 1 1).set F.PWM_LEG_CFG.ARM 1 1).set F.PWM_LEG_CFG.CG 0 1)
  let dr : State := { dr with sys := { dr.sys with phase := .run }, pwm := { dr.pwm with genSeen := 15, cg := [(0, { running := true })], legs := [(1, { armed := true, c := 5 })] } }
  ⟨⟨on.setCg 1 { running := true }, by decide⟩, ⟨on.set F.PWM_CG_CTL.EN 1 1, by decide⟩, ⟨dr.setSw 3 { cmd := true }, by decide +kernel⟩,
    ⟨(((dr.setSw 2 { pendOn := true }).setSw 3 { win := .off }).set F.GIF_SW_CFG.GFB 1 3).set F.GIF_SW_CFG.FB_EN 0 3, by decide +kernel⟩,
    ⟨(on.setSw 2 { cmd := true, win := .on }).set F.GIF_SW_CFG.FB_EN 1 2, by decide +kernel⟩, ⟨on.set F.GIF_SW_CFG.GFB 1 2, by decide +kernel⟩⟩

theorem witness_FastProtection : (∃ s : State, s.getB F.GIF_COMP_CFG.HARD_EN 1 = true ∧ s.psetState (s.get F.GIF_COMP_CFG.PSET 1) = 0 ∧
      s.getB F.GIF_GFLT_CFG.EN 1 = true ∧ s.getB F.GIF_GFLT_CFG.TGT_KIND 1 = true) ∧
    (∃ s : State, s.getB F.GIF_COMP_CFG.HARD_EN 1 = true ∧ s.psetState (s.get F.GIF_COMP_CFG.PSET 1) = 1) ∧
    (∃ s : State, s.psetState 0 = 2 ∧ (0 ∈ legsOfSet s 0) ∧ (s.sw 0).pendOn = true ∧ showsOff s 1 = false) ∧
    ∃ s : State, s.regWriter (.pair 0) = true ∧ checkedOutput (.pair 0) = true ∧ s.pdReady 7 = true ∧ s.psetState 1 = 0 ∧ s.mode = 7 ∧
      s.get F.GIF_PSET_LOSS.LSTATE 1 ≠ 2 :=
  let on := (State.reset.set F.PD_STAT.ON 0x7FF).set F.PD_STAT.FILLED 0x7FF
  ⟨⟨((on.set F.GIF_COMP_CFG.HARD_EN 1 1).set F.GIF_GFLT_CFG.EN 1 1).set F.GIF_GFLT_CFG.TGT_KIND 1 1 |>.set F.GIF_PSET_STAT.STATE 0 0, by decide +kernel⟩,
    ⟨(on.set F.GIF_COMP_CFG.HARD_EN 1 1).set F.GIF_PSET_STAT.STATE 1 0, by decide +kernel⟩,
    ⟨(((on.set F.GIF_PSET_STAT.STATE 2 0).setSw 0 { pendOn := true }).setSw 1 { cmd := true }), by decide +kernel⟩,
    ⟨{ ((on.set F.MODE_STAT.MODE 7).set F.GIF_PSET_STAT.STATE 0 1) with sys := { on.sys with phase := .run } }, by decide +kernel⟩⟩

theorem witness_ConverterChannels : (∃ s : State, s.regWriter (.pair 0) = true ∧ checkedOutput (.pair 0) = true ∧ s.pdReady 5 = true ∧
      s.getB F.CNV_CH_CFG.DRAINING 1 = false ∧ s.get F.CNV_CH_CFG.KIND 1 ≠ 3 ∧ s.chState 1 = 0) ∧
    (∃ s : State, s.chState 1 = 1 ∧ (s.chan 1).waitRamp = true) ∧ (∃ s : State, s.chState 1 = 1 ∧ (s.chan 1).waitRamp = false ∧
      s.getB F.CNV_CH_CFG.MON_EN 1 = false) ∧
    (∃ s : State, s.chState 1 = 1 ∧ s.getB F.CNV_CH_CFG.MON_EN 1 = true ∧ 2 * sint (measure s 1 2) < sint ((s.chan 1).lastCmd.getD 3 0) ∧
      s.get F.CNV_CH_HIC.HICCUP_MAX 1 = 0) ∧
    (∃ s : State, s.chState 1 = 3) ∧ (∃ s : State, s.chState 1 = 4) ∧ (∃ s : State, s.chState 1 = 5) ∧
    (∃ s : State, s.getB F.CNV_CH_STAT.NL_UNDER 1 = true) ∧
    (∃ s : State, s.getB F.CNV_CH_SHDT.SHED_EN 1 = true ∧ s.chState 1 = 2 ∧ s.getB F.CNV_CH_STAT.SHED_LOCK 1 = false ∧
      s.getB F.CNV_CH_STAT.SHEDDING 1 = false ∧ shedLegs s 1 ≠ []) ∧ ∃ s : State, SMap.get 0 (s.chan 1).telCnt 2 ≠ 0 :=
  let on := (State.reset.set F.PD_STAT.ON 0x7FF).set F.PD_STAT.FILLED 0x7FF
  ⟨⟨on.set F.CNV_CH_CFG.KIND 1 1, by decide⟩, ⟨(on.set F.CNV_CH_STAT.STATE 1 1).setChan 1 { waitRamp := true }, by decide⟩,
    ⟨(on.set F.CNV_CH_STAT.STATE 1 1).set F.CNV_CH_CFG.MON_EN 0 1, by decide⟩,
    ⟨(((on.set F.CNV_CH_STAT.STATE 1 1).set F.CNV_CH_CFG.MON_EN 1 1).set F.CNV_CH_HIC.HICCUP_MAX 0 1).setChan 1 { lastCmd := [0, 0, 0, 9] }, by decide⟩,
    ⟨on.set F.CNV_CH_STAT.STATE 3 1, by decide⟩, ⟨on.set F.CNV_CH_STAT.STATE 4 1, by decide⟩, ⟨on.set F.CNV_CH_STAT.STATE 5 1, by decide⟩,
    ⟨on.set F.CNV_CH_STAT.NL_UNDER 1 1, by decide⟩,
    ⟨((((on.set F.CNV_CH_STAT.STATE 2 1).set F.CNV_CH_SHDT.SHED_EN 1 1).set F.CNV_CH_CFG.KIND 2 1).set F.CNV_CH_CFG.N_LEG_M1 1 1).set F.CNV_CH_STAT.ACTIVE 3 1, by decide⟩,
    ⟨on.setChan 1 { telCnt := [(2, 1)] }, by decide⟩⟩

theorem witness_FlyerSensors : (∃ s : State, s.getB F.FLY_ENC_CFG.EN 1 = true ∧ s.pdReady 7 = true ∧ srcStale s 1 = false ∧
      (s.src 1).errRun + 1 ≠ max 1 (s.get F.FLY_SRC_CFG.SENS_ERR_N 1) ∧ (s.sens 1).firstIdx = none ∧ s.regWriter .tinder = true) ∧
    (∃ s : State, s.getB F.FLY_HALL_CFG.EN 1 = true ∧ s.getB F.FLY_HALL_CFG.DIR_INV 1 = false ∧ srcStale s 5 = false ∧ s.pdReady 7 = true ∧
      hallSector 3 = some 1 ∧ (s.sens 5).sector = some 0) ∧
    (∃ s : State, s.getB F.FLY_RES_CFG.EN 1 = true ∧ s.pdReady 7 = true ∧ srcStale s 7 = false ∧ machSrc s 0 ≠ 7 ∧ machSrc s 1 ≠ 7 ∧
      (s.get F.FLY_RES_AMP.AMP_LO 1 * s.get F.FLY_RES_AMP.AMP_NOM 1) ^ 2 ≤ 4096 * (2 : Nat) ∧
      4096 * (2 : Nat) ≤ (s.get F.FLY_RES_AMP.AMP_HI 1 * s.get F.FLY_RES_AMP.AMP_NOM 1) ^ 2) ∧
    (∃ s : State, s.getB F.FLY_SER_CFG.EN 1 = true ∧ s.pdReady 7 = true ∧ (s.sens 9).busy = false) ∧
    (∃ s : State, (s.sens 9).busy = true ∧ (s.sens 9).drop = false ∧ srcStale s 9 = false ∧ s.getB F.FLY_SER_CFG.PROTO 1 = false ∧
      s.getB F.FLY_SER_CFG.GRAY 1 = false ∧ (s.src 9).errRun + 1 ≠ max 1 (s.get F.FLY_SRC_CFG.SENS_ERR_N 9)) ∧
    ∃ s : State, s.getB F.FLY_SENT_CFG.EN 1 = true ∧ s.pdReady 7 = true ∧ srcStale s 11 = false ∧ s.get F.FLY_SENT_CFG.NIBBLES 1 = 1 :=
  let on := (State.reset.set F.PD_STAT.ON 0x7FF).set F.PD_STAT.FILLED 0x7FF
  ⟨⟨(on.set F.FLY_ENC_CFG.EN 1 1).set F.FLY_SRC_CFG.SENS_ERR_N 3 1, by decide⟩,
    ⟨(on.set F.FLY_HALL_CFG.EN 1 1).setSens 5 { sector := some 0 }, by decide⟩,
    ⟨(((on.set F.FLY_RES_CFG.EN 1 1).set F.FLY_RES_AMP.AMP_LO 1 1).set F.FLY_RES_AMP.AMP_HI 10 1).set F.FLY_RES_AMP.AMP_NOM 30 1, by decide⟩,
    ⟨on.set F.FLY_SER_CFG.EN 1 1, by decide⟩, ⟨(on.set F.FLY_SRC_CFG.SENS_ERR_N 3 9).setSens 9 { busy := true }, by decide⟩,
    ⟨(on.set F.FLY_SENT_CFG.EN 1 1).set F.FLY_SENT_CFG.NIBBLES 1 1, by decide⟩⟩

theorem witness_FlyerTrackers : (∃ s : State, s.get F.FLY_SRC_CFG.MEAS_TMO 5 ≠ 0 ∧ machSrc s 1 = 5 ∧ s.getB F.FLY_MACH_CFG.EN 1 = true ∧
      s.getB F.FLY_MACH_STAT.LOST 1 = false ∧ s.pdReady 7 = true ∧ s.getB F.FLY_MACH_STAT.ACQUIRED 1 = false ∧
      (s.src 5).fresh1 = true ∧ srcStale s 5 = false) ∧
    (∃ s : State, s.getB F.FLY_MACH_STAT.LOST 1 = true ∧ s.getB F.FLY_MACH_CFG.EN 1 = true ∧ machSrc s 1 = 5 ∧
      max 1 (s.get F.FLY_SRC_CFG.SENS_ERR_N 5) ≤ (s.src 5).goodRun ∧ s.getB F.FLY_SRC_STAT.TIMEOUT 5 = false ∧ srcStale s 5 = false) ∧
    (∃ s : State, s.getB F.FLY_MACH_CFG.EN 1 = true ∧ s.getB F.FLY_MACH_STAT.LOST 1 = false ∧ machSrc s 1 < 4 ∧
      s.regWriter (.pair 0) = true ∧ checkedOutput (.pair 0) = true ∧ s.pdReady 7 = true ∧ setBlocked s 1 = false ∧ s.psetState 1 ≠ 1 ∧
      s.getB F.GIF_PSET_LOSS.LOSS_EN 1 = false) ∧
    (∃ s : State, s.getB F.FLY_CMP_CFG.EN 1 = true ∧ 9 < cmpRange s 1 ∧ cmpUpward s 1 = true ∧ cmpPos s 1 < 9 ∧
      cmpRange s 1 ≤ 0x8000000) ∧
    (∃ s : State, s.getB F.FLY_EMU_CFG.EN 1 = true ∧ s.get F.FLY_EMU_CFG.BACKLOG 1 ≠ 65535 ∧ (s.emu 1).due ≠ 0) ∧
    ∃ s : State, s.get F.GIF_PSET_LOSS.LSTATE 1 = 2 :=
  let on := (State.reset.set F.PD_STAT.ON 0x7FF).set F.PD_STAT.FILLED 0x7FF
  ⟨⟨(((on.set F.FLY_SRC_CFG.MEAS_TMO 1 5).set F.FLY_MACH_CFG.SRC 5 1).set F.FLY_MACH_CFG.EN 1 1).setSrc 5 { fresh1 := true }, by decide⟩,
    ⟨(((on.set F.FLY_MACH_STAT.LOST 1 1).set F.FLY_MACH_CFG.SRC 5 1).set F.FLY_MACH_CFG.EN 1 1).setSrc 5 { goodRun := 20 }, by decide⟩,
    ⟨((on.set F.FLY_MACH_CFG.SRC 2 1).set F.FLY_MACH_CFG.EN 1 1).set F.GIF_PSET_STAT.STATE 0 1, by decide +kernel⟩,
    ⟨(on.set F.FLY_CMP_CFG.EN 1 1).set F.FLY_ENC_CPR.CPR 4000 0, by decide⟩,
    ⟨(on.set F.FLY_EMU_CFG.EN 1 1).setEmu 1 { due := 3 }, by decide⟩, ⟨on.set F.GIF_PSET_LOSS.LSTATE 2 1, by decide⟩⟩

theorem witness_KilnRequests : (∃ s : State, spxReady s (.pair 0) 0 = true ∧ kreqWriter s (.pair 0) 0 = true ∧ s.sys.linkUp = true ∧
      hbWriter s (.pair 0) 0 false = some 0 ∧ SMap.get 0 s.kln.hbState 0 = 1 ∧ tbl16 s.kln.table 0xC8 ≤ 5) ∧
    (∃ s : State, spxReady s .tinder 0 = true ∧ kreqWriter s .tinder 0 = false) ∧
    (∃ s : State, kilnRuns s = true ∧ s.sys.released = true ∧ s.sys.linkUp = true ∧ s.kln.mail = [⟨0x0601, 3, .other⟩]) ∧
    (∃ s : State, s.pdReady 8 = true ∧ s.sys.linkUp = true) ∧
    (∃ s : State, s.kln.kstate = 2 ∧ s.mode = 6 ∧ pairHalted s = false ∧ releaseReason s true = none) ∧
    ∃ s : State, s.kln.kstate ≠ 0 ∧ s.kln.wdog = false :=
  let on := (State.reset.set F.PD_STAT.ON 0x7FF).set F.PD_STAT.FILLED 0x7FF
  ⟨⟨{ on with sys := { on.sys with linkUp := true }, kln := { on.kln with hbState := [(0, 1)] } }, by decide +kernel⟩, ⟨on, by decide +kernel⟩,
    ⟨{ on with sys := { on.sys with linkUp := true, released := true }, kln := { on.kln with kstate := 2, mail := [⟨0x0601, 3, .other⟩] } }, by decide +kernel⟩,
    ⟨{ on with sys := { on.sys with linkUp := true } }, by decide +kernel⟩,
    ⟨{ (on.set F.MODE_STAT.MODE 6) with sys := { on.sys with phase := .run }, kln := { on.kln with kstate := 2 } }, by decide +kernel⟩,
    ⟨{ on with kln := { on.kln with kstate := 2 } }, by decide⟩⟩

theorem witness_KilnChecks : (∃ s : State, kilnRuns s = true ∧ s.kln.present.testBit 10 = false ∧ s.kln.present.testBit 21 = false ∧ s.kln.present.testBit 23 = false ∧
      hasPin s.kln.table 0 = true ∧ hasPin s.kln.table 1 = true) ∧
    (∃ s : State, kilnRuns s = true ∧ (kSet s.kln.table 1).1 = true ∧ s.kln.ss1 = true ∧ hasPin s.kln.table 0 = false ∧ hasPin s.kln.table 1 = false) ∧
    (∃ s : State, kilnRuns s = true ∧ stoReleased s = true ∧ darkBlocked s = false ∧ s.kln.pulse.testBit 0 = true) ∧
    ∃ s : State, kilnRuns s = true ∧ stoReleased s = true ∧ darkBlocked s = true :=
  let on := (State.reset.set F.PD_STAT.ON 0x7FF).set F.PD_STAT.FILLED 0x7FF
  ⟨⟨{ on with kln := { on.kln with kstate := 2 } }, by decide⟩,
    ⟨{ on with kln := { on.kln with kstate := 2, ss1 := true, table := List.replicate 0x130 0xFF } }, by decide +kernel⟩,
    ⟨{ State.reset with kln := { State.reset.kln with kstate := 2, stoHs := true, stoLs := true, pulse := 1 } }, by decide +kernel⟩,
    ⟨{ on.set F.GIF_PSET_STAT.STATE 1 3 with kln := { on.kln with kstate := 2, stoHs := true, stoLs := true } }, by decide +kernel⟩⟩

theorem witness_MachineSupervision : (∃ s : State, pairRuns s 0 = true ∧ s.pdReady 7 = true ∧ s.sup.emr = true ∧ s.mode ≠ 3 ∧ s.mode ≠ 5 ∧ s.mode ≠ 7) ∧
    (∃ s : State, (s.mach 1).start = .catching ∧ s.getB F.FLY_MACH_STAT.EMF_LOCK 1 = true) ∧
    ∃ s : State, (s.mach 1).start = .catching ∧ s.getB F.FLY_MACH_STAT.EMF_LOCK 1 = false ∧ s.get F.GIF_PSET_LOSS.LSTATE 1 ≠ 2 :=
  let on := ((State.reset.set F.PD_STAT.ON 0x7FF).set F.PD_STAT.FILLED 0x7FF).set F.SPX_STAT.STATE 0
  ⟨⟨{ on with sys := { on.sys with released := true }, sup := { on.sup with emr := true } }, by decide +kernel⟩,
    ⟨(on.set F.FLY_MACH_STAT.EMF_LOCK 1 1).setMach 1 { start := .catching }, by decide +kernel⟩,
    ⟨on.setMach 1 { start := .catching }, by decide +kernel⟩⟩

theorem witness_ActuatorBridges : (∃ s : State, s.pdReady 10 = true ∧ s.regWriter .tinder = true ∧ s.getB F.ACT_STAT.ACT_EN_LVL = true ∧
      s.getB F.ACT_BR_STAT.ACT_OC_H 1 = false ∧ s.getB F.ACT_BR_STAT.ACT_OC_L 1 = false ∧ vdrvWatched s = true ∧ pairBRuns s = true) ∧
    (∃ s : State, s.pdReady 10 = true ∧ s.getB F.ACT_STAT.ACT_EN_LVL = false) ∧
    ∃ s : State, s.pdReady 10 = true ∧ s.pdReady 7 = true ∧ legOfBridge s 0 = some 3 ∧
      (s.sw 6).runOff + 1 < max (s.get F.GIF_SW_CFG.REFUSE_N 6) 1 :=
  let on := (State.reset.set F.PD_STAT.ON 0x7FF).set F.PD_STAT.FILLED 0x7FF
  ⟨⟨{ (((on.set F.ACT_STAT.ACT_EN_LVL 1).set F.ACT_BR_CFG.MODE 1 2).set F.SPX_STAT.STATE 0 1) with sys := { on.sys with released := true } },
      by decide +kernel⟩, ⟨on.set F.ACT_STAT.ACT_EN_LVL 0, by decide +kernel⟩,
    ⟨((on.set F.PWM_LEG_CFG.ROUTE 1 3).set F.PWM_LEG_CFG.ACT_SEL 0 3).set F.GIF_SW_CFG.REFUSE_N 3 6, by decide +kernel⟩⟩

theorem witness_ThermalRules : (∃ s : State, s.pdReady 10 = true ∧ sensorOn s 30 = true ∧ sampleTemp s 30 true 400 = some 400 ∧ sampleTemp s 30 false 400 = none ∧
      (s.sensor 30).bad = false ∧ s.getB F.THM_RULE_CFG.EN 2 = false) ∧
    (∃ s : State, s.pdReady 10 = true ∧ s.getB F.THM_RULE_CFG.EN 2 = true ∧ ruleTemps s 2 = []) ∧
    ∃ s : State, s.pdReady 10 = true ∧ s.get (tgtFld 2) < SMap.get 128 s.thm.want 2 :=
  let on := (State.reset.set F.PD_STAT.ON 0x7FF).set F.PD_STAT.FILLED 0x7FF
  ⟨⟨on, by decide +kernel⟩, ⟨on.set F.THM_RULE_CFG.EN 1 2, by decide +kernel⟩, ⟨on.set F.THM_TGT0.FACTOR2 5, by decide +kernel⟩⟩

theorem witness_PilotAndComparators : (∃ s : State, s.pdReady 8 = true ∧ s.mode ≠ 0 ∧ sessActive s = false ∧ s.pdReady 7 = true ∧ s.getB F.GIF_COMP_CFG.EN 3 = true ∧
      (s.compar 3).blank = true ∧ (s.compar 3).out = 0 ∧ s.get F.GIF_COMP_CFG.ACTION 3 < 2) ∧
    (∃ s : State, s.pdReady 7 = true ∧ s.getB F.GIF_COMP_CFG.EN 3 = true ∧ (s.compar 3).blank = false ∧ 2 ≤ s.get F.GIF_COMP_CFG.ACTION 3 ∧
      s.pdReady 5 = false) ∧
    (∃ s : State, s.pdReady 7 = true ∧ s.getB F.GIF_COMP_CFG.EN 3 = true ∧ (s.compar 3).blank = true ∧ (s.compar 3).out = 1 ∧
      2 ≤ s.get F.GIF_COMP_CFG.ACTION 3 ∧ s.pdReady 5 = false) ∧
    (∃ s : State, s.pdReady 7 = true ∧ s.getB F.GIF_COMP_CFG.EN 3 = true ∧ (s.compar 3).blank = false ∧ 2 ≤ s.get F.GIF_COMP_CFG.ACTION 3 ∧
      chUsed s 1 = true ∧ chActive s 1 = true ∧ s.get F.CNV_CH_FAST.FAST_CH 1 = 3 ∧ s.getB F.CNV_CH_FAST.FAST_EN 1 = true ∧
      s.getB F.CNV_CH_FAST.FAST_DIR 1 ≠ true ∧ (∀ j < 3, s.get F.CNV_CH_NL.NL_CH j ≠ 3) ∧ s.mode = 4 ∧ sessActive s = true) ∧
    ∃ s : State, s.pdReady 7 = true ∧ s.getB F.GIF_COMP_CFG.EN 3 = true ∧ 2 ≤ s.get F.GIF_COMP_CFG.ACTION 3 ∧ chUsed s 1 = true ∧
      s.get F.CNV_CH_NL.NL_CH 1 = 3 :=
  let on := (State.reset.set F.PD_STAT.ON 0x7FF).set F.PD_STAT.FILLED 0x7FF
  let c3 := on.set F.GIF_COMP_CFG.EN 1 3
  let c5 := ((c3.set F.GIF_COMP_CFG.ACTION 2 3).set F.CNV_CH_CFG.KIND 1 1).set F.CNV_CH_STAT.STATE 2 1
  let f5 := ((c5.set F.CNV_CH_FAST.FAST_CH 3 1).set F.CNV_CH_FAST.FAST_EN 1 1).set F.CNV_CH_FAST.FAST_DIR 0 1
  ⟨⟨{ (c3.set F.MODE_STAT.MODE 2) with sys := { c3.sys with phase := .run } }.setCompar 3 { blank := true }, by decide⟩,
    ⟨(c3.set F.GIF_COMP_CFG.ACTION 2 3).set F.PD_STAT.ON 0x7DF, by decide⟩,
    ⟨((c3.set F.GIF_COMP_CFG.ACTION 2 3).set F.PD_STAT.ON 0x7DF).setCompar 3 { blank := true, out := 1 }, by decide⟩,
    ⟨{ ((((((f5.set F.CNV_CH_NL.NL_CH 9 0).set F.CNV_CH_NL.NL_CH 9 1).set F.CNV_CH_NL.NL_CH 9 2).set F.MODE_STAT.MODE 4).set F.CHG_SESS.STATE 3))
        with sys := { c3.sys with phase := .run } }, by decide⟩,
    ⟨c5.set F.CNV_CH_NL.NL_CH 3 1, by decide⟩⟩

theorem witness_ChargeSessions : (∃ s : State, pairBRuns s = true ∧ s.pdReady 8 = true ∧ s.thm.calDue = [] ∧ s.sys.cfg.chg.actLims = [] ∧ s.get F.CHG_SESS.STATE = 0 ∧
      s.chg.cmd = false ∧ s.chg.ends = [] ∧ s.chg.hostMs = 0 ∧ s.chg.fresh = false ∧ s.chg.preStop = false ∧ s.chState 2 ≠ 2) ∧
    (∃ s : State, pairBRuns s = true ∧ s.pdReady 8 = true ∧ s.thm.calDue = [] ∧ s.sys.cfg.chg.actLims = [] ∧ s.get F.CHG_SESS.STATE = 0 ∧
      s.chg.ends = [] ∧ s.chg.hostMs = 0 ∧ mayCharge s = true ∧ s.chg.fresh = true) ∧
    (∃ s : State, pairBRuns s = true ∧ s.chg.fresh = true ∧ s.get F.CHG_SESS.STATE = 2) ∧
    (∃ s : State, pairBRuns s = true ∧ s.get F.CHG_SESS.STATE = 4 ∧ s.chg.pause = 1 ∧ s.chg.ends = [] ∧ s.chg.hvHold = true ∧ s.chState 0 = 2) ∧
    (∃ s : State, pairBRuns s = true ∧ s.get F.CHG_B12.PHASE = 6 ∧ s.get F.CHG_PRE.PSTATE = 1 ∧ chUsed s 2 = true ∧ chActive s 2 = true) ∧
    ∃ s : State, pairBRuns s = true ∧ s.get F.CHG_B12.PHASE = 2 ∧ 120 * max 1 (s.get F.CHG_B12_CFG.SAFETY_T) ≤ s.get F.CHG_B12.TIMER ∧
      s.get F.CHG_PRE.PSTATE = 2 ∧ s.chState 2 = 1 :=
  let on := (State.reset.set F.PD_STAT.ON 0x7FF).set F.PD_STAT.FILLED 0x7FF
  let b := { (on.set F.SPX_STAT.STATE 0 1) with sys := { on.sys with released := true, phase := .run } }
  let rdy := ((((b.set F.MODE_STAT.MODE 4).set F.CHG_PP.CLASS 3).set F.CHG_PILOT.STATE 2).set F.CHG_PILOT.I_PILOT 160)
  ⟨⟨b, by decide +kernel⟩, ⟨{ rdy with chg := { rdy.chg with cmd := true, fresh := true } }, by decide +kernel⟩,
    ⟨{ b.set F.CHG_SESS.STATE 2 with chg := { fresh := true } }, by decide +kernel⟩,
    ⟨{ (b.set F.CHG_SESS.STATE 4).set F.CNV_CH_STAT.STATE 2 0 with chg := { pause := 1, hvHold := true } }, by decide +kernel⟩,
    ⟨(((b.set F.CHG_B12.PHASE 6).set F.CHG_PRE.PSTATE 1).set F.CNV_CH_STAT.STATE 2 2).set F.CNV_CH_CFG.KIND 1 2, by decide +kernel⟩,
    ⟨(((((b.set F.CHG_B12.PHASE 2).set F.CHG_B12_CFG.SAFETY_T 1).set F.CHG_B12.TIMER 120).set F.CHG_PRE.PSTATE 2).set F.CNV_CH_STAT.STATE 1 2),
      by decide +kernel⟩⟩

theorem witness_BusControllers : (∃ s : State, canActive s 1 = true ∧ s.getB F.CAN_CTL.DRAINING 1 = false ∧ s.get F.CAN_RX_WR.WR 1 % ringSize s 1 + 32 ≤ ringSize s 1 ∧
      ringUsed s 1 + 32 + 8 < ringSize s 1 ∧ busWriter s .reel = true ∧ s.getB F.CAN_CTL.EN 1 = true) ∧
    (∃ s : State, canActive s 1 = true ∧ s.getB F.CAN_CTL.DRAINING 1 = false ∧ ringSize s 1 ≤ ringUsed s 1 + 32 + 8 ∧ (s.can 1).dropAt = none) ∧
    (∃ s : State, canActive s 1 = true ∧ s.getB F.CAN_CTL.DRAINING 1 = true ∧ s.pdReady 9 = true) ∧
    (∃ s : State, s.pdReady 9 = true ∧ canState s 1 = 1 ∧ s.getB F.CAN_CTL.DRAINING 1 = false) ∧
    (∃ s : State, s.pdReady 9 = true ∧ canState s 1 = 4 ∧ busWriter s .reel = true ∧ s.getB F.CAN_CTL.EN 1 = true) ∧
    (∃ s : State, busWriter s .reel = true ∧ s.getB F.CAN_CTL.EN 1 = false ∧ inTest s 1 = false ∧ s.getB F.CAN_CTL.DRAINING 1 = false ∧
      canState s 1 = 0) ∧
    ∃ s : State, busWriter s .reel = true ∧ s.getB F.CAN_CTL.EN 1 = false ∧ inTest s 1 = true :=
  let on := (State.reset.set F.PD_STAT.ON 0x7FF).set F.PD_STAT.FILLED 0x7FF
  ⟨⟨(on.set F.CAN_STAT.STATE 2 1).set F.CAN_CTL.EN 1 1, by decide⟩, ⟨(on.set F.CAN_STAT.STATE 2 1).set F.CAN_RX_RD.RD 16 1, by decide⟩,
    ⟨(on.set F.CAN_STAT.STATE 2 1).set F.CAN_CTL.DRAINING 1 1, by decide⟩, ⟨on.set F.CAN_STAT.STATE 1 1, by decide⟩,
    ⟨(on.set F.CAN_STAT.STATE 4 1).set F.CAN_CTL.EN 1 1, by decide⟩, ⟨on, by decide⟩, ⟨on.set F.DBG_OLT_CAN.IN_TEST 2, by decide⟩⟩

theorem witness_BusTransmission : let e : TxEntry := ⟨0, 0, 0x10000040, 5, none⟩
    let f : TxEntry := ⟨0, 0x20010000, 0x10000040, 5, none⟩
    (∃ s : State, s.pdReady 9 = true ∧ windowOf 1 (.pair 0) = true ∧ windowOf 1 .reel = false ∧ (s.can 2).queue.length < 128 ∧ canActive s 2 = true ∧
      s.getB F.CAN_CTL.DRAINING 2 = false ∧ (s.can 2).queue = [e] ∧ (s.can 2).local_ = none ∧ s.pdReady 8 = true ∧ inSram (e.w2.toNat) = true ∧
      inSram (e.w2.toNat + entryLen e - 1) = true ∧ (∀ i < (entryLen e + 7) / 8, s.poisoned (e.w2.toNat + 8 * i) = false)) ∧
    (∃ s : State, 128 ≤ (s.can 2).queue.length ∧ s.pdReady 9 = true) ∧
    (∃ s : State, canActive s 2 = true ∧ s.getB F.CAN_CTL.DRAINING 2 = false ∧ (s.can 2).queue = [f] ∧ (s.can 2).local_.isSome = true ∧
      (s.can 2).arb = false ∧ entryAt f = true ∧ entryLen f ≠ 0 ∧ signed 32 ((s.ts32 + 2 ^ 32 - f.w3.toNat) % 2 ^ 32) = 2 ∧
      100 * (s.get F.REEL_CTL.LATE_TOL : Int) = 0) ∧
    ∃ s : State, canActive s 2 = true ∧ s.getB F.CAN_CTL.DRAINING 2 = false ∧ (s.can 2).queue = [e] ∧ (s.can 2).arb = true ∧
      s.getB F.CAN_CTL.OWN_ECHO 2 = false ∧ s.get F.CAN_CTL.RETRY_LIMIT 2 = 0 ∧ 256 ≤ tec s 2 + 8 :=
  let on := (State.reset.set F.PD_STAT.ON 0x7FF).set F.PD_STAT.FILLED 0x7FF
  let c := on.set F.CAN_STAT.STATE 2 2
  ⟨⟨c.setCan 2 { queue := [⟨0, 0, 0x10000040, 5, none⟩] }, by decide⟩,
    ⟨on.setCan 2 { queue := List.replicate 128 ⟨0, 0, 0, 0, none⟩ }, by decide +kernel⟩,
    ⟨{ (c.set F.REEL_CTL.LATE_TOL 0).setCan 2 { queue := [⟨0, 0x20010000, 0x10000040, 5, none⟩], local_ := some [] } with fab := { on.fab with ts := 7 } },
      by decide⟩,
    ⟨((c.set F.CAN_CTL.RETRY_LIMIT 0 2).set F.CAN_STAT.TEC 250 2).setCan 2 { queue := [⟨0, 0, 0x10000040, 5, none⟩], arb := true }, by decide⟩⟩

theorem witness_ReelRuns : let d : TxDef := { stat0 := true }
    (∃ s : State, reelRuns s = true ∧ ringNext s 1 = some 0 ∧ (takeToken 3 s).1 = false ∧ s.bus.reel.floodAt = none) ∧
    (∃ s : State, reelRuns s = true ∧ ringNext s 1 = some 0 ∧ (takeToken 3 s).1 = true ∧ (s.sys.cfg.reel.rx.getD 0 {}).secured = false ∧
      ringHigh s 1 = false ∧ SMap.get 0 s.bus.reel.mbxN 1 < 256 ∧ s.bus.reel.ovrRun + 1 < max 1 (s.get F.REEL_CFG.OVR_N)) ∧
    (∃ s : State, reelRuns s = true ∧ ringNext s 1 = some 0 ∧ (takeToken 3 s).1 = true ∧ (s.sys.cfg.reel.rx.getD 0 {}).secured = true ∧
      SMap.get 0 s.bus.reel.last 0 < 7 ∧ 7 ≤ SMap.get 0 s.bus.reel.last 0 + (s.sys.cfg.reel.rx.getD 0 {}).freshWin ∧
      max 1 (s.get F.REEL_CFG.OVR_N) ≤ s.bus.reel.ovrRun + 1) ∧
    (∃ s : State, s.pdReady 9 = true ∧ s.get F.REEL_CTL.RUN = 0 ∧ s.get F.REEL_CTL.STOPPED = 0 ∧ s.get F.REEL_CTL.RESETS = 1) ∧
    (∃ s : State, s.pdReady 9 = true ∧ s.get F.REEL_CTL.RUN = 0 ∧ s.get F.REEL_CTL.STOPPED = 0 ∧ s.get F.REEL_CTL.RESETS = 3) ∧
    (∃ s : State, reelRuns s = true ∧ s.sys.cfg.reel.tx[0]? = some d ∧ d.event = none ∧ defCtrl s d = some 0 ∧ (s.can 0).queue = []) ∧
    ∃ s : State, reelRuns s = true ∧ s.sys.cfg.reel.tx[0]? = some d ∧ d.event = none ∧ defCtrl s d = some 0 ∧
      (s.can 0).queue.any (fun e => e.dfn == some 0) = true :=
  let on := (State.reset.set F.PD_STAT.ON 0x7FF).set F.PD_STAT.FILLED 0x7FF
  let run := (on.set F.REEL_CTL.RUN 1).set F.CAN_RX_WR.WR 32 1
  let cls := { run with sys := { run.sys with cfg := { run.sys.cfg with reel := { classes := List.replicate 4 { burst := 4 } } } } }
  let sec := { run with sys := { run.sys with cfg := { run.sys.cfg with reel := { classes := List.replicate 4 { burst := 4 }, rx := [{ secured := true }] } } } }
  let st := { run with sys := { run.sys with cfg := { run.sys.cfg with reel := { tx := [{ stat0 := true }] } } } }
  ⟨⟨{ run with sys := { run.sys with cfg := { run.sys.cfg with reel := { classes := List.replicate 4 { burst := 0 } } } } }, by decide⟩,
    ⟨cls.set F.REEL_CFG.OVR_N 5, by decide⟩, ⟨sec.set F.REEL_CFG.OVR_N 1, by decide⟩,
    ⟨on.set F.REEL_CTL.RESETS 1, by decide⟩, ⟨on.set F.REEL_CTL.RESETS 3, by decide⟩, ⟨st, by decide⟩,
    ⟨st.setCan 0 { queue := [⟨0, 0, 0, 0, some 0⟩] }, by decide⟩⟩

theorem witness_ClockMonitors : (∃ s : State, clocksUp s = true ∧ s.getB F.CLK_STAT.XIN_OK = true ∧ s.bit F.CLK_STAT.LOCK 2 = true ∧ s.sys.linkUp = true ∧
      SMap.get 0 s.fab.badWin 2 = 1 ∧ s.fab.relocking.testBit 2 = true ∧ s.get F.CLK_STAT.HOLDOVER = 0 ∧ s.bit F.CDC_STALE.STALE 3 = true) ∧
    (∃ s : State, s.regWriter .tinder = true ∧ s.pdReady 8 = true ∧ relockOk s = true) ∧
    ∃ s : State, s.regWriter .tinder = true ∧ s.pdReady 8 = true ∧ relockOk s = false ∧ s.bit F.CDC_STALE.STALE 5 = false ∧ sampledBy 5 = [] ∧
      regReader s .reel 0x30010010 = false ∧ regReader s .tinder 0x30010010 = true :=
  let on := (State.reset.set F.PD_STAT.ON 0x7FF).set F.PD_STAT.FILLED 0x7FF
  let k := ((on.set F.CLK_STAT.XIN_OK 1).set F.CLK_STAT.LOCK 15).set F.CDC_STALE.STALE 8
  let r := { (on.set F.MODE_STAT.MODE 2) with sys := { on.sys with phase := .run } }
  ⟨⟨{ k with sys := { k.sys with linkUp := true }, fab := { k.fab with tsRun := true, badWin := [(2, 1)], relocking := 4 } }, by decide +kernel⟩,
    ⟨r, by decide +kernel⟩, ⟨r.set F.MODE_STAT.MODE 3, by decide +kernel⟩⟩

theorem witness_DebugAndJtag : (∃ s : State, s.tnd.expiry = true ∧ s.dbgLevel = 2 ∧ l2Cond s = false ∧ haltWriter s .debug = true ∧ haltWriter s .tinder = false ∧
      s.pdReady 3 = true ∧ s.bit F.DBG_HALT.HALT 3 = false ∧ s.get F.SPX_STAT.STATE 1 = 0 ∧ s.get F.SPX_STAT.STATE 0 = 5 ∧ s.pdReady 2 = true ∧
      s.bit F.DBG_HALT.HALT 0 = false ∧ s.bit F.DBG_HALT.HALT 1 = true) ∧
    (∃ s : State, haltWriter s .debug = true ∧ s.bit F.DBG_HALT.HALT 3 = true ∧ s.bit F.DBG_HALT.HALT 2 = false ∧ s.get F.SPX_STAT.STATE 1 = 6 ∧
      s.pdReady 3 = true) ∧
    (∃ s : State, s.sys.trans.isSome = true ∧ s.get F.SPX_STAT.STATE 1 = 2 ∧ s.pdReady 3 = true) ∧
    ∃ s : State, vddIoOk s = true ∧ s.mode ≠ 0 ∧ lifecycle s = 0 :=
  let on := ((State.reset.set F.PD_STAT.ON 0x7FF).set F.PD_STAT.FILLED 0x7FF).set F.DBG_STAT.LEVEL 2
  ⟨⟨{ (((on.set F.SPX_STAT.STATE 0 1).set F.SPX_STAT.STATE 5 0).set F.DBG_HALT.HALT 2) with tnd := { on.tnd with expiry := true } }, by decide +kernel⟩,
    ⟨(on.set F.SPX_STAT.STATE 6 1).set F.DBG_HALT.HALT 8, by decide +kernel⟩,
    ⟨{ (on.set F.SPX_STAT.STATE 2 1) with sys := { on.sys with trans := some ⟨6, false⟩ } }, by decide +kernel⟩,
    ⟨{ (on.set F.MODE_STAT.MODE 2) with sys := { on.sys with phase := .run, supEn := true } }, by decide +kernel⟩⟩

theorem witness_OnlineTests :
    let asks := fun (s : State) => s.regWriter (.pair 0) = true ∧ s.pdReady 8 = true ∧ checkedOutput (.pair 0) = true ∧ s.olt.test = none ∧
      s.get F.DBG_OLT_REQ.BUSY = 0
    (∃ s : State, asks s ∧ logicTestOk s 1 = true ∧ atRest s = true ∧ whorlMarchOk s 3 = true ∧ relockOk s = true ∧ s.mode = 2 ∧ s.pdReady 1 = true ∧
      s.tnd.serving = none ∧ s.pdReady 9 = true ∧ s.sys.released = true ∧ s.getB F.CAN_CTL.EN 1 = false ∧ canState s 1 ≠ 7 ∧
      s.bit F.DBG_OLT_CAN.IN_TEST 1 = true) ∧
    (∃ s : State, asks s ∧ atRest s = false) ∧ (∃ s : State, s.pdReady 8 = true ∧ s.olt.test = some (2, 5)) ∧
    ∃ s : State, s.pdReady 8 = true ∧ s.olt.test = some (1, 1) :=
  let on := (State.reset.set F.PD_STAT.ON 0x7FF).set F.PD_STAT.FILLED 0x7FF
  let r := { ((on.set F.MODE_STAT.MODE 2).set F.DBG_OLT_CAN.IN_TEST 2).set F.SPX_STAT.STATE 0 1 with sys := { on.sys with phase := .run, released := true } }
  ⟨⟨r, by decide +kernel⟩, ⟨r.set F.MODE_STAT.MODE 3, by decide +kernel⟩, ⟨{ r with olt := { r.olt with test := some (2, 5) } }, by decide +kernel⟩,
    ⟨{ r with olt := { r.olt with test := some (1, 1) } }, by decide +kernel⟩⟩

theorem witness_LockstepPairs : (∃ s : State, coreRuns s 2 = true ∧ s.get F.SPX_STAT.STATE 1 = 0 ∧ SMap.get 0 s.upd.migr 1 ≠ 2 ∧ s.pdReady 3 = true ∧ (s.pairSt 1).buf0 = [] ∧
      (s.pairSt 1).ins = [] ∧ inTcm 0x10000000 = false ∧ stalls s 2 0x10000000 4 = false ∧ (s.pairSt 1).events = []) ∧
    (∃ s : State, coreRuns s 2 = true ∧ s.get F.SPX_STAT.STATE 1 = 5) ∧ (∃ s : State, coreRuns s 2 = true ∧ s.get F.SPX_STAT.STATE 1 = 1) ∧
    (∃ s : State, s.get F.SPX_STAT.STATE 1 = 0 ∧ SMap.get 0 s.upd.migr 1 ≠ 2 ∧ s.pdReady 3 = true ∧ (s.pairSt 1).buf0 = [PRec.forced 3] ∧
      (s.pairSt 1).buf1 = [PRec.forced 3] ∧ (PRec.forced 3).same (.forced 3) = true ∧ (PRec.forced 3).same (.forced 4) = false) ∧
    (∃ s : State, s.get F.SPX_STAT.STATE 1 = 0 ∧ SMap.get 0 s.upd.migr 1 ≠ 2 ∧ s.pdReady 3 = true ∧ (s.pairSt 1).buf0 = [] ∧
      (s.pairSt 1).buf1 = [PRec.forced 3]) ∧
    (∃ s : State, coreRuns s 2 = true ∧ s.get F.SPX_STAT.STATE 1 = 0 ∧ stalls s 2 0x10000000 4 = false ∧
      (s.pairSt 1).ins = [(0x10000000, 4, .data 1)] ∧ (s.pairSt 1).lead1 ≠ false ∧ (s.pairSt 1).events.find? (fun e => e.1 == 4 * 7 + 3) = some (31, 9)) ∧
    ∃ s : State, s.pdReady 3 = true ∧ s.get F.SPX_STAT.STATE 1 = 4 ∧ SMap.get 0 s.upd.migr 1 = 0 ∧ s.poisoned 0x10000000 = false ∧
      s.sys.loader.descs = [] :=
  let on := ((State.reset.set F.PD_STAT.ON 0x7FF).set F.PD_STAT.FILLED 0x7FF).set F.SPX_STAT.STATE 0 1
  ⟨⟨on, by decide +kernel⟩, ⟨on.set F.SPX_STAT.STATE 5 1, by decide +kernel⟩, ⟨on.set F.SPX_STAT.STATE 1 1, by decide +kernel⟩,
    ⟨on.setPair 1 { buf0 := [.forced 3], buf1 := [.forced 3] }, by decide +kernel⟩, ⟨on.setPair 1 { buf1 := [.forced 3] }, by decide +kernel⟩,
    ⟨on.setPair 1 { ins := [(0x10000000, 4, .data 1)], lead1 := true, events := [(31, 9)] }, by decide +kernel⟩,
    ⟨on.set F.SPX_STAT.STATE 4 1, by decide +kernel⟩⟩

theorem witness_HostCommands : (∃ s : State, pairRuns s 0 = true ∧ aliveOk s (SMap.get 0 s.sup.alive 0) 3 = true ∧ aliveOk s (SMap.get 0 s.sup.alive 1) 3 = false ∧
      preBlocks s = false ∧ machPar s 1 = some {} ∧ ({} : MachPar).speedMode = false ∧ kreqPair s = 0 ∧ s.sup.emr = true ∧
      (s.mach 1).commanded = true ∧ (s.mach 1).hostLost = false ∧ s.sys.cfg.sup.lossAct ≠ 2) ∧
    (∃ s : State, pairRuns s 0 = true ∧ aliveOk s (SMap.get 0 s.sup.alive 1) 3 = true ∧ preBlocks s = false ∧
      machPar s 1 = some { speedMode := true } ∧ s.sup.emr = false ∧ s.sys.cfg.sup.emrEn = true ∧ s.mode = 3 ∧ (s.mach 1).hostLost = true) ∧
    (∃ s : State, pairBRuns s = true ∧ aliveOk s s.chg.alive 3 = true ∧ preBlocks s = false ∧ s.get F.CHG_SESS.STATE = 4 ∧ s.chg.pause = 1 ∧
      s.chg.cmd = true ∧ s.chg.hostMs = 0) ∧
    (∃ s : State, pairBRuns s = true ∧ s.mode = 2 ∧ s.get F.CHG_PRE.PSTATE = 0 ∧ s.chg.bms = some ⟨0, 0, 0, 0, some 7⟩ ∧ s.chg.fresh = true ∧
      7 ≤ (chgPar s).hvMax ∧ chUsed s 2 = true ∧ s.chState 2 = 0 ∧ s.getB F.CNV_CH_CFG.DRAINING 2 = false ∧ s.get F.CHG_SESS.STATE ≠ 4) ∧
    ∃ s : State, pairBRuns s = true ∧ s.get F.CHG_PRE.PSTATE = 2 ∧ s.chState 2 = 1 :=
  let on := (State.reset.set F.PD_STAT.ON 0x7FF).set F.PD_STAT.FILLED 0x7FF
  let a := (on.set F.SPX_STAT.STATE 0 0).set F.SPX_STAT.STATE 0 1
  let r := { a with sys := { a.sys with released := true, phase := .run, cfg := { a.sys.cfg with sup := { a.sys.cfg.sup with machs := [{}, {}] } } } }
  let q := { a with sys := { a.sys with released := true, phase := .run, cfg := { a.sys.cfg with sup := { a.sys.cfg.sup with
    machs := [{}, { speedMode := true }], emrEn := true } } } }
  let h := { a with sys := { a.sys with released := true, phase := .run, cfg := { a.sys.cfg with chg := { a.sys.cfg.chg with hvMax := 9 } } } }
  ⟨⟨{ r with sup := { machs := [(1, { commanded := true })], emr := true, alive := [(1, 4)] } }, by decide +kernel⟩,
    ⟨{ (q.set F.MODE_STAT.MODE 3) with sup := { machs := [(1, { hostLost := true })] } }, by decide +kernel⟩,
    ⟨{ (r.set F.CHG_SESS.STATE 4) with chg := { pause := 1, cmd := true } }, by decide +kernel⟩,
    ⟨{ ((h.set F.MODE_STAT.MODE 2).set F.CNV_CH_CFG.KIND 1 2) with chg := { bms := some ⟨0, 0, 0, 0, some 7⟩, fresh := true } }, by decide +kernel⟩,
    ⟨(r.set F.CHG_PRE.PSTATE 2).set F.CNV_CH_STAT.STATE 1 2, by decide +kernel⟩⟩

theorem witness_ModeRequests :
    let ask := fun (s : State) => s.regWriter (.pair 0) = true ∧ s.pdReady 8 = true ∧ Master.pair 0 = .pair s.sys.cfg.modePair ∧
      s.getB F.MODE_STAT.BUSY = false ∧ s.olt.test = none
    let fits := fun (s : State) (target : Nat) => requestable s target = true ∧ conditions s target true = none
    (∃ s : State, ask s ∧ fits s 3 ∧ fits s 4 ∧ fits s 7 ∧ dormantAllowed s = true) ∧ (∃ s : State, ask s ∧ fits s 5 ∧ conditions s 3 true = some 5) ∧
    (∃ s : State, ask s ∧ fits s 2 ∧ s.mode = 5 ∧ requestable s 3 = false) ∧
    (∃ s : State, ask s ∧ s.mode = 4 ∧ s.getB F.MODE_STAT.V2L = false ∧ conditions s 4 true = none) ∧
    (∃ s : State, ask s ∧ fits s 1) ∧ (∃ s : State, s.regWriter .tinder = true ∧ s.pdReady 8 = true ∧ Master.tinder ≠ .pair s.sys.cfg.modePair) ∧
    (∃ s : State, s.sys.trans = some ⟨3, false⟩ ∧ pairsSettled s = true ∧ s.getB F.MODE_STAT.BUSY = true) ∧
    ∃ s : State, s.sys.trans = some ⟨3, false⟩ ∧ pairsSettled s = false :=
  let on := (State.reset.set F.PD_STAT.ON 0x7FF).set F.PD_STAT.FILLED 0x7FF
  let r := { ((((on.set F.MODE_STAT.MODE 2).set F.MODE_STAT.BUSY 0).set F.EMB_STAT.PROG_OK 1).set F.EMB_STAT.ARMED 1) with
    sys := { on.sys with released := true, phase := .run } }
  ⟨⟨r, by decide +kernel⟩, ⟨r.set F.MODE_STAT.LIMP_LATCH 1, by decide +kernel⟩, ⟨r.set F.MODE_STAT.MODE 5, by decide +kernel⟩,
    ⟨r.set F.MODE_STAT.MODE 4, by decide +kernel⟩, ⟨r.set F.MODE_STAT.MODE 7, by decide +kernel⟩, ⟨r, by decide +kernel⟩,
    ⟨{ ((r.set F.MODE_STAT.BUSY 1).set F.SPX_STAT.STATE 0 0).set F.SPX_STAT.STATE 0 1 with sys := { r.sys with trans := some ⟨3, false⟩ } }, by decide +kernel⟩,
    ⟨{ r.set F.SPX_STAT.STATE 2 0 with sys := { r.sys with trans := some ⟨3, false⟩ } }, by decide +kernel⟩⟩

theorem witness_ImposedTransitionsAndLink : (∃ s : State, topReact (s.sys.reacts.filter (fun r => imposes s r.cls)) = some ⟨0x0101, 4, .other⟩ ∧ s.mode = 3) ∧
    (∃ s : State, topReact (s.sys.reacts.filter (fun r => imposes s r.cls)) = some ⟨0x0101, 2, .other⟩ ∧ s.mode = 4) ∧
    (∃ s : State, topReact (s.sys.reacts.filter (fun r => imposes s r.cls)) = some ⟨0x0101, 2, .other⟩ ∧ s.mode = 7 ∧ s.sys.trans = none) ∧
    (∃ s : State, topReact (s.sys.reacts.filter (fun r => imposes s r.cls)) = some ⟨0x0101, 1, .other⟩) ∧
    (∃ s : State, s.sys.linkUp = true ∧ s.sys.linkLost = false ∧ s.pdOn 8 = true ∧ starting s = false ∧ kilnRuns s = true ∧ s.sys.linkCrcRun = 2) ∧
    (∃ s : State, s.sys.linkUp = true ∧ s.sys.linkLost = false ∧ s.pdOn 8 = true ∧ starting s = true ∧ s.sys.linkCrcRun < 2) ∧
    ∃ s : State, s.pdOn 8 = true ∧ s.pdOn 10 = true ∧ s.sys.linkUp = false ∧ topReact (s.sys.reacts.filter (fun r => imposes s r.cls)) = none :=
  let on := (State.reset.set F.PD_STAT.ON 0x7FF).set F.PD_STAT.FILLED 0x7FF
  let r := fun (mode cls : Nat) => { (on.set F.MODE_STAT.MODE mode) with
    sys := { on.sys with phase := .run, reacts := [⟨0x0101, cls, .other⟩], linkUp := true, linkCrcRun := 2 }, kln := { on.kln with kstate := 2 } }
  ⟨⟨r 3 4, by decide +kernel⟩, ⟨r 4 2, by decide +kernel⟩, ⟨r 7 2, by decide +kernel⟩, ⟨r 3 1, by decide +kernel⟩, ⟨r 3 1, by decide +kernel⟩,
    ⟨{ on with sys := { on.sys with phase := .loading, linkUp := true } }, by decide +kernel⟩, ⟨on, by decide +kernel⟩⟩

theorem witness_StartSequence : (∃ s : State, s.sys.phase = .noPower) ∧ (∃ s : State, s.sys.phase = .supplies) ∧
    (∃ s : State, s.sys.phase = .pllStart ∧ (s.tnd.fuse.lc.any (fun n => n == 1 || n == 2)) = false ∧ lifecycle s < 3) ∧
    (∃ s : State, s.sys.onSeq = [9] ∧ s.pdOn 8 = true ∧ s.pdOn 9 = false ∧ s.pdFilled 8 = false ∧ starting s = true) ∧
    (∃ s : State, s.pdOn 5 = true ∧ s.pdFilled 5 = false ∧ s.sys.released = true) ∧
    (∃ s : State, starting s = true ∧ s.pdOn 10 = true ∧ s.sys.linkUp = false) ∧ (∃ s : State, releasable s = true ∧ kilnLatched s = false) ∧
    (∃ s : State, releasable s = true ∧ kilnLatched s = true) ∧ (∃ s : State, s.sys.phase = .run ∧ s.mode = 1) ∧
    (∃ s : State, s.sys.phase = .hold ∧ s.get F.START_LOG.FAILS < 3) ∧ ∃ s : State, s.sys.phase = .hold ∧ 3 ≤ s.get F.START_LOG.FAILS :=
  let at_ := fun (p : Phase) => { State.reset with sys := { State.reset.sys with phase := p } }
  let on := (State.reset.set F.PD_STAT.ON 0x7FF).set F.PD_STAT.FILLED 0x7FF
  let ok := { on with sys := { on.sys with phase := .loading, pd0 := true, linkUp := true, loader := { on.sys.loader with
    configDone := true, writeOnceDone := true, tableSent := true } }, kln := { on.kln with locked := true } }
  ⟨⟨State.reset, by decide +kernel⟩, ⟨at_ .supplies, by decide +kernel⟩, ⟨at_ .pllStart, by decide +kernel⟩,
    ⟨{ State.reset.set F.PD_STAT.ON 256 with sys := { State.reset.sys with phase := .loading, onSeq := [9] } }, by decide +kernel⟩,
    ⟨{ on.set F.PD_STAT.FILLED 0 with sys := { on.sys with released := true } }, by decide +kernel⟩,
    ⟨{ on with sys := { on.sys with phase := .loading } }, by decide +kernel⟩, ⟨ok, by decide +kernel⟩,
    ⟨{ ok with kln := { ok.kln with latch := 1 } }, by decide +kernel⟩, ⟨{ on with sys := { on.sys with phase := .run } }, by decide +kernel⟩,
    ⟨at_ .hold, by decide +kernel⟩, ⟨(at_ .hold).set F.START_LOG.FAILS 3, by decide +kernel⟩⟩

theorem witness_SuppliesAndDormant : (∃ s : State, monitored s 0 = true ∧ monitored s 2 = true ∧ monitored s 3 = true ∧ s.sys.supWarn.testBit 0 = false ∧ s.get F.CHG_PRE.PSTATE = 1) ∧
    (∃ s : State, monitored s 0 = false ∧ s.sys.phase = .dieReset ∧ s.sys.supFlt.testBit 1 = false ∧ s.sys.supFlt.testBit 3 = false) ∧
    (∃ s : State, s.sys.phase = .dieReset ∧ s.sys.supFlt.testBit 1 = true) ∧ (∃ s : State, s.sys.phase = .dormantEntry ∧ s.sys.offSeq = [8] ∧ monitored s 1 = true) ∧
    (∃ s : State, s.sys.phase = .dormantEntry ∧ s.sys.offSeq = []) ∧ (∃ s : State, s.sys.phase = .dormant ∧ s.emb.latched = true) ∧
    ∃ s : State, s.kln.kstate = 4 ∧ s.sys.supEn = true ∧ s.sys.vbat = 0 :=
  let on := (State.reset.set F.PD_STAT.ON 0x7FF).set F.PD_STAT.FILLED 0x7FF
  let at_ := fun (p : Phase) => { on with sys := { on.sys with phase := p } }
  ⟨⟨{ on.set F.CHG_PRE.PSTATE 1 with sys := { on.sys with phase := .run, supEn := true }, kln := { on.kln with kstate := 2 } }, by decide +kernel⟩,
    ⟨at_ .dieReset, by decide +kernel⟩, ⟨{ on with sys := { on.sys with phase := .dieReset, supFlt := 2 } }, by decide +kernel⟩,
    ⟨{ on with sys := { on.sys with phase := .dormantEntry, offSeq := [8], supEn := true } }, by decide +kernel⟩, ⟨at_ .dormantEntry, by decide +kernel⟩,
    ⟨{ at_ .dormant with emb := { on.emb with latched := true } }, by decide +kernel⟩,
    ⟨{ on with sys := { on.sys with supEn := true }, kln := { on.kln with kstate := 4 } }, by decide +kernel⟩⟩

theorem witness_SkeinLoading : (∃ s : State, loading s = true ∧ s.pdReady 9 = true ∧ s.sys.loader.flashUp = false) ∧
    (∃ s : State, loading s = true ∧ s.sys.loader.flashUp = true ∧ s.sys.loader.headerOk = false ∧ s.pdReady 1 = true ∧ s.pdReady 9 = true ∧
      s.sys.loader.limp = false ∧ s.journal.op = 0 ∧ s.journal.steps = [] ∧ s.journal.nSteps = 0 ∧ headerCode s {} = some 0x0306 ∧
      headerCode s { lifecycleMask := 1 } = none) ∧
    (∃ s : State, loading s = true ∧ s.sys.loader.descsOk = true ∧ s.sys.loader.configDone = false ∧
      nextDesc s.sys.loader = some { type := 5, inst := 2 } ∧ destReady s { type := 5, inst := 2 } = true) ∧
    (∃ s : State, loading s = true ∧ s.sys.loader.configDone = true ∧ s.sys.loader.writeOnceDone = false ∧ s.sys.loader.wo.split = some 1 ∧
      (∀ k < 32, wlClosed s (F.PWM_LEG_FLOOR.FLOOR_TB.addr k 0 0) = false) ∧ (∀ k < 2, wlClosed s (F.SPX_STAT.SPLIT.addr k 0 0) = false)) ∧
    (∃ s : State, loading s = true ∧ s.sys.loader.writeOnceDone = true ∧ s.sys.loader.tableSent = false ∧ s.sys.linkUp = true ∧
      s.kln.tableCrc = false ∧ s.kln.locked = true ∧ tbl32 s.sys.kilnTable 0x1FC = tbl32 s.kln.table 0x1FC) ∧
    ∃ s : State, loading s = true ∧ s.sys.loader.writeOnceDone = true ∧ s.sys.loader.tableSent = false ∧ s.sys.linkUp = true ∧
      s.kln.tableCrc = false ∧ s.kln.locked = false ∧ 2 ≤ s.kln.tries :=
  let on := (State.reset.set F.PD_STAT.ON 0x7FF).set F.PD_STAT.FILLED 0x7FF
  let with_ := fun (l : LoaderSt) => { on with sys := { on.sys with phase := .loading, loader := l, linkUp := true } }
  ⟨⟨with_ {}, by decide +kernel⟩, ⟨with_ { flashUp := true }, by decide +kernel⟩,
    ⟨with_ { descsOk := true, descs := [{ type := 5, inst := 2 }] }, by decide +kernel⟩,
    ⟨with_ { configDone := true, wo := { split := some 1 } }, by decide +kernel⟩,
    ⟨{ with_ { writeOnceDone := true } with kln := { on.kln with locked := true } }, by decide +kernel⟩,
    ⟨{ with_ { writeOnceDone := true } with kln := { on.kln with tries := 2 } }, by decide +kernel⟩⟩

theorem witness_FlashWindowReads : (∃ s : State, flashReader s (.pair 0) = true ∧ flashReader s .reel = false ∧ s.pdReady 9 = true ∧ s.getB F.SKN_STAT.FLASH_OK = true ∧
      (5 : BitVec 28).toNat < flashSize s ∧ s.getB F.SKN_STAT.BUSY = false ∧ s.sys.released = true ∧ loading s = false) ∧
    ∃ s : State, flashReader s (.pair 0) = true ∧ s.pdReady 9 = true ∧ s.getB F.SKN_STAT.FLASH_OK = true ∧ (5 : BitVec 28).toNat < flashSize s ∧
      s.getB F.SKN_STAT.BUSY = true :=
  let on := (((State.reset.set F.PD_STAT.ON 0x7FF).set F.PD_STAT.FILLED 0x7FF).set F.SKN_STAT.FLASH_OK 1).set F.SKN_FLASH.DENSITY_LOG2 25
  ⟨⟨{ on with sys := { on.sys with released := true, phase := .run } }, by decide +kernel⟩, ⟨on.set F.SKN_STAT.BUSY 1, by decide +kernel⟩⟩

theorem witness_RegisterAccess : ∃ s : State, ∃ g : RegGroup, inRegs 0x30120000 = true ∧ inEmbMem 0x30120000 = false ∧ [2, 3, 6, 7, 12, 18, 23].contains 18 = true ∧
      s.pdReady (domainOf 0x30120000) = true ∧ blockWriter s (.pair 1) 18 0 = true ∧ groupAt 0x30120000 = some g ∧
      g.fields.any (fun f => f.acc == .wl) = false ∧ regReader s (.pair 1) 0x30120000 = true ∧ blockWriter s .reel 18 0 = false ∧
      groupAt 0x3012F000 = none ∧ State.reset.pdReady (domainOf 0x30120000) = false ∧ inRegs 0x10000000 = false :=
  let on := (State.reset.set F.PD_STAT.ON 0x7FF).set F.PD_STAT.FILLED 0x7FF
  ⟨on, (groupAt 0x30120000).getD ⟨0, [], []⟩, by decide +kernel⟩

theorem witness_TinderMailboxes : (∃ s : State, s.pdReady 1 = true ∧ mailboxWriter s (.pair 1) 1 = true ∧ mailboxWriter s .reel 1 = false ∧ s.getB F.TND_STAT.BUSY 1 = false ∧
      s.tnd.serving = none ∧ s.tnd.waiting = [] ∧ s.tnd.fuse.jtagOff = false ∧ s.tnd.testBad = false ∧ s.tnd.rngBad = false ∧
      s.tnd.lockout.testBit 1 = false ∧ isPurpose 2 = true ∧ SMap.get none s.tnd.chal 1 = some ⟨1, 0, 0⟩ ∧ SMap.get 0 s.tnd.fuse.keyHash 2 = 9 ∧
      (SMap.get 0 s.tnd.fuse.role 2).testBit 1 = true ∧ s.tnd.fuse.revoked.testBit 2 = false ∧ 1 ≤ challengeLevel s ∧ s.dbgLevel ≤ 1 ∧
      s.tnd.priv.lockUntil = 0 ∧ s.tnd.fuse.pwOff = false ∧ lifecycle s ≠ 0 ∧ lifecycle s ≠ 4 ∧ s.tnd.priv.pwHash = some 5) ∧
    (∃ s : State, s.pdReady 1 = true ∧ s.getB F.TND_STAT.BUSY 1 = true ∧ mailboxWriter s (.pair 1) 1 = true) ∧
    ∃ s : State, s.tnd.serving = some (1, { result := 3, out := [7] }) ∧ s.tnd.waiting = [] ∧ s.olt.test = none :=
  let on := (State.reset.set F.PD_STAT.ON 0x7FF).set F.PD_STAT.FILLED 0x7FF
  let fuse : FuseSt := { on.tnd.fuse with lc := [3, 0, 0, 0], keyHash := [(2, 9)], role := [(2, 2)] }
  ⟨⟨{ on.set F.MODE_STAT.MODE 2 with
      sys := { on.sys with phase := .run }
      tnd := { on.tnd with chal := [(1, some ⟨1, 0, 0⟩)], fuse := fuse, priv := { on.tnd.priv with pwHash := some 5 } } }, by decide +kernel⟩,
    ⟨on.set F.TND_STAT.BUSY 1 1, by decide +kernel⟩,
    ⟨{ on with tnd := { on.tnd with serving := some (1, { result := 3, out := [7] }) } }, by decide +kernel⟩⟩

theorem witness_TinderPrivileged :
    let auth := fun (s : State) (r : Nat) => s.pdReady 1 = true ∧ mailboxWriter s (.pair 1) 1 = true ∧ s.getB F.TND_STAT.BUSY 1 = false ∧
      s.tnd.serving = none ∧ s.tnd.waiting = [] ∧ s.tnd.fuse.jtagOff = false ∧ s.tnd.testBad = false ∧
      SMap.get none s.tnd.chal 1 = some ⟨r, 0, 0⟩ ∧ SMap.get 0 s.tnd.fuse.keyHash 2 = 9 ∧ (SMap.get 0 s.tnd.fuse.role 2).testBit 1 = true ∧
      s.tnd.fuse.revoked.testBit 2 = false ∧ 3 ≤ challengeLevel s
    (∃ s : State, auth s 0x06) ∧ (∃ s : State, auth s 0x11) ∧
    (∃ s : State, auth s 0x30 ∧ s.mode = 2 ∧ gatesOff s = true ∧ lcStep s 2 = true ∧ s.tnd.fuse.lc.length = 4) ∧
    (∃ s : State, auth s 0x31 ∧ s.tnd.fuse.secCtr ≤ 3) ∧ (∃ s : State, auth s 0x32 ∧ SMap.get 0 s.tnd.fuse.keyHash 1 = 0) ∧
    ∃ s : State, auth s 0x33 ∧ slotWith s 0 (putBit s.tnd.fuse.revoked 2 true) = true ∧ slotWith s 1 (putBit s.tnd.fuse.revoked 2 true) = true ∧
      s.tnd.fuse.skeinKey ≠ 0 ∧ s.tnd.fuse.skeinKey ≠ 2 ^ 256 - 1 ∧ s.mode = 2 ∧ s.olt.test = none :=
  let on := (State.reset.set F.PD_STAT.ON 0x7FF).set F.PD_STAT.FILLED 0x7FF
  let fuse : FuseSt := { on.tnd.fuse with lc := [3, 0, 0, 0], keyHash := [(2, 9), (3, 8)], role := [(2, 2), (3, 3)], skeinKey := 5 }
  let st := fun (r : Nat) => { on.set F.MODE_STAT.MODE 2 with
    sys := { on.sys with phase := .run }
    tnd := { on.tnd with chal := [(1, some ⟨r, 0, 0⟩)], fuse := fuse } }
  ⟨⟨st 0x06, by decide +kernel⟩, ⟨st 0x11, by decide +kernel⟩, ⟨st 0x30, by decide +kernel⟩, ⟨st 0x31, by decide +kernel⟩,
    ⟨st 0x32, by decide +kernel⟩, ⟨st 0x33, by decide +kernel⟩⟩

theorem witness_TinderServices : ∃ s : State, s.pdReady 1 = true ∧ mailboxWriter s (.pair 1) 1 = true ∧ mailboxWriter s .debug 2 = true ∧ s.getB F.TND_STAT.BUSY 1 = false ∧
      s.tnd.serving = none ∧ s.tnd.waiting = [] ∧ s.tnd.fuse.jtagOff = false ∧ s.tnd.testBad = false ∧ s.tnd.rngBad = false ∧
      SMap.get 0 s.tnd.priv.keys 17 ≠ 0 ∧ SMap.get 0 s.tnd.priv.keys 18 = 0 ∧ inSram 0x10000100 = true :=
  let on := (State.reset.set F.PD_STAT.ON 0x7FF).set F.PD_STAT.FILLED 0x7FF
  ⟨{ on with tnd := { on.tnd with priv := { on.tnd.priv with keys := [(17, 5)] } } }, by decide +kernel⟩

theorem witness_UpdateBeginAndWrite :
    let go := fun (s : State) => s.pdReady 1 = true ∧ mailboxWriter s (.pair 1) 1 = true ∧ s.getB F.TND_STAT.BUSY 1 = false ∧
      s.tnd.serving = none ∧ s.tnd.waiting = [] ∧ s.tnd.fuse.jtagOff = false
    (∃ (s : State) (x : Manifest), go s ∧ s.upd.man = none ∧ s.upd.revertAt = none ∧ beginCheck s x = none ∧ s.sys.loader.limp = false ∧
      nextWrite s = none) ∧
    (∃ (s : State) (x : Manifest), go s ∧ s.upd.man = none ∧ s.upd.revertAt = none ∧ beginCheck s x = some (11, 6)) ∧
    (∃ (s : State) (y : ManStep), go s ∧ nextWrite s = some 1 ∧ manStep s 1 = some y ∧ s.upd.revertAt = none ∧ s.journal.op = 0 ∧ y.hashOk = true ∧
      y.desc.flags.testBit 0 = true ∧ y.tagOk = true ∧ s.upd.man.isSome = true) ∧
    ∃ s : State, s.pdReady 1 = true ∧ s.pdReady 9 = true ∧ s.sys.released = true ∧ s.journal.op = 1 ∧ s.upd.revertAt = none ∧
      s.tnd.serving = some (1, { wait := true }) ∧ s.upd.retried = false :=
  let on := (State.reset.set F.PD_STAT.ON 0x7FF).set F.PD_STAT.FILLED 0x7FF
  let d : Descriptor := { type := 3, flags := 1 }
  let run := on.setLoader { on.sys.loader with descs := [d] }
  let st : ManStep := { desc := d }
  let two : Manifest := { steps := [st, st] }
  ⟨⟨run, { steps := [st] }, by decide +kernel⟩, ⟨run, { steps := [st], stageOk := false }, by decide +kernel⟩,
    ⟨(on.setUpd { man := some two }).setJournal { nSteps := 2, steps := [(0, 3)] }, st, by decide +kernel⟩,
    ⟨{ on with
      sys := { on.sys with released := true }
      tnd := { on.tnd with serving := some (1, { wait := true }), priv := { on.tnd.priv with journal := { op := 1 } } } }, by decide +kernel⟩⟩

theorem witness_UpdateActivation :
    let written := fun (s : State) (y : ManStep) => s.pdReady 1 = true ∧ mailboxWriter s (.pair 1) 1 = true ∧ s.getB F.TND_STAT.BUSY 1 = false ∧
      s.tnd.serving = none ∧ s.tnd.waiting = [] ∧ s.tnd.fuse.jtagOff = false ∧
      (List.range 28).find? (fun i => s.stepState i == 2) = some 0 ∧ manStep s 0 = some y ∧ s.upd.revertAt = none ∧
      SMap.get 0 s.upd.want y.desc.inst = 0 ∧ SMap.get 0 s.upd.want (16 + whorlNow s y.desc.inst) = 0
    (∃ (s : State) (y : ManStep), written s y ∧ y.act = true) ∧
    (∃ (s : State) (y : ManStep), written s y ∧ y.act = false ∧ y.desc.type = 2 ∧ s.emb.inPass = true) ∧
    (∃ (s : State) (y : ManStep), written s y ∧ y.act = false ∧ y.desc.type = 5 ∧ standbyFor s = none) ∧
    (∃ (s : State) (y : ManStep), written s y ∧ y.act = false ∧ y.desc.type = 4 ∧ spxHandoverOk s y.desc.inst y.migT = false) ∧
    (∃ (s : State) (y : ManStep), written s y ∧ y.act = false ∧ y.desc.type = 4 ∧ spxHandoverOk s y.desc.inst y.migT = true) ∧
    (∃ s : State, s.pdReady 2 = true ∧ SMap.get 0 s.upd.migr 0 = 1 ∧ SMap.get 0 s.upd.want 0 ≠ 2) ∧
    ∃ s : State, s.pdReady 3 = true ∧ SMap.get 0 s.upd.migr 1 = 2 :=
  let on := ((State.reset.set F.PD_STAT.ON 0x7FF).set F.PD_STAT.FILLED 0x7FF).set F.MODE_STAT.MODE 2
  let fit := fun (d : Descriptor) (act : Bool) =>
    (on.setUpd { man := some { steps := [{ desc := d, act := act, migT := 300 }] } }).setJournal { nSteps := 1, steps := [(0, 2)] }
  let pass := fit { type := 2 } false
  ⟨⟨fit { type := 1 } true, { desc := { type := 1 }, act := true, migT := 300 }, by decide +kernel⟩,
    ⟨{ pass with emb := { pass.emb with inPass := true } }, { desc := { type := 2 }, migT := 300 }, by decide +kernel⟩,
    ⟨fit { type := 5, inst := 3 } false, { desc := { type := 5, inst := 3 }, migT := 300 }, by decide +kernel⟩,
    ⟨(fit { type := 4, inst := 1 } false).set F.MODE_STAT.MODE 6, { desc := { type := 4, inst := 1 }, migT := 300 }, by decide +kernel⟩,
    ⟨(fit { type := 4, inst := 1 } false).set F.SPX_STAT.STATE 0 1, { desc := { type := 4, inst := 1 }, migT := 300 }, by decide +kernel⟩,
    ⟨on.setUpd { migr := [(0, 1)] }, by decide +kernel⟩, ⟨on.setUpd { migr := [(1, 2)] }, by decide +kernel⟩⟩

theorem witness_UpdateEnds :
    let go := fun (s : State) => s.pdReady 1 = true ∧ mailboxWriter s (.pair 1) 1 = true ∧ s.getB F.TND_STAT.BUSY 1 = false ∧
      s.tnd.serving = none ∧ s.tnd.waiting = [] ∧ s.tnd.fuse.jtagOff = false ∧ s.upd.revertAt = none
    (∃ s : State, go s ∧ s.journal.nSteps ≠ 0 ∧ (∀ k, k < s.journal.nSteps → s.stepState k = 3) ∧ s.journal.op = 0 ∧ s.sys.loader.limp = false ∧
      s.sys.released = true ∧ s.journal.started = true ∧ ∃ e ∈ s.journal.steps, e.2 = 3) ∧
    (∃ s : State, s.pdReady 1 = true ∧ s.pdReady 9 = true ∧ s.sys.released = true ∧ s.journal.op = 2 ∧ s.upd.man = none ∧ s.journal.advance = true) ∧
    (∃ s : State, go s ∧ s.upd.man.isSome = true ∧ s.journal.started = false ∧ s.journal.op = 0 ∧ ∀ e ∈ s.journal.steps, e.2 < 2) ∧
    ∃ s : State, go s ∧ s.upd.man.isSome = true ∧ s.journal.started = false ∧ s.journal.op = 0 ∧ (∃ e ∈ s.journal.steps, e.2 = 2) ∧
      ∀ k, s.stepState k ≠ 3 :=
  let on0 := (State.reset.set F.PD_STAT.ON 0x7FF).set F.PD_STAT.FILLED 0x7FF
  let on := { on0 with sys := { on0.sys with released := true } }
  let man := on.setUpd { man := some { steps := [{ desc := { type := 3 } }] } }
  ⟨⟨on.setJournal { nSteps := 2, steps := [(0, 3), (1, 3)], started := true }, by decide +kernel⟩,
    ⟨on.setJournal { op := 2, advance := true, next := 4 }, by decide +kernel⟩,
    ⟨man.setJournal { nSteps := 1, steps := [] }, by decide +kernel⟩,
    ⟨man.setJournal { nSteps := 1, steps := [(0, 2)] }, by
      refine ⟨by decide +kernel, by decide +kernel, by decide +kernel, by decide +kernel, by decide +kernel, fun k => ?_⟩
      cases k <;> simp [State.stepState, State.journal, State.setJournal, SMap.get]⟩⟩

theorem witness_XcpSession : (∃ s : State, pairBRuns s = true ∧ s.pdReady 8 = true ∧ s.xcp.connected = true ∧ xcpServes s = true ∧ s.dbgLevel = 0) ∧
    (∃ s : State, xcpServes s = true ∧ 1 ≤ s.dbgLevel ∧ calAllowed s = true ∧ pageBase s false = some (0x10000000, 64) ∧
      pageBase s true = some (0x10001000, 64) ∧ s.xcp.working = false ∧ inDict s.xcp.mta = true ∧ sigValue s ((s.xcp.mta - 0x50000000) / 8) = some 7 ∧
      dictLoad s s.xcp.mta 2 = some [7, 0] ∧ (sigWrite ((s.xcp.mta - 0x50000000) / 8) 9 .clean s).resp ≠ .error) ∧
    (∃ s : State, xcpServes s = true ∧ 1 ≤ s.dbgLevel ∧ calAllowed s = false ∧ dictLoad s s.xcp.mta 1 = none) ∧
    ∃ s : State, xcpServes s = false :=
  let on0 := (((State.reset.set F.PD_STAT.ON 0x7FF).set F.PD_STAT.FILLED 0x7FF).set F.SPX_STAT.STATE 0 1).set F.MODE_STAT.MODE 2
  let on := { on0 with
    sys := { on0.sys with released := true, phase := .run, cfg := { on0.sys.cfg with xcpPages := [(0x10000000, 64), (0x10001000, 64)] } }
    tnd := { on0.tnd with fuse := { on0.tnd.fuse with lc := [3, 3, 0, 0] } } }
  let s := on.setXcp { on.xcp with connected := true, mta := 0x50000000 }
  let up := s.set F.DBG_STAT.LEVEL 2
  ⟨⟨s, by decide +kernel⟩,
    ⟨{ (up.setXcp { up.xcp with working := false }).setByte 0x10000000 7 with fab := { up.fab with dict := [(0, 0x0003000210000000)] } }, by decide +kernel⟩,
    ⟨(s.setXcp { s.xcp with mta := 0 }).set F.DBG_STAT.LEVEL 1, by decide +kernel⟩, ⟨State.reset, by decide +kernel⟩⟩

theorem witness_XcpDaqLists : (∃ s : State, xcpServes s = true ∧ 1 ≤ s.dbgLevel ∧ s.xcp.lists = [] ∧ s.xcp.ptr = none) ∧
    (∃ (s : State) (l : DaqList) (p : DaqPtr), xcpServes s = true ∧ 1 ≤ s.dbgLevel ∧ s.xcp.lists[1]? = some l ∧ l.running = false ∧
      s.xcp.ptr = some p ∧ p.list = 1 ∧ p.entry < (l.odts.getD p.odt []).length ∧ sigDaq (s.sigEntry 0) = true ∧
      2 = sigBytes (sigType (s.sigEntry 0)) ∧ sigDaq (s.sigEntry 1) = false ∧ s.xcp.lists[2]? = none) ∧
    ∃ (s : State) (l : DaqList), xcpServes s = true ∧ 1 ≤ s.dbgLevel ∧ s.xcp.lists[0]? = some l ∧ l.running = true :=
  let on0 := (((State.reset.set F.PD_STAT.ON 0x7FF).set F.PD_STAT.FILLED 0x7FF).set F.SPX_STAT.STATE 0 1).set F.DBG_STAT.LEVEL 1
  let on1 := { on0 with sys := { on0.sys with released := true } }
  let on := on1.setXcp { on1.xcp with connected := true }
  ⟨⟨on, by decide +kernel⟩,
    ⟨{ (on.setXcp { on.xcp with lists := [{}, { odts := [[5, 5]] }], ptr := some ⟨1, 0, 1⟩ }) with fab := { on.fab with dict := [(0, 0x0002000210000000)] } },
      { odts := [[5, 5]] }, ⟨1, 0, 1⟩, by decide +kernel⟩,
    ⟨on.setXcp { on.xcp with lists := [{ running := true }] }, { running := true }, by decide +kernel⟩⟩

theorem witness_QueueStep : ∃ s : State, s.pending = [] ∧ s.fab.tsRun = true :=
  ⟨{ State.reset with fab := { State.reset.fab with tsRun := true } }, by decide +kernel⟩

theorem witness_StepKeepsMemory : ∃ s t : State, Memory.wf s.mem ∧ step s = .next t := ⟨State.reset, idleTick State.reset, by decide +kernel, rfl⟩

theorem witness_StepKeepsInterlock : ∃ s t : State, NoLegShort s ∧ (s.sw 0).cmd = true ∧ step s = .next t :=
  ⟨State.reset.setSw 0 { cmd := true }, idleTick (State.reset.setSw 0 { cmd := true }), by
    refine ⟨fun l h => ?_, by decide +kernel, rfl⟩
    have h1 : SMap.get ({} : SwSt) (State.reset.setSw 0 { cmd := true }).pwm.sw (2 * l + 1) = {} := by
      simp [State.setSw, SMap.get, SMap.put, State.reset]
    rw [State.sw, State.sw, h1] at h
    exact absurd h.2 (by decide)⟩

theorem witness_RegisterWidthRule : inRegs (0x30050002 : Word).toNat = true ∧ ((2 : Fin 9).val ≠ 4 ∨ (0x30050002 : Word).toNat % 4 ≠ 0) ∧
    busAddr State.reset (.pair 0) (0x30050002 : Word).toNat = (0x30050002 : Word).toNat := by decide +kernel

theorem witness_KlnBlockRule : 0x30130000 ≤ (0x3013FFFC : Word).toNat ∧ (0x3013FFFC : Word).toNat < 0x30140000 ∧
    busAddr State.reset (.pair 0) (0x3013FFFC : Word).toNat = (0x3013FFFC : Word).toNat := by decide +kernel

theorem witness_FlashBusyRule : ∃ s : State, flashReader s (.pair 0) = true ∧ s.pdReady 9 = true ∧ s.getB F.SKN_STAT.FLASH_OK = true ∧ (8 : BitVec 28).toNat < flashSize s ∧
      s.getB F.SKN_STAT.BUSY = true ∧ busAddr s (.pair 0) 0x60000008 = 0x60000008 ∧ aligned 0x60000008 4 = true :=
  ⟨(((((State.reset.set F.PD_STAT.ON 0x7FF).set F.PD_STAT.FILLED 0x7FF).set F.SKN_STAT.FLASH_OK 1).set F.SKN_FLASH.DENSITY_LOG2 25).set
    F.SKN_STAT.BUSY 1), by decide +kernel⟩

end Sys2Proof.Tests
end

/-! Register accesses over the bus (00_scope.md R3, R4, R6, R8; 01_architecture.md R30, R32, R33): what a register write and a register
read do, case by case, and the two obligations about them, O58 and O44. -/

namespace Sys2Proof.Machine
open Sys2Proof

section
variable {s : State} {m : Master} {size : Nat} {a : Nat} {v : Word} {x : WriteCtx} {synd : Syndrome} {P : State → Prop}

theorem runs_registerWrite {addr : Word} {size : Fin 9} (h : P (regWrite m addr.toNat size.val v x s)) :
    Runs (.registerWrite m addr size v x) s P := ⟨_, rfl, h⟩

theorem runs_registerRead {addr : Word} {size : Fin 9} (h : P (regRead m addr.toNat size.val .clean s)) :
    Runs (.registerRead m addr size) s P := ⟨_, rfl, h⟩

/-! ### The address ranges -/

/-- Ember's memories lie in block 22. -/
theorem inEmbMem_eq_false (hb : (a - 0x30000000) / 0x10000 ≠ 22) : inEmbMem a = false := by
  simp only [inEmbMem, decide_eq_false_iff_not]
  omega

theorem inDict_eq_false (h : inRegs a = true) : inDict a = false := by
  simp only [inRegs, inDict, decide_eq_true_eq, decide_eq_false_iff_not] at *
  omega

theorem inFlash_eq_false (h : inRegs a = true) : inFlash a = false := by
  simp only [inRegs, inFlash, decide_eq_true_eq, decide_eq_false_iff_not] at *
  omega

/-! ### Accesses that reach no register -/

/-- Outside the register blocks, of another width, or not aligned (R3). -/
theorem regWrite_of_malformed (h : inRegs a = false ∨ size ≠ 4 ∨ a % 4 ≠ 0) : regWrite m a size v x s = busError s := by
  unfold regWrite
  rcases h with h | h | h <;> simp [h]

theorem regRead_of_malformed (h : inRegs a = false ∨ size ≠ 4 ∨ a % 4 ≠ 0) : regRead m a size synd s = busError s := by
  unfold regRead
  rcases h with h | h | h <;> simp [h]

/-- A domain that is off or not filled (R32), or a master that may not write the block (R30). -/
theorem regWrite_of_denied (he : inEmbMem a = false) (h : s.pdReady (domainOf a) = false ∨
    blockWriter s m ((a - 0x30000000) / 0x10000) ((a - 0x30000000) % 0x10000) = false) : regWrite m a size v x s = busError s := by
  unfold regWrite
  rcases h with h | h <;> simp [he, h]

theorem regRead_of_domain_off (he : inEmbMem a = false) (h : s.pdReady (domainOf a) = false) : regRead m a size synd s = busError s := by
  unfold regRead
  simp [he, h]

/-- An address of a block that holds no register ignores writes (R4). -/
theorem regWrite_of_no_register (hr : inRegs a = true) (he : inEmbMem a = false) (ha : a % 4 = 0) (hk : (a - 0x30000000) / 0x10000 ≠ 19)
    (hp : s.pdReady (domainOf a) = true) (hw : blockWriter s m ((a - 0x30000000) / 0x10000) ((a - 0x30000000) % 0x10000) = true)
    (hg : groupAt a = none) : regWrite m a 4 v x s = s.answer .done := by
  unfold regWrite
  simp [hr, he, ha, hk, hp, hw, hg]

/-! ### A write and a read by the access codes -/

theorem State.wr_wr (s : State) (a : Nat) (u w : Word) : (s.wr a u).wr a w = s.wr a w := by
  simp only [State.wr, SMap.put_put]

theorem mixWord_zero (n : Nat) (w : Word) : mixWord n w 0 = w &&& ~~~BitVec.ofNat 32 n := by
  simp [mixWord]

theorem fieldMask_congr {fs : List FieldDesc} {p q : FieldDesc → Bool} (h : ∀ f ∈ fs, p f = q f) : fieldMask fs p = fieldMask fs q :=
  List.foldl_ext _ _ _ fun n f hf => by rw [h f hf]

/-- A register without WL fields takes exactly its RW fields. -/
theorem plainWrite_of_no_wl {g : RegGroup} (hg : groupAt a = some g) (hwl : g.fields.any (fun f => f.acc == .wl) = false) :
    plainWrite a v s = s.wr a (mixWord (accMask a .rw) (s.rd a) v) := by
  have htake : fieldMask g.fields (fun f => f.acc == .rw || (f.acc == .wl && !wlClosed s a)) = accMask a .rw := by
    rw [accMask, hg]
    refine fieldMask_congr fun f hf => ?_
    rw [List.any_eq_false] at hwl
    simp [hwl f hf]
  simp only [plainWrite, hg, hwl, htake, Bool.false_and, Bool.false_eq_true, if_false]

/-- The word a write leaves in a register without WL fields (R6). -/
def codeWord (a : Nat) (old v : Word) : Word :=
  let bits (c : Acc) := BitVec.ofNat 32 (accMask a c)
  ((old &&& ~~~bits .rw ||| v &&& bits .rw) &&& ~~~(v &&& bits .w1c)) ||| (v &&& bits .w1s)

theorem codeWrite_of_no_wl {g : RegGroup} (hg : groupAt a = some g) (hwl : g.fields.any (fun f => f.acc == .wl) = false) :
    codeWrite a v s = s.wr a (codeWord a (s.rd a) v) := by
  simp only [codeWrite, plainWrite_of_no_wl hg hwl, State.wr_wr, State.rd_wr_self, codeWord, mixWord, BitVec.or_comm (v &&& _)]

theorem codeRead_eq (a : Nat) (s : State) : codeRead a s =
    (s.wr a (s.rd a &&& ~~~BitVec.ofNat 32 (accMask a .rc))).answer (.data (s.rd a &&& ~~~BitVec.ofNat 32 (accMask a .wo)).toNat) := by
  simp only [codeRead, mixWord_zero]

/-- What a write of one register with its answer leaves unchanged. -/
theorem wr_answer_frame (s : State) (a : Nat) (w : Word) (r : BusResp) :
    RegsOnly [a] s ((s.wr a w).answer r) ∧ OnlyChanges { regs := true, resp := true } s ((s.wr a w).answer r) :=
  ⟨fun _ hb => State.rd_wr_ne _ _ _ _ (by simpa using hb), (answer_mask rfl _ _).trans (wr_mask rfl _ _ _)⟩

/-- The blocks whose registers do nothing but hold their fields: CDC, EVR, SKN, UPD, HKA, THM and SIG. -/
theorem plain_block_cases {b : Nat} (h : [2, 3, 6, 7, 12, 18, 23].contains b = true) :
    b = 2 ∨ b = 3 ∨ b = 6 ∨ b = 7 ∨ b = 12 ∨ b = 18 ∨ b = 23 := by
  simpa using h

/-- A permitted write of a register of a plain block acts by the access codes alone. -/
theorem regWrite_of_plain (hr : inRegs a = true) (ha : a % 4 = 0) (hb : [2, 3, 6, 7, 12, 18, 23].contains ((a - 0x30000000) / 0x10000) = true)
    (hp : s.pdReady (domainOf a) = true) (hw : blockWriter s m ((a - 0x30000000) / 0x10000) ((a - 0x30000000) % 0x10000) = true)
    {g : RegGroup} (hg : groupAt a = some g) : regWrite m a 4 v x s = (codeWrite a v s).answer .done := by
  have hbs := plain_block_cases hb
  have he : inEmbMem a = false := inEmbMem_eq_false (by omega)
  have hk : (a - 0x30000000) / 0x10000 ≠ 19 := by omega
  simp only [regWrite]
  rw [if_neg (by simp [hr, ha, hk]), if_neg (by simp [he]), if_neg (by simp [hp, hw]), if_neg (by simp [hg])]
  rcases hbs with h | h | h | h | h | h | h <;> simp only [h]

/-- A permitted read in a plain block whose registers show no present condition and claim nothing. -/
theorem regRead_of_plain (hr : inRegs a = true) (ha : a % 4 = 0) (hb : [2, 3, 6, 7, 12, 18, 23].contains ((a - 0x30000000) / 0x10000) = true)
    (hevr : (a - 0x30000000) / 0x10000 ≠ 3) (hupd : (a - 0x30000000) / 0x10000 ≠ 7) (hp : s.pdReady (domainOf a) = true)
    (hm : m ≠ .debug) (hmay : regReader s m a = true) : regRead m a 4 synd s = codeRead a s := by
  have hbs := plain_block_cases hb
  have he : inEmbMem a = false := inEmbMem_eq_false (by omega)
  have hts : a ≠ 0x30010010 := by omega
  have hclaim : a ≠ 0x30030440 ∧ a ≠ 0x30030444 := by omega
  have hcap : ¬(0x300A0000 ≤ a ∧ a < 0x300A0080 ∧ a % 0x20 = 8) := by omega
  have hlive : a ≠ 0x30150000 ∧ a ≠ 0x30070000 := by omega
  simp [regRead, refreshLive, hr, ha, he, hp, hm, hmay, hts, hclaim, hcap, hlive]

/-! ### The bus paths to the register blocks -/

/-- A bus access to a register block that no calibration page stands in for is a register access. -/
theorem busRead_eq_regRead (hc : busAddr s m a = a) (hr : inRegs a = true) : busRead m a size synd s = regRead m a size synd s := by
  simp [busRead, hc, hr, inDict_eq_false hr, inFlash_eq_false hr]

theorem busWrite_eq_regWrite {n : Nat} (hc : busAddr s m a = a) (hr : inRegs a = true) :
    busWrite m a size n x s = regWrite m a size (BitVec.ofNat 32 n) x s := by
  simp [busWrite, hc, hr, inDict_eq_false hr, inFlash_eq_false hr]

end

/-- Settles O58: whatever path leads to the register blocks, the first test of `regRead` and `regWrite` is the width and the alignment. -/
theorem registerWidthRule : Obligations.RegisterWidthRule := by
  intro s m a size synd v w x hr hbad
  refine ⟨congrArg _ (regRead_of_malformed (.inr hbad)), congrArg _ (regWrite_of_malformed (.inr hbad)), fun hc => ⟨?_, ?_⟩⟩
  · exact congrArg _ ((busRead_eq_regRead hc hr).trans (regRead_of_malformed (.inr hbad)))
  · exact congrArg _ ((busWrite_eq_regWrite hc hr).trans (regWrite_of_malformed (.inr hbad)))

/-- Settles O44, clause by clause from the cases of `regWrite` and `regRead`. -/
theorem registerAccess : Obligations.RegisterAccess := by
  intro s m a size v x g n b o plain bits old
  refine ⟨fun h => ⟨?_, ?_⟩, fun h => ⟨?_, ?_⟩, fun h => ⟨?_, ?_⟩, fun he h => ⟨?_, ?_⟩, ?_, ?_, ?_, ?_⟩
  · exact runs_registerWrite (regWrite_of_malformed (.inr (.inl h)))
  · exact runs_registerRead (regRead_of_malformed (.inr (.inl h)))
  · exact runs_registerWrite (regWrite_of_malformed (.inr (.inr h)))
  · exact runs_registerRead (regRead_of_malformed (.inr (.inr h)))
  · exact runs_registerWrite (regWrite_of_malformed (.inl h))
  · exact runs_registerRead (regRead_of_malformed (.inl h))
  · exact runs_registerWrite (regWrite_of_denied he (.inl h))
  · exact runs_registerRead (regRead_of_domain_off he h)
  · intro hr he ha hk hp hw hg
    exact runs_registerWrite (regWrite_of_no_register hr he ha hk hp hw hg)
  · intro he hw
    exact runs_registerWrite (regWrite_of_denied he (.inr hw))
  · intro hr ha hb hp hw hg hwl
    have heq : regWrite m n 4 v x s = (s.wr n (codeWord n old v)).answer .done := by
      rw [regWrite_of_plain hr ha hb hp hw hg, codeWrite_of_no_wl hg hwl]
    refine runs_registerWrite (heq ▸ ?_)
    exact ⟨State.rd_wr_self _ _ _, rfl, wr_answer_frame _ _ _ _⟩
  · intro hr ha hb hevr hupd hp hm hmay
    have heq := (regRead_of_plain (synd := .clean) hr ha hb hevr hupd hp hm hmay).trans (codeRead_eq n s)
    refine runs_registerRead (heq ▸ ?_)
    exact ⟨rfl, State.rd_wr_self _ _ _, wr_answer_frame _ _ _ _⟩

end Sys2Proof.Machine

/-! Writes to the KLN block and reads of the mapped flash (01_architecture.md R30, R31, R33; 03_skein.md R98, R99): what a count does
to the registers, the branches of the two flash commands, and the two obligations about them, O59 and O43. -/

namespace Sys2Proof.Machine
open Sys2Proof

/-! ### The KLN block (R33) -/

/-- The bus has no write path to block 19. -/
theorem regWrite_of_klnBlock {s : State} {m : Master} {a size : Nat} {v : Word} {x : WriteCtx} (h : (a - 0x30000000) / 0x10000 = 19) :
    regWrite m a size v x s = busError s := by
  simp [regWrite, h]

theorem inRegs_of_klnBlock {a : Nat} (hlo : 0x30130000 ≤ a) (hhi : a < 0x30140000) : inRegs a = true := by
  simp only [inRegs, decide_eq_true_eq]
  omega

/-- Settles O59: the first test of `regWrite` refuses block 19, and a bus write that no calibration page stands in for is a
register write. -/
theorem klnBlockRule : Obligations.KlnBlockRule := by
  intro s m a size v w x hlo hhi
  have hblock : (a.toNat - 0x30000000) / 0x10000 = 19 := by omega
  refine ⟨congrArg _ (regWrite_of_klnBlock hblock), fun hc => ?_⟩
  exact congrArg _ ((busWrite_eq_regWrite hc (inRegs_of_klnBlock hlo hhi)).trans (regWrite_of_klnBlock hblock))

/-! ### Counters (R557) -/

/-- A count writes its own register and the register of its SAT field. -/
theorem State.rd_bump_ne {s : State} {f satF : Fld} {i j k n a : Nat} (hf : a ≠ f.addr i j k) (hsat : a ≠ satF.addr i j k) :
    (s.bump f satF i j k n).rd a = s.rd a := by
  simp only [State.bump]
  split
  · exact (State.rd_wr_ne _ _ _ _ hsat).trans (State.rd_wr_ne _ _ _ _ hf)
  · exact State.rd_wr_ne _ _ _ _ hf

/-- A count goes up to its largest value, and setting SAT beside it leaves it alone. -/
theorem State.get_bump_self {s : State} {f satF : Fld} {i j k n : Nat} (hf : f.hi < 32) (hle : f.lo ≤ f.hi) (hsat : satF.hi < 32)
    (hsle : satF.lo ≤ satF.hi) (hdisj : f.hi < satF.lo ∨ satF.hi < f.lo) :
    (s.bump f satF i j k n).get f i j k = min (s.get f i j k + n) f.maxVal := by
  have hfits : min (s.get f i j k + n) f.maxVal % 2 ^ (f.hi + 1 - f.lo) = min (s.get f i j k + n) f.maxVal := by
    refine Nat.mod_eq_of_lt ?_
    have hpos := Nat.two_pow_pos (f.hi + 1 - f.lo)
    simp only [Fld.maxVal]
    omega
  simp only [State.bump]
  split
  · rw [State.get_set_bits _ _ _ _ _ _ _ _ _ _ hsat hsle hdisj hle, State.get_set_self _ _ _ _ _ _ hf hle, hfits]
  · rw [State.get_set_self _ _ _ _ _ _ hf hle, hfits]

/-! ### The flash error register and a read error after release (R98, R99) -/

theorem get_bump_mmapBusy (s : State) :
    (s.bump F.SKN_ERR.MMAP_BUSY F.SKN_ERR.SAT).get F.SKN_ERR.MMAP_BUSY = min (s.get F.SKN_ERR.MMAP_BUSY + 1) 255 :=
  State.get_bump_self (by decide) (by decide) (by decide) (by decide) (by decide)

theorem get_bump_readErr (s : State) :
    (s.bump F.SKN_ERR.READ_ERR F.SKN_ERR.SAT).get F.SKN_ERR.READ_ERR = min (s.get F.SKN_ERR.READ_ERR + 1) 255 :=
  State.get_bump_self (by decide) (by decide) (by decide) (by decide) (by decide)

/-- Raising an event issues no fault code and changes no phase: the system part stays. -/
theorem raise_sys (n : Nat) (s : State) : (raise n s).sys = s.sys := by rw [raise_eq]

theorem flashReadError_readErr (s : State) :
    (flashReadError s).get F.SKN_ERR.READ_ERR = min (s.get F.SKN_ERR.READ_ERR + 1) 255 := by
  rw [flashReadError, raise_get _ _ _ _ _ _ (by decide) (by decide), issue_get, get_bump_readErr]

theorem flashReadError_lastFault (s : State) : (flashReadError s).sys.lastFault = 0x0320 := by
  rw [flashReadError, raise_sys, issue_lastFault]

theorem flashReadError_resp (s : State) : (flashReadError s).resp = s.resp :=
  resp_of_mask rfl (flashReadError_mask (K := { regs := true, sys := true, fab := true, kln := true }) rfl rfl rfl rfl s)

/-! ### The branches of the flash commands -/

/-- The master may read the flash window, the flash is up, and it reaches as far as offset `o`. -/
def FlashOpen (s : State) (m : Master) (o : Nat) : Prop :=
  flashReader s m = true ∧ s.pdReady 9 = true ∧ s.getB F.SKN_STAT.FLASH_OK = true ∧ o < flashSize s

section
variable {s : State} {m : Master} {addr : BitVec 28} {v : Word} {readOk : Bool}

theorem execMmapFlashRead_of_denied (h : flashReader s m = false ∨ flashSize s ≤ addr.toNat) :
    execMmapFlashRead m addr v readOk s = .next (busError s) := by
  unfold execMmapFlashRead
  rcases h with h | h <;> simp [h]

/-- Behind the tests of the window, a busy flash refuses and counts, and one at rest answers as the read went. -/
theorem execMmapFlashRead_of_open (h : FlashOpen s m addr.toNat) : execMmapFlashRead m addr v readOk s =
    .next (if s.getB F.SKN_STAT.BUSY then busError (s.bump F.SKN_ERR.MMAP_BUSY F.SKN_ERR.SAT)
      else if !readOk then busError (if s.sys.released then flashReadError s else s)
      else s.answer (.data v.toNat)) := by
  obtain ⟨hreader, hready, hok, hsize⟩ := h
  rw [execMmapFlashRead, if_neg (by simp [hreader, hready, hok, hsize])]

theorem execMmapFlashRead_of_idle (h : FlashOpen s m addr.toNat) (hidle : s.getB F.SKN_STAT.BUSY = false) :
    execMmapFlashRead m addr v true s = .next (s.answer (.data v.toNat)) := by
  simp [execMmapFlashRead_of_open h, hidle]

theorem execMmapFlashRead_of_busy (h : FlashOpen s m addr.toNat) (hbusy : s.getB F.SKN_STAT.BUSY = true) :
    execMmapFlashRead m addr v readOk s = .next (busError (s.bump F.SKN_ERR.MMAP_BUSY F.SKN_ERR.SAT)) := by
  simp [execMmapFlashRead_of_open h, hbusy]

theorem execMmapFlashRead_of_failed (h : FlashOpen s m addr.toNat) (hidle : s.getB F.SKN_STAT.BUSY = false)
    (hrel : s.sys.released = true) : execMmapFlashRead m addr v false s = .next (busError (flashReadError s)) := by
  simp [execMmapFlashRead_of_open h, hidle, hrel]

theorem execFlashReadError_of_released (hload : loading s = false) (hrel : s.sys.released = true) (hready : s.pdReady 9 = true) :
    execFlashReadError s = .next (flashReadError s) := by
  simp [execFlashReadError, hload, hrel, hready]

end

/-- Settles O43, clause by clause from the branches of the two commands. -/
theorem flashWindowReads : Obligations.FlashWindowReads := by
  intro s m addr v open_
  refine ⟨fun hopen hidle => ?_, fun hopen hbusy => ?_, fun hopen hidle hrel => ?_, fun hdenied => ?_, fun hload hrel hready => ?_⟩
  · exact ⟨_, execMmapFlashRead_of_idle hopen hidle, rfl⟩
  · have hrun := execMmapFlashRead_of_busy (v := v) (readOk := true) hopen hbusy
    have hregs : RegsOnly [F.SKN_ERR.SAT.addr 0 0 0] s (busError (s.bump F.SKN_ERR.MMAP_BUSY F.SKN_ERR.SAT)) :=
      fun a ha => State.rd_bump_ne (List.ne_of_not_mem_cons ha) (List.ne_of_not_mem_cons ha)
    exact ⟨_, hrun, rfl, get_bump_mmapBusy s, hregs, execMmapFlashRead_mask rfl rfl rfl rfl rfl _ _ _ _ _ hrun⟩
  · have hrun := execMmapFlashRead_of_failed (v := v) hopen hidle hrel
    exact ⟨_, hrun, rfl, flashReadError_readErr s, flashReadError_lastFault s, execMmapFlashRead_mask rfl rfl rfl rfl rfl _ _ _ _ _ hrun⟩
  · exact ⟨_, execMmapFlashRead_of_denied hdenied, rfl⟩
  · exact ⟨_, execFlashReadError_of_released hload hrel hready, flashReadError_readErr s, flashReadError_lastFault s,
      flashReadError_resp s, flashReadError_mask rfl rfl rfl rfl s⟩

end Sys2Proof.Machine

/-! What the shared operations of modes, power and the start (02_modes_power_start.md) do to the registers, to the system part and to
the Kiln: which registers a switching operation cannot reach, what of the system part a fault code and a domain's fall leave, and one
lemma each for a domain's fall, a start's begin, a failed start and the entry of a mode. O38 to O41 below rest on these. -/

namespace Sys2Proof.Machine
open Sys2Proof

/-! ### Bits, tables, folds and fields -/

/-- A bit reads back as it was put. -/
theorem testBit_putBit_self (n b : Nat) (v : Bool) : (putBit n b v).testBit b = v := by
  have hle : n.testBit b = true → 2 ^ b ≤ n := Nat.ge_two_pow_of_testBit
  cases v <;> cases hn : n.testBit b
  · simp [putBit, hn]
  · have hflip := Nat.testBit_two_pow_add_eq (n - 2 ^ b) b
    rw [Nat.add_sub_cancel' (hle hn), hn] at hflip
    simpa [putBit, hn] using hflip.symm
  · simp [putBit, hn, Nat.add_comm n, Nat.testBit_two_pow_add_eq]
  · simp [putBit, hn]

/-- A table of which only the keys that pass `p` are kept. -/
theorem SMap.get_filter {α : Type} (d : α) (m : SMap α) (p : Nat → Bool) (k : Nat) :
    SMap.get d (m.filter fun e => p e.1) k = if p k then SMap.get d m k else d := by
  induction m with
  | nil => simp [SMap.get]
  | cons x r ih =>
    by_cases hx : x.1 = k
    · subst hx
      cases hp : p x.1 <;> simp [SMap.get, hp, ih]
    · cases hp : p x.1 <;> simp [SMap.get, hp, hx, ih]

/-- What every step of a fold keeps, the fold keeps. -/
theorem foldl_keeps {α β : Type} (p : State → β) (f : State → α → State) (l : List α)
    (hf : ∀ x ∈ l, ∀ s, p (f s x) = p s) (s : State) : p (l.foldl f s) = p s := by
  induction l generalizing s with
  | nil => rfl
  | cons x r ih =>
    rw [List.foldl_cons, ih (fun y hy => hf y (List.mem_cons_of_mem _ hy)), hf x List.mem_cons_self]

theorem ite_keeps {β : Type} {p : State → β} {c : Prop} [Decidable c] {s t : State} (h : p t = p s) : p (if c then t else s) = p s := by
  split
  · exact h
  · rfl

/-- A field whose register was not written. -/
theorem State.get_of_rd {s t : State} {f : Fld} {i j k : Nat} (h : t.rd (f.addr i j k) = s.rd (f.addr i j k)) :
    t.get f i j k = s.get f i j k := by
  simp only [State.get, h]

theorem State.getB_of_rd {s t : State} {f : Fld} {i j k : Nat} (h : t.rd (f.addr i j k) = s.rd (f.addr i j k)) :
    t.getB f i j k = s.getB f i j k := by
  simp only [State.getB, State.get_of_rd h]

theorem State.get_lt (s : State) (f : Fld) (i j k : Nat) : s.get f i j k < 2 ^ (f.hi + 1 - f.lo) :=
  Nat.mod_lt _ (Nat.two_pow_pos _)

theorem State.bit_setBit_self (s : State) (f : Fld) (b : Nat) (v : Bool) (i j k : Nat) (hb : b < f.hi + 1 - f.lo) (hf : f.hi < 32) :
    (s.setBit f b v i j k).bit f b i j k = v := by
  rw [State.bit, State.setBit, State.get_set_self _ _ _ _ _ _ hf (by omega), Nat.testBit_mod_two_pow, testBit_putBit_self]
  simp [hb]

/-- PD1 to PD10 are powered as PD_STAT says. -/
theorem State.pdOn_of_pos {s : State} {d : Nat} (hd : 0 < d) : s.pdOn d = s.bit F.PD_STAT.ON d := if_neg (by omega)

theorem State.pdOn_of_rd {s t : State} {d : Nat} (hd : 0 < d) (h : t.rd (F.PD_STAT.ON.addr 0 0 0) = s.rd (F.PD_STAT.ON.addr 0 0 0)) :
    t.pdOn d = s.pdOn d := by
  rw [State.pdOn_of_pos hd, State.pdOn_of_pos hd, State.bit, State.bit, State.get_of_rd h]

theorem State.mode_cases (s : State) : s.mode = 0 ∨ s.mode = s.get F.MODE_STAT.MODE := by
  unfold State.mode
  split
  · exact .inl rfl
  · exact .inr rfl

theorem State.mode_eq_get {s : State} (h : s.mode ≠ 0) : s.get F.MODE_STAT.MODE = s.mode :=
  (s.mode_cases.resolve_left h).symm

theorem State.mode_lt (s : State) : s.mode < 8 := by
  have hmode := State.get_lt s F.MODE_STAT.MODE 0 0 0
  rcases s.mode_cases with h | h <;> rw [h]
  · decide
  · exact hmode

theorem State.mode_congr {s t : State} (hphase : t.sys.phase = s.sys.phase)
    (hmode : t.get F.MODE_STAT.MODE = s.get F.MODE_STAT.MODE) : t.mode = s.mode := by
  unfold State.mode
  rw [hphase, hmode]

/-! ### Registers out of reach of switching

Bringing switches, channels, sets and bridges where R245 wants them writes the event crossings, the ash ring's counts and the
blocks PWM, GIF, ACT and CNV: nothing below block 2 and nothing from block 17 on. -/

/-- In block 0 or 1, or from block 17 on. -/
abbrev Aloof (a : Nat) : Prop := a < 0x30020000 ∨ 0x30110000 ≤ a

theorem mem_chLegs_lt {s : State} {c l : Nat} (h : l ∈ chLegs s c) : l < 32 := by
  obtain ⟨j, -, rfl⟩ := List.mem_map.mp h
  exact Nat.mod_lt _ (by decide)

theorem mem_legsOfSet_lt {s : State} {p l : Nat} (h : l ∈ legsOfSet s p) : l < 32 :=
  List.mem_range.mp (List.mem_filter.mp h).1

section
variable {a : Nat} (ha : Aloof a)
include ha

theorem Aloof.quiet : Quiet a := by
  unfold Aloof at ha
  constructor <;> omega

theorem set_aloof (s : State) (f : Fld) (v i j k : Nat) (hlo : 0x30020000 ≤ f.addr i j k) (hhi : f.addr i j k < 0x30110000) :
    (s.set f v i j k).rd a = s.rd a :=
  set_quiet _ _ _ _ _ _ _ (by unfold Aloof at ha; omega)

/-- A register of a leg, by the leg's number. -/
theorem setLegCfg_aloof (s : State) (f : Fld) (v l : Nat) (hf : f.base = 0x300D0400 ∧ f.s1 = 32) (hl : l < 32) :
    (s.set f v l).rd a = s.rd a := by
  obtain ⟨hb, hs⟩ := hf
  refine set_aloof ha _ _ _ _ _ _ ?_ ?_ <;> simp only [Fld.addr, hb, hs] <;> omega

/-- A register of a converter channel, by the channel's number. -/
theorem setChan_aloof (s : State) (f : Fld) (v c : Nat) (hf : 0x30100000 ≤ f.base ∧ f.base < 0x30100100 ∧ f.s1 = 256) (hc : c < 3) :
    (s.set f v c).rd a = s.rd a := by
  obtain ⟨hb, hb', hs⟩ := hf
  refine set_aloof ha _ _ _ _ _ _ ?_ ?_ <;> simp only [Fld.addr, hs] <;> omega

/-- A register of a protection set, by the set's number. -/
theorem setPsetStat_aloof (s : State) (f : Fld) (v p : Nat) (hf : f.base = 0x300E0408 ∧ f.s1 = 16) (hp : p < 16) :
    (s.set f v p).rd a = s.rd a := by
  obtain ⟨hb, hs⟩ := hf
  refine set_aloof ha _ _ _ _ _ _ ?_ ?_ <;> simp only [Fld.addr, hb, hs] <;> omega

theorem ashPush_aloof (source code cls : Nat) (body : List Byte) (s : State) : (ashPush source code cls body s).rd a = s.rd a := by
  unfold ashPush
  split
  · refine State.rd_bump_ne ?_ ?_ <;> simp only [Fld.addr, F.MEMC_ASH.ASH_DROP, F.MEMC_ASH.SAT] <;> unfold Aloof at ha <;> omega
  · exact set_aloof ha _ _ _ _ _ _ (by decide) (by decide)

theorem cnvAsh_aloof (c code cls : Nat) (s : State) : (cnvAsh c code cls s).rd a = s.rd a := ashPush_aloof ha _ _ _ _ _

theorem showOffReq_aloof (l : Nat) (hl : l < 32) (s : State) : (showOffReq l s).rd a = s.rd a :=
  setLegCfg_aloof ha _ _ _ _ ⟨rfl, rfl⟩ hl

theorem holdLeg_aloof (h : Bool) (l : Nat) (hl : l < 32) (s : State) : (holdLeg h l s).rd a = s.rd a :=
  (enforceLeg_quiet _ _ _ ha.quiet).trans (showOffReq_aloof ha l hl _)

theorem holdLegs_aloof (c : Nat) (s : State) : (holdLegs c s).rd a = s.rd a :=
  foldl_keeps (·.rd a) _ _ (fun l hl s => holdLeg_aloof ha true l (mem_chLegs_lt hl) s) s

theorem chGoto_aloof (c st : Nat) (hc : c < 3) (s : State) : (chGoto c st s).rd a = s.rd a := by
  unfold chGoto
  split
  · rfl
  · exact (raise_quiet _ _ _ (by decide) ha.quiet).trans (setChan_aloof ha _ _ _ _ (by decide) hc)

theorem chQuiet_aloof (c : Nat) (hc : c < 3) (s : State) : (chQuiet c s).rd a = s.rd a := by
  unfold chQuiet
  dsimp only
  refine (foldl_keeps (·.rd a) _ _ ?_ _).trans ?_
  · intros; rfl
  · iterate 5 rw [setChan_aloof ha _ _ _ _ (by decide) hc]
    rfl

theorem chStop_aloof (c st cause : Nat) (hc : c < 3) (s : State) : (chStop c st cause s).rd a = s.rd a := by
  rw [chStop, chGoto_aloof ha _ _ hc, setChan_aloof ha _ _ _ _ (by decide) hc, chQuiet_aloof ha _ hc, holdLegs_aloof ha]

theorem chDisable_aloof (c : Nat) (hc : c < 3) (s : State) : (chDisable c s).rd a = s.rd a := by
  have hoff : ((s.set F.CNV_CH_CFG.EN 0 c).set F.CNV_CH_STAT.RETRIES 0 c).rd a = s.rd a := by
    rw [setChan_aloof ha _ _ _ _ (by decide) hc, setChan_aloof ha _ _ _ _ (by decide) hc]
  unfold chDisable
  dsimp only
  split
  · rw [chGoto_aloof ha _ _ hc, setChan_aloof ha _ _ _ _ (by decide) hc, setChan_aloof ha _ _ _ _ (by decide) hc, hoff]
  · rw [chGoto_aloof ha _ _ hc, setChan_aloof ha _ _ _ _ (by decide) hc, setChan_aloof ha _ _ _ _ (by decide) hc, hoff]
  · rw [chStop_aloof ha _ _ _ hc, hoff]
  · exact hoff

theorem cnvTripSet_aloof (p : Nat) (s : State) : (cnvTripSet p s).rd a = s.rd a := by
  refine foldl_keeps (·.rd a) _ _ (fun c hc s => ite_keeps (p := (·.rd a)) ?_) s
  have hc := List.mem_range.mp hc
  simp only [issueFor_rd]
  rw [chStop_aloof ha _ _ _ hc, cnvAsh_aloof ha, setChan_aloof ha _ _ _ _ (by decide) hc]

theorem cnvImposed_aloof (mode code cls : Nat) (s : State) : (cnvImposed mode code cls s).rd a = s.rd a := by
  refine foldl_keeps (·.rd a) _ _ (fun c hc s => ite_keeps (p := (·.rd a)) ?_) s
  have hc := List.mem_range.mp hc
  dsimp only
  split
  · rw [chStop_aloof ha _ _ _ hc]
    split
    · rw [cnvAsh_aloof ha, setChan_aloof ha _ _ _ _ (by decide) hc]
    · rfl
  · split
    · rw [chGoto_aloof ha _ _ hc, setChan_aloof ha _ _ _ _ (by decide) hc, setChan_aloof ha _ _ _ _ (by decide) hc]
    · rfl

theorem disarm_aloof (ls : List Nat) (hls : ∀ l ∈ ls, l < 32) (s : State) : (disarm ls s).rd a = s.rd a := by
  refine foldl_keeps (·.rd a) _ _ ?_ s
  exact fun l hl s => setLegCfg_aloof ha s F.PWM_LEG_CFG.ARM 0 l ⟨rfl, rfl⟩ (hls l hl)

theorem disarmSet_aloof (p : Nat) (t s : State) : (disarm (legsOfSet t p) s).rd a = s.rd a :=
  disarm_aloof ha _ (fun _ => mem_legsOfSet_lt) s

theorem enterState_aloof (p st : Nat) (hp : p < 16) (s : State) : (enterState p st s).rd a = s.rd a := by
  have hset : (enforceLegs (legsOfSet s p) (s.set F.GIF_PSET_STAT.STATE st p)).rd a = s.rd a :=
    (enforceLegs_quiet _ _ _ ha.quiet).trans (setPsetStat_aloof ha _ _ _ _ ⟨rfl, rfl⟩ hp)
  unfold enterState
  dsimp only
  split
  · exact hset
  · exact (cnvTripSet_aloof ha _ _).trans hset

theorem psetAsh_aloof (p code cls : Nat) (s : State) : (psetAsh p code cls s).rd a = s.rd a := by
  unfold psetAsh
  split
  · exact ite_keeps (p := (·.rd a)) (ashPush_aloof ha _ _ _ _ _)
  · rfl

theorem imposeTrip_aloof (code cls p : Nat) (hp : p < 16) (s : State) : (imposeTrip code cls p s).rd a = s.rd a := by
  unfold imposeTrip
  dsimp only
  split
  · rw [psetAsh_aloof ha]
    split <;> rw [enterState_aloof ha _ _ hp, disarmSet_aloof ha, setPsetStat_aloof ha _ _ _ _ ⟨rfl, rfl⟩ hp] <;> rfl
  · exact disarmSet_aloof ha _ _ _

theorem imposeOff_aloof (code cls p : Nat) (hp : p < 16) (s : State) : (imposeOff code cls p s).rd a = s.rd a := by
  unfold imposeOff
  split
  · exact disarmSet_aloof ha _ _ _
  · rw [psetAsh_aloof ha, enterState_aloof ha _ _ hp, setPsetStat_aloof ha _ _ _ _ ⟨rfl, rfl⟩ hp, disarmSet_aloof ha]

theorem safeReaction_aloof (code cls : Nat) (s : State) : (safeReaction code cls s).rd a = s.rd a := by
  unfold safeReaction
  split
  · rfl
  · refine foldl_keeps (·.rd a) _ _ (fun p hp s => ?_) s
    have hp := List.mem_range.mp hp
    split
    · exact ite_keeps (p := (·.rd a)) (imposeTrip_aloof ha _ _ _ hp _)
    · exact imposeOff_aloof ha _ _ _ hp _

theorem bridgeModeWrite_aloof (b v : Nat) (hb : b < 12) (s : State) : (bridgeModeWrite b v s).rd a = s.rd a := by
  have hset : ∀ (s : State) v, (s.set F.ACT_BR_CFG.MODE v b).rd a = s.rd a := fun s v => by
    refine set_aloof ha _ _ _ _ _ _ ?_ ?_ <;> simp only [Fld.addr, F.ACT_BR_CFG.MODE] <;> omega
  unfold bridgeModeWrite
  dsimp only
  have heff : ∀ (c : Prop) [Decidable c] (u : State) x, (if c then u else { u with act := x }).rd a = u.rd a := by
    intros
    split <;> rfl
  rw [showBridge_quiet _ _ _ hb ha.quiet, heff, hset]

theorem emrEnd_aloof (cause : Nat) (s : State) : (emrEnd cause s).rd a = s.rd a := by
  unfold emrEnd
  split
  · rfl
  · exact ashPush_aloof ha _ _ _ _ _

end

theorem showBridges_quiet (a : Nat) (s : State) (h : Quiet a) : (showBridges s).rd a = s.rd a :=
  foldl_keeps (·.rd a) _ _ (fun b hb s => showBridge_quiet b a s (List.mem_range.mp hb) h) s

theorem kreqArrive_quiet (new : Word) (a : Nat) (s : State) (h : Quiet a) : (kreqArrive new s).rd a = s.rd a := by
  unfold kreqArrive
  extract_lets k old rises s1 k1 s2 k2 s3
  have hss1 : s2.rd a = s.rd a := ite_keeps (p := (·.rd a)) (setKln_rd _ _ _)
  have hsto : s3.rd a = s2.rd a := ite_keeps (p := (·.rd a)) (kilnApply_quiet _ _ _ h)
  rw [kilnDrive_quiet _ _ h, hsto, hss1]

/-! ### What a fault code and a domain's fall leave of the system part -/

/-- The system part without what a fault code changes (R9): the last code, the reactions that wait. -/
def SysSt.codeless (x : SysSt) : SysSt := { x with lastFault := 0, reacts := [] }

/-- The system part without what a fault code, the fall of a domain (R52) or the next domain due changes. -/
def SysSt.steady (x : SysSt) : SysSt :=
  { x.codeless with wlDone := [], onSeq := [], linkUp := false, linkLost := false, linkCrcRun := 0 }

theorem SysSt.steady_of_codeless {x y : SysSt} (h : x.codeless = y.codeless) : x.steady = y.steady := by
  simp only [SysSt.steady, h]

theorem kilnDrive_sys (s : State) : (kilnDrive s).sys = s.sys :=
  sys_of_mask (K := { regs := true, fab := true, pwm := true, kln := true, act := true }) rfl (kilnDrive_mask rfl rfl rfl rfl rfl s)

theorem enforceAll_sys (s : State) : (enforceAll s).sys = s.sys :=
  sys_of_mask (K := { regs := true, pwm := true, act := true }) rfl (enforceAll_mask rfl rfl rfl s)

theorem showBridges_sys (s : State) : (showBridges s).sys = s.sys :=
  sys_of_mask (K := { regs := true }) rfl (showBridges_mask rfl s)

theorem blankGrant_sys (s : State) : (blankGrant s).sys = s.sys :=
  sys_of_mask (K := { regs := true, fab := true }) rfl (blankGrant_mask rfl rfl s)

theorem debugRevoke_sys (cause level : Nat) (s : State) : (debugRevoke cause level s).sys = s.sys :=
  sys_of_mask (K := { regs := true, fab := true, spx := true, tnd := true, xcp := true }) rfl
    (debugRevoke_mask rfl rfl rfl rfl rfl cause level s)

theorem cnvImposed_sys (mode code cls : Nat) (s : State) : (cnvImposed mode code cls s).sys = s.sys :=
  sys_of_mask (K := { regs := true, fab := true, pwm := true, cnv := true, act := true }) rfl
    (cnvImposed_mask rfl rfl rfl rfl rfl mode code cls s)

theorem chStop_sys (c st cause : Nat) (s : State) : (chStop c st cause s).sys = s.sys :=
  sys_of_mask (K := { regs := true, fab := true, pwm := true, cnv := true, act := true }) rfl
    (chStop_mask rfl rfl rfl rfl rfl c st cause s)

theorem chDisable_sys (c : Nat) (s : State) : (chDisable c s).sys = s.sys :=
  sys_of_mask (K := { regs := true, fab := true, pwm := true, cnv := true, act := true }) rfl
    (chDisable_mask rfl rfl rfl rfl rfl c s)

theorem cnvAsh_sys (c code cls : Nat) (s : State) : (cnvAsh c code cls s).sys = s.sys :=
  sys_of_mask (K := { regs := true, fab := true }) rfl (cnvAsh_mask rfl rfl c code cls s)

theorem psetAsh_sys (p code cls : Nat) (s : State) : (psetAsh p code cls s).sys = s.sys :=
  sys_of_mask (K := { regs := true, fab := true }) rfl (psetAsh_mask rfl rfl p code cls s)

theorem disarm_sys (ls : List Nat) (s : State) : (disarm ls s).sys = s.sys :=
  sys_of_mask (K := { regs := true, pwm := true }) rfl (disarm_mask rfl rfl ls s)

theorem enforceLegs_sys (ls : List Nat) (s : State) : (enforceLegs ls s).sys = s.sys :=
  sys_of_mask (K := { regs := true, pwm := true, act := true }) rfl (enforceLegs_mask rfl rfl rfl ls s)

theorem bridgeModeWrite_sys (b v : Nat) (s : State) : (bridgeModeWrite b v s).sys = s.sys :=
  sys_of_mask (K := { regs := true, act := true }) rfl (bridgeModeWrite_mask rfl rfl b v s)

theorem emrEnd_sys (cause : Nat) (s : State) : (emrEnd cause s).sys = s.sys :=
  sys_of_mask (K := { regs := true, fab := true, sup := true }) rfl (emrEnd_mask rfl rfl rfl cause s)

theorem kilnLatch_sys (e cls mask : Nat) (b : Bool) (s : State) : (kilnLatch e cls mask b s).sys = s.sys := by
  rw [kilnLatch, raise_sys, kilnDrive_sys]
  rfl

theorem issueFor_codeless (src : FaultSrc) (code cls : Nat) (s : State) : (issueFor src code cls s).sys.codeless = s.sys.codeless := by
  rw [issueFor_eq]
  rfl

theorem tellControl_codeless (code cls : Nat) (s : State) : (tellControl code cls s).sys.codeless = s.sys.codeless := by
  refine ite_keeps (p := (·.sys.codeless)) ?_
  unfold issueKiln
  split <;> rfl

theorem kilnApply_codeless (e : Nat) (s : State) : (kilnApply e s).sys.codeless = s.sys.codeless := by
  unfold kilnApply
  split
  · rfl
  · dsimp only
    rw [kilnApplyAs, tellControl_codeless]
    split
    · rw [kilnLatch_sys]; rfl
    · rfl

theorem kilnCond_codeless (e : Nat) (present : Bool) (s : State) : (kilnCond e present s).sys.codeless = s.sys.codeless :=
  (ite_keeps (p := (·.sys.codeless)) (kilnApply_codeless _ _)).trans rfl

theorem kreqArrive_codeless (new : Word) (s : State) : (kreqArrive new s).sys.codeless = s.sys.codeless := by
  unfold kreqArrive
  extract_lets k old rises s1 k1 s2 k2 s3
  have hss1 : s2.sys.codeless = s.sys.codeless := ite_keeps (p := (·.sys.codeless)) rfl
  have hsto : s3.sys.codeless = s2.sys.codeless := ite_keeps (p := (·.sys.codeless)) (kilnApply_codeless _ _)
  rw [kilnDrive_sys, hsto, hss1]

theorem cnvTripSet_codeless (p : Nat) (s : State) : (cnvTripSet p s).sys.codeless = s.sys.codeless := by
  refine foldl_keeps (·.sys.codeless) _ _ (fun c _ s => ite_keeps (p := (·.sys.codeless)) ?_) s
  dsimp only
  rw [issueFor_codeless, chStop_sys, cnvAsh_sys]
  rfl

theorem enterState_codeless (p st : Nat) (s : State) : (enterState p st s).sys.codeless = s.sys.codeless := by
  have hset : (enforceLegs (legsOfSet s p) (s.set F.GIF_PSET_STAT.STATE st p)).sys = s.sys := enforceLegs_sys _ _
  unfold enterState
  dsimp only
  split
  · rw [hset]
  · rw [cnvTripSet_codeless, hset]

theorem imposeTrip_codeless (code cls p : Nat) (s : State) : (imposeTrip code cls p s).sys.codeless = s.sys.codeless := by
  unfold imposeTrip
  dsimp only
  split
  · rw [psetAsh_sys]
    split <;> rw [enterState_codeless, disarm_sys] <;> rfl
  · rw [disarm_sys]

theorem imposeOff_codeless (code cls p : Nat) (s : State) : (imposeOff code cls p s).sys.codeless = s.sys.codeless := by
  unfold imposeOff
  split
  · rw [disarm_sys]
  · rw [psetAsh_sys, enterState_codeless, State.set_sys, disarm_sys]

theorem safeReaction_codeless (code cls : Nat) (s : State) : (safeReaction code cls s).sys.codeless = s.sys.codeless := by
  unfold safeReaction
  split
  · rfl
  · refine foldl_keeps (·.sys.codeless) _ _ (fun p _ s => ?_) s
    split
    · exact ite_keeps (p := (·.sys.codeless)) (imposeTrip_codeless _ _ _ _)
    · exact imposeOff_codeless _ _ _ _

end Sys2Proof.Machine

namespace Sys2Proof.Machine
open Sys2Proof

/-! ### The Kiln's own part under its lines and its findings -/

/-- Driving the lines changes of the Kiln's state the lines alone. -/
theorem kilnDrive_kln (s : State) : (kilnDrive s).kln = { s.kln with
    gen := (kilnDrive s).kln.gen, stoHs := (kilnDrive s).kln.stoHs, stoLs := (kilnDrive s).kln.stoLs
    brkHs := (kilnDrive s).kln.brkHs, brkLs := (kilnDrive s).kln.brkLs, faultN := (kilnDrive s).kln.faultN } := by
  have hraise : ∀ n s, (raise n s).kln = s.kln := fun n s =>
    kln_of_mask (K := { regs := true, fab := true }) rfl (raise_mask rfl rfl n s)
  have hgen : ∀ g s, (genRise g s).kln = s.kln := fun g s =>
    kln_of_mask (K := { regs := true, fab := true, pwm := true }) rfl (genRise_mask rfl rfl rfl g s)
  have henf : ∀ s, (enforceAll s).kln = s.kln := fun s =>
    kln_of_mask (K := { regs := true, pwm := true, act := true }) rfl (enforceAll_mask rfl rfl rfl s)
  unfold kilnDrive
  extract_lets k sto stoLs was wasBrk gen stoFree brk brkLs faultN s1 s2 s3 s4
  have hsto : s2.kln = s1.kln := ite_keeps (p := (·.kln)) (hraise _ _)
  have hbrk : s3.kln = s2.kln := ite_keeps (p := (·.kln)) (hraise _ _)
  have hgens : s4.kln = s3.kln := foldl_keeps (·.kln) _ _ (fun g _ s => hgen g s) s3
  rw [ite_keeps (p := (·.kln)) (henf s4), hgens, hbrk, hsto]
  rfl

theorem kilnDrive_present (s : State) : (kilnDrive s).kln.present = s.kln.present := by rw [kilnDrive_kln]
theorem kilnDrive_kstate (s : State) : (kilnDrive s).kln.kstate = s.kln.kstate := by rw [kilnDrive_kln]
theorem kilnDrive_crcRun (s : State) : (kilnDrive s).kln.crcRun = s.kln.crcRun := by rw [kilnDrive_kln]

theorem raise_kln (n : Nat) (s : State) : (raise n s).kln = s.kln := by rw [raise_eq]

/-- A finding of the Kiln changes neither which conditions are present nor the run of bad frames. -/
theorem kilnApply_conditions (e : Nat) (s : State) :
    (kilnApply e s).kln.present = s.kln.present ∧ (kilnApply e s).kln.crcRun = s.kln.crcRun := by
  have htell : ∀ code cls t, (tellControl code cls t).kln = t.kln := fun code cls t =>
    kln_of_mask (K := { sys := true }) rfl (tellControl_mask rfl code cls t)
  unfold kilnApply
  split
  · exact ⟨rfl, rfl⟩
  · dsimp only
    rw [kilnApplyAs, htell]
    split
    · rw [kilnLatch, raise_kln, kilnDrive_present, kilnDrive_crcRun]
      exact ⟨rfl, rfl⟩
    · exact ⟨rfl, rfl⟩

theorem kilnCond_present (e : Nat) (present : Bool) (s : State) :
    (kilnCond e present s).kln.present = putBit s.kln.present e present := by
  unfold kilnCond
  exact ite_keeps (p := (·.kln.present)) (kilnApply_conditions _ _).1

theorem kilnCond_crcRun (e : Nat) (present : Bool) (s : State) : (kilnCond e present s).kln.crcRun = s.kln.crcRun := by
  unfold kilnCond
  exact (ite_keeps (p := (·.kln.crcRun)) (kilnApply_conditions _ _).2)

/-- A condition that is gone is noted and nothing else. -/
theorem kilnCond_false (e : Nat) (s : State) :
    kilnCond e false s = s.setKln { s.kln with present := putBit s.kln.present e false } := by
  simp [kilnCond]

/-! ### Domains (R48 to R52) -/

theorem engineOff_regs (d : Nat) (s : State) : (engineOff d s).regs = s.regs :=
  regs_of_mask
    (K := { sys := true, fab := true, afe := true, hk := true, whl := true, pwm := true, cnv := true, fly := true, kln := true, spx := true
            sup := true, act := true, thm := true, chg := true, tnd := true, upd := true, bus := true, xcp := true, olt := true })
    rfl (engineOff_mask rfl rfl rfl rfl rfl rfl rfl rfl rfl rfl rfl rfl rfl rfl rfl rfl rfl rfl rfl d s)

theorem engineOff_steady (d : Nat) (s : State) : (engineOff d s).sys.steady = s.sys.steady := by
  unfold engineOff
  split <;> rfl

/-- A domain that falls leaves its registers at their reset words, the others but for PD_STAT as they were. -/
theorem domainOff_rd (d a : Nat) (s : State) : (domainOff d s).rd a =
    if domainOf a = d then resetWord a else ((s.setBit F.PD_STAT.ON d false).setBit F.PD_STAT.FILLED d false).rd a := by
  have hregs : (domainOff d s).regs =
      ((s.setBit F.PD_STAT.ON d false).setBit F.PD_STAT.FILLED d false).regs.filter (fun e => domainOf e.1 != d) := by
    unfold domainOff
    dsimp only
    split <;> exact engineOff_regs _ _
  rw [State.rd, hregs, SMap.get_filter _ _ (fun k => domainOf k != d)]
  by_cases h : domainOf a = d <;> simp [h, State.rd]

theorem domainOff_rd_of_other {d a : Nat} (s : State) (hd : domainOf a ≠ d) (hpd : a ≠ F.PD_STAT.ON.addr 0 0 0) :
    (domainOff d s).rd a = s.rd a := by
  rw [domainOff_rd, if_neg hd]
  exact (set_quiet _ F.PD_STAT.FILLED _ _ _ _ _ hpd).trans (set_quiet s F.PD_STAT.ON _ _ _ _ _ hpd)

theorem domainOf_pdStat : domainOf (F.PD_STAT.ON.addr 0 0 0) = 8 := by decide

theorem resetWord_pdStat : resetWord (F.PD_STAT.ON.addr 0 0 0) = 0 := by decide

/-- With PD8 every domain shows off. -/
theorem domainOff_eight_pdOn {d : Nat} (hd : 0 < d) (s : State) : (domainOff 8 s).pdOn d = false := by
  have hword : (domainOff 8 s).rd (F.PD_STAT.ON.addr 0 0 0) = 0 := by
    rw [domainOff_rd, if_pos domainOf_pdStat, resetWord_pdStat]
  rw [State.pdOn_of_pos hd, State.bit, State.get, hword]
  simp [getBits]

/-- A domain that was switched off is off. -/
theorem domainOff_pdOn {d : Nat} (hd : 0 < d) (hle : d ≤ 10) (s : State) : (domainOff d s).pdOn d = false := by
  by_cases h8 : d = 8
  · subst h8
    exact domainOff_eight_pdOn hd s
  · have hpd : domainOf (F.PD_STAT.ON.addr 0 0 0) ≠ d := domainOf_pdStat ▸ Ne.symm h8
    have hget : (domainOff d s).get F.PD_STAT.ON = (s.setBit F.PD_STAT.ON d false).get F.PD_STAT.ON := by
      rw [State.get, domainOff_rd, if_neg hpd]
      exact State.get_set_bits _ _ _ _ _ _ _ _ _ _ (by decide) (by decide) (by decide) (by decide)
    rw [State.pdOn_of_pos hd, State.bit, hget]
    exact State.bit_setBit_self _ _ _ _ _ _ _ (by simp only [F.PD_STAT.ON]; omega) (by decide)

theorem domainOff_steady (d : Nat) (s : State) : (domainOff d s).sys.steady = s.sys.steady := by
  unfold domainOff
  extract_lets s1 x f s2 s3 k s4
  have hkreq : s4.sys = s3.sys := ite_keeps (p := (·.sys)) rfl
  rw [hkreq, engineOff_steady]
  rfl

theorem allOff_steady (s : State) : (allOff s).sys.steady = s.sys.steady := by
  rw [allOff, kilnDrive_sys]
  exact foldl_keeps (·.sys.steady) _ _ (fun d _ s => domainOff_steady d s) s

theorem allOff_pdOn {d : Nat} (hd : 0 < d) (s : State) : (allOff s).pdOn d = false := by
  rw [allOff, State.pdOn_of_rd hd (kilnDrive_quiet _ _ (by decide))]
  exact domainOff_eight_pdOn hd _

/-- PD0's registers stay when PD1 to PD10 go off. -/
theorem allOff_rd_of_pd0 {a : Nat} (s : State) (hd : domainOf a = 0) (hq : Quiet a) : (allOff s).rd a = s.rd a := by
  have hpd : a ≠ F.PD_STAT.ON.addr 0 0 0 := by
    rintro rfl
    exact absurd hd (by decide)
  rw [allOff, kilnDrive_quiet _ _ hq]
  refine foldl_keeps (·.rd a) _ _ (fun d hmem s => domainOff_rd_of_other s ?_ hpd) s
  rw [hd]
  rintro rfl
  exact absurd hmem (by decide)

/-- Switching a domain on powers it (R52). -/
theorem domainOn_pdOn {d : Nat} (hd : 0 < d) (hle : d ≤ 10) (s : State) : (domainOn d s).pdOn d = true := by
  unfold domainOn
  split
  · assumption
  · have hon : (s.setBit F.PD_STAT.ON d true).pdOn d = true := by
      rw [State.pdOn_of_pos hd]
      exact State.bit_setBit_self _ _ _ _ _ _ _ (by simp only [F.PD_STAT.ON]; omega) (by decide)
    dsimp only
    split
    · rw [State.pdOn_of_rd hd (set_quiet _ _ _ _ _ _ _ (by decide)), hon]
    · exact hon

/-- Filling a domain that is on makes it ready (R53). -/
theorem setFilled_pdReady {d : Nat} {s : State} (hd : 0 < d) (hle : d ≤ 10) (hon : s.pdOn d = true) :
    (s.setBit F.PD_STAT.FILLED d true).pdReady d = true := by
  have hkeep : (s.setBit F.PD_STAT.FILLED d true).get F.PD_STAT.ON = s.get F.PD_STAT.ON :=
    State.get_set_bits _ _ _ _ _ _ _ _ _ _ (by decide) (by decide) (by decide) (by decide)
  have hon' : (s.setBit F.PD_STAT.FILLED d true).pdOn d = true := by
    rwa [State.pdOn_of_pos hd, State.bit, hkeep, ← State.bit, ← State.pdOn_of_pos hd]
  rw [State.pdReady, hon', Bool.true_and, State.pdFilled, if_neg (by omega)]
  exact State.bit_setBit_self _ _ _ _ _ _ _ (by simp only [F.PD_STAT.FILLED]; omega) (by decide)

/-! ### Starts (R56, R63, R64, R590) -/

theorem startBegin_sys (kind : Nat) (s : State) : (startBegin kind s).sys.phase = .supplies ∧ (startBegin kind s).sys.supEn = true ∧
    (startBegin kind s).sys.released = false ∧ (startBegin kind s).sys.trans = none := ⟨rfl, rfl, rfl, rfl⟩

theorem startBegin_kind (kind : Nat) (s : State) : (startBegin kind s).get F.START_LOG.KIND = kind % 4 :=
  State.get_set_self _ _ _ _ _ _ (by decide) (by decide)

theorem startBegin_regsOnly (kind : Nat) (s : State) : RegsOnly [F.START_LOG.KIND.addr 0 0 0] s (startBegin kind s) :=
  fun _ ha => State.rd_wr_ne _ _ _ _ (List.ne_of_not_mem_cons ha)

/-- A start that fails before release holds the part with its code, PD1 to PD10 off. -/
theorem startFail_holds {code : Nat} (hcode : code < 65536) (d : Nat) (s : State) :
    (startFail code s).sys.phase = .hold ∧ (startFail code s).sys.supEn = false ∧ (startFail code s).sys.released = false ∧
    (startFail code s).get F.START_LOG.LAST_FAULT = code ∧ (0 < d → (startFail code s).pdOn d = false) := by
  refine ⟨rfl, rfl, rfl, ?_, fun hd => ?_⟩
  · have hcount : (startFail code s).get F.START_LOG.LAST_FAULT = ((allOff s).set F.START_LOG.LAST_FAULT code).get F.START_LOG.LAST_FAULT := by
      unfold startFail
      simp only [State.get_with_sys, State.bump]
      split
      · rw [State.get_set_bits _ _ _ _ _ _ _ _ _ _ (by decide) (by decide) (by decide) (by decide),
          State.get_set_bits _ _ _ _ _ _ _ _ _ _ (by decide) (by decide) (by decide) (by decide)]
      · rw [State.get_set_bits _ _ _ _ _ _ _ _ _ _ (by decide) (by decide) (by decide) (by decide)]
    rw [hcount, State.get_set_self _ _ _ _ _ _ (by decide) (by decide)]
    exact Nat.mod_eq_of_lt hcode
  · have hrd : (startFail code s).rd (F.PD_STAT.ON.addr 0 0 0) = (allOff s).rd (F.PD_STAT.ON.addr 0 0 0) :=
      (State.rd_bump_ne (by decide) (by decide)).trans (set_quiet _ _ _ _ _ _ _ (by decide))
    rw [State.pdOn_of_rd hd hrd, allOff_pdOn hd]

/-! ### A mode is entered (R45) -/

theorem blankGrant_rd {a : Nat} (ha : a ≠ F.DBG_STAT.LEVEL.addr 0 0 0) (hq : Quiet a) (s : State) : (blankGrant s).rd a = s.rd a := by
  refine ite_keeps (p := (·.rd a)) ?_
  rw [raise_quiet _ _ _ (by decide) hq, set_quiet _ F.DBG_STAT.LEFT _ _ _ _ _ ha, set_quiet _ F.DBG_STAT.SOURCE _ _ _ _ _ ha,
    set_quiet _ _ _ _ _ _ _ ha]

theorem emrEnd_derated (cause : Nat) (s : State) : (emrEnd cause s).sup.derated = s.sup.derated := by
  have hash : ∀ source code cls body t, (ashPush source code cls body t).sup = t.sup := fun source code cls body t =>
    sup_of_mask (K := { regs := true, fab := true }) rfl (ashPush_mask rfl rfl source code cls body t)
  unfold emrEnd
  split
  · rfl
  · dsimp only
    rw [hash]

theorem kilnDrive_sup (s : State) : (kilnDrive s).sup = s.sup :=
  sup_of_mask (K := { regs := true, fab := true, pwm := true, kln := true, act := true }) rfl (kilnDrive_mask rfl rfl rfl rfl rfl s)

theorem enforceAll_sup (s : State) : (enforceAll s).sup = s.sup :=
  sup_of_mask (K := { regs := true, pwm := true, act := true }) rfl (enforceAll_mask rfl rfl rfl s)

theorem showBridges_sup (s : State) : (showBridges s).sup = s.sup :=
  sup_of_mask (K := { regs := true }) rfl (showBridges_mask rfl s)

theorem domainOff_four_sup (s : State) : (domainOff 4 s).sup = s.sup := by
  unfold domainOff
  exact ite_keeps (p := (·.sup)) rfl

/-- What the entry of a mode writes in MODE_STAT (R45). -/
def modeWritten (mode : Nat) (v2l : Bool) (s : State) : State :=
  (((s.set F.MODE_STAT.PREV_MODE s.mode).set F.MODE_STAT.MODE mode).setB F.MODE_STAT.V2L v2l).set F.MODE_STAT.BUSY 0

theorem modeWritten_fields (mode : Nat) (v2l : Bool) (s : State) :
    (modeWritten mode v2l s).get F.MODE_STAT.MODE = mode % 8 ∧ (modeWritten mode v2l s).get F.MODE_STAT.PREV_MODE = s.mode ∧
    (modeWritten mode v2l s).get F.MODE_STAT.V2L = v2l.toNat ∧ (modeWritten mode v2l s).get F.MODE_STAT.BUSY = 0 := by
  have hprev : s.mode % 8 = s.mode := Nat.mod_eq_of_lt s.mode_lt
  refine ⟨?_, ?_, ?_, ?_⟩ <;>
    simp (disch := decide) only [modeWritten, State.setB, State.get_set_self, State.get_set_bits]
  · rfl
  · exact hprev
  · cases v2l <;> rfl
  · rfl

/-- The entry of a mode up to BLANK's grant: MODE_STAT is written, no request is left, and of the system part only what a domain's
fall or the next domain due changes goes besides. -/
theorem enterMode_eq (mode : Nat) (v2l : Bool) (s : State) : ∃ u, enterMode mode v2l s = raise 0 (blankGrant u) ∧
    u.sys.steady = { s.sys.steady with trans := none } ∧ u.sup.derated = s.sup.derated ∧
    ∀ a, Aloof a → a ≠ F.PD_STAT.ON.addr 0 0 0 → domainOf a ≠ 4 → u.rd a = (modeWritten mode v2l s).rd a := by
  unfold enterMode
  extract_lets old s1 s2 x s3 s4 y s5 s6
  refine ⟨showBridges s6, rfl, ?_, ?_, fun a ha hpd hd => ?_⟩
  · have hemr : s4.sys = s3.sys := ite_keeps (p := (·.sys)) (emrEnd_sys _ _)
    have hpd4 : s5.sys.steady = s4.sys.steady := by
      simp only [s5]
      split
      · exact domainOff_steady _ _
      · exact ite_keeps (p := (·.sys.steady)) rfl
    have hdrive : s6.sys = s5.sys := (kilnDrive_sys _).trans (ite_keeps (p := (·.sys)) (enforceAll_sys _))
    rw [showBridges_sys, hdrive, hpd4, hemr]
    rfl
  · have hemr : s4.sup.derated = s3.sup.derated := ite_keeps (p := (·.sup.derated)) (emrEnd_derated _ _)
    have hpd4 : s5.sup = s4.sup := by
      simp only [s5]
      split
      · exact domainOff_four_sup _
      · exact ite_keeps (p := (·.sup)) rfl
    have hdrive : s6.sup = s5.sup := (kilnDrive_sup _).trans (ite_keeps (p := (·.sup)) (enforceAll_sup _))
    rw [showBridges_sup, hdrive, hpd4, hemr]
    rfl
  · have hemr : s4.rd a = s3.rd a := ite_keeps (p := (·.rd a)) (emrEnd_aloof ha _ _)
    have hpd4 : s5.rd a = s4.rd a := by
      simp only [s5]
      split
      · exact domainOff_rd_of_other _ hd hpd
      · exact ite_keeps (p := (·.rd a)) rfl
    have hdrive : s6.rd a = s5.rd a :=
      (kilnDrive_quiet _ _ ha.quiet).trans (ite_keeps (p := (·.rd a)) (enforceAll_quiet _ _ ha.quiet))
    rw [showBridges_quiet _ _ ha.quiet, hdrive, hpd4, hemr]
    rfl

theorem enterMode_steady (mode : Nat) (v2l : Bool) (s : State) :
    (enterMode mode v2l s).sys.steady = { s.sys.steady with trans := none } := by
  obtain ⟨u, heq, hsys, -, -⟩ := enterMode_eq mode v2l s
  rw [heq, raise_sys, blankGrant_sys, hsys]

theorem enterMode_derated (mode : Nat) (v2l : Bool) (s : State) : (enterMode mode v2l s).sup.derated = s.sup.derated := by
  obtain ⟨u, heq, -, hsup, -⟩ := enterMode_eq mode v2l s
  have hgrant : (blankGrant u).sup = u.sup := sup_of_mask (K := { regs := true, fab := true }) rfl (blankGrant_mask rfl rfl u)
  rw [heq, raise_eq]
  exact (congrArg _ hgrant).trans hsup

theorem enterMode_modeStat (mode : Nat) (v2l : Bool) (s : State) :
    (enterMode mode v2l s).get F.MODE_STAT.MODE = mode % 8 ∧ (enterMode mode v2l s).get F.MODE_STAT.PREV_MODE = s.mode ∧
    (enterMode mode v2l s).get F.MODE_STAT.V2L = v2l.toNat ∧ (enterMode mode v2l s).get F.MODE_STAT.BUSY = 0 := by
  have hrd : (enterMode mode v2l s).rd (F.MODE_STAT.MODE.addr 0 0 0) = (modeWritten mode v2l s).rd (F.MODE_STAT.MODE.addr 0 0 0) := by
    obtain ⟨u, heq, -, -, hu⟩ := enterMode_eq mode v2l s
    rw [heq, raise_quiet _ _ _ (by decide) (by decide), blankGrant_rd (by decide) (by decide),
      hu _ (by decide) (by decide) (by decide)]
  obtain ⟨hmode, hprev, hv2l, hbusy⟩ := modeWritten_fields mode v2l s
  exact ⟨(State.get_of_rd hrd).trans hmode, (State.get_of_rd (f := F.MODE_STAT.PREV_MODE) hrd).trans hprev,
    (State.get_of_rd (f := F.MODE_STAT.V2L) hrd).trans hv2l, (State.get_of_rd (f := F.MODE_STAT.BUSY) hrd).trans hbusy⟩

/-- In a mode other than START, READY, SAFE and SERVICE the debug level stays (R500). -/
theorem enterMode_dbgLevel {mode : Nat} (hmode : [1, 2, 6, 7].contains (mode % 8) = false) (v2l : Bool) (s : State) :
    (enterMode mode v2l s).dbgLevel = s.dbgLevel := by
  obtain ⟨u, heq, -, -, hu⟩ := enterMode_eq mode v2l s
  have hget : u.get F.MODE_STAT.MODE = mode % 8 :=
    (State.get_of_rd (hu _ (by decide) (by decide) (by decide))).trans (modeWritten_fields mode v2l s).1
  have hgrant : blankGrant u = u := by
    refine if_neg ?_
    rcases u.mode_cases with h | h
    · simp [h]
    · rw [h, hget, hmode]
      simp
  have hrd : (enterMode mode v2l s).rd (F.DBG_STAT.LEVEL.addr 0 0 0) = s.rd (F.DBG_STAT.LEVEL.addr 0 0 0) := by
    rw [heq, hgrant, raise_quiet _ _ _ (by decide) (by decide), hu _ (by decide) (by decide) (by decide), modeWritten, State.setB]
    iterate 4 rw [set_quiet _ _ _ _ _ _ _ (by decide)]
  exact State.get_of_rd hrd

end Sys2Proof.Machine

/-! Requests for a mode and their completion (02_modes_power_start.md R40 to R47, R50, R70, R71): the branches of `modeRequest`, what
a refusal and an acceptance do, and O38. -/

namespace Sys2Proof.Machine
open Sys2Proof

/-! ### Frames -/

/-- Every part but Ember's and the last bus answer. -/
abbrev Parts.die : Parts :=
  { regs := true, mem := true, sys := true, fab := true, afe := true, hk := true, whl := true, pwm := true, cnv := true, fly := true
    kln := true, spx := true, sup := true, act := true, thm := true, chg := true, tnd := true, upd := true, bus := true, xcp := true
    olt := true }

/-- Every part but Ember's. -/
abbrev Parts.dieAndAnswer : Parts := { Parts.die with resp := true }

theorem modeRequest_frame (m : Master) (key : BitVec 16) (target : Nat) (v2l cleared : Bool) (s : State) :
    OnlyChanges .dieAndAnswer s (modeRequest m key target v2l cleared s) :=
  modeRequest_mask rfl rfl rfl rfl rfl rfl rfl rfl rfl rfl rfl rfl rfl rfl rfl rfl rfl rfl rfl rfl rfl rfl _ _ _ _ _ _

theorem enterMode_frame (mode : Nat) (v2l : Bool) (s : State) : OnlyChanges .die s (enterMode mode v2l s) :=
  enterMode_mask rfl rfl rfl rfl rfl rfl rfl rfl rfl rfl rfl rfl rfl rfl rfl rfl rfl rfl rfl rfl rfl _ _ _

/-! ### Refusal (R45) -/

theorem raise_regs_of_fabricEvent {n : Nat} (h : fabricEvent n = true) (s : State) : (raise n s).regs = s.regs := by
  unfold raise countOvr
  simp only [h, if_true]
  split
  · split <;> rfl
  · rfl

/-- The write of MODE_REQ is done and its request refused: the reason stands in MODE_STAT, no other register changes, and nothing of
the system part. -/
def RequestRefused (s t : State) (reason : Nat) : Prop :=
  t.get F.MODE_STAT.REFUSE_REASON = reason ∧ t.sys = s.sys ∧ t.resp = .done ∧ RegsOnly [F.MODE_STAT.MODE.addr 0 0 0] s t

theorem refuse_refused {reason : Nat} (hr : reason < 16) (s : State) : RequestRefused s (refuse reason (s.answer .done)) reason := by
  have hregs := raise_regs_of_fabricEvent (n := 1) (by decide) ((s.answer .done).set F.MODE_STAT.REFUSE_REASON reason)
  refine ⟨?_, raise_sys _ _, ?_, fun a ha => ?_⟩
  · rw [refuse, State.get_of_regs hregs, State.get_set_self _ _ _ _ _ _ (by decide) (by decide)]
    exact Nat.mod_eq_of_lt hr
  · exact resp_of_mask (K := { regs := true, fab := true }) rfl (refuse_mask rfl rfl reason (s.answer .done))
  · rw [refuse, State.rd_of_regs hregs]
    exact set_quiet _ _ _ _ _ _ _ (List.ne_of_not_mem_cons ha)

/-- The reasons of the table of conditions fit their field. -/
theorem firstReason_mem {l : List (Bool × Nat)} {r : Nat} (h : firstReason l = some r) : ∃ e ∈ l, e.2 = r := by
  obtain ⟨e, he, hr⟩ := Option.map_eq_some_iff.mp h
  exact ⟨e, List.mem_of_find?_eq_some he, hr⟩

theorem requestable_drive {s : State} (h : requestable s 3 = true) : s.mode = 2 := by
  unfold requestable at h
  split at h <;> simp_all

theorem conditions_drive {s : State} {r : Nat} (hmode : s.mode = 2) (h : conditions s 3 true = some r) : r < 16 := by
  simp only [conditions, hmode] at h
  obtain ⟨e, he, hr⟩ := firstReason_mem h
  simp only [List.mem_cons, List.not_mem_nil, or_false] at he
  rcases he with rfl | rfl | rfl | rfl <;> simp at hr <;> omega

/-! ### The branches of a request -/

section
variable {s : State} {m : Master} {key : BitVec 16} {target : Nat} {v2l cleared : Bool}

theorem modeRequest_of_denied (h : s.regWriter m = false) : modeRequest m key target v2l cleared s = busError s := by
  simp [modeRequest, h]

/-- The master may write MODE_REQ, PD8 is ready, and it is the pair that may ask. -/
def MayAsk (s : State) (m : Master) : Prop := s.regWriter m = true ∧ s.pdReady 8 = true ∧ m = .pair s.sys.cfg.modePair

/-- Such a request with the key, while none is in progress and no online test runs. -/
def Asks (s : State) (m : Master) (key : BitVec 16) : Prop :=
  MayAsk s m ∧ key = 0xC3A5 ∧ s.getB F.MODE_STAT.BUSY = false ∧ s.olt.test = none

/-- The request switches the V2L sub-state of CHARGE (R46). -/
def togglesV2l (s : State) (target : Nat) (v2l : Bool) : Bool := s.mode == 4 && target == 4 && s.getB F.MODE_STAT.V2L != v2l

theorem modeRequest_of_stranger (hw : s.regWriter m = true) (hp : s.pdReady 8 = true) (hm : m ≠ .pair s.sys.cfg.modePair) :
    modeRequest m key target v2l cleared s = refuse 10 (s.answer .done) := by
  simp [modeRequest, hw, hp, hm]

theorem modeRequest_of_wrong_key (h : MayAsk s m) (hkey : key ≠ 0xC3A5) :
    modeRequest m key target v2l cleared s = refuse 12 (s.answer .done) := by
  obtain ⟨hw, hp, rfl⟩ := h
  simp [modeRequest, hw, hp, show key ≠ 50085#16 from hkey]

theorem modeRequest_of_busy (h : MayAsk s m) (hbusy : s.getB F.MODE_STAT.BUSY = true) :
    modeRequest m 0xC3A5 target v2l cleared s = refuse 2 (s.answer .done) := by
  obtain ⟨hw, hp, rfl⟩ := h
  have hbusy : (s.answer .done).getB F.MODE_STAT.BUSY = true := hbusy
  simp [modeRequest, hw, hp, hbusy]

theorem modeRequest_of_dormant (h : Asks s m key) (hd : dormantAllowed s = true) :
    modeRequest m key 0 v2l cleared s = dormantBegin (s.answer .done) := by
  obtain ⟨⟨hw, hp, rfl⟩, rfl, hbusy, htest⟩ := h
  have hbusy : (s.answer .done).getB F.MODE_STAT.BUSY = false := hbusy
  have hd : dormantAllowed (s.answer .done) = true := hd
  simp [modeRequest, accept, hw, hp, hbusy, hd, htest]

/-- Behind the tests of the asker, a request for another mode than DORMANT is judged by the table of modes and its conditions. -/
theorem modeRequest_of_asks (h : Asks s m key) (ht : target ≠ 0) : modeRequest m key target v2l cleared s =
    if togglesV2l s target v2l || (requestable s target && !v2l) then
      match conditions s target cleared with
      | some r => refuse r (s.answer .done)
      | none => accept target v2l (s.answer .done)
    else refuse 1 (s.answer .done) := by
  obtain ⟨⟨hw, hp, rfl⟩, rfl, hbusy, htest⟩ := h
  have hbusy : (s.answer .done).getB F.MODE_STAT.BUSY = false := hbusy
  have htog : ((s.answer .done).mode == 4 && target == 4 && (s.answer .done).getB F.MODE_STAT.V2L != v2l) = togglesV2l s target v2l := rfl
  have hreq : requestable (s.answer .done) target = requestable s target := rfl
  have hcond : conditions (s.answer .done) target cleared = conditions s target cleared := rfl
  simp only [modeRequest, hw, hp, Bool.not_true, Bool.or_self, Bool.false_eq_true, if_false, State.answer_sys, ne_eq, not_true_eq_false,
    hbusy, ht, htog, hreq, hcond, State.answer_olt, htest, Option.isSome_none]
  cases togglesV2l s target v2l || (requestable s target && !v2l) <;> rfl

theorem modeRequest_of_not_requestable (h : Asks s m key) (ht : target ≠ 0) (hv : v2l = false) (htog : togglesV2l s target false = false)
    (hreq : requestable s target = false) : modeRequest m key target v2l cleared s = refuse 1 (s.answer .done) := by
  subst hv
  simp [modeRequest_of_asks h ht, htog, hreq]

theorem modeRequest_of_condition {r : Nat} (h : Asks s m key) (ht : target ≠ 0) (hreq : requestable s target = true)
    (hcond : conditions s target cleared = some r) : modeRequest m key target false cleared s = refuse r (s.answer .done) := by
  simp [modeRequest_of_asks h ht, hreq, hcond]

theorem modeRequest_of_fits (h : Asks s m key) (ht : target ≠ 0) (hreq : requestable s target = true)
    (hcond : conditions s target cleared = none) : modeRequest m key target false cleared s = accept target false (s.answer .done) := by
  simp [modeRequest_of_asks h ht, hreq, hcond]

theorem modeRequest_of_v2l (h : Asks s m key) (hmode : s.mode = 4) (hv : s.getB F.MODE_STAT.V2L = false)
    (hcond : conditions s 4 cleared = none) : modeRequest m key 4 true cleared s = accept 4 true (s.answer .done) := by
  simp [modeRequest_of_asks h, togglesV2l, hmode, hv, hcond]

end

/-! ### The fall of the debug level (R500) -/

theorem resumePair_rd {a : Nat} {p : Nat} (ha : a ≠ F.SPX_STAT.STATE.addr p 0 0) (s : State) : (resumePair p s).rd a = s.rd a :=
  ite_keeps (p := (·.rd a)) (set_quiet _ _ _ _ _ _ _ ha)

theorem releaseHalts_rd {a : Nat} (hq : Quiet a) (hh : a ≠ F.DBG_HALT.HALT.addr 0 0 0) (h0 : a ≠ F.SPX_STAT.STATE.addr 0 0 0)
    (h1 : a ≠ F.SPX_STAT.STATE.addr 1 0 0) (s : State) : (releaseHalts s).rd a = s.rd a := by
  unfold releaseHalts
  split
  · rfl
  · rw [raise_quiet _ _ _ (by decide) hq, set_quiet _ F.DBG_HALT.REEL_HALTED _ _ _ _ _ hh, set_quiet _ F.DBG_HALT.HALT_REEL _ _ _ _ _ hh,
      set_quiet _ F.DBG_HALT.HALTED _ _ _ _ _ hh, set_quiet _ _ _ _ _ _ _ hh, resumePair_rd h1, resumePair_rd h0]

theorem xcpEnd_rd {a : Nat} (hq : Quiet a) (s : State) : (xcpEnd s).rd a = s.rd a :=
  ite_keeps (p := (·.rd a)) ((raise_quiet _ _ _ (by decide) hq).trans rfl)

/-- What a revocation writes in DBG_STAT. -/
def levelWritten (cause level : Nat) (s : State) : State :=
  (((s.set F.DBG_STAT.LEVEL level).set F.DBG_STAT.LEFT 0).set F.DBG_STAT.REVOKED 1).set F.DBG_STAT.REVOKE_CAUSE cause

/-- A revocation writes DBG_STAT; besides it only DBG_HALT, the pairs' states and the event crossings. -/
theorem debugRevoke_rd {a : Nat} (hq : Quiet a) (hh : a ≠ F.DBG_HALT.HALT.addr 0 0 0) (h0 : a ≠ F.SPX_STAT.STATE.addr 0 0 0)
    (h1 : a ≠ F.SPX_STAT.STATE.addr 1 0 0) (cause level : Nat) (s : State) : (debugRevoke cause level s).rd a =
    if s.dbgLevel ≤ level then s.rd a else (levelWritten cause level s).rd a := by
  unfold debugRevoke
  split
  · rfl
  · dsimp only
    rw [raise_quiet _ _ _ (by decide) hq, xcpEnd_rd hq, releaseHalts_rd hq hh h0 h1]
    exact State.rd_with_tnd (levelWritten cause level s) _ _

/-- A revocation leaves the registers of the blocks SYSCTL and CLK alone. -/
theorem debugRevoke_rd_of_low {a : Nat} (ha : a < 0x30020000) (cause level : Nat) (s : State) :
    (debugRevoke cause level s).rd a = s.rd a := by
  have hne : ∀ b, 0x30020000 ≤ b → a ≠ b := fun b hb => by omega
  rw [debugRevoke_rd ⟨.inl ha, .inl (by omega)⟩ (hne _ (by decide)) (hne _ (by decide)) (hne _ (by decide)), levelWritten]
  refine ite_eq_left_iff.mpr fun _ => ?_
  rw [set_quiet _ _ _ _ _ _ _ (hne _ (by decide)), set_quiet _ _ _ _ _ _ _ (hne _ (by decide)),
    set_quiet _ _ _ _ _ _ _ (hne _ (by decide)), set_quiet _ _ _ _ _ _ _ (hne _ (by decide))]

theorem levelWritten_level (cause level : Nat) (s : State) : (levelWritten cause level s).get F.DBG_STAT.LEVEL = level % 4 := by
  simp (disch := decide) only [levelWritten, State.get_set_self, State.get_set_bits]
  rfl

/-- After a revocation the level is no higher than the one it falls to. -/
theorem debugRevoke_dbgLevel_le (cause : Nat) {level : Nat} (s : State) : (debugRevoke cause level s).dbgLevel ≤ level := by
  have hrd := debugRevoke_rd (a := F.DBG_STAT.LEVEL.addr 0 0 0) (by decide) (by decide) (by decide) (by decide) cause level s
  split at hrd
  · rwa [State.dbgLevel, State.get_of_rd hrd]
  · rw [State.dbgLevel, State.get_of_rd hrd, levelWritten_level]
    exact Nat.mod_le _ _

/-! ### Acceptance (R44, R47) -/

/-- The write of MODE_REQ is done and its request accepted: BUSY with its target; MODE stays (R45). -/
def RequestTaken (s t : State) (target : Nat) (v2l : Bool) : Prop :=
  t.sys.trans = some ⟨target, v2l⟩ ∧ t.get F.MODE_STAT.BUSY = 1 ∧ t.get F.MODE_STAT.MODE = s.get F.MODE_STAT.MODE ∧ t.resp = .done

/-- The state in which a request for a mode other than DORMANT and START has been noted, before debug levels are revoked. -/
def requestNoted (target : Nat) (v2l : Bool) (s : State) : State :=
  let u := if s.mode = 5 && target = 2 then { (s.set F.MODE_STAT.LIMP_LATCH 0) with sys := { s.sys with causes := [] } } else s
  { (u.set F.MODE_STAT.BUSY 1) with sys := { u.sys with trans := some ⟨target, v2l⟩ } }

theorem accept_of_waiting {target : Nat} (ht : 2 ≤ target) (v2l : Bool) (s : State) : accept target v2l s =
    if [3, 4, 5].contains target then debugRevoke 1 1 (requestNoted target v2l s) else requestNoted target v2l s := by
  unfold accept
  rw [if_neg (by omega), if_neg (by omega)]
  rfl

theorem requestNoted_regs (target : Nat) (v2l : Bool) (s : State) : (requestNoted target v2l s).regs =
    ((if s.mode = 5 && target = 2 then s.set F.MODE_STAT.LIMP_LATCH 0 else s).set F.MODE_STAT.BUSY 1).regs := by
  unfold requestNoted
  dsimp only
  split <;> rfl

theorem requestNoted_modeStat (target : Nat) (v2l : Bool) (s : State) : (requestNoted target v2l s).get F.MODE_STAT.BUSY = 1 ∧
    (requestNoted target v2l s).get F.MODE_STAT.MODE = s.get F.MODE_STAT.MODE := by
  rw [State.get_of_regs (requestNoted_regs target v2l s), State.get_of_regs (requestNoted_regs target v2l s)]
  constructor
  · rw [State.get_set_self _ _ _ _ _ _ (by decide) (by decide)]
    rfl
  · split <;> simp (disch := decide) only [State.get_set_bits]

/-- READY asked for from LIMP clears LIMP_LATCH and the class 2 causes (R43). -/
theorem requestNoted_from_limp {s : State} (hmode : s.mode = 5) (v2l : Bool) :
    (requestNoted 2 v2l s).get F.MODE_STAT.LIMP_LATCH = 0 ∧ (requestNoted 2 v2l s).sys.causes = [] := by
  constructor
  · rw [State.get_of_regs (requestNoted_regs 2 v2l s), hmode]
    simp (disch := decide) only [decide_true, Bool.and_self, if_true, State.get_set_bits, State.get_set_self]
    rfl
  · simp [requestNoted, hmode]

theorem requestNoted_dbgLevel (target : Nat) (v2l : Bool) (s : State) : (requestNoted target v2l s).dbgLevel = s.dbgLevel := by
  rw [State.dbgLevel, State.get_of_regs (requestNoted_regs target v2l s), State.get_set_addr _ _ _ _ _ _ _ _ _ _ (by decide)]
  split
  · exact State.get_set_addr _ _ _ _ _ _ _ _ _ _ (by decide)
  · rfl

theorem accept_resp (target : Nat) (v2l : Bool) (s : State) : (accept target v2l s).resp = s.resp :=
  resp_of_mask (K := .die) rfl (accept_mask rfl rfl rfl rfl rfl rfl rfl rfl rfl rfl rfl rfl rfl rfl rfl rfl rfl rfl rfl rfl rfl _ _ _)

/-- An accepted request for a mode other than DORMANT and START waits. -/
theorem accept_taken {target : Nat} (ht : 2 ≤ target) (v2l : Bool) (s : State) :
    RequestTaken s (accept target v2l (s.answer .done)) target v2l := by
  have hsys : (accept target v2l (s.answer .done)).sys = (requestNoted target v2l (s.answer .done)).sys := by
    rw [accept_of_waiting ht]
    exact ite_keeps (p := (·.sys)) (debugRevoke_sys _ _ _)
  have hrd : (accept target v2l (s.answer .done)).rd (F.MODE_STAT.MODE.addr 0 0 0) =
      (requestNoted target v2l (s.answer .done)).rd (F.MODE_STAT.MODE.addr 0 0 0) := by
    rw [accept_of_waiting ht]
    exact ite_keeps (p := (·.rd _)) (debugRevoke_rd_of_low (by decide) _ _ _)
  obtain ⟨hbusy, hmode⟩ := requestNoted_modeStat target v2l (s.answer .done)
  exact ⟨by rw [hsys]; rfl, (State.get_of_rd (f := F.MODE_STAT.BUSY) hrd).trans hbusy, (State.get_of_rd hrd).trans hmode,
    accept_resp _ _ _⟩

/-- Accepting DRIVE, CHARGE or LIMP revokes L2 and L3. -/
theorem accept_revokes {target : Nat} (ht : [3, 4, 5].contains target = true) (v2l : Bool) (s : State) :
    (accept target v2l s).dbgLevel ≤ 1 := by
  have hge : 2 ≤ target := by
    simp only [List.contains_eq_mem, List.mem_cons, List.not_mem_nil, or_false, decide_eq_true_eq] at ht
    omega
  rw [accept_of_waiting hge, if_pos ht]
  exact debugRevoke_dbgLevel_le _ _

/-- DORMANT entry begins at once: BUSY, and the domains fall in this order (R71). -/
theorem dormantBegin_begins (s : State) : (dormantBegin s).sys.phase = .dormantEntry ∧ (dormantBegin s).sys.trans = none ∧
    (dormantBegin s).get F.MODE_STAT.BUSY = 1 ∧ (dormantBegin s).sys.offSeq = [7, 6, 5, 4, 3, 2, 10, 9, 1, 8] ∧
    (dormantBegin s).resp = s.resp := by
  have hbusy : ∀ (u : State) x, State.get { (u.set F.MODE_STAT.BUSY 1).set F.EMB_STAT.MORE 0 with sys := x } F.MODE_STAT.BUSY = 1 :=
    fun u x => by
      rw [State.get_with_sys, State.get_set_addr _ _ _ _ _ _ _ _ _ _ (by decide), State.get_set_self _ _ _ _ _ _ (by decide) (by decide)]
      rfl
  exact ⟨rfl, rfl, hbusy _ _, rfl,
    resp_of_mask (K := { regs := true, mem := true, sys := true }) rfl (dormantBegin_mask rfl rfl rfl s)⟩

/-- A restart begins at once: PD1 to PD10 off, and a start of kind 2 (R50, R590). -/
theorem restart_begins (s : State) : (restart s).sys.phase = .supplies ∧ (restart s).sys.released = false ∧ (restart s).sys.trans = none ∧
    (restart s).get F.START_LOG.KIND = 2 ∧ (∀ d, 0 < d → (restart s).pdOn d = false) ∧ (restart s).resp = s.resp := by
  refine ⟨rfl, rfl, rfl, startBegin_kind 2 _, fun d hd => ?_, ?_⟩
  · have hrd : (restart s).rd (F.PD_STAT.ON.addr 0 0 0) = (allOff (debugRevoke 6 0 s)).rd (F.PD_STAT.ON.addr 0 0 0) :=
      startBegin_regsOnly _ _ _ (by decide)
    rw [State.pdOn_of_rd hd hrd, allOff_pdOn hd]
  · exact resp_of_mask (K := .die) rfl
      (restart_mask rfl rfl rfl rfl rfl rfl rfl rfl rfl rfl rfl rfl rfl rfl rfl rfl rfl rfl rfl rfl rfl _)

/-! ### Completion (R45, R501) -/

theorem execModeTransitionComplete_of_settled {s : State} {x : Trans} (hx : s.sys.trans = some x)
    (h : x.target = 3 ∨ x.target = 4 ∨ x.target = 5 → pairsSettled s = true) :
    execModeTransitionComplete s = .next (enterMode x.target x.v2l s) := by
  have hwait : ¬([3, 4, 5].contains x.target && !pairsSettled s) = true := by
    by_cases ht : x.target = 3 ∨ x.target = 4 ∨ x.target = 5
    · simp [h ht]
    · simpa using fun hm => absurd hm ht
  simp only [execModeTransitionComplete, hx]
  rw [if_neg hwait]

theorem execModeTransitionComplete_of_unsettled {s : State} {x : Trans} (hx : s.sys.trans = some x)
    (ht : x.target = 3 ∨ x.target = 4 ∨ x.target = 5) (h : pairsSettled s = false) : execModeTransitionComplete s = .next s := by
  simp only [execModeTransitionComplete, hx]
  rw [if_pos (by simp [h, ht])]

/-! ### Requests as they run -/

section
variable {s : State} {m : Master} {key : BitVec 16} {target : Nat} {cleared : Bool}

theorem modeRequest_taken (ha : Asks s m key) (ht : 2 ≤ target) (hreq : requestable s target = true)
    (hcond : conditions s target cleared = none) : RequestTaken s (modeRequest m key target false cleared s) target false := by
  rw [modeRequest_of_fits ha (by omega) hreq hcond]
  exact accept_taken ht false s

/-- A request for DRIVE, CHARGE or LIMP that is taken leaves no debug level above L1 (R500). -/
theorem modeRequest_taken_revokes (ha : Asks s m key) (ht : target = 3 ∨ target = 4 ∨ target = 5) (hreq : requestable s target = true)
    (hcond : conditions s target cleared = none) : RequestTaken s (modeRequest m key target false cleared s) target false ∧
    (modeRequest m key target false cleared s).dbgLevel ≤ 1 := by
  refine ⟨modeRequest_taken ha (by omega) hreq hcond, ?_⟩
  rw [modeRequest_of_fits ha (by omega) hreq hcond]
  exact accept_revokes (by simp [ht]) _ _

theorem modeRequest_refused {v2l : Bool} {reason : Nat} (hr : reason < 16)
    (heq : modeRequest m key target v2l cleared s = refuse reason (s.answer .done)) :
    RequestRefused s (modeRequest m key target v2l cleared s) reason := by
  rw [heq]
  exact refuse_refused hr s

end

/-- Settles O38: each request is one of the branches of `modeRequest`, and a transition ends in `enterMode`. -/
theorem modeRequests : Obligations.ModeRequests := by
  intro s m key cleared x d may ask fits taken refused
  refine ⟨?ready, ?drive, ?charge, ?v2l, ?limp, ?service, ?safe, ?dormant, ?restart, ?stranger, ?wrongKey, ?busy, ?notInTable, ?condition,
    ?denied, ?complete, ?unsettled⟩
  case ready =>
    intro ha hreq hcond
    refine ⟨_, rfl, modeRequest_taken ha (by decide) hreq hcond, fun hmode => ?_, modeRequest_frame _ _ _ _ _ _⟩
    rw [modeRequest_of_fits ha (by decide) hreq hcond, accept_of_waiting (by decide), if_neg (by decide)]
    exact requestNoted_from_limp (s := s.answer .done) hmode false
  case drive =>
    intro ha hfits
    obtain ⟨htaken, hlevel⟩ := modeRequest_taken_revokes ha (by decide) hfits.1 hfits.2
    exact ⟨_, rfl, htaken, hlevel, modeRequest_frame _ _ _ _ _ _⟩
  case charge =>
    intro ha hfits
    obtain ⟨htaken, hlevel⟩ := modeRequest_taken_revokes ha (by decide) hfits.1 hfits.2
    exact ⟨_, rfl, htaken, hlevel, modeRequest_frame _ _ _ _ _ _⟩
  case v2l =>
    intro ha hmode hv hcond
    refine ⟨_, rfl, ?_, modeRequest_frame _ _ _ _ _ _⟩
    rw [modeRequest_of_v2l ha hmode hv hcond]
    exact accept_taken (by decide) true s
  case limp =>
    intro ha hfits
    obtain ⟨htaken, hlevel⟩ := modeRequest_taken_revokes ha (by decide) hfits.1 hfits.2
    exact ⟨_, rfl, htaken, hlevel, modeRequest_frame _ _ _ _ _ _⟩
  case service =>
    intro ha hfits
    refine ⟨_, rfl, modeRequest_taken ha (by decide) hfits.1 hfits.2, ?_, modeRequest_frame _ _ _ _ _ _⟩
    rw [modeRequest_of_fits ha (by decide) hfits.1 hfits.2, accept_of_waiting (by decide), if_neg (by decide)]
    exact requestNoted_dbgLevel 7 false (s.answer .done)
  case safe =>
    intro ha
    have hreq : requestable s 6 = false := by
      unfold requestable
      split <;> simp_all
    have htog : togglesV2l s 6 false = false := by simp [togglesV2l]
    exact ⟨_, rfl, modeRequest_refused (by decide) (modeRequest_of_not_requestable ha (by decide) rfl htog hreq),
      modeRequest_frame _ _ _ _ _ _⟩
  case dormant =>
    intro ha hd
    have heq : modeRequest m key 0 false true s = dormantBegin (s.answer .done) := modeRequest_of_dormant ha hd
    obtain ⟨hphase, htrans, hbusy, hoff, hresp⟩ := dormantBegin_begins (s.answer .done)
    exact ⟨_, congrArg Host.Outcome.next heq, hphase, htrans, hbusy, hoff, hresp, heq ▸ modeRequest_frame _ _ _ _ _ _⟩
  case restart =>
    intro ha hfits
    have heq : modeRequest m key 1 false true s = restart (s.answer .done) := modeRequest_of_fits ha (by decide) hfits.1 hfits.2
    obtain ⟨hphase, hrel, htrans, hkind, hpd, hresp⟩ := restart_begins (s.answer .done)
    exact ⟨_, congrArg Host.Outcome.next heq, hphase, hrel, htrans, hkind, hpd _, hresp, heq ▸ modeRequest_frame _ _ _ _ _ _⟩
  case stranger =>
    intro hw hp hm
    exact ⟨_, rfl, modeRequest_refused (by decide) (modeRequest_of_stranger hw hp hm), modeRequest_frame _ _ _ _ _ _⟩
  case wrongKey =>
    intro hmay hkey
    exact ⟨_, rfl, modeRequest_refused (by decide) (modeRequest_of_wrong_key hmay hkey), modeRequest_frame _ _ _ _ _ _⟩
  case busy =>
    rintro hmay rfl hbusy
    exact ⟨_, rfl, modeRequest_refused (by decide) (modeRequest_of_busy hmay hbusy), modeRequest_frame _ _ _ _ _ _⟩
  case notInTable =>
    intro ha hreq
    have htog : togglesV2l s 3 false = false := by simp [togglesV2l]
    exact ⟨_, rfl, modeRequest_refused (by decide) (modeRequest_of_not_requestable ha (by decide) rfl htog hreq),
      modeRequest_frame _ _ _ _ _ _⟩
  case condition =>
    intro r ha hreq hcond
    have hr := conditions_drive (requestable_drive hreq) hcond
    exact ⟨_, rfl, modeRequest_refused hr (modeRequest_of_condition ha (by decide) hreq hcond), modeRequest_frame _ _ _ _ _ _⟩
  case denied => exact fun hw => ⟨_, rfl, modeRequest_of_denied hw⟩
  case complete =>
    intro hx hsettled
    obtain ⟨hmode, hprev, hv2l, hbusy⟩ := enterMode_modeStat x.target x.v2l s
    have htrans : (enterMode x.target x.v2l s).sys.trans = none := congrArg SysSt.trans (enterMode_steady x.target x.v2l s)
    exact ⟨_, execModeTransitionComplete_of_settled hx hsettled, hmode, hprev, hv2l, hbusy, htrans, enterMode_frame _ _ _⟩
  case unsettled => exact fun hx ht hunsettled => ⟨_, execModeTransitionComplete_of_unsettled hx ht hunsettled, rfl⟩

end Sys2Proof.Machine

/-! Imposed transitions (02_modes_power_start.md R41 to R43) and the die-to-die link (01_architecture.md R24 to R26): what SAFE and LIMP
leave in MODE_STAT and in the system part, what a link loss and a frame do, and O39. -/

namespace Sys2Proof.Machine
open Sys2Proof

/-! ### What a transition drops first (R42, R43, R567) -/

theorem dropRequest_sys (reason : Nat) (s : State) : (dropRequest reason s).sys = { s.sys with trans := none } := by
  unfold dropRequest
  split
  · next h => rw [← h]
  · exact raise_sys _ _

theorem dropRequest_sup (reason : Nat) (s : State) : (dropRequest reason s).sup = s.sup :=
  sup_of_mask (K := { regs := true, sys := true, fab := true }) rfl (dropRequest_mask rfl rfl rfl reason s)

/-- Dropping a request writes BUSY and REFUSE_REASON of MODE_STAT alone. -/
theorem dropRequest_get {f : Fld} (hle : f.lo ≤ f.hi) (hbusy : f.hi < 9 ∨ 9 < f.lo) (hreason : f.hi < 12 ∨ 15 < f.lo) (reason : Nat)
    (s : State) (i j k : Nat) : (dropRequest reason s).get f i j k = s.get f i j k := by
  unfold dropRequest
  split
  · rfl
  · rw [refuse, State.get_of_regs (raise_regs_of_fabricEvent (by decide) _),
      State.get_set_bits _ _ _ _ _ _ _ _ _ _ (by decide) (by decide) hreason hle, State.get_with_sys,
      State.get_set_bits _ _ _ _ _ _ _ _ _ _ (by decide) (by decide) hbusy hle]

theorem oltAbort_sys (s : State) : (oltAbort s).sys = s.sys :=
  sys_of_mask (K := { regs := true, fab := true, olt := true }) rfl (oltAbort_mask rfl rfl rfl s)

theorem oltAbort_sup (s : State) : (oltAbort s).sup = s.sup :=
  sup_of_mask (K := { regs := true, fab := true, olt := true }) rfl (oltAbort_mask rfl rfl rfl s)

theorem oltAbort_rd_of_low {a : Nat} (ha : a < 0x30020000) (s : State) : (oltAbort s).rd a = s.rd a := by
  have hq : Quiet a := ⟨.inl ha, .inl (by omega)⟩
  have hset : ∀ (t : State) (f : Fld) v p, 0x30020000 ≤ f.base → (t.set f v p).rd a = t.rd a := fun t f v p hf =>
    set_quiet _ _ _ _ _ _ _ (by simp only [Fld.addr]; omega)
  unfold oltAbort
  split
  · rw [raise_quiet _ _ _ (by decide) hq, hset _ _ _ _ (by decide), hset _ _ _ _ (by decide), hset _ _ _ _ (by decide)]
    rfl
  · rw [raise_quiet _ _ _ (by decide) hq, hset _ _ _ _ (by decide), hset _ _ _ _ (by decide)]
    rfl
  · rw [raise_quiet _ _ _ (by decide) hq, hset _ _ _ _ (by decide), hset _ _ _ _ (by decide)]
    rfl
  · rfl

/-! ### SAFE (R41) -/

theorem cnvImposed_sup (mode code cls : Nat) (s : State) : (cnvImposed mode code cls s).sup = s.sup :=
  sup_of_mask (K := { regs := true, fab := true, pwm := true, cnv := true, act := true }) rfl
    (cnvImposed_mask rfl rfl rfl rfl rfl mode code cls s)

theorem safeReaction_sup (code cls : Nat) (s : State) : (safeReaction code cls s).sup = s.sup :=
  sup_of_mask (K := { regs := true, sys := true, fab := true, pwm := true, cnv := true, kln := true, act := true }) rfl
    (safeReaction_mask rfl rfl rfl rfl rfl rfl rfl code cls s)

/-- SAFE with its class: the mode is entered, unless it is the present one, from a state in which the class is noted and no request
is left; what stops the stages then touches neither MODE_STAT nor what stays of the system part under fault codes. -/
theorem imposeSafe_eq (top : React) (rs : List React) (s : State) : ∃ w,
    (w.sys.safeCls = max s.sys.safeCls top.cls ∧ w.sys.trans = none ∧ w.mode = s.mode ∧ w.sup = s.sup) ∧
    let v := if s.mode = 6 then w else enterMode 6 false w
    (imposeSafe top rs s).sys.codeless = v.sys.codeless ∧ (imposeSafe top rs s).sup = v.sup ∧
    ∀ a, Aloof a → (imposeSafe top rs s).rd a = v.rd a := by
  unfold imposeSafe
  extract_lets safe was x s1 s2 s3 s4 s5
  have hs2 : s2.sys = { s1.sys with trans := none } := (oltAbort_sys _).trans (dropRequest_sys _ _)
  have hmode : s2.mode = s.mode := by
    refine (State.mode_congr (s := s1) (by rw [hs2]) ?_).trans rfl
    exact (State.get_of_rd (oltAbort_rd_of_low (by decide) _)).trans (dropRequest_get (by decide) (by decide) (by decide) _ _ _ _ _)
  refine ⟨s2, ⟨by rw [hs2], by rw [hs2], hmode, (oltAbort_sup _).trans (dropRequest_sup _ _)⟩, ?_, ?_, fun a ha => ?_⟩
  · have hcnv : s5.sys = s4.sys := ite_keeps (p := (·.sys)) (cnvImposed_sys _ _ _ _)
    rw [kilnDrive_sys, showBridges_sys, ite_keeps (p := (·.sys)) (enforceAll_sys _), hcnv]
    exact safeReaction_codeless _ _ s3
  · have hcnv : s5.sup = s4.sup := ite_keeps (p := (·.sup)) (cnvImposed_sup _ _ _ _)
    rw [kilnDrive_sup, showBridges_sup, ite_keeps (p := (·.sup)) (enforceAll_sup _), hcnv]
    exact safeReaction_sup _ _ s3
  · have hcnv : s5.rd a = s4.rd a := ite_keeps (p := (·.rd a)) (cnvImposed_aloof ha _ _ _ _)
    rw [kilnDrive_quiet _ _ ha.quiet, showBridges_quiet _ _ ha.quiet, ite_keeps (p := (·.rd a)) (enforceAll_quiet _ _ ha.quiet), hcnv]
    exact safeReaction_aloof ha _ _ s3

theorem imposeSafe_imposes (top : React) (rs : List React) (s : State) : (imposeSafe top rs s).get F.MODE_STAT.MODE = 6 ∧
    (imposeSafe top rs s).sys.safeCls = max s.sys.safeCls top.cls ∧ (imposeSafe top rs s).sys.trans = none ∧
    (imposeSafe top rs s).sup.derated = s.sup.derated ∧ (s.mode ≠ 6 → (imposeSafe top rs s).get F.MODE_STAT.PREV_MODE = s.mode) := by
  obtain ⟨w, ⟨hcls, htrans, hmode, hsup⟩, hsys, hsup', hrd⟩ := imposeSafe_eq top rs s
  have hstat := hrd (F.MODE_STAT.MODE.addr 0 0 0) (by decide)
  have hprev := State.get_of_rd (f := F.MODE_STAT.PREV_MODE) hstat
  rw [State.get_of_rd hstat, hsup', hprev]
  by_cases h6 : s.mode = 6
  · simp only [if_pos h6] at hsys ⊢
    refine ⟨?_, (congrArg SysSt.safeCls hsys).trans hcls, (congrArg SysSt.trans hsys).trans htrans, congrArg _ hsup,
      fun hne => absurd h6 hne⟩
    rw [State.mode_eq_get (by omega), hmode, h6]
  · simp only [if_neg h6] at hsys ⊢
    obtain ⟨hm, hp, -, -⟩ := enterMode_modeStat 6 false w
    have hsteady := (SysSt.steady_of_codeless hsys).trans (enterMode_steady 6 false w)
    exact ⟨hm, (congrArg SysSt.safeCls hsteady).trans hcls, congrArg SysSt.trans hsteady,
      (enterMode_derated _ _ _).trans (congrArg _ hsup), fun _ => hp.trans hmode⟩

/-! ### LIMP (R43) -/

/-- The class 2 causes are noted. -/
def causesNoted (rs : List React) (s : State) : State :=
  { s with sys := { s.sys with causes := s.sys.causes ++ rs.filter (fun r => r.cls == 2) } }

/-- From DRIVE and CHARGE a class 2 reaction imposes LIMP: L2 and L3 are revoked and no request is left. -/
theorem imposeLimp_imposes (rs : List React) {s : State} (hmode : s.mode = 3 ∨ s.mode = 4) :
    (imposeLimp rs s).get F.MODE_STAT.MODE = 5 ∧ (imposeLimp rs s).get F.MODE_STAT.PREV_MODE = s.mode ∧
    (imposeLimp rs s).sys.causes = s.sys.causes ++ rs.filter (fun r => r.cls == 2) ∧ (imposeLimp rs s).dbgLevel ≤ 1 := by
  let w := debugRevoke 1 1 (dropRequest 2 (causesNoted rs s))
  let u := enterMode 5 false w
  have hw : w.sys = { (causesNoted rs s).sys with trans := none } := (debugRevoke_sys _ _ _).trans (dropRequest_sys _ _)
  have hwmode : w.mode = s.mode := by
    refine (State.mode_congr (s := causesNoted rs s) (by rw [hw]) ?_).trans rfl
    exact (State.get_of_rd (debugRevoke_rd_of_low (by decide) _ _ _)).trans (dropRequest_get (by decide) (by decide) (by decide) _ _ _ _ _)
  have hsys : (imposeLimp rs s).sys = u.sys := by
    unfold imposeLimp
    rcases hmode with h | h <;> simp only [h] <;>
      exact (ite_keeps (p := (·.sys)) (enforceAll_sys _)).trans (ite_keeps (p := (·.sys)) (cnvImposed_sys _ _ _ _))
  have hrd : ∀ a, Aloof a → (imposeLimp rs s).rd a = u.rd a := fun a ha => by
    unfold imposeLimp
    rcases hmode with h | h <;> simp only [h] <;>
      exact (ite_keeps (p := (·.rd a)) (enforceAll_quiet _ _ ha.quiet)).trans (ite_keeps (p := (·.rd a)) (cnvImposed_aloof ha _ _ _ _))
  obtain ⟨hm, hp, -, -⟩ := enterMode_modeStat 5 false w
  refine ⟨(State.get_of_rd (hrd _ (by decide))).trans hm, ((State.get_of_rd (hrd _ (by decide))).trans hp).trans hwmode, ?_, ?_⟩
  · rw [hsys]
    exact (congrArg SysSt.causes (enterMode_steady 5 false w)).trans (congrArg SysSt.causes hw)
  · rw [State.dbgLevel, State.get_of_rd (hrd _ (by decide))]
    exact (enterMode_dbgLevel (by decide) _ _).trans_le (debugRevoke_dbgLevel_le _ _)

/-- In START, READY and SERVICE with no request in progress it is latched. -/
theorem imposeLimp_latches (rs : List React) {s : State} (hmode : s.mode = 1 ∨ s.mode = 2 ∨ s.mode = 7) (htrans : s.sys.trans = none) :
    imposeLimp rs s = (causesNoted rs s).set F.MODE_STAT.LIMP_LATCH 1 := by
  have hdrop : ∀ f : Trans → State, (match s.sys.trans with | some t => f t | none => (causesNoted rs s).set F.MODE_STAT.LIMP_LATCH 1) =
      (causesNoted rs s).set F.MODE_STAT.LIMP_LATCH 1 := fun f => by rw [htrans]
  unfold imposeLimp
  rcases hmode with h | h | h <;> simp only [h] <;> exact hdrop _

/-! ### The reactions act (R41 to R43) -/

/-- The state in which the reactions that waited have been heard, the highest being `top`. -/
def reactsHeard (top : React) (s : State) : State :=
  { s with sys := { s.sys with reacts := [] }, sup := { s.sup with derated := s.sup.derated || decide (1 ≤ top.cls) } }

section
variable {s : State} {top : React}

theorem execImposedTransition_of_top (h : topReact (s.sys.reacts.filter fun r => imposes s r.cls) = some top) : execImposedTransition s = .next
    (if 3 ≤ top.cls then imposeSafe top (s.sys.reacts.filter fun r => imposes s r.cls) (reactsHeard top s)
      else if top.cls = 2 then imposeLimp (s.sys.reacts.filter fun r => imposes s r.cls) (reactsHeard top s) else reactsHeard top s) := by
  simp only [execImposedTransition, h]
  rfl

theorem execImposedTransition_of_safe (h : topReact (s.sys.reacts.filter fun r => imposes s r.cls) = some top) (hcls : 3 ≤ top.cls) :
    execImposedTransition s =
      .next (imposeSafe top (s.sys.reacts.filter fun r => imposes s r.cls) (reactsHeard top s)) := by
  rw [execImposedTransition_of_top h, if_pos hcls]

theorem execImposedTransition_of_limp (h : topReact (s.sys.reacts.filter fun r => imposes s r.cls) = some top) (hcls : top.cls = 2) :
    execImposedTransition s = .next (imposeLimp (s.sys.reacts.filter fun r => imposes s r.cls) (reactsHeard top s)) := by
  rw [execImposedTransition_of_top h, if_neg (by omega), if_pos hcls]

theorem execImposedTransition_of_derating (h : topReact (s.sys.reacts.filter fun r => imposes s r.cls) = some top) (hcls : top.cls = 1) :
    execImposedTransition s = .next (reactsHeard top s) := by
  rw [execImposedTransition_of_top h, if_neg (by omega), if_neg (by omega)]

theorem execImposedTransition_of_none (h : topReact (s.sys.reacts.filter fun r => imposes s r.cls) = none) :
    execImposedTransition s = .next { s with sys := { s.sys with reacts := [] } } := by
  simp only [execImposedTransition, h]

theorem execImposedTransition_frame {t : State} (h : execImposedTransition s = .next t) : OnlyChanges .die s t :=
  execImposedTransition_mask rfl rfl rfl rfl rfl rfl rfl rfl rfl rfl rfl rfl rfl rfl rfl rfl rfl rfl rfl rfl rfl _ h

end

/-! ### The loss of the link (R24, R26) -/

theorem starting_congr {s t : State} (h : t.sys.phase = s.sys.phase) : starting t = starting s := by
  simp only [starting, h]

/-- The state in which the control die has noted the loss of the link. -/
def linkLossNoted (s : State) : State :=
  raise 7 ((({ s with sys := { s.sys with linkUp := false, linkLost := true, linkCrcRun := 0 } } : State).set F.D2D_STAT.LOST 1).set
    F.D2D_STAT.LINK_UP 0)

theorem linkLossNoted_sys (s : State) :
    (linkLossNoted s).sys = { s.sys with linkUp := false, linkLost := true, linkCrcRun := 0 } := raise_sys _ _

theorem linkLossNoted_d2dStat (s : State) :
    (linkLossNoted s).get F.D2D_STAT.LOST = 1 ∧ (linkLossNoted s).get F.D2D_STAT.LINK_UP = 0 := by
  have hregs := raise_regs_of_fabricEvent (n := 7) (by decide)
  constructor <;> rw [linkLossNoted, State.get_of_regs (hregs _)] <;>
    simp (disch := decide) only [State.get_set_self, State.get_set_bits] <;> rfl

/-- The converter channels stop as a link loss stops them (R26, R364). -/
def channelsStopped (cls : Nat) (s : State) : State :=
  [0, 1, 2].foldl (fun s c =>
    if chUsed s c && chActive s c then chStop c 0 2 (cnvAsh c 0x1101 cls (s.set F.CNV_CH_STAT.STOP_CAUSE 2 c)) else s) s

theorem channelsStopped_sys (cls : Nat) (s : State) : (channelsStopped cls s).sys = s.sys := by
  refine foldl_keeps (·.sys) _ _ (fun c _ s => ite_keeps (p := (·.sys)) ?_) s
  rw [chStop_sys, cnvAsh_sys, State.set_sys]

theorem channelsStopped_aloof {a : Nat} (ha : Aloof a) (cls : Nat) (s : State) : (channelsStopped cls s).rd a = s.rd a := by
  refine foldl_keeps (·.rd a) _ _ (fun c hc s => ite_keeps (p := (·.rd a)) ?_) s
  have hc : c < 3 := by
    simp only [List.mem_cons, List.not_mem_nil, or_false] at hc
    omega
  rw [chStop_aloof ha _ _ _ hc, cnvAsh_aloof ha, setChan_aloof ha _ _ _ _ (by decide) hc]

/-- Every actuator bridge goes to HIZ (R26). -/
def bridgesFloated (s : State) : State :=
  if s.pdReady 10 then (List.range 12).foldl (fun s b => bridgeModeWrite b 0 s) s else s

theorem bridgesFloated_sys (s : State) : (bridgesFloated s).sys = s.sys :=
  ite_keeps (p := (·.sys)) (foldl_keeps (·.sys) _ _ (fun b _ s => bridgeModeWrite_sys b 0 s) s)

theorem bridgesFloated_aloof {a : Nat} (ha : Aloof a) (s : State) : (bridgesFloated s).rd a = s.rd a :=
  ite_keeps (p := (·.rd a)) (foldl_keeps (·.rd a) _ _ (fun b hb s => bridgeModeWrite_aloof ha b 0 (List.mem_range.mp hb) s) s)

section
variable {s : State}

theorem linkLossControl_of_noted (hlost : s.sys.linkLost = false) (hon : s.pdOn 8 = true) : linkLossControl s =
    if starting (linkLossNoted s) then startFail 0x1101 (linkLossNoted s)
    else
      let cls := (entryOf (linkLossNoted s).sys.kilnTable 0).1
      let u := issue 0x1101 cls (linkLossNoted s)
      kilnDrive (bridgesFloated (channelsStopped cls (safeReaction 0x1101 3 { u with sys := { u.sys with dcdcHeld := true } }))) := by
  unfold linkLossControl
  rw [if_neg (by simp [hlost, hon])]
  rfl

/-- Before release the start fails. -/
theorem linkLossControl_of_starting (hlost : s.sys.linkLost = false) (hon : s.pdOn 8 = true) (hst : starting s = true) :
    linkLossControl s = startFail 0x1101 (linkLossNoted s) := by
  rw [linkLossControl_of_noted hlost hon]
  exact if_pos ((starting_congr (by rw [linkLossNoted_sys])).trans hst)

/-- After release every power stage of the control die stops: D2D_STAT stays as the loss wrote it, and of the system part only fault
codes and the hold of the HV-to-12 V converter come in addition. -/
theorem linkLossControl_of_released (hlost : s.sys.linkLost = false) (hon : s.pdOn 8 = true) (hst : starting s = false) :
    (linkLossControl s).sys.codeless = { (linkLossNoted s).sys.codeless with dcdcHeld := true } ∧
    ∀ a, Aloof a → (linkLossControl s).rd a = (linkLossNoted s).rd a := by
  have hst' : starting (linkLossNoted s) = false := (starting_congr (by rw [linkLossNoted_sys])).trans hst
  rw [linkLossControl_of_noted hlost hon, if_neg (by simp [hst'])]
  dsimp only
  constructor
  · rw [kilnDrive_sys, bridgesFloated_sys, channelsStopped_sys, safeReaction_codeless]
    exact congrArg (fun x : SysSt => { x with dcdcHeld := true }) (issueFor_codeless _ _ _ _)
  · intro a ha
    rw [kilnDrive_quiet _ _ ha.quiet, bridgesFloated_aloof ha, channelsStopped_aloof ha, safeReaction_aloof ha]
    exact issue_rd _ _ _ _

theorem linkLossControl_loses (hlost : s.sys.linkLost = false) (hon : s.pdOn 8 = true) (hst : starting s = false) :
    (linkLossControl s).sys.linkUp = false ∧ (linkLossControl s).sys.linkLost = true ∧ (linkLossControl s).sys.dcdcHeld = true ∧
    (linkLossControl s).get F.D2D_STAT.LOST = 1 ∧ (linkLossControl s).get F.D2D_STAT.LINK_UP = 0 := by
  obtain ⟨hsys, hrd⟩ := linkLossControl_of_released hlost hon hst
  obtain ⟨hl, hu⟩ := linkLossNoted_d2dStat s
  have hstat := hrd (F.D2D_STAT.LOST.addr 0 0 0) (by decide)
  rw [linkLossNoted_sys] at hsys
  exact ⟨congrArg SysSt.linkUp hsys, congrArg SysSt.linkLost hsys, congrArg SysSt.dcdcHeld hsys, (State.get_of_rd hstat).trans hl,
    (State.get_of_rd (f := F.D2D_STAT.LINK_UP) hstat).trans hu⟩

/-- A running Kiln notes the loss under its LINK_LOSS entry. -/
theorem linkLossKiln_of_running (hk : kilnRuns s = true) : (linkLossKiln s).sys.linkUp = false ∧
    (linkLossKiln s).kln.present.testBit 0 = true ∧ (linkLossKiln s).kln.crcRun = 0 := by
  let u : State := { s with sys := { s.sys with linkUp := false }, kln := { s.kln with crcRun := 0 } }
  have heq : linkLossKiln s = kilnDrive (kilnCond 0 true u) := if_pos hk
  rw [heq, kilnDrive_sys, kilnDrive_present, kilnDrive_crcRun, kilnCond_present, kilnCond_crcRun]
  exact ⟨congrArg SysSt.linkUp (kilnCond_codeless 0 true u), testBit_putBit_self _ _ _, rfl⟩

end

/-! ### Frames (R25) -/

section
variable {f : LinkFrame} {s : State}

theorem execLinkFrameReceive_of_good_frame (hdie : f.die = .control) (hok : f.crcOk = true) (hon : s.pdOn 8 = true) :
    execLinkFrameReceive f s = .next (linkFrameControl f s) := by
  simp [execLinkFrameReceive, hdie, hok, hon]

/-- The state in which a good frame has been counted as late, if it was, and ends the run of bad ones. -/
def frameNoted (f : LinkFrame) (s : State) : State :=
  let u := if f.late then s.set F.D2D_STAT.TOKEN_LATE (min (s.get F.D2D_STAT.TOKEN_LATE + 1) 255) else s
  { u with sys := { u.sys with linkCrcRun := 0, linkLost := false } }

theorem frameNoted_sys (f : LinkFrame) (s : State) : (frameNoted f s).sys = { s.sys with linkCrcRun := 0, linkLost := false } := by
  unfold frameNoted
  dsimp only
  split <;> rfl

theorem frameNoted_regsOnly (f : LinkFrame) (s : State) : RegsOnly [F.D2D_STAT.TOKEN_LATE.addr 0 0 0] s (frameNoted f s) := by
  intro a ha
  unfold frameNoted
  exact (State.rd_with_sys _ _ _).trans (ite_keeps (p := (·.rd a)) (set_quiet _ _ _ _ _ _ _ (List.ne_of_not_mem_cons ha)))

theorem frameNoted_tokenLate (hlate : f.late = true) (s : State) :
    (frameNoted f s).get F.D2D_STAT.TOKEN_LATE = min (s.get F.D2D_STAT.TOKEN_LATE + 1) 255 := by
  unfold frameNoted
  rw [if_pos hlate]
  refine (State.get_with_sys _ _ _ _ _ _).trans ((State.get_set_self _ _ _ _ _ _ (by decide) (by decide)).trans ?_)
  exact Nat.mod_eq_of_lt (Nat.lt_of_le_of_lt (Nat.min_le_right _ _) (by decide))

/-- The state in which the link is up again, with the frame's trim. -/
def linkRaised (f : LinkFrame) (s : State) : State :=
  let v := frameNoted f s
  (({ v with sys := { v.sys with linkUp := true } } : State).set F.D2D_STAT.LINK_UP 1).set F.D2D_STAT.LAT_TRIM f.trim

theorem linkRaised_d2dStat (f : LinkFrame) (s : State) :
    (linkRaised f s).get F.D2D_STAT.LINK_UP = 1 ∧ (linkRaised f s).get F.D2D_STAT.LAT_TRIM = f.trim.val := by
  constructor
  · rw [linkRaised, State.get_set_bits _ _ _ _ _ _ _ _ _ _ (by decide) (by decide) (by decide) (by decide),
      State.get_set_self _ _ _ _ _ _ (by decide) (by decide)]
    rfl
  · rw [linkRaised, State.get_set_self _ _ _ _ _ _ (by decide) (by decide)]
    exact Nat.mod_eq_of_lt f.trim.isLt

theorem linkFrameControl_of_noted (f : LinkFrame) (s : State) : linkFrameControl f s =
    if (frameNoted f s).sys.linkUp || !(frameNoted f s).pdOn 10 then frameNoted f s
    else
      let p := kreqPair (linkRaised f s)
      if (linkRaised f s).pdReady (2 + p) then kreqArrive ((linkRaised f s).rd (F.SPX_KREQ.GEN_REL.addr p 0 0)) (linkRaised f s)
      else kilnDrive (linkRaised f s) := rfl

theorem linkFrameControl_of_up (hup : s.sys.linkUp = true) : linkFrameControl f s = frameNoted f s := by
  rw [linkFrameControl_of_noted, frameNoted_sys, if_pos (by simp [hup])]

/-- The first good frame on a link that was down brings it up with its trim; the requests held back are sent again. -/
theorem linkFrameControl_of_down (hup : s.sys.linkUp = false) (hon : s.pdOn 10 = true) :
    (linkFrameControl f s).sys.linkUp = true ∧ (linkFrameControl f s).get F.D2D_STAT.LINK_UP = 1 ∧
    (linkFrameControl f s).get F.D2D_STAT.LAT_TRIM = f.trim.val := by
  have hon' : (frameNoted f s).pdOn 10 = true := (State.pdOn_of_rd (by decide) (frameNoted_regsOnly f s _ (by decide))).trans hon
  obtain ⟨hl, ht⟩ := linkRaised_d2dStat f s
  rw [linkFrameControl_of_noted, frameNoted_sys, if_neg (by simp [hup, hon'])]
  dsimp only
  split
  · have hrd := kreqArrive_quiet ((linkRaised f s).rd (F.SPX_KREQ.GEN_REL.addr (kreqPair (linkRaised f s)) 0 0))
      (F.D2D_STAT.LINK_UP.addr 0 0 0) (linkRaised f s) (by decide)
    exact ⟨congrArg SysSt.linkUp (kreqArrive_codeless _ (linkRaised f s)), (State.get_of_rd hrd).trans hl,
      (State.get_of_rd (f := F.D2D_STAT.LAT_TRIM) hrd).trans ht⟩
  · have hrd := kilnDrive_quiet (F.D2D_STAT.LINK_UP.addr 0 0 0) (linkRaised f s) (by decide)
    exact ⟨congrArg SysSt.linkUp (kilnDrive_sys (linkRaised f s)), (State.get_of_rd hrd).trans hl,
      (State.get_of_rd (f := F.D2D_STAT.LAT_TRIM) hrd).trans ht⟩

theorem State.bump_sys (s : State) (f satF : Fld) (i j k n : Nat) : (s.bump f satF i j k n).sys = s.sys :=
  ite_keeps (p := (·.sys)) rfl

/-- The state in which the control die has counted a bad frame. -/
def badFrameCounted (s : State) : State := s.bump F.D2D_STAT.CRC_ERR F.D2D_STAT.CRC_SAT

theorem execLinkFrameReceive_of_few_bad (hdie : f.die = .control) (hbad : f.crcOk = false) (hon : s.pdOn 8 = true)
    (hfew : s.sys.linkCrcRun < 2) : execLinkFrameReceive f s =
      .next { badFrameCounted s with sys := { s.sys with linkCrcRun := s.sys.linkCrcRun + 1 } } := by
  have hsys : (s.bump F.D2D_STAT.CRC_ERR F.D2D_STAT.CRC_SAT).sys = s.sys := State.bump_sys _ _ _ _ _ _ _
  simp [execLinkFrameReceive, hdie, hbad, hon, hsys, show ¬ 2 ≤ s.sys.linkCrcRun by omega, badFrameCounted]

/-- The third bad frame in a row is a loss of the link. -/
theorem execLinkFrameReceive_of_third_bad (hdie : f.die = .control) (hbad : f.crcOk = false) (hon : s.pdOn 8 = true)
    (hmany : 2 ≤ s.sys.linkCrcRun) (hup : s.sys.linkUp = true) : execLinkFrameReceive f s = .next (linkLossControl (badFrameCounted s)) := by
  have hsys : (s.bump F.D2D_STAT.CRC_ERR F.D2D_STAT.CRC_SAT).sys = s.sys := State.bump_sys _ _ _ _ _ _ _
  simp [execLinkFrameReceive, hdie, hbad, hon, hsys, hmany, hup, badFrameCounted]

theorem execLinkFrameReceive_power_good (hdie : f.die = .power) (hok : f.crcOk = true) : execLinkFrameReceive f s =
    .next (s.setKln { s.kln with crcRun := 0, present := putBit s.kln.present 0 false }) := by
  simp [execLinkFrameReceive, hdie, hok]

theorem execLinkFrameReceive_power_bad (hdie : f.die = .power) (hbad : f.crcOk = false) (hrun : s.kln.crcRun < 2) :
    execLinkFrameReceive f s = .next (s.setKln { s.kln with crcRun := s.kln.crcRun + 1 }) := by
  have hrun : ¬ 2 ≤ s.kln.crcRun := by omega
  simp [execLinkFrameReceive, hdie, hbad, hrun]

theorem execLinkFrameReceive_frame {t : State} (h : execLinkFrameReceive f s = .next t) : OnlyChanges .die s t :=
  execLinkFrameReceive_mask rfl rfl rfl rfl rfl rfl rfl rfl rfl rfl rfl rfl rfl rfl rfl rfl rfl rfl rfl rfl rfl _ _ h

theorem execLinkTokenTimeout_frame {die : Die} {t : State} (h : execLinkTokenTimeout die s = .next t) : OnlyChanges .die s t :=
  execLinkTokenTimeout_mask rfl rfl rfl rfl rfl rfl rfl rfl rfl rfl rfl rfl rfl rfl rfl rfl rfl rfl rfl rfl rfl _ _ h

theorem execLinkTokenTimeout_control (hup : s.sys.linkUp = true) :
    execLinkTokenTimeout .control s = .next (linkLossControl s) := by
  simp [execLinkTokenTimeout, hup]

theorem execLinkTokenTimeout_power (hup : s.sys.linkUp = true) : execLinkTokenTimeout .power s = .next (linkLossKiln s) := by
  simp [execLinkTokenTimeout, hup]

end

/-- Settles O39: the reactions that wait end in SAFE, in LIMP or in a derating by the class of the highest, and each event of the link is
one of the branches above. -/
theorem imposedTransitionsAndLink : Obligations.ImposedTransitionsAndLink := by
  intro s top f rs top?
  refine ⟨?safe, ?limp, ?latched, ?derated, ?noReaction, ?lost, ?startFails, ?kiln, ?frame, ?lateFrame, ?up, ?badFrame, ?threeBad,
    ?powerGood, ?powerBad⟩
  case safe =>
    intro htop hcls
    have hrun := execImposedTransition_of_safe htop hcls
    obtain ⟨hmode, hsafe, htrans, hderated, hprev⟩ := imposeSafe_imposes top rs (reactsHeard top s)
    refine ⟨_, hrun, hmode, hsafe, htrans, hderated.trans ?_, hprev, execImposedTransition_frame hrun⟩
    simp [reactsHeard, show 1 ≤ top.cls by omega]
  case limp =>
    intro htop hcls hmode
    have hrun := execImposedTransition_of_limp htop hcls
    obtain ⟨hm, hprev, hcauses, hlevel⟩ := imposeLimp_imposes rs (s := reactsHeard top s) hmode
    exact ⟨_, hrun, hm, hprev, hcauses, hlevel, execImposedTransition_frame hrun⟩
  case latched =>
    intro htop hcls hmode htrans
    have hrun := execImposedTransition_of_limp htop hcls
    rw [imposeLimp_latches _ (s := reactsHeard top s) hmode htrans] at hrun
    refine ⟨_, hrun, State.get_set_self _ _ _ _ _ _ (by decide) (by decide), rfl,
      State.get_set_bits _ _ _ _ _ _ _ _ _ _ (by decide) (by decide) (by decide) (by decide), fun a ha => ?_,
      execImposedTransition_frame hrun⟩
    exact set_quiet _ _ _ _ _ _ _ (List.ne_of_not_mem_cons ha)
  case derated =>
    intro htop hcls
    refine ⟨_, execImposedTransition_of_derating htop hcls, ?_⟩
    simp [reactsHeard, hcls]
  case noReaction => exact fun hnone => ⟨_, execImposedTransition_of_none hnone, rfl⟩
  case lost =>
    intro hup hlost hon hst
    have hrun := execLinkTokenTimeout_control hup
    obtain ⟨hdown, hl, hheld, hreg, hup'⟩ := linkLossControl_loses hlost hon hst
    exact ⟨_, hrun, hdown, hl, hheld, hreg, hup', execLinkTokenTimeout_frame hrun⟩
  case startFails =>
    intro hup hlost hon hst
    have hrun := (execLinkTokenTimeout_control hup).trans (congrArg _ (linkLossControl_of_starting hlost hon hst))
    obtain ⟨hphase, hsup, -, hcode, -⟩ := startFail_holds (code := 0x1101) (by decide) 0 (linkLossNoted s)
    exact ⟨_, hrun, hphase, hsup, hcode, execLinkTokenTimeout_frame hrun⟩
  case kiln =>
    intro hup hk
    have hrun := execLinkTokenTimeout_power hup
    obtain ⟨hdown, hpresent, hcrc⟩ := linkLossKiln_of_running hk
    exact ⟨_, hrun, hdown, hpresent, hcrc, execLinkTokenTimeout_frame hrun⟩
  case frame =>
    intro hdie hok hlate hon hup
    refine ⟨_, (execLinkFrameReceive_of_good_frame hdie hok hon).trans (congrArg _ (linkFrameControl_of_up hup)), ?_⟩
    simp [frameNoted, hlate]
  case lateFrame =>
    intro hdie hok hlate hon hup
    have hrun := (execLinkFrameReceive_of_good_frame hdie hok hon).trans (congrArg _ (linkFrameControl_of_up hup))
    exact ⟨_, hrun, frameNoted_tokenLate hlate s, frameNoted_sys f s, frameNoted_regsOnly f s, execLinkFrameReceive_frame hrun⟩
  case up =>
    intro hdie hok hon hon10 hup
    have hrun := execLinkFrameReceive_of_good_frame hdie hok hon
    obtain ⟨hl, hreg, htrim⟩ := linkFrameControl_of_down (f := f) hup hon10
    exact ⟨_, hrun, hl, hreg, htrim, execLinkFrameReceive_frame hrun⟩
  case badFrame =>
    intro hdie hbad hon hfew
    have hrun := execLinkFrameReceive_of_few_bad hdie hbad hon hfew
    exact ⟨_, hrun, State.get_bump_self (by decide) (by decide) (by decide) (by decide) (by decide), rfl,
      fun a ha => State.rd_bump_ne (List.ne_of_not_mem_cons ha) (List.ne_of_not_mem_cons ha), execLinkFrameReceive_frame hrun⟩
  case threeBad =>
    intro hdie hbad hon hmany hup hlost hst
    have hrun := execLinkFrameReceive_of_third_bad hdie hbad hon hmany hup
    have hsys : (badFrameCounted s).sys = s.sys := State.bump_sys _ _ _ _ _ _ _
    have hon' : (badFrameCounted s).pdOn 8 = true :=
      (State.pdOn_of_rd (by decide) (State.rd_bump_ne (by decide) (by decide))).trans hon
    obtain ⟨hdown, hl, -, hreg, -⟩ := linkLossControl_loses (s := badFrameCounted s) (by rw [hsys, hlost]) hon'
      ((starting_congr (by rw [hsys])).trans hst)
    exact ⟨_, hrun, hdown, hl, hreg, execLinkFrameReceive_frame hrun⟩
  case powerGood => exact fun hdie hok => ⟨_, execLinkFrameReceive_power_good hdie hok, rfl⟩
  case powerBad => exact fun hdie hbad hfew => ⟨_, execLinkFrameReceive_power_bad hdie hbad hfew, rfl⟩

end Sys2Proof.Machine

/-! The start sequence (02_modes_power_start.md R52 to R68): each step of it by the phase it needs, what core release leaves, a start
that fails and the next one, and O40. -/

namespace Sys2Proof.Machine
open Sys2Proof

theorem startFail_frame (code : Nat) (s : State) : OnlyChanges .die s (startFail code s) :=
  startFail_mask rfl rfl rfl rfl rfl rfl rfl rfl rfl rfl rfl rfl rfl rfl rfl rfl rfl rfl rfl rfl rfl _ _

theorem State.pdReady_of_rd {s t : State} {d : Nat} (hd : 0 < d) (h : t.rd (F.PD_STAT.ON.addr 0 0 0) = s.rd (F.PD_STAT.ON.addr 0 0 0)) :
    t.pdReady d = s.pdReady d := by
  have hne : d ≠ 0 := by omega
  rw [State.pdReady, State.pdReady, State.pdOn_of_rd hd h, State.pdFilled, State.pdFilled, if_neg hne, if_neg hne, State.bit, State.bit,
    State.get_of_rd (f := F.PD_STAT.FILLED) h]

/-! ### The steps of the sequence (R56, R63) -/

section
variable {s : State}

theorem execVbatRise_of_noPower (h : s.sys.phase = .noPower) : execVbatRise s =
    .next (startBegin 0 { s with sys := { s.sys with pd0 := true }, kln := { s.kln with kstate := 1, por := true, faultN := false } }) := by
  simp [execVbatRise, h]

theorem execSupplyGood_of_supplies (h : s.sys.phase = .supplies) :
    execSupplyGood s = .next { s with sys := { s.sys with phase := .pllStart } } := by
  simp [execSupplyGood, h]

theorem execSupplyTimeout_of_supplies (h : s.sys.phase = .supplies) : execSupplyTimeout s = .next (startFail 0x0F15 s) := by
  simp [execSupplyTimeout, h]

theorem execReferenceClockFail_of_pllStart (h : s.sys.phase = .pllStart) : execReferenceClockFail s = .next (startFail 0x1110 s) := by
  simp [execReferenceClockFail, h]

theorem execPllLockTimeout_of_pllStart (h : s.sys.phase = .pllStart) : execPllLockTimeout s = .next (startFail 0x1111 s) := by
  simp [execPllLockTimeout, h]

theorem execLinkUpTimeout_of_starting (hst : starting s = true) (hon : s.pdOn 10 = true) (hup : s.sys.linkUp = false) :
    execLinkUpTimeout s = .next (startFail 0x1101 s) := by
  simp [execLinkUpTimeout, hst, hon, hup]

theorem execStartTimeout_of_start (h : s.sys.phase = .run) (hmode : s.mode = 1) : execStartTimeout s = .next (issue 0x0401 4 s) := by
  simp [execStartTimeout, h, hmode]

theorem execSupEnHoldEnd_of_few_fails (h : s.sys.phase = .hold) (hf : s.get F.START_LOG.FAILS < 3) :
    execSupEnHoldEnd s = .next (startBegin s.sys.kind s) := by
  simp [execSupEnHoldEnd, h, show ¬ 3 ≤ s.get F.START_LOG.FAILS by omega]

/-- The state in which the third failed start in a row has locked the starts. -/
def startsLocked (s : State) : State :=
  { s.set F.START_LOG.START_LOCK 1 with sys := { s.sys with phase := .dormant, supEn := false } }

theorem execSupEnHoldEnd_of_three_fails (h : s.sys.phase = .hold) (hf : 3 ≤ s.get F.START_LOG.FAILS) :
    execSupEnHoldEnd s = .next (kilnHold (startsLocked s)) := by
  simp [execSupEnHoldEnd, h, hf, startsLocked]

/-! ### PLL_LOCK (R56, R485, R531) -/

/-- PLL_LOCK's registers: the epoch of TSTAMP, the locks, the monitors of the supplies. -/
def clocksShown (u : State) : State :=
  let u := u.set F.CLK_TS_EPOCH.EPOCH_SEC (u.get F.EMB_RTC_SEC.SEC)
  let u := u.set F.CLK_EPOCH_SUB.EPOCH_SUB (u.get F.EMB_RTC_SUB.SUB)
  let u := (u.set F.CLK_STAT.LOCK 15).set F.CLK_STAT.XIN_OK 1
  ((u.setB F.SUP_STAT.KILN_POR u.kln.por).set F.SUP_STAT.FLT u.sys.supFlt).set F.SUP_STAT.WARN u.sys.supWarn

/-- The state in which PLL_LOCK has switched PD8 on and started TSTAMP. -/
def clocksStarted (s : State) : State :=
  let u := domainOn 8 { s with sys := { s.sys with phase := .loading, onSeq := [1, 9] } }
  { u with fab := { u.fab with tsRun := true, ts := 0 } }

theorem execPllLock_of_pllStart (h : s.sys.phase = .pllStart) (fuseOk : Bool) :
    execPllLock fuseOk s = .next (tinderBoot fuseOk (clocksShown (clocksStarted s))) := by
  simp only [execPllLock, h]
  rfl

theorem clocksShown_get (u : State) : (clocksShown u).get F.CLK_STAT.LOCK = 15 ∧ (clocksShown u).get F.CLK_STAT.XIN_OK = 1 ∧
    (clocksShown u).get F.CLK_TS_EPOCH.EPOCH_SEC = u.get F.EMB_RTC_SEC.SEC := by
  refine ⟨?_, ?_, ?_⟩ <;>
    simp (disch := decide) only [clocksShown, State.setB, State.get_set_self, State.get_set_bits, State.get_set_addr]
  · rfl
  · rfl
  · exact Nat.mod_eq_of_lt (State.get_lt u F.EMB_RTC_SEC.SEC 0 0 0)

theorem clocksShown_pdOn {d : Nat} (hd : 0 < d) (u : State) : (clocksShown u).pdOn d = u.pdOn d := by
  refine State.pdOn_of_rd hd ?_
  simp only [clocksShown, State.setB]
  iterate 7 rw [set_quiet _ _ _ _ _ _ _ (by decide)]

theorem domainOn_sys (d : Nat) (s : State) : (domainOn d s).sys = s.sys :=
  sys_of_mask (K := { regs := true }) rfl (domainOn_mask rfl d s)

theorem domainOn_tnd (d : Nat) (s : State) : (domainOn d s).tnd = s.tnd :=
  tnd_of_mask (K := { regs := true }) rfl (domainOn_mask rfl d s)

theorem domainOn_rd {a : Nat} (hpd : a ≠ F.PD_STAT.ON.addr 0 0 0) (hash : a ≠ F.MEMC_ASH_SEQ.NEXT_SEQ.addr 0 0 0) (d : Nat) (s : State) :
    (domainOn d s).rd a = s.rd a := by
  unfold domainOn
  split
  · rfl
  · exact (ite_keeps (p := (·.rd a)) (set_quiet _ _ _ _ _ _ _ hash)).trans (set_quiet _ _ _ _ _ _ _ hpd)

theorem clocksStarted_sys (s : State) : (clocksStarted s).sys = { s.sys with phase := .loading, onSeq := [1, 9] } := domainOn_sys _ _

theorem clocksStarted_tnd (s : State) : (clocksStarted s).tnd = s.tnd := domainOn_tnd 8 _

theorem lifecycle_congr {s t : State} (h : t.tnd = s.tnd) : lifecycle t = lifecycle s := by
  unfold lifecycle
  rw [h]

/-- Where no copy of a lifecycle fuse is torn and the part is not RETURNED, reading the fuses changes nothing. -/
theorem tinderBoot_of_sound (htorn : (s.tnd.fuse.lc.any fun n => n == 1 || n == 2) = false) (hlc : lifecycle s < 3) :
    tinderBoot true s = s := by
  have hmap : (s.tnd.fuse.lc.map fun n => if n = 2 then 3 else n) = s.tnd.fuse.lc := by
    refine (List.map_congr_left fun n hn => ?_).trans (List.map_id _)
    have := List.any_eq_false.mp htorn n hn
    simp at this
    simp [this.2]
  simp [tinderBoot, htorn, hmap, show lifecycle s ≠ 4 by omega, show lifecycle s ≠ 3 by omega]

end

end Sys2Proof.Machine

/-! The second half of the start sequence (02_modes_power_start.md R52 to R64): domains and their fills, core release, the hold of the
Kiln, and O40. -/

namespace Sys2Proof.Machine
open Sys2Proof

/-! ### Domains come on and are filled (R52 to R54) -/

section
variable {s : State}

theorem domainOn_regsOnly {d : Nat} (h8 : d ≠ 8) (s : State) : RegsOnly [F.PD_STAT.ON.addr 0 0 0] s (domainOn d s) := by
  intro a ha
  unfold domainOn
  split
  · rfl
  · exact set_quiet _ _ _ _ _ _ _ (List.ne_of_not_mem_cons ha)

theorem execDomainPowerOn_of_next {d : Nat} {rest : List Nat} (hseq : s.sys.onSeq = d :: rest) (h8 : s.pdOn 8 = true) :
    execDomainPowerOn s = .next (domainOn d { s with sys := { s.sys with onSeq := rest } }) := by
  simp [execDomainPowerOn, hseq, h8]

/-- PD0 is filled as soon as it is powered. -/
theorem State.pos_of_unfilled {d : Nat} (hon : s.pdOn d = true) (hfill : s.pdFilled d = false) : 0 < d := by
  refine Nat.pos_of_ne_zero fun h0 => ?_
  subst h0
  exact absurd (hon.symm.trans hfill) (by decide)

theorem execMemoryFillDone_of_failure {d : Fin 11} (hon : s.pdOn d.val = true) (hfill : s.pdFilled d.val = false)
    (hst : starting s = true) : execMemoryFillDone d false s = .next (startFail 0x1210 s) := by
  simp [execMemoryFillDone, hon, hfill, hst]

/-- The state in which the fill of domain d has been noted, and the domains behind PD8's fill are due. -/
def fillNoted (d : Nat) (s : State) : State :=
  let u := s.setBit F.PD_STAT.FILLED d true
  if d = 8 ∧ starting u then { u with sys := { u.sys with onSeq := u.sys.onSeq ++ [10, 2, 3, 4, 5, 6, 7] } } else u

theorem execMemoryFillDone_of_fill {d : Fin 11} (hon : s.pdOn d.val = true) (hfill : s.pdFilled d.val = false)
    (hwait : ¬ ((d.val = 4 ∨ d.val = 5) ∧ s.sys.released = true)) :
    execMemoryFillDone d true s = .next (if d.val = 1 then tndShow (fillNoted d.val s) else fillNoted d.val s) := by
  unfold execMemoryFillDone
  dsimp only
  rw [if_neg (by simp [hon, hfill]), if_neg (by simp), if_neg hwait]
  rfl

theorem fillNoted_sys (d : Nat) (s : State) : (fillNoted d s).sys =
    if d = 8 ∧ starting s then { s.sys with onSeq := s.sys.onSeq ++ [10, 2, 3, 4, 5, 6, 7] } else s.sys := by
  have hst : starting (s.setBit F.PD_STAT.FILLED d true) = starting s := starting_congr rfl
  unfold fillNoted
  dsimp only
  rw [hst]
  split <;> rfl

theorem fillNoted_rd (d a : Nat) (s : State) : (fillNoted d s).rd a = (s.setBit F.PD_STAT.FILLED d true).rd a := by
  unfold fillNoted
  exact ite_keeps (p := (·.rd a)) (State.rd_with_sys _ _ _)

/-- Tinder's mirror of the fuses is in its own block. -/
theorem tndShow_rd {a : Nat} (ha : a < 0x30050C00) (s : State) : (tndShow s).rd a = s.rd a := by
  have hne : ∀ f : Fld, ∀ i, 0x30050C00 ≤ f.base → a ≠ f.addr i 0 0 := fun f i hf => by
    simp only [Fld.addr]
    omega
  unfold tndShow
  refine (foldl_keeps (·.rd a) _ _ (fun i _ s => set_quiet _ _ _ _ _ _ _ (hne _ i (by decide))) _).trans ?_
  simp only [State.setB]
  iterate 8 rw [set_quiet _ _ _ _ _ _ _ (hne _ 0 (by decide))]

theorem tndShow_sys (s : State) : (tndShow s).sys = s.sys := sys_of_mask (K := { regs := true }) rfl (tndShow_mask rfl s)

/-- The state a fill leaves, for PD1 with Tinder's mirror. -/
theorem fillNoted_ready {d : Nat} (hd : 0 < d) (hle : d ≤ 10) (hon : s.pdOn d = true) :
    (if d = 1 then tndShow (fillNoted d s) else fillNoted d s).pdReady d = true := by
  have hrd : (if d = 1 then tndShow (fillNoted d s) else fillNoted d s).rd (F.PD_STAT.ON.addr 0 0 0) =
      (s.setBit F.PD_STAT.FILLED d true).rd (F.PD_STAT.ON.addr 0 0 0) := by
    rw [← fillNoted_rd]
    exact ite_keeps (p := (·.rd _)) (tndShow_rd (by decide) _)
  rw [State.pdReady_of_rd hd hrd, setFilled_pdReady hd hle hon]

/-- The state in which each Whorl of a domain has its verified copy again. -/
def whorlsRestored (high : Bool) (s : State) : State :=
  (if high then [4, 5, 6, 7] else [0, 1, 2, 3]).foldl (fun s w => place (whlBase w) (verified s 5 w) s) s

theorem whorlsRestored_regs (high : Bool) (s : State) : (whorlsRestored high s).regs = s.regs :=
  foldl_keeps (·.regs) _ _ (fun _ _ _ => regs_of_mask (K := { mem := true, fab := true }) rfl (place_mask rfl rfl _ _ _)) s

theorem execWhorlReloadDone_of_unfilled {high : Bool} (hon : s.pdOn (if high then 5 else 4) = true)
    (hfill : s.pdFilled (if high then 5 else 4) = false) (hrel : s.sys.released = true) :
    execWhorlReloadDone high s = .next ((whorlsRestored high s).setBit F.PD_STAT.FILLED (if high then 5 else 4) true) := by
  unfold execWhorlReloadDone
  dsimp only
  rw [if_neg (by simp [hon, hfill, hrel])]
  rfl

/-! ### Core release (R56, R60 to R62, R64) -/

/-- The registers of the units at release, before Reel and the controllers are set up. -/
def unitsShown (s : State) : State :=
  let u := { s with sys := { s.sys with phase := .run, released := true } }
  let u := (u.set F.START_LOG.FAILS 0).setB F.MODE_STAT.STANDBY_OK (!u.sys.cfg.standby.isEmpty)
  let u := u.setB F.MODE_STAT.LIMP_IMAGE u.sys.loader.limp
  let u := [0, 1].foldl (fun s p => s.set F.SPX_STAT.STATE (if s.getB F.SPX_STAT.SPLIT p then 5 else 0) p) u
  u.set F.REEL_CTL.RUN 1

/-- Beside Reel's and the controllers' own states, release shows the units and owes the loopback tests. -/
theorem releaseUnits_eq (s : State) : ∃ u : State, releaseUnits s = u.set F.DBG_OLT_CAN.IN_TEST 15 ∧ u.regs = (unitsShown s).regs ∧
    u.sys = { s.sys with phase := .run, released := true } ∧ u.kln = s.kln := by
  unfold releaseUnits
  extract_lets x s1 s2 s3 s4 s5 y z s6 s7
  refine ⟨s7, rfl, ?_, ?_, ?_⟩
  · exact foldl_keeps (·.regs) _ _ (fun _ _ _ => State.setCan_regs _ _ _) s6
  · exact foldl_keeps (·.sys) _ _ (fun _ _ _ => State.setCan_sys _ _ _) s6
  · exact foldl_keeps (·.kln) _ _ (fun _ _ _ => State.setCan_kln _ _ _) s6

theorem releaseUnits_rd (a : Nat) (s : State) : (releaseUnits s).rd a = ((unitsShown s).set F.DBG_OLT_CAN.IN_TEST 15).rd a := by
  obtain ⟨u, hu, hregs, -, -⟩ := releaseUnits_eq s
  have hset : (u.set F.DBG_OLT_CAN.IN_TEST 15).regs = ((unitsShown s).set F.DBG_OLT_CAN.IN_TEST 15).regs := by
    simp only [State.set, State.wr, State.rd, hregs]
  rw [hu, State.rd_of_regs hset]

theorem releaseUnits_sys (s : State) : (releaseUnits s).sys = { s.sys with phase := .run, released := true } := by
  obtain ⟨u, hu, -, hsys, -⟩ := releaseUnits_eq s
  rw [hu, State.set_sys, hsys]

theorem releaseUnits_kln (s : State) : (releaseUnits s).kln = s.kln := by
  obtain ⟨u, hu, -, -, hkln⟩ := releaseUnits_eq s
  rw [hu, State.set_kln, hkln]

theorem unitsShown_fields (s : State) : (unitsShown s).get F.START_LOG.FAILS = 0 ∧ (unitsShown s).get F.REEL_CTL.RUN = 1 ∧
    (unitsShown s).get F.SPX_STAT.STATE 0 = (if s.getB F.SPX_STAT.SPLIT 0 then 5 else 0) ∧
    (unitsShown s).get F.MODE_STAT.MODE = s.get F.MODE_STAT.MODE := by
  unfold unitsShown
  extract_lets x u1 u2 u3 u4
  have hpair : u3.getB F.SPX_STAT.SPLIT = s.getB F.SPX_STAT.SPLIT := by
    simp (disch := decide) only [u3, u2, u1, State.setB, State.getB, State.get_set_addr, State.get_with_sys]
  refine ⟨?_, ?_, ?_, ?_⟩
  · simp (disch := decide) only [u4, u3, u2, u1, List.foldl, State.setB, State.get_set_self, State.get_set_addr]
    rfl
  · exact State.get_set_self _ _ _ _ _ _ (by decide) (by decide)
  · simp (disch := decide) only [u4, List.foldl, State.get_set_self, State.get_set_addr, hpair]
    split <;> rfl
  · simp (disch := decide) only [u4, u3, u2, u1, List.foldl, State.setB, State.get_set_bits, State.get_with_sys]

theorem releaseProbation_rd {a : Nat} (ha : a ≠ F.UPD_STAT.STATE.addr 0 0 0) (s : State) : (releaseProbation s).rd a = s.rd a := by
  refine ite_keeps (p := (·.rd a)) ?_
  rw [set_quiet _ F.UPD_STAT.N_STEPS _ _ _ _ _ ha, set_quiet _ _ _ _ _ _ _ ha]
  exact State.rd_with_tnd _ _ _

theorem releaseProbation_sys (s : State) : (releaseProbation s).sys = s.sys :=
  sys_of_mask (K := { regs := true, tnd := true }) rfl (releaseProbation_mask rfl rfl s)

theorem releaseProbation_kln (s : State) : (releaseProbation s).kln = s.kln :=
  kln_of_mask (K := { regs := true, tnd := true }) rfl (releaseProbation_mask rfl rfl s)

/-- The state in which the units run, before the mode and the Kiln's outputs follow. -/
def unitsReleased (s : State) : State := raise 5 (releaseProbation (releaseUnits s))

theorem unitsReleased_sys (s : State) : (unitsReleased s).sys = { s.sys with phase := .run, released := true } := by
  rw [unitsReleased, raise_sys, releaseProbation_sys, releaseUnits_sys]

theorem unitsReleased_kln (s : State) : (unitsReleased s).kln = s.kln := by
  rw [unitsReleased, raise_kln, releaseProbation_kln, releaseUnits_kln]

theorem unitsReleased_rd {a : Nat} (hq : Quiet a) (hu : a ≠ F.UPD_STAT.STATE.addr 0 0 0) (s : State) :
    (unitsReleased s).rd a = ((unitsShown s).set F.DBG_OLT_CAN.IN_TEST 15).rd a := by
  rw [unitsReleased, raise_quiet _ _ _ (by decide) hq, releaseProbation_rd hu, releaseUnits_rd]

theorem kilnLatched_congr {t : State} (h : t.kln = s.kln) : kilnLatched t = kilnLatched s := by
  unfold kilnLatched
  rw [h]

/-- What a Kiln latch held at release makes of the system part before SAFE is entered. -/
def latchNoted (s : State) : State := { s with sys := { s.sys with
  dcdcHeld := !s.sys.cfg.safeKeepDcdc || s.kln.latch % 64 != 0, safeCls := if s.kln.cls5 then 5 else 3 } }

theorem execCoreRelease_of_releasable (h : releasable s = true) : execCoreRelease s = .next (kilnDrive (blankGrant
    (if kilnLatched (unitsReleased s) then enterMode 6 false (latchNoted (unitsReleased s)) else unitsReleased s))) :=
  congrArg Host.Outcome.next (if_neg (by simp [h]))

theorem execCoreRelease_of_clean (h : releasable s = true) (hl : kilnLatched s = false) :
    execCoreRelease s = .next (kilnDrive (blankGrant (unitsReleased s))) := by
  simp [execCoreRelease_of_releasable h, kilnLatched_congr (unitsReleased_kln s), hl]

theorem execCoreRelease_of_latched (h : releasable s = true) (hl : kilnLatched s = true) :
    execCoreRelease s = .next (kilnDrive (blankGrant (enterMode 6 false (latchNoted (unitsReleased s))))) := by
  simp [execCoreRelease_of_releasable h, kilnLatched_congr (unitsReleased_kln s), hl]

/-- BLANK's grant and the Kiln's outputs leave every register but DBG_STAT. -/
theorem kilnDrive_blankGrant_rd {a : Nat} (hq : Quiet a) (ha : a ≠ F.DBG_STAT.LEVEL.addr 0 0 0) (s : State) :
    (kilnDrive (blankGrant s)).rd a = s.rd a := by
  rw [kilnDrive_quiet _ _ hq, blankGrant_rd ha hq]

theorem kilnDrive_blankGrant_sys (s : State) : (kilnDrive (blankGrant s)).sys = s.sys := by
  rw [kilnDrive_sys, blankGrant_sys]

theorem execCoreRelease_frame {t : State} (h : execCoreRelease s = .next t) : OnlyChanges .die s t :=
  execCoreRelease_mask rfl rfl rfl rfl rfl rfl rfl rfl rfl rfl rfl rfl rfl rfl rfl rfl rfl rfl rfl rfl rfl _ h

/-- Release without a Kiln latch: the units run in the mode MODE_STAT holds. -/
theorem unitsReleased_runs (s : State) : (kilnDrive (blankGrant (unitsReleased s))).sys.phase = .run ∧
    (kilnDrive (blankGrant (unitsReleased s))).sys.released = true ∧
    ∀ a, Quiet a → a ≠ F.DBG_STAT.LEVEL.addr 0 0 0 → a ≠ F.UPD_STAT.STATE.addr 0 0 0 →
      (kilnDrive (blankGrant (unitsReleased s))).rd a = ((unitsShown s).set F.DBG_OLT_CAN.IN_TEST 15).rd a := by
  rw [kilnDrive_blankGrant_sys, unitsReleased_sys]
  exact ⟨rfl, rfl, fun a hq ha hu => (kilnDrive_blankGrant_rd hq ha _).trans (unitsReleased_rd hq hu s)⟩

/-- Release with a Kiln latch held ends in SAFE, of class 5 where the latch is. -/
theorem unitsReleased_safe (s : State) : (kilnDrive (blankGrant (enterMode 6 false (latchNoted (unitsReleased s))))).sys.steady =
      { (latchNoted (unitsReleased s)).sys.steady with trans := none } ∧
    (kilnDrive (blankGrant (enterMode 6 false (latchNoted (unitsReleased s))))).get F.MODE_STAT.MODE = 6 := by
  obtain ⟨hmode, -, -, -⟩ := enterMode_modeStat 6 false (latchNoted (unitsReleased s))
  constructor
  · rw [kilnDrive_blankGrant_sys, enterMode_steady]
  · exact (State.get_of_rd (kilnDrive_blankGrant_rd (by decide) (by decide) _)).trans hmode

theorem latchNoted_unitsReleased_sys (s : State) :
    (latchNoted (unitsReleased s)).sys.phase = .run ∧ (latchNoted (unitsReleased s)).sys.released = true ∧
    (latchNoted (unitsReleased s)).sys.safeCls = (if s.kln.cls5 then 5 else 3) := by
  rw [latchNoted, unitsReleased_sys, unitsReleased_kln]
  exact ⟨rfl, rfl, rfl⟩

/-! ### The Kiln in hold (R51) -/

theorem kilnHold_sys (s : State) : (kilnHold s).sys = s.sys := kilnDrive_sys _

theorem kilnHold_rd {a : Nat} (h : Quiet a) (s : State) : (kilnHold s).rd a = s.rd a :=
  (kilnDrive_quiet _ _ h).trans (setKln_rd _ _ _)

theorem kilnHold_kln (s : State) : (kilnHold s).kln.kstate = 4 ∧ (kilnHold s).kln.present = 0 := by
  constructor
  · rw [kilnHold, kilnDrive_kstate]
    rfl
  · rw [kilnHold, kilnDrive_present]
    rfl

end

/-- Settles O40: each step of the sequence is the step its phase allows, a failed one ends in `startFail`, and release ends in SAFE exactly
where the Kiln holds a latch. -/
theorem startSequence : Obligations.StartSequence := by
  intro s d e rest high a started failed w locked
  have hfail : ∀ {code : Nat}, code < 65536 → ∀ {t : State}, t = startFail code s → failed code t ∧ OnlyChanges .die s t := by
    rintro code hcode t rfl
    exact ⟨startFail_holds hcode d.val s, startFail_frame code s⟩
  refine ⟨?rise, ?good, ?supplyTimeout, ?noClock, ?noLock, ?lock, ?badFuses, ?on, ?filled, ?badFill, ?reload, ?noLink, ?clean, ?latched,
    ?startTimeout, ?again, ?thirdFailure, ?collapse⟩
  case rise =>
    intro hphase
    have hrun := execVbatRise_of_noPower hphase
    exact ⟨_, hrun, ⟨rfl, rfl, rfl, rfl, startBegin_kind 0 _⟩, rfl, rfl, rfl, rfl, execVbatRise_mask rfl rfl rfl rfl _ hrun⟩
  case good => exact fun hphase => ⟨_, execSupplyGood_of_supplies hphase, rfl⟩
  case supplyTimeout => exact fun hphase => ⟨_, execSupplyTimeout_of_supplies hphase, hfail (by decide) rfl⟩
  case noClock => exact fun hphase => ⟨_, execReferenceClockFail_of_pllStart hphase, hfail (by decide) rfl⟩
  case noLock => exact fun hphase => ⟨_, execPllLockTimeout_of_pllStart hphase, hfail (by decide) rfl⟩
  case lock =>
    intro hphase ⟨htorn, hlc⟩
    have htnd : (clocksShown (clocksStarted s)).tnd = s.tnd := clocksStarted_tnd s
    have hrun := execPllLock_of_pllStart hphase true
    rw [tinderBoot_of_sound (by rw [htnd]; exact htorn) (by rw [lifecycle_congr htnd]; exact hlc)] at hrun
    obtain ⟨hlock, hxin, hepoch⟩ := clocksShown_get (clocksStarted s)
    have hsys : (clocksShown (clocksStarted s)).sys = _ := clocksStarted_sys s
    have hsec : (clocksStarted s).rd (F.EMB_RTC_SEC.SEC.addr 0 0 0) = s.rd (F.EMB_RTC_SEC.SEC.addr 0 0 0) :=
      domainOn_rd (by decide) (by decide) 8 _
    refine ⟨_, hrun, by rw [hsys], by rw [hsys], (clocksShown_pdOn (by decide) _).trans (domainOn_pdOn (by decide) (by decide) _), rfl, rfl,
      hlock, hxin, hepoch.trans (State.get_of_rd hsec),
      execPllLock_mask rfl rfl rfl rfl rfl rfl rfl rfl rfl rfl rfl rfl rfl rfl rfl rfl rfl rfl rfl rfl rfl _ _ hrun⟩
  case badFuses =>
    intro hphase
    have hrun := execPllLock_of_pllStart hphase false
    obtain ⟨hphase', hsup, hrel, hcode, hoff⟩ := startFail_holds (code := 0x0206) (by decide) d.val (clocksShown (clocksStarted s))
    exact ⟨_, hrun, ⟨hphase', hsup, hrel, hcode, hoff⟩,
      execPllLock_mask rfl rfl rfl rfl rfl rfl rfl rfl rfl rfl rfl rfl rfl rfl rfl rfl rfl rfl rfl rfl rfl _ _ hrun⟩
  case on =>
    intro hseq he h8 hoff
    have hne : e.val ≠ 8 := fun h => absurd (h ▸ hoff) (by simp [h8])
    have hrun := execDomainPowerOn_of_next hseq h8
    exact ⟨_, hrun, domainOn_pdOn he (Nat.le_of_lt_succ e.isLt) _, domainOn_sys _ _, fun b hb => domainOn_regsOnly hne _ b hb,
      execDomainPowerOn_mask rfl rfl _ hrun⟩
  case filled =>
    intro hon hfill hwait
    have hd := State.pos_of_unfilled hon hfill
    have hrun := execMemoryFillDone_of_fill hon hfill hwait
    have hsys : (if d.val = 1 then tndShow (fillNoted d.val s) else fillNoted d.val s).sys = _ :=
      (ite_keeps (p := (·.sys)) (tndShow_sys _)).trans (fillNoted_sys d.val s)
    refine ⟨_, hrun, fillNoted_ready hd (Nat.le_of_lt_succ d.isLt) hon, ?_, fun h8 hst => ?_,
      execMemoryFillDone_mask rfl rfl rfl rfl rfl rfl rfl rfl rfl rfl rfl rfl rfl rfl rfl rfl rfl rfl rfl rfl rfl _ _ _ hrun⟩
    · rw [hsys]
      split <;> rfl
    · rw [hsys, if_pos ⟨h8, hst⟩]
  case badFill => exact fun hon hfill hst => ⟨_, execMemoryFillDone_of_failure hon hfill hst, hfail (by decide) rfl⟩
  case reload =>
    intro hon hfill hrel
    have hrun := execWhorlReloadDone_of_unfilled hon hfill hrel
    have hregs := whorlsRestored_regs high s
    have hw : 0 < w ∧ w ≤ 10 := by
      simp only [w]
      split <;> decide
    have hon' : (whorlsRestored high s).pdOn w = true := (State.pdOn_of_rd hw.1 (State.rd_of_regs hregs _)).trans hon
    refine ⟨_, hrun, setFilled_pdReady hw.1 hw.2 hon', fun b hb => ?_, execWhorlReloadDone_mask rfl rfl rfl _ _ hrun⟩
    exact (set_quiet _ F.PD_STAT.FILLED _ _ _ _ _ (List.ne_of_not_mem_cons hb)).trans (State.rd_of_regs hregs b)
  case noLink => exact fun hst hon hup => ⟨_, execLinkUpTimeout_of_starting hst hon hup, hfail (by decide) rfl⟩
  case clean =>
    intro hrel hl
    have hrun := execCoreRelease_of_clean hrel hl
    obtain ⟨hphase, hreleased, hrd⟩ := unitsReleased_runs s
    obtain ⟨hfails, hreel, hpair, hmode⟩ := unitsShown_fields s
    have hunit : ∀ {f : Fld} {i : Nat}, Quiet (f.addr i 0 0) → f.addr i 0 0 ≠ F.DBG_STAT.LEVEL.addr 0 0 0 →
        f.addr i 0 0 ≠ F.UPD_STAT.STATE.addr 0 0 0 → f.addr i 0 0 ≠ F.DBG_OLT_CAN.IN_TEST.addr 0 0 0 →
        (kilnDrive (blankGrant (unitsReleased s))).get f i = (unitsShown s).get f i := fun hq hd hu hc =>
      State.get_of_rd ((hrd _ hq hd hu).trans (set_quiet _ _ _ _ _ _ _ hc))
    have htest := (State.get_of_rd (f := F.DBG_OLT_CAN.IN_TEST) (hrd _ (by decide) (by decide) (by decide))).trans
      (State.get_set_self (unitsShown s) F.DBG_OLT_CAN.IN_TEST 15 0 0 0 (by decide) (by decide))
    exact ⟨_, hrun, hphase, hreleased, (hunit (by decide) (by decide) (by decide) (by decide)).trans hfails,
      (hunit (by decide) (by decide) (by decide) (by decide)).trans hreel, htest,
      (hunit (by decide) (by decide) (by decide) (by decide)).trans hpair,
      (hunit (by decide) (by decide) (by decide) (by decide)).trans hmode, execCoreRelease_frame hrun⟩
  case latched =>
    intro hrel hl
    have hrun := execCoreRelease_of_latched hrel hl
    obtain ⟨hsteady, hmode⟩ := unitsReleased_safe s
    obtain ⟨hphase, hreleased, hcls⟩ := latchNoted_unitsReleased_sys s
    exact ⟨_, hrun, (congrArg SysSt.phase hsteady).trans hphase, (congrArg SysSt.released hsteady).trans hreleased, hmode,
      (congrArg SysSt.safeCls hsteady).trans hcls, execCoreRelease_frame hrun⟩
  case startTimeout =>
    intro hphase hmode
    have hrun := execStartTimeout_of_start hphase hmode
    exact ⟨_, hrun, issue_lastFault _ _ _, by rw [issue, issueFor_eq]; rfl, by rw [issue, issueFor_eq],
      execStartTimeout_mask rfl rfl _ hrun⟩
  case again =>
    intro hphase hfew
    have hrun := execSupEnHoldEnd_of_few_fails hphase hfew
    exact ⟨_, hrun, ⟨rfl, rfl, rfl, rfl, startBegin_kind _ _⟩, startBegin_regsOnly _ _,
      execSupEnHoldEnd_mask rfl rfl rfl rfl rfl rfl rfl _ hrun⟩
  case thirdFailure =>
    intro hphase hmany
    have hrun := execSupEnHoldEnd_of_three_fails hphase hmany
    have hlocked : (startsLocked s).get F.START_LOG.START_LOCK = 1 :=
      (State.get_with_sys _ _ _ _ _ _).trans (State.get_set_self _ _ _ _ _ _ (by decide) (by decide))
    exact ⟨_, hrun, congrArg SysSt.phase (kilnHold_sys _), congrArg SysSt.supEn (kilnHold_sys _),
      (State.get_of_rd (kilnHold_rd (by decide) _)).trans hlocked, (kilnHold_kln _).1,
      execSupEnHoldEnd_mask rfl rfl rfl rfl rfl rfl rfl _ hrun⟩
  case collapse => exact ⟨_, rfl, rfl, rfl, rfl, rfl, SMap.get_filter 0 s.mem inMram a, rfl, rfl⟩

end Sys2Proof.Machine

/-! Supply monitors, the control die's reset and DORMANT (02_modes_power_start.md R51, R65 to R67, R71, R72): what a warning, a fault and a
recovery leave, and O41. -/

namespace Sys2Proof.Machine
open Sys2Proof

/-! ### SUP_STAT -/

theorem showSupplies_sys (s : State) : (showSupplies s).sys = s.sys := sys_of_mask (K := { regs := true }) rfl (showSupplies_mask rfl s)

theorem showSupplies_kln (s : State) : (showSupplies s).kln = s.kln := kln_of_mask (K := { regs := true }) rfl (showSupplies_mask rfl s)

theorem showSupplies_rd {a : Nat} (ha : a ≠ F.SUP_STAT.WARN.addr 0 0 0) (s : State) : (showSupplies s).rd a = s.rd a :=
  ite_keeps (p := (·.rd a)) ((set_quiet _ F.SUP_STAT.FLT _ _ _ _ _ ha).trans (set_quiet _ _ _ _ _ _ _ ha))

/-- While PD8 is on, SUP_STAT shows the warnings. -/
theorem showSupplies_warn {s : State} (hon : s.pdOn 8 = true) : (showSupplies s).get F.SUP_STAT.WARN = s.sys.supWarn % 32 := by
  unfold showSupplies
  rw [if_pos hon, State.get_set_bits _ _ _ _ _ _ _ _ _ _ (by decide) (by decide) (by decide) (by decide),
    State.get_set_self _ _ _ _ _ _ (by decide) (by decide)]
  rfl

/-! ### Warnings (R65, R66, R393) -/

/-- The state in which a supply's warning has been noted, shown and raised. -/
def supplyWarned (k : Nat) (s : State) : State :=
  raise 2 (showSupplies { s with sys := { s.sys with supWarn := putBit s.sys.supWarn k true } })

theorem supplyWarned_sys (k : Nat) (s : State) : (supplyWarned k s).sys = { s.sys with supWarn := putBit s.sys.supWarn k true } := by
  rw [supplyWarned, raise_sys, showSupplies_sys]

theorem supplyWarned_warn (k : Nat) {s : State} (hon : s.pdOn 8 = true) :
    (supplyWarned k s).get F.SUP_STAT.WARN = putBit s.sys.supWarn k true % 32 := by
  rw [supplyWarned, State.get_of_rd (raise_quiet _ _ _ (by decide) (by decide))]
  exact showSupplies_warn hon

theorem supplyWarned_pstate (k : Nat) (s : State) : (supplyWarned k s).get F.CHG_PRE.PSTATE = s.get F.CHG_PRE.PSTATE := by
  refine State.get_of_rd ?_
  rw [supplyWarned, raise_quiet _ _ _ (by decide) (by decide), showSupplies_rd (by decide)]
  exact State.rd_with_sys _ _ _

section
variable {s : State}

/-- A first warning, but for a low VBAT in a precharge. -/
theorem execSupplyWarning_of_first {k : Supply} {above : Bool} (hmon : monitored s k.val = true) (hfirst : s.sys.supWarn.testBit k.val = false)
    (hpre : k.val ≠ 0 ∨ above = true ∨ (s.get F.CHG_PRE.PSTATE ≠ 1 ∧ s.get F.CHG_PRE.PSTATE ≠ 2)) :
    execSupplyWarning k above s = .next (supplyWarned k.val s) := by
  have hgoes : (k.val = 0 && !above &&
      ((supplyWarned k.val s).get F.CHG_PRE.PSTATE == 1 || (supplyWarned k.val s).get F.CHG_PRE.PSTATE == 2)) = false := by
    rw [supplyWarned_pstate]
    rcases hpre with h | h | ⟨h1, h2⟩ <;> simp [*]
  unfold execSupplyWarning
  dsimp only
  rw [if_neg (by simp [hmon, hfirst])]
  exact congrArg _ (if_neg (Bool.eq_false_iff.mp hgoes))

/-- A low VBAT ends a precharge from the 12 V side. -/
theorem execSupplyWarning_of_precharge (hmon : monitored s 0 = true) (hfirst : s.sys.supWarn.testBit 0 = false)
    (hpre : s.get F.CHG_PRE.PSTATE = 1 ∨ s.get F.CHG_PRE.PSTATE = 2) :
    execSupplyWarning 0 false s = .next (chDisable 2 (preFail 3 (supplyWarned 0 s))) := by
  have hgoes : ((0 : Supply).val = 0 && !false &&
      ((supplyWarned 0 s).get F.CHG_PRE.PSTATE == 1 || (supplyWarned 0 s).get F.CHG_PRE.PSTATE == 2)) = true := by
    rw [supplyWarned_pstate]
    simpa using hpre
  unfold execSupplyWarning
  dsimp only
  rw [if_neg (by simp [hmon, hfirst])]
  exact congrArg _ (if_pos hgoes)

/-- A precharge in progress that fails shows why, under 0x0D22 for a low VBAT. -/
theorem preFail_lowVbat {u : State} (hpre : u.get F.CHG_PRE.PSTATE = 1 ∨ u.get F.CHG_PRE.PSTATE = 2) :
    (preFail 3 u).get F.CHG_PRE.PSTATE = 4 ∧ (preFail 3 u).get F.CHG_PRE.FAIL = 3 ∧ (preFail 3 u).sys.lastFault = 0x0D22 ∧
    (preFail 3 u).sys.codeless = u.sys.codeless := by
  unfold preFail
  rw [if_pos hpre, issue_get, issue_get, issue_lastFault]
  refine ⟨?_, ?_, rfl, issueFor_codeless _ _ _ _⟩
  · rw [State.get_set_bits _ _ _ _ _ _ _ _ _ _ (by decide) (by decide) (by decide) (by decide),
      State.get_set_self _ _ _ _ _ _ (by decide) (by decide)]
    rfl
  · rw [State.get_set_self _ _ _ _ _ _ (by decide) (by decide)]
    rfl

end

/-! ### Faults (R65 to R67) -/

/-- The state in which a supply's fault has been noted, shown and raised. -/
def supplyFaultNoted (k : Nat) (s : State) : State :=
  raise 3 ((showSupplies { s with sys := { s.sys with supFlt := putBit s.sys.supFlt k true } }).setBit F.SUP_STAT.FLT_SEEN k true)

/-- The state in which the Kiln has the condition of the supply besides. -/
def supplyFaultTold (k : Nat) (above : Bool) (s : State) : State :=
  match supplyEntry k above with
  | some e => kilnCond e true (supplyFaultNoted k s)
  | none => supplyFaultNoted k s

theorem supplyFaultNoted_sys (k : Nat) (s : State) : (supplyFaultNoted k s).sys = { s.sys with supFlt := putBit s.sys.supFlt k true } := by
  rw [supplyFaultNoted, raise_sys, State.setBit_sys, showSupplies_sys]

theorem supplyFaultTold_codeless (k : Nat) (above : Bool) (s : State) :
    (supplyFaultTold k above s).sys.codeless = { s.sys with supFlt := putBit s.sys.supFlt k true }.codeless := by
  rw [← supplyFaultNoted_sys]
  unfold supplyFaultTold
  split
  · exact kilnCond_codeless _ _ _
  · rfl

theorem supplyFaultTold_seen {k : Nat} (hk : k < 5) (above : Bool) (s : State) :
    (supplyFaultTold k above s).bit F.SUP_STAT.FLT_SEEN k = true := by
  have hnoted : (supplyFaultNoted k s).bit F.SUP_STAT.FLT_SEEN k = true := by
    rw [State.bit, supplyFaultNoted, State.get_of_rd (raise_quiet _ _ _ (by decide) (by decide)), ← State.bit]
    exact State.bit_setBit_self _ _ _ _ _ _ _ hk (by decide)
  unfold supplyFaultTold
  split
  · rw [State.bit, State.get_of_rd (kilnCond_quiet _ _ _ _ (by decide)), ← State.bit, hnoted]
  · exact hnoted

/-- The fault of VDD_ANA is present at its Kiln entry. -/
theorem supplyFaultTold_ana {k : Nat} (hk : k = 2) (above : Bool) (s : State) : (supplyFaultTold k above s).kln.present.testBit 4 = true := by
  subst hk
  have hcond : (supplyFaultTold 2 above s).kln.present = putBit (supplyFaultNoted 2 s).kln.present 4 true := kilnCond_present 4 true _
  rw [hcond, testBit_putBit_self]

/-- A fault of the core or of the I/O supply takes the domains; it resets the control die unless DORMANT entry is on its way. -/
def controlDieHeld (s : State) : State :=
  let u := allOff s
  if u.sys.phase = .dormantEntry then { u with sys := { u.sys with offSeq := [] } }
  else { u with sys := { u.sys with phase := .dieReset, trans := none, reacts := [], onSeq := [], released := false, loader := {} } }

section
variable {s : State} {k : Supply} {above : Bool}

/-- A fault notes the level of VBAT; where the supply is monitored it is told, and may hold the control die. -/
theorem execSupplyFault_eq (k : Supply) (above : Bool) (s : State) : execSupplyFault k above s =
    .next (let u := if k.val = 0 then { s with sys := { s.sys with vbat := if above then 2 else 1 } } else s
      if !monitored u k.val then u
      else if k.val = 1 ∨ k.val = 3 then controlDieHeld (supplyFaultTold k.val above u) else supplyFaultTold k.val above u) := rfl

/-- A fault of VDD_ANA or of the gate supply. -/
theorem execSupplyFault_of_minor (hmon : monitored s k.val = true) (hk : k.val = 2 ∨ k.val = 4) :
    execSupplyFault k above s = .next (supplyFaultTold k.val above s) := by
  have h0 : k.val ≠ 0 := by omega
  have h13 : ¬ (k.val = 1 ∨ k.val = 3) := by omega
  simp [execSupplyFault_eq, h0, h13, hmon]

theorem execSupplyFault_of_core (hmon : monitored s k.val = true) (hk : k.val = 1 ∨ k.val = 3) :
    execSupplyFault k above s = .next (controlDieHeld (supplyFaultTold k.val above s)) := by
  have h0 : k.val ≠ 0 := by omega
  simp [execSupplyFault_eq, h0, hk, hmon]

theorem controlDieHeld_of_entry (h : (allOff s).sys.phase = .dormantEntry) :
    controlDieHeld s = { allOff s with sys := { (allOff s).sys with offSeq := [] } } := if_pos h

theorem controlDieHeld_of_reset (h : (allOff s).sys.phase ≠ .dormantEntry) : controlDieHeld s = { allOff s with sys :=
    { (allOff s).sys with phase := .dieReset, trans := none, reacts := [], onSeq := [], released := false, loader := {} } } := if_neg h

theorem allOff_supplyFaultTold_sys (k : Nat) (above : Bool) (s : State) :
    (allOff (supplyFaultTold k above s)).sys.steady = { s.sys with supFlt := putBit s.sys.supFlt k true }.steady :=
  (allOff_steady _).trans (SysSt.steady_of_codeless (supplyFaultTold_codeless k above s))

theorem execSupplyFault_frame {t : State} (h : execSupplyFault k above s = .next t) : OnlyChanges .die s t :=
  execSupplyFault_mask rfl rfl rfl rfl rfl rfl rfl rfl rfl rfl rfl rfl rfl rfl rfl rfl rfl rfl rfl rfl rfl _ _ _ h

/-- Unmonitored, a VBAT level is only noted. -/
theorem execSupplyFault_of_unmonitored_vbat (hmon : monitored s 0 = false) :
    execSupplyFault 0 above s = .next { s with sys := { s.sys with vbat := if above then 2 else 1 } } := by
  have hmon' : monitored { s with sys := { s.sys with vbat := if above then 2 else 1 } } 0 = false := hmon
  simp [execSupplyFault_eq, hmon']

/-! ### Recovery (R65, R67) -/

theorem execSupplyRecovery_of_warning : execSupplyRecovery k false s =
    .next (showSupplies { s with sys := { s.sys with supWarn := putBit s.sys.supWarn k.val false } }) := rfl

/-- The state in which a supply's fault is gone. -/
def supplyRecovered (k : Nat) (s : State) : State := showSupplies { s with sys := { s.sys with supFlt := putBit s.sys.supFlt k false } }

/-- With the fault of a supply other than VBAT the condition of its Kiln entry goes. -/
theorem execSupplyRecovery_of_fault (hk : k.val ≠ 0) : execSupplyRecovery k true s =
    .next (if k.val < 4 then kilnCond (k.val + 2) false (supplyRecovered k.val s) else supplyRecovered k.val s) := by
  obtain ⟨n, hn⟩ := k
  match n, hn, hk with
  | 1, _, _ => rfl
  | 2, _, _ => rfl
  | 3, _, _ => rfl
  | 4, _, _ => rfl

end

section
variable {s : State}

theorem execControlDieRelease_of_good (hphase : s.sys.phase = .dieReset) (hcore : s.sys.supFlt.testBit 1 = false)
    (hio : s.sys.supFlt.testBit 3 = false) : execControlDieRelease s = .next (startBegin 2 s) := by
  simp [execControlDieRelease, hphase, hcore, hio]

theorem execControlDieRelease_of_coreFault (hphase : s.sys.phase = .dieReset) (hcore : s.sys.supFlt.testBit 1 = true) :
    execControlDieRelease s = .next s := by
  simp [execControlDieRelease, hphase, hcore]

/-! ### DORMANT (R51, R71, R72) -/

theorem execDormantDomainOff_of_next {d : Nat} {rest : List Nat} (hphase : s.sys.phase = .dormantEntry) (hseq : s.sys.offSeq = d :: rest) :
    execDormantDomainOff s = .next (kilnDrive (domainOff d { s with sys := { s.sys with offSeq := rest } })) := by
  simp [execDormantDomainOff, hphase, hseq]

theorem execDormantEntryComplete_of_allOff (hphase : s.sys.phase = .dormantEntry) (hseq : s.sys.offSeq = []) :
    execDormantEntryComplete s = .next (kilnHold { s with sys :=
      { s.sys with phase := .dormant, supEn := false, released := false, trans := none, reacts := [] } }) := by
  simp [execDormantEntryComplete, hphase, hseq]

theorem execLatchedWakeStart_of_latched (hphase : s.sys.phase = .dormant) (hwake : s.emb.latched = true) :
    execLatchedWakeStart s = .next (startBegin 1 { s with emb := { s.emb with latched := false } }) := by
  simp [execLatchedWakeStart, hphase, hwake]

theorem State.mode_of_dormant (h : s.sys.phase = .dormant) : s.mode = 0 := by
  unfold State.mode
  rw [h]

/-- The Kiln's state as it leaves hold: unconfigured, latched or normal. -/
def holdLeft (s : State) : State :=
  kilnDrive (s.setKln { s.kln with kstate := if !s.kln.locked then 1 else if kilnLatched s then 3 else 2 })

theorem holdLeft_sys (s : State) : (holdLeft s).sys = s.sys := (kilnDrive_sys _).trans (State.setKln_sys _ _)

theorem holdLeft_kstate (s : State) : (holdLeft s).kln.kstate = if s.kln.locked = false then 1 else if kilnLatched s then 3 else 2 := by
  rw [holdLeft, kilnDrive_kstate]
  cases s.kln.locked <;> rfl

/-- Out of hold, what VBAT's level makes present counts as arisen. -/
theorem execKilnHoldExit_of_hold (hk : s.kln.kstate = 4) (hsup : s.sys.supEn = true) : execKilnHoldExit s =
    .next (let u := holdLeft s
      let u := if u.sys.vbat = 1 then kilnCond 1 true u else u
      let u := if u.sys.vbat = 2 then kilnCond 2 true u else u
      { u with sys := { u.sys with supFlt := putBit u.sys.supFlt 0 (u.sys.vbat != 0) } }) :=
  congrArg Host.Outcome.next (if_neg (by simp [hk, hsup]))

theorem execKilnHoldExit_of_good_vbat (hk : s.kln.kstate = 4) (hsup : s.sys.supEn = true) (hvbat : s.sys.vbat = 0) :
    execKilnHoldExit s = .next { holdLeft s with sys := { s.sys with supFlt := putBit s.sys.supFlt 0 false } } := by
  simp [execKilnHoldExit_of_hold hk hsup, holdLeft_sys, hvbat]

end

/-- Settles O41: a warning, a fault and a recovery are noted, shown and told to the Kiln each by its own branch, and DORMANT's entry and
end are the steps their phases allow. -/
theorem suppliesAndDormant : Obligations.SuppliesAndDormant := by
  intro s k above d e rest warn flt pre started
  refine ⟨?warned, ?lowVbat, ?minor, ?core, ?coreInEntry, ?levelOnly, ?warningGone, ?faultGone, ?release, ?heldStill, ?domainFalls,
    ?entered, ?wake, ?holdExit⟩
  case warned =>
    intro hmon hfirst hpre
    have hrun := execSupplyWarning_of_first hmon hfirst hpre
    exact ⟨_, hrun, supplyWarned_sys _ _, supplyWarned_warn _, execSupplyWarning_mask rfl rfl rfl rfl rfl rfl rfl _ _ _ hrun⟩
  case lowVbat =>
    intro hmon hfirst hpre
    have hrun := execSupplyWarning_of_precharge hmon hfirst hpre
    obtain ⟨hstate, hwhy, hcode, hsys⟩ := preFail_lowVbat (u := supplyWarned 0 s) (by rwa [supplyWarned_pstate])
    have hrd := chDisable_aloof (a := F.CHG_PRE.PSTATE.addr 0 0 0) (by decide) 2 (by decide) (preFail 3 (supplyWarned 0 s))
    have hstop := chDisable_sys 2 (preFail 3 (supplyWarned 0 s))
    refine ⟨_, hrun, (State.get_of_rd hrd).trans hstate, (State.get_of_rd (f := F.CHG_PRE.FAIL) hrd).trans hwhy, by rw [hstop, hcode], ?_,
      execSupplyWarning_mask rfl rfl rfl rfl rfl rfl rfl _ _ _ hrun⟩
    rw [hstop]
    exact (congrArg SysSt.supWarn hsys).trans (congrArg SysSt.supWarn (supplyWarned_sys 0 s))
  case minor =>
    intro hmon hk
    have hrun := execSupplyFault_of_minor (above := above) hmon hk
    have hsys := supplyFaultTold_codeless k.val above s
    exact ⟨_, hrun, (congrArg SysSt.supFlt hsys :), supplyFaultTold_seen k.isLt above s, fun h2 => supplyFaultTold_ana h2 above s,
      (congrArg SysSt.phase hsys :), execSupplyFault_frame hrun⟩
  case core =>
    intro hmon hk hphase
    have hrun := execSupplyFault_of_core (above := above) hmon hk
    have hsys := allOff_supplyFaultTold_sys k.val above s
    rw [controlDieHeld_of_reset ((congrArg SysSt.phase hsys).trans_ne hphase)] at hrun
    exact ⟨_, hrun, (congrArg SysSt.supFlt hsys :), rfl, rfl, rfl, fun hd => allOff_pdOn hd _, execSupplyFault_frame hrun⟩
  case coreInEntry =>
    intro hmon hk hphase
    have hrun := execSupplyFault_of_core (above := above) hmon hk
    have hsys := allOff_supplyFaultTold_sys k.val above s
    have hphase' := (congrArg SysSt.phase hsys).trans hphase
    rw [controlDieHeld_of_entry hphase'] at hrun
    exact ⟨_, hrun, (congrArg SysSt.supFlt hsys :), hphase', rfl, fun hd => allOff_pdOn hd _, execSupplyFault_frame hrun⟩
  case levelOnly => exact fun hmon => ⟨_, execSupplyFault_of_unmonitored_vbat hmon, rfl⟩
  case warningGone =>
    have hrun := execSupplyRecovery_of_warning (s := s) (k := k)
    refine ⟨_, hrun, showSupplies_sys _, showSupplies_kln _, fun hon => showSupplies_warn hon, fun a ha => ?_,
      execSupplyRecovery_mask rfl rfl rfl rfl rfl rfl _ _ _ hrun⟩
    exact (showSupplies_rd (List.ne_of_not_mem_cons ha) _).trans (State.rd_with_sys _ _ _)
  case faultGone =>
    intro hk
    have hrun := execSupplyRecovery_of_fault (s := s) hk
    have hsys : ∀ u : State, (if k.val < 4 then kilnCond (k.val + 2) false u else u).sys = u.sys := fun u =>
      ite_keeps (p := (·.sys)) (by rw [kilnCond_false, State.setKln_sys])
    refine ⟨_, hrun, (hsys _).trans (showSupplies_sys _), fun h4 => ?_, fun a ha => ?_,
      execSupplyRecovery_mask rfl rfl rfl rfl rfl rfl _ _ _ hrun⟩
    · rw [if_pos h4, kilnCond_present, testBit_putBit_self]
    · have hcond : ∀ u : State, (if k.val < 4 then kilnCond (k.val + 2) false u else u).rd a = u.rd a := fun u =>
        ite_keeps (p := (·.rd a)) (by rw [kilnCond_false, setKln_rd])
      exact (hcond _).trans ((showSupplies_rd (List.ne_of_not_mem_cons ha) _).trans (State.rd_with_sys _ _ _))
  case release =>
    intro hphase hcore hio
    have hrun := execControlDieRelease_of_good hphase hcore hio
    exact ⟨_, hrun, ⟨rfl, rfl, rfl, startBegin_kind 2 s⟩, startBegin_regsOnly 2 s, execControlDieRelease_mask rfl rfl rfl rfl _ hrun⟩
  case heldStill => exact fun hphase hcore => ⟨_, execControlDieRelease_of_coreFault hphase hcore, rfl⟩
  case domainFalls =>
    intro hphase hseq he
    have hrun := execDormantDomainOff_of_next hphase hseq
    have hsys := domainOff_steady e.val { s with sys := { s.sys with offSeq := rest } }
    rw [← kilnDrive_sys] at hsys
    have hoff := domainOff_pdOn he (Nat.le_of_lt_succ e.isLt) { s with sys := { s.sys with offSeq := rest } }
    exact ⟨_, hrun, (State.pdOn_of_rd he (kilnDrive_quiet _ _ (by decide))).trans hoff, (congrArg SysSt.offSeq hsys :),
      (congrArg SysSt.phase hsys).trans hphase,
      execDormantDomainOff_mask rfl rfl rfl rfl rfl rfl rfl rfl rfl rfl rfl rfl rfl rfl rfl rfl rfl rfl rfl rfl rfl _ hrun⟩
  case entered =>
    intro hphase hseq
    have hrun := execDormantEntryComplete_of_allOff hphase hseq
    obtain ⟨hkstate, hpresent⟩ := kilnHold_kln { s with sys :=
      { s.sys with phase := .dormant, supEn := false, released := false, trans := none, reacts := [] } }
    have hframe := execDormantEntryComplete_mask (K := { regs := true, sys := true, fab := true, pwm := true, kln := true, act := true })
      rfl rfl rfl rfl rfl rfl _ hrun
    exact ⟨_, hrun, State.mode_of_dormant (congrArg SysSt.phase (kilnHold_sys _)), congrArg SysSt.supEn (kilnHold_sys _),
      congrArg SysSt.released (kilnHold_sys _), hkstate, hpresent, mem_of_mask rfl hframe, hframe⟩
  case wake =>
    intro hphase hwake
    have hrun := execLatchedWakeStart_of_latched hphase hwake
    exact ⟨_, hrun, ⟨rfl, rfl, rfl, startBegin_kind 1 _⟩, rfl, fun a ha => startBegin_regsOnly 1 _ a ha,
      execLatchedWakeStart_mask rfl rfl rfl rfl rfl _ hrun⟩
  case holdExit =>
    intro hk hsup hvbat
    have hrun := execKilnHoldExit_of_good_vbat hk hsup hvbat
    exact ⟨_, hrun, holdLeft_kstate s, rfl, execKilnHoldExit_mask rfl rfl rfl rfl rfl rfl _ hrun⟩

end Sys2Proof.Machine

/-! A mapped read of the flash during a program or erase (03_skein.md R98): the command and the bus read refuse and count alike. O60
rests on it. -/

namespace Sys2Proof.Machine
open Sys2Proof

/-- The flash is busy and a read of it was refused: a bus error that is counted; the operation goes on as it was. -/
def FlashReadRefused (s t : State) : Prop :=
  t.resp = .error ∧ t.get F.SKN_ERR.MMAP_BUSY = min (s.get F.SKN_ERR.MMAP_BUSY + 1) 255 ∧ t.get F.SKN_STAT.BUSY = 1 ∧
    t.journal = s.journal ∧ RegsOnly [F.SKN_ERR.SAT.addr 0 0 0] s t ∧ OnlyChanges { regs := true, resp := true } s t

theorem busError_bump_refused {s : State} (hbusy : s.getB F.SKN_STAT.BUSY = true) :
    FlashReadRefused s (busError (s.bump F.SKN_ERR.MMAP_BUSY F.SKN_ERR.SAT)) := by
  have hregs : RegsOnly [F.SKN_ERR.SAT.addr 0 0 0] s (busError (s.bump F.SKN_ERR.MMAP_BUSY F.SKN_ERR.SAT)) :=
    fun a ha => State.rd_bump_ne (List.ne_of_not_mem_cons ha) (List.ne_of_not_mem_cons ha)
  have hframe : OnlyChanges { regs := true, resp := true } s (busError (s.bump F.SKN_ERR.MMAP_BUSY F.SKN_ERR.SAT)) :=
    (busError_mask rfl _).trans (bump_mask rfl _ _ _ _ _ _ _)
  have hone : s.get F.SKN_STAT.BUSY = 1 := by
    have hlt : s.get F.SKN_STAT.BUSY < 2 := State.get_lt s F.SKN_STAT.BUSY 0 0 0
    have hne : s.get F.SKN_STAT.BUSY ≠ 0 := by simpa [State.getB] using hbusy
    omega
  refine ⟨rfl, get_bump_mmapBusy s, (State.get_of_rd (hregs _ (by decide))).trans hone, ?_, hregs, hframe⟩
  exact congrArg (·.priv.journal) (tnd_of_mask rfl hframe)

theorem flashRead_of_busy {s : State} {m : Master} {a size : Nat} {synd : Syndrome} (h : FlashOpen s m (a - 0x60000000))
    (hal : aligned a size = true) (hbusy : s.getB F.SKN_STAT.BUSY = true) :
    flashRead m a size synd s = busError (s.bump F.SKN_ERR.MMAP_BUSY F.SKN_ERR.SAT) := by
  obtain ⟨hreader, hready, hok, hsize⟩ := h
  simp [flashRead, hreader, hready, hok, hsize, hal, hbusy]

/-- A bus read in the flash window that no calibration page stands in for is a read of the flash. -/
theorem busRead_eq_flashRead {s : State} {m : Master} {a size : Nat} {synd : Syndrome} (hc : busAddr s m a = a)
    (hlo : 0x60000000 ≤ a) (hhi : a < 0x70000000) : busRead m a size synd s = flashRead m a size synd s := by
  have hdict : inDict a = false := by simp only [inDict, decide_eq_false_iff_not]; omega
  have hflash : inFlash a = true := by simp only [inFlash, decide_eq_true_eq]; omega
  simp [busRead, hc, hdict, hflash]

theorem runs_memoryRead {s : State} {m : Master} {a : Word} {size : Fin 9} {synd : Syndrome} {P : State → Prop}
    (h : P (busRead m a.toNat size.val synd s)) : Runs (.memoryRead m a size synd) s P := ⟨_, rfl, h⟩

/-- Settles O60: the flash command and the bus read both end in the refusal that is counted. -/
theorem flashBusyRule : Obligations.FlashBusyRule := by
  intro s m addr v readOk size synd hreader hready hok hsize hbusy refused
  refine ⟨⟨_, execMmapFlashRead_of_busy ⟨hreader, hready, hok, hsize⟩ hbusy, busError_bump_refused hbusy⟩, fun hc hal => ?_⟩
  have haddr : (0x60000000 + addr.setWidth 32 : Word).toNat = 0x60000000 + addr.toNat := by bv_omega
  have hopen : FlashOpen s m (0x60000000 + addr.toNat - 0x60000000) := ⟨hreader, hready, hok, by omega⟩
  refine runs_memoryRead ?_
  rw [haddr, busRead_eq_flashRead hc (by omega) (by omega), flashRead_of_busy hopen hal hbusy]
  exact busError_bump_refused hbusy

end Sys2Proof.Machine

/-! The Skein loader before release (03_skein.md R76, R80, R86, R91, R93, R94, R96, R99; 02_modes_power_start.md R61, R63; 15_safety.md
R431; 18_update.md R524): the two ways a check fails, what each step of the loader does once it is due, the write-once registers, and
the Kiln's table. O42 rests on these. -/

namespace Sys2Proof.Machine
open Sys2Proof

/-! ### The two ways to fail (R91) -/

theorem loadFail_frame (code : Nat) (s : State) : OnlyChanges .die s (loadFail code s) :=
  loadFail_mask rfl rfl rfl rfl rfl rfl rfl rfl rfl rfl rfl rfl rfl rfl rfl rfl rfl rfl rfl rfl rfl code s

/-- A failed load holds the part with its code, in the limp image with 0x0330. -/
theorem loadFail_holds {code : Nat} (hcode : code < 65536) (s : State) :
    (loadFail code s).sys.phase = .hold ∧ (loadFail code s).sys.supEn = false ∧
    (loadFail code s).get F.START_LOG.LAST_FAULT = if s.sys.loader.limp then 0x0330 else code := by
  have hfits : (if s.sys.loader.limp then 0x0330 else code) < 65536 := by split <;> omega
  obtain ⟨hphase, hsup, -, hlast, -⟩ := startFail_holds hfits 0 s
  exact ⟨hphase, hsup, hlast⟩

/-- The main image is abandoned for the limp image, the code that says why standing in SKN_STAT; no dictionary is left. -/
def FellToLimp (code : Nat) (t : State) : Prop :=
  t.get F.SKN_STAT.LIMP_BOOT = 1 ∧ t.get F.SKN_STAT.LAST_CODE = code ∧ t.sys.loader = { flashUp := true, limp := true } ∧
    t.get F.SIG_CTL.DICT_OK = 0 ∧ t.fab.dict = []

theorem limpFall_frame (code : Nat) (s : State) : OnlyChanges .die s (limpFall code s) :=
  limpFall_mask rfl rfl rfl rfl rfl rfl rfl rfl rfl rfl rfl rfl rfl rfl rfl rfl rfl rfl rfl rfl rfl code s

theorem updateFall_frame (code : Nat) (s : State) : OnlyChanges .die s (updateFall code s) :=
  updateFall_mask rfl rfl rfl rfl rfl rfl rfl rfl rfl rfl rfl rfl rfl rfl rfl rfl rfl rfl rfl rfl rfl code s

/-- SKN_STAT as a fall to the limp image leaves it. -/
def limpShown (code : Nat) (s : State) : State :=
  ((s.set F.SKN_STAT.LAST_CODE code).set F.SKN_STAT.LIMP_BOOT 1).set F.SKN_STAT.N_COMP 0

theorem limpShown_get {code : Nat} (hcode : code < 65536) (s : State) : (limpShown code s).get F.SKN_STAT.LIMP_BOOT = 1 ∧
    (limpShown code s).get F.SKN_STAT.LAST_CODE = code := by
  unfold limpShown
  constructor
  · rw [State.get_set_bits _ _ _ _ _ _ _ _ _ _ (by decide) (by decide) (by decide) (by decide),
      State.get_set_self _ _ _ _ _ _ (by decide) (by decide)]
    rfl
  · rw [State.get_set_bits _ _ _ _ _ _ _ _ _ _ (by decide) (by decide) (by decide) (by decide),
      State.get_set_bits _ _ _ _ _ _ _ _ _ _ (by decide) (by decide) (by decide) (by decide),
      State.get_set_self _ _ _ _ _ _ (by decide) (by decide)]
    exact Nat.mod_eq_of_lt hcode

theorem limpFall_of_main {code : Nat} {s : State} (hmain : s.sys.loader.limp = false) : limpFall code s =
    State.setLoader { (limpShown code s).set F.SIG_CTL.DICT_OK 0 with fab := { s.fab with dict := [] } } { flashUp := true, limp := true } := by
  rw [limpFall, if_neg (by simp [hmain])]
  rfl

theorem limpFall_fell {code : Nat} (hcode : code < 65536) {s : State} (hmain : s.sys.loader.limp = false) :
    FellToLimp code (limpFall code s) := by
  obtain ⟨hlimp, hlast⟩ := limpShown_get hcode s
  have hregs : (limpFall code s).regs = ((limpShown code s).set F.SIG_CTL.DICT_OK 0).regs := by
    rw [limpFall_of_main hmain]
    rfl
  unfold FellToLimp
  rw [State.get_of_regs hregs, State.get_of_regs hregs, State.get_of_regs hregs, State.get_set_addr _ _ _ _ _ _ _ _ _ _ (by decide),
    State.get_set_addr _ _ _ _ _ _ _ _ _ _ (by decide), State.get_set_self _ _ _ _ _ _ (by decide) (by decide), limpFall_of_main hmain]
  exact ⟨hlimp, hlast, rfl, rfl, rfl⟩

theorem issue_loader (code cls : Nat) (s : State) : (issue code cls s).sys.loader = s.sys.loader := by
  rw [issue, issueFor_eq]

/-- A torn update is issued besides (R524). -/
theorem updateFall_fell {code : Nat} (hcode : code < 65536) {s : State} (hmain : s.sys.loader.limp = false) :
    FellToLimp code (updateFall code s) ∧ (updateFall code s).sys.lastFault = code := by
  have hmain' : (issue code 0 s).sys.loader.limp = false := by rw [issue_loader, hmain]
  refine ⟨limpFall_fell hcode hmain', ?_⟩
  rw [updateFall, limpFall_of_main hmain']
  exact issue_lastFault code 0 s

/-! ### Flash and header (R76, R96, R99, R524) -/

section
variable {s : State}

/-- SKN_FLASH and SKN_STAT as the flash's bring-up leaves them. -/
def flashShown (x : FlashInfo) (s : State) : State :=
  (((s.set F.SKN_FLASH.DENSITY_LOG2 x.densityLog2.val).set F.SKN_FLASH.DUMMY x.dummy.val).set F.SKN_FLASH.PROTO 2).set F.SKN_STAT.FLASH_OK 1

theorem flashShown_get (x : FlashInfo) (s : State) : (flashShown x s).get F.SKN_STAT.FLASH_OK = 1 ∧
    (flashShown x s).get F.SKN_FLASH.DENSITY_LOG2 = x.densityLog2.val ∧ (flashShown x s).get F.SKN_FLASH.DUMMY = x.dummy.val ∧
    (flashShown x s).get F.SKN_FLASH.PROTO = 2 := by
  unfold flashShown
  refine ⟨State.get_set_self _ _ _ _ _ _ (by decide) (by decide), ?_, ?_, ?_⟩ <;>
    rw [State.get_set_addr _ _ _ _ _ _ _ _ _ _ (by decide)]
  · rw [State.get_set_bits _ _ _ _ _ _ _ _ _ _ (by decide) (by decide) (by decide) (by decide),
      State.get_set_bits _ _ _ _ _ _ _ _ _ _ (by decide) (by decide) (by decide) (by decide),
      State.get_set_self _ _ _ _ _ _ (by decide) (by decide)]
    exact Nat.mod_eq_of_lt (Nat.lt_trans x.densityLog2.isLt (by decide))
  · rw [State.get_set_bits _ _ _ _ _ _ _ _ _ _ (by decide) (by decide) (by decide) (by decide),
      State.get_set_self _ _ _ _ _ _ (by decide) (by decide)]
    exact Nat.mod_eq_of_lt x.dummy.isLt
  · rw [State.get_set_self _ _ _ _ _ _ (by decide) (by decide)]
    rfl

theorem flashShown_regsOnly (x : FlashInfo) (s : State) :
    RegsOnly [F.SKN_STAT.FLASH_OK.addr 0 0 0, F.SKN_FLASH.PROTO.addr 0 0 0] s (flashShown x s) := by
  intro a ha
  obtain ⟨hstat, hflash⟩ : a ≠ F.SKN_STAT.FLASH_OK.addr 0 0 0 ∧ a ≠ F.SKN_FLASH.PROTO.addr 0 0 0 := by simpa using ha
  unfold flashShown
  rw [set_quiet _ _ _ _ _ _ _ hstat]
  exact (set_quiet _ F.SKN_FLASH.PROTO _ _ _ _ _ hflash).trans ((set_quiet _ F.SKN_FLASH.DUMMY _ _ _ _ _ hflash).trans
    (set_quiet _ F.SKN_FLASH.DENSITY_LOG2 _ _ _ _ _ hflash))

theorem setLoader_rd (s : State) (x : LoaderSt) (a : Nat) : (s.setLoader x).rd a = s.rd a := State.rd_with_sys _ _ _

theorem setLoader_get (s : State) (x : LoaderSt) (f : Fld) (i j k : Nat) : (s.setLoader x).get f i j k = s.get f i j k :=
  State.get_with_sys _ _ _ _ _ _

/-- Once PD9 is filled the flash's own tables decide. -/
theorem execFlashInit_of_read {x : FlashInfo} (hload : loading s = true) (hready : s.pdReady 9 = true)
    (hdown : s.sys.loader.flashUp = false) (hread : x.readOk = true) : execFlashInit x s =
    .next (if x.sfdpOk then (flashShown x s).setLoader { s.sys.loader with flashUp := true } else loadFail 0x0301 s) := by
  cases hok : x.sfdpOk <;> simp [execFlashInit, hload, hready, hdown, hread, hok, flashShown]

theorem settleUpdate_of_empty (hop : s.journal.op = 0) (hsteps : s.journal.steps = []) (hn : s.journal.nSteps = 0) :
    settleUpdate s = (false, s) := by
  simp [settleUpdate, hop, hsteps, hn]

theorem settleUpdate_of_torn (hop : s.journal.op = 1) : settleUpdate s = (true, updateFall 0x0224 s) := by
  simp [settleUpdate, hop]

/-- The flash is up, PD1 and PD9 are ready, and the header has not been taken. -/
def HeaderDue (s : State) : Prop :=
  loading s = true ∧ s.sys.loader.flashUp = true ∧ s.sys.loader.headerOk = false ∧ s.pdReady 1 = true ∧ s.pdReady 9 = true

theorem execHeaderVerified_of_unread {h : Header} (hdue : HeaderDue s) : execHeaderVerified h false s = .next (loadFail 0x0302 s) := by
  obtain ⟨hload, hup, hnew, h1, h9⟩ := hdue
  simp [execHeaderVerified, hload, hup, hnew, h1, h9]

/-- In the limp image no journal is settled. -/
theorem execHeaderVerified_of_due {h : Header} (hdue : HeaderDue s) : execHeaderVerified h true s =
    .next (if s.sys.loader.limp then takeHeader h s
      else if (settleUpdate s).1 then (settleUpdate s).2 else takeHeader h (settleUpdate s).2) := by
  obtain ⟨hload, hup, hnew, h1, h9⟩ := hdue
  simp [execHeaderVerified, hload, hup, hnew, h1, h9]

theorem execHeaderVerified_of_settled {h : Header} (hdue : HeaderDue s)
    (hrest : s.sys.loader.limp = true ∨ (s.journal.op = 0 ∧ s.journal.steps = [] ∧ s.journal.nSteps = 0)) :
    execHeaderVerified h true s = .next (takeHeader h s) := by
  rw [execHeaderVerified_of_due hdue]
  rcases hrest with hlimp | ⟨hop, hsteps, hn⟩
  · rw [if_pos hlimp]
  · simp [settleUpdate_of_empty hop hsteps hn]

theorem execHeaderVerified_of_torn {h : Header} (hdue : HeaderDue s) (hmain : s.sys.loader.limp = false) (hop : s.journal.op = 1) :
    execHeaderVerified h true s = .next (updateFall 0x0224 s) := by
  simp [execHeaderVerified_of_due hdue, settleUpdate_of_torn hop, hmain]

theorem takeHeader_of_refused {h : Header} {c : Nat} (hc : headerCode s h = some c) : takeHeader h s = limpFall c s := by
  simp [takeHeader, hc]

/-- The state in which the header has been taken. -/
def headerTaken (h : Header) (s : State) : State :=
  State.setLoader { s with sys := { s.sys with startTimeout := if h.startTimeout = 0 then 500 else h.startTimeout } }
    { s.sys.loader with headerOk := true, hdr := some h }

theorem takeHeader_of_accepted {h : Header} (hc : headerCode s h = none) (hsize : h.flashMin ≤ flashSize s) :
    takeHeader h s = headerTaken h s := by
  simp [takeHeader, hc, Nat.not_lt.mpr hsize, headerTaken]

theorem execFlashReadError_of_loading (hload : loading s = true) (hup : s.sys.loader.flashUp = true) :
    execFlashReadError s = .next (loadFail 0x0302 s) := by
  simp [execFlashReadError, hload, hup]

/-! ### Descriptors and components (R80, R91, R94) -/

theorem execDescriptorsVerified_of_accepted {h : Header} {ds : List Descriptor} (hload : loading s = true)
    (hnew : s.sys.loader.descsOk = false) (hhdr : s.sys.loader.hdr = some h) (hfields : ∀ e ∈ ds, descOk s h e = true)
    (hlen : ds.length = h.nDesc) (hapart : slotsApart ds = true) (hset : setOk s ds = true)
    (hifaces : ifacesOk (ds.map fun e => (e.provides, e.requires)) = true) : execDescriptorsVerified ds true s =
    .next (s.setLoader { s.sys.loader with descs := ds, descsOk := true }) := by
  have hfind : ds.find? (fun e => !descOk s h e) = none := by simpa using hfields
  simp [execDescriptorsVerified, hload, hnew, hhdr, hfind, hlen, hapart, hset, hifaces]

theorem execDescriptorsVerified_of_bad {h : Header} {ds : List Descriptor} {d : Descriptor} (hload : loading s = true)
    (hnew : s.sys.loader.descsOk = false) (hhdr : s.sys.loader.hdr = some h) (hbad : ds.find? (fun e => !descOk s h e) = some d)
    (hold : d.flags.testBit 1 = false) : execDescriptorsVerified ds true s = .next (limpFall 0x0307 s) := by
  simp [execDescriptorsVerified, hload, hnew, hhdr, hbad, hold]

/-- The component d is streamed next and its destination is ready. -/
def ComponentDue (s : State) (d : Descriptor) : Prop :=
  loading s = true ∧ s.sys.loader.descsOk = true ∧ s.sys.loader.configDone = false ∧ nextDesc s.sys.loader = some d ∧ destReady s d = true

/-- The state in which a verified component is placed and counted as done. -/
def componentDone (d : Descriptor) (x : Streamed) (s : State) : State :=
  let u := placeComponent d x.data x.program s
  let u := u.setLoader { u.sys.loader with done := u.sys.loader.done ++ [compOf d] }
  if d.type = 9 then { u with sys := { u.sys with cfgVersion := d.version } } else u

theorem execComponentVerified_of_accepted {d : Descriptor} {x : Streamed} (hdue : ComponentDue s d) (hread : x.readOk = true)
    (hhash : x.hashOk = true) (htag : d.flags.testBit 0 = true → x.tagOk = true) : execComponentVerified x s =
    .next ((componentDone d x s).set F.SKN_STAT.N_COMP (componentDone d x s).sys.loader.done.length) := by
  obtain ⟨hload, hdescs, hconf, hnext, hdest⟩ := hdue
  have hgood : (!x.hashOk || d.flags.testBit 0 && !x.tagOk) = false := by
    cases hf : d.flags.testBit 0
    · simp [hhash]
    · simp [hhash, htag hf]
  simp only [execComponentVerified, hload, hdescs, hconf, hnext, hdest, hread, hgood]
  rfl

theorem execComponentVerified_of_bad_hash {d : Descriptor} {x : Streamed} (hdue : ComponentDue s d) (hread : x.readOk = true)
    (hhash : x.hashOk = false) (hold : d.flags.testBit 1 = false) : execComponentVerified x s = .next (limpFall 0x030A s) := by
  obtain ⟨hload, hdescs, hconf, hnext, hdest⟩ := hdue
  simp [execComponentVerified, hload, hdescs, hconf, hnext, hdest, hread, hhash, hold]

theorem place_sys (key : Nat) (data : List Byte) (s : State) : (place key data s).sys = s.sys :=
  sys_of_mask (K := { mem := true, fab := true }) rfl (place_mask rfl rfl key data s)

theorem loadTcms_sys (p : Nat) (data : List Byte) (s : State) : (loadTcms p data s).sys = s.sys :=
  sys_of_mask (K := { mem := true, fab := true }) rfl (loadTcms_mask rfl rfl p data s)

/-- Placing a component's bytes verifies no further component. -/
theorem placeComponent_done (d : Descriptor) (data : List Byte) (program : List Word) (s : State) :
    (placeComponent d data program s).sys.loader.done = s.sys.loader.done := by
  unfold placeComponent
  dsimp only
  split
  · rfl
  · rw [loadTcms_sys]
    exact ite_keeps (p := (·.sys.loader.done)) (by rw [place_sys])
  · rw [place_sys]
    rfl
  · rfl
  · exact ite_keeps (p := (·.sys.loader.done)) (by rw [place_sys])
  · exact ite_keeps (p := (·.sys.loader.done)) (by rw [place_sys])
  · rfl

theorem componentDone_done (d : Descriptor) (x : Streamed) (s : State) :
    (componentDone d x s).sys.loader.done = s.sys.loader.done ++ [compOf d] := by
  rw [← placeComponent_done d x.data x.program s]
  exact ite_keeps (p := (·.sys.loader.done)) rfl

theorem componentDone_cfgVersion {d : Descriptor} (htype : d.type = 9) (x : Streamed) (s : State) :
    (componentDone d x s).sys.cfgVersion = d.version := by
  rw [componentDone, if_pos htype]

/-- A Whorl's component lies in its window. -/
theorem componentDone_whorl {d : Descriptor} (htype : d.type = 5) (x : Streamed) (s : State) :
    (componentDone d x s).bytes (whlBase d.inst) x.data.length = x.data := by
  have hmem : (componentDone d x s).mem = (placeComponent d x.data x.program s).mem := ite_keeps (p := (·.mem)) rfl
  rw [State.bytes_of_mem hmem, placeComponent, htype]
  exact State.bytes_setBytes _ _ _

/-! ### The configuration (R86, R93) -/

/-- The header asks for a bench start. -/
def headerBench (s : State) : Bool :=
  match s.sys.loader.hdr with
  | some h => h.flags.testBit 0
  | none => false

/-- Every component is verified, the link is up, every domain is ready, and no configuration has been taken. -/
def ConfigDue (s : State) : Prop :=
  loading s = true ∧ s.sys.loader.descsOk = true ∧ s.sys.loader.configDone = false ∧
    s.sys.loader.done.length = s.sys.loader.descs.length ∧ s.sys.linkUp = true ∧ ∀ k < 11, s.pdReady k = true

/-- Each Whorl with loops has its component. -/
def whorlsHaveImages (y : ConfigIn) (s : State) : Bool :=
  y.sys.loops.all fun e => s.sys.loader.done.any fun k => k.type == 5 && k.inst == e.whorl

/-- A due configuration is taken as a whole or not at all. -/
theorem execConfigRecordsApply_of_due {y : ConfigIn} {wo : WriteOnce} (hdue : ConfigDue s) : execConfigRecordsApply y wo s =
    .next (if loaderOk y wo (headerBench s) s.sys.loader.limp (applyConfig y (headerBench s) s) && whorlsHaveImages y s then
        (applyConfig y (headerBench s) s).setLoader { (applyConfig y (headerBench s) s).sys.loader with configDone := true, wo := wo }
      else limpFall 0x030B s) := by
  obtain ⟨hload, hdescs, hconf, hdone, hlink, hpd⟩ := hdue
  rw [execConfigRecordsApply, if_neg (by simpa [hload, hdescs, hconf, hdone, hlink] using hpd)]
  rfl

theorem execConfigRecordsApply_of_good {y : ConfigIn} {wo : WriteOnce} (hdue : ConfigDue s)
    (hok : loaderOk y wo (headerBench s) s.sys.loader.limp (applyConfig y (headerBench s) s) = true)
    (himages : whorlsHaveImages y s = true) : execConfigRecordsApply y wo s =
    .next ((applyConfig y (headerBench s) s).setLoader
      { (applyConfig y (headerBench s) s).sys.loader with configDone := true, wo := wo }) := by
  rw [execConfigRecordsApply_of_due hdue, if_pos (Bool.and_eq_true_iff.mpr ⟨hok, himages⟩)]

theorem execConfigRecordsApply_of_refused {y : ConfigIn} {wo : WriteOnce} (hdue : ConfigDue s)
    (hbad : loaderOk y wo (headerBench s) s.sys.loader.limp (applyConfig y (headerBench s) s) = false) :
    execConfigRecordsApply y wo s = .next (limpFall 0x030B s) := by
  rw [execConfigRecordsApply_of_due hdue, hbad, if_neg (by simp)]

end

/-! ### Write-once registers (R86, R93) -/

theorem mixWord_zero_mixWord (m : Nat) (old v : Word) : mixWord m 0 (mixWord m old v) = mixWord m 0 v := by
  ext i hi
  simp only [mixWord, BitVec.getElem_or, BitVec.getElem_and, BitVec.getElem_not]
  cases (BitVec.ofNat 32 m)[i] <;> simp

section
variable {s : State} {a : Nat} {v : Word}

/-- The first write of a register that holds besides its WL fields no field to write sets those and closes them (R6). -/
theorem writeOnce_of_open {g : RegGroup} (hg : groupAt a = some g) (hwl : g.fields.any (fun f => f.acc == .wl) = true)
    (hrw : g.fields.any (fun f => f.acc == .rw) = false) (hopen : wlClosed s a = false) : writeOnce a v s =
    { s.wr a (mixWord (accMask a .wl) (s.rd a) v) with sys := { s.sys with wlDone := a :: s.sys.wlDone } } := by
  have htake : fieldMask g.fields (fun f => f.acc == .rw || f.acc == .wl) = accMask a .wl := by
    rw [accMask, hg]
    refine fieldMask_congr fun f hf => ?_
    rw [List.any_eq_false] at hrw
    simp [hrw f hf]
  simp [writeOnce, plainWrite, hg, hwl, hopen, htake]

theorem writeOnce_rd_ne {b : Nat} (h : b ≠ a) (v : Word) (s : State) : (writeOnce a v s).rd b = s.rd b := by
  unfold writeOnce plainWrite
  split
  · rfl
  · dsimp only
    split <;> exact State.rd_wr_ne _ _ _ _ h

theorem writeOnce_wlClosed_ne {b : Nat} (h : b ≠ a) (v : Word) (s : State) : wlClosed (writeOnce a v s) b = wlClosed s b := by
  unfold writeOnce plainWrite
  split
  · rfl
  · dsimp only
    split
    · simp [wlClosed, h]
    · rfl

theorem writeOnce_loader (a : Nat) (v : Word) (s : State) : (writeOnce a v s).sys.loader = s.sys.loader := by
  unfold writeOnce plainWrite
  split
  · rfl
  · dsimp only
    split <;> rfl

end

/-- A register with WL fields and no RW field. -/
def OnceRegister (a : Nat) : Prop :=
  ∃ g, groupAt a = some g ∧ g.fields.any (fun f => f.acc == .wl) = true ∧ g.fields.any (fun f => f.acc == .rw) = false

/-- The words of a list written one after another. -/
def writeOnceAll (es : List (Nat × Word)) (s : State) : State := es.foldl (fun s e => writeOnce e.1 e.2 s) s

theorem writeOnceAll_rd_ne {es : List (Nat × Word)} {a : Nat} (h : a ∉ es.map Prod.fst) (s : State) : (writeOnceAll es s).rd a = s.rd a :=
  foldl_keeps (·.rd a) _ _ (fun e he s => writeOnce_rd_ne (by rintro rfl; exact h (List.mem_map_of_mem he)) e.2 s) s

theorem writeOnceAll_loader (es : List (Nat × Word)) (s : State) : (writeOnceAll es s).sys.loader = s.sys.loader :=
  foldl_keeps (·.sys.loader) _ _ (fun e _ s => writeOnce_loader e.1 e.2 s) s

/-- Registers of their own that are all still open each take their word. -/
theorem writeOnceAll_rd {es : List (Nat × Word)} {s : State} (hreg : ∀ e ∈ es, OnceRegister e.1) (hopen : ∀ e ∈ es, wlClosed s e.1 = false)
    (hdiff : (es.map Prod.fst).Nodup) {e : Nat × Word} (he : e ∈ es) :
    (writeOnceAll es s).rd e.1 = mixWord (accMask e.1 .wl) (s.rd e.1) e.2 := by
  induction es generalizing s with
  | nil => simp at he
  | cons x r ih =>
    obtain ⟨hx, hr⟩ := List.nodup_cons.mp hdiff
    have hstep : writeOnceAll (x :: r) s = writeOnceAll r (writeOnce x.1 x.2 s) := rfl
    rw [hstep]
    rcases List.mem_cons.mp he with rfl | he
    · obtain ⟨g, hg, hwl, hrw⟩ := hreg _ List.mem_cons_self
      rw [writeOnceAll_rd_ne hx, writeOnce_of_open hg hwl hrw (hopen _ List.mem_cons_self)]
      exact State.rd_wr_self _ _ _
    · have hne : ∀ y ∈ r, y.1 ≠ x.1 := fun y hy heq => hx (heq ▸ List.mem_map_of_mem hy)
      rw [ih (fun y hy => hreg y (List.mem_cons_of_mem _ hy)) (fun y hy => ?_) hr he, writeOnce_rd_ne (hne e he)]
      rw [writeOnce_wlClosed_ne (hne y hy)]
      exact hopen y (List.mem_cons_of_mem _ hy)

/-- The WL bits of a register read back as they were written. -/
def readsBack (t : State) (e : Nat × Word) : Bool :=
  match groupAt e.1 with
  | none => true
  | some g =>
    let m := fieldMask g.fields (fun f => f.acc == .wl)
    mixWord m 0 (t.rd e.1) == mixWord m 0 e.2

theorem readsBack_of_register {t : State} {e : Nat × Word} (hreg : OnceRegister e.1) :
    readsBack t e = (mixWord (accMask e.1 .wl) 0 (t.rd e.1) == mixWord (accMask e.1 .wl) 0 e.2) := by
  obtain ⟨g, hg, -, -⟩ := hreg
  simp [readsBack, accMask, hg]

theorem writeOnceAll_readsBack {es : List (Nat × Word)} {s : State} (hreg : ∀ e ∈ es, OnceRegister e.1)
    (hopen : ∀ e ∈ es, wlClosed s e.1 = false) (hdiff : (es.map Prod.fst).Nodup) : es.all (readsBack (writeOnceAll es s)) = true := by
  refine List.all_eq_true.mpr fun e he => ?_
  rw [readsBack_of_register (hreg e he), writeOnceAll_rd hreg hopen hdiff he, mixWord_zero_mixWord, beq_self_eq_true]

/-- What WRITE_ONCE writes: each leg's dead-time floors, then the pairs' SPLIT bits where the record stands. -/
def onceWords (wo : WriteOnce) : List (Nat × Word) :=
  (List.range 32).map (fun k => (F.PWM_LEG_FLOOR.FLOOR_TB.addr k 0 0, (wo.dtFloor.getD []).getD k 0)) ++
    match wo.split with
    | some b => [0, 1].map (fun p => (F.SPX_STAT.SPLIT.addr p 0 0, if b.getLsbD p then 0x80000000 else 0))
    | none => []

/-- The state in which the write-once registers are written and the table's turn has come. -/
def onceWritten (s : State) : State :=
  let u := writeOnceAll (onceWords s.sys.loader.wo) s
  { u with sys := { u.sys with kilnTable := s.sys.loader.wo.kilnTable.getD [], loader := { u.sys.loader with writeOnceDone := true } } }

theorem onceWritten_rd (s : State) (a : Nat) : (onceWritten s).rd a = (writeOnceAll (onceWords s.sys.loader.wo) s).rd a :=
  State.rd_with_sys _ _ _

theorem execWriteOnceWrite_of_due {s : State} (hload : loading s = true) (hconf : s.sys.loader.configDone = true)
    (hnew : s.sys.loader.writeOnceDone = false) (readOk : Bool) : execWriteOnceWrite readOk s =
    .next (if !readOk || !(onceWords s.sys.loader.wo).all (readsBack (writeOnceAll (onceWords s.sys.loader.wo) s)) then
        loadFail 0x030C (writeOnceAll (onceWords s.sys.loader.wo) s)
      else onceWritten s) := by
  rw [execWriteOnceWrite, if_neg (by simp [hload, hconf, hnew])]
  extract_lets floors pairs split u same
  have hwords : onceWords s.sys.loader.wo = pairs ++ split := rfl
  have hu : writeOnceAll (onceWords s.sys.loader.wo) s = u := rfl
  rw [onceWritten, hu, hwords]
  clear_value u
  rfl

theorem execWriteOnceWrite_of_unread {s : State} (hload : loading s = true) (hconf : s.sys.loader.configDone = true)
    (hnew : s.sys.loader.writeOnceDone = false) :
    execWriteOnceWrite false s = .next (loadFail 0x030C (writeOnceAll (onceWords s.sys.loader.wo) s)) := by
  simp [execWriteOnceWrite_of_due hload hconf hnew]

theorem groupAt_floor : ∀ k < 32, groupAt (F.PWM_LEG_FLOOR.FLOOR_TB.addr k 0 0) = some Reg.PWM_LEG_FLOOR := by decide +kernel

theorem groupAt_split : ∀ p < 2, groupAt (F.SPX_STAT.SPLIT.addr p 0 0) = some Reg.SPX_STAT := by decide +kernel

theorem floor_onceRegister {k : Nat} (hk : k < 32) : OnceRegister (F.PWM_LEG_FLOOR.FLOOR_TB.addr k 0 0) :=
  ⟨_, groupAt_floor k hk, by decide, by decide⟩

theorem split_onceRegister {p : Nat} (hp : p < 2) : OnceRegister (F.SPX_STAT.SPLIT.addr p 0 0) :=
  ⟨_, groupAt_split p hp, by decide, by decide⟩

/-- The floors' registers and the SPLIT bits' are all different. -/
theorem onceAddrs_nodup : ((List.range 32).map (fun k => F.PWM_LEG_FLOOR.FLOOR_TB.addr k 0 0) ++
    [0, 1].map (fun p => F.SPX_STAT.SPLIT.addr p 0 0)).Nodup := by decide

section
variable {wo : WriteOnce} {b : BitVec 2} (hsplit : wo.split = some b)
include hsplit

theorem onceWords_nodup : ((onceWords wo).map Prod.fst).Nodup := by
  rw [onceWords, hsplit, List.map_append, List.map_map, List.map_map]
  exact onceAddrs_nodup

/-- Every write is to a leg's floors or to a pair's SPLIT bit. -/
theorem mem_onceWords {e : Nat × Word} (he : e ∈ onceWords wo) :
    (∃ k < 32, e.1 = F.PWM_LEG_FLOOR.FLOOR_TB.addr k 0 0) ∨ ∃ p < 2, e.1 = F.SPX_STAT.SPLIT.addr p 0 0 := by
  rw [onceWords, hsplit] at he
  rcases List.mem_append.mp he with he | he
  · obtain ⟨k, hk, rfl⟩ := List.mem_map.mp he
    exact .inl ⟨k, List.mem_range.mp hk, rfl⟩
  · obtain ⟨p, hp, rfl⟩ := List.mem_map.mp he
    have hlt : p < 2 := by rcases List.mem_pair.mp hp with rfl | rfl <;> decide
    exact .inr ⟨p, hlt, rfl⟩

theorem onceWords_register : ∀ e ∈ onceWords wo, OnceRegister e.1 := by
  intro e he
  rcases mem_onceWords hsplit he with ⟨k, hk, haddr⟩ | ⟨p, hp, haddr⟩ <;> rw [haddr]
  · exact floor_onceRegister hk
  · exact split_onceRegister hp

theorem split_mem_onceWords {p : Nat} (hp : p < 2) :
    (F.SPX_STAT.SPLIT.addr p 0 0, if b.getLsbD p then 0x80000000 else 0) ∈ onceWords wo := by
  rw [onceWords, hsplit]
  exact List.mem_append_right _ (List.mem_map.mpr ⟨p, List.mem_pair.mpr (by omega), rfl⟩)

end

theorem floor_mem_onceWords (wo : WriteOnce) {k : Nat} (hk : k < 32) :
    (F.PWM_LEG_FLOOR.FLOOR_TB.addr k 0 0, (wo.dtFloor.getD []).getD k 0) ∈ onceWords wo :=
  List.mem_append_left _ (List.mem_map.mpr ⟨k, List.mem_range.mpr hk, rfl⟩)

/-- A leg's floors take both halves of their word. -/
theorem accMask_floor {k : Nat} (hk : k < 32) : accMask (F.PWM_LEG_FLOOR.FLOOR_TB.addr k 0 0) .wl = 0xFFFFFFFF := by
  rw [accMask, groupAt_floor k hk]
  decide

theorem accMask_split {p : Nat} (hp : p < 2) : accMask (F.SPX_STAT.SPLIT.addr p 0 0) .wl = 0x80000000 := by
  rw [accMask, groupAt_split p hp]
  decide

theorem mixWord_all (old v : Word) : mixWord 0xFFFFFFFF old v = v := by
  have hall : BitVec.ofNat 32 0xFFFFFFFF = BitVec.allOnes 32 := by decide
  simp only [mixWord, hall, BitVec.and_allOnes, BitVec.not_allOnes, BitVec.and_zero, BitVec.or_zero]

theorem getBits_top (w : Word) : getBits w 31 31 = (w.getLsbD 31).toNat := (Nat.toNat_testBit _ _).symm

/-- The SPLIT bit of a word that took it. -/
theorem getBits_mixWord_split (old : Word) (x : Bool) : getBits (mixWord 0x80000000 old (if x then 0x80000000 else 0)) 31 31 = x.toNat := by
  rw [getBits_top, mixWord]
  cases x <;> simp

/-- With every register still open all read back what was written. -/
theorem onceWritten_takes {s : State} {b : BitVec 2} (hsplit : s.sys.loader.wo.split = some b)
    (hfloor : ∀ k < 32, wlClosed s (F.PWM_LEG_FLOOR.FLOOR_TB.addr k 0 0) = false)
    (hpair : ∀ k < 2, wlClosed s (F.SPX_STAT.SPLIT.addr k 0 0) = false) :
    (onceWords s.sys.loader.wo).all (readsBack (writeOnceAll (onceWords s.sys.loader.wo) s)) = true ∧
    (∀ p < 2, (onceWritten s).get F.SPX_STAT.SPLIT p = (b.getLsbD p).toNat) ∧
    ∀ k < 32, (onceWritten s).get F.PWM_LEG_FLOOR.FLOOR_TB k =
      getBits ((s.sys.loader.wo.dtFloor.getD []).getD k 0) F.PWM_LEG_FLOOR.FLOOR_TB.hi F.PWM_LEG_FLOOR.FLOOR_TB.lo := by
  have hreg := onceWords_register hsplit
  have hdiff := onceWords_nodup hsplit
  have hopen : ∀ e ∈ onceWords s.sys.loader.wo, wlClosed s e.1 = false := fun e he => by
    rcases mem_onceWords hsplit he with ⟨k, hk, haddr⟩ | ⟨p, hp, haddr⟩ <;> rw [haddr]
    · exact hfloor k hk
    · exact hpair p hp
  refine ⟨writeOnceAll_readsBack hreg hopen hdiff, fun p hp => ?_, fun k hk => ?_⟩
  · have hrd := writeOnceAll_rd hreg hopen hdiff (split_mem_onceWords hsplit hp)
    rw [State.get, onceWritten_rd, hrd, accMask_split hp]
    exact getBits_mixWord_split _ _
  · have hrd := writeOnceAll_rd hreg hopen hdiff (floor_mem_onceWords _ hk)
    rw [State.get, onceWritten_rd, hrd, accMask_floor hk, mixWord_all]

/-! ### The Kiln's table (R61, R63, R431) -/

/-- The table the Kiln has, whether it is locked, and the bad transfers so far. -/
def KlnSt.held (k : KlnSt) : List Byte × Bool × Nat := (k.table, k.locked, k.tries)

theorem kilnDrive_held (s : State) : (kilnDrive s).kln.held = s.kln.held := by rw [kilnDrive_kln]; rfl

/-- A finding changes nothing of the table. -/
theorem kilnApply_held (e : Nat) (s : State) : (kilnApply e s).kln.held = s.kln.held := by
  have htell : ∀ code cls t, (tellControl code cls t).kln = t.kln := fun code cls t =>
    kln_of_mask (K := { sys := true }) rfl (tellControl_mask rfl code cls t)
  unfold kilnApply
  split
  · rfl
  · dsimp only
    rw [kilnApplyAs, htell]
    split
    · rw [kilnLatch, raise_kln, kilnDrive_held]
      rfl
    · rfl

theorem kilnLock_held (t : List Byte) (s : State) : (kilnLock t s).kln.held = (t, true, 0) := by
  unfold kilnLock
  dsimp only
  rw [foldl_keeps (·.kln.held) _ _ (fun e _ s => ite_keeps (p := (·.kln.held)) (kilnApply_held e s)), kilnDrive_held]
  rfl

theorem kilnDrive_tableCrc (s : State) : (kilnDrive s).kln.tableCrc = s.kln.tableCrc := by rw [kilnDrive_kln]

theorem domainOff_tableCrc (d : Nat) (s : State) : (domainOff d s).kln.tableCrc = s.kln.tableCrc := by
  have hengine : ∀ u : State, (engineOff d u).kln.tableCrc = u.kln.tableCrc := fun u => by
    unfold engineOff
    split <;> rfl
  unfold domainOff
  extract_lets s1 x f s2 s3 k s4
  have hkreq : s4.kln.tableCrc = s3.kln.tableCrc := ite_keeps (p := (·.kln.tableCrc)) rfl
  rw [hkreq, hengine]
  rfl

/-- A failed start keeps what the Kiln found of its table. -/
theorem startFail_tableCrc (code : Nat) (s : State) : (startFail code s).kln.tableCrc = s.kln.tableCrc := by
  have hoff : (allOff s).kln.tableCrc = s.kln.tableCrc := by
    rw [allOff, kilnDrive_tableCrc]
    exact foldl_keeps (·.kln.tableCrc) _ _ (fun d _ s => domainOff_tableCrc d s) s
  have hcount : ∀ u : State, (u.bump F.START_LOG.FAILS F.START_LOG.SAT).kln = u.kln := fun u =>
    kln_of_mask (K := { regs := true }) rfl (bump_mask rfl _ _ _ _ _ _ _)
  rw [← hoff]
  exact congrArg (·.tableCrc) (hcount _)

section
variable {s : State}

/-- The table's turn has come, the link is up, and the Kiln has not given the table up. -/
def TableDue (s : State) : Prop :=
  loading s = true ∧ s.sys.loader.writeOnceDone = true ∧ s.sys.loader.tableSent = false ∧ s.sys.linkUp = true ∧ s.kln.tableCrc = false

theorem execKilnTableTransfer_of_locked (hdue : TableDue s) (hlock : s.kln.locked = true) : execKilnTableTransfer true s =
    .next (if tbl32 s.sys.kilnTable 0x1FC = tbl32 s.kln.table 0x1FC then s.setLoader { s.sys.loader with tableSent := true }
      else (s.set F.MODE_STAT.KILN_TABLE_OLD 1).setLoader { s.sys.loader with tableSent := true }) := by
  obtain ⟨hload, hwritten, hnew, hlink, hcrc⟩ := hdue
  simp [execKilnTableTransfer, hload, hwritten, hnew, hlink, hcrc, hlock]

theorem execKilnTableTransfer_of_good (hdue : TableDue s) (hlock : s.kln.locked = false) (hok : kilnTableOk s.sys.kilnTable = true) :
    execKilnTableTransfer true s = .next ((kilnLock s.sys.kilnTable s).setLoader
      { (kilnLock s.sys.kilnTable s).sys.loader with tableSent := true }) := by
  obtain ⟨hload, hwritten, hnew, hlink, hcrc⟩ := hdue
  simp [execKilnTableTransfer, hload, hwritten, hnew, hlink, hcrc, hlock, hok]

/-- The third bad transfer in a row fails the start. -/
theorem execKilnTableTransfer_of_bad (hdue : TableDue s) (hlock : s.kln.locked = false) : execKilnTableTransfer false s =
    .next (if 2 ≤ s.kln.tries then startFail 0x0F20 (s.setKln { s.kln with tries := s.kln.tries + 1, tableCrc := true })
      else s.setKln { s.kln with tries := s.kln.tries + 1 }) := by
  obtain ⟨hload, hwritten, hnew, hlink, hcrc⟩ := hdue
  by_cases hthird : 2 ≤ s.kln.tries
  · simp [execKilnTableTransfer, hload, hwritten, hnew, hlink, hcrc, hlock, hthird]
  · simp [execKilnTableTransfer, hload, hwritten, hnew, hlink, hcrc, hlock, hthird]

end

/-- Settles O42: each step of the loader that is due takes what passes its checks, a failed check falls to the limp image or stops the
start, the write-once registers read back, and a locked table is kept. -/
theorem skeinLoading : Obligations.SkeinLoading := by
  intro s f h ds d x y wo c b i p l failed fell u bench images complete table hload
  have hfail : ∀ {code : Nat}, code < 65536 → ∀ {v t : State}, v.sys.loader = l → t = loadFail code v → failed code t := by
    rintro code hcode v t hv rfl
    have hholds := loadFail_holds hcode v
    rwa [hv] at hholds
  have hfell : ∀ {code : Nat}, code < 65536 → l.limp = false → ∀ {t : State}, t = limpFall code s → fell code t ∧ OnlyChanges .die s t := by
    rintro code hcode hmain t rfl
    exact ⟨limpFall_fell hcode hmain, limpFall_frame code s⟩
  refine ⟨fun h9 hdown => ⟨?flashUp, ?noSfdp⟩, fun hup hnew h1 h9 hrest => ⟨?header, ?badHeader, ?unread⟩, ?torn,
    fun hnew hhdr => ⟨?descs, ?badDesc⟩, fun hdescs hconf hnext hdest => ⟨?component, ?badHash⟩, ?config, ?badConfig,
    fun hconf hnew => ⟨?written, ?notWritten⟩, fun hwritten hnew hlink hcrc => ⟨?same, ?old, ?locks, ?again, ?gaveUp⟩, ?readError⟩
  case flashUp =>
    intro hread hsfdp
    have hrun := execFlashInit_of_read hload h9 hdown hread
    rw [if_pos hsfdp] at hrun
    obtain ⟨hok, hdensity, hdummy, hproto⟩ := flashShown_get f s
    exact ⟨_, hrun, rfl, (setLoader_get ..).trans hok, (setLoader_get ..).trans hdensity, (setLoader_get ..).trans hdummy,
      (setLoader_get ..).trans hproto, fun a ha => (setLoader_rd ..).trans (flashShown_regsOnly f s a ha),
      execFlashInit_mask rfl rfl rfl rfl rfl rfl rfl rfl rfl rfl rfl rfl rfl rfl rfl rfl rfl rfl rfl rfl rfl _ _ hrun⟩
  case noSfdp =>
    intro hread hsfdp
    have hrun := execFlashInit_of_read hload h9 hdown hread
    rw [if_neg (by simp [hsfdp])] at hrun
    exact ⟨_, hrun, hfail (by decide) rfl rfl, loadFail_frame _ _⟩
  case header =>
    intro hc hsize
    have hrun := execHeaderVerified_of_settled (h := h) ⟨hload, hup, hnew, h1, h9⟩ hrest
    rw [takeHeader_of_accepted hc hsize] at hrun
    exact ⟨_, hrun, rfl, rfl, rfl,
      execHeaderVerified_mask rfl rfl rfl rfl rfl rfl rfl rfl rfl rfl rfl rfl rfl rfl rfl rfl rfl rfl rfl rfl rfl _ _ _ hrun⟩
  case badHeader =>
    intro hc hmain hcode
    have hrun := execHeaderVerified_of_settled (h := h) ⟨hload, hup, hnew, h1, h9⟩ hrest
    rw [takeHeader_of_refused hc] at hrun
    exact ⟨_, hrun, hfell hcode hmain rfl⟩
  case unread =>
    exact ⟨_, execHeaderVerified_of_unread ⟨hload, hup, hnew, h1, h9⟩, hfail (by decide) rfl rfl, loadFail_frame _ _⟩
  case torn =>
    intro hup hnew h1 h9 hmain hop
    obtain ⟨hfall, hlast⟩ := updateFall_fell (code := 0x0224) (by decide) hmain
    exact ⟨_, execHeaderVerified_of_torn ⟨hload, hup, hnew, h1, h9⟩ hmain hop, hfall, hlast, updateFall_frame _ _⟩
  case descs =>
    intro hfields hlen hapart hset hifaces
    exact ⟨_, execDescriptorsVerified_of_accepted hload hnew hhdr hfields hlen hapart hset hifaces, rfl⟩
  case badDesc =>
    intro hbad hold hmain
    exact ⟨_, execDescriptorsVerified_of_bad hload hnew hhdr hbad hold, hfell (by decide) hmain rfl⟩
  case component =>
    intro hread hhash htag
    have hrun := execComponentVerified_of_accepted ⟨hload, hdescs, hconf, hnext, hdest⟩ hread hhash htag
    refine ⟨_, hrun, componentDone_done d x s, ?_, fun htype => componentDone_cfgVersion htype x s,
      fun htype => (State.bytes_of_mem (State.set_mem _ _ _ _ _ _) _ _).trans (componentDone_whorl htype x s),
      execComponentVerified_mask rfl rfl rfl rfl rfl rfl rfl rfl rfl rfl rfl rfl rfl rfl rfl rfl rfl rfl rfl rfl rfl _ _ hrun⟩
    rw [State.get_set_self _ _ _ _ _ _ (by decide) (by decide), componentDone_done, List.length_append]
    rfl
  case badHash =>
    intro hread hhash hold hmain
    exact ⟨_, execComponentVerified_of_bad_hash ⟨hload, hdescs, hconf, hnext, hdest⟩ hread hhash hold, hfell (by decide) hmain rfl⟩
  case config =>
    intro hdue hok himages
    exact ⟨_, execConfigRecordsApply_of_good ⟨hload, hdue⟩ hok himages, rfl⟩
  case badConfig =>
    intro hdue hbad hmain
    have hrun := execConfigRecordsApply_of_refused (y := y) (wo := wo) ⟨hload, hdue⟩ hbad
    exact ⟨_, hrun, limpFall_fell (by decide) hmain,
      execConfigRecordsApply_mask rfl rfl rfl rfl rfl rfl rfl rfl rfl rfl rfl rfl rfl rfl rfl rfl rfl rfl rfl rfl rfl rfl _ _ _ hrun⟩
  case written =>
    intro hsplit hfloor hpair
    obtain ⟨hback, hpairs, hfloors⟩ := onceWritten_takes hsplit hfloor hpair
    have hrun := execWriteOnceWrite_of_due hload hconf hnew true
    rw [hback, if_neg (by simp)] at hrun
    exact ⟨_, hrun, rfl, rfl, hpairs p.val p.isLt, hfloors i.val i.isLt,
      execWriteOnceWrite_mask rfl rfl rfl rfl rfl rfl rfl rfl rfl rfl rfl rfl rfl rfl rfl rfl rfl rfl rfl rfl rfl _ _ hrun⟩
  case notWritten =>
    have hrun := execWriteOnceWrite_of_unread hload hconf hnew
    exact ⟨_, hrun, hfail (by decide) (writeOnceAll_loader _ s) rfl,
      execWriteOnceWrite_mask rfl rfl rfl rfl rfl rfl rfl rfl rfl rfl rfl rfl rfl rfl rfl rfl rfl rfl rfl rfl rfl _ _ hrun⟩
  case same =>
    intro hlock heq
    have hrun := execKilnTableTransfer_of_locked ⟨hload, hwritten, hnew, hlink, hcrc⟩ hlock
    rw [if_pos heq] at hrun
    exact ⟨_, hrun, rfl⟩
  case old =>
    intro hlock hne
    have hrun := execKilnTableTransfer_of_locked ⟨hload, hwritten, hnew, hlink, hcrc⟩ hlock
    rw [if_neg hne] at hrun
    exact ⟨_, hrun, rfl⟩
  case locks =>
    intro hlock hok
    have hrun := execKilnTableTransfer_of_good ⟨hload, hwritten, hnew, hlink, hcrc⟩ hlock hok
    have hheld := kilnLock_held s.sys.kilnTable s
    exact ⟨_, hrun, congrArg (·.2.1) hheld, congrArg (·.1) hheld, congrArg (·.2.2) hheld, rfl,
      execKilnTableTransfer_mask rfl rfl rfl rfl rfl rfl rfl rfl rfl rfl rfl rfl rfl rfl rfl rfl rfl rfl rfl rfl rfl _ _ hrun⟩
  case again =>
    intro hlock hfew
    have hrun := execKilnTableTransfer_of_bad ⟨hload, hwritten, hnew, hlink, hcrc⟩ hlock
    rw [if_neg (by omega)] at hrun
    exact ⟨_, hrun, rfl⟩
  case gaveUp =>
    intro hlock hmany
    have hrun := execKilnTableTransfer_of_bad ⟨hload, hwritten, hnew, hlink, hcrc⟩ hlock
    rw [if_pos hmany] at hrun
    obtain ⟨hphase, -, -, hlast, -⟩ := startFail_holds (code := 0x0F20) (by decide) 0
      (s.setKln { s.kln with tries := s.kln.tries + 1, tableCrc := true })
    exact ⟨_, hrun, startFail_tableCrc _ _, hphase, hlast,
      execKilnTableTransfer_mask rfl rfl rfl rfl rfl rfl rfl rfl rfl rfl rfl rfl rfl rfl rfl rfl rfl rfl rfl rfl rfl _ _ hrun⟩
  case readError => exact fun hup => ⟨_, execFlashReadError_of_loading hload hup, hfail (by decide) rfl rfl, loadFail_frame _ _⟩

end Sys2Proof.Machine

/-! Ember's pass (04_ember.md R100 to R118): what an instruction that writes a register, a branch, a store, the end of a pass and a wake
decision do, and the three obligations about the instruction rows, O1 to O3. -/

namespace Sys2Proof.Machine
open Sys2Proof

section
variable {s : State} {rd : Fin 16} {imm : BitVec 16} {v : Word} {c : Instr} {f : State → State} {P : State → Prop}

/-! ### Registers, bytes and parts -/

/-- Of a state whose registers are those of `s` with rd written: rd reads what was written. -/
theorem ereg_of_written_self {t : State} (h : t.emb.e = SMap.put 0 s.emb.e rd.val v) : t.ereg rd.val = v := by
  rw [State.ereg, h, SMap.get_put_self]

/-- Of a state whose registers are those of `s` with rd written: every other register reads as before. -/
theorem ereg_of_written_ne {t : State} (h : t.emb.e = SMap.put 0 s.emb.e rd.val v) {r : Nat} (hr : r ≠ rd.val) : t.ereg r = s.ereg r := by
  rw [State.ereg, h, SMap.get_put_ne _ _ _ _ _ hr, State.ereg]

theorem onlyChanges_emb (s : State) (x : EmberSt) : OnlyChanges { emb := true } s { s with emb := x } := mask_emb rfl s x

theorem length_toBytes (n v : Nat) : (toBytes n v).length = n := by
  induction n generalizing v with
  | zero => rfl
  | succ n ih => rw [toBytes, List.length_cons, ih]

/-- The bytes stored read back. -/
theorem State.bytes_store (s : State) (a n v : Nat) : (s.store a n v).bytes a n = toBytes n v := by
  have hread := State.bytes_setBytes (toBytes n v) s a
  rwa [length_toBytes] at hread

/-- A store changes no byte outside those it names. -/
theorem State.bytesOnly_store (s : State) (a n v : Nat) : BytesOnly a n s (s.store a n v) := fun b hb =>
  State.byte_setBytes _ _ _ _ (by rwa [length_toBytes])

/-- Setting a field writes its register alone. -/
theorem State.regsOnly_set (s : State) (f : Fld) (v i j k : Nat) : RegsOnly [f.addr i j k] s (s.set f v i j k) := fun a ha =>
  State.rd_wr_ne _ _ _ _ fun h => ha (by rw [h]; exact List.mem_cons_self)

theorem raise_emb (n : Nat) (s : State) : (raise n s).emb = s.emb := by rw [raise_eq]

/-! ### Instructions of the pass in progress -/

theorem embInstr_of_pass (hpass : s.emb.inPass = true) (f : State → State) : embInstr f s = embGo (s.emb.pc + 1) (f s) := if_pos hpass

/-- A row that is an instruction of the pass runs its effect and goes on to the next program address. -/
theorem runs_of_embInstr (hpass : s.emb.inPass = true) (hc : exec c s = .next (embInstr f s)) (h : P (embGo (s.emb.pc + 1) (f s))) :
    Runs c s P := ⟨_, hc, by rwa [embInstr_of_pass hpass]⟩

/-- A row whose whole effect is one register write writes it and changes nothing else. -/
theorem embWrites_of_embAlu (hpass : s.emb.inPass = true) (hc : exec c s = .next (embAlu rd v s)) : EmbWrites c s rd v :=
  runs_of_embInstr hpass hc ⟨fun _ => SMap.get_put _ _ _ _ _, rfl, rfl, rfl, onlyChanges_emb _ _⟩

/-- A branch row goes to `imm` where it is taken and on to the next program address where it is not. -/
theorem embGoes_of_embBranch {taken : Bool} {pc : Nat} (hpass : s.emb.inPass = true) (hc : exec c s = .next (embBranch taken imm s))
    (hpc : pc = if taken then imm.toNat else s.emb.pc + 1) : EmbGoes c s pc := by
  refine ⟨_, hc, ?_⟩
  rw [embBranch, if_pos hpass, hpc]
  cases taken
  · rfl
  · simp only [if_true, embGo, Nat.mod_mod]

theorem execEmbFilt_of_pos {ra : Fin 16} (hk : imm.toNat % 16 ≠ 0) : execEmbFilt rd ra imm s =
    .next (embAlu rd (s.ereg rd.val + (s.ereg ra.val - s.ereg rd.val).sshiftRight (imm.toNat % 16)) s) := by
  rw [execEmbFilt, if_neg hk]

/-! ### The end of a pass and wake decisions -/

/-- With no trigger merged and no program waiting, the end of a pass is all that happens. -/
theorem endPass_of_alone (hagain : s.emb.again = false) (hnext : s.emb.progNext = none) :
    endPass s = { s with emb := { s.emb with inPass := false } } := by
  simp [endPass, passBoundary, hagain, hnext]

/-- While the part runs, a wake decision is recorded and raises its event (R116). -/
theorem wakeDecision_of_run (hphase : s.sys.phase = .run) (reason : Nat) :
    wakeDecision reason s = raise 10 (s.set F.EMB_STAT.WAKE_REASON reason) := by
  rw [wakeDecision, hphase]

/-- What a wake decision of a running part leaves: the reason, and of its own and Ember's state nothing else. -/
theorem wakeDecision_records (hphase : s.sys.phase = .run) {reason : Nat} (hr : reason < 256) :
    (wakeDecision reason s).get F.EMB_STAT.WAKE_REASON = reason ∧ (wakeDecision reason s).emb = s.emb ∧
    (wakeDecision reason s).sys = s.sys ∧ (wakeDecision reason s).mem = s.mem := by
  rw [wakeDecision_of_run hphase]
  refine ⟨?_, raise_emb _ _, raise_sys _ _, raise_mem _ _⟩
  rw [raise_get _ _ _ _ _ _ (by decide) (by decide), State.get_set_self _ _ _ _ _ _ (by decide) (by decide)]
  exact Nat.mod_eq_of_lt hr

/-! ### Rotation counters -/

/-- Ember's part with one more crossing counted for comparator `cmp`. -/
def crossingCounted (cmp : Nat) (s : State) : EmberSt :=
  { s.emb with cnt := SMap.put 0 s.emb.cnt cmp (min (SMap.get 0 s.emb.cnt cmp + 1) 65535) }

theorem crossingCounted_cnt (cmp k : Nat) (s : State) : SMap.get 0 (crossingCounted cmp s).cnt k =
    if k = cmp then min (SMap.get 0 s.emb.cnt k + 1) 65535 else SMap.get 0 s.emb.cnt k := by
  rw [crossingCounted, SMap.get_put]
  split
  · next h => rw [h]
  · rfl

/-- A crossing of an enabled comparator is counted, and of the registers only CNT_SAT's is written. -/
theorem execRotationCrossing_of_enabled {cmp : Fin 2} (hen : s.bit F.EMB_CFG.BEMF_EN cmp.val = true) :
    ∃ t, execRotationCrossing cmp s = .next t ∧ t.emb = crossingCounted cmp.val s ∧ RegsOnly [F.EMB_STAT.CNT_SAT.addr 0 0 0] s t := by
  refine ⟨_, congrArg Host.Outcome.next (if_pos hen), ?_⟩
  dsimp only
  split
  · exact ⟨rfl, State.regsOnly_set _ _ _ _ _ _⟩
  · exact ⟨rfl, fun _ _ => rfl⟩

end

/-! ### The obligations -/

/-- Settles O1: every row is the one register write of `embAlu`, with the value of its line of R106. -/
theorem emberArithmetic : Obligations.EmberArithmetic := by
  intro s rd ra rb imm hpass
  have hwrites : ∀ {c : Instr} {v : Word}, exec c s = .next (embAlu rd v s) → EmbWrites c s rd v := embWrites_of_embAlu hpass
  refine ⟨hwrites rfl, hwrites rfl, hwrites rfl, hwrites rfl, hwrites rfl, hwrites rfl, hwrites rfl, hwrites rfl, hwrites rfl,
    hwrites rfl, hwrites rfl, ?filt, ?filtZero, hwrites rfl, hwrites rfl⟩
  case filt => exact fun hk => hwrites (execEmbFilt_of_pos hk)
  case filtZero => exact fun _ => ⟨_, hwrites rfl⟩

/-- Settles O2: the branches and JMP by the condition each tests, ST and OUT by what one store and one field write reach, and SLEEP by
the end of a pass that nothing follows. -/
theorem emberFlow : Obligations.EmberFlow := by
  intro s rd ra imm hpass
  refine ⟨?beq, ?bne, ?blt, ?bge, ?jmp, ?wait, ?st, ?out, ?sleep⟩
  case beq => exact embGoes_of_embBranch hpass rfl (by simp only [beq_iff_eq])
  case bne => exact embGoes_of_embBranch hpass rfl (by simp only [bne_iff_ne, ite_not])
  case blt => exact embGoes_of_embBranch hpass rfl (by simp only [BitVec.slt, decide_eq_true_eq])
  case bge => exact embGoes_of_embBranch hpass rfl (by simp only [BitVec.slt, Bool.not_eq_true', decide_eq_false_iff_not, ite_not])
  case jmp => exact embGoes_of_embBranch (taken := true) hpass rfl rfl
  case wait => exact runs_of_embInstr hpass rfl rfl
  case st =>
    exact runs_of_embInstr hpass rfl ⟨(State.bytes_of_mem (embGo_mem _ _) _ _).trans (State.bytes_store _ _ _ _),
      State.bytesOnly_store _ _ _ _, rfl, (embGo_mask rfl _ _).trans (store_mask rfl _ _ _ _)⟩
  case out =>
    refine runs_of_embInstr hpass rfl ⟨?_, State.regsOnly_set _ _ _ _ _ _, rfl, (embGo_mask rfl _ _).trans (set_mask rfl _ _ _ _ _ _)⟩
    have hlevel := State.get_set_self s F.EMB_CFG.OUT_LVL (imm.toNat % 2) 0 0 0 (by decide) (by decide)
    exact hlevel.trans (Nat.mod_mod _ _)
  case sleep =>
    intro hagain hnext
    have hrun : execEmbSleep s = .next (endPass (embGo s.emb.pc s)) := congrArg Host.Outcome.next (if_pos hpass)
    rw [endPass_of_alone (s := embGo s.emb.pc s) hagain hnext] at hrun
    exact ⟨_, hrun, rfl, rfl, execEmbSleep_mask rfl rfl rfl _ hrun⟩

/-- Settles O3: SAMP, CNT and INP each write one register and one group of Ember's flags, WAKE ends the pass after its decision, and a
crossing is counted where its comparator is enabled. -/
theorem emberSensing : Obligations.EmberSensing := by
  intro s rd imm codes cmp
  refine ⟨?samp, ?cnt, ?inp, ?wake, ⟨_, rfl, rfl⟩, ?crossing⟩
  case samp =>
    intro hpass hlen
    have hvalue : ∀ {t : State} {m : Nat}, t.emb.e = SMap.put 0 s.emb.e rd.val (BitVec.ofNat 32 (burstResult (imm.toNat / 16 % 4)
        ((codes.take (imm.toNat / 64 % 64 + 1)).map BitVec.toNat))) → imm.toNat / 16 % 4 = m →
        t.ereg rd.val = BitVec.ofNat 32 (burstResult m (codes.map BitVec.toNat)) := fun ht hm => by
      rw [ereg_of_written_self ht, hm, ← hlen, List.take_length]
    exact runs_of_embInstr hpass rfl ⟨rfl, hvalue rfl, hvalue rfl, hvalue rfl, fun _ hr => ereg_of_written_ne rfl hr,
      onlyChanges_emb _ _⟩
  case cnt =>
    intro crossing hpass
    exact runs_of_embInstr hpass rfl ⟨ereg_of_written_self rfl, fun _ => SMap.get_put _ _ _ _ _, fun _ hr => ereg_of_written_ne rfl hr,
      onlyChanges_emb _ _⟩
  case inp =>
    intro hpass
    exact runs_of_embInstr hpass rfl ⟨ereg_of_written_self rfl, rfl, rfl, rfl, rfl, fun _ hr => ereg_of_written_ne rfl hr,
      onlyChanges_emb _ _⟩
  case wake =>
    intro hpass hagain hnext hphase
    obtain ⟨hreason, hemb, hsys, hmem⟩ := wakeDecision_records (s := embGo s.emb.pc s) hphase (Nat.mod_lt imm.toNat (by decide : 256 > 0))
    have hrun : execEmbWake imm none s = .next (endPass (wakeDecision (imm.toNat % 256) (embGo s.emb.pc s))) :=
      congrArg Host.Outcome.next (if_pos hpass)
    rw [endPass_of_alone (by rw [hemb]; exact hagain) (by rw [hemb]; exact hnext)] at hrun
    exact ⟨_, hrun, hreason, rfl, congrArg (·.e) hemb, hsys, hmem⟩
  case crossing =>
    intro hen
    obtain ⟨t, hrun, hemb, hregs⟩ := execRotationCrossing_of_enabled hen
    exact ⟨t, hrun, fun _ => hemb ▸ crossingCounted_cnt _ _ _, hregs, execRotationCrossing_mask rfl rfl _ _ hrun⟩

end Sys2Proof.Machine

/-! What the operations of the fast front end and of the housekeeping converters (05_fast_measurement.md) share: tables that several keys
read, fields set to one again, and the registers that events and substitutions do not reach. -/

namespace Sys2Proof.Machine
open Sys2Proof

/-! ### Windows, slices and twins -/

@[simp] theorem State.win_setWin (s : State) (n w : Nat) (x : WinSt) : (s.setWin n w x).win n w = x := SMap.get_put_self _ _ _ _

@[simp] theorem State.slices_setSlices (s : State) (n : Nat) (x : SliceSt) : (s.setSlices n x).slices n = x := SMap.get_put_self _ _ _ _

@[simp] theorem State.twin_setTwin (s : State) (n : Nat) (x : TwinSt) : (s.setTwin n x).twin n = x := SMap.get_put_self _ _ _ _

theorem State.win_of_afe {s t : State} (h : t.afe = s.afe) (n w : Nat) : t.win n w = s.win n w := by rw [State.win, h, State.win]

theorem State.slices_of_afe {s t : State} (h : t.afe = s.afe) (n : Nat) : t.slices n = s.slices n := by rw [State.slices, h, State.slices]

theorem State.twin_of_hk {s t : State} (h : t.hk = s.hk) (n : Nat) : t.twin n = s.twin n := by rw [State.twin, h, State.twin]

theorem sliceAt_of_slots {s : State} {m : SMap Nat} {n : Nat} (h : (s.slices n).slots = m) (k : Nat) : sliceAt s n k = SMap.get k m k := by
  rw [sliceAt, h]

theorem raise_afe (n : Nat) (s : State) : (raise n s).afe = s.afe := by rw [raise_eq]

theorem issue_afe (code cls : Nat) (s : State) : (issue code cls s).afe = s.afe := by rw [issue, issueFor_eq]

/-! ### Tables and fields written more than once -/

/-- A read of another key, whatever the unlisted keys of either read as. -/
theorem SMap.get_put_other {α : Type} [DecidableEq α] (d e : α) (m : SMap α) {k j : Nat} (v : α) (h : j ≠ k) :
    SMap.get d (SMap.put e m k v) j = SMap.get d m j := by
  rw [SMap.put_eq]
  split
  · exact SMap.get_filter_ne _ _ _ _ h
  · rw [SMap.get_ins_ne _ _ _ _ _ h, SMap.get_filter_ne _ _ _ _ h]

/-- A fold that puts `v` at the keys that satisfy `p`, in a table whose keys read as themselves: such a key reads `v`. -/
theorem SMap.get_foldl_put {p : Nat → Prop} [DecidablePred p] {k v : Nat} (hp : p k) (l : List Nat) (m : SMap Nat)
    (h : k ∈ l ∨ SMap.get k m k = v) : SMap.get k (l.foldl (fun m j => if p j then SMap.put j m j v else m) m) k = v := by
  induction l generalizing m with
  | nil => exact h.resolve_left List.not_mem_nil
  | cons j r ih =>
    refine ih _ ?_
    dsimp only
    by_cases hj : k = j
    · subst hj
      exact .inr (by rw [if_pos hp, SMap.get_put_self])
    · refine h.imp (fun hmem => (List.mem_cons.mp hmem).resolve_left hj) fun hget => ?_
      split
      · rw [SMap.get_put_other _ _ _ _ hj, hget]
      · exact hget

theorem State.get_set_one (s : State) (f : Fld) (i j k : Nat) (hf : f.hi < 32) (hle : f.lo ≤ f.hi) : (s.set f 1 i j k).get f i j k = 1 := by
  rw [State.get_set_self _ _ _ _ _ _ hf hle]
  exact Nat.mod_eq_of_lt (Nat.one_lt_two_pow (by omega))

/-- Setting a field to one, there or at other indices, leaves it at one. -/
theorem State.get_set_one_of_one {s : State} {f : Fld} {i j k : Nat} (h : s.get f i j k = 1) (x y z : Nat) (hf : f.hi < 32)
    (hle : f.lo ≤ f.hi) : (s.set f 1 x y z).get f i j k = 1 := by
  by_cases ha : f.addr i j k = f.addr x y z
  · have hone := State.get_set_one s f x y z hf hle
    rwa [State.get, ← ha] at hone
  · rw [State.get_set_addr _ _ _ _ _ _ _ _ _ _ ha, h]

/-- A fold that sets a field to one at each index of a list leaves it at one there. -/
theorem State.get_foldl_set_one {f : Fld} (hf : f.hi < 32) (hle : f.lo ≤ f.hi) (g : Nat → Nat) {i : Nat} (l : List Nat) (s : State)
    (h : i ∈ l ∨ s.get f (g i) = 1) : (l.foldl (fun s j => s.set f 1 (g j)) s).get f (g i) = 1 := by
  induction l generalizing s with
  | nil => exact h.resolve_left List.not_mem_nil
  | cons j r ih =>
    refine ih _ ?_
    by_cases hj : i = j
    · subst hj
      exact .inr (State.get_set_one _ _ _ _ _ hf hle)
    · exact h.imp (fun hmem => (List.mem_cons.mp hmem).resolve_left hj) fun hone => State.get_set_one_of_one hone _ _ _ hf hle

/-! ### The measurement blocks and what stands outside them -/

/-- A register of the fast front end or of the housekeeping converters: block 11 or 12. -/
abbrev Measuring (a : Nat) : Prop := 0x300B0000 ≤ a ∧ a < 0x300D0000

theorem Measuring.quiet {a : Nat} (h : Measuring a) : Quiet a := by
  obtain ⟨hlo, hhi⟩ := h
  constructor <;> omega

/-- A substitution shows in the online test's register and raises an event (R570). -/
theorem substitution_rd {a : Nat} (ha : Measuring a) {flag : Fld} (hflag : flag.addr 0 0 0 = 0x30150100) (s : State) :
    (substitution flag s).rd a = s.rd a := by
  have hne : a ≠ 0x30150100 := by omega
  rw [substitution, raise_quiet _ _ _ (by decide) ha.quiet, State.rd_bump_ne hne hne, set_quiet _ _ _ _ _ _ _ (hflag ▸ hne)]

theorem substitution_sys (flag : Fld) (s : State) : (substitution flag s).sys = s.sys :=
  sys_of_mask (K := { regs := true, fab := true }) rfl (substitution_mask rfl rfl _ _)

theorem substitution_afe (flag : Fld) (s : State) : (substitution flag s).afe = s.afe :=
  afe_of_mask (K := { regs := true, fab := true }) rfl (substitution_mask rfl rfl _ _)

end Sys2Proof.Machine

/-! Slices and references of the fast front end (05_fast_measurement.md R125 to R135, R160): a first slice failure, a rotation step, the
reference rows, and the obligation about them, O13. -/

namespace Sys2Proof.Machine
open Sys2Proof

section
variable {s : State} {n slice : Nat} {ch : Fin 48}

/-! ### The first failure of a slice (R160) -/

/-- Counting the failure leaves what decides about the spare as it was. -/
theorem failureCounted_keeps (s : State) (slice : Nat) (hn : n < 48) :
    let t := (s.setBit F.AFE_SLICE_STAT.FAILED slice true n).bump F.AFE_STAT.SLICE_FAILS F.AFE_STAT.SAT
    (∀ k, sliceAt t n k = sliceAt s n k) ∧ t.getB F.AFE_CH_CFG.SPARE_LOST n = s.getB F.AFE_CH_CFG.SPARE_LOST n ∧
      t.get F.AFE_SLICE_STAT.SPARE n = s.get F.AFE_SLICE_STAT.SPARE n := by
  have hcount : ∀ {t : State} {f : Fld}, 0x300B0010 ≤ f.addr n 0 0 →
      (t.bump F.AFE_STAT.SLICE_FAILS F.AFE_STAT.SAT).get f n = t.get f n := fun hf =>
    State.get_of_rd (State.rd_bump_ne (by simp only [Fld.addr, F.AFE_STAT.SLICE_FAILS] at *; omega)
      (by simp only [Fld.addr, F.AFE_STAT.SAT] at *; omega))
  refine ⟨fun k => ?slots, ?lost, ?spare⟩
  case slots =>
    have hafe := afe_of_mask (K := { regs := true }) rfl ((bump_mask rfl _ F.AFE_STAT.SLICE_FAILS F.AFE_STAT.SAT 0 0 0 1).trans
      (setBit_mask rfl s F.AFE_SLICE_STAT.FAILED slice true n 0 0))
    rw [sliceAt, State.slices_of_afe hafe, sliceAt]
  case lost =>
    rw [State.getB, hcount (by simp only [Fld.addr, F.AFE_CH_CFG.SPARE_LOST]; omega), State.setBit, State.get_set_addr, State.getB]
    simp only [Fld.addr, F.AFE_CH_CFG.SPARE_LOST, F.AFE_SLICE_STAT.FAILED]
    omega
  case spare =>
    rw [hcount (by simp only [Fld.addr, F.AFE_SLICE_STAT.SPARE]; omega), State.setBit,
      State.get_set_bits _ _ _ _ _ _ _ _ _ _ (by decide) (by decide) (by decide) (by decide)]

/-- What the first failure of slice `slice` of a channel leaves before its code and its events: every slot of the slice is the spare's. -/
theorem failSlice_of_first (hn : n < 48) (hok : s.bit F.AFE_SLICE_STAT.FAILED slice n = false)
    (hspare : s.getB F.AFE_CH_CFG.SPARE_LOST n = false) : ∃ u : State, failSlice n slice s =
      substitution F.DBG_OLT_STAT.SPARE_LOST (raise 65 (issue 0x0710 0 ((u.set F.AFE_SLICE_STAT.SPARE 15 n).set F.AFE_CH_CFG.SPARE_LOST 1 n))) ∧
      ∀ k < 8, sliceAt s n k = slice → sliceAt u n k = s.get F.AFE_SLICE_STAT.SPARE n := by
  obtain ⟨hslots, hlost, hget⟩ := failureCounted_keeps s slice hn
  have hrun := failSlice.eq_def n slice s
  simp only [hok, hslots, hlost, hspare, hget, Bool.false_eq_true, if_false] at hrun
  refine ⟨_, hrun, fun k hk hat => ?_⟩
  rw [sliceAt_of_slots (congrArg SliceSt.slots (State.slices_setSlices _ _ _))]
  exact SMap.get_foldl_put (p := fun j => sliceAt s n j = slice) hat [0, 1, 2, 3, 4, 5, 6, 7] _ (.inl (List.mem_range (n := 8).mpr hk))

/-- The first failure of the slice that converts slot `k`: the spare has the slot, no spare is left, and 0x0710 was issued. -/
theorem failSlice_of_first_holds {k : Nat} (hn : n < 48) (hk : k < 8) (hok : s.bit F.AFE_SLICE_STAT.FAILED (sliceAt s n k) n = false)
    (hspare : s.getB F.AFE_CH_CFG.SPARE_LOST n = false) : let t := failSlice n (sliceAt s n k) s
    sliceAt t n k = s.get F.AFE_SLICE_STAT.SPARE n ∧ t.get F.AFE_SLICE_STAT.SPARE n = 15 ∧ t.get F.AFE_CH_CFG.SPARE_LOST n = 1 ∧
      t.sys.lastFault = 0x0710 := by
  obtain ⟨u, hrun, hslot⟩ := failSlice_of_first hn hok hspare
  have hafe : (failSlice n (sliceAt s n k) s).afe = u.afe := by
    rw [hrun, substitution_afe, raise_afe, issue_afe]
    rfl
  have hrd : ∀ {f : Fld}, Measuring (f.addr n 0 0) → (failSlice n (sliceAt s n k) s).get f n =
      ((u.set F.AFE_SLICE_STAT.SPARE 15 n).set F.AFE_CH_CFG.SPARE_LOST 1 n).get f n := fun hf =>
    State.get_of_rd (by rw [hrun, substitution_rd hf rfl, raise_quiet _ _ _ (by decide) hf.quiet, issue_rd])
  refine ⟨?slot, ?spare, ?lost, ?issued⟩
  case slot => rw [sliceAt, State.slices_of_afe hafe, ← hslot k hk rfl, sliceAt]
  case spare =>
    rw [hrd (by simp only [Fld.addr, F.AFE_SLICE_STAT.SPARE]; omega), State.get_set_addr, State.get_set_self _ _ _ _ _ _ (by decide) (by decide)]
    · rfl
    · simp only [Fld.addr, F.AFE_SLICE_STAT.SPARE, F.AFE_CH_CFG.SPARE_LOST]
      omega
  case lost => rw [hrd (by simp only [Fld.addr, F.AFE_CH_CFG.SPARE_LOST]; omega), State.get_set_one _ _ _ _ _ (by decide) (by decide)]
  case issued => rw [hrun, substitution_sys, raise_sys, issue_lastFault]

/-! ### The end of a rotation step (R125, R129) -/

/-- A step that passes its shadow check: the spare stands in the next slot, and the slice there is written as the spare. -/
theorem execRotationStep_of_pass {sum : Nat} (hspare : s.getB F.AFE_CH_CFG.SPARE_LOST ch.val = false)
    (hsum : sum ≤ max (s.get F.AFE_CTL.SHADOW_THR) 1 * 16 * 1024) : ∃ u : State, execRotationStep ch sum [] s = .next
      ((u.set F.AFE_SLICE_STAT.SPARE (sliceAt s ch.val (s.get F.AFE_SLICE_STAT.NEXT_SLOT ch.val)) ch.val).set F.AFE_SLICE_STAT.NEXT_SLOT
        ((s.get F.AFE_SLICE_STAT.NEXT_SLOT ch.val + 1) % 8) ch.val) ∧
      sliceAt u ch.val (s.get F.AFE_SLICE_STAT.NEXT_SLOT ch.val) = s.get F.AFE_SLICE_STAT.SPARE ch.val := by
  have hrun := execRotationStep.eq_def ch sum [] s
  dsimp only [List.foldl_nil] at hrun
  rw [hspare, if_neg Bool.false_ne_true, if_neg (Nat.not_lt.mpr hsum)] at hrun
  refine ⟨_, hrun, ?_⟩
  rw [sliceAt_of_slots (congrArg SliceSt.slots (State.slices_setSlices _ _ _)), SMap.get_put_self]

/-! ### References, calibration and coefficients (R132 to R135, R160) -/

theorem execSpareCalibration_of_within {ofs : Int} {gain : Nat} (hspare : s.getB F.AFE_CH_CFG.SPARE_LOST ch.val = false)
    (hofs : -384 ≤ ofs ∧ ofs ≤ 384) (hgain : 0x1E00 ≤ gain ∧ gain ≤ 0x2200) : execSpareCalibration ch ofs gain s =
      .next (s.setSlices ch.val { s.slices ch.val with calOfs := ofs, calGain := gain, calDone := true, calBad := false }) := by
  simp [execSpareCalibration, calWithinLimits, hspare, hofs, hgain]

theorem execRefReady_of_settled (hen : s.getB F.AFE_CTL.REF_EN = true) (hrdy : s.getB F.AFE_CTL.REF_RDY = false) :
    execRefReady [] s = .next (raise 64 (s.set F.AFE_CTL.REF_RDY 1)) := by
  simp [execRefReady, hen, hrdy]

section
variable {m : Master} (hw : s.regWriter m = true) (hready : s.pdReady 6 = true)
include hw hready

theorem execRefEnable_of_writer : execRefEnable m s = .next ((s.set F.AFE_CTL.REF_EN 1).answer .done) := by
  simp [execRefEnable, hw, hready]

theorem execRefDisable_of_writer : execRefDisable m s = .next ((refDisable s).answer .done) := by
  simp [execRefDisable, hw, hready]

theorem execSliceCoefWrite_of_writer {k : Fin 9} {v : Word} (hhold : calHold s = true) (hoff : s.getB F.AFE_CH_CFG.EN ch.val = false) :
    execSliceCoefWrite m ch k v s = .next ((s.wr (F.AFE_SLICE_COEF.OFS.addr ch.val k.val 0) v).answer .done) := by
  simp [execSliceCoefWrite, sliceCoefWrite, hw, hready, hhold, hoff]

end

/-- With no channel enabled, REF_EN and REF_RDY fall, and they stand in one register. -/
theorem refDisable_of_idle (h : anyChannelEnabled s = false) : (refDisable s).get F.AFE_CTL.REF_EN = 0 ∧
    (refDisable s).get F.AFE_CTL.REF_RDY = 0 ∧ RegsOnly [F.AFE_CTL.REF_EN.addr 0 0 0] s (refDisable s) := by
  have haddr : F.AFE_CTL.REF_RDY.addr 0 0 0 = F.AFE_CTL.REF_EN.addr 0 0 0 := by decide
  rw [refDisable, h, if_neg Bool.false_ne_true]
  refine ⟨?_, State.get_set_self _ _ _ _ _ _ (by decide) (by decide), fun a ha => ?_⟩
  · rw [State.get_set_bits _ _ _ _ _ _ _ _ _ _ (by decide) (by decide) (by decide) (by decide)]
    exact State.get_set_self _ _ _ _ _ _ (by decide) (by decide)
  · exact (State.regsOnly_set _ F.AFE_CTL.REF_RDY _ _ _ _ a (haddr ▸ ha)).trans (State.regsOnly_set _ _ _ _ _ _ a ha)

theorem refDisable_of_busy (h : anyChannelEnabled s = true) : refDisable s = s.set F.AFE_CTL.REF_REFUSED 1 := by
  rw [refDisable, if_pos h]

end

/-- Settles O13: the first failure and the rotation step by what becomes of the channel's slots, the reference rows by the fields of
AFE_CTL that each writes. -/
theorem afeSlicesAndReferences : Obligations.AfeSlicesAndReferences := by
  intro s ch slot slice buf sum gain ofs v m old next spare
  refine ⟨?timeout, ?rotation, ?calibration, ?enable, ?ready, ?disable, ?refused, ?fault, ?coef⟩
  case timeout =>
    intro hok hspare
    have hrun : exec (.sliceTimeout ch slot) s = .next (failSlice ch.val old s) := rfl
    obtain ⟨hslot, hlost, hnone, hcode⟩ := failSlice_of_first_holds ch.isLt slot.isLt hok hspare
    exact ⟨_, hrun, hslot, hlost, hnone, hcode, failSlice_mask rfl rfl rfl rfl rfl _ _ _⟩
  case rotation =>
    intro hspare hsum
    obtain ⟨u, hrun, hslot⟩ := execRotationStep_of_pass hspare hsum
    refine ⟨_, hrun, hslot, ?_, ?_, execRotationStep_mask rfl rfl rfl rfl rfl _ _ _ _ hrun⟩
    · rw [State.get_set_bits _ _ _ _ _ _ _ _ _ _ (by decide) (by decide) (by decide) (by decide),
        State.get_set_self _ _ _ _ _ _ (by decide) (by decide)]
      rfl
    · rw [State.get_set_self _ _ _ _ _ _ (by decide) (by decide)]
      exact Nat.mod_mod _ _
  case calibration =>
    intro hspare hofs hofs' hgain hgain'
    have hrun := execSpareCalibration_of_within hspare ⟨hofs, hofs'⟩ ⟨hgain, hgain'⟩
    have hslices := fun y => State.slices_setSlices s ch.val y
    exact ⟨_, hrun, congrArg SliceSt.calDone (hslices _), congrArg SliceSt.calOfs (hslices _), congrArg SliceSt.calGain (hslices _),
      setSlices_mask rfl _ _ _⟩
  case enable =>
    intro hw hready
    exact ⟨_, execRefEnable_of_writer hw hready, State.get_set_one _ _ _ _ _ (by decide) (by decide), rfl, wr_answer_frame _ _ _ _⟩
  case ready =>
    intro hen hrdy
    have hrun := execRefReady_of_settled hen hrdy
    refine ⟨_, hrun, ?_, execRefReady_mask rfl rfl rfl rfl rfl _ _ hrun⟩
    rw [raise_get _ _ _ _ _ _ (by decide) (by decide), State.get_set_one _ _ _ _ _ (by decide) (by decide)]
  case disable =>
    intro hw hready hidle
    have hrun := execRefDisable_of_writer hw hready
    obtain ⟨hen, hrdy, hregs⟩ := refDisable_of_idle hidle
    exact ⟨_, hrun, hen, hrdy, rfl, hregs, execRefDisable_mask rfl rfl _ _ hrun⟩
  case refused =>
    intro hw hready hbusy
    have hrun := execRefDisable_of_writer hw hready
    rw [refDisable_of_busy hbusy] at hrun
    refine ⟨_, hrun, State.get_set_one _ _ _ _ _ (by decide) (by decide), ?_, execRefDisable_mask rfl rfl _ _ hrun⟩
    exact State.get_set_bits _ _ _ _ _ _ _ _ _ _ (by decide) (by decide) (by decide) (by decide)
  case fault =>
    have hrun := execRefBufferFault.eq_def buf s
    refine ⟨_, hrun, ?_, ?_, execRefBufferFault_mask rfl rfl rfl rfl _ _ hrun⟩
    · rw [State.bit, raise_get _ _ _ _ _ _ (by decide) (by decide), issue_get]
      exact State.bit_setBit_self _ _ _ _ _ _ _ buf.isLt (by decide)
    · rw [raise_sys, issue_lastFault]
  case coef =>
    intro hw hready hhold hoff
    exact ⟨_, execSliceCoefWrite_of_writer hw hready hhold hoff, State.rd_wr_self _ _ _, wr_answer_frame _ _ _ _⟩

end Sys2Proof.Machine

/-! Windows and points of the fast front end (05_fast_measurement.md R137 to R152): how a window opens, samples its points, closes, drains
and delivers its result, and the obligation about it, O12. -/

namespace Sys2Proof.Machine
open Sys2Proof

section
variable {s : State} {n w : Nat} {ch : Fin 48} {win : Fin 2}

/-! ### Opening and sampling (R137, R143, R152) -/

theorem execWindowStart_of_startable (hstart : winStartable s ch.val win.val = true) (hclosed : (s.win ch.val win.val).open_ = false)
    (hmode : s.get F.AFE_WIN_CTL.MODE ch.val win.val ≠ 3) : execWindowStart ch win s =
      .next (s.setWin ch.val win.val (latchWin s ch.val win.val (s.win ch.val win.val))) := by
  simp [execWindowStart, hstart, hclosed, hmode]

theorem execSegmentAnchor_of_startable {leg l2 : Fin 32} {apart : Nat} (hstart : winStartable s ch.val win.val = true)
    (hclosed : (s.win ch.val win.val).open_ = false) (hmode : s.get F.AFE_WIN_CTL.MODE ch.val win.val = 3)
    (hlo : s.get F.AFE_WIN_CTL.SEG_LEG ch.val win.val ≤ leg.val) (hhi : leg.val ≤ s.get F.AFE_WIN_CTL.SEG_LEG ch.val win.val + 2) :
    execSegmentAnchor ch win leg (some l2) apart s =
      .next (s.setWin ch.val win.val { latchWin s ch.val win.val (s.win ch.val win.val) with
        anchor := some (leg.val + 32 * l2.val)
        segShort := decide ((apart : Int) < s.get F.AFE_WIN_SEG.SEG_DELAY ch.val win.val +
          (max (s.get F.AFE_WIN_SEG.SEG_LEN ch.val win.val) 16 : Nat) + s.get F.AFE_WIN_SEG.SEG_GUARD ch.val win.val - 72) }) := by
  rw [execSegmentAnchor, if_pos (by simp [hstart, hclosed, hmode, hlo, hhi])]

theorem execPointSample_of_bound {pt : Fin 4} {xs : List RawSample} {frac : Fin 8} {age : Nat} {a b : Int} {x : WinSt}
    (hx : s.win ch.val (s.get F.AFE_PT_CFG.BIND ch.val pt.val) = x) (hen : s.getB F.AFE_PT_CFG.EN ch.val pt.val = true)
    (hopen : x.open_ = true) (hmode : getBits x.ctl 29 28 ≠ 3) (hfirst : (SMap.get (0, 0) x.pts pt.val).2 = 0)
    (havg : s.get F.AFE_PT_CFG.AVG ch.val pt.val = 0) (hvals : (correct s ch.val xs).map (·.2) = [a, b]) :
    execPointSample ch pt xs frac age s = .next (s.setWin ch.val (s.get F.AFE_PT_CFG.BIND ch.val pt.val)
      { x with pts := SMap.put (0, 0) x.pts pt.val (roundDiv (a * (8 - (frac.val : Int)) + b * (frac.val : Int)) 32, age + 1) }) := by
  simp [execPointSample, hx, hen, hopen, hmode, hfirst, havg, hvals]

/-! ### The end of a window (R138, R139) -/

/-- The result of an open window that closes with these samples. -/
theorem closeWindow_of_open (hopen : (s.win n w).open_ = true) (xs : List RawSample) (abort : Bool) :
    ∃ q, ((closeWindow n w xs abort s).win n w).res = some q ∧ q.w = weightSum (correct s n xs) ∧ q.mean = windowMean (correct s n xs) ∧
      q.ts = s.ts32 ∧ (abort = true → ((closeWindow n w xs abort s).win n w).open_ = false) := by
  have hrun := closeWindow.eq_def n w xs abort s
  extract_lets x cs wlen mode drain ps missBits misses f r counted flagged raised closed closing winDrained drained s' at hrun
  rw [if_neg (by simp [x, hopen])] at hrun
  have hdrained : drained.afe = closing.afe := by
    dsimp only [drained]
    split <;> rfl
  have hafe : s'.afe = closing.afe := by
    dsimp only [s']
    split
    · exact (raise_afe _ _).trans hdrained
    · rfl
  have hwin : s'.win n w = closed := (State.win_of_afe hafe n w).trans (State.win_setWin _ _ _ _)
  rw [hrun]
  refine ⟨r, ?_, rfl, rfl, rfl, fun habort => ?_⟩
  · split
    · rw [State.win_setWin]
      rfl
    · rw [hwin]
  · rw [if_neg (by simp [habort]), hwin]

/-- The parts an update of the back-EMF observers can change: a lost tracker reaches the sets and channels it serves. -/
abbrev Parts.observers : Parts :=
  { regs := true, sys := true, fab := true, pwm := true, cnv := true, fly := true, kln := true, act := true }

/-- Observers and snapshot leave the front end as the closing window left it. -/
theorem windowEnd_afe (hopen : (s.win n w).open_ = true) (xs : List RawSample) (abort : Bool) (d : SnapAge) :
    (windowEnd n w xs abort d s).afe = (closeWindow n w xs abort s).afe := by
  have hsnap : ∀ t, (takeSnapshot n w d t).afe = t.afe := fun t => afe_of_mask (K := { fly := true }) rfl (takeSnapshot_mask rfl _ _ _ _)
  rw [windowEnd, if_neg (by simp [hopen]), hsnap]
  exact ite_keeps (p := State.afe) (afe_of_mask (K := .observers) rfl (emfUpdates_mask rfl rfl rfl rfl rfl rfl rfl rfl _ _ _ _))

/-- The end or the abort of an open window forms its result; an abort leaves it closed. -/
theorem windowEnd_of_open (hopen : (s.win n w).open_ = true) (xs : List RawSample) (abort : Bool) (d : SnapAge) :
    ∃ q, ((windowEnd n w xs abort d s).win n w).res = some q ∧ q.w = weightSum (correct s n xs) ∧ q.mean = windowMean (correct s n xs) ∧
      q.ts = s.ts32 ∧ (abort = true → ((windowEnd n w xs abort d s).win n w).open_ = false) := by
  rw [State.win_of_afe (windowEnd_afe hopen xs abort d)]
  exact closeWindow_of_open hopen xs abort

/-! ### Draining (R142) -/

/-- A drain writes the two DRAINING fields alone. -/
theorem drainWindow_rd {a : Nat} (hwin : a ≠ F.AFE_WIN_CTL.EN.addr n w 0) (hch : a ≠ F.AFE_CH_CFG.EN.addr n 0 0) (s : State) :
    (drainWindow n w s).rd a = s.rd a := by
  unfold drainWindow
  split
  · exact (set_quiet _ F.AFE_CH_CFG.DRAINING _ _ _ _ _ hch).trans (set_quiet _ F.AFE_WIN_CTL.DRAINING _ _ _ _ _ hwin)
  · rfl

theorem drainWindow_get {f : Fld} (hf : f.hi < 30 ∨ 30 < f.lo) (hle : f.lo ≤ f.hi) (i j k : Nat) (s : State) :
    (drainWindow n w s).get f i j k = s.get f i j k := by
  unfold drainWindow
  split
  · rw [State.get_set_bits _ _ _ _ _ _ _ _ _ _ (by decide) (by decide) hf hle,
      State.get_set_bits _ _ _ _ _ _ _ _ _ _ (by decide) (by decide) hf hle]
  · rfl

theorem drainWindow_afe (s : State) : (drainWindow n w s).afe = s.afe := afe_of_mask (K := { regs := true }) rfl (drainWindow_mask rfl _ _ _)

/-- Window (n, w) and its channel show that they drain. -/
def Drains (s : State) (n w : Nat) : Prop := s.get F.AFE_WIN_CTL.DRAINING n w = 1 ∧ s.get F.AFE_CH_CFG.DRAINING n = 1

/-- The registers of a window and of a channel lie apart. -/
theorem winCtl_ne_chCfg (n w : Nat) : F.AFE_WIN_CTL.DRAINING.addr n w 0 ≠ F.AFE_CH_CFG.DRAINING.addr n 0 0 := by
  simp only [Fld.addr, F.AFE_WIN_CTL.DRAINING, F.AFE_CH_CFG.DRAINING]
  omega

theorem drainWindow_drains (hopen : (s.win n w).open_ = true) : Drains (drainWindow n w s) n w := by
  rw [drainWindow, if_pos hopen]
  refine ⟨?_, State.get_set_one _ _ _ _ _ (by decide) (by decide)⟩
  rw [State.get_set_addr _ _ _ _ _ _ _ _ _ _ (winCtl_ne_chCfg n w), State.get_set_one _ _ _ _ _ (by decide) (by decide)]

/-- Draining the channel's other window takes no DRAINING away. -/
theorem drainWindow_keeps_drains {v : Nat} (h : Drains s n w) : Drains (drainWindow n v s) n w := by
  obtain ⟨hwin, hch⟩ := h
  unfold drainWindow
  split
  · refine ⟨?_, State.get_set_one _ _ _ _ _ (by decide) (by decide)⟩
    rw [State.get_set_addr _ _ _ _ _ _ _ _ _ _ (winCtl_ne_chCfg n w), State.get_set_one_of_one hwin _ _ _ (by decide) (by decide)]
  · exact ⟨hwin, hch⟩

/-- Draining both windows of a channel: each that is open drains. -/
theorem drainWindows_drains (win : Fin 2) (hopen : (s.win n win.val).open_ = true) : Drains (drainWindow n 1 (drainWindow n 0 s)) n win.val := by
  match win with
  | 0 => exact drainWindow_keeps_drains (drainWindow_drains hopen)
  | 1 => exact drainWindow_drains (by rwa [State.win_of_afe (drainWindow_afe s)])

/-! ### Delivery (R149) -/

/-- Deliveries write Whorl registers: nothing below block 9. -/
theorem putPort_rd {a : Nat} (ha : a < 0x30090000) (u p : Nat) (v : Option Word) (s : State) : (putPort u p v s).rd a = s.rd a := by
  have hfresh : a ≠ F.WHL_FRESH.FRESH.addr u (p / 32) 0 := by simp only [Fld.addr, F.WHL_FRESH.FRESH]; omega
  have hvalue : a ≠ F.WHL_INP.VALUE.addr u p 0 := by simp only [Fld.addr, F.WHL_INP.VALUE]; omega
  cases v with
  | some v => exact (set_quiet _ _ _ _ _ _ _ hfresh).trans (State.rd_wr_ne _ _ _ _ hvalue)
  | none => exact set_quiet _ _ _ _ _ _ _ hfresh

theorem putPorts_rd {a : Nat} (ha : a < 0x30090000) (u p : Nat) (v : Option Word) (s : State) : (putPorts u p v s).rd a = s.rd a := by
  rw [putPorts, foldl_rd _ _ fun s v' => putPort_rd ha v' p v s, putPort_rd ha]

theorem deliver_rd {a : Nat} (ha : a < 0x30090000) (u p : Nat) (v : Option Word) (s : State) : (deliver u p v s).rd a = s.rd a := by
  rw [deliver, foldl_rd _ _ fun s d => putPorts_rd ha _ _ _ s, putPorts_rd ha]

theorem length_recordBytes (r : WinRes) (seq : Nat) : (recordBytes r seq).length = 32 := by
  simp [recordBytes, length_toBytes]

/-- The delivery of a window's result: behind what reaches the ports, its record is written and the window counts it. -/
theorem execAfeResultDelivery_of_result {r : WinRes} (hres : (s.win ch.val win.val).res = some r) (hready : s.pdReady 6 = true) :
    ∃ (u : State) (y : WinSt), u.mem = s.mem ∧ y.seq = ((s.win ch.val win.val).seq + 1) % 65536 ∧ execAfeResultDelivery ch win s = .next
      ((u.setBytes (0x40000000 + ch.val * 0x100 + win.val * 0x80 + (s.win ch.val win.val).seq % 4 * 0x20)
        (recordBytes r (s.win ch.val win.val).seq)).setWin ch.val win.val y) := by
  have hrun := execAfeResultDelivery.eq_def ch win s
  extract_lets n w x whorl at hrun
  rw [show x.res = some r from hres] at hrun
  dsimp -zeta only at hrun
  extract_lets itemsDelivered snapsDelivered fly cleared written at hrun
  have hkeeps : ∀ {β : Type} (p : State → β), (∀ u q v t, p (deliver u q v t) = p t) → p snapsDelivered = p s := fun p hp =>
    (foldl_keeps p _ _ (fun _ _ _ => ite_keeps (hp _ _ _ _)) _).trans (foldl_keeps p _ _ (fun _ _ _ => ite_keeps (hp _ _ _ _)) _)
  have hcleared : cleared.pdReady 6 = true :=
    (State.pdReady_of_rd (by decide) (hkeeps (fun t => t.rd (F.PD_STAT.ON.addr 0 0 0)) (deliver_rd (by decide)))).trans hready
  have hwritten : written = cleared.setBytes _ _ := if_pos hcleared
  rw [hwritten] at hrun
  exact ⟨cleared, _, hkeeps State.mem deliver_mem, rfl, hrun⟩

end

/-- Settles O12: opening and sampling by the window each stores, the end by the result it forms, draining by the fields it sets, and
the delivery by the 32 bytes of its record. -/
theorem afeWindows : Obligations.AfeWindows := by
  intro s ch win leg l2 apart age pt xs frac d r x ring bound
  refine ⟨?start, ?anchor, ?point, ?finish, ?abort, ?disable, ?channel, ?delivery⟩
  case start =>
    intro hstart hclosed hmode
    have hwin := State.win_setWin s ch.val win.val (latchWin s ch.val win.val x)
    exact ⟨_, execWindowStart_of_startable hstart hclosed hmode, congrArg WinSt.open_ hwin, congrArg WinSt.ctl hwin,
      congrArg WinSt.pts hwin, setWin_mask rfl _ _ _ _⟩
  case anchor =>
    intro hstart hclosed hmode hlo hhi
    have hwin := fun y => State.win_setWin s ch.val win.val y
    exact ⟨_, execSegmentAnchor_of_startable hstart hclosed hmode hlo hhi, congrArg WinSt.open_ (hwin _), congrArg WinSt.anchor (hwin _),
      congrArg WinSt.segShort (hwin _), setWin_mask rfl _ _ _ _⟩
  case point =>
    intro a b hen hopen hmode hfirst havg hvals
    refine ⟨_, execPointSample_of_bound rfl hen hopen hmode hfirst havg hvals, ?_, setWin_mask rfl _ _ _ _⟩
    rw [State.win_setWin, SMap.get_put_self]
  case finish =>
    intro hopen
    obtain ⟨q, hres, hw, hmean, hts, -⟩ := windowEnd_of_open hopen xs false d
    exact ⟨_, rfl, q, hres, hw, hmean, hts, windowEnd_mask rfl rfl rfl rfl rfl rfl rfl rfl rfl _ _ _ _ _ _⟩
  case abort =>
    intro hopen
    obtain ⟨q, hres, hw, hmean, -, hclosed⟩ := windowEnd_of_open hopen xs true d
    exact ⟨_, rfl, hclosed rfl, q, hres, hw, hmean, windowEnd_mask rfl rfl rfl rfl rfl rfl rfl rfl rfl _ _ _ _ _ _⟩
  case disable =>
    refine ⟨_, rfl, ?_, fun hopen => drainWindow_drains hopen, fun a ha => ?_, execWindowDisable_mask rfl _ _ _ rfl⟩
    · rw [drainWindow_get (by decide) (by decide)]
      exact State.get_set_self _ _ _ _ _ _ (by decide) (by decide)
    · simp only [List.mem_cons, List.not_mem_nil, or_false, not_or] at ha
      rw [drainWindow_rd ha.1 ha.2, set_quiet _ _ _ _ _ _ _ ha.1]
  case channel =>
    refine ⟨_, rfl, ?_, fun hopen => drainWindows_drains win hopen, fun a ha => ?_, execAfeChannelDisable_mask rfl _ _ rfl⟩
    · rw [drainWindow_get (by decide) (by decide), drainWindow_get (by decide) (by decide)]
      exact State.get_set_self _ _ _ _ _ _ (by decide) (by decide)
    · simp only [List.mem_cons, List.not_mem_nil, or_false, not_or] at ha
      obtain ⟨hzero, hone, hch⟩ := ha
      rw [drainWindow_rd hone hch, drainWindow_rd hzero hch, set_quiet _ _ _ _ _ _ _ hch]
  case delivery =>
    intro hres hready
    obtain ⟨u, y, hmem, hseq, hrun⟩ := execAfeResultDelivery_of_result hres hready
    have hlen := length_recordBytes r x.seq
    refine ⟨_, hrun, ?_, ?_, fun b hb => ?_, execAfeResultDelivery_mask rfl rfl rfl rfl _ _ _ hrun⟩
    · rw [State.win_setWin, hseq]
    · have hread := State.bytes_setBytes (recordBytes r x.seq) u ring
      rw [hlen] at hread
      exact (State.bytes_of_mem (State.setWin_mem _ _ _ _) _ _).trans hread
    · rw [State.byte_of_mem (State.setWin_mem _ _ _ _), State.byte_setBytes _ _ _ _ (by rwa [hlen]), State.byte_of_mem hmem]

end Sys2Proof.Machine

/-! Housekeeping conversions and twin checks (05_fast_measurement.md R156 to R159): what a conversion shows, how an arbitration ends, what
the loss of a converter's twins writes, and the obligation about them, O14. -/

namespace Sys2Proof.Machine
open Sys2Proof

/-- The parts in which the loss of twins and the Kiln's suspension of checks act. -/
abbrev Parts.twinLoss : Parts := { regs := true, sys := true, fab := true, pwm := true, kln := true, act := true }

section
variable {s : State}

/-! ### A conversion of an input (R156) -/

theorem hkInput_last {i code : Nat} (hcode : code < 4096) (s : State) : (hkInput i code s).get F.HK_RES.LAST i = code := by
  rw [hkInput, State.setB, State.get_set_bits _ _ _ _ _ _ _ _ _ _ (by decide) (by decide) (by decide) (by decide),
    State.get_set_bits _ _ _ _ _ _ _ _ _ _ (by decide) (by decide) (by decide) (by decide),
    State.get_set_self _ _ _ _ _ _ (by decide) (by decide)]
  exact Nat.mod_eq_of_lt hcode

theorem hkInput_hk (i code : Nat) (s : State) :
    (hkInput i code s).hk = { s.hk with hist := SMap.put [] s.hk.hist i ((code :: SMap.get [] s.hk.hist i).take 16) } := rfl

/-- The Kiln's reading of the DC-link voltage writes no measuring register. -/
theorem kilnLinkHk_quiet {a : Nat} (h : Quiet a) (i code : Nat) (s : State) : (kilnLinkHk i code s).rd a = s.rd a := by
  unfold kilnLinkHk
  dsimp only
  split
  · rfl
  · split
    · rfl
    · rw [kilnCond_quiet _ _ _ _ h, kilnCond_quiet _ _ _ _ h]
      rfl

theorem kilnLinkHk_hk (i code : Nat) (s : State) : (kilnLinkHk i code s).hk = s.hk :=
  hk_of_mask (K := .twinLoss) rfl (kilnLinkHk_mask rfl rfl rfl rfl rfl rfl _ _ _)

theorem execHkConversionSlot_of_enabled {i : Fin 64} {code : BitVec 12} (hready : s.pdReady 10 = true)
    (hen : s.bit F.HK_CTL.IN_EN (i.val % 16) (i.val / 16) = true) :
    execHkConversionSlot (.input i code) s = .next (kilnLinkHk i.val code.toNat (hkInput i.val code.toNat s)) := by
  simp [execHkConversionSlot, hready, hen]

/-! ### Lost twins (R158, R159) -/

theorem loseTwins_rd {a : Nat} {c : Nat} (hq : Quiet a) (ha : a < 0x300C0100 + 48 * c) (code : Nat) (s : State) :
    (loseTwins c code s).rd a = s.rd a := by
  rw [loseTwins, raise_quiet _ _ _ (by decide) hq, issue_rd]
  refine foldl_rd _ _ (fun s i => set_quiet _ _ _ _ _ _ _ ?_) _ _
  simp only [Fld.addr, F.HK_TWIN_CFG.TWIN_LOST]
  omega

theorem twinLost_measuring {i c : Nat} (hi : i < 12) (hc : c < 4) : Measuring (F.HK_TWIN_CFG.TWIN_LOST.addr (12 * c + i) 0 0) := by
  simp only [Fld.addr, F.HK_TWIN_CFG.TWIN_LOST]
  omega

/-- Each of the converter's twelve twins is lost. -/
theorem loseTwins_twinLost {i c : Nat} (hi : i < 12) (hc : c < 4) (code : Nat) (s : State) :
    (loseTwins c code s).get F.HK_TWIN_CFG.TWIN_LOST (12 * c + i) = 1 := by
  rw [loseTwins, State.get_of_rd (raise_quiet _ _ _ (by decide) (twinLost_measuring hi hc).quiet), issue_get]
  exact State.get_foldl_set_one (by decide) (by decide) (12 * c + ·) _ _ (.inl (List.mem_range.mpr hi))

theorem hkRefFail_refFail (c : Nat) (s : State) : (hkRefFail c s).get F.HK_CTL.REF_FAIL c = 1 := by
  rw [hkRefFail, State.get_of_rd (foldl_rd _ _ (fun s i => set_quiet _ _ _ _ _ _ _ ?_) _ _), State.get_set_one _ _ _ _ _ (by decide) (by decide)]
  simp only [Fld.addr, F.HK_CTL.REF_FAIL, F.HK_RES.VALID]
  omega

theorem hkRefFail_hk (c : Nat) (s : State) : (hkRefFail c s).hk = s.hk :=
  hk_of_mask (K := { regs := true }) rfl (hkRefFail_mask rfl c s)

/-- The loss of a converter's twins with its code, told as a substitution and to the Kiln. -/
def twinsLost (c code : Nat) (s : State) : State := kilnInputs (substitution F.DBG_OLT_STAT.TWIN_REDUCED (loseTwins c code s))

theorem twinsLost_frame (c code : Nat) (s : State) : OnlyChanges .twinLoss s (twinsLost c code s) :=
  (kilnInputs_mask rfl rfl rfl rfl rfl rfl _).trans ((substitution_mask rfl rfl _ _).trans (loseTwins_mask rfl rfl rfl rfl c code s))

theorem twinsLost_hk (c code : Nat) (s : State) : (twinsLost c code s).hk = s.hk := hk_of_mask rfl (twinsLost_frame c code s)

/-- A measuring register is written by `loseTwins` alone. -/
theorem twinsLost_get {f : Fld} {i : Nat} (hf : Measuring (f.addr i 0 0)) (c code : Nat) (s : State) :
    (twinsLost c code s).get f i = (loseTwins c code s).get f i :=
  State.get_of_rd (by rw [twinsLost, kilnInputs_quiet _ _ hf.quiet, substitution_rd hf rfl])

theorem twinsLost_twinLost {i c : Nat} (hi : i < 12) (hc : c < 4) (code : Nat) (s : State) :
    (twinsLost c code s).get F.HK_TWIN_CFG.TWIN_LOST (12 * c + i) = 1 := by
  rw [twinsLost_get (twinLost_measuring hi hc), loseTwins_twinLost hi hc]

theorem twinsLost_refFail {c : Nat} (hc : c < 4) (code : Nat) (s : State) :
    (twinsLost c code s).get F.HK_CTL.REF_FAIL c = s.get F.HK_CTL.REF_FAIL c := by
  have hmeas : Measuring (F.HK_CTL.REF_FAIL.addr c 0 0) := by
    simp only [Fld.addr, F.HK_CTL.REF_FAIL]
    omega
  refine (twinsLost_get hmeas c code s).trans (State.get_of_rd (loseTwins_rd hmeas.quiet ?_ _ _))
  simp only [Fld.addr, F.HK_CTL.REF_FAIL]
  omega

/-! ### The end of an arbitration (R158) -/

/-- The twin's check after its arbitration has ended. -/
def arbitrated (n : Nat) (s : State) : State := s.setTwin n { s.twin n with arb := false, run := 0 }

theorem arbitrated_twin (n : Nat) (s : State) : ((arbitrated n s).twin n).arb = false ∧ ((arbitrated n s).twin n).run = 0 := by
  rw [arbitrated, State.twin_setTwin]
  exact ⟨rfl, rfl⟩

theorem twinArbitration_of_clean {n slot : Nat} (harb : (s.twin n).arb = true) (hbad : (s.twin n).lastBad = false) :
    twinArbitration n true false slot s = arbitrated n s := by
  simp [twinArbitration, harb, hbad, arbitrated]

theorem twinArbitration_of_refs_bad {n slot : Nat} (harb : (s.twin n).arb = true) (dis : Bool) :
    kilnInputs (twinArbitration n false dis slot s) = twinsLost (n / 12) 0x0822 (hkRefFail (n / 12) (arbitrated n s)) := by
  simp [twinArbitration, harb, arbitrated, twinsLost]

end

theorem kilnInputs_frame (s : State) : OnlyChanges .twinLoss s (kilnInputs s) := kilnInputs_mask rfl rfl rfl rfl rfl rfl s

/-- Settles O14: the conversion by what the result register and the history take, the arbitrations by their finding, the lost twins by
the fold that marks them. -/
theorem housekeepingConversions : Obligations.HousekeepingConversions := by
  intro s i code ch slot c dis
  refine ⟨?input, ?clean, ?refs, ?strobe⟩
  case input =>
    intro hready hen
    have hrun := execHkConversionSlot_of_enabled (code := code) hready hen
    have hhk := (kilnLinkHk_hk i.val code.toNat (hkInput i.val code.toNat s)).trans (hkInput_hk _ _ _)
    have hquiet : Quiet (F.HK_RES.LAST.addr i.val 0 0) := by
      refine Measuring.quiet ?_
      simp only [Fld.addr, F.HK_RES.LAST]
      omega
    refine ⟨_, hrun, ?_, ?_, ?_, execHkConversionSlot_mask rfl rfl rfl rfl rfl rfl rfl _ _ hrun⟩
    · rw [State.get_of_rd (kilnLinkHk_quiet hquiet _ _ _), hkInput_last code.isLt]
    · rw [hhk, SMap.get_put_self]
    · rw [hhk]
  case clean =>
    intro harb hbad
    obtain ⟨hended, hrestarted⟩ := arbitrated_twin ch.val s
    have hrun : exec (.twinArbitrationEnd ch true false slot) s = .next (kilnInputs (arbitrated ch.val s)) :=
      congrArg (fun t => Host.Outcome.next (kilnInputs t)) (twinArbitration_of_clean harb hbad)
    have hhk := hk_of_mask rfl (kilnInputs_frame (arbitrated ch.val s))
    have hquiet : Quiet (F.AFE_CH_CFG.FAILED.addr ch.val 0 0) := by
      refine Measuring.quiet ?_
      simp only [Fld.addr, F.AFE_CH_CFG.FAILED]
      omega
    refine ⟨_, hrun, ?_, ?_, afe_of_mask (s := arbitrated ch.val s) rfl (kilnInputs_frame _), State.get_of_rd (kilnInputs_quiet _ _ hquiet),
      execTwinArbitrationEnd_mask rfl rfl rfl rfl rfl rfl rfl rfl _ _ _ _ _ hrun⟩
    · rw [State.twin_of_hk hhk, hended]
    · rw [State.twin_of_hk hhk, hrestarted]
  case refs =>
    intro harb
    obtain ⟨hended, -⟩ := arbitrated_twin ch.val s
    have hconv : ch.val / 12 < 4 := by omega
    have hrun : exec (.twinArbitrationEnd ch false dis slot) s = _ :=
      congrArg Host.Outcome.next (twinArbitration_of_refs_bad (slot := slot.val) harb dis)
    refine ⟨_, hrun, ?arb, ?refFail, ?lost, execTwinArbitrationEnd_mask rfl rfl rfl rfl rfl rfl rfl rfl _ _ _ _ _ hrun⟩
    case arb =>
      rw [State.twin_of_hk ((twinsLost_hk _ _ _).trans (hkRefFail_hk _ _))]
      exact hended
    case refFail => rw [twinsLost_refFail hconv, hkRefFail_refFail]
    case lost =>
      have hlost := twinsLost_twinLost (Nat.mod_lt ch.val (by decide)) hconv 0x0822 (hkRefFail (ch.val / 12) (arbitrated ch.val s))
      rwa [Nat.div_add_mod] at hlost
  case strobe =>
    have hrun : exec (.twinStrobeTimeout c) s = .next (twinsLost c.val 0x0821 s) := rfl
    exact ⟨_, hrun, fun i => twinsLost_twinLost i.isLt c.isLt _ _, twinsLost_hk _ _ _, afe_of_mask rfl (twinsLost_frame _ _ _),
      twinsLost_frame _ _ _⟩

end Sys2Proof.Machine

/-! The coefficient queue, the memory writes, the standby and the handover of the Whorls (06_whorl_engines.md R163 to R196): what a word
written, a queue entry, a standby's steps and a request do on the branch that carries them out, and the obligation about them, O11. -/

namespace Sys2Proof.Machine
open Sys2Proof

/-! ### Whorls and stored words -/

@[simp] theorem State.whorl_setWhorl (s : State) (w : Nat) (x : WhorlSt) : (s.setWhorl w x).whorl w = x := SMap.get_put_self _ _ _ _

theorem State.whorl_of_whl {s t : State} (h : t.whl = s.whl) (w : Nat) : t.whorl w = s.whorl w := by rw [State.whorl, h, State.whorl]

@[simp] theorem State.whorl_set (s : State) (f : Fld) (v i j k w : Nat) : (s.set f v i j k).whorl w = s.whorl w := rfl

@[simp] theorem State.whorl_answer (s : State) (r : BusResp) (w : Nat) : (s.answer r).whorl w = s.whorl w := rfl

@[simp] theorem State.whorl_cleanWord (s : State) (k w : Nat) : (cleanWord k s).whorl w = s.whorl w := rfl

/-- From s to t the `n` bytes at `k` took the value `x`, and no other byte changed. -/
def Stored (k n x : Nat) (s t : State) : Prop := t.bytes k n = toBytes n x ∧ BytesOnly k n s t

theorem stored_store (k n x : Nat) (s : State) : Stored k n x s (s.store k n x) :=
  ⟨State.bytes_store _ _ _ _, State.bytesOnly_store _ _ _ _⟩

/-- What was stored depends on the two memories alone. -/
theorem Stored.of_mem {k n x : Nat} {s s' t t' : State} (h : Stored k n x s t) (hs : s'.mem = s.mem) (ht : t'.mem = t.mem) :
    Stored k n x s' t' := by
  obtain ⟨hbytes, honly⟩ := h
  refine ⟨(State.bytes_of_mem ht k n).trans hbytes, fun b hb => ?_⟩
  rw [State.byte_of_mem ht, honly b hb, State.byte_of_mem hs]

/-- A full-word write: the poison is cleared and the word stored. -/
theorem stored_cleanWord_store (k n x : Nat) (s : State) : Stored k n x s ((cleanWord k s).store k n x) :=
  (stored_store k n x (cleanWord k s)).of_mem (cleanWord_mem _ _).symm rfl

theorem poisoned_cleanWord (k : Nat) (s : State) : (cleanWord k s).poisoned k = false := by
  simp [State.poisoned, cleanWord]

theorem State.get_set_zero (s : State) (f : Fld) (i j k : Nat) (hf : f.hi < 32) (hle : f.lo ≤ f.hi) :
    (s.set f 0 i j k).get f i j k = 0 := by
  rw [State.get_set_self _ _ _ _ _ _ hf hle, Nat.zero_mod]

section
variable {s : State} {m : Master} {v : Word}

/-! ### The queue (R164, R176 to R180) -/

/-- Applying a coefficient entry stores its word. -/
theorem applyEntry_coef_stored (w i : Nat) (v : Word) (s : State) : Stored (coefKey w i) 4 v.toNat s (applyEntry w (.coef i v) s) :=
  stored_cleanWord_store _ _ _ _

theorem enqueue_of_room {w : Nat} (hroom : (s.whorl w).queue.length < 16) (e : QEntry) : enqueue w e s =
    ((s.setWhorl w { s.whorl w with queue := (s.whorl w).queue ++ [e] }).set F.WHL_CTL.CQ_LEVEL
      ((s.whorl w).queue.length + 1) w).answer .done :=
  if_neg (by omega)

theorem coefWrite_of_enabled {w i : Nat} (hready : whlReady s w = true) (hen : enabledLoops s w ≠ []) (hsrc : queueSource s w m = true) :
    coefWrite m w i v s = enqueue w (.coef i v) s := by
  simp [coefWrite, hready, hen, hsrc]

theorem coefWrite_of_idle {w i : Nat} (hready : whlReady s w = true) (hidle : enabledLoops s w = []) (hw : s.regWriter m = true) :
    coefWrite m w i v s = (applyEntry w (.coef i v) s).answer .done := by
  simp [coefWrite, hready, hidle, hw]

/-- A direct coefficient write stores its word. -/
theorem coefWrite_stored_of_idle {w i : Nat} (hready : whlReady s w = true) (hidle : enabledLoops s w = []) (hw : s.regWriter m = true) :
    Stored (coefKey w i) 4 v.toNat s (coefWrite m w i v s) ∧ (coefWrite m w i v s).resp = .done := by
  rw [coefWrite_of_idle hready hidle hw]
  exact ⟨applyEntry_coef_stored w i v s, rfl⟩

/-- An accepted entry is the queue's last and CQ_LEVEL counts it. -/
theorem enqueue_effect {w : Nat} (hroom : (s.whorl w).queue.length < 16) (e : QEntry) :
    ((enqueue w e s).whorl w).queue = (s.whorl w).queue ++ [e] ∧
    (enqueue w e s).get F.WHL_CTL.CQ_LEVEL w = (s.whorl w).queue.length + 1 ∧ (enqueue w e s).resp = .done := by
  rw [enqueue_of_room hroom]
  refine ⟨by simp, ?_, rfl⟩
  refine (State.get_set_self _ F.WHL_CTL.CQ_LEVEL _ w 0 0 (by decide) (by decide)).trans (Nat.mod_eq_of_lt ?_)
  exact Nat.lt_of_le_of_lt hroom (by decide)

/-- The entries of a batch in order, each on the Whorl and on its peers. -/
def batchApplied (w : Nat) (s : State) : State :=
  (s.whorl w).queue.foldl (fun u e => (peersOf s w).foldl (fun u p => applyEntry p e u) (applyEntry w e u)) s

/-- The queue of Whorl w is emptied and CQ_LEVEL shows it. -/
def queueEmptied (w : Nat) (s : State) : State := (s.setWhorl w { s.whorl w with queue := [] }).set F.WHL_CTL.CQ_LEVEL 0 w

theorem queueEmptied_effect (w : Nat) (s : State) :
    ((queueEmptied w s).whorl w).queue = [] ∧ (queueEmptied w s).get F.WHL_CTL.CQ_LEVEL w = 0 :=
  ⟨by simp [queueEmptied], State.get_set_zero _ _ _ _ _ (by decide) (by decide)⟩

theorem execQueueBatchApply_of_idle {w : Fin 8} (hready : whlReady s w.val = true) (htimed : (s.whorl w.val).timed.phase = .none)
    (hbg : (s.whorl w.val).bg.phase = .none) (hhold : s.getB F.WHL_CTL.CQ_HOLD w.val = false) (hheld : (s.whorl w.val).held = false) :
    execQueueBatchApply w s = .next (queueEmptied w.val (batchApplied w.val s)) := by
  simp only [execQueueBatchApply, hready, htimed, hbg, hhold, hheld, beq_self_eq_true, Bool.not_false, Bool.and_self, if_true]
  rfl

/-- Without peers a batch of one entry applies it on the Whorl alone. -/
theorem batchApplied_of_single {w : Nat} {e : QEntry} (hqueue : (s.whorl w).queue = [e]) (hpeers : peersOf s w = []) :
    batchApplied w s = applyEntry w e s := by
  simp [batchApplied, hqueue, hpeers]

theorem cqFlush_of_no_handover (hno : s.whl.handover = none) (w : Nat) : cqFlush w s = (queueEmptied w s).set F.WHL_CTL.CQ_HOLD 0 w := by
  simp [cqFlush, queueEmptied, State.setWhorl, hno]

/-- A flush outside a handover leaves the queue empty, its level zero and the hold cleared. -/
theorem cqFlush_effect (hno : s.whl.handover = none) (w : Nat) : ((cqFlush w s).whorl w).queue = [] ∧
    (cqFlush w s).get F.WHL_CTL.CQ_LEVEL w = 0 ∧ (cqFlush w s).get F.WHL_CTL.CQ_HOLD w = 0 := by
  obtain ⟨hqueue, hlevel⟩ := queueEmptied_effect w s
  rw [cqFlush_of_no_handover hno]
  refine ⟨by rw [State.whorl_set, hqueue], ?_, State.get_set_zero _ _ _ _ _ (by decide) (by decide)⟩
  rw [State.get_set_bits _ _ _ _ _ _ _ _ _ _ (by decide) (by decide) (by decide) (by decide), hlevel]

/-! ### Writes into a Whorl's window (R163, R164, R185) -/

/-- With no loop enabled, or into an inactive bank only, a table word is stored. -/
theorem tableWrite_stored {w i : Nat} (hw : s.regWriter m = true) (hready : whlReady s w = true)
    (hopen : enabledLoops s w = [] ∨ (inBank s w i true = false ∧ inBank s w i false = true)) :
    Stored (tableKey w i) 4 v.toNat s (tableWrite m w i v s) ∧ (tableWrite m w i v s).resp = .done := by
  have hrun : tableWrite m w i v s = ((cleanWord (tableKey w i) s).store (tableKey w i) 4 v.toNat).answer .done := by
    rcases hopen with hidle | ⟨hactive, hinactive⟩
    · simp [tableWrite, hw, hready, hidle]
    · simp [tableWrite, hw, hready, hactive, hinactive]
  rw [hrun]
  exact ⟨(stored_cleanWord_store _ _ _ s).of_mem rfl rfl, rfl⟩

/-- In the coefficient region a window write is a coefficient write. -/
theorem whorlWrite_of_coef {w off size : Nat} (hok : memOk s m (whlBase w + off) size true = true) (hlo : 0x40000 ≤ off)
    (hhi : off < 0x50000) (n : Nat) : whorlWrite m w off size n s = coefWrite m w ((off - 0x40000) / 4) (BitVec.ofNat 32 n) s := by
  simp [whorlWrite, hok, hlo, hhi]

/-! ### The standby (R192 to R195) -/

/-- The next Whorl with loops after the present target of standby w, in ascending order. -/
def nextTarget (s : State) (w : Nat) : Option Nat :=
  (List.range 8).map (fun i => ((s.whorl w).target + 1 + i) % 8) |>.find? (fun v => v != w && hasLoops s v)

/-- The search goes round all eight Whorls: where another has loops, it finds one. -/
theorem exists_nextTarget {w v : Fin 8} (hne : v ≠ w) (hloops : hasLoops s v.val = true) :
    ∃ n, nextTarget s w.val = some n ∧ n ≠ w.val ∧ hasLoops s n = true := by
  have hround : v.val ∈ (List.range 8).map (fun i => ((s.whorl w.val).target + 1 + i) % 8) := by
    refine List.mem_map.mpr ⟨(v.val + 8 - ((s.whorl w.val).target + 1) % 8) % 8, List.mem_range.mpr (by omega), by omega⟩
  have hfound : (nextTarget s w.val).isSome = true :=
    List.find?_isSome.mpr ⟨v.val, hround, by simpa [hloops] using Fin.val_ne_of_ne hne⟩
  obtain ⟨n, hn⟩ := Option.isSome_iff_exists.mp hfound
  have hpred := List.find?_some hn
  simp only [Bool.and_eq_true, bne_iff_ne] at hpred
  exact ⟨n, hn, hpred⟩

/-- Standby w begins to prepare for Whorl n. -/
def sessionBegun (n w : Nat) (s : State) : State :=
  ((s.setWhorl w { s.whorl w with prep := .preparing, target := n, sessMiss := 0, agree := [], agreed := false }).set
    F.WHL_SHADOW.TARGET n w).set F.WHL_SHADOW.ACTIVE 0 w

theorem execShadowSessionStart_of_free {w : Fin 8} {n : Nat} (hrole : s.get F.WHL_CTL.ROLE w.val = 1)
    (hok : s.getB F.MODE_STAT.STANDBY_OK = true) (hsubst : (s.whorl w.val).subst = false) (hno : s.whl.handover = none)
    (hready : whlReady s w.val = true) (hwant : SMap.get 0 s.upd.want (16 + (s.whorl w.val).target) = 0)
    (hnext : nextTarget s w.val = some n) : execShadowSessionStart w s = .next (sessionBegun n w.val s) := by
  rw [nextTarget] at hnext
  simp [execShadowSessionStart, hrole, hok, hsubst, hno, hready, hwant, hnext, sessionBegun]

/-- A standby that begins to shadow has no agreement counted yet and shows ACTIVE. -/
theorem startShadow_effect (w : Nat) (s : State) : ((startShadow w s).whorl w).prep = .shadowing ∧
    ((startShadow w s).whorl w).agree = [] ∧ (startShadow w s).get F.WHL_SHADOW.ACTIVE w = 1 :=
  ⟨by simp [startShadow], by simp [startShadow], State.get_set_one _ _ _ _ _ (by decide) (by decide)⟩

/-- What a standby w that is no substitute has been given when its preparation is done: code and tables from the verified copy, then
coefficients, descriptors and state of its target. -/
def standbyLoaded (w : Nat) (s : State) : State :=
  let t := (s.whorl w).target
  let u := copyMem (whlBase t + 0x40000) (whlBase w + 0x40000) 0x10000 (loadWhorl w (whorlImage s t) s)
  copyState t w false (copyRegs (whlRegs t + 0x400) (whlRegs w + 0x400) 16 u)

theorem execStandbyPrepareDone_of_preparing {w : Fin 8} (hprep : (s.whorl w.val).prep = .preparing) (hready : whlReady s w.val = true)
    (hsubst : (s.whorl w.val).subst = false) : execStandbyPrepareDone w s = .next (startShadow w.val (standbyLoaded w.val s)) := by
  simp [execStandbyPrepareDone, hprep, hready, hsubst, standbyLoaded]

theorem execStateCopyDone_of_copying {w : Fin 8} (hno : s.whl.handover = none) (hprep : (s.whorl w.val).prep = .copying) :
    execStateCopyDone w false s = .next (startShadow w.val (copyState (s.whorl w.val).target w.val false s)) := by
  simp [execStateCopyDone, hno, hprep]

/-! ### The handover (R196) -/

/-- The fields that Tinder's write of WHL_HANDOVER sets before its request is looked at. -/
def handoverFields (v : Word) (s : State) : State :=
  let s := if v.getLsbD 29 then s.set F.WHL_HANDOVER.DONE 0 else s
  let s := if v.getLsbD 28 then s.set F.WHL_HANDOVER.ABORT 0 else s
  let s := (s.set F.WHL_HANDOVER.SOURCE (getBits v 22 20)).set F.WHL_HANDOVER.STANDBY (getBits v 18 16)
  s.set F.WHL_HANDOVER.SHADOW_MIN (getBits v 15 0)

theorem handoverFields_whl (v : Word) (s : State) : (handoverFields v s).whl = s.whl := by
  simp only [handoverFields, apply_ite State.whl, State.set_whl, ite_self]

theorem handoverFields_regsOnly (v : Word) (s : State) : RegsOnly [F.WHL_HANDOVER.REQ.addr 0 0 0] s (handoverFields v s) := by
  intro a ha
  have hset : ∀ (u : State) (f : Fld) (x : Nat), f.addr 0 0 0 = F.WHL_HANDOVER.REQ.addr 0 0 0 → (u.set f x).rd a = u.rd a :=
    fun u f x hf => State.regsOnly_set u f x 0 0 0 a (hf ▸ ha)
  rw [handoverFields, hset _ F.WHL_HANDOVER.SHADOW_MIN _ rfl, hset _ F.WHL_HANDOVER.STANDBY _ rfl, hset _ F.WHL_HANDOVER.SOURCE _ rfl]
  exact (ite_keeps (p := (·.rd a)) (hset _ F.WHL_HANDOVER.ABORT _ rfl)).trans
    (ite_keeps (p := (·.rd a)) (hset _ F.WHL_HANDOVER.DONE _ rfl))

/-- A handover's permission reads the Whorls, SHADOW_MIN and registers other than WHL_HANDOVER. -/
theorem handoverAllowed_congr {t : State} {a b : Nat} (hwhl : t.whl = s.whl) (hregs : RegsOnly [F.WHL_HANDOVER.REQ.addr 0 0 0] s t)
    (hmin : t.get F.WHL_HANDOVER.SHADOW_MIN = s.get F.WHL_HANDOVER.SHADOW_MIN) : handoverAllowed t a b = handoverAllowed s a b := by
  have hget : ∀ (f : Fld) (i j : Nat), f.addr i j 0 ≠ F.WHL_HANDOVER.REQ.addr 0 0 0 → t.getB f i j = s.getB f i j :=
    fun f i j hf => State.getB_of_rd (hregs _ (by simpa using hf))
  have hloops : enabledLoops t a = enabledLoops s a := by
    refine List.filter_congr fun l _ => hget _ _ _ ?_
    simp only [Fld.addr, F.WHL_LOOP_CFG.EN, F.WHL_HANDOVER.REQ]
    omega
  simp only [handoverAllowed, hget F.MODE_STAT.STANDBY_OK 0 0 (by decide), State.whorl_of_whl hwhl, hwhl, hloops, hmin]

/-- The other fields of the write do not bear on the permission. -/
theorem handoverAllowed_handoverFields (v : Word) (a b : Nat) : handoverAllowed (handoverFields v s) a b =
    handoverAllowed (s.set F.WHL_HANDOVER.SHADOW_MIN (getBits v 15 0)) a b := by
  refine handoverAllowed_congr (handoverFields_whl v s) (fun a ha => ?_) ?_
  · rw [handoverFields_regsOnly v s a ha]
    exact (State.regsOnly_set s F.WHL_HANDOVER.SHADOW_MIN _ 0 0 0 a ha).symm
  · rw [handoverFields, State.get_set_self _ _ _ _ _ _ (by decide) (by decide), State.get_set_self _ _ _ _ _ _ (by decide) (by decide)]

/-- A handover that is allowed begins: BUSY is set, and source and standby are noted. -/
theorem handoverRequest_of_allowed {a b : Nat} (h : handoverAllowed s a b = true) :
    (handoverRequest a b s).whl.handover = some (a, b) ∧ (handoverRequest a b s).get F.WHL_HANDOVER.BUSY = 1 := by
  rw [handoverRequest, if_pos h]
  exact ⟨rfl, State.get_set_one _ F.WHL_HANDOVER.BUSY 0 0 0 (by decide) (by decide)⟩

theorem handoverWrite_of_tinder (hready : s.pdReady 5 = true) (hreq : v.getLsbD 31 = true) :
    handoverWrite .tinder v s = (handoverRequest (getBits v 22 20) (getBits v 18 16) (handoverFields v s)).answer .done := by
  simp only [handoverWrite, State.regWriter, hready, hreq]
  rfl

/-! ### The repair of a code word (R191) -/

theorem execCodeRepair_of_copy {w : Fin 8} {code : Fin 32768} (h : (s.whorl w.val).repair.contains code.val = true) :
    execCodeRepair w code true s = .next (cleanWord (codeKey w.val code.val)
      (s.setWhorl w.val { s.whorl w.val with repair := (s.whorl w.val).repair.filter (· != code.val) })) :=
  congrArg Host.Outcome.next (if_pos h)

end

/-- Settles O11: each row by the branch its hypotheses name and what that branch leaves; a word written is one store after its poison is
cleared, and a handover's permission does not read the other fields of the write that asks for it. -/
theorem whorlQueueAndStandby : Obligations.WhorlQueueAndStandby := by
  intro s w m i word code v b stored
  refine ⟨?queued, ?direct, ?batch, ?hold, ?release, ?flush, ?table, ?window, ?session, ?prepared, ?copied, ?handover, ?repair⟩
  case queued =>
    intro hready hen hsrc hroom
    have hrun : exec (.coefQueueWrite m w (.coef i v)) s = .next (enqueue w.val (.coef i.val v) s) :=
      congrArg Host.Outcome.next (coefWrite_of_enabled hready hen hsrc)
    obtain ⟨hqueue, hlevel, hresp⟩ := enqueue_effect hroom (.coef i.val v)
    exact ⟨_, hrun, hqueue, hlevel, hresp, enqueue_mem _ _ _, enqueue_mask rfl rfl rfl rfl _ _ _⟩
  case direct =>
    intro hready hidle hw
    have hrun : exec (.coefQueueWrite m w (.coef i v)) s = .next (coefWrite m w.val i.val v s) := rfl
    obtain ⟨hstored, hresp⟩ := coefWrite_stored_of_idle hready hidle hw
    exact ⟨_, hrun, hstored, hresp, by rw [coefWrite_of_idle hready hidle hw]; rfl, coefWrite_mask rfl rfl rfl rfl rfl _ _ _ _ _⟩
  case batch =>
    intro hready htimed hbg hhold hheld
    have hrun := execQueueBatchApply_of_idle hready htimed hbg hhold hheld
    obtain ⟨hqueue, hlevel⟩ := queueEmptied_effect w.val (batchApplied w.val s)
    refine ⟨_, hrun, hqueue, hlevel, fun hone hpeers => ?_, execQueueBatchApply_mask rfl rfl rfl rfl _ _ hrun⟩
    rw [batchApplied_of_single hone hpeers]
    exact applyEntry_coef_stored w.val i.val v s
  case hold => exact fun hw hready => ⟨_, congrArg Host.Outcome.next (if_pos (by rw [hw, hready]; rfl)), rfl⟩
  case release => exact fun hw hready => ⟨_, congrArg Host.Outcome.next (if_pos (by rw [hw, hready]; rfl)), rfl⟩
  case flush =>
    intro hw hready hno
    have hrun : execCqFlush m w s = .next ((cqFlush w.val s).answer .done) :=
      congrArg Host.Outcome.next (if_pos (by rw [hw, hready]; rfl))
    obtain ⟨hqueue, hlevel, hhold⟩ := cqFlush_effect hno w.val
    exact ⟨_, hrun, hqueue, hlevel, hhold, rfl, cqFlush_mem _ _, execCqFlush_mask rfl rfl rfl rfl rfl rfl rfl rfl _ _ _ hrun⟩
  case table =>
    intro hw hready hopen
    obtain ⟨hstored, hresp⟩ := tableWrite_stored (v := v) hw hready hopen
    exact ⟨_, rfl, hstored, hresp, tableWrite_mask rfl rfl rfl _ _ _ _ _⟩
  case window =>
    intro off hlo hhi hok hready hidle hw
    let written : Word := BitVec.ofNat 32 (b.toNat % 2 ^ 32)
    have hrun : execWhorlMemoryWrite m w off 4 b s = .next (coefWrite m w.val ((off.val - 0x40000) / 4) written s) :=
      congrArg Host.Outcome.next (whorlWrite_of_coef hok hlo hhi _)
    have hword : written.toNat = b.toNat % 4294967296 := by simp [written]
    obtain ⟨hstored, hresp⟩ := coefWrite_stored_of_idle (i := (off.val - 0x40000) / 4) (v := written) hready hidle hw
    rw [hword] at hstored
    exact ⟨_, hrun, hstored, hresp, execWhorlMemoryWrite_mask rfl rfl rfl rfl rfl rfl rfl _ _ _ _ _ _ hrun⟩
  case session =>
    intro hrole hok hsubst hno hready hwant ⟨n, hne, hloops⟩
    obtain ⟨t, hnext, htarget, hhas⟩ := exists_nextTarget hne hloops
    have hrun := execShadowSessionStart_of_free hrole hok hsubst hno hready hwant hnext
    have hwhorl : (sessionBegun t w.val s).whorl w.val =
        { s.whorl w.val with prep := .preparing, target := t, sessMiss := 0, agree := [], agreed := false } := by simp [sessionBegun]
    refine ⟨_, hrun, ?_, ?_, ?_, State.get_set_zero _ _ _ _ _ (by decide) (by decide), execShadowSessionStart_mask rfl rfl _ _ hrun⟩
    · rw [hwhorl]
    · rwa [hwhorl]
    · rwa [hwhorl]
  case prepared =>
    intro hprep hready hsubst
    have hrun := execStandbyPrepareDone_of_preparing hprep hready hsubst
    obtain ⟨hshadow, hagree, hactive⟩ := startShadow_effect w.val (standbyLoaded w.val s)
    exact ⟨_, hrun, hshadow, hagree, hactive, execStandbyPrepareDone_mask rfl rfl rfl rfl rfl _ _ hrun⟩
  case copied =>
    intro hno hprep
    have hrun := execStateCopyDone_of_copying hno hprep
    obtain ⟨hshadow, -, hactive⟩ := startShadow_effect w.val (copyState (s.whorl w.val).target w.val false s)
    exact ⟨_, hrun, hshadow, hactive, execStateCopyDone_mask rfl rfl rfl rfl rfl rfl rfl rfl _ _ _ hrun⟩
  case handover =>
    intro hready hreq hallowed
    have hrun : execWhlHandoverRequest .tinder v s = .next _ := congrArg Host.Outcome.next (handoverWrite_of_tinder hready hreq)
    rw [← handoverAllowed_handoverFields] at hallowed
    obtain ⟨hbegun, hbusy⟩ := handoverRequest_of_allowed hallowed
    exact ⟨_, hrun, hbegun, hbusy, rfl, execWhlHandoverRequest_mask rfl rfl rfl _ _ _ hrun⟩
  case repair =>
    intro hcontains
    have hrun := execCodeRepair_of_copy hcontains
    exact ⟨_, hrun, by rw [State.whorl_cleanWord, State.whorl_setWhorl], poisoned_cleanWord _ _, rfl,
      execCodeRepair_mask rfl rfl rfl rfl rfl rfl rfl rfl rfl rfl _ _ _ _ hrun⟩

end Sys2Proof.Machine

/-! The Whorl instruction set (07_whorl_instructions.md R200 to R222): what the row of a slot leaves where the slot issues, row form by
row form, and the obligations about the instructions, O5, O7, O8 and O9. -/

namespace Sys2Proof.Machine
open Sys2Proof

/-! ### The timed execution of a Whorl -/

theorem State.whorl_setWhorl_of_ne {v w : Nat} (h : v ≠ w) (s : State) (x : WhorlSt) : (s.setWhorl w x).whorl v = s.whorl v :=
  SMap.get_put_ne _ _ _ _ _ h

theorem State.setWhorl_setWhorl (s : State) (w : Nat) (x y : WhorlSt) : (s.setWhorl w x).setWhorl w y = s.setWhorl w y := by
  simp only [State.setWhorl, SMap.put_put]

/-- The state with `e` as Whorl w's timed execution. -/
def State.setTimed (s : State) (w : Nat) (e : ExecSt) : State := s.setWhorl w { s.whorl w with timed := e }

@[simp] theorem State.whorl_setTimed (s : State) (w : Nat) (e : ExecSt) :
    (s.setTimed w e).whorl w = { s.whorl w with timed := e } := State.whorl_setWhorl _ _ _

theorem State.whorl_setTimed_of_ne {v w : Nat} (h : v ≠ w) (s : State) (e : ExecSt) : (s.setTimed w e).whorl v = s.whorl v :=
  State.whorl_setWhorl_of_ne h _ _

@[simp] theorem State.setTimed_setTimed (s : State) (w : Nat) (e e' : ExecSt) : (s.setTimed w e).setTimed w e' = s.setTimed w e' := by
  rw [State.setTimed, State.whorl_setTimed, State.setTimed, State.setWhorl_setWhorl, State.setTimed]

theorem onlyChanges_setTimed (s : State) (w : Nat) (e : ExecSt) : OnlyChanges { whl := true } s (s.setTimed w e) := setWhorl_mask rfl _ _ _

/-- While a timed execution is on, it is the one that issues (R174). -/
theorem State.exe_of_timed {s : State} {w : Nat} (h : (s.whorl w).timed.phase ≠ .none) : s.exe w = (s.whorl w).timed := if_neg h

theorem State.setExe_of_timed {s : State} {w : Nat} (h : (s.whorl w).timed.phase ≠ .none) (e : ExecSt) :
    s.setExe w e = s.setTimed w e := if_neg h

theorem State.exe_setTimed {e : ExecSt} (he : e.phase ≠ .none) (s : State) (w : Nat) : (s.setTimed w e).exe w = e := by
  rw [State.exe_of_timed (by rwa [State.whorl_setTimed]), State.whorl_setTimed]

theorem State.setExe_setTimed {e : ExecSt} (he : e.phase ≠ .none) (s : State) (w : Nat) (e' : ExecSt) :
    (s.setTimed w e).setExe w e' = s.setTimed w e' := by
  rw [State.setExe_of_timed (by rwa [State.whorl_setTimed]), State.setTimed_setTimed]

/-! ### Registers and results in flight (R204, R208, R209) -/

theorem ExecSt.reg_setReg (e : ExecSt) (d : Nat) (v : Word) (r : Nat) :
    (e.setReg d v).reg r = if r = d then (if d = 0 then 0 else v) else e.reg r := by
  by_cases hd : d = 0
  · subst hd
    by_cases hr : r = 0 <;> simp [ExecSt.setReg, ExecSt.reg, hr]
  · by_cases hr : r = d
    · simp [ExecSt.setReg, ExecSt.reg, hr, hd]
    · simp [ExecSt.setReg, ExecSt.reg, hr, hd, SMap.get_put_ne]

theorem ExecSt.setReg_eq (e : ExecSt) (d : Nat) (v : Word) : ∃ g, e.setReg d v = { e with g := g } := by
  unfold ExecSt.setReg
  split
  · exact ⟨e.g, rfl⟩
  · exact ⟨_, rfl⟩

theorem retire_of_empty {e : ExecSt} (h : e.flight = []) (c : Nat) : retire c e = e := by
  cases e
  cases h
  rfl

/-- The execution `e` with the results `fs` of its word's slot in flight, and no others. -/
def flown (slot : Fin 2) (fs : List (Nat × FlightOp × Flags)) (e : ExecSt) : ExecSt :=
  { e with flight := fs.map fun f => ⟨e.cyc + f.1, e.words, slot.val, f.2.1, f.2.2⟩ }

theorem flown_nil {e : ExecSt} (h : e.flight = []) (slot : Fin 2) : flown slot [] e = e := by
  cases e
  cases h
  rfl

/-- With nothing in flight, a result meets no other on its destination. -/
theorem push_of_empty {e : ExecSt} (h : e.flight = []) (slot : Fin 2) (lat : Nat) (op : FlightOp) (fl : Flags) :
    push slot lat op fl e = flown slot [(lat, op, fl)] e := by
  simp [push, h, flown]

/-! ### A slot issues (R207, R208, R220) -/

section
variable (slot : Fin 2) (e : ExecSt)

@[simp] theorem opened_g : (opened slot e).g = e.g := (apply_ite ExecSt.g _ _ _).trans (ite_self _)
@[simp] theorem opened_a : (opened slot e).a = e.a := (apply_ite ExecSt.a _ _ _).trans (ite_self _)
@[simp] theorem opened_flags : (opened slot e).flags = e.flags := (apply_ite ExecSt.flags _ _ _).trans (ite_self _)
@[simp] theorem opened_flight : (opened slot e).flight = e.flight := (apply_ite ExecSt.flight _ _ _).trans (ite_self _)
@[simp] theorem opened_phase : (opened slot e).phase = e.phase := (apply_ite ExecSt.phase _ _ _).trans (ite_self _)
@[simp] theorem opened_loop : (opened slot e).loop = e.loop := (apply_ite ExecSt.loop _ _ _).trans (ite_self _)
@[simp] theorem opened_inputs : (opened slot e).inputs = e.inputs := (apply_ite ExecSt.inputs _ _ _).trans (ite_self _)
@[simp] theorem opened_rep : (opened slot e).rep = e.rep := (apply_ite ExecSt.rep _ _ _).trans (ite_self _)
@[simp] theorem opened_reg (r : Nat) : (opened slot e).reg r = e.reg r := by simp only [ExecSt.reg, opened_g]

end

/-- The execution once a slot's action is done: slot 0 moves the program, slot 1 does not. -/
def settled (slot : Fin 2) (e : ExecSt) : ExecSt := if slot.val = 0 then advance e else e

theorem onExe_setTimed {e : ExecSt} (he : e.phase ≠ .none) (slot : Fin 2) (f : ExecSt → ExecSt) (w : Nat) (s : State) :
    onExe slot f w (s.setTimed w e) = s.setTimed w (settled slot (f e)) := onExe_timed slot f w s e he

theorem advance_eq (e : ExecSt) : ∃ pc rep, advance e = { e with pc := pc, rep := rep } := by
  unfold advance
  split
  · split
    · split
      · exact ⟨_, _, rfl⟩
      · exact ⟨_, _, rfl⟩
    · exact ⟨_, e.rep, rfl⟩
  · exact ⟨_, e.rep, rfl⟩

/-- Moving the program changes its address and its repetition alone. -/
theorem settled_eq (slot : Fin 2) (e : ExecSt) : ∃ pc rep, settled slot e = { e with pc := pc, rep := rep } := by
  unfold settled
  split
  · exact advance_eq e
  · exact ⟨e.pc, e.rep, rfl⟩

/-- Both executions have issued the same word and the same slots of it. -/
def SameIssue (e e' : ExecSt) : Prop := e'.wpc = e.wpc ∧ e'.words = e.words ∧ e'.slot1 = e.slot1 ∧ e'.cyc = e.cyc

section
variable {s t : State} {w : Fin 8} {slot : Fin 2} {us : List Nat} {hz : List (Fin 36)} {c : Instr}

/-- Whorl w has issued the slot when its execution stands as `opened` leaves it and no other Whorl has changed. -/
theorem whlSlot_of_sameIssue (h : SameIssue (opened slot (s.whorl w.val).timed) (t.whorl w.val).timed)
    (hother : ∀ v, v ≠ w.val → t.whorl v = s.whorl v) : WhlSlot s t w slot := by
  obtain ⟨hwpc, hwords, hslot1, hcyc⟩ := h
  refine ⟨fun h0 => ?_, fun h1 => ?_, hother⟩
  · simp only [opened, if_pos h0] at hwpc hwords hslot1 hcyc
    exact ⟨hwpc, hwords, hslot1, hcyc⟩
  · simp only [opened, if_neg (show slot.val ≠ 0 by omega)] at hwpc hwords hslot1 hcyc
    exact ⟨hwpc, hwords, hslot1, hcyc⟩

theorem whlSlot_setTimed {e : ExecSt} (h : SameIssue (opened slot (s.whorl w.val).timed) e) : WhlSlot s (s.setTimed w.val e) w slot :=
  whlSlot_of_sameIssue (by rwa [State.whorl_setTimed]) fun _ hv => State.whorl_setTimed_of_ne hv _ _

/-- The state in which the action of a slot that issues begins. -/
def State.issued (s : State) (w : Fin 8) (slot : Fin 2) : State := s.setTimed w.val (opened slot (s.whorl w.val).timed)

/-- A row that leaves the results `fs` in flight, and whose slot then settles, sends them. -/
theorem whlFlies_of_flown {fs : List (Nat × FlightOp × Flags)}
    (hc : exec c s = .next (s.setTimed w.val (settled slot (flown slot fs (opened slot (s.whorl w.val).timed))))) :
    WhlFlies c s w slot fs := by
  obtain ⟨pc, rep, heq⟩ := settled_eq slot (flown slot fs (opened slot (s.whorl w.val).timed))
  rw [heq] at hc
  refine ⟨_, hc, ?_, ?_, ?_, ?_, whlSlot_setTimed ⟨rfl, rfl, rfl, rfl⟩, onlyChanges_setTimed _ _ _⟩ <;> rw [State.whorl_setTimed]
  · rfl
  · exact opened_g _ _
  · exact opened_a _ _
  · exact opened_flags _ _

variable (h : WhlReady s w slot)
include h

theorem WhlReady.flight : (s.whorl w.val).timed.flight = [] := by
  obtain ⟨-, hflight, -⟩ := h
  exact hflight

theorem WhlReady.phase_opened : (opened slot (s.whorl w.val).timed).phase ≠ .none := by
  obtain ⟨hphase, -⟩ := h
  simp [hphase]

theorem WhlReady.exe_issued : (s.issued w slot).exe w.val = opened slot (s.whorl w.val).timed := State.exe_setTimed h.phase_opened _ _

theorem WhlReady.setExe_issued (e : ExecSt) : (s.issued w slot).setExe w.val e = s.setTimed w.val e :=
  State.setExe_setTimed h.phase_opened _ _ _

theorem WhlReady.onExe_issued (f : ExecSt → ExecSt) : onExe slot f w.val (s.issued w slot) =
    s.setTimed w.val (settled slot (f (opened slot (s.whorl w.val).timed))) := onExe_setTimed h.phase_opened _ _ _ _

/-- Where the slot issues, its row is its action. -/
theorem WhlReady.slotRow_eq (us : List Nat) (hz : List (Fin 36)) (act : Nat → Nat → State → State) :
    slotRow w slot us hz act s = .next (act w.val w.val (s.issued w slot)) := slotRow_ready w slot us hz act s h

/-- A row that acts on the execution alone by sending one result. -/
theorem WhlReady.flies_of_push {act : Nat → Nat → State → State} {f : ExecSt → ExecSt} {lat : Nat} {op : FlightOp} {fl : Flags}
    (hc : exec c s = slotRow w slot us hz act s) (hact : act w.val w.val (s.issued w slot) = onExe slot f w.val (s.issued w slot))
    (hf : f (opened slot (s.whorl w.val).timed) = push slot lat op fl (opened slot (s.whorl w.val).timed)) :
    WhlFlies c s w slot [(lat, op, fl)] := by
  refine whlFlies_of_flown ?_
  rw [hc, h.slotRow_eq, hact, h.onExe_issued, hf, push_of_empty (by rw [opened_flight, h.flight])]

/-- A row that writes one register sends the value it forms of the execution. -/
theorem WhlReady.flies_of_regRow {d : Fin 32} {lat : Nat} {f : ExecSt → Word × Flags} {r : Word × Flags}
    (hc : exec c s = regRow w slot us hz d lat f s) (hr : f (opened slot (s.whorl w.val).timed) = r) :
    WhlFlies c s w slot [(lat, .reg d.val r.1, r.2)] :=
  h.flies_of_push hc rfl (by rw [hr])

end

/-! ### Class A (R212, R213) -/

/-- Settles O5: each row is the write of one register with the value of its line of R212, and opening the word changes no register
that the value is formed of. -/
theorem whorlClassA : Obligations.WhorlClassA := by
  intro s w slot d a b imm hz hready x y old writes
  have hwrites : ∀ {c : Instr} {us : List Nat} {f : ExecSt → Word × Flags} {r : Word × Flags},
      exec c s = regRow w slot us hz d 1 f s → f (opened slot (s.whorl w.val).timed) = r → writes c r := hready.flies_of_regRow
  have hx : (opened slot (s.whorl w.val).timed).reg a.val = x := opened_reg _ _ _
  have hy : (opened slot (s.whorl w.val).timed).reg b.val = y := opened_reg _ _ _
  have hold : (opened slot (s.whorl w.val).timed).reg d.val = old := opened_reg _ _ _
  refine ⟨hwrites rfl ?add, hwrites rfl ?sub, hwrites rfl ?addw, hwrites rfl ?subw, hwrites rfl ?neg, hwrites rfl ?abs,
    hwrites rfl ?min, hwrites rfl ?max, hwrites rfl ?clmp, hwrites rfl ?and, hwrites rfl ?or, hwrites rfl ?xor, hwrites rfl ?shl,
    hwrites rfl ?sar, hwrites rfl ?shr, hwrites rfl rfl, hwrites rfl ?lil, hwrites rfl ?addi, hwrites rfl ?slt, hwrites rfl ?cmov, ?flg⟩
  case flg => exact hready.flies_of_push rfl rfl (by rw [opened_flags])
  all_goals simp only [hx, hy, hold]

/-! ### Illegal positions (R207, R211) -/

section
variable {s : State} {w : Fin 8} {slot : Fin 2} {hz : List (Fin 36)} {c : Instr}

/-- A row whose operands are illegal is illegal in either slot. -/
theorem slot0Row_of_illegal (us : List Nat) (hz : List (Fin 36)) (act : Nat → Nat → State → State) :
    slot0Row w slot us hz false act s = slotRow w slot [] hz (illegalAct slot) s := by
  simp [slot0Row]

/-- A pair named by an odd register is illegal (R210). -/
theorem evenReg_of_odd {d : Fin 32} (h : d.val % 2 = 1) : evenReg d = false := by
  simp [evenReg, h]

theorem pairRow_of_odd {d : Fin 32} (hd : d.val % 2 = 1) (us : List Nat) (legal : Bool) (hz : List (Fin 36))
    (f : ExecSt → Word × Word × Flags) : pairRow w slot d us legal hz f s = slotRow w slot [] hz (illegalAct slot) s := by
  rw [pairRow, evenReg_of_odd hd, Bool.and_false, slot0Row_of_illegal]

/-- The slot issues as a no-operation that marks the execution. -/
theorem WhlReady.illegal (h : WhlReady s w slot) (hc : exec c s = slotRow w slot [] hz (illegalAct slot) s) :
    Runs c s fun u => (u.whorl w.val).timed.illegal = true ∧ (u.whorl w.val).timed.flight = [] ∧
      (u.whorl w.val).timed.g = (s.whorl w.val).timed.g ∧ (u.whorl w.val).outs = (s.whorl w.val).outs ∧ WhlSlot s u w slot ∧
      OnlyChanges { whl := true } s u := by
  obtain ⟨pc, rep, heq⟩ := settled_eq slot { opened slot (s.whorl w.val).timed with illegal := true }
  rw [h.slotRow_eq, illegalAct, h.onExe_issued, heq] at hc
  refine ⟨_, hc, ?_, ?_, ?_, ?_, whlSlot_setTimed ⟨rfl, rfl, rfl, rfl⟩, onlyChanges_setTimed _ _ _⟩ <;> rw [State.whorl_setTimed]
  · exact (opened_flight _ _).trans h.flight
  · exact opened_g _ _

/-! ### A single result becomes final (R208) -/

/-- A single register result in flight is written, and the execution's cycle is at least that in which the result is final. -/
theorem execUnitResultRetire_of_single {f : Flight} {d : Nat} {v : Word} (hphase : (s.whorl w.val).timed.phase ≠ .none)
    (hshadow : shadowOf s w.val = none) (hflight : (s.whorl w.val).timed.flight = [f]) (hop : f.op = .reg d v) :
    execUnitResultRetire w s = .next (s.setTimed w.val
      { ({ (s.whorl w.val).timed with flags := (s.whorl w.val).timed.flags.or f.flags }.setReg d v) with
        flight := [], cyc := max (s.whorl w.val).timed.cyc (f.due - 1) }) := by
  simp [execUnitResultRetire, lockstep, hshadow, State.exe_of_timed hphase, State.setExe_of_timed hphase, hflight, retire, retireOne, hop]

end

/-- Settles O9: each illegal row is the row of `illegalAct`, which only marks the execution, and a single result is written by the one
register write of its retirement. -/
theorem whorlIllegalAndRetire : Obligations.WhorlIllegalAndRetire := by
  intro s w slot d a b t off target n hz bad
  have hbad : ∀ {c : Instr} {k : Fin 2}, exec c s = slotRow w k [] hz (illegalAct k) s → bad c k := fun hc hready => hready.illegal hc
  refine ⟨hbad rfl, hbad rfl, hbad rfl, hbad rfl, hbad rfl, hbad rfl, hbad rfl, hbad rfl, hbad rfl, hbad rfl, hbad rfl, hbad rfl, hbad rfl,
    hbad rfl, hbad rfl, hbad rfl, hbad rfl, ?odd, ?single⟩
  case odd => exact fun hd => ⟨hbad (pairRow_of_odd hd _ _ _ _), hbad (pairRow_of_odd hd _ _ _ _), hbad (pairRow_of_odd hd _ _ _ _)⟩
  case single =>
    intro f v hphase hshadow hflight hop
    refine ⟨_, execUnitResultRetire_of_single hphase hshadow hflight hop, ?_, ?_, ?_, fun r hr => ?_, onlyChanges_setTimed _ _ _⟩ <;>
      rw [State.whorl_setTimed]
    · exact (ExecSt.reg_setReg _ _ _ _).trans (if_pos rfl)
    · obtain ⟨g, heq⟩ := ExecSt.setReg_eq { (s.whorl w.val).timed with flags := (s.whorl w.val).timed.flags.or f.flags } d.val v
      rw [heq]
    · exact (ExecSt.reg_setReg _ _ _ _).trans (if_neg hr)

section
variable {s : State} {w : Fin 8} {c : Instr} {us : List Nat} {hz : List (Fin 36)}

/-! ### Branches, LOOP and the end of an execution (R220 to R222) -/

/-- Outside a LOOP body a branch moves the program address and no more than `taken` beside it. -/
theorem branch_of_no_rep {e : ExecSt} (hrep : e.rep = none) (cond : Bool) (target : Nat) :
    ∃ taken, branch cond target e = { e with pc := if cond then target else e.wpc + 1, taken := taken } := by
  cases e
  cases hrep
  cases cond
  · exact ⟨_, rfl⟩
  · exact ⟨_, rfl⟩

/-- From s to t Whorl w goes on at program address `pc`; its registers stay and nothing is in flight. -/
def WhlGoes (s t : State) (w : Fin 8) (pc : Nat) : Prop :=
  (t.whorl w.val).timed.pc = pc ∧ (t.whorl w.val).timed.g = (s.whorl w.val).timed.g ∧ (t.whorl w.val).timed.flight = [] ∧
    WhlSlot s t w 0 ∧ OnlyChanges { whl := true } s t

variable (h : WhlReady s w 0) (hrep : (s.whorl w.val).timed.rep = none)
include h hrep

/-- A branch row outside a LOOP body goes to its target where the condition holds, else to the next word. -/
theorem WhlReady.goes {cond : ExecSt → Bool} {target pc : Nat}
    (hc : exec c s = slotRow w 0 us hz (fun _ v s => s.setExe v (branch (cond (s.exe v)) target (s.exe v))) s)
    (hpc : (if cond (opened 0 (s.whorl w.val).timed) then target else (s.whorl w.val).timed.pc + 1) = pc) :
    Runs c s fun t => WhlGoes s t w pc := by
  obtain ⟨taken, heq⟩ := branch_of_no_rep ((opened_rep 0 _).trans hrep) (cond (opened 0 (s.whorl w.val).timed)) target
  rw [h.slotRow_eq, h.exe_issued, h.setExe_issued, heq] at hc
  refine ⟨_, hc, ?_, ?_, ?_, whlSlot_setTimed ⟨rfl, rfl, rfl, rfl⟩, onlyChanges_setTimed _ _ _⟩ <;> rw [State.whorl_setTimed]
  · exact hpc
  · exact opened_g _ _
  · exact (opened_flight _ _).trans h.flight

/-- A LOOP word begins its repetition and goes on to the body's first word. -/
theorem WhlReady.loop (n : Fin 256) {last : BitVec 15} (hlast : last.toNat ≠ (s.whorl w.val).timed.pc) (hz : List (Fin 36)) :
    execWhlLoop w 0 n last hz s = .next (s.setTimed w.val { opened 0 (s.whorl w.val).timed with
      pc := (s.whorl w.val).timed.pc + 1, rep := some ⟨(s.whorl w.val).timed.pc + 1, last.toNat, n.val⟩ }) := by
  refine (h.slotRow_eq _ _ _).trans (congrArg Host.Outcome.next ((h.onExe_issued _).trans (congrArg _ ?_)))
  rw [opened_rep, hrep]
  simp [settled, advance, opened, hlast.symm]

end

/-- Flags that an execution leaves in its loop's register change no Whorl. -/
theorem orFlags_whl (o v l : Nat) (f : Flags) (s : State) : (orFlags o v l f s).whl = s.whl :=
  whl_of_mask (K := { regs := true, fab := true }) rfl (orFlags_mask rfl rfl _ _ _ _ _)

/-- A SAFE or END word ends the execution in its phase, with nothing in flight. -/
theorem WhlReady.ends {s : State} {w : Fin 8} {c : Instr} {us : List Nat} {hz : List (Fin 36)} {ph : ExecPhase} (h : WhlReady s w 0)
    (hc : exec c s = slotRow w 0 us hz (fun o v => endExec o v ph) s) : Runs c s fun t => (t.whorl w.val).timed.phase = ph ∧
      (t.whorl w.val).timed.flight = [] ∧ (t.whorl w.val).timed.g = (s.whorl w.val).timed.g ∧
      (∀ v, v ≠ w.val → t.whorl v = s.whorl v) ∧ OnlyChanges { regs := true, fab := true, whl := true } s t := by
  have hopen := opened_flight 0 (s.whorl w.val).timed
  rw [h.slotRow_eq, endExec, h.exe_issued, retire_of_empty (hopen.trans h.flight), h.setExe_issued] at hc
  refine ⟨_, hc, ?_, ?_, ?_, fun v hv => ?_, (orFlags_mask rfl rfl _ _ _ _ _).trans (setWhorl_mask rfl _ _ _)⟩ <;>
    rw [State.whorl_of_whl (orFlags_whl _ _ _ _ _)]
  · rw [State.whorl_setTimed]
  · rw [State.whorl_setTimed]
  · rw [State.whorl_setTimed, opened_g]
  · rw [State.whorl_setTimed_of_ne hv]

/-- Settles O8: each branch by the condition it tests, LOOP by the repetition it begins, SAFE and END by the end of an execution with
nothing in flight. -/
theorem whorlControl : Obligations.WhorlControl := by
  intro s w a target last n hz hready hrep e x goes
  have hgoes : ∀ {c : Instr} {us : List Nat} {pc : Nat} (cond : ExecSt → Bool),
      exec c s = slotRow w 0 us hz (fun _ v s => s.setExe v (branch (cond (s.exe v)) target.toNat (s.exe v))) s →
      (if cond (opened 0 e) then target.toNat else e.pc + 1) = pc → goes c pc := fun _ => hready.goes hrep
  have hx : (opened 0 e).reg a.val = x := opened_reg _ _ _
  refine ⟨?bz, ?bnz, ?bltz, ?bgez, ?jmp, ?loop, hready.ends rfl, hready.ends rfl⟩
  case bz => exact hgoes (fun e => e.reg a.val == 0) rfl (by simp [hx])
  case bnz => exact hgoes (fun e => e.reg a.val != 0) rfl (by simp [hx])
  case bltz => exact hgoes (fun e => decide (sint (e.reg a.val) < 0)) rfl (by simp [hx])
  case bgez => exact hgoes (fun e => decide (0 ≤ sint (e.reg a.val))) rfl (by simp only [hx, decide_eq_true_eq, ← Int.not_lt, ite_not])
  case jmp => exact hgoes (fun _ => true) rfl (if_pos rfl)
  case loop =>
    intro hlast
    refine ⟨_, hready.loop hrep n hlast hz, ?_, ?_, whlSlot_setTimed ⟨rfl, rfl, rfl, rfl⟩, onlyChanges_setTimed _ _ _⟩ <;>
      rw [State.whorl_setTimed]

section
variable {s : State} {w : Fin 8} {slot : Fin 2} {hz : List (Fin 36)}

/-! ### Ports (R217, R219) -/

/-- The state in which Whorl w's output port p holds `v`. -/
def State.setOut (s : State) (w p : Nat) (v : Word) : State :=
  s.setWhorl w { s.whorl w with outs := SMap.put 0 (s.whorl w).outs p v }

@[simp] theorem State.whorl_setOut (s : State) (w p : Nat) (v : Word) :
    (s.setOut w p v).whorl w = { s.whorl w with outs := SMap.put 0 (s.whorl w).outs p v } := State.whorl_setWhorl _ _ _

/-- A port and the timed execution are different parts of the Whorl: the order in which they are set does not matter. -/
theorem State.setOut_setTimed (s : State) (w p : Nat) (v : Word) (e : ExecSt) :
    (s.setTimed w e).setOut w p v = (s.setOut w p v).setTimed w e := by
  simp only [State.setOut, State.setTimed, State.setWhorl_setWhorl, State.whorl_setWhorl]

/-- OUT in slot 0 notes the port it wrote, for the word's slot 1 (R209). -/
def noteOut (slot : Fin 2) (p w : Nat) (s : State) : State :=
  if slot.val = 0 then s.setExe w { s.exe w with out0 := some p } else s

theorem noteOut_setTimed {e : ExecSt} (he : e.phase ≠ .none) (slot : Fin 2) (p w : Nat) (s : State) :
    ∃ out0, noteOut slot p w (s.setTimed w e) = s.setTimed w { e with out0 := out0 } := by
  unfold noteOut
  split
  · exact ⟨some p, by rw [State.setExe_setTimed he, State.exe_setTimed he]⟩
  · exact ⟨e.out0, rfl⟩

/-- Where slot 0 has not written port p, slot 1 of its word may; slot 0 always may. -/
theorem opened_out0_ne {e : ExecSt} {slot : Fin 2} {p : Nat} (hfree : slot.val = 1 → e.out0 ≠ some p) :
    (slot.val = 1 && (opened slot e).out0 == some p) = false := by
  by_cases h1 : slot.val = 1
  · simpa [opened, h1] using hfree h1
  · simp [h1]

/-- OUT to a port of the loop that the word's other slot has not written takes the register as the word issues. -/
theorem WhlReady.execWhlOut_of_port (h : WhlReady s w slot) {p : Fin 64}
    (hp : outPort s w.val (s.whorl w.val).timed.loop p.val = true)
    (hfree : slot.val = 1 → (s.whorl w.val).timed.out0 ≠ some p.val) (src : Fin 32) (hz : List (Fin 36)) :
    ∃ out0, execWhlOut w slot p src hz s = .next ((s.setOut w.val p.val ((s.whorl w.val).timed.reg src.val)).setTimed w.val
      (settled slot { opened slot (s.whorl w.val).timed with out0 := out0 })) := by
  have hport : outPort (s.issued w slot) w.val (opened slot (s.whorl w.val).timed).loop p.val = true := by rwa [opened_loop]
  have hwritten : (s.issued w slot).setOut w.val p.val ((opened slot (s.whorl w.val).timed).reg src.val) =
      (s.setOut w.val p.val ((s.whorl w.val).timed.reg src.val)).setTimed w.val (opened slot (s.whorl w.val).timed) := by
    rw [opened_reg, State.issued, State.setOut_setTimed]
  obtain ⟨out0, hnoted⟩ := noteOut_setTimed h.phase_opened slot p.val w.val (s.setOut w.val p.val ((s.whorl w.val).timed.reg src.val))
  refine ⟨out0, (h.slotRow_eq _ _ _).trans (congrArg _ ?_)⟩
  dsimp only
  rw [h.exe_issued, if_pos hport, opened_out0_ne hfree, if_neg Bool.false_ne_true]
  change onExe slot id w.val (noteOut slot p.val w.val ((s.issued w slot).setOut w.val p.val _)) = _
  rw [hwritten, hnoted]
  exact onExe_setTimed (e := { opened slot (s.whorl w.val).timed with out0 := out0 }) h.phase_opened _ _ _ _

/-! ### Loads, stores and tables (R184, R216, R218) -/

/-- A word that is not poisoned is read as it stands. -/
theorem readWord_of_clean {k : Nat} (hk : s.poisoned k = false) : readWord k .clean s = (.ok, s) := by
  simp [readWord, hk]

theorem loadWord_of_clean {k : Nat} (hk : s.poisoned k = false) (o v : Nat) :
    loadWord o v k .clean s = (BitVec.ofNat 32 (s.load k 4), s) := by
  rw [loadWord, ite_self, readWord_of_clean hk]

/-- The two indices, the fraction and TBL_CLAMP of a lookup of table t at `u`, with the table's own size and wrap (R184). -/
def lookupIndex (s : State) (w t : Nat) (u : Word) : Nat × Nat × Nat × Bool :=
  tblIndex (s.get F.WHL_TBL_CFG.LOG2N w t) (s.getB F.WHL_TBL_CFG.WRAP w t) u.toNat

/-- What TBL forms of table t at the index `u` (R184): the interpolated value, and its flags with TBL_CLAMP. -/
def tblLookup (s : State) (w t : Nat) (u : Word) : Word × Flags :=
  let ix := lookupIndex s w t u
  let x := BitVec.ofNat 32 (s.load (tableKey w (tblBank s w t + ix.1)) 4)
  let y := BitVec.ofNat 32 (s.load (tableKey w (tblBank s w t + ix.2.1)) 4)
  let r := sat32 (sint x + roundDiv ((sint y - sint x) * ix.2.2.1) (2 ^ 32))
  (r.1, r.2.or { tblClamp := ix.2.2.2 })

/-- TBL of an owned table whose two words are clean sends what it forms of them. -/
theorem tblAct_of_clean {w t : Nat} {d a : Fin 32}
    (hown : (s.getB F.WHL_TBL_CFG.EN w t && s.bit F.WHL_LOOP_COEF.TBL_MASK t w (s.exe w).loop) = true)
    (hk0 : s.poisoned (tableKey w (tblBank s w t + (lookupIndex s w t ((s.exe w).reg a.val)).1)) = false)
    (hk1 : s.poisoned (tableKey w (tblBank s w t + (lookupIndex s w t ((s.exe w).reg a.val)).2.1)) = false) :
    tblAct slot d a t .clean w w s = onExe slot (push slot 6 (.reg d.val (tblLookup s w t ((s.exe w).reg a.val)).1)
      (tblLookup s w t ((s.exe w).reg a.val)).2) w s := by
  unfold lookupIndex at hk0 hk1
  simp only [tblAct, if_pos hown, loadWord_of_clean hk0, loadWord_of_clean hk1, Bool.and_not_self, Bool.false_eq_true, if_false]
  rfl

/-- A full-word write does not touch the executions. -/
theorem State.stored_setTimed (s : State) (w : Nat) (e : ExecSt) (k x : Nat) :
    (cleanWord k (s.setTimed w e)).store k 4 x = ((cleanWord k s).store k 4 x).setTimed w e := rfl

/-- ST into the state or scratch region stores its word and leaves the execution as it was issued. -/
theorem WhlReady.execWhlSt_of_state {w : Fin 8} (h : WhlReady s w 0) {a : Fin 32} {off : BitVec 16} {ea : Nat}
    (hea : effAddr ((s.whorl w.val).timed.reg a.val) off = ea) (hlo : 0x30000 ≤ ea) (hhi : ea < 0x3C000) (src : Fin 32)
    (hz : List (Fin 36)) : execWhlSt w 0 src a off hz s = .next
      (((cleanWord (whlBase w.val + 4 * ea) s).store (whlBase w.val + 4 * ea) 4 ((s.whorl w.val).timed.reg src.val).toNat).setTimed w.val
        (settled 0 (opened 0 (s.whorl w.val).timed))) := by
  refine (h.slotRow_eq _ _ _).trans (congrArg _ ?_)
  dsimp only
  rw [h.exe_issued, opened_reg, opened_reg, hea, if_pos ⟨hlo, hhi⟩, State.issued, State.stored_setTimed]
  exact onExe_setTimed h.phase_opened _ _ _ _

end

/-- Settles O7: the rows that send by the one result they send, OUT by the port it sets and ST by the word it stores; issuing the slot
changes neither the loop, nor a register, nor what the allowed addresses and tables are read from. -/
theorem whorlPortsAndMemory : Obligations.WhorlPortsAndMemory := by
  intro s w slot d a src p i t off hz hready e ea key own ix k0 k1 x y r
  have hloop : ((s.issued w slot).exe w.val).loop = e.loop := by rw [hready.exe_issued, opened_loop]
  have hareg : ((s.issued w slot).exe w.val).reg a.val = e.reg a.val := by rw [hready.exe_issued, opened_reg]
  refine ⟨?nop, ?inside, ?outside, ?frsh, ?out, ?ld, ?ldRefused, ?st, ?tbl, ?tblRefused⟩
  case nop =>
    refine whlFlies_of_flown ((hready.slotRow_eq _ _ _).trans (congrArg _ ((hready.onExe_issued _).trans ?_)))
    simp only [Bool.false_and, Bool.or_false, flown_nil ((opened_flight _ _).trans hready.flight)]
  case inside =>
    intro hp
    have hin : inPort (s.issued w slot) w.val e.loop p.val = true := hp
    exact hready.flies_of_push rfl rfl (by rw [hloop, hin, opened_inputs]; rfl)
  case outside =>
    intro hp
    have hin : inPort (s.issued w slot) w.val e.loop p.val = false := hp
    exact hready.flies_of_push rfl rfl (by rw [hloop, hin]; rfl)
  case frsh => exact ⟨_, hready.flies_of_push rfl rfl rfl⟩
  case out =>
    intro hp hfree
    obtain ⟨out0, hrun⟩ := hready.execWhlOut_of_port hp hfree src hz
    obtain ⟨pc, rep, heq⟩ := settled_eq slot { opened slot e with out0 := out0 }
    rw [heq] at hrun
    refine ⟨_, hrun, ?_, fun q hq => ?_, ?_, ?_, (setWhorl_mask rfl _ _ _).trans (setWhorl_mask rfl _ _ _)⟩
    · rw [State.whorl_setTimed, State.whorl_setOut]
      exact SMap.get_put_self _ _ _ _
    · rw [State.whorl_setTimed, State.whorl_setOut]
      exact SMap.get_put_ne _ _ _ _ _ hq
    · rw [State.whorl_setTimed]
      exact (opened_flight _ _).trans hready.flight
    · refine whlSlot_of_sameIssue ?_ fun v hv => ?_
      · rw [State.whorl_setTimed]
        exact ⟨rfl, rfl, rfl, rfl⟩
      · rw [State.whorl_setTimed_of_ne hv]
        exact State.whorl_setWhorl_of_ne hv _ _
  case ld =>
    rintro rfl hallowed hclean
    have hloads : loadAllowed (s.issued w 0) w.val e.loop ea = true := hallowed
    have hword := loadWord_of_clean (s := s.issued w 0) (k := key) hclean w.val w.val
    refine hready.flies_of_push (f := push 0 2 (.reg d.val (BitVec.ofNat 32 (s.load key 4))) {}) rfl ?_ rfl
    dsimp only
    rw [hloop, hareg, if_pos hloads, hword]
    rfl
  case ldRefused =>
    rintro rfl hrefused
    have hloads : loadAllowed (s.issued w 0) w.val e.loop ea = false := hrefused
    refine hready.flies_of_push (f := push 0 2 (.reg d.val 0) { domain := true }) rfl ?_ rfl
    dsimp only
    rw [hloop, hareg, hloads]
    rfl
  case st =>
    rintro rfl hlo hhi
    have hmask : OnlyChanges { whl := true, mem := true, fab := true } s ((cleanWord key s).store key 4 (e.reg src.val).toNat) :=
      (store_mask rfl _ _ _ _).trans (cleanWord_mask rfl _ _)
    obtain ⟨pc, rep, heq⟩ := settled_eq 0 (opened 0 e)
    have hrun := hready.execWhlSt_of_state rfl hlo hhi src hz
    rw [heq] at hrun
    obtain ⟨hbytes, honly⟩ := (stored_cleanWord_store key 4 (e.reg src.val).toNat s).of_mem rfl (setWhorl_mem _ _ _)
    refine ⟨_, hrun, hbytes, honly, whlSlot_of_sameIssue ?_ fun v hv => ?_, ?_, (setWhorl_mask rfl _ _ _).trans hmask⟩
    · rw [State.whorl_setTimed]
      exact ⟨rfl, rfl, rfl, rfl⟩
    · rw [State.whorl_setTimed_of_ne hv]
      rfl
    · rw [State.whorl_setTimed]
      exact opened_g _ _
  case tbl =>
    rintro rfl hown hk0 hk1
    refine hready.flies_of_push (f := push 0 6 (.reg d.val r.1) (r.2.or { tblClamp := ix.2.2.2 })) rfl ?_ rfl
    refine (tblAct_of_clean (by rw [hloop]; exact hown) (by rw [hareg]; exact hk0) (by rw [hareg]; exact hk1)).trans ?_
    rw [hareg]
    rfl
  case tblRefused =>
    rintro rfl hown
    refine hready.flies_of_push (f := push 0 6 (.reg d.val 0) { domain := true }) rfl ?_ rfl
    have hrefused : ((s.issued w 0).getB F.WHL_TBL_CFG.EN w.val t.val &&
        (s.issued w 0).bit F.WHL_LOOP_COEF.TBL_MASK t.val w.val e.loop) = false := hown
    rw [tblAct, hloop, hrefused]
    rfl

end Sys2Proof.Machine

/-! What the rows of the PWM array, the gate interface and the converter block share (08_pwm_gate.md R224 to R262, 12_converters.md R349 to
R366): reads of their tables, the registers that switching and a channel's stop do not reach, and what both leave of the PWM array. O18,
O19 and O28 below rest on these. -/

namespace Sys2Proof.Machine
open Sys2Proof

/-! ### Tables, folds and fields -/

section
variable (s : State)

@[simp] theorem State.sw_setSw (k : Nat) (x : SwSt) : (s.setSw k x).sw k = x := SMap.get_put_self _ _ _ _
@[simp] theorem State.leg_setLeg (l : Nat) (x : LegSt) : (s.setLeg l x).leg l = x := SMap.get_put_self _ _ _ _
@[simp] theorem State.cg_setCg (g : Nat) (x : CgSt) : (s.setCg g x).cg g = x := SMap.get_put_self _ _ _ _
@[simp] theorem State.pset_setPset (p : Nat) (x : PsetSt) : (s.setPset p x).pset p = x := SMap.get_put_self _ _ _ _
@[simp] theorem State.compar_setCompar (c : Nat) (x : CompSt) : (s.setCompar c x).compar c = x := SMap.get_put_self _ _ _ _
@[simp] theorem State.chan_setChan (c : Nat) (x : ChSt) : (s.setChan c x).chan c = x := SMap.get_put_self _ _ _ _

theorem State.sw_setSw_of_ne {j k : Nat} (h : j ≠ k) (x : SwSt) : (s.setSw k x).sw j = s.sw j := SMap.get_put_ne _ _ _ _ _ h
theorem State.leg_setLeg_of_ne {j l : Nat} (h : j ≠ l) (x : LegSt) : (s.setLeg l x).leg j = s.leg j := SMap.get_put_ne _ _ _ _ _ h
theorem State.compar_setCompar_of_ne {j c : Nat} (h : j ≠ c) (x : CompSt) : (s.setCompar c x).compar j = s.compar j :=
  SMap.get_put_ne _ _ _ _ _ h
theorem State.chan_setChan_of_ne {j c : Nat} (h : j ≠ c) (x : ChSt) : (s.setChan c x).chan j = s.chan j := SMap.get_put_ne _ _ _ _ _ h

end

theorem State.sw_of_pwm {s t : State} (h : t.pwm = s.pwm) (k : Nat) : t.sw k = s.sw k := by rw [State.sw, h, State.sw]

/-- What every step of a fold keeps holds after it. -/
theorem foldl_invariant {α : Type} {P : State → Prop} {f : State → α → State} {l : List α} (hf : ∀ x ∈ l, ∀ s, P s → P (f s x)) {s : State}
    (h : P s) : P (l.foldl f s) := by
  induction l generalizing s with
  | nil => exact h
  | cons x r ih => exact ih (fun y hy => hf y (List.mem_cons_of_mem _ hy)) (hf x List.mem_cons_self s h)

/-- The step of a fold that is `k`'s own brings about `P`, from a `Q` that the other steps keep, and the other steps keep `P`. -/
theorem foldl_establishes {P Q : State → Prop} {f : State → Nat → State} {k : Nat} {l : List Nat} (hk : k ∈ l) (hnodup : l.Nodup)
    (hQ : ∀ x ∈ l, x ≠ k → ∀ s, Q s → Q (f s x)) (hstep : ∀ s, Q s → P (f s k)) (hP : ∀ x ∈ l, x ≠ k → ∀ s, P s → P (f s x)) {s : State}
    (h : Q s) : P (l.foldl f s) := by
  obtain ⟨l₁, l₂, rfl⟩ := List.append_of_mem hk
  have hne₁ : ∀ x ∈ l₁, x ≠ k := fun x hx e => (List.nodup_append.mp hnodup).2.2 x hx k List.mem_cons_self e
  have hne₂ : ∀ x ∈ l₂, x ≠ k := fun x hx e => (List.nodup_cons.mp (List.nodup_append.mp hnodup).2.1).1 (e ▸ hx)
  rw [List.foldl_append, List.foldl_cons]
  refine foldl_invariant (fun x hx s => hP x (by simp [hx]) (hne₂ x hx) s) (hstep _ ?_)
  exact foldl_invariant (fun x hx s => hQ x (by simp [hx]) (hne₁ x hx) s) h

/-- Two steps that agree wherever an invariant of the second holds give the same fold. -/
theorem foldl_congr_of_invariant {α : Type} {P : State → Prop} {f g : State → α → State} {l : List α} (hP : ∀ x ∈ l, ∀ s, P s → P (g s x))
    (h : ∀ x ∈ l, ∀ s, P s → f s x = g s x) {s : State} (hs : P s) : l.foldl f s = l.foldl g s := by
  induction l generalizing s with
  | nil => rfl
  | cons x r ih =>
    rw [List.foldl_cons, List.foldl_cons, h x List.mem_cons_self s hs]
    exact ih (fun y hy => hP y (List.mem_cons_of_mem _ hy)) (fun y hy => h y (List.mem_cons_of_mem _ hy)) (hP x List.mem_cons_self s hs)

/-- Two fields that share no bit. -/
abbrev Fld.Apart (f g : Fld) : Prop := f.hi < 32 ∧ f.lo ≤ f.hi ∧ (g.hi < f.lo ∨ f.hi < g.lo) ∧ g.lo ≤ g.hi

theorem State.get_set_apart {f g : Fld} (h : f.Apart g) (s : State) (v i j k x y z : Nat) : (s.set f v i j k).get g x y z = s.get g x y z := by
  obtain ⟨hf, hle, hdisj, hg⟩ := h
  exact State.get_set_bits _ _ _ _ _ _ _ _ _ _ hf hle hdisj hg

theorem State.get_set_fits {f : Fld} (hf : f.hi < 32 ∧ f.lo ≤ f.hi) {v : Nat} (hv : v < 2 ^ (f.hi + 1 - f.lo)) (s : State) (i j k : Nat) :
    (s.set f v i j k).get f i j k = v := by
  rw [State.get_set_self _ _ _ _ _ _ hf.1 hf.2, Nat.mod_eq_of_lt hv]

theorem State.get_of_getB_false {s : State} {f : Fld} {i j k : Nat} (h : s.getB f i j k = false) : s.get f i j k = 0 := by
  simpa [State.getB] using h

/-! ### Registers out of reach of switching and of a channel's stop -/

/-- Not an event crossing's, an actuator's or a PWM register: bringing legs where R245 wants them, and holding them, leaves it. -/
abbrev OffLegs (a : Nat) : Prop := Quiet a ∧ (a < 0x300D0000 ∨ 0x300E0000 ≤ a)

/-- Nor of the ash ring, nor a word that channel `c`'s own STATE machine writes: its CFG word with EN, or its STAT word. -/
abbrev OffChannel (c a : Nat) : Prop :=
  OffLegs a ∧ (a < 0x30040000 ∨ 0x30050000 ≤ a) ∧ a ≠ 0x30100000 + c * 256 ∧ a ≠ 0x30100008 + c * 256

/-- A register of the gate interface, block 14. -/
abbrev Gated (a : Nat) : Prop := 0x300E0000 ≤ a ∧ a < 0x300F0000

theorem Gated.offChannel {a : Nat} (h : Gated a) (c : Nat) : OffChannel c a := by
  obtain ⟨hlo, hhi⟩ := h
  refine ⟨⟨⟨?_, ?_⟩, ?_⟩, ?_, ?_, ?_⟩ <;> omega

theorem Aloof.offChannel {a c : Nat} (h : Aloof a) (_ : c < 3) : OffChannel c a := by
  unfold Aloof at h
  refine ⟨⟨⟨?_, ?_⟩, ?_⟩, ?_, ?_, ?_⟩ <;> omega

/-- Another channel's register. -/
theorem offChannel_of_other {a c k : Nat} (hk : k < 3) (hne : k ≠ c) (hlo : 0x30100000 + k * 256 ≤ a)
    (hhi : a < 0x30100100 + k * 256) : OffChannel c a := by
  refine ⟨⟨⟨?_, ?_⟩, ?_⟩, ?_, ?_, ?_⟩ <;> omega

section
variable {a : Nat}

theorem setLegCfg_rd (h : OffLegs a) (s : State) (f : Fld) (v l : Nat) (hf : f.base = 0x300D0400 ∧ f.s1 = 32) (hl : l < 32) :
    (s.set f v l).rd a = s.rd a := by
  obtain ⟨hb, hs⟩ := hf
  refine set_quiet _ _ _ _ _ _ _ ?_
  simp only [Fld.addr, hb, hs]
  omega

theorem showOffReq_rd (h : OffLegs a) {l : Nat} (hl : l < 32) (s : State) : (showOffReq l s).rd a = s.rd a :=
  setLegCfg_rd h _ _ _ _ ⟨rfl, rfl⟩ hl

theorem holdLeg_rd (h : OffLegs a) {l : Nat} (hl : l < 32) (b : Bool) (s : State) : (holdLeg b l s).rd a = s.rd a :=
  (enforceLeg_quiet _ _ _ h.1).trans (showOffReq_rd h hl _)

theorem holdLegs_rd (h : OffLegs a) (c : Nat) (s : State) : (holdLegs c s).rd a = s.rd a :=
  foldl_keeps (·.rd a) (fun s l => holdLeg true l s) _ (fun _ hl s => holdLeg_rd h (mem_chLegs_lt hl) true s) s

theorem ashPush_rd (h : a < 0x30040000 ∨ 0x30050000 ≤ a) (source code cls : Nat) (body : List Byte) (s : State) :
    (ashPush source code cls body s).rd a = s.rd a := by
  unfold ashPush
  split
  · refine State.rd_bump_ne ?_ ?_ <;> simp only [Fld.addr, F.MEMC_ASH.ASH_DROP, F.MEMC_ASH.SAT] <;> omega
  · refine set_quiet _ _ _ _ _ _ _ ?_
    simp only [Fld.addr, F.MEMC_ASH.WAITING]
    omega

theorem psetAsh_rd (h : a < 0x30040000 ∨ 0x30050000 ≤ a) (p code cls : Nat) (s : State) : (psetAsh p code cls s).rd a = s.rd a := by
  unfold psetAsh
  split
  · exact ite_keeps (p := (·.rd a)) (ashPush_rd h _ _ _ _ _)
  · rfl

section
variable {c : Nat} (h : OffChannel c a)
include h

/-- A field of channel `c`'s CFG word or STAT word. -/
theorem setChWord_rd (s : State) (f : Fld) (v : Nat) (hf : (f.base = 0x30100000 ∨ f.base = 0x30100008) ∧ f.s1 = 256) :
    (s.set f v c).rd a = s.rd a := by
  obtain ⟨hb, hs⟩ := hf
  obtain ⟨-, -, hcfg, hstat⟩ := h
  refine set_quiet _ _ _ _ _ _ _ ?_
  simp only [Fld.addr, hs]
  rcases hb with hb | hb <;> rw [hb] <;> omega

theorem chGoto_rd (st : Nat) (s : State) : (chGoto c st s).rd a = s.rd a := by
  unfold chGoto
  split
  · rfl
  · exact (raise_quiet _ _ _ (by decide) h.1.1).trans (setChWord_rd h _ _ _ (by decide))

theorem chQuiet_rd (s : State) : (chQuiet c s).rd a = s.rd a := by
  unfold chQuiet
  dsimp only
  refine (foldl_keeps (·.rd a) _ _ ?_ _).trans ?_
  · intros; rfl
  iterate 5 rw [setChWord_rd h _ _ _ (by decide)]
  rfl

theorem chStop_rd (st cause : Nat) (s : State) : (chStop c st cause s).rd a = s.rd a := by
  rw [chStop, chGoto_rd h, setChWord_rd h _ _ _ (by decide), chQuiet_rd h, holdLegs_rd h.1]

theorem chDisable_rd (s : State) : (chDisable c s).rd a = s.rd a := by
  have hoff : ((s.set F.CNV_CH_CFG.EN 0 c).set F.CNV_CH_STAT.RETRIES 0 c).rd a = s.rd a := by
    rw [setChWord_rd h _ _ _ (by decide), setChWord_rd h _ _ _ (by decide)]
  unfold chDisable
  dsimp only
  split
  · rw [chGoto_rd h, setChWord_rd h _ _ _ (by decide), setChWord_rd h _ _ _ (by decide), hoff]
  · rw [chGoto_rd h, setChWord_rd h _ _ _ (by decide), setChWord_rd h _ _ _ (by decide), hoff]
  · rw [chStop_rd h, hoff]
  · exact hoff

theorem fastStop_rd (s : State) : (fastStop c s).rd a = s.rd a := by
  rw [fastStop, raise_quiet _ _ _ (by decide) h.1.1, chGoto_rd h, setChWord_rd h _ _ _ (by decide)]
  exact chQuiet_rd h s

end

/-- Tripping a set's channels (R366) writes their words, the legs', the ash ring's and the crossings'. -/
theorem cnvTripSet_rd (h : ∀ c < 3, OffChannel c a) (p : Nat) (s : State) : (cnvTripSet p s).rd a = s.rd a := by
  refine foldl_keeps (·.rd a) _ _ (fun c hc s => ite_keeps (p := (·.rd a)) ?_) s
  have hc := h c (List.mem_range.mp hc)
  simp only [issueFor_rd]
  rw [chStop_rd hc, cnvAsh, ashPush_rd hc.2.1, setChWord_rd hc _ _ _ (by decide)]

end

/-! ### What switching and a channel's stop leave of the PWM array -/

/-- All but the legs, the switches and the comparators: the generators, the sets, the GEN lines seen and the last reports. -/
def PwmSt.ungated (x : PwmSt) : PwmSt := { x with legs := [], sw := [], comps := [] }

theorem PwmSt.ungated_of_eq {x y : PwmSt} (h : x = y) : x.ungated = y.ungated := congrArg PwmSt.ungated h

section
variable {s t : State} (h : t.pwm.ungated = s.pwm.ungated)
include h

theorem State.cg_of_ungated (g : Nat) : t.cg g = s.cg g := by
  have hcg := congrArg PwmSt.cg h
  exact congrArg (SMap.get {} · g) hcg

theorem State.pset_of_ungated (p : Nat) : t.pset p = s.pset p := by
  have hpsets := congrArg PwmSt.psets h
  exact congrArg (SMap.get {} · p) hpsets

end

theorem raise_pwm (n : Nat) (s : State) : (raise n s).pwm = s.pwm := by rw [raise_eq]

theorem issueFor_pwm (src : FaultSrc) (code cls : Nat) (s : State) : (issueFor src code cls s).pwm = s.pwm := by rw [issueFor_eq]

theorem issueFor_lastFault (src : FaultSrc) (code cls : Nat) (s : State) : (issueFor src code cls s).sys.lastFault = code := by
  rw [issueFor_eq]

theorem showBridge_pwm (b : Nat) (s : State) : (showBridge b s).pwm = s.pwm :=
  pwm_of_mask (K := { regs := true }) rfl (showBridge_mask rfl b s)

theorem legCommand_pwm (l : Nat) (s : State) : (legCommand l s).pwm = s.pwm :=
  pwm_of_mask (K := { regs := true, act := true }) rfl (legCommand_mask rfl rfl l s)

theorem cnvAsh_pwm (c code cls : Nat) (s : State) : (cnvAsh c code cls s).pwm = s.pwm :=
  pwm_of_mask (K := { regs := true, fab := true }) rfl (cnvAsh_mask rfl rfl c code cls s)

/-- An edge blanks comparators (R250), no more. -/
theorem edgeIssued_pwm (l : Nat) (s : State) : (edgeIssued l s).pwm = { s.pwm with comps := (edgeIssued l s).pwm.comps } :=
  foldl_invariant (P := fun t => t.pwm = { s.pwm with comps := t.pwm.comps })
    (fun c _ t ht => by
      dsimp only
      split
      · rw [State.setCompar, ht]
      · exact ht) rfl

/-- All but the switches and the comparators. -/
def PwmSt.unswitched (x : PwmSt) : PwmSt := { x with sw := [], comps := [] }

theorem edgeIssued_unswitched (l : Nat) (s : State) : (edgeIssued l s).pwm.unswitched = s.pwm.unswitched := by
  rw [edgeIssued_pwm]
  rfl

theorem switchOff_unswitched (k : Nat) (s : State) : (switchOff k s).pwm.unswitched = s.pwm.unswitched := by
  unfold switchOff
  dsimp only
  split
  · rw [legCommand_pwm, edgeIssued_unswitched]
    rfl
  · exact ite_keeps (p := (·.pwm.unswitched)) rfl

theorem tryOn_unswitched (k : Nat) (s : State) : (tryOn k s).pwm.unswitched = s.pwm.unswitched := by
  refine ite_keeps (p := (·.pwm.unswitched)) ?_
  rw [legCommand_pwm, edgeIssued_unswitched]
  rfl

/-- A switch that R245 wants off goes off. -/
def enforceOff (k : Nat) (s : State) : State := if decideSw s k == .off then switchOff k s else s

/-- A switch that R245 wants on, of its own, is turned on as R256 says. -/
def enforceOn (k : Nat) (s : State) : State :=
  if decideSw s k == .on && !(s.sw k).cmd then tryOn k (s.setSw k { s.sw k with pendOn := true }) else s

/-- The PWM array after a leg was brought under R245: what must be off first, then what must be on. -/
theorem enforceLeg_pwm (l : Nat) (s : State) : (enforceLeg l s).pwm =
    (enforceOn (2 * l + 1) (enforceOn (2 * l) (enforceOff (2 * l + 1) (enforceOff (2 * l) s)))).pwm := by
  unfold enforceLeg
  dsimp only
  split
  · exact showBridge_pwm _ _
  · rfl

theorem enforceOff_unswitched (k : Nat) (s : State) : (enforceOff k s).pwm.unswitched = s.pwm.unswitched :=
  ite_keeps (p := (·.pwm.unswitched)) (switchOff_unswitched k s)

theorem enforceOn_unswitched (k : Nat) (s : State) : (enforceOn k s).pwm.unswitched = s.pwm.unswitched :=
  ite_keeps (p := (·.pwm.unswitched)) (tryOn_unswitched k _)

/-- Bringing a leg under R245 changes switches and comparators only. -/
theorem enforceLeg_unswitched (l : Nat) (s : State) : (enforceLeg l s).pwm.unswitched = s.pwm.unswitched := by
  rw [enforceLeg_pwm, enforceOn_unswitched, enforceOn_unswitched, enforceOff_unswitched, enforceOff_unswitched]

theorem enforceLegs_unswitched (ls : List Nat) (s : State) : (enforceLegs ls s).pwm.unswitched = s.pwm.unswitched :=
  foldl_keeps (·.pwm.unswitched) _ _ (fun l _ s => enforceLeg_unswitched l s) s

theorem genSeen_of_unswitched {x y : PwmSt} (h : x.unswitched = y.unswitched) : x.genSeen = y.genSeen := by
  have hseen := congrArg PwmSt.genSeen h
  exact hseen

theorem legs_of_unswitched {x y : PwmSt} (h : x.unswitched = y.unswitched) : x.legs = y.legs := by
  have hlegs := congrArg PwmSt.legs h
  exact hlegs

theorem ungated_of_unswitched {x y : PwmSt} (h : x.unswitched = y.unswitched) : x.ungated = y.ungated := by
  have hx : ∀ z : PwmSt, z.ungated = z.unswitched.ungated := fun _ => rfl
  rw [hx, h, ← hx]

theorem enforceLeg_ungated (l : Nat) (s : State) : (enforceLeg l s).pwm.ungated = s.pwm.ungated :=
  ungated_of_unswitched (enforceLeg_unswitched l s)

theorem enforceLegs_ungated (ls : List Nat) (s : State) : (enforceLegs ls s).pwm.ungated = s.pwm.ungated :=
  ungated_of_unswitched (enforceLegs_unswitched ls s)

theorem disarm_ungated (ls : List Nat) (s : State) : (disarm ls s).pwm.ungated = s.pwm.ungated := by
  refine foldl_keeps (·.pwm.ungated) _ _ ?_ s
  intros; rfl

theorem holdLeg_ungated (b : Bool) (l : Nat) (s : State) : (holdLeg b l s).pwm.ungated = s.pwm.ungated := enforceLeg_ungated l _

theorem holdLegs_ungated (c : Nat) (s : State) : (holdLegs c s).pwm.ungated = s.pwm.ungated :=
  foldl_keeps (·.pwm.ungated) (fun s l => holdLeg true l s) _ (fun l _ s => holdLeg_ungated true l s) s

theorem chQuiet_ungated (c : Nat) (s : State) : (chQuiet c s).pwm.ungated = s.pwm.ungated := by
  refine foldl_keeps (·.pwm.ungated) _ _ ?_ _
  intros; rfl

theorem chGoto_pwm (c st : Nat) (s : State) : (chGoto c st s).pwm = s.pwm := by
  unfold chGoto
  split
  · rfl
  · rw [raise_pwm]
    rfl

theorem chStop_ungated (c st cause : Nat) (s : State) : (chStop c st cause s).pwm.ungated = s.pwm.ungated := by
  rw [chStop, chGoto_pwm]
  exact (chQuiet_ungated c _).trans (holdLegs_ungated c s)

theorem cnvTripSet_ungated (p : Nat) (s : State) : (cnvTripSet p s).pwm.ungated = s.pwm.ungated := by
  refine foldl_keeps (·.pwm.ungated) _ _ (fun c _ s => ite_keeps (p := (·.pwm.ungated)) ?_) s
  dsimp only
  rw [issueFor_pwm, chStop_ungated, cnvAsh_pwm]
  rfl

end Sys2Proof.Machine

/-! Protection sets (08_pwm_gate.md R251 to R262): what a set's STATE change, a trigger, OFF and the short circuit leave, the rows that
bring them about, and the obligation about them, O19. -/

namespace Sys2Proof.Machine
open Sys2Proof

section
variable {s : State} {p : Nat}

/-! ### Registers and switches a set looks at -/

theorem Gated.quiet {a : Nat} (h : Gated a) : Quiet a := (h.offChannel 0).1.1

theorem gated_psetStat (hp : p < 16) : Gated (F.GIF_PSET_STAT.STATE.addr p 0 0) := by
  simp only [Fld.addr, F.GIF_PSET_STAT.STATE]
  omega

theorem gated_compCfg {c : Nat} (hc : c < 48) : Gated (F.GIF_COMP_CFG.HARD.addr c 0 0) ∧
    ∀ p, F.GIF_COMP_CFG.HARD.addr c 0 0 ≠ F.GIF_PSET_STAT.STATE.addr p 0 0 := by
  refine ⟨?_, fun p => ?_⟩ <;> simp only [Fld.addr, F.GIF_COMP_CFG.HARD, F.GIF_PSET_STAT.STATE] <;> omega

theorem gated_gfltCfg {i : Nat} (hi : i < 16) : Gated (F.GIF_GFLT_CFG.ACTIVE.addr i 0 0) ∧
    ∀ p, F.GIF_GFLT_CFG.ACTIVE.addr i 0 0 ≠ F.GIF_PSET_STAT.STATE.addr p 0 0 := by
  refine ⟨?_, fun p => ?_⟩ <;> simp only [Fld.addr, F.GIF_GFLT_CFG.ACTIVE, F.GIF_PSET_STAT.STATE] <;> omega

/-- The legs' configuration and the switches decide which switches of a set count as commanded on. -/
theorem commandedOn_congr {t : State} (hcfg : ∀ l < 32, t.get F.PWM_LEG_CFG.PSET l = s.get F.PWM_LEG_CFG.PSET l) (hpwm : t.pwm = s.pwm)
    (p : Nat) : commandedOn t p = commandedOn s p := by
  have hlegs : legsOfSet t p = legsOfSet s p := List.filter_congr fun l hl => by rw [hcfg l (List.mem_range.mp hl)]
  simp only [commandedOn, hlegs, State.sw_of_pwm hpwm]

/-! ### STATE of a set (R253, R256) -/

/-- Of the gate interface a change of STATE writes that field alone. -/
theorem enterState_rd {a : Nat} (h : Gated a) (p st : Nat) (s : State) :
    (enterState p st s).rd a = (s.set F.GIF_PSET_STAT.STATE st p).rd a := by
  have hlegs := enforceLegs_quiet (legsOfSet s p) a (s.set F.GIF_PSET_STAT.STATE st p) h.quiet
  unfold enterState
  dsimp only
  split
  · exact hlegs
  · exact (cnvTripSet_rd (fun c _ => h.offChannel c) _ _).trans hlegs

theorem enterState_psetState (hp : p < 16) {st : Nat} (hst : st < 8) (s : State) : (enterState p st s).psetState p = st := by
  rw [State.psetState, State.get_of_rd (enterState_rd (gated_psetStat hp) p st s), State.get_set_fits (by decide) hst]

theorem enterState_get {f : Fld} {i : Nat} (h : Gated (f.addr i 0 0)) (hne : f.addr i 0 0 ≠ F.GIF_PSET_STAT.STATE.addr p 0 0) (st : Nat)
    (s : State) : (enterState p st s).get f i = s.get f i :=
  State.get_of_rd ((enterState_rd h p st s).trans (set_quiet _ _ _ _ _ _ _ hne))

theorem enterState_pset (q st : Nat) (s : State) : (enterState p st s).pset q = s.pset q := by
  refine State.pset_of_ungated ?_ q
  have hlegs := enforceLegs_ungated (legsOfSet s p) (s.set F.GIF_PSET_STAT.STATE st p)
  unfold enterState
  dsimp only
  split
  · exact hlegs
  · exact (cnvTripSet_ungated _ _).trans hlegs

/-! ### Triggers (R253) -/

section
variable {f : List Nat → Finding}

theorem trigger_of_run (h : s.psetState p = 0) : trigger p f s = enterState p 1 (s.setPset p
    { s.pset p with findings := [f (commandedOn s p)], wasOn := commandedOn s p, request := 0 }) := by
  rw [trigger, h]
  rfl

theorem trigger_of_deciding (h : s.psetState p = 1) : trigger p f s =
    s.setPset p { s.pset p with findings := (s.pset p).findings ++ [f (s.pset p).wasOn] } := by
  rw [trigger, h]
  rfl

/-- The first trigger starts the window, with its finding and the switches that were commanded on. -/
theorem trigger_starts (hp : p < 16) (h : s.psetState p = 0) : (trigger p f s).psetState p = 1 ∧
    ((trigger p f s).pset p).findings = [f (commandedOn s p)] ∧ ((trigger p f s).pset p).wasOn = commandedOn s p := by
  rw [trigger_of_run h, enterState_psetState hp (by decide), enterState_pset, State.pset_setPset]
  exact ⟨rfl, rfl, rfl⟩

theorem trigger_get_of_run {g : Fld} {i : Nat} (hg : Gated (g.addr i 0 0)) (hne : g.addr i 0 0 ≠ F.GIF_PSET_STAT.STATE.addr p 0 0)
    (h : s.psetState p = 0) : (trigger p f s).get g i = s.get g i := by
  rw [trigger_of_run h, enterState_get hg hne]
  rfl

end

/-! ### OFF and the short circuit with a code (R255, R256) -/

/-- A set's code stands in LAST_CODE and is the last one issued; STATE is left as it was. -/
theorem psetCode_shows (hp : p < 16) (code cls cls' : Nat) (s : State) :
    let t := issueFor (.pset p) code cls (psetAsh p code cls' (s.set F.GIF_PSET_STAT.LAST_CODE code p))
    t.psetState p = s.psetState p ∧ t.get F.GIF_PSET_STAT.LAST_CODE p = code % 65536 ∧ t.sys.lastFault = code := by
  have hash : ∀ f : Fld, f.addr p 0 0 = F.GIF_PSET_STAT.STATE.addr p 0 0 → (issueFor (.pset p) code cls (psetAsh p code cls'
      (s.set F.GIF_PSET_STAT.LAST_CODE code p))).get f p = (s.set F.GIF_PSET_STAT.LAST_CODE code p).get f p := fun f hf => by
    rw [issueFor_get, State.get_of_rd (psetAsh_rd (hf ▸ (gated_psetStat hp).offChannel 0).2.1 _ _ _ _)]
  refine ⟨?_, ?_, issueFor_lastFault _ _ _ _⟩
  · rw [State.psetState, hash _ rfl, State.get_set_apart (by decide), State.psetState]
  · exact (hash F.GIF_PSET_STAT.LAST_CODE rfl).trans (State.get_set_self _ _ _ _ _ _ (by decide) (by decide))

theorem setOffWith_shows (hp : p < 16) (code : Nat) (s : State) : (setOffWith p code s).psetState p = 4 ∧
    (setOffWith p code s).get F.GIF_PSET_STAT.LAST_CODE p = code % 65536 ∧ (setOffWith p code s).sys.lastFault = code := by
  have hgated := gated_psetStat hp
  obtain ⟨hstate, hcode, hlast⟩ := psetCode_shows hp code _ _ _
  refine ⟨hstate.trans ?_, hcode, hlast⟩
  have hoff : ∀ u : State, ((legsOfSet u p).foldl (fun u l => showOffReq l (u.setLeg l { u.leg l with offLoss := false })) u).psetState p =
      u.psetState p := fun u =>
    foldl_keeps (·.psetState p) (fun u l => showOffReq l (u.setLeg l { u.leg l with offLoss := false })) _
      (fun l hl u => State.get_of_rd (showOffReq_rd (hgated.offChannel 0).1 (mem_legsOfSet_lt hl) _)) u
  have hloss : ∀ (u : State) (f : Fld), f.base = 0x300E0600 ∧ f.s1 = 4 → (u.set f 0 p).psetState p = u.psetState p := by
    rintro u f ⟨hb, hs⟩
    refine State.get_set_addr _ _ _ _ _ _ _ _ _ _ ?_
    simp only [Fld.addr, hb, hs, F.GIF_PSET_STAT.STATE]
    omega
  rw [hoff, hloss _ _ (by decide), hloss _ _ (by decide), enterState_psetState hp (by decide)]

theorem ascWith_shows (hp : p < 16) (top : Bool) (code : Nat) (s : State) : (ascWith p top code s).psetState p = (if top then 2 else 3) ∧
    (ascWith p top code s).get F.GIF_PSET_STAT.LAST_CODE p = code % 65536 ∧ (ascWith p top code s).sys.lastFault = code := by
  obtain ⟨hstate, hcode, hlast⟩ := psetCode_shows hp code _ _ _
  exact ⟨hstate.trans (enterState_psetState hp (by split <;> decide) _), hcode, hlast⟩

end

/-! ### The rows (R251, R252, R255 to R257, R261) -/

section
variable {s : State} {c : Fin 48} {i p : Fin 16} {above : Bool}

theorem raise_psetState {q n : Nat} (hq : q < 16) (hn : n < 256) (s : State) : (raise n s).psetState q = s.psetState q :=
  State.get_of_rd (raise_quiet _ _ _ hn (gated_psetStat hq).quiet)

/-- A hard trip as its register and its event show it. -/
def hardNoted (c : Nat) (s : State) : State := raise 104 (s.set F.GIF_COMP_CFG.HARD 1 c)

theorem hardNoted_hard (c : Fin 48) (s : State) : (hardNoted c.val s).get F.GIF_COMP_CFG.HARD c.val = 1 := by
  rw [hardNoted, State.get_of_rd (raise_quiet _ _ _ (by decide) (gated_compCfg c.isLt).1.quiet), State.get_set_one _ _ _ _ _ (by decide) (by decide)]

theorem hardNoted_psetState {q : Nat} (hq : q < 16) (c : Fin 48) (s : State) : (hardNoted c.val s).psetState q = s.psetState q :=
  (raise_psetState hq (by decide) _).trans (State.get_set_addr _ _ _ _ _ _ _ _ _ _ ((gated_compCfg c.isLt).2 q).symm)

theorem hardNoted_commandedOn (c : Nat) (q : Nat) (s : State) : commandedOn (hardNoted c s) q = commandedOn s q := by
  have hpwm : (hardNoted c s).pwm = s.pwm := raise_pwm _ _
  refine commandedOn_congr (fun l hl => State.get_of_rd ?_) hpwm q
  have hcfg : Quiet (F.PWM_LEG_CFG.PSET.addr l 0 0) ∧ F.PWM_LEG_CFG.PSET.addr l 0 0 ≠ F.GIF_COMP_CFG.HARD.addr c 0 0 := by
    refine ⟨⟨?_, ?_⟩, ?_⟩ <;> simp only [Fld.addr, F.PWM_LEG_CFG.PSET, F.GIF_COMP_CFG.HARD] <;> omega
  rw [hardNoted, raise_quiet _ _ _ (by decide) hcfg.1, set_quiet _ _ _ _ _ _ _ hcfg.2]

theorem execHardTrip_of_enabled (h : s.getB F.GIF_COMP_CFG.HARD_EN c.val = true) :
    execHardTrip c above s = .next (trigger (s.get F.GIF_COMP_CFG.PSET c.val) (fun _ => .hard c.val above) (hardNoted c.val s)) := by
  rw [execHardTrip, if_pos h]
  rfl

/-- A driver fault as its register and its event show it. -/
def gfltNoted (i : Nat) (s : State) : State := raise 102 ((s.set F.GIF_GFLT_CFG.ACTIVE 1 i).set F.GIF_GFLT_CFG.SEEN 1 i)

theorem gfltNoted_rd (i : Fin 16) {f : Fld} (hf : f.addr i.val 0 0 = F.GIF_GFLT_CFG.ACTIVE.addr i.val 0 0) (s : State) :
    (gfltNoted i.val s).get f i.val = ((s.set F.GIF_GFLT_CFG.ACTIVE 1 i).set F.GIF_GFLT_CFG.SEEN 1 i).get f i.val :=
  State.get_of_rd (raise_quiet _ _ _ (by decide) (hf ▸ (gated_gfltCfg i.isLt).1.quiet))

theorem gfltNoted_shows (i : Fin 16) (s : State) : (gfltNoted i.val s).get F.GIF_GFLT_CFG.ACTIVE i.val = 1 ∧
    (gfltNoted i.val s).get F.GIF_GFLT_CFG.SEEN i.val = 1 := by
  rw [gfltNoted_rd i rfl, gfltNoted_rd i (f := F.GIF_GFLT_CFG.SEEN) rfl, State.get_set_apart (by decide),
    State.get_set_one _ _ _ _ _ (by decide) (by decide), State.get_set_one _ _ _ _ _ (by decide) (by decide)]
  exact ⟨rfl, rfl⟩

/-- The fault leaves what the row goes on to read: its input's configuration and the sets' STATE. -/
theorem gfltNoted_keeps (i : Fin 16) {f : Fld} (hf : f.addr i.val 0 0 = F.GIF_GFLT_CFG.ACTIVE.addr i.val 0 0)
    (hactive : F.GIF_GFLT_CFG.ACTIVE.Apart f) (hseen : F.GIF_GFLT_CFG.SEEN.Apart f) (s : State) :
    (gfltNoted i.val s).get f i.val = s.get f i.val := by
  rw [gfltNoted_rd i hf, State.get_set_apart hseen, State.get_set_apart hactive]

theorem gfltNoted_psetState {q : Nat} (hq : q < 16) (i : Fin 16) (s : State) : (gfltNoted i.val s).psetState q = s.psetState q := by
  have hactive := ((gated_gfltCfg i.isLt).2 q).symm
  have hseen : F.GIF_PSET_STAT.STATE.addr q 0 0 ≠ F.GIF_GFLT_CFG.SEEN.addr i.val 0 0 := hactive
  rw [gfltNoted, raise_psetState hq (by decide), State.psetState, State.get_set_addr _ _ _ _ _ _ _ _ _ _ hseen,
    State.get_set_addr _ _ _ _ _ _ _ _ _ _ hactive, State.psetState]

theorem execGfltAssert_of_set (hen : s.getB F.GIF_GFLT_CFG.EN i.val = true) (hkind : s.getB F.GIF_GFLT_CFG.TGT_KIND i.val = true) :
    execGfltAssert i true s = .next (trigger (s.get F.GIF_GFLT_CFG.PSET i.val) (fun _ => .unattributable) (gfltNoted i.val s)) := by
  have hkind' : (gfltNoted i.val s).getB F.GIF_GFLT_CFG.TGT_KIND i.val = true := by
    rw [State.getB, gfltNoted_keeps i (f := F.GIF_GFLT_CFG.TGT_KIND) rfl (by decide) (by decide)]
    exact hkind
  have hrun := execGfltAssert.eq_def i true s
  rw [hen, Bool.not_true, if_neg Bool.false_ne_true, if_pos rfl] at hrun
  rw [hrun, ← gfltNoted_keeps i (f := F.GIF_GFLT_CFG.PSET) rfl (by decide) (by decide) s]
  exact congrArg Host.Outcome.next (if_pos hkind')

theorem execFaultMapDecision_of_row {top : Bool} (h : s.psetState p.val = 1) (hrow : (faultMap s p.val).1 = some top) :
    ∃ u, execFaultMapDecision p s = .next (ascWith p.val top (faultMap s p.val).2.1 u) := by
  rw [execFaultMapDecision, if_pos h]
  generalize faultMap s p.val = r at *
  obtain ⟨_, code, k⟩ := r
  cases hrow
  exact ⟨_, rfl⟩

theorem execFaultMapDecision_of_off (h : s.psetState p.val = 1) (hrow : (faultMap s p.val).1 = none) :
    ∃ u, execFaultMapDecision p s = .next (setOffWith p.val (faultMap s p.val).2.1 u) := by
  rw [execFaultMapDecision, if_pos h]
  generalize faultMap s p.val = r at *
  obtain ⟨_, code, k⟩ := r
  cases hrow
  exact ⟨_, rfl⟩

theorem execAscEntryTimeout_of_stuck (h : s.psetState p.val = 2)
    (hstuck : ∃ l ∈ legsOfSet s p.val, (s.sw (2 * l)).pendOn = true ∧ showsOff s (2 * l + 1) = false) :
    execAscEntryTimeout p s = .next (setOffWith p.val 0x0A09 s) := by
  obtain ⟨l, hl, hpend, hshows⟩ := hstuck
  have hany : (legsOfSet s p.val).any (fun l => (s.sw (2 * l)).pendOn && !showsOff s (2 * l + 1)) = true :=
    List.any_eq_true.mpr ⟨l, hl, by simp [hpend, hshows]⟩
  have hrun := execAscEntryTimeout.eq_def p s
  rw [h] at hrun
  exact hrun.trans (congrArg Host.Outcome.next (if_pos hany))

/-! ### UCG_SPEED (R257) -/

theorem setBits_word (w v : Word) : setBits w 31 0 v.toNat = v := by
  refine BitVec.eq_of_toNat_eq ?_
  rw [setBits_toNat w 31 0 _ (by decide) (by decide)]
  have hv := v.isLt
  have hw := w.isLt
  omega

/-- The registers of a set as a write of UCG_SPEED leaves them. -/
def ucgWritten (p : Nat) (v : Word) (s : State) : State :=
  showAbove p ((s.set F.GIF_PSET_UCG.UCG_SPEED v.toNat p).set F.GIF_PSET_STAT.UCG_STALE 0 p)

theorem ucgWritten_rd {p a : Nat} (ha : a ≠ F.GIF_PSET_STAT.STATE.addr p 0 0) (v : Word) (s : State) :
    (ucgWritten p v s).rd a = (s.set F.GIF_PSET_UCG.UCG_SPEED v.toNat p).rd a :=
  (set_quiet _ F.GIF_PSET_STAT.ABOVE_UCG _ _ _ _ _ ha).trans (set_quiet _ F.GIF_PSET_STAT.UCG_STALE _ _ _ _ _ ha)

theorem ucgWritten_speed (p : Nat) (v : Word) (s : State) : (ucgWritten p v s).rd (F.GIF_PSET_UCG.UCG_SPEED.addr p 0 0) = v := by
  rw [ucgWritten_rd (by simp only [Fld.addr, F.GIF_PSET_UCG.UCG_SPEED, F.GIF_PSET_STAT.STATE]; omega), State.set, State.rd_wr_self]
  exact setBits_word _ _

theorem ucgWritten_stale (p : Nat) (v : Word) (s : State) : (ucgWritten p v s).get F.GIF_PSET_STAT.UCG_STALE p = 0 := by
  rw [ucgWritten, showAbove, State.setB, State.get_set_apart (by decide), State.get_set_zero _ _ _ _ _ (by decide) (by decide)]

/-- A set that does not coast only takes the value: no short circuit follows (R319). -/
theorem ucgWrite_of_not_coasting {p : Nat} (hp : p < 16) (h : s.get F.GIF_PSET_LOSS.LSTATE p ≠ 2) (v : Word) :
    ucgWrite p v s = ucgWritten p v s := by
  have hloss : (ucgWritten p v s).get F.GIF_PSET_LOSS.LSTATE p = s.get F.GIF_PSET_LOSS.LSTATE p := by
    refine State.get_of_rd ((ucgWritten_rd ?_ v s).trans (set_quiet _ _ _ _ _ _ _ ?_)) <;>
      simp only [Fld.addr, F.GIF_PSET_LOSS.LSTATE, F.GIF_PSET_STAT.STATE, F.GIF_PSET_UCG.UCG_SPEED] <;> omega
  have hrun := ucgWrite.eq_def p v s
  rw [aboveChanged] at hrun
  refine hrun.trans (if_neg ?_)
  change ¬((ucgWritten p v s).get F.GIF_PSET_LOSS.LSTATE p == 2 && _ && _ && _) = true
  rw [hloss]
  simp [h]

/-- A set whose UCG_SPEED has grown old. -/
def ucgStale (p : Nat) (s : State) : State :=
  raise 107 (issueFor (.pset p) 0x0A0A 0 ((s.set F.GIF_PSET_STAT.UCG_STALE 1 p).set F.GIF_PSET_STAT.LAST_CODE 0x0A0A p))

theorem ucgStale_get {p : Nat} {f : Fld} (h : Gated (f.addr p 0 0)) (s : State) : (ucgStale p s).get f p =
    ((s.set F.GIF_PSET_STAT.UCG_STALE 1 p).set F.GIF_PSET_STAT.LAST_CODE 0x0A0A p).get f p := by
  rw [ucgStale, State.get_of_rd (raise_quiet _ _ _ (by decide) h.quiet), issueFor_get]

theorem ucgStale_shows {p : Nat} (hp : p < 16) (s : State) : (ucgStale p s).get F.GIF_PSET_STAT.UCG_STALE p = 1 ∧
    (ucgStale p s).get F.GIF_PSET_STAT.LAST_CODE p = 0x0A0A := by
  have hstat := gated_psetStat hp
  rw [ucgStale_get (f := F.GIF_PSET_STAT.UCG_STALE) hstat, ucgStale_get (f := F.GIF_PSET_STAT.LAST_CODE) hstat,
    State.get_set_apart (by decide), State.get_set_one _ _ _ _ _ (by decide) (by decide), State.get_set_fits (by decide) (by decide)]
  exact ⟨rfl, rfl⟩

/-- The last value stays in use. -/
theorem ucgStale_speed {p : Nat} (hp : p < 16) (s : State) :
    (ucgStale p s).get F.GIF_PSET_UCG.UCG_SPEED p = s.get F.GIF_PSET_UCG.UCG_SPEED p := by
  have hspeed : Gated (F.GIF_PSET_UCG.UCG_SPEED.addr p 0 0) ∧
      F.GIF_PSET_UCG.UCG_SPEED.addr p 0 0 ≠ F.GIF_PSET_STAT.UCG_STALE.addr p 0 0 ∧
      F.GIF_PSET_UCG.UCG_SPEED.addr p 0 0 ≠ F.GIF_PSET_STAT.LAST_CODE.addr p 0 0 := by
    simp only [Fld.addr, F.GIF_PSET_UCG.UCG_SPEED, F.GIF_PSET_STAT.UCG_STALE, F.GIF_PSET_STAT.LAST_CODE]
    omega
  obtain ⟨hgated, hstale, hcode⟩ := hspeed
  rw [ucgStale_get hgated, State.get_set_addr _ _ _ _ _ _ _ _ _ _ hcode, State.get_set_addr _ _ _ _ _ _ _ _ _ _ hstale]

theorem execUcgStaleTimeout_of_ready (h : s.pdReady 7 = true) : execUcgStaleTimeout p s = .next (ucgStale p.val s) := by
  rw [execUcgStaleTimeout, if_pos h]
  rfl

/-! ### A requested short circuit (R261) -/

theorem ascRequest_of_checked {m : Master} {p : Nat} (hm : checkedOutput m = true) (hst : s.psetState p = 0)
    (hmode : s.mode = 3 ∨ s.mode = 5 ∨ s.mode = 7) (code : Nat) :
    ascRequest m p code s = s.setPset p { s.pset p with request := code } := by
  have hmode' : (s.mode == 3 || s.mode == 5 || s.mode == 7) = true := by
    rcases hmode with h | h | h <;> simp [h]
  rw [ascRequest, hm, hst, hmode']
  rfl

end

/-- Settles O19: a trigger by the STATE it finds, a decision and a failed entry by what a code leaves, the speed and the requests by the
registers and the table they write. -/
theorem fastProtection : Obligations.FastProtection := by
  intro s c above i p v m q q2
  have hq : q < 16 := State.get_lt s F.GIF_COMP_CFG.PSET c.val 0 0
  have hq2 : q2 < 16 := State.get_lt s F.GIF_GFLT_CFG.PSET i.val 0 0
  refine ⟨?hardStarts, ?hardJoins, ?gfltStarts, ?gfltFalls, ?decision, ?ascTimeout, ?ucgWrite, ?ucgStale, ?ascTop, ?ascBot⟩
  case hardStarts =>
    intro hen hst
    have hrun : exec (.hardTrip c above) s = _ := execHardTrip_of_enabled hen
    have hst' := (hardNoted_psetState hq c s).trans hst
    obtain ⟨hstate, hfind, hwas⟩ := trigger_starts (f := fun _ => .hard c.val above) hq hst'
    refine ⟨_, hrun, hstate, hfind, hwas.trans (hardNoted_commandedOn _ _ _), ?_,
      execHardTrip_mask rfl rfl rfl rfl rfl rfl rfl _ _ _ hrun⟩
    rw [trigger_get_of_run (gated_compCfg c.isLt).1 ((gated_compCfg c.isLt).2 _) hst', hardNoted_hard]
  case hardJoins =>
    intro hen hst
    have hrun : exec (.hardTrip c above) s = _ := execHardTrip_of_enabled hen
    have hst' := (hardNoted_psetState hq c s).trans hst
    have hpset : (hardNoted c.val s).pset q = s.pset q := State.pset_of_ungated (PwmSt.ungated_of_eq (raise_pwm _ _)) q
    have hframe := execHardTrip_mask (K := { regs := true, sys := true, fab := true, pwm := true, cnv := true, kln := true, act := true })
      rfl rfl rfl rfl rfl rfl rfl _ _ _ hrun
    rw [trigger_of_deciding hst'] at hrun hframe
    refine ⟨_, hrun, hst', ?_, hardNoted_hard c s, hframe⟩
    rw [State.pset_setPset, hpset]
  case gfltStarts =>
    intro hen hkind hst
    have hrun : exec (.gfltAssert i true) s = _ := execGfltAssert_of_set hen hkind
    have hst' := (gfltNoted_psetState hq2 i s).trans hst
    obtain ⟨hstate, hfind, -⟩ := trigger_starts (f := fun _ => .unattributable) hq2 hst'
    obtain ⟨hactive, hseen⟩ := gfltNoted_shows i s
    obtain ⟨hgated, hne⟩ := gated_gfltCfg i.isLt
    exact ⟨_, hrun, hstate, hfind, (trigger_get_of_run hgated (hne q2) hst').trans hactive,
      (trigger_get_of_run (g := F.GIF_GFLT_CFG.SEEN) hgated (hne q2) hst').trans hseen, execGfltAssert_mask rfl rfl rfl rfl rfl rfl rfl _ _ _ hrun⟩
  case gfltFalls =>
    intro hen
    refine ⟨_, ?_, rfl⟩
    change execGfltAssert i false s = _
    rw [execGfltAssert, hen]
    rfl
  case decision =>
    intro hst
    rcases hrow : (faultMap s p.val).1 with _ | top
    · obtain ⟨u, hrun⟩ := execFaultMapDecision_of_off hst hrow
      obtain ⟨hstate, hcode, hlast⟩ := setOffWith_shows p.isLt (faultMap s p.val).2.1 u
      exact ⟨_, hrun, hstate, hcode, hlast, execFaultMapDecision_mask rfl rfl rfl rfl rfl rfl rfl _ _ hrun⟩
    · obtain ⟨u, hrun⟩ := execFaultMapDecision_of_row hst hrow
      obtain ⟨hstate, hcode, hlast⟩ := ascWith_shows p.isLt top (faultMap s p.val).2.1 u
      refine ⟨_, hrun, hstate.trans ?_, hcode, hlast, execFaultMapDecision_mask rfl rfl rfl rfl rfl rfl rfl _ _ hrun⟩
      cases top <;> rfl
  case ascTimeout =>
    intro hst hstuck
    have hrun := execAscEntryTimeout_of_stuck hst hstuck
    obtain ⟨hstate, hcode, hlast⟩ := setOffWith_shows p.isLt 0x0A09 s
    exact ⟨_, hrun, hstate, hcode, hlast, execAscEntryTimeout_mask rfl rfl rfl rfl rfl rfl rfl _ _ hrun⟩
  case ucgWrite =>
    intro hw hready hloss
    have hrun : exec (.ucgSpeedWrite m p v) s = .next ((ucgWritten p.val v s).answer .done) := by
      change execUcgSpeedWrite m p v s = _
      rw [execUcgSpeedWrite, hw, hready, ucgWrite_of_not_coasting p.isLt hloss]
      rfl
    have hregs : ((ucgWritten p.val v s).answer .done).regs = (ucgWritten p.val v s).regs := State.answer_regs _ _
    refine ⟨_, hrun, ?speed, ?stale, rfl, fun a ha => ?_, execUcgSpeedWrite_mask rfl rfl rfl rfl rfl rfl rfl rfl _ _ _ _ hrun⟩
    case speed => rw [State.rd_of_regs hregs, ucgWritten_speed]
    case stale => rw [State.get_of_regs hregs, ucgWritten_stale]
    obtain ⟨hspeed, hstat⟩ : a ≠ F.GIF_PSET_UCG.UCG_SPEED.addr p.val 0 0 ∧ a ≠ F.GIF_PSET_STAT.STATE.addr p.val 0 0 := by simpa using ha
    rw [State.rd_of_regs hregs, ucgWritten_rd hstat, set_quiet _ _ _ _ _ _ _ hspeed]
  case ucgStale =>
    intro hready
    have hrun := execUcgStaleTimeout_of_ready (p := p) hready
    obtain ⟨hstale, hcode⟩ := ucgStale_shows p.isLt s
    exact ⟨_, hrun, hstale, ucgStale_speed p.isLt s, (congrArg SysSt.lastFault (raise_sys _ _)).trans (issueFor_lastFault _ _ _ _), hcode,
      execUcgStaleTimeout_mask rfl rfl rfl rfl _ _ hrun⟩
  case ascTop =>
    intro hw hm hready hst hmode
    refine ⟨_, ?_, rfl⟩
    change execPsetAscTop m p s = _
    rw [execPsetAscTop, hw, hready, ascRequest_of_checked hm hst hmode]
    rfl
  case ascBot =>
    intro hw hm hready hst hmode
    refine ⟨_, ?_, rfl⟩
    change execPsetAscBot m p s = _
    rw [execPsetAscBot, hw, hready, ascRequest_of_checked hm hst hmode]
    rfl

end Sys2Proof.Machine

/-! Switches, legs and generators (08_pwm_gate.md R224 to R248): what turning a switch off or on leaves of its leg's two switches, what a GEN
line's fall and a carrier event leave, the rows of feedback and dead time, and the obligation about them, O18. -/

namespace Sys2Proof.Machine
open Sys2Proof

/-! ### The two switches of a leg (R229, R234 to R237) -/

theorem oppOf_ne (k : Nat) : oppOf k ≠ k := by
  unfold oppOf
  split <;> omega

theorem oppOf_oppOf (k : Nat) : oppOf (oppOf k) = k := by
  unfold oppOf
  split <;> split <;> omega

section
variable {s : State} {j k : Nat}

theorem edgeIssued_sw (l j : Nat) (s : State) : (edgeIssued l s).sw j = s.sw j := by
  rw [State.sw, edgeIssued_pwm, State.sw]

/-- An edge and its command to the bridge leave the switches as they were set. -/
theorem commanded_sw (l j : Nat) (s : State) : (legCommand l (edgeIssued l s)).sw j = s.sw j := by
  rw [State.sw_of_pwm (legCommand_pwm _ _), edgeIssued_sw]

theorem State.bump_pwm (s : State) (f satF : Fld) (i j k n : Nat) : (s.bump f satF i j k n).pwm = s.pwm :=
  pwm_of_mask (K := { regs := true }) rfl (bump_mask rfl _ _ _ _ _ _ _)

theorem switchOff_of_on (h : (s.sw k).cmd = true) : switchOff k s = legCommand (legOf k) (edgeIssued (legOf k)
    (State.setSw (s.setSw k { s.sw k with cmd := false, pendOn := false, win := if fbUsed s k then .off else .none }) (oppOf k)
      { s.sw (oppOf k) with deadRun := true })) := by
  rw [switchOff, if_pos h]
  dsimp only
  rw [State.sw_setSw_of_ne _ (oppOf_ne k)]

theorem switchOff_sw_self (h : (s.sw k).cmd = true) :
    (switchOff k s).sw k = { s.sw k with cmd := false, pendOn := false, win := if fbUsed s k then .off else .none } := by
  rw [switchOff_of_on h, commanded_sw, State.sw_setSw_of_ne _ (oppOf_ne k).symm, State.sw_setSw]

theorem switchOff_sw_opp (h : (s.sw k).cmd = true) : (switchOff k s).sw (oppOf k) = { s.sw (oppOf k) with deadRun := true } := by
  rw [switchOff_of_on h, commanded_sw, State.sw_setSw]

/-- The switch is off, and no other switch's command changes. -/
theorem switchOff_cmd (k j : Nat) (s : State) : ((switchOff k s).sw j).cmd = if j = k then false else (s.sw j).cmd := by
  by_cases hon : (s.sw k).cmd = true
  · split
    · next hj => rw [hj, switchOff_sw_self hon]
    · next hj =>
      by_cases ho : j = oppOf k
      · rw [ho, switchOff_sw_opp hon]
      · rw [switchOff_of_on hon, commanded_sw, State.sw_setSw_of_ne _ ho, State.sw_setSw_of_ne _ hj]
  · have hoff : (s.sw k).cmd = false := by simpa using hon
    have hkeep : ((switchOff k s).sw j).cmd = (s.sw j).cmd := by
      unfold switchOff
      dsimp only
      rw [if_neg hon]
      split
      · by_cases hj : j = k
        · rw [hj, State.sw_setSw]
        · rw [State.sw_setSw_of_ne _ hj]
      · rfl
    split
    · next hj => rw [hkeep, hj, hoff]
    · exact hkeep

theorem switchOff_sw_of_ne (hk : j ≠ k) (ho : j ≠ oppOf k) (s : State) : (switchOff k s).sw j = s.sw j := by
  by_cases hon : (s.sw k).cmd = true
  · rw [switchOff_of_on hon, commanded_sw, State.sw_setSw_of_ne _ ho, State.sw_setSw_of_ne _ hk]
  · unfold switchOff
    dsimp only
    rw [if_neg hon]
    exact ite_keeps (p := (·.sw j)) (State.sw_setSw_of_ne _ hk _)

theorem tryOn_of_ready (hpend : (s.sw k).pendOn = true) (hdead : (s.sw k).deadRun = false) (hopp : showsOff s (oppOf k) = true)
    (hdec : decideSw s k ≠ .off) : (tryOn k s).sw k =
      { s.sw k with cmd := true, pendOn := false, win := if fbUsed s k then .on else .none } := by
  have hready : ((s.sw k).pendOn && !(s.sw k).deadRun && showsOff s (oppOf k) && decideSw s k != .off) = true := by
    simp [hpend, hdead, hopp, hdec]
  rw [tryOn, if_pos hready, commanded_sw, State.sw_setSw]

theorem tryOn_sw_of_ne (h : j ≠ k) (s : State) : (tryOn k s).sw j = s.sw j := by
  refine ite_keeps (p := (·.sw j)) ?_
  rw [commanded_sw, State.sw_setSw_of_ne _ h]

/-- What R245 decides for a switch does not rest on the switches' own state. -/
theorem decideSw_setSw (s : State) (j k : Nat) (x : SwSt) : decideSw (s.setSw j x) k = decideSw s k := rfl

/-- A leg that is brought under R245 leaves the other legs' switches alone. -/
theorem enforceLeg_sw_of_ne {l : Nat} (h : legOf j ≠ l) (s : State) : (enforceLeg l s).sw j = s.sw j := by
  have hj : (j ≠ 2 * l ∧ j ≠ 2 * l + 1) ∧ j ≠ oppOf (2 * l) ∧ j ≠ oppOf (2 * l + 1) := by
    unfold legOf at h
    unfold oppOf
    refine ⟨⟨?_, ?_⟩, ?_, ?_⟩
    · omega
    · omega
    · split <;> omega
    · split <;> omega
  obtain ⟨⟨htop, hbot⟩, htop', hbot'⟩ := hj
  have hoff : ∀ k, j ≠ k → j ≠ oppOf k → ∀ s : State, (enforceOff k s).sw j = s.sw j :=
    fun k hk ho s => ite_keeps (p := (·.sw j)) (switchOff_sw_of_ne hk ho s)
  have hon : ∀ k, j ≠ k → ∀ s : State, (enforceOn k s).sw j = s.sw j := fun k hk s =>
    ite_keeps (p := (·.sw j)) ((tryOn_sw_of_ne hk _).trans (State.sw_setSw_of_ne _ hk _))
  rw [State.sw_of_pwm (enforceLeg_pwm l s), hon _ hbot, hon _ htop, hoff _ hbot hbot', hoff _ htop htop']

end

/-! ### The edge of a leg (R230, R235) -/

/-- What follows the turn-off at an edge: the pulse of switch `y` is dropped, or it waits for its dead time. -/
def edgeTo (l : Nat) (toTop : Bool) (width y : Nat) (s : State) : State :=
  if decideSw s y != .follow then s
  else if width < 50 * s.get F.PWM_LEG_BOOT.PULSE_MIN l then pulseDrop l s
  else
    let s := if toTop then s else s.setLeg l { s.leg l with bottomOn := max (s.leg l).bottomOn width }
    let s := s.setSw y { s.sw y with pendOn := true }
    if (s.sw y).deadRun then s else tryOn y s

/-- With its dead time running, the switch waits: no command changes. -/
theorem edgeTo_of_dead {s : State} {y : Nat} (hdead : (s.sw y).deadRun = true) (l : Nat) (toTop : Bool) (width j : Nat) :
    ((edgeTo l toTop width y s).sw j).cmd = (s.sw j).cmd ∧ ((edgeTo l toTop width y s).sw j).deadRun = (s.sw j).deadRun := by
  unfold edgeTo
  split
  · exact ⟨rfl, rfl⟩
  · split
    · rw [pulseDrop, State.sw_of_pwm (State.bump_pwm _ _ _ _ _ _ _)]
      exact ⟨rfl, rfl⟩
    · have hsw : ∀ i, (if toTop then s else s.setLeg l { s.leg l with bottomOn := max (s.leg l).bottomOn width }).sw i = s.sw i := by
        intro i
        split <;> rfl
      dsimp only
      rw [State.sw_setSw, hsw, if_pos hdead]
      by_cases hj : j = y
      · rw [hj, State.sw_setSw]
        exact ⟨rfl, rfl⟩
      · rw [State.sw_setSw_of_ne _ hj, hsw]
        exact ⟨rfl, rfl⟩

theorem execSwitchEdgeCommand_of_follow {s : State} {l : Fin 32} {toTop : Bool} {width y : Nat}
    (hy : y = if toTop then 2 * l.val else 2 * l.val + 1) (hx : decideSw s (oppOf y) = .follow) (hfollow : decideSw s y = .follow)
    (hc : toTop = true → (s.leg l.val).c ≠ 0) (hpend : (s.sw (oppOf y)).pendOn = false) :
    execSwitchEdgeCommand l toTop width s = .next (edgeTo l.val toTop width y (switchOff (oppOf y) s)) := by
  subst hy
  have hc' : (toTop && (s.leg l.val).c == 0) = false := by
    cases toTop
    · rfl
    · simpa using hc rfl
  unfold execSwitchEdgeCommand
  dsimp only
  rw [hx, hfollow, hc', hpend]
  rfl

/-! ### Refusals (R237 to R239) -/

section
variable {s : State} {k : Nat}

theorem refused_sw (k j : Nat) (s : State) : (refused k s).sw j = s.sw j :=
  State.sw_of_pwm ((raise_pwm _ _).trans (State.bump_pwm _ _ _ _ _ _ _)) j

theorem refused_rd {a : Nat} (h : Gated a) (hk : k < 64) (s : State) : (refused k s).rd a = s.rd a := by
  rw [refused, raise_quiet _ _ _ (by decide) h.quiet]
  refine State.rd_bump_ne ?_ ?_ <;> simp only [Fld.addr, F.PWM_LEG_STAT.REFUSE_CNT, F.PWM_LEG_STAT.SAT, legOf] <;> omega

theorem quiet_legStat (hk : k < 64) : Quiet (F.PWM_LEG_STAT.REFUSE_CNT.addr (legOf k) 0 0) := by
  refine ⟨?_, ?_⟩ <;> simp only [Fld.addr, F.PWM_LEG_STAT.REFUSE_CNT, legOf] <;> omega

theorem refused_count (hk : k < 64) (s : State) : (refused k s).get F.PWM_LEG_STAT.REFUSE_CNT (legOf k) =
    min (s.get F.PWM_LEG_STAT.REFUSE_CNT (legOf k) + 1) 255 := by
  rw [refused, State.get_of_rd (raise_quiet _ _ _ (by decide) (quiet_legStat hk))]
  exact State.get_bump_self (by decide) (by decide) (by decide) (by decide) (by decide)

theorem refusalRun_of_few {off : Bool} (h : (if off then (s.sw k).runOff else (s.sw k).runOn) + 1 < max (s.get F.GIF_SW_CFG.REFUSE_N k) 1) :
    refusalRun k off s = s.setSw k (if off then { s.sw k with runOff := (s.sw k).runOff + 1 } else { s.sw k with runOn := (s.sw k).runOn + 1 }) := by
  unfold refusalRun
  dsimp only
  refine (if_neg (Nat.not_le.mpr h)).trans ?_
  cases off <;> rfl

theorem gated_swCfg (hk : k < 64) : Gated (F.GIF_SW_CFG.GFB.addr k 0 0) := by
  simp only [Fld.addr, F.GIF_SW_CFG.GFB]
  omega

/-- A refusal below REFUSE_N lengthens the switch's run and shows in its leg's count. -/
theorem refusal_counted (hk : k < 64) {off : Bool}
    (h : (if off then (s.sw k).runOff else (s.sw k).runOn) + 1 < max (s.get F.GIF_SW_CFG.REFUSE_N k) 1) :
    let t := refusalRun k off (refused k s)
    t.sw k = (if off then { s.sw k with runOff := (s.sw k).runOff + 1 } else { s.sw k with runOn := (s.sw k).runOn + 1 }) ∧
    (∀ j, j ≠ k → t.sw j = s.sw j) ∧
    t.get F.PWM_LEG_STAT.REFUSE_CNT (legOf k) = min (s.get F.PWM_LEG_STAT.REFUSE_CNT (legOf k) + 1) 255 := by
  have hn : (refused k s).get F.GIF_SW_CFG.REFUSE_N k = s.get F.GIF_SW_CFG.REFUSE_N k :=
    State.get_of_rd (refused_rd (gated_swCfg hk) hk s)
  have hrun : refusalRun k off (refused k s) = _ := refusalRun_of_few (by rw [refused_sw, hn]; exact h)
  intro t
  have ht : t = _ := hrun
  rw [ht, refused_sw]
  refine ⟨State.sw_setSw _ _ _, fun j hj => ?_, refused_count hk s⟩
  rw [State.sw_setSw_of_ne _ hj, refused_sw]

end

/-! ### A GEN line falls (R246, R248) -/

/-- The GEN line of leg `l` shows low, so that R245 keeps both its switches off. -/
def GenLow (l : Nat) (s : State) : Prop := s.pwm.genSeen.testBit (s.get F.PWM_LEG_CFG.GEN_SEL l) = false

/-- Both switches of leg `l` are commanded off. -/
def LegOff (l : Nat) (s : State) : Prop := (s.sw (2 * l)).cmd = false ∧ (s.sw (2 * l + 1)).cmd = false

/-- ARM of leg `l` is clear, and no longer in effect. -/
def Disarmed (l : Nat) (s : State) : Prop := s.get F.PWM_LEG_CFG.ARM l = 0 ∧ (s.leg l).armed = false

section
variable {s t : State} {l : Nat}

theorem decideSw_of_genLow {k : Nat} (hk : legOf k = l) (h : GenLow l s) : decideSw s k = .off := by
  subst hk
  unfold decideSw
  dsimp only
  rw [h]
  rfl

theorem GenLow.of_kept (h : GenLow l s) (hcfg : t.get F.PWM_LEG_CFG.GEN_SEL l = s.get F.PWM_LEG_CFG.GEN_SEL l)
    (hseen : t.pwm.genSeen = s.pwm.genSeen) : GenLow l t := by
  unfold GenLow
  rw [hcfg, hseen]
  exact h

theorem quiet_legCfg (hl : l < 32) : Quiet (F.PWM_LEG_CFG.ARM.addr l 0 0) := by
  refine ⟨?_, ?_⟩ <;> simp only [Fld.addr, F.PWM_LEG_CFG.ARM] <;> omega

theorem GenLow.switchOff (hl : l < 32) (h : GenLow l s) (k : Nat) : GenLow l (switchOff k s) :=
  h.of_kept (State.get_of_rd (switchOff_quiet _ _ _ (quiet_legCfg hl))) (genSeen_of_unswitched (switchOff_unswitched k s))

theorem GenLow.enforceLeg (hl : l < 32) (h : GenLow l s) (l' : Nat) : GenLow l (enforceLeg l' s) :=
  h.of_kept (State.get_of_rd (enforceLeg_quiet _ _ _ (quiet_legCfg hl))) (genSeen_of_unswitched (enforceLeg_unswitched l' s))

/-- A leg whose GEN line is low is brought under R245 by turning both switches off. -/
theorem enforceLeg_of_genLow (hl : l < 32) (h : GenLow l s) (j : Nat) :
    (enforceLeg l s).sw j = (switchOff (2 * l + 1) (switchOff (2 * l) s)).sw j := by
  have htop : legOf (2 * l) = l := by unfold legOf; omega
  have hbot : legOf (2 * l + 1) = l := by unfold legOf; omega
  have hlow := GenLow.switchOff hl h (2 * l)
  have hlow' := GenLow.switchOff hl hlow (2 * l + 1)
  have hoff : ∀ {k} {u : State}, legOf k = l → GenLow l u → enforceOff k u = Machine.switchOff k u := fun hk hu => by
    rw [enforceOff, decideSw_of_genLow hk hu]
    rfl
  have hon : ∀ {k} {u : State}, legOf k = l → GenLow l u → enforceOn k u = u := fun hk hu => by
    rw [enforceOn, decideSw_of_genLow hk hu]
    rfl
  rw [State.sw_of_pwm (enforceLeg_pwm l s), hoff htop h, hoff hbot hlow, hon htop hlow', hon hbot hlow']

theorem legOff_enforceLeg (hl : l < 32) (h : GenLow l s) : LegOff l (enforceLeg l s) := by
  unfold LegOff
  simp only [enforceLeg_of_genLow hl h, switchOff_cmd]
  simp

/-- Every leg of the list whose GEN line is low ends with both switches off. -/
theorem legOff_enforceLegs {ls : List Nat} (hmem : l ∈ ls) (hnodup : ls.Nodup) (hl : l < 32) (h : GenLow l s) :
    LegOff l (enforceLegs ls s) := by
  refine foldl_establishes (P := LegOff l) (Q := GenLow l) hmem hnodup (fun l' _ _ s hs => hs.enforceLeg hl l')
    (fun s hs => legOff_enforceLeg hl hs) (fun l' _ hne s hs => ?_) h
  have hother : ∀ j, legOf j = l → (enforceLeg l' s).sw j = s.sw j := fun j hj => enforceLeg_sw_of_ne (hj ▸ Ne.symm hne) s
  unfold LegOff
  rw [hother _ (by unfold legOf; omega), hother _ (by unfold legOf; omega)]
  exact hs

theorem get_legCfg_of_ne {f : Fld} (hf : f.base = 0x300D0400 ∧ f.s1 = 32) {l' : Nat} (hne : l' ≠ l) (v : Nat) (s : State) :
    (s.set F.PWM_LEG_CFG.ARM v l').get f l = s.get f l := by
  obtain ⟨hb, hs⟩ := hf
  refine State.get_set_addr _ _ _ _ _ _ _ _ _ _ ?_
  simp only [Fld.addr, hb, hs, F.PWM_LEG_CFG.ARM]
  omega

theorem disarmed_disarm {ls : List Nat} (hmem : l ∈ ls) (hnodup : ls.Nodup) (s : State) : Disarmed l (disarm ls s) := by
  refine foldl_establishes (P := Disarmed l) (Q := fun _ => True) hmem hnodup (fun _ _ _ _ _ => trivial) (fun s _ => ⟨?_, ?_⟩)
    (fun l' _ hne s hs => ⟨?_, ?_⟩) trivial
  · exact State.get_set_zero s F.PWM_LEG_CFG.ARM l 0 0 (by decide) (by decide)
  · rw [State.leg_setLeg]
  · exact (get_legCfg_of_ne (by decide) hne 0 s).trans hs.1
  · rw [State.leg_setLeg_of_ne _ (Ne.symm hne)]
    exact hs.2

theorem disarm_genSel (ls : List Nat) (s : State) : (disarm ls s).get F.PWM_LEG_CFG.GEN_SEL l = s.get F.PWM_LEG_CFG.GEN_SEL l := by
  refine foldl_keeps (·.get F.PWM_LEG_CFG.GEN_SEL l) _ _ ?_ s
  exact fun l' _ s => State.get_set_apart (f := F.PWM_LEG_CFG.ARM) (by decide) s 0 l' 0 0 l 0 0

/-- The state in which the part has seen GEN line `g` low. -/
def genFallen (g : Nat) (s : State) : State := { s with pwm := { s.pwm with genSeen := putBit s.pwm.genSeen g false } }

/-- The legs that follow GEN line `g`. -/
def legsOfGen (s : State) (g : Nat) : List Nat := (List.range 32).filter (fun l => s.get F.PWM_LEG_CFG.GEN_SEL l == g)

theorem execGenFall_of_ready {g : Fin 4} (h : s.pdReady 7 = true) : execGenFall g s =
    .next (raise 106 (enforceLegs (legsOfGen s g.val) (disarm (legsOfGen s g.val) (genFallen g.val s)))) := by
  have hrun := execGenFall.eq_def g s
  exact hrun.trans (congrArg Host.Outcome.next (if_pos h))

/-- A leg of the fallen line is disarmed with both switches off. -/
theorem genFall_disarms {g : Nat} (hl : l < 32) (hsel : s.get F.PWM_LEG_CFG.GEN_SEL l = g) :
    let t := raise 106 (enforceLegs (legsOfGen s g) (disarm (legsOfGen s g) (genFallen g s)))
    t.pwm.genSeen.testBit g = false ∧ Disarmed l t ∧ LegOff l t := by
  have hmem : l ∈ legsOfGen s g := List.mem_filter.mpr ⟨List.mem_range.mpr hl, by simp [hsel]⟩
  have hnodup : (legsOfGen s g).Nodup := List.nodup_range.filter _
  generalize legsOfGen s g = ls at hmem hnodup
  intro t
  have hpwm : t.pwm = (enforceLegs ls (disarm ls (genFallen g s))).pwm := raise_pwm _ _
  have hkept := enforceLegs_unswitched ls (disarm ls (genFallen g s))
  have hseen : (disarm ls (genFallen g s)).pwm.genSeen = putBit s.pwm.genSeen g false :=
    congrArg PwmSt.genSeen (disarm_ungated ls (genFallen g s))
  have hlow : GenLow l (disarm ls (genFallen g s)) := by
    unfold GenLow
    rw [hseen, disarm_genSel]
    exact hsel.symm ▸ testBit_putBit_self _ _ _
  obtain ⟨harm, harmed⟩ := disarmed_disarm hmem hnodup (genFallen g s)
  refine ⟨?_, ⟨?_, ?_⟩, ?_⟩
  · rw [hpwm, genSeen_of_unswitched hkept, hseen, testBit_putBit_self]
  · have hquiet := quiet_legCfg hl
    rw [State.get_of_rd ((raise_quiet _ _ _ (by decide) hquiet).trans (enforceLegs_quiet _ _ _ hquiet)), harm]
  · have hlegs : t.pwm.legs = _ := (congrArg PwmSt.legs hpwm).trans (legs_of_unswitched hkept)
    rw [State.leg, hlegs]
    exact harmed
  · have hoff := legOff_enforceLegs hmem hnodup hl hlow
    unfold LegOff
    rw [State.sw_of_pwm hpwm, State.sw_of_pwm hpwm]
    exact hoff

end

/-! ### Carrier events (R224, R228 to R233, R242, R261) -/

/-- The leg's bridge is released from refresh-hold (R337). -/
def bridgeFreed (l : Nat) (s : State) : State :=
  match bridgeOf s l with
  | some b => s.set F.ACT_BR_STAT.REFRESH_HOLD 0 b
  | none => s

theorem bridgeFreed_pwm (l : Nat) (s : State) : (bridgeFreed l s).pwm = s.pwm := by
  unfold bridgeFreed
  split <;> rfl

/-- The refresh pulse of a leg that R245 does not hold (R242): both switches go off, and a top switch that was on waits. -/
def refreshPulse (l : Nat) (s : State) : State :=
  if legHeld s l then s
  else
    let top := (s.sw (2 * l)).cmd
    let s := switchOff (2 * l + 1) (edgeIssued l (switchOff (2 * l) s))
    let s := bridgeFreed l ((s.setLeg l { s.leg l with sinceRefresh := 0 }).set F.PWM_LEG_STAT.BOOT_HOLD 0 l)
    if top then s.setSw (2 * l) { s.sw (2 * l) with pendOn := true, deadRun := true } else s

theorem refreshPulse_ungated (l : Nat) (s : State) : (refreshPulse l s).pwm.ungated = s.pwm.ungated := by
  have hpulse : (switchOff (2 * l + 1) (edgeIssued l (switchOff (2 * l) s))).pwm.ungated = s.pwm.ungated :=
    ungated_of_unswitched (by rw [switchOff_unswitched, edgeIssued_unswitched, switchOff_unswitched])
  have hfreed : ∀ x : LegSt, (bridgeFreed l (((switchOff (2 * l + 1) (edgeIssued l (switchOff (2 * l) s))).setLeg l x).set
      F.PWM_LEG_STAT.BOOT_HOLD 0 l)).pwm.ungated = s.pwm.ungated := fun _ => by
    rw [bridgeFreed_pwm]
    exact hpulse
  unfold refreshPulse
  split
  · rfl
  · dsimp only
    split
    · exact hfreed _
    · exact hfreed _

theorem bootRefresh_ungated (l : Nat) (s : State) : (bootRefresh l s).pwm.ungated = s.pwm.ungated := by
  unfold bootRefresh
  dsimp only
  refine (ite_keeps (p := (·.pwm.ungated)) (refreshPulse_ungated l _)).trans (ite_keeps (p := (·.pwm.ungated)) ?_)
  exact congrArg PwmSt.ungated (bridgeFreed_pwm l _)

theorem legCarrier_ungated (g : Nat) (peak : Bool) (l : Nat) (s : State) : (legCarrier g peak l s).pwm.ungated = s.pwm.ungated := by
  have hhalf : ∀ u : State, (loadHalf g peak l u).pwm.ungated = u.pwm.ungated := by
    intro u
    unfold loadHalf
    dsimp only
    split
    · rfl
    · refine (ite_keeps (p := (·.pwm.ungated)) ?_).trans ?_
      · rw [raise_pwm]
        rfl
      · rfl
  rw [legCarrier, enforceLeg_ungated]
  refine (ite_keeps (p := (·.pwm.ungated)) (hhalf _)).trans ?_
  split
  · rfl
  · rw [bootRefresh_ungated]
    rfl

theorem hiccupEntry_ungated (c : Nat) (s : State) : (hiccupEntry c s).pwm.ungated = s.pwm.ungated := by
  unfold hiccupEntry
  dsimp only
  split
  · rw [raise_pwm, issueFor_pwm, chStop_ungated, cnvAsh_pwm]
    rfl
  · change (raise 161 _).pwm.ungated = _
    rw [raise_pwm, chStop_ungated]
    refine ite_keeps (p := (·.pwm.ungated)) ?_
    rw [issueFor_pwm, cnvAsh_pwm]
    rfl

/-- The channels' part of a valley (R358, R361, R365) leaves the generators and the sets. -/
theorem cnvPeriod_ungated (g : Nat) (s : State) : (cnvPeriod g s).pwm.ungated = s.pwm.ungated := by
  refine foldl_keeps (·.pwm.ungated) _ _ (fun c _ s => ite_keeps (p := (·.pwm.ungated)) ?_) s
  dsimp only
  refine (ite_keeps (p := (·.pwm.ungated)) (hiccupEntry_ungated c _)).trans ?_
  exact ite_keeps (p := (·.pwm.ungated)) (holdLegs_ungated c _)

theorem enterState_ungated (p st : Nat) (s : State) : (enterState p st s).pwm.ungated = s.pwm.ungated := by
  have hlegs := enforceLegs_ungated (legsOfSet s p) (s.set F.GIF_PSET_STAT.STATE st p)
  unfold enterState
  dsimp only
  split
  · exact hlegs
  · exact (cnvTripSet_ungated _ _).trans hlegs

theorem startRequests_cg (g k : Nat) (s : State) : (startRequests g s).cg k = s.cg k := by
  refine foldl_keeps (·.cg k) _ _ (fun p _ s => ite_keeps (p := (·.cg k)) ?_) s
  exact (State.cg_of_ungated (enterState_ungated _ _ _) k)

theorem legCarriers_ungated (g : Nat) (peak : Bool) (ls : List Nat) (s : State) :
    (ls.foldl (fun s l => legCarrier g peak l s) s).pwm.ungated = s.pwm.ungated :=
  foldl_keeps (·.pwm.ungated) _ _ (fun l _ s => legCarrier_ungated g peak l s) s

section
variable {s : State} {g : Fin 12}

/-- A late compare write shows before the legs take the event (R14). -/
def lateNoted (g : Nat) (s : State) : State :=
  if (legsOfCg s g).any (fun l => (s.leg l).late.isSome) then
    raise 96 ((s.set F.PWM_CG_CTL.LATE_UPDATE 1 g).bump F.PWM_CG_CTL.LATE_CNT F.PWM_CG_CTL.SAT g)
  else s

theorem lateNoted_cg (g k : Nat) (s : State) : (lateNoted g s).cg k = s.cg k := by
  refine ite_keeps (p := (·.cg k)) ?_
  exact State.cg_of_ungated (PwmSt.ungated_of_eq ((raise_pwm _ _).trans (State.bump_pwm _ _ _ _ _ _ _))) k

theorem execCarrierEvent_of_rising (hready : s.pdReady 7 = true) (hrun : (s.cg g.val).running = true) (hrise : (s.cg g.val).rising = true) :
    let u := s.setCg g.val { s.cg g.val with rising := false }
    execCarrierEvent g s = .next (startRequests g.val ((legsOfCg u g.val).foldl (fun s l => legCarrier g.val true l s) (lateNoted g.val u))) := by
  unfold execCarrierEvent
  dsimp only
  rw [if_neg (by simp [hready]), if_pos (by simp [hrun, hrise])]
  rfl

/-- A generator at its valley, with the period in force from then on. -/
def valleyCg (g : Nat) (s : State) : CgSt :=
  { running := true, rising := true, per := nextPer s g, phase := s.get F.PWM_CG_PHASE.PHASE g % (max (nextPer s g) 1) }

/-- The generator runs from its valley. -/
def valleyBegun (g : Nat) (s : State) : State := (s.setCg g (valleyCg g s)).set F.PWM_CG_CTL.RUN 1 g

theorem execCarrierEvent_of_start (hready : s.pdReady 7 = true) (hrun : (s.cg g.val).running = false)
    (hen : s.getB F.PWM_CG_CTL.EN g.val = true) : execCarrierEvent g s = .next (startRequests g.val (cnvPeriod g.val
      ((legsOfCg (valleyBegun g.val s) g.val).foldl (fun s l => legCarrier g.val false l s) (lateNoted g.val (valleyBegun g.val s))))) := by
  unfold execCarrierEvent
  dsimp only
  rw [if_neg (by simp [hready]), if_neg (by simp [hrun]), if_neg (by simp [hrun]), if_pos (by simp [hen])]
  rfl

/-! ### A generator is disabled (R228) -/

theorem generatorDisable_regsOf (g : Nat) (s : State) : RegsOf [F.PWM_CG_CTL.EN, F.PWM_LEG_CFG.EN] s (generatorDisable g s) := by
  intro a ha
  have hcg : ∀ f : Fld, f.addr g 0 0 = F.PWM_CG_CTL.EN.addr g 0 0 → ∀ (v : Nat) (u : State), (u.set f v g).rd a = u.rd a :=
    fun f hf v u => set_quiet _ _ _ _ _ _ _ (hf ▸ ha _ (by simp) g 0 0)
  have hleg : ∀ (l : Nat) (u : State), (u.set F.PWM_LEG_CFG.DRAINING 1 l).rd a = u.rd a :=
    fun l u => set_quiet _ _ _ _ _ _ _ (ha F.PWM_LEG_CFG.EN (by simp) l 0 0)
  unfold generatorDisable
  dsimp only
  refine (ite_keeps (p := (·.rd a)) ?_).trans (hcg F.PWM_CG_CTL.EN rfl 0 s)
  exact (foldl_keeps (·.rd a) _ _ (fun l _ u => hleg l u) _).trans (hcg F.PWM_CG_CTL.DRAINING rfl 1 _)

theorem generatorDisable_get {f : Fld} (hf : f.addr g.val 0 0 = F.PWM_CG_CTL.EN.addr g.val 0 0) (s : State) :
    (generatorDisable g.val s).get f g.val = (if (s.cg g.val).running then (s.set F.PWM_CG_CTL.EN 0 g.val).set F.PWM_CG_CTL.DRAINING 1 g.val
      else s.set F.PWM_CG_CTL.EN 0 g.val).get f g.val := by
  have hleg : ∀ (l : Nat) (u : State), (u.set F.PWM_LEG_CFG.DRAINING 1 l).rd (f.addr g.val 0 0) = u.rd (f.addr g.val 0 0) := by
    refine fun l u => set_quiet _ _ _ _ _ _ _ ?_
    rw [hf]
    simp only [Fld.addr, F.PWM_CG_CTL.EN, F.PWM_LEG_CFG.DRAINING]
    omega
  refine State.get_of_rd ?_
  by_cases hrun : (s.cg g.val).running = true
  · rw [generatorDisable, if_pos hrun]
    exact (if_pos (c := (s.cg g.val).running = true) hrun ▸ foldl_keeps (·.rd (f.addr g.val 0 0)) _ _ (fun l _ u => hleg l u) _)
  · rw [generatorDisable, if_neg hrun]
    exact if_neg (c := (s.cg g.val).running = true) hrun ▸ rfl

theorem generatorDisable_shows (s : State) : (generatorDisable g.val s).get F.PWM_CG_CTL.EN g.val = 0 ∧
    ((s.cg g.val).running = true → (generatorDisable g.val s).get F.PWM_CG_CTL.DRAINING g.val = 1) := by
  have hzero := State.get_set_zero s F.PWM_CG_CTL.EN g.val 0 0 (by decide) (by decide)
  refine ⟨?_, fun hrun => ?_⟩
  · rw [generatorDisable_get rfl]
    split
    · rw [State.get_set_apart (by decide), hzero]
    · exact hzero
  · rw [generatorDisable_get (f := F.PWM_CG_CTL.DRAINING) rfl, if_pos hrun, State.get_set_one _ _ _ _ _ (by decide) (by decide)]

end

/-! ### Feedback and its windows (R237 to R239) -/

section
variable {s : State} {k : Fin 64}

theorem execDeadTimeExpiry_of_ready (hpend : (s.sw k.val).pendOn = true) (hopp : showsOff s (oppOf k.val) = true)
    (hdec : decideSw s k.val ≠ .off) :
    let t := tryOn k.val (s.setSw k.val { s.sw k.val with deadRun := false })
    (t.sw k.val).cmd = true ∧ (t.sw k.val).pendOn = false ∧ (t.sw k.val).deadRun = false ∧ t.sw (oppOf k.val) = s.sw (oppOf k.val) := by
  have hopp' : showsOff (s.setSw k.val { s.sw k.val with deadRun := false }) (oppOf k.val) = true := by
    unfold showsOff
    rw [State.sw_setSw_of_ne _ (oppOf_ne _)]
    exact hopp
  have hon := tryOn_of_ready (s := s.setSw k.val { s.sw k.val with deadRun := false }) (k := k.val) (by rw [State.sw_setSw, hpend])
    (by rw [State.sw_setSw]) hopp' hdec
  intro t
  rw [hon, State.sw_setSw]
  exact ⟨rfl, rfl, rfl, (tryOn_sw_of_ne (oppOf_ne _) _).trans (State.sw_setSw_of_ne _ (oppOf_ne _) _)⟩

/-- Feedback shows a switch on, so long after its edge. -/
def gfbNoted (k delay : Nat) (s : State) : State := (s.setB F.GIF_SW_CFG.GFB true k).set F.GIF_SW_CFG.LAST_FB (min delay 255) k

theorem gfbNoted_shows (k delay : Nat) (s : State) :
    (gfbNoted k delay s).get F.GIF_SW_CFG.GFB k = 1 ∧ (gfbNoted k delay s).get F.GIF_SW_CFG.LAST_FB k = min delay 255 := by
  refine ⟨?_, State.get_set_fits (by decide) (by simp only [F.GIF_SW_CFG.LAST_FB]; omega) _ _ _ _⟩
  rw [gfbNoted, State.get_set_apart (f := F.GIF_SW_CFG.LAST_FB) (g := F.GIF_SW_CFG.GFB) (by decide)]
  exact State.get_set_one _ _ _ _ _ (by decide) (by decide)

theorem gfbNoted_rd {a k : Nat} (h : a ≠ F.GIF_SW_CFG.GFB.addr k 0 0) (delay : Nat) (s : State) : (gfbNoted k delay s).rd a = s.rd a :=
  (set_quiet _ F.GIF_SW_CFG.LAST_FB _ _ _ _ _ h).trans (set_quiet _ F.GIF_SW_CFG.GFB _ _ _ _ _ h)

theorem fbUsed_gfbNoted (k : Fin 64) (delay : Nat) (s : State) : fbUsed (gfbNoted k.val delay s) k.val = fbUsed s k.val := by
  have hen : (gfbNoted k.val delay s).get F.GIF_SW_CFG.FB_EN k.val = s.get F.GIF_SW_CFG.FB_EN k.val :=
    (State.get_set_apart (f := F.GIF_SW_CFG.LAST_FB) (by decide) _ _ _ _ _ _ _ _).trans
      (State.get_set_apart (f := F.GIF_SW_CFG.GFB) (by decide) _ _ _ _ _ _ _ _)
  have hroute : (gfbNoted k.val delay s).get F.PWM_LEG_CFG.ROUTE (legOf k.val) = s.get F.PWM_LEG_CFG.ROUTE (legOf k.val) := by
    refine State.get_of_rd (gfbNoted_rd ?_ _ _)
    have hk := k.isLt
    simp only [Fld.addr, F.PWM_LEG_CFG.ROUTE, F.GIF_SW_CFG.GFB, legOf]
    omega
  unfold fbUsed State.getB
  rw [hen, hroute]

theorem execGfbChange_of_window (hfb : fbUsed s k.val = true) (hcmd : (s.sw k.val).cmd = true) (hwin : (s.sw k.val).win = .on) (delay : Nat) :
    execGfbChange k true delay s = .next ((gfbNoted k.val delay s).setSw k.val { s.sw k.val with win := .none, runOn := 0 }) := by
  have hfb' := (fbUsed_gfbNoted k delay s).trans hfb
  have hsw : (gfbNoted k.val delay s).sw k.val = s.sw k.val := rfl
  unfold execGfbChange
  dsimp only
  rw [← gfbNoted, hfb', hsw, hcmd, hwin]
  rfl

/-- A switch whose window has run out while its opposite waited: the opposite's turn-on is withdrawn. -/
def turnOnWithdrawn (k : Nat) (s : State) : State :=
  (s.setSw k { s.sw k with win := .none }).setSw (oppOf k) { s.sw (oppOf k) with pendOn := false }

theorem turnOnWithdrawn_sw (k : Nat) (s : State) : (turnOnWithdrawn k s).sw k = { s.sw k with win := .none } := by
  rw [turnOnWithdrawn, State.sw_setSw_of_ne _ (oppOf_ne k).symm, State.sw_setSw]

theorem execTurnOffFbWinExpiry_of_waiting (hwin : (s.sw k.val).win = .off) (hfb : s.getB F.GIF_SW_CFG.GFB k.val = true)
    (hpend : (s.sw (oppOf k.val)).pendOn = true) (hdec : decideSw s (oppOf k.val) = .follow) :
    execTurnOffFbWinExpiry k s = .next (refusalRun k.val true (refused k.val (turnOnWithdrawn k.val s))) := by
  have hopp : (s.setSw k.val { s.sw k.val with win := .none }).sw (oppOf k.val) = s.sw (oppOf k.val) :=
    State.sw_setSw_of_ne _ (oppOf_ne _) _
  have hgfb : (s.setSw k.val { s.sw k.val with win := .none }).getB F.GIF_SW_CFG.GFB k.val = true := hfb
  unfold execTurnOffFbWinExpiry
  dsimp only
  rw [if_pos (by rw [hwin]; rfl), hopp, decideSw_setSw, hgfb, hpend, hdec, turnOnWithdrawn]
  rfl

theorem execTurnOnFbWinExpiry_of_silent (hwin : (s.sw k.val).win = .on) (hcmd : (s.sw k.val).cmd = true)
    (hfb : s.getB F.GIF_SW_CFG.GFB k.val = false) :
    execTurnOnFbWinExpiry k s = .next (refusalRun k.val false (refused k.val (switchOff k.val s))) := by
  unfold execTurnOnFbWinExpiry
  dsimp only
  rw [hwin, hcmd, hfb]
  rfl

end

/-- Settles O18: a carrier event by its generator, which the legs and channels leave; an edge and the windows by the two switches of a
leg; GEN by what R245 decides for the legs of a line that is low. -/
theorem pwmSwitching : Obligations.PwmSwitching := by
  intro s g m l k top width delay gen y x o leg
  refine ⟨?peak, ?valley, ?disable, ?edge, ?dead, ?feedback, ?offWindow, ?onWindow, ?arm, ?genFall, ?genFault⟩
  case peak =>
    intro hready hrun hrise
    have hexec : exec (.carrierEvent g) s = _ := execCarrierEvent_of_rising hready hrun hrise
    refine ⟨_, hexec, ?_, execCarrierEvent_mask rfl rfl rfl rfl rfl rfl rfl _ _ hexec⟩
    rw [startRequests_cg, State.cg_of_ungated (legCarriers_ungated _ _ _ _), lateNoted_cg, State.cg_setCg]
  case valley =>
    intro hready hrun hen
    have hexec : exec (.carrierEvent g) s = _ := execCarrierEvent_of_start hready hrun hen
    have hcg : (valleyBegun g.val s).cg g.val = valleyCg g.val s := State.cg_setCg _ _ _
    rw [← lateNoted_cg g.val, ← State.cg_of_ungated (legCarriers_ungated g.val false (legsOfCg (valleyBegun g.val s) g.val) _),
      ← State.cg_of_ungated (cnvPeriod_ungated g.val _), ← startRequests_cg g.val] at hcg
    exact ⟨_, hexec, congrArg CgSt.running hcg, congrArg CgSt.rising hcg, congrArg CgSt.per hcg,
      execCarrierEvent_mask rfl rfl rfl rfl rfl rfl rfl _ _ hexec⟩
  case disable =>
    intro hw hready
    have hexec : exec (.generatorDisable m g) s = .next ((generatorDisable g.val s).answer .done) := by
      change execGeneratorDisable m g s = _
      rw [execGeneratorDisable, hw, hready]
      rfl
    have hregs : ((generatorDisable g.val s).answer .done).regs = (generatorDisable g.val s).regs := State.answer_regs _ _
    obtain ⟨hen, hdrain⟩ := generatorDisable_shows (g := g) s
    refine ⟨_, hexec, ?_, fun hrun => ?_, rfl, fun a ha => ?_, execGeneratorDisable_mask rfl rfl _ _ _ hexec⟩
    · rw [State.get_of_regs hregs, hen]
    · rw [State.get_of_regs hregs, hdrain hrun]
    · rw [State.rd_of_regs hregs, generatorDisable_regsOf g.val s a ha]
  case edge =>
    intro hx hy hc hon hpend hoff
    have hexec : exec (.switchEdgeCommand l top width) s = _ := execSwitchEdgeCommand_of_follow (y := y) rfl hx hy hc hpend
    have hyx : y = oppOf x := (oppOf_oppOf y).symm
    have hdead : ((switchOff x s).sw y).deadRun = true := by
      rw [hyx, switchOff_sw_opp hon]
    have hkept := edgeTo_of_dead hdead l.val top width
    refine ⟨_, hexec, ?_, ?_, (hkept y).2.trans hdead, execSwitchEdgeCommand_mask rfl rfl rfl _ _ _ _ hexec⟩
    · rw [(hkept x).1, switchOff_cmd, if_pos rfl]
    · rw [(hkept y).1, switchOff_cmd, if_neg (oppOf_ne y).symm, hoff]
  case dead =>
    intro hpend hopp hdec
    have hexec : exec (.deadTimeExpiry k) s = .next (tryOn k.val (s.setSw k.val { s.sw k.val with deadRun := false })) := rfl
    obtain ⟨hcmd, hissued, hdead, hother⟩ := execDeadTimeExpiry_of_ready hpend hopp hdec
    exact ⟨_, hexec, hcmd, hissued, hdead, hother, execDeadTimeExpiry_mask rfl rfl rfl _ _ hexec⟩
  case feedback =>
    intro hfb hcmd hwin
    have hexec : exec (.gfbChange k true delay) s = _ := execGfbChange_of_window hfb hcmd hwin delay
    obtain ⟨hgfb, hlast⟩ := gfbNoted_shows k.val delay s
    have hregs : ((gfbNoted k.val delay s).setSw k.val { s.sw k.val with win := .none, runOn := 0 }).regs = (gfbNoted k.val delay s).regs := rfl
    refine ⟨_, hexec, ?_, ?_, State.sw_setSw _ _ _, fun a ha => ?_, execGfbChange_mask rfl rfl rfl rfl rfl rfl rfl _ _ _ _ hexec⟩
    · rw [State.get_of_regs hregs, hgfb]
    · rw [State.get_of_regs hregs, hlast]
    · rw [State.rd_of_regs hregs, gfbNoted_rd (by simpa using ha)]
  case offWindow =>
    intro hwin hfb hpend hdec hfew
    have hexec : exec (.turnOffFbWinExpiry k) s = _ := execTurnOffFbWinExpiry_of_waiting hwin hfb hpend hdec
    have hself := turnOnWithdrawn_sw k.val s
    obtain ⟨hk, hothers, hcount⟩ := refusal_counted (s := turnOnWithdrawn k.val s) (off := true) k.isLt (by rw [hself]; exact hfew)
    rw [hself] at hk
    refine ⟨_, hexec, ?_, congrArg SwSt.win hk, congrArg SwSt.runOff hk, hcount,
      execTurnOffFbWinExpiry_mask rfl rfl rfl rfl rfl rfl rfl _ _ hexec⟩
    rw [hothers _ (oppOf_ne _), turnOnWithdrawn, State.sw_setSw]
  case onWindow =>
    intro hwin hcmd hfb hfew
    have hexec : exec (.turnOnFbWinExpiry k) s = _ := execTurnOnFbWinExpiry_of_silent hwin hcmd hfb
    have hself := switchOff_sw_self hcmd
    have hn : (switchOff k.val s).get F.GIF_SW_CFG.REFUSE_N k.val = s.get F.GIF_SW_CFG.REFUSE_N k.val :=
      State.get_of_rd (switchOff_quiet _ _ _ (gated_swCfg k.isLt).quiet)
    obtain ⟨hk, -, hcount⟩ := refusal_counted (s := switchOff k.val s) (off := false) k.isLt (by rw [hself, hn]; exact hfew)
    rw [hself] at hk
    refine ⟨_, hexec, congrArg SwSt.cmd hk, congrArg SwSt.runOn hk, ?_, execTurnOnFbWinExpiry_mask rfl rfl rfl rfl rfl rfl rfl _ _ hexec⟩
    rw [hcount, State.get_of_rd (switchOff_quiet _ _ _ (quiet_legStat k.isLt))]
  case arm =>
    intro hw hready
    refine ⟨_, ?_, rfl⟩
    change execArmSet m l s = _
    rw [execArmSet, hw, hready]
    rfl
  case genFall =>
    intro hready hsel
    have hexec : exec (.genFall gen) s = _ := execGenFall_of_ready hready
    obtain ⟨hseen, ⟨harm, harmed⟩, htop, hbot⟩ := genFall_disarms l.isLt hsel
    exact ⟨_, hexec, hseen, harm, harmed, htop, hbot, execGenFall_mask rfl rfl rfl rfl _ _ hexec⟩
  case genFault =>
    intro hlow hfb
    have hexec : exec (.genLowFeedbackFault k) s = .next (issueFor (.pset (setOfSw s k.val)) 0x0A08 5 s) := by
      change execGenLowFeedbackFault k s = _
      rw [execGenLowFeedbackFault, hlow, hfb]
      rfl
    refine ⟨_, hexec, issueFor_lastFault _ _ _ _, ?_, execGenLowFeedbackFault_mask rfl rfl _ _ hexec⟩
    rw [issueFor_eq]
    rfl

end Sys2Proof.Machine

/-! The converter channels' comparators, the pilot and the proximity contact (08_pwm_gate.md R249, R250; 12_converters.md R360, R365;
13_charging_powerpath.md R372 to R376, R383): what a fast stop leaves, the channels a comparator stops, the loss of the high voltage, the
pilot's period and the proximity sample, and the obligation about them, O28. -/

namespace Sys2Proof.Machine
open Sys2Proof

/-! ### A channel's own words -/

/-- A field of a channel's STAT word. -/
abbrev Fld.InChStat (f : Fld) : Prop := f.base = 0x30100008 ∧ f.s1 = 256

section
variable {f : Fld} (hf : f.InChStat)
include hf

theorem quiet_chStat (c : Nat) : Quiet (f.addr c 0 0) := by
  obtain ⟨hb, hs⟩ := hf
  simp only [Fld.addr, hb, hs]
  omega

theorem raise_chStat {n : Nat} (hn : n < 256) (c : Nat) (s : State) : (raise n s).get f c = s.get f c :=
  State.get_of_rd (raise_quiet _ _ _ hn (quiet_chStat hf c))

theorem chGoto_chStat (h : F.CNV_CH_STAT.STATE.Apart f) (c st : Nat) (s : State) : (chGoto c st s).get f c = s.get f c := by
  unfold chGoto
  split
  · rfl
  · rw [raise_chStat hf (by decide), State.get_set_apart h]

/-- Another channel's STAT word. -/
theorem offChannel_chStat {c k : Nat} (hk : k < 3) (hne : k ≠ c) : OffChannel c (f.addr k 0 0) := by
  obtain ⟨hb, hs⟩ := hf
  refine offChannel_of_other hk hne ?_ ?_ <;> simp only [Fld.addr, hb, hs] <;> omega

end

theorem chGoto_chState {st : Nat} (hst : st < 8) (c : Nat) (s : State) : (chGoto c st s).chState c = st := by
  unfold chGoto
  split
  · assumption
  · exact (raise_chStat (f := F.CNV_CH_STAT.STATE) (by decide) (by decide) c _).trans (State.get_set_fits (by decide) hst _ _ _ _)

/-! ### A fast stop (R365) -/

theorem chQuiet_shedding (c : Nat) (s : State) : (chQuiet c s).get F.CNV_CH_STAT.SHEDDING c = 0 := by
  unfold chQuiet
  dsimp only
  refine Eq.trans (foldl_keeps (·.get F.CNV_CH_STAT.SHEDDING c) _ _ (by intros; rfl) _) ?_
  rw [State.get_set_apart (by decide), State.get_set_apart (f := F.CNV_CH_CFG.DRAINING) (by decide), State.get_set_apart (by decide),
    State.get_set_apart (by decide), State.get_set_zero _ _ _ _ _ (by decide) (by decide)]

theorem fastStop_shows (c : Nat) (s : State) : (fastStop c s).chState c = 0 ∧ (fastStop c s).get F.CNV_CH_STAT.STOP_CAUSE c = 9 ∧
    (fastStop c s).get F.CNV_CH_STAT.SHEDDING c = 0 := by
  refine ⟨?_, ?_, ?_⟩
  · exact (raise_chStat (f := F.CNV_CH_STAT.STATE) (by decide) (by decide) c _).trans (chGoto_chState (by decide) c _)
  · rw [fastStop, raise_chStat (by decide) (by decide), chGoto_chStat (by decide) (by decide),
      State.get_set_fits (by decide) (by decide)]
  · rw [fastStop, raise_chStat (by decide) (by decide), chGoto_chStat (by decide) (by decide), State.get_set_apart (by decide)]
    exact chQuiet_shedding c s

theorem chGoto_cnv (c st : Nat) (s : State) : (chGoto c st s).cnv = s.cnv :=
  cnv_of_mask (K := { regs := true, fab := true }) rfl (chGoto_mask rfl rfl c st s)

theorem raise_cnv (n : Nat) (s : State) : (raise n s).cnv = s.cnv := by rw [raise_eq]

theorem State.chan_of_cnv {s t : State} (h : t.cnv = s.cnv) (c : Nat) : t.chan c = s.chan c := by rw [State.chan, h, State.chan]

theorem fastStop_stopAtValley (c : Nat) (s : State) : ((fastStop c s).chan c).stopAtValley = true := by
  have hcnv := (raise_cnv 168 _).trans (chGoto_cnv c 0 (((chQuiet c s).setChan c { (chQuiet c s).chan c with stopAtValley := true }).set
    F.CNV_CH_STAT.STOP_CAUSE 9 c))
  have hchan := congrArg ChSt.stopAtValley (State.chan_of_cnv hcnv c)
  refine hchan.trans ?_
  exact congrArg ChSt.stopAtValley (State.chan_setChan _ _ _)

theorem fastStop_sys (c : Nat) (s : State) : (fastStop c s).sys = s.sys :=
  sys_of_mask (K := { regs := true, fab := true, pwm := true, cnv := true, act := true }) rfl (fastStop_mask rfl rfl rfl rfl rfl c s)

/-! ### The channels that a REPORT comparator stops (R365) -/

/-- Comparator `ch`, crossed on the side `above`, stops channel `k` fast. -/
def StopsFast (ch : Nat) (above : Bool) (k : Nat) (s : State) : Prop :=
  chUsed s k = true ∧ chActive s k = true ∧ s.get F.CNV_CH_FAST.FAST_CH k = ch ∧ s.getB F.CNV_CH_FAST.FAST_EN k = true ∧
    s.getB F.CNV_CH_FAST.FAST_DIR k ≠ above

/-- No channel has comparator `ch` as its no-load comparator. -/
def NoLoadFree (ch : Nat) (s : State) : Prop := ∀ j < 3, s.get F.CNV_CH_NL.NL_CH j ≠ ch

/-- Channel `k` is off, stopped fast by a comparator. -/
def StoppedFast (k : Nat) (s : State) : Prop := s.chState k = 0 ∧ s.get F.CNV_CH_STAT.STOP_CAUSE k = 9 ∧ s.sys.lastFault = 0x0C08

/-- A comparator's fast stop of channel `c`: the stop, its ash record and its code. -/
def fastStopped (c : Nat) (s : State) : State :=
  issueFor (.cnvCh c) 0x0C08 0 (fastStop c (cnvAsh c 0x0C08 0 (s.set F.CNV_CH_STAT.STOP_CAUSE 9 c)))

/-- What a comparator that is no channel's no-load comparator does to channel `c`. -/
def stopByComparator (ch : Nat) (above : Bool) (s : State) (c : Nat) : State :=
  if !chUsed s c then s
  else if s.get F.CNV_CH_FAST.FAST_CH c == ch && s.getB F.CNV_CH_FAST.FAST_EN c && s.getB F.CNV_CH_FAST.FAST_DIR c != above &&
    chActive s c then fastStopped c s
  else s

section
variable {s : State} {ch k : Nat} {above : Bool}

theorem fastStopped_shows (k : Nat) (s : State) : StoppedFast k (fastStopped k s) := by
  obtain ⟨hstate, hcause, -⟩ := fastStop_shows k (cnvAsh k 0x0C08 0 (s.set F.CNV_CH_STAT.STOP_CAUSE 9 k))
  refine ⟨?_, ?_, issueFor_lastFault _ _ _ _⟩
  · exact (issueFor_get _ _ _ _ _ _ _ _).trans hstate
  · exact (issueFor_get _ _ _ _ _ _ _ _).trans hcause

theorem StopsFast.step (h : StopsFast ch above k s) : stopByComparator ch above s k = fastStopped k s := by
  obtain ⟨hused, hactive, hch, hen, hdir⟩ := h
  unfold stopByComparator
  rw [hused, hactive, hch, hen]
  simp [hdir]

theorem fastStopped_rd {a c : Nat} (h : OffChannel c a) (s : State) : (fastStopped c s).rd a = s.rd a := by
  rw [fastStopped, issueFor_rd, fastStop_rd h, cnvAsh, ashPush_rd h.2.1, setChWord_rd h _ _ _ (by decide)]

theorem stopByComparator_rd {a c : Nat} (h : OffChannel c a) (s : State) : (stopByComparator ch above s c).rd a = s.rd a := by
  unfold stopByComparator
  split
  · rfl
  · exact ite_keeps (p := (·.rd a)) (fastStopped_rd h s)

theorem stopByComparator_phase (c : Nat) (s : State) : (stopByComparator ch above s c).sys.phase = s.sys.phase := by
  unfold stopByComparator
  split
  · rfl
  · refine ite_keeps (p := (·.sys.phase)) ?_
    rw [fastStopped, issueFor_eq]
    dsimp only
    rw [fastStop_sys, cnvAsh_sys]
    rfl

/-- A channel's words of R360 and R365 are not those that a channel's stop writes. -/
theorem offChannel_window {f : Fld} (hf : (f.base = 0x30100024 ∨ f.base = 0x30100028) ∧ f.s1 = 256) {j : Nat} (hj : j < 3) (c : Nat) :
    OffChannel c (f.addr j 0 0) := by
  obtain ⟨hb, hs⟩ := hf
  have haddr : f.addr j 0 0 = f.base + j * 256 := by simp [Fld.addr, hs]
  rw [haddr]
  refine ⟨⟨⟨?_, ?_⟩, ?_⟩, ?_, ?_, ?_⟩ <;> omega

theorem NoLoadFree.step (c : Nat) (h : NoLoadFree ch s) : NoLoadFree ch (stopByComparator ch above s c) := fun j hj => by
  rw [State.get_of_rd (stopByComparator_rd (offChannel_window (by decide) hj c) s)]
  exact h j hj

theorem chUsed_of_rd {t : State} (hpd : t.rd (F.PD_STAT.ON.addr 0 0 0) = s.rd (F.PD_STAT.ON.addr 0 0 0))
    (hcfg : t.rd (F.CNV_CH_CFG.KIND.addr k 0 0) = s.rd (F.CNV_CH_CFG.KIND.addr k 0 0)) : chUsed t k = chUsed s k := by
  rw [chUsed, chUsed, State.pdReady_of_rd (by decide) hpd, State.get_of_rd hcfg]

/-- Stopping another channel leaves a channel that is to be stopped. -/
theorem StopsFast.keep {c : Nat} (hc : c < 3) (hk : k < 3) (hne : k ≠ c) (h : StopsFast ch above k s) :
    StopsFast ch above k (stopByComparator ch above s c) := by
  obtain ⟨hused, hactive, hch, hen, hdir⟩ := h
  have hwin := fun f hf => stopByComparator_rd (ch := ch) (above := above) (offChannel_window (f := f) hf hk c) s
  have hstat := stopByComparator_rd (ch := ch) (above := above) (offChannel_chStat (f := F.CNV_CH_STAT.STATE) (by decide) hk hne) s
  have hpd := stopByComparator_rd (ch := ch) (above := above) (Aloof.offChannel (a := F.PD_STAT.ON.addr 0 0 0) (by decide) hc) s
  have hcfg : (stopByComparator ch above s c).rd (F.CNV_CH_CFG.KIND.addr k 0 0) = s.rd (F.CNV_CH_CFG.KIND.addr k 0 0) := by
    refine stopByComparator_rd (offChannel_of_other hk hne ?_ ?_) s <;> simp only [Fld.addr, F.CNV_CH_CFG.KIND] <;> omega
  refine ⟨(chUsed_of_rd hpd hcfg).trans hused, ?_, ?_, ?_, ?_⟩
  · rw [chActive, State.chState, State.get_of_rd hstat]
    exact hactive
  · rw [State.get_of_rd (hwin F.CNV_CH_FAST.FAST_CH (by decide)), hch]
  · rw [State.getB_of_rd (hwin F.CNV_CH_FAST.FAST_EN (by decide)), hen]
  · rw [State.getB_of_rd (hwin F.CNV_CH_FAST.FAST_DIR (by decide))]
    exact hdir

theorem StoppedFast.keep {c : Nat} (hk : k < 3) (hne : k ≠ c) (h : StoppedFast k s) : StoppedFast k (stopByComparator ch above s c) := by
  obtain ⟨hstate, hcause, hlast⟩ := h
  have hstat := fun f hf => stopByComparator_rd (ch := ch) (above := above) (offChannel_chStat (f := f) hf hk hne) s
  refine ⟨?_, ?_, ?_⟩
  · exact (State.get_of_rd (hstat F.CNV_CH_STAT.STATE (by decide))).trans hstate
  · exact (State.get_of_rd (hstat F.CNV_CH_STAT.STOP_CAUSE (by decide))).trans hcause
  · unfold stopByComparator
    split
    · exact hlast
    · split
      · exact issueFor_lastFault _ _ _ _
      · exact hlast

theorem cnvComparator_of_noLoadFree (h : NoLoadFree ch s) : cnvComparator ch above s = (List.range 3).foldl (stopByComparator ch above) s := by
  refine foldl_congr_of_invariant (P := NoLoadFree ch) (fun c _ s hs => hs.step c) (fun c hc s hs => ?_) h
  have hnl : (s.get F.CNV_CH_NL.NL_CH c == ch) = false := by simpa using hs c (List.mem_range.mp hc)
  rw [stopByComparator, hnl]
  rfl

/-- The comparator stops the channels it is set on. -/
theorem cnvComparator_stops (hk : k < 3) (hfree : NoLoadFree ch s) (h : StopsFast ch above k s) : StoppedFast k (cnvComparator ch above s) := by
  rw [cnvComparator_of_noLoadFree hfree]
  refine foldl_establishes (Q := StopsFast ch above k) (List.mem_range.mpr hk) List.nodup_range ?_ ?_ ?_ h
  · exact fun c hc hne s hs => hs.keep (List.mem_range.mp hc) hk (Ne.symm hne)
  · exact fun s hs => hs.step ▸ fastStopped_shows k s
  · exact fun c _ hne s hs => hs.keep hk (Ne.symm hne)

theorem cnvComparator_aloof {a : Nat} (ha : Aloof a) (h : NoLoadFree ch s) : (cnvComparator ch above s).rd a = s.rd a := by
  rw [cnvComparator_of_noLoadFree h]
  exact foldl_keeps (·.rd a) _ _ (fun c hc s => stopByComparator_rd (ha.offChannel (List.mem_range.mp hc)) s) s

theorem cnvComparator_mode (h : NoLoadFree ch s) : (cnvComparator ch above s).mode = s.mode := by
  refine State.mode_congr ?_ (State.get_of_rd (cnvComparator_aloof (by decide) h))
  rw [cnvComparator_of_noLoadFree h]
  exact foldl_keeps (·.sys.phase) _ _ (fun c _ s => stopByComparator_phase c s) s

theorem cnvComparator_chg (ch : Nat) (above : Bool) (s : State) : (cnvComparator ch above s).chg = s.chg :=
  chg_of_mask (K := { regs := true, sys := true, fab := true, pwm := true, cnv := true, kln := true, act := true }) rfl
    (cnvComparator_mask rfl rfl rfl rfl rfl rfl rfl ch above s)

/-- With the converter block unpowered no channel is in use. -/
theorem cnvComparator_of_unready (h : s.pdReady 5 = false) : cnvComparator ch above s = s := by
  refine foldl_invariant (P := (· = s)) (fun c _ t ht => ?_) rfl
  subst ht
  dsimp only
  rw [chUsed, h]
  rfl

end

/-! ### The high voltage is lost (R383) -/

/-- The session that loses its high voltage ends as R383 says. -/
def sessionLost (s : State) : State :=
  raise 172 (((s.set F.CHG_SESS.HV_LOST 1).set F.CHG_SESS.STATE 6).setChg
    { s.chg with ends := s.chg.ends ++ [7], hvHold := !(s.get F.CHG_SESS.STATE == 5), cmd := false })

section
variable {before s : State} {k : Nat}

theorem hvLost_of_active (h : chActive s 1 = chActive before 1) : hvLost before s = s := by
  refine if_neg ?_
  rw [h]
  simp

theorem hvLost_cases (before s : State) : hvLost before s = s ∨ hvLost before s = sessionLost s ∨ hvLost before s = chDisable 0 (sessionLost s) := by
  unfold hvLost
  split
  · dsimp only
    split
    · exact .inr (.inr rfl)
    · exact .inr (.inl rfl)
  · exact .inl rfl

theorem hvLost_of_session (hwas : chActive before 1 = true) (hstop : StoppedFast 1 s) (hmode : s.mode = 4) (hsess : sessActive s = true) :
    hvLost before s = sessionLost s ∨ hvLost before s = chDisable 0 (sessionLost s) := by
  obtain ⟨hstate, hcause, -⟩ := hstop
  have hoff : chActive s 1 = false := by
    rw [chActive, hstate]
    rfl
  have hcond : (chActive before 1 && !chActive s 1 && s.get F.CNV_CH_STAT.STOP_CAUSE 1 == 9 && s.mode == 4 && sessActive s) = true := by
    rw [hwas, hoff, hcause, hmode, hsess]
    rfl
  unfold hvLost
  rw [if_pos hcond]
  dsimp only
  split
  · exact .inr rfl
  · exact .inl rfl

/-- The registers of a lost session: its STATE word, and what an event reaches. -/
theorem sessionLost_set {a : Nat} (hq : Quiet a) (s : State) :
    (sessionLost s).rd a = ((s.set F.CHG_SESS.HV_LOST 1).set F.CHG_SESS.STATE 6).rd a := by
  rw [sessionLost, raise_quiet _ _ _ (by decide) hq]
  exact State.rd_of_regs (State.setChg_regs _ _) a

theorem sessionLost_rd {a : Nat} (hq : Quiet a) (hne : a ≠ 0x30110010) (s : State) : (sessionLost s).rd a = s.rd a := by
  have haddr : F.CHG_SESS.STATE.addr 0 0 0 = 0x30110010 ∧ F.CHG_SESS.HV_LOST.addr 0 0 0 = 0x30110010 := by decide
  rw [sessionLost_set hq, set_quiet _ _ _ _ _ _ _ (haddr.1 ▸ hne), set_quiet _ _ _ _ _ _ _ (haddr.2 ▸ hne)]

theorem raise_chg (n : Nat) (s : State) : (raise n s).chg = s.chg := by rw [raise_eq]

theorem sessionLost_chg (s : State) : (sessionLost s).chg =
    { s.chg with ends := s.chg.ends ++ [7], hvHold := !(s.get F.CHG_SESS.STATE == 5), cmd := false } := raise_chg _ _

theorem sessionLost_shows (s : State) : (sessionLost s).get F.CHG_SESS.HV_LOST = 1 ∧ (sessionLost s).get F.CHG_SESS.STATE = 6 := by
  refine ⟨?_, ?_⟩
  · rw [State.get_of_rd (sessionLost_set (by decide) s), State.get_set_apart (by decide)]
    exact State.get_set_one _ _ _ _ _ (by decide) (by decide)
  · rw [State.get_of_rd (sessionLost_set (by decide) s)]
    exact State.get_set_fits (by decide) (by decide) _ _ _ _

theorem chDisable_of_off (h : s.chState k = 0) : chDisable k s = (s.set F.CNV_CH_CFG.EN 0 k).set F.CNV_CH_STAT.RETRIES 0 k := by
  have haddr : F.CNV_CH_STAT.STATE.addr k 0 0 ≠ F.CNV_CH_CFG.EN.addr k 0 0 := by
    simp only [Fld.addr, F.CNV_CH_STAT.STATE, F.CNV_CH_CFG.EN]
    omega
  have hstate : ((s.set F.CNV_CH_CFG.EN 0 k).set F.CNV_CH_STAT.RETRIES 0 k).chState k = 0 := by
    rw [State.chState, State.get_set_apart (by decide), State.get_set_addr _ _ _ _ _ _ _ _ _ _ haddr]
    exact h
  unfold chDisable
  dsimp only
  rw [hstate]
  rfl

/-- Channel 0's soft stop leaves the STATE and the cause of a channel that is off. -/
theorem chDisable_chStat {f : Fld} (hf : f.InChStat) (hapart : F.CNV_CH_STAT.RETRIES.Apart f) (hk : k < 3) (hoff : s.chState k = 0) :
    (chDisable 0 s).get f k = s.get f k := by
  rcases eq_or_ne k 0 with rfl | hne
  · have haddr : f.addr 0 0 0 ≠ F.CNV_CH_CFG.EN.addr 0 0 0 := by
      obtain ⟨hb, hs⟩ := hf
      simp [Fld.addr, hb, F.CNV_CH_CFG.EN]
    rw [chDisable_of_off hoff, State.get_set_apart hapart, State.get_set_addr _ _ _ _ _ _ _ _ _ _ haddr]
  · exact State.get_of_rd (chDisable_rd (offChannel_chStat hf hk hne) s)

/-- What a stopped channel shows stays when the session's loss is noted. -/
theorem StoppedFast.hvLost (hk : k < 3) (h : StoppedFast k s) (before : State) : StoppedFast k (hvLost before s) := by
  have hlost : StoppedFast k (sessionLost s) := by
    obtain ⟨hstate, hcause, hlast⟩ := h
    have hkeep : ∀ f : Fld, f.InChStat → (sessionLost s).get f k = s.get f k := fun f hf =>
      State.get_of_rd (sessionLost_rd (quiet_chStat hf k) (by
        obtain ⟨hb, hs⟩ := hf
        simp only [Fld.addr, hb, hs]
        omega) s)
    refine ⟨(hkeep F.CNV_CH_STAT.STATE (by decide)).trans hstate, (hkeep F.CNV_CH_STAT.STOP_CAUSE (by decide)).trans hcause, ?_⟩
    exact (congrArg SysSt.lastFault (raise_sys _ _)).trans hlast
  rcases hvLost_cases before s with he | he | he <;> rw [he]
  · exact h
  · exact hlost
  · obtain ⟨hstate, hcause, hlast⟩ := hlost
    refine ⟨(chDisable_chStat (f := F.CNV_CH_STAT.STATE) (by decide) (by decide) hk hstate).trans hstate,
      (chDisable_chStat (by decide) (by decide) hk hstate).trans hcause, ?_⟩
    rw [chDisable_sys]
    exact hlast

theorem chDisable_chg (c : Nat) (s : State) : (chDisable c s).chg = s.chg :=
  chg_of_mask (K := { regs := true, fab := true, pwm := true, cnv := true, act := true }) rfl (chDisable_mask rfl rfl rfl rfl rfl c s)

/-- Channel 1's fast stop ends the session in CHARGE. -/
theorem hvLost_shows (hwas : chActive before 1 = true) (hstop : StoppedFast 1 s) (hmode : s.mode = 4) (hsess : sessActive s = true) :
    (hvLost before s).get F.CHG_SESS.HV_LOST = 1 ∧ (hvLost before s).get F.CHG_SESS.STATE = 6 ∧
    (hvLost before s).chg.ends = s.chg.ends ++ [7] ∧ (hvLost before s).chg.cmd = false := by
  obtain ⟨hlost, hstate⟩ := sessionLost_shows s
  have hends := congrArg ChgSt.ends (sessionLost_chg s)
  have hcmd := congrArg ChgSt.cmd (sessionLost_chg s)
  rcases hvLost_of_session hwas hstop hmode hsess with he | he <;> rw [he]
  · exact ⟨hlost, hstate, hends, hcmd⟩
  · have hkeep : ∀ f : Fld, Aloof (f.addr 0 0 0) → (chDisable 0 (sessionLost s)).get f = (sessionLost s).get f :=
      fun f ha => State.get_of_rd (chDisable_aloof ha 0 (by decide) _)
    rw [hkeep _ (by decide), hkeep _ (by decide), chDisable_chg]
    exact ⟨hlost, hstate, hends, hcmd⟩

end

/-! ### A comparator crosses a threshold (R249, R250) -/

/-- A comparator's trip bit is set and its event raised. -/
def compReported (c : Nat) (above : Bool) (s : State) : State :=
  raise 103 (s.set (if above then F.GIF_COMP_CFG.TRIP_HI else F.GIF_COMP_CFG.TRIP_LO) 1 c)

section
variable {s : State} {c : Fin 48} {above : Bool}

theorem compAct_of_report (h : 2 ≤ s.get F.GIF_COMP_CFG.ACTION c.val) :
    compAct c.val above s = cnvComparator c.val above (compReported c.val above s) := by
  have haction : (s.set (if above then F.GIF_COMP_CFG.TRIP_HI else F.GIF_COMP_CFG.TRIP_LO) 1 c.val).get F.GIF_COMP_CFG.ACTION c.val =
      s.get F.GIF_COMP_CFG.ACTION c.val := by
    cases above <;> exact State.get_set_apart (by decide) _ _ _ _ _ _ _ _
  unfold compAct
  dsimp only
  split
  · next h0 => omega
  · next h1 => omega
  · rfl

theorem compReported_rd {a : Nat} (h : Quiet a) (hg : ¬Gated a) (s : State) : (compReported c.val above s).rd a = s.rd a := by
  refine (raise_quiet _ _ _ (by decide) h).trans (set_quiet _ _ _ _ _ _ _ ?_)
  have hc := c.isLt
  cases above <;> simp only [Fld.addr, Bool.false_eq_true, if_false, if_true, F.GIF_COMP_CFG.TRIP_HI, F.GIF_COMP_CFG.TRIP_LO] <;> omega

/-- The comparator has last crossed a threshold, on the side `above`. -/
def crossed (c : Nat) (above : Bool) (s : State) : State := s.setCompar c { s.compar c with out := if above then 1 else 2 }

theorem execComparatorTrip_of_enabled (hready : s.pdReady 7 = true) (hen : s.getB F.GIF_COMP_CFG.EN c.val = true) :
    execComparatorTrip c above s = .next (if (s.compar c.val).blank then crossed c.val above s
      else hvLost (crossed c.val above s) (compAct c.val above (crossed c.val above s))) := by
  unfold execComparatorTrip
  dsimp only
  rw [hready, hen]
  rfl

/-- While the converter block is unpowered, a REPORT comparator only shows its trip. -/
theorem reported_of_unready (haction : 2 ≤ s.get F.GIF_COMP_CFG.ACTION c.val) (hpd : s.pdReady 5 = false) :
    hvLost s (compAct c.val above s) = compReported c.val above s := by
  have hkeep := fun a h hg => compReported_rd (c := c) (above := above) (a := a) h hg s
  have hpd' : (compReported c.val above s).pdReady 5 = false :=
    (State.pdReady_of_rd (by decide) (hkeep _ (by decide) (by decide))).trans hpd
  rw [compAct_of_report haction, cnvComparator_of_unready hpd', hvLost_of_active]
  rw [chActive, chActive, State.chState, State.chState, State.get_of_rd (hkeep _ (by decide) (by decide))]

theorem sessActive_of_rd {t : State} (h : t.rd (F.CHG_SESS.STATE.addr 0 0 0) = s.rd (F.CHG_SESS.STATE.addr 0 0 0)) :
    sessActive t = sessActive s := by
  rw [sessActive, sessActive, State.get_of_rd h]

/-- A REPORT comparator on a channel's FAST_CH stops it; channel 1 takes a session in CHARGE with it. -/
theorem reported_stops {k : Nat} (hk : k < 3) (haction : 2 ≤ s.get F.GIF_COMP_CFG.ACTION c.val) (hstop : StopsFast c.val above k s)
    (hfree : NoLoadFree c.val s) : StoppedFast k (hvLost s (compAct c.val above s)) ∧
    (k = 1 → s.mode = 4 → sessActive s = true →
      (hvLost s (compAct c.val above s)).get F.CHG_SESS.HV_LOST = 1 ∧ (hvLost s (compAct c.val above s)).get F.CHG_SESS.STATE = 6 ∧
      (hvLost s (compAct c.val above s)).chg.ends = s.chg.ends ++ [7] ∧ (hvLost s (compAct c.val above s)).chg.cmd = false) := by
  have hkeep := fun a h hg => compReported_rd (c := c) (above := above) (a := a) h hg s
  have hch : ∀ f : Fld, (f.base = 0x30100000 ∨ f.base = 0x30100008 ∨ f.base = 0x30100024 ∨ f.base = 0x30100028) ∧ f.s1 = 256 → ∀ j,
      (compReported c.val above s).rd (f.addr j 0 0) = s.rd (f.addr j 0 0) := by
    rintro f ⟨hb, hs⟩ j
    have haddr : f.addr j 0 0 = f.base + j * 256 := by simp [Fld.addr, hs]
    rw [haddr]
    exact hkeep _ (by omega) (by omega)
  have hfree' : NoLoadFree c.val (compReported c.val above s) := fun j hj => by
    rw [State.get_of_rd (hch F.CNV_CH_NL.NL_CH (by decide) j)]
    exact hfree j hj
  have hstop' : StopsFast c.val above k (compReported c.val above s) := by
    obtain ⟨hused, hactive, hfast, hen, hdir⟩ := hstop
    refine ⟨(chUsed_of_rd (hkeep _ (by decide) (by decide)) (hch _ (by decide) k)).trans hused, ?_, ?_, ?_, ?_⟩
    · rw [chActive, State.chState, State.get_of_rd (hch F.CNV_CH_STAT.STATE (by decide) k)]
      exact hactive
    · rw [State.get_of_rd (hch F.CNV_CH_FAST.FAST_CH (by decide) k), hfast]
    · rw [State.getB_of_rd (hch F.CNV_CH_FAST.FAST_EN (by decide) k), hen]
    · rw [State.getB_of_rd (hch F.CNV_CH_FAST.FAST_DIR (by decide) k)]
      exact hdir
  have hstopped := cnvComparator_stops hk hfree' hstop'
  rw [compAct_of_report haction]
  refine ⟨hstopped.hvLost hk s, ?_⟩
  rintro rfl hmode hsess
  have hmode' : (compReported c.val above s).mode = s.mode := by
    refine State.mode_congr (congrArg SysSt.phase (raise_sys _ _)) (State.get_of_rd (hkeep _ (by decide) (by decide)))
  have hsess' : sessActive (cnvComparator c.val above (compReported c.val above s)) = true :=
    (sessActive_of_rd (cnvComparator_aloof (by decide) hfree')).trans ((sessActive_of_rd (hkeep _ (by decide) (by decide))).trans hsess)
  have hchg : (cnvComparator c.val above (compReported c.val above s)).chg = s.chg := (cnvComparator_chg _ _ _).trans (raise_chg _ _)
  have hlost := hvLost_shows hstop.2.1 hstopped ((cnvComparator_mode hfree').trans (hmode'.trans hmode)) hsess'
  rw [hchg] at hlost
  exact hlost

/-- The blanking of a comparator is over. -/
def unblanked (c : Nat) (s : State) : State := s.setCompar c { s.compar c with blank := false }

theorem execBlankingEnd_of_blanked (hblank : (s.compar c.val).blank = true) :
    execBlankingEnd c s = .next (if (s.compar c.val).out = 0 || !s.pdReady 7 || !s.getB F.GIF_COMP_CFG.EN c.val then unblanked c.val s
      else hvLost (unblanked c.val s) (compAct c.val ((s.compar c.val).out == 1) (unblanked c.val s))) := by
  unfold execBlankingEnd
  dsimp only
  rw [hblank]
  rfl

end

/-! ### A comparator is released (R360, R361) -/

section
variable (s : State) (c k : Nat)

theorem State.compar_of_pwm {s t : State} (h : t.pwm = s.pwm) (c : Nat) : t.compar c = s.compar c := by rw [State.compar, h, State.compar]

/-- An edge blanks a comparator, and leaves what it last crossed. -/
theorem edgeIssued_out (l : Nat) : ((edgeIssued l s).compar c).out = (s.compar c).out := by
  refine foldl_keeps (fun t => (t.compar c).out) _ _ (fun j _ t => ite_keeps (p := fun t => (t.compar c).out) ?_) s
  rcases eq_or_ne c j with rfl | hne
  · rw [State.compar_setCompar]
  · rw [State.compar_setCompar_of_ne _ hne]

theorem commanded_out (l : Nat) : ((legCommand l (edgeIssued l s)).compar c).out = (s.compar c).out := by
  rw [State.compar_of_pwm (legCommand_pwm _ _), edgeIssued_out]

theorem enforceOff_out : ((enforceOff k s).compar c).out = (s.compar c).out := by
  refine ite_keeps (p := fun t => (t.compar c).out) ?_
  by_cases hon : (s.sw k).cmd = true
  · rw [switchOff_of_on hon, commanded_out]
    rfl
  · unfold switchOff
    dsimp only
    rw [if_neg hon]
    exact ite_keeps (p := fun t => (t.compar c).out) rfl

theorem enforceOn_out : ((enforceOn k s).compar c).out = (s.compar c).out := by
  refine ite_keeps (p := fun t => (t.compar c).out) ?_
  unfold tryOn
  dsimp only
  split
  · rw [commanded_out]
    rfl
  · rfl

theorem enforceLeg_out (l : Nat) : ((enforceLeg l s).compar c).out = (s.compar c).out := by
  rw [State.compar_of_pwm (enforceLeg_pwm l s), enforceOn_out, enforceOn_out, enforceOff_out, enforceOff_out]

/-- A firing's end writes NL_UNDER, and besides it only what switching reaches. -/
theorem nlEnd_rd {a : Nat} (hq : Quiet a) : (nlEnd c s).rd a = (s.set F.CNV_CH_STAT.NL_UNDER 0 c).rd a := by
  refine foldl_keeps (·.rd a) _ _ (fun l _ t => ?_) _
  dsimp only
  refine ite_keeps (p := (·.rd a)) ((enforceLeg_quiet _ _ _ hq).trans ?_)
  exact State.rd_of_regs (State.setLeg_regs _ _ _) a

theorem nlEnd_out : ((nlEnd k s).compar c).out = (s.compar c).out := by
  refine foldl_keeps (fun t => (t.compar c).out) _ _ (fun l _ t => ?_) _
  dsimp only
  exact ite_keeps (p := fun t => (t.compar c).out) (enforceLeg_out _ c l)

theorem nlEnd_cnv : (nlEnd c s).cnv = s.cnv := by
  refine foldl_keeps (·.cnv) _ _ (fun l _ t => ?_) _
  dsimp only
  refine ite_keeps (p := (·.cnv)) ?_
  exact cnv_of_mask (K := { regs := true, pwm := true, act := true }) rfl (enforceLeg_mask rfl rfl rfl l _)

end

/-- A leg that the no-load overshoot holds off is marked, to be freed by its next carrier event (R360). -/
def overReleased (s : State) (l : Nat) : State := if (s.leg l).nlOver = 1 then s.setLeg l { s.leg l with nlOver := 2 } else s

/-- What a release does to a channel whose no-load comparator it is. -/
def releaseChannel (c : Nat) (s : State) : State :=
  let s := if s.getB F.CNV_CH_STAT.NL_UNDER c then nlEnd c s else s
  let s := s.setChan c { s.chan c with nlReleased := true }
  (chLegs s c).foldl overReleased (s.set F.CNV_CH_STAT.NL_OVER 0 c)

/-- A release of comparator `ch` reaches channel `c` where the channel is in use and names it. -/
def releaseFor (ch : Nat) (s : State) (c : Nat) : State :=
  if chUsed s c && s.get F.CNV_CH_NL.NL_CH c == ch then releaseChannel c s else s

/-- Channel `k` has `ch` as its no-load comparator. -/
def HasNoLoad (ch k : Nat) (s : State) : Prop := chUsed s k = true ∧ s.get F.CNV_CH_NL.NL_CH k = ch

/-- Neither no-load action of channel `k` is on, and the comparator is known to be released. -/
def NoLoadEnded (k : Nat) (s : State) : Prop :=
  s.get F.CNV_CH_STAT.NL_OVER k = 0 ∧ s.get F.CNV_CH_STAT.NL_UNDER k = 0 ∧ (s.chan k).nlReleased = true

section
variable {s : State} {ch c k : Nat}

theorem cnvRelease_eq (ch : Nat) (s : State) : cnvRelease ch s = (List.range 3).foldl (releaseFor ch) s := rfl

theorem overReleased_regs (l : Nat) (s : State) : (overReleased s l).regs = s.regs := ite_keeps (p := (·.regs)) rfl

theorem overReleased_cnv (l : Nat) (s : State) : (overReleased s l).cnv = s.cnv := ite_keeps (p := (·.cnv)) rfl

theorem overReleased_out (j l : Nat) (s : State) : ((overReleased s l).compar j).out = (s.compar j).out :=
  ite_keeps (p := fun t => (t.compar j).out) rfl

theorem releaseChannel_ended (k : Nat) (s : State) : NoLoadEnded k (releaseChannel k s) := by
  unfold releaseChannel
  dsimp only
  generalize hu : (if s.getB F.CNV_CH_STAT.NL_UNDER k then nlEnd k s else s) = u
  have hunder : u.get F.CNV_CH_STAT.NL_UNDER k = 0 := by
    subst hu
    split
    · rw [State.get_of_rd (nlEnd_rd s k (quiet_chStat (by decide) k)), State.get_set_zero _ _ _ _ _ (by decide) (by decide)]
    · next h => exact State.get_of_getB_false (by simpa using h)
  have hregs := foldl_keeps (·.regs) overReleased (chLegs (u.setChan k { u.chan k with nlReleased := true }) k)
    (fun l _ t => overReleased_regs l t) ((u.setChan k { u.chan k with nlReleased := true }).set F.CNV_CH_STAT.NL_OVER 0 k)
  have hcnv := foldl_keeps (·.cnv) overReleased (chLegs (u.setChan k { u.chan k with nlReleased := true }) k)
    (fun l _ t => overReleased_cnv l t) ((u.setChan k { u.chan k with nlReleased := true }).set F.CNV_CH_STAT.NL_OVER 0 k)
  refine ⟨?_, ?_, ?_⟩
  · rw [State.get_of_regs hregs, State.get_set_zero _ _ _ _ _ (by decide) (by decide)]
  · rw [State.get_of_regs hregs, State.get_set_apart (by decide), State.get_of_regs (State.setChan_regs _ _ _), hunder]
  · rw [State.chan_of_cnv hcnv]
    exact congrArg ChSt.nlReleased (State.chan_setChan u k _)

theorem releaseChannel_rd {a : Nat} (h : OffChannel c a) (s : State) : (releaseChannel c s).rd a = s.rd a := by
  refine (foldl_keeps (·.rd a) _ _ (fun l _ t => State.rd_of_regs (overReleased_regs l t) a) _).trans ?_
  refine (setChWord_rd h _ F.CNV_CH_STAT.NL_OVER 0 (by decide)).trans ((State.rd_of_regs (State.setChan_regs _ _ _) a).trans ?_)
  refine ite_keeps (p := (·.rd a)) ((nlEnd_rd s c h.1.1).trans ?_)
  exact setChWord_rd h s F.CNV_CH_STAT.NL_UNDER 0 (by decide)

theorem releaseFor_rd {a : Nat} (h : OffChannel c a) (s : State) : (releaseFor ch s c).rd a = s.rd a :=
  ite_keeps (p := (·.rd a)) (releaseChannel_rd h s)

theorem releaseChannel_chan (hne : k ≠ c) (s : State) : (releaseChannel c s).chan k = s.chan k := by
  refine (foldl_keeps (·.chan k) _ _ (fun l _ t => State.chan_of_cnv (overReleased_cnv l t) k) _).trans ?_
  refine (State.chan_setChan_of_ne _ hne _).trans (ite_keeps (p := (·.chan k)) ?_)
  exact State.chan_of_cnv (nlEnd_cnv s c) k

theorem releaseChannel_out (j c : Nat) (s : State) : ((releaseChannel c s).compar j).out = (s.compar j).out := by
  refine (foldl_keeps (fun t => (t.compar j).out) _ _ (fun l _ t => overReleased_out j l t) _).trans ?_
  exact ite_keeps (p := fun t => (t.compar j).out) (nlEnd_out s j c)

theorem cnvRelease_out (ch j : Nat) (s : State) : ((cnvRelease ch s).compar j).out = (s.compar j).out := by
  rw [cnvRelease_eq]
  exact foldl_keeps (fun t => (t.compar j).out) _ _
    (fun c _ t => ite_keeps (p := fun t => (t.compar j).out) (releaseChannel_out j c t)) s

/-- A release ends the no-load actions of the channels it belongs to. -/
theorem cnvRelease_ends (hk : k < 3) (h : HasNoLoad ch k s) : NoLoadEnded k (cnvRelease ch s) := by
  have hkind : ∀ c, k ≠ c → OffChannel c (F.CNV_CH_CFG.KIND.addr k 0 0) := fun c hne => by
    refine offChannel_of_other hk hne ?_ ?_ <;> simp only [Fld.addr, F.CNV_CH_CFG.KIND] <;> omega
  rw [cnvRelease_eq]
  refine foldl_establishes (Q := HasNoLoad ch k) (List.mem_range.mpr hk) List.nodup_range ?others ?own ?keep h
  case others =>
    intro c hc hne t ht
    obtain ⟨hused, hnl⟩ := ht
    have hpd := releaseFor_rd (ch := ch) (Aloof.offChannel (a := F.PD_STAT.ON.addr 0 0 0) (by decide) (List.mem_range.mp hc)) t
    refine ⟨(chUsed_of_rd hpd (releaseFor_rd (hkind c (Ne.symm hne)) t)).trans hused, ?_⟩
    rw [State.get_of_rd (releaseFor_rd (offChannel_window (f := F.CNV_CH_NL.NL_CH) (by decide) hk c) t), hnl]
  case own =>
    rintro t ⟨hused, hnl⟩
    rw [releaseFor, hused, hnl, if_pos (by simp)]
    exact releaseChannel_ended k t
  case keep =>
    intro c _ hne t ht
    unfold releaseFor
    split
    · obtain ⟨hover, hunder, hreleased⟩ := ht
      have hrd := fun f hf => releaseChannel_rd (offChannel_chStat (f := f) hf hk (Ne.symm hne)) t
      refine ⟨(State.get_of_rd (hrd F.CNV_CH_STAT.NL_OVER (by decide))).trans hover,
        (State.get_of_rd (hrd F.CNV_CH_STAT.NL_UNDER (by decide))).trans hunder, ?_⟩
      rw [releaseChannel_chan (Ne.symm hne), hreleased]
    · exact ht

/-- The comparator is back inside its window. -/
def uncrossed (c : Nat) (s : State) : State := s.setCompar c { s.compar c with out := 0 }

theorem execComparatorRelease_of_enabled {c : Fin 48} (hready : s.pdReady 7 = true) (hen : s.getB F.GIF_COMP_CFG.EN c.val = true) :
    execComparatorRelease c s = .next (if 2 ≤ s.get F.GIF_COMP_CFG.ACTION c.val then cnvRelease c.val (uncrossed c.val s)
      else uncrossed c.val s) := by
  unfold execComparatorRelease
  dsimp only
  rw [hready, hen]
  rfl

end

/-! ### The pilot's period (R372 to R374) -/

theorem pilotClass_lt (x : PilotIn) : pilotClass x < 8 := by
  unfold pilotClass
  dsimp only
  repeat' split
  all_goals decide

theorem unsigned_lt (n : Nat) (v : Int) : unsigned n v < 2 ^ n := by
  have hpos : (0 : Int) < 2 ^ n := by positivity
  have hlt := Int.emod_lt_of_pos v hpos
  have hnn := Int.emod_nonneg v hpos.ne'
  unfold unsigned
  zify
  rwa [Int.toNat_of_nonneg hnn]

theorem State.get_setI_self {f : Fld} (hf : f.hi < 32 ∧ f.lo ≤ f.hi) (s : State) (v : Int) (i j k : Nat) :
    (s.setI f v i j k).get f i j k = unsigned (f.hi + 1 - f.lo) v := State.get_set_fits hf (unsigned_lt _ v) s i j k

/-- I_PILOT of a period. -/
def pilotAmps (x : PilotIn) (s : State) : Nat := if x.pwm then min (pilotCurrent s.chg.digital x.duty) 1023 else 0

/-- The registers of a period: the levels, the duty, its two flags and I_PILOT. -/
def pilotShown (x : PilotIn) (s : State) : State :=
  let u := (s.setI F.CHG_PILOT_LVL.HIGH x.high).setI F.CHG_PILOT_LVL.LOW x.low
  let u := (u.setB F.CHG_PILOT.PWM x.pwm).set F.CHG_PILOT.DUTY (if x.pwm then min x.duty 1000 else 0)
  let u := u.setB F.CHG_PILOT.FREQ_BAD (x.pwm && !(decide (980 ≤ x.freq) && decide (x.freq ≤ 1020)))
  (u.setB F.CHG_PILOT.DIGITAL (x.pwm && decide (30 ≤ x.duty) && decide (x.duty < 70))).set F.CHG_PILOT.I_PILOT (pilotAmps x s)

/-- The periods in a row of one duty. -/
def pilotRun (x : PilotIn) (c : ChgSt) : Nat := if c.iSeen = (if x.pwm then x.duty + 1 else 0) then min (c.iRun + 1) 1000 else 1

/-- The periods in a row of one class. -/
def pilotAgree (x : PilotIn) (c : ChgSt) : Nat := if c.cand = pilotClass x then min (c.candN + 1) 31 else 1

/-- What the pilot unit keeps of a period: the current in use falls at once, and rises after 1000 periods of one duty. -/
def pilotKept (x : PilotIn) (s : State) : ChgSt :=
  let i := pilotAmps x s
  { s.chg with iSeen := if x.pwm then x.duty + 1 else 0, iRun := pilotRun x s.chg,
               iUse := if i ≤ s.chg.iUse then i else if pilotRun x s.chg ≥ 1000 then i else s.chg.iUse,
               cand := pilotClass x, candN := pilotAgree x s.chg }

/-- What a change of STATE leaves of the charging unit: all but the changes counted and the ends that wait (R373, R380). -/
def ChgSt.steady (c : ChgSt) : ChgSt := { c with bcAt := [], ends := [] }

/-- The state of a period before STATE is decided. -/
def pilotNoted (x : PilotIn) (s : State) : State := (pilotShown x s).setChg (pilotKept x s)

section
variable {s : State} {x : PilotIn}

theorem pilotPeriod_of_ready (hready : s.pdReady 8 = true) (hmode : s.mode ≠ 0) : pilotPeriod x s =
    if pilotAgree x s.chg ≥ max 1 ((pilotNoted x s).get F.CHG_PILOT.PILOT_N) && (pilotNoted x s).get F.CHG_PILOT.STATE != pilotClass x then
      pilotChange (pilotClass x) (pilotNoted x s)
    else pilotNoted x s := by
  have hoff : (!s.pdReady 8 || s.mode == 0) = false := by simp [hready, hmode]
  unfold pilotPeriod
  dsimp only
  rw [hoff]
  rfl

theorem pilotNoted_get (f : Fld) : (pilotNoted x s).get f = (pilotShown x s).get f := State.get_of_regs (State.setChg_regs _ _) f 0 0 0

/-- The two levels share their register with no other field. -/
theorem pilotShown_lvl (f : Fld) (hf : f.addr 0 0 0 = 0x30110004) (x : PilotIn) (s : State) :
    (pilotShown x s).get f = ((s.setI F.CHG_PILOT_LVL.HIGH x.high).setI F.CHG_PILOT_LVL.LOW x.low).get f := by
  have hne : ∀ g : Fld, g.addr 0 0 0 = 0x30110000 → f.addr 0 0 0 ≠ g.addr 0 0 0 := fun g hg => by
    rw [hf, hg]
    decide
  unfold pilotShown State.setB
  dsimp only
  iterate 5 rw [State.get_set_addr _ _ f _ _ _ _ _ _ _ (hne _ (by decide))]

theorem pilotShown_levels (x : PilotIn) (s : State) : (pilotShown x s).get F.CHG_PILOT_LVL.HIGH = unsigned 16 x.high ∧
    (pilotShown x s).get F.CHG_PILOT_LVL.LOW = unsigned 16 x.low := by
  rw [pilotShown_lvl F.CHG_PILOT_LVL.HIGH (by decide), pilotShown_lvl F.CHG_PILOT_LVL.LOW (by decide)]
  refine ⟨?_, State.get_setI_self (by decide) _ _ _ _ _⟩
  rw [State.setI, State.get_set_apart (by decide)]
  exact State.get_setI_self (by decide) _ _ _ _ _

theorem pilotAmps_lt (x : PilotIn) (s : State) : pilotAmps x s < 1024 := by
  unfold pilotAmps
  split <;> omega

theorem pilotShown_duty (x : PilotIn) (s : State) : (pilotShown x s).get F.CHG_PILOT.PWM = x.pwm.toNat ∧
    (pilotShown x s).get F.CHG_PILOT.DUTY = (if x.pwm then min x.duty 1000 else 0) ∧
    (pilotShown x s).get F.CHG_PILOT.I_PILOT = pilotAmps x s := by
  have hduty : (if x.pwm then min x.duty 1000 else 0) < 1024 := by split <;> omega
  unfold pilotShown State.setB
  dsimp only
  refine ⟨?_, ?_, State.get_set_fits (by decide) (pilotAmps_lt x s) _ _ _ _⟩
  · iterate 4 rw [State.get_set_apart (by decide)]
    rw [State.get_set_fits (by decide) (by split <;> decide)]
    cases x.pwm <;> rfl
  · iterate 3 rw [State.get_set_apart (by decide)]
    exact State.get_set_fits (by decide) hduty _ _ _ _

/-- A field of the pilot's word that a period does not write before STATE is decided. -/
theorem pilotShown_other {f : Fld} (hpwm : F.CHG_PILOT.PWM.Apart f) (hduty : F.CHG_PILOT.DUTY.Apart f) (hbad : F.CHG_PILOT.FREQ_BAD.Apart f)
    (hdig : F.CHG_PILOT.DIGITAL.Apart f) (hamps : F.CHG_PILOT.I_PILOT.Apart f) (hf : f.addr 0 0 0 = 0x30110000) :
    (pilotShown x s).get f = s.get f := by
  have hne : ∀ g : Fld, g.addr 0 0 0 = 0x30110004 → f.addr 0 0 0 ≠ g.addr 0 0 0 := fun g hg => by
    rw [hf, hg]
    decide
  unfold pilotShown State.setB State.setI
  dsimp only
  rw [State.get_set_apart hamps, State.get_set_apart hdig, State.get_set_apart hbad, State.get_set_apart hduty, State.get_set_apart hpwm,
    State.get_set_addr _ _ f _ _ _ _ _ _ _ (hne _ (by decide)), State.get_set_addr _ _ f _ _ _ _ _ _ _ (hne _ (by decide))]

theorem pilotChange_steady (st : Nat) (s : State) : (pilotChange st s).chg.steady = s.chg.steady := by
  have hraise : (raise 170 (s.set F.CHG_PILOT.STATE st)).chg.steady = s.chg.steady := congrArg ChgSt.steady (raise_chg _ _)
  unfold pilotChange
  dsimp only
  split
  · split
    · split
      · exact hraise
      · exact hraise
    · exact hraise
  · exact hraise

/-- The registers of a change: STATE, and FLAP with it. -/
theorem pilotChange_regs (st : Nat) (s : State) : (pilotChange st s).regs = (raise 170 (s.set F.CHG_PILOT.STATE st)).regs ∨
    (pilotChange st s).regs = ((raise 170 (s.set F.CHG_PILOT.STATE st)).set F.CHG_PILOT.FLAP 1).regs := by
  unfold pilotChange
  dsimp only
  split
  · split
    · refine .inr ?_
      split <;> rfl
    · exact .inl rfl
  · exact .inl rfl

theorem pilotChange_get {f : Fld} (hflap : f.addr 0 0 0 = 0x30110004 ∨ F.CHG_PILOT.FLAP.Apart f) (hq : Quiet (f.addr 0 0 0)) (st : Nat)
    (s : State) : (pilotChange st s).get f = (s.set F.CHG_PILOT.STATE st).get f := by
  have hraise : (raise 170 (s.set F.CHG_PILOT.STATE st)).get f = (s.set F.CHG_PILOT.STATE st).get f :=
    State.get_of_rd (raise_quiet _ _ _ (by decide) hq)
  rcases pilotChange_regs st s with h | h <;> rw [State.get_of_regs h]
  · exact hraise
  · rcases hflap with haddr | hapart
    · rw [State.get_set_addr _ _ _ _ _ _ _ _ _ _ (haddr ▸ by decide), hraise]
    · rw [State.get_set_apart hapart, hraise]

end

section
variable {s : State} {x : PilotIn}

/-- A field that a change of STATE does not write shows the period's value. -/
theorem pilotPeriod_get {f : Fld} (hf : f.addr 0 0 0 = 0x30110004 ∨ (F.CHG_PILOT.STATE.Apart f ∧ F.CHG_PILOT.FLAP.Apart f))
    (hq : Quiet (f.addr 0 0 0)) (hready : s.pdReady 8 = true) (hmode : s.mode ≠ 0) :
    (pilotPeriod x s).get f = (pilotShown x s).get f := by
  rw [pilotPeriod_of_ready hready hmode, ← pilotNoted_get]
  split
  · rcases hf with haddr | ⟨hstate, hflap⟩
    · rw [pilotChange_get (.inl haddr) hq, State.get_set_addr _ _ _ _ _ _ _ _ _ _ (haddr ▸ by decide)]
    · rw [pilotChange_get (.inr hflap) hq, State.get_set_apart hstate]
  · rfl

theorem pilotPeriod_steady (hready : s.pdReady 8 = true) (hmode : s.mode ≠ 0) :
    (pilotPeriod x s).chg.steady = (pilotKept x s).steady := by
  rw [pilotPeriod_of_ready hready hmode]
  exact ite_keeps (p := (·.chg.steady)) (pilotChange_steady _ _)

/-- STATE takes the class once PILOT_N periods agree on it. -/
theorem pilotPeriod_state (hready : s.pdReady 8 = true) (hmode : s.mode ≠ 0) : (pilotPeriod x s).get F.CHG_PILOT.STATE =
    if max 1 (s.get F.CHG_PILOT.PILOT_N) ≤ pilotAgree x s.chg then pilotClass x else s.get F.CHG_PILOT.STATE := by
  have hn : (pilotNoted x s).get F.CHG_PILOT.PILOT_N = s.get F.CHG_PILOT.PILOT_N :=
    (pilotNoted_get _).trans (pilotShown_other (by decide) (by decide) (by decide) (by decide) (by decide) (by decide))
  have hold : (pilotNoted x s).get F.CHG_PILOT.STATE = s.get F.CHG_PILOT.STATE :=
    (pilotNoted_get _).trans (pilotShown_other (by decide) (by decide) (by decide) (by decide) (by decide) (by decide))
  have hnew : (pilotChange (pilotClass x) (pilotNoted x s)).get F.CHG_PILOT.STATE = pilotClass x :=
    (pilotChange_get (.inr (by decide)) (by decide) _ _).trans (State.get_set_fits (by decide) (pilotClass_lt x) _ _ _ _)
  rw [pilotPeriod_of_ready hready hmode, hn, hold]
  by_cases hagree : max 1 (s.get F.CHG_PILOT.PILOT_N) ≤ pilotAgree x s.chg
  · rw [if_pos hagree]
    by_cases hsame : s.get F.CHG_PILOT.STATE = pilotClass x
    · rw [if_neg (by simp [hsame]), hold, hsame]
    · rw [if_pos (by simp [hsame, hagree]), hnew]
  · rw [if_neg hagree, if_neg (by simp [hagree]), hold]

end

/-! ### The proximity contact (R376) -/

/-- The coding resistance that PP_IN shows. -/
def ppOhms (mv : Nat) (s : State) : Nat := if 5000 ≤ mv then 65535 else min 65535 (s.get F.CHG_PP_CFG.RPU * mv / (5000 - mv))

/-- RC and CLASS are written; a change of CLASS raises its event. -/
def ppShown (mv : Nat) (s : State) : State :=
  let u := (s.set F.CHG_PP.RC (ppOhms mv s)).set F.CHG_PP.CLASS (ppClass s (ppOhms mv s))
  if s.get F.CHG_PP.CLASS != ppClass s (ppOhms mv s) then raise 176 u else u

theorem ppClass_lt (s : State) (rc : Nat) : ppClass s rc < 8 := by
  unfold ppClass
  dsimp only
  repeat' split
  all_goals decide

theorem ppOhms_lt (mv : Nat) (s : State) : ppOhms mv s < 65536 := by
  unfold ppOhms
  split <;> omega

theorem ppShown_get {f : Fld} (hq : Quiet (f.addr 0 0 0)) (mv : Nat) (s : State) :
    (ppShown mv s).get f = ((s.set F.CHG_PP.RC (ppOhms mv s)).set F.CHG_PP.CLASS (ppClass s (ppOhms mv s))).get f :=
  ite_keeps (p := (·.get f)) (State.get_of_rd (raise_quiet _ _ _ (by decide) hq))

theorem ppShown_shows (mv : Nat) (s : State) :
    (ppShown mv s).get F.CHG_PP.RC = ppOhms mv s ∧ (ppShown mv s).get F.CHG_PP.CLASS = ppClass s (ppOhms mv s) := by
  rw [ppShown_get (by decide), ppShown_get (by decide)]
  refine ⟨?_, State.get_set_fits (by decide) (ppClass_lt s _) _ _ _ _⟩
  rw [State.get_set_apart (by decide), State.get_set_fits (by decide) (ppOhms_lt mv s)]

theorem ppShown_chg (mv : Nat) (s : State) : (ppShown mv s).chg = s.chg := ite_keeps (p := (·.chg)) (raise_chg _ _)

theorem ppShown_sessActive (mv : Nat) (s : State) : sessActive (ppShown mv s) = sessActive s := by
  have hsess : (ppShown mv s).get F.CHG_SESS.STATE = s.get F.CHG_SESS.STATE := by
    rw [ppShown_get (by decide), State.get_set_addr _ _ _ _ _ _ _ _ _ _ (by decide), State.get_set_addr _ _ _ _ _ _ _ _ _ _ (by decide)]
  rw [sessActive, hsess, sessActive]

/-- The samples of a lost plug are counted while a session is under way; PILOT_N of them end it (R381). -/
def plugCounted (cls : Nat) (s : State) : State :=
  if sessActive s && s.get F.CHG_SESS.STATE != 5 && !isCable cls then
    let n := s.chg.ppLost + 1
    if n = max 1 (s.get F.CHG_PILOT.PILOT_N) then s.setChg { s.chg with ppLost := n, ends := s.chg.ends ++ [5] }
    else s.setChg { s.chg with ppLost := min n 32 }
  else s.setChg { s.chg with ppLost := 0 }

theorem plugCounted_regs (cls : Nat) (s : State) : (plugCounted cls s).regs = s.regs := by
  unfold plugCounted
  dsimp only
  split
  · split <;> rfl
  · rfl

theorem plugCounted_of_idle {s : State} (h : sessActive s = false) (cls : Nat) :
    (plugCounted cls s).chg = { s.chg with ppLost := 0 } := by
  rw [plugCounted, h]
  rfl

theorem execProximitySample_of_ready {s : State} {mv : Nat} (hready : s.pdReady 8 = true) (hmode : s.mode ≠ 0) :
    execProximitySample mv s = .next (plugCounted (ppClass s (ppOhms mv s)) (ppShown mv s)) := by
  have hoff : (!s.pdReady 8 || s.mode == 0) = false := by simp [hready, hmode]
  unfold execProximitySample
  dsimp only
  rw [hoff]
  rfl

/-- Settles O28: a period and a sample by the registers they write, a comparator by the channels it stops or releases, and the loss of
the high voltage by what channel 1's stop brings. -/
theorem pilotAndComparators : Obligations.PilotAndComparators := by
  intro s x mv c k above m n i rc q side
  refine ⟨?pilot, ?proximity, ?blanked, ?reported, ?fast, ?released, ?unreported, ?unblanked, ?unblankedTrip, ?stopNow, ?unchecked, ?refused⟩
  case pilot =>
    intro hready hmode
    have hexec : exec (.pilotPeriod x) s = .next (pilotPeriod x s) := rfl
    obtain ⟨hhigh, hlow⟩ := pilotShown_levels x s
    obtain ⟨hpwm, hduty, hamps⟩ := pilotShown_duty x s
    have hsteady := pilotPeriod_steady (x := x) hready hmode
    have hcand : (pilotPeriod x s).chg.cand = pilotClass x := congrArg ChgSt.cand hsteady
    have hcandN : (pilotPeriod x s).chg.candN = n := congrArg ChgSt.candN hsteady
    have huse := congrArg ChgSt.iUse hsteady
    refine ⟨_, hexec, ?_, ?_, ?_, ?_, ?_, hcand, hcandN, fun hi => ?_, pilotPeriod_state hready hmode, execPilotPeriod_mask rfl rfl rfl _ _ hexec⟩
    · rw [pilotPeriod_get (.inl (by decide)) (by decide) hready hmode, hhigh]
    · rw [pilotPeriod_get (.inl (by decide)) (by decide) hready hmode, hlow]
    · rw [pilotPeriod_get (.inr (by decide)) (by decide) hready hmode, hpwm]
    · rw [pilotPeriod_get (.inr (by decide)) (by decide) hready hmode, hduty]
    · exact (pilotPeriod_get (.inr (by decide)) (by decide) hready hmode).trans hamps
    · have hkept : (pilotPeriod x s).chg.iUse = (pilotKept x s).iUse := huse
      exact hkept.trans (if_pos hi)
  case proximity =>
    intro hready hmode
    have hexec : exec (.proximitySample mv) s = _ := execProximitySample_of_ready hready hmode
    obtain ⟨hrc, hclass⟩ := ppShown_shows mv s
    have hregs := plugCounted_regs (ppClass s (ppOhms mv s)) (ppShown mv s)
    refine ⟨_, hexec, ?_, ?_, fun hsess => ?_, execProximitySample_mask rfl rfl rfl _ _ hexec⟩
    · exact (State.get_of_regs hregs _ _ _ _).trans hrc
    · exact (State.get_of_regs hregs _ _ _ _).trans hclass
    · rw [plugCounted_of_idle ((ppShown_sessActive mv s).trans hsess), ppShown_chg]
  case blanked =>
    intro hready hen hblank
    exact ⟨_, (execComparatorTrip_of_enabled hready hen).trans (congrArg Host.Outcome.next (if_pos hblank)), rfl⟩
  case reported =>
    intro hready hen hblank haction hpd
    have hexec := execComparatorTrip_of_enabled (above := above) hready hen
    rw [hblank, if_neg Bool.false_ne_true, reported_of_unready (s := crossed c.val above s) haction hpd] at hexec
    exact ⟨_, hexec, rfl⟩
  case fast =>
    intro hready hen hblank haction hused hactive hch hfast hdir hfree
    have hexec := execComparatorTrip_of_enabled (above := above) hready hen
    rw [hblank, if_neg Bool.false_ne_true] at hexec
    obtain ⟨hstop, hlost⟩ := reported_stops (s := crossed c.val above s) (above := above) k.isLt haction
      ⟨hused, hactive, hch, hfast, hdir⟩ hfree
    obtain ⟨hstate, hcause, hlast⟩ := hstop
    exact ⟨_, hexec, hstate, hcause, hlast, hlost, execComparatorTrip_mask rfl rfl rfl rfl rfl rfl rfl rfl rfl _ _ _ hexec⟩
  case released =>
    intro hready hen haction hused hnl
    have hexec := execComparatorRelease_of_enabled hready hen
    rw [if_pos haction] at hexec
    obtain ⟨hover, hunder, hreleased⟩ := cnvRelease_ends (s := uncrossed c.val s) k.isLt ⟨hused, hnl⟩
    refine ⟨_, hexec, ?_, hover, hunder, hreleased, execComparatorRelease_mask rfl rfl rfl rfl rfl _ _ hexec⟩
    rw [cnvRelease_out, uncrossed, State.compar_setCompar]
  case unreported =>
    intro hready hen haction
    have hexec := execComparatorRelease_of_enabled hready hen
    rw [if_neg (by omega)] at hexec
    exact ⟨_, hexec, rfl⟩
  case unblanked =>
    intro hblank hout
    have hexec := execBlankingEnd_of_blanked hblank
    rw [hout] at hexec
    exact ⟨_, hexec, rfl⟩
  case unblankedTrip =>
    intro hblank hout hready hen haction hpd
    have hexec := execBlankingEnd_of_blanked hblank
    rw [hout, hready, hen, if_neg (by decide), reported_of_unready (s := unblanked c.val s) haction hpd] at hexec
    exact ⟨_, hexec, rfl⟩
  case stopNow =>
    intro hw hm hused hactive
    have hpd : s.pdReady 5 = true := (Bool.and_eq_true _ _ ▸ hused).1
    have hexec : exec (.cnvChannelStopNow m k) s = .next ((fastStop k.val s).answer .done) := by
      change execCnvChannelStopNow m k s = _
      rw [execCnvChannelStopNow, hw, hpd, stopNow, hm, hused, hactive]
      rfl
    have hregs : ((fastStop k.val s).answer .done).regs = (fastStop k.val s).regs := State.answer_regs _ _
    obtain ⟨hstate, hcause, hshed⟩ := fastStop_shows k.val s
    refine ⟨_, hexec, ?_, ?_, ?_, ?_, rfl, execCnvChannelStopNow_mask rfl rfl rfl rfl rfl rfl _ _ _ hexec⟩
    · exact (State.get_of_regs hregs _ _ _ _).trans hstate
    · rw [State.get_of_regs hregs, hcause]
    · rw [State.get_of_regs hregs, hshed]
    · exact (congrArg ChSt.stopAtValley (State.chan_of_cnv (State.answer_cnv _ _) k.val)).trans (fastStop_stopAtValley k.val s)
  case unchecked =>
    intro hw hm hpd
    refine ⟨_, ?_, rfl⟩
    change execCnvChannelStopNow m k s = _
    rw [execCnvChannelStopNow, hw, hpd, stopNow, hm]
    rfl
  case refused =>
    intro hw
    refine ⟨_, ?_, rfl⟩
    change execCnvChannelStopNow m k s = _
    rw [execCnvChannelStopNow, hw]
    rfl

end Sys2Proof.Machine

/-! The state after reset (00_scope.md; 08_pwm_gate.md R237), and the obligation about it, O55. -/

namespace Sys2Proof.Machine
open Sys2Proof

/-- Settles O55: at reset every table is empty, so that memory lists nothing and every switch is commanded off. -/
theorem resetInvariants : Obligations.ResetInvariants := by
  have hoff : ∀ k, (State.reset.sw k).cmd = false := fun _ => rfl
  refine ⟨⟨List.Pairwise.nil, fun _ h => absurd h List.not_mem_nil⟩, fun l hshort => ?_, rfl, rfl⟩
  rw [hoff] at hshort
  exact Bool.false_ne_true hshort.1

end Sys2Proof.Machine

/-! The tables and the registers of the Flyer (09_flyer.md R263 to R276): what its operations read and leave, and which registers of the
sensors the compare unit, the emulation and an acquisition do not reach. O21 and O22 below rest on these. -/

namespace Sys2Proof.Machine
open Sys2Proof

section
variable {s t : State} {a k : Nat}

/-! ### Tables -/

@[simp] theorem State.src_setSrc (s : State) (k : Nat) (x : SrcSt) : (s.setSrc k x).src k = x := SMap.get_put_self _ _ _ _
@[simp] theorem State.sens_setSens (s : State) (k : Nat) (x : SensSt) : (s.setSens k x).sens k = x := SMap.get_put_self _ _ _ _
@[simp] theorem State.trk_setTrk (s : State) (m : Nat) (x : TrkSt) : (s.setTrk m x).trk m = x := SMap.get_put_self _ _ _ _
@[simp] theorem State.emu_setEmu (s : State) (e : Nat) (x : EmuSt) : (s.setEmu e x).emu e = x := SMap.get_put_self _ _ _ _

theorem State.src_of_fly (h : t.fly.src = s.fly.src) (k : Nat) : t.src k = s.src k := by rw [State.src, h, State.src]
theorem State.sens_of_fly (h : t.fly.sens = s.fly.sens) (k : Nat) : t.sens k = s.sens k := by rw [State.sens, h, State.sens]
theorem State.trk_of_fly (h : t.fly.trk = s.fly.trk) (m : Nat) : t.trk m = s.trk m := by rw [State.trk, h, State.trk]

theorem raise_fly (n : Nat) (s : State) : (raise n s).fly = s.fly := by rw [raise_eq]

theorem issueFor_fly (src : FaultSrc) (code cls : Nat) (s : State) : (issueFor src code cls s).fly = s.fly := by rw [issueFor_eq]

/-- The parts in which the Flyer and the reaction to a loss act. -/
abbrev Parts.flyer : Parts :=
  { regs := true, sys := true, fab := true, pwm := true, cnv := true, fly := true, kln := true, act := true }

/-! ### Registers of the sensors -/

/-- A register of the Flyer's sensors or sources: block 10 below its trackers. -/
abbrev Sensing (a : Nat) : Prop := 0x300A0000 ≤ a ∧ a < 0x300A1000

theorem Sensing.quiet (h : Sensing a) : Quiet a := by
  obtain ⟨hlo, hhi⟩ := h
  constructor <;> omega

/-- A register of the trackers or of what stands above them in block 10. -/
theorem set_sensing (h : Sensing a) (s : State) (f : Fld) (v i : Nat) (hf : 0x300A1000 ≤ f.base) : (s.set f v i).rd a = s.rd a := by
  refine set_quiet _ _ _ _ _ _ _ ?_
  simp only [Fld.addr]
  omega

theorem cmpFire_sensing (h : Sensing a) (c range : Nat) (s : State) : (cmpFire c range s).rd a = s.rd a := by
  unfold cmpFire
  dsimp only
  rw [raise_quiet _ _ _ (by decide) h.quiet]
  split
  · iterate 4 rw [set_sensing h _ _ _ _ (by decide)]
  · iterate 3 rw [set_sensing h _ _ _ _ (by decide)]

theorem cmpCheck_sensing (h : Sensing a) (k : Nat) (hit : Nat → Bool) (s : State) : (cmpCheck k hit s).rd a = s.rd a :=
  foldl_keeps (·.rd a) _ _ (fun c _ s => ite_keeps (p := (·.rd a)) (cmpFire_sensing h c _ s)) s

theorem cmpCheck_fly (k : Nat) (hit : Nat → Bool) (s : State) : (cmpCheck k hit s).fly = s.fly :=
  fly_of_mask (K := { regs := true, fab := true }) rfl (cmpCheck_mask rfl rfl k hit s)

theorem emuDue_sensing (h : Sensing a) (e : Nat) (num den : Int) (s : State) : (emuDue e num den s).rd a = s.rd a := by
  unfold emuDue
  split
  · rfl
  · dsimp only
    split
    · rw [raise_quiet _ _ _ (by decide) h.quiet, issue_rd, set_sensing h _ _ _ _ (by decide), set_sensing h _ _ _ _ (by decide)]
      rfl
    · rw [set_sensing h _ _ _ _ (by decide)]
      rfl

/-- Counts that fall due on an emulation output change of the Flyer's tables its own alone. -/
theorem emuDue_fly (e : Nat) (num den : Int) (s : State) : (emuDue e num den s).fly = { s.fly with emu := (emuDue e num den s).fly.emu } := by
  unfold emuDue
  split
  · rfl
  · dsimp only
    split
    · rw [raise_fly, issue, issueFor_fly]
      rfl
    · rfl

theorem acquire_sensing (h : Sensing a) (m theta ofs : Nat) (s : State) : (acquire m theta ofs s).rd a = s.rd a := by
  unfold acquire
  dsimp only
  rw [raise_quiet _ _ _ (by decide) h.quiet]
  iterate 3 rw [set_sensing h _ _ _ _ (by decide)]
  rfl

/-- An acquisition changes of the Flyer's tables the tracker's alone. -/
theorem acquire_fly (m theta ofs : Nat) (s : State) :
    (acquire m theta ofs s).fly = { s.fly with trk := (acquire m theta ofs s).fly.trk } := by
  unfold acquire
  dsimp only
  rw [raise_fly]
  rfl

/-! ### Measurements (R265, R275) -/

theorem srcStale_of_rd (h : t.rd (F.FLY_SRC_STAT.STALE.addr k 0 0) = s.rd (F.FLY_SRC_STAT.STALE.addr k 0 0)) :
    srcStale t k = srcStale s k := by
  rw [srcStale, State.getB_of_rd h, srcStale]

/-- A measurement of a source that is not stale is kept, unapplied, and ends its errors. -/
theorem srcValid_src (h : srcStale s k = false) (theta : Nat) : (srcValid k theta s).src k =
    { s.src k with theta := theta, fresh0 := true, fresh1 := true, ever := true, errRun := 0, goodRun := (s.src k).goodRun + 1 } := by
  rw [srcValid, h, if_neg Bool.false_ne_true]
  dsimp only
  split
  · exact State.src_setSrc _ _ _
  · exact State.src_setSrc _ _ _

theorem srcValid_sens (k theta : Nat) (s : State) : (srcValid k theta s).fly.sens = s.fly.sens := by
  unfold srcValid
  dsimp only
  split
  · rfl
  · split <;> rfl

theorem srcValid_rd (hstat : a ≠ F.FLY_SRC_STAT.TIMEOUT.addr k 0 0) (hval : a ≠ F.FLY_SRC_VAL.VAL.addr k 0 0) (theta : Nat) (s : State) :
    (srcValid k theta s).rd a = s.rd a := by
  unfold srcValid
  dsimp only
  split
  · rfl
  · split
    · rw [State.rd_wr_ne _ _ _ _ hval, set_quiet _ F.FLY_SRC_STAT.ERR_RUN _ _ _ _ _ hstat, set_quiet _ _ _ _ _ _ _ hstat]
      rfl
    · rfl

/-- An erroneous measurement of source `k`, counted. -/
def errCounted (k : Nat) (s : State) : State :=
  let u := s.bump F.FLY_SRC_STAT.ERR_CNT F.FLY_SRC_STAT.SAT k
  (if (s.src k).ever && (s.src k).errRun == 0 then raise 130 u else u).setSrc k { s.src k with errRun := (s.src k).errRun + 1, goodRun := 0 }

theorem State.bump_fly (s : State) (f satF : Fld) (i j k n : Nat) : (s.bump f satF i j k n).fly = s.fly := by
  simp only [State.bump]
  split <;> rfl

/-- A field of the same register that neither the count nor its SAT field shares a bit with. -/
theorem State.get_bump_apart {f satF g : Fld} (hf : f.Apart g) (hsat : satF.Apart g) (s : State) (i j k n x y z : Nat) :
    (s.bump f satF i j k n).get g x y z = s.get g x y z := by
  simp only [State.bump]
  split
  · rw [State.get_set_apart hsat, State.get_set_apart hf]
  · rw [State.get_set_apart hf]

theorem quiet_srcStat (hk : k < 14) : Quiet (F.FLY_SRC_STAT.ERR_CNT.addr k 0 0) := by
  simp only [Fld.addr, F.FLY_SRC_STAT.ERR_CNT]
  omega

theorem errCounted_rd (hq : Quiet a) (hstat : a ≠ F.FLY_SRC_STAT.ERR_CNT.addr k 0 0) (s : State) : (errCounted k s).rd a = s.rd a := by
  have hbump : (s.bump F.FLY_SRC_STAT.ERR_CNT F.FLY_SRC_STAT.SAT k).rd a = s.rd a := State.rd_bump_ne hstat hstat
  exact (ite_keeps (p := (·.rd a)) (raise_quiet _ _ _ (by decide) hq)).trans hbump

/-- Beside the errors' own, the fields of the source's status stay. -/
theorem errCounted_stat {f : Fld} (hk : k < 14) (hf : f.addr k 0 0 = F.FLY_SRC_STAT.ERR_CNT.addr k 0 0) (herr : F.FLY_SRC_STAT.ERR_CNT.Apart f)
    (hsat : F.FLY_SRC_STAT.SAT.Apart f) (s : State) : (errCounted k s).get f k = s.get f k := by
  have hbump := State.get_bump_apart herr hsat s k 0 0 1 k 0 0
  exact (State.get_of_rd (ite_keeps (p := (·.rd (f.addr k 0 0))) (raise_quiet _ _ _ (by decide) (hf ▸ quiet_srcStat hk)))).trans hbump

theorem errCounted_src (k : Nat) (s : State) :
    (errCounted k s).src k = { s.src k with errRun := (s.src k).errRun + 1, goodRun := 0 } := State.src_setSrc _ _ _

theorem errCounted_sens (k : Nat) (s : State) : (errCounted k s).fly.sens = s.fly.sens :=
  (ite_keeps (p := (·.fly.sens)) (congrArg FlySt.sens (raise_fly _ _))).trans (congrArg FlySt.sens (State.bump_fly _ _ _ _ _ _ _))

/-- An error that does not complete a run of SENS_ERR_N is only counted. -/
theorem srcError_of_noRun (hk : k < 14) (h : (s.src k).errRun + 1 ≠ max 1 (s.get F.FLY_SRC_CFG.SENS_ERR_N k)) :
    srcError k s = errCounted k s := by
  have hcfg : (errCounted k s).get F.FLY_SRC_CFG.SENS_ERR_N k = s.get F.FLY_SRC_CFG.SENS_ERR_N k := by
    refine State.get_of_rd (errCounted_rd ?_ ?_ s) <;> simp only [Fld.addr, F.FLY_SRC_CFG.SENS_ERR_N, F.FLY_SRC_STAT.ERR_CNT] <;> omega
  have hrun := srcError.eq_def k s
  exact hrun.trans (if_neg (hcfg ▸ h))

/-! ### Encoders (R264, R266 to R268) -/

theorem encCpr_bounds (s : State) (n : Nat) : 4 ≤ encCpr s n ∧ encCpr s n ≤ 268435456 := by
  unfold encCpr clampN
  split
  · omega
  · split <;> omega

/-- The count after one more, up or down, with its wrap at CPR. -/
def encNext (n : Nat) (up : Bool) (s : State) : Nat :=
  if up then (if s.get F.FLY_ENC_POS.POS n + 1 ≥ encCpr s n then 0 else s.get F.FLY_ENC_POS.POS n + 1)
  else (if s.get F.FLY_ENC_POS.POS n = 0 then encCpr s n - 1 else s.get F.FLY_ENC_POS.POS n - 1)

theorem encNext_lt (n : Nat) (up : Bool) (s : State) : encNext n up s < 2 ^ 28 := by
  obtain ⟨-, hcpr⟩ := encCpr_bounds s n
  have hpos : s.get F.FLY_ENC_POS.POS n < 2 ^ 28 := State.get_lt s F.FLY_ENC_POS.POS n 0 0
  unfold encNext
  split <;> split <;> omega

/-- The count wraps. -/
def encWraps (n : Nat) (up : Bool) (s : State) : Bool :=
  if up then decide (s.get F.FLY_ENC_POS.POS n + 1 ≥ encCpr s n) else s.get F.FLY_ENC_POS.POS n == 0

/-- A wrap as WRAP, REV and, where the turns overflow, REV_WRAP take it. -/
def encWrapped (n : Nat) (up : Bool) (s : State) : State :=
  let r := if up then (s.sens n).rev + 1 else (s.sens n).rev - 1
  let u := (s.set F.FLY_ENC_POS.WRAP 1 n).setSens n { s.sens n with rev := signed 32 (unsigned 32 r) }
  if r < min32 ∨ max32 < r then raise 137 (u.set F.FLY_ENC_POS.REV_WRAP 1 n) else u

theorem encCount_eq (n : Nat) (up : Bool) (s : State) : encCount n up s =
    if encWraps n up s then encWrapped n up (s.set F.FLY_ENC_POS.POS (encNext n up s) n) else s.set F.FLY_ENC_POS.POS (encNext n up s) n := by
  have hnext : (if encWraps n up s then (if up then 0 else encCpr s n - 1)
      else if up then s.get F.FLY_ENC_POS.POS n + 1 else s.get F.FLY_ENC_POS.POS n - 1) = encNext n up s := by
    cases up <;> simp [encWraps, encNext]
  rw [← hnext]
  rfl

theorem encWrapped_rd (hq : Quiet a) {n : Nat} (hne : a ≠ F.FLY_ENC_POS.POS.addr n 0 0) (up : Bool) (s : State) :
    (encWrapped n up s).rd a = s.rd a := by
  have hwrap : (s.set F.FLY_ENC_POS.WRAP 1 n).rd a = s.rd a := set_quiet _ _ _ _ _ _ _ hne
  refine Eq.trans (ite_keeps (p := (·.rd a)) ?_) hwrap
  rw [raise_quiet _ _ _ (by decide) hq, set_quiet _ F.FLY_ENC_POS.REV_WRAP _ _ _ _ _ hne]

theorem quiet_encPos {n : Nat} (hn : n < 4) : Quiet (F.FLY_ENC_POS.POS.addr n 0 0) := by
  simp only [Fld.addr, F.FLY_ENC_POS.POS]
  omega

theorem encWrapped_pos {n : Nat} (hn : n < 4) (up : Bool) (s : State) :
    (encWrapped n up s).get F.FLY_ENC_POS.POS n = s.get F.FLY_ENC_POS.POS n := by
  have hwrap : (s.set F.FLY_ENC_POS.WRAP 1 n).get F.FLY_ENC_POS.POS n = s.get F.FLY_ENC_POS.POS n := State.get_set_apart (by decide) _ _ _ _ _ _ _ _
  refine Eq.trans (ite_keeps (p := (·.get F.FLY_ENC_POS.POS n)) ?_) hwrap
  rw [State.get_of_rd (raise_quiet _ _ _ (by decide) (quiet_encPos hn)), State.get_set_apart (by decide)]

theorem encCount_pos {n : Nat} (hn : n < 4) (up : Bool) (s : State) : (encCount n up s).get F.FLY_ENC_POS.POS n = encNext n up s := by
  rw [encCount_eq, ite_keeps (p := (·.get F.FLY_ENC_POS.POS n)) (encWrapped_pos hn up _), State.get_set_fits (by decide) (encNext_lt n up s)]

theorem encCount_rd (hq : Quiet a) {n : Nat} (hne : a ≠ F.FLY_ENC_POS.POS.addr n 0 0) (up : Bool) (s : State) :
    (encCount n up s).rd a = s.rd a := by
  rw [encCount_eq, ite_keeps (p := (·.rd a)) (encWrapped_rd hq hne up _), set_quiet _ _ _ _ _ _ _ hne]

theorem encCpr_of_rd {n : Nat} (h : t.rd (F.FLY_ENC_CPR.CPR.addr n 0 0) = s.rd (F.FLY_ENC_CPR.CPR.addr n 0 0)) : encCpr t n = encCpr s n := by
  rw [encCpr, State.get_of_rd h, encCpr]

/-- An encoder that has counted, with the measurement its count gives. -/
def encMeasured (n : Nat) (up : Bool) (s : State) : State :=
  let u := encCount n up s
  let u := u.setSrc n { u.src n with dirUp := up }
  srcValid n (encAngle u n) u

theorem encMeasured_pos {n : Nat} (hn : n < 4) (up : Bool) (s : State) : (encMeasured n up s).get F.FLY_ENC_POS.POS n = encNext n up s := by
  have hclear : F.FLY_ENC_POS.POS.addr n 0 0 ≠ F.FLY_SRC_STAT.TIMEOUT.addr n 0 0 ∧
      F.FLY_ENC_POS.POS.addr n 0 0 ≠ F.FLY_SRC_VAL.VAL.addr n 0 0 := by
    simp only [Fld.addr, F.FLY_ENC_POS.POS, F.FLY_SRC_STAT.TIMEOUT, F.FLY_SRC_VAL.VAL]
    omega
  exact (State.get_of_rd (srcValid_rd hclear.1 hclear.2 _ _)).trans (encCount_pos hn up s)

theorem encMeasured_src {n : Nat} (hn : n < 4) (up : Bool) (h : srcStale s n = false) : ((encMeasured n up s).src n).dirUp = up ∧
    ((encMeasured n up s).src n).theta = encNext n up s * 2 ^ 64 / encCpr s n := by
  have hclear : Quiet (F.FLY_SRC_STAT.STALE.addr n 0 0) ∧ F.FLY_SRC_STAT.STALE.addr n 0 0 ≠ F.FLY_ENC_POS.POS.addr n 0 0 ∧
      Quiet (F.FLY_ENC_CPR.CPR.addr n 0 0) ∧ F.FLY_ENC_CPR.CPR.addr n 0 0 ≠ F.FLY_ENC_POS.POS.addr n 0 0 := by
    simp only [Fld.addr, F.FLY_ENC_POS.POS, F.FLY_SRC_STAT.STALE, F.FLY_ENC_CPR.CPR]
    omega
  obtain ⟨hqs, hnes, hqc, hnec⟩ := hclear
  have hstale : srcStale (encCount n up s) n = false := (srcStale_of_rd (encCount_rd hqs hnes up s)).trans h
  have hcpr : encCpr (encCount n up s) n = encCpr s n := encCpr_of_rd (encCount_rd hqc hnec up s)
  have hangle : encAngle (encCount n up s) n = encNext n up s * 2 ^ 64 / encCpr s n := by rw [encAngle, encCount_pos hn, hcpr]
  have hstale' : ∀ x, srcStale ((encCount n up s).setSrc n x) n = false := fun _ => hstale
  have hsrc := srcValid_src (hstale' { (encCount n up s).src n with dirUp := up }) (encAngle (encCount n up s) n)
  rw [State.src_setSrc, hangle] at hsrc
  change ((srcValid n (encAngle (encCount n up s) n) _).src n).dirUp = _ ∧ ((srcValid n (encAngle (encCount n up s) n) _).src n).theta = _
  rw [hangle, hsrc]
  exact ⟨rfl, rfl⟩

/-- What follows an encoder's count: the compare channels and the emulation outputs on it. -/
def encFollowed (n : Nat) (up : Bool) (s : State) : State :=
  [0, 1].foldl (fun s e =>
    if !s.getB F.FLY_EMU_CFG.KIND e && s.get F.FLY_EMU_CFG.SRC e == n then
      emuDue e (if up then emuNum s e else -(emuNum s e : Int)) (emuDen s e) s
    else s) (cmpCheck n (· == s.get F.FLY_ENC_POS.POS n) s)

theorem encFollowed_sensing (h : Sensing a) (n : Nat) (up : Bool) (s : State) : (encFollowed n up s).rd a = s.rd a :=
  (foldl_keeps (·.rd a) _ _ (fun e _ s => ite_keeps (p := (·.rd a)) (emuDue_sensing h e _ _ s)) _).trans (cmpCheck_sensing h _ _ _)

theorem encFollowed_src (n : Nat) (up : Bool) (s : State) : (encFollowed n up s).fly.src = s.fly.src := by
  refine (foldl_keeps (·.fly.src) _ _ (fun e _ s => ite_keeps (p := (·.fly.src)) ?_) _).trans (congrArg FlySt.src (cmpCheck_fly _ _ _))
  rw [emuDue_fly]

theorem execEncoderEdge_of_count {n : Fin 4} {d : Bool} (hen : s.getB F.FLY_ENC_CFG.EN n.val = true) (hready : s.pdReady 7 = true) :
    execEncoderEdge n (some d) s = .next (encFollowed n.val (d != s.getB F.FLY_ENC_CFG.DIR_INV n.val)
      (encMeasured n.val (d != s.getB F.FLY_ENC_CFG.DIR_INV n.val) s)) := by
  rw [execEncoderEdge, hen, hready]
  rfl

/-- An illegal edge of encoder `n`, counted. -/
def illegalCounted (n : Nat) (s : State) : State := s.bump F.FLY_SRC_STAT.ILLEGAL_CNT F.FLY_SRC_STAT.SAT n

theorem execEncoderEdge_of_illegal {n : Fin 4} (hen : s.getB F.FLY_ENC_CFG.EN n.val = true) (hready : s.pdReady 7 = true) :
    execEncoderEdge n none s = .next (srcError n.val (illegalCounted n.val s)) := by
  rw [execEncoderEdge, hen, hready]
  rfl

theorem illegalCounted_src (n : Nat) (s : State) (k : Nat) : (illegalCounted n s).src k = s.src k :=
  State.src_of_fly (congrArg FlySt.src (State.bump_fly _ _ _ _ _ _ _)) k

theorem illegalCounted_rd {n : Nat} (h : a ≠ F.FLY_SRC_STAT.ILLEGAL_CNT.addr n 0 0) (s : State) : (illegalCounted n s).rd a = s.rd a :=
  State.rd_bump_ne h h

/-! ### Index pulses and reads of the position (R267, R268) -/

theorem acquireEnc_sensing (h : Sensing a) (m theta : Nat) (s : State) : (acquireEnc m theta s).rd a = s.rd a := acquire_sensing h _ _ _ _

theorem acquireEnc_fly (m theta : Nat) (s : State) :
    (acquireEnc m theta s).fly = { s.fly with trk := (acquireEnc m theta s).fly.trk } := acquire_fly _ _ _ _

section
variable {p : State → Nat → Bool} {angle : State → Nat → Nat}

/-- Trackers that acquire from an index or a Hall edge leave the sensors as they were. -/
theorem foldl_acquireEnc_sensing (h : Sensing a) (l : List Nat) (s : State) :
    (l.foldl (fun s m => if p s m then acquireEnc m (angle s m) s else s) s).rd a = s.rd a :=
  foldl_keeps (·.rd a) _ _ (fun m _ s => ite_keeps (p := (·.rd a)) (acquireEnc_sensing h m _ s)) s

theorem foldl_acquireEnc_src (l : List Nat) (s : State) :
    (l.foldl (fun s m => if p s m then acquireEnc m (angle s m) s else s) s).fly.src = s.fly.src :=
  foldl_keeps (·.fly.src) _ _ (fun m _ s => ite_keeps (p := (·.fly.src)) (by rw [acquireEnc_fly])) s

theorem foldl_acquireEnc_sens (l : List Nat) (s : State) :
    (l.foldl (fun s m => if p s m then acquireEnc m (angle s m) s else s) s).fly.sens = s.fly.sens :=
  foldl_keeps (·.fly.sens) _ _ (fun m _ s => ite_keeps (p := (·.fly.sens)) (by rw [acquireEnc_fly])) s

end

/-- The registers of encoder `n` after an index. -/
def idxShown (n : Nat) (s : State) : State :=
  ((s.set F.FLY_ENC_IDX.IDX_POS (s.get F.FLY_ENC_POS.POS n) n).set F.FLY_ENC_IDXREV.IDX_REV (unsigned 32 (s.sens n).rev) n).set
    F.FLY_ENC_IDX.INDEX_SEEN 1 n

/-- The first index since EN, which is the reference of later ones. -/
def firstIndex (n : Nat) (s : State) : State :=
  (raise 131 (idxShown n s)).setSens n { s.sens n with firstIdx := some (s.get F.FLY_ENC_POS.POS n) }

/-- Trackers that wait for encoder `n` acquire their IDX_ANGLE. -/
def idxAcquired (n : Nat) (s : State) : State :=
  [0, 1].foldl (fun s m => if awaitsEnc s m n then acquireEnc m (s.get F.FLY_IDX_ANGLE.IDX_ANGLE m * 2 ^ 32) s else s) s

theorem execEncoderIndex_of_first {n : Fin 4} {abHigh : Bool} (hen : s.getB F.FLY_ENC_CFG.EN n.val = true) (hready : s.pdReady 7 = true)
    (hgate : s.getB F.FLY_ENC_CFG.ZGATE n.val = true → abHigh = true) (hfirst : (s.sens n.val).firstIdx = none) :
    execEncoderIndex n abHigh s = .next (idxAcquired n.val (firstIndex n.val s)) := by
  have hopen : (s.getB F.FLY_ENC_CFG.ZGATE n.val && !abHigh) = false := by
    cases hz : s.getB F.FLY_ENC_CFG.ZGATE n.val
    · rfl
    · rw [hgate hz]
      rfl
  unfold execEncoderIndex
  dsimp only
  rw [hen, hready, hopen, hfirst]
  rfl

theorem sensing_encIdx {n : Nat} (hn : n < 4) : Sensing (F.FLY_ENC_IDX.IDX_POS.addr n 0 0) ∧ Sensing (F.FLY_ENC_IDXREV.IDX_REV.addr n 0 0) := by
  simp only [Fld.addr, F.FLY_ENC_IDX.IDX_POS, F.FLY_ENC_IDXREV.IDX_REV]
  omega

theorem idxShown_get (n : Nat) (s : State) : (idxShown n s).get F.FLY_ENC_IDX.IDX_POS n = s.get F.FLY_ENC_POS.POS n ∧
    (idxShown n s).get F.FLY_ENC_IDX.INDEX_SEEN n = 1 ∧ (idxShown n s).get F.FLY_ENC_IDXREV.IDX_REV n = unsigned 32 (s.sens n).rev := by
  have hne : F.FLY_ENC_IDX.IDX_POS.addr n 0 0 ≠ F.FLY_ENC_IDXREV.IDX_REV.addr n 0 0 ∧
      F.FLY_ENC_IDXREV.IDX_REV.addr n 0 0 ≠ F.FLY_ENC_IDX.INDEX_SEEN.addr n 0 0 := by
    simp only [Fld.addr, F.FLY_ENC_IDX.IDX_POS, F.FLY_ENC_IDXREV.IDX_REV, F.FLY_ENC_IDX.INDEX_SEEN]
    omega
  have hpos : s.get F.FLY_ENC_POS.POS n < 2 ^ 28 := State.get_lt s F.FLY_ENC_POS.POS n 0 0
  refine ⟨?_, State.get_set_one _ _ _ _ _ (by decide) (by decide), ?_⟩
  · rw [idxShown, State.get_set_apart (by decide), State.get_set_addr _ _ _ _ _ _ _ _ _ _ hne.1]
    exact State.get_set_fits (f := F.FLY_ENC_IDX.IDX_POS) (by decide) hpos _ _ _ _
  · rw [idxShown, State.get_set_addr _ _ _ _ _ _ _ _ _ _ hne.2]
    exact State.get_set_fits (f := F.FLY_ENC_IDXREV.IDX_REV) (by decide) (unsigned_lt 32 _) _ _ _ _

/-- What an index shows stands after the trackers have taken their angle. -/
theorem idxAcquired_firstIndex_get {f : Fld} {n : Nat} (h : Sensing (f.addr n 0 0)) (s : State) :
    (idxAcquired n (firstIndex n s)).get f n = (idxShown n s).get f n :=
  State.get_of_rd ((foldl_acquireEnc_sensing h _ _).trans (raise_quiet _ _ _ (by decide) h.quiet))

theorem idxAcquired_firstIndex_sens (n : Nat) (s : State) :
    ((idxAcquired n (firstIndex n s)).sens n).firstIdx = some (s.get F.FLY_ENC_POS.POS n) := by
  have hsens : (idxAcquired n (firstIndex n s)).fly.sens = (firstIndex n s).fly.sens := foldl_acquireEnc_sens _ _
  rw [State.sens_of_fly hsens, firstIndex, State.sens_setSens]

theorem execEncPosRead_of_writer {n : Fin 4} {m : Master} (hw : s.regWriter m = true) (hready : s.pdReady 7 = true) :
    execEncPosRead m n s = .next ((encCapture n.val s).answer (.data (s.rd (F.FLY_ENC_POS.POS.addr n.val 0 0)).toNat)) := by
  rw [execEncPosRead, hw, hready]
  rfl

/-! ### Halls (R269) -/

/-- A Hall triplet at a sector, as its register and its table take it. -/
def hallSeen (h v : Nat) (st : BitVec 3) (s : State) : State :=
  (s.set F.FLY_HALL_CFG.STATE st.toNat h).setSens (4 + h) { s.sens (4 + h) with sector := some v }

/-- An edge to the next sector upwards: the angle of the edge between them is measured. -/
def hallUp (h o v : Nat) (st : BitVec 3) (s : State) : State :=
  let u := hallSeen h v st s
  srcValid (4 + h) (u.get F.FLY_HALL_EDGE.ANGLE h o * 2 ^ 48) (u.setSrc (4 + h) { u.src (4 + h) with dirUp := true })

/-- Trackers whose auxiliary Halls these are acquire with the edge's angle. -/
def hallAcquired (h th : Nat) (s : State) : State :=
  [0, 1].foldl (fun s m =>
    if awaitsEnc s m (machSrc s m) && s.getB F.FLY_MACH_CFG.AUX_EN m && s.get F.FLY_MACH_CFG.AUX_HALL m == h then
      acquireEnc m (wrap64 (machSgn s m * roundDiv (near64 ((th : Int) - s.get F.FLY_MACH_OFS.EL_OFFSET m * 2 ^ 32)) (elRatio s m))) s
    else s) s

theorem hallAcquired_src (h th : Nat) (s : State) : (hallAcquired h th s).fly.src = s.fly.src := foldl_acquireEnc_src _ _

theorem hallAcquired_sens (h th : Nat) (s : State) : (hallAcquired h th s).fly.sens = s.fly.sens := foldl_acquireEnc_sens _ _

theorem getB_dirInv_setState (s : State) (v h : Nat) :
    (s.set F.FLY_HALL_CFG.STATE v h).getB F.FLY_HALL_CFG.DIR_INV h = s.getB F.FLY_HALL_CFG.DIR_INV h := by
  rw [State.getB, State.get_set_apart (by decide), State.getB]

section
variable {h : Fin 2} {st : BitVec 3} {v o : Nat} (hen : s.getB F.FLY_HALL_CFG.EN h.val = true) (hready : s.pdReady 7 = true)
  (hdir : s.getB F.FLY_HALL_CFG.DIR_INV h.val = false) (hsector : hallSector st = some v)
include hen hready hdir hsector

theorem execHallTransition_of_first (hnone : (s.sens (4 + h.val)).sector = none) :
    execHallTransition h st s = .next (hallSeen h.val v st s) := by
  have hnone' : ((s.set F.FLY_HALL_CFG.STATE st.toNat h.val).sens (4 + h.val)).sector = none := hnone
  unfold execHallTransition
  dsimp only
  rw [hen, hready, hsector]
  dsimp only
  rw [getB_dirInv_setState, hdir, hnone']
  rfl

theorem execHallTransition_of_up (hold : (s.sens (4 + h.val)).sector = some o) (hup : v = (o + 1) % 6) :
    execHallTransition h st s = .next (hallAcquired h.val ((hallSeen h.val v st s).get F.FLY_HALL_EDGE.ANGLE h.val o * 2 ^ 48)
      (hallUp h.val o v st s)) := by
  have hold' : ((s.set F.FLY_HALL_CFG.STATE st.toNat h.val).sens (4 + h.val)).sector = some o := hold
  have hne : v ≠ o := by omega
  have hedge : (v == (o + 1) % 6) = true := beq_iff_eq.mpr hup
  have hnext : (decide (v = (o + 1) % 6) || decide (o = (v + 1) % 6)) = true := by simp [← hup]
  unfold execHallTransition
  dsimp only
  rw [hen, hready, hsector]
  dsimp only
  rw [getB_dirInv_setState, hdir, hold', if_neg Bool.false_ne_true]
  dsimp only
  rw [if_neg hne, if_pos hnext, hedge]
  rfl

end

theorem hallSeen_state (h v : Nat) (st : BitVec 3) (s : State) : (hallSeen h v st s).get F.FLY_HALL_CFG.STATE h = st.toNat :=
  State.get_set_fits (f := F.FLY_HALL_CFG.STATE) (by decide) st.isLt s h 0 0

theorem hallSeen_angle (h o v : Nat) (st : BitVec 3) (s : State) :
    (hallSeen h v st s).get F.FLY_HALL_EDGE.ANGLE h o = s.get F.FLY_HALL_EDGE.ANGLE h o := by
  refine State.get_set_addr _ _ _ _ _ _ _ _ _ _ ?_
  simp only [Fld.addr, F.FLY_HALL_EDGE.ANGLE, F.FLY_HALL_CFG.STATE]
  omega

theorem hallUp_src {h : Nat} (hstale : srcStale s (4 + h) = false) (o v : Nat) (st : BitVec 3) :
    ((hallUp h o v st s).src (4 + h)).theta = (hallSeen h v st s).get F.FLY_HALL_EDGE.ANGLE h o * 2 ^ 48 ∧
      ((hallUp h o v st s).src (4 + h)).dirUp = true := by
  have hclear : F.FLY_SRC_STAT.STALE.addr (4 + h) 0 0 ≠ F.FLY_HALL_CFG.STATE.addr h 0 0 := by
    simp only [Fld.addr, F.FLY_SRC_STAT.STALE, F.FLY_HALL_CFG.STATE]
    omega
  have hseen : ∀ x, srcStale ((hallSeen h v st s).setSrc (4 + h) x) (4 + h) = false := fun _ =>
    (srcStale_of_rd (t := hallSeen h v st s) (set_quiet _ _ _ _ _ _ _ hclear)).trans hstale
  rw [hallUp, srcValid_src (hseen _), State.src_setSrc]
  exact ⟨rfl, rfl⟩

theorem hallUp_sens (h o v : Nat) (st : BitVec 3) (s : State) : ((hallUp h o v st s).sens (4 + h)).sector = some v := by
  have hsens : (hallUp h o v st s).fly.sens = (hallSeen h v st s).fly.sens := srcValid_sens _ _ _
  rw [State.sens_of_fly hsens, hallSeen, State.sens_setSens]

/-! ### Resolvers (R270, R271) -/

/-- A half period within the amplitude's limits. -/
def resMeasured (r : Nat) (a b : Int) (s : State) : State :=
  srcValid (6 + r) ((angleOf b a + 2 ^ 15) / 2 ^ 16 % 2 ^ 16 * 2 ^ 48) (s.setSens (6 + r) { s.sens (6 + r) with ampRun := 0 })

theorem execResolverHalfPeriod_of_within {r : Fin 2} {a b : Int} (hen : s.getB F.FLY_RES_CFG.EN r.val = true) (hready : s.pdReady 7 = true)
    (hlo : (s.get F.FLY_RES_AMP.AMP_LO r.val * s.get F.FLY_RES_AMP.AMP_NOM r.val) ^ 2 ≤ 4096 * (a * a + b * b).natAbs)
    (hhi : 4096 * (a * a + b * b).natAbs ≤ (s.get F.FLY_RES_AMP.AMP_HI r.val * s.get F.FLY_RES_AMP.AMP_NOM r.val) ^ 2) :
    execResolverHalfPeriod r a b s = .next (resMeasured r.val a b s) := by
  rw [sq] at hlo hhi
  have hrun := execResolverHalfPeriod.eq_def r a b s
  rw [hen, hready] at hrun
  exact hrun.trans (congrArg Host.Outcome.next (if_neg (not_or.mpr ⟨Nat.not_lt.mpr hlo, Nat.not_lt.mpr hhi⟩)))

theorem resMeasured_shows {r : Nat} (hstale : srcStale s (6 + r) = false) (a b : Int) :
    ((resMeasured r a b s).src (6 + r)).theta = (angleOf b a + 2 ^ 15) / 2 ^ 16 % 2 ^ 16 * 2 ^ 48 ∧
      ((resMeasured r a b s).sens (6 + r)).ampRun = 0 := by
  have hstale' : ∀ x, srcStale (s.setSens (6 + r) x) (6 + r) = false := fun _ => hstale
  rw [resMeasured, State.sens_of_fly (srcValid_sens _ _ _), State.sens_setSens, srcValid_src (hstale' _)]
  exact ⟨rfl, rfl⟩

/-- A loss of a source that no tracker is bound to. -/
theorem lossOfSrc_of_unbound (h0 : machSrc s 0 ≠ k) (h1 : machSrc s 1 ≠ k) (cause : Nat) : lossOfSrc k cause s = s := by
  simp [lossOfSrc, h0, h1]

theorem machSrc_of_rd {m : Nat} (h : t.rd (F.FLY_MACH_CFG.SRC.addr m 0 0) = s.rd (F.FLY_MACH_CFG.SRC.addr m 0 0)) :
    machSrc t m = machSrc s m := by
  rw [machSrc, State.get_of_rd h, machSrc]

theorem execExcitationFault_of_unbound {r : Fin 2} (h0 : machSrc s 0 ≠ 6 + r.val) (h1 : machSrc s 1 ≠ 6 + r.val) :
    execExcitationFault r true s = .next (s.set F.FLY_RES_CFG.EXC_FAULT 1 r.val) := by
  have hsrc : ∀ m < 2, machSrc (s.set F.FLY_RES_CFG.EXC_FAULT 1 r.val) m = machSrc s m := fun m hm => by
    refine machSrc_of_rd (set_quiet _ _ _ _ _ _ _ ?_)
    simp only [Fld.addr, F.FLY_MACH_CFG.SRC, F.FLY_RES_CFG.EXC_FAULT]
    omega
  have hloss := lossOfSrc_of_unbound ((hsrc 0 (by decide)).trans_ne h0) ((hsrc 1 (by decide)).trans_ne h1) 2
  refine congrArg Host.Outcome.next ?_
  cases s.getB F.FLY_RES_CFG.EXC_FAULT r.val
  · exact hloss
  · rfl

/-! ### Serial interfaces and SENT (R272 to R274) -/

/-- The frame of source `q` is over. -/
def serEnded (q : Nat) (s : State) : State := s.setSens q { s.sens q with busy := false, drop := false }

theorem serEnded_busy (q : Nat) (s : State) : ((serEnded q s).sens q).busy = false := by rw [serEnded, State.sens_setSens]

section
variable {k : Fin 2} (hbusy : (s.sens (8 + k.val)).busy = true) (hdrop : (s.sens (8 + k.val)).drop = false)
include hbusy hdrop

theorem execSerialFrameEnd_of_sound {fr : SerFrame} (hproto : s.getB F.FLY_SER_CFG.PROTO k.val = false)
    (hgray : s.getB F.FLY_SER_CFG.GRAY k.val = false) (hrules : fr.rulesOk = true) : execSerialFrameEnd k fr s =
    .next (srcValid (8 + k.val) (fr.data % 2 ^ s.get F.FLY_SER_CFG.BITS k.val * 2 ^ 64 / 2 ^ s.get F.FLY_SER_CFG.BITS k.val)
      (serEnded (8 + k.val) s)) := by
  unfold execSerialFrameEnd
  dsimp only
  rw [hbusy, hdrop, hproto, hgray, hrules]
  rfl

theorem execSerialTimeout_of_waiting : execSerialTimeout k s = .next (srcError (8 + k.val) (serEnded (8 + k.val) s)) := by
  unfold execSerialTimeout
  dsimp only
  rw [hbusy, hdrop]
  rfl

end

/-- A sound serial message of SENT interface `k`, as its register shows it. -/
def slowShown (k : Nat) (g : SlowMsg) (s : State) : State :=
  (((s.set F.FLY_SENT_SLOW.NEW 1 k).setB F.FLY_SENT_SLOW.ENH g.enh k).set F.FLY_SENT_SLOW.ID g.id.toNat k).set
    F.FLY_SENT_SLOW.DATA g.data.toNat k

theorem slowShown_get (k : Nat) (g : SlowMsg) (s : State) : (slowShown k g s).get F.FLY_SENT_SLOW.NEW k = 1 ∧
    (slowShown k g s).get F.FLY_SENT_SLOW.ID k = g.id.toNat ∧ (slowShown k g s).get F.FLY_SENT_SLOW.DATA k = g.data.toNat := by
  refine ⟨?_, ?_, State.get_set_fits (f := F.FLY_SENT_SLOW.DATA) (by decide) g.data.isLt _ _ _ _⟩
  · rw [slowShown, State.get_set_apart (by decide), State.get_set_apart (by decide), State.setB, State.get_set_apart (by decide),
      State.get_set_one _ _ _ _ _ (by decide) (by decide)]
  · rw [slowShown, State.get_set_apart (by decide)]
    exact State.get_set_fits (f := F.FLY_SENT_SLOW.ID) (by decide) g.id.isLt _ _ _ _

theorem execSentFrame_of_sound {n : Fin 4} {ns : List (Fin 16)} {crc : Fin 16} {g : SlowMsg} (hen : s.getB F.FLY_SENT_CFG.EN n.val = true)
    (hready : s.pdReady 7 = true) (hlen : ns.length = s.get F.FLY_SENT_CFG.NIBBLES n.val)
    (hcrc : crc.val = sentCrc (s.getB F.FLY_SENT_CFG.CRC_MODE n.val) ns) (hok : g.crcOk = true) : execSentFrame n ns crc true (some g) s =
    .next (slowShown n.val g (srcValid (10 + n.val) (ns.foldl (fun x e => 16 * x + e.val) 0 / 2 ^ s.get F.FLY_SENT_CFG.FC_LSB n.val %
      2 ^ s.get F.FLY_SENT_CFG.FC_BITS n.val * 2 ^ 64 / 2 ^ s.get F.FLY_SENT_CFG.FC_BITS n.val) s)) := by
  unfold execSentFrame
  dsimp only
  rw [hen, hready, hlen, hcrc, hok, beq_self_eq_true, beq_self_eq_true]
  rfl

end

/-- Settles O21: each source by the branch its hypotheses name; what follows a measurement reaches neither the sensors' registers nor
their tables. -/
theorem flyerSensors : Obligations.FlyerSensors := by
  intro s m n d abHigh h r k st a b fr ns crc g v p cpr up next q c a2 nom bits fc ok noRun
  refine ⟨?edge, ?illegal, ?index, ?posRead, ?hallFirst, ?hallNext, ?resolver, ?excGone, ?excShown, ?poll, ?frame, ?timeout, ?sent⟩
  case edge =>
    rintro hen ⟨hready, hstale⟩
    have hrun : exec (.encoderEdge n (some d)) s = _ := execEncoderEdge_of_count hen hready
    have hpos : Sensing (F.FLY_ENC_POS.POS.addr n.val 0 0) := by
      simp only [Fld.addr, F.FLY_ENC_POS.POS]
      omega
    obtain ⟨hdir, htheta⟩ := encMeasured_src n.isLt up hstale
    have hsrc := State.src_of_fly (encFollowed_src n.val up (encMeasured n.val up s)) n.val
    refine ⟨_, hrun, (State.get_of_rd (encFollowed_sensing hpos _ _ _)).trans (encMeasured_pos n.isLt up s), ?_, ?_,
      execEncoderEdge_mask rfl rfl rfl rfl rfl rfl rfl rfl n (some d) s hrun⟩
    · exact (congrArg SrcSt.dirUp hsrc).trans hdir
    · exact (congrArg SrcSt.theta hsrc).trans htheta
  case illegal =>
    intro hen hready hrunOut
    have hclear : F.FLY_SRC_CFG.SENS_ERR_N.addr n.val 0 0 ≠ F.FLY_SRC_STAT.ILLEGAL_CNT.addr n.val 0 0 ∧
        F.FLY_ENC_POS.POS.addr n.val 0 0 ≠ F.FLY_SRC_STAT.ILLEGAL_CNT.addr n.val 0 0 := by
      simp only [Fld.addr, F.FLY_SRC_CFG.SENS_ERR_N, F.FLY_SRC_STAT.ILLEGAL_CNT, F.FLY_ENC_POS.POS]
      omega
    have hn : n.val < 14 := by omega
    have hsrc := illegalCounted_src n.val s n.val
    have hrun : exec (.encoderEdge n none) s = _ := execEncoderEdge_of_illegal hen hready
    have hframe := execEncoderEdge_mask (K := .flyer) rfl rfl rfl rfl rfl rfl rfl rfl n none s hrun
    rw [srcError_of_noRun hn (by rw [hsrc, State.get_of_rd (illegalCounted_rd hclear.1 s)]; exact hrunOut)] at hrun hframe
    refine ⟨_, hrun, ?_, ?_, ?_, hframe⟩
    · rw [errCounted_stat (f := F.FLY_SRC_STAT.ILLEGAL_CNT) hn rfl (by decide) (by decide)]
      exact State.get_bump_self (by decide) (by decide) (by decide) (by decide) (by decide)
    · rw [errCounted_src, hsrc]
    · refine State.get_of_rd ((errCounted_rd (quiet_encPos n.isLt) hclear.2 _).trans (illegalCounted_rd hclear.2 s))
  case index =>
    intro hen hready hgate hfirst
    have hrun : exec (.encoderIndex n abHigh) s = _ := execEncoderIndex_of_first hen hready hgate hfirst
    obtain ⟨hidx, hrev⟩ := sensing_encIdx n.isLt
    obtain ⟨hpos, hseen, hturns⟩ := idxShown_get n.val s
    exact ⟨_, hrun, (idxAcquired_firstIndex_get hidx s).trans hpos,
      (idxAcquired_firstIndex_get (f := F.FLY_ENC_IDX.INDEX_SEEN) hidx s).trans hseen, idxAcquired_firstIndex_sens n.val s,
      (idxAcquired_firstIndex_get hrev s).trans hturns, execEncoderIndex_mask rfl rfl rfl rfl rfl rfl rfl rfl _ _ _ hrun⟩
  case posRead =>
    intro hw hready
    have hrun : exec (.encPosRead m n) s = _ := execEncPosRead_of_writer hw hready
    exact ⟨_, hrun, rfl, State.get_set_fits (f := F.FLY_ENC_REV.REV) (by decide) (unsigned_lt 32 _) s _ _ _, State.regsOnly_set s _ _ _ _ _,
      execEncPosRead_mask rfl rfl _ _ _ hrun⟩
  case hallFirst =>
    intro hen hready hdir hsector hnone
    have hrun : exec (.hallTransition h st) s = _ := execHallTransition_of_first hen hready hdir hsector hnone
    refine ⟨_, hrun, hallSeen_state _ _ _ _, ?_, execHallTransition_mask rfl rfl rfl rfl rfl rfl rfl rfl _ _ _ hrun⟩
    rw [hallSeen, State.sens_setSens]
  case hallNext =>
    rintro o hen ⟨hready, hstale⟩ hdir hsector hold _ hup
    have hrun : exec (.hallTransition h st) s = _ := execHallTransition_of_up hen hready hdir hsector hold hup
    obtain ⟨htheta, hdirUp⟩ := hallUp_src hstale o v st
    refine ⟨_, hrun, ?_, ?_, ?_, execHallTransition_mask rfl rfl rfl rfl rfl rfl rfl rfl _ _ _ hrun⟩
    · rw [State.src_of_fly (hallAcquired_src _ _ _), htheta, hallSeen_angle]
    · rw [State.src_of_fly (hallAcquired_src _ _ _), hdirUp]
    · rw [State.sens_of_fly (hallAcquired_sens _ _ _), hallUp_sens]
  case resolver =>
    rintro hen ⟨hready, hstale⟩ hlo hhi
    have hrun : exec (.resolverHalfPeriod r a b) s = _ := execResolverHalfPeriod_of_within hen hready hlo hhi
    obtain ⟨htheta, hamp⟩ := resMeasured_shows hstale a b
    exact ⟨_, hrun, htheta, hamp, execResolverHalfPeriod_mask rfl rfl rfl rfl rfl rfl rfl rfl _ _ _ _ hrun⟩
  case excGone => exact ⟨_, rfl, rfl⟩
  case excShown => exact fun h0 h1 => ⟨_, execExcitationFault_of_unbound h0 h1, rfl⟩
  case poll =>
    intro hen hready hidle
    refine ⟨_, ?_, rfl⟩
    change execSerialPoll k s = _
    rw [execSerialPoll, hen, hready, hidle]
    rfl
  case frame =>
    intro hbusy hdrop hstale hproto hgray hrules
    have hrun : exec (.serialFrameEnd k fr) s = _ := execSerialFrameEnd_of_sound hbusy hdrop hproto hgray hrules
    have hstale' : srcStale (serEnded q s) q = false := hstale
    refine ⟨_, hrun, congrArg SrcSt.theta (srcValid_src hstale' _), ?_, execSerialFrameEnd_mask rfl rfl rfl rfl rfl rfl rfl rfl _ _ _ hrun⟩
    rw [State.sens_of_fly (srcValid_sens _ _ _), serEnded_busy]
  case timeout =>
    intro hbusy hdrop hrunOut
    have hrun : exec (.serialTimeout k) s = _ := execSerialTimeout_of_waiting hbusy hdrop
    have hframe := execSerialTimeout_mask (K := .flyer) rfl rfl rfl rfl rfl rfl rfl rfl _ _ hrun
    rw [srcError_of_noRun (s := serEnded (8 + k.val) s) (by omega) hrunOut] at hrun hframe
    refine ⟨_, hrun, congrArg SrcSt.errRun (errCounted_src _ _), ?_, hframe⟩
    rw [State.sens_of_fly (errCounted_sens _ _), serEnded_busy]
  case sent =>
    rintro hen ⟨hready, hstale⟩ hlen hcrc hok
    have hrun : exec (.sentFrame n ns crc true (some g)) s = _ := execSentFrame_of_sound hen hready hlen hcrc hok
    obtain ⟨hnew, hid, hdata⟩ := slowShown_get n.val g (srcValid c (ns.foldl (fun x e => 16 * x + e.val) 0 /
      2 ^ s.get F.FLY_SENT_CFG.FC_LSB n.val % 2 ^ fc * 2 ^ 64 / 2 ^ fc) s)
    exact ⟨_, hrun, congrArg SrcSt.theta (srcValid_src hstale _), hnew, hid, hdata,
      execSentFrame_mask rfl rfl rfl rfl rfl rfl rfl rfl n ns crc true (some g) s hrun⟩

end Sys2Proof.Machine

/-! Trackers, their loss and acquisition, the compare unit and the emulation (09_flyer.md R275 to R296; 08_pwm_gate.md R259;
10_machine_control.md R319): what the reaction to a loss leaves of the Flyer's registers, what a loss, an acquisition and a report write,
and the obligation about them, O22. -/

namespace Sys2Proof.Machine
open Sys2Proof

section
variable {s t : State} {a k : Nat}

/-! ### Registers of the Flyer under the reaction to a loss (R318 to R320) -/

/-- A register of the Flyer, block 10. -/
abbrev Flying (a : Nat) : Prop := 0x300A0000 ≤ a ∧ a < 0x300B0000

theorem Flying.offChannel (h : Flying a) (c : Nat) : OffChannel c a := by
  obtain ⟨hlo, hhi⟩ := h
  refine ⟨⟨⟨?_, ?_⟩, ?_⟩, ?_, ?_, ?_⟩ <;> omega

theorem Flying.offLegs (h : Flying a) : OffLegs a := (h.offChannel 0).1

theorem Flying.quiet (h : Flying a) : Quiet a := h.offLegs.1

/-- A register of a block above the Flyer's. -/
theorem set_flying (h : Flying a) (s : State) (f : Fld) (v i : Nat) (hf : 0x300B0000 ≤ f.base) : (s.set f v i).rd a = s.rd a := by
  refine set_quiet _ _ _ _ _ _ _ ?_
  simp only [Fld.addr]
  omega

theorem disarm_flying (h : Flying a) {ls : List Nat} (hls : ∀ l ∈ ls, l < 32) (s : State) : (disarm ls s).rd a = s.rd a :=
  foldl_keeps (·.rd a) (fun s l => (s.set F.PWM_LEG_CFG.ARM 0 l).setLeg l { s.leg l with armed := false }) _
    (fun l hl s => setLegCfg_rd h.offLegs s F.PWM_LEG_CFG.ARM 0 l ⟨rfl, rfl⟩ (hls l hl)) s

theorem enterState_flying (h : Flying a) (p st : Nat) (s : State) : (enterState p st s).rd a = s.rd a := by
  have hlegs : (enforceLegs (legsOfSet s p) (s.set F.GIF_PSET_STAT.STATE st p)).rd a = s.rd a :=
    (enforceLegs_quiet _ _ _ h.quiet).trans (set_flying h _ _ _ _ (by decide))
  unfold enterState
  dsimp only
  split
  · exact hlegs
  · exact (cnvTripSet_rd (fun c _ => h.offChannel c) _ _).trans hlegs

theorem lossOff_rd (h : OffLegs a) (p : Nat) (on : Bool) (s : State) : (lossOff p on s).rd a = s.rd a := by
  refine foldl_keeps (·.rd a) _ _ (fun l hl s => ?_) s
  dsimp only
  split
  · rfl
  · exact (enforceLeg_quiet _ _ _ h.1).trans (showOffReq_rd h (mem_legsOfSet_lt hl) _)

theorem lossAsc_flying (h : Flying a) (p : Nat) (s : State) : (lossAsc p s).rd a = s.rd a := by
  unfold lossAsc ascWith
  dsimp only
  rw [raise_quiet _ _ _ (by decide) h.quiet, set_flying h _ _ _ _ (by decide), set_flying h _ _ _ _ (by decide), issueFor_rd,
    psetAsh_rd (h.offChannel 0).2.1, set_flying h _ _ _ _ (by decide), enterState_flying h, disarm_flying h (fun _ => mem_legsOfSet_lt)]

theorem reacqStart_flying (h : Flying a) (p : Nat) (s : State) : (reacqStart p s).rd a = s.rd a := set_flying h _ _ _ _ (by decide)

section
variable {f : Fld} {i : Nat} (h : Flying (f.addr i 0 0)) (hf : F.FLY_MACH_STAT.EMF_LOCK.Apart f)
include h hf

theorem showLock_get (m : Nat) (b : Bool) (s : State) : (showLock m b s).get f i = s.get f i := by
  unfold showLock
  split
  · rfl
  · rw [State.get_of_rd (raise_quiet _ _ _ (by decide) h.quiet), State.setB, State.get_set_apart hf]

theorem coastSet_get (p : Nat) (s : State) : (coastSet p s).get f i = s.get f i := by
  have hset : ∀ (u : State) (g : Fld) (v q : Nat), 0x300B0000 ≤ g.base → (u.set g v q).get f i = u.get f i := fun u g v q hg =>
    State.get_of_rd (set_flying h u g v q hg)
  unfold coastSet
  dsimp only
  rw [State.get_of_rd (raise_quiet _ _ _ (by decide) h.quiet), State.get_of_rd (reacqStart_flying h _ _), hset _ _ _ _ (by decide),
    hset _ _ _ _ (by decide), issueFor_get, State.get_of_rd (psetAsh_rd (h.offChannel 0).2.1 _ _ _ _), hset _ _ _ _ (by decide)]
  exact (showLock_get h hf _ _ _).trans (State.get_of_rd (lossOff_rd h.offLegs _ _ _))

theorem lossCoast_get (p : Nat) (s : State) : (lossCoast p s).get f i = s.get f i := by
  refine Eq.trans (ite_keeps (p := (·.get f i)) ?_) (coastSet_get h hf p s)
  exact foldl_keeps (·.get f i) _ _ (fun q _ t => ite_keeps (p := (·.get f i)) (coastSet_get h hf q t)) _

/-- The reaction to a loss leaves the Flyer's registers but for EMF_LOCK. -/
theorem lossReact_get (m : Nat) (s : State) : (lossReact m s).get f i = s.get f i := by
  refine foldl_keeps (·.get f i) _ _ (fun p _ s => ite_keeps (p := (·.get f i)) ?_) s
  split
  · exact State.get_of_rd ((reacqStart_flying h _ _).trans (lossAsc_flying h p s))
  · exact lossCoast_get h hf p s

end

/-! ### Loss (R287, R288) -/

/-- The status of a tracker that is lost with a cause. -/
def lossShown (m cause : Nat) (s : State) : State :=
  ((s.setBit F.FLY_MACH_STAT.LOSS_ALL (cause - 1) true m).set F.FLY_MACH_STAT.LOST 1 m).set F.FLY_MACH_STAT.LOSS_CAUSE cause m

/-- A tracker that is lost with a cause, with its speed kept and its source to prove itself anew. -/
def lossNoted (m cause : Nat) (s : State) : State :=
  let u := lossShown m cause s
  let u := u.setTrk m { s.trk m with
    alpha := 0, lossSpd := elSpeed u m (s.trk m).omega, stepCauses := putBit (s.trk m).stepCauses cause true }
  let u := u.set F.FLY_MACH_STAT.XCHK_ACT 0 m
  u.setSrc (srcKey u m) { u.src (srcKey u m) with goodRun := 0 }

theorem lossNoted_get {f : Fld} {i m : Nat} (h : ∀ u : State, (u.set F.FLY_MACH_STAT.XCHK_ACT 0 m).get f i = u.get f i) (cause : Nat)
    (s : State) : (lossNoted m cause s).get f i = (lossShown m cause s).get f i :=
  (State.get_of_regs (State.setSrc_regs _ _ _) _ _ _ _).trans ((h _).trans (State.get_of_regs (State.setTrk_regs _ _ _) _ _ _ _))

theorem declareLoss_of_held {m : Nat} (hen : s.getB F.FLY_MACH_CFG.EN m = true) (hlost : s.getB F.FLY_MACH_STAT.LOST m = false)
    (cause : Nat) : declareLoss m cause s = lossReact m (raise 129
      (issue (0x0600 + cause) ((lossNoted m cause s).get F.FLY_MACH_LOSS.LOSS_CLASS m) (lossNoted m cause s))) := by
  unfold declareLoss lossNoted lossShown
  rw [hen, if_neg (by decide)]
  dsimp only
  rw [hlost, if_neg Bool.false_ne_true]

theorem flying_machStat {m : Nat} (hm : m < 2) : Flying (F.FLY_MACH_STAT.LOST.addr m 0 0) := by
  simp only [Fld.addr, F.FLY_MACH_STAT.LOST]
  omega

theorem lossNoted_shows {cause : Nat} (hc : cause < 16) (m : Nat) (s : State) : (lossNoted m cause s).get F.FLY_MACH_STAT.LOST m = 1 ∧
    (lossNoted m cause s).get F.FLY_MACH_STAT.LOSS_CAUSE m = cause := by
  have happ : ∀ f : Fld, F.FLY_MACH_STAT.XCHK_ACT.Apart f → (lossNoted m cause s).get f m = (lossShown m cause s).get f m := fun f hf =>
    lossNoted_get (fun u => State.get_set_apart hf u _ _ _ _ _ _ _) cause s
  rw [happ _ (by decide), happ _ (by decide), lossShown, State.get_set_apart (by decide), State.get_set_one _ _ _ _ _ (by decide) (by decide)]
  exact ⟨rfl, State.get_set_fits (f := F.FLY_MACH_STAT.LOSS_CAUSE) (by decide) hc _ _ _ _⟩

theorem declareLoss_shows {m cause : Nat} (hm : m < 2) (hc : cause < 16) (hen : s.getB F.FLY_MACH_CFG.EN m = true)
    (hlost : s.getB F.FLY_MACH_STAT.LOST m = false) : (declareLoss m cause s).get F.FLY_MACH_STAT.LOST m = 1 ∧
      (declareLoss m cause s).get F.FLY_MACH_STAT.LOSS_CAUSE m = cause := by
  have hreact : ∀ f : Fld, f.addr m 0 0 = F.FLY_MACH_STAT.LOST.addr m 0 0 → F.FLY_MACH_STAT.EMF_LOCK.Apart f →
      (declareLoss m cause s).get f m = (lossNoted m cause s).get f m := fun f hf happ => by
    have hfly : Flying (f.addr m 0 0) := hf ▸ flying_machStat hm
    rw [declareLoss_of_held hen hlost, lossReact_get hfly happ, State.get_of_rd (raise_quiet _ _ _ (by decide) hfly.quiet), issue_get]
  rw [hreact _ rfl (by decide), hreact F.FLY_MACH_STAT.LOSS_CAUSE rfl (by decide)]
  exact lossNoted_shows hc m s

/-- A loss writes of the Flyer's registers its own tracker's status, and EMF_LOCK of others. -/
theorem declareLoss_get {f : Fld} {i m : Nat} (h : Flying (f.addr i 0 0)) (hf : F.FLY_MACH_STAT.EMF_LOCK.Apart f)
    (hne : f.addr i 0 0 ≠ F.FLY_MACH_STAT.LOST.addr m 0 0) (cause : Nat) (s : State) : (declareLoss m cause s).get f i = s.get f i := by
  have hset : ∀ (u : State) (g : Fld) (v : Nat), g.addr m 0 0 = F.FLY_MACH_STAT.LOST.addr m 0 0 → (u.set g v m).get f i = u.get f i :=
    fun u g v hg => State.get_set_addr _ _ _ _ _ _ _ _ _ _ (hg ▸ hne)
  have hall : (s.setBit F.FLY_MACH_STAT.LOSS_ALL (cause - 1) true m).get f i = s.get f i := hset _ F.FLY_MACH_STAT.LOSS_ALL _ rfl
  have hnoted : (lossNoted m cause s).get f i = s.get f i := by
    rw [lossNoted_get (fun u => hset u F.FLY_MACH_STAT.XCHK_ACT _ rfl), lossShown, hset _ F.FLY_MACH_STAT.LOSS_CAUSE _ rfl,
      hset _ F.FLY_MACH_STAT.LOST _ rfl, hall]
  cases hen : s.getB F.FLY_MACH_CFG.EN m
  · rw [declareLoss, hen]
    rfl
  cases hlost : s.getB F.FLY_MACH_STAT.LOST m
  · rw [declareLoss_of_held hen hlost, lossReact_get h hf, State.get_of_rd (raise_quiet _ _ _ (by decide) h.quiet), issue_get, hnoted]
  · unfold declareLoss
    rw [hen, if_neg (by decide)]
    dsimp only
    rw [hlost, if_pos rfl]
    exact (ite_keeps (p := (·.get f i)) (hset _ F.FLY_MACH_STAT.LOSS_CAUSE _ rfl)).trans hall

/-- A source's time-out, before the trackers on it are lost. -/
def timeoutShown (k : Nat) (s : State) : State := (s.set F.FLY_SRC_STAT.TIMEOUT 1 k).setSrc k { s.src k with goodRun := 0 }

theorem execMeasurementTimeout_of_on {k : Fin 14} (h : s.get F.FLY_SRC_CFG.MEAS_TMO k.val ≠ 0) :
    execMeasurementTimeout k s = .next (lossOfSrc k.val 4 (timeoutShown k.val s)) := by
  rw [execMeasurementTimeout, if_neg (by simpa using h)]
  rfl

/-- A field that no loss writes. -/
theorem lossOfSrc_get {f : Fld} {i : Nat} (h : Flying (f.addr i 0 0)) (hf : F.FLY_MACH_STAT.EMF_LOCK.Apart f)
    (hne : ∀ m < 2, f.addr i 0 0 ≠ F.FLY_MACH_STAT.LOST.addr m 0 0) (k cause : Nat) (s : State) :
    (lossOfSrc k cause s).get f i = s.get f i := by
  refine foldl_keeps (·.get f i) _ _ (fun m hm s => ite_keeps (p := (·.get f i)) (declareLoss_get h hf (hne m ?_) cause s)) s
  simp only [List.mem_cons, List.not_mem_nil, or_false] at hm
  omega

/-- Tracker `m` is on source `k`, enabled and not lost. -/
def HeldOn (k m : Nat) (s : State) : Prop :=
  machSrc s m = k ∧ s.getB F.FLY_MACH_CFG.EN m = true ∧ s.getB F.FLY_MACH_STAT.LOST m = false

/-- Tracker `m` is lost with a cause. -/
def LostBy (cause m : Nat) (s : State) : Prop := s.get F.FLY_MACH_STAT.LOST m = 1 ∧ s.get F.FLY_MACH_STAT.LOSS_CAUSE m = cause

section
variable {m x : Nat} (hm : m < 2) (hne : m ≠ x)
include hm hne

theorem apart_machines : Flying (F.FLY_MACH_CFG.EN.addr m 0 0) ∧ F.FLY_MACH_CFG.EN.addr m 0 0 ≠ F.FLY_MACH_STAT.LOST.addr x 0 0 ∧
    F.FLY_MACH_STAT.LOST.addr m 0 0 ≠ F.FLY_MACH_STAT.LOST.addr x 0 0 := by
  simp only [Fld.addr, F.FLY_MACH_CFG.EN, F.FLY_MACH_STAT.LOST]
  omega

theorem HeldOn.declareLoss (cause : Nat) (h : HeldOn k m s) : HeldOn k m (declareLoss x cause s) := by
  obtain ⟨hfly, hcfg, hstat⟩ := apart_machines hm hne
  obtain ⟨hsrc, hen, hlost⟩ := h
  refine ⟨?_, ?_, ?_⟩
  · rw [machSrc, declareLoss_get (f := F.FLY_MACH_CFG.SRC) hfly (by decide) hcfg]
    exact hsrc
  · rw [State.getB, declareLoss_get hfly (by decide) hcfg]
    exact hen
  · rw [State.getB, declareLoss_get (flying_machStat hm) (by decide) hstat]
    exact hlost

theorem LostBy.declareLoss {cause : Nat} (c : Nat) (h : LostBy cause m s) : LostBy cause m (declareLoss x c s) := by
  obtain ⟨-, -, hstat⟩ := apart_machines hm hne
  obtain ⟨hlost, hcause⟩ := h
  refine ⟨?_, ?_⟩
  · rw [declareLoss_get (flying_machStat hm) (by decide) hstat, hlost]
  · rw [declareLoss_get (f := F.FLY_MACH_STAT.LOSS_CAUSE) (flying_machStat hm) (by decide) hstat, hcause]

end

/-- The time-out itself ends no tracker's hold. -/
theorem timeoutShown_held {m : Nat} (h : HeldOn k m s) : HeldOn k m (timeoutShown k s) := by
  have hclear : ∀ f : Fld, (f.base = 0x300A1000 ∨ f.base = 0x300A1018) ∧ f.s1 = 64 → (timeoutShown k s).get f m = s.get f m := by
    rintro f ⟨hb, hs⟩
    refine State.get_set_addr _ _ _ _ _ _ _ _ _ _ ?_
    simp only [Fld.addr, hs, F.FLY_SRC_STAT.TIMEOUT]
    omega
  obtain ⟨hsrc, hen, hlost⟩ := h
  exact ⟨(hclear F.FLY_MACH_CFG.SRC (by decide)).trans hsrc, (congrArg (· != 0) (hclear F.FLY_MACH_CFG.EN (by decide))).trans hen,
    (congrArg (· != 0) (hclear F.FLY_MACH_STAT.LOST (by decide))).trans hlost⟩

/-- An enabled tracker on the source that was not lost is lost with the cause. -/
theorem lossOfSrc_lost {m cause : Nat} (hm : m < 2) (hc : cause < 16) (h : HeldOn k m s) : LostBy cause m (lossOfSrc k cause s) := by
  refine foldl_establishes (Q := HeldOn k m) (k := m) (by simp; omega) (by decide) (fun x _ hx u hu => ?_) (fun u hu => ?_)
    (fun x _ hx u hu => ?_) h
  · split
    · exact hu.declareLoss hm hx.symm cause
    · exact hu
  · obtain ⟨hsrc, hen, hlost⟩ := hu
    rw [if_pos (beq_iff_eq.mpr hsrc)]
    exact declareLoss_shows hm hc hen hlost
  · split
    · exact hu.declareLoss hm hx.symm cause
    · exact hu

/-! ### Acquisition (R280, R289) -/

theorem acquire_shows {m : Nat} (hm : m < 2) (theta ofs : Nat) (s : State) : (acquire m theta ofs s).get F.FLY_MACH_STAT.ACQUIRED m = 1 ∧
    (acquire m theta ofs s).get F.FLY_MACH_STAT.SPEED_VALID m = 0 := by
  have hraise : ∀ f : Fld, f.addr m 0 0 = F.FLY_MACH_STAT.LOST.addr m 0 0 → ∀ u : State, (raise 128 u).get f m = u.get f m := fun f hf u =>
    State.get_of_rd (raise_quiet _ _ _ (by decide) (hf ▸ (flying_machStat hm).quiet))
  unfold acquire
  dsimp only
  rw [hraise F.FLY_MACH_STAT.ACQUIRED rfl, hraise F.FLY_MACH_STAT.SPEED_VALID rfl, State.get_set_apart (by decide),
    State.get_set_apart (by decide), State.get_set_one _ _ _ _ _ (by decide) (by decide), State.get_set_apart (by decide),
    State.get_set_zero _ _ _ _ _ (by decide) (by decide)]
  exact ⟨rfl, rfl⟩

theorem acquire_trk (m theta ofs : Nat) (s : State) : ((acquire m theta ofs s).trk m).theta = theta ∧
    ((acquire m theta ofs s).trk m).turns = 0 ∧ ((acquire m theta ofs s).trk m).counts = 0 := by
  unfold acquire
  dsimp only
  rw [State.trk_of_fly (congrArg FlySt.trk (raise_fly _ _))]
  simp only [State.trk_of_fly (congrArg FlySt.trk (State.set_fly _ _ _ _ _ _)), State.trk_setTrk]
  exact ⟨trivial, trivial, trivial⟩

/-- The end of a loss: the tracker is to be acquired anew. -/
def lossEnded (m : Nat) (s : State) : State :=
  ((s.set F.FLY_MACH_STAT.LOST 0 m).set F.FLY_MACH_STAT.SPD_FROM_EMF 0 m).set F.FLY_MACH_STAT.ACQUIRED 0 m

theorem lossEnded_shows (m : Nat) (s : State) : (lossEnded m s).get F.FLY_MACH_STAT.LOST m = 0 ∧
    (lossEnded m s).get F.FLY_MACH_STAT.ACQUIRED m = 0 := by
  rw [lossEnded, State.get_set_apart (by decide), State.get_set_apart (by decide), State.get_set_zero _ _ _ _ _ (by decide) (by decide),
    State.get_set_zero _ _ _ _ _ (by decide) (by decide)]
  exact ⟨rfl, rfl⟩

theorem lossCleared_flying (h : Flying a) (m : Nat) (s : State) : (lossCleared m s).rd a = s.rd a :=
  foldl_keeps (·.rd a) _ _ (fun p _ s => ite_keeps (p := (·.rd a)) (set_flying h s F.GIF_PSET_LOSS.LSTATE 0 p (by decide))) s

theorem lossCleared_fly (m : Nat) (s : State) : (lossCleared m s).fly = s.fly :=
  fly_of_mask (K := { regs := true }) rfl (lossCleared_mask rfl m s)

/-- What R289 asks of source `k` before a loss may end. -/
structure SourceSound (s : State) (k : Nat) : Prop where
  proved : max 1 (s.get F.FLY_SRC_CFG.SENS_ERR_N k) ≤ (s.src k).goodRun
  fresh : srcStale s k = false
  inTime : s.getB F.FLY_SRC_STAT.TIMEOUT k = false
  excited : 6 ≤ k → k ≤ 7 → s.getB F.FLY_RES_CFG.EXC_FAULT (k - 6) = false

theorem srcKey_of_source {m : Nat} (h : machSrc s m < 14) : srcKey s m = machSrc s m := if_neg (by omega)

theorem machAcq_of_sound {mst : Master} {m : Nat} (hm : checkedOutput mst = true) (hen : s.getB F.FLY_MACH_CFG.EN m = true)
    (hlost : s.getB F.FLY_MACH_STAT.LOST m = true) (hk : machSrc s m < 14) (h : SourceSound s (machSrc s m)) :
    machAcq mst m false s = lossCleared m (lossEnded m s) := by
  obtain ⟨hproved, hfresh, hinTime, hexcited⟩ := h
  have hexc : ((machSrc s m == 6 || machSrc s m == 7) && s.getB F.FLY_RES_CFG.EXC_FAULT (machSrc s m - 6)) = false := by
    by_cases hres : 6 ≤ machSrc s m ∧ machSrc s m ≤ 7
    · rw [hexcited hres.1 hres.2, Bool.and_false]
    · rw [Bool.and_eq_false_iff]
      left
      simp only [Bool.or_eq_false_iff, beq_eq_false_iff_ne]
      omega
  unfold machAcq
  dsimp only
  rw [srcKey_of_source hk, hm, hen, hlost, hfresh, hinTime, hexc, if_pos hk, decide_eq_true hproved, decide_eq_true (by omega : machSrc s m < 15),
    Bool.and_false]
  rfl

theorem machAcq_of_unlost {mst : Master} {m : Nat} (hm : checkedOutput mst = true) (hen : s.getB F.FLY_MACH_CFG.EN m = true)
    (hlost : s.getB F.FLY_MACH_STAT.LOST m = false) (hk : machSrc s m < 4) :
    machAcq mst m true s = acquireEnc m (s.get F.FLY_MACH_ASET.ANGLE_SET m * 2 ^ 32) s := by
  unfold machAcq
  dsimp only
  rw [hm, hen, hlost, Bool.false_and, if_neg (by decide), if_neg Bool.false_ne_true, if_neg Bool.false_ne_true, decide_eq_true hk]
  rfl

/-! ### A step of a tracker (R276, R278, R283 to R285) -/

/-- SPD and what the status shows of a tracker's speed `w`. -/
def spdShown (m : Nat) (w : Int) (emf : Bool) (s : State) : State :=
  let u := s.setI F.FLY_MACH_SPD.SPD (clampI min32 max32 (spdBand s m w)) m
  let u := (u.setB F.FLY_MACH_STAT.SPD_FROM_EMF emf m).setB F.FLY_MACH_STAT.SPEED_LOW
    (decide (w.natAbs < u.get F.FLY_MACH_SMIN.SPEED_MIN m)) m
  if w.natAbs > u.get F.FLY_MACH_SMIN.SPEED_MIN m + u.get F.FLY_MACH_SHYS.SPEED_HYS m then u.setB F.FLY_MACH_STAT.DIR (decide (w < 0)) m
  else u

theorem spdShown_stat {f : Fld} {m : Nat} (hf : f.addr m 0 0 = F.FLY_MACH_STAT.LOST.addr m 0 0) (hemf : F.FLY_MACH_STAT.SPD_FROM_EMF.Apart f)
    (hlow : F.FLY_MACH_STAT.SPEED_LOW.Apart f) (hdir : F.FLY_MACH_STAT.DIR.Apart f) (w : Int) (emf : Bool) (s : State) :
    (spdShown m w emf s).get f m = s.get f m := by
  have hspd : f.addr m 0 0 ≠ F.FLY_MACH_SPD.SPD.addr m 0 0 := by
    rw [hf]
    simp only [Fld.addr, F.FLY_MACH_STAT.LOST, F.FLY_MACH_SPD.SPD]
    omega
  refine Eq.trans (ite_keeps (p := (·.get f m)) (State.get_set_apart hdir _ _ _ _ _ _ _ _)) ?_
  rw [State.setB, State.get_set_apart hlow, State.setB, State.get_set_apart hemf, State.setI, State.get_set_addr _ _ _ _ _ _ _ _ _ _ hspd]

theorem spdShown_fly (m : Nat) (w : Int) (emf : Bool) (s : State) : (spdShown m w emf s).fly = s.fly := by
  refine Eq.trans (ite_keeps (p := (·.fly)) (State.setB_fly _ _ _ _ _ _)) ?_
  rw [State.setB_fly, State.setB_fly, State.setI_fly]

/-- What a report goes on to: the speed becomes valid after counts enough, and a valid one reaches the protection sets. -/
def speedReported (m : Nat) (x : TrkSt) (spd : Int) (s : State) : State :=
  let s := if !s.getB F.FLY_MACH_STAT.SPEED_VALID m && decide (2 ≤ x.counts) &&
        decide ((x.steps - x.acqStep) * 2000 * (twoPi * s.get F.FLY_MACH_CFG.OBS_BW m) ≥ 3200000000 * 2 ^ 64) then
      raise 136 (s.set F.FLY_MACH_STAT.SPEED_VALID 1 m) else s
  if s.getB F.FLY_MACH_STAT.SPEED_VALID m then
    let s := { s with pwm := { s.pwm with
      lastSpd := SMap.put 0 s.pwm.lastSpd m spd, lastThe := SMap.put 0 s.pwm.lastThe m (angle32 (elAngle s m x.theta)) } }
    (List.range 16).foldl (fun s p => if s.get F.GIF_PSET_CFG.SPD_SRC p == m then aboveChanged p s else s) s
  else s

/-- The two halves of a report. -/
theorem trkReport_eq (m : Nat) (s : State) : ∃ w emf, trkReport m s = speedReported m (s.trk m) (spdBand s m w) (spdShown m w emf s) := by
  refine ⟨(spdSource s m (s.trk m).omega (s.emf m).omega).1, (spdSource s m (s.trk m).omega (s.emf m).omega).2, ?_⟩
  unfold trkReport spdShown speedReported
  rfl

/-- A tracker whose speed is not valid yet, on fewer than two counts, reports its speed and nothing more. -/
theorem trkReport_of_uncounted {m : Nat} (hvalid : s.get F.FLY_MACH_STAT.SPEED_VALID m = 0) (hcounts : (s.trk m).counts < 2) :
    ∃ w emf, trkReport m s = spdShown m w emf s := by
  obtain ⟨w, emf, hrun⟩ := trkReport_eq m s
  refine ⟨w, emf, hrun.trans ?_⟩
  have hshown : (spdShown m w emf s).getB F.FLY_MACH_STAT.SPEED_VALID m = false := by
    rw [State.getB, spdShown_stat (f := F.FLY_MACH_STAT.SPEED_VALID) rfl (by decide) (by decide) (by decide), hvalid]
    rfl
  have hcount : decide (2 ≤ (s.trk m).counts) = false := decide_eq_false (by omega)
  rw [speedReported, hcount, Bool.and_false, Bool.false_and, if_neg Bool.false_ne_true, hshown]
  rfl

/-- A step of tracker `m` is counted, and every 40th lets the REACQ timers of its sets go on. -/
def stepCounted (m : Nat) (s : State) : State :=
  reacqTick m (s.setTrk m { s.trk m with steps := (s.trk m).steps + 1, stepCauses := 0 })

theorem stepCounted_flying (h : Flying a) (m : Nat) (s : State) : (stepCounted m s).rd a = s.rd a := by
  refine Eq.trans (ite_keeps (p := (·.rd a)) ?_) (State.rd_of_regs (State.setTrk_regs s m _) a)
  exact foldl_keeps (·.rd a) _ _
    (fun p _ s => ite_keeps (p := (·.rd a)) (set_flying h s F.GIF_PSET_LOSS.REACQ_LEFT _ p (by decide))) _

theorem stepCounted_fly (m : Nat) (s : State) : (stepCounted m s).fly =
    (s.setTrk m { s.trk m with steps := (s.trk m).steps + 1, stepCauses := 0 }).fly :=
  fly_of_mask (K := { regs := true }) rfl (reacqTick_mask rfl m _)

theorem stepCounted_getB {f : Fld} {i : Nat} (h : Flying (f.addr i 0 0)) (m : Nat) (s : State) :
    (stepCounted m s).getB f i = s.getB f i := State.getB_of_rd (stepCounted_flying h m s)

theorem flying_machCfg {m : Nat} (hm : m < 2) : Flying (F.FLY_MACH_CFG.EN.addr m 0 0) := by
  simp only [Fld.addr, F.FLY_MACH_CFG.EN]
  omega

theorem execTrackerStep_of_off {mach : Fin 2} {age : Nat} (hready : s.pdReady 7 = true) (hen : s.getB F.FLY_MACH_CFG.EN mach.val = false) :
    execTrackerStep mach age s =
      .next (((stepCounted mach.val s).set F.FLY_MACH_STAT.ACQUIRED 0 mach.val).set F.FLY_MACH_STAT.XCHK_ACT 0 mach.val) := by
  have hen' := (stepCounted_getB (flying_machCfg mach.isLt) mach.val s).trans hen
  refine (execTrackerStep.eq_def mach age s).trans (congrArg Host.Outcome.next ((if_neg ?_).trans (if_pos ?_)))
  · simp [hready]
  · exact congrArg (!·) hen'

/-- The measurement of source `k` still to apply by machine `m`. -/
def toApply (m : Nat) (x : SrcSt) : Bool := if m = 0 then x.fresh0 else x.fresh1

/-- Machine `m` has taken the measurement of source `k`. -/
def measurementTaken (m k : Nat) (s : State) : State :=
  s.setSrc k (if m = 0 then { s.src k with fresh0 := false } else { s.src k with fresh1 := false })

/-- The rest of an enabled tracker's step, with the measurement of source `k`. -/
def trkStepped (m age k : Nat) (s : State) : State :=
  let fresh := toApply m (s.src k) && !srcStale s k && decide (machSrc s m < 15)
  let u := measurementTaken m k s
  trkReport m (if u.getB F.FLY_MACH_STAT.ACQUIRED m then trkPropagate m age fresh u
    else if fresh && decide (4 ≤ machSrc u m) && !u.getB F.FLY_MACH_STAT.LOST m then acquire m (s.src k).theta 0 u
    else u)

theorem execTrackerStep_of_on {mach : Fin 2} {age : Nat} (hready : s.pdReady 7 = true) (hen : s.getB F.FLY_MACH_CFG.EN mach.val = true) :
    execTrackerStep mach age s = .next (trkStepped mach.val age (srcKey (stepCounted mach.val s) mach.val) (stepCounted mach.val s)) := by
  have hen' := (stepCounted_getB (flying_machCfg mach.isLt) mach.val s).trans hen
  refine (execTrackerStep.eq_def mach age s).trans (congrArg Host.Outcome.next ((if_neg ?_).trans (if_neg ?_)))
  · simp [hready]
  · rw [stepCounted] at hen'
    simp [hen']

/-- An enabled tracker that is neither acquired nor lost acquires a fresh measurement of an absolute source. -/
theorem trkStepped_of_fresh {m age : Nat} (hacq : s.getB F.FLY_MACH_STAT.ACQUIRED m = false) (hlost : s.getB F.FLY_MACH_STAT.LOST m = false)
    (habs : 4 ≤ machSrc s m) (hk : machSrc s m < 14) (hfresh : toApply m (s.src k) = true) (hstale : srcStale s k = false) :
    trkStepped m age k s = trkReport m (acquire m (s.src k).theta 0 (measurementTaken m k s)) := by
  have htaken : ∀ f i, (measurementTaken m k s).get f i = s.get f i := fun f i => State.get_of_regs (State.setSrc_regs _ _ _) f i 0 0
  have hlater : (measurementTaken m k s).getB F.FLY_MACH_STAT.ACQUIRED m = false ∧
      (measurementTaken m k s).getB F.FLY_MACH_STAT.LOST m = false ∧ machSrc (measurementTaken m k s) m = machSrc s m := by
    rw [State.getB, State.getB, machSrc, htaken, htaken, htaken]
    exact ⟨hacq, hlost, rfl⟩
  obtain ⟨hacq', hlost', hsrc'⟩ := hlater
  unfold trkStepped
  dsimp only
  rw [hacq', hlost', hsrc', hfresh, hstale, decide_eq_true habs, decide_eq_true (by omega : machSrc s m < 15)]
  rfl

/-- What an acquisition and the report after it leave. -/
theorem trkReport_acquire {m : Nat} (hm : m < 2) (theta ofs : Nat) (s : State) :
    (trkReport m (acquire m theta ofs s)).get F.FLY_MACH_STAT.ACQUIRED m = 1 ∧
      ((trkReport m (acquire m theta ofs s)).trk m).theta = theta ∧ ((trkReport m (acquire m theta ofs s)).trk m).turns = 0 ∧
      (trkReport m (acquire m theta ofs s)).get F.FLY_MACH_STAT.SPEED_VALID m = 0 := by
  obtain ⟨hacq, hvalid⟩ := acquire_shows hm theta ofs s
  obtain ⟨htheta, hturns, hcounts⟩ := acquire_trk m theta ofs s
  obtain ⟨w, emf, hrun⟩ := trkReport_of_uncounted hvalid (by omega)
  rw [hrun, State.trk_of_fly (congrArg FlySt.trk (spdShown_fly _ _ _ _)), htheta, hturns,
    spdShown_stat (f := F.FLY_MACH_STAT.ACQUIRED) rfl (by decide) (by decide) (by decide), hacq,
    spdShown_stat (f := F.FLY_MACH_STAT.SPEED_VALID) rfl (by decide) (by decide) (by decide), hvalid]
  exact ⟨rfl, rfl, rfl, rfl⟩

/-! ### The compare unit (R290 to R292) -/

section
variable {c : Nat} {v : Word}

theorem cmpWrite_of_outside (h : cmpRange s c ≤ getBits v 27 0) : cmpWrite c v false s = s.set F.FLY_CMP_CFG.VAL_ERR 1 c := if_pos h

/-- The registers of a channel's value and of its configuration are two. -/
theorem cmpCfg_setVal {f : Fld} (hf : f.addr c 0 0 = F.FLY_CMP_CFG.EN.addr c 0 0) (n : Nat) (s : State) :
    (s.set F.FLY_CMP_VAL.VAL n c).get f c = s.get f c := by
  refine State.get_of_rd (set_quiet _ _ _ _ _ _ _ ?_)
  rw [hf]
  simp only [Fld.addr, F.FLY_CMP_CFG.EN, F.FLY_CMP_VAL.VAL]
  omega

theorem cmpWrite_of_disabled (hen : s.getB F.FLY_CMP_CFG.EN c = false) (h : getBits v 27 0 < cmpRange s c) :
    cmpWrite c v false s = s.set F.FLY_CMP_VAL.VAL (getBits v 27 0) c := by
  have hen' : (s.set F.FLY_CMP_VAL.VAL (getBits v 27 0) c).getB F.FLY_CMP_CFG.EN c = false := by
    rw [State.getB, cmpCfg_setVal rfl]
    exact hen
  refine (cmpWrite.eq_def c v false s).trans ((if_neg (Nat.not_le.mpr h)).trans (if_pos ?_))
  exact congrArg (!·) hen'

theorem cmpUpward_setVal (c n : Nat) (s : State) : cmpUpward (s.set F.FLY_CMP_VAL.VAL n c) c = cmpUpward s c := by
  rw [cmpUpward, cmpCfg_setVal (f := F.FLY_CMP_CFG.SRC) rfl]
  rfl

theorem cmpPos_setVal (c n : Nat) (s : State) : cmpPos (s.set F.FLY_CMP_VAL.VAL n c) c = cmpPos s c := by
  have hpos : ∀ k < 4, (s.set F.FLY_CMP_VAL.VAL n c).get F.FLY_ENC_POS.POS k = s.get F.FLY_ENC_POS.POS k := fun k hk => by
    refine State.get_of_rd (set_sensing ?_ s F.FLY_CMP_VAL.VAL n c (by decide))
    simp only [Fld.addr, F.FLY_ENC_POS.POS]
    omega
  unfold cmpPos
  dsimp only
  rw [cmpCfg_setVal (f := F.FLY_CMP_CFG.SRC) rfl]
  split
  · exact hpos _ ‹_›
  · rfl

/-- Channel `c` with a value, armed. -/
def cmpArmed (c : Nat) (v : Word) (s : State) : State := (s.set F.FLY_CMP_VAL.VAL (getBits v 27 0) c).set F.FLY_CMP_CFG.ARMED 1 c

theorem cmpArmed_shows (c : Nat) (v : Word) (s : State) : (cmpArmed c v s).get F.FLY_CMP_VAL.VAL c = getBits v 27 0 ∧
    (cmpArmed c v s).get F.FLY_CMP_CFG.ARMED c = 1 := by
  have hval : getBits v 27 0 < 2 ^ 28 := Nat.mod_lt _ (Nat.two_pow_pos _)
  refine ⟨?_, State.get_set_one _ _ _ _ _ (by decide) (by decide)⟩
  rw [cmpArmed, State.get_set_apart (by decide)]
  exact State.get_set_fits (f := F.FLY_CMP_VAL.VAL) (by decide) hval _ _ _ _

theorem cmpArmed_regsOnly (c : Nat) (v : Word) (s : State) :
    RegsOnly [F.FLY_CMP_VAL.VAL.addr c 0 0, F.FLY_CMP_CFG.EN.addr c 0 0] s (cmpArmed c v s) := fun a ha => by
  obtain ⟨hval, hcfg⟩ : a ≠ F.FLY_CMP_VAL.VAL.addr c 0 0 ∧ a ≠ F.FLY_CMP_CFG.EN.addr c 0 0 := by simpa using ha
  rw [cmpArmed, set_quiet _ F.FLY_CMP_CFG.ARMED _ _ _ _ _ hcfg, set_quiet _ _ _ _ _ _ _ hval]

/-- A value ahead of a rising position arms the channel. -/
theorem cmpWrite_of_ahead (hen : s.getB F.FLY_CMP_CFG.EN c = true) (h : getBits v 27 0 < cmpRange s c) (hup : cmpUpward s c = true)
    (hahead : cmpPos s c < getBits v 27 0) :
    cmpWrite c v false s = cmpArmed c v s := by
  have hen' : (s.set F.FLY_CMP_VAL.VAL (getBits v 27 0) c).getB F.FLY_CMP_CFG.EN c = true := by
    rw [State.getB, cmpCfg_setVal rfl]
    exact hen
  have hrun := cmpWrite.eq_def c v false s
  rw [Bool.false_and, Bool.false_and, if_neg Bool.false_ne_true] at hrun
  dsimp only at hrun
  rw [if_neg (Nat.not_le.mpr h), hen', cmpUpward_setVal, hup, cmpPos_setVal, if_pos rfl,
    decide_eq_false (by omega : ¬getBits v 27 0 < cmpPos s c), decide_eq_false (by omega : ¬getBits v 27 0 = cmpPos s c)] at hrun
  exact hrun

theorem execCompareValWrite_of_writer {m : Master} {c : Fin 8} (hw : s.regWriter m = true) (hready : s.pdReady 7 = true) :
    execCompareValWrite m c v false s = .next ((cmpWrite c.val v false s).answer .done) := by
  rw [execCompareValWrite, hw, hready]
  rfl

end

/-- Channel `c` with EN cleared. -/
def cmpDisabled (c : Nat) (s : State) : State := (s.set F.FLY_CMP_CFG.EN 0 c).set F.FLY_CMP_CFG.ARMED 0 c

theorem cmpDisabled_shows (c : Nat) (s : State) : (cmpDisabled c s).get F.FLY_CMP_CFG.EN c = 0 ∧
    (cmpDisabled c s).get F.FLY_CMP_CFG.ARMED c = 0 := by
  rw [cmpDisabled, State.get_set_apart (by decide), State.get_set_zero _ _ _ _ _ (by decide) (by decide),
    State.get_set_zero _ _ _ _ _ (by decide) (by decide)]
  exact ⟨rfl, rfl⟩

theorem cmpDisabled_regsOnly (c : Nat) (s : State) : RegsOnly [F.FLY_CMP_CFG.EN.addr c 0 0] s (cmpDisabled c s) := fun a ha => by
  have hcfg : a ≠ F.FLY_CMP_CFG.EN.addr c 0 0 := fun h => ha (List.mem_singleton.mpr h)
  rw [cmpDisabled, set_quiet _ F.FLY_CMP_CFG.ARMED _ _ _ _ _ hcfg, set_quiet _ _ _ _ _ _ _ hcfg]

/-! ### Encoder emulation (R293) -/

/-- The next due edge of output `e`, sent. -/
def edgeSent (e : Nat) (s : State) : State :=
  let x := s.emu e
  let step : Int := if 0 < x.due then 1 else -1
  let pos := (((x.pos : Int) + step) % (max 1 (s.get F.FLY_EMU_CPR.EMU_CPR e) : Nat)).toNat
  (s.setEmu e { x with due := x.due - step, pos := pos, z := pos == 0 }).set F.FLY_EMU_CFG.BACKLOG (x.due - step).natAbs e

theorem execEmulationEdge_of_due {e : Fin 2} (hen : s.getB F.FLY_EMU_CFG.EN e.val = true)
    (hback : s.get F.FLY_EMU_CFG.BACKLOG e.val ≠ 65535) (hdue : (s.emu e.val).due ≠ 0) :
    execEmulationEdge e s = .next (edgeSent e.val s) := by
  refine (execEmulationEdge.eq_def e s).trans (congrArg Host.Outcome.next (if_neg ?_))
  simp [hen, hback, hdue]

theorem edgeSent_emu (e : Nat) (s : State) : ((edgeSent e s).emu e).due = (s.emu e).due - (if 0 < (s.emu e).due then 1 else -1) ∧
    ((edgeSent e s).emu e).pos = (((s.emu e).pos + (if 0 < (s.emu e).due then 1 else -1)) %
      (max 1 (s.get F.FLY_EMU_CPR.EMU_CPR e) : Nat) : Int).toNat := by
  have hemu : (edgeSent e s).emu e = _ := State.emu_setEmu s e _
  rw [hemu]
  exact ⟨rfl, rfl⟩

theorem edgeSent_regsOnly (e : Nat) (s : State) : RegsOnly [F.FLY_EMU_CFG.EN.addr e 0 0] s (edgeSent e s) := fun _ ha =>
  set_quiet _ F.FLY_EMU_CFG.BACKLOG _ _ _ _ _ (fun h => ha (List.mem_singleton.mpr h))

/-! ### The REACQ timer and CLEAR (R259, R319) -/

/-- A class above REPORT waits for its reaction as it is. -/
theorem issueFor_reacts {cls : Nat} (h : 0 < cls ∧ cls ≤ 5) (src : FaultSrc) (code : Nat) (s : State) :
    (issueFor src code cls s).sys.reacts = s.sys.reacts ++ [⟨code, cls, src⟩] := by
  have hcls : clsOf cls = cls := Nat.min_eq_left h.2
  rw [issueFor_eq, hcls, if_neg (by omega)]

/-- The registers of set `p` after its time to reacquire has run out. -/
def reacqEnded (p : Nat) (s : State) : State :=
  ((s.set F.GIF_PSET_LOSS.LSTATE 4 p).set F.GIF_PSET_LOSS.REACQ_LEFT 0 p).set F.GIF_PSET_STAT.LAST_CODE 0x0A0D p

theorem execReacqTimeout_of_waiting {p : Fin 16} (h : s.get F.GIF_PSET_LOSS.LSTATE p.val = 1 ∨ s.get F.GIF_PSET_LOSS.LSTATE p.val = 2) :
    execReacqTimeout p s = .next (issueFor (.pset p.val) 0x0A0D (if s.getB F.GIF_PSET_LOSS.SENSORLESS_OK p.val then 2
      else if s.get F.GIF_PSET_LOSS.LSTATE p.val = 1 then 3 else 4) (reacqEnded p.val s)) :=
  congrArg Host.Outcome.next (if_pos h)

theorem lossAddr_ne_stat {p : Nat} (hp : p < 16) : F.GIF_PSET_LOSS.LSTATE.addr p 0 0 ≠ F.GIF_PSET_STAT.LAST_CODE.addr p 0 0 := by
  simp only [Fld.addr, F.GIF_PSET_LOSS.LSTATE, F.GIF_PSET_STAT.LAST_CODE]
  omega

theorem reacqEnded_shows {p : Nat} (hp : p < 16) (s : State) : (reacqEnded p s).get F.GIF_PSET_LOSS.LSTATE p = 4 ∧
    (reacqEnded p s).get F.GIF_PSET_LOSS.REACQ_LEFT p = 0 ∧ (reacqEnded p s).get F.GIF_PSET_STAT.LAST_CODE p = 0x0A0D := by
  refine ⟨?_, ?_, State.get_set_fits (f := F.GIF_PSET_STAT.LAST_CODE) (by decide) (by decide) _ _ _ _⟩
  · rw [reacqEnded, State.get_set_addr _ _ _ _ _ _ _ _ _ _ (lossAddr_ne_stat hp), State.get_set_apart (by decide)]
    exact State.get_set_fits (f := F.GIF_PSET_LOSS.LSTATE) (by decide) (by decide) _ _ _ _
  · rw [reacqEnded, State.get_set_addr _ _ F.GIF_PSET_LOSS.REACQ_LEFT _ _ _ _ _ _ _ (lossAddr_ne_stat hp),
      State.get_set_zero _ _ _ _ _ (by decide) (by decide)]

theorem reacqEnded_regsOnly (p : Nat) (s : State) :
    RegsOnly [F.GIF_PSET_LOSS.LSTATE.addr p 0 0, F.GIF_PSET_STAT.LAST_CODE.addr p 0 0] s (reacqEnded p s) := fun a ha => by
  obtain ⟨hloss, hstat⟩ : a ≠ F.GIF_PSET_LOSS.LSTATE.addr p 0 0 ∧ a ≠ F.GIF_PSET_STAT.LAST_CODE.addr p 0 0 := by simpa using ha
  rw [reacqEnded, set_quiet _ _ _ _ _ _ _ hstat, set_quiet _ F.GIF_PSET_LOSS.REACQ_LEFT _ _ _ _ _ hloss, set_quiet _ _ _ _ _ _ _ hloss]

theorem lossOff_ungated (p : Nat) (on : Bool) (s : State) : (lossOff p on s).pwm.ungated = s.pwm.ungated := by
  refine foldl_keeps (·.pwm.ungated) _ _ (fun l _ s => ?_) s
  dsimp only
  split
  · rfl
  · exact enforceLeg_ungated l _

/-- Set `p` without its findings, its legs disarmed, back in RUN. -/
def setCleared (p : Nat) (s : State) : State :=
  let u := s.setPset p { s.pset p with findings := [], wasOn := [], request := 0 }
  enterState p 0 (disarm (legsOfSet u p) u)

theorem psetClear_of_permitted {m : Master} {p : Nat} (hm : checkedOutput m = true) (hblock : setBlocked s p = false)
    (hst : s.psetState p ≠ 1) (hloss : s.getB F.GIF_PSET_LOSS.LOSS_EN p = false) : psetClear m p s =
    lossOff p false (((setCleared p s).set F.GIF_PSET_LOSS.LSTATE 0 p).set F.GIF_PSET_LOSS.REACQ_LEFT 0 p) := by
  refine (psetClear.eq_def m p s).trans ((if_neg ?_).trans (if_pos ?_))
  · simp [hm, hblock, hst]
  · rw [hloss, Bool.and_false]
    rfl

theorem gated_psetLoss {p : Nat} (hp : p < 16) : Gated (F.GIF_PSET_LOSS.LSTATE.addr p 0 0) := by
  simp only [Fld.addr, F.GIF_PSET_LOSS.LSTATE]
  omega

/-- What a permitted CLEAR leaves of the set. -/
theorem psetClear_shows {m : Master} {p : Nat} (hp : p < 16) (hm : checkedOutput m = true) (hblock : setBlocked s p = false)
    (hst : s.psetState p ≠ 1) (hloss : s.getB F.GIF_PSET_LOSS.LOSS_EN p = false) : (psetClear m p s).psetState p = 0 ∧
      (psetClear m p s).get F.GIF_PSET_LOSS.LSTATE p = 0 ∧ ((psetClear m p s).pset p).findings = [] := by
  rw [psetClear_of_permitted hm hblock hst hloss]
  refine ⟨?_, ?_, ?_⟩
  · have hstat : ∀ (u : State) (f : Fld), f.addr p 0 0 = F.GIF_PSET_LOSS.LSTATE.addr p 0 0 →
        (u.set f 0 p).get F.GIF_PSET_STAT.STATE p = u.get F.GIF_PSET_STAT.STATE p := fun u f hf =>
      State.get_set_addr _ _ _ _ _ _ _ _ _ _ (hf ▸ (lossAddr_ne_stat hp).symm)
    rw [State.psetState, State.get_of_rd (lossOff_rd ((gated_psetStat hp).offChannel 0).1 _ _ _), hstat _ F.GIF_PSET_LOSS.REACQ_LEFT rfl,
      hstat _ _ rfl]
    exact enterState_psetState hp (by decide) _
  · rw [State.get_of_rd (lossOff_rd ((gated_psetLoss hp).offChannel 0).1 _ _ _), State.get_set_apart (by decide),
      State.get_set_zero _ _ _ _ _ (by decide) (by decide)]
  · rw [State.pset_of_ungated (lossOff_ungated _ _ _)]
    change ((setCleared p s).pset p).findings = []
    rw [setCleared, enterState_pset, State.pset_of_ungated (disarm_ungated _ _), State.pset_setPset]

end

/-- Settles O22: a time-out through the loss of each tracker on the source, a step and ACQ by the acquisition they make, the compare unit,
the emulation and the disabling by the registers they write, and the two rows of the protection sets by the set's own words. -/
theorem flyerTrackers : Obligations.FlyerTrackers := by
  intro s m src mach e c p v age k q val x step l cls
  refine ⟨?timeout, ?off, ?fresh, ?acq, ?useSet, ?valHeld, ?valAhead, ?valRefused, ?edge, ?trackerOff, ?compareOff, ?reacq, ?clear⟩
  case timeout =>
    intro hon
    have hrun : exec (.measurementTimeout src) s = _ := execMeasurementTimeout_of_on hon
    have hstat : Flying (F.FLY_SRC_STAT.TIMEOUT.addr src.val 0 0) ∧
        ∀ m < 2, F.FLY_SRC_STAT.TIMEOUT.addr src.val 0 0 ≠ F.FLY_MACH_STAT.LOST.addr m 0 0 := by
      refine ⟨?_, fun m _ => ?_⟩ <;> simp only [Fld.addr, F.FLY_SRC_STAT.TIMEOUT, F.FLY_MACH_STAT.LOST] <;> omega
    refine ⟨_, hrun, ?_, fun hk hen hlost => ?_, execMeasurementTimeout_mask rfl rfl rfl rfl rfl rfl rfl rfl _ _ hrun⟩
    · rw [lossOfSrc_get hstat.1 (by decide) hstat.2]
      exact State.get_set_one _ _ _ _ _ (by decide) (by decide)
    · exact lossOfSrc_lost mach.isLt (by decide) (timeoutShown_held ⟨hk, hen, hlost⟩)
  case off =>
    intro hready hen
    have hrun : exec (.trackerStep mach age) s = _ := execTrackerStep_of_off hready hen
    have htrk := State.trk_of_fly (congrArg FlySt.trk (stepCounted_fly mach.val s)) mach.val
    rw [State.trk_setTrk] at htrk
    refine ⟨_, hrun, congrArg TrkSt.steps htrk, ?_, execTrackerStep_mask rfl rfl rfl rfl rfl rfl rfl rfl _ _ _ hrun⟩
    · rw [State.get_set_apart (by decide), State.get_set_zero _ _ _ _ _ (by decide) (by decide)]
  case fresh =>
    intro hready hen hacq hlost habs hk hfresh hstale
    have hcfg := flying_machCfg mach.isLt
    have hstat := flying_machStat mach.isLt
    have hsrc : machSrc (stepCounted mach.val s) mach.val = k := machSrc_of_rd (stepCounted_flying hcfg _ s)
    have htab : (stepCounted mach.val s).src k = q := State.src_of_fly (congrArg FlySt.src (stepCounted_fly _ s)) k
    have hfresh' : toApply mach.val q = true := (if_congr Fin.ext_iff.symm rfl rfl).trans hfresh
    have hstale' : srcStale (stepCounted mach.val s) k = false := by
      refine (srcStale_of_rd (stepCounted_flying ?_ _ s)).trans hstale
      simp only [Fld.addr, F.FLY_SRC_STAT.STALE]
      omega
    have hrun : exec (.trackerStep mach age) s = _ := execTrackerStep_of_on hready hen
    have hframe := execTrackerStep_mask (K := .flyer) rfl rfl rfl rfl rfl rfl rfl rfl _ _ _ hrun
    rw [srcKey_of_source (hsrc ▸ hk), hsrc, trkStepped_of_fresh ((stepCounted_getB (f := F.FLY_MACH_STAT.ACQUIRED) hstat _ _).trans hacq)
      ((stepCounted_getB hstat _ _).trans hlost) (hsrc ▸ habs) (hsrc ▸ hk) (htab ▸ hfresh') hstale', htab] at hrun hframe
    obtain ⟨hacq', htheta, hturns, hvalid⟩ := trkReport_acquire mach.isLt q.theta 0 (measurementTaken mach.val k (stepCounted mach.val s))
    exact ⟨_, hrun, hacq', htheta, hturns, hvalid, hframe⟩
  case acq =>
    intro hw hm hready hen hlost hk hproved hstale hinTime hexcited
    have hrun : exec (.machAcq m mach) s = .next ((lossCleared mach.val (lossEnded mach.val s)).answer .done) := by
      change execMachAcq m mach s = _
      rw [execMachAcq, hw, hready, machAcq_of_sound hm hen hlost hk ⟨hproved, hstale, hinTime, hexcited⟩]
      rfl
    have hstat := flying_machStat mach.isLt
    obtain ⟨hlost', hacq⟩ := lossEnded_shows mach.val s
    refine ⟨_, hrun, ?_, ?_, rfl, (lossCleared_fly _ _).trans rfl, execMachAcq_mask rfl rfl rfl rfl _ _ _ hrun⟩
    · exact (State.get_of_rd (lossCleared_flying hstat _ _)).trans hlost'
    · exact (State.get_of_rd (f := F.FLY_MACH_STAT.ACQUIRED) (lossCleared_flying hstat _ _)).trans hacq
  case useSet =>
    intro hw hm hready hen hlost hk
    have hrun : exec (.machAcqUseSet m mach) s =
        .next ((acquireEnc mach.val (s.get F.FLY_MACH_ASET.ANGLE_SET mach.val * 2 ^ 32) s).answer .done) := by
      change execMachAcqUseSet m mach s = _
      rw [execMachAcqUseSet, hw, hready, machAcq_of_unlost hm hen hlost hk]
      rfl
    exact ⟨_, hrun, (acquire_trk _ _ _ _).1, (acquire_shows mach.isLt _ _ _).1, rfl, execMachAcqUseSet_mask rfl rfl rfl rfl _ _ _ hrun⟩
  case valHeld =>
    intro hw hready hen hval
    have hrun : exec (.compareValWrite m c v false) s = _ := execCompareValWrite_of_writer hw hready
    exact ⟨_, hrun, congrArg (·.answer .done) (cmpWrite_of_disabled hen hval)⟩
  case valAhead =>
    intro hw hready hen hval hup hahead
    have hrun : exec (.compareValWrite m c v false) s = _ := execCompareValWrite_of_writer hw hready
    have hframe := execCompareValWrite_mask (K := { regs := true, resp := true, fab := true }) rfl rfl rfl _ _ _ _ _ hrun
    rw [cmpWrite_of_ahead hen hval hup hahead] at hrun hframe
    obtain ⟨hshown, harmed⟩ := cmpArmed_shows c.val v s
    have hregs : ((cmpArmed c.val v s).answer .done).regs = (cmpArmed c.val v s).regs := State.answer_regs _ _
    refine ⟨_, hrun, ?_, ?_, rfl, fun a ha => ?_, hframe⟩
    · rw [State.get_of_regs hregs, hshown]
    · rw [State.get_of_regs hregs, harmed]
    · rw [State.rd_of_regs hregs, cmpArmed_regsOnly c.val v s a ha]
  case valRefused =>
    intro hw hready hval
    have hrun : exec (.compareValWrite m c v false) s = _ := execCompareValWrite_of_writer hw hready
    exact ⟨_, hrun, congrArg (·.answer .done) (cmpWrite_of_outside hval)⟩
  case edge =>
    intro hen hback hdue
    have hrun : exec (.emulationEdge e) s = _ := execEmulationEdge_of_due hen hback hdue
    obtain ⟨hdue', hpos⟩ := edgeSent_emu e.val s
    exact ⟨_, hrun, hdue', hpos, edgeSent_regsOnly e.val s, execEmulationEdge_mask rfl rfl _ _ hrun⟩
  case trackerOff =>
    intro hw hready
    refine ⟨_, ?_, rfl⟩
    change execFlyerUnitDisable m (.tracker mach) s = _
    rw [execFlyerUnitDisable, hw, hready]
    rfl
  case compareOff =>
    intro hw hready
    have hrun : exec (.flyerUnitDisable m (.compare c)) s = .next ((cmpDisabled c.val s).answer .done) := by
      change execFlyerUnitDisable m (.compare c) s = _
      rw [execFlyerUnitDisable, hw, hready]
      rfl
    obtain ⟨hen, harmed⟩ := cmpDisabled_shows c.val s
    have hregs : ((cmpDisabled c.val s).answer .done).regs = (cmpDisabled c.val s).regs := State.answer_regs _ _
    refine ⟨_, hrun, ?_, ?_, fun a ha => ?_, execFlyerUnitDisable_mask rfl rfl rfl _ _ _ hrun⟩
    · rw [State.get_of_regs hregs, hen]
    · rw [State.get_of_regs hregs, harmed]
    · rw [State.rd_of_regs hregs, cmpDisabled_regsOnly c.val s a ha]
  case reacq =>
    intro hl
    have hrun : exec (.reacqTimeout p) s = _ := execReacqTimeout_of_waiting hl
    obtain ⟨hstate, hleft, hcode⟩ := reacqEnded_shows p.isLt s
    refine ⟨_, hrun, ?_, ?_, ?_, issueFor_lastFault _ _ _ _, ?_, fun a ha => ?_, execReacqTimeout_mask rfl rfl rfl _ _ hrun⟩
    · rw [issueFor_get, hstate]
    · rw [issueFor_get, hleft]
    · rw [issueFor_get, hcode]
    · refine issueFor_reacts ?_ _ _ _
      split
      · decide
      · split <;> decide
    · rw [issueFor_rd, reacqEnded_regsOnly p.val s a ha]
  case clear =>
    intro hw hm hready hblock hst hloss
    have hrun : exec (.psetClear m p) s = .next ((psetClear m p.val s).answer .done) := by
      change execPsetClear m p s = _
      rw [execPsetClear, hw, hready]
      rfl
    obtain ⟨hrunning, hnone, hfindings⟩ := psetClear_shows p.isLt hm hblock hst hloss
    exact ⟨_, hrun, hrunning, hnone, hfindings, rfl, execPsetClear_mask rfl rfl rfl rfl rfl rfl rfl rfl rfl _ _ _ hrun⟩

end Sys2Proof.Machine

/-! The standard machine supervision in pair A (10_machine_control.md R305 to R327): what each part of its task leaves of the supervision's
own words and of the mode, UCG_SPEED, the end of a catch phase and of EMERGENCY_RUN, and the obligation about them, O25. The formats in
which the supervision keeps its references and its parameters are the model's choice (assumption log 84). -/

namespace Sys2Proof.Machine
open Sys2Proof

section
variable {s t : State} {m : Nat}

/-! ### Machines -/

@[simp] theorem State.mach_setMach (s : State) (m : Nat) (x : MachSup) : (s.setMach m x).mach m = x := SMap.get_put_self _ _ _ _

theorem State.mach_setMach_of_ne {k : Nat} (h : m ≠ k) (s : State) (x : MachSup) : (s.setMach k x).mach m = s.mach m :=
  SMap.get_put_ne _ _ _ _ _ h

theorem State.mach_of_machs (h : t.sup.machs = s.sup.machs) (m : Nat) : t.mach m = s.mach m := by rw [State.mach, h, State.mach]

@[simp] theorem State.setMach_emrTasks (s : State) (m : Nat) (x : MachSup) : (s.setMach m x).sup.emrTasks = s.sup.emrTasks := rfl

@[simp] theorem quietly_sup (f : State → State) (s : State) : (quietly f s).sup = (f s).sup := rfl

@[simp] theorem quietly_regs (f : State → State) (s : State) : (quietly f s).regs = (f s).regs := rfl

/-! ### Operations of other blocks that leave the supervision's words -/

@[simp] theorem armSet_sup (p : Nat) (s : State) : (armSet p s).sup = s.sup := sup_of_mask (K := .flyer) rfl (armSet_mask rfl p s)

@[simp] theorem toSrc14_sup (m : Nat) (s : State) : (toSrc14 m s).sup = s.sup := sup_of_mask (K := .flyer) rfl (toSrc14_mask rfl rfl m s)

@[simp] theorem requestAsc_sup (m : Nat) (s : State) : (requestAsc m s).sup = s.sup :=
  sup_of_mask (K := .flyer) rfl (requestAsc_mask rfl m s)

@[simp] theorem machAcq_sup (mst : Master) (m : Nat) (useSet : Bool) (s : State) : (machAcq mst m useSet s).sup = s.sup :=
  sup_of_mask (K := .flyer) rfl (machAcq_mask rfl rfl rfl mst m useSet s)

@[simp] theorem psetClear_sup (mst : Master) (p : Nat) (s : State) : (psetClear mst p s).sup = s.sup :=
  sup_of_mask (K := .flyer) rfl (psetClear_mask rfl rfl rfl rfl rfl rfl rfl rfl mst p s)

@[simp] theorem releaseAsc_sup (m : Nat) (s : State) : (releaseAsc m s).sup = s.sup :=
  sup_of_mask (K := .flyer) rfl (releaseAsc_mask rfl rfl rfl rfl rfl rfl rfl rfl m s)

@[simp] theorem kreqField_sup (mst : Master) (p : Nat) (f : Fld) (v : Nat) (s : State) : (kreqField mst p f v s).sup = s.sup :=
  sup_of_mask (K := { regs := true, resp := true, sys := true, fab := true, pwm := true, kln := true, act := true }) rfl
    (kreqField_mask rfl rfl rfl rfl rfl rfl rfl mst p f v s)

@[simp] theorem writeBatch_sup (w : Nat) (ws : List (Nat × Word)) (s : State) : (writeBatch w ws s).sup = s.sup :=
  sup_of_mask (K := { regs := true, mem := true, resp := true, fab := true, whl := true }) rfl (writeBatch_mask rfl rfl rfl rfl rfl w ws s)

/-- Loading calibration sets leaves all but these parts, the supervision's words and the system part among the rest. -/
theorem calLoad_frame (p : Nat) (s : State) :
    OnlyChanges { regs := true, mem := true, resp := true, fab := true, whl := true, thm := true } s (calLoad p s) :=
  calLoad_mask rfl rfl rfl rfl rfl rfl p s

/-! ### EMERGENCY_RUN is counted once a task (R327) -/

theorem emrTask_emrTasks (s : State) :
    (emrTask s).sup.emrTasks = if s.sup.emr then s.sup.emrTasks + 1 else s.sup.emrTasks := by
  unfold emrTask
  split <;> rfl

theorem startRun_emrTasks (m : Nat) (how : StartPhase) (s : State) : (startRun m how s).sup.emrTasks = s.sup.emrTasks :=
  foldl_keeps (·.sup.emrTasks) _ _ (fun _ _ s => ite_keeps (p := (·.sup.emrTasks)) (congrArg _ (armSet_sup _ s))) s

theorem startTask_emrTasks (m : Nat) (s : State) : (startTask m s).sup.emrTasks = s.sup.emrTasks := by
  unfold startTask
  dsimp only
  split
  case h_1 => split <;> simp [startRun_emrTasks]
  case h_2 => exact ite_keeps (p := (·.sup.emrTasks)) (by simp)
  case h_3 => exact ite_keeps (p := (·.sup.emrTasks)) (by simp [startRun_emrTasks])
  case h_4 => exact ite_keeps (p := (·.sup.emrTasks)) (by simp)
  case h_5 => exact ite_keeps (p := (·.sup.emrTasks)) rfl
  case h_6 => rfl

theorem lossTask_emrTasks (m : Nat) (s : State) : (lossTask m s).sup.emrTasks = s.sup.emrTasks := by
  unfold lossTask
  dsimp only
  split
  · rfl
  · split
    · simp
    · split
      · simp
      · exact foldl_keeps (·.sup.emrTasks) _ _ (fun e _ s => by simp) s

/-- Every step of the holding sequence and every request or release of the short circuit leaves the count. -/
theorem ascTask_emrTasks (m : Nat) (p : MachPar) (i : SupIn) (s : State) : (ascTask m p i s).sup.emrTasks = s.sup.emrTasks := by
  unfold ascTask
  dsimp only
  (repeat' split) <;> simp

theorem speedTask_emrTasks (m : Nat) (p : MachPar) (s : State) : (speedTask m p s).sup.emrTasks = s.sup.emrTasks := rfl

theorem torqueTask_emrTasks (m : Nat) (p : MachPar) (s : State) : (torqueTask m p s).sup.emrTasks = s.sup.emrTasks := by
  unfold torqueTask
  refine (ite_keeps (p := (·.sup.emrTasks)) (State.setMach_emrTasks _ _ _)).trans ?_
  split
  · exact speedTask_emrTasks m p s
  · split <;> rfl

theorem stopTask_emrTasks (m : Nat) (p : MachPar) (s : State) : (stopTask m p s).sup.emrTasks = s.sup.emrTasks := by
  unfold stopTask
  dsimp only
  (repeat' split) <;> rfl

theorem machTask_emrTasks (m : Nat) (p : MachPar) (i : SupIn) (s : State) : (machTask m p i s).sup.emrTasks = s.sup.emrTasks := by
  have hstart : ∀ u : State, (if (u.mach m).commanded then startTask m u else u).sup.emrTasks = u.sup.emrTasks := fun u =>
    ite_keeps (p := (·.sup.emrTasks)) (startTask_emrTasks m u)
  unfold machTask
  split
  · rfl
  · refine (ite_keeps (p := (·.sup.emrTasks)) ?_).trans ((hstart _).trans (lossTask_emrTasks m s))
    rw [stopTask_emrTasks, ascTask_emrTasks, torqueTask_emrTasks]

/-! ### Shares and references leave the machines (R302, R312) -/

theorem shareTorque_sup (m : Nat) (x : Int) (s : State) :
    (shareTorque m x s).sup = { s.sup with sets := (shareTorque m x s).sup.sets } := by
  unfold shareTorque
  split <;> rfl

theorem setTask_sup (i : Nat) (p : SetPar) (s : State) : (setTask i p s).sup = { s.sup with sets := (setTask i p s).sup.sets } := by
  unfold setTask
  dsimp only
  rw [writeBatch_sup]
  rfl

/-! ### The mode during the task -/

theorem State.mode_of_regs (hregs : t.regs = s.regs) (hsys : t.sys = s.sys) : t.mode = s.mode :=
  State.mode_congr (congrArg SysSt.phase hsys) (State.get_of_regs hregs _ _ _ _)

/-- A register above MODE_STAT, the first of all. -/
theorem set_modeStat (s : State) (f : Fld) (v i j : Nat) (hf : 0x30000000 < f.base) : (s.set f v i j).rd 0x30000000 = s.rd 0x30000000 := by
  refine set_quiet _ _ _ _ _ _ _ ?_
  simp only [Fld.addr]
  omega

theorem enqueue_modeStat (w : Nat) (e : QEntry) (s : State) : (enqueue w e s).rd 0x30000000 = s.rd 0x30000000 := by
  have hfull : (s.bump F.WHL_CTL.QFULL F.WHL_CTL.SAT w).rd 0x30000000 = s.rd 0x30000000 := by
    refine State.rd_bump_ne ?_ ?_ <;> simp only [Fld.addr, F.WHL_CTL.QFULL, F.WHL_CTL.SAT] <;> omega
  unfold enqueue
  dsimp only
  split
  · exact (raise_quiet _ _ _ (by decide) (by decide)).trans hfull
  · exact set_modeStat _ _ _ _ _ (by decide)

theorem applyEntry_modeStat (w : Nat) (e : QEntry) (s : State) : (applyEntry w e s).rd 0x30000000 = s.rd 0x30000000 := by
  cases e with
  | coef i v => exact State.rd_of_regs (regs_of_mask (K := { mem := true }) rfl (store_mask rfl (cleanWord _ s) _ _ _)) _
  | tbl t v =>
    refine State.rd_wr_ne _ _ _ _ ?_
    simp only [Fld.addr, F.WHL_TBL_CFG.EN]
    omega

theorem coefWrite_modeStat (mst : Master) (w i : Nat) (v : Word) (s : State) :
    (coefWrite mst w i v s).rd 0x30000000 = s.rd 0x30000000 := by
  unfold coefWrite
  split
  · rfl
  · split
    · exact ite_keeps (p := (·.rd 0x30000000)) (applyEntry_modeStat w _ s)
    · exact ite_keeps (p := (·.rd 0x30000000)) (enqueue_modeStat w _ s)

theorem tblCfgWrite_modeStat (mst : Master) (w t : Nat) (v : Word) (s : State) :
    (tblCfgWrite mst w t v s).rd 0x30000000 = s.rd 0x30000000 := by
  unfold tblCfgWrite
  split
  · rfl
  · split
    · exact applyEntry_modeStat w _ s
    · exact ite_keeps (p := (·.rd 0x30000000)) (enqueue_modeStat w _ s)

theorem tableWrite_regs (mst : Master) (w i : Nat) (v : Word) (s : State) : (tableWrite mst w i v s).regs = s.regs :=
  regs_of_mask (K := { mem := true, resp := true, fab := true }) rfl (tableWrite_mask rfl rfl rfl mst w i v s)

theorem calApply_modeStat (c : CalSet) (s : State) : (calApply c s).rd 0x30000000 = s.rd 0x30000000 := by
  unfold calApply
  dsimp only
  rw [set_modeStat _ _ _ _ _ (by decide), foldl_rd _ _ (fun _ _ => coefWrite_modeStat _ _ _ _ _),
    foldl_rd _ _ (fun _ _ => tblCfgWrite_modeStat _ _ _ _ _), set_modeStat _ _ _ _ _ (by decide)]
  exact foldl_rd _ _ (fun u t => foldl_rd _ _ (fun u e => State.rd_of_regs (tableWrite_regs _ _ _ _ u) _) _ u) _ _

theorem calLoad_mode (p : Nat) (s : State) : (calLoad p s).mode = s.mode := by
  refine State.mode_congr (congrArg SysSt.phase (sys_of_mask rfl (calLoad_frame p s))) (State.get_of_rd ?_)
  refine foldl_rd _ _ (fun u e => foldl_rd _ _ (fun u c => ?_) _ u) _ _
  exact ite_keeps (p := (·.rd 0x30000000)) (calApply_modeStat c u)

/-! ### The stages of the task (R305) -/

/-- The task up to its limits: EMERGENCY_RUN's count and ramp, the calibration sets, each set's limit. -/
def limitsTaken (s : State) : State :=
  let u := calLoad 0 (exitTask (emrTask s))
  u.sys.cfg.sup.sets.zipIdx.foldl (fun u e => limitTask e.2 e.1 u) u

/-- Each machine's part of the task. -/
def machinesTasked (i : SupIn) (s : State) : State := s.sys.cfg.sup.machs.zipIdx.foldl (fun u e => machTask e.2 e.1 i u) s

/-- The machines' torques, split in torque mode, and shared between their sets. -/
def torquesShared (s : State) : State :=
  match machPar s 0, machPar s 1 with
  | some p, some q =>
    if !p.speedMode && !q.speedMode then
      let (t0, t1) := splitTorque s ((s.mach 0).tRef + (s.mach 1).tRef) ((s.mach 1).tRef - (s.mach 0).tRef)
      shareTorque 1 t1 (shareTorque 0 t0 s)
    else shareTorque 1 (s.mach 1).tRef (shareTorque 0 (s.mach 0).tRef s)
  | _, _ => shareTorque 1 (s.mach 1).tRef (shareTorque 0 (s.mach 0).tRef s)

theorem supervisionTask_eq (i : SupIn) (s : State) : supervisionTask i s =
    (calLoad 0 (exitTask (emrTask s))).sys.cfg.sup.sets.zipIdx.foldl (fun u e => setTask e.2 e.1 u)
      (torquesShared (machinesTasked i (limitsTaken s))) := rfl

/-- The limits change of the state the supervision's sets alone. -/
theorem limitsTaken_keeps {β : Type} (f : State → β) (hf : ∀ u i x, f (u.setWset i x) = f u) (s : State) :
    f (limitsTaken s) = f (calLoad 0 (exitTask (emrTask s))) :=
  foldl_keeps f (fun u (e : SetPar × Nat) => limitTask e.2 e.1 u) _ (fun _ _ u => hf u _ _) _

theorem limitsTaken_emrTasks (s : State) :
    (limitsTaken s).sup.emrTasks = if s.sup.emr then s.sup.emrTasks + 1 else s.sup.emrTasks := by
  rw [limitsTaken_keeps (·.sup.emrTasks) (fun _ _ _ => rfl), sup_of_mask rfl (calLoad_frame 0 _)]
  exact emrTask_emrTasks s

theorem limitsTaken_sys (s : State) : (limitsTaken s).sys = s.sys :=
  calc (limitsTaken s).sys
    _ = (calLoad 0 (exitTask (emrTask s))).sys := limitsTaken_keeps (·.sys) (fun _ _ _ => rfl) s
    _ = (exitTask (emrTask s)).sys := sys_of_mask rfl (calLoad_frame 0 _)
    _ = s.sys := sys_of_mask (K := { sup := true }) rfl (emrTask_mask rfl s)

theorem limitsTaken_mode (s : State) : (limitsTaken s).mode = s.mode :=
  calc (limitsTaken s).mode
    _ = (calLoad 0 (exitTask (emrTask s))).mode := limitsTaken_keeps (·.mode) (fun _ _ _ => rfl) s
    _ = (exitTask (emrTask s)).mode := calLoad_mode 0 _
    _ = s.mode := State.mode_of_regs (regs_of_mask (K := { sup := true }) rfl (emrTask_mask rfl s))
        (sys_of_mask (K := { sup := true }) rfl (emrTask_mask rfl s))

theorem machinesTasked_emrTasks (i : SupIn) (s : State) : (machinesTasked i s).sup.emrTasks = s.sup.emrTasks :=
  foldl_keeps (·.sup.emrTasks) _ _ (fun _ _ u => machTask_emrTasks _ _ i u) s

/-- Sharing the torques changes of the supervision's words the sets' alone. -/
theorem torquesShared_sup (s : State) : (torquesShared s).sup = { s.sup with sets := (torquesShared s).sup.sets } := by
  have hshare : ∀ x y : Int, (shareTorque 1 y (shareTorque 0 x s)).sup =
      { s.sup with sets := (shareTorque 1 y (shareTorque 0 x s)).sup.sets } := fun x y => by
    rw [shareTorque_sup 1, shareTorque_sup 0]
  unfold torquesShared
  split
  · split <;> exact hshare _ _
  · exact hshare _ _

/-- What follows the machines' parts keeps every word of the supervision but the sets'. -/
theorem supervisionTask_keeps {β : Type} (f : SupSt → β) (hf : ∀ x y, f { x with sets := y } = f x) (i : SupIn) (s : State) :
    f (supervisionTask i s).sup = f (machinesTasked i (limitsTaken s)).sup := by
  rw [supervisionTask_eq]
  refine (foldl_keeps (fun u => f u.sup) _ _ (fun e _ u => ?_) _).trans ?_
  · rw [setTask_sup, hf]
  · rw [torquesShared_sup, hf]

theorem supervisionTask_emrTasks (i : SupIn) (s : State) :
    (supervisionTask i s).sup.emrTasks = if s.sup.emr then s.sup.emrTasks + 1 else s.sup.emrTasks := by
  rw [supervisionTask_keeps SupSt.emrTasks (fun _ _ => rfl), machinesTasked_emrTasks, limitsTaken_emrTasks]

/-! ### Outside DRIVE, LIMP and SERVICE every machine stops (R305, R317) -/

/-- The mode is none in which machines run. -/
def MachinesBarred (s : State) : Prop := s.mode ≠ 3 ∧ s.mode ≠ 5 ∧ s.mode ≠ 7

/-- Machine m stands: no run, no torque, no start under way. -/
def MachStopped (m : Nat) (s : State) : Prop := (s.mach m).running = false ∧ (s.mach m).tRef = 0 ∧ (s.mach m).start = .off

/-- Machine m as a mode in which none runs leaves it. -/
def machHalted (m : Nat) (s : State) : State :=
  s.setMach m { s.mach m with running := false, start := .off, commanded := false, tRef := 0, stop1 := false, hold := 0, back := 0 }

theorem machTask_of_barred (h : MachinesBarred s) (m : Nat) (p : MachPar) (i : SupIn) : machTask m p i s = machHalted m s := by
  obtain ⟨hdrive, hlimp, hservice⟩ := h
  exact if_pos (by simp [hdrive, hlimp, hservice])

theorem machHalted_barred (h : MachinesBarred s) (m : Nat) : MachinesBarred (machHalted m s) := h

theorem machHalted_stopped (m : Nat) (s : State) : MachStopped m (machHalted m s) := by
  rw [MachStopped, machHalted, State.mach_setMach]
  exact ⟨rfl, rfl, rfl⟩

/-- Halting a machine starts no other. -/
theorem MachStopped.machHalted (h : MachStopped m s) (k : Nat) : MachStopped m (machHalted k s) := by
  by_cases hk : m = k
  · subst hk
    exact machHalted_stopped m s
  · rw [MachStopped, Machine.machHalted, State.mach_setMach_of_ne hk]
    exact h

theorem foldl_machHalted_stopped {α : Type} (g : α → Nat) {l : List α} {x : α} (hx : x ∈ l) (s : State) :
    MachStopped (g x) (l.foldl (fun u e => machHalted (g e) u) s) := by
  obtain ⟨l₁, l₂, rfl⟩ := List.append_of_mem hx
  rw [List.foldl_append, List.foldl_cons]
  exact foldl_invariant (fun e _ _ h => h.machHalted (g e)) (machHalted_stopped _ _)

theorem machinesTasked_stopped (h : MachinesBarred s) {p : MachPar} (hp : machPar s m = some p) (i : SupIn) :
    MachStopped m (machinesTasked i s) := by
  have hrun : machinesTasked i s = s.sys.cfg.sup.machs.zipIdx.foldl (fun u e => machHalted e.2 u) s :=
    foldl_congr_of_invariant (P := MachinesBarred) (g := fun u (e : MachPar × Nat) => machHalted e.2 u) (fun e _ _ hu =>
      machHalted_barred hu e.2) (fun e _ _ hu => machTask_of_barred hu e.2 e.1 i) h
  have hmem : (p, m) ∈ s.sys.cfg.sup.machs.zipIdx := List.mem_zipIdx_iff_getElem?.mpr hp
  rw [hrun]
  exact foldl_machHalted_stopped Prod.snd hmem s

theorem supervisionTask_stopped (h : MachinesBarred s) {p : MachPar} (hp : machPar s m = some p) (i : SupIn) :
    MachStopped m (supervisionTask i s) := by
  have hbarred : MachinesBarred (limitsTaken s) := by
    rw [MachinesBarred, limitsTaken_mode]
    exact h
  have hpar : machPar (limitsTaken s) m = some p := by
    rw [machPar, limitsTaken_sys]
    exact hp
  rw [MachStopped, State.mach_of_machs (supervisionTask_keeps SupSt.machs (fun _ _ => rfl) i s)]
  exact machinesTasked_stopped hbarred hpar i

theorem execSupervisionTask_of_running (hpair : pairRuns s 0 = true) (hready : s.pdReady 7 = true) (i : SupIn) :
    execSupervisionTask i s = .next (quietly (supervisionTask i) s) := by
  rw [execSupervisionTask, hpair, hready]
  rfl

/-! ### UCG_SPEED from the link voltage (R307) -/

/-- The speed above which a set's back-EMF rectifies, from the lower of the two link measurements. -/
def ucgSpeed (s : State) (q : SetPar) : Nat :=
  let v := min (linkVolt s q) (s.get F.HK_RES.LAST s.sys.cfg.sup.linkHk * s.sys.cfg.sup.hkGain)
  if q.psiCold = 0 then 2 ^ 31 - 1 else v * 2 ^ 89 / (sqrt3 * q.psiCold)

/-- With one set declared, which does not coast, the millisecond's task writes that set's UCG_SPEED. -/
theorem execUcgCompute_of_single {q : SetPar} (hpair : pairRuns s 0 = true) (hready : s.pdReady 7 = true)
    (hsets : s.sys.cfg.sup.sets = [q]) (hq : q.pset < 16) (hloss : s.get F.GIF_PSET_LOSS.LSTATE q.pset ≠ 2) :
    execUcgCompute s = .next (quietly (ucgWritten q.pset (BitVec.ofNat 32 (min (ucgSpeed s q) (2 ^ 31 - 1)))) s) := by
  rw [execUcgCompute, hpair, hready, quietly, hsets, quietly, ← ucgWrite_of_not_coasting hq hloss]
  rfl

theorem ucgWritten_get (p : Nat) {n : Nat} (hn : n < 2 ^ 32) (s : State) :
    (ucgWritten p (BitVec.ofNat 32 n) s).get F.GIF_PSET_UCG.UCG_SPEED p = n := by
  rw [State.get, ucgWritten_speed]
  simp only [getBits, BitVec.toNat_ofNat, F.GIF_PSET_UCG.UCG_SPEED]
  omega

theorem ucgWritten_regsOnly (p : Nat) (v : Word) (s : State) :
    RegsOnly [F.GIF_PSET_UCG.UCG_SPEED.addr p 0 0, F.GIF_PSET_STAT.STATE.addr p 0 0] s (ucgWritten p v s) := by
  intro a ha
  obtain ⟨hspeed, hstat⟩ : a ≠ F.GIF_PSET_UCG.UCG_SPEED.addr p 0 0 ∧ a ≠ F.GIF_PSET_STAT.STATE.addr p 0 0 := by simpa using ha
  rw [ucgWritten_rd hstat, set_quiet _ _ _ _ _ _ _ hspeed]

/-! ### The end of the catch phase (R316, R317) -/

theorem machSpd_of_rd (h : t.rd (F.FLY_MACH_SPD.SPD.addr m 0 0) = s.rd (F.FLY_MACH_SPD.SPD.addr m 0 0)) : machSpd t m = machSpd s m := by
  rw [machSpd, State.getI, State.get_of_rd h, machSpd, State.getI]

theorem flying_machSpd (hm : m < 2) : Flying (F.FLY_MACH_SPD.SPD.addr m 0 0) := by
  simp only [Fld.addr, F.FLY_MACH_SPD.SPD]
  omega

theorem armSet_flying {a : Nat} (h : Flying a) (p : Nat) (s : State) : (armSet p s).rd a = s.rd a :=
  foldl_keeps (·.rd a) _ _ (fun l hl u => setLegCfg_rd h.offLegs u F.PWM_LEG_CFG.ARM 1 l ⟨rfl, rfl⟩ (mem_legsOfSet_lt hl)) s

/-- The sets of machine m that carry torque, armed. -/
def setsArmed (m : Nat) (s : State) : State :=
  (setsOfMach s m).foldl (fun u e => if setCarries u e.2.pset then armSet e.2.pset u else u) s

theorem setsArmed_flying {a : Nat} (h : Flying a) (m : Nat) (s : State) : (setsArmed m s).rd a = s.rd a :=
  foldl_keeps (·.rd a) _ _ (fun _ _ u => ite_keeps (p := (·.rd a)) (armSet_flying h _ u)) s

theorem startRun_flying {a : Nat} (h : Flying a) (m : Nat) (how : StartPhase) (s : State) : (startRun m how s).rd a = s.rd a :=
  setsArmed_flying h m s

/-- A run begins in its phase, from the measured speed. -/
theorem startRun_mach (hm : m < 2) (how : StartPhase) (s : State) : ((startRun m how s).mach m).start = how ∧
    ((startRun m how s).mach m).running = true ∧ ((startRun m how s).mach m).vRef = machSpd s m * 65536 := by
  have hrun : startRun m how s = (setsArmed m s).setMach m { (setsArmed m s).mach m with
    start := how, running := true, vRef := machSpd (setsArmed m s) m * 65536, aRef := 0, integ := 0,
    wHat := machSpd (setsArmed m s) m * 65536, tlHat := 0, tlHist := [] } := rfl
  rw [hrun, State.mach_setMach, ← machSpd_of_rd (setsArmed_flying (flying_machSpd hm) m s)]
  exact ⟨rfl, rfl, rfl⟩

/-- But for the status word, enabling a tracker writes EN alone. -/
theorem trkEnable_rd {a : Nat} (h : a ≠ F.FLY_MACH_STAT.ACQUIRED.addr m 0 0) (s : State) :
    (trkEnable m s).rd a = (s.set F.FLY_MACH_CFG.EN 1 m).rd a := by
  unfold trkEnable
  rw [State.rd_of_regs (State.setSrc_regs _ _ _), set_quiet _ F.FLY_MACH_STAT.DIR _ _ _ _ _ h,
    set_quiet _ F.FLY_MACH_STAT.SPEED_VALID _ _ _ _ _ h, set_quiet _ _ _ _ _ _ _ h]

theorem toSrc14_rd {a : Nat} (hcfg : a ≠ F.FLY_MACH_CFG.EN.addr m 0 0) (hstat : a ≠ F.FLY_MACH_STAT.ACQUIRED.addr m 0 0) (s : State) :
    (toSrc14 m s).rd a = s.rd a := by
  rw [toSrc14, trkEnable_rd hstat, set_quiet _ _ _ _ _ _ _ hcfg, set_quiet _ F.FLY_MACH_CFG.SRC _ _ _ _ _ hcfg,
    set_quiet _ _ _ _ _ _ _ hcfg]

theorem toSrc14_machSpd (m : Nat) (s : State) : machSpd (toSrc14 m s) m = machSpd s m := by
  refine machSpd_of_rd (toSrc14_rd ?_ ?_ s) <;>
    simp only [Fld.addr, F.FLY_MACH_SPD.SPD, F.FLY_MACH_CFG.EN, F.FLY_MACH_STAT.ACQUIRED] <;> omega

theorem toSrc14_shows (m : Nat) (s : State) : machSrc (toSrc14 m s) m = 14 ∧ (toSrc14 m s).get F.FLY_MACH_CFG.EN m = 1 := by
  have hcfg : F.FLY_MACH_CFG.EN.addr m 0 0 ≠ F.FLY_MACH_STAT.ACQUIRED.addr m 0 0 := by
    simp only [Fld.addr, F.FLY_MACH_CFG.EN, F.FLY_MACH_STAT.ACQUIRED]
    omega
  constructor
  · rw [machSrc, toSrc14, State.get_of_rd (f := F.FLY_MACH_CFG.SRC) (trkEnable_rd hcfg _), State.get_set_apart (by decide),
      State.get_set_fits (by decide) (by decide)]
  · rw [toSrc14, State.get_of_rd (trkEnable_rd hcfg _), State.get_set_one _ _ _ _ _ (by decide) (by decide)]

theorem execCatchPhaseEnd_of_locked {c : Fin 2} (hstart : (s.mach c.val).start = .catching)
    (hlock : s.getB F.FLY_MACH_STAT.EMF_LOCK c.val = true) :
    execCatchPhaseEnd c s = .next (startRun c.val .onSensor (toSrc14 c.val s)) := by
  simp [execCatchPhaseEnd, hstart, hlock]

theorem execCatchPhaseEnd_of_unlocked {c : Fin 2} (hstart : (s.mach c.val).start = .catching)
    (hlock : s.getB F.FLY_MACH_STAT.EMF_LOCK c.val = false) :
    execCatchPhaseEnd c s = .next (startRun c.val (if s.getB F.FLY_MACH_STAT.EMF_VALID c.val then .onPll else .onIf) s) := by
  cases hvalid : s.getB F.FLY_MACH_STAT.EMF_VALID c.val <;> simp [execCatchPhaseEnd, hstart, hlock, hvalid]

/-! ### The end of EMERGENCY_RUN (R327) -/

theorem emrEnd_sup_of_active (h : s.sup.emr = true) (cause : Nat) :
    (emrEnd cause s).sup.emr = false ∧ (emrEnd cause s).sup.machs = s.sup.machs := by
  have hpush : (ashPush 8 0 0 (emrBody s 1 cause) s).sup = s.sup :=
    sup_of_mask (K := { regs := true, fab := true }) rfl (ashPush_mask rfl rfl _ _ _ _ s)
  have hmachs : (ashPush 8 0 0 (emrBody s 1 cause) s).sup.machs = s.sup.machs := congrArg SupSt.machs hpush
  have hrun : emrEnd cause s = _ := if_neg (by simp [h])
  rw [hrun]
  exact ⟨rfl, hmachs⟩

theorem execEmergencyRunEnd_of_running (h : pairRuns s 0 = true) : execEmergencyRunEnd s = .next (emrEnd 2 s) := by
  rw [execEmergencyRunEnd, h]
  rfl

end

/-- Settles O25: the task by what follows its count and its machines' parts, UCG_SPEED by the set's registers, the catch phase by the run
it begins, and EMERGENCY_RUN by the supervision's words. -/
theorem machineSupervision : Obligations.MachineSupervision := by
  intro s i m p q v u
  refine ⟨?task, ?ucg, ?shock, ?locked, ?unlocked, ?emergency⟩
  case task =>
    intro hpair hready
    have hrun : exec (.supervisionTask i) s = _ := execSupervisionTask_of_running hpair hready i
    refine ⟨_, hrun, supervisionTask_emrTasks i s, fun hdrive hlimp hservice hp => ?_, rfl,
      execSupervisionTask_mask rfl rfl rfl rfl rfl rfl rfl rfl rfl rfl rfl rfl rfl i s hrun⟩
    exact supervisionTask_stopped ⟨hdrive, hlimp, hservice⟩ hp i
  case ucg =>
    intro hpair hready hsets hq hloss
    have hrun : exec .ucgCompute s = _ := execUcgCompute_of_single hpair hready hsets hq hloss
    have hfits : min (ucgSpeed s q) (2 ^ 31 - 1) < 2 ^ 32 := by omega
    have hregs := quietly_regs (ucgWritten q.pset (BitVec.ofNat 32 (min (ucgSpeed s q) (2 ^ 31 - 1)))) s
    refine ⟨_, hrun, ?speed, ?stale, rfl, fun a ha => ?regs, execUcgCompute_mask rfl rfl rfl rfl rfl rfl rfl rfl s hrun⟩
    case speed => rw [State.get_of_regs hregs, ucgWritten_get q.pset hfits, ucgSpeed]
    case stale => rw [State.get_of_regs hregs, ucgWritten_stale]
    case regs => rw [State.rd_of_regs hregs, ucgWritten_regsOnly _ _ s a ha]
  case shock => exact ⟨_, rfl, rfl⟩
  case locked =>
    intro hstart hlock
    have hrun : exec (.catchPhaseEnd m) s = _ := execCatchPhaseEnd_of_locked hstart hlock
    obtain ⟨hhow, hrunning, hspeed⟩ := startRun_mach m.isLt .onSensor (toSrc14 m.val s)
    obtain ⟨hsrc, hen⟩ := toSrc14_shows m.val s
    have hcfg := startRun_flying (flying_machCfg m.isLt) m.val .onSensor (toSrc14 m.val s)
    rw [toSrc14_machSpd] at hspeed
    exact ⟨_, hrun, hhow, hrunning, hspeed, (machSrc_of_rd hcfg).trans hsrc, (State.get_of_rd (f := F.FLY_MACH_CFG.EN) hcfg).trans hen,
      execCatchPhaseEnd_mask rfl rfl rfl m s hrun⟩
  case unlocked =>
    intro hstart hlock
    have hrun : exec (.catchPhaseEnd m) s = _ := execCatchPhaseEnd_of_unlocked hstart hlock
    obtain ⟨hhow, hrunning, hspeed⟩ := startRun_mach m.isLt
      (if s.getB F.FLY_MACH_STAT.EMF_VALID m.val then .onPll else .onIf) s
    exact ⟨_, hrun, hhow, hrunning, hspeed, machSrc_of_rd (startRun_flying (flying_machCfg m.isLt) _ _ _),
      execCatchPhaseEnd_mask rfl rfl rfl m s hrun⟩
  case emergency =>
    intro hpair hemr
    have hrun : exec .emergencyRunEnd s = _ := execEmergencyRunEnd_of_running hpair
    obtain ⟨hoff, hmachs⟩ := emrEnd_sup_of_active hemr 2
    exact ⟨_, hrun, hoff, hmachs, execEmergencyRunEnd_mask rfl rfl rfl s hrun⟩

end Sys2Proof.Machine

/-! Steps (00_scope.md; 20_memory_events.md R538, R543): every command answers a next state, leaves the queue alone and keeps memory in
canonical form; O53, O54 and O56. Where the laws of memory and of the mask have one lemma per row, each case below names its row's. -/

namespace Sys2Proof.Machine
open Sys2Proof

/-! ### Every command answers -/

section
variable (s : State)

theorem slot0Row_answers (w : Fin 8) (slot : Fin 2) (us : List Nat) (hz : List (Fin 36)) (legal : Bool)
    (act : Nat → Nat → State → State) : ∃ t, slot0Row w slot us hz legal act s = .next t := by
  unfold slot0Row
  split
  · exact ⟨_, rfl⟩
  · exact ⟨_, rfl⟩

theorem privCommit_answers (m : Master) (mb : Nat) (auth : Option AuthIn) (arg : PrivArg) : ∃ t, privCommit m mb auth arg s = .next t := by
  cases auth with
  | none => exact ⟨_, rfl⟩
  | some a => exact ⟨_, rfl⟩

theorem execEmberProgramLoad_answers (m : Master) (prog : List Word) : ∃ t, execEmberProgramLoad m prog s = .next t := by
  cases m with
  | tinder => exact ⟨_, rfl⟩
  | loader => exact ⟨_, rfl⟩
  | _ => exact ⟨_, rfl⟩

end

theorem exec_answers (c : Instr) (s : State) : ∃ t, exec c s = .next t := by
  cases c with
  | emberProgramLoad => exact execEmberProgramLoad_answers _ _ _
  | whlRot | whlVec | whlScs | whlRcp | whlSqrt | whlTbl | whlLd | whlSt | whlBz | whlBnz | whlBltz | whlBgez | whlJmp | whlLoop | whlSafe | whlEnd =>
    exact slot0Row_answers _ _ _ _ _ _ _
  | pwSet | freshSet | lcAdvance | secAdvance | keyProvision | keyRevoke =>
    exact privCommit_answers _ _ _ _ _
  | _ => exact ⟨_, rfl⟩

/-! ### The queue -/

/-- Every part of the state; the queue is none of them. -/
def Parts.every : Parts :=
  ⟨true, true, true, true, true, true, true, true, true, true, true, true, true, true, true, true, true, true, true, true, true, true, true⟩

theorem exec_pending {c : Instr} {s t : State} (hr : exec c s = .next t) : t.pending = s.pending := by
  refine pending_of_mask (K := Parts.every) ?_
  cases c with
  | windowEnd => exact execWindowEnd_mask rfl rfl rfl rfl rfl rfl rfl rfl rfl _ _ _ _ _ hr
  | afeResultDelivery => exact execAfeResultDelivery_mask rfl rfl rfl rfl _ _ _ hr
  | timedLoopStart => exact execTimedLoopStart_mask rfl rfl rfl rfl rfl rfl rfl rfl rfl rfl _ _ _ hr
  | budgetEnd => exact execBudgetEnd_mask rfl rfl rfl rfl rfl rfl rfl rfl rfl rfl rfl _ _ _ hr
  | outputPhaseCopy => exact execOutputPhaseCopy_mask rfl rfl rfl rfl rfl rfl rfl rfl rfl rfl rfl _ _ _ _ hr
  | carrierEvent => exact execCarrierEvent_mask rfl rfl rfl rfl rfl rfl rfl _ _ hr
  | linkTokenTimeout => exact execLinkTokenTimeout_mask rfl rfl rfl rfl rfl rfl rfl rfl rfl rfl rfl rfl rfl rfl rfl rfl rfl rfl rfl rfl rfl _ _ hr
  | linkFrameReceive => exact execLinkFrameReceive_mask rfl rfl rfl rfl rfl rfl rfl rfl rfl rfl rfl rfl rfl rfl rfl rfl rfl rfl rfl rfl rfl _ _ hr
  | registerWrite => exact execRegisterWrite_mask rfl rfl rfl rfl rfl rfl rfl rfl rfl rfl rfl rfl rfl rfl rfl rfl rfl rfl rfl rfl rfl rfl rfl _ _ _ _ _ _ hr
  | requestReady => exact execRequestReady_mask rfl rfl rfl rfl rfl rfl rfl rfl rfl rfl rfl rfl rfl rfl rfl rfl rfl rfl rfl rfl rfl rfl _ _ _ _ hr
  | requestDrive => exact execRequestDrive_mask rfl rfl rfl rfl rfl rfl rfl rfl rfl rfl rfl rfl rfl rfl rfl rfl rfl rfl rfl rfl rfl rfl _ _ _ hr
  | requestCharge => exact execRequestCharge_mask rfl rfl rfl rfl rfl rfl rfl rfl rfl rfl rfl rfl rfl rfl rfl rfl rfl rfl rfl rfl rfl rfl _ _ _ hr
  | requestV2l => exact execRequestV2l_mask rfl rfl rfl rfl rfl rfl rfl rfl rfl rfl rfl rfl rfl rfl rfl rfl rfl rfl rfl rfl rfl rfl _ _ _ hr
  | requestLimp => exact execRequestLimp_mask rfl rfl rfl rfl rfl rfl rfl rfl rfl rfl rfl rfl rfl rfl rfl rfl rfl rfl rfl rfl rfl rfl _ _ _ hr
  | requestService => exact execRequestService_mask rfl rfl rfl rfl rfl rfl rfl rfl rfl rfl rfl rfl rfl rfl rfl rfl rfl rfl rfl rfl rfl rfl _ _ _ hr
  | requestSafe => exact execRequestSafe_mask rfl rfl rfl rfl rfl rfl rfl rfl rfl rfl rfl rfl rfl rfl rfl rfl rfl rfl rfl rfl rfl rfl _ _ _ hr
  | requestDormant => exact execRequestDormant_mask rfl rfl rfl rfl rfl rfl rfl rfl rfl rfl rfl rfl rfl rfl rfl rfl rfl rfl rfl rfl rfl rfl _ _ _ hr
  | requestRestart => exact execRequestRestart_mask rfl rfl rfl rfl rfl rfl rfl rfl rfl rfl rfl rfl rfl rfl rfl rfl rfl rfl rfl rfl rfl rfl _ _ _ hr
  | modeTransitionComplete => exact execModeTransitionComplete_mask rfl rfl rfl rfl rfl rfl rfl rfl rfl rfl rfl rfl rfl rfl rfl rfl rfl rfl rfl rfl rfl _ hr
  | imposedTransition => exact execImposedTransition_mask rfl rfl rfl rfl rfl rfl rfl rfl rfl rfl rfl rfl rfl rfl rfl rfl rfl rfl rfl rfl rfl _ hr
  | vbatRise => exact execVbatRise_mask rfl rfl rfl rfl _ hr
  | supplyGood => exact execSupplyGood_mask rfl _ hr
  | pllLock => exact execPllLock_mask rfl rfl rfl rfl rfl rfl rfl rfl rfl rfl rfl rfl rfl rfl rfl rfl rfl rfl rfl rfl rfl _ _ hr
  | domainPowerOn => exact execDomainPowerOn_mask rfl rfl _ hr
  | memoryFillDone => exact execMemoryFillDone_mask rfl rfl rfl rfl rfl rfl rfl rfl rfl rfl rfl rfl rfl rfl rfl rfl rfl rfl rfl rfl rfl _ _ _ hr
  | whorlReloadDone => exact execWhorlReloadDone_mask rfl rfl rfl _ _ hr
  | coreRelease => exact execCoreRelease_mask rfl rfl rfl rfl rfl rfl rfl rfl rfl rfl rfl rfl rfl rfl rfl rfl rfl rfl rfl rfl rfl _ hr
  | startTimeout => exact execStartTimeout_mask rfl rfl _ hr
  | supplyTimeout => exact execSupplyTimeout_mask rfl rfl rfl rfl rfl rfl rfl rfl rfl rfl rfl rfl rfl rfl rfl rfl rfl rfl rfl rfl rfl _ hr
  | referenceClockFail => exact execReferenceClockFail_mask rfl rfl rfl rfl rfl rfl rfl rfl rfl rfl rfl rfl rfl rfl rfl rfl rfl rfl rfl rfl rfl _ hr
  | pllLockTimeout => exact execPllLockTimeout_mask rfl rfl rfl rfl rfl rfl rfl rfl rfl rfl rfl rfl rfl rfl rfl rfl rfl rfl rfl rfl rfl _ hr
  | linkUpTimeout => exact execLinkUpTimeout_mask rfl rfl rfl rfl rfl rfl rfl rfl rfl rfl rfl rfl rfl rfl rfl rfl rfl rfl rfl rfl rfl _ hr
  | kilnTableTransfer => exact execKilnTableTransfer_mask rfl rfl rfl rfl rfl rfl rfl rfl rfl rfl rfl rfl rfl rfl rfl rfl rfl rfl rfl rfl rfl _ _ hr
  | supEnHoldEnd => exact execSupEnHoldEnd_mask rfl rfl rfl rfl rfl rfl rfl _ hr
  | supplyWarning => exact execSupplyWarning_mask rfl rfl rfl rfl rfl rfl rfl _ _ _ hr
  | supplyFault => exact execSupplyFault_mask rfl rfl rfl rfl rfl rfl rfl rfl rfl rfl rfl rfl rfl rfl rfl rfl rfl rfl rfl rfl rfl _ _ _ hr
  | supplyRecovery => exact execSupplyRecovery_mask rfl rfl rfl rfl rfl rfl _ _ _ hr
  | controlDieRelease => exact execControlDieRelease_mask rfl rfl rfl rfl _ hr
  | vbatCollapse => exact execVbatCollapse_mask rfl rfl rfl rfl rfl rfl rfl rfl rfl rfl rfl rfl rfl rfl rfl rfl rfl rfl rfl rfl rfl rfl rfl _ hr
  | dormantDomainOff => exact execDormantDomainOff_mask rfl rfl rfl rfl rfl rfl rfl rfl rfl rfl rfl rfl rfl rfl rfl rfl rfl rfl rfl rfl rfl _ hr
  | dormantEntryComplete => exact execDormantEntryComplete_mask rfl rfl rfl rfl rfl rfl _ hr
  | latchedWakeStart => exact execLatchedWakeStart_mask rfl rfl rfl rfl rfl _ hr
  | kilnHoldExit => exact execKilnHoldExit_mask rfl rfl rfl rfl rfl rfl _ hr
  | flashInit => exact execFlashInit_mask rfl rfl rfl rfl rfl rfl rfl rfl rfl rfl rfl rfl rfl rfl rfl rfl rfl rfl rfl rfl rfl _ _ hr
  | headerVerified => exact execHeaderVerified_mask rfl rfl rfl rfl rfl rfl rfl rfl rfl rfl rfl rfl rfl rfl rfl rfl rfl rfl rfl rfl rfl _ _ _ hr
  | descriptorsVerified => exact execDescriptorsVerified_mask rfl rfl rfl rfl rfl rfl rfl rfl rfl rfl rfl rfl rfl rfl rfl rfl rfl rfl rfl rfl rfl _ _ _ hr
  | componentVerified => exact execComponentVerified_mask rfl rfl rfl rfl rfl rfl rfl rfl rfl rfl rfl rfl rfl rfl rfl rfl rfl rfl rfl rfl rfl _ _ hr
  | configRecordsApply => exact execConfigRecordsApply_mask rfl rfl rfl rfl rfl rfl rfl rfl rfl rfl rfl rfl rfl rfl rfl rfl rfl rfl rfl rfl rfl rfl _ _ _ hr
  | writeOnceWrite => exact execWriteOnceWrite_mask rfl rfl rfl rfl rfl rfl rfl rfl rfl rfl rfl rfl rfl rfl rfl rfl rfl rfl rfl rfl rfl _ _ hr
  | mmapFlashRead => exact execMmapFlashRead_mask rfl rfl rfl rfl rfl _ _ _ _ _ hr
  | flashOperationDone => exact execFlashOperationDone_mask rfl rfl rfl rfl rfl rfl rfl rfl rfl rfl rfl rfl rfl rfl rfl rfl rfl rfl rfl rfl rfl rfl rfl _ _ hr
  | flashReadError => exact execFlashReadError_mask rfl rfl rfl rfl rfl rfl rfl rfl rfl rfl rfl rfl rfl rfl rfl rfl rfl rfl rfl rfl rfl _ hr
  | passTimerExpiry => exact execPassTimerExpiry_mask rfl rfl rfl _ hr
  | wakePinEdge => exact execWakePinEdge_mask rfl rfl rfl rfl rfl rfl rfl _ _ _ hr
  | rtcSecondTick => exact execRtcSecondTick_mask rfl rfl rfl _ hr
  | rtcSecWrite => exact execRtcSecWrite_mask rfl rfl _ _ _ hr
  | rtcAlarmWrite => exact execRtcAlarmWrite_mask rfl rfl rfl _ _ _ hr
  | passLimit => exact execPassLimit_mask rfl rfl rfl rfl rfl rfl rfl _ hr
  | embIllegalOpcode => exact execEmbIllegalOpcode_mask rfl rfl rfl rfl rfl rfl rfl _ _ hr
  | embSleep => exact execEmbSleep_mask rfl rfl rfl _ hr
  | embLdi => exact execEmbLdi_mask rfl _ _ _ hr
  | embLui => exact execEmbLui_mask rfl _ _ _ hr
  | embAdd => exact execEmbAdd_mask rfl _ _ _ _ hr
  | embSub => exact execEmbSub_mask rfl _ _ _ _ hr
  | embAddi => exact execEmbAddi_mask rfl _ _ _ _ hr
  | embAnd => exact execEmbAnd_mask rfl _ _ _ _ hr
  | embOr => exact execEmbOr_mask rfl _ _ _ _ hr
  | embXor => exact execEmbXor_mask rfl _ _ _ _ hr
  | embShl => exact execEmbShl_mask rfl _ _ _ _ hr
  | embShr => exact execEmbShr_mask rfl _ _ _ _ hr
  | embAsr => exact execEmbAsr_mask rfl _ _ _ _ hr
  | embFilt => exact execEmbFilt_mask rfl _ _ _ _ hr
  | embLd => exact execEmbLd_mask rfl _ _ _ _ hr
  | embSt => exact execEmbSt_mask rfl rfl _ _ _ _ hr
  | embBeq => exact execEmbBeq_mask rfl _ _ _ _ hr
  | embBne => exact execEmbBne_mask rfl _ _ _ _ hr
  | embBlt => exact execEmbBlt_mask rfl _ _ _ _ hr
  | embBge => exact execEmbBge_mask rfl _ _ _ _ hr
  | embJmp => exact execEmbJmp_mask rfl _ _ hr
  | embSamp => exact execEmbSamp_mask rfl _ _ _ _ hr
  | embCnt => exact execEmbCnt_mask rfl _ _ _ _ hr
  | embInp => exact execEmbInp_mask rfl _ _ hr
  | embRtc => exact execEmbRtc_mask rfl _ _ hr
  | embWake => exact execEmbWake_mask rfl rfl rfl rfl rfl rfl rfl _ _ _ hr
  | embOut => exact execEmbOut_mask rfl rfl _ _ hr
  | embWait imm => exact execEmbWait_mask rfl imm _ hr
  | converterPowerDown => exact execConverterPowerDown_mask rfl _ hr
  | rotationCrossing => exact execRotationCrossing_mask rfl rfl _ _ hr
  | xtalStop => exact execXtalStop_mask rfl _ hr
  | xtalReturn => exact execXtalReturn_mask rfl _ hr
  | emberProgramLoad => exact execEmberProgramLoad_mask rfl rfl rfl rfl _ _ _ hr
  | sliceTimeout => exact execSliceTimeout_mask rfl rfl rfl rfl rfl _ _ _ hr
  | rotationStep => exact execRotationStep_mask rfl rfl rfl rfl rfl _ _ _ _ hr
  | spareCalibration => exact execSpareCalibration_mask rfl rfl rfl rfl rfl _ _ _ _ hr
  | refEnable => exact execRefEnable_mask rfl rfl _ _ hr
  | refReady => exact execRefReady_mask rfl rfl rfl rfl rfl _ _ hr
  | refDisable => exact execRefDisable_mask rfl rfl _ _ hr
  | refBufferFault => exact execRefBufferFault_mask rfl rfl rfl rfl _ _ hr
  | sliceCoefWrite => exact execSliceCoefWrite_mask rfl rfl _ _ _ _ _ hr
  | windowStart => exact execWindowStart_mask rfl _ _ _ hr
  | windowAbort => exact execWindowAbort_mask rfl rfl rfl rfl rfl rfl rfl rfl rfl _ _ _ _ _ hr
  | windowDisable => exact execWindowDisable_mask rfl _ _ _ hr
  | afeChannelDisable => exact execAfeChannelDisable_mask rfl _ _ hr
  | pointSample => exact execPointSample_mask rfl _ _ _ _ _ _ hr
  | segmentAnchor => exact execSegmentAnchor_mask rfl _ _ _ _ _ _ hr
  | hkConversionSlot => exact execHkConversionSlot_mask rfl rfl rfl rfl rfl rfl rfl _ _ hr
  | twinArbitrationEnd => exact execTwinArbitrationEnd_mask rfl rfl rfl rfl rfl rfl rfl rfl _ _ _ _ _ hr
  | twinStrobeTimeout => exact execTwinStrobeTimeout_mask rfl rfl rfl rfl rfl rfl _ _ hr
  | backgroundTrigger => exact execBackgroundTrigger_mask rfl rfl rfl rfl rfl rfl rfl rfl rfl rfl _ _ _ hr
  | backgroundStart => exact execBackgroundStart_mask rfl rfl rfl rfl rfl rfl rfl rfl rfl rfl _ _ _ hr
  | backgroundComplete => exact execBackgroundComplete_mask rfl rfl rfl rfl rfl rfl rfl rfl rfl rfl rfl _ _ _ hr
  | loopEnable => exact execLoopEnable_mask rfl rfl rfl _ _ _ _ _ hr
  | loopDisable => exact execLoopDisable_mask rfl rfl rfl rfl rfl rfl rfl rfl rfl _ _ _ _ hr
  | coefQueueWrite => exact execCoefQueueWrite_mask rfl rfl rfl rfl rfl _ _ _ _ hr
  | queueBatchApply => exact execQueueBatchApply_mask rfl rfl rfl rfl _ _ hr
  | cqHoldSet => exact execCqHoldSet_mask rfl rfl _ _ _ hr
  | cqHoldClear => exact execCqHoldClear_mask rfl rfl _ _ _ hr
  | cqFlush => exact execCqFlush_mask rfl rfl rfl rfl rfl rfl rfl rfl _ _ _ hr
  | tableRegionWrite => exact execTableRegionWrite_mask rfl rfl rfl _ _ _ _ _ hr
  | whorlMemoryWrite => exact execWhorlMemoryWrite_mask rfl rfl rfl rfl rfl rfl rfl _ _ _ _ _ _ hr
  | shadowSessionStart => exact execShadowSessionStart_mask rfl rfl _ _ hr
  | standbyPrepareDone => exact execStandbyPrepareDone_mask rfl rfl rfl rfl rfl _ _ hr
  | stateCopyDone => exact execStateCopyDone_mask rfl rfl rfl rfl rfl rfl rfl rfl _ _ _ hr
  | whlHandoverRequest => exact execWhlHandoverRequest_mask rfl rfl rfl _ _ _ hr
  | codeRepair => exact execCodeRepair_mask rfl rfl rfl rfl rfl rfl rfl rfl rfl rfl _ _ _ _ hr
  | unitResultRetire => exact execUnitResultRetire_mask rfl _ _ hr
  | whlIllegalOperation => exact execWhlIllegalOperation_mask rfl rfl rfl _ _ _ _ hr
  | whlNop => exact execWhlNop_mask rfl rfl rfl rfl rfl _ _ _ _ _ hr
  | whlAdd => exact execWhlAdd_mask rfl rfl rfl _ _ _ _ _ _ _ hr
  | whlSub => exact execWhlSub_mask rfl rfl rfl _ _ _ _ _ _ _ hr
  | whlAddw => exact execWhlAddw_mask rfl rfl rfl _ _ _ _ _ _ _ hr
  | whlSubw => exact execWhlSubw_mask rfl rfl rfl _ _ _ _ _ _ _ hr
  | whlNeg => exact execWhlNeg_mask rfl rfl rfl _ _ _ _ _ _ hr
  | whlAbs => exact execWhlAbs_mask rfl rfl rfl _ _ _ _ _ _ hr
  | whlMin => exact execWhlMin_mask rfl rfl rfl _ _ _ _ _ _ _ hr
  | whlMax => exact execWhlMax_mask rfl rfl rfl _ _ _ _ _ _ _ hr
  | whlClmp => exact execWhlClmp_mask rfl rfl rfl _ _ _ _ _ _ _ hr
  | whlAnd => exact execWhlAnd_mask rfl rfl rfl _ _ _ _ _ _ _ hr
  | whlOr => exact execWhlOr_mask rfl rfl rfl _ _ _ _ _ _ _ hr
  | whlXor => exact execWhlXor_mask rfl rfl rfl _ _ _ _ _ _ _ hr
  | whlShl => exact execWhlShl_mask rfl rfl rfl _ _ _ _ _ _ _ hr
  | whlSar => exact execWhlSar_mask rfl rfl rfl _ _ _ _ _ _ _ hr
  | whlShr => exact execWhlShr_mask rfl rfl rfl _ _ _ _ _ _ _ hr
  | whlLih => exact execWhlLih_mask rfl rfl rfl _ _ _ _ _ _ hr
  | whlLil => exact execWhlLil_mask rfl rfl rfl _ _ _ _ _ _ hr
  | whlAddi => exact execWhlAddi_mask rfl rfl rfl _ _ _ _ _ _ _ hr
  | whlSlt => exact execWhlSlt_mask rfl rfl rfl _ _ _ _ _ _ _ hr
  | whlCmov => exact execWhlCmov_mask rfl rfl rfl _ _ _ _ _ _ _ hr
  | whlFlg => exact execWhlFlg_mask rfl rfl rfl _ _ _ _ _ hr
  | whlMul => exact execWhlMul_mask rfl rfl rfl _ _ _ _ _ _ _ hr
  | whlMac => exact execWhlMac_mask rfl rfl rfl _ _ _ _ _ _ _ hr
  | whlMsu => exact execWhlMsu_mask rfl rfl rfl _ _ _ _ _ _ _ hr
  | whlAld => exact execWhlAld_mask rfl rfl rfl _ _ _ _ _ _ hr
  | whlArd => exact execWhlArd_mask rfl rfl rfl _ _ _ _ _ _ hr
  | whlAclp => exact execWhlAclp_mask rfl rfl rfl _ _ _ _ _ _ hr
  | whlRot => exact execWhlRot_mask rfl rfl rfl _ _ _ _ _ _ _ hr
  | whlVec => exact execWhlVec_mask rfl rfl rfl _ _ _ _ _ _ hr
  | whlScs => exact execWhlScs_mask rfl rfl rfl _ _ _ _ _ _ hr
  | whlRcp => exact execWhlRcp_mask rfl rfl rfl _ _ _ _ _ _ hr
  | whlSqrt => exact execWhlSqrt_mask rfl rfl rfl _ _ _ _ _ _ hr
  | whlTbl => exact execWhlTbl_mask rfl rfl rfl rfl rfl _ _ _ _ _ _ _ _ hr
  | whlIn => exact execWhlIn_mask rfl rfl rfl _ _ _ _ _ _ hr
  | whlOut => exact execWhlOut_mask rfl rfl rfl _ _ _ _ _ _ hr
  | whlFrsh => exact execWhlFrsh_mask rfl rfl rfl _ _ _ _ _ _ hr
  | whlLd => exact execWhlLd_mask rfl rfl rfl rfl rfl _ _ _ _ _ _ _ _ hr
  | whlSt => exact execWhlSt_mask rfl rfl rfl rfl _ _ _ _ _ _ _ hr
  | whlBz => exact execWhlBz_mask rfl rfl rfl _ _ _ _ _ _ hr
  | whlBnz => exact execWhlBnz_mask rfl rfl rfl _ _ _ _ _ _ hr
  | whlBltz => exact execWhlBltz_mask rfl rfl rfl _ _ _ _ _ _ hr
  | whlBgez => exact execWhlBgez_mask rfl rfl rfl _ _ _ _ _ _ hr
  | whlJmp => exact execWhlJmp_mask rfl rfl rfl _ _ _ _ _ hr
  | whlLoop => exact execWhlLoop_mask rfl rfl rfl _ _ _ _ _ _ hr
  | whlSafe => exact execWhlSafe_mask rfl rfl rfl _ _ _ _ hr
  | whlEnd => exact execWhlEnd_mask rfl rfl rfl _ _ _ _ hr
  | generatorDisable => exact execGeneratorDisable_mask rfl rfl _ _ _ hr
  | switchEdgeCommand => exact execSwitchEdgeCommand_mask rfl rfl rfl _ _ _ _ hr
  | deadTimeExpiry => exact execDeadTimeExpiry_mask rfl rfl rfl _ _ hr
  | gfbChange => exact execGfbChange_mask rfl rfl rfl rfl rfl rfl rfl _ _ _ _ hr
  | turnOffFbWinExpiry => exact execTurnOffFbWinExpiry_mask rfl rfl rfl rfl rfl rfl rfl _ _ hr
  | turnOnFbWinExpiry => exact execTurnOnFbWinExpiry_mask rfl rfl rfl rfl rfl rfl rfl _ _ hr
  | bootUndervoltage => exact execBootUndervoltage_mask rfl rfl rfl rfl rfl rfl _ _ hr
  | armSet => exact execArmSet_mask rfl rfl _ _ _ hr
  | genFall => exact execGenFall_mask rfl rfl rfl rfl _ _ hr
  | genLowFeedbackFault => exact execGenLowFeedbackFault_mask rfl rfl _ _ hr
  | comparatorTrip => exact execComparatorTrip_mask rfl rfl rfl rfl rfl rfl rfl rfl rfl _ _ _ hr
  | comparatorRelease => exact execComparatorRelease_mask rfl rfl rfl rfl rfl _ _ hr
  | blankingEnd => exact execBlankingEnd_mask rfl rfl rfl rfl rfl rfl rfl rfl rfl _ _ hr
  | hardTrip => exact execHardTrip_mask rfl rfl rfl rfl rfl rfl rfl _ _ _ hr
  | gfltAssert => exact execGfltAssert_mask rfl rfl rfl rfl rfl rfl rfl _ _ _ hr
  | faultMapDecision => exact execFaultMapDecision_mask rfl rfl rfl rfl rfl rfl rfl _ _ hr
  | ascEntryTimeout => exact execAscEntryTimeout_mask rfl rfl rfl rfl rfl rfl rfl _ _ hr
  | ucgSpeedWrite => exact execUcgSpeedWrite_mask rfl rfl rfl rfl rfl rfl rfl rfl _ _ _ _ hr
  | ucgStaleTimeout => exact execUcgStaleTimeout_mask rfl rfl rfl rfl _ _ hr
  | psetClear => exact execPsetClear_mask rfl rfl rfl rfl rfl rfl rfl rfl rfl _ _ _ hr
  | psetAscTop => exact execPsetAscTop_mask rfl rfl _ _ _ hr
  | psetAscBot => exact execPsetAscBot_mask rfl rfl _ _ _ hr
  | encoderEdge => exact execEncoderEdge_mask rfl rfl rfl rfl rfl rfl rfl rfl _ _ _ hr
  | encoderIndex => exact execEncoderIndex_mask rfl rfl rfl rfl rfl rfl rfl rfl _ _ _ hr
  | encPosRead => exact execEncPosRead_mask rfl rfl _ _ _ hr
  | hallTransition => exact execHallTransition_mask rfl rfl rfl rfl rfl rfl rfl rfl _ _ _ hr
  | resolverHalfPeriod => exact execResolverHalfPeriod_mask rfl rfl rfl rfl rfl rfl rfl rfl _ _ _ _ hr
  | excitationFault => exact execExcitationFault_mask rfl rfl rfl rfl rfl rfl rfl rfl _ _ _ hr
  | serialPoll => exact execSerialPoll_mask rfl _ _ hr
  | serialFrameEnd => exact execSerialFrameEnd_mask rfl rfl rfl rfl rfl rfl rfl rfl _ _ _ hr
  | serialTimeout => exact execSerialTimeout_mask rfl rfl rfl rfl rfl rfl rfl rfl _ _ hr
  | sentFrame => exact execSentFrame_mask rfl rfl rfl rfl rfl rfl rfl rfl _ _ _ _ _ _ hr
  | measurementTimeout => exact execMeasurementTimeout_mask rfl rfl rfl rfl rfl rfl rfl rfl _ _ hr
  | trackerStep => exact execTrackerStep_mask rfl rfl rfl rfl rfl rfl rfl rfl _ _ _ hr
  | machAcq => exact execMachAcq_mask rfl rfl rfl rfl _ _ _ hr
  | machAcqUseSet => exact execMachAcqUseSet_mask rfl rfl rfl rfl _ _ _ hr
  | compareValWrite => exact execCompareValWrite_mask rfl rfl rfl _ _ _ _ _ hr
  | emulationEdge => exact execEmulationEdge_mask rfl rfl _ _ hr
  | flyerUnitDisable => exact execFlyerUnitDisable_mask rfl rfl rfl _ _ _ hr
  | reacqTimeout => exact execReacqTimeout_mask rfl rfl rfl _ _ hr
  | supervisionTask => exact execSupervisionTask_mask rfl rfl rfl rfl rfl rfl rfl rfl rfl rfl rfl rfl rfl _ _ hr
  | ucgCompute => exact execUcgCompute_mask rfl rfl rfl rfl rfl rfl rfl rfl _ hr
  | shockHoldEnd => exact execShockHoldEnd_mask rfl _ _ hr
  | catchPhaseEnd => exact execCatchPhaseEnd_mask rfl rfl rfl _ _ hr
  | emergencyRunEnd => exact execEmergencyRunEnd_mask rfl rfl rfl _ hr
  | bridgeHiz => exact execBridgeHiz_mask rfl rfl rfl _ _ _ hr
  | bridgePwm => exact execBridgePwm_mask rfl rfl rfl _ _ _ hr
  | bridgeLowOn => exact execBridgeLowOn_mask rfl rfl rfl _ _ _ hr
  | predriverGateReport => exact execPredriverGateReport_mask rfl rfl rfl rfl rfl rfl rfl _ _ _ hr
  | drainSourceFault => exact execDrainSourceFault_mask rfl rfl rfl rfl _ _ _ hr
  | vgdUndervoltage => exact execVgdUndervoltage_mask rfl rfl rfl rfl _ _ hr
  | driveSupplyFault => exact execDriveSupplyFault_mask rfl rfl rfl rfl _ _ hr
  | predriverOvertemp sensor => exact execPredriverOvertemp_mask rfl rfl rfl rfl sensor _ hr
  | predriverWarning => exact execPredriverWarning_mask rfl rfl _ _ _ hr
  | actEnFall => exact execActEnFall_mask rfl rfl rfl _ hr
  | actEnRise => exact execActEnRise_mask rfl rfl _ _ _ hr
  | cnvChannelStart => exact execCnvChannelStart_mask rfl rfl rfl rfl rfl rfl _ _ _ hr
  | cnvChannelStop => exact execCnvChannelStop_mask rfl rfl rfl rfl rfl rfl _ _ _ hr
  | cnvChannelClear => exact execCnvChannelClear_mask rfl rfl rfl _ _ _ hr
  | cnvChannelStopNow => exact execCnvChannelStopNow_mask rfl rfl rfl rfl rfl rfl _ _ _ hr
  | rampTimeout => exact execRampTimeout_mask rfl rfl rfl rfl rfl rfl rfl _ _ hr
  | softStartCheckpoint => exact execSoftStartCheckpoint_mask rfl rfl rfl rfl rfl rfl rfl _ _ _ hr
  | softStopTimeout => exact execSoftStopTimeout_mask rfl rfl rfl rfl rfl rfl rfl _ _ hr
  | hiccupOffEnd => exact execHiccupOffEnd_mask rfl rfl rfl rfl _ _ hr
  | retryClear => exact execRetryClear_mask rfl _ _ hr
  | nlMaxTimeout => exact execNlMaxTimeout_mask rfl rfl rfl rfl rfl _ _ hr
  | shedStart => exact execShedStart_mask rfl rfl rfl _ _ hr
  | shedHoldoffEnd => exact execShedHoldoffEnd_mask rfl _ _ hr
  | telemetryWindowClose => exact execTelemetryWindowClose_mask rfl rfl _ _ _ hr
  | telemetryClear => exact execTelemetryClear_mask rfl rfl _ _ _ hr
  | pilotPeriod => exact execPilotPeriod_mask rfl rfl rfl _ _ hr
  | proximitySample => exact execProximitySample_mask rfl rfl rfl _ _ hr
  | chargeTask => exact execChargeTask_mask rfl rfl rfl rfl rfl rfl rfl rfl rfl rfl rfl rfl _ _ hr
  | limitsTimeout => exact execLimitsTimeout_mask rfl rfl _ hr
  | pauseTimeout => exact execPauseTimeout_mask rfl rfl rfl rfl rfl rfl rfl rfl rfl _ hr
  | hvLostHoldEnd => exact execHvLostHoldEnd_mask rfl rfl rfl rfl rfl rfl _ hr
  | acceptanceProbe => exact execAcceptanceProbe_mask rfl rfl rfl rfl rfl rfl _ _ _ hr
  | safetyTimerExpiry => exact execSafetyTimerExpiry_mask rfl rfl rfl rfl rfl _ hr
  | prechargeTimeout => exact execPrechargeTimeout_mask rfl rfl rfl rfl rfl rfl rfl _ hr
  | preHoldTimeout => exact execPreHoldTimeout_mask rfl rfl rfl rfl rfl rfl _ hr
  | sensorSample => exact execSensorSample_mask rfl rfl rfl rfl rfl _ _ _ _ hr
  | dieHardLimit => exact execDieHardLimit_mask rfl rfl rfl rfl rfl _ _ hr
  | ruleEvaluation => exact execRuleEvaluation_mask rfl rfl rfl rfl rfl rfl rfl rfl rfl rfl rfl rfl rfl rfl rfl rfl rfl rfl rfl rfl rfl rfl rfl _ hr
  | factorRiseStep => exact execFactorRiseStep_mask rfl rfl _ _ hr
  | pairOutputStore => exact execPairOutputStore_mask rfl rfl rfl rfl rfl rfl rfl rfl rfl rfl rfl rfl rfl rfl rfl rfl rfl rfl rfl rfl rfl rfl rfl _ _ _ _ _ hr
  | pairCompare => exact execPairCompare_mask rfl rfl rfl rfl rfl rfl rfl rfl rfl rfl rfl rfl rfl rfl rfl rfl rfl rfl rfl rfl rfl rfl rfl _ _ _ _ _ hr
  | pairInputLoad => exact execPairInputLoad_mask rfl rfl rfl rfl rfl rfl rfl rfl rfl rfl rfl rfl _ _ _ hr
  | checkpointWrite => exact execCheckpointWrite_mask rfl rfl rfl rfl rfl rfl rfl rfl rfl rfl _ _ _ _ hr
  | forcedCheckpoint => exact execForcedCheckpoint_mask rfl rfl rfl rfl rfl rfl rfl rfl rfl rfl _ _ _ hr
  | pairEventDelivery => exact execPairEventDelivery_mask rfl _ _ _ _ hr
  | pairLagTimeout => exact execPairLagTimeout_mask rfl rfl rfl rfl rfl rfl rfl rfl rfl rfl _ _ hr
  | pairResetDone => exact execPairResetDone_mask rfl rfl rfl rfl rfl rfl _ _ _ hr
  | comparatorSelfTest => exact execComparatorSelfTest_mask rfl rfl rfl rfl rfl rfl rfl rfl rfl rfl rfl rfl rfl rfl rfl rfl rfl rfl rfl rfl rfl rfl rfl _ _ _ hr
  | heartbeatChallenge => exact execHeartbeatChallenge_mask rfl rfl rfl rfl rfl rfl _ _ _ hr
  | heartbeatAnswer => exact execHeartbeatAnswer_mask rfl rfl rfl _ _ _ _ _ _ hr
  | claimCommit => exact execClaimCommit_mask rfl rfl rfl rfl rfl rfl rfl _ _ _ hr
  | claimTimeout => exact execClaimTimeout_mask rfl rfl rfl rfl rfl rfl _ hr
  | kilnPowerCheck => exact execKilnPowerCheck_mask rfl rfl rfl rfl rfl rfl _ hr
  | kirchhoffTrip => exact execKirchhoffTrip_mask rfl rfl rfl rfl rfl rfl _ _ hr
  | kilnSpeedEdge => exact execKilnSpeedEdge_mask rfl _ _ hr
  | kilnGateEnd => exact execKilnGateEnd_mask rfl rfl rfl rfl rfl rfl _ _ _ hr
  | slsRequest => exact execSlsRequest_mask rfl rfl rfl rfl rfl rfl rfl _ _ _ _ hr
  | ss1Request => exact execSs1Request_mask rfl rfl rfl rfl rfl rfl rfl _ _ _ _ hr
  | stoRequest => exact execStoRequest_mask rfl rfl rfl rfl rfl rfl rfl _ _ _ _ hr
  | stoRelease => exact execStoRelease_mask rfl rfl rfl rfl rfl rfl rfl _ _ _ _ hr
  | brakeRelease => exact execBrakeRelease_mask rfl rfl rfl rfl rfl rfl rfl _ _ _ _ hr
  | genRelease => exact execGenRelease_mask rfl rfl rfl rfl rfl rfl rfl _ _ _ _ hr
  | stoFeedbackTimeout => exact execStoFeedbackTimeout_mask rfl rfl rfl rfl rfl rfl _ hr
  | darkPulseStart => exact execDarkPulseStart_mask rfl _ _ hr
  | darkPulseEnd => exact execDarkPulseEnd_mask rfl rfl rfl rfl rfl rfl _ _ _ hr
  | brakeFeedbackTimeout => exact execBrakeFeedbackTimeout_mask rfl rfl rfl rfl rfl rfl _ _ hr
  | ss1Timeout => exact execSs1Timeout_mask rfl rfl rfl rfl rfl rfl _ hr
  | safeResetEdge => exact execSafeResetEdge_mask rfl rfl rfl rfl rfl rfl rfl rfl rfl rfl rfl rfl rfl rfl rfl rfl rfl rfl rfl rfl rfl _ _ hr
  | kilnComparatorTest => exact execKilnComparatorTest_mask rfl rfl rfl rfl rfl rfl _ _ hr
  | klnclkWatchdog => exact execKlnclkWatchdog_mask rfl rfl rfl rfl rfl rfl _ hr
  | ctrlReact => exact execCtrlReact_mask rfl rfl rfl rfl rfl _ hr
  | kilnMirrorRefresh => exact execKilnMirrorRefresh_mask rfl _ hr
  | frameReceived => exact execFrameReceived_mask rfl rfl rfl rfl rfl rfl _ _ _ hr
  | reelRecordRun => exact execReelRecordRun_mask rfl rfl rfl rfl rfl rfl _ _ _ hr
  | reelOverrun => exact execReelOverrun_mask rfl rfl rfl rfl rfl rfl _ _ _ hr
  | reelResetDone => exact execReelResetDone_mask rfl rfl rfl _ hr
  | txPush => exact execTxPush_mask rfl rfl rfl rfl _ _ _ _ _ _ _ _ hr
  | txHeadFetch => exact execTxHeadFetch_mask rfl rfl rfl rfl _ _ hr
  | txEligible => exact execTxEligible_mask rfl rfl rfl _ _ hr
  | txFrameSent => exact execTxFrameSent_mask rfl rfl rfl rfl rfl rfl _ _ hr
  | txAttemptError => exact execTxAttemptError_mask rfl rfl rfl rfl rfl rfl _ _ _ hr
  | busOffHoldEnd => exact execBusOffHoldEnd_mask rfl _ _ hr
  | busOffRecovered => exact execBusOffRecovered_mask rfl rfl _ _ hr
  | canDisable => exact execCanDisable_mask rfl rfl rfl rfl _ _ _ hr
  | canEnable => exact execCanEnable_mask rfl rfl rfl rfl _ _ _ hr
  | canFlush => exact execCanFlush_mask rfl rfl rfl _ _ _ hr
  | canDrainTimeout => exact execCanDrainTimeout_mask rfl rfl rfl _ _ hr
  | statusFrameDue => exact execStatusFrameDue_mask rfl rfl rfl rfl rfl rfl _ _ hr
  | axleCmd => exact execAxleCmd_mask rfl rfl rfl rfl rfl rfl rfl rfl rfl rfl rfl rfl rfl rfl rfl rfl rfl rfl rfl rfl rfl rfl _ _ hr
  | speedCmd => exact execSpeedCmd_mask rfl rfl _ _ hr
  | stopCmd => exact execStopCmd_mask rfl rfl rfl rfl rfl rfl rfl rfl _ _ _ hr
  | emrCmd => exact execEmrCmd_mask rfl rfl rfl _ _ _ hr
  | chgCmd => exact execChgCmd_mask rfl rfl _ _ hr
  | bmsLim => exact execBmsLim_mask rfl rfl _ _ _ hr
  | preCmd => exact execPreCmd_mask rfl rfl rfl rfl rfl rfl rfl _ _ _ hr
  | contactorClosed => exact execContactorClosed_mask rfl rfl rfl rfl rfl rfl rfl _ _ hr
  | hostTimeout => exact execHostTimeout_mask rfl rfl rfl rfl rfl rfl rfl rfl _ hr
  | hostLossTimeout => exact execHostLossTimeout_mask rfl rfl rfl rfl rfl rfl rfl rfl _ hr
  | chgCmdTimeout => exact execChgCmdTimeout_mask rfl rfl rfl _ hr
  | xcpTimeout => exact execXcpTimeout_mask rfl rfl rfl _ hr
  | xcpConnect => exact execXcpConnect_mask rfl rfl rfl _ _ hr
  | xcpDisconnect => exact execXcpDisconnect_mask rfl rfl rfl _ hr
  | xcpGetStatus => exact execXcpGetStatus_mask rfl rfl _ hr
  | xcpSynch => exact execXcpSynch_mask rfl rfl _ hr
  | xcpGetCommModeInfo => exact execXcpGetCommModeInfo_mask rfl rfl _ hr
  | xcpSetMta => exact execXcpSetMta_mask rfl rfl _ _ hr
  | xcpUpload => exact execXcpUpload_mask rfl rfl _ _ hr
  | xcpShortUpload => exact execXcpShortUpload_mask rfl rfl _ _ _ hr
  | xcpDownload => exact execXcpDownload_mask rfl rfl rfl rfl rfl rfl rfl rfl _ _ hr
  | xcpSetCalPage => exact execXcpSetCalPage_mask rfl rfl rfl rfl rfl rfl _ _ _ hr
  | xcpGetCalPage => exact execXcpGetCalPage_mask rfl rfl _ _ hr
  | xcpCopyCalPage => exact execXcpCopyCalPage_mask rfl rfl rfl rfl rfl rfl _ _ _ hr
  | xcpFreeDaq => exact execXcpFreeDaq_mask rfl rfl _ hr
  | xcpAllocDaq => exact execXcpAllocDaq_mask rfl rfl _ _ hr
  | xcpAllocOdt => exact execXcpAllocOdt_mask rfl rfl rfl _ _ _ hr
  | xcpAllocOdtEntry => exact execXcpAllocOdtEntry_mask rfl rfl rfl _ _ _ _ hr
  | xcpSetDaqPtr => exact execXcpSetDaqPtr_mask rfl rfl _ _ _ _ hr
  | xcpWriteDaq => exact execXcpWriteDaq_mask rfl rfl rfl _ _ _ hr
  | xcpSetDaqListMode => exact execXcpSetDaqListMode_mask rfl rfl rfl _ _ _ _ _ _ hr
  | xcpStartStopDaqList => exact execXcpStartStopDaqList_mask rfl rfl rfl _ _ _ hr
  | xcpStartStopSynch => exact execXcpStartStopSynch_mask rfl rfl _ _ hr
  | xcpGetDaqProcessorInfo => exact execXcpGetDaqProcessorInfo_mask rfl rfl _ hr
  | xcpUnknownCommand => exact execXcpUnknownCommand_mask rfl rfl _ _ hr
  | getInfo => exact execGetInfo_mask rfl rfl rfl rfl rfl rfl rfl rfl rfl rfl rfl rfl rfl rfl rfl rfl rfl rfl rfl rfl rfl rfl rfl _ _ _ hr
  | challenge => exact execChallenge_mask rfl rfl rfl rfl rfl rfl rfl rfl rfl rfl rfl rfl rfl rfl rfl rfl rfl rfl rfl rfl rfl rfl rfl _ _ _ _ _ _ _ hr
  | response => exact execResponse_mask rfl rfl rfl rfl rfl rfl rfl rfl rfl rfl rfl rfl rfl rfl rfl rfl rfl rfl rfl rfl rfl rfl rfl _ _ _ _ _ hr
  | password => exact execPassword_mask rfl rfl rfl rfl rfl rfl rfl rfl rfl rfl rfl rfl rfl rfl rfl rfl rfl rfl rfl rfl rfl rfl rfl _ _ _ _ hr
  | close => exact execClose_mask rfl rfl rfl rfl rfl rfl rfl rfl rfl rfl rfl rfl rfl rfl rfl rfl rfl rfl rfl rfl rfl rfl rfl _ _ _ hr
  | pwSet => exact execPwSet_mask rfl rfl rfl rfl rfl rfl rfl rfl rfl rfl rfl rfl rfl rfl rfl rfl rfl rfl rfl rfl rfl rfl rfl _ _ _ _ _ hr
  | keyImport => exact execKeyImport_mask rfl rfl rfl rfl rfl rfl rfl rfl rfl rfl rfl rfl rfl rfl rfl rfl rfl rfl rfl rfl rfl rfl rfl _ _ _ _ _ _ hr
  | freshSet => exact execFreshSet_mask rfl rfl rfl rfl rfl rfl rfl rfl rfl rfl rfl rfl rfl rfl rfl rfl rfl rfl rfl rfl rfl rfl rfl _ _ _ _ _ _ _ hr
  | aesGcm => exact execAesGcm_mask rfl rfl rfl rfl rfl rfl rfl rfl rfl rfl rfl rfl rfl rfl rfl rfl rfl rfl rfl rfl rfl rfl rfl _ _ _ _ hr
  | cmac => exact execCmac_mask rfl rfl rfl rfl rfl rfl rfl rfl rfl rfl rfl rfl rfl rfl rfl rfl rfl rfl rfl rfl rfl rfl rfl _ _ _ _ hr
  | hash => exact execHash_mask rfl rfl rfl rfl rfl rfl rfl rfl rfl rfl rfl rfl rfl rfl rfl rfl rfl rfl rfl rfl rfl rfl rfl _ _ _ _ hr
  | ecdsaVerify => exact execEcdsaVerify_mask rfl rfl rfl rfl rfl rfl rfl rfl rfl rfl rfl rfl rfl rfl rfl rfl rfl rfl rfl rfl rfl rfl rfl _ _ _ _ hr
  | lmsVerify => exact execLmsVerify_mask rfl rfl rfl rfl rfl rfl rfl rfl rfl rfl rfl rfl rfl rfl rfl rfl rfl rfl rfl rfl rfl rfl rfl _ _ _ _ hr
  | random => exact execRandom_mask rfl rfl rfl rfl rfl rfl rfl rfl rfl rfl rfl rfl rfl rfl rfl rfl rfl rfl rfl rfl rfl rfl rfl _ _ _ _ hr
  | lcAdvance => exact execLcAdvance_mask rfl rfl rfl rfl rfl rfl rfl rfl rfl rfl rfl rfl rfl rfl rfl rfl rfl rfl rfl rfl rfl rfl rfl _ _ _ _ _ _ hr
  | secAdvance => exact execSecAdvance_mask rfl rfl rfl rfl rfl rfl rfl rfl rfl rfl rfl rfl rfl rfl rfl rfl rfl rfl rfl rfl rfl rfl rfl _ _ _ _ _ _ hr
  | keyProvision => exact execKeyProvision_mask rfl rfl rfl rfl rfl rfl rfl rfl rfl rfl rfl rfl rfl rfl rfl rfl rfl rfl rfl rfl rfl rfl rfl _ _ _ _ _ hr
  | keyRevoke => exact execKeyRevoke_mask rfl rfl rfl rfl rfl rfl rfl rfl rfl rfl rfl rfl rfl rfl rfl rfl rfl rfl rfl rfl rfl rfl rfl _ _ _ _ _ hr
  | selfTest => exact execSelfTest_mask rfl rfl rfl rfl rfl rfl rfl rfl rfl rfl rfl rfl rfl rfl rfl rfl rfl rfl rfl rfl rfl rfl rfl _ _ _ _ hr
  | tndBadCommand => exact execTndBadCommand_mask rfl rfl rfl rfl rfl rfl rfl rfl rfl rfl rfl rfl rfl rfl rfl rfl rfl rfl rfl rfl rfl rfl rfl _ _ _ _ hr
  | tndCommandDone => exact execTndCommandDone_mask rfl rfl rfl rfl rfl rfl rfl rfl rfl rfl rfl rfl rfl rfl rfl rfl rfl rfl rfl rfl rfl rfl rfl _ hr
  | challengeExpiry => exact execChallengeExpiry_mask rfl _ _ hr
  | challengeLockoutEnd => exact execChallengeLockoutEnd_mask rfl _ _ hr
  | debugLifetimeExpiry => exact execDebugLifetimeExpiry_mask rfl rfl rfl rfl rfl _ hr
  | l2ConditionLoss => exact execL2ConditionLoss_mask rfl rfl rfl rfl rfl _ hr
  | coreHalt => exact execCoreHalt_mask rfl rfl rfl rfl _ _ _ hr
  | coreResume => exact execCoreResume_mask rfl rfl rfl rfl _ _ _ hr
  | reelHalt => exact execReelHalt_mask rfl rfl rfl _ _ hr
  | reelResume => exact execReelResume_mask rfl rfl rfl _ _ hr
  | resyncTimeout => exact execResyncTimeout_mask rfl rfl rfl rfl rfl rfl rfl rfl rfl rfl _ _ hr
  | idcode => exact execIdcode_mask rfl _ hr
  | bypass => exact execBypass_mask rfl _ hr
  | samplePreload => exact execSamplePreload_mask rfl _ hr
  | extest => exact execExtest_mask rfl _ _ hr
  | updBegin => exact execUpdBegin_mask rfl rfl rfl rfl rfl rfl rfl rfl rfl rfl rfl rfl rfl rfl rfl rfl rfl rfl rfl rfl rfl rfl rfl _ _ _ _ hr
  | updWrite => exact execUpdWrite_mask rfl rfl rfl rfl rfl rfl rfl rfl rfl rfl rfl rfl rfl rfl rfl rfl rfl rfl rfl rfl rfl rfl rfl _ _ _ hr
  | updActivate => exact execUpdActivate_mask rfl rfl rfl rfl rfl rfl rfl rfl rfl rfl rfl rfl rfl rfl rfl rfl rfl rfl rfl rfl rfl rfl rfl _ _ _ hr
  | updConfirm => exact execUpdConfirm_mask rfl rfl rfl rfl rfl rfl rfl rfl rfl rfl rfl rfl rfl rfl rfl rfl rfl rfl rfl rfl rfl rfl rfl _ _ _ _ hr
  | updRevert => exact execUpdRevert_mask rfl rfl rfl rfl rfl rfl rfl rfl rfl rfl rfl rfl rfl rfl rfl rfl rfl rfl rfl rfl rfl rfl rfl _ _ _ hr
  | updStatus => exact execUpdStatus_mask rfl rfl rfl rfl rfl rfl rfl rfl rfl rfl rfl rfl rfl rfl rfl rfl rfl rfl rfl rfl rfl rfl rfl _ _ _ hr
  | probationDeadline => exact execProbationDeadline_mask rfl rfl rfl rfl rfl rfl rfl rfl rfl rfl rfl rfl rfl rfl rfl rfl rfl rfl rfl rfl rfl rfl rfl _ hr
  | spxHandoverDisarm => exact execSpxHandoverDisarm_mask rfl _ _ hr
  | spxTcmLoadDone => exact execSpxTcmLoadDone_mask rfl rfl rfl _ _ hr
  | migrationTimeout => exact execMigrationTimeout_mask rfl rfl rfl rfl rfl rfl rfl rfl rfl _ _ hr
  | xinLoss => exact execXinLoss_mask rfl rfl rfl rfl _ hr
  | pllUnlock => exact execPllUnlock_mask rfl rfl rfl rfl _ _ hr
  | pllFrequencyWindow => exact execPllFrequencyWindow_mask rfl rfl rfl rfl _ _ _ hr
  | tokenPeriodCheck => exact execTokenPeriodCheck_mask rfl rfl rfl rfl _ _ hr
  | pllRelock => exact execPllRelock_mask rfl rfl rfl rfl _ _ _ hr
  | pllRelockDone => exact execPllRelockDone_mask rfl rfl rfl rfl rfl _ _ _ hr
  | crossingStale => exact execCrossingStale_mask rfl rfl rfl rfl rfl rfl rfl rfl _ _ hr
  | crossingRecovered => exact execCrossingRecovered_mask rfl _ _ hr
  | tsLoRead => exact execTsLoRead_mask rfl rfl _ _ hr
  | memoryRead => exact execMemoryRead_mask rfl rfl rfl rfl rfl rfl _ _ _ _ _ hr
  | memoryWrite => exact execMemoryWrite_mask rfl rfl rfl rfl rfl rfl rfl rfl rfl rfl rfl rfl rfl rfl rfl rfl rfl rfl rfl rfl rfl rfl rfl _ _ _ _ _ _ hr
  | scrubWord => exact execScrubWord_mask rfl rfl rfl rfl rfl rfl rfl rfl rfl rfl _ _ _ hr
  | scrubDisable => exact execScrubDisable_mask rfl rfl _ _ hr
  | bucketLeak => exact execBucketLeak_mask rfl _ hr
  | ashRecordWritten => exact execAshRecordWritten_mask rfl rfl rfl _ hr
  | eventDelivery => exact execEventDelivery_mask rfl rfl rfl rfl _ _ hr
  | eventClaim => exact execEventClaim_mask rfl rfl rfl _ _ _ hr
  | xferStart => exact execXferStart_mask rfl rfl rfl _ _ _ hr
  | xferDrain => exact execXferDrain_mask rfl rfl rfl _ _ _ hr
  | xferDone => exact execXferDone_mask rfl rfl rfl _ _ hr
  | signalWrite => exact execSignalWrite_mask rfl rfl rfl rfl rfl rfl rfl _ _ _ _ _ hr
  | daqTimerExpiry => exact execDaqTimerExpiry_mask rfl rfl rfl _ _ hr
  | logicSelfTest => exact execLogicSelfTest_mask rfl rfl rfl rfl rfl rfl rfl _ _ _ hr
  | sramMarch => exact execSramMarch_mask rfl rfl rfl _ _ _ hr
  | whorlMarch => exact execWhorlMarch_mask rfl rfl rfl _ _ _ hr
  | oltPllRelock => exact execOltPllRelock_mask rfl rfl rfl rfl _ _ _ hr
  | oltTinderSelfTest => exact execOltTinderSelfTest_mask rfl rfl rfl _ _ _ hr
  | oltTestDone => exact execOltTestDone_mask rfl rfl rfl rfl rfl rfl rfl rfl rfl rfl rfl rfl rfl rfl rfl _ _ hr
  | canLoopbackTest => exact execCanLoopbackTest_mask rfl _ _ hr
  | canTestRequest => exact execCanTestRequest_mask rfl rfl _ _ _ hr
  | swSliceResult => exact execSwSliceResult_mask rfl rfl rfl rfl _ _ _ hr
  | registerRead => exact execRegisterRead_mask rfl rfl rfl rfl rfl rfl _ _ _ _ hr
  | receiveError => exact execReceiveError_mask rfl rfl rfl rfl rfl _ _ _ hr
  | protocolException => exact execProtocolException_mask rfl rfl rfl _ _ hr
  | busIntegrationDone => exact execBusIntegrationDone_mask rfl rfl rfl rfl rfl _ _ hr
  | loopbackTestEnd => exact execLoopbackTestEnd_mask rfl rfl rfl rfl rfl _ _ _ hr
  | healthTestFail => exact execHealthTestFail_mask rfl rfl rfl rfl rfl _ hr
  | parkLockStall => exact execParkLockStall_mask rfl rfl _ _ hr
  | parkLockHoldEnd => exact execParkLockHoldEnd_mask rfl rfl _ _ hr
  | ss1StopComplete => exact execSs1StopComplete_mask rfl rfl rfl rfl rfl _ hr

/-! ### Memory -/

theorem exec_wf {c : Instr} {s t : State} (hw : Memory.wf s.mem) (hr : exec c s = .next t) : Memory.wf t.mem := by
  cases c with
  | windowEnd => exact (execWindowEnd_mem _ _ _ _ _ hr).symm ▸ hw
  | afeResultDelivery => exact execAfeResultDelivery_wf _ _ _ hw hr
  | timedLoopStart => exact (execTimedLoopStart_mem _ _ _ hr).symm ▸ hw
  | budgetEnd => exact (execBudgetEnd_mem _ _ _ hr).symm ▸ hw
  | outputPhaseCopy => exact (execOutputPhaseCopy_mem _ _ _ _ hr).symm ▸ hw
  | carrierEvent => exact (execCarrierEvent_mem _ _ hr).symm ▸ hw
  | linkTokenTimeout => exact execLinkTokenTimeout_wf _ _ hw hr
  | linkFrameReceive => exact execLinkFrameReceive_wf _ _ hw hr
  | registerWrite => exact execRegisterWrite_wf _ _ _ _ _ _ hw hr
  | requestReady => exact execRequestReady_wf _ _ _ _ hw hr
  | requestDrive => exact execRequestDrive_wf _ _ _ hw hr
  | requestCharge => exact execRequestCharge_wf _ _ _ hw hr
  | requestV2l => exact execRequestV2l_wf _ _ _ hw hr
  | requestLimp => exact execRequestLimp_wf _ _ _ hw hr
  | requestService => exact execRequestService_wf _ _ _ hw hr
  | requestSafe => exact execRequestSafe_wf _ _ _ hw hr
  | requestDormant => exact execRequestDormant_wf _ _ _ hw hr
  | requestRestart => exact execRequestRestart_wf _ _ _ hw hr
  | modeTransitionComplete => exact execModeTransitionComplete_wf _ hw hr
  | imposedTransition => exact execImposedTransition_wf _ hw hr
  | vbatRise => exact (execVbatRise_mem _ hr).symm ▸ hw
  | supplyGood => exact (execSupplyGood_mem _ hr).symm ▸ hw
  | pllLock => exact execPllLock_wf _ _ hw hr
  | domainPowerOn => exact (execDomainPowerOn_mem _ hr).symm ▸ hw
  | memoryFillDone => exact execMemoryFillDone_wf _ _ _ hw hr
  | whorlReloadDone => exact execWhorlReloadDone_wf _ _ hw hr
  | coreRelease => exact execCoreRelease_wf _ hw hr
  | startTimeout => exact (execStartTimeout_mem _ hr).symm ▸ hw
  | supplyTimeout => exact execSupplyTimeout_wf _ hw hr
  | referenceClockFail => exact execReferenceClockFail_wf _ hw hr
  | pllLockTimeout => exact execPllLockTimeout_wf _ hw hr
  | linkUpTimeout => exact execLinkUpTimeout_wf _ hw hr
  | kilnTableTransfer => exact execKilnTableTransfer_wf _ _ hw hr
  | supEnHoldEnd => exact (execSupEnHoldEnd_mem _ hr).symm ▸ hw
  | supplyWarning => exact (execSupplyWarning_mem _ _ _ hr).symm ▸ hw
  | supplyFault => exact execSupplyFault_wf _ _ _ hw hr
  | supplyRecovery => exact (execSupplyRecovery_mem _ _ _ hr).symm ▸ hw
  | controlDieRelease => exact (execControlDieRelease_mem _ hr).symm ▸ hw
  | vbatCollapse => exact execVbatCollapse_wf _ hw hr
  | dormantDomainOff => exact execDormantDomainOff_wf _ hw hr
  | dormantEntryComplete => exact (execDormantEntryComplete_mem _ hr).symm ▸ hw
  | latchedWakeStart => exact (execLatchedWakeStart_mem _ hr).symm ▸ hw
  | kilnHoldExit => exact (execKilnHoldExit_mem _ hr).symm ▸ hw
  | flashInit => exact execFlashInit_wf _ _ hw hr
  | headerVerified => exact execHeaderVerified_wf _ _ _ hw hr
  | descriptorsVerified => exact execDescriptorsVerified_wf _ _ _ hw hr
  | componentVerified => exact execComponentVerified_wf _ _ hw hr
  | configRecordsApply => exact execConfigRecordsApply_wf _ _ _ hw hr
  | writeOnceWrite => exact execWriteOnceWrite_wf _ _ hw hr
  | mmapFlashRead => exact (execMmapFlashRead_mem _ _ _ _ _ hr).symm ▸ hw
  | flashOperationDone => exact execFlashOperationDone_wf _ _ hw hr
  | flashReadError => exact execFlashReadError_wf _ hw hr
  | passTimerExpiry => exact execPassTimerExpiry_wf _ hw hr
  | wakePinEdge => exact execWakePinEdge_wf _ _ _ hw hr
  | rtcSecondTick => exact execRtcSecondTick_wf _ hw hr
  | rtcSecWrite => exact (execRtcSecWrite_mem _ _ _ hr).symm ▸ hw
  | rtcAlarmWrite => exact (execRtcAlarmWrite_mem _ _ _ hr).symm ▸ hw
  | passLimit => exact execPassLimit_wf _ hw hr
  | embIllegalOpcode => exact execEmbIllegalOpcode_wf _ _ hw hr
  | embSleep => exact execEmbSleep_wf _ hw hr
  | embLdi => exact (execEmbLdi_mem _ _ _ hr).symm ▸ hw
  | embLui => exact (execEmbLui_mem _ _ _ hr).symm ▸ hw
  | embAdd => exact (execEmbAdd_mem _ _ _ _ hr).symm ▸ hw
  | embSub => exact (execEmbSub_mem _ _ _ _ hr).symm ▸ hw
  | embAddi => exact (execEmbAddi_mem _ _ _ _ hr).symm ▸ hw
  | embAnd => exact (execEmbAnd_mem _ _ _ _ hr).symm ▸ hw
  | embOr => exact (execEmbOr_mem _ _ _ _ hr).symm ▸ hw
  | embXor => exact (execEmbXor_mem _ _ _ _ hr).symm ▸ hw
  | embShl => exact (execEmbShl_mem _ _ _ _ hr).symm ▸ hw
  | embShr => exact (execEmbShr_mem _ _ _ _ hr).symm ▸ hw
  | embAsr => exact (execEmbAsr_mem _ _ _ _ hr).symm ▸ hw
  | embFilt => exact (execEmbFilt_mem _ _ _ _ hr).symm ▸ hw
  | embLd => exact (execEmbLd_mem _ _ _ _ hr).symm ▸ hw
  | embSt => exact execEmbSt_wf _ _ _ _ hw hr
  | embBeq => exact (execEmbBeq_mem _ _ _ _ hr).symm ▸ hw
  | embBne => exact (execEmbBne_mem _ _ _ _ hr).symm ▸ hw
  | embBlt => exact (execEmbBlt_mem _ _ _ _ hr).symm ▸ hw
  | embBge => exact (execEmbBge_mem _ _ _ _ hr).symm ▸ hw
  | embJmp => exact (execEmbJmp_mem _ _ hr).symm ▸ hw
  | embSamp => exact (execEmbSamp_mem _ _ _ _ hr).symm ▸ hw
  | embCnt => exact (execEmbCnt_mem _ _ _ _ hr).symm ▸ hw
  | embInp => exact (execEmbInp_mem _ _ hr).symm ▸ hw
  | embRtc => exact (execEmbRtc_mem _ _ hr).symm ▸ hw
  | embWake => exact execEmbWake_wf _ _ _ hw hr
  | embOut => exact (execEmbOut_mem _ _ hr).symm ▸ hw
  | embWait imm => exact (execEmbWait_mem imm _ hr).symm ▸ hw
  | converterPowerDown => exact (execConverterPowerDown_mem _ hr).symm ▸ hw
  | rotationCrossing => exact (execRotationCrossing_mem _ _ hr).symm ▸ hw
  | xtalStop => exact (execXtalStop_mem _ hr).symm ▸ hw
  | xtalReturn => exact (execXtalReturn_mem _ hr).symm ▸ hw
  | emberProgramLoad => exact execEmberProgramLoad_wf _ _ _ hw hr
  | sliceTimeout => exact (execSliceTimeout_mem _ _ _ hr).symm ▸ hw
  | rotationStep => exact (execRotationStep_mem _ _ _ _ hr).symm ▸ hw
  | spareCalibration => exact (execSpareCalibration_mem _ _ _ _ hr).symm ▸ hw
  | refEnable => exact (execRefEnable_mem _ _ hr).symm ▸ hw
  | refReady => exact (execRefReady_mem _ _ hr).symm ▸ hw
  | refDisable => exact (execRefDisable_mem _ _ hr).symm ▸ hw
  | refBufferFault => exact (execRefBufferFault_mem _ _ hr).symm ▸ hw
  | sliceCoefWrite => exact (execSliceCoefWrite_mem _ _ _ _ _ hr).symm ▸ hw
  | windowStart => exact (execWindowStart_mem _ _ _ hr).symm ▸ hw
  | windowAbort => exact (execWindowAbort_mem _ _ _ _ _ hr).symm ▸ hw
  | windowDisable => exact (execWindowDisable_mem _ _ _ hr).symm ▸ hw
  | afeChannelDisable => exact (execAfeChannelDisable_mem _ _ hr).symm ▸ hw
  | pointSample => exact (execPointSample_mem _ _ _ _ _ _ hr).symm ▸ hw
  | segmentAnchor => exact (execSegmentAnchor_mem _ _ _ _ _ _ hr).symm ▸ hw
  | hkConversionSlot => exact (execHkConversionSlot_mem _ _ hr).symm ▸ hw
  | twinArbitrationEnd => exact (execTwinArbitrationEnd_mem _ _ _ _ _ hr).symm ▸ hw
  | twinStrobeTimeout => exact (execTwinStrobeTimeout_mem _ _ hr).symm ▸ hw
  | backgroundTrigger => exact (execBackgroundTrigger_mem _ _ _ hr).symm ▸ hw
  | backgroundStart => exact (execBackgroundStart_mem _ _ _ hr).symm ▸ hw
  | backgroundComplete => exact (execBackgroundComplete_mem _ _ _ hr).symm ▸ hw
  | loopEnable => exact (execLoopEnable_mem _ _ _ _ _ hr).symm ▸ hw
  | loopDisable => exact (execLoopDisable_mem _ _ _ _ hr).symm ▸ hw
  | coefQueueWrite => exact execCoefQueueWrite_wf _ _ _ _ hw hr
  | queueBatchApply => exact execQueueBatchApply_wf _ _ hw hr
  | cqHoldSet => exact (execCqHoldSet_mem _ _ _ hr).symm ▸ hw
  | cqHoldClear => exact (execCqHoldClear_mem _ _ _ hr).symm ▸ hw
  | cqFlush => exact (execCqFlush_mem _ _ _ hr).symm ▸ hw
  | tableRegionWrite => exact execTableRegionWrite_wf _ _ _ _ _ hw hr
  | whorlMemoryWrite => exact execWhorlMemoryWrite_wf _ _ _ _ _ _ hw hr
  | shadowSessionStart => exact (execShadowSessionStart_mem _ _ hr).symm ▸ hw
  | standbyPrepareDone => exact execStandbyPrepareDone_wf _ _ hw hr
  | stateCopyDone => exact execStateCopyDone_wf _ _ _ hw hr
  | whlHandoverRequest => exact (execWhlHandoverRequest_mem _ _ _ hr).symm ▸ hw
  | codeRepair => exact (execCodeRepair_mem _ _ _ _ hr).symm ▸ hw
  | unitResultRetire => exact (execUnitResultRetire_mem _ _ hr).symm ▸ hw
  | whlIllegalOperation => exact (execWhlIllegalOperation_mem _ _ _ _ hr).symm ▸ hw
  | whlNop => exact (execWhlNop_mem _ _ _ _ _ hr).symm ▸ hw
  | whlAdd => exact (execWhlAdd_mem _ _ _ _ _ _ _ hr).symm ▸ hw
  | whlSub => exact (execWhlSub_mem _ _ _ _ _ _ _ hr).symm ▸ hw
  | whlAddw => exact (execWhlAddw_mem _ _ _ _ _ _ _ hr).symm ▸ hw
  | whlSubw => exact (execWhlSubw_mem _ _ _ _ _ _ _ hr).symm ▸ hw
  | whlNeg => exact (execWhlNeg_mem _ _ _ _ _ _ hr).symm ▸ hw
  | whlAbs => exact (execWhlAbs_mem _ _ _ _ _ _ hr).symm ▸ hw
  | whlMin => exact (execWhlMin_mem _ _ _ _ _ _ _ hr).symm ▸ hw
  | whlMax => exact (execWhlMax_mem _ _ _ _ _ _ _ hr).symm ▸ hw
  | whlClmp => exact (execWhlClmp_mem _ _ _ _ _ _ _ hr).symm ▸ hw
  | whlAnd => exact (execWhlAnd_mem _ _ _ _ _ _ _ hr).symm ▸ hw
  | whlOr => exact (execWhlOr_mem _ _ _ _ _ _ _ hr).symm ▸ hw
  | whlXor => exact (execWhlXor_mem _ _ _ _ _ _ _ hr).symm ▸ hw
  | whlShl => exact (execWhlShl_mem _ _ _ _ _ _ _ hr).symm ▸ hw
  | whlSar => exact (execWhlSar_mem _ _ _ _ _ _ _ hr).symm ▸ hw
  | whlShr => exact (execWhlShr_mem _ _ _ _ _ _ _ hr).symm ▸ hw
  | whlLih => exact (execWhlLih_mem _ _ _ _ _ _ hr).symm ▸ hw
  | whlLil => exact (execWhlLil_mem _ _ _ _ _ _ hr).symm ▸ hw
  | whlAddi => exact (execWhlAddi_mem _ _ _ _ _ _ _ hr).symm ▸ hw
  | whlSlt => exact (execWhlSlt_mem _ _ _ _ _ _ _ hr).symm ▸ hw
  | whlCmov => exact (execWhlCmov_mem _ _ _ _ _ _ _ hr).symm ▸ hw
  | whlFlg => exact (execWhlFlg_mem _ _ _ _ _ hr).symm ▸ hw
  | whlMul => exact (execWhlMul_mem _ _ _ _ _ _ _ hr).symm ▸ hw
  | whlMac => exact (execWhlMac_mem _ _ _ _ _ _ _ hr).symm ▸ hw
  | whlMsu => exact (execWhlMsu_mem _ _ _ _ _ _ _ hr).symm ▸ hw
  | whlAld => exact (execWhlAld_mem _ _ _ _ _ _ hr).symm ▸ hw
  | whlArd => exact (execWhlArd_mem _ _ _ _ _ _ hr).symm ▸ hw
  | whlAclp => exact (execWhlAclp_mem _ _ _ _ _ _ hr).symm ▸ hw
  | whlRot => exact (execWhlRot_mem _ _ _ _ _ _ _ hr).symm ▸ hw
  | whlVec => exact (execWhlVec_mem _ _ _ _ _ _ hr).symm ▸ hw
  | whlScs => exact (execWhlScs_mem _ _ _ _ _ _ hr).symm ▸ hw
  | whlRcp => exact (execWhlRcp_mem _ _ _ _ _ _ hr).symm ▸ hw
  | whlSqrt => exact (execWhlSqrt_mem _ _ _ _ _ _ hr).symm ▸ hw
  | whlTbl => exact (execWhlTbl_mem _ _ _ _ _ _ _ _ hr).symm ▸ hw
  | whlIn => exact (execWhlIn_mem _ _ _ _ _ _ hr).symm ▸ hw
  | whlOut => exact (execWhlOut_mem _ _ _ _ _ _ hr).symm ▸ hw
  | whlFrsh => exact (execWhlFrsh_mem _ _ _ _ _ _ hr).symm ▸ hw
  | whlLd => exact (execWhlLd_mem _ _ _ _ _ _ _ _ hr).symm ▸ hw
  | whlSt => exact execWhlSt_wf _ _ _ _ _ _ _ hw hr
  | whlBz => exact (execWhlBz_mem _ _ _ _ _ _ hr).symm ▸ hw
  | whlBnz => exact (execWhlBnz_mem _ _ _ _ _ _ hr).symm ▸ hw
  | whlBltz => exact (execWhlBltz_mem _ _ _ _ _ _ hr).symm ▸ hw
  | whlBgez => exact (execWhlBgez_mem _ _ _ _ _ _ hr).symm ▸ hw
  | whlJmp => exact (execWhlJmp_mem _ _ _ _ _ hr).symm ▸ hw
  | whlLoop => exact (execWhlLoop_mem _ _ _ _ _ _ hr).symm ▸ hw
  | whlSafe => exact (execWhlSafe_mem _ _ _ _ hr).symm ▸ hw
  | whlEnd => exact (execWhlEnd_mem _ _ _ _ hr).symm ▸ hw
  | generatorDisable => exact (execGeneratorDisable_mem _ _ _ hr).symm ▸ hw
  | switchEdgeCommand => exact (execSwitchEdgeCommand_mem _ _ _ _ hr).symm ▸ hw
  | deadTimeExpiry => exact (execDeadTimeExpiry_mem _ _ hr).symm ▸ hw
  | gfbChange => exact (execGfbChange_mem _ _ _ _ hr).symm ▸ hw
  | turnOffFbWinExpiry => exact (execTurnOffFbWinExpiry_mem _ _ hr).symm ▸ hw
  | turnOnFbWinExpiry => exact (execTurnOnFbWinExpiry_mem _ _ hr).symm ▸ hw
  | bootUndervoltage => exact (execBootUndervoltage_mem _ _ hr).symm ▸ hw
  | armSet => exact (execArmSet_mem _ _ _ hr).symm ▸ hw
  | genFall => exact (execGenFall_mem _ _ hr).symm ▸ hw
  | genLowFeedbackFault => exact (execGenLowFeedbackFault_mem _ _ hr).symm ▸ hw
  | comparatorTrip => exact execComparatorTrip_wf _ _ _ hw hr
  | comparatorRelease => exact (execComparatorRelease_mem _ _ hr).symm ▸ hw
  | blankingEnd => exact execBlankingEnd_wf _ _ hw hr
  | hardTrip => exact (execHardTrip_mem _ _ _ hr).symm ▸ hw
  | gfltAssert => exact (execGfltAssert_mem _ _ _ hr).symm ▸ hw
  | faultMapDecision => exact (execFaultMapDecision_mem _ _ hr).symm ▸ hw
  | ascEntryTimeout => exact (execAscEntryTimeout_mem _ _ hr).symm ▸ hw
  | ucgSpeedWrite => exact (execUcgSpeedWrite_mem _ _ _ _ hr).symm ▸ hw
  | ucgStaleTimeout => exact (execUcgStaleTimeout_mem _ _ hr).symm ▸ hw
  | psetClear => exact (execPsetClear_mem _ _ _ hr).symm ▸ hw
  | psetAscTop => exact (execPsetAscTop_mem _ _ _ hr).symm ▸ hw
  | psetAscBot => exact (execPsetAscBot_mem _ _ _ hr).symm ▸ hw
  | encoderEdge => exact (execEncoderEdge_mem _ _ _ hr).symm ▸ hw
  | encoderIndex => exact (execEncoderIndex_mem _ _ _ hr).symm ▸ hw
  | encPosRead => exact (execEncPosRead_mem _ _ _ hr).symm ▸ hw
  | hallTransition => exact (execHallTransition_mem _ _ _ hr).symm ▸ hw
  | resolverHalfPeriod => exact (execResolverHalfPeriod_mem _ _ _ _ hr).symm ▸ hw
  | excitationFault => exact (execExcitationFault_mem _ _ _ hr).symm ▸ hw
  | serialPoll => exact (execSerialPoll_mem _ _ hr).symm ▸ hw
  | serialFrameEnd => exact (execSerialFrameEnd_mem _ _ _ hr).symm ▸ hw
  | serialTimeout => exact (execSerialTimeout_mem _ _ hr).symm ▸ hw
  | sentFrame => exact (execSentFrame_mem _ _ _ _ _ _ hr).symm ▸ hw
  | measurementTimeout => exact (execMeasurementTimeout_mem _ _ hr).symm ▸ hw
  | trackerStep => exact (execTrackerStep_mem _ _ _ hr).symm ▸ hw
  | machAcq => exact (execMachAcq_mem _ _ _ hr).symm ▸ hw
  | machAcqUseSet => exact (execMachAcqUseSet_mem _ _ _ hr).symm ▸ hw
  | compareValWrite => exact (execCompareValWrite_mem _ _ _ _ _ hr).symm ▸ hw
  | emulationEdge => exact (execEmulationEdge_mem _ _ hr).symm ▸ hw
  | flyerUnitDisable => exact (execFlyerUnitDisable_mem _ _ _ hr).symm ▸ hw
  | reacqTimeout => exact (execReacqTimeout_mem _ _ hr).symm ▸ hw
  | supervisionTask => exact execSupervisionTask_wf _ _ hw hr
  | ucgCompute => exact (execUcgCompute_mem _ hr).symm ▸ hw
  | shockHoldEnd => exact (execShockHoldEnd_mem _ _ hr).symm ▸ hw
  | catchPhaseEnd => exact (execCatchPhaseEnd_mem _ _ hr).symm ▸ hw
  | emergencyRunEnd => exact (execEmergencyRunEnd_mem _ hr).symm ▸ hw
  | bridgeHiz => exact (execBridgeHiz_mem _ _ _ hr).symm ▸ hw
  | bridgePwm => exact (execBridgePwm_mem _ _ _ hr).symm ▸ hw
  | bridgeLowOn => exact (execBridgeLowOn_mem _ _ _ hr).symm ▸ hw
  | predriverGateReport => exact (execPredriverGateReport_mem _ _ _ hr).symm ▸ hw
  | drainSourceFault => exact (execDrainSourceFault_mem _ _ _ hr).symm ▸ hw
  | vgdUndervoltage => exact (execVgdUndervoltage_mem _ _ hr).symm ▸ hw
  | driveSupplyFault => exact (execDriveSupplyFault_mem _ _ hr).symm ▸ hw
  | predriverOvertemp sensor => exact (execPredriverOvertemp_mem sensor _ hr).symm ▸ hw
  | predriverWarning => exact (execPredriverWarning_mem _ _ _ hr).symm ▸ hw
  | actEnFall => exact (execActEnFall_mem _ hr).symm ▸ hw
  | actEnRise => exact (execActEnRise_mem _ _ _ hr).symm ▸ hw
  | cnvChannelStart => exact (execCnvChannelStart_mem _ _ _ hr).symm ▸ hw
  | cnvChannelStop => exact (execCnvChannelStop_mem _ _ _ hr).symm ▸ hw
  | cnvChannelClear => exact (execCnvChannelClear_mem _ _ _ hr).symm ▸ hw
  | cnvChannelStopNow => exact (execCnvChannelStopNow_mem _ _ _ hr).symm ▸ hw
  | rampTimeout => exact (execRampTimeout_mem _ _ hr).symm ▸ hw
  | softStartCheckpoint => exact (execSoftStartCheckpoint_mem _ _ _ hr).symm ▸ hw
  | softStopTimeout => exact (execSoftStopTimeout_mem _ _ hr).symm ▸ hw
  | hiccupOffEnd => exact (execHiccupOffEnd_mem _ _ hr).symm ▸ hw
  | retryClear => exact (execRetryClear_mem _ _ hr).symm ▸ hw
  | nlMaxTimeout => exact (execNlMaxTimeout_mem _ _ hr).symm ▸ hw
  | shedStart => exact (execShedStart_mem _ _ hr).symm ▸ hw
  | shedHoldoffEnd => exact (execShedHoldoffEnd_mem _ _ hr).symm ▸ hw
  | telemetryWindowClose => exact (execTelemetryWindowClose_mem _ _ _ hr).symm ▸ hw
  | telemetryClear => exact (execTelemetryClear_mem _ _ _ hr).symm ▸ hw
  | pilotPeriod => exact (execPilotPeriod_mem _ _ hr).symm ▸ hw
  | proximitySample => exact (execProximitySample_mem _ _ hr).symm ▸ hw
  | chargeTask => exact execChargeTask_wf _ _ hw hr
  | limitsTimeout => exact (execLimitsTimeout_mem _ hr).symm ▸ hw
  | pauseTimeout => exact (execPauseTimeout_mem _ hr).symm ▸ hw
  | hvLostHoldEnd => exact (execHvLostHoldEnd_mem _ hr).symm ▸ hw
  | acceptanceProbe => exact execAcceptanceProbe_wf _ _ _ hw hr
  | safetyTimerExpiry => exact (execSafetyTimerExpiry_mem _ hr).symm ▸ hw
  | prechargeTimeout => exact (execPrechargeTimeout_mem _ hr).symm ▸ hw
  | preHoldTimeout => exact (execPreHoldTimeout_mem _ hr).symm ▸ hw
  | sensorSample => exact (execSensorSample_mem _ _ _ _ hr).symm ▸ hw
  | dieHardLimit => exact (execDieHardLimit_mem _ _ hr).symm ▸ hw
  | ruleEvaluation => exact execRuleEvaluation_wf _ hw hr
  | factorRiseStep => exact (execFactorRiseStep_mem _ _ hr).symm ▸ hw
  | pairOutputStore => exact execPairOutputStore_wf _ _ _ _ _ hw hr
  | pairCompare => exact execPairCompare_wf _ _ _ _ _ hw hr
  | pairInputLoad => exact (execPairInputLoad_mem _ _ _ hr).symm ▸ hw
  | checkpointWrite => exact (execCheckpointWrite_mem _ _ _ _ hr).symm ▸ hw
  | forcedCheckpoint => exact (execForcedCheckpoint_mem _ _ _ hr).symm ▸ hw
  | pairEventDelivery => exact (execPairEventDelivery_mem _ _ _ _ hr).symm ▸ hw
  | pairLagTimeout => exact (execPairLagTimeout_mem _ _ hr).symm ▸ hw
  | pairResetDone => exact execPairResetDone_wf _ _ _ hw hr
  | comparatorSelfTest => exact execComparatorSelfTest_wf _ _ _ hw hr
  | heartbeatChallenge => exact (execHeartbeatChallenge_mem _ _ _ hr).symm ▸ hw
  | heartbeatAnswer => exact (execHeartbeatAnswer_mem _ _ _ _ _ _ hr).symm ▸ hw
  | claimCommit => exact (execClaimCommit_mem _ _ _ hr).symm ▸ hw
  | claimTimeout => exact (execClaimTimeout_mem _ hr).symm ▸ hw
  | kilnPowerCheck => exact (execKilnPowerCheck_mem _ hr).symm ▸ hw
  | kirchhoffTrip => exact (execKirchhoffTrip_mem _ _ hr).symm ▸ hw
  | kilnSpeedEdge => exact (execKilnSpeedEdge_mem _ _ hr).symm ▸ hw
  | kilnGateEnd => exact (execKilnGateEnd_mem _ _ _ hr).symm ▸ hw
  | slsRequest => exact (execSlsRequest_mem _ _ _ _ hr).symm ▸ hw
  | ss1Request => exact (execSs1Request_mem _ _ _ _ hr).symm ▸ hw
  | stoRequest => exact (execStoRequest_mem _ _ _ _ hr).symm ▸ hw
  | stoRelease => exact (execStoRelease_mem _ _ _ _ hr).symm ▸ hw
  | brakeRelease => exact (execBrakeRelease_mem _ _ _ _ hr).symm ▸ hw
  | genRelease => exact (execGenRelease_mem _ _ _ _ hr).symm ▸ hw
  | stoFeedbackTimeout => exact (execStoFeedbackTimeout_mem _ hr).symm ▸ hw
  | darkPulseStart => exact (execDarkPulseStart_mem _ _ hr).symm ▸ hw
  | darkPulseEnd => exact (execDarkPulseEnd_mem _ _ _ hr).symm ▸ hw
  | brakeFeedbackTimeout => exact (execBrakeFeedbackTimeout_mem _ _ hr).symm ▸ hw
  | ss1Timeout => exact (execSs1Timeout_mem _ hr).symm ▸ hw
  | safeResetEdge => exact execSafeResetEdge_wf _ _ hw hr
  | kilnComparatorTest => exact (execKilnComparatorTest_mem _ _ hr).symm ▸ hw
  | klnclkWatchdog => exact (execKlnclkWatchdog_mem _ hr).symm ▸ hw
  | ctrlReact => exact (execCtrlReact_mem _ hr).symm ▸ hw
  | kilnMirrorRefresh => exact (execKilnMirrorRefresh_mem _ hr).symm ▸ hw
  | frameReceived => exact execFrameReceived_wf _ _ _ hw hr
  | reelRecordRun => exact execReelRecordRun_wf _ _ _ hw hr
  | reelOverrun => exact execReelOverrun_wf _ _ _ hw hr
  | reelResetDone => exact (execReelResetDone_mem _ hr).symm ▸ hw
  | txPush => exact (execTxPush_mem _ _ _ _ _ _ _ _ hr).symm ▸ hw
  | txHeadFetch => exact (execTxHeadFetch_mem _ _ hr).symm ▸ hw
  | txEligible => exact (execTxEligible_mem _ _ hr).symm ▸ hw
  | txFrameSent => exact execTxFrameSent_wf _ _ hw hr
  | txAttemptError => exact execTxAttemptError_wf _ _ _ hw hr
  | busOffHoldEnd => exact (execBusOffHoldEnd_mem _ _ hr).symm ▸ hw
  | busOffRecovered => exact (execBusOffRecovered_mem _ _ hr).symm ▸ hw
  | canDisable => exact (execCanDisable_mem _ _ _ hr).symm ▸ hw
  | canEnable => exact (execCanEnable_mem _ _ _ hr).symm ▸ hw
  | canFlush => exact (execCanFlush_mem _ _ _ hr).symm ▸ hw
  | canDrainTimeout => exact (execCanDrainTimeout_mem _ _ hr).symm ▸ hw
  | statusFrameDue => exact execStatusFrameDue_wf _ _ hw hr
  | axleCmd => exact execAxleCmd_wf _ _ hw hr
  | speedCmd => exact (execSpeedCmd_mem _ _ hr).symm ▸ hw
  | stopCmd => exact (execStopCmd_mem _ _ _ hr).symm ▸ hw
  | emrCmd => exact (execEmrCmd_mem _ _ _ hr).symm ▸ hw
  | chgCmd => exact (execChgCmd_mem _ _ hr).symm ▸ hw
  | bmsLim => exact (execBmsLim_mem _ _ _ hr).symm ▸ hw
  | preCmd => exact (execPreCmd_mem _ _ _ hr).symm ▸ hw
  | contactorClosed => exact (execContactorClosed_mem _ _ hr).symm ▸ hw
  | hostTimeout => exact (execHostTimeout_mem _ hr).symm ▸ hw
  | hostLossTimeout => exact (execHostLossTimeout_mem _ hr).symm ▸ hw
  | chgCmdTimeout => exact (execChgCmdTimeout_mem _ hr).symm ▸ hw
  | xcpTimeout => exact (execXcpTimeout_mem _ hr).symm ▸ hw
  | xcpConnect => exact (execXcpConnect_mem _ _ hr).symm ▸ hw
  | xcpDisconnect => exact (execXcpDisconnect_mem _ hr).symm ▸ hw
  | xcpGetStatus => exact (execXcpGetStatus_mem _ hr).symm ▸ hw
  | xcpSynch => exact (execXcpSynch_mem _ hr).symm ▸ hw
  | xcpGetCommModeInfo => exact (execXcpGetCommModeInfo_mem _ hr).symm ▸ hw
  | xcpSetMta => exact (execXcpSetMta_mem _ _ hr).symm ▸ hw
  | xcpUpload => exact (execXcpUpload_mem _ _ hr).symm ▸ hw
  | xcpShortUpload => exact (execXcpShortUpload_mem _ _ _ hr).symm ▸ hw
  | xcpDownload => exact execXcpDownload_wf _ _ hw hr
  | xcpSetCalPage => exact execXcpSetCalPage_wf _ _ _ hw hr
  | xcpGetCalPage => exact (execXcpGetCalPage_mem _ _ hr).symm ▸ hw
  | xcpCopyCalPage => exact execXcpCopyCalPage_wf _ _ _ hw hr
  | xcpFreeDaq => exact (execXcpFreeDaq_mem _ hr).symm ▸ hw
  | xcpAllocDaq => exact (execXcpAllocDaq_mem _ _ hr).symm ▸ hw
  | xcpAllocOdt => exact (execXcpAllocOdt_mem _ _ _ hr).symm ▸ hw
  | xcpAllocOdtEntry => exact (execXcpAllocOdtEntry_mem _ _ _ _ hr).symm ▸ hw
  | xcpSetDaqPtr => exact (execXcpSetDaqPtr_mem _ _ _ _ hr).symm ▸ hw
  | xcpWriteDaq => exact (execXcpWriteDaq_mem _ _ _ hr).symm ▸ hw
  | xcpSetDaqListMode => exact (execXcpSetDaqListMode_mem _ _ _ _ _ _ hr).symm ▸ hw
  | xcpStartStopDaqList => exact (execXcpStartStopDaqList_mem _ _ _ hr).symm ▸ hw
  | xcpStartStopSynch => exact (execXcpStartStopSynch_mem _ _ hr).symm ▸ hw
  | xcpGetDaqProcessorInfo => exact (execXcpGetDaqProcessorInfo_mem _ hr).symm ▸ hw
  | xcpUnknownCommand => exact (execXcpUnknownCommand_mem _ _ hr).symm ▸ hw
  | getInfo => exact execGetInfo_wf _ _ _ hw hr
  | challenge => exact execChallenge_wf _ _ _ _ _ _ _ hw hr
  | response => exact execResponse_wf _ _ _ _ _ hw hr
  | password => exact execPassword_wf _ _ _ _ hw hr
  | close => exact execClose_wf _ _ _ hw hr
  | pwSet => exact execPwSet_wf _ _ _ _ _ hw hr
  | keyImport => exact execKeyImport_wf _ _ _ _ _ _ hw hr
  | freshSet => exact execFreshSet_wf _ _ _ _ _ _ _ hw hr
  | aesGcm => exact execAesGcm_wf _ _ _ _ hw hr
  | cmac => exact execCmac_wf _ _ _ _ hw hr
  | hash => exact execHash_wf _ _ _ _ hw hr
  | ecdsaVerify => exact execEcdsaVerify_wf _ _ _ _ hw hr
  | lmsVerify => exact execLmsVerify_wf _ _ _ _ hw hr
  | random => exact execRandom_wf _ _ _ _ hw hr
  | lcAdvance => exact execLcAdvance_wf _ _ _ _ _ _ hw hr
  | secAdvance => exact execSecAdvance_wf _ _ _ _ _ _ hw hr
  | keyProvision => exact execKeyProvision_wf _ _ _ _ _ hw hr
  | keyRevoke => exact execKeyRevoke_wf _ _ _ _ _ hw hr
  | selfTest => exact execSelfTest_wf _ _ _ _ hw hr
  | tndBadCommand => exact execTndBadCommand_wf _ _ _ _ hw hr
  | tndCommandDone => exact execTndCommandDone_wf _ hw hr
  | challengeExpiry => exact (execChallengeExpiry_mem _ _ hr).symm ▸ hw
  | challengeLockoutEnd => exact (execChallengeLockoutEnd_mem _ _ hr).symm ▸ hw
  | debugLifetimeExpiry => exact (execDebugLifetimeExpiry_mem _ hr).symm ▸ hw
  | l2ConditionLoss => exact (execL2ConditionLoss_mem _ hr).symm ▸ hw
  | coreHalt => exact (execCoreHalt_mem _ _ _ hr).symm ▸ hw
  | coreResume => exact (execCoreResume_mem _ _ _ hr).symm ▸ hw
  | reelHalt => exact (execReelHalt_mem _ _ hr).symm ▸ hw
  | reelResume => exact (execReelResume_mem _ _ hr).symm ▸ hw
  | resyncTimeout => exact (execResyncTimeout_mem _ _ hr).symm ▸ hw
  | idcode => exact (execIdcode_mem _ hr).symm ▸ hw
  | bypass => exact (execBypass_mem _ hr).symm ▸ hw
  | samplePreload => exact (execSamplePreload_mem _ hr).symm ▸ hw
  | extest => exact (execExtest_mem _ _ hr).symm ▸ hw
  | updBegin => exact execUpdBegin_wf _ _ _ _ hw hr
  | updWrite => exact execUpdWrite_wf _ _ _ hw hr
  | updActivate => exact execUpdActivate_wf _ _ _ hw hr
  | updConfirm => exact execUpdConfirm_wf _ _ _ _ hw hr
  | updRevert => exact execUpdRevert_wf _ _ _ hw hr
  | updStatus => exact execUpdStatus_wf _ _ _ hw hr
  | probationDeadline => exact execProbationDeadline_wf _ hw hr
  | spxHandoverDisarm => exact (execSpxHandoverDisarm_mem _ _ hr).symm ▸ hw
  | spxTcmLoadDone => exact execSpxTcmLoadDone_wf _ _ hw hr
  | migrationTimeout => exact (execMigrationTimeout_mem _ _ hr).symm ▸ hw
  | xinLoss => exact (execXinLoss_mem _ hr).symm ▸ hw
  | pllUnlock => exact (execPllUnlock_mem _ _ hr).symm ▸ hw
  | pllFrequencyWindow => exact (execPllFrequencyWindow_mem _ _ _ hr).symm ▸ hw
  | tokenPeriodCheck => exact (execTokenPeriodCheck_mem _ _ hr).symm ▸ hw
  | pllRelock => exact (execPllRelock_mem _ _ _ hr).symm ▸ hw
  | pllRelockDone => exact (execPllRelockDone_mem _ _ _ hr).symm ▸ hw
  | crossingStale => exact (execCrossingStale_mem _ _ hr).symm ▸ hw
  | crossingRecovered => exact (execCrossingRecovered_mem _ _ hr).symm ▸ hw
  | tsLoRead => exact (execTsLoRead_mem _ _ hr).symm ▸ hw
  | memoryRead => exact (execMemoryRead_mem _ _ _ _ _ hr).symm ▸ hw
  | memoryWrite => exact execMemoryWrite_wf _ _ _ _ _ _ hw hr
  | scrubWord => exact (execScrubWord_mem _ _ _ hr).symm ▸ hw
  | scrubDisable => exact (execScrubDisable_mem _ _ hr).symm ▸ hw
  | bucketLeak => exact (execBucketLeak_mem _ hr).symm ▸ hw
  | ashRecordWritten => exact execAshRecordWritten_wf _ hw hr
  | eventDelivery => exact (execEventDelivery_mem _ _ hr).symm ▸ hw
  | eventClaim => exact (execEventClaim_mem _ _ _ hr).symm ▸ hw
  | xferStart => exact (execXferStart_mem _ _ _ hr).symm ▸ hw
  | xferDrain => exact execXferDrain_wf _ _ _ hw hr
  | xferDone => exact execXferDone_wf _ _ hw hr
  | signalWrite => exact execSignalWrite_wf _ _ _ _ _ hw hr
  | daqTimerExpiry => exact (execDaqTimerExpiry_mem _ _ hr).symm ▸ hw
  | logicSelfTest => exact (execLogicSelfTest_mem _ _ _ hr).symm ▸ hw
  | sramMarch => exact (execSramMarch_mem _ _ _ hr).symm ▸ hw
  | whorlMarch => exact (execWhorlMarch_mem _ _ _ hr).symm ▸ hw
  | oltPllRelock => exact (execOltPllRelock_mem _ _ _ hr).symm ▸ hw
  | oltTinderSelfTest => exact (execOltTinderSelfTest_mem _ _ _ hr).symm ▸ hw
  | oltTestDone => exact (execOltTestDone_mem _ _ hr).symm ▸ hw
  | canLoopbackTest => exact (execCanLoopbackTest_mem _ _ hr).symm ▸ hw
  | canTestRequest => exact (execCanTestRequest_mem _ _ _ hr).symm ▸ hw
  | swSliceResult => exact (execSwSliceResult_mem _ _ _ hr).symm ▸ hw
  | registerRead => exact (execRegisterRead_mem _ _ _ _ hr).symm ▸ hw
  | receiveError => exact (execReceiveError_mem _ _ _ hr).symm ▸ hw
  | protocolException => exact (execProtocolException_mem _ _ hr).symm ▸ hw
  | busIntegrationDone => exact (execBusIntegrationDone_mem _ _ hr).symm ▸ hw
  | loopbackTestEnd => exact (execLoopbackTestEnd_mem _ _ _ hr).symm ▸ hw
  | healthTestFail => exact (execHealthTestFail_mem _ hr).symm ▸ hw
  | parkLockStall => exact (execParkLockStall_mem _ _ hr).symm ▸ hw
  | parkLockHoldEnd => exact (execParkLockHoldEnd_mem _ _ hr).symm ▸ hw
  | ss1StopComplete => exact (execSs1StopComplete_mem _ hr).symm ▸ hw

/-! ### An idle tick (R531): TSTAMP counts, and neither the trace port nor Reel touches it -/

theorem raise_ts (n : Nat) (s : State) : (raise n s).fab.ts = s.fab.ts := by
  have hcount : ∀ t : State, (countOvr n t).fab = t.fab := fun t =>
    fab_of_mask (K := { regs := true }) rfl (countOvr_mask rfl n t)
  unfold raise
  split
  · split
    · rw [hcount]
      rfl
    · rfl
  · rfl

theorem tsTick_ts (s : State) : (tsTick s).fab.ts = if s.fab.tsRun then s.fab.ts + 1 else s.fab.ts := by
  unfold tsTick
  split
  · rfl
  · rfl

theorem traceTick_ts (s : State) : (traceTick s).fab.ts = s.fab.ts := by
  unfold traceTick
  split
  · rfl
  · rfl

theorem setBytes_fab (s : State) (a : Nat) (l : List Byte) : (s.setBytes a l).fab = s.fab :=
  fab_of_mask (K := { mem := true }) rfl (setBytes_mask rfl s a l)

theorem place_ts (key : Nat) (data : List Byte) (s : State) : (place key data s).fab.ts = s.fab.ts := by
  rw [place, setBytes_fab]

theorem pushEntry_ts (n : Nat) (e : TxEntry) (s : State) : (pushEntry n e s).2.fab.ts = s.fab.ts := by
  unfold pushEntry
  dsimp only
  split
  · rw [raise_ts]
    exact congrArg FabricSt.ts (fab_of_mask (K := { regs := true }) rfl (bump_mask rfl _ _ _ _ _ _ _))
  · rfl

theorem nextFresh_fab (d : Nat) (s : State) : (nextFresh d s).2.fab = s.fab :=
  fab_of_mask (K := { regs := true, mem := true, sys := true, kln := true, bus := true }) rfl (nextFresh_mask rfl rfl rfl rfl rfl d s)

theorem pushOwn_ts (k : Nat) (d : TxDef) (data : List Byte) (at_ : Option Nat) (s : State) : (pushOwn k d data at_ s).2.fab.ts = s.fab.ts := by
  have hfresh : (if d.secured = true then nextFresh k s else (some 0, s)).2.fab = s.fab := by
    split
    · exact nextFresh_fab k s
    · rfl
  unfold pushOwn
  split
  · rfl
  · split
    rename_i f u heq
    rw [heq] at hfresh
    split
    · exact congrArg FabricSt.ts hfresh
    · dsimp only
      rw [pushEntry_ts, place_ts]
      exact congrArg FabricSt.ts hfresh

theorem sendEvent_ts (s : State) : (sendEvent s).fab.ts = s.fab.ts := by
  unfold sendEvent
  split
  · rfl
  · dsimp only
    split
    · rfl
    · split
      · rfl
      · exact pushOwn_ts _ _ _ _ _

theorem pushDtos_ts (d : TxDef) (fs : List (List Byte)) (k : Nat) (s : State) : (pushDtos d fs k s).2.fab.ts = s.fab.ts := by
  induction fs generalizing k s with
  | nil => rfl
  | cons f r ih => exact (ih _ _).trans (pushOwn_ts _ _ _ _ _)

theorem packSample_ts (i : Nat) (s : State) : (packSample i s).fab.ts = s.fab.ts := by
  unfold packSample
  split
  · rfl
  · split
    · rfl
    · exact pushDtos_ts _ _ _ _

theorem reelTick_ts (s : State) : (reelTick s).fab.ts = s.fab.ts := by
  unfold reelTick
  split
  · rfl
  · exact (foldl_keeps (·.fab.ts) _ _ (fun i _ s => packSample_ts i s) _).trans (sendEvent_ts s)

theorem idleTick_ts (s : State) : (idleTick s).fab.ts = if s.fab.tsRun then s.fab.ts + 1 else s.fab.ts := by
  rw [idleTick, reelTick_ts, traceTick_ts, tsTick_ts]

theorem idleTick_pending (s : State) : (idleTick s).pending = s.pending :=
  pending_of_mask (K := Parts.every) (idleTick_mask rfl rfl rfl rfl rfl rfl rfl s)

/-! ### Steps -/

theorem step_of_idle {s : State} (h : s.pending = []) : step s = .next (idleTick s) := by rw [step, h]

theorem step_of_command {s : State} {c : Instr} {rest : List Instr} (h : s.pending = c :: rest) :
    step s = exec c { s with pending := rest } := by rw [step, h]

/-- Settles O53: `step` takes the queue's front, and an idle tick adds nothing to it. -/
theorem queueStep : Obligations.QueueStep := by
  intro s c rest
  refine ⟨step_of_command rfl, fun hidle => ⟨idleTick s, step_of_idle hidle, ?_, idleTick_ts s⟩⟩
  rw [idleTick_pending, hidle]

/-- Settles O54: no row answers anything but a next state, and no row's parts include the queue. -/
theorem everyCommandAnswers : Obligations.EveryCommandAnswers := by
  intro c s
  obtain ⟨t, hr⟩ := exec_answers c s
  exact ⟨t, hr, exec_pending hr⟩

/-- Settles O56: an idle tick keeps the canonical form, and so does every command, row by row. -/
theorem stepKeepsMemory : Obligations.StepKeepsMemory := by
  intro s t hw hstep
  cases hq : s.pending with
  | nil =>
    rw [step_of_idle hq] at hstep
    exact Host.Outcome.next.inj hstep ▸ idleTick_wf s hw
  | cons c rest =>
    rw [step_of_command hq] at hstep
    exact exec_wf (s := { s with pending := rest }) hw hstep

end Sys2Proof.Machine

/-! The XCP service of pair B (16_bus.md R480 to R484): what a session's command does where pair B serves it, the branches of the
commands, and the two obligations about them, O51 and O52. -/

namespace Sys2Proof.Machine
open Sys2Proof

/-! ### Commands of a session (R482) -/

section
variable {s : State} {c : Instr} {f : State → State}

/-- Pair B serves a session and the debug level allows it. -/
abbrev XcpOpen (s : State) : Prop := xcpServes s = true ∧ 1 ≤ s.dbgLevel

theorem quietly_of_resp (h : (f s).resp = s.resp) : quietly f s = f s := by
  rw [quietly, ← h]

theorem xcpCmd_of_unserved (h : xcpServes s = false) : xcpCmd f s = .next s := by
  simp [xcpCmd, h]

theorem xcpCmd_of_locked (h : xcpServes s = true) (hl : s.dbgLevel = 0) : xcpCmd f s = .next (s.reply .accessDenied) := by
  simp [xcpCmd, h, hl]

theorem xcpCmd_of_open (h : XcpOpen s) : xcpCmd f s = .next (quietly f s) := by
  obtain ⟨hserves, hlevel⟩ := h
  rw [xcpCmd, if_neg (by simp [hserves]), if_neg (by omega)]

/-- A command whose work leaves the last bus answer alone. -/
theorem runs_xcpCmd {t : State} (hc : exec c s = xcpCmd f s) (h : XcpOpen s) (hf : f s = t) (hresp : t.resp = s.resp) :
    Runs c s fun u => u = t :=
  ⟨t, by rw [hc, xcpCmd_of_open h, quietly_of_resp (by rw [hf, hresp]), hf], rfl⟩

/-- An answer with some bytes. -/
theorem runs_xcpCmd_reply {b : List Nat} (hc : exec c s = xcpCmd f s) (h : XcpOpen s) (hf : f s = s.reply (.ok b)) :
    Runs c s fun u => ∃ b, u = s.reply (.ok b) := by
  obtain ⟨u, hrun, hu⟩ := runs_xcpCmd hc h hf rfl
  exact ⟨u, hrun, b, hu⟩

end

/-! ### Sessions and pages (R482 to R484) -/

section
variable {s : State}

theorem raise_xcp (n : Nat) (s : State) : (raise n s).xcp = s.xcp := by rw [raise_eq]

/-- The session when it has ended: no list runs, no sample waits. -/
def XcpSt.closed (x : XcpSt) : XcpSt :=
  { x with connected := false, lists := x.lists.map (fun l => { l with running := false, sample := none }) }

theorem xcpEnd_xcp (h : s.xcp.connected = true) : (xcpEnd s).xcp = s.xcp.closed := by
  rw [xcpEnd, if_pos h]
  exact raise_xcp _ _

theorem connected_of_xcpServes (h : xcpServes s = true) : s.xcp.connected = true := by
  simp only [xcpServes, Bool.and_eq_true] at h
  exact h.2

/-- The state in which CONNECT answers: an opening session raises EV_BUS_XCP. -/
def connecting (s : State) : State := if s.xcp.connected then s else raise 207 s

theorem connecting_xcp (s : State) : (connecting s).xcp = s.xcp := by
  unfold connecting
  split
  · rfl
  · exact raise_xcp _ _

theorem execXcpConnect_of_level {fd : Bool} (hb : pairBRuns s = true) (hready : s.pdReady 8 = true) (hl : 1 ≤ s.dbgLevel) :
    execXcpConnect fd s = .next ((connecting s).setXcp { (connecting s).xcp with
      connected := true, fd := fd, reply := .ok [0x05, 0x80, if fd then 64 else 8, if fd then 64 else 8, 0, 1, 1] }) := by
  rw [execXcpConnect, if_neg (by simp [hb, hready]), if_neg (by omega)]
  rfl

theorem execXcpConnect_of_locked {fd : Bool} (hb : pairBRuns s = true) (hready : s.pdReady 8 = true) (hl : s.dbgLevel = 0) :
    execXcpConnect fd s = .next (s.reply .accessDenied) := by
  rw [execXcpConnect, if_neg (by simp [hb, hready]), if_pos (by omega)]

/-- Commands that do nothing outside a session. -/
theorem exec_xcpCmd (addr : Word) (n mode page src dst code : Byte) (data : List Byte) (s : State) :
    ∀ c ∈ [Instr.xcpGetStatus, .xcpSynch, .xcpGetCommModeInfo, .xcpSetMta addr, .xcpUpload n, .xcpShortUpload n addr, .xcpDownload data,
      .xcpSetCalPage mode page, .xcpGetCalPage mode, .xcpCopyCalPage src dst, .xcpFreeDaq, .xcpGetDaqProcessorInfo,
      .xcpUnknownCommand code], ∃ f, exec c s = xcpCmd f s := by
  intro c hc
  simp only [List.mem_cons, List.not_mem_nil, or_false] at hc
  rcases hc with rfl | rfl | rfl | rfl | rfl | rfl | rfl | rfl | rfl | rfl | rfl | rfl | rfl
  all_goals exact ⟨_, rfl⟩

/-- An upload reads the dictionary and passes what it read. -/
theorem upload_of_load {n : Nat} {l : List Nat} (h0 : n ≠ 0) (hn : n < maxCto s) (hl : dictLoad s s.xcp.mta n = some l) :
    upload n s = s.setXcp { s.xcp with mta := s.xcp.mta + n, reply := .ok l } := by
  rw [upload, if_neg (by simp [h0]; omega), hl]

theorem upload_of_unread {n : Nat} (hl : dictLoad s s.xcp.mta n = none) : upload n s = s.reply .outOfRange := by
  rw [upload, hl]
  split
  · rfl
  · rfl

/-- Which page is in use does not depend on what the switch to it writes. -/
theorem pageToWhorls_xcp (working : Bool) (s : State) : (pageToWhorls working s).xcp = s.xcp :=
  xcp_of_mask (K := { regs := true, mem := true, resp := true, fab := true, whl := true }) rfl
    (pageToWhorls_mask rfl rfl rfl rfl rfl working s)

theorem place_resp (key : Nat) (data : List Byte) (s : State) : (place key data s).resp = s.resp :=
  resp_of_mask (K := { mem := true, fab := true }) rfl (place_mask rfl rfl key data s)

theorem place_xcp (key : Nat) (data : List Byte) (s : State) : (place key data s).xcp = s.xcp :=
  xcp_of_mask (K := { mem := true, fab := true }) rfl (place_mask rfl rfl key data s)

/-- The page is switched, where it is another one. -/
def pageSwitched (w : Bool) (s : State) : State :=
  if s.xcp.working == w then s else pageToWhorls w (s.setXcp { s.xcp with working := w })

theorem pageSwitched_working (w : Bool) (s : State) : (pageSwitched w s).xcp.working = w := by
  unfold pageSwitched
  split
  · simpa using ‹(s.xcp.working == w) = true›
  · rw [pageToWhorls_xcp]
    rfl

end

/-- Settles O51: the session's own branches, then each command in an open session through `xcpCmd`. -/
theorem xcpSession : Obligations.XcpSession := by
  intro s fd addr n mode page src dst code data l r w old live may cal closed k bs v u at_
  refine ⟨?timeout, ?connect, ?refused, ?disconnect, ?outside, ?status, ?synch, ?comm, ?mta, ?upload, ?unread, ?short, ?download, ?protect,
    ?page, ?badPage, ?shown, ?copy, ?reference, ?unknown⟩
  case timeout =>
    intro hb hconn
    have hrun : exec .xcpTimeout s = .next (xcpEnd s) := congrArg _ (if_pos hb)
    exact ⟨_, hrun, xcpEnd_xcp hconn, xcpEnd_mask rfl rfl rfl s⟩
  case connect =>
    intro hb hready hl
    have hrun := execXcpConnect_of_level (fd := fd) hb hready hl
    exact ⟨_, hrun, ⟨_, rfl⟩, by rw [connecting_xcp]; rfl, execXcpConnect_mask rfl rfl rfl fd s hrun⟩
  case refused => exact fun hb hready hl => ⟨_, execXcpConnect_of_locked hb hready hl, rfl⟩
  case disconnect =>
    intro h
    have hrun : exec .xcpDisconnect s = .next ((xcpEnd s).reply (.ok [])) := congrArg _ (if_pos h)
    refine ⟨_, hrun, ?_, execXcpDisconnect_mask rfl rfl rfl s hrun⟩
    exact congrArg (fun x : XcpSt => { x with reply := .ok [] }) (xcpEnd_xcp (connected_of_xcpServes h))
  case outside =>
    intro c hc
    obtain ⟨f, hf⟩ := exec_xcpCmd addr n mode page src dst code data s c hc
    exact ⟨fun h => hf.trans (xcpCmd_of_unserved h), fun h hl => hf.trans (xcpCmd_of_locked h hl)⟩
  case status => exact fun h => runs_xcpCmd_reply rfl h rfl
  case synch => exact fun h => runs_xcpCmd rfl h rfl rfl
  case comm => exact fun h => runs_xcpCmd_reply rfl h rfl
  case mta =>
    intro h
    refine runs_xcpCmd rfl h rfl ?_
    split
    · rfl
    · rfl
  case upload => exact fun h h0 hn hload => runs_xcpCmd rfl h (upload_of_load h0 hn hload) rfl
  case unread => exact fun h hload => runs_xcpCmd rfl h (upload_of_unread hload) rfl
  case short =>
    intro h h0 hn hdict hload
    exact runs_xcpCmd rfl h ((if_pos hdict).trans (upload_of_load (s := at_) h0 hn hload)) rfl
  case download =>
    rintro ⟨h, hcal⟩ hn hmax hdict hfits hold
    have hbody : download data s = if u.resp = .error then s.reply .writeProtected
        else u.setXcp { u.xcp with mta := s.xcp.mta + data.length, reply := .ok [] } := by
      rw [download, if_neg (by simp [hcal]), if_neg (by
        simp only [hdict, Bool.or_eq_true, decide_eq_true_eq, Bool.not_true, Bool.false_eq_true, or_false]
        omega)]
      simp only [hold, k, v, u, bs]
    refine ⟨_, xcpCmd_of_open h, fun herr => ?_, fun hok => ?_⟩
    · rw [quietly, hbody, if_pos herr]
      rfl
    · rw [quietly, hbody, if_neg hok]
  case protect => exact fun h hcal => runs_xcpCmd rfl h (if_pos (by simp [hcal])) rfl
  case page =>
    rintro ⟨h, hcal⟩ hpage hmode
    have hrun : exec (.xcpSetCalPage mode page) s =
        .next (quietly (fun s => (pageSwitched (page.toNat == 1) s).reply (.ok [])) s) := by
      have hbody : exec (.xcpSetCalPage mode page) s = _ := xcpCmd_of_open h
      rw [hbody, quietly, if_neg (by simp [hcal]), if_neg (by simp [hmode, hpage])]
      rfl
    have hone : (page.toNat == 1) = (page == 1) := by
      rw [Bool.eq_iff_iff, beq_iff_eq, beq_iff_eq, ← BitVec.toNat_inj]
      rfl
    refine ⟨_, hrun, ?_, rfl, fun hsame => ?_, rfl, execXcpSetCalPage_mask rfl rfl rfl rfl rfl rfl mode page s hrun⟩
    · exact (pageSwitched_working _ s).trans hone
    · have hstay : pageSwitched (page.toNat == 1) s = s := if_pos (by rw [hone, hsame, beq_self_eq_true])
      rw [quietly, hstay]
      rfl
  case badPage =>
    rintro ⟨h, hcal⟩ hpage
    refine runs_xcpCmd rfl h ?_ rfl
    rw [if_neg (by simp [hcal]), if_pos (by simp [hpage])]
  case shown => exact fun h hmode => runs_xcpCmd_reply rfl h (if_pos (by simpa using hmode))
  case copy =>
    rintro ⟨h, hcal⟩ hr hw hwork
    have hresp : (place w.1 (s.bytes r.1 r.2) s).resp = s.resp := place_resp _ _ s
    have hxcp : (place w.1 (s.bytes r.1 r.2) s).xcp = s.xcp := place_xcp _ _ s
    refine runs_xcpCmd rfl h ?_ hresp
    rw [if_neg (by simp [hcal]), if_neg (by decide), if_neg (by decide)]
    simp only [hr, hw, hxcp, hwork]
    rfl
  case reference =>
    rintro ⟨h, hcal⟩ hsrc
    refine runs_xcpCmd rfl h ?_ rfl
    rw [if_neg (by simp [hcal]), if_neg (by simp; omega), if_pos rfl]
  case unknown =>
    intro h
    have hcode := code.isLt
    exact runs_xcpCmd rfl h (if_neg (by omega)) rfl

/-! ### DAQ lists (R481, R562) -/

section
variable {s : State} {i : Nat} {l : DaqList} {g : DaqList → State → State}

theorem withList_of_idle (h : s.xcp.lists[i]? = some l) (hrun : l.running = false) : withList i g s = g l s := by
  simp [withList, h, hrun]

theorem withList_of_running (h : s.xcp.lists[i]? = some l) (hrun : l.running = true) : withList i g s = s.reply .sequence := by
  simp [withList, h, hrun]

theorem withList_of_absent (h : s.xcp.lists[i]? = none) : withList i g s = s.reply .outOfRange := by
  simp [withList, h]

/-- A list that may be configured, in an open session. -/
abbrev XcpIdle (s : State) (i : Nat) (l : DaqList) : Prop := XcpOpen s ∧ s.xcp.lists[i]? = some l ∧ l.running = false

theorem runs_withList {c : Instr} {t : State} (hc : exec c s = xcpCmd (withList i g) s) (h : XcpIdle s i l) (hg : g l s = t)
    (hresp : t.resp = s.resp) : Runs c s fun u => u = t := by
  obtain ⟨hopen, hlist, hidle⟩ := h
  exact runs_xcpCmd hc hopen ((withList_of_idle hlist hidle).trans hg) hresp

/-- Entry k is written where p points in list l, and the pointer goes on (WRITE_DAQ). -/
def daqFilled (p : DaqPtr) (l : DaqList) (k : Nat) (s : State) : State :=
  let u := s.setList p.list { l with odts := l.odts.set p.odt ((l.odts.getD p.odt []).set p.entry k) }
  u.setXcp { u.xcp with ptr := some { p with entry := p.entry + 1 } }

/-- The commands that configure one list. -/
theorem exec_withList (list evch : BitVec 16) (odt odts entry mode prescaler prio : Byte) (s : State) :
    ∀ c ∈ [Instr.xcpAllocOdt list odts, .xcpAllocOdtEntry list odt odts, .xcpSetDaqPtr list odt entry,
      .xcpSetDaqListMode list mode evch prescaler prio], ∃ g, exec c s = xcpCmd (withList list.toNat g) s := by
  intro c hc
  simp only [List.mem_cons, List.not_mem_nil, or_false] at hc
  rcases hc with rfl | rfl | rfl | rfl
  · exact ⟨_, rfl⟩
  · exact ⟨_, rfl⟩
  · exact ⟨_, rfl⟩
  · exact ⟨_, rfl⟩

end

/-- Settles O52: every command of a session acts on the list it names, and `withList` decides whether it may. -/
theorem xcpDaqLists : Obligations.XcpDaqLists := by
  intro s count list evch odts odt entry size mode prescaler prio addr l p may i mine k o
  refine ⟨?free, ?alloc, ?again, ?odt, ?entries, ?point, ?write, ?unfit, ?unpointed, ?bind, ?stop, ?start, ?select, ?stopAll, ?startAll,
    ?info, ?absent, ?running⟩
  case free => exact fun h => runs_xcpCmd rfl h rfl rfl
  case alloc => exact fun h hnone => runs_xcpCmd rfl h (if_pos (by simp [hnone])) rfl
  case again => exact fun h hsome => runs_xcpCmd rfl h (if_neg (by simpa using hsome)) rfl
  case odt => exact fun h => runs_withList rfl h rfl rfl
  case entries => exact fun h hodt => runs_withList rfl h (if_pos hodt) rfl
  case point => exact fun h hentry => runs_withList rfl h (if_pos hentry) rfl
  case write =>
    rintro ⟨hopen, hlist, hidle⟩ hptr hp hentry hdict hal hdaq hsize
    have hrun : Runs (.xcpWriteDaq size addr) s fun u => u = daqFilled p l k s := by
      refine runs_xcpCmd rfl hopen ?_ rfl
      simp only [hptr, withList_of_idle (hp ▸ hlist) hidle]
      rw [if_neg (by simpa [o] using hentry), if_neg (by simp [k, hsize, hdict, hal, hdaq])]
      rfl
    obtain ⟨t, hrun, rfl⟩ := hrun
    exact ⟨_, hrun, hp ▸ rfl, rfl, rfl, rfl⟩
  case unfit =>
    rintro ⟨hopen, hlist, hidle⟩ hptr hp hentry hdaq
    refine runs_xcpCmd rfl hopen ?_ rfl
    simp only [hptr, withList_of_idle (hp ▸ hlist) hidle]
    rw [if_neg (by simpa [o] using hentry), if_pos (by simp [k, hdaq])]
  case unpointed =>
    intro h hptr
    refine runs_xcpCmd rfl h ?_ rfl
    simp only [hptr]
  case bind =>
    intro h hch
    have hprio := prio.isLt
    exact runs_withList rfl h (if_neg (by simp; omega)) rfl
  case stop =>
    intro h hlist
    exact runs_xcpCmd rfl h (by simp only [show s.xcp.lists[list.toNat]? = some l from hlist]; rfl) rfl
  case start =>
    intro h hlist
    exact runs_xcpCmd rfl h (by simp only [show s.xcp.lists[list.toNat]? = some l from hlist]; rfl) rfl
  case select =>
    intro h hlist
    exact runs_xcpCmd rfl h (by simp only [show s.xcp.lists[list.toNat]? = some l from hlist]; rfl) rfl
  case stopAll => exact fun h => runs_xcpCmd rfl h rfl rfl
  case startAll => exact fun h => runs_xcpCmd rfl h rfl rfl
  case info => exact fun h => runs_xcpCmd_reply rfl h rfl
  case absent =>
    intro h hlist c hc
    suffices hc : ∃ f, exec c s = xcpCmd f s ∧ f s = s.reply .outOfRange by
      obtain ⟨f, hf, hout⟩ := hc
      rw [hf, xcpCmd_of_open h, quietly_of_resp] <;> rw [hout]
      rfl
    simp only [List.mem_cons, List.not_mem_nil, or_false] at hc
    rcases hc with rfl | rfl | rfl | rfl
    · exact ⟨_, rfl, withList_of_absent hlist⟩
    · exact ⟨_, rfl, withList_of_absent hlist⟩
    · exact ⟨_, rfl, withList_of_absent hlist⟩
    · exact ⟨_, rfl, by simp only [show s.xcp.lists[list.toNat]? = none from hlist]⟩
  case running =>
    intro h hlist hrun c hc
    obtain ⟨g, hg⟩ := exec_withList _ _ _ _ _ _ _ _ s c hc
    rw [hg, xcpCmd_of_open h, quietly_of_resp] <;> rw [withList_of_running hlist hrun]
    rfl

end Sys2Proof.Machine

/-! Memory accesses over the bus (20_memory_events.md R538 to R544): what a read finds in a word, what a write leaves, and the obligation
about them, O15. -/

namespace Sys2Proof.Machine
open Sys2Proof

section
variable {s : State} {m : Master} {a k size n : Nat} {syn : Syndrome} {x : WriteCtx}

/-! ### What a read finds in a word (R541, R542, R544) -/

theorem readWord_of_poisoned (h : s.poisoned k = true) :
    readWord k syn s = (.bad, s.bump F.MEMC_STAT.POISON_READS F.MEMC_STAT.SAT) := by
  simp only [readWord, h, if_true]

/-- The state after an uncorrectable word was found (R541). -/
def wordLost (k : Nat) (s : State) : State :=
  slogAdd k true (poisonWord k (raise 34 (issue 0x1202 0 (s.bump F.MEMC_STAT.UE_CNT F.MEMC_STAT.SAT))))

theorem readWord_of_multi (h : s.poisoned k = false) : readWord k .multi s = (.bad, wordLost k s) := by
  simp only [readWord, h, Bool.false_eq_true, if_false]
  rfl

theorem poisonWord_poisoned (k : Nat) (s : State) : (poisonWord k s).poisoned k = true := by
  unfold poisonWord
  split
  · assumption
  · simp [State.poisoned]

theorem poisonWord_sys (k : Nat) (s : State) : (poisonWord k s).sys = s.sys :=
  sys_of_mask (K := { fab := true }) rfl (poisonWord_mask rfl k s)

theorem slogAdd_fab (k : Nat) (byRead : Bool) (s : State) : (slogAdd k byRead s).fab = s.fab :=
  fab_of_mask (K := { regs := true }) rfl (slogAdd_mask rfl k byRead s)

theorem slogAdd_sys (k : Nat) (byRead : Bool) (s : State) : (slogAdd k byRead s).sys = s.sys :=
  sys_of_mask (K := { regs := true }) rfl (slogAdd_mask rfl k byRead s)

theorem poisoned_of_fab {t : State} (h : t.fab = s.fab) : t.poisoned k = s.poisoned k := by rw [State.poisoned, h]; rfl

theorem wordLost_poisoned (k : Nat) (s : State) : (wordLost k s).poisoned k = true :=
  (poisoned_of_fab (slogAdd_fab _ _ _)).trans (poisonWord_poisoned _ _)

theorem wordLost_lastFault (k : Nat) (s : State) : (wordLost k s).sys.lastFault = 0x1202 := by
  rw [wordLost, slogAdd_sys, poisonWord_sys, raise_sys, issue_lastFault]

/-! ### Reads -/

/-- An address that no other unit answers is read as memory. -/
theorem busRead_eq_memRead (hc : busAddr s m a = a) (hd : inDict a = false) (hf : inFlash a = false) (hr : inRegs a = false) :
    busRead m a size syn s = memRead m a size syn s := by
  simp [busRead, hc, hd, hf, hr]

theorem memRead_of_refused (h : memOk s m a size false = false) : memRead m a size syn s = s.answer .error := by
  rw [memRead, if_neg (by simp [h])]
  rfl

theorem memRead_of_clean (h : memOk s m a size false = true) (hk : s.poisoned (memKey m a) = false) :
    memRead m a size .clean s = s.answer (.data (s.load (memKey m a) size)) := by
  simp only [memRead, h, if_true, readWord_of_clean hk]

theorem memRead_of_bad {u : State} (h : memOk s m a size false = true) (hbad : readWord (memKey m a) syn s = (.bad, u)) :
    memRead m a size syn s = u.answer .error := by
  simp only [memRead, h, if_true, hbad]
  rfl

/-! ### Writes -/

theorem busWrite_eq_memWrite (hc : busAddr s m a = a) (hd : inDict a = false) (hf : inFlash a = false) (hr : inRegs a = false)
    (hw : inWhorl a = false) : busWrite m a size n x s = memWrite m a size n x.synd s := by
  simp [busWrite, hc, hd, hf, hr, hw]

theorem memWrite_of_refused (h : memOk s m a size true = false) : memWrite m a size n syn s = s.answer .error := by
  rw [memWrite, if_neg (by simp [h])]
  rfl

/-- A full word replaces what was there, poison included (R543). -/
theorem memWrite_of_full (h : memOk s m a size true = true) (hfull : eccBytes (memKey m a) ≤ size) :
    memWrite m a size n syn s = ((cleanWord (memKey m a) s).store (memKey m a) size n).answer .done := by
  rw [memWrite, if_pos h]
  exact if_neg (by omega)

/-- A narrower write reads the word first (R543). -/
theorem memWrite_of_clean (h : memOk s m a size true = true) (hnarrow : size < eccBytes (memKey m a))
    (hk : s.poisoned (memKey m a) = false) : memWrite m a size n .clean s = (s.store (memKey m a) size n).answer .done := by
  simp only [memWrite, h, if_true, hnarrow, readWord_of_clean hk]

theorem memWrite_of_poisoned (h : memOk s m a size true = true) (hnarrow : size < eccBytes (memKey m a))
    (hk : s.poisoned (memKey m a) = true) :
    memWrite m a size n syn s = (s.bump F.MEMC_STAT.POISON_READS F.MEMC_STAT.SAT).answer .error := by
  simp only [memWrite, h, if_true, hnarrow, readWord_of_poisoned hk]
  rfl

theorem Stored.answer {k n v : Nat} {t : State} (h : Stored k n v s t) (r : BusResp) : Stored k n v s (t.answer r) := h.of_mem rfl rfl

theorem store_fab (s : State) (k n v : Nat) : (s.store k n v).fab = s.fab := setBytes_fab _ _ _

theorem store_regs (s : State) (k n v : Nat) : (s.store k n v).regs = s.regs :=
  regs_of_mask (K := { mem := true }) rfl (store_mask rfl s k n v)

end

/-- Settles O15: the access reaches memory, and the word's poison and syndrome decide between the branches of a read and of a write. -/
theorem memoryAccesses : Obligations.MemoryAccesses := by
  intro s m addr size v x syn a k hc hd hf hr
  have hread : ∀ {y u}, memRead m a size.val y s = u → exec (.memoryRead m addr size y) s = .next u := fun h =>
    congrArg Host.Outcome.next ((busRead_eq_memRead hc hd hf hr).trans h)
  have hwrite : ∀ {u}, inWhorl a = false → memWrite m a size.val (v.toNat % 2 ^ (8 * size.val)) x.synd s = u →
      exec (.memoryWrite m addr size v x) s = .next u := fun hw h =>
    congrArg Host.Outcome.next ((busWrite_eq_memWrite hc hd hf hr hw).trans h)
  refine ⟨?clean, ?poisoned, ?lost, ?refused, ?full, ?narrow, ?kept, ?denied⟩
  case clean => exact fun hok hk => ⟨_, hread (memRead_of_clean hok hk), rfl⟩
  case poisoned =>
    intro hok hk
    have hrun := hread (memRead_of_bad hok (readWord_of_poisoned (syn := syn) hk))
    exact ⟨_, hrun, rfl, execMemoryRead_mem _ _ _ _ _ hrun, execMemoryRead_mask rfl rfl rfl rfl rfl rfl _ _ _ _ _ hrun⟩
  case lost =>
    intro hok hk
    have hrun := hread (memRead_of_bad hok (readWord_of_multi hk))
    exact ⟨_, hrun, rfl, wordLost_poisoned k s, wordLost_lastFault k s, execMemoryRead_mem _ _ _ _ _ hrun,
      execMemoryRead_mask rfl rfl rfl rfl rfl rfl _ _ _ _ _ hrun⟩
  case refused => exact fun hok => ⟨_, hread (memRead_of_refused hok), rfl⟩
  case full =>
    intro hw hok hfull
    have hrun := hwrite hw (memWrite_of_full hok hfull)
    obtain ⟨hbytes, honly⟩ := (stored_cleanWord_store k size.val (v.toNat % 2 ^ (8 * size.val)) s).answer .done
    refine ⟨_, hrun, hbytes, honly, ?_, rfl, store_regs _ _ _ _, execMemoryWrite_mask
      rfl rfl rfl rfl rfl rfl rfl rfl rfl rfl rfl rfl rfl rfl rfl rfl rfl rfl rfl rfl rfl rfl rfl _ _ _ _ _ s hrun⟩
    exact (poisoned_of_fab (store_fab _ _ _ _)).trans (poisoned_cleanWord k s)
  case narrow =>
    intro hw hok hnarrow hk hsyn
    have hrun := hwrite hw (hsyn ▸ memWrite_of_clean hok hnarrow hk)
    obtain ⟨hbytes, honly⟩ := (stored_store k size.val (v.toNat % 2 ^ (8 * size.val)) s).answer .done
    exact ⟨_, hrun, hbytes, honly, rfl, store_regs _ _ _ _, execMemoryWrite_mask
      rfl rfl rfl rfl rfl rfl rfl rfl rfl rfl rfl rfl rfl rfl rfl rfl rfl rfl rfl rfl rfl rfl rfl _ _ _ _ _ s hrun⟩
  case kept =>
    intro hw hok hnarrow hk
    have hrun := hwrite hw (memWrite_of_poisoned hok hnarrow hk)
    exact ⟨_, hrun, rfl, bump_mem _ _ _ _ _ _ _, execMemoryWrite_mask
      rfl rfl rfl rfl rfl rfl rfl rfl rfl rfl rfl rfl rfl rfl rfl rfl rfl rfl rfl rfl rfl rfl rfl _ _ _ _ _ s hrun⟩
  case denied => exact fun hw hok => ⟨_, hwrite hw (memWrite_of_refused hok), rfl⟩

end Sys2Proof.Machine

/-! The scrubber, the leaky buckets, the transfer engine and the ash ring (20_memory_events.md R546 to R559): one lemma for each operation,
and the obligation about them, O16. -/

namespace Sys2Proof.Machine
open Sys2Proof

/-! ### Events and bytes -/

/-- Of the fabric's part, raising an event changes the crossings alone. -/
theorem raise_fab (n : Nat) (s : State) : (raise n s).fab = { s.fab with xing := (raise n s).fab.xing } := by
  have hcount : ∀ t : State, (countOvr n t).fab = t.fab := fun t => fab_of_mask (K := { regs := true }) rfl (countOvr_mask rfl n t)
  unfold raise
  split
  · split
    · rw [hcount]
      rfl
    · rfl
  · rfl

theorem raise_xfer (n c : Nat) (s : State) : (raise n s).xfer c = s.xfer c := by rw [State.xfer, raise_fab, State.xfer]

theorem raise_poisoned (n k : Nat) (s : State) : (raise n s).poisoned k = s.poisoned k := by rw [State.poisoned, raise_fab]; rfl

theorem State.length_bytes (s : State) (a n : Nat) : (s.bytes a n).length = n := by
  induction n generalizing a with
  | zero => rfl
  | succ n ih => rw [State.bytes, List.length_cons, ih]

theorem setBytes_written (s : State) (k : Nat) {l : List Byte} {n : Nat} (hl : l.length = n) :
    (s.setBytes k l).bytes k n = l ∧ BytesOnly k n s (s.setBytes k l) := by
  subst hl
  exact ⟨State.bytes_setBytes l s k, fun b hb => State.byte_setBytes l s k b hb⟩

/-- Runs of bytes agree where their bytes do. -/
theorem State.bytes_eq_iff (s t : State) (a b n : Nat) : t.bytes b n = s.bytes a n ↔ ∀ j, j < n → t.byte (b + j) = s.byte (a + j) := by
  induction n generalizing a b with
  | zero => simp [State.bytes]
  | succ n ih =>
    rw [State.bytes, State.bytes, List.cons.injEq, ih]
    refine ⟨fun ⟨hhead, htail⟩ j hj => ?_, fun h => ⟨h 0 (by omega), fun j hj => ?_⟩⟩
    · cases j with
      | zero => exact hhead
      | succ j =>
        have hj := htail j (by omega)
        rwa [show b + 1 + j = b + (j + 1) by omega, show a + 1 + j = a + (j + 1) by omega] at hj
    · have hj := h (j + 1) (by omega)
      rwa [show b + (j + 1) = b + 1 + j by omega, show a + (j + 1) = a + 1 + j by omega] at hj

/-- A byte of a run copied from elsewhere. -/
theorem State.byte_copied (s : State) (a b n : Nat) {x : Nat} (hlo : b ≤ x) (hhi : x < b + n) :
    (s.setBytes b (s.bytes a n)).byte x = s.byte (a + (x - b)) := by
  have hread := State.bytes_setBytes (s.bytes a n) s b
  rw [State.length_bytes, State.bytes_eq_iff] at hread
  have hx := hread (x - b) (by omega)
  rwa [show b + (x - b) = x by omega] at hx

/-! ### The scrubber (R546, R547) -/

section
variable {s : State} {u : ScrubMem}

/-- The scrubber goes on to the next word; the lap of bank 0 is noted when it ends. -/
def scrubAdvanced (u : ScrubMem) (s : State) : State :=
  let i := SMap.get 0 s.fab.scrubPtr (scrubSlot u)
  let last := decide (i + 1 ≥ scrubWords u)
  let s := { s with fab := { s.fab with scrubPtr := SMap.put 0 s.fab.scrubPtr (scrubSlot u) (if last then 0 else i + 1) } }
  if last && scrubSlot u == 0 then
    let s := s.set F.MEMC_SCRUB_LAP.LAPS (s.get F.MEMC_SCRUB_LAP.LAPS + 1)
    let s := s.set F.MEMC_SCRUB_LAP.LAST_LAP (min ((s.fab.ts - s.fab.lapStart) / 100000) 65535)
    { s with fab := { s.fab with lapStart := s.fab.ts } }
  else s

theorem scrubAdvanced_fab (u : ScrubMem) (s : State) :
    (scrubAdvanced u s).fab.poison = s.fab.poison ∧ (scrubAdvanced u s).fab.scrubPtr = SMap.put 0 s.fab.scrubPtr (scrubSlot u)
      (if SMap.get 0 s.fab.scrubPtr (scrubSlot u) + 1 ≥ scrubWords u then 0 else SMap.get 0 s.fab.scrubPtr (scrubSlot u) + 1) := by
  unfold scrubAdvanced
  dsimp only
  split <;> simp

/-- The word the scrubber stands at. -/
abbrev scrubAt (s : State) (u : ScrubMem) : Nat := scrubKey u (SMap.get 0 s.fab.scrubPtr (scrubSlot u))

theorem scrubStep_of_clean (hen : s.getB F.MEMC_SCRUB_CFG.EN = true) (hready : s.pdReady (keyDomain (scrubAt s u)) = true) :
    scrubStep u .clean s = (scrubAdvanced u s, false) := by
  rw [scrubStep, if_neg (by simp [hen, hready])]
  dsimp only
  exact ite_self _

theorem scrubStep_of_multi (hen : s.getB F.MEMC_SCRUB_CFG.EN = true) (hready : s.pdReady (keyDomain (scrubAt s u)) = true)
    (hk : s.poisoned (scrubAt s u) = false) : scrubStep u .multi s = (scrubFinding (scrubAt s u) (scrubAdvanced u s), true) := by
  have hpoison : (scrubAdvanced u s).poisoned (scrubAt s u) = false := by
    rw [State.poisoned, (scrubAdvanced_fab u s).1]
    exact hk
  rw [scrubStep, if_neg (by simp [hen, hready])]
  exact if_neg (by rw [Bool.not_eq_true]; exact hpoison)

/-- Where the words of the MRAM lie (R53, R538). -/
theorem mram_key {k : Nat} (hlo : 0x70000000 ≤ k) (hhi : k < 0x70040000) : inSram k = false ∧ keyKind k = 3 ∧ keyDomain k = 8 := by
  have hram : inSram k = false := decide_eq_false (by omega)
  have hwhl : inWhorl k = false := decide_eq_false (by omega)
  have hafe : inAfeBuf k = false := decide_eq_false (by omega)
  have hemb : inEmbMem k = false := decide_eq_false (by omega)
  have hflash : inFlash k = false := decide_eq_false (by omega)
  have hmram : inMram k = true := decide_eq_true (by omega)
  refine ⟨hram, ?_, ?_⟩
  · rw [keyKind, if_neg (by omega), hwhl, hmram]
    rfl
  · rw [keyDomain, if_neg (by omega), hram, hwhl, hafe, hemb, hflash]
    rfl

theorem critRegion_of_other (s : State) {k : Nat} (h : inSram k = false) : critRegion s k = none := by
  simp [critRegion, h]

/-- What a finding outside shared SRAM leaves. -/
theorem scrubFinding_of_other (s : State) {k : Nat} (h : inSram k = false) :
    (scrubFinding k s).poisoned k = true ∧ (scrubFinding k s).sys.lastFault = 0x1203 := by
  have hpoison : (raise 33 (slogAdd k false (poisonWord k s))).poisoned k = true := by
    rw [raise_poisoned, poisoned_of_fab (slogAdd_fab _ _ _), poisonWord_poisoned]
  unfold scrubFinding
  dsimp only
  rw [critRegion_of_other _ h]
  exact ⟨hpoison, issue_lastFault _ _ _⟩

end

/-! ### Buckets (R549) -/

theorem bucketLeak_level {b : Nat} (hb : b < 29) (s : State) :
    ((List.range 29).foldl (fun s b => s.set F.MEMC_BKT.LEVEL (s.get F.MEMC_BKT.LEVEL b - 1) b) s).get F.MEMC_BKT.LEVEL b =
      s.get F.MEMC_BKT.LEVEL b - 1 := by
  have hne : ∀ x, x ≠ b → F.MEMC_BKT.LEVEL.addr b 0 0 ≠ F.MEMC_BKT.LEVEL.addr x 0 0 := fun x hx he => by
    simp only [Fld.addr, F.MEMC_BKT.LEVEL] at he
    omega
  refine foldl_establishes (P := fun t => t.get F.MEMC_BKT.LEVEL b = s.get F.MEMC_BKT.LEVEL b - 1)
    (Q := fun t => t.get F.MEMC_BKT.LEVEL b = s.get F.MEMC_BKT.LEVEL b) (List.mem_range.mpr hb) List.nodup_range ?_ ?_ ?_ rfl
  · exact fun x _ hx t ht => (State.get_set_addr _ _ _ _ _ _ _ _ _ _ (hne x hx)).trans ht
  · intro t ht
    have hlt := State.get_lt s F.MEMC_BKT.LEVEL b 0 0
    rw [State.get_set_fits (by decide) (by rw [ht]; omega), ht]
  · exact fun x _ hx t ht => (State.get_set_addr _ _ _ _ _ _ _ _ _ _ (hne x hx)).trans ht

/-! ### The transfer engine (R559) -/

section
variable {s : State} {src dst : Nat}

/-- Beats that were all copied, from a source apart from the destination: what stands where afterwards. -/
theorem copyBeats_byte {len : Nat} (hapart : src + 64 * len ≤ dst ∨ dst + 64 * len ≤ src) (n i : Nat) (s : State) (hi : i + n ≤ len)
    (hall : (copyBeats src dst n i s).1 = 0) (x : Nat) : (copyBeats src dst n i s).2.byte x =
      if dst + 64 * i ≤ x ∧ x < dst + 64 * (i + n) then s.byte (src + (x - dst)) else s.byte x := by
  induction n generalizing i s with
  | zero => rw [if_neg (by omega)]; rfl
  | succ n ih =>
    unfold copyBeats at hall ⊢
    split at hall
    · rename_i hok
      rw [if_pos hok]
      dsimp only at hall ⊢
      set s' := (List.range 8).foldl (fun s j => cleanWord (dst + 64 * i + 8 * j) s) s with hs'
      have hclean : ∀ y, s'.byte y = s.byte y := fun y => State.byte_of_mem (foldl_mem _ (fun t j => cleanWord_mem _ t) _ s) y
      have hout : ∀ y, y < dst + 64 * i ∨ dst + 64 * i + 64 ≤ y →
          (s'.setBytes (dst + 64 * i) (s'.bytes (src + 64 * i) 64)).byte y = s.byte y := fun y hy =>
        (State.byte_setBytes _ _ _ _ (by rwa [State.length_bytes])).trans (hclean y)
      rw [ih (i + 1) _ (by omega) hall]
      by_cases hlater : dst + 64 * (i + 1) ≤ x ∧ x < dst + 64 * (i + 1 + n)
      · rw [if_pos hlater, if_pos (by omega), hout _ (by omega)]
      · rw [if_neg hlater]
        by_cases hnow : dst + 64 * i ≤ x ∧ x < dst + 64 * (i + (n + 1))
        · rw [if_pos hnow, State.byte_copied _ _ _ _ hnow.1 (by omega), hclean]
          congr 1
          omega
        · rw [if_neg hnow, hout _ (by omega)]
    · exact absurd hall (by simp)

theorem copyBeats_copied {len : Nat} (hapart : src + 64 * len ≤ dst ∨ dst + 64 * len ≤ src) (hall : (copyBeats src dst len 0 s).1 = 0) :
    (copyBeats src dst len 0 s).2.bytes dst (64 * len) = s.bytes src (64 * len) ∧
      BytesOnly dst (64 * len) s (copyBeats src dst len 0 s).2 := by
  have hbyte := copyBeats_byte hapart len 0 s (by omega) hall
  refine ⟨(State.bytes_eq_iff _ _ _ _ _).mpr fun j hj => ?_, fun b hb => ?_⟩
  · rw [hbyte, if_pos (by omega)]
    congr 1
    omega
  · rw [hbyte, if_neg (by omega)]

theorem execXferDone_of_copied {c : Fin 8} (hact : (s.xfer c.val).active = true)
    (hall : (copyBeats (s.get F.MEMC_XF_SRC.SRC c.val) (s.get F.MEMC_XF_DST.DST c.val) (s.get F.MEMC_XF_CTL.LEN c.val) 0 s).1 = 0) :
    execXferDone c s = .next (raise 35 (xferStop c 0 ((copyBeats (s.get F.MEMC_XF_SRC.SRC c.val) (s.get F.MEMC_XF_DST.DST c.val)
      (s.get F.MEMC_XF_CTL.LEN c.val) 0 s).2.set F.MEMC_XF_CTL.DONE 1 c.val))) := by
  rw [execXferDone, if_pos hact]
  exact congrArg _ (if_pos hall)

/-- ERR where beats are left over (R559). -/
def beatsEnded (c : Nat) (u : Nat × State) : State := if u.1 = 0 then u.2 else u.2.set F.MEMC_XF_CTL.ERR 1 c

theorem beatsEnded_mem (c : Nat) (u : Nat × State) : (beatsEnded c u).mem = u.2.mem := by
  unfold beatsEnded
  split
  · rfl
  · rfl

theorem execXferDrain_of_active {c : Fin 8} {started : Nat} (hact : (s.xfer c.val).active = true) :
    ∃ dropped, execXferDrain c started s = .next (raise 36 (xferStop c.val dropped (beatsEnded c.val (copyBeats
      (s.get F.MEMC_XF_SRC.SRC c.val) (s.get F.MEMC_XF_DST.DST c.val) (min started (s.get F.MEMC_XF_CTL.LEN c.val)) 0 s)))) := by
  rw [execXferDrain, if_pos hact]
  exact ⟨_, rfl⟩

/-- The count of dropped beats is kept beside what a channel that stops shows. -/
theorem xferStop_get {g : Fld} (hd : F.MEMC_XF_CTL.DROPPED.Apart g) (hs : F.MEMC_XF_CTL.SAT.Apart g) (c dropped : Nat) (s : State) :
    (xferStop c dropped s).get g c = ((s.set F.MEMC_XF_CTL.EN 0 c).set F.MEMC_XF_CTL.DRAINING 0 c).get g c := by
  unfold xferStop
  dsimp only
  split
  · exact State.get_of_regs (State.setXfer_regs _ _ _) _ _ _ _
  · exact (State.get_bump_apart hd hs _ _ _ _ _ _ _ _).trans (State.get_of_regs (State.setXfer_regs _ _ _) _ _ _ _)

theorem xferStop_en (c dropped : Nat) (s : State) : (xferStop c dropped s).get F.MEMC_XF_CTL.EN c = 0 := by
  rw [xferStop_get (by decide) (by decide), State.get_set_apart (by decide), State.get_set_zero _ _ _ _ _ (by decide) (by decide)]

theorem xferStop_draining (c dropped : Nat) (s : State) : (xferStop c dropped s).get F.MEMC_XF_CTL.DRAINING c = 0 := by
  rw [xferStop_get (by decide) (by decide), State.get_set_zero _ _ _ _ _ (by decide) (by decide)]

theorem xferStop_done (c dropped : Nat) (s : State) :
    (xferStop c dropped s).get F.MEMC_XF_CTL.DONE c = s.get F.MEMC_XF_CTL.DONE c := by
  rw [xferStop_get (by decide) (by decide), State.get_set_apart (by decide), State.get_set_apart (by decide)]

theorem xferStop_xfer (c : Fin 8) (dropped : Nat) (s : State) : (xferStop c dropped s).xfer c.val = {} := by
  have hfab : (xferStop c dropped s).fab = (s.setXfer c.val {}).fab := by
    unfold xferStop
    dsimp only
    split
    · rfl
    · exact fab_of_mask (K := { regs := true }) rfl (bump_mask rfl _ _ _ _ _ _ _)
  rw [State.xfer, hfab]
  exact SMap.get_put_self _ _ _ _

/-- An event reaches none of a channel's registers. -/
theorem raise_get_xf {n : Nat} (hn : n < 256) {f : Fld} (hf : f.base = 0x30040400 ∧ f.s1 = 16) (c : Fin 8) (s : State) :
    (raise n s).get f c.val = s.get f c.val := by
  have hc := c.isLt
  refine State.get_of_rd (raise_quiet _ _ _ hn ?_)
  simp only [Quiet, Fld.addr, hf.1, hf.2]
  omega

end

/-! ### Ash records (R550, R551) -/

theorem length_ashBytes (seq cfg : Nat) (dropped : Bool) (r : AshRec) : (ashBytes seq cfg dropped r).length = 256 := by
  simp only [ashBytes, List.length_append, length_toBytes, List.length_take, List.length_replicate]
  omega

/-- The oldest record stands in its slot, and the ring goes on (R550). -/
def ashWritten (r : AshRec) (rest : List AshRec) (s : State) : State :=
  let seq := s.get F.MEMC_ASH_SEQ.NEXT_SEQ
  let s := s.setBytes (0x70000000 + 256 * (seq % 128)) (ashBytes seq s.sys.cfgVersion s.fab.ashDropped r)
  let s := { s with fab := { s.fab with ashQ := rest, ashDropped := false } }
  (s.set F.MEMC_ASH_SEQ.NEXT_SEQ (seq + 1)).set F.MEMC_ASH.WAITING rest.length

theorem ashWritten_mem (r : AshRec) (rest : List AshRec) (s : State) : (ashWritten r rest s).mem =
    (s.setBytes (0x70000000 + 256 * (s.get F.MEMC_ASH_SEQ.NEXT_SEQ % 128))
      (ashBytes (s.get F.MEMC_ASH_SEQ.NEXT_SEQ) s.sys.cfgVersion s.fab.ashDropped r)).mem := by
  rw [ashWritten, State.set_mem, State.set_mem]

theorem ashWritten_seq (r : AshRec) (rest : List AshRec) (s : State) :
    (ashWritten r rest s).get F.MEMC_ASH_SEQ.NEXT_SEQ = (s.get F.MEMC_ASH_SEQ.NEXT_SEQ + 1) % 2 ^ 32 := by
  unfold ashWritten
  dsimp only
  rw [State.get_set_addr _ _ _ _ _ _ _ _ _ _ (by decide), State.get_set_self _ _ _ _ _ _ (by decide) (by decide)]
  rfl

/-- Settles O16: a scrub step by its word's poison and syndrome, a transfer by what `copyBeats` copies, a record by its 256 bytes. -/
theorem scrubberBucketsAndAsh : Obligations.ScrubberBucketsAndAsh := by
  intro s m u c started r rest i seq slot src dst len j
  refine ⟨?clean, ?lost, ?disable, ?leak, ?start, ?done, ?drain, ?ash⟩
  case clean =>
    intro hen hready
    have hrun : exec (.scrubWord u .clean) s = .next (scrubAdvanced u s) := by
      show execScrubWord u .clean s = _
      rw [execScrubWord, scrubStep_of_clean hen hready]
      rfl
    obtain ⟨hpoison, hptr⟩ := scrubAdvanced_fab u s
    refine ⟨_, hrun, ?_, hpoison, execScrubWord_mem u .clean s hrun,
      execScrubWord_mask rfl rfl rfl rfl rfl rfl rfl rfl rfl rfl u .clean s hrun⟩
    rw [hptr, SMap.get_put_self]
  case lost =>
    intro hen hready hj hk
    have hat : scrubAt s .mram = 0x70000000 + 8 * j := rfl
    obtain ⟨hram, hkind, hdom⟩ := mram_key (k := 0x70000000 + 8 * j) (by omega) (by omega)
    have hrun : exec (.scrubWord .mram .multi) s = .next (scrubFinding (0x70000000 + 8 * j) (scrubAdvanced .mram s)) := by
      show execScrubWord .mram .multi s = _
      rw [execScrubWord, scrubStep_of_multi (u := .mram) hen (by rw [hat, hdom]; exact hready) hk, hat]
      exact congrArg _ (if_neg (by rw [show scrubKey .mram _ = _ from hat, hkind]; decide))
    obtain ⟨hpoison, hfault⟩ := scrubFinding_of_other (scrubAdvanced .mram s) hram
    exact ⟨_, hrun, hpoison, hfault, execScrubWord_mem .mram .multi s hrun,
      execScrubWord_mask rfl rfl rfl rfl rfl rfl rfl rfl rfl rfl .mram .multi s hrun⟩
  case disable => exact fun hw => ⟨_, congrArg Host.Outcome.next (if_pos hw), rfl⟩
  case leak =>
    have hrun : exec .bucketLeak s = _ := rfl
    refine ⟨_, hrun, fun b hb => bucketLeak_level hb s, fun a ha => ?_, execBucketLeak_mask rfl _ hrun⟩
    exact foldl_keeps (·.rd a) _ _ (fun b _ t => set_quiet _ _ _ _ _ _ _ (ha _ List.mem_cons_self b 0 0)) s
  case start =>
    intro hw hidle
    have hrun : exec (.xferStart m c) s =
        .next (((s.set F.MEMC_XF_CTL.EN 1 c.val).setXfer c.val { active := true, beat := 0 }).answer .done) := by
      refine congrArg _ ((if_pos hw).trans (if_neg ?_))
      rw [hidle]
      decide
    exact ⟨_, hrun, State.get_set_one _ _ _ _ _ (by decide) (by decide), SMap.get_put_self _ _ _ _, rfl, State.regsOnly_set _ _ _ _ _ _,
      execXferStart_mask rfl rfl rfl _ _ _ hrun⟩
  case done =>
    intro hact hall hapart
    have hrun : exec (.xferDone c) s = _ := execXferDone_of_copied hact hall
    have hmem : (raise 35 (xferStop c.val 0 ((copyBeats src dst len 0 s).2.set F.MEMC_XF_CTL.DONE 1 c.val))).mem =
        (copyBeats src dst len 0 s).2.mem := by rw [raise_mem, xferStop_mem, State.set_mem]
    obtain ⟨hbytes, honly⟩ := copyBeats_copied hapart hall
    refine ⟨_, hrun, (State.bytes_of_mem hmem _ _).trans hbytes, fun b hb => (State.byte_of_mem hmem b).trans (honly b hb), ?_, ?_, ?_,
      execXferDone_mask rfl rfl rfl _ _ hrun⟩
    · rw [raise_get_xf (n := 35) (by decide) ⟨rfl, rfl⟩, xferStop_done, State.get_set_one _ _ _ _ _ (by decide) (by decide)]
    · rw [raise_get_xf (n := 35) (by decide) ⟨rfl, rfl⟩, xferStop_en]
    · rw [raise_xfer, xferStop_xfer]
  case drain =>
    intro hact
    obtain ⟨dropped, hrun⟩ := execXferDrain_of_active (started := started) hact
    set u := copyBeats src dst (min started len) 0 s
    refine ⟨_, hrun, ?_, ?_, ?_, ?_, execXferDrain_mask rfl rfl rfl _ _ _ hrun⟩
    · rw [raise_mem, xferStop_mem, beatsEnded_mem]
    · rw [raise_get_xf (n := 36) (by decide) ⟨rfl, rfl⟩, xferStop_draining]
    · rw [raise_get_xf (n := 36) (by decide) ⟨rfl, rfl⟩, xferStop_en]
    · rw [raise_xfer, xferStop_xfer]
  case ash =>
    intro hq
    have hrun : exec .ashRecordWritten s = .next (raise 37 (ashWritten r rest s)) := by
      show execAshRecordWritten s = _
      rw [execAshRecordWritten, hq]
      rfl
    obtain ⟨hbytes, honly⟩ := setBytes_written s slot (length_ashBytes seq s.sys.cfgVersion s.fab.ashDropped r)
    have hmem := (raise_mem 37 (ashWritten r rest s)).trans (ashWritten_mem r rest s)
    refine ⟨_, hrun, (State.bytes_of_mem hmem _ _).trans hbytes, fun b hb => (State.byte_of_mem hmem b).trans (honly b hb), ?_, ?_,
      execAshRecordWritten_mask rfl rfl rfl _ hrun⟩
    · rw [raise_fab]
      rfl
    · exact (State.get_of_rd (raise_quiet _ _ _ (by decide) (by decide))).trans (ashWritten_seq r rest s)

end Sys2Proof.Machine

/-! Ply's deliveries and claims, writes of the signal dictionary and timed DAQ channels (20_memory_events.md R533, R555 to R562): what each
leaves, and the obligation about them, O17. -/

namespace Sys2Proof.Machine
open Sys2Proof

section
variable {s : State}

/-! ### Deliveries (R533, R555) -/

/-- The pending bits of a pair after an event that goes there or not. -/
def pended (f : Fld) (n : Nat) (go : Bool) (s : State) : State := if go then s.setBit f (n % 32) true (n / 32) else s

theorem pended_rd {f : Fld} {n a : Nat} {go : Bool} (ha : a ≠ f.addr (n / 32) 0 0) (s : State) : (pended f n go s).rd a = s.rd a := by
  unfold pended
  split
  · exact State.rd_wr_ne _ _ _ _ ha
  · rfl

theorem pended_fab (f : Fld) (n : Nat) (go : Bool) (s : State) : (pended f n go s).fab = s.fab := by
  unfold pended
  split
  · rfl
  · rfl

theorem State.bit_of_rd {t : State} {f : Fld} {b i j k : Nat} (h : t.rd (f.addr i j k) = s.rd (f.addr i j k)) :
    t.bit f b i j k = s.bit f b i j k := by
  rw [State.bit, State.get_of_rd h, State.bit]

theorem pended_bit {f : Fld} (hf : f.hi < 32) (hw : 32 ≤ f.hi + 1 - f.lo) (n : Nat) (go : Bool) (s : State) :
    (pended f n go s).bit f (n % 32) (n / 32) = (go || s.bit f (n % 32) (n / 32)) := by
  unfold pended
  cases go with
  | true => exact State.bit_setBit_self _ _ _ _ _ _ _ (by omega) hf
  | false => rfl

/-- With no other destination an event sets the pairs' bits alone. -/
theorem plyDeliver_of_pairs {n : Fin 256} (hreel : s.getB F.EVR_ROUTE.TO_REEL n.val = false)
    (htrace : s.getB F.EVR_ROUTE.TO_TRACE n.val = false) (hdaq : s.getB F.EVR_ROUTE.TO_DAQ n.val = false) :
    plyDeliver n.val s = pended F.EVR_PEND_B.PEND n.val (s.getB F.EVR_ROUTE.TO_B n.val)
      (pended F.EVR_PEND_A.PEND n.val (s.getB F.EVR_ROUTE.TO_A n.val) s) := by
  have hn := n.isLt
  have hroute : ∀ {f p : Fld} {go : Bool} {u : State}, f.base = 0x30030000 ∧ f.s1 = 4 ∧ f.s2 = 0 ∧ f.s3 = 0 →
      0x30030400 ≤ p.base → (pended p n.val go u).getB f n.val = u.getB f n.val := fun ⟨hb, h1, h2, h3⟩ hp =>
    State.getB_of_rd (pended_rd (by simp only [Fld.addr, hb, h1, h2, h3]; omega) _)
  unfold plyDeliver
  extract_lets uA uB uR uT
  have hB : uB = pended F.EVR_PEND_B.PEND n.val (s.getB F.EVR_ROUTE.TO_B n.val) uA := by
    show pended F.EVR_PEND_B.PEND n.val (uA.getB F.EVR_ROUTE.TO_B n.val) uA = _
    rw [show uA.getB F.EVR_ROUTE.TO_B n.val = _ from hroute (go := s.getB F.EVR_ROUTE.TO_A n.val) (by decide) (by decide)]
  have hkeep : ∀ f : Fld, f.base = 0x30030000 ∧ f.s1 = 4 ∧ f.s2 = 0 ∧ f.s3 = 0 → uB.getB f n.val = s.getB f n.val := fun f hf => by
    rw [hB, hroute hf (by decide)]
    exact hroute (go := s.getB F.EVR_ROUTE.TO_A n.val) hf (by decide)
  have hR : uR = uB := if_neg (by rw [hkeep _ (by decide), hreel]; decide)
  have hT : uT = uB := (if_neg (by rw [hR, hkeep _ (by decide), htrace]; decide)).trans hR
  rw [if_neg (by rw [hT, hkeep _ (by decide), hdaq]; decide), hT, hB]
  rfl

theorem execEventDelivery_of_flight {n : Fin 256} (hon : s.pdOn 8 = true) (hf : (s.xing n.val).flight = true) :
    execEventDelivery n s = .next (plyDeliver n.val (s.setXing n.val { flight := (s.xing n.val).pend, pend := false })) := by
  rw [execEventDelivery, if_neg (by simp [hon, hf])]

/-! ### Claims (R556) -/

theorem claimNext_lt {p e : Nat} (h : claimNext s p = some e) : e < 256 := by
  have hmem : e ∈ claimNext s p := h
  unfold claimNext at hmem
  refine List.foldlRecOn (motive := fun b => ∀ x ∈ b, x < 256) _ _ (fun x hx => absurd hx (by simp)) (fun b hb n hn => ?_) e hmem
  have hn := List.mem_range.mp hn
  split
  · split
    · simpa using hn
    · split
      · simpa using hn
      · exact hb
  · exact hb

/-- A claim clears its event's pending bit; a command event's claim empties the pair's mailbox as well. -/
def claimed (p e : Nat) (s : State) : State :=
  let s := s.setBit (pendFld p) (e % 32) false (e / 32)
  if e = 200 + p then s.setReel { s.bus.reel with mbxN := SMap.put 0 s.bus.reel.mbxN p 0 } else s

theorem claimed_regs (p e : Nat) (s : State) : (claimed p e s).regs = (s.setBit (pendFld p) (e % 32) false (e / 32)).regs := by
  unfold claimed
  dsimp only
  split
  · rfl
  · rfl

theorem claimRead_of_none {p : Nat} (h : claimNext s p = none) : claimRead p s = s.answer (.data 0) := by
  rw [claimRead, h]

theorem claimRead_of_some {p e : Nat} (h : claimNext s p = some e) :
    claimRead p s = (claimed p e s).answer (.data (2 ^ 31 + (claimed p e s).get F.EVR_ROUTE.PRIO e * 256 + e)) := by
  rw [claimRead, h]
  rfl

theorem pendFld_cases (p : Fin 2) : pendFld p.val = F.EVR_PEND_A.PEND ∨ pendFld p.val = F.EVR_PEND_B.PEND := by
  unfold pendFld
  split
  · exact .inl rfl
  · exact .inr rfl

/-! ### Signals (R561, R562) -/

theorem sigBytes_cases (t : Nat) : sigBytes t = 1 ∨ sigBytes t = 2 ∨ sigBytes t = 4 := by
  unfold sigBytes
  split <;> simp

/-- Ranges of the map that shared SRAM is apart from. -/
theorem sram_apart {a : Nat} (h : inSram a = true) :
    inTcm a = false ∧ inRegs a = false ∧ inWhorl a = false ∧ inCoef a = false ∧ keyKind a = 0 := by
  have ha : 0x10000000 ≤ a ∧ a < 0x11000000 := of_decide_eq_true h
  have hwhl : inWhorl a = false := decide_eq_false (by omega)
  have hmram : inMram a = false := decide_eq_false (by omega)
  refine ⟨decide_eq_false (by omega), decide_eq_false (by omega), hwhl, by rw [inCoef, hwhl]; rfl, ?_⟩
  rw [keyKind, if_neg (by omega), hwhl, hmram]
  rfl

theorem sourceOk_sound {a : Nat} (h : sourceOk s a = true) (hram : inSram a = true) : s.poisoned a = false := by
  obtain ⟨-, hregs, -⟩ := sram_apart hram
  simp only [sourceOk, hregs, hram, Bool.true_or, if_true, Bool.false_eq_true, if_false, Bool.and_eq_true, Bool.not_eq_true'] at h
  exact h.2

/-- A permitted calibration write of an entry in shared SRAM (R561). -/
theorem sigWrite_of_sram {k : Nat} {v : Word} (hd : s.sigEntry k ≠ 0) (hcal : sigCal (s.sigEntry k) = true) (hallow : calAllowed s = true)
    (hsrc : sourceOk s (pageAddr s true (sigSrc (s.sigEntry k))) = true)
    (hram : inSram (pageAddr s true (sigSrc (s.sigEntry k))) = true) (htype : sigType (s.sigEntry k) ≠ 8) :
    sigWrite k v .clean s = memWrite (.pair 1) (pageAddr s true (sigSrc (s.sigEntry k))) (sigBytes (sigType (s.sigEntry k)))
      (v.toNat % 2 ^ (8 * sigBytes (sigType (s.sigEntry k)))) .clean s := by
  obtain ⟨-, -, -, hcoef, -⟩ := sram_apart hram
  rw [sigWrite, if_neg (by
    simp only [hcal, hallow, Bool.not_true, Bool.or_false, decide_eq_true_eq]
    exact hd)]
  dsimp only
  rw [if_neg (by simp [hsrc]), if_neg (by simp [hcoef]), if_pos hram, if_neg htype]

/-- A list with the sample it takes now. -/
def daqSampled (l : DaqList) (s : State) : DaqList :=
  { l with skip := 0, sample := some ⟨0, s.ts32, l.entries.map fun k => (sigValue s k).getD (Config.daqHole k)⟩ }

/-- The only list there is takes a sample when its turn has come (R562). -/
theorem daqTrigger_of_single {c : Nat} {l : DaqList} (hen : s.getB F.SIG_EVCH.EN c = true) (hl : s.xcp.lists = [l]) (hrun : l.running = true)
    (hch : l.evch = c) (hturn : l.prescaler ≤ l.skip + 1) (hfree : l.sample = none) :
    daqTrigger c s = { s with xcp := { s.xcp with lists := [daqSampled l s] } } := by
  have hget : s.xcp.lists[0]? = some l := by rw [hl]; rfl
  rw [daqTrigger, if_neg (by simp [hen]), hl]
  simp only [List.length_singleton, List.range_one, List.foldl_cons, List.foldl_nil, hget, hch, if_true]
  simp only [sampleList, hget, hrun, hfree, Bool.not_true, Bool.false_eq_true, if_false, Option.isSome_none]
  rw [if_neg (by omega), hl]
  simp only [daqSampled, hrun, List.set_cons_zero]

end

/-- Settles O17: a delivery by its event's route, a claim by what `claimNext` finds, a signal write as a memory write of its source, and a
timed channel by its one list. -/
theorem eventsAndSignals : Obligations.EventsAndSignals := by
  intro s m n p k v c l e d a w
  refine ⟨?deliver, ?claim, ?idle, ?write, ?timer⟩
  case deliver =>
    intro hon hf hreel htrace hdaq
    have hrun : exec (.eventDelivery n) s = _ := (execEventDelivery_of_flight hon hf).trans
      (congrArg Host.Outcome.next (plyDeliver_of_pairs hreel htrace hdaq))
    have hn := n.isLt
    have hab : F.EVR_PEND_A.PEND.addr (n.val / 32) 0 0 ≠ F.EVR_PEND_B.PEND.addr (n.val / 32) 0 0 := by
      simp [Fld.addr, F.EVR_PEND_A.PEND, F.EVR_PEND_B.PEND]
    refine ⟨_, hrun, ?_, ?_, ?_, fun b hb => ?_, execEventDelivery_mask rfl rfl rfl rfl _ _ hrun⟩
    · rw [State.xing, pended_fab, pended_fab]
      exact SMap.get_put_self _ _ _ _
    · rw [State.bit_of_rd (pended_rd hab _), pended_bit (by decide) (by decide)]
      rfl
    · rw [pended_bit (by decide) (by decide), State.bit_of_rd (pended_rd hab.symm _)]
      rfl
    · rw [pended_rd (fun he => hb (by simp [he])), pended_rd (fun he => hb (by simp [he]))]
      rfl
  case claim =>
    intro hr hready hclaim
    have he := claimNext_lt hclaim
    have hrun : exec (.eventClaim m p) s = _ := (congrArg Host.Outcome.next (if_pos (by simp [hr, hready]))).trans
      (congrArg Host.Outcome.next (claimRead_of_some hclaim))
    have hregs := claimed_regs p.val e s
    have hpend : (pendFld p.val).hi = 31 ∧ (pendFld p.val).lo = 0 ∧ ∀ i, 0x30030400 ≤ (pendFld p.val).addr i 0 0 := by
      rcases pendFld_cases p with h | h <;> rw [h]
      · exact ⟨rfl, rfl, fun i => by simp only [Fld.addr, F.EVR_PEND_A.PEND]; omega⟩
      · exact ⟨rfl, rfl, fun i => by simp only [Fld.addr, F.EVR_PEND_B.PEND]; omega⟩
    obtain ⟨hhi, hlo, haddr⟩ := hpend
    have hprio : (claimed p.val e s).get F.EVR_ROUTE.PRIO e = s.get F.EVR_ROUTE.PRIO e := by
      have := haddr (e / 32)
      rw [State.get_of_regs hregs, State.setBit, State.get_set_addr _ _ _ _ _ _ _ _ _ _ (by simp only [Fld.addr, F.EVR_ROUTE.PRIO] at *; omega)]
    refine ⟨_, hrun, ?_, ?_, fun b hb => ?_, execEventClaim_mask rfl rfl rfl _ _ _ hrun⟩
    · exact congrArg (fun x => BusResp.data (2 ^ 31 + x * 256 + e)) hprio
    · show State.bit (claimed p.val e s) _ _ _ = false
      rw [State.bit, State.get_of_regs hregs]
      exact State.bit_setBit_self _ _ _ _ _ _ _ (by rw [hhi, hlo]; omega) (by rw [hhi]; decide)
    · exact (State.rd_of_regs hregs b).trans (State.rd_wr_ne _ _ _ _ (fun he => hb (by simp [he])))
  case idle =>
    intro hr hready hclaim
    exact ⟨_, (congrArg Host.Outcome.next (if_pos (by simp [hr, hready]))).trans (congrArg Host.Outcome.next (claimRead_of_none hclaim)), rfl⟩
  case write =>
    intro hdict hready hd hcal hallow hsrc hram htype hok
    obtain ⟨htcm, -, -, -, hkind⟩ := sram_apart hram
    have hkey : memKey (.pair 1) a = a := if_neg (by simp [a, htcm])
    have hecc : w < eccBytes a := by
      rw [eccBytes, hkind]
      have := sigBytes_cases (sigType d)
      simp [w]
      omega
    have hmem := memWrite_of_clean (n := v.toNat % 2 ^ (8 * w)) hok (by rw [hkey]; exact hecc) (by rw [hkey]; exact sourceOk_sound hsrc hram)
    have hrun : exec (.signalWrite m k v .clean) s = .next ((s.store a w (v.toNat % 2 ^ (8 * w))).answer .done) := by
      rw [hkey] at hmem
      refine congrArg Host.Outcome.next ((if_pos (by simp [hdict, hready])).trans ?_)
      exact (sigWrite_of_sram hd hcal hallow hsrc hram htype).trans hmem
    obtain ⟨hbytes, honly⟩ := (stored_store a w (v.toNat % 2 ^ (8 * w)) s).answer .done
    exact ⟨_, hrun, hbytes, honly, rfl, execSignalWrite_mask rfl rfl rfl rfl rfl rfl rfl _ _ _ _ _ hrun⟩
  case timer =>
    intro hready hkind hen hl hrunning hch hturn hfree
    have hrun : exec (.daqTimerExpiry c) s = _ := (congrArg Host.Outcome.next (if_pos (by simp [hready, hkind]))).trans
      (congrArg Host.Outcome.next (daqTrigger_of_single hen hl hrunning hch hturn hfree))
    exact ⟨_, hrun, ⟨_, rfl, rfl, rfl, List.length_map _⟩, execDaqTimerExpiry_mask rfl rfl rfl _ _ hrun⟩

end Sys2Proof.Machine

/-! Reads of fields that a write leaves, and the bus controllers (16_bus.md R454 to R470): one lemma for each operation, and the
obligations about reception and transmission, O30 and O31. -/

namespace Sys2Proof.Machine
open Sys2Proof

/-! ### Fields that a write leaves -/

/-- Fields that a write of one of them leaves: other bits, or another register of the same row. -/
abbrev Fld.Clear (f g : Fld) : Prop := f.Apart g ∨ (f.s1 = g.s1 ∧ f.s2 = g.s2 ∧ f.s3 = g.s3 ∧ f.base ≠ g.base)

section
variable {f g satF : Fld} {i j k : Nat}

theorem State.get_set_clear (h : f.Clear g) (s : State) (v : Nat) : (s.set f v i j k).get g i j k = s.get g i j k := by
  obtain h | ⟨h1, h2, h3, hne⟩ := h
  · exact State.get_set_apart h _ _ _ _ _ _ _ _
  · refine State.get_set_addr _ _ _ _ _ _ _ _ _ _ ?_
    simp only [Fld.addr, h1, h2, h3]
    omega

theorem State.getB_set_clear (h : f.Clear g) (s : State) (v : Nat) : (s.set f v i j k).getB g i j k = s.getB g i j k := by
  rw [State.getB, State.get_set_clear h, State.getB]

theorem State.get_bump_clear (hf : f.Clear g) (hsat : satF.Clear g) (s : State) (n : Nat) :
    (s.bump f satF i j k n).get g i j k = s.get g i j k := by
  simp only [State.bump]
  split
  · rw [State.get_set_clear hsat, State.get_set_clear hf]
  · exact State.get_set_clear hf _ _

theorem State.get_bump_own (hf : f.hi < 32 ∧ f.lo ≤ f.hi) (hsat : satF.Clear f) (s : State) (n : Nat) :
    (s.bump f satF i j k n).get f i j k = min (s.get f i j k + n) f.maxVal := by
  have hfits : min (s.get f i j k + n) f.maxVal < 2 ^ (f.hi + 1 - f.lo) := by
    have hpos := Nat.two_pow_pos (f.hi + 1 - f.lo)
    simp only [Fld.maxVal]
    omega
  simp only [State.bump]
  split
  · rw [State.get_set_clear hsat, State.get_set_fits hf hfits]
  · exact State.get_set_fits hf hfits _ _ _ _

/-- Raising an event leaves every register above the fabric's. -/
theorem raise_get_high {n : Nat} (h : n < 256 ∧ 0x30100000 ≤ f.base) (s : State) : (raise n s).get f i j k = s.get f i j k := by
  refine State.get_of_rd (raise_quiet _ _ _ h.1 ?_)
  simp only [Quiet, Fld.addr]
  omega

end

theorem State.bump_bus (s : State) (f satF : Fld) (i j k n : Nat) : (s.bump f satF i j k n).bus = s.bus :=
  bus_of_mask (K := { regs := true }) rfl (bump_mask rfl s f satF i j k n)
theorem raise_bus (n : Nat) (s : State) : (raise n s).bus = s.bus := by rw [raise_eq]
theorem issue_bus (code cls : Nat) (s : State) : (issue code cls s).bus = s.bus :=
  bus_of_mask (K := { sys := true, kln := true }) rfl (issue_mask rfl rfl code cls s)

@[simp] theorem State.get_answer (s : State) (r : BusResp) (f : Fld) (i j k : Nat) : (s.answer r).get f i j k = s.get f i j k :=
  State.get_of_regs (State.answer_regs _ _) f i j k

theorem RegsOnly.of_regs {s t : State} {l : List Nat} (h : t.regs = s.regs) : RegsOnly l s t := fun a _ => State.rd_of_regs h a

theorem RegsOnly.trans {s t u : State} {l : List Nat} (h : RegsOnly l s t) (h' : RegsOnly l t u) : RegsOnly l s u :=
  fun a ha => (h' a ha).trans (h a ha)

theorem RegsOnly.set {s t : State} {l : List Nat} {f : Fld} {i j k : Nat} (h : RegsOnly l s t) (hf : f.addr i j k ∈ l) (v : Nat) :
    RegsOnly l s (t.set f v i j k) := fun a ha => (State.rd_wr_ne _ _ _ _ (ne_of_mem_of_not_mem hf ha).symm).trans (h a ha)

/-! ### A controller's state -/

section
variable {s : State} {n : Nat}

theorem State.can_of_bus {t : State} (h : t.bus = s.bus) (n : Nat) : t.can n = s.can n := by rw [State.can, h, State.can]

@[simp] theorem State.can_set (f : Fld) (v i j k : Nat) (s : State) (n : Nat) : (s.set f v i j k).can n = s.can n := State.can_of_bus (State.set_bus _ _ _ _ _ _) n
@[simp] theorem can_bumpCan (f : Fld) (n m : Nat) (s : State) : (bumpCan f n s).can m = s.can m := State.can_of_bus (State.bump_bus _ _ _ _ _ _ _) m
@[simp] theorem can_raise (k : Nat) (s : State) (n : Nat) : (raise k s).can n = s.can n := State.can_of_bus (raise_bus _ _) n
@[simp] theorem can_issue (code cls : Nat) (s : State) (n : Nat) : (issue code cls s).can n = s.can n := State.can_of_bus (issue_bus _ _ _) n
@[simp] theorem State.can_setCan (s : State) (n : Nat) (x : CanSt) : (s.setCan n x).can n = x := SMap.get_put_self _ _ _ _
@[simp] theorem State.get_setCan (s : State) (m : Nat) (x : CanSt) (f : Fld) (i j k : Nat) : (s.setCan m x).get f i j k = s.get f i j k :=
  State.get_of_regs (State.setCan_regs _ _ _) f i j k
@[simp] theorem State.getB_setCan (s : State) (m : Nat) (x : CanSt) (f : Fld) (i j k : Nat) : (s.setCan m x).getB f i j k = s.getB f i j k := by
  rw [State.getB, State.get_setCan, State.getB]

theorem bumpCan_own {f : Fld} (hf : f.hi < 32 ∧ f.lo ≤ f.hi) (hsat : F.CAN_STAT.SAT.Clear f) (n : Nat) (s : State) :
    (bumpCan f n s).get f n = min (s.get f n + 1) f.maxVal := State.get_bump_own hf hsat s 1

theorem bumpCan_clear {f g : Fld} (hf : f.Clear g) (hsat : F.CAN_STAT.SAT.Clear g) (n : Nat) (s : State) :
    (bumpCan f n s).get g n = s.get g n := State.get_bump_clear hf hsat s 1

/-- What the end of a drain leaves (R470). -/
theorem canStop_stopped (n : Nat) (s : State) : canState (canStop n s) n = (if (s.can n).enAfter then 1 else 0) ∧
    (canStop n s).get F.CAN_CTL.DRAINING n = 0 ∧ (canStop n s).get F.CAN_STAT.TX_BUSY n = 0 ∧
    (canStop n s).can n = { s.can n with arb := false, late := false, local_ := none, enAfter := false } := by
  simp only [canStop, canState, setCanState]
  refine ⟨?_, ?_, ?_, by simp⟩
  · rw [raise_get_high (by decide), State.get_set_fits (by decide) (by split <;> decide), State.can_set, State.can_set]
  · rw [raise_get_high (by decide), State.get_set_clear (by decide), State.get_setCan, State.get_set_clear (by decide),
      State.get_set_zero _ _ _ _ _ (by decide) (by decide)]
  · rw [raise_get_high (by decide), State.get_set_clear (by decide), State.get_setCan,
      State.get_set_zero _ _ _ _ _ (by decide) (by decide)]

theorem frameBoundary_of_idle (h : s.getB F.CAN_CTL.DRAINING n = false) : frameBoundary n s = s := if_neg (by simp [h])

theorem frameBoundary_of_draining (h : s.getB F.CAN_CTL.DRAINING n = true) : frameBoundary n s = canStop n s := if_pos h

/-! ### Fault confinement (R469) -/

/-- The two counters as they are shown. -/
def counted (n tec rec_ : Nat) (s : State) : State := (s.set F.CAN_STAT.TEC (min tec 255) n).set F.CAN_STAT.REC (min rec_ 255) n

theorem counted_get (n tec rec_ : Nat) (s : State) : (counted n tec rec_ s).get F.CAN_STAT.TEC n = min tec 255 ∧
    (counted n tec rec_ s).get F.CAN_STAT.REC n = min rec_ 255 ∧ canState (counted n tec rec_ s) n = canState s n := by
  have hle : ∀ x, min x 255 < 2 ^ 8 := fun x => by omega
  simp only [counted, canState]
  refine ⟨?_, ?_, ?_⟩
  · rw [State.get_set_clear (by decide), State.get_set_fits (by decide) (hle _)]
  · rw [State.get_set_fits (by decide) (hle _)]
  · rw [State.get_set_clear (by decide), State.get_set_clear (by decide)]

/-- With a transmit count below 256 the counters decide between the two active states. -/
theorem confine_of_below {tec rec_ : Nat} (hon : canState s n = 2 ∨ canState s n = 3) (hlt : tec < 256) : confine n tec rec_ s =
    if 128 ≤ tec ∨ 128 ≤ rec_ then (if canState s n = 2 then raise 195 (setCanState n 3 (counted n tec rec_ s)) else counted n tec rec_ s)
    else setCanState n 2 (counted n tec rec_ s) := by
  have hact : (!(canState s n == 2 || canState s n == 3)) = false := by
    rcases hon with h | h <;> simp [h]
  unfold confine
  dsimp only
  rw [if_neg (by simp [hact]), if_neg (by omega)]
  rfl

theorem confine_confined {tec rec_ : Nat} (hon : canState s n = 2 ∨ canState s n = 3) (hlt : tec < 256) :
    (confine n tec rec_ s).get F.CAN_STAT.TEC n = min tec 255 ∧ (confine n tec rec_ s).get F.CAN_STAT.REC n = min rec_ 255 ∧
      canState (confine n tec rec_ s) n = (if 128 ≤ tec ∨ 128 ≤ rec_ then 3 else 2) := by
  obtain ⟨htec, hrec, hst⟩ := counted_get n tec rec_ s
  simp only [canState] at hst
  rw [confine_of_below hon hlt]
  by_cases hcnt : 128 ≤ tec ∨ 128 ≤ rec_
  · rw [if_pos hcnt, if_pos hcnt]
    split
    case isTrue h2 =>
      simp only [canState, setCanState, raise_get_high (n := 195) (f := F.CAN_STAT.TEC) (by decide),
        raise_get_high (n := 195) (f := F.CAN_STAT.REC) (by decide), raise_get_high (n := 195) (f := F.CAN_STAT.STATE) (by decide)]
      exact ⟨(State.get_set_clear (by decide) _ _).trans htec, (State.get_set_clear (by decide) _ _).trans hrec,
        State.get_set_fits (by decide) (by decide) _ _ _ _⟩
    case isFalse h2 => exact ⟨htec, hrec, hst.trans (hon.resolve_left h2)⟩
  · rw [if_neg hcnt, if_neg hcnt]
    exact ⟨(State.get_set_clear (by decide) _ _).trans htec, (State.get_set_clear (by decide) _ _).trans hrec,
      State.get_set_fits (by decide) (by decide) _ _ _ _⟩

/-- Below 256 the counters change CAN_STAT alone. -/
theorem confine_keeps {tec rec_ : Nat} {f : Fld} (hon : canState s n = 2 ∨ canState s n = 3) (hlt : tec < 256)
    (hf : F.CAN_STAT.STATE.Clear f ∧ F.CAN_STAT.TEC.Clear f ∧ F.CAN_STAT.REC.Clear f ∧ 0x30100000 ≤ f.base) :
    (confine n tec rec_ s).get f n = s.get f n := by
  obtain ⟨hstate, htec, hrec, hbase⟩ := hf
  have hcounted : (counted n tec rec_ s).get f n = s.get f n := by
    rw [counted, State.get_set_clear hrec, State.get_set_clear htec]
  rw [confine_of_below hon hlt]
  split
  · split
    · rw [raise_get_high ⟨by decide, hbase⟩, setCanState, State.get_set_clear hstate, hcounted]
    · exact hcounted
  · rw [setCanState, State.get_set_clear hstate, hcounted]

theorem confine_parts {tec rec_ : Nat} (hon : canState s n = 2 ∨ canState s n = 3) (hlt : tec < 256) :
    (confine n tec rec_ s).bus = s.bus ∧ (confine n tec rec_ s).sys = s.sys ∧ (confine n tec rec_ s).mem = s.mem ∧
      (confine n tec rec_ s).fab.ts = s.fab.ts := by
  rw [confine_of_below hon hlt]
  split
  · split
    · exact ⟨raise_bus _ _, raise_sys _ _, raise_mem _ _, raise_ts _ _⟩
    · exact ⟨rfl, rfl, rfl, rfl⟩
  · exact ⟨rfl, rfl, rfl, rfl⟩

/-- A transmit count of 256 takes the controller off the bus; its queue is kept. -/
theorem confine_busOff {tec rec_ : Nat} (hon : canState s n = 2 ∨ canState s n = 3) (hge : 256 ≤ tec) :
    confine n tec rec_ s = busOff n (counted n tec rec_ s) := by
  have hact : (!(canState s n == 2 || canState s n == 3)) = false := by
    rcases hon with h | h <;> simp [h]
  unfold confine
  dsimp only
  rw [if_neg (by simp [hact]), if_pos (by omega)]
  rfl

theorem state_of_active (h : canActive s n = true) : canState s n = 2 ∨ canState s n = 3 := by
  simp only [canActive, Bool.and_eq_true, Bool.or_eq_true, beq_iff_eq] at h
  exact h.2

theorem tec_lt (s : State) (n : Nat) : tec s n < 256 := State.get_lt s F.CAN_STAT.TEC n 0 0

end

/-! ### The receive ring (R459, R460) -/

section
variable {s : State} {n : Nat}

theorem place_regs (key : Nat) (data : List Byte) (s : State) : (place key data s).regs = s.regs :=
  regs_of_mask (K := { mem := true, fab := true }) rfl (place_mask rfl rfl key data s)

/-- A run of bytes split in two. -/
theorem State.bytes_split (s : State) (a m n : Nat) : s.bytes a (m + n) = s.bytes a m ++ s.bytes (a + m) n := by
  induction m generalizing a with
  | zero => simp [State.bytes]
  | succ m ih =>
    rw [show m + 1 + n = (m + n) + 1 by omega, State.bytes, State.bytes, ih, List.cons_append, show a + (m + 1) = a + 1 + m by omega]

/-- What stands where a run of bytes was placed: its first part, and the second behind it. -/
theorem place_bytes (a : Nat) (l₁ l₂ l₃ : List Byte) (s : State) : (place a (l₁ ++ l₂ ++ l₃) s).bytes a l₁.length = l₁ ∧
    (place a (l₁ ++ l₂ ++ l₃) s).bytes (a + l₁.length) l₂.length = l₂ ∧
    BytesOnly a (l₁.length + l₂.length + l₃.length) s (place a (l₁ ++ l₂ ++ l₃) s) := by
  obtain ⟨hall, honly⟩ := setBytes_written
    { s with fab := { s.fab with poison := s.fab.poison.filter fun k => !(decide (a ≤ k) && decide (k < a + (l₁ ++ l₂ ++ l₃).length)) } } a
    (l := l₁ ++ l₂ ++ l₃) (n := l₁.length + l₂.length + l₃.length) (by simp [Nat.add_assoc])
  rw [State.bytes_split, State.bytes_split] at hall
  obtain ⟨h12, -⟩ := List.append_inj hall (by simp [State.length_bytes])
  obtain ⟨h1, h2⟩ := List.append_inj h12 (by simp [State.length_bytes])
  exact ⟨h1, h2, honly⟩

theorem length_ringHeader (ts type id w1 len sdt vcid af w14 : Nat) : (ringHeader ts type id w1 len sdt vcid af w14).length = 24 := by
  simp [ringHeader, length_toBytes]

theorem ringSize_le (s : State) (n : Nat) : ringSize s n ≤ 2 ^ 20 := Nat.pow_le_pow_right (by decide) (by omega)
theorem ringSize_pos (s : State) (n : Nat) : 0 < ringSize s n := Nat.two_pow_pos _

variable {hdr payload : List Byte}

/-- A record that fits before the ring's end and has room (R459). -/
theorem ringWrite_of_room (hfit : s.get F.CAN_RX_WR.WR n % ringSize s n + (24 + pad8 payload.length) ≤ ringSize s n)
    (hroom : ringUsed s n + (24 + pad8 payload.length) + 8 < ringSize s n) : ringWrite n hdr payload s =
      (place (ringBase s n + s.get F.CAN_RX_WR.WR n % ringSize s n)
        (hdr ++ payload ++ List.replicate (24 + pad8 payload.length - 24 - payload.length) 0) s).set F.CAN_RX_WR.WR
          ((s.get F.CAN_RX_WR.WR n % ringSize s n + (24 + pad8 payload.length)) % ringSize s n) n := by
  have hpad : (if ringSize s n - s.get F.CAN_RX_WR.WR n % ringSize s n < 24 + pad8 payload.length then
      ringSize s n - s.get F.CAN_RX_WR.WR n % ringSize s n else 0) = 0 := if_neg (by omega)
  unfold ringWrite
  dsimp only
  rw [hpad, if_neg (by omega)]
  simp only [if_true]

/-- The first record dropped for want of room (R460). -/
theorem ringWrite_of_full (hfull : ringSize s n ≤ ringUsed s n + (24 + pad8 payload.length) + 8) (hdrop : (s.can n).dropAt = none) :
    ringWrite n hdr payload s = issue 0x1001 0 ((raise 192 (bumpCan F.CAN_CNT.RX_DROP n s)).setCan n { s.can n with dropAt := some s.fab.ts }) := by
  have hcan : (raise 192 (bumpCan F.CAN_CNT.RX_DROP n s)).can n = s.can n := by simp
  have hts : (raise 192 (bumpCan F.CAN_CNT.RX_DROP n s)).fab.ts = s.fab.ts := by
    rw [raise_ts, bumpCan, fab_of_mask (K := { regs := true }) rfl (bump_mask rfl s _ _ _ _ _ _)]
  unfold ringWrite
  dsimp only
  rw [if_pos (by omega)]
  simp only [hcan, hts, hdrop]

end

/-! ### A frame received (R458 to R460) -/

section
variable {s : State} {n : Nat} {f : RxFrame}

/-- Header of a received frame's record. -/
def frameHeader (f : RxFrame) (ts : Nat) : List Byte :=
  ringHeader ts f.type.val f.id.toNat ((if f.ide then 8 else 0) + (if f.brs then 4 else 0) + (if f.esi then 2 else 0)) f.payload.length
    (if f.type.val = 3 then f.sdt.toNat else 0) (if f.type.val = 3 then f.vcid.toNat else 0) (if f.type.val = 3 then f.af.toNat else 0)
    (if f.sec then 1 else 0)

theorem length_frameHeader (f : RxFrame) (ts : Nat) : (frameHeader f ts).length = 24 := length_ringHeader _ _ _ _ _ _ _ _ _

theorem goodReceive_confine (n : Nat) (s : State) : ∃ r, goodReceive n s = confine n (tec s n) r s ∧ (recCnt s n < 128 → r = recCnt s n - 1) :=
  ⟨_, rfl, fun h => if_neg (by omega)⟩

/-- What a good reception leaves for the ring's write. -/
theorem goodReceive_keeps (hact : canActive s n = true) {g : Fld}
    (hg : F.CAN_STAT.STATE.Clear g ∧ F.CAN_STAT.TEC.Clear g ∧ F.CAN_STAT.REC.Clear g ∧ 0x30100000 ≤ g.base) :
    (goodReceive n s).get g n = s.get g n := by
  obtain ⟨r, hgood, -⟩ := goodReceive_confine n s
  rw [hgood]
  exact confine_keeps (state_of_active hact) (tec_lt s n) hg

theorem goodReceive_parts (hact : canActive s n = true) : (goodReceive n s).bus = s.bus ∧ (goodReceive n s).sys = s.sys ∧
    (goodReceive n s).mem = s.mem ∧ (goodReceive n s).fab.ts = s.fab.ts := by
  obtain ⟨r, hgood, -⟩ := goodReceive_confine n s
  rw [hgood]
  exact confine_parts (state_of_active hact) (tec_lt s n)

theorem goodReceive_ring (hact : canActive s n = true) : ringSize (goodReceive n s) n = ringSize s n ∧
    ringBase (goodReceive n s) n = ringBase s n ∧ ringUsed (goodReceive n s) n = ringUsed s n := by
  simp only [ringUsed, ringSize, ringBase, goodReceive_keeps hact (g := F.CAN_RX_CFG.SIZE_LOG2) (by decide),
    goodReceive_keeps hact (g := F.CAN_RX_CFG.BASE) (by decide), goodReceive_keeps hact (g := F.CAN_RX_WR.WR) (by decide),
    goodReceive_keeps hact (g := F.CAN_RX_RD.RD) (by decide), and_self]

theorem execFrameReceived_of_active {n : Fin 4} (hact : canActive s n.val = true) : exec (.frameReceived n f) s =
    .next (frameBoundary n.val (ringWrite n.val (frameHeader f s.fab.ts) f.payload (goodReceive n.val s))) := by
  show execFrameReceived n f s = _
  rw [execFrameReceived, if_neg (by simp [hact]), ← (goodReceive_parts hact).2.2.2]
  rfl

end

/-! ### Reception, fault confinement and enabling (O30) -/

section
variable {s : State} {n : Fin 4} {f : RxFrame}

theorem State.getB_of_get {s t : State} {f : Fld} {i j k : Nat} (h : t.get f i j k = s.get f i j k) : t.getB f i j k = s.getB f i j k := by
  rw [State.getB, h, State.getB]

/-- A frame that finds room in the ring. -/
theorem frameReceived_of_room (hact : canActive s n.val = true) (hidle : s.getB F.CAN_CTL.DRAINING n.val = false)
    (hfit : s.get F.CAN_RX_WR.WR n.val % ringSize s n.val + (24 + pad8 f.payload.length) ≤ ringSize s n.val)
    (hroom : ringUsed s n.val + (24 + pad8 f.payload.length) + 8 < ringSize s n.val) : exec (.frameReceived n f) s =
      .next ((place (ringBase s n.val + s.get F.CAN_RX_WR.WR n.val % ringSize s n.val) (frameHeader f s.fab.ts ++ f.payload ++
        List.replicate (24 + pad8 f.payload.length - 24 - f.payload.length) 0) (goodReceive n.val s)).set F.CAN_RX_WR.WR
          ((s.get F.CAN_RX_WR.WR n.val % ringSize s n.val + (24 + pad8 f.payload.length)) % ringSize s n.val) n.val) := by
  obtain ⟨hsize, hbase, hused⟩ := goodReceive_ring hact
  have hwr := goodReceive_keeps hact (g := F.CAN_RX_WR.WR) (by decide)
  rw [execFrameReceived_of_active hact, ringWrite_of_room (by rwa [hsize, hwr]) (by rwa [hsize, hused]), hsize, hbase, hwr, frameBoundary_of_idle]
  rw [State.getB_set_clear (by decide), State.getB_of_get ((State.get_of_regs (place_regs _ _ _) _ _ _ _).trans (goodReceive_keeps hact (by decide))),
    hidle]

/-- A frame for which the ring has no room. -/
theorem frameReceived_of_full (hact : canActive s n.val = true) (hidle : s.getB F.CAN_CTL.DRAINING n.val = false)
    (hfull : ringSize s n.val ≤ ringUsed s n.val + (24 + pad8 f.payload.length) + 8) (hdrop : (s.can n.val).dropAt = none) :
    exec (.frameReceived n f) s = .next (issue 0x1001 0 ((raise 192 (bumpCan F.CAN_CNT.RX_DROP n.val (goodReceive n.val s))).setCan n.val
      { s.can n.val with dropAt := some s.fab.ts })) := by
  obtain ⟨hsize, hbase, hused⟩ := goodReceive_ring hact
  obtain ⟨hbus, -, -, hts⟩ := goodReceive_parts hact
  have hcan := State.can_of_bus hbus n.val
  rw [execFrameReceived_of_active hact, ringWrite_of_full (by rwa [hsize, hused]) (by rw [hcan, hdrop]), hcan, hts, frameBoundary_of_idle]
  rw [State.getB_of_get (issue_get _ _ _ _ _ _ _), State.getB_setCan, State.getB_of_get (raise_get_high (by decide) _),
    State.getB_of_get (bumpCan_clear (by decide) (by decide) _ _), State.getB_of_get (goodReceive_keeps hact (by decide)), hidle]

/-- What a write of EN = 0 leaves of a controller that is on (R470). -/
theorem canDisable_of_running {n : Nat} (hen : s.getB F.CAN_CTL.EN n = true) (hon : canState s n = 1 ∨ canState s n = 2 ∨ canState s n = 3) :
    canDisable n s = ((s.set F.CAN_CTL.EN 0 n).setCan n { s.can n with enAfter := false }).set F.CAN_CTL.DRAINING 1 n := by
  have hst : canState ((s.set F.CAN_CTL.EN 0 n).setCan n { s.can n with enAfter := false }) n = canState s n := by
    rw [canState, State.get_setCan, State.get_set_clear (by decide), canState]
  unfold canDisable
  rw [if_neg (by simp [hen])]
  dsimp only
  rw [State.can_set, hst]
  rcases hon with h | h | h <;> simp only [h]

theorem canDisable_of_off {n : Nat} (hen : s.getB F.CAN_CTL.EN n = true) (hoff : canState s n = 4 ∨ canState s n = 5 ∨ canState s n = 6) :
    canDisable n s = canStop n ((s.set F.CAN_CTL.EN 0 n).setCan n { s.can n with enAfter := false }) := by
  have hst : canState ((s.set F.CAN_CTL.EN 0 n).setCan n { s.can n with enAfter := false }) n = canState s n := by
    rw [canState, State.get_setCan, State.get_set_clear (by decide), canState]
  unfold canDisable
  rw [if_neg (by simp [hen])]
  dsimp only
  rw [State.can_set, hst]
  rcases hoff with h | h | h <;> simp only [h]

theorem inTest_setEn (n : Nat) (s : State) : inTest (s.set F.CAN_CTL.EN 1 n) n = inTest s n := by
  rw [inTest, State.bit, State.get_set_addr _ _ _ _ _ _ _ _ _ _ (by simp only [Fld.addr, F.DBG_OLT_CAN.IN_TEST, F.CAN_CTL.EN]; omega)]
  rfl

theorem canStop_get {g : Fld} {n : Nat} (hg : F.CAN_STAT.STATE.Clear g ∧ F.CAN_STAT.TX_BUSY.Clear g ∧ F.CAN_CTL.DRAINING.Clear g ∧ 0x30100000 ≤ g.base)
    (s : State) : (canStop n s).get g n = s.get g n := by
  obtain ⟨hstate, hbusy, hdrain, hbase⟩ := hg
  simp only [canStop, setCanState]
  rw [raise_get_high ⟨by decide, hbase⟩, State.get_set_clear hstate, State.get_setCan, State.get_set_clear hbusy, State.get_set_clear hdrain]

theorem setQueue_queue (n : Nat) (q : List TxEntry) (s : State) : (setQueue n q s).can n = { s.can n with queue := q } ∧
    (setQueue n q s).get F.CAN_TXQ_STAT.LEVEL n = q.length % 256 ∧ RegsOnly [F.CAN_TXQ_STAT.LEVEL.addr n 0 0] s (setQueue n q s) := by
  simp only [setQueue]
  refine ⟨?_, State.get_set_self _ _ _ _ _ _ (by decide) (by decide), ?_⟩
  · rw [State.can_set, State.can_setCan]
  · exact (RegsOnly.of_regs (State.setCan_regs _ _ _)).set List.mem_cons_self _

/-- What a flush leaves in the queue, and in LEVEL. -/
theorem canFlush_queue (n : Nat) (s : State) : ((canFlush n s).can n).queue = (if (s.can n).arb then (s.can n).queue.take 1 else []) ∧
    (canFlush n s).get F.CAN_TXQ_STAT.LEVEL n = ((canFlush n s).can n).queue.length ∧
    RegsOnly [F.CAN_TXQ_STAT.LEVEL.addr n 0 0] s (canFlush n s) := by
  unfold canFlush
  split
  · obtain ⟨hcan, hlevel, hregs⟩ := setQueue_queue n ((s.can n).queue.take 1) s
    rw [hcan, hlevel, List.length_take]
    exact ⟨rfl, Nat.mod_eq_of_lt (by omega), hregs⟩
  · obtain ⟨hcan, hlevel, hregs⟩ := setQueue_queue n [] ((s.setCan n { s.can n with local_ := none }).set F.CAN_TXQ_STAT.HEAD_RETRY 0 n)
    have haddr : F.CAN_TXQ_STAT.HEAD_RETRY.addr n 0 0 ∈ [F.CAN_TXQ_STAT.LEVEL.addr n 0 0] := List.mem_singleton.mpr rfl
    have hreg : RegsOnly [F.CAN_TXQ_STAT.LEVEL.addr n 0 0] s (s.setCan n { s.can n with local_ := none }) :=
      RegsOnly.of_regs (State.setCan_regs _ _ _)
    rw [hcan, hlevel]
    exact ⟨rfl, rfl, (hreg.set (f := F.CAN_TXQ_STAT.HEAD_RETRY) haddr 0).trans hregs⟩

/-- A write of EN = 1 to a controller that is off. -/
theorem canEnable_of_off {n : Nat} (hen : s.getB F.CAN_CTL.EN n = false) (htest : inTest s n = false)
    (hidle : s.getB F.CAN_CTL.DRAINING n = false) (hoff : canState s n = 0) : canEnable n s = setCanState n 1 (s.set F.CAN_CTL.EN 1 n) := by
  have htest' : inTest (s.set F.CAN_CTL.EN 1 n) n = false := (inTest_setEn n s).trans htest
  have hidle' : (s.set F.CAN_CTL.EN 1 n).getB F.CAN_CTL.DRAINING n = false := by rw [State.getB_set_clear (by decide), hidle]
  have hoff' : canState (s.set F.CAN_CTL.EN 1 n) n = 0 := by rw [canState, State.get_set_clear (by decide)]; exact hoff
  unfold canEnable
  rw [if_neg (by simp [hen])]
  dsimp only
  rw [if_neg (by simp [htest']), if_neg (by simp [hidle']), if_pos hoff']

theorem canEnable_of_test {n : Nat} (hen : s.getB F.CAN_CTL.EN n = false) (htest : inTest s n = true) :
    canEnable n s = (s.set F.CAN_CTL.EN 1 n).setCan n { s.can n with enAfter := true } := by
  unfold canEnable
  rw [if_neg (by simp [hen])]
  dsimp only
  rw [if_pos ((inTest_setEn n s).trans htest), State.can_set]

end

/-- Settles O30: each operation of a controller through its own lemma; a received frame goes through confinement, which leaves the ring's
registers alone, and then through the ring's write. -/
theorem busControllers : Obligations.BusControllers := by
  unfold Obligations.BusControllers
  intro s n f m dom b size wr at_ len hdr confined stopped
  refine ⟨?room, ?full, ?error, ?exception, ?exceptionDrained, ?integrated, ?holdEnd, ?recovered, ?disable, ?disableOff, ?enable, ?enableInTest,
    ?flush, ?flushRefused, ?drainTimeout⟩
  case room =>
    intro hact hidle hfit hroom
    have hrun := frameReceived_of_room (f := f) hact hidle hfit hroom
    obtain ⟨hh, hp, honly⟩ := place_bytes at_ (frameHeader f s.fab.ts) f.payload
      (List.replicate (24 + pad8 f.payload.length - 24 - f.payload.length) 0) (goodReceive n.val s)
    rw [length_frameHeader] at hh hp honly
    have hpad : f.payload.length ≤ pad8 f.payload.length := by rw [pad8]; omega
    have hmem := (goodReceive_parts hact).2.2.1
    refine ⟨_, hrun, (State.bytes_of_mem (State.set_mem _ _ _ _ _ _) _ _).trans hh, (State.bytes_of_mem (State.set_mem _ _ _ _ _ _) _ _).trans hp,
      fun a ha => (State.byte_of_mem (State.set_mem _ _ _ _ _ _) a).trans ?_, ?_, ?_, fun hlow => ?_, execFrameReceived_mask rfl rfl rfl rfl rfl rfl _ _ _ hrun⟩
    · exact (honly a (by simp only [List.length_replicate]; omega)).trans (State.byte_of_mem hmem a)
    · exact State.get_set_fits (by decide) (Nat.lt_of_lt_of_le (Nat.mod_lt _ (ringSize_pos _ _)) (ringSize_le _ _)) _ _ _ _
    · rw [State.get_set_clear (by decide), State.get_of_regs (place_regs _ _ _), goodReceive_keeps hact (by decide)]
    · obtain ⟨r, hgood, hr⟩ := goodReceive_confine n.val s
      obtain ⟨htec, hrec, hst⟩ := confine_confined (rec_ := r) (state_of_active hact) (tec_lt s n.val)
      rw [← hgood] at htec hrec hst
      rw [hr hlow] at hrec hst
      refine ⟨?_, ?_, ?_⟩
      · rw [State.get_set_clear (by decide), State.get_of_regs (place_regs _ _ _), htec]
      · rw [State.get_set_clear (by decide), State.get_of_regs (place_regs _ _ _), hrec]
      · rw [canState, State.get_set_clear (by decide), State.get_of_regs (place_regs _ _ _)]
        exact hst
  case full =>
    intro hact hidle hfull hdrop
    have hrun := frameReceived_of_full (f := f) hact hidle hfull hdrop
    refine ⟨_, hrun, ?_, ?_, ?_, issue_lastFault _ _ _, ?_, execFrameReceived_mask rfl rfl rfl rfl rfl rfl _ _ _ hrun⟩
    · rw [issue_mem, State.setCan_mem, raise_mem, bumpCan_mem, (goodReceive_parts hact).2.2.1]
    · rw [issue_get, State.get_setCan, raise_get_high (by decide), bumpCan_clear (by decide) (by decide), goodReceive_keeps hact (by decide)]
    · rw [issue_get, State.get_setCan, raise_get_high (by decide), bumpCan_own (by decide) (by decide), goodReceive_keeps hact (by decide)]
      rfl
    · rw [can_issue, State.can_setCan]
  case error =>
    intro hact
    have hrun : exec (.receiveError n dom) s = .next (confine n.val (tec s n.val) (recCnt s n.val + if dom then 8 else 1) s) :=
      congrArg Host.Outcome.next (if_pos hact)
    exact ⟨_, hrun, confine_confined (state_of_active hact) (tec_lt s n.val), execReceiveError_mask rfl rfl rfl rfl rfl _ _ _ hrun⟩
  case exception =>
    intro hact hidle
    refine ⟨_, congrArg Host.Outcome.next (if_pos hact), frameBoundary_of_idle ?_⟩
    rw [setCanState, State.getB_set_clear (by decide), hidle]
  case exceptionDrained =>
    intro hact hdrain
    have hrun : exec (.protocolException n) s = .next (frameBoundary n.val (setCanState n.val 1 s)) := congrArg Host.Outcome.next (if_pos hact)
    rw [frameBoundary_of_draining (by rw [setCanState, State.getB_set_clear (by decide), hdrain])] at hrun
    exact ⟨_, hrun, canStop_stopped n.val (setCanState n.val 1 s), execProtocolException_mask rfl rfl rfl _ _ hrun⟩
  case integrated =>
    intro hready hst hidle
    have hon : canState (setCanState n.val 2 s) n.val = 2 := State.get_set_fits (by decide) (by decide) _ _ _ _
    have hrun : exec (.busIntegrationDone n) s = .next (confine n.val (tec s n.val) (recCnt s n.val) (setCanState n.val 2 s)) :=
      congrArg Host.Outcome.next ((if_neg (by simp [hready, hst])).trans (if_neg (by simp [hidle])))
    exact ⟨_, hrun, confine_confined (.inl hon) (tec_lt s n.val), execBusIntegrationDone_mask rfl rfl rfl rfl rfl _ _ hrun⟩
  case holdEnd => exact fun hready hst => ⟨_, congrArg Host.Outcome.next (if_pos (by rcases hst with h | h <;> simp [hready, h])), rfl⟩
  case recovered =>
    intro hready hst
    have hrun : exec (.busOffRecovered n) s =
        .next (raise 194 (setCanState n.val 2 ((s.set F.CAN_STAT.TEC 0 n.val).set F.CAN_STAT.REC 0 n.val))) :=
      congrArg Host.Outcome.next (if_pos (by rcases hst with h | h <;> simp [hready, h]))
    refine ⟨_, hrun, ⟨?_, ?_, ?_⟩, raise_bus _ _, execBusOffRecovered_mask rfl rfl _ _ hrun⟩
    · rw [raise_get_high (by decide), setCanState, State.get_set_clear (by decide), State.get_set_clear (by decide)]
      exact State.get_set_fits (by decide) (by decide) _ _ _ _
    · rw [raise_get_high (by decide), setCanState, State.get_set_clear (by decide)]
      exact State.get_set_fits (by decide) (by decide) _ _ _ _
    · rw [canState, raise_get_high (by decide), setCanState, State.get_set_fits (by decide) (by decide)]
      rfl
  case disable =>
    intro hw hen hon
    have hrun : exec (.canDisable m n) s = .next ((canDisable n.val s).answer .done) := congrArg Host.Outcome.next (if_pos hw)
    rw [canDisable_of_running hen hon] at hrun
    have hregs : RegsOnly [F.CAN_CTL.EN.addr n.val 0 0] s
        (((s.set F.CAN_CTL.EN 0 n.val).setCan n.val { s.can n.val with enAfter := false }).set F.CAN_CTL.DRAINING 1 n.val) :=
      (((RegsOnly.of_regs rfl).set (f := F.CAN_CTL.EN) List.mem_cons_self 0).trans (RegsOnly.of_regs (State.setCan_regs _ _ _))).set
        (f := F.CAN_CTL.DRAINING) List.mem_cons_self 1
    refine ⟨_, hrun, ?_, ?_, ?_, ?_, rfl, fun a ha => ?_, execCanDisable_mask rfl rfl rfl rfl _ _ _ hrun⟩
    · rw [State.get_answer, State.get_set_clear (by decide), State.get_setCan, State.get_set_zero _ _ _ _ _ (by decide) (by decide)]
    · rw [State.get_answer, State.get_set_one _ _ _ _ _ (by decide) (by decide)]
    · rw [canState, State.get_answer, State.get_set_clear (by decide), State.get_setCan, State.get_set_clear (by decide), canState]
    · rw [State.can_of_bus (State.answer_bus _ _), State.can_set, State.can_setCan]
    · exact (hregs.trans (RegsOnly.of_regs (State.answer_regs _ _))) a ha
  case disableOff =>
    intro hw hen hoff
    have hrun : exec (.canDisable m n) s = .next ((canDisable n.val s).answer .done) := congrArg Host.Outcome.next (if_pos hw)
    rw [canDisable_of_off hen hoff] at hrun
    refine ⟨_, hrun, ?_, ?_, rfl, execCanDisable_mask rfl rfl rfl rfl _ _ _ hrun⟩
    · exact (canStop_get (by decide) _).trans (State.get_set_zero _ _ _ _ _ (by decide) (by decide))
    · have hstop := canStop_stopped n.val ((s.set F.CAN_CTL.EN 0 n.val).setCan n.val { s.can n.val with enAfter := false })
      rw [State.can_setCan] at hstop
      exact hstop
  case enable =>
    intro hw hen htest hidle hoff
    have hrun : exec (.canEnable m n) s = .next ((canEnable n.val s).answer .done) := congrArg Host.Outcome.next (if_pos hw)
    rw [canEnable_of_off hen htest hidle hoff] at hrun
    have hregs : RegsOnly [F.CAN_CTL.EN.addr n.val 0 0, F.CAN_STAT.STATE.addr n.val 0 0] s (setCanState n.val 1 (s.set F.CAN_CTL.EN 1 n.val)) :=
      ((RegsOnly.of_regs rfl).set (f := F.CAN_CTL.EN) List.mem_cons_self 1).set (f := F.CAN_STAT.STATE) (List.mem_cons_of_mem _ List.mem_cons_self) 1
    refine ⟨_, hrun, ?_, ?_, rfl, ?_, hregs.trans (RegsOnly.of_regs (State.answer_regs _ _)), execCanEnable_mask rfl rfl rfl rfl _ _ _ hrun⟩
    · rw [State.get_answer, setCanState, State.get_set_clear (by decide), State.get_set_one _ _ _ _ _ (by decide) (by decide)]
    · rw [canState, State.get_answer, setCanState, State.get_set_one _ _ _ _ _ (by decide) (by decide)]
    · rw [State.answer_bus, setCanState, State.set_bus, State.set_bus]
  case enableInTest =>
    intro hw hen htest
    have hrun : exec (.canEnable m n) s = .next ((canEnable n.val s).answer .done) := congrArg Host.Outcome.next (if_pos hw)
    rw [canEnable_of_test hen htest] at hrun
    refine ⟨_, hrun, State.get_set_one _ _ _ _ _ (by decide) (by decide), State.get_set_clear (by decide) _ _, ?_, rfl,
      execCanEnable_mask rfl rfl rfl rfl _ _ _ hrun⟩
    exact congrArg CanSt.enAfter (State.can_setCan _ _ _)
  case flush =>
    intro hw
    have hrun : exec (.canFlush m n) s = .next ((canFlush n.val s).answer .done) := congrArg Host.Outcome.next (if_pos hw)
    obtain ⟨hqueue, hlevel, hregs⟩ := canFlush_queue n.val s
    exact ⟨_, hrun, hqueue, hlevel, rfl, hregs, execCanFlush_mask rfl rfl rfl _ _ _ hrun⟩
  case flushRefused => exact fun hw => ⟨_, congrArg Host.Outcome.next (if_neg (by simp [hw])), rfl⟩
  case drainTimeout =>
    intro hready hdrain
    have hrun : exec (.canDrainTimeout n) s = .next (canStop n.val s) := congrArg Host.Outcome.next (if_pos (by simp [hready, hdrain]))
    exact ⟨_, hrun, canStop_stopped n.val s, execCanDrainTimeout_mask rfl rfl rfl _ _ hrun⟩

/-! ### The transmit queue (R464 to R468) -/

section
variable {s : State} {n : Nat} {e : TxEntry} {r : List TxEntry}

theorem pushEntry_of_room (h : (s.can n).queue.length < 128) (e : TxEntry) : pushEntry n e s = (true, setQueue n ((s.can n).queue ++ [e]) s) :=
  if_neg (by omega)

theorem pushEntry_of_full (h : 128 ≤ (s.can n).queue.length) (e : TxEntry) :
    pushEntry n e s = (false, raise 198 (bumpCan F.CAN_TXQ_STAT.QFULL n s)) := if_pos h

theorem setQueue_clear {f : Fld} (h : F.CAN_TXQ_STAT.LEVEL.Clear f) (q : List TxEntry) (s : State) : (setQueue n q s).get f n = s.get f n := by
  rw [setQueue, State.get_set_clear h, State.get_setCan]

/-- What the head's leaving leaves. -/
theorem popHead_popped (hq : (s.can n).queue = e :: r) :
    (popHead n s).can n = { s.can n with queue := r, arb := false, late := false, local_ := none } ∧
      (popHead n s).get F.CAN_TXQ_STAT.LEVEL n = r.length % 256 ∧ (popHead n s).get F.CAN_TXQ_STAT.HEAD_RETRY n = 0 ∧
      (popHead n s).get F.CAN_STAT.TX_BUSY n = 0 := by
  simp only [popHead]
  refine ⟨?_, ?_, ?_, ?_⟩
  · rw [(setQueue_queue _ _ _).1]
    simp [hq]
  · rw [(setQueue_queue _ _ _).2.1]
    simp [hq]
  · rw [setQueue_clear (by decide), State.get_setCan, State.get_set_clear (by decide), State.get_set_zero _ _ _ _ _ (by decide) (by decide)]
  · rw [setQueue_clear (by decide), State.get_setCan, State.get_set_zero _ _ _ _ _ (by decide) (by decide)]

theorem popHead_clear {f : Fld} (h : F.CAN_TXQ_STAT.LEVEL.Clear f ∧ F.CAN_STAT.TX_BUSY.Clear f ∧ F.CAN_TXQ_STAT.HEAD_RETRY.Clear f) (n : Nat)
    (s : State) : (popHead n s).get f n = s.get f n := by
  obtain ⟨hlevel, hbusy, hretry⟩ := h
  simp only [popHead]
  rw [setQueue_clear hlevel, State.get_setCan, State.get_set_clear hbusy, State.get_set_clear hretry]

theorem echo_of_off (h : s.getB F.CAN_CTL.OWN_ECHO n = false) (e : TxEntry) (late abandoned : Bool) : echo n e late abandoned s = s :=
  if_pos (by simp [h])

theorem arbitrate_can (n : Nat) (late : Bool) (s : State) : (arbitrate n late s).can n = { s.can n with arb := true, late := late } ∧
    (arbitrate n late s).get F.CAN_STAT.TX_BUSY n = 1 ∧ RegsOnly [F.CAN_STAT.TX_BUSY.addr n 0 0] s (arbitrate n late s) := by
  simp only [arbitrate]
  refine ⟨?_, State.get_set_one _ _ _ _ _ (by decide) (by decide), ?_⟩
  · rw [State.can_set, State.can_setCan]
  · exact (RegsOnly.of_regs (State.setCan_regs _ _ _)).set List.mem_cons_self 1

/-! ### The head's payload (R466) -/

/-- Length of the payload that is read, for XL with the AF before it. -/
def fetchLen (e : TxEntry) : Nat := entryLen e + (if entryType e = 3 then 4 else 0)

/-- The payload is read into the local buffer. -/
def fetched (n : Nat) (e : TxEntry) (s : State) : State :=
  let t := s.setCan n { s.can n with local_ := some (s.bytes e.w2.toNat (fetchLen e)) }
  if entryAt e then t else arbitrate n false t

theorem fetched_can (n : Nat) (e : TxEntry) (s : State) :
    ((fetched n e s).can n).local_ = some (s.bytes e.w2.toNat (fetchLen e)) ∧ ((fetched n e s).can n).queue = (s.can n).queue ∧
      ((fetched n e s).can n).arb = (!entryAt e || (s.can n).arb) ∧
      (entryAt e = false → (fetched n e s).get F.CAN_STAT.TX_BUSY n = 1) := by
  unfold fetched
  dsimp only
  cases hat : entryAt e with
  | true => simp
  | false =>
    obtain ⟨hcan, hbusy, -⟩ := arbitrate_can n false (s.setCan n { s.can n with local_ := some (s.bytes e.w2.toNat (fetchLen e)) })
    rw [if_neg (by decide), hcan, hbusy]
    simp

variable {n : Fin 4}

theorem execTxHeadFetch_of_head (hact : canActive s n.val = true) (hidle : s.getB F.CAN_CTL.DRAINING n.val = false)
    (hq : (s.can n.val).queue = e :: r) (hloc : (s.can n.val).local_ = none) : exec (.txHeadFetch n) s = .next
      (if !((fetchLen e == 0) || (e.w2.toNat % 8 == 0 && inSram e.w2.toNat && inSram (e.w2.toNat + fetchLen e - 1) && s.pdReady 8 &&
        (List.range ((fetchLen e + 7) / 8)).all (fun i => !s.poisoned (e.w2.toNat + 8 * i))))
      then issue 0x1015 0 (bumpCan F.CAN_CNT.FETCH_ERR n.val (popHead n.val s)) else fetched n.val e s) := by
  have hgo : (canActive s n.val && (s.can n.val).local_.isNone && !s.getB F.CAN_CTL.DRAINING n.val) = true := by simp [hact, hloc, hidle]
  show execTxHeadFetch n s = _
  rw [execTxHeadFetch, hgo, hq]
  rfl

/-! ### The instant of the head (R468) -/

theorem execTxEligible_of_head (hact : canActive s n.val = true) (hidle : s.getB F.CAN_CTL.DRAINING n.val = false)
    (hq : (s.can n.val).queue = e :: r) (hloc : (s.can n.val).local_.isSome = true) (harb : (s.can n.val).arb = false) (hat : entryAt e = true)
    {d : Int} (hd : d = signed 32 ((s.ts32 + 2 ^ 32 - e.w3.toNat) % 2 ^ 32)) : exec (.txEligible n) s = .next
      (if d < 0 then s
      else if d > 100 * (s.get F.REEL_CTL.LATE_TOL : Int) then
        if e.w1.getLsbD 28 then bumpCan F.CAN_CNT.LATE_DROP n.val (popHead n.val (raise 197 s)) else arbitrate n.val true (raise 197 s)
      else arbitrate n.val false s) := by
  have hgo : (canActive s n.val && (s.can n.val).local_.isSome && !(s.can n.val).arb && !s.getB F.CAN_CTL.DRAINING n.val) = true := by
    simp [hact, hloc, harb, hidle]
  subst hd
  show execTxEligible n s = _
  rw [execTxEligible, hgo, hq]
  simp [hat]

/-! ### A frame sent, and an attempt that failed (R467, R469) -/

theorem execTxFrameSent_of_head (hact : canActive s n.val = true) (hecho : s.getB F.CAN_CTL.OWN_ECHO n.val = false)
    (hq : (s.can n.val).queue = e :: r) (harb : (s.can n.val).arb = true) : exec (.txFrameSent n) s =
      .next (frameBoundary n.val (popHead n.val (confine n.val (tec s n.val - 1) (recCnt s n.val) s))) := by
  have hgo : (canActive s n.val && (s.can n.val).arb) = true := by simp [hact, harb]
  have hlt := tec_lt s n.val
  have hecho' := (State.getB_of_get (confine_keeps (tec := tec s n.val - 1) (rec_ := recCnt s n.val) (f := F.CAN_CTL.OWN_ECHO)
    (state_of_active hact) (by omega) (by decide))).trans hecho
  show execTxFrameSent n s = _
  rw [execTxFrameSent, hgo, hq]
  dsimp only
  rw [echo_of_off hecho']

/-- HEAD_RETRY after one more failed attempt. -/
def attempts (n : Nat) (s : State) : Nat := min 255 (s.get F.CAN_TXQ_STAT.HEAD_RETRY n + 1)

/-- The entry is abandoned. -/
def abandoned (n : Nat) (s : State) : State := raise 196 (issue 0x1002 0 (bumpCan F.CAN_CNT.ABANDON n (popHead n s)))

theorem execTxAttemptError_of_head (hact : canActive s n.val = true) (hecho : s.getB F.CAN_CTL.OWN_ECHO n.val = false)
    (hq : (s.can n.val).queue = e :: r) (harb : (s.can n.val).arb = true) (passive : Bool) {u : State}
    (hu : u = if s.get F.CAN_CTL.RETRY_LIMIT n.val ≠ 0 ∧ s.get F.CAN_CTL.RETRY_LIMIT n.val ≤ attempts n.val s then
      abandoned n.val (s.set F.CAN_TXQ_STAT.HEAD_RETRY (attempts n.val s) n.val) else s.set F.CAN_TXQ_STAT.HEAD_RETRY (attempts n.val s) n.val) :
    exec (.txAttemptError n passive) s =
      .next (frameBoundary n.val (confine n.val (tec u n.val + if passive then 0 else 8) (recCnt u n.val) u)) := by
  have hgo : (canActive s n.val && (s.can n.val).arb) = true := by simp [hact, harb]
  have hecho' : (s.set F.CAN_TXQ_STAT.HEAD_RETRY (attempts n.val s) n.val).getB F.CAN_CTL.OWN_ECHO n.val = false := by
    rw [State.getB_set_clear (by decide), hecho]
  have hlim : (s.set F.CAN_TXQ_STAT.HEAD_RETRY (attempts n.val s) n.val).get F.CAN_CTL.RETRY_LIMIT n.val = s.get F.CAN_CTL.RETRY_LIMIT n.val :=
    State.get_set_clear (by decide) _ _
  have hstep : (if (s.set F.CAN_TXQ_STAT.HEAD_RETRY (attempts n.val s) n.val).get F.CAN_CTL.RETRY_LIMIT n.val != 0 &&
      decide ((s.set F.CAN_TXQ_STAT.HEAD_RETRY (attempts n.val s) n.val).get F.CAN_CTL.RETRY_LIMIT n.val ≤ attempts n.val s) then
        abandoned n.val (echo n.val e ((s.set F.CAN_TXQ_STAT.HEAD_RETRY (attempts n.val s) n.val).can n.val).late true
          (s.set F.CAN_TXQ_STAT.HEAD_RETRY (attempts n.val s) n.val))
      else s.set F.CAN_TXQ_STAT.HEAD_RETRY (attempts n.val s) n.val) = u := by
    rw [hlim, echo_of_off hecho', hu]
    simp
  show execTxAttemptError n passive s = _
  rw [execTxAttemptError, hgo, hq, ← hstep]
  rfl

/-- A controller that its counters take off the bus (R469). -/
theorem busOff_keeps (n : Nat) (s : State) : canState (busOff n s) n = (if s.get F.CAN_CTL.BO_HOLD n = 0 then 4 else 5) ∧
    (busOff n s).get F.CAN_STAT.BO_CNT n = min (s.get F.CAN_STAT.BO_CNT n + 1) 255 ∧ (busOff n s).get F.CAN_STAT.TX_BUSY n = 0 ∧
    (busOff n s).sys.lastFault = 0x1003 ∧ ((busOff n s).can n).queue = (s.can n).queue ∧
    (busOff n s).getB F.CAN_CTL.DRAINING n = s.getB F.CAN_CTL.DRAINING n := by
  have hraise : ∀ {f : Fld}, 0x30100000 ≤ f.base → F.CAN_STAT.BO_CNT.Clear f → F.CAN_STAT.SAT.Clear f → ∀ cls,
      (raise 193 (issue 0x1003 cls (bumpCan F.CAN_STAT.BO_CNT n s))).get f n = s.get f n := fun hb hf hsat cls => by
    rw [raise_get_high ⟨by decide, hb⟩, issue_get, bumpCan_clear hf hsat]
  simp only [busOff, setCanState]
  refine ⟨?_, ?_, ?_, ?_, ?_, ?_⟩
  · rw [canState, State.get_set_fits (by decide) (by split <;> decide), State.get_setCan, State.get_set_clear (by decide),
      hraise (by decide) (by decide) (by decide)]
  · rw [State.get_set_clear (by decide), State.get_setCan, State.get_set_clear (by decide), raise_get_high (by decide), issue_get,
      bumpCan_own (by decide) (by decide)]
    rfl
  · rw [State.get_set_clear (by decide), State.get_setCan, State.get_set_zero _ _ _ _ _ (by decide) (by decide)]
  · rw [State.set_sys, State.setCan_sys, State.set_sys, raise_sys, issue_lastFault]
  · rw [State.can_set, State.can_setCan]
    simp
  · rw [State.getB_set_clear (by decide), State.getB_setCan, State.getB_set_clear (by decide),
      State.getB_of_get (hraise (by decide) (by decide) (by decide) _)]

theorem counted_clear {f : Fld} (htec : F.CAN_STAT.TEC.Clear f) (hrec : F.CAN_STAT.REC.Clear f) (n tec rec_ : Nat) (s : State) :
    (counted n tec rec_ s).get f n = s.get f n := by rw [counted, State.get_set_clear hrec, State.get_set_clear htec]

theorem abandoned_clear {f : Fld} (h : F.CAN_TXQ_STAT.LEVEL.Clear f ∧ F.CAN_STAT.TX_BUSY.Clear f ∧ F.CAN_TXQ_STAT.HEAD_RETRY.Clear f)
    (hcnt : F.CAN_CNT.ABANDON.Clear f ∧ F.CAN_STAT.SAT.Clear f ∧ 0x30100000 ≤ f.base) (n : Nat) (s : State) :
    (abandoned n s).get f n = s.get f n := by
  obtain ⟨hcnt, hsat, hbase⟩ := hcnt
  rw [abandoned, raise_get_high ⟨by decide, hbase⟩, issue_get, bumpCan_clear hcnt hsat, popHead_clear h]

/-- What a count beside the queue keeps of a head that has left. -/
theorem bumpCan_popped {f : Fld} (hlevel : f.Clear F.CAN_TXQ_STAT.LEVEL) (hretry : f.Clear F.CAN_TXQ_STAT.HEAD_RETRY)
    (hbusy : f.Clear F.CAN_STAT.TX_BUSY) {n : Nat} (hq : (s.can n).queue = e :: r) :
    (bumpCan f n (popHead n s)).can n = { s.can n with queue := r, arb := false, late := false, local_ := none } ∧
      (bumpCan f n (popHead n s)).get F.CAN_TXQ_STAT.LEVEL n = r.length % 256 ∧
      (bumpCan f n (popHead n s)).get F.CAN_TXQ_STAT.HEAD_RETRY n = 0 ∧ (bumpCan f n (popHead n s)).get F.CAN_STAT.TX_BUSY n = 0 := by
  obtain ⟨hcan, hlev, hret, hbsy⟩ := popHead_popped hq
  exact ⟨(can_bumpCan _ _ _ _).trans hcan, (bumpCan_clear hlevel (by decide) _ _).trans hlev, (bumpCan_clear hretry (by decide) _ _).trans hret,
    (bumpCan_clear hbusy (by decide) _ _).trans hbsy⟩

end

/-- Settles O31: each operation on the queue through its own lemma; a sent frame and a failed attempt go through confinement, which
leaves the queue's registers alone below a transmit count of 256. -/
theorem busTransmission : Obligations.BusTransmission := by
  unfold Obligations.BusTransmission
  intro s m n win w0 w1 w2 w3 e r passive q len a d tol c lim tec' popped counted'
  refine ⟨?push, ?pushFull, ?pushRefused, ?fetch, ?eligible, ?sent⟩
  case push =>
    intro hready hwin hlen
    have hrun : exec (.txPush m n win w0 w1 w2 w3) s = .next ((setQueue n.val (q ++ [⟨w0, w1, w2, w3, none⟩]) s).answer .done) := by
      refine congrArg Host.Outcome.next ((if_neg (by simp [hready, hwin])).trans ?_)
      rw [pushEntry_of_room hlen]
      rfl
    obtain ⟨hcan, hlevel, hregs⟩ := setQueue_queue n.val (q ++ [⟨w0, w1, w2, w3, none⟩]) s
    refine ⟨_, hrun, (State.can_of_bus (State.answer_bus _ _) _).trans hcan, ?_, rfl, hregs.trans (RegsOnly.of_regs (State.answer_regs _ _)),
      execTxPush_mask rfl rfl rfl rfl _ _ _ _ _ _ _ _ hrun⟩
    rw [State.get_answer, hlevel, List.length_append, List.length_singleton, Nat.mod_eq_of_lt (by omega)]
  case pushFull =>
    intro hready hwin hlen
    have hrun : exec (.txPush m n win w0 w1 w2 w3) s = .next ((raise 198 (bumpCan F.CAN_TXQ_STAT.QFULL n.val s)).answer .error) := by
      refine congrArg Host.Outcome.next ((if_neg (by simp [hready, hwin])).trans ?_)
      rw [pushEntry_of_full hlen]
      rfl
    refine ⟨_, hrun, ?_, ?_, rfl, execTxPush_mask rfl rfl rfl rfl _ _ _ _ _ _ _ _ hrun⟩
    · rw [State.answer_bus, raise_bus, bumpCan, State.bump_bus]
    · show State.get _ _ _ = _
      rw [State.get_answer, raise_get_high (by decide), bumpCan_own (by decide) (by decide)]
      rfl
  case pushRefused => exact fun hwin => ⟨_, congrArg Host.Outcome.next (if_pos (by simp [hwin])), rfl⟩
  case fetch =>
    intro hact hidle hq hloc
    refine ⟨fun hready hal hlo hhi hsound => ?_, fun hlen hbad => ?_⟩
    · have hrun : exec (.txHeadFetch n) s = .next (fetched n.val e s) := by
        refine (execTxHeadFetch_of_head hact hidle hq hloc).trans (congrArg Host.Outcome.next (if_neg ?_))
        have hall : (List.range ((fetchLen e + 7) / 8)).all (fun i => !s.poisoned (e.w2.toNat + 8 * i)) = true :=
          List.all_eq_true.mpr fun i hi => (Bool.not_eq_true' _).mpr (hsound i (List.mem_range.mp hi))
        have hhi' : inSram (e.w2.toNat + fetchLen e - 1) = true := hhi
        have hal' : (e.w2.toNat % 8 == 0) = true := beq_iff_eq.mpr hal
        have hlo' : inSram e.w2.toNat = true := hlo
        rw [hall, hhi', hal', hlo', hready]
        simp
      obtain ⟨h1, h2, h3, h4⟩ := fetched_can n.val e s
      exact ⟨_, hrun, h1, h2, h3, h4, execTxHeadFetch_mask rfl rfl rfl rfl _ _ hrun⟩
    · have hrun : exec (.txHeadFetch n) s = .next (issue 0x1015 0 (bumpCan F.CAN_CNT.FETCH_ERR n.val (popHead n.val s))) := by
        refine (execTxHeadFetch_of_head hact hidle hq hloc).trans (congrArg Host.Outcome.next (if_pos ?_))
        have hlen' : fetchLen e ≠ 0 := hlen
        have hbad' : e.w2.toNat % 8 ≠ 0 ∨ inSram e.w2.toNat = false := hbad
        rcases hbad' with h | h <;> simp [h, hlen']
      obtain ⟨hcan, hlevel, hretry, hbusy⟩ := bumpCan_popped (f := F.CAN_CNT.FETCH_ERR) (by decide) (by decide) (by decide) hq
      refine ⟨_, hrun, ⟨(can_issue _ _ _ _).trans hcan, (issue_get _ _ _ _ _ _ _).trans hlevel, (issue_get _ _ _ _ _ _ _).trans hretry,
        (issue_get _ _ _ _ _ _ _).trans hbusy⟩, ?_, issue_lastFault _ _ _, execTxHeadFetch_mask rfl rfl rfl rfl _ _ hrun⟩
      show State.get _ _ _ = _
      rw [issue_get, bumpCan_own (by decide) (by decide), popHead_clear (by decide)]
      rfl
  case eligible =>
    intro hact hidle hq hloc harb hat
    have hexec := execTxEligible_of_head hact hidle hq hloc harb hat rfl
    refine ⟨fun hneg => ?_, fun hpos hin => ?_, fun hpos hout hkeep => ?_, fun hpos hout hdrop => ?_⟩
    · exact ⟨_, hexec.trans (congrArg Host.Outcome.next (if_pos hneg)), rfl⟩
    · have hrun : exec (.txEligible n) s = .next (arbitrate n.val false s) :=
        hexec.trans (congrArg Host.Outcome.next ((if_neg (not_lt.mpr hpos)).trans (if_neg (not_lt.mpr hin))))
      obtain ⟨hcan, hbusy, hregs⟩ := arbitrate_can n.val false s
      exact ⟨_, hrun, hcan, hbusy, hregs, execTxEligible_mask rfl rfl rfl _ _ hrun⟩
    · have hrun : exec (.txEligible n) s = .next (arbitrate n.val true (raise 197 s)) :=
        hexec.trans (congrArg Host.Outcome.next ((if_neg (not_lt.mpr hpos)).trans ((if_pos hout).trans (if_neg (Bool.eq_false_iff.mp hkeep)))))
      obtain ⟨hcan, hbusy, -⟩ := arbitrate_can n.val true (raise 197 s)
      rw [can_raise] at hcan
      exact ⟨_, hrun, hcan, hbusy, execTxEligible_mask rfl rfl rfl _ _ hrun⟩
    · have hrun : exec (.txEligible n) s = .next (bumpCan F.CAN_CNT.LATE_DROP n.val (popHead n.val (raise 197 s))) :=
        hexec.trans (congrArg Host.Outcome.next ((if_neg (not_lt.mpr hpos)).trans ((if_pos hout).trans (if_pos hdrop))))
      have hq' : ((raise 197 s).can n.val).queue = e :: r := by rw [can_raise]; exact hq
      have hpop := bumpCan_popped (f := F.CAN_CNT.LATE_DROP) (by decide) (by decide) (by decide) hq'
      rw [can_raise] at hpop
      refine ⟨_, hrun, hpop, ?_, execTxEligible_mask rfl rfl rfl _ _ hrun⟩
      show State.get _ _ _ = _
      rw [bumpCan_own (by decide) (by decide), popHead_clear (by decide), raise_get_high (by decide)]
      rfl
  case sent =>
    intro hact hidle hq harb hecho
    have hon := state_of_active hact
    have hlt := tec_lt s n.val
    refine ⟨?_, fun hlim hle hbelow => ?_, fun hlim hbelow => ?_, fun hlim hover => ?_⟩
    · obtain ⟨htec, hrec, hst⟩ := confine_confined (n := n.val) (tec := tec s n.val - 1) (rec_ := recCnt s n.val) hon (by omega)
      obtain ⟨hbus, -, hmem, -⟩ := confine_parts (n := n.val) (tec := tec s n.val - 1) (rec_ := recCnt s n.val) hon (by omega)
      have hcan := State.can_of_bus hbus n.val
      have hdrain : (popHead n.val (confine n.val (tec s n.val - 1) (recCnt s n.val) s)).getB F.CAN_CTL.DRAINING n.val = false := by
        rw [State.getB_of_get (popHead_clear (by decide) _ _), State.getB_of_get (confine_keeps hon (by omega) (by decide)), hidle]
      have hrun := execTxFrameSent_of_head hact hecho hq harb
      rw [frameBoundary_of_idle hdrain] at hrun
      have hpop := popHead_popped (n := n.val) (s := confine n.val (tec s n.val - 1) (recCnt s n.val) s) (e := e) (r := r) (by rw [hcan]; exact hq)
      rw [hcan] at hpop
      refine ⟨_, hrun, hpop, ?_, ?_, (popHead_mem _ _).trans hmem, execTxFrameSent_mask rfl rfl rfl rfl rfl rfl _ _ hrun⟩
      · rw [popHead_clear (by decide), htec]
        omega
      · rw [canState, popHead_clear (by decide)]
        exact hst
    · set v := s.set F.CAN_TXQ_STAT.HEAD_RETRY (attempts n.val s) n.val with hv
      have hkeep : ∀ {f : Fld}, (F.CAN_TXQ_STAT.LEVEL.Clear f ∧ F.CAN_STAT.TX_BUSY.Clear f ∧ F.CAN_TXQ_STAT.HEAD_RETRY.Clear f) →
          (F.CAN_CNT.ABANDON.Clear f ∧ F.CAN_STAT.SAT.Clear f ∧ 0x30100000 ≤ f.base) → (abandoned n.val v).get f n.val = s.get f n.val :=
        fun h h' => (abandoned_clear h h' _ _).trans (State.get_set_clear h.2.2 _ _)
      have htec : tec (abandoned n.val v) n.val = tec s n.val := hkeep (by decide) (by decide)
      have hrec : recCnt (abandoned n.val v) n.val = recCnt s n.val := hkeep (by decide) (by decide)
      have hon' : canState (abandoned n.val v) n.val = 2 ∨ canState (abandoned n.val v) n.val = 3 := by
        rw [canState, hkeep (by decide) (by decide)]
        exact hon
      have hrun := execTxAttemptError_of_head hact hecho hq harb passive (if_pos ⟨hlim, hle⟩).symm
      rw [← hv, htec, hrec, frameBoundary_of_idle (by
        rw [State.getB_of_get (confine_keeps hon' hbelow (by decide)), State.getB_of_get (hkeep (by decide) (by decide)), hidle])] at hrun
      obtain ⟨hbus, hsys, -, -⟩ := confine_parts (rec_ := recCnt s n.val) hon' hbelow
      obtain ⟨hcan, hlevel, hretry, hbusy⟩ := bumpCan_popped (s := v) (f := F.CAN_CNT.ABANDON) (by decide) (by decide) (by decide) hq
      refine ⟨_, hrun, ⟨?_, ?_, ?_, ?_⟩, ?_, ?_, ?_, execTxAttemptError_mask rfl rfl rfl rfl rfl rfl _ _ _ hrun⟩
      · rw [State.can_of_bus hbus, abandoned, can_raise, can_issue, hcan, hv, State.can_set]
      · rw [confine_keeps hon' hbelow (by decide), abandoned, raise_get_high (by decide), issue_get, hlevel]
      · rw [confine_keeps hon' hbelow (by decide), abandoned, raise_get_high (by decide), issue_get, hretry]
      · rw [confine_keeps hon' hbelow (by decide), abandoned, raise_get_high (by decide), issue_get, hbusy]
      · show State.get _ _ _ = _
        rw [confine_keeps hon' hbelow (by decide), abandoned, raise_get_high (by decide), issue_get, bumpCan_own (by decide) (by decide),
          popHead_clear (by decide), hv, State.get_set_clear (by decide)]
        rfl
      · rw [(confine_confined hon' hbelow).1]
        exact Nat.min_eq_left (by omega)
      · rw [hsys, abandoned, raise_sys, issue_lastFault]
    all_goals
      set v := s.set F.CAN_TXQ_STAT.HEAD_RETRY (attempts n.val s) n.val with hv
      have htec : tec v n.val = tec s n.val := State.get_set_clear (by decide) _ _
      have hrec : recCnt v n.val = recCnt s n.val := State.get_set_clear (by decide) _ _
      have hst : canState v n.val = canState s n.val := State.get_set_clear (by decide) _ _
      have hon' : canState v n.val = 2 ∨ canState v n.val = 3 := by rwa [hst]
      have hrun := execTxAttemptError_of_head hact hecho hq harb passive (if_neg fun h => by
        obtain ⟨hne, hle⟩ := h
        exact hlim.elim hne (not_lt.mpr hle)).symm
    · rw [← hv, htec, hrec, frameBoundary_of_idle (by
        rw [State.getB_of_get (confine_keeps hon' hbelow (by decide)), State.getB_set_clear (by decide), hidle])] at hrun
      obtain ⟨hshown, -, hact'⟩ := confine_confined (rec_ := recCnt s n.val) hon' hbelow
      refine ⟨_, hrun, (confine_parts hon' hbelow).1, ?_, ?_, hact', execTxAttemptError_mask rfl rfl rfl rfl rfl rfl _ _ _ hrun⟩
      · rw [confine_keeps hon' hbelow (by decide), hv]
        exact State.get_set_fits (by decide) (by rw [attempts]; simp only [F.CAN_TXQ_STAT.HEAD_RETRY]; omega) _ _ _ _
      · rw [hshown]
        exact Nat.min_eq_left (by omega)
    · have hoff : confine n.val tec' (recCnt s n.val) v = busOff n.val (counted n.val tec' (recCnt s n.val) v) := confine_busOff hon' hover
      obtain ⟨hstate, hcnt, hbusy, hfault, hqueue, hdrain⟩ := busOff_keeps n.val (counted n.val tec' (recCnt s n.val) v)
      rw [← hv, htec, hrec, hoff, frameBoundary_of_idle (by
        rw [hdrain, State.getB_of_get (counted_clear (by decide) (by decide) _ _ _ _), State.getB_set_clear (by decide), hidle])] at hrun
      rw [counted_clear (by decide) (by decide), hv, State.get_set_clear (by decide)] at hstate hcnt
      exact ⟨_, hrun, hqueue, hstate, hcnt, hbusy, hfault, execTxAttemptError_mask rfl rfl rfl rfl rfl rfl _ _ _ hrun⟩

end Sys2Proof.Machine

/-! Reel's runs, overruns, resets and status frames (16_bus.md R461 to R478): one lemma for each operation, and the obligation about
them, O32. -/

namespace Sys2Proof.Machine
open Sys2Proof

section
variable {s t : State} {n off : Nat}

/-! ### A record's mark, and the read pointer -/

theorem place_bus (key : Nat) (data : List Byte) (s : State) : (place key data s).bus = s.bus :=
  bus_of_mask (K := { mem := true, fab := true }) rfl (place_mask rfl rfl key data s)

theorem markRecord_regs (n off k : Nat) (s : State) : (markRecord n off k s).regs = s.regs := place_regs _ _ _
theorem markRecord_bus (n off k : Nat) (s : State) : (markRecord n off k s).bus = s.bus := place_bus _ _ _

theorem markRecord_marks (n off k : Nat) (s : State) : BytesOnly (ringBase s n + off + 0x16) 2 s (markRecord n off k s) := by
  have hbytes := fun l : List Byte => (place_bytes (ringBase s n + off + 0x16) [] l [] s).2.2
  simpa [markRecord, length_toBytes] using hbytes (toBytes 2 (s.load (ringBase s n + off + 0x16) 2 ||| (Config.reelFlag k).toNat))

/-- The ring lies where it lay. -/
abbrev SameRing (n : Nat) (s t : State) : Prop := t.rd (F.CAN_RX_CFG.BASE.addr n 0 0) = s.rd (F.CAN_RX_CFG.BASE.addr n 0 0)

theorem SameRing.base (h : SameRing n s t) : ringBase t n = ringBase s n := by
  rw [ringBase, State.get_of_rd h, ringBase]

theorem SameRing.size (h : SameRing n s t) : ringSize t n = ringSize s n := by
  rw [ringSize, State.get_of_rd (f := F.CAN_RX_CFG.SIZE_LOG2) h, ringSize]

theorem recordLen_of_marked (hring : SameRing n s t) (hmark : BytesOnly (ringBase s n + off + 0x16) 2 s t) :
    recordLen t n off = recordLen s n off := by
  have hbytes : t.bytes (ringBase s n + off + 12) 4 = s.bytes (ringBase s n + off + 12) 4 :=
    (State.bytes_eq_iff _ _ _ _ _).mpr fun j hj => hmark _ (.inl (by omega))
  rw [recordLen, hring.base, State.load, hbytes, recordLen, State.load]

/-- The read pointer passes a record of which only the mark changed. -/
theorem passRecord_passed (hring : SameRing n s t) (hmark : BytesOnly (ringBase s n + off + 0x16) 2 s t) :
    (passRecord n off t).get F.CAN_RX_RD.RD n = (off + 24 + pad8 (recordLen s n off)) % ringSize s n := by
  rw [passRecord, hring.size, recordLen_of_marked hring hmark]
  exact State.get_set_fits (by decide) (Nat.lt_of_lt_of_le (Nat.mod_lt _ (ringSize_pos _ _)) (ringSize_le _ _)) _ _ _ _

theorem BytesOnly.of_mem {a k : Nat} {u : State} (h : BytesOnly a k s t) (hu : u.mem = t.mem) : BytesOnly a k s u :=
  fun b hb => (State.byte_of_mem hu b).trans (h b hb)

theorem passRecord_marked {a k : Nat} (h : BytesOnly a k s t) : BytesOnly a k s (passRecord n off t) := h.of_mem (State.set_mem _ _ _ _ _ _)

/-! ### A record that is marked and counted -/

/-- A record is marked, counted, and the event raised. -/
def recordNoted (k ev : Nat) (f : Fld) (n off : Nat) (s : State) : State := raise ev (bumpReel f (markRecord n off k s))

/-- Registers of the ring are none of Reel's. -/
theorem ringCfg_ne {f : Fld} (hf : f.s1 = 0 ∧ f.s2 = 0 ∧ f.s3 = 0 ∧ 0x3014F000 ≤ f.base ∧ f.base < 0x3014F010) (n : Nat) :
    F.CAN_RX_CFG.BASE.addr n 0 0 ≠ f.addr 0 0 0 := by
  obtain ⟨-, -, -, hlo, hhi⟩ := hf
  simp only [Fld.addr, F.CAN_RX_CFG.BASE]
  omega

theorem recordNoted_ring {ev : Nat} (hev : ev < 256) {f : Fld} (hf : f.s1 = 0 ∧ f.s2 = 0 ∧ f.s3 = 0 ∧ 0x3014F000 ≤ f.base ∧ f.base < 0x3014F010)
    (k n off : Nat) (s : State) : SameRing n s (recordNoted k ev f n off s) := by
  have hquiet : Quiet (F.CAN_RX_CFG.BASE.addr n 0 0) := by simp only [Quiet, Fld.addr, F.CAN_RX_CFG.BASE]; omega
  rw [SameRing, recordNoted, raise_quiet _ _ _ hev hquiet, bumpReel, State.rd_bump_ne (ringCfg_ne hf n) (ringCfg_ne (by decide) n),
    State.rd_of_regs (markRecord_regs _ _ _ _)]

theorem recordNoted_marks (k ev : Nat) (f : Fld) (n off : Nat) (s : State) :
    BytesOnly (ringBase s n + off + 0x16) 2 s (recordNoted k ev f n off s) :=
  (markRecord_marks n off k s).of_mem ((raise_mem _ _).trans (bumpReel_mem _ _))

theorem recordNoted_bus (k ev : Nat) (f : Fld) (n off : Nat) (s : State) : (recordNoted k ev f n off s).bus = s.bus := by
  rw [recordNoted, raise_bus, bumpReel, State.bump_bus, markRecord_bus]

theorem recordNoted_count {ev : Nat} {f : Fld} (hf : f.hi < 32 ∧ f.lo ≤ f.hi) (hsat : F.REEL_CTL.SAT.Clear f) (hev : ev < 256 ∧ 0x30100000 ≤ f.base)
    (k n off : Nat) (s : State) : (recordNoted k ev f n off s).get f = min (s.get f + 1) f.maxVal := by
  rw [recordNoted, raise_get_high hev, bumpReel, State.get_bump_own hf hsat, State.get_of_regs (markRecord_regs _ _ _ _)]

theorem recordNoted_get {ev : Nat} {f g : Fld} (hf : f.Clear g) (hsat : F.REEL_CTL.SAT.Clear g) (hev : ev < 256 ∧ 0x30100000 ≤ g.base)
    (k n off : Nat) (s : State) : (recordNoted k ev f n off s).get g = s.get g := by
  rw [recordNoted, raise_get_high hev, bumpReel, State.get_bump_clear hf hsat, State.get_of_regs (markRecord_regs _ _ _ _)]

/-! ### A run (R463) -/

/-- Reel's state once a run has asked for its token. -/
def runReel (c : Nat) (s : State) : ReelSt := (takeToken c (s.setReel { s.bus.reel with ovrRun := 0 })).2.bus.reel

/-- What a run does with the record before the read pointer passes it. -/
def recordRun (n off : Nat) (r : ReelRun) (ok : Bool) (s : State) : State :=
  let d := r.dfn.val
  let p := s.sys.cfg.reel.rx.getD d {}
  let last := SMap.get 0 s.bus.reel.last d
  if !ok then flood n off s
  else if p.secured then
    (if r.macOk && decide (last < r.fresh ∧ r.fresh ≤ last + p.freshWin ∧ r.fresh ≤ 0xFFFFFFFF) then runOutcome n off r (acceptFresh d r.fresh s)
     else authFail n off d p s)
  else runOutcome n off r s

section
variable {r : ReelRun}

theorem recordRun_of_none : recordRun n off r false s = flood n off s := by simp [recordRun]

theorem recordRun_of_plain (hplain : (s.sys.cfg.reel.rx.getD r.dfn.val {}).secured = false) : recordRun n off r true s = runOutcome n off r s := by
  simp only [recordRun, hplain]
  rfl

theorem recordRun_of_bad (hsec : (s.sys.cfg.reel.rx.getD r.dfn.val {}).secured = true) (hmac : r.macOk = false) :
    recordRun n off r true s = authFail n off r.dfn.val (s.sys.cfg.reel.rx.getD r.dfn.val {}) s := by
  simp only [recordRun, hsec, hmac]
  rfl

theorem recordRun_of_good (hsec : (s.sys.cfg.reel.rx.getD r.dfn.val {}).secured = true) (hmac : r.macOk = true)
    (hfresh : SMap.get 0 s.bus.reel.last r.dfn.val < r.fresh ∧
      r.fresh ≤ SMap.get 0 s.bus.reel.last r.dfn.val + (s.sys.cfg.reel.rx.getD r.dfn.val {}).freshWin ∧ r.fresh ≤ 0xFFFFFFFF) :
    recordRun n off r true s = runOutcome n off r (acceptFresh r.dfn.val r.fresh s) := by
  simp only [recordRun, hsec, hmac, decide_eq_true hfresh]
  rfl

end

theorem execReelRecordRun_of_record {n : Fin 4} {r : ReelRun} (hruns : reelRuns s = true) (hnext : ringNext s n.val = some off) :
    exec (.reelRecordRun n r) s =
      .next (passRecord n.val off (recordRun n.val off r (takeToken r.cls.val s).1 (s.setReel (runReel r.cls.val s)))) := by
  show execReelRecordRun n r s = _
  rw [execReelRecordRun, hruns, hnext]
  rfl

/-! ### What a run does with its record (R463, R476, R478) -/

theorem flood_of_first (h : s.bus.reel.floodAt = none) : ∃ x, flood n off s =
    issue 0x1013 0 ((recordNoted 2 204 F.REEL_STAT2.FLOOD_CNT n off s).setReel x) := by
  have hnone : (recordNoted 2 204 F.REEL_STAT2.FLOOD_CNT n off s).bus.reel.floodAt = none := by rw [recordNoted_bus, h]
  unfold flood
  dsimp only
  rw [show (raise 204 (bumpReel F.REEL_STAT2.FLOOD_CNT (markRecord n off 2 s))).bus.reel.floodAt = none from hnone]
  exact ⟨_, rfl⟩

/-- Reel's state after a record that was not accepted. -/
def authReel (d : Nat) (s : State) : ReelSt := { s.bus.reel with authRun := SMap.put 0 s.bus.reel.authRun d (SMap.get 0 s.bus.reel.authRun d + 1) }

theorem authFail_noted (d : Nat) (p : RxDef) : authFail n off d p s = recordNoted 1 203 F.REEL_STAT.AUTH_FAIL_CNT n off (s.setReel (authReel d s)) ∨
    authFail n off d p s = issue 0x1011 0 (recordNoted 1 203 F.REEL_STAT.AUTH_FAIL_CNT n off (s.setReel (authReel d s))) := by
  unfold authFail
  dsimp only
  split
  · exact .inr rfl
  · exact .inl rfl

/-- A record that was not accepted is marked and counted; the last freshness value and the mailboxes stay. -/
theorem authFail_counted (d : Nat) (p : RxDef) : SameRing n s (authFail n off d p s) ∧
    BytesOnly (ringBase s n + off + 0x16) 2 s (authFail n off d p s) ∧
    (authFail n off d p s).get F.REEL_STAT.AUTH_FAIL_CNT = min (s.get F.REEL_STAT.AUTH_FAIL_CNT + 1) 255 ∧
    (authFail n off d p s).bus.reel = authReel d s := by
  have hring : SameRing n s (recordNoted 1 203 F.REEL_STAT.AUTH_FAIL_CNT n off (s.setReel (authReel d s))) :=
    recordNoted_ring (by decide) (by decide) 1 n off (s.setReel (authReel d s))
  have hmark : BytesOnly (ringBase s n + off + 0x16) 2 s (recordNoted 1 203 F.REEL_STAT.AUTH_FAIL_CNT n off (s.setReel (authReel d s))) :=
    recordNoted_marks 1 203 F.REEL_STAT.AUTH_FAIL_CNT n off (s.setReel (authReel d s))
  have hcount : (recordNoted 1 203 F.REEL_STAT.AUTH_FAIL_CNT n off (s.setReel (authReel d s))).get F.REEL_STAT.AUTH_FAIL_CNT =
      min (s.get F.REEL_STAT.AUTH_FAIL_CNT + 1) 255 := recordNoted_count (by decide) (by decide) (by decide) 1 n off _
  have hbus := congrArg BusSt.reel (recordNoted_bus 1 203 F.REEL_STAT.AUTH_FAIL_CNT n off (s.setReel (authReel d s)))
  obtain h | h := authFail_noted (n := n) (off := off) (s := s) d p
  · rw [h]
    exact ⟨hring, hmark, hcount, hbus⟩
  · rw [h]
    refine ⟨(issue_rd _ _ _ _).trans hring, hmark.of_mem (issue_mem _ _ _), (issue_get _ _ _ _ _ _ _).trans hcount, ?_⟩
    rw [issue_bus]
    exact hbus

/-- Delivered, a record takes one place of the mailbox. -/
theorem deliverRecord_of_room {d p : Nat} (h : SMap.get 0 s.bus.reel.mbxN p < 256) : (deliverRecord n off d p s).bus.reel =
    { s.bus.reel with mbxN := SMap.put 0 s.bus.reel.mbxN p (SMap.get 0 s.bus.reel.mbxN p + 1),
                      mbxW := SMap.put 0 s.bus.reel.mbxW p (SMap.get 0 s.bus.reel.mbxW p + 1) } := by
  unfold deliverRecord
  dsimp only
  rw [if_neg (by omega), raise_bus]
  simp only [State.setReel, place_bus, markRecord_bus]

theorem deliverRecord_keeps (d p : Nat) : (deliverRecord n off d p s).bus.reel.last = s.bus.reel.last ∧
    (deliverRecord n off d p s).bus.reel.authRun = s.bus.reel.authRun := by
  by_cases h : SMap.get 0 s.bus.reel.mbxN p < 256
  · rw [deliverRecord_of_room h]
    exact ⟨rfl, rfl⟩
  · have hfull : deliverRecord n off d p s = raise 202 (bumpReel F.REEL_STAT.MBX_DROP s) := if_pos (by omega)
    rw [hfull, raise_bus, bumpReel, State.bump_bus]
    exact ⟨rfl, rfl⟩

theorem pushEntry_reel (c : Nat) (e : TxEntry) (s : State) : (pushEntry c e s).2.bus.reel = s.bus.reel := by
  unfold pushEntry
  dsimp only
  split
  · rw [raise_bus, bumpCan, State.bump_bus]
  · rw [setQueue, State.set_bus]
    rfl

/-- Whatever its outcome, a run leaves the last freshness values and the counts of failures. -/
theorem runOutcome_keeps (r : ReelRun) : (runOutcome n off r s).bus.reel.last = s.bus.reel.last ∧
    (runOutcome n off r s).bus.reel.authRun = s.bus.reel.authRun := by
  unfold runOutcome
  dsimp only
  split
  · split
    · rw [markRecord_bus]
      exact ⟨rfl, rfl⟩
    · exact deliverRecord_keeps _ _
  · rw [markRecord_bus]
    exact ⟨rfl, rfl⟩
  · rw [pushEntry_reel, markRecord_bus]
    exact ⟨rfl, rfl⟩

theorem acceptFresh_last (d f : Nat) (s : State) : SMap.get 0 (acceptFresh d f s).bus.reel.last d = f ∧
    SMap.get 0 (acceptFresh d f s).bus.reel.authRun d = 0 := by
  have hstore : ∀ u : State, (if (SMap.get 0 s.bus.reel.accepts d + 1) % 256 = 0 then u.store (freshKey false d) 4 f else u).bus = u.bus := fun u =>
    ite_keeps (p := (·.bus)) (bus_of_mask (K := { mem := true }) rfl (setBytes_mask rfl u _ _))
  have hreel : (acceptFresh d f s).bus.reel = { s.bus.reel with
      last := SMap.put 0 s.bus.reel.last d f, accepts := SMap.put 0 s.bus.reel.accepts d ((SMap.get 0 s.bus.reel.accepts d + 1) % 256),
      authRun := SMap.put 0 s.bus.reel.authRun d 0 } := by
    unfold acceptFresh
    dsimp only
    split
    · rw [issue_bus, State.set_bus, hstore]
      rfl
    · rw [hstore]
      rfl
  rw [hreel]
  exact ⟨SMap.get_put_self _ _ _ _, SMap.get_put_self _ _ _ _⟩

theorem runOutcome_of_drop {r : ReelRun} (h : r.outcome = 1) : runOutcome n off r s = markRecord n off 4 s := by
  rw [runOutcome, h]
  rfl

theorem runOutcome_of_deliver {r : ReelRun} (h : r.outcome = 0) (hlow : ringHigh s n = false) :
    runOutcome n off r s = deliverRecord n off r.dfn.val r.pair.val s := by
  simp only [runOutcome, h, hlow]
  rfl

/-- Passing a record leaves Reel's registers. -/
theorem passRecord_get {f : Fld} (hf : f.s1 = 0 ∧ 0x3014F000 ≤ f.base ∧ f.base < 0x3014F010) (n off : Nat) (s : State) :
    (passRecord n off s).get f = s.get f := by
  refine State.get_set_addr _ _ _ _ _ _ _ _ _ _ ?_
  simp only [Fld.addr, F.CAN_RX_RD.RD]
  omega

theorem passRecord_bus (n off : Nat) (s : State) : (passRecord n off s).bus = s.bus := State.set_bus _ _ _ _ _ _

/-! ### Overruns and resets (R462, R522) -/

/-- A fault reported to the update changes UPD_STAT alone. -/
theorem updFault_rd {a : Nat} (h1 : a ≠ F.UPD_STAT.STATE.addr 0 0 0) (h2 : a ≠ F.UPD_STAT.REASON.addr 0 0 0) (type inst : Nat) (s : State) :
    (updFault type inst s).rd a = s.rd a := by
  have hbegin : (revertBegin 14 s).rd a = s.rd a := by
    unfold revertBegin
    split
    · exact (State.rd_wr_ne _ _ _ _ h1).trans (State.rd_wr_ne _ _ _ _ h2)
    · rfl
  unfold updFault
  split
  · exact ite_keeps (p := (·.rd a)) hbegin
  · rfl

theorem reelReset_shown (s : State) : (reelReset s).get F.REEL_CTL.RUN = 0 ∧
    (reelReset s).get F.REEL_CTL.RESETS = min 3 (s.get F.REEL_CTL.RESETS + 1) := by
  simp only [reelReset]
  refine ⟨?_, ?_⟩
  · rw [State.get_of_rd (updFault_rd (by decide) (by decide) _ _ _), State.get_set_clear (by decide),
      State.get_set_zero _ _ _ _ _ (by decide) (by decide)]
  · have hclear : (s.set F.REEL_CTL.RUN 0).get F.REEL_CTL.RESETS = s.get F.REEL_CTL.RESETS := State.get_set_clear (by decide) _ _
    rw [State.get_of_rd (updFault_rd (by decide) (by decide) _ _ _), hclear,
      State.get_set_fits (by decide) (by simp only [F.REEL_CTL.RESETS]; omega)]

theorem reelReset_rd {a : Nat} (ha : a ≠ F.REEL_CTL.RUN.addr 0 0 0) (h1 : a ≠ F.UPD_STAT.STATE.addr 0 0 0) (h2 : a ≠ F.UPD_STAT.REASON.addr 0 0 0)
    (s : State) : (reelReset s).rd a = s.rd a :=
  (updFault_rd h1 h2 _ _ _).trans ((State.rd_wr_ne _ _ _ _ ha).trans (State.rd_wr_ne _ _ _ _ ha))

theorem get_of_reelRuns (h : reelRuns s = true) : s.get F.REEL_CTL.RUN = 1 := by
  have hrun : s.get F.REEL_CTL.RUN ≠ 0 := by
    simp only [reelRuns, State.getB, Bool.and_eq_true, bne_iff_ne] at h
    exact h.1.2
  have hlt : s.get F.REEL_CTL.RUN < 2 := State.get_lt s F.REEL_CTL.RUN 0 0 0
  omega

theorem execReelOverrun_of_wcet {n : Fin 4} (hruns : reelRuns s = true) (hnext : ringNext s n.val = some off) {u : State} {k : Nat}
    (hu : u = passRecord n.val off (recordNoted 0 206 F.REEL_STAT.OVR_CNT n.val off s)) (hk : k = s.bus.reel.ovrRun + 1) :
    ∃ x, exec (.reelOverrun n .wcet) s = .next
      (if max 1 (s.get F.REEL_CFG.OVR_N) ≤ k then reelReset (u.setReel x) else u.setReel { s.bus.reel with ovrRun := k }) := by
  have hbus : u.bus.reel = s.bus.reel := by rw [hu, passRecord_bus, recordNoted_bus]
  have hcfg : (u.setReel { s.bus.reel with ovrRun := k }).get F.REEL_CFG.OVR_N = s.get F.REEL_CFG.OVR_N := by
    rw [State.get_of_regs (State.setReel_regs _ _), hu, passRecord,
      State.get_set_addr _ _ _ _ _ _ _ _ _ _ (by simp only [Fld.addr, F.REEL_CFG.OVR_N, F.CAN_RX_RD.RD]; omega),
      recordNoted_get (by decide) (by decide) (by decide)]
  have hform : exec (.reelOverrun n .wcet) s = .next
      (if u.bus.reel.ovrRun + 1 ≥ max 1 ((u.setReel { u.bus.reel with ovrRun := u.bus.reel.ovrRun + 1 }).get F.REEL_CFG.OVR_N) then
        reelReset ((u.setReel { u.bus.reel with ovrRun := u.bus.reel.ovrRun + 1 }).setReel
          { (u.setReel { u.bus.reel with ovrRun := u.bus.reel.ovrRun + 1 }).bus.reel with ovrRun := 0 })
      else u.setReel { u.bus.reel with ovrRun := u.bus.reel.ovrRun + 1 }) := by
    subst hu
    show execReelOverrun n .wcet s = _
    rw [execReelOverrun, if_neg (by simp [hruns])]
    dsimp only
    rw [hnext]
    rfl
  rw [hform, hbus, ← hk, hcfg]
  exact ⟨_, rfl⟩

/-! ### Frames of Reel's own (R472) -/

theorem getLsbD_setBits_one (w : Word) : (setBits w 29 29 1).getLsbD 29 = true := by
  have hbit : getBits (setBits w 29 29 1) 29 29 = ((setBits w 29 29 1).getLsbD 29).toNat := (Nat.toNat_testBit _ _).symm
  rw [getBits_setBits_self _ _ _ _ (by decide) (by decide)] at hbit
  cases h : (setBits w 29 29 1).getLsbD 29 with
  | true => rfl
  | false =>
    rw [h] at hbit
    exact absurd hbit (by decide)

/-- A frame of Reel's own that is not secured goes to the end of its controller's queue. -/
theorem pushOwn_of_plain {d : TxDef} {c : Nat} (k : Nat) (data : List Byte) (at_ : Nat) (hctrl : defCtrl s d = some c) (hplain : d.secured = false)
    (hroom : (s.can c).queue.length < 128) : (pushOwn k d data (some at_) s).2 = setQueue c ((s.can c).queue ++
      [⟨d.w0, setBits (setBits d.w1 27 16 data.length) 29 29 1, BitVec.ofNat 32 d.buf, BitVec.ofNat 32 at_, some k⟩]) (place d.buf data s) := by
  have hcan := State.can_of_bus (place_bus d.buf data s) c
  simp only [pushOwn, hctrl, hplain]
  rw [← hcan]
  exact congrArg Prod.snd (pushEntry_of_room (s := place d.buf data s) (by rw [hcan]; exact hroom) _)

theorem setQueue_reel (c : Nat) (q : List TxEntry) (s : State) : (setQueue c q s).bus.reel = s.bus.reel := by
  rw [setQueue, State.set_bus]
  rfl

/-- What a status frame shows. -/
def statusData (x : TxDef) (s : State) : List Byte :=
  if x.stat0 then stat0 s
  else x.entries.flatMap (fun k => toBytes (sigBytes (sigType (s.sigEntry k))) ((sigValue s k).getD (Config.daqHole k)).toNat)

/-- The entry a status frame becomes. -/
def statusEntry (d : Nat) (x : TxDef) (s : State) : TxEntry :=
  ⟨x.w0, setBits (setBits x.w1 27 16 (statusData x s).length) 29 29 1, BitVec.ofNat 32 x.buf, BitVec.ofNat 32 s.ts32, some d⟩

/-- A status frame is pushed; STAT0's own counter goes on. -/
def statusPushed (d : Nat) (x : TxDef) (s : State) : State :=
  let t := (pushOwn d x (statusData x s) (some s.ts32) s).2
  if x.stat0 then t.setReel { t.bus.reel with beat := (t.bus.reel.beat + 1) % 256, lostSeen := false } else t

theorem statusPushed_of_room {d c : Nat} {x : TxDef} (hctrl : defCtrl s x = some c) (hplain : x.secured = false)
    (hroom : (s.can c).queue.length < 128) : ((statusPushed d x s).can c).queue = (s.can c).queue ++ [statusEntry d x s] ∧
      (x.stat0 = true → (statusPushed d x s).bus.reel.beat = (s.bus.reel.beat + 1) % 256 ∧ (statusPushed d x s).bus.reel.lostSeen = false) := by
  have hpush : (pushOwn d x (statusData x s) (some s.ts32) s).2 =
      setQueue c ((s.can c).queue ++ [statusEntry d x s]) (place x.buf (statusData x s) s) := pushOwn_of_plain d _ _ hctrl hplain hroom
  have hqueue : ((pushOwn d x (statusData x s) (some s.ts32) s).2.can c).queue = (s.can c).queue ++ [statusEntry d x s] := by
    rw [hpush, (setQueue_queue _ _ _).1]
  have hreel : (pushOwn d x (statusData x s) (some s.ts32) s).2.bus.reel = s.bus.reel := by rw [hpush, setQueue_reel, place_bus]
  unfold statusPushed
  dsimp only
  refine ⟨?_, fun hstat => ?_⟩
  · split
    · exact hqueue
    · exact hqueue
  · rw [if_pos hstat, hreel]
    exact ⟨rfl, rfl⟩

theorem execStatusFrameDue_of_def {d : Fin 32} {x : TxDef} {c : Nat} (hruns : reelRuns s = true) (hx : s.sys.cfg.reel.tx[d.val]? = some x)
    (hev : x.event = none) (hctrl : defCtrl s x = some c) : exec (.statusFrameDue d) s = .next
      (if (s.can c).queue.any (fun e => e.dfn == some d.val) then
        s.setReel { s.bus.reel with skips := SMap.put 0 s.bus.reel.skips d.val (SMap.get 0 s.bus.reel.skips d.val + 1) }
      else statusPushed d.val x s) := by
  show execStatusFrameDue d s = _
  rw [execStatusFrameDue, hruns, hx]
  dsimp only
  rw [if_neg (by simp [hev]), hctrl]
  rfl

end

/-- Settles O32: a run through the token, authentication and its outcome; an overrun through the mark, the count and Reel's reset; a
status frame through the push of Reel's own. -/
theorem Reel.reelRuns : Obligations.ReelRuns := by
  unfold Obligations.ReelRuns
  intro s n r off how d x c p last token passed marked resets ready
  refine ⟨fun hruns hnext => ?runs, ?trap, ?reset, ?stopped, fun hruns hx hev hctrl => ?status⟩
  case runs =>
    have hrun1 : s.get F.REEL_CTL.RUN = 1 := get_of_reelRuns hruns
    have hexec := execReelRecordRun_of_record (r := r) hruns hnext
    set u := s.setReel (runReel r.cls.val s) with hu
    have hgo : ∀ (ok : Bool) {v : State}, token = ok → recordRun n.val off r ok u = v →
        exec (.reelRecordRun n r) s = .next (passRecord n.val off v) := fun ok v hok hv => by
      rw [hexec, show (takeToken r.cls.val s).1 = ok from hok, hv]
    refine ⟨fun htok hflood => ?_, fun htok hsec hmac => ?_, fun htok hplain hout => ?_, fun htok hplain hout hlow hroom => ?_,
      fun htok hsec hmac hlo hhi hmax => ?_, ?_⟩
    · obtain ⟨y, hy⟩ := flood_of_first (n := n.val) (off := off) (s := u) hflood
      have hrun := hgo false htok (recordRun_of_none.trans hy)
      have hmark : marked ((recordNoted 2 204 F.REEL_STAT2.FLOOD_CNT n.val off u).setReel y) :=
        recordNoted_marks 2 204 F.REEL_STAT2.FLOOD_CNT n.val off u
      have hmark' := BytesOnly.of_mem hmark (issue_mem 0x1013 0 _)
      have hring := recordNoted_ring (ev := 204) (f := F.REEL_STAT2.FLOOD_CNT) (by decide) (by decide) 2 n.val off u
      refine ⟨_, hrun, passRecord_passed ((issue_rd _ _ _ _).trans hring) hmark', passRecord_marked hmark', ?_, issue_lastFault _ _ _,
        execReelRecordRun_mask rfl rfl rfl rfl rfl rfl _ _ _ hrun⟩
      rw [passRecord_get (by decide), issue_get, State.get_of_regs (State.setReel_regs _ _),
        recordNoted_count (by decide) (by decide) (by decide), State.get_of_regs (State.setReel_regs _ _)]
      rfl
    · have hrun : exec (.reelRecordRun n r) s = .next (passRecord n.val off (authFail n.val off r.dfn.val p u)) :=
        hgo true htok (recordRun_of_bad (s := u) hsec hmac)
      obtain ⟨hring, hmark, hcount, hreel⟩ := authFail_counted (n := n.val) (off := off) (s := u) r.dfn.val p
      have hreel' : (passRecord n.val off (authFail n.val off r.dfn.val p u)).bus.reel = authReel r.dfn.val u := by rw [passRecord_bus, hreel]
      refine ⟨_, hrun, passRecord_passed hring hmark, passRecord_marked hmark, ?_, ?_, ?_, ?_,
        execReelRecordRun_mask rfl rfl rfl rfl rfl rfl _ _ _ hrun⟩
      · rw [passRecord_get (by decide)]
        exact hcount
      · exact (congrArg (fun x : ReelSt => SMap.get 0 x.authRun r.dfn.val) hreel').trans (SMap.get_put_self _ _ _ _)
      · rw [hreel']
        rfl
      · rw [hreel']
        rfl
    · have hrun := hgo true htok ((recordRun_of_plain (s := u) hplain).trans (runOutcome_of_drop hout))
      have hmark : marked (markRecord n.val off 4 u) := markRecord_marks n.val off 4 u
      have hbus : (passRecord n.val off (markRecord n.val off 4 u)).bus = u.bus := by rw [passRecord_bus, markRecord_bus]
      refine ⟨_, hrun, passRecord_passed (State.rd_of_regs (markRecord_regs _ _ _ _) _) hmark, passRecord_marked hmark, ?_, ?_,
        execReelRecordRun_mask rfl rfl rfl rfl rfl rfl _ _ _ hrun⟩
      · rw [hbus]
        rfl
      · rw [hbus]
        rfl
    · have hrun := hgo true htok ((recordRun_of_plain (s := u) hplain).trans (runOutcome_of_deliver hout hlow))
      have hreel : (passRecord n.val off (deliverRecord n.val off r.dfn.val r.pair.val u)).bus.reel = _ :=
        (congrArg BusSt.reel (passRecord_bus _ _ _)).trans (deliverRecord_of_room (s := u) hroom)
      refine ⟨_, hrun, ?_, ?_, execReelRecordRun_mask rfl rfl rfl rfl rfl rfl _ _ _ hrun⟩
      · exact (congrArg (fun x : ReelSt => SMap.get 0 x.mbxN r.pair.val) hreel).trans (SMap.get_put_self _ _ _ _)
      · exact (congrArg (fun x : ReelSt => SMap.get 0 x.mbxW r.pair.val) hreel).trans (SMap.get_put_self _ _ _ _)
    · have hrun := hgo true htok (recordRun_of_good (s := u) hsec hmac ⟨hlo, hhi, hmax⟩)
      obtain ⟨hlast, hauth⟩ := acceptFresh_last r.dfn.val r.fresh u
      obtain ⟨hkeep, hkeep'⟩ := runOutcome_keeps (n := n.val) (off := off) (s := acceptFresh r.dfn.val r.fresh u) r
      refine ⟨_, hrun, ?_, ?_, execReelRecordRun_mask rfl rfl rfl rfl rfl rfl _ _ _ hrun⟩
      · rw [passRecord_bus, hkeep, hlast]
      · rw [passRecord_bus, hkeep', hauth]
    · obtain ⟨y, hexec⟩ := execReelOverrun_of_wcet hruns hnext rfl rfl
      set v := passRecord n.val off (recordNoted 0 206 F.REEL_STAT.OVR_CNT n.val off s) with hv
      have hmark := recordNoted_marks 0 206 F.REEL_STAT.OVR_CNT n.val off s
      have hpass : passed v := passRecord_passed (recordNoted_ring (by decide) (by decide) _ _ _ _) hmark
      have hmark' : marked v := passRecord_marked hmark
      have hcount : v.get F.REEL_STAT.OVR_CNT = min (s.get F.REEL_STAT.OVR_CNT + 1) 255 := by
        rw [hv, passRecord_get (by decide), recordNoted_count (by decide) (by decide) (by decide)]
        rfl
      have hctl : ∀ {g : Fld}, g.base = 0x3014F000 ∧ g.s1 = 0 ∧ g.s2 = 0 ∧ g.s3 = 0 → F.REEL_CTL.SAT.Clear g → v.get g = s.get g := by
        intro g hg hsat
        obtain ⟨hbase, h1, h2, h3⟩ := hg
        rw [hv, passRecord_get ⟨h1, by omega, by omega⟩, recordNoted_get (.inr ?_) hsat (by omega)]
        exact ⟨h1.symm, h2.symm, h3.symm, by rw [hbase]; decide⟩
      by_cases hk : max 1 (s.get F.REEL_CFG.OVR_N) ≤ s.bus.reel.ovrRun + 1
      · have hrun := hexec.trans (congrArg Host.Outcome.next (if_pos hk))
        obtain ⟨hoff, hresets⟩ := reelReset_shown (v.setReel y)
        have hovr : (reelReset (v.setReel y)).get F.REEL_STAT.OVR_CNT = v.get F.REEL_STAT.OVR_CNT :=
          (State.get_of_rd (reelReset_rd (by decide) (by decide) (by decide) _)).trans (State.get_of_regs (State.setReel_regs _ _) _ _ _ _)
        have hrd : (reelReset (v.setReel y)).get F.CAN_RX_RD.RD n.val = v.get F.CAN_RX_RD.RD n.val := by
          refine (State.get_of_rd (reelReset_rd ?_ ?_ ?_ _)).trans (State.get_of_regs (State.setReel_regs _ _) _ _ _ _)
          all_goals
            simp only [Fld.addr, F.CAN_RX_RD.RD, F.REEL_CTL.RUN, F.UPD_STAT.STATE, F.UPD_STAT.REASON]
            omega
        refine ⟨_, hrun, hrd.trans hpass, hmark'.of_mem (reelReset_mem _), hovr.trans hcount,
          fun hlt => absurd hlt (not_lt.mpr hk), fun _ => ⟨hoff, ?_⟩, execReelOverrun_mask rfl rfl rfl rfl rfl rfl n .wcet s hrun⟩
        rw [hresets, State.get_of_regs (State.setReel_regs _ _), hctl (by decide) (by decide)]
      · have hrun := hexec.trans (congrArg Host.Outcome.next (if_neg hk))
        refine ⟨_, hrun, hpass, hmark', hcount, fun _ => ⟨rfl, ?_⟩, fun hle => absurd hle hk,
          execReelOverrun_mask rfl rfl rfl rfl rfl rfl n .wcet s hrun⟩
        rw [State.get_of_regs (State.setReel_regs _ _), hctl (by decide) (by decide)]
        exact hrun1
  case trap =>
    intro hruns hhow
    have hrun : exec (.reelOverrun n how) s = .next (reelReset s) := by
      refine congrArg Host.Outcome.next ((if_neg (by simp [hruns])).trans ?_)
      cases how with
      | wcet => exact absurd rfl hhow
      | _ => rfl
    obtain ⟨hoff, hresets⟩ := reelReset_shown s
    exact ⟨_, hrun, hoff, hresets, bus_of_mask (K := { regs := true, tnd := true, upd := true }) rfl (reelReset_mask rfl rfl rfl s),
      execReelOverrun_mask rfl rfl rfl rfl rfl rfl n how s hrun⟩
  case reset =>
    intro hready hne hlt
    obtain ⟨hpd, hrun0, hstop⟩ := hready
    have hrun : exec .reelResetDone s = .next ((issue 0x1004 0 s).set F.REEL_CTL.RUN 1) := by
      refine congrArg Host.Outcome.next ((if_neg ?_).trans (if_neg ?_))
      · simp [State.getB, hpd, hrun0, hstop, hne]
      · rw [issue_get]
        omega
    refine ⟨_, hrun, State.get_set_one _ _ _ _ _ (by decide) (by decide), ?_, ?_, ?_, execReelResetDone_mask rfl rfl rfl _ hrun⟩
    · rw [State.get_set_clear (by decide), issue_get, hstop]
    · rw [State.set_sys, issue_lastFault]
    · exact RegsOnly.set (fun a _ => issue_rd _ _ _ _) List.mem_cons_self 1
  case stopped =>
    intro hready h3
    obtain ⟨hpd, hrun0, hstop⟩ := hready
    have hrun : exec .reelResetDone s = .next (issue 0x1005 ((issue 0x1004 0 s).get F.REEL_CFG.REEL_CLASS)
        ((issue 0x1004 0 s).set F.REEL_CTL.STOPPED 1)) := by
      refine congrArg Host.Outcome.next ((if_neg ?_).trans (if_pos ?_))
      · simp [State.getB, hpd, hrun0, hstop, h3]
      · rw [issue_get]
        omega
    have hregs : RegsOnly [F.REEL_CTL.RUN.addr 0 0 0] s ((issue 0x1004 0 s).set F.REEL_CTL.STOPPED 1) :=
      RegsOnly.set (fun a _ => issue_rd _ _ _ _) (by decide) 1
    refine ⟨_, hrun, ?_, ?_, issue_lastFault _ _ _, hregs.trans fun a _ => issue_rd _ _ _ _, execReelResetDone_mask rfl rfl rfl _ hrun⟩
    · rw [issue_get, State.get_set_clear (by decide), issue_get, hrun0]
    · rw [issue_get, State.get_set_one _ _ _ _ _ (by decide) (by decide)]
  case status =>
    have hexec := execStatusFrameDue_of_def hruns hx hev hctrl
    refine ⟨fun hwait => ⟨_, hexec.trans (congrArg Host.Outcome.next (if_pos hwait)), rfl⟩, fun hfree hroom hplain => ?_⟩
    have hrun := hexec.trans (congrArg Host.Outcome.next (if_neg (by rw [hfree]; decide)))
    obtain ⟨hqueue, hbeat⟩ := statusPushed_of_room (d := d.val) hctrl hplain hroom
    exact ⟨_, hrun, ⟨_, hqueue, rfl, rfl, rfl, rfl, getLsbD_setBits_one _⟩, hbeat, execStatusFrameDue_mask rfl rfl rfl rfl rfl rfl _ _ hrun⟩

end Sys2Proof.Machine

/-! Converter channels (12_converters.md R354 to R369): what chStarting, stopping and holding a channel leave, and the obligation about
them, O20. -/

namespace Sys2Proof.Machine
open Sys2Proof

/-! ### Folds -/

/-- What the step at one member establishes and every step keeps, holds after all of them. -/
theorem foldl_attains {α : Type} {P : State → Prop} {f : State → α → State} {x : α} {l : List α} (hx : x ∈ l) (hstep : ∀ s, P (f s x))
    (hkeep : ∀ y s, P s → P (f s y)) (s : State) : P (l.foldl f s) := by
  obtain ⟨a, b, rfl⟩ := List.append_of_mem hx
  rw [List.foldl_append, List.foldl_cons]
  exact foldl_invariant (fun y _ => hkeep y) (hstep _)

/-! ### The legs of a channel -/

section
variable {s : State} {f : Fld} {c : Nat}

theorem State.leg_of_legs {s t : State} (h : t.pwm.legs = s.pwm.legs) (l : Nat) : t.leg l = s.leg l := by rw [State.leg, h, State.leg]

/-- Bringing a leg under R245 changes no leg's own state. -/
theorem enforceLeg_leg (l j : Nat) (s : State) : (enforceLeg l s).leg j = s.leg j :=
  State.leg_of_legs (legs_of_unswitched (enforceLeg_unswitched l s)) j

/-- A leg's state changed in the same way for all of them: what the change gives each leg of the list. -/
theorem foldl_setLeg {p : LegSt → Prop} {g : LegSt → LegSt} (hg : ∀ x, p (g x)) {l : Nat} {ls : List Nat} (hl : l ∈ ls) (s : State) :
    p ((ls.foldl (fun s l => s.setLeg l (g (s.leg l))) s).leg l) := by
  refine foldl_attains (P := fun t => p (t.leg l)) hl (fun t => ?_) (fun y t ht => ?_) s
  · rw [State.leg_setLeg]
    exact hg _
  · rcases eq_or_ne l y with rfl | hne
    · rw [State.leg_setLeg]
      exact hg _
    · rwa [State.leg_setLeg_of_ne _ hne]

/-- The converter block's registers are out of the legs' reach. -/
theorem offLegs_cnv (h : 0x30100000 ≤ f.base) (i j k : Nat) : OffLegs (f.addr i j k) := by
  simp only [Fld.addr]
  refine ⟨⟨?_, ?_⟩, ?_⟩ <;> omega

theorem holdLegs_get (h : 0x30100000 ≤ f.base) (c i j k : Nat) (s : State) : (holdLegs c s).get f i j k = s.get f i j k :=
  State.get_of_rd (holdLegs_rd (offLegs_cnv h _ _ _) c s)

theorem holdLegs_cnv (c : Nat) (s : State) : (holdLegs c s).cnv = s.cnv :=
  cnv_of_mask (K := { regs := true, pwm := true, act := true }) rfl (holdLegs_mask rfl rfl rfl c s)

/-! ### What a change of STATE leaves -/

theorem chGoto_get (h : F.CNV_CH_STAT.STATE.Clear f ∧ 0x30100000 ≤ f.base) (c st : Nat) (s : State) : (chGoto c st s).get f c = s.get f c := by
  unfold chGoto
  split
  · rfl
  · rw [raise_get_high ⟨by decide, h.2⟩, State.get_set_clear h.1]

theorem chStop_shows {st cause : Nat} (hst : st < 8) (hcause : cause < 16) (c : Nat) (s : State) :
    (chStop c st cause s).chState c = st ∧ (chStop c st cause s).get F.CNV_CH_STAT.STOP_CAUSE c = cause := by
  refine ⟨chGoto_chState hst c _, ?_⟩
  rw [chStop, chGoto_get (by decide)]
  exact State.get_set_fits (by decide) hcause _ _ _ _

theorem State.chState_of_get {s t : State} {c : Nat} (h : t.get F.CNV_CH_STAT.STATE c = s.get F.CNV_CH_STAT.STATE c) : t.chState c = s.chState c := h

/-! ### A start (R354, R360) -/

theorem nlLevel_get (h : F.CNV_CH_STAT.NL_OVER.Clear f ∧ 0x30100000 ≤ f.base) (c : Nat) (s : State) : (nlLevel c s).get f c = s.get f c := by
  refine ite_keeps (p := (·.get f c)) ?_
  refine (foldl_keeps (·.get f c) _ _ (fun l hl t => State.get_of_rd ?_) _).trans (State.get_set_clear h.1 _ _)
  exact (showOffReq_rd (offLegs_cnv h.2 _ _ _) (mem_chLegs_lt hl) _).trans (State.rd_of_regs (State.setLeg_regs _ _ _) _)

theorem nlLevel_cnv (c : Nat) (s : State) : (nlLevel c s).cnv = s.cnv :=
  cnv_of_mask (K := { regs := true, pwm := true }) rfl (nlLevel_mask rfl rfl c s)

/-- A channel's own state as a start leaves it. -/
def startedChan (x : ChSt) : ChSt :=
  { x with
    baseRamp := x.lastRamp, waitRamp := true, hiccuped := false, trimSaid := false, trims := [], shedN := 0
    leaving := [], limitedNow := false, nlBlocked := false, nlReleased := false, stopAtValley := false, periods := 0 }

/-- The channel before its STATE changes to START. -/
def chStarting (c : Nat) (s : State) : State :=
  let h := holdLegs c (s.set F.CNV_CH_CFG.EN 1 c)
  let t := h.setChan c (startedChan (h.chan c))
  ((t.set F.CNV_CH_STAT.ACTIVE (allActive t c) c).set F.CNV_CH_STAT.LIMITED 0 c).set F.CNV_CH_STAT.STOP_CAUSE 0 c

theorem chUsed_setEn (hused : chUsed s c = true) : chUsed (s.set F.CNV_CH_CFG.EN 1 c) c = true := by
  have hready : (s.set F.CNV_CH_CFG.EN 1 c).pdReady 5 = s.pdReady 5 := by
    have hpd : F.PD_STAT.ON.addr 0 0 0 ≠ F.CNV_CH_CFG.EN.addr c 0 0 := by simp only [Fld.addr, F.PD_STAT.ON, F.CNV_CH_CFG.EN]; omega
    rw [State.pdReady, State.pdOn, State.pdFilled, State.bit, State.bit, State.get_set_addr _ _ _ _ _ _ _ _ _ _ hpd,
      State.get_set_addr _ F.CNV_CH_CFG.EN F.PD_STAT.FILLED _ _ _ _ _ _ _ hpd]
    rfl
  rw [chUsed, hready, State.get_set_clear (by decide)]
  exact hused

theorem chStart_of_off (hdrain : s.getB F.CNV_CH_CFG.DRAINING c = false) (hused : chUsed s c = true) (hoff : s.chState c = 0) :
    chStart c s = chGoto c 1 (nlLevel c (chStarting c s)) := by
  have hoff' : (s.set F.CNV_CH_CFG.EN 1 c).chState c = 0 := (State.get_set_clear (by decide) _ _).trans hoff
  unfold chStart
  rw [if_neg (by simp [hdrain])]
  dsimp only
  rw [if_pos (by simp [chUsed_setEn hused, hoff'])]
  rfl

/-- What a start keeps of a channel's registers. -/
theorem chStarting_get (h : F.CNV_CH_STAT.STOP_CAUSE.Clear f ∧ F.CNV_CH_STAT.LIMITED.Clear f ∧ F.CNV_CH_STAT.ACTIVE.Clear f ∧ 0x30100000 ≤ f.base)
    (c : Nat) (s : State) : (chStarting c s).get f c = (s.set F.CNV_CH_CFG.EN 1 c).get f c := by
  obtain ⟨h1, h2, h3, hbase⟩ := h
  simp only [chStarting]
  rw [State.get_set_clear h1, State.get_set_clear h2, State.get_set_clear h3, State.get_of_regs (State.setChan_regs _ _ _), holdLegs_get hbase]

theorem allActive_lt (s : State) (c : Nat) : allActive s c < 2 ^ 8 := by
  have hle : 2 ^ nLegs s c ≤ 2 ^ 6 := Nat.pow_le_pow_right (by decide) (by rw [nLegs]; omega)
  rw [allActive]
  omega

theorem chStarting_active (c : Nat) (s : State) : (chStarting c s).get F.CNV_CH_STAT.ACTIVE c = allActive s c := by
  have hn : ∀ x, ((holdLegs c (s.set F.CNV_CH_CFG.EN 1 c)).setChan c x).get F.CNV_CH_CFG.N_LEG_M1 c = s.get F.CNV_CH_CFG.N_LEG_M1 c := fun x => by
    rw [State.get_of_regs (State.setChan_regs _ _ _), holdLegs_get (by decide), State.get_set_clear (by decide)]
  have hall : ∀ x, allActive ((holdLegs c (s.set F.CNV_CH_CFG.EN 1 c)).setChan c x) c = allActive s c := fun x => by
    rw [allActive, nLegs, hn, allActive, nLegs]
  simp only [chStarting]
  rw [State.get_set_clear (by decide), State.get_set_clear (by decide), hall]
  exact State.get_set_fits (by decide) (allActive_lt s c) _ _ _ _

theorem chStarting_chan (c : Nat) (s : State) : (chStarting c s).chan c = startedChan (s.chan c) := by
  have hchan : (holdLegs c (s.set F.CNV_CH_CFG.EN 1 c)).chan c = s.chan c :=
    (State.chan_of_cnv (holdLegs_cnv _ _) c).trans (State.chan_of_cnv (State.set_cnv _ _ _ _ _ _) c)
  have hset : (chStarting c s).cnv = ((holdLegs c (s.set F.CNV_CH_CFG.EN 1 c)).setChan c (startedChan (s.chan c))).cnv := by
    simp only [chStarting, State.set_cnv, hchan]
  rw [State.chan_of_cnv hset, State.chan_setChan]

/-- A channel that was off is in START. -/
theorem chStart_shows (hdrain : s.getB F.CNV_CH_CFG.DRAINING c = false) (hused : chUsed s c = true) (hoff : s.chState c = 0) :
    (chStart c s).chState c = 1 ∧ (chStart c s).get F.CNV_CH_CFG.EN c = 1 ∧ (chStart c s).get F.CNV_CH_STAT.STOP_CAUSE c = 0 ∧
      (chStart c s).get F.CNV_CH_STAT.ACTIVE c = allActive s c ∧ (chStart c s).chan c = startedChan (s.chan c) := by
  rw [chStart_of_off hdrain hused hoff]
  refine ⟨chGoto_chState (by decide) _ _, ?_, ?_, ?_, ?_⟩
  · rw [chGoto_get (by decide), nlLevel_get (by decide), chStarting_get (by decide), State.get_set_one _ _ _ _ _ (by decide) (by decide)]
  · rw [chGoto_get (by decide), nlLevel_get (by decide)]
    exact State.get_set_zero _ _ _ _ _ (by decide) (by decide)
  · rw [chGoto_get (by decide), nlLevel_get (by decide), chStarting_active]
  · rw [State.chan_of_cnv (chGoto_cnv _ _ _), State.chan_of_cnv (nlLevel_cnv _ _), chStarting_chan]

/-! ### A soft stop (R357) -/

theorem chDisable_of_running (h : s.chState c = 1 ∨ s.chState c = 2) : chDisable c s =
    chGoto c 3 ((((s.set F.CNV_CH_CFG.EN 0 c).set F.CNV_CH_STAT.RETRIES 0 c).set F.CNV_CH_CFG.DRAINING 1 c).set F.CNV_CH_STAT.STOP_CAUSE 1 c) := by
  have hst : ((s.set F.CNV_CH_CFG.EN 0 c).set F.CNV_CH_STAT.RETRIES 0 c).chState c = s.chState c :=
    (State.get_set_clear (by decide) _ _).trans (State.get_set_clear (by decide) _ _)
  unfold chDisable
  dsimp only
  rw [hst]
  rcases h with h | h <;> simp only [h]

theorem chDisable_shows (h : s.chState c = 1 ∨ s.chState c = 2) : (chDisable c s).chState c = 3 ∧
    (chDisable c s).get F.CNV_CH_CFG.DRAINING c = 1 ∧ (chDisable c s).get F.CNV_CH_CFG.EN c = 0 ∧
    (chDisable c s).get F.CNV_CH_STAT.STOP_CAUSE c = 1 ∧ (chDisable c s).get F.CNV_CH_STAT.RETRIES c = 0 := by
  rw [chDisable_of_running h]
  refine ⟨chGoto_chState (by decide) _ _, ?_, ?_, ?_, ?_⟩
  · rw [chGoto_get (by decide), State.get_set_clear (by decide), State.get_set_one _ _ _ _ _ (by decide) (by decide)]
  · rw [chGoto_get (by decide), State.get_set_clear (by decide), State.get_set_clear (by decide), State.get_set_clear (by decide),
      State.get_set_zero _ _ _ _ _ (by decide) (by decide)]
  · rw [chGoto_get (by decide), State.get_set_one _ _ _ _ _ (by decide) (by decide)]
  · rw [chGoto_get (by decide), State.get_set_clear (by decide), State.get_set_clear (by decide),
      State.get_set_zero _ _ _ _ _ (by decide) (by decide)]

/-! ### The hiccup, and a soft start's checkpoint (R355, R358) -/

/-- Without a limit of retries a hiccup's entry goes to HICCUP. -/
theorem hiccupEntry_of_unlimited (hmax : s.get F.CNV_CH_HIC.HICCUP_MAX c = 0) : (hiccupEntry c s).chState c = 4 ∧
    (hiccupEntry c s).get F.CNV_CH_STAT.STOP_CAUSE c = 3 ∧ ((hiccupEntry c s).chan c).hiccuped = true := by
  have hform : ∃ u : State, hiccupEntry c s = (raise 161 (chStop c 4 3 u)).setChan c { (raise 161 (chStop c 4 3 u)).chan c with hiccuped := true } := by
    unfold hiccupEntry
    dsimp only
    rw [if_neg (by simp [hmax])]
    exact ⟨_, rfl⟩
  obtain ⟨u, hu⟩ := hform
  obtain ⟨hst, hcause⟩ := chStop_shows (st := 4) (cause := 3) (by decide) (by decide) c u
  rw [hu]
  refine ⟨?_, ?_, congrArg ChSt.hiccuped (State.chan_setChan _ _ _)⟩
  · rw [State.chState, State.get_of_regs (State.setChan_regs _ _ _), raise_get_high (by decide)]
    exact hst
  · rw [State.get_of_regs (State.setChan_regs _ _ _), raise_get_high (by decide), hcause]

/-- A precharge's failure leaves the channels. -/
theorem preFail_chan (why c : Nat) (s : State) : (preFail why s).get F.CNV_CH_STAT.STATE c = s.get F.CNV_CH_STAT.STATE c ∧
    (preFail why s).get F.CNV_CH_STAT.STOP_CAUSE c = s.get F.CNV_CH_STAT.STOP_CAUSE c ∧ (preFail why s).chan c = s.chan c := by
  have hne : F.CNV_CH_STAT.STATE.addr c 0 0 ≠ F.CHG_PRE.PSTATE.addr 0 0 0 := by
    simp only [Fld.addr, F.CNV_CH_STAT.STATE, F.CHG_PRE.PSTATE]
    omega
  have hrd : (preFail why s).rd (F.CNV_CH_STAT.STATE.addr c 0 0) = s.rd (F.CNV_CH_STAT.STATE.addr c 0 0) := by
    refine ite_keeps (p := (·.rd _)) ?_
    rw [issue_rd]
    exact (State.rd_wr_ne _ _ _ _ hne).trans (State.rd_wr_ne _ _ _ _ hne)
  exact ⟨State.get_of_rd hrd, State.get_of_rd (f := F.CNV_CH_STAT.STOP_CAUSE) hrd,
    State.chan_of_cnv (cnv_of_mask (K := { regs := true, sys := true, kln := true }) rfl (preFail_mask rfl rfl rfl why s)) c⟩

/-- The pre-bias hold of a channel's legs ends with the first checkpoint. -/
def preBiasEnded (k : Nat) (c : Nat) (s : State) : State :=
  if k = 0 then (chLegs s c).foldl (fun s l => s.setLeg l { s.leg l with only := none }) s else s

theorem preBiasEnded_regs (k c : Nat) (s : State) : (preBiasEnded k c s).regs = s.regs :=
  ite_keeps (p := (·.regs)) (foldl_keeps (·.regs) _ _ (by intros; rfl) _)

theorem preBiasEnded_cnv (k c : Nat) (s : State) : (preBiasEnded k c s).cnv = s.cnv :=
  ite_keeps (p := (·.cnv)) (foldl_keeps (·.cnv) _ _ (by intros; rfl) _)

theorem execSoftStartCheckpoint_of_ramp {c k : Fin 3} (hst : s.chState c.val = 1) (hramp : (s.chan c.val).waitRamp = false) :
    exec (.softStartCheckpoint c k) s = .next
      (if s.getB F.CNV_CH_CFG.MON_EN c.val && decide (2 * sint (measure s c.val 2) < sint ((s.chan c.val).lastCmd.getD 3 0)) then
        if c.val = 2 && (hiccupEntry c.val (issueFor (.cnvCh c.val) 0x0C01 0 (preBiasEnded k.val c.val s))).getB F.CNV_CH_CFG.DIR 2 then
          preFail 4 (hiccupEntry c.val (issueFor (.cnvCh c.val) 0x0C01 0 (preBiasEnded k.val c.val s)))
        else hiccupEntry c.val (issueFor (.cnvCh c.val) 0x0C01 0 (preBiasEnded k.val c.val s))
      else preBiasEnded k.val c.val s) := by
  have hmon : (preBiasEnded k.val c.val s).getB F.CNV_CH_CFG.MON_EN c.val = s.getB F.CNV_CH_CFG.MON_EN c.val :=
    State.getB_of_get (State.get_of_regs (preBiasEnded_regs _ _ _) _ _ _ _)
  have hmeas : measure (preBiasEnded k.val c.val s) c.val 2 = measure s c.val 2 := by
    rw [measure, State.rd_of_regs (preBiasEnded_regs _ _ _), State.get_of_regs (preBiasEnded_regs _ _ _),
      State.get_of_regs (preBiasEnded_regs _ _ _), measure]
  rw [← hmon, ← hmeas, ← State.chan_of_cnv (preBiasEnded_cnv k.val c.val s)]
  exact congrArg Host.Outcome.next (if_pos (by simp [hst, hramp]))

/-! ### The end of a firing (R360) -/

theorem nlEnd_legs {l : Nat} (hl : l ∈ chLegs s c) : ((nlEnd c s).leg l).nlFire = none := by
  have hlegs : chLegs (s.set F.CNV_CH_STAT.NL_UNDER 0 c) c = chLegs s c := by
    rw [chLegs, nLegs, State.get_set_clear (by decide), State.get_set_clear (by decide), chLegs, nLegs]
  unfold nlEnd
  dsimp only
  rw [hlegs]
  refine foldl_attains (P := fun t => (t.leg l).nlFire = none) hl (fun t => ?_) (fun y t ht => ?_) _
  · split
    · rw [enforceLeg_leg, State.leg_setLeg]
    · exact Option.not_isSome_iff_eq_none.mp ‹_›
  · split
    · rw [enforceLeg_leg]
      rcases eq_or_ne l y with rfl | hne
      · rw [State.leg_setLeg]
      · rwa [State.leg_setLeg_of_ne _ hne]
    · exact ht

/-! ### Telemetry (R369) -/

/-- The means of a window are shown. -/
def meansShown (sums : SMap Int) (n c w : Nat) (s : State) : State :=
  [0, 1, 2, 3].foldl (fun s i => s.setI F.CNV_TEL_MEAN.MEAN (roundDiv (SMap.get 0 sums (4 * w + i)) n) c i w) s

theorem meansShown_mean (sums : SMap Int) (n c w : Nat) {i : Nat} (hi : i < 4) (s : State) :
    (meansShown sums n c w s).get F.CNV_TEL_MEAN.MEAN c i w = unsigned 32 (roundDiv (SMap.get 0 sums (4 * w + i)) n) := by
  have hne : ∀ x, x ≠ i → F.CNV_TEL_MEAN.MEAN.addr c i w ≠ F.CNV_TEL_MEAN.MEAN.addr c x w := fun x hx he => by
    simp only [Fld.addr, F.CNV_TEL_MEAN.MEAN] at he
    omega
  refine foldl_establishes (Q := fun _ => True)
    (P := fun t => t.get F.CNV_TEL_MEAN.MEAN c i w = unsigned 32 (roundDiv (SMap.get 0 sums (4 * w + i)) n)) (k := i) ?_ (by decide)
    (fun _ _ _ _ _ => trivial) (fun t _ => State.get_setI_self (by decide) _ _ _ _ _) (fun x _ hx t ht => ?_) trivial
  · simp only [List.mem_cons, List.not_mem_nil, or_false]
    omega
  · exact (State.get_set_addr _ _ _ _ _ _ _ _ _ _ (hne x hx)).trans ht

theorem meansShown_regsOf (sums : SMap Int) (n c w : Nat) (s : State) : RegsOf [F.CNV_TEL_MEAN.MEAN] s (meansShown sums n c w s) := fun a ha =>
  foldl_keeps (·.rd a) _ _ (fun _ _ _ => State.rd_wr_ne _ _ _ _ (ha _ List.mem_cons_self _ _ _)) s

/-- The peaks of one channel, reset. -/
def peaksReset (c : Nat) (s : State) : State :=
  [0, 1, 2, 3].foldl (fun s i => (s.set F.CNV_TEL_PK.MAX 0x8000 c i).set F.CNV_TEL_PK.MIN 0x7FFF c i) s

/-- Entry i of channel c shows both peaks reset. -/
def PeaksReset (c i : Nat) (s : State) : Prop := s.get F.CNV_TEL_PK.MAX c i = 0x8000 ∧ s.get F.CNV_TEL_PK.MIN c i = 0x7FFF

theorem peakSet_reset (c i : Nat) (s : State) : PeaksReset c i ((s.set F.CNV_TEL_PK.MAX 0x8000 c i).set F.CNV_TEL_PK.MIN 0x7FFF c i) := by
  refine ⟨?_, State.get_set_fits (by decide) (by decide) _ _ _ _⟩
  rw [State.get_set_clear (by decide)]
  exact State.get_set_fits (by decide) (by decide) _ _ _ _

/-- Resetting any peaks leaves those that are reset already. -/
theorem PeaksReset.keep {c i : Nat} (h : PeaksReset c i s) {d j : Nat} (hi : i < 4) (hj : j < 4) :
    PeaksReset c i ((s.set F.CNV_TEL_PK.MAX 0x8000 d j).set F.CNV_TEL_PK.MIN 0x7FFF d j) := by
  by_cases he : F.CNV_TEL_PK.MAX.addr c i 0 = F.CNV_TEL_PK.MAX.addr d j 0
  · obtain ⟨rfl, rfl⟩ : c = d ∧ i = j := by
      simp only [Fld.addr, F.CNV_TEL_PK.MAX] at he
      omega
    exact peakSet_reset _ _ _
  · obtain ⟨hmax, hmin⟩ := h
    have hrd : ((s.set F.CNV_TEL_PK.MAX 0x8000 d j).set F.CNV_TEL_PK.MIN 0x7FFF d j).rd (F.CNV_TEL_PK.MAX.addr c i 0) =
        s.rd (F.CNV_TEL_PK.MAX.addr c i 0) := (State.rd_wr_ne _ _ _ _ he).trans (State.rd_wr_ne _ _ _ _ he)
    exact ⟨(State.get_of_rd hrd).trans hmax, (State.get_of_rd (f := F.CNV_TEL_PK.MIN) hrd).trans hmin⟩

theorem peaksReset_keep {c i : Nat} (h : PeaksReset c i s) (hi : i < 4) (d : Nat) : PeaksReset c i (peaksReset d s) :=
  foldl_invariant (fun j hj _ ht => ht.keep hi (by simp only [List.mem_cons, List.not_mem_nil, or_false] at hj; omega)) h

theorem peaksReset_self {i : Nat} (hi : i < 4) (c : Nat) (s : State) : PeaksReset c i (peaksReset c s) := by
  have hmem : i ∈ [0, 1, 2, 3] := by
    simp only [List.mem_cons, List.not_mem_nil, or_false]
    omega
  refine foldl_establishes (Q := fun _ => True) (P := PeaksReset c i) hmem (by decide) (fun _ _ _ _ _ => trivial) (fun t _ => peakSet_reset _ _ _)
    (fun j hj _ t ht => ht.keep hi ?_) trivial
  simp only [List.mem_cons, List.not_mem_nil, or_false] at hj
  omega

theorem telClear_reset {mask i : Nat} (hc : c < 3) (hm : mask.testBit c = true) (hi : i < 4) (s : State) : PeaksReset c i (telClear mask s) := by
  refine foldl_attains (P := PeaksReset c i) (List.mem_range.mpr hc) (fun t => ?_) (fun d t ht => ?_) s
  · rw [if_pos hm]
    exact peaksReset_self hi c t
  · split
    · exact peaksReset_keep ht hi d
    · exact ht

theorem telClear_regsOf (mask : Nat) (s : State) : RegsOf [F.CNV_TEL_PK.MAX] s (telClear mask s) := fun a ha => by
  have hne : ∀ c i, a ≠ F.CNV_TEL_PK.MAX.addr c i 0 := fun c i => ha _ List.mem_cons_self c i 0
  refine foldl_keeps (·.rd a) _ _ (fun c _ t => ite_keeps (p := (·.rd a)) (foldl_keeps (·.rd a) _ _ (fun i _ u => ?_) t)) s
  exact (State.rd_wr_ne _ _ _ _ (hne c i)).trans (State.rd_wr_ne _ _ _ _ (hne c i))

end

/-- Settles O20: each operation through what `chGoto`, `chStop` and a channel's legs leave of its registers. -/
theorem converterChannels : Obligations.ConverterChannels := by
  unfold Obligations.ConverterChannels
  intro s m c k w mask i x mean
  refine ⟨?start, ?startDraining, ?stop, ?clear, ?rampTimeout, ?checkpoint, ?short, ?softStop, ?hiccupEnd, ?retryClear, ?nlMax, ?shed, ?holdoff,
    ?telemetry, ?telemetryClear⟩
  case start =>
    intro hw hready hdrain hkind hoff
    have hrun : exec (.cnvChannelStart m c) s = .next ((chStart c.val s).answer .done) := congrArg Host.Outcome.next (if_pos (by simp [hw, hready]))
    obtain ⟨hst, hen, hcause, hact, hchan⟩ := chStart_shows hdrain (by simp [chUsed, hready, hkind]) hoff
    have hchan' : ((chStart c.val s).answer .done).chan c.val = startedChan x := hchan
    refine ⟨_, hrun, hst, ?_, ?_, ?_, ?_, ?_, rfl, execCnvChannelStart_mask rfl rfl rfl rfl rfl rfl _ _ _ hrun⟩
    · rw [State.get_answer, hen]
    · rw [State.get_answer, hcause]
    · rw [State.get_answer, hact]
    · rw [hchan']
      rfl
    · rw [hchan']
      rfl
  case startDraining =>
    intro hw hready hdrain
    have hrun : exec (.cnvChannelStart m c) s = .next ((chStart c.val s).answer .done) := congrArg Host.Outcome.next (if_pos (by simp [hw, hready]))
    rw [chStart, if_pos hdrain] at hrun
    exact ⟨_, hrun, rfl⟩
  case stop =>
    intro hw hready hon
    have hrun : exec (.cnvChannelStop m c) s = .next ((chDisable c.val s).answer .done) := congrArg Host.Outcome.next (if_pos (by simp [hw, hready]))
    obtain ⟨hst, hdrain, hen, hcause, hretry⟩ := chDisable_shows hon
    refine ⟨_, hrun, hst, ?_, ?_, ?_, ?_, rfl, execCnvChannelStop_mask rfl rfl rfl rfl rfl rfl _ _ _ hrun⟩
    · rw [State.get_answer, hdrain]
    · rw [State.get_answer, hen]
    · rw [State.get_answer, hcause]
    · rw [State.get_answer, hretry]
  case clear =>
    intro hw hm hready hst
    have hst' : (s.set F.CNV_CH_STAT.RETRIES 0 c.val).chState c.val = 5 := (State.get_set_clear (by decide) _ _).trans hst
    have hrun : exec (.cnvChannelClear m c) s = .next ((chGoto c.val 0 (s.set F.CNV_CH_STAT.RETRIES 0 c.val)).answer .done) := by
      refine congrArg Host.Outcome.next ((if_pos (by simp [hw, hready])).trans (congrArg (State.answer · .done) ?_))
      unfold chClear
      rw [if_neg (by simp [hm])]
      dsimp only
      simp only [hst']
    refine ⟨_, hrun, ?_, ?_, rfl, execCnvChannelClear_mask rfl rfl rfl _ _ _ hrun⟩
    · rw [State.chState, State.get_answer]
      exact chGoto_chState (by decide) _ _
    · rw [State.get_answer, chGoto_get (by decide), State.get_set_zero _ _ _ _ _ (by decide) (by decide)]
  case rampTimeout =>
    intro hst hramp
    have hrun : exec (.rampTimeout c) s = .next (issueFor (.cnvCh c.val) 0x0C07 (chFaultClass s c.val) (chStop c.val 0 8 s)) :=
      congrArg Host.Outcome.next (if_pos (by simp [hst, show (s.chan c.val).waitRamp = true from hramp]))
    obtain ⟨hoff, hcause⟩ := chStop_shows (st := 0) (cause := 8) (by decide) (by decide) c.val s
    refine ⟨_, hrun, ?_, ?_, issueFor_lastFault _ _ _ _, execRampTimeout_mask rfl rfl rfl rfl rfl rfl rfl _ _ hrun⟩
    · rw [State.chState, issueFor_get]
      exact hoff
    · rw [issueFor_get, hcause]
  case checkpoint =>
    intro hst hramp hmon
    have hrun := (execSoftStartCheckpoint_of_ramp (k := 0) hst hramp).trans (congrArg Host.Outcome.next (if_neg (by simp [hmon])))
    refine ⟨_, hrun, fun l hl => ?_, ?_, execSoftStartCheckpoint_mask rfl rfl rfl rfl rfl rfl rfl _ _ _ hrun⟩
    · exact foldl_setLeg (p := fun x => x.only = none) (g := fun x => { x with only := none }) (fun _ => rfl) hl s
    · exact (State.get_of_regs (preBiasEnded_regs _ _ _) _ _ _ _).trans hst
  case short =>
    intro hst hramp hmon hlow hmax
    have hrun := (execSoftStartCheckpoint_of_ramp (k := k) hst hramp).trans
      (congrArg Host.Outcome.next (if_pos (by rw [hmon, decide_eq_true (show _ from hlow)]; rfl)))
    set u := issueFor (.cnvCh c.val) 0x0C01 0 (preBiasEnded k.val c.val s) with hu
    obtain ⟨h4, h3, hhic⟩ := hiccupEntry_of_unlimited (s := u) (c := c.val)
      (by rw [hu, issueFor_get, State.get_of_regs (preBiasEnded_regs _ _ _), hmax])
    refine ⟨_, hrun, ?_, ?_, ?_, execSoftStartCheckpoint_mask rfl rfl rfl rfl rfl rfl rfl _ _ _ hrun⟩
    all_goals
      obtain ⟨hst', hcause', hchan'⟩ := preFail_chan 4 c.val (hiccupEntry c.val u)
    · split
      · exact hst'.trans h4
      · exact h4
    · split
      · exact hcause'.trans h3
      · exact h3
    · split
      · exact (congrArg ChSt.hiccuped hchan').trans hhic
      · exact hhic
  case softStop =>
    intro hst
    have hrun : exec (.softStopTimeout c) s = .next (issueFor (.cnvCh c.val) 0x0C06 0 (chStop c.val 0 7 s)) :=
      congrArg Host.Outcome.next (if_pos (by simp [hst]))
    obtain ⟨hoff, hcause⟩ := chStop_shows (st := 0) (cause := 7) (by decide) (by decide) c.val s
    refine ⟨_, hrun, ?_, ?_, issueFor_lastFault _ _ _ _, execSoftStopTimeout_mask rfl rfl rfl rfl rfl rfl rfl _ _ hrun⟩
    · rw [State.chState, issueFor_get]
      exact hoff
    · rw [issueFor_get, hcause]
  case hiccupEnd =>
    intro hst
    set u := s.setChan c.val { x with baseRamp := x.lastRamp, waitRamp := true } with hu
    set v := u.set F.CNV_CH_STAT.RETRIES (min (s.get F.CNV_CH_STAT.RETRIES c.val + 1) 15) c.val with hv
    have hrun : exec (.hiccupOffEnd c) s = .next (raise 162 (chGoto c.val 1 (nlLevel c.val v))) :=
      congrArg Host.Outcome.next (if_pos (by simp [hst]))
    refine ⟨_, hrun, ?_, ?_, ?_, execHiccupOffEnd_mask rfl rfl rfl rfl _ _ hrun⟩
    · rw [State.chState, raise_get_high (by decide)]
      exact chGoto_chState (by decide) _ _
    · have hchan : (raise 162 (chGoto c.val 1 (nlLevel c.val v))).chan c.val = { x with baseRamp := x.lastRamp, waitRamp := true } := by
        rw [State.chan_of_cnv (raise_cnv _ _), State.chan_of_cnv (chGoto_cnv _ _ _), State.chan_of_cnv (nlLevel_cnv _ _), hv,
          State.chan_of_cnv (State.set_cnv _ _ _ _ _ _), hu, State.chan_setChan]
      rw [hchan]
    · rw [raise_get_high (by decide), chGoto_get (by decide), nlLevel_get (by decide), hv]
      exact State.get_set_fits (by decide) (by simp only [F.CNV_CH_STAT.RETRIES]; omega) _ _ _ _
  case retryClear => exact fun hst => ⟨_, congrArg Host.Outcome.next (if_pos (by simp [hst])), rfl⟩
  case nlMax =>
    intro hunder
    have hrun : exec (.nlMaxTimeout c) s = .next (nlEnd c.val s) := congrArg Host.Outcome.next (if_pos hunder)
    refine ⟨_, hrun, ?_, fun l hl => nlEnd_legs hl, execNlMaxTimeout_mask rfl rfl rfl rfl rfl _ _ hrun⟩
    exact (State.get_of_rd (nlEnd_rd _ _ (offLegs_cnv (f := F.CNV_CH_STAT.NL_UNDER) (by decide) _ _ _).1)).trans
      (State.get_set_zero _ _ _ _ _ (by decide) (by decide))
  case shed =>
    intro hen hst hlock hshed hne
    have hrun : exec (.shedStart c) s = .next (raise 165 ((s.setChan c.val { x with shedN := 0, leaving := shedLegs s c.val }).set
        F.CNV_CH_STAT.SHEDDING 1 c.val)) := congrArg Host.Outcome.next (if_pos (by simp [hen, hst, hlock, hshed, hne]))
    refine ⟨_, hrun, ?_, ?_, execShedStart_mask rfl rfl rfl _ _ hrun⟩
    · rw [raise_get_high (by decide), State.get_set_one _ _ _ _ _ (by decide) (by decide)]
    · rw [State.chan_of_cnv (raise_cnv _ _), State.chan_of_cnv (State.set_cnv _ _ _ _ _ _), State.chan_setChan]
  case holdoff => exact ⟨_, rfl, rfl⟩
  case telemetry =>
    intro hn
    have hrun : exec (.telemetryWindowClose c w) s = .next ((meansShown x.telSum (SMap.get 0 x.telCnt w.val) c.val w.val s).setChan c.val
        { x with telSum := [0, 1, 2, 3].foldl (fun m i => SMap.put 0 m (4 * w.val + i) 0) x.telSum, telCnt := SMap.put 0 x.telCnt w.val 0 }) :=
      congrArg Host.Outcome.next (if_neg hn)
    refine ⟨_, hrun, ?_, ?_, fun a ha => ?_, execTelemetryWindowClose_mask rfl rfl _ _ _ hrun⟩
    · rw [State.get_of_regs (State.setChan_regs _ _ _), meansShown_mean _ _ _ _ i.isLt]
    · rw [State.chan_setChan, SMap.get_put_self]
    · exact (State.rd_of_regs (State.setChan_regs _ _ _) a).trans (meansShown_regsOf _ _ _ _ _ a ha)
  case telemetryClear =>
    intro hw hready hmask
    have hrun : exec (.telemetryClear m mask) s = .next ((telClear mask.val s).answer .done) :=
      congrArg Host.Outcome.next (if_pos (by simp [hw, hready]))
    obtain ⟨hmax, hmin⟩ := telClear_reset c.isLt hmask i.isLt s
    refine ⟨_, hrun, ?_, ?_, rfl, fun a ha => ?_, execTelemetryClear_mask rfl rfl _ _ _ hrun⟩
    · rw [State.get_answer, hmax]
    · rw [State.get_answer, hmin]
    · exact (State.rd_of_regs (State.answer_regs _ _) a).trans (telClear_regsOf _ _ a ha)

end Sys2Proof.Machine

/-! Charging (13_charging_powerpath.md R377 to R393): what the supervision's tasks and time-outs leave of its registers, and the
obligation about them, O29. -/

namespace Sys2Proof.Machine
open Sys2Proof

section
variable {s : State} {f : Fld}

/-! ### A coefficient of the charging loops -/

theorem enqueue_rd {a w : Nat} (ha : 0x30100000 ≤ a) (hw : w < 16) (e : QEntry) (s : State) : (enqueue w e s).rd a = s.rd a := by
  have hquiet : Quiet a := by simp only [Quiet]; omega
  have hne : ∀ {f : Fld}, f.base = 0x30090000 ∧ f.s1 = 4096 → a ≠ f.addr w 0 0 := fun {f} hf => by
    obtain ⟨hb, hs⟩ := hf
    simp only [Fld.addr, hb, hs]
    omega
  unfold enqueue
  dsimp only
  split
  · exact (raise_quiet _ _ _ (by decide) hquiet).trans (State.rd_bump_ne (hne (by decide)) (hne (by decide)))
  · exact State.rd_wr_ne _ _ _ _ (hne (f := F.WHL_CTL.CQ_LEVEL) (by decide))

theorem chgCoef_rd {a w : Nat} (ha : 0x30100000 ≤ a) (hw : w < 16) (i v : Nat) (s : State) : (chgCoef w i v s).rd a = s.rd a := by
  refine ite_keeps (p := (·.rd a)) ?_
  unfold coefWrite
  split
  · rfl
  · split
    · exact ite_keeps (p := (·.rd a)) (State.rd_of_regs (regs_of_mask (K := { mem := true }) rfl (store_mask rfl (cleanWord _ s) _ _ _)) _)
    · exact ite_keeps (p := (·.rd a)) (enqueue_rd ha hw _ s)

theorem chgCoef_get (hf : 0x30100000 ≤ f.base) {w : Nat} (hw : w < 16) (i v : Nat) (s : State) (j k l : Nat) :
    (chgCoef w i v s).get f j k l = s.get f j k l := State.get_of_rd (chgCoef_rd (by simp only [Fld.addr]; omega) hw i v s)

theorem chgCoef_sys (w i v : Nat) (s : State) : (chgCoef w i v s).sys = s.sys :=
  sys_of_mask (K := { regs := true, mem := true, resp := true, fab := true, whl := true }) rfl (chgCoef_mask rfl rfl rfl rfl rfl w i v s)

theorem chgCoef_chg (w i v : Nat) (s : State) : (chgCoef w i v s).chg = s.chg :=
  chg_of_mask (K := { regs := true, mem := true, resp := true, fab := true, whl := true }) rfl (chgCoef_mask rfl rfl rfl rfl rfl w i v s)

@[simp] theorem quietly_get (g : State → State) (s : State) (f : Fld) (i j k : Nat) : (quietly g s).get f i j k = (g s).get f i j k :=
  State.get_of_regs (quietly_regs g s) f i j k

theorem endCode_get (hf : 0x30100000 ≤ f.base) (r : Nat) (s : State) (i j k : Nat) : (endCode r s).get f i j k = s.get f i j k := by
  unfold endCode
  split
  · rfl
  · rw [raise_get_high ⟨by decide, hf⟩, issue_get]

/-! ### The task (R378) -/

theorem calLoad_of_none (h : s.thm.calDue = []) (p : Nat) : calLoad p s = s := by
  unfold calLoad
  rw [h]
  simp only [List.filter_nil, List.foldl_nil]
  rw [← h]

/-- With no reason waiting and no session the task starts one, serves V2L, or waits. -/
theorem sessTask_of_idle (hst : s.get F.CHG_SESS.STATE = 0 ∨ s.get F.CHG_SESS.STATE = 1) (hends : s.chg.ends = []) (hhost : s.chg.hostMs = 0)
    (i : ChgIn) : sessTask i s =
      if mayCharge s then raise 171 ((chStart 1 (chStart 0 s)).set F.CHG_SESS.STATE 2)
      else if mayExport s then raise 171 ((chStart 1 (chStart 0 s)).set F.CHG_SESS.STATE 5)
      else s.set F.CHG_SESS.STATE (if s.chg.cmd then 1 else 0) := by
  have hact : sessActive s = false := by rcases hst with h | h <;> simp [sessActive, h]
  have htask : taskEnds i s = s := by
    unfold taskEnds
    exact if_pos (by simp [hact])
  have hend : ∀ hard, endSession hard s = s := fun hard => by
    unfold endSession
    rw [hends]
    rfl
  unfold sessTask
  dsimp only
  rw [htask, if_neg (by omega), hend]
  rcases hst with h | h <;> simp only [h]

/-- What the task's limits write. -/
theorem limitWrite_rd {a : Nat} (ha : 0x30100000 ≤ a) (i : ChgIn) (s : State) : (limitWrite i s).rd a =
    (s.set F.CHG_SESS.P_LIM (if s.chg.fresh then pLimit i s else s.get F.CHG_SESS.P_LIM - s.chg.ramp)).rd a := by
  unfold limitWrite
  dsimp only
  rw [chgCoef_rd ha (by decide), chgCoef_rd ha (by decide)]

theorem limitWrite_get (hf : 0x30100000 ≤ f.base ∧ F.CHG_SESS.P_LIM.Clear f) (i : ChgIn) (s : State) : (limitWrite i s).get f = s.get f :=
  (State.get_of_rd (limitWrite_rd (by simp only [Fld.addr]; omega) i s)).trans (State.get_set_clear hf.2 _ _)

theorem limitWrite_parts (i : ChgIn) (s : State) : (limitWrite i s).sys = s.sys ∧ (limitWrite i s).chg = s.chg := by
  unfold limitWrite
  dsimp only
  rw [chgCoef_sys, chgCoef_sys, chgCoef_chg, chgCoef_chg]
  exact ⟨rfl, rfl⟩

/-! ### The 12 V battery (R386 to R391) -/

/-- A part of the state that the 12 V battery's task leaves. -/
structure B12Keeps {β : Type} (p : State → β) : Prop where
  set : ∀ (f : Fld) (v : Nat) (s : State), f.addr 0 0 0 = 0x30110020 → p (s.set f v) = p s
  chg : ∀ (x : ChgSt) (s : State), p (s.setChg x) = p s
  coef : ∀ (i v : Nat) (s : State), p (chgCoef 5 i v s) = p s
  raise : ∀ (n : Nat) (s : State), n < 256 → p (raise n s) = p s
  issue : ∀ (code : Nat) (s : State), p (issue code 0 s) = p s

section
variable {β : Type} {p : State → β} (h : B12Keeps p)
include h

theorem B12Keeps.start (battV : Nat) (s : State) : p (b12Start battV s) = p s := by
  unfold b12Start
  dsimp only
  rw [h.raise _ _ (by decide), h.set _ _ _ rfl, h.chg, h.set _ _ _ rfl, h.set _ _ _ rfl]

theorem B12Keeps.ending (r phase : Nat) (s : State) : p (b12End r phase s) = p s := by
  have hcode : ∀ u, p (endCode r u) = p u := fun u => by
    unfold endCode
    split
    · rfl
    · rw [h.raise _ _ (by decide), h.issue]
  unfold b12End
  dsimp only
  rw [h.chg, hcode, h.set _ _ _ rfl, h.set _ _ _ rfl]

theorem B12Keeps.recharge (battV : Nat) (s : State) : p (recharge battV s).1 = p s := h.chg _ _

theorem B12Keeps.zone (s : State) : p (zoneTask s) = p s := by
  unfold zoneTask
  dsimp only
  split <;> exact h.set _ _ _ rfl

theorem B12Keeps.timer (i : ChgIn) (s : State) : p (timerTask i s) = p s := by
  refine ite_keeps (p := p) ?_
  have hset : ∀ b, p (s.setB F.CHG_B12.HALF_RATE b) = p s := fun b => h.set _ _ _ rfl
  dsimp only
  split
  · rw [h.chg, h.set _ _ _ rfl, hset]
  · rw [h.chg, hset]

theorem B12Keeps.phase (i : ChgIn) (s : State) : p (b12Phase i s) = p s := by
  unfold b12Phase
  dsimp only
  split
  · exact h.set _ _ _ rfl
  split
  · exact h.start _ _
  split
  · rw [h.raise _ _ (by decide), h.ending]
  split
  · exact h.ending _ _ _
  split
  · split
    · exact h.set _ _ _ rfl
    · split
      · exact h.ending _ _ _
      · exact h.chg _ _
  · exact ite_keeps (h.set _ _ _ rfl)
  · exact ite_keeps (h.set _ _ _ rfl)
  · split
    · rw [h.set _ _ _ rfl, h.chg, h.recharge]
    · exact h.recharge _ _
  · split
    · rw [h.start, h.recharge]
    · exact h.recharge _ _
  · rfl

theorem B12Keeps.task (i : ChgIn) (s : State) : p (b12Task i s) = p s := by
  have hsteps : p (timerTask i (b12Phase i (zoneTask s))) = p s := by rw [h.timer, h.phase, h.zone]
  unfold b12Task
  dsimp only
  split
  · exact hsteps
  · rw [h.coef, h.coef, hsteps]

end

theorem b12Keeps_rd {a : Nat} (ha : 0x30100000 ≤ a) (hne : a ≠ 0x30110020) : B12Keeps (·.rd a) where
  set f v s hf := State.rd_wr_ne _ _ _ _ (by rw [hf]; exact hne)
  chg x s := rfl
  coef i v s := chgCoef_rd ha (by decide) i v s
  raise n s hn := raise_quiet _ _ _ hn (by simp only [Quiet]; omega)
  issue code s := issue_rd _ _ _ _

theorem b12Keeps_cfg : B12Keeps (·.sys.cfg) where
  set f v s hf := rfl
  chg x s := rfl
  coef i v s := congrArg SysSt.cfg (chgCoef_sys 5 i v s)
  raise n s hn := congrArg SysSt.cfg (raise_sys n s)
  issue code s := by rw [issue, issueFor_eq]

theorem b12Task_get (hf : 0x30100000 ≤ f.base) (h1 : f.s1 = 0 ∧ f.base ≠ 0x30110020) (i : ChgIn) (s : State) :
    (b12Task i s).get f = s.get f := by
  have haddr : f.addr 0 0 0 = f.base := by simp [Fld.addr]
  exact State.get_of_rd ((b12Keeps_rd (by rw [haddr]; exact hf) (by rw [haddr]; exact h1.2)).task i s)

/-- While the converter does not serve the battery the phase is 0. -/
theorem b12Task_of_off (hoff : s.chState 2 ≠ 2) (i : ChgIn) : b12Task i s = (zoneTask s).set F.CHG_B12.PHASE 0 := by
  have hst : (zoneTask s).chState 2 ≠ 2 := by
    have hkeep := (b12Keeps_rd (a := F.CNV_CH_STAT.STATE.addr 2 0 0) (by decide) (by decide)).zone s
    rwa [State.chState, State.get_of_rd hkeep]
  have hphase : b12Phase i (zoneTask s) = (zoneTask s).set F.CHG_B12.PHASE 0 := if_pos (by simp [hst])
  have hzero : ((zoneTask s).set F.CHG_B12.PHASE 0).get F.CHG_B12.PHASE = 0 := State.get_set_zero _ _ _ _ _ (by decide) (by decide)
  have htimer : timerTask i ((zoneTask s).set F.CHG_B12.PHASE 0) = (zoneTask s).set F.CHG_B12.PHASE 0 := if_neg (by rw [hzero]; decide)
  unfold b12Task
  dsimp only
  rw [hphase, htimer, if_pos hzero]

theorem zoneTask_chg (s : State) : (zoneTask s).chg = s.chg :=
  chg_of_mask (K := { regs := true }) rfl (zoneTask_mask rfl s)

/-! ### The precharge (R392, R393) -/

/-- The task's first step: HOLD once the link has reached the target. -/
def preHeld (i : ChgIn) (s : State) : State :=
  if s.get F.CHG_PRE.PSTATE = 1 ∧ ((i.linkV : Int) - (s.get F.CHG_PRE.TARGET : Nat)).natAbs ≤ 10 * max 1 (s.get F.CHG_PRE_CFG.PRE_DV) then
    raise 175 (s.set F.CHG_PRE.PSTATE 2) else s

/-- Its second: DONE once a soft stop has ended. -/
def preDone (s : State) : State :=
  if s.chg.preStop && !chActive s 2 then
    (if s.get F.CHG_PRE.PSTATE = 2 then s.set F.CHG_PRE.PSTATE 3 else s).setChg { s.chg with preStop := false }
  else s

theorem preTask_eq (i : ChgIn) (s : State) : preTask i s = preDone (preHeld i s) := rfl

theorem preTask_get (hf : F.CHG_PRE.PSTATE.Clear f ∧ 0x30100000 ≤ f.base) (i : ChgIn) (s : State) : (preTask i s).get f = s.get f := by
  have hheld : (preHeld i s).get f = s.get f :=
    ite_keeps (p := (·.get f)) (by rw [raise_get_high ⟨by decide, hf.2⟩, State.get_set_clear hf.1])
  rw [preTask_eq, ← hheld]
  refine ite_keeps (p := (·.get f)) ((State.get_of_regs (State.setChg_regs _ _) _ _ _ _).trans ?_)
  exact ite_keeps (p := (·.get f)) (State.get_set_clear hf.1 _ _)

theorem preTask_sys (i : ChgIn) (s : State) : (preTask i s).sys = s.sys := by
  have hheld : (preHeld i s).sys = s.sys := ite_keeps (p := (·.sys)) (raise_sys _ _)
  rw [preTask_eq, ← hheld]
  exact ite_keeps (p := (·.sys)) (ite_keeps (p := (·.sys)) rfl)

/-- Without a stop under way the task holds the precharge once the link has reached its target. -/
theorem preTask_of_running {i : ChgIn} (hstop : s.chg.preStop = false) : (preTask i s).get F.CHG_PRE.PSTATE =
    if s.get F.CHG_PRE.PSTATE = 1 ∧ ((i.linkV : Int) - (s.get F.CHG_PRE.TARGET : Nat)).natAbs ≤ 10 * max 1 (s.get F.CHG_PRE_CFG.PRE_DV) then 2
    else s.get F.CHG_PRE.PSTATE := by
  have hstop' : (preHeld i s).chg.preStop = false := by
    unfold preHeld
    split
    · rw [raise_chg]
      exact hstop
    · exact hstop
  have hdone : preDone (preHeld i s) = preHeld i s := if_neg (by simp [hstop'])
  rw [preTask_eq, hdone, preHeld]
  split
  · rw [raise_get_high (by decide)]
    exact State.get_set_fits (by decide) (by decide) _ _ _ _
  · rfl

theorem chDisable_get (hf : 0x30110000 ≤ f.base) {c : Nat} (hc : c < 3) (s : State) (i j k : Nat) : (chDisable c s).get f i j k = s.get f i j k :=
  State.get_of_rd (chDisable_rd (Aloof.offChannel (by unfold Aloof; simp only [Fld.addr]; omega) hc) s)

theorem fastStop_get (hf : 0x30110000 ≤ f.base) {c : Nat} (hc : c < 3) (s : State) (i j k : Nat) : (fastStop c s).get f i j k = s.get f i j k :=
  State.get_of_rd (fastStop_rd (Aloof.offChannel (by unfold Aloof; simp only [Fld.addr]; omega) hc) s)

/-- A precharge under way that fails. -/
theorem preFail_shows {why : Nat} (hpre : s.get F.CHG_PRE.PSTATE = 1 ∨ s.get F.CHG_PRE.PSTATE = 2) (hwhy : why < 8) :
    (preFail why s).get F.CHG_PRE.PSTATE = 4 ∧ (preFail why s).get F.CHG_PRE.FAIL = why := by
  unfold preFail
  rw [if_pos hpre]
  refine ⟨?_, ?_⟩
  · rw [issue_get, State.get_set_clear (by decide)]
    exact State.get_set_fits (by decide) (by decide) _ _ _ _
  · rw [issue_get]
    exact State.get_set_fits (by decide) hwhy _ _ _ _

theorem preFail_timeout (hpre : s.get F.CHG_PRE.PSTATE = 1 ∨ s.get F.CHG_PRE.PSTATE = 2) : (preFail 1 s).sys.lastFault = 0x0D20 :=
  (congrArg (fun u : State => u.sys.lastFault) (if_pos hpre)).trans (issue_lastFault _ _ _)

/-! ### A session's end (R379, R381) -/

theorem obcSoftStop_get (hf : 0x30110000 ≤ f.base) (s : State) : (obcSoftStop s).get f = s.get f := by
  rw [obcSoftStop, chDisable_get hf (by decide), chDisable_get hf (by decide)]

theorem obcSoftStop_parts (s : State) : (obcSoftStop s).sys = s.sys ∧ (obcSoftStop s).chg = s.chg :=
  ⟨sys_of_mask (K := { regs := true, fab := true, pwm := true, cnv := true, act := true }) rfl (obcSoftStop_mask rfl rfl rfl rfl rfl s),
    chg_of_mask (K := { regs := true, fab := true, pwm := true, cnv := true, act := true }) rfl (obcSoftStop_mask rfl rfl rfl rfl rfl s)⟩

/-- One reason of its own ends the session softly. -/
theorem endSession_of_one {r : Nat} (hends : s.chg.ends = [r]) (h7 : r ≠ 7) : endSession false s = obcSoftStop
    (((endCode r (s.set F.CHG_SESS.END_REASON r)).setChg { (endCode r (s.set F.CHG_SESS.END_REASON r)).chg with
      ends := [], cmd := false, pause := 0, hostMs := 0, overMs := 0 }).set F.CHG_SESS.STATE 6) := by
  unfold endSession
  rw [hends]
  simp [insertEnd, h7]

/-- What such an end leaves. -/
theorem endSession_shows {r : Nat} (hends : s.chg.ends = [r]) (h2 : 2 ≤ r ∧ r < 16) (h7 : r ≠ 7) :
    (endSession false s).get F.CHG_SESS.STATE = 6 ∧ (endSession false s).get F.CHG_SESS.END_REASON = r ∧
      (endSession false s).chg.cmd = false ∧ (endSession false s).chg.ends = [] ∧ (endSession false s).sys.lastFault = 0x0D00 + r := by
  obtain ⟨hsys, hchg⟩ := obcSoftStop_parts (((endCode r (s.set F.CHG_SESS.END_REASON r)).setChg
    { (endCode r (s.set F.CHG_SESS.END_REASON r)).chg with ends := [], cmd := false, pause := 0, hostMs := 0, overMs := 0 }).set F.CHG_SESS.STATE 6)
  have hfault : (endCode r (s.set F.CHG_SESS.END_REASON r)).sys.lastFault = 0x0D00 + r := by
    rw [endCode, if_neg (by omega), raise_sys, issue_lastFault]
  rw [endSession_of_one hends h7]
  refine ⟨?_, ?_, ?_, ?_, ?_⟩
  · rw [obcSoftStop_get (by decide)]
    exact State.get_set_fits (by decide) (by decide) _ _ _ _
  · rw [obcSoftStop_get (by decide), State.get_set_clear (by decide), State.get_of_regs (State.setChg_regs _ _), endCode_get (by decide)]
    exact State.get_set_fits (by decide) h2.2 _ _ _ _
  · rw [hchg, State.set_chg]
    rfl
  · rw [hchg, State.set_chg]
    rfl
  · rw [hsys, State.set_sys]
    exact hfault

/-! ### The 12 V battery's session (R388, R391) -/

theorem b12Start_shows (battV : Nat) (s : State) : (b12Start battV s).get F.CHG_B12.PHASE = (if battV < 1050 then 1 else 2) ∧
    (b12Start battV s).get F.CHG_B12.TIMER = 0 ∧ (b12Start battV s).get F.CHG_B12.HALF_RATE = 0 := by
  unfold b12Start
  dsimp only
  refine ⟨?_, ?_, ?_⟩
  · rw [raise_get_high (by decide)]
    exact State.get_set_fits (by decide) (by split <;> decide) _ _ _ _
  · rw [raise_get_high (by decide), State.get_set_clear (by decide), State.get_of_regs (State.setChg_regs _ _), State.get_set_clear (by decide),
      State.get_set_zero _ _ _ _ _ (by decide) (by decide)]
  · rw [raise_get_high (by decide), State.get_set_clear (by decide), State.get_of_regs (State.setChg_regs _ _),
      State.get_set_zero _ _ _ _ _ (by decide) (by decide)]

theorem b12End_shows {r phase : Nat} (h : (2 ≤ r ∧ r < 16) ∧ phase < 8) (s : State) : (b12End r phase s).get F.CHG_B12.PHASE = phase ∧
    (b12End r phase s).get F.CHG_B12.END_REASON = r ∧ (b12End r phase s).sys.lastFault = 0x0D00 + r := by
  obtain ⟨hr, hphase⟩ := h
  unfold b12End
  refine ⟨?_, ?_, ?_⟩
  · rw [State.get_of_regs (State.setChg_regs _ _), endCode_get (by decide)]
    exact State.get_set_fits (by decide) hphase _ _ _ _
  · rw [State.get_of_regs (State.setChg_regs _ _), endCode_get (by decide), State.get_set_clear (by decide)]
    exact State.get_set_fits (by decide) hr.2 _ _ _ _
  · rw [State.setChg_sys, endCode, if_neg (by omega), raise_sys, issue_lastFault]

/-! ### The task as a whole -/

/-- The task of pair B while no calibration set is due and no actuator limit is scaled. -/
theorem execChargeTask_of_running {i : ChgIn} (hpair : pairBRuns s = true) (hready : s.pdReady 8 = true) (hcal : s.thm.calDue = [])
    (hcfg : (sessTask i s).sys.cfg.chg.actLims = []) : ∃ u, exec (.chargeTask i) s = .next u ∧ u.resp = s.resp ∧
      u.regs = (preTask i (b12Task i (limitWrite i (sessTask i s)))).regs := by
  have hlims : actLimits (preTask i (b12Task i (limitWrite i (sessTask i s)))) = preTask i (b12Task i (limitWrite i (sessTask i s))) := by
    have hnone : (preTask i (b12Task i (limitWrite i (sessTask i s)))).sys.cfg.chg.actLims = [] := by
      rw [preTask_sys, b12Keeps_cfg.task i (limitWrite i (sessTask i s)), (limitWrite_parts i (sessTask i s)).1, hcfg]
    unfold actLimits chgPar
    rw [hnone]
    rfl
  have hrun : exec (.chargeTask i) s = .next (quietly (fun s => actLimits (preTask i (b12Task i (limitWrite i (sessTask i (calLoad 1 s)))))) s) :=
    congrArg Host.Outcome.next (if_pos (by simp [hpair, hready]))
  refine ⟨_, hrun, rfl, ?_⟩
  rw [quietly_regs, calLoad_of_none hcal, hlims]

end

theorem chStart_sys (c : Nat) (s : State) : (chStart c s).sys = s.sys :=
  sys_of_mask (K := { regs := true, fab := true, pwm := true, cnv := true, act := true }) rfl (chStart_mask rfl rfl rfl rfl rfl c s)

/-- Settles O29: the task through its stages, the session's end and the precharge's through what they leave of the registers. -/
theorem chargeSessions : Obligations.ChargeSessions := by
  unfold Obligations.ChargeSessions
  intro s i battI battV st hpair
  refine ⟨?waits, ?starts, ?pauses, ?stale, ?pauseEnd, ?hvHold, ?accepted, ?refused, ?safety, ?preTimeout, ?preHold⟩
  case waits =>
    intro hready hcal hlims hst hcmd hends hhost hfresh hstop hoff
    have hsess : sessTask i s = s.set F.CHG_SESS.STATE 0 := by
      rw [sessTask_of_idle (.inl hst) hends hhost, if_neg (by simp [mayCharge, hcmd]), if_neg (by simp [mayExport, hcmd]), hcmd]
      rfl
    obtain ⟨u, hrun, hresp, hregs⟩ := execChargeTask_of_running (i := i) hpair hready hcal (by rw [hsess]; exact hlims)
    rw [hsess] at hregs
    set v := s.set F.CHG_SESS.STATE 0 with hv
    have hoff' : (limitWrite i v).chState 2 ≠ 2 := by
      have hkeep : (limitWrite i v).chState 2 = s.chState 2 := (State.get_of_rd (limitWrite_rd (by decide) i v)).trans
        (State.get_of_rd ((State.rd_wr_ne _ _ _ _ (by decide)).trans (State.rd_wr_ne _ _ _ _ (by decide))))
      rwa [hkeep]
    have hpre : (b12Task i (limitWrite i v)).chg.preStop = false := by
      rw [b12Task_of_off hoff', State.set_chg, zoneTask_chg, (limitWrite_parts i v).2, hv, State.set_chg, hstop]
    refine ⟨_, hrun, ?_, ?_, ?_, ?_, hresp, execChargeTask_mask rfl rfl rfl rfl rfl rfl rfl rfl rfl rfl rfl rfl _ _ hrun⟩
    all_goals rw [State.get_of_regs hregs]
    · rw [preTask_get (by decide), b12Task_get (by decide) (by decide), limitWrite_get (by decide), hv,
        State.get_set_zero _ _ _ _ _ (by decide) (by decide)]
    · have hlt := State.get_lt s F.CHG_SESS.P_LIM 0 0 0
      have hfresh' : v.chg.fresh = false := by rw [hv, State.set_chg, hfresh]
      have hp : v.get F.CHG_SESS.P_LIM = s.get F.CHG_SESS.P_LIM := State.get_set_clear (by decide) _ _
      rw [preTask_get (by decide), b12Task_get (by decide) (by decide), State.get_of_rd (limitWrite_rd (by decide) i v), hfresh', hp,
        if_neg (by decide)]
      exact State.get_set_fits (by decide) (by simp only [F.CHG_SESS.P_LIM] at *; omega) _ _ _ _
    · rw [preTask_get (by decide), b12Task_of_off hoff', State.get_set_zero _ _ _ _ _ (by decide) (by decide)]
    · have hkeep : ∀ {f : Fld}, 0x30100000 ≤ f.base ∧ F.CHG_SESS.P_LIM.Clear f → f.s1 = 0 ∧ f.base ≠ 0x30110020 → F.CHG_SESS.STATE.Clear f →
          (b12Task i (limitWrite i v)).get f = s.get f := fun h1 h2 h3 => by
        rw [b12Task_get h1.1 h2, limitWrite_get h1, hv, State.get_set_clear h3]
      rw [preTask_of_running hpre, hkeep (by decide) (by decide) (by decide), hkeep (by decide) (by decide) (by decide),
        hkeep (by decide) (by decide) (by decide)]
  case starts =>
    intro hready hcal hlims hst hends hhost hmay
    have hsess : sessTask i s = raise 171 ((chStart 1 (chStart 0 s)).set F.CHG_SESS.STATE 2) := by
      rw [sessTask_of_idle hst hends hhost, if_pos hmay]
    have hcfg : (chStart 1 (chStart 0 s)).sys = s.sys := by rw [chStart_sys, chStart_sys]
    obtain ⟨u, hrun, hresp, hregs⟩ := execChargeTask_of_running (i := i) hpair hready hcal
      (by rw [hsess, raise_sys, State.set_sys, hcfg]; exact hlims)
    refine ⟨_, hrun, ?_, hresp, execChargeTask_mask rfl rfl rfl rfl rfl rfl rfl rfl rfl rfl rfl rfl _ _ hrun⟩
    rw [State.get_of_regs hregs, preTask_get (by decide), b12Task_get (by decide) (by decide), limitWrite_get (by decide), hsess,
      raise_get_high (by decide)]
    exact State.get_set_fits (by decide) (by decide) _ _ _ _
  case pauses =>
    intro hfresh hon
    have hrun : exec .limitsTimeout s = .next ((State.setChg (s.setChg { s.chg with fresh := false, ramp := s.get F.CHG_SESS.P_LIM / 1000 + 1 })
        { s.chg with fresh := false, ramp := s.get F.CHG_SESS.P_LIM / 1000 + 1, pause := 1 }).set F.CHG_SESS.STATE 4) :=
      congrArg Host.Outcome.next ((if_neg (by simp [hpair, hfresh])).trans (if_pos hon))
    exact ⟨_, hrun, State.get_set_fits (by decide) (by decide) _ _ _ _, rfl, State.regsOnly_set _ _ _ _ _ _, execLimitsTimeout_mask rfl rfl _ hrun⟩
  case stale =>
    exact fun hfresh h2 h3 => ⟨_, congrArg Host.Outcome.next ((if_neg (by simp [hpair, hfresh])).trans
      (if_neg fun h => h.elim h2 h3)), rfl⟩
  case pauseEnd =>
    intro h4 hpause hends
    have hrun : exec .pauseTimeout s = .next (quietly (fun s => endSession false (s.setChg { s.chg with ends := s.chg.ends ++ [6] })) s) :=
      congrArg Host.Outcome.next (if_pos (by simp [hpair, hpause, show s.get F.CHG_SESS.STATE = 4 from h4]))
    obtain ⟨hst, hreason, hcmd, hnone, hfault⟩ := endSession_shows (s := s.setChg { s.chg with ends := s.chg.ends ++ [6] }) (r := 6)
      (congrArg (· ++ [6]) hends) (by decide) (by decide)
    exact ⟨_, hrun, (quietly_get _ _ _ _ _ _).trans hst, (quietly_get _ _ _ _ _ _).trans hreason, hcmd, hnone, hfault, rfl,
      execPauseTimeout_mask rfl rfl rfl rfl rfl rfl rfl rfl rfl _ hrun⟩
  case hvHold =>
    intro hhold hon
    have hrun : exec .hvLostHoldEnd s = .next (chDisable 0 (s.setChg { s.chg with hvHold := false })) :=
      congrArg Host.Outcome.next (if_pos (by simp [hpair, hhold]))
    exact ⟨_, hrun, (chDisable_shows (s := s.setChg { s.chg with hvHold := false }) hon).1, chDisable_chg _ _,
      execHvLostHoldEnd_mask rfl rfl rfl rfl rfl rfl _ hrun⟩
  case accepted =>
    intro h6 hbatt
    have hrun : exec (.acceptanceProbe battI battV) s = .next (quietly (fun s =>
        let s := chgCoef 5 (chgPar s).b12VWord 1440 s
        if 50 < battI then b12Start battV s else chgCoef 5 (chgPar s).b12VWord 1400 s) s) :=
      congrArg Host.Outcome.next (if_pos (by simp [hpair, h6]))
    obtain ⟨hph, htimer, hhalf⟩ := b12Start_shows battV (chgCoef 5 (chgPar s).b12VWord 1440 s)
    refine ⟨_, hrun, ?_, ?_, ?_, rfl, execAcceptanceProbe_mask rfl rfl rfl rfl rfl rfl _ _ _ hrun⟩
    all_goals
      rw [quietly_get]
      dsimp only
      rw [if_pos hbatt]
    · exact hph
    · exact htimer
    · exact hhalf
  case refused =>
    intro h6 hbatt
    have hrun : exec (.acceptanceProbe battI battV) s = .next (quietly (fun s =>
        let s := chgCoef 5 (chgPar s).b12VWord 1440 s
        if 50 < battI then b12Start battV s else chgCoef 5 (chgPar s).b12VWord 1400 s) s) :=
      congrArg Host.Outcome.next (if_pos (by simp [hpair, h6]))
    refine ⟨_, hrun, ?_, ?_, rfl, execAcceptanceProbe_mask rfl rfl rfl rfl rfl rfl _ _ _ hrun⟩
    · rw [quietly_get]
      dsimp only
      rw [if_neg (not_lt.mpr hbatt), chgCoef_get (by decide) (by decide), chgCoef_get (by decide) (by decide), h6]
    · show State.chg (if _ then _ else _) = _
      rw [if_neg (not_lt.mpr hbatt), chgCoef_chg, chgCoef_chg]
  case safety =>
    intro hph hdue
    set r := if s.getB F.CHG_B12.HALF_RATE then 10 else 9 with hr
    have hrun : exec .safetyTimerExpiry s = .next (b12End r 5 s) :=
      congrArg Host.Outcome.next (if_pos (by rcases hph with h | h | h <;> simp [hpair, h, hdue]))
    obtain ⟨h5, hreason, hfault⟩ := b12End_shows (r := r) (phase := 5) (by rw [hr]; split <;> decide) s
    refine ⟨_, hrun, h5, hreason, hfault.trans ?_, execSafetyTimerExpiry_mask rfl rfl rfl rfl rfl _ hrun⟩
    rw [hr]
    split <;> rfl
  case preTimeout =>
    intro h1 hused hact
    have hstop : stopNow (.pair 1) 2 s = fastStop 2 s := if_pos (by rw [hused, hact]; rfl)
    have hrun : exec .prechargeTimeout s = .next (preFail 1 (fastStop 2 s)) :=
      (congrArg Host.Outcome.next (if_pos (by simp [hpair, h1]))).trans (by rw [hstop])
    have hpre : (fastStop 2 s).get F.CHG_PRE.PSTATE = 1 := (fastStop_get (by decide) (by decide) _ _ _ _).trans h1
    obtain ⟨h4, hfail⟩ := preFail_shows (why := 1) (.inl hpre) (by decide)
    exact ⟨_, hrun, h4, hfail, (preFail_chan 1 2 _).1.trans (fastStop_shows 2 s).1, preFail_timeout (.inl hpre),
      execPrechargeTimeout_mask rfl rfl rfl rfl rfl rfl rfl _ hrun⟩
  case preHold =>
    intro h2 hon
    have hrun : exec .preHoldTimeout s = .next (chDisable 2 (s.setChg { s.chg with preStop := true })) :=
      congrArg Host.Outcome.next ((if_pos hpair).trans (if_pos h2))
    refine ⟨_, hrun, (chDisable_shows (s := s.setChg { s.chg with preStop := true }) hon).1, chDisable_chg _ _, ?_,
      execPreHoldTimeout_mask rfl rfl rfl rfl rfl rfl _ hrun⟩
    rw [chDisable_get (by decide) (by decide), State.get_of_regs (State.setChg_regs _ _), h2]

end Sys2Proof.Machine


/-! The Kiln (15_safety.md R420 to R451): what driving its lines and applying an entry do to its state, the rules of its requests, its
checks and its heartbeat, and O23 and O24. -/

namespace Sys2Proof.Machine
open Sys2Proof

/-! ### The lines -/

/-- The Kiln's state without the lines and switches it drives. -/
def KlnSt.lineless (k : KlnSt) : KlnSt :=
  { k with gen := 0, stoHs := false, stoLs := false, brkHs := false, brkLs := false, faultN := false }

/-- The Kiln's state without its lines and without what a finding records. -/
def KlnSt.findless (k : KlnSt) : KlnSt :=
  { k.lineless with latch := 0, cls5 := false, brake := false, genLow := 0, kstate := 0, first := 0, last := 0 }

theorem KlnSt.findless_of_lineless {k l : KlnSt} (h : k.lineless = l.lineless) : k.findless = l.findless := by
  simp only [KlnSt.findless, h]

theorem kilnDrive_lineless (s : State) : (kilnDrive s).kln.lineless = s.kln.lineless := by
  rw [kilnDrive_kln]
  rfl

/-- What the Kiln's lines show after they are driven, from the state before (R442, R446). -/
structure LinesDriven (s : State) (k : KlnSt) : Prop where
  gen : k.gen = genAllowed s
  stoHs : k.stoHs = stoAllowed s
  stoLs : stoAllowed s = false → k.stoLs = false
  brkHs : s.kln.wdog = true → k.brkHs = false
  brkLs : s.kln.wdog = true → k.brkLs = false

theorem kilnDrive_lines (s : State) : LinesDriven s (kilnDrive s).kln := by
  have hgen : ∀ g s, (genRise g s).kln = s.kln := fun g s =>
    kln_of_mask (K := { regs := true, fab := true, pwm := true }) rfl (genRise_mask rfl rfl rfl g s)
  have henf : ∀ s, (enforceAll s).kln = s.kln := fun s =>
    kln_of_mask (K := { regs := true, pwm := true, act := true }) rfl (enforceAll_mask rfl rfl rfl s)
  unfold kilnDrive
  extract_lets k sto stoLs was wasBrk gen stoFree brk brkLs faultN s1 s2 s3 s4
  have hsto : s2.kln = s1.kln := ite_keeps (p := (·.kln)) (raise_kln _ _)
  have hbrk : s3.kln = s2.kln := ite_keeps (p := (·.kln)) (raise_kln _ _)
  have hgens : s4.kln = s3.kln := foldl_keeps (·.kln) _ _ (fun g _ s => hgen g s) s3
  rw [ite_keeps (p := (·.kln)) (henf s4), hgens, hbrk, hsto]
  refine ⟨rfl, rfl, fun h => ?_, fun h => ?_, fun h => ?_⟩
  · show (stoAllowed s && s.pdOn 8 && s.sys.linkUp && s.sys.safeCls != 5) = false
    rw [h]; rfl
  · show (kilnRuns s && !s.kln.wdog && _ && _ && _ && _) = false
    rw [h]; simp
  · show (kilnRuns s && !s.kln.wdog && _ && _ && _ && _ && _) = false
    rw [h]; simp

/-! ### Findings -/

theorem tellControl_kln (code cls : Nat) (s : State) : (tellControl code cls s).kln = s.kln :=
  kln_of_mask (K := { sys := true }) rfl (tellControl_mask rfl code cls s)

theorem kilnLatch_findless (e cls mask : Nat) (b : Bool) (s : State) : (kilnLatch e cls mask b s).kln.findless = s.kln.findless := by
  rw [kilnLatch, raise_kln, KlnSt.findless_of_lineless (kilnDrive_lineless _)]
  rfl

/-- A latched reaction has its entry's bit, and the code recorded before it stays. -/
theorem kilnLatch_latched (e cls mask : Nat) (b : Bool) (s : State) :
    (kilnLatch e cls mask b s).kln.latch.testBit e = true ∧ (kilnLatch e cls mask b s).kln.last = s.kln.last := by
  rw [kilnLatch, raise_kln]
  have hlatch := congrArg KlnSt.latch (kilnDrive_lineless (s.setKln { s.kln with
    latch := putBit s.kln.latch e true, cls5 := s.kln.cls5 || cls == 5, brake := s.kln.brake || b
    genLow := if cls ≥ 4 then s.kln.genLow ||| mask else s.kln.genLow
    kstate := if s.kln.kstate = 2 then 3 else s.kln.kstate }))
  have hlast := congrArg KlnSt.last (kilnDrive_lineless (s.setKln { s.kln with
    latch := putBit s.kln.latch e true, cls5 := s.kln.cls5 || cls == 5, brake := s.kln.brake || b
    genLow := if cls ≥ 4 then s.kln.genLow ||| mask else s.kln.genLow
    kstate := if s.kln.kstate = 2 then 3 else s.kln.kstate }))
  exact ⟨(congrArg (·.testBit e) hlatch).trans (testBit_putBit_self s.kln.latch e true), hlast⟩

theorem kilnApplyAs_findless (e code cls mask : Nat) (b : Bool) (s : State) :
    (kilnApplyAs e code cls mask b s).kln.findless = s.kln.findless := by
  rw [kilnApplyAs, tellControl_kln]
  exact ite_keeps (p := (·.kln.findless)) (kilnLatch_findless _ _ _ _ _)

theorem kilnApply_findless (e : Nat) (s : State) : (kilnApply e s).kln.findless = s.kln.findless := by
  unfold kilnApply
  split
  · rfl
  · exact kilnApplyAs_findless _ _ _ _ _ _

/-- The code of a finding stands in the Kiln, and a class of 3 and above of entry `e` is latched (R422). -/
def Found (table : List Byte) (e code : Nat) (t : State) : Prop :=
  t.kln.last = code ∧ (3 ≤ (entryOf table e).1 → t.kln.latch.testBit e = true)

theorem Found.of_kln {table : List Byte} {e code : Nat} {t u : State} (h : Found table e code t) (hk : u.kln = t.kln) :
    Found table e code u := by
  unfold Found
  rwa [hk]

theorem kilnApply_found {s : State} (hruns : kilnRuns s = true) (e : Nat) : Found s.kln.table e (entryRow e).1 (kilnApply e s) := by
  unfold kilnApply
  rw [if_neg (by simp [hruns])]
  dsimp only
  rw [kilnApplyAs, Found, tellControl_kln]
  split
  · obtain ⟨hbit, hlast⟩ := kilnLatch_latched e (entryOf s.kln.table e).1 (entryOf s.kln.table e).2.1 (entryOf s.kln.table e).2.2
      (kilnRecord (entryRow e).1 s)
    exact ⟨hlast, fun _ => hbit⟩
  · rename_i h
    exact ⟨rfl, fun h3 => absurd h3 h⟩

/-- The Kiln's state without its lines, what a finding records and which conditions are present. -/
def KlnSt.condless (k : KlnSt) : KlnSt := { k.findless with present := 0 }

theorem kilnCond_condless (e : Nat) (p : Bool) (s : State) : (kilnCond e p s).kln.condless = s.kln.condless := by
  refine ite_keeps (p := (·.kln.condless)) ?_
  rw [KlnSt.condless, kilnApply_findless]
  rfl

theorem kilnCond_found {s : State} (hruns : kilnRuns s = true) {e : Nat} (h : s.kln.present.testBit e = false) :
    Found s.kln.table e (entryRow e).1 (kilnCond e true s) := by
  rw [kilnCond, if_pos (by rw [h]; rfl)]
  exact kilnApply_found (s := s.setKln { s.kln with present := putBit s.kln.present e true }) hruns e

/-! ### The checks -/

/-- The gate's end of a machine leaves its edge count at 0 and the count it publishes. -/
def KlnSt.speeds (k : KlnSt) : SMap Nat × SMap Nat := (k.edges, k.counts)

theorem kilnCond_speeds (e : Nat) (p : Bool) (s : State) : (kilnCond e p s).kln.speeds = s.kln.speeds :=
  (congrArg KlnSt.speeds (kilnCond_condless e p s) :)

theorem kilnApply_speeds (e : Nat) (s : State) : (kilnApply e s).kln.speeds = s.kln.speeds :=
  (congrArg KlnSt.speeds (kilnApply_findless e s) :)

theorem ss1Complete_speeds (s : State) : (ss1Complete s).kln.speeds = s.kln.speeds :=
  (congrArg KlnSt.speeds (kilnDrive_lineless (s.setKln { s.kln with ss1 := false, stoOk := false })) :)

theorem gateEnd_speeds (m t : Nat) (s : State) : (gateEnd m t s).kln.speeds =
    (SMap.put 0 s.kln.edges m 0, SMap.put 0 s.kln.counts m (min (SMap.get 0 s.kln.edges m) 65535)) := by
  unfold gateEnd
  extract_lets k tb n cnt stop s1 s2 wait on src s3 s4 d run src' sRun s5
  have hs4 : s4.kln.speeds = s1.kln.speeds := by
    refine (kilnCond_speeds _ _ _).trans ((ite_keeps (p := (·.kln.speeds)) ?_).trans (kilnCond_speeds _ _ _))
    rfl
  have hs5 : s5.kln.speeds = s4.kln.speeds := by
    simp only [s5]
    split
    · rfl
    · exact kilnCond_speeds _ _ _
  refine Eq.trans ?_ (hs5.trans hs4)
  split
  · rfl
  · split
    · exact kilnApply_speeds _ _
    · exact ite_keeps (p := (·.kln.speeds)) (ss1Complete_speeds _)

/-- The state after the power check's sums restart, before the comparison (R435). -/
theorem execKilnPowerCheck_sums {s t : State} (hruns : kilnRuns s = true) (h : execKilnPowerCheck s = .next t) :
    t.kln.pSum = 0 ∧ t.kln.pCnt = 0 ∧ t.kln.pDen = (if s.kln.pCnt = 0 then s.kln.pDen else 1024 * s.kln.pCnt) := by
  have hden : (if s.kln.pCnt = 0 then (s.kln.pNum, s.kln.pDen) else (s.kln.pSum, 1024 * s.kln.pCnt)).2 =
      if s.kln.pCnt = 0 then s.kln.pDen else 1024 * s.kln.pCnt := by
    split <;> rfl
  rw [← hden]
  cases h
  rw [if_neg (by simp [hruns])]
  dsimp only
  split
  · exact ⟨rfl, rfl, rfl⟩
  · exact ⟨(congrArg KlnSt.pSum (kilnCond_condless _ _ _) :), (congrArg KlnSt.pCnt (kilnCond_condless _ _ _) :),
      (congrArg KlnSt.pDen (kilnCond_condless _ _ _) :)⟩

/-- A safe stop that completes applies STO without a latch (R445). -/
theorem ss1Complete_shows (s : State) : (ss1Complete s).kln.ss1 = false ∧ (ss1Complete s).kln.stoOk = false ∧
    (ss1Complete s).kln.stoHs = false ∧ (ss1Complete s).kln.stoLs = false ∧ (ss1Complete s).kln.latch = s.kln.latch := by
  have hlines := kilnDrive_lines (s.setKln { s.kln with ss1 := false, stoOk := false })
  have hkeep := kilnDrive_lineless (s.setKln { s.kln with ss1 := false, stoOk := false })
  have hsto : stoAllowed (s.setKln { s.kln with ss1 := false, stoOk := false }) = false := Bool.and_false _
  exact ⟨(congrArg KlnSt.ss1 hkeep :), (congrArg KlnSt.stoOk hkeep :), hlines.stoHs.trans hsto, hlines.stoLs hsto,
    (congrArg KlnSt.latch hkeep :)⟩

section
variable {s : State} {sw : Fin 3}

theorem execDarkPulseStart_of_due
    (hdue : (kilnRuns s && if sw.val = 2 then (tblByte s.kln.table 0x122).testBit 0 && s.kln.brkHs else stoReleased s) = true) :
    execDarkPulseStart sw s = .next (if darkBlocked s = true then s.setKln { s.kln with postponed := putBit s.kln.postponed sw.val true }
      else s.setKln { s.kln with pulse := putBit s.kln.pulse sw.val true, postponed := putBit s.kln.postponed sw.val false }) := by
  rw [execDarkPulseStart]
  simp only [hdue, Bool.not_true, Bool.false_eq_true, if_false]

/-- The state in which the end of a dark pulse is evaluated. -/
def pulseOver (sw : Nat) (s : State) : State := s.setKln { s.kln with pulse := putBit s.kln.pulse sw false }

/-- A dark pulse that read off, counted. -/
def pulseSeen (sw : Nat) (s : State) : State :=
  (pulseOver sw s).setKln { (pulseOver sw s).kln with dpDone := (s.kln.dpDone + 1) % 256 }

/-- A dark pulse that did not read off, counted. -/
def pulseMissed (sw : Nat) (s : State) : State :=
  raise 228 ((pulseOver sw s).setKln { (pulseOver sw s).kln with dpFail := min (s.kln.dpFail + 1) 255 })

theorem execDarkPulseEnd_of_evaluated (hpulse : s.kln.pulse.testBit sw.val = true)
    (hstill : (if sw.val = 2 then s.kln.brkHs else stoReleased s) = true) (off : Bool) :
    execDarkPulseEnd sw off s = .next (if off = true then (if sw.val = 2 then pulseSeen sw s else kilnCond 22 false (pulseSeen sw s))
      else kilnCond (if sw.val = 2 then 23 else 22) true (pulseMissed sw s)) := by
  have hnot : ¬ (!(if sw.val = 2 then (pulseOver sw s).kln.brkHs else stoReleased (pulseOver sw s))) = true := by
    show ¬ (!(if sw.val = 2 then s.kln.brkHs else stoReleased s)) = true
    rw [hstill]; decide
  refine congrArg Host.Outcome.next ((if_neg (by simp [hpulse])).trans ((if_neg hnot).trans ?_))
  rfl

end

/-- Settles O24: each clause is the branch of its row while the Kiln works. -/
theorem kilnChecks : Obligations.KilnChecks := by
  unfold Obligations.KilnChecks
  intro s set mach ms sw hruns k found due
  refine ⟨fun h => ?claim, ?power, fun h => ?kirchhoff, fun h => ?edge, fun h => ?gate, fun h => ?sto, fun h => ?brake, ?agrees,
    fun h hb => ?pulse, fun h hb => ?postponed, fun h hstill => ?seen, fun h hstill => ?missed, fun h => ?late,
    fun h h0 h1 => ?stopped, ?comparator, ?comparatorOk⟩
  case claim =>
    have hrun : exec .claimTimeout s = .next (kilnCond 10 true s) := congrArg Host.Outcome.next (if_pos hruns)
    exact ⟨_, hrun, kilnCond_found hruns h, (congrArg (·.testBit 10) (kilnCond_present _ _ _)).trans (testBit_putBit_self _ _ _),
      execClaimTimeout_mask rfl rfl rfl rfl rfl rfl _ hrun⟩
  case power =>
    obtain ⟨t, hrun⟩ : ∃ t, exec .kilnPowerCheck s = .next t := ⟨_, rfl⟩
    obtain ⟨hsum, hcnt, hden⟩ := execKilnPowerCheck_sums hruns hrun
    exact ⟨t, hrun, hsum, hcnt, hden, execKilnPowerCheck_mask rfl rfl rfl rfl rfl rfl _ hrun⟩
  case kirchhoff =>
    have hrun : exec (.kirchhoffTrip set) s = .next (kilnApply 11 s) :=
      congrArg Host.Outcome.next (if_pos (by rw [hruns, Bool.and_true]; exact h))
    exact ⟨_, hrun, kilnApply_found hruns 11, execKirchhoffTrip_mask rfl rfl rfl rfl rfl rfl _ _ hrun⟩
  case edge =>
    exact ⟨_, congrArg Host.Outcome.next (if_pos (by rw [hruns, Bool.true_and]; exact h)), rfl⟩
  case gate =>
    have hrun : exec (.kilnGateEnd mach ms) s = .next (gateEnd mach ms s) :=
      congrArg Host.Outcome.next (if_pos (by rw [hruns, Bool.true_and]; exact h))
    have hspeeds := gateEnd_speeds mach ms s
    refine ⟨_, hrun, ?_, ?_, execKilnGateEnd_mask rfl rfl rfl rfl rfl rfl _ _ _ hrun⟩
    · exact (congrArg (fun p => SMap.get 0 p.1 mach.val) hspeeds).trans (SMap.get_put_self _ _ _ _)
    · exact (congrArg (fun p => SMap.get 0 p.2 mach.val) hspeeds).trans (SMap.get_put_self _ _ _ _)
  case sto =>
    have hrun : exec .stoFeedbackTimeout s = .next (kilnCond 21 true s) := congrArg Host.Outcome.next (if_pos hruns)
    exact ⟨_, hrun, kilnCond_found hruns h, execStoFeedbackTimeout_mask rfl rfl rfl rfl rfl rfl _ hrun⟩
  case brake =>
    have hrun : exec (.brakeFeedbackTimeout false) s = .next (kilnCond 23 true s) := congrArg Host.Outcome.next (if_pos hruns)
    exact ⟨_, hrun, kilnCond_found hruns h, execBrakeFeedbackTimeout_mask rfl rfl rfl rfl rfl rfl _ _ hrun⟩
  case agrees =>
    have hrun : exec (.brakeFeedbackTimeout true) s = .next (kilnCond 23 false s) := congrArg Host.Outcome.next (if_pos hruns)
    exact ⟨_, hrun, congrArg State.kln (kilnCond_false 23 s), execBrakeFeedbackTimeout_mask rfl rfl rfl rfl rfl rfl _ _ hrun⟩
  case pulse =>
    have hrun : exec (.darkPulseStart sw) s = _ := execDarkPulseStart_of_due (by rw [hruns, Bool.true_and]; exact h)
    rw [if_neg (by simp [hb])] at hrun
    exact ⟨_, hrun, testBit_putBit_self s.kln.pulse sw.val true,
      testBit_putBit_self s.kln.postponed sw.val false, execDarkPulseStart_mask rfl _ _ hrun⟩
  case postponed =>
    have hrun : exec (.darkPulseStart sw) s = _ := execDarkPulseStart_of_due (by rw [hruns, Bool.true_and]; exact h)
    rw [if_pos hb] at hrun
    exact ⟨_, hrun, rfl⟩
  case seen =>
    have hrun : exec (.darkPulseEnd sw true) s = _ := execDarkPulseEnd_of_evaluated h hstill true
    have hframe := execDarkPulseEnd_mask (K := { regs := true, sys := true, fab := true, pwm := true, kln := true, act := true })
      rfl rfl rfl rfl rfl rfl sw true s hrun
    have hkeep : (if sw.val = 2 then pulseSeen sw s else kilnCond 22 false (pulseSeen sw s)).kln.condless =
        (pulseSeen sw s).kln.condless := by
      split
      · rfl
      · exact kilnCond_condless _ _ _
    rw [if_pos rfl] at hrun hframe
    exact ⟨_, hrun, (congrArg KlnSt.dpDone hkeep :), (congrArg (·.pulse.testBit sw.val) hkeep :).trans
      (testBit_putBit_self s.kln.pulse sw.val false), (congrArg KlnSt.dpFail hkeep :), hframe⟩
  case missed =>
    have hrun : exec (.darkPulseEnd sw false) s = _ := execDarkPulseEnd_of_evaluated h hstill false
    have hkeep := kilnCond_condless (if sw.val = 2 then 23 else 22) true (pulseMissed sw s)
    have hmissed : (pulseMissed sw s).kln = _ := raise_kln _ _
    rw [if_neg (by decide)] at hrun
    refine ⟨_, hrun, ?_, ?_, execDarkPulseEnd_mask rfl rfl rfl rfl rfl rfl sw false s hrun⟩
    · exact (congrArg KlnSt.dpFail hkeep :).trans (congrArg KlnSt.dpFail hmissed :)
    · exact (congrArg (·.pulse.testBit sw.val) hkeep :).trans
        ((congrArg (·.pulse.testBit sw.val) hmissed :).trans (testBit_putBit_self s.kln.pulse sw.val false))
  case late =>
    have hrun : exec .ss1Timeout s = .next (kilnApply 20 (s.setKln { s.kln with ss1 := false })) :=
      congrArg Host.Outcome.next (if_pos h)
    exact ⟨_, hrun, (congrArg KlnSt.ss1 (kilnApply_findless _ _) :),
      kilnApply_found (s := s.setKln { s.kln with ss1 := false }) hruns 20, execSs1Timeout_mask rfl rfl rfl rfl rfl rfl _ hrun⟩
  case stopped =>
    have hrun : exec .ss1StopComplete s = .next (ss1Complete s) :=
      congrArg Host.Outcome.next (if_pos (by simp only [k] at h h0 h1; simp [h, h0, h1]))
    obtain ⟨hss1, hok, hhs, hls, hlatch⟩ := ss1Complete_shows s
    exact ⟨_, hrun, hss1, hok, hhs, hls, hlatch, execSs1StopComplete_mask rfl rfl rfl rfl rfl _ hrun⟩
  case comparator =>
    have hrun : exec (.kilnComparatorTest true) s = .next (raise 231 (kilnApply 24 s)) :=
      congrArg Host.Outcome.next (if_pos (by rw [hruns]; rfl))
    exact ⟨_, hrun, (kilnApply_found hruns 24).of_kln (raise_kln _ _), execKilnComparatorTest_mask rfl rfl rfl rfl rfl rfl _ _ hrun⟩
  case comparatorOk =>
    exact ⟨_, congrArg Host.Outcome.next (if_neg (by simp)), rfl⟩

/-! ### Requests and claims -/

theorem kreqArrive_kreq (new : Word) (s : State) : (kreqArrive new s).kln.kreq = new := by
  unfold kreqArrive
  extract_lets k old rises s1 src s2 src' s3
  have hss1 : s2.kln.kreq = s1.kln.kreq := ite_keeps (p := (·.kln.kreq)) rfl
  have hsto : s3.kln.kreq = s2.kln.kreq := ite_keeps (p := (·.kln.kreq)) (congrArg KlnSt.kreq (kilnApply_findless _ _) :)
  exact (congrArg KlnSt.kreq (kilnDrive_lineless s3) :).trans (hsto.trans hss1)

/-- A request as it stands in its register and as it reaches the Kiln (R420). -/
def Asked (s : State) (p : Nat) (f : Fld) (x : Nat) (t : State) : Prop :=
  t.rd (f.addr p 0 0) = kreqWith s p f x &&& 0xFFC00000 ∧ t.kln.kreq = kreqWith s p f x &&& 0xFFC00000 ∧ t.resp = .done

theorem kreqField_asked {s : State} {m : Master} {p : Fin 2} {f : Fld} (x : Nat)
    (hf : f.addr p.val 0 0 = F.SPX_KREQ.GEN_REL.addr p.val 0 0) (hready : spxReady s m p.val = true)
    (hwriter : kreqWriter s m p.val = true) (hlink : s.sys.linkUp = true) : Asked s p.val f x (kreqField m p.val f x s) := by
  have hquiet : ∀ p : Fin 2, Quiet (F.SPX_KREQ.GEN_REL.addr p.val 0 0) := by decide
  have harrive : kreqField m p.val f x s = (kreqArrive (kreqWith s p.val f x &&& 0xFFC00000)
      (s.wr (F.SPX_KREQ.GEN_REL.addr p.val 0 0) (kreqWith s p.val f x &&& 0xFFC00000))).answer .done := by
    rw [kreqField, if_pos hready, kreqWrite, if_neg (by simp [hwriter])]
    exact congrArg (State.answer · .done) (if_pos hlink)
  rw [harrive]
  refine ⟨?_, kreqArrive_kreq _ _, rfl⟩
  rw [hf]
  exact (kreqArrive_quiet _ _ _ (hquiet p)).trans (State.rd_wr_self _ _ _)

/-- A commit takes the claims as they stand in the registers, and the claim time-out's condition is gone (R434). -/
theorem claimCommit_taken {s : State} {m : Master} {p : Nat} (hwriter : kreqWriter s m p = true) (hlink : s.sys.linkUp = true) :
    SMap.get 0 (claimCommit m p s).kln.claims 0 = s.get F.SPX_CLAIM_I0.SET0 p ∧
    SMap.get 0 (claimCommit m p s).kln.claims 1 = s.get F.SPX_CLAIM_I0.SET1 p ∧
    SMap.get 0 (claimCommit m p s).kln.claims 4 = s.getI F.SPX_CLAIM_P.P_CLAIM p ∧
    (claimCommit m p s).kln.present.testBit 10 = false ∧ (claimCommit m p s).regs = s.regs := by
  have hcommit : claimCommit m p s = _ := if_neg (by simp [hwriter, hlink])
  rw [hcommit]
  extract_lets c put c1 c2 c3 c4
  rw [kilnCond_false]
  have hbit := testBit_putBit_self s.kln.present 10 false
  refine ⟨?_, ?_, ?_, hbit, rfl⟩ <;> show SMap.get 0 c4 _ = _ <;>
    simp (disch := decide) only [c4, c3, c2, c1, put, SMap.get_put_self, SMap.get_put_ne]

/-! ### The heartbeat -/

/-- The challenges of the heartbeat: the last indices, the sequence and what each core owes. -/
def KlnSt.beats (k : KlnSt) : SMap Nat × Nat × SMap Nat := (k.hbQ, k.hbSeq, k.hbState)

theorem kilnCond_beats (e : Nat) (p : Bool) (s : State) : (kilnCond e p s).kln.beats = s.kln.beats :=
  (congrArg KlnSt.beats (kilnCond_condless e p s) :)

theorem hbMiss_beats (p c : Nat) (s : State) : (hbMiss p c s).kln.beats = s.kln.beats := by
  unfold hbMiss
  extract_lets k run k' s1 n
  have hs1 : s1.kln.beats = s.kln.beats := by
    simp only [s1]
    rw [raise_kln]
    rfl
  split
  · exact hs1
  · split
    · split
      · exact (congrArg KlnSt.beats (kilnApplyAs_findless _ _ _ _ _ _) :).trans hs1
      · exact hs1
    · exact (kilnCond_beats _ _ _).trans hs1

/-- A challenge of pair `p`: the new index is never the last one, and each core challenged owes an answer (R432). -/
theorem hbChallenge_beats (p q : Nat) (s : State) : (hbChallenge p q s).kln.beats =
    (SMap.put 16 s.kln.hbQ p (if q = SMap.get 16 s.kln.hbQ p then (q + 1) % 16 else q), s.kln.hbSeq,
      (hbCores s p).foldl (fun m c => SMap.put 0 m c 1) s.kln.hbState) := by
  unfold hbChallenge
  extract_lets cs s1 s2 q' src s3
  have hmiss : s1.kln.beats = s.kln.beats := by
    refine foldl_keeps (·.kln.beats) _ _ (fun c _ s => ?_) s
    split
    · rfl
    · rfl
    · exact hbMiss_beats _ _ _
  have hclear : s2.kln.beats = s.kln.beats := (ite_keeps (p := (·.kln.beats)) (kilnCond_beats _ _ _)).trans hmiss
  obtain ⟨hq, hseq, hstate⟩ := Prod.ext_iff.mp hclear |>.imp_right Prod.ext_iff.mp
  have hshow : ∀ (c : Bool) (u t : State), t.kln = u.kln → (if c = true then t else u).kln.beats = u.kln.beats := fun c u t h =>
    ite_keeps (p := (·.kln.beats)) (congrArg KlnSt.beats h)
  refine (hshow _ s3 ((s3.set F.SPX_HB_CHAL.SEQ s3.kln.hbSeq p).set F.SPX_HB_CHAL.Q q' p) rfl).trans ?_
  show (SMap.put 16 s2.kln.hbQ p (if q = SMap.get 16 s2.kln.hbQ p then (q + 1) % 16 else q), s2.kln.hbSeq,
    cs.foldl (fun m c => SMap.put 0 m c 1) s2.kln.hbState) = _
  rw [show s2.kln.hbQ = s.kln.hbQ from hq, show s2.kln.hbSeq = s.kln.hbSeq from hseq,
    show s2.kln.hbState = s.kln.hbState from hstate]

/-- The first core of a challenged pair owes an answer, and a core of the other pair what it owed before. -/
theorem hbCores_owe (s : State) (m : SMap Nat) :
    SMap.get 0 ((hbCores s 0).foldl (fun m c => SMap.put 0 m c 1) m) 0 = 1 ∧
    SMap.get 0 ((hbCores s 1).foldl (fun m c => SMap.put 0 m c 1) m) 2 = 1 ∧
    SMap.get 0 ((hbCores s 1).foldl (fun m c => SMap.put 0 m c 1) m) 0 = SMap.get 0 m 0 := by
  unfold hbCores
  refine ⟨?_, ?_, ?_⟩ <;> split <;>
    simp (disch := decide) only [List.foldl_cons, List.foldl_nil, SMap.get_put_self, SMap.get_put_ne]

/-- An answer of a core that owes one: right and in time, or a miss (R432). -/
theorem hbAnswer_of_owed {s : State} {c : Nat} (p us : Nat) (v : Word) (hlink : s.sys.linkUp = true)
    (howed : SMap.get 0 s.kln.hbState c = 1) : hbAnswer p c us v s =
      if (decide (tbl16 s.kln.table 0xC8 ≤ us) && v.toNat == heartbeatAnswer s.kln.table p (SMap.get 16 s.kln.hbQ p)) = true then
        updArm p (s.setKln { s.kln with hbState := SMap.put 0 s.kln.hbState c 2 })
      else s.setKln { s.kln with hbState := SMap.put 0 s.kln.hbState c 3 } := by
  rw [hbAnswer, if_neg (by simp [hlink])]
  dsimp only
  rw [howed]
  by_cases hgood : (decide (tbl16 s.kln.table 0xC8 ≤ us) && v.toNat == heartbeatAnswer s.kln.table p (SMap.get 16 s.kln.hbQ p)) = true
  · simp only [hgood, if_true]
  · simp only [hgood, Bool.false_eq_true, if_false]

theorem updArm_kln (p : Nat) (s : State) : (updArm p s).kln = s.kln := ite_keeps (p := (·.kln)) rfl

/-! ### The control die's reactions, the mirror, the release and the watchdog -/

/-- The oldest reaction of the control die is taken: its code stands, and a class of 3 and above is latched under entry 25 (R423). -/
theorem execCtrlReact_taken {s t : State} {r : React} {rest : List React} (hmail : s.kln.mail = r :: rest)
    (hlink : s.sys.linkUp = true) (hruns : kilnRuns s = true) (h : execCtrlReact s = .next t) :
    t.kln.mail = rest ∧ t.kln.last = r.code ∧ (3 ≤ r.cls → t.kln.latch.testBit 25 = true) := by
  have hno : ¬ (!(s.setKln { s.kln with mail := rest }).sys.linkUp || !kilnRuns (s.setKln { s.kln with mail := rest })) = true := by
    show ¬ (!s.sys.linkUp || !kilnRuns s) = true
    simp [hlink, hruns]
  rw [execCtrlReact, hmail] at h
  dsimp only at h
  rw [if_neg hno] at h
  cases h
  split
  · obtain ⟨hbit, hlast⟩ := kilnLatch_latched 25 r.cls
      (entryOf (kilnRecord r.code (s.setKln { s.kln with mail := rest })).kln.table 25).2.1
      (entryOf (kilnRecord r.code (s.setKln { s.kln with mail := rest })).kln.table 25).2.2
      (kilnRecord r.code (s.setKln { s.kln with mail := rest }))
    exact ⟨(congrArg KlnSt.mail (kilnLatch_findless _ _ _ _ _) :), hlast, fun _ => hbit⟩
  · rename_i hcls
    exact ⟨rfl, rfl, fun h3 => absurd h3 hcls⟩

/-- The KLN block shows the Kiln (R33). -/
theorem kilnMirror_shows (s : State) : (kilnMirror s).get F.KLN_STAT.KSTATE = s.kln.kstate % 8 ∧
    (kilnMirror s).get F.KLN_LATCH.ENTRY = s.kln.latch % 2 ^ 27 ∧ (kilnMirror s).get F.KLN_CODE.LAST = s.kln.last % 65536 ∧
    (kilnMirror s).get F.KLN_STAT.RELEASE_REASON = s.kln.reason % 16 := by
  refine ⟨?_, ?_, ?_, ?_⟩ <;>
    simp (disch := decide) only [kilnMirror, State.setB, State.get_set_clear, State.get_set_self] <;> rfl

/-- The entry of a mode drives the Kiln's lines and leaves the rest of the Kiln as it is. -/
theorem enterMode_lineless {mode : Nat} (hmode : mode ≠ 4) (v2l : Bool) (s : State) :
    (enterMode mode v2l s).kln.lineless = s.kln.lineless := by
  have hemr : ∀ s, (emrEnd 3 s).kln = s.kln := fun s =>
    kln_of_mask (K := { regs := true, fab := true, sup := true }) rfl (emrEnd_mask rfl rfl rfl 3 s)
  have henf : ∀ s, (enforceAll s).kln = s.kln := fun s =>
    kln_of_mask (K := { regs := true, pwm := true, act := true }) rfl (enforceAll_mask rfl rfl rfl s)
  have hgrant : ∀ s, (blankGrant s).kln = s.kln := fun s =>
    kln_of_mask (K := { regs := true, fab := true }) rfl (blankGrant_mask rfl rfl s)
  have hshow : ∀ s, (showBridges s).kln = s.kln := fun s => kln_of_mask (K := { regs := true }) rfl (showBridges_mask rfl s)
  unfold enterMode
  extract_lets old s1 s2 x s3 s4 y s5 s6
  have h4 : s4.kln = s3.kln := ite_keeps (p := (·.kln)) (hemr _)
  have h5 : s5.kln = s4.kln := by
    simp only [s5]
    rw [if_neg (fun h => hmode h.1)]
    exact ite_keeps (p := (·.kln)) rfl
  have h6 : s6.kln.lineless = s5.kln.lineless :=
    (kilnDrive_lineless _).trans (congrArg KlnSt.lineless (ite_keeps (p := (·.kln)) (henf s5)))
  rw [raise_kln, hgrant, hshow, h6, h5, h4]
  rfl

/-- The state in which a release enters READY: no reaction is latched, and every line waits for a new request (R449, R451). -/
def releasing (s : State) : State :=
  let s := s.setKln { s.kln with
    latch := 0, cls5 := false, brake := false, genLow := 0, first := 0, kstate := 2, stoOk := false, brkOk := false, genOk := 0, reason := 1 }
  { s with sys := { s.sys with safeCls := 0, safeCauses := [], dcdcHeld := false } }

theorem kilnRelease_eq (s : State) : kilnRelease s = raise 226 (enterMode 2 false (releasing s)) := rfl

theorem kilnRelease_released (s : State) : (kilnRelease s).kln.kstate = 2 ∧ (kilnRelease s).kln.latch = 0 ∧
    (kilnRelease s).kln.reason = 1 ∧ (kilnRelease s).kln.stoOk = false ∧ (kilnRelease s).get F.MODE_STAT.MODE = 2 ∧
    (kilnRelease s).sys.safeCls = 0 := by
  have hkeep := enterMode_lineless (mode := 2) (by decide) false (releasing s)
  have hmode := (enterMode_modeStat 2 false (releasing s)).1
  rw [kilnRelease_eq, raise_kln, raise_sys, State.get_of_rd (raise_quiet _ _ _ (by decide) (by decide))]
  exact ⟨(congrArg KlnSt.kstate hkeep :), (congrArg KlnSt.latch hkeep :), (congrArg KlnSt.reason hkeep :),
    (congrArg KlnSt.stoOk hkeep :), hmode, (congrArg SysSt.safeCls (enterMode_steady 2 false (releasing s)) :)⟩

/-- The state in which the watchdog drives the lines: its latch is permanent and its code stands (R426). -/
def watchdogHit (s : State) : State :=
  kilnRecord 0x0F02 (s.setKln { s.kln with wdog := true, cls5 := true, kstate := if s.kln.kstate = 2 then 3 else s.kln.kstate })

/-- Settles O23: each clause is the branch of its row; the requests share `kreqField_asked`. -/
theorem kilnRequests : Obligations.KilnRequests := by
  unfold Obligations.KilnRequests
  intro s m p b2 b4 on one qa qb v us r rest e c asked q
  refine ⟨fun hready hwriter hlink => ⟨?sls, ?ss1, ?sto, ?stoRel, ?brk, ?gen, ?claim⟩, fun hready hwriter => ?other, fun hruns hrel => ?challenge,
    fun hready hw hlink howed hus hv => ?right, fun hready hw hlink howed hv => ?wrong, fun hmail hlink hruns => ?react,
    fun hpd hlink => ?mirror, fun h0 h4 h6 hlow hhalt hreason => ?release, fun h0 h4 h6 hlow => ?short, fun h0 hw => ?watchdog⟩
  case sls =>
    have hrun : exec (.slsRequest m p b2) s = .next (kreqField m p F.SPX_KREQ.SLS_REQ b2.toNat s) := rfl
    exact ⟨_, hrun, kreqField_asked _ rfl hready hwriter hlink, execSlsRequest_mask rfl rfl rfl rfl rfl rfl rfl _ _ _ _ hrun⟩
  case ss1 =>
    have hrun : exec (.ss1Request m p on) s = .next (kreqField m p F.SPX_KREQ.SS1_REQ on.toNat s) := rfl
    exact ⟨_, hrun, kreqField_asked _ rfl hready hwriter hlink, execSs1Request_mask rfl rfl rfl rfl rfl rfl rfl _ _ _ _ hrun⟩
  case sto =>
    have hrun : exec (.stoRequest m p on) s = .next (kreqField m p F.SPX_KREQ.STO_REQ on.toNat s) := rfl
    exact ⟨_, hrun, kreqField_asked _ rfl hready hwriter hlink, execStoRequest_mask rfl rfl rfl rfl rfl rfl rfl _ _ _ _ hrun⟩
  case stoRel =>
    have hrun : exec (.stoRelease m p on) s = .next (kreqField m p F.SPX_KREQ.STO_REL on.toNat s) := rfl
    exact ⟨_, hrun, kreqField_asked _ rfl hready hwriter hlink, execStoRelease_mask rfl rfl rfl rfl rfl rfl rfl _ _ _ _ hrun⟩
  case brk =>
    have hrun : exec (.brakeRelease m p on) s = .next (kreqField m p F.SPX_KREQ.BRK_REL on.toNat s) := rfl
    exact ⟨_, hrun, kreqField_asked _ rfl hready hwriter hlink, execBrakeRelease_mask rfl rfl rfl rfl rfl rfl rfl _ _ _ _ hrun⟩
  case gen =>
    have hrun : exec (.genRelease m p b4) s = .next (kreqField m p F.SPX_KREQ.GEN_REL b4.toNat s) := rfl
    exact ⟨_, hrun, kreqField_asked _ rfl hready hwriter hlink, execGenRelease_mask rfl rfl rfl rfl rfl rfl rfl _ _ _ _ hrun⟩
  case claim =>
    have hrun : exec (.claimCommit m p) s = .next ((claimCommit m p s).answer .done) := congrArg Host.Outcome.next (if_pos hready)
    obtain ⟨hc0, hc1, hc4, hpresent, hregs⟩ := claimCommit_taken hwriter hlink
    exact ⟨_, hrun, hc0, hc1, hc4, hpresent, hregs, rfl, execClaimCommit_mask rfl rfl rfl rfl rfl rfl rfl _ _ _ hrun⟩
  case other =>
    have hskip : kreqField m p F.SPX_KREQ.STO_REL on.toNat s = s.answer .done := by
      rw [kreqField, if_pos hready, kreqWrite, if_pos (by simp [hwriter])]
    exact ⟨_, congrArg Host.Outcome.next hskip, rfl⟩
  case challenge =>
    have hrun : exec (.heartbeatChallenge qa qb) s = .next (hbChallenge 1 qb.val (hbChallenge 0 qa.val
        (s.setKln { s.kln with hbSeq := (s.kln.hbSeq + 1) % 65536 }))) := congrArg Host.Outcome.next (if_neg (by simp [hruns, hrel]))
    have hone := hbChallenge_beats 1 qb.val (hbChallenge 0 qa.val (s.setKln { s.kln with hbSeq := (s.kln.hbSeq + 1) % 65536 }))
    have hzero := hbChallenge_beats 0 qa.val (s.setKln { s.kln with hbSeq := (s.kln.hbSeq + 1) % 65536 })
    refine ⟨_, hrun, ?_, ?_, ?_, ?_, execHeartbeatChallenge_mask rfl rfl rfl rfl rfl rfl _ _ _ hrun⟩
    · exact (congrArg (·.2.1) hone).trans (congrArg (·.2.1) hzero)
    · exact (congrArg (fun b => SMap.get 0 b.2.2 0) hone).trans ((hbCores_owe _ _).2.2.trans
        ((congrArg (fun b => SMap.get 0 b.2.2 0) hzero).trans (hbCores_owe _ _).1))
    · exact (congrArg (fun b => SMap.get 0 b.2.2 2) hone).trans (hbCores_owe _ _).2.1
    · refine (congrArg (fun b => SMap.get 16 b.1 0) hone).trans ((SMap.get_put_ne _ _ _ _ _ (by decide)).trans
        ((congrArg (fun b => SMap.get 16 b.1 0) hzero).trans ((SMap.get_put_self _ _ _ _).trans ?_)))
      show (if qa.val = q then (qa.val + 1) % 16 else qa.val) = _
      split
      · next h => rw [h]
      · rfl
  case right =>
    have hgood : (decide (tbl16 s.kln.table 0xC8 ≤ us) &&
        v.toNat == heartbeatAnswer s.kln.table p.val (SMap.get 16 s.kln.hbQ p.val)) = true := by
      rw [hv, beq_self_eq_true, decide_eq_true hus]; rfl
    have hans := (hbAnswer_of_owed p.val us v hlink howed).trans (if_pos hgood)
    have hrun : exec (.heartbeatAnswer m p one v us) s = .next ((hbAnswer p.val c us v s).answer .done) := by
      show execHeartbeatAnswer m p one v us s = _
      rw [execHeartbeatAnswer, if_pos hready, hw]
    refine ⟨_, hrun, ?_, rfl, execHeartbeatAnswer_mask rfl rfl rfl _ _ _ _ _ _ hrun⟩
    rw [State.answer_kln, hans, updArm_kln]
    rfl
  case wrong =>
    have hbad : ¬ (decide (tbl16 s.kln.table 0xC8 ≤ us) &&
        v.toNat == heartbeatAnswer s.kln.table p.val (SMap.get 16 s.kln.hbQ p.val)) = true := by
      simp [hv]
    have hans := (hbAnswer_of_owed p.val us v hlink howed).trans (if_neg hbad)
    have hrun : exec (.heartbeatAnswer m p one v us) s = .next ((hbAnswer p.val c us v s).answer .done) := by
      show execHeartbeatAnswer m p one v us s = _
      rw [execHeartbeatAnswer, if_pos hready, hw]
    exact ⟨_, hrun, congrArg (State.answer · .done) hans⟩
  case react =>
    obtain ⟨t, hrun⟩ : ∃ t, exec .ctrlReact s = .next t := ⟨_, rfl⟩
    obtain ⟨hrest, hlast, hlatch⟩ := execCtrlReact_taken hmail hlink hruns hrun
    exact ⟨t, hrun, hrest, hlast, hlatch, execCtrlReact_mask rfl rfl rfl rfl rfl _ hrun⟩
  case mirror =>
    have hrun : exec .kilnMirrorRefresh s = .next (kilnMirror s) := congrArg Host.Outcome.next (if_pos (by simp [hpd, hlink]))
    obtain ⟨hstate, hentry, hlast, hreason⟩ := kilnMirror_shows s
    exact ⟨_, hrun, hstate, hentry, hlast, hreason, execKilnMirrorRefresh_mask rfl _ hrun⟩
  case release =>
    have hrun : exec (.safeResetEdge e) s = .next (kilnRelease s) := by
      show execSafeResetEdge e s = _
      rw [execSafeResetEdge, if_neg (by simp [h0, h4, h6]), if_neg (by omega), if_neg (by simp [hhalt]), hreason]
    obtain ⟨hk, hlatch, hr, hsto, hmode, hcls⟩ := kilnRelease_released s
    exact ⟨_, hrun, hk, hlatch, hr, hsto, hmode, hcls,
      execSafeResetEdge_mask rfl rfl rfl rfl rfl rfl rfl rfl rfl rfl rfl rfl rfl rfl rfl rfl rfl rfl rfl rfl rfl _ _ hrun⟩
  case short =>
    have hrun : exec (.safeResetEdge e) s = .next (releaseRefused 7 s) := by
      show execSafeResetEdge e s = _
      rw [execSafeResetEdge, if_neg (by simp [h0, h4, h6]), if_pos hlow]
    refine ⟨_, hrun, raise_kln _ _, ?_, raise_sys _ _, raise_mem _ _,
      execSafeResetEdge_mask rfl rfl rfl rfl rfl rfl rfl rfl rfl rfl rfl rfl rfl rfl rfl rfl rfl rfl rfl rfl rfl _ _ hrun⟩
    have hstat : (releaseRefused 7 s).rd (F.MODE_STAT.MODE.addr 0 0 0) = s.rd (F.MODE_STAT.MODE.addr 0 0 0) :=
      raise_quiet _ _ _ (by decide) (by decide)
    exact (State.mode_congr (congrArg SysSt.phase (raise_sys _ _)) (State.get_of_rd hstat)).trans h6
  case watchdog =>
    have hrun : exec .klnclkWatchdog s = .next (raise 224 (tellControl 0x0F02 5 (kilnDrive (watchdogHit s)))) := by
      show execKlnclkWatchdog s = _
      rw [execKlnclkWatchdog, if_neg (by simp [h0, hw])]
      rfl
    have hkln : (raise 224 (tellControl 0x0F02 5 (kilnDrive (watchdogHit s)))).kln = (kilnDrive (watchdogHit s)).kln :=
      (raise_kln _ _).trans (tellControl_kln _ _ _)
    have hkeep := kilnDrive_lineless (watchdogHit s)
    have hlines := kilnDrive_lines (watchdogHit s)
    have hsto : stoAllowed (watchdogHit s) = false := by
      simp [stoAllowed, show (watchdogHit s).kln.wdog = true from rfl]
    refine ⟨_, hrun, ?_⟩
    beta_reduce
    rw [hkln]
    refine ⟨(congrArg KlnSt.wdog hkeep :), (congrArg KlnSt.cls5 hkeep :), hlines.gen.trans ?_, hlines.stoHs.trans hsto,
      hlines.stoLs hsto, hlines.brkHs rfl, (congrArg KlnSt.last hkeep :), execKlnclkWatchdog_mask rfl rfl rfl rfl rfl rfl _ hrun⟩
    exact if_neg (by simp [show (watchdogHit s).kln.wdog = true from rfl])

end Sys2Proof.Machine


/-! The host's command frames as the supervisions take them (16_bus.md R479, R480): what each does to the machines, the requests to the
Kiln, the charge session and the precharge, and O37. -/

namespace Sys2Proof.Machine
open Sys2Proof

/-! ### Machines' own state -/

/-- Only the machines' own state changed. -/
def MachsOnly (s t : State) : Prop := t = { s with sup := { s.sup with machs := t.sup.machs } }

section
variable {s t u : State} {m : Nat}

theorem MachsOnly.refl (s : State) : MachsOnly s s := rfl

theorem MachsOnly.trans (h : MachsOnly s t) (h' : MachsOnly t u) : MachsOnly s u := by
  unfold MachsOnly at h h' ⊢
  rw [h', h]

theorem MachsOnly.setMach (s : State) (m : Nat) (x : MachSup) : MachsOnly s (s.setMach m x) := rfl

theorem MachsOnly.regs (h : MachsOnly s t) : t.regs = s.regs := by rw [h]
theorem MachsOnly.sys (h : MachsOnly s t) : t.sys = s.sys := by rw [h]
theorem MachsOnly.kln (h : MachsOnly s t) : t.kln = s.kln := by rw [h]
theorem MachsOnly.alive (h : MachsOnly s t) : t.sup.alive = s.sup.alive := by rw [h]
theorem MachsOnly.resp (h : MachsOnly s t) : t.resp = s.resp := by rw [h]

theorem MachsOnly.machPar (h : MachsOnly s t) (m : Nat) : machPar t m = machPar s m := by
  rw [Machine.machPar, h.sys, Machine.machPar]

theorem MachsOnly.foldl {α : Type} {f : State → α → State} (hf : ∀ s x, MachsOnly s (f s x)) (l : List α) (s : State) :
    MachsOnly s (l.foldl f s) :=
  foldl_invariant (P := MachsOnly s) (fun x _ t ht => ht.trans (hf t x)) (MachsOnly.refl s)

/-- A change of some machines' state gives a machine outside of its reach what it had. -/
theorem State.mach_setMach_keeps {β : Type} {p : MachSup → β} {k : Nat} {x : MachSup} (h : p x = p (s.mach k)) :
    p ((s.setMach k x).mach m) = p (s.mach m) := by
  rcases eq_or_ne m k with rfl | hne
  · rw [State.mach_setMach, h]
  · rw [State.mach_setMach_of_ne hne]

/-! ### Torques and speeds (R309, R312) -/

/-- A torque command of machine `m`, unless it is controlled in speed. -/
def torqueTaken (m : Nat) (x : Int) (s : State) : State :=
  match machPar s m with
  | some p => if p.speedMode then s else s.setMach m { s.mach m with cmdT := x, commanded := true, hostLost := false }
  | none => s

/-- A speed command of machine `m`, if it is controlled in speed. -/
def speedTaken (m : Nat) (v : Int) (s : State) : State :=
  match machPar s m with
  | some p => if p.speedMode then s.setMach m { s.mach m with cmdSpd := v, commanded := true, hostLost := false } else s
  | none => s

theorem axleTorque_eq (tAx dT : Int) (s : State) :
    axleTorque tAx dT s = torqueTaken 1 (splitTorque s tAx dT).2 (torqueTaken 0 (splitTorque s tAx dT).1 s) := rfl

theorem torqueTaken_machs (m : Nat) (x : Int) (s : State) : MachsOnly s (torqueTaken m x s) := by
  unfold torqueTaken
  split
  · split
    · exact .refl s
    · exact .setMach _ _ _
  · exact .refl s

theorem speedTaken_machs (m : Nat) (v : Int) (s : State) : MachsOnly s (speedTaken m v s) := by
  unfold speedTaken
  split
  · split
    · exact .setMach _ _ _
    · exact .refl s
  · exact .refl s

theorem torqueTaken_own {p : MachPar} (hp : machPar s m = some p) (hmode : p.speedMode = false) (x : Int) :
    (torqueTaken m x s).mach m = { s.mach m with cmdT := x, commanded := true, hostLost := false } := by
  simp only [torqueTaken, hp, hmode, Bool.false_eq_true, if_false, State.mach_setMach]

theorem speedTaken_own {p : MachPar} (hp : machPar s m = some p) (hmode : p.speedMode = true) (v : Int) :
    (speedTaken m v s).mach m = { s.mach m with cmdSpd := v, commanded := true, hostLost := false } := by
  simp only [speedTaken, hp, hmode, if_true, State.mach_setMach]

theorem torqueTaken_other {k : Nat} (h : m ≠ k) (x : Int) (s : State) : (torqueTaken k x s).mach m = s.mach m := by
  unfold torqueTaken
  split
  · split
    · rfl
    · exact State.mach_setMach_of_ne h _ _
  · rfl

theorem speedTaken_other {k : Nat} (h : m ≠ k) (v : Int) (s : State) : (speedTaken k v s).mach m = s.mach m := by
  unfold speedTaken
  split
  · split
    · exact State.mach_setMach_of_ne h _ _
    · rfl
  · rfl

/-- Both torques are taken: each machine controlled in torque has its own. -/
theorem torquesTaken_mach {p : MachPar} {m : Fin 2} (hp : machPar s m.val = some p) (hmode : p.speedMode = false) (x y : Int) :
    (torqueTaken 1 y (torqueTaken 0 x s)).mach m.val =
      { s.mach m.val with cmdT := if m.val = 0 then x else y, commanded := true, hostLost := false } := by
  match m with
  | 0 => exact (torqueTaken_other (by decide) _ _).trans (torqueTaken_own hp hmode x)
  | 1 =>
    have h0 : (torqueTaken 0 x s).mach 1 = s.mach 1 := torqueTaken_other (by decide) _ _
    refine (torqueTaken_own (((torqueTaken_machs 0 x s).machPar 1).trans hp) hmode y).trans ?_
    rw [h0]
    rfl

theorem speedsTaken_mach {p : MachPar} {m : Fin 2} (hp : machPar s m.val = some p) (hmode : p.speedMode = true) (x y : Int) :
    (speedTaken 1 y (speedTaken 0 x s)).mach m.val =
      { s.mach m.val with cmdSpd := if m.val = 0 then x else y, commanded := true, hostLost := false } := by
  match m with
  | 0 => exact (speedTaken_other (by decide) _ _).trans (speedTaken_own hp hmode x)
  | 1 =>
    have h0 : (speedTaken 0 x s).mach 1 = s.mach 1 := speedTaken_other (by decide) _ _
    refine (speedTaken_own (((speedTaken_machs 0 x s).machPar 1).trans hp) hmode y).trans ?_
    rw [h0]
    rfl

theorem execAxleCmd_of_accepted {x : AxleCmd} (hauth : x.auth = true) (hpair : pairRuns s 0 = true)
    (halive : aliveOk s (SMap.get 0 s.sup.alive 0) x.alive.val = true) (hreq : x.req = none) : execAxleCmd x s = .next
      (if preBlocks s = true then supAlive 0 x.alive.val s else axleTorque x.tAx x.dT (supAlive 0 x.alive.val s)) := by
  rw [execAxleCmd, if_neg (by simp [hauth, hpair]), if_neg (by simp [halive]), hreq]
  rfl

theorem execSpeedCmd_of_accepted {y : SpeedCmd} (hauth : y.auth = true) (hpair : pairRuns s 0 = true)
    (halive : aliveOk s (SMap.get 0 s.sup.alive 1) y.alive.val = true) (hfree : preBlocks s = false) : execSpeedCmd y s = .next
      (speedTaken 1 y.spd1 (speedTaken 0 y.spd0 (supAlive 1 y.alive.val s))) := by
  have hno : ¬ preBlocks (supAlive 1 y.alive.val s) = true := by
    show ¬ preBlocks s = true
    simp [hfree]
  rw [execSpeedCmd, if_neg (by simp [hauth, hpair]), if_neg (by simp [halive])]
  exact congrArg Host.Outcome.next ((if_neg hno).trans rfl)

/-! ### Stops (R325) -/

/-- The bit asked for stands in SPX_KREQ. -/
theorem getBits_and_of_bit {w v : Word} {b : Nat} (hb : v.getLsbD b = true) : getBits (w &&& v) b b = getBits w b b := by
  have hone : ∀ x : Word, getBits x b b = (x.getLsbD b).toNat := fun x => by
    rw [getBits, show b + 1 - b = 1 from by omega]
    exact (Nat.toNat_testBit _ _).symm
  rw [hone, hone, BitVec.getLsbD_and, hb, Bool.and_true]

/-- A field of SPX_KREQ that is one bit above those that always read 0. -/
abbrev Fld.KreqBit (f : Fld) : Prop :=
  f.base = F.SPX_KREQ.GEN_REL.base ∧ f.s1 = F.SPX_KREQ.GEN_REL.s1 ∧ f.hi = f.lo ∧ 22 ≤ f.lo ∧ f.lo < 32

theorem kreqField_get {f : Fld} {q : Master} (hf : f.KreqBit) (hready : spxReady s q 0 = true) (hwriter : kreqWriter s q 0 = true) :
    (kreqField q 0 f 1 s).get f = 1 := by
  obtain ⟨hbase, hs1, hhi, hlo, h32⟩ := hf
  have haddr : f.addr 0 0 0 = F.SPX_KREQ.GEN_REL.addr 0 0 0 := by simp only [Fld.addr, hbase, hs1]; omega
  have hrd : (kreqField q 0 f 1 s).rd (f.addr 0 0 0) = kreqWith s 0 f 1 &&& 0xFFC00000 := by
    rw [kreqField, if_pos hready, kreqWrite, if_neg (by simp [hwriter]), haddr]
    refine (State.rd_of_regs (State.answer_regs _ _) _).trans ?_
    extract_lets new t
    have hwr : t.rd (F.SPX_KREQ.GEN_REL.addr 0 0 0) = new := State.rd_wr_self _ _ _
    exact (ite_keeps (p := (·.rd (F.SPX_KREQ.GEN_REL.addr 0 0 0))) (kreqArrive_quiet _ _ _ (by decide))).trans hwr
  have hmask : (0xFFC00000 : Word).getLsbD f.lo = true := by
    have hall : ∀ b : Fin 32, 22 ≤ b.val → (0xFFC00000 : Word).getLsbD b.val = true := by decide
    exact hall ⟨f.lo, h32⟩ hlo
  rw [State.get, hrd, hhi, getBits_and_of_bit hmask, kreqWith, hhi, getBits_setBits_self _ _ _ _ h32 le_rfl,
    show f.lo + 1 - f.lo = 1 from by omega]
  rfl

theorem pairRuns_ready (h : pairRuns s 0 = true) : s.pdReady 2 = true := by
  simp only [pairRuns, Bool.and_eq_true] at h
  exact h.1.2

theorem supKreq_sup (f : Fld) (v : Nat) (s : State) : (supKreq f v s).sup = s.sup := by
  rw [supKreq, quietly_sup, kreqField_sup]

theorem supKreq_get {f : Fld} (hf : f.KreqBit) (hpair : pairRuns s 0 = true) (hkreq : kreqPair s = 0) : (supKreq f 1 s).get f = 1 := by
  have hready : spxReady s (.pair ⟨kreqPair s % 2, Nat.mod_lt _ (by decide)⟩) 0 = true := pairRuns_ready hpair
  have hwriter : kreqWriter s (.pair ⟨kreqPair s % 2, Nat.mod_lt _ (by decide)⟩) 0 = true := by
    simp [kreqWriter, hkreq]
  rw [supKreq, quietly_get]
  have hzero : ∀ n, n = 0 → (kreqField (.pair ⟨kreqPair s % 2, Nat.mod_lt _ (by decide)⟩) n f 1 s).get f = 1 := by
    rintro n rfl
    exact kreqField_get hf hready hwriter
  exact hzero _ hkreq

/-- A request leaves every other register out of the drive's reach. -/
theorem supKreq_rd {a : Nat} (hq : Quiet a) (hne : a < 0x30080000 ∨ 0x30090000 ≤ a) (f : Fld) (v : Nat) (s : State) :
    (supKreq f v s).rd a = s.rd a := by
  have hwrite : ∀ (q : Master) (k : Nat) (w : Word), k < 2 → (kreqWrite q k w s).rd a = s.rd a := fun q k w hk => by
    unfold kreqWrite
    split
    · rfl
    · extract_lets new t
      have hwr : t.rd a = s.rd a := by
        refine State.rd_wr_ne _ _ _ _ ?_
        simp only [Fld.addr, F.SPX_KREQ.GEN_REL]
        omega
      exact (ite_keeps (p := (·.rd a)) (kreqArrive_quiet _ _ _ hq)).trans hwr
  have hpair : Machine.kreqPair s < 2 := Nat.mod_lt _ (by decide)
  rw [supKreq]
  refine (State.rd_of_regs (quietly_regs _ _) _).trans ?_
  unfold kreqField
  split
  · exact (State.rd_of_regs (State.answer_regs _ _) _).trans (hwrite _ _ _ hpair)
  · rfl

theorem MachsOnly.pairRuns (h : MachsOnly s t) : pairRuns t 0 = pairRuns s 0 := by
  have hsys := h.sys
  have hrd : ∀ a, t.rd a = s.rd a := State.rd_of_regs h.regs
  rw [Machine.pairRuns, Machine.pairRuns, hsys, State.pdReady_of_rd (by decide) (hrd _), State.get_of_rd (hrd _)]

theorem MachsOnly.kreqPair (h : MachsOnly s t) : kreqPair t = kreqPair s := by rw [Machine.kreqPair, h.kln, Machine.kreqPair]

/-- The machines of the Skein begin a stop of category 1. -/
def stopsMarked (s : State) : State :=
  [0, 1].foldl (fun s m =>
    match machPar s m with
    | some _ => s.setMach m { s.mach m with stop1 := true, below := 0 }
    | none => s) s

/-- One machine's own step of `stopsMarked`. -/
def stopMark (s : State) (m : Nat) : State :=
  match machPar s m with
  | some _ => s.setMach m { s.mach m with stop1 := true, below := 0 }
  | none => s

theorem stopsMarked_eq (s : State) : stopsMarked s = stopMark (stopMark s 0) 1 := rfl

theorem stopMark_machs (s : State) (k : Nat) : MachsOnly s (stopMark s k) := by
  unfold stopMark
  split
  · exact .setMach _ _ _
  · exact .refl s

theorem stopMark_own {p : MachPar} (hp : machPar s m = some p) : (stopMark s m).mach m = { s.mach m with stop1 := true, below := 0 } := by
  simp only [stopMark, hp, State.mach_setMach]

theorem stopMark_other {k : Nat} (h : m ≠ k) (s : State) : (stopMark s k).mach m = s.mach m := by
  unfold stopMark
  split
  · exact State.mach_setMach_of_ne h _ _
  · rfl

theorem stopsMarked_machs (s : State) : MachsOnly s (stopsMarked s) := (stopMark_machs s 0).trans (stopMark_machs _ 1)

theorem stopsMarked_mach {p : MachPar} {m : Fin 2} (hp : machPar s m.val = some p) :
    (stopsMarked s).mach m.val = { s.mach m.val with stop1 := true, below := 0 } := by
  rw [stopsMarked_eq]
  match m with
  | 0 => exact (stopMark_other (by decide) _).trans (stopMark_own hp)
  | 1 =>
    have h0 : (stopMark s 0).mach 1 = s.mach 1 := stopMark_other (by decide) _
    exact (stopMark_own (((stopMark_machs s 0).machPar 1).trans hp)).trans (by rw [h0]; rfl)

theorem stopOne_mach (s : State) (m : Nat) : (stopOne s).mach m = (stopsMarked s).mach m :=
  State.mach_of_machs (congrArg SupSt.machs (supKreq_sup _ _ _)) m

/-- A stop of category 0 ends the machines' stops of category 1. -/
def stopsEnded (s : State) : State :=
  [0, 1].foldl (fun s m => if (s.mach m).stop1 then s.setMach m { s.mach m with stop1 := false, below := 0 } else s) s

theorem stopsEnded_machs (s : State) : MachsOnly s (stopsEnded s) := by
  refine MachsOnly.foldl (fun s m => ?_) _ s
  split
  · exact .setMach _ _ _
  · exact .refl s

theorem stopsEnded_mach (s : State) (m : Fin 2) : ((stopsEnded s).mach m.val).stop1 = false := by
  refine foldl_attains (P := fun t : State => (t.mach m.val).stop1 = false) (x := m.val) ?_ (fun t => ?_) (fun k t ht => ?_) s
  · match m with
    | 0 => simp
    | 1 => simp
  · split
    · rw [State.mach_setMach]
    · next h => simpa using h
  · split
    · rcases eq_or_ne m.val k with h | hne
      · rw [← h, State.mach_setMach]
      · rwa [State.mach_setMach_of_ne hne]
    · exact ht

/-! ### The precharge (R392, R393) -/

theorem nlLevel_rd {a c : Nat} (h : OffChannel c a) (s : State) : (nlLevel c s).rd a = s.rd a := by
  refine ite_keeps (p := (·.rd a)) ?_
  refine (foldl_keeps (·.rd a) _ _ (fun l hl t => ?_) _).trans (setChWord_rd h _ F.CNV_CH_STAT.NL_OVER _ (by decide))
  exact (showOffReq_rd h.1 (mem_chLegs_lt hl) _).trans (State.rd_of_regs (State.setLeg_regs _ _ _) _)

theorem chStart_rd {a c : Nat} (h : OffChannel c a) (hdrain : s.getB F.CNV_CH_CFG.DRAINING c = false) (hused : chUsed s c = true)
    (hoff : s.chState c = 0) : (chStart c s).rd a = s.rd a := by
  rw [chStart_of_off hdrain hused hoff, chGoto_rd h, nlLevel_rd h]
  simp only [chStarting]
  rw [setChWord_rd h _ _ _ (by decide), setChWord_rd h _ _ _ (by decide), setChWord_rd h _ _ _ (by decide),
    State.rd_of_regs (State.setChan_regs _ _ _), holdLegs_rd h.1, setChWord_rd h _ _ _ (by decide)]

/-- The source channel's direction and the precharge's words before its start. -/
def prechargeAsked (v : Nat) (s : State) : State :=
  (((s.set F.CHG_PRE.PSTATE 1).set F.CHG_PRE.FAIL 0).set F.CHG_PRE.TARGET (min v 65535)).set F.CNV_CH_CFG.DIR 1 2

theorem prechargeAsked_rd {a : Nat} (hpre : a ≠ F.CHG_PRE.PSTATE.addr 0 0 0) (hcfg : a ≠ F.CNV_CH_CFG.DIR.addr 2 0 0) (v : Nat) (s : State) :
    (prechargeAsked v s).rd a = s.rd a := by
  have hfail : a ≠ F.CHG_PRE.FAIL.addr 0 0 0 := hpre
  have htarget : a ≠ F.CHG_PRE.TARGET.addr 0 0 0 := hpre
  rw [prechargeAsked, set_quiet _ _ _ _ _ _ _ hcfg, set_quiet _ _ _ _ _ _ _ htarget, set_quiet _ _ _ _ _ _ _ hfail,
    set_quiet _ _ _ _ _ _ _ hpre]

/-- A source that is off is started with its direction; PSTATE, FAIL and TARGET stand (R392). -/
theorem precharge_started {v : Nat} (hused : chUsed s 2 = true) (hoff : s.chState 2 = 0)
    (hdrain : s.getB F.CNV_CH_CFG.DRAINING 2 = false) : (chStart 2 (prechargeAsked v s)).get F.CHG_PRE.PSTATE = 1 ∧
    (chStart 2 (prechargeAsked v s)).get F.CHG_PRE.FAIL = 0 ∧ (chStart 2 (prechargeAsked v s)).get F.CHG_PRE.TARGET = min v 65535 ∧
    (chStart 2 (prechargeAsked v s)).get F.CNV_CH_CFG.DIR 2 = 1 ∧ (chStart 2 (prechargeAsked v s)).chState 2 = 1 := by
  have hdrain' : (prechargeAsked v s).getB F.CNV_CH_CFG.DRAINING 2 = false := by
    have hpre : (((s.set F.CHG_PRE.PSTATE 1).set F.CHG_PRE.FAIL 0).set F.CHG_PRE.TARGET (min v 65535)).rd
        (F.CNV_CH_CFG.DRAINING.addr 2 0 0) = s.rd (F.CNV_CH_CFG.DRAINING.addr 2 0 0) := by
      rw [set_quiet _ _ _ _ _ _ _ (by decide), set_quiet _ _ _ _ _ _ _ (by decide), set_quiet _ _ _ _ _ _ _ (by decide)]
    rw [prechargeAsked, State.getB_set_clear (by decide), State.getB_of_rd hpre, hdrain]
  have hused' : chUsed (prechargeAsked v s) 2 = true := by
    have hkind : (prechargeAsked v s).get F.CNV_CH_CFG.KIND 2 = s.get F.CNV_CH_CFG.KIND 2 := by
      rw [prechargeAsked, State.get_set_clear (by decide)]
      refine State.get_of_rd ?_
      rw [set_quiet _ _ _ _ _ _ _ (by decide), set_quiet _ _ _ _ _ _ _ (by decide), set_quiet _ _ _ _ _ _ _ (by decide)]
    rw [chUsed, State.pdReady_of_rd (by decide) (prechargeAsked_rd (by decide) (by decide) v s), hkind]
    exact hused
  have hoff' : (prechargeAsked v s).chState 2 = 0 :=
    (State.chState_of_get (State.get_of_rd (prechargeAsked_rd (by decide) (by decide) v s))).trans hoff
  have hword : (chStart 2 (prechargeAsked v s)).rd (F.CHG_PRE.PSTATE.addr 0 0 0) =
      (((s.set F.CHG_PRE.PSTATE 1).set F.CHG_PRE.FAIL 0).set F.CHG_PRE.TARGET (min v 65535)).rd (F.CHG_PRE.PSTATE.addr 0 0 0) := by
    rw [chStart_rd (by decide) hdrain' hused' hoff', prechargeAsked, set_quiet _ _ _ _ _ _ _ (by decide)]
  refine ⟨?_, ?_, ?_, ?_, (chStart_shows hdrain' hused' hoff').1⟩
  · rw [State.get_of_rd hword, State.get_set_clear (by decide), State.get_set_clear (by decide)]
    exact State.get_set_fits (by decide) (by decide) _ _ _ _
  · rw [State.get_of_rd (f := F.CHG_PRE.FAIL) hword, State.get_set_clear (by decide)]
    exact State.get_set_fits (by decide) (by decide) _ _ _ _
  · rw [State.get_of_rd (f := F.CHG_PRE.TARGET) hword]
    exact State.get_set_fits (by decide) (Nat.lt_of_le_of_lt (Nat.min_le_right _ _) (by decide)) _ _ _ _
  · rw [chStart_of_off hdrain' hused' hoff', chGoto_get (by decide), nlLevel_get (by decide), chStarting_get (by decide),
      State.get_set_clear (by decide), prechargeAsked]
    exact State.get_set_one _ _ _ _ _ (by decide) (by decide)

section
variable {v : Nat} {b : BmsLimits} (hmode : s.mode = 2) (hopen : s.chg.contactors = false) (h1 : s.get F.CHG_PRE.PSTATE ≠ 1)
  (h2 : s.get F.CHG_PRE.PSTATE ≠ 2) (hbms : s.chg.bms = some b) (hfresh : s.chg.fresh = true) (hv : b.packV = some v)
include hmode hopen h1 h2 hbms hfresh hv

theorem preCommand_of_asked : preCommand s = if (decide (v > (chgPar s).hvMax) || s.chState 2 != 0) = true
    then (s.set F.CHG_PRE.PSTATE 4).set F.CHG_PRE.FAIL 2 else chStart 2 (prechargeAsked v s) := by
  rw [preCommand, if_neg (by simp [hmode, hopen, h1, h2])]
  simp only [hbms, hfresh, if_true, hv]
  rfl

end

theorem preCommand_of_closed (h : s.chg.contactors = true) : preCommand s = s := if_pos (by simp [h])

/-! ### Time-outs (R479, R480) -/

/-- Machines whose commands are lost with a time-out. -/
def losing (s : State) : List Nat := [0, 1].filter (fun m => (machPar s m).isSome && (s.mach m).commanded && !(s.mach m).hostLost)

/-- Machines whose commands were lost. -/
def lost (s : State) : List Nat := [0, 1].filter (fun m => (machPar s m).isSome && (s.mach m).hostLost)

/-- Machine `m` is controlled in speed. -/
def inSpeed (s : State) (m : Nat) : Bool := match machPar s m with | some p => p.speedMode | none => false

/-- The time-out is counted and told, to torque machines with 0x1010. -/
def lossTold (s : State) : State :=
  if (losing s).any (fun m => !inSpeed s m) then
    issue 0x1010 (raise 205 (s.bump F.REEL_STAT2.HOST_TMO_CNT F.REEL_CTL.SAT)).sys.cfg.sup.hostClass
      (raise 205 (s.bump F.REEL_STAT2.HOST_TMO_CNT F.REEL_CTL.SAT))
  else raise 205 (s.bump F.REEL_STAT2.HOST_TMO_CNT F.REEL_CTL.SAT)

/-- A machine's commands are lost; a speed machine of LOSS_ACT 0 ramps to zero. -/
def lossMark (speed : Nat → Bool) (s : State) (m : Nat) : State :=
  if !speed m then s.setMach m { s.mach m with hostLost := true }
  else if s.sys.cfg.sup.lossAct = 0 then s.setMach m { s.mach m with hostLost := true, cmdSpd := 0 }
  else s.setMach m { s.mach m with hostLost := true }

theorem execHostTimeout_of_losing (hpair : pairRuns s 0 = true) (hms : (losing s).isEmpty = false) : execHostTimeout s = .next
    (let u := (losing s).foldl (lossMark (inSpeed s)) (lossTold s)
     if u.sys.cfg.sup.lossAct = 2 ∧ (losing s).any (inSpeed s) then stopOne u else u) := by
  refine congrArg Host.Outcome.next ((if_neg (by simp [hpair])).trans ((if_neg ?_).trans rfl))
  show ¬ (losing s).isEmpty = true
  simp [hms]

theorem lossMark_machs (speed : Nat → Bool) (s : State) (m : Nat) : MachsOnly s (lossMark speed s m) := by
  unfold lossMark
  split
  · exact .setMach _ _ _
  · split <;> exact .setMach _ _ _

theorem lossMark_lost (speed : Nat → Bool) (s : State) (m : Nat) : ((lossMark speed s m).mach m).hostLost = true := by
  unfold lossMark
  split
  · rw [State.mach_setMach]
  · split <;> rw [State.mach_setMach]

theorem lossMark_other {k : Nat} (h : m ≠ k) (speed : Nat → Bool) (s : State) : (lossMark speed s k).mach m = s.mach m := by
  unfold lossMark
  split
  · exact State.mach_setMach_of_ne h _ _
  · split <;> exact State.mach_setMach_of_ne h _ _

theorem lossMark_ramps {speed : Nat → Bool} (hspeed : speed m = true) (hact : s.sys.cfg.sup.lossAct = 0) :
    ((lossMark speed s m).mach m).cmdSpd = 0 := by
  rw [lossMark, if_neg (by simp [hspeed]), if_pos hact, State.mach_setMach]

theorem losses_lost {speed : Nat → Bool} {ms : List Nat} (hm : m ∈ ms) (s : State) :
    ((ms.foldl (lossMark speed) s).mach m).hostLost = true := by
  refine foldl_attains (P := fun t : State => (t.mach m).hostLost = true) hm (fun t => lossMark_lost _ _ _) (fun k t ht => ?_) s
  rcases eq_or_ne m k with rfl | hne
  · exact lossMark_lost _ _ _
  · rwa [lossMark_other hne]

theorem losses_ramp {speed : Nat → Bool} {ms : List Nat} (hm : m ∈ ms) (hnodup : ms.Nodup) (hspeed : speed m = true)
    (hact : s.sys.cfg.sup.lossAct = 0) : ((ms.foldl (lossMark speed) s).mach m).cmdSpd = 0 :=
  foldl_establishes (P := fun t : State => (t.mach m).cmdSpd = 0) (Q := fun t : State => t.sys.cfg.sup.lossAct = 0) hm hnodup
    (fun k _ _ t ht => by rwa [(lossMark_machs speed t k).sys]) (fun _ ht => lossMark_ramps hspeed ht)
    (fun k _ hne t ht => by rwa [lossMark_other (Ne.symm hne)]) hact

theorem losses_machs (speed : Nat → Bool) (ms : List Nat) (s : State) : MachsOnly s (ms.foldl (lossMark speed) s) :=
  MachsOnly.foldl (lossMark_machs speed) ms s

/-- A stop of category 1 leaves the machine's command and its loss. -/
theorem stopOne_keeps {β : Type} {p : MachSup → β} (hp : ∀ x, p { x with stop1 := true, below := 0 } = p x) (s : State) (m : Nat) :
    p ((stopOne s).mach m) = p (s.mach m) := by
  have hmark : ∀ (s : State) (k : Nat), p ((stopMark s k).mach m) = p (s.mach m) := fun s k => by
    unfold stopMark
    split
    · exact State.mach_setMach_keeps (hp _)
    · rfl
  rw [stopOne_mach, stopsMarked_eq, hmark, hmark]

theorem lossTold_shows (s : State) : (lossTold s).get F.REEL_STAT2.HOST_TMO_CNT = min (s.get F.REEL_STAT2.HOST_TMO_CNT + 1) 255 ∧
    (lossTold s).sys.cfg = s.sys.cfg ∧ ((losing s).any (fun m => !inSpeed s m) = true → (lossTold s).sys.lastFault = 0x1010) := by
  have hcnt : (raise 205 (s.bump F.REEL_STAT2.HOST_TMO_CNT F.REEL_CTL.SAT)).get F.REEL_STAT2.HOST_TMO_CNT =
      min (s.get F.REEL_STAT2.HOST_TMO_CNT + 1) 255 :=
    (raise_get_high (by decide) _).trans (State.get_bump_own (by decide) (by decide) _ _)
  have hsys : (raise 205 (s.bump F.REEL_STAT2.HOST_TMO_CNT F.REEL_CTL.SAT)).sys = s.sys :=
    (raise_sys _ _).trans (sys_of_mask (K := { regs := true }) rfl (bump_mask rfl _ _ _ _ _ _ _))
  unfold lossTold
  split
  · refine ⟨(issue_get _ _ _ _ _ _ _).trans hcnt, ?_, fun _ => issue_lastFault _ _ _⟩
    rw [issue, issueFor_eq]
    exact (congrArg SysSt.cfg hsys :)
  · next h => exact ⟨hcnt, congrArg SysSt.cfg hsys, fun h' => absurd h' h⟩

/-- A speed machine of LOSS_ACT 1 ramps to zero when the loss lasts. -/
def lossRamp (speed : Nat → Bool) (s : State) (m : Nat) : State :=
  if speed m && s.sys.cfg.sup.lossAct = 1 then s.setMach m { s.mach m with cmdSpd := 0 } else s

theorem execHostLossTimeout_of_running (hpair : pairRuns s 0 = true) : execHostLossTimeout s = .next
    (if (lost s).any (fun m => !inSpeed s m) then stopOne ((lost s).foldl (lossRamp (inSpeed s)) s)
      else (lost s).foldl (lossRamp (inSpeed s)) s) :=
  congrArg Host.Outcome.next ((if_neg (by simp [hpair])).trans rfl)

theorem lossRamp_machs (speed : Nat → Bool) (s : State) (m : Nat) : MachsOnly s (lossRamp speed s m) := by
  unfold lossRamp
  split
  · exact .setMach _ _ _
  · exact .refl s

theorem lossRamps_ramp {speed : Nat → Bool} {ms : List Nat} (hm : m ∈ ms) (hnodup : ms.Nodup) (hspeed : speed m = true)
    (hact : s.sys.cfg.sup.lossAct = 1) : ((ms.foldl (lossRamp speed) s).mach m).cmdSpd = 0 := by
  refine foldl_establishes (P := fun t : State => (t.mach m).cmdSpd = 0) (Q := fun t : State => t.sys.cfg.sup.lossAct = 1) hm hnodup
    (fun k _ _ t ht => by rwa [(lossRamp_machs speed t k).sys]) (fun t ht => ?_) (fun k _ hne t ht => ?_) hact
  · rw [lossRamp, if_pos (by simp [hspeed, ht]), State.mach_setMach]
  · unfold lossRamp
    split
    · rwa [State.mach_setMach_of_ne (Ne.symm hne)]
    · exact ht

end

/-! ### The commands -/

theorem emrEnter_sup {s : State} (hoff : s.sup.emr = false) (hen : s.sys.cfg.sup.emrEn = true) (hmode : s.mode = 3 ∨ s.mode = 5) :
    (emrEnter s).sup.emr = true ∧ (emrEnter s).sup.emrTasks = 0 ∧ (emrEnter s).sup.machs = s.sup.machs := by
  have hmode' : (s.mode != 3 && s.mode != 5) = false := by
    rcases hmode with h | h <;> rw [h] <;> rfl
  have hpush : ∀ body t, (ashPush 8 0 0 body t).sup = t.sup := fun body t =>
    sup_of_mask (K := { regs := true, fab := true }) rfl (ashPush_mask rfl rfl _ _ _ body t)
  have hrun : emrEnter s = _ := if_neg (by simp [hoff, hen, hmode'])
  rw [hrun]
  dsimp only
  rw [hpush]
  exact ⟨rfl, rfl, rfl⟩

section
variable {s : State} {m : Fin 2} {p : MachPar}

/-- The machine whose commands are lost is one of the two. -/
theorem mem_losing (hp : machPar s m.val = some p) (hc : (s.mach m.val).commanded = true) (hl : (s.mach m.val).hostLost = false) :
    m.val ∈ losing s := by
  refine List.mem_filter.mpr ⟨?_, by simp [hp, hc, hl]⟩
  match m with
  | 0 => simp
  | 1 => simp

theorem mem_lost (hp : machPar s m.val = some p) (hl : (s.mach m.val).hostLost = true) : m.val ∈ lost s := by
  refine List.mem_filter.mpr ⟨?_, by simp [hp, hl]⟩
  match m with
  | 0 => simp
  | 1 => simp

theorem nodup_losing (s : State) : (losing s).Nodup := List.Nodup.filter _ (by decide)

theorem nodup_lost (s : State) : (lost s).Nodup := List.Nodup.filter _ (by decide)

theorem inSpeed_of_par (hp : machPar s m.val = some p) : inSpeed s m.val = p.speedMode := by
  simp only [inSpeed, hp]

/-- A time-out marks each commanded machine as lost and goes on as its kind says (R479, R480). -/
theorem execHostTimeout_shows {t : State} (hpair : pairRuns s 0 = true) (hp : machPar s m.val = some p)
    (hc : (s.mach m.val).commanded = true) (hl : (s.mach m.val).hostLost = false) (hrun : execHostTimeout s = .next t) :
    (t.mach m.val).hostLost = true ∧ t.get F.REEL_STAT2.HOST_TMO_CNT = min (s.get F.REEL_STAT2.HOST_TMO_CNT + 1) 255 ∧
    (p.speedMode = false → s.sys.cfg.sup.lossAct ≠ 2 → t.sys.lastFault = 0x1010) ∧
    (p.speedMode = true → s.sys.cfg.sup.lossAct = 0 → (t.mach m.val).cmdSpd = 0) := by
  have hm := mem_losing hp hc hl
  have hne : (losing s).isEmpty = false := by
    rw [List.isEmpty_eq_false_iff]
    exact List.ne_nil_of_mem hm
  obtain ⟨hcnt, hcfg, hfault⟩ := lossTold_shows s
  have honly := losses_machs (inSpeed s) (losing s) (lossTold s)
  have hlost := losses_lost hm (speed := inSpeed s) (lossTold s)
  have hcfg' : ((losing s).foldl (lossMark (inSpeed s)) (lossTold s)).sys.cfg = s.sys.cfg :=
    (congrArg SysSt.cfg honly.sys).trans hcfg
  have hcnt' : ((losing s).foldl (lossMark (inSpeed s)) (lossTold s)).get F.REEL_STAT2.HOST_TMO_CNT = _ :=
    (State.get_of_regs honly.regs _ _ _ _).trans hcnt
  have hfault' : p.speedMode = false → ((losing s).foldl (lossMark (inSpeed s)) (lossTold s)).sys.lastFault = 0x1010 := fun hs =>
    (congrArg SysSt.lastFault honly.sys).trans (hfault (List.any_eq_true.mpr ⟨_, hm, by simp [inSpeed_of_par hp, hs]⟩))
  have hramp : p.speedMode = true → s.sys.cfg.sup.lossAct = 0 →
      (((losing s).foldl (lossMark (inSpeed s)) (lossTold s)).mach m.val).cmdSpd = 0 := fun hs h0 =>
    losses_ramp hm (nodup_losing s) ((inSpeed_of_par hp).trans hs) (by rw [hcfg]; exact h0)
  rw [execHostTimeout_of_losing hpair hne] at hrun
  cases hrun
  dsimp only
  rw [hcfg']
  split
  · next hact =>
    refine ⟨(stopOne_keeps (p := MachSup.hostLost) (fun _ => rfl) _ _).trans hlost, ?_, fun _ h2 => absurd hact.1 h2,
      fun hs h0 => (stopOne_keeps (p := MachSup.cmdSpd) (fun _ => rfl) _ _).trans (hramp hs h0)⟩
    refine Eq.trans (State.get_of_rd ?_) hcnt'
    exact (supKreq_rd (by decide) (by decide) _ _ _).trans (State.rd_of_regs (stopsMarked_machs _).regs _)
  · exact ⟨hlost, hcnt', fun hs _ => hfault' hs, hramp⟩

/-- A loss that lasts stops a torque machine, and a speed that LOSS_ACT 1 held ramps to zero (R479). -/
theorem execHostLossTimeout_shows {t : State} (hpair : pairRuns s 0 = true) (hp : machPar s m.val = some p)
    (hl : (s.mach m.val).hostLost = true) (hrun : execHostLossTimeout s = .next t) :
    (p.speedMode = false → (t.mach m.val).stop1 = true ∧ (t.mach m.val).below = 0) ∧
    (p.speedMode = true → s.sys.cfg.sup.lossAct = 1 → (t.mach m.val).cmdSpd = 0) := by
  have hm := mem_lost hp hl
  have honly := MachsOnly.foldl (lossRamp_machs (inSpeed s)) (lost s) s
  have hramp : p.speedMode = true → s.sys.cfg.sup.lossAct = 1 → (((lost s).foldl (lossRamp (inSpeed s)) s).mach m.val).cmdSpd = 0 :=
    fun hs h1 => lossRamps_ramp hm (nodup_lost s) ((inSpeed_of_par hp).trans hs) h1
  rw [execHostLossTimeout_of_running hpair] at hrun
  cases hrun
  split
  · refine ⟨fun _ => ?_, fun hs h1 => (stopOne_keeps (p := MachSup.cmdSpd) (fun _ => rfl) _ _).trans (hramp hs h1)⟩
    rw [stopOne_mach, stopsMarked_mach ((honly.machPar m.val).trans hp)]
    exact ⟨rfl, rfl⟩
  · next hany =>
    exact ⟨fun hs => absurd (List.any_eq_true.mpr ⟨_, hm, by simp [inSpeed_of_par hp, hs]⟩) hany, hramp⟩

end

/-- Settles O37: each clause is the branch of its row; the machines' changes are `MachsOnly` folds over the two machines. -/
theorem hostCommands : Obligations.HostCommands := by
  unfold Obligations.HostCommands
  intro s x y z b m p r v ts chg lost'
  refine ⟨fun hauth hpair halive => ⟨fun hreq hfree hp hmode => ?torque, fun hreq hblock => ?blocked, fun hreq hfree => ?request⟩,
    fun hauth hpair hbad => ?alive, fun hauth => ?axleAbsent, fun hauth hpair halive hfree hp hmode => ?speed,
    fun hpair hkreq => ⟨?stopOne, ?stopZero⟩, fun hpair hemr => ?emrCancel, fun hpair hemr => ?emrRenew,
    fun hpair hemr hen hmode => ?emrEnter, fun hauth hpair halive => ⟨fun hst hfree => ?chgStart, fun hst hblock => ?chgBlocked, fun hst => ?chgStop⟩,
    fun hpair => ⟨fun hst hpause => ?bmsResume, fun hst => ?bms, fun hmode h1 h2 hbms hfresh hv => ⟨fun hle hused hoff hdrain => ?pre, fun hgt => ?preRefused⟩,
      ?preClosed, fun hst hch => ?contactor, fun hcmd hms => ?chgTimeout⟩,
    fun hpair hp hc hl => ?timeout, fun hpair hp hl => ?lossTimeout⟩
  case torque =>
    have hrun : exec (.axleCmd x) s = .next (axleTorque x.tAx x.dT (supAlive 0 x.alive.val s)) :=
      (execAxleCmd_of_accepted hauth hpair halive hreq).trans (congrArg Host.Outcome.next (if_neg (by simp [hfree])))
    have honly := (torqueTaken_machs 0 ts.1 (supAlive 0 x.alive.val s)).trans (torqueTaken_machs 1 ts.2 _)
    have hmach := torquesTaken_mach (s := supAlive 0 x.alive.val s) hp hmode ts.1 ts.2
    refine ⟨_, hrun, (congrArg MachSup.cmdT hmach :), (congrArg MachSup.commanded hmach :), (congrArg MachSup.hostLost hmach :), ?_,
      honly.regs, honly.sys, execAxleCmd_mask rfl rfl rfl rfl rfl rfl rfl rfl rfl rfl rfl rfl rfl rfl rfl rfl rfl rfl rfl rfl rfl rfl _ _ hrun⟩
    exact (congrArg (SMap.get 0 · 0) honly.alive).trans (SMap.get_put_self _ _ _ _)
  case blocked =>
    exact ⟨_, (execAxleCmd_of_accepted hauth hpair halive hreq).trans (congrArg Host.Outcome.next (if_pos hblock)), rfl⟩
  case request =>
    have hrun : exec (.axleCmd { x with req := none }) s = .next (axleTorque x.tAx x.dT (supAlive 0 x.alive.val s)) :=
      (execAxleCmd_of_accepted (x := { x with req := none }) hauth hpair halive rfl).trans
        (congrArg Host.Outcome.next (if_neg (by simp [hfree])))
    refine ⟨_, hrun, _, ?_, rfl⟩
    have honly := (torqueTaken_machs 0 ts.1 (supAlive 0 x.alive.val s)).trans (torqueTaken_machs 1 ts.2 _)
    have hfree' : preBlocks (supAlive 0 x.alive.val s) = false := hfree
    have hstill : preBlocks (axleTorque x.tAx x.dT (supAlive 0 x.alive.val s)) = false := by
      rw [axleTorque_eq, preBlocks, State.get_of_regs honly.regs]
      exact hfree
    have hcfg : (axleTorque x.tAx x.dT (supAlive 0 x.alive.val s)).sys = s.sys := honly.sys
    show execAxleCmd x s = _
    rw [execAxleCmd, if_neg (by simp [hauth, hpair]), if_neg (by simp [halive]), hreq]
    dsimp only
    rw [hfree']
    simp only [Bool.false_eq_true, if_false, hstill, Bool.false_and, hcfg]
  case alive =>
    have hrun : exec (.axleCmd x) s = .next (aliveBreak s) := by
      show execAxleCmd x s = _
      rw [execAxleCmd, if_neg (by simp [hauth, hpair]), if_pos (by simp [hbad])]
    exact ⟨_, hrun, State.get_bump_own (by decide) (by decide) _ _,
      sup_of_mask (K := { regs := true }) rfl (bump_mask rfl _ _ _ _ _ _ _), sys_of_mask (K := { regs := true }) rfl (bump_mask rfl _ _ _ _ _ _ _),
      execAxleCmd_mask rfl rfl rfl rfl rfl rfl rfl rfl rfl rfl rfl rfl rfl rfl rfl rfl rfl rfl rfl rfl rfl rfl _ _ hrun⟩
  case axleAbsent =>
    exact ⟨_, congrArg Host.Outcome.next (if_pos (by simp [hauth])), rfl⟩
  case speed =>
    have hrun : exec (.speedCmd y) s = _ := execSpeedCmd_of_accepted hauth hpair halive hfree
    have honly := (speedTaken_machs 0 y.spd0 (supAlive 1 y.alive.val s)).trans (speedTaken_machs 1 y.spd1 _)
    have hmach := speedsTaken_mach (s := supAlive 1 y.alive.val s) hp hmode y.spd0 y.spd1
    refine ⟨_, hrun, (congrArg MachSup.cmdSpd hmach :), (congrArg MachSup.commanded hmach :), (congrArg MachSup.hostLost hmach :), ?_,
      honly.regs, execSpeedCmd_mask rfl rfl _ _ hrun⟩
    exact (congrArg (SMap.get 0 · 1) honly.alive).trans (SMap.get_put_self _ _ _ _)
  case stopOne =>
    have hrun : exec (.stopCmd true true) s = .next (stopOne s) := by
      show execStopCmd true true s = _
      rw [execStopCmd, if_neg (by simp [hpair]), if_pos rfl]
    have honly := stopsMarked_machs s
    refine ⟨_, hrun, fun hp => ?_, ?_, honly.resp, execStopCmd_mask rfl rfl rfl rfl rfl rfl rfl rfl _ _ _ hrun⟩
    · rw [stopOne_mach, stopsMarked_mach hp]
      exact ⟨rfl, rfl⟩
    · exact supKreq_get (by decide) (honly.pairRuns.trans hpair) (honly.kreqPair.trans hkreq)
  case stopZero =>
    have hrun : exec (.stopCmd true false) s = .next (supKreq F.SPX_KREQ.STO_REQ 1 (stopsEnded s)) := by
      show execStopCmd true false s = _
      rw [execStopCmd, if_neg (by simp [hpair]), if_neg (by decide)]
      rfl
    have honly := stopsEnded_machs s
    refine ⟨_, hrun, ?_, ?_, honly.resp, execStopCmd_mask rfl rfl rfl rfl rfl rfl rfl rfl _ _ _ hrun⟩
    · rw [State.mach_of_machs (congrArg SupSt.machs (supKreq_sup _ _ _)), stopsEnded_mach]
    · exact supKreq_get (by decide) (honly.pairRuns.trans hpair) (honly.kreqPair.trans hkreq)
  case emrCancel =>
    have hrun : exec (.emrCmd true true) s = .next (emrEnd 1 s) := by
      show execEmrCmd true true s = _
      rw [execEmrCmd, if_neg (by simp [hpair]), if_pos rfl]
    obtain ⟨hoff, hmachs⟩ := emrEnd_sup_of_active hemr 1
    exact ⟨_, hrun, hoff, hmachs, execEmrCmd_mask rfl rfl rfl _ _ _ hrun⟩
  case emrRenew =>
    refine ⟨_, ?_, rfl⟩
    show execEmrCmd true false s = _
    rw [execEmrCmd, if_neg (by simp [hpair]), if_neg (by decide), if_pos hemr]
  case emrEnter =>
    have hrun : exec (.emrCmd true false) s = .next (emrEnter s) := by
      show execEmrCmd true false s = _
      rw [execEmrCmd, if_neg (by simp [hpair]), if_neg (by decide), if_neg (by simp [hemr])]
    obtain ⟨hon, htasks, hmachs⟩ := emrEnter_sup hemr hen hmode
    exact ⟨_, hrun, hon, htasks, hmachs, execEmrCmd_mask rfl rfl rfl _ _ _ hrun⟩
  case chgStart =>
    refine ⟨_, ?_, rfl⟩
    show execChgCmd z s = _
    rw [execChgCmd, if_neg (by simp [hauth, hpair]), if_neg (by simp [halive])]
    exact congrArg Host.Outcome.next ((if_pos hst).trans (if_neg (show ¬ preBlocks s = true by simp [hfree])))
  case chgBlocked =>
    refine ⟨_, ?_, rfl⟩
    show execChgCmd z s = _
    rw [execChgCmd, if_neg (by simp [hauth, hpair]), if_neg (by simp [halive])]
    exact congrArg Host.Outcome.next ((if_pos hst).trans (if_pos (show preBlocks s = true from hblock)))
  case chgStop =>
    refine ⟨_, ?_, rfl⟩
    show execChgCmd z s = _
    rw [execChgCmd, if_neg (by simp [hauth, hpair]), if_neg (by simp [halive])]
    exact congrArg Host.Outcome.next ((if_neg (by simp [hst])).trans rfl)
  case bmsResume =>
    have hboth : (s.setChg { s.chg with bms := some b, fresh := true }).get F.CHG_SESS.STATE = 4 ∧
        (s.setChg { s.chg with bms := some b, fresh := true }).chg.pause = 1 := ⟨hst, hpause⟩
    have hrun : exec (.bmsLim true b) s = .next ((s.setChg { s.chg with bms := some b, fresh := true, pause := 0 }).set F.CHG_SESS.STATE 2) := by
      show execBmsLim true b s = _
      rw [execBmsLim, if_neg (by simp [hpair])]
      exact congrArg Host.Outcome.next (if_pos hboth)
    refine ⟨_, hrun, State.get_set_fits (by decide) (by decide) _ _ _ _, rfl, ?_, execBmsLim_mask rfl rfl _ _ _ hrun⟩
    exact RegsOnly.set (RegsOnly.of_regs rfl) (List.mem_singleton.mpr rfl) _
  case bms =>
    refine ⟨_, ?_, rfl⟩
    show execBmsLim true b s = _
    rw [execBmsLim, if_neg (by simp [hpair])]
    exact congrArg Host.Outcome.next (if_neg fun h => hst h.1)
  case pre =>
    have hasked : preCommand (s.setChg { s.chg with contactors := false }) = _ :=
      preCommand_of_asked (s := s.setChg { s.chg with contactors := false }) hmode rfl h1 h2 hbms hfresh hv
    have hno : ¬ (decide (v > (chgPar (s.setChg { s.chg with contactors := false })).hvMax) ||
        (s.setChg { s.chg with contactors := false }).chState 2 != 0) = true := by
      show ¬ (decide (v > (chgPar s).hvMax) || s.chState 2 != 0) = true
      simp [hoff]; omega
    rw [if_neg hno] at hasked
    have hrun : exec (.preCmd true true) s = .next (quietly preCommand (s.setChg { s.chg with contactors := false })) := by
      show execPreCmd true true s = _
      rw [execPreCmd, if_neg (by simp [hpair])]
      rfl
    obtain ⟨hpst, hfail, htarget, hdir, hch⟩ := precharge_started (s := s.setChg { s.chg with contactors := false }) (v := v) hused hoff hdrain
    refine ⟨_, hrun, ?_, ?_, ?_, ?_, ?_, ?_, rfl, execPreCmd_mask rfl rfl rfl rfl rfl rfl rfl _ _ _ hrun⟩
    · rw [quietly_get, hasked, hpst]
    · rw [quietly_get, hasked, hfail]
    · rw [quietly_get, hasked, htarget]
    · rw [quietly_get, hasked, hdir]
    · exact (quietly_get _ _ _ _ _ _).trans ((congrArg (State.chState · 2) hasked).trans hch)
    · show (preCommand (s.setChg { s.chg with contactors := false })).chg = _
      exact chg_of_mask (K := { regs := true, fab := true, pwm := true, cnv := true, act := true }) rfl
        (preCommand_mask rfl rfl rfl rfl rfl _)
  case preRefused =>
    have hasked : preCommand (s.setChg { s.chg with contactors := false }) = _ :=
      preCommand_of_asked (s := s.setChg { s.chg with contactors := false }) hmode rfl h1 h2 hbms hfresh hv
    have hyes : (decide (v > (chgPar (s.setChg { s.chg with contactors := false })).hvMax) ||
        (s.setChg { s.chg with contactors := false }).chState 2 != 0) = true := by
      show (decide (v > (chgPar s).hvMax) || s.chState 2 != 0) = true
      simp [hgt]
    rw [if_pos hyes] at hasked
    have hrun : exec (.preCmd true true) s = .next (quietly preCommand (s.setChg { s.chg with contactors := false })) := by
      show execPreCmd true true s = _
      rw [execPreCmd, if_neg (by simp [hpair])]
      rfl
    refine ⟨_, hrun, ?_, ?_, ?_, execPreCmd_mask rfl rfl rfl rfl rfl rfl rfl _ _ _ hrun⟩
    · rw [quietly_get, hasked, State.get_set_clear (by decide)]
      exact State.get_set_fits (by decide) (by decide) _ _ _ _
    · rw [quietly_get, hasked]
      exact State.get_set_fits (by decide) (by decide) _ _ _ _
    · refine RegsOnly.trans (t := preCommand (s.setChg { s.chg with contactors := false })) ?_ (RegsOnly.of_regs (quietly_regs _ _))
      rw [hasked]
      exact RegsOnly.set (f := F.CHG_PRE.FAIL) (RegsOnly.set (f := F.CHG_PRE.PSTATE) (RegsOnly.of_regs rfl) (List.mem_singleton.mpr rfl) 4)
        (List.mem_singleton.mpr rfl) 2
  case preClosed =>
    refine ⟨quietly preCommand (s.setChg { s.chg with contactors := true }), ?_, ?_⟩
    · show execPreCmd true false s = _
      rw [execPreCmd, if_neg (by simp [hpair])]
      rfl
    · rw [quietly, preCommand_of_closed rfl]
  case contactor =>
    have hend : preEnd (s.setChg { s.chg with contactors := true }) = chDisable 2 (s.setChg { s.chg with contactors := true, preStop := true }) :=
      if_pos hst
    have hrun : exec (.contactorClosed true) s = .next (quietly preEnd (s.setChg { s.chg with contactors := true })) := by
      show execContactorClosed true s = _
      rw [execContactorClosed, if_neg (by simp [hpair])]
    have hstop := (chDisable_shows (s := s.setChg { s.chg with contactors := true, preStop := true }) (c := 2) hch).1
    refine ⟨_, hrun, ?_, ?_, rfl, execContactorClosed_mask rfl rfl rfl rfl rfl rfl rfl _ _ hrun⟩
    · exact (quietly_get _ _ _ _ _ _).trans ((congrArg (State.chState · 2) hend).trans hstop)
    · show (preEnd (s.setChg { s.chg with contactors := true })).chg = _
      rw [hend]
      exact chg_of_mask (K := { regs := true, fab := true, pwm := true, cnv := true, act := true }) rfl
        (chDisable_mask rfl rfl rfl rfl rfl 2 _)
  case chgTimeout =>
    have hrun : exec .chgCmdTimeout s = .next (raise 205 ((s.bump F.REEL_STAT2.HOST_TMO_CNT F.REEL_CTL.SAT).setChg { s.chg with hostMs := 1 })) :=
      congrArg Host.Outcome.next (if_neg (by simp [hpair, hcmd, hms]))
    refine ⟨_, hrun, ?_, ?_, execChgCmdTimeout_mask rfl rfl rfl _ hrun⟩
    · exact chg_of_mask (K := { regs := true, fab := true }) rfl (raise_mask rfl rfl _ _)
    · rw [raise_get_high (by decide), State.get_of_regs (State.setChg_regs _ _)]
      exact State.get_bump_own (by decide) (by decide) _ _
  case timeout =>
    obtain ⟨t, hrun⟩ : ∃ t, exec .hostTimeout s = .next t := ⟨_, rfl⟩
    obtain ⟨hlost, hcnt, hfault, hramp⟩ := execHostTimeout_shows hpair hp hc hl hrun
    exact ⟨t, hrun, hlost, hcnt, hfault, hramp, execHostTimeout_mask rfl rfl rfl rfl rfl rfl rfl rfl _ hrun⟩
  case lossTimeout =>
    obtain ⟨t, hrun⟩ : ∃ t, exec .hostLossTimeout s = .next t := ⟨_, rfl⟩
    obtain ⟨hstop, hramp⟩ := execHostLossTimeout_shows hpair hp hl hrun
    exact ⟨t, hrun, hstop, hramp, execHostLossTimeout_mask rfl rfl rfl rfl rfl rfl rfl rfl _ hrun⟩

end Sys2Proof.Machine


/-! The gearbox actuators' bridges (11_actuators.md R331 to R344): what showing a bridge leaves, a write of MODE, the latches, ACT_EN
and the park-lock pattern, and O26. -/

namespace Sys2Proof.Machine
open Sys2Proof

/-! ### Bits -/

theorem testBit_add_two_pow_of_ne {n b j : Nat} (hb : n.testBit b = false) (hj : j ≠ b) : (n + 2 ^ b).testBit j = n.testBit j := by
  have hpos := Nat.two_pow_pos b
  rcases Nat.lt_or_gt_of_ne hj with h | h
  · have hlow : ∀ x : Nat, x.testBit j = (x % 2 ^ b).testBit j := fun x => by
      rw [Nat.testBit_mod_two_pow, decide_eq_true h, Bool.true_and]
    rw [hlow (n + 2 ^ b), Nat.add_mod_right, ← hlow]
  · have heven : n / 2 ^ b % 2 ≠ 1 := by
      simpa [Nat.testBit_eq_decide_div_mod_eq] using hb
    have hhigh : ∀ x : Nat, x.testBit j = (x / 2 ^ b / 2).testBit (j - (b + 1)) := fun x => by
      rw [Nat.div_div_eq_div_mul, ← Nat.pow_succ, Nat.testBit_div_two_pow]
      congr 1
      omega
    have hdiv : (n + 2 ^ b) / 2 ^ b / 2 = n / 2 ^ b / 2 := by
      rw [Nat.add_div_right _ hpos]
      omega
    rw [hhigh (n + 2 ^ b), hdiv, ← hhigh]

/-- Putting a bit leaves the others. -/
theorem testBit_putBit_of_ne {b j : Nat} (hj : j ≠ b) (n : Nat) (v : Bool) : (putBit n b v).testBit j = n.testBit j := by
  unfold putBit
  cases v with
  | true =>
    rw [if_pos rfl]
    cases h : n.testBit b with
    | true => rw [if_pos rfl]
    | false => rw [if_neg (by decide), testBit_add_two_pow_of_ne h hj]
  | false =>
    rw [if_neg (by decide)]
    cases h : n.testBit b with
    | false => rw [if_neg (by decide)]
    | true =>
      rw [if_pos rfl]
      have hge : 2 ^ b ≤ n := Nat.ge_two_pow_of_testBit h
      have hoff : (n - 2 ^ b).testBit b = false := by
        have hodd : n / 2 ^ b % 2 = 1 := by simpa [Nat.testBit_eq_decide_div_mod_eq] using h
        have hdiv : (n - 2 ^ b) / 2 ^ b = n / 2 ^ b - 1 := Nat.sub_mul_div n (2 ^ b) 1 |> (by simpa using ·)
        simp only [Nat.testBit_eq_decide_div_mod_eq, hdiv, decide_eq_false_iff_not]
        omega
      have hadd := testBit_add_two_pow_of_ne hoff hj
      rw [Nat.sub_add_cancel hge] at hadd
      exact hadd.symm

theorem State.bit_setBit_of_ne {f : Fld} {b j : Nat} (hj : j ≠ b) (hf : f.hi < 32 ∧ f.lo ≤ f.hi) (s : State) (v : Bool) :
    (s.setBit f b v).bit f j = s.bit f j := by
  have hlt := s.get_lt f 0 0 0
  rw [State.bit, State.setBit, State.get_set_self _ _ _ _ _ _ hf.1 hf.2, Nat.testBit_mod_two_pow, testBit_putBit_of_ne hj, State.bit]
  by_cases h : j < f.hi + 1 - f.lo
  · simp [h]
  · rw [decide_eq_false h, Bool.false_and]
    exact (Nat.testBit_lt_two_pow (Nat.lt_of_lt_of_le hlt (Nat.pow_le_pow_right (by decide) (by omega)))).symm

/-! ### What showing a bridge leaves -/

/-- Raising an event leaves every register above the crossings'. -/
theorem raise_above {n a : Nat} (hn : n < 256) (h : 0x30030000 ≤ a) (s : State) : (raise n s).rd a = s.rd a := by
  refine raise_rd n a s ?_ ?_ <;> simp only [Fld.addr, ovrFld, F.CDC_STALE.SAT] <;> omega

/-- A field that shares no bit with what a bridge shows. -/
abbrev Fld.Unshown (f : Fld) : Prop :=
  F.ACT_BR_STAT.REFRESH_HOLD.Apart f ∧ F.ACT_STAT.HIZ.Apart f ∧ F.ACT_BR_STAT.GATE_H.Apart f ∧ F.ACT_BR_STAT.GATE_L.Apart f

section
variable {s t : State} {f : Fld} {i j k : Nat}

theorem State.get_setB_apart {g : Fld} (h : g.Apart f) (s : State) (v : Bool) (x y z : Nat) : (s.setB g v x y z).get f i j k = s.get f i j k :=
  State.get_set_apart h _ _ _ _ _ _ _ _

theorem showBridge_get (h : f.Unshown) (b : Nat) (s : State) : (showBridge b s).get f i j k = s.get f i j k := by
  obtain ⟨hrefresh, hhiz, hgh, hgl⟩ := h
  unfold showBridge
  split
  · rfl
  · extract_lets hiz low sw s1 s2 s3
    have hs1 : s1.get f i j k = s.get f i j k := ite_keeps (p := (·.get f i j k)) (State.get_set_apart hrefresh _ _ _ _ _ _ _ _)
    have hs2 : s2.get f i j k = s1.get f i j k := ite_keeps (p := (·.get f i j k)) (State.get_set_apart hrefresh _ _ _ _ _ _ _ _)
    have hs3 : s3.get f i j k = s2.get f i j k := State.get_set_apart hhiz _ _ _ _ _ _ _ _
    rw [State.get_setB_apart hgl, State.get_setB_apart hgh, hs3, hs2, hs1]

theorem showBridge_act (b : Nat) (s : State) : (showBridge b s).act = s.act :=
  act_of_mask (K := { regs := true }) rfl (showBridge_mask rfl b s)

theorem showBridge_sys (b : Nat) (s : State) : (showBridge b s).sys = s.sys :=
  sys_of_mask (K := { regs := true }) rfl (showBridge_mask rfl b s)

theorem bridgeMode_of_act (h : t.act = s.act) (b : Nat) : bridgeMode t b = bridgeMode s b := by rw [bridgeMode, h, bridgeMode]

/-- A field of ACT_BR_STAT holds no HIZ bit. -/
theorem hiz_set_brStat {g : Fld} (hg : g.base = F.ACT_BR_STAT.GATE_H.base ∧ g.s1 = 16) (b c v : Nat) (s : State) :
    (s.set g v b).bit F.ACT_STAT.HIZ c = s.bit F.ACT_STAT.HIZ c := by
  obtain ⟨h1, h2⟩ := hg
  refine State.bit_of_rd (set_quiet _ _ _ _ _ _ _ ?_)
  simp only [Fld.addr, h1, h2, F.ACT_STAT.HIZ, F.ACT_BR_STAT.GATE_H]
  omega

/-- The HIZ bits: the bridge shown has its own, another keeps its. -/
theorem showBridge_hiz (hpd : s.pdReady 10 = true) {b : Nat} (hb : b < 12) :
    (showBridge b s).bit F.ACT_STAT.HIZ b = bridgeHiz s b := by
  unfold showBridge
  rw [if_neg (by simp [hpd])]
  extract_lets hiz low sw s1 s2 s3
  have hbit : s3.bit F.ACT_STAT.HIZ b = hiz := State.bit_setBit_self _ _ _ _ _ _ _ (by simp only [F.ACT_STAT.HIZ]; omega) (by decide)
  rw [State.setB, hiz_set_brStat (by decide), State.setB, hiz_set_brStat (by decide), hbit]

theorem showBridge_hiz_of_ne {b c : Nat} (hne : c ≠ b) (s : State) : (showBridge b s).bit F.ACT_STAT.HIZ c = s.bit F.ACT_STAT.HIZ c := by
  unfold showBridge
  split
  · rfl
  · extract_lets hiz low sw s1 s2 s3
    have hs1 : s1.bit F.ACT_STAT.HIZ c = s.bit F.ACT_STAT.HIZ c := ite_keeps (p := (·.bit F.ACT_STAT.HIZ c)) (hiz_set_brStat (by decide) _ _ _ _)
    have hs2 : s2.bit F.ACT_STAT.HIZ c = s1.bit F.ACT_STAT.HIZ c := ite_keeps (p := (·.bit F.ACT_STAT.HIZ c)) (hiz_set_brStat (by decide) _ _ _ _)
    have hs3 : s3.bit F.ACT_STAT.HIZ c = s2.bit F.ACT_STAT.HIZ c := State.bit_setBit_of_ne hne (by decide) _ _
    rw [State.setB, hiz_set_brStat (by decide), State.setB, hiz_set_brStat (by decide), hs3, hs2, hs1]

/-! ### A write of MODE (R332, R333, R339) -/

/-- MODE as a write leaves it. -/
def modeKept (v : Nat) (s : State) : Nat := if s.getB F.ACT_STAT.ACT_EN_LVL then v else 0

/-- The bridge's registers and its MODE in effect before it is shown. -/
def modeTaken (b v : Nat) (s : State) : State :=
  if v = 1 then s.set F.ACT_BR_CFG.MODE v b
  else { (s.set F.ACT_BR_CFG.MODE v b) with act := { s.act with eff := SMap.put 0 s.act.eff b (if v = 2 then 2 else 0) } }

theorem bridgeModeWrite_eq (b v : Nat) (s : State) : bridgeModeWrite b v s = showBridge b (modeTaken b (modeKept v s) s) := rfl

theorem modeTaken_regs (b v : Nat) (s : State) : (modeTaken b v s).regs = (s.set F.ACT_BR_CFG.MODE v b).regs := by
  unfold modeTaken
  split <;> rfl

theorem modeTaken_rd {a b : Nat} (h : a ≠ F.ACT_BR_CFG.MODE.addr b 0 0) (v : Nat) (s : State) : (modeTaken b v s).rd a = s.rd a :=
  (State.rd_of_regs (modeTaken_regs b v s) a).trans (set_quiet _ _ _ _ _ _ _ h)

theorem bridgeModeWrite_mode {b v : Nat} (hv : v < 4) (s : State) : (bridgeModeWrite b v s).get F.ACT_BR_CFG.MODE b = modeKept v s := by
  rw [bridgeModeWrite_eq, showBridge_get (by decide), State.get_of_regs (modeTaken_regs _ _ _)]
  refine State.get_set_fits (by decide) ?_ _ _ _ _
  show modeKept v s < 4
  unfold modeKept
  split <;> omega

theorem bridgeModeWrite_mode_of_ne {b c : Nat} (hne : c ≠ b) (v : Nat) (s : State) :
    (bridgeModeWrite b v s).get F.ACT_BR_CFG.MODE c = s.get F.ACT_BR_CFG.MODE c := by
  rw [bridgeModeWrite_eq, showBridge_get (by decide)]
  refine State.get_of_rd (modeTaken_rd ?_ _ _)
  simp only [Fld.addr, F.ACT_BR_CFG.MODE]
  omega

theorem bridgeModeWrite_enabled (b v : Nat) (s : State) :
    (bridgeModeWrite b v s).getB F.ACT_STAT.ACT_EN_LVL = s.getB F.ACT_STAT.ACT_EN_LVL := by
  refine State.getB_of_get ?_
  rw [bridgeModeWrite_eq, showBridge_get (by decide)]
  refine State.get_of_rd (modeTaken_rd ?_ _ _)
  simp only [Fld.addr, F.ACT_BR_CFG.MODE, F.ACT_STAT.ACT_EN_LVL]
  omega

theorem bridgeModeWrite_pdReady {b d : Nat} (hb : b < 12) (hd : 0 < d) (v : Nat) (s : State) :
    (bridgeModeWrite b v s).pdReady d = s.pdReady d :=
  State.pdReady_of_rd hd (bridgeModeWrite_aloof (by decide) b v hb s)

theorem bridgeModeWrite_effect {b v : Nat} (h : modeKept v s ≠ 1) :
    bridgeMode (bridgeModeWrite b v s) b = if modeKept v s = 2 then 2 else 0 := by
  have hact : (modeTaken b (modeKept v s) s).act = { s.act with eff := SMap.put 0 s.act.eff b (if modeKept v s = 2 then 2 else 0) } := by
    rw [modeTaken, if_neg h]
  rw [bridgeModeWrite_eq, bridgeMode_of_act (showBridge_act _ _), bridgeMode, hact]
  exact SMap.get_put_self _ _ _ _

theorem bridgeModeWrite_pwm {b v : Nat} (h : modeKept v s = 1) : bridgeMode (bridgeModeWrite b v s) b = bridgeMode s b := by
  rw [bridgeModeWrite_eq, bridgeMode_of_act (showBridge_act _ _), modeTaken, if_pos h]
  rfl

theorem bridgeModeWrite_effect_of_ne {b c : Nat} (hne : c ≠ b) (v : Nat) (s : State) :
    bridgeMode (bridgeModeWrite b v s) c = bridgeMode s c := by
  rw [bridgeModeWrite_eq, bridgeMode_of_act (showBridge_act _ _), modeTaken]
  split
  · rfl
  · exact SMap.get_put_ne _ _ _ _ _ hne

/-- A bridge written to HIZ is in HIZ and shows it. -/
theorem bridgeModeWrite_hiz {b v : Nat} (hb : b < 12) (hpd : s.pdReady 10 = true) (h : modeKept v s = 0) :
    (bridgeModeWrite b v s).bit F.ACT_STAT.HIZ b = true := by
  have hpd' : (modeTaken b (modeKept v s) s).pdReady 10 = true := by
    refine (State.pdReady_of_rd (by decide) (modeTaken_rd ?_ _ _)).trans hpd
    simp only [Fld.addr, F.ACT_BR_CFG.MODE, F.PD_STAT.ON]
    omega
  have hmode : bridgeMode (modeTaken b (modeKept v s) s) b = 0 := by
    rw [← bridgeMode_of_act (showBridge_act b _), ← bridgeModeWrite_eq, bridgeModeWrite_effect (by omega), h]
    rfl
  rw [bridgeModeWrite_eq, showBridge_hiz hpd' hb, bridgeHiz, hmode]
  exact Bool.or_true _

theorem bridgeModeWrite_hiz_of_ne {b c : Nat} (hne : c ≠ b) (v : Nat) (s : State) :
    (bridgeModeWrite b v s).bit F.ACT_STAT.HIZ c = s.bit F.ACT_STAT.HIZ c := by
  rw [bridgeModeWrite_eq, showBridge_hiz_of_ne hne]
  refine State.bit_of_rd (modeTaken_rd ?_ _ _)
  simp only [Fld.addr, F.ACT_BR_CFG.MODE, F.ACT_STAT.HIZ]
  omega

/-! ### Latches (R338) -/

/-- One of the latches of ACT_BR_STAT. -/
abbrev Fld.Latch (f : Fld) : Prop :=
  f.base = F.ACT_BR_STAT.ACT_BOOT.base ∧ f.s1 = 16 ∧ f.s2 = 0 ∧ f.s3 = 0 ∧ f.hi = f.lo ∧ 26 ≤ f.lo ∧ f.lo < 32

theorem Fld.Latch.apart (h : f.Latch) {g : Fld} (hg : g.lo ≤ g.hi ∧ g.hi < 26) : g.Apart f := by
  obtain ⟨-, -, -, -, hhi, hlo, -⟩ := h
  omega

theorem Fld.Latch.unshown (h : f.Latch) : f.Unshown :=
  ⟨h.apart (by decide), h.apart (by decide), h.apart (by decide), h.apart (by decide)⟩

/-- The registers of a new latch before it is told. -/
def latchSet (f : Fld) (b : Nat) (s : State) : State := (s.set f 1 b).setBit F.ACT_STAT.LATCHED b true

theorem actLatch_of_new {b : Nat} (h : s.getB f b = false) (code : Nat) : actLatch f code b s =
    showBridge b (raise 184 (issue code (clsOf ((latchSet f b s).get F.ACT_BR_CFG.FAULT_CLASS b)) (latchSet f b s))) :=
  if_neg (by simp [h])

theorem actLatch_of_old {b : Nat} (h : s.getB f b = true) (code : Nat) : actLatch f code b s = s := if_pos h

/-- What a latch told leaves of the registers above the crossings'. -/
theorem latchTold_get {g : Fld} (hg : g.Unshown ∧ 0x30030000 ≤ g.base) (b code cls : Nat) (u : State) :
    (showBridge b (raise 184 (issue code cls u))).get g i j k = u.get g i j k := by
  rw [showBridge_get hg.1, State.get_of_rd (raise_above (by decide) (by simp only [Fld.addr]; omega) _), issue_get]

theorem actLatch_latched (hf : f.Latch) {b : Nat} (code : Nat) (s : State) : (actLatch f code b s).get f b = 1 := by
  have hfit : f.hi < 32 ∧ f.lo ≤ f.hi := by obtain ⟨-, -, -, -, h1, h2, h3⟩ := hf; omega
  cases hold : s.getB f b with
  | true =>
    rw [actLatch_of_old hold]
    have hlt := s.get_lt f b 0 0
    have hne : s.get f b ≠ 0 := by simpa [State.getB] using hold
    have hwidth : f.hi + 1 - f.lo = 1 := by obtain ⟨-, -, -, -, h1, -, -⟩ := hf; omega
    rw [hwidth] at hlt
    omega
  | false =>
    have hlatched : (latchSet f b s).get f b = 1 := by
      rw [latchSet, State.setBit, State.get_set_apart (hf.apart (by decide)), State.get_set_one _ _ _ _ _ hfit.1 hfit.2]
    have habove : 0x30030000 ≤ f.base := by rw [hf.1]; decide
    rw [actLatch_of_new hold, latchTold_get ⟨hf.unshown, habove⟩, hlatched]

theorem actLatch_noted {b : Nat} (hb : b < 12) (hnew : s.getB f b = false) (code : Nat) :
    (actLatch f code b s).bit F.ACT_STAT.LATCHED b = true ∧ (actLatch f code b s).sys.lastFault = code := by
  rw [actLatch_of_new hnew]
  refine ⟨?_, ?_⟩
  · rw [State.bit, latchTold_get (by decide)]
    exact State.bit_setBit_self _ _ _ _ _ _ _ (by simp only [F.ACT_STAT.LATCHED]; omega) (by decide)
  · rw [showBridge_sys, raise_sys, issue_lastFault]

/-- What a latch leaves: fields that share no bit with LATCHED, what is shown and the latch, or that lie elsewhere. -/
theorem actLatch_get {g : Fld} (hg : g.Unshown ∧ 0x30030000 ≤ g.base)
    (hnote : F.ACT_STAT.LATCHED.Apart g ∨ g.addr i j k ≠ F.ACT_STAT.LATCHED.addr 0 0 0) {b : Nat}
    (h : f.Apart g ∨ g.addr i j k ≠ f.addr b 0 0) (code : Nat) (s : State) : (actLatch f code b s).get g i j k = s.get g i j k := by
  have hset : ∀ (d : Fld) (v x : Nat) (u : State), (d.Apart g ∨ g.addr i j k ≠ d.addr x 0 0) → (u.set d v x).get g i j k = u.get g i j k :=
    fun d v x u hd => hd.elim (fun ha => State.get_set_apart ha _ _ _ _ _ _ _ _) (State.get_set_addr _ _ _ _ _ _ _ _ _ _)
  cases hold : s.getB f b with
  | true => rw [actLatch_of_old hold]
  | false =>
    rw [actLatch_of_new hold, latchTold_get hg, latchSet, State.setBit, hset _ _ _ _ hnote, hset _ _ _ _ h]

theorem actLatchAll_latched (hf : f.Latch) {b : Nat} (hb : b < 12) (code : Nat) (s : State) : (actLatchAll f code s).get f b = 1 := by
  refine foldl_attains (P := fun t : State => t.get f b = 1) (List.mem_range.mpr hb) (fun t => actLatch_latched hf code t) (fun c t ht => ?_) s
  rcases eq_or_ne b c with rfl | hne
  · exact actLatch_latched hf code t
  · have haddr : f.addr b 0 0 ≠ f.addr c 0 0 := by
      simp only [Fld.addr, hf.2.1]
      omega
    rw [actLatch_get ⟨hf.unshown, by rw [hf.1]; decide⟩ (.inl (hf.apart (by decide))) (.inr haddr) code t, ht]

/-! ### Bootstrap undervoltage and refusals (R239, R244) -/

theorem legCommand_get (h : f.Unshown) (l : Nat) (s : State) : (legCommand l s).get f i j k = s.get f i j k := by
  unfold legCommand
  split
  · rfl
  · exact (showBridge_get h _ _).trans (ite_keeps (p := (·.get f i j k)) rfl)

theorem edgeIssued_get (l : Nat) (s : State) : (edgeIssued l s).get f i j k = s.get f i j k := State.get_of_rd (edgeIssued_quiet _ _ _)

theorem switchOff_get (h : f.Unshown) (x : Nat) (s : State) : (switchOff x s).get f i j k = s.get f i j k := by
  unfold switchOff
  dsimp only
  split
  · exact (legCommand_get h _ _).trans ((edgeIssued_get _ _).trans rfl)
  · exact ite_keeps (p := (·.get f i j k)) rfl

theorem tryOn_get (h : f.Unshown) (x : Nat) (s : State) : (tryOn x s).get f i j k = s.get f i j k :=
  ite_keeps (p := (·.get f i j k)) ((legCommand_get h _ _).trans ((edgeIssued_get _ _).trans rfl))

theorem enforceLeg_get (h : f.Unshown) (l : Nat) (s : State) : (enforceLeg l s).get f i j k = s.get f i j k := by
  have hoff : ∀ x (s : State), (if decideSw s x == .off then switchOff x s else s).get f i j k = s.get f i j k := fun x s =>
    ite_keeps (p := (·.get f i j k)) (switchOff_get h x s)
  have hon : ∀ x (s : State), (if decideSw s x == .on && !(s.sw x).cmd then tryOn x (s.setSw x { s.sw x with pendOn := true }) else s).get
      f i j k = s.get f i j k := fun x s => ite_keeps (p := (·.get f i j k)) ((tryOn_get h x _).trans rfl)
  unfold enforceLeg
  dsimp only
  split
  · rw [showBridge_get h, hon, hon, hoff, hoff]
  · rw [hon, hon, hoff, hoff]

/-- A bootstrap event holds the leg in refresh, and of the other fields changes ARM and what the bridge shows alone. -/
theorem bootTrip_get {g : Fld} (hg : g.Unshown ∧ F.PWM_LEG_CFG.ARM.Apart g ∧ 0x30030000 ≤ g.base) (l : Nat) (s : State) :
    (bootTrip l s).1.get g i j k = (s.set F.PWM_LEG_STAT.BOOT_HOLD 1 l).get g i j k := by
  obtain ⟨hshown, harm, hbase⟩ := hg
  have hdisarm : ∀ u : State, (disarm [l] u).get g i j k = u.get g i j k := fun u =>
    (State.get_of_regs (State.setLeg_regs _ _ _) _ _ _ _).trans (State.get_set_apart harm _ _ _ _ _ _ _ _)
  have hheld : ∀ u : State, (raise 99 (enforceLeg l (u.set F.PWM_LEG_STAT.BOOT_HOLD 1 l))).get g i j k =
      (u.set F.PWM_LEG_STAT.BOOT_HOLD 1 l).get g i j k := fun u =>
    (State.get_of_rd (raise_above (by decide) (by simp only [Fld.addr]; omega) _)).trans (enforceLeg_get hshown _ _)
  unfold bootTrip
  extract_lets x at' s1 s2 s3
  have hs3 : s3.get g i j k = (s.set F.PWM_LEG_STAT.BOOT_HOLD 1 l).get g i j k := (hheld s1).trans rfl
  split
  · exact (enforceLeg_get hshown _ _).trans ((hdisarm _).trans hs3)
  · exact hs3

theorem legOfBridge_lt {b l : Nat} (h : legOfBridge s b = some l) : l < 32 := List.mem_range.mp (List.mem_of_find?_eq_some h)

/-- The counted event before its leg is found. -/
def bootCounted (b : Nat) (s : State) : State := s.bump F.ACT_BR_STAT.BOOT_UV_CNT F.ACT_BR_STAT.SAT b

theorem bootCounted_legOfBridge (b : Nat) (s : State) : legOfBridge (bootCounted b s) b = legOfBridge s b := by
  have hget : ∀ (g : Fld) (l : Nat), l ∈ List.range 32 → (g = F.PWM_LEG_CFG.ROUTE ∨ g = F.PWM_LEG_CFG.ACT_SEL) →
      (bootCounted b s).get g l = s.get g l := fun g l hl hg => by
    have hl := List.mem_range.mp hl
    refine State.get_of_rd (State.rd_bump_ne ?_ ?_) <;> rcases hg with rfl | rfl <;>
      simp only [Fld.addr, F.PWM_LEG_CFG.ROUTE, F.PWM_LEG_CFG.ACT_SEL, F.ACT_BR_STAT.BOOT_UV_CNT, F.ACT_BR_STAT.SAT] <;> omega
  have hbridge : ∀ l ∈ List.range 32, bridgeOf (bootCounted b s) l = bridgeOf s l := fun l hl => by
    simp only [bridgeOf, State.getB, hget _ l hl (.inl rfl), hget _ l hl (.inr rfl)]
    rfl
  unfold legOfBridge
  refine List.find?_congr fun l hl => ?_
  rw [hbridge l hl]

theorem execBootUndervoltage_counted {b : Fin 12} {t : State} (hpd : s.pdReady 10 = true) (h : execBootUndervoltage b s = .next t) :
    t.get F.ACT_BR_STAT.BOOT_UV_CNT b.val = min (s.get F.ACT_BR_STAT.BOOT_UV_CNT b.val + 1) 255 ∧
    ∀ l, legOfBridge s b.val = some l → t.get F.PWM_LEG_STAT.BOOT_HOLD l = 1 := by
  have hcnt : (bootCounted b.val s).get F.ACT_BR_STAT.BOOT_UV_CNT b.val = min (s.get F.ACT_BR_STAT.BOOT_UV_CNT b.val + 1) 255 :=
    State.get_bump_own (by decide) (by decide) _ _
  have hleg := bootCounted_legOfBridge b.val s
  unfold execBootUndervoltage at h
  dsimp only at h
  rw [if_neg (by simp [hpd]), show s.bump F.ACT_BR_STAT.BOOT_UV_CNT F.ACT_BR_STAT.SAT b.val = bootCounted b.val s from rfl, hleg] at h
  cases hl : legOfBridge s b.val with
  | none =>
    rw [hl] at h
    cases h
    exact ⟨hcnt, fun l hl' => nomatch hl'⟩
  | some l =>
    rw [hl] at h
    cases h
    have hlt := legOfBridge_lt hl
    have hcnt' : (bootTrip l (bootCounted b.val s)).1.get F.ACT_BR_STAT.BOOT_UV_CNT b.val = _ :=
      (bootTrip_get (by decide) _ _).trans ((State.get_set_apart (by decide) _ _ _ _ _ _ _ _).trans hcnt)
    have hheld : (bootTrip l (bootCounted b.val s)).1.get F.PWM_LEG_STAT.BOOT_HOLD l = 1 :=
      (bootTrip_get (by decide) _ _).trans (State.get_set_one _ _ _ _ _ (by decide) (by decide))
    dsimp only
    split
    · refine ⟨(actLatch_get (by decide) (.inr ?_) (.inl (by decide)) _ _).trans hcnt', fun l' hl' => ?_⟩
      · simp only [Fld.addr, F.ACT_BR_STAT.BOOT_UV_CNT, F.ACT_STAT.LATCHED]
        omega
      · cases hl'
        exact (actLatch_get (by decide) (.inl (by decide)) (.inl (by decide)) _ _).trans hheld
    · refine ⟨(showBridge_get (by decide) _ _).trans hcnt', fun l' hl' => ?_⟩
      cases hl'
      exact (showBridge_get (by decide) _ _).trans hheld

/-- A refused turn-off that does not end its run is counted on the leg's switch, whose opposite no longer waits (R239, R334). -/
theorem execPredriverGateReport_counted {b : Fin 12} {high : Bool} {l k : Nat} {t : State} (hk : k = if high then 2 * l else 2 * l + 1)
    (hpd : s.pdReady 7 = true) (hl : legOfBridge s b.val = some l) (hfew : (s.sw k).runOff + 1 < max (s.get F.GIF_SW_CFG.REFUSE_N k) 1)
    (h : execPredriverGateReport b (.refusedOff high) s = .next t) :
    (t.sw k).runOff = (s.sw k).runOff + 1 ∧ (t.sw (oppOf k)).pendOn = false ∧
    t.get F.PWM_LEG_STAT.REFUSE_CNT l = min (s.get F.PWM_LEG_STAT.REFUSE_CNT l + 1) 255 := by
  have hlt := legOfBridge_lt hl
  have hparts : k < 64 ∧ legOf k = l ∧ oppOf k ≠ k := by
    rw [hk]
    cases high <;> simp only [legOf, oppOf, Bool.false_eq_true, if_true, if_false] <;> split <;> omega
  obtain ⟨hk64, hleg, hopp⟩ := hparts
  have hsw : (s.setSw (oppOf k) { s.sw (oppOf k) with pendOn := false }).sw k = s.sw k := State.sw_setSw_of_ne _ (Ne.symm hopp) _
  have hcounted := refusal_counted (s := s.setSw (oppOf k) { s.sw (oppOf k) with pendOn := false }) (k := k) (off := true) hk64
    (by rw [hsw]; exact hfew)
  have hends : ¬ (decide ((s.sw k).runOff + 1 ≥ max (s.get F.GIF_SW_CFG.REFUSE_N k) 1) && s.pdReady 10) = true := by
    simp only [Bool.and_eq_true, decide_eq_true_eq]
    omega
  unfold execPredriverGateReport at h
  dsimp only at h
  rw [if_neg (by simp [hpd]), hl] at h
  dsimp only at h
  rw [← hk] at h
  simp only [if_true] at h
  rw [if_neg hends] at h
  cases h
  obtain ⟨hown, hothers, hcnt⟩ := hcounted
  refine ⟨?_, ?_, ?_⟩
  · rw [hown, if_pos rfl, hsw]
  · rw [hothers _ hopp, State.sw_setSw]
  · rw [← hleg]
    exact hcnt

/-! ### ACT_EN (R339) -/

/-- A latch whose cause is absent clears. -/
def clearUnless (g : Fld) (present : Bool) (b : Nat) (s : State) : State := if present then s else s.set g 0 b

theorem clearUnless_get {g d : Fld} (hg : g.Apart d) (present : Bool) (b : Nat) (s : State) :
    (clearUnless g present b s).get d i j k = s.get d i j k := by
  unfold clearUnless
  split
  · rfl
  · exact State.get_set_apart hg _ _ _ _ _ _ _ _

theorem clearUnless_own {g : Fld} (hg : g.hi < 32 ∧ g.lo ≤ g.hi) (present : Bool) (b : Nat) (s : State) :
    (clearUnless g present b s).get g b = if present = false then 0 else s.get g b := by
  unfold clearUnless
  cases present with
  | true => rfl
  | false => exact State.get_set_zero _ _ _ _ _ hg.1 hg.2

/-- The latches of bridge `b` without the bit that gathers them. -/
def latchesCleared (c : LatchCauses) (b : Nat) (s : State) : State :=
  clearUnless F.ACT_BR_STAT.ACT_SUPPLY c.supply b (clearUnless F.ACT_BR_STAT.ACT_OT c.ot b
    (clearUnless F.ACT_BR_STAT.ACT_OC_L (c.ocL.getLsbD b) b (clearUnless F.ACT_BR_STAT.ACT_GATE (c.gate.getLsbD b) b
      (clearUnless F.ACT_BR_STAT.ACT_BOOT (c.boot.getLsbD b) b (clearUnless F.ACT_BR_STAT.ACT_OC_H (c.ocH.getLsbD b) b s)))))

theorem clearLatches_eq (c : LatchCauses) (b : Nat) (s : State) : ∃ any, clearLatches c b s = (latchesCleared c b s).setBit F.ACT_STAT.LATCHED b any :=
  ⟨_, rfl⟩

theorem clearLatches_get {d : Fld} (hd : F.ACT_STAT.LATCHED.Apart d) (c : LatchCauses) (b : Nat) (s : State) :
    (clearLatches c b s).get d i j k = (latchesCleared c b s).get d i j k := by
  obtain ⟨any, h⟩ := clearLatches_eq c b s
  rw [h, State.setBit, State.get_set_apart hd]

/-- Latches of other bridges, and registers below those of the bridges, stay. -/
theorem clearLatches_rd {a : Nat} (c : LatchCauses) (b : Nat) (s : State) (h : a ≠ F.ACT_BR_STAT.ACT_BOOT.addr b 0 0) :
    (latchesCleared c b s).rd a = s.rd a := by
  have hclear : ∀ (g : Fld) (x : Bool) (u : State), g.addr b 0 0 = F.ACT_BR_STAT.ACT_BOOT.addr b 0 0 → (clearUnless g x b u).rd a = u.rd a :=
    fun g x u hg => by
      unfold clearUnless
      split
      · rfl
      · exact set_quiet _ _ _ _ _ _ _ (by rw [hg]; exact h)
  rw [latchesCleared, hclear F.ACT_BR_STAT.ACT_SUPPLY _ _ rfl, hclear F.ACT_BR_STAT.ACT_OT _ _ rfl, hclear F.ACT_BR_STAT.ACT_OC_L _ _ rfl,
    hclear F.ACT_BR_STAT.ACT_GATE _ _ rfl, hclear F.ACT_BR_STAT.ACT_BOOT _ _ rfl, hclear F.ACT_BR_STAT.ACT_OC_H _ _ rfl]

theorem clearLatches_ocH (c : LatchCauses) (b : Nat) (s : State) : (clearLatches c b s).get F.ACT_BR_STAT.ACT_OC_H b =
    if c.ocH.getLsbD b = false then 0 else s.get F.ACT_BR_STAT.ACT_OC_H b := by
  rw [clearLatches_get (by decide), latchesCleared, clearUnless_get (by decide), clearUnless_get (by decide), clearUnless_get (by decide),
    clearUnless_get (by decide), clearUnless_get (by decide), clearUnless_own (by decide)]

theorem clearLatches_ot (c : LatchCauses) (b : Nat) (s : State) : (clearLatches c b s).get F.ACT_BR_STAT.ACT_OT b =
    if c.ot = false then 0 else s.get F.ACT_BR_STAT.ACT_OT b := by
  rw [clearLatches_get (by decide), latchesCleared, clearUnless_get (by decide), clearUnless_own (by decide), clearUnless_get (by decide),
    clearUnless_get (by decide), clearUnless_get (by decide), clearUnless_get (by decide)]

theorem clearLatches_of_ne {b c : Nat} {d : Fld} (hd : F.ACT_STAT.LATCHED.Apart d ∧ d.base = F.ACT_BR_STAT.ACT_BOOT.base ∧ d.s1 = 16) (hne : c ≠ b)
    (x : LatchCauses) (s : State) : (clearLatches x b s).get d c = s.get d c := by
  obtain ⟨hapart, hbase, hs1⟩ := hd
  rw [clearLatches_get hapart]
  refine State.get_of_rd (clearLatches_rd x b s ?_)
  simp only [Fld.addr, hbase, hs1, F.ACT_BR_STAT.ACT_BOOT]
  omega

/-- Each bridge's latch `d` after the clear of all of them, from what its own clear gives. -/
theorem clearAll_get {d : Fld} (hd : F.ACT_STAT.LATCHED.Apart d ∧ d.base = F.ACT_BR_STAT.ACT_BOOT.base ∧ d.s1 = 16) (x : LatchCauses) {b : Nat} (hb : b < 12)
    {present : Bool} (hown : ∀ u, (clearLatches x b u).get d b = if present = false then 0 else u.get d b) (s : State) :
    ((List.range 12).foldl (fun s b => clearLatches x b s) s).get d b = if present = false then 0 else s.get d b :=
  foldl_establishes (P := fun t : State => t.get d b = if present = false then 0 else s.get d b) (Q := fun t : State => t.get d b = s.get d b)
    (List.mem_range.mpr hb) List.nodup_range (fun c _ hne t ht => (clearLatches_of_ne hd (Ne.symm hne) x t).trans ht)
    (fun t ht => by rw [hown, ht]) (fun c _ hne t ht => (clearLatches_of_ne hd (Ne.symm hne) x t).trans ht) rfl

theorem showBridges_get (h : f.Unshown) (s : State) : (showBridges s).get f i j k = s.get f i j k :=
  foldl_keeps (·.get f i j k) _ _ (fun b _ t => showBridge_get h b t) s

/-- ACT_EN has risen and, after at least 10 µs, the latches of absent causes are cleared. -/
def enRisen (us : Nat) (c : LatchCauses) (s : State) : State :=
  if 10 ≤ us then (List.range 12).foldl (fun s b => clearLatches c b s) (raise 185 (s.set F.ACT_STAT.ACT_EN_LVL 1))
  else raise 185 (s.set F.ACT_STAT.ACT_EN_LVL 1)

theorem enRisen_enabled (us : Nat) (c : LatchCauses) (s : State) : (enRisen us c s).get F.ACT_STAT.ACT_EN_LVL = 1 := by
  have hrisen : (raise 185 (s.set F.ACT_STAT.ACT_EN_LVL 1)).get F.ACT_STAT.ACT_EN_LVL = 1 := by
    rw [State.get_of_rd (raise_above (by decide) (by decide) _), State.get_set_one _ _ _ _ _ (by decide) (by decide)]
  unfold enRisen
  split
  · refine Eq.trans ?_ hrisen
    refine foldl_keeps (·.get F.ACT_STAT.ACT_EN_LVL) _ _ (fun b _ t => ?_) _
    rw [clearLatches_get (by decide)]
    refine State.get_of_rd (clearLatches_rd _ _ _ ?_)
    simp only [Fld.addr, F.ACT_STAT.ACT_EN_LVL, F.ACT_BR_STAT.ACT_BOOT]
    omega
  · exact hrisen

theorem enRisen_latch {d : Fld} (hd : F.ACT_STAT.LATCHED.Apart d ∧ d.base = F.ACT_BR_STAT.ACT_BOOT.base ∧ d.s1 = 16) {c : LatchCauses} {b : Nat}
    (hb : b < 12) {present : Bool} (hown : ∀ u, (clearLatches c b u).get d b = if present = false then 0 else u.get d b) (us : Nat) (s : State) :
    (enRisen us c s).get d b = if 10 ≤ us ∧ present = false then 0 else s.get d b := by
  have hrisen : (raise 185 (s.set F.ACT_STAT.ACT_EN_LVL 1)).get d b = s.get d b := by
    have hbase := hd.2.1
    have haddr : 0x30030000 ≤ d.addr b 0 0 ∧ d.addr b 0 0 ≠ F.ACT_STAT.ACT_EN_LVL.addr 0 0 0 := by
      simp only [Fld.addr, hbase, F.ACT_STAT.ACT_EN_LVL, F.ACT_BR_STAT.ACT_BOOT]
      omega
    rw [State.get_of_rd (raise_above (by decide) haddr.1 _), State.get_set_addr _ _ _ _ _ _ _ _ _ _ haddr.2]
  unfold enRisen
  by_cases hus : 10 ≤ us
  · rw [if_pos hus, clearAll_get hd c hb hown, hrisen]
    simp only [hus, true_and]
  · rw [if_neg hus, hrisen, if_neg (fun h => hus h.1)]

/-- Every bridge is written to HIZ: each shows it (R339). -/
theorem allHiz (hpd : s.pdReady 10 = true) {b : Nat} (hb : b < 12) :
    let t := (List.range 12).foldl (fun s b => bridgeModeWrite b 0 s) s
    t.get F.ACT_BR_CFG.MODE b = 0 ∧ bridgeMode t b = 0 ∧ t.bit F.ACT_STAT.HIZ b = true := by
  have hkept : ∀ u : State, modeKept 0 u = 0 := fun u => ite_self 0
  refine foldl_establishes (P := fun t : State => t.get F.ACT_BR_CFG.MODE b = 0 ∧ bridgeMode t b = 0 ∧ t.bit F.ACT_STAT.HIZ b = true)
    (Q := fun t : State => t.pdReady 10 = true) (List.mem_range.mpr hb) List.nodup_range
    (fun c hc _ t ht => (bridgeModeWrite_pdReady (List.mem_range.mp hc) (by decide) 0 t).trans ht) (fun t ht => ⟨?_, ?_, ?_⟩)
    (fun c hc hne t ⟨hmode, heff, hhiz⟩ => ⟨?_, ?_, ?_⟩) hpd
  · rw [bridgeModeWrite_mode (by decide), hkept]
  · rw [bridgeModeWrite_effect (by rw [hkept]; decide), hkept]
    rfl
  · exact bridgeModeWrite_hiz hb ht (hkept t)
  · rw [bridgeModeWrite_mode_of_ne (Ne.symm hne), hmode]
  · rw [bridgeModeWrite_effect_of_ne (Ne.symm hne), heff]
  · rw [bridgeModeWrite_hiz_of_ne (Ne.symm hne), hhiz]

/-! ### The park lock (R344) -/

/-- The bridges of a mask that stand at MODE `x` are written to MODE `v`. -/
def modesMoved (mask : BitVec 12) (x v : Nat) (s : State) : State :=
  (List.range 12).foldl (fun s b => if mask.getLsbD b && s.get F.ACT_BR_CFG.MODE b == x then bridgeModeWrite b v s else s) s

theorem modesMoved_mode {v x : Nat} (hv : v < 4) (hen : s.getB F.ACT_STAT.ACT_EN_LVL = true ∨ v = 0) (mask : BitVec 12) {b : Nat} (hb : b < 12) :
    (modesMoved mask x v s).get F.ACT_BR_CFG.MODE b =
      if mask.getLsbD b = true ∧ s.get F.ACT_BR_CFG.MODE b = x then v else s.get F.ACT_BR_CFG.MODE b := by
  have hkept : ∀ u : State, u.getB F.ACT_STAT.ACT_EN_LVL = s.getB F.ACT_STAT.ACT_EN_LVL → modeKept v u = v := fun u hu => by
    rcases hen with h | h
    · exact if_pos (hu.trans h)
    · rw [h]
      exact ite_self 0
  have hother : ∀ (c : Nat) (t : State), c ≠ b →
      (if mask.getLsbD c && t.get F.ACT_BR_CFG.MODE c == x then bridgeModeWrite c v t else t).get F.ACT_BR_CFG.MODE b = t.get F.ACT_BR_CFG.MODE b :=
    fun c t hne => ite_keeps (p := (·.get F.ACT_BR_CFG.MODE b)) (bridgeModeWrite_mode_of_ne (Ne.symm hne) v t)
  refine foldl_establishes
    (P := fun t : State => t.get F.ACT_BR_CFG.MODE b = if mask.getLsbD b = true ∧ s.get F.ACT_BR_CFG.MODE b = x then v else s.get F.ACT_BR_CFG.MODE b)
    (Q := fun t : State => t.get F.ACT_BR_CFG.MODE b = s.get F.ACT_BR_CFG.MODE b ∧ t.getB F.ACT_STAT.ACT_EN_LVL = s.getB F.ACT_STAT.ACT_EN_LVL)
    (List.mem_range.mpr hb) List.nodup_range (fun c _ hne t ⟨hmode, hlvl⟩ => ⟨(hother c t hne).trans hmode, ?_⟩) (fun t ⟨hmode, hlvl⟩ => ?_)
    (fun c _ hne t ht => (hother c t hne).trans ht) ⟨rfl, rfl⟩
  · exact (ite_keeps (p := (·.getB F.ACT_STAT.ACT_EN_LVL)) (bridgeModeWrite_enabled c v t)).trans hlvl
  · rw [hmode]
    by_cases h : mask.getLsbD b = true ∧ s.get F.ACT_BR_CFG.MODE b = x
    · rw [if_pos (by simp [h]), bridgeModeWrite_mode hv, hkept t hlvl, if_pos h]
    · rw [if_neg (by simpa using h), if_neg h, hmode]

end

/-- Settles O26: each clause is the branch of its row; over all bridges, what one bridge's step brings about and the others keep. -/
theorem actuatorBridges : Obligations.ActuatorBridges := by
  unfold Obligations.ActuatorBridges
  intro s m b sn high present us causes mask l k latched hpd
  refine ⟨fun hm hen => ⟨?hiz, ?pwm, ?lowOn⟩, ?boot, fun h7 hleg hfew => ?refused, fun hnew => ?ocHigh, fun hnew => ?ocLow,
    fun hw => ?vgdLow, fun hw => ?vgdBack, fun hw => ?supply, ?overtemp, ?warning, fun hen => ?enFall, fun hen => ?enRise,
    fun hpair hen => ?stall, fun hpair => ?holdEnd⟩
  case hiz =>
    have hrun : exec (.bridgeHiz m b) s = .next ((bridgeModeWrite b 0 s).answer .done) := congrArg Host.Outcome.next (if_pos (by simp [hm, hpd]))
    have hkept : modeKept 0 s = 0 := ite_self 0
    refine ⟨_, hrun, ?_, ?_, ?_, rfl, execBridgeHiz_mask rfl rfl rfl _ _ _ hrun⟩
    · rw [State.get_answer, bridgeModeWrite_mode (by decide), hkept]
    · exact (bridgeMode_of_act (State.answer_act _ _) _).trans ((bridgeModeWrite_effect (by rw [hkept]; decide)).trans (by rw [hkept]; rfl))
    · exact (State.bit_of_rd (State.rd_of_regs (State.answer_regs _ _) _)).trans (bridgeModeWrite_hiz b.isLt hpd hkept)
  case pwm =>
    have hrun : exec (.bridgePwm m b) s = .next ((bridgeModeWrite b 1 s).answer .done) := congrArg Host.Outcome.next (if_pos (by simp [hm, hpd]))
    have hkept : modeKept 1 s = 1 := if_pos hen
    refine ⟨_, hrun, ?_, ?_, rfl, execBridgePwm_mask rfl rfl rfl _ _ _ hrun⟩
    · rw [State.get_answer, bridgeModeWrite_mode (by decide), hkept]
    · exact (bridgeMode_of_act (State.answer_act _ _) _).trans (bridgeModeWrite_pwm hkept)
  case lowOn =>
    have hrun : exec (.bridgeLowOn m b) s = .next ((bridgeModeWrite b 2 s).answer .done) := congrArg Host.Outcome.next (if_pos (by simp [hm, hpd]))
    have hkept : modeKept 2 s = 2 := if_pos hen
    refine ⟨_, hrun, ?_, ?_, rfl, execBridgeLowOn_mask rfl rfl rfl _ _ _ hrun⟩
    · rw [State.get_answer, bridgeModeWrite_mode (by decide), hkept]
    · exact (bridgeMode_of_act (State.answer_act _ _) _).trans ((bridgeModeWrite_effect (by rw [hkept]; decide)).trans (by rw [hkept]; rfl))
  case boot =>
    obtain ⟨t, hrun⟩ : ∃ t, exec (.bootUndervoltage b) s = .next t := ⟨_, rfl⟩
    obtain ⟨hcnt, hheld⟩ := execBootUndervoltage_counted hpd hrun
    exact ⟨t, hrun, hcnt, hheld l, execBootUndervoltage_mask rfl rfl rfl rfl rfl rfl _ _ hrun⟩
  case refused =>
    obtain ⟨t, hrun⟩ : ∃ t, exec (.predriverGateReport b (.refusedOff high)) s = .next t := ⟨_, rfl⟩
    obtain ⟨hoff, hpend, hcnt⟩ := execPredriverGateReport_counted (k := k) rfl h7 hleg hfew hrun
    exact ⟨t, hrun, hoff, hpend, hcnt, execPredriverGateReport_mask rfl rfl rfl rfl rfl rfl rfl b (.refusedOff high) s hrun⟩
  case ocHigh =>
    have hrun : exec (.drainSourceFault b true) s = .next (actLatch F.ACT_BR_STAT.ACT_OC_H 0x0B02 b s) :=
      congrArg Host.Outcome.next ((if_pos hpd).trans (if_pos rfl))
    obtain ⟨hbit, hcode⟩ := actLatch_noted b.isLt hnew 0x0B02
    exact ⟨_, hrun, ⟨actLatch_latched (by decide) _ _, hbit⟩, hcode, execDrainSourceFault_mask rfl rfl rfl rfl _ _ _ hrun⟩
  case ocLow =>
    have hrun : exec (.drainSourceFault b false) s = .next (actLatch F.ACT_BR_STAT.ACT_OC_L 0x0B03 b s) :=
      congrArg Host.Outcome.next ((if_pos hpd).trans (if_neg (by decide)))
    obtain ⟨hbit, hcode⟩ := actLatch_noted b.isLt hnew 0x0B03
    exact ⟨_, hrun, ⟨actLatch_latched (by decide) _ _, hbit⟩, hcode, execDrainSourceFault_mask rfl rfl rfl rfl _ _ _ hrun⟩
  case vgdLow =>
    have hrun : exec (.vgdUndervoltage true) s = .next (actLatchAll F.ACT_BR_STAT.ACT_SUPPLY 0x0B07 (s.setB F.ACT_STAT.VGD_LOW true)) :=
      congrArg Host.Outcome.next ((if_neg (by simp [hpd, hw])).trans (if_pos rfl))
    refine ⟨_, hrun, ?_, actLatchAll_latched (by decide) b.isLt _ _, execVgdUndervoltage_mask rfl rfl rfl rfl _ _ hrun⟩
    refine (foldl_keeps (·.get F.ACT_STAT.VGD_LOW) _ _ (fun c _ t => ?_) _).trans (State.get_set_one _ _ _ _ _ (by decide) (by decide))
    exact actLatch_get (by decide) (.inl (by decide)) (.inl (by decide)) _ _
  case vgdBack =>
    exact ⟨_, congrArg Host.Outcome.next ((if_neg (by simp [hpd, hw])).trans (if_neg (by decide))), rfl⟩
  case supply =>
    have hrun : exec (.driveSupplyFault present) s = .next (actLatchAll F.ACT_BR_STAT.ACT_SUPPLY (if present then 0x0B06 else 0x0B05) s) :=
      congrArg Host.Outcome.next (if_pos (by simp [hpd, hw]))
    exact ⟨_, hrun, actLatchAll_latched (by decide) b.isLt _ _, execDriveSupplyFault_mask rfl rfl rfl rfl _ _ hrun⟩
  case overtemp =>
    have hrun : exec (.predriverOvertemp sn) s = .next (actLatchAll F.ACT_BR_STAT.ACT_OT 0x0B08 s) := congrArg Host.Outcome.next (if_pos hpd)
    exact ⟨_, hrun, actLatchAll_latched (by decide) b.isLt _ _, execPredriverOvertemp_mask rfl rfl rfl rfl sn s hrun⟩
  case warning =>
    have hrun : exec (.predriverWarning false present) s = .next (if (present && !s.getB F.ACT_STAT.OT_WARN) = true
        then raise 187 (s.setB F.ACT_STAT.OT_WARN present) else s.setB F.ACT_STAT.OT_WARN present) :=
      congrArg Host.Outcome.next ((if_neg (by simp [hpd])).trans (if_neg (by decide)))
    have hrd : ∀ u : State, (raise 187 u).rd (F.ACT_STAT.OT_WARN.addr 0 0 0) = u.rd (F.ACT_STAT.OT_WARN.addr 0 0 0) :=
      raise_above (by decide) (by decide)
    refine ⟨_, hrun, ?_, ?_, execPredriverWarning_mask rfl rfl _ _ _ hrun⟩
    · refine (ite_keeps (p := (·.get F.ACT_STAT.OT_WARN)) (State.get_of_rd (hrd _))).trans ?_
      rw [State.setB, State.get_set_self _ _ _ _ _ _ (by decide) (by decide)]
      cases present <;> rfl
    · refine (ite_keeps (p := (·.get F.ACT_STAT.VDRV_WARN)) (State.get_of_rd (f := F.ACT_STAT.VDRV_WARN) (hrd _))).trans ?_
      exact State.get_set_apart (by decide) _ _ _ _ _ _ _ _
  case enFall =>
    have hpd' : (s.set F.ACT_STAT.ACT_EN_LVL 0).pdReady 10 = true :=
      (State.pdReady_of_rd (by decide) (set_quiet _ _ _ _ _ _ _ (by decide))).trans hpd
    have hrun : exec .actEnFall s = .next (raise 185 ((List.range 12).foldl (fun s b => bridgeModeWrite b 0 s) (s.set F.ACT_STAT.ACT_EN_LVL 0))) :=
      congrArg Host.Outcome.next (if_pos (by simp [hpd, hen]))
    obtain ⟨hmode, heff, hhiz⟩ := allHiz hpd' b.isLt
    have hlvl : ((List.range 12).foldl (fun s b => bridgeModeWrite b 0 s) (s.set F.ACT_STAT.ACT_EN_LVL 0)).getB F.ACT_STAT.ACT_EN_LVL = false := by
      rw [foldl_keeps (·.getB F.ACT_STAT.ACT_EN_LVL) _ _ (fun c _ t => bridgeModeWrite_enabled c 0 t), State.getB,
        State.get_set_zero _ _ _ _ _ (by decide) (by decide)]
      rfl
    refine ⟨_, hrun, ?_, ?_, ?_, ?_, execActEnFall_mask rfl rfl rfl _ hrun⟩
    · rw [State.get_of_rd (raise_above (by decide) (by decide) _)]
      exact State.get_of_getB_false hlvl
    · rw [State.get_of_rd (raise_above (by decide) (by simp only [Fld.addr, F.ACT_BR_CFG.MODE]; omega) _)]
      exact hmode
    · exact (bridgeMode_of_act (by rw [raise_eq]) _).trans heff
    · exact (State.bit_of_rd (raise_above (by decide) (by decide) _)).trans hhiz
  case enRise =>
    have hrun : exec (.actEnRise us causes) s = .next (showBridges (enRisen us causes s)) :=
      congrArg Host.Outcome.next (if_pos (by simp [hpd, hen]))
    refine ⟨_, hrun, ?_, ?_, ?_, execActEnRise_mask rfl rfl _ _ _ hrun⟩
    · rw [showBridges_get (by decide), enRisen_enabled]
    · rw [showBridges_get (by decide), enRisen_latch (by decide) b.isLt (clearLatches_ocH causes b.val)]
    · rw [showBridges_get (by decide), enRisen_latch (by decide) b.isLt (clearLatches_ot causes b.val)]
  case stall =>
    have hrun : exec (.parkLockStall mask) s = .next (modesMoved mask 1 2 s) := congrArg Host.Outcome.next (if_neg (by simp [hpair]))
    exact ⟨_, hrun, modesMoved_mode (by decide) (.inl hen) mask b.isLt, execParkLockStall_mask rfl rfl _ _ hrun⟩
  case holdEnd =>
    have hrun : exec (.parkLockHoldEnd mask) s = .next (modesMoved mask 2 0 s) := congrArg Host.Outcome.next (if_neg (by simp [hpair]))
    exact ⟨_, hrun, modesMoved_mode (by decide) (.inr rfl) mask b.isLt, execParkLockHoldEnd_mask rfl rfl _ _ hrun⟩

end Sys2Proof.Machine


/-! Temperature and derating (14_thermal.md R395 to R404): what a rule's, a selector's and a target's evaluation leave, and O27. -/

namespace Sys2Proof.Machine
open Sys2Proof

/-! ### Registers and rules that an evaluation leaves -/

section
variable {s : State} {a r j : Nat}

@[simp] theorem State.rule_setRule (s : State) (r : Nat) (x : RuleSt) : (s.setRule r x).rule r = x := SMap.get_put_self _ _ _ _

theorem State.rule_setRule_of_ne (h : j ≠ r) (s : State) (x : RuleSt) : (s.setRule r x).rule j = s.rule j := SMap.get_put_ne _ _ _ _ _ h

theorem State.rule_of_rules {t : State} (h : t.thm.rules = s.thm.rules) (j : Nat) : t.rule j = s.rule j := by rw [State.rule, h, State.rule]

theorem issue_thm (code cls : Nat) (s : State) : (issue code cls s).thm = s.thm := by rw [issue, issueFor_eq]

theorem raise_thm (n : Nat) (s : State) : (raise n s).thm = s.thm := by rw [raise_eq]

theorem emrEnd_thm (cause : Nat) (s : State) : (emrEnd cause s).thm = s.thm :=
  thm_of_mask (K := { regs := true, fab := true, sup := true }) rfl (emrEnd_mask rfl rfl rfl cause s)

/-- What is kept by every write of rule `r`'s STAT register, by its own state and by what it tells, its evaluation keeps. -/
theorem ruleEval_keeps {β : Type} {p : State → β} (hset : ∀ (f : Fld) (v : Nat) (u : State), f.base = F.THM_RULE_STAT.STEP.base ∧ f.s1 = 4 → p (u.set f v r) = p u)
    (hrule : ∀ (u : State) (x : RuleSt), p (u.setRule r x) = p u) (hissue : ∀ (code cls : Nat) (u : State), p (issue code cls u) = p u)
    (hend : ∀ u : State, p (emrEnd 4 (raise 82 u)) = p u) (s : State) : p (ruleEval r s) = p s := by
  unfold ruleEval
  generalize listMaxI (ruleTemps s r) = temp
  cases temp with
  | none =>
    dsimp only
    split
    · rw [hrule, hset _ _ _ (by decide), hset _ _ _ (by decide), hset _ _ _ (by decide)]
    · refine (ite_keeps (hissue _ _ _)).trans ?_
      rw [hrule, hset _ _ _ (by decide), hset _ _ _ (by decide)]
  | some t =>
    dsimp only
    split
    · rw [hrule, hset _ _ _ (by decide), hset _ _ _ (by decide), hset _ _ _ (by decide), State.setI, hset _ _ _ (by decide)]
    · refine (ite_keeps ((hend _).trans (hissue _ _ _))).trans ?_
      rw [hset _ _ _ (by decide), State.setB, hset _ _ _ (by decide), State.setB, hset _ _ _ (by decide), hrule, hset _ _ _ (by decide), State.setI,
        hset _ _ _ (by decide)]

/-- A rule's evaluation writes its own STAT register alone above the crossings' and the ash ring's. -/
theorem ruleEval_rd (ha : 0x30110000 ≤ a) (hne : a ≠ F.THM_RULE_STAT.STEP.addr r 0 0) (s : State) : (ruleEval r s).rd a = s.rd a := by
  refine ruleEval_keeps (p := (·.rd a)) (fun f v u hf => set_quiet _ _ _ _ _ _ _ ?_) (fun u x => State.rd_of_regs (State.setRule_regs _ _ _) a)
    (fun _ _ u => issue_rd _ _ _ _) (fun u => ?_) s
  · have haddr : f.addr r 0 0 = F.THM_RULE_STAT.STEP.addr r 0 0 := by
      simp only [Fld.addr, hf.1, hf.2, F.THM_RULE_STAT.STEP]
      omega
    rw [haddr]
    exact hne
  · rw [emrEnd_aloof (.inr ha), raise_above (by decide) (by omega)]

theorem ruleEval_rule_of_ne (hne : j ≠ r) (s : State) : (ruleEval r s).rule j = s.rule j :=
  ruleEval_keeps (p := (·.rule j)) (fun _ _ _ _ => State.rule_of_rules (by rw [State.set_thm]) j) (fun u x => State.rule_setRule_of_ne hne u x)
    (fun _ _ _ => State.rule_of_rules (by rw [issue_thm]) j) (fun _ => State.rule_of_rules (by rw [emrEnd_thm, raise_thm]) j) s

/-- The evaluation of a disabled rule clears it (R397). -/
theorem ruleEval_of_disabled (hen : s.getB F.THM_RULE_CFG.EN r = false) (hr : r < 16) : (ruleEval r s).get F.THM_RULE_STAT.STEP r = 0 ∧
    (ruleEval r s).get F.THM_RULE_STAT.ROR r = 0 ∧ (ruleEval r s).get F.THM_RULE_STAT.SHUT r = 0 ∧ (ruleEval r s).rule r = {} := by
  have hform : ∃ u : State, ruleEval r s =
      (((u.set F.THM_RULE_STAT.STEP 0 r).set F.THM_RULE_STAT.ROR 0 r).set F.THM_RULE_STAT.SHUT 0 r).setRule r {} := by
    have hkeep : ∀ v : Int, (s.setI F.THM_RULE_STAT.TEMP v r).getB F.THM_RULE_CFG.EN r = false := fun v => by
      refine (State.getB_of_get (State.get_set_addr _ _ _ _ _ _ _ _ _ _ ?_)).trans hen
      simp only [Fld.addr, F.THM_RULE_CFG.EN, F.THM_RULE_STAT.TEMP]
      omega
    unfold ruleEval
    generalize listMaxI (ruleTemps s r) = temp
    cases temp with
    | none => exact ⟨s, if_pos (by simp [hen])⟩
    | some t => exact ⟨s.setI F.THM_RULE_STAT.TEMP t r, if_pos (by simp [hkeep t])⟩
  obtain ⟨u, hu⟩ := hform
  rw [hu]
  refine ⟨?_, ?_, ?_, State.rule_setRule _ _ _⟩ <;> rw [State.get_of_regs (State.setRule_regs _ _ _)]
  · rw [State.get_set_clear (by decide), State.get_set_clear (by decide), State.get_set_zero _ _ _ _ _ (by decide) (by decide)]
  · rw [State.get_set_clear (by decide), State.get_set_zero _ _ _ _ _ (by decide) (by decide)]
  · rw [State.get_set_zero _ _ _ _ _ (by decide) (by decide)]

/-- The evaluation of an enabled rule without a valid sensor gives NOSRC and FAIL_STEP (R397). -/
theorem ruleEval_of_blind (hen : s.getB F.THM_RULE_CFG.EN r = true) (hblind : ruleTemps s r = []) :
    (ruleEval r s).get F.THM_RULE_STAT.NOSRC r = 1 ∧ (ruleEval r s).get F.THM_RULE_STAT.STEP r = min 4 (s.get F.THM_RULE_LIM.FAIL_STEP r) ∧
    ((ruleEval r s).rule r).hist = [] := by
  have hform : ∃ (c : Prop) (_ : Decidable c) (u : State), u = ((s.set F.THM_RULE_STAT.NOSRC 1 r).set F.THM_RULE_STAT.STEP
      (min 4 ((s.set F.THM_RULE_STAT.NOSRC 1 r).get F.THM_RULE_LIM.FAIL_STEP r)) r).setRule r { s.rule r with hist := [] } ∧
      ruleEval r s = if c then issue 0x0E02 0 u else u := by
    unfold ruleEval
    rw [hblind]
    exact ⟨_, _, _, rfl, if_neg (by simp [listMaxI, hen])⟩
  obtain ⟨c, _, u, hu, heval⟩ := hform
  have hfail : (s.set F.THM_RULE_STAT.NOSRC 1 r).get F.THM_RULE_LIM.FAIL_STEP r = s.get F.THM_RULE_LIM.FAIL_STEP r :=
    State.get_set_apart (by decide) _ _ _ _ _ _ _ _
  have hstep : min 4 (s.get F.THM_RULE_LIM.FAIL_STEP r) < 8 := by omega
  have hregs : ∀ f : Fld, (ruleEval r s).get f r = ((s.set F.THM_RULE_STAT.NOSRC 1 r).set F.THM_RULE_STAT.STEP
      (min 4 (s.get F.THM_RULE_LIM.FAIL_STEP r)) r).get f r := fun f => by
    rw [heval, hu, ← hfail]
    exact (ite_keeps (p := (·.get f r)) (issue_get _ _ _ _ _ _ _)).trans (State.get_of_regs (State.setRule_regs _ _ _) _ _ _ _)
  refine ⟨?_, ?_, ?_⟩
  · rw [hregs, State.get_set_clear (by decide), State.get_set_one _ _ _ _ _ (by decide) (by decide)]
  · rw [hregs]
    exact State.get_set_fits (by decide) hstep _ _ _ _
  · have hrule : (ruleEval r s).rule r = u.rule r := by
      rw [heval]
      exact ite_keeps (p := (·.rule r)) (State.rule_of_rules (by rw [issue_thm]) r)
    rw [hrule, hu, State.rule_setRule]

/-- A register of THM_RULE_STAT. -/
abbrev RuleStat (a : Nat) : Prop := 0x30120300 ≤ a ∧ a < 0x30120340

theorem ruleStat_addr {f : Fld} (hr : r < 16) (hf : f.base = 0x30120300 ∧ f.s1 = 4) : RuleStat (f.addr r 0 0) := by
  simp only [RuleStat, Fld.addr, hf.1, hf.2]
  omega

theorem bandChange_rd (ha : RuleStat a) (b k : Nat) (s : State) : (bandChange b k s).rd a = s.rd a := by
  obtain ⟨hlo, hhi⟩ := ha
  have hraise : ∀ (u : State) (x : ThmSt), (raise 81 { u with thm := x }).rd a = u.rd a := fun u x => raise_above (by decide) (by omega) _
  unfold bandChange
  extract_lets s1 legs brs cg s2 s3 s4
  have hs1 : s1.rd a = s.rd a := set_quiet _ _ _ _ _ _ _ (by simp only [Fld.addr, F.THM_BAND_CFG.BAND]; omega)
  have hs2 : s2.rd a = s1.rd a := by
    refine foldl_keeps (·.rd a) _ _ (fun l hl u => ite_keeps (p := (·.rd a)) ?_) _
    have hl := List.mem_range.mp hl
    rw [set_quiet, set_quiet] <;> simp only [Fld.addr, F.PWM_LEG_DT.DT_TB, F.PWM_LEG_DT.DT_BT] <;> omega
  have hs3 : s3.rd a = s1.rd a := by
    simp only [s3]
    split
    · split
      · next hcg =>
        rw [set_quiet _ _ _ _ _ _ _ (by simp only [Fld.addr, F.PWM_CG_PER.PER]; omega), hs2]
      · exact hs2
    · rfl
  have hs4 : s4.rd a = s3.rd a := by
    refine foldl_keeps (·.rd a) _ _ (fun l hl u => ite_keeps (p := (·.rd a)) ?_) _
    have hl := List.mem_range.mp hl
    exact set_quiet _ _ _ _ _ _ _ (by simp only [Fld.addr, F.ACT_BR_CFG.STRENGTH]; omega)
  rw [hraise, hs4, hs3, hs1]

theorem bandChange_rules (b k : Nat) (s : State) : (bandChange b k s).thm.rules = s.thm.rules := by
  unfold bandChange
  extract_lets s1 legs brs cg s2 s3 s4
  have hs2 : s2.thm = s1.thm := foldl_keeps (·.thm) _ _ (fun l _ u => by
    refine ite_keeps (p := (·.thm)) ?_
    rw [State.set_thm, State.set_thm]) _
  have hs3 : s3.thm = s1.thm := by
    simp only [s3]
    split
    · exact (ite_keeps (p := (·.thm)) (State.set_thm _ _ _ _ _ _)).trans hs2
    · rfl
  have hs4 : s4.thm = s3.thm := foldl_keeps (·.thm) _ _ (fun l _ u => ite_keeps (p := (·.thm)) (State.set_thm _ _ _ _ _ _)) _
  rw [raise_thm]
  show s4.thm.rules = _
  rw [hs4, hs3]
  rfl

theorem bandEval_keeps {β : Type} {p : State → β} {b : Nat} (hset : ∀ (v : Nat) (u : State), p (u.set F.THM_BAND_CFG.HELD v b) = p u)
    (hdwell : ∀ (u : State) (x : SMap Nat), p { u with thm := { u.thm with dwell := x } } = p u)
    (hchange : ∀ (k : Nat) (u : State), p (bandChange b k u) = p u) (s : State) : p (bandEval b s) = p s := by
  unfold bandEval
  split
  · rfl
  · split
    · exact hset _ _
    · dsimp only
      split
      · rw [hchange, hdwell, hset]
      · split
        · split
          · rw [hchange, hdwell, hset]
          · rw [hdwell, hset]
        · rw [hdwell, hset]

theorem bandEval_rd (ha : RuleStat a) (b : Nat) (s : State) : (bandEval b s).rd a = s.rd a := by
  refine bandEval_keeps (p := (·.rd a)) (fun v u => set_quiet _ _ _ _ _ _ _ ?_) (fun _ _ => rfl) (fun k u => bandChange_rd ha b k u) s
  simp only [Fld.addr, F.THM_BAND_CFG.HELD]
  omega

theorem bandEval_rules (b : Nat) (s : State) : (bandEval b s).thm.rules = s.thm.rules :=
  bandEval_keeps (p := (·.thm.rules)) (fun _ _ => by rw [State.set_thm]) (fun _ _ => rfl) (fun k u => bandChange_rules b k u) s

theorem tgtFld_addr (i : Nat) : (tgtFld i).addr 0 0 0 = F.THM_TGT0.FACTOR0.addr 0 0 0 ∨ (tgtFld i).addr 0 0 0 = F.THM_TGT1.FACTOR0.addr 0 0 0 := by
  unfold tgtFld
  split
  · exact .inl rfl
  · exact .inl rfl
  · exact .inl rfl
  · exact .inl rfl
  · exact .inr rfl
  · exact .inr rfl
  · exact .inr rfl
  · exact .inr rfl

theorem publish_rd (ha : RuleStat a) (i f : Nat) (s : State) : (publish i f s).rd a = s.rd a := by
  obtain ⟨hlo, hhi⟩ := ha
  rw [publish, raise_above (by decide) (by omega)]
  refine set_quiet _ _ _ _ _ _ _ ?_
  rcases tgtFld_addr i with h | h <;> rw [h] <;> simp only [Fld.addr, F.THM_TGT0.FACTOR0, F.THM_TGT1.FACTOR0] <;> omega

theorem publish_thm (i f : Nat) (s : State) : (publish i f s).thm = s.thm := raise_thm _ _

theorem targetEval_rd (ha : RuleStat a) (i : Nat) (s : State) : (targetEval i s).rd a = s.rd a :=
  (ite_keeps (p := (·.rd a)) (publish_rd ha _ _ _)).trans rfl

theorem targetEval_rules (i : Nat) (s : State) : (targetEval i s).thm.rules = s.thm.rules :=
  (ite_keeps (p := (·.thm.rules)) (by rw [publish_thm])).trans rfl

/-- The rules, evaluated one after the other. -/
def rulesEvaluated (s : State) : State := (List.range 16).foldl (fun s r => ruleEval r s) s

/-- What the selectors and the targets do after the rules. -/
def factorsEvaluated (s : State) : State :=
  (List.range 8).foldl (fun s i => targetEval i s) ((List.range 4).foldl (fun s b => bandEval b s) s)

theorem factorsEvaluated_rd (ha : RuleStat a) (s : State) : (factorsEvaluated s).rd a = s.rd a :=
  (foldl_keeps (·.rd a) _ _ (fun i _ u => targetEval_rd ha i u) _).trans (foldl_keeps (·.rd a) _ _ (fun b _ u => bandEval_rd ha b u) _)

theorem factorsEvaluated_rule (j : Nat) (s : State) : (factorsEvaluated s).rule j = s.rule j :=
  State.rule_of_rules ((foldl_keeps (·.thm.rules) _ _ (fun i _ u => targetEval_rules i u) _).trans
    (foldl_keeps (·.thm.rules) _ _ (fun b _ u => bandEval_rules b u) _)) j

/-- Of a rule's STAT register and state, what its own evaluation brings about stands after all rules. -/
theorem rulesEvaluated_own {P : State → Prop} (hr : r < 16) (hstep : ∀ u : State, u.rule r = s.rule r →
      (∀ a, 0x30110000 ≤ a → ¬ RuleStat a → u.rd a = s.rd a) → P (ruleEval r u))
    (hkeep : ∀ u v : State, v.rule r = u.rule r → v.rd (F.THM_RULE_STAT.STEP.addr r 0 0) = u.rd (F.THM_RULE_STAT.STEP.addr r 0 0) → P u → P v) :
    P (rulesEvaluated s) := by
  have hne : ∀ c, c < 16 → c ≠ r → F.THM_RULE_STAT.STEP.addr r 0 0 ≠ F.THM_RULE_STAT.STEP.addr c 0 0 := fun c _ h => by
    simp only [Fld.addr, F.THM_RULE_STAT.STEP]
    omega
  have hhigh : 0x30110000 ≤ F.THM_RULE_STAT.STEP.addr r 0 0 := by
    simp only [Fld.addr, F.THM_RULE_STAT.STEP]
    omega
  refine foldl_establishes (P := P) (Q := fun u : State => u.rule r = s.rule r ∧ ∀ a, 0x30110000 ≤ a → ¬ RuleStat a → u.rd a = s.rd a)
    (List.mem_range.mpr hr) List.nodup_range (fun c hc h u ⟨hrule, hrd⟩ => ⟨(ruleEval_rule_of_ne (Ne.symm h) u).trans hrule, fun a ha hstat => ?_⟩)
    (fun u ⟨hrule, hrd⟩ => hstep u hrule hrd)
    (fun c hc h u hu => hkeep u _ (ruleEval_rule_of_ne (Ne.symm h) u) (ruleEval_rd hhigh (hne c (List.mem_range.mp hc) h) u) hu)
    ⟨rfl, fun _ _ _ => rfl⟩
  refine (ruleEval_rd ha (fun e => hstat ?_) u).trans (hrd a ha hstat)
  rw [e]
  exact ruleStat_addr (List.mem_range.mp hc) (by decide)

theorem ruleTemps_of_rd {u : State} (hr : r < 16) (h : ∀ a, 0x30110000 ≤ a → ¬ RuleStat a → u.rd a = s.rd a) : ruleTemps u r = ruleTemps s r := by
  have hsrc : u.get F.THM_RULE_CFG.SRC r = s.get F.THM_RULE_CFG.SRC r := by
    refine State.get_of_rd (h _ ?_ ?_) <;> simp only [RuleStat, Fld.addr, F.THM_RULE_CFG.SRC] <;> omega
  have htemp : ∀ i, i < 36 → u.rd (F.THM_TEMP.TEMP.addr i 0 0) = s.rd (F.THM_TEMP.TEMP.addr i 0 0) := fun i hi => by
    refine h _ ?_ ?_ <;> simp only [RuleStat, Fld.addr, F.THM_TEMP.TEMP] <;> omega
  simp only [ruleTemps, hsrc]
  refine List.filterMap_congr fun j _ => ?_
  by_cases hi : s.get F.THM_RULE_CFG.SRC r / 2 ^ (6 * j) % 64 < 36
  · rw [State.getB_of_rd (f := F.THM_TEMP.VALID) (htemp _ hi), State.getI, State.get_of_rd (htemp _ hi)]
    rfl
  · simp [hi]

end

/-! ### Samples (R395, R396) -/

section
variable {s : State}

theorem State.sensor_setSensor (s : State) (i : Nat) (x : SensorSt) : (s.setSensor i x).sensor i = x := SMap.get_put_self _ _ _ _

theorem State.sensor_of_thm {t : State} (h : t.thm = s.thm) (i : Nat) : t.sensor i = s.sensor i := by rw [State.sensor, h, State.sensor]

/-- A valid sample joins the last four; their mean is TEMP, and VALID waits for four good ones. -/
theorem sensorSample_of_valid {i : Nat} {ok : Bool} {v x : Int} (hpd : s.pdReady 10 = true) (hon : sensorOn s i = true)
    (hx : sampleTemp s i ok v = some x) :
    let h := (x :: (s.sensor i).hist).take 4
    ((sensorSample i ok v s).sensor i).hist = h ∧ (sensorSample i ok v s).get F.THM_TEMP.TEMP i = unsigned 16 (roundDiv h.sum h.length) ∧
    ((sensorSample i ok v s).getB F.THM_TEMP.VALID i = true ↔ 3 ≤ (s.sensor i).good) ∧
    RegsOnly [F.THM_TEMP.TEMP.addr i 0 0] s (sensorSample i ok v s) := by
  intro h
  have hform : ∃ bad, sensorSample i ok v s = ((s.setSensor i { hist := h, good := min ((s.sensor i).good + 1) 4, bad := bad }).setI F.THM_TEMP.TEMP
      (roundDiv h.sum h.length) i).setB F.THM_TEMP.VALID (decide (4 ≤ min ((s.sensor i).good + 1) 4)) i := by
    unfold sensorSample
    rw [if_neg (by simp [hpd, hon])]
    dsimp only
    rw [hx]
    exact ⟨_, rfl⟩
  obtain ⟨bad, hu⟩ := hform
  rw [hu]
  refine ⟨?_, ?_, ?_, ?_⟩
  · have hthm : ∀ (u : State) (y : Int) (b : Bool), ((u.setI F.THM_TEMP.TEMP y i).setB F.THM_TEMP.VALID b i).thm = u.thm := fun u y b => by
      rw [State.setB_thm, State.setI_thm]
    rw [State.sensor_of_thm (hthm _ _ _), State.sensor_setSensor]
  · rw [State.get_setB_apart (by decide)]
    exact State.get_setI_self (by decide) _ _ _ _ _
  · rw [State.getB, State.setB, State.get_set_self _ _ _ _ _ _ (by decide) (by decide)]
    by_cases h4 : 4 ≤ min ((s.sensor i).good + 1) 4
    · rw [decide_eq_true h4]
      exact ⟨fun _ => by omega, fun _ => by decide⟩
    · rw [decide_eq_false h4]
      exact ⟨fun hc => absurd hc (by decide), fun hc => absurd hc (by omega)⟩
  · refine RegsOnly.set (f := F.THM_TEMP.VALID) (RegsOnly.set (f := F.THM_TEMP.TEMP) (RegsOnly.of_regs (State.setSensor_regs _ _ _)) ?_ _) ?_ _ <;>
      exact List.mem_singleton.mpr rfl

/-- An invalid sample makes the sensor invalid, and the first one is told with 0x0E01. -/
theorem sensorSample_of_invalid {i : Nat} {ok : Bool} {v : Int} (hpd : s.pdReady 10 = true) (hon : sensorOn s i = true)
    (hx : sampleTemp s i ok v = none) (hbad : (s.sensor i).bad = false) : ((sensorSample i ok v s).sensor i).hist = [] ∧
    (sensorSample i ok v s).get F.THM_TEMP.FAULT i = 1 ∧ (sensorSample i ok v s).get F.THM_TEMP.VALID i = 0 ∧
    (sensorSample i ok v s).sys.lastFault = 0x0E01 := by
  have hform : sensorSample i ok v s = raise 83 (issue 0x0E01 0 (((s.set F.THM_TEMP.FAULT 1 i).set F.THM_TEMP.VALID 0 i).setSensor i
      { hist := [], good := 0, bad := true })) := by
    unfold sensorSample
    rw [if_neg (by simp [hpd, hon])]
    dsimp only
    rw [hx]
    exact if_neg (by simp [hbad])
  have hget : ∀ (f : Fld), f.base = F.THM_TEMP.FAULT.base → (sensorSample i ok v s).get f i =
      ((s.set F.THM_TEMP.FAULT 1 i).set F.THM_TEMP.VALID 0 i).get f i := fun f hf => by
    rw [hform, State.get_of_rd (raise_above (by decide) (by simp only [Fld.addr, hf, F.THM_TEMP.FAULT]; omega) _), issue_get,
      State.get_of_regs (State.setSensor_regs _ _ _)]
  refine ⟨?_, ?_, ?_, ?_⟩
  · rw [hform, State.sensor_of_thm ((raise_thm _ _).trans (issue_thm _ _ _)), State.sensor_setSensor]
  · rw [hget F.THM_TEMP.FAULT rfl, State.get_set_apart (by decide), State.get_set_one _ _ _ _ _ (by decide) (by decide)]
  · rw [hget F.THM_TEMP.VALID rfl, State.get_set_zero _ _ _ _ _ (by decide) (by decide)]
  · rw [hform, raise_sys, issue_lastFault]

theorem emrEnd_emr (cause : Nat) (s : State) : (emrEnd cause s).sup.emr = false := by
  cases h : s.sup.emr with
  | true => exact (emrEnd_sup_of_active h cause).1
  | false =>
    have hsame : emrEnd cause s = s := if_pos (by simp [h])
    rw [hsame, h]

end

/-- Settles O27: a sample's and a factor's clauses are branches of their rows; a rule's own evaluation stands after the others'. -/
theorem thermalRules : Obligations.ThermalRules := by
  unfold Obligations.ThermalRules
  intro s i v x ok r g h hpd
  have heval : exec .ruleEvaluation s = .next (factorsEvaluated (rulesEvaluated s)) := congrArg Host.Outcome.next (if_neg (by simp [hpd]))
  have hstat := ruleStat_addr (f := F.THM_RULE_STAT.STEP) r.isLt (by decide)
  have hfac : ∀ f : Fld, f.addr r.val 0 0 = F.THM_RULE_STAT.STEP.addr r.val 0 0 →
      (factorsEvaluated (rulesEvaluated s)).get f r.val = (rulesEvaluated s).get f r.val := fun f hf =>
    State.get_of_rd (factorsEvaluated_rd (by rw [hf]; exact hstat) _)
  have hframe := execRuleEvaluation_mask (K :=
    { regs := true, mem := true, resp := true, sys := true, emb := true, fab := true, afe := true, hk := true,
      whl := true, pwm := true, cnv := true, fly := true, kln := true, spx := true, sup := true, act := true, thm := true, chg := true, tnd := true,
      upd := true, bus := true, xcp := true, olt := true })
    rfl rfl rfl rfl rfl rfl rfl rfl rfl rfl rfl rfl rfl rfl rfl rfl rfl rfl rfl rfl rfl rfl rfl s heval
  refine ⟨fun hon hx => ?valid, fun hon hx hbad => ?invalid, fun hi => ?hard, fun hen => ?disabled, fun hen hblind => ?blind, fun hlt => ?rise⟩
  case valid =>
    have hrun : exec (.sensorSample i ok v) s = .next (sensorSample i ok v s) := rfl
    obtain ⟨hhist, htemp, hvalid, honly⟩ := sensorSample_of_valid hpd hon hx
    exact ⟨_, hrun, hhist, htemp, hvalid, honly, sensorSample_mask rfl rfl rfl rfl rfl _ _ _ s⟩
  case invalid =>
    have hrun : exec (.sensorSample i ok v) s = .next (sensorSample i ok v s) := rfl
    obtain ⟨hhist, hfault, hvalid, hcode⟩ := sensorSample_of_invalid hpd hon hx hbad
    exact ⟨_, hrun, hhist, hfault, hvalid, hcode, sensorSample_mask rfl rfl rfl rfl rfl _ _ _ s⟩
  case hard =>
    have hrun : exec (.dieHardLimit i) s = .next (emrEnd 4 (issue 0x0E03 3 s)) := congrArg Host.Outcome.next (if_pos (by simp [hpd, hi]))
    refine ⟨_, hrun, ?_, ?_, emrEnd_emr _ _, execDieHardLimit_mask rfl rfl rfl rfl rfl _ _ hrun⟩
    · rw [emrEnd_sys, issue_lastFault]
    · rw [emrEnd_sys, issue, issueFor_eq]
      rfl
  case disabled =>
    have hen' : ∀ u : State, (∀ a, 0x30110000 ≤ a → ¬ RuleStat a → u.rd a = s.rd a) → u.getB F.THM_RULE_CFG.EN r.val = false := fun u hu => by
      refine (State.getB_of_rd (hu _ ?_ ?_)).trans hen <;> simp only [RuleStat, Fld.addr, F.THM_RULE_CFG.EN] <;> omega
    obtain ⟨hstep, hror, hshut, hrule⟩ := rulesEvaluated_own (s := s) (P := fun u => u.get F.THM_RULE_STAT.STEP r.val = 0 ∧
        u.get F.THM_RULE_STAT.ROR r.val = 0 ∧ u.get F.THM_RULE_STAT.SHUT r.val = 0 ∧ u.rule r.val = {}) r.isLt
      (fun u _ hrd => ruleEval_of_disabled (hen' u hrd) r.isLt)
      (fun u w hrule hrd ⟨h1, h2, h3, h4⟩ => ⟨(State.get_of_rd hrd).trans h1, (State.get_of_rd (f := F.THM_RULE_STAT.ROR) hrd).trans h2,
        (State.get_of_rd (f := F.THM_RULE_STAT.SHUT) hrd).trans h3, hrule.trans h4⟩)
    exact ⟨_, heval, (hfac _ rfl).trans hstep, (hfac F.THM_RULE_STAT.ROR rfl).trans hror,
      (hfac F.THM_RULE_STAT.SHUT rfl).trans hshut, (factorsEvaluated_rule _ _).trans hrule, hframe⟩
  case blind =>
    have hread : ∀ (u : State) (f : Fld), f.base = F.THM_RULE_CFG.EN.base ∨ f.base = F.THM_RULE_LIM.FAIL_STEP.base → f.s1 = 16 →
        (∀ a, 0x30110000 ≤ a → ¬ RuleStat a → u.rd a = s.rd a) → u.get f r.val = s.get f r.val := fun u f hf hs1 hu => by
      refine State.get_of_rd (hu _ ?_ ?_) <;> rcases hf with hf | hf <;>
        simp only [RuleStat, Fld.addr, hf, hs1, F.THM_RULE_CFG.EN, F.THM_RULE_LIM.FAIL_STEP] <;> omega
    obtain ⟨hnosrc, hstep, hhist⟩ := rulesEvaluated_own (s := s) (P := fun u => u.get F.THM_RULE_STAT.NOSRC r.val = 1 ∧
        u.get F.THM_RULE_STAT.STEP r.val = min 4 (s.get F.THM_RULE_LIM.FAIL_STEP r.val) ∧ (u.rule r.val).hist = []) r.isLt
      (fun u _ hrd => by
        rw [← hread u F.THM_RULE_LIM.FAIL_STEP (.inr rfl) rfl hrd]
        exact ruleEval_of_blind ((State.getB_of_get (hread u _ (.inl rfl) rfl hrd)).trans hen) ((ruleTemps_of_rd r.isLt hrd).trans hblind))
      (fun u w hrule hrd ⟨h1, h2, h3⟩ => ⟨(State.get_of_rd (f := F.THM_RULE_STAT.NOSRC) hrd).trans h1, (State.get_of_rd hrd).trans h2,
        (congrArg RuleSt.hist hrule).trans h3⟩)
    exact ⟨_, heval, (hfac F.THM_RULE_STAT.NOSRC rfl).trans hnosrc, (hfac _ rfl).trans hstep, (congrArg RuleSt.hist (factorsEvaluated_rule _ _)).trans hhist, hframe⟩
  case rise =>
    have hrun : exec (.factorRiseStep g) s = .next (publish g.val (s.get (tgtFld g.val) + 1) s) :=
      congrArg Host.Outcome.next (if_pos (by simp [hpd, hlt]))
    have hfld : ∀ j : Fin 8, (tgtFld j.val).hi < 32 ∧ (tgtFld j.val).lo ≤ (tgtFld j.val).hi ∧ (tgtFld j.val).hi + 1 - (tgtFld j.val).lo = 8 ∧
        0x30030000 ≤ (tgtFld j.val).addr 0 0 0 := by decide
    obtain ⟨hhi, hlo, hwidth, haddr⟩ := hfld g
    refine ⟨_, hrun, ?_, publish_thm _ _ _, execFactorRiseStep_mask rfl rfl _ _ hrun⟩
    rw [publish, State.get_of_rd (raise_above (by decide) haddr _), State.get_set_self _ _ _ _ _ _ hhi hlo, hwidth]
    rfl

end Sys2Proof.Machine

/-! ## Lockstep pairs (R407 to R419): records, comparisons, faults and resets. -/

namespace Sys2Proof.Machine
open Sys2Proof

section
variable {s t : State} {p : Nat}

theorem issue_spx (code cls : Nat) (s : State) : (issue code cls s).spx = s.spx := by rw [issue, issueFor_eq]

theorem raise_spx (n : Nat) (s : State) : (raise n s).spx = s.spx := by rw [raise_eq]

theorem State.pairSt_of_spx (h : t.spx = s.spx) (p : Nat) : t.pairSt p = s.pairSt p := by rw [State.pairSt, h, State.pairSt]

@[simp] theorem State.pairSt_setPair (s : State) (p : Nat) (x : PairSt) : (s.setPair p x).pairSt p = x := SMap.get_put_self _ _ _ _

@[simp] theorem State.pairSt_set (s : State) (f : Fld) (v i j k q : Nat) : (s.set f v i j k).pairSt q = s.pairSt q :=
  State.pairSt_of_spx (State.set_spx _ _ _ _ _ _) q

@[simp] theorem State.get_setPair (s : State) (q : Nat) (x : PairSt) (f : Fld) (i j k : Nat) : (s.setPair q x).get f i j k = s.get f i j k :=
  State.get_of_regs (State.setPair_regs _ _ _) _ _ _ _

theorem raise_get_fabric {n : Nat} {f : Fld} (h : n < 256 ∧ 0x30030000 ≤ f.base) (s : State) (i j k : Nat) :
    (raise n s).get f i j k = s.get f i j k := by
  refine State.get_of_rd (raise_above h.1 ?_ _)
  simp only [Fld.addr]
  omega

theorem updFault_get {f : Fld} (h : 0x30070000 < f.base) (type inst : Nat) (s : State) (i j k : Nat) :
    (updFault type inst s).get f i j k = s.get f i j k := by
  refine State.get_of_rd (updFault_rd ?_ ?_ _ _ _) <;> simp only [Fld.addr, F.UPD_STAT.STATE, F.UPD_STAT.REASON] <;> omega

theorem firmwareLost_get (q : Nat) (s : State) (f : Fld) (i j k : Nat) : (firmwareLost q s).get f i j k = s.get f i j k :=
  State.get_of_regs (regs_of_mask (K := { sup := true, chg := true, xcp := true }) rfl (firmwareLost_mask rfl rfl rfl q s)) _ _ _ _

theorem firmwareLost_spx (q : Nat) (s : State) : (firmwareLost q s).spx = s.spx :=
  spx_of_mask (K := { sup := true, chg := true, xcp := true }) rfl (firmwareLost_mask rfl rfl rfl q s)

theorem firmwareLost_sys (q : Nat) (s : State) : (firmwareLost q s).sys = s.sys :=
  sys_of_mask (K := { sup := true, chg := true, xcp := true }) rfl (firmwareLost_mask rfl rfl rfl q s)

theorem updFault_spx (type inst : Nat) (s : State) : (updFault type inst s).spx = s.spx :=
  spx_of_mask (K := { regs := true, tnd := true, upd := true }) rfl (updFault_mask rfl rfl rfl type inst s)

theorem updFault_sys (type inst : Nat) (s : State) : (updFault type inst s).sys = s.sys :=
  sys_of_mask (K := { regs := true, tnd := true, upd := true }) rfl (updFault_mask rfl rfl rfl type inst s)

/-! ### Pair faults (R413 to R415) -/

/-- A pair fault's code, its count and what follows of it outside the pair. -/
def faultTold (p code : Nat) (s : State) : State :=
  let s := (s.set F.SPX_STAT.RESETS (min 3 (s.get F.SPX_STAT.RESETS p + 1)) p).set F.SPX_STAT.LAST_CODE code p
  updFault 4 p (firmwareLost p (raise 16 (issue code (s.get F.SPX_CFG.MISMATCH_CLASS p) s)))

theorem faultTold_get {f : Fld} (hf : 0x30070000 < f.base ∧ F.SPX_STAT.RESETS.Clear f ∧ F.SPX_STAT.LAST_CODE.Clear f) (code : Nat) (s : State) :
    (faultTold p code s).get f p = s.get f p := by
  obtain ⟨hbase, hresets, hcode⟩ := hf
  rw [faultTold, updFault_get hbase, firmwareLost_get, raise_get_fabric ⟨by decide, by omega⟩, issue_get, State.get_set_clear hcode,
    State.get_set_clear hresets]

theorem faultTold_shows {code : Nat} (hcode : code < 65536) (s : State) : (faultTold p code s).get F.SPX_STAT.LAST_CODE p = code ∧
    (faultTold p code s).get F.SPX_STAT.RESETS p = min 3 (s.get F.SPX_STAT.RESETS p + 1) := by
  refine ⟨?_, ?_⟩
  · rw [faultTold, updFault_get (by decide), firmwareLost_get, raise_get_fabric (by decide), issue_get, State.get_set_fits (by decide) hcode]
  · rw [faultTold, updFault_get (by decide), firmwareLost_get, raise_get_fabric (by decide), issue_get, State.get_set_clear (by decide),
      State.get_set_fits (by decide) (by simp only [F.SPX_STAT.RESETS]; omega)]

theorem faultTold_pairSt (code : Nat) (s : State) (q : Nat) : (faultTold p code s).pairSt q = s.pairSt q := by
  refine State.pairSt_of_spx ?_ q
  rw [faultTold, updFault_spx, firmwareLost_spx, raise_spx, issue_spx, State.set_spx, State.set_spx]

theorem faultTold_lastFault (code : Nat) (s : State) : (faultTold p code s).sys.lastFault = code := by
  rw [faultTold, updFault_sys, firmwareLost_sys, raise_sys, issue_lastFault]

/-- What a fault of pair `p`, compared or halted in `s`, leaves in `t`: its code and count, no record, and RESETTING or, the third time, HALTED. -/
structure PairFaulted (s : State) (p code : Nat) (t : State) : Prop where
  lastCode : t.get F.SPX_STAT.LAST_CODE p = code
  resets : t.get F.SPX_STAT.RESETS p = min 3 (s.get F.SPX_STAT.RESETS p + 1)
  empty : t.pairSt p = {}
  resetting : s.get F.SPX_STAT.RESETS p < 2 → t.get F.SPX_STAT.STATE p = 4 ∧ t.sys.lastFault = code
  halted : 2 ≤ s.get F.SPX_STAT.RESETS p → t.get F.SPX_STAT.STATE p = 3 ∧ t.sys.lastFault = 0x0408

theorem pairFault_of_state (hst : [0, 2, 6].contains (s.get F.SPX_STAT.STATE p) = true) (hready : s.pdReady (2 + p) = true) (code : Nat) :
    pairFault p code s = if min 3 (s.get F.SPX_STAT.RESETS p + 1) = 3 then issue 0x0408 0 ((faultTold p code (s.setPair p {})).set F.SPX_STAT.STATE 3 p)
      else (faultTold p code (s.setPair p {})).set F.SPX_STAT.STATE 4 p := by
  have hgo : ¬ ((!s.pdReady (2 + p) || !([0, 2, 6].contains (s.get F.SPX_STAT.STATE p) || SMap.get 0 s.upd.migr p == 2)) = true) := by
    rw [hready, hst]
    simp
  exact if_neg hgo

theorem pairFault_faulted {code : Nat} (hcode : code < 65536) (hst : [0, 2, 6].contains (s.get F.SPX_STAT.STATE p) = true)
    (hready : s.pdReady (2 + p) = true) : PairFaulted s p code (pairFault p code s) := by
  obtain ⟨hlast, hresets⟩ := faultTold_shows (p := p) hcode (s.setPair p {})
  rw [State.get_setPair] at hresets
  have hempty : (faultTold p code (s.setPair p {})).pairSt p = {} := (faultTold_pairSt _ _ _).trans (State.pairSt_setPair _ _ _)
  rw [pairFault_of_state hst hready]
  split
  · rename_i hthird
    refine ⟨?_, ?_, ?_, fun h => absurd h (by omega), fun _ => ⟨?_, issue_lastFault _ _ _⟩⟩
    · rw [issue_get, State.get_set_clear (by decide), hlast]
    · rw [issue_get, State.get_set_clear (by decide), hresets]
    · exact (State.pairSt_of_spx (issue_spx _ _ _) p).trans ((State.pairSt_set _ _ _ _ _ _ p).trans hempty)
    · rw [issue_get, State.get_set_fits (by decide) (by decide)]
  · rename_i hfew
    refine ⟨?_, ?_, ?_, fun _ => ⟨?_, ?_⟩, fun h => absurd h (by omega)⟩
    · rw [State.get_set_clear (by decide), hlast]
    · rw [State.get_set_clear (by decide), hresets]
    · exact (State.pairSt_set _ _ _ _ _ _ p).trans hempty
    · exact State.get_set_fits (by decide) (by decide) _ _ _ _
    · rw [State.set_sys, faultTold_lastFault]

theorem pairFault_get {f : Fld} (hf : 0x30070000 < f.base ∧ F.SPX_STAT.RESETS.Clear f ∧ F.SPX_STAT.LAST_CODE.Clear f ∧ F.SPX_STAT.STATE.Clear f)
    (hst : [0, 2, 6].contains (s.get F.SPX_STAT.STATE p) = true) (hready : s.pdReady (2 + p) = true) (code : Nat) :
    (pairFault p code s).get f p = s.get f p := by
  obtain ⟨hbase, hresets, hcode, hstate⟩ := hf
  have htold : (faultTold p code (s.setPair p {})).get f p = s.get f p := (faultTold_get ⟨hbase, hresets, hcode⟩ _ _).trans (State.get_setPair _ _ _ _ _ _ _)
  rw [pairFault_of_state hst hready]
  split
  · rw [issue_get, State.get_set_clear hstate, htold]
  · rw [State.get_set_clear hstate, htold]

/-- A fault over a record at address `a` of a checked pair. -/
theorem faultAt_faulted {code : Nat} (hcode : code < 65536) (hst : s.get F.SPX_STAT.STATE p = 0) (hmig : SMap.get 0 s.upd.migr p ≠ 2)
    (hready : s.pdReady (2 + p) = true) (a : Nat) :
    (faultAt p code a s).get F.SPX_MISM.ADDR p = a % 2 ^ 32 ∧ PairFaulted s p code (faultAt p code a s) := by
  have hform : faultAt p code a s = pairFault p code (s.set F.SPX_MISM.ADDR a p) := if_neg (by simp [hmig])
  have hst' : [0, 2, 6].contains ((s.set F.SPX_MISM.ADDR a p).get F.SPX_STAT.STATE p) = true := by
    rw [State.get_set_clear (by decide), hst]
    rfl
  have hready' : (s.set F.SPX_MISM.ADDR a p).pdReady (2 + p) = true := by
    refine (State.pdReady_of_rd (by omega) (set_quiet _ _ _ _ _ _ _ ?_)).trans hready
    simp only [Fld.addr, F.PD_STAT.ON, F.SPX_MISM.ADDR]
    omega
  have hresets : (s.set F.SPX_MISM.ADDR a p).get F.SPX_STAT.RESETS p = s.get F.SPX_STAT.RESETS p := State.get_set_clear (by decide) _ _
  rw [hform]
  refine ⟨?_, ?_⟩
  · rw [pairFault_get (by decide) hst' hready', State.get_set_self _ _ _ _ _ _ (by decide) (by decide)]
    rfl
  · have h := pairFault_faulted hcode hst' hready'
    exact ⟨h.lastCode, by rw [h.resets, hresets], h.empty, fun hn => h.resetting (by rw [hresets]; exact hn), fun hn => h.halted (by rw [hresets]; exact hn)⟩

/-! ### Records and their comparison (R407, R410, R413) -/

/-- The buffers with record `r` of core `c` behind the others of that core. -/
def PairSt.enter (x : PairSt) (c : Core) (r : PRec) : PairSt :=
  if c.val % 2 = 0 then { x with buf0 := x.buf0 ++ [r] } else { x with buf1 := x.buf1 ++ [r] }

theorem enterRec_of_lead {c : Core} {r : PRec} (hlead : leadOf ((s.pairSt (pairOf c)).enter c r) < 256) :
    enterRec c r s = (s.setPair (pairOf c) ((s.pairSt (pairOf c)).enter c r)).set F.SPX_DIAG.DEPTH_MAX
      (max (leadOf ((s.pairSt (pairOf c)).enter c r)) (s.get F.SPX_DIAG.DEPTH_MAX (pairOf c))) (pairOf c) :=
  if_neg (Nat.not_le.mpr hlead)

/-- A record that enters its buffer with room left changes the pair's buffers and DEPTH_MAX. -/
theorem enterRec_shows {c : Core} {r : PRec} (hlead : leadOf ((s.pairSt (pairOf c)).enter c r) < 256) :
    (enterRec c r s).pairSt (pairOf c) = (s.pairSt (pairOf c)).enter c r ∧
      RegsOnly [F.SPX_DIAG.DEPTH_MAX.addr (pairOf c) 0 0] s (enterRec c r s) ∧ (enterRec c r s).resp = s.resp := by
  rw [enterRec_of_lead hlead]
  exact ⟨(State.pairSt_set _ _ _ _ _ _ _).trans (State.pairSt_setPair _ _ _),
    (RegsOnly.of_regs (State.setPair_regs _ _ _)).set (List.mem_singleton_self _) _, by rw [State.set_resp, State.setPair_resp]⟩

theorem compares_of_checked (hst : s.get F.SPX_STAT.STATE p = 0) : compares s p = true := by simp [compares, hst]

theorem not_compares_of_state {k : Nat} (hst : s.get F.SPX_STAT.STATE p = k) (h0 : k ≠ 0) (h4 : k ≠ 4) : compares s p = false := by
  simp [compares, hst, h0, h4]

theorem outputStore_of_tcm {c : Core} {st : CoreStore} (hruns : coreRuns s c = true) (htcm : inTcm st.addr.toNat = true) (err : PairErr) (x : WriteCtx) :
    outputStore c st err x s = busWrite (.core c) st.addr.toNat st.size.val (st.value.toNat % 2 ^ (8 * st.size.val)) x s := by
  simp [outputStore, hruns, htcm]

theorem outputStore_of_checked {c : Core} {st : CoreStore} (hruns : coreRuns s c = true) (htcm : inTcm st.addr.toNat = false)
    (hst : s.get F.SPX_STAT.STATE (pairOf c) = 0) (x : WriteCtx) :
    outputStore c st .none x s = enterRec c (.out st.addr.toNat st.size.val (st.value.toNat % 2 ^ (8 * st.size.val))) s := by
  simp [outputStore, hruns, htcm, compares_of_checked hst, pairErr]

theorem outputStore_of_split {c : Core} {st : CoreStore} (hruns : coreRuns s c = true) (hst : s.get F.SPX_STAT.STATE (pairOf c) = 5)
    (err : PairErr) (x : WriteCtx) :
    outputStore c st err x s = busWrite (.core c) st.addr.toNat st.size.val (st.value.toNat % 2 ^ (8 * st.size.val)) x s := by
  simp [outputStore, hruns, not_compares_of_state hst (by decide) (by decide), hst]

theorem outputStore_of_unchecked {c : Core} {st : CoreStore} (hruns : coreRuns s c = true) (htcm : inTcm st.addr.toNat = false)
    (hst : s.get F.SPX_STAT.STATE (pairOf c) = 1) (err : PairErr) (x : WriteCtx) :
    outputStore c st err x s = if c.val % 2 = 0 then
      busWrite (.pair (Fin.ofNat 2 (pairOf c))) st.addr.toNat st.size.val (st.value.toNat % 2 ^ (8 * st.size.val)) x s else s := by
  simp [outputStore, hruns, htcm, not_compares_of_state hst (by decide) (by decide), hst, performRec]

theorem checkpoint_of_checked {c : Core} (hruns : coreRuns s c = true) (hst : s.get F.SPX_STAT.STATE (pairOf c) = 0) (r : PRec) :
    checkpoint c r s = enterRec c r s := by
  simp [checkpoint, hruns, compares_of_checked hst]

/-- The wait of a record pair enters LAG_MAX. -/
def lagNoted (p lag : Nat) (s : State) : State := s.set F.SPX_DIAG.LAG_MAX (max lag (s.get F.SPX_DIAG.LAG_MAX p)) p

theorem compareRec_of_different {r0 r1 : PRec} {b0 b1 : List PRec} (h0 : (s.pairSt p).buf0 = r0 :: b0) (h1 : (s.pairSt p).buf1 = r1 :: b1)
    (hsame : r0.same r1 = false) (lag : Nat) (x : WriteCtx) : compareRec p .none lag x s = faultAt p 0x0402 r0.addr (lagNoted p lag s) := by
  simp only [compareRec, h0, h1, pairErr, hsame, Bool.not_false, if_true]
  rfl

theorem compareRec_of_equal {r0 r1 : PRec} {b0 b1 : List PRec} (h0 : (s.pairSt p).buf0 = r0 :: b0) (h1 : (s.pairSt p).buf1 = r1 :: b1)
    (hsame : r0.same r1 = true) (hcheck : ∀ v g, r0 ≠ .check v g) (lag : Nat) (x : WriteCtx) : compareRec p .none lag x s =
      performRec p x r0 ((lagNoted p lag s).setPair p { s.pairSt p with buf0 := b0, buf1 := b1, halt := (s.pairSt p).halt - 1 }) := by
  cases r0 with
  | check v g => exact absurd rfl (hcheck v g)
  | out _ _ _ | done _ _ _ | forced _ =>
    simp only [compareRec, h0, h1, pairErr, hsame, Bool.not_true, Bool.false_eq_true, if_false]
    rfl

theorem execPairCompare_of_checked {q : Fin 2} (hst : s.get F.SPX_STAT.STATE q.val = 0) (hready : s.pdReady (2 + q.val) = true)
    (err : PairErr) (lag : Fin 2048) (x : WriteCtx) : exec (.pairCompare q err lag x) s = .next (compareRec q.val err lag.val x s) := by
  show execPairCompare q err lag x s = _
  simp only [execPairCompare, hready, compares_of_checked hst, Bool.not_true, Bool.false_eq_true, if_false, Bool.true_or, if_true]

/-! ### Inputs and events (R408, R409, R411) -/

theorem inputLoad_of_checked {c : Core} {addr : Word} {size : Fin 9} {synd : Syndrome} (hruns : coreRuns s c = true)
    (htcm : inTcm addr.toNat = false) (hst : s.get F.SPX_STAT.STATE (pairOf c) = 0) (hstall : stalls s c addr.toNat size.val = false) :
    inputLoad c (.load addr size synd) s =
      pairInput c addr.toNat size.val (busRead (.pair (Fin.ofNat 2 (pairOf c))) addr.toNat size.val synd) s := by
  simp [inputLoad, hruns, htcm, hst, compares_of_checked hst, hstall]

theorem pairInput_of_first {c : Core} {a n : Nat} {read : State → State} (hins : (s.pairSt (pairOf c)).ins = []) :
    pairInput c a n read s = (read s).setPair (pairOf c)
      { (read s).pairSt (pairOf c) with ins := [(a, n, (read s).resp)], lead1 := c.val % 2 == 1 } := by
  simp only [pairInput, hins]

theorem pairInput_of_second {c : Core} {a n : Nat} {ans : BusResp} {rest : List (Nat × Nat × BusResp)} {read : State → State}
    (hins : (s.pairSt (pairOf c)).ins = (a, n, ans) :: rest) (hlead : (s.pairSt (pairOf c)).lead1 ≠ (c.val % 2 == 1)) :
    pairInput c a n read s = (s.setPair (pairOf c) { s.pairSt (pairOf c) with ins := rest }).answer ans := by
  have hlead' : ((s.pairSt (pairOf c)).lead1 == (c.val % 2 == 1)) = false := beq_eq_false_iff_ne.mpr hlead
  simp only [pairInput, hins, hlead', Bool.false_eq_true, if_false, beq_self_eq_true, Bool.and_self, Bool.not_true, Bool.and_false]

theorem execPairLagTimeout_of_checked {q : Fin 2} {r1 : PRec} {b1 : List PRec} (hst : s.get F.SPX_STAT.STATE q.val = 0)
    (h0 : (s.pairSt q.val).buf0 = []) (h1 : (s.pairSt q.val).buf1 = r1 :: b1) :
    execPairLagTimeout q s = .next (faultAt q.val 0x0403 r1.addr s) := by
  simp only [execPairLagTimeout, h0, h1, List.length_nil, Nat.zero_le, if_true, Nat.zero_min, List.getElem?_cons_zero, compares_of_checked hst]

/-- The other core of a pair. -/
def otherCore (c : Core) : Nat := 2 * pairOf c + (1 - c.val % 2)

theorem execPairEventDelivery_of_first {c : Core} {ev : Fin 256} {count : Nat} (hruns : coreRuns s c = true)
    (hst : s.get F.SPX_STAT.STATE (pairOf c) ≠ 5)
    (hnone : (s.pairSt (pairOf c)).events.find? (fun e => e.1 == 4 * ev.val + otherCore c) = none) :
    execPairEventDelivery c ev count s = .next (s.setPair (pairOf c)
      { s.pairSt (pairOf c) with events := (s.pairSt (pairOf c)).events ++ [(4 * ev.val + c.val, count)] }) := by
  rw [otherCore] at hnone
  simp [execPairEventDelivery, hruns, hst, hnone]

theorem execPairEventDelivery_of_second {c : Core} {ev : Fin 256} {count : Nat} {e : Nat × Nat} (hruns : coreRuns s c = true)
    (hst : s.get F.SPX_STAT.STATE (pairOf c) ≠ 5)
    (hsome : (s.pairSt (pairOf c)).events.find? (fun e => e.1 == 4 * ev.val + otherCore c) = some e) (hcount : e.2 = count) :
    execPairEventDelivery c ev count s = .next (s.setPair (pairOf c)
      { s.pairSt (pairOf c) with events := (s.pairSt (pairOf c)).events.erase e }) := by
  rw [otherCore] at hsome
  simp [execPairEventDelivery, hruns, hst, hsome, hcount]

/-! ### The reset's end and the comparator's own test (R414, R415, R417, R419) -/

theorem readWord_ok {k : Nat} {synd : Syndrome} (hk : s.poisoned k = false) (hs : synd ≠ .multi) : ∃ u, readWord k synd s = (.ok, u) := by
  cases synd with
  | clean => exact ⟨_, readWord_of_clean hk⟩
  | single => exact ⟨_, if_neg (by simp [hk])⟩
  | multi => exact absurd rfl hs

/-- The address a pair's image is loaded from. -/
def pairImageAt (s : State) (p : Nat) : Nat :=
  ((s.sys.loader.descs.find? (fun d => d.type == 4 && d.inst == p)).map (fun d => d.loadAddr)).getD 0x10000000

theorem pairResetDone_of_resetting (hready : s.pdReady (2 + p) = true) (hst : s.get F.SPX_STAT.STATE p = 4) (hmig : SMap.get 0 s.upd.migr p = 0)
    (synd : Syndrome) : pairResetDone p synd s = match readWord (pairImageAt s p) synd s with
      | (.bad, s) => issue 0x0409 0 (s.set F.SPX_STAT.STATE 3 p)
      | (.ok, s) => raise 18 (((refillTcms p (pairImage s p) s).setPair p {}).set F.SPX_STAT.STATE 0 p) := by
  have hgo : ¬ ((!s.pdReady (2 + p) || s.get F.SPX_STAT.STATE p != 4 || SMap.get 0 s.upd.migr p != 0) = true) := by
    rw [hready, hst, hmig]
    simp
  exact if_neg hgo

theorem pairResetDone_of_read (hready : s.pdReady (2 + p) = true) (hst : s.get F.SPX_STAT.STATE p = 4) (hmig : SMap.get 0 s.upd.migr p = 0)
    {synd : Syndrome} (hk : s.poisoned (pairImageAt s p) = false) (hs : synd ≠ .multi) :
    (pairResetDone p synd s).get F.SPX_STAT.STATE p = 0 ∧ (pairResetDone p synd s).pairSt p = {} := by
  obtain ⟨u, hread⟩ := readWord_ok hk hs
  rw [pairResetDone_of_resetting hready hst hmig, hread]
  refine ⟨?_, ?_⟩
  · rw [raise_get_fabric (by decide), State.get_set_zero _ _ _ _ _ (by decide) (by decide)]
  · exact (State.pairSt_of_spx (raise_spx _ _) p).trans ((State.pairSt_set _ _ _ _ _ _ p).trans (State.pairSt_setPair _ _ _))

theorem pairResetDone_of_lost (hready : s.pdReady (2 + p) = true) (hst : s.get F.SPX_STAT.STATE p = 4) (hmig : SMap.get 0 s.upd.migr p = 0)
    (hk : s.poisoned (pairImageAt s p) = true) (synd : Syndrome) : pairResetDone p synd s =
      issue 0x0409 0 ((s.bump F.MEMC_STAT.POISON_READS F.MEMC_STAT.SAT).set F.SPX_STAT.STATE 3 p) := by
  rw [pairResetDone_of_resetting hready hst hmig, readWord_of_poisoned hk]

/-- A checked pair declared unchecked: its state and code, without core 1's records. -/
def uncheckTold (p code : Nat) (s : State) : State :=
  let s := s.setPair p { s.pairSt p with buf1 := [], halt := 0, sync0 := [], sync1 := [] }
  raise 17 (issue code 2 ((s.set F.SPX_STAT.STATE 1 p).set F.SPX_STAT.LAST_CODE code p))

theorem pairUncheck_of_checked (hst : s.get F.SPX_STAT.STATE p = 0) (hready : s.pdReady (2 + p) = true) (code : Nat) :
    pairUncheck p code s = if (uncheckTold p code s).sys.linkUp then
      (uncheckTold p code s).setKln { (uncheckTold p code s).kln with unchk := putBit (uncheckTold p code s).kln.unchk p true }
      else uncheckTold p code s := by
  have hgo : ¬ ((!s.pdReady (2 + p) || !([0, 2, 6].contains (s.get F.SPX_STAT.STATE p))) = true) := by
    rw [hready, hst]
    simp
  exact if_neg hgo

theorem flushCore0_of_empty (h : (s.pairSt p).buf0 = []) : flushCore0 p s = s.setPair p { s.pairSt p with buf0 := [], halt := 0 } := by
  rw [flushCore0, h]
  rfl

theorem unchecked_of_empty {code : Nat} (hcode : code < 65536) (hst : s.get F.SPX_STAT.STATE p = 0) (hready : s.pdReady (2 + p) = true)
    (hbuf : (s.pairSt p).buf0 = []) : (unchecked p code s).get F.SPX_STAT.STATE p = 1 ∧ (unchecked p code s).get F.SPX_STAT.LAST_CODE p = code ∧
      ((unchecked p code s).pairSt p).buf1 = [] ∧ (unchecked p code s).sys.lastFault = code := by
  have hkeeps : ∀ {β : Type} (π : State → β), (∀ (u : State) (k : KlnSt), π (u.setKln k) = π u) → π (pairUncheck p code s) = π (uncheckTold p code s) :=
    fun π hπ => by
      rw [pairUncheck_of_checked hst hready]
      exact ite_keeps (hπ _ _)
  have hregs := hkeeps (·.regs) (fun _ _ => rfl)
  have hspx := hkeeps (·.spx) (fun _ _ => rfl)
  have hpair : (uncheckTold p code s).pairSt p = { s.pairSt p with buf1 := [], halt := 0, sync0 := [], sync1 := [] } :=
    (State.pairSt_of_spx ((raise_spx _ _).trans (issue_spx _ _ _)) p).trans ((State.pairSt_set _ _ _ _ _ _ p).trans ((State.pairSt_set _ _ _ _ _ _ p).trans
      (State.pairSt_setPair _ _ _)))
  have hpair' := (State.pairSt_of_spx hspx p).trans hpair
  have hform := flushCore0_of_empty (s := pairUncheck p code s) (p := p) (by rw [hpair']; exact hbuf)
  rw [unchecked, hform]
  refine ⟨?_, ?_, ?_, ?_⟩
  · rw [State.get_setPair, State.get_of_regs hregs, uncheckTold, raise_get_fabric (by decide), issue_get, State.get_set_clear (by decide),
      State.get_set_one _ _ _ _ _ (by decide) (by decide)]
  · rw [State.get_setPair, State.get_of_regs hregs, uncheckTold, raise_get_fabric (by decide), issue_get, State.get_set_fits (by decide) hcode]
  · rw [State.pairSt_setPair, hpair']
  · rw [State.setPair_sys, hkeeps (·.sys) (fun _ _ => rfl), uncheckTold, raise_sys, issue_lastFault]

end

/-- Settles O36: a core's records and inputs are its row's own branch, a mismatch or a lag is a fault of the checked pair, and the reset's
end and the comparator's own test leave what they write. -/
theorem lockstepPairs : Obligations.LockstepPairs := by
  unfold Obligations.LockstepPairs
  intro s c st x p r0 r1 b0 b1 lag addr size synd value sig ev count
  extract_lets q y z put a v checked faulted other at_
  have hlag : ∀ {f : Fld}, F.SPX_DIAG.LAG_MAX.Clear f → (lagNoted p.val lag.val s).get f p.val = s.get f p.val := fun hf => State.get_set_clear hf _ _
  have hwidth : max lag.val (s.get F.SPX_DIAG.LAG_MAX p.val) < 2 ^ (F.SPX_DIAG.LAG_MAX.hi + 1 - F.SPX_DIAG.LAG_MAX.lo) :=
    Nat.max_lt.mpr ⟨lag.isLt, State.get_lt _ _ _ _ _⟩
  have hfaulted : ∀ {u t : State} {code a : Nat}, u.get F.SPX_STAT.RESETS p.val = s.get F.SPX_STAT.RESETS p.val →
      t.get F.SPX_MISM.ADDR p.val = a % 2 ^ 32 ∧ PairFaulted u p.val code t → faulted code a t := fun hresets ⟨haddr, h⟩ =>
    ⟨haddr, h.lastCode, by rw [h.resets, hresets], h.empty, fun hn => h.resetting (by rw [hresets]; exact hn), fun hn => h.halted (by rw [hresets]; exact hn)⟩
  refine ⟨fun hruns htcm hst hlead => ?store, fun hruns hport => ?own, fun hruns htcm hst => ?uncheckedStore,
    fun ⟨hst, hmig, hready⟩ h0 h1 hsame => ⟨fun a n v hr => ?output, fun g hr => ?forcedPair⟩, fun ⟨hst, hmig, hready⟩ h0 h1 hsame => ?mismatch,
    fun ⟨hst, hmig, hready⟩ h0 h1 => ?lag, fun hruns htcm hst hstall hins => ?first, fun ans rest hruns htcm hst hstall hins hne => ?second,
    fun hruns hst => ?csr, fun hruns hst hlead => ?check, fun hruns hst hlead => ?forced, fun hruns hst hnone => ?eventFirst,
    fun hruns hst hsome => ?eventSecond, fun hready hst hmig hk hs => ?reset, fun hready hst hmig hk => ?lost,
    fun hready hst => ⟨?selfTest, fun hbuf => ?selfTestFailed⟩⟩
  case store =>
    have hrun : exec (.pairOutputStore c st .none x) s = .next (enterRec c (.out a st.size.val v) s) :=
      congrArg Host.Outcome.next (outputStore_of_checked hruns htcm hst x)
    obtain ⟨hpair, honly, hresp⟩ := enterRec_shows (c := c) (r := .out a st.size.val v) (s := s) hlead
    exact ⟨_, hrun, hpair, enterRec_mem _ _ _, hresp, honly, execPairOutputStore_mask rfl rfl rfl rfl rfl rfl rfl rfl rfl rfl rfl rfl rfl rfl rfl rfl rfl rfl rfl rfl rfl rfl rfl _ _ _ _ s hrun⟩
  case own =>
    refine ⟨_, rfl, ?_⟩
    rcases hport with htcm | hst
    · exact outputStore_of_tcm hruns htcm .none x
    · exact outputStore_of_split hruns hst .none x
  case uncheckedStore => exact ⟨_, rfl, outputStore_of_unchecked hruns htcm hst .none x⟩
  case output =>
    subst hr
    refine ⟨_, execPairCompare_of_checked hst hready _ _ _, ?_⟩
    have hport : Fin.ofNat 2 p.val = p := Fin.ext (Nat.mod_eq_of_lt p.isLt)
    rw [compareRec_of_equal h0 h1 hsame (fun _ _ => PRec.noConfusion), performRec, hport]
    rfl
  case forcedPair =>
    subst hr
    have hrun := (execPairCompare_of_checked hst hready .none lag x).trans
      (congrArg Host.Outcome.next (compareRec_of_equal h0 h1 hsame (fun _ _ => PRec.noConfusion) _ _))
    refine ⟨_, hrun, State.pairSt_setPair _ _ _, ?_, ?_, ?_, execPairCompare_mask rfl rfl rfl rfl rfl rfl rfl rfl rfl rfl rfl rfl rfl rfl rfl rfl rfl rfl rfl rfl rfl rfl rfl _ _ _ _ s hrun⟩
    · exact (State.get_setPair _ _ _ _ _ _ _).trans (State.get_set_fits (by decide) hwidth _ _ _ _)
    · exact (setPair_mem _ _ _).trans (set_mem _ _ _ _ _ _)
    · exact ((RegsOnly.of_regs rfl).set (List.mem_singleton_self _) _).trans (RegsOnly.of_regs (State.setPair_regs _ _ _))
  case mismatch =>
    have hrun := (execPairCompare_of_checked hst hready .none lag x).trans (congrArg Host.Outcome.next (compareRec_of_different h0 h1 hsame _ _))
    refine ⟨_, hrun, hfaulted (hlag (by decide)) (faultAt_faulted (by decide) ((hlag (by decide)).trans hst) ?_ ?_ _), ?_,
      execPairCompare_mask rfl rfl rfl rfl rfl rfl rfl rfl rfl rfl rfl rfl rfl rfl rfl rfl rfl rfl rfl rfl rfl rfl rfl _ _ _ _ s hrun⟩
    · rwa [lagNoted, State.set_upd]
    · exact (State.pdReady_of_rd (by omega) (set_quiet _ _ _ _ _ _ _ (by simp only [Fld.addr, F.PD_STAT.ON, F.SPX_DIAG.LAG_MAX]; omega))).trans hready
    · rw [faultAt_mem, lagNoted, set_mem]
  case lag =>
    have hrun : exec (.pairLagTimeout p) s = .next (faultAt p.val 0x0403 r1.addr s) :=
      execPairLagTimeout_of_checked hst h0 h1
    exact ⟨_, hrun, hfaulted rfl (faultAt_faulted (by decide) hst hmig hready _), execPairLagTimeout_mask rfl rfl rfl rfl rfl rfl rfl rfl rfl rfl _ s hrun⟩
  case first =>
    refine ⟨_, rfl, ?_⟩
    exact (inputLoad_of_checked hruns htcm hst hstall).trans (pairInput_of_first hins)
  case second =>
    refine ⟨_, rfl, ?_⟩
    exact (inputLoad_of_checked hruns htcm hst hstall).trans (pairInput_of_second hins hne)
  case csr => exact ⟨_, rfl, by simp [inputLoad, hruns, show s.get F.SPX_STAT.STATE (pairOf c) = 5 from hst]⟩
  case check =>
    have hrun : exec (.checkpointWrite c value sig) s = .next (enterRec c (.check value.toNat sig.toNat) s) :=
      congrArg Host.Outcome.next (checkpoint_of_checked hruns hst _)
    obtain ⟨hpair, honly, -⟩ := enterRec_shows (c := c) (r := .check value.toNat sig.toNat) (s := s) hlead
    exact ⟨_, hrun, hpair, honly, execCheckpointWrite_mask rfl rfl rfl rfl rfl rfl rfl rfl rfl rfl _ _ _ s hrun⟩
  case forced =>
    have hrun : exec (.forcedCheckpoint c sig) s = .next (enterRec c (.forced sig.toNat) s) :=
      congrArg Host.Outcome.next (checkpoint_of_checked hruns hst _)
    obtain ⟨hpair, honly, -⟩ := enterRec_shows (c := c) (r := .forced sig.toNat) (s := s) hlead
    exact ⟨_, hrun, hpair, honly, execForcedCheckpoint_mask rfl rfl rfl rfl rfl rfl rfl rfl rfl rfl _ _ s hrun⟩
  case eventFirst => exact ⟨_, execPairEventDelivery_of_first hruns hst hnone, rfl⟩
  case eventSecond => exact ⟨_, execPairEventDelivery_of_second hruns hst hsome rfl, rfl⟩
  case reset =>
    have hrun : exec (.pairResetDone p synd) s = .next (pairResetDone p.val synd s) := rfl
    obtain ⟨hstate, hpair⟩ := pairResetDone_of_read hready hst hmig hk hs
    exact ⟨_, hrun, hstate, hpair, execPairResetDone_mask rfl rfl rfl rfl rfl rfl _ _ s hrun⟩
  case lost =>
    have hrun : exec (.pairResetDone p synd) s = .next _ := congrArg Host.Outcome.next (pairResetDone_of_lost hready hst hmig hk synd)
    refine ⟨_, hrun, ?_, issue_lastFault _ _ _, ?_, execPairResetDone_mask rfl rfl rfl rfl rfl rfl _ _ s hrun⟩
    · rw [issue_get, State.get_set_fits (by decide) (by decide)]
    · rw [issue_mem, set_mem, bump_mem]
  case selfTest => exact ⟨_, rfl, by simp [hready, hst]⟩
  case selfTestFailed =>
    have hrun : exec (.comparatorSelfTest p false) s = .next (unchecked p.val 0x0404 s) := congrArg Host.Outcome.next (by simp [hready, hst])
    obtain ⟨hstate, hcode, hb1, hfault⟩ := unchecked_of_empty (code := 0x0404) (by decide) hst hready hbuf
    exact ⟨_, hrun, hstate, hcode, hb1, hfault, execComparatorSelfTest_mask rfl rfl rfl rfl rfl rfl rfl rfl rfl rfl rfl rfl rfl rfl rfl rfl rfl rfl rfl rfl rfl rfl rfl _ _ s hrun⟩

end Sys2Proof.Machine

/-! ## Debug halts, the fall of the level and the JTAG port (R494 to R504). -/

namespace Sys2Proof.Machine
open Sys2Proof

section
variable {s t : State} {p b : Nat} {f g : Fld}

theorem State.bit_setBit (hf : f.hi < 32 ∧ f.lo ≤ f.hi) (hb : b < f.hi + 1 - f.lo) (s : State) (v : Bool) (j : Nat) :
    (s.setBit f b v).bit f j = if j = b then v else s.bit f j := by
  split
  · rename_i h
    rw [h, State.bit_setBit_self _ _ _ _ _ _ _ hb hf.1]
  · rename_i h
    exact State.bit_setBit_of_ne h hf _ _

theorem State.get_setBit_clear (h : f.Clear g) (s : State) (v : Bool) : (s.setBit f b v).get g = s.get g :=
  State.get_set_clear h _ _

theorem State.bit_setBit_clear (h : f.Clear g) (s : State) (v : Bool) (j : Nat) : (s.setBit f b v).bit g j = s.bit g j := by
  rw [State.bit, State.get_setBit_clear h, State.bit]

theorem State.bit_of_get (h : t.get f = s.get f) (j : Nat) : t.bit f j = s.bit f j := by rw [State.bit, h, State.bit]

theorem State.bit_answer (s : State) (r : BusResp) (f : Fld) (j : Nat) : (s.answer r).bit f j = s.bit f j :=
  State.bit_of_get (State.get_answer _ _ _ _ _ _) j

theorem ite_true_eq_or (k c : Fin 4) (b : Bool) : (if k.val = c.val then true else b) = (b || k == c) := by
  by_cases h : k = c
  · simp [h]
  · simp [h, Fin.val_ne_of_ne h]

theorem raise_bit {n : Nat} (h : n < 256 ∧ 0x30030000 ≤ f.base) (s : State) (j : Nat) : (raise n s).bit f j = s.bit f j :=
  State.bit_of_get (raise_get_fabric h _ _ _ _) j

/-! ### The fall of the level (R500) -/

theorem resumePair_get (hf : F.SPX_STAT.STATE.addr p 0 0 ≠ f.addr 0 0 0) (s : State) : (resumePair p s).get f = s.get f := by
  unfold resumePair
  refine ite_keeps (p := (·.get f)) ?_
  rw [State.get_set_addr _ _ _ _ _ _ _ _ _ _ hf.symm, State.get_setPair]

theorem releaseHalts_get (hf : f.base = 0x30150000 ∧ f.s1 = 0) (s : State) : (releaseHalts s).get f = s.get f := by
  have haddr : f.addr 0 0 0 = 0x30150000 := by simp [Fld.addr, hf.1]
  have hne : ∀ {h : Fld} {a : Nat}, h.addr a 0 0 ≠ 0x30150000 → f.addr 0 0 0 ≠ h.addr a 0 0 := fun ha => by rw [haddr]; exact ha.symm
  unfold releaseHalts
  split
  · rfl
  · dsimp only
    rw [raise_get_fabric ⟨by decide, by omega⟩, State.get_set_addr _ _ _ _ _ _ _ _ _ _ (hne (by decide)),
      State.get_set_addr _ _ _ _ _ _ _ _ _ _ (hne (by decide)), State.get_set_addr _ _ _ _ _ _ _ _ _ _ (hne (by decide)),
      State.get_set_addr _ _ _ _ _ _ _ _ _ _ (hne (by decide)), resumePair_get (hne (by decide)).symm, resumePair_get (hne (by decide)).symm]

theorem releaseHalts_tnd (s : State) : (releaseHalts s).tnd = s.tnd :=
  tnd_of_mask (K := { regs := true, fab := true, spx := true }) rfl (releaseHalts_mask rfl rfl rfl s)

theorem xcpEnd_get (hf : 0x30030000 ≤ f.base) (s : State) : (xcpEnd s).get f = s.get f := by
  unfold xcpEnd
  split
  · rw [raise_get_fabric ⟨by decide, hf⟩]
    rfl
  · rfl

theorem xcpEnd_tnd (s : State) : (xcpEnd s).tnd = s.tnd :=
  tnd_of_mask (K := { regs := true, fab := true, xcp := true }) rfl (xcpEnd_mask rfl rfl rfl s)

theorem xcpEnd_unconnected (s : State) : (xcpEnd s).xcp.connected = false := by
  cases h : s.xcp.connected with
  | true => rw [xcpEnd_xcp h]; rfl
  | false =>
    rw [xcpEnd, if_neg (by simp [h])]
    exact h

/-- What the level's fall to `level` for `cause` shows. -/
structure Revoked (level cause : Nat) (t : State) : Prop where
  level : t.dbgLevel = level
  left : t.get F.DBG_STAT.LEFT = 0
  revoked : t.get F.DBG_STAT.REVOKED = 1
  cause : t.get F.DBG_STAT.REVOKE_CAUSE = cause
  expiry : t.tnd.expiry = false
  closed : t.xcp.connected = false

/-- No grant's lifetime runs. -/
def State.ungranted (s : State) : State := { s with tnd := { s.tnd with expiry := false } }

theorem State.get_ungranted (s : State) (f : Fld) : s.ungranted.get f = s.get f := rfl

theorem State.tnd_ungranted (s : State) : s.ungranted.tnd = { s.tnd with expiry := false } := rfl

/-- The level has fallen, before halts and the XCP session end. -/
def levelFallen (cause level : Nat) (s : State) : State :=
  ((((s.set F.DBG_STAT.LEVEL level).set F.DBG_STAT.LEFT 0).set F.DBG_STAT.REVOKED 1).set F.DBG_STAT.REVOKE_CAUSE cause).ungranted

theorem levelFallen_get (cause level : Nat) (s : State) : (levelFallen cause level s).get f =
    ((((s.set F.DBG_STAT.LEVEL level).set F.DBG_STAT.LEFT 0).set F.DBG_STAT.REVOKED 1).set F.DBG_STAT.REVOKE_CAUSE cause).get f :=
  State.get_ungranted _ _

theorem levelFallen_tnd (cause level : Nat) (s : State) : (levelFallen cause level s).tnd = { s.tnd with expiry := false } := by
  rw [levelFallen, State.tnd_ungranted, State.set_tnd, State.set_tnd, State.set_tnd, State.set_tnd]

theorem raise_tnd (n : Nat) (s : State) : (raise n s).tnd = s.tnd := by rw [raise_eq]

theorem debugRevoke_of_above {cause level : Nat} (h : level < s.dbgLevel) :
    debugRevoke cause level s = raise 50 (xcpEnd (releaseHalts (levelFallen cause level s))) := if_neg (by omega)

theorem debugRevoke_get {cause level : Nat} (h : level < s.dbgLevel) (hf : f.base = 0x30150000 ∧ f.s1 = 0) :
    (debugRevoke cause level s).get f = (levelFallen cause level s).get f := by
  rw [debugRevoke_of_above h, raise_get_fabric ⟨by decide, by omega⟩, xcpEnd_get (by omega), releaseHalts_get hf]

theorem debugRevoke_revoked {cause level : Nat} (hcause : cause < 16) (hlevel : level < 4) (h : level < s.dbgLevel) :
    Revoked level cause (debugRevoke cause level s) := by
  refine ⟨?_, ?_, ?_, ?_, ?_, ?_⟩
  · rw [State.dbgLevel, debugRevoke_get h (by decide), levelFallen_get, State.get_set_clear (by decide), State.get_set_clear (by decide),
      State.get_set_clear (by decide), State.get_set_fits (by decide) hlevel]
  · rw [debugRevoke_get h (by decide), levelFallen_get, State.get_set_clear (by decide), State.get_set_clear (by decide),
      State.get_set_zero _ _ _ _ _ (by decide) (by decide)]
  · rw [debugRevoke_get h (by decide), levelFallen_get, State.get_set_clear (by decide), State.get_set_one _ _ _ _ _ (by decide) (by decide)]
  · rw [debugRevoke_get h (by decide), levelFallen_get, State.get_set_fits (by decide) hcause]
  · rw [debugRevoke_of_above h, raise_tnd, xcpEnd_tnd, releaseHalts_tnd, levelFallen_tnd]
  · rw [debugRevoke_of_above h, raise_xcp, xcpEnd_unconnected]

/-! ### Halts of a core (R412, R502) -/

theorem haltCore_halt {c : Nat} (hc : c < 4) (v : Bool) (s : State) (j : Nat) :
    (haltCore c v s).bit F.DBG_HALT.HALT j = if j = c then v else s.bit F.DBG_HALT.HALT j := by
  rw [haltCore, State.bit_setBit_clear (by decide), State.bit_setBit (by decide) (by simpa [F.DBG_HALT.HALT] using hc)]

theorem haltCore_halted {c : Nat} (hc : c < 4) (v : Bool) (s : State) (j : Nat) :
    (haltCore c v s).bit F.DBG_HALT.HALTED j = if j = c then v else s.bit F.DBG_HALT.HALTED j := by
  rw [haltCore, State.bit_setBit (by decide) (by simpa [F.DBG_HALT.HALTED] using hc), State.bit_setBit_clear (by decide)]

theorem State.get_setBit_addr {i : Nat} (h : g.addr i 0 0 ≠ f.addr 0 0 0) (s : State) (v : Bool) : (s.setBit f b v).get g i = s.get g i :=
  State.get_set_addr _ _ _ _ _ _ _ _ _ _ h

theorem haltCore_spx (c : Nat) (v : Bool) (s : State) : (haltCore c v s).spx = s.spx := by
  rw [haltCore, State.setBit_spx, State.setBit_spx]

/-- Both cores of pair `p` are halted, for a halt asked of core `c`. -/
def pairHaltShown (c p : Nat) (s : State) : State :=
  raise 55 ((haltCore (2 * p + 1) true (haltCore (2 * p) true s)).setBit F.DBG_HALT.HALT (c / 2 * 2 + (1 - c % 2)) false)

theorem coreHalt_of_split {c : Nat} (hready : s.pdReady (2 + c / 2) = true) (hhalt : s.bit F.DBG_HALT.HALT c = false)
    (hst : s.get F.SPX_STAT.STATE (c / 2) = 5) : coreHalt c s = raise 55 (haltCore c true s) := by
  simp [coreHalt, hready, hhalt, hst]

theorem coreHalt_of_checked {c : Nat} (hready : s.pdReady (2 + c / 2) = true) (hhalt : s.bit F.DBG_HALT.HALT c = false)
    (hst : s.get F.SPX_STAT.STATE (c / 2) = 0) : coreHalt c s = pairHaltShown c (c / 2) ((s.setPair (c / 2) { s.pairSt (c / 2) with
      halt := min (s.pairSt (c / 2)).buf0.length (s.pairSt (c / 2)).buf1.length }).set F.SPX_STAT.STATE 6 (c / 2)) := by
  simp only [coreHalt, hready, hhalt, hst, Bool.not_true, Bool.or_self, Bool.false_eq_true, if_false]
  rfl

theorem pairHaltShown_bits (c : Fin 4) (s : State) :
    (pairHaltShown c.val (c.val / 2) s).bit F.DBG_HALT.HALT c.val = true ∧
    (pairHaltShown c.val (c.val / 2) s).bit F.DBG_HALT.HALT (2 * (c.val / 2) + (1 - c.val % 2)) = false ∧
    (pairHaltShown c.val (c.val / 2) s).bit F.DBG_HALT.HALTED c.val = true ∧
    (pairHaltShown c.val (c.val / 2) s).bit F.DBG_HALT.HALTED (2 * (c.val / 2) + (1 - c.val % 2)) = true := by
  have hc := c.isLt
  have hpartner : c.val / 2 * 2 + (1 - c.val % 2) < 4 := by omega
  have hhalt : ∀ j, (pairHaltShown c.val (c.val / 2) s).bit F.DBG_HALT.HALT j = if j = c.val / 2 * 2 + (1 - c.val % 2) then false else
      if j = 2 * (c.val / 2) + 1 then true else if j = 2 * (c.val / 2) then true else s.bit F.DBG_HALT.HALT j := fun j => by
    rw [pairHaltShown, raise_bit (by decide), State.bit_setBit (by decide) (by simpa [F.DBG_HALT.HALT] using hpartner), haltCore_halt (by omega),
      haltCore_halt (by omega)]
  have hhalted : ∀ j, (pairHaltShown c.val (c.val / 2) s).bit F.DBG_HALT.HALTED j =
      if j = 2 * (c.val / 2) + 1 then true else if j = 2 * (c.val / 2) then true else s.bit F.DBG_HALT.HALTED j := fun j => by
    rw [pairHaltShown, raise_bit (by decide), State.bit_setBit_clear (by decide), haltCore_halted (by omega), haltCore_halted (by omega)]
  have hown : c.val = 2 * (c.val / 2) + 1 ∨ c.val = 2 * (c.val / 2) := by omega
  refine ⟨?_, ?_, ?_, ?_⟩
  · rw [hhalt, if_neg (by omega)]
    rcases hown with h | h
    · rw [if_pos h]
    · rw [if_pos h, ite_self]
  · rw [hhalt, if_pos (by omega)]
  · rw [hhalted]
    rcases hown with h | h
    · rw [if_pos h]
    · rw [if_pos h, ite_self]
  · have hother : 2 * (c.val / 2) + (1 - c.val % 2) = 2 * (c.val / 2) + 1 ∨ 2 * (c.val / 2) + (1 - c.val % 2) = 2 * (c.val / 2) := by omega
    rw [hhalted]
    rcases hother with h | h
    · rw [if_pos h]
    · rw [if_pos h, ite_self]

theorem pairHaltShown_state (c q : Nat) (s : State) : (pairHaltShown c q s).get F.SPX_STAT.STATE q = s.get F.SPX_STAT.STATE q := by
  have hne : F.SPX_STAT.STATE.addr q 0 0 ≠ 0x30150004 := by simp only [Fld.addr, F.SPX_STAT.STATE]; omega
  rw [pairHaltShown, raise_get_fabric (by decide), State.get_setBit_addr hne, haltCore, State.get_setBit_addr hne, State.get_setBit_addr hne,
    haltCore, State.get_setBit_addr hne, State.get_setBit_addr hne]

theorem pairHaltShown_pairSt (c q : Nat) (s : State) : (pairHaltShown c q s).pairSt q = s.pairSt q := by
  refine State.pairSt_of_spx ?_ q
  rw [pairHaltShown, raise_spx, State.setBit_spx, haltCore_spx, haltCore_spx]

/-! ### A core runs again (R412) -/

theorem coreResume_of_split {c : Nat} (hhalt : s.bit F.DBG_HALT.HALT c = true) (hst : s.get F.SPX_STAT.STATE (c / 2) = 5) :
    coreResume c s = raise 55 (haltCore c false s) := by
  have hne : F.SPX_STAT.STATE.addr (c / 2) 0 0 ≠ 0x30150004 := by simp only [Fld.addr, F.SPX_STAT.STATE]; omega
  have hst' : (s.setBit F.DBG_HALT.HALT c false).get F.SPX_STAT.STATE (c / 2) = 5 := (State.get_setBit_addr hne _ _).trans hst
  rw [coreResume, if_neg (by simp [hhalt])]
  exact if_pos hst'

/-- A halted pair goes on: its cores' bits clear and it resynchronises. -/
def pairResumed (p : Nat) (s : State) : State :=
  raise 55 (resumePair p ((s.setBit F.DBG_HALT.HALTED (2 * p) false).setBit F.DBG_HALT.HALTED (2 * p + 1) false))

theorem coreResume_of_pair {c : Fin 4} (hhalt : s.bit F.DBG_HALT.HALT c.val = true)
    (hother : s.bit F.DBG_HALT.HALT (2 * (c.val / 2) + (1 - c.val % 2)) = false) (hst : s.get F.SPX_STAT.STATE (c.val / 2) = 6) :
    coreResume c.val s = pairResumed (c.val / 2) (s.setBit F.DBG_HALT.HALT c.val false) := by
  have hc := c.isLt
  have hne : F.SPX_STAT.STATE.addr (c.val / 2) 0 0 ≠ 0x30150004 := by simp only [Fld.addr, F.SPX_STAT.STATE]; omega
  have hst' : (s.setBit F.DBG_HALT.HALT c.val false).get F.SPX_STAT.STATE (c.val / 2) = 6 := (State.get_setBit_addr hne _ _).trans hst
  have hclear : ∀ j, j = c.val ∨ j = 2 * (c.val / 2) + (1 - c.val % 2) → (s.setBit F.DBG_HALT.HALT c.val false).bit F.DBG_HALT.HALT j = false := fun j hj => by
    rw [State.bit_setBit (by decide) hc]
    split
    · rfl
    · rename_i hne
      rw [hj.resolve_left hne, hother]
  rw [coreResume, if_neg (by simp [hhalt])]
  refine (if_neg (by rw [hst']; decide)).trans (if_neg ?_)
  rw [hclear (2 * (c.val / 2)) (by omega), hclear (2 * (c.val / 2) + 1) (by omega)]
  decide

theorem resumePair_of_halted (hready : s.pdReady (2 + p) = true) (hst : s.get F.SPX_STAT.STATE p = 6) : resumePair p s =
    (s.setPair p { s.pairSt p with buf1 := [], sync0 := [], sync1 := [], halt := (s.pairSt p).buf0.length }).set F.SPX_STAT.STATE 2 p :=
  if_pos (by simp [hready, hst])

theorem pairResumed_shows (hp : p < 2) (hready : s.pdReady (2 + p) = true) (hst : s.get F.SPX_STAT.STATE p = 6) :
    (pairResumed p s).get F.SPX_STAT.STATE p = 2 ∧ ((pairResumed p s).pairSt p).buf1 = [] ∧
    (pairResumed p s).get F.DBG_HALT.HALT = s.get F.DBG_HALT.HALT ∧
    ∀ j, j = 2 * p ∨ j = 2 * p + 1 → (pairResumed p s).bit F.DBG_HALT.HALTED j = false := by
  have hne : F.SPX_STAT.STATE.addr p 0 0 ≠ 0x30150004 := by simp only [Fld.addr, F.SPX_STAT.STATE]; omega
  have hst' : ((s.setBit F.DBG_HALT.HALTED (2 * p) false).setBit F.DBG_HALT.HALTED (2 * p + 1) false).get F.SPX_STAT.STATE p = 6 := by
    rw [State.get_setBit_addr hne, State.get_setBit_addr hne, hst]
  have hready' : ((s.setBit F.DBG_HALT.HALTED (2 * p) false).setBit F.DBG_HALT.HALTED (2 * p + 1) false).pdReady (2 + p) = true :=
    (State.pdReady_of_rd (by omega) ((set_quiet _ _ _ _ _ _ _ (by decide)).trans (set_quiet _ _ _ _ _ _ _ (by decide)))).trans hready
  have hform := resumePair_of_halted hready' hst'
  refine ⟨?_, ?_, ?_, fun j hj => ?_⟩
  · rw [pairResumed, raise_get_fabric (by decide), hform, State.get_set_fits (by decide) (by decide)]
  · rw [pairResumed, State.pairSt_of_spx (raise_spx _ _), hform, State.pairSt_set, State.pairSt_setPair]
  · rw [pairResumed, raise_get_fabric (by decide), resumePair_get hne, State.get_setBit_clear (by decide), State.get_setBit_clear (by decide)]
  · rw [pairResumed, raise_bit (by decide), State.bit_of_get (resumePair_get hne _), State.bit_setBit (by decide) (by simp only [F.DBG_HALT.HALTED]; omega),
      State.bit_setBit (by decide) (by simp only [F.DBG_HALT.HALTED]; omega)]
    rcases hj with hj | hj
    · rw [if_pos hj, ite_self]
    · rw [if_pos hj]

/-! ### Reel's halt (R502) -/

theorem State.getB_setB (hf : f.hi < 32 ∧ f.lo ≤ f.hi) (s : State) (v : Bool) : (s.setB f v).getB f = v := by
  have hfits : (if v then 1 else 0) < 2 ^ (f.hi + 1 - f.lo) :=
    Nat.lt_of_le_of_lt (by split <;> omega) (Nat.one_lt_two_pow (by omega))
  rw [State.getB, State.setB, State.get_set_fits hf hfits]
  cases v <;> rfl

theorem reelHalt_shows (v : Bool) (s : State) : (reelHalt v s).getB F.DBG_HALT.HALT_REEL = v ∧
    (s.getB F.DBG_HALT.HALT_REEL = !v → (reelHalt v s).getB F.DBG_HALT.REEL_HALTED = v) ∧ (reelHalt v s).get F.DBG_HALT.HALT = s.get F.DBG_HALT.HALT := by
  unfold reelHalt
  split
  · rename_i h
    have h := beq_iff_eq.mp h
    exact ⟨h, fun hn => absurd (hn.symm.trans h) (by simp), rfl⟩
  · refine ⟨?_, fun _ => ?_, ?_⟩
    · rw [State.getB_of_get (raise_get_fabric (by decide) _ _ _ _), State.getB_of_get (State.get_setB_apart (by decide) _ _ _ _ _), State.getB_setB (by decide)]
    · rw [State.getB_of_get (raise_get_fabric (by decide) _ _ _ _), State.getB_setB (by decide)]
    · rw [raise_get_fabric (by decide), State.get_setB_apart (by decide), State.get_setB_apart (by decide)]

end

/-- Settles O34: the level's fall is one revocation, a halt and a resume are the branches of the pair's state, and a JTAG instruction
selects its register where it is served. -/
theorem debugAndJtag : Obligations.DebugAndJtag := by
  unfold Obligations.DebugAndJtag
  intro s m c p pins
  extract_lets q partner writer revoked
  have hc := c.isLt
  have hrevoked : ∀ {level cause : Nat} {t : State}, Revoked level cause t → revoked level cause t := fun h =>
    ⟨h.level, h.left, h.revoked, h.cause, h.expiry, h.closed⟩
  have hserved : ∀ {t : State} {u : State}, writer → (if haltWriter s m then t.answer .done else u) = t.answer .done := fun hw => if_pos hw
  refine ⟨fun hexp hlevel => ?expiry, fun hlevel hcond => ?condition, fun hw hready hhalt hst => ?haltSplit, fun hw hready hhalt hst => ?haltPair,
    fun hw hhalt hst => ?resumeSplit, fun hw hhalt hother hst hready => ?resumePair, fun hw => ?reelHalt, fun hw => ?reelResume,
    fun hw => ⟨?noReelHalt, ?noCoreHalt⟩, fun htrans hst hready => ?resync, fun hio => ?idcode, fun hio => ?bypass, fun hio hmode hlc => ?sample,
    fun hio hmode hlevel => ?extest⟩
  case expiry =>
    have hrun : exec .debugLifetimeExpiry s = .next (debugRevoke 3 0 s) := congrArg Host.Outcome.next (if_pos hexp)
    exact ⟨_, hrun, hrevoked (debugRevoke_revoked (by decide) (by decide) (by omega)), execDebugLifetimeExpiry_mask rfl rfl rfl rfl rfl s hrun⟩
  case condition =>
    have hrun : exec .l2ConditionLoss s = .next (debugRevoke 2 1 s) := congrArg Host.Outcome.next (if_pos (by simp [hlevel, hcond]))
    exact ⟨_, hrun, hrevoked (debugRevoke_revoked (by decide) (by decide) (by omega)), execL2ConditionLoss_mask rfl rfl rfl rfl rfl s hrun⟩
  case haltSplit =>
    have hrun : exec (.coreHalt m c) s = .next ((raise 55 (haltCore c.val true s)).answer .done) :=
      congrArg Host.Outcome.next ((hserved hw).trans (by rw [coreHalt_of_split hready hhalt hst]))
    refine ⟨_, hrun, fun k => ⟨?_, ?_⟩, rfl, ?_, execCoreHalt_mask rfl rfl rfl rfl _ _ s hrun⟩
    · rw [State.bit_answer, raise_bit (by decide), haltCore_halt hc, ite_true_eq_or k c]
    · rw [State.bit_answer, raise_bit (by decide), haltCore_halted hc, ite_true_eq_or k c]
    · rw [State.answer_spx, raise_spx, haltCore_spx]
  case haltPair =>
    have hrun : exec (.coreHalt m c) s = .next ((pairHaltShown c.val q ((s.setPair q { s.pairSt q with
        halt := min (s.pairSt q).buf0.length (s.pairSt q).buf1.length }).set F.SPX_STAT.STATE 6 q)).answer .done) :=
      congrArg Host.Outcome.next ((hserved hw).trans (by rw [coreHalt_of_checked hready hhalt hst]))
    obtain ⟨hown, hpartner, hownHalted, hpartnerHalted⟩ := pairHaltShown_bits c ((s.setPair q { s.pairSt q with
      halt := min (s.pairSt q).buf0.length (s.pairSt q).buf1.length }).set F.SPX_STAT.STATE 6 q)
    refine ⟨_, hrun, ?_, ?_, ?_, ?_, ?_, ?_, rfl, execCoreHalt_mask rfl rfl rfl rfl _ _ s hrun⟩
    · rw [State.get_answer, pairHaltShown_state, State.get_set_fits (by decide) (by decide)]
    · rw [State.pairSt_of_spx (State.answer_spx _ _), pairHaltShown_pairSt, State.pairSt_set, State.pairSt_setPair]
    · rw [State.bit_answer, hown]
    · rw [State.bit_answer, hpartner]
    · rw [State.bit_answer, hownHalted]
    · rw [State.bit_answer, hpartnerHalted]
  case resumeSplit =>
    have hrun : exec (.coreResume m c) s = .next ((raise 55 (haltCore c.val false s)).answer .done) :=
      congrArg Host.Outcome.next ((hserved hw).trans (by rw [coreResume_of_split hhalt hst]))
    refine ⟨_, hrun, ?_, ?_, ?_, rfl, ?_, execCoreResume_mask rfl rfl rfl rfl _ _ s hrun⟩
    · rw [State.bit_answer, raise_bit (by decide), haltCore_halt hc, if_pos rfl]
    · rw [State.bit_answer, raise_bit (by decide), haltCore_halted hc, if_pos rfl]
    · rw [State.bit_answer, raise_bit (by decide), haltCore_halt hc, if_neg (by omega)]
    · rw [State.answer_spx, raise_spx, haltCore_spx]
  case resumePair =>
    have hrun : exec (.coreResume m c) s = .next ((pairResumed q (s.setBit F.DBG_HALT.HALT c.val false)).answer .done) :=
      congrArg Host.Outcome.next ((hserved hw).trans (by rw [coreResume_of_pair hhalt hother hst]))
    have hne : F.SPX_STAT.STATE.addr q 0 0 ≠ 0x30150004 := by simp only [Fld.addr, F.SPX_STAT.STATE]; omega
    have hready' : (s.setBit F.DBG_HALT.HALT c.val false).pdReady (2 + q) = true :=
      (State.pdReady_of_rd (by omega) (set_quiet _ _ _ _ _ _ _ (by decide))).trans hready
    obtain ⟨hstate, hbuf, hkept, hhalted⟩ := pairResumed_shows (p := q) (by omega) hready' ((State.get_setBit_addr hne _ _).trans hst)
    refine ⟨_, hrun, ?_, ?_, ?_, ?_, ?_, rfl, execCoreResume_mask rfl rfl rfl rfl _ _ s hrun⟩
    · rw [State.get_answer, hstate]
    · rw [State.bit_answer, State.bit_of_get hkept, State.bit_setBit (by decide) hc, if_pos rfl]
    · rw [State.bit_answer, hhalted _ (by omega)]
    · rw [State.bit_answer, hhalted _ (by omega)]
    · rw [State.pairSt_of_spx (State.answer_spx _ _), hbuf]
  case reelHalt =>
    have hrun : exec (.reelHalt m) s = .next ((reelHalt true s).answer .done) := congrArg Host.Outcome.next (hserved hw)
    obtain ⟨hreel, hhalted, hhalt⟩ := reelHalt_shows true s
    refine ⟨_, hrun, ?_, fun hn => ?_, ?_, rfl, execReelHalt_mask rfl rfl rfl _ s hrun⟩
    · rw [State.getB_of_get (State.get_answer _ _ _ _ _ _), hreel]
    · rw [State.getB_of_get (State.get_answer _ _ _ _ _ _), hhalted hn]
    · rw [State.get_answer, hhalt]
  case reelResume =>
    have hrun : exec (.reelResume m) s = .next ((reelHalt false s).answer .done) := congrArg Host.Outcome.next (hserved hw)
    obtain ⟨hreel, hhalted, hhalt⟩ := reelHalt_shows false s
    refine ⟨_, hrun, ?_, fun hn => ?_, ?_, rfl, execReelResume_mask rfl rfl rfl _ s hrun⟩
    · rw [State.getB_of_get (State.get_answer _ _ _ _ _ _), hreel]
    · rw [State.getB_of_get (State.get_answer _ _ _ _ _ _), hhalted hn]
    · rw [State.get_answer, hhalt]
  case noReelHalt => exact ⟨_, rfl, if_neg (by simp [hw])⟩
  case noCoreHalt => exact ⟨_, rfl, if_neg (by simp [hw])⟩
  case resync =>
    have hrun : exec (.resyncTimeout p) s = .next (pairFault p.val 0x0403 s) := congrArg Host.Outcome.next (if_pos (by simp [htrans, hst]))
    have h := pairFault_faulted (code := 0x0403) (by decide) (by rw [hst]; rfl) hready
    refine ⟨_, hrun, h.lastCode, h.empty, h.resets, ?_, execResyncTimeout_mask rfl rfl rfl rfl rfl rfl rfl rfl rfl rfl _ s hrun⟩
    split
    · rename_i hfew
      exact (h.resetting hfew).1
    · rename_i hthird
      exact (h.halted (Nat.not_lt.mp hthird)).1
  case idcode => exact ⟨_, rfl, if_pos (by simpa using hio)⟩
  case bypass => exact ⟨_, rfl, if_pos (by simpa using hio)⟩
  case sample => exact ⟨_, rfl, if_pos (by simp [hio, hmode, hlc])⟩
  case extest => exact ⟨_, rfl, if_pos (by simpa [hio, hmode] using hlevel)⟩

end Sys2Proof.Machine

/-! ## Tinder: a committed command is served and answered (R486 to R488), and the crypto services (R490). -/

namespace Sys2Proof.Machine
open Sys2Proof

section
variable {s t u : State} {m : Master} {mb : Nat}

/-- Tinder, idle, takes a command that `m` writes to mailbox `mb`. -/
structure TndTakes (s : State) (m : Master) (mb : Nat) : Prop where
  ready : s.pdReady 1 = true
  writer : mailboxWriter s m mb = true
  idle : s.getB F.TND_STAT.BUSY mb = false
  unserved : s.tnd.serving = none
  waiting : s.tnd.waiting = []
  jtagOn : s.tnd.fuse.jtagOff = false
  released : s.sys.released = true ∨ mb ≠ 2

/-- Tinder takes a command, and no self-test has failed. -/
structure TndAccepts (s : State) (m : Master) (mb : Nat) : Prop extends TndTakes s m mb where
  tested : s.tnd.testBad = false

/-- The mailbox is BUSY with a command its source has written. -/
def posted (mb : Nat) (s : State) : State := (s.answer .done).set F.TND_STAT.BUSY 1 mb

/-- Tinder serves a command of mailbox `mb`. -/
def serveFor (mb : Nat) (s : State) : State := s.setTnd { s.tnd with serving := some (mb, { wait := true }) }

/-- The state in which a posted command is carried out. -/
def taken (mb : Nat) (s : State) : State := serveFor mb (posted mb s)

theorem posted_tnd (mb : Nat) (s : State) : (posted mb s).tnd = s.tnd := by rw [posted, State.set_tnd, State.answer_tnd]

theorem posted_sys (mb : Nat) (s : State) : (posted mb s).sys = s.sys := by rw [posted, State.set_sys, State.answer_sys]

theorem State.tnd_setTnd (s : State) (x : TndSt) : (s.setTnd x).tnd = x := rfl

/-- A command that waits and is taken at once leaves Tinder as it was. -/
theorem waiting_taken (hw : s.tnd.waiting = []) (k : Nat) (c : TndCommand) :
    (s.setTnd { s.tnd with waiting := SMap.put none s.tnd.waiting k (some c) }).setTnd
      { s.tnd with waiting := SMap.put none (SMap.put none s.tnd.waiting k (some c)) k none } = s := by
  have hempty : SMap.put none (SMap.put none s.tnd.waiting k (some c)) k none = s.tnd.waiting := by
    rw [SMap.put_put, hw]
    exact if_pos rfl
  rw [hempty]
  rfl

/-- Tinder serves the only command that waits, unless it must wait. -/
theorem serveNext_of_posted (hmb : mb < 3) (hs : s.tnd.serving = none) (hw : s.tnd.waiting = []) {c : TndCommand} (hgo : mustWait mb c s = false) :
    serveNext mb (s.setTnd { s.tnd with waiting := SMap.put none s.tnd.waiting mb (some c) }) = runCommand mb c s := by
  have hmod : mb % 3 = mb := Nat.mod_eq_of_lt hmb
  have hget : SMap.get none (SMap.put none s.tnd.waiting mb (some c)) mb = some c := SMap.get_put_self _ _ _ _
  have hgo' : mustWait mb c (s.setTnd { s.tnd with waiting := SMap.put none s.tnd.waiting mb (some c) }) = false := hgo
  have hback := waiting_taken hw mb c
  unfold serveNext
  rw [if_neg (by simp [State.setTnd, hs])]
  simp only [State.tnd_setTnd, hmod, List.find?_cons, hget, hgo', Bool.not_false, hback]

theorem tndWrite_of_taken (h : TndTakes s m mb) (hmb : mb < 3) {c : TndCommand} (hsrc : sourceMay m (codeOf c) = true) :
    tndWrite m mb c s = runCommand mb c (posted mb s) := by
  have hgo : mustWait mb c (posted mb s) = false := by
    rw [mustWait, posted_sys]
    rcases h.released with hrel | hne
    · simp [hrel]
    · simp [hne]
  have hserve := serveNext_of_posted hmb ((congrArg TndSt.serving (posted_tnd mb s)).trans h.unserved)
    ((congrArg TndSt.waiting (posted_tnd mb s)).trans h.waiting) hgo
  have hidle : ((s.answer .done).getB F.TND_STAT.BUSY mb) = false := (State.getB_of_get (State.get_answer _ _ _ _ _ _)).trans h.idle
  rw [tndWrite, if_neg (by simp [h.ready, h.writer])]
  refine (if_neg (by simp [hidle])).trans ?_
  rw [if_pos hsrc]
  exact hserve

/-- No refusal of CONFIG.JTAG_OFF or of a failed SELF_TEST stands in the way. -/
def TndSound (s : State) : Prop := s.tnd.fuse.jtagOff = false ∧ s.tnd.testBad = false

theorem not_jtagOff (h : s.tnd.fuse.jtagOff = false) (p q r : Bool) : ¬ ((s.tnd.fuse.jtagOff && p && q && r) = true) := by simp [h]

theorem not_testRefuses (h : TndSound s) (code : Nat) : ¬ (testRefuses s code = true) := by simp [testRefuses, h.2]

theorem TndAccepts.sound (h : TndAccepts s m mb) : TndSound (posted mb s) := by
  rw [TndSound, posted_tnd]
  exact ⟨h.jtagOn, h.tested⟩

/-- A command of an accepted write is carried out at once. -/
theorem tndCommit_of_accepted (h : TndAccepts s m mb) (hmb : mb < 3) {c : TndCommand} (hsrc : sourceMay m (codeOf c) = true) {f : State → State}
    (hf : ∀ {u : State}, TndSound u → runCommand mb c u = f (serveFor mb u)) : tndCommit m mb c s = .next (f (taken mb s)) := by
  rw [tndCommit, tndWrite_of_taken h.toTndTakes hmb hsrc, hf h.sound]
  rfl

theorem taken_tnd (mb : Nat) (s : State) : (taken mb s).tnd = { s.tnd with serving := some (mb, { wait := true }) } := by
  rw [taken, serveFor, State.tnd_setTnd, posted_tnd]

theorem taken_regs (mb : Nat) (s : State) : (taken mb s).regs = (s.set F.TND_STAT.BUSY 1 mb).regs := rfl

theorem taken_rd {a : Nat} (h : a ≠ F.TND_STAT.BUSY.addr mb 0 0) (s : State) : (taken mb s).rd a = s.rd a :=
  (State.rd_of_regs (taken_regs mb s) a).trans (set_quiet _ _ _ _ _ _ _ h)

theorem taken_mask {K : Parts} (kA : K.regs) (kC : K.resp) (kS : K.tnd) (mb : Nat) (s : State) : (taken mb s).mask K = s.mask K :=
  (setTnd_mask kS _ _).trans ((set_mask kA _ _ _ _ _ _).trans (answer_mask kC _ _))

theorem lifecycle_of_fuse (h : t.tnd.fuse = s.tnd.fuse) : lifecycle t = lifecycle s := by rw [lifecycle, h, lifecycle]

/-- Mailbox `mb` is served and shows BUSY. -/
structure TndServing (mb : Nat) (s : State) : Prop where
  serving : s.tnd.serving = some (mb, { wait := true })
  busy : s.get F.TND_STAT.BUSY mb = 1
  waiting : s.tnd.waiting = []
  resp : s.resp = .done

theorem taken_serving (h : s.tnd.waiting = []) : TndServing mb (taken mb s) where
  serving := congrArg TndSt.serving (taken_tnd mb s)
  busy := (State.get_of_regs (taken_regs mb s) _ _ _ _).trans (State.get_set_one _ _ _ _ _ (by decide) (by decide))
  waiting := (congrArg TndSt.waiting (taken_tnd mb s)).trans h
  resp := rfl

/-- A step that leaves the mailbox's own state leaves it served. -/
theorem TndServing.of_kept (h : TndServing mb s) (hserving : t.tnd.serving = s.tnd.serving) (hwaiting : t.tnd.waiting = s.tnd.waiting)
    (hbusy : t.get F.TND_STAT.BUSY mb = s.get F.TND_STAT.BUSY mb) (hresp : t.resp = s.resp) : TndServing mb t :=
  ⟨hserving.trans h.serving, hbusy.trans h.busy, hwaiting.trans h.waiting, hresp.trans h.resp⟩

theorem tndAnswer_of_serving (h : TndServing mb s) (r : Nat) (out : List Byte) :
    tndAnswer r out s = s.setTnd { s.tnd with serving := some (mb, { result := r, out := out }) } := by
  rw [tndAnswer, h.serving]

/-- A served command's answer stands until TND_COMMAND_DONE. -/
theorem tndAnswer_served (h : TndServing mb s) (r : Nat) (out : List Byte) :
    (tndAnswer r out s).tnd.serving = some (mb, { result := r, out := out }) ∧ (tndAnswer r out s).get F.TND_STAT.BUSY mb = 1 ∧
      (tndAnswer r out s).tnd.waiting = [] ∧ (tndAnswer r out s).resp = .done := by
  rw [tndAnswer_of_serving h]
  exact ⟨rfl, h.busy, h.waiting, h.resp⟩

theorem tndAnswer_tnd (h : TndServing mb s) (r : Nat) (out : List Byte) :
    (tndAnswer r out s).tnd = { s.tnd with serving := some (mb, { result := r, out := out }) } := by
  rw [tndAnswer_of_serving h]
  rfl

theorem tndAnswer_regs (r : Nat) (out : List Byte) (s : State) : (tndAnswer r out s).regs = s.regs :=
  regs_of_mask (K := { tnd := true }) rfl (tndAnswer_mask rfl r out s)

/-- A command that only answers. -/
theorem tndAnswer_taken_mask {K : Parts} (kA : K.regs) (kC : K.resp) (kS : K.tnd) (r : Nat) (out : List Byte) (mb : Nat) (s : State) :
    (tndAnswer r out (taken mb s)).mask K = s.mask K :=
  (tndAnswer_mask kS _ _ _).trans (taken_mask kA kC kS _ _)

/-! ### Crypto services (R490) -/

theorem runCommand_service (code : Nat) (x : ServiceIn) (h : TndSound s) : runCommand mb (.service code x) s =
    if mb = 2 then tndAnswer 12 [] (serveFor mb s) else service code x (serveFor mb s) :=
  (if_neg (not_jtagOff h.1 _ _ _)).trans (if_neg (not_testRefuses h _))

/-- A service whose key and buffers are in order goes on as its check says. -/
theorem service_of_ready {code : Nat} {x : ServiceIn} (hrng : code = 0x25 → s.tnd.rngBad = false)
    (hkey : code = 0x20 ∨ code = 0x21 → 16 ≤ x.slot ∧ x.slot < 32 ∧ SMap.get 0 s.tnd.priv.keys x.slot ≠ 0)
    (hsrc : x.srcOk = true) (hdst : inSram x.dst = true) (hlen : x.dst + x.out.length ≤ 0x11000000) : service code x s =
      if x.ok = true then tndAnswer 0 [] (if code = 0x23 ∨ code = 0x24 then s
        else place x.dst (x.out.take (if code = 0x25 then 256 else x.out.length)) s)
      else tndAnswer 3 [] s := by
  have hfits : x.dst + (x.out.take (if code = 0x25 then 256 else x.out.length)).length ≤ 0x11000000 := by
    rw [List.length_take]
    omega
  have hrng' : ¬ ((code == 0x25 && s.tnd.rngBad) = true) := by simpa using hrng
  have hslot : ¬ (((code == 0x20 || code == 0x21) && !decide (16 ≤ x.slot ∧ x.slot < 32)) = true) := by
    simp only [Bool.and_eq_true, Bool.or_eq_true, beq_iff_eq, Bool.not_eq_true', decide_eq_false_iff_not]
    rintro ⟨hc, hout⟩
    exact hout ⟨(hkey hc).1, (hkey hc).2.1⟩
  have hheld : ¬ (((code == 0x20 || code == 0x21) && SMap.get 0 s.tnd.priv.keys x.slot == 0) = true) := by
    simp only [Bool.and_eq_true, Bool.or_eq_true, beq_iff_eq, not_and]
    exact fun hc => (hkey hc).2.2
  have hbuf : ¬ ((!x.srcOk || !inSram x.dst || !decide (x.dst + (x.out.take (if code = 0x25 then 256 else x.out.length)).length ≤ 0x11000000)) = true) := by
    rw [hsrc, hdst, decide_eq_true hfits]
    decide
  rw [service]
  refine (if_neg (by simpa using hrng)).trans ((if_neg hslot).trans ((if_neg hheld).trans ((if_neg hbuf).trans ?_)))
  cases x.ok <;> rfl

theorem service_of_missing {code : Nat} {x : ServiceIn} (hcode : code = 0x20 ∨ code = 0x21) (hslot : 16 ≤ x.slot ∧ x.slot < 32)
    (hkey : SMap.get 0 s.tnd.priv.keys x.slot = 0) : service code x s = tndAnswer 9 [] s := by
  have hne : code ≠ 0x25 := by omega
  rw [service]
  exact (if_neg (by simp [hne])).trans ((if_neg (by simp [hslot])).trans (if_pos (by simpa [hkey] using hcode)))

theorem service_of_rngBad {x : ServiceIn} (h : s.tnd.rngBad = true) : service 0x25 x s = tndAnswer 10 [] s :=
  if_pos (by simp [h])

/-- What a service that writes leaves: the answer 0 and its engine's output at the destination. -/
theorem servicePlaced_shows (h : s.tnd.waiting = []) (dst : Nat) (out : List Byte) :
    ((tndAnswer 0 [] (place dst out (taken mb s))).tnd.serving = some (mb, { result := 0, out := [] }) ∧
      (tndAnswer 0 [] (place dst out (taken mb s))).get F.TND_STAT.BUSY mb = 1 ∧ (tndAnswer 0 [] (place dst out (taken mb s))).tnd.waiting = [] ∧
      (tndAnswer 0 [] (place dst out (taken mb s))).resp = .done) ∧
    (tndAnswer 0 [] (place dst out (taken mb s))).bytes dst out.length = out ∧
    BytesOnly dst out.length s (tndAnswer 0 [] (place dst out (taken mb s))) ∧
    OnlyChanges { regs := true, mem := true, resp := true, fab := true, tnd := true } s (tndAnswer 0 [] (place dst out (taken mb s))) := by
  have htnd := tnd_of_mask (K := { mem := true, fab := true }) rfl (place_mask rfl rfl dst out (taken mb s))
  have hserving : TndServing mb (place dst out (taken mb s)) := (taken_serving h).of_kept (congrArg TndSt.serving htnd)
    (congrArg TndSt.waiting htnd) (State.get_of_regs (place_regs _ _ _) _ _ _ _) (place_resp _ _ _)
  obtain ⟨hall, -, honly⟩ := place_bytes dst out [] [] (taken mb s)
  rw [List.append_nil, List.append_nil] at hall honly
  have htaken : (taken mb s).mem = s.mem :=
    mem_of_mask (K := { regs := true, resp := true, tnd := true }) rfl (taken_mask rfl rfl rfl mb s)
  have hmem := mem_of_mask (K := { tnd := true }) rfl (tndAnswer_mask rfl 0 [] (place dst out (taken mb s)))
  refine ⟨tndAnswer_served hserving 0 [], (State.bytes_of_mem hmem _ _).trans hall,
    fun b hb => (State.byte_of_mem hmem b).trans ((honly b hb).trans (State.byte_of_mem htaken b)), (tndAnswer_mask rfl _ _ _).trans
    ((place_mask rfl rfl _ _ _).trans (taken_mask rfl rfl rfl _ _))⟩

/-- A service of mailbox 0 or 1 goes on with its engine. -/
theorem serviceCommit_of_accepted (h : TndAccepts s m mb) (hmb : mb < 3) (h2 : mb ≠ 2) {code : Nat} (hcode : 0x20 ≤ code ∧ code ≤ 0x25) (x : ServiceIn) :
    tndCommit m mb (.service code x) s = .next (service code x (taken mb s)) := by
  have hsrc : sourceMay m (codeOf (.service code x)) = true := by
    cases m <;> simp [sourceMay, codeOf, hcode]
  exact tndCommit_of_accepted h hmb hsrc (fun hu => (runCommand_service code x hu).trans (if_neg h2))

end

/-- Settles O47: an accepted service goes on with its engine, whose checks are its branches. -/
theorem tinderServices : Obligations.TinderServices := by
  unfold Obligations.TinderServices
  intro s m mb x
  extract_lets acc served plain from_ keyed buf wrote
  have hacc : acc → TndAccepts s m mb.val := fun ⟨h1, h2, h3, h4, h5, h6, h7, h8⟩ => ⟨⟨h1, h2, h3, h4, h5, h6, h8⟩, h7⟩
  have hanswer : ∀ {c : Instr} {code r : Nat}, from_ → 0x20 ≤ code ∧ code ≤ 0x25 → exec c s = tndCommit m mb.val (.service code x) s →
      (service code x (taken mb.val s) = tndAnswer r [] (taken mb.val s)) → Runs c s fun t => served r [] t ∧ plain t :=
    fun {c code r} hfrom hcode hc hval => by
      obtain ⟨ha, h2⟩ := hfrom
      have hrun := hc.trans (serviceCommit_of_accepted (hacc ha) mb.isLt h2 hcode x)
      rw [hval] at hrun
      exact ⟨_, hrun, tndAnswer_served (taken_serving (hacc ha).waiting) _ _, tndAnswer_taken_mask rfl rfl rfl _ _ _ _⟩
  have hready : ∀ {code : Nat}, (code = 0x25 → s.tnd.rngBad = false) → (code = 0x20 ∨ code = 0x21 → keyed) → buf →
      service code x (taken mb.val s) = if x.ok = true then tndAnswer 0 [] (if code = 0x23 ∨ code = 0x24 then taken mb.val s
          else place x.dst (x.out.take (if code = 0x25 then 256 else x.out.length)) (taken mb.val s))
        else tndAnswer 3 [] (taken mb.val s) := fun {code} hrng hkey ⟨hsrc, hdst, hlen⟩ => by
    refine service_of_ready ?_ ?_ hsrc hdst hlen
    · rwa [taken_tnd]
    · rwa [taken_tnd]
  have hwrites : ∀ {c : Instr} {code : Nat}, from_ → 0x20 ≤ code ∧ code ≤ 0x25 → code ≠ 0x23 → code ≠ 0x24 →
      exec c s = tndCommit m mb.val (.service code x) s → (code = 0x25 → s.tnd.rngBad = false) → (code = 0x20 ∨ code = 0x21 → keyed) → buf →
      x.ok = true → Runs c s (wrote (x.out.take (if code = 0x25 then 256 else x.out.length))) :=
    fun {c code} hfrom hcode h23 h24 hc hrng hkey hbuf hok => by
      obtain ⟨ha, h2⟩ := hfrom
      have hrun := hc.trans (serviceCommit_of_accepted (hacc ha) mb.isLt h2 hcode x)
      rw [hready hrng hkey hbuf, if_pos hok, if_neg (by omega)] at hrun
      exact ⟨_, hrun, servicePlaced_shows (hacc ha).waiting _ _⟩
  have hfull : x.out.take x.out.length = x.out := List.take_length
  refine ⟨fun hf hk hb hok => ?gcm, fun hf hk hb hok => ?gcmBad, fun hf h16 h32 hnone => ?missing, fun hf hk hb hok => ?cmac, fun hf hb hok => ?hash,
    fun hf hb hok => ?ecdsa, fun hf hb hok => ?ecdsaBad, fun hf hb hok => ?lms, fun hf hb hok => ?lmsBad, fun hf hrng hb hok => ?random,
    fun hf hrng => ?rngBad, fun ha h2 => ?debugPort⟩
  case gcm =>
    rw [← hfull]
    exact hwrites (code := 0x20) hf (by decide) (by decide) (by decide) rfl (fun h => absurd h (by decide)) (fun _ => hk) hb hok
  case gcmBad => exact hanswer hf (by decide) rfl ((hready (code := 0x20) (fun h => absurd h (by decide)) (fun _ => hk) hb).trans (if_neg (by simp [hok])))
  case missing => exact hanswer hf (by decide) rfl (service_of_missing (.inr rfl) ⟨h16, h32⟩ (by rwa [taken_tnd]))
  case cmac =>
    rw [← hfull]
    exact hwrites (code := 0x21) hf (by decide) (by decide) (by decide) rfl (fun h => absurd h (by decide)) (fun _ => hk) hb hok
  case hash =>
    rw [← hfull]
    exact hwrites (code := 0x22) hf (by decide) (by decide) (by decide) rfl (fun h => absurd h (by decide)) (fun h => absurd h (by decide)) hb hok
  case ecdsa => exact hanswer hf (by decide) rfl ((hready (code := 0x23) (fun h => absurd h (by decide)) (fun h => absurd h (by decide)) hb).trans (if_pos hok))
  case ecdsaBad => exact hanswer hf (by decide) rfl ((hready (code := 0x23) (fun h => absurd h (by decide)) (fun h => absurd h (by decide)) hb).trans (if_neg (by simp [hok])))
  case lms => exact hanswer hf (by decide) rfl ((hready (code := 0x24) (fun h => absurd h (by decide)) (fun h => absurd h (by decide)) hb).trans (if_pos hok))
  case lmsBad => exact hanswer hf (by decide) rfl ((hready (code := 0x24) (fun h => absurd h (by decide)) (fun h => absurd h (by decide)) hb).trans (if_neg (by simp [hok])))
  case random => exact hwrites (code := 0x25) hf (by decide) (by decide) (by decide) rfl (fun _ => hrng) (fun h => absurd h (by decide)) hb hok
  case rngBad => exact hanswer hf (by decide) rfl (service_of_rngBad (by rwa [taken_tnd]))
  case debugPort =>
    have hsrc : sourceMay m (codeOf (.service 0x22 x)) = true := by cases m <;> rfl
    have hrun : exec (.hash m mb x) s = .next (tndAnswer 12 [] (taken mb.val s)) :=
      tndCommit_of_accepted (hacc ha) mb.isLt hsrc (fun hu => (runCommand_service 0x22 x hu).trans (if_pos h2))
    exact ⟨_, hrun, tndAnswer_served (taken_serving (hacc ha).waiting) _ _, tndAnswer_taken_mask rfl rfl rfl _ _ _ _⟩

end Sys2Proof.Machine

/-! ## Tinder's mailboxes: authentication, passwords and grants (R494 to R500). -/

namespace Sys2Proof.Machine
open Sys2Proof

section
variable {s t u : State} {m : Master} {mb : Nat}

/-! ### What a command in progress finds as it was -/

/-- `t` differs from `s` in no part that the conditions of a command read: only BUSY, and Tinder's state beside the fuses. -/
structure TndApart (mb : Nat) (s t : State) : Prop where
  sys : t.sys = s.sys
  kln : t.kln = s.kln
  fuse : t.tnd.fuse = s.tnd.fuse
  rd : ∀ a, a ≠ F.TND_STAT.BUSY.addr mb 0 0 → t.rd a = s.rd a

theorem taken_apart (mb : Nat) (s : State) : TndApart mb s (taken mb s) where
  sys := sys_of_mask (K := { regs := true, resp := true, tnd := true }) rfl (taken_mask rfl rfl rfl mb s)
  kln := kln_of_mask (K := { regs := true, resp := true, tnd := true }) rfl (taken_mask rfl rfl rfl mb s)
  fuse := by rw [taken_tnd]
  rd a h := taken_rd h s

theorem TndApart.setTnd (h : TndApart mb s t) {x : TndSt} (hx : x.fuse = t.tnd.fuse) : TndApart mb s (t.setTnd x) :=
  ⟨h.sys, h.kln, hx.trans h.fuse, h.rd⟩

theorem TndApart.get (h : TndApart mb s t) {f : Fld} {i : Nat} (hf : f.addr i 0 0 ≠ F.TND_STAT.BUSY.addr mb 0 0) : t.get f i = s.get f i :=
  State.get_of_rd (h.rd _ hf)

theorem TndApart.get_low (h : TndApart mb s t) {f : Fld} (hf : f.s1 = 0 ∧ f.base < 0x30050000) : t.get f = s.get f :=
  h.get (by simp only [Fld.addr, F.TND_STAT.BUSY]; omega)

theorem TndApart.mode (h : TndApart mb s t) : t.mode = s.mode :=
  State.mode_congr (congrArg SysSt.phase h.sys) (h.get_low (by decide))

theorem TndApart.lifecycle (h : TndApart mb s t) : lifecycle t = lifecycle s := lifecycle_of_fuse h.fuse

theorem TndApart.gatesOff (h : TndApart mb s t) : gatesOff t = gatesOff s := by rw [Machine.gatesOff, h.kln, Machine.gatesOff]

theorem TndApart.challengeLevel (h : TndApart mb s t) : challengeLevel t = challengeLevel s := by
  rw [Machine.challengeLevel, h.lifecycle, h.mode, Machine.challengeLevel]

theorem TndApart.levelRefusal (h : TndApart mb s t) : levelRefusal t = levelRefusal s := by
  rw [Machine.levelRefusal, h.lifecycle, Machine.levelRefusal]

theorem TndApart.dbgLevel (h : TndApart mb s t) (hmb : mb < 3) : t.dbgLevel = s.dbgLevel :=
  h.get (by simp only [Fld.addr, F.DBG_STAT.LEVEL, F.TND_STAT.BUSY]; omega)

theorem TndApart.l2Cond (h : TndApart mb s t) (hmb : mb < 3) : l2Cond t = l2Cond s := by
  have hpd : t.pdReady 10 = s.pdReady 10 := State.pdReady_of_rd (by decide) (h.rd _ (by simp only [Fld.addr, F.PD_STAT.ON, F.TND_STAT.BUSY]; omega))
  have hvalid : ∀ k, t.getB F.HK_RES.VALID k = s.getB F.HK_RES.VALID k := fun k =>
    State.getB_of_get (h.get (by simp only [Fld.addr, F.HK_RES.VALID, F.TND_STAT.BUSY]; omega))
  rw [Machine.l2Cond, h.gatesOff, hpd, h.kln, hvalid, Machine.l2Cond]

/-- A command that answers at once, with nothing else done. -/
theorem tndAnswer_taken_done (h : s.tnd.waiting = []) (r : Nat) (out : List Byte) :
    (tndAnswer r out (taken mb s)).tnd = { s.tnd with serving := some (mb, { result := r, out := out }) } ∧
    (tndAnswer r out (taken mb s)).get F.TND_STAT.BUSY mb = 1 ∧ (tndAnswer r out (taken mb s)).resp = .done ∧
    RegsOnly [F.TND_STAT.BUSY.addr mb 0 0] s (tndAnswer r out (taken mb s)) ∧
    OnlyChanges { regs := true, resp := true, tnd := true } s (tndAnswer r out (taken mb s)) := by
  have hserving := taken_serving (mb := mb) h
  obtain ⟨-, hbusy, -, hresp⟩ := tndAnswer_served hserving r out
  refine ⟨?_, hbusy, hresp, fun a ha => ?_, tndAnswer_taken_mask rfl rfl rfl _ _ _ _⟩
  · rw [tndAnswer_tnd hserving, taken_tnd]
  · rw [State.rd_of_regs (tndAnswer_regs _ _ _), taken_rd (List.ne_of_not_mem_cons ha)]

theorem tndAnswer_sys (r : Nat) (out : List Byte) (s : State) : (tndAnswer r out s).sys = s.sys :=
  sys_of_mask (K := { tnd := true }) rfl (tndAnswer_mask rfl r out s)

/-! ### Faults without a class -/

theorem issue_report (code : Nat) (s : State) : issue code 0 s = { s with sys := { s.sys with lastFault := code } } := by
  rw [issue, issueFor_eq]
  rfl

theorem tndFault_report_mask {K : Parts} (kA : K.regs) (kD : K.sys) (kF : K.fab) (code : Nat) (s : State) : (tndFault code s).mask K = s.mask K := by
  rw [tndFault, raise_mask kA kF, issue_report, mask_sys kD]

theorem tndFault_lastFault (code : Nat) (s : State) : (tndFault code s).sys.lastFault = code := by rw [tndFault, raise_sys, issue_lastFault]

theorem tndFault_tnd (code : Nat) (s : State) : (tndFault code s).tnd = s.tnd :=
  tnd_of_mask (K := { regs := true, sys := true, fab := true }) rfl (tndFault_report_mask rfl rfl rfl code s)

theorem tndFault_resp (code : Nat) (s : State) : (tndFault code s).resp = s.resp :=
  resp_of_mask (K := { regs := true, sys := true, fab := true }) rfl (tndFault_report_mask rfl rfl rfl code s)

theorem tndFault_get {f : Fld} (h : 0x30030000 ≤ f.base) (code : Nat) (s : State) (i j k : Nat) : (tndFault code s).get f i j k = s.get f i j k := by
  rw [tndFault, raise_get_fabric ⟨by decide, h⟩, issue_get]

theorem raise_resp (n : Nat) (s : State) : (raise n s).resp = s.resp := by rw [raise_eq]

theorem TndServing.raise (h : TndServing mb s) {n : Nat} (hn : n < 256) : TndServing mb (raise n s) :=
  h.of_kept (by rw [raise_tnd]) (by rw [raise_tnd]) (raise_get_fabric ⟨hn, by decide⟩ _ _ _ _) (raise_resp _ _)

theorem TndServing.tndFault (h : TndServing mb s) (code : Nat) : TndServing mb (tndFault code s) :=
  h.of_kept (by rw [tndFault_tnd]) (by rw [tndFault_tnd]) (tndFault_get (by decide) _ _ _ _ _) (tndFault_resp _ _)

theorem TndServing.setTnd (h : TndServing mb s) {x : TndSt} (hs : x.serving = s.tnd.serving) (hw : x.waiting = s.tnd.waiting) :
    TndServing mb (s.setTnd x) := h.of_kept hs hw rfl rfl

/-! ### CHALLENGE and RESPONSE (R496, R497) -/

theorem challenge_of_allowed {purpose lifetime argHash nonce : Nat} (hlock : s.tnd.lockout.testBit mb = false) (hrng : s.tnd.rngBad = false)
    (hpurpose : isPurpose purpose = true) (hlife : lifetime ≠ 0 ∨ lifecycle s = 1 ∨ lifecycle s = 3) :
    challenge mb purpose lifetime argHash nonce s =
      tndAnswer 0 (challengeBlock s mb purpose lifetime (if purpose ≤ 3 then 0 else argHash) nonce) (s.setTnd { s.tnd with
        chal := SMap.put none s.tnd.chal mb (some ⟨purpose, lifetime, if purpose ≤ 3 then 0 else argHash⟩) }) := by
  have hlife' : ¬ (lifetime = 0 ∧ (!([0, 1, 3].contains (lifecycle s))) = true) := fun ⟨h0, hlc⟩ => by
    rcases hlife with h | h | h
    · exact h h0
    · rw [h] at hlc; exact absurd hlc (by decide)
    · rw [h] at hlc; exact absurd hlc (by decide)
  rw [challenge, if_neg (by simp [hlock]), if_neg (by simp [hrng]), if_neg (by simp [hpurpose]), if_neg hlife']
  rfl

theorem challenge_of_lockedOut (h : s.tnd.lockout.testBit mb = true) (purpose lifetime argHash nonce : Nat) :
    challenge mb purpose lifetime argHash nonce s = tndAnswer 2 [] s := if_pos h

/-- The challenge of mailbox `mb` is consumed. -/
def consumed (mb : Nat) (s : State) : State := s.setTnd { s.tnd with chal := SMap.put none s.tnd.chal mb none }

/-- A key slot that may authenticate stands behind a response. -/
def keyKnown (s : State) (keyHash : Nat) : Bool :=
  [0, 1, 2, 3].any (fun k => SMap.get 0 s.tnd.fuse.keyHash k == keyHash && SMap.get 0 s.tnd.fuse.keyHash k != 0 &&
    (SMap.get 0 s.tnd.fuse.role k).testBit 1 && !s.tnd.fuse.revoked.testBit k)

theorem keyKnown_of_slot {keyHash : Nat} (h : ∃ k : Fin 4, SMap.get 0 s.tnd.fuse.keyHash k.val = keyHash ∧ keyHash ≠ 0 ∧
    (SMap.get 0 s.tnd.fuse.role k.val).testBit 1 = true ∧ s.tnd.fuse.revoked.testBit k.val = false) : keyKnown s keyHash = true := by
  obtain ⟨k, hhash, hne, hrole, hrev⟩ := h
  refine List.any_eq_true.mpr ⟨k.val, ?_, by simp [hhash, hne, hrole, hrev]⟩
  have hk := k.isLt
  simp only [List.mem_cons, List.not_mem_nil, or_false]
  omega

theorem known_consumed {keyHash : Nat} (h : keyKnown s keyHash = true) : ¬ ((!keyKnown (consumed mb s) keyHash) = true) := by
  rw [show keyKnown (consumed mb s) keyHash = true from h]
  decide

theorem response_of_none (h : SMap.get none s.tnd.chal mb = none) (a : AuthIn) (arg : PrivArg) : response mb a arg s = tndAnswer 4 [] s := by
  rw [response, h]

theorem response_of_forged {c : Challenge} {a : AuthIn} (hc : SMap.get none s.tnd.chal mb = some c) (hknown : keyKnown s a.keyHash = true)
    (hsig : a.sigOk = false) (arg : PrivArg) : response mb a arg s = authFailed mb 3 (consumed mb s) := by
  simp only [response, hc]
  exact (if_neg (known_consumed hknown)).trans (if_pos (by simp [hsig]))

/-- A response at one of the three levels that authenticates. -/
theorem response_of_level {c : Challenge} {a : AuthIn} (hc : SMap.get none s.tnd.chal mb = some c) (hknown : keyKnown s a.keyHash = true)
    (hsig : a.sigOk = true) (hp : c.purpose ≤ 3) (arg : PrivArg) : response mb a arg s =
      if (challengeLevel (consumed mb s) < c.purpose || (c.purpose == 2 && !l2Cond (consumed mb s))) = true then
        tndAnswer (levelRefusal (consumed mb s)) [] (consumed mb s)
      else if c.purpose < (consumed mb s).dbgLevel then tndAnswer 11 [] (consumed mb s)
      else tndAnswer 0 [] (grantLevel c.purpose mb c.lifetime (consumed mb s)) := by
  simp only [response, hc]
  exact (if_neg (known_consumed hknown)).trans ((if_neg (by simp [hsig])).trans
    ((if_neg (by omega)).trans (if_pos hp)))

/-- A response that carries a privileged command out. -/
theorem response_of_privileged {c : Challenge} {a : AuthIn} {arg : PrivArg} (hc : SMap.get none s.tnd.chal mb = some c)
    (hknown : keyKnown s a.keyHash = true) (hsig : a.sigOk = true) (hp : 3 < c.purpose) (harg : a.argHash = c.argHash)
    (hpurpose : purposeOf arg = c.purpose) (hcell : c.purpose = 0x30 ∨ privCell (consumed mb s) = true) : response mb a arg s =
      tndAnswer (privileged arg (consumed mb s)).1 [] (privileged arg (consumed mb s)).2 := by
  simp only [response, hc]
  refine (if_neg (known_consumed hknown)).trans ((if_neg (by simp [hsig])).trans
    ((if_neg (by simp [harg])).trans ((if_neg (by omega)).trans ((if_neg (by simp [hpurpose])).trans (if_neg ?_)))))
  rintro ⟨hne, hno⟩
  rcases hcell with h | h
  · exact hne h
  · exact absurd (h.symm.trans hno) (by decide)

theorem consumed_tnd (mb : Nat) (s : State) : (consumed mb s).tnd = { s.tnd with chal := SMap.put none s.tnd.chal mb none } := rfl

theorem consumed_chal (mb : Nat) (s : State) : SMap.get none (consumed mb s).tnd.chal mb = none := SMap.get_put_self _ _ _ _

theorem TndServing.consumed (h : TndServing mb s) : TndServing mb (consumed mb s) := h.setTnd rfl rfl

theorem consumed_apart (mb : Nat) (s : State) : TndApart mb s (consumed mb (taken mb s)) := (taken_apart mb s).setTnd rfl

theorem consumed_mask {K : Parts} (kA : K.regs) (kC : K.resp) (kS : K.tnd) (mb : Nat) (s : State) : (consumed mb (taken mb s)).mask K = s.mask K :=
  (setTnd_mask kS _ _).trans (taken_mask kA kC kS _ _)

theorem runCommand_response (a : AuthIn) (arg : PrivArg) (h : TndSound s) : runCommand mb (.response a arg) s = response mb a arg (serveFor mb s) :=
  (if_neg (not_jtagOff h.1 _ _ _)).trans (if_neg (not_testRefuses h _))

theorem runCommand_challenge (p l h' n : Nat) (h : TndSound s) : runCommand mb (.challenge p l h' n) s = challenge mb p l h' n (serveFor mb s) :=
  (if_neg (not_jtagOff h.1 _ _ _)).trans (if_neg (not_testRefuses h _))

theorem runCommand_getInfo (h : TndSound s) : runCommand mb .getInfo s = tndAnswer 0 (infoBytes (serveFor mb s)) (serveFor mb s) :=
  (if_neg (not_jtagOff h.1 _ _ _)).trans (if_neg (not_testRefuses h _))

theorem runCommand_bad (h : TndSound s) : runCommand mb .bad s = tndAnswer 1 [] (serveFor mb s) :=
  (if_neg (not_jtagOff h.1 _ _ _)).trans (if_neg (not_testRefuses h _))

theorem runCommand_password (hash : Nat) (h : TndSound s) : runCommand mb (.password hash) s = password mb hash (serveFor mb s) :=
  (if_neg (not_jtagOff h.1 _ _ _)).trans (if_neg (not_testRefuses h _))

theorem runCommand_close (h : TndSound s) : runCommand mb .close s = tndAnswer 0 [] (debugRevoke 4 0 (serveFor mb s)) :=
  (if_neg (not_jtagOff h.1 _ _ _)).trans (if_neg (not_testRefuses h _))

theorem sourceMay_of_not_core (h : ∀ k, m ≠ .core k) (code : Nat) : sourceMay m code = true := by
  unfold sourceMay
  split
  · exact absurd rfl (h _)
  · rfl

theorem challengeBlock_of_apart (h : TndApart mb s t) (k purpose lifetime argHash nonce : Nat) :
    challengeBlock t k purpose lifetime argHash nonce = challengeBlock s k purpose lifetime argHash nonce := by
  rw [challengeBlock, h.lifecycle, h.mode, h.fuse, challengeBlock]

/-- A failed authentication is reported and locks challenges of the mailbox out. -/
def authRefused (mb : Nat) (s : State) : State :=
  (raise 51 (tndFault 0x0201 s)).setTnd { (raise 51 (tndFault 0x0201 s)).tnd with lockout := putBit (raise 51 (tndFault 0x0201 s)).tnd.lockout mb true }

theorem authFailed_eq (mb result : Nat) (s : State) : authFailed mb result s = tndAnswer result [] (authRefused mb s) := rfl

theorem authRefused_shows (h : TndServing mb s) : TndServing mb (authRefused mb s) ∧
    (authRefused mb s).tnd = { s.tnd with lockout := putBit s.tnd.lockout mb true } ∧ (authRefused mb s).sys.lastFault = 0x0201 ∧
    (authRefused mb s).dbgLevel = s.dbgLevel := by
  refine ⟨((h.tndFault _).raise (by decide)).setTnd rfl rfl, ?_, ?_, ?_⟩
  · rw [authRefused, State.tnd_setTnd, raise_tnd, tndFault_tnd]
  · rw [authRefused, State.setTnd_sys, raise_sys, tndFault_lastFault]
  · have hraised : (raise 51 (tndFault 0x0201 s)).dbgLevel = s.dbgLevel := by
      rw [State.dbgLevel, raise_get_fabric (by decide), tndFault_get (by decide), State.dbgLevel]
    exact hraised

theorem authRefused_mask {K : Parts} (kA : K.regs) (kD : K.sys) (kF : K.fab) (kS : K.tnd) (mb : Nat) (s : State) :
    (authRefused mb s).mask K = s.mask K :=
  (setTnd_mask kS _ _).trans ((raise_mask kA kF _ _).trans (tndFault_report_mask kA kD kF _ _))

/-! ### The level granted (R495, R500) -/

/-- DBG_STAT of a grant. -/
def levelShown (level mb lifetime : Nat) (s : State) : State :=
  ((s.set F.DBG_STAT.LEVEL level).set F.DBG_STAT.SOURCE mb).set F.DBG_STAT.LEFT (min lifetime 131071)

theorem grantLevel_eq (level mb lifetime : Nat) (s : State) : grantLevel level mb lifetime s =
    raise 49 ((levelShown level mb lifetime s).setTnd { (levelShown level mb lifetime s).tnd with
      expiry := lifetime != 0, grantEnd := (levelShown level mb lifetime s).fab.ts + lifetime * 100000000 }) := rfl

theorem levelShown_tnd (level mb lifetime : Nat) (s : State) : (levelShown level mb lifetime s).tnd = s.tnd := by
  rw [levelShown, State.set_tnd, State.set_tnd, State.set_tnd]

theorem grantLevel_get {f : Fld} (h : 0x30030000 ≤ f.base) (level lifetime : Nat) (s : State) (i j k : Nat) :
    (grantLevel level mb lifetime s).get f i j k = (levelShown level mb lifetime s).get f i j k := by
  rw [grantLevel_eq, raise_get_fabric ⟨by decide, h⟩]
  exact State.get_of_regs (State.setTnd_regs _ _) _ _ _ _

theorem grantLevel_tnd (level lifetime : Nat) (s : State) : (grantLevel level mb lifetime s).tnd =
    { s.tnd with expiry := lifetime != 0, grantEnd := (levelShown level mb lifetime s).fab.ts + lifetime * 100000000 } := by
  rw [grantLevel_eq, raise_tnd, State.tnd_setTnd, levelShown_tnd]

theorem grantLevel_shows {level : Nat} (hlevel : level < 4) (hmb : mb < 3) (lifetime : Nat) (s : State) :
    (grantLevel level mb lifetime s).dbgLevel = level ∧ (grantLevel level mb lifetime s).get F.DBG_STAT.SOURCE = mb ∧
    (grantLevel level mb lifetime s).get F.DBG_STAT.LEFT = min lifetime 131071 := by
  refine ⟨?_, ?_, ?_⟩
  · rw [State.dbgLevel, grantLevel_get (by decide), levelShown, State.get_set_clear (by decide), State.get_set_clear (by decide),
      State.get_set_fits (by decide) hlevel]
  · rw [grantLevel_get (by decide), levelShown, State.get_set_clear (by decide), State.get_set_fits (by decide) (by simp only [F.DBG_STAT.SOURCE]; omega)]
  · rw [grantLevel_get (by decide), levelShown, State.get_set_fits (by decide) (by simp only [F.DBG_STAT.LEFT]; omega)]

theorem TndServing.grantLevel (h : TndServing mb s) (level lifetime : Nat) : TndServing mb (grantLevel level mb lifetime s) := by
  have hne : ∀ f : Fld, f.s1 = 0 ∧ f.s2 = 0 ∧ f.s3 = 0 ∧ f.base = 0x30150000 → f.addr 0 0 0 ≠ F.TND_STAT.BUSY.addr mb 0 0 := fun f hf => by
    simp only [Fld.addr, hf.2.2.2, F.TND_STAT.BUSY]
    omega
  refine h.of_kept (by rw [grantLevel_tnd]) (by rw [grantLevel_tnd]) ?_
    (resp_of_mask (K := { regs := true, fab := true, tnd := true }) rfl (grantLevel_mask rfl rfl rfl _ _ _ _))
  rw [grantLevel_get (by decide), levelShown, State.get_set_addr _ _ _ _ _ _ _ _ _ _ (hne _ (by decide)).symm,
    State.get_set_addr _ _ _ _ _ _ _ _ _ _ (hne _ (by decide)).symm, State.get_set_addr _ _ _ _ _ _ _ _ _ _ (hne _ (by decide)).symm]

/-! ### Tinder's mirror of its own state -/

theorem tndShow_rd_above {a : Nat} (ha : 0x30050C20 ≤ a) (s : State) : (tndShow s).rd a = s.rd a := by
  have hne : ∀ f : Fld, ∀ i, i < 4 ∧ f.s1 ≤ 4 ∧ f.base + 16 ≤ 0x30050C20 → a ≠ f.addr i 0 0 := fun f i ⟨hi, hs, hf⟩ => by
    have hmul := Nat.mul_le_mul hs (Nat.le_of_lt_succ hi)
    simp only [Fld.addr]
    rw [Nat.mul_comm] at hmul
    omega
  unfold tndShow
  refine (foldl_keeps (·.rd a) _ _ (fun i hi s => set_quiet _ _ _ _ _ _ _ (hne _ i ⟨?_, by decide⟩)) _).trans ?_
  · simp only [List.mem_cons, List.not_mem_nil, or_false] at hi
    omega
  · simp only [State.setB]
    iterate 8 rw [set_quiet _ _ _ _ _ _ _ (hne _ 0 (by decide))]

theorem tndShow_tnd (s : State) : (tndShow s).tnd = s.tnd := tnd_of_mask (K := { regs := true }) rfl (tndShow_mask rfl s)

theorem tndShow_dbgLevel (s : State) : (tndShow s).dbgLevel = s.dbgLevel := State.get_of_rd (tndShow_rd_above (by decide) s)

theorem TndServing.tndShow (h : TndServing mb s) (hmb : mb < 3) : TndServing mb (tndShow s) := by
  refine h.of_kept (by rw [tndShow_tnd]) (by rw [tndShow_tnd]) (State.get_of_rd (tndShow_rd ?_ s))
    (resp_of_mask (K := { regs := true }) rfl (tndShow_mask rfl s))
  simp only [Fld.addr, F.TND_STAT.BUSY]
  omega

/-! ### PASSWORD (R498, R499) -/

theorem lockoutNow_of_unlocked (h : s.tnd.priv.lockUntil = 0) : lockoutNow s = s := if_pos h

theorem password_of_unset (hlock : s.tnd.priv.lockUntil = 0) (hpw : s.tnd.priv.pwHash = none) (hash : Nat) : password mb hash s = tndAnswer 6 [] s := by
  rw [password, lockoutNow_of_unlocked hlock]
  simp only [hpw]

/-- A wrong password is counted. -/
def passwordFailed (s : State) : State := raise 51 (tndFault 0x0202 (s.setPriv { s.tnd.priv with pwFails := s.tnd.priv.pwFails + 1 }))

/-- Passwords are locked out for an hour. -/
def passwordLocked (s : State) : State :=
  raise 52 (tndFault 0x0203 (s.setPriv { s.tnd.priv with lockUntil := s.get F.EMB_RTC_SEC.SEC + 3600 }))

/-- A wrong password, the third of which locks out. -/
def passwordRefused (s : State) : State := if s.tnd.priv.pwFails + 1 ≥ 3 then passwordLocked (passwordFailed s) else passwordFailed s

/-- A right password grants L1 where no higher level stands. -/
def passwordGranted (mb : Nat) (s : State) : State := if s.dbgLevel ≤ 1 then grantLevel 1 mb 0 s else s

/-- Where a password is set and may be tried, the hash decides. -/
theorem password_of_set {h hash : Nat} (hlock : s.tnd.priv.lockUntil = 0) (hpw : s.tnd.priv.pwHash = some h) (hoff : s.tnd.fuse.pwOff = false)
    (h0 : lifecycle s ≠ 0) (h4 : lifecycle s ≠ 4) : password mb hash s =
      if h = hash then
        tndAnswer 0 [] (tndShow (passwordGranted mb (s.setPriv { s.tnd.priv with pwFails := 0 })))
      else tndAnswer 8 [] (tndShow (passwordRefused s)) := by
  rw [password, lockoutNow_of_unlocked hlock]
  have hmay : ¬ ((s.tnd.fuse.pwOff || decide (lifecycle s = 0) || decide (lifecycle s = 4)) = true) := by simp [hoff, h0, h4]
  have hopen : ¬ ((s.tnd.priv.lockUntil != 0) = true) := by simp [hlock]
  simp only [hpw]
  rw [if_neg hmay, if_neg hopen]
  refine if_congr Iff.rfl rfl ?_
  simp only [passwordRefused, passwordLocked, passwordFailed, hpw]

theorem setPriv_tnd (s : State) (p : PrivMram) : (s.setPriv p).tnd = { s.tnd with priv := p } := rfl

theorem TndServing.setPriv (h : TndServing mb s) (p : PrivMram) : TndServing mb (s.setPriv p) := h.setTnd rfl rfl

theorem passwordFailed_tnd (s : State) : (passwordFailed s).tnd = { s.tnd with priv := { s.tnd.priv with pwFails := s.tnd.priv.pwFails + 1 } } := by
  rw [passwordFailed, raise_tnd, tndFault_tnd, setPriv_tnd]

theorem passwordFailed_get {f : Fld} (h : 0x30030000 ≤ f.base) (s : State) : (passwordFailed s).get f = s.get f := by
  rw [passwordFailed, raise_get_fabric ⟨by decide, h⟩, tndFault_get h]
  rfl

theorem passwordFailed_lastFault (s : State) : (passwordFailed s).sys.lastFault = 0x0202 := by rw [passwordFailed, raise_sys, tndFault_lastFault]

theorem passwordFailed_mask {K : Parts} (kA : K.regs) (kD : K.sys) (kF : K.fab) (kS : K.tnd) (s : State) : (passwordFailed s).mask K = s.mask K :=
  (raise_mask kA kF _ _).trans ((tndFault_report_mask kA kD kF _ _).trans (setTnd_mask kS _ _))

theorem TndServing.passwordFailed (h : TndServing mb s) : TndServing mb (passwordFailed s) := ((h.setPriv _).tndFault _).raise (by decide)

theorem passwordLocked_tnd (s : State) : (passwordLocked s).tnd =
    { s.tnd with priv := { s.tnd.priv with lockUntil := s.get F.EMB_RTC_SEC.SEC + 3600 } } := by
  rw [passwordLocked, raise_tnd, tndFault_tnd, setPriv_tnd]

theorem passwordLocked_dbgLevel (s : State) : (passwordLocked s).dbgLevel = s.dbgLevel := by
  rw [State.dbgLevel, passwordLocked, raise_get_fabric (by decide), tndFault_get (by decide)]
  rfl

theorem passwordLocked_lastFault (s : State) : (passwordLocked s).sys.lastFault = 0x0203 := by rw [passwordLocked, raise_sys, tndFault_lastFault]

theorem passwordLocked_mask {K : Parts} (kA : K.regs) (kD : K.sys) (kF : K.fab) (kS : K.tnd) (s : State) : (passwordLocked s).mask K = s.mask K :=
  (raise_mask kA kF _ _).trans ((tndFault_report_mask kA kD kF _ _).trans (setTnd_mask kS _ _))

theorem TndServing.passwordLocked (h : TndServing mb s) : TndServing mb (passwordLocked s) := ((h.setPriv _).tndFault _).raise (by decide)

theorem passwordGranted_shows (h : TndServing mb s) (hmb : mb < 3) : TndServing mb (passwordGranted mb s) ∧
    (passwordGranted mb s).tnd.priv = s.tnd.priv ∧ (passwordGranted mb s).dbgLevel = max 1 s.dbgLevel := by
  unfold passwordGranted
  split
  · rename_i hlow
    exact ⟨h.grantLevel _ _, by rw [grantLevel_tnd], by rw [(grantLevel_shows (by decide) hmb 0 s).1, Nat.max_eq_left hlow]⟩
  · exact ⟨h, rfl, by omega⟩

theorem passwordGranted_mask {K : Parts} (kA : K.regs) (kF : K.fab) (kS : K.tnd) (mb : Nat) (s : State) : (passwordGranted mb s).mask K = s.mask K :=
  ite_keeps (p := State.mask K) (grantLevel_mask kA kF kS _ _ _ _)

theorem passwordRefused_shows (h : TndServing mb s) : TndServing mb (passwordRefused s) ∧
    (passwordRefused s).tnd.priv.pwFails = s.tnd.priv.pwFails + 1 ∧
    (passwordRefused s).tnd.priv.lockUntil = (if 3 ≤ s.tnd.priv.pwFails + 1 then s.get F.EMB_RTC_SEC.SEC + 3600 else s.tnd.priv.lockUntil) ∧
    (passwordRefused s).sys.lastFault = (if 3 ≤ s.tnd.priv.pwFails + 1 then 0x0203 else 0x0202) ∧ (passwordRefused s).dbgLevel = s.dbgLevel := by
  have hlevel : (passwordFailed s).dbgLevel = s.dbgLevel := passwordFailed_get (by decide) s
  unfold passwordRefused
  split
  · exact ⟨h.passwordFailed.passwordLocked, by rw [passwordLocked_tnd, passwordFailed_tnd],
      by rw [passwordLocked_tnd, passwordFailed_get (by decide)], passwordLocked_lastFault _,
      (passwordLocked_dbgLevel _).trans hlevel⟩
  · exact ⟨h.passwordFailed, by rw [passwordFailed_tnd], by rw [passwordFailed_tnd], passwordFailed_lastFault _, hlevel⟩

theorem passwordRefused_mask {K : Parts} (kA : K.regs) (kD : K.sys) (kF : K.fab) (kS : K.tnd) (s : State) : (passwordRefused s).mask K = s.mask K := by
  unfold passwordRefused
  split
  · exact (passwordLocked_mask kA kD kF kS _).trans (passwordFailed_mask kA kD kF kS _)
  · exact passwordFailed_mask kA kD kF kS _

/-! ### CLOSE and a command's end (R487, R500) -/

theorem debugRevoke_tnd (cause level : Nat) (s : State) : (debugRevoke cause level s).tnd = { s.tnd with expiry := (debugRevoke cause level s).tnd.expiry } := by
  unfold debugRevoke
  split
  · rfl
  · dsimp only
    rw [raise_tnd, xcpEnd_tnd, releaseHalts_tnd]
    rfl

theorem TndServing.debugRevoke (h : TndServing mb s) (hmb : mb < 3) (cause level : Nat) : TndServing mb (debugRevoke cause level s) := by
  refine h.of_kept (by rw [debugRevoke_tnd]) (by rw [debugRevoke_tnd]) (State.get_of_rd ?_)
    (resp_of_mask (K := { regs := true, fab := true, spx := true, tnd := true, xcp := true }) rfl (debugRevoke_mask rfl rfl rfl rfl rfl _ _ _))
  have hbusy : ∀ f : Fld, f.s1 = 0 ∧ f.s2 = 0 ∧ f.s3 = 0 ∧ f.base = 0x30150000 → F.TND_STAT.BUSY.addr mb 0 0 ≠ f.addr 0 0 0 := fun f hf => by
    simp only [Fld.addr, hf.2.2.2, F.TND_STAT.BUSY]
    omega
  rw [debugRevoke_rd (by simp only [Quiet, Fld.addr, F.TND_STAT.BUSY]; omega) (by simp only [Fld.addr, F.TND_STAT.BUSY, F.DBG_HALT.HALT]; omega)
    (by simp only [Fld.addr, F.TND_STAT.BUSY, F.SPX_STAT.STATE]; omega) (by simp only [Fld.addr, F.TND_STAT.BUSY, F.SPX_STAT.STATE]; omega), levelWritten]
  refine ite_eq_left_iff.mpr fun _ => ?_
  rw [set_quiet _ _ _ _ _ _ _ (hbusy _ (by decide)), set_quiet _ _ _ _ _ _ _ (hbusy _ (by decide)), set_quiet _ _ _ _ _ _ _ (hbusy _ (by decide)),
    set_quiet _ _ _ _ _ _ _ (hbusy _ (by decide))]

theorem serveNext_of_none (h : s.tnd.waiting = []) (first : Nat) : serveNext first s = s := by
  simp [serveNext, h, SMap.get]

theorem dataOut_rd {a : Nat} (h : ∀ i, i < 64 → a ≠ F.TND_DATA.DATA.addr mb i 0) (out : List Byte) (s : State) : (dataOut mb out s).rd a = s.rd a := by
  refine foldl_keeps (·.rd a) _ _ (fun i hi u => set_quiet _ _ _ _ _ _ _ (h i ?_)) s
  have hi := List.mem_range.mp hi
  omega

theorem fromBytes_lt (l : List Byte) : fromBytes l < 2 ^ (8 * l.length) := by
  induction l with
  | nil => decide
  | cons b r ih =>
    have hb := b.isLt
    rw [fromBytes, List.length_cons, Nat.mul_succ, Nat.pow_add]
    omega

/-- TND_DATA holds what the command returned. -/
theorem dataOut_word {i : Nat} (out : List Byte) (hi : 4 * i < min out.length 256) (s : State) :
    (dataOut mb out s).get F.TND_DATA.DATA mb i = fromBytes ((out.drop (4 * i)).take 4) := by
  have hwrite : ∀ u : State, (u.set F.TND_DATA.DATA (fromBytes ((out.drop (4 * i)).take 4)) mb i).get F.TND_DATA.DATA mb i =
      fromBytes ((out.drop (4 * i)).take 4) := fun u => by
    have hlt := fromBytes_lt ((out.drop (4 * i)).take 4)
    have hlen : ((out.drop (4 * i)).take 4).length ≤ 4 := by rw [List.length_take]; omega
    exact State.get_set_fits (by decide) (Nat.lt_of_lt_of_le hlt (Nat.pow_le_pow_right (by decide) (by simp only [F.TND_DATA.DATA]; omega))) _ _ _ _
  refine foldl_attains (P := fun u => u.get F.TND_DATA.DATA mb i = fromBytes ((out.drop (4 * i)).take 4)) (x := i)
    (List.mem_range.mpr (by omega)) hwrite (fun j u h => ?_) s
  by_cases hj : j = i
  · subst hj
    exact hwrite u
  · refine (State.get_set_addr _ _ _ _ _ _ _ _ _ _ ?_).trans h
    simp only [Fld.addr, F.TND_DATA.DATA]
    omega

/-- TND_STAT and TND_DATA of a completed command. -/
def outcomeShown (mb : Nat) (d : TndDone) (s : State) : State :=
  ((dataOut mb d.out ((s.set F.TND_STAT.RESULT d.result mb).set F.TND_STAT.OUT_LEN (min d.out.length 256) mb)).set F.TND_STAT.DONE 1 mb).set
    F.TND_STAT.BUSY 0 mb

theorem outcomeShown_mask {K : Parts} (kA : K.regs) (mb : Nat) (d : TndDone) (s : State) : (outcomeShown mb d s).mask K = s.mask K := by
  rw [outcomeShown, set_mask kA, set_mask kA, dataOut_mask kA, set_mask kA, set_mask kA]

theorem outcomeShown_shows (d : TndDone) (s : State) :
    (outcomeShown mb d s).get F.TND_STAT.RESULT mb = d.result % 256 ∧ (outcomeShown mb d s).get F.TND_STAT.OUT_LEN mb = min d.out.length 256 ∧
    (outcomeShown mb d s).get F.TND_STAT.DONE mb = 1 ∧ (outcomeShown mb d s).get F.TND_STAT.BUSY mb = 0 := by
  have hdata : ∀ (f : Fld) (u : State), f.addr mb 0 0 = F.TND_STAT.BUSY.addr mb 0 0 → (dataOut mb d.out u).get f mb = u.get f mb := fun f u hf => by
    refine State.get_of_rd (dataOut_rd (fun i hi => ?_) _ _)
    rw [hf]
    simp only [Fld.addr, F.TND_STAT.BUSY, F.TND_DATA.DATA]
    omega
  refine ⟨?_, ?_, ?_, ?_⟩
  · rw [outcomeShown, State.get_set_clear (by decide), State.get_set_clear (by decide), hdata F.TND_STAT.RESULT _ rfl, State.get_set_clear (by decide),
      State.get_set_self _ _ _ _ _ _ (by decide) (by decide)]
    rfl
  · rw [outcomeShown, State.get_set_clear (by decide), State.get_set_clear (by decide), hdata F.TND_STAT.OUT_LEN _ rfl,
      State.get_set_fits (by decide) (by simp only [F.TND_STAT.OUT_LEN]; omega)]
  · rw [outcomeShown, State.get_set_clear (by decide), State.get_set_one _ _ _ _ _ (by decide) (by decide)]
  · rw [outcomeShown, State.get_set_zero _ _ _ _ _ (by decide) (by decide)]

theorem outcomeShown_word {i : Nat} (hi : i < 64) {d : TndDone} (hlen : 4 * i < min d.out.length 256) (s : State) :
    (outcomeShown mb d s).get F.TND_DATA.DATA mb i = fromBytes ((d.out.drop (4 * i)).take 4) := by
  have hne : ∀ f : Fld, f.addr mb 0 0 = F.TND_STAT.BUSY.addr mb 0 0 → F.TND_DATA.DATA.addr mb i 0 ≠ f.addr mb 0 0 := fun f hf => by
    rw [hf]
    simp only [Fld.addr, F.TND_STAT.BUSY, F.TND_DATA.DATA]
    omega
  rw [outcomeShown, State.get_set_addr _ _ _ _ _ _ _ _ _ _ (hne _ rfl), State.get_set_addr _ _ _ _ _ _ _ _ _ _ (hne F.TND_STAT.DONE rfl),
    dataOut_word _ hlen]

/-- A command's end with nothing else waiting, outside a self-test. -/
theorem execTndCommandDone_of_done {d : TndDone} (hserving : s.tnd.serving = some (mb, d)) (hdone : d.wait = false) (hw : s.tnd.waiting = [])
    (htest : s.olt.test = none) : execTndCommandDone s = .next (raise 48 ((outcomeShown mb d s).setTnd { s.tnd with serving := none })) := by
  have hkept := outcomeShown_mask (K := { regs := true }) rfl mb d s
  have htnd : (outcomeShown mb d s).tnd = s.tnd := tnd_of_mask (K := { regs := true }) rfl hkept
  have holt : (outcomeShown mb d s).olt = s.olt := olt_of_mask (K := { regs := true }) rfl hkept
  have hself : selfTestEnd ((outcomeShown mb d s).setTnd { s.tnd with serving := none }) = (outcomeShown mb d s).setTnd { s.tnd with serving := none } := by
    rw [selfTestEnd, State.setTnd_olt, holt, htest]
  rw [execTndCommandDone, hserving]
  simp only [hdone, Bool.false_eq_true, if_false]
  show Host.Outcome.next (serveNext (mb + 1) (raise 48 (selfTestEnd ((outcomeShown mb d s).setTnd { (outcomeShown mb d s).tnd with serving := none })))) = _
  rw [htnd, hself, serveNext_of_none]
  rw [raise_tnd]
  exact hw

end

/-- A response to the pending challenge of mailbox `mb` that authenticates for purpose `r`. -/
structure TndAsks (s : State) (m : Master) (mb r life : Nat) (a : AuthIn) : Prop where
  accepts : TndAccepts s m mb
  outside : ∀ k, m ≠ .core k
  pending : SMap.get none s.tnd.chal mb = some ⟨r, life, a.argHash⟩
  signed : a.sigOk = true
  slot : ∃ k : Fin 4, SMap.get 0 s.tnd.fuse.keyHash k.val = a.keyHash ∧ a.keyHash ≠ 0 ∧ (SMap.get 0 s.tnd.fuse.role k.val).testBit 1 = true ∧
    s.tnd.fuse.revoked.testBit k.val = false

section
variable {s : State} {m : Master} {mb r life : Nat} {a : AuthIn}

theorem TndAsks.pending_taken (h : TndAsks s m mb r life a) : SMap.get none (taken mb s).tnd.chal mb = some ⟨r, life, a.argHash⟩ := by
  rw [taken_tnd]
  exact h.pending

theorem TndAsks.known (h : TndAsks s m mb r life a) : keyKnown (taken mb s) a.keyHash = true :=
  keyKnown_of_slot (by rw [taken_tnd]; exact h.slot)

theorem TndAsks.serving (h : TndAsks s m mb r life a) : TndServing mb (consumed mb (taken mb s)) := (taken_serving h.accepts.waiting).consumed

theorem tndCommit_response (h : TndAccepts s m mb) (hmb : mb < 3) (hout : ∀ k, m ≠ .core k) (a : AuthIn) (arg : PrivArg) :
    tndCommit m mb (.response a arg) s = .next (response mb a arg (taken mb s)) :=
  tndCommit_of_accepted h hmb (sourceMay_of_not_core hout _) (runCommand_response a arg)

end

/-- Settles O45: a committed command is carried out in its branch, and what it answers stands until its end. -/
theorem tinderMailboxes : Obligations.TinderMailboxes := by
  unfold Obligations.TinderMailboxes
  intro s m mb purpose lifetime argHash nonce hash life p a arg code d i
  extract_lets acc served asks src done_ h fails level asked
  have hmb := mb.isLt
  have hacc : acc → TndAccepts s m mb.val := fun ⟨h1, h2, h3, h4, h5, h6, h7, h8⟩ => ⟨⟨h1, h2, h3, h4, h5, h6, h8⟩, h7⟩
  have hasks : ∀ {r : Nat}, asks r → TndAsks s m mb.val r life a := fun ⟨ha, hout, hchal, hsig, hslot⟩ => ⟨hacc ha, hout, hchal, hsig, hslot⟩
  have hdone : ∀ {c : Instr} {r : Nat} {out : List Byte}, acc → exec c s = .next (tndAnswer r out (taken mb.val s)) → Runs c s (done_ r out) :=
    fun ha hrun => ⟨_, hrun, tndAnswer_taken_done (hacc ha).waiting _ _⟩
  have hdbg : ∀ (r : Nat) (out : List Byte) (u : State), (tndAnswer r out u).dbgLevel = u.dbgLevel := fun r out u =>
    State.get_of_regs (tndAnswer_regs _ _ _) _ _ _ _
  refine ⟨fun ha => ?info, fun ha hout => ?bad, fun hready hwriter hbusy => ?busy, fun hwriter => ?foreign, fun ha hout hlock hrng hpur hlife => ?challenge,
    fun ha hout hlock => ?lockedOut, fun ha hout hnone => ?noChallenge, fun hl hmay hcond hlow => ?granted, fun hl hno => ?refused, fun ha => ?forged,
    fun hset hpw => ?password, fun hset hpw => ?wrong, fun ha hout hpw hlock => ?unset, fun ha hout => ?close, fun hserving hwait hw htest => ?ended,
    ⟨_, rfl, rfl⟩, ⟨_, rfl, rfl⟩, fun hready hrng => ?health⟩
  case info =>
    have hsrc : sourceMay m (codeOf .getInfo) = true := by cases m <;> rfl
    have hbytes : infoBytes (taken mb.val s) = infoBytes s := by
      rw [infoBytes, (taken_apart _ _).lifecycle, (taken_apart _ _).fuse, infoBytes]
    have hrun : exec (.getInfo m mb) s = .next (tndAnswer 0 (infoBytes (taken mb.val s)) (taken mb.val s)) :=
      tndCommit_of_accepted (hacc ha) hmb hsrc (f := fun u => tndAnswer 0 (infoBytes u) u) runCommand_getInfo
    rw [hbytes] at hrun
    exact hdone ha hrun
  case bad =>
    have hcode : (if code.toNat < 256 then TndCommand.bad else .getInfo) = .bad := if_pos code.isLt
    have hrun : exec (.tndBadCommand m mb code) s = .next (tndAnswer 1 [] (taken mb.val s)) := by
      show tndCommit m mb.val _ s = _
      rw [hcode]
      exact tndCommit_of_accepted (hacc ha) hmb (sourceMay_of_not_core hout _) runCommand_bad
    exact hdone ha hrun
  case busy =>
    have hbusy' : (s.answer .done).getB F.TND_STAT.BUSY mb.val = true := (State.getB_of_get (State.get_answer _ _ _ _ _ _)).trans hbusy
    exact ⟨_, rfl, (if_neg (by simp [hready, hwriter])).trans (if_pos hbusy')⟩
  case foreign => exact ⟨_, rfl, if_pos (by simp [hwriter])⟩
  case challenge =>
    have hlife' : lifetime.toNat ≠ 0 ∨ lifecycle (taken mb.val s) = 1 ∨ lifecycle (taken mb.val s) = 3 := by
      rw [(taken_apart _ _).lifecycle]
      exact hlife.imp_left (fun hne h0 => hne (BitVec.eq_of_toNat_eq h0))
    have hform := challenge_of_allowed (s := taken mb.val s) (argHash := argHash) (nonce := nonce) (by rwa [taken_tnd]) (by rwa [taken_tnd]) hpur hlife'
    rw [challengeBlock_of_apart (taken_apart _ _)] at hform
    have hrun := (tndCommit_of_accepted (hacc ha) hmb (sourceMay_of_not_core hout _) (runCommand_challenge _ _ _ _)).trans (congrArg Host.Outcome.next hform)
    have hserving := (taken_serving (mb := mb.val) (hacc ha).waiting).setTnd (x := { (taken mb.val s).tnd with
      chal := SMap.put none (taken mb.val s).tnd.chal mb.val (some ⟨purpose.toNat, lifetime.toNat, h⟩) }) rfl rfl
    refine ⟨_, hrun, tndAnswer_served hserving _ _, ?_, (tndAnswer_mask rfl _ _ _).trans ((setTnd_mask rfl _ _).trans (taken_mask rfl rfl rfl _ _))⟩
    rw [tndAnswer_tnd hserving]
    exact SMap.get_put_self _ _ _ _
  case lockedOut =>
    have hrun : exec (.challenge m mb purpose lifetime argHash nonce) s = .next (tndAnswer 2 [] (taken mb.val s)) :=
      (tndCommit_of_accepted (hacc ha) hmb (sourceMay_of_not_core hout _) (runCommand_challenge _ _ _ _)).trans
        (congrArg Host.Outcome.next (challenge_of_lockedOut (by rwa [taken_tnd]) _ _ _ _))
    exact hdone ha hrun
  case noChallenge =>
    have hrun : exec (.response m mb a arg) s = .next (tndAnswer 4 [] (taken mb.val s)) :=
      (tndCommit_response (hacc ha) hmb hout a arg).trans (congrArg Host.Outcome.next (response_of_none (by rwa [taken_tnd]) a arg))
    exact hdone ha hrun
  case granted =>
    obtain ⟨ha, hpos, hp⟩ := hl
    have hk := hasks ha
    have hap := consumed_apart mb.val s
    have hform := response_of_level hk.pending_taken hk.known hk.signed hp arg
    have hpermitted : ¬ ((decide (challengeLevel (consumed mb.val (taken mb.val s)) < p) || (p == 2 && !l2Cond (consumed mb.val (taken mb.val s)))) = true) := by
      rw [hap.challengeLevel, hap.l2Cond hmb]
      simp only [Bool.or_eq_true, decide_eq_true_eq, Bool.and_eq_true, beq_iff_eq, Bool.not_eq_true', not_or, not_and]
      exact ⟨by omega, fun h2 => by simp [hcond h2]⟩
    rw [if_neg hpermitted, if_neg (by rw [hap.dbgLevel hmb]; exact Nat.not_lt.mpr hlow)] at hform
    have hrun := (tndCommit_response hk.accepts hmb hk.outside a arg).trans (congrArg Host.Outcome.next hform)
    have hserving := hk.serving.grantLevel p life
    obtain ⟨hlevel, hsource, hleft⟩ := grantLevel_shows (level := p) (mb := mb.val) (by omega) hmb life (consumed mb.val (taken mb.val s))
    refine ⟨_, hrun, tndAnswer_served hserving _ _, ?_, ?_, ?_, ?_, ?_,
      (tndAnswer_mask rfl _ _ _).trans ((grantLevel_mask rfl rfl rfl _ _ _ _).trans (consumed_mask rfl rfl rfl _ _))⟩
    · rw [hdbg, hlevel]
    · rw [State.get_of_regs (tndAnswer_regs _ _ _), hsource]
    · rw [State.get_of_regs (tndAnswer_regs _ _ _), hleft]
    · rw [tndAnswer_tnd hserving, grantLevel_tnd]
      exact consumed_chal _ _
    · rw [tndAnswer_tnd hserving, grantLevel_tnd]
  case refused =>
    obtain ⟨ha, hpos, hp⟩ := hl
    have hk := hasks ha
    have hap := consumed_apart mb.val s
    have hform := response_of_level hk.pending_taken hk.known hk.signed hp arg
    rw [if_pos (by rw [hap.challengeLevel]; simp [hno]), hap.levelRefusal] at hform
    have hrun := (tndCommit_response hk.accepts hmb hk.outside a arg).trans (congrArg Host.Outcome.next hform)
    refine ⟨_, hrun, tndAnswer_served hk.serving _ _, (hdbg _ _ _).trans (hap.dbgLevel hmb), ?_,
      (tndAnswer_mask rfl _ _ _).trans (consumed_mask rfl rfl rfl _ _)⟩
    rw [tndAnswer_tnd hk.serving]
    exact consumed_chal _ _
  case forged =>
    have hk := hasks ha
    have hap := consumed_apart mb.val s
    have hform := response_of_forged (a := { a with sigOk := false }) hk.pending_taken hk.known rfl arg
    rw [authFailed_eq] at hform
    have hrun := (tndCommit_response hk.accepts hmb hk.outside { a with sigOk := false } arg).trans (congrArg Host.Outcome.next hform)
    obtain ⟨hserving, htnd, hfault, hlevel⟩ := authRefused_shows hk.serving
    refine ⟨_, hrun, tndAnswer_served hserving _ _, ?_, ?_, ?_, ?_, (tndAnswer_mask rfl _ _ _).trans
      ((authRefused_mask rfl rfl rfl rfl _ _).trans (consumed_mask rfl rfl rfl _ _))⟩
    · rw [tndAnswer_tnd hserving, htnd]
      exact testBit_putBit_self (consumed mb.val (taken mb.val s)).tnd.lockout mb.val true
    · rw [tndAnswer_sys]
      exact hfault
    · exact (hdbg _ _ _).trans (hlevel.trans (hap.dbgLevel hmb))
    · rw [tndAnswer_tnd hserving, htnd]
      exact consumed_chal _ _
  case password =>
    obtain ⟨ha, hout, hlock, hoff, h0, h4⟩ := hset
    have hap := taken_apart mb.val s
    have hform := password_of_set (mb := mb.val) (s := taken mb.val s) (h := hash) (hash := hash) (by rwa [taken_tnd]) (by rwa [taken_tnd]) (by rwa [taken_tnd])
      (by rwa [hap.lifecycle]) (by rwa [hap.lifecycle])
    rw [if_pos rfl] at hform
    have hrun := (tndCommit_of_accepted (hacc ha) hmb (sourceMay_of_not_core hout _) (runCommand_password hash)).trans (congrArg Host.Outcome.next hform)
    obtain ⟨hserving, hpriv, hlevel⟩ := passwordGranted_shows ((taken_serving (mb := mb.val) (hacc ha).waiting).setPriv
      { (taken mb.val s).tnd.priv with pwFails := 0 }) hmb
    refine ⟨_, hrun, tndAnswer_served (hserving.tndShow hmb) _ _, ?_, ?_, (tndAnswer_mask rfl _ _ _).trans ((tndShow_mask rfl _).trans
      ((passwordGranted_mask rfl rfl rfl _ _).trans ((setTnd_mask rfl _ _).trans (taken_mask rfl rfl rfl _ _))))⟩
    · rw [tndAnswer_tnd (hserving.tndShow hmb), tndShow_tnd]
      refine hpriv.trans ?_
      rw [setPriv_tnd, taken_tnd]
    · rw [hdbg, tndShow_dbgLevel]
      exact hlevel.trans (congrArg (max 1) (hap.dbgLevel hmb))
  case wrong =>
    obtain ⟨ha, hout, hlock, hoff, h0, h4⟩ := hset
    obtain ⟨k, hpw, hne⟩ := hpw
    have hap := taken_apart mb.val s
    have hsec : (taken mb.val s).get F.EMB_RTC_SEC.SEC = s.get F.EMB_RTC_SEC.SEC :=
      hap.get (by simp only [Fld.addr, F.EMB_RTC_SEC.SEC, F.TND_STAT.BUSY]; omega)
    have hpriv : (taken mb.val s).tnd.priv = s.tnd.priv := by rw [taken_tnd]
    have hform := password_of_set (mb := mb.val) (s := taken mb.val s) (h := k) (hash := hash) (by rwa [taken_tnd]) (by rwa [taken_tnd]) (by rwa [taken_tnd])
      (by rwa [hap.lifecycle]) (by rwa [hap.lifecycle])
    rw [if_neg hne] at hform
    have hrun := (tndCommit_of_accepted (hacc ha) hmb (sourceMay_of_not_core hout _) (runCommand_password hash)).trans (congrArg Host.Outcome.next hform)
    obtain ⟨hserving, hfails, huntil, hfault, hlevel⟩ := passwordRefused_shows (taken_serving (mb := mb.val) (hacc ha).waiting)
    refine ⟨_, hrun, tndAnswer_served (hserving.tndShow hmb) _ _, ?_, ?_, ?_, ?_, (tndAnswer_mask rfl _ _ _).trans ((tndShow_mask rfl _).trans
      ((passwordRefused_mask rfl rfl rfl rfl _).trans (taken_mask rfl rfl rfl _ _)))⟩
    · rw [tndAnswer_tnd (hserving.tndShow hmb), tndShow_tnd]
      exact hfails.trans (by rw [hpriv])
    · rw [tndAnswer_tnd (hserving.tndShow hmb), tndShow_tnd]
      refine huntil.trans ?_
      rw [hpriv, hsec, hlock]
    · rw [tndAnswer_sys, tndShow_sys]
      exact hfault.trans (by rw [hpriv])
    · rw [hdbg, tndShow_dbgLevel]
      exact hlevel.trans (hap.dbgLevel hmb)
  case unset =>
    have hrun : exec (.password m mb hash) s = .next (tndAnswer 6 [] (taken mb.val s)) :=
      (tndCommit_of_accepted (hacc ha) hmb (sourceMay_of_not_core hout _) (runCommand_password _)).trans
        (congrArg Host.Outcome.next (password_of_unset (by rwa [taken_tnd]) (by rwa [taken_tnd]) hash))
    exact hdone ha hrun
  case close =>
    have hrun : exec (.close m mb) s = .next (tndAnswer 0 [] (debugRevoke 4 0 (taken mb.val s))) :=
      tndCommit_of_accepted (hacc ha) hmb (sourceMay_of_not_core hout _) (f := fun u => tndAnswer 0 [] (debugRevoke 4 0 u)) runCommand_close
    have hserving := (taken_serving (mb := mb.val) (hacc ha).waiting).debugRevoke hmb 4 0
    exact ⟨_, hrun, tndAnswer_served hserving _ _, (hdbg _ _ _).trans (Nat.le_zero.mp (debugRevoke_dbgLevel_le _ _)),
      (tndAnswer_mask rfl _ _ _).trans ((debugRevoke_mask rfl rfl rfl rfl rfl _ _ _).trans (taken_mask rfl rfl rfl _ _))⟩
  case ended =>
    have hrun := execTndCommandDone_of_done hserving hwait hw htest
    have hget : ∀ {f : Fld} (j : Nat), 0x30030000 ≤ f.base → (raise 48 ((outcomeShown mb.val d s).setTnd { s.tnd with serving := none })).get f mb.val j =
        (outcomeShown mb.val d s).get f mb.val j := fun {f} j hf => by
      rw [raise_get_fabric ⟨by decide, hf⟩]
      exact State.get_of_regs (State.setTnd_regs _ _) _ _ _ _
    obtain ⟨hresult, hlen, hshown, hbusy⟩ := outcomeShown_shows (mb := mb.val) d s
    refine ⟨_, hrun, ?_, ?_, ?_, ?_, fun hi => ?_, ?_, ?_⟩
    · rw [hget _ (by decide), hresult]
    · rw [hget _ (by decide), hlen]
    · rw [hget _ (by decide), hshown]
    · rw [hget _ (by decide), hbusy]
    · rw [hget _ (by decide), outcomeShown_word i.isLt hi]
    · rw [raise_tnd, State.tnd_setTnd]
    · exact (raise_mask rfl rfl _ _).trans ((setTnd_mask rfl _ _).trans (outcomeShown_mask rfl _ _ _))
  case health =>
    have hrun : exec .healthTestFail s = .next ((tndFault 0x0204 s).setTnd { (tndFault 0x0204 s).tnd with rngBad := true }) :=
      congrArg Host.Outcome.next (if_pos (by simp [hready, hrng]))
    refine ⟨_, hrun, ?_, ?_, execHealthTestFail_mask rfl rfl rfl rfl rfl s hrun⟩
    · rw [State.tnd_setTnd, tndFault_tnd]
    · rw [State.setTnd_sys, tndFault_lastFault]

end Sys2Proof.Machine

/-! ## Tinder's privileged commands, key imports and the self-test (R487 to R492, R498). -/

namespace Sys2Proof.Machine
open Sys2Proof

section
variable {s t : State} {m : Master} {mb r life : Nat} {a : AuthIn}

/-! ### Where a privileged command is permitted (R503) -/

theorem challengeLevel_of_blank (h : lifecycle s = 0) : challengeLevel s = 0 := by
  unfold challengeLevel
  rw [h]
  rfl

theorem challengeLevel_le (s : State) : challengeLevel s ≤ 3 := by
  unfold challengeLevel
  split <;> decide

theorem privCell_of_level (h : 3 ≤ challengeLevel s) : privCell s = true := by
  have hlc : lifecycle s ≠ 0 := fun h0 => by
    rw [challengeLevel_of_blank h0] at h
    omega
  have heq : challengeLevel s = 3 := Nat.le_antisymm (challengeLevel_le s) h
  rw [privCell, if_neg hlc, heq]
  rfl

/-- A privileged command that comes as an authenticated response is carried out. -/
theorem tndCommit_privileged (h : TndAsks s m mb r life a) (hmb : mb < 3) {arg : PrivArg} (hr : 3 < r) (harg : purposeOf arg = r)
    (hcell : r = 0x30 ∨ 3 ≤ challengeLevel s) : tndCommit m mb (.response a arg) s =
      .next (tndAnswer (privileged arg (consumed mb (taken mb s))).1 [] (privileged arg (consumed mb (taken mb s))).2) := by
  refine (tndCommit_response h.accepts hmb h.outside a arg).trans (congrArg Host.Outcome.next ?_)
  refine response_of_privileged h.pending_taken h.known h.signed hr rfl harg (hcell.imp_right fun hlevel => ?_)
  exact privCell_of_level (by rwa [(consumed_apart mb s).challengeLevel])

theorem TndServing.setFuse (h : TndServing mb s) (f : FuseSt) : TndServing mb (s.setFuse f) := h.setTnd rfl rfl

theorem consumed_priv (mb : Nat) (s : State) : (consumed mb (taken mb s)).tnd.priv = s.tnd.priv := by rw [consumed_tnd, taken_tnd]

theorem setFuse_tnd (s : State) (f : FuseSt) : (s.setFuse f).tnd = { s.tnd with fuse := f } := rfl

/-! ### Freshness values (R477, R498) -/

theorem fromBytes_toBytes {n v : Nat} (hv : v < 256 ^ n) : fromBytes (toBytes n v) = v := by
  induction n generalizing v with
  | zero =>
    rw [Nat.pow_zero] at hv
    rw [toBytes, fromBytes]
    omega
  | succ n ih =>
    rw [Nat.pow_succ] at hv
    rw [toBytes, fromBytes, ih (by omega), BitVec.toNat_ofNat]
    omega

theorem load_store (s : State) (k : Nat) {n v : Nat} (hv : v < 256 ^ n) : (s.store k n v).load k n = v := by
  rw [State.load, State.bytes_store, fromBytes_toBytes hv]

theorem freshSet_tnd (d : Nat) (tx : Bool) (v : Nat) (s : State) : (freshSet d tx v s).tnd = s.tnd :=
  tnd_of_mask (K := { mem := true, bus := true }) rfl (freshSet_mask rfl rfl d tx v s)

theorem freshSet_regs (d : Nat) (tx : Bool) (v : Nat) (s : State) : (freshSet d tx v s).regs = s.regs :=
  regs_of_mask (K := { mem := true, bus := true }) rfl (freshSet_mask rfl rfl d tx v s)

theorem freshSet_resp (d : Nat) (tx : Bool) (v : Nat) (s : State) : (freshSet d tx v s).resp = s.resp :=
  resp_of_mask (K := { mem := true, bus := true }) rfl (freshSet_mask rfl rfl d tx v s)

theorem TndServing.freshSet (h : TndServing mb s) (d : Nat) (tx : Bool) (v : Nat) : TndServing mb (freshSet d tx v s) :=
  h.of_kept (by rw [freshSet_tnd]) (by rw [freshSet_tnd]) (State.get_of_regs (freshSet_regs _ _ _ _) _ _ _ _) (freshSet_resp _ _ _ _)

theorem freshSet_mem (d : Nat) (tx : Bool) (v : Nat) (s : State) : (freshSet d tx v s).mem = (s.store (freshKey tx d) 4 v).mem := by
  cases tx <;> rfl

theorem freshSet_last (d v : Nat) (s : State) : SMap.get 0 (freshSet d false v s).bus.reel.last d = v := SMap.get_put_self _ _ _ _

theorem freshSet_txF (d v : Nat) (s : State) : SMap.get 0 (freshSet d true v s).bus.reel.txF d = v := SMap.get_put_self _ _ _ _

/-! ### The lifecycle (R491, R492) -/

theorem lifecycle_eq (s : State) : lifecycle s = if s.tnd.fuse.lc.getD 3 0 ≥ 2 then 4 else if s.tnd.fuse.lc.getD 2 0 ≥ 2 then 3 else
    if s.tnd.fuse.lc.getD 1 0 ≥ 2 then 2 else if s.tnd.fuse.lc.getD 0 0 ≥ 2 then 1 else 0 := rfl

theorem lcStep_lt {target : Nat} (h : lcStep s target = true) : lifecycle s < target ∧ target ≤ 4 := by
  unfold lcStep at h
  split at h
  case h_7 => exact absurd h (by decide)
  all_goals omega

/-- The lifecycle shows the highest state of which two copies are blown. -/
theorem lifecycle_of_top {k : Nat} (hk : 1 ≤ k ∧ k ≤ 4) (htop : 2 ≤ s.tnd.fuse.lc.getD (k - 1) 0)
    (habove : ∀ j, k < j → j ≤ 4 → s.tnd.fuse.lc.getD (j - 1) 0 < 2) : lifecycle s = k := by
  rw [lifecycle_eq]
  have h2 := habove 2
  have h3 := habove 3
  have h4 := habove 4
  have hcases : k = 1 ∨ k = 2 ∨ k = 3 ∨ k = 4 := by omega
  rcases hcases with rfl | rfl | rfl | rfl <;> simp only [Nat.add_one_sub_one] at * <;> split_ifs <;> omega

theorem unblown_above {j : Nat} (h : lifecycle s < j) (hj : j ≤ 4) : s.tnd.fuse.lc.getD (j - 1) 0 < 2 := by
  rw [lifecycle_eq] at h
  have hcases : j = 0 ∨ j = 1 ∨ j = 2 ∨ j = 3 ∨ j = 4 := by omega
  rcases hcases with rfl | rfl | rfl | rfl | rfl <;> split_ifs at h <;> simp only [Nat.reduceSub] <;> omega

/-- Three copies of the bit of state `target` are blown. -/
def stepBlown (target : Nat) (s : State) : State :=
  s.setFuse { s.tnd.fuse with lc := s.tnd.fuse.lc.set (target - 1) (max (s.tnd.fuse.lc.getD (target - 1) 0) 3) }

theorem stepBlown_lifecycle {target : Nat} (h : lifecycle s < target) (ht : target ≤ 4) (hlen : s.tnd.fuse.lc.length = 4) :
    lifecycle (stepBlown target s) = target := by
  have hlc : (stepBlown target s).tnd.fuse.lc = s.tnd.fuse.lc.set (target - 1) (max (s.tnd.fuse.lc.getD (target - 1) 0) 3) := rfl
  refine lifecycle_of_top ⟨by omega, ht⟩ ?_ fun j hj hj4 => ?_
  · rw [hlc, List.getD_eq_getElem?_getD, List.getElem?_set_self (by omega), Option.getD_some]
    omega
  · rw [hlc, List.getD_eq_getElem?_getD, List.getElem?_set_ne (by omega), ← List.getD_eq_getElem?_getD]
    exact unblown_above (by omega) hj4

/-- The first step of the lifecycle fixes the password's salt. -/
def salted (was : Nat) (s : State) : State :=
  if was = 0 then s.setFuse { s.tnd.fuse with pwSalt := Config.pwSalt s.tnd.fuse.deviceId % 2 ^ 128 } else s

/-- What a new lifecycle state ends: the debug level and the pending challenges. -/
def stepRevoked (s : State) : State :=
  (debugRevoke 5 0 (raise 53 s)).setTnd { (debugRevoke 5 0 (raise 53 s)).tnd with chal := [] }

/-- Entering RETURNED destroys the keys. -/
def returnedErased (target : Nat) (s : State) : State := if target = 3 then zeroise s else s

/-- A step that R491 names, with every copy blown, is taken. -/
theorem lcAdvance_of_step {target : Nat} (hmode : s.mode = 2 ∨ s.mode = 6 ∨ s.mode = 7) (hgates : gatesOff s = true) (hstep : lcStep s target = true)
    (hlen : s.tnd.fuse.lc.length = 4) : lcAdvance target 3 true s =
      (0, tndShow (returnedErased target (stepRevoked (salted (lifecycle s) (stepBlown target s))))) := by
  obtain ⟨hlt, ht⟩ := lcStep_lt hstep
  have hmode' : ¬ ((!([2, 6, 7].contains s.mode) || !gatesOff s) = true) := by
    rw [hgates]
    rcases hmode with h | h | h <;> rw [h] <;> decide
  have hnew : ¬ lifecycle (stepBlown target s) = lifecycle s := by
    rw [stepBlown_lifecycle hlt ht hlen]
    omega
  unfold lcAdvance
  exact (if_neg hmode').trans ((if_neg (by simp [hstep])).trans (if_neg hnew))

theorem lcAdvance_of_refused {target copies : Nat} {erased : Bool} (h : gatesOff s = false ∨ s.mode = 3) : lcAdvance target copies erased s = (5, s) := by
  refine if_pos ?_
  rcases h with h | h
  · simp [h]
  · simp [h]

theorem lifecycle_of_lc (h : t.tnd.fuse.lc = s.tnd.fuse.lc) : lifecycle t = lifecycle s := by rw [lifecycle_eq, h, lifecycle_eq]

theorem salted_lc (was : Nat) (s : State) : (salted was s).tnd.fuse.lc = s.tnd.fuse.lc := ite_keeps (p := (·.tnd.fuse.lc)) rfl

theorem salted_mask {K : Parts} (kS : K.tnd) (was : Nat) (s : State) : (salted was s).mask K = s.mask K :=
  ite_keeps (p := State.mask K) (setTnd_mask kS _ _)

theorem TndServing.salted (h : TndServing mb s) (was : Nat) : TndServing mb (salted was s) := by
  unfold Machine.salted
  split
  · exact h.setFuse _
  · exact h

theorem stepRevoked_fuse (s : State) : (stepRevoked s).tnd.fuse = s.tnd.fuse := by
  rw [stepRevoked, State.tnd_setTnd, debugRevoke_tnd, raise_tnd]

theorem stepRevoked_mask {K : Parts} (kA : K.regs) (kF : K.fab) (kN : K.spx) (kS : K.tnd) (kV : K.xcp) (s : State) :
    (stepRevoked s).mask K = s.mask K :=
  (setTnd_mask kS _ _).trans ((debugRevoke_mask kA kF kN kS kV _ _ _).trans (raise_mask kA kF _ _))

theorem stepRevoked_dbgLevel (s : State) : (stepRevoked s).dbgLevel = 0 := by
  have h : (debugRevoke 5 0 (raise 53 s)).dbgLevel = 0 := Nat.le_zero.mp (debugRevoke_dbgLevel_le _ _)
  exact h

theorem TndServing.stepRevoked (h : TndServing mb s) (hmb : mb < 3) : TndServing mb (stepRevoked s) :=
  ((h.raise (by decide)).debugRevoke hmb 5 0).setTnd rfl rfl

theorem zeroise_shows (s : State) : (zeroise s).tnd.fuse = { s.tnd.fuse with skeinKey := 2 ^ 256 - 1 } ∧ (zeroise s).tnd.chal = s.tnd.chal ∧
    (zeroise s).regs = s.regs := ⟨rfl, rfl, rfl⟩

theorem returnedErased_shows (target : Nat) (s : State) : (returnedErased target s).tnd.fuse.lc = s.tnd.fuse.lc ∧
    (returnedErased target s).tnd.chal = s.tnd.chal ∧ (returnedErased target s).regs = s.regs ∧
    (target = 3 → (returnedErased target s).tnd.fuse.skeinKey = 2 ^ 256 - 1) := by
  unfold returnedErased
  split
  · obtain ⟨hfuse, hchal, hregs⟩ := zeroise_shows s
    rw [hfuse]
    exact ⟨rfl, hchal, hregs, fun _ => rfl⟩
  · rename_i h
    exact ⟨rfl, rfl, rfl, fun h3 => absurd h3 h⟩

theorem returnedErased_mask {K : Parts} (kS : K.tnd) (target : Nat) (s : State) : (returnedErased target s).mask K = s.mask K :=
  ite_keeps (p := State.mask K) (zeroise_mask kS _)

theorem TndServing.returnedErased (h : TndServing mb s) (target : Nat) : TndServing mb (returnedErased target s) := by
  unfold Machine.returnedErased
  split
  · exact h.of_kept rfl rfl rfl rfl
  · exact h

theorem lcStep_of_apart (h : TndApart mb s t) (target : Nat) : lcStep t target = lcStep s target := by
  have hslot : ∀ b v, slotWith t b v = slotWith s b v := fun b v => by rw [slotWith, h.fuse, slotWith]
  simp only [lcStep, h.lifecycle, h.fuse, hslot]

theorem tndAnswer_olt (r : Nat) (out : List Byte) (s : State) : (tndAnswer r out s).olt = s.olt :=
  olt_of_mask (K := { tnd := true }) rfl (tndAnswer_mask rfl r out s)

theorem tndAnswer_bus (r : Nat) (out : List Byte) (s : State) : (tndAnswer r out s).bus = s.bus :=
  bus_of_mask (K := { tnd := true }) rfl (tndAnswer_mask rfl r out s)

/-! ### Tinder's mirror -/

theorem tndShow_fields (s : State) : (tndShow s).get F.TND_INFO.LC = lifecycle s % 8 ∧ (tndShow s).get F.TND_INFO.SEC_CTR = s.tnd.fuse.secCtr % 512 := by
  have hid : ∀ (f : Fld) (d : Nat) (u : State), f.addr 0 0 0 = 0x30050C00 →
      ([0, 1, 2, 3].foldl (fun s i => s.set F.TND_ID.ID (d / 2 ^ (32 * i) % 2 ^ 32) i) u).get f = u.get f := fun f d u hf =>
    State.get_of_rd (foldl_keeps (·.rd (f.addr 0 0 0)) _ _ (fun i _ v => set_quiet _ _ _ _ _ _ _ (by
      rw [hf]
      simp only [Fld.addr, F.TND_ID.ID]
      omega)) u)
  refine ⟨?_, ?_⟩
  · unfold tndShow
    dsimp only
    rw [hid _ _ _ (by decide), State.get_set_clear (by decide), State.get_setB_apart (by decide), State.get_setB_apart (by decide),
      State.get_set_clear (by decide), State.get_set_clear (by decide), State.get_set_clear (by decide), State.get_setB_apart (by decide),
      State.get_set_self _ _ _ _ _ _ (by decide) (by decide)]
    rfl
  · unfold tndShow
    dsimp only
    rw [hid _ _ _ (by decide), State.get_set_self _ _ _ _ _ _ (by decide) (by decide)]
    rfl

/-- Fuses are blown and shown. -/
def fuseWritten (f : FuseSt) (s : State) : State := tndShow (s.setFuse f)

/-- Key slot `k` holds a key's hash and roles. -/
def slotWritten (k roles hash : Nat) (f : FuseSt) : FuseSt :=
  { f with keyHash := SMap.put 0 f.keyHash k hash, role := SMap.put 0 f.role k roles }

/-- KEY_IMPORT to a CMAC slot zeroes the freshness of the definitions that use it. -/
def freshCleared (slot : Nat) (s : State) : State :=
  if 16 ≤ slot then s
  else ((s.sys.cfg.reel.tx.zipIdx.filter (fun e => e.1.secured && e.1.key == slot)).foldl (fun s e => freshSet e.2 true 0 s)
    ((s.sys.cfg.reel.rx.zipIdx.filter (fun e => e.1.secured && e.1.key == slot)).foldl (fun s e => freshSet e.2 false 0 s) s))

theorem keyImport_of_tagged {slot key : Nat} (hslot : slot < 32) (h0 : s.tnd.fuse.skeinKey ≠ 0) (h1 : s.tnd.fuse.skeinKey ≠ 2 ^ 256 - 1) :
    keyImport slot key true s = tndAnswer 0 [] (freshCleared slot (s.setPriv { s.tnd.priv with keys := SMap.put 0 s.tnd.priv.keys slot key })) := by
  unfold keyImport
  exact (if_neg (by omega)).trans ((if_neg (by simp only [not_or]; exact ⟨h0, h1⟩)).trans (if_neg (by decide)))

theorem freshCleared_keeps {β : Type} {p : State → β} (hp : ∀ d tx v u, p (freshSet d tx v u) = p u) (slot : Nat) (s : State) :
    p (freshCleared slot s) = p s := by
  unfold freshCleared
  split
  · rfl
  · exact (foldl_keeps p _ _ (fun e _ u => hp _ _ _ u) _).trans (foldl_keeps p _ _ (fun e _ u => hp _ _ _ u) s)

theorem freshCleared_of_service {slot : Nat} (h : 16 ≤ slot) (s : State) : freshCleared slot s = s := if_pos h

theorem TndServing.freshCleared (h : TndServing mb s) (slot : Nat) : TndServing mb (freshCleared slot s) :=
  h.of_kept (freshCleared_keeps (p := (·.tnd.serving)) (fun _ _ _ _ => by rw [freshSet_tnd]) _ _)
    (freshCleared_keeps (p := (·.tnd.waiting)) (fun _ _ _ _ => by rw [freshSet_tnd]) _ _)
    (State.get_of_regs (freshCleared_keeps (p := (·.regs)) freshSet_regs _ _) _ _ _ _)
    (freshCleared_keeps (p := (·.resp)) freshSet_resp _ _)

theorem freshCleared_tnd (slot : Nat) (s : State) : (freshCleared slot s).tnd = s.tnd := freshCleared_keeps (p := (·.tnd)) freshSet_tnd _ _

/-! ### The self-test (R488, R566) -/

theorem selfTest_of_allowed (hmode : s.mode = 1 ∨ s.mode = 2 ∨ s.mode = 7) (htest : s.olt.test = none) :
    selfTest true s = tndAnswer 0 [] (oltBegin 5 0 s) := by
  have hgo : ¬ ((!([1, 2, 7].contains s.mode) || s.olt.test.isSome) = true) := by
    rw [htest]
    rcases hmode with h | h | h <;> rw [h] <;> decide
  exact if_neg hgo

theorem oltBegin_shows (kind target : Nat) (s : State) : (oltBegin kind target s).get F.DBG_OLT_REQ.BUSY = 1 ∧
    (oltBegin kind target s).regs = (s.set F.DBG_OLT_REQ.BUSY 1).regs ∧ (oltBegin kind target s).olt = { s.olt with test := some (kind, target) } := by
  have hregs : (oltBegin kind target s).regs = (s.set F.DBG_OLT_REQ.BUSY 1).regs := rfl
  refine ⟨?_, hregs, ?_⟩
  · rw [State.get_of_regs hregs, State.get_set_one _ _ _ _ _ (by decide) (by decide)]
  · rfl

theorem TndServing.oltBegin (h : TndServing mb s) (hmb : mb < 3) (kind target : Nat) : TndServing mb (oltBegin kind target s) := by
  have hmask := oltBegin_mask (K := { regs := true, olt := true }) rfl rfl kind target s
  have htnd : (Machine.oltBegin kind target s).tnd = s.tnd := tnd_of_mask (K := { regs := true, olt := true }) rfl hmask
  refine h.of_kept (by rw [htnd]) (by rw [htnd]) ?_ (resp_of_mask (K := { regs := true, olt := true }) rfl hmask)
  rw [State.get_of_regs (oltBegin_shows kind target s).2.1, State.get_set_addr _ _ _ _ _ _ _ _ _ _]
  simp only [Fld.addr, F.TND_STAT.BUSY, F.DBG_OLT_REQ.BUSY]
  omega

theorem runCommand_selfTest (ok : Bool) (h : TndSound s) : runCommand mb (.selfTest ok) s = selfTest ok (serveFor mb s) :=
  (if_neg (not_jtagOff h.1 _ _ _)).trans (if_neg (not_testRefuses h _))

theorem runCommand_keyImport (k key : Nat) (tag : Bool) (h : TndSound s) : runCommand mb (.keyImport k key tag) s =
    if mb = 2 then tndAnswer 12 [] (serveFor mb s) else keyImport k key tag (serveFor mb s) :=
  (if_neg (not_jtagOff h.1 _ _ _)).trans (if_neg (not_testRefuses h _))

theorem runCommand_privileged (arg : PrivArg) (h : TndSound s) : runCommand mb (.privileged arg) s = ownCode mb arg (serveFor mb s) :=
  (if_neg (not_jtagOff h.1 _ _ _)).trans (if_neg (not_testRefuses h _))

theorem ownCode_pwSet (mb hash : Nat) (s : State) : ownCode mb (.pwSet hash) s = tndAnswer 1 [] s := if_neg (by simp [purposeOf])

end

/-- Settles O46: an authenticated response carries its command out in the branch of its argument. -/
theorem tinderPrivileged : Obligations.TinderPrivileged := by
  unfold Obligations.TinderPrivileged
  intro s m mb a life hash key d v target ctr k roles slot
  extract_lets acc served asks may plain fuse r
  have hmb := mb.isLt
  have hacc : acc → TndAccepts s m mb.val := fun ⟨h1, h2, h3, h4, h5, h6, h7, h8⟩ => ⟨⟨h1, h2, h3, h4, h5, h6, h8⟩, h7⟩
  have hasks : ∀ {r : Nat}, asks r → TndAsks s m mb.val r life a := fun ⟨ha, hout, hchal, hsig, hslot⟩ => ⟨hacc ha, hout, hchal, hsig, hslot⟩
  have hap := consumed_apart mb.val s
  have hregs : ∀ (r : Nat) (out : List Byte) (u : State) (f : Fld), (tndAnswer r out u).get f = u.get f := fun r out u f =>
    State.get_of_regs (tndAnswer_regs _ _ _) _ _ _ _
  -- A command whose argument answers `n` and changes Tinder's state and its mirror alone.
  have hplain : ∀ {c : Instr} {q n : Nat} {arg : PrivArg} {u : State} {P : State → Prop}, asks q → 3 < q → purposeOf arg = q → (q = 0x30 ∨ may) →
      exec c s = tndCommit m mb.val (.response a arg) s → privileged arg (consumed mb.val (taken mb.val s)) = (n, u) →
      TndServing mb.val u → OnlyChanges { regs := true, resp := true, tnd := true } s u → P (tndAnswer n [] u) →
      Runs c s fun t => served n [] t ∧ P t ∧ plain t := fun {c q n arg u P} ha hq harg hcell hc hval hserving hmask hP => by
    have hrun := hc.trans (tndCommit_privileged (hasks ha) hmb hq harg hcell)
    rw [hval] at hrun
    exact ⟨_, hrun, tndAnswer_served hserving _ _, hP, (tndAnswer_mask rfl _ _ _).trans hmask⟩
  have hserving : ∀ {q : Nat}, asks q → TndServing mb.val (consumed mb.val (taken mb.val s)) := fun ha => (hasks ha).serving
  have hbase : OnlyChanges { regs := true, resp := true, tnd := true } s (consumed mb.val (taken mb.val s)) := consumed_mask rfl rfl rfl _ _
  have hfuse : ∀ {q : Nat}, asks q → ∀ f : FuseSt, TndServing mb.val (fuseWritten f (consumed mb.val (taken mb.val s))) ∧
      (tndAnswer 0 [] (fuseWritten f (consumed mb.val (taken mb.val s)))).tnd.fuse = f ∧
      OnlyChanges { regs := true, resp := true, tnd := true } s (fuseWritten f (consumed mb.val (taken mb.val s))) := fun ha f => by
    have hkept := ((hserving ha).setFuse f).tndShow hmb
    refine ⟨hkept, ?_, (tndShow_mask rfl _).trans ((setFuse_mask rfl _ _).trans hbase)⟩
    rw [fuseWritten, tndAnswer_tnd hkept, tndShow_tnd, setFuse_tnd]
  refine ⟨fun ha hmay => ?pwSet, fun ha hout => ?pwUnauthorised, fun ha hmay => ?freshRx, fun ha hmay => ?freshTx,
    fun ha hmode hgates hstep hlen => ?lcAdvance, fun ha hno => ?lcRefused, fun ha hmay hle => ?secAdvance, fun ha hmay hlt => ?secRefused,
    fun ha hmay hfree hne => ?keySlot, fun ha hmay hs0 hs1 => ?keyRevoke, fun ha hout h2 hslot h0 h1 => ?keyImport, fun ha hout h2 => ?importDebug,
    fun ha hout hmode htest => ?selfTest⟩
  case pwSet =>
    refine hplain ha (by decide) rfl (.inr hmay) rfl rfl ((hserving ha).setPriv _) ((setPriv_mask rfl _ _).trans hbase) ?_
    rw [tndAnswer_tnd ((hserving ha).setPriv _), setPriv_tnd, consumed_priv]
  case pwUnauthorised =>
    have hrun : exec (.pwSet m mb none hash) s = .next (tndAnswer 1 [] (taken mb.val s)) :=
      (tndCommit_of_accepted (hacc ha) hmb (sourceMay_of_not_core hout _) (runCommand_privileged (.pwSet hash))).trans
        (congrArg Host.Outcome.next (ownCode_pwSet _ _ _))
    have hserving := taken_serving (mb := mb.val) (hacc ha).waiting
    refine ⟨_, hrun, tndAnswer_served hserving _ _, ?_, tndAnswer_taken_mask rfl rfl rfl _ _ _ _⟩
    rw [tndAnswer_tnd hserving, taken_tnd]
  case freshRx =>
    have hv : v.toNat % 2 ^ 32 = v.toNat := Nat.mod_eq_of_lt v.isLt
    have hrun : exec (.freshSet m mb (some a) d false v) s = _ := tndCommit_privileged (hasks ha) hmb (arg := .freshSet d false v.toNat) (by decide) rfl (.inr hmay)
    simp only [privileged, hv] at hrun
    have hkept := (hserving ha).freshSet d.val false v.toNat
    have hmem := (tndAnswer_mem 0 [] (freshSet d.val false v.toNat (consumed mb.val (taken mb.val s)))).trans (freshSet_mem _ _ _ _)
    have hold : (consumed mb.val (taken mb.val s)).mem = s.mem := mem_of_mask (K := { regs := true, resp := true, tnd := true }) rfl hbase
    refine ⟨_, hrun, tndAnswer_served hkept _ _, ?_, ?_, fun b hb => ?_,
      (tndAnswer_mask rfl _ _ _).trans ((freshSet_mask rfl rfl _ _ _ _).trans (consumed_mask rfl rfl rfl _ _))⟩
    · rw [tndAnswer_bus]
      exact freshSet_last _ _ _
    · rw [State.load, State.bytes_of_mem hmem]
      exact load_store _ _ v.isLt
    · exact (State.byte_of_mem hmem b).trans ((State.bytesOnly_store _ _ _ _ b hb).trans (State.byte_of_mem hold b))
  case freshTx =>
    have hv : v.toNat % 2 ^ 32 = v.toNat := Nat.mod_eq_of_lt v.isLt
    have hrun : exec (.freshSet m mb (some a) d true v) s = _ := tndCommit_privileged (hasks ha) hmb (arg := .freshSet d true v.toNat) (by decide) rfl (.inr hmay)
    simp only [privileged, hv] at hrun
    have hkept := (hserving ha).freshSet d.val true v.toNat
    have hmem := (tndAnswer_mem 0 [] (freshSet d.val true v.toNat (consumed mb.val (taken mb.val s)))).trans (freshSet_mem _ _ _ _)
    refine ⟨_, hrun, tndAnswer_served hkept _ _, ?_, ?_,
      (tndAnswer_mask rfl _ _ _).trans ((freshSet_mask rfl rfl _ _ _ _).trans (consumed_mask rfl rfl rfl _ _))⟩
    · rw [tndAnswer_bus]
      exact freshSet_txF _ _ _
    · rw [State.load, State.bytes_of_mem hmem]
      exact load_store _ _ v.isLt
  case lcAdvance =>
    have hfuse : (consumed mb.val (taken mb.val s)).tnd.fuse = s.tnd.fuse := hap.fuse
    have hrun := tndCommit_privileged (hasks ha) hmb (arg := .lcAdvance target 3 true) (by decide) rfl (.inl rfl)
    have hstep' : lcStep (consumed mb.val (taken mb.val s)) target.val = true := by
      rw [lcStep_of_apart hap]
      exact hstep
    simp only [privileged, lcAdvance_of_step (by rwa [hap.mode]) (by rwa [hap.gatesOff]) hstep' (by rwa [hfuse])] at hrun
    obtain ⟨hlt, ht4⟩ := lcStep_lt hstep'
    have hblown := stepBlown_lifecycle hlt ht4 (by rwa [hfuse])
    generalize hwas : lifecycle (consumed mb.val (taken mb.val s)) = was at hrun
    obtain ⟨hlc, hchal, hrg, hskein⟩ := returnedErased_shows target.val (stepRevoked (salted was (stepBlown target.val (consumed mb.val (taken mb.val s)))))
    have hkept : TndServing mb.val (tndShow (returnedErased target.val (stepRevoked (salted was (stepBlown target.val (consumed mb.val (taken mb.val s))))))) :=
      (((((hserving ha).setFuse _).salted was).stepRevoked hmb).returnedErased target.val).tndShow hmb
    have hlife : lifecycle (returnedErased target.val (stepRevoked (salted was (stepBlown target.val (consumed mb.val (taken mb.val s)))))) = target.val :=
      (lifecycle_of_lc (hlc.trans ((congrArg FuseSt.lc (stepRevoked_fuse _)).trans (salted_lc _ _)))).trans hblown
    refine ⟨_, hrun, tndAnswer_served hkept _ _, ?_, ?_, ?_, ?_, fun h3 => ?_, ?_⟩
    · refine (lifecycle_of_fuse ?_).trans hlife
      rw [tndAnswer_tnd hkept, tndShow_tnd]
    · refine (State.get_of_regs (tndAnswer_regs _ _ _) _ _ _ _).trans ((tndShow_dbgLevel _).trans ?_)
      exact (State.get_of_regs hrg F.DBG_STAT.LEVEL _ _ _).trans (stepRevoked_dbgLevel _)
    · rw [tndAnswer_tnd hkept, tndShow_tnd]
      exact hchal
    · rw [hregs, (tndShow_fields _).1, hlife]
      omega
    · rw [tndAnswer_tnd hkept, tndShow_tnd]
      exact hskein h3
    · exact (tndAnswer_mask rfl _ _ _).trans ((tndShow_mask rfl _).trans ((returnedErased_mask rfl _ _).trans ((stepRevoked_mask rfl rfl rfl rfl rfl _).trans
        ((salted_mask rfl _ _).trans ((setFuse_mask rfl _ _).trans (consumed_mask rfl rfl rfl _ _))))))
  case lcRefused =>
    have hval : privileged (.lcAdvance target 3 true) (consumed mb.val (taken mb.val s)) = (5, consumed mb.val (taken mb.val s)) :=
      lcAdvance_of_refused (by rwa [hap.gatesOff, hap.mode])
    refine hplain ha (by decide) rfl (.inl rfl) rfl hval (hserving ha) hbase ?_
    rw [tndAnswer_tnd (hserving ha)]
    exact hap.fuse
  case secAdvance =>
    have hval : privileged (.secAdvance false ctr.val) (consumed mb.val (taken mb.val s)) =
        (0, fuseWritten { (consumed mb.val (taken mb.val s)).tnd.fuse with secCtr := ctr.val } (consumed mb.val (taken mb.val s))) :=
      if_neg (by rw [hap.fuse]; exact not_or.mpr ⟨Nat.not_lt.mpr hle, by have hctr := ctr.isLt; omega⟩)
    obtain ⟨hkept, hwritten, hmask⟩ := hfuse (q := 0x31) ha { (consumed mb.val (taken mb.val s)).tnd.fuse with secCtr := ctr.val }
    obtain ⟨t, hrun, hs, ⟨h1, h2⟩, hp⟩ := hplain (c := .secAdvance m mb (some a) false ctr)
      (P := fun t => t.tnd.fuse = { fuse with secCtr := ctr.val } ∧ t.get F.TND_INFO.SEC_CTR = ctr.val)
      ha (by decide) rfl (.inr hmay) rfl hval hkept hmask (by
        refine ⟨hwritten.trans (by rw [hap.fuse]), ?_⟩
        rw [hregs, fuseWritten, (tndShow_fields _).2]
        exact Nat.mod_eq_of_lt (Nat.lt_of_lt_of_le ctr.isLt (by decide)))
    exact ⟨t, hrun, hs, h1, h2, hp⟩
  case secRefused =>
    have hval : privileged (.secAdvance false ctr.val) (consumed mb.val (taken mb.val s)) = (11, consumed mb.val (taken mb.val s)) :=
      if_pos (by rw [hap.fuse]; exact .inl hlt)
    refine hplain ha (by decide) rfl (.inr hmay) rfl hval (hserving ha) hbase ?_
    rw [tndAnswer_tnd (hserving ha)]
    exact hap.fuse
  case keySlot =>
    have hval : privileged (.keySlot k roles hash) (consumed mb.val (taken mb.val s)) =
        (0, fuseWritten (slotWritten k.val roles.val hash (consumed mb.val (taken mb.val s)).tnd.fuse) (consumed mb.val (taken mb.val s))) :=
      if_neg (by
        rw [hap.fuse, show SMap.get 0 s.tnd.fuse.keyHash k.val = 0 from hfree]
        simpa using hne)
    obtain ⟨hkept, hwritten, hmask⟩ := hfuse (q := 0x32) ha (slotWritten k.val roles.val hash (consumed mb.val (taken mb.val s)).tnd.fuse)
    obtain ⟨t, hrun, hs, ⟨h1, h2⟩, hp⟩ := hplain (c := .keyProvision m mb (some a) (.keySlot k roles hash))
      (P := fun t => SMap.get 0 t.tnd.fuse.keyHash k.val = hash ∧ SMap.get 0 t.tnd.fuse.role k.val = roles.val)
      ha (by decide) rfl (.inr hmay) rfl hval hkept hmask (by
        rw [hwritten]
        exact ⟨SMap.get_put_self _ _ _ _, SMap.get_put_self _ _ _ _⟩)
    exact ⟨t, hrun, hs, h1, h2, hp⟩
  case keyRevoke =>
    have hslot : ∀ b w, slotWith (consumed mb.val (taken mb.val s)) b w = slotWith s b w := fun b w => by rw [slotWith, hap.fuse, slotWith]
    have hval : privileged (.keyRevoke k) (consumed mb.val (taken mb.val s)) =
        (0, fuseWritten { (consumed mb.val (taken mb.val s)).tnd.fuse with revoked := putBit (consumed mb.val (taken mb.val s)).tnd.fuse.revoked k.val true }
          (consumed mb.val (taken mb.val s))) :=
      if_neg (by
        rw [hslot, hslot, hap.fuse, show slotWith s 0 _ = true from hs0, show slotWith s 1 _ = true from hs1]
        decide)
    obtain ⟨hkept, hwritten, hmask⟩ := hfuse (q := 0x33) ha
      { (consumed mb.val (taken mb.val s)).tnd.fuse with revoked := putBit (consumed mb.val (taken mb.val s)).tnd.fuse.revoked k.val true }
    exact hplain (c := .keyRevoke m mb (some a) k) ha (by decide) rfl (.inr hmay) rfl hval hkept hmask (hwritten.trans (by rw [hap.fuse]))
  case keyImport =>
    have htk := taken_apart mb.val s
    have hrun : exec (.keyImport m mb slot key true) s = .next (tndAnswer 0 [] (freshCleared slot.toNat ((taken mb.val s).setPriv
        { (taken mb.val s).tnd.priv with keys := SMap.put 0 (taken mb.val s).tnd.priv.keys slot.toNat key }))) :=
      (tndCommit_of_accepted (hacc ha) hmb (sourceMay_of_not_core hout _) (fun hu => (runCommand_keyImport _ _ _ hu).trans (if_neg h2))).trans
        (congrArg Host.Outcome.next (keyImport_of_tagged hslot (by rwa [htk.fuse]) (by rwa [htk.fuse])))
    have hkept := ((taken_serving (mb := mb.val) (hacc ha).waiting).setPriv
      { (taken mb.val s).tnd.priv with keys := SMap.put 0 (taken mb.val s).tnd.priv.keys slot.toNat key }).freshCleared slot.toNat
    refine ⟨_, hrun, tndAnswer_served hkept _ _, ?_, ?_, fun hcrypto => ?_⟩
    · rw [tndAnswer_tnd hkept, freshCleared_tnd, setPriv_tnd]
      exact SMap.get_put_self _ _ _ _
    · rw [tndAnswer_tnd hkept, freshCleared_tnd, setPriv_tnd]
      exact htk.fuse
    · rw [freshCleared_of_service hcrypto]
      exact (tndAnswer_mask rfl _ _ _).trans ((setPriv_mask rfl _ _).trans (taken_mask rfl rfl rfl _ _))
  case importDebug =>
    have hrun : exec (.keyImport m mb slot key true) s = .next (tndAnswer 12 [] (taken mb.val s)) :=
      tndCommit_of_accepted (hacc ha) hmb (sourceMay_of_not_core hout _) (fun hu => (runCommand_keyImport _ _ _ hu).trans (if_pos h2))
    have hserving := taken_serving (mb := mb.val) (hacc ha).waiting
    refine ⟨_, hrun, tndAnswer_served hserving _ _, ?_, tndAnswer_taken_mask rfl rfl rfl _ _ _ _⟩
    rw [tndAnswer_tnd hserving, taken_tnd]
  case selfTest =>
    have htk := taken_apart mb.val s
    have holt : (taken mb.val s).olt = s.olt := olt_of_mask (K := { regs := true, resp := true, tnd := true }) rfl (taken_mask rfl rfl rfl _ _)
    have hrun : exec (.selfTest m mb true) s = .next (tndAnswer 0 [] (oltBegin 5 0 (taken mb.val s))) :=
      (tndCommit_of_accepted (hacc ha) hmb (sourceMay_of_not_core hout _) (runCommand_selfTest true)).trans
        (congrArg Host.Outcome.next (selfTest_of_allowed (by rwa [htk.mode]) (by rwa [holt])))
    have hkept := (taken_serving (mb := mb.val) (hacc ha).waiting).oltBegin hmb 5 0
    obtain ⟨hbusy, -, hbegun⟩ := oltBegin_shows 5 0 (taken mb.val s)
    refine ⟨_, hrun, tndAnswer_served hkept _ _, ?_, ?_, (tndAnswer_mask rfl _ _ _).trans ((oltBegin_mask rfl rfl _ _ _).trans (taken_mask rfl rfl rfl _ _))⟩
    · rw [tndAnswer_olt, hbegun, holt]
    · rw [hregs, hbusy]

end Sys2Proof.Machine

/-! ## Field update: commands, the journal and UPD_STAT (R509 to R515). -/

namespace Sys2Proof.Machine
open Sys2Proof

section
variable {s t u : State} {m : Master} {mb : Nat}

/-! ### An update command is carried out -/

/-- Tinder takes an update command of a source that may give it. -/
structure UpdTakes (s : State) (m : Master) (mb : Nat) : Prop where
  takes : TndTakes s m mb
  port : mb ≠ 2 ∨ s.dbgLevel = 3
  outside : ∀ k, m ≠ .core k

theorem updCmd_of_port (h : mb ≠ 2 ∨ s.dbgLevel = 3) (f : State → State) : updCmd mb f s = f s := by
  refine if_neg ?_
  rcases h with h | h
  · simp [h]
  · simp [h]

/-- An update command goes on with its own function, whatever the last self-test found. -/
theorem updCommit_of_taken (h : UpdTakes s m mb) (hmb : mb < 3) {c : TndCommand} (hcode : 0x40 ≤ codeOf c) {f : State → State}
    (hf : ∀ {u : State}, u.tnd.fuse.jtagOff = false → ¬ (testRefuses u (codeOf c) = true) → runCommand mb c u = updCmd mb f (serveFor mb u)) :
    tndCommit m mb c s = .next (f (taken mb s)) := by
  have htests : ¬ (testRefuses (posted mb s) (codeOf c) = true) := by
    simp only [testRefuses, Bool.and_eq_true, Bool.or_eq_true, beq_iff_eq, decide_eq_true_eq, not_and]
    omega
  have hlevel : (taken mb s).dbgLevel = s.dbgLevel := (taken_apart mb s).dbgLevel hmb
  rw [tndCommit, tndWrite_of_taken h.takes hmb (sourceMay_of_not_core h.outside _), hf (by rw [posted_tnd]; exact h.takes.jtagOn) htests]
  exact congrArg Host.Outcome.next (updCmd_of_port (by rw [show (serveFor mb (posted mb s)).dbgLevel = _ from hlevel]; exact h.port) f)

theorem updBegin_runs (h : UpdTakes s m mb) (hmb : mb < 3) (x : Manifest) : tndCommit m mb (.updBegin x) s = .next (updBegin x (taken mb s)) :=
  updCommit_of_taken h hmb (c := .updBegin x) (Nat.le_refl 0x40) (fun hj ht => (if_neg (not_jtagOff hj _ _ _)).trans (if_neg ht))

theorem updWrite_runs (h : UpdTakes s m mb) (hmb : mb < 3) : tndCommit m mb .updWrite s = .next (updWrite (taken mb s)) :=
  updCommit_of_taken h hmb (by decide) (fun hj ht => (if_neg (not_jtagOff hj _ _ _)).trans (if_neg ht))

theorem updActivate_runs (h : UpdTakes s m mb) (hmb : mb < 3) : tndCommit m mb .updActivate s = .next (updActivate (taken mb s)) :=
  updCommit_of_taken h hmb (by decide) (fun hj ht => (if_neg (not_jtagOff hj _ _ _)).trans (if_neg ht))

theorem updConfirm_runs (h : UpdTakes s m mb) (hmb : mb < 3) (advance : Bool) :
    tndCommit m mb (.updConfirm advance) s = .next (updConfirm advance (taken mb s)) :=
  updCommit_of_taken h hmb (c := .updConfirm advance) (show 0x40 ≤ 0x43 by decide) (fun hj ht => (if_neg (not_jtagOff hj _ _ _)).trans (if_neg ht))

theorem updRevert_runs (h : UpdTakes s m mb) (hmb : mb < 3) : tndCommit m mb .updRevert s = .next (updRevert (taken mb s)) :=
  updCommit_of_taken h hmb (by decide) (fun hj ht => (if_neg (not_jtagOff hj _ _ _)).trans (if_neg ht))

theorem updStatus_runs (h : UpdTakes s m mb) (hmb : mb < 3) :
    tndCommit m mb .updStatus s = .next (tndAnswer 0 (journalBytes (taken mb s).journal) (taken mb s)) :=
  updCommit_of_taken h hmb (f := fun u => tndAnswer 0 (journalBytes u.journal) u) (by decide)
    (fun hj ht => (if_neg (not_jtagOff hj _ _ _)).trans (if_neg ht))

/-- Ending the command that is served is answering it. -/
theorem tndEnd_of_serving (h : TndServing mb s) (r : Nat) (out : List Byte) : tndEnd r out s = tndAnswer r out s := by
  rw [tndEnd, tndAnswer, h.serving]
  rfl

/-! ### The journal and UPD_STAT -/

theorem State.journal_setJournal (s : State) (j : Journal) : (s.setJournal j).journal = j := rfl

theorem State.journal_set (s : State) (f : Fld) (v i j k : Nat) : (s.set f v i j k).journal = s.journal := by
  rw [State.journal, State.set_tnd, State.journal]

theorem State.journal_of_tnd (h : t.tnd = s.tnd) : t.journal = s.journal := by rw [State.journal, h, State.journal]

theorem tndAnswer_journal (r : Nat) (out : List Byte) (s : State) : (tndAnswer r out s).journal = s.journal := by
  unfold tndAnswer
  split <;> rfl

theorem taken_journal (mb : Nat) (s : State) : (taken mb s).journal = s.journal := by
  rw [State.journal, taken_tnd]
  rfl

theorem taken_upd (mb : Nat) (s : State) : (taken mb s).upd = s.upd :=
  upd_of_mask (K := { regs := true, resp := true, tnd := true }) rfl (taken_mask rfl rfl rfl mb s)

theorem tndAnswer_upd (r : Nat) (out : List Byte) (s : State) : (tndAnswer r out s).upd = s.upd :=
  upd_of_mask (K := { tnd := true }) rfl (tndAnswer_mask rfl r out s)

theorem tndAnswer_get (r : Nat) (out : List Byte) (s : State) (f : Fld) (i j k : Nat) : (tndAnswer r out s).get f i j k = s.get f i j k :=
  State.get_of_regs (tndAnswer_regs _ _ _) _ _ _ _

theorem TndServing.setJournal (h : TndServing mb s) (j : Journal) : TndServing mb (s.setJournal j) := h.of_kept rfl rfl rfl rfl

theorem TndServing.setUpd (h : TndServing mb s) (x : UpdSt) : TndServing mb (s.setUpd x) := h.of_kept rfl rfl rfl rfl

/-- A register of another block leaves the mailbox as it is. -/
theorem TndServing.set (h : TndServing mb s) (hmb : mb < 3) {f : Fld} (hf : 0x30060000 ≤ f.base) (v i j k : Nat) : TndServing mb (s.set f v i j k) := by
  refine h.of_kept (by rw [State.set_tnd]) (by rw [State.set_tnd]) (State.get_set_addr _ _ _ _ _ _ _ _ _ _ ?_) (State.set_resp _ _ _ _ _ _)
  simp only [Fld.addr, F.TND_STAT.BUSY]
  omega

theorem TndServing.updReason (h : TndServing mb s) (hmb : mb < 3) (r : Nat) : TndServing mb (updReason r s) := (h.setJournal _).set hmb (by decide) _ _ _ _

theorem TndServing.updShowState (h : TndServing mb s) (hmb : mb < 3) : TndServing mb (updShowState s) := h.set hmb (by decide) _ _ _ _

theorem updReason_journal (r : Nat) (s : State) : (updReason r s).journal = { s.journal with reason := r } := by
  rw [updReason, State.journal_set, State.journal_setJournal]

theorem updReason_reason (r : Nat) (s : State) : (updReason r s).get F.UPD_STAT.REASON = r % 16 :=
  State.get_set_self _ _ _ _ _ _ (by decide) (by decide)

theorem updReason_upd (r : Nat) (s : State) : (updReason r s).upd = s.upd := by rw [updReason, State.set_upd]; rfl

theorem updReason_rd {a : Nat} (h : a ≠ 0x30070000) (r : Nat) (s : State) : (updReason r s).rd a = s.rd a :=
  (set_quiet _ _ _ _ _ _ _ h).trans (State.rd_of_regs rfl a)

/-- The state UPD_STAT shows of a journal, with or without a revert. -/
def stateShown (j : Journal) (reverting : Bool) : Nat :=
  if reverting then 6 else if j.steps.any (fun e => e.2 == 3) then 4 else if j.nSteps != 0 then 1 else 0

theorem updShowState_eq (s : State) : updShowState s = s.set F.UPD_STAT.STATE (stateShown s.journal s.upd.revertAt.isSome) := rfl

theorem stateShown_lt (j : Journal) (r : Bool) : stateShown j r < 8 := by
  unfold stateShown
  split_ifs <;> decide

theorem updShowState_state (s : State) : (updShowState s).get F.UPD_STAT.STATE = stateShown s.journal s.upd.revertAt.isSome := by
  rw [updShowState_eq, State.get_set_fits (by decide) (stateShown_lt _ _)]

theorem updShowState_get {f : Fld} (hf : F.UPD_STAT.STATE.Clear f) (s : State) : (updShowState s).get f = s.get f := State.get_set_clear hf _ _

theorem updShowState_rd {a : Nat} (h : a ≠ 0x30070000) (s : State) : (updShowState s).rd a = s.rd a := set_quiet _ _ _ _ _ _ _ h

theorem updShowState_journal (s : State) : (updShowState s).journal = s.journal := State.journal_set _ _ _ _ _ _

theorem updShowState_upd (s : State) : (updShowState s).upd = s.upd := State.set_upd _ _ _ _ _ _

/-- A command refused with a RESULT and a REASON. -/
theorem updRefused_shows (h : s.tnd.waiting = []) (hmb : mb < 3) (r reason : Nat) :
    ((tndEnd r [] (updReason reason (taken mb s))).tnd.serving = some (mb, { result := r, out := [] }) ∧
      (tndEnd r [] (updReason reason (taken mb s))).get F.TND_STAT.BUSY mb = 1 ∧ (tndEnd r [] (updReason reason (taken mb s))).tnd.waiting = [] ∧
      (tndEnd r [] (updReason reason (taken mb s))).resp = .done) ∧
    (tndEnd r [] (updReason reason (taken mb s))).get F.UPD_STAT.REASON = reason % 16 ∧
    (tndEnd r [] (updReason reason (taken mb s))).journal = { s.journal with reason := reason } ∧
    (tndEnd r [] (updReason reason (taken mb s))).upd = s.upd ∧
    OnlyChanges { regs := true, resp := true, tnd := true } s (tndEnd r [] (updReason reason (taken mb s))) := by
  have hserving := (taken_serving (mb := mb) h).updReason hmb reason
  rw [tndEnd_of_serving hserving]
  refine ⟨tndAnswer_served hserving _ _, ?_, ?_, ?_, (tndAnswer_mask rfl _ _ _).trans ((updReason_mask rfl rfl _ _).trans (taken_mask rfl rfl rfl _ _))⟩
  · rw [tndAnswer_get, updReason_reason]
  · rw [tndAnswer_journal, updReason_journal, taken_journal]
  · rw [tndAnswer_upd, updReason_upd, taken_upd]

theorem issue_tnd (code cls : Nat) (s : State) : (issue code cls s).tnd = s.tnd := by rw [issue, issueFor_eq]

theorem issue_resp (code cls : Nat) (s : State) : (issue code cls s).resp = s.resp := by rw [issue, issueFor_eq]

theorem TndServing.issue (h : TndServing mb s) (code cls : Nat) : TndServing mb (issue code cls s) :=
  h.of_kept (by rw [issue_tnd]) (by rw [issue_tnd]) (issue_get _ _ _ _ _ _ _) (issue_resp _ _ _)

/-! ### UPD_BEGIN (R510 to R512) -/

theorem beginCheck_congr (hsys : t.sys = s.sys) (hfuse : t.tnd.fuse = s.tnd.fuse) (hj : t.journal = s.journal) (x : Manifest) :
    beginCheck t x = beginCheck s x := by
  unfold beginCheck flashDescs
  rw [hsys, hfuse, hj]

/-- A manifest that passes every check has 1 to 28 steps. -/
theorem steps_of_beginCheck {x : Manifest} (h : beginCheck s x = none) : 1 ≤ x.steps.length ∧ x.steps.length ≤ 28 := by
  unfold beginCheck at h
  dsimp only at h
  split at h
  · cases h
  · rename_i hform
    simp only [Bool.not_eq_true', Bool.not_eq_false, Bool.and_eq_true, decide_eq_true_eq] at hform
    exact hform.1.2

/-- The journal of an accepted manifest. -/
def begunJournal (x : Manifest) : Journal := { lastSeq := x.seq, manifest := x.hash, nSteps := x.steps.length, probT := x.probT }

/-- An accepted manifest is in progress. -/
def begun (x : Manifest) (s : State) : State :=
  let s := s.setJournal (begunJournal x)
  let s := s.setUpd { s.upd with man := some x, oldImg := [], newImg := [], oldComp := [], loc := [], retried := false }
  ((s.set F.UPD_STAT.N_STEPS x.steps.length).set F.UPD_STAT.STEP 0).set F.UPD_STAT.PROB_CNT 0

theorem stateShown_begun {x : Manifest} (h : 1 ≤ x.steps.length) : stateShown (begunJournal x) false = 1 := by
  have hne : (x.steps.length != 0) = true := by simpa using Nat.ne_of_gt h
  exact if_pos hne

theorem updBegin_of_accepted {x : Manifest} (hman : s.upd.man = none) (hrev : s.upd.revertAt = none) (hcheck : beginCheck s x = none)
    (hlimp : s.sys.loader.limp = false) : updBegin x s = tndEnd 0 [] (updShowState (begun x s)) := by
  rw [updBegin, if_neg (by simp [hman, hrev]), hcheck]
  simp only [hlimp, Bool.false_eq_true, if_false]
  rfl

theorem updBegin_of_refused {x : Manifest} {r reason : Nat} (hman : s.upd.man = none) (hrev : s.upd.revertAt = none)
    (hcheck : beginCheck s x = some (r, reason)) : updBegin x s = tndEnd r [] (raise 60 (issue 0x0220 0 (updReason reason s))) := by
  rw [updBegin, if_neg (by simp [hman, hrev]), hcheck]

theorem begun_shows (x : Manifest) (s : State) : (begun x s).journal = begunJournal x ∧ (begun x s).upd.man = some x ∧
    (begun x s).upd.revertAt = s.upd.revertAt ∧ (begun x s).get F.UPD_STAT.STEP = 0 ∧
    (x.steps.length ≤ 28 → (begun x s).get F.UPD_STAT.N_STEPS = x.steps.length) := by
  refine ⟨?_, ?_, ?_, ?_, fun h => ?_⟩
  · rw [begun, State.journal_set, State.journal_set, State.journal_set]
    rfl
  · rw [begun, State.set_upd, State.set_upd, State.set_upd]
    rfl
  · rw [begun, State.set_upd, State.set_upd, State.set_upd]
    rfl
  · rw [begun, State.get_set_clear (by decide), State.get_set_zero _ _ _ _ _ (by decide) (by decide)]
  · rw [begun, State.get_set_clear (by decide), State.get_set_clear (by decide),
      State.get_set_fits (by decide) (by simp only [F.UPD_STAT.N_STEPS]; omega)]

theorem begun_rd {a : Nat} (h : a ≠ 0x30070000) (x : Manifest) (s : State) : (begun x s).rd a = s.rd a := by
  rw [begun, set_quiet _ _ _ _ _ _ _ h, set_quiet _ _ _ _ _ _ _ h, set_quiet _ _ _ _ _ _ _ h]
  exact State.rd_of_regs rfl a

theorem TndServing.begun (h : TndServing mb s) (hmb : mb < 3) (x : Manifest) : TndServing mb (begun x s) :=
  ((((h.setJournal _).setUpd _).set hmb (by decide) _ _ _ _).set hmb (by decide) _ _ _ _).set hmb (by decide) _ _ _ _

theorem begun_mask {K : Parts} (kA : K.regs) (kS : K.tnd) (kT : K.upd) (x : Manifest) (s : State) : (begun x s).mask K = s.mask K :=
  (set_mask kA _ _ _ _ _ _).trans ((set_mask kA _ _ _ _ _ _).trans ((set_mask kA _ _ _ _ _ _).trans ((setUpd_mask kT _ _).trans (setJournal_mask kS _ _))))

theorem begun_sys (x : Manifest) (s : State) : (begun x s).sys = s.sys :=
  sys_of_mask (K := { regs := true, tnd := true, upd := true }) rfl (begun_mask rfl rfl rfl x s)

/-! ### UPD_WRITE and a write's end (R513 to R515) -/

theorem stepState_congr (hj : t.journal = s.journal) (k : Nat) : t.stepState k = s.stepState k := by rw [State.stepState, hj, State.stepState]

theorem manStep_congr (hu : t.upd = s.upd) (k : Nat) : manStep t k = manStep s k := by rw [manStep, hu, manStep]

theorem nextWrite_congr (hu : t.upd = s.upd) (hj : t.journal = s.journal) : nextWrite t = nextWrite s := by
  simp only [nextWrite, hu, stepState_congr hj]

theorem flashOp_journal (op step : Nat) (s : State) : (flashOp op step s).journal = { s.journal with op := op, step := step } := by
  rw [flashOp, State.journal_set, State.journal_setJournal]

theorem flashOp_busy (op step : Nat) (s : State) : (flashOp op step s).get F.SKN_STAT.BUSY = 1 :=
  State.get_set_one _ _ _ _ _ (by decide) (by decide)

theorem flashOp_rd {a : Nat} (h : a ≠ 0x30060000) (op step : Nat) (s : State) : (flashOp op step s).rd a = s.rd a :=
  (set_quiet _ _ _ _ _ _ _ h).trans (State.rd_of_regs rfl a)

theorem flashOp_small_mask {K : Parts} (kA : K.regs) (kS : K.tnd) (op step : Nat) (s : State) : (flashOp op step s).mask K = s.mask K :=
  (set_mask kA _ _ _ _ _ _).trans (setJournal_mask kS _ _)

theorem TndServing.flashOp (h : TndServing mb s) (hmb : mb < 3) (op step : Nat) : TndServing mb (flashOp op step s) :=
  (h.setJournal _).set hmb (by decide) _ _ _ _

/-- Step `k` is being written: its images are kept beside the old ones, and UPD_STAT shows it. -/
def writing (k : Nat) (x : ManStep) (s : State) : State :=
  let s := s.setUpd { s.upd with
    oldImg := SMap.put [] s.upd.oldImg (imgKey x.desc.type x.desc.inst) (verified s x.desc.type x.desc.inst)
    newImg := SMap.put [] s.upd.newImg (imgKey x.desc.type x.desc.inst) x.data, retried := false }
  ((s.setStep k 1).set F.UPD_STAT.STATE 2).set F.UPD_STAT.STEP k

theorem updWrite_of_next {k : Nat} {y : ManStep} (hnext : nextWrite s = some k) (hstep : manStep s k = some y) (hrev : s.upd.revertAt = none)
    (hop : s.journal.op = 0) (hhash : y.hashOk = true) (htag : y.desc.flags.testBit 0 = true → y.tagOk = true) :
    updWrite s = flashOp 1 k (writing k y s) := by
  have hsound : ¬ ((!y.hashOk || (y.desc.flags.testBit 0 && !y.tagOk)) = true) := by
    simpa [hhash] using htag
  rw [updWrite, hnext]
  dsimp only
  rw [hstep]
  exact (if_neg (by simp [hrev, hop])).trans (if_neg hsound)

theorem updWrite_of_none (h : nextWrite s = none) : updWrite s = outOfOrder s := by rw [updWrite, h]

theorem setStep_journal (s : State) (k v : Nat) : (s.setStep k v).journal = { s.journal with steps := SMap.put 0 s.journal.steps k v } := rfl

theorem writing_shows (k : Nat) (y : ManStep) (s : State) : (writing k y s).journal = { s.journal with steps := SMap.put 0 s.journal.steps k 1 } ∧
    (writing k y s).get F.UPD_STAT.STATE = 2 ∧ (writing k y s).get F.UPD_STAT.STEP = k % 32 := by
  refine ⟨?_, ?_, ?_⟩
  · rw [writing, State.journal_set, State.journal_set]
    rfl
  · rw [writing, State.get_set_clear (by decide), State.get_set_fits (by decide) (by decide)]
  · rw [writing, State.get_set_self _ _ _ _ _ _ (by decide) (by decide)]
    rfl

theorem writing_mask {K : Parts} (kA : K.regs) (kS : K.tnd) (kT : K.upd) (k : Nat) (y : ManStep) (s : State) : (writing k y s).mask K = s.mask K :=
  (set_mask kA _ _ _ _ _ _).trans ((set_mask kA _ _ _ _ _ _).trans ((setJournal_mask kS _ _).trans (setUpd_mask kT _ _)))

theorem TndServing.writing (h : TndServing mb s) (hmb : mb < 3) (k : Nat) (y : ManStep) : TndServing mb (writing k y s) :=
  (((h.setUpd _).setJournal _).set hmb (by decide) _ _ _ _).set hmb (by decide) _ _ _ _

/-- A write has been read back: the step is written, and the flash is free. -/
def writeEnded (s : State) : State := raise 56 (flashIdle (s.setStep s.journal.step 2))

theorem flashIdle_journal (s : State) : (flashIdle s).journal = { s.journal with op := 0 } := by
  rw [flashIdle, State.journal_set, State.journal_setJournal]

theorem flashIdle_small_mask {K : Parts} (kA : K.regs) (kS : K.tnd) (s : State) : (flashIdle s).mask K = s.mask K :=
  (set_mask kA _ _ _ _ _ _).trans (setJournal_mask kS _ _)

theorem flashIdle_rd {a : Nat} (h : a ≠ 0x30060000) (s : State) : (flashIdle s).rd a = s.rd a :=
  (set_quiet _ _ _ _ _ _ _ h).trans (State.rd_of_regs rfl a)

theorem flashIdle_busy (s : State) : (flashIdle s).get F.SKN_STAT.BUSY = 0 := State.get_set_zero _ _ _ _ _ (by decide) (by decide)

/-- A field update's event leaves every register: it is raised in the fabric's own clock domain. -/
theorem raise_rd_of_fabricEvent {n : Nat} (h : fabricEvent n = true) (a : Nat) (s : State) : (raise n s).rd a = s.rd a :=
  State.rd_of_regs (raise_regs_of_fabricEvent h s) a

theorem raise_upd (n : Nat) (s : State) : (raise n s).upd = s.upd := by rw [raise_eq]

theorem writeEnded_mask {K : Parts} (kA : K.regs) (kF : K.fab) (kS : K.tnd) (s : State) : (writeEnded s).mask K = s.mask K :=
  (raise_mask kA kF _ _).trans ((flashIdle_small_mask kA kS _).trans (setJournal_mask kS _ _))

theorem writeEnded_journal (s : State) : (writeEnded s).journal = { s.journal with steps := SMap.put 0 s.journal.steps s.journal.step 2, op := 0 } := by
  rw [writeEnded, State.journal_of_tnd (raise_tnd _ _), flashIdle_journal, setStep_journal]

theorem writeEnded_upd (s : State) : (writeEnded s).upd = s.upd :=
  upd_of_mask (K := { regs := true, fab := true, tnd := true }) rfl (writeEnded_mask rfl rfl rfl s)

theorem writeEnded_rd {a : Nat} (h : a ≠ 0x30060000) (s : State) : (writeEnded s).rd a = s.rd a := by
  rw [writeEnded, raise_rd_of_fabricEvent (by decide), flashIdle_rd h]
  exact State.rd_of_regs rfl a

theorem writeEnded_busy (s : State) : (writeEnded s).get F.SKN_STAT.BUSY = 0 := by
  rw [writeEnded, raise_get_fabric (by decide), flashIdle_busy]

theorem tndEnd_upd (r : Nat) (out : List Byte) (s : State) : (tndEnd r out s).upd = s.upd :=
  upd_of_mask (K := { tnd := true }) rfl (tndEnd_mask rfl r out s)

theorem tndEnd_regs (r : Nat) (out : List Byte) (s : State) : (tndEnd r out s).regs = s.regs :=
  regs_of_mask (K := { tnd := true }) rfl (tndEnd_mask rfl r out s)

theorem tndEnd_journal (r : Nat) (out : List Byte) (s : State) : (tndEnd r out s).journal = s.journal := by
  unfold tndEnd
  split
  · exact ite_keeps (p := State.journal) rfl
  · rfl

theorem tndEnd_serving (h : s.tnd.serving = some (mb, { wait := true })) (r : Nat) (out : List Byte) :
    (tndEnd r out s).tnd.serving = some (mb, { result := r, out := out }) := by
  rw [tndEnd, h]
  rfl

theorem flashDone_of_written (hop : s.journal.op = 1) (hrev : s.upd.revertAt = none) :
    flashDone true s = tndEnd 0 [BitVec.ofNat 8 s.journal.step] (updShowState (writeEnded s)) := by
  have hgo : ¬ (tndEnd 0 [BitVec.ofNat 8 s.journal.step] (updShowState (writeEnded s))).upd.revertAt = some 0 := by
    rw [tndEnd_upd, updShowState_upd, writeEnded_upd, hrev]
    exact nofun
  rw [flashDone, hop]
  exact if_neg hgo

theorem flashDone_of_misread (hop : s.journal.op = 1) (hretry : s.upd.retried = false) :
    flashDone false s = s.setUpd { s.upd with retried := true } := by
  rw [flashDone, hop]
  exact (if_neg Bool.false_ne_true).trans (if_pos (by simp [hretry]))

end

/-- Settles O48: UPD_BEGIN and UPD_WRITE are the branches of their checks, and a write's end is FLASH_OPERATION_DONE's first. -/
theorem updateBeginAndWrite : Obligations.UpdateBeginAndWrite := by
  unfold Obligations.UpdateBeginAndWrite
  intro s m mb x y k r reason
  extract_lets go served goesOn plain j free
  have hmb := mb.isLt
  have hgo : go → UpdTakes s m mb.val := fun ⟨h1, h2, h3, h4, h5, h6, h7, h8, h9⟩ => ⟨⟨h1, h2, h3, h4, h5, h6, h7⟩, h8, h9⟩
  have hupd := taken_upd mb.val s
  have hj := taken_journal mb.val s
  have hsys := (taken_apart mb.val s).sys
  have hcheck : ∀ x, beginCheck (taken mb.val s) x = beginCheck s x := beginCheck_congr hsys (taken_apart mb.val s).fuse hj
  have hbusyAddr : ∀ {a : Nat}, a ∉ [F.UPD_STAT.STATE.addr 0 0 0, F.TND_STAT.BUSY.addr mb.val 0 0] → a ≠ 0x30070000 ∧ a ≠ F.TND_STAT.BUSY.addr mb.val 0 0 :=
    fun ha => ⟨fun e => ha (e ▸ List.mem_cons_self), fun e => ha (e ▸ List.mem_cons_of_mem _ List.mem_cons_self)⟩
  have houtOfOrder : ∀ {c : Instr}, go → exec c s = .next (outOfOrder (taken mb.val s)) → Runs c s fun t => served 11 [] t ∧
      t.get F.UPD_STAT.REASON = 7 ∧ t.journal = { j with reason := 7 } ∧ plain t := fun ha hrun => by
    obtain ⟨h1, h2, h3, -, h5⟩ := updRefused_shows (hgo ha).takes.waiting hmb 11 7
    exact ⟨_, hrun, h1, h2, h3, h5⟩
  refine ⟨fun ha hfree hnone hlimp => ?accepted, fun ha hfree hsome => ?refused, fun ha hbusy => ?second, fun ha hnext hstep hrev hop hhash htag => ?write,
    fun ha hnone => ?noWrite, fun hready hflash hrel hop hrev => ⟨fun hserving => ?written, fun hretry => ?misread⟩, fun ha => ?status⟩
  case accepted =>
    obtain ⟨hman, hrev⟩ := hfree
    obtain ⟨hpos, hlen⟩ := steps_of_beginCheck hnone
    have hform := updBegin_of_accepted (s := taken mb.val s) (x := x) (by rwa [hupd]) (by rwa [hupd]) (by rwa [hcheck]) (by rwa [hsys])
    have hserving := ((taken_serving (mb := mb.val) (hgo ha).takes.waiting).begun hmb x).updShowState hmb
    rw [tndEnd_of_serving hserving] at hform
    have hrun := (updBegin_runs (hgo ha) hmb x).trans (congrArg Host.Outcome.next hform)
    obtain ⟨hjournal, hbman, hbrev, hstep, hn⟩ := begun_shows x (taken mb.val s)
    refine ⟨_, hrun, tndAnswer_served hserving _ _, ?_, ?_, ?_, ?_, ?_, ?_, fun a hin => ?_, (tndAnswer_mask rfl _ _ _).trans
      ((updShowState_mask rfl _).trans ((begun_mask rfl rfl rfl _ _).trans (taken_mask rfl rfl rfl _ _)))⟩
    · rw [tndAnswer_upd, updShowState_upd, hbman]
    · rw [tndAnswer_journal, updShowState_journal, hjournal]
      rfl
    · rw [tndAnswer_get, updShowState_state, hjournal, hbrev, hupd, hrev]
      exact stateShown_begun hpos
    · rw [tndAnswer_get, updShowState_get (by decide), hn hlen]
    · rw [tndAnswer_get, updShowState_get (by decide), hstep]
    · rw [tndAnswer_sys, updShowState_eq, State.set_sys, begun_sys, hsys]
    · obtain ⟨h1, h2⟩ := hbusyAddr hin
      rw [State.rd_of_regs (tndAnswer_regs _ _ _), updShowState_rd h1, begun_rd h1, taken_rd h2]
  case refused =>
    obtain ⟨hman, hrev⟩ := hfree
    have hform := updBegin_of_refused (s := taken mb.val s) (x := x) (by rwa [hupd]) (by rwa [hupd]) ((hcheck x).trans hsome)
    have hserving := (((taken_serving (mb := mb.val) (hgo ha).takes.waiting).updReason hmb reason).issue 0x0220 0).raise (n := 60) (by decide)
    rw [tndEnd_of_serving hserving] at hform
    have hrun := (updBegin_runs (hgo ha) hmb x).trans (congrArg Host.Outcome.next hform)
    refine ⟨_, hrun, tndAnswer_served hserving _ _, ?_, ?_, ?_, fun a hin => ?_, ?_⟩
    · rw [tndAnswer_sys, raise_sys, issue_lastFault]
    · rw [tndAnswer_get, raise_get_fabric (by decide), issue_get, updReason_reason]
    · rw [tndAnswer_journal, State.journal_of_tnd (raise_tnd _ _), State.journal_of_tnd (issue_tnd _ _ _), updReason_journal, hj]
    · obtain ⟨h1, h2⟩ := hbusyAddr hin
      rw [State.rd_of_regs (tndAnswer_regs _ _ _), raise_rd_of_fabricEvent (by decide), issue_rd, updReason_rd h1, taken_rd h2]
    · refine (tndAnswer_mask rfl _ _ _).trans ((raise_mask rfl rfl _ _).trans ?_)
      rw [issue_report]
      exact (mask_sys rfl _ _).trans ((updReason_mask rfl rfl _ _).trans (taken_mask rfl rfl rfl _ _))
  case second =>
    have hform : updBegin x (taken mb.val s) = outOfOrder (taken mb.val s) := if_pos (by rw [hupd]; simpa using hbusy)
    exact houtOfOrder ha ((updBegin_runs (hgo ha) hmb x).trans (congrArg Host.Outcome.next hform))
  case write =>
    have hform := updWrite_of_next (s := taken mb.val s) (by rwa [nextWrite_congr hupd hj]) (by rwa [manStep_congr hupd]) (by rwa [hupd]) (by rwa [hj])
      hhash htag
    have hrun := (updWrite_runs (hgo ha) hmb).trans (congrArg Host.Outcome.next hform)
    have hserving := ((taken_serving (mb := mb.val) (hgo ha).takes.waiting).writing hmb k y).flashOp hmb 1 k
    obtain ⟨hjournal, hstate, hshown⟩ := writing_shows k y (taken mb.val s)
    have hmask : OnlyChanges { regs := true, resp := true, tnd := true, upd := true } s (flashOp 1 k (writing k y (taken mb.val s))) :=
      (flashOp_small_mask rfl rfl _ _ _).trans ((writing_mask rfl rfl rfl _ _ _).trans (taken_mask rfl rfl rfl _ _))
    refine ⟨_, hrun, ⟨hserving.serving, hserving.busy, hserving.waiting, hserving.resp⟩, ?_, ?_, ?_, flashOp_busy _ _ _, ?_, hmask⟩
    · rw [flashOp_journal, hjournal, hj]
    · rw [State.get_of_rd (flashOp_rd (by decide) _ _ _), hstate]
    · rw [State.get_of_rd (flashOp_rd (by decide) _ _ _), hshown]
    · exact sys_of_mask (K := { regs := true, resp := true, tnd := true, upd := true }) rfl hmask
  case noWrite =>
    have hform := updWrite_of_none (s := taken mb.val s) (by rwa [nextWrite_congr hupd hj])
    exact houtOfOrder ha ((updWrite_runs (hgo ha) hmb).trans (congrArg Host.Outcome.next hform))
  case written =>
    have hrun : exec (.flashOperationDone true) s = .next (tndEnd 0 [BitVec.ofNat 8 s.journal.step] (updShowState (writeEnded s))) :=
      congrArg Host.Outcome.next ((if_pos (by simp [hready, hflash, hrel])).trans (flashDone_of_written hop hrev))
    have hkept : (updShowState (writeEnded s)).tnd.serving = some (mb.val, { wait := true }) := by
      rw [updShowState_eq, State.set_tnd, writeEnded, raise_tnd, flashIdle, State.set_tnd]
      exact hserving
    refine ⟨_, hrun, tndEnd_serving hkept _ _, ?_, ?_, fun a hin => ?_, (tndEnd_mask rfl _ _ _).trans ((updShowState_mask rfl _).trans (writeEnded_mask rfl rfl rfl _))⟩
    · rw [tndEnd_journal, updShowState_journal, writeEnded_journal]
    · rw [State.get_of_regs (tndEnd_regs _ _ _), updShowState_get (by decide), writeEnded_busy]
    · have h1 : a ≠ 0x30070000 := fun e => hin (e ▸ List.mem_cons_self)
      have h2 : a ≠ 0x30060000 := fun e => hin (e ▸ List.mem_cons_of_mem _ List.mem_cons_self)
      rw [State.rd_of_regs (tndEnd_regs _ _ _), updShowState_rd h1, writeEnded_rd h2]
  case misread =>
    exact ⟨_, congrArg Host.Outcome.next ((if_pos (by simp [hready, hflash, hrel])).trans (flashDone_of_misread hop hretry)), rfl⟩
  case status =>
    have hrun := updStatus_runs (hgo ha) hmb
    rw [hj] at hrun
    obtain ⟨htnd, -, hresp, honly, hmask⟩ := tndAnswer_taken_done (mb := mb.val) (hgo ha).takes.waiting 0 (journalBytes s.journal)
    exact ⟨_, hrun, htnd, hresp, honly, hmask⟩

end Sys2Proof.Machine

/-! ## Field update: activation and the pair handover (R516 to R520). -/

namespace Sys2Proof.Machine
open Sys2Proof

section
variable {s t u : State} {mb k : Nat} {y : ManStep}

/-! ### A step that becomes active (R516, R520) -/

/-- Step `k` is active in the journal, with its deadline. -/
def stepEntered (k : Nat) (old : List CompInfo) (s : State) : State :=
  let s := s.setStep k 3
  let s := s.setJournal { s.journal with deadline := s.get F.EMB_RTC_SEC.SEC + s.journal.probT }
  s.setUpd { s.upd with oldComp := s.upd.oldComp ++ old }

/-- A step that takes effect at once replaces the running component. -/
def stepReplaced (y : ManStep) (s : State) : State :=
  if y.act then s else
    setVerified y.desc.type y.desc.inst (SMap.get [] s.upd.newImg (imgKey y.desc.type y.desc.inst)) (replaceComp (compOf y.desc) s)

/-- The running components that step `y` replaces. -/
def replacedBy (y : ManStep) (s : State) : List CompInfo :=
  s.sys.loader.done.filter (fun c => c.type == y.desc.type && c.inst == y.desc.inst)

/-- UPD_STAT of a step that has become active. -/
def stepActivated (k : Nat) (y : ManStep) (s : State) : State :=
  raise 57 (updShowState ((stepEntered k (replacedBy y s) (stepReplaced y s)).set F.UPD_STAT.OLD_KEPT 1))

theorem stepActive_of_step (h : manStep s k = some y) : stepActive k s = tndEnd 0 [BitVec.ofNat 8 k] (stepActivated k y s) := by
  rw [stepActive, h]
  rfl

theorem stepReplaced_mask {K : Parts} (kD : K.sys) (y : ManStep) (s : State) : (stepReplaced y s).mask K = s.mask K := by
  unfold stepReplaced
  split
  · rfl
  · exact (setVerified_mask kD _ _ _ _).trans (replaceComp_mask kD _ _)

theorem stepEntered_mask {K : Parts} (kS : K.tnd) (kT : K.upd) (k : Nat) (old : List CompInfo) (s : State) : (stepEntered k old s).mask K = s.mask K :=
  (setUpd_mask kT _ _).trans ((setJournal_mask kS _ _).trans (setJournal_mask kS _ _))

theorem stepEntered_journal (k : Nat) (old : List CompInfo) (s : State) : (stepEntered k old s).journal =
    { s.journal with steps := SMap.put 0 s.journal.steps k 3, deadline := s.get F.EMB_RTC_SEC.SEC + s.journal.probT } := rfl

theorem stepReplaced_kept (y : ManStep) (s : State) : (stepReplaced y s).regs = s.regs ∧ (stepReplaced y s).tnd = s.tnd ∧
    (stepReplaced y s).upd = s.upd ∧ (stepReplaced y s).resp = s.resp := by
  have h := stepReplaced_mask (K := { sys := true }) rfl y s
  exact ⟨regs_of_mask (K := { sys := true }) rfl h, tnd_of_mask (K := { sys := true }) rfl h, upd_of_mask (K := { sys := true }) rfl h,
    resp_of_mask (K := { sys := true }) rfl h⟩

theorem stepActivated_journal (k : Nat) (y : ManStep) (s : State) : (stepActivated k y s).journal =
    { s.journal with steps := SMap.put 0 s.journal.steps k 3, deadline := s.get F.EMB_RTC_SEC.SEC + s.journal.probT } := by
  obtain ⟨hregs, htnd, -, -⟩ := stepReplaced_kept y s
  rw [stepActivated, State.journal_of_tnd (raise_tnd _ _), updShowState_journal, State.journal_set, stepEntered_journal,
    State.journal_of_tnd htnd, State.get_of_regs hregs]

/-- An entry other than the default is listed. -/
theorem any_of_get {m : SMap Nat} {k v : Nat} (h : SMap.get 0 m k = v) (hv : v ≠ 0) : m.any (fun e => e.2 == v) = true := by
  induction m with
  | nil => exact absurd h.symm hv
  | cons x r ih =>
    rw [List.any_cons]
    by_cases hk : x.1 = k
    · rw [SMap.get, if_pos hk] at h
      simp [h]
    · rw [SMap.get, if_neg hk] at h
      rw [ih h, Bool.or_true]

theorem stepActivated_shows (hrev : s.upd.revertAt = none) : (stepActivated k y s).get F.UPD_STAT.OLD_KEPT = 1 ∧
    (stepActivated k y s).get F.UPD_STAT.STATE = 4 := by
  obtain ⟨-, -, hupd, -⟩ := stepReplaced_kept y s
  refine ⟨?_, ?_⟩
  · rw [stepActivated, raise_get_fabric (by decide), updShowState_get (by decide), State.get_set_one _ _ _ _ _ (by decide) (by decide)]
  · have hrev' : (stepEntered k (replacedBy y s) (stepReplaced y s)).upd.revertAt = none := by
      rw [← hrev, ← hupd]
      rfl
    have hany := any_of_get (SMap.get_put_self 0 (stepReplaced y s).journal.steps k 3) (by decide)
    rw [stepActivated, raise_get_fabric (by decide), updShowState_state, State.set_upd, hrev', State.journal_set, stepEntered_journal]
    exact if_pos hany

theorem stepActivated_mask {K : Parts} (kA : K.regs) (kD : K.sys) (kF : K.fab) (kS : K.tnd) (kT : K.upd) (k : Nat) (y : ManStep) (s : State) :
    (stepActivated k y s).mask K = s.mask K :=
  (raise_mask kA kF _ _).trans ((updShowState_mask kA _).trans ((set_mask kA _ _ _ _ _ _).trans ((stepEntered_mask kS kT _ _ _).trans (stepReplaced_mask kD _ _))))

theorem stepActivated_act_mask {K : Parts} (hact : y.act = true) (kA : K.regs) (kF : K.fab) (kS : K.tnd) (kT : K.upd) (k : Nat) (s : State) :
    (stepActivated k y s).mask K = s.mask K := by
  have hsame : stepReplaced y s = s := if_pos hact
  refine (raise_mask kA kF _ _).trans ((updShowState_mask kA _).trans ((set_mask kA _ _ _ _ _ _).trans ((stepEntered_mask kS kT _ _ _).trans ?_)))
  rw [hsame]

theorem stepActivated_rd {a : Nat} (h : a ≠ 0x30070000) (k : Nat) (y : ManStep) (s : State) : (stepActivated k y s).rd a = s.rd a := by
  obtain ⟨hregs, -, -, -⟩ := stepReplaced_kept y s
  rw [stepActivated, raise_rd_of_fabricEvent (by decide), updShowState_rd h, set_quiet _ _ _ _ _ _ _ h]
  exact State.rd_of_regs hregs a

theorem TndServing.stepActivated (h : TndServing mb s) (hmb : mb < 3) (k : Nat) (y : ManStep) : TndServing mb (stepActivated k y s) := by
  obtain ⟨hregs, htnd, -, hresp⟩ := stepReplaced_kept y s
  have hreplaced : TndServing mb (stepReplaced y s) := h.of_kept (by rw [htnd]) (by rw [htnd]) (State.get_of_regs hregs _ _ _ _) hresp
  have hentered : TndServing mb (stepEntered k (replacedBy y s) (stepReplaced y s)) := ((hreplaced.setJournal _).setJournal _).setUpd _
  exact ((hentered.set hmb (by decide) _ _ _ _).updShowState hmb).raise (by decide)

/-! ### UPD_ACTIVATE (R516 to R518) -/

/-- Step `k`, which is `y`, is written, and nothing of it is under way. -/
structure StepReady (s : State) (k : Nat) (y : ManStep) : Prop where
  found : (List.range 28).find? (fun i => s.stepState i == 2) = some k
  step : manStep s k = some y
  standing : s.upd.revertAt = none
  unwanted : SMap.get 0 s.upd.want y.desc.inst = 0
  unmoved : SMap.get 0 s.upd.want (16 + whorlNow s y.desc.inst) = 0

theorem StepReady.congr (h : StepReady s k y) (hupd : t.upd = s.upd) (hj : t.journal = s.journal) : StepReady t k y where
  found := by simpa only [stepState_congr hj] using h.found
  step := (manStep_congr hupd k).trans h.step
  standing := by rw [hupd, h.standing]
  unwanted := by rw [hupd, h.unwanted]
  unmoved := by rw [hupd, whorlNow, hupd]; exact h.unmoved

theorem StepReady.idle (h : StepReady s k y) : ¬ ((s.upd.revertAt.isSome || (SMap.get 0 s.upd.want y.desc.inst != 0 && y.desc.type == 4 ||
    SMap.get 0 s.upd.want (16 + whorlNow s y.desc.inst) != 0 && y.desc.type == 5)) = true) := by
  simp [h.standing, h.unwanted, h.unmoved]

theorem updActivate_of_act (h : StepReady s k y) (hact : y.act = true) : updActivate s = stepActive k s := by
  rw [updActivate, h.found]
  dsimp only
  rw [h.step]
  exact (if_neg h.idle).trans (if_pos hact)

/-- Ember's next program waits for the pass boundary. -/
def progWaits (program : List Word) (s : State) : State := { s with emb := { s.emb with progNext := some program } }

theorem updActivate_of_ember (h : StepReady s k y) (hact : y.act = false) (htype : y.desc.type = 2) (hpass : s.emb.inPass = true) :
    updActivate s = stepActive k (progWaits y.program s) := by
  rw [updActivate, h.found]
  dsimp only
  rw [h.step]
  refine (if_neg h.idle).trans ((if_neg (by simp [hact])).trans ?_)
  rw [htype]
  exact congrArg (stepActive k) (if_pos hpass)

theorem updActivate_of_whorl (h : StepReady s k y) (hact : y.act = false) (htype : y.desc.type = 5) (hnone : standbyFor s = none) :
    updActivate s = tndEnd 5 [] (updReason 9 s) := by
  rw [updActivate, h.found]
  dsimp only
  rw [h.step]
  refine (if_neg h.idle).trans ((if_neg (by simp [hact])).trans ?_)
  rw [htype, hnone]
  rfl

/-- The handover of pair `p` for step `k` waits. -/
def handoverAsked (p k : Nat) (s : State) : State := ((s.setWant p 1).set F.UPD_STAT.STATE 3).set F.UPD_STAT.STEP k

theorem updActivate_of_pair (h : StepReady s k y) (hact : y.act = false) (htype : y.desc.type = 4) : updActivate s =
    if spxHandoverOk s y.desc.inst y.migT then handoverAsked y.desc.inst k s else tndEnd 5 [] (updReason 8 s) := by
  rw [updActivate, h.found]
  dsimp only
  rw [h.step]
  refine (if_neg h.idle).trans ((if_neg (by simp [hact])).trans ?_)
  rw [htype]
  rfl

theorem updActivate_of_none (h : ∀ i, i < 28 → s.stepState i ≠ 2) : updActivate s = outOfOrder s := by
  have hnone : (List.range 28).find? (fun k => s.stepState k == 2) = none := List.find?_eq_none.mpr fun k hk => by
    simpa using h k (List.mem_range.mp hk)
  rw [updActivate, hnone]

theorem TndApart.standbyFor (h : TndApart mb s t) (hmb : mb < 3) (hwhl : t.whl = s.whl) : standbyFor t = standbyFor s := by
  have hok : t.getB F.MODE_STAT.STANDBY_OK = s.getB F.MODE_STAT.STANDBY_OK := State.getB_of_get (h.get_low (by decide))
  have hrole : ∀ w, t.get F.WHL_CTL.ROLE w = s.get F.WHL_CTL.ROLE w := fun w =>
    h.get (by simp only [Fld.addr, F.WHL_CTL.ROLE, F.TND_STAT.BUSY]; omega)
  have hready : ∀ w, whlReady t w = whlReady s w := fun w => State.pdReady_of_rd (by unfold whlDomain; split <;> omega)
    (h.rd _ (by simp only [Fld.addr, F.PD_STAT.ON, F.TND_STAT.BUSY]; omega))
  simp only [Machine.standbyFor, hok, hrole, hready, hwhl, State.whorl]

theorem TndApart.spxHandoverOk (h : TndApart mb s t) (hmb : mb < 3) (p migT : Nat) : spxHandoverOk t p migT = spxHandoverOk s p migT := by
  have hmax : t.get F.UPD_CFG.UPD_I_MAX = s.get F.UPD_CFG.UPD_I_MAX := h.get (by simp only [Fld.addr, F.UPD_CFG.UPD_I_MAX, F.TND_STAT.BUSY]; omega)
  have hstate : t.get F.SPX_STAT.STATE p = s.get F.SPX_STAT.STATE p := h.get (by simp only [Fld.addr, F.SPX_STAT.STATE, F.TND_STAT.BUSY]; omega)
  have hready : t.pdReady (2 + p) = s.pdReady (2 + p) := State.pdReady_of_rd (by omega)
    (h.rd _ (by simp only [Fld.addr, F.PD_STAT.ON, F.TND_STAT.BUSY]; omega))
  simp only [Machine.spxHandoverOk, spxModeOk, h.mode, h.kln, hmax, hstate, hready, kreqPair]

/-- A pair's handover asked for (R518). -/
theorem handoverAsked_shows (p k : Nat) (s : State) : SMap.get 0 (handoverAsked p k s).upd.want p = 1 ∧
    (handoverAsked p k s).get F.UPD_STAT.STATE = 3 ∧ (handoverAsked p k s).journal = s.journal := by
  refine ⟨?_, ?_, ?_⟩
  · rw [handoverAsked, State.set_upd, State.set_upd]
    exact SMap.get_put_self _ _ _ _
  · rw [handoverAsked, State.get_set_clear (by decide), State.get_set_fits (by decide) (by decide)]
  · rw [handoverAsked, State.journal_set, State.journal_set]
    rfl

theorem handoverAsked_mask {K : Parts} (kA : K.regs) (kT : K.upd) (p k : Nat) (s : State) : (handoverAsked p k s).mask K = s.mask K :=
  (set_mask kA _ _ _ _ _ _).trans ((set_mask kA _ _ _ _ _ _).trans (setUpd_mask kT _ _))

theorem TndServing.handoverAsked (h : TndServing mb s) (hmb : mb < 3) (p k : Nat) : TndServing mb (handoverAsked p k s) :=
  ((h.setUpd _).set hmb (by decide) _ _ _ _).set hmb (by decide) _ _ _ _

/-! ### The pair handover itself (R518) -/

/-- What is placed is what stands there, and nothing else moves. -/
theorem place_whole (a : Nat) (l : List Byte) (s : State) : (place a l s).bytes a l.length = l ∧ BytesOnly a l.length s (place a l s) := by
  obtain ⟨h1, -, h3⟩ := place_bytes a l [] [] s
  simp only [List.append_nil, List.length_nil, Nat.add_zero] at h1 h3
  exact ⟨h1, h3⟩

theorem loadTcms_eq (p : Nat) (data : List Byte) (s : State) : loadTcms p data s =
    place (tcmKey (2 * p + 1) 0) (data.take 0x80000) (place (tcmKey (2 * p) 0) (data.take 0x80000) s) := rfl

/-- Both TCMs of a pair hold the first 512 KB of an image. -/
theorem loadTcms_bytes (p : Nat) (data : List Byte) (s : State) (c : Fin 2) :
    (loadTcms p data s).bytes (tcmKey (2 * p + c.val) 0) (min data.length 0x80000) = data.take 0x80000 := by
  have hlen : min data.length 0x80000 = (data.take 0x80000).length := by rw [List.length_take, Nat.min_comm]
  have hle : (data.take 0x80000).length ≤ 0x80000 := by rw [List.length_take]; omega
  rw [hlen, loadTcms_eq]
  match c with
  | 0 =>
    obtain ⟨hfirst, -⟩ := place_whole (tcmKey (2 * p) 0) (data.take 0x80000) s
    obtain ⟨-, honly⟩ := place_whole (tcmKey (2 * p + 1) 0) (data.take 0x80000) (place (tcmKey (2 * p) 0) (data.take 0x80000) s)
    refine Eq.trans ((State.bytes_eq_iff _ _ _ _ _).mpr fun j hj => honly _ (Or.inl ?_)) hfirst
    simp only [tcmKey, Fin.val_zero]
    omega
  | 1 => exact (place_whole _ _ _).1

theorem refillTcms_bytes (p : Nat) (image : List Byte) (s : State) (c : Fin 2) :
    (refillTcms p image s).bytes (tcmKey (2 * p + c.val) 0) (min image.length 0x80000) = image.take 0x80000 := loadTcms_bytes _ _ _ c

theorem tcmLoadDone_of_new {p : Nat} (hmigr : SMap.get 0 s.upd.migr p = 1) (hwant : SMap.get 0 s.upd.want p ≠ 2) :
    tcmLoadDone p s = (refillTcms p (SMap.get [] s.upd.newImg (imgKey 4 p)) s).setMigr p 2 := by
  rw [tcmLoadDone, if_neg (by simp [hmigr]), if_neg hwant]

/-- A migration that is late is abandoned (R518). -/
theorem migrationTimeout_of_running {p : Nat} (hmigr : SMap.get 0 s.upd.migr p = 2) :
    migrationTimeout p s = pairRestart p (activateFail 12 ((s.setMigr p 0).setWant p 0)) := if_neg (by simp [hmigr])

theorem activateFail_shows {r : Nat} (hr : r < 16) (s : State) : (activateFail r s).get F.UPD_STAT.REASON = r ∧
    (activateFail r s).journal = { s.journal with reason := r } ∧ (activateFail r s).sys.lastFault = 0x0222 ∧ (activateFail r s).upd = s.upd := by
  refine ⟨?_, ?_, ?_, ?_⟩
  · rw [activateFail, State.get_of_regs (tndEnd_regs _ _ _), updShowState_get (by decide), updReason_reason, Nat.mod_eq_of_lt hr]
  · rw [activateFail, tndEnd_journal, updShowState_journal, updReason_journal, State.journal_of_tnd (issue_tnd _ _ _)]
  · have hmask : (activateFail r s).mask { regs := true, tnd := true } = (issue 0x0222 0 s).mask { regs := true, tnd := true } :=
      (tndEnd_mask rfl _ _ _).trans ((updShowState_mask rfl _).trans (updReason_mask rfl rfl _ _))
    rw [sys_of_mask (K := { regs := true, tnd := true }) rfl hmask, issue_lastFault]
  · exact upd_of_mask (K := { regs := true, sys := true, kln := true, tnd := true }) rfl (activateFail_mask rfl rfl rfl rfl r s)

theorem pairRestart_shows (p : Nat) (s : State) : (pairRestart p s).get F.SPX_STAT.STATE p = 4 ∧
    (pairRestart p s).get F.UPD_STAT.REASON = s.get F.UPD_STAT.REASON ∧ (pairRestart p s).journal = s.journal ∧
    (pairRestart p s).sys = s.sys ∧ (pairRestart p s).upd = s.upd := by
  have hmask := pairRestart_mask (K := { regs := true, spx := true, sup := true, chg := true, xcp := true }) rfl rfl rfl rfl rfl p s
  refine ⟨by rw [pairRestart, State.get_set_fits (by decide) (by decide)], ?_, State.journal_of_tnd (tnd_of_mask rfl hmask), sys_of_mask rfl hmask, upd_of_mask rfl hmask⟩
  rw [pairRestart, State.get_set_addr _ _ _ _ _ _ _ _ _ _ (by simp only [Fld.addr, F.SPX_STAT.STATE, F.UPD_STAT.REASON]; omega), firmwareLost_get, State.get_setPair]

end

/-- Settles O49: UPD_ACTIVATE is the branches of the step's kind, and a pair's handover is its three host events. -/
theorem updateActivation : Obligations.UpdateActivation := by
  unfold Obligations.UpdateActivation
  intro s m mb y k p
  extract_lets go served goesOn plain j type inst written image
  have hmb := mb.isLt
  have hgo : go → UpdTakes s m mb.val := fun ⟨h1, h2, h3, h4, h5, h6, h7, h8, h9⟩ => ⟨⟨h1, h2, h3, h4, h5, h6, h7⟩, h8, h9⟩
  have hready : written → StepReady (taken mb.val s) k y := fun ⟨_, h1, h2, h3, h4, h5⟩ =>
    StepReady.congr ⟨h1, h2, h3, h4, h5⟩ (taken_upd mb.val s) (taken_journal mb.val s)
  have htaken : written → TndServing mb.val (taken mb.val s) := fun ⟨h, _⟩ => taken_serving (hgo h).takes.waiting
  have hwhl : (taken mb.val s).whl = s.whl := whl_of_mask (K := { regs := true, resp := true, tnd := true }) rfl (taken_mask rfl rfl rfl _ _)
  have hruns : ∀ {t : State}, go → updActivate (taken mb.val s) = t → exec (.updActivate m mb) s = .next t := fun h hform =>
    (updActivate_runs (hgo h) hmb).trans (congrArg Host.Outcome.next hform)
  have hrefused : ∀ {r reason : Nat}, go → reason < 16 → updActivate (taken mb.val s) = tndEnd r [] (updReason reason (taken mb.val s)) →
      Runs (.updActivate m mb) s fun t => served r [] t ∧ t.get F.UPD_STAT.REASON = reason ∧ t.journal = { j with reason := reason } ∧ plain t :=
    fun {r reason} ha hreason hform => by
      obtain ⟨h1, h2, h3, -, h5⟩ := updRefused_shows (hgo ha).takes.waiting hmb r reason
      exact ⟨_, hruns ha hform, h1, h2.trans (Nat.mod_eq_of_lt hreason), h3, h5⟩
  refine ⟨fun hw hact => ?atStart, fun hw hact htype hpass => ?ember, fun hw hact htype hnone => ?whorl, fun hw hact htype hno => ?unfit,
    fun hw hact htype hok => ?pair, fun ha hnone => ?unwritten, fun hon => ?disarm, fun hon hmigr hwant => ?loaded, fun hon hmigr => ?late⟩
  case atStart =>
    have hserving := (htaken hw).stepActivated hmb k y
    have hform := (updActivate_of_act (hready hw) hact).trans ((stepActive_of_step (hready hw).step).trans (tndEnd_of_serving hserving _ _))
    obtain ⟨hkept, hstate⟩ := stepActivated_shows (k := k) (y := y) (hready hw).standing
    refine ⟨_, hruns hw.1 hform, tndAnswer_served hserving _ _, ?_, ?_, ?_, fun a hin => ?_,
      (tndAnswer_mask rfl _ _ _).trans ((stepActivated_act_mask hact rfl rfl rfl rfl _ _).trans (taken_mask rfl rfl rfl _ _))⟩
    · rw [tndAnswer_journal, stepActivated_journal, taken_journal,
        (taken_apart mb.val s).get (by simp only [Fld.addr, F.EMB_RTC_SEC.SEC, F.TND_STAT.BUSY]; omega)]
    · rw [tndAnswer_get, hkept]
    · rw [tndAnswer_get, hstate]
    · have h1 : a ≠ 0x30070000 := fun e => hin (e ▸ List.mem_cons_self)
      have h2 : a ≠ F.TND_STAT.BUSY.addr mb.val 0 0 := fun e => hin (e ▸ List.mem_cons_of_mem _ List.mem_cons_self)
      rw [State.rd_of_regs (tndAnswer_regs _ _ _), stepActivated_rd h1, taken_rd h2]
  case ember =>
    have hemb : (taken mb.val s).emb = s.emb := emb_of_mask (K := { regs := true, resp := true, tnd := true }) rfl (taken_mask rfl rfl rfl _ _)
    have hserving := ((htaken hw).of_kept (t := progWaits y.program (taken mb.val s)) rfl rfl rfl rfl).stepActivated hmb k y
    have hform := (updActivate_of_ember (hready hw) hact htype (by rwa [hemb])).trans
      ((stepActive_of_step (s := progWaits y.program (taken mb.val s)) (hready hw).step).trans (tndEnd_of_serving hserving _ _))
    refine ⟨_, hruns hw.1 hform, tndAnswer_served hserving _ _, ?_, ?_, ?_⟩
    · rw [emb_of_mask (K := { regs := true, sys := true, fab := true, tnd := true, upd := true }) rfl
        ((tndAnswer_mask rfl _ _ _).trans (stepActivated_mask rfl rfl rfl rfl rfl _ _ _))]
      exact congrArg (fun e => { e with progNext := some y.program }) hemb
    · rw [State.stepState, tndAnswer_journal, stepActivated_journal]
      exact SMap.get_put_self _ _ _ _
    · exact (tndAnswer_mask rfl _ _ _).trans ((stepActivated_mask rfl rfl rfl rfl rfl _ _ _).trans ((mask_emb rfl _ _).trans (taken_mask rfl rfl rfl _ _)))
  case whorl =>
    exact hrefused hw.1 (by decide) (updActivate_of_whorl (hready hw) hact htype (((taken_apart mb.val s).standbyFor hmb hwhl).trans hnone))
  case unfit =>
    refine hrefused hw.1 (by decide) ((updActivate_of_pair (hready hw) hact htype).trans (if_neg ?_))
    rw [(taken_apart mb.val s).spxHandoverOk hmb]
    exact Bool.eq_false_iff.mp hno
  case pair =>
    have hserving := (htaken hw).handoverAsked hmb inst k
    have hform := (updActivate_of_pair (hready hw) hact htype).trans (if_pos (((taken_apart mb.val s).spxHandoverOk hmb _ _).trans hok))
    obtain ⟨hwant, hstate, hjournal⟩ := handoverAsked_shows inst k (taken mb.val s)
    exact ⟨_, hruns hw.1 hform, ⟨hserving.serving, hserving.busy, hserving.waiting, hserving.resp⟩, hwant, hstate, hjournal.trans (taken_journal _ _),
      (handoverAsked_mask rfl rfl _ _ _).trans (taken_mask rfl rfl rfl _ _)⟩
  case unwritten =>
    refine hrefused ha (by decide) (updActivate_of_none fun i hi => ?_)
    rw [stepState_congr (taken_journal mb.val s)]
    exact hnone i hi
  case disarm => exact ⟨_, congrArg Host.Outcome.next (if_pos hon), rfl⟩
  case loaded =>
    have hrun : exec (.spxTcmLoadDone p) s = .next ((refillTcms p.val image s).setMigr p.val 2) :=
      congrArg Host.Outcome.next ((if_pos hon).trans (tcmLoadDone_of_new hmigr hwant))
    refine ⟨_, hrun, SMap.get_put_self _ _ _ _, fun c => ?_, execSpxTcmLoadDone_mask rfl rfl rfl p s hrun⟩
    rw [State.bytes_of_mem (t := (refillTcms p.val image s).setMigr p.val 2) (s := refillTcms p.val image s) rfl, refillTcms_bytes]
  case late =>
    have hrun : exec (.migrationTimeout p) s = .next (pairRestart p.val (activateFail 12 ((s.setMigr p.val 0).setWant p.val 0))) :=
      congrArg Host.Outcome.next ((if_pos hon).trans (migrationTimeout_of_running hmigr))
    obtain ⟨hstate, hreason, hjournal, hsys, hupd⟩ := pairRestart_shows p.val (activateFail 12 ((s.setMigr p.val 0).setWant p.val 0))
    obtain ⟨hfreason, hfjournal, hffault, hfupd⟩ := activateFail_shows (r := 12) (by decide) ((s.setMigr p.val 0).setWant p.val 0)
    refine ⟨_, hrun, ?_, ?_, hstate, ?_, ?_, ?_, execMigrationTimeout_mask rfl rfl rfl rfl rfl rfl rfl rfl rfl p s hrun⟩
    · rw [hupd, hfupd]
      exact SMap.get_put_self _ _ _ _
    · rw [hupd, hfupd]
      exact SMap.get_put_self _ _ _ _
    · rw [hreason, hfreason]
    · rw [hjournal, hfjournal]
      rfl
    · rw [hsys, hffault]

end Sys2Proof.Machine

/-! ## Field update: confirmation, revert and the deadline (R520 to R523). -/

namespace Sys2Proof.Machine
open Sys2Proof

section
variable {s t u : State} {mb k : Nat}

theorem State.upd_setJournal (s : State) (j : Journal) : (s.setJournal j).upd = s.upd := rfl

/-! ### UPD_CONFIRM (R521) -/

/-- Every step of the manifest is active. -/
def StepsActive (s : State) : Prop := s.journal.nSteps ≠ 0 ∧ ∀ k, k < s.journal.nSteps → s.stepState k = 3

theorem stepsActive_iff : (s.journal.nSteps != 0 && (List.range s.journal.nSteps).all (fun k => s.stepState k == 3)) = true ↔ StepsActive s := by
  simp [StepsActive]

/-- No step needs a START, or one has run the new image. -/
def ConfirmReady (s : State) : Prop := s.journal.started = true ∨ ∃ x, s.upd.man = some x ∧ ∀ y ∈ x.steps, y.act = false

/-- A step needs a START that has not run. -/
def startOwed (s : State) : Bool :=
  match s.upd.man with
  | some m => m.steps.any (fun x => x.act) && !s.journal.started
  | none => !s.journal.started

theorem ConfirmReady.startOwed (h : ConfirmReady s) : startOwed s = false := by
  unfold Machine.startOwed
  rcases h with h | ⟨x, hman, hact⟩
  · cases s.upd.man <;> simp [h]
  · rw [hman]
    simpa using fun y hy ha => absurd ((hact y hy).symm.trans ha) (by decide)

/-- The journal of a confirmation under way. -/
def confirmingJournal (advance : Bool) (s : State) : Journal :=
  { s.journal with
    advance := advance
    next := (match s.sys.loader.hdr with
      | some h => h.secVersion
      | none => 0)
    steps := s.journal.steps.map (fun e => (e.1, 4)) }

/-- A confirmation is under way. -/
def confirming (advance : Bool) (s : State) : State := flashOp 2 0 ((s.setJournal (confirmingJournal advance s)).set F.UPD_STAT.STATE 5)

theorem updConfirm_eq (advance : Bool) (s : State) : updConfirm advance s =
    if !(s.journal.nSteps != 0 && (List.range s.journal.nSteps).all (fun k => s.stepState k == 3)) || startOwed s || s.upd.revertAt.isSome ||
      s.journal.op != 0 || s.sys.loader.limp then outOfOrder s else confirming advance s := rfl

theorem updConfirm_of_active (advance : Bool) (hactive : StepsActive s) (hready : ConfirmReady s) (hrev : s.upd.revertAt = none)
    (hop : s.journal.op = 0) (hlimp : s.sys.loader.limp = false) : updConfirm advance s = confirming advance s := by
  rw [updConfirm_eq, stepsActive_iff.mpr hactive, hready.startOwed, hrev, hop, hlimp]
  rfl

theorem updConfirm_of_inactive (advance : Bool) (h : ¬ StepsActive s) : updConfirm advance s = outOfOrder s := by
  rw [updConfirm_eq, (Bool.not_eq_true _).mp fun hall => h (stepsActive_iff.mp hall)]
  rfl

theorem confirming_shows (advance : Bool) (s : State) : (confirming advance s).journal = { confirmingJournal advance s with op := 2, step := 0 } ∧
    (confirming advance s).get F.UPD_STAT.STATE = 5 ∧ (confirming advance s).get F.SKN_STAT.BUSY = 1 := by
  refine ⟨?_, ?_, flashOp_busy _ _ _⟩
  · rw [confirming, flashOp_journal, State.journal_set, State.journal_setJournal]
  · rw [confirming, State.get_of_rd (flashOp_rd (by decide) _ _ _), State.get_set_fits (by decide) (by decide)]

theorem confirming_mask {K : Parts} (kA : K.regs) (kS : K.tnd) (advance : Bool) (s : State) : (confirming advance s).mask K = s.mask K :=
  (flashOp_small_mask kA kS _ _ _).trans ((set_mask kA _ _ _ _ _ _).trans (setJournal_mask kS _ _))

theorem TndServing.confirming (h : TndServing mb s) (hmb : mb < 3) (advance : Bool) : TndServing mb (confirming advance s) :=
  ((h.setJournal _).set hmb (by decide) _ _ _ _).flashOp hmb _ _

/-! ### The end of a confirmation (R521) -/

theorem confirmJournal_journal (s : State) : (confirmJournal s).journal =
    { lastSeq := s.journal.lastSeq, manifest := s.journal.manifest, reason := s.journal.reason } := by
  rw [confirmJournal, State.journal_of_tnd (raise_tnd _ _), State.journal_set]
  exact State.journal_setJournal _ _

/-- The fuses after a confirmation of journal `j`: with ADVANCE, SEC_CTR is raised. -/
def fuseAfter (j : Journal) (f : FuseSt) : FuseSt := if j.advance then { f with secCtr := max f.secCtr j.next } else f

theorem fuseAfter_op (j : Journal) (f : FuseSt) (op : Nat) : fuseAfter { j with op := op } f = fuseAfter j f := rfl

theorem confirmJournal_fuse (s : State) : (confirmJournal s).tnd.fuse = fuseAfter s.journal s.tnd.fuse := by
  rw [confirmJournal, raise_tnd, State.set_tnd, fuseAfter]
  by_cases h : s.journal.advance = true
  · rw [if_pos h, if_pos h]
    rfl
  · rw [if_neg h, if_neg h]
    rfl

theorem confirmJournal_get {f : Fld} (hf : 0x30030000 ≤ f.base ∧ f.s1 = 0 ∧ f.base ≠ 0x30070000) (s : State) : (confirmJournal s).get f = s.get f := by
  have haddr : f.addr 0 0 0 ≠ F.UPD_STAT.PROB_CNT.addr 0 0 0 := by
    simp only [Fld.addr, F.UPD_STAT.PROB_CNT]
    omega
  rw [confirmJournal, raise_get_fabric ⟨by decide, hf.1⟩, State.get_set_addr _ _ _ _ _ _ _ _ _ _ haddr]
  refine State.get_of_regs ?_ _ _ _ _
  split <;> rfl

theorem statClear_shows (s : State) : (statClear s).get F.UPD_STAT.PROB_CNT = 0 ∧ (statClear s).get F.UPD_STAT.STATE = 0 ∧
    (statClear s).get F.UPD_STAT.OLD_KEPT = 0 := by
  refine ⟨?_, ?_, ?_⟩
  · rw [statClear, State.get_set_clear (by decide), State.get_set_clear (by decide), State.get_set_clear (by decide),
      State.get_set_zero _ _ _ _ _ (by decide) (by decide)]
  · rw [statClear, State.get_set_zero _ _ _ _ _ (by decide) (by decide)]
  · rw [statClear, State.get_set_clear (by decide), State.get_set_zero _ _ _ _ _ (by decide) (by decide)]

theorem statClear_reason (s : State) : (statClear s).get F.UPD_STAT.REASON = s.get F.UPD_STAT.REASON := by
  rw [statClear, State.get_set_clear (by decide), State.get_set_clear (by decide), State.get_set_clear (by decide), State.get_set_clear (by decide)]

theorem statClear_rd {a : Nat} (h : a ≠ 0x30070000) (s : State) : (statClear s).rd a = s.rd a := by
  rw [statClear, set_quiet _ _ _ _ _ _ _ h, set_quiet _ _ _ _ _ _ _ h, set_quiet _ _ _ _ _ _ _ h, set_quiet _ _ _ _ _ _ _ h]

theorem statClear_tnd (s : State) : (statClear s).tnd = s.tnd := tnd_of_mask (K := { regs := true }) rfl (statClear_mask rfl s)

theorem TndServing.statClear (h : TndServing mb s) (hmb : mb < 3) : TndServing mb (statClear s) :=
  (((h.set hmb (by decide) _ _ _ _).set hmb (by decide) _ _ _ _).set hmb (by decide) _ _ _ _).set hmb (by decide) _ _ _ _

/-- Tinder's mirror is brought up to date after a confirmation. -/
def confirmed (s : State) : State := tndShow ((statClear (confirmJournal (flashIdle s))).setUpd {})

theorem confirmDone_of_none (h : s.upd.man = none) : confirmDone s = tndEnd 0 [] (tndShow ((statClear (confirmJournal s)).setUpd {})) := by
  rw [confirmDone, h]

theorem flashDone_of_confirming (hop : s.journal.op = 2) (hman : s.upd.man = none) : flashDone true s = tndEnd 0 [] (confirmed s) := by
  have hidle : (flashIdle s).upd.man = none := by
    rw [flashIdle, State.set_upd]
    exact hman
  rw [flashDone, hop]
  exact (if_pos rfl).trans (confirmDone_of_none hidle)

theorem confirmed_journal (s : State) : (confirmed s).journal =
    { lastSeq := s.journal.lastSeq, manifest := s.journal.manifest, reason := s.journal.reason } := by
  rw [confirmed, State.journal_of_tnd (tndShow_tnd _), State.journal_of_tnd (State.setUpd_tnd _ _), State.journal_of_tnd (statClear_tnd _),
    confirmJournal_journal, flashIdle_journal]

theorem tndShow_upd (s : State) : (tndShow s).upd = s.upd := upd_of_mask (K := { regs := true }) rfl (tndShow_mask rfl s)

theorem State.upd_setUpd (s : State) (x : UpdSt) : (s.setUpd x).upd = x := rfl

theorem confirmed_upd (s : State) : (confirmed s).upd = {} := by rw [confirmed, tndShow_upd, State.upd_setUpd]

theorem flashIdle_fuse (s : State) : (flashIdle s).tnd.fuse = s.tnd.fuse := by
  rw [flashIdle, State.set_tnd]
  rfl

theorem confirmed_tnd (s : State) : (confirmed s).tnd = (confirmJournal (flashIdle s)).tnd := by
  rw [confirmed, tndShow_tnd, State.setUpd_tnd, statClear_tnd]

theorem confirmed_fuse (s : State) : (confirmed s).tnd.fuse = fuseAfter s.journal s.tnd.fuse := by
  rw [confirmed_tnd, confirmJournal_fuse, flashIdle_journal, flashIdle_fuse, fuseAfter_op]

theorem confirmed_get {f : Fld} (hf : 0x30050C20 ≤ f.addr 0 0 0) (s : State) : (confirmed s).get f = (statClear (confirmJournal (flashIdle s))).get f := by
  rw [confirmed, State.get_of_rd (tndShow_rd_above hf _), State.get_of_regs (State.setUpd_regs _ _)]

theorem confirmed_shows (s : State) : (confirmed s).get F.UPD_STAT.PROB_CNT = 0 ∧ (confirmed s).get F.UPD_STAT.STATE = 0 ∧
    (confirmed s).get F.UPD_STAT.OLD_KEPT = 0 ∧ (confirmed s).get F.SKN_STAT.BUSY = 0 := by
  obtain ⟨h1, h2, h3⟩ := statClear_shows (confirmJournal (flashIdle s))
  refine ⟨?_, ?_, ?_, ?_⟩
  · rw [confirmed_get (by decide), h1]
  · rw [confirmed_get (by decide), h2]
  · rw [confirmed_get (by decide), h3]
  · rw [confirmed_get (by decide), State.get_of_rd (statClear_rd (by decide) _), confirmJournal_get (by decide), flashIdle_busy]

theorem confirmed_mask {K : Parts} (kA : K.regs) (kF : K.fab) (kS : K.tnd) (kT : K.upd) (s : State) : (confirmed s).mask K = s.mask K :=
  (tndShow_mask kA _).trans ((setUpd_mask kT _ _).trans ((statClear_mask kA _).trans ((confirmJournal_mask kA kF kS _).trans (flashIdle_small_mask kA kS _))))

theorem tndEnd_fuse (r : Nat) (out : List Byte) (s : State) : (tndEnd r out s).tnd.fuse = s.tnd.fuse := by
  unfold tndEnd
  split
  · exact ite_keeps (p := fun s => s.tnd.fuse) rfl
  · rfl

/-! ### UPD_REVERT (R522) -/

/-- An update that may be reverted. -/
structure Revertible (s : State) : Prop where
  man : s.upd.man.isSome = true
  fresh : s.journal.started = false
  standing : s.upd.revertAt = none
  idle : s.journal.op = 0

theorem Revertible.congr (h : Revertible s) (hupd : t.upd = s.upd) (hj : t.journal = s.journal) : Revertible t :=
  ⟨by rw [hupd, h.man], by rw [hj, h.fresh], by rw [hupd, h.standing], by rw [hj, h.idle]⟩

theorem Revertible.passes (h : Revertible s) :
    ¬ ((s.upd.man.isNone || s.journal.started || s.upd.revertAt.isSome || s.journal.op != 0) = true) := by
  have hman : s.upd.man.isNone = false := by rw [← Option.not_isSome, h.man]; rfl
  simp [hman, h.fresh, h.standing, h.idle]

/-- The update is cleared. -/
def reverted (s : State) : State :=
  let s := statClear (journalClear s)
  let keep := s.upd.want.filter (fun e => e.2 == 2)
  raise 59 (issue 0x0223 0 (s.setUpd { oldImg := if keep.isEmpty then [] else s.upd.oldImg, want := keep, migr := s.upd.migr, loc := s.upd.loc }))

theorem revertDone_of_reason (h : s.journal.reason ≠ 10) : revertDone s = tndEnd 0 [] (reverted s) := by
  have hwas : (s.journal.reason == 10 && !s.journal.steps.any (fun e => e.2 == 3)) = false := by simp [h]
  unfold revertDone
  dsimp only
  rw [hwas]
  rfl

theorem updRevert_of_unwritten (h : Revertible s) (hsteps : ∀ e ∈ s.journal.steps, e.2 < 2) : updRevert s = tndEnd 0 [] (reverted (updReason 15 s)) := by
  have hnone : ¬ (s.journal.steps.any (fun e => 2 ≤ e.2) = true) := by
    simpa using fun a b hab => hsteps (a, b) hab
  refine (if_neg h.passes).trans ((if_neg hnone).trans (revertDone_of_reason ?_))
  rw [updReason_journal]
  exact (by decide : (15 : Nat) ≠ 10)

theorem reverted_shows (s : State) : (reverted s).journal = { lastSeq := s.journal.lastSeq, manifest := s.journal.manifest, reason := s.journal.reason } ∧
    (reverted s).upd.man = none ∧ (reverted s).get F.UPD_STAT.STATE = 0 ∧ (reverted s).get F.UPD_STAT.REASON = s.get F.UPD_STAT.REASON ∧
    (reverted s).sys.lastFault = 0x0223 := by
  refine ⟨?_, ?_, ?_, ?_, ?_⟩
  · rw [reverted, State.journal_of_tnd (raise_tnd _ _), State.journal_of_tnd (issue_tnd _ _ _), State.journal_of_tnd (State.setUpd_tnd _ _),
      State.journal_of_tnd (statClear_tnd _), journalClear, State.journal_setJournal]
  · rw [reverted, raise_upd, issue_report]
    rfl
  · rw [reverted, raise_get_fabric (by decide), issue_get, State.get_of_regs (State.setUpd_regs _ _), (statClear_shows _).2.1]
  · rw [reverted, raise_get_fabric (by decide), issue_get, State.get_of_regs (State.setUpd_regs _ _), statClear_reason]
    exact State.get_of_regs rfl _ _ _ _
  · rw [reverted, raise_sys, issue_lastFault]

theorem reverted_mask {K : Parts} (kA : K.regs) (kD : K.sys) (kF : K.fab) (kS : K.tnd) (kT : K.upd) (s : State) : (reverted s).mask K = s.mask K := by
  refine (raise_mask kA kF _ _).trans ?_
  rw [issue_report]
  exact (mask_sys kD _ _).trans ((setUpd_mask kT _ _).trans ((statClear_mask kA _).trans (journalClear_mask kS _)))

theorem TndServing.reverted (h : TndServing mb s) (hmb : mb < 3) : TndServing mb (reverted s) :=
  ((((h.setJournal _).statClear hmb).setUpd _).issue _ _).raise (by decide)

/-- A revert with no active step has nothing to undo; the flash is rewritten. -/
theorem undoStep_of_inactive (h : s.stepState k ≠ 3) : undoStep k s = s := by
  unfold undoStep
  split
  · rfl
  · exact if_pos (by simp [h])

/-- The flash is being rewritten from staging. -/
def rewriting (s : State) : State := flashOp 3 s.journal.step (updShowState (s.setUpd { s.upd with revertAt := some 1 }))

theorem undoAll_of_inactive (h : ∀ k, s.stepState k ≠ 3) : undoAll s = rewriting s := by
  have hsteps : (List.range 28).reverse.foldl (fun s k => undoStep k s) s = s := List.foldl_fixed' (fun k => undoStep_of_inactive (h k)) _
  unfold undoAll
  rw [hsteps]
  rfl

/-- A revert has begun (R522). -/
def reverting (reason : Nat) (s : State) : State := updShowState (updReason reason (s.setUpd { s.upd with revertAt := some 0 }))

theorem updRevert_of_written (h : Revertible s) (hwritten : ∃ e ∈ s.journal.steps, e.2 = 2) (hinactive : ∀ k, s.stepState k ≠ 3) :
    updRevert s = rewriting (reverting 15 s) := by
  have hany : s.journal.steps.any (fun e => 2 ≤ e.2) = true := by
    obtain ⟨e, he, h2⟩ := hwritten
    exact List.any_eq_true.mpr ⟨e, he, by simp [h2]⟩
  have hbegin : revertBegin 15 s = reverting 15 s := if_pos (by simp only [h.man, h.standing, hany]; rfl)
  refine (if_neg h.passes).trans ((if_pos hany).trans ?_)
  rw [hbegin]
  refine undoAll_of_inactive fun k => ?_
  rw [State.stepState, reverting, updShowState_journal, updReason_journal]
  exact hinactive k

theorem rewriting_shows (s : State) : (rewriting (reverting 15 s)).journal = { s.journal with reason := 15, op := 3 } ∧
    (rewriting (reverting 15 s)).get F.UPD_STAT.STATE = 6 ∧ (rewriting (reverting 15 s)).get F.UPD_STAT.REASON = 15 ∧
    (rewriting (reverting 15 s)).get F.SKN_STAT.BUSY = 1 ∧ (rewriting (reverting 15 s)).upd = { s.upd with revertAt := some 1 } := by
  have hjournal : (reverting 15 s).journal = { s.journal with reason := 15 } := by
    rw [reverting, updShowState_journal, updReason_journal]
    rfl
  have hupd : (reverting 15 s).upd = { s.upd with revertAt := some 0 } := by
    rw [reverting, updShowState_upd, updReason_upd]
    rfl
  have hreason : (reverting 15 s).get F.UPD_STAT.REASON = 15 := by rw [reverting, updShowState_get (by decide), updReason_reason]
  refine ⟨?_, ?_, ?_, flashOp_busy _ _ _, ?_⟩
  · rw [rewriting, flashOp_journal, updShowState_journal, State.journal_of_tnd (State.setUpd_tnd _ _), hjournal]
  · rw [rewriting, State.get_of_rd (flashOp_rd (by decide) _ _ _), updShowState_state]
    rfl
  · rw [rewriting, State.get_of_rd (flashOp_rd (by decide) _ _ _), updShowState_get (by decide), State.get_of_regs (State.setUpd_regs _ _), hreason]
  · rw [rewriting, flashOp, State.set_upd, State.upd_setJournal, updShowState_upd, State.upd_setUpd, hupd]

theorem rewriting_mask {K : Parts} (kA : K.regs) (kS : K.tnd) (kT : K.upd) (s : State) : (rewriting (reverting 15 s)).mask K = s.mask K :=
  (flashOp_small_mask kA kS _ _ _).trans ((updShowState_mask kA _).trans ((setUpd_mask kT _ _).trans
    ((updShowState_mask kA _).trans ((updReason_mask kA kS _ _).trans (setUpd_mask kT _ _)))))

/-- What changes beside the update's own state. -/
theorem mask_with_upd (h : t.mask { regs := true, resp := true, tnd := true, upd := true } = s.mask { regs := true, resp := true, tnd := true, upd := true }) :
    ({ t with upd := s.upd } : State).mask { regs := true, resp := true, tnd := true } = s.mask { regs := true, resp := true, tnd := true } :=
  congrArg (fun v : State => { v with upd := s.upd }) h

theorem TndServing.rewriting (h : TndServing mb s) (hmb : mb < 3) : TndServing mb (rewriting (reverting 15 s)) :=
  ((((((h.setUpd _).updReason hmb _).updShowState hmb).setUpd _).updShowState hmb).flashOp hmb _ _)

theorem updRevert_of_started (h : s.journal.started = true) : updRevert s = outOfOrder s := if_pos (by simp [h])

/-! ### The probation deadline (R522, R523) -/

/-- The deadline after a START leaves the next one to fall back. -/
def deadlineMissed (s : State) : State := issue 0x0225 0 ((s.setJournal { s.journal with probCnt := 3 }).set F.UPD_STAT.PROB_CNT 3)

theorem probationDeadline_of_started (hstarted : s.journal.started = true) (hactive : ∃ e ∈ s.journal.steps, e.2 = 3) :
    probationDeadline s = deadlineMissed s := by
  have hany : s.journal.steps.any (fun e => e.2 == 3) = true := by
    obtain ⟨e, he, h3⟩ := hactive
    exact List.any_eq_true.mpr ⟨e, he, by simp [h3]⟩
  exact (if_pos hstarted).trans (if_pos hany)

end

/-- Settles O50: UPD_CONFIRM and UPD_REVERT are the branches of the journal, and the flash's end completes a confirmation. -/
theorem updateEnds : Obligations.UpdateEnds := by
  unfold Obligations.UpdateEnds
  intro s m mb advance
  extract_lets go served goesOn plain j allActive hitless mayRevert
  have hmb := mb.isLt
  have hgo : go → UpdTakes s m mb.val := fun ⟨h1, h2, h3, h4, h5, h6, h7, h8, h9⟩ => ⟨⟨h1, h2, h3, h4, h5, h6, h7⟩, h8, h9⟩
  have hupd := taken_upd mb.val s
  have hj := taken_journal mb.val s
  have htaken : go → TndServing mb.val (taken mb.val s) := fun h => taken_serving (hgo h).takes.waiting
  have hactive : StepsActive (taken mb.val s) ↔ allActive := by
    unfold StepsActive
    simp only [stepState_congr hj, hj]
    rfl
  have hrev : mayRevert → Revertible (taken mb.val s) := fun ⟨_, h1, h2, h3, h4⟩ => Revertible.congr ⟨h1, h2, h3, h4⟩ hupd hj
  have houtOfOrder : ∀ {c : Instr}, go → exec c s = .next (outOfOrder (taken mb.val s)) → Runs c s fun t => served 11 [] t ∧
      t.get F.UPD_STAT.REASON = 7 ∧ t.upd = s.upd ∧ plain t := fun ha hrun => by
    obtain ⟨h1, h2, -, h4, h5⟩ := updRefused_shows (hgo ha).takes.waiting hmb 11 7
    exact ⟨_, hrun, h1, h2, h4, h5⟩
  refine ⟨fun ha hall hready hnone hop hlimp => ?confirm, fun ha hnot => ?inactive, fun hon hflash hrel hop hman => ?confirmed,
    fun hmay hsteps => ?clear, fun hmay hwritten hinactive => ?rewrite, fun ha hstarted => ?started, fun hon hrel hstarted hact => ?deadline⟩
  case confirm =>
    have hready' : ConfirmReady (taken mb.val s) := by
      unfold ConfirmReady
      rw [hj, hupd]
      exact hready
    have hform := updConfirm_of_active advance (hactive.mpr hall) hready' (by rwa [hupd]) (by rwa [hj]) (by rwa [(taken_apart mb.val s).sys])
    have hserving := (htaken ha).confirming hmb advance
    obtain ⟨hjournal, hstate, hbusy⟩ := confirming_shows advance (taken mb.val s)
    refine ⟨_, (updConfirm_runs (hgo ha) hmb advance).trans (congrArg Host.Outcome.next hform),
      ⟨hserving.serving, hserving.busy, hserving.waiting, hserving.resp⟩, ?_, ?_, fun e he => ?_, hstate, hbusy,
      (confirming_mask rfl rfl _ _).trans (taken_mask rfl rfl rfl _ _)⟩
    · rw [hjournal]
    · rw [hjournal]
      rfl
    · rw [hjournal] at he
      obtain ⟨x, -, rfl⟩ := List.mem_map.mp he
      rfl
  case inactive =>
    have hform := updConfirm_of_inactive advance (fun h => hnot (hactive.mp h))
    obtain ⟨t, hrun, h1, h2, -, h4⟩ := houtOfOrder (c := .updConfirm m mb advance) ha ((updConfirm_runs (hgo ha) hmb advance).trans (congrArg Host.Outcome.next hform))
    exact ⟨t, hrun, h1, h2, h4⟩
  case confirmed =>
    have hrun : exec (.flashOperationDone true) s = .next (tndEnd 0 [] (confirmed s)) :=
      congrArg Host.Outcome.next ((if_pos (by simp [hon, hflash, hrel])).trans (flashDone_of_confirming hop hman))
    have hget : ∀ f : Fld, (tndEnd 0 [] (confirmed s)).get f = (confirmed s).get f := fun f => State.get_of_regs (tndEnd_regs _ _ _) _ _ _ _
    obtain ⟨h1, h2, h3, h4⟩ := confirmed_shows s
    exact ⟨_, hrun, (tndEnd_journal _ _ _).trans (confirmed_journal s), (tndEnd_upd _ _ _).trans (confirmed_upd s), (hget _).trans h1, (hget _).trans h2,
      (hget _).trans h3, (hget _).trans h4, (tndEnd_fuse _ _ _).trans (confirmed_fuse s), (tndEnd_mask rfl _ _ _).trans (confirmed_mask rfl rfl rfl rfl s)⟩
  case clear =>
    have hserving := ((htaken hmay.1).updReason hmb 15).reverted hmb
    have hform := (updRevert_of_unwritten (hrev hmay) (by rw [hj]; exact hsteps)).trans (tndEnd_of_serving hserving 0 [])
    obtain ⟨h1, h2, h3, h4, h5⟩ := reverted_shows (updReason 15 (taken mb.val s))
    refine ⟨_, (updRevert_runs (hgo hmay.1) hmb).trans (congrArg Host.Outcome.next hform), tndAnswer_served hserving _ _, ?_, ?_, ?_, ?_, ?_,
      (tndAnswer_mask rfl _ _ _).trans ((reverted_mask rfl rfl rfl rfl rfl _).trans ((updReason_mask rfl rfl _ _).trans (taken_mask rfl rfl rfl _ _)))⟩
    · rw [tndAnswer_journal, h1, updReason_journal, hj]
    · rw [tndAnswer_upd, h2]
    · rw [tndAnswer_get, h3]
    · rw [tndAnswer_get, h4, updReason_reason]
    · rw [tndAnswer_sys, h5]
  case rewrite =>
    have hserving := (htaken hmay.1).rewriting hmb
    have hform := updRevert_of_written (hrev hmay) (by rw [hj]; exact hwritten) (fun k => by rw [stepState_congr hj]; exact hinactive k)
    obtain ⟨h1, h2, h3, h4, h5⟩ := rewriting_shows (taken mb.val s)
    have hmask : OnlyChanges { regs := true, resp := true, tnd := true, upd := true } s (rewriting (reverting 15 (taken mb.val s))) :=
      (rewriting_mask rfl rfl rfl _).trans (taken_mask rfl rfl rfl _ _)
    exact ⟨_, (updRevert_runs (hgo hmay.1) hmb).trans (congrArg Host.Outcome.next hform),
      ⟨hserving.serving, hserving.busy, hserving.waiting, hserving.resp⟩, by rw [h1, hj], h2, h3, h4, by rw [h5, hupd],
      mask_with_upd hmask⟩
  case started =>
    exact houtOfOrder ha ((updRevert_runs (hgo ha) hmb).trans (congrArg Host.Outcome.next (updRevert_of_started (by rw [hj]; exact hstarted))))
  case deadline =>
    have hrun : exec .probationDeadline s = .next (deadlineMissed s) :=
      congrArg Host.Outcome.next ((if_pos (by simp [hon, hrel])).trans (probationDeadline_of_started hstarted hact))
    refine ⟨_, hrun, ?_, ?_, ?_, fun a hin => ?_, ?_⟩
    · rw [deadlineMissed, State.journal_of_tnd (issue_tnd _ _ _), State.journal_set]
      rfl
    · rw [deadlineMissed, issue_get, State.get_set_fits (by decide) (by decide)]
    · rw [deadlineMissed, issue_lastFault]
    · have hne : a ≠ F.UPD_STAT.PROB_CNT.addr 0 0 0 := fun e => hin (List.mem_singleton.mpr e)
      rw [deadlineMissed, issue_rd, set_quiet _ _ _ _ _ _ _ hne]
      exact State.rd_of_regs rfl a
    · unfold deadlineMissed
      rw [issue_report]
      exact (mask_sys rfl _ _).trans ((set_mask rfl _ _ _ _ _ _).trans (setJournal_mask rfl _ _))

end Sys2Proof.Machine

/-! ## Clock monitors, relock, stale crossings and the time stamp's read (R526 to R536). -/

namespace Sys2Proof.Machine
open Sys2Proof

section
variable {s t u : State} {n code p : Nat} {f : Fld}

/-! ### A clock fault (R528) -/

/-- A clock fault with its event. -/
def clkNoted (n code : Nat) (s : State) : State := raise n (clkFault code s)

theorem clkNoted_regs (hn : fabricEvent n = true) (code : Nat) (s : State) : (clkNoted n code s).regs = (s.set F.CLK_STAT.LAST_CODE code).regs := by
  rw [clkNoted, raise_regs_of_fabricEvent hn, clkFault, issue, issueFor_eq]

theorem clkNoted_get (hn : fabricEvent n = true) (hf : F.CLK_STAT.LAST_CODE.Clear f) (code : Nat) (s : State) : (clkNoted n code s).get f = s.get f := by
  rw [State.get_of_regs (clkNoted_regs hn _ _), State.get_set_clear hf]

theorem clkNoted_bit (hn : fabricEvent n = true) (hf : F.CLK_STAT.LAST_CODE.Clear f) (code : Nat) (s : State) (b : Nat) :
    (clkNoted n code s).bit f b = s.bit f b := State.bit_of_get (clkNoted_get hn hf _ _) b

theorem clkNoted_code (hn : fabricEvent n = true) (hcode : code < 2 ^ 16) (s : State) :
    (clkNoted n code s).get F.CLK_STAT.LAST_CODE = code ∧ (clkNoted n code s).sys.lastFault = code := by
  refine ⟨?_, ?_⟩
  · rw [State.get_of_regs (clkNoted_regs hn _ _), State.get_set_fits (by decide) hcode]
  · rw [clkNoted, raise_sys, clkFault, issue_lastFault]

theorem clkNoted_fab (n code : Nat) (s : State) : (clkNoted n code s).fab = { s.fab with xing := (clkNoted n code s).fab.xing } := by
  have hfab : (clkFault code s).fab = s.fab :=
    fab_of_mask (K := { regs := true, sys := true, kln := true }) rfl (clkFault_mask rfl rfl rfl code s)
  rw [← hfab]
  exact raise_fab n (clkFault code s)

/-! ### Loss of XIN and unlocks (R527 to R529) -/

/-- CLK_STAT after the loss of XIN. -/
def xinGone (s : State) : State := (((s.set F.CLK_STAT.XIN_OK 0).set F.CLK_STAT.XIN_LOST 1).set F.CLK_STAT.LOCK 0).set F.CLK_STAT.HOLDOVER 15

theorem execXinLoss_of_clock (hup : clocksUp s = true) (hok : s.getB F.CLK_STAT.XIN_OK = true) :
    execXinLoss s = .next (clkNoted 20 0x1112 (xinGone s)) := congrArg Host.Outcome.next (if_neg (by simp [hup, hok]))

theorem xinGone_shows (s : State) : (xinGone s).get F.CLK_STAT.XIN_OK = 0 ∧ (xinGone s).get F.CLK_STAT.XIN_LOST = 1 ∧
    (xinGone s).get F.CLK_STAT.LOCK = 0 ∧ (xinGone s).get F.CLK_STAT.HOLDOVER = 15 := by
  refine ⟨?_, ?_, ?_, ?_⟩
  · rw [xinGone, State.get_set_clear (by decide), State.get_set_clear (by decide), State.get_set_clear (by decide),
      State.get_set_zero _ _ _ _ _ (by decide) (by decide)]
  · rw [xinGone, State.get_set_clear (by decide), State.get_set_clear (by decide), State.get_set_one _ _ _ _ _ (by decide) (by decide)]
  · rw [xinGone, State.get_set_clear (by decide), State.get_set_zero _ _ _ _ _ (by decide) (by decide)]
  · rw [xinGone, State.get_set_fits (by decide) (by decide)]

/-- CLK_STAT after PLL `p` is unlocked: holdover. -/
def unlocked (p : Nat) (s : State) : State := (s.setBit F.CLK_STAT.LOCK p false).setBit F.CLK_STAT.HOLDOVER p true

theorem pllUnlock_of_locked (hup : clocksUp s = true) (hlock : s.bit F.CLK_STAT.LOCK p = true) :
    pllUnlock p s = clkNoted 21 0x1113 (unlocked p s) := if_neg (by simp [hup, hlock])

theorem unlocked_bits (hp : p < 4) (s : State) (q : Nat) :
    (unlocked p s).bit F.CLK_STAT.LOCK q = (if q = p then false else s.bit F.CLK_STAT.LOCK q) ∧
    (unlocked p s).bit F.CLK_STAT.HOLDOVER q = (if q = p then true else s.bit F.CLK_STAT.HOLDOVER q) := by
  refine ⟨?_, ?_⟩
  · rw [unlocked, State.bit_setBit_clear (by decide), State.bit_setBit (by decide) (by simp only [F.CLK_STAT.LOCK]; omega)]
  · rw [unlocked, State.bit_setBit (by decide) (by simp only [F.CLK_STAT.HOLDOVER]; omega), State.bit_setBit_clear (by decide)]

theorem ite_false_eq_and (k c : Fin 4) (b : Bool) : (if k.val = c.val then false else b) = (b && k != c) := by
  by_cases h : k = c
  · simp [h]
  · simp [h, Fin.val_ne_of_ne h]

/-! ### Frequency windows and the token's period (R528) -/

/-- Bad windows in a row after a window with this count. -/
def windowRun (p count : Nat) (s : State) : Nat :=
  if decide (pllNominal p < 100 * ((count : Int) - pllNominal p).natAbs) then min 2 (SMap.get 0 s.fab.badWin p + 1) else 0

/-- The window is counted. -/
def windowSeen (p run : Nat) (s : State) : State := { s with fab := { s.fab with badWin := SMap.put 0 s.fab.badWin p run } }

theorem windowSeen_run (p run : Nat) (s : State) : SMap.get 0 (windowSeen p run s).fab.badWin p = run := SMap.get_put_self _ _ _ _

theorem execPllFrequencyWindow_of_clock (hup : clocksUp s = true) (p : Fin 4) (count : Nat) :
    execPllFrequencyWindow p count s = .next (if windowRun p.val count s = 2 ∧ SMap.get 0 s.fab.badWin p.val = 1 then
      clkNoted 22 0x1114 ((windowSeen p.val (windowRun p.val count s) s).setBit F.CLK_STAT.FREQ_ERR p.val true)
    else windowSeen p.val (windowRun p.val count s) s) := congrArg Host.Outcome.next (if_neg (by simp [hup]))

/-- A window that is no second bad one in a row only counts. -/
theorem execPllFrequencyWindow_of_uneventful (hup : clocksUp s = true) (p : Fin 4) (count : Nat)
    (h : windowRun p.val count s = 2 → SMap.get 0 s.fab.badWin p.val ≠ 1) :
    execPllFrequencyWindow p count s = .next (windowSeen p.val (windowRun p.val count s) s) :=
  (execPllFrequencyWindow_of_clock hup p count).trans (congrArg Host.Outcome.next (if_neg fun hno => h hno.1 hno.2))

/-! ### Online tests end, a relock among them (R530, R566) -/

/-- DBG_OLT_REQ shows a test's result; no test runs. -/
def testEnded (r : Nat) (s : State) : State :=
  raise 234 (({ s with olt := { s.olt with test := none } }.set F.DBG_OLT_REQ.BUSY 0).set F.DBG_OLT_REQ.RESULT r)

theorem oltEnd_eq (r : Nat) (s : State) :
    oltEnd r s = if r = 1 then raise 232 ((testEnded r s).bump F.DBG_OLT_STAT.FAIL_CNT F.DBG_OLT_STAT.SAT) else testEnded r s := rfl

theorem testEnded_regs (r : Nat) (s : State) : (testEnded r s).regs = ((s.set F.DBG_OLT_REQ.BUSY 0).set F.DBG_OLT_REQ.RESULT r).regs := by
  rw [testEnded, raise_regs_of_fabricEvent (by decide)]
  rfl

theorem oltEnd_rd {a : Nat} (h : a ≠ 0x30150100 ∧ a ≠ 0x30150104) (r : Nat) (s : State) : (oltEnd r s).rd a = s.rd a := by
  have hended : (testEnded r s).rd a = s.rd a := by
    rw [State.rd_of_regs (testEnded_regs _ _), set_quiet _ _ _ _ _ _ _ h.2, set_quiet _ _ _ _ _ _ _ h.2]
  rw [oltEnd_eq]
  split
  · rw [raise_rd_of_fabricEvent (by decide), State.rd_bump_ne h.1 h.1, hended]
  · exact hended

theorem oltEnd_request (r : Nat) (s : State) : (oltEnd r s).rd 0x30150104 = (testEnded r s).rd 0x30150104 := by
  rw [oltEnd_eq]
  split
  · rw [raise_rd_of_fabricEvent (by decide), State.rd_bump_ne (by decide) (by decide)]
  · rfl

theorem oltEnd_shows {r : Nat} (hr : r < 256) (s : State) : (oltEnd r s).get F.DBG_OLT_REQ.BUSY = 0 ∧ (oltEnd r s).get F.DBG_OLT_REQ.RESULT = r := by
  have hget : ∀ f : Fld, f.addr 0 0 0 = 0x30150104 → (oltEnd r s).get f = ((s.set F.DBG_OLT_REQ.BUSY 0).set F.DBG_OLT_REQ.RESULT r).get f := fun f hf => by
    rw [State.get_of_rd (f := f) (hf ▸ oltEnd_request r s), State.get_of_regs (testEnded_regs _ _)]
  refine ⟨?_, ?_⟩
  · rw [hget _ rfl, State.get_set_clear (by decide), State.get_set_zero _ _ _ _ _ (by decide) (by decide)]
  · rw [hget _ rfl, State.get_set_fits (by decide) hr]

theorem testEnded_test (r : Nat) (s : State) : (testEnded r s).olt.test = none := by
  rw [testEnded, raise_eq]
  rfl

theorem oltEnd_test (r : Nat) (s : State) : (oltEnd r s).olt.test = none := by
  rw [oltEnd_eq]
  split
  · have hmask : (raise 232 ((testEnded r s).bump F.DBG_OLT_STAT.FAIL_CNT F.DBG_OLT_STAT.SAT)).mask { regs := true, fab := true } =
        (testEnded r s).mask { regs := true, fab := true } := (raise_mask rfl rfl _ _).trans (bump_mask rfl _ _ _ _ _ _ _)
    rw [olt_of_mask (K := { regs := true, fab := true }) rfl hmask, testEnded_test]
  · exact testEnded_test r s

theorem oltEnd_sys (r : Nat) (s : State) : (oltEnd r s).sys = s.sys :=
  sys_of_mask (K := { regs := true, fab := true, olt := true }) rfl (oltEnd_mask rfl rfl rfl r s)

theorem raise_relocking (n : Nat) (s : State) : (raise n s).fab.relocking = s.fab.relocking := by rw [raise_fab]

theorem oltEnd_relocking (r : Nat) (s : State) : (oltEnd r s).fab.relocking = s.fab.relocking := by
  have hended : (testEnded r s).fab.relocking = s.fab.relocking := by
    rw [testEnded, raise_relocking]
    rfl
  rw [oltEnd_eq]
  split
  · have hbump : ((testEnded r s).bump F.DBG_OLT_STAT.FAIL_CNT F.DBG_OLT_STAT.SAT).fab = (testEnded r s).fab :=
      fab_of_mask (K := { regs := true }) rfl (bump_mask rfl _ _ _ _ _ _ _)
    rw [raise_relocking, hbump, hended]
  · exact hended

/-- A relock begins. -/
def relockBegun (mask : Nat) (s : State) : State :=
  oltBegin 4 (lowestBit mask) ({ s with fab := { s.fab with relocking := mask } }.set F.CLK_CFG.RELOCK_BUSY mask)

theorem relock_of_ok {mask : Nat} (hlt : mask < 16) (hne : mask ≠ 0) (hok : relockOk s = true) : relock mask s = relockBegun mask s := by
  rw [relock, Nat.mod_eq_of_lt hlt, if_neg hne, if_neg (by simp [hok])]
  rfl

theorem relock_of_refused {mask : Nat} (hlt : mask < 16) (hne : mask ≠ 0) (hok : relockOk s = false) : relock mask s = s.set F.CLK_STAT.RELOCK_REF 1 := by
  rw [relock, Nat.mod_eq_of_lt hlt, if_neg hne, if_pos (by simp [hok])]

theorem relockBegun_regs (mask : Nat) (s : State) : (relockBegun mask s).regs = ((s.set F.CLK_CFG.RELOCK_BUSY mask).set F.DBG_OLT_REQ.BUSY 1).regs := rfl

theorem relockBegun_shows {mask : Nat} (hlt : mask < 16) (s : State) : (relockBegun mask s).get F.CLK_CFG.RELOCK_BUSY = mask ∧
    (relockBegun mask s).get F.DBG_OLT_REQ.BUSY = 1 := by
  refine ⟨?_, ?_⟩
  · rw [State.get_of_regs (relockBegun_regs _ _), State.get_set_clear (by decide), State.get_set_fits (by decide) hlt]
  · rw [State.get_of_regs (relockBegun_regs _ _), State.get_set_one _ _ _ _ _ (by decide) (by decide)]

theorem relockBegun_rd {a : Nat} (h1 : a ≠ F.CLK_CFG.RELOCK_BUSY.addr 0 0 0) (h2 : a ≠ F.DBG_OLT_REQ.BUSY.addr 0 0 0) (mask : Nat) (s : State) :
    (relockBegun mask s).rd a = s.rd a := by
  rw [State.rd_of_regs (relockBegun_regs _ _), set_quiet _ _ _ _ _ _ _ h2, set_quiet _ _ _ _ _ _ _ h1]

theorem relockBegun_state (mask : Nat) (s : State) : (relockBegun mask s).fab.relocking = mask ∧ (relockBegun mask s).olt = { s.olt with test := some (4, lowestBit mask) } :=
  ⟨rfl, rfl⟩

/-- PLL `p` has ended its relock; these are left. -/
def relockLeft (left : Nat) (s : State) : State := { s with fab := { s.fab with relocking := left } }.set F.CLK_CFG.RELOCK_BUSY left

theorem relockLeft_regs (left : Nat) (s : State) : (relockLeft left s).regs = (s.set F.CLK_CFG.RELOCK_BUSY left).regs := rfl

theorem relockLeft_olt (left : Nat) (s : State) : (relockLeft left s).olt = s.olt := rfl

theorem relockLeft_get (hf : F.CLK_CFG.RELOCK_BUSY.Clear f) (left : Nat) (s : State) : (relockLeft left s).get f = s.get f := by
  rw [State.get_of_regs (relockLeft_regs _ _), State.get_set_clear hf]

theorem clocksUp_relockLeft (left : Nat) (s : State) : clocksUp (relockLeft left s) = clocksUp s := by
  have hon : (relockLeft left s).pdOn 8 = s.pdOn 8 := State.pdOn_of_rd (by decide)
    ((State.rd_of_regs (relockLeft_regs _ _) _).trans (set_quiet _ _ _ _ _ _ _ (by decide)))
  rw [clocksUp, hon]
  rfl

theorem execPllRelockDone_of_locked {p : Fin 4} (hbusy : s.fab.relocking.testBit p.val = true) (hhold : s.get F.CLK_STAT.HOLDOVER = 0) :
    execPllRelockDone p true s = .next (if putBit s.fab.relocking p.val false = 0 then oltEnd 0 (relockLeft (putBit s.fab.relocking p.val false) s)
      else relockLeft (putBit s.fab.relocking p.val false) s) := by
  have hok : ((!true) || (relockLeft (putBit s.fab.relocking p.val false) s).get F.CLK_STAT.HOLDOVER != 0) = false := by
    rw [relockLeft_get (by decide), hhold]
    rfl
  refine (congrArg Host.Outcome.next (if_neg (by simp [hbusy]))).trans ?_
  change Host.Outcome.next (if _ then oltEnd (if ((!true) || (relockLeft (putBit s.fab.relocking p.val false) s).get F.CLK_STAT.HOLDOVER != 0) = true then 1 else 0) _
    else _) = _
  rw [hok]
  rfl

theorem execPllRelockDone_of_unlocked {p : Fin 4} (hbusy : s.fab.relocking.testBit p.val = true) :
    execPllRelockDone p false s = .next (if putBit s.fab.relocking p.val false = 0 then
        oltEnd 1 (pllUnlock p.val (relockLeft (putBit s.fab.relocking p.val false) s))
      else pllUnlock p.val (relockLeft (putBit s.fab.relocking p.val false) s)) := congrArg Host.Outcome.next (if_neg (by simp [hbusy]))

/-! ### Stale crossings (R536) -/

/-- CDC_STALE shows a stale clock. -/
def staleShown (c : Nat) (s : State) : State := (s.setBit F.CDC_STALE.STALE c true).setBit F.CDC_STALE.STALE_SEEN c true

/-- A stale crossing with its event; TCK issues no code. -/
def staleNoted (c : Nat) (s : State) : State := raise 23 (if c = 7 then staleShown c s else issue 0x1116 0 (staleShown c s))

theorem staleNoted_regs (c : Nat) (s : State) : (staleNoted c s).regs = (staleShown c s).regs := by
  rw [staleNoted, raise_regs_of_fabricEvent (by decide)]
  split
  · rfl
  · rw [issue, issueFor_eq]

theorem staleNoted_lastFault (c : Nat) (s : State) : (staleNoted c s).sys.lastFault = if c = 7 then s.sys.lastFault else 0x1116 := by
  rw [staleNoted, raise_sys]
  split
  · rfl
  · rw [issue_lastFault]

theorem staleShown_bits {c : Nat} (hc : c < 8) (s : State) : (staleShown c s).bit F.CDC_STALE.STALE c = true ∧
    (staleShown c s).bit F.CDC_STALE.STALE_SEEN c = true := by
  refine ⟨?_, ?_⟩
  · rw [staleShown, State.bit_setBit_clear (by decide), State.bit_setBit_self _ _ _ _ _ _ _ (by simp only [F.CDC_STALE.STALE]; omega) (by decide)]
  · rw [staleShown, State.bit_setBit_self _ _ _ _ _ _ _ (by simp only [F.CDC_STALE.STALE_SEEN]; omega) (by decide)]

theorem staleShown_rd {a : Nat} (h : a ≠ 0x30020000) (c : Nat) (s : State) : (staleShown c s).rd a = s.rd a :=
  (set_quiet _ _ _ _ _ _ _ h).trans (set_quiet _ _ _ _ _ _ _ h)

theorem staleNoted_rd {a : Nat} (h : a ≠ 0x30020000) (c : Nat) (s : State) : (staleNoted c s).rd a = s.rd a :=
  (State.rd_of_regs (staleNoted_regs c s) a).trans (staleShown_rd h c s)

theorem execCrossingStale_eq (c : ClockSrc) (s : State) : execCrossingStale c s = .next (if !s.pdOn 8 || s.bit F.CDC_STALE.STALE c.val then s
    else if (staleNoted c.val s).pdReady 7 then (sampledBy c.val).foldl (fun s k => staleSrc k s) (staleNoted c.val s) else staleNoted c.val s) := rfl

theorem execCrossingStale_of_fresh {c : ClockSrc} (hon : s.pdOn 8 = true) (hfresh : s.bit F.CDC_STALE.STALE c.val = false)
    (hnone : s.pdReady 7 = false ∨ sampledBy c.val = []) : execCrossingStale c s = .next (staleNoted c.val s) := by
  have hready : (staleNoted c.val s).pdReady 7 = s.pdReady 7 := State.pdReady_of_rd (by decide) (staleNoted_rd (by decide) _ _)
  rw [execCrossingStale_eq, if_neg (by simp [hon, hfresh]), hready]
  rcases hnone with hno | hno
  · rw [hno, if_neg (by decide)]
  · rw [hno, List.foldl_nil, ite_id]

/-- The sources a clock samples are no longer stale. -/
def sourcesFresh (c : Nat) (s : State) : State := (sampledBy c).foldl (fun s k => s.set F.FLY_SRC_STAT.STALE 0 k) s

theorem get_srcStale_set {k y : Nat} (h : s.get F.FLY_SRC_STAT.STALE k = 0) : (s.set F.FLY_SRC_STAT.STALE 0 y).get F.FLY_SRC_STAT.STALE k = 0 := by
  by_cases he : y = k
  · rw [he, State.get_set_zero _ _ _ _ _ (by decide) (by decide)]
  · refine (State.get_set_addr _ _ _ _ _ _ _ _ _ _ ?_).trans h
    simp only [Fld.addr, F.FLY_SRC_STAT.STALE]
    omega

theorem sourcesFresh_shows {c k : Nat} (hk : k ∈ sampledBy c) (s : State) : (sourcesFresh c s).get F.FLY_SRC_STAT.STALE k = 0 := by
  unfold sourcesFresh
  exact foldl_attains (P := fun t => t.get F.FLY_SRC_STAT.STALE k = 0) (f := fun s k => s.set F.FLY_SRC_STAT.STALE 0 k) hk (fun _ => State.get_set_zero _ _ _ _ _ (by decide) (by decide))
    (fun _ _ h => get_srcStale_set h) s

theorem sourcesFresh_rd {a : Nat} (h : ∀ k, a ≠ F.FLY_SRC_STAT.STALE.addr k 0 0) (c : Nat) (s : State) : (sourcesFresh c s).rd a = s.rd a :=
  foldl_keeps (·.rd a) _ _ (fun k _ _ => set_quiet _ _ _ _ _ _ _ (h k)) s

/-- CDC_STALE no longer shows the clock; its sources follow where the Flyer works. -/
def recovered (c : Nat) (s : State) : State :=
  if s.pdReady 7 then sourcesFresh c (s.setBit F.CDC_STALE.STALE c false) else s.setBit F.CDC_STALE.STALE c false

theorem execCrossingRecovered_of_stale {c : ClockSrc} (hon : s.pdOn 8 = true) (hstale : s.bit F.CDC_STALE.STALE c.val = true) :
    execCrossingRecovered c s = .next (recovered c.val s) := by
  have hready : (s.setBit F.CDC_STALE.STALE c.val false).pdReady 7 = s.pdReady 7 :=
    State.pdReady_of_rd (by decide) (set_quiet _ _ _ _ _ _ _ (by decide))
  refine (congrArg Host.Outcome.next (if_neg (by simp [hon, hstale]))).trans (congrArg Host.Outcome.next ?_)
  dsimp only
  rw [hready]
  rfl

theorem recovered_rd {a : Nat} (h : ∀ k, a ≠ F.FLY_SRC_STAT.STALE.addr k 0 0) (c : Nat) (s : State) :
    (recovered c s).rd a = (s.setBit F.CDC_STALE.STALE c false).rd a := by
  unfold recovered
  split
  · exact sourcesFresh_rd h _ _
  · rfl

theorem stale_ne_source (k : Nat) : 0x30020000 ≠ F.FLY_SRC_STAT.STALE.addr k 0 0 := by
  simp only [Fld.addr, F.FLY_SRC_STAT.STALE]
  omega

end

/-- Settles O33: each monitor's event is the branch of its rule on CLK_STAT, CDC_STALE or the running relock. -/
theorem clockMonitors : Obligations.ClockMonitors := by
  unfold Obligations.ClockMonitors
  intro s p count period m mask c
  extract_lets n bad was left code
  have hp := p.isLt
  refine ⟨fun hup hok => ?xin, fun hup hlock => ?unlock, fun hup hgood => ?good, fun hup hbad hwas => ?first, fun hup hbad hwas => ?second,
    fun hup hlink hper => ?token, fun hup hlink hper => ?tokenErr, fun hw hready hne hrelock => ?relock, fun hw hready hne hrelock => ?refused,
    fun hbusy hhold => ?locked, fun hbusy hup hlock => ?lost, fun hon hfresh hnone => ?stale, fun hon hstale => ?fresh, fun hr hready => ?ts, fun hr => ?noTs⟩
  case xin =>
    have hrun : exec .xinLoss s = .next (clkNoted 20 0x1112 (xinGone s)) := execXinLoss_of_clock hup hok
    obtain ⟨h1, h2, h3, h4⟩ := xinGone_shows s
    exact ⟨_, hrun, (clkNoted_get rfl (by decide) _ _).trans h1, (clkNoted_get rfl (by decide) _ _).trans h2, (clkNoted_get rfl (by decide) _ _).trans h3,
      (clkNoted_get rfl (by decide) _ _).trans h4, clkNoted_code rfl (by decide) _, execXinLoss_mask rfl rfl rfl rfl s hrun⟩
  case unlock =>
    have hrun : exec (.pllUnlock p) s = .next (clkNoted 21 0x1113 (unlocked p.val s)) := congrArg Host.Outcome.next (pllUnlock_of_locked hup hlock)
    refine ⟨_, hrun, clkNoted_code rfl (by decide) _, fun q => ⟨?_, ?_⟩, execPllUnlock_mask rfl rfl rfl rfl p s hrun⟩
    · rw [clkNoted_bit rfl (by decide), (unlocked_bits hp _ _).1, ite_false_eq_and]
    · rw [clkNoted_bit rfl (by decide), (unlocked_bits hp _ _).2, ite_true_eq_or]
  case good =>
    have hzero : windowRun p.val count s = 0 := if_neg (by simpa using Nat.not_lt.mp hgood)
    have hrun : exec (.pllFrequencyWindow p count) s = .next (windowSeen p.val (windowRun p.val count s) s) :=
      execPllFrequencyWindow_of_uneventful hup p count (fun h => absurd (hzero.symm.trans h) (by decide))
    exact ⟨_, hrun, (windowSeen_run _ _ _).trans hzero, rfl, execPllFrequencyWindow_mask rfl rfl rfl rfl p count s hrun⟩
  case first =>
    have hone : windowRun p.val count s = 1 := (if_pos (decide_eq_true hbad)).trans (congrArg (fun w => min 2 (w + 1)) hwas)
    have hrun : exec (.pllFrequencyWindow p count) s = .next (windowSeen p.val (windowRun p.val count s) s) :=
      execPllFrequencyWindow_of_uneventful hup p count (fun h => absurd (hone.symm.trans h) (by decide))
    exact ⟨_, hrun, (windowSeen_run _ _ _).trans hone, rfl, execPllFrequencyWindow_mask rfl rfl rfl rfl p count s hrun⟩
  case second =>
    have htwo : windowRun p.val count s = 2 := (if_pos (decide_eq_true hbad)).trans (congrArg (fun w => min 2 (w + 1)) hwas)
    have hrun : exec (.pllFrequencyWindow p count) s =
        .next (clkNoted 22 0x1114 ((windowSeen p.val (windowRun p.val count s) s).setBit F.CLK_STAT.FREQ_ERR p.val true)) :=
      (execPllFrequencyWindow_of_clock hup p count).trans (congrArg Host.Outcome.next (if_pos ⟨htwo, hwas⟩))
    refine ⟨_, hrun, ?_, ?_, clkNoted_code rfl (by decide) _, execPllFrequencyWindow_mask rfl rfl rfl rfl p count s hrun⟩
    · rw [clkNoted_fab, State.setBit_fab]
      exact (windowSeen_run _ _ _).trans htwo
    · rw [clkNoted_bit rfl (by decide), State.bit_setBit_self _ _ _ _ _ _ _ (by simp only [F.CLK_STAT.FREQ_ERR]; omega) (by decide)]
  case token => exact ⟨_, congrArg Host.Outcome.next ((if_neg (by simp [hup, hlink])).trans (if_neg (Nat.not_lt.mpr hper))), rfl⟩
  case tokenErr =>
    have hrun : exec (.tokenPeriodCheck period) s = .next (clkNoted 22 0x1115 ((s.set F.CLK_TOKEN.TOKEN_PER period.toNat).set F.CLK_STAT.TOKEN_ERR 1)) :=
      congrArg Host.Outcome.next ((if_neg (by simp [hup, hlink])).trans (if_pos hper))
    refine ⟨_, hrun, ?_, ?_, clkNoted_code rfl (by decide) _, execTokenPeriodCheck_mask rfl rfl rfl rfl period s hrun⟩
    · rw [clkNoted_get rfl (by decide), State.get_set_clear (by decide), State.get_set_fits (by decide) period.isLt]
    · rw [clkNoted_get rfl (by decide), State.get_set_one _ _ _ _ _ (by decide) (by decide)]
  case relock =>
    have hne' : mask.toNat ≠ 0 := fun h => hne (BitVec.eq_of_toNat_eq h)
    have hrun : exec (.pllRelock m mask) s = .next ((relockBegun mask.toNat s).answer .done) :=
      congrArg Host.Outcome.next ((if_neg (by simp [hw, hready])).trans (congrArg (·.answer .done) (relock_of_ok mask.isLt hne' hrelock)))
    obtain ⟨h1, h2⟩ := relockBegun_shows mask.isLt s
    obtain ⟨h3, h4⟩ := relockBegun_state mask.toNat s
    refine ⟨_, hrun, (State.get_answer _ _ _ _ _ _).trans h1, ?_, ?_, (State.get_answer _ _ _ _ _ _).trans h2, rfl, fun a ha => ?_,
      execPllRelock_mask rfl rfl rfl rfl m mask s hrun⟩
    · rw [State.answer_fab, h3]
    · rw [State.answer_olt, h4]
    · rw [State.rd_of_regs (State.answer_regs _ _)]
      exact relockBegun_rd (fun e => ha (e ▸ List.mem_cons_self)) (fun e => ha (e ▸ List.mem_cons_of_mem _ List.mem_cons_self)) _ _
  case refused =>
    have hne' : mask.toNat ≠ 0 := fun h => hne (BitVec.eq_of_toNat_eq h)
    exact ⟨_, congrArg Host.Outcome.next ((if_neg (by simp [hw, hready])).trans (congrArg (·.answer .done) (relock_of_refused mask.isLt hne' hrelock))), rfl⟩
  case locked =>
    have hrun : exec (.pllRelockDone p true) s = .next (if left = 0 then oltEnd 0 (relockLeft left s) else relockLeft left s) :=
      execPllRelockDone_of_locked hbusy hhold
    have hshown : (relockLeft left s).get F.CLK_CFG.RELOCK_BUSY = left % 16 :=
      (State.get_of_regs (relockLeft_regs _ _) _ _ _ _).trans (State.get_set_self _ _ _ _ _ _ (by decide) (by decide))
    refine ⟨_, hrun, ?_, ?_, fun hleft => ?_, fun hleft => ?_, execPllRelockDone_mask rfl rfl rfl rfl rfl p true s hrun⟩
    · split
      · exact oltEnd_relocking _ _
      · rfl
    · split
      · exact (State.get_of_rd (oltEnd_rd (by decide) _ _)).trans hshown
      · exact hshown
    · rw [if_neg hleft, relockLeft_olt]
    · rw [if_pos hleft]
      exact ⟨oltEnd_test _ _, oltEnd_shows (by decide) _⟩
  case lost =>
    have hlock' : (relockLeft left s).bit F.CLK_STAT.LOCK p.val = true := (State.bit_of_get (relockLeft_get (by decide) left s) p.val).trans hlock
    have hunlock := pllUnlock_of_locked ((clocksUp_relockLeft left s).trans hup) hlock'
    have hrun : exec (.pllRelockDone p false) s = .next (if left = 0 then oltEnd 1 (clkNoted 21 0x1113 (unlocked p.val (relockLeft left s)))
        else clkNoted 21 0x1113 (unlocked p.val (relockLeft left s))) := by
      rw [← hunlock]
      exact execPllRelockDone_of_unlocked hbusy
    have hbits := unlocked_bits hp (relockLeft left s) p.val
    rw [if_pos rfl, if_pos rfl] at hbits
    obtain ⟨hcode, hfault⟩ := clkNoted_code (n := 21) (code := 0x1113) rfl (by decide) (unlocked p.val (relockLeft left s))
    have hend : ∀ {f : Fld}, f.addr 0 0 0 ≠ 0x30150100 ∧ f.addr 0 0 0 ≠ 0x30150104 →
        (oltEnd 1 (clkNoted 21 0x1113 (unlocked p.val (relockLeft left s)))).get f = (clkNoted 21 0x1113 (unlocked p.val (relockLeft left s))).get f :=
      fun hf => State.get_of_rd (oltEnd_rd hf _ _)
    have hrelocking : (clkNoted 21 0x1113 (unlocked p.val (relockLeft left s))).fab.relocking = left := by
      rw [clkNoted_fab]
      rfl
    refine ⟨_, hrun, ?_, ?_, ?_, ⟨?_, ?_⟩, fun hleft => ?_, execPllRelockDone_mask rfl rfl rfl rfl rfl p false s hrun⟩
    · split
      · exact (oltEnd_relocking _ _).trans hrelocking
      · exact hrelocking
    · split
      · exact (State.bit_of_get (hend (by decide)) _).trans ((clkNoted_bit rfl (by decide) _ _ _).trans hbits.1)
      · exact (clkNoted_bit rfl (by decide) _ _ _).trans hbits.1
    · split
      · exact (State.bit_of_get (hend (by decide)) _).trans ((clkNoted_bit rfl (by decide) _ _ _).trans hbits.2)
      · exact (clkNoted_bit rfl (by decide) _ _ _).trans hbits.2
    · split
      · exact (hend (by decide)).trans hcode
      · exact hcode
    · split
      · rw [oltEnd_sys, hfault]
      · exact hfault
    · rw [if_pos hleft]
      exact ⟨oltEnd_test _ _, (oltEnd_shows (by decide) _).2⟩
  case stale =>
    have hrun : exec (.crossingStale c) s = .next (staleNoted c.val s) := execCrossingStale_of_fresh hon hfresh hnone
    obtain ⟨h1, h2⟩ := staleShown_bits c.isLt s
    refine ⟨_, hrun, (State.bit_of_get (State.get_of_regs (staleNoted_regs _ _) _ _ _ _) _).trans h1,
      (State.bit_of_get (State.get_of_regs (staleNoted_regs _ _) _ _ _ _) _).trans h2, staleNoted_lastFault _ _,
      fun a ha => staleNoted_rd (fun e => ha (List.mem_singleton.mpr e)) _ _, execCrossingStale_mask rfl rfl rfl rfl rfl rfl rfl rfl c s hrun⟩
  case fresh =>
    have hrun : exec (.crossingRecovered c) s = .next (recovered c.val s) := execCrossingRecovered_of_stale hon hstale
    have hrd := recovered_rd stale_ne_source c.val s
    refine ⟨_, hrun, ?_, ?_, fun hready k hk => ?_, fun a ha => ?_, execCrossingRecovered_mask rfl c s hrun⟩
    · rw [State.bit_of_get (State.get_of_rd (f := F.CDC_STALE.STALE) hrd), State.bit_setBit_self _ _ _ _ _ _ _ c.isLt (by decide)]
    · rw [State.get_of_rd (f := F.CDC_STALE.STALE_SEEN) hrd, State.get_setBit_clear (by decide)]
    · rw [recovered, if_pos hready, sourcesFresh_shows hk]
    · rw [recovered_rd (fun k => ha _ (List.mem_cons_of_mem _ List.mem_cons_self) k 0 0)]
      exact set_quiet _ _ _ _ _ _ _ (ha _ List.mem_cons_self 0 0 0)
  case ts =>
    have hrun : exec (.tsLoRead m) s = .next (tsLoRead s) := congrArg Host.Outcome.next (if_pos (by simp [hr, hready]))
    refine ⟨_, hrun, ?_, rfl, fun a ha => set_quiet _ _ _ _ _ _ _ (fun e => ha (List.mem_singleton.mpr e)), execTsLoRead_mask rfl rfl m s hrun⟩
    exact (State.get_answer _ _ _ _ _ _).trans (State.get_set_fits (by decide) (Nat.mod_lt _ (by decide)) _ _ _ _)
  case noTs => exact ⟨_, congrArg Host.Outcome.next (if_neg (by simp [hr])), rfl⟩

end Sys2Proof.Machine

/-! ## Online tests, the controllers' loopback tests and software slices (R564 to R569). -/

namespace Sys2Proof.Machine
open Sys2Proof

section
variable {s t u : State} {m : Master} {k n p : Nat} {ok : Bool} {f : State → State}

/-! ### Requests (R566) -/

/-- A checked output, or debug at L3, asks for a test while none runs. -/
structure OltAsks (s : State) (m : Master) : Prop where
  writer : s.regWriter m = true
  powered : s.pdReady 8 = true
  source : checkedOutput m = true ∨ m = .debug
  free : s.olt.test = none
  idle : s.get F.DBG_OLT_REQ.BUSY = 0

theorem OltAsks.source_ok (h : OltAsks s m) : (checkedOutput m || m == .debug) = true := by
  rcases h.source with h | h <;> simp [h]

theorem OltAsks.idleB (h : OltAsks s m) : s.getB F.DBG_OLT_REQ.BUSY = false := by
  rw [State.getB, h.idle]
  rfl

theorem oltRequest_of_ok (h : OltAsks s m) (f : State → State) : oltRequest m true f s = (f s).answer .done := by
  refine (if_neg (by simp [h.writer, h.powered])).trans (if_neg ?_)
  simp only [h.source_ok, h.free, h.idleB]
  decide

theorem oltRequest_of_refused (h : OltAsks s m) (f : State → State) : oltRequest m false f s = (s.set F.DBG_OLT_REQ.REQ_REF 1).answer .done := by
  refine (if_neg (by simp [h.writer, h.powered])).trans (if_pos ?_)
  exact Bool.or_true _

/-- A test that only begins: what the requester sees. -/
theorem oltBegin_answered (kind target : Nat) (s : State) :
    (((oltBegin kind target s).answer .done).olt = { s.olt with test := some (kind, target) } ∧
      ((oltBegin kind target s).answer .done).get F.DBG_OLT_REQ.BUSY = 1 ∧ ((oltBegin kind target s).answer .done).resp = .done) ∧
    RegsOnly [F.DBG_OLT_REQ.BUSY.addr 0 0 0] s ((oltBegin kind target s).answer .done) := by
  obtain ⟨hbusy, hregs, holt⟩ := oltBegin_shows kind target s
  refine ⟨⟨?_, ?_, rfl⟩, fun a ha => ?_⟩
  · rw [State.answer_olt, holt]
  · rw [State.get_answer, hbusy]
  · rw [State.rd_of_regs (State.answer_regs _ _), State.rd_of_regs hregs]
    exact set_quiet _ _ _ _ _ _ _ (fun e => ha (List.mem_singleton.mpr e))

theorem logicTest_regs (p : Nat) (s : State) : (logicTest p s).regs = ((s.set F.DBG_OLT_REQ.BUSY 1).set F.SPX_STAT.STATE 3 p).regs := by
  rw [logicTest]
  exact (regs_of_mask (K := { sup := true, chg := true, xcp := true }) rfl (firmwareLost_mask rfl rfl rfl _ _)).trans rfl

theorem logicTest_shows (p : Nat) (s : State) : (logicTest p s).olt = { s.olt with test := some (1, p), logicTs := s.fab.ts } ∧
    (logicTest p s).get F.DBG_OLT_REQ.BUSY = 1 ∧ (logicTest p s).get F.SPX_STAT.STATE p = 3 ∧ (logicTest p s).pairSt p = {} := by
  have haddr : F.DBG_OLT_REQ.BUSY.addr 0 0 0 ≠ F.SPX_STAT.STATE.addr p 0 0 := by
    simp only [Fld.addr, F.DBG_OLT_REQ.BUSY, F.SPX_STAT.STATE]
    omega
  refine ⟨olt_of_mask (K := { sup := true, chg := true, xcp := true }) rfl (firmwareLost_mask rfl rfl rfl _ _), ?_, ?_, ?_⟩
  · rw [State.get_of_regs (logicTest_regs _ _), State.get_set_addr _ _ _ _ _ _ _ _ _ _ haddr, State.get_set_one _ _ _ _ _ (by decide) (by decide)]
  · rw [State.get_of_regs (logicTest_regs _ _), State.get_set_fits (by decide) (by decide)]
  · rw [logicTest, State.pairSt_of_spx (firmwareLost_spx _ _), State.pairSt_set]
    exact State.pairSt_setPair s p {}

theorem lowestBit_two_pow (k : Fin 4) : lowestBit (2 ^ k.val) = k.val := by revert k; decide

/-! ### The ends of tests (R566 to R569) -/

theorem oltDone_of_march {b : Nat} (h : s.olt.test = some (2, b)) : oltDone .pass s = oltEnd 0 s ∧
    ∀ ws, oltDone (.fail ws) s = oltEnd 1 (marchFailed (ws.map (fun w => 0x10000000 + b * 0x100000 + w % 0x100000)) s) := by
  refine ⟨?_, fun ws => ?_⟩
  · rw [oltDone, h]
    rfl
  · rw [oltDone, h]
    rfl

theorem oltDone_of_logic (h : s.olt.test = some (1, p)) : oltDone .pass s = oltEnd 0 (pairRestart p s) ∧
    ∀ ws, oltDone (.fail ws) s = oltEnd 1 (issue 0x1401 4 (s.set F.SPX_STAT.STATE 3 p)) := by
  refine ⟨?_, fun ws => ?_⟩
  · rw [oltDone, h]
    rfl
  · rw [oltDone, h]
    rfl

/-- What the end of any test shows. -/
theorem oltEnd_ended {r : Nat} (hr : r < 256) (s : State) :
    (oltEnd r s).olt.test = none ∧ (oltEnd r s).get F.DBG_OLT_REQ.BUSY = 0 ∧ (oltEnd r s).get F.DBG_OLT_REQ.RESULT = r :=
  ⟨oltEnd_test r s, oltEnd_shows hr s⟩

theorem oltEnd_failCount (s : State) : (oltEnd 1 s).get F.DBG_OLT_STAT.FAIL_CNT = min (s.get F.DBG_OLT_STAT.FAIL_CNT + 1) 255 := by
  have hended : (testEnded 1 s).get F.DBG_OLT_STAT.FAIL_CNT = s.get F.DBG_OLT_STAT.FAIL_CNT := by
    rw [State.get_of_regs (testEnded_regs _ _), State.get_set_clear (by decide), State.get_set_clear (by decide)]
  rw [oltEnd_eq, if_pos rfl, raise_get_fabric (by decide), State.get_bump_own (by decide) (by decide), hended]
  rfl

theorem oltEnd_pairState (r p : Nat) (s : State) : (oltEnd r s).get F.SPX_STAT.STATE p = s.get F.SPX_STAT.STATE p := by
  refine State.get_of_rd (oltEnd_rd ?_ _ _)
  simp only [Fld.addr, F.SPX_STAT.STATE]
  omega

theorem oltEnd_spx (r : Nat) (s : State) : (oltEnd r s).spx = s.spx :=
  spx_of_mask (K := { regs := true, fab := true, olt := true }) rfl (oltEnd_mask rfl rfl rfl r s)

theorem oltEnd_mem_same (r : Nat) (s : State) : (oltEnd r s).mem = s.mem :=
  mem_of_mask (K := { regs := true, fab := true, olt := true }) rfl (oltEnd_mask rfl rfl rfl r s)

theorem State.poisoned_of_poison (h : t.fab.poison = s.fab.poison) (k : Nat) : t.poisoned k = s.poisoned k := by
  rw [State.poisoned, h, State.poisoned]

theorem oltEnd_poisoned (r k : Nat) (s : State) : (oltEnd r s).poisoned k = s.poisoned k := by
  have hended : (testEnded r s).poisoned k = s.poisoned k := by
    rw [testEnded, raise_poisoned]
    exact State.poisoned_of_poison rfl k
  have hbump : ((testEnded r s).bump F.DBG_OLT_STAT.FAIL_CNT F.DBG_OLT_STAT.SAT).fab = (testEnded r s).fab :=
    fab_of_mask (K := { regs := true }) rfl (bump_mask rfl _ _ _ _ _ _ _)
  rw [oltEnd_eq]
  split
  · rw [raise_poisoned, State.poisoned_of_poison (congrArg FabricSt.poison hbump), hended]
  · exact hended

/-- Poisoning a word leaves the others poisoned. -/
theorem poisonWord_keeps {x : Nat} (h : s.poisoned x = true) (k : Nat) : (poisonWord k s).poisoned x = true := by
  unfold poisonWord
  split
  · exact h
  · rw [State.poisoned, List.contains_cons]
    exact (congrArg (_ || ·) h).trans (Bool.or_true _)

theorem marchFailed_poisoned {x : Nat} {words : List Nat} (hx : x ∈ words) (s : State) : (marchFailed words s).poisoned x = true := by
  have hissue : (marchFailed words s).fab = (words.foldl (fun s k => poisonWord k s) s).fab := by rw [marchFailed, issue_report]
  rw [State.poisoned_of_poison (congrArg FabricSt.poison hissue)]
  exact foldl_attains (P := fun t => t.poisoned x = true) (f := fun s k => poisonWord k s) hx (fun s => poisonWord_poisoned x s)
    (fun y _ h => poisonWord_keeps h y) s

theorem marchFailed_get (words : List Nat) (g : Fld) (s : State) : (marchFailed words s).get g = s.get g := by
  have hregs : (words.foldl (fun s k => poisonWord k s) s).regs = s.regs :=
    foldl_keeps State.regs _ _ (fun k _ s => regs_of_mask (K := { fab := true }) rfl (poisonWord_mask rfl k s)) s
  rw [marchFailed, issue_get, State.get_of_regs hregs]

/-! ### Loopback tests (R564, R471) -/

theorem loopbackBegin_bit {n : Nat} (hn : n < 4) (s : State) (j : Nat) :
    (loopbackBegin n s).bit F.DBG_OLT_CAN.IN_TEST j = if j = n then true else s.bit F.DBG_OLT_CAN.IN_TEST j :=
  State.bit_setBit (by decide) (by simp only [F.DBG_OLT_CAN.IN_TEST]; omega) s true j

/-- TEST_REQ for one controller. -/
def testAsked (mask : Nat) (s : State) (n : Nat) : State :=
  if !mask.testBit n then s
  else if s.getB F.CAN_CTL.EN n || !s.pdReady 9 then s.set F.DBG_OLT_REQ.REQ_REF 1
  else loopbackBegin n s

theorem testRequest_eq (mask : Nat) (s : State) : testRequest mask s = (List.range 4).foldl (testAsked mask) s := rfl

theorem testAsked_rd {a : Nat} (h1 : a ≠ F.DBG_OLT_CAN.IN_TEST.addr 0 0 0) (h2 : a ≠ F.DBG_OLT_REQ.REQ_REF.addr 0 0 0) (mask : Nat) (s : State) (n : Nat) :
    (testAsked mask s n).rd a = s.rd a := by
  unfold testAsked
  split
  · rfl
  · split
    · exact set_quiet _ _ _ _ _ _ _ h2
    · exact set_quiet _ _ _ _ _ _ _ h1

theorem testAsked_en (mask : Nat) (s : State) (n j : Nat) : (testAsked mask s n).getB F.CAN_CTL.EN j = s.getB F.CAN_CTL.EN j := by
  refine State.getB_of_get (State.get_of_rd (testAsked_rd ?_ ?_ _ _ _)) <;>
    simp only [Fld.addr, F.CAN_CTL.EN, F.DBG_OLT_CAN.IN_TEST, F.DBG_OLT_REQ.REQ_REF] <;> omega

theorem testAsked_pdReady (mask : Nat) (s : State) (n : Nat) : (testAsked mask s n).pdReady 9 = s.pdReady 9 :=
  State.pdReady_of_rd (by decide) (testAsked_rd (by decide) (by decide) _ _ _)

theorem testAsked_bit {mask : Nat} (hn : n < 4) (hready : s.pdReady 9 = true) (j : Nat) : (testAsked mask s n).bit F.DBG_OLT_CAN.IN_TEST j =
    (s.bit F.DBG_OLT_CAN.IN_TEST j || (j == n && (mask.testBit j && !s.getB F.CAN_CTL.EN j))) := by
  unfold testAsked
  by_cases hj : j = n
  · subst hj
    cases hm : mask.testBit j with
    | false => simp
    | true =>
      cases hen : s.getB F.CAN_CTL.EN j with
      | true => simpa using State.bit_of_get (State.get_set_clear (by decide) s 1) j
      | false => simpa [hready] using (loopbackBegin_bit hn s j).trans (if_pos rfl)
  · have hne : (j == n) = false := by simpa using hj
    rw [hne, Bool.false_and, Bool.or_false]
    split
    · rfl
    · split
      · exact State.bit_of_get (State.get_set_clear (by decide) s 1) j
      · exact (loopbackBegin_bit hn s j).trans (if_neg hj)

/-- The controllers of a list whose EN is clear and whose bit is set begin their tests. -/
theorem testsAsked_bit {mask : Nat} {l : List Nat} (hl : ∀ n ∈ l, n < 4) (hready : s.pdReady 9 = true) (j : Nat) :
    (l.foldl (testAsked mask) s).bit F.DBG_OLT_CAN.IN_TEST j =
      (s.bit F.DBG_OLT_CAN.IN_TEST j || (l.contains j && (mask.testBit j && !s.getB F.CAN_CTL.EN j))) := by
  induction l generalizing s with
  | nil => simp
  | cons n r ih =>
    rw [List.foldl_cons, ih (fun x hx => hl x (List.mem_cons_of_mem _ hx)) ((testAsked_pdReady _ _ _).trans hready), testAsked_en,
      testAsked_bit (hl n List.mem_cons_self) hready, List.contains_cons, Bool.or_assoc, ← Bool.and_or_distrib_right]

theorem testAsked_refusal_kept {mask : Nat} (h : s.get F.DBG_OLT_REQ.REQ_REF = 1) (n : Nat) : (testAsked mask s n).get F.DBG_OLT_REQ.REQ_REF = 1 := by
  unfold testAsked
  split
  · exact h
  · split
    · exact State.get_set_one _ _ _ _ _ (by decide) (by decide)
    · exact (State.get_setBit_clear (by decide) s true).trans h

/-- A controller that is enabled refuses the request. -/
theorem testsAsked_refused {mask j : Nat} {l : List Nat} (hj : j ∈ l) (hm : mask.testBit j = true) (hen : s.getB F.CAN_CTL.EN j = true) :
    (l.foldl (testAsked mask) s).get F.DBG_OLT_REQ.REQ_REF = 1 := by
  induction l generalizing s with
  | nil => cases hj
  | cons n r ih =>
    rw [List.foldl_cons]
    rcases List.mem_cons.mp hj with rfl | hr
    · have hstep : (testAsked mask s j).get F.DBG_OLT_REQ.REQ_REF = 1 := by
        rw [testAsked, hm, hen]
        exact State.get_set_one _ _ _ _ _ (by decide) (by decide)
      exact foldl_invariant (P := fun t => t.get F.DBG_OLT_REQ.REQ_REF = 1) (fun x _ _ h => testAsked_refusal_kept h x) hstep
    · exact ih hr ((testAsked_en _ _ _ _).trans hen)

theorem testsAsked_rd {a : Nat} (h1 : a ≠ F.DBG_OLT_CAN.IN_TEST.addr 0 0 0) (h2 : a ≠ F.DBG_OLT_REQ.REQ_REF.addr 0 0 0) (mask : Nat) (l : List Nat) (s : State) :
    (l.foldl (testAsked mask) s).rd a = s.rd a := foldl_keeps (·.rd a) _ _ (fun n _ s => testAsked_rd h1 h2 mask s n) s

theorem range_contains (j : Fin 4) : (List.range 4).contains j.val = true := by revert j; decide

/-- The test is over; a write of EN meanwhile is no longer owed. -/
def loopbackOver (n : Nat) (s : State) : State :=
  (s.setBit F.DBG_OLT_CAN.IN_TEST n false).setCan n { s.can n with enAfter := false }

theorem loopbackOver_regs (n : Nat) (s : State) : (loopbackOver n s).regs = (s.setBit F.DBG_OLT_CAN.IN_TEST n false).regs := rfl

theorem loopbackOver_can (n : Nat) (s : State) : (loopbackOver n s).can n = { s.can n with enAfter := false } := State.can_setCan _ _ _

theorem loopbackOver_reel (n : Nat) (s : State) : (loopbackOver n s).bus.reel = s.bus.reel := rfl

theorem loopbackOver_bit {n : Nat} (hn : n < 4) (s : State) : (loopbackOver n s).bit F.DBG_OLT_CAN.IN_TEST n = false := by
  rw [State.bit_of_get (State.get_of_regs (loopbackOver_regs _ _) _ _ _ _),
    State.bit_setBit_self _ _ _ _ _ _ _ (by simp only [F.DBG_OLT_CAN.IN_TEST]; omega) (by decide)]

theorem loopbackOver_get {g : Fld} {i : Nat} (hg : g.addr i 0 0 ≠ F.DBG_OLT_CAN.IN_TEST.addr 0 0 0) (n : Nat) (s : State) :
    (loopbackOver n s).get g i = s.get g i := by
  rw [State.get_of_regs (loopbackOver_regs _ _)]
  exact State.get_set_addr _ _ _ _ _ _ _ _ _ _ hg

theorem can_ne_oltCan {a : Nat} (n : Nat) (ha : a = 0x30140000 + 16384 * n ∨ a = 0x30140004 + 16384 * n) : a ≠ F.DBG_OLT_CAN.IN_TEST.addr 0 0 0 := by
  simp only [Fld.addr, F.DBG_OLT_CAN.IN_TEST]
  omega

theorem loopbackOver_state (n : Nat) (s : State) : canState (loopbackOver n s) n = canState s n ∧
    (loopbackOver n s).getB F.CAN_CTL.EN n = s.getB F.CAN_CTL.EN n := by
  refine ⟨loopbackOver_get (can_ne_oltCan n ?_) n s, State.getB_of_get (loopbackOver_get (can_ne_oltCan n ?_) n s)⟩ <;>
    simp only [Fld.addr, F.CAN_STAT.STATE, F.CAN_CTL.EN] <;> omega

theorem loopbackEnd_eq (ok : Bool) (h : s.bit F.DBG_OLT_CAN.IN_TEST n = true) : loopbackEnd n ok s =
    if !ok then canFail n ((loopbackOver n s).setBit F.DBG_OLT_CAN.LAST_FAIL n true)
    else if (s.can n).enAfter && (loopbackOver n s).getB F.CAN_CTL.EN n && canState (loopbackOver n s) n == 0 then setCanState n 1 (loopbackOver n s)
    else loopbackOver n s := if_neg (by simp [h])

/-- The state of a controller that passes its test. -/
def loopbackPassed (n : Nat) (s : State) : State :=
  if (s.can n).enAfter = true ∧ s.getB F.CAN_CTL.EN n = true ∧ canState s n = 0 then setCanState n 1 (loopbackOver n s) else loopbackOver n s

theorem loopbackEnd_of_pass (h : s.bit F.DBG_OLT_CAN.IN_TEST n = true) : loopbackEnd n true s = loopbackPassed n s := by
  obtain ⟨hstate, hen⟩ := loopbackOver_state n s
  rw [loopbackEnd_eq true h, if_neg (by decide), hstate, hen, loopbackPassed]
  exact if_congr (by simp [and_assoc]) rfl rfl

theorem loopbackPassed_shows (hn : n < 4) (s : State) : (loopbackPassed n s).bit F.DBG_OLT_CAN.IN_TEST n = false ∧
    ((loopbackPassed n s).can n).enAfter = false ∧ canState (loopbackPassed n s) n =
      (if (s.can n).enAfter = true ∧ s.getB F.CAN_CTL.EN n = true ∧ canState s n = 0 then 1 else canState s n) := by
  obtain ⟨hstate, -⟩ := loopbackOver_state n s
  unfold loopbackPassed
  split
  · refine ⟨?_, ?_, State.get_set_fits (by decide) (by decide) _ _ _ _⟩
    · have haddr : F.DBG_OLT_CAN.IN_TEST.addr 0 0 0 ≠ F.CAN_STAT.STATE.addr n 0 0 := by
        simp only [Fld.addr, F.DBG_OLT_CAN.IN_TEST, F.CAN_STAT.STATE]
        omega
      rw [setCanState, State.bit_of_get (State.get_set_addr _ _ _ _ _ _ _ _ _ _ haddr), loopbackOver_bit hn]
    · rw [setCanState, State.can_set, loopbackOver_can]
  · exact ⟨loopbackOver_bit hn s, congrArg CanSt.enAfter (loopbackOver_can n s), hstate⟩

/-- A controller has failed (R471). -/
def controllerFailed (n : Nat) (s : State) : State :=
  let s := (setCanState n 7 s).set F.CAN_STAT.TX_BUSY 0 n
  let s := s.setReel { s.bus.reel with moved := s.bus.reel.moved ++ [n] }
  let s := raise 208 (issue 0x1014 0 s)
  raise 233 ((s.set F.DBG_OLT_STAT.CAN_ALT 1).bump F.DBG_OLT_STAT.SUBST_CNT F.DBG_OLT_STAT.SAT)

theorem canFail_of_working (h : canState s n ≠ 7) : canFail n s = controllerFailed n s := if_neg h

theorem controllerFailed_rd {a : Nat} (h1 : 0x30030000 ≤ a) (h2 : a ≠ F.CAN_STAT.STATE.addr n 0 0) (h3 : a ≠ 0x30150100) (s : State) :
    (controllerFailed n s).rd a = s.rd a := by
  have hissue : ∀ u : State, (raise 208 (issue 0x1014 0 u)).rd a = u.rd a := fun u => (raise_above (by decide) h1 _).trans (issue_rd _ _ _ _)
  rw [controllerFailed, raise_above (by decide) h1, State.rd_bump_ne h3 h3, set_quiet _ _ _ _ _ _ _ h3, hissue, State.rd_of_regs (State.setReel_regs _ _)]
  exact (set_quiet _ F.CAN_STAT.TX_BUSY _ _ _ _ _ h2).trans (set_quiet _ _ _ _ _ _ _ h2)

theorem controllerFailed_state (n : Nat) (s : State) : canState (controllerFailed n s) n = 7 := by
  have haddr : F.CAN_STAT.STATE.addr n 0 0 ≠ 0x30150100 := by
    simp only [Fld.addr, F.CAN_STAT.STATE]
    omega
  have hclear : ∀ u : State, ((u.set F.DBG_OLT_STAT.CAN_ALT 1).bump F.DBG_OLT_STAT.SUBST_CNT F.DBG_OLT_STAT.SAT).get F.CAN_STAT.STATE n = u.get F.CAN_STAT.STATE n :=
    fun u => State.get_of_rd ((State.rd_bump_ne haddr haddr).trans (set_quiet _ _ _ _ _ _ _ haddr))
  rw [canState, controllerFailed, raise_get_fabric (by decide), hclear, raise_get_fabric (by decide), issue_get, State.get_of_regs (State.setReel_regs _ _),
    State.get_set_clear (by decide), setCanState, State.get_set_fits (by decide) (by decide)]

theorem controllerFailed_shows (n : Nat) (s : State) : (controllerFailed n s).get F.DBG_OLT_STAT.CAN_ALT = 1 ∧
    (controllerFailed n s).bus.reel.moved = s.bus.reel.moved ++ [n] ∧ (controllerFailed n s).sys.lastFault = 0x1014 := by
  refine ⟨?_, ?_, ?_⟩
  · rw [controllerFailed, raise_get_fabric (by decide), State.get_bump_clear (by decide) (by decide), State.get_set_one _ _ _ _ _ (by decide) (by decide)]
  · rw [controllerFailed, raise_bus, State.bump_bus, State.set_bus, raise_bus, issue_bus]
    rfl
  · rw [controllerFailed, raise_sys, State.bump_sys, State.set_sys, raise_sys, issue_lastFault]

/-- The state before a controller that fails its test is failed. -/
def loopbackMissed (n : Nat) (s : State) : State := (loopbackOver n s).setBit F.DBG_OLT_CAN.LAST_FAIL n true

theorem loopbackMissed_state (n : Nat) (s : State) : canState (loopbackMissed n s) n = canState s n := by
  refine Eq.trans (State.get_set_addr _ _ _ _ _ _ _ _ _ _ ?_) (loopbackOver_state n s).1
  simp only [Fld.addr, F.CAN_STAT.STATE, F.DBG_OLT_CAN.LAST_FAIL]
  omega

theorem loopbackEnd_of_fail (h : s.bit F.DBG_OLT_CAN.IN_TEST n = true) (hstate : canState s n ≠ 7) :
    loopbackEnd n false s = controllerFailed n (loopbackMissed n s) := by
  rw [loopbackEnd_eq false h, if_pos (by decide)]
  exact canFail_of_working (fun e => hstate ((loopbackMissed_state n s).symm.trans e))

theorem loopbackMissed_bits (hn : n < 4) (s : State) : (loopbackMissed n s).bit F.DBG_OLT_CAN.IN_TEST n = false ∧
    (loopbackMissed n s).bit F.DBG_OLT_CAN.LAST_FAIL n = true := by
  refine ⟨?_, ?_⟩
  · rw [loopbackMissed, State.bit_setBit_clear (by decide), loopbackOver_bit hn]
  · rw [loopbackMissed, State.bit_setBit_self _ _ _ _ _ _ _ (by simp only [F.DBG_OLT_CAN.LAST_FAIL]; omega) (by decide)]

theorem loopbackMissed_reel (n : Nat) (s : State) : (loopbackMissed n s).bus.reel = s.bus.reel := loopbackOver_reel n s

/-! ### Software slices (R565) -/

theorem sliceResult_of_output (h : checkedOutput m = true) (v : Word) (s : State) : sliceResult m v s =
    if v.getLsbD 0 then s.set F.DBG_OLT_SW.SW_CLASS (getBits v 3 1)
    else issue 0x1403 ((s.set F.DBG_OLT_SW.SW_CLASS (getBits v 3 1)).get F.DBG_OLT_SW.SW_CLASS) (s.set F.DBG_OLT_SW.SW_CLASS (getBits v 3 1)) :=
  if_neg (by simp [h])

end

/-- Settles O35: requests pass one gate, ends go through `oltEnd`, and the loopback's bits follow EN. -/
theorem onlineTests : Obligations.OnlineTests := by
  unfold Obligations.OnlineTests
  intro s m p b w k n ok ws mask v
  extract_lets asks src begun req ended
  have hn := n.isLt
  have hasks : asks → OltAsks s m := fun ⟨h1, h2, h3, h4, h5⟩ => ⟨h1, h2, h3, h4, h5⟩
  refine ⟨fun ha hok => ?logic, fun ha hok => ?sram, fun ha hok => ?sramRefused, fun ha hok => ?whorl, fun ha hok => ?relock,
    fun ha hmode hready hidle => ?tinder, fun hready htest => ?marchPass, fun hready htest => ?marchFail, fun hready htest => ?logicFail,
    fun hready htest => ?logicPass, fun h8 h9 hrel hen hstate => ?loopback, fun hw h8 h9 => ?testReq, fun hw h8 hout hpass => ?slicePass,
    fun hw h8 hout hfail => ?sliceFail, fun hw h8 hout => ?sliceIgnored, fun h8 h9 htest => ⟨?loopPass, fun hstate => ?loopFail⟩⟩
  case logic =>
    have hrun : exec (.logicSelfTest m p) s = .next ((logicTest p.val s).answer .done) :=
      congrArg Host.Outcome.next ((congrArg (oltRequest m · _ s) hok).trans (oltRequest_of_ok (hasks ha) _))
    obtain ⟨h1, h2, h3, h4⟩ := logicTest_shows p.val s
    refine ⟨_, hrun, ?_, ?_, rfl, ?_, ?_, fun a hin => ?_, execLogicSelfTest_mask rfl rfl rfl rfl rfl rfl rfl m p s hrun⟩
    · rw [State.answer_olt, h1]
    · rw [State.get_answer, h2]
    · rw [State.get_answer, h3]
    · rw [State.pairSt_of_spx (State.answer_spx _ _), h4]
    · have hne1 : a ≠ F.SPX_STAT.STATE.addr p.val 0 0 := fun e => hin (e ▸ List.mem_cons_self)
      have hne2 : a ≠ F.DBG_OLT_REQ.BUSY.addr 0 0 0 := fun e => hin (e ▸ List.mem_cons_of_mem _ List.mem_cons_self)
      rw [State.rd_of_regs (State.answer_regs _ _), State.rd_of_regs (logicTest_regs _ _), set_quiet _ _ _ _ _ _ _ hne1, set_quiet _ _ _ _ _ _ _ hne2]
  case sram =>
    have hrun : exec (.sramMarch m b) s = .next ((oltBegin 2 b.val s).answer .done) :=
      congrArg Host.Outcome.next ((congrArg (oltRequest m · _ s) hok).trans (oltRequest_of_ok (hasks ha) _))
    obtain ⟨hbegun, honly⟩ := oltBegin_answered 2 b.val s
    exact ⟨_, hrun, hbegun, honly, execSramMarch_mask rfl rfl rfl m b s hrun⟩
  case sramRefused =>
    exact ⟨_, congrArg Host.Outcome.next ((congrArg (oltRequest m · _ s) hok).trans (oltRequest_of_refused (hasks ha) _)), rfl⟩
  case whorl =>
    have hrun : exec (.whorlMarch m w) s = .next ((oltBegin 3 w.val s).answer .done) :=
      congrArg Host.Outcome.next ((congrArg (oltRequest m · _ s) hok).trans (oltRequest_of_ok (hasks ha) _))
    obtain ⟨hbegun, honly⟩ := oltBegin_answered 3 w.val s
    exact ⟨_, hrun, hbegun, honly, execWhorlMarch_mask rfl rfl rfl m w s hrun⟩
  case relock =>
    have hlt : 2 ^ k.val < 16 := Nat.pow_lt_pow_right (by decide) k.isLt
    have hrelock := relock_of_ok hlt (Nat.two_pow_pos _).ne' hok
    have hrun : exec (.oltPllRelock m k) s = .next ((relockBegun (2 ^ k.val) s).answer .done) :=
      congrArg Host.Outcome.next ((congrArg (oltRequest m · _ s) hok).trans ((oltRequest_of_ok (hasks ha) _).trans (congrArg (·.answer .done) hrelock)))
    obtain ⟨h1, h2⟩ := relockBegun_shows hlt s
    obtain ⟨h3, h4⟩ := relockBegun_state (2 ^ k.val) s
    rw [lowestBit_two_pow] at h4
    refine ⟨_, hrun, ⟨?_, ?_, rfl⟩, ?_, ?_, execOltPllRelock_mask rfl rfl rfl rfl m k s hrun⟩
    · rw [State.answer_olt, h4]
    · rw [State.get_answer, h2]
    · rw [State.get_answer, h1]
    · rw [State.answer_fab, h3]
  case tinder =>
    have hok : ([1, 2, 7].contains s.mode && s.pdReady 1 && s.tnd.serving.isNone) = true := by
      rcases hmode with h | h | h <;> rw [h, hready, hidle] <;> rfl
    have hrun : exec (.oltTinderSelfTest m ok) s = .next ((oltBegin 5 (if ok then 0 else 1) s).answer .done) :=
      congrArg Host.Outcome.next ((congrArg (oltRequest m · _ s) hok).trans (oltRequest_of_ok (hasks ha) _))
    obtain ⟨hbegun, honly⟩ := oltBegin_answered 5 (if ok then 0 else 1) s
    exact ⟨_, hrun, hbegun, honly, execOltTinderSelfTest_mask rfl rfl rfl m ok s hrun⟩
  case marchPass =>
    have hrun : exec (.oltTestDone .pass) s = .next (oltEnd 0 s) := congrArg Host.Outcome.next ((if_pos hready).trans (oltDone_of_march htest).1)
    exact ⟨_, hrun, oltEnd_ended (by decide) s, oltEnd_sys _ _, oltEnd_mem_same _ _,
      execOltTestDone_mask rfl rfl rfl rfl rfl rfl rfl rfl rfl rfl rfl rfl rfl rfl rfl .pass s hrun⟩
  case marchFail =>
    have hrun : exec (.oltTestDone (.fail ws)) s = .next (oltEnd 1 (marchFailed (ws.map (fun w => 0x10000000 + b.val * 0x100000 + w % 0x100000)) s)) :=
      congrArg Host.Outcome.next ((if_pos hready).trans ((oltDone_of_march htest).2 ws))
    refine ⟨_, hrun, oltEnd_ended (by decide) _, ?_, ?_, fun x hx => ?_, execOltTestDone_mask rfl rfl rfl rfl rfl rfl rfl rfl rfl rfl rfl rfl rfl rfl rfl (.fail ws) s hrun⟩
    · rw [oltEnd_failCount, marchFailed_get]
    · rw [oltEnd_sys, marchFailed, issue_lastFault]
    · rw [oltEnd_poisoned]
      exact marchFailed_poisoned (List.mem_map.mpr ⟨x, hx, rfl⟩) s
  case logicFail =>
    have hrun : exec (.oltTestDone (.fail ws)) s = .next (oltEnd 1 (issue 0x1401 4 (s.set F.SPX_STAT.STATE 3 p.val))) :=
      congrArg Host.Outcome.next ((if_pos hready).trans ((oltDone_of_logic htest).2 ws))
    refine ⟨_, hrun, oltEnd_ended (by decide) _, ?_, ?_, execOltTestDone_mask rfl rfl rfl rfl rfl rfl rfl rfl rfl rfl rfl rfl rfl rfl rfl (.fail ws) s hrun⟩
    · rw [oltEnd_pairState, issue_get, State.get_set_fits (by decide) (by decide)]
    · rw [oltEnd_sys, issue_lastFault]
  case logicPass =>
    have hrun : exec (.oltTestDone .pass) s = .next (oltEnd 0 (pairRestart p.val s)) :=
      congrArg Host.Outcome.next ((if_pos hready).trans (oltDone_of_logic htest).1)
    refine ⟨_, hrun, oltEnd_ended (by decide) _, ?_, ?_, execOltTestDone_mask rfl rfl rfl rfl rfl rfl rfl rfl rfl rfl rfl rfl rfl rfl rfl .pass s hrun⟩
    · rw [oltEnd_pairState, (pairRestart_shows _ _).1]
    · rw [State.pairSt_of_spx (oltEnd_spx _ _), pairRestart, State.pairSt_set, State.pairSt_of_spx (firmwareLost_spx _ _), State.pairSt_setPair]
  case loopback =>
    have hrun : exec (.canLoopbackTest n) s = .next (loopbackBegin n.val s) := congrArg Host.Outcome.next (if_pos (by simp [h8, h9, hrel, hen, hstate]))
    exact ⟨_, hrun, fun j => (loopbackBegin_bit hn s j.val).trans (ite_true_eq_or j n _), fun a ha => set_quiet _ _ _ _ _ _ _ (fun e => ha (List.mem_singleton.mpr e)),
      execCanLoopbackTest_mask rfl n s hrun⟩
  case testReq =>
    have hrun : exec (.canTestRequest m mask) s = .next ((testRequest mask.toNat s).answer .done) := congrArg Host.Outcome.next (if_neg (by simp [hw, h8]))
    refine ⟨_, hrun, fun j => ?_, fun ⟨j, hm, hen⟩ => ?_, rfl, fun a ha => ?_, execCanTestRequest_mask rfl rfl m mask s hrun⟩
    · rw [State.bit_answer, testRequest_eq, testsAsked_bit (fun n hn => List.mem_range.mp hn) h9, range_contains, Bool.true_and]
      rfl
    · rw [State.get_answer, testRequest_eq]
      exact testsAsked_refused (List.mem_range.mpr j.isLt) hm hen
    · have hne1 : a ≠ F.DBG_OLT_CAN.IN_TEST.addr 0 0 0 := fun e => ha (e ▸ List.mem_cons_self)
      have hne2 : a ≠ F.DBG_OLT_REQ.REQ_REF.addr 0 0 0 := fun e => ha (List.mem_cons_of_mem _ (List.mem_singleton.mpr e))
      rw [State.rd_of_regs (State.answer_regs _ _), testRequest_eq, testsAsked_rd hne1 hne2]
  case slicePass =>
    exact ⟨_, congrArg Host.Outcome.next ((if_pos (by simp [hw, h8])).trans (congrArg (·.answer .done) ((sliceResult_of_output hout v s).trans (if_pos hpass)))), rfl⟩
  case sliceFail =>
    have hrun : exec (.swSliceResult m v) s = .next ((issue 0x1403 ((s.set F.DBG_OLT_SW.SW_CLASS (getBits v 3 1)).get F.DBG_OLT_SW.SW_CLASS)
        (s.set F.DBG_OLT_SW.SW_CLASS (getBits v 3 1))).answer .done) :=
      congrArg Host.Outcome.next ((if_pos (by simp [hw, h8])).trans (congrArg (·.answer .done)
        ((sliceResult_of_output hout v s).trans (if_neg (Bool.eq_false_iff.mp hfail)))))
    have hbits : getBits v 3 1 < 2 ^ 3 := Nat.mod_lt _ (by decide)
    refine ⟨_, hrun, ?_, ?_, rfl, execSwSliceResult_mask rfl rfl rfl rfl m v s hrun⟩
    · rw [State.get_answer, issue_get, State.get_set_fits (by decide) hbits]
    · rw [State.answer_sys, issue_lastFault]
  case sliceIgnored =>
    exact ⟨_, congrArg Host.Outcome.next ((if_pos (by simp [hw, h8])).trans (congrArg (State.answer · .done) (if_pos (congrArg (!·) hout)))), rfl⟩
  case loopPass =>
    have hrun : exec (.loopbackTestEnd n true) s = .next (loopbackPassed n.val s) :=
      congrArg Host.Outcome.next ((if_pos (by simp [h8, h9])).trans (loopbackEnd_of_pass htest))
    obtain ⟨h1, h2, h3⟩ := loopbackPassed_shows hn s
    exact ⟨_, hrun, h1, h2, h3, execLoopbackTestEnd_mask rfl rfl rfl rfl rfl n true s hrun⟩
  case loopFail =>
    have hrun : exec (.loopbackTestEnd n false) s = .next (controllerFailed n.val (loopbackMissed n.val s)) :=
      congrArg Host.Outcome.next ((if_pos (by simp [h8, h9])).trans (loopbackEnd_of_fail htest hstate))
    have hcan : 0x30150108 ≠ F.CAN_STAT.STATE.addr n.val 0 0 := by
      simp only [Fld.addr, F.CAN_STAT.STATE]
      omega
    have hrd := controllerFailed_rd (by decide) hcan (by decide) (loopbackMissed n.val s)
    obtain ⟨h1, h2⟩ := loopbackMissed_bits hn s
    obtain ⟨h3, h4, h5⟩ := controllerFailed_shows n.val (loopbackMissed n.val s)
    refine ⟨_, hrun, ?_, ?_, controllerFailed_state _ _, h3, ?_, h5, execLoopbackTestEnd_mask rfl rfl rfl rfl rfl n false s hrun⟩
    · rw [State.bit_of_rd hrd, h1]
    · rw [State.bit_of_rd hrd, h2]
    · rw [h4, loopbackMissed_reel]

end Sys2Proof.Machine
